-- ==== Sys2Proof/Word.lean ====
section
/-!
DEFINITION. Words, and the kinds of operand that a command carries: the names by which the outside world tells the
controller what it did or measured.
-/
namespace Sys2Proof

/-- A register, 32 bits wide (R555). -/
abbrev Word := BitVec 32

/-- A byte. -/
abbrev Byte := BitVec 8

/-- How a write TLP reaches register space: its length in bytes, whether it starts on a 4-byte boundary, and whether it
is poisoned (R364, R428, R555). -/
structure WriteShape where
  bytes : Nat
  aligned : Bool
  poisoned : Bool
  deriving DecidableEq, Repr

/-- The whole, aligned, clean 4-byte write. -/
def WriteShape.word : WriteShape := ⟨4, true, false⟩

/-- Who accesses a register (R558): the host through one function, remote register access, or a processor by number. -/
inductive Requester where
  | host (f : Fin 4)
  | remote
  | processor (p : Fin 36)
  deriving DecidableEq, Repr

/-- How a completion for a controller read ends (R423): successful data, Unsupported Request, Completer Abort, or
poisoned data. -/
inductive CplStatus where
  | success | unsupported | abort | poisoned
  deriving DecidableEq, Repr

/-- The errors of the first two rows of R428. -/
inductive TlpError where
  | receiver | badTlp | badDllp | replay | ecrc | malformed | flowControl | overflow
  deriving DecidableEq, Repr

/-- The fields of configuration space that the manual names (R410, R412, R414, R416, R418, R560). -/
inductive CfgField where
  | vendorId | deviceId | classCode | revisionId | subsystemVendorId | subsystemId | serialNumber
  | memorySpaceEnable | maxPayloadSize | maxReadRequestSize | tenBitTagEnable | relaxedOrderingEnable
  | completionTimeoutValue | aspmControl | l11Enable | l12Enable | ltrThresholdUs | msixEnable | msixFunctionMask
  | aerStatus
  deriving DecidableEq, Repr

/-- An Mbalar packet (R438). -/
structure Packet where
  type : Nat
  flags : Nat
  dest : Nat
  src : Nat
  tag : Nat
  offset : Nat
  payload : List Nat
  deriving DecidableEq, Repr

/-- What arrives on an Mbalar link (R436): a frame with its sequence number and the bytes of its packet, or the partner's
acknowledgement or negative acknowledgement of a sequence number. -/
inductive LinkEvent where
  | frame (seq : Nat) (bytes : List Byte)
  | ack (seq : Nat)
  | nak (seq : Nat)
  deriving DecidableEq, Repr

/-- What a read lane takes in at one channel bit (R215, R216, R222, R228): the raw sample of its own beam interpolated at its instant, in
codes; the corrected samples of the pickup's other beams at theirs, in the order of the beams; the phase error of the bit, in channel
bits; whether the bit lies in the lane's own defect span, and in that of any beam of the pickup. -/
structure LaneBit where
  x : Rat
  others : List Rat
  phase : Rat
  defect : Bool
  anyDefect : Bool
  deriving DecidableEq, Repr

/-- The registers of a read lane whose writes are staged (R240). -/
inductive LaneReg where
  | ctrl | vga | ctf | offset | dgain | asym | align | target | coef (i : Fin 60)
  deriving DecidableEq, Repr

/-- What the inputs of an encoder did at a sample (R203). -/
inductive EncoderEdge where
  | up | down | both
  deriving DecidableEq, Repr

/-- What the beam ADC trim of one lane finds (R477): the trim codes, whether each search met its target, and the ENOB in 1/16 bit. -/
structure BeamTrim where
  offset : Nat
  offsetMet : Bool
  gain : Nat
  gainMet : Bool
  ctf : Nat
  ctfMet : Bool
  enob : Nat
  deriving DecidableEq, Repr

/-- What an Espresso calibration measures (R478): the metric of the five FOCUS and three TILT steps, EYE and MSE of the four lanes at both
optima. -/
structure EspressoRun where
  focus : List Rat
  tilt : List Rat
  eye : List Nat
  mse : List Nat
  deriving DecidableEq, Repr

/-- What one attempt of power calibration measures (R285, R287): whether each probe of the search finds its revolution used; peak and bottom
for each emitter and step; the mean FMD value for 1, 2, 3 and 4 open gates, in 1/16 code. -/
structure PowerRun where
  used : List Bool
  levels : List (List (Rat × Rat))
  fmd : List Nat
  deriving DecidableEq, Repr

/-- A loop gain's measurement (R481): |L| before trimming, the crossover found in Hz, the phase margin after trimming in degrees. -/
structure LoopMeasure where
  gain : Rat
  crossover : Nat
  margin : Int
  deriving DecidableEq, Repr

/-- What full calibration measures on one pickup (R480): its beams; the ten dark offsets in 1/16 code; the DAC offset trim codes of FOC, TRK
and TLT; FMD with each emitter alone; the MPP and SPP ripple amplitudes; the loops FOCUS, TRACK and TILT; ΔLPE and ΔTRK_LP; BAE_REV at 24.5 mm
and 57.5 mm; the Espresso calibrations of the layers. -/
structure FullRun where
  beams : List BeamTrim
  dark : List Nat
  dac : List Nat
  fmd : List Rat
  ripple : Rat × Rat
  loops : List LoopMeasure
  lens : Rat × Rat
  bae : Rat × Rat
  layers : List EspressoRun
  deriving DecidableEq, Repr

/-- A copy of the disc format table decoded in the information zone of LY0 (R61, R63): its side, spiral, position in the zone, and the
4,160 bytes of its sector. -/
structure TableCopy where
  side : Fin 2
  spiral : Nat
  index : Nat
  payload : List Byte
  deriving DecidableEq, Repr

end Sys2Proof
end

