-- ==== Sys2Proof/Syntax.lean ====
section
/-!
DEFINITION. The commands of the controller: one constructor per row of spec/opcode_table.json, with the operands that
the outside world supplies.
-/
namespace Sys2Proof

/-- A command: something that is done to the controller, or that happens inside it, whole and indivisible. -/
inductive Instr where
  -- PCI Express endpoint
  /-- INITIATE_FLR (R418): Initiate FLR stops the function's rings and silences its DMA. -/
  | initiateFlr (f : Fin 4)
  /-- FLR_DONE (R418): The function's blocks and configuration space reach reset values and FLR_DONE is posted. -/
  | flrDone (f : Fin 4)
  /-- HOT_RESET (R420): A Hot Reset acts on every function as an FLR. -/
  | hotReset
  /-- DL_DOWN (R420): Loss of the data link without PERST acts on every function as an FLR. -/
  | dlDown
  /-- PCIE_LINK_CHANGE (R420): The link retrains and PF0 posts PCIE_LINK_CHANGE. -/
  | pcieLinkChange (rate : Fin 8) (width : Fin 32)
  /-- PM_D3HOT_ENTRY (R415): A function enters D3hot and holds its fetches, DMA, records and messages. -/
  | pmD3hotEntry (f : Fin 4)
  /-- PM_D0_RETURN (R415): A function returns to D0 and resumes where it stopped. -/
  | pmD0Return (f : Fin 4)
  /-- ASPM_L0S_ENTRY (R416): The L0S_IDLE idle time expires and the transmitter enters L0s. -/
  | aspmL0sEntry
  /-- ASPM_L1_ENTRY (R416): The L1_IDLE idle time expires, the link enters L1 and the idle LTR is sent. -/
  | aspmL1Entry
  /-- COMPLETION_TLP (R423): A completion for a controller read arrives and is used, or ends the request on UR, CA or poison. -/
  | completionTlp (f : Fin 4) (tag : Nat) (status : CplStatus) (data : List Byte)
  /-- CPL_TIMEOUT (R423): A non-posted request times out, ending it by the table of R423. -/
  | cplTimeout (f : Fin 4) (tag : Nat)
  /-- TAG_QUARANTINE_END (R424): 10 ms after a timeout the tag leaves quarantine. -/
  | tagQuarantineEnd (f : Fin 4) (tag : Nat)
  /-- FUNCTION_WEDGED (R421): A firmware partition misses its heartbeat or does not finish an FLR in time; the function is wedged and silenced. -/
  | functionWedged (f : Fin 4)
  /-- MSIX_UNMASK (R404): A masked vector with its pending bit set is unmasked and sends one message. -/
  | msixUnmask (f : Fin 4) (vector : Fin 64)
  /-- VECTOR_MOD_TIMEOUT (R404): EVT_VECm_MOD.TIME expires after the first counted record and the vector sends its message. -/
  | vectorModTimeout (f : Fin 4) (vector : Fin 64)
  /-- PEER_READ (R426): A peer read of BAR2 is decoded against the windows and served, stalled, aborted or refused. -/
  | peerRead (f : Fin 4) (offset : Nat) (len : Nat)
  /-- BAR2_WRITE (R426): A memory write to BAR2 receives Unsupported Request. -/
  | bar2Write (f : Fin 4) (offset : Nat)
  /-- PEER_READ_RESUME (R335): A stalled peer read is answered once its sector is final and its entry is claimed. -/
  | peerReadResume (id : Nat)
  /-- PEER_READ_TIMEOUT (R335): A peer read stalls longer than WAIT_MS and is answered with Completer Abort. -/
  | peerReadTimeout (id : Nat)
  /-- WINDOW_COMMIT (R427): A write of HIF_WIN_COMMIT.COMMIT sets PENDING. -/
  | windowCommit (f : Fin 4)
  /-- WINDOW_COMMIT_APPLY (R427): Once earlier peer TLPs retire, all four window shadows take effect and PENDING clears. -/
  | windowCommitApply (f : Fin 4)
  /-- CONFIGURATION_REQUEST (R411): A Configuration Request reaches a function and is completed with Retry Status before the function is ready, or normally afterwards. -/
  | configurationRequest (f : Fin 4) (field : CfgField) (write : Option Nat)
  /-- BAD_TLP_RECEIVED (R428): A TLP with an ECRC, malformed, flow-control or overflow error, or a bad TLP or DLLP, arrives and is discarded and logged. -/
  | badTlpReceived (f : Option (Fin 4)) (err : TlpError)
  /-- L1_PM_SUBSTATE_ENTRY (R416): The link enters L1.1 or L1.2 from L1, as the substate controls, CLKREQ_N and the LTR threshold select. -/
  | l1PmSubstateEntry (clkreqReleased : Bool)
  /-- PCIE_LINK_UP (R408): The PCI Express link completes training from Detect at the highest common rate and width. -/
  | pcieLinkUp (rate : Fin 8) (width : Fin 32)
  -- Doorbells, rings and queues
  /-- SQ_TAIL_DOORBELL (R365): A submission tail doorbell write stores the tail, or is refused with a ring error. -/
  | sqTailDoorbell (f : Fin 4) (ring : Fin 32) (shape : WriteShape) (value : Word)
  /-- CQ_HEAD_DOORBELL (R366): A completion head doorbell releases consumed entries, and held records may then be written. -/
  | cqHeadDoorbell (f : Fin 4) (ring : Fin 32) (shape : WriteShape) (value : Word)
  /-- EVT_Q_HEAD_DOORBELL (R407): An event-queue head write frees entries, and staged records may then be written. -/
  | evtQHeadDoorbell (shape : WriteShape) (value : Word)
  /-- SQ_CFG_WRITE (R390): A write of RING_SQi_CFG applies configuration, and setting ENABLE zeroes head and tail. -/
  | sqCfgWrite (f : Fin 4) (ring : Fin 32) (value : Word)
  /-- CQ_CFG_WRITE (R390): A write of RING_CQi_CFG applies configuration, or is refused with ERR_CODE 3 while the ring is named. -/
  | cqCfgWrite (f : Fin 4) (ring : Fin 32) (value : Word)
  /-- EVT_Q_CFG_WRITE (R407): A write of EVT_Q_CFG applies configuration, and setting ENABLE zeroes head and tail. -/
  | evtQCfgWrite (value : Word)
  /-- DESCRIPTOR_FETCH (R367): The controller starts fetching a descriptor from a ring chosen by weighted round robin. -/
  | descriptorFetch (f : Fin 4) (ring : Fin 32)
  /-- ACCEPTANCE (R368): A fetched descriptor is checked in order, and a command that fails completes at once. -/
  | acceptance (h : Nat)
  /-- LIST_READ_DONE (R372): The scatter-list segments of a command have been read and are checked. -/
  | listReadDone (h : Nat)
  /-- DISPATCH (R373): An accepted command takes a tag in its queue, is carried out by MC, or is forwarded. -/
  | dispatch (h : Nat)
  /-- ADMISSION (R376): A queued command starts once earlier commands are admitted, its range lock is granted and the queue is not held. -/
  | admission (q : Fin 9)
  /-- COMPLETION_RECORD (R391): A completion record is written to its ring when there is room, releasing the tag and lock. -/
  | completionRecord (f : Fin 4) (ring : Fin 32)
  /-- EVENT_RECORD (R401): A posted event is written to the event queue, staged, or lost. -/
  | eventRecord
  /-- EVENTS_LOST (R401): Once staging has drained and 16 entries are free, EVENTS_LOST is posted with the loss count. -/
  | eventsLost
  /-- CLEAR_ALL (R405): EVT_CNT_CTRL.CLEAR_ALL clears every statistics counter at one instant. -/
  | clearAll
  -- Commands
  /-- READ (R370): The READ command reads sectors from a disc into host buffers. -/
  | read (h : Nat)
  /-- WRITE (R271): The WRITE command reserves LBAs at the frontier and gathers data for recording. -/
  | write (h : Nat)
  /-- VERIFY (R370): The VERIFY command reads sectors through verify-engine entries and delivers nothing. -/
  | verify (h : Nat)
  /-- FLUSH (R383): The FLUSH command closes partial blocks and completes when earlier WRITEs are recorded. -/
  | flush (h : Nat)
  /-- PRELOAD (R325): The PRELOAD command fills entries with named blocks, optionally locking or unlocking them. -/
  | preload (h : Nat)
  /-- ABORT (R380): The ABORT command catches or misses a target command. -/
  | abort (h : Nat)
  /-- CIPHER_JOB (R357): The CIPHER_JOB command passes host blocks through the AES engines without chaining. -/
  | cipherJob (h : Nat)
  -- Staging cache
  /-- ENTRY_ALLOCATE (R323): A missing request allocates a free entry or a victim, waiting if none qualifies. -/
  | entryAllocate (h : Nat) (block : Nat)
  /-- READ_AHEAD (R329): An idle station continues to fill the following blocks into prefetcher entries. -/
  | readAhead (st : Fin 8)
  /-- CACHE_DISABLE (R338): CCH_CTRL.ENABLE written 0 starts the drain of the cache. -/
  | cacheDisable
  /-- CACHE_ENABLE (R338): CCH_CTRL.ENABLE written 1 re-enables a disabled cache, or is rejected while draining. -/
  | cacheEnable
  /-- CACHE_DRAIN_DONE (R338): No entry is dirty any more; the cache becomes DISABLED and CACHE_DISABLED is posted. -/
  | cacheDrainDone
  /-- DMA_WRITE_ISSUED (R334): The host interface issues the DMA writes of a sector into the host buffers, as link credit and power state allow. -/
  | dmaWriteIssued (h : Nat) (unit : Nat)
  -- Cipher engine
  /-- KEY_LOAD (R348): CIP_KEY_CMD with OP LOAD raises the generation and starts computing the key schedules. -/
  | keyLoad (slot : Fin 64)
  /-- KEY_ERASE (R348): CIP_KEY_CMD with OP ERASE raises the generation and clears LOADED. -/
  | keyErase (slot : Fin 64)
  /-- KEY_LOAD_DONE (R348): The key schedules are ready, BUSY clears and KEY_SLOT_LOADED is posted. -/
  | keyLoadDone
  /-- KEY_ZEROIZE_DONE (R348): After in-progress blocks end the slot is zeroized and KEY_SLOT_ERASED is posted. -/
  | keyZeroizeDone (slot : Fin 64)
  /-- ENGINE_BLOCK_DONE (R343): An AES engine finishes a block, and the next block of the command starts after the generation check of R350. -/
  | engineBlockDone (e : Fin 16)
  /-- JTAG_STATE_CHANGE (R359): A change of JTAG state extends M6 with the new debug record. -/
  | jtagStateChange (enabled : Bool) (record : List Byte)
  /-- ATTEST (R360): The ATTEST command writes a signed attestation report. -/
  | attest (h : Nat)
  /-- L_READ (R387): The Format L read is carried out as READ. -/
  | lRead (h : Nat)
  /-- L_WRITE (R387): The Format L write is carried out as WRITE. -/
  | lWrite (h : Nat)
  /-- L_FLUSH (R387): The Format L flush is carried out as FLUSH. -/
  | lFlush (h : Nat)
  /-- FW_DOWNLOAD (R495): The FW_DOWNLOAD command programs a checked block of an image into a boot-flash slot. -/
  | fwDownload (h : Nat)
  /-- FLASH_PROGRAM_DONE (R495): The programming and read-back of a FW_DOWNLOAD block in the boot flash end, and the command completes with SUCCESS or WRITE_FAULT. -/
  | flashProgramDone (ok : Bool)
  -- Read channel
  /-- RCH_STAGED_WRITE (R240): A write to a staged lane register is held until the next frame start. -/
  | rchStagedWrite (bc : Fin 64) (reg : LaneReg) (value : Word)
  /-- FRAME_START (R223): A lane reaches the expected frame start, applies its staged writes and acquires timing. -/
  | frameStart (bc : Fin 64) (target : Option (Fin 48 × Fin 72)) (zone : Fin 4250) (tone : Rat) (rate : Rat)
  /-- FRAME_END (R238): A frame ends; its quality record is written and the provisional payload is stored. -/
  | frameEnd (bc : Fin 64) (first : Int) (bits : List LaneBit) (clips : Nat)
  /-- TIMING_LOST (R225): The mean phase error exceeds LOSS, and the lane erases the rest of the frame. -/
  | timingLost (bc : Fin 64) (bit : Fin 50176) (mean : Rat)
  /-- DEFECT_ACTIVE (R219): Two qualifying windows activate the lane's defect detector. -/
  | defectActive (bc : Fin 64) (e1 : Rat) (e2 : Rat) (r : Rat)
  /-- DEFECT_INACTIVE (R219): EXTEND clean windows end the defect detector's activity. -/
  | defectInactive (bc : Fin 64) (windows : List Rat) (r : Rat)
  /-- CAPTURE_AGE_TRIGGER (R255): The first sample of an image window is 96 µs old and a doubtful frame is captured. -/
  | captureAgeTrigger (bc : Fin 64) (meanErr : Rat)
  /-- FRAME_IMAGE_DONE (R235): A frame image has been written to its pinned slots and is reported. -/
  | frameImageDone (e : Fin 48) (j : Fin 72) (rows : List (List Int))
  /-- LANE_QUALITY_LOW (R239): Eight consecutive final frames have poor quality and QUALITY_LOW is set. -/
  | laneQualityLow (bc : Fin 64)
  -- Framing, decoding and sector recovery
  /-- SYNC_SEARCH (R247): The mark search windows close and the first-pass hypotheses are formed. -/
  | syncSearch (bc : Fin 64) (p : List Int) (q : List Int)
  /-- DECODE_CONVERGED (R249): A hypothesis converges and is checked by R52, and the first that passes wins. -/
  | decodeConverged (e : Fin 48) (j : Fin 72) (idx : Fin 4) (codeword : Nat) (inTime : Bool)
  /-- DECODE_MAX_ITER (R251): A decode reaches its iteration limit without converging, and the hypothesis fails. -/
  | decodeMaxIter (e : Fin 48) (j : Fin 72) (idx : Fin 4) (inTime : Bool)
  /-- REDECODE_ROUND_START (R257): A pinned sector's next round starts on a free re-equalizer. -/
  | redecodeRoundStart
  /-- REEQUALIZER_PASS_DONE (R257): A re-equalizer pass over an image ends and the round's hypotheses are decoded. -/
  | reequalizerPassDone (e : Fin 48) (j : Fin 72)
  /-- OUTER_DECODE (R258): A block meets the conditions of R258 and its outer decode starts. -/
  | outerDecode (e : Fin 48)
  /-- OUTER_DECODE_DONE (R258): The outer decode restores the erased sectors or fails its syndrome check. -/
  | outerDecodeDone (e : Fin 48)
  /-- BLOCK_BLANK (R260): The 65th blank frame of a block is counted and the block is blank. -/
  | blockBlank (e : Fin 48)
  /-- REREAD (R261): The DS batches and makes a re-read of the blocks that need one. -/
  | reread (e : Fin 48)
  -- Loop engine
  /-- SRV_PERIOD_WRITE (R99): A write of SRV_PERIOD sets the loop period, or is rejected. -/
  | srvPeriodWrite (value : Word)
  /-- SECT_EN_WRITE (R119): A write of SRV_LOOP_SECT_EN copies, enables and clears sections at one sample instant. -/
  | sectEnWrite (n : Fin 16) (l : Fin 4) (value : Word)
  /-- INJ_ENABLE (R111): Setting SRV_INJ_CFG.ENABLE starts the injection generator from phase zero. -/
  | injEnable (n : Fin 16) (amp : BitVec 16)
  /-- HOLD_EXTEND_END (R117): The EXTEND samples after a trigger ends a loop's hold. -/
  | holdExtendEnd (n : Fin 16) (l : Fin 4)
  -- Motion
  /-- PROFILE_TICK (R183): Every 10 µs the profile generator advances each moving motor and group. -/
  | profileTick
  /-- MOTOR_START (R183): MOT_CTRL.START begins a move to MOT_TARGET. -/
  | motorStart (x : Fin 28)
  /-- MOTOR_RAPPEL (R198): MOT_CTRL.RAPPEL brakes a motor at DEC to rest. -/
  | motorRappel (x : Fin 28)
  /-- MOTOR_EMERGENCY (R198): MOT_CTRL.EMERG brakes a motor at EDEC to rest. -/
  | motorEmergency (x : Fin 28)
  /-- MOTOR_HOME (R202): MOT_CTRL.HOME starts homing. -/
  | motorHome (m : Fin 12)
  /-- MOTOR_TARGET_WRITE (R188): A new target written during a move is accepted or rejected. -/
  | motorTargetWrite (x : Fin 28) (value : Word)
  /-- MOTOR_SPEED_WRITE (R186): A write of VMAX or ACC takes effect at the next tick. -/
  | motorSpeedWrite (x : Fin 28) (acc : Bool) (value : Word)
  /-- MOTOR_DEC_WRITE (R187): A DEC change is applied or deferred. -/
  | motorDecWrite (x : Fin 28) (value : Word)
  /-- MOTOR_POS_SET (R182): MOT_POS_SET loads the position at rest, or is rejected. -/
  | motorPosSet (x : Fin 28) (value : Word)
  /-- GEAR_ENGAGE (R190): MOT_GEAR_CTRL.ENGAGE engages or disengages a sled's gear. -/
  | gearEngage (x : Fin 16) (on : Bool)
  /-- GEAR_ARM (R191): MOT_GEAR_CTRL.ARM schedules a ratio change at MOT_GEAR_AT. -/
  | gearArm (x : Fin 16)
  /-- GEAR_CHANGE (R191): The master count reaches AT and NEXT replaces RATIO. -/
  | gearChange (x : Fin 16)
  /-- GROUP_MEMBERS_WRITE (R193): MOT_GRP_CTRL.MEMBERS sets a group's axes, or is rejected. -/
  | groupMembersWrite (g : Fin 3) (members : BitVec 32)
  /-- GROUP_START (R193): MOT_GRP_CTRL.START begins a straight-line group move. -/
  | groupStart (g : Fin 3)
  /-- GROUP_RAPPEL (R198): MOT_GRP_CTRL.RAPPEL brakes a group along its line. -/
  | groupRappel (g : Fin 3)
  /-- ESTOP_ALL (R199): MOT_ESTOP.ALL makes an emergency stop of every axis and group. -/
  | estopAll
  /-- ESTOP_CLEAR (R199): The host clears ACTIVE and axes may start again. -/
  | estopClear
  /-- HOME_FAULT_CLEAR (R202): The host clears HOME_FAULT and homing returns to IDLE. -/
  | homeFaultClear (m : Fin 12)
  /-- LIMIT_QUALIFIED (R201): A limit input qualifies active and stops the axis. -/
  | limitQualified (m : Fin 12) (positive : Bool) (active : Bool) (edge : Int)
  /-- HOME_QUALIFIED (R202): The home reference qualifies and homing advances. -/
  | homeQualified (m : Fin 12) (active : Bool) (edge : Int)
  /-- ENCODER_EDGE (R203): An encoder edge is counted, or both inputs change and ENC_ERR is set. -/
  | encoderEdge (m : Fin 12) (edge : EncoderEdge)
  /-- SLED_STANDSTILL (R196): HOLD_MS at rest puts a sled into its standstill mode. -/
  | sledStandstill (x : Fin 16)
  /-- AXIS_HOLD_REDUCE (R197): HOLD_DELAY at rest reduces an axis's drive. -/
  | axisHoldReduce (m : Fin 12)
  /-- MOVE_AXIS (R370): MOVE with KIND 0 moves one axis to its target. -/
  | moveAxis (h : Nat)
  /-- MOVE_GROUP (R193): MOVE with KIND 1 makes a straight-line group move. -/
  | moveGroup (h : Nat)
  /-- MOVE_HOMING (R202): MOVE with KIND 2 homes an axis. -/
  | moveHoming (h : Nat)
  /-- MOVE_RAPPEL (R198): MOVE with KIND 3 makes a Rappel stop of an axis or group. -/
  | moveRappel (h : Nat)
  /-- L_SEGMENT (R388): L_SEGMENT enters one segment into a group's blended move queue. -/
  | lSegment (h : Nat)
  -- Focus, layers and track following
  /-- ADDRESS_DECODED (R129): A wobble address is decoded and ALIGN or the loss check acts on it. -/
  | addressDecoded (n : Fin 16) (address : BitVec 32) (passed : Nat)
  /-- FOCUS_SWEEP_END (R130): A focus sweep ends without capture, and after the third sweep the pickup parks. -/
  | focusSweepEnd (n : Fin 16)
  /-- FOCUS_LOCK (R129): FE has stayed within FE_LOCK for 256 samples at speed; the pickup enters PULLIN. -/
  | focusLock (n : Fin 16)
  /-- FOCUSED_TIMEOUT (R129): 20 ms in FOCUSED without lock returns the pickup to SEARCH. -/
  | focusedTimeout (n : Fin 16)
  /-- TRACK_LOCK (R129): TE has stayed within TE_LOCK for 256 samples; the pickup enters ALIGN. -/
  | trackLock (n : Fin 16)
  /-- PULLIN_TIMEOUT (R129): 10 ms in PULLIN returns the pickup to SEARCH. -/
  | pullinTimeout (n : Fin 16)
  /-- ALIGN_ADDRESS_TIMEOUT (R129): No valid address for 1 ms in ALIGN returns the pickup to PULLIN. -/
  | alignAddressTimeout (n : Fin 16)
  /-- TRACK_JUMP_DONE (R134): TE has stayed within TE_LOCK for 16 samples after a jump; the pickup enters ALIGN. -/
  | trackJumpDone (n : Fin 16)
  /-- TRACK_JUMP_TIMEOUT (R134): A track jump exceeds its bound and is a loss of track. -/
  | trackJumpTimeout (n : Fin 16)
  /-- LAYER_JUMP_TIMEOUT (R132): No qualified crossing arrives in time, the layer jump fails and the pickup searches. -/
  | layerJumpTimeout (n : Fin 16)
  /-- COARSE_SETTLE_END (R129): 2 ms after a seek move ends the pickup enters PULLIN. -/
  | coarseSettleEnd (n : Fin 16)
  /-- FOCUS_LOST (R140): A loss of focus is detected and recovery starts by R141. -/
  | focusLost (n : Fin 16)
  /-- TRACK_LOST (R140): A loss of track is detected and the pickup returns to PULLIN. -/
  | trackLost (n : Fin 16)
  /-- PARK_RAMP_END (R129): The FOCUS park ramp ends; the pickup enters OFF or FAULT. -/
  | parkRampEnd (n : Fin 16)
  /-- RECOVER_COUNT_CLEAR (R141): 100 ms in FOLLOW clears RECOVER_COUNT. -/
  | recoverCountClear (n : Fin 16)
  /-- DEFECT_LONG (R139): A hold has lasted DEFECT_MAX samples; the triggers are cleared and the loss rules apply. -/
  | defectLong (n : Fin 16)
  /-- DEFECT_TRIGGERS_RESTORE (R139): 64 clean samples set the hold triggers again. -/
  | defectTriggersRestore (n : Fin 16)
  /-- REVOLUTION_REFERENCE (R144): At the angular reference BAE_REV is formed and a Belay pickup jumps four tracks back. -/
  | revolutionReference (n : Fin 16)
  /-- BAE_GATES_REOPEN (R135): 16 revolutions within WARN after a fault allow the gates to open again. -/
  | baeGatesReopen (n : Fin 16)
  /-- BELAY_REQ_SET (R143): BELAY_REQ written 1 sets the host Belay cause. -/
  | belayReqSet (n : Fin 16)
  /-- BELAY_REQ_CLEAR (R143): BELAY_REQ written 0 clears the host Belay cause. -/
  | belayReqClear (n : Fin 16)
  -- Loop processors
  /-- SAMPLE_INSTANT (R101): A servo sample instant captures the converters and starts the loop computation. -/
  | sampleInstant (inputs : List (List (List Nat)))
  /-- OUTPUT_INSTANT (R102): The fast-loop DAC codes are applied at the output instant, or the late result is discarded. -/
  | outputInstant (n : Fin 16) (ready : Fin 4)
  /-- LOOP_COMPUTATION_END (R104): A sample's loop computation ends and the next pending one may start. -/
  | loopComputationEnd (n : Fin 16)
  /-- LOOP_BELAY_LATE (R105): Three consecutive late samples put the pickup into Belay with cause late. -/
  | loopBelayLate (n : Fin 16)
  /-- LOOP_ON_TIME (R105): 4,096 on-time samples clear BELAY_LATE. -/
  | loopOnTime (n : Fin 16)
  /-- TRACE_ARM (R125): SRV_TRC_CTRL.ARM starts a trace capture. -/
  | traceArm (n : Fin 16)
  /-- TRACE_STOP (R125): SRV_TRC_CTRL.STOP ends recording at once, without setting DONE. -/
  | traceStop (n : Fin 16)
  /-- TRACE_FIRE (R125): SRV_TRC_CTRL.FIRE is trigger source 0. -/
  | traceFire (n : Fin 16)
  /-- TRACE_DONE (R125): POST samples after the trigger have been recorded; the capture stops and DONE is set. -/
  | traceDone (n : Fin 16)
  /-- TRC_ARM (R561): TRC_ARM arms the masked loop processors at one sample instant. -/
  | trcArm (mask : BitVec 16)
  /-- TRC_FIRE (R561): TRC_FIRE fires trigger source 0 of the masked loop processors. -/
  | trcFire (mask : BitVec 16)
  /-- LASER_OVERPOWER (R85): FMD exceeds FMD_MAX at two consecutive samples; FMD_HIGH is set and emission stops. -/
  | laserOverpower (n : Fin 16)
  -- Laser-driver link
  /-- LDD_LINK_ENABLE (R95): SRV_LDD_CTRL.LINK_EN starts link bring-up with IDLE frames. -/
  | lddLinkEnable (n : Fin 16)
  /-- LDD_STATUS_FRAME (R92): A STATUS frame from the laser driver is received and checked. -/
  | lddStatusFrame (n : Fin 16) (frame : List Byte)
  /-- LDD_LINK_UP (R95): 16 consecutive good STATUS frames set LINK_UP. -/
  | lddLinkUp (n : Fin 16)
  /-- LDD_BAD_FRAMES (R95): Eight consecutive bad STATUS frames take the link down. -/
  | lddBadFrames (n : Fin 16)
  /-- LDD_STATUS_TIMEOUT (R95): No good STATUS frame for 2 µs takes the link down. -/
  | lddStatusTimeout (n : Fin 16)
  /-- LDD_TABLE_LOAD (R93): A write-strategy bank is loaded, checked by CRC and reloaded once on mismatch. -/
  | lddTableLoad (n : Fin 16) (layer : Fin 8) (crc1 : BitVec 32) (crc2 : BitVec 32)
  -- Spindles
  /-- SPINDLE_RUN_SET (R159): SPN_CTRL.RUN written 1 in OFF requests a start. -/
  | spindleRunSet (st : Fin 8)
  /-- SPINDLE_RUN_CLEAR (R169): SPN_CTRL.RUN written 0 starts a Rappel stop, or clears FAULT. -/
  | spindleRunClear (st : Fin 8)
  /-- SPINDLE_TARGET_WRITE (R153): SPN_TARGET sets the target speed, or is rejected. -/
  | spindleTargetWrite (st : Fin 8) (value : Word)
  /-- CHOP_FAULT_CLEAR (R171): The host clears CHOP_FAULT and the chopper hysteresis drives the gate again. -/
  | chopFaultClear (st : Fin 8)
  /-- SPINDLE_ZERO_CROSSING (R164): A back-EMF zero crossing is found and timing, speed, catch and handover are updated. -/
  | spindleZeroCrossing (st : Fin 8) (interval : Nat) (after : Nat) (emf : Rat)
  /-- SPINDLE_COMMUTATION (R164): The next commutation step is applied at its computed instant. -/
  | spindleCommutation (st : Fin 8) (elapsed : Nat) (duty : Rat)
  /-- ZERO_CROSSING_MISSED (R165): An expected crossing is not found within 1.5 steps. -/
  | zeroCrossingMissed (st : Fin 8)
  /-- SPEED_LOOP_INSTANT (R167): The 2 kHz speed loop computes the duty and moves the speed reference. -/
  | speedLoopInstant (st : Fin 8)
  /-- AT_SPEED (R154): 32 speed-loop periods within ±0.5 % set AT_SPEED. -/
  | atSpeed (st : Fin 8)
  /-- BUS_CONVERSION (R170): A bus conversion drives chopper hysteresis and the warning, trip and slew checks. -/
  | busConversion (st : Fin 8) (code : BitVec 12)
  /-- CHOPPER_NO_CURRENT (R171): Chopper current stays below ICHOP_MIN for 20 µs with the gate on. -/
  | chopperNoCurrent (st : Fin 8)
  /-- BUS_OV_RELEASE (R172): Every tripped bus has been below 36.0 V for 10 ms; BUS_OV_N and the TRIP bits are released. -/
  | busOvRelease
  /-- PROBE_TIMEOUT (R157): 20 ms in PROBE selects CATCH, SLOWING, HFI or ALIGN. -/
  | probeTimeout (st : Fin 8)
  /-- HFI_DONE (R160): High-frequency injection ends with a located rotor or too low a quality. -/
  | hfiDone (st : Fin 8) (q : Byte) (step : Fin 6)
  /-- ALIGN_ELAPSED (R161): ALIGN_MS elapses and the blind ramp starts. -/
  | alignElapsed (st : Fin 8)
  /-- CATCH_TIMEOUT (R168): 50 ms without a catch starts a Rappel stop, and SPINDLE_LOST is posted. -/
  | catchTimeout (st : Fin 8)
  -- Recording
  /-- FRONTIER_SEARCH (R272): A binary search of probes finds the frontier of a side and layer. -/
  | frontierSearch (n : Fin 16) (layer : Fin 8) (begun : List Bool)
  /-- PRE_PASS (R273): A read-power pre-pass checks that a run's first positions are blank. -/
  | prePass (n : Fin 16) (conflict : Option (Fin 18))
  /-- RUN_START (R279): A run starts streaming committed blocks under the gate schedule. -/
  | runStart (n : Fin 16)
  /-- WOBBLE_PERIOD (R281): Once per wobble period the write-clock phase error is measured, PHASE_STEP is written, and an error beyond FAULT_MAX unlocks the clock. -/
  | wobblePeriod (n : Fin 16) (err : Int) (freq : Rat)
  /-- WCLK_LOCKED (R281): 16 wobble periods within LOCK_MAX lock the write clock. -/
  | wclkLocked (n : Fin 16)
  /-- RECORDING_RESUME (R289): After a gate closure the pickup resumes recording at the blank positions. -/
  | recordingResume (n : Fin 16)
  /-- BLOCK_RECORDED (R320): The last frame of a block has been played and its entry becomes VALID. -/
  | blockRecorded (n : Fin 16)
  /-- RUN_END (R280): The next block is not ready in time and the run ends. -/
  | runEnd (n : Fin 16)
  /-- VERIFY_PASS (R293): The pickup reads back recorded blocks of WRITE_VERIFY WRITEs. -/
  | verifyPass (n : Fin 16)
  -- Calibration
  /-- POWER_CALIBRATION (R285): The controller calibrates the recording power of a side and layer before a run. -/
  | powerCalibration (n : Fin 16) (layer : Fin 8) (run : PowerRun)
  /-- CALIBRATE_ADC_TRIM (R477): CALIBRATE with PROCEDURE 1 runs the beam ADC trim. -/
  | calibrateAdcTrim (h : Nat) (trims : List (List BeamTrim))
  /-- CALIBRATE_ESPRESSO (R478): CALIBRATE with PROCEDURE 2 runs an Espresso calibration of a layer. -/
  | calibrateEspresso (h : Nat) (runs : List EspressoRun)
  /-- CALIBRATE_POWER (R479): CALIBRATE with PROCEDURE 3 runs a power calibration of a layer. -/
  | calibratePower (h : Nat) (runs : List PowerRun)
  /-- CALIBRATE_FULL (R480): CALIBRATE with PROCEDURE 4 runs a full calibration of the station. -/
  | calibrateFull (h : Nat) (runs : List FullRun)
  /-- ESPRESSO_AUTO (R476): The controller starts an Espresso calibration on entry to an uncalibrated layer or on quality loss. -/
  | espressoAuto (n : Fin 16) (run : Option EspressoRun)
  -- Loading and unloading
  /-- LOAD (R63): The LOAD command binds the slot, spins up, reads the disc format table and calibrates. -/
  | load (h : Nat) (copy : Option TableCopy) (runs : List FullRun)
  /-- L_LOAD (R387): The Format L load is carried out as LOAD. -/
  | lLoad (h : Nat) (copy : Option TableCopy) (runs : List FullRun)
  /-- INFO_ZONE_SEARCH_TIMEOUT (R63): A side yields no valid table within its 14,750 positions. -/
  | infoZoneSearchTimeout (st : Fin 8) (side : Fin 2)
  /-- UNLOAD (R562): The UNLOAD command ends the binding, records dirty entries, parks and stops the spindle. -/
  | unload (h : Nat)
  /-- L_UNLOAD (R387): The Format L unload is carried out as UNLOAD. -/
  | lUnload (h : Nat)
  -- On-chip memory
  /-- SCRUB_VISIT (R309): The scrubber visits one word of a bank in an idle handshake. -/
  | scrubVisit (bank : Fin 128) (upset : List (Fin 137))
  /-- SCRUB_LAP_SLOW (R310): A scrub lap passes LIMIT_MS and SCRUB_SLOW is set. -/
  | scrubLapSlow
  /-- MEM_CNT_CLR (R311): MEM_CTRL.CNT_CLR zeroes both error counts. -/
  | memCntClr
  /-- MEM_INJECT_ARM (R314): MEM_INJECT with ARM corrupts the next store of the word. -/
  | memInjectArm (value : Word)
  -- The tree: ports, frames, commands and data
  /-- PORT_TRAINING_START (R434): An enabled or powered port starts training. -/
  | portTrainingStart (q : Fin 5)
  /-- PORT_UP (R434): Training ends with the link layer initialised and MBL_PORT_UP posted. -/
  | portUp (q : Fin 5) (gen : Nat) (width : Nat) (partner4080 : Bool) (level : Fin 16) (clash : Bool)
  /-- LINK_FRAME (R436): A link frame is received, acknowledged or negatively acknowledged, and its packet routed. -/
  | linkFrame (q : Fin 5) (ev : LinkEvent)
  /-- LINK_REPLAY_TIMEOUT (R436): A frame unacknowledged for 20 µs is replayed, and after four replays the port retrains. -/
  | linkReplayTimeout (q : Fin 5)
  /-- PORT_DOWN (R455): A port fails to retrain within 25 ms or loses its partner; forwarded commands end. -/
  | portDown (q : Fin 5)
  /-- HEARTBEAT_LOSS (R455): HB_N missed heartbeats fence a downstream port. -/
  | heartbeatLoss (q : Fin 5)
  /-- ORPHAN_TIMEOUT (R456): MU has been down for ORPHAN_MS and the controller discards its forwarded commands. -/
  | orphanTimeout
  /-- CMD_PACKET (R440): A CMD packet for this controller is checked and queued. -/
  | cmdPacket
  /-- XFER_RDY_PACKET (R441): A grant arrives and the sender answers with DATA for its range. -/
  | xferRdyPacket
  /-- DATA_PACKET (R441): A DATA packet of a grant is taken or forwarded. -/
  | dataPacket
  /-- RSP_PACKET (R441): The root receives an RSP and writes the completion record. -/
  | rspPacket
  /-- EVT_PACKET (R400): The root receives an EVT from below and writes it to the event queue. -/
  | evtPacket
  /-- TIME_EXCHANGE (R448): Every 1 ms the parent starts a TIME exchange. -/
  | timeExchange (q : Fin 5)
  /-- TIME_PACKET (R448): A TIME packet is stamped and the child steers its Chain Time. -/
  | timePacket
  /-- MBL_CT_LOCKED (R448): 16 exchanges within limit set SYNC. -/
  | mblCtLocked
  /-- ENUMERATION (R444): The root enumerates the tree depth first. -/
  | enumeration (port : Option (Fin 5)) (n : Nat)
  /-- ENUM_ASSIGN (R444): A controller receives its ID and range. -/
  | enumAssign
  /-- ENUM_REPORT (R444): A controller's report of its subtree is received. -/
  | enumReport
  /-- HEARTBEAT_SEND (R439): Every 10 ms MC firmware sends a HEARTBEAT on each link. -/
  | heartbeatSend
  /-- HEARTBEAT (R439): A HEARTBEAT with the partner's protocol level is received. -/
  | heartbeat
  /-- DISCARD (R443): DISCARD ends a host function's chain tags without a response. -/
  | discard
  /-- GRANT_HOLD (R443): A GRANT_HOLD restarts a grant's response window. -/
  | grantHold
  /-- GRANT_HOLD_TIMER (R443): HOLD_US passes with DATA held back, so a GRANT_HOLD is sent. -/
  | grantHoldTimer (tag : Nat)
  /-- XFER_WINDOW_EXPIRY (R443): A response window expires and the command ends with CHAIN_TIMEOUT. -/
  | xferWindowExpiry (tag : Nat)
  /-- CT_LOAD (R447): A write of MBL_CT_LOAD_HI loads the root's Chain Time forward, or is refused. -/
  | ctLoad (value : Word)
  /-- PORT_RETRAIN (R434): MBL_PORT_CTRL.RETRAIN retrains a port from step 3. -/
  | portRetrain (q : Fin 5)
  /-- FENCE_CLR (R455): MBL_PORT_CTRL.FENCE_CLR unfences a port and re-enumerates its subtree. -/
  | fenceClr (q : Fin 5)
  -- Processors and stations
  /-- STATION_RESET (R521): A write of SYS_RESET_CTRL.STATION starts a station reset. -/
  | stationReset (st : Fin 8)
  /-- RESET_DONE (R521): The station reset ends: processors are restarted, pickups are brought back, and RESET_DONE is posted. -/
  | resetDone (st : Fin 8)
  -- Slots
  /-- SLOT_INSERTION (R464): A qualified insertion moves the slot to OFF or POWERING. -/
  | slotInsertion (k : Fin 12)
  /-- SLOT_REMOVAL (R468): A qualified removal empties the slot, as a surprise removal if powered. -/
  | slotRemoval (k : Fin 12)
  /-- SLOT_BUTTON (R464): A qualified button press starts or cancels a power request. -/
  | slotButton (k : Fin 12)
  /-- SLOT_POWER_FAULT (R464): A qualified power fault drops PWR_EN and enters FAULT. -/
  | slotPowerFault (k : Fin 12)
  /-- SLOT_BLINK_EXPIRY (R464): BLINK_S elapses and the slot powers up or drains. -/
  | slotBlinkExpiry (k : Fin 12)
  /-- SLOT_SETTLED (R465): SETTLE_MS after PWR_EN rises the bring-up of the slot begins. -/
  | slotSettled (k : Fin 12)
  /-- SLOT_BRINGUP_DONE (R465): Bring-up completes and the slot enters ON. -/
  | slotBringupDone (k : Fin 12)
  /-- SLOT_BRINGUP_TIMEOUT (R465): Bring-up exceeds SETTLE_MS + 500 ms and the slot enters FAULT. -/
  | slotBringupTimeout (k : Fin 12)
  /-- SLOT_DRAIN_DONE (R466): The drain of a slot ends, PWR_EN falls and SLOT_POWER_OFF is posted. -/
  | slotDrainDone (k : Fin 12)
  /-- SLOT_DRAIN_TIMEOUT (R466): DRAIN_S elapses and the drain continues as a surprise removal. -/
  | slotDrainTimeout (k : Fin 12)
  /-- PWR_REQ_SET (R464): PWR_REQ written 1 powers up a slot in OFF, or is rejected. -/
  | pwrReqSet (k : Fin 12)
  /-- PWR_REQ_CLEAR (R464): PWR_REQ written 0 drains a slot in ON. -/
  | pwrReqClear (k : Fin 12)
  /-- SLOT_ABORT_REQ (R464): ABORT_REQ cancels WAIT_ON or WAIT_OFF. -/
  | slotAbortReq (k : Fin 12)
  /-- SLOT_FAULT_CLEAR (R464): The host clears PWR_FAULT and the slot leaves FAULT. -/
  | slotFaultClear (k : Fin 12)
  -- Power, reset and boot
  /-- POWER_ON (R520): Power-on of the rails starts a full device reset. -/
  | powerOn
  /-- BROWN_OUT (R509): A rail falls below its brown-out threshold, forcing a full device reset that is held until every rail has been back in range for 10 ms. -/
  | brownOut (rail : Fin 8)
  /-- CRYSTAL_LOSS (R538): The crystal stops or deviates by more than 1,000 ppm for 20 µs, causing a full device reset. -/
  | crystalLoss
  /-- PCIE_PERST_ASSERT (R522): PCIE_PERST_N is asserted, which is a full device reset. -/
  | pciePerstAssert
  /-- THERMAL_TRIP (R519): The junction rises above +145 °C, and a full device reset is held until it falls below +135 °C. -/
  | thermalTrip (tj : BitVec 12)
  /-- THERMAL_WARN (R519): The junction rises above SYS_THERM.WARN; THERM_WARN is set and an event is posted. -/
  | thermalWarn (tj : BitVec 12)
  /-- RESET_RELEASE (R525): Reset is released and Basecamp runs its boot sequence to BOOT_COMPLETE, with fallback or recovery. -/
  | resetRelease
  /-- PACE_WINDOW_END (R514): A 100 µs pace window ends and the pace loop may request a voltage step. -/
  | paceWindowEnd (measured : BitVec 16)
  /-- PACE_LOW (R515): Pace has stayed below target for 2 ms with the request at VMAX; PACE_LOW is set and posted. -/
  | paceLow
  /-- BOOST_END (R513): BOOST_MS expires and the effective target returns to TARGET. -/
  | boostEnd
  /-- PMBUS_TRANSACTION_DONE (R518): A PMBus transaction ends; failures are retried, and after the third failure PMB_FAULT is set. -/
  | pmbusTransactionDone (code : Byte) (ok : Bool) (data : BitVec 16)
  /-- PMBUS_ALERT (R518): PMB_ALERT_N goes low; STATUS_WORD is read, PMB_ALERT is set and faults are cleared. -/
  | pmbusAlert (status : Option (BitVec 16))
  /-- READ_VOUT_POLL (R517): Every 10 ms READ_VOUT is read into SYS_VCORE_STATUS.READ. -/
  | readVoutPoll (code : Option (BitVec 16))
  /-- AGE_RECORD (R516): Once a day the normalised core voltage is recorded in SYS_AGE, and every 30 days it is written to flash. -/
  | ageRecord (v : BitVec 10)
  -- Firmware update
  /-- FW_VERIFY (R496): FWU_CTRL.VERIFY starts verifying and staging an image, or is rejected. -/
  | fwVerify (slot : Fin 2)
  /-- FW_VERIFY_DONE (R496): Verification ends; the image is staged and FW_VERIFIED is posted, or FW_VERIFY_FAIL is posted. -/
  | fwVerifyDone
  /-- FW_BOOT_SLOT_WRITE (R524): A write of FWU_BOOT.SLOT writes the older boot-control copy. -/
  | fwBootSlotWrite (slot : Fin 2)
  /-- FW_ACTIVATE_ROLLING (R498): FW_ACTIVATE with MODE 0 activates the staged sections one processor at a time. -/
  | fwActivateRolling (h : Nat)
  /-- FW_ROLL (R498): FWU_CTRL.ROLL starts a rolling activation on a child. -/
  | fwRoll (classes : Fin 16)
  /-- FW_CANCEL (R500): FWU_CTRL.CANCEL stops a rolling activation after the processor in progress. -/
  | fwCancel
  /-- FW_ACTIVATE_SUMMIT (R502): FW_ACTIVATE with MODE 1 schedules a Summit across the tree. -/
  | fwActivateSummit (h : Nat)
  /-- FW_SUMMIT_CANCEL (R502): FW_ACTIVATE with an empty mask and MODE 1 cancels a pending Summit. -/
  | fwSummitCancel (h : Nat)
  /-- SUMMIT_SET (R503): A controller checks the Summit, sets its time and answers accept or refuse. -/
  | summitSet
  /-- SUMMIT_DRAIN_START (R503): At SUMMIT_TIME − DRAIN_MS admission stops on every queue. -/
  | summitDrainStart
  /-- SUMMIT (R503): At SUMMIT_TIME unfinished commands stop and the masked processors restart on the staged code. -/
  | summit
  /-- PROCESSOR_READY (R499): An activated processor reports ready and the sequence continues. -/
  | processorReady (p : Fin 36)
  /-- ACTIVATION_TIMEOUT (R500): A processor is not ready within its bound, is restarted on its old code, and FW_ACTIVATE_FAIL is posted. -/
  | activationTimeout (p : Fin 36)
  /-- PROCESSOR_FAULT (R492): A processor bus error or watchdog expiry halts the processor, leading to a station reset or a wedged function. -/
  | processorFault (p : Fin 36) (watchdog : Bool)
  -- Operations across the tree
  /-- BARRIER (R452): A BARRIER is forwarded and acknowledged once traffic and children are done. -/
  | barrier
  /-- BARRIER_ACK (R452): A child's barrier acknowledgement is received. -/
  | barrierAck
  /-- SNAPSHOT (R454): The SNAPSHOT command arms a tree-wide latch and gathers the records. -/
  | snapshot (h : Nat)
  /-- SNAP_ARM (R454): SNAP_ARM schedules the latch, or latches at once if late. -/
  | snapArm
  /-- SNAPSHOT_LATCH (R454): Chain Time reaches SNAP_TIME and the snapshot record is latched. -/
  | snapshotLatch
  /-- TREE_RESET_STATION (R453): MBL_RESET GO with KIND 1 resets every station of the subtree. -/
  | treeResetStation (target : BitVec 24)
  /-- TREE_RESET_DEVICE (R453): MBL_RESET GO with KIND 2 makes a full reset of the subtree. -/
  | treeResetDevice (target : BitVec 24) (last : BitVec 24)
  /-- RESET_PACKET (R453): A RESET is forwarded, performed and acknowledged upward. -/
  | resetPacket
  /-- TREE_RESET_ACK (R453): The reset acknowledgement arrives and MBL_RESET.DONE is set. -/
  | treeResetAck
  -- Records and logs
  /-- IDENTIFY_CONTROLLER (R371): IDENTIFY with CNS 0 writes the controller record. -/
  | identifyController (h : Nat)
  /-- IDENTIFY_STATION (R371): IDENTIFY with CNS 1 writes the station record. -/
  | identifyStation (h : Nat)
  /-- GET_LOG (R371): The GET_LOG command returns part of a named log. -/
  | getLog (h : Nat)
  -- Register access
  /-- REGISTER_READ (R405): A register read by a requester latches the HI word when it reads a LO word, and flushes that requester's earlier writes. -/
  | registerRead (who : Requester) (off : BitVec 20) (len : Nat) (id : Nat)
  /-- REGISTER_WRITE (R556): A write to a register without a row of its own applies its fields by R15. -/
  | registerWrite (who : Requester) (off : BitVec 20) (shape : WriteShape) (values : List Word)
  /-- REMOTE_READ (R451): MBL_REM_CTRL.READ sends a REG_READ to a controller. -/
  | remoteRead
  /-- REMOTE_WRITE (R451): MBL_REM_CTRL.WRITE sends a REG_WRITE to a controller. -/
  | remoteWrite
  /-- REG_READ (R451): A REG_READ packet reads a register and answers with REG_DATA. -/
  | regRead
  /-- REG_WRITE (R451): A REG_WRITE packet writes a register. -/
  | regWrite
  /-- REG_DATA (R451): A REG_DATA answer completes a remote access. -/
  | regData
  /-- REMOTE_ACCESS_TIMEOUT (R451): A remote access unanswered within WINDOW_US sets ERR. -/
  | remoteAccessTimeout
  deriving DecidableEq, Repr

end Sys2Proof
end

