-- ==== Sys2Proof/Decode.lean ====
section
/-!
DEFINITION. Commands spelled by words. The command table of this hardware gives no row any bits: commands are events at its registers, pins
and links, so no word spells one.
-/
namespace Sys2Proof

/-- The rows of the command table that give bits: width in bits, the word's fixed bits, and the command. There is none. -/
def tableRows : List (Nat × Nat × Instr) := []

/-- The command that a word of `nbits` bits spells. -/
def decodeTableWord (nbits w : Nat) : Option Instr :=
  (tableRows.find? (fun r => r.1 == nbits && r.2.1 == w)).map (fun r => r.2.2)

end Sys2Proof
end

