-- ==== Sys2Proof/Config.lean ====
section
/-!
DEFINITION. What an implementation fixes and the manual does not: opaque constants, of which no proof can know a value.
-/
namespace Sys2Proof.Config

/-- A value the manual leaves open, applied to the machine's count of such values. -/
opaque freeNat : Nat → Nat

/-- The identity public key of the unit, 32 bytes (R358). -/
opaque idPublicKey : List Nat

/-- The unit serial of the Device Serial Number capability, from OTP (R412). -/
opaque unitSerial : Nat

/-- The Ed25519 signature by the identity key over a byte string, 64 bytes (R360). -/
opaque idSign : List Nat → List Nat

/-- Whether an Ed25519 signature over a byte string is valid under the vendor key of the OTP (R496). -/
opaque vendorVerify : List Nat → List Nat → Bool

/-- The Vendor ID that PCI-SIG assigns to the maker (R410). -/
opaque vendorId : Nat

/-- The STRATEGY_IDs of the write-strategy base banks that an image's fifth section carries (R284, R491); the manual gives no layout of
that section. -/
opaque strategiesIn : List Nat → List Nat

/-- The lane settings that an image gives a lane of a layer by default, in the 240 bytes of a layer record (R230, R486): firmware version,
beam channel, layer. -/
opaque laneDefault : Nat → Nat → Nat → List Nat

/-- A corrected sample outside those that a lane or an image holds: beam, bit. -/
opaque freeSample : Nat → Int → Rat

/-- A quotient by a zero that a register allows and no rule gives a value for: the dividend. -/
opaque freeRatio : Rat → Rat

/-- The mean of the four read-power words of a pickup's laser driver, in 0.01 mW, before any adjustment (R85, R91): the pickup. -/
opaque readPower : Nat → Nat

/-- A base bank of the write strategy, 8,192 bytes (R284): firmware version, STRATEGY_ID. -/
opaque strategyBank : Nat → Nat → List Nat

/-- The image default of a byte of a pickup's half of the station record (R483, R486): the pickup, the byte. -/
opaque trimDefault : Nat → Nat → Nat

/-- A word of the default loop sets (R465): the loop; 0 for the gain's coefficient, 1 for its shift, and 2 + 6 k + i for coefficient i, or for
i = 5 the shifts, of section k. -/
opaque loopDefault : Nat → Nat → Nat

/-- The SHA-512 digest of the Basecamp ROM (R359). -/
opaque romDigest : List Nat

/-- The 64-byte debug record that Basecamp measures, for the boot-flash slot in use (R359). -/
opaque debugRecord : Nat → List Nat

/-- Subsystem Vendor ID and Subsystem ID that Basecamp loads from the boot flash (R410). -/
opaque subsystem : Bool → Nat

end Sys2Proof.Config
end

