-- ==== Sys2Proof/Machine/Bits.lean ====
section
/-!
DEFINITION. Bit fields, two's complement, byte order and clamping on natural numbers and integers: the
plain arithmetic that the rest of the machine is written with (R7, R9: little-endian, bit 0 least significant).
-/
namespace Sys2Proof.Machine

/-- Bits [lo + width − 1 : lo] of `v`. -/
def bitsOf (v lo width : Nat) : Nat := (v >>> lo) % 2 ^ width

/-- Bit `i` of `v`. -/
def bitOf (v i : Nat) : Bool := v.testBit i

/-- `v`, its low `width` bits read as two's complement. -/
def toSigned (width v : Nat) : Int :=
  if 2 * (v % 2 ^ width) < 2 ^ width then (v % 2 ^ width : Nat) else ((v % 2 ^ width : Nat) : Int) - 2 ^ width

/-- The low `width` bits of the two's complement of `x`. -/
def ofSigned (width : Nat) (x : Int) : Nat := (x % (2 ^ width : Nat)).toNat

/-- `x` limited to lo … hi. -/
def clampInt (lo hi x : Int) : Int := if x < lo then lo else if hi < x then hi else x

/-- `x` saturated to a signed number of `width` bits. -/
def satSigned (width : Nat) (x : Int) : Int := clampInt (-(2 ^ (width - 1) : Nat)) ((2 ^ (width - 1) : Nat) - 1) x

/-- `x` divided by 2^k, rounded to the nearest, a half rounding up: an arithmetic shift with rounding. -/
def shrRound (x : Int) (k : Nat) : Int := if k = 0 then x else (x + 2 ^ (k - 1)) / 2 ^ k

/-- `x` shifted right arithmetically by `k`: the floor of x / 2^k. -/
def sra (x : Int) (k : Nat) : Int := x / 2 ^ k

/-- A quotient rounded to the nearest, a half rounding up; 0 for a zero divisor. -/
def divRound (x y : Int) : Int := if y = 0 then 0 else (2 * x + y) / (2 * y)

/-- A Boolean as the bit it is in a register. -/
def b2n (b : Bool) : Nat := if b then 1 else 0

/-- The `n` low bytes of `v`, the least significant first (R9). -/
def leBytes : (n v : Nat) → List Nat
  | 0, _ => []
  | n + 1, v => v % 256 :: leBytes n (v / 256)

/-- The number that bytes spell, the least significant first (R9). -/
def ofLeBytes : List Nat → Nat
  | [] => 0
  | b :: bs => b % 256 + 256 * ofLeBytes bs

/-- The number that bytes spell, the most significant first. -/
def ofBeBytes (bs : List Nat) : Nat := bs.foldl (fun a b => a * 256 + b % 256) 0

/-- The `n` low bytes of `v`, the most significant first. -/
def beBytes (n v : Nat) : List Nat := (leBytes n v).reverse

/-- `bs` cut or filled with zeros to `n` bytes. -/
def padTo (n : Nat) (bs : List Nat) : List Nat := (bs ++ List.replicate (n - bs.length) 0).take n

/-- How many bits of `v`, below bit `n`, are set. -/
def popCount : (n v : Nat) → Nat
  | 0, _ => 0
  | n + 1, v => v % 2 + popCount n (v / 2)

/-- The numbers below `n` whose bit is set in `v`, rising. -/
def setBits (n v : Nat) : List Nat := (List.range n).filter (fun i => v.testBit i)

/-- Integer square root by bisection on the bits of the answer, the most significant first. -/
def isqrtAux (v : Nat) : (k r : Nat) → Nat
  | 0, r => r
  | k + 1, r => if (r + 2 ^ k) * (r + 2 ^ k) ≤ v then isqrtAux v k (r + 2 ^ k) else isqrtAux v k r

/-- The greatest r with r² ≤ v, for v < 2^128. -/
def isqrt (v : Nat) : Nat := isqrtAux v 64 0

/-- An element put in before the first with a greater measure. -/
def insertBy {α : Type} (m : α → Nat) (x : α) : List α → List α
  | [] => [x]
  | y :: ys => if m x < m y then x :: y :: ys else y :: insertBy m x ys

/-- A list in rising order of a measure, equal elements in their order. -/
def sortBy {α : Type} (m : α → Nat) (xs : List α) : List α := xs.foldl (fun acc x => insertBy m x acc) []

/-- The element of least measure, the first of equals. -/
def leastBy {α : Type} (m : α → Nat) (xs : List α) : Option α := (sortBy m xs).head?

end Sys2Proof.Machine
end

