-- ==== Sys2Proof/Machine/Sparse.lean ====
section
/-!
DEFINITION. Sparse tables: plain lists of (key, value) pairs with the keys strictly rising and no entry equal to
what an unlisted key reads as. Memories, register fields and the controller's numbered units (R4) are held so, and two
tables that read alike are equal data.
-/
namespace Sys2Proof.Machine

/-- A table from natural numbers to values. -/
abbrev Table (α : Type) := List (Nat × α)

/-- The value at key `k`; `d k` where the table lists none. -/
def Table.get {α : Type} (d : Nat → α) : Table α → Nat → α
  | [], k => d k
  | (j, v) :: m, k => if j = k then v else Table.get d m k

/-- `m` with (k, v) put in before the first greater key. -/
def Table.insert {α : Type} (k : Nat) (v : α) : Table α → Table α
  | [] => [(k, v)]
  | (j, w) :: m => if k < j then (k, v) :: (j, w) :: m else (j, w) :: Table.insert k v m

/-- `m` without an entry for `k`. -/
def Table.erase {α : Type} (k : Nat) : Table α → Table α
  | [] => []
  | (j, w) :: m => if j = k then Table.erase k m else (j, w) :: Table.erase k m

/-- `m` with `v` at `k`; writing what an unlisted key reads as removes the entry. -/
def Table.set {α : Type} [DecidableEq α] (d : Nat → α) (m : Table α) (k : Nat) (v : α) : Table α :=
  if v = d k then Table.erase k m else Table.insert k v (Table.erase k m)

/-- Every key is greater than `lo` and the keys rise strictly. -/
def Table.risesFrom {α : Type} : Nat → Table α → Bool
  | _, [] => true
  | lo, (j, _) :: m => decide (lo < j) && Table.risesFrom j m

/-- The keys rise strictly. -/
def Table.rising {α : Type} : Table α → Bool
  | [] => true
  | (j, _) :: m => Table.risesFrom j m

/-- The canonical form: strictly rising keys and no entry equal to what an unlisted key reads as. -/
def Table.wf {α : Type} [DecidableEq α] (d : Nat → α) (m : Table α) : Bool :=
  Table.rising m && m.all (fun e => decide (e.2 ≠ d e.1))

/-- The table of numbered units of one kind, every unlisted unit as `u`. -/
abbrev Table.at {α : Type} (u : α) (m : Table α) (k : Nat) : α := Table.get (fun _ => u) m k

/-- The table with unit `k` set to `v`, every unlisted unit as `u`. -/
abbrev Table.put {α : Type} [DecidableEq α] (u : α) (m : Table α) (k : Nat) (v : α) : Table α :=
  Table.set (fun _ => u) m k v

end Sys2Proof.Machine
end

