-- ==== Sys2Proof/Machine/Regs.lean ====
section
/-!
DEFINITION. The register tables of the chapters (R15, R551, R552): every field of every register by name, and the rows
by which an access to a BAR0 offset finds the register's fields. A field is known by its number `id` and by the index
`ix` of its register among those of the same name, so that two fields never share a place in the register file.
-/
namespace Sys2Proof.Machine

/-- One field of one register: its number, which of the like registers, its width, its value after a full device reset. -/
structure Fld where
  id : Nat
  ix : Nat
  width : Nat
  reset : Nat
  deriving DecidableEq, Repr

/-- The place of a field in the register file: 1,024 field numbers to an index. -/
def Fld.key (f : Fld) : Nat := 1024 * f.ix + f.id

/-- The access types of R15. -/
inductive FieldKind where
  | ro | rw | rw1c | wo | rws
  deriving DecidableEq, Repr

/-- What a register is besides its fields: half of a statistics counter (R405), half of another pair read LO first
(R558), or neither. -/
inductive RegRole where
  | plain | counterLo | counterHi | pairLo | pairHi
  deriving DecidableEq, Repr

/-- One field as the register table lists it. -/
structure FieldRow where
  id : Nat
  lo : Nat
  width : Nat
  kind : FieldKind
  reset : Nat
  deriving DecidableEq, Repr

/-- One row of the register map: the offset of the first of the like registers, the (count, stride) of each index, if
each function has its own, if only data functions have it, how many PF0 has (0: all), the index of the first, its role
and fields. -/
structure RegRow where
  base : Nat
  dims : List (Nat × Nat)
  perFn : Bool
  dataOnly : Bool
  pf0Count : Nat
  ix0 : Nat
  role : RegRole
  fields : List FieldRow
  deriving DecidableEq, Repr

/-- Field `r` of the register with index `ix`. -/
def FieldRow.fld (r : FieldRow) (ix : Nat) : Fld := ⟨r.id, ix, r.width, r.reset⟩

/-- The index among like registers that lies `rem` bytes past the first, where there is one. -/
def dimsIndex : List (Nat × Nat) → (rem acc : Nat) → Option Nat
  | [], rem, acc => if rem = 0 then some acc else none
  | (count, stride) :: ds, rem, acc =>
    if rem / stride < count then dimsIndex ds (rem % stride) (acc * count + rem / stride) else none

/-- The index of the register of row `r` at offset `off` of function `fn`, where it has one there. -/
def RegRow.index (r : RegRow) (fn off : Nat) : Option Nat :=
  if off < r.base then none
  else if r.perFn = false ∧ fn ≠ 0 then none
  else if r.dataOnly = true ∧ fn = 0 then none
  else
    match dimsIndex r.dims (off - r.base) (if r.perFn then fn else r.ix0) with
    | none => none
    | some ix => if r.pf0Count ≠ 0 ∧ fn = 0 ∧ r.pf0Count ≤ ix then none else some ix

namespace F

/-! HIF_FUNC_STATUS (R431) -/
def HIF_FUNC_STATUS_READY (f : Nat) : Fld := ⟨0, f, 1, 0⟩
def HIF_FUNC_STATUS_WEDGED (f : Nat) : Fld := ⟨1, f, 1, 0⟩
def HIF_FUNC_STATUS_FLR_BUSY (f : Nat) : Fld := ⟨2, f, 1, 0⟩
def HIF_FUNC_STATUS_D_STATE (f : Nat) : Fld := ⟨3, f, 2, 0⟩
/-! HIF_LINK_STATUS (R431) -/
def HIF_LINK_STATUS_RATE : Fld := ⟨4, 0, 3, 0⟩
def HIF_LINK_STATUS_WIDTH : Fld := ⟨5, 0, 5, 0⟩
def HIF_LINK_STATUS_PM : Fld := ⟨6, 0, 3, 0⟩
/-! HIF_ASPM_CFG (R431) -/
def HIF_ASPM_CFG_L0S_IDLE : Fld := ⟨7, 0, 8, 16⟩
def HIF_ASPM_CFG_L1_IDLE : Fld := ⟨8, 0, 16, 32⟩
/-! HIF_LTR (R431) -/
def HIF_LTR_IDLE_US : Fld := ⟨9, 0, 16, 100⟩
def HIF_LTR_ACTIVE_US : Fld := ⟨10, 0, 16, 10⟩
/-! HIF_CPL_TO (R431) -/
def HIF_CPL_TO_TIMEOUT_US (f : Nat) : Fld := ⟨11, f, 16, 16000⟩
/-! HIF_WDOG (R431) -/
def HIF_WDOG_TIMEOUT_MS : Fld := ⟨12, 0, 16, 100⟩
/-! HIF_TAG_STATUS (R431) -/
def HIF_TAG_STATUS_OUTSTANDING (f : Nat) : Fld := ⟨13, f, 10, 0⟩
def HIF_TAG_STATUS_QUARANTINED (f : Nat) : Fld := ⟨14, f, 10, 0⟩
/-! HIF_ERR_STATUS (R431) -/
def HIF_ERR_STATUS_CPL_TIMEOUT (f : Nat) : Fld := ⟨15, f, 1, 0⟩
def HIF_ERR_STATUS_UNEXP_CPL (f : Nat) : Fld := ⟨16, f, 1, 0⟩
def HIF_ERR_STATUS_POISON_RX (f : Nat) : Fld := ⟨17, f, 1, 0⟩
def HIF_ERR_STATUS_PEER_UR (f : Nat) : Fld := ⟨18, f, 1, 0⟩
/-! HIF_CPL_TIMEOUTS_LO (R431) -/
def HIF_CPL_TIMEOUTS_LO_COUNT (f : Nat) : Fld := ⟨19, f, 32, 0⟩
/-! HIF_CPL_TIMEOUTS_HI (R431) -/
def HIF_CPL_TIMEOUTS_HI_COUNT (f : Nat) : Fld := ⟨20, f, 16, 0⟩
/-! HIF_UNEXP_CPL_LO (R431) -/
def HIF_UNEXP_CPL_LO_COUNT (f : Nat) : Fld := ⟨21, f, 32, 0⟩
/-! HIF_UNEXP_CPL_HI (R431) -/
def HIF_UNEXP_CPL_HI_COUNT (f : Nat) : Fld := ⟨22, f, 16, 0⟩
/-! HIF_POISON_RX_LO (R431) -/
def HIF_POISON_RX_LO_COUNT (f : Nat) : Fld := ⟨23, f, 32, 0⟩
/-! HIF_POISON_RX_HI (R431) -/
def HIF_POISON_RX_HI_COUNT (f : Nat) : Fld := ⟨24, f, 16, 0⟩
/-! HIF_WIN_CFG (R431) -/
def HIF_WIN_CFG_ENABLE (f : Nat) (w : Nat) : Fld := ⟨25, (f * 4 + w), 1, 0⟩
def HIF_WIN_CFG_NBLK (f : Nat) (w : Nat) : Fld := ⟨26, (f * 4 + w), 5, 1⟩
/-! HIF_WIN_SLOT (R431) -/
def HIF_WIN_SLOT_SLOT (f : Nat) (w : Nat) : Fld := ⟨27, (f * 4 + w), 12, 0⟩
/-! HIF_WIN_BLOCK (R431) -/
def HIF_WIN_BLOCK_BLOCK (f : Nat) (w : Nat) : Fld := ⟨28, (f * 4 + w), 22, 0⟩
/-! HIF_WIN_COMMIT (R431) -/
def HIF_WIN_COMMIT_COMMIT (f : Nat) : Fld := ⟨29, f, 1, 0⟩
def HIF_WIN_COMMIT_PENDING (f : Nat) : Fld := ⟨30, f, 1, 0⟩
/-! EVT_Q_BASE_LO (R407) -/
def EVT_Q_BASE_LO_BASE : Fld := ⟨31, 0, 20, 0⟩
/-! EVT_Q_BASE_HI (R407) -/
def EVT_Q_BASE_HI_BASE : Fld := ⟨32, 0, 32, 0⟩
/-! EVT_Q_CFG (R407) -/
def EVT_Q_CFG_SIZE_LOG2 : Fld := ⟨33, 0, 5, 4⟩
def EVT_Q_CFG_VECTOR : Fld := ⟨34, 0, 6, 0⟩
def EVT_Q_CFG_ENABLE : Fld := ⟨35, 0, 1, 0⟩
/-! EVT_Q_STATUS (R407) -/
def EVT_Q_STATUS_TAIL : Fld := ⟨36, 0, 16, 0⟩
def EVT_Q_STATUS_HELD : Fld := ⟨37, 0, 1, 0⟩
def EVT_Q_STATUS_ERR : Fld := ⟨38, 0, 1, 0⟩
def EVT_Q_STATUS_STAGED : Fld := ⟨39, 0, 8, 0⟩
/-! EVT_Q_LOST (R407) -/
def EVT_Q_LOST_LOST : Fld := ⟨40, 0, 32, 0⟩
/-! EVT_RANGE_EN (R407) -/
def EVT_RANGE_EN_EN : Fld := ⟨41, 0, 15, 32767⟩
/-! EVT_CNT_CTRL (R407) -/
def EVT_CNT_CTRL_CLEAR_ALL : Fld := ⟨42, 0, 1, 0⟩
/-! EVT_VEC_MOD (R407) -/
def EVT_VEC_MOD_COUNT (f : Nat) (m : Nat) : Fld := ⟨43, (f * 64 + m), 8, 1⟩
def EVT_VEC_MOD_TIME (f : Nat) (m : Nat) : Fld := ⟨44, (f * 64 + m), 16, 0⟩
def EVT_VEC_MOD_URGENT (f : Nat) (m : Nat) : Fld := ⟨45, (f * 64 + m), 1, 1⟩
/-! RING_SQ_BASE_LO (R390) -/
def RING_SQ_BASE_LO_BASE (f : Nat) (i : Nat) : Fld := ⟨46, (f * 32 + i), 20, 0⟩
/-! RING_SQ_BASE_HI (R390) -/
def RING_SQ_BASE_HI_BASE (f : Nat) (i : Nat) : Fld := ⟨47, (f * 32 + i), 32, 0⟩
/-! RING_SQ_CFG (R390) -/
def RING_SQ_CFG_SIZE_LOG2 (f : Nat) (i : Nat) : Fld := ⟨48, (f * 32 + i), 5, 4⟩
def RING_SQ_CFG_CQ (f : Nat) (i : Nat) : Fld := ⟨49, (f * 32 + i), 5, 0⟩
def RING_SQ_CFG_PRIO (f : Nat) (i : Nat) : Fld := ⟨50, (f * 32 + i), 2, 0⟩
def RING_SQ_CFG_FORMAT (f : Nat) (i : Nat) : Fld := ⟨51, (f * 32 + i), 1, 0⟩
def RING_SQ_CFG_ENABLE (f : Nat) (i : Nat) : Fld := ⟨52, (f * 32 + i), 1, 0⟩
/-! RING_SQ_STATUS (R390) -/
def RING_SQ_STATUS_HEAD (f : Nat) (i : Nat) : Fld := ⟨53, (f * 32 + i), 16, 0⟩
def RING_SQ_STATUS_ERR (f : Nat) (i : Nat) : Fld := ⟨54, (f * 32 + i), 1, 0⟩
def RING_SQ_STATUS_ERR_CODE (f : Nat) (i : Nat) : Fld := ⟨55, (f * 32 + i), 3, 0⟩
def RING_SQ_STATUS_STOPPED (f : Nat) (i : Nat) : Fld := ⟨56, (f * 32 + i), 1, 0⟩
/-! RING_CQ_BASE_LO (R390) -/
def RING_CQ_BASE_LO_BASE (f : Nat) (i : Nat) : Fld := ⟨57, (f * 32 + i), 20, 0⟩
/-! RING_CQ_BASE_HI (R390) -/
def RING_CQ_BASE_HI_BASE (f : Nat) (i : Nat) : Fld := ⟨58, (f * 32 + i), 32, 0⟩
/-! RING_CQ_CFG (R390) -/
def RING_CQ_CFG_SIZE_LOG2 (f : Nat) (i : Nat) : Fld := ⟨59, (f * 32 + i), 5, 4⟩
def RING_CQ_CFG_VECTOR (f : Nat) (i : Nat) : Fld := ⟨60, (f * 32 + i), 6, 0⟩
def RING_CQ_CFG_ENABLE (f : Nat) (i : Nat) : Fld := ⟨61, (f * 32 + i), 1, 0⟩
/-! RING_CQ_STATUS (R390) -/
def RING_CQ_STATUS_TAIL (f : Nat) (i : Nat) : Fld := ⟨62, (f * 32 + i), 16, 0⟩
def RING_CQ_STATUS_FULL (f : Nat) (i : Nat) : Fld := ⟨63, (f * 32 + i), 1, 0⟩
def RING_CQ_STATUS_ERR (f : Nat) (i : Nat) : Fld := ⟨64, (f * 32 + i), 1, 0⟩
def RING_CQ_STATUS_ERR_CODE (f : Nat) (i : Nat) : Fld := ⟨65, (f * 32 + i), 3, 0⟩
/-! RING_QUEUE_STATUS (R390) -/
def RING_QUEUE_STATUS_TAGS (q : Nat) : Fld := ⟨66, q, 6, 0⟩
def RING_QUEUE_STATUS_ADMITTED (q : Nat) : Fld := ⟨67, q, 6, 0⟩
def RING_QUEUE_STATUS_LOCK_WAIT (q : Nat) : Fld := ⟨68, q, 1, 0⟩
def RING_QUEUE_STATUS_HELD (q : Nat) : Fld := ⟨69, q, 1, 0⟩
/-! RING_LOCK_STATUS (R390) -/
def RING_LOCK_STATUS_USED : Fld := ⟨70, 0, 8, 0⟩
def RING_LOCK_STATUS_FULL : Fld := ⟨71, 0, 1, 0⟩
/-! RING_DB_DISCARD (R390) -/
def RING_DB_DISCARD_COUNT : Fld := ⟨72, 0, 16, 0⟩
/-! MEM_CTRL (R316) -/
def MEM_CTRL_SCRUB_EN : Fld := ⟨73, 0, 1, 1⟩
def MEM_CTRL_CNT_CLR : Fld := ⟨74, 0, 1, 0⟩
/-! MEM_STATUS (R316) -/
def MEM_STATUS_UE : Fld := ⟨75, 0, 1, 0⟩
def MEM_STATUS_CE_LIMIT : Fld := ⟨76, 0, 1, 0⟩
def MEM_STATUS_SCRUB_SLOW : Fld := ⟨77, 0, 1, 0⟩
def MEM_STATUS_CNT_SAT : Fld := ⟨78, 0, 1, 0⟩
def MEM_STATUS_MERGE_BUSY : Fld := ⟨79, 0, 4, 0⟩
/-! MEM_ERR_COUNT (R316) -/
def MEM_ERR_COUNT_CE : Fld := ⟨80, 0, 16, 0⟩
def MEM_ERR_COUNT_UE : Fld := ⟨81, 0, 16, 0⟩
/-! MEM_CE_CFG (R316) -/
def MEM_CE_CFG_CE_LIMIT : Fld := ⟨82, 0, 16, 256⟩
/-! MEM_SCRUB_CFG (R316) -/
def MEM_SCRUB_CFG_GAP : Fld := ⟨83, 0, 16, 300⟩
def MEM_SCRUB_CFG_REGIONS : Fld := ⟨84, 0, 8, 51⟩
/-! MEM_SCRUB_LIMIT (R316) -/
def MEM_SCRUB_LIMIT_LIMIT_MS : Fld := ⟨85, 0, 16, 10000⟩
/-! MEM_SCRUB_LAP (R316) -/
def MEM_SCRUB_LAP_LAST_MS : Fld := ⟨86, 0, 16, 0⟩
def MEM_SCRUB_LAP_LAPS : Fld := ⟨87, 0, 16, 0⟩
/-! MEM_SCRUB_POS (R316) -/
def MEM_SCRUB_POS_ROW : Fld := ⟨88, 0, 15, 0⟩
/-! MEM_LOG_HEAD (R316) -/
def MEM_LOG_HEAD_NEXT : Fld := ⟨89, 0, 4, 0⟩
def MEM_LOG_HEAD_TOTAL : Fld := ⟨90, 0, 16, 0⟩
/-! MEM_INJECT (R316) -/
def MEM_INJECT_ADDR : Fld := ⟨91, 0, 22, 0⟩
def MEM_INJECT_ARM : Fld := ⟨92, 0, 1, 0⟩
def MEM_INJECT_DOUBLE : Fld := ⟨93, 0, 1, 0⟩
def MEM_INJECT_PENDING : Fld := ⟨94, 0, 1, 0⟩
/-! MEM_LOG_ADDR (R316) -/
def MEM_LOG_ADDR_ADDR (e : Nat) : Fld := ⟨95, e, 26, 0⟩
def MEM_LOG_ADDR_REGION (e : Nat) : Fld := ⟨96, e, 3, 0⟩
def MEM_LOG_ADDR_UNCORR (e : Nat) : Fld := ⟨97, e, 1, 0⟩
/-! MEM_LOG_REQ (R316) -/
def MEM_LOG_REQ_REQUESTER (e : Nat) : Fld := ⟨98, e, 8, 0⟩
def MEM_LOG_REQ_SYNDROME (e : Nat) : Fld := ⟨99, e, 9, 0⟩
def MEM_LOG_REQ_BANK (e : Nat) : Fld := ⟨100, e, 7, 0⟩
/-! MEM_LOG_TIME_LO (R316) -/
def MEM_LOG_TIME_LO_TIME_LO (e : Nat) : Fld := ⟨101, e, 32, 0⟩
/-! MEM_LOG_TIME_HI (R316) -/
def MEM_LOG_TIME_HI_TIME_HI (e : Nat) : Fld := ⟨102, e, 32, 0⟩
/-! CCH_CTRL (R342) -/
def CCH_CTRL_ENABLE : Fld := ⟨103, 0, 1, 1⟩
def CCH_CTRL_STATE : Fld := ⟨104, 0, 2, 0⟩
/-! CCH_STATUS (R342) -/
def CCH_STATUS_REJECTED : Fld := ⟨105, 0, 1, 0⟩
def CCH_STATUS_PEER_ABORT : Fld := ⟨106, 0, 1, 0⟩
def CCH_STATUS_LOCK_FULL : Fld := ⟨107, 0, 1, 0⟩
def CCH_STATUS_WAIT : Fld := ⟨108, 0, 1, 0⟩
def CCH_STATUS_LOCKED : Fld := ⟨109, 0, 6, 0⟩
def CCH_STATUS_DIRTY : Fld := ⟨110, 0, 6, 0⟩
def CCH_STATUS_FREE : Fld := ⟨111, 0, 6, 48⟩
/-! CCH_FN_CFG (R342) -/
def CCH_FN_CFG_WT_PF1 : Fld := ⟨112, 0, 1, 0⟩
def CCH_FN_CFG_WT_PF2 : Fld := ⟨113, 0, 1, 0⟩
def CCH_FN_CFG_WT_PF3 : Fld := ⟨114, 0, 1, 0⟩
/-! CCH_RA (R342) -/
def CCH_RA_DEPTH : Fld := ⟨115, 0, 8, 8⟩
def CCH_RA_EN : Fld := ⟨116, 0, 1, 1⟩
/-! CCH_PEER (R342) -/
def CCH_PEER_WAIT_MS : Fld := ⟨117, 0, 16, 10⟩
/-! CCH_MASK_LO (R342) -/
def CCH_MASK_LO_MASK (c : Nat) : Fld := ⟨118, c, 32, (if c < 4 then 0xFFFFFFFF else 0)⟩
/-! CCH_MASK_HI (R342) -/
def CCH_MASK_HI_MASK (c : Nat) : Fld := ⟨119, c, 16, (if c < 4 then 0x00FF else if c = 4 then 0x0F00 else 0xF000)⟩
/-! CCH_HIT_LO (R342) -/
def CCH_HIT_LO_COUNT : Fld := ⟨120, 0, 32, 0⟩
/-! CCH_HIT_HI (R342) -/
def CCH_HIT_HI_COUNT : Fld := ⟨121, 0, 16, 0⟩
/-! CCH_MISS_LO (R342) -/
def CCH_MISS_LO_COUNT : Fld := ⟨122, 0, 32, 0⟩
/-! CCH_MISS_HI (R342) -/
def CCH_MISS_HI_COUNT : Fld := ⟨123, 0, 16, 0⟩
/-! CCH_RESCUE_LO (R342) -/
def CCH_RESCUE_LO_COUNT : Fld := ⟨124, 0, 32, 0⟩
/-! CCH_RESCUE_HI (R342) -/
def CCH_RESCUE_HI_COUNT : Fld := ⟨125, 0, 16, 0⟩
/-! CCH_RA_CLAIMED_LO (R342) -/
def CCH_RA_CLAIMED_LO_COUNT : Fld := ⟨126, 0, 32, 0⟩
/-! CCH_RA_CLAIMED_HI (R342) -/
def CCH_RA_CLAIMED_HI_COUNT : Fld := ⟨127, 0, 16, 0⟩
/-! CCH_RA_UNUSED_LO (R342) -/
def CCH_RA_UNUSED_LO_COUNT : Fld := ⟨128, 0, 32, 0⟩
/-! CCH_RA_UNUSED_HI (R342) -/
def CCH_RA_UNUSED_HI_COUNT : Fld := ⟨129, 0, 16, 0⟩
/-! CCH_ENTRY_STATUS (R342) -/
def CCH_ENTRY_STATUS_STATE (e : Nat) : Fld := ⟨130, e, 3, 0⟩
def CCH_ENTRY_STATUS_CLASS (e : Nat) : Fld := ⟨131, e, 3, 0⟩
def CCH_ENTRY_STATUS_LOCKED (e : Nat) : Fld := ⟨132, e, 1, 0⟩
def CCH_ENTRY_STATUS_SPEC (e : Nat) : Fld := ⟨133, e, 1, 0⟩
def CCH_ENTRY_STATUS_EVICT_WAIT (e : Nat) : Fld := ⟨134, e, 1, 0⟩
def CCH_ENTRY_STATUS_FINAL (e : Nat) : Fld := ⟨135, e, 7, 0⟩
/-! CCH_ENTRY_BLOCK (R342) -/
def CCH_ENTRY_BLOCK_BLOCK (e : Nat) : Fld := ⟨136, e, 22, 0⟩
/-! CCH_ENTRY_SLOT (R342) -/
def CCH_ENTRY_SLOT_SLOT (e : Nat) : Fld := ⟨137, e, 12, 0⟩
/-! CIP_CTRL (R362) -/
def CIP_CTRL_JOB_MIN : Fld := ⟨138, 0, 3, 2⟩
/-! CIP_STATUS (R362) -/
def CIP_STATUS_BUSY : Fld := ⟨139, 0, 1, 0⟩
def CIP_STATUS_REJECTED : Fld := ⟨140, 0, 1, 0⟩
/-! CIP_KEY_DATA (R362) -/
def CIP_KEY_DATA_DATA (k : Nat) : Fld := ⟨141, k, 32, 0⟩
/-! CIP_KEY_CFG (R362) -/
def CIP_KEY_CFG_LABEL : Fld := ⟨142, 0, 32, 0⟩
/-! CIP_KEY_CFG2 (R362) -/
def CIP_KEY_CFG2_LEN : Fld := ⟨143, 0, 2, 0⟩
def CIP_KEY_CFG2_FN_MASK : Fld := ⟨144, 0, 4, 0⟩
/-! CIP_KEY_CMD (R362) -/
def CIP_KEY_CMD_SLOT : Fld := ⟨145, 0, 6, 0⟩
def CIP_KEY_CMD_OP : Fld := ⟨146, 0, 2, 0⟩
/-! CIP_AUTH_FAIL_LO (R362) -/
def CIP_AUTH_FAIL_LO_COUNT : Fld := ⟨147, 0, 32, 0⟩
/-! CIP_AUTH_FAIL_HI (R362) -/
def CIP_AUTH_FAIL_HI_COUNT : Fld := ⟨148, 0, 16, 0⟩
/-! CIP_JOB_BLOCKS_LO (R362) -/
def CIP_JOB_BLOCKS_LO_COUNT : Fld := ⟨149, 0, 32, 0⟩
/-! CIP_JOB_BLOCKS_HI (R362) -/
def CIP_JOB_BLOCKS_HI_COUNT : Fld := ⟨150, 0, 16, 0⟩
/-! CIP_ID_PUB (R362) -/
def CIP_ID_PUB_KEY (k : Nat) : Fld := ⟨151, k, 32, 0⟩
/-! CIP_KEYSLOT_GEN_LO (R362) -/
def CIP_KEYSLOT_GEN_LO_GEN (sl : Nat) : Fld := ⟨152, sl, 32, 0⟩
/-! CIP_KEYSLOT_GEN_HI (R362) -/
def CIP_KEYSLOT_GEN_HI_GEN (sl : Nat) : Fld := ⟨153, sl, 32, 0⟩
/-! CIP_KEYSLOT_LABEL (R362) -/
def CIP_KEYSLOT_LABEL_LABEL (sl : Nat) : Fld := ⟨154, sl, 32, 0⟩
/-! CIP_KEYSLOT_INFO (R362) -/
def CIP_KEYSLOT_INFO_LOADED (sl : Nat) : Fld := ⟨155, sl, 1, 0⟩
def CIP_KEYSLOT_INFO_LEN (sl : Nat) : Fld := ⟨156, sl, 2, 0⟩
def CIP_KEYSLOT_INFO_FN_MASK (sl : Nat) : Fld := ⟨157, sl, 4, 0⟩
/-! SRV_LP_CTRL (R127) -/
def SRV_LP_CTRL_MODE_FOCUS (n : Nat) : Fld := ⟨158, n, 2, 0⟩
def SRV_LP_CTRL_MODE_TRACK (n : Nat) : Fld := ⟨159, n, 2, 0⟩
def SRV_LP_CTRL_MODE_TILT (n : Nat) : Fld := ⟨160, n, 2, 0⟩
def SRV_LP_CTRL_MODE_SLED (n : Nat) : Fld := ⟨161, n, 2, 0⟩
def SRV_LP_CTRL_OUT_DELAY (n : Nat) : Fld := ⟨162, n, 8, 150⟩
/-! SRV_LP_STATUS (R127) -/
def SRV_LP_STATUS_LATE (n : Nat) : Fld := ⟨163, n, 1, 0⟩
def SRV_LP_STATUS_SKIPPED (n : Nat) : Fld := ⟨164, n, 1, 0⟩
def SRV_LP_STATUS_BELAY_LATE (n : Nat) : Fld := ⟨165, n, 1, 0⟩
def SRV_LP_STATUS_COST_OVER (n : Nat) : Fld := ⟨166, n, 1, 0⟩
def SRV_LP_STATUS_SAT (n : Nat) : Fld := ⟨167, n, 4, 0⟩
def SRV_LP_STATUS_LIM (n : Nat) : Fld := ⟨168, n, 4, 0⟩
def SRV_LP_STATUS_HOLD (n : Nat) : Fld := ⟨169, n, 4, 0⟩
/-! SRV_LP_COST (R127) -/
def SRV_LP_COST_FAST_NS (n : Nat) : Fld := ⟨170, n, 11, 60⟩
def SRV_LP_COST_SLED_NS (n : Nat) : Fld := ⟨171, n, 11, 20⟩
/-! SRV_LATE_RUN (R127) -/
def SRV_LATE_RUN_LATE (n : Nat) : Fld := ⟨172, n, 16, 0⟩
def SRV_LATE_RUN_ON_TIME (n : Nat) : Fld := ⟨173, n, 16, 0⟩
/-! SRV_LATE_COUNT_LO (R127) -/
def SRV_LATE_COUNT_LO_COUNT (n : Nat) : Fld := ⟨174, n, 32, 0⟩
/-! SRV_LATE_COUNT_HI (R127) -/
def SRV_LATE_COUNT_HI_COUNT (n : Nat) : Fld := ⟨175, n, 16, 0⟩
/-! SRV_TRKLP (R127) -/
def SRV_TRKLP_K (n : Nat) : Fld := ⟨176, n, 4, 10⟩
/-! SRV_DAC_FT (R127) -/
def SRV_DAC_FT_FOC (n : Nat) : Fld := ⟨177, n, 16, 0⟩
def SRV_DAC_FT_TRK (n : Nat) : Fld := ⟨178, n, 16, 0⟩
/-! SRV_DAC_TLT (R127) -/
def SRV_DAC_TLT_TLT (n : Nat) : Fld := ⟨179, n, 16, 0⟩
/-! SRV_INJ_CFG (R127) -/
def SRV_INJ_CFG_ENABLE (n : Nat) : Fld := ⟨180, n, 1, 0⟩
def SRV_INJ_CFG_AMP (n : Nat) : Fld := ⟨181, n, 16, 0⟩
/-! SRV_INJ_FREQ (R127) -/
def SRV_INJ_FREQ_INC (n : Nat) : Fld := ⟨182, n, 32, 0⟩
/-! SRV_TRC_CTRL (R127) -/
def SRV_TRC_CTRL_ARM (n : Nat) : Fld := ⟨183, n, 1, 0⟩
def SRV_TRC_CTRL_STOP (n : Nat) : Fld := ⟨184, n, 1, 0⟩
def SRV_TRC_CTRL_FIRE (n : Nat) : Fld := ⟨185, n, 1, 0⟩
def SRV_TRC_CTRL_DECIM (n : Nat) : Fld := ⟨186, n, 3, 0⟩
def SRV_TRC_CTRL_POST (n : Nat) : Fld := ⟨187, n, 12, 2048⟩
/-! SRV_TRC_TRIG (R127) -/
def SRV_TRC_TRIG_SOURCE (n : Nat) : Fld := ⟨188, n, 4, 0⟩
def SRV_TRC_TRIG_PROBE (n : Nat) : Fld := ⟨189, n, 3, 0⟩
def SRV_TRC_TRIG_EDGE (n : Nat) : Fld := ⟨190, n, 1, 0⟩
/-! SRV_TRC_LEVEL (R127) -/
def SRV_TRC_LEVEL_LEVEL (n : Nat) : Fld := ⟨191, n, 32, 0⟩
/-! SRV_TRC_STATUS (R127) -/
def SRV_TRC_STATUS_STATE (n : Nat) : Fld := ⟨192, n, 2, 0⟩
def SRV_TRC_STATUS_DONE (n : Nat) : Fld := ⟨193, n, 1, 0⟩
def SRV_TRC_STATUS_OLDEST (n : Nat) : Fld := ⟨194, n, 12, 0⟩
def SRV_TRC_STATUS_COUNT (n : Nat) : Fld := ⟨195, n, 13, 0⟩
/-! SRV_TRC_TIME_LO (R127) -/
def SRV_TRC_TIME_LO_TIME (n : Nat) : Fld := ⟨196, n, 32, 0⟩
/-! SRV_TRC_TIME_HI (R127) -/
def SRV_TRC_TIME_HI_TIME (n : Nat) : Fld := ⟨197, n, 32, 0⟩
/-! SRV_TRC_PROBE (R127) -/
def SRV_TRC_PROBE_SOURCE (n : Nat) (m : Nat) : Fld := ⟨198, (n * 8 + m), 8, 0⟩
/-! SRV_PU_STATE (R149) -/
def SRV_PU_STATE_STATE (n : Nat) : Fld := ⟨199, n, 4, 0⟩
def SRV_PU_STATE_BELAY_CAUSE (n : Nat) : Fld := ⟨200, n, 4, 0⟩
def SRV_PU_STATE_LAYER (n : Nat) : Fld := ⟨201, n, 3, 0⟩
def SRV_PU_STATE_SIDE (n : Nat) : Fld := ⟨202, n, 1, 0⟩
def SRV_PU_STATE_B0_SPIRAL (n : Nat) : Fld := ⟨203, n, 2, 0⟩
def SRV_PU_STATE_RECOVER_COUNT (n : Nat) : Fld := ⟨204, n, 2, 0⟩
/-! SRV_PU_CTRL (R149) -/
def SRV_PU_CTRL_BELAY_REQ (n : Nat) : Fld := ⟨205, n, 1, 0⟩
/-! SRV_FOC_SEARCH (R149) -/
def SRV_FOC_SEARCH_PARK (n : Nat) : Fld := ⟨206, n, 16, 16384⟩
def SRV_FOC_SEARCH_LIMIT (n : Nat) : Fld := ⟨207, n, 16, 49152⟩
/-! SRV_FOC_CFG (R149) -/
def SRV_FOC_CFG_SWEEP_MS (n : Nat) : Fld := ⟨208, n, 8, 20⟩
def SRV_FOC_CFG_LAYER_SUM_MIN (n : Nat) : Fld := ⟨209, n, 12, 1024⟩
def SRV_FOC_CFG_FE_LOCK (n : Nat) : Fld := ⟨210, n, 12, 410⟩
/-! SRV_LOSS_CFG (R149) -/
def SRV_LOSS_CFG_SUM_LOST (n : Nat) : Fld := ⟨211, n, 12, 410⟩
def SRV_LOSS_CFG_FE_LOST (n : Nat) : Fld := ⟨212, n, 12, 2048⟩
def SRV_LOSS_CFG_LOST_N (n : Nat) : Fld := ⟨213, n, 8, 16⟩
/-! SRV_TRK_CFG (R149) -/
def SRV_TRK_CFG_TE_LOCK (n : Nat) : Fld := ⟨214, n, 12, 410⟩
def SRV_TRK_CFG_TE_LOST (n : Nat) : Fld := ⟨215, n, 12, 1638⟩
/-! SRV_WGATE_CFG (R149) -/
def SRV_WGATE_CFG_WRITE_TE_MAX (n : Nat) : Fld := ⟨216, n, 12, 164⟩
def SRV_WGATE_CFG_WRITE_FE_MAX (n : Nat) : Fld := ⟨217, n, 12, 205⟩
/-! SRV_DEFECT_CFG (R149) -/
def SRV_DEFECT_CFG_DEFECT_MAX (n : Nat) : Fld := ⟨218, n, 16, 128⟩
def SRV_DEFECT_CFG_FINE_MAX (n : Nat) : Fld := ⟨219, n, 8, 64⟩
def SRV_DEFECT_CFG_RECOVER_MAX (n : Nat) : Fld := ⟨220, n, 2, 2⟩
/-! SRV_JUMP_CFG (R149) -/
def SRV_JUMP_CFG_KICK (n : Nat) : Fld := ⟨221, n, 16, 2048⟩
def SRV_JUMP_CFG_TKICK (n : Nat) : Fld := ⟨222, n, 16, 1536⟩
/-! SRV_SEEK_CFG (R149) -/
def SRV_SEEK_CFG_VMAX (n : Nat) : Fld := ⟨223, n, 16, 2000⟩
def SRV_SEEK_CFG_ACC (n : Nat) : Fld := ⟨224, n, 16, 400⟩
/-! SRV_BAE_REF (R149) -/
def SRV_BAE_REF_REF0 (n : Nat) : Fld := ⟨225, n, 16, 0⟩
def SRV_BAE_REF_REF_SLOPE (n : Nat) : Fld := ⟨226, n, 16, 0⟩
/-! SRV_BAE_LIM (R149) -/
def SRV_BAE_LIM_WARN (n : Nat) : Fld := ⟨227, n, 16, 655⟩
def SRV_BAE_LIM_FAULT (n : Nat) : Fld := ⟨228, n, 16, 1638⟩
/-! SRV_BAE_REV (R149) -/
def SRV_BAE_REV_BAE_REV (n : Nat) : Fld := ⟨229, n, 16, 0⟩
def SRV_BAE_REV_FOCUS_LOST (n : Nat) : Fld := ⟨230, n, 1, 0⟩
def SRV_BAE_REV_TRACK_LOST (n : Nat) : Fld := ⟨231, n, 1, 0⟩
def SRV_BAE_REV_DEFECT_LONG (n : Nat) : Fld := ⟨232, n, 1, 0⟩
def SRV_BAE_REV_BAE_WARN (n : Nat) : Fld := ⟨233, n, 1, 0⟩
def SRV_BAE_REV_BAE_FAULT (n : Nat) : Fld := ⟨234, n, 1, 0⟩
def SRV_BAE_REV_GATE_CLOSED (n : Nat) : Fld := ⟨235, n, 1, 0⟩
/-! SRV_AFE_CFG (R97) -/
def SRV_AFE_CFG_AVG (n : Nat) : Fld := ⟨236, n, 3, 4⟩
def SRV_AFE_CFG_AVG_CLAMPED (n : Nat) : Fld := ⟨237, n, 1, 0⟩
/-! SRV_DARK (R97) -/
def SRV_DARK_OFFSET (n : Nat) (m : Nat) : Fld := ⟨238, (n * 10 + m), 16, 0⟩
/-! SRV_ERR_CFG (R97) -/
def SRV_ERR_CFG_K_DPP (n : Nat) : Fld := ⟨239, n, 16, 16384⟩
def SRV_ERR_CFG_SUM_MIN (n : Nat) : Fld := ⟨240, n, 12, 64⟩
/-! SRV_ERR_CFG2 (R97) -/
def SRV_ERR_CFG2_K_LENS (n : Nat) : Fld := ⟨241, n, 16, 0⟩
def SRV_ERR_CFG2_SIDE_SUM_MIN (n : Nat) : Fld := ⟨242, n, 12, 16⟩
/-! SRV_IF_STATUS (R97) -/
def SRV_IF_STATUS_CLIP (n : Nat) : Fld := ⟨243, n, 10, 0⟩
def SRV_IF_STATUS_LOW_SUM_MAIN (n : Nat) : Fld := ⟨244, n, 1, 0⟩
def SRV_IF_STATUS_LOW_SUM_SIDE (n : Nat) : Fld := ⟨245, n, 1, 0⟩
def SRV_IF_STATUS_FMD_HIGH (n : Nat) : Fld := ⟨246, n, 1, 0⟩
def SRV_IF_STATUS_LDD_DOWN (n : Nat) : Fld := ⟨247, n, 1, 0⟩
/-! SRV_FMD_CFG (R97) -/
def SRV_FMD_CFG_FMD_TARGET (n : Nat) : Fld := ⟨248, n, 12, 0⟩
def SRV_FMD_CFG_FMD_MAX (n : Nat) : Fld := ⟨249, n, 12, 4095⟩
/-! SRV_LDD_CTRL (R97) -/
def SRV_LDD_CTRL_LINK_EN (n : Nat) : Fld := ⟨250, n, 1, 0⟩
def SRV_LDD_CTRL_LDEN_REQ (n : Nat) : Fld := ⟨251, n, 1, 0⟩
/-! SRV_LDD_STATUS (R97) -/
def SRV_LDD_STATUS_LINK_UP (n : Nat) : Fld := ⟨252, n, 1, 0⟩
def SRV_LDD_STATUS_BANK (n : Nat) : Fld := ⟨253, n, 1, 0⟩
def SRV_LDD_STATUS_TABLE_OK0 (n : Nat) : Fld := ⟨254, n, 1, 0⟩
def SRV_LDD_STATUS_TABLE_OK1 (n : Nat) : Fld := ⟨255, n, 1, 0⟩
def SRV_LDD_STATUS_LDEN (n : Nat) : Fld := ⟨256, n, 1, 0⟩
def SRV_LDD_STATUS_FIFO_LEVEL (n : Nat) : Fld := ⟨257, n, 8, 0⟩
def SRV_LDD_STATUS_DISCARDS (n : Nat) : Fld := ⟨258, n, 16, 0⟩
/-! SRV_LOOP_IN (R127) -/
def SRV_LOOP_IN_SEL_A (n : Nat) (l : Nat) : Fld := ⟨259, (n * 4 + l), 5, 0⟩
def SRV_LOOP_IN_SEL_B (n : Nat) (l : Nat) : Fld := ⟨260, (n * 4 + l), 5, 0⟩
/-! SRV_LOOP_WA (R127) -/
def SRV_LOOP_WA_C (n : Nat) (l : Nat) : Fld := ⟨261, (n * 4 + l), 32, 0⟩
/-! SRV_LOOP_WB (R127) -/
def SRV_LOOP_WB_C (n : Nat) (l : Nat) : Fld := ⟨262, (n * 4 + l), 32, 0⟩
/-! SRV_LOOP_OFFSET (R127) -/
def SRV_LOOP_OFFSET_OFFSET (n : Nat) (l : Nat) : Fld := ⟨263, (n * 4 + l), 32, 0⟩
/-! SRV_LOOP_GAIN (R127) -/
def SRV_LOOP_GAIN_C (n : Nat) (l : Nat) : Fld := ⟨264, (n * 4 + l), 32, 0⟩
/-! SRV_LOOP_SHIFT (R127) -/
def SRV_LOOP_SHIFT_S_A (n : Nat) (l : Nat) : Fld := ⟨265, (n * 4 + l), 5, 0⟩
def SRV_LOOP_SHIFT_S_B (n : Nat) (l : Nat) : Fld := ⟨266, (n * 4 + l), 5, 0⟩
def SRV_LOOP_SHIFT_S_G (n : Nat) (l : Nat) : Fld := ⟨267, (n * 4 + l), 5, 0⟩
/-! SRV_LOOP_LIM_HI (R127) -/
def SRV_LOOP_LIM_HI_LIM_HI (n : Nat) (l : Nat) : Fld := ⟨268, (n * 4 + l), 32, 2147483647⟩
/-! SRV_LOOP_LIM_LO (R127) -/
def SRV_LOOP_LIM_LO_LIM_LO (n : Nat) (l : Nat) : Fld := ⟨269, (n * 4 + l), 32, 2147483648⟩
/-! SRV_LOOP_SECT_EN (R127) -/
def SRV_LOOP_SECT_EN_EN (n : Nat) (l : Nat) : Fld := ⟨270, (n * 4 + l), 14, 0⟩
def SRV_LOOP_SECT_EN_COPY_EN (n : Nat) (l : Nat) : Fld := ⟨271, (n * 4 + l), 1, 0⟩
def SRV_LOOP_SECT_EN_COPY_SRC (n : Nat) (l : Nat) : Fld := ⟨272, (n * 4 + l), 4, 0⟩
def SRV_LOOP_SECT_EN_COPY_DST (n : Nat) (l : Nat) : Fld := ⟨273, (n * 4 + l), 4, 0⟩
/-! SRV_LOOP_HOLD (R127) -/
def SRV_LOOP_HOLD_MODE (n : Nat) (l : Nat) : Fld := ⟨274, (n * 4 + l), 2, 0⟩
def SRV_LOOP_HOLD_TRIG_DEFECT (n : Nat) (l : Nat) : Fld := ⟨275, (n * 4 + l), 1, 0⟩
def SRV_LOOP_HOLD_TRIG_LOWSUM (n : Nat) (l : Nat) : Fld := ⟨276, (n * 4 + l), 1, 0⟩
def SRV_LOOP_HOLD_LP_K (n : Nat) (l : Nat) : Fld := ⟨277, (n * 4 + l), 4, 8⟩
def SRV_LOOP_HOLD_EXTEND (n : Nat) (l : Nat) : Fld := ⟨278, (n * 4 + l), 16, 0⟩
/-! SRV_LOOP_DRIVE (R127) -/
def SRV_LOOP_DRIVE_CODE (n : Nat) (l : Nat) : Fld := ⟨279, (n * 4 + l), 16, 0⟩
/-! SRV_SECT_B0 (R127) -/
def SRV_SECT_B0_C (n : Nat) (l : Nat) (k : Nat) : Fld := ⟨280, ((n * 4 + l) * 14 + k), 32, 0⟩
/-! SRV_SECT_B1 (R127) -/
def SRV_SECT_B1_C (n : Nat) (l : Nat) (k : Nat) : Fld := ⟨281, ((n * 4 + l) * 14 + k), 32, 0⟩
/-! SRV_SECT_B2 (R127) -/
def SRV_SECT_B2_C (n : Nat) (l : Nat) (k : Nat) : Fld := ⟨282, ((n * 4 + l) * 14 + k), 32, 0⟩
/-! SRV_SECT_A1 (R127) -/
def SRV_SECT_A1_C (n : Nat) (l : Nat) (k : Nat) : Fld := ⟨283, ((n * 4 + l) * 14 + k), 32, 0⟩
/-! SRV_SECT_A2 (R127) -/
def SRV_SECT_A2_C (n : Nat) (l : Nat) (k : Nat) : Fld := ⟨284, ((n * 4 + l) * 14 + k), 32, 0⟩
/-! SRV_SECT_SHIFT (R127) -/
def SRV_SECT_SHIFT_S (n : Nat) (l : Nat) (k : Nat) : Fld := ⟨285, ((n * 4 + l) * 14 + k), 25, 0⟩
/-! SRV_PERIOD (R127) -/
def SRV_PERIOD_P : Fld := ⟨286, 0, 10, 250⟩
def SRV_PERIOD_REJECTED : Fld := ⟨287, 0, 1, 0⟩
/-! SRV_SAMPLE_COUNT (R127) -/
def SRV_SAMPLE_COUNT_COUNT : Fld := ⟨288, 0, 32, 0⟩
/-! SPN_CTRL (R176) -/
def SPN_CTRL_RUN (st : Nat) : Fld := ⟨289, st, 1, 0⟩
def SPN_CTRL_START_MODE (st : Nat) : Fld := ⟨290, st, 2, 0⟩
def SPN_CTRL_STANDSTILL (st : Nat) : Fld := ⟨291, st, 1, 0⟩
/-! SPN_TARGET (R176) -/
def SPN_TARGET_RPM (st : Nat) : Fld := ⟨292, st, 14, 9000⟩
/-! SPN_STATE (R176) -/
def SPN_STATE_STATE (st : Nat) : Fld := ⟨293, st, 4, 0⟩
def SPN_STATE_AT_SPEED (st : Nat) : Fld := ⟨294, st, 1, 0⟩
def SPN_STATE_ANGLE_VALID (st : Nat) : Fld := ⟨295, st, 1, 0⟩
def SPN_STATE_ATTEMPTS (st : Nat) : Fld := ⟨296, st, 2, 0⟩
def SPN_STATE_SPEED (st : Nat) : Fld := ⟨297, st, 16, 0⟩
/-! SPN_STATUS (R176) -/
def SPN_STATUS_ROTOR_LOSS (st : Nat) : Fld := ⟨298, st, 1, 0⟩
def SPN_STATUS_CAUGHT (st : Nat) : Fld := ⟨299, st, 1, 0⟩
def SPN_STATUS_LOST (st : Nat) : Fld := ⟨300, st, 1, 0⟩
def SPN_STATUS_START_FAIL (st : Nat) : Fld := ⟨301, st, 1, 0⟩
def SPN_STATUS_CHOP_FAULT (st : Nat) : Fld := ⟨302, st, 1, 0⟩
def SPN_STATUS_OV_WARN (st : Nat) : Fld := ⟨303, st, 1, 0⟩
def SPN_STATUS_OV_TRIP (st : Nat) : Fld := ⟨304, st, 1, 0⟩
def SPN_STATUS_TARGET_REJECTED (st : Nat) : Fld := ⟨305, st, 1, 0⟩
/-! SPN_ACC (R176) -/
def SPN_ACC_ACC (st : Nat) : Fld := ⟨306, st, 16, 1500⟩
def SPN_ACC_DEC (st : Nat) : Fld := ⟨307, st, 16, 1500⟩
/-! SPN_PI (R176) -/
def SPN_PI_KP (st : Nat) : Fld := ⟨308, st, 16, 256⟩
def SPN_PI_KI (st : Nat) : Fld := ⟨309, st, 16, 16⟩
/-! SPN_ILIM (R176) -/
def SPN_ILIM_ILIM (st : Nat) : Fld := ⟨310, st, 12, 300⟩
def SPN_ILIM_SHORT_ILIM (st : Nat) : Fld := ⟨311, st, 12, 400⟩
/-! SPN_SHUNT (R176) -/
def SPN_SHUNT_MOHM (st : Nat) : Fld := ⟨312, st, 8, 50⟩
def SPN_SHUNT_DEAD (st : Nat) : Fld := ⟨313, st, 8, 20⟩
/-! SPN_HFI (R176) -/
def SPN_HFI_AMP (st : Nat) : Fld := ⟨314, st, 8, 20⟩
def SPN_HFI_Q_MIN (st : Nat) : Fld := ⟨315, st, 8, 13⟩
def SPN_HFI_CYCLES (st : Nat) : Fld := ⟨316, st, 8, 8⟩
/-! SPN_RAMP (R176) -/
def SPN_RAMP_RAMP_ACC (st : Nat) : Fld := ⟨317, st, 16, 1200⟩
def SPN_RAMP_ALIGN_MS (st : Nat) : Fld := ⟨318, st, 12, 300⟩
/-! SPN_ZC (R176) -/
def SPN_ZC_BLANK (st : Nat) : Fld := ⟨319, st, 8, 64⟩
def SPN_ZC_ADV (st : Nat) : Fld := ⟨320, st, 8, 0⟩
def SPN_ZC_SETTLE (st : Nat) : Fld := ⟨321, st, 8, 20⟩
def SPN_ZC_SAMPLE (st : Nat) : Fld := ⟨322, st, 8, 10⟩
/-! SPN_CHOP (R176) -/
def SPN_CHOP_CHOP_ON (st : Nat) : Fld := ⟨323, st, 10, 300⟩
def SPN_CHOP_CHOP_OFF (st : Nat) : Fld := ⟨324, st, 10, 280⟩
/-! SPN_CHOP_SUP (R176) -/
def SPN_CHOP_SUP_ICHOP_MIN (st : Nat) : Fld := ⟨325, st, 10, 50⟩
/-! SPN_BUS (R176) -/
def SPN_BUS_VBUS (st : Nat) : Fld := ⟨326, st, 10, 0⟩
def SPN_BUS_VBUS_PEAK (st : Nat) : Fld := ⟨327, st, 10, 0⟩
def SPN_BUS_PEAK_CLR (st : Nat) : Fld := ⟨328, st, 1, 0⟩
/-! SPN_ANGLE (R176) -/
def SPN_ANGLE_ANGLE (st : Nat) : Fld := ⟨329, st, 12, 0⟩
def SPN_ANGLE_ANGLE_OFS (st : Nat) : Fld := ⟨330, st, 12, 0⟩
/-! SPN_HFI_Q (R176) -/
def SPN_HFI_Q_Q (st : Nat) : Fld := ⟨331, st, 8, 0⟩
/-! SPN_BUS_OV (R176) -/
def SPN_BUS_OV_TRIP : Fld := ⟨332, 0, 8, 0⟩
def SPN_BUS_OV_PIN : Fld := ⟨333, 0, 1, 0⟩
/-! MOT_CTRL (R208) -/
def MOT_CTRL_START (x : Nat) : Fld := ⟨334, x, 1, 0⟩
def MOT_CTRL_RAPPEL (x : Nat) : Fld := ⟨335, x, 1, 0⟩
def MOT_CTRL_EMERG (x : Nat) : Fld := ⟨336, x, 1, 0⟩
def MOT_CTRL_HOME (x : Nat) : Fld := ⟨337, x, 1, 0⟩
/-! MOT_TARGET (R208) -/
def MOT_TARGET_TARGET (x : Nat) : Fld := ⟨338, x, 32, 0⟩
/-! MOT_VMAX (R208) -/
def MOT_VMAX_VMAX (x : Nat) : Fld := ⟨339, x, 24, 341333⟩
/-! MOT_ACC (R208) -/
def MOT_ACC_ACC (x : Nat) : Fld := ⟨340, x, 32, 6826667⟩
/-! MOT_DEC (R208) -/
def MOT_DEC_DEC (x : Nat) : Fld := ⟨341, x, 32, 6826667⟩
/-! MOT_EDEC (R208) -/
def MOT_EDEC_EDEC (x : Nat) : Fld := ⟨342, x, 32, 13653333⟩
/-! MOT_VMIN (R208) -/
def MOT_VMIN_VMIN (x : Nat) : Fld := ⟨343, x, 16, 100⟩
/-! MOT_POS (R208) -/
def MOT_POS_POS (x : Nat) : Fld := ⟨344, x, 32, 0⟩
/-! MOT_POS_SET (R208) -/
def MOT_POS_SET_POS (x : Nat) : Fld := ⟨345, x, 32, 0⟩
/-! MOT_STATUS (R208) -/
def MOT_STATUS_DONE (x : Nat) : Fld := ⟨346, x, 1, 0⟩
def MOT_STATUS_REJECTED (x : Nat) : Fld := ⟨347, x, 1, 0⟩
def MOT_STATUS_DECEL_DEFERRED (x : Nat) : Fld := ⟨348, x, 1, 0⟩
def MOT_STATUS_RATE_CLAMP (x : Nat) : Fld := ⟨349, x, 1, 0⟩
def MOT_STATUS_LIMIT (x : Nat) : Fld := ⟨350, x, 1, 0⟩
def MOT_STATUS_SOFT_LIMIT (x : Nat) : Fld := ⟨351, x, 1, 0⟩
def MOT_STATUS_GEAR_LATE (x : Nat) : Fld := ⟨352, x, 1, 0⟩
def MOT_STATUS_HOME_DONE (x : Nat) : Fld := ⟨353, x, 1, 0⟩
def MOT_STATUS_HOME_FAULT (x : Nat) : Fld := ⟨354, x, 1, 0⟩
def MOT_STATUS_FOLLOW_ERR (x : Nat) : Fld := ⟨355, x, 1, 0⟩
def MOT_STATUS_ENC_ERR (x : Nat) : Fld := ⟨356, x, 1, 0⟩
def MOT_STATUS_PHASE (x : Nat) : Fld := ⟨357, x, 2, 0⟩
def MOT_STATUS_HOME_STATE (x : Nat) : Fld := ⟨358, x, 4, 0⟩
/-! MOT_GEAR_CTRL (R208) -/
def MOT_GEAR_CTRL_ENGAGE (x : Nat) : Fld := ⟨359, x, 1, 0⟩
def MOT_GEAR_CTRL_ARM (x : Nat) : Fld := ⟨360, x, 1, 0⟩
def MOT_GEAR_CTRL_PENDING (x : Nat) : Fld := ⟨361, x, 1, 0⟩
/-! MOT_GEAR_RATIO (R208) -/
def MOT_GEAR_RATIO_RATIO (x : Nat) : Fld := ⟨362, x, 32, 1431656⟩
/-! MOT_GEAR_NEXT (R208) -/
def MOT_GEAR_NEXT_NEXT (x : Nat) : Fld := ⟨363, x, 32, 0⟩
/-! MOT_GEAR_AT (R208) -/
def MOT_GEAR_AT_AT_LO (x : Nat) : Fld := ⟨364, x, 32, 0⟩
/-! MOT_GEAR_AT_HI (R208) -/
def MOT_GEAR_AT_HI_AT_HI (x : Nat) : Fld := ⟨365, x, 16, 0⟩
/-! MOT_MASTER (R208) -/
def MOT_MASTER_LO (x : Nat) : Fld := ⟨366, x, 32, 0⟩
/-! MOT_MASTER_HI (R208) -/
def MOT_MASTER_HI_HI (x : Nat) : Fld := ⟨367, x, 16, 0⟩
/-! MOT_SOFT_LO (R208) -/
def MOT_SOFT_LO_LO (x : Nat) : Fld := ⟨368, x, 32, 2147483648⟩
/-! MOT_SOFT_HI (R208) -/
def MOT_SOFT_HI_HI (x : Nat) : Fld := ⟨369, x, 32, 2147483647⟩
/-! MOT_DRIVE (R208) -/
def MOT_DRIVE_AMP (x : Nat) : Fld := ⟨370, x, 8, 128⟩
def MOT_DRIVE_SHORT (x : Nat) : Fld := ⟨371, x, 1, 0⟩
def MOT_DRIVE_HOLD_MS (x : Nat) : Fld := ⟨372, x, 16, 100⟩
/-! MOT_AX_CFG (R208) -/
def MOT_AX_CFG_OUTPUT (m : Nat) : Fld := ⟨373, m, 1, 0⟩
def MOT_AX_CFG_DIR_INV (m : Nat) : Fld := ⟨374, m, 1, 0⟩
def MOT_AX_CFG_HOME_DIR (m : Nat) : Fld := ⟨375, m, 1, 0⟩
def MOT_AX_CFG_HOME_ON_LIMIT (m : Nat) : Fld := ⟨376, m, 1, 0⟩
def MOT_AX_CFG_ENC_EN (m : Nat) : Fld := ⟨377, m, 1, 0⟩
def MOT_AX_CFG_HOLD_FRAC (m : Nat) : Fld := ⟨378, m, 8, 128⟩
def MOT_AX_CFG_HOLD_DELAY (m : Nat) : Fld := ⟨379, m, 16, 500⟩
/-! MOT_DEBOUNCE (R208) -/
def MOT_DEBOUNCE_LIMIT_DB (m : Nat) : Fld := ⟨380, m, 14, 1000⟩
def MOT_DEBOUNCE_HOME_DB (m : Nat) : Fld := ⟨381, m, 14, 1000⟩
/-! MOT_HOME_VFAST (R208) -/
def MOT_HOME_VFAST_V (m : Nat) : Fld := ⟨382, m, 24, 20000⟩
/-! MOT_HOME_VSLOW (R208) -/
def MOT_HOME_VSLOW_V (m : Nat) : Fld := ⟨383, m, 24, 1000⟩
/-! MOT_HOME_BACKOFF (R208) -/
def MOT_HOME_BACKOFF_STEPS (m : Nat) : Fld := ⟨384, m, 32, 2000⟩
/-! MOT_HOME_RANGE (R208) -/
def MOT_HOME_RANGE_STEPS (m : Nat) : Fld := ⟨385, m, 32, 2147483647⟩
/-! MOT_HOME_POS (R208) -/
def MOT_HOME_POS_POS (m : Nat) : Fld := ⟨386, m, 32, 0⟩
/-! MOT_CAPTURE (R208) -/
def MOT_CAPTURE_POS (m : Nat) : Fld := ⟨387, m, 32, 0⟩
/-! MOT_ENC (R208) -/
def MOT_ENC_COUNT (m : Nat) : Fld := ⟨388, m, 32, 0⟩
/-! MOT_ENC_SCALE (R208) -/
def MOT_ENC_SCALE_SCALE (m : Nat) : Fld := ⟨389, m, 32, 65536⟩
/-! MOT_FOLLOW_MAX (R208) -/
def MOT_FOLLOW_MAX_STEPS (m : Nat) : Fld := ⟨390, m, 32, 256⟩
/-! MOT_INPUTS (R208) -/
def MOT_INPUTS_LIMN (m : Nat) : Fld := ⟨391, m, 1, 0⟩
def MOT_INPUTS_LIMP (m : Nat) : Fld := ⟨392, m, 1, 0⟩
def MOT_INPUTS_HOME (m : Nat) : Fld := ⟨393, m, 1, 0⟩
/-! MOT_GRP_CTRL (R208) -/
def MOT_GRP_CTRL_MEMBERS (g : Nat) : Fld := ⟨394, g, 12, 0⟩
def MOT_GRP_CTRL_START (g : Nat) : Fld := ⟨395, g, 1, 0⟩
def MOT_GRP_CTRL_RAPPEL (g : Nat) : Fld := ⟨396, g, 1, 0⟩
/-! MOT_GRP_VMAX (R208) -/
def MOT_GRP_VMAX_VMAX (g : Nat) : Fld := ⟨397, g, 24, 100000⟩
/-! MOT_GRP_ACC (R208) -/
def MOT_GRP_ACC_ACC (g : Nat) : Fld := ⟨398, g, 32, 1000000⟩
/-! MOT_GRP_DEC (R208) -/
def MOT_GRP_DEC_DEC (g : Nat) : Fld := ⟨399, g, 32, 1000000⟩
/-! MOT_GRP_BLEND (R208) -/
def MOT_GRP_BLEND_VMAX (g : Nat) : Fld := ⟨400, g, 24, 50000⟩
/-! MOT_GRP_STATUS (R208) -/
def MOT_GRP_STATUS_DONE (g : Nat) : Fld := ⟨401, g, 1, 0⟩
def MOT_GRP_STATUS_REJECTED (g : Nat) : Fld := ⟨402, g, 1, 0⟩
def MOT_GRP_STATUS_STOPPED (g : Nat) : Fld := ⟨403, g, 1, 0⟩
def MOT_GRP_STATUS_DRAINED (g : Nat) : Fld := ⟨404, g, 1, 0⟩
def MOT_GRP_STATUS_QLEVEL (g : Nat) : Fld := ⟨405, g, 7, 0⟩
/-! MOT_ESTOP (R208) -/
def MOT_ESTOP_ALL : Fld := ⟨406, 0, 1, 0⟩
def MOT_ESTOP_ACTIVE : Fld := ⟨407, 0, 1, 0⟩
/-! RCH_LANE_CTRL (R243) -/
def RCH_LANE_CTRL_MODE (bc : Nat) : Fld := ⟨408, bc, 2, 0⟩
def RCH_LANE_CTRL_ADAPT_LOOPS (bc : Nat) : Fld := ⟨409, bc, 1, 1⟩
def RCH_LANE_CTRL_ADAPT_EQ (bc : Nat) : Fld := ⟨410, bc, 1, 1⟩
def RCH_LANE_CTRL_ERASE (bc : Nat) : Fld := ⟨411, bc, 1, 1⟩
/-! RCH_LANE_STATUS (R243) -/
def RCH_LANE_STATUS_STATE (bc : Nat) : Fld := ⟨412, bc, 2, 0⟩
def RCH_LANE_STATUS_STAGED (bc : Nat) : Fld := ⟨413, bc, 1, 0⟩
def RCH_LANE_STATUS_LOCKED (bc : Nat) : Fld := ⟨414, bc, 1, 0⟩
def RCH_LANE_STATUS_DEFECT (bc : Nat) : Fld := ⟨415, bc, 1, 0⟩
def RCH_LANE_STATUS_ADC_CLIP (bc : Nat) : Fld := ⟨416, bc, 1, 0⟩
def RCH_LANE_STATUS_GAIN_LIMIT (bc : Nat) : Fld := ⟨417, bc, 1, 0⟩
def RCH_LANE_STATUS_TIMING_LOST (bc : Nat) : Fld := ⟨418, bc, 1, 0⟩
def RCH_LANE_STATUS_QUALITY_LOW (bc : Nat) : Fld := ⟨419, bc, 1, 0⟩
/-! RCH_VGA (R243) -/
def RCH_VGA_GAIN (bc : Nat) : Fld := ⟨420, bc, 10, 320⟩
/-! RCH_CTF (R243) -/
def RCH_CTF_FC_RATIO (bc : Nat) : Fld := ⟨421, bc, 8, 128⟩
def RCH_CTF_BOOST (bc : Nat) : Fld := ⟨422, bc, 5, 8⟩
/-! RCH_OFFSET (R243) -/
def RCH_OFFSET_OFFSET (bc : Nat) : Fld := ⟨423, bc, 16, 0⟩
/-! RCH_DGAIN (R243) -/
def RCH_DGAIN_DGAIN (bc : Nat) : Fld := ⟨424, bc, 16, 16384⟩
/-! RCH_ASYM (R243) -/
def RCH_ASYM_ASYM (bc : Nat) : Fld := ⟨425, bc, 16, 0⟩
/-! RCH_LOOP_SH (R243) -/
def RCH_LOOP_SH_OFF_SH (bc : Nat) : Fld := ⟨426, bc, 5, 10⟩
def RCH_LOOP_SH_GAIN_SH (bc : Nat) : Fld := ⟨427, bc, 5, 12⟩
def RCH_LOOP_SH_ASYM_SH (bc : Nat) : Fld := ⟨428, bc, 5, 14⟩
def RCH_LOOP_SH_EQ_SH (bc : Nat) : Fld := ⟨429, bc, 5, 16⟩
/-! RCH_TIM_GAIN (R243) -/
def RCH_TIM_GAIN_TP_ACQ (bc : Nat) : Fld := ⟨430, bc, 5, 3⟩
def RCH_TIM_GAIN_TI_ACQ (bc : Nat) : Fld := ⟨431, bc, 5, 9⟩
def RCH_TIM_GAIN_TP_TRK (bc : Nat) : Fld := ⟨432, bc, 5, 6⟩
def RCH_TIM_GAIN_TI_TRK (bc : Nat) : Fld := ⟨433, bc, 5, 14⟩
/-! RCH_TIM_FREQ (R243) -/
def RCH_TIM_FREQ_F (bc : Nat) : Fld := ⟨434, bc, 16, 0⟩
/-! RCH_ALIGN (R243) -/
def RCH_ALIGN_OFS (bc : Nat) : Fld := ⟨435, bc, 16, 0⟩
/-! RCH_DEF_CFG (R243) -/
def RCH_DEF_CFG_DROP (bc : Nat) : Fld := ⟨436, bc, 8, 128⟩
def RCH_DEF_CFG_RISE (bc : Nat) : Fld := ⟨437, bc, 8, 192⟩
def RCH_DEF_CFG_PRE (bc : Nat) : Fld := ⟨438, bc, 8, 64⟩
def RCH_DEF_CFG_EXTEND (bc : Nat) : Fld := ⟨439, bc, 8, 8⟩
/-! RCH_TARGET (R243) -/
def RCH_TARGET_TARGET (bc : Nat) : Fld := ⟨440, bc, 8, 64⟩
def RCH_TARGET_G0 (bc : Nat) : Fld := ⟨441, bc, 4, 1⟩
def RCH_TARGET_G1 (bc : Nat) : Fld := ⟨442, bc, 4, 2⟩
def RCH_TARGET_G2 (bc : Nat) : Fld := ⟨443, bc, 4, 1⟩
def RCH_TARGET_BLANK_FRAC (bc : Nat) : Fld := ⟨444, bc, 8, 64⟩
/-! RCH_LLR (R243) -/
def RCH_LLR_LLR_SCALE (bc : Nat) : Fld := ⟨445, bc, 8, 32⟩
def RCH_LLR_SIGMA2 (bc : Nat) : Fld := ⟨446, bc, 16, 0⟩
/-! RCH_QUAL (R243) -/
def RCH_QUAL_EYE (bc : Nat) : Fld := ⟨447, bc, 8, 0⟩
def RCH_QUAL_MSE (bc : Nat) : Fld := ⟨448, bc, 16, 0⟩
/-! RCH_QUAL_LIM (R243) -/
def RCH_QUAL_LIM_EYE_MIN (bc : Nat) : Fld := ⟨449, bc, 8, 24⟩
def RCH_QUAL_LIM_MSE_MAX (bc : Nat) : Fld := ⟨450, bc, 16, 1638⟩
/-! RCH_BITS_LO (R243) -/
def RCH_BITS_LO_COUNT (bc : Nat) : Fld := ⟨451, bc, 32, 0⟩
/-! RCH_BITS_HI (R243) -/
def RCH_BITS_HI_COUNT (bc : Nat) : Fld := ⟨452, bc, 16, 0⟩
/-! RCH_DEFECT_BITS_LO (R243) -/
def RCH_DEFECT_BITS_LO_COUNT (bc : Nat) : Fld := ⟨453, bc, 32, 0⟩
/-! RCH_DEFECT_BITS_HI (R243) -/
def RCH_DEFECT_BITS_HI_COUNT (bc : Nat) : Fld := ⟨454, bc, 16, 0⟩
/-! RCH_TIM_LOSSES_LO (R243) -/
def RCH_TIM_LOSSES_LO_COUNT (bc : Nat) : Fld := ⟨455, bc, 32, 0⟩
/-! RCH_TIM_LOSSES_HI (R243) -/
def RCH_TIM_LOSSES_HI_COUNT (bc : Nat) : Fld := ⟨456, bc, 16, 0⟩
/-! RCH_TIM_LOSS (R243) -/
def RCH_TIM_LOSS_LOSS (bc : Nat) : Fld := ⟨457, bc, 8, 51⟩
/-! RCH_SYNC_CFG (R269) -/
def RCH_SYNC_CFG_WIN (bc : Nat) : Fld := ⟨458, bc, 7, 48⟩
def RCH_SYNC_CFG_TOL (bc : Nat) : Fld := ⟨459, bc, 4, 6⟩
def RCH_SYNC_CFG_TOL_RD (bc : Nat) : Fld := ⟨460, bc, 4, 10⟩
def RCH_SYNC_CFG_SPLIT_EN (bc : Nat) : Fld := ⟨461, bc, 1, 1⟩
/-! RCH_DEC_STATUS (R269) -/
def RCH_DEC_STATUS_UNRECOVERED (bc : Nat) : Fld := ⟨462, bc, 1, 0⟩
def RCH_DEC_STATUS_IMAGE_SHORT (bc : Nat) : Fld := ⟨463, bc, 1, 0⟩
def RCH_DEC_STATUS_OUTER_INCONSISTENT (bc : Nat) : Fld := ⟨464, bc, 1, 0⟩
def RCH_DEC_STATUS_LAST_OUTCOME (bc : Nat) : Fld := ⟨465, bc, 3, 0⟩
/-! RCH_OUT_CLEAN_LO (R269) -/
def RCH_OUT_CLEAN_LO_COUNT (bc : Nat) : Fld := ⟨466, bc, 32, 0⟩
/-! RCH_OUT_CLEAN_HI (R269) -/
def RCH_OUT_CLEAN_HI_COUNT (bc : Nat) : Fld := ⟨467, bc, 16, 0⟩
/-! RCH_OUT_HYP_LO (R269) -/
def RCH_OUT_HYP_LO_COUNT (bc : Nat) : Fld := ⟨468, bc, 32, 0⟩
/-! RCH_OUT_HYP_HI (R269) -/
def RCH_OUT_HYP_HI_COUNT (bc : Nat) : Fld := ⟨469, bc, 16, 0⟩
/-! RCH_OUT_REDECODE_LO (R269) -/
def RCH_OUT_REDECODE_LO_COUNT (bc : Nat) : Fld := ⟨470, bc, 32, 0⟩
/-! RCH_OUT_REDECODE_HI (R269) -/
def RCH_OUT_REDECODE_HI_COUNT (bc : Nat) : Fld := ⟨471, bc, 16, 0⟩
/-! RCH_OUT_OUTER_LO (R269) -/
def RCH_OUT_OUTER_LO_COUNT (bc : Nat) : Fld := ⟨472, bc, 32, 0⟩
/-! RCH_OUT_OUTER_HI (R269) -/
def RCH_OUT_OUTER_HI_COUNT (bc : Nat) : Fld := ⟨473, bc, 16, 0⟩
/-! RCH_OUT_REREAD_LO (R269) -/
def RCH_OUT_REREAD_LO_COUNT (bc : Nat) : Fld := ⟨474, bc, 32, 0⟩
/-! RCH_OUT_REREAD_HI (R269) -/
def RCH_OUT_REREAD_HI_COUNT (bc : Nat) : Fld := ⟨475, bc, 16, 0⟩
/-! RCH_OUT_BLANK_LO (R269) -/
def RCH_OUT_BLANK_LO_COUNT (bc : Nat) : Fld := ⟨476, bc, 32, 0⟩
/-! RCH_OUT_BLANK_HI (R269) -/
def RCH_OUT_BLANK_HI_COUNT (bc : Nat) : Fld := ⟨477, bc, 16, 0⟩
/-! RCH_OUT_UNREC_LO (R269) -/
def RCH_OUT_UNREC_LO_COUNT (bc : Nat) : Fld := ⟨478, bc, 32, 0⟩
/-! RCH_OUT_UNREC_HI (R269) -/
def RCH_OUT_UNREC_HI_COUNT (bc : Nat) : Fld := ⟨479, bc, 16, 0⟩
/-! RCH_SYNC_DOUBT_LO (R269) -/
def RCH_SYNC_DOUBT_LO_COUNT (bc : Nat) : Fld := ⟨480, bc, 32, 0⟩
/-! RCH_SYNC_DOUBT_HI (R269) -/
def RCH_SYNC_DOUBT_HI_COUNT (bc : Nat) : Fld := ⟨481, bc, 16, 0⟩
/-! RCH_SYNC_CONFLICT_LO (R269) -/
def RCH_SYNC_CONFLICT_LO_COUNT (bc : Nat) : Fld := ⟨482, bc, 32, 0⟩
/-! RCH_SYNC_CONFLICT_HI (R269) -/
def RCH_SYNC_CONFLICT_HI_COUNT (bc : Nat) : Fld := ⟨483, bc, 16, 0⟩
/-! RCH_MARKS_MISSED_LO (R269) -/
def RCH_MARKS_MISSED_LO_COUNT (bc : Nat) : Fld := ⟨484, bc, 32, 0⟩
/-! RCH_MARKS_MISSED_HI (R269) -/
def RCH_MARKS_MISSED_HI_COUNT (bc : Nat) : Fld := ⟨485, bc, 16, 0⟩
/-! RCH_CAPT_REFUSED_LO (R269) -/
def RCH_CAPT_REFUSED_LO_COUNT (bc : Nat) : Fld := ⟨486, bc, 32, 0⟩
/-! RCH_CAPT_REFUSED_HI (R269) -/
def RCH_CAPT_REFUSED_HI_COUNT (bc : Nat) : Fld := ⟨487, bc, 16, 0⟩
/-! RCH_DEC_CFG (R269) -/
def RCH_DEC_CFG_MAX_ITER : Fld := ⟨488, 0, 5, 20⟩
def RCH_DEC_CFG_RD_ITER : Fld := ⟨489, 0, 6, 50⟩
def RCH_DEC_CFG_ROUNDS : Fld := ⟨490, 0, 2, 3⟩
def RCH_DEC_CFG_REREAD_MAX : Fld := ⟨491, 0, 2, 2⟩
/-! RCH_IMG_CFG (R269) -/
def RCH_IMG_CFG_RESERVE : Fld := ⟨492, 0, 8, 32⟩
def RCH_IMG_CFG_STATION_MAX : Fld := ⟨493, 0, 8, 32⟩
def RCH_IMG_CFG_FREE : Fld := ⟨494, 0, 8, 128⟩
/-! RCH_COEF (R243) -/
def RCH_COEF_C (bc : Nat) (i : Nat) : Fld := ⟨495, (bc * 60 + i), 12, 0⟩
/-! REC_PU_STATUS (R296) -/
def REC_PU_STATUS_STATE (n : Nat) : Fld := ⟨496, n, 4, 0⟩
def REC_PU_STATUS_WCLK_LOCK (n : Nat) : Fld := ⟨497, n, 1, 0⟩
def REC_PU_STATUS_FAULT (n : Nat) : Fld := ⟨498, n, 1, 0⟩
def REC_PU_STATUS_BROKEN (n : Nat) : Fld := ⟨499, n, 1, 0⟩
def REC_PU_STATUS_VERIFY_FAIL (n : Nat) : Fld := ⟨500, n, 1, 0⟩
def REC_PU_STATUS_CAL_FAIL (n : Nat) : Fld := ⟨501, n, 1, 0⟩
def REC_PU_STATUS_PCA_FULL (n : Nat) : Fld := ⟨502, n, 1, 0⟩
def REC_PU_STATUS_MAP_CONFLICT (n : Nat) : Fld := ⟨503, n, 1, 0⟩
def REC_PU_STATUS_LAST_CAUSE (n : Nat) : Fld := ⟨504, n, 4, 0⟩
/-! REC_PU_WCLK (R296) -/
def REC_PU_WCLK_ERR (n : Nat) : Fld := ⟨505, n, 16, 0⟩
/-! REC_PU_RATE (R296) -/
def REC_PU_RATE_RATE (n : Nat) : Fld := ⟨506, n, 32, 0⟩
/-! REC_PU_PW01 (R296) -/
def REC_PU_PW01_PW0 (n : Nat) : Fld := ⟨507, n, 16, 0⟩
def REC_PU_PW01_PW1 (n : Nat) : Fld := ⟨508, n, 16, 0⟩
/-! REC_PU_PW23 (R296) -/
def REC_PU_PW23_PW2 (n : Nat) : Fld := ⟨509, n, 16, 0⟩
def REC_PU_PW23_PW3 (n : Nat) : Fld := ⟨510, n, 16, 0⟩
/-! REC_PU_PCA (R296) -/
def REC_PU_PCA_NEXT (n : Nat) : Fld := ⟨511, n, 10, 0⟩
def REC_PU_PCA_KNOWN (n : Nat) : Fld := ⟨512, n, 1, 0⟩
/-! REC_SECT_LO (R296) -/
def REC_SECT_LO_COUNT (n : Nat) : Fld := ⟨513, n, 32, 0⟩
/-! REC_SECT_HI (R296) -/
def REC_SECT_HI_COUNT (n : Nat) : Fld := ⟨514, n, 16, 0⟩
/-! REC_CUT_LO (R296) -/
def REC_CUT_LO_COUNT (n : Nat) : Fld := ⟨515, n, 32, 0⟩
/-! REC_CUT_HI (R296) -/
def REC_CUT_HI_COUNT (n : Nat) : Fld := ⟨516, n, 16, 0⟩
/-! REC_PAD_LO (R296) -/
def REC_PAD_LO_COUNT (n : Nat) : Fld := ⟨517, n, 32, 0⟩
/-! REC_PAD_HI (R296) -/
def REC_PAD_HI_COUNT (n : Nat) : Fld := ⟨518, n, 16, 0⟩
/-! REC_WCLK_CFG (R296) -/
def REC_WCLK_CFG_LOCK_MAX : Fld := ⟨519, 0, 8, 32⟩
def REC_WCLK_CFG_FAULT_MAX : Fld := ⟨520, 0, 8, 128⟩
/-! REC_FMD_CFG (R296) -/
def REC_FMD_CFG_TOL : Fld := ⟨521, 0, 8, 10⟩
/-! REC_OPC_CFG (R296) -/
def REC_OPC_CFG_BETA_TARGET : Fld := ⟨522, 0, 8, 10⟩
def REC_OPC_CFG_TEMP_DELTA : Fld := ⟨523, 0, 8, 50⟩
/-! REC_FAULT_CFG (R296) -/
def REC_FAULT_CFG_RETRY_MAX : Fld := ⟨524, 0, 4, 3⟩
def REC_FAULT_CFG_CUT_MAX : Fld := ⟨525, 0, 4, 2⟩
/-! REC_VERIFY_CFG (R296) -/
def REC_VERIFY_CFG_SPAN : Fld := ⟨526, 0, 16, 1024⟩
def REC_VERIFY_CFG_MARGIN : Fld := ⟨527, 0, 8, 4⟩
/-! CAL_ST_STATUS (R490) -/
def CAL_ST_STATUS_PROC (st : Nat) : Fld := ⟨528, st, 3, 0⟩
def CAL_ST_STATUS_TOP (st : Nat) : Fld := ⟨529, st, 1, 0⟩
def CAL_ST_STATUS_BOTTOM (st : Nat) : Fld := ⟨530, st, 1, 0⟩
def CAL_ST_STATUS_LAYER (st : Nat) : Fld := ⟨531, st, 3, 0⟩
def CAL_ST_STATUS_DONE (st : Nat) : Fld := ⟨532, st, 1, 0⟩
def CAL_ST_STATUS_REJECTED (st : Nat) : Fld := ⟨533, st, 1, 0⟩
def CAL_ST_STATUS_ABORTED (st : Nat) : Fld := ⟨534, st, 1, 0⟩
/-! CAL_ST_REJECT (R490) -/
def CAL_ST_REJECT_TOP (st : Nat) : Fld := ⟨535, st, 16, 0⟩
def CAL_ST_REJECT_BOTTOM (st : Nat) : Fld := ⟨536, st, 16, 0⟩
/-! CAL_ST_RUNS_LO (R490) -/
def CAL_ST_RUNS_LO_COUNT (st : Nat) : Fld := ⟨537, st, 32, 0⟩
/-! CAL_ST_RUNS_HI (R490) -/
def CAL_ST_RUNS_HI_COUNT (st : Nat) : Fld := ⟨538, st, 16, 0⟩
/-! CAL_ST_REJECTS_LO (R490) -/
def CAL_ST_REJECTS_LO_COUNT (st : Nat) : Fld := ⟨539, st, 32, 0⟩
/-! CAL_ST_REJECTS_HI (R490) -/
def CAL_ST_REJECTS_HI_COUNT (st : Nat) : Fld := ⟨540, st, 16, 0⟩
/-! CAL_ST_SETS (R490) -/
def CAL_ST_SETS_HELD (st : Nat) : Fld := ⟨541, st, 4, 0⟩
def CAL_ST_SETS_LOADED (st : Nat) : Fld := ⟨542, st, 4, 15⟩
/-! CAL_CFG (R490) -/
def CAL_CFG_ESPRESSO_AUTO : Fld := ⟨543, 0, 1, 1⟩
def CAL_CFG_QLOW_EN : Fld := ⟨544, 0, 1, 1⟩
def CAL_CFG_QLOW_MIN_S : Fld := ⟨545, 0, 12, 600⟩
def CAL_CFG_DISC_SETS : Fld := ⟨546, 0, 4, 8⟩
/-! CAL_STEP (R490) -/
def CAL_STEP_FOC_STEP : Fld := ⟨547, 0, 16, 128⟩
def CAL_STEP_TILT_STEP : Fld := ⟨548, 0, 16, 256⟩
/-! MBL_PORT_CTRL (R459) -/
def MBL_PORT_CTRL_EN (q : Nat) : Fld := ⟨549, q, 1, 1⟩
def MBL_PORT_CTRL_V1_ONLY (q : Nat) : Fld := ⟨550, q, 1, 0⟩
def MBL_PORT_CTRL_RETRAIN (q : Nat) : Fld := ⟨551, q, 1, 0⟩
def MBL_PORT_CTRL_FENCE_CLR (q : Nat) : Fld := ⟨552, q, 1, 0⟩
/-! MBL_PORT_STATUS (R459) -/
def MBL_PORT_STATUS_UP (q : Nat) : Fld := ⟨553, q, 1, 0⟩
def MBL_PORT_STATUS_GEN (q : Nat) : Fld := ⟨554, q, 2, 0⟩
def MBL_PORT_STATUS_WIDTH (q : Nat) : Fld := ⟨555, q, 3, 0⟩
def MBL_PORT_STATUS_FENCED (q : Nat) : Fld := ⟨556, q, 1, 0⟩
def MBL_PORT_STATUS_PARTNER_4080 (q : Nat) : Fld := ⟨557, q, 1, 0⟩
def MBL_PORT_STATUS_DOWN (q : Nat) : Fld := ⟨558, q, 1, 0⟩
def MBL_PORT_STATUS_RETRAINED (q : Nat) : Fld := ⟨559, q, 1, 0⟩
def MBL_PORT_STATUS_XFER_TO (q : Nat) : Fld := ⟨560, q, 1, 0⟩
def MBL_PORT_STATUS_ID_SHORT (q : Nat) : Fld := ⟨561, q, 1, 0⟩
def MBL_PORT_STATUS_ROLE_ERR (q : Nat) : Fld := ⟨562, q, 1, 0⟩
def MBL_PORT_STATUS_REPLAYS (q : Nat) : Fld := ⟨563, q, 16, 0⟩
/-! MBL_PORT_RANGE_LO (R459) -/
def MBL_PORT_RANGE_LO_LO (q : Nat) : Fld := ⟨564, q, 24, 0⟩
/-! MBL_PORT_RANGE_HI (R459) -/
def MBL_PORT_RANGE_HI_HI (q : Nat) : Fld := ⟨565, q, 24, 0⟩
/-! MBL_PORT_ASYM (R459) -/
def MBL_PORT_ASYM_ASYM (q : Nat) : Fld := ⟨566, q, 16, 0⟩
/-! MBL_PORT_OFFSET (R459) -/
def MBL_PORT_OFFSET_OFFSET (q : Nat) : Fld := ⟨567, q, 32, 0⟩
/-! MBL_PORT_DELAY (R459) -/
def MBL_PORT_DELAY_DELAY (q : Nat) : Fld := ⟨568, q, 16, 0⟩
/-! MBL_PORT_TX_LO (R459) -/
def MBL_PORT_TX_LO_COUNT (q : Nat) : Fld := ⟨569, q, 32, 0⟩
/-! MBL_PORT_TX_HI (R459) -/
def MBL_PORT_TX_HI_COUNT (q : Nat) : Fld := ⟨570, q, 16, 0⟩
/-! MBL_PORT_RX_LO (R459) -/
def MBL_PORT_RX_LO_COUNT (q : Nat) : Fld := ⟨571, q, 32, 0⟩
/-! MBL_PORT_RX_HI (R459) -/
def MBL_PORT_RX_HI_COUNT (q : Nat) : Fld := ⟨572, q, 16, 0⟩
/-! MBL_ID (R459) -/
def MBL_ID_DEVICE_ID : Fld := ⟨573, 0, 24, 0⟩
def MBL_ID_DEPTH : Fld := ⟨574, 0, 8, 0⟩
/-! MBL_LIMIT (R459) -/
def MBL_LIMIT_LIMIT : Fld := ⟨575, 0, 24, 0⟩
/-! MBL_CFG (R459) -/
def MBL_CFG_RESERVE : Fld := ⟨576, 0, 8, 64⟩
def MBL_CFG_WINDOW_US : Fld := ⟨577, 0, 16, 50⟩
def MBL_CFG_HB_N : Fld := ⟨578, 0, 8, 10⟩
/-! MBL_CFG2 (R459) -/
def MBL_CFG2_ORPHAN_MS : Fld := ⟨579, 0, 16, 1000⟩
/-! MBL_CT_LO (R459) -/
def MBL_CT_LO_CT : Fld := ⟨580, 0, 32, 0⟩
/-! MBL_CT_HI (R459) -/
def MBL_CT_HI_CT : Fld := ⟨581, 0, 32, 0⟩
/-! MBL_CT_LOAD_LO (R459) -/
def MBL_CT_LOAD_LO_CT : Fld := ⟨582, 0, 32, 0⟩
/-! MBL_CT_LOAD_HI (R459) -/
def MBL_CT_LOAD_HI_CT : Fld := ⟨583, 0, 32, 0⟩
/-! MBL_CT_STATUS (R459) -/
def MBL_CT_STATUS_SYNC : Fld := ⟨584, 0, 1, 0⟩
def MBL_CT_STATUS_HOLDOVER : Fld := ⟨585, 0, 1, 0⟩
def MBL_CT_STATUS_LOAD_REJECTED : Fld := ⟨586, 0, 1, 0⟩
def MBL_CT_STATUS_RATE : Fld := ⟨587, 0, 16, 0⟩
/-! MBL_PROTO (R459) -/
def MBL_PROTO_LEVEL : Fld := ⟨588, 0, 4, 2⟩
def MBL_PROTO_NEXT : Fld := ⟨589, 0, 4, 0⟩
/-! MBL_RESET (R459) -/
def MBL_RESET_KIND : Fld := ⟨590, 0, 2, 0⟩
def MBL_RESET_GO : Fld := ⟨591, 0, 1, 0⟩
def MBL_RESET_BUSY : Fld := ⟨592, 0, 1, 0⟩
def MBL_RESET_DONE : Fld := ⟨593, 0, 1, 0⟩
def MBL_RESET_ERR : Fld := ⟨594, 0, 1, 0⟩
def MBL_RESET_TARGET : Fld := ⟨595, 0, 24, 0⟩
/-! MBL_REM_ID (R459) -/
def MBL_REM_ID_ID : Fld := ⟨596, 0, 24, 0⟩
/-! MBL_REM_OFS (R459) -/
def MBL_REM_OFS_OFS : Fld := ⟨597, 0, 20, 0⟩
/-! MBL_REM_DATA (R459) -/
def MBL_REM_DATA_DATA : Fld := ⟨598, 0, 32, 0⟩
/-! MBL_REM_CTRL (R459) -/
def MBL_REM_CTRL_WRITE : Fld := ⟨599, 0, 1, 0⟩
def MBL_REM_CTRL_READ : Fld := ⟨600, 0, 1, 0⟩
def MBL_REM_CTRL_BUSY : Fld := ⟨601, 0, 1, 0⟩
def MBL_REM_CTRL_ERR : Fld := ⟨602, 0, 1, 0⟩
/-! MBL_FWD_STATUS (R459) -/
def MBL_FWD_STATUS_OUTSTANDING : Fld := ⟨603, 0, 13, 0⟩
/-! HPC_SLOT_CTRL (R472) -/
def HPC_SLOT_CTRL_PWR_REQ (k : Nat) : Fld := ⟨604, k, 1, 0⟩
def HPC_SLOT_CTRL_ABORT_REQ (k : Nat) : Fld := ⟨605, k, 1, 0⟩
def HPC_SLOT_CTRL_ATTN (k : Nat) : Fld := ⟨606, k, 1, 0⟩
/-! HPC_SLOT_STATUS (R472) -/
def HPC_SLOT_STATUS_STATE (k : Nat) : Fld := ⟨607, k, 4, 0⟩
def HPC_SLOT_STATUS_PRESENT (k : Nat) : Fld := ⟨608, k, 1, 0⟩
def HPC_SLOT_STATUS_PRESENT_CHG (k : Nat) : Fld := ⟨609, k, 1, 0⟩
def HPC_SLOT_STATUS_PWR_FAULT (k : Nat) : Fld := ⟨610, k, 1, 0⟩
def HPC_SLOT_STATUS_SURPRISE (k : Nat) : Fld := ⟨611, k, 1, 0⟩
def HPC_SLOT_STATUS_BRINGUP_FAIL (k : Nat) : Fld := ⟨612, k, 1, 0⟩
def HPC_SLOT_STATUS_REJECTED (k : Nat) : Fld := ⟨613, k, 1, 0⟩
/-! HPC_SLOT_CFG (R472) -/
def HPC_SLOT_CFG_AUTO_ON (k : Nat) : Fld := ⟨614, k, 1, 0⟩
def HPC_SLOT_CFG_BLINK_S (k : Nat) : Fld := ⟨615, k, 4, 5⟩
def HPC_SLOT_CFG_SETTLE_MS (k : Nat) : Fld := ⟨616, k, 12, 100⟩
def HPC_SLOT_CFG_DRAIN_S (k : Nat) : Fld := ⟨617, k, 8, 30⟩
/-! HPC_SUMMARY (R472) -/
def HPC_SUMMARY_PRESENT : Fld := ⟨618, 0, 12, 0⟩
def HPC_SUMMARY_POWERED : Fld := ⟨619, 0, 12, 0⟩
/-! FWU_CTRL (R508) -/
def FWU_CTRL_VERIFY : Fld := ⟨620, 0, 1, 0⟩
def FWU_CTRL_SLOT : Fld := ⟨621, 0, 1, 0⟩
def FWU_CTRL_ROLL : Fld := ⟨622, 0, 1, 0⟩
def FWU_CTRL_CANCEL : Fld := ⟨623, 0, 1, 0⟩
def FWU_CTRL_CLASSES : Fld := ⟨624, 0, 4, 0⟩
/-! FWU_STATUS (R508) -/
def FWU_STATUS_STATE : Fld := ⟨625, 0, 3, 0⟩
def FWU_STATUS_STAGED_SLOT : Fld := ⟨626, 0, 1, 0⟩
def FWU_STATUS_VERIFY_FAIL : Fld := ⟨627, 0, 1, 0⟩
def FWU_STATUS_ACT_FAIL : Fld := ⟨628, 0, 1, 0⟩
def FWU_STATUS_FLASH_FAULT : Fld := ⟨629, 0, 1, 0⟩
def FWU_STATUS_REJECTED : Fld := ⟨630, 0, 1, 0⟩
def FWU_STATUS_ERR_CODE : Fld := ⟨631, 0, 4, 0⟩
def FWU_STATUS_PROGRESS : Fld := ⟨632, 0, 8, 0⟩
/-! FWU_BOOT (R508) -/
def FWU_BOOT_SLOT : Fld := ⟨633, 0, 1, 0⟩
def FWU_BOOT_RUNNING : Fld := ⟨634, 0, 1, 0⟩
/-! FWU_CFG (R508) -/
def FWU_CFG_DRAIN_MS : Fld := ⟨635, 0, 16, 200⟩
/-! FWU_SUMMIT_TIME_LO (R508) -/
def FWU_SUMMIT_TIME_LO_TIME : Fld := ⟨636, 0, 32, 0⟩
/-! FWU_SUMMIT_TIME_HI (R508) -/
def FWU_SUMMIT_TIME_HI_TIME : Fld := ⟨637, 0, 32, 0⟩
/-! FWU_SUMMIT_MASK (R508) -/
def FWU_SUMMIT_MASK_CLASSES : Fld := ⟨638, 0, 4, 0⟩
/-! FWU_INFORCE_LO (R508) -/
def FWU_INFORCE_LO_CODE_SLOT : Fld := ⟨639, 0, 32, 0⟩
/-! FWU_INFORCE_HI (R508) -/
def FWU_INFORCE_HI_CODE_SLOT : Fld := ⟨640, 0, 4, 0⟩
/-! FWU_PENDING_LO (R508) -/
def FWU_PENDING_LO_PENDING : Fld := ⟨641, 0, 32, 0⟩
/-! FWU_PENDING_HI (R508) -/
def FWU_PENDING_HI_PENDING : Fld := ⟨642, 0, 4, 0⟩
/-! FWU_LEVEL (R508) -/
def FWU_LEVEL_MC : Fld := ⟨643, 0, 8, 0⟩
def FWU_LEVEL_DS : Fld := ⟨644, 0, 8, 0⟩
def FWU_LEVEL_LP : Fld := ⟨645, 0, 8, 0⟩
def FWU_LEVEL_DP : Fld := ⟨646, 0, 8, 0⟩
/-! FWU_VER (R508) -/
def FWU_VER_VERSION (k : Nat) : Fld := ⟨647, k, 32, 0⟩
/-! SYS_PACE (R529) -/
def SYS_PACE_MEASURED : Fld := ⟨648, 0, 16, 0⟩
def SYS_PACE_TARGET : Fld := ⟨649, 0, 16, 800⟩
/-! SYS_PACE_CFG (R529) -/
def SYS_PACE_CFG_TARGET : Fld := ⟨650, 0, 16, 800⟩
def SYS_PACE_CFG_BOOST_PCT : Fld := ⟨651, 0, 8, 5⟩
def SYS_PACE_CFG_BOOST_MS : Fld := ⟨652, 0, 8, 100⟩
/-! SYS_VCORE_CFG (R529) -/
def SYS_VCORE_CFG_VNOM : Fld := ⟨653, 0, 10, 750⟩
def SYS_VCORE_CFG_VMAX : Fld := ⟨654, 0, 10, 850⟩
/-! SYS_VCORE_STATUS (R529) -/
def SYS_VCORE_STATUS_REQ : Fld := ⟨655, 0, 10, 800⟩
def SYS_VCORE_STATUS_READ : Fld := ⟨656, 0, 10, 0⟩
/-! SYS_PACE_STATUS (R529) -/
def SYS_PACE_STATUS_CLOSED : Fld := ⟨657, 0, 1, 0⟩
def SYS_PACE_STATUS_BOOST : Fld := ⟨658, 0, 1, 0⟩
def SYS_PACE_STATUS_PACE_LOW : Fld := ⟨659, 0, 1, 0⟩
def SYS_PACE_STATUS_MARGIN_LOW : Fld := ⟨660, 0, 1, 0⟩
def SYS_PACE_STATUS_PMB_FAULT : Fld := ⟨661, 0, 1, 0⟩
def SYS_PACE_STATUS_PMB_ALERT : Fld := ⟨662, 0, 1, 0⟩
def SYS_PACE_STATUS_THERM_WARN : Fld := ⟨663, 0, 1, 0⟩
/-! SYS_PMB_CFG (R529) -/
def SYS_PMB_CFG_ADDR : Fld := ⟨664, 0, 7, 64⟩
def SYS_PMB_CFG_MARGIN_MV : Fld := ⟨665, 0, 8, 30⟩
/-! SYS_AGE (R529) -/
def SYS_AGE_V_FIRST : Fld := ⟨666, 0, 10, 0⟩
def SYS_AGE_V_LAST : Fld := ⟨667, 0, 10, 0⟩
/-! SYS_TEMP (R529) -/
def SYS_TEMP_TJ : Fld := ⟨668, 0, 12, 0⟩
/-! SYS_THERM (R529) -/
def SYS_THERM_WARN : Fld := ⟨669, 0, 8, 130⟩
/-! SYS_RESET_CTRL (R529) -/
def SYS_RESET_CTRL_STATION : Fld := ⟨670, 0, 8, 0⟩
/-! SYS_RESET_STATUS (R529) -/
def SYS_RESET_STATUS_STN_BUSY : Fld := ⟨671, 0, 8, 0⟩
def SYS_RESET_STATUS_CAUSE : Fld := ⟨672, 0, 4, 0⟩
def SYS_RESET_STATUS_BOOT_SLOT : Fld := ⟨673, 0, 1, 0⟩
def SYS_RESET_STATUS_FALLBACK : Fld := ⟨674, 0, 1, 0⟩
def SYS_RESET_STATUS_RECOVERY : Fld := ⟨675, 0, 1, 0⟩
/-! SYS_RAIL_STATUS (R529) -/
def SYS_RAIL_STATUS_IN_RANGE : Fld := ⟨676, 0, 8, 0⟩
/-! TRC_ARM (R561) -/
def TRC_ARM_MASK : Fld := ⟨677, 0, 16, 0⟩
/-! TRC_FIRE (R561) -/
def TRC_FIRE_MASK : Fld := ⟨678, 0, 16, 0⟩
/-! TRC_DONE (R561) -/
def TRC_DONE_DONE : Fld := ⟨679, 0, 16, 0⟩

end F

/-- Register rows of the block at 0x0, part 1. -/
def regBlock0_0 : List RegRow := [
  ⟨0x0, [], true, false, 0, 0, .plain, [⟨0, 0, 1, .ro, 0⟩, ⟨1, 1, 1, .ro, 0⟩, ⟨2, 2, 1, .ro, 0⟩, ⟨3, 3, 2, .ro, 0⟩]⟩,
  ⟨0x4, [], false, false, 0, 0, .plain, [⟨4, 0, 3, .ro, 0⟩, ⟨5, 4, 5, .ro, 0⟩, ⟨6, 12, 3, .ro, 0⟩]⟩,
  ⟨0x8, [], false, false, 0, 0, .plain, [⟨7, 0, 8, .rws, 16⟩, ⟨8, 8, 16, .rws, 32⟩]⟩,
  ⟨0xC, [], false, false, 0, 0, .plain, [⟨9, 0, 16, .rws, 100⟩, ⟨10, 16, 16, .rws, 10⟩]⟩,
  ⟨0x10, [], true, false, 0, 0, .plain, [⟨11, 0, 16, .rws, 16000⟩]⟩,
  ⟨0x14, [], false, false, 0, 0, .plain, [⟨12, 0, 16, .rws, 100⟩]⟩,
  ⟨0x18, [], true, false, 0, 0, .plain, [⟨13, 0, 10, .ro, 0⟩, ⟨14, 16, 10, .ro, 0⟩]⟩,
  ⟨0x1C, [], true, false, 0, 0, .plain, [⟨15, 0, 1, .rw1c, 0⟩, ⟨16, 1, 1, .rw1c, 0⟩, ⟨17, 2, 1, .rw1c, 0⟩, ⟨18, 3, 1, .rw1c, 0⟩]⟩,
  ⟨0x20, [], true, false, 0, 0, .counterLo, [⟨19, 0, 32, .ro, 0⟩]⟩,
  ⟨0x24, [], true, false, 0, 0, .counterHi, [⟨20, 0, 16, .ro, 0⟩]⟩,
  ⟨0x28, [], true, false, 0, 0, .counterLo, [⟨21, 0, 32, .ro, 0⟩]⟩,
  ⟨0x2C, [], true, false, 0, 0, .counterHi, [⟨22, 0, 16, .ro, 0⟩]⟩,
  ⟨0x30, [], true, false, 0, 0, .counterLo, [⟨23, 0, 32, .ro, 0⟩]⟩,
  ⟨0x34, [], true, false, 0, 0, .counterHi, [⟨24, 0, 16, .ro, 0⟩]⟩,
  ⟨0x40, [(4, 0x10)], true, true, 0, 0, .plain, [⟨25, 0, 1, .rw, 0⟩, ⟨26, 8, 5, .rw, 1⟩]⟩,
  ⟨0x44, [(4, 0x10)], true, true, 0, 0, .plain, [⟨27, 0, 12, .rw, 0⟩]⟩,
  ⟨0x48, [(4, 0x10)], true, true, 0, 0, .plain, [⟨28, 0, 22, .rw, 0⟩]⟩,
  ⟨0x80, [], true, true, 0, 0, .plain, [⟨29, 0, 1, .wo, 0⟩, ⟨30, 1, 1, .ro, 0⟩]⟩,
  ⟨0x1000, [], false, false, 0, 0, .plain, [⟨31, 12, 20, .rw, 0⟩]⟩,
  ⟨0x1004, [], false, false, 0, 0, .plain, [⟨32, 0, 32, .rw, 0⟩]⟩,
  ⟨0x1008, [], false, false, 0, 0, .plain, [⟨33, 0, 5, .rw, 4⟩, ⟨34, 16, 6, .rw, 0⟩, ⟨35, 31, 1, .rw, 0⟩]⟩,
  ⟨0x100C, [], false, false, 0, 0, .plain, [⟨36, 0, 16, .ro, 0⟩, ⟨37, 16, 1, .ro, 0⟩, ⟨38, 17, 1, .rw1c, 0⟩, ⟨39, 24, 8, .ro, 0⟩]⟩,
  ⟨0x1010, [], false, false, 0, 0, .plain, [⟨40, 0, 32, .ro, 0⟩]⟩,
  ⟨0x1014, [], false, false, 0, 0, .plain, [⟨41, 1, 15, .rws, 32767⟩]⟩]

/-- Register rows of the block at 0x0, part 2. -/
def regBlock0_1 : List RegRow := [
  ⟨0x1018, [], false, false, 0, 0, .plain, [⟨42, 0, 1, .wo, 0⟩]⟩,
  ⟨0x1100, [(64, 0x4)], true, false, 0, 0, .plain, [⟨43, 0, 8, .rw, 1⟩, ⟨44, 8, 16, .rw, 0⟩, ⟨45, 24, 1, .rw, 1⟩]⟩,
  ⟨0x2000, [(32, 0x20)], true, false, 4, 0, .plain, [⟨46, 12, 20, .rw, 0⟩]⟩,
  ⟨0x2004, [(32, 0x20)], true, false, 4, 0, .plain, [⟨47, 0, 32, .rw, 0⟩]⟩,
  ⟨0x2008, [(32, 0x20)], true, false, 4, 0, .plain, [⟨48, 0, 5, .rw, 4⟩, ⟨49, 8, 5, .rw, 0⟩, ⟨50, 16, 2, .rw, 0⟩, ⟨51, 20, 1, .rw, 0⟩, ⟨52, 31, 1, .rw, 0⟩]⟩,
  ⟨0x200C, [(32, 0x20)], true, false, 4, 0, .plain, [⟨53, 0, 16, .ro, 0⟩, ⟨54, 16, 1, .rw1c, 0⟩, ⟨55, 17, 3, .ro, 0⟩, ⟨56, 20, 1, .ro, 0⟩]⟩,
  ⟨0x2400, [(32, 0x20)], true, false, 4, 0, .plain, [⟨57, 12, 20, .rw, 0⟩]⟩,
  ⟨0x2404, [(32, 0x20)], true, false, 4, 0, .plain, [⟨58, 0, 32, .rw, 0⟩]⟩,
  ⟨0x2408, [(32, 0x20)], true, false, 4, 0, .plain, [⟨59, 0, 5, .rw, 4⟩, ⟨60, 16, 6, .rw, 0⟩, ⟨61, 31, 1, .rw, 0⟩]⟩,
  ⟨0x240C, [(32, 0x20)], true, false, 4, 0, .plain, [⟨62, 0, 16, .ro, 0⟩, ⟨63, 16, 1, .ro, 0⟩, ⟨64, 17, 1, .rw1c, 0⟩, ⟨65, 18, 3, .ro, 0⟩]⟩,
  ⟨0x2800, [(9, 0x4)], false, false, 0, 0, .plain, [⟨66, 0, 6, .ro, 0⟩, ⟨67, 6, 6, .ro, 0⟩, ⟨68, 16, 1, .ro, 0⟩, ⟨69, 17, 1, .ro, 0⟩]⟩,
  ⟨0x2840, [], false, false, 0, 0, .plain, [⟨70, 0, 8, .ro, 0⟩, ⟨71, 8, 1, .ro, 0⟩]⟩,
  ⟨0x2844, [], false, false, 0, 0, .plain, [⟨72, 0, 16, .ro, 0⟩]⟩]

/-- Register rows whose first offset lies in 0x0 … 0x3FFF. -/
def regBlock0 : List RegRow := regBlock0_0 ++ regBlock0_1

/-- Register rows of the block at 0x20000, part 1. -/
def regBlock8_0 : List RegRow := [
  ⟨0x20000, [], false, false, 0, 0, .plain, [⟨73, 0, 1, .rws, 1⟩, ⟨74, 8, 1, .wo, 0⟩]⟩,
  ⟨0x20004, [], false, false, 0, 0, .plain, [⟨75, 0, 1, .rw1c, 0⟩, ⟨76, 1, 1, .rw1c, 0⟩, ⟨77, 2, 1, .rw1c, 0⟩, ⟨78, 3, 1, .rw1c, 0⟩, ⟨79, 8, 4, .ro, 0⟩]⟩,
  ⟨0x20008, [], false, false, 0, 0, .plain, [⟨80, 0, 16, .ro, 0⟩, ⟨81, 16, 16, .ro, 0⟩]⟩,
  ⟨0x2000C, [], false, false, 0, 0, .plain, [⟨82, 0, 16, .rws, 256⟩]⟩,
  ⟨0x20010, [], false, false, 0, 0, .plain, [⟨83, 0, 16, .rws, 300⟩, ⟨84, 16, 8, .rws, 51⟩]⟩,
  ⟨0x20014, [], false, false, 0, 0, .plain, [⟨85, 0, 16, .rws, 10000⟩]⟩,
  ⟨0x20018, [], false, false, 0, 0, .plain, [⟨86, 0, 16, .ro, 0⟩, ⟨87, 16, 16, .ro, 0⟩]⟩,
  ⟨0x2001C, [], false, false, 0, 0, .plain, [⟨88, 0, 15, .ro, 0⟩]⟩,
  ⟨0x20020, [], false, false, 0, 0, .plain, [⟨89, 0, 4, .ro, 0⟩, ⟨90, 16, 16, .ro, 0⟩]⟩,
  ⟨0x20030, [], false, false, 0, 0, .plain, [⟨91, 0, 22, .rw, 0⟩, ⟨92, 24, 1, .wo, 0⟩, ⟨93, 25, 1, .rw, 0⟩, ⟨94, 26, 1, .ro, 0⟩]⟩,
  ⟨0x20100, [(16, 0x10)], false, false, 0, 0, .plain, [⟨95, 0, 26, .ro, 0⟩, ⟨96, 28, 3, .ro, 0⟩, ⟨97, 31, 1, .ro, 0⟩]⟩,
  ⟨0x20104, [(16, 0x10)], false, false, 0, 0, .plain, [⟨98, 0, 8, .ro, 0⟩, ⟨99, 8, 9, .ro, 0⟩, ⟨100, 24, 7, .ro, 0⟩]⟩,
  ⟨0x20108, [(16, 0x10)], false, false, 0, 0, .plain, [⟨101, 0, 32, .ro, 0⟩]⟩,
  ⟨0x2010C, [(16, 0x10)], false, false, 0, 0, .plain, [⟨102, 0, 32, .ro, 0⟩]⟩]

/-- Register rows whose first offset lies in 0x20000 … 0x23FFF. -/
def regBlock8 : List RegRow := regBlock8_0

/-- Register rows of the block at 0x24000, part 1. -/
def regBlock9_0 : List RegRow := [
  ⟨0x24000, [], false, false, 0, 0, .plain, [⟨103, 0, 1, .rw, 1⟩, ⟨104, 4, 2, .ro, 0⟩]⟩,
  ⟨0x24004, [], false, false, 0, 0, .plain, [⟨105, 0, 1, .rw1c, 0⟩, ⟨106, 1, 1, .rw1c, 0⟩, ⟨107, 2, 1, .rw1c, 0⟩, ⟨108, 3, 1, .ro, 0⟩, ⟨109, 8, 6, .ro, 0⟩, ⟨110, 16, 6, .ro, 0⟩, ⟨111, 24, 6, .ro, 48⟩]⟩,
  ⟨0x24008, [], false, false, 0, 0, .plain, [⟨112, 0, 1, .rws, 0⟩, ⟨113, 1, 1, .rws, 0⟩, ⟨114, 2, 1, .rws, 0⟩]⟩,
  ⟨0x2400C, [], false, false, 0, 0, .plain, [⟨115, 0, 8, .rws, 8⟩, ⟨116, 8, 1, .rws, 1⟩]⟩,
  ⟨0x24010, [], false, false, 0, 0, .plain, [⟨117, 0, 16, .rws, 10⟩]⟩,
  ⟨0x24020, [(4, 0x8)], false, false, 0, 0, .plain, [⟨118, 0, 32, .rws, 4294967295⟩]⟩,
  ⟨0x24040, [], false, false, 0, 4, .plain, [⟨118, 0, 32, .rws, 0⟩]⟩,
  ⟨0x24048, [], false, false, 0, 5, .plain, [⟨118, 0, 32, .rws, 0⟩]⟩,
  ⟨0x24024, [(4, 0x8)], false, false, 0, 0, .plain, [⟨119, 0, 16, .rws, 255⟩]⟩,
  ⟨0x24044, [], false, false, 0, 4, .plain, [⟨119, 0, 16, .rws, 3840⟩]⟩,
  ⟨0x2404C, [], false, false, 0, 5, .plain, [⟨119, 0, 16, .rws, 61440⟩]⟩,
  ⟨0x24060, [], false, false, 0, 0, .counterLo, [⟨120, 0, 32, .ro, 0⟩]⟩,
  ⟨0x24064, [], false, false, 0, 0, .counterHi, [⟨121, 0, 16, .ro, 0⟩]⟩,
  ⟨0x24068, [], false, false, 0, 0, .counterLo, [⟨122, 0, 32, .ro, 0⟩]⟩,
  ⟨0x2406C, [], false, false, 0, 0, .counterHi, [⟨123, 0, 16, .ro, 0⟩]⟩,
  ⟨0x24070, [], false, false, 0, 0, .counterLo, [⟨124, 0, 32, .ro, 0⟩]⟩,
  ⟨0x24074, [], false, false, 0, 0, .counterHi, [⟨125, 0, 16, .ro, 0⟩]⟩,
  ⟨0x24078, [], false, false, 0, 0, .counterLo, [⟨126, 0, 32, .ro, 0⟩]⟩,
  ⟨0x2407C, [], false, false, 0, 0, .counterHi, [⟨127, 0, 16, .ro, 0⟩]⟩,
  ⟨0x24080, [], false, false, 0, 0, .counterLo, [⟨128, 0, 32, .ro, 0⟩]⟩,
  ⟨0x24084, [], false, false, 0, 0, .counterHi, [⟨129, 0, 16, .ro, 0⟩]⟩,
  ⟨0x24400, [(48, 0x10)], false, false, 0, 0, .plain, [⟨130, 0, 3, .ro, 0⟩, ⟨131, 4, 3, .ro, 0⟩, ⟨132, 7, 1, .ro, 0⟩, ⟨133, 8, 1, .ro, 0⟩, ⟨134, 9, 1, .ro, 0⟩, ⟨135, 16, 7, .ro, 0⟩]⟩,
  ⟨0x24404, [(48, 0x10)], false, false, 0, 0, .plain, [⟨136, 0, 22, .ro, 0⟩]⟩,
  ⟨0x24408, [(48, 0x10)], false, false, 0, 0, .plain, [⟨137, 0, 12, .ro, 0⟩]⟩]

/-- Register rows whose first offset lies in 0x24000 … 0x27FFF. -/
def regBlock9 : List RegRow := regBlock9_0

/-- Register rows of the block at 0x28000, part 1. -/
def regBlockA_0 : List RegRow := [
  ⟨0x28000, [], false, false, 0, 0, .plain, [⟨138, 0, 3, .rws, 2⟩]⟩,
  ⟨0x28004, [], false, false, 0, 0, .plain, [⟨139, 0, 1, .ro, 0⟩, ⟨140, 1, 1, .rw1c, 0⟩]⟩,
  ⟨0x28010, [(16, 0x4)], false, false, 0, 0, .plain, [⟨141, 0, 32, .wo, 0⟩]⟩,
  ⟨0x28050, [], false, false, 0, 0, .plain, [⟨142, 0, 32, .wo, 0⟩]⟩,
  ⟨0x28054, [], false, false, 0, 0, .plain, [⟨143, 0, 2, .wo, 0⟩, ⟨144, 8, 4, .wo, 0⟩]⟩,
  ⟨0x28058, [], false, false, 0, 0, .plain, [⟨145, 0, 6, .wo, 0⟩, ⟨146, 8, 2, .wo, 0⟩]⟩,
  ⟨0x28060, [], false, false, 0, 0, .counterLo, [⟨147, 0, 32, .ro, 0⟩]⟩,
  ⟨0x28064, [], false, false, 0, 0, .counterHi, [⟨148, 0, 16, .ro, 0⟩]⟩,
  ⟨0x28068, [], false, false, 0, 0, .counterLo, [⟨149, 0, 32, .ro, 0⟩]⟩,
  ⟨0x2806C, [], false, false, 0, 0, .counterHi, [⟨150, 0, 16, .ro, 0⟩]⟩,
  ⟨0x28080, [(8, 0x4)], false, false, 0, 0, .plain, [⟨151, 0, 32, .ro, 0⟩]⟩,
  ⟨0x28100, [(64, 0x10)], false, false, 0, 0, .pairLo, [⟨152, 0, 32, .ro, 0⟩]⟩,
  ⟨0x28104, [(64, 0x10)], false, false, 0, 0, .pairHi, [⟨153, 0, 32, .ro, 0⟩]⟩,
  ⟨0x28108, [(64, 0x10)], false, false, 0, 0, .plain, [⟨154, 0, 32, .ro, 0⟩]⟩,
  ⟨0x2810C, [(64, 0x10)], false, false, 0, 0, .plain, [⟨155, 0, 1, .ro, 0⟩, ⟨156, 1, 2, .ro, 0⟩, ⟨157, 8, 4, .ro, 0⟩]⟩]

/-- Register rows whose first offset lies in 0x28000 … 0x2BFFF. -/
def regBlockA : List RegRow := regBlockA_0

/-- Register rows of the block at 0x30000, part 1. -/
def regBlockC_0 : List RegRow := [
  ⟨0x30000, [(16, 0x400)], false, false, 0, 0, .plain, [⟨158, 0, 2, .rw, 0⟩, ⟨159, 2, 2, .rw, 0⟩, ⟨160, 4, 2, .rw, 0⟩, ⟨161, 6, 2, .rw, 0⟩, ⟨162, 8, 8, .rw, 150⟩]⟩,
  ⟨0x30004, [(16, 0x400)], false, false, 0, 0, .plain, [⟨163, 0, 1, .rw1c, 0⟩, ⟨164, 1, 1, .rw1c, 0⟩, ⟨165, 2, 1, .ro, 0⟩, ⟨166, 3, 1, .ro, 0⟩, ⟨167, 4, 4, .rw1c, 0⟩, ⟨168, 8, 4, .rw1c, 0⟩, ⟨169, 12, 4, .ro, 0⟩]⟩,
  ⟨0x30008, [(16, 0x400)], false, false, 0, 0, .plain, [⟨170, 0, 11, .ro, 60⟩, ⟨171, 16, 11, .ro, 20⟩]⟩,
  ⟨0x3000C, [(16, 0x400)], false, false, 0, 0, .plain, [⟨172, 0, 16, .ro, 0⟩, ⟨173, 16, 16, .ro, 0⟩]⟩,
  ⟨0x30010, [(16, 0x400)], false, false, 0, 0, .counterLo, [⟨174, 0, 32, .ro, 0⟩]⟩,
  ⟨0x30014, [(16, 0x400)], false, false, 0, 0, .counterHi, [⟨175, 0, 16, .ro, 0⟩]⟩,
  ⟨0x30018, [(16, 0x400)], false, false, 0, 0, .plain, [⟨176, 0, 4, .rws, 10⟩]⟩,
  ⟨0x3001C, [(16, 0x400)], false, false, 0, 0, .plain, [⟨177, 0, 16, .ro, 0⟩, ⟨178, 16, 16, .ro, 0⟩]⟩,
  ⟨0x30020, [(16, 0x400)], false, false, 0, 0, .plain, [⟨179, 0, 16, .ro, 0⟩]⟩,
  ⟨0x30024, [(16, 0x400)], false, false, 0, 0, .plain, [⟨180, 0, 1, .rw, 0⟩, ⟨181, 16, 16, .rw, 0⟩]⟩,
  ⟨0x30028, [(16, 0x400)], false, false, 0, 0, .plain, [⟨182, 0, 32, .rw, 0⟩]⟩,
  ⟨0x30100, [(16, 0x400)], false, false, 0, 0, .plain, [⟨183, 0, 1, .wo, 0⟩, ⟨184, 1, 1, .wo, 0⟩, ⟨185, 2, 1, .wo, 0⟩, ⟨186, 4, 3, .rw, 0⟩, ⟨187, 16, 12, .rw, 2048⟩]⟩,
  ⟨0x30104, [(16, 0x400)], false, false, 0, 0, .plain, [⟨188, 0, 4, .rw, 0⟩, ⟨189, 4, 3, .rw, 0⟩, ⟨190, 7, 1, .rw, 0⟩]⟩,
  ⟨0x30108, [(16, 0x400)], false, false, 0, 0, .plain, [⟨191, 0, 32, .rw, 0⟩]⟩,
  ⟨0x3010C, [(16, 0x400)], false, false, 0, 0, .plain, [⟨192, 0, 2, .ro, 0⟩, ⟨193, 2, 1, .rw1c, 0⟩, ⟨194, 4, 12, .ro, 0⟩, ⟨195, 16, 13, .ro, 0⟩]⟩,
  ⟨0x30110, [(16, 0x400)], false, false, 0, 0, .plain, [⟨196, 0, 32, .ro, 0⟩]⟩,
  ⟨0x30114, [(16, 0x400)], false, false, 0, 0, .plain, [⟨197, 0, 32, .ro, 0⟩]⟩,
  ⟨0x30120, [(16, 0x400), (8, 0x4)], false, false, 0, 0, .plain, [⟨198, 0, 8, .rw, 0⟩]⟩,
  ⟨0x30200, [(16, 0x400)], false, false, 0, 0, .plain, [⟨199, 0, 4, .ro, 0⟩, ⟨200, 4, 4, .ro, 0⟩, ⟨201, 8, 3, .ro, 0⟩, ⟨202, 11, 1, .ro, 0⟩, ⟨203, 12, 2, .ro, 0⟩, ⟨204, 14, 2, .ro, 0⟩]⟩,
  ⟨0x30204, [(16, 0x400)], false, false, 0, 0, .plain, [⟨205, 0, 1, .rw, 0⟩]⟩,
  ⟨0x30208, [(16, 0x400)], false, false, 0, 0, .plain, [⟨206, 0, 16, .rws, 16384⟩, ⟨207, 16, 16, .rws, 49152⟩]⟩,
  ⟨0x3020C, [(16, 0x400)], false, false, 0, 0, .plain, [⟨208, 0, 8, .rws, 20⟩, ⟨209, 8, 12, .rws, 1024⟩, ⟨210, 20, 12, .rws, 410⟩]⟩,
  ⟨0x30210, [(16, 0x400)], false, false, 0, 0, .plain, [⟨211, 0, 12, .rws, 410⟩, ⟨212, 12, 12, .rws, 2048⟩, ⟨213, 24, 8, .rws, 16⟩]⟩,
  ⟨0x30214, [(16, 0x400)], false, false, 0, 0, .plain, [⟨214, 0, 12, .rws, 410⟩, ⟨215, 12, 12, .rws, 1638⟩]⟩]

/-- Register rows of the block at 0x30000, part 2. -/
def regBlockC_1 : List RegRow := [
  ⟨0x30218, [(16, 0x400)], false, false, 0, 0, .plain, [⟨216, 0, 12, .rws, 164⟩, ⟨217, 12, 12, .rws, 205⟩]⟩,
  ⟨0x3021C, [(16, 0x400)], false, false, 0, 0, .plain, [⟨218, 0, 16, .rws, 128⟩, ⟨219, 16, 8, .rws, 64⟩, ⟨220, 24, 2, .rws, 2⟩]⟩,
  ⟨0x30220, [(16, 0x400)], false, false, 0, 0, .plain, [⟨221, 0, 16, .rws, 2048⟩, ⟨222, 16, 16, .rws, 1536⟩]⟩,
  ⟨0x30224, [(16, 0x400)], false, false, 0, 0, .plain, [⟨223, 0, 16, .rws, 2000⟩, ⟨224, 16, 16, .rws, 400⟩]⟩,
  ⟨0x30228, [(16, 0x400)], false, false, 0, 0, .plain, [⟨225, 0, 16, .rws, 0⟩, ⟨226, 16, 16, .rws, 0⟩]⟩,
  ⟨0x3022C, [(16, 0x400)], false, false, 0, 0, .plain, [⟨227, 0, 16, .rws, 655⟩, ⟨228, 16, 16, .rws, 1638⟩]⟩,
  ⟨0x30230, [(16, 0x400)], false, false, 0, 0, .plain, [⟨229, 0, 16, .ro, 0⟩, ⟨230, 16, 1, .rw1c, 0⟩, ⟨231, 17, 1, .rw1c, 0⟩, ⟨232, 18, 1, .rw1c, 0⟩, ⟨233, 19, 1, .rw1c, 0⟩, ⟨234, 20, 1, .rw1c, 0⟩, ⟨235, 21, 1, .rw1c, 0⟩]⟩,
  ⟨0x30300, [(16, 0x400)], false, false, 0, 0, .plain, [⟨236, 0, 3, .rw, 4⟩, ⟨237, 3, 1, .ro, 0⟩]⟩,
  ⟨0x30304, [(16, 0x400), (10, 0x4)], false, false, 0, 0, .plain, [⟨238, 0, 16, .rws, 0⟩]⟩,
  ⟨0x30330, [(16, 0x400)], false, false, 0, 0, .plain, [⟨239, 0, 16, .rws, 16384⟩, ⟨240, 16, 12, .rw, 64⟩]⟩,
  ⟨0x30334, [(16, 0x400)], false, false, 0, 0, .plain, [⟨241, 0, 16, .rws, 0⟩, ⟨242, 16, 12, .rw, 16⟩]⟩,
  ⟨0x30338, [(16, 0x400)], false, false, 0, 0, .plain, [⟨243, 0, 10, .rw1c, 0⟩, ⟨244, 10, 1, .rw1c, 0⟩, ⟨245, 11, 1, .rw1c, 0⟩, ⟨246, 12, 1, .rw1c, 0⟩, ⟨247, 13, 1, .rw1c, 0⟩]⟩,
  ⟨0x3033C, [(16, 0x400)], false, false, 0, 0, .plain, [⟨248, 0, 12, .rws, 0⟩, ⟨249, 16, 12, .rws, 4095⟩]⟩,
  ⟨0x30340, [(16, 0x400)], false, false, 0, 0, .plain, [⟨250, 0, 1, .rw, 0⟩, ⟨251, 1, 1, .rw, 0⟩]⟩,
  ⟨0x30344, [(16, 0x400)], false, false, 0, 0, .plain, [⟨252, 0, 1, .ro, 0⟩, ⟨253, 1, 1, .ro, 0⟩, ⟨254, 2, 1, .ro, 0⟩, ⟨255, 3, 1, .ro, 0⟩, ⟨256, 4, 1, .ro, 0⟩, ⟨257, 8, 8, .ro, 0⟩, ⟨258, 16, 16, .ro, 0⟩]⟩]

/-- Register rows whose first offset lies in 0x30000 … 0x33FFF. -/
def regBlockC : List RegRow := regBlockC_0 ++ regBlockC_1

/-- Register rows of the block at 0x34000, part 1. -/
def regBlockD_0 : List RegRow := [
  ⟨0x34000, [(16, 0x800), (4, 0x180)], false, false, 0, 0, .plain, [⟨259, 0, 5, .rw, 0⟩, ⟨260, 8, 5, .rw, 0⟩]⟩,
  ⟨0x34004, [(16, 0x800), (4, 0x180)], false, false, 0, 0, .plain, [⟨261, 0, 32, .rw, 0⟩]⟩,
  ⟨0x34008, [(16, 0x800), (4, 0x180)], false, false, 0, 0, .plain, [⟨262, 0, 32, .rw, 0⟩]⟩,
  ⟨0x3400C, [(16, 0x800), (4, 0x180)], false, false, 0, 0, .plain, [⟨263, 0, 32, .rw, 0⟩]⟩,
  ⟨0x34010, [(16, 0x800), (4, 0x180)], false, false, 0, 0, .plain, [⟨264, 0, 32, .rw, 0⟩]⟩,
  ⟨0x34014, [(16, 0x800), (4, 0x180)], false, false, 0, 0, .plain, [⟨265, 0, 5, .rw, 0⟩, ⟨266, 8, 5, .rw, 0⟩, ⟨267, 16, 5, .rw, 0⟩]⟩,
  ⟨0x34018, [(16, 0x800), (4, 0x180)], false, false, 0, 0, .plain, [⟨268, 0, 32, .rw, 2147483647⟩]⟩,
  ⟨0x3401C, [(16, 0x800), (4, 0x180)], false, false, 0, 0, .plain, [⟨269, 0, 32, .rw, 2147483648⟩]⟩,
  ⟨0x34020, [(16, 0x800), (4, 0x180)], false, false, 0, 0, .plain, [⟨270, 0, 14, .rw, 0⟩, ⟨271, 16, 1, .wo, 0⟩, ⟨272, 20, 4, .wo, 0⟩, ⟨273, 24, 4, .wo, 0⟩]⟩,
  ⟨0x34024, [(16, 0x800), (4, 0x180)], false, false, 0, 0, .plain, [⟨274, 0, 2, .rw, 0⟩, ⟨275, 2, 1, .rw, 0⟩, ⟨276, 3, 1, .rw, 0⟩, ⟨277, 4, 4, .rw, 8⟩, ⟨278, 8, 16, .rw, 0⟩]⟩,
  ⟨0x34028, [(16, 0x800), (4, 0x180)], false, false, 0, 0, .plain, [⟨279, 0, 16, .rw, 0⟩]⟩,
  ⟨0x34030, [(16, 0x800), (4, 0x180), (14, 0x18)], false, false, 0, 0, .plain, [⟨280, 0, 32, .rw, 0⟩]⟩,
  ⟨0x34034, [(16, 0x800), (4, 0x180), (14, 0x18)], false, false, 0, 0, .plain, [⟨281, 0, 32, .rw, 0⟩]⟩,
  ⟨0x34038, [(16, 0x800), (4, 0x180), (14, 0x18)], false, false, 0, 0, .plain, [⟨282, 0, 32, .rw, 0⟩]⟩,
  ⟨0x3403C, [(16, 0x800), (4, 0x180), (14, 0x18)], false, false, 0, 0, .plain, [⟨283, 0, 32, .rw, 0⟩]⟩,
  ⟨0x34040, [(16, 0x800), (4, 0x180), (14, 0x18)], false, false, 0, 0, .plain, [⟨284, 0, 32, .rw, 0⟩]⟩,
  ⟨0x34044, [(16, 0x800), (4, 0x180), (14, 0x18)], false, false, 0, 0, .plain, [⟨285, 0, 25, .rw, 0⟩]⟩]

/-- Register rows whose first offset lies in 0x34000 … 0x37FFF. -/
def regBlockD : List RegRow := regBlockD_0

/-- Register rows of the block at 0x3C000, part 1. -/
def regBlockF_0 : List RegRow := [
  ⟨0x3C000, [], false, false, 0, 0, .plain, [⟨286, 0, 10, .rw, 250⟩, ⟨287, 16, 1, .rw1c, 0⟩]⟩,
  ⟨0x3C004, [], false, false, 0, 0, .plain, [⟨288, 0, 32, .ro, 0⟩]⟩]

/-- Register rows whose first offset lies in 0x3C000 … 0x3FFFF. -/
def regBlockF : List RegRow := regBlockF_0

/-- Register rows of the block at 0x40000, part 1. -/
def regBlock10_0 : List RegRow := [
  ⟨0x40000, [(8, 0x100)], false, false, 0, 0, .plain, [⟨289, 0, 1, .rw, 0⟩, ⟨290, 1, 2, .rw, 0⟩, ⟨291, 3, 1, .rws, 0⟩]⟩,
  ⟨0x40004, [(8, 0x100)], false, false, 0, 0, .plain, [⟨292, 0, 14, .rw, 9000⟩]⟩,
  ⟨0x40008, [(8, 0x100)], false, false, 0, 0, .plain, [⟨293, 0, 4, .ro, 0⟩, ⟨294, 4, 1, .ro, 0⟩, ⟨295, 5, 1, .ro, 0⟩, ⟨296, 6, 2, .ro, 0⟩, ⟨297, 16, 16, .ro, 0⟩]⟩,
  ⟨0x4000C, [(8, 0x100)], false, false, 0, 0, .plain, [⟨298, 0, 1, .rw1c, 0⟩, ⟨299, 1, 1, .rw1c, 0⟩, ⟨300, 2, 1, .rw1c, 0⟩, ⟨301, 3, 1, .rw1c, 0⟩, ⟨302, 4, 1, .rw1c, 0⟩, ⟨303, 5, 1, .rw1c, 0⟩, ⟨304, 6, 1, .rw1c, 0⟩, ⟨305, 7, 1, .rw1c, 0⟩]⟩,
  ⟨0x40010, [(8, 0x100)], false, false, 0, 0, .plain, [⟨306, 0, 16, .rws, 1500⟩, ⟨307, 16, 16, .rws, 1500⟩]⟩,
  ⟨0x40014, [(8, 0x100)], false, false, 0, 0, .plain, [⟨308, 0, 16, .rws, 256⟩, ⟨309, 16, 16, .rws, 16⟩]⟩,
  ⟨0x40018, [(8, 0x100)], false, false, 0, 0, .plain, [⟨310, 0, 12, .rws, 300⟩, ⟨311, 16, 12, .rws, 400⟩]⟩,
  ⟨0x4001C, [(8, 0x100)], false, false, 0, 0, .plain, [⟨312, 0, 8, .rws, 50⟩, ⟨313, 8, 8, .rws, 20⟩]⟩,
  ⟨0x40020, [(8, 0x100)], false, false, 0, 0, .plain, [⟨314, 0, 8, .rws, 20⟩, ⟨315, 8, 8, .rws, 13⟩, ⟨316, 16, 8, .rws, 8⟩]⟩,
  ⟨0x40024, [(8, 0x100)], false, false, 0, 0, .plain, [⟨317, 0, 16, .rws, 1200⟩, ⟨318, 16, 12, .rws, 300⟩]⟩,
  ⟨0x40028, [(8, 0x100)], false, false, 0, 0, .plain, [⟨319, 0, 8, .rws, 64⟩, ⟨320, 8, 8, .rws, 0⟩, ⟨321, 16, 8, .rws, 20⟩, ⟨322, 24, 8, .rws, 10⟩]⟩,
  ⟨0x4002C, [(8, 0x100)], false, false, 0, 0, .plain, [⟨323, 0, 10, .rws, 300⟩, ⟨324, 16, 10, .rws, 280⟩]⟩,
  ⟨0x40030, [(8, 0x100)], false, false, 0, 0, .plain, [⟨325, 0, 10, .rws, 50⟩]⟩,
  ⟨0x40034, [(8, 0x100)], false, false, 0, 0, .plain, [⟨326, 0, 10, .ro, 0⟩, ⟨327, 16, 10, .ro, 0⟩, ⟨328, 26, 1, .wo, 0⟩]⟩,
  ⟨0x40038, [(8, 0x100)], false, false, 0, 0, .plain, [⟨329, 0, 12, .ro, 0⟩, ⟨330, 16, 12, .rw, 0⟩]⟩,
  ⟨0x4003C, [(8, 0x100)], false, false, 0, 0, .plain, [⟨331, 0, 8, .ro, 0⟩]⟩,
  ⟨0x40800, [], false, false, 0, 0, .plain, [⟨332, 0, 8, .ro, 0⟩, ⟨333, 8, 1, .ro, 0⟩]⟩]

/-- Register rows whose first offset lies in 0x40000 … 0x43FFF. -/
def regBlock10 : List RegRow := regBlock10_0

/-- Register rows of the block at 0x48000, part 1. -/
def regBlock12_0 : List RegRow := [
  ⟨0x48000, [(28, 0x80)], false, false, 0, 0, .plain, [⟨334, 0, 1, .wo, 0⟩, ⟨335, 1, 1, .wo, 0⟩, ⟨336, 2, 1, .wo, 0⟩, ⟨337, 3, 1, .wo, 0⟩]⟩,
  ⟨0x48004, [(28, 0x80)], false, false, 0, 0, .plain, [⟨338, 0, 32, .rw, 0⟩]⟩,
  ⟨0x48008, [(28, 0x80)], false, false, 0, 0, .plain, [⟨339, 0, 24, .rws, 341333⟩]⟩,
  ⟨0x4800C, [(28, 0x80)], false, false, 0, 0, .plain, [⟨340, 0, 32, .rws, 6826667⟩]⟩,
  ⟨0x48010, [(28, 0x80)], false, false, 0, 0, .plain, [⟨341, 0, 32, .rws, 6826667⟩]⟩,
  ⟨0x48014, [(28, 0x80)], false, false, 0, 0, .plain, [⟨342, 0, 32, .rws, 13653333⟩]⟩,
  ⟨0x48018, [(28, 0x80)], false, false, 0, 0, .plain, [⟨343, 0, 16, .rws, 100⟩]⟩,
  ⟨0x4801C, [(28, 0x80)], false, false, 0, 0, .plain, [⟨344, 0, 32, .ro, 0⟩]⟩,
  ⟨0x48020, [(28, 0x80)], false, false, 0, 0, .plain, [⟨345, 0, 32, .wo, 0⟩]⟩,
  ⟨0x48024, [(28, 0x80)], false, false, 0, 0, .plain, [⟨346, 0, 1, .rw1c, 0⟩, ⟨347, 1, 1, .rw1c, 0⟩, ⟨348, 2, 1, .rw1c, 0⟩, ⟨349, 3, 1, .rw1c, 0⟩, ⟨350, 4, 1, .rw1c, 0⟩, ⟨351, 5, 1, .rw1c, 0⟩, ⟨352, 6, 1, .rw1c, 0⟩, ⟨353, 7, 1, .rw1c, 0⟩, ⟨354, 8, 1, .rw1c, 0⟩, ⟨355, 9, 1, .rw1c, 0⟩, ⟨356, 10, 1, .rw1c, 0⟩, ⟨357, 16, 2, .ro, 0⟩, ⟨358, 18, 4, .ro, 0⟩]⟩,
  ⟨0x48028, [(16, 0x80)], false, false, 0, 0, .plain, [⟨359, 0, 1, .rw, 0⟩, ⟨360, 1, 1, .wo, 0⟩, ⟨361, 2, 1, .ro, 0⟩]⟩,
  ⟨0x4802C, [(16, 0x80)], false, false, 0, 0, .plain, [⟨362, 0, 32, .rw, 1431656⟩]⟩,
  ⟨0x48030, [(16, 0x80)], false, false, 0, 0, .plain, [⟨363, 0, 32, .rw, 0⟩]⟩,
  ⟨0x48034, [(16, 0x80)], false, false, 0, 0, .plain, [⟨364, 0, 32, .rw, 0⟩]⟩,
  ⟨0x48038, [(16, 0x80)], false, false, 0, 0, .plain, [⟨365, 0, 16, .rw, 0⟩]⟩,
  ⟨0x4803C, [(16, 0x80)], false, false, 0, 0, .pairLo, [⟨366, 0, 32, .ro, 0⟩]⟩,
  ⟨0x48040, [(16, 0x80)], false, false, 0, 0, .pairHi, [⟨367, 0, 16, .ro, 0⟩]⟩,
  ⟨0x48044, [(16, 0x80)], false, false, 0, 0, .plain, [⟨368, 0, 32, .rws, 2147483648⟩]⟩,
  ⟨0x48048, [(16, 0x80)], false, false, 0, 0, .plain, [⟨369, 0, 32, .rws, 2147483647⟩]⟩,
  ⟨0x4804C, [(16, 0x80)], false, false, 0, 0, .plain, [⟨370, 0, 8, .rws, 128⟩, ⟨371, 8, 1, .rws, 0⟩, ⟨372, 16, 16, .rws, 100⟩]⟩,
  ⟨0x48828, [(12, 0x80)], false, false, 0, 0, .plain, [⟨373, 0, 1, .rws, 0⟩, ⟨374, 1, 1, .rws, 0⟩, ⟨375, 2, 1, .rws, 0⟩, ⟨376, 3, 1, .rws, 0⟩, ⟨377, 4, 1, .rws, 0⟩, ⟨378, 8, 8, .rws, 128⟩, ⟨379, 16, 16, .rws, 500⟩]⟩,
  ⟨0x4882C, [(12, 0x80)], false, false, 0, 0, .plain, [⟨380, 0, 14, .rws, 1000⟩, ⟨381, 16, 14, .rws, 1000⟩]⟩,
  ⟨0x48830, [(12, 0x80)], false, false, 0, 0, .plain, [⟨382, 0, 24, .rws, 20000⟩]⟩,
  ⟨0x48834, [(12, 0x80)], false, false, 0, 0, .plain, [⟨383, 0, 24, .rws, 1000⟩]⟩]

/-- Register rows of the block at 0x48000, part 2. -/
def regBlock12_1 : List RegRow := [
  ⟨0x48838, [(12, 0x80)], false, false, 0, 0, .plain, [⟨384, 0, 32, .rws, 2000⟩]⟩,
  ⟨0x4883C, [(12, 0x80)], false, false, 0, 0, .plain, [⟨385, 0, 32, .rws, 2147483647⟩]⟩,
  ⟨0x48840, [(12, 0x80)], false, false, 0, 0, .plain, [⟨386, 0, 32, .rws, 0⟩]⟩,
  ⟨0x48844, [(12, 0x80)], false, false, 0, 0, .plain, [⟨387, 0, 32, .ro, 0⟩]⟩,
  ⟨0x48848, [(12, 0x80)], false, false, 0, 0, .plain, [⟨388, 0, 32, .ro, 0⟩]⟩,
  ⟨0x4884C, [(12, 0x80)], false, false, 0, 0, .plain, [⟨389, 0, 32, .rws, 65536⟩]⟩,
  ⟨0x48850, [(12, 0x80)], false, false, 0, 0, .plain, [⟨390, 0, 32, .rws, 256⟩]⟩,
  ⟨0x48854, [(12, 0x80)], false, false, 0, 0, .plain, [⟨391, 0, 1, .ro, 0⟩, ⟨392, 1, 1, .ro, 0⟩, ⟨393, 2, 1, .ro, 0⟩]⟩,
  ⟨0x4A000, [(3, 0x40)], false, false, 0, 0, .plain, [⟨394, 0, 12, .rw, 0⟩, ⟨395, 16, 1, .wo, 0⟩, ⟨396, 17, 1, .wo, 0⟩]⟩,
  ⟨0x4A004, [(3, 0x40)], false, false, 0, 0, .plain, [⟨397, 0, 24, .rw, 100000⟩]⟩,
  ⟨0x4A008, [(3, 0x40)], false, false, 0, 0, .plain, [⟨398, 0, 32, .rw, 1000000⟩]⟩,
  ⟨0x4A00C, [(3, 0x40)], false, false, 0, 0, .plain, [⟨399, 0, 32, .rw, 1000000⟩]⟩,
  ⟨0x4A010, [(3, 0x40)], false, false, 0, 0, .plain, [⟨400, 0, 24, .rw, 50000⟩]⟩,
  ⟨0x4A014, [(3, 0x40)], false, false, 0, 0, .plain, [⟨401, 0, 1, .rw1c, 0⟩, ⟨402, 1, 1, .rw1c, 0⟩, ⟨403, 2, 1, .rw1c, 0⟩, ⟨404, 3, 1, .rw1c, 0⟩, ⟨405, 16, 7, .ro, 0⟩]⟩,
  ⟨0x4A400, [], false, false, 0, 0, .plain, [⟨406, 0, 1, .wo, 0⟩, ⟨407, 1, 1, .rw1c, 0⟩]⟩]

/-- Register rows whose first offset lies in 0x48000 … 0x4BFFF. -/
def regBlock12 : List RegRow := regBlock12_0 ++ regBlock12_1

/-- Register rows of the block at 0x50000, part 1. -/
def regBlock14_0 : List RegRow := [
  ⟨0x50000, [(64, 0x100)], false, false, 0, 0, .plain, [⟨408, 0, 2, .rw, 0⟩, ⟨409, 2, 1, .rw, 1⟩, ⟨410, 3, 1, .rw, 1⟩, ⟨411, 4, 1, .rw, 1⟩]⟩,
  ⟨0x50004, [(64, 0x100)], false, false, 0, 0, .plain, [⟨412, 0, 2, .ro, 0⟩, ⟨413, 2, 1, .ro, 0⟩, ⟨414, 3, 1, .ro, 0⟩, ⟨415, 4, 1, .ro, 0⟩, ⟨416, 8, 1, .rw1c, 0⟩, ⟨417, 9, 1, .rw1c, 0⟩, ⟨418, 10, 1, .rw1c, 0⟩, ⟨419, 11, 1, .rw1c, 0⟩]⟩,
  ⟨0x50008, [(64, 0x100)], false, false, 0, 0, .plain, [⟨420, 0, 10, .rw, 320⟩]⟩,
  ⟨0x5000C, [(64, 0x100)], false, false, 0, 0, .plain, [⟨421, 0, 8, .rws, 128⟩, ⟨422, 8, 5, .rws, 8⟩]⟩,
  ⟨0x50010, [(64, 0x100)], false, false, 0, 0, .plain, [⟨423, 0, 16, .rw, 0⟩]⟩,
  ⟨0x50014, [(64, 0x100)], false, false, 0, 0, .plain, [⟨424, 0, 16, .rw, 16384⟩]⟩,
  ⟨0x50018, [(64, 0x100)], false, false, 0, 0, .plain, [⟨425, 0, 16, .rw, 0⟩]⟩,
  ⟨0x5001C, [(64, 0x100)], false, false, 0, 0, .plain, [⟨426, 0, 5, .rws, 10⟩, ⟨427, 8, 5, .rws, 12⟩, ⟨428, 16, 5, .rws, 14⟩, ⟨429, 24, 5, .rws, 16⟩]⟩,
  ⟨0x50020, [(64, 0x100)], false, false, 0, 0, .plain, [⟨430, 0, 5, .rws, 3⟩, ⟨431, 8, 5, .rws, 9⟩, ⟨432, 16, 5, .rws, 6⟩, ⟨433, 24, 5, .rws, 14⟩]⟩,
  ⟨0x50024, [(64, 0x100)], false, false, 0, 0, .plain, [⟨434, 0, 16, .ro, 0⟩]⟩,
  ⟨0x50028, [(64, 0x100)], false, false, 0, 0, .plain, [⟨435, 0, 16, .rws, 0⟩]⟩,
  ⟨0x5002C, [(64, 0x100)], false, false, 0, 0, .plain, [⟨436, 0, 8, .rws, 128⟩, ⟨437, 8, 8, .rws, 192⟩, ⟨438, 16, 8, .rws, 64⟩, ⟨439, 24, 8, .rws, 8⟩]⟩,
  ⟨0x50030, [(64, 0x100)], false, false, 0, 0, .plain, [⟨440, 0, 8, .rws, 64⟩, ⟨441, 8, 4, .rws, 1⟩, ⟨442, 12, 4, .rws, 2⟩, ⟨443, 16, 4, .rws, 1⟩, ⟨444, 20, 8, .rws, 64⟩]⟩,
  ⟨0x50034, [(64, 0x100)], false, false, 0, 0, .plain, [⟨445, 0, 8, .rws, 32⟩, ⟨446, 16, 16, .ro, 0⟩]⟩,
  ⟨0x50038, [(64, 0x100)], false, false, 0, 0, .plain, [⟨447, 0, 8, .ro, 0⟩, ⟨448, 16, 16, .ro, 0⟩]⟩,
  ⟨0x5003C, [(64, 0x100)], false, false, 0, 0, .plain, [⟨449, 0, 8, .rws, 24⟩, ⟨450, 16, 16, .rws, 1638⟩]⟩,
  ⟨0x50040, [(64, 0x100)], false, false, 0, 0, .counterLo, [⟨451, 0, 32, .ro, 0⟩]⟩,
  ⟨0x50044, [(64, 0x100)], false, false, 0, 0, .counterHi, [⟨452, 0, 16, .ro, 0⟩]⟩,
  ⟨0x50048, [(64, 0x100)], false, false, 0, 0, .counterLo, [⟨453, 0, 32, .ro, 0⟩]⟩,
  ⟨0x5004C, [(64, 0x100)], false, false, 0, 0, .counterHi, [⟨454, 0, 16, .ro, 0⟩]⟩,
  ⟨0x50050, [(64, 0x100)], false, false, 0, 0, .counterLo, [⟨455, 0, 32, .ro, 0⟩]⟩,
  ⟨0x50054, [(64, 0x100)], false, false, 0, 0, .counterHi, [⟨456, 0, 16, .ro, 0⟩]⟩,
  ⟨0x50058, [(64, 0x100)], false, false, 0, 0, .plain, [⟨457, 0, 8, .rws, 51⟩]⟩,
  ⟨0x50080, [(64, 0x100)], false, false, 0, 0, .plain, [⟨458, 0, 7, .rws, 48⟩, ⟨459, 8, 4, .rws, 6⟩, ⟨460, 16, 4, .rws, 10⟩, ⟨461, 24, 1, .rws, 1⟩]⟩]

/-- Register rows of the block at 0x50000, part 2. -/
def regBlock14_1 : List RegRow := [
  ⟨0x50084, [(64, 0x100)], false, false, 0, 0, .plain, [⟨462, 0, 1, .rw1c, 0⟩, ⟨463, 1, 1, .rw1c, 0⟩, ⟨464, 2, 1, .rw1c, 0⟩, ⟨465, 8, 3, .ro, 0⟩]⟩,
  ⟨0x50088, [(64, 0x100)], false, false, 0, 0, .counterLo, [⟨466, 0, 32, .ro, 0⟩]⟩,
  ⟨0x5008C, [(64, 0x100)], false, false, 0, 0, .counterHi, [⟨467, 0, 16, .ro, 0⟩]⟩,
  ⟨0x50090, [(64, 0x100)], false, false, 0, 0, .counterLo, [⟨468, 0, 32, .ro, 0⟩]⟩,
  ⟨0x50094, [(64, 0x100)], false, false, 0, 0, .counterHi, [⟨469, 0, 16, .ro, 0⟩]⟩,
  ⟨0x50098, [(64, 0x100)], false, false, 0, 0, .counterLo, [⟨470, 0, 32, .ro, 0⟩]⟩,
  ⟨0x5009C, [(64, 0x100)], false, false, 0, 0, .counterHi, [⟨471, 0, 16, .ro, 0⟩]⟩,
  ⟨0x500A0, [(64, 0x100)], false, false, 0, 0, .counterLo, [⟨472, 0, 32, .ro, 0⟩]⟩,
  ⟨0x500A4, [(64, 0x100)], false, false, 0, 0, .counterHi, [⟨473, 0, 16, .ro, 0⟩]⟩,
  ⟨0x500A8, [(64, 0x100)], false, false, 0, 0, .counterLo, [⟨474, 0, 32, .ro, 0⟩]⟩,
  ⟨0x500AC, [(64, 0x100)], false, false, 0, 0, .counterHi, [⟨475, 0, 16, .ro, 0⟩]⟩,
  ⟨0x500B0, [(64, 0x100)], false, false, 0, 0, .counterLo, [⟨476, 0, 32, .ro, 0⟩]⟩,
  ⟨0x500B4, [(64, 0x100)], false, false, 0, 0, .counterHi, [⟨477, 0, 16, .ro, 0⟩]⟩,
  ⟨0x500B8, [(64, 0x100)], false, false, 0, 0, .counterLo, [⟨478, 0, 32, .ro, 0⟩]⟩,
  ⟨0x500BC, [(64, 0x100)], false, false, 0, 0, .counterHi, [⟨479, 0, 16, .ro, 0⟩]⟩,
  ⟨0x500C0, [(64, 0x100)], false, false, 0, 0, .counterLo, [⟨480, 0, 32, .ro, 0⟩]⟩,
  ⟨0x500C4, [(64, 0x100)], false, false, 0, 0, .counterHi, [⟨481, 0, 16, .ro, 0⟩]⟩,
  ⟨0x500C8, [(64, 0x100)], false, false, 0, 0, .counterLo, [⟨482, 0, 32, .ro, 0⟩]⟩,
  ⟨0x500CC, [(64, 0x100)], false, false, 0, 0, .counterHi, [⟨483, 0, 16, .ro, 0⟩]⟩,
  ⟨0x500D0, [(64, 0x100)], false, false, 0, 0, .counterLo, [⟨484, 0, 32, .ro, 0⟩]⟩,
  ⟨0x500D4, [(64, 0x100)], false, false, 0, 0, .counterHi, [⟨485, 0, 16, .ro, 0⟩]⟩,
  ⟨0x500D8, [(64, 0x100)], false, false, 0, 0, .counterLo, [⟨486, 0, 32, .ro, 0⟩]⟩,
  ⟨0x500DC, [(64, 0x100)], false, false, 0, 0, .counterHi, [⟨487, 0, 16, .ro, 0⟩]⟩,
  ⟨0x500E0, [], false, false, 0, 0, .plain, [⟨488, 0, 5, .rws, 20⟩, ⟨489, 8, 6, .rws, 50⟩, ⟨490, 16, 2, .rws, 3⟩, ⟨491, 20, 2, .rws, 2⟩]⟩]

/-- Register rows of the block at 0x50000, part 3. -/
def regBlock14_2 : List RegRow := [
  ⟨0x500E4, [], false, false, 0, 0, .plain, [⟨492, 0, 8, .rws, 32⟩, ⟨493, 8, 8, .rws, 32⟩, ⟨494, 16, 8, .ro, 128⟩]⟩]

/-- Register rows whose first offset lies in 0x50000 … 0x53FFF. -/
def regBlock14 : List RegRow := regBlock14_0 ++ regBlock14_1 ++ regBlock14_2

/-- Register rows of the block at 0x54000, part 1. -/
def regBlock15_0 : List RegRow := [
  ⟨0x54000, [(64, 0x100), (60, 0x4)], false, false, 0, 0, .plain, [⟨495, 0, 12, .rw, 0⟩]⟩]

/-- Register rows whose first offset lies in 0x54000 … 0x57FFF. -/
def regBlock15 : List RegRow := regBlock15_0

/-- Register rows of the block at 0x58000, part 1. -/
def regBlock16_0 : List RegRow := [
  ⟨0x58000, [(16, 0x80)], false, false, 0, 0, .plain, [⟨496, 0, 4, .ro, 0⟩, ⟨497, 4, 1, .ro, 0⟩, ⟨498, 8, 1, .rw1c, 0⟩, ⟨499, 9, 1, .rw1c, 0⟩, ⟨500, 10, 1, .rw1c, 0⟩, ⟨501, 11, 1, .rw1c, 0⟩, ⟨502, 12, 1, .rw1c, 0⟩, ⟨503, 13, 1, .rw1c, 0⟩, ⟨504, 16, 4, .ro, 0⟩]⟩,
  ⟨0x58004, [(16, 0x80)], false, false, 0, 0, .plain, [⟨505, 0, 16, .ro, 0⟩]⟩,
  ⟨0x58008, [(16, 0x80)], false, false, 0, 0, .plain, [⟨506, 0, 32, .ro, 0⟩]⟩,
  ⟨0x5800C, [(16, 0x80)], false, false, 0, 0, .plain, [⟨507, 0, 16, .ro, 0⟩, ⟨508, 16, 16, .ro, 0⟩]⟩,
  ⟨0x58010, [(16, 0x80)], false, false, 0, 0, .plain, [⟨509, 0, 16, .ro, 0⟩, ⟨510, 16, 16, .ro, 0⟩]⟩,
  ⟨0x58014, [(16, 0x80)], false, false, 0, 0, .plain, [⟨511, 0, 10, .ro, 0⟩, ⟨512, 15, 1, .ro, 0⟩]⟩,
  ⟨0x58018, [(16, 0x80)], false, false, 0, 0, .counterLo, [⟨513, 0, 32, .ro, 0⟩]⟩,
  ⟨0x5801C, [(16, 0x80)], false, false, 0, 0, .counterHi, [⟨514, 0, 16, .ro, 0⟩]⟩,
  ⟨0x58020, [(16, 0x80)], false, false, 0, 0, .counterLo, [⟨515, 0, 32, .ro, 0⟩]⟩,
  ⟨0x58024, [(16, 0x80)], false, false, 0, 0, .counterHi, [⟨516, 0, 16, .ro, 0⟩]⟩,
  ⟨0x58028, [(16, 0x80)], false, false, 0, 0, .counterLo, [⟨517, 0, 32, .ro, 0⟩]⟩,
  ⟨0x5802C, [(16, 0x80)], false, false, 0, 0, .counterHi, [⟨518, 0, 16, .ro, 0⟩]⟩,
  ⟨0x58800, [], false, false, 0, 0, .plain, [⟨519, 0, 8, .rws, 32⟩, ⟨520, 8, 8, .rws, 128⟩]⟩,
  ⟨0x58804, [], false, false, 0, 0, .plain, [⟨521, 0, 8, .rws, 10⟩]⟩,
  ⟨0x58808, [], false, false, 0, 0, .plain, [⟨522, 0, 8, .rws, 10⟩, ⟨523, 8, 8, .rws, 50⟩]⟩,
  ⟨0x5880C, [], false, false, 0, 0, .plain, [⟨524, 0, 4, .rws, 3⟩, ⟨525, 8, 4, .rws, 2⟩]⟩,
  ⟨0x58810, [], false, false, 0, 0, .plain, [⟨526, 0, 16, .rws, 1024⟩, ⟨527, 16, 8, .rws, 4⟩]⟩]

/-- Register rows whose first offset lies in 0x58000 … 0x5BFFF. -/
def regBlock16 : List RegRow := regBlock16_0

/-- Register rows of the block at 0x60000, part 1. -/
def regBlock18_0 : List RegRow := [
  ⟨0x60000, [(8, 0x40)], false, false, 0, 0, .plain, [⟨528, 0, 3, .ro, 0⟩, ⟨529, 4, 1, .ro, 0⟩, ⟨530, 5, 1, .ro, 0⟩, ⟨531, 8, 3, .ro, 0⟩, ⟨532, 16, 1, .rw1c, 0⟩, ⟨533, 17, 1, .rw1c, 0⟩, ⟨534, 18, 1, .rw1c, 0⟩]⟩,
  ⟨0x60004, [(8, 0x40)], false, false, 0, 0, .plain, [⟨535, 0, 16, .ro, 0⟩, ⟨536, 16, 16, .ro, 0⟩]⟩,
  ⟨0x60008, [(8, 0x40)], false, false, 0, 0, .counterLo, [⟨537, 0, 32, .ro, 0⟩]⟩,
  ⟨0x6000C, [(8, 0x40)], false, false, 0, 0, .counterHi, [⟨538, 0, 16, .ro, 0⟩]⟩,
  ⟨0x60010, [(8, 0x40)], false, false, 0, 0, .counterLo, [⟨539, 0, 32, .ro, 0⟩]⟩,
  ⟨0x60014, [(8, 0x40)], false, false, 0, 0, .counterHi, [⟨540, 0, 16, .ro, 0⟩]⟩,
  ⟨0x60018, [(8, 0x40)], false, false, 0, 0, .plain, [⟨541, 0, 4, .ro, 0⟩, ⟨542, 4, 4, .ro, 15⟩]⟩,
  ⟨0x60400, [], false, false, 0, 0, .plain, [⟨543, 0, 1, .rws, 1⟩, ⟨544, 1, 1, .rws, 1⟩, ⟨545, 8, 12, .rws, 600⟩, ⟨546, 24, 4, .rws, 8⟩]⟩,
  ⟨0x60404, [], false, false, 0, 0, .plain, [⟨547, 0, 16, .rws, 128⟩, ⟨548, 16, 16, .rws, 256⟩]⟩]

/-- Register rows whose first offset lies in 0x60000 … 0x63FFF. -/
def regBlock18 : List RegRow := regBlock18_0

/-- Register rows of the block at 0x68000, part 1. -/
def regBlock1A_0 : List RegRow := [
  ⟨0x68000, [(5, 0x40)], false, false, 0, 0, .plain, [⟨549, 0, 1, .rws, 1⟩, ⟨550, 1, 1, .rws, 0⟩, ⟨551, 2, 1, .wo, 0⟩, ⟨552, 3, 1, .wo, 0⟩]⟩,
  ⟨0x68004, [(5, 0x40)], false, false, 0, 0, .plain, [⟨553, 0, 1, .ro, 0⟩, ⟨554, 1, 2, .ro, 0⟩, ⟨555, 3, 3, .ro, 0⟩, ⟨556, 6, 1, .ro, 0⟩, ⟨557, 7, 1, .ro, 0⟩, ⟨558, 8, 1, .rw1c, 0⟩, ⟨559, 9, 1, .rw1c, 0⟩, ⟨560, 10, 1, .rw1c, 0⟩, ⟨561, 11, 1, .rw1c, 0⟩, ⟨562, 12, 1, .rw1c, 0⟩, ⟨563, 16, 16, .ro, 0⟩]⟩,
  ⟨0x68008, [(5, 0x40)], false, false, 0, 0, .plain, [⟨564, 0, 24, .ro, 0⟩]⟩,
  ⟨0x6800C, [(5, 0x40)], false, false, 0, 0, .plain, [⟨565, 0, 24, .ro, 0⟩]⟩,
  ⟨0x68010, [(5, 0x40)], false, false, 0, 0, .plain, [⟨566, 0, 16, .rws, 0⟩]⟩,
  ⟨0x68014, [(5, 0x40)], false, false, 0, 0, .plain, [⟨567, 0, 32, .ro, 0⟩]⟩,
  ⟨0x68018, [(5, 0x40)], false, false, 0, 0, .plain, [⟨568, 0, 16, .ro, 0⟩]⟩,
  ⟨0x68020, [(5, 0x40)], false, false, 0, 0, .counterLo, [⟨569, 0, 32, .ro, 0⟩]⟩,
  ⟨0x68024, [(5, 0x40)], false, false, 0, 0, .counterHi, [⟨570, 0, 16, .ro, 0⟩]⟩,
  ⟨0x68028, [(5, 0x40)], false, false, 0, 0, .counterLo, [⟨571, 0, 32, .ro, 0⟩]⟩,
  ⟨0x6802C, [(5, 0x40)], false, false, 0, 0, .counterHi, [⟨572, 0, 16, .ro, 0⟩]⟩,
  ⟨0x68400, [], false, false, 0, 0, .plain, [⟨573, 0, 24, .ro, 0⟩, ⟨574, 24, 8, .ro, 0⟩]⟩,
  ⟨0x68404, [], false, false, 0, 0, .plain, [⟨575, 0, 24, .ro, 0⟩]⟩,
  ⟨0x68408, [], false, false, 0, 0, .plain, [⟨576, 0, 8, .rws, 64⟩, ⟨577, 8, 16, .rws, 50⟩, ⟨578, 24, 8, .rws, 10⟩]⟩,
  ⟨0x6840C, [], false, false, 0, 0, .plain, [⟨579, 0, 16, .rws, 1000⟩]⟩,
  ⟨0x68410, [], false, false, 0, 0, .pairLo, [⟨580, 0, 32, .ro, 0⟩]⟩,
  ⟨0x68414, [], false, false, 0, 0, .pairHi, [⟨581, 0, 32, .ro, 0⟩]⟩,
  ⟨0x68418, [], false, false, 0, 0, .plain, [⟨582, 0, 32, .wo, 0⟩]⟩,
  ⟨0x6841C, [], false, false, 0, 0, .plain, [⟨583, 0, 32, .wo, 0⟩]⟩,
  ⟨0x68420, [], false, false, 0, 0, .plain, [⟨584, 0, 1, .ro, 0⟩, ⟨585, 1, 1, .ro, 0⟩, ⟨586, 2, 1, .rw1c, 0⟩, ⟨587, 16, 16, .ro, 0⟩]⟩,
  ⟨0x68424, [], false, false, 0, 0, .plain, [⟨588, 0, 4, .ro, 2⟩, ⟨589, 4, 4, .ro, 0⟩]⟩,
  ⟨0x68428, [], false, false, 0, 0, .plain, [⟨590, 0, 2, .rw, 0⟩, ⟨591, 2, 1, .wo, 0⟩, ⟨592, 3, 1, .ro, 0⟩, ⟨593, 4, 1, .rw1c, 0⟩, ⟨594, 5, 1, .rw1c, 0⟩, ⟨595, 8, 24, .rw, 0⟩]⟩,
  ⟨0x68430, [], false, false, 0, 0, .plain, [⟨596, 0, 24, .rw, 0⟩]⟩,
  ⟨0x68434, [], false, false, 0, 0, .plain, [⟨597, 0, 20, .rw, 0⟩]⟩]

/-- Register rows of the block at 0x68000, part 2. -/
def regBlock1A_1 : List RegRow := [
  ⟨0x68438, [], false, false, 0, 0, .plain, [⟨598, 0, 32, .rw, 0⟩]⟩,
  ⟨0x6843C, [], false, false, 0, 0, .plain, [⟨599, 0, 1, .wo, 0⟩, ⟨600, 1, 1, .wo, 0⟩, ⟨601, 2, 1, .ro, 0⟩, ⟨602, 3, 1, .rw1c, 0⟩]⟩,
  ⟨0x68440, [], false, false, 0, 0, .plain, [⟨603, 0, 13, .ro, 0⟩]⟩]

/-- Register rows whose first offset lies in 0x68000 … 0x6BFFF. -/
def regBlock1A : List RegRow := regBlock1A_0 ++ regBlock1A_1

/-- Register rows of the block at 0x70000, part 1. -/
def regBlock1C_0 : List RegRow := [
  ⟨0x70000, [(12, 0x20)], false, false, 0, 0, .plain, [⟨604, 0, 1, .rw, 0⟩, ⟨605, 1, 1, .wo, 0⟩, ⟨606, 2, 1, .rw, 0⟩]⟩,
  ⟨0x70004, [(12, 0x20)], false, false, 0, 0, .plain, [⟨607, 0, 4, .ro, 0⟩, ⟨608, 4, 1, .ro, 0⟩, ⟨609, 8, 1, .rw1c, 0⟩, ⟨610, 9, 1, .rw1c, 0⟩, ⟨611, 10, 1, .rw1c, 0⟩, ⟨612, 11, 1, .rw1c, 0⟩, ⟨613, 12, 1, .rw1c, 0⟩]⟩,
  ⟨0x70008, [(12, 0x20)], false, false, 0, 0, .plain, [⟨614, 0, 1, .rws, 0⟩, ⟨615, 4, 4, .rws, 5⟩, ⟨616, 8, 12, .rws, 100⟩, ⟨617, 24, 8, .rws, 30⟩]⟩,
  ⟨0x70400, [], false, false, 0, 0, .plain, [⟨618, 0, 12, .ro, 0⟩, ⟨619, 16, 12, .ro, 0⟩]⟩]

/-- Register rows whose first offset lies in 0x70000 … 0x73FFF. -/
def regBlock1C : List RegRow := regBlock1C_0

/-- Register rows of the block at 0x78000, part 1. -/
def regBlock1E_0 : List RegRow := [
  ⟨0x78000, [], false, false, 0, 0, .plain, [⟨620, 0, 1, .wo, 0⟩, ⟨621, 1, 1, .rw, 0⟩, ⟨622, 2, 1, .wo, 0⟩, ⟨623, 3, 1, .wo, 0⟩, ⟨624, 4, 4, .rw, 0⟩]⟩,
  ⟨0x78004, [], false, false, 0, 0, .plain, [⟨625, 0, 3, .ro, 0⟩, ⟨626, 3, 1, .ro, 0⟩, ⟨627, 8, 1, .rw1c, 0⟩, ⟨628, 9, 1, .rw1c, 0⟩, ⟨629, 10, 1, .rw1c, 0⟩, ⟨630, 11, 1, .rw1c, 0⟩, ⟨631, 12, 4, .ro, 0⟩, ⟨632, 16, 8, .ro, 0⟩]⟩,
  ⟨0x78008, [], false, false, 0, 0, .plain, [⟨633, 0, 1, .rw, 0⟩, ⟨634, 1, 1, .ro, 0⟩]⟩,
  ⟨0x7800C, [], false, false, 0, 0, .plain, [⟨635, 0, 16, .rws, 200⟩]⟩,
  ⟨0x78010, [], false, false, 0, 0, .pairLo, [⟨636, 0, 32, .ro, 0⟩]⟩,
  ⟨0x78014, [], false, false, 0, 0, .pairHi, [⟨637, 0, 32, .ro, 0⟩]⟩,
  ⟨0x78018, [], false, false, 0, 0, .plain, [⟨638, 0, 4, .ro, 0⟩]⟩,
  ⟨0x78020, [], false, false, 0, 0, .plain, [⟨639, 0, 32, .ro, 0⟩]⟩,
  ⟨0x78024, [], false, false, 0, 0, .plain, [⟨640, 0, 4, .ro, 0⟩]⟩,
  ⟨0x78028, [], false, false, 0, 0, .plain, [⟨641, 0, 32, .ro, 0⟩]⟩,
  ⟨0x7802C, [], false, false, 0, 0, .plain, [⟨642, 0, 4, .ro, 0⟩]⟩,
  ⟨0x78030, [], false, false, 0, 0, .plain, [⟨643, 0, 8, .ro, 0⟩, ⟨644, 8, 8, .ro, 0⟩, ⟨645, 16, 8, .ro, 0⟩, ⟨646, 24, 8, .ro, 0⟩]⟩,
  ⟨0x78034, [(4, 0x4)], false, false, 0, 0, .plain, [⟨647, 0, 32, .ro, 0⟩]⟩]

/-- Register rows whose first offset lies in 0x78000 … 0x7BFFF. -/
def regBlock1E : List RegRow := regBlock1E_0

/-- Register rows of the block at 0x80000, part 1. -/
def regBlock20_0 : List RegRow := [
  ⟨0x80000, [], false, false, 0, 0, .plain, [⟨648, 0, 16, .ro, 0⟩, ⟨649, 16, 16, .ro, 800⟩]⟩,
  ⟨0x80004, [], false, false, 0, 0, .plain, [⟨650, 0, 16, .rws, 800⟩, ⟨651, 16, 8, .rws, 5⟩, ⟨652, 24, 8, .rws, 100⟩]⟩,
  ⟨0x80008, [], false, false, 0, 0, .plain, [⟨653, 0, 10, .rws, 750⟩, ⟨654, 16, 10, .rws, 850⟩]⟩,
  ⟨0x8000C, [], false, false, 0, 0, .plain, [⟨655, 0, 10, .ro, 800⟩, ⟨656, 16, 10, .ro, 0⟩]⟩,
  ⟨0x80010, [], false, false, 0, 0, .plain, [⟨657, 0, 1, .ro, 0⟩, ⟨658, 1, 1, .ro, 0⟩, ⟨659, 8, 1, .rw1c, 0⟩, ⟨660, 9, 1, .rw1c, 0⟩, ⟨661, 10, 1, .rw1c, 0⟩, ⟨662, 11, 1, .rw1c, 0⟩, ⟨663, 12, 1, .rw1c, 0⟩]⟩,
  ⟨0x80014, [], false, false, 0, 0, .plain, [⟨664, 0, 7, .rws, 64⟩, ⟨665, 8, 8, .rws, 30⟩]⟩,
  ⟨0x80018, [], false, false, 0, 0, .plain, [⟨666, 0, 10, .ro, 0⟩, ⟨667, 16, 10, .ro, 0⟩]⟩,
  ⟨0x8001C, [], false, false, 0, 0, .plain, [⟨668, 0, 12, .ro, 0⟩]⟩,
  ⟨0x80020, [], false, false, 0, 0, .plain, [⟨669, 0, 8, .rws, 130⟩]⟩,
  ⟨0x80024, [], false, false, 0, 0, .plain, [⟨670, 0, 8, .wo, 0⟩]⟩,
  ⟨0x80028, [], false, false, 0, 0, .plain, [⟨671, 0, 8, .ro, 0⟩, ⟨672, 16, 4, .ro, 0⟩, ⟨673, 20, 1, .ro, 0⟩, ⟨674, 21, 1, .ro, 0⟩, ⟨675, 22, 1, .ro, 0⟩]⟩,
  ⟨0x8002C, [], false, false, 0, 0, .plain, [⟨676, 0, 8, .ro, 0⟩]⟩]

/-- Register rows whose first offset lies in 0x80000 … 0x83FFF. -/
def regBlock20 : List RegRow := regBlock20_0

/-- Register rows of the block at 0x90000, part 1. -/
def regBlock24_0 : List RegRow := [
  ⟨0x90000, [], false, false, 0, 0, .plain, [⟨677, 0, 16, .wo, 0⟩]⟩,
  ⟨0x90004, [], false, false, 0, 0, .plain, [⟨678, 0, 16, .wo, 0⟩]⟩,
  ⟨0x90008, [], false, false, 0, 0, .plain, [⟨679, 0, 16, .ro, 0⟩]⟩]

/-- Register rows whose first offset lies in 0x90000 … 0x93FFF. -/
def regBlock24 : List RegRow := regBlock24_0

/-- The rows that may hold the register at an offset: those whose strides reach it. -/
def regRowsAt (off : Nat) : List RegRow :=
  match off / 0x4000 with
  | 0x0 => regBlock0
  | 0x8 => regBlock8
  | 0x9 => regBlock9
  | 0xA => regBlockA
  | 0xC => regBlockC
  | 0xD => regBlockD
  | 0xE => regBlockD
  | 0xF => regBlockF
  | 0x10 => regBlock10
  | 0x12 => regBlock12
  | 0x14 => regBlock14
  | 0x15 => regBlock15
  | 0x16 => regBlock16
  | 0x18 => regBlock18
  | 0x1A => regBlock1A
  | 0x1C => regBlock1C
  | 0x1E => regBlock1E
  | 0x20 => regBlock20
  | 0x24 => regBlock24
  | _ => []

/-- The register at offset `off` of function `fn`: its row and its index. -/
def findReg (rows : List RegRow) (fn off : Nat) : Option (RegRow × Nat) :=
  match rows with
  | [] => none
  | r :: rs =>
    match r.index fn off with
    | some ix => some (r, ix)
    | none => findReg rs fn off

/-- The register at offset `off` of function `fn` (R551, R552); every other offset is reserved. -/
def regAt (fn off : Nat) : Option (RegRow × Nat) := findReg (regRowsAt off) fn off

/-- The first field number of the device blocks; below it lie the fields of HIF, EVT and RING (R18). -/
def deviceFieldBase : Nat := 73

/-- How many registers of one name each function has, by field number; 0 for a register of PF0 alone. -/
def registersPerFunction (id : Nat) : Nat :=
  if id ≤ 3 then 1 else if id ≤ 10 then 0 else if id ≤ 11 then 1 else if id ≤ 12 then 0 else if id ≤ 24 then 1 else if id ≤ 28 then 4 else if id ≤ 30 then 1 else if id ≤ 42 then 0 else if id ≤ 45 then 64 else if id ≤ 65 then 32 else if id ≤ 72 then 0 else 0

/-- The RWS fields of the function blocks, which an FLR keeps (R15). -/
def stickyFunctionFields : List Nat := [7, 8, 9, 10, 11, 12, 41]

/-- The RO fields of the function blocks, which hold what the hardware presents (R15). -/
def presentedFunctionFields : List Nat := [0, 1, 2, 3, 4, 5, 6, 13, 14, 19, 20, 21, 22, 23, 24, 30, 36, 37, 39, 40, 53, 55, 56, 62, 63, 65, 66, 67, 68, 69, 70, 71, 72]

/-- The field numbers of the statistics counters, LO and HI words (R405). -/
def counterFields : List Nat := [19, 20, 21, 22, 23, 24, 120, 121, 122, 123, 124, 125, 126, 127, 128, 129, 147, 148, 149, 150, 174, 175, 451, 452] ++
  [453, 454, 455, 456, 466, 467, 468, 469, 470, 471, 472, 473, 474, 475, 476, 477, 478, 479, 480, 481, 482, 483, 484, 485] ++
  [486, 487, 513, 514, 515, 516, 517, 518, 537, 538, 539, 540, 569, 570, 571, 572]

end Sys2Proof.Machine
end

