-- ==== Sys2Proof/Machine/State.lean ====
section
/-!
DEFINITION. The state of the controller as plain data: every register field, queue, buffer, key, map and mode the manual gives it
(INVENTORY.md lists them), the commands that wait, and the state after reset.
-/
namespace Sys2Proof.Machine

/-- Why the machine stops. No command of the manual stops the controller, so there is one reason, raised by no meaning. -/
inductive Fault where
  /-- A stop of the machine itself; raised by nothing, kept so that the type has a value. Safe. -/
  | stopped
  deriving DecidableEq, Repr

/-- Why a command gets no meaning. -/
inductive Refusal where
  /-- Raised by an arm of `exec` whose command has no meaning yet. Safe: the machine stops. -/
  | notModelled (mnemonic : String)
  deriving DecidableEq, Repr

/-- What the controller sends through its pins and links, in the order in which it sends it. -/
inductive Out where
  | memWrite (fn addr : Nat) (data : List Nat) (relaxed poisoned : Bool)   -- a memory-write TLP (R414)
  | memRead (fn tag addr len : Nat)                                       -- a memory-read TLP (R414)
  | message (fn vector addr data : Nat)                                   -- an MSI-X message (R404)
  | reply (id : Nat) (status : CplStatus) (data : List Nat)               -- the completion of a request received
  | retryStatus (fn : Nat)                                                -- Configuration Request Retry Status (R411)
  | ltr (us : Nat)                                                        -- an LTR message (R416)
  | frame (port seq : Nat) (bytes : List Nat)                              -- a link frame (R436)
  | ack (port seq : Nat)                                                  -- the acknowledgement of good frames up to seq
  | nak (port seq : Nat)                                                  -- a negative acknowledgement of a bad frame
  | uncorrectable (fn : Nat)                                              -- Uncorrectable Internal Error (R421)
  | pmbus (address code value : Nat)                                       -- a PMBus transaction (R517)
  | ldd (pickup type : Nat) (payload : List Nat)                           -- a frame on an LDD link (R86)
  deriving DecidableEq, Repr

/-- The register file: the fields of every register that the hardware or the host has moved from their reset values. -/
abbrev RegFile := Table Nat

/-! ## Commands and rings (R363–R390) -/

/-- A scatter element (R372). -/
structure Elem where
  addr : Nat
  len : Nat
  kind : Nat          -- 0 DATA, 1 LIST, 2 SKIP
  deriving DecidableEq, Repr

/-- The stages of a command (the command chapter's table of stages, R367, R373, R376, R380). -/
inductive CmdPhase where
  | fetching      -- its descriptor is being read
  | fetched       -- awaits acceptance
  | listRead      -- in acceptance, its scatter lists being read
  | accepted      -- awaits dispatch
  | queued        -- holds a tag, not admitted
  | admitted      -- holds a tag and its lock, and runs
  | started       -- carried out by MC firmware without a tag
  | forwarded     -- carried out by a controller below
  | ended         -- its status is fixed; its record waits to be written
  deriving DecidableEq, Repr

/-- The modes of R377. -/
inductive LockMode where
  | shared | exclusive | blend
  deriving DecidableEq, Repr

/-- What a range lock covers (R377). -/
inductive LockRes where
  | lbas (mslot lo hi : Nat)     -- LBAs lo … hi − 1 of the disc of a magazine slot
  | station (s : Nat)
  | axes (mask : Nat)
  deriving DecidableEq, Repr

/-- One entry of the range-lock table. -/
structure Lock where
  holder : Nat
  res : LockRes
  mode : LockMode
  deriving DecidableEq, Repr

/-- Where a command came from: a ring of this controller, or a CMD packet (R440) with its origin port, root function and chain tag. -/
inductive CmdOrigin where
  | ring
  | chain (fn tag : Nat)
  deriving DecidableEq, Repr

/-- What the descriptor says (R369, R386). -/
structure CmdId where
  fn : Nat := 0
  ring : Nat := 0
  formatL : Bool := false
  op : Nat := 0             -- native opcode; 0x100 + opcode for a Format L command
  flags : Nat := 0
  cid : Nat := 0
  device : Nat := 0
  keySlot : Nat := 0
  mslot : Nat := 0          -- ADDRESS [39:28]
  lba : Nat := 0            -- ADDRESS [27:0]
  dptr : Elem := ⟨0, 0, 0⟩
  body : List Nat := []     -- bytes 32–63
  raw : List Nat := []      -- the descriptor's bytes
  deriving DecidableEq, Repr

/-- A block of a command's range and the cache entry that serves it. -/
structure BlockUse where
  block : Nat
  entry : Nat
  hit : Bool
  rescued : Bool
  claimed : Bool            -- the entry was speculative and this command claimed it
  deriving DecidableEq, Repr

/-- The counters of a completion record (R391, R395). -/
structure CmdResult where
  status : Nat := 0
  done : Nat := 0
  index : Nat := 0
  detail : Nat := 0
  wide : List Nat := []     -- bytes 8–15 where they carry one field (LOAD)
  deriving DecidableEq, Repr

/-- The data side of a command: bytes read from the host, blocks in use, sectors moved. -/
structure CmdData where
  src : List Elem := []
  dst : List Elem := []
  bytes : Table (List Nat) := []     -- chunks read from host memory, by byte offset
  seg : Option Elem := none          -- the list segment being read (R372)
  segDst : Bool := false
  nextRead : Nat := 0                -- byte offset of the next read of source data
  uses : List BlockUse := []
  waiting : List Nat := []           -- blocks that wait for an entry
  dmaDone : List Nat := []           -- sectors whose final DMA has been issued
  early : Table (List Nat) := []     -- provisional bytes written, by sector
  plain : Table (List Nat) := []     -- plaintext or job output ready, by sector or block
  sealed : List Nat := []            -- sectors whose engine work is done
  failed : List Nat := []            -- sectors whose seal check failed
  failPsa : Nat := 0                 -- PSA of the first of them found
  gathered : Nat := 0                -- sectors delivered from host memory
  pads : Nat := 0                    -- pad sectors added on its account
  badBlocks : List Nat := []         -- logical blocks that failed (R291)
  verified : Nat := 0
  verdict : Table Nat := []          -- outcome of each data sector of the range (R263)
  deriving DecidableEq, Repr

/-- A command that the controller has fetched (R382). -/
structure Cmd where
  id : CmdId := {}
  origin : CmdOrigin := .ring
  phase : CmdPhase := .fetching
  station : Nat := 0
  queue : Option Nat := none          -- 0–7 stations, 8 library
  order : Nat := 0                    -- dispatch order
  gen : Nat := 0                      -- generation of its key slot captured at dispatch (R350)
  keyWait : Bool := false             -- dispatched while the slot was BUSY
  started : Bool := false             -- its work has begun
  target : Option Nat := none         -- the command an ABORT has caught or missed
  mute : Bool := false                -- runs to its end without a record, after an FLR of PF0 (R419)
  step : Nat := 0                     -- progress of a procedure (LOAD, UNLOAD, CALIBRATE, MOVE)
  data : CmdData := {}
  res : CmdResult := {}
  deriving DecidableEq, Repr

/-- The rings and queues. -/
structure Rings where
  cmds : Table (Option Cmd) := []            -- by handle, in order of fetch
  nextHandle : Nat := 1
  nextOrder : Nat := 0
  records : List Nat := []            -- commands whose records wait, in the order in which they ended
  locks : List Lock := []
  sqTail : Table Nat := []            -- by 32 × function + ring
  cqHead : Table Nat := []
  cqPass : Table Nat := []            -- wraps of the completion ring's tail since ENABLE
  credit : Table Nat := []            -- fetches left to a submission ring in this round (R367)
  bound : Table Nat := []             -- station + 1 to which a magazine slot is bound (R375)
  deriving DecidableEq, Repr

/-! ## Events and interrupts (R391–R407) -/

/-- An event record before its PHASE is known (R397). -/
structure EventRec where
  device : Nat
  source : Nat
  code : Nat
  seq : Nat
  time : Nat
  payload : List Nat
  deriving DecidableEq, Repr

/-- One MSI-X vector's moderation state (R404). -/
structure VecState where
  count : Nat := 0
  timing : Bool := false
  deriving DecidableEq, Repr

structure Events where
  seq : Table Nat := []               -- next SEQ, by source
  posted : List EventRec := []        -- posted and not yet written, staged or lost
  staging : List EventRec := []       -- R401
  beforeLoss : Nat := 0               -- staged records that were staged before the first loss
  lostNow : Nat := 0                  -- events lost since the last EVENTS_LOST
  head : Nat := 0                     -- the host's head of the event queue
  pass : Nat := 0                     -- wraps of the tail since ENABLE
  vecs : Table VecState := []         -- by 64 × function + vector
  saturated : List Nat := []          -- counters that have posted COUNTER_SATURATED, by field key of LO
  deriving DecidableEq, Repr

/-! ## PCI Express endpoint (R408–R431) -/

/-- What a read of host memory is for (R423). -/
inductive ReadFor where
  | descriptor | list | dstList | data | job | firmware
  deriving DecidableEq, Repr

/-- An outstanding read of host memory. -/
structure ReadReq where
  fn : Nat
  tag : Nat
  purpose : ReadFor
  cmd : Nat
  offset : Nat          -- offset in the command's data, or 0
  len : Nat
  got : List Nat        -- bytes received so far
  deriving DecidableEq, Repr

/-- A tag in quarantine (R424); silent where an FLR stopped the read (R418). -/
structure QuarTag where
  fn : Nat
  tag : Nat
  silent : Bool
  deriving DecidableEq, Repr

/-- One peer window in force (R425). -/
structure PeerWin where
  enable : Bool := false
  nblk : Nat := 1
  slot : Nat := 0
  block : Nat := 0
  deriving DecidableEq, Repr

/-- A peer read that stalls (R335); `beforeCommit` where it arrived before the commit that waits. -/
structure PeerRead where
  id : Nat
  fn : Nat
  offset : Nat
  len : Nat
  mslot : Nat           -- disc and block that the windows in force at its arrival gave it (R426)
  block : Nat
  beforeCommit : Bool
  deriving DecidableEq, Repr

structure Pcie where
  cfg : Table Nat := []               -- fields of configuration space, by 64 × function + field
  linkUp : Bool := false
  reqs : List ReadReq := []
  quarantine : List QuarTag := []
  msix : Table Nat := []              -- MSI-X table words, by 256 × function + word
  pba : Table Bool := []              -- pending bits, by 64 × function + vector
  wins : Table PeerWin := []          -- by 4 × function + window
  peers : List PeerRead := []
  nextPeer : Nat := 1
  idleLtr : Bool := false             -- the last LTR message carried IDLE_US
  linkCause : Nat := 0                -- why the link retrains: 0 itself, 1 Hot Reset, 2 DL_Down (R430)
  deriving DecidableEq, Repr

/-! ## Reports of final outcomes (R238, R239, R264) -/

/-- A frame's quality record (R238). -/
structure Quality where
  eye : Nat := 0
  mse : Nat := 0
  bits : Nat := 0                     -- channel bits of the frame
  defectBits : Nat := 0
  blank : Bool := false
  timingLost : Bool := false
  adcClip : Bool := false
  captured : Bool := false
  gain : Nat := 0                     -- RCH_VGA.GAIN at frame start
  deriving DecidableEq, Repr

/-- What moves when a sector reaches its final outcome (R264): the lane, the outcome, its PSA, the counts of its frames. -/
structure SectorReport where
  lane : Nat := 0
  outcome : Nat := 0
  psa : Nat := 0
  doubts : Nat := 0
  conflicts : Nat := 0
  missed : Nat := 0
  refused : Nat := 0
  imageShort : Bool := false
  outerBad : Option Nat := none       -- PSA of sector j = 0 where an outer decode failed
  quality : List Quality := []
  deriving DecidableEq, Repr

/-! ## Staging cache (R317–R342) -/

/-- The sector states of R319. -/
inductive SectorState where
  | empty | provisional | confirmed | gathered | blank | unrecovered
  deriving DecidableEq, Repr

/-- A sector of an entry. -/
structure CacheSector where
  st : SectorState := .empty
  user : List Nat := []               -- the user field, in recorded form where CONFIRMED, as gathered where GATHERED
  md : List Nat := []                 -- the 64 metadata bytes, where read from the disc
  outcome : Nat := 0                  -- R262, kept with the sector (R319)
  pad : Bool := false
  sealBit : Bool := false             -- gathered under SEAL
  fn : Nat := 0
  keySlot : Nat := 0
  owner : Nat := 0                    -- the WRITE that gathered it
  gen : Nat := 0                      -- generation of the key slot that the WRITE captured
  cid : Nat := 0
  verify : Bool := false              -- gathered by a WRITE with WRITE_VERIFY
  poison : Bool := false              -- R304
  deriving DecidableEq, Repr

/-- The entry states of R320, by their values. -/
inductive EntryState where
  | free | filling | valid | gathering | committed | recording | evicting | transient
  deriving DecidableEq, Repr

/-- A cache entry. -/
structure Entry where
  st : EntryState := .free
  cls : Nat := 7                      -- R321; 7 when FREE
  tagged : Bool := false
  mslot : Nat := 0
  block : Nat := 0                    -- LBA div 64, or div 32 on Format S4
  station : Nat := 0
  locked : Bool := false
  spec : Bool := false
  writeBack : Bool := false           -- EVICTING while its block is being recorded
  waiters : List Nat := []            -- commands that wait by R324
  readers : List Nat := []            -- commands whose transfers read it
  chooser : Nat := 0                  -- the command that chose it as a victim
  sectors : Table CacheSector := []
  used : Nat := 0                     -- when last used
  recStart : Nat := 0                 -- when its recording began
  withheld : List SectorReport := []  -- reports withheld while speculative (R330)
  deriving DecidableEq, Repr

structure Cache where
  entries : Table Entry := []         -- 0–47
  clock : Nat := 0                    -- order of use
  drained : Nat := 0                  -- blocks recorded in this drain (R341)
  deriving DecidableEq, Repr

/-! ## Cipher (R343–R362) -/

/-- A key slot (R346). -/
structure KeySlot where
  k1 : List Nat := []
  k2 : List Nat := []
  gen : Nat := 0
  zeroize : Bool := false             -- erased, its material not yet zeroized
  everLoaded : Bool := false
  deriving DecidableEq, Repr

/-- The kinds of engine work (R344, R351, R353, R355–R357). -/
inductive EngineKind where
  | sealSector | unsealSector | verifySector | passSector | job
  deriving DecidableEq, Repr

/-- A sector, or a job's blocks, to be passed through the engines. `blocks` engine blocks in all. -/
structure EngineWork where
  cmd : Nat
  kind : EngineKind
  unit : Nat            -- sector index in the command, or 0 for a job
  entry : Nat           -- cache entry
  sector : Nat          -- data sector j of the block
  blocks : Nat
  slot : Nat            -- key slot, and the generation captured for it (R350)
  gen : Nat
  started : Nat := 0
  done : Nat := 0
  k1 : List Nat := []   -- the slot's keys and label when its first block started
  k2 : List Nat := []
  label : Nat := 0
  deriving DecidableEq, Repr

/-- An engine with a block inside it: whose block, which, and the key copied for it (R350). -/
structure Engine where
  cmd : Nat
  unit : Nat
  block : Nat
  slot : Nat
  key : List Nat
  deriving DecidableEq, Repr

structure Cipher where
  staging : Table Nat := []           -- CIP_KEY_DATA0–15, KEY_CFG (16), KEY_CFG2 (17)
  slots : Table KeySlot := []
  loading : Option Nat := none        -- the slot whose schedules are being computed
  work : List EngineWork := []
  engines : Table (Option Engine) := []
  m : Table (List Nat) := []          -- M0–M7 (R359)
  extendCount : Table Nat := []       -- extend counts
  jtagSeen : Bool := false            -- JTAG enabled since reset
  deriving DecidableEq, Repr

/-! ## Discs and stations (R40–R67, R371) -/

/-- What the accepted disc format table gives (R62, R64, R66). -/
structure DiscInfo where
  s4 : Bool := false
  generation : Nat := 0
  discId : Nat := 0
  zoneA : Nat := 6010700
  zoneB : Nat := 2003567
  blocksPerLayer : Nat := 242176
  opposite : Bool := true
  strategyId : Nat := 0
  recPower : List Nat := []           -- REC_POWER of LY0–LY7
  table : List Nat := []
  deriving DecidableEq, Repr

/-! ## Sector recovery (R244–R269) -/

/-- The sector states of R253. -/
inductive SecState where
  | idle | expected | decoding | pinned | confirmed | blankFrame | blank | erased | unrecovered
  deriving DecidableEq, Repr

/-- A framing hypothesis (R247): its index; the frame starts that the primary and the secondary mark give, relative to the expected one;
whether data-area bits 0–1,023 take the first of them, and whether they are erased. -/
structure Hyp where
  idx : Nat
  f1 : Int
  f2 : Int
  erased : Bool := false
  deriving DecidableEq, Repr

/-- The settings of a lane that an image keeps or a round uses (R237, R256): coefficients, TARGET, G0–G2, LLR_SCALE, EQ_SH. -/
structure LaneSetting where
  coef : Table Rat := []
  target : Nat := 64
  g : List Int := [1, 2, 1]
  scale : Nat := 32
  eqSh : Nat := 16
  deriving DecidableEq, Repr

/-- The work on one sector of a block. -/
structure SecWork where
  st : SecState := .idle
  outcome : Nat := 0
  lane : Nat := 0
  hyps : List Hyp := []               -- hypotheses of the rung in progress that have not failed
  h0 : Option Hyp := none             -- H0 of the first pass, for the provisional payload (R254)
  image : Bool := false               -- holds an image's slots (R256)
  imageSync : Bool := false           -- taken for a sync doubt
  captureTried : Bool := false        -- the capture of the frame has been armed
  imageDone : Bool := false           -- the image is written (R235)
  rows : List (List Int) := []        -- its rows, z of each beam in use, bit i of the window at place i
  setting : LaneSetting := {}         -- in force at the frame start
  roundOn : Nat := 0                  -- round of R257 in progress or last made
  rounding : Bool := false            -- a re-equalizer or re-decode units work on it
  passes : Nat := 0                   -- re-equalizer passes left in the round
  allBlank : Bool := true             -- every read of it was blank
  doubts : Nat := 0                   -- counts that move at the final outcome (R264)
  conflicts : Nat := 0
  missed : Nat := 0
  refused : Nat := 0
  imageShort : Bool := false
  quality : List Quality := []        -- of the frames read for it
  frameStart : Int := 0               -- framing of the winner, relative to the expectation
  payload : List Nat := []            -- 4,160 bytes once CONFIRMED
  deriving DecidableEq, Repr

/-- The work on one block that a station reads. -/
structure BlockWork where
  active : Bool := false
  station : Nat := 0
  mslot : Nat := 0
  side : Nat := 0
  layer : Nat := 0
  b : Nat := 0                        -- physical block number in the layer
  verify : Bool := false
  noRetry : Bool := false             -- read-ahead: no re-read, no capture by trigger 3 (R329)
  early : Bool := false               -- marked for early data (R254)
  secs : Table SecWork := []          -- 0–71
  blanks : Nat := 0                   -- blank frames of this pass
  taken : Nat := 0                    -- frames taken in this pass
  blank : Option Bool := none         -- R260
  rereads : Nat := 0
  rereading : Bool := false
  outerBusy : Bool := false
  outerFailed : Bool := false
  deriving DecidableEq, Repr

structure Decoder where
  works : Table BlockWork := []       -- by cache entry
  waitRound : List (Nat × Nat) := []  -- (entry, sector) that wait for a re-equalizer, the oldest first (R257)
  reeq : List (Nat × Nat) := []       -- (entry, sector) on a re-equalizer, at most eight
  deriving DecidableEq, Repr

/-! ## Stations, pickups and firmware, as far as commands meet them -/

/-- A drive station (R371, R375, R562). -/
structure Station where
  state : Nat := 0                    -- IDENTIFY: 0 absent, 1 empty, 2 loading, 3 loaded, 4 unloading, 5 fault
  mslot : Option Nat := none          -- magazine slot bound by LOAD
  disc : Option DiscInfo := none      -- the accepted table
  tables : Table (List Nat) := []     -- table found on each side during LOAD; [] while none
  noTable : List Nat := []            -- sides that have yielded none
  calibrated : Bool := false          -- full calibration made (R480)
  drainWait : Bool := false           -- DRAINING: admission stopped (R466)
  powerStop : Bool := false           -- chopper fault or trip: no commands (R173)
  lastBlock : Option Nat := none      -- last block that a READ completed or claimed: read-ahead follows it (R329)
  deriving DecidableEq, Repr

/-! ## Recording (R270–R296) -/

/-- Whose seal a sector carries: the WRITE, its key slot and the generation that it captured (R350). -/
structure SealOf where
  cmd : Nat := 0
  slot : Nat := 0
  gen : Nat := 0
  deriving DecidableEq, Repr

/-- A committed block (R277). -/
structure RecBlock where
  entry : Nat
  station : Nat
  pickup : Nat
  mslot : Nat
  side : Nat
  layer : Nat
  block : Nat                         -- LBA div 64
  b : Nat                             -- physical block number
  stamp : Nat
  secs : List (List Nat) := []        -- 72 payloads of 4,160 bytes once prepared
  sealing : List Nat := []            -- sectors whose seal is not done
  tags : Table (List Nat) := []       -- ciphertext and tag of sealed sectors
  prepared : Bool := false
  seals : Table SealOf := []          -- by sealed sector
  inRun : Bool := false               -- taken into a run
  played : List Nat := []             -- positions recorded in full
  cut : List Nat := []                -- positions cut
  resumes : Nat := 0                  -- resumptions after write faults
  recorded : Bool := false            -- its last frame has been played; it awaits its verify pass
  failed : Bool := false              -- it fails by R291
  verifyLeft : Bool := false          -- recorded under WRITE_VERIFY
  verEntry : Option Nat := none       -- the verify entry that it is read back through
  tagLeft : Option (List Nat) := none -- sectors whose seal tags are still to be checked, once it is read
  tagBad : List Nat := []             -- sectors whose tags failed
  eyeMin : Nat := 0                   -- of the frames of the verify pass
  mseMax : Nat := 0
  poisoned : Bool := false            -- holds poisoned data (R304)
  deriving DecidableEq, Repr

/-- A run of a pickup (R279). -/
structure Run where
  prePassed : Bool := false           -- its pre-pass has found blank positions only
  active : Bool := false              -- from its first gated frame to its end
  faulted : Bool := false             -- its gates have been closed; it waits to resume (R289)
  layer : Nat := 0
  first : Nat := 0                    -- index of B0 at write-clock bit 0 of the stream
  bits : Nat := 0                     -- channel bits that the write clock has counted since
  zone : Option Nat := none           -- zone whose RATE is in use
  blocks : List Nat := []             -- LBA blocks taken and not ended, in logical order
  last : Nat := 0                     -- the block taken last
  closed : Bool := false              -- takes no further block (R280, R293)
  deriving DecidableEq, Repr

/-- What one bank of the laser driver holds for recording: the layer it was built for and its powers (R284). -/
structure LddBank where
  held : Bool := false
  layer : Nat := 0
  pw : List Nat := []
  pm : List Nat := []
  deriving DecidableEq, Repr

structure PickupRec where
  run : Run := {}
  wclkGood : Nat := 0                 -- consecutive wobble periods within LOCK_MAX
  fmdSum : Nat := 0                   -- FMD values taken over the frame in progress, their number, the frame, its gates
  fmdCount : Nat := 0
  fmdFrame : Nat := 0
  fmdGates : Option Nat := none       -- none: the number of open gates has changed in the frame
  fmdBad : Nat := 0                   -- consecutive frames out of tolerance
  fmdRef : List Nat := []             -- FMD references for 1–4 open gates, in 1/16 code
  calTemp : Table Int := []           -- LDD temperature at the last calibration, by layer
  calPw : Table (List Nat) := []      -- PW of the emitters, by layer
  calPm : Table (List Nat) := []
  calRetry : Bool := false            -- the first attempt of a calibration has failed
  calFailed : List Nat := []          -- layers whose calibration failed in this load and that have no value
  pcaNext : Table Nat := []           -- next unused revolution + 1, by layer; 0 unknown
  banks : Table LddBank := []         -- what the driver's two banks hold
  selWant : Option Nat := none        -- bank to be selected once the gates are closed (R94)
  sinceVerify : Nat := 0              -- blocks recorded under WRITE_VERIFY since the last verify pass
  verifying : Bool := false
  deriving DecidableEq, Repr

/-- A block, or part of one, that must become pads and has no entry yet (R276). -/
structure PadWait where
  station : Nat
  mslot : Nat
  block : Nat
  cls : Nat
  sectors : List Nat
  deriving DecidableEq, Repr

structure Recording where
  blocks : List RecBlock := []        -- committed blocks in order of commit
  frontier : Table (Option Nat) := [] -- W by 16 × station + 8 × side + layer (R270); none unknown
  pus : Table PickupRec := []
  padWait : List PadWait := []        -- blocks of pads that wait for an entry (R276)
  quality : Table (List (List Nat)) := []   -- quality records of a station, oldest first (R294)
  deriving DecidableEq, Repr
/-! ## Pickups (R83–R95, R128–R149) -/

/-- What a pickup holds besides its registers. -/
structure Pickup where
  gates : Nat := 0                    -- write gates open, a bit for each emitter (R88)
  recovering : Bool := false          -- between a loss and its recovery: the station's queue is held (R141)
  startReq : Bool := false            -- a start has been requested and not made (R129)
  goal : Option Nat := none           -- target asked for by LOAD, a calibration or a recovery (R129)
  reached : Option Nat := none        -- the goal that FOLLOW has been entered for
  confirmed : Option Nat := none      -- last confirmed physical sector address
  addr : Option Nat := none           -- last address, where nothing has moved B0 since
  badAddr : Nat := 0                  -- consecutive addresses that differ from the positions expected (R140)
  layer : Nat := 0                    -- target layer of a search or jump
  ramp : Nat := 0                     -- FOCUS: 0 at rest, 1 before the first sweep, 2 sweep, 3 return, 4 parking (R130, R141)
  rampAt : Nat := 0                   -- servo timebase at its start
  rampFrom : Int := 0                 -- code at the start of a park
  sweeps : Nat := 0                   -- sweeps ended since entry to SEARCH
  crossings : Nat := 0                -- layers counted (R131, R132)
  sumSeen : Bool := false             -- SUM has reached LAYER_SUM_MIN since the last counted crossing
  prevFe : Int := 0
  prevTe : Int := 0
  feGood : Nat := 0                   -- consecutive samples within FE_LOCK
  teGood : Nat := 0                   -- consecutive samples within TE_LOCK
  focLoss : Nat := 0                  -- consecutive samples that show a loss (R140)
  trkLoss : Nat := 0
  captured : Bool := false            -- TRACK closed in PULLIN (R133)
  lastSlope : Nat := 0                -- servo timebase at the last crossing of the loop's slope, or at entry
  jumping : Bool := false             -- a track jump is under way (R134)
  jumpTracks : Nat := 0
  jumpOut : Bool := false
  jumpCross : Nat := 0                -- crossings counted
  ljFrom : Nat := 0                   -- layer jump (R132): source, the code before it, brake applied, jumps since the layer was last right
  ljCode : Int := 0
  ljBraked : Bool := false
  ljCount : Nat := 0
  coarse : Nat := 0                   -- coarse moves of the seek (R137)
  holding : Bool := false             -- a hold of FOCUS or TRACK at the last sample
  holdRun : Nat := 0                  -- its samples so far (R139)
  clean : Nat := 0                    -- consecutive samples without defect and low sum
  trigsOff : Bool := false            -- the triggers are cleared by R139
  baeSum : Int := 0                   -- BAE over the revolution, its samples (R135)
  baeCount : Nat := 0
  baeGood : Nat := 0                  -- consecutive revolutions within WARN
  baeBarred : Bool := false           -- no write gate opens
  parkFault : Bool := false           -- PARK ends in FAULT
  pullWait : Bool := false            -- in BELAY with TRACK off, waiting for the spindle (R145)
  lddTry : Bool := false              -- the LDD link is in training
  lddGood : Nat := 0                  -- consecutive good STATUS frames (R95)
  lddBad : Nat := 0
  lddTemp : Int := 0                  -- temperature of the last good STATUS frame, 0.1 °C
  laneLayer : Option Nat := none      -- the layer whose settings its lanes have been given (R230)
  readScale : Rat := 1                -- common factor of the read-power words (R85)
  deriving DecidableEq, Repr

/-! ## Read lanes (R209–R243) -/

/-- What a read lane holds besides its registers: the settings that it adapts, exact where the registers show them rounded, and the
frame that it reads. -/
structure Lane where
  poorRun : Nat := 0                  -- consecutive final frames of poor quality (R239)
  offset : Rat := 0                   -- R215, R216: in codes, and dgain and asym with 1 as 1.0
  dgain : Rat := 1
  asym : Rat := 0
  coef : Table Rat := []              -- R228: by 15 j + t + 7
  sigma2 : Rat := 0                   -- R232: code²
  freq : Rat := 0                     -- R222
  staged : Table Nat := []            -- staged writes by field key (R240)
  vgaMove : Int := 0                  -- VGA steps to be made at the next frame start (R217)
  ctfCorner : Nat := 0                -- −3 dB corner of the filter in Hz (R212)
  zone : Option Nat := none           -- zone for which it was set
  reading : Bool := false             -- a frame is being read
  target : Option (Nat × Nat) := none -- entry and sector that the frame is taken for
  blank : Bool := false               -- R221
  lostAt : Option Nat := none         -- frame bit at which timing was lost (R225)
  defectSeen : Bool := false          -- the frame has shown a defect span
  captured : Bool := false
  gainStart : Nat := 0                -- RCH_VGA.GAIN at frame start (R238)
  trig : Bool := false                -- the detector was active since the last sample instant (R220)
  framing : Int := 0                  -- framing of the last winner on the lane: corrects the next expectation (R245)
  readOn : Bool := false              -- in READ since its last acquisition: frequency seeded (R222)
  deriving DecidableEq, Repr

/-! ## Loop engine (R98–R127) -/

/-- The state of a section or notch (R114). -/
structure SectState where
  x1 : Int := 0
  x2 : Int := 0
  y1 : Int := 0
  y2 : Int := 0
  deriving DecidableEq, Repr

/-- What a loop holds besides its registers. -/
structure LoopRun where
  mode : Nat := 0                     -- mode in force at the last sample (R116)
  en : Nat := 0                       -- sections in force at the last sample
  writes : List (Nat × Option (Nat × Nat)) := []   -- writes of SRV_LOOP_SECT_EN since: the enables, the copy asked (R119)
  secs : Table SectState := []        -- by section, 12 and 13 the notches
  code : Int := 0                     -- the last result: DAC code, or request of SLED
  lowpass : Rat := 0                  -- output low-pass (R117)
  holding : Bool := false             -- held by R117, or in HOLD
  ext : Nat := 0                      -- further samples of the hold
  nodes : List Int := []              -- the 16 nodes of R123 at the last sample
  sat : Bool := false                 -- saturated, limited at the last sample
  lim : Bool := false
  deriving DecidableEq, Repr

/-- The inputs captured at a sample instant, and the register values in force there (R101). -/
structure SampleIn where
  count : Nat := 0
  tb : Nat := 0                       -- servo timebase count
  time : Nat := 0                     -- Chain Time
  sled : Bool := false                -- a sled instant (R100)
  means : List Nat := []              -- of the ten inputs, in 1/16 code (R74)
  defect : Bool := false              -- TRIG_DEFECT's trigger (R220)
  regs : RegFile := []
  deriving DecidableEq, Repr

/-- A trace capture (R122–R125). -/
structure Trace where
  rings : Table Nat := []             -- by 4096 × probe + entry
  wptr : Nat := 0
  postLeft : Nat := 0
  since : Nat := 0                    -- servo timebase when it was armed: later samples are recorded
  firedAt : Option Nat := none        -- servo timebase at a FIRE that no sample has followed
  pending : Bool := false             -- triggered; the trigger sample is the next recorded one
  full : Bool := false                -- POST samples after the trigger sample are recorded
  prev : Option Int := none           -- value of the trigger's probe at the last sample
  time : Nat := 0                     -- Chain Time of the trigger sample
  deriving DecidableEq, Repr

structure LoopProc where
  loops : Table LoopRun := []         -- FOCUS, TRACK, TILT, SLED
  sig : Table Int := []               -- signals of R109 at the last sample, by code
  spp1 : Rat := 0                     -- SPP1 and SPP2 exact, as last formed
  spp2 : Rat := 0
  trkLp : Rat := 0                    -- R110
  phase : Nat := 0                    -- of INJ (R111)
  low : Bool := false                 -- ΣM below SUM_MIN at the last sample
  busy : Bool := false                -- a computation runs
  sledDue : Option Int := none        -- the SLED result of that computation, while its request still counts (R103)
  waiting : Option SampleIn := none   -- captured, its computation not started (R104)
  sample : SampleIn := {}             -- the sample captured last, its registers left out
  taken : Bool := false                -- there is one, not yet recorded by the trace
  late : Nat := 0                     -- its late loops, a bit each
  counted : Bool := false             -- it has been counted as late
  outDone : Bool := true              -- its output instant has passed
  fmd : Nat := 0                      -- last FMD value in 1/16 code
  fmdRun : Nat := 0                   -- instants in a row above FMD_MAX (R85)
  request : Int := 0                  -- sled request for the next sled period (R185)
  trace : Trace := {}
  deriving DecidableEq, Repr
/-! ## Spindles (R150–R176) -/

/-- What drives a bridge (R156, R163, R169). -/
inductive Bridge where
  | off | lowSides | fixed | injection | sixStep | regenerative | short
  deriving DecidableEq, Repr

/-- What a spindle holds besides its registers. -/
structure Spindle where
  bridge : Bridge := .off
  step : Nat := 0                     -- commutation step driven (R163)
  intervals : List Nat := []          -- crossing intervals in ns since the state was entered, the newest first, at most seven (R154, R165)
  lastCross : Nat := 0                -- when the last crossing was found
  k : Nat := 0                        -- its number in the revolution (R155)
  missed : Nat := 0                   -- expected crossings missed in a row (R165)
  consistent : Nat := 0               -- consistent crossings in a row in RAMP (R161)
  ramp : Rat := 0                     -- step rate of the ramp, rpm (R161)
  ref : Rat := 0                      -- speed reference, rpm (R167)
  integ : Rat := 0                    -- Σe
  duty : Rat := 0
  onTimes : List Rat := []            -- on-times of the periods of a group, in µs (R166)
  carry : Rat := 0                    -- remainder carried into the next group
  good : Nat := 0                     -- speed-loop periods in a row within 0.5 % (R154)
  regenHeld : Bool := false           -- regenerative torque held at zero (OV_WARN)
  chop : Bool := false                -- SPs_CHOP_G
  busCode : Nat := 0                  -- the last bus conversion
  bus : List Nat := []                -- bus conversions since the gate was last turned on, the newest first, at most 51 (R171)
  master : Int := 0                   -- master count (R189)
  angle : Nat := 0                    -- angle count that the master has followed
  deriving DecidableEq, Repr
/-! ## Mbalar link and tree (R432–R459) -/

/-- What a port is doing: nothing (disabled or unpowered), training from a step of R434, or up. -/
inductive PortPhase where
  | idle | training | up
  deriving DecidableEq, Repr

/-- One port. -/
structure Port where
  phase : PortPhase := .idle
  retraining : Bool := false          -- training from step 3 with its replay buffer kept (R436)
  txSeq : Nat := 0                    -- sequence number of the next frame sent
  rxSeq : Nat := 0                    -- sequence number expected next
  replay : List (Nat × List Nat) := []   -- frames sent and not acknowledged, the oldest first
  replayCount : Nat := 0              -- replays of the oldest
  missed : Nat := 0                   -- heartbeats missed in a row (R455)
  partnerLevel : Nat := 0             -- protocol level of the partner
  count : Nat := 0                    -- controllers of the subtree below it, as its last ENUM_REPORT gave it
  depth : Nat := 0                    -- links from this controller to the deepest of them
  frameErrors : Nat := 0              -- packets of an unknown TYPE discarded (R438)
  t1 : Nat := 0                       -- stamps of the TIME exchange in progress (R448)
  t2 : Nat := 0
  t3 : Nat := 0
  tOpen : Bool := false
  deriving DecidableEq, Repr

/-- A command of the root's forward table (R440). -/
structure Fwd where
  tag : Nat
  cmd : Nat
  dest : Nat
  asked : Nat := 0                    -- upward data granted so far
  taken : Nat := 0                    -- upward data received so far
  deriving DecidableEq, Repr

/-- A grant of R441, at either end. -/
structure Grant where
  tag : Nat
  cmd : Nat
  offset : Nat
  len : Nat
  moved : Nat                         -- bytes of it sent or received
  mine : Bool                         -- this controller granted it, and receives its data
  deriving DecidableEq, Repr

/-- A packet that awaits its handling here: the port it came by, or 5 for one of this controller's own, and Chain Time at its
start-of-packet symbol. -/
structure InPacket where
  port : Nat
  stamp : Nat
  packet : Packet
  copies : List Nat := []             -- downstream ports to which it was copied as it arrived (R445, R453)
  deriving DecidableEq, Repr

/-- A snapshot of this controller, and at the root the records gathered (R454). -/
structure Snap where
  armed : Bool := false
  time : Nat := 0
  late : Bool := false
  cmd : Option Nat := none            -- the SNAPSHOT, at the root
  gathered : Table (List Nat) := []
  deriving DecidableEq, Repr

/-- An enumeration in progress at this controller (R444, R446). -/
structure EnumRun where
  port : Nat                          -- downstream port in hand
  solo : Bool                         -- of that port alone
  next : Nat                          -- the next ID to be given
  last : Nat                          -- the last ID that may be given
  reserve : Nat                       -- IDs left spare at every port
  count : Nat := 0                    -- controllers given an ID below this one
  depth : Nat := 0                    -- links to the deepest of them
  short : Nat := 0                    -- controllers left without an ID
  deriving DecidableEq, Repr

/-- A barrier in progress at this controller (R452); its purpose at the root: 1 and 2 for steps 3 and 8 of a Summit, 3 for a snapshot. -/
structure Barrier where
  number : Nat
  waiting : List Nat                  -- child ports still to acknowledge
  purpose : Nat := 0                  -- 0 below the root
  deriving DecidableEq, Repr

structure Mbl where
  ports : Table Port := []            -- 0 MU, 1–4 MD0–MD3
  inbox : List InPacket := []
  fwd : List Fwd := []
  grants : List Grant := []
  nextTag : Nat := 1
  fractions : Int := 0                -- Chain Time below a nanosecond, in units of 1/12,500,000 ns (R447)
  holdCt : Nat := 0                   -- ahead of the parent: ns for which the count is still held (R448)
  firstTime : Bool := true            -- no exchange since link-up
  goodTimes : Nat := 0                -- consecutive exchanges within the limit
  ctLoaded : Bool := false            -- the host has loaded Chain Time once (R447)
  barriers : List Barrier := []
  barriersSent : Nat := 0
  resetsSent : Nat := 0               -- sequence of the next RESET (R438)
  resetWait : Option (Nat × List Nat) := none -- kind, child ports still to acknowledge (R453)
  enum : Option EnumRun := none       -- an ENUM_ASSIGN has been sent and its ENUM_REPORT is awaited
  remBusy : Option Nat := none        -- remote access in progress: TAG of its packet
  snap : Snap := {}
  deriving DecidableEq, Repr

/-! ## Motion block (R177–R208) -/

/-- What a motor holds besides its registers. -/
structure Motor where
  pos : Int := 0                      -- commanded position in units of 2^-32 step (R182)
  v : Rat := 0                        -- speed, steps/s
  phase : Nat := 0                    -- 0 idle, 1 accel, 2 cruise, 3 decel
  dir : Int := 1                      -- direction of the move
  target : Int := 0                   -- in the units of pos
  seeking : Bool := false             -- a move without a target, while homing
  stopping : Bool := false            -- a Rappel or emergency stop
  dec : Nat := 0                      -- deceleration in use (R187)
  vmax : Option Nat := none           -- speed of a homing move
  emitted : Int := 0                  -- steps emitted by the step generator (R184)
  lag : Int := 0                      -- master counts beyond AT that the gear has not added (R191)
  reached : Bool := false             -- the master count has reached AT
  req : Int := 0                      -- sled request being delivered (R185)
  reqTick : Nat := 0
  reduced : Bool := false             -- standstill mode, or drive reduced (R196, R197)
  homeFrom : Int := 0                 -- position at the start of SEEK or APPROACH
  capture : Int := 0                  -- C1 or C2
  fault : Bool := false               -- stopped by a fault: a MOVE completes with SERVO_FAULT (R203)
  cmd : Option Nat := none            -- the MOVE that it carries out
  deriving DecidableEq, Repr

/-- A segment of a blended queue (R204). -/
structure Segment where
  starts : List Int                   -- of the members, in steps
  targets : List Int
  feed : Nat
  deriving DecidableEq, Repr

/-- An interpolation group (R193–R195, R204). -/
structure Group where
  phase : Nat := 0
  members : List Nat := []            -- axes of the move in hand
  starts : List Int := []             -- their positions where the line begins, in units of 2^-32 step
  deltas : List Int := []
  len : Rat := 0                      -- L
  path : Rat := 0                     -- s
  goal : Rat := 0                     -- path length at which it comes to rest
  v : Rat := 0
  stopDec : Option Rat := none        -- braking along the line at this deceleration
  feed : Option Nat := none           -- a blended segment's feed
  queue : List Segment := []          -- segments not yet begun
  fault : Bool := false
  cmd : Option Nat := none
  deriving DecidableEq, Repr
/-! ## On-chip memory (R297–R314) -/

/-- How the words of the on-chip memory are stored, beside their data, which the structures of each region hold: valid and poison bits, a
page of 256 words at a time; the stored bits that differ from a word and its check bits; the scrubber's place. -/
structure OnChip where
  valid : Table Nat := []             -- by page: bit i for word 256 × page + i
  poison : Table Nat := []
  flips : Table Nat := []             -- by word: bits 0–127 of the data, 128–136 of the check bits, that are stored inverted
  rows : Table Nat := []              -- by bank: the row that the scrubber visits next
  passed : Table Bool := []           -- banks that have completed their pass in this lap
  lapStart : Nat := 0
  inject : Option (Nat × Bool) := none   -- word of the arming that is pending, and whether it inverts two bits (R314)
  deriving DecidableEq, Repr

/-! ## Processors and firmware (R491–R508, R524) -/

/-- A section of an image, as the section table describes it, with the SHA-512 digest of its bytes (R493, R496). -/
structure FwSection where
  type : Nat
  ifLevel : Nat := 0
  version : Nat := 0
  digest : List Nat := []
  deriving DecidableEq, Repr

/-- An image that has passed its checks: the boot-flash slot it came from and what its header says (R493). -/
structure FwImage where
  slot : Nat := 0
  version : Nat := 0
  proto : Nat := 0
  sections : List FwSection := []
  strategies : List Nat := []         -- STRATEGY_IDs of its write-strategy base banks (R284)
  deriving DecidableEq, Repr

/-- A FW_DOWNLOAD block that is being programmed into the boot flash (R495). -/
structure FwProgram where
  cmd : Nat
  slot : Nat
  offset : Nat
  data : List Nat
  deriving DecidableEq, Repr

/-- A copy of the boot-control block (R524): whether its CRC matches, the boot slot, its sequence number, the ageing record. -/
structure BootCopy where
  valid : Bool := true
  slot : Nat := 0
  seq : Nat := 0
  vFirst : Nat := 0
  vLast : Nat := 0
  deriving DecidableEq, Repr

/-- A rolling activation (R498): its FW_ACTIVATE, where it has one, the classes, the stations still to come, the processors of the
station in hand still to come, the one being restarted. -/
structure FwRoll where
  cmd : Option Nat
  classes : Nat
  stations : List Nat
  station : Option Nat := none
  procs : List Nat := []
  current : Option Nat := none
  prev : Nat := 0                     -- the code slot that it ran before
  cancelled : Bool := false
  deriving DecidableEq, Repr

/-- A Summit (R503) on this controller: its time and mask; at the root its FW_ACTIVATE and the controllers that have refused; in step 6
the processors still to be ready, and what they and the chain protocol level were before (R504). -/
structure FwSummit where
  time : Nat
  mask : Nat
  cmd : Option Nat := none
  refused : List Nat := []
  started : Bool := false             -- step 6 has begun
  waiting : List Nat := []            -- processors still to be ready
  before : List (Nat × Nat) := []     -- processors in the mask, and the code slot that each ran
  level : Nat := 0
  failed : Bool := false              -- a controller has failed at step 6
  done : Bool := false                -- step 7 is over: the root awaits its barrier
  deriving DecidableEq, Repr

structure Firmware where
  booted : Bool := false              -- Basecamp has handed over (R525 step 9)
  recovery : Bool := false            -- R526, R527
  draining : Bool := false            -- the drain window before Summit: admission stopped on every queue (R503)
  stationHold : List Nat := []        -- stations held for a rolling activation without a disc (R498)
  strategies : List Nat := []         -- STRATEGY_IDs of the base banks in force (R284)
  flash : Table (List Nat) := []      -- image slots of the boot flash in blocks of 4 KiB, by 2,048 × slot + block; [] erased
  bootA : BootCopy := {}
  bootB : BootCopy := {}
  programming : List FwProgram := []  -- blocks whose programming is under way or waits, in order
  verifying : Option Nat := none      -- image slot being verified
  staged : Option FwImage := none
  stagedIn : Nat := 0                 -- code slot that holds the staged image
  force : Table Nat := []             -- code slot in force of each class, 0 MC, 1 DS, 2 LP, 3 DP
  sec5 : List Nat := []               -- digest of the section 5 in force
  code : Table (Option FwImage) := [] -- what each code slot holds
  roll : Option FwRoll := none
  summit : Option FwSummit := none
  resetHeld : List Nat := []          -- why the full device reset is held: the CAUSE values of SYS_RESET_STATUS
  stationResets : List Nat := []      -- stations whose reset is in progress (R521)
  resetAsked : List Nat := []         -- station resets that wait for an activation (R501)
  deriving DecidableEq, Repr

/-! ## Power and pace (R509–R519) -/

/-- A PMBus transaction that has not ended (R517, R518). -/
structure PmbOp where
  code : Nat
  data : Nat
  fails : Nat := 0                    -- attempts that have failed
  deriving DecidableEq, Repr

structure Power where
  volt : Nat := 1600                  -- last request in units of 0.5 mV (R514)
  sinceUp : Nat := 2                  -- pace windows since the last step up
  above : Nat := 0                    -- windows in a row more than 3 % above the target
  exponent : Option Nat := none       -- N of VOUT_MODE, negated
  pmb : List PmbOp := []              -- transactions under way, the oldest first
  days : Nat := 0                     -- days since V_LAST was last written to the boot flash (R516)
  deriving DecidableEq, Repr
/-! ## Calibration (R473–R490) -/

/-- The layer records of one disc that a station holds (R485): its identity, its records by 8 × side + layer, and when it was last
loaded. -/
structure CalSet where
  held : Bool := false
  discId : Nat := 0
  generation : Nat := 0
  layers : Table (List Nat) := []
  used : Nat := 0
  deriving DecidableEq, Repr

/-- A procedure that a pickup is in (R475). -/
structure CalRun where
  proc : Nat := 0                     -- 0 none
  layer : Nat := 0
  cmd : Option Nat := none            -- its CALIBRATE, or the LOAD that full calibration belongs to
  losses : Nat := 0                   -- losses of focus or track since its start (R488)
  deriving DecidableEq, Repr

structure Calib where
  pickups : Table (List Nat) := []    -- half of the station record by pickup, 512 bytes; [] while none (R486)
  sets : Table CalSet := []           -- by 8 × station + set
  loads : Nat := 0                    -- order of loads
  runs : Table CalRun := []           -- by pickup
  qlowAt : Table Nat := []            -- when a quality-triggered Espresso last began, in ns + 1, by 8 × pickup + layer (R476)
  deriving DecidableEq, Repr
/-- The controller. -/
structure State where
  now : Nat := 0                      -- ns since reset release, by the 25 MHz crystal
  free : Nat := 0                     -- THE MODEL'S OWN: counts the free values taken
  root : Bool := true                 -- the PCI Express lanes are connected (R27)
  regs : RegFile := []
  ct : Nat := 0                       -- Chain Time in ns (R447)
  latch : Table Nat := []             -- HI latches, by requester and register pair (R558)
  rings : Rings := {}
  events : Events := {}
  pcie : Pcie := {}
  mem : OnChip := {}
  cache : Cache := {}
  cipher : Cipher := {}
  decoder : Decoder := {}
  stations : Table Station := []      -- S0–S7
  recording : Recording := {}
  lanes : Table Lane := []            -- BC0–BC63
  pickups : Table Pickup := []        -- OPU0–OPU15
  lps : Table LoopProc := []          -- LP0–LP15
  spindles : Table Spindle := []      -- of stations 0–7
  motors : Table Motor := []          -- SL0–SL15, then AX0–AX11
  groups : Table Group := []          -- G0–G2
  timebase : Nat := 0                 -- servo timebase count at the last sample instant (R100)
  fw : Firmware := {}
  power : Power := {}
  calib : Calib := {}
  mbl : Mbl := {}
  sent : List Out := []               -- what the controller has sent, oldest first
  pending : List Instr := []          -- commands that wait, the oldest first
  deriving DecidableEq, Repr

/-- The machine right after reset: every field at its reset value, nothing gathered, nothing waiting. -/
def State.reset : State := {}

end Sys2Proof.Machine
end

