-- ==== Sys2Proof/Machine/Ops.lean ====
section
/-!
DEFINITION. The named operations that every meaning is written with: register fields, flags, counters, events and what is sent.
-/
namespace Sys2Proof.Machine

/-- What a meaning answers when the command has its effect. -/
abbrev Res := Host.Outcome State Fault Refusal

/-! ## Register fields -/

/-- The value of a field. -/
def State.fld (s : State) (f : Fld) : Nat := Table.get (fun _ => f.reset) s.regs f.key

/-- The value of a field read as two's complement. -/
def State.sfld (s : State) (f : Fld) : Int := toSigned f.width (s.fld f)

/-- A field set, cut to its width. -/
def State.put (s : State) (f : Fld) (v : Nat) : State :=
  { s with regs := Table.set (fun _ => f.reset) s.regs f.key (v % 2 ^ f.width) }

/-- A signed field set. -/
def State.sput (s : State) (f : Fld) (v : Int) : State := s.put f (ofSigned f.width v)

/-- A one-bit field. -/
def State.flag (s : State) (f : Fld) : Bool := s.fld f != 0

/-- A one-bit field set or cleared. -/
def State.setFlag (s : State) (f : Fld) (b : Bool) : State := s.put f (b2n b)

/-- A count that saturates at the field's maximum raised by `n`. -/
def State.incSat (s : State) (f : Fld) (n : Nat) : State := s.put f (min (s.fld f + n) (2 ^ f.width - 1))

/-- A count that wraps raised by `n`. -/
def State.incWrap (s : State) (f : Fld) (n : Nat) : State := s.put f (s.fld f + n)

/-- A count kept in a LO and a HI field. -/
def State.pair (s : State) (lo hi : Fld) : Nat := s.fld lo + s.fld hi * 2 ^ 32

/-- A LO and HI pair set. -/
def State.putPair (s : State) (lo hi : Fld) (v : Nat) : State := (s.put lo v).put hi (v / 2 ^ 32)

/-! ## What is sent, time, and free values -/

/-- Something sent that crosses the PCI Express link. -/
def Out.isTlp : Out → Bool
  | .memWrite .. | .memRead .. | .message .. | .reply .. | .retryStatus .. => true
  | _ => false

/-- Work arrives for the PCI Express link: it returns to L0, and where the last LTR message told of idleness another tells of activity
(R416). With all four functions in D3hot the link goes back to L1 by itself (R415). -/
def State.wakeLink (s : State) : State :=
  if (List.range 4).all (fun f => s.fld (F.HIF_FUNC_STATUS_D_STATE f) == 3) then s
  else
    let s := s.put F.HIF_LINK_STATUS_PM 0
    if s.pcie.idleLtr then
      { s with pcie := { s.pcie with idleLtr := false }, sent := s.sent ++ [.ltr (s.fld F.HIF_LTR_ACTIVE_US)] }
    else s

/-- Several things sent, in order; a TLP among them wakes the link. -/
def State.emitAll (s : State) (os : List Out) : State :=
  let s := if os.any Out.isTlp then s.wakeLink else s
  { s with sent := s.sent ++ os }

/-- Something sent. -/
def State.emit (s : State) (o : Out) : State := s.emitAll [o]

/-- A value that the manual leaves open: the next of the free values, and the machine that has taken it. -/
def State.takeFree (s : State) : Nat × State := (Config.freeNat s.free, { s with free := s.free + 1 })

/-- This controller's device ID. -/
def State.deviceId (s : State) : Nat := s.fld F.MBL_ID_DEVICE_ID

/-! ## Events (R397–R401) -/

/-- A posted event: numbered by its source, stamped with Chain Time, its payload 16 bytes; a range that EVT_RANGE_EN disables
posts nothing and consumes no number (R399). -/
def State.post (s : State) (code source : Nat) (payload : List Nat) : State :=
  if (s.fld F.EVT_RANGE_EN_EN).testBit (code / 256 - 1) then
    let n := Table.at 0 s.events.seq source
    let ev : EventRec := ⟨s.deviceId, source, code, n, s.ct, padTo 16 payload⟩
    { s with events := { s.events with
        seq := Table.put 0 s.events.seq source ((n + 1) % 65536)
        posted := s.events.posted ++ [ev] } }
  else s

/-- A flag set by hardware; its event is posted when the flag changes from 0 to 1 (R126, R406). -/
def State.raise (s : State) (f : Fld) (code source : Nat) (payload : List Nat) : State :=
  if s.flag f then s else (s.put f 1).post code source payload

/-- Sources of R398. -/
def srcPickup (n : Nat) : Nat := n
def srcStation (st : Nat) : Nat := 0x10 + st
def srcBeam (bc : Nat) : Nat := 0x20 + bc
def srcMotor (x : Nat) : Nat := 0x60 + x
def srcGroup (g : Nat) : Nat := 0x7C + g
def srcAxes : Nat := 0x7F
def srcMemory : Nat := 0x80
def srcCache : Nat := 0x81
def srcCipher : Nat := 0x82
def srcHost (f : Nat) : Nat := 0x83 + f
def srcPort (q : Nat) : Nat := 0x87 + q
def srcSlot (k : Nat) : Nat := 0x8C + k
def srcFirmware : Nat := 0x98
def srcSystem : Nat := 0x99

/-! ## Statistics counters (R405) -/

/-- All rows of the register map. -/
def allRegRows : List RegRow :=
  regBlock0 ++ regBlock8 ++ regBlock9 ++ regBlockA ++ regBlockC ++ regBlockD ++ regBlockF ++ regBlock10 ++ regBlock12 ++
  regBlock14 ++ regBlock15 ++ regBlock16 ++ regBlock18 ++ regBlock1A ++ regBlock1C ++ regBlock1E ++ regBlock20 ++ regBlock24

/-- The distance of the register with index `ix` from the first, by its dimensions from the last inward. -/
def dimsOffset : List (Nat × Nat) → Nat → Nat
  | [], _ => 0
  | (count, stride) :: ds, ix => (ix % count) * stride + dimsOffset ds (ix / count)

/-- The BAR0 offset of a field's register. -/
def Fld.offset (f : Fld) : Nat :=
  match allRegRows.find? (fun r => r.fields.any (fun g => g.id == f.id)) with
  | some r => r.base + dimsOffset r.dims.reverse (f.ix - r.ix0)
  | none => 0

/-- A statistics counter raised by `n`: 48 bits, saturating; COUNTER_SATURATED is posted when it first reaches the limit after a
full device reset or CLEAR_ALL (R403, R405). -/
def State.count (s : State) (lo hi : Fld) (n : Nat) : State :=
  let v := min (s.pair lo hi + n) (2 ^ 48 - 1)
  let t := s.putPair lo hi v
  if v = 2 ^ 48 - 1 ∧ ¬ s.events.saturated.contains lo.key then
    { t with events := { t.events with saturated := t.events.saturated ++ [lo.key] } }.post 0x0F01 srcSystem
      (leBytes 4 lo.offset ++ leBytes 3 s.deviceId)
  else t

/-- A function's answer: ready, not wedged, not in an FLR and in D0, so that it may fetch, write and signal (R415, R418, R421). -/
def State.fnLive (s : State) (f : Nat) : Bool :=
  s.flag (F.HIF_FUNC_STATUS_READY f) && !s.flag (F.HIF_FUNC_STATUS_WEDGED f) && !s.flag (F.HIF_FUNC_STATUS_FLR_BUSY f) &&
    s.fld (F.HIF_FUNC_STATUS_D_STATE f) == 0

/-- A processor is being restarted for an activation (R499, R503). -/
def State.procDown (s : State) (p : Nat) : Bool :=
  (match s.fw.roll with
   | some r => r.current == some p
   | none => false) ||
  (match s.fw.summit with
   | some m => m.waiting.contains p
   | none => false)

/-- MC firmware is being restarted at the Summit: no descriptor is fetched, events are staged, the watchdog is suspended (R503). -/
def State.mcDown (s : State) : Bool := [32, 33, 34, 35].any s.procDown

/-- Does `f` to the state for every element of a list, in order. -/
def State.forEach {α : Type} (s : State) (xs : List α) (f : State → α → State) : State := xs.foldl f s

/-- The first state where the condition holds, the second elsewhere: a row of a state table (R19). -/
def State.when (s : State) (c : Bool) (f : State → State) : State := if c then f s else s

end Sys2Proof.Machine
end

