-- ==== Sys2Proof/Machine/Clock.lean ====
section
/-!
DEFINITION. The passing of time: one step of the 100 MHz servo timebase, in which Chain Time advances (R447, R448).
-/
namespace Sys2Proof.Machine

/-- Units of Chain Time below a nanosecond: 8 ppb of a 10 ns step is 1/12,500,000 ns (R447, R459). -/
abbrev ctUnits : Int := 12500000

/-- Chain Time over one step of 10 ns, corrected by the rate term; while a child holds its count until its parent passes it, the step
takes from the hold instead (R447, R448). -/
def State.advanceChain (s : State) : State :=
  if 0 < s.mbl.holdCt then
    { s with ct := s.ct + (10 - s.mbl.holdCt), mbl := { s.mbl with holdCt := s.mbl.holdCt - 10 } }
  else
    let total : Int := s.mbl.fractions + 10 * ctUnits + s.sfld F.MBL_CT_STATUS_RATE
    { s with ct := s.ct + (total / ctUnits).toNat, mbl := { s.mbl with fractions := total % ctUnits } }

/-- One step of the timebase, 10 ns, in which nothing is commanded. -/
def State.tick (s : State) : State := { s with now := s.now + 10 }.advanceChain

end Sys2Proof.Machine
end

