-- ==== Sys2Proof/Machine/Aes.lean ====
section
/-!
DEFINITION. The AES block cipher for keys of 128, 192 and 256 bits (R343, R346), the CMAC of NIST SP 800-38B over it (R348) and the
counter mode and seal tag of R351.
-/
namespace Sys2Proof.Machine

/-- A byte times x in the field of AES. -/
def xtime (b : Nat) : Nat := if b < 128 then 2 * b else (2 * b) % 256 ^^^ 0x1B

/-- The product of two bytes in the field of AES, over the low `n` bits of `b`. -/
def gmulAux : (n a b : Nat) → Nat
  | 0, _, _ => 0
  | n + 1, a, b => (if b % 2 = 1 then a else 0) ^^^ gmulAux n (xtime a) (b / 2)

/-- The product of two bytes in the field of AES. -/
def gmul (a b : Nat) : Nat := gmulAux 8 a b

/-- `a` to the power `n` in the field of AES. -/
def gpow (a : Nat) : Nat → Nat
  | 0 => 1
  | n + 1 => gmul a (gpow a n)

/-- A byte rotated left by `k`. -/
def rotl8 (b k : Nat) : Nat := (b * 2 ^ k) % 256 + (b * 2 ^ k) / 256

/-- The affine step of the AES substitution. -/
def aesAffine (b : Nat) : Nat := b ^^^ rotl8 b 1 ^^^ rotl8 b 2 ^^^ rotl8 b 3 ^^^ rotl8 b 4 ^^^ 0x63

/-- The AES substitution of one byte, from its definition: the inverse in the field, then the affine step. -/
def sboxOf (b : Nat) : Nat := aesAffine (gpow b 254)

/-- The AES substitution as a table. -/
def sboxTable : List Nat := (List.range 256).map sboxOf

/-- The AES substitution. -/
def sbox (b : Nat) : Nat := sboxTable.getD b 0

/-- The inverse AES substitution. -/
def invSbox (b : Nat) : Nat := sboxTable.findIdx (fun x => x == b)

/-- Two byte lists combined by exclusive or. -/
def xorBytes (a b : List Nat) : List Nat := List.zipWith (fun x y => x ^^^ y) a b

/-- The round constant of round `i`. -/
def rcon (i : Nat) : Nat := gpow 2 (i - 1)

/-- The next word of the key schedule, word number `i`, from the words so far (the last first). -/
def nextKeyWord (nk i : Nat) (ws : List (List Nat)) : List Nat :=
  let prev := ws.headD []
  let back := ws.getD (nk - 1) []
  let t :=
    if i % nk = 0 then xorBytes ((prev.drop 1 ++ prev.take 1).map sbox) [rcon (i / nk), 0, 0, 0]
    else if nk = 8 ∧ i % nk = 4 then prev.map sbox
    else prev
  xorBytes back t

/-- `n` further words of the key schedule, the last first. -/
def keyWords (nk : Nat) : (n i : Nat) → List (List Nat) → List (List Nat)
  | 0, _, ws => ws
  | n + 1, i, ws => keyWords nk n (i + 1) (nextKeyWord nk i ws :: ws)

/-- Lists of `n` bytes cut from `bs`, `k` of them. -/
def chunks (n : Nat) : (k : Nat) → List Nat → List (List Nat)
  | 0, _ => []
  | k + 1, bs => bs.take n :: chunks n k (bs.drop n)

/-- The round keys of a key of 16, 24 or 32 bytes, each of 16 bytes. -/
def keySchedule (key : List Nat) : List (List Nat) :=
  let nk := key.length / 4
  let rounds := nk + 6
  let ws := (keyWords nk (4 * (rounds + 1) - nk) nk ((chunks 4 nk key).reverse)).reverse
  chunks 16 (rounds + 1) ws.flatten

/-- The byte at row r, column c of a state of 16 bytes, held column by column. -/
def stAt (s : List Nat) (r c : Nat) : Nat := s.getD (4 * (c % 4) + r) 0

/-- A state made by a function of row and column. -/
def stMk (f : Nat → Nat → Nat) : List Nat :=
  (List.range 16).map (fun i => f (i % 4) (i / 4))

def shiftRows (s : List Nat) : List Nat := stMk (fun r c => stAt s r (c + r))
def invShiftRows (s : List Nat) : List Nat := stMk (fun r c => stAt s r (c + 4 - r))

/-- Each column times a circulant matrix with first row (a, b, c, d). -/
def mixWith (a b c d : Nat) (s : List Nat) : List Nat :=
  stMk (fun r k => gmul a (stAt s r k) ^^^ gmul b (stAt s ((r + 1) % 4) k) ^^^
    gmul c (stAt s ((r + 2) % 4) k) ^^^ gmul d (stAt s ((r + 3) % 4) k))

/-- The rounds of encryption after the first key addition. -/
def encRounds : List (List Nat) → List Nat → List Nat
  | [], s => s
  | [k], s => xorBytes (shiftRows (s.map sbox)) k
  | k :: ks, s => encRounds ks (xorBytes (mixWith 2 3 1 1 (shiftRows (s.map sbox))) k)

/-- One block encrypted. -/
def aesEnc (key block : List Nat) : List Nat :=
  match keySchedule key with
  | [] => block
  | k0 :: ks => encRounds ks (xorBytes (padTo 16 block) k0)

/-- The rounds of decryption, with the round keys from the last but one to the first. -/
def decRounds : List (List Nat) → List Nat → List Nat
  | [], s => s
  | [k], s => xorBytes ((invShiftRows s).map invSbox) k
  | k :: ks, s => decRounds ks (mixWith 14 11 13 9 (xorBytes ((invShiftRows s).map invSbox) k))

/-- One block decrypted. -/
def aesDec (key block : List Nat) : List Nat :=
  match (keySchedule key).reverse with
  | [] => block
  | k0 :: ks => decRounds ks (xorBytes (padTo 16 block) k0)

/-- Doubling in the field of CMAC: the block, most significant byte first, shifted left by one. -/
def cmacDouble (b : List Nat) : List Nat :=
  let v := ofBeBytes b
  let w := (2 * v) % 2 ^ 128
  beBytes 16 (if v < 2 ^ 127 then w else w ^^^ 0x87)

/-- The CBC chain of CMAC over whole blocks. -/
def cbcChain (key : List Nat) (x : List Nat) : List (List Nat) → List Nat
  | [] => x
  | b :: bs => cbcChain key (aesEnc key (xorBytes x b)) bs

/-- The CMAC of a message under a key, 16 bytes (NIST SP 800-38B, R348). -/
def cmac (key msg : List Nat) : List Nat :=
  let l := aesEnc key (List.replicate 16 0)
  let k1 := cmacDouble l
  let k2 := cmacDouble k1
  let n := if msg.length = 0 then 1 else (msg.length + 15) / 16
  let bs := chunks 16 n msg
  let last := bs.getLastD []
  let lastBlock :=
    if last.length = 16 then xorBytes last k1
    else xorBytes (padTo 16 (last ++ [0x80])) k2
  cbcChain key (List.replicate 16 0) (bs.dropLast ++ [lastBlock])

/-- The counter block of R351: disc_id, psa, two zero bytes, block number. -/
def sealCounter (discId psa i : Nat) : List Nat := leBytes 8 discId ++ leBytes 4 psa ++ [0, 0] ++ leBytes 2 i

/-- Counter mode over the 256 blocks of a user field (R351), encrypting and decrypting alike. -/
def sealCtr (k1 : List Nat) (discId psa : Nat) (user : List Nat) : List Nat :=
  ((List.range 256).zip (chunks 16 256 user)).flatMap
    (fun e => xorBytes e.2 (aesEnc k1 (sealCounter discId psa e.1)))

/-- The header that the seal tag covers (R351), 32 bytes. -/
def sealHdr (discId stamp psa lba keyLabel role flags : Nat) : List Nat :=
  leBytes 8 discId ++ leBytes 8 stamp ++ leBytes 4 psa ++ leBytes 4 lba ++ leBytes 4 keyLabel ++
    [role % 256, flags % 256, 0, 0]

/-- The seal tag of R351 over the header and the ciphertext. -/
def sealTag (k2 : List Nat) (hdr cipher : List Nat) : List Nat := cmac k2 (hdr ++ cipher)

end Sys2Proof.Machine
end

