-- ==== Sys2Proof/Machine/Crc.lean ====
section
/-!
DEFINITION. The cyclic redundancy checks: CRC-16 of wobble addresses and link frames (R47) and CRC-32C of sectors, tables and
firmware blocks (R51, R62).
-/
namespace Sys2Proof.Machine

/-- One bit of CRC-16, polynomial 0x1021, most significant bit first. -/
def crc16Bit (crc : Nat) (b : Bool) : Nat :=
  let top := xor (crc.testBit 15) b
  let sh := (crc * 2) % 65536
  if top then sh ^^^ 0x1021 else sh

/-- One byte of CRC-16, its most significant bit first. -/
def crc16Byte (crc byte : Nat) : Nat :=
  [7, 6, 5, 4, 3, 2, 1, 0].foldl (fun c i => crc16Bit c (byte.testBit i)) crc

/-- The CRC-16 of R47: initial value 0xFFFF, nothing reflected, no final XOR. -/
def crc16 (bytes : List Nat) : Nat := bytes.foldl crc16Byte 0xFFFF

/-- `n` shifts of a reflected 32-bit CRC with polynomial 0x82F63B78. -/
def crc32cShift : Nat → Nat → Nat
  | 0, c => c
  | n + 1, c => crc32cShift n (if c % 2 = 1 then (c / 2) ^^^ 0x82F63B78 else c / 2)

/-- One byte of CRC-32C. -/
def crc32cByte (crc byte : Nat) : Nat := crc32cShift 8 (crc ^^^ (byte % 256))

/-- CRC-32C (Castagnoli): reflected, initial value and final XOR all ones. -/
def crc32c (bytes : List Nat) : Nat := (bytes.foldl crc32cByte 0xFFFFFFFF) ^^^ 0xFFFFFFFF

end Sys2Proof.Machine
end

