-- ==== Sys2Proof/Machine/Disc.lean ====
section
/-!
DEFINITION. The geometry of the discs: zones, blocks, interleave, addresses and the disc format table (R44, R45, R55–R67).
-/
namespace Sys2Proof.Machine

/-- Sector positions of zone `z` on each spiral (R44, R66). -/
def DiscInfo.zoneSectors (d : DiscInfo) (z : Nat) : Nat := (d.zoneA * 1000 + d.zoneB * z) / 10000000

/-- Channel rate of a beam in a zone, in bit/s at 9,000 rpm (R45, R66). -/
def DiscInfo.channelRate (d : DiscInfo) (z : Nat) : Nat := d.zoneSectors z * (if d.s4 then 276480 else 752640)

/-- Data sectors of a block (R53, R66). -/
def DiscInfo.dataPerBlock (d : DiscInfo) : Nat := if d.s4 then 32 else 64
/-- Parity sectors of a block. -/
def DiscInfo.parityPerBlock (d : DiscInfo) : Nat := if d.s4 then 4 else 8
/-- Layers of a side. -/
def DiscInfo.layers (d : DiscInfo) : Nat := if d.s4 then 4 else 8
/-- All sectors of a block. -/
def DiscInfo.perBlock (d : DiscInfo) : Nat := d.dataPerBlock + d.parityPerBlock
/-- LBAs of a layer. -/
def DiscInfo.lbasPerLayer (d : DiscInfo) : Nat := d.blocksPerLayer * d.dataPerBlock
/-- LBAs of a side. -/
def DiscInfo.lbasPerSide (d : DiscInfo) : Nat := d.layers * d.lbasPerLayer
/-- LBAs of the disc: 247,988,224 on Format Q8 and 68,096,000 on Format S4 with the usual tables (R60, R67). -/
def DiscInfo.capacity (d : DiscInfo) : Nat := 2 * d.lbasPerSide

/-- Where an LBA lies: side, layer, logical block n of the layer, data sector d, physical block b (R60, R66). -/
structure LbaPos where
  side : Nat
  layer : Nat
  n : Nat
  j : Nat
  b : Nat
  deriving DecidableEq, Repr

/-- Physical block of logical block `n` on `layer`: reversed on odd layers of a disc with opposite track path (R60). -/
def DiscInfo.physBlock (d : DiscInfo) (layer n : Nat) : Nat :=
  if d.opposite ∧ ¬ d.s4 ∧ layer % 2 = 1 then d.blocksPerLayer - 1 - n else n

/-- The mapping of R60. -/
def DiscInfo.position (d : DiscInfo) (lba : Nat) : LbaPos :=
  let side := lba / d.lbasPerSide
  let rest := lba % d.lbasPerSide
  let layer := rest / d.lbasPerLayer
  let rest := rest % d.lbasPerLayer
  let n := rest / d.dataPerBlock
  ⟨side, layer, n, rest % d.dataPerBlock, d.physBlock layer n⟩

/-- Spiral and index of sector `j` of physical block `b` (R55, R66). -/
def DiscInfo.sectorIndex (d : DiscInfo) (b j : Nat) : Nat × Nat :=
  if d.s4 then (0, 36 * b + j) else (j % 4, 18 * (b + j % 4) + j / 4)

/-- A physical sector address (R58). -/
def psaOf (side layer spiral index : Nat) : Nat := side * 2 ^ 31 + layer * 2 ^ 28 + spiral * 2 ^ 26 + index

/-- The address of sector `j` of physical block `b`. -/
def DiscInfo.sectorPsa (d : DiscInfo) (side layer b j : Nat) : Nat :=
  psaOf side layer (d.sectorIndex b j).1 (d.sectorIndex b j).2

/-- Side of a physical sector address. -/
def psaSide (psa : Nat) : Nat := bitsOf psa 31 1
def psaLayer (psa : Nat) : Nat := bitsOf psa 28 3
def psaSpiral (psa : Nat) : Nat := bitsOf psa 26 2
def psaIndex (psa : Nat) : Nat := bitsOf psa 0 26

/-- First index of the information zone and of the power calibration area (R47, R66). -/
def infoZoneBase (s4 : Bool) : Nat := if s4 then 0x3FF0000 else 0x3FFC000
def pcaBase : Nat := 0x3FE0000

/-- The block (LBA div 64 or 32) that an LBA lies in (R318). -/
def DiscInfo.blockOf (d : DiscInfo) (lba : Nat) : Nat := lba / d.dataPerBlock

/-- The position of the first LBA of a tagged block. -/
def DiscInfo.blockPos (d : DiscInfo) (block : Nat) : LbaPos := d.position (block * d.dataPerBlock)

/-- Block and sector j that R55 puts at an index of a spiral, where it assigns one (R55, R57). -/
def DiscInfo.blockAt (d : DiscInfo) (spiral index : Nat) : Option (Nat × Nat) :=
  if d.s4 then
    if index / 36 < d.blocksPerLayer then some (index / 36, index % 36) else none
  else
    let seg := index / 18
    if seg < spiral then none
    else if seg - spiral < d.blocksPerLayer then some (seg - spiral, 4 * (index % 18) + spiral) else none

/-- The logical block of the disc (LBA div 64 or 32) with physical block `b` of a side and layer. -/
def DiscInfo.logicalBlock (d : DiscInfo) (side layer b : Nat) : Nat :=
  (side * d.layers + layer) * d.blocksPerLayer + d.physBlock layer b

/-! ## Sector metadata (R51) -/

/-- The 64 metadata bytes, with SECTOR_CRC over bytes 0–59 and the user field. -/
def sectorMeta (psa lba role flags keyLabel stamp : Nat) (tag user : List Nat) : List Nat :=
  let m := leBytes 4 psa ++ leBytes 4 lba ++ [role % 256, flags % 256, 0, 0] ++ leBytes 4 keyLabel ++ leBytes 8 stamp ++
    padTo 16 tag ++ List.replicate 20 0
  m ++ leBytes 4 (crc32c (m ++ user))

/-- Fields of the metadata bytes of a payload (R51). -/
def metaPsa (p : List Nat) : Nat := ofLeBytes (p.take 4)
def metaLba (p : List Nat) : Nat := ofLeBytes ((p.drop 4).take 4)
def metaRole (p : List Nat) : Nat := p.getD 8 0
def metaFlags (p : List Nat) : Nat := p.getD 9 0
def metaKeyLabel (p : List Nat) : Nat := ofLeBytes ((p.drop 12).take 4)
def metaStamp (p : List Nat) : Nat := ofLeBytes ((p.drop 16).take 8)
def metaTag (p : List Nat) : List Nat := (p.drop 24).take 16
def metaCrc (p : List Nat) : Nat := ofLeBytes ((p.drop 60).take 4)
/-- The user field of a payload (R49). -/
def payloadUser (p : List Nat) : List Nat := (p.drop 64).take 4096

/-- The checks of R52 that remain once the decode has converged: SECTOR_CRC and PSA. -/
def sectorChecks (psa : Nat) (payload : List Nat) : Bool :=
  metaCrc payload == crc32c (payload.take 60 ++ payloadUser payload) && metaPsa payload == psa

/-! ## The disc format table (R62–R64, R66) -/

/-- A little-endian field of `n` bytes at offset `o`. -/
def leField (bs : List Nat) (o n : Nat) : Nat := ofLeBytes ((bs.drop o).take n)

/-- TABLE_CRC matches. -/
def tableCrcOk (t : List Nat) : Bool := leField t 4092 4 == crc32c (t.take 4092)

/-- Two tables agree in every field except SIDE (and TABLE_CRC, which covers SIDE). -/
def tablesAgree (a b : List Nat) : Bool :=
  a.take 7 == b.take 7 && (a.drop 8).take 4084 == (b.drop 8).take 4084

/-- The disc that a table describes. -/
def discOfTable (t : List Nat) : DiscInfo :=
  let s4 := (t.take 4) == [0x52, 0x53, 0x34, 0x46]
  { s4 := s4
    generation := t.getD 6 0
    discId := leField t 48 8
    zoneA := leField t 32 4
    zoneB := leField t 36 4
    blocksPerLayer := leField t 40 4
    opposite := t.getD 10 0 == 1
    strategyId := t.getD 60 0
    recPower := (List.range 8).map (fun i => leField t (64 + 2 * i) 2)
    table := t }

/-- Positions that the zones hold on one spiral. -/
def DiscInfo.positionsHeld (d : DiscInfo) : Nat := (List.range 4250).foldl (fun acc z => acc + d.zoneSectors z) 0

/-- Positions that R55 needs for the table's blocks. -/
def DiscInfo.positionsNeeded (d : DiscInfo) : Nat :=
  if d.s4 then 36 * d.blocksPerLayer else 18 * (d.blocksPerLayer + 3)

/-- The checks of R64 on a Format Q8 table. -/
def tableAcceptedQ8 (t : List Nat) : Bool :=
  let d := discOfTable t
  leField t 4 2 == 0x0100 && t.getD 8 0 == 8 && t.getD 9 0 == 4 && leField t 12 2 == 200 && leField t 14 2 == 50000 &&
  leField t 22 2 == 50176 && leField t 20 2 == 9000 && leField t 24 4 == 24000 && leField t 28 4 == 58000 &&
  t.getD 44 0 == 64 && t.getD 45 0 == 8 && leField t 16 2 == 10 && leField t 18 2 == 4250 &&
  decide (t.getD 10 0 ≤ 1) &&
  (List.range 4250).all (fun z => decide (400000000 ≤ d.channelRate z) && decide (d.channelRate z ≤ 1100000000)) &&
  decide (d.positionsNeeded ≤ d.positionsHeld)

/-- The table's signature and the checks that go with it: R64 for "RQ8F"; for "RS4F" the values of R66. -/
def tableAccepted (t : List Nat) : Bool :=
  if t.take 4 == [0x52, 0x51, 0x38, 0x46] then tableAcceptedQ8 t
  else if t.take 4 == [0x52, 0x53, 0x34, 0x46] then
    leField t 4 2 == 0x0100 && t.getD 8 0 == 4 && t.getD 9 0 == 1 && t.getD 10 0 == 0 && leField t 12 2 == 320 &&
    leField t 14 2 == 62000 && leField t 16 2 == 25 && leField t 18 2 == 4250 && leField t 20 2 == 9000 &&
    leField t 22 2 == 46080 && leField t 24 4 == 24000 && leField t 28 4 == 58000 && t.getD 44 0 == 32 && t.getD 45 0 == 4
  else false

end Sys2Proof.Machine
end

