-- ==== Sys2Proof/Machine/Host.lean ====
section
/-!
DEFINITION. The host interface's shared operations: configuration space, tags and reads of host memory, memory writes through
scatter lists, and MSI-X messages (R372, R404, R410–R415, R423, R424).
-/
namespace Sys2Proof.Machine

/-! ## Configuration space -/

/-- The number under which a field of configuration space is held. -/
def cfgCode : CfgField → Nat
  | .vendorId => 0 | .deviceId => 1 | .classCode => 2 | .revisionId => 3 | .subsystemVendorId => 4 | .subsystemId => 5
  | .serialNumber => 6 | .memorySpaceEnable => 7 | .maxPayloadSize => 8 | .maxReadRequestSize => 9 | .tenBitTagEnable => 10
  | .relaxedOrderingEnable => 11 | .completionTimeoutValue => 12 | .aspmControl => 13 | .l11Enable => 14 | .l12Enable => 15
  | .ltrThresholdUs => 16 | .msixEnable => 17 | .msixFunctionMask => 18 | .aerStatus => 19

/-- Reset values of configuration space: R410 for the identity, and for the controls those of the PCI Express specification
(PRESUMED, log entry 12). -/
def cfgReset (f code : Nat) : Nat :=
  match code with
  | 0 => Config.vendorId
  | 1 => if f = 0 then 0x8160 else 0x8161
  | 2 => if f = 0 then 0x088000 else 0x018000
  | 3 => 0xB1
  | 6 => if f = 0 then Config.unitSerial else 0
  | 8 => 128
  | 9 => 512
  | 11 => 1
  | _ => 0

/-- The reset value by the key in the table of configuration fields. -/
def cfgDefault (k : Nat) : Nat := cfgReset (k / 64) (k % 64)

/-- A field of a function's configuration space. -/
def State.cfg (s : State) (f : Nat) (c : CfgField) : Nat := Table.get cfgDefault s.pcie.cfg (64 * f + cfgCode c)

/-- A field of configuration space set. -/
def State.setCfg (s : State) (f : Nat) (c : CfgField) (v : Nat) : State :=
  { s with pcie := { s.pcie with cfg := Table.set cfgDefault s.pcie.cfg (64 * f + cfgCode c) v } }

/-- Max_Payload_Size as programmed, 128 to 512 bytes (R414). -/
def State.maxPayload (s : State) (f : Nat) : Nat := max 128 (min 512 (s.cfg f .maxPayloadSize))

/-- Max_Read_Request_Size as programmed, 128 bytes to 4 KiB (R414). -/
def State.maxRead (s : State) (f : Nat) : Nat := max 128 (min 4096 (s.cfg f .maxReadRequestSize))

/-! ## Scatter lists (R372) -/

/-- The pieces of host memory that bytes [off, off + len) of the described data lie in, in order: (address, length, is SKIP). -/
def scatterRuns : List Elem → (off len : Nat) → List (Nat × Nat × Bool)
  | [], _, _ => []
  | e :: es, off, len =>
    if len = 0 then []
    else if e.len ≤ off then scatterRuns es (off - e.len) len
    else
      let n := min len (e.len - off)
      (e.addr + off, n, e.kind == 2) :: scatterRuns es 0 (len - n)

/-- Writes of `data` at `addr`, no TLP above `mps` bytes or across a 4-KiB boundary; `fuel` bounds the number of TLPs. -/
def splitWrites (fn mps : Nat) (relaxed poisoned : Bool) : (fuel addr : Nat) → List Nat → List Out
  | 0, _, _ => []
  | fuel + 1, addr, data =>
    if data.isEmpty then []
    else
      let n := min mps (4096 - addr % 4096)
      .memWrite fn addr (data.take n) relaxed poisoned ::
        splitWrites fn mps relaxed poisoned fuel (addr + n) (data.drop n)

/-- The TLPs that write `data` at byte `off` of a command's buffer (R372, R414). -/
def State.bufferWrites (s : State) (fn : Nat) (els : List Elem) (off : Nat) (data : List Nat) (poisoned : Bool) : List Out :=
  let relaxed := s.cfg fn .relaxedOrderingEnable == 1
  let go := (scatterRuns els off data.length).foldl
    (fun (acc : List Out × List Nat) r =>
      (if r.2.2 then acc.1
       else acc.1 ++ splitWrites fn (s.maxPayload fn) relaxed poisoned (acc.2.length + 1) r.1 (acc.2.take r.2.1),
       acc.2.drop r.2.1))
    ([], data)
  go.1

/-! ## Tags and reads (R414, R424) -/

/-- The tags a function may use (R414). -/
def State.tagSpace (s : State) (f : Nat) : List Nat :=
  if s.cfg f .tenBitTagEnable = 1 then (List.range 768).map (fun t => 256 + t) else List.range 256

/-- A tag neither outstanding nor in quarantine. -/
def State.tagFree (s : State) (f t : Nat) : Bool :=
  !s.pcie.reqs.any (fun r => r.fn == f && r.tag == t) && !s.pcie.quarantine.any (fun q => q.fn == f && q.tag == t)

/-- The tags free to a function. -/
def State.freeTags (s : State) (f : Nat) : List Nat := (s.tagSpace f).filter (s.tagFree f)

/-- A read of host memory issued under a free tag, which one the manual leaves open (a free value chooses it); nothing is issued
while no tag is free (R424). -/
def State.issueRead (s : State) (f : Nat) (p : ReadFor) (h off addr len : Nat) : State :=
  match s.freeTags f with
  | [] => s
  | t :: ts =>
    let (v, s) := s.takeFree
    let tag := (t :: ts).getD (v % (ts.length + 1)) t
    let s := { s with pcie := { s.pcie with reqs := s.pcie.reqs ++ [(⟨f, tag, p, h, off, len, []⟩ : ReadReq)] } }
    s.emit (.memRead f tag addr len)

/-- The outstanding read with a tag. -/
def State.reqOf (s : State) (f tag : Nat) : Option ReadReq := s.pcie.reqs.find? (fun r => r.fn == f && r.tag == tag)

/-- The read with a tag ended. -/
def State.dropReq (s : State) (f tag : Nat) : State :=
  { s with pcie := { s.pcie with reqs := s.pcie.reqs.filter (fun r => !(r.fn == f && r.tag == tag)) } }

/-- The number of reads that a function has outstanding. -/
def State.outstanding (s : State) (f : Nat) : Nat := (s.pcie.reqs.filter (fun r => r.fn == f)).length

/-- The number of its tags in quarantine. -/
def State.quarantined (s : State) (f : Nat) : Nat := (s.pcie.quarantine.filter (fun q => q.fn == f)).length

/-! ## Errors (R428) -/

/-- The bit of an error in the AER status of the model. -/
def tlpErrorBit : TlpError → Nat
  | .receiver => 0 | .badTlp => 1 | .badDllp => 2 | .replay => 3 | .ecrc => 4 | .malformed => 5 | .flowControl => 6 | .overflow => 7
abbrev aerPoisoned : Nat := 8
abbrev aerTimeout : Nat := 9
abbrev aerUnexpected : Nat := 10
abbrev aerUnsupported : Nat := 11
abbrev aerAbort : Nat := 12
abbrev aerInternal : Nat := 13

/-- An error logged by a function. -/
def State.logAer (s : State) (f bit : Nat) : State := s.setCfg f .aerStatus (s.cfg f .aerStatus ||| 2 ^ bit)

/-- A poisoned write to BAR0 of a function: discarded, counted, and POISON_RX set (R428, R430). -/
def State.poisonedWrite (s : State) (f off : Nat) : State :=
  let s := s.count (F.HIF_POISON_RX_LO_COUNT f) (F.HIF_POISON_RX_HI_COUNT f) 1
  (s.logAer f aerPoisoned).raise (F.HIF_ERR_STATUS_POISON_RX f) 0x0A06 (srcHost f) ([f, 0, 0, 0] ++ leBytes 4 off)

/-! ## MSI-X (R404) -/

/-- What an unwritten word of the MSI-X table holds: Vector Control with its Mask bit set, all else zero
(PRESUMED, PCI Express specification, log entry 12). -/
def msixDefault (k : Nat) : Nat := if k % 4 = 3 then 1 else 0

/-- A word of a function's MSI-X table. -/
def State.msixWord (s : State) (f k : Nat) : Nat := Table.get msixDefault s.pcie.msix (256 * f + k)

/-- A vector masked by its own Mask bit or by Function Mask. -/
def State.masked (s : State) (f m : Nat) : Bool :=
  s.msixWord f (4 * m + 3) % 2 == 1 || s.cfg f .msixFunctionMask == 1

/-- The pending bit of a vector. -/
def State.pendingBit (s : State) (f m : Nat) : Bool := Table.at false s.pcie.pba (64 * f + m)

def State.setPendingBit (s : State) (f m : Nat) (b : Bool) : State :=
  { s with pcie := { s.pcie with pba := Table.put false s.pcie.pba (64 * f + m) b } }

/-- The moderation state of a vector. -/
def State.vec (s : State) (f m : Nat) : VecState := Table.at {} s.events.vecs (64 * f + m)

def State.setVec (s : State) (f m : Nat) (v : VecState) : State :=
  { s with events := { s.events with vecs := Table.put {} s.events.vecs (64 * f + m) v } }

/-- One message of a vector, or its pending bit while it is masked; the count is cleared and the timer stops. -/
def State.sendMessage (s : State) (f m : Nat) : State :=
  let s := s.setVec f m {}
  if s.cfg f .msixEnable ≠ 1 then s
  else if s.masked f m then s.setPendingBit f m true
  else s.emit (.message f m (s.msixWord f (4 * m) + s.msixWord f (4 * m + 1) * 2 ^ 32) (s.msixWord f (4 * m + 2)))

/-- A record written to a ring of vector `m`: counted, and a message sent when the count or a time of zero asks it or the record is
urgent (R404). -/
def State.signal (s : State) (f m : Nat) (urgent : Bool) : State :=
  let n := (s.vec f m).count + 1
  let limit := max 1 (s.fld (F.EVT_VEC_MOD_COUNT f m))
  if limit ≤ n ∨ s.fld (F.EVT_VEC_MOD_TIME f m) = 0 ∨ (urgent = true ∧ s.flag (F.EVT_VEC_MOD_URGENT f m) = true) then
    s.sendMessage f m
  else s.setVec f m ⟨n, true⟩

end Sys2Proof.Machine
end

