-- ==== Sys2Proof/Machine/Cmds.lean ====
section
/-!
DEFINITION. The shared operations on commands: their table, what a descriptor says, queues, tags, range locks, bindings, and the
fixing of a status (R369–R384, R391–R395).
-/
namespace Sys2Proof.Machine

/-! ## Completion status codes (R393) -/
namespace Status
abbrev success : Nat := 0x00
abbrev recovered : Nat := 0x01
abbrev retried : Nat := 0x02
abbrev aborted : Nat := 0x10
abbrev resetAborted : Nat := 0x11
abbrev partialActivation : Nat := 0x12
abbrev keyChanged : Nat := 0x13
abbrev authFail : Nat := 0x20
abbrev unrecoveredRead : Nat := 0x21
abbrev blank : Nat := 0x22
abbrev alreadyRecorded : Nat := 0x23
abbrev writeFault : Nat := 0x24
abbrev spindleFault : Nat := 0x30
abbrev servoFault : Nat := 0x31
abbrev mediaAbsent : Nat := 0x32
abbrev stationAbsent : Nat := 0x33
abbrev hostReadTimeout : Nat := 0x40
abbrev hostAddressError : Nat := 0x41
abbrev invalidCommand : Nat := 0x50
abbrev invalidField : Nat := 0x51
abbrev chainTimeout : Nat := 0x60
abbrev childAbsent : Nat := 0x61
end Status

/-! ## Opcodes (R370, R387); a Format L opcode is held with 0x100 added -/
namespace Op
abbrev read : Nat := 0x01
abbrev write : Nat := 0x02
abbrev verify : Nat := 0x03
abbrev flush : Nat := 0x04
abbrev preload : Nat := 0x05
abbrev abort : Nat := 0x08
abbrev cipherJob : Nat := 0x09
abbrev load : Nat := 0x10
abbrev unload : Nat := 0x11
abbrev move : Nat := 0x12
abbrev calibrate : Nat := 0x13
abbrev identify : Nat := 0x18
abbrev getLog : Nat := 0x19
abbrev attest : Nat := 0x1A
abbrev fwDownload : Nat := 0x20
abbrev fwActivate : Nat := 0x21
abbrev snapshot : Nat := 0x22
abbrev lWrite : Nat := 0x101
abbrev lRead : Nat := 0x102
abbrev lFlush : Nat := 0x107
abbrev lLoad : Nat := 0x111
abbrev lUnload : Nat := 0x112
abbrev lSegment : Nat := 0x120
end Op

/-- The native opcode that carries a command out (R387); L_SEGMENT has none and stays itself. -/
def nativeOp (op : Nat) : Nat :=
  if op = Op.lWrite then Op.write else if op = Op.lRead then Op.read else if op = Op.lFlush then Op.flush
  else if op = Op.lLoad then Op.load else if op = Op.lUnload then Op.unload else op

/-! ## The command table -/

/-- The command with a handle, where there is one. -/
def State.cmd? (s : State) (h : Nat) : Option Cmd := Table.at none s.rings.cmds h

/-- The command with a handle. -/
def State.cmd (s : State) (h : Nat) : Cmd := (s.cmd? h).getD {}

/-- A command put in the table. -/
def State.setCmd (s : State) (h : Nat) (c : Cmd) : State :=
  { s with rings := { s.rings with cmds := Table.put none s.rings.cmds h (some c) } }

/-- A command changed, where it exists. -/
def State.modCmd (s : State) (h : Nat) (f : Cmd → Cmd) : State :=
  match s.cmd? h with
  | some c => s.setCmd h (f c)
  | none => s

/-- Every command, with its handle, in the order of fetch. -/
def State.allCmds (s : State) : List (Nat × Cmd) :=
  s.rings.cmds.filterMap (fun e => match e.2 with
    | some c => some (e.1, c)
    | none => none)

/-- The engine work that ends with a command: all of it but the sealing of sectors it has delivered, which belongs to their block. -/
def keepsWork (h : Nat) (w : EngineWork) : Bool := w.cmd != h || w.kind == .sealSector || w.kind == .passSector

/-- A command gone: its tag, its range lock, its place among the records and its work on the engines (R373, R377). -/
def State.dropCmd (s : State) (h : Nat) : State :=
  { s with
    rings := { s.rings with
      cmds := Table.put none s.rings.cmds h none
      locks := s.rings.locks.filter (fun l => l.holder != h)
      records := s.rings.records.filter (fun r => r != h) }
    cipher := { s.cipher with work := s.cipher.work.filter (keepsWork h) } }

/-- The fields of a native descriptor (R369). -/
def nativeId (fn ring : Nat) (raw : List Nat) : CmdId :=
  let addr := leField raw 8 5
  { fn := fn, ring := ring, formatL := false, op := raw.getD 0 0, flags := raw.getD 1 0, cid := leField raw 2 2
    device := leField raw 4 3, keySlot := raw.getD 7 0, mslot := addr / 2 ^ 28, lba := addr % 2 ^ 28
    dptr := ⟨leField raw 16 8, leField raw 24 4, raw.getD 31 0⟩, body := (raw.drop 32).take 32, raw := raw }

/-- The fields of a Format L descriptor as the native command they map to (R386, R387). -/
def formatLId (fn ring device : Nat) (raw : List Nat) : CmdId :=
  let op := 0x100 + raw.getD 0 0
  let slot := leField raw 4 2
  let n := if leField raw 12 2 = 0 then 65536 else leField raw 12 2
  let body :=
    if op = Op.lRead ∨ op = Op.lWrite then leBytes 4 n
    else if op = Op.lLoad ∨ op = Op.lUnload then [slot % 256]
    else if op = Op.lSegment then [leField raw 12 2, slot] ++ leBytes 4 (leField raw 8 4) ++ [0, 0] ++ (raw.drop 16).take 16
    else []
  { fn := fn, ring := ring, formatL := true, op := op, flags := 2 * (raw.getD 1 0 % 2), cid := leField raw 2 2
    device := device, keySlot := 0
    mslot := if op = Op.lLoad then leField raw 24 2 else if op = Op.lUnload ∨ op = Op.lSegment then 0 else slot
    lba := if op = Op.lRead ∨ op = Op.lWrite then leField raw 8 4 % 2 ^ 28 else 0
    dptr := ⟨leField raw 16 8, n * 4096, 0⟩, body := padTo 32 body, raw := raw }

/-- NSECT of READ, WRITE and VERIFY. -/
def CmdId.nsect (i : CmdId) : Nat := leField i.body 0 4
/-- NBLK of PRELOAD. -/
def CmdId.nblkPreload (i : CmdId) : Nat := leField i.body 0 2
/-- NBLK of CIPHER_JOB. -/
def CmdId.nblkJob (i : CmdId) : Nat := leField i.body 4 4
/-- STATION of LOAD, UNLOAD, CALIBRATE. -/
def CmdId.stationField (i : CmdId) : Nat := i.body.getD 0 0
/-- Flag bits of R369. -/
def CmdId.earlyData (i : CmdId) : Bool := i.flags.testBit 0
def CmdId.fua (i : CmdId) : Bool := i.flags.testBit 1
def CmdId.writeVerify (i : CmdId) : Bool := i.flags.testBit 2
def CmdId.seal (i : CmdId) : Bool := i.flags.testBit 3

/-- The native opcode of a command. -/
def Cmd.op (c : Cmd) : Nat := nativeOp c.id.op

/-- The total data length that the scatter list must describe (R370). -/
def CmdId.length (i : CmdId) : Nat :=
  let op := nativeOp i.op
  if op = Op.read ∨ op = Op.write then i.nsect * 4096
  else if op = Op.cipherJob then i.nblkJob * 16
  else if op = Op.identify then 4096
  else if op = Op.getLog ∨ op = Op.fwDownload then leField i.body 8 4
  else if op = Op.attest then 688
  else 0

/-! ## Stations and bindings (R371, R375) -/

def State.station (s : State) (st : Nat) : Station := Table.at {} s.stations st
def State.setStation (s : State) (st : Nat) (x : Station) : State :=
  { s with stations := Table.put {} s.stations st x }
def State.modStation (s : State) (st : Nat) (f : Station → Station) : State := s.setStation st (f (s.station st))

/-- The station to which a magazine slot is bound (R375). -/
def State.boundTo (s : State) (mslot : Nat) : Option Nat :=
  match Table.at 0 s.rings.bound mslot with
  | 0 => none
  | n + 1 => some n

def State.bind (s : State) (mslot st : Nat) : State :=
  { s with rings := { s.rings with bound := Table.put 0 s.rings.bound mslot (st + 1) } }
def State.unbind (s : State) (mslot : Nat) : State :=
  { s with rings := { s.rings with bound := Table.put 0 s.rings.bound mslot 0 } }

/-- The disc in a station; the Format Q8 values before a table is accepted. -/
def State.disc (s : State) (st : Nat) : DiscInfo := (s.station st).disc.getD {}

/-- The station is present in its slot: powered and in service (R368 check 9, R463). -/
def State.stationPresent (s : State) (st : Nat) : Bool :=
  let v := s.fld (F.HPC_SLOT_STATUS_STATE st)
  v == 4 || v == 5 || v == 6

/-! ## Queues, tags and locks (R373–R377) -/

/-- The commands that hold a tag of a queue, in dispatch order. -/
def State.inQueue (s : State) (q : Nat) : List (Nat × Cmd) :=
  sortBy (fun e => e.2.order) (s.allCmds.filter (fun e => e.2.queue == some q))

/-- The commands of a queue that are not admitted, in dispatch order. -/
def State.waitingIn (s : State) (q : Nat) : List (Nat × Cmd) := (s.inQueue q).filter (fun e => e.2.phase == .queued)

/-- A queue's free tags (R373). -/
def State.tagsFree (s : State) (q : Nat) : Nat := 32 - (s.inQueue q).length

/-- Bits of a BELAY_CAUSE field (R143). -/
abbrev belayLate : Nat := 0
abbrev belaySpindle : Nat := 1
abbrev belayHost : Nat := 2
abbrev belayUpdate : Nat := 3

def State.pickup (s : State) (n : Nat) : Pickup := Table.at {} s.pickups n
def State.setPickup (s : State) (n : Nat) (p : Pickup) : State := { s with pickups := Table.put {} s.pickups n p }
def State.modPickup (s : State) (n : Nat) (f : Pickup → Pickup) : State := s.setPickup n (f (s.pickup n))

/-! The states of a pickup (R128). -/
namespace Pu
abbrev off : Nat := 0
abbrev search : Nat := 1
abbrev focused : Nat := 2
abbrev pullin : Nat := 3
abbrev align : Nat := 4
abbrev follow : Nat := 5
abbrev tjump : Nat := 6
abbrev ljump : Nat := 7
abbrev coarse : Nat := 8
abbrev belay : Nat := 9
abbrev park : Nat := 10
abbrev fault : Nat := 11
end Pu

/-- The state of a pickup (R128). -/
def State.puState (s : State) (n : Nat) : Nat := s.fld (F.SRV_PU_STATE_STATE n)

/-- A pickup is in Belay, or waits in it with tracking off for its spindle (R5), or recovers from a loss (R141). -/
def State.puHolds (s : State) (n : Nat) : Bool :=
  s.puState n == Pu.belay || (s.fld (F.SRV_PU_STATE_BELAY_CAUSE n)).testBit belaySpindle || (s.pickup n).recovering

/-- A queue is held: the drain window before Summit, or for a station its Belay, its drain or a hold for an activation (R376, R466, R498). -/
def State.queueHeld (s : State) (q : Nat) : Bool :=
  s.fw.draining ||
    (decide (q < 8) && (s.puHolds (2 * q) || s.puHolds (2 * q + 1) || (s.station q).drainWait || s.fw.stationHold.contains q))

/-- Two resources overlap (R377). -/
def LockRes.overlaps : LockRes → LockRes → (stationOf : Nat → Option Nat) → Bool
  | .lbas m lo hi, .lbas m' lo' hi', _ => m == m' && decide (lo < hi') && decide (lo' < hi)
  | .lbas m _ _, .station st, so => so m == some st
  | .station st, .lbas m _ _, so => so m == some st
  | .station st, .station st', _ => st == st'
  | .axes a, .axes b, _ => (a &&& b) != 0
  | _, _, _ => false

/-- Two locks conflict: their resources overlap and they are not both Shared or both Blend (R377). -/
def Lock.conflicts (so : Nat → Option Nat) (a b : Lock) : Bool :=
  a.res.overlaps b.res so && !((a.mode == .shared && b.mode == .shared) || (a.mode == .blend && b.mode == .blend))

/-- The axes that a MOVE or a segment locks: one axis, or the members of its group (R377). -/
def State.moveAxes (s : State) (i : CmdId) : Nat :=
  if i.op = Op.lSegment then s.fld (F.MOT_GRP_CTRL_MEMBERS (i.body.getD 1 0))
  else if i.body.getD 0 0 = 1 ∨ (i.body.getD 0 0 = 3 ∧ i.body.getD 1 0 ≥ 12) then s.fld (F.MOT_GRP_CTRL_MEMBERS (i.body.getD 1 0 % 12 % 3))
  else 2 ^ i.body.getD 1 0

/-- The lock that a command needs at admission, where it needs one (R377). -/
def State.lockNeeded (s : State) (h : Nat) (c : Cmd) : Option Lock :=
  let i := c.id
  let dp := (s.disc c.station).dataPerBlock
  let op := c.op
  if op = Op.read ∨ op = Op.verify then some ⟨h, .lbas i.mslot i.lba (i.lba + i.nsect), .shared⟩
  else if op = Op.preload then some ⟨h, .lbas i.mslot i.lba (i.lba + i.nblkPreload * dp), .shared⟩
  else if op = Op.write then some ⟨h, .lbas i.mslot i.lba (i.lba + i.nsect), .exclusive⟩
  else if op = Op.load ∨ op = Op.unload ∨ op = Op.calibrate then some ⟨h, .station c.station, .exclusive⟩
  else if op = Op.move then some ⟨h, .axes (s.moveAxes i), .exclusive⟩
  else if op = Op.lSegment then some ⟨h, .axes (s.moveAxes i), .blend⟩
  else none

/-- The lock can be granted: the table of 128 has room and no held lock conflicts (R377). -/
def State.lockGrantable (s : State) (l : Lock) : Bool :=
  decide (s.rings.locks.length < 128) && !s.rings.locks.any (fun m => l.conflicts s.boundTo m)

/-- The lock taken. -/
def State.takeLock (s : State) (l : Option Lock) : State :=
  match l with
  | some l => { s with rings := { s.rings with locks := s.rings.locks ++ [l] } }
  | none => s

/-! ## Fixing a status (R380, R394) -/

/-- The command's result and status fixed: its record joins the queue of records to be written, and nothing later changes
it. A command whose status is fixed already keeps it (R380, R384); one that an FLR of PF0 left to run ends without a record (R419). -/
def State.finish (s : State) (h : Nat) (r : CmdResult) : State :=
  match s.cmd? h with
  | none => s
  | some c =>
    if c.phase = .ended then s
    else if c.mute then s.dropCmd h
    else
      let t := s.setCmd h { c with phase := .ended, res := r }
      { t with
        rings := { t.rings with records := t.rings.records ++ [h] }
        cipher := { t.cipher with work := t.cipher.work.filter (keepsWork h) } }

/-- Refused: the status of the check, and nothing done (R394 rule 1). -/
def State.refuse (s : State) (h status : Nat) : State := s.finish h { status := status }

/-- A command is live: fetched, and its status not fixed. -/
def Cmd.live (c : Cmd) : Bool := c.phase != .ended && c.phase != .fetching

/-- The live commands of a station's queue, admitted or not. -/
def State.stationCmds (s : State) (st : Nat) : List (Nat × Cmd) := (s.inQueue st).filter (fun e => e.2.live)

/-! ## Outcomes of sectors and the status of a read (R262, R263, R394) -/
namespace Outcome
abbrev clean : Nat := 0
abbrev hypothesis : Nat := 1
abbrev redecode : Nat := 2
abbrev outer : Nat := 3
abbrev reread : Nat := 4
abbrev blank : Nat := 5
abbrev unrecovered : Nat := 6
end Outcome

/-- The first index at which a list of outcomes satisfies a test. -/
def firstIndex (p : Nat → Bool) (os : List Nat) : Option Nat :=
  if os.any p then some (os.findIdx p) else none

/-- The status of a command that read sectors with these outcomes and seal failures to its end, and the index it names
(R263, R394 rule 3). -/
def readStatus (outcomes : List Nat) (failed : List Nat) : Nat × Nat :=
  match firstIndex (fun o => o == Outcome.unrecovered) outcomes with
  | some i => (Status.unrecoveredRead, i)
  | none =>
    if failed.isEmpty = false then (Status.authFail, failed.foldl min (failed.headD 0))
    else
      match firstIndex (fun o => o == Outcome.blank) outcomes with
      | some i => (Status.blank, i)
      | none =>
        match firstIndex (fun o => o == Outcome.reread) outcomes with
        | some i => (Status.retried, i)
        | none =>
          match firstIndex (fun o => o == Outcome.redecode || o == Outcome.outer) outcomes with
          | some i => (Status.recovered, i)
          | none => (Status.success, 0)

end Sys2Proof.Machine
end

