-- ==== Sys2Proof/Machine/OnChip.lean ====
section
/-!
DEFINITION. The on-chip memory: its regions and banks, how a word is stored, read and merged, its errors, the scrubber and error injection
(R297–R316).
-/
namespace Sys2Proof.Machine

/-! ## Addresses, regions and banks (R297, R300) -/

/-- Words of the memory. -/
def memWords : Nat := 4194304

/-- The region index of an internal address. -/
def regionOf (a : Nat) : Nat :=
  if a < 0xC00000 then 0 else if a < 0x1000000 then 1 else if a < 0x2000000 then 2 else if a < 0x2800000 then 3
  else if a < 0x3400000 then 4 else if a < 0x3800000 then 5 else if a < 0x3E00000 then 6 else 7

/-- Row and bank of a word. -/
def rowOf (w : Nat) : Nat := w / 128
def bankOf (w : Nat) : Nat := (w % 128) ^^^ (w / 128 % 128) ^^^ (w / 16384 % 128) ^^^ (w / 2097152)

/-- The word at a row of a bank. -/
def wordAt (bank row : Nat) : Nat := 128 * row + ((bank ^^^ (row % 128) ^^^ (row / 128 % 128) ^^^ (row / 16384)) % 128)

/-- Internal addresses: sector `j` of cache entry `e` (R317), a trace ring's entry (R122), a station's quality records (R299), an event
staged (R299). -/
def cacheAddr (e j : Nat) : Nat := 0x2800000 + 0x40000 * e + 0x1000 * j
def traceAddr (n m entry : Nat) : Nat := 0x3E00000 + 0x20000 * n + 0x4000 * m + 4 * entry
def qualityAddr (st i : Nat) : Nat := 0x0F00000 + 0x10000 * st + 16 * (i % 4096)
def stagingAddr (i : Nat) : Nat := 0x0F80000 + 32 * (i % 256)

/-! ## Stored bits (R302) -/

/-- Bit of a word in a table of pages. -/
def pageBit (t : Table Nat) (w : Nat) : Bool := (Table.at 0 t (w / 256)).testBit (w % 256)

/-- The bits of a page that words [lo, hi) take. -/
def pageMask (page lo hi : Nat) : Nat :=
  let a := max lo (256 * page) - 256 * page
  let b := min hi (256 * page + 256) - 256 * page
  2 ^ b - 2 ^ min a b

/-- Bits of words [lo, hi) set or cleared in a table of pages. -/
def markPages (t : Table Nat) (lo hi : Nat) (on : Bool) : Table Nat :=
  (List.range ((hi + 255) / 256 - lo / 256)).foldl (fun (t : Table Nat) i =>
    let page := lo / 256 + i
    let old := Table.at 0 t page
    let m := pageMask page lo hi
    Table.put 0 t page (if on then old ||| m else (old ||| m) - m)) t

/-- A word set among words [lo, hi) of a table of pages. -/
def anyMarked (t : Table Nat) (lo hi : Nat) : Bool :=
  (List.range ((hi + 255) / 256 - lo / 256)).any (fun i => (Table.at 0 t (lo / 256 + i) &&& pageMask (lo / 256 + i) lo hi) != 0)

/-! ## Errors (R303, R311, R312) -/

/-- An error counted and logged; the syndrome's code is not given, so it is a free value. -/
def State.memError (s : State) (w requester : Nat) (uncorrectable : Bool) : State :=
  let count := if uncorrectable then F.MEM_ERR_COUNT_UE else F.MEM_ERR_COUNT_CE
  let before := s.fld F.MEM_ERR_COUNT_CE
  let s := s.incSat count 1
  let s := if s.fld count = 65535 then s.put F.MEM_STATUS_CNT_SAT 1 else s
  let limit := s.fld F.MEM_CE_CFG_CE_LIMIT
  let s := if uncorrectable = false ∧ before < limit ∧ limit ≤ s.fld F.MEM_ERR_COUNT_CE then
      s.raise F.MEM_STATUS_CE_LIMIT 0x0702 srcMemory (leBytes 2 (s.fld F.MEM_ERR_COUNT_CE)) else s
  let e := s.fld F.MEM_LOG_HEAD_NEXT
  let v := s.takeFree
  let s := ((v.2.put (F.MEM_LOG_ADDR_ADDR e) (16 * w)).put (F.MEM_LOG_ADDR_REGION e) (regionOf (16 * w))).setFlag (F.MEM_LOG_ADDR_UNCORR e) uncorrectable
  let s := ((s.put (F.MEM_LOG_REQ_REQUESTER e) requester).put (F.MEM_LOG_REQ_SYNDROME e) v.1).put (F.MEM_LOG_REQ_BANK e) (bankOf w)
  let s := (s.put (F.MEM_LOG_TIME_LO_TIME_LO e) s.ct).put (F.MEM_LOG_TIME_HI_TIME_HI e) (s.ct / 2 ^ 32)
  (s.put F.MEM_LOG_HEAD_NEXT (e + 1)).incWrap F.MEM_LOG_HEAD_TOTAL 1

/-- Poison newly set on a word: MEM_UE. -/
def State.memUe (s : State) (w requester : Nat) : State :=
  let s := { s with mem := { s.mem with poison := markPages s.mem.poison w (w + 1) true } }
  (s.put F.MEM_STATUS_UE 1).post 0x0701 srcMemory ([requester, regionOf (16 * w), 0, 0] ++ leBytes 4 (16 * w))

/-! ## Writes (R305, R306, R314) -/

/-- An injection armed for one of words [lo, hi) corrupts this store of it. -/
def State.injectIn (s : State) (lo hi : Nat) : State :=
  match s.mem.inject with
  | none => s
  | some (w, double) =>
    if lo ≤ w ∧ w < hi then
      ({ s with mem := { s.mem with flips := Table.put 0 s.mem.flips w (if double then 3 else 1), inject := none } }).put F.MEM_INJECT_PENDING 0
    else s

/-- Words [lo, hi) stored whole with fresh check bits, their valid bits set, and poison where the data came with an error (R304, R305). -/
def State.storeWords (s : State) (lo hi : Nat) (poisoned : Bool) : State :=
  let s := { s with mem := { s.mem with
    valid := markPages s.mem.valid lo hi true
    poison := if poisoned || anyMarked s.mem.poison lo hi then markPages s.mem.poison lo hi poisoned else s.mem.poison
    flips := s.mem.flips.filter (fun e => decide (e.1 < lo) || decide (hi ≤ e.1)) } }
  s.injectIn lo hi

/-- `len` bytes stored at an address of whole words. -/
def State.memStore (s : State) (addr len : Nat) (poisoned : Bool) : State := s.storeWords (addr / 16) ((addr + len) / 16) poisoned

/-- What a stored word shows when it is read: 0 no error, 1 a single-bit error, 2 more. -/
def State.wordErrors (s : State) (w : Nat) : Nat := min 2 (popCount 137 (Table.at 0 s.mem.flips w))

/-- A correctable word written back as the merge of no new bytes (R306). -/
def State.writeBack (s : State) (w : Nat) : State :=
  ({ s with mem := { s.mem with flips := Table.put 0 s.mem.flips w 0 } }).injectIn w (w + 1)

/-- A read of a valid word that carries no poison: its errors counted, corrected or made poison (R303). -/
def State.checkWord (s : State) (w requester : Nat) : State :=
  if pageBit s.mem.valid w = false ∨ pageBit s.mem.poison w = true then s
  else
    match s.wordErrors w with
    | 0 => s
    | 1 => (s.memError w requester false).writeBack w
    | _ => (s.memError w requester true).memUe w requester

/-- Bytes [addr, addr + len) read: every word is checked; whether the requester receives an error response (R303). -/
def State.memRead (s : State) (addr len requester : Nat) : State × Bool :=
  let lo := addr / 16
  let hi := (addr + len + 15) / 16
  let s := s.forEach ((s.mem.flips.filter (fun e => decide (lo ≤ e.1) && decide (e.1 < hi))).map (fun e => e.1)) (fun s w => s.checkWord w requester)
  (s, anyMarked s.mem.poison lo hi)

/-- A write of part of a word, through the merge buffer, which ends within the step (R306, R307). -/
def State.mergeWord (s : State) (w requester : Nat) : State :=
  if pageBit s.mem.valid w = false then s.storeWords w (w + 1) false
  else if pageBit s.mem.poison w then s.injectIn w (w + 1)
  else
    match s.wordErrors w with
    | 0 => s.injectIn w (w + 1)
    | 1 => (s.memError w requester false).writeBack w
    | _ => (s.memError w requester true).memUe w requester

/-- Every word's valid and poison bits cleared at a full device reset (R308). -/
def State.clearMemory (s : State) : State := { s with mem := {} }

/-! ## The scrubber (R309, R310) -/

/-- The lowest row that any bank has reached in this lap. -/
def State.lowestRow (s : State) : Nat :=
  (List.range 128).foldl (fun a b => min a (if Table.at false s.mem.passed b then 32767 else Table.at 0 s.mem.rows b)) 32767

/-- A bank's place moves on; a lap ends when every bank has completed its pass. -/
def State.scrubOn (s : State) (bank row : Nat) : State :=
  let last := decide (32768 ≤ row + 1)
  let passed := if last then Table.put false s.mem.passed bank true else s.mem.passed
  let s := { s with mem := { s.mem with rows := Table.put 0 s.mem.rows bank (if last then 0 else row + 1), passed := passed } }
  let s := if passed.length = 128 then
      let s := (s.put F.MEM_SCRUB_LAP_LAST_MS (min 65535 ((s.now - s.mem.lapStart) / 1000000))).incWrap F.MEM_SCRUB_LAP_LAPS 1
      { s with mem := { s.mem with passed := [], lapStart := s.now } }
    else s
  s.put F.MEM_SCRUB_POS_ROW s.lowestRow

/-- SCRUB_VISIT: the next word of a bank is visited in an idle handshake; `upset`: stored bits of it that have been inverted since it was
last read or written. -/
def execScrubVisit (bank : Fin 128) (upset : List (Fin 137)) (s : State) : Res :=
  if s.flag F.MEM_CTRL_SCRUB_EN = false then .next s
  else
    let row := Table.at 0 s.mem.rows bank
    let w := wordAt bank row
    let s :=
      if (s.fld F.MEM_SCRUB_CFG_REGIONS).testBit (regionOf (16 * w)) = false ∨ pageBit s.mem.valid w = false then s
      else
        let f := (upset.map (fun b => b.val)).eraseDups.foldl (fun a b => a ^^^ 2 ^ b) (Table.at 0 s.mem.flips w)
        ({ s with mem := { s.mem with flips := Table.put 0 s.mem.flips w f } }).checkWord w 0xD0
    .next (s.scrubOn bank row)

/-- SCRUB_LAP_SLOW: the lap has lasted LIMIT_MS. -/
def execScrubLapSlow (s : State) : Res :=
  if s.flag F.MEM_CTRL_SCRUB_EN = false then .next s
  else
    let ms := max (s.fld F.MEM_SCRUB_LIMIT_LIMIT_MS) ((s.now - s.mem.lapStart) / 1000000)
    .next (s.raise F.MEM_STATUS_SCRUB_SLOW 0x0703 srcMemory ([0, 0, 0, 0] ++ leBytes 4 ms))

/-! ## Counts and injection (R311, R314) -/

/-- MEM_CNT_CLR: MEM_CTRL.CNT_CLR written 1. -/
def execMemCntClr (s : State) : Res := .next ((s.put F.MEM_ERR_COUNT_CE 0).put F.MEM_ERR_COUNT_UE 0)

/-- MEM_INJECT written: ADDR and DOUBLE are stored, and ARM arms the injection; a new arming replaces one that is pending. -/
def State.writeInject (s : State) (v : Nat) : State :=
  let s := (s.put F.MEM_INJECT_ADDR (bitsOf v 0 22)).put F.MEM_INJECT_DOUBLE (bitsOf v 25 1)
  if v.testBit 24 then
    ({ s with mem := { s.mem with inject := some (bitsOf v 0 22, v.testBit 25) } }).put F.MEM_INJECT_PENDING 1
  else s

def execMemInjectArm (value : Word) (s : State) : Res := .next (s.writeInject (2 ^ 24 ||| value.toNat))

end Sys2Proof.Machine
end

