-- ==== Sys2Proof/Machine/CacheOps.lean ====
section
/-!
DEFINITION. The shared operations of the staging cache: entries, tags, masks, allocation and eviction, claims, the withheld reports
of read-ahead, and the release of entries (R317–R342).
-/
namespace Sys2Proof.Machine

def State.entry (s : State) (e : Nat) : Entry := Table.at {} s.cache.entries e
def State.setEntry (s : State) (e : Nat) (x : Entry) : State :=
  { s with cache := { s.cache with entries := Table.put {} s.cache.entries e x } }
def State.modEntry (s : State) (e : Nat) (f : Entry → Entry) : State := s.setEntry e (f (s.entry e))

/-- The entry numbers. -/
def entryNumbers : List Nat := List.range 48

/-- Sector `j` of an entry. -/
def Entry.sector (x : Entry) (j : Nat) : CacheSector := Table.at {} x.sectors j
def Entry.setSector (x : Entry) (j : Nat) (c : CacheSector) : Entry :=
  { x with sectors := Table.put {} x.sectors j c }

/-- A sector written into an entry: its user field is stored in the entry's words, with poison where it came with an error (R304, R317). -/
def State.storeSector (s : State) (e j : Nat) (c : CacheSector) : State :=
  (s.modEntry e (fun x => x.setSector j c)).memStore (cacheAddr e j) 4096 c.poison

/-- A sector's user field read from the entry's words: an error response marks the sector (R303, R304). -/
def State.readSector (s : State) (e j requester : Nat) : State :=
  let r := s.memRead (cacheAddr e j) 4096 requester
  if r.2 then r.1.modEntry e (fun x => x.setSector j { x.sector j with poison := true }) else r.1

/-- The sector states that are final (R319). -/
def SectorState.final : SectorState → Bool
  | .empty => false
  | .provisional => false
  | _ => true

/-- GATHERING, COMMITTED and RECORDING are dirty, and EVICTING while its write-back is under way (R320). -/
def Entry.dirty (x : Entry) : Bool :=
  x.st == .gathering || x.st == .committed || x.st == .recording || (x.st == .evicting && x.writeBack)

/-- Data sectors of an entry that are final. -/
def Entry.finals (x : Entry) (n : Nat) : Nat := ((List.range n).filter (fun j => (x.sector j).st.final)).length

/-- The class of a function's requests (R321): 0–2 for PF1–PF3. -/
def fnClass (fn : Nat) : Nat := fn - 1
abbrev classPrefetch : Nat := 3
abbrev classVerify : Nat := 4
abbrev classPeer : Nat := 5

/-- Entry `e` lies in the mask of class `c` (R321). -/
def State.inMask (s : State) (c e : Nat) : Bool :=
  (s.fld (F.CCH_MASK_LO_MASK c) + s.fld (F.CCH_MASK_HI_MASK c) * 2 ^ 32).testBit e

/-- The tagged entry that holds a block (R318): at most one does. -/
def State.tagOf (s : State) (mslot block : Nat) : Option Nat :=
  entryNumbers.find? (fun e =>
    let x := s.entry e
    x.tagged && x.mslot == mslot && x.block == block && x.st != .free)

/-- The order of use: the entry becomes the most recently used. -/
def State.touch (s : State) (e : Nat) : State :=
  let n := s.cache.clock + 1
  ({ s with cache := { s.cache with clock := n } }).modEntry e (fun x => { x with used := n })

/-! ## Image slots and work on blocks (R256, R265, R266) -/

def State.work (s : State) (e : Nat) : BlockWork := Table.at {} s.decoder.works e
def State.setWork (s : State) (e : Nat) (w : BlockWork) : State :=
  { s with decoder := { s.decoder with works := Table.put {} s.decoder.works e w } }
def State.modWork (s : State) (e : Nat) (f : BlockWork → BlockWork) : State := s.setWork e (f (s.work e))
def BlockWork.sec (w : BlockWork) (j : Nat) : SecWork := Table.at {} w.secs j
def BlockWork.setSec (w : BlockWork) (j : Nat) (x : SecWork) : BlockWork := { w with secs := Table.put {} w.secs j x }

/-- Pinned slots of one image: four on Format Q8, one on Format S4 (R256). -/
def DiscInfo.imageSlots (d : DiscInfo) : Nat := if d.s4 then 1 else 4

/-- The images that the sectors of a block hold. -/
def BlockWork.images (w : BlockWork) : Nat := (w.secs.filter (fun e => e.2.image)).length

/-- The work on a block discarded: its images are released and no outcome is reported (R265, R266). -/
def State.discardWork (s : State) (e : Nat) : State :=
  let w := s.work e
  let n := w.images * (s.disc w.station).imageSlots
  let s := s.put F.RCH_IMG_CFG_FREE (s.fld F.RCH_IMG_CFG_FREE + n)
  { s with decoder := { s.decoder with
      works := Table.put {} s.decoder.works e {}
      waitRound := s.decoder.waitRound.filter (fun r => r.1 != e)
      reeq := s.decoder.reeq.filter (fun r => r.1 != e) } }

/-- The work of a block that an entry is to be filled with: every sector of it expected (R253). -/
def State.startWork (s : State) (e st mslot block : Nat) (verify noRetry early : Bool) : State :=
  let d := s.disc st
  let p := d.blockPos block
  s.setWork e
    { active := true, station := st, mslot := mslot, side := p.side, layer := p.layer, b := p.b
      verify := verify, noRetry := noRetry, early := early
      secs := (List.range d.perBlock).map (fun j => (j, { st := .expected })) }

/-! ## Freeing and counting -/

/-- An entry freed: its tag and lock go, work on it is discarded, and an entry that was speculative counts as unused (R320, R330, R342). -/
def State.freeEntry (s : State) (e : Nat) : State :=
  let x := s.entry e
  let s := s.discardWork e
  let s := s.when (x.spec && x.st != .free) (fun s => s.count F.CCH_RA_UNUSED_LO_COUNT F.CCH_RA_UNUSED_HI_COUNT 1)
  s.setEntry e {}

/-- Lanes of a report: which counter of R262 an outcome moves. -/
def outcomeCounter (bc outcome : Nat) : Fld × Fld :=
  match outcome with
  | 0 => (F.RCH_OUT_CLEAN_LO_COUNT bc, F.RCH_OUT_CLEAN_HI_COUNT bc)
  | 1 => (F.RCH_OUT_HYP_LO_COUNT bc, F.RCH_OUT_HYP_HI_COUNT bc)
  | 2 => (F.RCH_OUT_REDECODE_LO_COUNT bc, F.RCH_OUT_REDECODE_HI_COUNT bc)
  | 3 => (F.RCH_OUT_OUTER_LO_COUNT bc, F.RCH_OUT_OUTER_HI_COUNT bc)
  | 4 => (F.RCH_OUT_REREAD_LO_COUNT bc, F.RCH_OUT_REREAD_HI_COUNT bc)
  | 5 => (F.RCH_OUT_BLANK_LO_COUNT bc, F.RCH_OUT_BLANK_HI_COUNT bc)
  | _ => (F.RCH_OUT_UNREC_LO_COUNT bc, F.RCH_OUT_UNREC_HI_COUNT bc)

def State.lane (s : State) (bc : Nat) : Lane := Table.at {} s.lanes bc
def State.setLane (s : State) (bc : Nat) (l : Lane) : State := { s with lanes := Table.put {} s.lanes bc l }

/-- A frame's quality record applied to its lane once its outcome is final (R239). -/
def State.applyQuality (s : State) (bc : Nat) (q : Quality) : State :=
  let s := (s.put (F.RCH_QUAL_EYE bc) q.eye).put (F.RCH_QUAL_MSE bc) q.mse
  let s := s.count (F.RCH_BITS_LO_COUNT bc) (F.RCH_BITS_HI_COUNT bc) q.bits
  let s := s.count (F.RCH_DEFECT_BITS_LO_COUNT bc) (F.RCH_DEFECT_BITS_HI_COUNT bc) q.defectBits
  let s := s.when q.timingLost (fun s =>
    (s.count (F.RCH_TIM_LOSSES_LO_COUNT bc) (F.RCH_TIM_LOSSES_HI_COUNT bc) 1).raise (F.RCH_LANE_STATUS_TIMING_LOST bc)
      0x0502 (srcBeam bc) ([bc, 0] ++ leBytes 2 (s.fld (F.RCH_TIM_FREQ_F bc))))
  let s := s.when q.adcClip (fun s =>
    s.raise (F.RCH_LANE_STATUS_ADC_CLIP bc) 0x0503 (srcBeam bc) ([bc, 0] ++ leBytes 2 q.gain))
  let poor := decide (q.eye < s.fld (F.RCH_QUAL_LIM_EYE_MIN bc)) || decide (s.fld (F.RCH_QUAL_LIM_MSE_MAX bc) < q.mse)
  s.setLane bc { s.lane bc with poorRun := if poor then (s.lane bc).poorRun + 1 else 0 }

/-- A sector's final outcome reported: its counts, flags, events and quality records (R262, R264, R268). -/
def State.reportOutcome (s : State) (r : SectorReport) : State :=
  let bc := r.lane
  let c := outcomeCounter bc r.outcome
  let s := s.count c.1 c.2 1
  let s := s.put (F.RCH_DEC_STATUS_LAST_OUTCOME bc) r.outcome
  let s := s.count (F.RCH_SYNC_DOUBT_LO_COUNT bc) (F.RCH_SYNC_DOUBT_HI_COUNT bc) r.doubts
  let s := s.count (F.RCH_SYNC_CONFLICT_LO_COUNT bc) (F.RCH_SYNC_CONFLICT_HI_COUNT bc) r.conflicts
  let s := s.count (F.RCH_MARKS_MISSED_LO_COUNT bc) (F.RCH_MARKS_MISSED_HI_COUNT bc) r.missed
  let s := s.count (F.RCH_CAPT_REFUSED_LO_COUNT bc) (F.RCH_CAPT_REFUSED_HI_COUNT bc) r.refused
  let s := s.when r.imageShort (fun s =>
    s.raise (F.RCH_DEC_STATUS_IMAGE_SHORT bc) 0x0511 (srcBeam bc) [bc, 0, s.fld F.RCH_IMG_CFG_FREE])
  let s := s.when (r.outcome == Outcome.unrecovered) (fun s =>
    s.raise (F.RCH_DEC_STATUS_UNRECOVERED bc) 0x0510 (srcBeam bc) ([bc, 0, 0, 0] ++ leBytes 4 r.psa))
  s.forEach r.quality (fun s q => s.applyQuality bc q)

/-- OUTER_INCONSISTENT raised on the lane of a block's sector j = 0 (R259, R268). -/
def State.raiseOuterBad (s : State) (bc psa : Nat) : State :=
  s.raise (F.RCH_DEC_STATUS_OUTER_INCONSISTENT bc) 0x0512 (srcBeam bc) ([bc, 0, 0, 0] ++ leBytes 4 psa)

/-- A withheld report applied (R330): an outcome, or an inconsistent outer decode. -/
def State.applyReport (s : State) (r : SectorReport) : State :=
  match r.outerBad with
  | some psa => s.raiseOuterBad r.lane psa
  | none => s.reportOutcome r

/-- A report made now, or withheld while the entry is speculative (R264, R330). -/
def State.report (s : State) (e : Nat) (r : SectorReport) : State :=
  if (s.entry e).spec then s.modEntry e (fun x => { x with withheld := x.withheld ++ [r] })
  else s.applyReport r

/-- A command claims an entry by hitting it: the entry's class becomes the command's, its speculation ends and the withheld reports
apply (R321, R330). -/
def State.claim (s : State) (h e cls : Nat) : State :=
  let x := s.entry e
  let s := s.setEntry e { x with cls := cls, spec := false, withheld := [], readers := x.readers ++ [h] }
  (s.forEach x.withheld State.applyReport).touch e

/-! ## Allocation (R323) -/

/-- The entry a request of class `c` chooses: a FREE one, else the least recently used VALID one that is unlocked and not read, else
the unlocked RECORDING one whose recording began first. -/
def State.chooseEntry (s : State) (c : Nat) : Option Nat :=
  let mine := entryNumbers.filter (s.inMask c)
  match mine.find? (fun e => (s.entry e).st == .free) with
  | some e => some e
  | none =>
    match leastBy (fun e => (s.entry e).used)
        (mine.filter (fun e => let x := s.entry e; x.st == .valid && !x.locked && x.readers.isEmpty)) with
    | some e => some e
    | none =>
      leastBy (fun e => (s.entry e).recStart) (mine.filter (fun e => let x := s.entry e; x.st == .recording && !x.locked))

/-- A fresh entry for a block. -/
def freshEntry (st : EntryState) (cls mslot block station : Nat) (tagged : Bool) : Entry :=
  { st := st, cls := cls, tagged := tagged, mslot := mslot, block := block, station := station }

/-- Locked entries (R326). -/
def State.lockedCount (s : State) : Nat := (entryNumbers.filter (fun e => (s.entry e).locked)).length
/-- Dirty entries. -/
def State.dirtyCount (s : State) : Nat := (entryNumbers.filter (fun e => (s.entry e).dirty)).length
/-- FREE entries. -/
def State.freeCount (s : State) : Nat := (entryNumbers.filter (fun e => (s.entry e).st == .free)).length
/-- The cache is ENABLED (R338). -/
def State.cacheEnabled (s : State) : Bool := s.fld F.CCH_CTRL_STATE == 0

/-! ## Release (R336) -/

/-- A command's hold on its entries ends. A FILLING entry that no other command or lock holds is freed when `giveUp` is set (R336); a
TRANSIENT or verify entry of the command is freed (R320). -/
def State.releaseUses (s : State) (h : Nat) (giveUp : Bool) : State :=
  let uses := (s.cmd h).data.uses
  let s := s.forEach uses (fun s u =>
    let x := s.entry u.entry
    let x' := { x with readers := x.readers.filter (fun r => r != h), waiters := x.waiters.filter (fun r => r != h) }
    let s := s.setEntry u.entry x'
    if (x'.st = .transient ∧ x'.readers.isEmpty = true) ∨ (x'.cls = classVerify ∧ x'.st = .filling) then s.freeEntry u.entry
    else if giveUp = true ∧ x'.st = .filling ∧ x'.readers.isEmpty = true ∧ x'.locked = false ∧ x'.spec = false then
      s.freeEntry u.entry
    else s)
  let s := s.forEach entryNumbers (fun s e =>
    let x := s.entry e
    if x.chooser = h ∧ h ≠ 0 ∨ x.waiters.contains h = true then
      s.setEntry e { x with chooser := if x.chooser = h then 0 else x.chooser, waiters := x.waiters.filter (fun r => r != h) }
    else s)
  s.modCmd h (fun c => { c with data := { c.data with waiting := [] } })

end Sys2Proof.Machine
end

