-- ==== Sys2Proof/Machine/Ldpc.lean ====
section
/-!
DEFINITION. The sector's LDPC code (R49, R250): its syndrome, its staircase encoder, the scrambler (R50) and the frame (R48).
-/
namespace Sys2Proof.Machine

/-- The parameters of R250 for one format. -/
structure LdpcParams where
  z : Nat
  rb : Nat
  kb : Nat
  a : Nat
  b : Nat
  deriving DecidableEq, Repr

/-- Format Q8. -/
def ldpcQ8 : LdpcParams := ⟨32, 517, 1040, 173, 59⟩
/-- Format S4. -/
def ldpcS4 : LdpcParams := ⟨16, 785, 2080, 262, 61⟩

/-- Row block and shift of circulant `i` (0–2) of information column block `c` (R250). -/
def ldpcEntry (p : LdpcParams) (c i : Nat) : Nat × Nat :=
  let h := c / p.rb
  ((c + i * (p.a + p.b * h)) % p.rb, (c * (2 * i + 3) + 13 * h + 7 * i) % p.z)

/-- One circulant's term: bit `a` of the row block takes column (a + s) mod Z of the column block's bits `v`, a number
whose bit x is column x. -/
def circTerm (z s v : Nat) : Nat := ((v >>> s) ||| (v <<< (z - s))) % 2 ^ z

/-- Column block `c` of a codeword held as one number, bit b of it codeword bit b. -/
def colBlock (p : LdpcParams) (w c : Nat) : Nat := bitsOf w (p.z * c) p.z

/-- The row-block sums of the information part, as a table from row block to bits. -/
def infoSums (p : LdpcParams) (w : Nat) : Array Nat :=
  (List.range p.kb).foldl (fun acc c =>
    let v := colBlock p w c
    [0, 1, 2].foldl (fun acc i =>
      let e := ldpcEntry p c i
      acc.modify e.1 (fun x => x ^^^ circTerm p.z e.2 v)) acc) (Array.replicate p.rb 0)

/-- The parity blocks by the staircase, row block `r` and on: each is its row's information terms plus the block before. -/
def stairParity : List Nat → Nat → List Nat
  | [], _ => []
  | t :: ts, prev => (t ^^^ prev) :: stairParity ts (t ^^^ prev)

/-- The parity of the information bits held as one number: bit 0 of it is the first parity bit (R250, R278). -/
def ldpcParity (p : LdpcParams) (info : Nat) : Nat :=
  (stairParity (infoSums p info).toList 0).foldr (fun blk acc => blk + acc * 2 ^ p.z) 0

/-- The codeword of the information bits. -/
def ldpcEncode (p : LdpcParams) (info : Nat) : Nat :=
  info % 2 ^ (p.z * p.kb) + ldpcParity p (info % 2 ^ (p.z * p.kb)) * 2 ^ (p.z * p.kb)

/-- The syndrome is zero (R251): the parity bits are those that the information bits give. -/
def ldpcConverged (p : LdpcParams) (w : Nat) : Bool :=
  ldpcParity p (w % 2 ^ (p.z * p.kb)) == bitsOf w (p.z * p.kb) (p.z * p.rb)

/-- The scrambler's seed for a physical sector address (R50). -/
def scramblerSeed (psa : Nat) : Nat :=
  let s := (psa % 2 ^ 15) ^^^ 0x2A55
  if s = 0 then 1 else s

/-- `n` bits of the scrambler from a register value (R50). -/
def scramblerBits : (n st : Nat) → List Bool
  | 0, _ => []
  | n + 1, st =>
    let o := xor (st.testBit 14) (st.testBit 13)
    o :: scramblerBits n ((2 * st + b2n o) % 2 ^ 15)

/-- A field of a frame, its first recorded bit the most significant (R48). -/
def msbBits (n v : Nat) : List Bool := (List.range n).map (fun i => v.testBit (n - 1 - i))

/-- The frame of a Format Q8 codeword at an address: 50,176 channel bits, the first recorded first (R48, R50). -/
def frameBits (psa w : Nat) : List Bool :=
  let dat := (List.range 49824).zipWith (fun k s => xor (w.testBit k) s) (scramblerBits 49824 (scramblerSeed psa))
  (List.replicate 24 (msbBits 8 0xF0)).flatten ++ msbBits 48 0xFFF000E34B6D ++ dat.take 1024 ++
    msbBits 48 0x000FFF1CB492 ++ dat.drop 1024 ++ msbBits 64 0xF0F0F0F0F0F0F0F0

end Sys2Proof.Machine
end

