-- ==== Sys2Proof/Machine/Rs.lean ====
section
/-!
DEFINITION. The outer Reed–Solomon code over GF(2^8) (R53, R66): its parity and its erasure decoding (R258, R259).
-/
namespace Sys2Proof.Machine

/-- A byte times α = 0x02 in the field of x^8 + x^4 + x^3 + x^2 + 1 (R53). -/
def rsX (b : Nat) : Nat := if b < 128 then 2 * b else (2 * b) % 256 ^^^ 0x1D

/-- The product over the low `n` bits of `b`. -/
def rsMulAux : (n a b : Nat) → Nat
  | 0, _, _ => 0
  | n + 1, a, b => (if b % 2 = 1 then a else 0) ^^^ rsMulAux n (rsX a) (b / 2)

/-- The product of two bytes in the field of the outer code. -/
def rsMul (a b : Nat) : Nat := rsMulAux 8 a b

/-- `a` to the power `n` in the field of the outer code. -/
def rsPow (a : Nat) : Nat → Nat
  | 0 => 1
  | n + 1 => rsMul a (rsPow a n)

/-- α to the power `n`; α has order 255. -/
def rsAlpha (n : Nat) : Nat := rsPow 2 (n % 255)

/-- The inverse of a byte other than zero. -/
def rsInv (a : Nat) : Nat := rsPow a 254

/-- Exclusive or over a list. -/
def rsSum (xs : List Nat) : Nat := xs.foldl (fun a b => a ^^^ b) 0

/-- The locator of sector j in a block of `n` sectors: its byte is the coefficient of x^(n − 1 − j) (R53). -/
def rsLocator (n j : Nat) : Nat := rsAlpha (n - 1 - j)

/-- Syndrome number `r` of a column whose byte of sector j is the j-th of the list. -/
def rsSyndrome (col : List Nat) (r : Nat) : Nat :=
  rsSum (((List.range col.length).zip col).map (fun e => rsMul e.2 (rsPow (rsLocator col.length e.1) r)))

/-- A polynomial, low coefficient first, times (x − m). -/
def rsMulRoot (m : Nat) (p : List Nat) : List Nat :=
  List.zipWith (fun a b => a ^^^ b) (0 :: p) (p.map (rsMul m) ++ [0])

/-- The product of (x − m) over the locators `ms`. -/
def rsProduct (ms : List Nat) : List Nat := ms.foldl (fun p m => rsMulRoot m p) [1]

/-- A polynomial's value. -/
def rsEval (p : List Nat) (x : Nat) : Nat := p.foldr (fun c acc => c ^^^ rsMul x acc) 0

/-- The erased byte with locator `x`, the other erased locators `others`, from the first syndromes. -/
def rsErased (x : Nat) (others synd : List Nat) : Nat :=
  let p := rsProduct others
  rsMul (rsSum (List.zipWith rsMul p synd)) (rsInv (rsEval p x))

/-- The column with its erased bytes restored, and whether the syndromes not used for it are zero (R258, R259); `parity` is the
number of parity sectors, and `erased` holds at most that many sector numbers. -/
def rsDecode (parity : Nat) (erased : List Nat) (col : List Nat) : List Nat × Bool :=
  let n := col.length
  let z := ((List.range n).zip col).map (fun e => if erased.contains e.1 then 0 else e.2)
  let synd := (List.range parity).map (rsSyndrome z)
  let locs := erased.map (rsLocator n)
  let vals := erased.map (fun j => rsErased (rsLocator n j) (locs.filter (fun m => m != rsLocator n j)) synd)
  let out := ((List.range n).zip z).map (fun e =>
    match (erased.zip vals).find? (fun v => v.1 == e.1) with
    | some v => v.2
    | none => e.2)
  (out, (List.range parity).all (fun r => rsSyndrome out r == 0))

/-- The systematic codeword of `data`, with `parity` parity bytes after them (R53). -/
def rsEncode (parity : Nat) (data : List Nat) : List Nat :=
  (rsDecode parity ((List.range parity).map (fun i => data.length + i)) (data ++ List.replicate parity 0)).1

end Sys2Proof.Machine
end

