-- ==== Sys2Proof/Machine/Data.lean ====
section
/-!
DEFINITION. The data path between the cache, the engines and the host: gathering and committing blocks, pads, sealing and unsealing,
and the end of READ, WRITE, FLUSH, PRELOAD, VERIFY and CIPHER_JOB (R263, R274–R277, R322, R325, R328, R333, R343–R357, R394, R395).
-/
namespace Sys2Proof.Machine

/-! ## Where a command's sectors are -/

/-- LBA of sector `k` of a command. -/
def Cmd.lbaAt (c : Cmd) (k : Nat) : Nat := c.id.lba + k
/-- The number of sectors a command names: NSECT, or the data sectors of a PRELOAD's blocks. -/
def State.sectorsOf (s : State) (c : Cmd) : Nat :=
  if c.op = Op.preload then c.id.nblkPreload * (s.disc c.station).dataPerBlock else c.id.nsect
/-- The blocks that a command's range touches, in order. -/
def State.blocksOf (s : State) (c : Cmd) : List Nat :=
  let d := s.disc c.station
  let n := s.sectorsOf c
  if n = 0 then [] else (List.range (d.blockOf (c.id.lba + n - 1) + 1 - d.blockOf c.id.lba)).map (fun i => d.blockOf c.id.lba + i)
/-- The use a command makes of a block. -/
def Cmd.useOf (c : Cmd) (block : Nat) : Option BlockUse := c.data.uses.find? (fun u => u.block == block)
/-- Entry and data sector that serve sector `k` of a command. -/
def State.placeOf (s : State) (c : Cmd) (k : Nat) : Option (Nat × Nat) :=
  let d := s.disc c.station
  match c.useOf (d.blockOf (c.lbaAt k)) with
  | some u => some (u.entry, c.lbaAt k % d.dataPerBlock)
  | none => none

/-! ## Finishing with results (R395) -/

/-- A command ended: its entries let go, its result fixed. -/
def State.endCmd (s : State) (h : Nat) (giveUp : Bool) (r : CmdResult) : State := (s.releaseUses h giveUp).finish h r

/-! ## Key slots and engines (R343–R350) -/

def State.keySlot (s : State) (k : Nat) : KeySlot := Table.at {} s.cipher.slots k
def State.setKeySlot (s : State) (k : Nat) (x : KeySlot) : State :=
  { s with cipher := { s.cipher with slots := Table.put {} s.cipher.slots k x } }
/-- A slot's generation (R346). -/
def State.keyGen (s : State) (k : Nat) : Nat := s.pair (F.CIP_KEYSLOT_GEN_LO_GEN k) (F.CIP_KEYSLOT_GEN_HI_GEN k)
def State.engine (s : State) (e : Nat) : Option Engine := Table.at none s.cipher.engines e
def State.setEngine (s : State) (e : Nat) (x : Option Engine) : State :=
  { s with cipher := { s.cipher with engines := Table.put none s.cipher.engines e x } }

/-- Engine blocks of the work on one sector: 256 of counter mode and 258 of CMAC, or CMAC alone for a verify (R344, R351, R356). -/
def sectorBlocks (k : EngineKind) : Nat := if k = .verifySector ∨ k = .passSector then 258 else 514

/-- Work given to the engines, once. -/
def State.addWork (s : State) (w : EngineWork) : State :=
  if s.cipher.work.any (fun x => x.cmd == w.cmd && x.kind == w.kind && x.unit == w.unit) then s
  else { s with cipher := { s.cipher with work := s.cipher.work ++ [w] } }

/-- Work that an engine could take a block of now. -/
def EngineWork.ready (w : EngineWork) : Bool := decide (w.started < w.blocks)

/-- The engines that work on jobs. -/
def State.jobEngines (s : State) : Nat :=
  ((List.range 16).filter (fun e => match s.engine e with
    | some x => s.cipher.work.any (fun w => w.cmd == x.cmd && w.kind == .job)
    | none => false)).length

/-- The work whose block an idle engine takes next: JOB_MIN engines are held for jobs while jobs wait; else sector work first, the
oldest command and its lowest unit, and job work when no sector work waits (R344). -/
def State.nextWork (s : State) : Option EngineWork :=
  let ready := s.cipher.work.filter EngineWork.ready
  let jobs := ready.filter (fun w => w.kind == .job)
  let sectors := ready.filter (fun w => w.kind != .job)
  let held := decide (s.jobEngines < min 4 (s.fld F.CIP_CTRL_JOB_MIN))
  let first (ws : List EngineWork) := leastBy (fun w => (s.cmd w.cmd).order * 2 ^ 32 + w.unit) ws
  if jobs.isEmpty = false ∧ (held = true ∨ sectors.isEmpty = true) then first jobs else first sectors

def State.setWorkItem (s : State) (w : EngineWork) : State :=
  { s with cipher := { s.cipher with
      work := s.cipher.work.map (fun x => if x.cmd = w.cmd ∧ x.kind = w.kind ∧ x.unit = w.unit then w else x) } }

/-- A READ that stops at a key change: the sectors fully unsealed are written, and zeros for the others (R350). -/
def State.zeroRest (s : State) (c : Cmd) : State :=
  s.emitAll ((List.range c.id.nsect).flatMap (fun k =>
    if c.data.dmaDone.contains k then []
    else
      let data := if c.data.sealed.contains k then Table.at [] c.data.plain k else List.replicate 4096 0
      s.bufferWrites c.id.fn c.data.src (4096 * k) data false))

/-! ## Pads (R51, R275, R276) -/

/-- A pad sector in an entry: GATHERED zeros that belong to no function (R322, R331). -/
def padSector : CacheSector := { st := .gathered, user := List.replicate 4096 0, pad := true }

/-- Reads of the frontier W (R270). -/
def State.frontier (s : State) (st side layer : Nat) : Option Nat :=
  Table.at none s.recording.frontier (16 * st + 8 * side + layer)
def State.setFrontier (s : State) (st side layer : Nat) (w : Option Nat) : State :=
  { s with recording := { s.recording with
      frontier := Table.put none s.recording.frontier (16 * st + 8 * side + layer) w } }

def State.puRec (s : State) (n : Nat) : PickupRec := Table.at {} s.recording.pus n
def State.setPuRec (s : State) (n : Nat) (p : PickupRec) : State :=
  { s with recording := { s.recording with pus := Table.put {} s.recording.pus n p } }
def State.modPuRec (s : State) (n : Nat) (f : PickupRec → PickupRec) : State := s.setPuRec n (f (s.puRec n))

/-- The committed block with a tag. -/
def State.recBlock (s : State) (mslot block : Nat) : Option RecBlock :=
  s.recording.blocks.find? (fun r => r.mslot == mslot && r.block == block)
def State.setRecBlock (s : State) (r : RecBlock) : State :=
  { s with recording := { s.recording with
      blocks := s.recording.blocks.map (fun x => if x.mslot = r.mslot ∧ x.block = r.block then r else x) } }
def State.dropRecBlock (s : State) (mslot block : Nat) : State :=
  { s with recording := { s.recording with
      blocks := s.recording.blocks.filter (fun x => !(x.mslot == mslot && x.block == block)) } }

/-! ## Preparing a block (R53, R54, R277) -/

/-- Columns of the outer code: FLAGS, KEY_LABEL, SEAL_TAG and the user field (R53). -/
def outerColumns : List Nat := 9 :: ([12, 13, 14, 15] ++ ((List.range 16).map (fun i => 24 + i)) ++ (List.range 4096).map (fun i => 64 + i))

/-- The parity bytes of every column, by parity sector: 4,117 bytes each. -/
def outerParity (parity : Nat) (payloads : List (List Nat)) : List (List Nat) :=
  let cols := outerColumns.map (fun c => (rsEncode parity (payloads.map (fun p => p.getD c 0))).drop payloads.length)
  (List.range parity).map (fun i => cols.map (fun col => col.getD i 0))

/-- The payload of a parity sector from its column bytes (R54). -/
def parityPayload (psa role stamp : Nat) (cols : List Nat) : List Nat :=
  let user := cols.drop 21
  sectorMeta psa 0xFFFFFFFF role (cols.getD 0 0) (ofLeBytes ((cols.drop 1).take 4)) stamp ((cols.drop 5).take 16) user ++ user

/-- Payload of data sector `j` of a committed block (R277 step 2): pads, unsealed and sealed sectors. -/
def State.dataPayload (s : State) (r : RecBlock) (j : Nat) : List Nat :=
  let d := s.disc r.station
  let x := (s.entry r.entry).sector j
  let psa := d.sectorPsa r.side r.layer r.b j
  let lba := r.block * d.dataPerBlock + j
  if x.pad then
    sectorMeta psa lba j 1 0 r.stamp [] (List.replicate 4096 0) ++ List.replicate 4096 0
  else if x.sealBit then
    let t := Table.at [] r.tags j
    let user := t.take 4096
    sectorMeta psa lba j 2 (ofLeBytes ((t.drop 4112).take 4)) r.stamp ((t.drop 4096).take 16) user ++ user
  else
    let user := padTo 4096 x.user
    sectorMeta psa lba j 0 0 r.stamp [] user ++ user

/-- A committed block whose sectors are all sealed is prepared: metadata, parity and check sums of its 72 sectors (R277). -/
def State.prepareBlock (s : State) (r : RecBlock) : State :=
  let d := s.disc r.station
  let datas := (List.range 64).map (s.dataPayload r)
  let pars := ((List.range 8).zip (outerParity 8 datas)).map (fun e =>
    parityPayload (d.sectorPsa r.side r.layer r.b (64 + e.1)) (64 + e.1) r.stamp e.2)
  s.setRecBlock { r with secs := datas ++ pars, prepared := true }

/-- A block commits: its 64 data sectors are present, it is stamped with Chain Time, its sealed sectors go to the engines, and it is
prepared at once where none is sealed (R274, R277, R320). -/
def State.commitBlock (s : State) (e : Nat) : State :=
  let s := s.forEach (List.range 64) (fun s j => s.readSector e j (0x98 + (s.entry e).station))
  let x := s.entry e
  let d := s.disc x.station
  let p := d.blockPos x.block
  let sealing := (List.range 64).filter (fun j => (x.sector j).sealBit && !(x.sector j).pad)
  let owed := (List.range 64).any (fun j => (x.sector j).verify)
  let r : RecBlock :=
    { entry := e, station := x.station, pickup := 2 * x.station + p.side, mslot := x.mslot, side := p.side, layer := p.layer
      block := x.block, b := p.b, stamp := s.ct, sealing := sealing, verifyLeft := owed
      seals := sealing.map (fun j => (j, { cmd := (x.sector j).owner, slot := (x.sector j).keySlot, gen := (x.sector j).gen }))
      poisoned := (List.range 64).any (fun j => (x.sector j).poison) }
  let s := s.modEntry e (fun x => { x with st := .committed })
  let s := { s with recording := { s.recording with blocks := s.recording.blocks ++ [r] } }
  if sealing.isEmpty then s.prepareBlock r
  else s.forEach sealing (fun s j =>
    let y := x.sector j
    s.addWork { cmd := y.owner, kind := .sealSector, unit := x.block * 64 + j, entry := e, sector := j
                blocks := sectorBlocks .sealSector, slot := y.keySlot, gen := y.gen })

/-- A GATHERING entry commits once its 64 data sectors are present (R274). -/
def State.tryCommit (s : State) (e : Nat) : State :=
  let x := s.entry e
  if x.st = .gathering ∧ ((List.range 64).all (fun j => (x.sector j).st == .gathered)) = true then s.commitBlock e else s

/-- Sectors of a block made pads in its entry (R275, R276); the block may then commit. -/
def State.padSectors (s : State) (e : Nat) (js : List Nat) : State :=
  let s := s.forEach js (fun s j => s.storeSector e j padSector)
  s.tryCommit e

/-- Reserved LBAs that will not be delivered become pads (R276): in the block's entry, or once one is allocated for them. -/
def State.padLbas (s : State) (st mslot cls : Nat) (lbas : List Nat) : State :=
  let d := s.disc st
  let blocks := (lbas.map d.blockOf).eraseDups
  s.forEach blocks (fun s b =>
    let js := (lbas.filter (fun l => d.blockOf l == b)).map (fun l => l % d.dataPerBlock)
    match s.tagOf mslot b with
    | some e =>
      let s := s.when ((s.entry e).st == .valid || (s.entry e).st == .filling) (fun s =>
        (s.discardWork e).modEntry e (fun x => { x with st := .gathering }))
      s.padSectors e js
    | none =>
      { s with recording := { s.recording with padWait := s.recording.padWait ++ [⟨st, mslot, b, cls, js⟩] } })

/-- A partial block closed (R275): every LBA of it from the frontier W to its end becomes a pad, and W moves to its end. Answers the
pads added. -/
def State.closeBlock (s : State) (st mslot block : Nat) : State × Nat :=
  let d := s.disc st
  let p := d.blockPos block
  let lo := block * d.dataPerBlock
  let hi := lo + d.dataPerBlock
  match s.frontier st p.side p.layer with
  | some w =>
    if lo < w ∧ w < hi then
      let js := (List.range (hi - w)).map (fun i => w + i - lo)
      let s := s.setFrontier st p.side p.layer (some hi)
      match s.tagOf mslot block with
      | some e => (s.padSectors e js, hi - w)
      | none => ({ s with recording := { s.recording with
          padWait := s.recording.padWait ++ [⟨st, mslot, block, fnClass 1, js⟩] } }, hi - w)
    else (s, 0)
  | none => (s, 0)

/-! ## The ends of WRITE and FLUSH (R291, R337, R383, R395) -/

/-- A block of a disc is not yet settled: it gathers, waits, is being recorded, or awaits its verify pass. -/
def State.blockPending (s : State) (mslot block : Nat) : Bool :=
  s.recording.blocks.any (fun r => r.mslot == mslot && r.block == block) ||
    s.recording.padWait.any (fun w => w.mslot == mslot && w.block == block) ||
    (match s.tagOf mslot block with
     | some e => (s.entry e).dirty
     | none => false)

/-- The WRITE is handled as one with FUA: it carries FUA, its function writes through, or the cache is not ENABLED (R337, R339). It then
closes its last block when it ends (R275). -/
def State.actsFua (s : State) (c : Cmd) : Bool :=
  c.id.fua || !s.cacheEnabled ||
    (match c.id.fn with
     | 1 => s.flag F.CCH_FN_CFG_WT_PF1
     | 2 => s.flag F.CCH_FN_CFG_WT_PF2
     | 3 => s.flag F.CCH_FN_CFG_WT_PF3
     | _ => false)

/-- The WRITE completes only when its data is recorded, and verified where it asked (R293, R337). -/
def State.durable (s : State) (c : Cmd) : Bool := s.actsFua c || c.id.writeVerify

/-- The result of a WRITE that ran to its end (R291, R394, R395). -/
def State.writeResult (s : State) (c : Cmd) : CmdResult :=
  let d := s.disc c.station
  match leastBy id (c.data.badBlocks) with
  | none => { status := Status.success, done := c.data.gathered, detail := min 65535 c.data.pads }
  | some b =>
    { status := Status.writeFault, done := c.data.gathered, detail := min 65535 c.data.pads
      index := max c.id.lba (b * d.dataPerBlock) - c.id.lba }

/-- A WRITE ends when every sector is delivered and, where it must be durable, every block of it is settled. -/
def State.tryEndWrite (s : State) (h : Nat) : State :=
  let c := s.cmd h
  if c.op = Op.write ∧ c.phase = .admitted ∧ c.data.gathered = c.id.nsect ∧
      (s.durable c = false ∨ (s.blocksOf c).all (fun b => !s.blockPending c.id.mslot b) = true) then
    s.endCmd h false (s.writeResult c)
  else s

/-- A FLUSH ends when every block it waits for is settled (R383). -/
def State.tryEndFlush (s : State) (h : Nat) : State :=
  let c := s.cmd h
  let d := s.disc c.station
  if c.op = Op.flush ∧ c.phase = .admitted ∧ c.started = true ∧
      c.data.waiting.all (fun b => !s.blockPending c.id.mslot b) = true then
    match leastBy id c.data.badBlocks with
    | none => s.endCmd h false { status := Status.success, detail := min 65535 c.data.pads }
    | some b => s.endCmd h false { status := Status.writeFault, detail := min 65535 c.data.pads, index := b * d.dataPerBlock }
  else s

/-- The commands that a block concerns: WRITEs whose range names it and FLUSHes that wait for it. -/
def State.blockSettled (s : State) (mslot block : Nat) (failed : Bool) : State :=
  s.forEach s.allCmds (fun s e =>
    let h := e.1
    let c := s.cmd h
    let mine := decide (c.id.mslot = mslot) && c.live &&
      ((decide (c.op = Op.write) && decide (c.phase = .admitted) && (s.blocksOf c).contains block) ||
       (decide (c.op = Op.flush) && c.data.waiting.contains block))
    if mine then
      let s := s.when failed (fun s => s.modCmd h (fun c => { c with data := { c.data with
        badBlocks := if c.data.badBlocks.contains block then c.data.badBlocks else c.data.badBlocks ++ [block] } }))
      (s.tryEndWrite h).tryEndFlush h
    else s)

/-- A WRITE stopped before its end: the LBAs it has reserved and not delivered become pads, and its record is fixed (R276, R379, R381). -/
def State.stopWrite (s : State) (h status : Nat) : State :=
  let c := s.cmd h
  let rest := (List.range (c.id.nsect - c.data.gathered)).map (fun i => c.id.lba + c.data.gathered + i)
  let s := s.endCmd h false { status := status, done := c.data.gathered, detail := min 65535 (c.data.pads + rest.length) }
  s.padLbas c.station c.id.mslot (fnClass c.id.fn) rest

/-! ## Stopping a command that runs (R381, R383, R394 rule 2) -/

/-- A sector of a command is final: its own state, or EMPTY in a dirty entry, which counts as BLANK (R319, R331). -/
def State.finalAt (s : State) (c : Cmd) (k : Nat) : Bool :=
  match s.placeOf c k with
  | some (e, j) => let x := (s.entry e).sector j; x.st.final || (x.st == .empty && (s.entry e).dirty)
  | none => false

/-- The outcome with which a final sector of a command counts. -/
def State.outcomeAt (s : State) (c : Cmd) (k : Nat) : Nat :=
  match s.placeOf c k with
  | some (e, j) =>
    let x := (s.entry e).sector j
    if x.st = .empty then Outcome.blank else if x.poison then Outcome.unrecovered else x.outcome
  | none => Outcome.clean

/-- How much of a command is done, in the terms of R395. -/
def State.doneSoFar (s : State) (c : Cmd) : Nat :=
  let n := s.sectorsOf c
  if c.op = Op.write then c.data.gathered
  else if c.op = Op.read then c.data.dmaDone.length
  else if c.op = Op.cipherJob then c.data.plain.length
  else if c.op = Op.verify then ((List.range n).filter (s.finalAt c)).length
  else if c.op = Op.preload then
    ((s.blocksOf c).filter (fun b =>
      (List.range n).all (fun k => (s.disc c.station).blockOf (c.lbaAt k) != b || s.finalAt c k))).length
  else 0

/-- The blocks of a CIPHER_JOB that an engine has done and whose output is not yet written are written (R350, R357, R381). -/
def State.flushJob (s : State) (h : Nat) : State :=
  let c := s.cmd h
  let left := c.data.plain.filter (fun e => !c.data.dmaDone.contains e.1)
  let s := s.emitAll (left.flatMap (fun e => s.bufferWrites c.id.fn c.data.dst (16 * e.1) e.2 false))
  s.modCmd h (fun c => { c with data := { c.data with dmaDone := c.data.dmaDone ++ left.map (fun e => e.1) } })

/-- A command stopped with the status of its cause: a queued one is removed with nothing done; a WRITE leaves pads; another lets its
entries go at the sector boundary (R381, R383). -/
def State.stopCmd (s : State) (h status : Nat) : State :=
  let c := s.cmd h
  if c.live = false then s
  else if c.phase = .admitted ∧ c.op = Op.write then s.stopWrite h status
  else if c.phase = .admitted then
    let s := s.when (decide (c.op = Op.cipherJob)) (fun s => s.flushJob h)
    s.endCmd h true { status := status, done := s.doneSoFar c, detail := if c.op = Op.flush then min 65535 c.data.pads else 0 }
  else s.finish h { status := status }

/-- Committed blocks no longer wait for the seals of sectors that have become pads (R277 step 3). -/
def State.settleSeals (s : State) : State :=
  s.forEach s.recording.blocks (fun s r =>
    let left := r.sealing.filter (fun j => !((s.entry r.entry).sector j).pad)
    if left = r.sealing then s
    else
      let r' := { r with sealing := left }
      let s := s.setRecBlock r'
      let s := { s with cipher := { s.cipher with work := s.cipher.work.filter (fun w =>
        !(w.kind == .sealSector && w.entry == r.entry && !left.contains w.sector)) } }
      if left.isEmpty = true ∧ r.prepared = false then s.prepareBlock r' else s)

/-- A key changed before a block could be sealed whose WRITE has already completed: its sectors there that are not sealed become pads, and
KEY_CHANGED_STOP is posted (DEDUCED from R350 and R276; log entry 13). -/
def State.sealLost (s : State) (w : EngineWork) : State :=
  let x := s.entry w.entry
  let y := x.sector w.sector
  let s := s.post 0x0904 srcCipher ([w.slot, 0, 0, 0] ++ leBytes 4 0 ++ leBytes 2 y.cid)
  let s := s.forEach (List.range 64) (fun s j =>
    let z := (s.entry w.entry).sector j
    if z.owner = w.cmd ∧ z.sealBit = true ∧ z.pad = false ∧
        (s.recording.blocks.any (fun r => r.entry == w.entry && r.sealing.contains j)) = true
    then s.storeSector w.entry j padSector else s)
  s.settleSeals

/-! ## Key changed (R350) -/

/-- KEY_CHANGED: the command stops at its block boundary with its count of blocks done, and KEY_CHANGED_STOP is posted (R350, R361). -/
def State.keyChanged (s : State) (h : Nat) : State :=
  let c := s.cmd h
  if c.live = false then s
  else
    let n := if c.op = Op.write ∨ c.op = Op.read ∨ c.op = Op.verify then c.data.sealed.length else s.doneSoFar c
    let s := s.post 0x0904 srcCipher ([c.id.keySlot, 0, 0, 0] ++ leBytes 4 n ++ leBytes 2 c.id.cid)
    if c.op = Op.write then
      let d := s.disc c.station
      let later := (List.range c.id.nsect).filter (fun k => !c.data.sealed.contains (c.lbaAt k))
      let s := s.forEach later (fun s k =>
        match s.tagOf c.id.mslot (d.blockOf (c.lbaAt k)) with
        | some e =>
          if (s.entry e).st = .gathering ∨ (s.entry e).st = .committed then
            s.storeSector e (c.lbaAt k % d.dataPerBlock) padSector
          else s
        | none => s)
      let undelivered := (later.filter (fun k => decide (c.data.gathered ≤ k))).map c.lbaAt
      let s := s.endCmd h false
        { status := Status.keyChanged, done := c.data.sealed.length, detail := min 65535 (c.data.pads + later.length) }
      let s := s.padLbas c.station c.id.mslot (fnClass c.id.fn) undelivered
      (s.forEach entryNumbers State.tryCommit).settleSeals
    else
      let s := s.when (decide (c.op = Op.read)) (fun s => s.zeroRest c)
      let s := s.when (decide (c.op = Op.cipherJob)) (fun s => s.flushJob h)
      s.endCmd h true { status := Status.keyChanged, done := n }

/-- A key changed before the verify pass has checked a sector: its WRITE, where it still runs, ends KEY_CHANGED with the count of sectors
verified, the blocks stay as recorded, and its sectors that are left go unchecked (R350). -/
def State.passKeyChanged (s : State) (w : EngineWork) : State :=
  let c := s.cmd w.cmd
  let work := s.cipher.work.filter (fun x => !(x.kind == EngineKind.passSector && x.cmd == w.cmd))
  let blocks := s.recording.blocks.map (fun r =>
    { r with tagLeft := r.tagLeft.map (fun (js : List Nat) => js.filter (fun j => (Table.at {} r.seals j).cmd != w.cmd)) })
  let s := { s with cipher := { s.cipher with work := work }, recording := { s.recording with blocks := blocks } }
  if c.live = false then s
  else
    (s.post 0x0904 srcCipher ([w.slot, 0, 0, 0] ++ leBytes 4 c.data.verified ++ leBytes 2 c.id.cid)).endCmd w.cmd false
      { status := Status.keyChanged, done := c.data.verified, detail := min 65535 c.data.pads }

/-! ## Engine blocks -/

/-- The key a block of a sector's work uses: K1 for the first 256 of 514, K2 for the CMAC. -/
def EngineWork.keyFor (w : EngineWork) (k1 k2 : List Nat) (block : Nat) (jobK2 : Bool) : List Nat :=
  match w.kind with
  | .job => if jobK2 then k2 else k1
  | .verifySector | .passSector => k2
  | _ => if block < 256 then k1 else k2

/-- An idle engine starts the next block of `w`: the generation is compared, and on a mismatch the block is not started and the command
stops (R350). -/
def State.startBlock (s : State) (e : Nat) (w : EngineWork) : State :=
  if s.keyGen w.slot ≠ w.gen then
    if w.kind = .passSector then s.passKeyChanged w
    else if (s.cmd w.cmd).live = true then s.keyChanged w.cmd else s.sealLost w
  else
    let k := s.keySlot w.slot
    let w' := { w with started := w.started + 1, k1 := k.k1, k2 := k.k2, label := s.fld (F.CIP_KEYSLOT_LABEL_LABEL w.slot) }
    let s := s.setWorkItem w'
    s.setEngine e (some ⟨w.cmd, w.unit, w.started, w.slot,
      w.keyFor k.k1 k.k2 w.started (((s.cmd w.cmd).id.body.getD 0 0).testBit 1)⟩)

/-- Every idle engine takes a block while work waits (R344). -/
def State.refillEngines (s : State) : State :=
  s.forEach (List.range 16) (fun s e =>
    match s.engine e with
    | some _ => s
    | none =>
      match s.nextWork with
      | some w => s.startBlock e w
      | none => s)

/-! ## Serving sectors to READ, PRELOAD and VERIFY -/

/-- The checks of R353 on a CONFIRMED sector of a READ with SEAL, before any engine is used: the row that applies. -/
inductive SealRow where
  | pad | notSealed | keyChanged | badLabel | unseal
  deriving DecidableEq, Repr

/-- The row of R353 for metadata `m` against a slot's generation, the captured one, and its label. -/
def sealRow (m : List Nat) (gen captured label : Nat) : SealRow :=
  if (metaFlags m).testBit 0 then .pad
  else if (metaFlags m).testBit 1 = false then .notSealed
  else if gen ≠ captured then .keyChanged
  else if metaKeyLabel m ≠ label then .badLabel
  else .unseal

/-- The row of R353 for sector `x` of a command. -/
def State.sealRowOf (s : State) (c : Cmd) (x : CacheSector) : SealRow :=
  sealRow x.md (s.keyGen c.id.keySlot) c.gen (s.fld (F.CIP_KEYSLOT_LABEL_LABEL c.id.keySlot))

/-- Sector `k` of a READ or VERIFY with SEAL that is CONFIRMED and needs the engines is given to them (R327, R353). -/
def State.offerUnseal (s : State) (h k : Nat) : State :=
  let c := s.cmd h
  if c.id.seal = false ∨ c.phase ≠ .admitted then s
  else
    match s.placeOf c k with
    | none => s
    | some (e, j) =>
      let x := (s.entry e).sector j
      if x.st = .confirmed ∧ s.sealRowOf c x = .unseal ∧ ¬ c.data.sealed.contains k then
        let kind := if c.op = Op.verify then EngineKind.verifySector else EngineKind.unsealSector
        s.addWork { cmd := h, kind := kind, unit := k, entry := e, sector := j, blocks := sectorBlocks kind, slot := c.id.keySlot, gen := c.gen }
      else s

/-- What a READ's sector `k` delivers (R322, R333, R335, R353): nothing yet; or the bytes due, whether the seal check failed, and the
outcome it takes. -/
inductive Due where
  | wait
  | provisional (bytes : List Nat)
  | keyChanged
  | bytes (data : List Nat) (sealFailed : Bool) (outcome : Nat) (poison : Bool)
  deriving DecidableEq, Repr

def zeroSector : List Nat := List.replicate 4096 0

/-- R322: what a request gets from a GATHERED sector. -/
def gatheredDue (c : Cmd) (x : CacheSector) : Due :=
  if x.pad then .bytes zeroSector false Outcome.clean x.poison
  else if x.sealBit = true ∧ c.id.seal = true ∧ x.fn = c.id.fn ∧ x.keySlot = c.id.keySlot then
    .bytes x.user false Outcome.clean x.poison
  else if x.sealBit = false ∧ c.id.seal = false then .bytes x.user false Outcome.clean x.poison
  else .bytes zeroSector true Outcome.clean false

/-- What sector `k` of READ `h` delivers now. -/
def State.dueOf (s : State) (c : Cmd) (k : Nat) : Due :=
  match s.placeOf c k with
  | none => .wait
  | some (e, j) =>
    let x := (s.entry e).sector j
    match x.st with
    | .empty => if (s.entry e).dirty then .bytes zeroSector false Outcome.blank false else .wait
    | .provisional =>
      if c.id.earlyData then
        if c.id.seal ∧ (metaFlags x.md).testBit 1 then
          if s.keyGen c.id.keySlot ≠ c.gen then .keyChanged
          else .provisional (sealCtr (s.keySlot c.id.keySlot).k1 (s.disc c.station).discId (metaPsa x.md) x.user)
        else .provisional x.user
      else .wait
    | .confirmed =>
      if c.id.seal then
        match s.sealRowOf c x with
        | .pad => .bytes zeroSector false x.outcome x.poison
        | .notSealed => .bytes zeroSector true x.outcome x.poison
        | .keyChanged => .keyChanged
        | .badLabel => .bytes zeroSector true x.outcome x.poison
        | .unseal =>
          if c.data.sealed.contains k then .bytes (Table.at [] c.data.plain k) (c.data.failed.contains k) x.outcome x.poison
          else .wait
      else .bytes x.user false x.outcome x.poison
    | .gathered => gatheredDue c x
    | .blank => .bytes zeroSector false Outcome.blank false
    | .unrecovered => .bytes zeroSector false Outcome.unrecovered false

/-- The address of sector `k` of a command on its disc. -/
def State.psaAt (s : State) (c : Cmd) (k : Nat) : Nat :=
  let d := s.disc c.station
  let p := d.position (c.lbaAt k)
  d.sectorPsa p.side p.layer p.b p.j

/-- A command that read to its end: the sectors that failed their checks noted with the address of the first of them (R354), and its
status and index formed from its outcomes (R263, R394, R395). -/
def State.endRead (s : State) (h done : Nat) (outcomes failed : List Nat) : State :=
  let c := s.cmd h
  let r := readStatus outcomes failed
  let psa := match leastBy id failed with | some k => s.psaAt c k | none => 0
  let s := s.setCmd h { c with data := { c.data with failed := failed, failPsa := psa } }
  s.endCmd h false { status := r.1, done := done, index := r.2 }

/-- A READ whose every sector has had its final DMA ends with the status its outcomes give (R263, R328, R394, R395). The last block it
read is where read-ahead goes on from (R329). -/
def State.tryEndRead (s : State) (h : Nat) : State :=
  let c := s.cmd h
  if c.op = Op.read ∧ c.phase = .admitted ∧ c.started = true ∧ c.data.dmaDone.length = c.id.nsect then
    let os := (List.range c.id.nsect).map (fun k => Table.at 0 c.data.verdict k)
    let s := s.modStation c.station (fun x =>
      { x with lastBlock := some ((s.disc c.station).blockOf (c.id.lba + c.id.nsect - 1)) })
    s.endRead h c.id.nsect os c.data.failed
  else s

/-- A PRELOAD or VERIFY whose every sector is final, and for VERIFY with SEAL checked, ends (R325, R370). -/
def State.tryEndFill (s : State) (h : Nat) : State :=
  let c := s.cmd h
  let n := s.sectorsOf c
  if (c.op = Op.preload ∨ c.op = Op.verify) ∧ c.phase = .admitted ∧ c.started = true ∧
      ((List.range n).all (s.finalAt c)) = true then
    let row (k : Nat) : Option SealRow :=
      match s.placeOf c k with
      | some (e, j) =>
        let x := (s.entry e).sector j
        if c.op = Op.verify ∧ c.id.seal = true ∧ x.st = .confirmed then some (s.sealRowOf c x) else none
      | none => none
    if (List.range n).any (fun k => row k == some .keyChanged) then s.keyChanged h
    else if (List.range n).any (fun k => row k == some .unseal && !c.data.sealed.contains k) then s
    else
      let failed := (List.range n).filter (fun k =>
        c.data.failed.contains k || row k == some .notSealed || row k == some .badLabel)
      s.endRead h (s.doneSoFar c) ((List.range n).map (s.outcomeAt c)) failed
  else s

/-- The sector of an entry has become final or provisional: a FILLING entry whose data sectors are all final becomes VALID (R320), sealed
sectors go to the engines, and the commands that waited for it may end. -/
def State.sectorReady (s : State) (e : Nat) : State :=
  let x := s.entry e
  let n := (s.disc x.station).dataPerBlock
  let s := s.when (x.st == .filling && x.cls != classVerify && x.finals n == n) (fun s =>
    s.modEntry e (fun x => { x with st := .valid }))
  let s := s.forEach x.readers (fun s h =>
    let c := s.cmd h
    let ks := (List.range (s.sectorsOf c)).filter (fun k =>
      (match s.placeOf c k with | some p => p.1 == e | none => false))
    let s := s.forEach ks (fun s k => s.offerUnseal h k)
    s.tryEndFill h)
  s.refillEngines

/-! ## Finishing the work on a unit -/

/-- The seal tag of a sector's metadata and ciphertext under K2 equals its SEAL_TAG (R353). -/
def tagMatches (discId : Nat) (k2 m cipher : List Nat) : Bool :=
  sealTag k2 (sealHdr discId (metaStamp m) (metaPsa m) (metaLba m) (metaKeyLabel m) (metaRole m) (metaFlags m)) cipher == metaTag m

/-- All blocks of a unit have left the engines: its result takes effect. -/
def State.workDone (s : State) (w : EngineWork) : State :=
  let s := { s with cipher := { s.cipher with
    work := s.cipher.work.filter (fun x => !(x.cmd == w.cmd && x.kind == w.kind && x.unit == w.unit)) } }
  let x := (s.entry w.entry).sector w.sector
  let d := s.disc (s.entry w.entry).station
  match w.kind with
  | .job => s
  | .unsealSector =>
    let ok := tagMatches d.discId w.k2 x.md x.user
    let s := s.modCmd w.cmd (fun c => { c with data := { c.data with
      sealed := c.data.sealed ++ [w.unit]
      plain := Table.put [] c.data.plain w.unit (sealCtr w.k1 d.discId (metaPsa x.md) x.user)
      failed := if ok then c.data.failed else c.data.failed ++ [w.unit] } })
    s
  | .verifySector =>
    let ok := tagMatches d.discId w.k2 x.md x.user
    let s := s.modCmd w.cmd (fun c => { c with data := { c.data with
      sealed := c.data.sealed ++ [w.unit]
      failed := if ok then c.data.failed else c.data.failed ++ [w.unit] } })
    s.tryEndFill w.cmd
  | .passSector =>
    match s.recording.blocks.find? (fun r => r.verEntry == some w.entry) with
    | none => s
    | some r =>
      let ok := tagMatches d.discId w.k2 x.md x.user
      let s := s.setRecBlock { r with tagLeft := r.tagLeft.map (fun js => js.filter (fun j => j != w.sector))
                                      tagBad := if ok then r.tagBad else r.tagBad ++ [w.sector] }
      s.modCmd w.cmd (fun c => { c with data := { c.data with verified := c.data.verified + 1 } })
  | .sealSector =>
    match s.recording.blocks.find? (fun r => r.entry == w.entry && r.sealing.contains w.sector) with
    | none => s
    | some r =>
      let psa := d.sectorPsa r.side r.layer r.b w.sector
      let lba := r.block * d.dataPerBlock + w.sector
      let ct := sealCtr w.k1 d.discId psa (padTo 4096 x.user)
      let tag := sealTag w.k2 (sealHdr d.discId r.stamp psa lba w.label w.sector 2) ct
      let r' := { r with sealing := r.sealing.filter (fun j => j != w.sector)
                         tags := Table.put [] r.tags w.sector (ct ++ tag ++ leBytes 4 w.label) }
      let s := s.setRecBlock r'
      let s := s.modCmd w.cmd (fun c => { c with data := { c.data with sealed := c.data.sealed ++ [w.unit] } })
      if r'.sealing.isEmpty then s.prepareBlock r' else s

end Sys2Proof.Machine
end

