-- ==== Sys2Proof/Machine/Outcome.lean ====
section
/-!
DEFINITION. How the sectors of a block reach their final states (R253, R256, R260–R264): images taken and released, outcomes reported, the
end of the work on a block.
-/
namespace Sys2Proof.Machine

/-- The beam channel that reads sector `j` of a work's block: the beam of its spiral on the pickup of its side (R42, R262). -/
def State.secLane (s : State) (w : BlockWork) (j : Nat) : Nat :=
  4 * (2 * w.station + w.side) + ((s.disc w.station).sectorIndex w.b j).1

/-- The address of sector `j` of a work's block. -/
def State.secPsa (s : State) (w : BlockWork) (j : Nat) : Nat := (s.disc w.station).sectorPsa w.side w.layer w.b j

/-- The disc LBA of data sector `j` of a work's block. -/
def State.secLba (s : State) (w : BlockWork) (j : Nat) : Nat :=
  let d := s.disc w.station
  d.logicalBlock w.side w.layer w.b * d.dataPerBlock + j

/-- How many sectors of a block of `n` are in a state. -/
def BlockWork.countIn (w : BlockWork) (n : Nat) (p : SecState → Bool) : Nat :=
  ((List.range n).filter (fun j => p (w.sec j).st)).length

/-- A state that holds up the decisions on the block (R258, R261). -/
def SecState.open : SecState → Bool
  | .expected | .decoding | .blankFrame => true
  | _ => false

def SecState.final : SecState → Bool
  | .confirmed | .blank | .unrecovered => true
  | _ => false

/-- A change of one sector's work. -/
def State.modSec (s : State) (e j : Nat) (f : SecWork → SecWork) : State := s.modWork e (fun w => w.setSec j (f (w.sec j)))

/-! ## Images (R255, R256) -/

/-- Pinned slots that images hold: those taken for sync doubts or the others, or those of one station. -/
def State.slotsHeld (s : State) (p : BlockWork → SecWork → Bool) : Nat :=
  s.decoder.works.foldl (fun a w =>
    a + (s.disc w.2.station).imageSlots * (w.2.secs.filter (fun x => x.2.image && p w.2 x.2)).length) 0

/-- A slot limit as it acts: above 128 as 128. -/
def slotLimit (v : Nat) : Nat := min v 128

/-- The capture of a frame armed, once: its slots taken within the limits, or refused (R255, R256). A capture armed past its limit is
refused and sets no flag (R236). -/
def State.armCapture (s : State) (e j : Nat) (sync inTime : Bool) : State :=
  let w := s.work e
  let x := w.sec j
  if x.image ∨ x.captureTried then s
  else
    let n := (s.disc w.station).imageSlots
    let free := s.fld F.RCH_IMG_CFG_FREE
    let fits := decide (n ≤ free) &&
      decide (s.slotsHeld (fun v _ => v.station == w.station) + n ≤ slotLimit (s.fld F.RCH_IMG_CFG_STATION_MAX)) &&
      (sync || decide (s.slotsHeld (fun _ y => !y.imageSync) + n ≤ 128 - slotLimit (s.fld F.RCH_IMG_CFG_RESERVE)))
    if inTime = false then s.modSec e j (fun x => { x with captureTried := true, refused := x.refused + 1 })
    else if fits then
      (s.put F.RCH_IMG_CFG_FREE (free - n)).modSec e j (fun x => { x with captureTried := true, image := true, imageSync := sync })
    else s.modSec e j (fun x => { x with captureTried := true, refused := x.refused + 1, imageShort := true })

/-- A sector's image released (R256). -/
def State.releaseImage (s : State) (e j : Nat) : State :=
  let w := s.work e
  if (w.sec j).image then
    (s.put F.RCH_IMG_CFG_FREE (s.fld F.RCH_IMG_CFG_FREE + (s.disc w.station).imageSlots)).modSec e j (fun x =>
      { x with image := false, imageDone := false, rows := [] })
  else s

/-- A sector's hypotheses and rounds cancelled, its image released (R249, R258). -/
def State.cancelSector (s : State) (e j : Nat) : State :=
  let s := (s.releaseImage e j).modSec e j (fun x => { x with hyps := [], rounding := false, passes := 0 })
  { s with decoder := { s.decoder with
      waitRound := s.decoder.waitRound.filter (fun r => !(r.1 == e && r.2 == j))
      reeq := s.decoder.reeq.filter (fun r => !(r.1 == e && r.2 == j)) } }

/-! ## Final outcomes (R253, R262, R264) -/

/-- What a sector's final outcome reports. -/
def State.secReport (s : State) (w : BlockWork) (j outcome : Nat) : SectorReport :=
  let x := w.sec j
  { lane := s.secLane w j, outcome := outcome, psa := s.secPsa w j, doubts := x.doubts, conflicts := x.conflicts, missed := x.missed
    refused := x.refused, imageShort := x.imageShort, quality := x.quality }

/-- A sector reaches a final state: a data sector is placed in its entry and reported; a parity sector takes no outcome. -/
def State.finalSector (s : State) (e j : Nat) (st : SecState) (outcome : Nat) (payload : List Nat) : State :=
  let s := s.cancelSector e j
  let w := s.work e
  let s := s.modSec e j (fun x => { x with st := st, outcome := outcome, payload := payload })
  if j < (s.disc w.station).dataPerBlock then
    let y : CacheSector :=
      match st with
      | .confirmed => { st := .confirmed, md := payload.take 64, user := payloadUser payload, outcome := outcome }
      | .blank => { st := .blank, outcome := outcome }
      | _ => { st := .unrecovered, outcome := outcome }
    let s := if y.st = .confirmed then s.storeSector e j y else s.modEntry e (fun x => x.setSector j y)
    s.report e (s.secReport w j outcome)
  else s

/-- A sector confirmed; in a re-read pass its outcome is REREAD (R253). -/
def State.confirmSector (s : State) (e j outcome : Nat) (payload : List Nat) : State :=
  s.finalSector e j .confirmed (if (s.work e).rereading then Outcome.reread else outcome) payload

/-- The block needs a re-read (R261): too many sectors are not confirmed, or its outer decode failed, and none is on its way. -/
def State.needsReread (s : State) (e : Nat) : Bool :=
  let w := s.work e
  let d := s.disc w.station
  let n := d.perBlock
  w.active && !w.outerBusy && w.countIn n (fun st => st.open || st == .pinned) == 0 &&
    (w.outerFailed || decide (d.parityPerBlock < n - w.countIn n (· == .confirmed)))

/-- All data sectors of a block are final. -/
def State.workFinal (s : State) (e : Nat) : Bool :=
  let w := s.work e
  w.active && (List.range (s.disc w.station).dataPerBlock).all (fun j => (w.sec j).st.final)

/-- The lowest EYE and highest MSE of the frames of a verify pass kept for its block's quality record (R294). -/
def State.noteVerified (s : State) (e : Nat) : State :=
  let qs := ((s.work e).secs.map (fun x => x.2.quality)).flatten
  match s.recording.blocks.find? (fun r => r.verEntry == some e) with
  | none => s
  | some r =>
    match qs with
    | [] => s
    | q :: _ => s.setRecBlock { r with eyeMin := qs.foldl (fun a x => min a x.eye) q.eye, mseMax := qs.foldl (fun a x => max a x.mse) q.mse }

/-- The end of a step on a block: sectors whose re-reads are spent end BLANK or UNRECOVERED; work on a block with all its data sectors final
stops, its parity sectors counting nothing; the cache takes up what is final (R253, R261). -/
def State.settleBlock (s : State) (e : Nat) : State :=
  let w := s.work e
  let spent := decide (s.fld F.RCH_DEC_CFG_REREAD_MAX ≤ w.rereads) && !w.noRetry
  let s := s.when (!s.workFinal e && s.needsReread e && spent) (fun s =>
    s.forEach (List.range (s.disc w.station).dataPerBlock) (fun s j =>
      let x := (s.work e).sec j
      if x.st = .erased then
        if x.allBlank then s.finalSector e j .blank Outcome.blank [] else s.finalSector e j .unrecovered Outcome.unrecovered []
      else s))
  let s := if s.workFinal e then (s.noteVerified e).discardWork e else s
  s.sectorReady e

/-- The block found not blank: its blank frames are erasures (R253, R260). -/
def State.blockNotBlank (s : State) (e : Nat) : State :=
  s.modWork e (fun w => { w with
    blank := some false
    secs := w.secs.map (fun x => if x.2.st = .blankFrame then (x.1, { x.2 with st := SecState.erased }) else x) })

/-- Blank frames that make a block blank (R260, R267). -/
def DiscInfo.blankLimit (d : DiscInfo) : Nat := d.dataPerBlock + 1

end Sys2Proof.Machine
end

