-- ==== Sys2Proof/Machine/Chain.lean ====
section
/-!
DEFINITION. Packets of the tree: their bytes, routing, sending, and the answers that a controller below the root sends up
(R436, R438, R440–R445).
-/
namespace Sys2Proof.Machine

/-! Packet types (R438). -/
namespace Pkt
abbrev cmd : Nat := 0x01
abbrev xferRdy : Nat := 0x02
abbrev data : Nat := 0x03
abbrev rsp : Nat := 0x04
abbrev evt : Nat := 0x05
abbrev time : Nat := 0x06
abbrev mgmt : Nat := 0x07
abbrev reset : Nat := 0x08
end Pkt

/-! MGMT opcodes (R439). -/
namespace Mgmt
abbrev enumAssign : Nat := 0x0001
abbrev enumReport : Nat := 0x0002
abbrev heartbeat : Nat := 0x0003
abbrev regRead : Nat := 0x0004
abbrev regWrite : Nat := 0x0005
abbrev regData : Nat := 0x0006
abbrev barrier : Nat := 0x0007
abbrev barrierAck : Nat := 0x0008
abbrev snapArm : Nat := 0x0009
abbrev summitSet : Nat := 0x000A
abbrev discard : Nat := 0x000B
abbrev grantHold : Nat := 0x000C
end Mgmt

/-- The device ID that is never assigned, which a BROADCAST names (R438, R444). -/
def broadcastId : Nat := 0xFFFFFF

/-- The bytes of a packet: header, payload and CRC-32C over both, low byte first (R438). -/
def packetBytes (p : Packet) : List Nat :=
  let b := [p.type % 256, p.flags % 256] ++ leBytes 3 p.dest ++ leBytes 3 p.src ++ leBytes 2 p.tag ++
    leBytes 2 p.payload.length ++ leBytes 4 p.offset ++ p.payload
  b ++ leBytes 4 (crc32c b)

/-- The packet that bytes spell, where their length and CRC are right and the TYPE is one of R438. -/
def parsePacket (bs : List Nat) : Option Packet :=
  let n := leField bs 10 2
  if bs.length ≠ 20 + n ∨ n % 4 ≠ 0 ∨ 4096 < n then none
  else if leField bs (16 + n) 4 ≠ crc32c (bs.take (16 + n)) then none
  else if bs.getD 0 0 = 0 ∨ 8 < bs.getD 0 0 then none
  else some
    { type := bs.getD 0 0, flags := bs.getD 1 0, dest := leField bs 2 3, src := leField bs 5 3, tag := leField bs 8 2
      offset := leField bs 12 4, payload := (bs.drop 16).take n }

def State.port (s : State) (q : Nat) : Port := Table.at {} s.mbl.ports q
def State.setPort (s : State) (q : Nat) (p : Port) : State :=
  { s with mbl := { s.mbl with ports := Table.put {} s.mbl.ports q p } }
def State.modPort (s : State) (q : Nat) (f : Port → Port) : State := s.setPort q (f (s.port q))

/-- A port carries packets: up and not fenced (R445, R455). -/
def State.portOpen (s : State) (q : Nat) : Bool := s.flag (F.MBL_PORT_STATUS_UP q) && !s.flag (F.MBL_PORT_STATUS_FENCED q)

/-- A packet sent on a port in a link frame, kept for replay; its payload bytes counted (R436, R459). While the port retrains the frame
stays in the replay buffer and leaves once the port is up again. -/
def State.sendOn (s : State) (q : Nat) (p : Packet) : State :=
  let x := s.port q
  let b := packetBytes p
  let s := s.setPort q { x with txSeq := (x.txSeq + 1) % 4096, replay := x.replay ++ [(x.txSeq, b)] }
  let s := s.count (F.MBL_PORT_TX_LO_COUNT q) (F.MBL_PORT_TX_HI_COUNT q) p.payload.length
  if x.phase = .up then s.emit (.frame q x.txSeq b) else s

/-- The downstream port whose range holds an ID (R445). -/
def State.portFor (s : State) (id : Nat) : Option Nat :=
  [1, 2, 3, 4].find? (fun q =>
    decide (s.fld (F.MBL_PORT_RANGE_LO_LO q) ≤ id) && decide (id ≤ s.fld (F.MBL_PORT_RANGE_HI_HI q)) &&
      decide (0 < s.fld (F.MBL_PORT_RANGE_HI_HI q)))

/-- The ID is this controller's own; ID zero is so at the root alone (R444). -/
def State.ownId (s : State) (id : Nat) : Bool := id == s.deviceId && (s.root || s.deviceId != 0)

/-- The port number under which this controller holds a packet that it has sent to itself. -/
abbrev ownPort : Nat := 5

/-- A packet taken by this controller, to be handled by the command of its kind. -/
def State.takeIn (s : State) (q : Nat) (p : Packet) (copies : List Nat) : State :=
  { s with mbl := { s.mbl with inbox := s.mbl.inbox ++ [⟨q, s.ct, p, copies⟩] } }

/-- A packet routed by R445 from this controller: down the port of its range, which discards it while down or fenced; else up. -/
def State.route (s : State) (p : Packet) : State :=
  if s.ownId p.dest then s.takeIn ownPort p []
  else
    match s.portFor p.dest with
    | some q => if s.portOpen q then s.sendOn q p else s
    | none => if s.root then s else if s.flag (F.MBL_PORT_STATUS_UP 0) then s.sendOn 0 p else s

/-- The downstream ports that are up and not fenced. -/
def State.openPorts (s : State) : List Nat := [1, 2, 3, 4].filter s.portOpen

/-- A packet copied to every downstream port that is up (R445). -/
def State.broadcast (s : State) (p : Packet) : State := s.forEach s.openPorts (fun s q => s.sendOn q p)

/-- A MGMT packet. -/
def mgmtPacket (s : State) (dest op tag : Nat) (body : List Nat) : Packet :=
  { type := Pkt.mgmt, flags := if dest = broadcastId then 4 else 0, dest := dest, src := s.deviceId, tag := tag, offset := 0
    payload := padTo ((body.length + 7) / 4 * 4) (leBytes 2 op ++ [0, 0] ++ body) }

/-- The MGMT opcode of a packet. -/
def mgmtOp (p : Packet) : Nat := leField p.payload 0 2

/-- An event of this controller sent up in an EVT packet, its PHASE zero (R397, R400). -/
def State.sendEventUp (s : State) (e : EventRec) : State :=
  s.route { type := Pkt.evt, flags := 0, dest := 0, src := s.deviceId, tag := 0, offset := 0
            payload := leBytes 3 e.device ++ [e.source] ++ leBytes 2 e.code ++ leBytes 2 e.seq ++
              leBytes 8 (e.time % 2 ^ 63) ++ padTo 16 e.payload }

/-- The 16 bytes of a completion record (R391). -/
def completionBytes (c : Cmd) (ring sqHead : Nat) (phase : Bool) : List Nat :=
  let tail :=
    if c.res.wide.isEmpty then leBytes 4 c.res.done ++ leBytes 4 c.res.index else padTo 8 c.res.wide
  leBytes 2 c.id.cid ++ [c.res.status % 256, ring % 32 + 128 * b2n phase] ++ leBytes 2 sqHead ++ leBytes 2 c.res.detail ++ tail

/-- The RSP of a command that came down the tree (R438, R441). -/
def State.sendResponse (s : State) (c : Cmd) : State :=
  match c.origin with
  | .ring => s
  | .chain _ tag =>
    s.route { type := Pkt.rsp, flags := 0, dest := 0, src := s.deviceId, tag := tag, offset := 0
              payload := completionBytes c 0 0 false }

/-- The first record that waits of a command that came down the tree. -/
def State.chainRecord (s : State) : Option Nat :=
  s.rings.records.find? (fun h => match (s.cmd h).origin with
    | .chain _ _ => true
    | .ring => false)

end Sys2Proof.Machine
end

