-- ==== Sys2Proof/Machine/Events.lean ====
section
/-!
DEFINITION. Completion and event records, the event queue with its staging, interrupts and the clearing of counters
(R391–R407).
-/
namespace Sys2Proof.Machine

/-! ## Ring geometry (R363, R390, R407) -/

/-- Entries of a ring by its SIZE_LOG2: 4–16, other values act as 4. -/
def ringSize (log2 : Nat) : Nat := if 4 ≤ log2 ∧ log2 ≤ 16 then 2 ^ log2 else 16

/-- The index of ring `i` of function `f` among all rings. -/
def ringIx (f i : Nat) : Nat := 32 * f + i

/-- The function has a ring of this number: PF0 four, each data function 32 (R363). -/
def ringExists (f i : Nat) : Bool := decide (i < if f = 0 then 4 else 32)

def State.sqSize (s : State) (f i : Nat) : Nat := ringSize (s.fld (F.RING_SQ_CFG_SIZE_LOG2 f i))
def State.cqSize (s : State) (f i : Nat) : Nat := ringSize (s.fld (F.RING_CQ_CFG_SIZE_LOG2 f i))
def State.evtSize (s : State) : Nat := ringSize (s.fld F.EVT_Q_CFG_SIZE_LOG2)
def State.sqTail (s : State) (f i : Nat) : Nat := Table.at 0 s.rings.sqTail (ringIx f i)
def State.cqHead (s : State) (f i : Nat) : Nat := Table.at 0 s.rings.cqHead (ringIx f i)
def State.cqPass (s : State) (f i : Nat) : Nat := Table.at 0 s.rings.cqPass (ringIx f i)
def State.setSqTail (s : State) (f i v : Nat) : State :=
  { s with rings := { s.rings with sqTail := Table.put 0 s.rings.sqTail (ringIx f i) v } }
def State.setCqHead (s : State) (f i v : Nat) : State :=
  { s with rings := { s.rings with cqHead := Table.put 0 s.rings.cqHead (ringIx f i) v } }
def State.setCqPass (s : State) (f i v : Nat) : State :=
  { s with rings := { s.rings with cqPass := Table.put 0 s.rings.cqPass (ringIx f i) v } }

/-- The distance from index `a` forward to index `b` in a ring of `n`. -/
def ringDist (n a b : Nat) : Nat := (b + n - a % n) % n

/-- Entries written and not yet consumed. -/
def State.cqUsed (s : State) (f i : Nat) : Nat :=
  ringDist (s.cqSize f i) (s.cqHead f i) (s.fld (F.RING_CQ_STATUS_TAIL f i))
/-- The completion ring holds N − 1 records (R366). -/
def State.cqFull (s : State) (f i : Nat) : Bool := decide (s.cqSize f i ≤ s.cqUsed f i + 1)
def State.evtUsed (s : State) : Nat := ringDist s.evtSize s.events.head (s.fld F.EVT_Q_STATUS_TAIL)
def State.evtFull (s : State) : Bool := decide (s.evtSize ≤ s.evtUsed + 1)
def State.evtFree (s : State) : Nat := s.evtSize - 1 - s.evtUsed

/-! ## Event records (R392, R393, R397, R401) -/

/-- The 32 bytes of an event record under a PHASE. -/
def eventBytes (e : EventRec) (phase : Bool) : List Nat :=
  leBytes 3 e.device ++ [e.source] ++ leBytes 2 e.code ++ leBytes 2 e.seq ++
    leBytes 8 (e.time % 2 ^ 63 + b2n phase * 2 ^ 63) ++ padTo 16 e.payload

/-- An event record written at the tail of the event queue, which advances, and its vector signalled (R392, R404). -/
def State.writeEvent (s : State) (e : EventRec) : State :=
  let tail := s.fld F.EVT_Q_STATUS_TAIL
  let base := s.fld F.EVT_Q_BASE_LO_BASE * 4096 + s.fld F.EVT_Q_BASE_HI_BASE * 2 ^ 32
  let s := s.emit (.memWrite 0 (base + 32 * tail) (eventBytes e (s.events.pass % 2 == 0)) false false)
  let next := (tail + 1) % s.evtSize
  let s := s.put F.EVT_Q_STATUS_TAIL next
  let s := { s with events := { s.events with pass := if next = 0 then s.events.pass + 1 else s.events.pass } }
  s.signal 0 (s.fld F.EVT_Q_CFG_VECTOR) true

/-- The event queue takes a record now: enabled, not full, and PF0 able to write. -/
def State.evtOpen (s : State) : Bool := s.flag F.EVT_Q_CFG_ENABLE && !s.evtFull && s.fnLive 0 && !s.mcDown

/-- Staged records written in their order while entries are free, those staged after a loss not before EVENTS_LOST (R401); `fuel`
bounds how many. -/
def State.drainStaging : (fuel : Nat) → State → State
  | 0, s => s
  | fuel + 1, s =>
    match s.events.staging with
    | [] => s
    | e :: rest =>
      if s.evtOpen = true ∧ (s.events.lostNow = 0 ∨ 0 < s.events.beforeLoss) then
        let s := s.writeEvent e
        State.drainStaging fuel
          { s with events := { s.events with staging := rest, beforeLoss := s.events.beforeLoss - 1 } }
      else s

/-- An event kept in the staging of 256 records, or lost and counted when it is full (R401). -/
def State.stageEvent (s : State) (e : EventRec) : State :=
  if s.events.staging.length < 256 then
    { s with events := { s.events with staging := s.events.staging ++ [e] } }
  else
    let before := if s.events.lostNow = 0 then s.events.staging.length else s.events.beforeLoss
    let s := { s with events := { s.events with beforeLoss := before, lostNow := s.events.lostNow + 1 } }
    s.incSat F.EVT_Q_LOST_LOST 1

/-- EVENT_RECORD: the oldest posted event goes to the event queue, to the staging, or is lost; a controller below the root sends
it up in an EVT packet (R400, R401). -/
def execEventRecord (s : State) : Res :=
  match s.events.posted with
  | [] => .next s
  | e :: rest =>
    let s := { s with events := { s.events with posted := rest } }
    if s.root = false then .next (s.sendEventUp e)
    else if s.evtOpen = true ∧ s.events.staging.isEmpty = true then .next (s.writeEvent e)
    else .next (s.stageEvent e)

/-- EVENTS_LOST: every record staged before the first loss is written and 16 entries are free, so the loss count is posted, ahead
of the records staged after it (R401, R403). -/
def execEventsLost (s : State) : Res :=
  if 0 < s.events.lostNow ∧ s.events.beforeLoss = 0 ∧ 16 ≤ s.evtFree ∧ s.evtOpen = true then
    let n := s.events.lostNow
    let waiting := s.events.posted
    let s := { s with events := { s.events with posted := [], lostNow := 0 } }
    let s := s.post 0x0F02 srcSystem (leBytes 4 (min n 0xFFFFFFFF))
    let s := s.forEach s.events.posted State.writeEvent
    let s := { s with events := { s.events with posted := waiting } }
    .next (State.drainStaging s.events.staging.length s)
  else .next s

/-- EVT_Q_HEAD_DOORBELL: the host has consumed entries; the head is stored unless it would pass the tail or the queue is disabled,
and staged records are written into the entries freed (R364, R401, R407). -/
def execEvtQHeadDoorbell (shape : WriteShape) (value : Word) (s : State) : Res :=
  let s := s.wakeLink
  let v := value.toNat % 65536
  if shape.poisoned then .next (s.poisonedWrite 0 0xF104)
  else if shape.bytes ≠ 4 ∨ shape.aligned = false then .next (s.incSat F.RING_DB_DISCARD_COUNT 1)
  else if s.fw.booted = false ∨ s.fld (F.HIF_FUNC_STATUS_D_STATE 0) ≠ 0 then .next (s.logAer 0 aerUnsupported)
  else if s.fnLive 0 = false then .next s
  else if s.flag F.EVT_Q_CFG_ENABLE = false ∨ s.evtSize ≤ v ∨ s.evtUsed < ringDist s.evtSize s.events.head v then
    .next (s.put F.EVT_Q_STATUS_ERR 1)
  else
    let s := { s with events := { s.events with head := v } }
    .next (State.drainStaging s.events.staging.length s)

/-- EVT_Q_CFG_WRITE: configuration applies while ENABLE is clear; setting ENABLE zeroes head and tail and starts the first pass
(R392, R407). -/
def execEvtQCfgWrite (value : Word) (s : State) : Res :=
  let v := value.toNat
  if s.fnLive 0 = false then .next s
  else if s.flag F.EVT_Q_CFG_ENABLE then
    .next (s.setFlag F.EVT_Q_CFG_ENABLE (v.testBit 31))
  else
    let s := (s.put F.EVT_Q_CFG_SIZE_LOG2 (bitsOf v 0 5)).put F.EVT_Q_CFG_VECTOR (bitsOf v 16 6)
    if v.testBit 31 then
      let s := (s.put F.EVT_Q_CFG_ENABLE 1).put F.EVT_Q_STATUS_TAIL 0
      let s := { s with events := { s.events with head := 0, pass := 0 } }
      .next (State.drainStaging s.events.staging.length s)
    else .next s

/-! ## Interrupts (R404) -/

/-- MSIX_UNMASK: a vector's Mask bit is cleared; where its pending bit is set it sends one message. -/
def execMsixUnmask (f : Fin 4) (vector : Fin 64) (s : State) : Res :=
  let k := 4 * vector.val + 3
  let w := s.msixWord f k
  let s := { s with pcie := { s.pcie with msix := Table.set msixDefault s.pcie.msix (256 * f.val + k) (w - w % 2) } }
  if s.pendingBit f vector = true ∧ s.masked f vector = false then
    .next ((s.setPendingBit f vector false).sendMessage f vector)
  else .next s

/-- VECTOR_MOD_TIMEOUT: EVT_VECm_MOD.TIME has passed since the first counted record, so the vector sends its message. -/
def execVectorModTimeout (f : Fin 4) (vector : Fin 64) (s : State) : Res :=
  if (s.vec f vector).timing = true ∧ s.fnLive f = true then .next (s.sendMessage f vector) else .next s

/-! ## Counters (R405) -/

/-- CLEAR_ALL: every statistics counter is zero at one instant, and may saturate anew. -/
def execClearAll (s : State) : Res :=
  .next { s with
    regs := s.regs.filter (fun e => !counterFields.contains (e.1 % 1024))
    events := { s.events with saturated := [] } }

/-! ## Completion records (R366, R391–R396) -/

/-- What moves when a command completes: cache and cipher counts and SEAL_CHECK_FAIL (R324, R342, R354, R357, R361). -/
def State.completionCounts (s : State) (c : Cmd) : State :=
  let n (p : BlockUse → Bool) := (c.data.uses.filter p).length
  let s := s.count F.CCH_HIT_LO_COUNT F.CCH_HIT_HI_COUNT (n (fun u => u.hit))
  let s := s.count F.CCH_MISS_LO_COUNT F.CCH_MISS_HI_COUNT (n (fun u => !u.hit))
  let s := s.count F.CCH_RESCUE_LO_COUNT F.CCH_RESCUE_HI_COUNT (n (fun u => u.rescued))
  let s := s.count F.CCH_RA_CLAIMED_LO_COUNT F.CCH_RA_CLAIMED_HI_COUNT (n (fun u => u.claimed))
  let s := s.when (decide (c.op = Op.cipherJob)) (fun s =>
    s.count F.CIP_JOB_BLOCKS_LO_COUNT F.CIP_JOB_BLOCKS_HI_COUNT c.data.dmaDone.length)
  if c.data.failed.isEmpty then s
  else
    let s := s.count F.CIP_AUTH_FAIL_LO_COUNT F.CIP_AUTH_FAIL_HI_COUNT c.data.failed.length
    s.post 0x0903 srcCipher ([c.id.keySlot, 0, 0, 0] ++ leBytes 4 c.data.failPsa ++ leBytes 2 (min 65535 c.data.failed.length))

/-- The ABORTs that waited for a target's record now complete themselves (R380, R382). -/
def State.releaseAborts (s : State) (h : Nat) : State :=
  s.forEach s.allCmds (fun s e =>
    if e.2.op = Op.abort ∧ e.2.phase = .started ∧ e.2.target = some h then
      s.finish e.1 { e.2.res with status := Status.success }
    else s)

/-- The completion ring that a command's ring names (R390). -/
def State.cqOf (s : State) (c : Cmd) : Nat := s.fld (F.RING_SQ_CFG_CQ c.id.fn c.id.ring)

/-- The first record that waits for completion ring `i` of function `f` (R396). -/
def State.nextRecord (s : State) (f i : Nat) : Option Nat :=
  s.rings.records.find? (fun h =>
    let c := s.cmd h
    c.origin == .ring && c.id.fn == f && s.cqOf c == i)

/-- COMPLETION_RECORD: the oldest record that waits for the ring is written in one TLP when there is room, its vector signalled, and
its tag and lock released (R366, R373, R377, R391–R396). In a controller below the root the record goes up in an RSP packet. -/
def execCompletionRecord (f : Fin 4) (ring : Fin 32) (s : State) : Res :=
  match s.chainRecord with
  | some h =>
    let c := s.cmd h
    .next ((((s.completionCounts c).sendResponse c).dropCmd h).releaseAborts h)
  | none =>
    match s.nextRecord f ring with
    | none => .next s
    | some h =>
      if s.flag (F.RING_CQ_CFG_ENABLE f ring) = true ∧ s.cqFull f ring = false ∧ s.fnLive f = true then
        let c := s.cmd h
        let tail := s.fld (F.RING_CQ_STATUS_TAIL f ring)
        let base := s.fld (F.RING_CQ_BASE_LO_BASE f ring) * 4096 + s.fld (F.RING_CQ_BASE_HI_BASE f ring) * 2 ^ 32
        let phase := s.cqPass f ring % 2 == 0
        let s := s.completionCounts c
        let s := s.emit (.memWrite f (base + 16 * tail)
          (completionBytes c c.id.ring (s.fld (F.RING_SQ_STATUS_HEAD c.id.fn c.id.ring)) phase) false false)
        let next := (tail + 1) % s.cqSize f ring
        let s := s.put (F.RING_CQ_STATUS_TAIL f ring) next
        let s := s.when (next == 0) (fun s => s.setCqPass f ring (s.cqPass f ring + 1))
        let s := s.signal f (s.fld (F.RING_CQ_CFG_VECTOR f ring)) (decide (0x10 ≤ c.res.status))
        .next ((s.dropCmd h).releaseAborts h)
      else .next s

end Sys2Proof.Machine
end

