-- ==== Sys2Proof/Machine/Rings.lean ====
section
/-!
DEFINITION. Submission and completion rings, acceptance, dispatch and admission (R363–R377, R385–R390).
-/
namespace Sys2Proof.Machine

/-! ## Ring errors and doorbells (R364–R366, R389) -/

/-- A submission ring's error: ERR, its code, and RING_ERROR once per set (R365, R367, R389). -/
def State.sqError (s : State) (f i code : Nat) : State :=
  (s.put (F.RING_SQ_STATUS_ERR_CODE f i) code).raise (F.RING_SQ_STATUS_ERR f i) 0x0A40 (srcHost f) [f, i, code, 0]

/-- A completion ring's error (R366, R389, R390). -/
def State.cqError (s : State) (f i code : Nat) : State :=
  (s.put (F.RING_CQ_STATUS_ERR_CODE f i) code).raise (F.RING_CQ_STATUS_ERR f i) 0x0A40 (srcHost f) [f, i, code, 1]

/-- Why a doorbell write of function `f` has no effect on its ring, where it has none: poisoned (R428), of a wrong size or alignment
(R364), or to a function that does not take writes or a ring it does not have (R551, R560). -/
def State.doorbellBlocked (s : State) (f i off : Nat) (shape : WriteShape) : Option State :=
  if shape.poisoned then some (s.poisonedWrite f off)
  else if shape.bytes ≠ 4 ∨ shape.aligned = false then some (s.incSat F.RING_DB_DISCARD_COUNT 1)
  else if s.fw.booted = false ∨ s.fld (F.HIF_FUNC_STATUS_D_STATE f) ≠ 0 then some (s.logAer f aerUnsupported)
  else if ringExists f i = false ∨ s.flag (F.HIF_FUNC_STATUS_READY f) = false ∨ s.flag (F.HIF_FUNC_STATUS_FLR_BUSY f) = true then some s
  else none

/-- SQ_TAIL_DOORBELL: the tail is stored; a tail outside the free part stops the ring with ERR_CODE 1, a write to a disabled ring is
ignored with ERR_CODE 4, and one to a stopped ring is ignored (R365). -/
def execSqTailDoorbell (f : Fin 4) (ring : Fin 32) (shape : WriteShape) (value : Word) (s : State) : Res :=
  let s := s.wakeLink
  match s.doorbellBlocked f ring (0xF000 + 8 * ring.val) shape with
  | some t => .next t
  | none =>
    let v := value.toNat % 65536
    let n := s.sqSize f ring
    let head := s.fld (F.RING_SQ_STATUS_HEAD f ring)
    if s.flag (F.RING_SQ_CFG_ENABLE f ring) = false then .next (s.sqError f ring 4)
    else if s.flag (F.RING_SQ_STATUS_STOPPED f ring) then .next s
    else if n ≤ v ∨ ringDist n head v < ringDist n head (s.sqTail f ring) then
      .next ((s.put (F.RING_SQ_STATUS_STOPPED f ring) 1).sqError f ring 1)
    else .next (s.setSqTail f ring v)

/-- CQ_HEAD_DOORBELL: the entries up to the head are released; a head past the tail is ignored with ERR_CODE 1, and one to a
disabled ring with ERR_CODE 4 (R366). -/
def execCqHeadDoorbell (f : Fin 4) (ring : Fin 32) (shape : WriteShape) (value : Word) (s : State) : Res :=
  let s := s.wakeLink
  match s.doorbellBlocked f ring (0xF004 + 8 * ring.val) shape with
  | some t => .next t
  | none =>
    let v := value.toNat % 65536
    let n := s.cqSize f ring
    if s.flag (F.RING_CQ_CFG_ENABLE f ring) = false then .next (s.cqError f ring 4)
    else if n ≤ v ∨ s.cqUsed f ring < ringDist n (s.cqHead f ring) v then .next (s.cqError f ring 1)
    else .next (s.setCqHead f ring v)

/-! ## Ring configuration (R390, R422) -/

/-- Configuration writes of a function reach its rings: it is ready, not in an FLR, in D0, and has the ring. -/
def State.ringWritable (s : State) (f i : Nat) : Bool :=
  ringExists f i && s.flag (F.HIF_FUNC_STATUS_READY f) && !s.flag (F.HIF_FUNC_STATUS_FLR_BUSY f) &&
    s.fld (F.HIF_FUNC_STATUS_D_STATE f) == 0

/-- A function's rings may be enabled: not while it is WEDGED, nor on a data function in recovery (R422, R527). -/
def State.mayEnable (s : State) (f : Nat) : Bool :=
  !s.flag (F.HIF_FUNC_STATUS_WEDGED f) && !(s.fw.recovery && f != 0)

/-- SQ_CFG_WRITE: configuration applies while ENABLE is clear; setting ENABLE zeroes head and tail and lets a stopped ring fetch again
(R365, R390). -/
def execSqCfgWrite (f : Fin 4) (ring : Fin 32) (value : Word) (s : State) : Res :=
  let v := value.toNat
  if s.ringWritable f ring = false then .next s
  else if s.flag (F.RING_SQ_CFG_ENABLE f ring) then .next (s.setFlag (F.RING_SQ_CFG_ENABLE f ring) (v.testBit 31))
  else
    let s := s.put (F.RING_SQ_CFG_SIZE_LOG2 f ring) (bitsOf v 0 5)
    let s := s.put (F.RING_SQ_CFG_CQ f ring) (bitsOf v 8 5)
    let s := s.put (F.RING_SQ_CFG_PRIO f ring) (bitsOf v 16 2)
    let s := s.put (F.RING_SQ_CFG_FORMAT f ring) (bitsOf v 20 1)
    if v.testBit 31 = true ∧ s.mayEnable f = true then
      let s := s.put (F.RING_SQ_CFG_ENABLE f ring) 1
      let s := (s.put (F.RING_SQ_STATUS_HEAD f ring) 0).put (F.RING_SQ_STATUS_STOPPED f ring) 0
      .next (s.setSqTail f ring 0)
    else .next s

/-- An enabled submission ring of the function names the completion ring. -/
def State.cqNamed (s : State) (f i : Nat) : Bool :=
  (List.range 32).any (fun r =>
    ringExists f r && s.flag (F.RING_SQ_CFG_ENABLE f r) && s.fld (F.RING_SQ_CFG_CQ f r) == i)

/-- CQ_CFG_WRITE: as for a submission ring; ENABLE cannot be cleared while an enabled submission ring names the ring, which sets ERR with
ERR_CODE 3 (R366, R390). -/
def execCqCfgWrite (f : Fin 4) (ring : Fin 32) (value : Word) (s : State) : Res :=
  let v := value.toNat
  if s.ringWritable f ring = false then .next s
  else if s.flag (F.RING_CQ_CFG_ENABLE f ring) then
    if v.testBit 31 then .next s
    else if s.cqNamed f ring then .next (s.cqError f ring 3)
    else .next (s.put (F.RING_CQ_CFG_ENABLE f ring) 0)
  else
    let s := s.put (F.RING_CQ_CFG_SIZE_LOG2 f ring) (bitsOf v 0 5)
    let s := s.put (F.RING_CQ_CFG_VECTOR f ring) (bitsOf v 16 6)
    if v.testBit 31 = true ∧ s.mayEnable f = true then
      let s := s.put (F.RING_CQ_CFG_ENABLE f ring) 1
      let s := s.put (F.RING_CQ_STATUS_TAIL f ring) 0
      .next ((s.setCqHead f ring 0).setCqPass f ring 0)
    else .next s

/-! ## Fetching (R367, R423) -/

/-- The ring holds descriptors that it may fetch. -/
def State.fetchable (s : State) (f i : Nat) : Bool :=
  ringExists f i && s.fnLive f && s.flag (F.RING_SQ_CFG_ENABLE f i) && !s.flag (F.RING_SQ_STATUS_STOPPED f i) &&
    s.fld (F.RING_SQ_STATUS_HEAD f i) != s.sqTail f i && !s.mcDown

/-- Fetches that a ring has left in this round. -/
def State.credit (s : State) (f i : Nat) : Nat := Table.at 0 s.rings.credit (ringIx f i)

/-- Every ring, as (function, ring). -/
def allRings : List (Nat × Nat) := (List.range 4).flatMap (fun f => (List.range 32).map (fun i => (f, i)))

/-- A new round of the weighted round robin: each ring gets 2^PRIO fetches once no ring that waits has any left (R367). -/
def State.refillCredits (s : State) : State :=
  if allRings.any (fun r => s.fetchable r.1 r.2 && decide (0 < s.credit r.1 r.2)) then s
  else
    let grant (t : Table Nat) (r : Nat × Nat) : Table Nat :=
      if s.fetchable r.1 r.2 then Table.put 0 t (ringIx r.1 r.2) (2 ^ s.fld (F.RING_SQ_CFG_PRIO r.1 r.2)) else t
    { s with rings := { s.rings with credit := allRings.foldl grant s.rings.credit } }

/-- The ring carries Format L commands (R385). -/
def State.formatL (s : State) (f i : Nat) : Bool := f == 1 && s.flag (F.RING_SQ_CFG_FORMAT f i)

/-- DESCRIPTOR_FETCH: the next descriptor of a ring whose turn it may be is read, and HEAD advances (R367, R385). The order of the rings
within a round is left open by the manual, so the ring is an operand. -/
def execDescriptorFetch (f : Fin 4) (ring : Fin 32) (s : State) : Res :=
  let s' := s.refillCredits
  if s'.fetchable f ring = true ∧ 0 < s'.credit f ring ∧ (s'.freeTags f).isEmpty = false then
    let h := s'.rings.nextHandle
    let head := s'.fld (F.RING_SQ_STATUS_HEAD f ring)
    let len := if s'.formatL f ring then 32 else 64
    let base := s'.fld (F.RING_SQ_BASE_LO_BASE f ring) * 4096 + s'.fld (F.RING_SQ_BASE_HI_BASE f ring) * 2 ^ 32
    let s' := { s' with rings := { s'.rings with
      nextHandle := h + 1
      credit := Table.put 0 s'.rings.credit (ringIx f ring) (s'.credit f ring - 1) } }
    let s' := s'.setCmd h { id := { fn := f, ring := ring, formatL := len == 32 } }
    let s' := s'.put (F.RING_SQ_STATUS_HEAD f ring) ((head + 1) % s'.sqSize f ring)
    .next (s'.issueRead f .descriptor h 0 (base + len * head) len)
  else .next s

/-- A descriptor fetch that fails stops the ring with ERR_CODE 2; the descriptor is not executed and receives no completion (R367). -/
def State.fetchFailed (s : State) (h : Nat) : State :=
  let c := s.cmd h
  let s := s.dropCmd h
  (s.put (F.RING_SQ_STATUS_STOPPED c.id.fn c.id.ring) 1).sqError c.id.fn c.id.ring 2

/-! ## Acceptance (R368–R372) -/

/-- The functions on which a native opcode is accepted (R370). -/
def opOnFunction (op f : Nat) : Bool :=
  if op = Op.read ∨ op = Op.write ∨ op = Op.verify ∨ op = Op.flush ∨ op = Op.preload then decide (1 ≤ f)
  else if op = Op.abort ∨ op = Op.cipherJob ∨ op = Op.identify ∨ op = Op.attest then true
  else if op = Op.load ∨ op = Op.unload ∨ op = Op.move ∨ op = Op.calibrate ∨ op = Op.getLog ∨ op = Op.fwDownload ∨
      op = Op.fwActivate ∨ op = Op.snapshot then f == 0
  else false

/-- The Format L opcodes (R387). -/
def isFormatL (op : Nat) : Bool :=
  op == Op.lWrite || op == Op.lRead || op == Op.lFlush || op == Op.lLoad || op == Op.lUnload || op == Op.lSegment

/-- Check 1: opcode known, permitted on the function, and of the ring's format (R368, R385, R527). -/
def State.opcodeOk (s : State) (i : CmdId) : Bool :=
  (if i.formatL then isFormatL i.op else opOnFunction i.op i.fn) &&
    (!s.fw.recovery || (i.fn == 0 && i.ring == 0 && (i.op == Op.identify || i.op == Op.attest || i.op == Op.fwDownload)))

/-- The flag bits that an opcode permits (R370). -/
def flagsAllowed (op : Nat) : Nat :=
  if op = Op.read then 9 else if op = Op.write then 14 else if op = Op.verify then 8 else 0

/-- The bits of each command-field byte that an opcode uses, by offset from byte 32 (R370). -/
def bodyMask (op o : Nat) : Nat :=
  let full (lo hi : Nat) : Nat := if lo ≤ o ∧ o < hi then 0xFF else 0
  if op = Op.read ∨ op = Op.write ∨ op = Op.verify then full 0 4
  else if op = Op.preload then if o = 2 then 7 else full 0 4
  else if op = Op.abort then full 0 3
  else if op = Op.cipherJob then if o = 0 then 3 else if 4 ≤ o ∧ o < 8 ∨ 16 ≤ o then 0xFF else 0
  else if op = Op.load ∨ op = Op.unload then full 0 1
  else if op = Op.move then if o < 2 ∨ 8 ≤ o ∧ o < 24 then 0xFF else 0
  else if op = Op.calibrate then if o = 1 then 3 else full 0 4
  else if op = Op.identify then full 0 2
  else if op = Op.getLog then if o < 2 ∨ 4 ≤ o ∧ o < 12 then 0xFF else 0
  else if op = Op.attest then 0xFF
  else if op = Op.fwDownload then if o < 1 ∨ 4 ≤ o ∧ o < 16 then 0xFF else 0
  else if op = Op.fwActivate then if o = 0 then 0x0F else if o = 1 ∨ 8 ≤ o ∧ o < 16 then 0xFF else 0
  else if op = Op.snapshot then if 8 ≤ o ∧ o < 16 then 0xFF else 0
  else 0

/-- The opcode uses the magazine slot, and the LBA, of ADDRESS (R370). -/
def usesSlot (op : Nat) : Bool :=
  op == Op.read || op == Op.write || op == Op.verify || op == Op.flush || op == Op.preload || op == Op.load
def usesLba (op : Nat) : Bool := op == Op.read || op == Op.write || op == Op.verify || op == Op.preload

/-- The opcode uses DPTR: it has a data length, or may have one (SNAPSHOT and CALIBRATE take a buffer for their result). -/
def usesDptr (op : Nat) : Bool :=
  op == Op.read || op == Op.write || op == Op.cipherJob || op == Op.identify || op == Op.getLog || op == Op.attest ||
    op == Op.fwDownload || op == Op.snapshot || op == Op.calibrate

/-- The ranges of an opcode's own fields (R370). -/
def fieldsInRange (i : CmdId) : Bool :=
  let b (o : Nat) := i.body.getD o 0
  let op := i.op
  if op = Op.read ∨ op = Op.write ∨ op = Op.verify then decide (1 ≤ i.nsect) && decide (i.nsect ≤ 65536)
  else if op = Op.preload then decide (1 ≤ i.nblkPreload) && decide (i.nblkPreload ≤ 48) && decide (b 3 ≤ 3)
  else if op = Op.abort then decide (b 2 ≤ 31)
  else if op = Op.cipherJob then decide (1 ≤ i.nblkJob) && decide (i.nblkJob ≤ 1048576)
  else if op = Op.load ∨ op = Op.unload then decide (b 0 ≤ 7)
  else if op = Op.move then
    decide (b 0 ≤ 3) && decide (b 1 ≤ if b 0 = 1 then 2 else 11) && (b 0 == 0 || b 0 == 1 || (i.body.drop 8).all (fun x => x == 0))
  else if op = Op.calibrate then
    decide (b 0 ≤ 7) && b 1 != 0 && decide (1 ≤ b 2) && decide (b 2 ≤ 4) && decide (b 3 ≤ 7)
  else if op = Op.identify then decide (b 0 ≤ 1) && decide (b 1 ≤ 7)
  else if op = Op.getLog then leField i.body 8 4 % 4 == 0
  else if op = Op.fwDownload then decide (b 0 ≤ 1)
  else if op = Op.fwActivate then decide (b 1 ≤ 1)
  else true

/-- Check 2 on a native descriptor: reserved bytes and unused fields zero, flags permitted, fields in range (R368, R369). -/
def nativeFieldsOk (i : CmdId) : Bool :=
  let op := i.op
  (i.raw.drop 13).take 3 == [0, 0, 0] && (i.flags &&& (255 - flagsAllowed op)) == 0 &&
  (if i.seal = true ∨ op = Op.cipherJob then decide (i.keySlot ≤ 63) else i.keySlot == 0) &&
  (usesSlot op || i.mslot == 0) && (usesLba op || i.lba == 0) &&
  (i.raw.drop 28).take 3 == [0, 0, 0] && (usesDptr op || (i.raw.drop 16).take 16 == List.replicate 16 0) &&
  (List.range 32).all (fun o => (i.body.getD o 0 &&& (255 - bodyMask op o)) == 0) && fieldsInRange i

/-- Check 2 on a Format L descriptor (R386). -/
def formatLFieldsOk (i : CmdId) : Bool :=
  let r := i.raw
  let slot := leField r 4 2
  let rw := i.op == Op.lRead || i.op == Op.lWrite
  let seg := i.op == Op.lSegment
  decide (r.getD 1 0 ≤ if i.op = Op.lWrite then 1 else 0) && leField r 6 2 == 0 && leField r 14 2 == 0 &&
  (if seg then decide (slot ≤ 2) && decide (1 ≤ leField r 12 2) && decide (leField r 12 2 ≤ 4)
   else if i.op = Op.lLoad ∨ i.op = Op.lUnload then decide (slot ≤ 7) else decide (slot ≤ 4095)) &&
  (if rw then decide (leField r 8 4 < 2 ^ 28) else seg || leField r 8 4 == 0) &&
  (rw || seg || leField r 12 2 == 0) && (rw || seg || (r.drop 16).take 8 == List.replicate 8 0) &&
  (if i.op = Op.lLoad then decide (leField r 24 2 ≤ 4095) && leField r 26 4 == 0 && leField r 30 2 == 0
   else seg || (r.drop 24).take 8 == List.replicate 8 0)

/-- The opcode may name a controller other than the one that owns the ring (R370). -/
def forwardable (op : Nat) : Bool :=
  op == Op.read || op == Op.write || op == Op.verify || op == Op.flush || op == Op.preload || op == Op.load || op == Op.unload ||
    op == Op.move || op == Op.calibrate || op == Op.identify || op == Op.getLog || op == Op.attest || op == Op.fwDownload

/-- The PEER bit of a PRELOAD. -/
def CmdId.peer (i : CmdId) : Bool := (i.body.getD 2 0).testBit 2

/-- The controller a command may name (R370, R426): its own, or another where the opcode is forwarded and no peer window is meant. -/
def State.deviceOk (s : State) (i : CmdId) : Bool :=
  i.device == s.deviceId || (forwardable i.op && !(i.op == Op.preload && i.peer))

/-- Check 4: the DEVICE_ID lies within a range that enumeration has assigned (R368, R444). -/
def State.deviceKnown (s : State) (id : Nat) : Bool := id == s.deviceId || (s.portFor id).isSome

/-- Check 5: the subtree that holds the DEVICE_ID is present (R368, R455). -/
def State.subtreePresent (s : State) (id : Nat) : Bool :=
  id == s.deviceId ||
    (match s.portFor id with
     | some q => s.portOpen q
     | none => false)

/-- The key slot counts as loaded and its FN_MASK admits the function (R347). -/
def State.keySlotOk (s : State) (slot fn : Nat) : Bool :=
  s.flag (F.CIP_KEYSLOT_INFO_LOADED slot) && (s.fld (F.CIP_KEYSLOT_INFO_FN_MASK slot)).testBit fn

/-- Check 6 for a command that names a slot. -/
def State.keyCheck (s : State) (i : CmdId) : Bool :=
  !(i.seal || nativeOp i.op == Op.cipherJob) || s.keySlotOk i.keySlot i.fn

/-- Check 3: another outstanding command of the same ring holds the CID. -/
def State.cidHeld (s : State) (h : Nat) (i : CmdId) : Bool :=
  s.allCmds.any (fun e =>
    e.1 != h && e.2.origin == .ring && e.2.phase != .fetching && e.2.id.fn == i.fn && e.2.id.ring == i.ring && e.2.id.cid == i.cid &&
      decide (e.1 < h))

/-- Checks 1 to 6 of R368: the status of the first that fails. For a command of another controller the key slot is checked there
(R440). -/
def State.earlyChecks (s : State) (h : Nat) (i : CmdId) : Option Nat :=
  if s.opcodeOk i = false then some Status.invalidCommand
  else if (if i.formatL then formatLFieldsOk i else nativeFieldsOk i) = false ∨ s.deviceOk i = false then some Status.invalidField
  else if s.cidHeld h i then some Status.invalidField
  else if s.deviceKnown i.device = false then some Status.invalidField
  else if s.subtreePresent i.device = false then some Status.childAbsent
  else if i.device = s.deviceId ∧ s.keyCheck i = false then some Status.invalidField
  else none

/-- The station that a command needs: the one it names, or the one its slot is bound to. -/
def State.stationNeeded (s : State) (i : CmdId) : Option Nat :=
  let op := nativeOp i.op
  if op = Op.load ∨ op = Op.unload ∨ op = Op.calibrate then some (i.stationField % 8)
  else if usesSlot op then s.boundTo i.mslot
  else none

/-- A command on a disc other than LOAD (check 8). -/
def onDisc (op : Nat) : Bool :=
  op == Op.read || op == Op.write || op == Op.verify || op == Op.flush || op == Op.preload

/-- Checks 8 and 9 of R368: the slot is bound, the station present. -/
def State.lateChecks (s : State) (i : CmdId) : Option Nat :=
  let op := nativeOp i.op
  if onDisc op = true ∧ (s.boundTo i.mslot).isNone then some Status.mediaAbsent
  else
    match s.stationNeeded i with
    | some st => if s.stationPresent st then none else some Status.stationAbsent
    | none => none

/-- An element is well formed (R372). -/
def Elem.ok (e : Elem) : Bool :=
  decide (1 ≤ e.len) && decide (e.kind ≤ 2) &&
    (e.kind != 1 || (e.addr % 16 == 0 && e.len % 16 == 0 && decide (16 ≤ e.len) && decide (e.len ≤ 65536)))

/-- The element that 16 bytes spell; kind 3 where its reserved bytes are not zero. -/
def elemOf (bs : List Nat) : Elem :=
  ⟨leField bs 0 8, leField bs 8 4, if (bs.drop 12).take 3 == [0, 0, 0] then bs.getD 15 0 else 3⟩

/-- The elements of a list segment. -/
def segmentElems (bs : List Nat) : List Elem := (chunks 16 (bs.length / 16) bs).map elemOf

/-- A command's whole list is as R372 asks: every element well formed, a LIST only where a segment ends (so none is left among the
data), SKIP only in a READ, at most 65,536 elements, and the lengths add up. -/
def listOk (op length : Nat) (es : List Elem) : Bool :=
  es.all (fun e => e.ok && e.kind != 1 && (e.kind != 2 || op == Op.read)) && decide (es.length ≤ 65536) &&
    es.foldl (fun a e => a + e.len) 0 == length

/-- The destination element of a CIPHER_JOB. -/
def CmdId.dstElem (i : CmdId) : Elem := elemOf (i.body.drop 16)

/-- The reads of a segment of `len` bytes at `addr`, none above `mrrs` or across a 4-KiB boundary. -/
def readChunks (mrrs : Nat) : (fuel addr off len : Nat) → List (Nat × Nat × Nat)
  | 0, _, _, _ => []
  | fuel + 1, addr, off, len =>
    if len = 0 then []
    else
      let n := min len (min mrrs (4096 - addr % 4096))
      (addr, off, n) :: readChunks mrrs fuel (addr + n) (off + n) (len - n)

/-- The reads of one list segment issued (R372). -/
def State.readSegment (s : State) (h : Nat) (e : Elem) (dst : Bool) : State :=
  let c := s.cmd h
  let s := s.setCmd h { c with phase := .listRead
                               data := { c.data with seg := some e, segDst := dst, bytes := [], nextRead := 0 } }
  s.forEach (readChunks (s.maxRead c.id.fn) (e.len / 16 + 1) e.addr 0 e.len) (fun s r =>
    s.issueRead c.id.fn (if dst then .dstList else .list) h r.2.1 r.1 r.2.2)

/-- The lists of a command are whole, so checks 7 to 9 are made and the command is accepted or refused (R368). -/
def State.acceptLists (s : State) (h : Nat) : State :=
  let c := s.cmd h
  let op := c.op
  let len := c.id.length
  let srcOk :=
    if c.id.formatL = true ∨ usesDptr op = false then true
    else if op = Op.snapshot then listOk op (c.data.src.foldl (fun a e => a + e.len) 0) c.data.src
    else if op = Op.calibrate then len == 0 || listOk op len c.data.src || c.data.src == [⟨0, 0, 0⟩]
    else if len = 0 then c.data.src.all (fun e => e.len == 0) else listOk op len c.data.src
  let dstOk := op != Op.cipherJob || listOk op len c.data.dst
  if srcOk = false ∨ dstOk = false then s.refuse h Status.invalidField
  else if c.id.device ≠ s.deviceId then s.setCmd h { c with phase := .accepted }
  else
    match s.lateChecks c.id with
    | some st => s.refuse h st
    | none => s.setCmd h { c with phase := .accepted }

/-- ACCEPTANCE: the checks of R368 in order. A command whose lists must be read waits in acceptance for LIST_READ_DONE. -/
def execAcceptance (h : Nat) (s : State) : Res :=
  let c := s.cmd h
  if c.phase ≠ .fetched then .next s
  else
    match s.earlyChecks h c.id with
    | some st => .next (s.refuse h st)
    | none =>
      let dst := c.id.dstElem
      if usesDptr c.op = true ∧ c.id.dptr.kind = 1 ∧ c.id.formatL = false then
        if c.id.dptr.ok then .next (s.readSegment h c.id.dptr false) else .next (s.refuse h Status.invalidField)
      else
        let s := s.setCmd h { c with data := { c.data with src := [c.id.dptr] } }
        if c.op = Op.cipherJob ∧ dst.kind = 1 then
          if dst.ok then .next (s.readSegment h dst true) else .next (s.refuse h Status.invalidField)
        else
          let s := s.modCmd h (fun c => { c with data := { c.data with dst := if c.op = Op.cipherJob then [dst] else [] } })
          .next (s.acceptLists h)

/-- Bytes gathered in chunks by offset, as one string of `len` bytes. -/
def joinChunks (t : Table (List Nat)) : List Nat := t.flatMap (fun e => e.2)

/-- All bytes of the segment have arrived. -/
def Cmd.segmentWhole (c : Cmd) : Bool :=
  match c.data.seg with
  | some e => (joinChunks c.data.bytes).length == e.len
  | none => false

/-- LIST_READ_DONE: the segment's elements join the command's list; a LIST at its end is followed, the destination list of a CIPHER_JOB
comes after the source, and with the last segment the lists are checked (R368 check 7, R372). -/
def execListReadDone (h : Nat) (s : State) : Res :=
  let c := s.cmd h
  if c.phase ≠ .listRead ∨ c.segmentWhole = false then .next s
  else
    let es := segmentElems (joinChunks c.data.bytes)
    let next := es.getLast?
    let chained := match next with | some e => e.kind == 1 | none => false
    let body := if chained then es.dropLast else es
    let c := { c with data := { c.data with
      seg := none, bytes := []
      src := if c.data.segDst then c.data.src else c.data.src ++ body
      dst := if c.data.segDst then c.data.dst ++ body else c.data.dst } }
    let s := s.setCmd h c
    let total := c.data.src.length + c.data.dst.length
    if body.any (fun e => !e.ok || e.kind == 1) ∨ 65536 < total then .next (s.refuse h Status.invalidField)
    else if chained then
      match next with
      | some e => if e.ok then .next (s.readSegment h e c.data.segDst) else .next (s.refuse h Status.invalidField)
      | none => .next s
    else if c.op = Op.cipherJob ∧ c.data.segDst = false then
      let dst := c.id.dstElem
      if dst.kind = 1 then
        if dst.ok then .next (s.readSegment h dst true) else .next (s.refuse h Status.invalidField)
      else .next ((s.setCmd h { c with data := { c.data with dst := [dst] } }).acceptLists h)
    else .next (s.acceptLists h)

/-! ## Dispatch (R367, R373–R375, R440) -/

/-- The queue that a command enters (R373). -/
def State.queueFor (s : State) (i : CmdId) : Option Nat :=
  let op := nativeOp i.op
  if op = Op.move ∨ op = Op.cipherJob ∨ op = Op.lSegment then some 8
  else if onDisc op = true ∨ op = Op.load ∨ op = Op.unload ∨ op = Op.calibrate then s.stationNeeded i
  else none

/-- No earlier command of the same ring is still short of dispatch (R367). -/
def State.ringOrderOk (s : State) (h : Nat) (c : Cmd) : Bool :=
  !s.allCmds.any (fun e =>
    decide (e.1 < h) && ((e.2.origin == .ring) == (c.origin == .ring)) && e.2.id.fn == c.id.fn && e.2.id.ring == c.id.ring &&
      (e.2.phase == .fetching || e.2.phase == .fetched || e.2.phase == .listRead || e.2.phase == .accepted))

/-- A command takes a tag in a queue, its key slot's generation captured (R350, R373). -/
def State.enqueue (s : State) (h q : Nat) : State :=
  let c := s.cmd h
  let st := if q < 8 then q else 0
  let s := s.setCmd h { c with phase := .queued, queue := some q, station := st, order := s.rings.nextOrder
                               gen := s.keyGen c.id.keySlot }
  { s with rings := { s.rings with nextOrder := s.rings.nextOrder + 1 } }

/-- A LOAD binds its slot to its station; an UNLOAD ends the binding of the disc in its station (R375). -/
def State.bindAtDispatch (s : State) (h : Nat) : State :=
  let c := s.cmd h
  if c.op = Op.load then s.bind c.id.mslot c.station
  else if c.op = Op.unload then
    match (s.station c.station).mslot with
    | some m => if s.boundTo m = some c.station then s.unbind m else s
    | none => s
  else s

/-- The Format L descriptor of a native command for an RSX-4080 (R386, R435), where it maps. -/
def toFormatL (i : CmdId) : Option (List Nat) :=
  let n := i.nsect % 65536
  let base (op flags slot lba n : Nat) : List Nat :=
    [op, flags] ++ leBytes 2 i.cid ++ leBytes 2 slot ++ [0, 0] ++ leBytes 4 lba ++ leBytes 2 n ++ [0, 0] ++ List.replicate 8 0
  if i.seal = true ∨ i.writeVerify = true then none
  else if i.op = Op.write then some (base 0x01 (b2n i.fua) i.mslot i.lba n ++ List.replicate 8 0)
  else if i.op = Op.read then some (base 0x02 0 i.mslot i.lba n ++ List.replicate 8 0)
  else if i.op = Op.flush then some (base 0x07 0 i.mslot 0 0 ++ List.replicate 8 0)
  else if i.op = Op.load then some (base 0x11 0 i.stationField 0 0 ++ leBytes 2 i.mslot ++ List.replicate 6 0)
  else if i.op = Op.unload then some (base 0x12 0 i.stationField 0 0 ++ List.replicate 8 0)
  else none

/-- A chain tag that no command of the forward table has, from `t` upward; `fuel` bounds the search (R442). -/
def freeChainTag (used : List Nat) : (fuel t : Nat) → Nat
  | 0, t => t
  | fuel + 1, t => if used.contains (t % 65536) then freeChainTag used fuel (t + 1) else t % 65536

/-- Bytes that a forwarded command sends up the tree (R370, R371, R441). -/
def State.upwardBytes (s : State) (h : Nat) : Nat :=
  let c := s.cmd h
  let op := c.op
  if op = Op.read ∨ op = Op.identify ∨ op = Op.getLog ∨ op = Op.attest then c.id.length
  else if op = Op.calibrate then c.data.src.foldl (fun (a : Nat) e => a + e.len) 0
  else 0

/-- The root's next grant for data that flows up: at most 256 KiB, at most four outstanding for a tag (R441). -/
def State.grantUp (s : State) (tag : Nat) : State :=
  match s.mbl.fwd.find? (fun w => w.tag == tag) with
  | none => s
  | some w =>
    let n := min 262144 (s.upwardBytes w.cmd - w.asked)
    if n = 0 ∨ 4 ≤ (s.mbl.grants.filter (fun g => g.mine && g.tag == tag)).length then s
    else
      let g : Grant := { tag := tag, cmd := w.cmd, offset := w.asked, len := n, moved := 0, mine := true }
      let fwd := s.mbl.fwd.map (fun (x : Fwd) => if x.tag = tag then { x with asked := x.asked + n } else x)
      let s := { s with mbl := { s.mbl with grants := s.mbl.grants ++ [g], fwd := fwd } }
      s.route { type := Pkt.xferRdy, flags := 0, dest := w.dest, src := s.deviceId, tag := tag, offset := 0
                payload := leBytes 4 w.asked ++ leBytes 4 n }

/-- A command forwarded down the tree in a CMD packet, its first grants for data that flows up behind it (R435, R440, R441). -/
def State.forward (s : State) (h : Nat) : State :=
  let c := s.cmd h
  match s.portFor c.id.device with
  | none => s.refuse h Status.invalidField
  | some q =>
    if s.portOpen q = false then s.refuse h Status.childAbsent
    else if 4096 ≤ s.mbl.fwd.length then s
    else
      let desc :=
        if s.flag (F.MBL_PORT_STATUS_PARTNER_4080 q) then toFormatL c.id
        else some (c.id.raw.take 16 ++ List.replicate 16 0 ++ (c.id.raw.drop 32).take 32)
      match desc with
      | none => s.refuse h Status.invalidCommand
      | some d =>
        let tag := freeChainTag (s.mbl.fwd.map Fwd.tag) 65536 s.mbl.nextTag
        let s := s.setCmd h { c with phase := .forwarded }
        let row : Fwd := { tag := tag, cmd := h, dest := c.id.device }
        let s := { s with mbl := { s.mbl with fwd := s.mbl.fwd ++ [row], nextTag := tag + 1 } }
        let s := s.route { type := Pkt.cmd, flags := 0, dest := c.id.device, src := s.deviceId, tag := tag, offset := 0
                           payload := [c.id.fn, c.id.ring, 0, 0] ++ d }
        s.forEach (List.range 4) (fun s _ => s.grantUp tag)

/-- DISPATCH: in ring order, a command takes a tag in its queue, is carried out by MC firmware, or is forwarded (R367, R373–R375,
R440). -/
def execDispatch (h : Nat) (s : State) : Res :=
  let c := s.cmd h
  if c.phase ≠ .accepted ∨ s.ringOrderOk h c = false then .next s
  else if c.id.device ≠ s.deviceId ∧ c.origin = .ring then .next (s.forward h)
  else
    match s.lateChecks c.id with
    | some st => .next (s.refuse h st)
    | none =>
      match s.queueFor c.id with
      | none => .next (s.setCmd h { c with phase := .started })
      | some q =>
        if s.tagsFree q = 0 then .next s
        else if c.op = Op.load ∧ (s.boundTo c.id.mslot).isSome ∧ s.boundTo c.id.mslot ≠ some q then
          .next (s.refuse h Status.invalidField)
        else .next ((s.enqueue h q).bindAtDispatch h)

/-! ## Admission (R270–R272, R376, R377) -/

/-- The (side, layer, first LBA, end LBA) pieces of a WRITE's range. -/
def DiscInfo.pieces (d : DiscInfo) (lba n : Nat) : List (Nat × Nat × Nat × Nat) :=
  (List.range (2 * d.layers)).filterMap (fun g =>
    let lo := max lba (g * d.lbasPerLayer)
    let hi := min (lba + n) ((g + 1) * d.lbasPerLayer)
    if lo < hi then some (g / d.layers, g % d.layers, lo, hi) else none)

/-- The range of a command on a disc reaches no LBA at or beyond its capacity (R60, R64, R67). -/
def State.rangeOk (s : State) (c : Cmd) : Bool :=
  let d := s.disc c.station
  let op := c.op
  (op == Op.flush || decide (c.id.lba + s.sectorsOf c ≤ d.capacity)) && (op != Op.preload || c.id.lba % d.dataPerBlock == 0)

/-- A pickup of a side on which the range lies is in FAULT (R141). -/
def State.servoFaulted (s : State) (c : Cmd) : Bool :=
  let d := s.disc c.station
  usesLba c.op && (d.pieces c.id.lba (s.sectorsOf c)).any (fun p => s.puState (2 * c.station + p.1) == Pu.fault)

/-- What the frontier says of a WRITE (R271, R286): none where a frontier it needs is not known. -/
def State.writeAdmission (s : State) (c : Cmd) : Option Nat :=
  let d := s.disc c.station
  let ps := d.pieces c.id.lba c.id.nsect
  let ws := ps.map (fun p => (p, s.frontier c.station p.1 p.2.1))
  if ws.any (fun e => e.2.isNone) then none
  else if ws.any (fun e => match e.2 with | some w => decide (e.1.2.2.1 < w) | none => false) then some Status.alreadyRecorded
  else if ws.any (fun e => match e.2 with | some w => decide (w < e.1.2.2.1) | none => false) then some Status.invalidField
  else if ps.any (fun p => (s.puRec (2 * c.station + p.1)).calFailed.contains p.2.1) then some Status.writeFault
  else some Status.success

/-- The LBAs of an admitted WRITE reserved: W moves past them on every side and layer (R270). -/
def State.reserve (s : State) (c : Cmd) : State :=
  s.forEach ((s.disc c.station).pieces c.id.lba c.id.nsect) (fun s p => s.setFrontier c.station p.1 p.2.1 (some p.2.2.2))

/-- A command needs rotation and no start is made: the chopper's fault has not been cleared, or the last start has failed (R162, R171,
R173). -/
def State.cannotSpin (s : State) (c : Cmd) : Bool :=
  let rotates := (onDisc c.op && c.op != Op.flush) || c.op == Op.load || (c.op == Op.calibrate && c.id.body.getD 2 0 != 1)
  rotates && (s.flag (F.SPN_STATUS_CHOP_FAULT c.station) ||
    (s.fld (F.SPN_STATE_STATE c.station) == 11 && s.flag (F.SPN_STATUS_START_FAIL c.station)))

/-- Why a command that has reached the front of its queue completes instead of being admitted, where it does: its binding has ended,
the station takes no commands, or a check on its disc fails (R2, R60, R141, R173, R284, R347, R375). -/
def State.admissionRefusal (s : State) (c : Cmd) : Option Nat :=
  let op := c.op
  let x := s.station c.station
  if c.queue = some 8 then none
  else if x.powerStop then some Status.spindleFault
  else if s.cannotSpin c then some Status.spindleFault
  else if onDisc op = false then none
  else if x.disc.isNone ∨ x.mslot ≠ some c.id.mslot then some Status.mediaAbsent
  else if s.rangeOk c = false then some Status.invalidField
  else if s.servoFaulted c then some Status.servoFault
  else if op = Op.write ∧ (s.disc c.station).s4 = true then some Status.invalidCommand
  else if op = Op.write ∧ ¬ s.fw.strategies.contains (s.disc c.station).strategyId then some Status.invalidCommand
  else if op = Op.write ∧ c.id.seal = true ∧ (s.disc c.station).discId = 0 then some Status.invalidField
  else if op = Op.preload ∧ s.cacheEnabled = false then some Status.invalidCommand
  else none

/-- The command is admitted: it takes its lock and runs (R376, R377). -/
def State.admitCmd (s : State) (h : Nat) (l : Option Lock) : State :=
  (s.takeLock l).modCmd h (fun c => { c with phase := .admitted })

/-- ADMISSION: the first command of the queue that is not admitted starts, once nothing holds the queue, its key slot is not being
loaded, its lock is granted and, for a WRITE, its frontier is known; a check that fails completes it (R271, R350, R376). -/
def execAdmission (q : Fin 9) (s : State) : Res :=
  if s.queueHeld q then .next s
  else
    match s.waitingIn q with
    | [] => .next s
    | (h, c) :: _ =>
      match s.admissionRefusal c with
      | some st => .next (s.refuse h st)
      | none =>
        if (c.id.seal = true ∨ c.op = Op.cipherJob) ∧ s.cipher.loading = some c.id.keySlot then .next s
        else
          let l := s.lockNeeded h c
          let granted := match l with | some l => s.lockGrantable l | none => true
          if granted = false then .next s
          else if c.op = Op.write then
            match s.writeAdmission c with
            | none => .next s
            | some st =>
              if st = Status.success then .next ((s.reserve c).admitCmd h l) else .next (s.refuse h st)
          else .next (s.admitCmd h l)

end Sys2Proof.Machine
end

