-- ==== Sys2Proof/Machine/Cache.lean ====
section
/-!
DEFINITION. The data commands and the staging cache: hits, allocation, rescue, gathering, DMA toward the host, read-ahead, and the
enabling and disabling of the cache (R274–R276, R318–R339, R351–R357, R370, R383, R441).
-/
namespace Sys2Proof.Machine

/-! ## A command's use of an entry -/

/-- The class under which a command uses entries (R321, R325, R370). -/
def Cmd.cls (c : Cmd) : Nat :=
  if c.op = Op.verify then classVerify
  else if c.op = Op.preload ∧ c.id.peer = true then classPeer
  else fnClass c.id.fn

/-- LOCK and UNLOCK of a PRELOAD (R325). -/
def Cmd.locks (c : Cmd) : Bool := c.op == Op.preload && (c.id.body.getD 2 0).testBit 0
def Cmd.unlocks (c : Cmd) : Bool := c.op == Op.preload && (c.id.body.getD 2 0).testBit 1

/-- A block of a command served by an entry; the lock of a PRELOAD applied. -/
def State.useEntry (s : State) (h : Nat) (u : BlockUse) : State :=
  let c := s.cmd h
  let s := s.setCmd h { c with data := { c.data with
    uses := c.data.uses ++ [u], waiting := c.data.waiting.filter (fun b => b != u.block) } }
  s.modEntry u.entry (fun x => { x with
    readers := if x.readers.contains h then x.readers else x.readers ++ [h]
    waiters := x.waiters.filter (fun w => w != h)
    locked := if c.unlocks then false else x.locked || c.locks })

/-- The sectors of a command that lie in a block. -/
def State.sectorsIn (s : State) (c : Cmd) (block : Nat) : List Nat :=
  (List.range (s.sectorsOf c)).filter (fun k => (s.disc c.station).blockOf (c.lbaAt k) == block)

/-- What an entry already holds of a block reaches the command: sealed sectors go to the engines, and a PRELOAD or VERIFY may end. -/
def State.serveBlock (s : State) (h block : Nat) : State :=
  let s := s.forEach (s.sectorsIn (s.cmd h) block) (fun s k => s.offerUnseal h k)
  s.refillEngines.tryEndFill h

/-- A command hits an entry and claims it (R321, R328, R330). A fill that goes on for read-ahead goes on for the command. -/
def State.hitEntry (s : State) (h block e : Nat) (rescued : Bool) : State :=
  let c := s.cmd h
  let x := s.entry e
  let s := s.claim h e c.cls
  let s := s.when (x.st == .filling) (fun s =>
    s.modWork e (fun w => { w with noRetry := false, early := w.early || c.id.earlyData }))
  let s := s.when x.spec (fun s => s.modStation c.station (fun y => { y with lastBlock := some block }))
  let s := (s.useEntry h ⟨block, e, true, rescued, x.spec⟩).serveBlock h block
  s.when (x.st == .filling) (fun s => s.settleBlock e)

/-- A FREE entry taken for a read of a block: FILLING, or TRANSIENT while the cache is not ENABLED; untagged for a VERIFY (R320). -/
def State.fillEntry (s : State) (h block e : Nat) : State :=
  let c := s.cmd h
  let verify := c.op == Op.verify
  let through := !s.cacheEnabled && !verify
  let s := s.setEntry e (freshEntry (if through then .transient else .filling) c.cls c.id.mslot block c.station (!(verify || through)))
  let s := s.startWork e c.station c.id.mslot block verify false c.id.earlyData
  ((s.touch e).useEntry h ⟨block, e, false, false, false⟩).serveBlock h block

/-- A FREE entry taken to gather a WRITE's block (R320). -/
def State.gatherEntry (s : State) (h block e : Nat) : State :=
  let c := s.cmd h
  let s := s.setEntry e (freshEntry .gathering c.cls c.id.mslot block c.station true)
  (s.touch e).useEntry h ⟨block, e, false, false, false⟩

/-! ## Allocation (R323) -/

/-- An EVICTING entry may become FREE: no write-back is under way and no transfer reads it. -/
def Entry.evictable (x : Entry) : Bool := x.st == .evicting && !x.writeBack && x.readers.isEmpty

/-- EVICTING entries that no request waits for become FREE once they may (R320). -/
def State.settleEvictions (s : State) : State :=
  s.forEach entryNumbers (fun s e =>
    if (s.entry e).evictable = true ∧ (s.entry e).chooser = 0 then s.freeEntry e else s)

/-- A request of class `c`, known by `who`, takes an entry: the victim it has chosen once that is FREE, or the one R323 gives it now; a
victim first enters EVICTING. Without an entry it goes on waiting. -/
def State.allocate (s : State) (who c : Nat) (use : State → Nat → State) : State :=
  let s := s.settleEvictions
  match entryNumbers.find? (fun e => (s.entry e).chooser == who && (s.entry e).st == .evicting) with
  | some e => if (s.entry e).evictable then use (s.freeEntry e) e else s
  | none =>
    match s.chooseEntry c with
    | none => s
    | some e =>
      if (s.entry e).st = .free then use s e
      else s.modEntry e (fun x => { x with st := .evicting, chooser := who, writeBack := x.st == .recording })

/-- Requests that are no command's choose victims under these names: read-ahead of a station, and pads (R276). -/
def prefetcherName (st : Nat) : Nat := 2 ^ 32 + st
def padName : Nat := 2 ^ 33

/-! ## What a request meets (R321, R324, R331, R339) -/

/-- A request waits for an entry that holds its tag. -/
def State.waitOn (s : State) (h e : Nat) : State :=
  s.modEntry e (fun x => { x with waiters := if x.waiters.contains h then x.waiters else x.waiters ++ [h] })

/-- An eviction under way is cancelled: the entry is rescued (R324). -/
def State.rescue (s : State) (e : Nat) : State :=
  s.modEntry e (fun x => { x with st := .valid, chooser := 0, writeBack := false })

/-- An entry outside a class's mask that holds the tag may be freed for its request (R321). -/
def Entry.yields (x : Entry) : Bool := !x.dirty && !x.locked && x.readers.isEmpty

/-- A READ, PRELOAD or VERIFY asks for a block: it hits, rescues, waits, or where `alloc` is set allocates. -/
def State.askRead (s : State) (h block : Nat) (alloc : Bool) : State :=
  let c := s.cmd h
  let miss (s : State) : State := if alloc then s.allocate h c.cls (fun s e => s.fillEntry h block e) else s
  if c.op = Op.verify then miss s
  else
    match s.tagOf c.id.mslot block with
    | none => miss s
    | some e =>
      let x := s.entry e
      if s.cacheEnabled = false then (if x.dirty then s.hitEntry h block e false else miss s)
      else if s.inMask c.cls e then
        if x.st = .evicting then
          if x.writeBack then s.waitOn h e else (s.rescue e).hitEntry h block e true
        else s.hitEntry h block e false
      else if x.yields then miss (s.freeEntry e)
      else s.waitOn h e

/-- A WRITE takes an entry over for gathering (R320, R330, R331): a fill ends, provisional payloads go, and an entry that was speculative
counts as unused. -/
def State.takeOver (s : State) (h block e : Nat) : State :=
  let c := s.cmd h
  let x := s.entry e
  let s := s.when x.spec (fun s => s.count F.CCH_RA_UNUSED_LO_COUNT F.CCH_RA_UNUSED_HI_COUNT 1)
  let s := s.when (x.st == .filling) (fun s => s.discardWork e)
  let keep := x.sectors.filter (fun j => j.2.st != .provisional)
  let s := s.setEntry e { x with st := .gathering, cls := c.cls, spec := false, withheld := [], sectors := keep }
  (s.touch e).useEntry h ⟨block, e, true, false, false⟩

/-- A WRITE asks for the entry of a block. -/
def State.askWrite (s : State) (h block : Nat) (alloc : Bool) : State :=
  let c := s.cmd h
  let miss (s : State) : State := if alloc then s.allocate h c.cls (fun s e => s.gatherEntry h block e) else s
  match s.tagOf c.id.mslot block with
  | none => miss s
  | some e =>
    let x := s.entry e
    if s.inMask c.cls e then
      if x.st = .evicting then
        if x.writeBack then s.waitOn h e else (s.rescue e).takeOver h block e
      else if x.st = .valid ∨ x.st = .filling ∨ x.st = .gathering then s.takeOver h block e
      else s.waitOn h e
    else if x.yields then miss (s.freeEntry e)
    else s.waitOn h e

/-- A command asks for a block of its range that it still waits for. -/
def State.ask (s : State) (h block : Nat) (alloc : Bool) : State :=
  let c := s.cmd h
  if c.phase ≠ .admitted ∨ c.data.waiting.contains block = false then s
  else if c.op = Op.write then s.askWrite h block alloc
  else if c.op = Op.read ∨ c.op = Op.preload ∨ c.op = Op.verify then s.askRead h block alloc
  else s

/-- The write-back of an evicted entry has ended: the requests that wait for it hit it, and it is rescued (R320, R324). -/
def State.wakeWaiters (s : State) (e : Nat) : State :=
  let x := s.entry e
  if x.waiters.isEmpty then s
  else
    let s := s.rescue e
    s.forEach x.waiters (fun s h =>
      if (s.cmd h).live then
        if (s.cmd h).op = Op.write then s.ask h x.block false else s.hitEntry h x.block e true
      else s)

/-! ## Gathering a WRITE (R274, R275, R379, R423, R441) -/

/-- The data of a WRITE is all delivered: one that must be durable closes its last block with pads (R275, R337), and it may end. -/
def State.afterGather (s : State) (h : Nat) : State :=
  let c := s.cmd h
  if c.op = Op.write ∧ c.phase = .admitted ∧ c.data.gathered = c.id.nsect then
    let s := if s.actsFua c then
        let r := s.closeBlock c.station c.id.mslot ((s.disc c.station).blockOf (c.id.lba + c.id.nsect - 1))
        r.1.modCmd h (fun c => { c with data := { c.data with pads := c.data.pads + r.2 } })
      else s
    s.tryEndWrite h
  else s

/-- The bytes of a command's source from `off` that one read may fetch: address and length (R372, R414). -/
def State.nextRead (s : State) (c : Cmd) (limit : Nat) : Option (Nat × Nat) :=
  if limit ≤ c.data.nextRead then none
  else
    match scatterRuns c.data.src c.data.nextRead (limit - c.data.nextRead) with
    | [] => none
    | (addr, n, _) :: _ => some (addr, min n (min (s.maxRead c.id.fn) (4096 - addr % 4096)))

/-- Reads of a command's source up to byte `limit` issued while tags are free; `fuel` bounds them. -/
def State.issueSource (h : Nat) (p : ReadFor) (limit : Nat) : (fuel : Nat) → State → State
  | 0, s => s
  | fuel + 1, s =>
    let c := s.cmd h
    if (s.freeTags c.id.fn).isEmpty = true ∨ s.fnLive c.id.fn = false then s
    else
      match s.nextRead c limit with
      | none => s
      | some (addr, n) =>
        let s := s.issueRead c.id.fn p h c.data.nextRead addr n
        State.issueSource h p limit fuel
          (s.modCmd h (fun c => { c with data := { c.data with nextRead := c.data.nextRead + n } }))

/-- Where the next sector of a WRITE goes: its entry, once it has one. -/
def State.gatherPlace (s : State) (c : Cmd) : Option (Nat × Nat) :=
  if c.data.gathered < c.id.nsect then s.placeOf c c.data.gathered else none

/-- A grant sent up for the WRITE data of a command of the tree, from its next sector to the end of its block or range (R441). -/
def State.grantBlock (s : State) (h tag : Nat) : State :=
  let c := s.cmd h
  let d := s.disc c.station
  let off := 4096 * c.data.gathered
  let left := min (c.id.nsect - c.data.gathered) (d.dataPerBlock - c.lbaAt c.data.gathered % d.dataPerBlock)
  if s.mbl.grants.any (fun g => g.tag == tag && g.mine) then s
  else
    let g : Grant := { tag := tag, cmd := h, offset := off, len := 4096 * left, moved := 0, mine := true }
    let s := { s with mbl := { s.mbl with grants := s.mbl.grants ++ [g] } }
    s.route { type := Pkt.xferRdy, flags := 0, dest := 0, src := s.deviceId, tag := tag, offset := 0
              payload := leBytes 4 off ++ leBytes 4 (4096 * left) }

/-- The next sector of a WRITE is fetched, from host memory or against a grant, once its entry is there. -/
def State.pump (s : State) (h : Nat) : State :=
  let c := s.cmd h
  if c.op ≠ Op.write ∨ c.phase ≠ .admitted ∨ c.started = false then s
  else
    match s.gatherPlace c with
    | none => s
    | some _ =>
      match c.origin with
      | .ring => State.issueSource h .data (4096 * (c.data.gathered + 1)) 4096 s
      | .chain _ tag => s.grantBlock h tag

/-- A sector of a WRITE is whole: it is GATHERED in its entry, and the block may commit (R274, R319). -/
def State.deliverSector (s : State) (h : Nat) (user : List Nat) (poison : Bool) : State :=
  let c := s.cmd h
  match s.gatherPlace c with
  | none => s
  | some (e, j) =>
    let x : CacheSector :=
      { st := .gathered, user := user, sealBit := c.id.seal, fn := c.id.fn, keySlot := c.id.keySlot, owner := h, gen := c.gen
        cid := c.id.cid, verify := c.id.writeVerify, poison := poison }
    let s := s.storeSector e j x
    let s := s.setCmd h { c with data := { c.data with gathered := c.data.gathered + 1, bytes := [] } }
    let s := (s.touch e).tryCommit e
    ((s.refillEngines).afterGather h).pump h

/-- Source bytes of a WRITE have arrived at byte `off` of its data. -/
def State.gatherBytes (s : State) (h off : Nat) (bytes : List Nat) (poison : Bool) : State :=
  let c := s.cmd h
  let t := Table.put [] c.data.bytes off bytes
  let s := s.setCmd h { c with data := { c.data with bytes := t } }
  let whole := joinChunks t
  if whole.length = 4096 then s.deliverSector h whole poison else s

/-! ## CIPHER_JOB (R344, R357) -/

/-- The next source read of a job, one at a time. -/
def State.pumpJob (s : State) (h : Nat) : State :=
  let c := s.cmd h
  if c.op ≠ Op.cipherJob ∨ c.phase ≠ .admitted ∨ c.started = false then s
  else if s.pcie.reqs.any (fun r => r.cmd == h && r.purpose == .job) then s
  else State.issueSource h .job (16 * c.id.nblkJob) 1 s

/-- Source bytes of a job have arrived: its whole blocks go to the engines. -/
def State.jobBytes (s : State) (h off : Nat) (bytes : List Nat) : State :=
  let c := s.cmd h
  let t := Table.put [] c.data.bytes off bytes
  let s := s.setCmd h { c with data := { c.data with bytes := t } }
  let n := (joinChunks t).length / 16
  let s := s.addWork { cmd := h, kind := .job, unit := 0, entry := 0, sector := 0, blocks := n, slot := c.id.keySlot, gen := c.gen }
  let s := { s with cipher := { s.cipher with
    work := s.cipher.work.map (fun (w : EngineWork) => if w.cmd = h ∧ w.kind = EngineKind.job then { w with blocks := n } else w) } }
  (s.refillEngines).pumpJob h

/-- A job whose every output block has been written ends. -/
def State.tryEndJob (s : State) (h : Nat) : State :=
  let c := s.cmd h
  if c.op = Op.cipherJob ∧ c.phase = .admitted ∧ c.data.dmaDone.length = c.id.nblkJob then
    s.endCmd h false { status := Status.success, done := c.id.nblkJob }
  else s

/-! ## Sending a sector toward the host (R327, R333, R334, R441) -/

/-- A sector of a READ whose final bytes are due and not yet written. -/
def State.dmaReady (s : State) (c : Cmd) (k : Nat) : Bool :=
  !c.data.dmaDone.contains k && (match s.dueOf c k with | .bytes _ _ _ _ => true | _ => false)

/-- The DMA serves this sector next: no older READ of the station, and no lower sector of this one, is ready (R327). -/
def State.dmaFirst (s : State) (h k : Nat) : Bool :=
  let c := s.cmd h
  !(List.range k).any (s.dmaReady c) &&
    !s.allCmds.any (fun e =>
      let d := e.2
      e.1 != h && d.op == Op.read && d.phase == .admitted && d.started && d.station == c.station && decide (d.order < c.order) &&
        (d.origin != .ring || s.fnLive d.id.fn) && (List.range d.id.nsect).any (s.dmaReady d))

/-- The final bytes of a sector noted as delivered, with its outcome and its seal check. -/
def State.noteDelivered (s : State) (h k : Nat) (failed : Bool) (outcome : Nat) (poison : Bool) : State :=
  s.modCmd h (fun c => { c with data := { c.data with
    dmaDone := c.data.dmaDone ++ [k]
    verdict := Table.put 0 c.data.verdict k (if poison then Outcome.unrecovered else outcome)
    failed := if failed ∧ ¬ c.data.failed.contains k then c.data.failed ++ [k] else c.data.failed } })

/-- The grant of the root that covers byte `off` of a READ carried out here, next in its order. -/
def State.openGrant (s : State) (tag off : Nat) : Option Grant :=
  s.mbl.grants.find? (fun g => !g.mine && g.tag == tag && g.offset + g.moved == off && decide (g.moved < g.len))

/-- A grant after `n` more of its bytes; gone once they are all moved. -/
def State.moveGrant (s : State) (g : Grant) (n : Nat) : State :=
  let upd (x : Grant) : List Grant :=
    if x = g then (if g.moved + n < g.len then [{ g with moved := g.moved + n }] else []) else [x]
  { s with mbl := { s.mbl with grants := s.mbl.grants.flatMap upd } }

/-- Bytes of a grant sent in DATA packets of at most 4,096 bytes, the last marked LAST (R438, R441). -/
def State.sendData (s : State) (dest : Nat) (g : Grant) (bytes : List Nat) (poison : Bool) : State :=
  let last := decide (g.len ≤ g.moved + bytes.length)
  let s := s.moveGrant g bytes.length
  s.route { type := Pkt.data, flags := b2n poison + 2 * b2n last, dest := dest, src := s.deviceId, tag := g.tag
            offset := g.offset + g.moved, payload := bytes }

/-- The host's DMA reads the sector that serves sector `k` of a command, where it holds data (R303). -/
def State.fetchSector (s : State) (c : Cmd) (k : Nat) : State :=
  match s.placeOf c k with
  | some (e, j) =>
    let st := ((s.entry e).sector j).st
    if st = .confirmed ∨ st = .gathered ∨ st = .provisional then s.readSector e j 0xC4 else s
  | none => s

/-- The sector of a READ that came down the tree is sent up where a grant takes it. -/
def State.sendSectorUp (s : State) (h k tag : Nat) : State :=
  let c := s.cmd h
  let s := s.fetchSector c k
  match s.dueOf c k, s.openGrant tag (4096 * k) with
  | .keyChanged, _ => s.keyChanged h
  | .bytes data failed outcome poison, some g =>
    if c.data.dmaDone.contains k then s
    else ((s.sendData 0 g data poison).noteDelivered h k failed outcome poison).tryEndRead h
  | _, _ => s

/-- The final or provisional bytes of a sector of a READ written to host memory. -/
def State.writeSector (s : State) (h k : Nat) : State :=
  let c := s.cmd h
  let s := s.fetchSector c k
  match s.dueOf c k with
  | .wait => s
  | .keyChanged => s.keyChanged h
  | .provisional bytes =>
    if (Table.at [] c.data.early k).isEmpty = false then s
    else
      let s := s.emitAll (s.bufferWrites c.id.fn c.data.src (4096 * k) bytes false)
      s.setCmd h { c with data := { c.data with early := Table.put [] c.data.early k bytes } }
  | .bytes data failed outcome poison =>
    if c.data.dmaDone.contains k = true ∨ s.dmaFirst h k = false then s
    else
      let lost := decide (outcome = Outcome.blank) || decide (outcome = Outcome.unrecovered)
      let s := if Table.at [] c.data.early k = data ∧ lost = false then s
        else s.emitAll (s.bufferWrites c.id.fn c.data.src (4096 * k) data poison)
      (s.noteDelivered h k failed outcome poison).tryEndRead h

/-- DMA_WRITE_ISSUED: the DMA writes of a sector of a READ that is due, in the order of R327, or of an output block of a CIPHER_JOB
are issued (R322, R327, R328, R332–R335, R353–R357). -/
def execDmaWriteIssued (h unit : Nat) (s : State) : Res :=
  let c := s.cmd h
  if c.phase ≠ .admitted ∨ c.started = false then .next s
  else
    match c.origin with
    | .chain _ tag => if c.op = Op.read ∧ unit < c.id.nsect then .next (s.sendSectorUp h unit tag) else .next s
    | .ring =>
      if s.fnLive c.id.fn = false then .next s
      else if c.op = Op.read ∧ unit < c.id.nsect then .next (s.writeSector h unit)
      else if c.op = Op.cipherJob ∧ c.data.dmaDone.contains unit = false ∧ (Table.at [] c.data.plain unit).isEmpty = false then
        let s := s.emitAll (s.bufferWrites c.id.fn c.data.dst (16 * unit) (Table.at [] c.data.plain unit) false)
        let s := s.modCmd h (fun c => { c with data := { c.data with dmaDone := c.data.dmaDone ++ [unit] } })
        .next (s.tryEndJob h)
      else .next s

/-! ## The data commands begin (R325, R326, R331, R339, R357, R370, R383) -/

/-- A command is admitted and not begun, and its opcode is the one given. -/
def Cmd.mayStart (c : Cmd) (op : Nat) : Bool := c.id.op == op && c.phase == .admitted && !c.started

/-- A command begins: it waits for the entries of its blocks, and takes those that hold them already. -/
def State.begin (s : State) (h : Nat) : State :=
  let c := s.cmd h
  let bs := s.blocksOf c
  let s := s.setCmd h { c with started := true, data := { c.data with waiting := bs } }
  s.forEach bs (fun s b => s.ask h b false)

/-- READ begins. -/
def execRead (h : Nat) (s : State) : Res :=
  if (s.cmd h).mayStart Op.read then .next (s.begin h) else .next s

/-- L_READ begins as the READ it maps to (R387). -/
def execLRead (h : Nat) (s : State) : Res :=
  if (s.cmd h).mayStart Op.lRead then .next (s.begin h) else .next s

/-- VERIFY begins: its blocks are read through verify-engine entries (R318, R370). -/
def execVerify (h : Nat) (s : State) : Res :=
  if (s.cmd h).mayStart Op.verify then .next (s.begin h) else .next s

/-- WRITE begins: entries with its blocks' tags become its gathering entries (R331), and its data is fetched. -/
def execWrite (h : Nat) (s : State) : Res :=
  if (s.cmd h).mayStart Op.write then .next ((s.begin h).pump h) else .next s

/-- L_WRITE begins as the WRITE it maps to (R387). -/
def execLWrite (h : Nat) (s : State) : Res :=
  if (s.cmd h).mayStart Op.lWrite then .next ((s.begin h).pump h) else .next s

/-- Entries that PRELOADs with LOCK, this one among them, would have locked once they hold all their blocks (R326). -/
def State.lockedAfter (s : State) (h : Nat) : Nat :=
  let fresh (c : Cmd) (bs : List Nat) : Nat := (bs.filter (fun b =>
    match s.tagOf c.id.mslot b with
    | some e => !(s.entry e).locked
    | none => true)).length
  s.lockedCount + fresh (s.cmd h) (s.blocksOf (s.cmd h)) +
    (s.allCmds.foldl (fun n e => if e.1 ≠ h ∧ e.2.locks = true ∧ e.2.phase = .admitted then n + fresh e.2 e.2.data.waiting else n) 0)

/-- PRELOAD begins: INVALID_COMMAND while the cache is not ENABLED, INVALID_FIELD where its locks would pass 32 (R326, R339). -/
def execPreload (h : Nat) (s : State) : Res :=
  let c := s.cmd h
  if c.mayStart Op.preload = false then .next s
  else if s.cacheEnabled = false then .next (s.refuse h Status.invalidCommand)
  else if c.locks = true ∧ 32 < s.lockedAfter h then .next ((s.put F.CCH_STATUS_LOCK_FULL 1).refuse h Status.invalidField)
  else .next (s.begin h)

/-- CIPHER_JOB begins: its source is read from host memory (R357). -/
def execCipherJob (h : Nat) (s : State) : Res :=
  let c := s.cmd h
  if c.mayStart Op.cipherJob then .next ((s.setCmd h { c with started := true }).pumpJob h) else .next s

/-! ## FLUSH (R275, R383) -/

/-- Blocks of a disc that hold or await data of WRITEs earlier than a FLUSH: those of earlier WRITEs that run, and dirty blocks that
hold no later WRITE's data alone. -/
def State.flushBlocks (s : State) (h : Nat) : List Nat :=
  let c := s.cmd h
  let later (o : Nat) : Bool := match s.cmd? o with | some w => decide (c.order < w.order) | none => false
  let running := s.allCmds.flatMap (fun e =>
    if e.2.op = Op.write ∧ e.2.phase = .admitted ∧ e.2.id.mslot = c.id.mslot ∧ e.2.order < c.order then s.blocksOf e.2 else [])
  let held := entryNumbers.filterMap (fun e =>
    let x := s.entry e
    if x.tagged = true ∧ x.mslot = c.id.mslot ∧ x.dirty = true ∧
        (x.sectors.any (fun y => y.2.st == .gathered && !later y.2.owner)) = true then some x.block else none)
  let waiting := (s.recording.padWait.filter (fun w => w.mslot == c.id.mslot)).map (fun w => w.block)
  (running ++ held ++ waiting).eraseDups

/-- A FLUSH closes the partial blocks of earlier WRITEs with pads and waits until every one of them is recorded. -/
def State.flush (s : State) (h : Nat) : State :=
  let c := s.cmd h
  let bs := s.flushBlocks h
  let r := bs.foldl (fun (acc : State × Nat) b =>
    let q := acc.1.closeBlock c.station c.id.mslot b
    (q.1, acc.2 + q.2)) (s, 0)
  let s := r.1.setCmd h { c with started := true, data := { c.data with waiting := bs, pads := r.2 } }
  s.tryEndFlush h

/-- FLUSH begins. -/
def execFlush (h : Nat) (s : State) : Res :=
  if (s.cmd h).mayStart Op.flush then .next (s.flush h) else .next s

/-- L_FLUSH begins as the FLUSH it maps to (R387). -/
def execLFlush (h : Nat) (s : State) : Res :=
  if (s.cmd h).mayStart Op.lFlush then .next (s.flush h) else .next s

/-! ## Allocation and read-ahead (R323, R324, R329) -/

/-- The first block of pads that waits for an entry takes one, and becomes pads there (R276). -/
def State.allocatePads (s : State) : State :=
  match s.recording.padWait with
  | [] => s
  | w :: rest =>
    let settle (s : State) (e : Nat) : State :=
      ({ s with recording := { s.recording with padWait := rest } }).padSectors e w.sectors
    match s.tagOf w.mslot w.block with
    | some e =>
      if (s.entry e).st = .gathering then settle s e
      else if (s.entry e).yields then s.freeEntry e
      else s
    | none =>
      s.allocate padName w.cls (fun s e => settle (s.setEntry e (freshEntry .gathering w.cls w.mslot w.block w.station true)) e)

/-- ENTRY_ALLOCATE: a command asks again for a block that it waits for; `h` = 0 stands for a block of pads (R276, R318–R324). -/
def execEntryAllocate (h block : Nat) (s : State) : Res :=
  if h = 0 then .next s.allocatePads else .next (((s.ask h block true).pump h))

/-- A command of a station's queue needs the disc at a position of its own (R329). -/
def Cmd.needsPosition (c : Cmd) : Bool :=
  c.live && !(c.op == Op.read || c.op == Op.preload) || c.live && (!c.started || !c.data.waiting.isEmpty || c.data.uses.any (fun u => !u.hit))

/-- A block is known to be blank: its work found so, or its entry holds a BLANK sector. -/
def State.knownBlank (s : State) (mslot block : Nat) : Bool :=
  match s.tagOf mslot block with
  | some e => (s.work e).blank == some true || (s.entry e).sectors.any (fun y => y.2.st == .blank)
  | none => false

/-- READ_AHEAD: a station at rest after a READ begins to fill the next block along its layer into a prefetcher entry (R329, R330). -/
def execReadAhead (st : Fin 8) (s : State) : Res :=
  let x := s.station st
  let d := s.disc st
  match x.lastBlock, x.mslot with
  | some last, some m =>
    let depth := min 47 (s.fld F.CCH_RA_DEPTH)
    let ahead := (List.range depth).map (fun i => last + 1 + i)
    match ahead.find? (fun b => (s.tagOf m b).isNone) with
    | none => .next s
    | some b =>
      if s.flag F.CCH_RA_EN = false ∨ s.cacheEnabled = false ∨ x.disc.isNone ∨
          ((s.stationCmds st).any (fun e => e.2.needsPosition)) = true ∨
          (s.recording.blocks.any (fun r => r.station == st.val)) = true ∨
          2 * d.layers * d.blocksPerLayer ≤ b ∨ b / d.blocksPerLayer ≠ last / d.blocksPerLayer ∨
          ((List.range (b - last)).any (fun i => s.knownBlank m (last + i))) = true then .next s
      else
        .next (s.allocate (prefetcherName st) classPrefetch (fun s e =>
          let s := s.setEntry e { freshEntry .filling classPrefetch m b st true with spec := true }
          (s.startWork e st m b false true false).touch e))
  | _, _ => .next s

/-! ## Enabling and disabling (R338, R339) -/

/-- CACHE_DISABLE: ENABLE written 0. Partial dirty blocks are closed, VALID entries freed, and the drain begins. An entry that a transfer
still reads is freed when the transfer ends. -/
def execCacheDisable (s : State) : Res :=
  if s.fld F.CCH_CTRL_STATE ≠ 0 then .next (s.put F.CCH_CTRL_ENABLE 0)
  else
    let s := (s.put F.CCH_CTRL_ENABLE 0).put F.CCH_CTRL_STATE 1
    let s := { s with cache := { s.cache with drained := 0 } }
    let s := s.forEach entryNumbers (fun s e =>
      let x := s.entry e
      if x.st = .valid ∨ x.st = .filling ∧ x.cls ≠ classVerify then
        if x.readers.isEmpty then s.freeEntry e
        else s.setEntry e { x with st := .transient, tagged := false, locked := false }
      else s)
    .next (s.forEach entryNumbers (fun s e =>
      let x := s.entry e
      if x.st = .gathering then (s.closeBlock x.station x.mslot x.block).1 else s))

/-- CACHE_ENABLE: ENABLE written 1; refused while the cache drains. -/
def execCacheEnable (s : State) : Res :=
  match s.fld F.CCH_CTRL_STATE with
  | 1 => .next (s.put F.CCH_STATUS_REJECTED 1)
  | 2 => .next (((s.put F.CCH_CTRL_ENABLE 1).put F.CCH_CTRL_STATE 0).post 0x0802 srcCache [])
  | _ => .next s

/-- CACHE_DRAIN_DONE: no entry is dirty, so the cache is DISABLED. -/
def execCacheDrainDone (s : State) : Res :=
  if s.fld F.CCH_CTRL_STATE = 1 ∧ s.dirtyCount = 0 then
    .next ((s.put F.CCH_CTRL_STATE 2).post 0x0801 srcCache (leBytes 2 s.cache.drained))
  else .next s

end Sys2Proof.Machine
end

