-- ==== Sys2Proof/Machine/Sha512.lean ====
section
/-!
DEFINITION. SHA-512 (FIPS 180-4), with which the measurement registers are extended and images are digested (R359, R496).
-/
namespace Sys2Proof.Machine

/-- The primes in rising order that the constants are taken from, found by trial division, `fuel` candidates from `c`. -/
def primesFrom : (fuel c : Nat) → List Nat
  | 0, _ => []
  | fuel + 1, c =>
    if c ≥ 2 ∧ ((List.range c).all (fun d => decide (d < 2) || decide (c % d ≠ 0))) then c :: primesFrom fuel (c + 1)
    else primesFrom fuel (c + 1)

/-- The greatest r with r³ ≤ v, bit by bit. -/
def icbrtAux (v : Nat) : (k r : Nat) → Nat
  | 0, r => r
  | k + 1, r => if (r + 2 ^ k) ^ 3 ≤ v then icbrtAux v k (r + 2 ^ k) else icbrtAux v k r

/-- The round constants: the first 64 fraction bits of the cube roots of the first 80 primes. -/
def sha512K : List Nat := (primesFrom 410 0).map (fun p => icbrtAux (p * 2 ^ 192) 68 0 % 2 ^ 64)

/-- The initial hash value: the first 64 fraction bits of the square roots of the first eight primes. -/
def sha512H0 : List Nat := (primesFrom 20 0).map (fun p => isqrtAux (p * 2 ^ 128) 68 0 % 2 ^ 64)

/-- A 64-bit word rotated right. -/
def rotr64 (x k : Nat) : Nat := (x >>> k) + (x * 2 ^ (64 - k)) % 2 ^ 64

def shaCh (x y z : Nat) : Nat := (x &&& y) ^^^ ((2 ^ 64 - 1 - x) &&& z)
def shaMaj (x y z : Nat) : Nat := (x &&& y) ^^^ (x &&& z) ^^^ (y &&& z)

/-- Extends the message schedule, the last word first, by `n` words. -/
def shaSchedule : Nat → List Nat → List Nat
  | 0, ws => ws
  | n + 1, ws =>
    let w2 := ws.getD 1 0; let w7 := ws.getD 6 0; let w15 := ws.getD 14 0; let w16 := ws.getD 15 0
    let s1 := rotr64 w2 19 ^^^ rotr64 w2 61 ^^^ (w2 >>> 6)
    let s0 := rotr64 w15 1 ^^^ rotr64 w15 8 ^^^ (w15 >>> 7)
    shaSchedule n (((s1 + w7 + s0 + w16) % 2 ^ 64) :: ws)

/-- The eight working variables after the rounds of the schedule. -/
def shaRounds : List (Nat × Nat) → List Nat → List Nat
  | [], v => v
  | (k, w) :: r, [a, b, c, d, e, f, g, h] =>
    let t1 := h + (rotr64 e 14 ^^^ rotr64 e 18 ^^^ rotr64 e 41) + shaCh e f g + k + w
    let t2 := (rotr64 a 28 ^^^ rotr64 a 34 ^^^ rotr64 a 39) + shaMaj a b c
    shaRounds r [(t1 + t2) % 2 ^ 64, a, b, c, (d + t1) % 2 ^ 64, e, f, g]
  | _ :: _, v => v

/-- One block of 128 bytes compressed into the hash value. -/
def shaBlock (hv : List Nat) (block : List Nat) : List Nat :=
  let w0 := (List.range 16).map (fun i => ofBeBytes ((block.drop (8 * i)).take 8))
  let ws := (shaSchedule 64 w0.reverse).reverse
  List.zipWith (fun x y => (x + y) % 2 ^ 64) hv (shaRounds (sha512K.zip ws) hv)

/-- The blocks of a padded message, `n` of them. -/
def shaBlocks : Nat → List Nat → List Nat → List Nat
  | 0, hv, _ => hv
  | n + 1, hv, bs => shaBlocks n (shaBlock hv (bs.take 128)) (bs.drop 128)

/-- SHA-512 of a byte string, 64 bytes. -/
def sha512 (msg : List Nat) : List Nat :=
  let z := (128 - (msg.length + 17) % 128) % 128
  let m := msg ++ [0x80] ++ List.replicate z 0 ++ beBytes 16 (8 * msg.length)
  (shaBlocks (m.length / 128) sha512H0 m).flatMap (beBytes 8)

end Sys2Proof.Machine
end

