-- ==== Sys2Proof/Machine/Cipher.lean ====
section
/-!
DEFINITION. Key slots, engine blocks, measurements and attestation (R343–R362).
-/
namespace Sys2Proof.Machine

/-! ## Key slots (R346–R349) -/

/-- The staging registers zeroized (R348). -/
def State.clearStaging (s : State) : State := { s with cipher := { s.cipher with staging := [] } }

/-- Generation of a slot raised by one (R346). -/
def State.bumpGen (s : State) (slot : Nat) : State :=
  s.putPair (F.CIP_KEYSLOT_GEN_LO_GEN slot) (F.CIP_KEYSLOT_GEN_HI_GEN slot) (s.keyGen slot + 1)

/-- A write of CIP_KEY_CMD while BUSY: ignored, the staging zeroized, REJECTED set (R348). -/
def State.keyRejected (s : State) : State := s.clearStaging.put F.CIP_STATUS_REJECTED 1

/-- Bytes of a key by CIP_KEY_CFG2.LEN: 16, 24, 32; 3 acts as 2. -/
def keyBytes (len : Nat) : Nat := if len = 0 then 16 else if len = 1 then 24 else 32

/-- Key bytes from `n` staging words on from word `w`, each little-endian (R347). -/
def State.stagedKey (s : State) (w len : Nat) : List Nat :=
  ((List.range 8).flatMap (fun i => leBytes 4 (Table.at 0 s.cipher.staging (w + i)))).take (keyBytes len)

/-- KEY_LOAD: CIP_KEY_CMD written with OP = LOAD (R347, R348). The slot counts as loaded at once. -/
def execKeyLoad (slot : Fin 64) (s : State) : Res :=
  if s.flag F.CIP_STATUS_BUSY then .next s.keyRejected
  else
    let cfg2 := Table.at 0 s.cipher.staging 17
    let len := bitsOf cfg2 0 2
    let k := s.keySlot slot
    let s := s.setKeySlot slot { k with k1 := s.stagedKey 0 len, k2 := s.stagedKey 8 len, everLoaded := true }
    let s := ((s.bumpGen slot).put F.CIP_STATUS_BUSY 1)
    let s := s.put (F.CIP_KEYSLOT_LABEL_LABEL slot) (Table.at 0 s.cipher.staging 16)
    let s := (s.put (F.CIP_KEYSLOT_INFO_LOADED slot) 1).put (F.CIP_KEYSLOT_INFO_LEN slot) len
    let s := s.put (F.CIP_KEYSLOT_INFO_FN_MASK slot) (bitsOf cfg2 8 4)
    let s := s.clearStaging
    .next { s with cipher := { s.cipher with loading := some slot.val } }

/-- KEY_LOAD_DONE: the schedules are computed, BUSY clears and KEY_SLOT_LOADED is posted (R348, R361). -/
def execKeyLoadDone (s : State) : Res :=
  match s.cipher.loading with
  | none => .next s
  | some slot =>
    let s := { s with cipher := { s.cipher with loading := none } }
    let s := s.put F.CIP_STATUS_BUSY 0
    .next ((s.post 0x0901 srcCipher
      ([slot, 0, 0, 0] ++ leBytes 4 (s.fld (F.CIP_KEYSLOT_LABEL_LABEL slot)) ++ leBytes 8 (s.keyGen slot))).refillEngines)

/-- KEY_ERASE: CIP_KEY_CMD written with OP = ERASE: the generation rises and the slot is no longer loaded (R347, R348). -/
def execKeyErase (slot : Fin 64) (s : State) : Res :=
  if s.flag F.CIP_STATUS_BUSY then .next s.keyRejected
  else
    let s := s.bumpGen slot
    let s := (s.put (F.CIP_KEYSLOT_INFO_LOADED slot) 0).put (F.CIP_KEYSLOT_INFO_LEN slot) 0
    let s := (s.put (F.CIP_KEYSLOT_INFO_FN_MASK slot) 0).put (F.CIP_KEYSLOT_LABEL_LABEL slot) 0
    .next ((s.setKeySlot slot { s.keySlot slot with zeroize := true, gen := s.keyGen slot }).clearStaging)

/-- KEY_ZEROIZE_DONE: every engine block in progress with an erased slot has finished, its material is zeroized and KEY_SLOT_ERASED is
posted (R348, R361). -/
def execKeyZeroizeDone (slot : Fin 64) (s : State) : Res :=
  let k := s.keySlot slot
  let inUse := (List.range 16).any (fun e => match s.engine e with | some x => x.slot == slot.val | none => false)
  if k.zeroize = false ∨ inUse = true then .next s
  else
    let k' := if s.flag (F.CIP_KEYSLOT_INFO_LOADED slot) then { k with zeroize := false }
      else { k with zeroize := false, k1 := [], k2 := [] }
    .next ((s.setKeySlot slot k').post 0x0902 srcCipher ([slot.val] ++ List.replicate 7 0 ++ leBytes 8 k.gen))

/-! ## Engines (R343, R344, R350, R357) -/

/-- Input block `i` of a job. -/
def Cmd.jobBlock (c : Cmd) (i : Nat) : List Nat := ((joinChunks c.data.bytes).drop (16 * i)).take 16

/-- A job block leaves an engine (R357). -/
def State.jobOutput (s : State) (x : Engine) : State :=
  s.modCmd x.cmd (fun c =>
    let src := c.jobBlock x.block
    let out := if (c.id.body.getD 0 0).testBit 0 then aesDec x.key src else aesEnc x.key src
    { c with data := { c.data with plain := Table.put [] c.data.plain x.block out } })

/-- ENGINE_BLOCK_DONE: an engine finishes its block with the key it copied; the unit's work may be whole; idle engines take blocks
(R343, R344, R350). -/
def execEngineBlockDone (e : Fin 16) (s : State) : Res :=
  match s.engine e with
  | none => .next s.refillEngines
  | some x =>
    let s := s.setEngine e none
    match s.cipher.work.find? (fun w => w.cmd == x.cmd && w.unit == x.unit) with
    | none => .next s.refillEngines
    | some w =>
      let w' := { w with done := w.done + 1 }
      let s := s.setWorkItem w'
      let s := s.when (w.kind == .job) (fun s => s.jobOutput x)
      let whole := if w.kind = .job then decide ((s.cmd w.cmd).id.nblkJob ≤ w'.done) else decide (w'.blocks ≤ w'.done)
      .next ((s.when whole (fun s => s.workDone w')).refillEngines)

/-! ## Measurements and attestation (R358–R360) -/

/-- A measurement register extended with a digest (R359). -/
def State.extend (s : State) (m : Nat) (digest : List Nat) : State :=
  let old := Table.at (List.replicate 64 0) s.cipher.m m
  { s with cipher := { s.cipher with
    m := Table.put (List.replicate 64 0) s.cipher.m m (sha512 (old ++ digest))
    extendCount := Table.put 0 s.cipher.extendCount m (Table.at 0 s.cipher.extendCount m + 1) } }

/-- JTAG_STATE_CHANGE: M6 is extended with the digest of the debug record (R359). -/
def execJtagStateChange (enabled : Bool) (record : List Byte) (s : State) : Res :=
  let s := s.extend 6 (sha512 (padTo 64 (record.map BitVec.toNat)))
  .next { s with cipher := { s.cipher with jtagSeen := s.cipher.jtagSeen || enabled } }

/-- The lowest versions in force of MC, DS, LP and DP firmware (R360, R371, R508). -/
def State.versions (s : State) : List Nat := (List.range 4).flatMap (fun k => leBytes 4 (s.fld (F.FWU_VER_VERSION k)))

/-- Bytes 0–623 of an attestation report (R360). -/
def State.reportBody (s : State) (nonce : List Nat) : List Nat :=
  [0x52, 0x41, 0x54, 0x54, 1, 0] ++ leBytes 2 688 ++ leBytes 8 s.ct ++ padTo 32 nonce ++ leBytes 3 s.deviceId ++ [0xB1] ++
    leBytes 4 (b2n s.cipher.jtagSeen + 2 * s.fld F.FWU_BOOT_RUNNING) ++
    (List.range 8).map (fun m => min 255 (Table.at 0 s.cipher.extendCount m)) ++ padTo 32 Config.idPublicKey ++
    (List.range 8).flatMap (fun m => padTo 64 (Table.at (List.replicate 64 0) s.cipher.m m)) ++ s.versions

/-- Bytes that an untagged command delivers written to its buffer, poisoned where they were read with an error, or up the tree where it came
down; its record follows (R304, R371, R395). -/
def State.answerMarked (s : State) (h : Nat) (data : List Nat) (poison : Bool) : State :=
  let c := s.cmd h
  match c.origin with
  | .ring =>
    let s := s.emitAll (s.bufferWrites c.id.fn c.data.src 0 data poison)
    s.finish h { status := Status.success, done := data.length }
  | .chain _ _ =>
    let t := Table.put [] c.data.plain 0 data
    let t := if poison then Table.put [] t 1 [1] else t
    s.setCmd h { c with started := true, data := { c.data with plain := t } }

def State.answer (s : State) (h : Nat) (data : List Nat) : State := s.answerMarked h data false

/-- A command is carried out by MC firmware and not begun, and has the opcode given. -/
def Cmd.mayRun (c : Cmd) (op : Nat) : Bool := c.id.op == op && c.phase == .started && !c.started

/-- A command of the host may deliver: its function is live (R415, R418). -/
def State.mayDeliver (s : State) (h : Nat) : Bool := (s.cmd h).origin != .ring || s.fnLive (s.cmd h).id.fn

/-- ATTEST: the report, signed, goes into the command's buffer (R360). -/
def execAttest (h : Nat) (s : State) : Res :=
  let c := s.cmd h
  if c.mayRun Op.attest = true ∧ s.mayDeliver h = true then
    let body := s.reportBody c.id.body
    .next (s.answer h (body ++ padTo 64 (Config.idSign body)))
  else .next s

end Sys2Proof.Machine
end

