-- ==== Sys2Proof/Machine/Flash.lean ====
section
/-!
DEFINITION. The boot flash: its image slots, FW_DOWNLOAD, and the checks of an image (R493–R496, R524, R526).
-/
namespace Sys2Proof.Machine

/-! ## Contents -/

/-- A 4-KiB block of an image slot; erased flash reads as ones. -/
def State.flashBlock (s : State) (slot i : Nat) : List Nat :=
  match Table.at [] s.fw.flash (2048 * slot + i) with
  | [] => List.replicate 4096 0xFF
  | bs => bs

/-- The first `n` bytes of an image slot. -/
def State.flashBytes (s : State) (slot n : Nat) : List Nat :=
  ((List.range ((n + 4095) / 4096)).flatMap (s.flashBlock slot)).take n

/-- Data written into an image slot at a block boundary; a write at offset 0 first erases the slot (R495). -/
def State.programFlash (s : State) (slot offset : Nat) (data : List Nat) : State :=
  let kept := if offset = 0 then s.fw.flash.filter (fun e => e.1 / 2048 != slot) else s.fw.flash
  let go := (List.range (data.length / 4096)).foldl (fun t i =>
    Table.put [] t (2048 * slot + offset / 4096 + i) ((data.drop (4096 * i)).take 4096)) kept
  { s with fw := { s.fw with flash := go } }

/-- A block whose programming failed is undefined: its bytes are free values (R495). -/
def State.spoilFlash (s : State) (slot offset len : Nat) : State :=
  let data := (List.range len).map (fun i => Config.freeNat (s.free + i) % 256)
  ({ s with free := s.free + len }).programFlash slot offset data

/-! ## Images (R493, R494, R496) -/

/-- Entry `i` of a header's section table: type, interface level, version, offset, length. -/
def sectionEntry (hdr : List Nat) (i : Nat) : Nat × Nat × Nat × Nat × Nat :=
  let o := 32 + 16 * i
  (hdr.getD o 0, hdr.getD (o + 1) 0, leField hdr (o + 4) 4, leField hdr (o + 8) 4, leField hdr (o + 12) 4)

/-- The section table is as R493 asks: types 1–5 in order, offsets on 4,096, inside the image and clear of header, signature and one
another, at most 4 MiB of code and 2 MiB in section 5. -/
def sectionTableOk (hdr : List Nat) (len : Nat) : Bool :=
  let es := (List.range 5).map (sectionEntry hdr)
  let code : Nat := (es.take 4).foldl (fun a e => a + e.2.2.2.2) 0
  es.map (fun e => e.1) == [1, 2, 3, 4, 5] &&
    es.all (fun e => e.2.2.2.1 % 4096 == 0 && decide (4096 ≤ e.2.2.2.1) && decide (e.2.2.2.1 + e.2.2.2.2 + 64 ≤ len)) &&
    decide (code ≤ 4194304) && decide ((sectionEntry hdr 4).2.2.2.2 ≤ 2097152) &&
    (List.range 5).all (fun i => (List.range i).all (fun j =>
      let a := sectionEntry hdr i
      let b := sectionEntry hdr j
      decide (a.2.2.2.1 + a.2.2.2.2 ≤ b.2.2.2.1) || decide (b.2.2.2.1 + b.2.2.2.2 ≤ a.2.2.2.1)))

/-- The image in a slot, or the ERR_CODE of the first check that fails: 1 header, 2 length, 3 signature, 4 section table. -/
def State.imageIn (s : State) (slot : Nat) : Except Nat FwImage :=
  let hdr := s.flashBlock slot 0
  let len := leField hdr 8 4
  if hdr.take 4 ≠ [0x52, 0x46, 0x57, 0x49] ∨ leField hdr 4 2 ≠ 1 ∨ hdr.getD 7 0 ≠ 5 then .error 1
  else if 6299712 < len ∨ len < 4160 then .error 2
  else
    let bytes := s.flashBytes slot len
    if Config.vendorVerify (sha512 (bytes.take (len - 64))) (bytes.drop (len - 64)) = false then .error 3
    else if sectionTableOk hdr len = false then .error 4
    else
      let part (i : Nat) : List Nat := let e := sectionEntry hdr i; (bytes.drop e.2.2.2.1).take e.2.2.2.2
      .ok { slot := slot, version := leField hdr 12 4, proto := hdr.getD 6 0
            sections := (List.range 5).map (fun i =>
              let e := sectionEntry hdr i
              { type := e.1, ifLevel := e.2.1, version := e.2.2.1, digest := sha512 (part i) })
            strategies := Config.strategiesIn (part 4) }

/-! ## Which code runs (R491, R508) -/

/-- The processors by the bitmap numbers of R508: 0–15 LP, 16–23 DS, 24–31 DP, 32–35 MC. -/
def processors : List Nat := List.range 36

/-- The code slot that a processor runs. -/
def State.codeSlot (s : State) (p : Nat) : Nat :=
  if p < 32 then bitsOf (s.fld F.FWU_INFORCE_LO_CODE_SLOT) p 1 else bitsOf (s.fld F.FWU_INFORCE_HI_CODE_SLOT) (p - 32) 1

/-- The image in a code slot. -/
def State.codeImage (s : State) (slot : Nat) : Option FwImage := Table.at none s.fw.code slot

/-- The station of a processor of LP, DS or DP; MC has none. -/
def procStation (p : Nat) : Option Nat :=
  if p < 16 then some (p / 2) else if p < 24 then some (p - 16) else if p < 32 then some (p - 24) else none

/-- A processor runs: MC, and those of the stations present in their slots. -/
def State.procRuns (s : State) (p : Nat) : Bool :=
  match procStation p with
  | some st => s.stationPresent st
  | none => true

/-- The processors that run. -/
def State.running (s : State) : List Nat := processors.filter s.procRuns

/-- The boot-flash slot holds code that a processor runs. -/
def State.slotRuns (s : State) (slot : Nat) : Bool :=
  s.running.any (fun p => match s.codeImage (s.codeSlot p) with | some im => im.slot == slot | none => false)

/-! ## FW_DOWNLOAD (R495) -/

def CmdId.fwSlot (i : CmdId) : Nat := i.body.getD 0 0
def CmdId.fwOffset (i : CmdId) : Nat := leField i.body 4 4
def CmdId.fwLength (i : CmdId) : Nat := leField i.body 8 4
def CmdId.fwCrc (i : CmdId) : Nat := leField i.body 12 4

/-- The fields of a FW_DOWNLOAD are in range, and its slot is free. -/
def State.downloadOk (s : State) (i : CmdId) : Bool :=
  i.fwOffset % 4096 == 0 && i.fwLength % 4096 == 0 && decide (4096 ≤ i.fwLength) && decide (i.fwLength ≤ 1048576) &&
    decide (i.fwOffset + i.fwLength ≤ 8388608) && s.fw.verifying != some i.fwSlot &&
    (match s.fw.staged with | some im => im.slot != i.fwSlot | none => true) && !s.slotRuns i.fwSlot

/-- The next part of the block is fetched: reads of host memory, or a grant of at most 256 KiB up the tree (R441). -/
def State.pumpDownload (s : State) (h : Nat) : State :=
  let c := s.cmd h
  if c.op ≠ Op.fwDownload ∨ c.phase ≠ .started ∨ c.started = false then s
  else
    match c.origin with
    | .ring =>
      if s.pcie.reqs.any (fun r => r.cmd == h && r.purpose == .firmware) then s
      else State.issueSource h .firmware c.id.fwLength 1 s
    | .chain _ tag =>
      let off := c.data.nextRead
      if s.mbl.grants.any (fun g => g.tag == tag && g.mine) = true ∨ c.id.fwLength ≤ off then s
      else
        let n := min 262144 (c.id.fwLength - off)
        let g : Grant := { tag := tag, cmd := h, offset := off, len := n, moved := 0, mine := true }
        let s := { s with mbl := { s.mbl with grants := s.mbl.grants ++ [g] } }
        let s := s.setCmd h { c with data := { c.data with nextRead := off + n } }
        s.route { type := Pkt.xferRdy, flags := 0, dest := 0, src := s.deviceId, tag := tag, offset := 0
                  payload := leBytes 4 off ++ leBytes 4 n }

/-- Bytes of the block have come on chip; whole, it is checked and programmed. -/
def State.downloadBytes (s : State) (h off : Nat) (bytes : List Nat) : State :=
  let c := s.cmd h
  let t := Table.put [] c.data.bytes off bytes
  let s := s.setCmd h { c with data := { c.data with bytes := t } }
  let block := joinChunks t
  if block.length < c.id.fwLength then s.pumpDownload h
  else if crc32c block ≠ c.id.fwCrc then s.refuse h Status.invalidField
  else { s with fw := { s.fw with programming := s.fw.programming ++ [⟨h, c.id.fwSlot, c.id.fwOffset, block⟩] } }

/-- FW_DOWNLOAD begins: its fields and its slot are checked, and its block is fetched. -/
def execFwDownload (h : Nat) (s : State) : Res :=
  let c := s.cmd h
  if c.mayRun Op.fwDownload = false then .next s
  else if s.downloadOk c.id = false then .next (s.refuse h Status.invalidField)
  else .next ((s.setCmd h { c with started := true }).pumpDownload h)

/-- FLASH_PROGRAM_DONE: the programming and read-back of the first block under way end, well or not. -/
def execFlashProgramDone (ok : Bool) (s : State) : Res :=
  match s.fw.programming with
  | [] => .next s
  | p :: rest =>
    let s := { s with fw := { s.fw with programming := rest } }
    if ok then .next ((s.programFlash p.slot p.offset p.data).finish p.cmd { status := Status.success })
    else
      let s := s.spoilFlash p.slot p.offset p.data.length
      let s := s.raise F.FWU_STATUS_FLASH_FAULT 0x0E0A srcFirmware ([0xFF, p.slot, 0, 0] ++ leBytes 4 p.offset)
      .next (s.finish p.cmd { status := Status.writeFault })

end Sys2Proof.Machine
end

