-- ==== Sys2Proof/Machine/LaneMath.lean ====
section
/-!
DEFINITION. The arithmetic of a read lane, exact: sample correction and its loops (R215–R218), the frequency (R222–R225), the
two-dimensional equalizer and its adaptation (R228, R229, R231), the soft detector (R232, R233) and the quality figures (R238). The manual
gives no precision between the registers' steps; the model keeps every value exact and rounds where a register shows it (log entry 20).
-/
namespace Sys2Proof.Machine

/-- 2 to the power −k. -/
def halves (k : Nat) : Rat := 1 / ((2 ^ k : Nat) : Rat)

/-- A quotient; by zero, a value that the manual leaves open. -/
def ratio (a t : Rat) : Rat := if t = 0 then Config.freeRatio a else a / t

/-- A value rounded to the nearest integer, a half rounding up. -/
def roundRat (x : Rat) : Int := (x + 1 / 2).floor

/-- The absolute value. -/
def absRat (x : Rat) : Rat := if x < 0 then -x else x

/-- The settings with which a lane reads one frame. -/
structure LanePar where
  s4 : Bool := false
  k : Nat := 0                      -- own row
  len : Nat := 50176                -- channel bits of a frame
  pre : Nat := 192                  -- preamble
  loops : Bool := true              -- ADAPT_LOOPS
  eq : Bool := true                 -- ADAPT_EQ
  erase : Bool := true
  blank : Bool := false
  lost : Option Nat := none
  offSh : Nat := 10
  gainSh : Nat := 12
  asymSh : Nat := 14
  tiAcq : Nat := 9
  tiTrk : Nat := 14
  set : LaneSetting := {}
  deriving DecidableEq, Repr

/-- The corrected sample of R215. -/
def correct (offset dgain asym x : Rat) : Rat :=
  let v := dgain * (x - offset)
  v - asym * (v * v) / 128

/-- The correction loops between two bits: the values, the two corrected samples before, the frequency, what has come out. -/
structure LoopState where
  n : Int
  offset : Rat
  dgain : Rat
  asym : Rat
  freq : Rat
  z1 : Rat := 0                     -- z[n − 1], z[n − 2]
  z2 : Rat := 0
  hold1 : Bool := true              -- the loops held at bit n − 1
  out : List Rat := []              -- corrected samples, the last first

/-- A frame bit at which timing is not lost. -/
def LanePar.timed (p : LanePar) (n : Int) : Bool :=
  match p.lost with
  | some m => decide (n < m)
  | none => true

/-- The loops hold at a bit (R218), and outside the frame. -/
def LanePar.holds (p : LanePar) (n : Int) (b : LaneBit) : Bool :=
  !p.loops || b.defect || p.blank || !p.timed n || decide (n < 0) || decide ((p.len : Int) ≤ n)

/-- The frequency after a bit (R222–R225): the acquisition gain up to the mark, the tracking gain from there, no error in a defect span,
free running in a blank frame and after a loss. -/
def LanePar.nextFreq (p : LanePar) (n : Int) (b : LaneBit) (f : Rat) : Rat :=
  if n < 64 ∨ (p.len : Int) ≤ n ∨ p.blank = true ∨ b.defect = true ∨ p.timed n = false then f
  else
    let g := f + halves (if n < p.pre then p.tiAcq else p.tiTrk) * b.phase
    if g < -(15 / 1000) then -(15 / 1000) else if 15 / 1000 < g then 15 / 1000 else g

/-- One bit of R215 and R216. A run interior is known when the bit after it has come, so dgain and asym move one bit later. -/
def LanePar.loopStep (p : LanePar) (s : LoopState) (b : LaneBit) : LoopState :=
  let z := correct s.offset s.dgain s.asym b.x
  let t : Rat := p.set.target
  let mark := decide (0 < z) && decide (0 < s.z1) && decide (0 < s.z2)
  let space := decide (z < 0) && decide (s.z1 < 0) && decide (s.z2 < 0)
  let hold := p.holds s.n b
  let r := ratio (absRat s.z1 - t) t
  let inner := (mark || space) && !s.hold1
  let dgain := if inner then s.dgain * (1 - halves p.gainSh * r) else s.dgain
  let asym := if inner then s.asym + halves p.asymSh * (if mark then r else -r) else s.asym
  { n := s.n + 1, offset := if hold then s.offset else s.offset + halves p.offSh * z
    dgain := dgain, asym := asym, freq := p.nextFreq s.n b s.freq, z1 := z, z2 := s.z1, hold1 := hold, out := z :: s.out }

/-! ## Equalizer -/

/-- Corrected samples by beam, with the bit at which the rows begin. -/
structure Rows where
  first : Int
  rows : List (Array Rat)

/-- z of beam `j` at bit `n`. -/
def Rows.z (r : Rows) (j : Nat) (n : Int) : Rat :=
  let row := r.rows.getD j #[]
  if n < r.first then Config.freeSample j n
  else match row[(n - r.first).toNat]? with
    | some v => v
    | none => Config.freeSample j n

/-- The equalizer output at bit `n` (R228); row 0 only on Format S4 (R231). -/
def Rows.eqOut (r : Rows) (rowsUsed : Nat) (coef : Table Rat) (n : Int) : Rat :=
  (List.range rowsUsed).foldl (fun a j => (List.range 15).foldl (fun a t =>
    a + Table.at 0 coef (15 * j + t) * r.z j (n - ((t : Int) - 7))) a) 0

/-- A bit as an amplitude: +1 a mark, −1 a space. -/
def amp (b : Bool) : Rat := if b then 1 else -1

/-- The target level of three bits, the newest first (R228). -/
def LaneSetting.level (s : LaneSetting) (a b c : Bool) : Rat :=
  let g (i : Nat) : Rat := s.g.getD i 0
  s.target * ratio (g 0 * amp a + g 1 * amp b + g 2 * amp c) (g 0 + g 1 + g 2)

/-! ## Detector -/

/-- The four states of the detector: bit n − 1 and bit n − 2. -/
def detStates : List (Bool × Bool) := [(false, false), (false, true), (true, false), (true, true)]

/-- A metric by state. -/
def metric (m : List Rat) (s : Bool × Bool) : Rat := m.getD (2 * b2n s.1 + b2n s.2) 0

/-- The metric of one step from state `s` with bit `b` at output `e`. -/
def LaneSetting.branch (c : LaneSetting) (e : Rat) (s : Bool × Bool) (b : Bool) : Rat :=
  (e - c.level b s.1 s.2) * (e - c.level b s.1 s.2)

def minRat (a b : Rat) : Rat := if a ≤ b then a else b

/-- The smallest metrics of the paths that end in each state after one more bit. -/
def LaneSetting.forward (c : LaneSetting) (m : List Rat) (e : Rat) : List Rat :=
  detStates.map (fun s =>
    minRat (metric m (s.2, false) + c.branch e (s.2, false) s.1) (metric m (s.2, true) + c.branch e (s.2, true) s.1))

/-- The smallest metrics of the paths that go on from each state before a bit. -/
def LaneSetting.backward (c : LaneSetting) (e : Rat) (m : List Rat) : List Rat :=
  detStates.map (fun s =>
    minRat (c.branch e s false + metric m (false, s.1)) (c.branch e s true + metric m (true, s.1)))

/-- The metrics before each bit. -/
def LaneSetting.alphas (c : LaneSetting) : List Rat → List Rat → List (List Rat)
  | _, [] => []
  | m, e :: es => m :: LaneSetting.alphas c (c.forward m e) es

/-- The metrics after each bit. -/
def LaneSetting.betas (c : LaneSetting) (es : List Rat) : List (List Rat) :=
  (es.foldr (fun e (acc : List Rat × List (List Rat)) => (c.backward e acc.1, acc.1 :: acc.2)) ([0, 0, 0, 0], [])).2

/-- The least of a list, 0 of none. -/
def leastRat : List Rat → Rat
  | [] => 0
  | x :: xs => xs.foldl minRat x

/-- M₊ − M₋ at each bit of a stretch of outputs (R232, R233). -/
def LaneSetting.softBits (c : LaneSetting) (es : List Rat) : List Rat :=
  (es.zip ((c.alphas [0, 0, 0, 0] es).zip (c.betas es))).map (fun x =>
    let best (b : Bool) := leastRat (detStates.map (fun s => metric x.2.1 s + c.branch x.1 s b + metric x.2.2 (b, s.1)))
    best true - best false)

/-- The LLR of a metric difference (R233); with σ² zero the value is open. -/
def softLlr (scale : Nat) (sigma2 d : Rat) (free : Nat) : Int :=
  if sigma2 = 0 then clampInt (-31) 31 (toSigned 6 (Config.freeNat free))
  else clampInt (-31) 31 (roundRat (d / (2 * sigma2) * scale / 16))

/-! ## A frame -/

/-- What the detector's windows leave behind: the coefficients, σ², the LLRs, the figures of the quality record. -/
structure EqState where
  coef : Table Rat
  sigma2 : Rat
  llrs : List Int := []             -- the last first
  errSum : Rat := 0                 -- of err² over tracking bits outside defect spans
  errBits : Nat := 0
  eLow : Option Rat := none         -- smallest and largest phase error at transitions
  eHigh : Option Rat := none

/-- The flags of a bit as the windows need them. -/
structure BitFlags where
  defect : Bool
  anyDefect : Bool
  phase : Rat

/-- Rows that the lane uses. -/
def LanePar.used (p : LanePar) : Nat := if p.s4 then 1 else 4

/-- The equalizer adapts at frame bit `n` (R229), apart from ADAPT_EQ. -/
def LanePar.adapts (p : LanePar) (n : Nat) (b : BitFlags) : Bool :=
  p.loops && !p.blank && !b.defect && !b.anyDefect && decide (192 ≤ n) && p.timed n

/-- The coefficients after one bit (R229): all but the centre tap of the lane's own row. -/
def adaptCoef (used k : Nat) (c : LaneSetting) (rows : Rows) (coef : Table Rat) (err : Rat) (n : Int) : Table Rat :=
  (List.range (15 * used)).foldl (fun t i =>
    if i = 15 * k + 7 then t
    else Table.put 0 t i (Table.at 0 t i +
      halves c.eqSh * err * ratio (rows.z (i / 15) (n - ((i % 15 : Nat) : Int) + 7)) c.target)) coef

/-- Three decisions in a row, the newest first: a mark where M₊ is the smaller. -/
def decided (soft : List Rat) (i : Nat) : Bool := decide (soft.getD i 0 < 0)

/-- One window of 64 bits from frame bit `n0`, with 64 bits of warm-up on each side (R232). The coefficients and σ² move after the window's
decisions; the window itself uses those from before it. -/
def LanePar.window (p : LanePar) (rows : Rows) (flags : Nat → BitFlags) (free n0 : Nat) (s : EqState) : EqState :=
  let c := p.set
  let es := (List.range 192).map (fun (i : Nat) => rows.eqOut p.used s.coef ((n0 : Int) + i - 64))
  let soft := c.softBits es
  (List.range 64).foldl (fun (a : EqState) i =>
    let n := n0 + i
    let f := flags n
    let dec (d : Nat) := decided soft (64 + i - d)
    let err := c.level (dec 0) (dec 1) (dec 2) - es.getD (64 + i) 0
    let silent := p.blank || !p.timed n || (f.defect && p.erase)
    let l := if silent then 0 else softLlr c.scale s.sigma2 (soft.getD (64 + i) 0) (free + n)
    let tracking := decide (p.pre ≤ n) && !p.blank && p.timed n && !f.defect
    let turn := tracking && dec 0 != dec 1
    let run := p.adapts n f
    { coef := if run && p.eq then adaptCoef p.used p.k c rows a.coef err n else a.coef
      sigma2 := if run then a.sigma2 + (err * err - a.sigma2) / 4096 else a.sigma2
      llrs := l :: a.llrs
      errSum := if tracking then a.errSum + err * err else a.errSum
      errBits := if tracking then a.errBits + 1 else a.errBits
      eLow := if turn then some (match a.eLow with | some v => minRat v f.phase | none => f.phase) else a.eLow
      eHigh := if turn then some (match a.eHigh with | some v => -(minRat (-v) (-f.phase)) | none => f.phase) else a.eHigh }) s

/-- A whole frame through the equalizer and the detector. -/
def LanePar.frame (p : LanePar) (rows : Rows) (flags : Nat → BitFlags) (free : Nat) (s : EqState) : EqState :=
  (List.range (p.len / 64)).foldl (fun a w => p.window rows flags free (64 * w) a) s

/-- MSE in 1/16 code², saturating, where there were tracking bits (R238). -/
def EqState.mse (s : EqState) : Option Nat :=
  if s.errBits = 0 then none else some (min 65535 (roundRat (16 * s.errSum / (s.errBits : Rat))).toNat)

/-- EYE in 1/64 channel bit, where there were transitions (R238). -/
def EqState.eye (s : EqState) : Option Nat :=
  match s.eLow, s.eHigh with
  | some lo, some hi => some (64 - roundRat (64 * (hi - lo))).toNat
  | _, _ => none

/-! ## Gain steps (R217) -/

/-- The VGA steps nearest 20 log10 d in 1/32 dB, between −960 and 960: step k begins where d^1280 passes 10^(2k − 1). -/
def gainSteps (d : Rat) : Int :=
  let a := d.num.toNat ^ 1280
  let b := d.den ^ 1280
  let passed (k : Int) : Bool :=
    let e := 2 * k - 1
    if 0 ≤ e then decide (10 ^ e.toNat * b ≤ a) else decide (b ≤ a * 10 ^ (-e).toNat)
  ((List.range 1920).filter (fun (i : Nat) => passed ((i : Int) - 959))).length - 960

/-- The greatest r with r^640 ≤ v, by bisection on the bits of the answer. -/
def root640 (v : Nat) : (k r : Nat) → Nat
  | 0, r => r
  | k + 1, r => if (r + 2 ^ k) ^ 640 ≤ v then root640 v k (r + 2 ^ k) else root640 v k r

/-- The factor of `k` VGA steps, 10^(k / 640), to 24 binary places. -/
def gainFactor (k : Int) : Rat :=
  let up (n : Nat) : Rat := (root640 (10 ^ n * 2 ^ 15360) 30 0 : Rat) / ((2 ^ 24 : Nat) : Rat)
  if 0 ≤ k then up k.toNat else 1 / up (-k).toNat

/-! ## Retained images (R235, R237, R257) -/

/-- The rows of an image, bit 0 of the frame's expectation at place 4,096. -/
def imageRows (rows : List (List Int)) : Rows :=
  ⟨-4096, rows.map (fun r => (r.map (fun (v : Int) => (v : Rat))).toArray)⟩

/-- LLRs of an image from bit `n0` of the expectation on, in windows of 64 bits; `k` windows. -/
def imageLlrs (c : LaneSetting) (used : Nat) (rows : Rows) (sigma2 : Rat) (free : Nat) (n0 : Int) (k : Nat) : List Int :=
  (List.range k).flatMap (fun (w : Nat) =>
    let at0 := n0 + 64 * w
    let es := (List.range 192).map (fun (i : Nat) => rows.eqOut used c.coef (at0 + i - 64))
    let soft := c.softBits es
    (List.range 64).map (fun (i : Nat) => softLlr c.scale sigma2 (soft.getD (64 + i) 0) (free + 64 * w + i)))

/-- err² summed over an image's frame under a setting, and with `adapt` the coefficients that R229 leaves. -/
def imagePass (c : LaneSetting) (used k len : Nat) (rows : Rows) (adapt : Bool) : Rat × Table Rat :=
  let r := (List.range (len / 64)).foldl (fun (a : Rat × Table Rat) w =>
    let es := (List.range 192).map (fun i => rows.eqOut used a.2 (((64 * w + i : Nat) : Int) - 64))
    let soft := c.softBits es
    (List.range 64).foldl (fun (b : Rat × Table Rat) i =>
      let dec (d : Nat) := decided soft (64 + i - d)
      let err := c.level (dec 0) (dec 1) (dec 2) - es.getD (64 + i) 0
      (b.1 + err * err, if adapt then adaptCoef used k c rows b.2 err ((64 * w + i : Nat) : Int) else b.2)) a) (0, c.coef)
  (r.1 / (len : Rat), r.2)

end Sys2Proof.Machine
end

