-- ==== Sys2Proof/Machine/Recovery.lean ====
section
/-!
DEFINITION. Framing, decoding and sector recovery (R244–R268): the search for the marks, the hypotheses, the results of the decode units,
re-decode rounds, the outer code, blank blocks and re-reads. What a decode unit converges on is its operand; what follows is the rules'.
-/
namespace Sys2Proof.Machine

/-! ## Sync-mark search (R246, R247, R267) -/

/-- The two sync marks, the first recorded bit first (R48). -/
def primaryMark : List Bool := msbBits 48 0xFFF000E34B6D
def secondaryMark : List Bool := msbBits 48 0x000FFF1CB492

/-- Disagreements of LLRs with a pattern: L < 0 is a mark, and L = 0 disagrees (R246). -/
def markDistance (pattern : List Bool) (llrs : List Int) : Nat :=
  ((pattern.zip llrs).filter (fun x => !(if x.1 then decide (x.2 < 0) else decide (0 < x.2)))).length +
    (pattern.length - llrs.length)

/-- The offset from the expected position at which a mark is found: the least distance, then the nearer, then the earlier (R246). `llrs`
begins `win` bits before the expected position. -/
def findMark (win tol : Nat) (pattern : List Bool) (llrs : List Int) : Option Int :=
  let cands := (List.range (2 * win + 1)).map (fun i => (i, markDistance pattern ((llrs.drop i).take 48)))
  let near (i : Nat) : Nat := if win < i then 2 * (i - win) + 1 else 2 * (win - i)
  match leastBy (fun (c : Nat × Nat) => c.2 * 1024 + near c.1) cands with
  | some c => if c.2 ≤ tol then some ((c.1 : Int) - win) else none
  | none => none

/-- The outcome of a search (R247): the hypotheses, whether it is a sync doubt, and whether a sync conflict. -/
structure SyncResult where
  hyps : List Hyp := []
  doubt : Bool := false
  conflict : Bool := false
  deriving DecidableEq, Repr

/-- The table of R247. -/
def syncHyps (split : Bool) (p q : Option Int) : SyncResult :=
  match p, q with
  | some f1, some f2 =>
    let d := f2 - f1
    if d = 0 then { hyps := [⟨0, f1, f1, false⟩] }
    else if d.natAbs ≤ 8 then
      { hyps := [⟨0, f1, f1, false⟩, ⟨1, f2, f2, false⟩] ++ (if split then [⟨2, f1, f2, false⟩, ⟨3, f2, f2, true⟩] else [])
        doubt := true }
    else { hyps := [⟨0, f2, f2, false⟩, ⟨1, f2, f2, true⟩], doubt := true, conflict := true }
  | none, some f2 => { hyps := [⟨0, f2, f2, false⟩, ⟨1, f2, f2, true⟩], doubt := true }
  | some f1, none => { hyps := [⟨0, f1, f1, false⟩], doubt := true }
  | none, none => {}

/-- The search on Format S4: one mark, no doubt (R267). -/
def syncHypsS4 (p : Option Int) : SyncResult :=
  match p with
  | some f => { hyps := [⟨0, f, f, false⟩] }
  | none => {}

/-- The search windows of a frame have closed (R246, R247): hypotheses are formed, or the sector is an erasure. `p` and `q` hold the LLRs
of the primary and secondary windows, from WIN bits before the expected position. -/
def execSyncSearch (bc : Fin 64) (p q : List Int) (s : State) : Res :=
  let l := s.lane bc
  match l.target with
  | none => .next s
  | some (e, j) =>
    let w := s.work e
    let x := w.sec j
    if l.reading = false ∨ l.blank = true ∨ w.active = false ∨ x.st ≠ .expected ∨ s.secLane w j ≠ bc.val then .next s
    else
      let win := min 64 (s.fld (F.RCH_SYNC_CFG_WIN bc))
      let tol := s.fld (F.RCH_SYNC_CFG_TOL bc)
      let m1 := findMark win tol primaryMark p
      let r := if (s.disc w.station).s4 then syncHypsS4 m1
        else syncHyps (s.flag (F.RCH_SYNC_CFG_SPLIT_EN bc)) m1 (findMark win tol secondaryMark q)
      if r.hyps.isEmpty then
        .next (((s.releaseImage e j).modSec e j (fun x => { x with st := .erased, missed := x.missed + 1 })).settleBlock e)
      else
        let s := s.modSec e j (fun x => { x with
          st := .decoding, hyps := r.hyps, h0 := if x.h0.isNone then r.hyps.head? else x.h0
          doubts := x.doubts + b2n r.doubt, conflicts := x.conflicts + b2n r.conflict })
        .next (if r.doubt then s.armCapture e j true true else s)

/-! ## Results of the decode units (R248–R252) -/

/-- The code of a disc's sectors. -/
def DiscInfo.ldpc (d : DiscInfo) : LdpcParams := if d.s4 then ldpcS4 else ldpcQ8

/-- The payload of a codeword (R49). -/
def codewordPayload (w : Nat) : List Nat := leBytes 4160 w

/-- Rounds that a pinned sector runs (R257). -/
def State.rounds (s : State) : Nat := s.fld F.RCH_DEC_CFG_ROUNDS

/-- A pinned sector waits for its next round, or ends ERASED after its last (R253, R257). -/
def State.nextRound (s : State) (e j : Nat) : State :=
  if ((s.work e).sec j).roundOn < s.rounds then
    { s with decoder := { s.decoder with waitRound := s.decoder.waitRound ++ [(e, j)] } }
  else (s.releaseImage e j).modSec e j (fun x => { x with st := .erased })

/-- A rung failed (R249, R253): a first pass is captured where the limit allows and pinned where it has an image; a round gives way to the
next. -/
def State.rungFailed (s : State) (e j : Nat) (inTime : Bool) : State :=
  let x := (s.work e).sec j
  if x.st = .decoding then
    let s := s.armCapture e j false inTime
    if ((s.work e).sec j).image then
      (s.modSec e j (fun x => { x with st := .pinned, roundOn := 0, rounding := false })).nextRound e j
    else s.modSec e j (fun x => { x with st := .erased })
  else (s.modSec e j (fun x => { x with rounding := false })).nextRound e j

/-- A hypothesis failed; the rung fails with its last (R249). -/
def State.hypFailed (s : State) (e j idx : Nat) (inTime : Bool) : State :=
  let s := s.modSec e j (fun x => { x with hyps := x.hyps.filter (fun h => h.idx != idx) })
  let s := if ((s.work e).sec j).hyps.isEmpty then s.rungFailed e j inTime else s
  s.settleBlock e

/-- The sector is being decoded under a hypothesis. -/
def State.decodes (s : State) (e j idx : Nat) : Bool :=
  let w := s.work e
  let x := w.sec j
  w.active && (x.st == .decoding || (x.st == .pinned && x.rounding)) && x.hyps.any (fun h => h.idx == idx)

/-- A decode has converged on a codeword (R249, R251): where the sector passes R52 the hypothesis wins and the sector is confirmed, else the
hypothesis has failed. `inTime`: the capture limit of R236 has not passed. -/
def execDecodeConverged (e : Fin 48) (j : Fin 72) (idx : Fin 4) (codeword : Nat) (inTime : Bool) (s : State) : Res :=
  let w := s.work e
  let x := w.sec j
  let d := s.disc w.station
  if s.decodes e j idx = false ∨ ldpcConverged d.ldpc codeword = false then .next s
  else
    let payload := codewordPayload codeword
    if sectorChecks (s.secPsa w j) payload then
      let outcome := if x.st = .pinned then Outcome.redecode else if idx.val = 0 then Outcome.clean else Outcome.hypothesis
      let f := ((x.hyps.find? (fun h => h.idx == idx.val)).getD ⟨0, 0, 0, false⟩).f2
      let bc := s.secLane w j
      let s := s.setLane bc { s.lane bc with framing := f }
      .next ((s.confirmSector e j outcome payload).settleBlock e)
    else .next (s.hypFailed e j idx inTime)

/-- A decode has reached its iteration limit (R251). -/
def execDecodeMaxIter (e : Fin 48) (j : Fin 72) (idx : Fin 4) (inTime : Bool) (s : State) : Res :=
  if s.decodes e j idx then .next (s.hypFailed e j idx inTime) else .next s

/-! ## Re-decode rounds (R257) -/

/-- A free re-equalizer takes the oldest waiting sector whose image is written (R257). -/
def execRedecodeRoundStart (s : State) : Res :=
  if 8 ≤ s.decoder.reeq.length then .next s
  else
    match s.decoder.waitRound.find? (fun r => ((s.work r.1).sec r.2).imageDone) with
    | none => .next s
    | some r =>
      let s := s.modSec r.1 r.2 (fun x => { x with
        roundOn := x.roundOn + 1, rounding := true, passes := if x.roundOn + 1 = 3 then 2 else 1, hyps := [] })
      .next { s with decoder := { s.decoder with
        waitRound := s.decoder.waitRound.filter (fun y => y != r), reeq := s.decoder.reeq ++ [r] } }

/-- The 240 bytes that the loaded disc's layer record holds for a beam, or the image defaults (R230, R257, R485, R486). -/
def State.laneRecord (s : State) (st bc layer : Nat) : List Nat :=
  let side := bc / 4 % 2
  let held := Table.at {} s.calib.sets (8 * st + s.fld (F.CAL_ST_SETS_LOADED st))
  let rec_ := if s.fld (F.CAL_ST_SETS_LOADED st) < 8 then Table.at [] held.layers (8 * side + layer) else []
  if (rec_.getD 9 0).testBit 4 then (rec_.drop (64 + 240 * (bc % 4))).take 240
  else
    let v := match s.codeImage (s.codeSlot (16 + st)) with | some im => im.version | none => 0
    Config.laneDefault v bc layer

/-- The equalizer settings in the bytes of a layer record's lane. -/
def settingOfRecord (r : List Nat) (eqSh : Nat) : LaneSetting :=
  let t := leField r 130 4
  { coef := (List.range 60).foldl (fun c i =>
      Table.put 0 c i ((toSigned 12 (leField r (2 * i) 2) : Rat) / 1024)) []
    target := bitsOf t 0 8
    g := [toSigned 4 (bitsOf t 8 4), toSigned 4 (bitsOf t 12 4), toSigned 4 (bitsOf t 16 4)]
    scale := r.getD 134 0
    eqSh := eqSh }

/-- A re-equalizer pass over a sector's image ends (R237, R257): the first pass of round 3 adapts; the last pass of a round estimates σ²,
searches the marks again with WIN 64 and TOL_RD, and hands the hypotheses to the decode units. -/
def execReequalizerPassDone (e : Fin 48) (j : Fin 72) (s : State) : Res :=
  let w := s.work e
  let x := w.sec j
  let d := s.disc w.station
  let bc := s.secLane w j
  if s.decoder.reeq.contains (e.val, j.val) = false then .next s
  else
    let used := if d.s4 then 1 else 4
    let len := if d.s4 then 46080 else 50176
    let rows := imageRows x.rows
    if 1 < x.passes then
      let c := { x.setting with eqSh := x.setting.eqSh - 2 }
      let r := imagePass c used (bc % 4) len rows true
      .next (s.modSec e j (fun x => { x with passes := x.passes - 1, setting := { x.setting with coef := r.2 } }))
    else
      let c := if x.roundOn = 2 then settingOfRecord (s.laneRecord w.station bc w.layer) x.setting.eqSh else x.setting
      let sigma2 := (imagePass c used (bc % 4) len rows false).1
      let tol := s.fld (F.RCH_SYNC_CFG_TOL_RD bc)
      let m1 := findMark 64 tol primaryMark ((imageLlrs c used rows sigma2 s.free (if d.s4 then 64 else 128) 3).take 176)
      let r := if d.s4 then syncHypsS4 m1
        else syncHyps (s.flag (F.RCH_SYNC_CFG_SPLIT_EN bc)) m1
          (findMark 64 tol secondaryMark ((imageLlrs c used rows sigma2 s.free 1200 3).take 176))
      let s := { s with free := s.free + 192
                        decoder := { s.decoder with reeq := s.decoder.reeq.filter (fun y => y != (e.val, j.val)) } }
      if r.hyps.isEmpty then .next ((s.rungFailed e j false).settleBlock e)
      else .next (s.modSec e j (fun x => { x with hyps := r.hyps, passes := 0 }))

/-! ## Outer code (R258, R259) -/

/-- The three conditions of R258. -/
def State.outerDue (s : State) (e : Nat) : Bool :=
  let w := s.work e
  let d := s.disc w.station
  let n := d.perBlock
  w.active && !w.outerBusy && !w.outerFailed && w.countIn n SecState.open == 0 &&
    decide (d.dataPerBlock ≤ w.countIn n (· == .confirmed)) &&
    decide (w.countIn d.dataPerBlock (· == .confirmed) < d.dataPerBlock)

/-- The outer decode of a block starts: rounds of its pinned sectors are cancelled, and they count as erasures (R258). -/
def execOuterDecode (e : Fin 48) (s : State) : Res :=
  if s.outerDue e then
    let n := (s.disc (s.work e).station).perBlock
    let s := s.forEach (List.range n) (fun s j =>
      if ((s.work e).sec j).st = .pinned then
        (s.cancelSector e j).modSec e j (fun x => { x with st := .erased })
      else s)
    .next (s.modWork e (fun w => { w with outerBusy := true }))
  else .next s

/-- The payload of a restored data sector (R54): what the code gives, and the fields that its position and a survivor give. -/
def restoredPayload (psa lba j stamp : Nat) (cols : List Nat) : List Nat :=
  let user := cols.drop 21
  sectorMeta psa lba j (cols.getD 0 0) (ofLeBytes ((cols.drop 1).take 4)) stamp ((cols.drop 5).take 16) user ++ user

/-- The outer decode of a block ends: its erased data sectors are restored, or an unused syndrome shows that it fails (R258, R259). -/
def execOuterDecodeDone (e : Fin 48) (s : State) : Res :=
  let w := s.work e
  let d := s.disc w.station
  if w.active = false ∨ w.outerBusy = false then .next s
  else
    let n := d.perBlock
    let erased := (List.range n).filter (fun j => (w.sec j).st != .confirmed)
    let cols := outerColumns.map (fun c =>
      rsDecode d.parityPerBlock erased ((List.range n).map (fun j => (w.sec j).payload.getD c 0)))
    let s := s.modWork e (fun w => { w with outerBusy := false })
    if cols.all (fun c => c.2) then
      let stamp := match (List.range n).find? (fun j => (w.sec j).st == .confirmed) with
        | some j => metaStamp (w.sec j).payload
        | none => 0
      let s := s.forEach (erased.filter (fun j => decide (j < d.dataPerBlock))) (fun s j =>
        s.confirmSector e j Outcome.outer
          (restoredPayload (s.secPsa w j) (s.secLba w j) j stamp (cols.map (fun c => c.1.getD j 0))))
      .next (s.settleBlock e)
    else
      let s := s.modWork e (fun w => { w with outerFailed := true })
      let s := s.report e { lane := s.secLane w 0, outerBad := some (s.secPsa w 0) }
      .next (s.settleBlock e)

/-! ## Blank blocks and re-reads (R260, R261) -/

/-- A block's 65th blank frame is counted (the 33rd on Format S4): the block is blank (R260, R267). -/
def execBlockBlank (e : Fin 48) (s : State) : Res :=
  let w := s.work e
  let d := s.disc w.station
  if w.active = true ∧ w.blank = none ∧ d.blankLimit ≤ w.blanks then
    let s := s.modWork e (fun w => { w with blank := some true })
    let s := s.forEach (List.range d.perBlock) (fun s j =>
      if ((s.work e).sec j).st = .blankFrame then s.finalSector e j .blank Outcome.blank [] else s)
    .next (s.settleBlock e)
  else .next s

/-- DS s schedules the re-read of a block (R253, R261): its erased sectors are expected again. -/
def execReread (e : Fin 48) (s : State) : Res :=
  let w := s.work e
  if s.needsReread e = true ∧ w.noRetry = false ∧ w.rereads < s.fld F.RCH_DEC_CFG_REREAD_MAX then
    .next (s.modWork e (fun w => { w with
      rereads := w.rereads + 1, rereading := true, outerFailed := false, blanks := 0, taken := 0
      secs := w.secs.map (fun x =>
        if x.2.st = .erased then
          (x.1, { x.2 with st := SecState.expected, hyps := [], h0 := none, captureTried := false, roundOn := 0 })
        else x) }))
  else .next s

end Sys2Proof.Machine
end

