-- ==== Sys2Proof/Machine/Lane.lean ====
section
/-!
DEFINITION. The read lanes (R209–R243): modes, staged writes, the start and end of a frame, defects, loss of timing, captures and the
quality flags. The samples that a lane takes in over a frame are the operand of FRAME_END; what it makes of them is *LaneMath*'s.
-/
namespace Sys2Proof.Machine

/-- The slot of a station is powered (R463). -/
def State.slotPowered (s : State) (st : Nat) : Bool :=
  let v := s.fld (F.HPC_SLOT_STATUS_STATE st)
  decide (3 ≤ v) && decide (v ≤ 6)

/-- The mode in force on a lane, with the overrides in their order (R210); beam ADC trim places it in IDLE (R477). -/
def State.laneMode (s : State) (bc : Nat) : Nat :=
  let n := bc / 4
  let mode := s.fld (F.RCH_LANE_CTRL_MODE bc)
  if s.slotPowered (n / 2) = false then 0
  else if (Table.at {} s.calib.runs n).proc = 1 then min mode 1
  else if (s.disc (n / 2)).s4 = true ∧ bc % 4 ≠ 0 then 0
  else if mode = 2 then
    if (s.pickup n).gates.testBit (bc % 4) then 3
    else if s.puState n = Pu.follow ∨ s.puState n = Pu.belay then 2 else 3
  else min mode 1

def State.modLane (s : State) (bc : Nat) (f : Lane → Lane) : State := s.setLane bc (f (s.lane bc))

/-- The lanes of a pickup leave READ (R210): a frame in hand is given up, its sector to be taken again (R141), and the next READ begins by
acquisition. -/
def State.holdLanes (s : State) (n : Nat) : State :=
  s.forEach (List.range 4) (fun s k =>
    let bc := 4 * n + k
    let l := s.lane bc
    let s := s.setLane bc { l with reading := false, readOn := false, target := none }
    let s := s.put (F.RCH_LANE_STATUS_LOCKED bc) 0
    match l.reading, l.target with
    | true, some (e, j) =>
      if (s.work e).active = true ∧ ((s.work e).sec j).st = .decoding then
        (s.cancelSector e j).modSec e j (fun x => { x with st := .expected, h0 := none, captureTried := false })
      else s
    | _, _ => s)

/-! ## Registers and the exact values behind them -/

/-- The fields of a staged register, with their places in its word (R243). -/
def laneRegFields (bc : Nat) : LaneReg → List (Fld × Nat)
  | .ctrl => [(F.RCH_LANE_CTRL_MODE bc, 0), (F.RCH_LANE_CTRL_ADAPT_LOOPS bc, 2), (F.RCH_LANE_CTRL_ADAPT_EQ bc, 3),
      (F.RCH_LANE_CTRL_ERASE bc, 4)]
  | .vga => [(F.RCH_VGA_GAIN bc, 0)]
  | .ctf => [(F.RCH_CTF_FC_RATIO bc, 0), (F.RCH_CTF_BOOST bc, 8)]
  | .offset => [(F.RCH_OFFSET_OFFSET bc, 0)]
  | .dgain => [(F.RCH_DGAIN_DGAIN bc, 0)]
  | .asym => [(F.RCH_ASYM_ASYM bc, 0)]
  | .align => [(F.RCH_ALIGN_OFS bc, 0)]
  | .target => [(F.RCH_TARGET_TARGET bc, 0), (F.RCH_TARGET_G0 bc, 8), (F.RCH_TARGET_G1 bc, 12), (F.RCH_TARGET_G2 bc, 16),
      (F.RCH_TARGET_BLANK_FRAC bc, 20)]
  | .coef i => [(F.RCH_COEF_C bc i, 0)]

/-- The registers' views of what a lane adapts, rounded to their units (R215, R222, R228, R232). -/
def State.showLane (s : State) (bc : Nat) : State :=
  let l := s.lane bc
  let s := s.sput (F.RCH_OFFSET_OFFSET bc) (satSigned 16 (roundRat (l.offset * 64)))
  let s := s.put (F.RCH_DGAIN_DGAIN bc) (clampInt 0 65535 (roundRat (l.dgain * 16384))).toNat
  let s := s.sput (F.RCH_ASYM_ASYM bc) (satSigned 16 (roundRat (l.asym * 32768)))
  let s := s.sput (F.RCH_TIM_FREQ_F bc) (satSigned 16 (roundRat (l.freq * 1048576)))
  let s := s.put (F.RCH_LLR_SIGMA2 bc) (clampInt 0 65535 (roundRat (l.sigma2 * 16))).toNat
  s.forEach (List.range 60) (fun s i =>
    s.sput (F.RCH_COEF_C bc i) (satSigned 12 (roundRat (Table.at 0 l.coef i * 1024))))

/-- A write of a lane register takes effect: the written value replaces what adaptation has made of it (R240). RCH_ALIGN of B0 stays zero
(R227). -/
def State.setLaneReg (s : State) (bc : Nat) (r : LaneReg) (v : Nat) : State :=
  let s := (laneRegFields bc r).foldl (fun s f => s.put f.1 (v >>> f.2)) s
  match r with
  | .ctrl => if s.laneMode bc = 2 then s else s.modLane bc (fun l => { l with readOn := false, reading := false })
  | .offset => s.modLane bc (fun l => { l with offset := (toSigned 16 v : Rat) / 64 })
  | .dgain => s.modLane bc (fun l => { l with dgain := ((v % 65536 : Nat) : Rat) / 16384 })
  | .asym => s.modLane bc (fun l => { l with asym := (toSigned 16 v : Rat) / 32768 })
  | .coef i => s.modLane bc (fun l => { l with coef := Table.put 0 l.coef i ((toSigned 12 v : Rat) / 1024) })
  | .align => if bc % 4 = 0 then s.put (F.RCH_ALIGN_OFS bc) 0 else s
  | _ => s

/-- A staged register by number, and back. -/
def laneRegCode : LaneReg → Nat
  | .ctrl => 0 | .vga => 1 | .ctf => 2 | .offset => 3 | .dgain => 4 | .asym => 5 | .align => 6 | .target => 7 | .coef i => 8 + i.val

def laneRegOf (c : Nat) : LaneReg :=
  match c with
  | 0 => .ctrl | 1 => .vga | 2 => .ctf | 3 => .offset | 4 => .dgain | 5 => .asym | 6 => .align | 7 => .target
  | n + 8 => .coef ⟨n % 60, Nat.mod_lt _ (by decide)⟩

/-- Every staged write of a lane takes effect together (R240). -/
def State.applyStaged (s : State) (bc : Nat) : State :=
  let staged := (s.lane bc).staged
  let s := s.modLane bc (fun l => { l with staged := [] })
  let s := s.put (F.RCH_LANE_STATUS_STAGED bc) 0
  staged.foldl (fun s w => s.setLaneReg bc (laneRegOf w.1) (w.2 - 1)) s

/-- A write of a staged lane register: at once in OFF and IDLE, else at the next frame start (R240). -/
def State.laneWrite (s : State) (bc : Nat) (r : LaneReg) (v : Nat) : State :=
  if s.laneMode bc < 2 then s.setLaneReg bc r v
  else (s.modLane bc (fun l => { l with staged := Table.put 0 l.staged (laneRegCode r) (v + 1) })).put (F.RCH_LANE_STATUS_STAGED bc) 1

/-- A host or firmware write of a staged lane register. -/
def execRchStagedWrite (bc : Fin 64) (reg : LaneReg) (value : Word) (s : State) : Res :=
  .next (s.laneWrite bc reg value.toNat)

/-! ## Frame start (R212, R217, R221–R223, R240, R244) -/

/-- The equalizer settings of a lane as they stand. -/
def State.laneSetting (s : State) (bc : Nat) : LaneSetting :=
  { coef := (s.lane bc).coef, target := s.fld (F.RCH_TARGET_TARGET bc)
    g := [s.sfld (F.RCH_TARGET_G0 bc), s.sfld (F.RCH_TARGET_G1 bc), s.sfld (F.RCH_TARGET_G2 bc)]
    scale := s.fld (F.RCH_LLR_LLR_SCALE bc), eqSh := s.fld (F.RCH_LOOP_SH_EQ_SH bc) }

/-- The VGA's gain code as it acts (R211). -/
def vgaCode (v : Nat) : Nat := min v 960

/-- The VGA move decided at the end of the last frame (R217): dgain is divided by the factor of the steps made, and where the VGA stops at
the end of its range dgain is limited to 0.5–2.0. -/
def State.moveVga (s : State) (bc : Nat) : State :=
  let l := s.lane bc
  if l.vgaMove = 0 then s
  else
    let g := (vgaCode (s.fld (F.RCH_VGA_GAIN bc)) : Int)
    let t := clampInt 0 960 (g + l.vgaMove)
    let d := l.dgain / gainFactor (t - g)
    let d := if t = g + l.vgaMove then d else if d < 1 / 2 then 1 / 2 else if 2 < d then 2 else d
    (s.put (F.RCH_VGA_GAIN bc) t.toNat).setLane bc { l with vgaMove := 0, dgain := d }

/-- The filter's corner set for a zone on the four lanes of a pickup (R212). -/
def State.setCorner (s : State) (bc zone : Nat) : State :=
  let d := s.disc (bc / 8)
  if (s.lane bc).zone = some zone then s
  else s.forEach (List.range 4) (fun s k =>
    let b := 4 * (bc / 4) + k
    s.modLane b (fun l => { l with zone := some zone, ctfCorner := s.fld (F.RCH_CTF_FC_RATIO b) * d.channelRate zone / 256 }))

/-- The sector that a frame is taken for: one that the framing stage expects on this lane, while the pickup follows and
no calibration holds it, nor does its DS restart (R210, R244, R253, R475, R499). -/
def State.takes (s : State) (bc e j : Nat) : Bool :=
  let w := s.work e
  w.active && (w.sec j).st == .expected && s.secLane w j == bc && s.puState (bc / 4) == Pu.follow &&
    (Table.at {} s.calib.runs (bc / 4)).proc == 0 && decide (j < (s.disc w.station).perBlock) &&
    !s.procDown (16 + w.station)

/-- A frame taken for a sector (R253, R260): counted in its block's pass, blank or not; the last frame of a pass without a blank block
decides that the block is not blank. -/
def State.takeFrame (s : State) (e j : Nat) (blank : Bool) (c : LaneSetting) : State :=
  let w := s.work e
  let d := s.disc w.station
  let s := s.modSec e j (fun x => { x with
    allBlank := x.allBlank && blank, setting := c, lane := s.secLane w j
    st := if blank then (if w.blank = some false then SecState.erased else SecState.blankFrame) else x.st })
  let s := s.modWork e (fun w => { w with taken := w.taken + 1, blanks := w.blanks + b2n blank })
  let w := s.work e
  let s :=
    if blank ∧ w.blank = some true then s.finalSector e j .blank Outcome.blank []
    else if w.blank = none ∧ w.taken = d.perBlock ∧ w.blanks < d.blankLimit then s.blockNotBlank e
    else s
  if blank then s.settleBlock e else s

/-- Frame bit 0 of a lane in READ. `target`: the cache entry and sector that the framing stage takes the frame for; `zone`: of the
address; `tone`: the amplitude of the preamble tone, in codes; `rate`: the pickup's wobble-locked rate over the nominal one. -/
def execFrameStart (bc : Fin 64) (target : Option (Fin 48 × Fin 72)) (zone : Fin 4250) (tone rate : Rat) (s : State) : Res :=
  if s.laneMode bc ≠ 2 then .next s
  else
    let s4 := (s.disc (bc.val / 8)).s4
    let l := s.lane bc
    let s := s.when (!l.readOn) (fun s => s.setLane bc { l with
      readOn := true, freq := (if s4 then (s.fld (F.SPN_STATE_SPEED (bc.val / 8)) : Rat) / 9000 else rate) - 1 })
    let s := (s.moveVga bc).applyStaged bc
    if s.laneMode bc ≠ 2 then .next (s.showLane bc)
    else
      let s := s.setCorner bc zone
      let blank := decide (tone < (s.fld (F.RCH_TARGET_BLANK_FRAC bc) : Rat) / 256 * (s.fld (F.RCH_TARGET_TARGET bc) : Rat))
      let taken : Option (Nat × Nat) := match target with
        | some (e, j) => if s.takes bc e j then some (e.val, j.val) else none
        | none => none
      let s := s.modLane bc (fun l => { l with
        reading := true, target := taken, blank := blank, lostAt := none, gainStart := s.fld (F.RCH_VGA_GAIN bc)
        defectSeen := s.flag (F.RCH_LANE_STATUS_DEFECT bc) })
      let s := (s.setFlag (F.RCH_LANE_STATUS_LOCKED bc) (!blank)).showLane bc
      match taken with
      | some (e, j) => .next (s.takeFrame e j blank (s.laneSetting bc))
      | none => .next s

/-! ## Frame end (R215–R218, R228–R234, R238, R254) -/

/-- How a lane processes the frame in hand. -/
def State.lanePar (s : State) (bc : Nat) : LanePar :=
  let s4 := (s.disc (bc / 8)).s4
  let l := s.lane bc
  { s4 := s4, k := if s4 then 0 else bc % 4, len := if s4 then 46080 else 50176, pre := if s4 then 128 else 192
    loops := s.flag (F.RCH_LANE_CTRL_ADAPT_LOOPS bc), eq := s.flag (F.RCH_LANE_CTRL_ADAPT_EQ bc)
    erase := s.flag (F.RCH_LANE_CTRL_ERASE bc), blank := l.blank, lost := l.lostAt
    offSh := s.fld (F.RCH_LOOP_SH_OFF_SH bc), gainSh := s.fld (F.RCH_LOOP_SH_GAIN_SH bc)
    asymSh := s.fld (F.RCH_LOOP_SH_ASYM_SH bc), tiAcq := s.fld (F.RCH_TIM_GAIN_TI_ACQ bc)
    tiTrk := s.fld (F.RCH_TIM_GAIN_TI_TRK bc), set := s.laneSetting bc }

/-- The rows of corrected samples: the lane's own in place k, the other beams' in order. -/
def laneRows (k : Nat) (first : Int) (own : List Rat) (bits : List LaneBit) : Rows :=
  ⟨first, (List.range 4).map (fun j =>
    if j = k then own.toArray
    else (bits.map (fun b => b.others.getD (if j < k then j else j - 1) 0)).toArray)⟩

/-- The hard decision of an LLR; of zero, a value that the manual leaves open. -/
def hardBit (l : Int) (free : Nat) : Bool := if l = 0 then (Config.freeNat free).testBit 0 else decide (l < 0)

/-- Frame bit of data-area bit `k` under a framing (R246, R267). -/
def dataBit (s4 : Bool) (h : Hyp) (k : Nat) : Int :=
  if s4 then h.f1 + 176 + k else if k < 1024 then h.f1 + 240 + k else h.f2 + 1312 + (k - 1024 : Nat)

/-- The provisional payload (R254): the hard decisions of H0's descrambled information bits. -/
def provisionalPayload (s4 : Bool) (psa free : Nat) (h : Hyp) (llrs : Array Int) : List Nat :=
  let bits := (List.range 33280).zipWith (fun k o =>
    let p := dataBit s4 h k
    let l : Int := if p < 0 then 0 else llrs.getD p.toNat 0
    xor (hardBit l (free + k)) o) (scramblerBits 33280 (scramblerSeed psa))
  leBytes 4160 (bits.foldr (fun b acc => b2n b + 2 * acc) 0)

/-- The provisional payload written into an early-data entry, where the sector is not final (R254, R319). -/
def State.writeProvisional (s : State) (e j : Nat) (llrs : Array Int) : State :=
  let w := s.work e
  let x := w.sec j
  let y := (s.entry e).sector j
  match x.h0 with
  | none => s
  | some h =>
    if w.early = true ∧ j < (s.disc w.station).dataPerBlock ∧ (y.st = .empty ∨ y.st = .provisional) then
      let p := provisionalPayload (s.disc w.station).s4 (s.secPsa w j) s.free h llrs
      { s with free := s.free + 33280 }.storeSector e j { st := .provisional, md := p.take 64, user := payloadUser p }
    else s

/-- A frame's quality record goes to its sector; where the outcome is final already it applies at once, or is withheld with it (R239,
R330). -/
def State.recordQuality (s : State) (bc : Nat) (e j : Nat) (q : Quality) : State :=
  let w := s.work e
  let x := w.sec j
  if w.active = false ∨ (s.disc w.station).dataPerBlock ≤ j then s
  else if x.st.final = false then s.modSec e j (fun x => { x with quality := x.quality ++ [q] })
  else if (s.entry e).spec then
    s.modEntry e (fun y => { y with withheld := y.withheld.map (fun r =>
      if r.outerBad = none ∧ r.psa = s.secPsa w j then { r with quality := r.quality ++ [q] } else r) })
  else s.applyQuality bc q

/-- dgain has left 0.75–1.33: the VGA will move at the next frame start, and a move past the end of its range sets GAIN_LIMIT (R217). -/
def State.vgaAdjust (s : State) (bc : Nat) : State :=
  let l := s.lane bc
  if 3 / 4 ≤ l.dgain ∧ l.dgain ≤ 133 / 100 then s
  else
    let k := gainSteps l.dgain
    let g := (vgaCode (s.fld (F.RCH_VGA_GAIN bc)) : Int)
    let s := s.setLane bc { l with vgaMove := k }
    s.when (decide (g + k < 0) || decide (960 < g + k)) (fun s =>
      s.raise (F.RCH_LANE_STATUS_GAIN_LIMIT bc) 0x0501 (srcBeam bc) ([bc, 0] ++ leBytes 2 (s.fld (F.RCH_VGA_GAIN bc))))

/-- The correction loops and the frequency over what a lane takes in for its frame. -/
def State.frameLoops (s : State) (bc : Nat) (first : Int) (bits : List LaneBit) : LoopState :=
  let l := s.lane bc
  bits.foldl (s.lanePar bc).loopStep { n := first, offset := l.offset, dgain := l.dgain, asym := l.asym, freq := l.freq }

/-- A frame ends. `bits`: what the lane took in, from bit `first` of the frame on, with the bits before and after the frame that the
equalizer and the detector reach; `clips`: raw samples at −128 or +127. -/
def execFrameEnd (bc : Fin 64) (first : Int) (bits : List LaneBit) (clips : Nat) (s : State) : Res :=
  let l := s.lane bc
  if l.reading = false then .next s
  else
    let p := s.lanePar bc
    let z := s.frameLoops bc first bits
    let rows := laneRows p.k first z.out.reverse bits
    let arr := bits.toArray
    let flags (n : Nat) : BitFlags :=
      let i := (n : Int) - first
      match (if i < 0 then none else arr[i.toNat]?) with
      | some b => ⟨b.defect, b.anyDefect, b.phase⟩
      | none => ⟨false, false, 0⟩
    let r := p.frame rows flags s.free { coef := l.coef, sigma2 := l.sigma2 }
    let s := { s with free := s.free + p.len }
    let eye := r.eye.getD (s.takeFree.1 % 65)
    let mse := r.mse.getD (s.takeFree.2.takeFree.1 % 65536)
    let s := s.takeFree.2.takeFree.2
    let s := s.setLane bc { l with
      reading := false, offset := z.offset, dgain := z.dgain, asym := z.asym, freq := z.freq, coef := r.coef, sigma2 := r.sigma2 }
    let s := (s.vgaAdjust bc).showLane bc
    match l.target with
    | none => .next s
    | some (e, j) =>
      let q : Quality :=
        { eye := eye, mse := mse, bits := p.len
          defectBits := min 65535 ((List.range p.len).filter (fun n => (flags n).defect)).length
          blank := l.blank, timingLost := l.lostAt.isSome, adcClip := decide (16 ≤ clips), captured := ((s.work e).sec j).image
          gain := l.gainStart }
      let s := s.recordQuality bc e j q
      .next (if l.blank then s else s.writeProvisional e j r.llrs.reverse.toArray)

/-! ## Defects, loss of timing, captures, poor quality (R219, R220, R225, R235, R239, R255) -/

/-- A window's envelope qualifies as a dark or a bright defect (R219). -/
def State.defectWindow (s : State) (bc : Nat) (e r : Rat) : Bool :=
  decide (e < r * (s.fld (F.RCH_DEF_CFG_DROP bc) : Rat) / 256) || decide (r * (s.fld (F.RCH_DEF_CFG_RISE bc) : Rat) / 128 < e)

/-- The envelopes of two windows in a row against the reference: the detector of a lane becomes active (R219, R220). -/
def execDefectActive (bc : Fin 64) (e1 e2 r : Rat) (s : State) : Res :=
  if s.laneMode bc = 0 ∨ s.flag (F.RCH_LANE_STATUS_DEFECT bc) = true ∨ s.defectWindow bc e1 r = false ∨ s.defectWindow bc e2 r = false then
    .next s
  else
    .next ((s.put (F.RCH_LANE_STATUS_DEFECT bc) 1).modLane bc (fun l => { l with defectSeen := true, trig := true }))

/-- EXTEND windows in a row that qualify as nothing: the detector becomes inactive (R219). -/
def execDefectInactive (bc : Fin 64) (windows : List Rat) (r : Rat) (s : State) : Res :=
  if s.flag (F.RCH_LANE_STATUS_DEFECT bc) = true ∧ s.fld (F.RCH_DEF_CFG_EXTEND bc) ≤ windows.length ∧
      windows.all (fun e => !s.defectWindow bc e r) = true then
    .next (s.put (F.RCH_LANE_STATUS_DEFECT bc) 0)
  else .next s

/-- The mean of |e| over 256 tracking bits outside defect spans, ending at frame bit `bit`, exceeds LOSS: timing is lost (R225). -/
def execTimingLost (bc : Fin 64) (bit : Fin 50176) (mean : Rat) (s : State) : Res :=
  let l := s.lane bc
  if l.reading = true ∧ l.blank = false ∧ l.lostAt = none ∧ (s.fld (F.RCH_TIM_LOSS_LOSS bc) : Rat) / 256 < mean then
    .next ((s.setLane bc { l with lostAt := some bit.val }).put (F.RCH_LANE_STATUS_LOCKED bc) 0)
  else .next s

/-- The first raw sample of the image window is 96 µs old (R255, trigger 3); `meanErr`: the mean of err² over the tracking bits so far, in
code². -/
def execCaptureAgeTrigger (bc : Fin 64) (meanErr : Rat) (s : State) : Res :=
  let l := s.lane bc
  match l.target with
  | none => .next s
  | some (e, j) =>
    let w := s.work e
    let st := (w.sec j).st
    let poor := l.defectSeen || decide ((s.fld (F.RCH_QUAL_LIM_MSE_MAX bc) : Rat) < 16 * meanErr)
    if w.active = true ∧ l.blank = false ∧ w.noRetry = false ∧ (st = .expected ∨ st = .decoding) ∧ s.secLane w j = bc.val ∧
        poor = true then
      .next (s.armCapture e j false true)
    else .next s

/-- The image of a sector's frame is written into its pinned slots, each sample saturated to 8 bits (R235). -/
def execFrameImageDone (e : Fin 48) (j : Fin 72) (rows : List (List Int)) (s : State) : Res :=
  let x := (s.work e).sec j
  if x.image = true ∧ x.imageDone = false then
    .next (s.modSec e j (fun x => { x with imageDone := true, rows := rows.map (fun r => r.map (satSigned 8)) }))
  else .next s

/-- Eight final frames in a row of poor quality (R239, R242). -/
def execLaneQualityLow (bc : Fin 64) (s : State) : Res :=
  if 8 ≤ (s.lane bc).poorRun then
    .next (s.raise (F.RCH_LANE_STATUS_QUALITY_LOW bc) 0x0504 (srcBeam bc)
      ([bc.val, 0, s.fld (F.RCH_QUAL_EYE bc), 0] ++ leBytes 2 (s.fld (F.RCH_QUAL_MSE bc))))
  else .next s

end Sys2Proof.Machine
end

