-- ==== Sys2Proof/Machine/LoopEng.lean ====
section
/-!
DEFINITION. The loop engine's arithmetic (R74–R79, R108–R117): the error signals of a sample, the stages of a loop in its 72-bit accumulator,
modes and holds, and the cost of a configuration (R106, R107).
-/
namespace Sys2Proof.Machine

def State.lp (s : State) (n : Nat) : LoopProc := Table.at {} s.lps n
def State.setLp (s : State) (n : Nat) (p : LoopProc) : State := { s with lps := Table.put {} s.lps n p }
def State.modLp (s : State) (n : Nat) (f : LoopProc → LoopProc) : State := s.setLp n (f (s.lp n))
def LoopProc.loop (p : LoopProc) (l : Nat) : LoopRun := Table.at {} p.loops l
def LoopProc.setLoop (p : LoopProc) (l : Nat) (r : LoopRun) : LoopProc := { p with loops := Table.put {} p.loops l r }

/-- The mode field of a loop: FOCUS, TRACK, TILT, SLED. -/
def loopModeFld (n l : Nat) : Fld :=
  match l with
  | 0 => F.SRV_LP_CTRL_MODE_FOCUS n
  | 1 => F.SRV_LP_CTRL_MODE_TRACK n
  | 2 => F.SRV_LP_CTRL_MODE_TILT n
  | _ => F.SRV_LP_CTRL_MODE_SLED n

/-! ## Inputs and error signals (R71–R79) -/

/-- The averaging exponent that fits the period (R74). -/
def avgShift (avg p : Nat) : Nat :=
  let fits := (List.range 6).filter (fun m => decide (2 ^ m ≤ p / 4) && decide (m ≤ min avg 5))
  fits.getLastD 0

/-- The mean of an input's last 2^m conversions, in 1/16 code. -/
def meanOf (m : Nat) (conv : List Nat) : Nat :=
  let w := (conv.reverse.take (2 ^ m)).map (fun c => min c 4095)
  (w.foldl (· + ·) (0 : Nat)) * 16 / 2 ^ m

/-- A conversion of the window is 0 or 4,095 (R76). -/
def clipsIn (m : Nat) (conv : List Nat) : Bool := (conv.reverse.take (2 ^ m)).any (fun c => c == 0 || decide (4095 ≤ c))

/-- A quantity as a signal: 1.0 is 2^30, truncated toward zero, in 32 bits (R77). -/
def toSignal (x : Rat) : Int :=
  let v := x * 1073741824
  satSigned 32 (if 0 ≤ v then v.floor else -((-v).floor))

/-- The offset-corrected inputs of a sample, in 1/16 code (R75). -/
def State.corrected (s : State) (n : Nat) (means : List Nat) : List Nat :=
  (List.range 10).map (fun m => means.getD m 0 - s.fld (F.SRV_DARK_OFFSET n m))

/-- The pickup reads a Format S4 disc. -/
def State.puS4 (s : State) (n : Nat) : Bool := (s.disc (n / 2)).s4

/-- The signals of R77 with the holds of R78 and the rules of R79, put into an LP's table; TRK_LP has moved already. -/
def State.formSignals (s : State) (n : Nat) (means : List Nat) : State :=
  let p := s.lp n
  let v := s.corrected n means
  let x (i : Nat) : Rat := (v.getD i 0 : Nat)
  let sm := x 0 + x 1 + x 2 + x 3
  let s1 := x 4 + x 5
  let s2 := x 6 + x 7
  let low := decide (sm < 16 * (s.fld (F.SRV_ERR_CFG_SUM_MIN n) : Rat))
  let side := 16 * (s.fld (F.SRV_ERR_CFG2_SIDE_SUM_MIN n) : Rat)
  let lowSide := decide (s1 < side) || decide (s2 < side)
  let s4 := s.puS4 n
  let spp1 := if lowSide then p.spp1 else ratio (x 4 - x 5) s1
  let spp2 := if lowSide then p.spp2 else ratio (x 6 - x 7) s2
  let mpp := ratio ((x 0 + x 3) - (x 1 + x 2)) sm
  let k := if s4 then 0 else (s.fld (F.SRV_ERR_CFG_K_DPP n) : Rat) / 16384 * (spp1 + spp2) / 2
  let klens := (toSigned 16 (s.fld (F.SRV_ERR_CFG2_K_LENS n)) : Rat) / 16384
  let lpe := mpp + k
  let set (t : Table Int) (c : Nat) (y : Int) := Table.put 0 t c y
  let t := p.sig
  let t := if low then t else
    set (set (set (set (set t 1 (toSignal (ratio ((x 0 + x 2) - (x 1 + x 3)) sm))) 2 (toSignal mpp)) 3 (toSignal (mpp - k)))
      4 (toSignal lpe)) 5 (toSignal (lpe - klens * p.trkLp))
  let t := if lowSide then t else
    set (set (set t 6 (if s4 then 0 else toSignal ((spp1 - spp2) / 2))) 8 (toSignal spp1)) 9 (toSignal spp2)
  let t := if s4 then set t 6 0 else t
  let t := set t 7 (toSignal (sm / 16 / 16380))
  let t := (List.range 10).foldl (fun t i => set t (16 + i) ((v.getD i 0 : Nat) * 16384)) t
  let s := s.setLp n { p with sig := t, spp1 := spp1, spp2 := spp2, low := low, fmd := v.getD 8 0
                              fmdRun := if 16 * s.fld (F.SRV_FMD_CFG_FMD_MAX n) < v.getD 8 0 then p.fmdRun + 1 else 0 }
  let s := s.when low (fun s => s.put (F.SRV_IF_STATUS_LOW_SUM_MAIN n) 1)
  s.when lowSide (fun s => s.put (F.SRV_IF_STATUS_LOW_SUM_SIDE n) 1)

/-- Sine of φ turns of 2^32, by its series to well below a signal's step. -/
def sinTurn (phase : Nat) : Rat :=
  let q := phase % 2 ^ 32
  let turn : Rat := (q : Nat)
  let x := (if 2 * q < 2 ^ 32 then turn else turn - 4294967296) / 4294967296 * 2 * (3141592653589793238462643 / 1000000000000000000000000)
  ((List.range 20).foldl (fun (a : Rat × Rat) k =>
    (a.1 + a.2, -(a.2 * x * x) / (((2 * k + 2) * (2 * k + 3) : Nat) : Rat))) (0, x)).1

/-- INJ (R111); the manual does not say how the product is rounded, so the integer below it or the next is taken by a free value. -/
def injSignal (amp phase free : Nat) : Int :=
  (((amp * 16384 : Nat) : Rat) * sinTurn phase).floor + ((Config.freeNat free % 2 : Nat) : Int)

/-! ## Stages (R112–R115) -/

/-- The accumulator: its value, and whether a term, sum or result has saturated. -/
structure Accum where
  v : Int := 0
  sat : Bool := false

/-- The product of a coefficient of shift `sh` and a value, as it is added (R113). -/
def product (c : Int) (sh : Nat) (v : Int) : Int :=
  if sh ≤ 24 then c * v * 2 ^ (24 - sh) else (c * v) / 2 ^ (sh - 24)

/-- One term added, term and sum within 72 bits. -/
def Accum.add (a : Accum) (t : Int) : Accum :=
  let t' := satSigned 72 t
  let w := a.v + t'
  ⟨satSigned 72 w, a.sat || t' != t || satSigned 72 w != w⟩

/-- The result of a stage, and whether it saturated. -/
def Accum.result (a : Accum) : Int × Bool :=
  let r := (a.v + 2 ^ 23) / 2 ^ 24
  (satSigned 32 r, a.sat || satSigned 32 r != r)

/-- A section or notch on an input (R114). -/
def State.section (s : State) (n l k : Nat) (st : SectState) (x : Int) : Int × SectState × Bool :=
  let c (f : Fld) := s.sfld f
  let sh (i : Nat) := bitsOf (s.fld (F.SRV_SECT_SHIFT_S n l k)) (5 * i) 5
  let a : Accum := ⟨0, false⟩
  let a := a.add (product (c (F.SRV_SECT_B0_C n l k)) (sh 0) x)
  let a := a.add (product (c (F.SRV_SECT_B1_C n l k)) (sh 1) st.x1)
  let a := a.add (product (c (F.SRV_SECT_B2_C n l k)) (sh 2) st.x2)
  let a := a.add (-(product (c (F.SRV_SECT_A1_C n l k)) (sh 3) st.y1))
  let a := a.add (-(product (c (F.SRV_SECT_A2_C n l k)) (sh 4) st.y2))
  let r := a.result
  (r.1, ⟨x, st.x1, r.1, st.y1⟩, r.2)

/-- The mixer's output (R108, R113). -/
def State.mixer (s : State) (n l : Nat) (sig : Nat → Int) : Int × Bool :=
  let a : Accum := ⟨s.sfld (F.SRV_LOOP_OFFSET_OFFSET n l) * 2 ^ 24, false⟩
  let a := a.add (product (s.sfld (F.SRV_LOOP_WA_C n l)) (s.fld (F.SRV_LOOP_SHIFT_S_A n l)) (sig (s.fld (F.SRV_LOOP_IN_SEL_A n l))))
  let a := a.add (product (s.sfld (F.SRV_LOOP_WB_C n l)) (s.fld (F.SRV_LOOP_SHIFT_S_B n l)) (sig (s.fld (F.SRV_LOOP_IN_SEL_B n l))))
  a.result

/-- A limiter's output as a code: a DAC code, or microsteps (R115). -/
def codeOf (v : Int) : Int := satSigned 16 ((v + 2 ^ 15) / 2 ^ 16)

/-- The graph of a loop on the present signals (R108); `zero`: the mixer's output replaced by zero (R117). -/
def State.loopGraph (s : State) (n l : Nat) (sig : Nat → Int) (zero : Bool) (r : LoopRun) : LoopRun :=
  let m := s.mixer n l sig
  let x0 := if zero then 0 else m.1
  let go := (List.range 14).foldl (fun (a : Int × Table SectState × Bool × List Int) k =>
    if r.en.testBit k then
      let y := s.section n l k (Table.at {} a.2.1 k) a.1
      (y.1, Table.put {} a.2.1 k y.2.1, a.2.2.1 || y.2.2, a.2.2.2 ++ [y.1])
    else (a.1, a.2.1, a.2.2.1, a.2.2.2 ++ [a.1])) (x0, r.secs, m.2 && !zero, [m.1])
  let g := (Accum.add ⟨0, false⟩ (product (s.sfld (F.SRV_LOOP_GAIN_C n l)) (s.fld (F.SRV_LOOP_SHIFT_S_G n l)) go.1)).result
  let v := clampInt (s.sfld (F.SRV_LOOP_LIM_LO_LIM_LO n l)) (s.sfld (F.SRV_LOOP_LIM_HI_LIM_HI n l)) g.1
  { r with secs := go.2.1, code := codeOf v, nodes := go.2.2.2 ++ [v], sat := go.2.2.1 || g.2, lim := v != g.1
           lowpass := if r.holding then r.lowpass else
             r.lowpass + ((v : Rat) - r.lowpass) * halves (s.fld (F.SRV_LOOP_HOLD_LP_K n l)) }

/-! ## Modes and holds (R116, R117, R119) -/

/-- The writes of SRV_LOOP_SECT_EN since the last sample take effect: for each its copy, then its enables, then newly enabled sections
cleared (R119). -/
def LoopRun.applyEnables (r : LoopRun) : LoopRun :=
  let r' := r.writes.foldl (fun (r : LoopRun) w =>
    let secs := match w.2 with
      | some (src, dst) => Table.put {} r.secs dst (Table.at {} r.secs src)
      | none => r.secs
    let secs := (List.range 14).foldl (fun (t : Table SectState) k =>
      if w.1.testBit k = true ∧ r.en.testBit k = false ∧ (match w.2 with | some c => decide (c.2 ≠ k) | none => true) = true then
        Table.put {} t k {}
      else t) secs
    { r with en := w.1, secs := secs }) r
  { r' with writes := [] }

/-- One loop at a sample: its mode in force, a hold, its result (R116, R117). -/
def State.loopSample (s : State) (n l : Nat) (sig : Nat → Int) (defect low due : Bool) (r0 : LoopRun) : LoopRun :=
  let r := r0.applyEnables
  let mode := s.fld (loopModeFld n l)
  let r := { r with sat := false, lim := false }
  match mode with
  | 0 => { r with mode := 0, code := 0, secs := [], holding := false, ext := 0, nodes := List.replicate 16 0 }
  | 1 => { r with mode := 1, code := s.sfld (F.SRV_LOOP_DRIVE_CODE n l), secs := [], holding := false, ext := 0
                  nodes := List.replicate 16 0 }
  | _ =>
    let fresh := decide (mode = 2) && decide (r.mode < 2)
    let r := if fresh then { r with secs := [], lowpass := ((r.code * 65536 : Int) : Rat), holding := false, ext := 0 } else r
    let active := (defect && s.flag (F.SRV_LOOP_HOLD_TRIG_DEFECT n l)) || (low && s.flag (F.SRV_LOOP_HOLD_TRIG_LOWSUM n l))
    let hold := decide (mode = 3) || active || decide (0 < r.ext)
    let ext := if mode = 3 then 0 else if active then s.fld (F.SRV_LOOP_HOLD_EXTEND n l) else r.ext - 1
    let r := { r with mode := mode, holding := hold, ext := ext }
    if due = false then r
    else if hold then
      match s.fld (F.SRV_LOOP_HOLD_MODE n l) with
      | 1 => s.loopGraph n l sig true r
      | 2 => { r with code := codeOf (let v := r.lowpass; if 0 ≤ v then v.floor else -((-v).floor)) }
      | _ => r
    else s.loopGraph n l sig false r

/-! ## Cost (R106, R107) -/

/-- The cost of one loop in ns. -/
def State.loopCost (s : State) (n l : Nat) : Nat :=
  let mode := s.fld (loopModeFld n l)
  let zeroInput := s.fld (F.SRV_LOOP_HOLD_MODE n l) == 1
  if mode = 2 ∨ (mode = 3 ∧ zeroInput = true) then 60 + 25 * popCount 14 (s.fld (F.SRV_LOOP_SECT_EN_EN n l)) else 20

/-- OUT_DELAY_EFF in 10 ns steps (R102). -/
def State.outDelay (s : State) (n : Nat) : Nat :=
  min (max 30 (min 150 (s.fld (F.SRV_LP_CTRL_OUT_DELAY n)))) (s.fld F.SRV_PERIOD_P)

/-- The costs recomputed, and COST_OVER with them; LOOP_COST_OVER at each change from 0 to 1 (R106, R107, R126). -/
def State.updateCost (s : State) (n : Nat) : State :=
  let fast := s.loopCost n 0 + s.loopCost n 1 + s.loopCost n 2
  let sled := s.loopCost n 3
  let s := (s.put (F.SRV_LP_COST_FAST_NS n) fast).put (F.SRV_LP_COST_SLED_NS n) sled
  let excess := decide (10 * s.outDelay n < 200 + fast) || decide (10 * s.fld F.SRV_PERIOD_P < 200 + fast + sled)
  let was := s.flag (F.SRV_LP_STATUS_COST_OVER n)
  let s := s.setFlag (F.SRV_LP_STATUS_COST_OVER n) excess
  s.when (excess && !was) (fun s => s.post 0x0204 (srcPickup n) ([n, 0] ++ leBytes 2 fast ++ leBytes 2 sled))

/-- A loop's mode written by firmware or the host. -/
def State.setMode (s : State) (n l mode : Nat) : State := (s.put (loopModeFld n l) mode).updateCost n

/-! ## Register writes of the loop engine (R99, R111, R119) -/

/-- A write of SRV_PERIOD (R99). -/
def execSrvPeriodWrite (value : Word) (s : State) : Res :=
  let p := bitsOf value.toNat 0 10
  let s := if value.toNat.testBit 16 then s.put F.SRV_PERIOD_REJECTED 0 else s
  let closed := (List.range 16).any (fun n => (List.range 4).any (fun l => decide (2 ≤ s.fld (loopModeFld n l))))
  if [125, 200, 250, 400, 500, 625, 1000].contains p = false ∨ closed = true then .next (s.put F.SRV_PERIOD_REJECTED 1)
  else .next ((s.put F.SRV_PERIOD_P p).forEach (List.range 16) State.updateCost)

/-- A write of SRV_LOOP_SECT_EN (R119): its copy and its enables take effect together at the next sample. -/
def execSectEnWrite (n : Fin 16) (l : Fin 4) (value : Word) (s : State) : Res :=
  let v := value.toNat
  let en := bitsOf v 0 14
  let src := bitsOf v 20 4
  let dst := bitsOf v 24 4
  let copy := if v.testBit 16 = true ∧ src < 14 ∧ dst < 14 then some (src, dst) else none
  let s := s.put (F.SRV_LOOP_SECT_EN_EN n l) en
  let p := s.lp n
  let r := p.loop l
  .next ((s.setLp n (p.setLoop l { r with writes := r.writes ++ [(en, copy)] })).updateCost n)

/-- SRV_INJ_CFG.ENABLE written from 0 to 1: the generator starts at phase zero (R111). -/
def execInjEnable (n : Fin 16) (amp : BitVec 16) (s : State) : Res :=
  let was := s.flag (F.SRV_INJ_CFG_ENABLE n)
  let s := (s.put (F.SRV_INJ_CFG_AMP n) amp.toNat).put (F.SRV_INJ_CFG_ENABLE n) 1
  .next (if was then s else s.modLp n (fun p => { p with phase := 0 }))

/-- The extension of a loop's hold has run out: the hold ends (R117). -/
def execHoldExtendEnd (n : Fin 16) (l : Fin 4) (s : State) : Res :=
  let p := s.lp n
  let r := p.loop l
  let active := (p.sample.defect && s.flag (F.SRV_LOOP_HOLD_TRIG_DEFECT n l)) || (p.low && s.flag (F.SRV_LOOP_HOLD_TRIG_LOWSUM n l))
  if r.mode = 2 ∧ r.holding = true ∧ r.ext = 0 ∧ active = false then
    .next ((s.setLp n (p.setLoop l { r with holding := false })).put (F.SRV_LP_STATUS_HOLD n)
      (s.fld (F.SRV_LP_STATUS_HOLD n) &&& (15 - 2 ^ l.val)))
  else .next s

end Sys2Proof.Machine
end

