-- ==== Sys2Proof/Machine/Motion.lean ====
section
/-!
DEFINITION. The motion block (R177–R208): profiles, sled gearing, groups and the blended queue, stops, limits, homing and encoders, and the
MOVE commands. Positions are in units of 2^-32 step; a tick's advance is cut to that unit (log entry 21).
-/
namespace Sys2Proof.Machine

def State.motor (s : State) (x : Nat) : Motor := Table.at {} s.motors x
def State.setMotor (s : State) (x : Nat) (m : Motor) : State := { s with motors := Table.put {} s.motors x m }
def State.modMotor (s : State) (x : Nat) (f : Motor → Motor) : State := s.setMotor x (f (s.motor x))
def State.group (s : State) (g : Nat) : Group := Table.at {} s.groups g
def State.setGroup (s : State) (g : Nat) (y : Group) : State := { s with groups := Table.put {} s.groups g y }
def State.modGroup (s : State) (g : Nat) (f : Group → Group) : State := s.setGroup g (f (s.group g))
def State.spindle (s : State) (st : Nat) : Spindle := Table.at {} s.spindles st
def State.setSpindle (s : State) (st : Nat) (x : Spindle) : State := { s with spindles := Table.put {} s.spindles st x }
def State.modSpindle (s : State) (st : Nat) (f : Spindle → Spindle) : State := s.setSpindle st (f (s.spindle st))

/-- One step in the units of a position. -/
def stepUnit : Int := 2 ^ 32

/-- A position within its 32 integer and 32 fraction bits (R182). -/
def wrapPos (p : Int) : Int := toSigned 64 (ofSigned 64 p)

/-- The distance from one position to another, by the shorter way round. -/
def posDist (a b : Int) : Int := wrapPos (b - a)

/-- An amount of steps in the units of a position, cut toward zero. -/
def toUnits (x : Rat) : Int := let v := x * 4294967296; if 0 ≤ v then v.floor else -((-v).floor)

/-- A position in steps. -/
def ofUnits (p : Int) : Rat := (p : Rat) / 4294967296

/-- MOT_POS follows the commanded position (R182). -/
def State.showMotor (s : State) (x : Nat) : State :=
  let m := s.motor x
  (s.put (F.MOT_POS_POS x) (ofSigned 32 (m.pos / stepUnit))).put (F.MOT_STATUS_PHASE x) m.phase

/-- The group that an axis belongs to (R193). -/
def State.groupOf (s : State) (m : Nat) : Option Nat :=
  (List.range 3).find? (fun g => (s.fld (F.MOT_GRP_CTRL_MEMBERS g)).testBit m)

/-- A group is in motion, or has segments to run. -/
def Group.busy (y : Group) : Bool := y.phase != 0 || !y.queue.isEmpty

/-- The group in motion that carries an axis. -/
def State.movingGroup (s : State) (m : Nat) : Option Nat :=
  (List.range 3).find? (fun g => let y := s.group g; y.phase != 0 && y.members.contains m)

/-- Source of an event of a motor or group (R398, R207). -/
def State.motorEvent (s : State) (code x : Nat) : State :=
  s.post code (srcMotor x) ([x, 0, 0, 0] ++ leBytes 4 (s.fld (F.MOT_POS_POS x)))

/-- A flag of a motor raised, its event once per set (R126, R207). -/
def State.raiseMotor (s : State) (f : Fld) (code x : Nat) : State :=
  s.raise f code (srcMotor x) ([x, 0, 0, 0] ++ leBytes 4 (s.fld (F.MOT_POS_POS x)))

/-! ## The profile rule (R183) -/

/-- One tick of 10 µs: phase, speed and the distance moved, from the limits, the distance to go and whether it is a stop (R183, R198). -/
def profileStep (vmax acc dec vmin d : Rat) (stopping : Bool) (phase : Nat) (v : Rat) : Nat × Rat × Rat :=
  let dt : Rat := 1 / 100000
  let stop := ratio (v * v) (2 * dec)
  let phase := if phase ≠ 3 ∧ d ≤ stop + v * dt then 3 else phase
  let v1 := if phase = 1 then minRat vmax (v + acc * dt) else v
  let v2 := if phase = 2 ∨ vmax < v1 then -(minRat (-vmax) (-(v1 - dec * dt))) else v1
  let low := -(minRat (-vmin) (-(v2 - dec * dt)))
  let v3 := if phase = 3 ∧ d ≤ stop + v2 * dt then (if stopping then minRat v2 low else low) else v2
  let phase := if phase = 1 ∧ vmax ≤ v3 then 2 else phase
  (phase, v3, minRat (v3 * dt) d)

/-! ## Ends of moves and MOVE commands (R183, R203, R381) -/

/-- A MOVE ends: with SERVO_FAULT where a fault stopped it, with the status of what stopped it, or with success (R203,
R370, R381). -/
def State.endMove (s : State) (h : Option Nat) (fault : Bool) : State :=
  match h with
  | none => s
  | some h =>
    let c := s.cmd h
    s.finish h { status := if fault then Status.servoFault else c.res.status }

/-- A motor comes to rest. -/
def State.motorRest (s : State) (x : Nat) : State :=
  let m := s.motor x
  let s := s.setMotor x { m with v := 0, phase := 0, seeking := false, stopping := false, vmax := none, fault := false, cmd := none }
  let s := s.put (F.MOT_STATUS_DONE x) 1
  s.endMove m.cmd m.fault

/-- The axes stop by a Rappel stop at `dec`: the decel rule to the present stopping point (R198). -/
def State.stopMotor (s : State) (x dec : Nat) (fault : Bool) : State :=
  let s := s.when (decide (x < 16)) (fun s => s.put (F.MOT_GEAR_CTRL_ENGAGE x) 0)
  let m := s.motor x
  if m.phase = 0 then s.motorRest x
  else
    let way := toUnits (ratio (m.v * m.v) (2 * (dec : Rat)))
    (s.setMotor x { m with target := wrapPos (m.pos + m.dir * way), seeking := false, stopping := true, phase := 3, dec := dec
                           fault := m.fault || fault }).showMotor x

/-! ## Groups (R193–R195, R204, R205) -/

/-- The scale L / |Δ| of a member, none where it does not move. -/
def Group.scales (y : Group) : List (Nat × Rat) :=
  (y.members.zip y.deltas).filterMap (fun e => if e.2 = 0 then none else some (e.1, y.len / ofUnits (e.2.natAbs : Int)))

/-- The least of values scaled to the path, with a bound of the path itself (R194). -/
def Group.least (y : Group) (bound : Rat) (f : Nat → Rat) : Rat :=
  y.scales.foldl (fun a e => minRat a (f e.1 * e.2)) bound

/-- The path's limits: speed, acceleration, deceleration, least speed (R194). -/
def State.groupLimits (s : State) (g : Nat) : Rat × Rat × Rat × Rat :=
  let y := s.group g
  let feed : Rat := match y.feed with | some f => f | none => (s.fld (F.MOT_GRP_VMAX_VMAX g) : Rat)
  (y.least feed (fun m => minRat 2000000 (s.fld (F.MOT_VMAX_VMAX (16 + m)) : Rat)),
   y.least (s.fld (F.MOT_GRP_ACC_ACC g) : Rat) (fun m => (s.fld (F.MOT_ACC_ACC (16 + m)) : Rat)),
   y.least (s.fld (F.MOT_GRP_DEC_DEC g) : Rat) (fun m => (s.fld (F.MOT_DEC_DEC (16 + m)) : Rat)),
   match (y.scales.map (fun e => (s.fld (F.MOT_VMIN_VMIN (16 + e.1)) : Rat) * e.2)) with | [] => 1 | a :: as => as.foldl minRat a)

/-- The length of a line, to 2^-32 step. -/
def lineLen (deltas : List Int) : Rat :=
  ofUnits (isqrt ((deltas.map (fun d => (d * d).toNat)).foldl (· + ·) (0 : Nat)))

/-- The largest path deceleration that keeps every member within its EDEC (R195). -/
def State.groupEdec (s : State) (g : Nat) : Rat :=
  match (s.group g).scales with
  | [] => (s.fld (F.MOT_GRP_DEC_DEC g) : Rat)
  | e :: es => es.foldl (fun a e => minRat a ((s.fld (F.MOT_EDEC_EDEC (16 + e.1)) : Rat) * e.2))
      ((s.fld (F.MOT_EDEC_EDEC (16 + e.1)) : Rat) * e.2)

/-- A group brakes along its line at a path deceleration. -/
def State.brakeGroup (s : State) (g : Nat) (dec : Rat) (fault : Bool) : State :=
  let y := s.group g
  if y.phase = 0 then s
  else
    let goal := minRat (if fault then y.path + ratio (y.v * y.v) (2 * dec) else y.len) (y.path + ratio (y.v * y.v) (2 * dec))
    s.setGroup g { y with stopDec := some dec, goal := goal, phase := 3, fault := y.fault || fault }

/-- Bytes of a command that put a segment in (R386). -/
def CmdId.segGroup (i : CmdId) : Nat := i.body.getD 1 0

/-- A fault stops a group (R195, R388): it brakes, its queue is discarded, and the L_SEGMENTs that have not entered the queue end. -/
def State.groupFault (s : State) (g : Nat) : State :=
  let y := s.group g
  if y.busy = false then s
  else
    let s := s.brakeGroup g (s.groupEdec g) true
    let s := s.raise (F.MOT_GRP_STATUS_STOPPED g) 0x0409 (srcGroup g) ([0x20 + g, 0, 0, 0] ++ leBytes 4 (s.fld (F.MOT_POS_POS 0)))
    let blended := !y.queue.isEmpty || y.feed.isSome
    let s := s.modGroup g (fun y => { y with queue := [] })
    let s := s.put (F.MOT_GRP_STATUS_QLEVEL g) 0
    let s := s.when blended (fun s =>
      s.raise (F.MOT_GRP_STATUS_DRAINED g) 0x040B (srcGroup g) ([0x20 + g, 0, 0, 0] ++ leBytes 4 (s.fld (F.MOT_POS_POS 0))))
    s.forEach s.allCmds (fun s e =>
      if e.2.op = Op.lSegment ∧ e.2.id.segGroup = g ∧ e.2.phase = .admitted then s.finish e.1 { status := Status.servoFault } else s)

/-- A group comes to rest. -/
def State.groupRest (s : State) (g : Nat) : State :=
  let y := s.group g
  let s := s.setGroup g { y with phase := 0, v := 0, members := [], starts := [], deltas := [], len := 0, path := 0, goal := 0
                                 stopDec := none, feed := none, fault := false, cmd := none }
  let s := s.forEach y.members (fun s m => s.put (F.MOT_STATUS_PHASE (16 + m)) 0)
  let s := s.put (F.MOT_GRP_STATUS_DONE g) 1
  s.endMove y.cmd y.fault

/-- A line begun from the members' present positions (R193). -/
def State.beginLine (s : State) (g : Nat) (members : List Nat) (targets : List Int) (feed : Option Nat) (v : Rat) (h : Option Nat) : State :=
  let starts := members.map (fun m => (s.motor (16 + m)).pos)
  let deltas := (starts.zip targets).map (fun e => posDist e.1 (e.2 * stepUnit))
  let len := lineLen deltas
  let y := s.group g
  let s := s.setGroup g { y with phase := 1, members := members, starts := starts, deltas := deltas, len := len, path := 0, goal := len
                                 v := v, stopDec := none, feed := feed, cmd := h }
  if len = 0 then s.groupRest g else s

/-- The direction cosine of two lines; 1 where one has no length. -/
def lineCos (a b : List Int) : Rat :=
  let la := lineLen a
  let lb := lineLen b
  if la = 0 ∨ lb = 0 then 1
  else ((a.zip b).map (fun e => ofUnits e.1 * ofUnits e.2)).foldl (· + ·) (0 : Rat) / (la * lb)

/-- The junction speed of two lines with their feeds (R204). -/
def State.junction (s : State) (g : Nat) (a b : List Int) (fa fb : Nat) : Rat :=
  minRat (minRat fa fb) ((s.fld (F.MOT_GRP_BLEND_VMAX g) : Rat) * (1 + lineCos a b) / 2)

/-- The distances of a queued segment in units. -/
def Segment.deltas (t : Segment) : List Int := (t.starts.zip t.targets).map (fun e => (e.2 - e.1) * stepUnit)

/-- The largest speed at the end of the line in hand from which the queue can be run: the junction speeds, and rest at the end of the last
segment, reached at deceleration `dec` (R205). Squared. -/
def State.queueSpeed2 (s : State) (g : Nat) (dec : Rat) : (cur : List Int) → (feed : Nat) → List Segment → Rat
  | _, _, [] => 0
  | cur, feed, t :: ts =>
    let d := t.deltas
    let j := s.junction g cur d feed t.feed
    minRat (j * j) (State.queueSpeed2 s g dec d t.feed ts + 2 * dec * lineLen d)

/-- The next segment of a group's queue begun at a speed. -/
def State.nextSegment (s : State) (g : Nat) (v : Rat) : State :=
  let y := s.group g
  match y.queue with
  | [] => s
  | t :: ts =>
    let s := (s.setGroup g { y with queue := ts }).put (F.MOT_GRP_STATUS_QLEVEL g) ts.length
    s.beginLine g (setBits 12 (s.fld (F.MOT_GRP_CTRL_MEMBERS g))) t.targets (some t.feed) v none

/-- The L_SEGMENTs that wait for room in a group's queue enter it, the oldest first, and complete (R388). -/
def State.admitSegments (s : State) (g : Nat) : State :=
  s.forEach (sortBy (fun e => e.2.order) s.allCmds) (fun s e =>
    let c := s.cmd e.1
    if c.op = Op.lSegment ∧ c.id.segGroup = g ∧ c.phase = .admitted ∧ c.started = true ∧ (s.group g).queue.length < 64 then
      let y := s.group g
      let ms := setBits 12 (s.fld (F.MOT_GRP_CTRL_MEMBERS g))
      let targets := (List.range ms.length).map (fun i => toSigned 32 (leField c.id.body (8 + 4 * i) 4))
      let starts := match y.queue.getLast? with
        | some t => t.targets
        | none =>
          if y.phase = 0 then ms.map (fun m => (s.motor (16 + m)).pos / stepUnit)
          else (y.starts.zip y.deltas).map (fun e => wrapPos (e.1 + e.2) / stepUnit)
      let s := s.setGroup g { y with queue := y.queue ++ [⟨starts, targets, leField c.id.body 2 4⟩] }
      let s := s.put (F.MOT_GRP_STATUS_QLEVEL g) (y.queue.length + 1)
      s.finish e.1 {}
    else s)

/-- One tick of a group (R193, R194, R205). -/
def State.groupTick (s : State) (g : Nat) : State :=
  let y := s.group g
  if y.phase = 0 then
    if y.queue.isEmpty = true ∨ s.flag F.MOT_ESTOP_ACTIVE = true then s else (s.nextSegment g 0).admitSegments g
  else
    let (vmax, acc, dec, vmin) := s.groupLimits g
    let dec := y.stopDec.getD dec
    let stopping := y.stopDec.isSome
    -- the end of the line counts as further away by what may be braked after it
    let endSpeed2 := if stopping then 0 else match y.feed with
      | some f => s.queueSpeed2 g dec y.deltas f y.queue
      | none => 0
    let left := y.goal - y.path
    let through := decide (0 < endSpeed2)
    let seen := left + (if through then ratio endSpeed2 (2 * dec) else 0)
    let phase := if y.phase = 3 ∧ stopping = false ∧ y.feed.isSome = true then 1 else y.phase
    let r := profileStep vmax acc dec vmin seen stopping phase y.v
    let move := minRat r.2.2 left
    let path := y.path + move
    let atEnd := decide (left ≤ r.2.2)
    let frac := ratio path y.len
    let s := s.setGroup g { y with phase := r.1, v := r.2.1, path := path }
    let s := s.forEach (y.members.zip (y.starts.zip y.deltas)) (fun s e =>
      let pos := if atEnd ∧ ¬ stopping then wrapPos (e.2.1 + e.2.2) else wrapPos (e.2.1 + toUnits (ofUnits e.2.2 * frac))
      (s.modMotor (16 + e.1) (fun m => { m with pos := pos, phase := r.1 })).showMotor (16 + e.1))
    if atEnd then
      if stopping = false ∧ y.feed.isSome = true ∧ y.queue.isEmpty = false then (s.nextSegment g r.2.1).admitSegments g
      else
        let s := s.groupRest g
        s.when (y.feed.isSome && !y.fault) (fun s =>
          s.raise (F.MOT_GRP_STATUS_DRAINED g) 0x040B (srcGroup g) ([0x20 + g, 0, 0, 0] ++ leBytes 4 (s.fld (F.MOT_POS_POS 0))))
    else s

/-! ## Stops and faults of an axis -/

/-- An axis stops on a fault: by an emergency stop, or its group by R195. -/
def State.faultAxis (s : State) (m : Nat) : State :=
  match s.movingGroup m with
  | some g => s.groupFault g
  | none =>
    if (s.motor (16 + m)).phase = 0 then s
    else s.stopMotor (16 + m) (s.fld (F.MOT_EDEC_EDEC (16 + m))) true

/-! States of homing (R202). -/
namespace Home
abbrev idle : Nat := 0
abbrev seek : Nat := 1
abbrev stopping : Nat := 2
abbrev backoff : Nat := 3
abbrev approach : Nat := 4
abbrev settle : Nat := 5
abbrev fault : Nat := 6
end Home

def State.homeState (s : State) (m : Nat) : Nat := s.fld (F.MOT_STATUS_HOME_STATE (16 + m))
def State.setHome (s : State) (m v : Nat) : State := s.put (F.MOT_STATUS_HOME_STATE (16 + m)) v

/-- Homing fails (R202); `dec`: the stop made, where one is. -/
def State.homingFault (s : State) (m : Nat) (dec : Option Nat) : State :=
  let x := 16 + m
  let s := s.setHome m Home.fault
  let s := s.raiseMotor (F.MOT_STATUS_HOME_FAULT x) 0x0403 x
  match dec with
  | some d => s.stopMotor x d true
  | none => (s.modMotor x (fun y => { y with fault := true })).motorRest x

/-- A move started toward a target, or without one while homing. -/
def State.runMotor (s : State) (x : Nat) (target : Option Int) (dir : Int) (vmax : Option Nat) : State :=
  let m := s.motor x
  let d := match target with | some t => if 0 ≤ posDist m.pos t then 1 else -1 | none => dir
  let s := s.setMotor x { m with v := 0, phase := 1, dir := d, target := target.getD 0, seeking := target.isNone, stopping := false
                                 dec := s.fld (F.MOT_DEC_DEC x), vmax := vmax, fault := false, reduced := false }
  s.showMotor x

/-- Travel since a position, in steps. -/
def travel (a b : Int) : Rat := ofUnits ((posDist a b).natAbs : Int)

/-- The homing direction as a sign. -/
def State.homeDir (s : State) (m : Nat) : Int := if s.flag (F.MOT_AX_CFG_HOME_DIR m) then 1 else -1

/-- The reference input is active (R202). -/
def State.homeRef (s : State) (m : Nat) : Bool :=
  if s.flag (F.MOT_AX_CFG_HOME_ON_LIMIT m) then
    (if s.flag (F.MOT_AX_CFG_HOME_DIR m) then s.flag (F.MOT_INPUTS_LIMP m) else s.flag (F.MOT_INPUTS_LIMN m))
  else s.flag (F.MOT_INPUTS_HOME m)

/-- Homing at a tick: the rows that travel and rest decide (R202). -/
def State.homeTick (s : State) (m : Nat) : State :=
  let x := 16 + m
  let y := s.motor x
  let rest := decide (y.phase = 0)
  let dir := s.homeDir m
  match s.homeState m with
  | 1 =>
    if ((s.fld (F.MOT_HOME_RANGE_STEPS m) : Nat) : Rat) < travel y.homeFrom y.pos then s.homingFault m (some (s.fld (F.MOT_DEC_DEC x))) else s
  | 2 =>
    if rest then
      (s.setHome m Home.backoff).runMotor x
        (some (wrapPos (y.capture - dir * ((s.fld (F.MOT_HOME_BACKOFF_STEPS m) : Nat) : Int) * stepUnit))) 1 (some (s.fld (F.MOT_HOME_VFAST_V m)))
    else s
  | 3 =>
    if rest then
      if s.homeRef m then s.homingFault m none
      else
        ((s.setHome m Home.approach).modMotor x (fun y => { y with homeFrom := y.pos })).runMotor x none dir
          (some (s.fld (F.MOT_HOME_VSLOW_V m)))
    else s
  | 4 =>
    if 2 * ((s.fld (F.MOT_HOME_BACKOFF_STEPS m) : Nat) : Rat) < travel y.homeFrom y.pos then
      s.homingFault m (some (s.fld (F.MOT_DEC_DEC x)))
    else s
  | 5 =>
    if rest then
      let s := (s.setHome m Home.idle).raiseMotor (F.MOT_STATUS_HOME_DONE x) 0x0402 x
      let h := y.cmd
      (s.modMotor x (fun y => { y with cmd := none })).endMove h false
    else s
  | _ => s

/-- A homing axis keeps its MOVE over the rests between its stages. -/
def State.restHoming (s : State) (x : Nat) : State :=
  let y := s.motor x
  let s := s.setMotor x { y with v := 0, phase := 0, seeking := false, stopping := false, vmax := none }
  s.put (F.MOT_STATUS_DONE x) 1

/-! ## A tick (R183–R185, R189–R192, R203, R206) -/

/-- A sled's position moved by the gear or its loop, no further than its soft limits (R192). -/
def State.nudge (s : State) (x : Nat) (d : Int) : State :=
  let m := s.motor x
  let hi := s.sfld (F.MOT_SOFT_HI_HI x) * stepUnit
  let lo := s.sfld (F.MOT_SOFT_LO_LO x) * stepUnit
  let p := m.pos + d
  let p' := if 0 < d then (if hi < p then (if m.pos < hi then hi else m.pos) else p)
    else if d < 0 then (if p < lo then (if lo < m.pos then lo else m.pos) else p) else p
  let s := (s.setMotor x { m with pos := wrapPos p' }).showMotor x
  if p' = p then s else s.raiseMotor (F.MOT_STATUS_SOFT_LIMIT x) 0x0407 x

/-- AT as a signed count of 48 bits (R191). -/
def State.gearAt (s : State) (x : Nat) : Int :=
  toSigned 48 (s.fld (F.MOT_GEAR_AT_AT_LO x) + s.fld (F.MOT_GEAR_AT_HI_AT_HI x) * 2 ^ 32)

/-- Master counts added by a sled's gear (R190); counts beyond a pending AT wait for the change (R191). -/
def State.gearCounts (s : State) (x : Nat) (before n : Int) : State :=
  let m := s.motor x
  let at_ := s.gearAt x
  let ratioOf := s.sfld (F.MOT_GEAR_RATIO_RATIO x)
  let eng := s.flag (F.MOT_GEAR_CTRL_ENGAGE x)
  if s.flag (F.MOT_GEAR_CTRL_PENDING x) = false then (if eng then s.nudge x (n * ratioOf) else s)
  else if m.reached then s.setMotor x { m with lag := m.lag + n }
  else
    let crosses := (decide (0 ≤ n) && decide (at_ ≤ before + n)) || (decide (n < 0) && decide (before + n ≤ at_))
    if crosses then
      let s := s.setMotor x { m with reached := true, lag := before + n - at_ }
      if eng then s.nudge x ((at_ - before) * ratioOf) else s
    else if eng then s.nudge x (n * ratioOf) else s

/-- The master count of a station follows its angle by the shortest signed difference while the angle is valid (R189). -/
def State.followAngle (s : State) (st angle : Nat) : State :=
  let p := s.spindle st
  let s := s.put (F.SPN_ANGLE_ANGLE st) angle
  if s.flag (F.SPN_STATE_ANGLE_VALID st) = false then s.setSpindle st { p with angle := angle % 4096 }
  else
    let n := toSigned 12 ((angle + 4096 - p.angle % 4096) % 4096)
    let master := toSigned 48 (ofSigned 48 (p.master + n))
    let s := s.setSpindle st { p with master := master, angle := angle % 4096 }
    s.forEach [2 * st, 2 * st + 1] (fun s x =>
      let s := (s.put (F.MOT_MASTER_LO x) (ofSigned 48 master)).put (F.MOT_MASTER_HI_HI x) (ofSigned 48 master / 2 ^ 32)
      s.gearCounts x p.master n)

/-- The angle between crossings: it advances at the rate of the last interval, no further than the next crossing's value (R155). -/
def State.advanceAngle (s : State) (st : Nat) : State :=
  let p := s.spindle st
  match p.intervals.head? with
  | none => s
  | some t =>
    if s.flag (F.SPN_STATE_ANGLE_VALID st) = false ∨ t = 0 then s
    else
      let base := p.k * 512 / 3
      let next := (p.k + 1) * 512 / 3
      let run := (s.now - p.lastCross) * 512 / (3 * t)
      s.followAngle st ((min next (base + run) + s.fld (F.SPN_ANGLE_ANGLE_OFS st)) % 4096)

/-- Sled requests delivered in one tick of the sled period (R185). -/
def State.deliverRequest (s : State) (x : Nat) : State :=
  let m := s.motor x
  let k := m.req.natAbs
  let sum (i : Nat) : Nat := min k ((2 * i * k + 10) / 20)
  let n := if 10 ≤ m.reqTick then 0 else sum (m.reqTick + 1) - (if m.reqTick = 0 then 0 else sum m.reqTick)
  let s := s.setMotor x { m with reqTick := m.reqTick + 1 }
  if n = 0 then s else s.nudge x ((if m.req < 0 then -(n : Int) else n) * stepUnit)

/-- The profile step of a motor in a move (R183). -/
def State.motorStep (s : State) (x : Nat) : State :=
  let m := s.motor x
  let d : Int := if m.seeking then 2 ^ 63 - 1 else posDist m.pos m.target
  let vmax : Rat := match m.vmax with | some v => v | none => (s.fld (F.MOT_VMAX_VMAX x) : Rat)
  let r := profileStep vmax (s.fld (F.MOT_ACC_ACC x) : Rat) (m.dec : Rat) (s.fld (F.MOT_VMIN_VMIN x) : Rat)
    (ofUnits (d.natAbs : Int)) m.stopping m.phase m.v
  let step := toUnits r.2.2
  let arrived := decide (ofUnits (d.natAbs : Int) ≤ r.2.2)
  let pos := if arrived then m.target else wrapPos (m.pos + m.dir * step)
  let s := (s.setMotor x { m with pos := pos, phase := r.1, v := r.2.1 }).showMotor x
  if arrived then
    if 16 ≤ x ∧ 2 ≤ s.homeState (x - 16) ∧ s.homeState (x - 16) ≤ 5 then (s.restHoming x).showMotor x else (s.motorRest x).showMotor x
  else s

/-- The step generator: at most 20 steps in a tick, the lag delivered later (R184). -/
def State.emitSteps (s : State) (x : Nat) : State :=
  let m := s.motor x
  let want := toSigned 32 (ofSigned 32 (m.pos / stepUnit - m.emitted))
  let n := clampInt (-20) 20 want
  let s := s.setMotor x { m with emitted := toSigned 32 (ofSigned 32 (m.emitted + n)) }
  if n = want then s else s.put (F.MOT_STATUS_RATE_CLAMP x) 1

/-- The comparison with the encoder (R203). -/
def State.followCheck (s : State) (m : Nat) : State :=
  let x := 16 + m
  if s.flag (F.MOT_AX_CFG_ENC_EN m) = false then s
  else
    let enc : Rat := (s.sfld (F.MOT_ENC_COUNT m) : Rat) * (s.fld (F.MOT_ENC_SCALE_SCALE m) : Rat) / 65536
    if (s.fld (F.MOT_FOLLOW_MAX_STEPS m) : Rat) < absRat (ofUnits (s.motor x).pos - enc) then
      (s.raiseMotor (F.MOT_STATUS_FOLLOW_ERR x) 0x0404 x).faultAxis m
    else s

/-- Every 10 µs the profile generator advances each moving motor and group (R183, R206). -/
def execProfileTick (s : State) : Res :=
  let s := s.forEach (List.range 8) State.advanceAngle
  let s := s.forEach (List.range 12) State.followCheck
  let s := s.forEach (List.range 16) State.deliverRequest
  let s := s.forEach (List.range 28) (fun s x => if (s.motor x).phase ≠ 0 ∧ (16 ≤ x → (s.movingGroup (x - 16)).isNone) then s.motorStep x else s)
  let s := s.forEach (List.range 12) State.homeTick
  let s := s.forEach (List.range 3) State.groupTick
  .next (s.forEach (List.range 28) State.emitSteps)

/-! ## Starts and register writes (R182, R186–R192, R198, R199, R201) -/

def State.rejectMotor (s : State) (x : Nat) : State := s.put (F.MOT_STATUS_REJECTED x) 1

/-- A motor may start a move to a target (R190, R192, R199, R201). -/
def State.mayStart (s : State) (x : Nat) (target : Int) : Bool :=
  let m := s.motor x
  let up := decide (0 ≤ posDist m.pos (target * stepUnit))
  if m.phase ≠ 0 then false
  else if x < 16 then
    !s.flag (F.MOT_GEAR_CTRL_ENGAGE x) && decide (s.sfld (F.MOT_SOFT_LO_LO x) ≤ target) && decide (target ≤ s.sfld (F.MOT_SOFT_HI_HI x))
  else
    let a := x - 16
    !s.flag F.MOT_ESTOP_ACTIVE && !s.flag (F.MOT_STATUS_LIMIT x) && (s.movingGroup a).isNone &&
      (s.homeState a == Home.idle || s.homeState a == Home.fault) &&
      !(if up then s.flag (F.MOT_INPUTS_LIMP a) else s.flag (F.MOT_INPUTS_LIMN a))

/-- A move to MOT_TARGET, or its rejection. -/
def State.startMotor (s : State) (x : Nat) (h : Option Nat) : State :=
  let t := s.sfld (F.MOT_TARGET_TARGET x)
  if s.mayStart x t then
    let s := (s.modMotor x (fun m => { m with cmd := h })).runMotor x (some (t * stepUnit)) 1 none
    if posDist (s.motor x).pos (t * stepUnit) = 0 then (s.motorRest x).showMotor x else s
  else (s.rejectMotor x).endMove h true

/-- MOT_CTRL.START. -/
def execMotorStart (x : Fin 28) (s : State) : Res := .next (s.startMotor x none)

/-- A Rappel or emergency stop of a motor; of a member of a moving group, of the group (R198). -/
def State.rappel (s : State) (x dec : Nat) : State :=
  match (if 16 ≤ x then s.movingGroup (x - 16) else none) with
  | some g => s.brakeGroup g (s.groupLimits g).2.2.1 false
  | none => s.stopMotor x dec false

def execMotorRappel (x : Fin 28) (s : State) : Res := .next (s.rappel x (s.fld (F.MOT_DEC_DEC x)))
def execMotorEmergency (x : Fin 28) (s : State) : Res := .next (s.rappel x (s.fld (F.MOT_EDEC_EDEC x)))

/-- Homing started (R202). -/
def State.startHoming (s : State) (m : Nat) (h : Option Nat) : State :=
  let x := 16 + m
  if s.homeState m = Home.idle ∧ (s.motor x).phase = 0 ∧ (s.movingGroup m).isNone = true ∧ s.flag (F.MOT_STATUS_LIMIT x) = false ∧
      s.flag F.MOT_ESTOP_ACTIVE = false then
    let s := (s.setHome m Home.seek).modMotor x (fun y => { y with homeFrom := y.pos, cmd := h })
    s.runMotor x none (s.homeDir m) (some (s.fld (F.MOT_HOME_VFAST_V m)))
  else (s.rejectMotor x).endMove h true

/-- MOT_CTRL.HOME: axes only. -/
def execMotorHome (m : Fin 12) (s : State) : Res := .next (s.startHoming m none)

/-- The distance that a new target or deceleration must leave (R187, R188). -/
def Motor.room (m : Motor) (dec : Nat) : Rat := ratio (m.v * m.v) (2 * (dec : Rat)) + m.v / 100000

/-- A write of MOT_TARGET (R188, R192). -/
def execMotorTargetWrite (x : Fin 28) (value : Word) (s : State) : Res :=
  let m := s.motor x
  let t := value.toInt
  if m.phase = 0 then .next (s.put (F.MOT_TARGET_TARGET x) value.toNat)
  else
    let d := m.dir * posDist m.pos (t * stepUnit)
    let soft := decide (x.val < 16) && (decide (t < s.sfld (F.MOT_SOFT_LO_LO x)) || decide (s.sfld (F.MOT_SOFT_HI_HI x) < t))
    if m.stopping = false ∧ m.seeking = false ∧ soft = false ∧ 0 ≤ d ∧ m.room m.dec ≤ ofUnits d then
      .next ((s.put (F.MOT_TARGET_TARGET x) value.toNat).setMotor x { m with target := t * stepUnit })
    else .next (s.rejectMotor x)

/-- A write of VMAX (`acc` false) or ACC (R186). -/
def execMotorSpeedWrite (x : Fin 28) (acc : Bool) (value : Word) (s : State) : Res :=
  if acc then .next (s.put (F.MOT_ACC_ACC x) value.toNat)
  else
    let raised := decide (s.fld (F.MOT_VMAX_VMAX x) < value.toNat % 2 ^ 24)
    let s := s.put (F.MOT_VMAX_VMAX x) value.toNat
    let m := s.motor x
    .next (if raised ∧ m.phase = 2 then (s.setMotor x { m with phase := 1 }).showMotor x else s)

/-- A write of MOT_DEC (R187). -/
def execMotorDecWrite (x : Fin 28) (value : Word) (s : State) : Res :=
  let m := s.motor x
  let v := value.toNat
  let s := s.put (F.MOT_DEC_DEC x) v
  if m.phase = 0 ∨ m.stopping = true then .next s
  else if m.dec ≤ v then .next (s.setMotor x { m with dec := v })
  else
    let d := if m.seeking then m.room v else ofUnits ((posDist m.pos m.target).natAbs : Int)
    if m.phase ≠ 3 ∧ m.room v ≤ d then .next (s.setMotor x { m with dec := v })
    else .next (s.raiseMotor (F.MOT_STATUS_DECEL_DEFERRED x) 0x0406 x)

/-- A write of MOT_POS_SET (R182). -/
def execMotorPosSet (x : Fin 28) (value : Word) (s : State) : Res :=
  let m := s.motor x
  let busy := m.phase != 0 || (decide (x.val < 16) && s.flag (F.MOT_GEAR_CTRL_ENGAGE x)) ||
    (decide (16 ≤ x.val) && (s.movingGroup (x.val - 16)).isSome)
  if busy then .next (s.rejectMotor x)
  else .next ((s.setMotor x { m with pos := value.toInt * stepUnit, emitted := value.toInt }).showMotor x)

/-- A sled's gear engaged or disengaged (R190). -/
def State.setGear (s : State) (x : Nat) (on : Bool) : State :=
  if (s.motor x).phase ≠ 0 then s.rejectMotor x
  else (s.setFlag (F.MOT_GEAR_CTRL_ENGAGE x) on).modMotor x (fun m => { m with reduced := m.reduced && !on })

def execGearEngage (x : Fin 16) (on : Bool) (s : State) : Res := .next (s.setGear x on)

/-- The pending ratio takes effect (R191): counts beyond AT are added at the new ratio. -/
def State.changeGear (s : State) (x : Nat) : State :=
  let m := s.motor x
  let s := (s.put (F.MOT_GEAR_RATIO_RATIO x) (s.fld (F.MOT_GEAR_NEXT_NEXT x))).put (F.MOT_GEAR_CTRL_PENDING x) 0
  let s := s.setMotor x { m with lag := 0, reached := false }
  if s.flag (F.MOT_GEAR_CTRL_ENGAGE x) then s.nudge x (m.lag * s.sfld (F.MOT_GEAR_RATIO_RATIO x)) else s

/-- MOT_GEAR_CTRL.ARM (R191). -/
def State.armGear (s : State) (x : Nat) : State :=
  let master := (s.spindle (x / 2)).master
  let s := (s.put (F.MOT_GEAR_CTRL_PENDING x) 1).modMotor x (fun m => { m with lag := 0, reached := false })
  if s.gearAt x < master then (s.changeGear x).raiseMotor (F.MOT_STATUS_GEAR_LATE x) 0x0408 x
  else if s.gearAt x = master then s.changeGear x else s

def execGearArm (x : Fin 16) (s : State) : Res := .next (s.armGear x)

/-- The master count has reached AT (R191). -/
def execGearChange (x : Fin 16) (s : State) : Res :=
  if s.flag (F.MOT_GEAR_CTRL_PENDING x) = true ∧ (s.motor x).reached = true then .next (s.changeGear x) else .next s

/-! ## Group commands (R193, R198, R199, R204) -/

/-- A write of MOT_GRP_CTRL.MEMBERS (R193). -/
def execGroupMembersWrite (g : Fin 3) (members : BitVec 32) (s : State) : Res :=
  let v := members.toNat % 65536
  let other := (List.range 3).any (fun k => decide (k ≠ g.val) && decide (s.fld (F.MOT_GRP_CTRL_MEMBERS k) &&& v ≠ 0))
  if other = true ∨ 4096 ≤ v ∨ 4 < popCount 12 v then .next (s.put (F.MOT_GRP_STATUS_REJECTED g) 1)
  else .next (s.put (F.MOT_GRP_CTRL_MEMBERS g) v)

/-- A native group move (R193, R199, R201, R204). -/
def State.startGroup (s : State) (g : Nat) (h : Option Nat) : State :=
  let ms := setBits 12 (s.fld (F.MOT_GRP_CTRL_MEMBERS g))
  let ts := ms.map (fun m => s.sfld (F.MOT_TARGET_TARGET (16 + m)))
  let free := (ms.zip ts).all (fun e =>
    let y := s.motor (16 + e.1)
    (y.phase == 0) && !s.flag (F.MOT_STATUS_LIMIT (16 + e.1)) && (s.homeState e.1 == Home.idle || s.homeState e.1 == Home.fault) &&
      (let d := posDist y.pos (e.2 * stepUnit)
       d == 0 || !(if 0 < d then s.flag (F.MOT_INPUTS_LIMP e.1) else s.flag (F.MOT_INPUTS_LIMN e.1))))
  if (s.group g).busy = true ∨ s.flag F.MOT_ESTOP_ACTIVE = true ∨ free = false then
    (s.put (F.MOT_GRP_STATUS_REJECTED g) 1).endMove h true
  else (s.forEach ms (fun s m => s.modMotor (16 + m) (fun y => { y with reduced := false }))).beginLine g ms ts none 0 h

def execGroupStart (g : Fin 3) (s : State) : Res := .next (s.startGroup g none)

def execGroupRappel (g : Fin 3) (s : State) : Res :=
  let s := s.modGroup g (fun y => { y with queue := [] })
  let s := s.put (F.MOT_GRP_STATUS_QLEVEL g) 0
  .next (s.brakeGroup g (s.groupLimits g).2.2.1 false)

/-- MOT_ESTOP.ALL (R199): an emergency stop of every axis and group. -/
def execEstopAll (s : State) : Res :=
  let s := s.raise F.MOT_ESTOP_ACTIVE 0x040A srcAxes ([16, 0, 0, 0] ++ leBytes 4 (s.fld (F.MOT_POS_POS 16)))
  let s := s.forEach (List.range 3) (fun s g =>
    let s := (s.modGroup g (fun y => { y with queue := [] })).put (F.MOT_GRP_STATUS_QLEVEL g) 0
    s.brakeGroup g (s.groupEdec g) false)
  .next (s.forEach (List.range 12) (fun s m =>
    let x := 16 + m
    if (s.motor x).phase ≠ 0 ∧ (s.movingGroup m).isNone then
      let s := if s.homeState m = Home.idle then s else s.setHome m Home.idle
      s.stopMotor x (s.fld (F.MOT_EDEC_EDEC x)) false
    else s))

/-- ACTIVE cleared by the host, once every axis is at rest (R199). -/
def execEstopClear (s : State) : Res :=
  if (List.range 12).all (fun m => (s.motor (16 + m)).phase == 0) ∧ (List.range 3).all (fun g => (s.group g).phase == 0) then
    .next (s.put F.MOT_ESTOP_ACTIVE 0)
  else .next s

/-- HOME_FAULT cleared by the host: homing returns to IDLE (R202). -/
def execHomeFaultClear (m : Fin 12) (s : State) : Res :=
  let s := s.put (F.MOT_STATUS_HOME_FAULT (16 + m)) 0
  .next (if s.homeState m = Home.fault then s.setHome m Home.idle else s)

/-! ## Inputs (R200–R203) -/

/-- The position captured at an edge, as the register shows it. -/
def State.captureAt (s : State) (m : Nat) (edge : Int) : State :=
  (s.put (F.MOT_CAPTURE_POS m) (ofSigned 32 edge)).modMotor (16 + m) (fun y => { y with capture := wrapPos (edge * stepUnit) })

/-- The reference of a homing axis has qualified (R202). -/
def State.homeReference (s : State) (m : Nat) (edge : Int) : State :=
  let x := 16 + m
  match s.homeState m with
  | 1 => ((s.captureAt m edge).setHome m Home.stopping).stopMotor x (s.fld (F.MOT_DEC_DEC x)) false
  | 4 =>
    let s := s.captureAt m edge
    let y := s.motor x
    let shift := (s.sfld (F.MOT_HOME_POS_POS m)) * stepUnit - y.capture
    let s := s.setMotor x { y with pos := wrapPos (y.pos + shift), emitted := toSigned 32 (ofSigned 32 (y.emitted + shift / stepUnit)) }
    ((s.setHome m Home.settle).stopMotor x (s.fld (F.MOT_DEC_DEC x)) false).showMotor x
  | _ => s

/-- A limit input qualifies, active or inactive again; `edge`: the position at the raw edge that began the run (R200, R201, R202). -/
def execLimitQualified (m : Fin 12) (positive active : Bool) (edge : Int) (s : State) : Res :=
  let x := 16 + m.val
  let s := s.setFlag (if positive then F.MOT_INPUTS_LIMP m else F.MOT_INPUTS_LIMN m) active
  if active = false then .next s
  else
    let h := s.homeState m
    let toward := positive == s.flag (F.MOT_AX_CFG_HOME_DIR m)
    let homing := decide (1 ≤ h) && decide (h ≤ 5)
    let edec := s.fld (F.MOT_EDEC_EDEC x)
    if homing then
      if toward then
        if s.flag (F.MOT_AX_CFG_HOME_ON_LIMIT m) then .next (s.homeReference m edge)
        else if h = Home.seek then .next ((s.raiseMotor (F.MOT_STATUS_LIMIT x) 0x0401 x).homingFault m (some edec))
        else .next s
      else .next ((s.raiseMotor (F.MOT_STATUS_LIMIT x) 0x0401 x).homingFault m (some edec))
    else
      let dir : Int := match s.movingGroup m with
        | some g =>
          let y := s.group g
          ((y.members.zip y.deltas).find? (fun e => e.1 == m.val)).elim 0 (fun e => e.2)
        | none => if (s.motor x).phase = 0 then 0 else (s.motor x).dir
      if (positive = true ∧ 0 < dir) ∨ (positive = false ∧ dir < 0) then
        .next ((s.raiseMotor (F.MOT_STATUS_LIMIT x) 0x0401 x).faultAxis m)
      else .next s

/-- The home switch qualifies, active or inactive again (R200, R202). -/
def execHomeQualified (m : Fin 12) (active : Bool) (edge : Int) (s : State) : Res :=
  let s := s.setFlag (F.MOT_INPUTS_HOME m) active
  if active = true ∧ s.flag (F.MOT_AX_CFG_HOME_ON_LIMIT m) = false then .next (s.homeReference m edge) else .next s

/-- What an encoder's inputs did: a quarter step up or down, or both changed together (R203). -/
def execEncoderEdge (m : Fin 12) (edge : EncoderEdge) (s : State) : Res :=
  match edge with
  | .up => .next (s.sput (F.MOT_ENC_COUNT m) (s.sfld (F.MOT_ENC_COUNT m) + 1))
  | .down => .next (s.sput (F.MOT_ENC_COUNT m) (s.sfld (F.MOT_ENC_COUNT m) - 1))
  | .both => .next (s.raiseMotor (F.MOT_STATUS_ENC_ERR (16 + m.val)) 0x0405 (16 + m.val))

/-! ## Standstill (R196, R197) -/

/-- A sled has been at rest with its gear disengaged for HOLD_MS (R196). -/
def execSledStandstill (x : Fin 16) (s : State) : Res :=
  let m := s.motor x
  if m.phase = 0 ∧ s.flag (F.MOT_GEAR_CTRL_ENGAGE x) = false then .next (s.setMotor x { m with reduced := true }) else .next s

/-- An axis has been at rest for HOLD_DELAY (R197). -/
def execAxisHoldReduce (m : Fin 12) (s : State) : Res :=
  let x := 16 + m.val
  let y := s.motor x
  if y.phase = 0 ∧ (s.movingGroup m).isNone then .next (s.setMotor x { y with reduced := true }) else .next s

/-- The signed duties of windings A and B, by the microstep position, 1.0 full duty (R180, R196, R197). -/
def State.windingDuty (s : State) (x : Nat) : Rat × Rat :=
  let m := s.motor x
  let u := (ofSigned 32 (m.pos / stepUnit) % 1024) * 2 ^ 22
  let full : Rat := (s.fld (F.MOT_DRIVE_AMP x) : Rat) / 256
  let amp := if m.reduced then (if x < 16 then 0 else full * (s.fld (F.MOT_AX_CFG_HOLD_FRAC (x - 16)) : Rat) / 256) else full
  (amp * sinTurn (u + 2 ^ 30), amp * sinTurn u)

/-! ## MOVE (R203, R381) and L_SEGMENT (R388) -/

/-- A MOVE of the kind named, admitted and not begun. -/
def State.moveReady (s : State) (h kind : Nat) : Bool :=
  let c := s.cmd h
  c.op == Op.move && c.phase == .admitted && !c.started && c.id.body.getD 0 0 == kind

/-- The index and the i-th target of a MOVE. -/
def CmdId.moveIndex (i : CmdId) : Nat := i.body.getD 1 0
def CmdId.moveTarget (i : CmdId) (k : Nat) : Nat := leField i.body (8 + 4 * k) 4

def State.markStarted (s : State) (h : Nat) : State := s.modCmd h (fun c => { c with started := true })

/-- MOVE, KIND 0: an axis to TARGET0. -/
def execMoveAxis (h : Nat) (s : State) : Res :=
  if s.moveReady h 0 then
    let i := (s.cmd h).id
    let x := 16 + i.moveIndex % 12
    .next (((s.markStarted h).put (F.MOT_TARGET_TARGET x) (i.moveTarget 0)).startMotor x (some h))
  else .next s

/-- MOVE, KIND 1: a group to TARGET0–3 in member order. -/
def execMoveGroup (h : Nat) (s : State) : Res :=
  if s.moveReady h 1 then
    let i := (s.cmd h).id
    let g := i.moveIndex % 3
    let ms := setBits 12 (s.fld (F.MOT_GRP_CTRL_MEMBERS g))
    let s := (s.markStarted h).forEach ((List.range ms.length).zip ms) (fun s e => s.put (F.MOT_TARGET_TARGET (16 + e.2)) (i.moveTarget e.1))
    .next (s.startGroup g (some h))
  else .next s

/-- MOVE, KIND 2: homing. -/
def execMoveHoming (h : Nat) (s : State) : Res :=
  if s.moveReady h 2 then .next ((s.markStarted h).startHoming ((s.cmd h).id.moveIndex % 12) (some h)) else .next s

/-- MOVE, KIND 3: a Rappel stop; it completes at rest. -/
def execMoveRappel (h : Nat) (s : State) : Res :=
  if s.moveReady h 3 then
    let m := (s.cmd h).id.moveIndex % 12
    let s := s.markStarted h
    match s.movingGroup m with
    | some g => .next ((s.modGroup g (fun y => { y with cmd := some h })).brakeGroup g (s.groupLimits g).2.2.1 false)
    | none =>
      let s := s.modMotor (16 + m) (fun y => { y with cmd := some h })
      let s := if s.homeState m = Home.idle ∨ s.homeState m = Home.fault then s else s.setHome m Home.idle
      .next (s.stopMotor (16 + m) (s.fld (F.MOT_DEC_DEC (16 + m))) false)
  else .next s

/-- L_SEGMENT: it completes when it has entered its group's queue (R388); a group of another size takes no such segment. -/
def execLSegment (h : Nat) (s : State) : Res :=
  let c := s.cmd h
  if c.op = Op.lSegment ∧ c.phase = .admitted ∧ c.started = false then
    let g := c.id.segGroup
    if popCount 12 (s.fld (F.MOT_GRP_CTRL_MEMBERS g)) ≠ c.id.body.getD 0 0 then
      .next (s.finish h { status := Status.invalidField })
    else .next ((s.markStarted h).admitSegments g)
  else .next s

/-- The MOVEs and segments of commands that an ABORT stops (R381): the axis or group makes a Rappel stop, and the MOVE completes at rest. -/
def State.abortMove (s : State) (h status : Nat) : State :=
  let s := s.modCmd h (fun c => { c with res := { c.res with status := status } })
  match (List.range 12).find? (fun m => (s.motor (16 + m)).cmd == some h), (List.range 3).find? (fun g => (s.group g).cmd == some h) with
  | some m, _ =>
    let s := if s.homeState m = Home.idle ∨ s.homeState m = Home.fault then s else s.setHome m Home.idle
    s.stopMotor (16 + m) (s.fld (F.MOT_DEC_DEC (16 + m))) false
  | _, some g => s.brakeGroup g (s.groupLimits g).2.2.1 false
  | none, none => s.finish h { status := status }

end Sys2Proof.Machine
end

