-- ==== Sys2Proof/Machine/Recording.lean ====
section
/-!
DEFINITION. The shared operations of recording: the positions of a run, its channel bits, the frames that it plays and cuts, the closing of
its gates, broken blocks and their WRITEs, quality records (R270–R296).
-/
namespace Sys2Proof.Machine

/-- A frame sent to a pickup's laser driver (R86). -/
def State.ldd (s : State) (n type : Nat) (payload : List Nat) : State := s.emit (.ldd n type payload)

/-! The laser driver's registers (R91). -/
namespace Driver
abbrev mode : Nat := 0x0000
abbrev rate : Nat := 0x0004
abbrev phaseStep : Nat := 0x0008
abbrev launch : Nat := 0x000C
abbrev readPower : Nat := 0x0010
abbrev bankSelect : Nat := 0x0020
end Driver

/-- A driver register written through a CTRL frame (R86, R91). -/
def State.lddWrite (s : State) (n addr value : Nat) : State := s.ldd n 0x02 (leBytes 2 addr ++ leBytes 4 value)

/-! ## Positions (R43, R44, R55, R279) -/

/-- Recording on a layer passes its positions with falling indices (R43, R279): on odd layers, where the disc has opposite track paths. -/
def DiscInfo.falls (d : DiscInfo) (layer : Nat) : Bool := d.opposite && layer % 2 == 1

/-- The zone of a position of the data band and its number in the zone, with the zones from `z` on (R44). -/
def DiscInfo.zoneFrom (d : DiscInfo) : (fuel z i : Nat) → Nat × Nat
  | 0, z, i => (z, i)
  | fuel + 1, z, i => if i < d.zoneSectors z then (z, i) else d.zoneFrom fuel (z + 1) (i - d.zoneSectors z)

/-- Zone and position in it of index `i`. -/
def DiscInfo.zoneOf (d : DiscInfo) (i : Nat) : Nat × Nat := d.zoneFrom 4249 0 i

/-- The channel bit length at index `i`, in nm (R227), π to twenty places. -/
def DiscInfo.bitLength (d : DiscInfo) (i : Nat) : Rat :=
  let p := d.zoneOf i
  let k : Rat := (d.zoneSectors p.1 : Nat)
  let r : Rat := 24000000 + 8000 * (p.1 : Nat) + ratio (8000 * (p.2 : Nat)) k
  ratio (2 * (314159265358979323846 / 100000000000000000000) * r * 10) (k * 50176)

/-- A number rounded to the nearest integer, a half upward. -/
def nearest (x : Rat) : Int := (x + 1 / 2).floor

/-- D of emitter `k` of pickup `n` at index `i`: the channel bits by which its field is delayed (R282). -/
def State.emitterDelay (s : State) (n k i : Nat) : Nat :=
  if k = 0 then 0
  else (nearest (ratio (s.fld (F.RCH_ALIGN_OFS (4 * n + k)) : Nat) ((s.disc (n / 2)).bitLength i))).toNat

/-- The index that a stream's emitter meets `p` positions after the first. -/
def State.streamIndex (s : State) (n p : Nat) : Option Nat :=
  let r := (s.puRec n).run
  if (s.disc (n / 2)).falls r.layer then (if p ≤ r.first then some (r.first - p) else none) else some (r.first + p)

/-- The taken block and its sector that emitter `k` records at index `i` (R279). -/
def State.frameAt (s : State) (n k i : Nat) : Option (RecBlock × Nat) :=
  let run := (s.puRec n).run
  let j := 4 * (i % 18) + k
  if i / 18 < k then none
  else
    match s.recording.blocks.find? (fun r => r.pickup == n && r.layer == run.layer && r.inRun && r.b == i / 18 - k) with
    | some r => if r.played.contains j ∨ r.cut.contains j then none else some (r, j)
    | none => none

/-- What emitter `k` plays at write-clock bit `t` of the stream: the taken block, its sector, and the bit of the frame. -/
def State.playing (s : State) (n k t : Nat) : Option (RecBlock × Nat × Nat) :=
  let d := s.emitterDelay n k (s.puRec n).run.first
  if t < d then none
  else
    match s.streamIndex n ((t - d) / 50176) with
    | none => none
    | some i =>
      match s.frameAt n k i with
      | some e => some (e.1, e.2, (t - d) % 50176)
      | none => none

/-- The run streams: it is active and its gates have not been closed. -/
def State.streaming (s : State) (n : Nat) : Bool := let r := (s.puRec n).run; r.active && !r.faulted

def State.modRun (s : State) (n : Nat) (f : Run → Run) : State := s.modPuRec n (fun p => { p with run := f p.run })

/-- The gates opened that the schedule opens at the present bit (R279). -/
def State.showGates (s : State) (n : Nat) : State :=
  let t := (s.puRec n).run.bits
  let g := (List.range 4).foldl (fun a k => if s.streaming n && (s.playing n k t).isSome then a + 2 ^ k else a) 0
  s.modPickup n (fun p => { p with gates := g })

/-! ## Channel bits (R88, R278, R282) -/

/-- The channel bits of a sector's frame (R48, R278). -/
def RecBlock.frame (r : RecBlock) (psa j : Nat) : Array Bool :=
  (frameBits psa (ldpcEncode ldpcQ8 (ofLeBytes (r.secs.getD j [])))).toArray

/-- The 128 bits of emitter `k` in the CB frame at bit `t`, and whether its gate is open: a bit outside the frame being recorded is 0. -/
def State.cbField (s : State) (n k t : Nat) : Bool × List Bool :=
  let d := s.disc (n / 2)
  let one (u : Nat) : Option (Array Bool) :=
    match s.playing n k u with
    | some (r, j, _) => some (r.frame (d.sectorPsa r.side r.layer r.b j) j)
    | none => none
  let a := one t
  let b := one (t + 127)
  let bits := (List.range 128).map (fun x =>
    match s.playing n k (t + x) with
    | some (_, _, v) => ((if x ≤ v then a else b).getD #[]).getD v false
    | none => false)
  (a.isSome || b.isSome, bits)

/-- Eight bits as a byte, the first played the least significant (R88). -/
def byteOfBits (bs : List Bool) : Nat := (bs.take 8).foldr (fun b a => b2n b + 2 * a) 0

/-- A list in pieces of eight bits, as bytes. -/
def bytesOfBits : (fuel : Nat) → List Bool → List Nat
  | 0, _ => []
  | fuel + 1, bs => if bs.isEmpty then [] else byteOfBits bs :: bytesOfBits fuel (bs.drop 8)

/-- A CB frame for the 128 channel bits from `t` (R88). -/
def State.sendCb (s : State) (n t : Nat) (applyRate : Bool) : State :=
  let fs := (List.range 4).map (fun k => s.cbField n k t)
  let gate := (List.range 4).foldl (fun a k => if (fs.getD k (false, [])).1 then a + 2 ^ k else a) (if applyRate then 16 else 0)
  s.ldd n 0x01 (gate :: fs.flatMap (fun f => bytesOfBits 16 f.2))

/-! ## Frames played and cut (R279, R289) -/

/-- A position recorded in full: counted, a pad apart too (R296). -/
def State.framePlayed (s : State) (n : Nat) (r : RecBlock) (j : Nat) : State :=
  let s := s.setRecBlock { r with played := r.played ++ [j] }
  let s := s.count (F.REC_SECT_LO_COUNT n) (F.REC_SECT_HI_COUNT n) 1
  s.when (decide (j < 64) && (metaFlags (r.secs.getD j [])).testBit 0) (fun s =>
    s.count (F.REC_PAD_LO_COUNT n) (F.REC_PAD_HI_COUNT n) 1)

/-- The stream moves on to bit `t'`: frames whose last bit has been played are recorded. -/
def State.advanceStream (s : State) (n t' : Nat) : State :=
  let t := (s.puRec n).run.bits
  let s := s.forEach (List.range 4) (fun s k =>
    match s.playing n k t with
    | some (r, j, v) => if v + (t' - t) ≥ 50176 then s.framePlayed n r j else s
    | none => s)
  (s.modRun n (fun r => { r with bits := t' })).showGates n

/-- Frames of which a bit has been played with the gate open are cut (R289). -/
def State.cutFrames (s : State) (n : Nat) : State :=
  let t := (s.puRec n).run.bits
  s.forEach (List.range 4) (fun s k =>
    match s.playing n k t with
    | some (r, j, v) =>
      if 0 < v then
        (s.setRecBlock { r with cut := r.cut ++ [j] }).count (F.REC_CUT_LO_COUNT n) (F.REC_CUT_HI_COUNT n) 1
      else s
    | none => s)

/-- The address of B0 in the stream; where nothing streams, the start of the layer. -/
def State.streamPsa (s : State) (n : Nat) : Nat :=
  let r := (s.puRec n).run
  psaOf (n % 2) r.layer 0 ((s.streamIndex n (r.bits / 50176)).getD 0)

/-! ## Quality records (R294) -/

/-- The 16 bytes of a block's quality record; `outs`: the outcomes of its data sectors, none before a verify pass. -/
def RecBlock.qualityRecord (r : RecBlock) (dp : Nat) (outs : Option (List Nat)) (bad pads : Bool) : List Nat :=
  let n (p : Nat → Bool) : Nat := ((outs.getD []).filter p).length
  leBytes 4 ((r.block * dp) % 2 ^ 28 + r.side * 2 ^ 28 + r.layer * 2 ^ 29) ++
    [n (· == 0), n (· == 1), n (· == 2), n (· == 3), n (· == 4), n (fun o => decide (5 ≤ o)), min 255 r.cut.length,
     b2n outs.isSome + 2 * b2n bad + 4 * b2n (r.recorded == false) + 8 * b2n pads] ++
    [r.eyeMin, 0] ++ leBytes 2 r.mseMax

/-- A record written into the station's ring of 4,096, in place of the block's earlier one where it has one. -/
def State.writeQuality (s : State) (r : RecBlock) (outs : Option (List Nat)) (bad : Bool) : State :=
  let dp := (s.disc r.station).dataPerBlock
  let pads := (List.range 64).any (fun j => (metaFlags (r.secs.getD j [])).testBit 0)
  let q := r.qualityRecord dp outs bad pads
  let old := Table.at [] s.recording.quality r.station
  let new := if old.any (fun x => x.take 4 == q.take 4) && outs.isSome
    then old.map (fun x => if x.take 4 == q.take 4 then q else x)
    else (old ++ [q]).drop (old.length + 1 - 4096)
  { s with recording := { s.recording with quality := Table.put [] s.recording.quality r.station new } }

/-! ## Broken blocks (R290, R291, R320) -/

/-- The WRITE of a failed block: the LBAs that it has not delivered become pads, and it ends WRITE_FAULT (R290, R291). -/
def State.faultWrite (s : State) (h : Nat) : State :=
  let c := s.cmd h
  if c.data.gathered = c.id.nsect then s
  else
    let rest := (List.range (c.id.nsect - c.data.gathered)).map (fun i => c.id.lba + c.data.gathered + i)
    let r := s.writeResult c
    let s := s.endCmd h false { r with detail := min 65535 (c.data.pads + rest.length) }
    s.padLbas c.station c.id.mslot (fnClass c.id.fn) rest

/-- The entry of a block that will not be recorded is freed: requests that wait for it miss and allocate anew, and commands that read it
ask for the block again (R320). -/
def State.freeRecEntry (s : State) (e block : Nat) : State :=
  let x := s.entry e
  let s := s.forEach x.readers (fun s h =>
    s.modCmd h (fun c =>
      if c.op = Op.write then
        { c with data := { c.data with uses := c.data.uses.map (fun u => if u.entry = e then { u with entry := 48 } else u) } }
      else
        { c with data := { c.data with uses := c.data.uses.filter (fun u => u.entry != e), waiting := c.data.waiting ++ [block] } }))
  let s := s.freeEntry e
  s.forEach (x.readers ++ x.waiters) (fun s h => s.ask h block true)

/-- A committed block leaves the list of those to be recorded, and its commands learn of it. -/
def State.endRecBlock (s : State) (r : RecBlock) (failed : Bool) : State :=
  let s := s.dropRecBlock r.mslot r.block
  let s := s.modRun r.pickup (fun x => { x with blocks := x.blocks.filter (fun b => b != r.block) })
  let mine := s.allCmds.filter (fun e =>
    decide (e.2.op = Op.write) && decide (e.2.phase = .admitted) && e.2.id.mslot == r.mslot && (s.blocksOf e.2).contains r.block)
  let s := s.blockSettled r.mslot r.block failed
  s.when failed (fun s => s.forEach mine (fun s e => if (s.cmd e.1).live then s.faultWrite e.1 else s))

/-- A block is broken: its blank positions are never recorded, its entry is freed, its WRITE ends WRITE_FAULT (R290, R291). -/
def State.breakBlock (s : State) (r : RecBlock) : State :=
  let n := r.pickup
  let psa := (s.disc r.station).sectorPsa r.side r.layer r.b 0
  let s := s.raise (F.REC_PU_STATUS_BROKEN n) 0x0602 (srcPickup n) ([n, min 255 r.resumes, 0, 0] ++ leBytes 4 psa)
  let s := { s with cipher := { s.cipher with work := s.cipher.work.filter (fun w => !(w.kind == EngineKind.sealSector && w.entry == r.entry)) } }
  let s := s.writeQuality r none false
  let s := s.freeRecEntry r.entry r.block
  s.endRecBlock r true

/-- The blocks of a pickup's run that are not yet recorded in full, in logical order. -/
def State.runBlocks (s : State) (n : Nat) : List RecBlock :=
  sortBy (fun r => r.block) (s.recording.blocks.filter (fun r => r.pickup == n && r.inRun && !r.recorded))

/-- Every block of a pickup's run is broken, and the run ends (R290). -/
def State.breakRun (s : State) (n : Nat) : State :=
  let s := (s.runBlocks n).foldl (fun s r => s.breakBlock r) s
  (s.modRun n (fun _ => {})).put (F.REC_PU_STATUS_STATE n) 0

/-- A committed block that cannot be recorded for poisoned data, or for want of a power value (R286, R291, R304). -/
def State.unrecordable (s : State) (r : RecBlock) : Bool :=
  !r.inRun && !r.recorded && (r.poisoned || (s.puRec r.pickup).calFailed.contains r.layer)

/-- Those blocks are broken. -/
def State.breakUnrecordable (s : State) : State :=
  (s.recording.blocks.filter s.unrecordable).foldl (fun s r => s.breakBlock r) s

/-! ## Gate closure (R142, R288, R289) -/

/-- The four write gates of a pickup close. With gates open the frames in play are cut and the run waits to resume; a write fault is
flagged and posted, and blocks whose resumptions are exhausted are broken. `cause`: of a write fault by R288, none where Belay by the host
or an update closes them. -/
def State.closeGates (s : State) (n : Nat) (cause : Option Nat) : State :=
  if s.streaming n = false then s.modPickup n (fun p => { p with gates := 0 })
  else
    let psa := s.streamPsa n
    let s := s.cutFrames n
    let s := (s.modRun n (fun r => { r with faulted := true, closed := true })).modPickup n (fun p => { p with gates := 0 })
    let s := s.put (F.REC_PU_STATUS_STATE n) 5
    let s := s.modPuRec n (fun p => { p with fmdBad := 0, fmdSum := 0, fmdCount := 0, fmdGates := none })
    match cause with
    | none => s
    | some c =>
      let s := s.put (F.REC_PU_STATUS_LAST_CAUSE n) c
      let s := s.raise (F.REC_PU_STATUS_FAULT n) 0x0601 (srcPickup n) ([n, c, 0, 0] ++ leBytes 4 psa)
      let most := s.fld F.REC_FAULT_CFG_RETRY_MAX
      (s.runBlocks n).foldl (fun s r =>
        if most ≤ r.resumes then s.breakBlock r else s.setRecBlock { r with resumes := r.resumes + 1 }) s

/-- The gates close at the next sector boundary: the frames in play are recorded in full, blocks with a position recorded or cut are
broken, and the others wait for a new run (R292). -/
def State.stopAtBoundary (s : State) (n : Nat) : State :=
  let t := (s.puRec n).run.bits
  let s := s.when (s.streaming n) (fun s => s.forEach (List.range 4) (fun s k =>
    match s.playing n k t with
    | some (r, j, v) => if 0 < v then s.framePlayed n r j else s
    | none => s))
  let s := s.modPickup n (fun p => { p with gates := 0 })
  let begun := s.recording.blocks.filter (fun r => r.pickup == n && !r.recorded && !(r.played.isEmpty && r.cut.isEmpty))
  let s := begun.foldl (fun s r => s.breakBlock r) s
  let s := (s.runBlocks n).foldl (fun s r =>
    (s.setRecBlock { r with inRun := false }).modEntry r.entry (fun x => if x.st = .recording then { x with st := .committed } else x)) s
  (s.modRun n (fun _ => {})).put (F.REC_PU_STATUS_STATE n) 0

/-! ## Blocks taken and recorded (R279, R280, R320) -/

/-- The first block of a layer that the pickup has still to record: the lowest committed one, where none below it is still gathered
(R270). -/
def State.nextBlock (s : State) (n layer : Nat) : Option RecBlock :=
  let mine := s.recording.blocks.filter (fun r => r.pickup == n && r.layer == layer && !r.inRun && !r.recorded)
  match leastBy (fun r => r.block) mine with
  | none => none
  | some r =>
    let d := s.disc r.station
    let below (m b : Nat) : Bool := m == r.mslot && decide (b < r.block) && (d.blockPos b).side == r.side && (d.blockPos b).layer == layer
    if entryNumbers.any (fun e => let x := s.entry e; x.st == .gathering && below x.mslot x.block) ||
        s.recording.padWait.any (fun w => below w.mslot w.block) then none
    else some r

/-- A prepared block taken into the run (R279, R320). -/
def State.takeBlock (s : State) (r : RecBlock) : State :=
  let s := s.setRecBlock { r with inRun := true }
  let s := s.modEntry r.entry (fun x => if x.st = .committed then { x with st := .recording, recStart := s.now } else x)
  s.modRun r.pickup (fun x => { x with blocks := x.blocks ++ [r.block], last := r.block })

/-- The index that B0 meets when the first emitter of block `b` starts it: the block's first segment on P0, or its last on P3 (R279). -/
def DiscInfo.runStart (d : DiscInfo) (layer b : Nat) : Nat := if d.falls layer then 18 * (b + 3) + 17 else 18 * b

/-- The stream meets a segment's start: the next block of the run is taken where it is ready and due there; else the run takes none any
more (R280, R293). -/
def State.segmentStart (s : State) (n : Nat) : State :=
  let run := (s.puRec n).run
  let d := s.disc (n / 2)
  if run.closed ∨ run.bits % 50176 ≠ 0 then s
  else
    let i := (s.streamIndex n (run.bits / 50176)).getD 0
    if i % 18 ≠ (if d.falls run.layer then 17 else 0) then s
    else
      match s.nextBlock n run.layer with
      | some r =>
        if r.prepared = true ∧ s.unrecordable r = false ∧ r.block = run.last + 1 ∧ i = d.runStart run.layer r.b ∧
            (s.puRec n).sinceVerify < max 1 (s.fld F.REC_VERIFY_CFG_SPAN) then s.takeBlock r
        else s.modRun n (fun x => { x with closed := true })
      | none => s.modRun n (fun x => { x with closed := true })

/-- All 72 positions of a block have been recorded or cut. -/
def RecBlock.whole (r : RecBlock) : Bool := (List.range 72).all (fun j => r.played.contains j || r.cut.contains j)

/-- The last frame of a block has been played (R291, R294, R320, R341): its entry becomes VALID, or the request that waits for it takes it
up; the block is settled, or awaits its verify pass. -/
def State.blockRecorded (s : State) (r0 : RecBlock) : State :=
  let failed := decide (s.fld F.REC_FAULT_CFG_CUT_MAX < r0.cut.length)
  let r := { r0 with recorded := true, inRun := false, failed := failed }
  let s := s.setRecBlock r
  let s := s.modRun r.pickup (fun x => { x with blocks := x.blocks.filter (fun b => b != r.block) })
  let s := s.writeQuality r none false
  let s := { s with cache := { s.cache with drained := s.cache.drained + 1 } }
  let s := if (s.entry r.entry).st = .evicting then
      ((s.modEntry r.entry (fun x => { x with writeBack := false })).wakeWaiters r.entry).settleEvictions
    else s.modEntry r.entry (fun x => if x.st = .recording then { x with st := .valid } else x)
  if r.verifyLeft then s.modPuRec r.pickup (fun p => { p with sinceVerify := p.sinceVerify + 1 })
  else s.endRecBlock r failed

end Sys2Proof.Machine
end

