-- ==== Sys2Proof/Machine/Servo.lean ====
section
/-!
DEFINITION. Focus, layers and track following: the states of a pickup and their transitions, jumps and seeks, losses and recovery, Belay,
what a servo sample makes of the error signals, and the end of LOADs and calibrations that a loss cuts (R83, R128–R149, R488).
-/
namespace Sys2Proof.Machine

/-! ## LOAD and calibration cut short (R375, R381, R488) -/

/-- A LOAD fails or is stopped: its binding ends; the disc stays in the station, not loaded (R63, R375, R381). -/
def State.failLoad (s : State) (h status : Nat) : State :=
  let c := s.cmd h
  let s := s.unbind c.id.mslot
  let s := s.modStation c.station (fun x => { x with
    state := 5, mslot := some c.id.mslot, disc := none, tables := [], noTable := [] })
  let s := s.forEach [2 * c.station, 2 * c.station + 1] (fun s n => s.modPickup n (fun y => { y with goal := none, reached := none, startReq := false }))
  s.finish h { status := status }

/-- An UNLOAD that the loss of the spindle ends: a disc whose blocks are all recorded stands in the station, not loaded (R168, R173). -/
def State.failUnload (s : State) (h status : Nat) : State :=
  let c := s.cmd h
  let s := s.modStation c.station (fun x => if x.disc.isSome then { x with state := 3 } else { x with state := 5 })
  s.finish h { status := status }

/-- The LOAD that a station carries out. -/
def State.loadOf (s : State) (st : Nat) : Option Nat :=
  (s.allCmds.find? (fun e => e.2.op == Op.load && e.2.phase == .admitted && e.2.station == st)).map (fun e => e.1)

def State.calRun (s : State) (n : Nat) : CalRun := Table.at {} s.calib.runs n
def State.setCalRun (s : State) (n : Nat) (r : CalRun) : State :=
  { s with calib := { s.calib with runs := Table.put {} s.calib.runs n r } }

/-- The procedure that a station shows (R490). -/
def State.showCal (s : State) (st : Nat) : State :=
  let a := s.calRun (2 * st)
  let b := s.calRun (2 * st + 1)
  let r := if a.proc ≠ 0 then a else b
  (((s.put (F.CAL_ST_STATUS_PROC st) r.proc).setFlag (F.CAL_ST_STATUS_TOP st) (a.proc != 0)).setFlag (F.CAL_ST_STATUS_BOTTOM st)
    (b.proc != 0)).put (F.CAL_ST_STATUS_LAYER st) r.layer

/-- A command's status fixed by what ended the procedure that it ran. -/
def State.endCalCmd (s : State) (h : Option Nat) (status : Nat) : State :=
  match h with
  | none => s
  | some h =>
    if (s.cmd h).live = false then s
    else if (s.cmd h).op = Op.load then s.failLoad h status
    else s.endCmd h false { status := status }

/-- The procedure of a pickup is abandoned, with that of the station's other pickup where one command runs both: CAL_ABORTED with its
cause, and the status of the cause for the command (R488). -/
def State.abortCal (s : State) (n cause status : Nat) : State :=
  let r := s.calRun n
  if r.proc = 0 then s
  else
    let st := n / 2
    let both := r.cmd.isSome && (s.calRun (2 * st + (1 - n % 2))).cmd == r.cmd
    let s := s.setCalRun n {}
    let s := s.when both (fun s => s.setCalRun (2 * st + (1 - n % 2)) {})
    let s := s.showCal st
    let s := s.raise (F.CAL_ST_STATUS_ABORTED st) 0x0D03 (srcStation st) [st, r.proc, n, r.layer, cause]
    s.endCalCmd r.cmd status

/-! ## Emission (R83) -/

/-- Every condition of R83 but LDEN_REQ holds. -/
def State.mayEmit (s : State) (n : Nat) : Bool :=
  s.slotPowered (n / 2) && s.flag (F.SRV_LDD_STATUS_LINK_UP n) && !s.flag (F.SRV_IF_STATUS_FMD_HIGH n)

/-- The level of OPUn_LDEN. -/
def State.driveLden (s : State) (n : Nat) : State :=
  s.setFlag (F.SRV_LDD_STATUS_LDEN n) (s.mayEmit n && s.flag (F.SRV_LDD_CTRL_LDEN_REQ n))

/-! ## Positions and targets (R41–R44, R129, R136) -/

/-- Revolutions of a zone, and tracks of a revolution (R41, R66, R147). -/
def DiscInfo.zoneRevs (d : DiscInfo) : Nat := if d.s4 then 25 else 10
def DiscInfo.tracksPerRev (d : DiscInfo) : Nat := if d.s4 then 1 else 4
/-- Advance of a spiral in one revolution, in µm. -/
def DiscInfo.pitch (d : DiscInfo) : Rat := if d.s4 then 8 / 25 else 4 / 5

/-- Revolutions from the start of the data band to a position: negative in the information zone and the power calibration area. -/
def DiscInfo.revOf (d : DiscInfo) (index : Nat) : Rat :=
  let info := infoZoneBase d.s4
  if info ≤ index then
    let k : Rat := ((index - info : Nat) : Int)
    if d.s4 then k / 52 - 625 else k / 59 - 250
  else if pcaBase ≤ index ∧ ¬ d.s4 then (((index - pcaBase : Nat) : Int) : Rat) / 57 - 1250
  else
    let p := d.zoneOf index
    (d.zoneRevs : Rat) * ((p.1 : Nat) : Rat) + ratio ((d.zoneRevs * p.2 : Nat) : Rat) ((d.zoneSectors p.1 : Nat) : Rat)

/-- Radius of a position in mm. -/
def DiscInfo.radius (d : DiscInfo) (index : Nat) : Rat := 24 + d.revOf index * d.pitch / 1000

/-- The order in which the blocks that a station reads are wanted: the oldest command that waits for one, read-ahead last. -/
def State.workOrder (s : State) (e : Nat) : Nat :=
  (s.entry e).readers.foldl (fun a h => min a (s.cmd h).order) (2 ^ 40)

/-- The position that the present work of a pickup asks for: an explicit goal; the next block to be recorded; or the oldest block of its
side that is being read and still expects sectors (R129). -/
def State.wanted (s : State) (n : Nat) : Option Nat :=
  let p := s.pickup n
  let d := s.disc (n / 2)
  let start (layer b : Nat) : Nat := psaOf (n % 2) layer 0 (if d.s4 then 36 * b else d.runStart layer b)
  match p.goal with
  | some g => some g
  | none =>
    let run := (s.puRec n).run
    if run.active then
      if run.faulted then
        -- the earliest blank position of the run's blocks (R289)
        let blanks := (s.runBlocks n).flatMap (fun r => ((List.range 72).filter (fun j => !(r.played.contains j || r.cut.contains j))).map
          (fun j => (d.sectorIndex r.b j).2))
        match leastBy (fun i => if d.falls run.layer then 2 ^ 26 - i else i) blanks with
        | some i => some (psaOf (n % 2) run.layer 0 i)
        | none => none
      else none
    else
      let here := s.fld (F.SRV_PU_STATE_LAYER n)
      let rec1 := s.recording.blocks.find? (fun r => r.pickup == n && !r.recorded)
      match (match s.nextBlock n here with
        | some r => some r
        | none => match rec1 with | some r => s.nextBlock n r.layer | none => none) with
      | some r => some (start r.layer r.b)
      | none =>
        let es := entryNumbers.filter (fun e =>
          let w := s.work e
          w.active && w.station == n / 2 && w.side == n % 2 && w.secs.any (fun x => x.2.st == .expected))
        match leastBy s.workOrder es with
        | some e => some (start (s.work e).layer (s.work e).b)
        | none => none

/-- Whole revolutions to be jumped from an address so that B0 stands one revolution before the target, outward positive (R129, R136). -/
def State.revsTo (s : State) (n a target : Nat) : Int :=
  let d := s.disc (n / 2)
  let cur := d.revOf (psaIndex a)
  if d.falls (psaLayer target) then -((-(d.revOf (psaIndex target) + 1 - cur)).floor) else (d.revOf (psaIndex target) - 1 - cur).floor

/-- A target is reached by following (R129): it lies ahead by less than the two revolutions within which a seek leaves it, or within the block
just begun. -/
def State.ahead (s : State) (n a target : Nat) : Bool :=
  let d := s.disc (n / 2)
  let falls := d.falls (psaLayer target)
  let revs := d.revOf (psaIndex target) - d.revOf (psaIndex a)
  let gap := if falls then -revs else revs
  let diff : Int := (psaIndex target : Int) - (psaIndex a : Int)
  let dist := if falls then -diff else diff
  (decide (0 ≤ gap) && decide (gap < 2)) || (decide (-72 ≤ dist) && decide (dist ≤ 0))

/-! ## The states of a pickup (R128, R138) -/

/-- Modes of FOCUS, TRACK, TILT and SLED in a state: 0 OFF, 1 OPEN, 2 CLOSED, 3 HOLD. -/
def puModes (p : Nat) : List Nat :=
  match p with
  | 1 | 10 => [1, 0, 0, 0]
  | 2 | 3 => [2, 0, 0, 0]
  | 4 | 5 | 9 => [2, 2, 2, 2]
  | 6 => [2, 1, 3, 2]
  | 7 => [1, 0, 3, 0]
  | 8 => [2, 0, 3, 0]
  | _ => [0, 0, 0, 0]

/-- The hold configuration that firmware gives a loop when it closes (R138); triggers that R139 has cleared stay so. -/
def State.holdDefaults (s : State) (n l : Nat) : State :=
  let t := if (s.pickup n).trigsOff then 0 else 1
  match l with
  | 0 | 1 => ((((s.put (F.SRV_LOOP_HOLD_MODE n l) 2).put (F.SRV_LOOP_HOLD_TRIG_DEFECT n l) t).put (F.SRV_LOOP_HOLD_TRIG_LOWSUM n l) t).put
      (F.SRV_LOOP_HOLD_EXTEND n l) 8)
  | 2 => ((((s.put (F.SRV_LOOP_HOLD_MODE n l) 0).put (F.SRV_LOOP_HOLD_TRIG_DEFECT n l) t).put (F.SRV_LOOP_HOLD_TRIG_LOWSUM n l) t).put
      (F.SRV_LOOP_HOLD_EXTEND n l) 8)
  | _ => ((((s.put (F.SRV_LOOP_HOLD_MODE n l) 0).put (F.SRV_LOOP_HOLD_TRIG_DEFECT n l) 0).put (F.SRV_LOOP_HOLD_TRIG_LOWSUM n l) 0).put
      (F.SRV_LOOP_HOLD_EXTEND n l) 0)

/-- A loop put into a mode; one that closes takes its hold configuration, and TILT in HOLD freezes. -/
def State.driveLoop (s : State) (n l mode : Nat) : State :=
  let was := s.fld (loopModeFld n l)
  if was = mode then s
  else
    let s := s.when (decide (mode = 2) && decide (was < 2)) (fun s => s.holdDefaults n l)
    let s := s.when (decide (mode = 3)) (fun s => s.put (F.SRV_LOOP_HOLD_MODE n l) 0)
    s.setMode n l mode

/-- A pickup enters a state: its loops, its gearing, its emission request, and its counts anew. -/
def State.enter (s : State) (n p : Nat) : State :=
  let old := s.puState n
  let s := s.when (decide (old = Pu.follow) && decide (p ≠ Pu.follow)) (fun s => s.holdLanes n)
  let s := s.put (F.SRV_PU_STATE_STATE n) p
  let s := s.forEach (List.range 4) (fun s l => s.driveLoop n l ((puModes p).getD l 0))
  let geared := p == Pu.follow || p == Pu.ljump || p == Pu.belay
  let s := s.when (s.flag (F.MOT_GEAR_CTRL_ENGAGE n) != geared) (fun s => s.setGear n geared)
  let s := (s.setFlag (F.SRV_LDD_CTRL_LDEN_REQ n) !(p == Pu.off || p == Pu.park || p == Pu.fault)).driveLden n
  s.modPickup n (fun y => { y with
    ramp := 0, feGood := 0, teGood := 0, focLoss := 0, trkLoss := 0, captured := false, jumping := false, jumpCross := 0
    lastSlope := s.timebase, crossings := 0, sumSeen := false, addr := if p = Pu.follow ∨ p = Pu.belay then y.addr else none, badAddr := 0
    baeSum := 0, baeCount := 0, pullWait := false })

/-- Payload of the events of R148: pickup, state, two bytes, four bytes. -/
def State.puPayload (s : State) (n : Nat) (two : List Nat) (four : Nat) : List Nat :=
  [n, s.puState n] ++ padTo 2 two ++ leBytes 4 four

/-- The code last applied to FOC. -/
def State.focCode (s : State) (n : Nat) : Int := s.sfld (F.SRV_DAC_FT_FOC n)

/-- SEARCH entered for a layer (R129, R130). -/
def State.startSearch (s : State) (n layer : Nat) : State :=
  let s := s.enter n Pu.search
  let s := s.put (F.SRV_LOOP_DRIVE_CODE n 0) (s.fld (F.SRV_FOC_SEARCH_PARK n))
  s.modPickup n (fun y => { y with layer := layer, ramp := 1, rampAt := s.timebase, sweeps := 0, ljCount := 0, coarse := 0 })

/-- The lens is parked by a ramp (R141 step 2); FAULT follows where `fault` is set. -/
def State.parkLens (s : State) (n : Nat) (fault : Bool) : State :=
  let p := s.puState n
  if p = Pu.off ∨ p = Pu.fault then s
  else
    let code := s.focCode n
    let s := s.enter n Pu.park
    let s := s.sput (F.SRV_LOOP_DRIVE_CODE n 0) code
    s.modPickup n (fun y => { y with ramp := 4, rampAt := s.timebase, rampFrom := code, parkFault := fault, recovering := false, startReq := false })

/-- The layer that the pickup's work asks for. -/
def State.targetLayer (s : State) (n : Nat) : Nat :=
  match s.wanted n with
  | some t => psaLayer t
  | none => s.fld (F.SRV_PU_STATE_LAYER n)

/-! ## Write gates (R142, R288) -/

/-- The gates of a pickup close where any is open, and GATE_CLOSED is set; `cause` as R288 has it. -/
def State.shutGates (s : State) (n : Nat) (cause : Option Nat) : State :=
  if (s.pickup n).gates = 0 then s.when (s.streaming n) (fun s => s.closeGates n cause)
  else (s.put (F.SRV_BAE_REV_GATE_CLOSED n) 1).closeGates n cause

/-! ## Losses and recovery (R140, R141, R145) -/

/-- Every command of a station whose range lies on a side ends with a status, and a LOAD with it (R141). -/
def State.failSide (s : State) (n status : Nat) : State :=
  let st := n / 2
  let d := s.disc st
  s.forEach (s.stationCmds st) (fun s e =>
    let c := s.cmd e.1
    if usesLba c.op = true ∧ (d.pieces c.id.lba (s.sectorsOf c)).any (fun p => p.1 == n % 2) = true then s.stopCmd e.1 status
    else if c.op = Op.load ∧ c.phase = .admitted then s.failLoad e.1 status
    else s)

/-- The pickup gives up (R141). -/
def State.giveUp (s : State) (n : Nat) : State :=
  let s := s.post 0x0245 (srcPickup n) (s.puPayload n [s.fld (F.SRV_PU_STATE_RECOVER_COUNT n)] 0)
  let s := s.parkLens n true
  let s := s.abortCal n 3 Status.servoFault
  (s.breakRun n).failSide n Status.servoFault

/-- A recovery attempt counted and made, or given up (R141). -/
def State.attempt (s : State) (n : Nat) (act : State → State) : State :=
  let c := s.fld (F.SRV_PU_STATE_RECOVER_COUNT n)
  if s.fld (F.SRV_DEFECT_CFG_RECOVER_MAX n) ≤ c then s.giveUp n
  else act (s.put (F.SRV_PU_STATE_RECOVER_COUNT n) (c + 1))

/-- A loss met by a calibration: the second abandons it (R488). -/
def State.calLoss (s : State) (n : Nat) : State :=
  let r := s.calRun n
  if r.proc = 0 then s
  else if r.losses = 0 then s.setCalRun n { r with losses := 1 }
  else s.abortCal n 0 Status.servoFault

/-- The pickup is to return to its last confirmed sector (R141). -/
def State.backToConfirmed (s : State) (n : Nat) : State :=
  s.modPickup n (fun y => { y with recovering := true, goal := if y.goal.isSome then y.goal else y.confirmed, reached := none })

/-- A loss of focus (R140, R141). -/
def State.lossOfFocus (s : State) (n : Nat) : State :=
  let s := s.raise (F.SRV_BAE_REV_FOCUS_LOST n) 0x0241 (srcPickup n) (s.puPayload n [] ((s.pickup n).confirmed.getD 0))
  let s := (s.shutGates n (some 1)).calLoss n
  let s := s.backToConfirmed n
  if s.mayEmit n = false then s.giveUp n
  else s.attempt n (fun s => s.startSearch n (s.fld (F.SRV_PU_STATE_LAYER n)))

/-- PULLIN entered with TRACK off. -/
def State.toPullin (s : State) (n : Nat) : State := s.enter n Pu.pullin

/-- A loss of track; in a Belay for the spindle TRACK goes off and pull-in waits (R141, R145). -/
def State.lossOfTrack (s : State) (n : Nat) : State :=
  let s := s.raise (F.SRV_BAE_REV_TRACK_LOST n) 0x0242 (srcPickup n) (s.puPayload n [] ((s.pickup n).confirmed.getD 0))
  let s := s.shutGates n (some 1)
  if s.puState n = Pu.belay ∧ (s.fld (F.SRV_PU_STATE_BELAY_CAUSE n)).testBit belaySpindle = true then
    (s.driveLoop n 1 0).modPickup n (fun y => { y with pullWait := true, jumping := false, addr := none })
  else
    let s := (s.calLoss n).backToConfirmed n
    s.attempt n (fun s => s.toPullin n)

/-! ## Belay (R129, R143–R146) -/

/-- BELAY entered from FOLLOW while a cause is present. Recording stops for it: a write fault unless the causes are the host's or an
update's (R288). -/
def State.enterBelay (s : State) (n : Nat) : State :=
  let causes := s.fld (F.SRV_PU_STATE_BELAY_CAUSE n)
  let cause := if causes.testBit belayLate ∨ causes.testBit belaySpindle then some 1 else none
  let s := s.shutGates n cause
  let s := s.enter n Pu.belay
  s.post 0x0248 (srcPickup n) (s.puPayload n [causes] 0)

/-- On entry to a layer DS s writes the lanes' coefficients, targets, correction values and filter setting of its record, or the image
defaults (R230). -/
def State.loadLanes (s : State) (n : Nat) : State :=
  let layer := s.fld (F.SRV_PU_STATE_LAYER n)
  if (s.pickup n).laneLayer = some layer then s
  else
    let s := s.modPickup n (fun y => { y with laneLayer := some layer })
    s.forEach (List.range 4) (fun s k =>
      let bc := 4 * n + k
      let r := s.laneRecord (n / 2) bc layer
      let s := s.forEach (List.range 60) (fun s i => s.laneWrite bc (laneRegOf (8 + i)) (leField r (2 * i) 2))
      ((((s.laneWrite bc .ctf (leField r 122 2)).laneWrite bc .offset (leField r 124 2)).laneWrite bc .dgain (leField r 126 2)).laneWrite bc .asym
        (leField r 128 2)).laneWrite bc .target (leField r 130 4))

/-- FOLLOW entered: a recovery has succeeded, a goal is reached, and a waiting Belay cause takes effect. -/
def State.toFollow (s : State) (n : Nat) : State :=
  let s := (s.enter n Pu.follow).loadLanes n
  let s := s.modPickup n (fun y => { y with
    goal := if y.recovering then none else y.goal, reached := if y.recovering then none else y.goal
    recovering := false, coarse := 0, ljCount := 0 })
  if s.fld (F.SRV_PU_STATE_BELAY_CAUSE n) ≠ 0 ∧ (s.calRun n).proc = 0 then s.enterBelay n else s

/-- Belay after a change of its causes: entered from FOLLOW, or left (R129, R143). A procedure ends first (R488). -/
def State.checkBelay (s : State) (n : Nat) : State :=
  let causes := s.fld (F.SRV_PU_STATE_BELAY_CAUSE n)
  if s.puState n = Pu.follow ∧ causes ≠ 0 ∧ (s.calRun n).proc = 0 then s.enterBelay n
  else if s.puState n = Pu.belay ∧ causes = 0 then
    let wait := (s.pickup n).pullWait
    let s := s.post 0x0249 (srcPickup n) (s.puPayload n [] 0)
    if wait then (s.backToConfirmed n).toPullin n else s.toFollow n
  else s

/-- A Belay cause set or cleared (R143). -/
def State.setBelay (s : State) (n bit : Nat) (on : Bool) : State :=
  let c := s.fld (F.SRV_PU_STATE_BELAY_CAUSE n)
  let c' := if on then c ||| 2 ^ bit else c &&& (15 - 2 ^ bit)
  (s.put (F.SRV_PU_STATE_BELAY_CAUSE n) c').checkBelay n

/-- The spindle has lost its rotor: each pickup of the station enters BELAY, from a transitional state too where focus is closed; without
TRACK closed its pull-in waits (R145). A pickup that has no focus goes on looking for it, its cause recorded (R146). -/
def State.rotorLost (s : State) (st : Nat) : State :=
  s.forEach [2 * st, 2 * st + 1] (fun s n =>
    let p := s.puState n
    if p = Pu.off ∨ p = Pu.fault ∨ p = Pu.park then s
    else
      let s := s.abortCal n 1 Status.spindleFault
      let s := s.put (F.SRV_PU_STATE_BELAY_CAUSE n) (s.fld (F.SRV_PU_STATE_BELAY_CAUSE n) ||| 2 ^ belaySpindle)
      if p = Pu.follow then s.enterBelay n
      else if p = Pu.focused ∨ p = Pu.pullin ∨ p = Pu.align ∨ p = Pu.tjump ∨ p = Pu.coarse then
        let tracked := p == Pu.align
        let s := s.enterBelay n
        if tracked then s else (s.driveLoop n 1 0).modPickup n (fun y => { y with pullWait := true })
      else s)

/-! ## Jumps and seeks (R132, R134, R136) -/

/-- A track jump of `t` tracks; `keep`: made without leaving BELAY or FOLLOW (R144, R280). A positive TRK moves the beams inward (R80). -/
def State.trackJump (s : State) (n t : Nat) (outward keep : Bool) : State :=
  let s := if keep then (s.driveLoop n 2 3).driveLoop n 1 1 else s.enter n Pu.tjump
  let k : Int := (s.fld (F.SRV_JUMP_CFG_TKICK n) : Nat)
  let s := s.sput (F.SRV_LOOP_DRIVE_CODE n 1) (satSigned 16 (if outward then -k else k))
  s.modPickup n (fun y => { y with jumping := true, jumpTracks := t, jumpOut := outward, jumpCross := 0, teGood := 0, addr := none })

/-- A layer jump from the layer under the lens (R132 steps 1 and 2). -/
def State.layerJump (s : State) (n layer : Nat) : State :=
  let src := s.fld (F.SRV_PU_STATE_LAYER n)
  let code := s.focCode n
  let k : Int := (s.fld (F.SRV_JUMP_CFG_KICK n) : Nat)
  let s := s.enter n Pu.ljump
  let s := s.sput (F.SRV_LOOP_DRIVE_CODE n 0) (satSigned 16 (if src < layer then code - k else code + k))
  s.modPickup n (fun y => { y with layer := layer, ljFrom := src, ljCode := code, ljBraked := false, ljCount := y.ljCount + 1 })

/-- A layer jump fails (R132). -/
def State.layerJumpFail (s : State) (n : Nat) : State :=
  let p := s.pickup n
  let s := s.post 0x0243 (srcPickup n) (s.puPayload n [p.ljFrom, p.layer] 0)
  s.startSearch n p.layer

/-- Microsteps of a sled of one revolution's advance; one microstep is 0.5859375 µm. -/
def microsteps (um : Rat) : Int := nearest (um / (5859375 / 10000000))

/-- A coarse move by `q` revolutions (R136): gearing suspended, TRACK off, TILT frozen, the sled moved at SRV_SEEK_CFG's speed and
acceleration. -/
def State.coarseMove (s : State) (n : Nat) (q : Int) : State :=
  let d := s.disc (n / 2)
  let s := s.enter n Pu.coarse
  let s := s.modPickup n (fun y => { y with coarse := y.coarse + 1 })
  let step : Rat := 5859375 / 10000000
  let v := (nearest ((s.fld (F.SRV_SEEK_CFG_VMAX n) : Nat) * 100 / step)).toNat
  let a := (nearest ((s.fld (F.SRV_SEEK_CFG_ACC n) : Nat) * 10000 / step)).toNat
  let s := ((s.put (F.MOT_VMAX_VMAX n) v).put (F.MOT_ACC_ACC n) a).put (F.MOT_DEC_DEC n) a
  let at0 := (s.motor n).pos / stepUnit
  (s.sput (F.MOT_TARGET_TARGET n) (at0 + microsteps (q * d.pitch))).startMotor n none

/-! ## Addresses (R129, R140, R147) -/

/-- An address in ALIGN: the rows of R129 in their order. -/
def State.alignAddress (s : State) (n a : Nat) : State :=
  let d := s.disc (n / 2)
  let target := s.wanted n
  let layer := s.targetLayer n
  let s := s.put (F.SRV_PU_STATE_B0_SPIRAL n) (psaSpiral a)
  if psaSide a ≠ n % 2 then
    let s := s.post 0x024A (srcPickup n) (s.puPayload n [] a)
    ((s.enter n Pu.fault).abortCal n 3 Status.servoFault).failSide n Status.servoFault
  else
    let s := s.put (F.SRV_PU_STATE_LAYER n) (psaLayer a)
    if psaLayer a ≠ layer then
      if 2 ≤ (s.pickup n).ljCount then (s.modPickup n (fun y => { y with layer := layer })).layerJumpFail n
      else s.layerJump n layer
    else if psaSpiral a ≠ 0 ∧ ¬ d.s4 then s.trackJump n (psaSpiral a) false false
    else
      let s := s.modPickup n (fun y => { y with confirmed := some a, addr := some a })
      match target with
      | none => s.toFollow n
      | some t =>
        let q := s.revsTo n a t
        let tracks := q.natAbs * d.tracksPerRev
        if s.fld (F.SRV_DEFECT_CFG_FINE_MAX n) < tracks then
          if 3 ≤ (s.pickup n).coarse then
            let s := s.post 0x0244 (srcPickup n) (s.puPayload n [] t)
            (s.modPickup n (fun y => { y with coarse := 0 })).attempt n (fun s => s.toPullin n)
          else s.coarseMove n q
        else if tracks ≠ 0 then s.trackJump n tracks (decide (0 < q)) false
        else s.toFollow n

/-- An address while the pickup follows, `passed` positions after the last one: it is compared with the position expected, and a target that
following does not reach is sought (R129, R140). -/
def State.followAddress (s : State) (n a passed : Nat) : State :=
  let d := s.disc (n / 2)
  let p := s.pickup n
  let good := match p.addr with
    | none => true
    | some b => a == (if d.falls (psaLayer b) then b - passed else b + passed)
  let s := s.put (F.SRV_PU_STATE_B0_SPIRAL n) (psaSpiral a)
  let s := s.modPickup n (fun y => { y with
    addr := some a, badAddr := if good then 0 else y.badAddr + 1, confirmed := if good then some a else y.confirmed })
  if good = false ∨ s.puState n ≠ Pu.follow ∨ s.streaming n = true ∨ ((s.calRun n).proc ≠ 0 ∧ p.goal.isNone = true) then s
  else
    match s.wanted n with
    | none => s
    | some t =>
      if (s.pickup n).reached = some t then s
      else if psaLayer t ≠ psaLayer a then s.layerJump n (psaLayer t)
      else if s.ahead n a t then s
      else s.enter n Pu.align

/-- ADDRESS_DECODED: a valid address of B0 (R47; on a Format S4 disc that of a sector it has read, R147). `passed`: positions gone by since
the last address, by the wobble. -/
def execAddressDecoded (n : Fin 16) (address : BitVec 32) (passed : Nat) (s : State) : Res :=
  let p := s.puState n
  if (s.pickup n).jumping then .next s
  else if p = Pu.align then .next (s.alignAddress n address.toNat)
  else if p = Pu.follow ∨ p = Pu.belay then .next (s.followAddress n address.toNat passed)
  else .next s

/-! ## Transitions by time and count (R129–R134, R139–R141) -/

/-- FOCUS_SWEEP_END: the third without capture parks the lens; another is followed by the return of the ramp (R130). -/
def execFocusSweepEnd (n : Fin 16) (s : State) : Res :=
  let p := s.pickup n
  if s.puState n = Pu.search ∧ p.ramp = 2 then
    if 2 ≤ p.sweeps then
      let s := s.post 0x0240 (srcPickup n) (s.puPayload n [p.crossings] 0)
      .next (s.parkLens n false)
    else .next (s.modPickup n (fun y => { y with sweeps := y.sweeps + 1, ramp := 3, rampAt := s.timebase }))
  else .next s

/-- FOCUS_LOCK. -/
def execFocusLock (n : Fin 16) (s : State) : Res :=
  if s.puState n = Pu.focused ∧ 256 ≤ (s.pickup n).feGood ∧ s.flag (F.SPN_STATE_AT_SPEED (n / 2)) = true then .next (s.toPullin n)
  else .next s

/-- FOCUSED_TIMEOUT: 20 ms without lock while the spindle is at speed. -/
def execFocusedTimeout (n : Fin 16) (s : State) : Res :=
  if s.puState n = Pu.focused ∧ s.flag (F.SPN_STATE_AT_SPEED (n / 2)) = true then
    .next (s.attempt n (fun s => s.startSearch n (s.pickup n).layer))
  else .next s

/-- TRACK_LOCK. -/
def execTrackLock (n : Fin 16) (s : State) : Res :=
  if s.puState n = Pu.pullin ∧ (s.pickup n).captured = true ∧ 256 ≤ (s.pickup n).teGood then .next (s.enter n Pu.align) else .next s

/-- PULLIN_TIMEOUT: 10 ms. -/
def execPullinTimeout (n : Fin 16) (s : State) : Res :=
  if s.puState n = Pu.pullin then .next (s.attempt n (fun s => s.startSearch n (s.pickup n).layer)) else .next s

/-- ALIGN_ADDRESS_TIMEOUT: no valid address for 1 ms, or 10 ms on Format S4. -/
def execAlignAddressTimeout (n : Fin 16) (s : State) : Res :=
  if s.puState n = Pu.align then .next (s.attempt n (fun s => s.toPullin n)) else .next s

/-- TRACK_JUMP_DONE: the crossings are counted and TE has held within TE_LOCK for 16 samples. -/
def execTrackJumpDone (n : Fin 16) (s : State) : Res :=
  let p := s.pickup n
  if p.jumping = true ∧ 2 * p.jumpTracks ≤ p.jumpCross ∧ 16 ≤ p.teGood then
    if s.puState n = Pu.tjump then .next (s.enter n Pu.align)
    else .next (s.modPickup n (fun y => { y with jumping := false, badAddr := 0 }))
  else .next s

/-- TRACK_JUMP_TIMEOUT: a jump past its bound is a loss of track. -/
def execTrackJumpTimeout (n : Fin 16) (s : State) : Res :=
  if (s.pickup n).jumping then .next (s.lossOfTrack n) else .next s

/-- LAYER_JUMP_TIMEOUT: the jump fails, FOCUS returns to its code before the kick, and the layer is searched for. -/
def execLayerJumpTimeout (n : Fin 16) (s : State) : Res :=
  if s.puState n = Pu.ljump then .next ((s.sput (F.SRV_LOOP_DRIVE_CODE n 0) (s.pickup n).ljCode).layerJumpFail n) else .next s

/-- COARSE_SETTLE_END: the sled has been at rest for 2 ms. -/
def execCoarseSettleEnd (n : Fin 16) (s : State) : Res :=
  if s.puState n = Pu.coarse ∧ (s.motor n).phase = 0 then .next (s.toPullin n) else .next s

/-- Focus is closed in these states. -/
def focusClosed (p : Nat) : Bool := [2, 3, 4, 5, 6, 8, 9].contains p

/-- FOCUS_LOST: the LOST_N-th sample of a loss, or no emission while focus is closed. -/
def execFocusLost (n : Fin 16) (s : State) : Res :=
  let p := s.puState n
  let counted := decide (0 < (s.pickup n).focLoss) && decide (s.fld (F.SRV_LOSS_CFG_LOST_N n) ≤ (s.pickup n).focLoss)
  if focusClosed p = true ∧ (counted = true ∨ s.flag (F.SRV_LDD_STATUS_LDEN n) = false) then .next (s.lossOfFocus n) else .next s

/-- TRACK_LOST: the LOST_N-th sample of a loss, or the second address in a row that was not expected. -/
def execTrackLost (n : Fin 16) (s : State) : Res :=
  let y := s.pickup n
  let counted := decide (0 < y.trkLoss) && decide (s.fld (F.SRV_LOSS_CFG_LOST_N n) ≤ y.trkLoss)
  if s.puState n ≠ Pu.off ∧ s.puState n ≠ Pu.park ∧ s.puState n ≠ Pu.fault ∧ (counted = true ∨ 2 ≤ y.badAddr) then
    .next (s.lossOfTrack n)
  else .next s

/-- PARK_RAMP_END. -/
def execParkRampEnd (n : Fin 16) (s : State) : Res :=
  if s.puState n = Pu.park then
    let fault := (s.pickup n).parkFault
    .next ((s.enter n (if fault then Pu.fault else Pu.off)).modPickup n (fun y => { y with parkFault := false, goal := none, reached := none }))
  else .next s

/-- RECOVER_COUNT_CLEAR: 100 ms in FOLLOW. -/
def execRecoverCountClear (n : Fin 16) (s : State) : Res :=
  if s.puState n = Pu.follow then .next (s.put (F.SRV_PU_STATE_RECOVER_COUNT n) 0) else .next s

/-- DEFECT_LONG: a hold of DEFECT_MAX samples; the triggers of every loop are cleared (R139). -/
def execDefectLong (n : Fin 16) (s : State) : Res :=
  let y := s.pickup n
  if y.trigsOff = false ∧ 0 < y.holdRun ∧ s.fld (F.SRV_DEFECT_CFG_DEFECT_MAX n) ≤ y.holdRun then
    let s := s.forEach (List.range 4) (fun s l => (s.put (F.SRV_LOOP_HOLD_TRIG_DEFECT n l) 0).put (F.SRV_LOOP_HOLD_TRIG_LOWSUM n l) 0)
    let s := s.modPickup n (fun y => { y with trigsOff := true, clean := 0 })
    .next (s.raise (F.SRV_BAE_REV_DEFECT_LONG n) 0x024B (srcPickup n) (s.puPayload n [] (y.confirmed.getD 0)))
  else .next s

/-- DEFECT_TRIGGERS_RESTORE: 64 samples without defect and low sum (R138, R139). -/
def execDefectTriggersRestore (n : Fin 16) (s : State) : Res :=
  if (s.pickup n).trigsOff = true ∧ 64 ≤ (s.pickup n).clean then
    let s := s.modPickup n (fun y => { y with trigsOff := false })
    .next (s.forEach [0, 1, 2] (fun s l => (s.put (F.SRV_LOOP_HOLD_TRIG_DEFECT n l) 1).put (F.SRV_LOOP_HOLD_TRIG_LOWSUM n l) 1))
  else .next s

/-! ## The angular reference (R135, R144, R280) -/

/-- BAE_REF at the radius of an address, in 1/16,384. -/
def State.baeRef (s : State) (n a : Nat) : Rat :=
  (s.sfld (F.SRV_BAE_REF_REF0 n) : Rat) + (s.sfld (F.SRV_BAE_REF_REF_SLOPE n) : Rat) * ((s.disc (n / 2)).radius (psaIndex a) - 24) / 34

/-- The revolution's BAE compared with its reference. -/
def State.baeCheck (s : State) (n : Nat) : State :=
  let y := s.pickup n
  if y.baeCount = 0 ∨ s.puS4 n = true then s
  else
    let rev := nearest ((y.baeSum : Rat) / ((y.baeCount : Nat) : Rat) / 65536)
    let s := s.sput (F.SRV_BAE_REV_BAE_REV n) (satSigned 16 rev)
    let s := s.modPickup n (fun y => { y with baeSum := 0, baeCount := 0 })
    let dev := absRat ((s.sfld (F.SRV_BAE_REV_BAE_REV n) : Rat) - s.baeRef n ((y.addr.getD (y.confirmed.getD 0))))
    let two := leBytes 2 (s.fld (F.SRV_BAE_REV_BAE_REV n))
    let warn := decide ((s.fld (F.SRV_BAE_LIM_WARN n) : Rat) < dev)
    let bad := decide ((s.fld (F.SRV_BAE_LIM_FAULT n) : Rat) < dev)
    let s := s.when warn (fun s => s.raise (F.SRV_BAE_REV_BAE_WARN n) 0x0246 (srcPickup n) (s.puPayload n two 0))
    let s := s.modPickup n (fun y => { y with baeGood := if warn then 0 else y.baeGood + 1, baeBarred := y.baeBarred || bad })
    s.when bad (fun s => (s.raise (F.SRV_BAE_REV_BAE_FAULT n) 0x0247 (srcPickup n) (s.puPayload n two 0)).shutGates n (some 3))

/-- A pickup that follows while its recording waits for the next block (R280). -/
def State.recWaits (s : State) (n : Nat) : Bool :=
  s.puState n == Pu.follow && s.fld (F.REC_PU_STATUS_STATE n) == 5 && !(s.puRec n).run.active && (s.wanted n).isNone

/-- REVOLUTION_REFERENCE: BAE_REV is formed in FOLLOW, and a pickup in Belay, or waiting as R280 has it, jumps a revolution back;
not while its LP restarts (R499). -/
def execRevolutionReference (n : Fin 16) (s : State) : Res :=
  let s := if s.puState n = Pu.follow then s.baeCheck n else s
  let d := s.disc (n / 2)
  let turning := s.flag (F.SPN_STATE_AT_SPEED (n / 2)) && !(s.pickup n).pullWait && !s.procDown n
  if (s.puState n = Pu.belay ∧ turning = true ∨ s.recWaits n = true) ∧ (s.pickup n).jumping = false then
    .next (s.trackJump n d.tracksPerRev (d.falls (s.fld (F.SRV_PU_STATE_LAYER n))) true)
  else .next s

/-- BAE_GATES_REOPEN: 16 revolutions in a row within WARN after a fault. -/
def execBaeGatesReopen (n : Fin 16) (s : State) : Res :=
  if (s.pickup n).baeBarred = true ∧ 16 ≤ (s.pickup n).baeGood then .next (s.modPickup n (fun y => { y with baeBarred := false }))
  else .next s

/-! ## Host Belay (R143) -/

def execBelayReqSet (n : Fin 16) (s : State) : Res := .next ((s.put (F.SRV_PU_CTRL_BELAY_REQ n) 1).setBelay n belayHost true)
def execBelayReqClear (n : Fin 16) (s : State) : Res := .next ((s.put (F.SRV_PU_CTRL_BELAY_REQ n) 0).setBelay n belayHost false)

/-! ## A servo sample (R129–R134, R139, R140, R142, R146) -/

/-- The code of a ramp from `a` to `b` over `span` counts of the timebase, `e` counts after its start. -/
def rampCode (a b : Int) (span e : Nat) : Int :=
  if span ≤ e then b else a + nearest (((b - a : Int) : Rat) * ((e : Nat) : Rat) / ((span : Nat) : Rat))

/-- FOCUS while searching or parking: the sweeps of R130, in counts of 10 ns. -/
def State.rampSample (s : State) (n : Nat) : State :=
  let p := s.pickup n
  let e := s.timebase - p.rampAt
  let park := s.sfld (F.SRV_FOC_SEARCH_PARK n)
  let limit := s.sfld (F.SRV_FOC_SEARCH_LIMIT n)
  let span := 100000 * s.fld (F.SRV_FOC_CFG_SWEEP_MS n)
  let drive (s : State) (c : Int) := s.sput (F.SRV_LOOP_DRIVE_CODE n 0) c
  let begin (s : State) := (drive s park).modPickup n (fun y => { y with ramp := 2, rampAt := s.timebase, crossings := 0, sumSeen := false })
  match p.ramp with
  | 1 => if 500000 ≤ e then begin s else s
  | 2 => drive s (rampCode park limit span e)
  | 3 => if span ≤ e then begin s else drive s (rampCode limit park span e)
  | 4 => drive s (rampCode p.rampFrom park 1000000 e)
  | _ => s

/-- The layers that can be counted: LY0–LY7, or to LY3 on Format S4. -/
def State.crossingSeen (s : State) (n : Nat) (fe sum : Int) (deeper : Bool) : Bool × Bool :=
  let p := s.pickup n
  let seen := p.sumSeen || decide ((s.fld (F.SRV_FOC_CFG_LAYER_SUM_MIN n) : Int) * 2 ^ 18 ≤ sum)
  let cross := if deeper then decide (p.prevFe < 0) && decide (0 ≤ fe) else decide (0 < p.prevFe) && decide (fe ≤ 0)
  (seen, cross && seen)

/-- SEARCH and LJUMP: crossings are counted; the target's captures focus (R131, R132). -/
def State.layerSample (s : State) (n : Nat) (fe sum : Int) : State :=
  let p := s.pickup n
  if s.puState n = Pu.search ∧ p.ramp = 2 then
    let c := s.crossingSeen n fe sum true
    if c.2 then
      if p.crossings = p.layer then s.enter n Pu.focused
      else s.modPickup n (fun y => { y with crossings := y.crossings + 1, sumSeen := false })
    else s.modPickup n (fun y => { y with sumSeen := c.1 })
  else if s.puState n = Pu.ljump then
    let deeper := decide (p.ljFrom < p.layer)
    let m := if deeper then p.layer - p.ljFrom else p.ljFrom - p.layer
    let c := s.crossingSeen n fe sum deeper
    let count := if c.2 then p.crossings + 1 else p.crossings
    if m ≤ count then s.enter n Pu.pullin
    else
      let s := s.modPickup n (fun y => { y with crossings := count, sumSeen := if c.2 then false else c.1 })
      if m ≤ count + 1 ∧ p.ljBraked = false then
        let k : Int := (s.fld (F.SRV_JUMP_CFG_KICK n) : Nat)
        (s.sput (F.SRV_LOOP_DRIVE_CODE n 0) (satSigned 16 (if deeper then p.ljCode + k else p.ljCode - k))).modPickup n
          (fun y => { y with ljBraked := true })
      else s
  else s

/-- PULLIN and track jumps: TE's crossings capture the track, or count the tracks of a jump (R133, R134). -/
def State.trackSample (s : State) (n : Nat) (te : Int) : State :=
  let p := s.pickup n
  let rises := decide (p.prevTe < 0) && decide (0 ≤ te)
  let fallsNow := decide (0 ≤ p.prevTe) && decide (te < 0)
  if s.puState n = Pu.pullin ∧ p.captured = false then
    if rises then
      if 2000 ≤ s.timebase - p.lastSlope then (s.driveLoop n 1 2).modPickup n (fun y => { y with captured := true, teGood := 0 })
      else s.modPickup n (fun y => { y with lastSlope := s.timebase })
    else s
  else if p.jumping = true ∧ p.jumpCross < 2 * p.jumpTracks ∧ (rises = true ∨ fallsNow = true) then
    let c := p.jumpCross + 1
    let s := s.modPickup n (fun y => { y with jumpCross := c, teGood := 0 })
    if c = 2 * p.jumpTracks then (s.driveLoop n 1 2).driveLoop n 2 2
    else if c + 1 = 2 * p.jumpTracks then
      let k : Int := (s.fld (F.SRV_JUMP_CFG_TKICK n) : Nat)
      s.sput (F.SRV_LOOP_DRIVE_CODE n 1) (satSigned 16 (if p.jumpOut then k else -k))
    else s
  else s

/-- A count of consecutive samples. -/
def runCount (held ok : Bool) (n : Nat) : Nat := if held then n else if ok then n + 1 else 0

/-- What a pickup's machine makes of a sample whose signals stand in its loop processor. -/
def State.servoSample (s : State) (n : Nat) : State :=
  let lp := s.lp n
  let sig (c : Nat) : Int := Table.at 0 lp.sig c
  let fe := sig 1
  let te := sig 3
  let sum := sig 7
  let p0 := s.puState n
  let y := s.pickup n
  let hold := (lp.loop 0).holding && (lp.loop 0).mode == 2 || (lp.loop 1).holding && (lp.loop 1).mode == 2
  let unit (f : Fld) : Int := (s.fld f : Int) * 2 ^ 18
  let badFocus := focusClosed p0 && (decide (sum < unit (F.SRV_LOSS_CFG_SUM_LOST n)) || decide (unit (F.SRV_LOSS_CFG_FE_LOST n) ≤ fe.natAbs))
  let badTrack := s.fld (loopModeFld n 1) == 2 && decide (unit (F.SRV_TRK_CFG_TE_LOST n) ≤ te.natAbs)
  let s := s.modPickup n (fun y => { y with
    focLoss := runCount hold badFocus y.focLoss, trkLoss := runCount hold badTrack y.trkLoss
    feGood := runCount false (decide ((fe.natAbs : Int) ≤ unit (F.SRV_FOC_CFG_FE_LOCK n))) y.feGood
    teGood := runCount false (decide ((te.natAbs : Int) ≤ unit (F.SRV_TRK_CFG_TE_LOCK n))) y.teGood
    holdRun := if hold then y.holdRun + 1 else 0, holding := hold
    clean := if lp.sample.defect || lp.low then 0 else y.clean + 1
    baeSum := if p0 = Pu.follow then y.baeSum + sig 6 else y.baeSum
    baeCount := if p0 = Pu.follow then y.baeCount + 1 else y.baeCount })
  let near := decide (unit (F.SRV_WGATE_CFG_WRITE_TE_MAX n) ≤ te.natAbs) || decide (unit (F.SRV_WGATE_CFG_WRITE_FE_MAX n) ≤ fe.natAbs)
  let s := s.when (decide ((s.pickup n).gates ≠ 0) && (near || (hold && !y.holding))) (fun s => s.shutGates n (some 1))
  let s := ((s.rampSample n).layerSample n fe sum).trackSample n te
  let s := s.modPickup n (fun y => { y with prevFe := fe, prevTe := te })
  let s := s.checkBelay n
  if s.puState n = Pu.off ∧ (s.pickup n).startReq = true ∧ s.mayEmit n = true then
    (s.modPickup n (fun y => { y with startReq := false })).startSearch n (s.pickup n).layer
  else s

end Sys2Proof.Machine
end

