-- ==== Sys2Proof/Machine/Loop.lean ====
section
/-!
DEFINITION. Sample and output instants of the loop processors: capture, late and skipped samples, Belay for lateness, traces, the control of
read power and the overpower limit (R69, R85, R98–R105, R122–R126, R513, R561).
-/
namespace Sys2Proof.Machine

/-! ## Late samples (R103, R105, R513) -/

/-- A late sample raises the target of the pace (R513). -/
def State.paceBoost (s : State) : State :=
  let t := max 780 (min 1200 (s.fld F.SYS_PACE_CFG_TARGET))
  (s.put F.SYS_PACE_STATUS_BOOST 1).put F.SYS_PACE_TARGET (t * (100 + s.fld F.SYS_PACE_CFG_BOOST_PCT) / 100)

/-- The last sample of an LP is late: its loops in `mask` (R103). It is counted once. -/
def State.lateSample (s : State) (n mask : Nat) : State :=
  let p := s.lp n
  let late := p.late ||| mask
  let s := s.setLp n { p with late := late, counted := true }
  if p.counted then s
  else
    let s := s.raise (F.SRV_LP_STATUS_LATE n) 0x0201 (srcPickup n) ([n, late] ++ leBytes 4 (s.fld F.SRV_SAMPLE_COUNT_COUNT))
    let s := s.incSat (F.SRV_LATE_RUN_LATE n) 1
    let s := s.put (F.SRV_LATE_RUN_ON_TIME n) 0
    (s.count (F.SRV_LATE_COUNT_LO_COUNT n) (F.SRV_LATE_COUNT_HI_COUNT n) 1).paceBoost

/-! ## Traces (R122–R125) -/

/-- The value that a probe's source has at the last sample. -/
def State.probeValue (s : State) (n source : Nat) (skipped : Bool) : Int :=
  let p := s.lp n
  if source < 32 then
    match source with
    | 0x0B => s.sfld (F.SRV_DAC_FT_FOC n) * 32768
    | 0x0C => s.sfld (F.SRV_DAC_FT_TRK n) * 32768
    | 0x0D => s.sfld (F.SRV_DAC_TLT_TLT n) * 32768
    | c => Table.at 0 p.sig c
  else if source < 0x60 then (p.loop ((source - 32) / 16)).nodes.getD ((source - 32) % 16) 0
  else if source = 0x60 then
    let bits (f : LoopRun → Bool) : Nat := (List.range 4).foldl (fun a l => if f (p.loop l) then a + 2 ^ l else a) 0
    let sat := if skipped then 0 else bits LoopRun.sat
    let lim := if skipped then 0 else bits LoopRun.lim
    ((b2n (p.late != 0) + 2 * b2n skipped + 4 * bits LoopRun.holding + 64 * sat + 1024 * lim + 65536 * (p.sample.count % 65536) : Nat) : Int)
  else 0

/-- The trigger of a capture at the last sample (R125). No rule says when firmware writes its mark, so source 7 does not come. -/
def State.traceTrigger (s : State) (n : Nat) (skipped : Bool) : Bool :=
  let p := s.lp n
  let t := p.trace
  match s.fld (F.SRV_TRC_TRIG_SOURCE n) with
  | 0 => match t.firedAt with
    | some at0 => decide (at0 < p.sample.tb)
    | none => false
  | 1 => p.late != 0
  | 2 => p.low
  | 3 => p.sample.defect
  | 4 => !skipped && (List.range 4).any (fun l => (p.loop l).lim)
  | 5 => !skipped && (List.range 4).any (fun l => (p.loop l).sat)
  | 6 =>
    let v := s.probeValue n (s.fld (F.SRV_TRC_PROBE_SOURCE n (s.fld (F.SRV_TRC_TRIG_PROBE n)))) skipped
    let level := s.sfld (F.SRV_TRC_LEVEL_LEVEL n)
    match t.prev with
    | none => false
    | some u => if s.flag (F.SRV_TRC_TRIG_EDGE n) then decide (level < u) && decide (v ≤ level) else decide (u < level) && decide (level ≤ v)
  | _ => false

/-- One entry of each ring written. -/
def State.traceEntry (s : State) (n : Nat) (skipped : Bool) : State :=
  let t := (s.lp n).trace
  let rings := (List.range 8).foldl (fun (r : Table Nat) m =>
    Table.put 0 r (4096 * m + t.wptr) (ofSigned 32 (s.probeValue n (s.fld (F.SRV_TRC_PROBE_SOURCE n m)) skipped))) t.rings
  let w := (t.wptr + 1) % 4096
  let count := min 4096 (s.fld (F.SRV_TRC_STATUS_COUNT n) + 1)
  let s := s.modLp n (fun p => { p with trace := { t with rings := rings, wptr := w } })
  let s := s.forEach (List.range 8) (fun s m => s.mergeWord (traceAddr n m t.wptr / 16) 0xD1)
  (s.put (F.SRV_TRC_STATUS_COUNT n) count).put (F.SRV_TRC_STATUS_OLDEST n) ((w + 4096 - count) % 4096)

/-- The last sample enters a running capture. -/
def State.traceSample (s : State) (n : Nat) (skipped : Bool) : State :=
  let p := s.lp n
  let t := p.trace
  let state := s.fld (F.SRV_TRC_STATUS_STATE n)
  if (state ≠ 1 ∧ state ≠ 2) ∨ t.full = true ∨ p.sample.tb ≤ t.since then s
  else
    let trig := decide (state = 1) && (t.pending || s.traceTrigger n skipped)
    let v := s.probeValue n (s.fld (F.SRV_TRC_PROBE_SOURCE n (s.fld (F.SRV_TRC_TRIG_PROBE n)))) skipped
    let s := s.modLp n (fun p => { p with trace := { p.trace with pending := trig, prev := some v } })
    if p.sample.count % 2 ^ s.fld (F.SRV_TRC_CTRL_DECIM n) ≠ 0 then s
    else
      let s := s.traceEntry n skipped
      let post := s.fld (F.SRV_TRC_CTRL_POST n)
      if trig then
        (s.put (F.SRV_TRC_STATUS_STATE n) 2).modLp n (fun p => { p with trace := { p.trace with
          pending := false, postLeft := post, full := decide (post = 0), time := p.sample.time } })
      else if state = 2 then
        s.modLp n (fun p => { p with trace := { p.trace with postLeft := p.trace.postLeft - 1, full := decide (p.trace.postLeft ≤ 1) } })
      else s

/-- A capture armed (R125). -/
def State.traceArm (s : State) (n : Nat) : State :=
  let s := (s.put (F.SRV_TRC_STATUS_STATE n) 1).put (F.SRV_TRC_STATUS_COUNT n) 0
  s.modLp n (fun p => { p with trace := { p.trace with
    since := s.timebase, firedAt := none, pending := false, full := false, prev := none, postLeft := 0 } })

def State.traceFire (s : State) (n : Nat) : State :=
  s.modLp n (fun p => { p with trace := { p.trace with firedAt := some s.timebase } })

/-! ## The end of a sample, and its computation (R101–R104) -/

/-- What the next sample instant settles of the last sample: SLED late, or the sample skipped, or on time; its record. -/
def State.settleSample (s : State) (n : Nat) : State :=
  let p := s.lp n
  if p.taken = false then s
  else
    let skipped := p.waiting.isSome
    let s := if skipped then
        (s.lateSample n (if p.sample.sled then 15 else 7)).put (F.SRV_LP_STATUS_SKIPPED n) 1
      else if p.sledDue.isSome then s.lateSample n 8
      else s
    let s := s.modLp n (fun p => { p with sledDue := none, request := if p.sledDue.isSome || (skipped && p.sample.sled) then 0 else p.request })
    let s := if (s.lp n).counted then s else (s.incSat (F.SRV_LATE_RUN_ON_TIME n) 1).put (F.SRV_LATE_RUN_LATE n) 0
    let s := s.traceSample n skipped
    s.modLp n (fun p => { p with waiting := none, taken := false })

/-- FMD over the frames that a run records (R288, code 5). -/
def State.fmdSample (s : State) (n : Nat) : State :=
  if s.streaming n = false then s
  else
    let r := s.puRec n
    let frame := r.run.bits / 50176
    let gates := popCount 4 (s.pickup n).gates
    let fmd := (s.lp n).fmd
    if frame = r.fmdFrame ∧ 0 < r.fmdCount then
      s.modPuRec n (fun r => { r with fmdSum := r.fmdSum + fmd, fmdCount := r.fmdCount + 1
                                      fmdGates := if r.fmdGates = some gates then some gates else none })
    else
      let bad := match r.fmdGates with
        | none => false
        | some 0 => false
        | some (g + 1) =>
          let ref : Rat := (r.fmdRef.getD g 0 : Nat)
          let dev := absRat (ratio (r.fmdSum : Nat) (r.fmdCount : Nat) - ref)
          decide (ref * (s.fld F.REC_FMD_CFG_TOL : Nat) < 100 * dev)
      let run := if 0 < r.fmdCount then (if bad then r.fmdBad + 1 else 0) else r.fmdBad
      let s := s.modPuRec n (fun r => { r with fmdSum := fmd, fmdCount := 1, fmdFrame := frame, fmdGates := some gates, fmdBad := run })
      if 2 ≤ run then s.shutGates n (some 5) else s

/-- The computation of the last sample, with the register values in force at its instant: the loops in their order, their flags, and what
the pickup's machine makes of it. -/
def State.compute (s : State) (n : Nat) (smp : SampleIn) : State :=
  let p := s.lp n
  let v : State := { s with regs := smp.regs }
  let sig (c : Nat) : Int := Table.at 0 p.sig c
  let p := [0, 1, 2].foldl (fun (p : LoopProc) l => p.setLoop l (v.loopSample n l sig smp.defect p.low true (p.loop l))) p
  let p := p.setLoop 3 (v.loopSample n 3 sig smp.defect p.low smp.sled (p.loop 3))
  let bits (f : LoopRun → Bool) : Nat := (List.range 4).foldl (fun a l => if f (p.loop l) then a + 2 ^ l else a) 0
  let s := s.setLp n { p with busy := true, sledDue := if smp.sled then some (p.loop 3).code else none }
  let s := s.put (F.SRV_LP_STATUS_HOLD n) (bits LoopRun.holding)
  let s := s.put (F.SRV_LP_STATUS_LIM n) (s.fld (F.SRV_LP_STATUS_LIM n) ||| bits LoopRun.lim)
  let was := s.fld (F.SRV_LP_STATUS_SAT n)
  let now := was ||| bits LoopRun.sat
  let s := s.put (F.SRV_LP_STATUS_SAT n) now
  let s := s.when (was == 0 && now != 0) (fun s => s.post 0x0205 (srcPickup n) [n, now])
  (s.fmdSample n).servoSample n

/-! ## Sample instants (R72–R78, R98–R101, R110, R111) -/

/-- The ratio of an emitter's read power to the mean, in 1/4,096 (R473, R486). -/
def State.readRatio (s : State) (n k : Nat) : Nat :=
  let rec0 := Table.at [] s.calib.pickups n
  if rec0.isEmpty then 4096 else ofLeBytes ((rec0.drop (46 + 2 * k)).take 2)

/-- The read-power words sent to the laser driver (R85, R91). -/
def State.sendReadPower (s : State) (n : Nat) : State :=
  s.forEach (List.range 4) (fun s k =>
    let w := (Config.readPower n : Rat) * (s.readRatio n k : Nat) / 4096 * (s.pickup n).readScale
    s.lddWrite n (Driver.readPower + 4 * k) (nearest w).toNat)

/-- At a sled instant the sum of the emitters is held at FMD_TARGET while reading (R85): the words take the one factor that brings the value
just seen to the target. -/
def State.holdReadPower (s : State) (n : Nat) : State :=
  let target := s.fld (F.SRV_FMD_CFG_FMD_TARGET n)
  if target = 0 ∨ (s.pickup n).gates ≠ 0 ∨ s.flag (F.SRV_LDD_STATUS_LDEN n) = false then s
  else
    let f := ratio (16 * target : Nat) ((s.lp n).fmd : Nat)
    (s.modPickup n (fun y => { y with readScale := y.readScale * f })).sendReadPower n

/-- TRK_LP, the injection and the outputs as signals (R109–R111). -/
def State.ownSignals (s : State) (n : Nat) : State :=
  let p := s.lp n
  let on := s.flag (F.SRV_INJ_CFG_ENABLE n)
  let inj := if on then injSignal (s.fld (F.SRV_INJ_CFG_AMP n)) p.phase s.free else 0
  let set (t : Table Int) (c : Nat) (y : Int) := Table.put 0 t c y
  let t := set (set p.sig 0x0A (toSignal p.trkLp)) 0x0B (s.sfld (F.SRV_DAC_FT_FOC n) * 32768)
  let t := set (set t 0x0C (s.sfld (F.SRV_DAC_FT_TRK n) * 32768)) 0x0D (s.sfld (F.SRV_DAC_TLT_TLT n) * 32768)
  let t := set (set t 0x0E inj) 0x0F ((p.loop 3).code * 65536)
  let phase := if on then (p.phase + s.fld (F.SRV_INJ_FREQ_INC n)) % 2 ^ 32 else p.phase
  { s.setLp n { p with sig := t, phase := phase } with free := if on then s.free + 1 else s.free }

/-- One LP at a sample instant; `conv`: the conversions of its ten inputs over the period, the captured ones last. -/
def State.captureSample (s : State) (n : Nat) (conv : List (List Nat)) (sled : Bool) : State :=
  let m := avgShift (s.fld (F.SRV_AFE_CFG_AVG n)) (s.fld F.SRV_PERIOD_P)
  let clamped := decide (m < min 5 (s.fld (F.SRV_AFE_CFG_AVG n)))
  let means := (List.range 10).map (fun i => meanOf m (conv.getD i []))
  let clips := (List.range 10).foldl (fun a i => if clipsIn m (conv.getD i []) then a + 2 ^ i else a) 0
  let s := (s.setFlag (F.SRV_AFE_CFG_AVG_CLAMPED n) clamped).put (F.SRV_IF_STATUS_CLIP n) (s.fld (F.SRV_IF_STATUS_CLIP n) ||| clips)
  let lane := Table.at {} s.lanes (4 * n)
  let defect := lane.trig || s.flag (F.RCH_LANE_STATUS_DEFECT (4 * n))
  let s := { s with lanes := Table.put {} s.lanes (4 * n) { lane with trig := false } }
  let trk : Rat := (s.sfld (F.SRV_DAC_FT_TRK n) : Rat) / 32768
  let s := s.modLp n (fun p => { p with trkLp := p.trkLp + (trk - p.trkLp) * halves (s.fld (F.SRV_TRKLP_K n)) })
  let s := (s.formSignals n means).ownSignals n
  let smp : SampleIn := ⟨s.fld F.SRV_SAMPLE_COUNT_COUNT, s.timebase, s.ct, sled, means, defect, []⟩
  let s := s.modLp n (fun p => { p with sample := smp, taken := true, late := 0, counted := false, outDone := false })
  if (s.lp n).busy then s.modLp n (fun p => { p with waiting := some { smp with regs := s.regs } })
  else s.compute n { smp with regs := s.regs }

/-- SAMPLE_INSTANT, common to all pickups (R72). `inputs`: by pickup and servo input, the conversions of the period, the oldest first. -/
def execSampleInstant (inputs : List (List (List Nat))) (s : State) : Res :=
  let lps := (List.range 16).filter (fun n => s.slotPowered (n / 2))
  let s := s.forEach lps State.settleSample
  let p := s.fld F.SRV_PERIOD_P
  let s := ({ s with timebase := (s.timebase / p + 1) * p }).incWrap F.SRV_SAMPLE_COUNT_COUNT 1
  let sled := decide (s.timebase % 10000 = 0)
  let s := s.when sled (fun s => s.forEach lps (fun s n =>
    let q := (s.lp n).request
    ((s.modMotor n (fun m => { m with req := q, reqTick := 0 })).modLp n (fun p => { p with request := 0 })).holdReadPower n))
  .next (s.forEach lps (fun s n => s.captureSample n (inputs.getD n []) sled))

/-! ## Output instants and the end of a computation (R102–R104) -/

/-- OUTPUT_INSTANT: the fast loops apply their codes; `ready`: how many of FOCUS, TRACK and TILT, computed in this order, are complete where
the computation still runs. -/
def execOutputInstant (n : Fin 16) (ready : Fin 4) (s : State) : Res :=
  let p := s.lp n
  if p.outDone then .next s
  else
    let s := s.modLp n (fun p => { p with outDone := true })
    if p.waiting.isSome then .next (s.lateSample n 7)
    else
      let done := if p.busy then ready.val else 3
      let code (l : Nat) := (p.loop l).code
      let s := s.when (decide (0 < done)) (fun s => s.sput (F.SRV_DAC_FT_FOC n) (code 0))
      let s := s.when (decide (1 < done)) (fun s => s.sput (F.SRV_DAC_FT_TRK n) (code 1))
      let s := s.when (decide (2 < done)) (fun s => s.sput (F.SRV_DAC_TLT_TLT n) (code 2))
      .next (s.when (decide (done < 3)) (fun s => s.lateSample n (8 - 2 ^ done)))

/-- LOOP_COMPUTATION_END: a SLED request that is not late is passed on, and a sample that waits starts (R104). -/
def execLoopComputationEnd (n : Fin 16) (s : State) : Res :=
  let p := s.lp n
  if p.busy = false then .next s
  else
    let s := s.modLp n (fun p => { p with busy := false, sledDue := none, request := p.sledDue.getD p.request })
    match p.waiting with
    | none => .next s
    | some smp => .next ((s.modLp n (fun p => { p with waiting := none })).compute n smp)

/-! ## Belay for lateness (R105) -/

def execLoopBelayLate (n : Fin 16) (s : State) : Res :=
  if 3 ≤ s.fld (F.SRV_LATE_RUN_LATE n) ∧ s.flag (F.SRV_LP_STATUS_BELAY_LATE n) = false then
    .next (((s.put (F.SRV_LP_STATUS_BELAY_LATE n) 1).post 0x0202 (srcPickup n) [n]).setBelay n belayLate true)
  else .next s

def execLoopOnTime (n : Fin 16) (s : State) : Res :=
  if 4096 ≤ s.fld (F.SRV_LATE_RUN_ON_TIME n) ∧ s.flag (F.SRV_LP_STATUS_BELAY_LATE n) = true then
    .next (((s.put (F.SRV_LP_STATUS_BELAY_LATE n) 0).post 0x0203 (srcPickup n) [n]).setBelay n belayLate false)
  else .next s

/-! ## Trace commands (R125, R561) -/

def execTraceArm (n : Fin 16) (s : State) : Res := .next (s.traceArm n)

/-- TRACE_STOP: recording ends at once, without DONE. -/
def execTraceStop (n : Fin 16) (s : State) : Res :=
  let state := s.fld (F.SRV_TRC_STATUS_STATE n)
  .next (if state = 1 ∨ state = 2 then s.put (F.SRV_TRC_STATUS_STATE n) 0 else s)

def execTraceFire (n : Fin 16) (s : State) : Res := .next (s.traceFire n)

/-- TRACE_DONE: POST samples after the trigger sample are recorded. -/
def execTraceDone (n : Fin 16) (s : State) : Res :=
  let t := (s.lp n).trace
  if s.fld (F.SRV_TRC_STATUS_STATE n) = 2 ∧ t.full = true then
    let s := s.put (F.SRV_TRC_STATUS_STATE n) 3
    let s := s.putPair (F.SRV_TRC_TIME_LO_TIME n) (F.SRV_TRC_TIME_HI_TIME n) t.time
    .next (s.raise (F.SRV_TRC_STATUS_DONE n) 0x0206 (srcPickup n) ([n.val, 0] ++ leBytes 2 (s.fld (F.SRV_TRC_STATUS_OLDEST n))))
  else .next s

def execTrcArm (mask : BitVec 16) (s : State) : Res := .next (s.forEach (setBits 16 mask.toNat) State.traceArm)

/-- TRC_FIRE: a loop processor whose trigger is another ignores it. -/
def execTrcFire (mask : BitVec 16) (s : State) : Res :=
  .next (s.forEach ((setBits 16 mask.toNat).filter (fun n => s.fld (F.SRV_TRC_TRIG_SOURCE n) == 0)) State.traceFire)

/-! ## Overpower (R85) -/

/-- LASER_OVERPOWER: FMD above FMD_MAX at two consecutive sample instants. -/
def execLaserOverpower (n : Fin 16) (s : State) : Res :=
  let p := s.lp n
  if p.fmdRun < 2 then .next s
  else
    let s := s.raise (F.SRV_IF_STATUS_FMD_HIGH n) 0x0220 (srcPickup n) ([n.val, 0] ++ leBytes 2 (p.fmd / 16))
    .next (((s.put (F.SRV_LDD_CTRL_LDEN_REQ n) 0).driveLden n).abortCal n 4 Status.servoFault)

end Sys2Proof.Machine
end

