-- ==== Sys2Proof/Machine/Ldd.lean ====
section
/-!
DEFINITION. The laser-driver link: bring-up, STATUS frames, loss and retraining, write-strategy banks (R86, R87, R91–R95, R283, R284).
-/
namespace Sys2Proof.Machine

/-- Training starts: IDLE frames are sent (R95 step 2). -/
def State.trainLdd (s : State) (n : Nat) : State :=
  if s.flag (F.SRV_LDD_CTRL_LINK_EN n) = false ∨ s.slotPowered (n / 2) = false then s.modPickup n (fun y => { y with lddTry := false, lddGood := 0, lddBad := 0 })
  else (s.modPickup n (fun y => { y with lddTry := true, lddGood := 0, lddBad := 0 })).ldd n 0x00 []

/-- LDD_LINK_ENABLE: LINK_EN set (R95 step 1). -/
def execLddLinkEnable (n : Fin 16) (s : State) : Res :=
  let s := s.put (F.SRV_LDD_CTRL_LINK_EN n) 1
  .next (if s.flag (F.SRV_LDD_STATUS_LINK_UP n) ∨ (s.pickup n).lddTry = true then s else s.trainLdd n)

/-- LINK_EN cleared: the link is no longer held. -/
def State.lddOff (s : State) (n : Nat) : State :=
  let s := (s.put (F.SRV_LDD_CTRL_LINK_EN n) 0).put (F.SRV_LDD_STATUS_LINK_UP n) 0
  ((s.driveLden n).shutGates n (some 6)).modPickup n (fun y => { y with lddTry := false, lddGood := 0, lddBad := 0 })

/-- The link is lost (R95 steps 5 and 6), and trained again; `how`: 0 for a timeout, 1 for bad frames. -/
def State.lddLost (s : State) (n how : Nat) : State :=
  let s := s.put (F.SRV_LDD_STATUS_LINK_UP n) 0
  let s := s.raise (F.SRV_IF_STATUS_LDD_DOWN n) 0x0221 (srcPickup n) [n, how]
  ((s.driveLden n).shutGates n (some 6)).trainLdd n

/-! ## Bank selection (R94, R296) -/

/-- BANK_SELECT written once every gate is closed; PW of the bank is reported. -/
def State.applySelect (s : State) (n : Nat) : State :=
  match (s.puRec n).selWant with
  | none => s
  | some b =>
    if (s.pickup n).gates ≠ 0 ∨ s.streaming n = true then s
    else
      let pw := (Table.at {} (s.puRec n).banks b).pw
      let s := (s.lddWrite n Driver.bankSelect b).modPuRec n (fun p => { p with selWant := none })
      (((s.put (F.REC_PU_PW01_PW0 n) (pw.getD 0 0)).put (F.REC_PU_PW01_PW1 n) (pw.getD 1 0)).put (F.REC_PU_PW23_PW2 n) (pw.getD 2 0)).put
        (F.REC_PU_PW23_PW3 n) (pw.getD 3 0)

/-! ## STATUS frames (R92, R95) -/

/-- A good STATUS frame's payload taken in. -/
def State.takeStatus (s : State) (n : Nat) (b : List Nat) : State :=
  let b0 := b.getD 0 0
  let level := b.getD 1 0
  let discards := ofLeBytes ((b.drop 2).take 2)
  let rose := decide (discards ≠ s.fld (F.SRV_LDD_STATUS_DISCARDS n))
  let s := ((s.setFlag (F.SRV_LDD_STATUS_BANK n) (b0.testBit 1)).put (F.SRV_LDD_STATUS_FIFO_LEVEL n) level).put (F.SRV_LDD_STATUS_DISCARDS n) discards
  let s := s.modPickup n (fun y => { y with lddTemp := toSigned 16 (ofLeBytes ((b.drop 12).take 2)) })
  let s := s.when rose (fun s => s.post 0x0222 (srcPickup n) ([n, 0] ++ leBytes 2 discards))
  let s := s.when (rose && (s.pickup n).gates != 0) (fun s => s.shutGates n (some 2))
  let s := s.when ((s.pickup n).gates != 0 && (b0.testBit 2 || level == 0)) (fun s => s.shutGates n (some 6))
  s.applySelect n

/-- LDD_STATUS_FRAME: the characters of a frame after its start: TYPE, payload, CRC-16 low byte first (R86). -/
def execLddStatusFrame (n : Fin 16) (frame : List Byte) (s : State) : Res :=
  let b := frame.map BitVec.toNat
  if s.slotPowered (n.val / 2) = false ∨ s.flag (F.SRV_LDD_CTRL_LINK_EN n) = false then .next s
  else if b.length = 19 ∧ b.getD 0 0 = 0x80 ∧ crc16 (b.take 17) = ofLeBytes (b.drop 17) then
    let s := s.modPickup n (fun y => { y with lddGood := y.lddGood + 1, lddBad := 0 })
    .next (s.takeStatus n (b.drop 1))
  else .next (s.modPickup n (fun y => { y with lddGood := 0, lddBad := y.lddBad + 1 }))

/-- LDD_LINK_UP (R95 step 4): the driver is put into its read mode with its read powers, so that emission can follow. -/
def execLddLinkUp (n : Fin 16) (s : State) : Res :=
  let y := s.pickup n
  if y.lddTry = true ∧ 16 ≤ y.lddGood then
    let s := (s.put (F.SRV_LDD_STATUS_LINK_UP n) 1).modPickup n (fun y => { y with lddTry := false })
    let s := (s.lddWrite n Driver.mode 1).sendReadPower n
    .next (s.driveLden n)
  else .next s

def execLddBadFrames (n : Fin 16) (s : State) : Res :=
  if s.flag (F.SRV_LDD_STATUS_LINK_UP n) = true ∧ 8 ≤ (s.pickup n).lddBad then .next (s.lddLost n 1) else .next s

/-- LDD_STATUS_TIMEOUT: no good STATUS frame for 2 µs. -/
def execLddStatusTimeout (n : Fin 16) (s : State) : Res :=
  if s.flag (F.SRV_LDD_STATUS_LINK_UP n) = true then .next (s.lddLost n 0) else .next s

/-! ## Write-strategy banks (R93, R283, R284) -/

/-- The bank built for a layer: the base bank with PW and PM of each emitter. -/
def State.buildBank (s : State) (n layer : Nat) : List Nat :=
  let base := padTo 8192 ((Config.strategyBank (s.fld (F.FWU_VER_VERSION 0)) (s.disc (n / 2)).strategyId).map (· % 256))
  let pw := Table.at [] (s.puRec n).calPw layer
  let pm := Table.at [] (s.puRec n).calPm layer
  (List.range 4).foldl (fun (b : List Nat) k =>
    b.take (2048 * k) ++ leBytes 2 (pw.getD k 0) ++ leBytes 2 (pm.getD k 0) ++ b.drop (2048 * k + 4)) base

/-- The 128 TBL frames of a bank (R86, R93). -/
def State.sendBank (s : State) (n bank : Nat) (bytes : List Nat) : State :=
  s.emitAll ((List.range 128).map (fun i => Out.ldd n 0x03 (bank :: leBytes 2 (64 * i) ++ (bytes.drop (64 * i)).take 64)))

def tableOk (n bank : Nat) : Fld := if bank = 0 then F.SRV_LDD_STATUS_TABLE_OK0 n else F.SRV_LDD_STATUS_TABLE_OK1 n

/-- LDD_TABLE_LOAD: the bank of a layer is built, loaded into the bank not in use and checked by the CRC-32C that STATUS reports after the
first load and, where that differs, after the second; a checked bank is selected once the gates are closed. -/
def execLddTableLoad (n : Fin 16) (layer : Fin 8) (crc1 crc2 : BitVec 32) (s : State) : Res :=
  let pw := Table.at [] (s.puRec n).calPw layer.val
  if s.flag (F.SRV_LDD_STATUS_LINK_UP n) = false ∨ pw.isEmpty = true then .next s
  else
    let bank := 1 - s.fld (F.SRV_LDD_STATUS_BANK n)
    let bytes := s.buildBank n layer.val
    let want := crc32c bytes
    let s := (s.put (tableOk n bank) 0).sendBank n bank bytes
    let s := if crc1.toNat = want then s else s.sendBank n bank bytes
    if crc1.toNat = want ∨ crc2.toNat = want then
      let b : LddBank := { held := true, layer := layer.val, pw := pw, pm := Table.at [] (s.puRec n).calPm layer.val }
      let s := (s.put (tableOk n bank) 1).modPuRec n (fun p => { p with banks := Table.put {} p.banks bank b, selWant := some bank })
      .next (s.applySelect n)
    else
      let s := s.modPuRec n (fun p => { p with banks := Table.put {} p.banks bank {} })
      .next (s.post 0x0223 (srcPickup n) [n.val, bank])

end Sys2Proof.Machine
end

