-- ==== Sys2Proof/Machine/Spindle.lean ====
section
/-!
DEFINITION. Spindles: their states, starting, commutation and speed, rotor loss and catch, braking, the chopper and the bus (R150–R176).
-/
namespace Sys2Proof.Machine

/-! The states of a spindle (R156). -/
namespace Spn
abbrev off : Nat := 0
abbrev probe : Nat := 1
abbrev slowing : Nat := 2
abbrev hfi : Nat := 3
abbrev align : Nat := 4
abbrev ramp : Nat := 5
abbrev run : Nat := 6
abbrev catch_ : Nat := 7
abbrev rappel : Nat := 8
abbrev short : Nat := 9
abbrev coast : Nat := 10
abbrev fault : Nat := 11
end Spn

def State.spnState (s : State) (st : Nat) : Nat := s.fld (F.SPN_STATE_STATE st)
def State.spnSpeed (s : State) (st : Nat) : Nat := s.fld (F.SPN_STATE_SPEED st)

/-- Payload of the events of R175: station, state, two bytes, two bytes. -/
def State.spnPayload (s : State) (st : Nat) (two : List Nat) (word : Nat) : List Nat :=
  [st, s.spnState st] ++ padTo 2 two ++ leBytes 2 word

/-- The bus in units of 0.1 V: full scale is 51.2 V at 4,096 codes (R152). -/
def State.vbus (s : State) (st : Nat) : Nat := (s.spindle st).busCode / 8

/-- A state entered, with what drives the bridge; outside RUN neither AT_SPEED nor ANGLE_VALID is set (R154, R155). -/
def State.spnEnter (s : State) (st p : Nat) (b : Bridge) : State :=
  let s := s.put (F.SPN_STATE_STATE st) p
  let s := if p = Spn.run then s.put (F.SPN_STATE_ANGLE_VALID st) 1
    else (s.put (F.SPN_STATE_AT_SPEED st) 0).put (F.SPN_STATE_ANGLE_VALID st) 0
  s.modSpindle st (fun x => { x with bridge := b, intervals := [], missed := 0, consistent := 0, good := 0 })

/-! ## Stations without their spindle (R168, R173, R290) -/

/-- Every command of a station ends with a status, a LOAD with its binding (R168, R173). -/
def State.failStation (s : State) (st status : Nat) : State :=
  s.forEach (s.stationCmds st) (fun s e =>
    let c := s.cmd e.1
    if c.op = Op.load ∧ c.phase = .admitted then s.failLoad e.1 status
    else if c.op = Op.unload ∧ c.phase = .admitted then s.failUnload e.1 status
    else s.stopCmd e.1 status)

/-- The spindle is lost to its station: the lenses are parked, runs are broken, procedures are abandoned and every command ends with
SPINDLE_FAULT; with a disc in the station DP s asks for no rotation. -/
def State.spindleLost (s : State) (st : Nat) : State :=
  let s := s.forEach [2 * st, 2 * st + 1] (fun s n =>
    let s := s.abortCal n 1 Status.spindleFault
    let s := (s.parkLens n false).breakRun n
    s.put (F.SRV_PU_STATE_BELAY_CAUSE n) (s.fld (F.SRV_PU_STATE_BELAY_CAUSE n) &&& (15 - 2 ^ belaySpindle)))
  let held := (s.station st).disc.isSome || (s.loadOf st).isSome
  let s := s.failStation st Status.spindleFault
  s.when held (fun s => s.put (F.SPN_CTRL_RUN st) 0)

/-- The commands that cannot be carried out without rotation when the spindle does not start (R162). -/
def State.startFailed (s : State) (st : Nat) : State :=
  let s := s.failStation st Status.spindleFault
  s.forEach [2 * st, 2 * st + 1] (fun s n => s.abortCal n 1 Status.spindleFault)

/-! ## Starting (R157–R162) -/

/-- START_FAIL: FAULT with its reason: 0 bus low, 1 chopper fault, 2 ramp, 3 injection quality. -/
def State.spnStartFail (s : State) (st reason : Nat) : State :=
  let s := s.spnEnter st Spn.fault .off
  let s := s.raise (F.SPN_STATUS_START_FAIL st) 0x0301 (srcStation st) (s.spnPayload st [s.fld (F.SPN_STATE_ATTEMPTS st), reason] 0)
  s.startFailed st

/-- The rows of OFF (R157): a start request with RUN set. -/
def State.spnStart (s : State) (st : Nat) : State :=
  if s.spnState st ≠ Spn.off ∨ s.flag (F.SPN_CTRL_RUN st) = false then s
  else
    let s := s.put (F.SPN_STATE_ATTEMPTS st) 0
    if s.flag (F.SPN_STATUS_CHOP_FAULT st) then s.spnStartFail st 1
    else if (s.spindle st).busCode < 1600 then s.spnStartFail st 0
    else (s.spnEnter st Spn.probe .off).put (F.SPN_STATE_SPEED st) 0

/-- The standstill mode, and OFF (R169); RUN still set starts again. -/
def State.spnStop (s : State) (st : Nat) : State :=
  let s := s.spnEnter st Spn.off (if s.flag (F.SPN_CTRL_STANDSTILL st) then .lowSides else .off)
  let s := s.put (F.SPN_STATE_SPEED st) 0
  (s.post 0x0308 (srcStation st) (s.spnPayload st [] 0)).spnStart st

/-- A Rappel stop (R169). -/
def State.spnRappel (s : State) (st : Nat) (regen : Bool) : State :=
  let v := s.spnSpeed st
  let s := s.spnEnter st Spn.rappel (if regen then .regenerative else .short)
  s.modSpindle st (fun x => { x with ref := (v : Nat), integ := 0 })

/-- HFI, or ALIGN when START_MODE is 2 (R157, R160, R161). -/
def State.spnLocate (s : State) (st : Nat) : State :=
  if s.fld (F.SPN_CTRL_START_MODE st) = 2 then
    (s.spnEnter st Spn.align .fixed).modSpindle st (fun x => { x with step := 0 })
  else s.spnEnter st Spn.hfi .injection

/-- An attempt fails: SLOWING for another, or FAULT after the third (R162). -/
def State.spnAttemptFails (s : State) (st reason : Nat) : State :=
  let s := s.incSat (F.SPN_STATE_ATTEMPTS st) 1
  if 3 ≤ s.fld (F.SPN_STATE_ATTEMPTS st) then s.spnStartFail st reason else s.spnEnter st Spn.slowing .short

/-- RAMP entered at a step rate and a step (R161). -/
def State.spnRamp (s : State) (st : Nat) (rate : Rat) (step : Nat) : State :=
  (s.spnEnter st Spn.ramp .sixStep).modSpindle st (fun x => { x with ramp := rate, step := step % 6 })

/-- A write of SPN_CTRL.RUN (R157, R159, R169). -/
def State.writeRun (s : State) (st : Nat) (on : Bool) : State :=
  let was := s.flag (F.SPN_CTRL_RUN st)
  let s := s.setFlag (F.SPN_CTRL_RUN st) on
  let p := s.spnState st
  if on then (if was then s else s.spnStart st)
  else if p = Spn.fault then
    (if s.flag (F.SPN_STATUS_START_FAIL st) || s.flag (F.SPN_STATUS_CHOP_FAULT st) then s else s.spnEnter st Spn.off .off)
  else if p = Spn.run then s.spnRappel st (s.flag (F.SPN_STATE_ANGLE_VALID st) && !s.flag (F.SPN_STATUS_CHOP_FAULT st))
  else if p = Spn.probe ∨ p = Spn.slowing ∨ p = Spn.hfi ∨ p = Spn.align ∨ p = Spn.ramp ∨ p = Spn.catch_ then s.spnRappel st false
  else s

def execSpindleRunSet (st : Fin 8) (s : State) : Res := .next (s.writeRun st true)
def execSpindleRunClear (st : Fin 8) (s : State) : Res := .next (s.writeRun st false)

/-- AT_SPEED ends beyond ±2 % of the target (R154). -/
def State.checkAtSpeed (s : State) (st : Nat) : State :=
  let target := s.fld (F.SPN_TARGET_RPM st)
  let v := s.spnSpeed st
  if 50 * (max v target - min v target) > target then
    (s.put (F.SPN_STATE_AT_SPEED st) 0).modSpindle st (fun x => { x with good := 0 })
  else s

/-- SPINDLE_TARGET_WRITE (R153). -/
def execSpindleTargetWrite (st : Fin 8) (value : Word) (s : State) : Res :=
  let v := bitsOf value.toNat 0 14
  if v < 600 ∨ 10000 < v then .next (s.put (F.SPN_STATUS_TARGET_REJECTED st) 1)
  else .next ((s.put (F.SPN_TARGET_RPM st) v).checkAtSpeed st)

/-- PROBE_TIMEOUT: 20 ms in PROBE. -/
def execProbeTimeout (st : Fin 8) (s : State) : Res :=
  if s.spnState st ≠ Spn.probe then .next s
  else if 600 ≤ s.spnSpeed st then .next (s.spnEnter st Spn.catch_ .off)
  else if 60 ≤ s.spnSpeed st then .next (s.spnEnter st Spn.slowing .short)
  else .next (s.spnLocate st)

/-- HFI_DONE: the injection ends with quality `q`; `step`: the commutation step of the located angle, at 60 rpm. -/
def execHfiDone (st : Fin 8) (q : Byte) (step : Fin 6) (s : State) : Res :=
  if s.spnState st ≠ Spn.hfi then .next s
  else
    let s := s.put (F.SPN_HFI_Q_Q st) q.toNat
    if s.fld (F.SPN_HFI_Q_MIN st) ≤ q.toNat then .next (s.spnRamp st 60 step)
    else if s.fld (F.SPN_CTRL_START_MODE st) = 1 then .next (s.spnAttemptFails st 3)
    else .next ((s.spnEnter st Spn.align .fixed).modSpindle st (fun x => { x with step := 0 }))

/-- ALIGN_ELAPSED: ALIGN_MS in ALIGN. -/
def execAlignElapsed (st : Fin 8) (s : State) : Res :=
  if s.spnState st = Spn.align then .next (s.spnRamp st 0 0) else .next s

/-! ## Speed and crossings (R154, R155, R161, R163–R165, R168) -/

/-- Speed in rpm of crossing intervals in ns: 60 / (24 T), to the nearest; 0 without any. -/
def rpmOf (intervals : List Nat) : Nat :=
  let w := intervals.take 6
  let total := w.foldl (· + ·) (0 : Nat)
  if total = 0 then 0 else (divRound (2500000000 * (w.length : Int)) (total : Int)).toNat

/-- The reference rises toward the target from the speed at which the loop closes; Σe is preset so that the duty is kept (R157, R168). -/
def State.spnClose (s : State) (st : Nat) (duty : Rat) : State :=
  let v := s.spnSpeed st
  let keep := (s.spindle st).intervals
  let s := s.spnEnter st Spn.run .sixStep
  let ki : Rat := (s.fld (F.SPN_PI_KI st) : Nat)
  s.modSpindle st (fun x => { x with
    ref := (v : Nat), duty := duty, integ := ratio (duty * 1048576) ki, intervals := keep, carry := 0 })

/-- Rotor loss (R165, R168, R174): a catch in RUN, short braking in a regenerative stop. `how`: 0 missed crossings, 1 speed jump. -/
def State.spnRotorLoss (s : State) (st how : Nat) : State :=
  if s.spnState st = Spn.run then
    let v := s.spnSpeed st
    let s := s.spnEnter st Spn.catch_ .off
    let s := s.raise (F.SPN_STATUS_ROTOR_LOSS st) 0x0302 (srcStation st) (s.spnPayload st [how] v)
    s.rotorLost st
  else if s.spnState st = Spn.rappel ∧ (s.spindle st).bridge = .regenerative then
    s.modSpindle st (fun x => { x with bridge := .short, missed := 0 })
  else s

/-- Intervals that agree to within 12 % of their mean. -/
def agree (ts : List Nat) : Bool :=
  let total := ts.foldl (· + ·) (0 : Nat)
  ts.all (fun t => decide (100 * (max (ts.length * t) total - min (ts.length * t) total) ≤ 12 * total))

/-- The station takes commands again once its spindle is below 300 rpm (R173). -/
def State.endPowerStop (s : State) (st : Nat) : State :=
  if s.spnSpeed st < 300 then s.modStation st (fun x => { x with powerStop := false }) else s

/-- SPINDLE_ZERO_CROSSING: a crossing of the floating phase, `interval` steps of 10 ns after the previous one and `after` steps after the
last commutation; `emf`: the back-EMF measured, over the bus voltage. -/
def execSpindleZeroCrossing (st : Fin 8) (interval after : Nat) (emf : Rat) (s : State) : Res :=
  let x := s.spindle st
  let t := 10 * interval / (x.missed + 1)
  let before := x.intervals.take 6
  let s := s.setSpindle st { x with intervals := (t :: x.intervals).take 7, lastCross := s.now, k := (x.k + 1) % 24, missed := 0 }
  let s := s.put (F.SPN_STATE_SPEED st) (min 65535 (rpmOf (s.spindle st).intervals))
  let v := s.spnSpeed st
  let s := s.endPowerStop st
  let p := s.spnState st
  -- the speed from this interval differs from the mean of the previous six by more than 12 %
  let total := before.foldl (· + ·) (0 : Nat)
  let jump := decide (before.length = 6) && decide (100 * (max (6 * t) total - min (6 * t) total) > 12 * (6 * t))
  if p = Spn.run then
    let s := (s.followAngle st (((s.spindle st).k * 512 / 3 + s.fld (F.SPN_ANGLE_ANGLE_OFS st)) % 4096)).checkAtSpeed st
    .next (if jump then s.spnRotorLoss st 1 else s)
  else if p = Spn.rappel then
    if v < 60 then .next (s.spnStop st)
    else .next (if jump && x.bridge == .regenerative then s.spnRotorLoss st 1 else s)
  else if p = Spn.ramp then
    -- the step at the ramp's present rate, in 10 ns
    let step := ratio 250000000 x.ramp
    let good := decide (step * 40 ≤ 100 * (after : Nat)) && decide (100 * ((after : Nat) : Rat) ≤ step * 60)
    let s := s.modSpindle st (fun y => { y with consistent := if good then y.consistent + 1 else 0 })
    if 600 ≤ v ∧ 6 ≤ (s.spindle st).consistent then .next (s.spnClose st x.duty) else .next s
  else if p = Spn.catch_ then
    let six := (s.spindle st).intervals.take 6
    if six.length = 6 ∧ agree six = true ∧ 600 ≤ v then
      let s := s.spnClose st emf
      .next (s.raise (F.SPN_STATUS_CAUGHT st) 0x0303 (srcStation st) (s.spnPayload st [] v))
    else .next s
  else if p = Spn.slowing ∧ v < 60 then .next (s.spnLocate st)
  else if p = Spn.short ∧ v < 60 then .next (s.spnStop st)
  else if p = Spn.coast ∧ v < 300 then .next (s.spnEnter st Spn.short .short)
  else .next s

/-- SPINDLE_COMMUTATION: the next step of R163, `elapsed` steps of 10 ns after the last; `duty`: in RAMP, the duty that holds the phase
current at ILIM. The ramp's rate rises, and a ramp that reaches 900 rpm without handover fails (R161, R162). -/
def execSpindleCommutation (st : Fin 8) (elapsed : Nat) (duty : Rat) (s : State) : Res :=
  let x := s.spindle st
  if x.bridge ≠ .sixStep ∧ x.bridge ≠ .regenerative ∧ x.bridge ≠ .injection then .next s
  else
    let s := s.setSpindle st { x with step := (x.step + 1) % 6 }
    if s.spnState st ≠ Spn.ramp then .next s
    else
      let rate := x.ramp + (s.fld (F.SPN_RAMP_RAMP_ACC st) : Nat) * ((elapsed : Nat) : Rat) / 100000000
      let s := s.modSpindle st (fun y => { y with ramp := rate, duty := duty })
      if 900 ≤ rate then .next (s.spnAttemptFails st 2) else .next s

/-- ZERO_CROSSING_MISSED: none found within 1.5 predicted intervals; the controller commutates at the predicted instant once, and the second
in a row is a rotor loss. -/
def execZeroCrossingMissed (st : Fin 8) (s : State) : Res :=
  let x := s.spindle st
  if s.spnState st = Spn.run ∨ (s.spnState st = Spn.rappel ∧ x.bridge = .regenerative) then
    let s := s.setSpindle st { x with missed := x.missed + 1, k := (x.k + 1) % 24, step := (x.step + 1) % 6 }
    .next (if 1 ≤ x.missed then s.spnRotorLoss st 0 else s)
  else .next s

/-- CATCH_TIMEOUT: 50 ms in CATCH. -/
def execCatchTimeout (st : Fin 8) (s : State) : Res :=
  if s.spnState st ≠ Spn.catch_ then .next s
  else
    let v := s.spnSpeed st
    let s := s.spnRappel st false
    let s := s.raise (F.SPN_STATUS_LOST st) 0x0304 (srcStation st) (s.spnPayload st [] v)
    .next (s.spindleLost st)

/-! ## The speed loop (R154, R162, R166, R167, R169) -/

/-- On-times of a group of periods for a demanded on-time, in µs, and the remainder carried on (R166). -/
def pulseGroup (ton ts carry : Rat) : List Rat × Rat :=
  if ton ≤ 0 then ([0], carry)
  else if ts ≤ ton then ([ton], carry)
  else
    let n := (-((-(ts / ton)).floor)).toNat
    let rest := n * ton - ts + carry
    if 2 / 5 ≤ rest then (ts :: (List.replicate (n - 2) 0 ++ [rest]), 0) else (ts :: List.replicate (n - 1) 0, rest)

/-- A pickup at rest that its station's work needs is started (R129): its laser-driver link and its emission are asked for. -/
def State.wakePickup (s : State) (n : Nat) : State :=
  if s.puState n ≠ Pu.off ∨ (s.pickup n).startReq = true then s
  else
    let s := s.modPickup n (fun y => { y with startReq := true, layer := s.targetLayer n })
    if s.flag (F.SRV_LDD_CTRL_LINK_EN n) then s else (s.put (F.SRV_LDD_CTRL_LINK_EN n) 1).trainLdd n

/-- An admitted command of the station needs rotation. -/
def State.needsSpin (s : State) (st : Nat) : Bool :=
  (s.stationCmds st).any (fun e => e.2.phase == .admitted && (onDisc e.2.op || e.2.op == Op.load || e.2.op == Op.calibrate)) ||
    s.recording.blocks.any (fun r => r.station == st)

/-- SPEED_LOOP_INSTANT: the reference moves, the duty is computed, and AT_SPEED is prepared. DP s also starts a spindle at rest that a
command needs, and asks for the pickups that its work needs (R129, R158, R159). -/
def execSpeedLoopInstant (st : Fin 8) (s : State) : Res :=
  let s := if (s.station st).disc.isSome && s.needsSpin st && s.spnState st == Spn.off && !s.flag (F.SPN_CTRL_RUN st) &&
      !s.flag (F.SPN_STATUS_CHOP_FAULT st) && s.slotPowered st then s.writeRun st true else s
  let x := s.spindle st
  let p := s.spnState st
  let v : Rat := (s.spnSpeed st : Nat)
  let target : Rat := (s.fld (F.SPN_TARGET_RPM st) : Nat)
  let up : Rat := (s.fld (F.SPN_ACC_ACC st) : Nat) / 2000
  let down : Rat := (s.fld (F.SPN_ACC_DEC st) : Nat) / 2000
  let regen := decide (p = Spn.rappel) && x.bridge == .regenerative
  if p ≠ Spn.run ∧ regen = false then .next s
  else
    let goal := if regen then 0 else target
    let ref := if x.ref < goal then min goal (x.ref + up) else max goal (x.ref - down)
    let e := if regen then v - ref else ref - v
    let kp : Rat := (s.fld (F.SPN_PI_KP st) : Nat)
    let ki : Rat := (s.fld (F.SPN_PI_KI st) : Nat)
    let want := (kp * e + ki * (x.integ + e)) / 1048576
    let clamped := decide (want < 0) || decide (98 / 100 < want)
    let duty := if regen && x.regenHeld then 0 else if want < 0 then 0 else if 98 / 100 < want then 98 / 100 else want
    let ts : Rat := (s.fld (F.SPN_ZC_SETTLE st) + s.fld (F.SPN_ZC_SAMPLE st) : Nat) / 10
    let group := pulseGroup (25 * duty) ts x.carry
    let near := decide (absRat (v - target) * 200 ≤ target)
    let s := s.setSpindle st { x with
      ref := ref, duty := duty, integ := if clamped then x.integ else x.integ + e, onTimes := group.1, carry := group.2
      good := if p = Spn.run ∧ near = true then x.good + 1 else 0 }
    if p = Spn.run ∧ s.flag (F.SPN_STATE_AT_SPEED st) = true ∧ ((s.station st).disc.isSome || (s.loadOf st).isSome) = true then
      .next (s.forEach [2 * st.val, 2 * st.val + 1] (fun s n => if (s.wanted n).isSome then s.wakePickup n else s))
    else .next s

/-- AT_SPEED: 32 speed-loop periods within ±0.5 %; the Belay cause of the spindle ends (R143, R145), and pickups that wait at rest for a
loaded disc, or for a LOAD, are started. -/
def execAtSpeed (st : Fin 8) (s : State) : Res :=
  if s.spnState st = Spn.run ∧ 32 ≤ (s.spindle st).good ∧ s.flag (F.SPN_STATE_AT_SPEED st) = false then
    let s := s.put (F.SPN_STATE_AT_SPEED st) 1
    .next (s.forEach [2 * st.val, 2 * st.val + 1] (fun s n =>
      let s := s.setBelay n belaySpindle false
      if (s.loadOf st).isSome || (s.wanted n).isSome then s.wakePickup n else s))
  else .next s

/-! ## Chopper and bus (R170–R173) -/

/-- From a chopper fault or a trip until the spindle is below 300 rpm the station takes no commands (R173). -/
def State.powerStopped (s : State) (st : Nat) : State :=
  ((s.modStation st (fun x => { x with powerStop := true })).spindleLost st).endPowerStop st

/-- The chopper is declared faulty (R157, R171); `how`: 0 no current, 1 bus slew. -/
def State.chopperFault (s : State) (st how : Nat) : State :=
  let s := s.modSpindle st (fun x => { x with chop := false, bus := [] })
  let p := s.spnState st
  let s := if p = Spn.short ∨ p = Spn.coast ∨ p = Spn.fault then s else s.spnEnter st Spn.short .short
  let s := s.raise (F.SPN_STATUS_CHOP_FAULT st) 0x0305 (srcStation st) (s.spnPayload st [how] (s.vbus st))
  s.powerStopped st

/-- The hysteresis of R170 on the last conversion. -/
def State.driveChopper (s : State) (st : Nat) : State :=
  let x := s.spindle st
  if s.flag (F.SPN_STATUS_CHOP_FAULT st) = true ∨ s.slotPowered st = false then s.setSpindle st { x with chop := false, bus := [] }
  else if 8 * s.fld (F.SPN_CHOP_CHOP_ON st) < x.busCode then
    s.setSpindle st { x with chop := true, bus := if x.chop then x.bus else [x.busCode] }
  else if x.busCode < 8 * s.fld (F.SPN_CHOP_CHOP_OFF st) then s.setSpindle st { x with chop := false, bus := [] }
  else s

/-- The trip (R157, R172). -/
def State.busTrip (s : State) (st : Nat) : State :=
  let p := s.spnState st
  let s := if p = Spn.coast ∨ p = Spn.fault then s.modSpindle st (fun x => { x with bridge := .off }) else s.spnEnter st Spn.coast .off
  let s := (s.put F.SPN_BUS_OV_TRIP (s.fld F.SPN_BUS_OV_TRIP ||| 2 ^ st)).put F.SPN_BUS_OV_PIN 1
  let first := !s.flag (F.SPN_STATUS_OV_TRIP st)
  let s := s.raise (F.SPN_STATUS_OV_TRIP st) 0x0307 (srcStation st) (s.spnPayload st [] (s.vbus st))
  if first || (s.station st).powerStop == false then s.powerStopped st else s

/-- BUS_CONVERSION: a conversion of SPs_VBUS, every 5 µs: the trip, the chopper's slew check and hysteresis, and the warning, in the order
of R174. -/
def execBusConversion (st : Fin 8) (code : BitVec 12) (s : State) : Res :=
  if s.slotPowered st = false then .next s
  else
    let c := code.toNat
    let s := s.modSpindle st (fun x => { x with busCode := c, bus := if x.chop then (c :: x.bus).take 51 else [] })
    let v := s.vbus st
    let s := (s.put (F.SPN_BUS_VBUS st) v).put (F.SPN_BUS_VBUS_PEAK st) (max v (s.fld (F.SPN_BUS_VBUS_PEAK st)))
    let s := s.when (decide (3360 < c)) (fun s => s.busTrip st)
    let bus := (s.spindle st).bus
    -- 250 µs are 50 conversions, and 0.5 V are 40 codes
    let slew := (s.spindle st).chop && decide (bus.length = 51) && decide (bus.getD 50 0 + 40 < c)
    let s := s.when slew (fun s => s.chopperFault st 1)
    let s := s.driveChopper st
    let s := s.when (decide (3040 < c)) (fun s =>
      (s.raise (F.SPN_STATUS_OV_WARN st) 0x0306 (srcStation st) (s.spnPayload st [] v)).modSpindle st (fun x => { x with regenHeld := true }))
    .next (s.when (decide (c < 2880)) (fun s => s.modSpindle st (fun x => { x with regenHeld := false })))

/-- CHOPPER_NO_CURRENT: SPs_CHOP_I below ICHOP_MIN for 20 µs with the gate on. -/
def execChopperNoCurrent (st : Fin 8) (s : State) : Res :=
  if (s.spindle st).chop then .next (s.chopperFault st 0) else .next s

/-- CHOP_FAULT_CLEAR: the host clears CHOP_FAULT, and the hysteresis drives the gate again. -/
def execChopFaultClear (st : Fin 8) (s : State) : Res := .next ((s.put (F.SPN_STATUS_CHOP_FAULT st) 0).driveChopper st)

/-- BUS_OV_RELEASE: every tripped bus has been below 36.0 V for 10 ms. -/
def execBusOvRelease (s : State) : Res :=
  let trips := setBits 8 (s.fld F.SPN_BUS_OV_TRIP)
  if trips.isEmpty = false ∧ trips.all (fun st => decide ((s.spindle st).busCode < 2880)) = true then
    .next ((s.put F.SPN_BUS_OV_TRIP 0).put F.SPN_BUS_OV_PIN 0)
  else .next s

end Sys2Proof.Machine
end

