-- ==== Sys2Proof/Machine/RecRows.lean ====
section
/-!
DEFINITION. Recording: the frontier, the pre-pass, runs and their write clock, resumption, blocks recorded and verified (R270–R296).
-/
namespace Sys2Proof.Machine

/-! ## The frontier (R270, R272) -/

/-- Binary search for the first of lo … hi − 1 that a probe does not find begun; the probes' answers in order. None where they run out.
Also the last index probed. -/
def searchFirst : (fuel lo hi last : Nat) → List Bool → Option (Nat × Nat)
  | 0, _, _, _, _ => none
  | fuel + 1, lo, hi, last, answers =>
    if hi ≤ lo then some (lo, last)
    else
      match answers with
      | [] => none
      | a :: rest =>
        let mid := (lo + hi) / 2
        if a then searchFirst fuel (mid + 1) hi mid rest else searchFirst fuel lo mid mid rest

/-- First LBA of a side and layer. -/
def DiscInfo.layerLba (d : DiscInfo) (side layer : Nat) : Nat := d.lbasPerSide * side + d.lbasPerLayer * layer

/-- FRONTIER_SEARCH: `begun`: for each probe in order, whether the probed block is begun. -/
def execFrontierSearch (n : Fin 16) (layer : Fin 8) (begun : List Bool) (s : State) : Res :=
  let st := n.val / 2
  let d := s.disc st
  if (s.station st).disc.isNone = true ∨ d.s4 = true ∨ s.puState n ≠ Pu.follow ∨ (s.frontier st (n.val % 2) layer.val).isSome = true ∨
      s.streaming n = true then .next s
  else
    match searchFirst 32 0 d.blocksPerLayer 0 begun with
    | none => .next (s.put (F.REC_PU_STATUS_STATE n) 1)
    | some (b, last) =>
      let w := d.layerLba (n.val % 2) layer.val + 64 * b
      let s := s.setFrontier st (n.val % 2) layer.val (some w)
      let p := d.physBlock layer.val last
      let psa := if d.falls layer.val then psaOf (n.val % 2) layer.val 3 (18 * p + 71) else psaOf (n.val % 2) layer.val 0 (18 * p)
      let s := s.modPickup n (fun y => { y with confirmed := some psa, addr := none })
      .next (s.put (F.REC_PU_STATUS_STATE n) 0)

/-! ## The pre-pass (R273, R279, R284, R285) -/

/-- The layer has its power value of this load, and the driver's temperature has not moved beyond TEMP_DELTA since (R285). -/
def State.powerValid (s : State) (n layer : Nat) : Bool :=
  let t := Table.at 0 (s.puRec n).calTemp layer
  !(Table.at [] (s.puRec n).calPw layer).isEmpty &&
    decide (((s.pickup n).lddTemp - t).natAbs ≤ s.fld F.REC_OPC_CFG_TEMP_DELTA || (Table.at 0 (s.puRec n).pcaNext layer) > 1000)

/-- The sectors of a side and layer that the map conflict drops: blocks gathered or committed and not begun (R273). -/
def State.dropGathered (s : State) (st side layer : Nat) : State :=
  let d := s.disc st
  let here (block : Nat) : Bool := (d.blockPos block).side == side && (d.blockPos block).layer == layer
  let s := s.forEach entryNumbers (fun s e =>
    let x := s.entry e
    if x.st = .gathering ∧ some x.mslot = (s.station st).mslot ∧ here x.block = true then s.freeRecEntry e x.block else s)
  let s := { s with recording := { s.recording with padWait := s.recording.padWait.filter (fun w => !(w.station == st && here w.block)) } }
  s.forEach (s.recording.blocks.filter (fun r => r.station == st && r.side == side && r.layer == layer && !r.recorded && r.played.isEmpty && r.cut.isEmpty))
    (fun s r => ((s.freeRecEntry r.entry r.block).dropRecBlock r.mslot r.block).blockSettled r.mslot r.block true)

/-- R273: the map conflict at position `k` of the pre-pass. -/
def State.mapConflict (s : State) (n : Nat) (r : RecBlock) (k : Nat) : State :=
  let st := n / 2
  let d := s.disc st
  let psa := if d.falls r.layer then psaOf r.side r.layer 3 (18 * (r.b + 3) + 17 - k) else psaOf r.side r.layer 0 (18 * r.b + k)
  let s := s.raise (F.REC_PU_STATUS_MAP_CONFLICT n) 0x0606 (srcPickup n) ([n, r.layer, 0, 0] ++ leBytes 4 psa)
  let s := s.setFrontier st r.side r.layer none
  let s := s.forEach (s.stationCmds st) (fun s e =>
    let c := s.cmd e.1
    if c.op = Op.write ∧ (d.pieces c.id.lba c.id.nsect).any (fun p => p.1 == r.side && p.2.1 == r.layer) = true then
      s.endCmd e.1 false { status := Status.alreadyRecorded, done := c.data.gathered, detail := min 65535 c.data.pads }
    else s)
  let s := s.dropGathered st r.side r.layer
  (s.modRun n (fun _ => {})).put (F.REC_PU_STATUS_STATE n) 0

/-- PRE_PASS over the positions of the run's first block on the spiral reached first; `conflict`: the first of the 18 that is not blank. -/
def execPrePass (n : Fin 16) (conflict : Option (Fin 18)) (s : State) : Res :=
  let s := s.breakUnrecordable
  let layer := s.fld (F.SRV_PU_STATE_LAYER n)
  let run := (s.puRec n).run
  match s.nextBlock n layer with
  | none => .next s
  | some r =>
    if s.puState n ≠ Pu.follow ∨ run.active = true ∨ r.prepared = false ∨ s.powerValid n layer = false ∨
        s.flag (F.SRV_LDD_STATUS_LINK_UP n) = false then .next s
    else
      let s := (s.put (F.REC_PU_STATUS_STATE n) 3).lddWrite n Driver.mode 2
      match conflict with
      | some k => .next (s.mapConflict n r k)
      | none =>
        .next (s.modRun n (fun _ => { prePassed := true, layer := layer, first := (s.disc (n.val / 2)).runStart layer r.b, last := r.block }))

/-! ## Runs (R279–R282, R289) -/

/-- What must hold for gates to open: the write clock locked, the link up, the layer's bank in use and no selection pending, the beams
aligned, the pickup following (R94, R135, R281, R284). -/
def State.mayRecord (s : State) (n : Nat) : Bool :=
  let run := (s.puRec n).run
  let bank := Table.at {} (s.puRec n).banks (s.fld (F.SRV_LDD_STATUS_BANK n))
  s.flag (F.REC_PU_STATUS_WCLK_LOCK n) && s.flag (F.SRV_LDD_STATUS_LINK_UP n) && bank.held && bank.layer == run.layer &&
    (s.puRec n).selWant.isNone && !(s.pickup n).baeBarred && s.puState n == Pu.follow && (s.pickup n).gates == 0

/-- The write-clock word for a wobble frequency in Hz (R281). -/
def rateWord (freq : Rat) : Nat := (nearest (freq * 256 * 4294967296 / 6250000000)).toNat % 2 ^ 32

/-- The stream starts: LAUNCH is set to the write-clock count of the first frame's bit 0, a count that no register shows. -/
def State.launch (s : State) (n : Nat) : State :=
  let c := s.takeFree
  let s := c.2.lddWrite n Driver.launch (c.1 % 2 ^ 32)
  (s.put (F.REC_PU_STATUS_STATE n) 4).showGates n

/-- RUN_START: the instant that LAUNCH names. -/
def execRunStart (n : Fin 16) (s : State) : Res :=
  let run := (s.puRec n).run
  match s.nextBlock n run.layer with
  | none => .next s
  | some r =>
    if run.prePassed = false ∨ run.active = true ∨ s.mayRecord n = false ∨ r.prepared = false ∨ s.unrecordable r = true ∨
        r.block ≠ run.last then .next s
    else
      let s := s.modRun n (fun x => { x with prePassed := false, active := true, faulted := false, bits := 0, zone := none, closed := false })
      .next ((s.takeBlock r).launch n)

/-- WOBBLE_PERIOD: the phase error in 1/256 channel bit and the wobble's frequency are measured; the write clock is corrected, and while a
run streams its next 256 channel bits are sent and played (R281, R282). -/
def execWobblePeriod (n : Fin 16) (err : Int) (freq : Rat) (s : State) : Res :=
  let e := satSigned 16 err
  let s := s.sput (F.REC_PU_WCLK_ERR n) e
  let good := decide (e.natAbs ≤ s.fld F.REC_WCLK_CFG_LOCK_MAX)
  let s := s.modPuRec n (fun p => { p with wclkGood := if good then p.wclkGood + 1 else 0 })
  let bad := decide (s.fld F.REC_WCLK_CFG_FAULT_MAX < e.natAbs)
  let s := s.when (decide (4 ≤ e.natAbs) && s.flag (F.SRV_LDD_STATUS_LINK_UP n)) (fun s =>
    s.lddWrite n Driver.phaseStep (ofSigned 32 (-(nearest ((e : Rat) / 4)))))
  let s := s.when bad (fun s => ((s.put (F.REC_PU_STATUS_WCLK_LOCK n) 0).modPuRec n (fun p => { p with wclkGood := 0 })).shutGates n (some 4))
  if s.streaming n then
    let run := (s.puRec n).run
    let t := run.bits
    let zone := ((s.disc (n.val / 2)).zoneOf ((s.streamIndex n (t / 50176)).getD 0)).1
    let change := run.zone != some zone
    let rate := rateWord freq
    let s := s.when change (fun s => ((s.lddWrite n Driver.rate rate).put (F.REC_PU_RATE_RATE n) rate).modRun n (fun r => { r with zone := some zone }))
    let s := (s.sendCb n t change).sendCb n (t + 128) false
    .next (((s.advanceStream n (t + 256)).segmentStart n).showGates n)
  else if s.fld (F.REC_PU_STATUS_STATE n) = 3 then
    let blank := 0 :: List.replicate 64 0
    .next ((s.ldd n 0x01 blank).ldd n 0x01 blank)
  else .next s

/-- WCLK_LOCKED: 16 wobble periods in a row within LOCK_MAX. -/
def execWclkLocked (n : Fin 16) (s : State) : Res :=
  if 16 ≤ (s.puRec n).wclkGood then .next (s.put (F.REC_PU_STATUS_WCLK_LOCK n) 1) else .next s

/-- The earliest blank position of the run's unfinished blocks, in the order in which it is passed (R289). -/
def State.firstBlank (s : State) (n : Nat) : Option Nat :=
  let d := s.disc (n / 2)
  let layer := (s.puRec n).run.layer
  let blanks := (s.runBlocks n).flatMap (fun r => ((List.range 72).filter (fun j => !(r.played.contains j || r.cut.contains j))).map
    (fun j => (d.sectorIndex r.b j).2))
  leastBy (fun i => if d.falls layer then 2 ^ 26 - i else i) blanks

/-- RECORDING_RESUME: the pickup follows again, and the stream starts at the earliest blank position; it takes no further block. -/
def execRecordingResume (n : Fin 16) (s : State) : Res :=
  let run := (s.puRec n).run
  if run.active = false ∨ run.faulted = false ∨ s.mayRecord n = false then .next s
  else
    match s.firstBlank n with
    | none => .next (s.modRun n (fun x => { x with faulted := false }))
    | some i =>
      let s := (s.lddWrite n Driver.mode 2).modRun n (fun x => { x with faulted := false, first := i, bits := 0, zone := none, closed := true })
      .next (s.launch n)

/-- BLOCK_RECORDED: the last frame of a block of the run has been played. -/
def execBlockRecorded (n : Fin 16) (s : State) : Res :=
  match (s.runBlocks n).find? (fun r => r.whole) with
  | some r => .next (s.blockRecorded r)
  | none => .next s

/-- The pickup's state between runs (R280, R296): waiting while the station still has blocks or WRITEs to record, else idle. -/
def State.restRecording (s : State) (n : Nat) : State :=
  let more := s.recording.blocks.any (fun r => r.pickup == n && !r.recorded) ||
    (s.stationCmds (n / 2)).any (fun e => decide (e.2.op = Op.write) && decide (e.2.phase = .admitted))
  s.put (F.REC_PU_STATUS_STATE n) (if more then 5 else 0)

/-- RUN_END: every block taken has ended; the pickup waits for the next block, or is idle. -/
def execRunEnd (n : Fin 16) (s : State) : Res :=
  let run := (s.puRec n).run
  if run.active = false ∨ run.blocks.isEmpty = false then .next s
  else
    let s := (s.modRun n (fun _ => {})).modPickup n (fun y => { y with gates := 0 })
    .next (((s.lddWrite n Driver.mode 1).restRecording n).applySelect n)

/-! ## The verify pass (R293) -/

def verifyName (n : Nat) : Nat := 2 ^ 34 + n

/-- The seal checks of a block that has been read back: sealed sectors that were confirmed go to the engines. -/
def State.startTagChecks (s : State) (r : RecBlock) (e : Nat) : State :=
  let left := (r.seals.map (fun x => x.1)).filter (fun j => ((s.entry e).sector j).st == .confirmed)
  let s := s.setRecBlock { r with tagLeft := some left }
  s.forEach left (fun s j =>
    let o := Table.at {} r.seals j
    s.addWork { cmd := o.cmd, kind := .passSector, unit := r.block * 64 + j, entry := e, sector := j
                blocks := sectorBlocks .passSector, slot := o.slot, gen := o.gen })

/-- A block's verification judged (R293): its quality record is filled, and it is settled. -/
def State.judgeBlock (s : State) (r : RecBlock) (e : Nat) : State :=
  let secs := (List.range 64).map (fun j => (s.entry e).sector j)
  let lost (x : CacheSector) : Bool := x.st != .confirmed
  let badIdx := (List.range 64).filter (fun j => lost ((s.entry e).sector j) || r.tagBad.contains j)
  let marginal := (secs.filter (fun x => x.st == .confirmed && decide (2 ≤ x.outcome) && decide (x.outcome ≤ 4))).length
  let fails := !badIdx.isEmpty || decide (s.fld F.REC_VERIFY_CFG_MARGIN < marginal)
  let outs := secs.map (fun x => if x.st = .confirmed then x.outcome else if x.st = .blank then 5 else 6)
  let psa := (s.disc r.station).sectorPsa r.side r.layer r.b 0
  let s := s.when fails (fun s => s.raise (F.REC_PU_STATUS_VERIFY_FAIL r.pickup) 0x0603 (srcPickup r.pickup)
    ([r.pickup, badIdx.length, 0, 0] ++ leBytes 4 psa))
  let s := (s.writeQuality r (some outs) fails).freeEntry e
  s.endRecBlock r (r.failed || fails)

/-- A block that awaits its verify pass goes on: it takes an entry and is read, its seal tags are checked, it is judged. -/
def State.verifyBlock (s : State) (n : Nat) (r : RecBlock) : State :=
  match r.verEntry with
  | none =>
    s.allocate (verifyName n) classVerify (fun s e =>
      let s := s.setEntry e { st := .filling, cls := classVerify, mslot := r.mslot, block := r.block, station := r.station }
      (s.startWork e r.station r.mslot r.block true false false).setRecBlock { r with verEntry := some e })
  | some e =>
    if (s.entry e).finals 64 < 64 then s
    else
      match r.tagLeft with
      | none => (s.startTagChecks r e).refillEngines
      | some [] => s.judgeBlock r e
      | some _ => s

/-- VERIFY_PASS: SPAN blocks have been recorded under WRITE_VERIFY, or the run has ended; the blocks are read back and judged one after the
other, until none is left. -/
def execVerifyPass (n : Fin 16) (s : State) : Res :=
  let p := s.puRec n
  let mine (s : State) := sortBy (fun r => r.block) (s.recording.blocks.filter (fun r => r.pickup == n.val && r.recorded && r.verifyLeft))
  if (mine s).isEmpty then .next (if p.verifying then (s.modPuRec n (fun p => { p with verifying := false })).restRecording n else s)
  else if p.verifying = false ∧ p.run.active = true then .next s
  else
    let s := (s.modPuRec n (fun p => { p with verifying := true, sinceVerify := 0 })).put (F.REC_PU_STATUS_STATE n) 6
    let s := s.forEach (mine s) (fun s r => s.verifyBlock n r)
    if (mine s).isEmpty then .next ((s.modPuRec n (fun p => { p with verifying := false })).restRecording n) else .next s

end Sys2Proof.Machine
end

