-- ==== Sys2Proof/Machine/Calib.lean ====
section
/-!
DEFINITION. Calibration and trimming: procedures and their ends, what is accepted and kept, station and layer records, power calibration
(R473–R490, R285–R287).
-/
namespace Sys2Proof.Machine

/-! ## Records (R485, R486) -/

/-- The disc set of the disc loaded in a station. -/
def State.loadedSet (s : State) (st : Nat) : Option Nat :=
  let k := s.fld (F.CAL_ST_SETS_LOADED st)
  if k < 8 then some k else none

def State.calSet (s : State) (st k : Nat) : CalSet := Table.at {} s.calib.sets (8 * st + k)
def State.setCalSet (s : State) (st k : Nat) (x : CalSet) : State :=
  let s : State := { s with calib := { s.calib with sets := Table.put {} s.calib.sets (8 * st + k) x } }
  s.put (F.CAL_ST_SETS_HELD st) ((List.range 8).filter (fun i => (s.calSet st i).held)).length

/-- The layer record of a side and layer of the loaded disc; [] where there is none. -/
def State.layerRecord (s : State) (st side layer : Nat) : List Nat :=
  match s.loadedSet st with
  | some k => Table.at [] (s.calSet st k).layers (8 * side + layer)
  | none => []

def State.setLayerRecord (s : State) (st side layer : Nat) (r : List Nat) : State :=
  match s.loadedSet st with
  | some k =>
    let x := s.calSet st k
    s.setCalSet st k { x with layers := Table.put [] x.layers (8 * side + layer) r }
  | none => s

/-- The set of a loaded disc: the one that it has, a free one, or the least recently loaded (R485). -/
def State.bindSet (s : State) (st : Nat) (d : DiscInfo) : State :=
  let most := max 1 (min 8 (s.fld F.CAL_CFG_DISC_SETS))
  let order := s.calib.loads + 1
  let s : State := { s with calib := { s.calib with loads := order } }
  let have_ := (List.range 8).find? (fun k => (s.calSet st k).held && (s.calSet st k).discId == d.discId && (s.calSet st k).generation == d.generation)
  let free := (List.range most).find? (fun k => !(s.calSet st k).held)
  let old := leastBy (fun k => (s.calSet st k).used) (List.range most)
  match have_ with
  | some k => (s.setCalSet st k { s.calSet st k with used := order }).put (F.CAL_ST_SETS_LOADED st) k
  | none =>
    let k := match free with
      | some k => k
      | none => old.getD 0
    (s.setCalSet st k { held := true, discId := d.discId, generation := d.generation, used := order }).put (F.CAL_ST_SETS_LOADED st) k

/-- Bytes [at_, at_ + len) of a record replaced. -/
def patch (r : List Nat) (at_ : Nat) (bs : List Nat) : List Nat := r.take at_ ++ bs ++ r.drop (at_ + bs.length)

/-- The word of a lane register (R243). -/
def State.laneWord (s : State) (bc : Nat) (r : LaneReg) : Nat := (laneRegFields bc r).foldl (fun a f => a + s.fld f.1 * 2 ^ f.2) 0

/-- The 240 bytes of a lane in a layer record (R486). -/
def State.laneBytes (s : State) (bc eye mse : Nat) : List Nat :=
  let coefs := (List.range 60).flatMap (fun i => leBytes 2 (ofSigned 16 (s.sfld (F.RCH_COEF_C bc i))))
  padTo 240 (coefs ++ leBytes 2 (s.laneWord bc .vga) ++ leBytes 2 (s.laneWord bc .ctf) ++ leBytes 2 (s.laneWord bc .offset) ++
    leBytes 2 (s.laneWord bc .dgain) ++ leBytes 2 (s.laneWord bc .asym) ++ leBytes 4 (s.laneWord bc .target) ++
    [s.fld (F.RCH_LLR_LLR_SCALE bc), eye] ++ leBytes 2 mse)

/-- PW and PM of the emitters as a layer record holds them: for each emitter PW, then PM. -/
def powerBytes (pw pm : List Nat) : List Nat := (List.range 4).flatMap (fun k => leBytes 2 (pw.getD k 0) ++ leBytes 2 (pm.getD k 0))

/-- The first bytes of a layer record: its disc, side and layer, and its bits. -/
def recordHead (d : DiscInfo) (side layer bits : Nat) : List Nat := leBytes 8 d.discId ++ [d.generation, side + 2 * layer + bits, 0, 0]

/-- The layer record written by an Espresso calibration (R478 step 6). -/
def State.writeLayerRecord (s : State) (n layer : Nat) (kept : Bool) (eye mse : List Nat) : State :=
  let st := n / 2
  let old := s.layerRecord st (n % 2) layer
  let power := bitsOf (old.getD 9 0) 5 1
  let lanes := (List.range 4).flatMap (fun k => s.laneBytes (4 * n + k) (eye.getD k 0) (mse.getD k 0))
  let low := (eye.take 4).foldl min (eye.headD 0)
  let high := (mse.take 4).foldl max 0
  let r := recordHead (s.disc st) (n % 2) layer (16 + 32 * power + 64 * b2n kept) ++ leBytes 4 (s.fld (F.SRV_LOOP_OFFSET_OFFSET n 0)) ++
    leBytes 4 (s.fld (F.SRV_LOOP_OFFSET_OFFSET n 2)) ++ leBytes 8 s.ct ++ padTo 16 ((old.drop 28).take 16) ++ [low, 0] ++ leBytes 2 high ++
    List.replicate 16 0 ++ lanes
  s.setLayerRecord st (n % 2) layer (padTo 1024 r)

/-! ## Beginning and end of a procedure (R475, R483, R489, R490) -/

/-- A procedure begins on a pickup. -/
def State.startProc (s : State) (n proc layer : Nat) (cmd : Option Nat) : State :=
  let s := (s.setCalRun n { proc := proc, layer := layer, cmd := cmd }).showCal (n / 2)
  if proc = 1 then s.holdLanes n else s

/-- A procedure ends on a pickup: its rejected mask, its events and its counts. -/
def State.endProc (s : State) (n rejected eye mse : Nat) : State :=
  let st := n / 2
  let r := s.calRun n
  let head := [st, r.proc, n, r.layer]
  let s := s.put (if n % 2 = 0 then F.CAL_ST_REJECT_TOP st else F.CAL_ST_REJECT_BOTTOM st) rejected
  let s := s.when (rejected != 0) (fun s =>
    (s.raise (F.CAL_ST_STATUS_REJECTED st) 0x0D02 (srcStation st) (head ++ leBytes 2 rejected)).count (F.CAL_ST_REJECTS_LO_COUNT st)
      (F.CAL_ST_REJECTS_HI_COUNT st) (popCount 16 rejected))
  let s := s.raise (F.CAL_ST_STATUS_DONE st) 0x0D01 (srcStation st) (head ++ leBytes 2 eye ++ leBytes 2 mse)
  let s := s.count (F.CAL_ST_RUNS_LO_COUNT st) (F.CAL_ST_RUNS_HI_COUNT st) 1
  let s := (s.setCalRun n {}).showCal st
  (s.modPickup n (fun y => { y with goal := none, reached := none })).checkBelay n

/-- What a procedure has found on a pickup: accepted and rejected masks of R487, lowest EYE and highest MSE. -/
structure CalMask where
  accepted : Nat := 0
  rejected : Nat := 0
  eye : Nat := 0
  mse : Nat := 0
  deriving DecidableEq, Repr

/-- A quantity judged. -/
def CalMask.judge (m : CalMask) (bit : Nat) (ok : Bool) : CalMask :=
  if ok then { m with accepted := m.accepted ||| 2 ^ bit } else { m with rejected := m.rejected ||| 2 ^ bit }

/-! ## Beam ADC trim (R477, R482) -/

/-- A trim met its target and its code is at neither end of its range. -/
def trimOk (met : Bool) (code top : Nat) : Bool := met && decide (0 < code) && decide (code < top)

/-- The half of the station record that a pickup has, or what the image gives it. -/
def State.pickupRecord (s : State) (n : Nat) : List Nat :=
  let r := Table.at [] s.calib.pickups n
  if r.isEmpty then (List.range 512).map (fun i => if 32 ≤ i ∧ i < 38 ∨ 96 ≤ i ∧ i < 128 then Config.trimDefault n i % 256 else 0) else r

def State.setPickupRecord (s : State) (n : Nat) (r : List Nat) : State :=
  { s with calib := { s.calib with pickups := Table.put [] s.calib.pickups n (padTo 512 r) } }

/-- The trims of a pickup's beams taken into its record; a rejected one keeps its code. -/
def trimBeams (r : List Nat) (beams : List BeamTrim) : List Nat :=
  (List.range 4).foldl (fun (r : List Nat) k =>
    match beams[k]? with
    | none => r
    | some b =>
      let at_ := 96 + 8 * k
      let r := if trimOk b.offsetMet b.offset 63 then patch r at_ [b.offset % 64] else r
      let r := if trimOk b.gainMet b.gain 31 then patch r (at_ + 1) [b.gain % 32] else r
      let r := if trimOk b.ctfMet b.ctf 127 then patch r (at_ + 2) [b.ctf % 128] else r
      if 104 ≤ b.enob then patch r (at_ + 3) [min 255 b.enob] else r) r

/-- Beam ADC trim of a pickup's beams. -/
def State.applyTrim (s : State) (n : Nat) (beams : List BeamTrim) (m : CalMask) : State × CalMask :=
  let bs := beams.take 4
  let m := m.judge 0 (bs.all (fun b => trimOk b.offsetMet b.offset 63))
  let m := m.judge 1 (bs.all (fun b => trimOk b.gainMet b.gain 31))
  let m := m.judge 2 (bs.all (fun b => trimOk b.ctfMet b.ctf 127))
  let m := m.judge 3 (bs.all (fun b => decide (104 ≤ b.enob)))
  (s.setPickupRecord n (trimBeams (s.pickupRecord n) bs), m)

/-! ## Espresso calibration (R478, R482, R483) -/

/-- The vertex of the parabola through the lowest of a list of metrics and its neighbours, in steps from the middle one; none where it does
not open upward inside the swept range. -/
def vertexOf (ys : List Rat) : Option Rat :=
  let low := ys.foldl (fun (a : Rat) y => if y < a then y else a) (ys.headD 0)
  let i := ys.findIdx (fun y => y == low)
  if i = 0 ∨ ys.length ≤ i + 1 then none
  else
    let a := ys.getD (i - 1) 0
    let b := ys.getD i 0
    let c := ys.getD (i + 1) 0
    let k := a - 2 * b + c
    if k ≤ 0 then none
    else some (((i : Nat) : Rat) - ((ys.length / 2 : Nat) : Rat) + (a - c) / (2 * k))

/-- An offset moved to its optimum. -/
def State.moveOffset (s : State) (n l step : Nat) (v : Option Rat) : State :=
  match v with
  | none => s
  | some x =>
    let f := F.SRV_LOOP_OFFSET_OFFSET n l
    s.sput f (satSigned 32 (nearest ((s.sfld f : Rat) + x * ((step * 16384 : Nat) : Rat))))

/-- Espresso calibration of a layer by a pickup. -/
def State.applyEspresso (s : State) (n layer : Nat) (r : EspressoRun) (m : CalMask) : State × CalMask :=
  let foc := vertexOf (padRat 5 r.focus)
  let tilt := vertexOf (padRat 3 r.tilt)
  let s := s.moveOffset n 0 (s.fld F.CAL_STEP_FOC_STEP) foc
  let s := s.moveOffset n 2 (s.fld F.CAL_STEP_TILT_STEP) tilt
  let ok := (List.range 4).all (fun k => decide (r.mse.getD k 0 ≤ s.fld (F.RCH_QUAL_LIM_MSE_MAX (4 * n + k))))
  let s := if ok then s else (s.modPickup n (fun y => { y with laneLayer := none })).loadLanes n
  let s := s.writeLayerRecord n layer (!ok) r.eye r.mse
  let m := (m.judge 13 foc.isSome).judge 14 (tilt.isSome && ok)
  let low := (r.eye.take 4).foldl min (r.eye.headD 0)
  (s, { m with eye := if m.eye = 0 then low else min m.eye low, mse := max m.mse ((r.mse.take 4).foldl max 0) })
where
  padRat (n : Nat) (xs : List Rat) : List Rat := (xs ++ List.replicate (n - xs.length) 0).take n

/-! ## Power calibration (R285–R287) -/

/-- The power at which β crosses its target between adjacent steps, in 0.01 mW: the first crossing. `p`: the layer's REC_POWER in 0.1 mW. -/
def betaPower (target : Rat) (p : Nat) (levels : List (Rat × Rat)) : Option Nat :=
  let beta (t : Nat) : Rat := let l := levels.getD t (0, 0); ratio (l.1 + l.2) (l.1 - l.2)
  let power (t : Nat) : Rat := (10 * p : Nat) * ((70 + 3 * t : Nat) : Rat) / 100
  let t? := (List.range 18).find? (fun t => (decide (beta t ≤ target) && decide (target ≤ beta (t + 1))) ||
    (decide (target ≤ beta t) && decide (beta (t + 1) ≤ target)))
  match t? with
  | none => none
  | some t =>
    let d := beta (t + 1) - beta t
    let x := if d = 0 then 0 else (target - beta t) / d
    some (nearest (power t + x * (power (t + 1) - power t))).toNat

/-- The next revolution of the calibration area: known, or found by the probes (R287). -/
def State.pcaRevolution (s : State) (n layer : Nat) (used : List Bool) : Option Nat :=
  match Table.at 0 (s.puRec n).pcaNext layer with
  | 0 => (searchFirst 32 0 1000 0 used).map (fun x => x.1)
  | q + 1 => some q

/-- How an attempt of power calibration ends. -/
inductive PowerEnd where
  | unfinished        -- the search has no answer yet, or a first attempt has failed
  | done (ok : Bool)
  deriving DecidableEq, Repr

/-- One attempt of power calibration on a layer. -/
def State.powerAttempt (s : State) (n layer : Nat) (r : PowerRun) : State × PowerEnd :=
  match s.pcaRevolution n layer r.used with
  | none => (s, .unfinished)
  | some q =>
    let d := s.disc (n / 2)
    let psa := psaOf (n % 2) layer 0 (pcaBase + 57 * q)
    let none_ := (Table.at [] (s.puRec n).calPw layer).isEmpty
    let giveUp (s : State) : State :=
      let s := s.modPuRec n (fun p => { p with
        calRetry := false, calFailed := if none_ && !p.calFailed.contains layer then p.calFailed ++ [layer] else p.calFailed })
      s.breakUnrecordable
    if 1000 ≤ q then (giveUp s, .done false)
    else
      let s := s.modPuRec n (fun p => { p with pcaNext := Table.put 0 p.pcaNext layer (q + 2) })
      let s := (s.put (F.REC_PU_PCA_NEXT n) (q + 1)).put (F.REC_PU_PCA_KNOWN n) 1
      let s := s.when (q == 999) (fun s => s.raise (F.REC_PU_STATUS_PCA_FULL n) 0x0605 (srcPickup n) ([n, layer, 0, 0] ++ leBytes 4 psa))
      let target : Rat := (s.sfld F.REC_OPC_CFG_BETA_TARGET : Rat) / 256
      let ps := (List.range 4).map (fun k => betaPower target (d.recPower.getD layer 0) (r.levels.getD k []))
      let bad := (List.range 4).foldl (fun a k => if (ps.getD k none).isNone then a + 2 ^ k else a) (0 : Nat)
      if bad = 0 then
        let pw := ps.map (fun p => min 65535 (p.getD 0))
        let s := s.modPuRec n (fun p => { p with
          calPw := Table.put [] p.calPw layer pw, calPm := Table.put [] p.calPm layer pw
          calTemp := Table.put 0 p.calTemp layer (s.pickup n).lddTemp, fmdRef := (List.range 4).map (fun g => r.fmd.getD g 0)
          calRetry := false, calFailed := p.calFailed.filter (fun l => l != layer)
          banks := p.banks.map (fun b => if b.2.layer = layer then (b.1, ({ b.2 with held := false } : LddBank)) else b) })
        let old := s.layerRecord (n / 2) (n % 2) layer
        let base := if old.isEmpty then padTo 1024 (recordHead d (n % 2) layer 0) else old
        let s := s.setLayerRecord (n / 2) (n % 2) layer (patch (patch base 9 [base.getD 9 0 ||| 32]) 28 (powerBytes pw pw))
        (s, .done true)
      else if (s.puRec n).calRetry = false ∧ q < 999 then (s.modPuRec n (fun p => { p with calRetry := true }), .unfinished)
      else
        let s := s.raise (F.REC_PU_STATUS_CAL_FAIL n) 0x0604 (srcPickup n) ([n, bad, 0, 0] ++ leBytes 4 psa)
        (giveUp s, .done false)

/-- POWER_CALIBRATION before a run: the layer has no value of this load, or the temperature has moved (R285). Each command is one attempt. -/
def execPowerCalibration (n : Fin 16) (layer : Fin 8) (run : PowerRun) (s : State) : Res :=
  let st := n.val / 2
  let due := s.recording.blocks.any (fun r => r.pickup == n.val && r.layer == layer.val && !r.recorded) &&
    !s.powerValid n layer.val && !(s.puRec n).calFailed.contains layer.val
  let r := s.calRun n
  if (s.station st).disc.isNone = true ∨ s.puState n ≠ Pu.follow ∨ s.streaming n = true ∨ s.flag (F.SRV_LDD_STATUS_LINK_UP n) = false ∨
      due = false ∨ (r.proc ≠ 0 ∧ (r.proc ≠ 3 ∨ r.cmd.isSome = true)) then .next s
  else
    let s := if r.proc = 0 then s.startProc n 3 layer.val none else s
    let s := s.put (F.REC_PU_STATUS_STATE n) 2
    match s.powerAttempt n layer.val run with
    | (s, .unfinished) => .next s
    | (s, .done ok) => .next ((s.endProc n (if ok then 0 else 0x8000) 0 0).put (F.REC_PU_STATUS_STATE n) 0)

/-! ## Full calibration (R480–R483) -/

/-- A loop's gain trimmed (R481). -/
def State.trimGain (s : State) (n l : Nat) (m : LoopMeasure) (mask : CalMask) : State × CalMask :=
  let ok := decide (1 / 4 ≤ m.gain) && decide (m.gain ≤ 4) && decide (25 ≤ m.margin)
  let f := F.SRV_LOOP_GAIN_C n l
  (if ok then s.sput f (satSigned 32 (nearest (ratio (s.sfld f : Rat) m.gain))) else s, mask.judge (9 + l) ok)

/-- Dark offsets and DAC offsets judged; the dark offsets within their limit take effect. -/
def State.fullOffsets (s : State) (n : Nat) (r : FullRun) (m : CalMask) : State × CalMask :=
  let darkOk (i : Nat) : Bool := decide (r.dark.getD i 0 ≤ 3200)
  let dacOk (i : Nat) : Bool := decide (0 < r.dac.getD i 0) && decide (r.dac.getD i 0 < 255)
  (s.forEach (List.range 10) (fun s i => if darkOk i then s.put (F.SRV_DARK_OFFSET n i) (r.dark.getD i 0) else s),
    (m.judge 4 ((List.range 10).all darkOk)).judge 5 ((List.range 3).all dacOk))

/-- The pickup's record with the DAC offsets that are within their limits. -/
def dacRecord (r : FullRun) (old : List Nat) : List Nat :=
  (List.range 3).foldl (fun (x : List Nat) i =>
    if 0 < r.dac.getD i 0 ∧ r.dac.getD i 0 < 255 then patch x (32 + 2 * i) (leBytes 2 (r.dac.getD i 0)) else x) old

/-- The read-power ratios with which the four emitters give equal FMD, where each lies within its limits. -/
def fullRatios (r : FullRun) : Option (List Nat) :=
  let inv := (List.range 4).map (fun k => let f := r.fmd.getD k 0; if 0 < f then 1 / f else 0)
  let mean := (inv.foldl (fun (a : Rat) x => a + x) 0) / 4
  let ratios := inv.map (fun x => if mean = 0 then 0 else x / mean)
  if ratios.all (fun x => decide (4 / 5 ≤ x) && decide (x ≤ 5 / 4)) then some (ratios.map (fun x => (nearest (x * 4096)).toNat)) else none

/-- K_DPP and K_LENS. -/
def State.fullFactors (s : State) (n : Nat) (r : FullRun) (m : CalMask) : State × CalMask :=
  let kd := if r.ripple.2 = 0 then 0 else -(r.ripple.1 / r.ripple.2)
  let kdOk := decide (1 / 2 ≤ kd) && decide (kd ≤ 2)
  let s := if kdOk then s.put (F.SRV_ERR_CFG_K_DPP n) (nearest (kd * 16384)).toNat else s
  let kl := if r.lens.2 = 0 then 2 else r.lens.1 / r.lens.2
  let klOk := decide (-1 ≤ kl) && decide (kl ≤ 1)
  (if klOk then s.sput (F.SRV_ERR_CFG2_K_LENS n) (nearest (kl * 16384)) else s, (m.judge 7 kdOk).judge 8 klOk)

/-- The gains of FOCUS, TRACK and TILT. -/
def State.fullGains (s : State) (n : Nat) (r : FullRun) (m : CalMask) : State × CalMask :=
  [0, 1, 2].foldl (fun (a : State × CalMask) l =>
    match r.loops[l]? with
    | some x => a.1.trimGain n l x a.2
    | none => a) (s, m)

/-- BAE references. -/
def State.fullBae (s : State) (n : Nat) (r : FullRun) (m : CalMask) : State × CalMask :=
  let slope := nearest ((r.bae.2 - r.bae.1) * 34 / 33)
  let ref0 := nearest (r.bae.1 - (r.bae.2 - r.bae.1) * 34 / 33 / 68)
  let warn := s.fld (F.SRV_BAE_LIM_WARN n)
  let ok := decide (ref0.natAbs ≤ warn) && decide ((ref0 + slope).natAbs ≤ warn)
  (if ok then ((s.sput (F.SRV_BAE_REF_REF0 n) ref0).sput (F.SRV_BAE_REF_REF_SLOPE n) slope).modPickup n
    (fun y => { y with baeBarred := false, baeGood := 0 }) else s, m.judge 12 ok)

/-- A pickup's half of the station record, from the register values in force (R486). -/
def State.fullRecord (s : State) (n : Nat) (r : FullRun) (rec1 words : List Nat) : List Nat :=
  let xs := (List.range 4).map (fun l => match r.loops[l]? with | some x => (min 65535 x.crossover, x.margin) | none => (0, 0))
  let body := [1, n, 0, 0] ++ leBytes 8 s.ct ++ (List.range 10).flatMap (fun i => leBytes 2 (s.fld (F.SRV_DARK_OFFSET n i))) ++
    (rec1.drop 32).take 6 ++ leBytes 2 (s.fld (F.SRV_ERR_CFG_K_DPP n)) ++ leBytes 2 (s.fld (F.SRV_ERR_CFG2_K_LENS n)) ++
    leBytes 2 (s.fld (F.SRV_BAE_REF_REF0 n)) ++ leBytes 2 (s.fld (F.SRV_BAE_REF_REF_SLOPE n)) ++ words.flatMap (leBytes 2) ++
    (List.range 4).flatMap (fun l => leBytes 4 (s.fld (F.SRV_LOOP_GAIN_C n l))) ++ xs.flatMap (fun x => leBytes 2 x.1) ++
    xs.map (fun x => ofSigned 8 (satSigned 8 x.2))
  padTo 96 body ++ (rec1.drop 96).take 32

/-- Full calibration of a pickup: every quantity judged and applied, its records written. -/
def State.applyFull (s : State) (n : Nat) (r : FullRun) : State × CalMask :=
  let a := s.applyTrim n r.beams {}
  let a := a.1.fullOffsets n r a.2
  let rec1 := dacRecord r (a.1.pickupRecord n)
  let words := (fullRatios r).getD ((List.range 4).map (fun k => a.1.readRatio n k))
  let a := a.1.fullFactors n r (a.2.judge 6 (fullRatios r).isSome)
  let a := a.1.fullGains n r a.2
  let a := a.1.fullBae n r a.2
  let s := (a.1.setPickupRecord n (a.1.fullRecord n r rec1 words)).sendReadPower n
  ((List.range (s.disc (n / 2)).layers).zip r.layers).foldl (fun (b : State × CalMask) e => b.1.applyEspresso n e.1 e.2 b.2) (s, a.2)

/-! ## CALIBRATE (R487) -/

def CmdId.calProc (i : CmdId) : Nat := i.body.getD 2 0
def CmdId.calLayer (i : CmdId) : Nat := i.body.getD 3 0 % 8

/-- The pickups that a CALIBRATE selects. -/
def Cmd.calPickups (c : Cmd) : List Nat :=
  [0, 1].filterMap (fun k => if (c.id.body.getD 1 0).testBit k then some (2 * c.station + k) else none)

/-- Why a CALIBRATE is refused when it is admitted. -/
def State.calRefusal (s : State) (c : Cmd) : Option Nat :=
  let proc := c.id.calProc
  let len := c.data.src.foldl (fun a e => a + e.len) (0 : Nat)
  let x := s.station c.station
  if c.calPickups.isEmpty = true ∨ proc = 0 ∨ 4 < proc ∨ (len ≠ 0 ∧ len ≠ 64) then some Status.invalidField
  else if proc ≠ 1 ∧ x.disc.isNone then some Status.mediaAbsent
  else if (proc = 2 ∨ proc = 3) ∧ (s.disc c.station).layers ≤ c.id.calLayer then some Status.invalidField
  else if proc = 3 ∧ (s.disc c.station).s4 = true then some Status.invalidCommand
  else none

/-- Full calibration starts from spindle at speed and pickups in OFF (R480). -/
def State.startFull (s : State) (st : Nat) (ns : List Nat) (cmd : Option Nat) : State :=
  let s := s.forEach ns (fun s n => ((s.enter n Pu.off).modPickup n (fun y => { y with
    goal := none, reached := none, recovering := false, startReq := false, layer := 0 })).startProc n 4 0 cmd)
  let s := s.when (s.spnState st == Spn.off) (fun s => s.writeRun st true)
  s.forEach ns (fun s n => s.wakePickup n)

/-- A CALIBRATE begins: pickups in FAULT leave it, the spindle is started where the procedure needs rotation, and a pickup whose layer is to
be calibrated is sent there. -/
def State.calBegin (s : State) (h : Nat) : State :=
  let c := s.cmd h
  let proc := c.id.calProc
  let st := c.station
  let layer := if proc = 2 ∨ proc = 3 then c.id.calLayer else 0
  let s := (s.modCmd h (fun c => { c with started := true }))
  if proc = 4 then s.startFull st c.calPickups (some h)
  else
    let s := s.forEach c.calPickups (fun s n => (if s.puState n = Pu.fault then s.enter n Pu.off else s).startProc n proc layer (some h))
    if proc = 1 then s
    else
      let s := s.when (s.spnState st == Spn.off) (fun s => s.writeRun st true)
      s.forEach c.calPickups (fun s n =>
        let q := (Table.at 1 (s.puRec n).pcaNext layer) - 1
        let target := if proc = 3 then psaOf (n % 2) layer 0 (pcaBase + 57 * q) else psaOf (n % 2) layer 0 (psaIndex ((s.pickup n).confirmed.getD 0))
        (s.modPickup n (fun y => { y with goal := some target, reached := none })).wakePickup n)

/-- The 64 bytes of a CALIBRATE's result, and its completion. -/
def State.calFinish (s : State) (h : Nat) (ms : List (Nat × CalMask)) : State :=
  let c := s.cmd h
  let mask (k : Nat) : CalMask := match ms.find? (fun m => m.1 % 2 == k) with
    | some m => m.2
    | none => {}
  let eyes := (ms.map (fun m => m.2.eye)).filter (fun e => e != 0)
  let bytes := [c.id.calProc, c.id.body.getD 1 0 % 4, c.id.calLayer, 0] ++ leBytes 2 (mask 0).accepted ++ leBytes 2 (mask 1).accepted ++
    leBytes 2 (mask 0).rejected ++ leBytes 2 (mask 1).rejected ++ [0, 0, 0, 0] ++ leBytes 8 s.ct ++ [eyes.foldl min (eyes.headD 0), 0] ++
    leBytes 2 ((ms.map (fun m => m.2.mse)).foldl max 0)
  let s := s.forEach ms (fun s m => s.endProc m.1 m.2.rejected m.2.eye m.2.mse)
  let len := c.data.src.foldl (fun a e => a + e.len) 0
  if len = 0 then s.finish h { status := Status.success }
  else
    match c.origin with
    | .ring => (s.emitAll (s.bufferWrites c.id.fn c.data.src 0 (padTo 64 bytes) false)).finish h { status := Status.success, done := 64 }
    | .chain _ tag =>
      let granted := s.mbl.grants.any (fun g => g.tag == tag && !g.mine) ||
        s.mbl.inbox.any (fun e => e.packet.type == Pkt.xferRdy && e.packet.tag == tag)
      if granted then s.modCmd h (fun c => { c with data := { c.data with plain := Table.put [] c.data.plain 0 (padTo 64 bytes) } })
      else s.finish h { status := Status.success }

/-- Every pickup of a procedure can end it: it is where the procedure needs it. -/
def State.calReady (s : State) (c : Cmd) : Bool :=
  let proc := c.id.calProc
  c.calPickups.all (fun n =>
    let r := s.calRun n
    r.proc == proc && (proc == 1 || (s.puState n == Pu.follow && s.flag (F.SPN_STATE_AT_SPEED c.station) &&
      (proc == 4 || s.fld (F.SRV_PU_STATE_LAYER n) == r.layer))))

/-- A CALIBRATE of a procedure: begun by its first command, ended by one that carries the measurements of its pickups. -/
def State.calibrate {α : Type} (s : State) (h proc : Nat) (found : List α) (apply : State → Nat → α → State × CalMask) : State :=
  let c := s.cmd h
  if c.op ≠ Op.calibrate ∨ c.phase ≠ .admitted ∨ c.id.calProc ≠ proc then s
  else if c.started = false then
    match s.calRefusal c with
    | some st => s.refuse h st
    | none => s.calBegin h
  else if s.calReady c = false ∨ found.length < c.calPickups.length then s
  else
    let go := (c.calPickups.zip found).foldl (fun (a : State × List (Nat × CalMask)) e =>
      let r := apply a.1 e.1 e.2
      (r.1, a.2 ++ [(e.1, r.2)])) (s, [])
    go.1.calFinish h go.2

def execCalibrateAdcTrim (h : Nat) (trims : List (List BeamTrim)) (s : State) : Res :=
  .next (s.calibrate h 1 trims (fun s n b => s.applyTrim n b {}))

def execCalibrateEspresso (h : Nat) (runs : List EspressoRun) (s : State) : Res :=
  .next (s.calibrate h 2 runs (fun s n r => s.applyEspresso n (s.calRun n).layer r {}))

/-- CALIBRATE with PROCEDURE 3: each command after the first is an attempt on every pickup that has not ended. -/
def execCalibratePower (h : Nat) (runs : List PowerRun) (s : State) : Res :=
  let c := s.cmd h
  if c.op ≠ Op.calibrate ∨ c.phase ≠ .admitted ∨ c.id.calProc ≠ 3 ∨ c.started = false then
    .next (s.calibrate h 3 ([] : List PowerRun) (fun s _ _ => (s, {})))
  else if s.calReady c = false ∨ runs.length < c.calPickups.length ∨
      c.calPickups.any (fun n => !s.flag (F.SRV_LDD_STATUS_LINK_UP n)) = true then .next s
  else
    let layer := c.id.calLayer
    let ended (s : State) (n : Nat) : Option Bool := match (s.cmd h).data.verdict.find? (fun v => v.1 == n) with
      | some v => some (v.2 == 1)
      | none => none
    let s := (c.calPickups.zip runs).foldl (fun (s : State) e =>
      if (ended s e.1).isSome then s
      else
        match s.powerAttempt e.1 layer e.2 with
        | (s, .unfinished) => s
        | (s, .done ok) => s.modCmd h (fun c => { c with data := { c.data with verdict := Table.put 0 c.data.verdict e.1 (if ok then 1 else 2) } })) s
    if c.calPickups.all (fun n => (ended s n).isSome) then
      .next (s.calFinish h (c.calPickups.map (fun n => (n, CalMask.judge {} 15 (ended s n == some true)))))
    else .next s

def execCalibrateFull (h : Nat) (runs : List FullRun) (s : State) : Res :=
  .next (s.calibrate h 4 runs (fun s n r => s.applyFull n r))

/-! ## Automatic Espresso (R476) -/

/-- A layer has no Espresso record for the loaded disc. -/
def State.uncalibrated (s : State) (n : Nat) : Bool :=
  !((s.layerRecord (n / 2) (n % 2) (s.fld (F.SRV_PU_STATE_LAYER n))).getD 9 0).testBit 4

/-- ESPRESSO_AUTO: without measurements it begins on entry to a layer without a record, or by the quality trigger; with them it ends. -/
def execEspressoAuto (n : Fin 16) (run : Option EspressoRun) (s : State) : Res :=
  let st := n.val / 2
  let layer := s.fld (F.SRV_PU_STATE_LAYER n)
  let r := s.calRun n
  if (s.station st).disc.isNone = true ∨ s.puState n ≠ Pu.follow then .next s
  else
    match run with
    | some m =>
      if r.proc = 2 ∧ r.cmd = none ∧ r.layer = layer then
        let e := s.applyEspresso n layer m {}
        .next (e.1.endProc n e.2.rejected e.2.eye e.2.mse)
      else .next s
    | none =>
      if r.proc ≠ 0 ∨ s.streaming n = true ∨ s.flag F.CAL_CFG_ESPRESSO_AUTO = false then .next s
      else if s.uncalibrated n then .next (s.startProc n 2 layer none)
      else
        let low := (List.range 4).any (fun k => s.flag (F.RCH_LANE_STATUS_QUALITY_LOW (4 * n.val + k)))
        let last := Table.at 0 s.calib.qlowAt (8 * n.val + layer)
        let wait := max 1 (s.fld F.CAL_CFG_QLOW_MIN_S) * 1000000000
        if low = true ∧ s.flag F.CAL_CFG_QLOW_EN = true ∧ (last = 0 ∨ last - 1 + wait ≤ s.now) then
          let s : State := { s with calib := { s.calib with qlowAt := Table.put 0 s.calib.qlowAt (8 * n.val + layer) (s.now + 1) } }
          .next (s.startProc n 2 layer none)
        else .next s

end Sys2Proof.Machine
end

