-- ==== Sys2Proof/Machine/Load.lean ====
section
/-!
DEFINITION. LOAD and UNLOAD: the disc format table read from both sides, its acceptance, full calibration at the first LOAD, and the end of
a disc's stay (R61–R66, R331, R375, R476, R562).
-/
namespace Sys2Proof.Machine

/-! ## The station without its disc -/

/-- The spindle is brought to rest by a Rappel stop and the lenses are parked by step 2 of R141; a pickup in FAULT goes to OFF (R129, R562). -/
def State.restStation (s : State) (st : Nat) (leaveFault : Bool) : State :=
  let s := s.forEach [2 * st, 2 * st + 1] (fun s n =>
    let s := s.modPickup n (fun y => { y with goal := none, reached := none })
    if leaveFault = true ∧ s.puState n = Pu.fault then s.enter n Pu.off else s.parkLens n false)
  s.writeRun st false

/-- A LOAD that has read no usable table, or is stopped, also brings its station to rest (R63, R381). -/
def State.stopLoad (s : State) (h status : Nat) : State :=
  let st := (s.cmd h).station
  let s := s.forEach [2 * st, 2 * st + 1] (fun s n => s.setCalRun n {})
  ((s.showCal st).failLoad h status).restStation st false

/-- What belonged to the disc that was loaded is forgotten: frontiers, power values, the disc set in use (R272, R285, R287, R296, R490). -/
def State.forgetDisc (s : State) (st : Nat) : State :=
  let s := { s with recording := { s.recording with frontier := s.recording.frontier.filter (fun e => e.1 / 16 != st) } }
  let s := s.forEach [2 * st, 2 * st + 1] (fun s n =>
    let s := s.modPuRec n (fun p => { p with
      fmdRef := [], calTemp := [], calPw := [], calPm := [], calRetry := false, calFailed := [], pcaNext := [], sinceVerify := 0 })
    let s := (((s.put (F.REC_PU_PW01_PW0 n) 0).put (F.REC_PU_PW01_PW1 n) 0).put (F.REC_PU_PW23_PW2 n) 0).put (F.REC_PU_PW23_PW3 n) 0
    let s := (s.put (F.REC_PU_PCA_NEXT n) 0).put (F.REC_PU_PCA_KNOWN n) 0
    s.modPickup n (fun y => { y with laneLayer := none, confirmed := none, addr := none }))
  (s.modStation st (fun x => { x with lastBlock := none })).put (F.CAL_ST_SETS_LOADED st) 15

/-! ## LOAD -/

/-- The result of a LOAD: GENERATION and format, and DISC_ID in bytes 8–15 (R395). -/
def loadResult (d : DiscInfo) : CmdResult :=
  { status := Status.success, detail := d.generation + 256 * (if d.s4 then 2 else 1), wide := leBytes 8 d.discId }

/-- A LOAD ends well: the disc is loaded. -/
def State.loadDone (s : State) (h : Nat) : State :=
  let st := (s.cmd h).station
  let s := s.modStation st (fun x => { x with state := 3, calibrated := true })
  let s := s.forEach [2 * st, 2 * st + 1] (fun s n => s.modPickup n (fun y => { y with goal := none, reached := none }))
  s.finish h (loadResult (s.disc st))

/-- An admitted LOAD begins: it answers at once for the disc that the station holds, is refused for another, or starts the spindle and the
search for the tables (R63, R141, R562). -/
def State.loadBegin (s : State) (h : Nat) : State :=
  let c := s.cmd h
  let st := c.station
  let m := c.id.mslot
  let x := s.station st
  let ns := [2 * st, 2 * st + 1]
  if x.disc.isSome = true ∧ x.mslot = some m then s.finish h (loadResult (s.disc st))
  else if x.mslot.isSome = true ∧ x.mslot ≠ some m then (s.unbind m).refuse h Status.invalidField
  else if ns.any (fun n => s.puState n == Pu.fault) then s.failLoad h Status.servoFault
  else
    let s := s.modStation st (fun x => { x with state := 2, mslot := some m, disc := none, tables := [], noTable := [] })
    let s := (s.forgetDisc st).modCmd h (fun c => { c with started := true })
    let s := s.forEach ns (fun s n => s.modPickup n (fun y => { y with
      goal := some (psaOf (n % 2) 0 0 (infoZoneBase false)), reached := none, recovering := false, layer := 0 }))
    let s := s.when (s.spnState st == Spn.fault) (fun s => s.writeRun st false)
    let s := s.when (s.spnState st == Spn.off || !s.flag (F.SPN_CTRL_RUN st)) (fun s => (s.put (F.SPN_CTRL_RUN st) 0).writeRun st true)
    s.forEach ns (fun s n => s.wakePickup n)

/-- Position `k` of the information zone of a side's LY0, on a spiral (R47, R61, R66). -/
def infoPsa (side spiral k : Nat) (s4 : Bool) : Nat := psaOf side 0 spiral (infoZoneBase s4 + k)

/-- A copy read at a position is a table of its side: it passes R52 and its TABLE_CRC matches (R63). -/
def copyOk (side spiral k : Nat) (payload : List Nat) : Bool :=
  let t := payloadUser payload
  let s4 := t.take 4 == [0x52, 0x53, 0x34, 0x46]
  decide (payload.length = 4160) && decide (k < if s4 then 32500 else 14750) && (!s4 || spiral == 0) &&
    sectorChecks (infoPsa side spiral k s4) payload && tableCrcOk t

/-- What the tables found on the sides lead to, once every side has yielded one or has none (R63, R64, R66). -/
def State.tablesRead (s : State) (h : Nat) : State :=
  let c := s.cmd h
  let st := c.station
  let x := s.station st
  let t0 := Table.at [] x.tables 0
  let t1 := Table.at [] x.tables 1
  let settled (t : List Nat) (side : Nat) : Bool := !t.isEmpty || x.noTable.contains side
  if settled t0 0 = false ∨ settled t1 1 = false then s
  else if t0.isEmpty = true ∧ t1.isEmpty = true then s.stopLoad h Status.unrecoveredRead
  else if t0.isEmpty = false ∧ t1.isEmpty = false ∧ tablesAgree t0 t1 = false then s.stopLoad h Status.invalidCommand
  else
    let t := if t0.isEmpty then t1 else t0
    if tableAccepted t = false then s.stopLoad h Status.invalidCommand
    else
      let d := discOfTable t
      let s := (s.modStation st (fun x => { x with disc := some d })).bindSet st d
      if x.calibrated then s.loadDone h else s.startFull st [2 * st, 2 * st + 1] (some h)

/-- The pickup of a side reads the information zone: it follows on LY0. -/
def State.readsInfo (s : State) (st side : Nat) : Bool :=
  let n := 2 * st + side
  s.puState n == Pu.follow && s.fld (F.SRV_PU_STATE_LAYER n) == 0

/-- The station's table search is under way. -/
def State.searching (s : State) (h : Nat) : Bool :=
  let c := s.cmd h
  c.op == Op.load && c.phase == .admitted && c.started && (s.station c.station).disc.isNone

/-- A table copy decoded on a side: the first that passes is the side's table. -/
def State.loadCopy (s : State) (h : Nat) (copy : TableCopy) : State :=
  let st := (s.cmd h).station
  let side := copy.side.val
  let bytes := copy.payload.map BitVec.toNat
  let x := s.station st
  if s.searching h = false ∨ s.readsInfo st side = false ∨ (Table.at [] x.tables side).isEmpty = false ∨ x.noTable.contains side = true ∨
      copyOk side copy.spiral copy.index bytes = false then s
  else (s.modStation st (fun x => { x with tables := Table.put [] x.tables side (payloadUser bytes) })).tablesRead h

/-- Full calibration within a LOAD ends with the measurements of both pickups (R476, R480). -/
def State.loadCalibrated (s : State) (h : Nat) (runs : List FullRun) : State :=
  let c := s.cmd h
  let st := c.station
  let ns := [2 * st, 2 * st + 1]
  let ready := ns.all (fun n => (s.calRun n).proc == 4 && (s.calRun n).cmd == some h && s.puState n == Pu.follow)
  if c.phase ≠ .admitted ∨ ready = false ∨ s.flag (F.SPN_STATE_AT_SPEED st) = false ∨ runs.length < 2 then s
  else
    let s := (ns.zip runs).foldl (fun (s : State) e =>
      let r := s.applyFull e.1 e.2
      r.1.endProc e.1 r.2.rejected r.2.eye r.2.mse) s
    s.loadDone h

/-- A LOAD's first command begins it; later ones bring the copies that the sides decode, and the measurements of its full calibration. -/
def State.load (s : State) (h : Nat) (copy : Option TableCopy) (runs : List FullRun) : State :=
  let c := s.cmd h
  if c.op ≠ Op.load ∨ c.phase ≠ .admitted then s
  else if c.started = false then s.loadBegin h
  else
    match copy with
    | some x => s.loadCopy h x
    | none => s.loadCalibrated h runs

def execLoad (h : Nat) (copy : Option TableCopy) (runs : List FullRun) (s : State) : Res :=
  if (s.cmd h).id.formatL then .next s else .next (s.load h copy runs)

/-- L_LOAD is carried out as the LOAD it maps to (R387). -/
def execLLoad (h : Nat) (copy : Option TableCopy) (runs : List FullRun) (s : State) : Res :=
  if (s.cmd h).id.formatL then .next (s.load h copy runs) else .next s

/-- INFO_ZONE_SEARCH_TIMEOUT: the positions of a side's information zone have passed and none has yielded a table (R63). -/
def execInfoZoneSearchTimeout (st : Fin 8) (side : Fin 2) (s : State) : Res :=
  match s.loadOf st with
  | none => .next s
  | some h =>
    let x := s.station st
    if s.searching h = false ∨ s.readsInfo st side = false ∨ (Table.at [] x.tables side).isEmpty = false ∨ x.noTable.contains side.val = true then
      .next s
    else .next ((s.modStation st (fun x => { x with noTable := x.noTable ++ [side.val] })).tablesRead h)

/-! ## UNLOAD -/

/-- Entries of a disc hold data that is not recorded, or a block of it is on its way to the disc or to its verify pass (R275, R331). -/
def State.discDirty (s : State) (st m : Nat) : Bool :=
  entryNumbers.any (fun e => let x := s.entry e; x.tagged && x.mslot == m && x.station == st && x.dirty) ||
    s.recording.blocks.any (fun r => r.station == st && r.mslot == m) || s.recording.padWait.any (fun w => w.station == st && w.mslot == m)

/-- The partial blocks of a station's disc are closed with pads (R275). -/
def State.closePartials (s : State) (st m : Nat) : State :=
  s.forEach entryNumbers (fun s e =>
    let x := s.entry e
    if x.st = .gathering ∧ x.mslot = m ∧ x.station = st then (s.closeBlock st m x.block).1 else s)

/-- The entries of a disc are freed (R331). -/
def State.freeDisc (s : State) (st m : Nat) : State :=
  s.forEach entryNumbers (fun s e =>
    let x := s.entry e
    if x.st ≠ .free ∧ x.mslot = m ∧ x.station = st then s.freeEntry e else s)

/-- The disc's stay ends once it is clean: its entries are freed, its frontiers forgotten, and the station is brought to rest. -/
def State.discAway (s : State) (st : Nat) : State :=
  let s := match (s.station st).mslot with
    | some m => s.freeDisc st m
    | none => s
  let s := s.modStation st (fun x => { x with disc := none, tables := [], noTable := [] })
  (s.forgetDisc st).restStation st true

/-- The spindle and the lenses of a station are at rest. -/
def State.atRest (s : State) (st : Nat) : Bool :=
  (s.spnState st == Spn.off || s.spnState st == Spn.fault) && [2 * st, 2 * st + 1].all (fun n => s.puState n == Pu.off)

/-- UNLOAD from admission to its end: partial blocks are closed, the disc becomes clean, the station comes to rest (R562). -/
def State.unload (s : State) (h : Nat) : State :=
  let c := s.cmd h
  let st := c.station
  if c.op ≠ Op.unload ∨ c.phase ≠ .admitted then s
  else if c.started = false ∧ (s.station st).disc.isNone = true then
    ((s.discAway st).modStation st (fun x => { x with state := 1, mslot := none })).finish h { status := Status.success }
  else
    let m := (s.station st).mslot.getD 0
    let s := if c.started then s
      else ((s.modStation st (fun x => { x with state := 4 })).modCmd h (fun c => { c with started := true })).closePartials st m
    if (s.station st).disc.isSome then
      if s.discDirty st m then s else s.discAway st
    else if s.atRest st then
      (s.modStation st (fun x => { x with state := 1, mslot := none })).finish h { status := Status.success }
    else s

def execUnload (h : Nat) (s : State) : Res := if (s.cmd h).id.formatL then .next s else .next (s.unload h)

/-- L_UNLOAD is carried out as the UNLOAD it maps to (R387). -/
def execLUnload (h : Nat) (s : State) : Res := if (s.cmd h).id.formatL then .next (s.unload h) else .next s

end Sys2Proof.Machine
end

