-- ==== Sys2Proof/Machine/Pcie.lean ====
section
/-!
DEFINITION. The PCI Express endpoint: link, power states, function level reset, wedged functions, completions and timeouts of the
controller's reads, peer windows, configuration requests and errors (R408–R431).
-/
namespace Sys2Proof.Machine

/-! ## Errors received (R428) -/

/-- BAD_TLP_RECEIVED: logged, corrected errors by PF0, others by PF0 or the function addressed; the TLP is discarded (R428). -/
def execBadTlpReceived (f : Option (Fin 4)) (err : TlpError) (s : State) : Res :=
  let fn := if tlpErrorBit err < 4 then 0 else match f with | some g => g.val | none => 0
  .next (s.logAer fn (tlpErrorBit err))

/-! ## Link (R408, R416, R420) -/

/-- A rate and width that the endpoint supports (R408). -/
def linkSupported (rate width : Nat) : Bool :=
  decide (1 ≤ rate) && decide (rate ≤ 5) && (width == 16 || (rate != 5 && (width == 1 || width == 2 || width == 4 || width == 8)))

/-- PCIE_LINK_UP: training from Detect ends; only the root has a partner (R27, R408). -/
def execPcieLinkUp (rate : Fin 8) (width : Fin 32) (s : State) : Res :=
  if s.root = true ∧ s.pcie.linkUp = false ∧ linkSupported rate width = true then
    let s := { s with pcie := { s.pcie with linkUp := true } }
    .next (((s.put F.HIF_LINK_STATUS_RATE rate).put F.HIF_LINK_STATUS_WIDTH width).put F.HIF_LINK_STATUS_PM 0)
  else .next s

/-- PCIE_LINK_CHANGE: the link has retrained, and PF0 posts PCIE_LINK_CHANGE with its cause (R420, R430). -/
def execPcieLinkChange (rate : Fin 8) (width : Fin 32) (s : State) : Res :=
  if s.root = true ∧ (s.pcie.linkUp = true ∨ s.pcie.linkCause ≠ 0) ∧ linkSupported rate width = true then
    let cause := s.pcie.linkCause
    let s := { s with pcie := { s.pcie with linkUp := true, linkCause := 0 } }
    let s := ((s.put F.HIF_LINK_STATUS_RATE rate).put F.HIF_LINK_STATUS_WIDTH width).put F.HIF_LINK_STATUS_PM 0
    .next (s.post 0x0A01 (srcHost 0) [0, rate, width, cause])
  else .next s

/-- The link is idle in the sense of R416: no completion owed, no write, record or message waiting, no peer read stalled. -/
def State.linkIdle (s : State) : Bool :=
  s.pcie.linkUp && s.pcie.reqs.isEmpty && s.pcie.peers.isEmpty && s.events.posted.isEmpty &&
    !s.rings.records.any (fun h => (s.cmd h).origin == .ring)

/-- ASPM_L0S_ENTRY: L0S_IDLE has passed on an idle link whose ASPM Control enables L0s. -/
def execAspmL0sEntry (s : State) : Res :=
  if s.fld F.HIF_LINK_STATUS_PM = 0 ∧ s.linkIdle = true ∧ (s.cfg 0 .aspmControl).testBit 0 = true then
    .next (s.put F.HIF_LINK_STATUS_PM 1)
  else .next s

/-- ASPM_L1_ENTRY: L1_IDLE has passed on an idle link whose ASPM Control enables L1; an LTR message carries IDLE_US. -/
def execAspmL1Entry (s : State) : Res :=
  if s.fld F.HIF_LINK_STATUS_PM ≤ 1 ∧ s.linkIdle = true ∧ (s.cfg 0 .aspmControl).testBit 1 = true then
    let s := s.put F.HIF_LINK_STATUS_PM 2
    .next { s with pcie := { s.pcie with idleLtr := true }, sent := s.sent ++ [.ltr (s.fld F.HIF_LTR_IDLE_US)] }
  else .next s

/-- L1_PM_SUBSTATE_ENTRY: from L1, CLKREQ_N released, to L1.2 where it is enabled and the tolerance told reaches the LTR threshold, else to
L1.1 where that is enabled (R416). -/
def execL1PmSubstateEntry (clkreqReleased : Bool) (s : State) : Res :=
  if s.fld F.HIF_LINK_STATUS_PM ≠ 2 ∨ clkreqReleased = false then .next s
  else if s.cfg 0 .l12Enable = 1 ∧ s.pcie.idleLtr = true ∧ s.cfg 0 .ltrThresholdUs ≤ s.fld F.HIF_LTR_IDLE_US then
    .next (s.put F.HIF_LINK_STATUS_PM 4)
  else if s.cfg 0 .l11Enable = 1 then .next (s.put F.HIF_LINK_STATUS_PM 3)
  else .next s

/-! ## Power states of functions (R415) -/

/-- What a function's reads wait for may be there again: its WRITEs, jobs and downloads go on, and PF0's staged events. -/
def State.resumeFn (s : State) (f : Nat) : State :=
  let s := s.forEach (s.allCmds.filter (fun e => e.2.id.fn == f && e.2.origin == .ring)) (fun s e =>
    ((s.pump e.1).pumpJob e.1).pumpDownload e.1)
  if f = 0 then State.drainStaging s.events.staging.length s else s

/-- PM_D3HOT_ENTRY: the function holds its fetches, DMA, records and messages; with all four in D3hot the link enters L1. -/
def execPmD3hotEntry (f : Fin 4) (s : State) : Res :=
  let s := s.put (F.HIF_FUNC_STATUS_D_STATE f) 3
  if (List.range 4).all (fun g => s.fld (F.HIF_FUNC_STATUS_D_STATE g) == 3) then .next (s.put F.HIF_LINK_STATUS_PM 2) else .next s

/-- PM_D0_RETURN: the function resumes where it stopped. -/
def execPmD0Return (f : Fin 4) (s : State) : Res :=
  if s.fld (F.HIF_FUNC_STATUS_D_STATE f) = 0 then .next s
  else .next (((s.put (F.HIF_FUNC_STATUS_D_STATE f) 0).wakeLink).resumeFn f)

/-! ## Function level reset (R383, R418–R420) -/

/-- A command of PF0 that an FLR lets run to its end (R419). -/
def Cmd.survivesFlr (c : Cmd) : Bool :=
  c.id.fn == 0 && c.phase == .admitted &&
    (c.op == Op.move || c.op == Op.load || c.op == Op.unload || c.op == Op.calibrate)

/-- A command discarded without a record: the LBAs a WRITE has not delivered become pads, its entries are let go, its tag and lock
released (R276, R336, R383). -/
def State.discardCmd (s : State) (h : Nat) : State :=
  let c := s.cmd h
  let rest := if c.op = Op.write ∧ c.phase = .admitted then
      (List.range (c.id.nsect - c.data.gathered)).map (fun i => c.id.lba + c.data.gathered + i) else []
  let s := (s.releaseUses h true).dropCmd h
  let s := { s with fw := { s.fw with programming := s.fw.programming.filter (fun p => p.cmd != h) } }
  s.padLbas c.station c.id.mslot (fnClass c.id.fn) rest

/-- The controllers below that hold commands of a host function are told to discard them (R443). -/
def State.discardForwarded (s : State) (f : Nat) : State :=
  let mine := s.mbl.fwd.filter (fun w => (s.cmd w.cmd).id.fn == f)
  let s := s.forEach ((mine.map (fun w => w.dest)).eraseDups) (fun s d => s.route (mgmtPacket s d Mgmt.discard 0 [f]))
  { s with mbl := { s.mbl with
      fwd := s.mbl.fwd.filter (fun w => !mine.contains w)
      grants := s.mbl.grants.filter (fun g => !mine.any (fun w => w.tag == g.tag)) } }

/-- All that a function has under way is silenced: its reads end in quarantine without a report, stalled peer reads are answered with
Completer Abort, its commands go, and its blocks are closed with pads (R275, R336, R383, R418 steps 2–4). -/
def State.silence (s : State) (f : Nat) : State :=
  let reads := s.pcie.reqs.filter (fun r => r.fn == f)
  let peers := s.pcie.peers.filter (fun p => p.fn == f)
  let s := { s with pcie := { s.pcie with
    reqs := s.pcie.reqs.filter (fun r => r.fn != f)
    quarantine := s.pcie.quarantine ++ reads.map (fun (r : ReadReq) => (⟨f, r.tag, true⟩ : QuarTag))
    peers := s.pcie.peers.filter (fun p => p.fn != f) } }
  let s := s.emitAll (peers.map (fun (p : PeerRead) => Out.reply p.id .abort []))
  let s := s.discardForwarded f
  let s := s.forEach (s.allCmds.filter (fun e => e.2.id.fn == f && e.2.origin == .ring)) (fun s e =>
    if e.2.survivesFlr then s.modCmd e.1 (fun c => { c with mute := true }) else s.discardCmd e.1)
  if f = 0 then s
  else
    let s := s.forEach entryNumbers (fun s e =>
      let x := s.entry e
      if x.st ≠ .free ∧ x.cls = fnClass f then
        let s := s.setEntry e { x with locked := false }
        if x.st = .filling ∧ x.readers.isEmpty = true then s.freeEntry e else s
      else s)
    s.forEach entryNumbers (fun s e =>
      let x := s.entry e
      if x.st = .gathering ∧ (x.sectors.any (fun y => y.2.st == .gathered && !y.2.pad && y.2.fn == f)) = true then
        (s.closeBlock x.station x.mslot x.block).1
      else s)

/-- A function's windows go, with a commit that waits (R427). -/
def State.dropWindows (s : State) (f : Nat) : State :=
  let s := s.put (F.HIF_WIN_COMMIT_PENDING f) 0
  { s with pcie := { s.pcie with wins := s.pcie.wins.filter (fun e => e.1 / 4 != f) } }

/-- INITIATE_FLR: steps 1 to 4 of R418. One that meets an FLR in progress merges into it; none is possible before the function is ready. -/
def State.initiateFlr (s : State) (f : Nat) : State :=
  if s.flag (F.HIF_FUNC_STATUS_FLR_BUSY f) = true ∨ s.flag (F.HIF_FUNC_STATUS_READY f) = false then s
  else ((s.put (F.HIF_FUNC_STATUS_FLR_BUSY f) 1).silence f).dropWindows f

/-- INITIATE_FLR. -/
def execInitiateFlr (f : Fin 4) (s : State) : Res := .next (s.initiateFlr f)

/-- A field of the function blocks that an FLR leaves: RWS fields, statistics counters, and the RO fields that show what other hardware
presents (R15, R18, R405, R418). -/
def keptByFlr (id : Nat) : Bool :=
  decide (deviceFieldBase ≤ id) || stickyFunctionFields.contains id || counterFields.contains id || decide (id ≤ 6) ||
    id == 13 || id == 14 || id == 40 || decide (66 ≤ id)

/-- The function to which a field of the function blocks belongs. -/
def fieldFunction (key : Nat) : Nat :=
  let n := registersPerFunction (key % 1024)
  if n = 0 then 0 else key / 1024 / n

/-- A function's blocks at their reset values: HIF, EVT, RING and DOORBELL, with its MSI-X table (R418 step 5). -/
def State.resetFunctionBlocks (s : State) (f : Nat) : State :=
  let ring (k : Nat) : Bool := k / 32 != f
  let s := { s with
    regs := s.regs.filter (fun e => keptByFlr (e.1 % 1024) || fieldFunction e.1 != f)
    rings := { s.rings with
      sqTail := s.rings.sqTail.filter (fun e => ring e.1)
      cqHead := s.rings.cqHead.filter (fun e => ring e.1)
      cqPass := s.rings.cqPass.filter (fun e => ring e.1)
      credit := s.rings.credit.filter (fun e => ring e.1) }
    pcie := { s.pcie with
      msix := s.pcie.msix.filter (fun e => e.1 / 256 != f)
      pba := s.pcie.pba.filter (fun e => e.1 / 64 != f) }
    events := { s.events with vecs := s.events.vecs.filter (fun e => e.1 / 64 != f) } }
  if f = 0 then { s with events := { s.events with head := 0, pass := 0 } } else s

/-- A function's configuration space at its reset values. -/
def State.resetConfig (s : State) (f : Nat) : State :=
  { s with pcie := { s.pcie with cfg := s.pcie.cfg.filter (fun e => e.1 / 64 != f || e.1 % 64 == 4 || e.1 % 64 == 5) } }

/-- FLR_DONE: step 5 of R418. A WEDGED function returns its configuration space alone (R422). -/
def execFlrDone (f : Fin 4) (s : State) : Res :=
  if s.flag (F.HIF_FUNC_STATUS_FLR_BUSY f) = false then .next s
  else
    let s := (s.resetConfig f).put (F.HIF_FUNC_STATUS_FLR_BUSY f) 0
    if s.flag (F.HIF_FUNC_STATUS_WEDGED f) then .next s
    else .next (((s.resetFunctionBlocks f).put (F.HIF_FUNC_STATUS_D_STATE f) 0).post 0x0A04 (srcHost f) [f])

/-- HOT_RESET: every function as by an FLR (R420). -/
def execHotReset (s : State) : Res :=
  let s := s.forEach (List.range 4) State.initiateFlr
  .next { s with pcie := { s.pcie with linkCause := 1 } }

/-- DL_DOWN: the data link is lost without PCIE_PERST_N; every function as by an FLR (R420). -/
def execDlDown (s : State) : Res :=
  let s := s.forEach (List.range 4) State.initiateFlr
  .next { s with pcie := { s.pcie with linkUp := false, linkCause := 2 } }

/-- A function wedged: silenced, its commands discarded, Uncorrectable Internal Error reported, and FUNCTION_WEDGED posted by PF0 for a
data function (R421, R430). -/
def State.wedge (s : State) (f : Nat) : State :=
  if s.flag (F.HIF_FUNC_STATUS_WEDGED f) then s
  else
    let s := ((s.put (F.HIF_FUNC_STATUS_WEDGED f) 1).silence f).dropWindows f
    let s := (s.logAer f aerInternal).emit (.uncorrectable f)
    if f = 0 then s else s.post 0x0A05 (srcHost 0) [0, f]

/-- FUNCTION_WEDGED; not while MC firmware restarts at the Summit (R503). -/
def execFunctionWedged (f : Fin 4) (s : State) : Res := .next (if s.mcDown then s else s.wedge f)

/-! ## Downward data at the root (R441, R443) -/

/-- The root's fetch of the next 4,096 bytes of a forwarded command's data for the grant in hand. -/
def State.pumpDown (s : State) (h tag : Nat) : State :=
  match s.mbl.grants.find? (fun g => !g.mine && g.tag == tag && decide (g.moved < g.len)) with
  | none => s
  | some g =>
    if s.pcie.reqs.any (fun r => r.cmd == h) then s
    else
      let at0 := g.offset + g.moved
      let s := s.modCmd h (fun c =>
        if c.data.bytes.isEmpty then { c with data := { c.data with nextRead := at0 } } else c)
      State.issueSource h .data (at0 + min 4096 (g.len - g.moved)) 1 s

/-- Bytes of a forwarded command's data have come from host memory: a whole packet's worth is sent down. -/
def State.downBytes (s : State) (h off : Nat) (bytes : List Nat) (poison : Bool) : State :=
  let c := s.cmd h
  match s.mbl.fwd.find? (fun w => w.cmd == h) with
  | none => s
  | some w =>
    match s.mbl.grants.find? (fun g => !g.mine && g.tag == w.tag && decide (g.moved < g.len)) with
    | none => s
    | some g =>
      let t := Table.put [] c.data.bytes off bytes
      let whole := joinChunks t
      if whole.length < min 4096 (g.len - g.moved) then
        (s.setCmd h { c with data := { c.data with bytes := t } }).pumpDown h w.tag
      else
        let s := s.setCmd h { c with data := { c.data with bytes := [], gathered := c.data.gathered + whole.length / 4096 } }
        (s.sendData w.dest g whole poison).pumpDown h w.tag

/-! ## Completions and timeouts (R423, R424) -/

/-- A read of host memory has failed: what becomes of what it was for (R367, R423). -/
def State.readFailed (s : State) (r : ReadReq) (status : Nat) : State :=
  let c := s.cmd r.cmd
  match r.purpose with
  | .descriptor => s.fetchFailed r.cmd
  | .list => if c.phase = .listRead then s.refuse r.cmd status else s
  | .dstList => if c.phase = .listRead then s.refuse r.cmd status else s
  | .data =>
    if c.phase = .forwarded then
      match s.mbl.fwd.find? (fun w => w.cmd == r.cmd) with
      | some w =>
        let s := s.setCmd r.cmd { c with res := { status := status } }
        { s with mbl := { s.mbl with grants := s.mbl.grants.filter (fun g => g.tag != w.tag) } }
      | none => s
    else s.stopCmd r.cmd status
  | .job => s.stopCmd r.cmd status
  | .firmware => s.refuse r.cmd status

/-- A read of host memory is whole. -/
def State.readDone (s : State) (r : ReadReq) : State :=
  let h := r.cmd
  let c := s.cmd h
  match r.purpose with
  | .descriptor =>
    let i := if c.id.formatL then formatLId c.id.fn c.id.ring s.deviceId r.got else nativeId c.id.fn c.id.ring r.got
    s.setCmd h { c with phase := .fetched, id := i }
  | .list => s.modCmd h (fun c => { c with data := { c.data with bytes := Table.put [] c.data.bytes r.offset r.got } })
  | .dstList => s.modCmd h (fun c => { c with data := { c.data with bytes := Table.put [] c.data.bytes r.offset r.got } })
  | .data =>
    if c.phase = .forwarded then s.downBytes h r.offset r.got false
    else if c.phase = .admitted then s.gatherBytes h r.offset r.got false
    else s
  | .job => if c.phase = .admitted then s.jobBytes h r.offset r.got else s
  | .firmware => if c.phase = .started then s.downloadBytes h r.offset r.got else s

/-- A late or unknown completion: dropped, counted, UNEXP_CPL set (R424, R430); silent where an FLR stopped the read (R418). -/
def State.unexpectedCpl (s : State) (f tag : Nat) : State :=
  if s.pcie.quarantine.any (fun q => q.fn == f && q.tag == tag && q.silent) then s
  else
    let s := (s.logAer f aerUnexpected).count (F.HIF_UNEXP_CPL_LO_COUNT f) (F.HIF_UNEXP_CPL_HI_COUNT f) 1
    s.raise (F.HIF_ERR_STATUS_UNEXP_CPL f) 0x0A03 (srcHost f) ([f, 0] ++ leBytes 2 tag)

/-- COMPLETION_TLP: a completion for a read that the controller has issued; a read may be answered in parts, in address order. -/
def execCompletionTlp (f : Fin 4) (tag : Nat) (status : CplStatus) (data : List Byte) (s : State) : Res :=
  match s.reqOf f tag with
  | none => .next (s.unexpectedCpl f tag)
  | some r =>
    let s := s.wakeLink
    if status = .success then
      let r' := { r with got := r.got ++ (data.map BitVec.toNat).take (r.len - r.got.length) }
      if r'.got.length < r.len then
        .next { s with pcie := { s.pcie with reqs := s.pcie.reqs.map (fun x => if x.fn = r.fn ∧ x.tag = r.tag then r' else x) } }
      else .next (((s.dropReq f tag).readDone r').resumeFn f)
    else
      let s := if status = .poisoned then s.logAer f aerPoisoned else s
      .next (((s.dropReq f tag).readFailed r Status.hostAddressError).resumeFn f)

/-- CPL_TIMEOUT: the completion timeout of an outstanding read: its tag goes to quarantine, HIF_CPL_TIMEOUTS counts it, HOST_CPL_TIMEOUT is
posted by its flag, and the read has failed (R423, R424, R428, R430). -/
def execCplTimeout (f : Fin 4) (tag : Nat) (s : State) : Res :=
  match s.reqOf f tag with
  | none => .next s
  | some r =>
    let s := s.dropReq f tag
    let s := { s with pcie := { s.pcie with quarantine := s.pcie.quarantine ++ [(⟨f, tag, false⟩ : QuarTag)] } }
    let s := (s.logAer f aerTimeout).count (F.HIF_CPL_TIMEOUTS_LO_COUNT f) (F.HIF_CPL_TIMEOUTS_HI_COUNT f) 1
    let cid := if r.purpose = .descriptor then 0xFFFF else (s.cmd r.cmd).id.cid
    let s := s.raise (F.HIF_ERR_STATUS_CPL_TIMEOUT f) 0x0A02 (srcHost f) ([f.val, 0] ++ leBytes 2 tag ++ leBytes 2 cid)
    .next (s.readFailed r Status.hostReadTimeout)

/-- TAG_QUARANTINE_END: the tag may be used again, and reads that waited for one go on (R424). -/
def execTagQuarantineEnd (f : Fin 4) (tag : Nat) (s : State) : Res :=
  let s := { s with pcie := { s.pcie with
    quarantine := s.pcie.quarantine.filter (fun q => !(q.fn == f.val && q.tag == tag)) } }
  .next (s.resumeFn f)

/-! ## Peer windows (R335, R425–R427) -/

/-- A function decodes its BAR2: a data function, ready, in D0, not WEDGED nor in an FLR, its memory space enabled. -/
def State.bar2Open (s : State) (f : Nat) : Bool := f != 0 && s.fnLive f && s.cfg f .memorySpaceEnable == 1

def State.window (s : State) (f w : Nat) : PeerWin := Table.at {} s.pcie.wins (4 * f + w)

/-- Disc and first block of a read that lies within an enabled window (R425, R426). -/
def State.windowOf (s : State) (f offset len : Nat) : Option (Nat × Nat) :=
  let w := s.window f (offset / 0x400000)
  let o := offset % 0x400000
  if offset < 0x1000000 ∧ w.enable = true ∧ 0 < len ∧ o + len ≤ w.nblk * 0x40000 then some (w.slot, w.block + o / 0x40000) else none

/-- The bytes that a sector gives to a peer read of function `f`: none while it is not final; `error` where it has no data to give. -/
inductive PeerBytes where
  | wait
  | none (reason : Nat)
  | bytes (data : List Nat) (poison : Bool)
  deriving DecidableEq, Repr

/-- The peer-class entry that holds a block. -/
def State.peerEntry (s : State) (mslot block : Nat) : Option Nat :=
  match s.tagOf mslot block with
  | some e => if (s.entry e).cls = classPeer then some e else none
  | none => none

/-- What sector `j` of a block gives (R322, R335, R426). -/
def State.peerSector (s : State) (mslot block j : Nat) : PeerBytes :=
  match s.peerEntry mslot block with
  | none => .wait
  | some e =>
    let x := s.entry e
    let y := x.sector j
    if x.spec then .wait
    else
      match y.st with
      | .confirmed => .bytes (padTo 4096 y.user) y.poison
      | .gathered =>
        if y.pad then .bytes zeroSector y.poison else if y.sealBit then .none 0 else .bytes (padTo 4096 y.user) y.poison
      | .blank => .none 0
      | .unrecovered => .none 0
      | _ => .wait

/-- The sectors that bytes [o, o + len) of a run of blocks touch: (block, sector, first byte, length). -/
def peerPieces (block : Nat) : (fuel o len : Nat) → List (Nat × Nat × Nat × Nat)
  | 0, _, _ => []
  | fuel + 1, o, len =>
    if len = 0 then []
    else
      let n := min len (4096 - o % 4096)
      (block + o / 0x40000, o % 0x40000 / 4096, o % 4096, n) :: peerPieces block fuel (o + n) (len - n)

/-- A peer read answered with Completer Abort: PEER_ABORT set and PEER_READ_ABORTED posted with the entry, the reason and the sector
(R335, R341, R428). Where no entry holds the block the manual gives no entry number, so that byte is a free value. -/
def State.peerAbort (s : State) (f id mslot block j reason : Nat) : State :=
  let r : Nat × State := match s.peerEntry mslot block with
    | some e => (e, s)
    | none => let v := s.takeFree; (v.1 % 256, v.2)
  let s := (r.2.logAer f aerAbort).emit (.reply id .abort [])
  s.raise F.CCH_STATUS_PEER_ABORT 0x0803 srcCache ([r.1, reason, 0, 0] ++ leBytes 4 j)

/-- A peer read answered where it can be: its data, a Completer Abort, or nothing yet. -/
def State.peerAnswer (s : State) (p : PeerRead) : Option State :=
  let ps := peerPieces p.block (p.len / 4096 + 2) (p.offset % 0x40000) p.len
  let s := s.forEach ps (fun s q =>
    match s.peerEntry p.mslot q.1, s.peerSector p.mslot q.1 q.2.1 with
    | some e, .bytes _ _ => s.readSector e q.2.1 0xC5
    | _, _ => s)
  let got := ps.map (fun q => (q, s.peerSector p.mslot q.1 q.2.1))
  if s.cacheEnabled = false then
    let q := ps.headD (p.block, 0, 0, 0)
    some (s.peerAbort p.fn p.id p.mslot q.1 q.2.1 2)
  else
    match got.find? (fun g => match g.2 with | .none _ => true | _ => false) with
    | some (q, .none r) => some (s.peerAbort p.fn p.id p.mslot q.1 q.2.1 r)
    | _ =>
      if got.any (fun g => g.2 == .wait) then none
      else
        let bytes := got.flatMap (fun g => match g.2 with
          | .bytes d _ => (d.drop g.1.2.2.1).take g.1.2.2.2
          | _ => [])
        let poison := got.any (fun g => match g.2 with | .bytes _ b => b | _ => false)
        some (s.emit (.reply p.id (if poison then .poisoned else .success) bytes))

/-- Unsupported Request on a peer window: PEER_UR set and PEER_UNSUPPORTED posted by it (R426, R430). -/
def State.peerUnsupported (s : State) (f offset : Nat) : State :=
  (s.logAer f aerUnsupported).raise (F.HIF_ERR_STATUS_PEER_UR f) 0x0A07 (srcHost f) ([f, 0, 0, 0] ++ leBytes 4 offset)

/-- PEER_READ: a read of BAR2, decoded against the windows in force when it arrives (R335, R415, R426). -/
def execPeerRead (f : Fin 4) (offset len : Nat) (s : State) : Res :=
  let id := s.pcie.nextPeer
  let s := ({ s with pcie := { s.pcie with nextPeer := id + 1 } }).wakeLink
  if s.bar2Open f = false then .next ((s.logAer f aerUnsupported).emit (.reply id .unsupported []))
  else
    match s.windowOf f offset len with
    | none => .next ((s.peerUnsupported f offset).emit (.reply id .unsupported []))
    | some (slot, block) =>
      let p : PeerRead := ⟨id, f, offset, len, slot, block, false⟩
      match s.peerAnswer p with
      | some t => .next t
      | none => .next { s with pcie := { s.pcie with peers := s.pcie.peers ++ [p] } }

/-- PEER_READ_RESUME: a stalled read is answered once its sectors are final and their entries claimed. -/
def execPeerReadResume (id : Nat) (s : State) : Res :=
  match s.pcie.peers.find? (fun p => p.id == id) with
  | none => .next s
  | some p =>
    match s.peerAnswer p with
    | some t => .next { t with pcie := { t.pcie with peers := t.pcie.peers.filter (fun q => q.id != id) } }
    | none => .next s

/-- PEER_READ_TIMEOUT: a read has stalled longer than CCH_PEER.WAIT_MS: Completer Abort with reason 1, for its first sector not ready. -/
def execPeerReadTimeout (id : Nat) (s : State) : Res :=
  match s.pcie.peers.find? (fun p => p.id == id) with
  | none => .next s
  | some p =>
    let s := { s with pcie := { s.pcie with peers := s.pcie.peers.filter (fun q => q.id != id) } }
    let ps := peerPieces p.block (p.len / 4096 + 2) (p.offset % 0x40000) p.len
    let q := (ps.find? (fun q => s.peerSector p.mslot q.1 q.2.1 == .wait)).getD (p.block, 0, 0, 0)
    .next (s.peerAbort p.fn id p.mslot q.1 q.2.1 1)

/-- BAR2_WRITE: Unsupported Request (R426). -/
def execBar2Write (f : Fin 4) (offset : Nat) (s : State) : Res :=
  if s.bar2Open f then .next (s.wakeLink.peerUnsupported f offset) else .next (s.wakeLink.logAer f aerUnsupported)

/-- A function's registers take writes: ready, in D0, not in an FLR (R415, R418, R551). -/
def State.fnWritable (s : State) (f : Nat) : Bool :=
  s.flag (F.HIF_FUNC_STATUS_READY f) && !s.flag (F.HIF_FUNC_STATUS_FLR_BUSY f) && s.fld (F.HIF_FUNC_STATUS_D_STATE f) == 0

/-- WINDOW_COMMIT: COMMIT written 1 sets PENDING; the peer reads that stall now must retire first. One that meets a pending commit merges
into it (R427). -/
def execWindowCommit (f : Fin 4) (s : State) : Res :=
  if f = 0 ∨ s.fnWritable f = false ∨ s.flag (F.HIF_WIN_COMMIT_PENDING f) = true then .next s
  else
    let s := s.put (F.HIF_WIN_COMMIT_PENDING f) 1
    .next { s with pcie := { s.pcie with
      peers := s.pcie.peers.map (fun p => if p.fn = f.val then { p with beforeCommit := true } else p) } }

/-- The window that the shadows of window `w` describe (R425, R431). -/
def State.shadow (s : State) (f w : Nat) : PeerWin :=
  { enable := s.flag (F.HIF_WIN_CFG_ENABLE f w)
    nblk := max 1 (min 16 (s.fld (F.HIF_WIN_CFG_NBLK f w)))
    slot := s.fld (F.HIF_WIN_SLOT_SLOT f w)
    block := s.fld (F.HIF_WIN_BLOCK_BLOCK f w) }

/-- WINDOW_COMMIT_APPLY: every peer read that arrived before the commit has retired, so the four shadows take force together (R427). -/
def execWindowCommitApply (f : Fin 4) (s : State) : Res :=
  if s.flag (F.HIF_WIN_COMMIT_PENDING f) = false ∨ (s.pcie.peers.any (fun p => p.fn == f.val && p.beforeCommit)) = true then .next s
  else
    let wins := (List.range 4).foldl (fun t w => Table.put {} t (4 * f.val + w) (s.shadow f w)) s.pcie.wins
    .next (({ s with pcie := { s.pcie with wins := wins } }).put (F.HIF_WIN_COMMIT_PENDING f) 0)

/-! ## Configuration requests (R410–R412) -/

/-- The bits of a field that a configuration write changes; 0 for a field that is read only. -/
def cfgMask : CfgField → Nat
  | .memorySpaceEnable | .tenBitTagEnable | .relaxedOrderingEnable | .l11Enable | .l12Enable | .msixEnable | .msixFunctionMask => 1
  | .maxPayloadSize | .maxReadRequestSize => 0xFFFF
  | .completionTimeoutValue => 15
  | .aspmControl => 3
  | .ltrThresholdUs => 0xFFFFFFFF
  | _ => 0

/-- Fields that sit in PF0 alone (R412). -/
def cfgInPf0 : CfgField → Bool
  | .serialNumber | .aspmControl | .l11Enable | .l12Enable | .ltrThresholdUs => true
  | _ => false

/-- Messages that a function mask held back go out once it is cleared (R404). -/
def State.unmaskAll (s : State) (f : Nat) : State :=
  s.forEach (List.range 64) (fun s m =>
    if s.pendingBit f m = true ∧ s.masked f m = false then (s.setPendingBit f m false).sendMessage f m else s)

/-- CONFIGURATION_REQUEST: Retry Status until the function is ready and during its FLR (R411, R418); then a read is answered, and a write
sets the field, an AER status bit being cleared by a one. -/
def execConfigurationRequest (f : Fin 4) (field : CfgField) (write : Option Nat) (s : State) : Res :=
  let s := s.wakeLink
  if (s.flag (F.HIF_FUNC_STATUS_READY f) = false ∧ s.fw.recovery = false) ∨ s.flag (F.HIF_FUNC_STATUS_FLR_BUSY f) = true then
    .next (s.emit (.retryStatus f))
  else
    let here := f = 0 ∨ cfgInPf0 field = false
    match write with
    | none => .next (s.emit (.reply 0 .success (leBytes 8 (if here then s.cfg f field else 0))))
    | some v =>
      let s := s.emit (.reply 0 .success [])
      if ¬ here then .next s
      else if field = .aerStatus then .next (s.setCfg f field (s.cfg f field - (s.cfg f field &&& v)))
      else if cfgMask field = 0 then .next s
      else .next ((s.setCfg f field (v &&& cfgMask field)).unmaskAll f)

end Sys2Proof.Machine
end

