-- ==== Sys2Proof/Machine/Mbalar.lean ====
section
/-!
DEFINITION. Mbalar links and the tree: ports, frames, commands and their data across the tree, Chain Time, enumeration and heartbeats
(R432–R449, R455–R458).
-/
namespace Sys2Proof.Machine

/-! ## Ports (R433–R436, R455) -/

/-- A port may train: enabled by Basecamp and the host, its slot powered, and not the unused MU of the root (R27, R433, R525, R527). -/
def State.portMayTrain (s : State) (q : Nat) : Bool :=
  s.fw.booted && !s.fw.recovery && s.flag (F.MBL_PORT_CTRL_EN q) &&
    (if q = 0 then !s.root
     else decide (3 ≤ s.fld (F.HPC_SLOT_STATUS_STATE (7 + q))) && decide (s.fld (F.HPC_SLOT_STATUS_STATE (7 + q)) ≤ 6))

/-- PORT_TRAINING_START: an enabled and powered port that does nothing begins at step 1 of R434. -/
def execPortTrainingStart (q : Fin 5) (s : State) : Res :=
  if s.portMayTrain q = true ∧ (s.port q).phase = .idle then .next (s.modPort q (fun x => { x with phase := .training })) else .next s

/-- The root's forwarded commands that a test picks end, with the status of R423 where a read of host memory has failed and else the
one given, counting what was transferred (R395, R443, R455). -/
def State.endForwarded (s : State) (p : Fwd → Bool) (status : Nat) : State :=
  let gone := s.mbl.fwd.filter p
  let s := { s with mbl := { s.mbl with
    fwd := s.mbl.fwd.filter (fun w => !p w)
    grants := s.mbl.grants.filter (fun g => !gone.any (fun w => w.tag == g.tag)) } }
  s.forEach gone (fun s w =>
    let c := s.cmd w.cmd
    let done := if c.op = Op.read then w.taken / 4096 else if c.op = Op.write then c.data.gathered else 0
    s.finish w.cmd { status := if c.res.status = 0 then status else c.res.status, done := done })

/-- A downstream port no longer leads to its subtree: the root's commands into its range end, and nothing waits for its acknowledgement
(R452, R453, R455). -/
def State.loseSubtree (s : State) (q : Nat) : State :=
  let s := s.endForwarded (fun w => s.portFor w.dest == some q) Status.chainTimeout
  let left (qs : List Nat) : List Nat := qs.filter (fun x => x != q)
  { s with mbl := { s.mbl with
    barriers := s.mbl.barriers.map (fun (b : Barrier) => { b with waiting := left b.waiting })
    resetWait := match s.mbl.resetWait with
      | some w => some (w.1, if w.1 = 2 then w.2 else left w.2)
      | none => none } }

/-- A port is down (R449, R455): a partner lost in its first training passes without a flag. -/
def State.portDown (s : State) (q reason : Nat) : State :=
  let was := s.flag (F.MBL_PORT_STATUS_UP q)
  let s := s.modPort q (fun x => { x with
    phase := .idle, retraining := false, txSeq := 0, rxSeq := 0, replay := [], replayCount := 0, missed := 0, tOpen := false })
  if was = false then s
  else
    let s := (s.put (F.MBL_PORT_STATUS_UP q) 0).put (F.MBL_PORT_STATUS_FENCED q) 0
    let s := s.raise (F.MBL_PORT_STATUS_DOWN q) 0x0B02 (srcPort q) [q, reason]
    if q = 0 then
      let s := (s.put F.MBL_CT_STATUS_SYNC 0).raise F.MBL_CT_STATUS_HOLDOVER 0x0B06 (srcPort 0) [0]
      { s with mbl := { s.mbl with goodTimes := 0, firstTime := true } }
    else s.loseSubtree q

/-- PORT_DOWN: retraining has not ended in time, the partner has left, the slot has lost its power, or the host has disabled the port
(R455, R458). -/
def execPortDown (q : Fin 5) (s : State) : Res :=
  let reason :=
    if s.flag (F.MBL_PORT_CTRL_EN q) = false then 3 else if s.portMayTrain q = false ∧ q.val ≠ 0 then 2 else 0
  if (s.port q).phase = .idle then .next s else .next (s.portDown q reason)

/-- A downstream port fenced: it stays up and routes as down (R455). -/
def State.fence (s : State) (q : Nat) : State := (s.put (F.MBL_PORT_STATUS_FENCED q) 1).loseSubtree q

/-- A child whose protocol level differs by more than one is fenced; an RSX-4080 never is (R505). -/
def State.checkLevel (s : State) (q : Nat) : State :=
  let a := s.fld F.MBL_PROTO_LEVEL
  let b := (s.port q).partnerLevel
  if q = 0 ∨ s.flag (F.MBL_PORT_STATUS_PARTNER_4080 q) = true ∨ s.flag (F.MBL_PORT_STATUS_FENCED q) = true ∨ (a ≤ b + 1 ∧ b ≤ a + 1) then s
  else (s.fence q).post 0x0E0B srcFirmware [0xFF, q, b]

/-- PORT_UP: training ends at step 6. Two ends of one role do not come up. After a retrain the frames not acknowledged are sent again,
and nothing is posted, since UP has not fallen (R126, R432–R436, R455). -/
def execPortUp (q : Fin 5) (gen width : Nat) (partner4080 : Bool) (level : Fin 16) (clash : Bool) (s : State) : Res :=
  let x := s.port q
  if x.phase ≠ .training ∨ ¬ (1 ≤ gen ∧ gen ≤ 2) ∨ ¬ (width = 1 ∨ width = 2 ∨ width = 4) then .next s
  else if clash then
    .next ((s.modPort q (fun x => { x with phase := .idle, retraining := false })).put (F.MBL_PORT_STATUS_ROLE_ERR q) 1)
  else
    let gen := if s.flag (F.MBL_PORT_CTRL_V1_ONLY q) = true ∨ partner4080 = true then 1 else gen
    let s := ((s.put (F.MBL_PORT_STATUS_GEN q) gen).put (F.MBL_PORT_STATUS_WIDTH q) width).setFlag
      (F.MBL_PORT_STATUS_PARTNER_4080 q) partner4080
    let s := s.setPort q { x with phase := .up, retraining := false, missed := 0, partnerLevel := level }
    let s := s.emitAll (x.replay.map (fun f => Out.frame q f.1 f.2))
    let s := s.raise (F.MBL_PORT_STATUS_UP q) 0x0B01 (srcPort q) [q, gen, width]
    .next (s.checkLevel q)

/-- A port retrains from step 3, its replay buffer kept (R436). -/
def State.retrain (s : State) (q : Nat) : State :=
  s.modPort q (fun x => { x with phase := .training, retraining := true, replayCount := 0 })

/-- PORT_RETRAIN: MBL_PORT_CTRL.RETRAIN written 1 (R434, R459). -/
def execPortRetrain (q : Fin 5) (s : State) : Res :=
  if (s.port q).phase = .up then .next (s.retrain q) else .next s

/-- The frames not acknowledged are sent again from the oldest; after four replays of it the port retrains, and MBL_RETRAIN is posted by
its flag (R436, R458). -/
def State.replayFrames (s : State) (q : Nat) : State :=
  let x := s.port q
  if x.replay.isEmpty then s
  else if 4 ≤ x.replayCount then
    (s.retrain q).raise (F.MBL_PORT_STATUS_RETRAINED q) 0x0B03 (srcPort q) ([q, 0] ++ leBytes 2 (s.fld (F.MBL_PORT_STATUS_REPLAYS q)))
  else
    let s := (s.setPort q { x with replayCount := x.replayCount + 1 }).incSat (F.MBL_PORT_STATUS_REPLAYS q) 1
    s.emitAll (x.replay.map (fun f => Out.frame q f.1 f.2))

/-- LINK_REPLAY_TIMEOUT: the oldest frame has not been acknowledged within 20 µs. -/
def execLinkReplayTimeout (q : Fin 5) (s : State) : Res :=
  if (s.port q).phase = .up then .next (s.replayFrames q) else .next s

/-- Frames up to a sequence number are acknowledged, where it is one of those sent. -/
def State.ackFrames (s : State) (q seq : Nat) : State :=
  let x := s.port q
  if x.replay.any (fun f => f.1 == seq) then
    s.setPort q { x with replay := (x.replay.dropWhile (fun f => f.1 != seq)).drop 1, replayCount := 0 }
  else s

/-! ## Frames received (R436–R439, R445) -/

/-- MGMT packets that cross one hop alone: between partners, whatever their DEST_ID. -/
def oneHop (p : Packet) : Bool :=
  p.type == Pkt.time ||
    (p.type == Pkt.mgmt && (mgmtOp p == Mgmt.heartbeat || mgmtOp p == Mgmt.enumAssign || mgmtOp p == Mgmt.enumReport || mgmtOp p == Mgmt.barrierAck))

/-- The packet is for every controller below. -/
def isBroadcast (p : Packet) : Bool := p.flags.testBit 2 || p.dest == broadcastId

/-- The packet has a type and, for MGMT, an opcode that this controller handles (R438, R439). -/
def knownPacket (p : Packet) : Bool :=
  p.type != Pkt.mgmt || (decide (1 ≤ mgmtOp p) && decide (mgmtOp p ≤ 0x000C))

/-- A packet that has arrived is taken, copied or passed on (R445). RESET is forwarded by hardware as it is taken, and one that comes from
below is a child's acknowledgement (R453). -/
def State.arrive (s : State) (q : Nat) (p : Packet) : State :=
  let down := s.openPorts.filter (fun x => x != q)
  if oneHop p then s.takeIn q p []
  else if p.type = Pkt.reset ∧ (q ≠ 0 ∨ isBroadcast p = true ∨ s.ownId p.dest = true) then
    if q ≠ 0 then s.takeIn q p []
    else (s.forEach down (fun s d => s.sendOn d { p with dest := broadcastId, flags := 4 })).takeIn q p down
  else if isBroadcast p then
    let s := s.forEach down (fun s d => s.sendOn d p)
    if knownPacket p then s.takeIn q p down else s
  else if s.ownId p.dest then if knownPacket p then s.takeIn q p [] else s
  else s.route p

/-- LINK_FRAME: a good frame in order is acknowledged and its packet goes on its way; a repeated one is acknowledged and dropped; a bad one,
or one past a gap, gets a negative acknowledgement. The partner's acknowledgements empty the replay buffer, its negative ones replay it. -/
def execLinkFrame (q : Fin 5) (ev : LinkEvent) (s : State) : Res :=
  let x := s.port q
  if x.phase ≠ .up then .next s
  else
    match ev with
    | .ack seq => .next (s.ackFrames q seq)
    | .nak seq =>
      if x.replay.any (fun f => f.1 == seq) then
        let left := x.replay.dropWhile (fun f => f.1 != seq)
        let same := decide (left.length = x.replay.length)
        .next ((s.setPort q { x with replay := left, replayCount := if same then x.replayCount else 0 }).replayFrames q)
      else .next s
    | .frame seq bytes =>
      let bs := bytes.map BitVec.toNat
      let n := leField bs 10 2
      let good := decide (bs.length = 20 + n) && decide (n ≤ 4096) && n % 4 == 0 && leField bs (16 + n) 4 == crc32c (bs.take (16 + n))
      let behind := (x.rxSeq + 4096 - seq % 4096) % 4096
      if good = false then .next (s.emit (.nak q x.rxSeq))
      else if behind = 0 then
        let s := (s.setPort q { x with rxSeq := (x.rxSeq + 1) % 4096 }).emit (.ack q (seq % 4096))
        let s := s.count (F.MBL_PORT_RX_LO_COUNT q) (F.MBL_PORT_RX_HI_COUNT q) n
        match parsePacket bs with
        | some p => .next (s.arrive q p)
        | none => .next (s.modPort q (fun x => { x with frameErrors := x.frameErrors + 1 }))
      else if behind ≤ 2048 then .next (s.emit (.ack q ((x.rxSeq + 4095) % 4096)))
      else .next (s.emit (.nak q x.rxSeq))

/-! ## Packets taken -/

/-- The first packet of a kind among those taken, where none of its tag that came before it by its port waits still. -/
def State.takeFirst (s : State) (sel : Packet → Bool) : Option (InPacket × State) :=
  match s.mbl.inbox.find? (fun e => sel e.packet) with
  | none => none
  | some e =>
    let before := s.mbl.inbox.takeWhile (fun x => !sel x.packet)
    if e.packet.tag ≠ 0 ∧ before.any (fun x => x.port == e.port && x.packet.tag == e.packet.tag) = true then none
    else some (e, { s with mbl := { s.mbl with inbox := before ++ s.mbl.inbox.drop (before.length + 1) } })

def isType (t : Nat) (p : Packet) : Bool := p.type == t
def isMgmt (op : Nat) (p : Packet) : Bool := p.type == Pkt.mgmt && mgmtOp p == op

/-- The body of a MGMT packet: what follows its opcode. -/
def mgmtBody (p : Packet) : List Nat := p.payload.drop 4

/-! ## Commands and their data (R435, R440–R443) -/

/-- CMD_PACKET: a command that came down the tree is checked against this controller's own key slots, bindings and stations, and waits for
dispatch. A parent of protocol level 1 sends Format L alone (R347, R368, R435, R440). -/
def execCmdPacket (s : State) : Res :=
  match s.takeFirst (isType Pkt.cmd) with
  | none => .next s
  | some (e, s) =>
    let p := e.packet
    let fn := p.payload.getD 0 0
    let ring := p.payload.getD 1 0
    let desc := p.payload.drop 4
    let legacy := s.flag (F.MBL_PORT_STATUS_PARTNER_4080 0)
    let id := if legacy then formatLId fn ring s.deviceId desc else nativeId fn ring desc
    let h := s.rings.nextHandle
    let s := { s with rings := { s.rings with nextHandle := h + 1 } }
    let src : List Elem := if nativeOp id.op = Op.calibrate then [⟨0, 64, 0⟩] else []
    let s := s.setCmd h { id := id, origin := .chain fn p.tag, phase := .fetched, data := { src := src } }
    if legacy = true ∧ isFormatL id.op = false then .next (s.refuse h Status.invalidCommand)
    else if s.keyCheck id = false then .next (s.refuse h Status.invalidField)
    else
      match s.lateChecks id with
      | some st => .next (s.refuse h st)
      | none => .next (s.modCmd h (fun c => { c with phase := .accepted }))

/-- The command of this controller that came down the tree under a chain tag. -/
def State.chainCmd (s : State) (tag : Nat) : Option (Nat × Cmd) :=
  s.allCmds.find? (fun e => e.2.live && (match e.2.origin with
    | .chain _ t => t == tag
    | .ring => false))

/-- An answer that waits goes up in DATA packets as the root has granted, and the command completes behind the last (R441); `fuel` bounds
the packets. -/
def State.sendAnswerUp (h tag : Nat) : (fuel : Nat) → State → State
  | 0, s => s
  | fuel + 1, s =>
    let c := s.cmd h
    let data := Table.at [] c.data.plain 0
    let off := c.data.nextRead
    if c.live = false ∨ data.isEmpty = true ∨ c.op = Op.read then s
    else
      match s.openGrant tag off with
      | none => s
      | some g =>
        let n := min 4096 (min (g.len - g.moved) (data.length - off))
        let poison := !(Table.at [] c.data.plain 1).isEmpty
        let s := s.sendData 0 g ((data.drop off).take n) poison
        let s := s.setCmd h { c with data := { c.data with nextRead := off + n } }
        if data.length ≤ off + n then s.finish h { c.res with status := Status.success, done := data.length }
        else State.sendAnswerUp h tag fuel s

/-- XFER_RDY_PACKET: a grant: at the root for data that goes down, at the target for data that goes up (R441). One for a command that has
gone is dropped. -/
def execXferRdyPacket (s : State) : Res :=
  match s.takeFirst (isType Pkt.xferRdy) with
  | none => .next s
  | some (e, s) =>
    let p := e.packet
    let off := leField p.payload 0 4
    let len := leField p.payload 4 4
    let grant (h : Nat) : State :=
      let g : Grant := { tag := p.tag, cmd := h, offset := off, len := len, moved := 0, mine := false }
      { s with mbl := { s.mbl with grants := s.mbl.grants ++ [g] } }
    if len = 0 then .next s
    else if s.root then
      match s.mbl.fwd.find? (fun w => w.tag == p.tag) with
      | some w => .next ((grant w.cmd).pumpDown w.cmd p.tag)
      | none => .next s
    else
      match s.chainCmd p.tag with
      | some (h, _) => .next (State.sendAnswerUp h p.tag (len / 4096 + 1) (grant h))
      | none => .next s

/-- DATA_PACKET: data of a grant: the root writes it to host memory and grants more; the target gathers it, or takes it for the boot flash.
Data outside a grant is dropped (R304, R441, R443). -/
def execDataPacket (s : State) : Res :=
  match s.takeFirst (isType Pkt.data) with
  | none => .next s
  | some (e, t) =>
    let p := e.packet
    let n := p.payload.length
    let poison := p.flags.testBit 0
    match t.mbl.grants.find? (fun g => g.mine && g.tag == p.tag && g.offset + g.moved == p.offset && decide (g.moved + n ≤ g.len)) with
    | none => .next t
    | some g =>
      let c := t.cmd g.cmd
      if t.root then
        if t.fnLive c.id.fn = false then .next s
        else
          let t := (t.moveGrant g n).emitAll (t.bufferWrites c.id.fn c.data.src p.offset p.payload poison)
          let fwd := t.mbl.fwd.map (fun (x : Fwd) => if x.tag = p.tag then { x with taken := x.taken + n } else x)
          .next (({ t with mbl := { t.mbl with fwd := fwd } }).grantUp p.tag)
      else
        let t := t.moveGrant g n
        if c.op = Op.write ∧ c.phase = .admitted then .next (t.gatherBytes g.cmd p.offset p.payload poison)
        else if c.op = Op.fwDownload ∧ c.phase = .started then .next (t.downloadBytes g.cmd p.offset p.payload)
        else .next t

/-- RSP_PACKET: a forwarded command has ended: the root fills what R395 leaves it and queues the record. A CHAIN_TIMEOUT that follows from
its own failed read takes the status of R423. An ABORT waits for its target's record (R382, R440, R441, R443). -/
def execRspPacket (s : State) : Res :=
  match s.takeFirst (isType Pkt.rsp) with
  | none => .next s
  | some (e, s) =>
    let p := e.packet
    match s.mbl.fwd.find? (fun w => w.tag == p.tag) with
    | none => .next s
    | some w =>
      let b := p.payload
      let c := s.cmd w.cmd
      let status := b.getD 2 0
      let r : CmdResult :=
        { status := if status = Status.chainTimeout ∧ c.res.status ≠ 0 then c.res.status else status
          detail := leField b 6 2, done := leField b 8 4, index := leField b 12 4
          wide := if c.op = Op.load then (b.drop 8).take 8 else [] }
      let s := { s with mbl := { s.mbl with
        fwd := s.mbl.fwd.filter (fun x => x.tag != p.tag), grants := s.mbl.grants.filter (fun g => g.tag != p.tag) } }
      match c.target with
      | some t =>
        if (s.cmd? t).isSome then .next (s.setCmd w.cmd { c with phase := .started, res := r }) else .next (s.finish w.cmd r)
      | none => .next (s.finish w.cmd r)

/-- EVT_PACKET: an event from below goes to the root's event queue, or to its staging (R400, R401). One that tells of an activation that
failed at the Summit fails its FW_ACTIVATE (R504). -/
def execEvtPacket (s : State) : Res :=
  match s.takeFirst (isType Pkt.evt) with
  | none => .next s
  | some (e, s) =>
    let b := e.packet.payload
    let ev : EventRec := ⟨leField b 0 3, b.getD 3 0, leField b 4 2, leField b 6 2, leField b 8 8 % 2 ^ 63, padTo 16 (b.drop 16)⟩
    let s := if ev.code = 0x0E05 ∧ ev.payload.getD 1 0 = 1 then { s with fw := { s.fw with summit := match s.fw.summit with
      | some m => some { m with failed := true }
      | none => none } } else s
    if s.evtOpen = true ∧ s.events.staging.isEmpty = true then .next (s.writeEvent ev) else .next (s.stageEvent ev)

/-- DISCARD: the commands of a host function that came down the tree end as by its FLR, without a response (R383, R443). -/
def execDiscard (s : State) : Res :=
  match s.takeFirst (isMgmt Mgmt.discard) with
  | none => .next s
  | some (e, s) =>
    let f := (mgmtBody e.packet).getD 0 0
    let mine := s.allCmds.filter (fun c => match c.2.origin with
      | .chain fn _ => fn == f
      | .ring => false)
    let s := { s with mbl := { s.mbl with grants := s.mbl.grants.filter (fun g => !mine.any (fun c => c.1 == g.cmd)) } }
    .next (s.forEach mine (fun s c =>
      if c.2.survivesFlr then s.modCmd c.1 (fun c => { c with mute := true }) else s.discardCmd c.1))

/-- ORPHAN_TIMEOUT: MU has been down for ORPHAN_MS: every forwarded command here ends without a response, its undelivered LBAs pads
(R276, R456). -/
def execOrphanTimeout (s : State) : Res :=
  if s.root = true ∨ s.flag (F.MBL_PORT_STATUS_UP 0) = true then .next s
  else
    let mine := s.allCmds.filter (fun c => c.2.origin != .ring)
    let s := { s with mbl := { s.mbl with grants := s.mbl.grants.filter (fun g => !mine.any (fun c => c.1 == g.cmd)) } }
    .next (s.forEach mine (fun s c => s.discardCmd c.1))

/-- GRANT_HOLD: the window of a grant starts anew (R443); nothing else changes. -/
def execGrantHold (s : State) : Res :=
  match s.takeFirst (isMgmt Mgmt.grantHold) with
  | none => .next s
  | some (_, s) => .next s

/-- GRANT_HOLD_TIMER: HOLD_US has passed while the next DATA of a grant is still held back at the root, so a GRANT_HOLD leaves (R443). -/
def execGrantHoldTimer (tag : Nat) (s : State) : Res :=
  match s.mbl.fwd.find? (fun w => w.tag == tag),
      s.mbl.grants.find? (fun g => !g.mine && g.tag == tag && decide (g.moved < g.len)) with
  | some w, some g => .next (s.route (mgmtPacket s w.dest Mgmt.grantHold tag (leBytes 4 g.offset)))
  | _, _ => .next s

/-- XFER_WINDOW_EXPIRY: the target withdraws the grant and stops the command with CHAIN_TIMEOUT; XFER_TO of MU posts MBL_XFER_TIMEOUT
(R443, R458). -/
def execXferWindowExpiry (tag : Nat) (s : State) : Res :=
  if s.root then .next s
  else
    match s.mbl.grants.find? (fun g => g.mine && g.tag == tag) with
    | none => .next s
    | some g =>
      let s := { s with mbl := { s.mbl with grants := s.mbl.grants.filter (fun x => x.tag != tag) } }
      let s := s.stopCmd g.cmd Status.chainTimeout
      .next (s.raise (F.MBL_PORT_STATUS_XFER_TO 0) 0x0B04 (srcPort 0) ([0, 0] ++ leBytes 2 tag))

/-! ## Chain Time (R447–R449) -/

/-- A TIME packet: its place in the exchange and a stamp. -/
def timePacket (s : State) (step t : Nat) : Packet :=
  { type := Pkt.time, flags := 0, dest := 0, src := s.deviceId, tag := 0, offset := 0, payload := [step, 0, 0, 0] ++ leBytes 8 t }

/-- TIME_EXCHANGE: the parent sends t1, its Chain Time, down a link that is up. -/
def execTimeExchange (q : Fin 5) (s : State) : Res :=
  if q.val ≠ 0 ∧ (s.port q).phase = .up then .next (s.sendOn q (timePacket s 1 s.ct)) else .next s

/-- The child's end of an exchange: delay and offset, the step forward or the hold of the first one after link-up, a new rate correction,
which the manual leaves open within ±200 ppm, and the count of good exchanges (R448). -/
def State.steer (s : State) (t1 t2 t3 t4 : Nat) : State :=
  let first := s.mbl.firstTime
  let sum : Int := ((t2 : Int) - t1) + ((t4 : Int) - t3)
  let half := s.takeFree
  let s := half.2
  let delay : Int := (sum + (if sum % 2 = 0 then 0 else ((half.1 % 2 : Nat) : Int))) / 2 + s.sfld (F.MBL_PORT_ASYM_ASYM 0)
  let offset : Int := (t2 : Int) - t1 - delay
  let s := (s.sput (F.MBL_PORT_OFFSET_OFFSET 0) offset).sput (F.MBL_PORT_DELAY_DELAY 0) delay
  let rate := s.takeFree
  let s := rate.2.sput F.MBL_CT_STATUS_RATE (((rate.1 % 50001 : Nat) : Int) - 25000)
  let limit : Nat := if s.fld (F.MBL_PORT_STATUS_GEN 0) = 1 then 100 else 20
  let s := { s with mbl := { s.mbl with
    firstTime := false, goodTimes := if offset.natAbs ≤ limit then s.mbl.goodTimes + 1 else 0 } }
  if first = true ∧ offset < -1000000 then { s with ct := s.ct + offset.natAbs }
  else if first = true ∧ 0 < offset then { s with mbl := { s.mbl with holdCt := offset.natAbs } }
  else s

/-- TIME_PACKET: the next packet of an exchange is handled: the child stamps t2 and answers with t3; the parent stamps t4 and returns it; the
child steers. -/
def execTimePacket (s : State) : Res :=
  match s.takeFirst (isType Pkt.time) with
  | none => .next s
  | some (e, s) =>
    let t := leField e.packet.payload 4 8
    let q := e.port
    match e.packet.payload.getD 0 0 with
    | 1 =>
      if q ≠ 0 then .next s
      else .next ((s.modPort 0 (fun x => { x with t1 := t, t2 := e.stamp, t3 := s.ct, tOpen := true })).sendOn 0 (timePacket s 2 s.ct))
    | 2 => if q = 0 then .next s else .next (s.sendOn q (timePacket s 3 e.stamp))
    | 3 =>
      let x := s.port 0
      if q ≠ 0 ∨ x.tOpen = false then .next s
      else .next ((s.setPort 0 { x with tOpen := false }).steer x.t1 x.t2 x.t3 t)
    | _ => .next s

/-- MBL_CT_LOCKED: the offset has stayed within its limit for 16 exchanges in a row: SYNC is set and posted, and holdover is over
(R448, R449, R458). -/
def execMblCtLocked (s : State) : Res :=
  if s.mbl.goodTimes < 16 then .next s
  else
    let s := s.put F.MBL_CT_STATUS_HOLDOVER 0
    .next (s.raise F.MBL_CT_STATUS_SYNC 0x0B07 (srcPort 0) ([0, 0, 0, 0] ++ leBytes 4 (s.fld (F.MBL_PORT_OFFSET_OFFSET 0))))

/-- CT_LOAD: MBL_CT_LOAD_HI is written: the root's Chain Time is loaded, once and only forward (R447, R451). -/
def execCtLoad (value : Word) (s : State) : Res :=
  if s.root = false then .next s
  else
    let t := s.fld F.MBL_CT_LOAD_LO_CT + value.toNat * 2 ^ 32
    if s.mbl.ctLoaded = true ∨ t < s.ct then .next (s.put F.MBL_CT_STATUS_LOAD_REJECTED 1)
    else .next { s with ct := t, mbl := { s.mbl with ctLoaded := true, fractions := 0 } }

/-! ## Enumeration (R444, R446) -/

/-- The last ID that is ever assigned. -/
abbrev lastId : Nat := 0xFFFFFE

/-- The range of a port, and the first ID behind its spare ones. -/
def State.closeRange (s : State) (q lo next : Nat) : State :=
  (s.put (F.MBL_PORT_RANGE_LO_LO q) (min lo broadcastId)).put (F.MBL_PORT_RANGE_HI_HI q) (min (next - 1) lastId)

/-- A controller on a port gets no ID. -/
def State.idShort (s : State) (q n : Nat) : State :=
  s.raise (F.MBL_PORT_STATUS_ID_SHORT q) 0x0B05 (srcPort q) ([q, 0, 0, 0] ++ leBytes 4 n)

/-- A child is told its ID, the last ID of its range, the reserve and its depth. -/
def State.assign (s : State) (r : EnumRun) : State :=
  let depth := min 255 (s.fld F.MBL_ID_DEPTH + 1)
  let p := { mgmtPacket s r.next Mgmt.enumAssign 0 (leBytes 4 r.next ++ leBytes 4 r.last ++ [r.reserve % 256, depth]) with flags := 0 }
  s.sendOn r.port p

/-- The enumeration here is over: its limit stands; the root posts MBL_ENUM_DONE, another controller reports to its parent. -/
def State.enumEnd (s : State) (r : EnumRun) : State :=
  let s := { s with mbl := { s.mbl with enum := none } }
  let s := if r.solo then s else s.put F.MBL_LIMIT_LIMIT (min (r.next - 1) lastId)
  if s.root then
    let solo : Nat := [1, 2, 3, 4].foldl (fun (a : Nat) q => a + (s.port q).count) 0
    s.post 0x0B08 (srcPort 0) ([0, r.depth % 256, 0, 0] ++ leBytes 4 (1 + (if r.solo then solo else r.count)))
  else if r.solo then s
  else s.sendOn 0 (mgmtPacket s 0 Mgmt.enumReport 0
    (leBytes 4 r.next ++ leBytes 4 (r.count + 1) ++ [r.depth % 256, 0, 0, 0] ++ leBytes 4 r.short))

/-- Depth first over the downstream ports: a controller that answers is assigned the next ID and its report awaited; an RSX-4080 takes one
ID and reports nothing; every port keeps its reserve (R435, R444, R446); `fuel` bounds the ports. -/
def State.enumerate : (fuel : Nat) → State → EnumRun → State
  | 0, s, r => s.enumEnd r
  | fuel + 1, s, r =>
    if 4 < r.port then s.enumEnd r
    else
      let q := r.port
      let lo := r.next
      let skip (s : State) (r : EnumRun) : State :=
        if r.solo then s.enumEnd r
        else
          let next := r.next + r.reserve
          State.enumerate fuel (s.closeRange q lo next) { r with port := q + 1, next := next }
      if s.portOpen q = false then skip s r
      else if r.last < r.next then
        let n := max 1 (s.port q).count
        skip (s.idShort q n) { r with short := r.short + n }
      else if s.flag (F.MBL_PORT_STATUS_PARTNER_4080 q) then
        let s := (s.assign { r with reserve := 0 }).modPort q (fun x => { x with count := 1, depth := 1 })
        skip s { r with next := r.next + 1, count := r.count + 1, depth := max 1 r.depth }
      else
        let s := s.assign r
        { s with mbl := { s.mbl with enum := some r } }

/-- The enumeration of one port, into the IDs of its range (R446). -/
def State.enumPort (s : State) (q n : Nat) : State :=
  let lo := s.fld (F.MBL_PORT_RANGE_LO_LO q)
  let hi := s.fld (F.MBL_PORT_RANGE_HI_HI q)
  let size := hi + 1 - lo
  if s.mbl.enum.isSome = true ∨ s.portOpen q = false ∨ hi = 0 ∨ n = 0 then s
  else
    let r := min (s.fld F.MBL_CFG_RESERVE) ((size - n) / (4 * n))
    let s := s.modPort q (fun x => { x with count := n })
    s.enumerate 1 { port := q, solo := true, next := lo, last := hi, reserve := r }

/-- ENUMERATION: of the whole tree by the root, or of the subtree of `n` controllers that has come up on a port afterwards by the controller
of that port (R444, R446). -/
def execEnumeration (port : Option (Fin 5)) (n : Nat) (s : State) : Res :=
  match port with
  | none =>
    if s.root = false ∨ s.mbl.enum.isSome = true then .next s
    else
      let s := (s.put F.MBL_ID_DEVICE_ID 0).put F.MBL_ID_DEPTH 0
      .next (s.enumerate 5 { port := 1, solo := false, next := 1, last := lastId, reserve := s.fld F.MBL_CFG_RESERVE })
  | some q => if q.val = 0 then .next s else .next (s.enumPort q n)

/-- ENUM_ASSIGN: this controller takes the ID that its parent gives it, and enumerates what lies below it. -/
def execEnumAssign (s : State) : Res :=
  match s.takeFirst (isMgmt Mgmt.enumAssign) with
  | none => .next s
  | some (e, s) =>
    if e.port ≠ 0 ∨ s.root = true then .next s
    else
      let b := mgmtBody e.packet
      let base := leField b 0 4
      let s := (s.put F.MBL_ID_DEVICE_ID base).put F.MBL_ID_DEPTH (b.getD 9 0)
      let s := { s with mbl := { s.mbl with enum := none } }
      .next (s.enumerate 5 { port := 1, solo := false, next := base + 1, last := leField b 4 4, reserve := b.getD 8 0 })

/-- ENUM_REPORT: a child's subtree has its IDs, so its range is closed and the next port follows. Without a report, a port that has gone down
is passed over. -/
def execEnumReport (s : State) : Res :=
  match s.takeFirst (isMgmt Mgmt.enumReport) with
  | none =>
    match s.mbl.enum with
    | none => .next s
    | some r =>
      if s.portOpen r.port then .next s
      else
        let s := { s with mbl := { s.mbl with enum := none } }
        .next (s.enumerate 5 r)
  | some (e, s) =>
    match s.mbl.enum with
    | none => .next s
    | some r =>
      if e.port ≠ r.port then .next s
      else
        let b := mgmtBody e.packet
        let q := r.port
        let next := leField b 0 4
        let n := leField b 4 4
        let s := s.modPort q (fun x => { x with count := n, depth := b.getD 8 0 + 1 })
        let s := { s with mbl := { s.mbl with enum := none } }
        let r := { r with count := r.count + n, depth := max r.depth (b.getD 8 0 + 1), short := r.short + leField b 12 4 }
        if r.solo then .next (s.enumEnd r)
        else
          let lo := r.next
          .next (State.enumerate 4 (s.closeRange q lo (next + r.reserve)) { r with port := q + 1, next := next + r.reserve })

/-! ## Heartbeats and fences (R439, R455, R505) -/

/-- HEARTBEAT_SEND: a heartbeat with the protocol level on every link that is up; the child that sends none meanwhile misses one. -/
def execHeartbeatSend (s : State) : Res :=
  .next (s.forEach ((List.range 5).filter (fun q => (s.port q).phase == .up)) (fun s q =>
    let s := s.sendOn q (mgmtPacket s 0 Mgmt.heartbeat 0 [s.fld F.MBL_PROTO_LEVEL])
    if q = 0 then s else s.modPort q (fun x => { x with missed := x.missed + 1 })))

/-- HEARTBEAT: the partner is there; its protocol level is compared (R439, R505). -/
def execHeartbeat (s : State) : Res :=
  match s.takeFirst (isMgmt Mgmt.heartbeat) with
  | none => .next s
  | some (e, s) =>
    .next ((s.modPort e.port (fun x => { x with missed := 0, partnerLevel := (mgmtBody e.packet).getD 0 0 })).checkLevel e.port)

/-- HEARTBEAT_LOSS: HB_N heartbeats in a row are missing from a child, which is fenced (R455, R458). -/
def execHeartbeatLoss (q : Fin 5) (s : State) : Res :=
  if q.val = 0 ∨ s.flag (F.MBL_PORT_STATUS_UP q) = false ∨ s.flag (F.MBL_PORT_STATUS_FENCED q) = true ∨
      (s.port q).missed < max 1 (s.fld F.MBL_CFG_HB_N) then .next s
  else .next ((s.fence q).post 0x0B02 (srcPort q) [q, 1])

/-- FENCE_CLR: the host unfences a port, whose subtree is enumerated anew (R446, R455). -/
def execFenceClr (q : Fin 5) (s : State) : Res :=
  if q.val = 0 ∨ s.flag (F.MBL_PORT_STATUS_FENCED q) = false then .next s
  else
    let s := (s.put (F.MBL_PORT_STATUS_FENCED q) 0).modPort q (fun x => { x with missed := 0 })
    .next (s.enumPort q (max 1 (s.port q).count))

end Sys2Proof.Machine
end

