-- ==== Sys2Proof/Machine/Procs.lean ====
section
/-!
DEFINITION. Processors and the code that they run, stopping whatever a station does, and the station reset (R32, R265, R292, R336, R383, R465,
R488, R491, R508, R520, R521).
-/
namespace Sys2Proof.Machine

/-! ## Processors (R491, R507, R508) -/

/-- The class of a processor by its bitmap number: 0 MC, 1 DS, 2 LP, 3 DP. -/
def procClass (p : Nat) : Nat := if p < 16 then 2 else if p < 24 then 1 else if p < 32 then 3 else 0

/-- The requester code of a processor (R313). -/
def procCode (p : Nat) : Nat :=
  if p < 16 then 0xAC + p else if p < 24 then 0xA4 + (p - 16) else if p < 32 then 0xBC + (p - 24) else 0xA0 + (p - 32)

/-- The section of a class in an image. -/
def FwImage.sectionOf (im : FwImage) (k : Nat) : FwSection := im.sections.getD k { type := k + 1 }

/-- The section that a code slot gives a class. -/
def State.codeSection (s : State) (slot k : Nat) : FwSection :=
  match s.codeImage slot with
  | some im => im.sectionOf k
  | none => { type := k + 1 }

/-- A processor's bit set to a code slot. -/
def State.setCode (s : State) (p slot : Nat) : State :=
  let put (f : Fld) (i : Nat) : State :=
    let v := s.fld f
    s.put f (if slot = 1 then v ||| 2 ^ i else v - (v &&& 2 ^ i))
  if p < 32 then put F.FWU_INFORCE_LO_CODE_SLOT p else put F.FWU_INFORCE_HI_CODE_SLOT (p - 32)

/-- A processor marked as still to be updated, or not (R501). -/
def State.setLeft (s : State) (p : Nat) (on : Bool) : State :=
  let put (f : Fld) (i : Nat) : State :=
    let v := s.fld f
    s.put f (if on then v ||| 2 ^ i else v - (v &&& 2 ^ i))
  if p < 32 then put F.FWU_PENDING_LO_PENDING p else put F.FWU_PENDING_HI_PENDING (p - 32)

/-- The code slot in force of a class. -/
def State.forceOf (s : State) (k : Nat) : Nat := Table.at 0 s.fw.force k

/-- The sections that the processors of a class run, or the one in force where none runs. -/
def State.classSections (s : State) (k : Nat) : List FwSection :=
  let ps := s.running.filter (fun p => procClass p == k)
  if ps.isEmpty then [s.codeSection (s.forceOf k) k] else ps.map (fun p => s.codeSection (s.codeSlot p) k)

def leastOf (xs : List Nat) : Nat := xs.foldl min (xs.headD 0)

/-- The lowest interface levels and versions in force (R508). -/
def State.showVersions (s : State) : State :=
  let level (k : Nat) : Nat := leastOf ((s.classSections k).map FwSection.ifLevel)
  let version (k : Nat) : Nat := leastOf ((s.classSections k).map FwSection.version)
  let s := (((s.put F.FWU_LEVEL_MC (level 0)).put F.FWU_LEVEL_DS (level 1)).put F.FWU_LEVEL_LP (level 2)).put F.FWU_LEVEL_DP (level 3)
  let vs := (List.range 4).map version
  s.forEach (List.range 4) (fun s k => s.put (F.FWU_VER_VERSION k) (vs.getD k 0))

/-- The code slot on which a processor of a class is started: the one in force, or during a rolling activation of its class the one with
the lower version (R465). -/
def State.startSlot (s : State) (k : Nat) : Nat :=
  let a := s.forceOf k
  match s.fw.roll with
  | none => a
  | some r =>
    let b := s.fw.stagedIn
    if r.classes.testBit k = true ∧ (s.codeSection b k).version < (s.codeSection a k).version then b else a

/-- The processors of a station: DP s, LP 2s, LP 2s + 1, DS s (R498). -/
def stationProcs (st : Nat) : List Nat := [24 + st, 2 * st, 2 * st + 1, 16 + st]

/-- The processors of a station started on the code in force; they are then up to date where no rolling activation runs (R465, R501). -/
def State.startProcs (s : State) (st : Nat) : State :=
  (s.forEach (stationProcs st) (fun s p =>
    let s := s.setCode p (s.startSlot (procClass p))
    if s.fw.roll.isNone then s.setLeft p false else s)).showVersions

/-! ## Stopping what a station or the controller does (R381, R383, R488) -/

/-- A command stopped with the status of its cause, by the stop of its kind: a MOVE and a segment come to rest, a LOAD ends its binding, an
UNLOAD and a calibration are abandoned. -/
def State.stopAny (s : State) (h status : Nat) : State :=
  let c := s.cmd h
  if c.live = false then s
  else if c.phase ≠ .admitted then s.stopCmd h status
  else if c.op = Op.move ∨ c.op = Op.lSegment then s.abortMove h status
  else if c.op = Op.load then s.failLoad h status
  else if c.op = Op.unload then s.failUnload h status
  else if c.op = Op.calibrate then
    match [2 * c.station, 2 * c.station + 1].find? (fun n => (s.calRun n).cmd == some h && (s.calRun n).proc != 0) with
    | some n => s.abortCal n 2 status
    | none => s.endCmd h false { status := status }
  else s.stopCmd h status

/-- The decode work of a station is discarded, its FILLING entries become FREE, and what waits for them waits anew (R265, R336). -/
def State.dropFilling (s : State) (st : Nat) : State :=
  s.forEach entryNumbers (fun s e =>
    let x := s.entry e
    if x.station ≠ st ∨ x.st = .free then s
    else if x.st = .filling ∧ x.readers.isEmpty = true then s.freeEntry e
    else s.discardWork e)

/-- The station reset begins (R521 steps 1 to 3): commands end RESET_ABORTED but an admitted UNLOAD, gates close at the next sector boundary,
procedures are abandoned, decode work goes and the processors are restarted. One that is running absorbs it; outside ON it is ignored; during
an activation of the station it waits (R501). -/
def State.stationReset (s : State) (st : Nat) : State :=
  if s.fld (F.HPC_SLOT_STATUS_STATE st) ≠ 4 ∨ s.fw.stationResets.contains st = true then s
  else
    let busy := match s.fw.roll with
      | some r => r.current.isSome && r.station == some st
      | none => false
    if busy then
      if s.fw.resetAsked.contains st then s else { s with fw := { s.fw with resetAsked := s.fw.resetAsked ++ [st] } }
    else
      let s := s.forEach (s.stationCmds st) (fun s e =>
        if e.2.op = Op.unload ∧ e.2.phase = .admitted then s else s.stopAny e.1 Status.resetAborted)
      let s := s.forEach [2 * st, 2 * st + 1] (fun s n => (s.stopAtBoundary n).abortCal n 2 Status.resetAborted)
      let s := s.dropFilling st
      let s := { s with fw := { s.fw with stationResets := s.fw.stationResets ++ [st] } }
      s.put F.SYS_RESET_STATUS_STN_BUSY (s.fld F.SYS_RESET_STATUS_STN_BUSY ||| 2 ^ st)

/-- STATION_RESET: a write of SYS_RESET_CTRL.STATION. -/
def execStationReset (st : Fin 8) (s : State) : Res := .next (s.stationReset st)

/-- A pickup is brought back by its restarted LP: from FAULT to OFF, one that followed or sought its track through ALIGN (R129, R521). -/
def State.bringBack (s : State) (n : Nat) : State :=
  let p := s.puState n
  if p = Pu.fault then s.enter n Pu.off
  else if p = Pu.follow ∨ p = Pu.belay ∨ p = Pu.tjump ∨ p = Pu.align then (s.backToConfirmed n).enter n Pu.align
  else s

/-- RESET_DONE: the station reset ends; the pickups of an admitted UNLOAD go on parking (R521, R528). -/
def execResetDone (st : Fin 8) (s : State) : Res :=
  if s.fw.stationResets.contains st.val = false then .next s
  else
    let unloading := (s.stationCmds st).any (fun e => e.2.op == Op.unload && e.2.phase == .admitted)
    let s := s.when (!unloading) (fun s => s.forEach [2 * st.val, 2 * st.val + 1] State.bringBack)
    let s := { s with fw := { s.fw with stationResets := s.fw.stationResets.filter (fun x => x != st.val) } }
    let busy := s.fld F.SYS_RESET_STATUS_STN_BUSY
    .next ((s.put F.SYS_RESET_STATUS_STN_BUSY (busy - (busy &&& 2 ^ st.val))).post 0x0F17 srcSystem [st])

end Sys2Proof.Machine
end

