-- ==== Sys2Proof/Machine/Slots.lean ====
section
/-!
DEFINITION. Hot-plug slots: their states, bringing a station or a child shelf up, the drain, and surprise removal (R460–R472, R516).
-/
namespace Sys2Proof.Machine

/-! ## States (R463) -/
namespace Slot
abbrev empty : Nat := 0
abbrev off : Nat := 1
abbrev waitOn : Nat := 2
abbrev powering : Nat := 3
abbrev on : Nat := 4
abbrev waitOff : Nat := 5
abbrev draining : Nat := 6
abbrev fault : Nat := 7
end Slot

def State.slotState (s : State) (k : Nat) : Nat := s.fld (F.HPC_SLOT_STATUS_STATE k)

/-- A slot's PWR_EN is high. -/
def slotHigh (v : Nat) : Bool := decide (3 ≤ v) && decide (v ≤ 6)

/-- A bit of a bitmap set or cleared. -/
def withBit (v i : Nat) (on : Bool) : Nat := if on then v ||| 2 ^ i else v - (v &&& 2 ^ i)

/-- A slot's state entered; PWR_EN follows it in HPC_SUMMARY, and PWR_REQ shows the direction in which power goes. -/
def State.toSlot (s : State) (k v : Nat) : State :=
  let s := s.put (F.HPC_SLOT_STATUS_STATE k) v
  let s := s.setFlag (F.HPC_SLOT_CTRL_PWR_REQ k) (v == 3 || v == 4 || v == 5)
  s.put F.HPC_SUMMARY_POWERED (withBit (s.fld F.HPC_SUMMARY_POWERED) k (slotHigh v))

/-- A slot's qualified presence (R462). -/
def State.setPresent (s : State) (k : Nat) (on : Bool) : State :=
  (s.setFlag (F.HPC_SLOT_STATUS_PRESENT k) on).put F.HPC_SUMMARY_PRESENT (withBit (s.fld F.HPC_SUMMARY_PRESENT) k on)

/-- POWERING is entered, or refused while the pace loop is not closed (R464, R516). -/
def State.powerUp (s : State) (k : Nat) : State :=
  if s.flag F.SYS_PACE_STATUS_CLOSED then s.toSlot k Slot.powering
  else (s.toSlot k Slot.off).put (F.HPC_SLOT_STATUS_REJECTED k) 1

/-! ## A station without power (R69, R151, R179, R466, R468) -/

/-- Every output of a station driven low: its pickups' emission, actuators and links, its sled bridges and its spindle; the loop processors
hold nothing of it any more. -/
def State.darken (s : State) (st : Nat) : State :=
  let s := s.forEach [2 * st, 2 * st + 1] (fun s n =>
    let s := s.holdLanes n
    let s := s.forEach (List.range 4) (fun s l => s.setMode n l 0)
    let s := (s.put (F.SRV_DAC_FT_FOC n) 0).put (F.SRV_DAC_FT_TRK n) 0
    let s := (s.put (F.SRV_DAC_TLT_TLT n) 0).put (F.SRV_PU_STATE_STATE n) Pu.off
    let s := (s.put (F.SRV_PU_STATE_BELAY_CAUSE n) 0).put (F.SRV_PU_STATE_RECOVER_COUNT n) 0
    let s := ((s.put (F.SRV_LDD_CTRL_LDEN_REQ n) 0).put (F.SRV_LDD_STATUS_LDEN n) 0).put (F.SRV_LDD_STATUS_LINK_UP n) 0
    let s := (s.put (F.SRV_LP_STATUS_BELAY_LATE n) 0).setPickup n {}
    let p := s.lp n
    let s := s.setLp n { trkLp := p.trkLp, trace := p.trace }
    let m := s.motor n
    let s := (s.put (F.MOT_GEAR_CTRL_ENGAGE n) 0).setMotor n { pos := m.pos, target := m.pos, emitted := m.emitted }
    s.showMotor n)
  let x := s.spindle st
  let s := ((s.put (F.SPN_CTRL_RUN st) 0).put (F.SPN_STATE_SPEED st) 0).spnEnter st Spn.off .off
  s.setSpindle st { master := x.master, angle := x.angle }

/-- Blocks of a station's disc whose gathered data belongs to WRITEs that have completed, and that are not on the disc (R468). -/
def State.lostBlocks (s : State) (st : Nat) : Nat :=
  (entryNumbers.filter (fun e =>
    let x := s.entry e
    x.station == st && x.dirty && x.sectors.any (fun y => y.2.st == .gathered && !y.2.pad && !(s.cmd y.2.owner).live))).length

/-- Every command of a station ends with STATION_ABSENT and what it has done so far; a calibration is abandoned. -/
def State.emptyQueue (s : State) (st : Nat) : State :=
  let s := s.forEach [2 * st, 2 * st + 1] (fun s n => s.abortCal n 2 Status.stationAbsent)
  s.forEach (s.stationCmds st) (fun s e => s.stopAny e.1 Status.stationAbsent)

/-- What the controller kept of a station is forgotten: bindings, blocks and entries of its disc, frontiers, calibration records (R466, R468,
R485). -/
def State.forgetStation (s : State) (st : Nat) : State :=
  let s := s.forEach entryNumbers (fun s e =>
    if (s.entry e).station = st ∧ (s.entry e).st ≠ .free then s.freeEntry e else s)
  let entries := s.recording.blocks.filterMap (fun (r : RecBlock) => if r.station = st then some r.entry else none)
  let s := { s with
    recording := { s.recording with
      blocks := s.recording.blocks.filter (fun r => r.station != st)
      padWait := s.recording.padWait.filter (fun w => w.station != st) }
    cipher := { s.cipher with work := s.cipher.work.filter (fun w =>
      !((w.kind == EngineKind.sealSector || w.kind == EngineKind.passSector) && entries.contains w.entry)) }
    rings := { s.rings with bound := s.rings.bound.filter (fun e => e.2 != st + 1) }
    calib := { s.calib with
      pickups := s.calib.pickups.filter (fun e => e.1 / 2 != st)
      sets := s.calib.sets.filter (fun e => e.1 / 8 != st)
      qlowAt := s.calib.qlowAt.filter (fun e => e.1 / 16 != st) }
    fw := { s.fw with
      stationResets := s.fw.stationResets.filter (fun x => x != st)
      resetAsked := s.fw.resetAsked.filter (fun x => x != st)
      stationHold := s.fw.stationHold.filter (fun x => x != st) } }
  let busy := s.fld F.SYS_RESET_STATUS_STN_BUSY
  let s := s.put F.SYS_RESET_STATUS_STN_BUSY (busy - (busy &&& 2 ^ st))
  ((s.forgetDisc st).showCal st).setStation st {}

/-- A station leaves service: by its drain (0), removal (1), power fault (2) or drain timeout (3); what it has lost is told (R468, R469). -/
def State.stationGone (s : State) (st cause : Nat) : State :=
  let lost := s.lostBlocks st
  let s := s.emptyQueue st
  let s := s.forEach [2 * st, 2 * st + 1] (fun s n => s.breakRun n)
  let s := (s.darken st).forgetStation st
  let s := s.when (decide (cause ≠ 0) && decide (0 < lost)) (fun s =>
    s.post 0x0103 (srcStation st) ([st, 0] ++ leBytes 2 lost))
  s.post 0x0102 (srcStation st) [st, cause]

/-- What a slot loses with its power (R467, R468): a station in service leaves it, one in bring-up goes dark, a child's port is down. -/
def State.slotLoss (s : State) (k old cause : Nat) : State :=
  if 8 ≤ k then s.portDown (k - 7) 2
  else if old = Slot.powering then (s.darken k).setStation k {}
  else s.stationGone k cause

/-! ## The drain (R466) -/

/-- The drain of a station goes as far as it can: admitted commands run on, the disc becomes clean and comes to rest, and then the queue is
emptied, the outputs are low and power goes. A child shelf has none (R467). -/
def State.drainStep (s : State) (k : Nat) : State :=
  if s.slotState k ≠ Slot.draining then s
  else if 8 ≤ k then (((s.toSlot k Slot.off).portDown (k - 7) 2)).post 0x0C05 (srcSlot k) [k]
  else if (s.stationCmds k).any (fun e => e.2.phase == .admitted) then s
  else
    let x := s.station k
    let m := x.mslot.getD 0
    let s := if x.disc.isSome then s.closePartials k m else s
    if x.disc.isSome = true ∧ s.discDirty k m = true then s
    else
      let s := if x.disc.isSome then s.discAway k
        else if s.flag (F.SPN_CTRL_RUN k) then s.restStation k true else s
      if s.atRest k = false then s
      else ((s.stationGone k 0).toSlot k Slot.off).post 0x0C05 (srcSlot k) [k]

/-- DRAINING is entered: the queue stops admitting (R466 step 1). -/
def State.startDrain (s : State) (k : Nat) : State :=
  let s := s.toSlot k Slot.draining
  if 8 ≤ k then s else (s.modStation k (fun x => { x with drainWait := true })).drainStep k

/-- SLOT_DRAIN_DONE: the drain goes on to its end (R464, R466, R467). -/
def execSlotDrainDone (k : Fin 12) (s : State) : Res := .next (s.drainStep k)

/-- SLOT_DRAIN_TIMEOUT: DRAIN_S has passed: the drain ends as a surprise removal does (R466). -/
def execSlotDrainTimeout (k : Fin 12) (s : State) : Res :=
  if s.slotState k ≠ Slot.draining then .next s
  else .next (((s.slotLoss k Slot.draining 3).toSlot k Slot.off).post 0x0C05 (srcSlot k) [k])

/-! ## Inputs and requests (R464) -/

/-- SLOT_INSERTION. -/
def execSlotInsertion (k : Fin 12) (s : State) : Res :=
  let v := s.slotState k
  if v = Slot.empty then
    let s := (s.setPresent k true).raise (F.HPC_SLOT_STATUS_PRESENT_CHG k) 0x0C01 (srcSlot k) [k, 1]
    .next (if s.flag (F.HPC_SLOT_CFG_AUTO_ON k) then s.powerUp k else s.toSlot k Slot.off)
  else if v = Slot.fault then .next (s.setPresent k true)
  else .next s

/-- SLOT_REMOVAL: a surprise where power is on (R464, R468). -/
def execSlotRemoval (k : Fin 12) (s : State) : Res :=
  let v := s.slotState k
  if slotHigh v then
    let s := (s.setPresent k false).raise (F.HPC_SLOT_STATUS_SURPRISE k) 0x0C07 (srcSlot k) [k, v]
    .next ((s.toSlot k Slot.empty).slotLoss k v 1)
  else if v = Slot.off ∨ v = Slot.waitOn then
    let s := (s.setPresent k false).raise (F.HPC_SLOT_STATUS_PRESENT_CHG k) 0x0C01 (srcSlot k) [k, 0]
    .next (s.toSlot k Slot.empty)
  else if v = Slot.fault then .next (s.setPresent k false)
  else .next s

/-- SLOT_BUTTON: a press starts a request, a second one cancels it. -/
def execSlotButton (k : Fin 12) (s : State) : Res :=
  let v := s.slotState k
  if v = Slot.off then .next ((s.toSlot k Slot.waitOn).post 0x0C02 (srcSlot k) [k, v])
  else if v = Slot.on then .next ((s.toSlot k Slot.waitOff).post 0x0C02 (srcSlot k) [k, v])
  else if v = Slot.waitOn then .next ((s.toSlot k Slot.off).post 0x0C03 (srcSlot k) [k])
  else if v = Slot.waitOff then .next ((s.toSlot k Slot.on).post 0x0C03 (srcSlot k) [k])
  else .next s

/-- SLOT_ABORT_REQ: ABORT_REQ written 1. -/
def execSlotAbortReq (k : Fin 12) (s : State) : Res :=
  let v := s.slotState k
  if v = Slot.waitOn then .next ((s.toSlot k Slot.off).post 0x0C03 (srcSlot k) [k])
  else if v = Slot.waitOff then .next ((s.toSlot k Slot.on).post 0x0C03 (srcSlot k) [k])
  else .next s

/-- SLOT_POWER_FAULT: power goes, and with it what the slot carried. -/
def execSlotPowerFault (k : Fin 12) (s : State) : Res :=
  let v := s.slotState k
  if slotHigh v then
    let s := (s.toSlot k Slot.fault).raise (F.HPC_SLOT_STATUS_PWR_FAULT k) 0x0C06 (srcSlot k) [k, 0]
    .next (s.slotLoss k v 2)
  else .next s

/-- SLOT_BLINK_EXPIRY: BLINK_S seconds have passed. -/
def execSlotBlinkExpiry (k : Fin 12) (s : State) : Res :=
  let v := s.slotState k
  if v = Slot.waitOn then .next (s.powerUp k)
  else if v = Slot.waitOff then .next (s.startDrain k)
  else .next s

/-- PWR_REQ_SET: PWR_REQ written 1 (R464, R516). -/
def execPwrReqSet (k : Fin 12) (s : State) : Res :=
  if s.slotState k = Slot.off then .next (s.powerUp k) else .next (s.put (F.HPC_SLOT_STATUS_REJECTED k) 1)

/-- PWR_REQ_CLEAR: PWR_REQ written 0; in any state but ON the write is ignored. -/
def execPwrReqClear (k : Fin 12) (s : State) : Res :=
  if s.slotState k = Slot.on ∧ s.flag F.SYS_PACE_STATUS_CLOSED = true then .next (s.startDrain k)
  else .next (s.put (F.HPC_SLOT_STATUS_REJECTED k) 1)

/-- SLOT_FAULT_CLEAR: PWR_FAULT is cleared by the host, and a slot in FAULT leaves it. -/
def execSlotFaultClear (k : Fin 12) (s : State) : Res :=
  let s := s.put (F.HPC_SLOT_STATUS_PWR_FAULT k) 0
  if s.slotState k = Slot.fault then
    .next (s.toSlot k (if s.flag (F.HPC_SLOT_STATUS_PRESENT k) then Slot.off else Slot.empty))
  else .next s

/-! ## Bring-up (R465) -/

/-- A default loop set: its input, enables and limits as the manual gives them, the rest as the image does. -/
def State.loadLoopSet (s : State) (n l : Nat) : State :=
  let sel := [1, 3, 5, 10].getD l 0
  let en := if l < 2 then 0x100F else 3
  let lim := [1932735283, 1932735283, 1610612736, 4194304].getD l 0
  let s := (s.put (F.SRV_LOOP_IN_SEL_A n l) sel).put (F.SRV_LOOP_IN_SEL_B n l) 0
  let s := (s.put (F.SRV_LOOP_WA_C n l) (2 ^ 30)).put (F.SRV_LOOP_WB_C n l) 0
  let s := ((s.put (F.SRV_LOOP_OFFSET_OFFSET n l) 0).put (F.SRV_LOOP_SHIFT_S_A n l) 30).put (F.SRV_LOOP_SHIFT_S_B n l) 0
  let s := (s.put (F.SRV_LOOP_GAIN_C n l) (1 + Config.loopDefault l 0 % (2 ^ 31 - 1))).put (F.SRV_LOOP_SHIFT_S_G n l) (Config.loopDefault l 1)
  let s := (s.put (F.SRV_LOOP_LIM_HI_LIM_HI n l) lim).sput (F.SRV_LOOP_LIM_LO_LIM_LO n l) (-(lim : Int))
  let s := s.forEach ((List.range 14).filter (fun k => en.testBit k)) (fun s k =>
    let v (i : Nat) : Nat := Config.loopDefault l (2 + 6 * k + i)
    let s := ((s.put (F.SRV_SECT_B0_C n l k) (v 0)).put (F.SRV_SECT_B1_C n l k) (v 1)).put (F.SRV_SECT_B2_C n l k) (v 2)
    ((s.put (F.SRV_SECT_A1_C n l k) (v 3)).put (F.SRV_SECT_A2_C n l k) (v 4)).put (F.SRV_SECT_SHIFT_S n l k) (v 5))
  let s := s.put (F.SRV_LOOP_SECT_EN_EN n l) en
  (s.modLp n (fun p => p.setLoop l { p.loop l with writes := (p.loop l).writes ++ [(en, none)] })).updateCost n

/-- SLOT_SETTLED: SETTLE_MS after PWR_EN: a station's processors are started, its default loop sets loaded and its LDD links trained; a child's
port trains. -/
def execSlotSettled (k : Fin 12) (s : State) : Res :=
  if s.slotState k ≠ Slot.powering then .next s
  else if 8 ≤ k.val then
    let q := k.val - 7
    if s.portMayTrain q = true ∧ (s.port q).phase = .idle then .next (s.modPort q (fun x => { x with phase := .training })) else .next s
  else
    let s := s.startProcs k
    .next (s.forEach [2 * k.val, 2 * k.val + 1] (fun s n =>
      let s := s.forEach (List.range 4) (fun s l => s.loadLoopSet n l)
      (s.put (F.SRV_LDD_CTRL_LINK_EN n) 1).trainLdd n))

/-- The bring-up of a slot is complete: both LDD links are up, or the port is. -/
def State.broughtUp (s : State) (k : Nat) : Bool :=
  if 8 ≤ k then s.flag (F.MBL_PORT_STATUS_UP (k - 7))
  else s.flag (F.SRV_LDD_STATUS_LINK_UP (2 * k)) && s.flag (F.SRV_LDD_STATUS_LINK_UP (2 * k + 1))

/-- SLOT_BRINGUP_DONE: the slot is ON; a station is empty and in service, and joins a rolling activation that runs (R465, R501). -/
def execSlotBringupDone (k : Fin 12) (s : State) : Res :=
  if s.slotState k ≠ Slot.powering ∨ s.broughtUp k = false then .next s
  else
    let s := s.toSlot k Slot.on
    let s := if 8 ≤ k.val then s
      else
        let s := (s.setStation k { state := 1 }).showVersions
        let s := { s with fw := { s.fw with roll := match s.fw.roll with
          | some r => some (if r.stations.contains k.val then r else { r with stations := r.stations ++ [k.val] })
          | none => none } }
        s.post 0x0101 (srcStation k) [k]
    .next (s.post 0x0C04 (srcSlot k) [k])

/-- SLOT_BRINGUP_TIMEOUT: bring-up is not complete in time. -/
def execSlotBringupTimeout (k : Fin 12) (s : State) : Res :=
  if s.slotState k ≠ Slot.powering then .next s
  else
    let s := s.slotLoss k Slot.powering 2
    .next ((s.toSlot k Slot.fault).raise (F.HPC_SLOT_STATUS_BRINGUP_FAIL k) 0x0C06 (srcSlot k) [k, 1])

end Sys2Proof.Machine
end

