-- ==== Sys2Proof/Machine/Power.lean ====
section
/-!
DEFINITION. Rails, the pace loop, PMBus, junction temperature, the full device reset and the boot sequence (R509–R528, R538).
-/
namespace Sys2Proof.Machine

/-! ## The boot-control block (R516, R524) -/

/-- The copy in force: the one with the higher sequence number among those whose CRC matches. -/
def State.bootCopy (s : State) : Option BootCopy :=
  match s.fw.bootA.valid, s.fw.bootB.valid with
  | true, true => some (if s.fw.bootA.seq < s.fw.bootB.seq then s.fw.bootB else s.fw.bootA)
  | true, false => some s.fw.bootA
  | false, true => some s.fw.bootB
  | false, false => none

/-- The older copy written from the one in force, changed, with the next sequence number. -/
def State.writeBoot (s : State) (f : BootCopy → BootCopy) : State :=
  let old := s.bootCopy.getD {}
  let new := { f old with valid := true, seq := (old.seq + 1) % 2 ^ 32 }
  let overA := !s.fw.bootA.valid || (s.fw.bootB.valid && decide (s.fw.bootA.seq < s.fw.bootB.seq))
  { s with fw := if overA then { s.fw with bootA := new } else { s.fw with bootB := new } }

/-- A boot slot written for the next full device reset. -/
def State.writeBootSlot (s : State) (slot : Nat) : State :=
  (s.writeBoot (fun c => { c with slot := slot })).put F.FWU_BOOT_SLOT slot

/-! ## Full device reset (R520, R523) -/

/-- Causes of SYS_RESET_STATUS. -/
abbrev causePowerOn : Nat := 0
abbrev causePerst : Nat := 1
abbrev causeTree : Nat := 2
abbrev causeThermal : Nat := 3
abbrev causeBrownOut : Nat := 4
abbrev causeCrystal : Nat := 5

/-- Everything at its reset value; the boot flash stands. The reset is held until its release. -/
def State.fullReset (s : State) (cause : Nat) : State :=
  let rails := s.fld F.SYS_RAIL_STATUS_IN_RANGE
  let fw : Firmware :=
    { flash := s.fw.flash, bootA := s.fw.bootA, bootB := s.fw.bootB, resetHeld := s.fw.resetHeld ++ [cause] }
  let t : State := { root := s.root, free := s.free, sent := s.sent, pending := s.pending, fw := fw }
  (t.put F.SYS_RESET_STATUS_CAUSE cause).put F.SYS_RAIL_STATUS_IN_RANGE rails

/-- POWER_ON: no rail has been up before. -/
def execPowerOn (s : State) : Res := .next ((s.fullReset causePowerOn).put F.SYS_RAIL_STATUS_IN_RANGE 0)

/-- BROWN_OUT: a rail, by its place in R509, has fallen below its threshold. -/
def execBrownOut (rail : Fin 8) (s : State) : Res :=
  let s := s.fullReset causeBrownOut
  .next (s.put F.SYS_RAIL_STATUS_IN_RANGE (withBit (s.fld F.SYS_RAIL_STATUS_IN_RANGE) rail false))

/-- CRYSTAL_LOSS. -/
def execCrystalLoss (s : State) : Res := .next (s.fullReset causeCrystal)

/-- PCIE_PERST_ASSERT: the external full-reset input of every controller (R522). -/
def execPciePerstAssert (s : State) : Res := .next (s.fullReset causePerst)

/-- The junction temperature of a code of SYS_TEMP.TJ, in 0.25 °C. -/
def quarterDegrees (tj : BitVec 12) : Int := toSigned 12 tj.toNat

/-- THERMAL_TRIP: the highest junction temperature is above +145 °C. -/
def execThermalTrip (tj : BitVec 12) (s : State) : Res :=
  let s := s.put F.SYS_TEMP_TJ tj.toNat
  if 580 < quarterDegrees tj then .next (s.fullReset causeThermal) else .next s

/-- THERMAL_WARN: the highest junction temperature is told, and one above SYS_THERM.WARN sets THERM_WARN. -/
def execThermalWarn (tj : BitVec 12) (s : State) : Res :=
  let s := s.put F.SYS_TEMP_TJ tj.toNat
  if ((4 * min 140 (s.fld F.SYS_THERM_WARN) : Nat) : Int) < quarterDegrees tj then
    .next (s.raise F.SYS_PACE_STATUS_THERM_WARN 0x0F16 srcSystem (leBytes 2 tj.toNat))
  else .next s

/-! ## PMBus (R517, R518) -/

/-! The commands of R517. -/
namespace Pmb
abbrev operation : Nat := 0x01
abbrev clearFaults : Nat := 0x03
abbrev voutMode : Nat := 0x20
abbrev voutCommand : Nat := 0x21
abbrev statusWord : Nat := 0x79
abbrev readVout : Nat := 0x8B
end Pmb

/-- A transaction sent to the regulator, and awaited. -/
def State.pmbSend (s : State) (op : PmbOp) : State :=
  let s := s.emit (.pmbus (s.fld F.SYS_PMB_CFG_ADDR) op.code op.data)
  { s with power := { s.power with pmb := s.power.pmb ++ [op] } }

/-- PMB_FAULT for a command code: from then on the last request is held. -/
def State.pmbFault (s : State) (code : Nat) : State := s.raise F.SYS_PACE_STATUS_PMB_FAULT 0x0F14 srcSystem [code]

/-- A transaction has failed: it is sent again, twice at most. -/
def State.pmbFailed (s : State) (op : PmbOp) : State :=
  if 2 ≤ op.fails then s.pmbFault op.code else s.pmbSend { op with fails := op.fails + 1 }

/-- What a transaction that has ended well does: VOUT_MODE is checked, STATUS_WORD raises PMB_ALERT and has the faults cleared, READ_VOUT is
reported in mV. -/
def State.pmbDone (s : State) (op : PmbOp) (data : Nat) : State :=
  if op.code = Pmb.voutMode then
    let n := 32 - data % 32
    if bitsOf data 5 3 = 0 ∧ 9 ≤ n ∧ n ≤ 12 then { s with power := { s.power with exponent := some n } } else s.pmbFault op.code
  else if op.code = Pmb.statusWord then
    (s.raise F.SYS_PACE_STATUS_PMB_ALERT 0x0F15 srcSystem (leBytes 2 data)).pmbSend ⟨Pmb.clearFaults, 0, 0⟩
  else if op.code = Pmb.readVout then
    match s.power.exponent with
    | some n => s.put F.SYS_VCORE_STATUS_READ ((data * 1000 + 2 ^ (n - 1)) / 2 ^ n)
    | none => s
  else s

/-- PMBUS_TRANSACTION_DONE: the oldest transaction under way of a command code ends, acknowledged with a good PEC or not. -/
def execPmbusTransactionDone (code : Byte) (ok : Bool) (data : BitVec 16) (s : State) : Res :=
  match s.power.pmb.find? (fun op => op.code == code.toNat) with
  | none => .next s
  | some op =>
    let before := s.power.pmb.takeWhile (fun x => x.code != code.toNat)
    let s := { s with power := { s.power with pmb := before ++ s.power.pmb.drop (before.length + 1) } }
    .next (if ok then s.pmbDone op data.toNat else s.pmbFailed op)

/-- A register of the regulator is read; the first attempt yields a value or fails. -/
def State.pmbRead (s : State) (code : Nat) (value : Option (BitVec 16)) : State :=
  let s := s.emit (.pmbus (s.fld F.SYS_PMB_CFG_ADDR) code 0)
  match value with
  | some v => s.pmbDone ⟨code, 0, 0⟩ v.toNat
  | none => s.pmbFailed ⟨code, 0, 0⟩

/-- MC0 firmware runs and controls the pace. -/
def State.paceClosed (s : State) : Bool := s.flag F.SYS_PACE_STATUS_CLOSED

/-- PMBUS_ALERT: PMB_ALERT_N is low; STATUS_WORD is read. -/
def execPmbusAlert (status : Option (BitVec 16)) (s : State) : Res :=
  if s.paceClosed then .next (s.pmbRead Pmb.statusWord status) else .next s

/-- READ_VOUT_POLL: once per 10 ms. -/
def execReadVoutPoll (code : Option (BitVec 16)) (s : State) : Res :=
  if s.paceClosed then .next (s.pmbRead Pmb.readVout code) else .next s

/-! ## The pace loop (R512–R516) -/

/-- VNOM and VMAX as they act, in units of 0.5 mV. -/
def State.vnom (s : State) : Nat := 2 * max 600 (min 850 (s.fld F.SYS_VCORE_CFG_VNOM))
def State.vmax (s : State) : Nat := max s.vnom (2 * max 600 (min 850 (s.fld F.SYS_VCORE_CFG_VMAX)))

/-- The VOUT_COMMAND code of a voltage in units of 0.5 mV: V × 2^n rounded to the nearest. -/
def voutCode (n v : Nat) : Nat := (v * 2 ^ n + 1000) / 2000

/-- A voltage requested of the regulator, once VOUT_MODE is known. -/
def State.requestVolt (s : State) (v : Nat) : State :=
  match s.power.exponent with
  | none => s
  | some n =>
    let s := { s with power := { s.power with volt := v } }
    (s.put F.SYS_VCORE_STATUS_REQ (v / 2)).pmbSend ⟨Pmb.voutCommand, voutCode n v, 0⟩

/-- The step of the pace loop at the end of a window (R514). -/
def State.paceStep (s : State) (measured : Nat) : State :=
  let target := s.fld F.SYS_PACE_TARGET
  let p := s.power
  let since := min 2 (p.sinceUp + 1)
  let above := if 103 * target < 100 * measured then p.above + 1 else 0
  let up := decide (measured < target) && decide (2 ≤ since)
  let down := decide (100 ≤ above) && decide (s.vnom < p.volt)
  let want := if up then p.volt + 10 else if down then p.volt - 5 else p.volt
  let v := max s.vnom (min s.vmax want)
  let s := { s with power := { p with sinceUp := if up then 0 else since, above := if down then 0 else above } }
  if v = p.volt then s else s.requestVolt v

/-- PACE_WINDOW_END: the count of the slowest sensor in the window that has ended, in MHz. -/
def execPaceWindowEnd (measured : BitVec 16) (s : State) : Res :=
  let m := measured.toNat
  let s := s.put F.SYS_PACE_MEASURED m
  if s.paceClosed = false then .next s
  else
    let s := if s.flag F.SYS_PACE_STATUS_PMB_FAULT then s else s.paceStep m
    if s.fld F.SYS_PACE_TARGET ≤ m ∧ s.vmax ≤ s.power.volt + 2 * s.fld F.SYS_PMB_CFG_MARGIN_MV then
      .next (s.raise F.SYS_PACE_STATUS_MARGIN_LOW 0x0F13 srcSystem ([0, 0] ++ leBytes 2 (s.fld F.SYS_VCORE_STATUS_REQ)))
    else .next s

/-- PACE_LOW: the pace has stayed below the target for 2 ms with the request at VMAX. -/
def execPaceLow (s : State) : Res :=
  let m := s.fld F.SYS_PACE_MEASURED
  if s.paceClosed = true ∧ m < s.fld F.SYS_PACE_TARGET ∧ s.vmax ≤ s.power.volt then
    .next (s.raise F.SYS_PACE_STATUS_PACE_LOW 0x0F12 srcSystem (leBytes 2 m ++ leBytes 2 (s.fld F.SYS_VCORE_STATUS_REQ)))
  else .next s

/-- BOOST_END: BOOST_MS have passed since the last late sample. -/
def execBoostEnd (s : State) : Res :=
  if s.flag F.SYS_PACE_STATUS_BOOST then
    .next ((s.put F.SYS_PACE_STATUS_BOOST 0).put F.SYS_PACE_TARGET (max 780 (min 1200 (s.fld F.SYS_PACE_CFG_TARGET))))
  else .next s

/-- AGE_RECORD: once a day, the voltage at which the target was held, in mV, normalised to +95 °C; every 30 days it goes into the
boot-control block, where the first value of the unit's life stays. -/
def execAgeRecord (v : BitVec 10) (s : State) : Res :=
  if s.paceClosed = false then .next s
  else
    let s := s.put F.SYS_AGE_V_LAST v.toNat
    if s.power.days + 1 < 30 then .next { s with power := { s.power with days := s.power.days + 1 } }
    else
      let s := { s with power := { s.power with days := 0 } }
      let first := match s.bootCopy with
        | some c => if c.vFirst = 0 then v.toNat else c.vFirst
        | none => v.toNat
      .next ((s.writeBoot (fun c => { c with vFirst := first, vLast := v.toNat })).put F.SYS_AGE_V_FIRST first)

/-! ## Basecamp (R525–R527) -/

/-- The boot step that fails for an image slot: 5 for its header or length, 6 for its signature or section table. -/
def bootStep (err : Nat) : Nat := if err ≤ 2 then 5 else 6

/-- Steps 7 and 8: an image loaded into code slot 0 and measured, the processors started, the pace loop closed, the subsystem IDs loaded. -/
def State.loadImage (s : State) (im : FwImage) : State :=
  let digest (k : Nat) : List Nat := (im.sectionOf k).digest
  let s := { s with fw := { s.fw with
    code := Table.put none s.fw.code 0 (some im), sec5 := digest 4, strategies := im.strategies, booted := true } }
  let s := s.forEach (List.range 5) (fun s k => s.extend (k + 1) (digest k))
  let s := (s.put F.MBL_PROTO_LEVEL im.proto).showVersions
  let s := s.put F.SYS_PACE_STATUS_CLOSED 1
  let s := (s.pmbSend ⟨Pmb.voutMode, 0, 0⟩).pmbSend ⟨Pmb.operation, 0x80, 0⟩
  s.forEach (List.range 4) (fun s f =>
    (s.setCfg f .subsystemVendorId (Config.subsystem true)).setCfg f .subsystemId (Config.subsystem false))

/-- Step 9: the controller is ready, with the image of a slot. -/
def State.bootComplete (s : State) (im : FwImage) (fallback : Bool) : State :=
  let s := (s.loadImage im).put F.SYS_RESET_STATUS_BOOT_SLOT im.slot
  let s := (s.setFlag F.SYS_RESET_STATUS_FALLBACK fallback).put F.FWU_BOOT_RUNNING im.slot
  let s := s.forEach (List.range 4) (fun s f => s.put (F.HIF_FUNC_STATUS_READY f) 1)
  s.post 0x0F10 srcSystem [im.slot, b2n fallback, s.fld F.SYS_RESET_STATUS_CAUSE]

/-- Neither slot yields an image: only PF0 becomes ready. -/
def State.enterRecovery (s : State) (errA errB : Nat) : State :=
  let s := { s with fw := { s.fw with recovery := true, booted := true } }
  let s := (s.put F.SYS_RESET_STATUS_RECOVERY 1).put (F.HIF_FUNC_STATUS_READY 0) 1
  s.post 0x0F11 srcSystem [0, 0, 0, 0, bootStep errA, bootStep errB]

/-- RESET_RELEASE: every cause of the reset is over, and Basecamp runs. -/
def execResetRelease (s : State) : Res :=
  if s.fw.booted then .next s
  else
    let s := (s.put F.SYS_RAIL_STATUS_IN_RANGE 0xFF).extend 0 Config.romDigest
    let s := { s with now := 0, mem := {}, fw := { s.fw with resetHeld := [] } }
    let pick := s.takeFree
    let s := if s.bootCopy.isSome then s else pick.2
    let slot := match s.bootCopy with
      | some c => c.slot % 2
      | none => pick.1 % 2
    let s := ((s.put F.FWU_BOOT_SLOT slot).put F.SYS_AGE_V_FIRST (s.bootCopy.getD {}).vFirst).extend 6 (sha512 (Config.debugRecord slot))
    match s.imageIn slot, s.imageIn (1 - slot) with
    | .ok im, _ => .next (s.bootComplete im false)
    | .error _, .ok im => .next (s.bootComplete im true)
    | .error a, .error b => .next (if slot = 0 then s.enterRecovery a b else s.enterRecovery b a)

end Sys2Proof.Machine
end

