-- ==== Sys2Proof/Machine/Snapshot.lean ====
section
/-!
DEFINITION. Snapshot records and how the root ends a snapshot (R454).
-/
namespace Sys2Proof.Machine

/-- Downstream ports that packets of the tree's management reach: open, and not an RSX-4080 (R435). -/
def State.treePorts (s : State) : List Nat := s.openPorts.filter (fun q => !s.flag (F.MBL_PORT_STATUS_PARTNER_4080 q))

/-- A MGMT packet to every controller below. -/
def State.tellTree (s : State) (op : Nat) (body : List Nat) : State :=
  let p := mgmtPacket s broadcastId op 0 body
  s.forEach s.treePorts (fun s q => s.sendOn q p)

/-- The sectors of every final outcome that the lanes of a station have read. -/
def State.sectorsRead (s : State) (st : Nat) : Nat :=
  ((List.range 8).flatMap (fun i => (List.range 7).map (fun o => s.pair (outcomeCounter (8 * st + i) o).1 (outcomeCounter (8 * st + i) o).2))).foldl
    (fun (a : Nat) x => a + x) 0

/-- The sectors that the pickups of a station have recorded. -/
def State.sectorsRecorded (s : State) (st : Nat) : Nat :=
  let of (n : Nat) : Nat := s.pair (F.REC_SECT_LO_COUNT n) (F.REC_SECT_HI_COUNT n)
  of (2 * st) + of (2 * st + 1)

/-- The 512 bytes that a controller latches. -/
def State.snapRecord (s : State) (time : Nat) (late : Bool) : List Nat :=
  let flags := s.fld F.MBL_CT_STATUS_SYNC + 2 * b2n late + 4 * s.fld F.MBL_CT_STATUS_HOLDOVER
  padTo 512 (leBytes 3 s.deviceId ++ [s.fld F.MBL_ID_DEPTH] ++ leBytes 4 flags ++ leBytes 8 time ++ leBytes 8 s.ct ++
    List.replicate 8 0 ++ (List.range 8).map (fun st => (s.station st).state) ++
    (List.range 9).map (fun q => (s.inQueue q).length) ++ List.replicate 15 0 ++
    (List.range 8).flatMap (fun st => leBytes 6 (s.sectorsRead st) ++ leBytes 6 (s.sectorsRecorded st) ++ [0, 0, 0, 0]) ++
    (List.range 154).flatMap (fun src => leBytes 2 (Table.at 0 s.events.seq src)))

/-- The snapshot is over at the root: the records gathered go into the command's buffer in rising order of DEVICE_ID, as far as it holds
them. -/
def State.snapFinish (s : State) : State :=
  let x := s.mbl.snap
  let s := { s with mbl := { s.mbl with snap := {} } }
  match x.cmd with
  | none => s
  | some h =>
    let room : Nat := (s.cmd h).data.src.foldl (fun (a : Nat) e => a + e.len) 0
    s.answer h ((x.gathered.flatMap (fun e => e.2)).take room)

end Sys2Proof.Machine
end

