-- ==== Sys2Proof/Machine/Firmware.lean ====
section
/-!
DEFINITION. Firmware update: verification and staging, the rolling activation, the Summit, and processor faults (R491–R508, R524).
-/
namespace Sys2Proof.Machine

/-! ## What FWU registers show (R508) -/

/-- FWU_STATUS.STATE and STAGED_SLOT, and the registers of a pending Summit, as they follow from what is under way. -/
def State.showFw (s : State) : State :=
  let base := if s.fw.roll.isSome then 3 else if s.fw.verifying.isSome then 1 else if s.fw.staged.isSome then 2 else 0
  let st := match s.fw.summit with
    | some m => if m.done then base else if m.started then 5 else 4
    | none => base
  let s := s.put F.FWU_STATUS_STATE st
  let s := match s.fw.staged with
    | some im => s.put F.FWU_STATUS_STAGED_SLOT im.slot
    | none => s
  match s.fw.summit with
  | some m => (s.putPair F.FWU_SUMMIT_TIME_LO_TIME F.FWU_SUMMIT_TIME_HI_TIME m.time).put F.FWU_SUMMIT_MASK_CLASSES m.mask
  | none => (s.putPair F.FWU_SUMMIT_TIME_LO_TIME F.FWU_SUMMIT_TIME_HI_TIME 0).put F.FWU_SUMMIT_MASK_CLASSES 0

/-! ## Verification and staging (R496) -/

/-- A processor runs code from a code slot. -/
def State.codeUsed (s : State) (slot : Nat) : Bool := s.running.any (fun p => s.codeSlot p == slot)

/-- FW_VERIFY: FWU_CTRL.VERIFY is written 1 with a slot. Refused while an activation is under way or both code slots are in use; what was
staged is staged no longer. -/
def execFwVerify (slot : Fin 2) (s : State) : Res :=
  let s := s.put F.FWU_CTRL_SLOT slot
  if s.fw.roll.isSome = true ∨ s.fw.summit.isSome = true ∨ (s.codeUsed 0 = true ∧ s.codeUsed 1 = true) then
    .next (s.put F.FWU_STATUS_REJECTED 1)
  else .next ({ s with fw := { s.fw with verifying := some slot.val, staged := none } }).showFw

/-- FW_VERIFY_DONE: the image is staged in the code slot that no processor runs, or the first check that fails is told. In recovery the slot
of a good image becomes the boot slot (R527). -/
def execFwVerifyDone (s : State) : Res :=
  match s.fw.verifying with
  | none => .next s
  | some slot =>
    let s := { s with fw := { s.fw with verifying := none } }
    match s.imageIn slot with
    | .ok im =>
      let k := if s.codeUsed 0 then 1 else 0
      let s := { s with fw := { s.fw with code := Table.put none s.fw.code k (some im), staged := some im, stagedIn := k } }
      let s := if s.fw.recovery then s.writeBootSlot slot else s
      .next (s.showFw.post 0x0E01 srcFirmware ([0xFF, slot, 0, 0] ++ leBytes 4 im.version))
    | .error e => .next ((s.put F.FWU_STATUS_ERR_CODE e).showFw.raise F.FWU_STATUS_VERIFY_FAIL 0x0E02 srcFirmware [0xFF, slot, e])

/-- FW_BOOT_SLOT_WRITE: FWU_BOOT.SLOT is written (R524). -/
def execFwBootSlotWrite (slot : Fin 2) (s : State) : Res := .next (s.writeBootSlot slot)

/-! ## The interface-level rule (R497) -/

/-- The interface levels of a class once the staged sections of the classes in a mask run. -/
def State.levelsAfter (s : State) (im : FwImage) (mask k : Nat) : List Nat :=
  if mask.testBit k then [(im.sectionOf k).ifLevel] else (s.classSections k).map FwSection.ifLevel

/-- MC and every other class would differ by at most one level. -/
def State.levelRule (s : State) (im : FwImage) (mask : Nat) : Bool :=
  (s.levelsAfter im mask 0).all (fun a => [1, 2, 3].all (fun k =>
    (s.levelsAfter im mask k).all (fun b => decide (a ≤ b + 1) && decide (b ≤ a + 1))))

/-- An image is staged, and the rule lets the classes of a mask take it. -/
def State.mayActivate (s : State) (mask : Nat) : Bool :=
  match s.fw.staged with
  | some im => s.levelRule im mask
  | none => false

/-! ## Code in force (R359, R491, R500, R508) -/

/-- The section that is staged for a class. -/
def State.stagedSection (s : State) (k : Nat) : FwSection :=
  match s.fw.staged with
  | some im => im.sectionOf k
  | none => { type := k + 1 }

/-- Section 5 comes into force with the DS class, and M5 is extended where that changes it. -/
def State.takeSection5 (s : State) : State :=
  let d := (s.stagedSection 4).digest
  if d = s.fw.sec5 then s
  else
    let ids := match s.fw.staged with
      | some im => im.strategies
      | none => []
    ({ s with fw := { s.fw with sec5 := d, strategies := ids } }).extend 5 d

/-- A processor has been activated: it is measured and no longer pending. M1 is extended once, with MC0. -/
def State.activated (s : State) (p : Nat) : State :=
  let k := procClass p
  let s := if p ≤ 32 then s.extend (k + 1) (s.stagedSection k).digest else s
  let s := if k = 1 then s.takeSection5 else s
  s.setLeft p false

/-- The classes of a mask have the staged code in force; where every processor runs one image, its slot becomes the boot slot. -/
def State.intoForce (s : State) (mask : Nat) : State :=
  let slot := s.fw.stagedIn
  let force := (List.range 4).foldl (fun t k => if mask.testBit k then Table.put 0 t k slot else t) s.fw.force
  let s := ({ s with fw := { s.fw with force := force } }).showVersions
  let slots := s.running.map (fun p => match s.codeImage (s.codeSlot p) with
    | some im => im.slot
    | none => 2)
  match slots with
  | [] => s
  | i :: is => if is.all (fun x => x == i) = true ∧ i < 2 then s.writeBootSlot i else s

/-! ## Rolling activation (R498–R501) -/

def State.setRoll (s : State) (r : Option FwRoll) : State := ({ s with fw := { s.fw with roll := r } }).showFw

/-- A station held for its activation: Belay on both pickups where it has a disc, else no admission (R498). -/
def State.holdStation (s : State) (st : Nat) : State :=
  if (s.station st).disc.isSome then
    s.forEach [2 * st, 2 * st + 1] (fun s n =>
      if (s.fld (F.SRV_PU_STATE_BELAY_CAUSE n)).testBit belayUpdate then s else s.setBelay n belayUpdate true)
  else if s.fw.stationHold.contains st then s
  else { s with fw := { s.fw with stationHold := s.fw.stationHold ++ [st] } }

/-- The hold has been reached. -/
def State.stationHeld (s : State) (st : Nat) : Bool :=
  if (s.station st).disc.isSome then
    [2 * st, 2 * st + 1].all (fun n => [Pu.belay, Pu.off, Pu.fault].contains (s.puState n))
  else !(s.stationCmds st).any (fun e => e.2.phase == .admitted)

/-- A station's hold ends, and a reset that waited for it takes effect (R498, R501). -/
def State.releaseStation (s : State) (st : Nat) : State :=
  let s := { s with fw := { s.fw with stationHold := s.fw.stationHold.filter (fun x => x != st) } }
  s.forEach [2 * st, 2 * st + 1] (fun s n =>
    if (s.fld (F.SRV_PU_STATE_BELAY_CAUSE n)).testBit belayUpdate then s.setBelay n belayUpdate false else s)

/-- A station reset requested during an activation takes effect. -/
def State.serveReset (s : State) (st : Nat) : State :=
  if s.fw.resetAsked.contains st then
    ({ s with fw := { s.fw with resetAsked := s.fw.resetAsked.filter (fun x => x != st) } }).stationReset st
  else s

/-- The sequence is over: its FW_ACTIVATE completes. -/
def State.endRoll (s : State) (r : FwRoll) (status : Nat) : State :=
  let s := s.setRoll none
  match r.cmd with
  | some h => s.finish h { status := status }
  | none => s

/-- The sequence goes as far as it can: to the next processor's restart, or until a station's hold is reached; `fuel` bounds its steps. -/
def State.advanceRoll : (fuel : Nat) → State → State
  | 0, s => s
  | fuel + 1, s =>
    match s.fw.roll with
    | none => s
    | some r =>
      if r.current.isSome = true ∧ (match r.station with | some st => s.stationPresent st | none => false) = true then s
      else
        match r.station with
        | some st =>
          if s.stationPresent st = false ∨ r.procs.isEmpty = true ∨ r.cancelled = true then
            State.advanceRoll fuel ((s.setRoll (some { r with station := none, current := none, procs := [] })).releaseStation st)
          else
            let s := s.holdStation st
            if s.stationHeld st = false then s
            else
              let p := r.procs.headD 0
              (s.setRoll (some { r with procs := r.procs.drop 1, current := some p, prev := s.codeSlot p })).setCode p s.fw.stagedIn
        | none =>
          if r.cancelled then s.endRoll r Status.success
          else
            match r.stations with
            | [] =>
              let s := s.intoForce r.classes
              let s := s.post 0x0E04 srcFirmware ([0xFF, 0, 0, 0] ++ leBytes 4 (s.fld F.FWU_PENDING_LO_PENDING))
              s.endRoll r Status.success
            | st :: rest =>
              if s.slotState st = Slot.on then
                let mine := (stationProcs st).filter (fun p => r.classes.testBit (procClass p))
                State.advanceRoll fuel (s.setRoll (some { r with stations := rest, station := some st, procs := mine }))
              else State.advanceRoll fuel (s.setRoll (some { r with stations := rest }))

def State.goRoll (s : State) : State := s.advanceRoll 32

/-- A sequence starts: every processor of its classes is pending. -/
def State.startRoll (s : State) (cmd : Option Nat) (classes : Nat) : State :=
  let stations := (List.range 8).filter (fun st => s.slotState st == Slot.on)
  let s := s.forEach (processors.filter (fun p => classes.testBit (procClass p))) (fun s p => s.setLeft p true)
  let s := s.put F.FWU_STATUS_PROGRESS 0
  (s.setRoll (some { cmd := cmd, classes := classes, stations := stations })).goRoll

/-- A cancel: the sequence ends after the processor in progress (R500). -/
def State.cancelRoll (s : State) : State :=
  match s.fw.roll with
  | some r => (s.setRoll (some { r with cancelled := true })).goRoll
  | none => s

/-- Fields of a FW_ACTIVATE (R370). -/
def CmdId.classMask (i : CmdId) : Nat := i.body.getD 0 0
def CmdId.summitMode (i : CmdId) : Bool := i.body.getD 1 0 == 1
def CmdId.timeField (i : CmdId) : Nat := leField i.body 8 8

/-- FW_ACTIVATE_ROLLING: FW_ACTIVATE with MODE 0. An empty mask cancels; the command of a sequence that waits for a station's hold lets it look
again. -/
def execFwActivateRolling (h : Nat) (s : State) : Res :=
  let c := s.cmd h
  if c.id.op ≠ Op.fwActivate ∨ c.phase ≠ .started ∨ c.id.summitMode = true then .next s
  else if c.started then .next s.goRoll
  else if s.root = false then .next (s.refuse h Status.invalidCommand)
  else
    let mask := c.id.classMask
    if mask = 0 then .next (s.cancelRoll.finish h { status := Status.success })
    else if mask.testBit 0 = true ∨ s.fw.roll.isSome = true ∨ s.fw.summit.isSome = true ∨ s.mayActivate mask = false then
      .next (s.refuse h Status.invalidField)
    else .next ((s.setCmd h { c with started := true }).startRoll (some h) mask)

/-- FW_ROLL: FWU_CTRL.ROLL written 1 with its classes, on a child. Where a sequence runs, it looks again for a station's hold. -/
def execFwRoll (classes : Fin 16) (s : State) : Res :=
  let s := s.put F.FWU_CTRL_CLASSES classes
  let mask := classes.val &&& 14
  if s.fw.roll.isSome then .next s.goRoll
  else if s.root = true ∨ s.fw.summit.isSome = true ∨ mask = 0 ∨ s.mayActivate mask = false then .next s
  else .next (s.startRoll none mask)

/-- FW_CANCEL: FWU_CTRL.CANCEL written 1. -/
def execFwCancel (s : State) : Res := .next s.cancelRoll

/-! ## Barriers at the root, and the Summit (R452, R502–R504) -/

def State.setSummit (s : State) (m : Option FwSummit) : State := ({ s with fw := { s.fw with summit := m } }).showFw

/-- A pending Summit is set here: its time and level are shown, and FW_SUMMIT_SET posted (R503 step 2). -/
def State.adoptSummit (s : State) (m : FwSummit) : State :=
  let next := match s.fw.staged with
    | some im => if m.mask.testBit 0 then im.proto else s.fld F.MBL_PROTO_LEVEL
    | none => s.fld F.MBL_PROTO_LEVEL
  ((s.setSummit (some m)).put F.MBL_PROTO_NEXT next).post 0x0E06 srcFirmware ([0xFF, 0, 0, 0, 0, 0, 0, 0] ++ leBytes 8 m.time)

/-- The Summit here is off. -/
def State.dropSummit (s : State) : State :=
  ({ s with fw := { s.fw with draining := false } }.setSummit none).put F.MBL_PROTO_NEXT 0

/-- The body of a SUMMIT_SET: 0 set, 1 cancel, 2 accept, 3 refuse. -/
def summitBody (kind mask time : Nat) : List Nat := [kind, mask, 0, 0] ++ leBytes 8 time

/-- The root's barrier has ended. Its purpose: 1, a Summit that a controller has refused is called off; 2, FW_ACTIVATE completes; 3, the
snapshot is written. -/
def State.barrierEnded (s : State) (purpose : Nat) : State :=
  match purpose, s.fw.summit with
  | 1, some m =>
    if m.refused.isEmpty then s
    else
      let s := (s.tellTree Mgmt.summitSet (summitBody 1 m.mask m.time)).dropSummit
      let s := s.forEach m.refused (fun s id => s.post 0x0E08 srcFirmware ([0xFF, 0, 0, 0] ++ leBytes 3 id))
      (match m.cmd with
       | some h => s.finish h { status := Status.invalidField }
       | none => s)
  | 2, some m =>
    let s := s.setSummit none
    (match m.cmd with
     | some h => s.finish h { status := if m.failed then Status.invalidCommand else Status.success }
     | none => s)
  | 3, _ => s.snapFinish
  | _, _ => s

/-- The root starts a barrier; with no child it has ended. -/
def State.startBarrier (s : State) (purpose : Nat) : State :=
  let n := s.mbl.barriersSent % 256
  let ports := s.treePorts
  let s := { s with mbl := { s.mbl with barriersSent := n + 1 } }
  if ports.isEmpty then s.barrierEnded purpose
  else
    let s := s.tellTree Mgmt.barrier [n]
    { s with mbl := { s.mbl with barriers := s.mbl.barriers ++ [(⟨n, ports, purpose⟩ : Barrier)] } }

/-- FW_ACTIVATE_SUMMIT: FW_ACTIVATE with MODE 1 and a mask (R502, R503 steps 1 to 3). -/
def execFwActivateSummit (h : Nat) (s : State) : Res :=
  let c := s.cmd h
  if c.mayRun Op.fwActivate = false ∨ c.id.summitMode = false ∨ c.id.classMask = 0 then .next s
  else if s.root = false then .next (s.refuse h Status.invalidCommand)
  else
    let mask := c.id.classMask
    let time := c.id.timeField
    let drain := max 1 (min 10000 (s.fld F.FWU_CFG_DRAIN_MS))
    if s.fw.roll.isSome = true ∨ s.fw.summit.isSome = true ∨ time < s.ct + (drain + 10) * 1000000 ∨ s.mayActivate mask = false then
      .next (s.refuse h Status.invalidField)
    else
      let s := (s.setCmd h { c with started := true }).tellTree Mgmt.summitSet (summitBody 0 mask time)
      .next ((s.adoptSummit { time := time, mask := mask, cmd := some h }).startBarrier 1)

/-- FW_SUMMIT_CANCEL: FW_ACTIVATE with MODE 1 and an empty mask, before the drain window has begun. With what status the FW_ACTIVATE that it
cancels completes is not stated: a free value. -/
def execFwSummitCancel (h : Nat) (s : State) : Res :=
  let c := s.cmd h
  if c.mayRun Op.fwActivate = false ∨ c.id.summitMode = false ∨ c.id.classMask ≠ 0 then .next s
  else if s.root = false then .next (s.refuse h Status.invalidCommand)
  else
    match s.fw.summit with
    | none => .next (s.refuse h Status.invalidField)
    | some m =>
      if s.fw.draining = true ∨ m.started = true then .next (s.refuse h Status.invalidField)
      else
        let s := (s.tellTree Mgmt.summitSet (summitBody 1 m.mask m.time)).dropSummit
        let v := s.takeFree
        let s := match m.cmd with
          | some g => v.2.finish g { status := v.1 % 256 }
          | none => v.2
        .next (s.finish h { status := Status.success })

/-- SUMMIT_SET: a controller checks a Summit and answers; the root notes a refusal; a cancel takes the Summit off (R503 steps 2 and 3). -/
def execSummitSet (s : State) : Res :=
  match s.takeFirst (isMgmt Mgmt.summitSet) with
  | none => .next s
  | some (e, s) =>
    let b := mgmtBody e.packet
    let kind := b.getD 0 0
    let mask := b.getD 1 0 % 16
    let time := leField b 4 8
    if s.root then
      if kind = 3 then .next ({ s with fw := { s.fw with summit := match s.fw.summit with
        | some m => some { m with refused := m.refused ++ [e.packet.src] }
        | none => none } })
      else .next s
    else if kind = 0 then
      let ok := s.fw.roll.isNone && s.fw.summit.isNone && s.mayActivate mask
      let s := if ok then s.adoptSummit { time := time, mask := mask } else s
      .next (s.route (mgmtPacket s 0 Mgmt.summitSet 0 (summitBody (if ok then 2 else 3) mask time)))
    else if kind = 1 then .next (if s.fw.summit.isSome then s.dropSummit else s)
    else .next s

/-- SUMMIT_DRAIN_START: SUMMIT_TIME − DRAIN_MS has come: admission stops on every queue (R376, R503 step 4). -/
def execSummitDrainStart (s : State) : Res :=
  match s.fw.summit with
  | none => .next s
  | some m =>
    if m.started = true ∨ s.ct + max 1 (min 10000 (s.fld F.FWU_CFG_DRAIN_MS)) * 1000000 < m.time then .next s
    else .next { s with fw := { s.fw with draining := true } }

/-- Steps 7 and 8: the new code is in force, admission resumes, and the root starts its barrier. -/
def State.summitDone (s : State) (m : FwSummit) : State :=
  let s := s.forEach m.before (fun s e => s.activated e.1)
  let s := ({ s with fw := { s.fw with draining := false } }).intoForce m.mask
  let s := s.post 0x0E07 srcFirmware [0xFF, s.fld F.MBL_PROTO_LEVEL]
  let s := s.put F.MBL_PROTO_NEXT 0
  if s.root then (s.setSummit (some { m with waiting := [], done := true })).startBarrier 2 else s.setSummit none

/-- A Summit whose processors have changed, or whose stations have gone, goes on. -/
def State.goSummit (s : State) : State :=
  match s.fw.summit with
  | none => s
  | some m =>
    if m.started = false ∨ m.done = true then s
    else
      let left := m.waiting.filter s.procRuns
      if left.isEmpty then s.summitDone { m with before := m.before.filter (fun e => s.procRuns e.1) }
      else s.setSummit (some { m with waiting := left })

/-- SUMMIT: its time has come: what is admitted stops, and the processors of the mask are restarted on the staged code (R503 steps 5
and 6). -/
def execSummit (s : State) : Res :=
  match s.fw.summit with
  | none => .next s
  | some m =>
    if m.started = true ∨ s.ct < m.time then .next s
    else
      let busy := s.allCmds.filter (fun e => e.2.phase == .admitted)
      let s := s.forEach busy (fun s e => s.stopAny e.1 Status.partialActivation)
      let s := s.forEach (List.range 16) State.stopAtBoundary
      let ps := s.running.filter (fun p => m.mask.testBit (procClass p))
      let before := ps.map (fun p => (p, s.codeSlot p))
      let level := s.fld F.MBL_PROTO_LEVEL
      let s := s.forEach ps (fun s p => s.setCode p s.fw.stagedIn)
      let s := if m.mask.testBit 0 then s.put F.MBL_PROTO_LEVEL (s.fld F.MBL_PROTO_NEXT) else s
      let s := { s with fw := { s.fw with draining := true } }
      .next ((s.setSummit (some { m with started := true, waiting := ps, before := before, level := level })).goSummit)

/-! ## Processors (R492, R499, R500, R504) -/

/-- PROCESSOR_READY: an activated processor is ready: the sequence, or the Summit, goes on. -/
def execProcessorReady (p : Fin 36) (s : State) : Res :=
  match s.fw.summit with
  | some m =>
    if m.started = true ∧ m.done = false then
      .next (s.setSummit (some { m with waiting := m.waiting.filter (fun x => x != p.val) })).goSummit
    else .next s
  | none =>
    match s.fw.roll with
    | none => .next s
    | some r =>
      if r.current = some p.val ∧ s.procRuns p = true then
        let s := (s.activated p).incSat F.FWU_STATUS_PROGRESS 1
        let s := s.post 0x0E03 srcFirmware ([procCode p, 0, 0, 0] ++ leBytes 4 (s.stagedSection (procClass p)).version)
        let s := (s.setRoll (some { r with current := none })).showVersions
        .next (match r.station with
          | some st => (s.serveReset st).goRoll
          | none => s.goRoll)
      else .next s.goRoll

/-- ACTIVATION_TIMEOUT: a processor is not ready within its bound: it goes back to the code it ran before, at the Summit with every other
of this controller (R500, R504). -/
def execActivationTimeout (p : Fin 36) (s : State) : Res :=
  match s.fw.summit with
  | some m =>
    if m.started = true ∧ m.done = false ∧ m.waiting.contains p.val = true then
      let s := (s.forEach m.before (fun s e => s.setCode e.1 e.2)).showVersions
      let s := (s.put F.MBL_PROTO_LEVEL m.level).put F.MBL_PROTO_NEXT 0
      let s := { s with fw := { s.fw with draining := false } }
      let s := s.raise F.FWU_STATUS_ACT_FAIL 0x0E05 srcFirmware [procCode p, 1]
      .next (if s.root then (s.setSummit (some { m with waiting := [], failed := true, done := true })).startBarrier 2
        else s.setSummit none)
    else .next s
  | none =>
    match s.fw.roll with
    | none => .next s
    | some r =>
      if r.current = some p.val then
        let s := ((s.setCode p r.prev).raise F.FWU_STATUS_ACT_FAIL 0x0E05 srcFirmware [procCode p, 0]).showVersions
        let s := s.endRoll r Status.invalidCommand
        .next (match r.station with
          | some st => (s.releaseStation st).serveReset st
          | none => s)
      else .next s

/-- PROCESSOR_FAULT: a bus error, or a watchdog not served (R492). -/
def execProcessorFault (p : Fin 36) (watchdog : Bool) (s : State) : Res :=
  if s.procRuns p = false then .next s
  else
    let s := s.post 0x0E09 srcFirmware [procCode p, b2n watchdog]
    match procStation p with
    | some st => .next (s.stationReset st)
    | none => if p.val = 32 then .next (s.forEach (List.range 4) State.wedge) else .next (s.wedge (p.val - 32))

end Sys2Proof.Machine
end

