-- ==== Sys2Proof/Machine/Tree.lean ====
section
/-!
DEFINITION. Operations across the tree: barriers, snapshots and tree resets (R450, R452–R454).
-/
namespace Sys2Proof.Machine

/-! ## Barriers (R452) -/

/-- Every event posted here has gone up. -/
def State.flushEventsUp (s : State) : State :=
  let s := s.forEach s.events.posted (fun s e => s.sendEventUp e)
  { s with events := { s.events with posted := [] } }

/-- The barriers that no child holds any more end: at the root each has its purpose; another controller acknowledges upward, behind the events
that it has posted. -/
def State.endBarriers (s : State) : State :=
  let ended := s.mbl.barriers.filter (fun (b : Barrier) => b.waiting.isEmpty)
  let s := { s with mbl := { s.mbl with barriers := s.mbl.barriers.filter (fun (b : Barrier) => !b.waiting.isEmpty) } }
  s.forEach ended (fun s b =>
    if s.root then s.barrierEnded b.purpose
    else (s.flushEventsUp).sendOn 0 (mgmtPacket s 0 Mgmt.barrierAck 0 [b.number]))

/-- BARRIER: once every packet received before it has been taken, and a snapshot armed before it has been latched, it waits for the children
to which it was copied. -/
def execBarrier (s : State) : Res :=
  match s.mbl.inbox with
  | [] => .next s
  | e :: rest =>
    if isMgmt Mgmt.barrier e.packet = false ∨ s.root = true ∨ s.mbl.snap.armed = true then .next s
    else
      let waiting := e.copies.filter (fun q => s.treePorts.contains q)
      let b : Barrier := { number := (mgmtBody e.packet).getD 0 0, waiting := waiting }
      .next ({ s with mbl := { s.mbl with inbox := rest, barriers := s.mbl.barriers ++ [b] } }).endBarriers

/-- BARRIER_ACK: a child has acknowledged a barrier. A barrier whose last child has been lost ends too. -/
def execBarrierAck (s : State) : Res :=
  match s.takeFirst (isMgmt Mgmt.barrierAck) with
  | none => .next s.endBarriers
  | some (e, s) =>
    let n := (mgmtBody e.packet).getD 0 0
    let bs := s.mbl.barriers.map (fun (b : Barrier) =>
      if b.number = n then { b with waiting := b.waiting.filter (fun q => q != e.port) } else b)
    .next ({ s with mbl := { s.mbl with barriers := bs } }).endBarriers

/-! ## Snapshots (R454) -/

/-- Links from the root to the deepest controller that an open port leads to. -/
def State.treeDepth (s : State) : Nat := s.openPorts.foldl (fun (a : Nat) q => max a (s.port q).depth) 0

/-- SNAPSHOT: the root arms the latch of every controller; one at a time. -/
def execSnapshot (h : Nat) (s : State) : Res :=
  let c := s.cmd h
  if c.mayRun Op.snapshot = false ∨ s.mbl.snap.cmd.isSome = true then .next s
  else if s.root = false then .next (s.refuse h Status.invalidCommand)
  else if c.id.timeField < s.ct + s.treeDepth * 900 + 10000 then .next (s.refuse h Status.invalidField)
  else
    let s := (s.setCmd h { c with started := true }).tellTree Mgmt.snapArm ([0, 0, 0, 0] ++ leBytes 8 c.id.timeField)
    .next { s with mbl := { s.mbl with snap := { armed := true, time := c.id.timeField, cmd := some h } } }

/-- The record is latched: the root keeps its own and starts the barrier behind which every other has come; another controller sends it up,
without its last twelve bytes, which are zero. -/
def State.latchSnap (s : State) (late : Bool) : State :=
  let x := s.mbl.snap
  let r := s.snapRecord x.time late
  if s.root then
    let g := Table.put [] x.gathered s.deviceId r
    ({ s with mbl := { s.mbl with snap := { x with armed := false, gathered := g } } }).startBarrier 3
  else
    let s := { s with mbl := { s.mbl with snap := {} } }
    s.route (mgmtPacket s 0 Mgmt.snapArm 0 ([1, 0, 0, 0] ++ r.take 500))

/-- SNAP_ARM: the latch is armed, or closes at once where it comes late; at the root, a record has come up. -/
def execSnapArm (s : State) : Res :=
  match s.takeFirst (isMgmt Mgmt.snapArm) with
  | none => .next s
  | some (e, s) =>
    let b := mgmtBody e.packet
    if b.getD 0 0 = 1 then
      if s.root = true ∧ s.mbl.snap.cmd.isSome = true then
        let g := Table.put [] s.mbl.snap.gathered e.packet.src (padTo 512 ((b.drop 4).take 500))
        .next { s with mbl := { s.mbl with snap := { s.mbl.snap with gathered := g } } }
      else .next s
    else if s.root then .next s
    else
      let time := leField b 4 8
      let s := { s with mbl := { s.mbl with snap := { armed := true, time := time } } }
      .next (if time < s.ct then s.latchSnap true else s)

/-- SNAPSHOT_LATCH: Chain Time has reached SNAP_TIME. -/
def execSnapshotLatch (s : State) : Res :=
  if s.mbl.snap.armed = true ∧ s.mbl.snap.time ≤ s.ct then .next (s.latchSnap false) else .next s

/-! ## Tree resets (R453) -/

/-- A RESET of a kind for a target. -/
def resetPacket (s : State) (target kind : Nat) : Packet :=
  { type := Pkt.reset, flags := if target = broadcastId then 4 else 0, dest := target, src := s.deviceId, tag := 0, offset := 0
    payload := [kind, s.mbl.resetsSent % 256, 0, 0] }

/-- MBL_RESET.ERR. -/
def State.resetErr (s : State) : State := s.put F.MBL_RESET_ERR 1

/-- GO is written with a kind and a target. -/
def State.resetFields (s : State) (kind target : Nat) : State := (s.put F.MBL_RESET_KIND kind).put F.MBL_RESET_TARGET target

/-- A RESET leaves through a port, fenced or not; the fence is over (R455). -/
def State.sendReset (s : State) (q target kind : Nat) : State := (s.put (F.MBL_PORT_STATUS_FENCED q) 0).sendOn q (resetPacket s target kind)

/-- The reset of the subtree is under way. -/
def State.resetBegun (s : State) (kind : Nat) (waiting : List Nat) : State :=
  { s.put F.MBL_RESET_BUSY 1 with mbl := { s.mbl with resetWait := some (kind, waiting), resetsSent := s.mbl.resetsSent + 1 } }

/-- The port through which a reset of a target can leave. -/
def State.resetPort (s : State) (target : Nat) : Option Nat :=
  match s.portFor target with
  | some q => if s.flag (F.MBL_PORT_STATUS_UP q) then some q else none
  | none => none

/-- TREE_RESET_STATION: KIND 1. -/
def execTreeResetStation (target : BitVec 24) (s : State) : Res :=
  let t := target.toNat
  let s := s.resetFields 1 t
  if s.root = false ∨ s.mbl.resetWait.isSome = true then .next s.resetErr
  else if s.ownId t then
    let ports := s.openPorts
    let s := s.forEach ports (fun s q => s.sendReset q broadcastId 1)
    .next ((s.forEach (List.range 8) State.stationReset).resetBegun 1 ports)
  else
    match s.resetPort t with
    | some q => .next ((s.sendReset q t 1).resetBegun 1 [q])
    | none => .next s.resetErr

/-- TREE_RESET_DEVICE: KIND 2; `last` is the last ID of the target's subtree, whose forwarded commands end at once. -/
def execTreeResetDevice (target last : BitVec 24) (s : State) : Res :=
  let t := target.toNat
  let s := s.resetFields 2 t
  if s.root = false ∨ s.mbl.resetWait.isSome = true ∨ s.ownId t = true then .next s.resetErr
  else
    match s.resetPort t with
    | some q =>
      let s := s.sendReset q t 2
      let s := s.endForwarded (fun w => decide (t ≤ w.dest) && decide (w.dest ≤ last.toNat)) Status.resetAborted
      .next (s.resetBegun 2 [q])
    | none => .next s.resetErr

/-- A controller below the root whose stations and children have all been reset acknowledges upward. -/
def State.ackReset (s : State) : State :=
  match s.mbl.resetWait with
  | some (k, []) =>
    if s.root = true ∨ s.fw.stationResets.isEmpty = false then s
    else ({ s with mbl := { s.mbl with resetWait := none } }).sendOn 0 { resetPacket s 0 k with flags := 0 }
  | _ => s

/-- A child's acknowledgement takes its port off those awaited. -/
def State.resetAcked (s : State) (q : Nat) : State :=
  { s with mbl := { s.mbl with resetWait := match s.mbl.resetWait with
    | some w => some (w.1, w.2.filter (fun x => x != q))
    | none => none } }

/-- RESET_PACKET: from the parent, this controller's own reset; from below, an acknowledgement, which is passed on where none is awaited. -/
def execResetPacket (s : State) : Res :=
  if s.root then .next s
  else
    match s.takeFirst (isType Pkt.reset) with
    | none => .next s.ackReset
    | some (e, s) =>
      let kind := e.packet.payload.getD 0 0
      if e.port ≠ 0 then
        match s.mbl.resetWait with
        | some _ => .next (s.resetAcked e.port).ackReset
        | none => .next (s.sendOn 0 e.packet)
      else if kind = 2 then .next (s.fullReset causeTree)
      else if kind = 1 then
        let s := s.forEach (List.range 8) State.stationReset
        let waiting := e.copies.filter (fun q => s.openPorts.contains q)
        .next ({ s with mbl := { s.mbl with resetWait := some (1, waiting) } }).ackReset
      else .next s

/-- The root's tree reset is over. -/
def State.resetOver (s : State) : State :=
  { (s.put F.MBL_RESET_BUSY 0).put F.MBL_RESET_DONE 1 with mbl := { s.mbl with resetWait := none } }

/-- TREE_RESET_ACK: the acknowledgement of the subtree has come, and the root's own station resets are over; after a full reset its ports
are up again. -/
def execTreeResetAck (s : State) : Res :=
  if s.root = false then .next s
  else
    let s := match s.takeFirst (isType Pkt.reset) with
      | some (e, s) => s.resetAcked e.port
      | none => s
    match s.mbl.resetWait with
    | none => .next s
    | some (k, qs) =>
      if k = 2 then .next (if qs.all s.portOpen then s.resetOver else s)
      else .next (if qs.isEmpty = true ∧ s.fw.stationResets.isEmpty = true then s.resetOver else s)

end Sys2Proof.Machine
end

