-- ==== Sys2Proof/Machine/Log.lean ====
section
/-!
DEFINITION. ABORT, IDENTIFY and GET_LOG (R371, R380–R382, R442).
-/
namespace Sys2Proof.Machine

/-! ## ABORT (R380–R382, R442) -/

/-- Results of an ABORT, carried in DETAIL. -/
abbrev abortCaught : Nat := 1
abbrev abortMissed : Nat := 2
abbrev abortNoTag : Nat := 3

/-- The command that an ABORT names, one whose status is not fixed before one whose record still waits: by ring and CID of its own function,
or for an ABORT that came down the tree by chain tag. -/
def State.abortTarget (s : State) (h : Nat) : Option (Nat × Cmd) :=
  let c := s.cmd h
  let cid := leField c.id.body 0 2
  let named := s.allCmds.filter (fun e =>
    e.1 != h && e.2.phase != .fetching &&
      (match c.origin, e.2.origin with
       | .ring, .ring => e.2.id.fn == c.id.fn && e.2.id.ring == c.id.body.getD 2 0 && e.2.id.cid == cid
       | .chain _ _, .chain _ tag => tag == cid
       | _, _ => false))
  match named.find? (fun e => e.2.live) with
  | some e => some e
  | none => named.head?

/-- A command that an ABORT cannot stop: UNLOAD and CALIBRATE once admitted, an untagged one once started. -/
def Cmd.pastAbort (c : Cmd) : Bool :=
  !c.live || c.phase == .started || (c.phase == .admitted && (c.op == Op.unload || c.op == Op.calibrate))

/-- An ABORT of a command that a controller below carries out goes there, its TARGET_CID replaced by the target's chain tag; an RSX-4080 takes
none. -/
def State.forwardAbort (s : State) (h target : Nat) : State :=
  let c := s.cmd h
  match s.mbl.fwd.find? (fun w => w.cmd == target) with
  | none => s
  | some w =>
    let legacy := match s.portFor w.dest with
      | some q => s.flag (F.MBL_PORT_STATUS_PARTNER_4080 q)
      | none => false
    if legacy then s.refuse h Status.invalidCommand
    else if 4096 ≤ s.mbl.fwd.length then s
    else
      let tag := freeChainTag (s.mbl.fwd.map Fwd.tag) 65536 s.mbl.nextTag
      let s := s.setCmd h { c with phase := .forwarded, started := true, target := some target }
      let row : Fwd := { tag := tag, cmd := h, dest := w.dest }
      let s := { s with mbl := { s.mbl with fwd := s.mbl.fwd ++ [row], nextTag := tag + 1 } }
      s.route { type := Pkt.cmd, flags := 0, dest := w.dest, src := s.deviceId, tag := tag, offset := 0
                payload := [c.id.fn, c.id.ring, 0, 0] ++ c.id.raw.take 32 ++ leBytes 2 w.tag ++ (c.id.raw.drop 34).take 30 }

/-- ABORT: the target is caught, missed or not there; the ABORT completes behind the target's record. -/
def execAbort (h : Nat) (s : State) : Res :=
  let c := s.cmd h
  if c.mayRun Op.abort = false then .next s
  else
    match s.abortTarget h with
    | none => .next (s.finish h { status := Status.success, detail := abortNoTag })
    | some (t, x) =>
      if x.op = Op.abort then .next (s.finish h { status := Status.success, detail := abortNoTag })
      else if x.phase = .forwarded then .next (s.forwardAbort h t)
      else
        let wait (r : Nat) : State := s.setCmd h { c with started := true, target := some t, res := { c.res with detail := r } }
        if x.pastAbort then .next (wait abortMissed)
        else if x.op = Op.load ∧ x.phase = .admitted then .next ((wait abortCaught).stopLoad t Status.aborted)
        else .next ((wait abortCaught).stopAny t Status.aborted)

/-! ## IDENTIFY (R371) -/

/-- The controller record. -/
def State.controllerRecord (s : State) : List Nat :=
  padTo 4096 ([0x52, 0x49, 0x44, 0x43, 0xB1] ++ leBytes 3 s.deviceId ++ [s.fld F.HPC_SUMMARY_PRESENT % 256, 0] ++
    leBytes 2 (s.fld F.HPC_SUMMARY_POWERED % 4096) ++ [0, 0, 0, 0] ++ s.versions ++ padTo 32 Config.idPublicKey)

/-- The station record. -/
def State.stationRecord (s : State) (st : Nat) : List Nat :=
  let x := s.station st
  let bound := match s.rings.bound.find? (fun e => e.2 == st + 1) with
    | some e => e.1
    | none => 0xFFFF
  let format := match x.disc with
    | some d => if d.s4 then 2 else 1
    | none => 0
  let disc := x.disc.getD {}
  let w (k : Nat) : Nat := (Table.at none s.recording.frontier (16 * st + k)).getD 0xFFFFFFFF
  padTo 4096 ([x.state, format] ++ leBytes 2 bound ++ [0, 0, 0, 0] ++ leBytes 8 disc.discId ++ [disc.generation] ++
    List.replicate 15 0 ++ (List.range 16).flatMap (fun k => leBytes 4 (w k)))

/-- IDENTIFY_CONTROLLER: CNS 0. -/
def execIdentifyController (h : Nat) (s : State) : Res :=
  let c := s.cmd h
  if c.mayRun Op.identify = true ∧ c.id.body.getD 0 0 = 0 ∧ s.mayDeliver h = true then .next (s.answer h s.controllerRecord) else .next s

/-- IDENTIFY_STATION: CNS 1. -/
def execIdentifyStation (h : Nat) (s : State) : Res :=
  let c := s.cmd h
  if c.mayRun Op.identify = true ∧ c.id.body.getD 0 0 = 1 ∧ s.mayDeliver h = true then
    .next (s.answer h (s.stationRecord (c.id.body.getD 1 0)))
  else .next s

/-! ## GET_LOG (R122, R294, R312, R371, R486) -/

/-- The 256 bytes of the memory error log. -/
def State.memoryLog (s : State) : List Nat :=
  (List.range 16).flatMap (fun e =>
    leBytes 4 (s.fld (F.MEM_LOG_ADDR_ADDR e) + s.fld (F.MEM_LOG_ADDR_REGION e) * 2 ^ 28 + s.fld (F.MEM_LOG_ADDR_UNCORR e) * 2 ^ 31) ++
    leBytes 4 (s.fld (F.MEM_LOG_REQ_REQUESTER e) + s.fld (F.MEM_LOG_REQ_SYNDROME e) * 2 ^ 8 + s.fld (F.MEM_LOG_REQ_BANK e) * 2 ^ 24) ++
    leBytes 4 (s.fld (F.MEM_LOG_TIME_LO_TIME_LO e)) ++ leBytes 4 (s.fld (F.MEM_LOG_TIME_HI_TIME_HI e)))

/-- The 132,096 bytes of a station's calibration records. -/
def State.calibrationLog (s : State) (st : Nat) : List Nat :=
  [0, 1].flatMap (fun k => padTo 512 (Table.at [] s.calib.pickups (2 * st + k))) ++
    (List.range 8).flatMap (fun i =>
      let x : CalSet := Table.at {} s.calib.sets (8 * st + i)
      (List.range 16).flatMap (fun k => padTo 1024 (Table.at [] x.layers k)))

/-- A log, where its identifier and index name one. -/
def State.logBytes (s : State) (id index : Nat) : Option (List Nat) :=
  match id with
  | 1 =>
    if 128 ≤ index then none
    else
      let t := (s.lp (index / 8)).trace
      some ((List.range 4096).flatMap (fun i => leBytes 4 (Table.at 0 t.rings (4096 * (index % 8) + i))))
  | 2 => if 8 ≤ index then none else some (padTo 65536 (Table.at [] s.recording.quality index).flatten)
  | 3 => if 8 ≤ index then none else some (s.calibrationLog index)
  | 4 => if index = 0 then some s.memoryLog else none
  | _ => none

/-- GET_LOG: part of a log; of a trace ring, with the errors that its words are read with. -/
def execGetLog (h : Nat) (s : State) : Res :=
  let c := s.cmd h
  if c.mayRun Op.getLog = false ∨ s.mayDeliver h = false then .next s
  else
    let id := c.id.body.getD 0 0
    let index := c.id.body.getD 1 0
    let off := leField c.id.body 4 4
    let len := leField c.id.body 8 4
    match s.logBytes id index with
    | none => .next (s.refuse h Status.invalidField)
    | some bs =>
      if bs.length < off + len then .next (s.refuse h Status.invalidField)
      else
        let data := (bs.drop off).take len
        if id = 1 ∧ 0 < len then
          let r := s.memRead (traceAddr (index / 8) (index % 8) 0 + off) len 0xC4
          .next (r.1.answerMarked h data r.2)
        else .next (s.answer h data)

end Sys2Proof.Machine
end

