-- ==== Sys2Proof/Machine/RegAccess.lean ====
section
/-!
DEFINITION. Register space: how reads and writes reach the registers, from the host, through remote register access and from the
processors (R15, R364, R405, R428, R451, R551–R561).
-/
namespace Sys2Proof.Machine

/-- The state that a meaning gives. -/
def Res.state (s : State) : Res → State
  | .next t => t
  | _ => s

/-! ## Finding a register (R551, R552) -/

/-- A doorbell: of which pair it is, 0 the tail and 1 the head of ring i, 2 the head of the event queue. -/
structure Doorbell where
  kind : Nat
  ring : Nat
  deriving DecidableEq, Repr

/-- The doorbell at an offset of a function (R553). -/
def doorbellAt (fn off : Nat) : Option Doorbell :=
  let at_ (o : Nat) : Option Doorbell :=
    if o < (if fn = 0 then 0x20 else 0x100) then (if o % 4 = 0 then some ⟨o / 4 % 2, o / 8⟩ else none)
    else if fn = 0 ∧ o = 0x104 then some ⟨2, 0⟩ else none
  if 0xF000 ≤ off ∧ off < 0x10000 then at_ (off - 0xF000)
  else if fn = 0 ∧ 0x10000 ≤ off ∧ off < 0x11000 then at_ (off - 0x10000)
  else none

/-- The offsets of the words that an access of `bytes` bytes touches. -/
def wordsTouched (off bytes : Nat) : List Nat :=
  if bytes = 0 then [] else (List.range ((off % 4 + bytes + 3) / 4)).map (fun i => off / 4 * 4 + 4 * i)

/-! ## What a read shows (R15, R556) -/

/-- A field that the hardware forms from what it holds. -/
def State.formed (s : State) (id ix : Nat) : Option Nat :=
  let is (f : Fld) : Bool := f.id == id
  let entry := s.entry ix
  if is (F.HIF_TAG_STATUS_OUTSTANDING 0) then some (s.outstanding ix)
  else if is (F.HIF_TAG_STATUS_QUARANTINED 0) then some (s.quarantined ix)
  else if is F.EVT_Q_STATUS_HELD then some (b2n (!s.events.staging.isEmpty))
  else if is F.EVT_Q_STATUS_STAGED then some (min 255 s.events.staging.length)
  else if is (F.RING_CQ_STATUS_FULL 0 0) then some (b2n (s.cqFull (ix / 32) (ix % 32)))
  else if is (F.RING_QUEUE_STATUS_TAGS 0) then some (s.inQueue ix).length
  else if is (F.RING_QUEUE_STATUS_ADMITTED 0) then some ((s.inQueue ix).filter (fun e => e.2.phase == .admitted)).length
  else if is (F.RING_QUEUE_STATUS_LOCK_WAIT 0) then
    some (match s.waitingIn ix with
      | (h, c) :: _ => (match s.lockNeeded h c with
        | some l => b2n (!s.lockGrantable l)
        | none => 0)
      | [] => 0)
  else if is (F.RING_QUEUE_STATUS_HELD 0) then some (b2n (s.queueHeld ix))
  else if is F.RING_LOCK_STATUS_USED then some s.rings.locks.length
  else if is F.RING_LOCK_STATUS_FULL then some (b2n (decide (128 ≤ s.rings.locks.length)))
  else if is F.CCH_STATUS_WAIT then
    some (b2n (s.allCmds.any (fun e => !e.2.data.waiting.isEmpty) || !s.recording.padWait.isEmpty))
  else if is F.CCH_STATUS_LOCKED then some s.lockedCount
  else if is F.CCH_STATUS_DIRTY then some s.dirtyCount
  else if is F.CCH_STATUS_FREE then some s.freeCount
  else if is (F.CCH_ENTRY_STATUS_STATE 0) then
    some (match entry.st with
      | .free => 0 | .filling => 1 | .valid => 2 | .gathering => 3 | .committed => 4 | .recording => 5 | .evicting => 6 | .transient => 7)
  else if is (F.CCH_ENTRY_STATUS_CLASS 0) then some entry.cls
  else if is (F.CCH_ENTRY_STATUS_LOCKED 0) then some (b2n entry.locked)
  else if is (F.CCH_ENTRY_STATUS_SPEC 0) then some (b2n entry.spec)
  else if is (F.CCH_ENTRY_STATUS_EVICT_WAIT 0) then some (b2n (!entry.waiters.isEmpty))
  else if is (F.CCH_ENTRY_STATUS_FINAL 0) then some (entry.finals 64)
  else if is (F.CCH_ENTRY_BLOCK_BLOCK 0) then some entry.block
  else if is (F.CCH_ENTRY_SLOT_SLOT 0) then some entry.mslot
  else if is (F.CIP_ID_PUB_KEY 0) then some (ofLeBytes (((padTo 32 Config.idPublicKey).drop (4 * ix)).take 4))
  else if is (F.SRV_PU_STATE_SIDE 0) then some (ix % 2)
  else if is (F.RCH_LANE_STATUS_STATE 0) then some (s.laneMode ix)
  else if is F.MBL_CT_LO_CT then some s.ct
  else if is F.MBL_CT_HI_CT then some (s.ct / 2 ^ 32)
  else if is F.MBL_REM_CTRL_BUSY then some (b2n s.mbl.remBusy.isSome)
  else if is F.MBL_FWD_STATUS_OUTSTANDING then some s.mbl.fwd.length
  else if is F.TRC_DONE_DONE then some ((List.range 16).foldl (fun (a : Nat) n => a + s.fld (F.SRV_TRC_STATUS_DONE n) * 2 ^ n) 0)
  else none

/-- A field as a read shows it; a WO field reads zero. -/
def State.shows (s : State) (f : FieldRow) (ix : Nat) : Nat :=
  if f.kind = .wo then 0
  else (match s.formed f.id ix with
    | some v => v
    | none => s.fld (f.fld ix)) % 2 ^ f.width

/-- The word of a register; what is reserved reads zero. -/
def State.regWord (s : State) (r : RegRow) (ix : Nat) : Nat :=
  r.fields.foldl (fun (a : Nat) f => a + s.shows f ix * 2 ^ f.lo) 0

/-- The numbers of the requesters (R558). -/
def requesterNo : Requester → Nat
  | .host f => f.val
  | .remote => 4
  | .processor p => 5 + p.val

/-- The place of a requester's latch of the pair whose LO word has an index and a first field. -/
def latchKey (who : Requester) (r : RegRow) (ix : Nat) : Nat := 64 * (1024 * ix + (r.fields.map FieldRow.id).headD 0) + requesterNo who

/-- One word read, and the machine after it: LO latches HI for its requester, and HI gives what was latched (R405, R558). -/
def State.readWord (s : State) (who : Requester) (fn off : Nat) : Nat × State :=
  if 0x800 ≤ off ∧ off < 0xC00 then (s.msixWord fn ((off - 0x800) / 4), s)
  else if off = 0xC00 ∨ off = 0xC04 then
    let base := (off - 0xC00) * 8
    ((List.range 32).foldl (fun (a : Nat) i => a + b2n (s.pendingBit fn (base + i)) * 2 ^ i) 0, s)
  else
    match regAt fn off with
    | none => (0, s)
    | some (r, ix) =>
      match r.role with
      | .plain => (s.regWord r ix, s)
      | .counterLo | .pairLo =>
        let hi := match regAt fn (off + 4) with
          | some (q, jx) => s.regWord q jx
          | none => 0
        (s.regWord r ix, { s with latch := Table.put 0 s.latch (latchKey who r ix) hi })
      | .counterHi | .pairHi =>
        match regAt fn (off - 4) with
        | some (q, jx) => (Table.at 0 s.latch (latchKey who q jx), s)
        | none => (0, s)

/-- Several words read in ascending order: their bytes, and the machine after. -/
def State.readWords (s : State) (who : Requester) (fn : Nat) (offs : List Nat) : List Nat × State :=
  offs.foldl (fun (acc : List Nat × State) off =>
    let r := acc.2.readWord who fn off
    (acc.1 ++ leBytes 4 r.1, r.2)) ([], s)

/-! ## What a write does (R15, R556) -/

/-- The RW, RWS and RW1C fields of a register take a written word; each 1 clears its RW1C bit. -/
def State.writeFields (s : State) (r : RegRow) (ix v : Nat) : State :=
  r.fields.foldl (fun s f =>
    match f.kind with
    | .rw | .rws => s.put (f.fld ix) (bitsOf v f.lo f.width)
    | .rw1c => s.put (f.fld ix) (s.fld (f.fld ix) - (s.fld (f.fld ix) &&& bitsOf v f.lo f.width))
    | .ro | .wo => s) s

/-- An effect where a bit of the written word is 1. -/
def State.onBit (s : State) (v i : Nat) (f : State → State) : State := if v.testBit i then f s else s

/-- Writes of the endpoint's, the event queue's and the rings' registers that do more than store fields (R390, R405, R407, R427); none: the
fields alone are written. -/
def State.writeHost (s : State) (fn b ix v : Nat) : Option State :=
  let f : Fin 4 := Fin.ofNat 4 fn
  let i : Fin 32 := Fin.ofNat 32 (ix % 32)
  if b = 0x80 then some (s.onBit v 0 (fun s => Res.state s (execWindowCommit f s)))
  else if b = 0x1000 ∨ b = 0x1004 then (if s.flag F.EVT_Q_CFG_ENABLE then some s else none)
  else if b = 0x1008 then some (Res.state s (execEvtQCfgWrite (BitVec.ofNat 32 v) s))
  else if b = 0x1018 then some (s.onBit v 0 (fun s => Res.state s (execClearAll s)))
  else if b = 0x2000 ∨ b = 0x2004 then (if s.flag (F.RING_SQ_CFG_ENABLE fn i) then some s else none)
  else if b = 0x2008 then some (Res.state s (execSqCfgWrite f i (BitVec.ofNat 32 v) s))
  else if b = 0x2400 ∨ b = 0x2404 then (if s.flag (F.RING_CQ_CFG_ENABLE fn i) then some s else none)
  else if b = 0x2408 then some (Res.state s (execCqCfgWrite f i (BitVec.ofNat 32 v) s))
  else none

/-- Writes to the on-chip memory, the cache and the cipher engine (R311, R314, R338, R347, R348). -/
def State.writeStore (s : State) (r : RegRow) (ix v : Nat) : Option State :=
  let b := r.base
  let stage (w : Nat) : State := { s with cipher := { s.cipher with staging := Table.put 0 s.cipher.staging w v } }
  if b = 0x20000 then some ((s.writeFields r ix v).onBit v 8 (fun s => Res.state s (execMemCntClr s)))
  else if b = 0x20030 then some (s.writeInject v)
  else if b = 0x24000 then some (Res.state s (if v.testBit 0 then execCacheEnable s else execCacheDisable s))
  else if b = 0x28010 then some (stage ix)
  else if b = 0x28050 then some (stage 16)
  else if b = 0x28054 then some (stage 17)
  else if b = 0x28058 then
    let slot : Fin 64 := Fin.ofNat 64 (bitsOf v 0 6)
    match bitsOf v 8 2 with
    | 1 => some (Res.state s (execKeyLoad slot s))
    | 2 => some (Res.state s (execKeyErase slot s))
    | _ => some s
  else none

/-- Writes to a loop processor's stride and windows and to the common registers of the block (R85, R95, R99, R111, R119, R125, R561). -/
def State.writeServo (s : State) (r : RegRow) (ix v : Nat) : Option State :=
  let b := r.base
  let n : Fin 16 := Fin.ofNat 16 ix
  let stored := s.writeFields r ix v
  if b = 0x30000 then some (stored.updateCost ix)
  else if b = 0x30024 then
    some (if v.testBit 0 then Res.state s (execInjEnable n (BitVec.ofNat 16 (bitsOf v 16 16)) s) else stored)
  else if b = 0x30100 then
    let s := stored.onBit v 0 (fun s => s.traceArm ix)
    let s := s.onBit v 1 (fun s => Res.state s (execTraceStop n s))
    some (s.onBit v 2 (fun s => s.traceFire ix))
  else if b = 0x30204 then some (Res.state s (if v.testBit 0 then execBelayReqSet n s else execBelayReqClear n s))
  else if b = 0x30340 then
    let was := s.flag (F.SRV_LDD_CTRL_LINK_EN ix)
    let s := s.setFlag (F.SRV_LDD_CTRL_LDEN_REQ ix) (v.testBit 1)
    let s := if v.testBit 0 then Res.state s (execLddLinkEnable n s) else if was then s.lddOff ix else s
    some (s.driveLden ix)
  else if b = 0x34020 then some (Res.state s (execSectEnWrite (Fin.ofNat 16 (ix / 4)) (Fin.ofNat 4 ix) (BitVec.ofNat 32 v) s))
  else if 0x34000 ≤ b ∧ b < 0x34030 then some (stored.updateCost (ix / 4))
  else if 0x34030 ≤ b ∧ b < 0x34048 then some (stored.updateCost (ix / 56))
  else if b = 0x3C000 then some (Res.state s (execSrvPeriodWrite (BitVec.ofNat 32 v) s))
  else if b = 0x90000 then some (Res.state s (execTrcArm (BitVec.ofNat 16 v) s))
  else if b = 0x90004 then some (Res.state s (execTrcFire (BitVec.ofNat 16 v) s))
  else none

/-- Writes to the spindles (R153, R157, R171, R174). -/
def State.writeSpindle (s : State) (r : RegRow) (ix v : Nat) : Option State :=
  let b := r.base
  let st : Fin 8 := Fin.ofNat 8 ix
  if b = 0x40000 then
    let s := (s.put (F.SPN_CTRL_START_MODE ix) (bitsOf v 1 2)).put (F.SPN_CTRL_STANDSTILL ix) (bitsOf v 3 1)
    some (s.writeRun ix (v.testBit 0))
  else if b = 0x40004 then some (Res.state s (execSpindleTargetWrite st (BitVec.ofNat 32 v) s))
  else if b = 0x4000C then some ((s.writeFields r ix v).onBit v 4 (fun s => Res.state s (execChopFaultClear st s)))
  else if b = 0x40034 then some (s.onBit v 26 (fun s => s.put (F.SPN_BUS_VBUS_PEAK ix) (s.fld (F.SPN_BUS_VBUS ix))))
  else none

/-- A write of MOT_CTRL: the strongest of the acts it asks (R198, R202, R206, R208). -/
def State.writeMotCtrl (s : State) (x v : Nat) : State :=
  let m : Fin 28 := Fin.ofNat 28 x
  if v.testBit 2 then Res.state s (execMotorEmergency m s)
  else if v.testBit 1 then Res.state s (execMotorRappel m s)
  else if v.testBit 3 = true ∧ 16 ≤ x then Res.state s (execMotorHome (Fin.ofNat 12 (x - 16)) s)
  else if v.testBit 0 then Res.state s (execMotorStart m s)
  else s

/-- A write of GRP_CTRL: MEMBERS where it differs, then RAPPEL before START (R193, R195, R198). -/
def State.writeGrpCtrl (s : State) (x v : Nat) : State :=
  let g : Fin 3 := Fin.ofNat 3 x
  let s := if s.fld (F.MOT_GRP_CTRL_MEMBERS x) = v % 65536 then s else Res.state s (execGroupMembersWrite g (BitVec.ofNat 32 v) s)
  if v.testBit 17 then Res.state s (execGroupRappel g s)
  else if v.testBit 16 = true ∧ s.fld (F.MOT_GRP_CTRL_MEMBERS x) = v % 65536 then Res.state s (execGroupStart g s)
  else s

/-- A write of MOT_GEAR_CTRL: ENGAGE where it differs, then ARM (R190, R191). -/
def State.writeGearCtrl (s : State) (x v : Nat) : State :=
  let s := if s.flag (F.MOT_GEAR_CTRL_ENGAGE x) = v.testBit 0 then s else s.setGear x (v.testBit 0)
  s.onBit v 1 (fun s => s.armGear x)

/-- Writes to the motion block (R182–R208). -/
def State.writeMotion (s : State) (r : RegRow) (ix v : Nat) : Option State :=
  let b := r.base
  let x : Fin 28 := Fin.ofNat 28 ix
  let w : Word := BitVec.ofNat 32 v
  if b = 0x48000 then some (s.writeMotCtrl ix v)
  else if b = 0x48004 then some (Res.state s (execMotorTargetWrite x w s))
  else if b = 0x48008 then some (Res.state s (execMotorSpeedWrite x false w s))
  else if b = 0x4800C then some (Res.state s (execMotorSpeedWrite x true w s))
  else if b = 0x48010 then some (Res.state s (execMotorDecWrite x w s))
  else if b = 0x48020 then some (Res.state s (execMotorPosSet x w s))
  else if b = 0x48024 then
    let s := s.writeFields r ix v
    some (if v.testBit 8 = true ∧ 16 ≤ ix then Res.state s (execHomeFaultClear (Fin.ofNat 12 (ix - 16)) s) else s)
  else if b = 0x48028 then some (s.writeGearCtrl ix v)
  else if b = 0x4A000 then some (s.writeGrpCtrl ix v)
  else if b = 0x4A400 then
    let s := s.onBit v 1 (fun s => Res.state s (execEstopClear s))
    some (s.onBit v 0 (fun s => Res.state s (execEstopAll s)))
  else none

/-- The staged register of a lane that lies at a base (R240). -/
def laneRegAt (b ix : Nat) : Option LaneReg :=
  if b = 0x50000 then some .ctrl
  else if b = 0x50008 then some .vga
  else if b = 0x5000C then some .ctf
  else if b = 0x50010 then some .offset
  else if b = 0x50014 then some .dgain
  else if b = 0x50018 then some .asym
  else if b = 0x50028 then some .align
  else if b = 0x50030 then some .target
  else if b = 0x54000 then some (.coef (Fin.ofNat 60 ix))
  else none

/-- Writes to a read lane: the staged registers (R240). -/
def State.writeLane (s : State) (r : RegRow) (ix v : Nat) : Option State :=
  (laneRegAt r.base ix).map (fun reg => s.laneWrite (if r.base = 0x54000 then ix / 60 else ix) reg v)

/-! ## Remote register access (R451) -/

/-- A remote access sent by the root: a REG_WRITE or a REG_READ for MBL_REM_ID; refused with ERR while one is in progress, and below the
root. -/
def State.remoteAccess (s : State) (write : Bool) : State :=
  if s.root = false ∨ s.mbl.remBusy.isSome = true then s.put F.MBL_REM_CTRL_ERR 1
  else
    let tag := freeChainTag (0 :: s.mbl.fwd.map Fwd.tag) 65536 s.mbl.nextTag
    let s := { s with mbl := { s.mbl with remBusy := some tag, nextTag := tag + 1 } }
    let ofs := leBytes 4 (s.fld F.MBL_REM_OFS_OFS)
    let p := if write then mgmtPacket s (s.fld F.MBL_REM_ID_ID) Mgmt.regWrite tag (ofs ++ leBytes 4 (s.fld F.MBL_REM_DATA_DATA))
      else mgmtPacket s (s.fld F.MBL_REM_ID_ID) Mgmt.regRead tag ofs
    s.route p

/-- REMOTE_WRITE: MBL_REM_CTRL.WRITE written 1. -/
def execRemoteWrite (s : State) : Res := .next (s.remoteAccess true)

/-- REMOTE_READ: MBL_REM_CTRL.READ written 1. -/
def execRemoteRead (s : State) : Res := .next (s.remoteAccess false)

/-- A write of MBL_RESET: KIND and TARGET are stored, DONE and ERR cleared by ones, and GO starts the reset (R453). Where the target's subtree
ends within its port's range is not known to the root, unless it is the whole of the range. -/
def State.writeTreeReset (s : State) (r : RegRow) (v : Nat) : State :=
  let s := s.writeFields r 0 v
  let target := bitsOf v 8 24
  if v.testBit 2 = false then s
  else
    match bitsOf v 0 2 with
    | 1 => Res.state s (execTreeResetStation (BitVec.ofNat 24 target) s)
    | 2 =>
      match s.portFor target with
      | none => Res.state s (execTreeResetDevice (BitVec.ofNat 24 target) (BitVec.ofNat 24 target) s)
      | some q =>
        let hi := s.fld (F.MBL_PORT_RANGE_HI_HI q)
        if target = s.fld (F.MBL_PORT_RANGE_LO_LO q) then
          Res.state s (execTreeResetDevice (BitVec.ofNat 24 target) (BitVec.ofNat 24 hi) s)
        else
          let pick := s.takeFree
          Res.state s (execTreeResetDevice (BitVec.ofNat 24 target) (BitVec.ofNat 24 (target + pick.1 % (hi - target + 1))) pick.2)
    | _ => s.resetErr

/-- Writes to the tree's registers (R447, R451, R453, R455, R459). -/
def State.writeTree (s : State) (r : RegRow) (ix v : Nat) : Option State :=
  let b := r.base
  let q : Fin 5 := Fin.ofNat 5 ix
  if b = 0x68000 then
    let s := s.writeFields r ix v
    let s := if s.flag (F.MBL_PORT_CTRL_EN ix) = false then Res.state s (execPortDown q s) else s
    let s := s.onBit v 2 (fun s => Res.state s (execPortRetrain q s))
    some (s.onBit v 3 (fun s => Res.state s (execFenceClr q s)))
  else if b = 0x68418 then some (if s.root then s.put F.MBL_CT_LOAD_LO_CT v else s)
  else if b = 0x6841C then some (Res.state s (execCtLoad (BitVec.ofNat 32 v) s))
  else if b = 0x68428 then some (s.writeTreeReset r v)
  else if b = 0x6843C then
    let s := s.writeFields r ix v
    some (if v.testBit 0 then s.remoteAccess true else if v.testBit 1 then s.remoteAccess false else s)
  else none

/-- Writes to the slots, the firmware update and the system registers (R464, R472, R495–R499, R507, R513, R519, R520). -/
def State.writeSystem (s : State) (r : RegRow) (ix v : Nat) : Option State :=
  let b := r.base
  let k : Fin 12 := Fin.ofNat 12 ix
  if b = 0x70000 then
    let s := s.put (F.HPC_SLOT_CTRL_ATTN ix) (bitsOf v 2 1)
    let s := s.onBit v 1 (fun s => Res.state s (execSlotAbortReq k s))
    some (if s.flag (F.HPC_SLOT_CTRL_PWR_REQ ix) = v.testBit 0 then s
      else Res.state s (if v.testBit 0 then execPwrReqSet k s else execPwrReqClear k s))
  else if b = 0x70004 then some ((s.writeFields r ix v).onBit v 9 (fun s => Res.state s (execSlotFaultClear k s)))
  else if b = 0x78000 then
    let s := s.writeFields r ix v
    let s := s.onBit v 3 (fun s => Res.state s (execFwCancel s))
    let s := s.onBit v 0 (fun s => Res.state s (execFwVerify (Fin.ofNat 2 (bitsOf v 1 1)) s))
    some (s.onBit v 2 (fun s => Res.state s (execFwRoll (Fin.ofNat 16 (bitsOf v 4 4)) s)))
  else if b = 0x78008 then some (Res.state s (execFwBootSlotWrite (Fin.ofNat 2 v) s))
  else if b = 0x80004 then
    let s := s.writeFields r ix v
    some (if s.flag F.SYS_PACE_STATUS_BOOST then s.paceBoost
      else s.put F.SYS_PACE_TARGET (max 780 (min 1200 (s.fld F.SYS_PACE_CFG_TARGET))))
  else if b = 0x80024 then some (s.forEach (setBits 8 v) State.stationReset)
  else none

/-- One whole word written to a register: what its chapter gives the write, or its fields by R15. -/
def State.writeReg (s : State) (fn : Nat) (r : RegRow) (ix v : Nat) : State :=
  ((s.writeHost fn r.base ix v).orElse fun _ => (s.writeStore r ix v).orElse fun _ => (s.writeServo r ix v).orElse fun _ =>
    (s.writeSpindle r ix v).orElse fun _ => (s.writeMotion r ix v).orElse fun _ => (s.writeLane r ix v).orElse fun _ =>
    (s.writeTree r ix v).orElse fun _ => s.writeSystem r ix v).getD (s.writeFields r ix v)

/-- One whole word written to a function's register space; a write to a reserved offset is discarded. A word of the MSI-X table is stored,
and a Mask bit that it clears unmasks its vector (R404). -/
def State.writeWord (s : State) (fn off v : Nat) : State :=
  if 0x800 ≤ off ∧ off < 0xC00 then
    let k := (off - 0x800) / 4
    let was := s.msixWord fn k
    let s := { s with pcie := { s.pcie with msix := Table.set msixDefault s.pcie.msix (256 * fn + k) (v % 2 ^ 32) } }
    if k % 4 = 3 ∧ was % 2 = 1 ∧ v % 2 = 0 then Res.state s (execMsixUnmask (Fin.ofNat 4 fn) (Fin.ofNat 64 (k / 4)) s) else s
  else
    match regAt fn off with
    | some (r, ix) => s.writeReg fn r ix (v % 2 ^ 32)
    | none => s

/-- A single write to a doorbell, of any shape. -/
def State.writeDoorbell (s : State) (fn : Nat) (d : Doorbell) (shape : WriteShape) (v : Word) : State :=
  let f : Fin 4 := Fin.ofNat 4 fn
  let i : Fin 32 := Fin.ofNat 32 d.ring
  match d.kind with
  | 0 => Res.state s (execSqTailDoorbell f i shape v s)
  | 1 => Res.state s (execCqHeadDoorbell f i shape v s)
  | _ => Res.state s (execEvtQHeadDoorbell shape v s)

/-- A write that register space takes: doorbells take a single aligned word alone, and discard and count any other write that covers one
(R364, R553); elsewhere a write acts word by word, and one of less than a word or off its boundary is discarded (R555). -/
def State.acceptWrite (s : State) (fn off : Nat) (shape : WriteShape) (values : List Word) : State :=
  match (wordsTouched off shape.bytes).findSome? (doorbellAt fn) with
  | some d => s.writeDoorbell fn d shape (values.headD 0)
  | none =>
    if shape.aligned = false ∨ off % 4 ≠ 0 then s
    else
      ((List.range (shape.bytes / 4)).zip values).foldl (fun s e => s.writeWord fn (off + 4 * e.1) e.2.toNat) s

/-- The function whose registers a requester reaches. -/
def requesterFn : Requester → Nat
  | .host f => f.val
  | _ => 0

/-- How a function's state meets an access of the host (R560): refused with Unsupported Request, silent in an FLR, or served. -/
inductive HostGate where
  | refused | silent | served
  deriving DecidableEq, Repr

def State.hostGate (s : State) (who : Requester) : HostGate :=
  match who with
  | .host f =>
    if s.fw.booted = false ∨ s.fld (F.HIF_FUNC_STATUS_D_STATE f) = 3 then .refused
    else if s.flag (F.HIF_FUNC_STATUS_FLR_BUSY f) then .silent
    else .served
  | _ => .served

/-- REGISTER_WRITE: a write to register space of the host, of remote register access or of a processor. -/
def execRegisterWrite (who : Requester) (off : BitVec 20) (shape : WriteShape) (values : List Word) (s : State) : Res :=
  let fn := requesterFn who
  let host := match who with
    | .host _ => true
    | _ => false
  let s := if host then s.wakeLink else s
  match s.hostGate who with
  | .refused => .next (s.logAer fn aerUnsupported)
  | gate =>
    if shape.poisoned then .next (if host then s.poisonedWrite fn off.toNat else s)
    else if gate = .silent then .next s
    else .next (s.acceptWrite fn off.toNat { shape with aligned := shape.aligned && decide (off.toNat % 4 = 0) } values)

/-- REGISTER_READ: `len` bytes read; the host's are answered by a completion that carries its request's `id`. -/
def execRegisterRead (who : Requester) (off : BitVec 20) (len id : Nat) (s : State) : Res :=
  let fn := requesterFn who
  let o := off.toNat
  match who with
  | .host _ =>
    let s := s.wakeLink
    (match s.hostGate who with
    | .refused => .next ((s.logAer fn aerUnsupported).emit (.reply id .unsupported []))
    | .silent =>
      let live (a : Nat) : List Nat := leBytes 4 (if a = 0 then (s.readWord who fn 0).1 else 0)
      .next (s.emit (.reply id .success ((((wordsTouched o len).flatMap live).drop (o % 4)).take len)))
    | .served =>
      let r := s.readWords who fn (wordsTouched o len)
      .next (r.2.emit (.reply id .success ((r.1.drop (o % 4)).take len))))
  | _ => .next (s.readWords who fn (wordsTouched o len)).2

/-! ## Remote access packets (R451) -/

/-- REG_READ: the register's word goes back to the sender in REG_DATA. -/
def execRegRead (s : State) : Res :=
  match s.takeFirst (isMgmt Mgmt.regRead) with
  | none => .next s
  | some (e, s) =>
    let off := leField (mgmtBody e.packet) 0 4
    let r := s.readWords .remote 0 (wordsTouched off 4)
    .next (r.2.route (mgmtPacket r.2 e.packet.src Mgmt.regData e.packet.tag (leBytes 4 off ++ (r.1.drop (off % 4)).take 4)))

/-- REG_WRITE: the register is written as by one write of four bytes, and REG_DATA says that it has been. -/
def execRegWrite (s : State) : Res :=
  match s.takeFirst (isMgmt Mgmt.regWrite) with
  | none => .next s
  | some (e, s) =>
    let off := leField (mgmtBody e.packet) 0 4
    let v := leField (mgmtBody e.packet) 4 4
    let s := s.acceptWrite 0 off ⟨4, off % 4 == 0, false⟩ [BitVec.ofNat 32 v]
    .next (s.route (mgmtPacket s e.packet.src Mgmt.regData e.packet.tag (leBytes 4 off ++ leBytes 4 v)))

/-- REG_DATA: the answer to the remote access in progress. -/
def execRegData (s : State) : Res :=
  match s.takeFirst (isMgmt Mgmt.regData) with
  | none => .next s
  | some (e, s) =>
    if s.mbl.remBusy = some e.packet.tag then
      .next (({ s with mbl := { s.mbl with remBusy := none } }).put F.MBL_REM_DATA_DATA (leField (mgmtBody e.packet) 4 4))
    else .next s

/-- REMOTE_ACCESS_TIMEOUT: an access is not answered within MBL_CFG.WINDOW_US. -/
def execRemoteAccessTimeout (s : State) : Res :=
  if s.mbl.remBusy.isSome then .next (({ s with mbl := { s.mbl with remBusy := none } }).put F.MBL_REM_CTRL_ERR 1) else .next s

end Sys2Proof.Machine
end

