-- ==== Sys2Proof/Machine/Dispatch.lean ====
section
/-!
DEFINITION. The meaning of every command: one arm per constructor of `Instr`.
-/
namespace Sys2Proof.Machine

def exec (i : Instr) (s : State) : Host.Outcome State Fault Refusal :=
  match i with
  -- PCI Express endpoint
  | .initiateFlr f => Sys2Proof.Machine.execInitiateFlr f s
  | .flrDone f => Sys2Proof.Machine.execFlrDone f s
  | .hotReset => Sys2Proof.Machine.execHotReset s
  | .dlDown => Sys2Proof.Machine.execDlDown s
  | .pcieLinkChange rate width => Sys2Proof.Machine.execPcieLinkChange rate width s
  | .pmD3hotEntry f => Sys2Proof.Machine.execPmD3hotEntry f s
  | .pmD0Return f => Sys2Proof.Machine.execPmD0Return f s
  | .aspmL0sEntry => Sys2Proof.Machine.execAspmL0sEntry s
  | .aspmL1Entry => Sys2Proof.Machine.execAspmL1Entry s
  | .completionTlp f tag status data => Sys2Proof.Machine.execCompletionTlp f tag status data s
  | .cplTimeout f tag => Sys2Proof.Machine.execCplTimeout f tag s
  | .tagQuarantineEnd f tag => Sys2Proof.Machine.execTagQuarantineEnd f tag s
  | .functionWedged f => Sys2Proof.Machine.execFunctionWedged f s
  | .msixUnmask f vector => Sys2Proof.Machine.execMsixUnmask f vector s
  | .vectorModTimeout f vector => Sys2Proof.Machine.execVectorModTimeout f vector s
  | .peerRead f offset len => Sys2Proof.Machine.execPeerRead f offset len s
  | .bar2Write f offset => Sys2Proof.Machine.execBar2Write f offset s
  | .peerReadResume id => Sys2Proof.Machine.execPeerReadResume id s
  | .peerReadTimeout id => Sys2Proof.Machine.execPeerReadTimeout id s
  | .windowCommit f => Sys2Proof.Machine.execWindowCommit f s
  | .windowCommitApply f => Sys2Proof.Machine.execWindowCommitApply f s
  | .configurationRequest f field write => Sys2Proof.Machine.execConfigurationRequest f field write s
  | .badTlpReceived f err => Sys2Proof.Machine.execBadTlpReceived f err s
  | .l1PmSubstateEntry clkreqReleased => Sys2Proof.Machine.execL1PmSubstateEntry clkreqReleased s
  | .pcieLinkUp rate width => Sys2Proof.Machine.execPcieLinkUp rate width s
  -- Doorbells, rings and queues
  | .sqTailDoorbell f ring shape value => Sys2Proof.Machine.execSqTailDoorbell f ring shape value s
  | .cqHeadDoorbell f ring shape value => Sys2Proof.Machine.execCqHeadDoorbell f ring shape value s
  | .evtQHeadDoorbell shape value => Sys2Proof.Machine.execEvtQHeadDoorbell shape value s
  | .sqCfgWrite f ring value => Sys2Proof.Machine.execSqCfgWrite f ring value s
  | .cqCfgWrite f ring value => Sys2Proof.Machine.execCqCfgWrite f ring value s
  | .evtQCfgWrite value => Sys2Proof.Machine.execEvtQCfgWrite value s
  | .descriptorFetch f ring => Sys2Proof.Machine.execDescriptorFetch f ring s
  | .acceptance h => Sys2Proof.Machine.execAcceptance h s
  | .listReadDone h => Sys2Proof.Machine.execListReadDone h s
  | .dispatch h => Sys2Proof.Machine.execDispatch h s
  | .admission q => Sys2Proof.Machine.execAdmission q s
  | .completionRecord f ring => Sys2Proof.Machine.execCompletionRecord f ring s
  | .eventRecord => Sys2Proof.Machine.execEventRecord s
  | .eventsLost => Sys2Proof.Machine.execEventsLost s
  | .clearAll => Sys2Proof.Machine.execClearAll s
  -- Commands
  | .read h => Sys2Proof.Machine.execRead h s
  | .write h => Sys2Proof.Machine.execWrite h s
  | .verify h => Sys2Proof.Machine.execVerify h s
  | .flush h => Sys2Proof.Machine.execFlush h s
  | .preload h => Sys2Proof.Machine.execPreload h s
  | .abort h => Sys2Proof.Machine.execAbort h s
  | .cipherJob h => Sys2Proof.Machine.execCipherJob h s
  -- Staging cache
  | .entryAllocate h block => Sys2Proof.Machine.execEntryAllocate h block s
  | .readAhead st => Sys2Proof.Machine.execReadAhead st s
  | .cacheDisable => Sys2Proof.Machine.execCacheDisable s
  | .cacheEnable => Sys2Proof.Machine.execCacheEnable s
  | .cacheDrainDone => Sys2Proof.Machine.execCacheDrainDone s
  | .dmaWriteIssued h unit => Sys2Proof.Machine.execDmaWriteIssued h unit s
  -- Cipher engine
  | .keyLoad slot => Sys2Proof.Machine.execKeyLoad slot s
  | .keyErase slot => Sys2Proof.Machine.execKeyErase slot s
  | .keyLoadDone => Sys2Proof.Machine.execKeyLoadDone s
  | .keyZeroizeDone slot => Sys2Proof.Machine.execKeyZeroizeDone slot s
  | .engineBlockDone e => Sys2Proof.Machine.execEngineBlockDone e s
  | .jtagStateChange enabled record => Sys2Proof.Machine.execJtagStateChange enabled record s
  | .attest h => Sys2Proof.Machine.execAttest h s
  | .lRead h => Sys2Proof.Machine.execLRead h s
  | .lWrite h => Sys2Proof.Machine.execLWrite h s
  | .lFlush h => Sys2Proof.Machine.execLFlush h s
  | .fwDownload h => Sys2Proof.Machine.execFwDownload h s
  | .flashProgramDone ok => Sys2Proof.Machine.execFlashProgramDone ok s
  -- Read channel
  | .rchStagedWrite bc reg value => Sys2Proof.Machine.execRchStagedWrite bc reg value s
  | .frameStart bc target zone tone rate => Sys2Proof.Machine.execFrameStart bc target zone tone rate s
  | .frameEnd bc first bits clips => Sys2Proof.Machine.execFrameEnd bc first bits clips s
  | .timingLost bc bit mean => Sys2Proof.Machine.execTimingLost bc bit mean s
  | .defectActive bc e1 e2 r => Sys2Proof.Machine.execDefectActive bc e1 e2 r s
  | .defectInactive bc windows r => Sys2Proof.Machine.execDefectInactive bc windows r s
  | .captureAgeTrigger bc meanErr => Sys2Proof.Machine.execCaptureAgeTrigger bc meanErr s
  | .frameImageDone e j rows => Sys2Proof.Machine.execFrameImageDone e j rows s
  | .laneQualityLow bc => Sys2Proof.Machine.execLaneQualityLow bc s
  -- Framing, decoding and sector recovery
  | .syncSearch bc p q => Sys2Proof.Machine.execSyncSearch bc p q s
  | .decodeConverged e j idx codeword inTime => Sys2Proof.Machine.execDecodeConverged e j idx codeword inTime s
  | .decodeMaxIter e j idx inTime => Sys2Proof.Machine.execDecodeMaxIter e j idx inTime s
  | .redecodeRoundStart => Sys2Proof.Machine.execRedecodeRoundStart s
  | .reequalizerPassDone e j => Sys2Proof.Machine.execReequalizerPassDone e j s
  | .outerDecode e => Sys2Proof.Machine.execOuterDecode e s
  | .outerDecodeDone e => Sys2Proof.Machine.execOuterDecodeDone e s
  | .blockBlank e => Sys2Proof.Machine.execBlockBlank e s
  | .reread e => Sys2Proof.Machine.execReread e s
  -- Loop engine
  | .srvPeriodWrite value => Sys2Proof.Machine.execSrvPeriodWrite value s
  | .sectEnWrite n l value => Sys2Proof.Machine.execSectEnWrite n l value s
  | .injEnable n amp => Sys2Proof.Machine.execInjEnable n amp s
  | .holdExtendEnd n l => Sys2Proof.Machine.execHoldExtendEnd n l s
  -- Motion
  | .profileTick => Sys2Proof.Machine.execProfileTick s
  | .motorStart x => Sys2Proof.Machine.execMotorStart x s
  | .motorRappel x => Sys2Proof.Machine.execMotorRappel x s
  | .motorEmergency x => Sys2Proof.Machine.execMotorEmergency x s
  | .motorHome m => Sys2Proof.Machine.execMotorHome m s
  | .motorTargetWrite x value => Sys2Proof.Machine.execMotorTargetWrite x value s
  | .motorSpeedWrite x acc value => Sys2Proof.Machine.execMotorSpeedWrite x acc value s
  | .motorDecWrite x value => Sys2Proof.Machine.execMotorDecWrite x value s
  | .motorPosSet x value => Sys2Proof.Machine.execMotorPosSet x value s
  | .gearEngage x on => Sys2Proof.Machine.execGearEngage x on s
  | .gearArm x => Sys2Proof.Machine.execGearArm x s
  | .gearChange x => Sys2Proof.Machine.execGearChange x s
  | .groupMembersWrite g members => Sys2Proof.Machine.execGroupMembersWrite g members s
  | .groupStart g => Sys2Proof.Machine.execGroupStart g s
  | .groupRappel g => Sys2Proof.Machine.execGroupRappel g s
  | .estopAll => Sys2Proof.Machine.execEstopAll s
  | .estopClear => Sys2Proof.Machine.execEstopClear s
  | .homeFaultClear m => Sys2Proof.Machine.execHomeFaultClear m s
  | .limitQualified m positive active edge => Sys2Proof.Machine.execLimitQualified m positive active edge s
  | .homeQualified m active edge => Sys2Proof.Machine.execHomeQualified m active edge s
  | .encoderEdge m edge => Sys2Proof.Machine.execEncoderEdge m edge s
  | .sledStandstill x => Sys2Proof.Machine.execSledStandstill x s
  | .axisHoldReduce m => Sys2Proof.Machine.execAxisHoldReduce m s
  | .moveAxis h => Sys2Proof.Machine.execMoveAxis h s
  | .moveGroup h => Sys2Proof.Machine.execMoveGroup h s
  | .moveHoming h => Sys2Proof.Machine.execMoveHoming h s
  | .moveRappel h => Sys2Proof.Machine.execMoveRappel h s
  | .lSegment h => Sys2Proof.Machine.execLSegment h s
  -- Focus, layers and track following
  | .addressDecoded n address passed => Sys2Proof.Machine.execAddressDecoded n address passed s
  | .focusSweepEnd n => Sys2Proof.Machine.execFocusSweepEnd n s
  | .focusLock n => Sys2Proof.Machine.execFocusLock n s
  | .focusedTimeout n => Sys2Proof.Machine.execFocusedTimeout n s
  | .trackLock n => Sys2Proof.Machine.execTrackLock n s
  | .pullinTimeout n => Sys2Proof.Machine.execPullinTimeout n s
  | .alignAddressTimeout n => Sys2Proof.Machine.execAlignAddressTimeout n s
  | .trackJumpDone n => Sys2Proof.Machine.execTrackJumpDone n s
  | .trackJumpTimeout n => Sys2Proof.Machine.execTrackJumpTimeout n s
  | .layerJumpTimeout n => Sys2Proof.Machine.execLayerJumpTimeout n s
  | .coarseSettleEnd n => Sys2Proof.Machine.execCoarseSettleEnd n s
  | .focusLost n => Sys2Proof.Machine.execFocusLost n s
  | .trackLost n => Sys2Proof.Machine.execTrackLost n s
  | .parkRampEnd n => Sys2Proof.Machine.execParkRampEnd n s
  | .recoverCountClear n => Sys2Proof.Machine.execRecoverCountClear n s
  | .defectLong n => Sys2Proof.Machine.execDefectLong n s
  | .defectTriggersRestore n => Sys2Proof.Machine.execDefectTriggersRestore n s
  | .revolutionReference n => Sys2Proof.Machine.execRevolutionReference n s
  | .baeGatesReopen n => Sys2Proof.Machine.execBaeGatesReopen n s
  | .belayReqSet n => Sys2Proof.Machine.execBelayReqSet n s
  | .belayReqClear n => Sys2Proof.Machine.execBelayReqClear n s
  -- Loop processors
  | .sampleInstant inputs => Sys2Proof.Machine.execSampleInstant inputs s
  | .outputInstant n ready => Sys2Proof.Machine.execOutputInstant n ready s
  | .loopComputationEnd n => Sys2Proof.Machine.execLoopComputationEnd n s
  | .loopBelayLate n => Sys2Proof.Machine.execLoopBelayLate n s
  | .loopOnTime n => Sys2Proof.Machine.execLoopOnTime n s
  | .traceArm n => Sys2Proof.Machine.execTraceArm n s
  | .traceStop n => Sys2Proof.Machine.execTraceStop n s
  | .traceFire n => Sys2Proof.Machine.execTraceFire n s
  | .traceDone n => Sys2Proof.Machine.execTraceDone n s
  | .trcArm mask => Sys2Proof.Machine.execTrcArm mask s
  | .trcFire mask => Sys2Proof.Machine.execTrcFire mask s
  | .laserOverpower n => Sys2Proof.Machine.execLaserOverpower n s
  -- Laser-driver link
  | .lddLinkEnable n => Sys2Proof.Machine.execLddLinkEnable n s
  | .lddStatusFrame n frame => Sys2Proof.Machine.execLddStatusFrame n frame s
  | .lddLinkUp n => Sys2Proof.Machine.execLddLinkUp n s
  | .lddBadFrames n => Sys2Proof.Machine.execLddBadFrames n s
  | .lddStatusTimeout n => Sys2Proof.Machine.execLddStatusTimeout n s
  | .lddTableLoad n layer crc1 crc2 => Sys2Proof.Machine.execLddTableLoad n layer crc1 crc2 s
  -- Spindles
  | .spindleRunSet st => Sys2Proof.Machine.execSpindleRunSet st s
  | .spindleRunClear st => Sys2Proof.Machine.execSpindleRunClear st s
  | .spindleTargetWrite st value => Sys2Proof.Machine.execSpindleTargetWrite st value s
  | .chopFaultClear st => Sys2Proof.Machine.execChopFaultClear st s
  | .spindleZeroCrossing st interval after emf => Sys2Proof.Machine.execSpindleZeroCrossing st interval after emf s
  | .spindleCommutation st elapsed duty => Sys2Proof.Machine.execSpindleCommutation st elapsed duty s
  | .zeroCrossingMissed st => Sys2Proof.Machine.execZeroCrossingMissed st s
  | .speedLoopInstant st => Sys2Proof.Machine.execSpeedLoopInstant st s
  | .atSpeed st => Sys2Proof.Machine.execAtSpeed st s
  | .busConversion st code => Sys2Proof.Machine.execBusConversion st code s
  | .chopperNoCurrent st => Sys2Proof.Machine.execChopperNoCurrent st s
  | .busOvRelease => Sys2Proof.Machine.execBusOvRelease s
  | .probeTimeout st => Sys2Proof.Machine.execProbeTimeout st s
  | .hfiDone st q step => Sys2Proof.Machine.execHfiDone st q step s
  | .alignElapsed st => Sys2Proof.Machine.execAlignElapsed st s
  | .catchTimeout st => Sys2Proof.Machine.execCatchTimeout st s
  -- Recording
  | .frontierSearch n layer begun => Sys2Proof.Machine.execFrontierSearch n layer begun s
  | .prePass n conflict => Sys2Proof.Machine.execPrePass n conflict s
  | .runStart n => Sys2Proof.Machine.execRunStart n s
  | .wobblePeriod n err freq => Sys2Proof.Machine.execWobblePeriod n err freq s
  | .wclkLocked n => Sys2Proof.Machine.execWclkLocked n s
  | .recordingResume n => Sys2Proof.Machine.execRecordingResume n s
  | .blockRecorded n => Sys2Proof.Machine.execBlockRecorded n s
  | .runEnd n => Sys2Proof.Machine.execRunEnd n s
  | .verifyPass n => Sys2Proof.Machine.execVerifyPass n s
  -- Calibration
  | .powerCalibration n layer run => Sys2Proof.Machine.execPowerCalibration n layer run s
  | .calibrateAdcTrim h trims => Sys2Proof.Machine.execCalibrateAdcTrim h trims s
  | .calibrateEspresso h runs => Sys2Proof.Machine.execCalibrateEspresso h runs s
  | .calibratePower h runs => Sys2Proof.Machine.execCalibratePower h runs s
  | .calibrateFull h runs => Sys2Proof.Machine.execCalibrateFull h runs s
  | .espressoAuto n run => Sys2Proof.Machine.execEspressoAuto n run s
  -- Loading and unloading
  | .load h copy runs => Sys2Proof.Machine.execLoad h copy runs s
  | .lLoad h copy runs => Sys2Proof.Machine.execLLoad h copy runs s
  | .infoZoneSearchTimeout st side => Sys2Proof.Machine.execInfoZoneSearchTimeout st side s
  | .unload h => Sys2Proof.Machine.execUnload h s
  | .lUnload h => Sys2Proof.Machine.execLUnload h s
  -- On-chip memory
  | .scrubVisit bank upset => Sys2Proof.Machine.execScrubVisit bank upset s
  | .scrubLapSlow => Sys2Proof.Machine.execScrubLapSlow s
  | .memCntClr => Sys2Proof.Machine.execMemCntClr s
  | .memInjectArm value => Sys2Proof.Machine.execMemInjectArm value s
  -- The tree: ports, frames, commands and data
  | .portTrainingStart q => Sys2Proof.Machine.execPortTrainingStart q s
  | .portUp q gen width partner4080 level clash => Sys2Proof.Machine.execPortUp q gen width partner4080 level clash s
  | .linkFrame q ev => Sys2Proof.Machine.execLinkFrame q ev s
  | .linkReplayTimeout q => Sys2Proof.Machine.execLinkReplayTimeout q s
  | .portDown q => Sys2Proof.Machine.execPortDown q s
  | .heartbeatLoss q => Sys2Proof.Machine.execHeartbeatLoss q s
  | .orphanTimeout => Sys2Proof.Machine.execOrphanTimeout s
  | .cmdPacket => Sys2Proof.Machine.execCmdPacket s
  | .xferRdyPacket => Sys2Proof.Machine.execXferRdyPacket s
  | .dataPacket => Sys2Proof.Machine.execDataPacket s
  | .rspPacket => Sys2Proof.Machine.execRspPacket s
  | .evtPacket => Sys2Proof.Machine.execEvtPacket s
  | .timeExchange q => Sys2Proof.Machine.execTimeExchange q s
  | .timePacket => Sys2Proof.Machine.execTimePacket s
  | .mblCtLocked => Sys2Proof.Machine.execMblCtLocked s
  | .enumeration port n => Sys2Proof.Machine.execEnumeration port n s
  | .enumAssign => Sys2Proof.Machine.execEnumAssign s
  | .enumReport => Sys2Proof.Machine.execEnumReport s
  | .heartbeatSend => Sys2Proof.Machine.execHeartbeatSend s
  | .heartbeat => Sys2Proof.Machine.execHeartbeat s
  | .discard => Sys2Proof.Machine.execDiscard s
  | .grantHold => Sys2Proof.Machine.execGrantHold s
  | .grantHoldTimer tag => Sys2Proof.Machine.execGrantHoldTimer tag s
  | .xferWindowExpiry tag => Sys2Proof.Machine.execXferWindowExpiry tag s
  | .ctLoad value => Sys2Proof.Machine.execCtLoad value s
  | .portRetrain q => Sys2Proof.Machine.execPortRetrain q s
  | .fenceClr q => Sys2Proof.Machine.execFenceClr q s
  -- Processors and stations
  | .stationReset st => Sys2Proof.Machine.execStationReset st s
  | .resetDone st => Sys2Proof.Machine.execResetDone st s
  -- Slots
  | .slotInsertion k => Sys2Proof.Machine.execSlotInsertion k s
  | .slotRemoval k => Sys2Proof.Machine.execSlotRemoval k s
  | .slotButton k => Sys2Proof.Machine.execSlotButton k s
  | .slotPowerFault k => Sys2Proof.Machine.execSlotPowerFault k s
  | .slotBlinkExpiry k => Sys2Proof.Machine.execSlotBlinkExpiry k s
  | .slotSettled k => Sys2Proof.Machine.execSlotSettled k s
  | .slotBringupDone k => Sys2Proof.Machine.execSlotBringupDone k s
  | .slotBringupTimeout k => Sys2Proof.Machine.execSlotBringupTimeout k s
  | .slotDrainDone k => Sys2Proof.Machine.execSlotDrainDone k s
  | .slotDrainTimeout k => Sys2Proof.Machine.execSlotDrainTimeout k s
  | .pwrReqSet k => Sys2Proof.Machine.execPwrReqSet k s
  | .pwrReqClear k => Sys2Proof.Machine.execPwrReqClear k s
  | .slotAbortReq k => Sys2Proof.Machine.execSlotAbortReq k s
  | .slotFaultClear k => Sys2Proof.Machine.execSlotFaultClear k s
  -- Power, reset and boot
  | .powerOn => Sys2Proof.Machine.execPowerOn s
  | .brownOut rail => Sys2Proof.Machine.execBrownOut rail s
  | .crystalLoss => Sys2Proof.Machine.execCrystalLoss s
  | .pciePerstAssert => Sys2Proof.Machine.execPciePerstAssert s
  | .thermalTrip tj => Sys2Proof.Machine.execThermalTrip tj s
  | .thermalWarn tj => Sys2Proof.Machine.execThermalWarn tj s
  | .resetRelease => Sys2Proof.Machine.execResetRelease s
  | .paceWindowEnd measured => Sys2Proof.Machine.execPaceWindowEnd measured s
  | .paceLow => Sys2Proof.Machine.execPaceLow s
  | .boostEnd => Sys2Proof.Machine.execBoostEnd s
  | .pmbusTransactionDone code ok data => Sys2Proof.Machine.execPmbusTransactionDone code ok data s
  | .pmbusAlert status => Sys2Proof.Machine.execPmbusAlert status s
  | .readVoutPoll code => Sys2Proof.Machine.execReadVoutPoll code s
  | .ageRecord v => Sys2Proof.Machine.execAgeRecord v s
  -- Firmware update
  | .fwVerify slot => Sys2Proof.Machine.execFwVerify slot s
  | .fwVerifyDone => Sys2Proof.Machine.execFwVerifyDone s
  | .fwBootSlotWrite slot => Sys2Proof.Machine.execFwBootSlotWrite slot s
  | .fwActivateRolling h => Sys2Proof.Machine.execFwActivateRolling h s
  | .fwRoll classes => Sys2Proof.Machine.execFwRoll classes s
  | .fwCancel => Sys2Proof.Machine.execFwCancel s
  | .fwActivateSummit h => Sys2Proof.Machine.execFwActivateSummit h s
  | .fwSummitCancel h => Sys2Proof.Machine.execFwSummitCancel h s
  | .summitSet => Sys2Proof.Machine.execSummitSet s
  | .summitDrainStart => Sys2Proof.Machine.execSummitDrainStart s
  | .summit => Sys2Proof.Machine.execSummit s
  | .processorReady p => Sys2Proof.Machine.execProcessorReady p s
  | .activationTimeout p => Sys2Proof.Machine.execActivationTimeout p s
  | .processorFault p watchdog => Sys2Proof.Machine.execProcessorFault p watchdog s
  -- Operations across the tree
  | .barrier => Sys2Proof.Machine.execBarrier s
  | .barrierAck => Sys2Proof.Machine.execBarrierAck s
  | .snapshot h => Sys2Proof.Machine.execSnapshot h s
  | .snapArm => Sys2Proof.Machine.execSnapArm s
  | .snapshotLatch => Sys2Proof.Machine.execSnapshotLatch s
  | .treeResetStation target => Sys2Proof.Machine.execTreeResetStation target s
  | .treeResetDevice target last => Sys2Proof.Machine.execTreeResetDevice target last s
  | .resetPacket => Sys2Proof.Machine.execResetPacket s
  | .treeResetAck => Sys2Proof.Machine.execTreeResetAck s
  -- Records and logs
  | .identifyController h => Sys2Proof.Machine.execIdentifyController h s
  | .identifyStation h => Sys2Proof.Machine.execIdentifyStation h s
  | .getLog h => Sys2Proof.Machine.execGetLog h s
  -- Register access
  | .registerRead who off len id => Sys2Proof.Machine.execRegisterRead who off len id s
  | .registerWrite who off shape values => Sys2Proof.Machine.execRegisterWrite who off shape values s
  | .remoteRead => Sys2Proof.Machine.execRemoteRead s
  | .remoteWrite => Sys2Proof.Machine.execRemoteWrite s
  | .regRead => Sys2Proof.Machine.execRegRead s
  | .regWrite => Sys2Proof.Machine.execRegWrite s
  | .regData => Sys2Proof.Machine.execRegData s
  | .remoteAccessTimeout => Sys2Proof.Machine.execRemoteAccessTimeout s

end Sys2Proof.Machine
end

