-- ==== Sys2Proof/WellFormed.lean ====
section
/-!
DEFINITION. Which commands can be sent: bounds on operands that their types leave open. A command that is not well formed names no event of
the hardware; the meanings are total all the same.
-/
namespace Sys2Proof

/-- A TLP tag has ten bits (R412, R424). -/
def tagOk (tag : Nat) : Bool := decide (tag < 1024)

/-- A sequence number of the Mbalar link has twelve bits (R436). -/
def seqOk (seq : Nat) : Bool := decide (seq < 4096)

/-- An access lies within BAR0 and within one TLP of at most 4,096 bytes (R413, R555). -/
def spanOk (limit off len : Nat) : Bool := decide (0 < len) && decide (len ≤ 4096) && decide (off + len ≤ limit)

/-- A command is well formed. -/
def Instr.wf : Instr → Bool
  | .completionTlp _ tag _ data => tagOk tag && decide (data.length ≤ 4096)
  | .cplTimeout _ tag => tagOk tag
  | .tagQuarantineEnd _ tag => tagOk tag
  | .peerRead _ offset len => spanOk 0x1000000 offset len
  | .bar2Write _ offset => decide (offset < 0x1000000)
  | .registerRead _ off len _ => spanOk 0x100000 off.toNat len
  | .registerWrite _ off shape values =>
    spanOk 0x100000 off.toNat shape.bytes && decide (values.length = (shape.bytes + 3) / 4) &&
      (shape.aligned == decide (off.toNat % 4 = 0))
  | .linkFrame _ (.frame seq _) => seqOk seq
  | .linkFrame _ (.ack seq) => seqOk seq
  | .linkFrame _ (.nak seq) => seqOk seq
  | .portUp _ gen width _ _ _ => (gen == 1 || gen == 2) && decide (0 < width)
  | .jtagStateChange _ record => decide (record.length = 64)
  | .sampleInstant inputs => decide (inputs.length = 16) && inputs.all (fun x => decide (x.length = 10))
  | .frameImageDone _ _ rows => decide (rows.length ≤ 4)
  | _ => true

end Sys2Proof
end

