-- ==== Sys2Proof/Safety.lean ====
section
/-!
DEFINITION. What is safe: what no command may do to the machine, and what holds of it between any two steps.
-/
namespace Sys2Proof.Machine

/-- What every command keeps: its queue, the role of the controller, what it has sent, the order of its free values, and the canonical form
of the register file. -/
structure Keeps (s t : State) : Prop where
  pending : t.pending = s.pending
  root : t.root = s.root
  sent : s.sent <+: t.sent
  free : s.free ≤ t.free
  regs : Table.rising s.regs = true → Table.rising t.regs = true

/-- What every command but a full device reset keeps besides: Chain Time never moves backwards (R447). -/
structure Steady (s t : State) : Prop extends Keeps s t where
  ct : s.ct ≤ t.ct

/-- The answer of a meaning is a next state, and a steady one. -/
def SteadyRes (s : State) (r : Res) : Prop := ∃ t, r = .next t ∧ Steady s t

/-- The answer of a meaning is a next state that keeps what every command keeps. -/
def KeepsRes (s : State) (r : Res) : Prop := ∃ t, r = .next t ∧ Keeps s t

/-- The state that an operation gives, where it gives one, is steady. -/
def SteadyOpt (s : State) : Option State → Prop
  | some t => Steady s t
  | none => True

/-- A command is carried out, and something holds of the state after it. -/
def Answers (c : Instr) (s : State) (P : State → Prop) : Prop := ∃ t, exec c s = .next t ∧ P t

/-- Every register field but some reads as it did. -/
def SameFields (but : List Fld) (s t : State) : Prop := ∀ g : Fld, (∀ f ∈ but, g.key ≠ f.key) → t.fld g = s.fld g

/-- What a full device reset leaves: every register field but CAUSE and IN_RANGE at its reset value, the boot flash and both copies of the
boot-control block as they were, the reset held for its cause, and nothing else. -/
structure FullyReset (cause : Nat) (s t : State) : Prop where
  why : t.fld F.SYS_RESET_STATUS_CAUSE = cause
  fields : ∀ g : Fld, g.key ≠ F.SYS_RESET_STATUS_CAUSE.key → g.key ≠ F.SYS_RAIL_STATUS_IN_RANGE.key → t.fld g = g.reset
  rest : ({ t with regs := [] } : State) =
    { root := s.root, free := s.free, sent := s.sent, pending := s.pending,
      fw := { flash := s.fw.flash, bootA := s.fw.bootA, bootB := s.fw.bootB, resetHeld := s.fw.resetHeld ++ [cause] } }

/-- The commands that reset the whole device (R520). -/
def resetsAll : Instr → Bool
  | .powerOn | .brownOut _ | .crystalLoss | .pciePerstAssert | .thermalTrip _ | .resetPacket => true
  | _ => false

/-- What holds between any two steps: the register file lists its fields in rising order, each once, and every command that waits is well
formed. -/
structure State.Inv (s : State) : Prop where
  regs : Table.rising s.regs = true
  queue : ∀ c ∈ s.pending, c.wf = true

/-- The parts of the machine: the register groups by the prefix of their names, then the components of the state besides the registers. -/
inductive Part where
  | fnRegs | linkRegs | hifRegs | winRegs | evtRegs | ringRegs | memRegs | cchRegs | cipRegs | srvRegs | spnRegs | motRegs | rchRegs | recRegs | calRegs | mblRegs | hpcRegs | fwuRegs | sysRegs | trcRegs
  | now | free | root | ct | latch | rings | events | pcie | mem | cache | cipher | decoder | stations | recording | lanes | pickups | lps | spindles | motors | groups | timebase | fw | power | calib | mbl | sent | pending
  deriving DecidableEq, Repr

/-- The register group of a field, by its number; fields that share a place in the register file share a group. -/
def Fld.group (f : Fld) : Part :=
  let i := f.id % 1024
  if i < 4 then .fnRegs
  else if i < 7 then .linkRegs
  else if i < 25 then .hifRegs
  else if i < 31 then .winRegs
  else if i < 46 then .evtRegs
  else if i < 73 then .ringRegs
  else if i < 103 then .memRegs
  else if i < 138 then .cchRegs
  else if i < 158 then .cipRegs
  else if i < 289 then .srvRegs
  else if i < 334 then .spnRegs
  else if i < 408 then .motRegs
  else if i < 496 then .rchRegs
  else if i < 528 then .recRegs
  else if i < 549 then .calRegs
  else if i < 604 then .mblRegs
  else if i < 620 then .hpcRegs
  else if i < 648 then .fwuRegs
  else if i < 677 then .sysRegs
  else .trcRegs

/-- A part of one state is as it is in another. -/
def Part.same (s t : State) : Part → Prop
  | .now => t.now = s.now
  | .free => t.free = s.free
  | .root => t.root = s.root
  | .ct => t.ct = s.ct
  | .latch => t.latch = s.latch
  | .rings => t.rings = s.rings
  | .events => t.events = s.events
  | .pcie => t.pcie = s.pcie
  | .mem => t.mem = s.mem
  | .cache => t.cache = s.cache
  | .cipher => t.cipher = s.cipher
  | .decoder => t.decoder = s.decoder
  | .stations => t.stations = s.stations
  | .recording => t.recording = s.recording
  | .lanes => t.lanes = s.lanes
  | .pickups => t.pickups = s.pickups
  | .lps => t.lps = s.lps
  | .spindles => t.spindles = s.spindles
  | .motors => t.motors = s.motors
  | .groups => t.groups = s.groups
  | .timebase => t.timebase = s.timebase
  | .fw => t.fw = s.fw
  | .power => t.power = s.power
  | .calib => t.calib = s.calib
  | .mbl => t.mbl = s.mbl
  | .sent => t.sent = s.sent
  | .pending => t.pending = s.pending
  | g => ∀ f : Fld, f.group = g → t.fld f = s.fld f

/-- All parts but some are as they were. -/
def Leaves (but : List Part) (s t : State) : Prop := ∀ p : Part, p ∉ but → Part.same s t p

/-! What commands of several families touch together. -/
namespace Part
/-- The spindles, the groups and the calibration. -/
def spinWork : List Part := [.spnRegs, .calRegs, .spindles, .groups, .calib]
/-- The pickups and their sleds. -/
def servoWork : List Part := [.srvRegs, .motRegs, .recRegs, .pickups, .motors]
/-- Commands that end, entries, key slots, sectors and recorded blocks. -/
def cacheWork : List Part := [.memRegs, .cchRegs, .rchRegs, .free, .rings, .events, .mem, .cache, .cipher, .decoder, .recording]
/-- The stations and read lanes. -/
def readWork : List Part := [.stations, .lanes]
/-- What crosses the PCI Express link. -/
def link : List Part := [.linkRegs, .pcie, .sent]
/-- The ports and packets of the tree. -/
def tree : List Part := [.mblRegs, .mbl]
/-- The end of a command. -/
def cmdEnd : List Part := [.rings, .cipher]
/-- Everything but the role of the controller and its queue. -/
def whole : List Part :=
  [.fnRegs, .linkRegs, .hifRegs, .winRegs, .evtRegs, .ringRegs, .memRegs, .cchRegs, .cipRegs, .srvRegs, .spnRegs, .motRegs, .rchRegs, .recRegs, .calRegs, .mblRegs, .hpcRegs, .fwuRegs, .sysRegs, .trcRegs, .now, .free, .ct, .latch, .rings, .events, .pcie, .mem, .cache, .cipher, .decoder, .stations, .recording, .lanes, .pickups, .lps, .spindles, .motors, .groups, .timebase, .fw, .power, .calib, .mbl, .sent]
end Part

/-- The parts of the machine that a command may change, whatever its operands and the state. -/
def touches : Instr → List Part
  | .initiateFlr .. | .hotReset | .dlDown | .functionWedged .. =>
    Part.cacheWork ++ Part.link ++ Part.tree ++ [.fnRegs, .winRegs, .fw]
  | .flrDone .. =>
    [.fnRegs, .hifRegs, .winRegs, .evtRegs, .ringRegs, .rings, .events, .pcie]
  | .pcieLinkChange .. =>
    [.linkRegs, .events, .pcie]
  | .pmD3hotEntry .. =>
    [.fnRegs, .linkRegs]
  | .pmD0Return .. =>
    Part.link ++ Part.tree ++ [.fnRegs, .evtRegs, .memRegs, .free, .rings, .events, .mem]
  | .aspmL0sEntry | .l1PmSubstateEntry .. =>
    [.linkRegs]
  | .aspmL1Entry =>
    Part.link
  | .completionTlp .. =>
    Part.cacheWork ++ Part.link ++ Part.tree ++ [.hifRegs, .evtRegs, .ringRegs, .fw]
  | .cplTimeout .. =>
    Part.cacheWork ++ Part.link ++ [.hifRegs, .ringRegs, .mbl]
  | .tagQuarantineEnd .. =>
    Part.link ++ Part.tree ++ [.evtRegs, .memRegs, .free, .rings, .events, .mem]
  | .msixUnmask .. | .vectorModTimeout .. | .configurationRequest .. =>
    Part.link ++ [.events]
  | .peerRead .. =>
    Part.link ++ [.hifRegs, .memRegs, .cchRegs, .free, .events, .mem, .cache]
  | .bar2Write .. =>
    Part.link ++ [.hifRegs, .events]
  | .peerReadResume .. =>
    Part.link ++ [.memRegs, .cchRegs, .free, .events, .mem, .cache]
  | .peerReadTimeout .. =>
    Part.link ++ [.cchRegs, .free, .events]
  | .windowCommit .. | .windowCommitApply .. =>
    [.winRegs, .pcie]
  | .badTlpReceived .. =>
    [.pcie]
  | .pcieLinkUp .. =>
    [.linkRegs, .pcie]
  | .sqTailDoorbell .. | .cqHeadDoorbell .. =>
    Part.link ++ [.hifRegs, .ringRegs, .rings, .events]
  | .evtQHeadDoorbell .. =>
    Part.link ++ [.hifRegs, .evtRegs, .ringRegs, .events]
  | .sqCfgWrite .. =>
    [.ringRegs, .rings]
  | .cqCfgWrite .. =>
    [.ringRegs, .rings, .events]
  | .evtQCfgWrite .. | .eventsLost =>
    Part.link ++ [.evtRegs, .events]
  | .descriptorFetch .. =>
    Part.link ++ [.ringRegs, .memRegs, .free, .rings, .events, .mem]
  | .acceptance .. | .listReadDone .. | .addressDecoded .. | .focusedTimeout .. | .pullinTimeout .. | .alignAddressTimeout ..
    | .trackJumpTimeout .. | .focusLost .. | .trackLost .. | .laserOverpower .. | .spindleRunSet .. | .spindleRunClear ..
    | .spindleZeroCrossing .. | .spindleCommutation .. | .zeroCrossingMissed .. | .speedLoopInstant .. | .busConversion ..
    | .chopperNoCurrent .. | .hfiDone .. | .catchTimeout .. | .calibrateAdcTrim .. | .calibrateEspresso .. | .calibratePower ..
    | .calibrateFull .. | .load .. | .lLoad .. | .infoZoneSearchTimeout .. | .unload .. | .lUnload .. =>
    Part.spinWork ++ Part.servoWork ++ Part.cacheWork ++ Part.readWork ++ Part.link
  | .dispatch .. | .abort .. =>
    Part.spinWork ++ Part.servoWork ++ Part.cacheWork ++ Part.readWork ++ Part.link ++ Part.tree
  | .admission .. =>
    Part.cmdEnd ++ [.recording]
  | .completionRecord .. =>
    Part.link ++ Part.tree ++ Part.cmdEnd ++ [.ringRegs, .cchRegs, .cipRegs, .events]
  | .eventRecord =>
    Part.link ++ Part.tree ++ [.evtRegs, .events]
  | .clearAll =>
    [.hifRegs, .cchRegs, .cipRegs, .srvRegs, .rchRegs, .recRegs, .calRegs, .mblRegs, .events]
  | .read .. | .verify .. | .preload .. | .lRead .. | .blockRecorded .. =>
    Part.cacheWork ++ Part.readWork ++ Part.link
  | .write .. | .entryAllocate .. | .lWrite .. =>
    Part.cacheWork ++ Part.readWork ++ Part.link ++ Part.tree
  | .flush .. | .lFlush .. =>
    Part.cacheWork
  | .cipherJob .. =>
    Part.link ++ [.memRegs, .free, .rings, .events, .mem]
  | .readAhead .. =>
    [.cchRegs, .rchRegs, .events, .cache, .decoder]
  | .cacheDisable =>
    [.memRegs, .cchRegs, .rchRegs, .free, .events, .mem, .cache, .cipher, .decoder, .recording]
  | .cacheEnable | .cacheDrainDone =>
    [.cchRegs, .events]
  | .dmaWriteIssued .. =>
    Part.cacheWork ++ Part.link ++ Part.tree ++ [.stations]
  | .keyLoad .. | .keyErase .. =>
    [.cipRegs, .cipher]
  | .keyLoadDone =>
    Part.cacheWork ++ Part.link ++ [.cipRegs]
  | .keyZeroizeDone .. =>
    [.events, .cipher]
  | .engineBlockDone .. =>
    Part.cacheWork ++ Part.link
  | .jtagStateChange .. =>
    [.cipher]
  | .attest .. | .identifyController .. | .identifyStation .. =>
    Part.link ++ Part.cmdEnd
  | .fwDownload .. | .xferRdyPacket =>
    Part.link ++ Part.tree ++ Part.cmdEnd ++ [.memRegs, .free, .events, .mem]
  | .flashProgramDone .. =>
    Part.cmdEnd ++ [.fwuRegs, .free, .events, .fw]
  | .rchStagedWrite .. | .timingLost .. | .defectActive .. =>
    [.rchRegs, .lanes]
  | .frameStart .. | .syncSearch .. | .decodeConverged .. | .decodeMaxIter .. | .reequalizerPassDone .. | .outerDecodeDone ..
    | .blockBlank .. =>
    Part.cacheWork ++ Part.link ++ [.lanes]
  | .frameEnd .. =>
    [.memRegs, .rchRegs, .free, .events, .mem, .cache, .decoder, .lanes]
  | .defectInactive .. =>
    [.rchRegs]
  | .captureAgeTrigger .. | .outerDecode .. =>
    [.rchRegs, .decoder]
  | .frameImageDone .. | .redecodeRoundStart | .reread .. =>
    [.decoder]
  | .laneQualityLow .. =>
    [.rchRegs, .events]
  | .srvPeriodWrite .. | .traceDone .. =>
    [.srvRegs, .events]
  | .sectEnWrite .. =>
    [.srvRegs, .events, .lps]
  | .injEnable .. | .holdExtendEnd .. | .traceArm .. | .trcArm .. =>
    [.srvRegs, .lps]
  | .profileTick =>
    Part.cmdEnd ++ [.spnRegs, .motRegs, .events, .spindles, .motors, .groups]
  | .motorStart .. | .motorHome .. | .homeQualified .. | .moveAxis .. | .moveHoming .. =>
    Part.cmdEnd ++ [.motRegs, .motors]
  | .motorRappel .. | .motorEmergency .. | .groupStart .. | .moveGroup .. | .moveRappel .. =>
    Part.cmdEnd ++ [.motRegs, .motors, .groups]
  | .motorTargetWrite .. | .motorSpeedWrite .. | .motorPosSet .. | .gearEngage .. =>
    [.motRegs, .motors]
  | .motorDecWrite .. | .gearArm .. | .gearChange .. =>
    [.motRegs, .events, .motors]
  | .groupMembersWrite .. | .estopClear | .homeFaultClear .. =>
    [.motRegs]
  | .groupRappel .. =>
    [.motRegs, .groups]
  | .estopAll | .limitQualified .. =>
    Part.cmdEnd ++ [.motRegs, .events, .motors, .groups]
  | .encoderEdge .. =>
    [.motRegs, .events]
  | .sledStandstill .. | .axisHoldReduce .. =>
    [.motors]
  | .lSegment .. =>
    Part.cmdEnd ++ [.motRegs, .groups]
  | .focusSweepEnd .. | .focusLock .. | .trackLock .. | .trackJumpDone .. | .layerJumpTimeout .. | .coarseSettleEnd ..
    | .parkRampEnd .. =>
    [.srvRegs, .motRegs, .rchRegs, .events, .decoder, .lanes, .pickups, .motors]
  | .recoverCountClear .. | .traceStop .. =>
    [.srvRegs]
  | .defectLong .. =>
    [.srvRegs, .events, .pickups]
  | .defectTriggersRestore .. =>
    [.srvRegs, .pickups]
  | .revolutionReference .. | .belayReqSet .. | .belayReqClear .. | .loopBelayLate .. | .loopOnTime .. =>
    Part.servoWork ++ Part.cacheWork ++ Part.readWork ++ Part.link
  | .baeGatesReopen .. =>
    [.pickups]
  | .sampleInstant .. =>
    Part.servoWork ++ Part.cacheWork ++ Part.readWork ++ Part.link ++ [.sysRegs, .lps, .timebase]
  | .outputInstant .. =>
    [.srvRegs, .sysRegs, .events, .lps]
  | .loopComputationEnd .. =>
    Part.servoWork ++ Part.cacheWork ++ Part.readWork ++ Part.link ++ [.lps]
  | .traceFire .. | .trcFire .. =>
    [.lps]
  | .lddLinkEnable .. | .lddLinkUp .. =>
    Part.link ++ [.srvRegs, .pickups]
  | .lddStatusFrame .. | .lddBadFrames .. | .lddStatusTimeout .. | .wobblePeriod .. =>
    Part.cacheWork ++ Part.readWork ++ Part.link ++ [.srvRegs, .recRegs, .pickups]
  | .lddTableLoad .. =>
    Part.link ++ [.srvRegs, .recRegs, .events, .recording]
  | .spindleTargetWrite .. | .chopFaultClear .. | .probeTimeout .. | .alignElapsed .. =>
    [.spnRegs, .spindles]
  | .atSpeed .. =>
    Part.servoWork ++ Part.cacheWork ++ Part.readWork ++ Part.link ++ [.spnRegs]
  | .busOvRelease =>
    [.spnRegs]
  | .frontierSearch .. =>
    [.recRegs, .recording, .pickups]
  | .prePass .. =>
    Part.cacheWork ++ Part.readWork ++ Part.link ++ [.recRegs]
  | .runStart .. =>
    Part.link ++ [.recRegs, .free, .cache, .recording, .pickups]
  | .wclkLocked .. =>
    [.recRegs]
  | .recordingResume .. =>
    Part.link ++ [.recRegs, .free, .recording, .pickups]
  | .runEnd .. =>
    Part.link ++ [.recRegs, .recording, .pickups]
  | .verifyPass .. =>
    Part.cacheWork ++ Part.link ++ [.recRegs]
  | .powerCalibration .. | .espressoAuto .. =>
    Part.servoWork ++ Part.cacheWork ++ Part.readWork ++ Part.link ++ [.calRegs, .calib]
  | .scrubVisit .. =>
    [.memRegs, .free, .events, .mem]
  | .scrubLapSlow =>
    [.memRegs, .events]
  | .memCntClr =>
    [.memRegs]
  | .memInjectArm .. =>
    [.memRegs, .mem]
  | .portTrainingStart .. | .grantHold | .portRetrain .. =>
    [.mbl]
  | .portUp .. | .snapshot .. | .treeResetDevice .. =>
    Part.link ++ Part.tree ++ Part.cmdEnd ++ [.events]
  | .linkFrame .. | .linkReplayTimeout .. | .timeExchange .. | .heartbeatSend | .grantHoldTimer .. | .remoteRead | .remoteWrite =>
    Part.link ++ Part.tree ++ [.events]
  | .portDown .. | .heartbeatLoss .. | .heartbeat =>
    Part.tree ++ Part.cmdEnd ++ [.events]
  | .orphanTimeout | .discard =>
    Part.cacheWork ++ [.fw, .mbl]
  | .cmdPacket | .rspPacket =>
    Part.spinWork ++ Part.servoWork ++ Part.cacheWork ++ Part.readWork ++ Part.link ++ [.mbl]
  | .dataPacket =>
    Part.cacheWork ++ Part.link ++ Part.tree ++ [.fw]
  | .evtPacket =>
    Part.link ++ [.evtRegs, .events, .fw, .mbl]
  | .timePacket =>
    Part.link ++ Part.tree ++ [.free, .ct, .events]
  | .mblCtLocked =>
    [.mblRegs, .events]
  | .enumeration .. | .enumAssign | .enumReport | .fenceClr .. =>
    Part.link ++ Part.tree ++ [.events, .recording]
  | .xferWindowExpiry .. =>
    Part.cacheWork ++ Part.link ++ Part.tree
  | .ctLoad .. =>
    Part.tree ++ [.ct]
  | .stationReset .. | .resetDone .. =>
    Part.spinWork ++ Part.servoWork ++ Part.cacheWork ++ Part.readWork ++ Part.link ++ [.sysRegs, .fw]
  | .slotInsertion .. =>
    [.hpcRegs, .events]
  | .slotRemoval .. | .slotPowerFault .. | .slotBlinkExpiry .. | .slotBringupTimeout .. | .slotDrainDone .. | .slotDrainTimeout ..
    | .pwrReqClear .. =>
    Part.spinWork ++ Part.servoWork ++ Part.cacheWork ++ Part.readWork ++ Part.link ++ Part.tree ++ [.hpcRegs, .sysRegs, .lps, .fw]
  | .slotButton .. | .slotAbortReq .. =>
    [.hpcRegs, .events, .cache]
  | .slotSettled .. =>
    Part.link ++ [.srvRegs, .fwuRegs, .events, .pickups, .lps, .mbl]
  | .slotBringupDone .. =>
    [.hpcRegs, .fwuRegs, .events, .stations, .fw]
  | .pwrReqSet .. | .slotFaultClear .. =>
    [.hpcRegs]
  | .powerOn | .brownOut .. | .crystalLoss | .pciePerstAssert | .thermalTrip .. | .resetPacket =>
    Part.whole
  | .thermalWarn .. | .paceLow =>
    [.sysRegs, .events]
  | .resetRelease =>
    Part.link ++ [.fnRegs, .mblRegs, .fwuRegs, .sysRegs, .now, .free, .events, .mem, .cipher, .fw, .power]
  | .paceWindowEnd .. | .pmbusTransactionDone .. | .pmbusAlert .. | .readVoutPoll .. =>
    Part.link ++ [.sysRegs, .events, .power]
  | .boostEnd =>
    [.sysRegs]
  | .ageRecord .. =>
    [.sysRegs, .fw, .power]
  | .fwVerify .. | .fwBootSlotWrite .. =>
    [.fwuRegs, .fw]
  | .fwVerifyDone =>
    [.fwuRegs, .events, .fw]
  | .fwActivateRolling .. | .fwRoll .. | .fwCancel =>
    Part.servoWork ++ Part.cacheWork ++ Part.readWork ++ Part.link ++ [.fwuRegs, .fw]
  | .fwActivateSummit .. | .barrier | .barrierAck | .snapArm | .snapshotLatch =>
    Part.link ++ Part.tree ++ Part.cmdEnd ++ [.fwuRegs, .events, .fw]
  | .fwSummitCancel .. =>
    Part.link ++ Part.tree ++ Part.cmdEnd ++ [.fwuRegs, .free, .events, .fw]
  | .summitSet =>
    Part.link ++ Part.tree ++ [.fwuRegs, .events, .fw]
  | .summitDrainStart =>
    [.fw]
  | .summit =>
    Part.spinWork ++ Part.servoWork ++ Part.cacheWork ++ Part.readWork ++ Part.link ++ Part.tree ++ [.fwuRegs, .fw]
  | .processorReady .. | .activationTimeout .. =>
    Part.spinWork ++ Part.servoWork ++ Part.cacheWork ++ Part.readWork ++ Part.link ++ Part.tree ++ [.fwuRegs, .sysRegs, .fw]
  | .processorFault .. =>
    Part.spinWork ++ Part.servoWork ++ Part.cacheWork ++ Part.readWork ++ Part.link ++ Part.tree ++ [.fnRegs, .winRegs, .sysRegs, .fw]
  | .treeResetStation .. =>
    Part.spinWork ++ Part.servoWork ++ Part.cacheWork ++ Part.readWork ++ Part.link ++ Part.tree ++ [.sysRegs, .fw]
  | .treeResetAck | .regData | .remoteAccessTimeout =>
    Part.tree
  | .getLog .. =>
    Part.link ++ Part.cmdEnd ++ [.memRegs, .free, .events, .mem]
  | .registerRead .. =>
    Part.link ++ [.latch]
  | .registerWrite .. | .regWrite =>
    Part.spinWork ++ Part.servoWork ++ Part.cacheWork ++ Part.readWork ++ Part.link ++ Part.tree ++ [.fnRegs, .hifRegs, .winRegs, .evtRegs, .ringRegs, .cipRegs, .hpcRegs, .fwuRegs, .sysRegs, .trcRegs, .ct, .lps, .fw]
  | .regRead =>
    Part.link ++ Part.tree ++ [.latch, .events]

end Sys2Proof.Machine
end

