-- ==== Sys2Proof/Certificates/Slice0/Obligations.lean ====
section
/-!
DEFINITION. The statements for the provers: the queue and the step, whole-machine rules, rules of the manual, and for every family of commands
what each does and what it leaves as it was.
-/
open Sys2Proof Sys2Proof.Machine

/-- A step takes the command at the front of the queue and is that command's meaning on the machine with the rest of the queue. -/
def Obligations.StepRunsTheFrontCommand : Prop :=
  ∀ (c : Instr) (rest : List Instr) (s : State), s.pending = c :: rest → step s = exec c { s with pending := rest }

/-- The model's choice (log entry 1): on an empty queue one step of the 100 MHz servo timebase passes, 10 ns, and Chain Time with it
(R447, R448); without a rate correction and out of a hold it gains exactly 10 ns. -/
def Obligations.EmptyQueueLetsTimePass : Prop :=
  ∀ s : State, s.pending = [] → ∃ t, step s = .next t ∧ t.now = s.now + 10 ∧ s.ct ≤ t.ct ∧ Leaves [.now, .ct, .mbl] s t ∧
    t.mbl = { s.mbl with holdCt := t.mbl.holdCt, fractions := t.mbl.fractions } ∧
    (s.mbl.holdCt = 0 → s.fld F.MBL_CT_STATUS_RATE = 0 → 0 ≤ s.mbl.fractions → s.mbl.fractions < ctUnits → t.ct = s.ct + 10)

/-- After reset every register field reads its reset value, those of the register tables among them; nothing waits, nothing has been sent,
memory lists nothing, and the eight measurement registers hold 64 zero bytes each (R359). -/
def Obligations.ResetIsAsTheTablesSay : Prop :=
  (∀ f : Fld, State.reset.fld f = f.reset) ∧
  State.reset.fld F.SRV_PERIOD_P = 250 ∧ (∀ n, State.reset.fld (F.SRV_LP_CTRL_OUT_DELAY n) = 150) ∧ (∀ n, State.reset.fld (F.SRV_TRKLP_K n) = 10) ∧
  (∀ st, State.reset.fld (F.SPN_TARGET_RPM st) = 9000 ∧ State.reset.fld (F.SPN_ACC_DEC st) = 1500 ∧
    State.reset.fld (F.SPN_CHOP_CHOP_ON st) = 300 ∧ State.reset.fld (F.SPN_CHOP_CHOP_OFF st) = 280) ∧
  (∀ bc, State.reset.fld (F.RCH_SYNC_CFG_WIN bc) = 48 ∧ State.reset.fld (F.RCH_SYNC_CFG_TOL bc) = 6) ∧
  (∀ k, State.reset.fld (F.HPC_SLOT_CFG_BLINK_S k) = 5 ∧ State.reset.fld (F.HPC_SLOT_CFG_DRAIN_S k) = 30) ∧
  State.reset.fld F.MBL_CFG_WINDOW_US = 50 ∧ State.reset.fld F.SYS_PACE_CFG_TARGET = 800 ∧ State.reset.fld F.SYS_THERM_WARN = 130 ∧
  State.reset.fld F.MEM_SCRUB_CFG_GAP = 300 ∧
  State.reset.pending = [] ∧ State.reset.sent = [] ∧ State.reset.mem = {} ∧ State.reset.cache = {} ∧ State.reset.rings = {} ∧
  (∀ m : Fin 8, Table.at (List.replicate 64 0) State.reset.cipher.m m = List.replicate 64 0)

/-- The command table gives no row any bits, so no word spells a command. -/
def Obligations.NoWordSpellsACommand : Prop :=
  ∀ (nbits w : Nat) (s : State), decodeTableWord nbits w = none ∧ s.withFetchWord nbits w = s

/-- The invariant holds after reset. -/
def Obligations.InvariantHoldsAtReset : Prop := State.Inv State.reset

/-- Every step keeps the invariant: the register file stays in its one canonical order, and only well-formed commands wait. -/
def Obligations.EveryStepKeepsTheInvariant : Prop :=
  ∀ s t : State, State.Inv s → step s = .next t → State.Inv t

/-- No command ends a run: every one is answered with a next state, and that state keeps the queue, the controller's role, all that has been
sent before and the order of the free values. -/
def Obligations.EveryCommandIsAnswered : Prop :=
  ∀ (c : Instr) (s : State), ∃ t, exec c s = .next t ∧ Keeps s t

/-- The frame of every command: whatever its operands and the state, it changes no part of the machine but those that `touches` names for
it. -/
def Obligations.EveryCommandTouchesOnlyItsParts : Prop :=
  ∀ (c : Instr) (s : State), ∃ t, exec c s = .next t ∧ Leaves (touches c) s t

/-- R447: Chain Time never moves backwards in a step, unless the step takes a command that resets the whole device. -/
def Obligations.ChainTimeNeverGoesBack : Prop :=
  ∀ s t : State, (∀ c ∈ s.pending.head?, resetsAll c = false) → step s = .next t → s.ct ≤ t.ct

/-- As many steps as commands wait run them all, first in, first out, whatever they are, and leave the queue empty. -/
def Obligations.EveryQueueIsRunToItsEnd : Prop :=
  ∀ s : State, ∃ t : State, Host.Core.run core s.pending.length s = .next t ∧ t.pending = [] ∧ t.root = s.root ∧ s.sent <+: t.sent

/-- R422: a function that is WEDGED stays so through every command but those that reset the whole device. -/
def Obligations.WedgedIsClearedOnlyByAFullReset : Prop :=
  ∀ (c : Instr) (s : State) (f : Fin 4), resetsAll c = false → s.flag (F.HIF_FUNC_STATUS_WEDGED f) = true →
    ∃ t, exec c s = .next t ∧ t.flag (F.HIF_FUNC_STATUS_WEDGED f) = true

/-- R99: SRV_PERIOD.P takes only seven values, at 100 MHz / P; a write of any other, or of any while a loop of any loop processor is in CLOSED
or HOLD, keeps it and sets REJECTED. Between sample instants P steps of 10 ns pass. -/
def Obligations.LoopPeriodTakesSevenValues : Prop :=
  let periods := [125, 200, 250, 400, 500, 625, 1000]
  let engaged (s : State) : Prop := ∃ n : Fin 16, ∃ l : Fin 4, 2 ≤ s.fld (loopModeFld n l)
  periods.map (fun p => 100000 / p) = [800, 500, 400, 250, 200, 160, 100] ∧
  ∀ (value : Word) (s : State),
    (bitsOf value.toNat 0 10 ∈ periods → ¬ engaged s → Answers (.srvPeriodWrite value) s (fun t =>
      t.fld F.SRV_PERIOD_P = bitsOf value.toNat 0 10)) ∧
    (bitsOf value.toNat 0 10 ∉ periods ∨ engaged s → Answers (.srvPeriodWrite value) s (fun t =>
      t.fld F.SRV_PERIOD_P = s.fld F.SRV_PERIOD_P ∧ t.fld F.SRV_PERIOD_REJECTED = 1)) ∧
    (∀ (inputs : List (List (List Nat))) (k : Nat), s.fld F.SRV_PERIOD_P ∈ periods → s.timebase = k * s.fld F.SRV_PERIOD_P →
      Answers (.sampleInstant inputs) s (fun t => t.timebase = (k + 1) * s.fld F.SRV_PERIOD_P))

/-- R50: the data area of a frame is the codeword XOR the scrambler, whose register starts from the sector's address and steps as the rule
says; the preamble, the sync marks and the postamble are the same for every address and codeword. -/
def Obligations.ScramblerFollowsTheRule : Prop :=
  ∀ psa w : Nat, ∃ st : Nat → Nat,
    st 0 = (if (psa % 2 ^ 15) ^^^ 0x2A55 = 0 then 1 else (psa % 2 ^ 15) ^^^ 0x2A55) ∧
    (∀ k, st (k + 1) = (st k * 2 + b2n (xor ((st k).testBit 14) ((st k).testBit 13))) % 2 ^ 15) ∧
    (∀ k, k < 49824 → (frameBits psa w)[if k < 1024 then 240 + k else 288 + k]? =
      some (xor (w.testBit k) (xor ((st k).testBit 14) ((st k).testBit 13)))) ∧
    (frameBits psa w).length = 50176 ∧
    (∀ psa' w' i, i < 240 ∨ (1264 ≤ i ∧ i < 1312) ∨ (50112 ≤ i ∧ i < 50176) → (frameBits psa w)[i]? = (frameBits psa' w')[i]?)

/-- R79: on a Format S4 disc TE and LPE are MPP whatever K_DPP is, and BAE is zero; where ΣM is low the signals of the main spot are held
(R78). The signals are numbered as the trace numbers them: 2 MPP, 3 TE, 4 LPE, 6 BAE. -/
def Obligations.SideSpotsDoNotCountOnFormatS4 : Prop :=
  ∀ (s : State) (n : Fin 16) (means : List Nat), s.puS4 n = true →
    let x (i : Nat) : Rat := ((s.corrected n means).getD i 0 : Nat)
    let sum := x 0 + x 1 + x 2 + x 3
    let sig (c : Nat) : Int := Table.at 0 ((s.formSignals n means).lp n).sig c
    sig 6 = 0 ∧
    (16 * (s.fld (F.SRV_ERR_CFG_SUM_MIN n) : Rat) ≤ sum →
      sig 2 = toSignal (ratio ((x 0 + x 3) - (x 1 + x 2)) sum) ∧ sig 3 = sig 2 ∧ sig 4 = sig 2) ∧
    (sum < 16 * (s.fld (F.SRV_ERR_CFG_SUM_MIN n) : Rat) → ∀ c, 1 ≤ c → c ≤ 5 → sig c = Table.at 0 (s.lp n).sig c)

/-- R182: a commanded position is a number of 64 bits, 32 of them a fraction; MOT_POS shows its floor; MOT_POS_SET loads it only at rest with
no gear engaged and is rejected otherwise. -/
def Obligations.MotorPositionIsAFixedPointCount : Prop :=
  (∀ p : Int, -(2 ^ 63) ≤ wrapPos p ∧ wrapPos p < 2 ^ 63 ∧ (wrapPos p - p) % 2 ^ 64 = 0) ∧
  (∀ (s : State) (x : Fin 28), -(2 ^ 63) ≤ (s.motor x).pos → (s.motor x).pos < 2 ^ 63 →
    (s.showMotor x).sfld (F.MOT_POS_POS x) * 2 ^ 32 ≤ (s.motor x).pos ∧
    (s.motor x).pos < ((s.showMotor x).sfld (F.MOT_POS_POS x) + 1) * 2 ^ 32) ∧
  ∀ (s : State) (x : Fin 28) (value : Word),
    let rest := (s.motor x).phase = 0 ∧ (16 ≤ x.val → s.movingGroup (x.val - 16) = none)
    let geared := x.val < 16 ∧ s.flag (F.MOT_GEAR_CTRL_ENGAGE x) = true
    (rest → ¬ geared → Answers (.motorPosSet x value) s (fun t =>
      (t.motor x).pos = value.toInt * 2 ^ 32 ∧ t.sfld (F.MOT_POS_POS x) = value.toInt ∧
      SameFields [F.MOT_POS_POS x, F.MOT_STATUS_PHASE x] s t)) ∧
    (¬ rest ∨ geared → Answers (.motorPosSet x value) s (fun t =>
      t.motors = s.motors ∧ t.fld (F.MOT_STATUS_REJECTED x) = 1 ∧ SameFields [F.MOT_STATUS_REJECTED x] s t))

/-- R349: a key slot is not affected by an FLR or a station reset; a full device reset zeroizes every slot. -/
def Obligations.KeySlotsStandThroughResetsBelowFull : Prop :=
  let kept (s t : State) : Prop := t.cipher.slots = s.cipher.slots ∧ ∀ k : Fin 64,
    t.fld (F.CIP_KEYSLOT_GEN_LO_GEN k) = s.fld (F.CIP_KEYSLOT_GEN_LO_GEN k) ∧ t.fld (F.CIP_KEYSLOT_GEN_HI_GEN k) = s.fld (F.CIP_KEYSLOT_GEN_HI_GEN k) ∧
    t.fld (F.CIP_KEYSLOT_LABEL_LABEL k) = s.fld (F.CIP_KEYSLOT_LABEL_LABEL k) ∧ t.fld (F.CIP_KEYSLOT_INFO_LOADED k) = s.fld (F.CIP_KEYSLOT_INFO_LOADED k) ∧
    t.fld (F.CIP_KEYSLOT_INFO_LEN k) = s.fld (F.CIP_KEYSLOT_INFO_LEN k) ∧ t.fld (F.CIP_KEYSLOT_INFO_FN_MASK k) = s.fld (F.CIP_KEYSLOT_INFO_FN_MASK k)
  let zeroized (t : State) : Prop := t.cipher.slots = [] ∧ ∀ k : Fin 64, t.fld (F.CIP_KEYSLOT_INFO_LOADED k) = 0 ∧ t.fld (F.CIP_KEYSLOT_LABEL_LABEL k) = 0
  ∀ s : State,
    (∀ f : Fin 4, Answers (.initiateFlr f) s (kept s) ∧ Answers (.flrDone f) s (kept s)) ∧
    (∀ st : Fin 8, Answers (.stationReset st) s (kept s) ∧ Answers (.resetDone st) s (kept s)) ∧
    Answers .powerOn s zeroized ∧ (∀ rail, Answers (.brownOut rail) s zeroized) ∧ Answers .crystalLoss s zeroized ∧
    Answers .pciePerstAssert s zeroized ∧ (∀ tj : BitVec 12, 145 * 4 < tj.toInt → Answers (.thermalTrip tj) s zeroized) ∧
    (∀ (e : InPacket) (rest : List InPacket), s.root = false → s.mbl.inbox = e :: rest → e.packet.type = 8 → e.port = 0 →
      e.packet.payload.getD 0 0 = 2 → Answers .resetPacket s zeroized)

/-- R314: the arming of an injection, and the one store that it corrupts: a whole word, a merge or a write-back. The inverted bits of a stored
word are kept as a number, bit 0 its data bit 0. -/
def Obligations.AnArmedInjectionCorruptsOneStore : Prop :=
  let spent (w : Nat) (double : Bool) (t : State) : Prop :=
    Table.at 0 t.mem.flips w = (if double then 3 else 1) ∧ t.mem.inject = none ∧ t.fld F.MEM_INJECT_PENDING = 0
  (∀ (v : Word) (s : State), Answers (.memInjectArm v) s (fun t =>
    t.mem.inject = some (bitsOf v.toNat 0 22, v.toNat.testBit 25) ∧ t.fld F.MEM_INJECT_PENDING = 1)) ∧
  ∀ (s : State) (w : Nat) (double : Bool), s.mem.inject = some (w, double) →
    (∀ lo hi poisoned, lo ≤ w → w < hi → spent w double (s.storeWords lo hi poisoned)) ∧
    spent w double (s.writeBack w) ∧
    (∀ who, pageBit s.mem.valid w = false ∨ pageBit s.mem.poison w = true ∨ s.wordErrors w ≤ 1 → spent w double (s.mergeWord w who)) ∧
    (∀ lo hi poisoned, w < lo ∨ hi ≤ w → (s.storeWords lo hi poisoned).mem.inject = s.mem.inject ∧
      (s.storeWords lo hi poisoned).fld F.MEM_INJECT_PENDING = s.fld F.MEM_INJECT_PENDING)

/-- R312: a counted error is recorded at NEXT, which then advances around the 16 entries; TOTAL counts it modulo 65,536; the other entries
stay. The syndrome is a free value: the manual does not give the code. -/
def Obligations.ErrorLogIsARingOfSixteen : Prop :=
  ∀ (s : State) (w who : Nat) (bad : Bool),
    let t := s.memError w who bad
    let e := s.fld F.MEM_LOG_HEAD_NEXT
    t.fld F.MEM_LOG_HEAD_NEXT = (e + 1) % 16 ∧ t.fld F.MEM_LOG_HEAD_TOTAL = (s.fld F.MEM_LOG_HEAD_TOTAL + 1) % 65536 ∧
    t.fld (F.MEM_LOG_ADDR_ADDR e) = 16 * w % 2 ^ 26 ∧ t.fld (F.MEM_LOG_ADDR_REGION e) = regionOf (16 * w) ∧
    t.fld (F.MEM_LOG_ADDR_UNCORR e) = b2n bad ∧ t.fld (F.MEM_LOG_REQ_REQUESTER e) = who % 256 ∧
    t.fld (F.MEM_LOG_REQ_BANK e) = bankOf w % 128 ∧
    t.fld (F.MEM_LOG_TIME_LO_TIME_LO e) = s.ct % 2 ^ 32 ∧ t.fld (F.MEM_LOG_TIME_HI_TIME_HI e) = s.ct / 2 ^ 32 % 2 ^ 32 ∧
    ∀ i, i ≠ e → t.fld (F.MEM_LOG_ADDR_ADDR i) = s.fld (F.MEM_LOG_ADDR_ADDR i) ∧ t.fld (F.MEM_LOG_ADDR_REGION i) = s.fld (F.MEM_LOG_ADDR_REGION i) ∧
      t.fld (F.MEM_LOG_ADDR_UNCORR i) = s.fld (F.MEM_LOG_ADDR_UNCORR i) ∧ t.fld (F.MEM_LOG_REQ_REQUESTER i) = s.fld (F.MEM_LOG_REQ_REQUESTER i) ∧
      t.fld (F.MEM_LOG_REQ_BANK i) = s.fld (F.MEM_LOG_REQ_BANK i) ∧ t.fld (F.MEM_LOG_REQ_SYNDROME i) = s.fld (F.MEM_LOG_REQ_SYNDROME i) ∧
      t.fld (F.MEM_LOG_TIME_LO_TIME_LO i) = s.fld (F.MEM_LOG_TIME_LO_TIME_LO i) ∧ t.fld (F.MEM_LOG_TIME_HI_TIME_HI i) = s.fld (F.MEM_LOG_TIME_HI_TIME_HI i)

/-- R558: a read of LO latches HI for its requester alone, so that the read of HI gives the two halves of one moment, and no other
requester's latch moves; so for every pair of the register map, those that the rule lists among them. -/
def Obligations.EveryRequesterHasItsOwnLatch : Prop :=
  let lo (r : RegRow) : Prop := r.role = .counterLo ∨ r.role = .pairLo
  let hi (r : RegRow) : Prop := r.role = .counterHi ∨ r.role = .pairHi
  let high (off : Nat) : Prop := off < 0x800 ∨ 0xC08 < off
  (∀ (s : State) (who other : Requester) (fn fn' off off' : Nat) (r q r' q' : RegRow) (ix jx ix' jx' : Nat),
    regAt fn off = some (r, ix) → lo r → regAt fn (off + 4) = some (q, jx) → hi q → high off →
    regAt fn' off' = some (r', ix') → lo r' → regAt fn' (off' + 4) = some (q', jx') → hi q' → high off' →
    let t := (s.readWord who fn off).2
    (s.readWord who fn off).1 = s.regWord r ix ∧ (t.readWord who fn (off + 4)).1 = s.regWord q jx ∧
    (other ≠ who → (t.readWord other fn' (off' + 4)).1 = (s.readWord other fn' (off' + 4)).1) ∧
    (t.readWord other fn' (off' + 4)).2 = t) ∧
  (∀ n : Fin 16, ∃ r q, regAt 0 (0x30010 + 0x400 * n) = some (r, n.val) ∧ lo r ∧ regAt 0 (0x30014 + 0x400 * n) = some (q, n.val) ∧ hi q) ∧
  (∀ n : Fin 16, ∃ r q, regAt 0 (0x4803C + 0x80 * n) = some (r, n.val) ∧ lo r ∧ regAt 0 (0x48040 + 0x80 * n) = some (q, n.val) ∧ hi q) ∧
  (∃ r q, regAt 0 0x68410 = some (r, 0) ∧ lo r ∧ regAt 0 0x68414 = some (q, 0) ∧ hi q) ∧
  (∃ r q, regAt 0 0x78010 = some (r, 0) ∧ lo r ∧ regAt 0 0x78014 = some (q, 0) ∧ hi q) ∧
  (∀ k : Fin 64, ∃ r q, regAt 0 (0x28100 + 16 * k) = some (r, k.val) ∧ lo r ∧ regAt 0 (0x28104 + 16 * k) = some (q, k.val) ∧ hi q)

/-- R15, R556: a written word sets the RW and RWS fields of its register, each 1 clears its RW1C bit, and RO and WO fields, and every field of
every other register, stay. -/
def Obligations.AWriteFollowsTheFieldTypes : Prop :=
  ∀ (s : State) (fn off v : Nat) (r : RegRow) (ix : Nat), regAt fn off = some (r, ix) →
    let t := s.writeFields r ix v
    (∀ f ∈ r.fields, match f.kind with
      | .rw | .rws => t.fld (f.fld ix) = bitsOf v f.lo f.width
      | .rw1c => ∀ i, i < f.width →
          (t.fld (f.fld ix)).testBit i = ((s.fld (f.fld ix)).testBit i && !v.testBit (f.lo + i))
      | .ro | .wo => t.fld (f.fld ix) = s.fld (f.fld ix)) ∧
    (∀ g : Fld, (∀ f ∈ r.fields, g.key ≠ (f.fld ix).key) → t.fld g = s.fld g)

/-- R166, in µs: the on-times of a group of periods of a slow or lightly loaded spindle. A demand below SETTLE + SAMPLE is played as N periods,
the first of on-time SETTLE + SAMPLE, the remainder at the end of the last once it is at least 0.4 µs and carried on otherwise; nothing is
lost, so two consecutive groups meet the demand to within 0.4 µs / N. -/
def Obligations.PulseGroupsMeetTheDemand : Prop :=
  ∀ ton ts carry : Rat, 0 < ton → 0 ≤ carry → carry < 2 / 5 →
    let g := pulseGroup ton ts carry
    let sum (xs : List Rat) : Rat := xs.foldl (· + ·) 0
    (ts ≤ ton → g = ([ton], carry)) ∧
    (ton < ts → ∃ n : Nat, ts ≤ n * ton ∧ ((n : Rat) - 1) * ton < ts ∧ g.1.length = n ∧ g.1.head? = some ts ∧
      (2 / 5 ≤ n * ton - ts + carry → g.1.getLast? = some (n * ton - ts + carry) ∧ g.2 = 0) ∧
      (n * ton - ts + carry < 2 / 5 → g.2 = n * ton - ts + carry ∧ ∀ x ∈ g.1.tail, x = 0) ∧
      (∀ x ∈ g.1.tail.dropLast, x = 0) ∧ 0 ≤ g.2 ∧ g.2 < 2 / 5 ∧ sum g.1 + g.2 = n * ton + carry ∧
      let h := pulseGroup ton ts g.2
      ((sum g.1 + sum h.1) / (2 * n) - ton) * n ≤ 2 / 5 ∧ -(2 / 5 : Rat) ≤ ((sum g.1 + sum h.1) / (2 * n) - ton) * n)

/-- R55, R58, R60, R66: every LBA of a disc has one position, the position gives the LBA back, and the position's spiral and index give its
block and sector back, so no two LBAs share a physical sector. -/
def Obligations.LbasAndPositionsMatch : Prop :=
  ∀ (d : DiscInfo) (lba : Nat), lba < d.capacity →
    let p := d.position lba
    p.side < 2 ∧ p.layer < d.layers ∧ p.n < d.blocksPerLayer ∧ p.b < d.blocksPerLayer ∧ p.j < d.dataPerBlock ∧
    d.logicalBlock p.side p.layer p.b = d.blockOf lba ∧ d.blockOf lba * d.dataPerBlock + p.j = lba ∧
    d.blockAt (d.sectorIndex p.b p.j).1 (d.sectorIndex p.b p.j).2 = some (p.b, p.j) ∧
    ((d.sectorIndex p.b p.j).2 < 2 ^ 26 → let a := d.sectorPsa p.side p.layer p.b p.j
      psaSide a = p.side ∧ psaLayer a = p.layer ∧ psaSpiral a = (d.sectorIndex p.b p.j).1 ∧ psaIndex a = (d.sectorIndex p.b p.j).2)

/-- R351, R353: counter mode under one key undoes itself, so a sector that is sealed is unsealed by the same key, disc and address. -/
def Obligations.UnsealingUndoesSealing : Prop :=
  ∀ (key : List Nat) (discId psa : Nat) (user : List Nat), key.length = 16 ∨ key.length = 24 ∨ key.length = 32 → user.length = 4096 →
    (sealCtr key discId psa user).length = 4096 ∧ sealCtr key discId psa (sealCtr key discId psa user) = user

/-- R520, R522, R523, R538 and the choices of log entries: a full device reset. Every register field is at its reset value but CAUSE and
IN_RANGE, the boot flash and both boot-control copies stand, and nothing that waited is left. -/
def Obligations.FullResetsBringEverythingBack : Prop :=
  ∀ s : State,
    Answers .powerOn s (fun t => FullyReset 0 s t ∧ t.fld F.SYS_RAIL_STATUS_IN_RANGE = 0) ∧
    (∀ rail : Fin 8, Answers (.brownOut rail) s (fun t => FullyReset 4 s t ∧ (t.fld F.SYS_RAIL_STATUS_IN_RANGE).testBit rail = false)) ∧
    Answers .crystalLoss s (fun t => FullyReset 5 s t ∧ t.fld F.SYS_RAIL_STATUS_IN_RANGE = s.fld F.SYS_RAIL_STATUS_IN_RANGE % 256) ∧
    Answers .pciePerstAssert s (fun t => FullyReset 1 s t) ∧
    (∀ tj : BitVec 12, 145 * 4 < tj.toInt → Answers (.thermalTrip tj) s (fun t => FullyReset 3 s t)) ∧
    (∀ e : InPacket, ∀ rest : List InPacket, s.root = false → s.mbl.inbox = e :: rest → e.packet.type = 8 → e.port = 0 →
      e.packet.payload.getD 0 0 = 2 → Answers .resetPacket s (fun t => FullyReset 2 s t))

/-- R512–R518, R524, R526 and R527: the commands of the rails, the pace loop, PMBus and the boot, each with its own effect. -/
def Obligations.PowerCommandsComplete : Prop :=
  ∀ s : State,
    (s.fw.booted = false → Answers (.resetRelease) s (fun t => t.fw.booted = true ∧ t.fw.resetHeld = [] ∧ t.now = 0 ∧ t.flag
      (F.HIF_FUNC_STATUS_READY 0) = true ∧ t.fw.flash = s.fw.flash)) ∧
    (∀ (tj : BitVec 12), 4 * ((min 140 (s.fld F.SYS_THERM_WARN) : Nat) : Int) < tj.toInt → Answers (.thermalWarn tj) s (fun t => t.fld
      F.SYS_TEMP_TJ = tj.toNat ∧ t.flag F.SYS_PACE_STATUS_THERM_WARN = true ∧ SameFields [F.SYS_TEMP_TJ, F.SYS_PACE_STATUS_THERM_WARN] s
      t)) ∧
    (∀ (m : BitVec 16), s.flag F.SYS_PACE_STATUS_CLOSED = true → s.flag F.SYS_PACE_STATUS_PMB_FAULT = false → s.power.exponent.isSome =
      true → m.toNat < s.fld F.SYS_PACE_TARGET → 1 ≤ s.power.sinceUp → s.vnom ≤ s.power.volt → s.power.volt + 10 ≤ s.vmax → Answers
      (.paceWindowEnd m) s (fun t => t.fld F.SYS_PACE_MEASURED = m.toNat ∧ t.power.volt = s.power.volt + 10 ∧ t.power.sinceUp = 0)) ∧
    (s.flag F.SYS_PACE_STATUS_CLOSED = true → s.fld F.SYS_PACE_MEASURED < s.fld F.SYS_PACE_TARGET → s.vmax ≤ s.power.volt → Answers
      (.paceLow) s (fun t => t.flag F.SYS_PACE_STATUS_PACE_LOW = true ∧ SameFields [F.SYS_PACE_STATUS_PACE_LOW] s t)) ∧
    (s.flag F.SYS_PACE_STATUS_BOOST = true → Answers (.boostEnd) s (fun t => t.flag F.SYS_PACE_STATUS_BOOST = false ∧ t.fld
      F.SYS_PACE_TARGET = max 780 (min 1200 (s.fld F.SYS_PACE_CFG_TARGET)) ∧ SameFields [F.SYS_PACE_STATUS_BOOST, F.SYS_PACE_TARGET] s
      t)) ∧
    (∀ (op : PmbOp) (rest : List PmbOp) (code : Byte) (data : BitVec 16), s.power.pmb = op :: rest → op.code = code.toNat → code = 0x21#8
      → Answers (.pmbusTransactionDone code true data) s (fun t => t = { s with power := { s.power with pmb := rest } })) ∧
    (∀ (v : BitVec 16), s.flag F.SYS_PACE_STATUS_CLOSED = true → Answers (.pmbusAlert (some v)) s (fun t => t.flag
      F.SYS_PACE_STATUS_PMB_ALERT = true ∧ t.power.pmb = s.power.pmb ++ [⟨0x03, 0, 0⟩] ∧ SameFields [F.SYS_PACE_STATUS_PMB_ALERT] s t)) ∧
    (∀ (v : BitVec 16) (n : Nat), s.flag F.SYS_PACE_STATUS_CLOSED = true → s.power.exponent = some n → Answers (.readVoutPoll (some v)) s
      (fun t => t.fld F.SYS_VCORE_STATUS_READ = (v.toNat * 1000 + 2 ^ (n - 1)) / 2 ^ n % 1024 ∧ SameFields [F.SYS_VCORE_STATUS_READ] s
      t)) ∧
    (∀ (v : BitVec 10), s.flag F.SYS_PACE_STATUS_CLOSED = true → s.power.days + 1 < 30 → Answers (.ageRecord v) s (fun t => t.fld
      F.SYS_AGE_V_LAST = v.toNat ∧ t.power.days = s.power.days + 1 ∧ SameFields [F.SYS_AGE_V_LAST] s t))

/-- R408, R415, R416, R420: the link comes up, retrains, enters L0s, L1 and the L1 PM substates, and a function enters D3hot and returns to D0. -/
def Obligations.LinkCommandsComplete : Prop :=
  ∀ s : State,
    (∀ (rate : Fin 8) (width : Fin 32), s.root = true → s.pcie.linkUp = false → linkSupported rate width = true → Answers (.pcieLinkUp
      rate width) s (fun t => t.pcie.linkUp = true ∧ t.fld F.HIF_LINK_STATUS_RATE = rate ∧ t.fld F.HIF_LINK_STATUS_WIDTH = width ∧ t.fld
      F.HIF_LINK_STATUS_PM = 0 ∧ SameFields [F.HIF_LINK_STATUS_RATE, F.HIF_LINK_STATUS_WIDTH, F.HIF_LINK_STATUS_PM] s t)) ∧
    (∀ (rate : Fin 8) (width : Fin 32), s.root = true → s.pcie.linkUp = true → linkSupported rate width = true → Answers (.pcieLinkChange
      rate width) s (fun t => t.pcie.linkUp = true ∧ t.pcie.linkCause = 0 ∧ t.fld F.HIF_LINK_STATUS_RATE = rate ∧ t.fld
      F.HIF_LINK_STATUS_WIDTH = width ∧ t.fld F.HIF_LINK_STATUS_PM = 0 ∧ SameFields [F.HIF_LINK_STATUS_RATE, F.HIF_LINK_STATUS_WIDTH,
      F.HIF_LINK_STATUS_PM] s t)) ∧
    (s.fld F.HIF_LINK_STATUS_PM = 0 → s.linkIdle = true → (s.cfg 0 .aspmControl).testBit 0 = true → Answers (.aspmL0sEntry) s (fun t =>
      t.fld F.HIF_LINK_STATUS_PM = 1 ∧ SameFields [F.HIF_LINK_STATUS_PM] s t)) ∧
    (s.fld F.HIF_LINK_STATUS_PM ≤ 1 → s.linkIdle = true → (s.cfg 0 .aspmControl).testBit 1 = true → Answers (.aspmL1Entry) s (fun t =>
      t.fld F.HIF_LINK_STATUS_PM = 2 ∧ t.sent = s.sent ++ [.ltr (s.fld F.HIF_LTR_IDLE_US)] ∧ t.pcie.idleLtr = true ∧ SameFields
      [F.HIF_LINK_STATUS_PM] s t)) ∧
    (s.fld F.HIF_LINK_STATUS_PM = 2 → s.cfg 0 .l12Enable = 1 → s.pcie.idleLtr = true → s.cfg 0 .ltrThresholdUs ≤ s.fld F.HIF_LTR_IDLE_US
      → Answers (.l1PmSubstateEntry true) s (fun t => t.fld F.HIF_LINK_STATUS_PM = 4 ∧ SameFields [F.HIF_LINK_STATUS_PM] s t)) ∧
    (s.fld F.HIF_LINK_STATUS_PM = 2 → s.cfg 0 .l12Enable ≠ 1 → s.cfg 0 .l11Enable = 1 → Answers (.l1PmSubstateEntry true) s (fun t =>
      t.fld F.HIF_LINK_STATUS_PM = 3 ∧ SameFields [F.HIF_LINK_STATUS_PM] s t)) ∧
    (∀ (f : Fin 4), Answers (.pmD3hotEntry f) s (fun t => t.fld (F.HIF_FUNC_STATUS_D_STATE f) = 3 ∧ SameFields [F.HIF_FUNC_STATUS_D_STATE
      f, F.HIF_LINK_STATUS_PM] s t)) ∧
    (∀ (f : Fin 4), s.fld (F.HIF_FUNC_STATUS_D_STATE f) ≠ 0 → Answers (.pmD0Return f) s (fun t => t.fld (F.HIF_FUNC_STATUS_D_STATE f) =
      0))

/-- R418, R420, R421, R427: what a function level reset, its end, a Hot Reset, the loss of the data link and a wedged function leave. -/
def Obligations.FunctionResetCommandsComplete : Prop :=
  ∀ s : State,
    (∀ (f : Fin 4), s.flag (F.HIF_FUNC_STATUS_READY f) = true → s.flag (F.HIF_FUNC_STATUS_FLR_BUSY f) = false → Answers (.initiateFlr f)
      s (fun t => t.flag (F.HIF_FUNC_STATUS_FLR_BUSY f) = true ∧ t.flag (F.HIF_WIN_COMMIT_PENDING f) = false ∧ (∀ w : Fin 4, t.window f w
      = {}))) ∧
    (∀ (f : Fin 4), s.flag (F.HIF_FUNC_STATUS_FLR_BUSY f) = true → s.flag (F.HIF_FUNC_STATUS_WEDGED f) = false → Answers (.flrDone f) s
      (fun t => t.flag (F.HIF_FUNC_STATUS_FLR_BUSY f) = false ∧ t.fld (F.HIF_FUNC_STATUS_D_STATE f) = 0 ∧ t.cfg f .memorySpaceEnable = 0
      ∧ t.cfg f .msixEnable = 0 ∧ (∀ i : Fin 32, t.flag (F.RING_SQ_CFG_ENABLE f i) = false))) ∧
    ((∀ f : Fin 4, s.flag (F.HIF_FUNC_STATUS_READY f) = true ∧ s.flag (F.HIF_FUNC_STATUS_FLR_BUSY f) = false) → Answers (.hotReset) s
      (fun t => (∀ f : Fin 4, t.flag (F.HIF_FUNC_STATUS_FLR_BUSY f) = true) ∧ t.pcie.linkCause = 1)) ∧
    ((∀ f : Fin 4, s.flag (F.HIF_FUNC_STATUS_READY f) = true ∧ s.flag (F.HIF_FUNC_STATUS_FLR_BUSY f) = false) → Answers (.dlDown) s (fun
      t => (∀ f : Fin 4, t.flag (F.HIF_FUNC_STATUS_FLR_BUSY f) = true) ∧ t.pcie.linkUp = false ∧ t.pcie.linkCause = 2)) ∧
    (∀ (f : Fin 4), s.mcDown = false → s.flag (F.HIF_FUNC_STATUS_WEDGED f) = false → Answers (.functionWedged f) s (fun t => t.flag
      (F.HIF_FUNC_STATUS_WEDGED f) = true ∧ t.flag (F.HIF_WIN_COMMIT_PENDING f) = false ∧ (∀ w : Fin 4, t.window f w = {}) ∧
      .uncorrectable f ∈ t.sent))

/-- R335, R410–R412, R425–R428: window commits, peer reads that stall, resume and time out, writes to a window, configuration requests and bad TLPs. -/
def Obligations.PeerAndConfigurationCommandsComplete : Prop :=
  ∀ s : State,
    (∀ (f : Fin 4), f ≠ 0 → s.fnWritable f = true → s.flag (F.HIF_WIN_COMMIT_PENDING f) = false → Answers (.windowCommit f) s (fun t =>
      t.flag (F.HIF_WIN_COMMIT_PENDING f) = true ∧ t.pcie.peers = s.pcie.peers.map (fun p => if p.fn = f.val then
      { p with beforeCommit := true } else p) ∧ SameFields [F.HIF_WIN_COMMIT_PENDING f] s t)) ∧
    (∀ (f : Fin 4), s.flag (F.HIF_WIN_COMMIT_PENDING f) = true → (s.pcie.peers.any (fun p => p.fn == f.val && p.beforeCommit)) = false →
      Answers (.windowCommitApply f) s (fun t => t.flag (F.HIF_WIN_COMMIT_PENDING f) = false ∧ (∀ w : Fin 4, t.window f w = s.shadow f w)
      ∧ SameFields [F.HIF_WIN_COMMIT_PENDING f] s t)) ∧
    (∀ (f : Fin 4) (offset len slot block : Nat), s.bar2Open f = true → s.cacheEnabled = true → s.windowOf f offset len = some (slot,
      block) → (∀ e : Fin 48, (s.entry e).st = .free) → Answers (.peerRead f offset len) s (fun t => t.pcie.peers = s.pcie.peers ++
      [⟨s.pcie.nextPeer, f, offset, len, slot, block, false⟩] ∧ t.pcie.nextPeer = s.pcie.nextPeer + 1)) ∧
    (∀ (f : Fin 4) (offset len slot block e : Nat), s.bar2Open f = true → s.cacheEnabled = true → s.windowOf f offset len = some (slot,
      block) → offset % 4096 + len ≤ 4096 → s.peerEntry slot block = some e → (s.entry e).spec = false → ((s.entry e).sector (offset %
      0x40000 / 4096)).st = .confirmed → ((s.entry e).sector (offset % 0x40000 / 4096)).poison = false → s.mem.flips = [] → s.mem.poison
      = [] → Answers (.peerRead f offset len) s (fun t => .reply s.pcie.nextPeer .success (((padTo 4096 ((s.entry e).sector (offset %
      0x40000 / 4096)).user).drop (offset % 4096)).take len) ∈ t.sent ∧ t.pcie.nextPeer = s.pcie.nextPeer + 1)) ∧
    (∀ (f : Fin 4) (offset len : Nat), s.bar2Open f = false → Answers (.peerRead f offset len) s (fun t => .reply s.pcie.nextPeer
      .unsupported [] ∈ t.sent ∧ t.pcie.nextPeer = s.pcie.nextPeer + 1)) ∧
    (∀ (f : Fin 4) (offset : Nat), s.bar2Open f = true → Answers (.bar2Write f offset) s (fun t => t.flag (F.HIF_ERR_STATUS_PEER_UR f) =
      true)) ∧
    (∀ (id : Nat) (p : PeerRead) (e : Nat), s.pcie.peers.find? (fun q => q.id == id) = some p → s.cacheEnabled = true → 0 < p.len →
      p.offset % 4096 + p.len ≤ 4096 → s.peerEntry p.mslot p.block = some e → (s.entry e).spec = false → ((s.entry e).sector (p.offset %
      0x40000 / 4096)).st = .confirmed → ((s.entry e).sector (p.offset % 0x40000 / 4096)).poison = false → s.mem.flips = [] →
      s.mem.poison = [] → Answers (.peerReadResume id) s (fun t => .reply p.id .success (((padTo 4096 ((s.entry e).sector (p.offset %
      0x40000 / 4096)).user).drop (p.offset % 4096)).take p.len) ∈ t.sent ∧ t.pcie.peers = s.pcie.peers.filter (fun q => q.id != id))) ∧
    (∀ (id : Nat) (p : PeerRead), s.pcie.peers.find? (fun q => q.id == id) = some p → s.cacheEnabled = false → Answers (.peerReadResume
      id) s (fun t => t.flag F.CCH_STATUS_PEER_ABORT = true ∧ .reply id .abort [] ∈ t.sent ∧ t.pcie.peers = s.pcie.peers.filter (fun q =>
      q.id != id))) ∧
    (∀ (id : Nat) (p : PeerRead), s.pcie.peers.find? (fun q => q.id == id) = some p → Answers (.peerReadTimeout id) s (fun t => t.flag
      F.CCH_STATUS_PEER_ABORT = true ∧ .reply id .abort [] ∈ t.sent ∧ t.pcie.peers = s.pcie.peers.filter (fun q => q.id != id))) ∧
    (∀ (f : Fin 4) (field : CfgField), s.flag (F.HIF_FUNC_STATUS_READY f) = true → s.flag (F.HIF_FUNC_STATUS_FLR_BUSY f) = false →
      cfgInPf0 field = false → Answers (.configurationRequest f field none) s (fun t => .reply 0 .success (leBytes 8 (s.cfg f field)) ∈
      t.sent)) ∧
    (∀ (f : Fin 4) (field : CfgField) (v : Nat), s.flag (F.HIF_FUNC_STATUS_READY f) = true → s.flag (F.HIF_FUNC_STATUS_FLR_BUSY f) =
      false → cfgInPf0 field = false → field ≠ .aerStatus → cfgMask field ≠ 0 → Answers (.configurationRequest f field (some v)) s (fun t
      => t.cfg f field = v &&& cfgMask field ∧ SameFields [F.HIF_LINK_STATUS_PM] s t)) ∧
    (∀ (f : Fin 4) (err : TlpError), Answers (.badTlpReceived (some f) err) s (fun t => (t.cfg (if tlpErrorBit err < 4 then 0 else f)
      .aerStatus).testBit (tlpErrorBit err) = true ∧ SameFields [] s t))

/-- R404, R423, R424: what a completion, a completion timeout, the end of a tag's quarantine, the unmasking of a vector and its moderation time do. -/
def Obligations.HostReadAndMessageCommandsComplete : Prop :=
  ∀ s : State,
    (∀ (f : Fin 4) (tag : Nat) (data : List Byte) (r : ReadReq), s.reqOf f tag = some r → r.got.length + data.length < r.len → Answers
      (.completionTlp f tag .success data) s (fun t => t.reqOf f tag = some { r with got := r.got ++ data.map BitVec.toNat })) ∧
    (∀ (f : Fin 4) (tag : Nat) (data : List Byte) (r : ReadReq) (c : Cmd), s.reqOf f tag = some r → r.got.length + data.length = r.len →
      r.purpose = .descriptor → s.cmd? r.cmd = some c → c.id.formatL = false → f ≠ 0 → (∀ e ∈ s.allCmds, e.2.id.fn ≠ f ∨ e.1 = r.cmd) →
      Answers (.completionTlp f tag .success data) s (fun t => (t.cmd r.cmd).phase = .fetched ∧ (t.cmd r.cmd).id = nativeId c.id.fn
      c.id.ring (r.got ++ data.map BitVec.toNat))) ∧
    (∀ (f : Fin 4) (tag : Nat) (status : CplStatus) (data : List Byte), s.reqOf f tag = none → (s.pcie.quarantine.any (fun q => q.fn ==
      f.val && q.tag == tag && q.silent)) = false → Answers (.completionTlp f tag status data) s (fun t => t.flag
      (F.HIF_ERR_STATUS_UNEXP_CPL f) = true)) ∧
    (∀ (f : Fin 4) (tag : Nat) (r : ReadReq), s.reqOf f tag = some r → Answers (.cplTimeout f tag) s (fun t => t.flag
      (F.HIF_ERR_STATUS_CPL_TIMEOUT f) = true ∧ t.pair (F.HIF_CPL_TIMEOUTS_LO_COUNT f) (F.HIF_CPL_TIMEOUTS_HI_COUNT f) = min (s.pair
      (F.HIF_CPL_TIMEOUTS_LO_COUNT f) (F.HIF_CPL_TIMEOUTS_HI_COUNT f) + 1) (2 ^ 48 - 1))) ∧
    (∀ (f : Fin 4) (tag : Nat), f ≠ 0 → (∀ e ∈ s.allCmds, e.2.id.fn ≠ f) → Answers (.tagQuarantineEnd f tag) s (fun t => t =
      { s with pcie := { s.pcie with quarantine := s.pcie.quarantine.filter (fun q => !(q.fn == f.val && q.tag == tag)) } })) ∧
    (∀ (f : Fin 4) (v : Fin 64), s.pendingBit f v = false → Answers (.msixUnmask f v) s (fun t => t.msixWord f (4 * v.val + 3) % 2 = 0 ∧
      t.sent = s.sent)) ∧
    (∀ (f : Fin 4) (v : Fin 64), s.pendingBit f v = true → s.cfg f .msixFunctionMask = 0 → s.cfg f .msixEnable = 1 → Answers (.msixUnmask
      f v) s (fun t => t.msixWord f (4 * v.val + 3) % 2 = 0 ∧ t.pendingBit f v = false ∧ .message f v (s.msixWord f (4 * v.val) +
      s.msixWord f (4 * v.val + 1) * 2 ^ 32) (s.msixWord f (4 * v.val + 2)) ∈ t.sent)) ∧
    (∀ (f : Fin 4) (v : Fin 64), (s.vec f v).timing = true → s.fnLive f = true → s.cfg f .msixEnable = 1 → s.masked f v = false → Answers
      (.vectorModTimeout f v) s (fun t => t.vec f v = {} ∧ .message f v (s.msixWord f (4 * v.val) + s.msixWord f (4 * v.val + 1) * 2 ^
      32) (s.msixWord f (4 * v.val + 2)) ∈ t.sent))

/-- R364–R366, R389, R390, R407: doorbells and configuration writes of the rings and of the event queue. -/
def Obligations.RingCommandsComplete : Prop :=
  ∀ s : State,
    (∀ (f : Fin 4) (ring : Fin 32) (value : Word), s.doorbellBlocked f ring (0xF000 + 8 * ring.val) ⟨4, true, false⟩ = none → s.flag
      (F.RING_SQ_CFG_ENABLE f ring) = true → s.flag (F.RING_SQ_STATUS_STOPPED f ring) = false → value.toNat % 65536 < s.sqSize f ring →
      ringDist (s.sqSize f ring) (s.fld (F.RING_SQ_STATUS_HEAD f ring)) (s.sqTail f ring) ≤ ringDist (s.sqSize f ring) (s.fld
      (F.RING_SQ_STATUS_HEAD f ring)) (value.toNat % 65536) → Answers (.sqTailDoorbell f ring ⟨4, true, false⟩ value) s (fun t =>
      t.sqTail f ring = value.toNat % 65536 ∧ SameFields [F.HIF_LINK_STATUS_PM] s t)) ∧
    (∀ (f : Fin 4) (ring : Fin 32) (value : Word), s.doorbellBlocked f ring (0xF000 + 8 * ring.val) ⟨4, true, false⟩ = none → s.flag
      (F.RING_SQ_CFG_ENABLE f ring) = true → s.flag (F.RING_SQ_STATUS_STOPPED f ring) = false → s.sqSize f ring ≤ value.toNat % 65536 →
      Answers (.sqTailDoorbell f ring ⟨4, true, false⟩ value) s (fun t => t.flag (F.RING_SQ_STATUS_STOPPED f ring) = true ∧ t.flag
      (F.RING_SQ_STATUS_ERR f ring) = true ∧ t.fld (F.RING_SQ_STATUS_ERR_CODE f ring) = 1 ∧ t.sqTail f ring = s.sqTail f ring)) ∧
    (∀ (f : Fin 4) (ring : Fin 32) (value : Word), s.doorbellBlocked f ring (0xF000 + 8 * ring.val) ⟨4, true, false⟩ = none → s.flag
      (F.RING_SQ_CFG_ENABLE f ring) = false → Answers (.sqTailDoorbell f ring ⟨4, true, false⟩ value) s (fun t => t.flag
      (F.RING_SQ_STATUS_ERR f ring) = true ∧ t.fld (F.RING_SQ_STATUS_ERR_CODE f ring) = 4 ∧ t.sqTail f ring = s.sqTail f ring)) ∧
    (∀ (f : Fin 4) (ring : Fin 32) (value : Word), s.doorbellBlocked f ring (0xF004 + 8 * ring.val) ⟨4, true, false⟩ = none → s.flag
      (F.RING_CQ_CFG_ENABLE f ring) = true → value.toNat % 65536 < s.cqSize f ring → ringDist (s.cqSize f ring) (s.cqHead f ring)
      (value.toNat % 65536) ≤ s.cqUsed f ring → Answers (.cqHeadDoorbell f ring ⟨4, true, false⟩ value) s (fun t => t.cqHead f ring =
      value.toNat % 65536 ∧ SameFields [F.HIF_LINK_STATUS_PM] s t)) ∧
    (∀ (f : Fin 4) (ring : Fin 32) (value : Word), s.doorbellBlocked f ring (0xF004 + 8 * ring.val) ⟨4, true, false⟩ = none → s.flag
      (F.RING_CQ_CFG_ENABLE f ring) = true → s.cqUsed f ring < ringDist (s.cqSize f ring) (s.cqHead f ring) (value.toNat % 65536) →
      Answers (.cqHeadDoorbell f ring ⟨4, true, false⟩ value) s (fun t => t.flag (F.RING_CQ_STATUS_ERR f ring) = true ∧ t.fld
      (F.RING_CQ_STATUS_ERR_CODE f ring) = 1 ∧ t.cqHead f ring = s.cqHead f ring)) ∧
    (∀ (value : Word), s.fw.booted = true → s.fnLive 0 = true → s.flag F.EVT_Q_CFG_ENABLE = true → value.toNat % 65536 < s.evtSize →
      ringDist s.evtSize s.events.head (value.toNat % 65536) ≤ s.evtUsed → Answers (.evtQHeadDoorbell ⟨4, true, false⟩ value) s (fun t =>
      t.events.head = value.toNat % 65536)) ∧
    (∀ (f : Fin 4) (ring : Fin 32) (value : Word), s.ringWritable f ring = true → s.flag (F.RING_SQ_CFG_ENABLE f ring) = false →
      s.mayEnable f = true → value.toNat.testBit 31 = true → Answers (.sqCfgWrite f ring value) s (fun t => t.fld
      (F.RING_SQ_CFG_SIZE_LOG2 f ring) = bitsOf value.toNat 0 5 ∧ t.fld (F.RING_SQ_CFG_CQ f ring) = bitsOf value.toNat 8 5 ∧ t.fld
      (F.RING_SQ_CFG_PRIO f ring) = bitsOf value.toNat 16 2 ∧ t.flag (F.RING_SQ_CFG_ENABLE f ring) = true ∧ t.fld (F.RING_SQ_STATUS_HEAD
      f ring) = 0 ∧ t.flag (F.RING_SQ_STATUS_STOPPED f ring) = false ∧ t.sqTail f ring = 0 ∧ SameFields [F.RING_SQ_CFG_SIZE_LOG2 f ring,
      F.RING_SQ_CFG_CQ f ring, F.RING_SQ_CFG_PRIO f ring, F.RING_SQ_CFG_FORMAT f ring, F.RING_SQ_CFG_ENABLE f ring, F.RING_SQ_STATUS_HEAD
      f ring, F.RING_SQ_STATUS_STOPPED f ring] s t)) ∧
    (∀ (f : Fin 4) (ring : Fin 32) (value : Word), s.ringWritable f ring = true → s.flag (F.RING_CQ_CFG_ENABLE f ring) = false →
      s.mayEnable f = true → value.toNat.testBit 31 = true → Answers (.cqCfgWrite f ring value) s (fun t => t.fld
      (F.RING_CQ_CFG_SIZE_LOG2 f ring) = bitsOf value.toNat 0 5 ∧ t.fld (F.RING_CQ_CFG_VECTOR f ring) = bitsOf value.toNat 16 6 ∧ t.flag
      (F.RING_CQ_CFG_ENABLE f ring) = true ∧ t.fld (F.RING_CQ_STATUS_TAIL f ring) = 0 ∧ t.cqHead f ring = 0 ∧ t.cqPass f ring = 0 ∧
      SameFields [F.RING_CQ_CFG_SIZE_LOG2 f ring, F.RING_CQ_CFG_VECTOR f ring, F.RING_CQ_CFG_ENABLE f ring, F.RING_CQ_STATUS_TAIL f ring]
      s t)) ∧
    (∀ (f : Fin 4) (ring : Fin 32) (value : Word), s.ringWritable f ring = true → s.flag (F.RING_CQ_CFG_ENABLE f ring) = true →
      value.toNat.testBit 31 = false → s.cqNamed f ring = true → Answers (.cqCfgWrite f ring value) s (fun t => t.flag
      (F.RING_CQ_CFG_ENABLE f ring) = true ∧ t.flag (F.RING_CQ_STATUS_ERR f ring) = true ∧ t.fld (F.RING_CQ_STATUS_ERR_CODE f ring) = 3)) ∧
    (∀ (value : Word), s.fnLive 0 = true → s.flag F.EVT_Q_CFG_ENABLE = false → value.toNat.testBit 31 = true → s.events.staging = [] →
      Answers (.evtQCfgWrite value) s (fun t => t.fld F.EVT_Q_CFG_SIZE_LOG2 = bitsOf value.toNat 0 5 ∧ t.fld F.EVT_Q_CFG_VECTOR = bitsOf
      value.toNat 16 6 ∧ t.flag F.EVT_Q_CFG_ENABLE = true ∧ t.fld F.EVT_Q_STATUS_TAIL = 0 ∧ t.events.head = 0 ∧ SameFields
      [F.EVT_Q_CFG_SIZE_LOG2, F.EVT_Q_CFG_VECTOR, F.EVT_Q_CFG_ENABLE, F.EVT_Q_STATUS_TAIL] s t))

/-- R367, R368, R372–R376, R391–R401, R405: the passage of a command from its ring to its queue, and of completion and event records to the host. -/
def Obligations.CommandIntakeCommandsComplete : Prop :=
  ∀ s : State,
    (∀ (f : Fin 4) (ring : Fin 32), s.fetchable f ring = true → 0 < s.credit f ring → s.freeTags f ≠ [] → Answers (.descriptorFetch f
      ring) s (fun t => t.rings.nextHandle = s.rings.nextHandle + 1 ∧ t.fld (F.RING_SQ_STATUS_HEAD f ring) = (s.fld
      (F.RING_SQ_STATUS_HEAD f ring) + 1) % s.sqSize f ring ∧ (∃ tag ∈ s.freeTags f, t.pcie.reqs = s.pcie.reqs ++ [⟨f, tag, .descriptor,
      s.rings.nextHandle, 0, if s.formatL f ring then 32 else 64, []⟩]) ∧ SameFields [F.RING_SQ_STATUS_HEAD f ring, F.HIF_LINK_STATUS_PM]
      s t)) ∧
    (∀ (h : Nat) (c : Cmd), s.cmd? h = some c → c.phase = .fetched → c.mute = false → s.earlyChecks h c.id = none → usesDptr c.op = false
      → c.id.device = s.deviceId → s.lateChecks c.id = none → Answers (.acceptance h) s (fun t => (t.cmd h).phase = .accepted ∧ (t.cmd
      h).id = c.id)) ∧
    (∀ (h : Nat) (c : Cmd) (st : Nat), s.cmd? h = some c → c.phase = .fetched → c.mute = false → s.earlyChecks h c.id = some st → Answers
      (.acceptance h) s (fun t => (t.cmd h).phase = .ended ∧ (t.cmd h).res.status = st ∧ t.rings.records = s.rings.records ++ [h])) ∧
    (∀ (h : Nat) (c : Cmd) (es : List Elem), s.cmd? h = some c → c.phase = .listRead → c.segmentWhole = true → c.data.segDst = false →
      c.data.dst = [] → c.op = Op.read → c.id.formatL = false → es = segmentElems (joinChunks c.data.bytes) → es.all (fun e => e.ok &&
      e.kind != 1) = true → listOk Op.read c.id.length (c.data.src ++ es) = true → c.id.device = s.deviceId → s.lateChecks c.id = none →
      Answers (.listReadDone h) s (fun t => (t.cmd h).phase = .accepted ∧ (t.cmd h).data.src = c.data.src ++ es)) ∧
    (∀ (h : Nat) (c : Cmd) (q : Nat), s.cmd? h = some c → c.phase = .accepted → s.ringOrderOk h c = true → c.id.device = s.deviceId →
      s.lateChecks c.id = none → s.queueFor c.id = some q → s.tagsFree q ≠ 0 → c.op ≠ Op.load → Answers (.dispatch h) s (fun t => (t.cmd
      h).phase = .queued ∧ (t.cmd h).queue = some q ∧ (t.cmd h).order = s.rings.nextOrder ∧ t.rings.nextOrder = s.rings.nextOrder + 1)) ∧
    (∀ (h : Nat) (c : Cmd), s.cmd? h = some c → c.phase = .accepted → s.ringOrderOk h c = true → c.id.device = s.deviceId → s.lateChecks
      c.id = none → s.queueFor c.id = none → Answers (.dispatch h) s (fun t => (t.cmd h).phase = .started)) ∧
    (∀ (q : Fin 9) (h : Nat) (c : Cmd), s.queueHeld q = false → (s.waitingIn q).head? = some (h, c) → s.cmd? h = some c →
      s.admissionRefusal c = none → ((c.id.seal = true ∨ c.op = Op.cipherJob) → s.cipher.loading ≠ some c.id.keySlot) → (∀ l ∈
      s.lockNeeded h c, s.lockGrantable l = true) → c.op ≠ Op.write → Answers (.admission q) s (fun t => (t.cmd h).phase = .admitted ∧
      t.rings.locks = s.rings.locks ++ (s.lockNeeded h c).toList)) ∧
    (∀ (f : Fin 4) (ring : Fin 32) (h : Nat), s.chainRecord = none → s.nextRecord f ring = some h → s.flag (F.RING_CQ_CFG_ENABLE f ring)
      = true → s.cqFull f ring = false → s.fnLive f = true → Answers (.completionRecord f ring) s (fun t => t.fld (F.RING_CQ_STATUS_TAIL
      f ring) = (s.fld (F.RING_CQ_STATUS_TAIL f ring) + 1) % s.cqSize f ring ∧ .memWrite f (s.fld (F.RING_CQ_BASE_LO_BASE f ring) * 4096
      + s.fld (F.RING_CQ_BASE_HI_BASE f ring) * 2 ^ 32 + 16 * s.fld (F.RING_CQ_STATUS_TAIL f ring)) (completionBytes (s.cmd h) (s.cmd
      h).id.ring (s.fld (F.RING_SQ_STATUS_HEAD (s.cmd h).id.fn (s.cmd h).id.ring)) (s.cqPass f ring % 2 == 0)) false false ∈ t.sent ∧
      t.cmd? h = none)) ∧
    (∀ (e : EventRec) (rest : List EventRec), s.events.posted = e :: rest → s.root = true → s.evtOpen = true → s.events.staging = [] →
      Answers (.eventRecord) s (fun t => t.events.posted = rest ∧ t.fld F.EVT_Q_STATUS_TAIL = (s.fld F.EVT_Q_STATUS_TAIL + 1) % s.evtSize
      ∧ .memWrite 0 (s.fld F.EVT_Q_BASE_LO_BASE * 4096 + s.fld F.EVT_Q_BASE_HI_BASE * 2 ^ 32 + 32 * s.fld F.EVT_Q_STATUS_TAIL)
      (eventBytes e (s.events.pass % 2 == 0)) false false ∈ t.sent ∧ SameFields [F.EVT_Q_STATUS_TAIL, F.HIF_LINK_STATUS_PM] s t)) ∧
    (0 < s.events.lostNow → s.events.beforeLoss = 0 → 16 ≤ s.evtFree → s.evtOpen = true → Answers (.eventsLost) s (fun t =>
      t.events.lostNow = 0 ∧ t.events.posted = s.events.posted)) ∧
    (Answers (.clearAll) s (fun t => (∀ i ∈ counterFields, ∀ ix : Fin 256, t.fld ⟨i, ix, 32, 0⟩ = 0) ∧ t.events.saturated = []))

/-- R325, R331, R339, R357, R370, R380, R383: what the commands of a ring do when they begin. -/
def Obligations.DataCommandsBegin : Prop :=
  ∀ s : State,
    (∀ (h : Nat) (c : Cmd), s.cmd? h = some c → c.mayStart Op.read = true → (∀ b ∈ s.blocksOf c, s.tagOf c.id.mslot b = none) → Answers
      (.read h) s (fun t => t = s.setCmd h { c with started := true, data := { c.data with waiting := s.blocksOf c } })) ∧
    (∀ (h e : Nat) (c : Cmd), s.cmd? h = some c → c.mayStart Op.read = true → s.blocksOf c = [(s.disc c.station).blockOf c.id.lba] →
      s.tagOf c.id.mslot ((s.disc c.station).blockOf c.id.lba) = some e → (s.entry e).st = .valid → s.cacheEnabled = true → s.inMask
      (fnClass c.id.fn) e = true → (s.entry e).spec = false → (s.entry e).withheld = [] → c.id.seal = false → (∀ w ∈ s.cipher.work,
      w.ready = false) → Answers (.read h) s (fun t => (t.cmd h).data.uses = c.data.uses ++ [⟨(s.disc c.station).blockOf c.id.lba, e,
      true, false, false⟩] ∧ (t.cmd h).data.waiting = [] ∧ h ∈ (t.entry e).readers)) ∧
    (∀ (h : Nat) (c : Cmd), s.cmd? h = some c → c.mayStart Op.write = true → (∀ b ∈ s.blocksOf c, s.tagOf c.id.mslot b = none) →
      c.data.uses = [] → Answers (.write h) s (fun t => t = s.setCmd h
      { c with started := true, data := { c.data with waiting := s.blocksOf c } })) ∧
    (∀ (h : Nat) (c : Cmd), s.cmd? h = some c → c.mayStart Op.verify = true → Answers (.verify h) s (fun t => t = s.setCmd h
      { c with started := true, data := { c.data with waiting := s.blocksOf c } })) ∧
    (∀ (h : Nat) (c : Cmd), s.cmd? h = some c → c.mayStart Op.flush = true → c.mute = false → s.flushBlocks h = [] → c.data.badBlocks =
      [] → Answers (.flush h) s (fun t => (t.cmd h).phase = .ended ∧ (t.cmd h).res.status = Status.success ∧ t.rings.records =
      s.rings.records ++ [h])) ∧
    (∀ (h b : Nat) (c : Cmd), s.cmd? h = some c → c.mayStart Op.flush = true → b ∈ s.flushBlocks h → (∀ x ∈ s.flushBlocks h, s.closeBlock
      c.station c.id.mslot x = (s, 0)) → s.blockPending c.id.mslot b = true → Answers (.flush h) s (fun t => t = s.setCmd h
      { c with started := true, data := { c.data with waiting := s.flushBlocks h, pads := 0 } })) ∧
    (∀ (h : Nat) (c : Cmd), s.cmd? h = some c → c.mayStart Op.preload = true → s.cacheEnabled = true → c.locks = false → (∀ b ∈
      s.blocksOf c, s.tagOf c.id.mslot b = none) → Answers (.preload h) s (fun t => t = s.setCmd h
      { c with started := true, data := { c.data with waiting := s.blocksOf c } })) ∧
    (∀ (h : Nat) (c : Cmd), s.cmd? h = some c → c.mayStart Op.preload = true → c.mute = false → s.cacheEnabled = true → c.locks = true →
      32 < s.lockedAfter h → Answers (.preload h) s (fun t => (t.cmd h).phase = .ended ∧ (t.cmd h).res.status = Status.invalidField ∧
      t.flag F.CCH_STATUS_LOCK_FULL = true ∧ SameFields [F.CCH_STATUS_LOCK_FULL] s t)) ∧
    (∀ (h g : Nat) (c x : Cmd), s.cmd? h = some c → c.mayRun Op.abort = true → s.abortTarget h = some (g, x) → s.cmd? g = some x → g ≠ h
      → x.phase = .queued → x.mute = false → x.op ≠ Op.abort → Answers (.abort h) s (fun t => (t.cmd g).phase = .ended ∧ (t.cmd
      g).res.status = Status.aborted ∧ t.rings.records = s.rings.records ++ [g] ∧ (t.cmd h).target = some g ∧ (t.cmd h).res.detail =
      abortCaught)) ∧
    (∀ (h : Nat) (c : Cmd), s.cmd? h = some c → c.mayRun Op.abort = true → c.mute = false → s.abortTarget h = none → Answers (.abort h) s
      (fun t => (t.cmd h).phase = .ended ∧ (t.cmd h).res.status = Status.success ∧ (t.cmd h).res.detail = abortNoTag)) ∧
    (∀ (h a n : Nat) (c : Cmd), s.cmd? h = some c → c.mayStart Op.cipherJob = true → c.origin = .ring → s.fnLive c.id.fn = true →
      s.freeTags c.id.fn ≠ [] → s.pcie.reqs.any (fun r => r.cmd == h && r.purpose == .job) = false → s.nextRead c (16 * c.id.nblkJob) =
      some (a, n) → Answers (.cipherJob h) s (fun t => (t.cmd h).started = true ∧ (t.cmd h).data.nextRead = c.data.nextRead + n ∧ (∃ tag
      ∈ s.freeTags c.id.fn, t.pcie.reqs = s.pcie.reqs ++ [⟨c.id.fn, tag, .job, h, c.data.nextRead, n, []⟩] ∧ .memRead c.id.fn tag a n ∈
      t.sent)))

/-- R318–R330, R338, R339: allocation for a waiting command, read-ahead, ENABLE and its drain, and the DMA of a READ's sector. -/
def Obligations.StagingCacheCommandsComplete : Prop :=
  ∀ s : State,
    (∀ (h b e : Nat) (c : Cmd), h ≠ 0 → s.cmd? h = some c → c.phase = .admitted → c.op = Op.read → b ∈ c.data.waiting → c.id.seal = false
      → s.tagOf c.id.mslot b = none → s.cacheEnabled = true → s.settleEvictions = s → (∀ i ∈ entryNumbers, (s.entry i).st ≠ .evicting) →
      s.chooseEntry (fnClass c.id.fn) = some e → (s.entry e).st = .free → (∀ w ∈ s.cipher.work, w.ready = false) → Answers
      (.entryAllocate h b) s (fun t => (t.entry e).st = .filling ∧ (t.entry e).cls = fnClass c.id.fn ∧ (t.entry e).tagged = true ∧
      (t.entry e).mslot = c.id.mslot ∧ (t.entry e).block = b ∧ (t.work e).active = true ∧ (t.cmd h).data.uses = c.data.uses ++ [⟨b, e,
      false, false, false⟩])) ∧
    (∀ (st : Fin 8) (last m e : Nat), (s.station st).lastBlock = some last → (s.station st).mslot = some m → (s.station st).disc.isSome =
      true → s.flag F.CCH_RA_EN = true → s.cacheEnabled = true → 0 < s.fld F.CCH_RA_DEPTH → s.tagOf m (last + 1) = none → s.knownBlank m
      last = false → (s.stationCmds st).any (fun x => x.2.needsPosition) = false → s.recording.blocks.any (fun r => r.station == st.val)
      = false → last + 1 < 2 * (s.disc st).layers * (s.disc st).blocksPerLayer → (last + 1) / (s.disc st).blocksPerLayer = last / (s.disc
      st).blocksPerLayer → s.settleEvictions = s → (∀ i ∈ entryNumbers, (s.entry i).st ≠ .evicting) → s.chooseEntry classPrefetch = some
      e → (s.entry e).st = .free → Answers (.readAhead st) s (fun t => (t.entry e).st = .filling ∧ (t.entry e).spec = true ∧ (t.entry
      e).cls = classPrefetch ∧ (t.entry e).mslot = m ∧ (t.entry e).block = last + 1 ∧ (t.work e).active = true ∧ (t.work e).noRetry =
      true ∧ SameFields [] s t)) ∧
    (s.fld F.CCH_CTRL_STATE = 0 → (∀ i ∈ entryNumbers, (s.entry i).st = .free) → Answers (.cacheDisable) s (fun t => t.fld
      F.CCH_CTRL_ENABLE = 0 ∧ t.fld F.CCH_CTRL_STATE = 1 ∧ t.cache.drained = 0 ∧ SameFields [F.CCH_CTRL_ENABLE, F.CCH_CTRL_STATE] s t)) ∧
    (s.fld F.CCH_CTRL_STATE = 1 → s.dirtyCount = 0 → Answers (.cacheDrainDone) s (fun t => t.fld F.CCH_CTRL_STATE = 2 ∧ t = (s.put
      F.CCH_CTRL_STATE 2).post 0x0801 srcCache (leBytes 2 s.cache.drained) ∧ SameFields [F.CCH_CTRL_STATE] s t)) ∧
    (s.fld F.CCH_CTRL_STATE = 2 → Answers (.cacheEnable) s (fun t => t.fld F.CCH_CTRL_ENABLE = 1 ∧ t.fld F.CCH_CTRL_STATE = 0 ∧ t.events
      = (s.post 0x0802 srcCache []).events ∧ SameFields [F.CCH_CTRL_ENABLE, F.CCH_CTRL_STATE] s t)) ∧
    (s.fld F.CCH_CTRL_STATE = 1 → Answers (.cacheEnable) s (fun t => t = s.put F.CCH_STATUS_REJECTED 1)) ∧
    (∀ (h k : Nat) (c : Cmd) (data : List Nat) (failed poison : Bool) (outcome : Nat), s.cmd? h = some c → c.phase = .admitted →
      c.started = true → c.origin = .ring → s.fnLive c.id.fn = true → c.op = Op.read → k < c.id.nsect → s.fetchSector c k = s → s.dueOf c
      k = .bytes data failed outcome poison → k ∉ c.data.dmaDone → s.dmaFirst h k = true → Table.at [] c.data.early k ≠ data →
      c.data.dmaDone.length + 1 ≠ c.id.nsect → Answers (.dmaWriteIssued h k) s (fun t => (t.cmd h).data.dmaDone = c.data.dmaDone ++ [k] ∧
      Table.at 0 (t.cmd h).data.verdict k = (if poison then Outcome.unrecovered else outcome) ∧ (s.bufferWrites c.id.fn c.data.src (4096
      * k) data poison).all (fun o => decide (o ∈ t.sent)) = true))

/-- R343–R350, R357–R360, R387, R495: key slots, engine blocks, JTAG, ATTEST, the Format L data commands and FW_DOWNLOAD. -/
def Obligations.CipherCommandsComplete : Prop :=
  ∀ s : State,
    (∀ (slot : Fin 64), s.flag F.CIP_STATUS_BUSY = false → Answers (.keyLoad slot) s (fun t => t.keySlot slot =
      { s.keySlot slot with k1 := s.stagedKey 0 (bitsOf (Table.at 0 s.cipher.staging 17) 0 2), k2 := s.stagedKey 8 (bitsOf (Table.at 0 s.cipher.staging 17) 0 2), everLoaded := true }
      ∧ t.keyGen slot = (s.keyGen slot + 1) % 2 ^ 64 ∧ t.flag (F.CIP_KEYSLOT_INFO_LOADED slot) = true ∧ t.fld (F.CIP_KEYSLOT_INFO_LEN
      slot) = bitsOf (Table.at 0 s.cipher.staging 17) 0 2 ∧ t.fld (F.CIP_KEYSLOT_INFO_FN_MASK slot) = bitsOf (Table.at 0 s.cipher.staging
      17) 8 4 ∧ t.fld (F.CIP_KEYSLOT_LABEL_LABEL slot) = Table.at 0 s.cipher.staging 16 % 2 ^ 32 ∧ t.flag F.CIP_STATUS_BUSY = true ∧
      t.cipher.staging = [] ∧ t.cipher.loading = some slot.val ∧ SameFields [F.CIP_STATUS_BUSY, F.CIP_KEYSLOT_GEN_LO_GEN slot,
      F.CIP_KEYSLOT_GEN_HI_GEN slot, F.CIP_KEYSLOT_LABEL_LABEL slot, F.CIP_KEYSLOT_INFO_LOADED slot, F.CIP_KEYSLOT_INFO_LEN slot,
      F.CIP_KEYSLOT_INFO_FN_MASK slot] s t)) ∧
    (∀ (slot : Fin 64), s.flag F.CIP_STATUS_BUSY = true → Answers (.keyLoad slot) s (fun t => t.flag F.CIP_STATUS_REJECTED = true ∧
      t.cipher = { s.cipher with staging := [] } ∧ SameFields [F.CIP_STATUS_REJECTED] s t)) ∧
    (∀ (slot : Fin 64), s.flag F.CIP_STATUS_BUSY = false → Answers (.keyErase slot) s (fun t => t.keyGen slot = (s.keyGen slot + 1) % 2 ^
      64 ∧ t.flag (F.CIP_KEYSLOT_INFO_LOADED slot) = false ∧ (t.keySlot slot).zeroize = true ∧ t.cipher.staging = [] ∧ SameFields
      [F.CIP_KEYSLOT_GEN_LO_GEN slot, F.CIP_KEYSLOT_GEN_HI_GEN slot, F.CIP_KEYSLOT_LABEL_LABEL slot, F.CIP_KEYSLOT_INFO_LOADED slot,
      F.CIP_KEYSLOT_INFO_LEN slot, F.CIP_KEYSLOT_INFO_FN_MASK slot] s t)) ∧
    (∀ (slot : Nat), s.cipher.loading = some slot → (∀ w ∈ s.cipher.work, w.ready = false) → Answers (.keyLoadDone) s (fun t => t =
      ({ s.put F.CIP_STATUS_BUSY 0 with cipher := { s.cipher with loading := none } }).post 0x0901 srcCipher ([slot, 0, 0, 0] ++ leBytes
      4 (s.fld (F.CIP_KEYSLOT_LABEL_LABEL slot)) ++ leBytes 8 (s.keyGen slot)) ∧ t.flag F.CIP_STATUS_BUSY = false)) ∧
    (∀ (slot : Fin 64), (s.keySlot slot).zeroize = true → s.flag (F.CIP_KEYSLOT_INFO_LOADED slot) = false → (∀ e : Fin 16, ∀ x ∈ s.engine
      e, x.slot ≠ slot.val) → Answers (.keyZeroizeDone slot) s (fun t => t = (s.setKeySlot slot
      { s.keySlot slot with zeroize := false, k1 := [], k2 := [] }).post 0x0902 srcCipher ([slot.val] ++ List.replicate 7 0 ++ leBytes 8
      (s.keySlot slot).gen))) ∧
    (∀ (e : Fin 16) (x : Engine) (w : EngineWork) (c : Cmd), s.engine e = some x → s.cipher.work = [w] → w.cmd = x.cmd → w.unit = x.unit
      → w.kind = .job → w.started = w.blocks → s.cmd? x.cmd = some c → w.done + 1 < c.id.nblkJob → Answers (.engineBlockDone e) s (fun t
      => t.engine e = none ∧ t.cipher.work = [{ w with done := w.done + 1 }] ∧ Table.at [] (t.cmd x.cmd).data.plain x.block = (if
      (c.id.body.getD 0 0).testBit 0 then aesDec x.key (c.jobBlock x.block) else aesEnc x.key (c.jobBlock x.block)))) ∧
    (∀ (enabled : Bool) (record : List Byte), Answers (.jtagStateChange enabled record) s (fun t => Table.at (List.replicate 64 0)
      t.cipher.m 6 = sha512 (Table.at (List.replicate 64 0) s.cipher.m 6 ++ sha512 (padTo 64 (record.map BitVec.toNat))) ∧ Table.at 0
      t.cipher.extendCount 6 = Table.at 0 s.cipher.extendCount 6 + 1 ∧ t.cipher.jtagSeen = (s.cipher.jtagSeen || enabled) ∧ SameFields []
      s t)) ∧
    (∀ (h : Nat) (c : Cmd), s.cmd? h = some c → c.mayRun Op.attest = true → s.mayDeliver h = true → c.origin = .ring → c.mute = false →
      Answers (.attest h) s (fun t => (t.cmd h).phase = .ended ∧ (t.cmd h).res.status = Status.success ∧ (s.bufferWrites c.id.fn
      c.data.src 0 (s.reportBody c.id.body ++ padTo 64 (Config.idSign (s.reportBody c.id.body))) false).all (fun o => decide (o ∈
      t.sent)) = true)) ∧
    (∀ (h : Nat) (c : Cmd), s.cmd? h = some c → c.mayStart Op.lRead = true → (∀ b ∈ s.blocksOf c, s.tagOf c.id.mslot b = none) → Answers
      (.lRead h) s (fun t => t = s.setCmd h { c with started := true, data := { c.data with waiting := s.blocksOf c } })) ∧
    (∀ (h : Nat) (c : Cmd), s.cmd? h = some c → c.mayStart Op.lWrite = true → (∀ b ∈ s.blocksOf c, s.tagOf c.id.mslot b = none) →
      c.data.uses = [] → Answers (.lWrite h) s (fun t => t = s.setCmd h
      { c with started := true, data := { c.data with waiting := s.blocksOf c } })) ∧
    (∀ (h : Nat) (c : Cmd), s.cmd? h = some c → c.mayStart Op.lFlush = true → c.mute = false → s.flushBlocks h = [] → c.data.badBlocks =
      [] → Answers (.lFlush h) s (fun t => (t.cmd h).phase = .ended ∧ (t.cmd h).res.status = Status.success ∧ t.rings.records =
      s.rings.records ++ [h])) ∧
    (∀ (h a n : Nat) (c : Cmd), s.cmd? h = some c → c.mayRun Op.fwDownload = true → s.downloadOk c.id = true → c.origin = .ring →
      s.fnLive c.id.fn = true → s.freeTags c.id.fn ≠ [] → s.pcie.reqs.any (fun r => r.cmd == h && r.purpose == .firmware) = false →
      s.nextRead c c.id.fwLength = some (a, n) → Answers (.fwDownload h) s (fun t => (t.cmd h).started = true ∧ (t.cmd h).data.nextRead =
      c.data.nextRead + n ∧ (∃ tag ∈ s.freeTags c.id.fn, t.pcie.reqs = s.pcie.reqs ++ [⟨c.id.fn, tag, .firmware, h, c.data.nextRead, n,
      []⟩] ∧ .memRead c.id.fn tag a n ∈ t.sent))) ∧
    (∀ (p : FwProgram) (rest : List FwProgram) (c : Cmd), s.fw.programming = p :: rest → s.cmd? p.cmd = some c → c.phase = .started →
      c.mute = false → Answers (.flashProgramDone true) s (fun t => t.fw.programming = rest ∧ t.fw.flash = (s.programFlash p.slot
      p.offset p.data).fw.flash ∧ (t.cmd p.cmd).phase = .ended ∧ (t.cmd p.cmd).res.status = Status.success ∧ SameFields [] s t)) ∧
    (∀ (p : FwProgram) (rest : List FwProgram) (c : Cmd), s.fw.programming = p :: rest → s.cmd? p.cmd = some c → c.phase = .started →
      c.mute = false → Answers (.flashProgramDone false) s (fun t => t.fw.programming = rest ∧ t.flag F.FWU_STATUS_FLASH_FAULT = true ∧
      (t.cmd p.cmd).phase = .ended ∧ (t.cmd p.cmd).res.status = Status.writeFault ∧ SameFields [F.FWU_STATUS_FLASH_FAULT] s t))

/-- R210–R243, R255: the read lanes. -/
def Obligations.ReadLaneCommandsComplete : Prop :=
  ∀ s : State,
    (∀ (bc : Fin 64) (value : Word), s.laneMode bc < 2 → Answers (.rchStagedWrite bc .dgain value) s (fun t => t.fld (F.RCH_DGAIN_DGAIN
      bc) = value.toNat % 65536 ∧ (t.lane bc).dgain = ((value.toNat % 65536 : Nat) : Rat) / 16384 ∧ SameFields [F.RCH_DGAIN_DGAIN bc] s
      t)) ∧
    (∀ (bc : Fin 64) (reg : LaneReg) (value : Word), 2 ≤ s.laneMode bc → Answers (.rchStagedWrite bc reg value) s (fun t => t.lane bc =
      { s.lane bc with staged := Table.put 0 (s.lane bc).staged (laneRegCode reg) (value.toNat + 1) } ∧ t.flag (F.RCH_LANE_STATUS_STAGED
      bc) = true ∧ SameFields [F.RCH_LANE_STATUS_STAGED bc] s t)) ∧
    (∀ (bc : Fin 64) (zone : Fin 4250) (tone rate : Rat), s.laneMode bc = 2 → (s.lane bc).readOn = true → (s.lane bc).vgaMove = 0 →
      (s.lane bc).staged = [] → Answers (.frameStart bc none zone tone rate) s (fun t => (t.lane bc).reading = true ∧ (t.lane bc).target
      = none ∧ (t.lane bc).lostAt = none ∧ (t.lane bc).zone = some zone.val ∧ (t.lane bc).blank = decide (tone < (s.fld
      (F.RCH_TARGET_BLANK_FRAC bc) : Rat) / 256 * (s.fld (F.RCH_TARGET_TARGET bc) : Rat)) ∧ t.flag (F.RCH_LANE_STATUS_LOCKED bc) =
      !(t.lane bc).blank)) ∧
    (∀ (bc : Fin 64) (first : Int) (bits : List LaneBit) (clips : Nat), (s.lane bc).reading = true → (s.lane bc).target = none → Answers
      (.frameEnd bc first bits clips) s (fun t => (t.lane bc).reading = false ∧ (t.lane bc).offset = (s.frameLoops bc first bits).offset
      ∧ (t.lane bc).dgain = (s.frameLoops bc first bits).dgain ∧ (t.lane bc).asym = (s.frameLoops bc first bits).asym ∧ (t.lane bc).freq
      = (s.frameLoops bc first bits).freq ∧ t.sfld (F.RCH_OFFSET_OFFSET bc) = satSigned 16 (roundRat ((s.frameLoops bc first bits).offset
      * 64)))) ∧
    (∀ (bc : Fin 64) (bit : Fin 50176) (mean : Rat), (s.lane bc).reading = true → (s.lane bc).blank = false → (s.lane bc).lostAt = none →
      (s.fld (F.RCH_TIM_LOSS_LOSS bc) : Rat) / 256 < mean → Answers (.timingLost bc bit mean) s (fun t => t.lane bc =
      { s.lane bc with lostAt := some bit.val } ∧ t.flag (F.RCH_LANE_STATUS_LOCKED bc) = false ∧ SameFields [F.RCH_LANE_STATUS_LOCKED bc]
      s t)) ∧
    (∀ (bc : Fin 64) (e1 e2 r : Rat), s.laneMode bc ≠ 0 → s.flag (F.RCH_LANE_STATUS_DEFECT bc) = false → s.defectWindow bc e1 r = true →
      s.defectWindow bc e2 r = true → Answers (.defectActive bc e1 e2 r) s (fun t => t.flag (F.RCH_LANE_STATUS_DEFECT bc) = true ∧ t.lane
      bc = { s.lane bc with defectSeen := true, trig := true } ∧ SameFields [F.RCH_LANE_STATUS_DEFECT bc] s t)) ∧
    (∀ (bc : Fin 64) (windows : List Rat) (r : Rat), s.flag (F.RCH_LANE_STATUS_DEFECT bc) = true → s.fld (F.RCH_DEF_CFG_EXTEND bc) ≤
      windows.length → windows.all (fun e => !s.defectWindow bc e r) = true → Answers (.defectInactive bc windows r) s (fun t => t =
      s.put (F.RCH_LANE_STATUS_DEFECT bc) 0)) ∧
    (∀ (bc : Fin 64) (meanErr : Rat) (e j : Nat), (s.lane bc).target = some (e, j) → (s.lane bc).blank = false → (s.lane bc).defectSeen =
      true → (s.work e).active = true → (s.work e).noRetry = false → ((s.work e).sec j).st = .expected → s.secLane (s.work e) j = bc.val
      → ((s.work e).sec j).image = false → ((s.work e).sec j).captureTried = false → (s.disc (s.work e).station).imageSlots ≤ s.fld
      F.RCH_IMG_CFG_FREE → s.slotsHeld (fun v _ => v.station == (s.work e).station) + (s.disc (s.work e).station).imageSlots ≤ slotLimit
      (s.fld F.RCH_IMG_CFG_STATION_MAX) → s.slotsHeld (fun _ y => !y.imageSync) + (s.disc (s.work e).station).imageSlots ≤ 128 -
      slotLimit (s.fld F.RCH_IMG_CFG_RESERVE) → Answers (.captureAgeTrigger bc meanErr) s (fun t => ((t.work e).sec j).image = true ∧
      ((t.work e).sec j).captureTried = true ∧ ((t.work e).sec j).imageSync = false ∧ t.fld F.RCH_IMG_CFG_FREE = (s.fld
      F.RCH_IMG_CFG_FREE - (s.disc (s.work e).station).imageSlots) % 2 ^ F.RCH_IMG_CFG_FREE.width ∧ SameFields [F.RCH_IMG_CFG_FREE] s t)) ∧
    (∀ (e : Fin 48) (j : Fin 72) (rows : List (List Int)), ((s.work e).sec j).image = true → ((s.work e).sec j).imageDone = false →
      Answers (.frameImageDone e j rows) s (fun t => (t.work e).sec j =
      { (s.work e).sec j with imageDone := true, rows := rows.map (fun r => r.map (satSigned 8)) } ∧ SameFields [] s t)) ∧
    (∀ (bc : Fin 64), 8 ≤ (s.lane bc).poorRun → Answers (.laneQualityLow bc) s (fun t => t.flag (F.RCH_LANE_STATUS_QUALITY_LOW bc) = true
      ∧ SameFields [F.RCH_LANE_STATUS_QUALITY_LOW bc] s t))

/-- R246–R261: framing, decoding and sector recovery. -/
def Obligations.SectorRecoveryCommandsComplete : Prop :=
  ∀ s : State,
    (∀ (bc : Fin 64) (p q : List Int) (e j : Nat) (f : Int), (s.lane bc).target = some (e, j) → (s.lane bc).reading = true → (s.lane
      bc).blank = false → (s.work e).active = true → ((s.work e).sec j).st = .expected → ((s.work e).sec j).h0 = none → s.secLane (s.work
      e) j = bc.val → (s.disc (s.work e).station).s4 = false → findMark (min 64 (s.fld (F.RCH_SYNC_CFG_WIN bc))) (s.fld
      (F.RCH_SYNC_CFG_TOL bc)) primaryMark p = some f → findMark (min 64 (s.fld (F.RCH_SYNC_CFG_WIN bc))) (s.fld (F.RCH_SYNC_CFG_TOL bc))
      secondaryMark q = some f → Answers (.syncSearch bc p q) s (fun t => (t.work e).sec j =
      { (s.work e).sec j with st := .decoding, hyps := [⟨0, f, f, false⟩], h0 := some ⟨0, f, f, false⟩ } ∧ SameFields [] s t)) ∧
    (∀ (e : Fin 48) (j : Fin 72) (idx : Fin 4) (codeword : Nat) (inTime : Bool), s.decodes e j idx = true → ((s.work e).sec j).st =
      .decoding → (s.work e).rereading = false → j.val < (s.disc (s.work e).station).dataPerBlock → ldpcConverged (s.disc (s.work
      e).station).ldpc codeword = true → sectorChecks (s.secPsa (s.work e) j) (codewordPayload codeword) = true → (s.entry e).readers =
      [] → (∀ w ∈ s.cipher.work, w.ready = false) → Answers (.decodeConverged e j idx codeword inTime) s (fun t => ((t.entry e).sector
      j).st = .confirmed ∧ ((t.entry e).sector j).user = payloadUser (codewordPayload codeword) ∧ ((t.entry e).sector j).outcome = (if
      idx = 0 then Outcome.clean else Outcome.hypothesis))) ∧
    (∀ (e : Fin 48) (j : Fin 72) (idx : Fin 4) (inTime : Bool), s.decodes e j idx = true → j.val < (s.disc (s.work
      e).station).dataPerBlock → ((s.work e).sec j).hyps.filter (fun x => x.idx != idx.val) ≠ [] → (s.entry e).readers = [] → (∀ w ∈
      s.cipher.work, w.ready = false) → Answers (.decodeMaxIter e j idx inTime) s (fun t => (t.work e).sec j =
      { (s.work e).sec j with hyps := ((s.work e).sec j).hyps.filter (fun x => x.idx != idx.val) } ∧ SameFields [] s t)) ∧
    (∀ (r : Nat × Nat), s.decoder.reeq.length < 8 → s.decoder.waitRound.find? (fun x => ((s.work x.1).sec x.2).imageDone) = some r →
      Answers (.redecodeRoundStart) s (fun t => t.decoder.reeq = s.decoder.reeq ++ [r] ∧ t.decoder.waitRound = s.decoder.waitRound.filter
      (fun y => y != r) ∧ ((t.work r.1).sec r.2).rounding = true ∧ ((t.work r.1).sec r.2).roundOn = ((s.work r.1).sec r.2).roundOn + 1 ∧
      ((t.work r.1).sec r.2).passes = (if ((s.work r.1).sec r.2).roundOn = 2 then 2 else 1) ∧ SameFields [] s t)) ∧
    (∀ (e : Fin 48) (j : Fin 72) (d : DiscInfo) (x : SecWork), (e.val, j.val) ∈ s.decoder.reeq → d = s.disc (s.work e).station → x =
      (s.work e).sec j → 1 < x.passes → Answers (.reequalizerPassDone e j) s (fun t => ((t.work e).sec j).passes = x.passes - 1 ∧
      ((t.work e).sec j).setting.coef = (imagePass { x.setting with eqSh := x.setting.eqSh - 2 } (if d.s4 then 1 else 4) (s.secLane
      (s.work e) j % 4) (if d.s4 then 46080 else 50176) (imageRows x.rows) true).2 ∧ t.decoder.reeq = s.decoder.reeq ∧ SameFields [] s
      t)) ∧
    (∀ (e : Fin 48) (j : Fin 72), (e.val, j.val) ∈ s.decoder.reeq → ((s.work e).sec j).passes = 1 → Answers (.reequalizerPassDone e j) s
      (fun t => (e.val, j.val) ∉ t.decoder.reeq)) ∧
    (∀ (e : Fin 48), s.outerDue e = true → Answers (.outerDecode e) s (fun t => (t.work e).outerBusy = true ∧ (∀ j : Fin 72, j.val <
      (s.disc (s.work e).station).perBlock → ((s.work e).sec j).st = .pinned → ((t.work e).sec j).st = .erased))) ∧
    (∀ (e : Fin 48) (j : Fin 72), (s.work e).active = true → (s.work e).outerBusy = true → (s.work e).rereading = false → j.val < (s.disc
      (s.work e).station).dataPerBlock → ((s.work e).sec j).st ≠ .confirmed → (∀ c ∈ outerColumns, (rsDecode (s.disc (s.work
      e).station).parityPerBlock ((List.range (s.disc (s.work e).station).perBlock).filter (fun i => ((s.work e).sec i).st !=
      .confirmed)) ((List.range (s.disc (s.work e).station).perBlock).map (fun i => ((s.work e).sec i).payload.getD c 0))).2 = true) →
      (s.entry e).readers = [] → (∀ w ∈ s.cipher.work, w.ready = false) → Answers (.outerDecodeDone e) s (fun t => ((t.entry e).sector
      j).st = .confirmed ∧ ((t.entry e).sector j).outcome = Outcome.outer ∧ (t.work e).outerBusy = false)) ∧
    (∀ (e : Fin 48), (s.work e).active = true → (s.work e).blank = none → (s.disc (s.work e).station).blankLimit ≤ (s.work e).blanks →
      (s.entry e).readers = [] → (∀ w ∈ s.cipher.work, w.ready = false) → Answers (.blockBlank e) s (fun t => (∀ j : Fin 72, j.val <
      (s.disc (s.work e).station).dataPerBlock → ((s.work e).sec j).st = .blankFrame → ((t.entry e).sector j).st = .blank))) ∧
    (∀ (e : Fin 48), s.needsReread e = true → (s.work e).noRetry = false → (s.work e).rereads < s.fld F.RCH_DEC_CFG_REREAD_MAX → Answers
      (.reread e) s (fun t => (t.work e).rereads = (s.work e).rereads + 1 ∧ (t.work e).rereading = true ∧ (∀ j : Fin 72, ((s.work e).sec
      j).st = .erased → ((t.work e).sec j).st = .expected) ∧ SameFields [] s t))

/-- R99, R111, R117, R119: the loop engine's writes and the end of a hold's extension. -/
def Obligations.LoopEngineCommandsComplete : Prop :=
  ∀ s : State,
    (∀ (value : Word), bitsOf value.toNat 0 10 ∈ [125, 200, 250, 400, 500, 625, 1000] → (∀ n : Fin 16, ∀ l : Fin 4, s.fld (loopModeFld n
      l) < 2) → Answers (.srvPeriodWrite value) s (fun t => t.fld F.SRV_PERIOD_P = bitsOf value.toNat 0 10)) ∧
    (∀ (value : Word), bitsOf value.toNat 0 10 ∉ [125, 200, 250, 400, 500, 625, 1000] → Answers (.srvPeriodWrite value) s (fun t =>
      t.flag F.SRV_PERIOD_REJECTED = true ∧ SameFields [F.SRV_PERIOD_REJECTED] s t)) ∧
    (∀ (n : Fin 16) (l : Fin 4) (value : Word), Answers (.sectEnWrite n l value) s (fun t => t.fld (F.SRV_LOOP_SECT_EN_EN n l) = bitsOf
      value.toNat 0 14 ∧ ((t.lp n).loop l).writes = ((s.lp n).loop l).writes ++ [(bitsOf value.toNat 0 14, if value.toNat.testBit 16 =
      true ∧ bitsOf value.toNat 20 4 < 14 ∧ bitsOf value.toNat 24 4 < 14 then some (bitsOf value.toNat 20 4, bitsOf value.toNat 24 4)
      else none)] ∧ SameFields [F.SRV_LOOP_SECT_EN_EN n l, F.SRV_LP_COST_FAST_NS n, F.SRV_LP_COST_SLED_NS n, F.SRV_LP_STATUS_COST_OVER n]
      s t)) ∧
    (∀ (n : Fin 16) (amp : BitVec 16), s.flag (F.SRV_INJ_CFG_ENABLE n) = false → Answers (.injEnable n amp) s (fun t => t.fld
      (F.SRV_INJ_CFG_AMP n) = amp.toNat ∧ t.flag (F.SRV_INJ_CFG_ENABLE n) = true ∧ (t.lp n).phase = 0 ∧ SameFields [F.SRV_INJ_CFG_AMP n,
      F.SRV_INJ_CFG_ENABLE n] s t)) ∧
    (∀ (n : Fin 16) (l : Fin 4), ((s.lp n).loop l).mode = 2 → ((s.lp n).loop l).holding = true → ((s.lp n).loop l).ext = 0 → (s.lp
      n).sample.defect = false → (s.lp n).low = false → Answers (.holdExtendEnd n l) s (fun t => (t.lp n).loop l =
      { (s.lp n).loop l with holding := false } ∧ (t.fld (F.SRV_LP_STATUS_HOLD n)).testBit l.val = false ∧ SameFields
      [F.SRV_LP_STATUS_HOLD n] s t))

/-- R72, R85, R98–R105, R122–R125, R561: the loop processors. -/
def Obligations.LoopProcessorCommandsComplete : Prop :=
  ∀ s : State,
    (∀ (inputs : List (List (List Nat))), Answers (.sampleInstant inputs) s (fun t => t.timebase = (s.timebase / s.fld F.SRV_PERIOD_P +
      1) * s.fld F.SRV_PERIOD_P ∧ t.fld F.SRV_SAMPLE_COUNT_COUNT = (s.fld F.SRV_SAMPLE_COUNT_COUNT + 1) % 2 ^
      F.SRV_SAMPLE_COUNT_COUNT.width ∧ (∀ n : Fin 16, s.slotPowered (n.val / 2) = true → (t.lp n).taken = true ∧ (t.lp n).sample.tb =
      t.timebase))) ∧
    (∀ (n : Fin 16) (ready : Fin 4), (s.lp n).outDone = false → (s.lp n).waiting = none → (s.lp n).busy = false → Answers (.outputInstant
      n ready) s (fun t => t = (((s.modLp n (fun p => { p with outDone := true })).sput (F.SRV_DAC_FT_FOC n) ((s.lp n).loop 0).code).sput
      (F.SRV_DAC_FT_TRK n) ((s.lp n).loop 1).code).sput (F.SRV_DAC_TLT_TLT n) ((s.lp n).loop 2).code)) ∧
    (∀ (n : Fin 16), (s.lp n).busy = true → (s.lp n).waiting = none → Answers (.loopComputationEnd n) s (fun t => t = s.modLp n (fun p =>
      { p with busy := false, sledDue := none, request := p.sledDue.getD p.request }))) ∧
    (∀ (n : Fin 16), 3 ≤ s.fld (F.SRV_LATE_RUN_LATE n) → s.flag (F.SRV_LP_STATUS_BELAY_LATE n) = false → s.puState n ≠ Pu.follow →
      s.puState n ≠ Pu.belay → Answers (.loopBelayLate n) s (fun t => t.flag (F.SRV_LP_STATUS_BELAY_LATE n) = true ∧ (t.fld
      (F.SRV_PU_STATE_BELAY_CAUSE n)).testBit belayLate = true ∧ t.events = (s.post 0x0202 (srcPickup n) [n.val]).events ∧ SameFields
      [F.SRV_LP_STATUS_BELAY_LATE n, F.SRV_PU_STATE_BELAY_CAUSE n] s t)) ∧
    (∀ (n : Fin 16), 4096 ≤ s.fld (F.SRV_LATE_RUN_ON_TIME n) → s.flag (F.SRV_LP_STATUS_BELAY_LATE n) = true → s.puState n ≠ Pu.follow →
      s.puState n ≠ Pu.belay → Answers (.loopOnTime n) s (fun t => t.flag (F.SRV_LP_STATUS_BELAY_LATE n) = false ∧ (t.fld
      (F.SRV_PU_STATE_BELAY_CAUSE n)).testBit belayLate = false ∧ t.events = (s.post 0x0203 (srcPickup n) [n.val]).events ∧ SameFields
      [F.SRV_LP_STATUS_BELAY_LATE n, F.SRV_PU_STATE_BELAY_CAUSE n] s t)) ∧
    (∀ (n : Fin 16), Answers (.traceArm n) s (fun t => t.fld (F.SRV_TRC_STATUS_STATE n) = 1 ∧ t.fld (F.SRV_TRC_STATUS_COUNT n) = 0 ∧
      (t.lp n).trace =
      { (s.lp n).trace with since := s.timebase, firedAt := none, pending := false, full := false, prev := none, postLeft := 0 } ∧
      SameFields [F.SRV_TRC_STATUS_STATE n, F.SRV_TRC_STATUS_COUNT n] s t)) ∧
    (∀ (n : Fin 16), (s.fld (F.SRV_TRC_STATUS_STATE n) = 1 ∨ s.fld (F.SRV_TRC_STATUS_STATE n) = 2) → Answers (.traceStop n) s (fun t => t
      = s.put (F.SRV_TRC_STATUS_STATE n) 0)) ∧
    (∀ (n : Fin 16), Answers (.traceFire n) s (fun t => t = s.modLp n (fun p =>
      { p with trace := { p.trace with firedAt := some s.timebase } }))) ∧
    (∀ (n : Fin 16), s.fld (F.SRV_TRC_STATUS_STATE n) = 2 → (s.lp n).trace.full = true → Answers (.traceDone n) s (fun t => t.fld
      (F.SRV_TRC_STATUS_STATE n) = 3 ∧ t.pair (F.SRV_TRC_TIME_LO_TIME n) (F.SRV_TRC_TIME_HI_TIME n) = (s.lp n).trace.time % 2 ^ 64 ∧
      t.flag (F.SRV_TRC_STATUS_DONE n) = true ∧ SameFields [F.SRV_TRC_STATUS_STATE n, F.SRV_TRC_TIME_LO_TIME n, F.SRV_TRC_TIME_HI_TIME n,
      F.SRV_TRC_STATUS_DONE n] s t)) ∧
    (∀ (mask : BitVec 16), Answers (.trcArm mask) s (fun t => (∀ n : Fin 16, mask.getLsbD n = true → t.fld (F.SRV_TRC_STATUS_STATE n) = 1
      ∧ t.fld (F.SRV_TRC_STATUS_COUNT n) = 0 ∧ (t.lp n).trace.since = s.timebase) ∧ (∀ n : Fin 16, mask.getLsbD n = false → t.fld
      (F.SRV_TRC_STATUS_STATE n) = s.fld (F.SRV_TRC_STATUS_STATE n) ∧ t.lp n = s.lp n))) ∧
    (∀ (mask : BitVec 16), Answers (.trcFire mask) s (fun t => (∀ n : Fin 16, mask.getLsbD n = true → s.fld (F.SRV_TRC_TRIG_SOURCE n) = 0
      → (t.lp n).trace.firedAt = some s.timebase) ∧ (∀ n : Fin 16, (mask.getLsbD n = false ∨ s.fld (F.SRV_TRC_TRIG_SOURCE n) ≠ 0) → t.lp
      n = s.lp n) ∧ SameFields [] s t)) ∧
    (∀ (n : Fin 16), 2 ≤ (s.lp n).fmdRun → (s.calRun n).proc = 0 → Answers (.laserOverpower n) s (fun t => t.flag
      (F.SRV_IF_STATUS_FMD_HIGH n) = true ∧ t.flag (F.SRV_LDD_CTRL_LDEN_REQ n) = false ∧ t.flag (F.SRV_LDD_STATUS_LDEN n) = false ∧
      SameFields [F.SRV_IF_STATUS_FMD_HIGH n, F.SRV_LDD_CTRL_LDEN_REQ n, F.SRV_LDD_STATUS_LDEN n] s t))

/-- R129–R146: the transitions of a pickup's states, where their conditions hold. -/
def Obligations.FocusAndTrackCommandsComplete : Prop :=
  ∀ s : State,
    (∀ (n : Fin 16) (a : BitVec 32) (passed : Nat), (s.pickup n).jumping = false → s.puState n = Pu.align → s.wanted n = none → psaSide
      a.toNat = n.val % 2 → psaLayer a.toNat = s.fld (F.SRV_PU_STATE_LAYER n) → psaSpiral a.toNat = 0 → s.fld (F.SRV_PU_STATE_BELAY_CAUSE
      n) = 0 → Answers (.addressDecoded n a passed) s (fun t => t.puState n = Pu.follow ∧ (t.pickup n).confirmed = some a.toNat ∧ t.fld
      (F.SRV_PU_STATE_B0_SPIRAL n) = 0)) ∧
    (∀ (n : Fin 16) (a : BitVec 32) (passed : Nat), (s.pickup n).jumping = false → s.puState n = Pu.follow → s.wanted n = none →
      (s.pickup n).addr = none → Answers (.addressDecoded n a passed) s (fun t => t = (s.put (F.SRV_PU_STATE_B0_SPIRAL n) (psaSpiral
      a.toNat)).modPickup n (fun y => { y with addr := some a.toNat, badAddr := 0, confirmed := some a.toNat }))) ∧
    (∀ (n : Fin 16), s.puState n = Pu.search → (s.pickup n).ramp = 2 → (s.pickup n).sweeps < 2 → Answers (.focusSweepEnd n) s (fun t => t
      = s.modPickup n (fun y => { y with sweeps := y.sweeps + 1, ramp := 3, rampAt := s.timebase }))) ∧
    (∀ (n : Fin 16), s.puState n = Pu.search → (s.pickup n).ramp = 2 → 2 ≤ (s.pickup n).sweeps → Answers (.focusSweepEnd n) s (fun t =>
      t.puState n = Pu.park)) ∧
    (∀ (n : Fin 16), s.puState n = Pu.focused → 256 ≤ (s.pickup n).feGood → s.flag (F.SPN_STATE_AT_SPEED (n.val / 2)) = true → Answers
      (.focusLock n) s (fun t => t.puState n = Pu.pullin)) ∧
    (∀ (n : Fin 16), s.puState n = Pu.focused → s.flag (F.SPN_STATE_AT_SPEED (n.val / 2)) = true → s.fld (F.SRV_PU_STATE_RECOVER_COUNT n)
      < s.fld (F.SRV_DEFECT_CFG_RECOVER_MAX n) → Answers (.focusedTimeout n) s (fun t => t.puState n = Pu.search ∧ t.fld
      (F.SRV_PU_STATE_RECOVER_COUNT n) = (s.fld (F.SRV_PU_STATE_RECOVER_COUNT n) + 1) % 2 ^ (F.SRV_PU_STATE_RECOVER_COUNT n).width)) ∧
    (∀ (n : Fin 16), s.puState n = Pu.pullin → (s.pickup n).captured = true → 256 ≤ (s.pickup n).teGood → Answers (.trackLock n) s (fun t
      => t.puState n = Pu.align)) ∧
    (∀ (n : Fin 16), s.puState n = Pu.pullin → s.fld (F.SRV_PU_STATE_RECOVER_COUNT n) < s.fld (F.SRV_DEFECT_CFG_RECOVER_MAX n) → Answers
      (.pullinTimeout n) s (fun t => t.puState n = Pu.search ∧ (t.pickup n).layer = (s.pickup n).layer)) ∧
    (∀ (n : Fin 16), s.puState n = Pu.align → s.fld (F.SRV_PU_STATE_RECOVER_COUNT n) < s.fld (F.SRV_DEFECT_CFG_RECOVER_MAX n) → Answers
      (.alignAddressTimeout n) s (fun t => t.puState n = Pu.pullin ∧ t.fld (F.SRV_PU_STATE_RECOVER_COUNT n) = (s.fld
      (F.SRV_PU_STATE_RECOVER_COUNT n) + 1) % 2 ^ (F.SRV_PU_STATE_RECOVER_COUNT n).width)) ∧
    (∀ (n : Fin 16), (s.pickup n).jumping = true → 2 * (s.pickup n).jumpTracks ≤ (s.pickup n).jumpCross → 16 ≤ (s.pickup n).teGood →
      s.puState n = Pu.tjump → Answers (.trackJumpDone n) s (fun t => t.puState n = Pu.align ∧ (t.pickup n).jumping = false)) ∧
    (∀ (n : Fin 16), (s.pickup n).jumping = true → s.puState n ≠ Pu.belay → (s.pickup n).gates = 0 → s.streaming n = false → (s.calRun
      n).proc = 0 → s.fld (F.SRV_PU_STATE_RECOVER_COUNT n) < s.fld (F.SRV_DEFECT_CFG_RECOVER_MAX n) → Answers (.trackJumpTimeout n) s
      (fun t => t.puState n = Pu.pullin ∧ t.flag (F.SRV_BAE_REV_TRACK_LOST n) = true ∧ (t.pickup n).recovering = true)) ∧
    (∀ (n : Fin 16), s.puState n = Pu.ljump → Answers (.layerJumpTimeout n) s (fun t => t.puState n = Pu.search ∧ (t.pickup n).layer =
      (s.pickup n).layer)) ∧
    (∀ (n : Fin 16), s.puState n = Pu.coarse → (s.motor n).phase = 0 → Answers (.coarseSettleEnd n) s (fun t => t.puState n = Pu.pullin)) ∧
    (∀ (n : Fin 16), focusClosed (s.puState n) = true → 0 < (s.pickup n).focLoss → s.fld (F.SRV_LOSS_CFG_LOST_N n) ≤ (s.pickup n).focLoss
      → (s.pickup n).gates = 0 → s.streaming n = false → (s.calRun n).proc = 0 → s.mayEmit n = true → s.fld (F.SRV_PU_STATE_RECOVER_COUNT
      n) < s.fld (F.SRV_DEFECT_CFG_RECOVER_MAX n) → Answers (.focusLost n) s (fun t => t.puState n = Pu.search ∧ t.flag
      (F.SRV_BAE_REV_FOCUS_LOST n) = true ∧ (t.pickup n).recovering = true)) ∧
    (∀ (n : Fin 16), (s.puState n = Pu.follow ∨ s.puState n = Pu.align) → 2 ≤ (s.pickup n).badAddr → (s.pickup n).gates = 0 → s.streaming
      n = false → (s.calRun n).proc = 0 → s.fld (F.SRV_PU_STATE_RECOVER_COUNT n) < s.fld (F.SRV_DEFECT_CFG_RECOVER_MAX n) → Answers
      (.trackLost n) s (fun t => t.puState n = Pu.pullin ∧ t.flag (F.SRV_BAE_REV_TRACK_LOST n) = true)) ∧
    (∀ (n : Fin 16), s.puState n = Pu.park → Answers (.parkRampEnd n) s (fun t => t.puState n = (if (s.pickup n).parkFault then Pu.fault
      else Pu.off) ∧ (t.pickup n).goal = none)) ∧
    (∀ (n : Fin 16), s.puState n = Pu.follow → Answers (.recoverCountClear n) s (fun t => t = s.put (F.SRV_PU_STATE_RECOVER_COUNT n) 0)) ∧
    (∀ (n : Fin 16), (s.pickup n).trigsOff = false → 0 < (s.pickup n).holdRun → s.fld (F.SRV_DEFECT_CFG_DEFECT_MAX n) ≤ (s.pickup
      n).holdRun → Answers (.defectLong n) s (fun t => (∀ l : Fin 4, t.flag (F.SRV_LOOP_HOLD_TRIG_DEFECT n l) = false ∧ t.flag
      (F.SRV_LOOP_HOLD_TRIG_LOWSUM n l) = false) ∧ t.flag (F.SRV_BAE_REV_DEFECT_LONG n) = true ∧ (t.pickup n).trigsOff = true)) ∧
    (∀ (n : Fin 16), (s.pickup n).trigsOff = true → 64 ≤ (s.pickup n).clean → Answers (.defectTriggersRestore n) s (fun t => (∀ l : Fin
      3, t.flag (F.SRV_LOOP_HOLD_TRIG_DEFECT n l) = true ∧ t.flag (F.SRV_LOOP_HOLD_TRIG_LOWSUM n l) = true) ∧ (t.pickup n).trigsOff =
      false)) ∧
    (∀ (n : Fin 16), s.puState n = Pu.belay → s.flag (F.SPN_STATE_AT_SPEED (n.val / 2)) = true → (s.pickup n).pullWait = false →
      s.procDown n = false → (s.pickup n).jumping = false → Answers (.revolutionReference n) s (fun t => t.puState n = Pu.belay ∧
      (t.pickup n).jumping = true ∧ (t.pickup n).jumpTracks = (s.disc (n.val / 2)).tracksPerRev ∧ (t.pickup n).jumpOut = (s.disc (n.val /
      2)).falls (s.fld (F.SRV_PU_STATE_LAYER n)))) ∧
    (∀ (n : Fin 16), (s.pickup n).baeBarred = true → 16 ≤ (s.pickup n).baeGood → Answers (.baeGatesReopen n) s (fun t => t = s.modPickup
      n (fun y => { y with baeBarred := false }))) ∧
    (∀ (n : Fin 16), s.puState n ≠ Pu.follow → s.puState n ≠ Pu.belay → Answers (.belayReqSet n) s (fun t => t.flag
      (F.SRV_PU_CTRL_BELAY_REQ n) = true ∧ (t.fld (F.SRV_PU_STATE_BELAY_CAUSE n)).testBit belayHost = true ∧ SameFields
      [F.SRV_PU_CTRL_BELAY_REQ n, F.SRV_PU_STATE_BELAY_CAUSE n] s t)) ∧
    (∀ (n : Fin 16), s.puState n = Pu.follow → (s.calRun n).proc = 0 → (s.pickup n).gates = 0 → s.streaming n = false → Answers
      (.belayReqSet n) s (fun t => t.puState n = Pu.belay ∧ t.flag (F.SRV_PU_CTRL_BELAY_REQ n) = true ∧ (t.fld
      (F.SRV_PU_STATE_BELAY_CAUSE n)).testBit belayHost = true)) ∧
    (∀ (n : Fin 16), s.puState n = Pu.belay → (s.pickup n).pullWait = false → s.fld (F.SRV_PU_STATE_BELAY_CAUSE n) = 2 ^ belayHost →
      Answers (.belayReqClear n) s (fun t => t.puState n = Pu.follow ∧ t.flag (F.SRV_PU_CTRL_BELAY_REQ n) = false ∧ t.fld
      (F.SRV_PU_STATE_BELAY_CAUSE n) = 0))

/-- R86, R91–R95, R283, R284: the laser-driver link. -/
def Obligations.LaserDriverLinkCommandsComplete : Prop :=
  ∀ s : State,
    (∀ (n : Fin 16), s.flag (F.SRV_LDD_STATUS_LINK_UP n) = false → (s.pickup n).lddTry = false → s.slotPowered (n.val / 2) = true →
      Answers (.lddLinkEnable n) s (fun t => t.flag (F.SRV_LDD_CTRL_LINK_EN n) = true ∧ (t.pickup n).lddTry = true ∧ t.sent = s.sent ++
      [.ldd n.val 0x00 []] ∧ SameFields [F.SRV_LDD_CTRL_LINK_EN n] s t)) ∧
    (∀ (n : Fin 16) (frame : List Byte), s.slotPowered (n.val / 2) = true → s.flag (F.SRV_LDD_CTRL_LINK_EN n) = true → frame.length = 19
      → frame.head? = some 0x80#8 → crc16 ((frame.map BitVec.toNat).take 17) = ofLeBytes ((frame.map BitVec.toNat).drop 17) → (s.pickup
      n).gates = 0 → (s.puRec n).selWant = none → Answers (.lddStatusFrame n frame) s (fun t => (t.pickup n).lddGood = (s.pickup
      n).lddGood + 1 ∧ (t.pickup n).lddBad = 0 ∧ t.fld (F.SRV_LDD_STATUS_FIFO_LEVEL n) = (frame.map BitVec.toNat).getD 2 0 ∧ t.fld
      (F.SRV_LDD_STATUS_DISCARDS n) = ofLeBytes (((frame.map BitVec.toNat).drop 3).take 2) ∧ SameFields [F.SRV_LDD_STATUS_BANK n,
      F.SRV_LDD_STATUS_FIFO_LEVEL n, F.SRV_LDD_STATUS_DISCARDS n] s t)) ∧
    (∀ (n : Fin 16) (frame : List Byte), s.slotPowered (n.val / 2) = true → s.flag (F.SRV_LDD_CTRL_LINK_EN n) = true → frame.length ≠ 19
      → Answers (.lddStatusFrame n frame) s (fun t => t = s.modPickup n (fun y => { y with lddGood := 0, lddBad := y.lddBad + 1 }))) ∧
    (∀ (n : Fin 16), (s.pickup n).lddTry = true → 16 ≤ (s.pickup n).lddGood → Answers (.lddLinkUp n) s (fun t => t.flag
      (F.SRV_LDD_STATUS_LINK_UP n) = true ∧ (t.pickup n).lddTry = false ∧ .ldd n.val 0x02 (leBytes 2 Driver.mode ++ leBytes 4 1) ∈ t.sent
      ∧ SameFields [F.SRV_LDD_STATUS_LINK_UP n, F.SRV_LDD_STATUS_LDEN n] s t)) ∧
    (∀ (n : Fin 16), s.flag (F.SRV_LDD_STATUS_LINK_UP n) = true → 8 ≤ (s.pickup n).lddBad → (s.pickup n).gates = 0 → s.streaming n =
      false → s.flag (F.SRV_LDD_CTRL_LINK_EN n) = true → s.slotPowered (n.val / 2) = true → Answers (.lddBadFrames n) s (fun t => t.flag
      (F.SRV_LDD_STATUS_LINK_UP n) = false ∧ t.flag (F.SRV_IF_STATUS_LDD_DOWN n) = true ∧ t.flag (F.SRV_LDD_STATUS_LDEN n) = false ∧
      (t.pickup n).lddTry = true ∧ SameFields [F.SRV_LDD_STATUS_LINK_UP n, F.SRV_IF_STATUS_LDD_DOWN n, F.SRV_LDD_STATUS_LDEN n] s t)) ∧
    (∀ (n : Fin 16), s.flag (F.SRV_LDD_STATUS_LINK_UP n) = true → (s.pickup n).gates = 0 → s.streaming n = false → s.flag
      (F.SRV_LDD_CTRL_LINK_EN n) = true → s.slotPowered (n.val / 2) = true → Answers (.lddStatusTimeout n) s (fun t => t.flag
      (F.SRV_LDD_STATUS_LINK_UP n) = false ∧ t.flag (F.SRV_IF_STATUS_LDD_DOWN n) = true ∧ t.flag (F.SRV_LDD_STATUS_LDEN n) = false ∧
      (t.pickup n).lddTry = true ∧ SameFields [F.SRV_LDD_STATUS_LINK_UP n, F.SRV_IF_STATUS_LDD_DOWN n, F.SRV_LDD_STATUS_LDEN n] s t)) ∧
    (∀ (n : Fin 16) (layer : Fin 8) (crc1 crc2 : BitVec 32), s.flag (F.SRV_LDD_STATUS_LINK_UP n) = true → Table.at [] (s.puRec n).calPw
      layer.val ≠ [] → crc1.toNat = crc32c (s.buildBank n layer.val) → (s.pickup n).gates ≠ 0 → Answers (.lddTableLoad n layer crc1 crc2)
      s (fun t => t.flag (tableOk n.val (1 - s.fld (F.SRV_LDD_STATUS_BANK n))) = true ∧ (t.puRec n).selWant = some (1 - s.fld
      (F.SRV_LDD_STATUS_BANK n)) ∧ (Table.at {} (t.puRec n).banks (1 - s.fld (F.SRV_LDD_STATUS_BANK n))).held = true ∧ SameFields
      [tableOk n.val (1 - s.fld (F.SRV_LDD_STATUS_BANK n))] s t))

/-- R182–R203: the motion block's motors, their writes, stops, homing, inputs and ticks. -/
def Obligations.MotorCommandsComplete : Prop :=
  ∀ s : State,
    (∀ (m : Fin 12) (phase : Nat) (v d : Rat), (s.motor (16 + m.val)).phase ≠ 0 → s.movingGroup m.val = none → s.homeState m.val =
      Home.idle → s.flag (F.MOT_AX_CFG_ENC_EN m) = false → (s.motor (16 + m.val)).seeking = false → (s.motor (16 + m.val)).vmax = none →
      profileStep (s.fld (F.MOT_VMAX_VMAX (16 + m.val)) : Rat) (s.fld (F.MOT_ACC_ACC (16 + m.val)) : Rat) ((s.motor (16 + m.val)).dec :
      Rat) (s.fld (F.MOT_VMIN_VMIN (16 + m.val)) : Rat) (ofUnits ((posDist (s.motor (16 + m.val)).pos (s.motor (16 +
      m.val)).target).natAbs : Int)) (s.motor (16 + m.val)).stopping (s.motor (16 + m.val)).phase (s.motor (16 + m.val)).v = (phase, v,
      d) → d < ofUnits ((posDist (s.motor (16 + m.val)).pos (s.motor (16 + m.val)).target).natAbs : Int) → Answers (.profileTick) s (fun
      t => (t.motor (16 + m.val)).phase = phase ∧ (t.motor (16 + m.val)).v = v ∧ (t.motor (16 + m.val)).pos = wrapPos ((s.motor (16 +
      m.val)).pos + (s.motor (16 + m.val)).dir * toUnits d))) ∧
    (∀ (x : Fin 28), s.mayStart x (s.sfld (F.MOT_TARGET_TARGET x)) = true → posDist (s.motor x).pos (s.sfld (F.MOT_TARGET_TARGET x) *
      stepUnit) ≠ 0 → Answers (.motorStart x) s (fun t => (t.motor x).phase = 1 ∧ (t.motor x).v = 0 ∧ (t.motor x).target = s.sfld
      (F.MOT_TARGET_TARGET x) * stepUnit ∧ (t.motor x).dir = (if 0 ≤ posDist (s.motor x).pos (s.sfld (F.MOT_TARGET_TARGET x) * stepUnit)
      then 1 else -1) ∧ SameFields [F.MOT_POS_POS x, F.MOT_STATUS_PHASE x] s t)) ∧
    (∀ (x : Fin 28), s.mayStart x (s.sfld (F.MOT_TARGET_TARGET x)) = false → Answers (.motorStart x) s (fun t => t = s.put
      (F.MOT_STATUS_REJECTED x) 1)) ∧
    (∀ (x : Fin 28), (16 ≤ x.val → s.movingGroup (x.val - 16) = none) → (s.motor x).phase ≠ 0 → Answers (.motorRappel x) s (fun t =>
      (t.motor x).phase = 3 ∧ (t.motor x).stopping = true ∧ (t.motor x).dec = s.fld (F.MOT_DEC_DEC x))) ∧
    (∀ (x : Fin 28), (16 ≤ x.val → s.movingGroup (x.val - 16) = none) → (s.motor x).phase ≠ 0 → Answers (.motorEmergency x) s (fun t =>
      (t.motor x).phase = 3 ∧ (t.motor x).stopping = true ∧ (t.motor x).dec = s.fld (F.MOT_EDEC_EDEC x))) ∧
    (∀ (m : Fin 12), s.homeState m = Home.idle → (s.motor (16 + m.val)).phase = 0 → s.movingGroup m = none → s.flag (F.MOT_STATUS_LIMIT
      (16 + m.val)) = false → s.flag F.MOT_ESTOP_ACTIVE = false → Answers (.motorHome m) s (fun t => t.homeState m = Home.seek ∧ (t.motor
      (16 + m.val)).seeking = true ∧ (t.motor (16 + m.val)).dir = s.homeDir m ∧ (t.motor (16 + m.val)).vmax = some (s.fld
      (F.MOT_HOME_VFAST_V m)))) ∧
    (∀ (x : Fin 28) (value : Word), (s.motor x).phase = 0 → Answers (.motorTargetWrite x value) s (fun t => t = s.put
      (F.MOT_TARGET_TARGET x) value.toNat)) ∧
    (∀ (x : Fin 28) (value : Word), 16 ≤ x.val → (s.motor x).phase = 1 → (s.motor x).stopping = false → (s.motor x).seeking = false → 0 ≤
      (s.motor x).dir * posDist (s.motor x).pos (value.toInt * stepUnit) → (s.motor x).room (s.motor x).dec ≤ ofUnits ((s.motor x).dir *
      posDist (s.motor x).pos (value.toInt * stepUnit)) → Answers (.motorTargetWrite x value) s (fun t => t.fld (F.MOT_TARGET_TARGET x) =
      value.toNat ∧ (t.motor x).target = value.toInt * stepUnit ∧ SameFields [F.MOT_TARGET_TARGET x] s t)) ∧
    (∀ (x : Fin 28) (acc : Bool) (value : Word), Answers (.motorSpeedWrite x acc value) s (fun t => t.fld (if acc then F.MOT_ACC_ACC x
      else F.MOT_VMAX_VMAX x) = value.toNat % 2 ^ (if acc then F.MOT_ACC_ACC x else F.MOT_VMAX_VMAX x).width ∧ (t.motor x).pos = (s.motor
      x).pos)) ∧
    (∀ (x : Fin 28) (value : Word), (s.motor x).phase = 0 → Answers (.motorDecWrite x value) s (fun t => t = s.put (F.MOT_DEC_DEC x)
      value.toNat)) ∧
    (∀ (x : Fin 28) (value : Word), (s.motor x).phase = 0 → (x.val < 16 → s.flag (F.MOT_GEAR_CTRL_ENGAGE x) = false) → (16 ≤ x.val →
      s.movingGroup (x.val - 16) = none) → Answers (.motorPosSet x value) s (fun t => (t.motor x).pos = value.toInt * stepUnit ∧ t.fld
      (F.MOT_POS_POS x) = value.toNat ∧ SameFields [F.MOT_POS_POS x, F.MOT_STATUS_PHASE x] s t)) ∧
    (∀ (x : Fin 16) (on : Bool), (s.motor x).phase = 0 → Answers (.gearEngage x on) s (fun t => t.flag (F.MOT_GEAR_CTRL_ENGAGE x) = on ∧
      SameFields [F.MOT_GEAR_CTRL_ENGAGE x] s t)) ∧
    (∀ (x : Fin 16), (s.spindle (x.val / 2)).master < s.gearAt x → Answers (.gearArm x) s (fun t => t.flag (F.MOT_GEAR_CTRL_PENDING x) =
      true ∧ (t.motor x).reached = false ∧ SameFields [F.MOT_GEAR_CTRL_PENDING x] s t)) ∧
    (∀ (x : Fin 16), s.flag (F.MOT_GEAR_CTRL_PENDING x) = true → (s.motor x).reached = true → Answers (.gearChange x) s (fun t => t.fld
      (F.MOT_GEAR_RATIO_RATIO x) = s.fld (F.MOT_GEAR_NEXT_NEXT x) % 2 ^ (F.MOT_GEAR_RATIO_RATIO x).width ∧ t.flag
      (F.MOT_GEAR_CTRL_PENDING x) = false ∧ (t.motor x).lag = 0)) ∧
    (∀ (m : Fin 12), s.homeState m = Home.fault → Answers (.homeFaultClear m) s (fun t => t.flag (F.MOT_STATUS_HOME_FAULT (16 + m.val)) =
      false ∧ t.homeState m = Home.idle ∧ SameFields [F.MOT_STATUS_HOME_FAULT (16 + m.val), F.MOT_STATUS_HOME_STATE (16 + m.val)] s t)) ∧
    (∀ (m : Fin 12) (positive : Bool) (edge : Int), Answers (.limitQualified m positive false edge) s (fun t => t = s.put (if positive
      then F.MOT_INPUTS_LIMP m else F.MOT_INPUTS_LIMN m) 0)) ∧
    (∀ (m : Fin 12) (edge : Int), s.homeState m = Home.idle → s.movingGroup m = none → (s.motor (16 + m.val)).phase ≠ 0 → 0 < (s.motor
      (16 + m.val)).dir → Answers (.limitQualified m true true edge) s (fun t => t.flag (F.MOT_INPUTS_LIMP m) = true ∧ t.flag
      (F.MOT_STATUS_LIMIT (16 + m.val)) = true ∧ (t.motor (16 + m.val)).stopping = true ∧ (t.motor (16 + m.val)).dec = s.fld
      (F.MOT_EDEC_EDEC (16 + m.val)) ∧ (t.motor (16 + m.val)).fault = true)) ∧
    (∀ (m : Fin 12) (edge : Int), s.flag (F.MOT_AX_CFG_HOME_ON_LIMIT m) = false → s.homeState m = Home.seek → (s.motor (16 +
      m.val)).phase ≠ 0 → Answers (.homeQualified m true edge) s (fun t => t.flag (F.MOT_INPUTS_HOME m) = true ∧ t.homeState m =
      Home.stopping ∧ t.fld (F.MOT_CAPTURE_POS m) = ofSigned 32 edge ∧ (t.motor (16 + m.val)).stopping = true)) ∧
    (∀ (m : Fin 12), Answers (.encoderEdge m .up) s (fun t => t = s.sput (F.MOT_ENC_COUNT m) (s.sfld (F.MOT_ENC_COUNT m) + 1))) ∧
    (∀ (m : Fin 12), Answers (.encoderEdge m .both) s (fun t => t.flag (F.MOT_STATUS_ENC_ERR (16 + m.val)) = true ∧ SameFields
      [F.MOT_STATUS_ENC_ERR (16 + m.val)] s t)) ∧
    (∀ (x : Fin 16), (s.motor x).phase = 0 → s.flag (F.MOT_GEAR_CTRL_ENGAGE x) = false → Answers (.sledStandstill x) s (fun t => t =
      s.setMotor x { s.motor x with reduced := true })) ∧
    (∀ (m : Fin 12), (s.motor (16 + m.val)).phase = 0 → s.movingGroup m = none → Answers (.axisHoldReduce m) s (fun t => t = s.setMotor
      (16 + m.val) { s.motor (16 + m.val) with reduced := true }))

/-- R193–R205, R381, R388: groups, MOT_ESTOP, MOVE and L_SEGMENT. -/
def Obligations.GroupAndMoveCommandsComplete : Prop :=
  ∀ s : State,
    (∀ (g : Fin 3) (members : BitVec 32), members.toNat % 65536 < 4096 → popCount 12 (members.toNat % 65536) ≤ 4 → (∀ k : Fin 3, k ≠ g →
      s.fld (F.MOT_GRP_CTRL_MEMBERS k) &&& (members.toNat % 65536) = 0) → Answers (.groupMembersWrite g members) s (fun t => t = s.put
      (F.MOT_GRP_CTRL_MEMBERS g) (members.toNat % 65536))) ∧
    (∀ (g : Fin 3) (members : BitVec 32), 4 < popCount 12 (members.toNat % 65536) → Answers (.groupMembersWrite g members) s (fun t => t
      = s.put (F.MOT_GRP_STATUS_REJECTED g) 1)) ∧
    (∀ (g : Fin 3) (ms : List Nat), ms = setBits 12 (s.fld (F.MOT_GRP_CTRL_MEMBERS g)) → (s.group g).busy = false → s.flag
      F.MOT_ESTOP_ACTIVE = false → (∀ m ∈ ms, (s.motor (16 + m)).phase = 0 ∧ s.flag (F.MOT_STATUS_LIMIT (16 + m)) = false ∧ s.homeState m
      = Home.idle ∧ s.flag (F.MOT_INPUTS_LIMP m) = false ∧ s.flag (F.MOT_INPUTS_LIMN m) = false) → lineLen (ms.map (fun m => posDist
      (s.motor (16 + m)).pos (s.sfld (F.MOT_TARGET_TARGET (16 + m)) * stepUnit))) ≠ 0 → Answers (.groupStart g) s (fun t => (t.group
      g).phase = 1 ∧ (t.group g).members = ms ∧ (t.group g).deltas = ms.map (fun m => posDist (s.motor (16 + m)).pos (s.sfld
      (F.MOT_TARGET_TARGET (16 + m)) * stepUnit)) ∧ (t.group g).feed = none ∧ (t.group g).v = 0 ∧ SameFields [] s t)) ∧
    (∀ (g : Fin 3), (s.group g).phase ≠ 0 → Answers (.groupRappel g) s (fun t => (t.group g).phase = 3 ∧ (t.group g).queue = [] ∧ t.fld
      (F.MOT_GRP_STATUS_QLEVEL g) = 0 ∧ (t.group g).stopDec.isSome = true ∧ SameFields [F.MOT_GRP_STATUS_QLEVEL g] s t)) ∧
    (Answers (.estopAll) s (fun t => t.flag F.MOT_ESTOP_ACTIVE = true ∧ (∀ m : Fin 12, s.movingGroup m.val = none → (s.motor (16 +
      m.val)).phase ≠ 0 → (t.motor (16 + m.val)).stopping = true ∧ (t.motor (16 + m.val)).dec = s.fld (F.MOT_EDEC_EDEC (16 + m.val))) ∧
      (∀ g : Fin 3, (t.group g).queue = [] ∧ ((s.group g).phase ≠ 0 → (t.group g).phase = 3)))) ∧
    ((∀ m : Fin 12, (s.motor (16 + m.val)).phase = 0) → (∀ g : Fin 3, (s.group g).phase = 0) → Answers (.estopClear) s (fun t => t =
      s.put F.MOT_ESTOP_ACTIVE 0)) ∧
    (∀ (h x : Nat) (c : Cmd), s.cmd? h = some c → s.moveReady h 0 = true → x = 16 + c.id.moveIndex % 12 → s.mayStart x (toSigned 32
      (c.id.moveTarget 0 % 2 ^ 32)) = true → posDist (s.motor x).pos (toSigned 32 (c.id.moveTarget 0 % 2 ^ 32) * stepUnit) ≠ 0 → Answers
      (.moveAxis h) s (fun t => (t.motor x).phase = 1 ∧ (t.motor x).cmd = some h ∧ (t.motor x).target = toSigned 32 (c.id.moveTarget 0 %
      2 ^ 32) * stepUnit ∧ (t.cmd h).started = true)) ∧
    (∀ (h g : Nat) (c : Cmd) (ms : List Nat), s.cmd? h = some c → s.moveReady h 1 = true → g = c.id.moveIndex % 3 → ms = setBits 12
      (s.fld (F.MOT_GRP_CTRL_MEMBERS g)) → (s.group g).busy = false → s.flag F.MOT_ESTOP_ACTIVE = false → (∀ m ∈ ms, (s.motor (16 +
      m)).phase = 0 ∧ s.flag (F.MOT_STATUS_LIMIT (16 + m)) = false ∧ s.homeState m = Home.idle ∧ s.flag (F.MOT_INPUTS_LIMP m) = false ∧
      s.flag (F.MOT_INPUTS_LIMN m) = false) → lineLen (((List.range ms.length).zip ms).map (fun e => posDist (s.motor (16 + e.2)).pos
      (toSigned 32 (c.id.moveTarget e.1 % 2 ^ 32) * stepUnit))) ≠ 0 → Answers (.moveGroup h) s (fun t => (t.group g).phase = 1 ∧ (t.group
      g).members = ms ∧ (t.group g).cmd = some h ∧ (t.cmd h).started = true)) ∧
    (∀ (h m : Nat) (c : Cmd), s.cmd? h = some c → s.moveReady h 2 = true → m = c.id.moveIndex % 12 → s.homeState m = Home.idle → (s.motor
      (16 + m)).phase = 0 → s.movingGroup m = none → s.flag (F.MOT_STATUS_LIMIT (16 + m)) = false → s.flag F.MOT_ESTOP_ACTIVE = false →
      Answers (.moveHoming h) s (fun t => t.homeState m = Home.seek ∧ (t.motor (16 + m)).cmd = some h ∧ (t.cmd h).started = true)) ∧
    (∀ (h m : Nat) (c : Cmd), s.cmd? h = some c → s.moveReady h 3 = true → m = c.id.moveIndex % 12 → s.movingGroup m = none → (s.motor
      (16 + m)).phase ≠ 0 → Answers (.moveRappel h) s (fun t => (t.motor (16 + m)).stopping = true ∧ (t.motor (16 + m)).phase = 3 ∧
      (t.motor (16 + m)).cmd = some h ∧ (t.cmd h).started = true)) ∧
    (∀ (h : Nat) (c : Cmd), s.cmd? h = some c → c.op = Op.lSegment → c.phase = .admitted → c.started = false → c.mute = false → popCount
      12 (s.fld (F.MOT_GRP_CTRL_MEMBERS c.id.segGroup)) = c.id.body.getD 0 0 → (s.group c.id.segGroup).queue.length < 64 → (∀ e ∈
      s.allCmds, e.2.op = Op.lSegment → e.1 = h) → Answers (.lSegment h) s (fun t => (t.cmd h).phase = .ended ∧ (t.cmd h).res.status =
      Status.success ∧ (t.group c.id.segGroup).queue.length = (s.group c.id.segGroup).queue.length + 1 ∧ ((t.group
      c.id.segGroup).queue.getLast?.map Segment.feed) = some (leField c.id.body 2 4)))

/-- R153–R169: the spindle's start, its crossings and its commutation, where the rows' conditions hold. -/
def Obligations.SpindleStartsAndCrossingsComplete : Prop :=
  ∀ s : State,
    (∀ (st : Fin 8), s.spnState st = Spn.off → s.flag (F.SPN_CTRL_RUN st) = false → s.flag (F.SPN_STATUS_CHOP_FAULT st) = false → 1600 ≤
      (s.spindle st).busCode → Answers (.spindleRunSet st) s (fun t => t.flag (F.SPN_CTRL_RUN st) = true ∧ t.spnState st = Spn.probe ∧
      (t.spindle st).bridge = .off ∧ t.fld (F.SPN_STATE_ATTEMPTS st) = 0 ∧ SameFields [F.SPN_CTRL_RUN st, F.SPN_STATE_STATE st,
      F.SPN_STATE_ATTEMPTS st, F.SPN_STATE_AT_SPEED st, F.SPN_STATE_ANGLE_VALID st, F.SPN_STATE_SPEED st] s t)) ∧
    (∀ (st : Fin 8), s.spnState st = Spn.off → s.flag (F.SPN_CTRL_RUN st) = false → (s.flag (F.SPN_STATUS_CHOP_FAULT st) = true ∨
      (s.spindle st).busCode < 1600) → Answers (.spindleRunSet st) s (fun t => t.spnState st = Spn.fault ∧ t.flag
      (F.SPN_STATUS_START_FAIL st) = true)) ∧
    (∀ (st : Fin 8), s.spnState st = Spn.run → s.flag (F.SPN_STATE_ANGLE_VALID st) = true → s.flag (F.SPN_STATUS_CHOP_FAULT st) = false →
      Answers (.spindleRunClear st) s (fun t => t.flag (F.SPN_CTRL_RUN st) = false ∧ t.spnState st = Spn.rappel ∧ (t.spindle st).bridge =
      .regenerative ∧ (t.spindle st).ref = (s.spnSpeed st : Rat))) ∧
    (∀ (st : Fin 8), (s.spnState st = Spn.probe ∨ s.spnState st = Spn.slowing ∨ s.spnState st = Spn.hfi ∨ s.spnState st = Spn.align ∨
      s.spnState st = Spn.ramp ∨ s.spnState st = Spn.catch_) → Answers (.spindleRunClear st) s (fun t => t.spnState st = Spn.rappel ∧
      (t.spindle st).bridge = .short)) ∧
    (∀ (st : Fin 8), s.spnState st = Spn.fault → s.flag (F.SPN_STATUS_START_FAIL st) = false → s.flag (F.SPN_STATUS_CHOP_FAULT st) =
      false → Answers (.spindleRunClear st) s (fun t => t.spnState st = Spn.off ∧ (t.spindle st).bridge = .off)) ∧
    (∀ (st : Fin 8) (value : Word), (value.toNat % 2 ^ 14 < 600 ∨ 10000 < value.toNat % 2 ^ 14) → Answers (.spindleTargetWrite st value)
      s (fun t => t = s.put (F.SPN_STATUS_TARGET_REJECTED st) 1)) ∧
    (∀ (st : Fin 8) (value : Word), 600 ≤ value.toNat % 2 ^ 14 → value.toNat % 2 ^ 14 ≤ 10000 → Answers (.spindleTargetWrite st value) s
      (fun t => t.fld (F.SPN_TARGET_RPM st) = value.toNat % 2 ^ 14 ∧ (t.flag (F.SPN_STATE_AT_SPEED st) = (s.flag (F.SPN_STATE_AT_SPEED
      st) && decide (50 * (max (s.spnSpeed st) (value.toNat % 2 ^ 14) - min (s.spnSpeed st) (value.toNat % 2 ^ 14)) ≤ value.toNat % 2 ^
      14))) ∧ SameFields [F.SPN_TARGET_RPM st, F.SPN_STATE_AT_SPEED st] s t)) ∧
    (∀ (st : Fin 8), s.spnState st = Spn.probe → 600 ≤ s.spnSpeed st → Answers (.probeTimeout st) s (fun t => t.spnState st = Spn.catch_
      ∧ (t.spindle st).bridge = .off ∧ SameFields [F.SPN_STATE_STATE st, F.SPN_STATE_AT_SPEED st, F.SPN_STATE_ANGLE_VALID st] s t)) ∧
    (∀ (st : Fin 8), s.spnState st = Spn.probe → 60 ≤ s.spnSpeed st → s.spnSpeed st < 600 → Answers (.probeTimeout st) s (fun t =>
      t.spnState st = Spn.slowing ∧ (t.spindle st).bridge = .short ∧ SameFields [F.SPN_STATE_STATE st, F.SPN_STATE_AT_SPEED st,
      F.SPN_STATE_ANGLE_VALID st] s t)) ∧
    (∀ (st : Fin 8), s.spnState st = Spn.probe → s.spnSpeed st < 60 → Answers (.probeTimeout st) s (fun t => t.spnState st = (if s.fld
      (F.SPN_CTRL_START_MODE st) = 2 then Spn.align else Spn.hfi) ∧ (t.spindle st).bridge = (if s.fld (F.SPN_CTRL_START_MODE st) = 2 then
      .fixed else .injection) ∧ SameFields [F.SPN_STATE_STATE st, F.SPN_STATE_AT_SPEED st, F.SPN_STATE_ANGLE_VALID st] s t)) ∧
    (∀ (st : Fin 8) (q : Byte) (step : Fin 6), s.spnState st = Spn.hfi → s.fld (F.SPN_HFI_Q_MIN st) ≤ q.toNat → Answers (.hfiDone st q
      step) s (fun t => t.spnState st = Spn.ramp ∧ t.fld (F.SPN_HFI_Q_Q st) = q.toNat ∧ (t.spindle st).bridge = .sixStep ∧ (t.spindle
      st).ramp = 60 ∧ (t.spindle st).step = step.val)) ∧
    (∀ (st : Fin 8) (q : Byte) (step : Fin 6), s.spnState st = Spn.hfi → q.toNat < s.fld (F.SPN_HFI_Q_MIN st) → s.fld
      (F.SPN_CTRL_START_MODE st) ≠ 1 → Answers (.hfiDone st q step) s (fun t => t.spnState st = Spn.align ∧ t.fld (F.SPN_HFI_Q_Q st) =
      q.toNat ∧ (t.spindle st).bridge = .fixed)) ∧
    (∀ (st : Fin 8) (q : Byte) (step : Fin 6), s.spnState st = Spn.hfi → q.toNat < s.fld (F.SPN_HFI_Q_MIN st) → s.fld
      (F.SPN_CTRL_START_MODE st) = 1 → Answers (.hfiDone st q step) s (fun t => t.spnState st = (if s.fld (F.SPN_STATE_ATTEMPTS st) < 2
      then Spn.slowing else Spn.fault) ∧ t.flag (F.SPN_STATUS_START_FAIL st) = (s.flag (F.SPN_STATUS_START_FAIL st) || decide (2 ≤ s.fld
      (F.SPN_STATE_ATTEMPTS st))) ∧ t.fld (F.SPN_STATE_ATTEMPTS st) = min 3 (s.fld (F.SPN_STATE_ATTEMPTS st) + 1))) ∧
    (∀ (st : Fin 8), s.spnState st = Spn.align → Answers (.alignElapsed st) s (fun t => t.spnState st = Spn.ramp ∧ (t.spindle st).bridge
      = .sixStep ∧ (t.spindle st).ramp = 0 ∧ (t.spindle st).step = 0)) ∧
    (∀ (st : Fin 8) (elapsed : Nat) (duty : Rat), (s.spindle st).bridge = .sixStep → s.spnState st = Spn.run → Answers
      (.spindleCommutation st elapsed duty) s (fun t => t = s.setSpindle st { s.spindle st with step := ((s.spindle st).step + 1) % 6 })) ∧
    (∀ (st : Fin 8) (elapsed : Nat) (duty : Rat), (s.spindle st).bridge = .sixStep → s.spnState st = Spn.ramp → (s.spindle st).ramp +
      (s.fld (F.SPN_RAMP_RAMP_ACC st) : Rat) * (elapsed : Rat) / 100000000 < 900 → Answers (.spindleCommutation st elapsed duty) s (fun t
      => (t.spindle st).step = ((s.spindle st).step + 1) % 6 ∧ (t.spindle st).ramp = (s.spindle st).ramp + (s.fld (F.SPN_RAMP_RAMP_ACC
      st) : Rat) * (elapsed : Rat) / 100000000 ∧ (t.spindle st).duty = duty ∧ SameFields [] s t)) ∧
    (∀ (st : Fin 8) (interval after : Nat) (emf : Rat), s.spnState st = Spn.run → (s.spindle st).intervals.length < 6 → Answers
      (.spindleZeroCrossing st interval after emf) s (fun t => t.spnState st = Spn.run ∧ t.spnSpeed st = min 65535 (rpmOf ((10 * interval
      / ((s.spindle st).missed + 1)) :: (s.spindle st).intervals)) ∧ (t.spindle st).k = ((s.spindle st).k + 1) % 24 ∧ (t.spindle
      st).missed = 0 ∧ (t.spindle st).intervals = (10 * interval / ((s.spindle st).missed + 1)) :: (s.spindle st).intervals)) ∧
    (∀ (st : Fin 8) (interval after : Nat) (emf : Rat), s.spnState st = Spn.ramp → (s.spindle st).missed = 0 → 600 ≤ min 65535 (rpmOf
      ((10 * interval :: (s.spindle st).intervals).take 7)) → 5 ≤ (s.spindle st).consistent → ratio 250000000 (s.spindle st).ramp * 40 ≤
      100 * (after : Rat) → 100 * (after : Rat) ≤ ratio 250000000 (s.spindle st).ramp * 60 → Answers (.spindleZeroCrossing st interval
      after emf) s (fun t => t.spnState st = Spn.run ∧ (t.spindle st).bridge = .sixStep ∧ (t.spindle st).duty = (s.spindle st).duty ∧
      t.flag (F.SPN_STATE_ANGLE_VALID st) = true)) ∧
    (∀ (st : Fin 8) (interval after : Nat) (emf : Rat), s.spnState st = Spn.catch_ → (s.spindle st).missed = 0 → 5 ≤ (s.spindle
      st).intervals.length → agree ((10 * interval :: (s.spindle st).intervals).take 6) = true → 600 ≤ min 65535 (rpmOf ((10 * interval
      :: (s.spindle st).intervals).take 7)) → Answers (.spindleZeroCrossing st interval after emf) s (fun t => t.spnState st = Spn.run ∧
      t.flag (F.SPN_STATUS_CAUGHT st) = true ∧ (t.spindle st).duty = emf ∧ (t.spindle st).bridge = .sixStep)) ∧
    (∀ (st : Fin 8) (interval after : Nat) (emf : Rat), (s.spnState st = Spn.rappel ∨ s.spnState st = Spn.short) → s.flag (F.SPN_CTRL_RUN
      st) = false → (s.spindle st).missed = 0 → min 65535 (rpmOf ((10 * interval :: (s.spindle st).intervals).take 7)) < 60 → Answers
      (.spindleZeroCrossing st interval after emf) s (fun t => t.spnState st = Spn.off ∧ t.spnSpeed st = 0 ∧ (t.spindle st).bridge = (if
      s.flag (F.SPN_CTRL_STANDSTILL st) then .lowSides else .off))) ∧
    (∀ (st : Fin 8), s.spnState st = Spn.run → (s.spindle st).missed = 0 → Answers (.zeroCrossingMissed st) s (fun t => t = s.setSpindle
      st { s.spindle st with missed := 1, k := ((s.spindle st).k + 1) % 24, step := ((s.spindle st).step + 1) % 6 })) ∧
    (∀ (st : Fin 8), s.spnState st = Spn.run → 1 ≤ (s.spindle st).missed → Answers (.zeroCrossingMissed st) s (fun t => t.spnState st =
      Spn.catch_ ∧ (t.spindle st).bridge = .off ∧ t.flag (F.SPN_STATUS_ROTOR_LOSS st) = true)) ∧
    (∀ (st : Fin 8), s.spnState st = Spn.catch_ → Answers (.catchTimeout st) s (fun t => t.spnState st = Spn.rappel ∧ (t.spindle
      st).bridge = .short ∧ t.flag (F.SPN_STATUS_LOST st) = true))

/-- R154, R166, R167 and R170–R173: the speed loop, the bus and the chopper. -/
def Obligations.SpindleSpeedAndBusCommandsComplete : Prop :=
  ∀ s : State,
    (∀ (st : Fin 8) (ref want : Rat), s.spnState st = Spn.run → ref = (if (s.spindle st).ref < (s.fld (F.SPN_TARGET_RPM st) : Rat) then
      min (s.fld (F.SPN_TARGET_RPM st) : Rat) ((s.spindle st).ref + (s.fld (F.SPN_ACC_ACC st) : Rat) / 2000) else max (s.fld
      (F.SPN_TARGET_RPM st) : Rat) ((s.spindle st).ref - (s.fld (F.SPN_ACC_DEC st) : Rat) / 2000)) → want = ((s.fld (F.SPN_PI_KP st) :
      Rat) * (ref - (s.spnSpeed st : Rat)) + (s.fld (F.SPN_PI_KI st) : Rat) * ((s.spindle st).integ + (ref - (s.spnSpeed st : Rat)))) /
      1048576 → Answers (.speedLoopInstant st) s (fun t => (t.spindle st).ref = ref ∧ (t.spindle st).duty = (if want < 0 then 0 else if
      98 / 100 < want then 98 / 100 else want) ∧ (t.spindle st).integ = (if want < 0 ∨ 98 / 100 < want then (s.spindle st).integ else
      (s.spindle st).integ + (ref - (s.spnSpeed st : Rat))) ∧ t.spnState st = Spn.run)) ∧
    (∀ (st : Fin 8), (s.station st).disc = none → s.spnState st ≠ Spn.run → s.spnState st ≠ Spn.rappel → Answers (.speedLoopInstant st) s
      (fun t => t = s)) ∧
    (∀ (st : Fin 8), s.spnState st = Spn.run → 32 ≤ (s.spindle st).good → s.flag (F.SPN_STATE_AT_SPEED st) = false → Answers (.atSpeed
      st) s (fun t => t.flag (F.SPN_STATE_AT_SPEED st) = true ∧ t.spnState st = Spn.run)) ∧
    (∀ (st : Fin 8) (code : BitVec 12), s.slotPowered st = true → (s.spindle st).chop = false → code.toNat ≤ 3040 → Answers
      (.busConversion st code) s (fun t => t.fld (F.SPN_BUS_VBUS st) = code.toNat / 8 ∧ t.fld (F.SPN_BUS_VBUS_PEAK st) = max (code.toNat
      / 8) (s.fld (F.SPN_BUS_VBUS_PEAK st)) ∧ (t.spindle st).busCode = code.toNat ∧ (t.spindle st).chop = (!s.flag
      (F.SPN_STATUS_CHOP_FAULT st) && decide (8 * s.fld (F.SPN_CHOP_CHOP_ON st) < code.toNat)) ∧ SameFields [F.SPN_BUS_VBUS st,
      F.SPN_BUS_VBUS_PEAK st] s t)) ∧
    (∀ (st : Fin 8) (code : BitVec 12), s.slotPowered st = true → 3360 < code.toNat → s.spnState st ≠ Spn.fault → Answers (.busConversion
      st code) s (fun t => t.spnState st = Spn.coast ∧ (t.spindle st).bridge = .off ∧ t.flag (F.SPN_STATUS_OV_TRIP st) = true ∧ (t.fld
      F.SPN_BUS_OV_TRIP).testBit st.val = true ∧ t.fld F.SPN_BUS_OV_PIN = 1 ∧ t.fld (F.SPN_BUS_VBUS st) = code.toNat / 8)) ∧
    (∀ (st : Fin 8), (s.spindle st).chop = true → Answers (.chopperNoCurrent st) s (fun t => t.flag (F.SPN_STATUS_CHOP_FAULT st) = true ∧
      (t.spindle st).chop = false ∧ t.spnState st = (if s.spnState st = Spn.coast ∨ s.spnState st = Spn.fault then s.spnState st else
      Spn.short))) ∧
    (∀ (st : Fin 8), s.slotPowered st = true → 8 * s.fld (F.SPN_CHOP_CHOP_ON st) < (s.spindle st).busCode → Answers (.chopFaultClear st)
      s (fun t => t.flag (F.SPN_STATUS_CHOP_FAULT st) = false ∧ (t.spindle st).chop = true ∧ SameFields [F.SPN_STATUS_CHOP_FAULT st] s
      t)) ∧
    ((setBits 8 (s.fld F.SPN_BUS_OV_TRIP)).isEmpty = false → (setBits 8 (s.fld F.SPN_BUS_OV_TRIP)).all (fun i => decide ((s.spindle
      i).busCode < 2880)) = true → Answers (.busOvRelease) s (fun t => t.fld F.SPN_BUS_OV_TRIP = 0 ∧ t.fld F.SPN_BUS_OV_PIN = 0 ∧
      SameFields [F.SPN_BUS_OV_TRIP, F.SPN_BUS_OV_PIN] s t))

/-- R270–R293: the commands of recording, where their conditions hold. -/
def Obligations.RecordingCommandsComplete : Prop :=
  ∀ s : State,
    (∀ (n : Fin 16) (layer : Fin 8) (begun : List Bool) (x last : Nat), (s.station (n.val / 2)).disc.isSome = true → (s.disc (n.val /
      2)).s4 = false → s.puState n = Pu.follow → s.frontier (n.val / 2) (n.val % 2) layer.val = none → s.streaming n = false →
      searchFirst 32 0 (s.disc (n.val / 2)).blocksPerLayer 0 begun = some (x, last) → Answers (.frontierSearch n layer begun) s (fun t =>
      t.frontier (n.val / 2) (n.val % 2) layer.val = some ((s.disc (n.val / 2)).layerLba (n.val % 2) layer.val + 64 * x) ∧ t.fld
      (F.REC_PU_STATUS_STATE n) = 0 ∧ SameFields [F.REC_PU_STATUS_STATE n] s t)) ∧
    (∀ (n : Fin 16) (conflict : Option (Fin 18)) (r : RecBlock), conflict = none → s.recording.blocks.filter s.unrecordable = [] →
      s.nextBlock n (s.fld (F.SRV_PU_STATE_LAYER n)) = some r → s.puState n = Pu.follow → (s.puRec n).run.active = false → r.prepared =
      true → s.powerValid n (s.fld (F.SRV_PU_STATE_LAYER n)) = true → s.flag (F.SRV_LDD_STATUS_LINK_UP n) = true → Answers (.prePass n
      conflict) s (fun t => (t.puRec n).run =
      { prePassed := true, layer := s.fld (F.SRV_PU_STATE_LAYER n), first := (s.disc (n.val / 2)).runStart (s.fld (F.SRV_PU_STATE_LAYER n)) r.b, last := r.block }
      ∧ t.fld (F.REC_PU_STATUS_STATE n) = 3 ∧ t.sent = s.sent ++ [.ldd n 0x02 (leBytes 2 Driver.mode ++ leBytes 4 2)] ∧ SameFields
      [F.REC_PU_STATUS_STATE n] s t)) ∧
    (∀ (n : Fin 16) (k : Fin 18) (conflict : Option (Fin 18)) (r : RecBlock), conflict = some k → s.recording.blocks.filter
      s.unrecordable = [] → s.nextBlock n (s.fld (F.SRV_PU_STATE_LAYER n)) = some r → s.puState n = Pu.follow → (s.puRec n).run.active =
      false → r.prepared = true → s.powerValid n (s.fld (F.SRV_PU_STATE_LAYER n)) = true → s.flag (F.SRV_LDD_STATUS_LINK_UP n) = true →
      Answers (.prePass n conflict) s (fun t => t.flag (F.REC_PU_STATUS_MAP_CONFLICT n) = true ∧ t.frontier (n.val / 2) r.side r.layer =
      none ∧ t.fld (F.REC_PU_STATUS_STATE n) = 0 ∧ (t.puRec n).run = {})) ∧
    (∀ (n : Fin 16) (r : RecBlock), s.nextBlock n (s.puRec n).run.layer = some r → (s.puRec n).run.prePassed = true → (s.puRec
      n).run.active = false → s.mayRecord n = true → r.prepared = true → r.pickup = n.val → s.unrecordable r = false → r.block = (s.puRec
      n).run.last → Answers (.runStart n) s (fun t => (t.puRec n).run.active = true ∧ (t.puRec n).run.faulted = false ∧ (t.puRec
      n).run.bits = 0 ∧ (t.puRec n).run.blocks = (s.puRec n).run.blocks ++ [r.block] ∧ t.fld (F.REC_PU_STATUS_STATE n) = 4 ∧ (∃ v, t.sent
      = s.sent ++ [.ldd n 0x02 (leBytes 2 Driver.launch ++ leBytes 4 v)]) ∧ SameFields [F.REC_PU_STATUS_STATE n] s t)) ∧
    (∀ (n : Fin 16) (err : Int) (freq : Rat), s.streaming n = false → s.fld (F.REC_PU_STATUS_STATE n) ≠ 3 → err.natAbs < 4 → err.natAbs ≤
      s.fld F.REC_WCLK_CFG_LOCK_MAX → err.natAbs ≤ s.fld F.REC_WCLK_CFG_FAULT_MAX → Answers (.wobblePeriod n err freq) s (fun t => t.sfld
      (F.REC_PU_WCLK_ERR n) = err ∧ (t.puRec n).wclkGood = (s.puRec n).wclkGood + 1 ∧ t.sent = s.sent ∧ SameFields [F.REC_PU_WCLK_ERR n]
      s t)) ∧
    (∀ (n : Fin 16) (err : Int) (freq : Rat), s.streaming n = true → err.natAbs ≤ s.fld F.REC_WCLK_CFG_FAULT_MAX → Answers (.wobblePeriod
      n err freq) s (fun t => (t.puRec n).run.bits = (s.puRec n).run.bits + 256 ∧ t.streaming n = true)) ∧
    (∀ (n : Fin 16), 16 ≤ (s.puRec n).wclkGood → Answers (.wclkLocked n) s (fun t => t = s.put (F.REC_PU_STATUS_WCLK_LOCK n) 1)) ∧
    (∀ (n : Fin 16) (i : Nat), (s.puRec n).run.active = true → (s.puRec n).run.faulted = true → s.mayRecord n = true → s.firstBlank n =
      some i → Answers (.recordingResume n) s (fun t => (t.puRec n).run.faulted = false ∧ (t.puRec n).run.first = i ∧ (t.puRec
      n).run.bits = 0 ∧ (t.puRec n).run.closed = true ∧ t.fld (F.REC_PU_STATUS_STATE n) = 4 ∧ SameFields [F.REC_PU_STATUS_STATE n] s t)) ∧
    (∀ (n : Fin 16) (r : RecBlock), (s.runBlocks n).find? (fun x => x.whole) = some r → Answers (.blockRecorded n) s (fun t =>
      t.cache.drained = s.cache.drained + 1 ∧ ((r.verifyLeft = true → (t.puRec r.pickup).sinceVerify = (s.puRec r.pickup).sinceVerify +
      1)))) ∧
    (∀ (n : Fin 16), (s.puRec n).run.active = true → (s.puRec n).run.blocks = [] → Answers (.runEnd n) s (fun t => (t.puRec n).run = {} ∧
      (t.pickup n).gates = 0 ∧ t.fld (F.REC_PU_STATUS_STATE n) = (if s.recording.blocks.any (fun r => r.pickup == n.val && !r.recorded)
      || (s.stationCmds (n.val / 2)).any (fun e => decide (e.2.op = Op.write) && decide (e.2.phase = .admitted)) then 5 else 0) ∧ .ldd n
      0x02 (leBytes 2 Driver.mode ++ leBytes 4 1) ∈ t.sent)) ∧
    (∀ (n : Fin 16), s.recording.blocks.filter (fun r => r.pickup == n.val && r.recorded && r.verifyLeft) = [] → (s.puRec n).verifying =
      true → Answers (.verifyPass n) s (fun t => t = (s.modPuRec n (fun p => { p with verifying := false })).put (F.REC_PU_STATUS_STATE
      n) 5)) ∧
    (∀ (n : Fin 16) (r : RecBlock) (e : Nat), s.recording.blocks.filter (fun x => x.pickup == n.val && x.recorded && x.verifyLeft) = [r]
      → (s.puRec n).run.active = false → r.verEntry = some e → (s.entry e).finals 64 < 64 → Answers (.verifyPass n) s (fun t => t =
      ((s.modPuRec n (fun p => { p with verifying := true, sinceVerify := 0 })).put (F.REC_PU_STATUS_STATE n) 6)))

/-- R285–R287, R475–R487: calibration, where its conditions hold. -/
def Obligations.CalibrationCommandsComplete : Prop :=
  ∀ s : State,
    (∀ (h : Nat) (c : Cmd) (trims : List (List BeamTrim)), s.cmd? h = some c → c.op = Op.calibrate → c.phase = .admitted → c.id.calProc =
      1 → c.started = false → s.calRefusal c = none → Answers (.calibrateAdcTrim h trims) s (fun t => (t.cmd h).started = true ∧ (∀ n ∈
      c.calPickups, (t.calRun n).proc = 1))) ∧
    (∀ (h : Nat) (c : Cmd) (trims : List (List BeamTrim)), s.cmd? h = some c → c.op = Op.calibrate → c.phase = .admitted → c.id.calProc =
      1 → c.started = true → c.mute = false → c.data.src = [] → s.calReady c = true → c.calPickups.length ≤ trims.length → Answers
      (.calibrateAdcTrim h trims) s (fun t => (t.cmd h).phase = .ended ∧ (t.cmd h).res.status = Status.success ∧ (∀ n ∈ c.calPickups,
      t.calRun n = {} ∧ t.flag (F.CAL_ST_STATUS_DONE (n / 2)) = true))) ∧
    (∀ (h : Nat) (c : Cmd) (runs : List EspressoRun), s.cmd? h = some c → c.op = Op.calibrate → c.phase = .admitted → c.id.calProc = 2 →
      c.started = true → c.mute = false → c.data.src = [] → s.calReady c = true → c.calPickups.length ≤ runs.length → Answers
      (.calibrateEspresso h runs) s (fun t => (t.cmd h).phase = .ended ∧ (t.cmd h).res.status = Status.success ∧ (∀ n ∈ c.calPickups,
      t.calRun n = {} ∧ t.flag (F.CAL_ST_STATUS_DONE (n / 2)) = true))) ∧
    (∀ (h : Nat) (c : Cmd) (runs : List PowerRun), s.cmd? h = some c → c.op = Op.calibrate → c.phase = .admitted → c.id.calProc = 3 →
      c.started = false → s.calRefusal c = none → (∀ n ∈ c.calPickups, (s.pickup n).startReq = true) → s.spnState c.station ≠ Spn.off →
      Answers (.calibratePower h runs) s (fun t => (t.cmd h).started = true ∧ (∀ n ∈ c.calPickups, (t.calRun n).proc = 3 ∧ (t.pickup
      n).goal = some (psaOf (n % 2) c.id.calLayer 0 (pcaBase + 57 * (Table.at 1 (s.puRec n).pcaNext c.id.calLayer - 1)))))) ∧
    (∀ (h n q : Nat) (c : Cmd) (run : PowerRun) (runs : List PowerRun), s.cmd? h = some c → c.op = Op.calibrate → c.phase = .admitted →
      c.id.calProc = 3 → c.started = true → c.mute = false → c.data.src = [] → c.data.verdict = [] → s.calReady c = true → c.calPickups =
      [n] → s.flag (F.SRV_LDD_STATUS_LINK_UP n) = true → runs = [run] → s.pcaRevolution n c.id.calLayer run.used = some q → q < 999 →
      (List.range 4).all (fun k => (betaPower ((s.sfld F.REC_OPC_CFG_BETA_TARGET : Rat) / 256) ((s.disc (n / 2)).recPower.getD
      c.id.calLayer 0) (run.levels.getD k [])).isSome) = true → Answers (.calibratePower h runs) s (fun t => (t.cmd h).phase = .ended ∧
      (t.cmd h).res.status = Status.success ∧ Table.at [] (t.puRec n).calPw c.id.calLayer = (List.range 4).map (fun k => min 65535
      ((betaPower ((s.sfld F.REC_OPC_CFG_BETA_TARGET : Rat) / 256) ((s.disc (n / 2)).recPower.getD c.id.calLayer 0) (run.levels.getD k
      [])).getD 0)) ∧ Table.at 0 (t.puRec n).pcaNext c.id.calLayer = q + 2)) ∧
    (∀ (h : Nat) (c : Cmd) (runs : List FullRun), s.cmd? h = some c → c.op = Op.calibrate → c.phase = .admitted → c.id.calProc = 4 →
      c.started = true → c.mute = false → c.data.src = [] → s.calReady c = true → c.calPickups.length ≤ runs.length → Answers
      (.calibrateFull h runs) s (fun t => (t.cmd h).phase = .ended ∧ (t.cmd h).res.status = Status.success ∧ (∀ n ∈ c.calPickups,
      t.calRun n = {} ∧ t.flag (F.CAL_ST_STATUS_DONE (n / 2)) = true))) ∧
    (∀ (n : Fin 16) (layer : Fin 8) (run : PowerRun) (q : Nat), (s.station (n.val / 2)).disc.isSome = true → s.puState n = Pu.follow →
      s.streaming n = false → s.flag (F.SRV_LDD_STATUS_LINK_UP n) = true → s.recording.blocks.any (fun r => r.pickup == n.val && r.layer
      == layer.val && !r.recorded) = true → s.powerValid n layer.val = false → (s.puRec n).calFailed.contains layer.val = false →
      s.calRun n = {} → s.pcaRevolution n layer run.used = some q → q < 999 → (List.range 4).all (fun k => (betaPower ((s.sfld
      F.REC_OPC_CFG_BETA_TARGET : Rat) / 256) ((s.disc (n.val / 2)).recPower.getD layer 0) (run.levels.getD k [])).isSome) = true →
      Answers (.powerCalibration n layer run) s (fun t => Table.at [] (t.puRec n).calPw layer = (List.range 4).map (fun k => min 65535
      ((betaPower ((s.sfld F.REC_OPC_CFG_BETA_TARGET : Rat) / 256) ((s.disc (n.val / 2)).recPower.getD layer 0) (run.levels.getD k
      [])).getD 0)) ∧ Table.at 0 (t.puRec n).pcaNext layer = q + 2 ∧ t.fld (F.REC_PU_PCA_NEXT n) = (q + 1) % 2 ^ (F.REC_PU_PCA_NEXT
      n).width ∧ t.fld (F.REC_PU_STATUS_STATE n) = 0 ∧ t.calRun n = {})) ∧
    (∀ (n : Fin 16) (run : Option EspressoRun), run = none → (s.station (n.val / 2)).disc.isSome = true → s.puState n = Pu.follow →
      (s.calRun n).proc = 0 → s.streaming n = false → s.flag F.CAL_CFG_ESPRESSO_AUTO = true → s.uncalibrated n = true → Answers
      (.espressoAuto n run) s (fun t => t.calRun n = { proc := 2, layer := s.fld (F.SRV_PU_STATE_LAYER n) })) ∧
    (∀ (n : Fin 16) (run : Option EspressoRun) (x : EspressoRun), run = some x → (s.station (n.val / 2)).disc.isSome = true → s.puState n
      = Pu.follow → s.calRun n = { proc := 2, layer := s.fld (F.SRV_PU_STATE_LAYER n) } → Answers (.espressoAuto n run) s (fun t =>
      t.calRun n = {} ∧ t.flag (F.CAL_ST_STATUS_DONE (n.val / 2)) = true))

/-- R61–R66, R331, R387, R476 and R562: LOAD, UNLOAD and their Format L twins. -/
def Obligations.LoadAndUnloadCommandsComplete : Prop :=
  ∀ s : State,
    (∀ (h : Nat) (c : Cmd) (copy : Option TableCopy) (runs : List FullRun), s.cmd? h = some c → c.op = Op.load → c.id.formatL = false →
      c.phase = .admitted → c.started = false → (s.station c.station).disc.isSome = true → (s.station c.station).mslot = some c.id.mslot
      → c.mute = false → Answers (.load h copy runs) s (fun t => (t.cmd h).phase = .ended ∧ (t.cmd h).res = loadResult (s.disc c.station)
      ∧ t.rings.records = s.rings.records ++ [h])) ∧
    (∀ (h : Nat) (c : Cmd) (copy : Option TableCopy) (runs : List FullRun), s.cmd? h = some c → c.op = Op.load → c.id.formatL = false →
      c.phase = .admitted → c.started = false → (s.station c.station).mslot = none → s.puState (2 * c.station) ≠ Pu.fault → s.puState (2
      * c.station + 1) ≠ Pu.fault → s.spnState c.station = Spn.off → s.flag (F.SPN_STATUS_CHOP_FAULT c.station) = false → 1600 ≤
      (s.spindle c.station).busCode → Answers (.load h copy runs) s (fun t => (t.station c.station).state = 2 ∧ (t.station
      c.station).mslot = some c.id.mslot ∧ (t.station c.station).disc = none ∧ t.spnState c.station = Spn.probe ∧ (t.pickup (2 *
      c.station)).goal = some (psaOf 0 0 0 (infoZoneBase false)) ∧ (t.pickup (2 * c.station + 1)).goal = some (psaOf 1 0 0 (infoZoneBase
      false)) ∧ (t.cmd h).started = true)) ∧
    (∀ (h : Nat) (c : Cmd) (copy : Option TableCopy) (x : TableCopy) (runs : List FullRun), s.cmd? h = some c → c.op = Op.load →
      c.id.formatL = false → copy = some x → s.searching h = true → s.readsInfo c.station x.side = true → (s.station c.station).tables =
      [] → (s.station c.station).noTable = [] → copyOk x.side x.spiral x.index (x.payload.map BitVec.toNat) = true → Answers (.load h
      copy runs) s (fun t => t = s.modStation c.station (fun y =>
      { y with tables := [(x.side.val, payloadUser (x.payload.map BitVec.toNat))] }))) ∧
    (∀ (h : Nat) (c : Cmd) (copy : Option TableCopy) (runs : List FullRun), s.cmd? h = some c → c.op = Op.load → c.id.formatL = false →
      c.started = true → c.phase = .admitted → c.mute = false → copy = none → 2 ≤ runs.length → [2 * c.station, 2 * c.station + 1].all
      (fun n => (s.calRun n).proc == 4 && (s.calRun n).cmd == some h && s.puState n == Pu.follow) = true → s.flag (F.SPN_STATE_AT_SPEED
      c.station) = true → Answers (.load h copy runs) s (fun t => (t.station c.station).state = 3 ∧ (t.station c.station).calibrated =
      true ∧ (t.cmd h).phase = .ended ∧ (t.cmd h).res.status = Status.success)) ∧
    (∀ (h : Nat) (c : Cmd) (copy : Option TableCopy) (runs : List FullRun), s.cmd? h = some c → c.op = Op.load → c.id.formatL = true →
      c.phase = .admitted → c.started = false → (s.station c.station).disc.isSome = true → (s.station c.station).mslot = some c.id.mslot
      → c.mute = false → Answers (.lLoad h copy runs) s (fun t => (t.cmd h).phase = .ended ∧ (t.cmd h).res = loadResult (s.disc
      c.station) ∧ t.rings.records = s.rings.records ++ [h])) ∧
    (∀ (h : Nat) (c : Cmd) (copy : Option TableCopy) (runs : List FullRun), s.cmd? h = some c → c.op = Op.load → c.id.formatL = true →
      c.phase = .admitted → c.started = false → (s.station c.station).mslot = none → s.puState (2 * c.station) ≠ Pu.fault → s.puState (2
      * c.station + 1) ≠ Pu.fault → s.spnState c.station = Spn.off → s.flag (F.SPN_STATUS_CHOP_FAULT c.station) = false → 1600 ≤
      (s.spindle c.station).busCode → Answers (.lLoad h copy runs) s (fun t => (t.station c.station).state = 2 ∧ (t.station
      c.station).mslot = some c.id.mslot ∧ t.spnState c.station = Spn.probe ∧ (t.cmd h).started = true)) ∧
    (∀ (st : Fin 8) (side : Fin 2) (h : Nat), s.loadOf st = some h → s.searching h = true → (s.cmd h).station = st.val → s.readsInfo st
      side = true → (s.station st).tables = [] → (s.station st).noTable = [] → Answers (.infoZoneSearchTimeout st side) s (fun t => t =
      s.modStation st (fun x => { x with noTable := [side.val] }))) ∧
    (∀ (st : Fin 8) (side : Fin 2) (h : Nat), s.loadOf st = some h → s.searching h = true → (s.cmd h).station = st.val → (s.cmd h).mute =
      false → s.readsInfo st side = true → (s.station st).tables = [] → (s.station st).noTable = [1 - side.val] → Answers
      (.infoZoneSearchTimeout st side) s (fun t => (t.station st).state = 5 ∧ (t.station st).disc = none ∧ (t.cmd h).phase = .ended ∧
      (t.cmd h).res.status = Status.unrecoveredRead)) ∧
    (∀ (h : Nat) (c : Cmd), s.cmd? h = some c → c.op = Op.unload → c.id.formatL = false → c.phase = .admitted → c.mute = false →
      c.started = true → (s.station c.station).disc = none → s.atRest c.station = true → Answers (.unload h) s (fun t => (t.station
      c.station).state = 1 ∧ (t.station c.station).mslot = none ∧ (t.cmd h).phase = .ended ∧ (t.cmd h).res.status = Status.success ∧
      t.rings.records = s.rings.records ++ [h] ∧ SameFields [] s t)) ∧
    (∀ (h m : Nat) (c : Cmd), s.cmd? h = some c → c.op = Op.unload → c.id.formatL = false → c.phase = .admitted → c.started = true →
      (s.station c.station).disc.isSome = true → (s.station c.station).mslot = some m → s.discDirty c.station m = false → Answers
      (.unload h) s (fun t => (t.station c.station).disc = none ∧ t.fld (F.SPN_CTRL_RUN c.station) = 0 ∧ ∀ e ∈ entryNumbers, (s.entry
      e).mslot = m → (s.entry e).station = c.station → (t.entry e).st = .free)) ∧
    (∀ (h : Nat) (c : Cmd), s.cmd? h = some c → c.op = Op.unload → c.id.formatL = true → c.phase = .admitted → c.mute = false → c.started
      = true → (s.station c.station).disc = none → s.atRest c.station = true → Answers (.lUnload h) s (fun t => (t.station
      c.station).state = 1 ∧ (t.station c.station).mslot = none ∧ (t.cmd h).phase = .ended ∧ (t.cmd h).res.status = Status.success ∧
      t.rings.records = s.rings.records ++ [h] ∧ SameFields [] s t))

/-- R303, R309–R311 and R314: the rows of the on-chip memory. -/
def Obligations.OnChipMemoryCommandsComplete : Prop :=
  ∀ s : State,
    (∀ (bank : Fin 128) (upset : List (Fin 137)) (row : Nat), s.flag F.MEM_CTRL_SCRUB_EN = true → row = Table.at 0 s.mem.rows bank → row
      < 32767 → ((s.fld F.MEM_SCRUB_CFG_REGIONS).testBit (regionOf (16 * wordAt bank row)) = false ∨ pageBit s.mem.valid (wordAt bank
      row) = false) → s.mem.passed.length < 128 → Answers (.scrubVisit bank upset) s (fun t => Table.at 0 t.mem.rows bank = row + 1 ∧
      t.mem.valid = s.mem.valid ∧ t.mem.poison = s.mem.poison ∧ t.mem.flips = s.mem.flips ∧ SameFields [F.MEM_SCRUB_POS_ROW] s t)) ∧
    (∀ (bank : Fin 128) (upset : List (Fin 137)) (row w : Nat), s.flag F.MEM_CTRL_SCRUB_EN = true → row = Table.at 0 s.mem.rows bank →
      row < 32767 → w = wordAt bank row → (s.fld F.MEM_SCRUB_CFG_REGIONS).testBit (regionOf (16 * w)) = true → pageBit s.mem.valid w =
      true → pageBit s.mem.poison w = false → popCount 137 ((upset.map (fun b => b.val)).eraseDups.foldl (fun a b => a ^^^ 2 ^ b)
      (Table.at 0 s.mem.flips w)) = 1 → s.mem.inject = none → s.fld F.MEM_ERR_COUNT_CE < 65535 → s.mem.passed.length < 128 → Answers
      (.scrubVisit bank upset) s (fun t => Table.at 0 t.mem.rows bank = row + 1 ∧ Table.at 0 t.mem.flips w = 0 ∧ t.fld F.MEM_ERR_COUNT_CE
      = s.fld F.MEM_ERR_COUNT_CE + 1 ∧ t.fld (F.MEM_LOG_ADDR_ADDR (s.fld F.MEM_LOG_HEAD_NEXT)) = 16 * w ∧ t.flag (F.MEM_LOG_ADDR_UNCORR
      (s.fld F.MEM_LOG_HEAD_NEXT)) = false ∧ t.mem.valid = s.mem.valid ∧ t.mem.poison = s.mem.poison)) ∧
    (s.flag F.MEM_CTRL_SCRUB_EN = true → Answers (.scrubLapSlow) s (fun t => t.flag F.MEM_STATUS_SCRUB_SLOW = true ∧ t.mem = s.mem ∧
      SameFields [F.MEM_STATUS_SCRUB_SLOW] s t)) ∧
    (Answers (.memCntClr) s (fun t => t = (s.put F.MEM_ERR_COUNT_CE 0).put F.MEM_ERR_COUNT_UE 0)) ∧
    (∀ (value : Word), Answers (.memInjectArm value) s (fun t => t.mem.inject = some (value.toNat % 2 ^ 22, value.toNat.testBit 25) ∧
      t.fld F.MEM_INJECT_PENDING = 1 ∧ t.fld F.MEM_INJECT_ADDR = value.toNat % 2 ^ 22 ∧ t.fld F.MEM_INJECT_DOUBLE = (value.toNat / 2 ^
      25) % 2 ∧ SameFields [F.MEM_INJECT_PENDING, F.MEM_INJECT_ADDR, F.MEM_INJECT_DOUBLE] s t))

/-- R433–R439, R444–R446 and R455: the links of the tree, their heartbeats and enumeration. -/
def Obligations.LinksAndEnumerationCommandsComplete : Prop :=
  ∀ s : State,
    (∀ (q : Fin 5), s.portMayTrain q = true → (s.port q).phase = .idle → Answers (.portTrainingStart q) s (fun t => t = s.setPort q
      { s.port q with phase := .training })) ∧
    (∀ (q : Fin 5) (gen width : Nat) (partner4080 : Bool) (level : Fin 16) (clash : Bool), (s.port q).phase = .training → 1 ≤ gen → gen ≤
      2 → (width = 1 ∨ width = 2 ∨ width = 4) → clash = false → (q = 0 ∨ partner4080 = true ∨ (s.fld F.MBL_PROTO_LEVEL ≤ level.val + 1 ∧
      level.val ≤ s.fld F.MBL_PROTO_LEVEL + 1)) → Answers (.portUp q gen width partner4080 level clash) s (fun t => (t.port q).phase =
      .up ∧ (t.port q).partnerLevel = level.val ∧ t.flag (F.MBL_PORT_STATUS_UP q) = true ∧ t.fld (F.MBL_PORT_STATUS_WIDTH q) = width ∧
      t.fld (F.MBL_PORT_STATUS_GEN q) = (if s.flag (F.MBL_PORT_CTRL_V1_ONLY q) = true ∨ partner4080 = true then 1 else gen) ∧ t.flag
      (F.MBL_PORT_STATUS_PARTNER_4080 q) = partner4080 ∧ t.sent = s.sent ++ (s.port q).replay.map (fun f => Out.frame q f.1 f.2) ∧
      SameFields [F.MBL_PORT_STATUS_UP q, F.MBL_PORT_STATUS_WIDTH q, F.MBL_PORT_STATUS_GEN q, F.MBL_PORT_STATUS_PARTNER_4080 q] s t)) ∧
    (∀ (q : Fin 5) (gen width : Nat) (partner4080 : Bool) (level : Fin 16) (clash : Bool), (s.port q).phase = .training → 1 ≤ gen → gen ≤
      2 → (width = 1 ∨ width = 2 ∨ width = 4) → clash = true → Answers (.portUp q gen width partner4080 level clash) s (fun t => (t.port
      q).phase = .idle ∧ t.flag (F.MBL_PORT_STATUS_ROLE_ERR q) = true ∧ SameFields [F.MBL_PORT_STATUS_ROLE_ERR q] s t)) ∧
    (∀ (q : Fin 5) (ev : LinkEvent) (n : Nat), (s.port q).phase = .up → ev = .ack n → (s.port q).replay.any (fun f => f.1 == n) = true →
      Answers (.linkFrame q ev) s (fun t => t = s.setPort q
      { s.port q with replay := ((s.port q).replay.dropWhile (fun f => f.1 != n)).drop 1, replayCount := 0 })) ∧
    (∀ (q : Fin 5) (ev : LinkEvent) (n : Nat) (bytes : List Byte), (s.port q).phase = .up → ev = .frame n bytes → bytes.length < 20 →
      Answers (.linkFrame q ev) s (fun t => t = s.emit (.nak q (s.port q).rxSeq))) ∧
    (∀ (q : Fin 5) (ev : LinkEvent) (n : Nat) (bytes : List Byte) (p : Packet), (s.port q).phase = .up → ev = .frame n bytes → bytes.map
      BitVec.toNat = packetBytes p → parsePacket (packetBytes p) = some p → p.payload.length ≤ 4096 → p.payload.length % 4 = 0 → n =
      (s.port q).rxSeq → n < 4096 → p.type = Pkt.time → Answers (.linkFrame q ev) s (fun t => (t.port q).rxSeq = (n + 1) % 4096 ∧ t.sent
      = s.sent ++ [.ack q n] ∧ t.mbl.inbox = s.mbl.inbox ++ [⟨q, s.ct, p, []⟩] ∧ SameFields [F.MBL_PORT_RX_LO_COUNT q,
      F.MBL_PORT_RX_HI_COUNT q] s t)) ∧
    (∀ (q : Fin 5), (s.port q).phase = .up → (s.port q).replay ≠ [] → (s.port q).replayCount < 4 → Answers (.linkReplayTimeout q) s (fun
      t => t.sent = s.sent ++ (s.port q).replay.map (fun f => Out.frame q f.1 f.2) ∧ t.port q =
      { s.port q with replayCount := (s.port q).replayCount + 1 } ∧ SameFields [F.MBL_PORT_STATUS_REPLAYS q] s t)) ∧
    (∀ (q : Fin 5), (s.port q).phase = .up → (s.port q).replay ≠ [] → 4 ≤ (s.port q).replayCount → Answers (.linkReplayTimeout q) s (fun
      t => (t.port q) = { s.port q with phase := .training, retraining := true, replayCount := 0 } ∧ t.flag (F.MBL_PORT_STATUS_RETRAINED
      q) = true ∧ SameFields [F.MBL_PORT_STATUS_RETRAINED q] s t)) ∧
    (∀ (q : Fin 5), (s.port q).phase ≠ .idle → s.flag (F.MBL_PORT_STATUS_UP q) = true → Answers (.portDown q) s (fun t => (t.port
      q).phase = .idle ∧ t.flag (F.MBL_PORT_STATUS_UP q) = false ∧ t.flag (F.MBL_PORT_STATUS_DOWN q) = true ∧ (q = 0 → t.flag
      F.MBL_CT_STATUS_HOLDOVER = true ∧ t.flag F.MBL_CT_STATUS_SYNC = false) ∧ (t.port q).replay = [])) ∧
    (∀ (q : Fin 5), (s.port q).phase = .up → Answers (.portRetrain q) s (fun t => t = s.setPort q
      { s.port q with phase := .training, retraining := true, replayCount := 0 })) ∧
    (∀ (q : Nat), q = 0 → (s.port 0).phase = .up → [1, 2, 3, 4].all (fun k => (s.port k).phase != .up) = true → Answers (.heartbeatSend)
      s (fun t => t = s.sendOn 0 (mgmtPacket s 0 Mgmt.heartbeat 0 [s.fld F.MBL_PROTO_LEVEL]))) ∧
    (∀ (q : Nat), q ∈ [1, 2, 3, 4] → (s.port q).phase = .up → Answers (.heartbeatSend) s (fun t => (t.port q).missed = (s.port q).missed
      + 1 ∧ ((s.port q).replay.length < (t.port q).replay.length))) ∧
    (∀ (e : InPacket) (rest : List InPacket), s.mbl.inbox = e :: rest → isMgmt Mgmt.heartbeat e.packet = true → e.port = 0 → Answers
      (.heartbeat) s (fun t => (t.port 0) = { s.port 0 with missed := 0, partnerLevel := (mgmtBody e.packet).getD 0 0 } ∧ t.mbl.inbox =
      rest ∧ SameFields [] s t)) ∧
    (∀ (q : Fin 5), q ≠ 0 → s.flag (F.MBL_PORT_STATUS_UP q) = true → s.flag (F.MBL_PORT_STATUS_FENCED q) = false → max 1 (s.fld
      F.MBL_CFG_HB_N) ≤ (s.port q).missed → Answers (.heartbeatLoss q) s (fun t => t.flag (F.MBL_PORT_STATUS_FENCED q) = true ∧ t.flag
      (F.MBL_PORT_STATUS_UP q) = true)) ∧
    (∀ (q : Fin 5), q ≠ 0 → s.flag (F.MBL_PORT_STATUS_FENCED q) = true → Answers (.fenceClr q) s (fun t => t.flag
      (F.MBL_PORT_STATUS_FENCED q) = false ∧ (t.port q).missed = 0)) ∧
    (∀ (port : Option (Fin 5)) (n : Nat), port = none → s.root = true → s.mbl.enum = none → [1, 2, 3, 4].all (fun q => !s.portOpen q) =
      true → Answers (.enumeration port n) s (fun t => t.fld F.MBL_ID_DEVICE_ID = 0 ∧ t.fld F.MBL_ID_DEPTH = 0 ∧ t.mbl.enum = none ∧
      t.fld F.MBL_LIMIT_LIMIT = 4 * s.fld F.MBL_CFG_RESERVE ∧ ([1, 2, 3, 4].all (fun q => t.fld (F.MBL_PORT_RANGE_LO_LO q) == 1 + (q - 1)
      * s.fld F.MBL_CFG_RESERVE && t.fld (F.MBL_PORT_RANGE_HI_HI q) == q * s.fld F.MBL_CFG_RESERVE) = true))) ∧
    (∀ (port : Option (Fin 5)) (n : Nat), port = none → s.root = true → s.mbl.enum = none → s.portOpen 1 = true → s.flag
      (F.MBL_PORT_STATUS_PARTNER_4080 1) = false → Answers (.enumeration port n) s (fun t => t.mbl.enum = some
      { port := 1, solo := false, next := 1, last := lastId, reserve := s.fld F.MBL_CFG_RESERVE } ∧ (t.port 1).replay.length = (s.port
      1).replay.length + 1 ∧ t.fld F.MBL_ID_DEVICE_ID = 0)) ∧
    (∀ (e : InPacket) (rest : List InPacket) (base : Nat), s.mbl.inbox = e :: rest → isMgmt Mgmt.enumAssign e.packet = true → e.port = 0
      → s.root = false → base = leField (mgmtBody e.packet) 0 4 → base < 2 ^ 24 → Answers (.enumAssign) s (fun t => t.fld
      F.MBL_ID_DEVICE_ID = base ∧ t.fld F.MBL_ID_DEPTH = (mgmtBody e.packet).getD 9 0 % 2 ^ (F.MBL_ID_DEPTH).width ∧ t.mbl.inbox = rest)) ∧
    (∀ (e : InPacket) (rest : List InPacket) (r : EnumRun), s.mbl.inbox = e :: rest → isMgmt Mgmt.enumReport e.packet = true → s.mbl.enum
      = some r → r.port = 4 → e.port = 4 → r.solo = false → Answers (.enumReport) s (fun t => (t.port 4).count = leField (mgmtBody
      e.packet) 4 4 ∧ (t.port 4).depth = (mgmtBody e.packet).getD 8 0 + 1 ∧ t.mbl.enum = none ∧ t.fld (F.MBL_PORT_RANGE_LO_LO 4) = min
      r.next broadcastId % 2 ^ 24 ∧ t.fld (F.MBL_PORT_RANGE_HI_HI 4) = min (leField (mgmtBody e.packet) 0 4 + r.reserve - 1) lastId))

/-- R435–R443 and R447–R449, R456: packets taken at the root and at a target, and Chain Time. -/
def Obligations.TreePacketsAndTimeCommandsComplete : Prop :=
  ∀ s : State,
    (∀ (e : InPacket) (rest : List InPacket) (id : CmdId), s.mbl.inbox = e :: rest → e.packet.type = Pkt.cmd → s.flag
      (F.MBL_PORT_STATUS_PARTNER_4080 0) = false → id = nativeId (e.packet.payload.getD 0 0) (e.packet.payload.getD 1 0)
      (e.packet.payload.drop 4) → s.keyCheck id = true → s.lateChecks id = none → Answers (.cmdPacket) s (fun t => (t.cmd
      s.rings.nextHandle).phase = .accepted ∧ (t.cmd s.rings.nextHandle).id = id ∧ (t.cmd s.rings.nextHandle).origin = .chain
      (e.packet.payload.getD 0 0) e.packet.tag ∧ t.rings.nextHandle = s.rings.nextHandle + 1 ∧ t.mbl.inbox = rest ∧ SameFields [] s t)) ∧
    (∀ (e : InPacket) (rest : List InPacket) (h : Nat) (c : Cmd), s.mbl.inbox = e :: rest → e.packet.type = Pkt.xferRdy → s.root = false
      → s.chainCmd e.packet.tag = some (h, c) → c.op = Op.read → 0 < leField e.packet.payload 4 4 → Answers (.xferRdyPacket) s (fun t =>
      t.mbl.grants = s.mbl.grants ++ [⟨e.packet.tag, h, leField e.packet.payload 0 4, leField e.packet.payload 4 4, 0, false⟩] ∧
      t.mbl.inbox = rest ∧ SameFields [] s t)) ∧
    (∀ (e : InPacket) (rest : List InPacket) (g : Grant) (c : Cmd), s.mbl.inbox = e :: rest → e.packet.type = Pkt.data → s.root = false →
      s.mbl.grants = [g] → g.mine = true → g.tag = e.packet.tag → g.offset + g.moved = e.packet.offset → g.moved +
      e.packet.payload.length < g.len → s.cmd? g.cmd = some c → c.op = Op.write → c.phase = .admitted → c.data.bytes = [] → 0 <
      e.packet.payload.length → e.packet.payload.length < 4096 → Answers (.dataPacket) s (fun t => t.mbl.grants =
      [{ g with moved := g.moved + e.packet.payload.length }] ∧ (t.cmd g.cmd).data.bytes = [(e.packet.offset, e.packet.payload)] ∧
      t.mbl.inbox = rest ∧ SameFields [] s t)) ∧
    (∀ (e : InPacket) (rest : List InPacket) (w : Fwd) (c : Cmd), s.mbl.inbox = e :: rest → e.packet.type = Pkt.rsp → s.mbl.fwd.find?
      (fun x => x.tag == e.packet.tag) = some w → s.cmd? w.cmd = some c → c.phase ≠ .ended → c.mute = false → c.target = none →
      c.res.status = 0 → Answers (.rspPacket) s (fun t => (t.cmd w.cmd).phase = .ended ∧ (t.cmd w.cmd).res.status = e.packet.payload.getD
      2 0 ∧ (t.cmd w.cmd).res.done = leField e.packet.payload 8 4 ∧ (t.cmd w.cmd).res.detail = leField e.packet.payload 6 2 ∧
      t.rings.records = s.rings.records ++ [w.cmd] ∧ t.mbl.fwd = s.mbl.fwd.filter (fun x => x.tag != e.packet.tag) ∧ t.mbl.grants =
      s.mbl.grants.filter (fun x => x.tag != e.packet.tag) ∧ SameFields [] s t)) ∧
    (∀ (e : InPacket) (rest : List InPacket) (ev : EventRec), s.mbl.inbox = e :: rest → e.packet.type = Pkt.evt → s.evtOpen = false →
      s.events.staging.length < 256 → ev = ⟨leField e.packet.payload 0 3, e.packet.payload.getD 3 0, leField e.packet.payload 4 2,
      leField e.packet.payload 6 2, leField e.packet.payload 8 8 % 2 ^ 63, padTo 16 (e.packet.payload.drop 16)⟩ → Answers (.evtPacket) s
      (fun t => t.events.staging = s.events.staging ++ [ev] ∧ t.mbl.inbox = rest ∧ SameFields [] s t)) ∧
    (∀ (e : InPacket) (rest : List InPacket) (h tag : Nat) (c : Cmd), s.mbl.inbox = e :: rest → isMgmt Mgmt.discard e.packet = true →
      s.allCmds = [(h, c)] → c.origin = .chain ((mgmtBody e.packet).getD 0 0) tag → c.survivesFlr = false → c.op = Op.read → c.data.uses
      = [] → Answers (.discard) s (fun t => t.cmd? h = none ∧ t.rings.records = s.rings.records.filter (fun x => x != h) ∧ t.mbl.inbox =
      rest)) ∧
    (∀ (e : InPacket) (rest : List InPacket), s.mbl.inbox = e :: rest → isMgmt Mgmt.grantHold e.packet = true → Answers (.grantHold) s
      (fun t => t = { s with mbl := { s.mbl with inbox := rest } })) ∧
    (∀ (tag : Nat) (w : Fwd) (g : Grant), s.mbl.fwd.find? (fun x => x.tag == tag) = some w → s.mbl.grants.find? (fun x => !x.mine &&
      x.tag == tag && decide (x.moved < x.len)) = some g → Answers (.grantHoldTimer tag) s (fun t => t = s.route (mgmtPacket s w.dest
      Mgmt.grantHold tag (leBytes 4 g.offset)))) ∧
    (∀ (tag : Nat) (g : Grant), s.root = false → s.mbl.grants.find? (fun x => x.mine && x.tag == tag) = some g → (s.cmd g.cmd).live =
      false → Answers (.xferWindowExpiry tag) s (fun t => t.flag (F.MBL_PORT_STATUS_XFER_TO 0) = true ∧ t.mbl.grants =
      s.mbl.grants.filter (fun x => x.tag != tag) ∧ SameFields [F.MBL_PORT_STATUS_XFER_TO 0] s t)) ∧
    (∀ (tag : Nat) (g : Grant) (c : Cmd), s.root = false → s.mbl.grants.find? (fun x => x.mine && x.tag == tag) = some g → s.cmd? g.cmd =
      some c → c.live = true → c.mute = false → c.op = Op.fwDownload → c.phase = .started → Answers (.xferWindowExpiry tag) s (fun t =>
      (t.cmd g.cmd).phase = .ended ∧ (t.cmd g.cmd).res.status = Status.chainTimeout ∧ t.flag (F.MBL_PORT_STATUS_XFER_TO 0) = true)) ∧
    (∀ (h : Nat) (c : Cmd), s.root = false → s.flag (F.MBL_PORT_STATUS_UP 0) = false → s.allCmds = [(h, c)] → c.origin ≠ .ring → c.op =
      Op.read → c.data.uses = [] → Answers (.orphanTimeout) s (fun t => t.cmd? h = none ∧ t.rings.records = s.rings.records.filter (fun x
      => x != h))) ∧
    (∀ (q : Fin 5), q ≠ 0 → (s.port q).phase = .up → Answers (.timeExchange q) s (fun t => t = s.sendOn q
      { type := Pkt.time, flags := 0, dest := 0, src := s.deviceId, tag := 0, offset := 0, payload := [1, 0, 0, 0] ++ leBytes 8 s.ct })) ∧
    (∀ (e : InPacket) (rest : List InPacket), s.mbl.inbox = e :: rest → e.packet.type = Pkt.time → e.packet.payload.getD 0 0 = 1 → e.port
      = 0 → Answers (.timePacket) s (fun t => (t.port 0).t1 = leField e.packet.payload 4 8 ∧ (t.port 0).t2 = e.stamp ∧ (t.port 0).t3 =
      s.ct ∧ (t.port 0).tOpen = true ∧ (t.port 0).replay.length = (s.port 0).replay.length + 1 ∧ t.mbl.inbox = rest)) ∧
    (∀ (e : InPacket) (rest : List InPacket), s.mbl.inbox = e :: rest → e.packet.type = Pkt.time → e.packet.payload.getD 0 0 = 2 → e.port
      ≠ 0 → Answers (.timePacket) s (fun t => t = ({ s with mbl := { s.mbl with inbox := rest } } : State).sendOn e.port
      (Sys2Proof.Machine.timePacket s 3 e.stamp))) ∧
    (∀ (e : InPacket) (rest : List InPacket) (x : Port) (d : Int), s.mbl.inbox = e :: rest → e.packet.type = Pkt.time →
      e.packet.payload.getD 0 0 = 3 → e.port = 0 → x = s.port 0 → x.tOpen = true → s.mbl.firstTime = false → 2 * d = ((x.t2 : Int) -
      x.t1) + ((leField e.packet.payload 4 8 : Int) - x.t3) → 0 ≤ d + s.sfld (F.MBL_PORT_ASYM_ASYM 0) → d + s.sfld (F.MBL_PORT_ASYM_ASYM
      0) < 65536 → ((x.t2 : Int) - x.t1 - (d + s.sfld (F.MBL_PORT_ASYM_ASYM 0))).natAbs ≤ 20 → Answers (.timePacket) s (fun t => (t.fld
      (F.MBL_PORT_DELAY_DELAY 0) : Int) = d + s.sfld (F.MBL_PORT_ASYM_ASYM 0) ∧ t.sfld (F.MBL_PORT_OFFSET_OFFSET 0) = (x.t2 : Int) - x.t1
      - (d + s.sfld (F.MBL_PORT_ASYM_ASYM 0)) ∧ t.mbl.goodTimes = s.mbl.goodTimes + 1 ∧ t.ct = s.ct ∧ (t.sfld
      F.MBL_CT_STATUS_RATE).natAbs ≤ 25000)) ∧
    (16 ≤ s.mbl.goodTimes → Answers (.mblCtLocked) s (fun t => t.flag F.MBL_CT_STATUS_SYNC = true ∧ t.flag F.MBL_CT_STATUS_HOLDOVER =
      false ∧ SameFields [F.MBL_CT_STATUS_SYNC, F.MBL_CT_STATUS_HOLDOVER] s t)) ∧
    (∀ (value : Word), s.root = true → s.mbl.ctLoaded = false → s.ct ≤ s.fld F.MBL_CT_LOAD_LO_CT + value.toNat * 2 ^ 32 → Answers
      (.ctLoad value) s (fun t => t.ct = s.fld F.MBL_CT_LOAD_LO_CT + value.toNat * 2 ^ 32 ∧ t.mbl.ctLoaded = true ∧ SameFields [] s t)) ∧
    (∀ (value : Word), s.root = true → (s.mbl.ctLoaded = true ∨ s.fld F.MBL_CT_LOAD_LO_CT + value.toNat * 2 ^ 32 < s.ct) → Answers
      (.ctLoad value) s (fun t => t = s.put F.MBL_CT_STATUS_LOAD_REJECTED 1))

/-- R463–R469, R516, R520 and R521: hot-plug slots and station resets, where their conditions hold. -/
def Obligations.SlotAndStationCommandsComplete : Prop :=
  ∀ s : State,
    (∀ (k : Fin 12), s.slotState k = Slot.empty → s.flag (F.HPC_SLOT_CFG_AUTO_ON k) = false → Answers (.slotInsertion k) s (fun t =>
      t.slotState k = Slot.off ∧ t.flag (F.HPC_SLOT_STATUS_PRESENT k) = true ∧ t.flag (F.HPC_SLOT_STATUS_PRESENT_CHG k) = true ∧
      SameFields [F.HPC_SLOT_STATUS_STATE k, F.HPC_SLOT_STATUS_PRESENT k, F.HPC_SLOT_STATUS_PRESENT_CHG k, F.HPC_SUMMARY_PRESENT,
      F.HPC_SUMMARY_POWERED, F.HPC_SLOT_CTRL_PWR_REQ k] s t)) ∧
    (∀ (k : Fin 12), s.slotState k = Slot.empty → s.flag (F.HPC_SLOT_CFG_AUTO_ON k) = true → s.flag F.SYS_PACE_STATUS_CLOSED = true →
      Answers (.slotInsertion k) s (fun t => t.slotState k = Slot.powering ∧ t.flag (F.HPC_SLOT_STATUS_PRESENT k) = true ∧ (t.fld
      F.HPC_SUMMARY_POWERED).testBit k.val = true)) ∧
    (∀ (k : Fin 12), (s.slotState k = Slot.off ∨ s.slotState k = Slot.waitOn) → Answers (.slotRemoval k) s (fun t => t.slotState k =
      Slot.empty ∧ t.flag (F.HPC_SLOT_STATUS_PRESENT k) = false ∧ t.flag (F.HPC_SLOT_STATUS_PRESENT_CHG k) = true ∧ SameFields
      [F.HPC_SLOT_STATUS_STATE k, F.HPC_SLOT_STATUS_PRESENT k, F.HPC_SLOT_STATUS_PRESENT_CHG k, F.HPC_SUMMARY_PRESENT,
      F.HPC_SUMMARY_POWERED, F.HPC_SLOT_CTRL_PWR_REQ k] s t)) ∧
    (∀ (k : Fin 12), slotHigh (s.slotState k) = true → Answers (.slotRemoval k) s (fun t => t.slotState k = Slot.empty ∧ t.flag
      (F.HPC_SLOT_STATUS_PRESENT k) = false ∧ t.flag (F.HPC_SLOT_STATUS_SURPRISE k) = true ∧ (k.val < 8 → t.station k = {} ∧ t.puState (2
      * k) = Pu.off ∧ t.puState (2 * k + 1) = Pu.off ∧ t.spnState k = Spn.off))) ∧
    (∀ (k : Fin 12), (s.slotState k = Slot.off ∨ s.slotState k = Slot.on ∨ s.slotState k = Slot.waitOn ∨ s.slotState k = Slot.waitOff) →
      Answers (.slotButton k) s (fun t => t.slotState k = (if s.slotState k = Slot.off then Slot.waitOn else if s.slotState k = Slot.on
      then Slot.waitOff else if s.slotState k = Slot.waitOn then Slot.off else Slot.on) ∧ SameFields [F.HPC_SLOT_STATUS_STATE k,
      F.HPC_SUMMARY_POWERED, F.HPC_SLOT_CTRL_PWR_REQ k] s t)) ∧
    (∀ (k : Fin 12), (s.slotState k = Slot.waitOn ∨ s.slotState k = Slot.waitOff) → Answers (.slotAbortReq k) s (fun t => t.slotState k =
      (if s.slotState k = Slot.waitOn then Slot.off else Slot.on) ∧ SameFields [F.HPC_SLOT_STATUS_STATE k, F.HPC_SUMMARY_POWERED,
      F.HPC_SLOT_CTRL_PWR_REQ k] s t)) ∧
    (∀ (k : Fin 12), slotHigh (s.slotState k) = true → Answers (.slotPowerFault k) s (fun t => t.slotState k = Slot.fault ∧ t.flag
      (F.HPC_SLOT_STATUS_PWR_FAULT k) = true ∧ (k.val < 8 → t.station k = {} ∧ t.puState (2 * k) = Pu.off ∧ t.puState (2 * k + 1) =
      Pu.off ∧ t.spnState k = Spn.off))) ∧
    (∀ (k : Fin 12), s.slotState k = Slot.waitOn → s.flag F.SYS_PACE_STATUS_CLOSED = true → Answers (.slotBlinkExpiry k) s (fun t =>
      t.slotState k = Slot.powering ∧ SameFields [F.HPC_SLOT_STATUS_STATE k, F.HPC_SUMMARY_POWERED, F.HPC_SLOT_CTRL_PWR_REQ k] s t)) ∧
    (∀ (k : Fin 12), k.val < 8 → s.slotState k = Slot.powering → Answers (.slotSettled k) s (fun t => t.fld (F.SRV_LDD_CTRL_LINK_EN (2 *
      k)) = 1 ∧ t.fld (F.SRV_LDD_CTRL_LINK_EN (2 * k + 1)) = 1 ∧ t.fld (F.SRV_LOOP_IN_SEL_A (2 * k) 0) = 1 ∧ t.fld (F.SRV_LOOP_SECT_EN_EN
      (2 * k) 0) = 0x100F ∧ t.fld (F.SRV_LOOP_LIM_HI_LIM_HI (2 * k + 1) 3) = 4194304)) ∧
    (∀ (k : Fin 12) (q : Nat), k.val = 7 + q → 1 ≤ q → s.slotState k = Slot.powering → s.portMayTrain q = true → (s.port q).phase = .idle
      → Answers (.slotSettled k) s (fun t => t = s.setPort q { s.port q with phase := .training })) ∧
    (∀ (k : Fin 12), s.slotState k = Slot.powering → s.broughtUp k = true → 8 ≤ k.val → Answers (.slotBringupDone k) s (fun t =>
      t.slotState k = Slot.on ∧ SameFields [F.HPC_SLOT_STATUS_STATE k, F.HPC_SUMMARY_POWERED, F.HPC_SLOT_CTRL_PWR_REQ k] s t)) ∧
    (∀ (k : Fin 12), s.slotState k = Slot.powering → s.broughtUp k = true → k.val < 8 → Answers (.slotBringupDone k) s (fun t =>
      t.slotState k = Slot.on ∧ t.station k = { state := 1 })) ∧
    (∀ (k : Fin 12), s.slotState k = Slot.powering → Answers (.slotBringupTimeout k) s (fun t => t.slotState k = Slot.fault ∧ t.flag
      (F.HPC_SLOT_STATUS_BRINGUP_FAIL k) = true)) ∧
    (∀ (k : Fin 12), s.slotState k = Slot.draining → k.val < 8 → s.stationCmds k = [] → (s.station k).disc = none → s.flag
      (F.SPN_CTRL_RUN k) = false → s.atRest k = true → Answers (.slotDrainDone k) s (fun t => t.slotState k = Slot.off ∧ t.station k = {}
      ∧ t.spnState k = Spn.off)) ∧
    (∀ (k : Fin 12), s.slotState k = Slot.draining → Answers (.slotDrainTimeout k) s (fun t => t.slotState k = Slot.off ∧ (k.val < 8 →
      t.station k = {} ∧ t.spnState k = Spn.off))) ∧
    (∀ (k : Fin 12), s.slotState k = Slot.off → s.flag F.SYS_PACE_STATUS_CLOSED = true → Answers (.pwrReqSet k) s (fun t => t.slotState k
      = Slot.powering ∧ t.flag (F.HPC_SLOT_CTRL_PWR_REQ k) = true ∧ SameFields [F.HPC_SLOT_STATUS_STATE k, F.HPC_SUMMARY_POWERED,
      F.HPC_SLOT_CTRL_PWR_REQ k] s t)) ∧
    (∀ (k : Fin 12), s.slotState k ≠ Slot.off → Answers (.pwrReqSet k) s (fun t => t = s.put (F.HPC_SLOT_STATUS_REJECTED k) 1)) ∧
    (∀ (k : Fin 12), s.slotState k = Slot.on → s.flag F.SYS_PACE_STATUS_CLOSED = true → k.val < 8 → (s.stationCmds k).any (fun e =>
      e.2.phase == .admitted) = true → Answers (.pwrReqClear k) s (fun t => t.slotState k = Slot.draining ∧ (t.station k).drainWait =
      true ∧ SameFields [F.HPC_SLOT_STATUS_STATE k, F.HPC_SUMMARY_POWERED, F.HPC_SLOT_CTRL_PWR_REQ k] s t)) ∧
    (∀ (k : Fin 12), s.slotState k = Slot.fault → Answers (.slotFaultClear k) s (fun t => t.slotState k = (if s.flag
      (F.HPC_SLOT_STATUS_PRESENT k) then Slot.off else Slot.empty) ∧ t.flag (F.HPC_SLOT_STATUS_PWR_FAULT k) = false ∧ SameFields
      [F.HPC_SLOT_STATUS_STATE k, F.HPC_SLOT_STATUS_PWR_FAULT k, F.HPC_SUMMARY_POWERED, F.HPC_SLOT_CTRL_PWR_REQ k] s t)) ∧
    (∀ (st : Fin 8), s.fld (F.HPC_SLOT_STATUS_STATE st) = 4 → s.fw.roll = none → s.fw.stationResets.contains st.val = false → Answers
      (.stationReset st) s (fun t => t.fw.stationResets = s.fw.stationResets ++ [st.val] ∧ (t.fld F.SYS_RESET_STATUS_STN_BUSY).testBit
      st.val = true)) ∧
    (∀ (st : Fin 8), st.val ∈ s.fw.stationResets → (s.fld F.EVT_RANGE_EN_EN).testBit 14 = true → Answers (.resetDone st) s (fun t =>
      t.fw.stationResets = s.fw.stationResets.filter (fun x => x != st.val) ∧ (t.fld F.SYS_RESET_STATUS_STN_BUSY).testBit st.val = false
      ∧ (∃ e ∈ t.events.posted, e.code = 0x0F17)))

/-- R492, R496–R504 and R524: firmware update, where its conditions hold. -/
def Obligations.FirmwareCommandsComplete : Prop :=
  ∀ s : State,
    (∀ (slot : Fin 2), s.fw.roll = none → s.fw.summit = none → (s.codeUsed 0 = false ∨ s.codeUsed 1 = false) → Answers (.fwVerify slot) s
      (fun t => t.fw.verifying = some slot.val ∧ t.fw.staged = none ∧ t.fld F.FWU_CTRL_SLOT = slot.val ∧ t.fld F.FWU_STATUS_STATE = 1)) ∧
    (∀ (slot : Fin 2), (s.fw.roll.isSome = true ∨ s.fw.summit.isSome = true ∨ (s.codeUsed 0 = true ∧ s.codeUsed 1 = true)) → Answers
      (.fwVerify slot) s (fun t => t.flag F.FWU_STATUS_REJECTED = true ∧ t.fw = s.fw)) ∧
    (∀ (slot : Nat), s.fw.verifying = some slot → Answers (.fwVerifyDone) s (fun t => t.fw.verifying = none ∧ (∀ im, s.imageIn slot = .ok
      im → t.fw.staged = some im ∧ Table.at none t.fw.code t.fw.stagedIn = some im ∧ t.fld F.FWU_STATUS_STAGED_SLOT = im.slot % 2) ∧ (∀
      x, s.imageIn slot = .error x → t.flag F.FWU_STATUS_VERIFY_FAIL = true ∧ t.fld F.FWU_STATUS_ERR_CODE = x % 16 ∧ t.fw.staged =
      s.fw.staged))) ∧
    (∀ (slot : Fin 2), Answers (.fwBootSlotWrite slot) s (fun t => t.fld F.FWU_BOOT_SLOT = slot.val ∧ (t.fw.bootA.slot = slot.val ∨
      t.fw.bootB.slot = slot.val) ∧ SameFields [F.FWU_BOOT_SLOT] s t)) ∧
    (∀ (h st p : Nat) (rest ps : List Nat) (c : Cmd), s.cmd? h = some c → c.id.op = Op.fwActivate → c.phase = .started → c.started =
      false → c.id.summitMode = false → s.root = true → c.id.classMask ≠ 0 → c.id.classMask.testBit 0 = false → s.fw.roll = none →
      s.fw.summit = none → s.mayActivate c.id.classMask = true → (List.range 8).filter (fun x => s.slotState x == Slot.on) = st :: rest →
      (stationProcs st).filter (fun x => c.id.classMask.testBit (procClass x)) = p :: ps → (s.station st).disc = none → (s.stationCmds
      st).any (fun e => e.2.phase == .admitted) = false → s.fw.stationHold = [] → Answers (.fwActivateRolling h) s (fun t => t.fw.roll =
      some
      { cmd := some h, classes := c.id.classMask, stations := rest, station := some st, procs := ps, current := some p, prev := s.codeSlot p }
      ∧ t.codeSlot p = (if s.fw.stagedIn = 1 then 1 else 0) ∧ t.fw.stationHold = [st] ∧ (t.cmd h).started = true)) ∧
    (∀ (h : Nat) (c : Cmd), s.cmd? h = some c → c.id.op = Op.fwActivate → c.phase = .started → c.mute = false → c.started = false →
      c.id.summitMode = false → s.root = true → c.id.classMask = 0 → s.fw.roll = none → Answers (.fwActivateRolling h) s (fun t => t =
      s.finish h { status := Status.success })) ∧
    (∀ (classes : Fin 16) (st p : Nat) (rest ps : List Nat), s.root = false → s.fw.roll = none → s.fw.summit = none → s.mayActivate
      (classes.val &&& 14) = true → (List.range 8).filter (fun x => s.slotState x == Slot.on) = st :: rest → (stationProcs st).filter
      (fun x => (classes.val &&& 14).testBit (procClass x)) = p :: ps → (s.station st).disc = none → (s.stationCmds st).any (fun e =>
      e.2.phase == .admitted) = false → s.fw.stationHold = [] → Answers (.fwRoll classes) s (fun t => t.fw.roll = some
      { cmd := none, classes := classes.val &&& 14, stations := rest, station := some st, procs := ps, current := some p, prev := s.codeSlot p }
      ∧ t.codeSlot p = (if s.fw.stagedIn = 1 then 1 else 0) ∧ t.fld F.FWU_CTRL_CLASSES = classes.val)) ∧
    (∀ (r : FwRoll) (st : Nat), s.fw.roll = some r → r.current.isSome = true → r.station = some st → s.stationPresent st = true → Answers
      (.fwCancel) s (fun t => t.fw.roll = some { r with cancelled := true } ∧ (∀ p : Nat, t.codeSlot p = s.codeSlot p))) ∧
    (∀ (h : Nat) (c : Cmd), s.cmd? h = some c → c.mayRun Op.fwActivate = true → c.id.summitMode = true → c.id.classMask ≠ 0 →
      c.id.classMask < 16 → s.root = true → s.fw.roll = none → s.fw.summit = none → s.ct + (max 1 (min 10000 (s.fld F.FWU_CFG_DRAIN_MS))
      + 10) * 1000000 ≤ c.id.timeField → s.mayActivate c.id.classMask = true → Answers (.fwActivateSummit h) s (fun t => t.fw.summit =
      some { time := c.id.timeField, mask := c.id.classMask, cmd := some h } ∧ t.fld F.FWU_STATUS_STATE = 4 ∧ t.fld
      F.FWU_SUMMIT_MASK_CLASSES = c.id.classMask ∧ (t.cmd h).started = true)) ∧
    (∀ (h : Nat) (c : Cmd) (m : FwSummit), s.cmd? h = some c → c.mayRun Op.fwActivate = true → c.mute = false → c.id.summitMode = true →
      c.id.classMask = 0 → s.root = true → s.fw.summit = some m → m.started = false → s.fw.draining = false → m.cmd ≠ some h → Answers
      (.fwSummitCancel h) s (fun t => t.fw.summit = none ∧ (t.cmd h).phase = .ended ∧ (t.cmd h).res.status = Status.success ∧ t.fld
      F.MBL_PROTO_NEXT = 0)) ∧
    (∀ (e : InPacket) (rest : List InPacket), s.mbl.inbox = e :: rest → isMgmt Mgmt.summitSet e.packet = true → s.root = false →
      (mgmtBody e.packet).getD 0 0 = 0 → s.fw.roll = none → s.fw.summit = none → s.mayActivate ((mgmtBody e.packet).getD 1 0 % 16) = true
      → Answers (.summitSet) s (fun t => t.fw.summit = some
      { time := leField (mgmtBody e.packet) 4 8, mask := (mgmtBody e.packet).getD 1 0 % 16 } ∧ t.fld F.FWU_STATUS_STATE = 4)) ∧
    (∀ (e : InPacket) (rest : List InPacket) (m : FwSummit), s.mbl.inbox = e :: rest → isMgmt Mgmt.summitSet e.packet = true → s.root =
      false → (mgmtBody e.packet).getD 0 0 = 1 → s.fw.summit = some m → Answers (.summitSet) s (fun t => t.fw.summit = none ∧
      t.fw.draining = false ∧ t.fld F.MBL_PROTO_NEXT = 0 ∧ t.mbl.inbox = rest)) ∧
    (∀ (m : FwSummit), s.fw.summit = some m → m.started = false → m.time ≤ s.ct + max 1 (min 10000 (s.fld F.FWU_CFG_DRAIN_MS)) * 1000000
      → Answers (.summitDrainStart) s (fun t => t = { s with fw := { s.fw with draining := true } })) ∧
    (∀ (m : FwSummit), s.fw.summit = some m → m.started = false → m.done = false → m.time ≤ s.ct → m.mask.testBit 0 = true → Answers
      (.summit) s (fun t => t.fw.draining = true ∧ t.fld F.MBL_PROTO_LEVEL = s.fld F.MBL_PROTO_NEXT ∧ t.fw.summit = some
      { m with started := true, waiting := s.running.filter (fun p => m.mask.testBit (procClass p)), before := (s.running.filter (fun p => m.mask.testBit (procClass p))).map (fun p => (p, s.codeSlot p)), level := s.fld F.MBL_PROTO_LEVEL })) ∧
    (∀ (p : Fin 36) (r : FwRoll), s.fw.summit = none → s.fw.roll = some r → r.current = some p.val → s.procRuns p = true → p.val < 32 →
      s.fld F.FWU_STATUS_PROGRESS < 255 → Answers (.processorReady p) s (fun t => t.fld F.FWU_STATUS_PROGRESS = s.fld
      F.FWU_STATUS_PROGRESS + 1 ∧ (t.fld F.FWU_PENDING_LO_PENDING).testBit p.val = false)) ∧
    (∀ (p : Fin 36) (r : FwRoll), s.fw.summit = none → s.fw.roll = some r → r.current = some p.val → Answers (.activationTimeout p) s
      (fun t => t.fw.roll = none ∧ t.codeSlot p = (if r.prev = 1 then 1 else 0) ∧ t.flag F.FWU_STATUS_ACT_FAIL = true)) ∧
    (∀ (p : Fin 36) (watchdog : Bool) (st : Nat), procStation p = some st → s.fld (F.HPC_SLOT_STATUS_STATE st) = 4 → s.fw.roll = none →
      s.fw.stationResets.contains st = false → Answers (.processorFault p watchdog) s (fun t => t.fw.stationResets = s.fw.stationResets
      ++ [st])) ∧
    (∀ (p : Fin 36) (watchdog : Bool), 32 ≤ p.val → Answers (.processorFault p watchdog) s (fun t => (p.val = 32 → [0, 1, 2, 3].all (fun
      f => t.flag (F.HIF_FUNC_STATUS_WEDGED f)) = true) ∧ t.flag (F.HIF_FUNC_STATUS_WEDGED (p.val - 32)) = true))

/-- R452–R454: operations across the tree. -/
def Obligations.BarriersSnapshotsAndTreeResetsComplete : Prop :=
  ∀ s : State,
    (∀ (e : InPacket) (rest : List InPacket), s.mbl.inbox = e :: rest → isMgmt Mgmt.barrier e.packet = true → s.root = false →
      s.mbl.snap.armed = false → e.copies = [] → s.mbl.barriers = [] → s.events.posted = [] → Answers (.barrier) s (fun t => t =
      ({ s with mbl := { s.mbl with inbox := rest } } : State).sendOn 0 (mgmtPacket s 0 Mgmt.barrierAck 0 [(mgmtBody e.packet).getD 0
      0]))) ∧
    (∀ (e : InPacket) (rest : List InPacket), s.mbl.inbox = e :: rest → isMgmt Mgmt.barrier e.packet = true → s.root = false →
      s.mbl.snap.armed = false → e.copies.filter (fun q => s.treePorts.contains q) ≠ [] → s.mbl.barriers = [] → Answers (.barrier) s (fun
      t => t.mbl.barriers = [⟨(mgmtBody e.packet).getD 0 0, e.copies.filter (fun q => s.treePorts.contains q), 0⟩] ∧ t.mbl.inbox = rest ∧
      SameFields [] s t)) ∧
    (∀ (e : InPacket) (rest : List InPacket) (bar : Barrier), s.mbl.inbox = e :: rest → isMgmt Mgmt.barrierAck e.packet = true →
      s.mbl.barriers = [bar] → bar.number = (mgmtBody e.packet).getD 0 0 → bar.waiting.filter (fun q => q != e.port) ≠ [] → Answers
      (.barrierAck) s (fun t => t.mbl.barriers = [{ bar with waiting := bar.waiting.filter (fun q => q != e.port) }] ∧ t.mbl.inbox = rest
      ∧ SameFields [] s t)) ∧
    (∀ (e : InPacket) (rest : List InPacket) (bar : Barrier), s.mbl.inbox = e :: rest → isMgmt Mgmt.barrierAck e.packet = true →
      s.mbl.barriers = [bar] → bar.number = (mgmtBody e.packet).getD 0 0 → bar.waiting = [e.port] → s.root = false → s.events.posted = []
      → Answers (.barrierAck) s (fun t => t.mbl.barriers = [] ∧ (t.port 0).replay.length = (s.port 0).replay.length + 1)) ∧
    (∀ (h : Nat) (c : Cmd), s.cmd? h = some c → c.mayRun Op.snapshot = true → s.mbl.snap.cmd = none → s.root = true → s.ct + s.treeDepth
      * 900 + 10000 ≤ c.id.timeField → Answers (.snapshot h) s (fun t => t.mbl.snap =
      { armed := true, time := c.id.timeField, cmd := some h } ∧ (t.cmd h).started = true)) ∧
    (∀ (e : InPacket) (rest : List InPacket), s.mbl.inbox = e :: rest → isMgmt Mgmt.snapArm e.packet = true → (mgmtBody e.packet).getD 0
      0 = 0 → s.root = false → s.ct ≤ leField (mgmtBody e.packet) 4 8 → Answers (.snapArm) s (fun t => t =
      { s with mbl := { s.mbl with inbox := rest, snap := { armed := true, time := leField (mgmtBody e.packet) 4 8 } } })) ∧
    (∀ (e : InPacket) (rest : List InPacket), s.mbl.inbox = e :: rest → isMgmt Mgmt.snapArm e.packet = true → (mgmtBody e.packet).getD 0
      0 = 1 → s.root = true → s.mbl.snap.cmd.isSome = true → Answers (.snapArm) s (fun t => t =
      { s with mbl := { s.mbl with inbox := rest, snap := { s.mbl.snap with gathered := Table.put [] s.mbl.snap.gathered e.packet.src (padTo 512 (((mgmtBody e.packet).drop 4).take 500)) } } })) ∧
    (s.root = false → s.mbl.snap.armed = true → s.mbl.snap.time ≤ s.ct → Answers (.snapshotLatch) s (fun t => t =
      ({ s with mbl := { s.mbl with snap := {} } } : State).route (mgmtPacket s 0 Mgmt.snapArm 0 ([1, 0, 0, 0] ++ (s.snapRecord
      s.mbl.snap.time false).take 500)))) ∧
    (∀ (target : BitVec 24), s.root = true → s.mbl.resetWait = none → s.ownId target.toNat = true → s.openPorts = [] → (List.range 8).all
      (fun st => s.fld (F.HPC_SLOT_STATUS_STATE st) == 4 && !s.fw.stationResets.contains st) = true → s.fw.roll = none → Answers
      (.treeResetStation target) s (fun t => t.fw.stationResets = s.fw.stationResets ++ List.range 8 ∧ t.flag F.MBL_RESET_BUSY = true ∧
      t.mbl.resetWait = some (1, []) ∧ t.fld F.MBL_RESET_KIND = 1 ∧ t.fld F.MBL_RESET_TARGET = target.toNat)) ∧
    (∀ (target : BitVec 24) (q : Nat), s.root = true → s.mbl.resetWait = none → s.ownId target.toNat = false → s.portFor target.toNat =
      some q → s.flag (F.MBL_PORT_STATUS_UP q) = true → Answers (.treeResetStation target) s (fun t => t.flag F.MBL_RESET_BUSY = true ∧
      t.mbl.resetWait = some (1, [q]) ∧ t.flag (F.MBL_PORT_STATUS_FENCED q) = false ∧ (t.port q).replay.length = (s.port q).replay.length
      + 1)) ∧
    (∀ (target last : BitVec 24) (q : Nat), s.root = true → s.mbl.resetWait = none → s.ownId target.toNat = false → s.portFor
      target.toNat = some q → s.flag (F.MBL_PORT_STATUS_UP q) = true → Answers (.treeResetDevice target last) s (fun t => t.flag
      F.MBL_RESET_BUSY = true ∧ t.mbl.resetWait = some (2, [q]) ∧ t.mbl.fwd = s.mbl.fwd.filter (fun w => !(decide (target.toNat ≤ w.dest)
      && decide (w.dest ≤ last.toNat))) ∧ t.fld F.MBL_RESET_KIND = 2)) ∧
    (∀ (e : InPacket) (rest : List InPacket), s.root = false → s.mbl.inbox = e :: rest → e.packet.type = Pkt.reset → e.port = 0 →
      e.packet.payload.getD 0 0 = 1 → (List.range 8).all (fun st => s.fld (F.HPC_SLOT_STATUS_STATE st) == 4 &&
      !s.fw.stationResets.contains st) = true → s.fw.roll = none → Answers (.resetPacket) s (fun t => t.fw.stationResets =
      s.fw.stationResets ++ List.range 8 ∧ t.mbl.resetWait = some (1, e.copies.filter (fun q => s.openPorts.contains q)) ∧ t.mbl.inbox =
      rest)) ∧
    (∀ (e : InPacket) (rest : List InPacket) (q : Nat), s.root = true → s.mbl.inbox = e :: rest → e.packet.type = Pkt.reset → e.port = q
      → s.mbl.resetWait = some (1, [q]) → s.fw.stationResets = [] → Answers (.treeResetAck) s (fun t => t.flag F.MBL_RESET_BUSY = false ∧
      t.flag F.MBL_RESET_DONE = true ∧ t.mbl.resetWait = none ∧ t.mbl.inbox = rest ∧ SameFields [F.MBL_RESET_BUSY, F.MBL_RESET_DONE] s
      t))

/-- R371, R122, R294, R312 and R486: IDENTIFY and GET_LOG. -/
def Obligations.RecordsAndLogsAnswer : Prop :=
  ∀ s : State,
    (∀ (h : Nat) (c : Cmd), s.cmd? h = some c → c.mayRun Op.identify = true → s.mayDeliver h = true → c.origin = .ring → c.mute = false →
      c.id.body.getD 0 0 = 0 → Answers (.identifyController h) s (fun t => (t.cmd h).phase = .ended ∧ (t.cmd h).res.status =
      Status.success ∧ (t.cmd h).res.done = 4096 ∧ t.sent = s.sent ++ s.bufferWrites c.id.fn c.data.src 0 s.controllerRecord false ∧
      SameFields [F.HIF_LINK_STATUS_PM] s t)) ∧
    (∀ (h : Nat) (c : Cmd), s.cmd? h = some c → c.mayRun Op.identify = true → s.mayDeliver h = true → c.origin = .ring → c.mute = false →
      c.id.body.getD 0 0 = 1 → Answers (.identifyStation h) s (fun t => (t.cmd h).phase = .ended ∧ (t.cmd h).res.status = Status.success
      ∧ (t.cmd h).res.done = 4096 ∧ t.sent = s.sent ++ s.bufferWrites c.id.fn c.data.src 0 (s.stationRecord (c.id.body.getD 1 0)) false ∧
      SameFields [F.HIF_LINK_STATUS_PM] s t)) ∧
    (∀ (h : Nat) (c : Cmd) (bs : List Nat), s.cmd? h = some c → c.mayRun Op.getLog = true → s.mayDeliver h = true → c.origin = .ring →
      c.mute = false → c.id.body.getD 0 0 ≠ 1 → s.logBytes (c.id.body.getD 0 0) (c.id.body.getD 1 0) = some bs → leField c.id.body 4 4 +
      leField c.id.body 8 4 ≤ bs.length → Answers (.getLog h) s (fun t => (t.cmd h).phase = .ended ∧ (t.cmd h).res.status =
      Status.success ∧ (t.cmd h).res.done = leField c.id.body 8 4 ∧ t.sent = s.sent ++ s.bufferWrites c.id.fn c.data.src 0 ((bs.drop
      (leField c.id.body 4 4)).take (leField c.id.body 8 4)) false ∧ SameFields [F.HIF_LINK_STATUS_PM] s t)) ∧
    (∀ (h : Nat) (c : Cmd), s.cmd? h = some c → c.mayRun Op.getLog = true → s.mayDeliver h = true → c.mute = false → s.logBytes
      (c.id.body.getD 0 0) (c.id.body.getD 1 0) = none → Answers (.getLog h) s (fun t => (t.cmd h).phase = .ended ∧ (t.cmd h).res.status
      = Status.invalidField))

/-- R15, R451, R555, R556 and R560: register access. -/
def Obligations.RegisterAccessCommandsComplete : Prop :=
  ∀ s : State,
    (∀ (who : Requester) (f : Fin 4) (off : BitVec 20) (len id : Nat), who = .host f → s.fw.booted = true → s.fld
      (F.HIF_FUNC_STATUS_D_STATE f) ≠ 3 → s.flag (F.HIF_FUNC_STATUS_FLR_BUSY f) = false → Answers (.registerRead who off len id) s (fun t
      => (∃ bs : List Nat, bs.length = len ∧ .reply id .success bs ∈ t.sent))) ∧
    (∀ (who : Requester) (f : Fin 4) (st : Fin 8) (off : BitVec 20) (len id : Nat), who = .host f → f = 0 → s.fw.booted = true → s.fld
      (F.HIF_FUNC_STATUS_D_STATE 0) = 0 → s.flag (F.HIF_FUNC_STATUS_FLR_BUSY 0) = false → off.toNat = 0x40010 + 0x100 * st.val → len = 4
      → Answers (.registerRead who off len id) s (fun t => .reply id .success (leBytes 4 (s.fld (F.SPN_ACC_ACC st) + 65536 * s.fld
      (F.SPN_ACC_DEC st))) ∈ t.sent)) ∧
    (∀ (who : Requester) (st : Fin 8) (off : BitVec 20) (shape : WriteShape) (values : List Word) (v : Word), who = .host 0 → s.fw.booted
      = true → s.fld (F.HIF_FUNC_STATUS_D_STATE 0) = 0 → s.flag (F.HIF_FUNC_STATUS_FLR_BUSY 0) = false → off.toNat = 0x40010 + 0x100 *
      st.val → shape = ⟨4, true, false⟩ → values = [v] → Answers (.registerWrite who off shape values) s (fun t => t.fld (F.SPN_ACC_ACC
      st) = v.toNat % 65536 ∧ t.fld (F.SPN_ACC_DEC st) = v.toNat / 65536 ∧ SameFields [F.SPN_ACC_ACC st, F.SPN_ACC_DEC st,
      F.HIF_LINK_STATUS_PM] s t)) ∧
    (∀ (who : Requester) (st : Fin 8) (off : BitVec 20) (shape : WriteShape) (values : List Word) (v : Word), who = .host 0 → s.fw.booted
      = true → s.fld (F.HIF_FUNC_STATUS_D_STATE 0) = 0 → s.flag (F.HIF_FUNC_STATUS_FLR_BUSY 0) = false → off.toNat = 0x4000C + 0x100 *
      st.val → shape = ⟨4, true, false⟩ → values = [v] → v.toNat.testBit 4 = false → Answers (.registerWrite who off shape values) s (fun
      t => t.flag (F.SPN_STATUS_ROTOR_LOSS st) = (s.flag (F.SPN_STATUS_ROTOR_LOSS st) && !v.toNat.testBit 0) ∧ t.flag
      (F.SPN_STATUS_CAUGHT st) = (s.flag (F.SPN_STATUS_CAUGHT st) && !v.toNat.testBit 1) ∧ t.flag (F.SPN_STATUS_CHOP_FAULT st) = s.flag
      (F.SPN_STATUS_CHOP_FAULT st) ∧ t.flag (F.SPN_STATUS_TARGET_REJECTED st) = (s.flag (F.SPN_STATUS_TARGET_REJECTED st) &&
      !v.toNat.testBit 7))) ∧
    (s.root = true → s.mbl.remBusy = none → Answers (.remoteRead) s (fun t => (∃ tag, t =
      ({ s with mbl := { s.mbl with remBusy := some tag, nextTag := tag + 1 } } : State).route (mgmtPacket s (s.fld F.MBL_REM_ID_ID)
      Mgmt.regRead tag (leBytes 4 (s.fld F.MBL_REM_OFS_OFS)))))) ∧
    (s.root = true → s.mbl.remBusy = none → Answers (.remoteWrite) s (fun t => (∃ tag, t =
      ({ s with mbl := { s.mbl with remBusy := some tag, nextTag := tag + 1 } } : State).route (mgmtPacket s (s.fld F.MBL_REM_ID_ID)
      Mgmt.regWrite tag (leBytes 4 (s.fld F.MBL_REM_OFS_OFS) ++ leBytes 4 (s.fld F.MBL_REM_DATA_DATA)))))) ∧
    ((s.root = false ∨ s.mbl.remBusy.isSome = true) → Answers (.remoteRead) s (fun t => t = s.put F.MBL_REM_CTRL_ERR 1)) ∧
    (∀ (e : InPacket) (rest : List InPacket) (st : Fin 8), s.mbl.inbox = e :: rest → isMgmt Mgmt.regRead e.packet = true → leField
      (mgmtBody e.packet) 0 4 = 0x40010 + 0x100 * st.val → Answers (.regRead) s (fun t => t =
      ({ s with mbl := { s.mbl with inbox := rest } } : State).route (mgmtPacket s e.packet.src Mgmt.regData e.packet.tag (leBytes 4
      (0x40010 + 0x100 * st.val) ++ leBytes 4 (s.fld (F.SPN_ACC_ACC st) + 65536 * s.fld (F.SPN_ACC_DEC st)))))) ∧
    (∀ (e : InPacket) (rest : List InPacket) (st : Fin 8) (v : Nat), s.mbl.inbox = e :: rest → isMgmt Mgmt.regWrite e.packet = true →
      leField (mgmtBody e.packet) 0 4 = 0x40010 + 0x100 * st.val → v = leField (mgmtBody e.packet) 4 4 → v < 2 ^ 32 → s.ownId
      e.packet.src = false → s.portFor e.packet.src = none → s.root = false → s.flag (F.MBL_PORT_STATUS_UP 0) = true → Answers
      (.regWrite) s (fun t => t.fld (F.SPN_ACC_ACC st) = v % 65536 ∧ t.fld (F.SPN_ACC_DEC st) = v / 65536 ∧ (t.port 0).replay.length =
      (s.port 0).replay.length + 1 ∧ t.mbl.inbox = rest)) ∧
    (∀ (e : InPacket) (rest : List InPacket), s.mbl.inbox = e :: rest → isMgmt Mgmt.regData e.packet = true → s.mbl.remBusy = some
      e.packet.tag → Answers (.regData) s (fun t => t.fld F.MBL_REM_DATA_DATA = leField (mgmtBody e.packet) 4 4 % 2 ^ 32 ∧ t.mbl.remBusy
      = none ∧ t.mbl.inbox = rest ∧ SameFields [F.MBL_REM_DATA_DATA] s t)) ∧
    (s.mbl.remBusy.isSome = true → Answers (.remoteAccessTimeout) s (fun t => t = ({ s with mbl := { s.mbl with remBusy := none } } :
      State).put F.MBL_REM_CTRL_ERR 1))
end

