-- ==== Sys2Proof/Laws/Crc.lean ====
section
/-!
SUPPORT. Byte order and CRC-32C: bytes and the number they spell determine each other, and a CRC is a number of 32 bits.
-/
set_option Elab.async false
set_option linter.all false
namespace Sys2Proof.Machine

@[simp] theorem leBytes_length (n v : Nat) : (leBytes n v).length = n := by
  induction n generalizing v with
  | zero => rfl
  | succ n ih => simp [leBytes, ih]

theorem leBytes_lt (n v : Nat) : ∀ x ∈ leBytes n v, x < 256 := by
  induction n generalizing v with
  | zero => simp [leBytes]
  | succ n ih =>
    simp only [leBytes, List.mem_cons, forall_eq_or_imp]
    exact ⟨Nat.mod_lt _ (by decide), ih _⟩

theorem ofLeBytes_leBytes (n v : Nat) : ofLeBytes (leBytes n v) = v % 256 ^ n := by
  induction n generalizing v with
  | zero => simp [leBytes, ofLeBytes, Nat.mod_one]
  | succ n ih => simp only [leBytes, ofLeBytes, ih, Nat.mod_mod]; rw [Nat.pow_succ', Nat.mod_mul]

theorem leBytes_ofLeBytes (bs : List Nat) (h : ∀ x ∈ bs, x < 256) : leBytes bs.length (ofLeBytes bs) = bs := by
  induction bs with
  | nil => rfl
  | cons b bs ih =>
    have hb : b < 256 := h b (by simp)
    simp only [List.length_cons, ofLeBytes, leBytes]
    rw [show (b % 256 + 256 * ofLeBytes bs) % 256 = b by omega,
      show (b % 256 + 256 * ofLeBytes bs) / 256 = ofLeBytes bs by omega, ih fun x hx => h x (by simp [hx])]

theorem ofLeBytes_lt (bs : List Nat) : ofLeBytes bs < 256 ^ bs.length := by
  induction bs with
  | nil => simp [ofLeBytes]
  | cons b bs ih =>
    simp only [ofLeBytes, List.length_cons, Nat.pow_succ]
    have := Nat.mod_lt b (show 0 < 256 by decide)
    omega

/-- Bytes above the `n` that are taken do not count. -/
theorem leBytes_mod (n v k : Nat) (h : n ≤ k) : leBytes n (v % 256 ^ k) = leBytes n v := by
  induction n generalizing v k with
  | zero => rfl
  | succ n ih =>
    obtain ⟨k, rfl⟩ : ∃ j, k = j + 1 := ⟨k - 1, by omega⟩
    simp only [leBytes]
    rw [Nat.pow_succ', Nat.mod_mul_right_mod, Nat.mod_mul_right_div_self, ih _ _ (by omega)]

theorem crc32cShift_lt (n c : Nat) (h : c < 2 ^ 32) : crc32cShift n c < 2 ^ 32 := by
  induction n generalizing c with
  | zero => exact h
  | succ n ih =>
    refine ih _ ?_
    split
    · exact Nat.xor_lt_two_pow (by omega) (by decide)
    · omega

theorem crc32cByte_lt (c b : Nat) (h : c < 2 ^ 32) : crc32cByte c b < 2 ^ 32 :=
  crc32cShift_lt 8 _ (Nat.xor_lt_two_pow h (by have := Nat.mod_lt b (show 0 < 256 by decide); omega))

theorem crc32c_lt (bytes : List Nat) : crc32c bytes < 2 ^ 32 := by
  refine Nat.xor_lt_two_pow ?_ (by decide)
  have : ∀ (l : List Nat) (c : Nat), c < 2 ^ 32 → l.foldl crc32cByte c < 2 ^ 32 := by
    intro l
    induction l with
    | nil => exact fun c h => h
    | cons b l ih => exact fun c h => ih _ (crc32cByte_lt c b h)
  exact this bytes _ (by decide)

theorem crc32c_mod (bytes : List Nat) : crc32c bytes % 256 ^ 4 = crc32c bytes := by
  have h := crc32c_lt bytes
  omega

end Sys2Proof.Machine
end

