-- ==== Sys2Proof/Laws/Disc.lean ====
section
/-!
SUPPORT. The bytes of a sector: the metadata that are written pass the checks of R52, and so does a copy of a disc format table.
-/
set_option Elab.async false
set_option linter.all false
namespace Sys2Proof.Machine

@[simp] theorem padTo_length (n : Nat) (bs : List Nat) : (padTo n bs).length = n := by
  simp only [padTo, List.length_take, List.length_append, List.length_replicate]
  omega

@[simp] theorem sectorMeta_length (psa lba role flags label stamp : Nat) (tag user : List Nat) :
    (sectorMeta psa lba role flags label stamp tag user).length = 64 := by
  simp [sectorMeta]

theorem sectorMeta_lt (psa lba role flags label stamp : Nat) (tag user : List Nat) (ht : ∀ x ∈ tag, x < 256) :
    ∀ x ∈ sectorMeta psa lba role flags label stamp tag user, x < 256 := by
  intro x hx
  simp only [sectorMeta, padTo, List.mem_append, List.mem_cons, List.not_mem_nil, or_false] at hx
  have hp : ∀ {y}, y ∈ (tag ++ List.replicate (16 - tag.length) 0).take 16 → y < 256 := fun {y} h => by
    have h := List.mem_of_mem_take h
    rw [List.mem_append] at h
    exact h.elim (ht y) fun h => by rw [List.eq_of_mem_replicate h]; decide
  rcases hx with ((((((h | h) | h) | h) | h) | h) | h) | h
  · exact leBytes_lt _ _ x h
  · exact leBytes_lt _ _ x h
  · omega
  · exact leBytes_lt _ _ x h
  · exact leBytes_lt _ _ x h
  · exact hp h
  · rw [List.eq_of_mem_replicate h]; decide
  · exact leBytes_lt _ _ x h

theorem payloadUser_append (m user : List Nat) (hm : m.length = 64) (hu : user.length = 4096) : payloadUser (m ++ user) = user := by
  unfold payloadUser
  rw [← hm, List.drop_left, ← hu, List.take_length]

/-- What is recorded for a sector passes SECTOR_CRC and PSA when it is read (R51, R52). -/
theorem sectorChecks_sectorMeta (psa lba role flags label stamp : Nat) (tag user : List Nat) (hu : user.length = 4096) (hp : psa < 2 ^ 32) :
    sectorChecks psa (sectorMeta psa lba role flags label stamp tag user ++ user) = true := by
  have hp4 : psa % 256 ^ 4 = psa := by omega
  unfold sectorChecks
  rw [payloadUser_append _ _ (sectorMeta_length ..) hu]
  unfold metaCrc metaPsa sectorMeta
  generalize hm : leBytes 4 psa ++ leBytes 4 lba ++ [role % 256, flags % 256, 0, 0] ++ leBytes 4 label ++ leBytes 8 stamp ++
    padTo 16 tag ++ List.replicate 20 0 = m
  have hl : m.length = 60 := by rw [← hm]; simp
  have h4 : m.take 4 = leBytes 4 psa := by
    rw [← hm]; simp [List.append_assoc]
  dsimp only
  have h1 : (m ++ leBytes 4 (crc32c (m ++ user)) ++ user).take 60 = m := by
    rw [List.append_assoc, ← hl, List.take_left]
  have h2 : ((m ++ leBytes 4 (crc32c (m ++ user)) ++ user).drop 60).take 4 = leBytes 4 (crc32c (m ++ user)) := by
    rw [List.append_assoc, ← hl, List.drop_left, List.take_append_of_le_length (by simp), List.take_of_length_le (by simp)]
  have h3 : (m ++ leBytes 4 (crc32c (m ++ user)) ++ user).take 4 = leBytes 4 psa := by
    rw [List.append_assoc, List.take_append_of_le_length (by omega), h4]
  rw [h1, h2, h3, ofLeBytes_leBytes, ofLeBytes_leBytes, crc32c_mod, hp4]
  simp

/-- The 4,096 user bytes of a table: `body`, then TABLE_CRC (R62). -/
def tableBytes (body : List Nat) : List Nat := body ++ leBytes 4 (crc32c body)

theorem tableCrcOk_tableBytes (body : List Nat) (h : body.length = 4092) : tableCrcOk (tableBytes body) = true := by
  unfold tableCrcOk leField tableBytes
  rw [← h, List.drop_left, List.take_left, List.take_of_length_le (by simp), ofLeBytes_leBytes, crc32c_mod]
  simp

end Sys2Proof.Machine
end

