-- ==== Sys2Proof/Laws/Sparse.lean ====
section
/-!
SUPPORT. The laws of sparse tables: a read after a write to the same key gives the value written, a write leaves every
other key alone, and a write keeps the canonical form.
-/
set_option Elab.async false
set_option linter.all false
namespace Sys2Proof.Machine
variable {α : Type}

@[simp] theorem Table.get_nil (d : Nat → α) (k : Nat) : Table.get d [] k = d k := rfl

theorem Table.get_erase_same (d : Nat → α) (m : Table α) (k : Nat) : Table.get d (Table.erase k m) k = d k := by
  induction m with
  | nil => rfl
  | cons e m ih =>
    obtain ⟨j, w⟩ := e
    by_cases h : j = k
    · simp [Table.erase, h, ih]
    · simp [Table.erase, Table.get, h, ih]

theorem Table.get_erase_ne (d : Nat → α) (m : Table α) {k a : Nat} (h : a ≠ k) :
    Table.get d (Table.erase k m) a = Table.get d m a := by
  induction m with
  | nil => rfl
  | cons e m ih =>
    obtain ⟨j, w⟩ := e
    by_cases hj : j = k
    · subst hj; simp [Table.erase, Table.get, ih, Ne.symm h]
    · by_cases ha : j = a
      · subst ha; simp [Table.erase, Table.get, hj]
      · simp [Table.erase, Table.get, hj, ha, ih]

theorem Table.get_insert_ne (d : Nat → α) (m : Table α) {k a : Nat} (v : α) (h : a ≠ k) :
    Table.get d (Table.insert k v m) a = Table.get d m a := by
  induction m with
  | nil => simp [Table.insert, Table.get, Ne.symm h]
  | cons e m ih =>
    obtain ⟨j, w⟩ := e
    by_cases hj : k < j
    · simp [Table.insert, Table.get, hj, Ne.symm h]
    · by_cases ha : j = a
      · subst ha; simp [Table.insert, Table.get, hj]
      · simp [Table.insert, Table.get, hj, ha, ih]

theorem Table.get_insert_erase (d : Nat → α) (m : Table α) (k : Nat) (v : α) :
    Table.get d (Table.insert k v (Table.erase k m)) k = v := by
  induction m with
  | nil => simp [Table.erase, Table.insert, Table.get]
  | cons e m ih =>
    obtain ⟨j, w⟩ := e
    by_cases h : j = k
    · simp [Table.erase, h, ih]
    · by_cases hk : k < j
      · simp [Table.erase, Table.insert, Table.get, h, hk]
      · simp [Table.erase, Table.insert, Table.get, h, hk, ih]

/-- A read after a write to the same key gives the value written. -/
@[simp] theorem Table.get_set_same [DecidableEq α] (d : Nat → α) (m : Table α) (k : Nat) (v : α) :
    Table.get d (Table.set d m k v) k = v := by
  unfold Table.set
  split
  · next h => rw [Table.get_erase_same, h]
  · exact Table.get_insert_erase d m k v

/-- A write leaves every other key alone. -/
theorem Table.get_set_ne [DecidableEq α] (d : Nat → α) (m : Table α) {k a : Nat} (v : α) (h : a ≠ k) :
    Table.get d (Table.set d m k v) a = Table.get d m a := by
  unfold Table.set
  split
  · exact Table.get_erase_ne d m h
  · rw [Table.get_insert_ne d _ v h, Table.get_erase_ne d m h]

/-- The read after a write, both cases at once. -/
theorem Table.get_set [DecidableEq α] (d : Nat → α) (m : Table α) (k a : Nat) (v : α) :
    Table.get d (Table.set d m k v) a = if a = k then v else Table.get d m a := by
  by_cases h : a = k
  · subst h; simp
  · simp [h, Table.get_set_ne d m v h]

theorem Table.risesFrom_mono {m : Table α} {a b : Nat} (h : a ≤ b) (hb : Table.risesFrom b m = true) :
    Table.risesFrom a m = true := by
  cases m with
  | nil => rfl
  | cons e m =>
    simp only [Table.risesFrom, Bool.and_eq_true, decide_eq_true_eq] at *
    exact ⟨Nat.lt_of_le_of_lt h hb.1, hb.2⟩

theorem Table.risesFrom_erase {m : Table α} {a : Nat} (k : Nat) (h : Table.risesFrom a m = true) :
    Table.risesFrom a (Table.erase k m) = true := by
  induction m generalizing a with
  | nil => rfl
  | cons e m ih =>
    obtain ⟨j, w⟩ := e
    simp only [Table.risesFrom, Bool.and_eq_true, decide_eq_true_eq] at h
    by_cases hj : j = k
    · simpa [Table.erase, hj] using ih (Table.risesFrom_mono (Nat.le_of_lt h.1) h.2)
    · simp [Table.erase, hj, Table.risesFrom, h.1, ih h.2]

theorem Table.erase_no_key (m : Table α) (k : Nat) : ∀ e ∈ Table.erase k m, e.1 ≠ k := by
  induction m with
  | nil => simp [Table.erase]
  | cons e m ih =>
    obtain ⟨j, w⟩ := e
    by_cases hj : j = k
    · simpa [Table.erase, hj] using ih
    · intro x hx
      simp only [Table.erase, hj, if_false, List.mem_cons] at hx
      rcases hx with rfl | hx
      · exact hj
      · exact ih x hx

theorem Table.risesFrom_insert {m : Table α} {a k : Nat} (v : α) (hm : ∀ e ∈ m, e.1 ≠ k)
    (h : Table.risesFrom a m = true) (hk : a < k) : Table.risesFrom a (Table.insert k v m) = true := by
  induction m generalizing a with
  | nil => simp [Table.insert, Table.risesFrom, hk]
  | cons e m ih =>
    obtain ⟨j, w⟩ := e
    simp only [Table.risesFrom, Bool.and_eq_true, decide_eq_true_eq] at h
    by_cases hj : k < j
    · simp [Table.insert, hj, Table.risesFrom, hk, h.2]
    · have hne : j ≠ k := hm (j, w) (by simp)
      have hlt : j < k := by omega
      simp [Table.insert, hj, Table.risesFrom, h.1, ih (fun e he => hm e (by simp [he])) h.2 hlt]

theorem Table.rising_insert_erase {m : Table α} (k : Nat) (v : α) (h : Table.rising m = true) :
    Table.rising (Table.insert k v (Table.erase k m)) = true := by
  have hno := Table.erase_no_key m k
  have hr : Table.rising (Table.erase k m) = true := by
    cases m with
    | nil => rfl
    | cons e m =>
      obtain ⟨j, w⟩ := e
      simp only [Table.rising] at h
      by_cases hj : j = k
      · have := Table.risesFrom_erase k h
        simp only [Table.erase, hj, if_true]
        cases hm : Table.erase k m with
        | nil => rfl
        | cons e' m' =>
          rw [hm] at this
          simp only [Table.risesFrom, Bool.and_eq_true] at this
          exact this.2
      · simp [Table.erase, hj, Table.rising, Table.risesFrom_erase k h]
  generalize Table.erase k m = n at hno hr
  cases n with
  | nil => rfl
  | cons e n =>
    obtain ⟨j, w⟩ := e
    simp only [Table.rising] at hr
    by_cases hj : k < j
    · simp [Table.insert, hj, Table.rising, Table.risesFrom, hr]
    · have hne : j ≠ k := hno (j, w) (by simp)
      have hlt : j < k := by omega
      simp [Table.insert, hj, Table.rising,
        Table.risesFrom_insert v (fun e he => hno e (by simp [he])) hr hlt]

theorem Table.rising_erase {m : Table α} (k : Nat) (h : Table.rising m = true) :
    Table.rising (Table.erase k m) = true := by
  cases m with
  | nil => rfl
  | cons e m =>
    obtain ⟨j, w⟩ := e
    simp only [Table.rising] at h
    by_cases hj : j = k
    · have := Table.risesFrom_erase k h
      simp only [Table.erase, hj, if_true]
      cases hm : Table.erase k m with
      | nil => rfl
      | cons e' m' =>
        rw [hm] at this
        simp only [Table.risesFrom, Bool.and_eq_true] at this
        exact this.2
    · simp [Table.erase, hj, Table.rising, Table.risesFrom_erase k h]

/-- A write keeps the keys strictly rising. -/
theorem Table.rising_set [DecidableEq α] (d : Nat → α) {m : Table α} (k : Nat) (v : α)
    (h : Table.rising m = true) : Table.rising (Table.set d m k v) = true := by
  unfold Table.set
  split
  · exact Table.rising_erase k h
  · exact Table.rising_insert_erase k v h

theorem Table.risesFrom_filter (p : Nat × α → Bool) {m : Table α} {a : Nat} (h : Table.risesFrom a m = true) :
    Table.risesFrom a (m.filter p) = true := by
  induction m generalizing a with
  | nil => rfl
  | cons e m ih =>
    obtain ⟨j, w⟩ := e
    simp only [Table.risesFrom, Bool.and_eq_true, decide_eq_true_eq] at h
    by_cases hp : p (j, w) = true
    · simp [List.filter, hp, Table.risesFrom, h.1, ih h.2]
    · simp [List.filter, hp, ih (Table.risesFrom_mono (Nat.le_of_lt h.1) h.2)]

theorem Table.rising_of_risesFrom {m : Table α} {a : Nat} (h : Table.risesFrom a m = true) : Table.rising m = true := by
  cases m with
  | nil => rfl
  | cons e m =>
    simp only [Table.risesFrom, Bool.and_eq_true] at h
    exact h.2

/-- Entries taken out of a table leave its keys strictly rising. -/
theorem Table.rising_filter (p : Nat × α → Bool) {m : Table α} (h : Table.rising m = true) :
    Table.rising (m.filter p) = true := by
  cases m with
  | nil => rfl
  | cons e m =>
    obtain ⟨j, w⟩ := e
    simp only [Table.rising] at h
    have hf := Table.risesFrom_filter p h
    by_cases hp : p (j, w) = true
    · simpa [List.filter, hp, Table.rising] using hf
    · simpa [List.filter, hp] using Table.rising_of_risesFrom hf

theorem Table.mem_erase {m : Table α} {k : Nat} {e : Nat × α} (h : e ∈ Table.erase k m) : e ∈ m := by
  induction m with
  | nil => simp [Table.erase] at h
  | cons x m ih =>
    obtain ⟨j, w⟩ := x
    by_cases hj : j = k
    · simp only [Table.erase, hj, if_true] at h; simp [ih h]
    · simp only [Table.erase, hj, if_false, List.mem_cons] at h
      rcases h with h | h
      · simp [h]
      · simp [ih h]

theorem Table.mem_insert {m : Table α} {k : Nat} {v : α} {e : Nat × α} (h : e ∈ Table.insert k v m) :
    e = (k, v) ∨ e ∈ m := by
  induction m with
  | nil => simpa [Table.insert] using h
  | cons x m ih =>
    obtain ⟨j, w⟩ := x
    by_cases hj : k < j
    · simpa [Table.insert, hj] using h
    · simp only [Table.insert, hj, if_false, List.mem_cons] at h
      rcases h with h | h
      · simp [h]
      · rcases ih h with h | h <;> simp [h]

/-- A property of the entries that the written entry has is kept by a write. -/
theorem Table.forall_set [DecidableEq α] (d : Nat → α) {P : Nat × α → Prop} {m : Table α} (k : Nat) (v : α)
    (hv : v ≠ d k → P (k, v)) (h : ∀ e ∈ m, P e) : ∀ e ∈ Table.set d m k v, P e := by
  intro e he
  unfold Table.set at he
  split at he
  · exact h e (Table.mem_erase he)
  · next hne =>
    rcases Table.mem_insert he with rfl | he
    · exact hv hne
    · exact h e (Table.mem_erase he)

/-- A write keeps the canonical form. -/
theorem Table.wf_set [DecidableEq α] (d : Nat → α) {m : Table α} (k : Nat) (v : α) (h : Table.wf d m = true) :
    Table.wf d (Table.set d m k v) = true := by
  simp only [Table.wf, Bool.and_eq_true, List.all_eq_true, decide_eq_true_eq] at *
  exact ⟨Table.rising_set d k v h.1, Table.forall_set d k v (fun hne => hne) h.2⟩

@[simp] theorem Table.at_put_same [DecidableEq α] (u : α) (m : Table α) (k : Nat) (v : α) :
    Table.at u (Table.put u m k v) k = v := Table.get_set_same _ m k v

theorem Table.at_put [DecidableEq α] (u : α) (m : Table α) (k a : Nat) (v : α) :
    Table.at u (Table.put u m k v) a = if a = k then v else Table.at u m a := Table.get_set _ m k a v

end Sys2Proof.Machine
end

