-- ==== Sys2Proof/Laws/State.lean ====
section
/-!
SUPPORT. What the shared operations of Machine/Ops.lean leave alone, one lemma per operation and component of the state, and what a register
field reads after another is written.
-/
set_option Elab.async false
set_option linter.all false
namespace Sys2Proof.Machine

/-! ## Fields -/

theorem State.fld_put_same (s : State) (f : Fld) (v : Nat) : (s.put f v).fld f = v % 2 ^ f.width := by
  unfold State.fld State.put
  rw [Table.get_set]
  simp

theorem State.fld_put_ne (s : State) {f g : Fld} (v : Nat) (h : g.key ≠ f.key) : (s.put f v).fld g = s.fld g := by
  unfold State.fld State.put Table.set
  dsimp only
  split
  · exact Table.get_erase_ne _ _ h
  · rw [Table.get_insert_ne _ _ _ h, Table.get_erase_ne _ _ h]

theorem State.fld_of_regs {s t : State} (h : t.regs = s.regs) (f : Fld) : t.fld f = s.fld f := by
  unfold State.fld
  rw [h]

theorem State.flag_of_regs {s t : State} (h : t.regs = s.regs) (f : Fld) : t.flag f = s.flag f := by
  unfold State.flag
  rw [State.fld_of_regs h]

/-! ## Writes of fields -/

@[simp] theorem State.put_now (s : State) (f : Fld) (v : Nat) : (s.put f v).now = s.now := rfl
@[simp] theorem State.put_free (s : State) (f : Fld) (v : Nat) : (s.put f v).free = s.free := rfl
@[simp] theorem State.put_root (s : State) (f : Fld) (v : Nat) : (s.put f v).root = s.root := rfl
@[simp] theorem State.put_ct (s : State) (f : Fld) (v : Nat) : (s.put f v).ct = s.ct := rfl
@[simp] theorem State.put_latch (s : State) (f : Fld) (v : Nat) : (s.put f v).latch = s.latch := rfl
@[simp] theorem State.put_rings (s : State) (f : Fld) (v : Nat) : (s.put f v).rings = s.rings := rfl
@[simp] theorem State.put_events (s : State) (f : Fld) (v : Nat) : (s.put f v).events = s.events := rfl
@[simp] theorem State.put_pcie (s : State) (f : Fld) (v : Nat) : (s.put f v).pcie = s.pcie := rfl
@[simp] theorem State.put_mem (s : State) (f : Fld) (v : Nat) : (s.put f v).mem = s.mem := rfl
@[simp] theorem State.put_cache (s : State) (f : Fld) (v : Nat) : (s.put f v).cache = s.cache := rfl
@[simp] theorem State.put_cipher (s : State) (f : Fld) (v : Nat) : (s.put f v).cipher = s.cipher := rfl
@[simp] theorem State.put_decoder (s : State) (f : Fld) (v : Nat) : (s.put f v).decoder = s.decoder := rfl
@[simp] theorem State.put_stations (s : State) (f : Fld) (v : Nat) : (s.put f v).stations = s.stations := rfl
@[simp] theorem State.put_recording (s : State) (f : Fld) (v : Nat) : (s.put f v).recording = s.recording := rfl
@[simp] theorem State.put_lanes (s : State) (f : Fld) (v : Nat) : (s.put f v).lanes = s.lanes := rfl
@[simp] theorem State.put_pickups (s : State) (f : Fld) (v : Nat) : (s.put f v).pickups = s.pickups := rfl
@[simp] theorem State.put_lps (s : State) (f : Fld) (v : Nat) : (s.put f v).lps = s.lps := rfl
@[simp] theorem State.put_spindles (s : State) (f : Fld) (v : Nat) : (s.put f v).spindles = s.spindles := rfl
@[simp] theorem State.put_motors (s : State) (f : Fld) (v : Nat) : (s.put f v).motors = s.motors := rfl
@[simp] theorem State.put_groups (s : State) (f : Fld) (v : Nat) : (s.put f v).groups = s.groups := rfl
@[simp] theorem State.put_timebase (s : State) (f : Fld) (v : Nat) : (s.put f v).timebase = s.timebase := rfl
@[simp] theorem State.put_fw (s : State) (f : Fld) (v : Nat) : (s.put f v).fw = s.fw := rfl
@[simp] theorem State.put_power (s : State) (f : Fld) (v : Nat) : (s.put f v).power = s.power := rfl
@[simp] theorem State.put_calib (s : State) (f : Fld) (v : Nat) : (s.put f v).calib = s.calib := rfl
@[simp] theorem State.put_mbl (s : State) (f : Fld) (v : Nat) : (s.put f v).mbl = s.mbl := rfl
@[simp] theorem State.put_sent (s : State) (f : Fld) (v : Nat) : (s.put f v).sent = s.sent := rfl
@[simp] theorem State.put_pending (s : State) (f : Fld) (v : Nat) : (s.put f v).pending = s.pending := rfl

@[simp] theorem State.sput_now (s : State) (f : Fld) (v : Int) : (s.sput f v).now = s.now := rfl
@[simp] theorem State.sput_free (s : State) (f : Fld) (v : Int) : (s.sput f v).free = s.free := rfl
@[simp] theorem State.sput_root (s : State) (f : Fld) (v : Int) : (s.sput f v).root = s.root := rfl
@[simp] theorem State.sput_ct (s : State) (f : Fld) (v : Int) : (s.sput f v).ct = s.ct := rfl
@[simp] theorem State.sput_latch (s : State) (f : Fld) (v : Int) : (s.sput f v).latch = s.latch := rfl
@[simp] theorem State.sput_rings (s : State) (f : Fld) (v : Int) : (s.sput f v).rings = s.rings := rfl
@[simp] theorem State.sput_events (s : State) (f : Fld) (v : Int) : (s.sput f v).events = s.events := rfl
@[simp] theorem State.sput_pcie (s : State) (f : Fld) (v : Int) : (s.sput f v).pcie = s.pcie := rfl
@[simp] theorem State.sput_mem (s : State) (f : Fld) (v : Int) : (s.sput f v).mem = s.mem := rfl
@[simp] theorem State.sput_cache (s : State) (f : Fld) (v : Int) : (s.sput f v).cache = s.cache := rfl
@[simp] theorem State.sput_cipher (s : State) (f : Fld) (v : Int) : (s.sput f v).cipher = s.cipher := rfl
@[simp] theorem State.sput_decoder (s : State) (f : Fld) (v : Int) : (s.sput f v).decoder = s.decoder := rfl
@[simp] theorem State.sput_stations (s : State) (f : Fld) (v : Int) : (s.sput f v).stations = s.stations := rfl
@[simp] theorem State.sput_recording (s : State) (f : Fld) (v : Int) : (s.sput f v).recording = s.recording := rfl
@[simp] theorem State.sput_lanes (s : State) (f : Fld) (v : Int) : (s.sput f v).lanes = s.lanes := rfl
@[simp] theorem State.sput_pickups (s : State) (f : Fld) (v : Int) : (s.sput f v).pickups = s.pickups := rfl
@[simp] theorem State.sput_lps (s : State) (f : Fld) (v : Int) : (s.sput f v).lps = s.lps := rfl
@[simp] theorem State.sput_spindles (s : State) (f : Fld) (v : Int) : (s.sput f v).spindles = s.spindles := rfl
@[simp] theorem State.sput_motors (s : State) (f : Fld) (v : Int) : (s.sput f v).motors = s.motors := rfl
@[simp] theorem State.sput_groups (s : State) (f : Fld) (v : Int) : (s.sput f v).groups = s.groups := rfl
@[simp] theorem State.sput_timebase (s : State) (f : Fld) (v : Int) : (s.sput f v).timebase = s.timebase := rfl
@[simp] theorem State.sput_fw (s : State) (f : Fld) (v : Int) : (s.sput f v).fw = s.fw := rfl
@[simp] theorem State.sput_power (s : State) (f : Fld) (v : Int) : (s.sput f v).power = s.power := rfl
@[simp] theorem State.sput_calib (s : State) (f : Fld) (v : Int) : (s.sput f v).calib = s.calib := rfl
@[simp] theorem State.sput_mbl (s : State) (f : Fld) (v : Int) : (s.sput f v).mbl = s.mbl := rfl
@[simp] theorem State.sput_sent (s : State) (f : Fld) (v : Int) : (s.sput f v).sent = s.sent := rfl
@[simp] theorem State.sput_pending (s : State) (f : Fld) (v : Int) : (s.sput f v).pending = s.pending := rfl

@[simp] theorem State.setFlag_now (s : State) (f : Fld) (b : Bool) : (s.setFlag f b).now = s.now := rfl
@[simp] theorem State.setFlag_free (s : State) (f : Fld) (b : Bool) : (s.setFlag f b).free = s.free := rfl
@[simp] theorem State.setFlag_root (s : State) (f : Fld) (b : Bool) : (s.setFlag f b).root = s.root := rfl
@[simp] theorem State.setFlag_ct (s : State) (f : Fld) (b : Bool) : (s.setFlag f b).ct = s.ct := rfl
@[simp] theorem State.setFlag_latch (s : State) (f : Fld) (b : Bool) : (s.setFlag f b).latch = s.latch := rfl
@[simp] theorem State.setFlag_rings (s : State) (f : Fld) (b : Bool) : (s.setFlag f b).rings = s.rings := rfl
@[simp] theorem State.setFlag_events (s : State) (f : Fld) (b : Bool) : (s.setFlag f b).events = s.events := rfl
@[simp] theorem State.setFlag_pcie (s : State) (f : Fld) (b : Bool) : (s.setFlag f b).pcie = s.pcie := rfl
@[simp] theorem State.setFlag_mem (s : State) (f : Fld) (b : Bool) : (s.setFlag f b).mem = s.mem := rfl
@[simp] theorem State.setFlag_cache (s : State) (f : Fld) (b : Bool) : (s.setFlag f b).cache = s.cache := rfl
@[simp] theorem State.setFlag_cipher (s : State) (f : Fld) (b : Bool) : (s.setFlag f b).cipher = s.cipher := rfl
@[simp] theorem State.setFlag_decoder (s : State) (f : Fld) (b : Bool) : (s.setFlag f b).decoder = s.decoder := rfl
@[simp] theorem State.setFlag_stations (s : State) (f : Fld) (b : Bool) : (s.setFlag f b).stations = s.stations := rfl
@[simp] theorem State.setFlag_recording (s : State) (f : Fld) (b : Bool) : (s.setFlag f b).recording = s.recording := rfl
@[simp] theorem State.setFlag_lanes (s : State) (f : Fld) (b : Bool) : (s.setFlag f b).lanes = s.lanes := rfl
@[simp] theorem State.setFlag_pickups (s : State) (f : Fld) (b : Bool) : (s.setFlag f b).pickups = s.pickups := rfl
@[simp] theorem State.setFlag_lps (s : State) (f : Fld) (b : Bool) : (s.setFlag f b).lps = s.lps := rfl
@[simp] theorem State.setFlag_spindles (s : State) (f : Fld) (b : Bool) : (s.setFlag f b).spindles = s.spindles := rfl
@[simp] theorem State.setFlag_motors (s : State) (f : Fld) (b : Bool) : (s.setFlag f b).motors = s.motors := rfl
@[simp] theorem State.setFlag_groups (s : State) (f : Fld) (b : Bool) : (s.setFlag f b).groups = s.groups := rfl
@[simp] theorem State.setFlag_timebase (s : State) (f : Fld) (b : Bool) : (s.setFlag f b).timebase = s.timebase := rfl
@[simp] theorem State.setFlag_fw (s : State) (f : Fld) (b : Bool) : (s.setFlag f b).fw = s.fw := rfl
@[simp] theorem State.setFlag_power (s : State) (f : Fld) (b : Bool) : (s.setFlag f b).power = s.power := rfl
@[simp] theorem State.setFlag_calib (s : State) (f : Fld) (b : Bool) : (s.setFlag f b).calib = s.calib := rfl
@[simp] theorem State.setFlag_mbl (s : State) (f : Fld) (b : Bool) : (s.setFlag f b).mbl = s.mbl := rfl
@[simp] theorem State.setFlag_sent (s : State) (f : Fld) (b : Bool) : (s.setFlag f b).sent = s.sent := rfl
@[simp] theorem State.setFlag_pending (s : State) (f : Fld) (b : Bool) : (s.setFlag f b).pending = s.pending := rfl

@[simp] theorem State.incSat_now (s : State) (f : Fld) (n : Nat) : (s.incSat f n).now = s.now := rfl
@[simp] theorem State.incSat_free (s : State) (f : Fld) (n : Nat) : (s.incSat f n).free = s.free := rfl
@[simp] theorem State.incSat_root (s : State) (f : Fld) (n : Nat) : (s.incSat f n).root = s.root := rfl
@[simp] theorem State.incSat_ct (s : State) (f : Fld) (n : Nat) : (s.incSat f n).ct = s.ct := rfl
@[simp] theorem State.incSat_latch (s : State) (f : Fld) (n : Nat) : (s.incSat f n).latch = s.latch := rfl
@[simp] theorem State.incSat_rings (s : State) (f : Fld) (n : Nat) : (s.incSat f n).rings = s.rings := rfl
@[simp] theorem State.incSat_events (s : State) (f : Fld) (n : Nat) : (s.incSat f n).events = s.events := rfl
@[simp] theorem State.incSat_pcie (s : State) (f : Fld) (n : Nat) : (s.incSat f n).pcie = s.pcie := rfl
@[simp] theorem State.incSat_mem (s : State) (f : Fld) (n : Nat) : (s.incSat f n).mem = s.mem := rfl
@[simp] theorem State.incSat_cache (s : State) (f : Fld) (n : Nat) : (s.incSat f n).cache = s.cache := rfl
@[simp] theorem State.incSat_cipher (s : State) (f : Fld) (n : Nat) : (s.incSat f n).cipher = s.cipher := rfl
@[simp] theorem State.incSat_decoder (s : State) (f : Fld) (n : Nat) : (s.incSat f n).decoder = s.decoder := rfl
@[simp] theorem State.incSat_stations (s : State) (f : Fld) (n : Nat) : (s.incSat f n).stations = s.stations := rfl
@[simp] theorem State.incSat_recording (s : State) (f : Fld) (n : Nat) : (s.incSat f n).recording = s.recording := rfl
@[simp] theorem State.incSat_lanes (s : State) (f : Fld) (n : Nat) : (s.incSat f n).lanes = s.lanes := rfl
@[simp] theorem State.incSat_pickups (s : State) (f : Fld) (n : Nat) : (s.incSat f n).pickups = s.pickups := rfl
@[simp] theorem State.incSat_lps (s : State) (f : Fld) (n : Nat) : (s.incSat f n).lps = s.lps := rfl
@[simp] theorem State.incSat_spindles (s : State) (f : Fld) (n : Nat) : (s.incSat f n).spindles = s.spindles := rfl
@[simp] theorem State.incSat_motors (s : State) (f : Fld) (n : Nat) : (s.incSat f n).motors = s.motors := rfl
@[simp] theorem State.incSat_groups (s : State) (f : Fld) (n : Nat) : (s.incSat f n).groups = s.groups := rfl
@[simp] theorem State.incSat_timebase (s : State) (f : Fld) (n : Nat) : (s.incSat f n).timebase = s.timebase := rfl
@[simp] theorem State.incSat_fw (s : State) (f : Fld) (n : Nat) : (s.incSat f n).fw = s.fw := rfl
@[simp] theorem State.incSat_power (s : State) (f : Fld) (n : Nat) : (s.incSat f n).power = s.power := rfl
@[simp] theorem State.incSat_calib (s : State) (f : Fld) (n : Nat) : (s.incSat f n).calib = s.calib := rfl
@[simp] theorem State.incSat_mbl (s : State) (f : Fld) (n : Nat) : (s.incSat f n).mbl = s.mbl := rfl
@[simp] theorem State.incSat_sent (s : State) (f : Fld) (n : Nat) : (s.incSat f n).sent = s.sent := rfl
@[simp] theorem State.incSat_pending (s : State) (f : Fld) (n : Nat) : (s.incSat f n).pending = s.pending := rfl

@[simp] theorem State.incWrap_now (s : State) (f : Fld) (n : Nat) : (s.incWrap f n).now = s.now := rfl
@[simp] theorem State.incWrap_free (s : State) (f : Fld) (n : Nat) : (s.incWrap f n).free = s.free := rfl
@[simp] theorem State.incWrap_root (s : State) (f : Fld) (n : Nat) : (s.incWrap f n).root = s.root := rfl
@[simp] theorem State.incWrap_ct (s : State) (f : Fld) (n : Nat) : (s.incWrap f n).ct = s.ct := rfl
@[simp] theorem State.incWrap_latch (s : State) (f : Fld) (n : Nat) : (s.incWrap f n).latch = s.latch := rfl
@[simp] theorem State.incWrap_rings (s : State) (f : Fld) (n : Nat) : (s.incWrap f n).rings = s.rings := rfl
@[simp] theorem State.incWrap_events (s : State) (f : Fld) (n : Nat) : (s.incWrap f n).events = s.events := rfl
@[simp] theorem State.incWrap_pcie (s : State) (f : Fld) (n : Nat) : (s.incWrap f n).pcie = s.pcie := rfl
@[simp] theorem State.incWrap_mem (s : State) (f : Fld) (n : Nat) : (s.incWrap f n).mem = s.mem := rfl
@[simp] theorem State.incWrap_cache (s : State) (f : Fld) (n : Nat) : (s.incWrap f n).cache = s.cache := rfl
@[simp] theorem State.incWrap_cipher (s : State) (f : Fld) (n : Nat) : (s.incWrap f n).cipher = s.cipher := rfl
@[simp] theorem State.incWrap_decoder (s : State) (f : Fld) (n : Nat) : (s.incWrap f n).decoder = s.decoder := rfl
@[simp] theorem State.incWrap_stations (s : State) (f : Fld) (n : Nat) : (s.incWrap f n).stations = s.stations := rfl
@[simp] theorem State.incWrap_recording (s : State) (f : Fld) (n : Nat) : (s.incWrap f n).recording = s.recording := rfl
@[simp] theorem State.incWrap_lanes (s : State) (f : Fld) (n : Nat) : (s.incWrap f n).lanes = s.lanes := rfl
@[simp] theorem State.incWrap_pickups (s : State) (f : Fld) (n : Nat) : (s.incWrap f n).pickups = s.pickups := rfl
@[simp] theorem State.incWrap_lps (s : State) (f : Fld) (n : Nat) : (s.incWrap f n).lps = s.lps := rfl
@[simp] theorem State.incWrap_spindles (s : State) (f : Fld) (n : Nat) : (s.incWrap f n).spindles = s.spindles := rfl
@[simp] theorem State.incWrap_motors (s : State) (f : Fld) (n : Nat) : (s.incWrap f n).motors = s.motors := rfl
@[simp] theorem State.incWrap_groups (s : State) (f : Fld) (n : Nat) : (s.incWrap f n).groups = s.groups := rfl
@[simp] theorem State.incWrap_timebase (s : State) (f : Fld) (n : Nat) : (s.incWrap f n).timebase = s.timebase := rfl
@[simp] theorem State.incWrap_fw (s : State) (f : Fld) (n : Nat) : (s.incWrap f n).fw = s.fw := rfl
@[simp] theorem State.incWrap_power (s : State) (f : Fld) (n : Nat) : (s.incWrap f n).power = s.power := rfl
@[simp] theorem State.incWrap_calib (s : State) (f : Fld) (n : Nat) : (s.incWrap f n).calib = s.calib := rfl
@[simp] theorem State.incWrap_mbl (s : State) (f : Fld) (n : Nat) : (s.incWrap f n).mbl = s.mbl := rfl
@[simp] theorem State.incWrap_sent (s : State) (f : Fld) (n : Nat) : (s.incWrap f n).sent = s.sent := rfl
@[simp] theorem State.incWrap_pending (s : State) (f : Fld) (n : Nat) : (s.incWrap f n).pending = s.pending := rfl

@[simp] theorem State.putPair_now (s : State) (lo hi : Fld) (v : Nat) : (s.putPair lo hi v).now = s.now := rfl
@[simp] theorem State.putPair_free (s : State) (lo hi : Fld) (v : Nat) : (s.putPair lo hi v).free = s.free := rfl
@[simp] theorem State.putPair_root (s : State) (lo hi : Fld) (v : Nat) : (s.putPair lo hi v).root = s.root := rfl
@[simp] theorem State.putPair_ct (s : State) (lo hi : Fld) (v : Nat) : (s.putPair lo hi v).ct = s.ct := rfl
@[simp] theorem State.putPair_latch (s : State) (lo hi : Fld) (v : Nat) : (s.putPair lo hi v).latch = s.latch := rfl
@[simp] theorem State.putPair_rings (s : State) (lo hi : Fld) (v : Nat) : (s.putPair lo hi v).rings = s.rings := rfl
@[simp] theorem State.putPair_events (s : State) (lo hi : Fld) (v : Nat) : (s.putPair lo hi v).events = s.events := rfl
@[simp] theorem State.putPair_pcie (s : State) (lo hi : Fld) (v : Nat) : (s.putPair lo hi v).pcie = s.pcie := rfl
@[simp] theorem State.putPair_mem (s : State) (lo hi : Fld) (v : Nat) : (s.putPair lo hi v).mem = s.mem := rfl
@[simp] theorem State.putPair_cache (s : State) (lo hi : Fld) (v : Nat) : (s.putPair lo hi v).cache = s.cache := rfl
@[simp] theorem State.putPair_cipher (s : State) (lo hi : Fld) (v : Nat) : (s.putPair lo hi v).cipher = s.cipher := rfl
@[simp] theorem State.putPair_decoder (s : State) (lo hi : Fld) (v : Nat) : (s.putPair lo hi v).decoder = s.decoder := rfl
@[simp] theorem State.putPair_stations (s : State) (lo hi : Fld) (v : Nat) : (s.putPair lo hi v).stations = s.stations := rfl
@[simp] theorem State.putPair_recording (s : State) (lo hi : Fld) (v : Nat) : (s.putPair lo hi v).recording = s.recording := rfl
@[simp] theorem State.putPair_lanes (s : State) (lo hi : Fld) (v : Nat) : (s.putPair lo hi v).lanes = s.lanes := rfl
@[simp] theorem State.putPair_pickups (s : State) (lo hi : Fld) (v : Nat) : (s.putPair lo hi v).pickups = s.pickups := rfl
@[simp] theorem State.putPair_lps (s : State) (lo hi : Fld) (v : Nat) : (s.putPair lo hi v).lps = s.lps := rfl
@[simp] theorem State.putPair_spindles (s : State) (lo hi : Fld) (v : Nat) : (s.putPair lo hi v).spindles = s.spindles := rfl
@[simp] theorem State.putPair_motors (s : State) (lo hi : Fld) (v : Nat) : (s.putPair lo hi v).motors = s.motors := rfl
@[simp] theorem State.putPair_groups (s : State) (lo hi : Fld) (v : Nat) : (s.putPair lo hi v).groups = s.groups := rfl
@[simp] theorem State.putPair_timebase (s : State) (lo hi : Fld) (v : Nat) : (s.putPair lo hi v).timebase = s.timebase := rfl
@[simp] theorem State.putPair_fw (s : State) (lo hi : Fld) (v : Nat) : (s.putPair lo hi v).fw = s.fw := rfl
@[simp] theorem State.putPair_power (s : State) (lo hi : Fld) (v : Nat) : (s.putPair lo hi v).power = s.power := rfl
@[simp] theorem State.putPair_calib (s : State) (lo hi : Fld) (v : Nat) : (s.putPair lo hi v).calib = s.calib := rfl
@[simp] theorem State.putPair_mbl (s : State) (lo hi : Fld) (v : Nat) : (s.putPair lo hi v).mbl = s.mbl := rfl
@[simp] theorem State.putPair_sent (s : State) (lo hi : Fld) (v : Nat) : (s.putPair lo hi v).sent = s.sent := rfl
@[simp] theorem State.putPair_pending (s : State) (lo hi : Fld) (v : Nat) : (s.putPair lo hi v).pending = s.pending := rfl

/-! ## Events -/

/-- A post changes the events alone. -/
theorem State.post_eq (s : State) (c n : Nat) (p : List Nat) : ∃ e, s.post c n p = { s with events := e } := by
  unfold State.post
  split
  · exact ⟨_, rfl⟩
  · exact ⟨s.events, rfl⟩

/-- A flag raised changes the registers and the events alone. -/
theorem State.raise_eq (s : State) (f : Fld) (c n : Nat) (p : List Nat) : ∃ r e, s.raise f c n p = { s with regs := r, events := e } := by
  unfold State.raise
  split
  · exact ⟨s.regs, s.events, rfl⟩
  · obtain ⟨e, h⟩ := (s.put f 1).post_eq c n p
    exact ⟨_, e, h⟩

theorem State.putPair_eq (s : State) (lo hi : Fld) (v : Nat) : ∃ r, s.putPair lo hi v = { s with regs := r } := ⟨_, rfl⟩

/-- A statistics counter changes the registers and the events alone. -/
theorem State.count_eq (s : State) (lo hi : Fld) (n : Nat) : ∃ r e, s.count lo hi n = { s with regs := r, events := e } := by
  unfold State.count
  generalize leBytes 4 lo.offset ++ leBytes 3 s.deviceId = p
  generalize min (s.pair lo hi + n) (2 ^ 48 - 1) = v
  obtain ⟨r, h⟩ := s.putPair_eq lo hi v
  dsimp only
  rw [h]
  split
  · obtain ⟨e, k⟩ := ({ s with regs := r, events := { s.events with saturated := s.events.saturated ++ [lo.key] } } : State).post_eq 0x0F01 srcSystem p
    exact ⟨r, e, k⟩
  · exact ⟨r, s.events, rfl⟩

@[simp] theorem State.post_now (s : State) (c n : Nat) (p : List Nat) : (s.post c n p).now = s.now := by
  unfold State.post; split <;> rfl
@[simp] theorem State.post_free (s : State) (c n : Nat) (p : List Nat) : (s.post c n p).free = s.free := by
  unfold State.post; split <;> rfl
@[simp] theorem State.post_root (s : State) (c n : Nat) (p : List Nat) : (s.post c n p).root = s.root := by
  unfold State.post; split <;> rfl
@[simp] theorem State.post_regs (s : State) (c n : Nat) (p : List Nat) : (s.post c n p).regs = s.regs := by
  unfold State.post; split <;> rfl
@[simp] theorem State.post_ct (s : State) (c n : Nat) (p : List Nat) : (s.post c n p).ct = s.ct := by
  unfold State.post; split <;> rfl
@[simp] theorem State.post_latch (s : State) (c n : Nat) (p : List Nat) : (s.post c n p).latch = s.latch := by
  unfold State.post; split <;> rfl
@[simp] theorem State.post_rings (s : State) (c n : Nat) (p : List Nat) : (s.post c n p).rings = s.rings := by
  unfold State.post; split <;> rfl
@[simp] theorem State.post_pcie (s : State) (c n : Nat) (p : List Nat) : (s.post c n p).pcie = s.pcie := by
  unfold State.post; split <;> rfl
@[simp] theorem State.post_mem (s : State) (c n : Nat) (p : List Nat) : (s.post c n p).mem = s.mem := by
  unfold State.post; split <;> rfl
@[simp] theorem State.post_cache (s : State) (c n : Nat) (p : List Nat) : (s.post c n p).cache = s.cache := by
  unfold State.post; split <;> rfl
@[simp] theorem State.post_cipher (s : State) (c n : Nat) (p : List Nat) : (s.post c n p).cipher = s.cipher := by
  unfold State.post; split <;> rfl
@[simp] theorem State.post_decoder (s : State) (c n : Nat) (p : List Nat) : (s.post c n p).decoder = s.decoder := by
  unfold State.post; split <;> rfl
@[simp] theorem State.post_stations (s : State) (c n : Nat) (p : List Nat) : (s.post c n p).stations = s.stations := by
  unfold State.post; split <;> rfl
@[simp] theorem State.post_recording (s : State) (c n : Nat) (p : List Nat) : (s.post c n p).recording = s.recording := by
  unfold State.post; split <;> rfl
@[simp] theorem State.post_lanes (s : State) (c n : Nat) (p : List Nat) : (s.post c n p).lanes = s.lanes := by
  unfold State.post; split <;> rfl
@[simp] theorem State.post_pickups (s : State) (c n : Nat) (p : List Nat) : (s.post c n p).pickups = s.pickups := by
  unfold State.post; split <;> rfl
@[simp] theorem State.post_lps (s : State) (c n : Nat) (p : List Nat) : (s.post c n p).lps = s.lps := by
  unfold State.post; split <;> rfl
@[simp] theorem State.post_spindles (s : State) (c n : Nat) (p : List Nat) : (s.post c n p).spindles = s.spindles := by
  unfold State.post; split <;> rfl
@[simp] theorem State.post_motors (s : State) (c n : Nat) (p : List Nat) : (s.post c n p).motors = s.motors := by
  unfold State.post; split <;> rfl
@[simp] theorem State.post_groups (s : State) (c n : Nat) (p : List Nat) : (s.post c n p).groups = s.groups := by
  unfold State.post; split <;> rfl
@[simp] theorem State.post_timebase (s : State) (c n : Nat) (p : List Nat) : (s.post c n p).timebase = s.timebase := by
  unfold State.post; split <;> rfl
@[simp] theorem State.post_fw (s : State) (c n : Nat) (p : List Nat) : (s.post c n p).fw = s.fw := by
  unfold State.post; split <;> rfl
@[simp] theorem State.post_power (s : State) (c n : Nat) (p : List Nat) : (s.post c n p).power = s.power := by
  unfold State.post; split <;> rfl
@[simp] theorem State.post_calib (s : State) (c n : Nat) (p : List Nat) : (s.post c n p).calib = s.calib := by
  unfold State.post; split <;> rfl
@[simp] theorem State.post_mbl (s : State) (c n : Nat) (p : List Nat) : (s.post c n p).mbl = s.mbl := by
  unfold State.post; split <;> rfl
@[simp] theorem State.post_sent (s : State) (c n : Nat) (p : List Nat) : (s.post c n p).sent = s.sent := by
  unfold State.post; split <;> rfl
@[simp] theorem State.post_pending (s : State) (c n : Nat) (p : List Nat) : (s.post c n p).pending = s.pending := by
  unfold State.post; split <;> rfl

@[simp] theorem State.raise_now (s : State) (f : Fld) (c n : Nat) (p : List Nat) : (s.raise f c n p).now = s.now := by
  obtain ⟨_, _, h⟩ := s.raise_eq f c n p; rw [h]
@[simp] theorem State.raise_free (s : State) (f : Fld) (c n : Nat) (p : List Nat) : (s.raise f c n p).free = s.free := by
  obtain ⟨_, _, h⟩ := s.raise_eq f c n p; rw [h]
@[simp] theorem State.raise_root (s : State) (f : Fld) (c n : Nat) (p : List Nat) : (s.raise f c n p).root = s.root := by
  obtain ⟨_, _, h⟩ := s.raise_eq f c n p; rw [h]
@[simp] theorem State.raise_ct (s : State) (f : Fld) (c n : Nat) (p : List Nat) : (s.raise f c n p).ct = s.ct := by
  obtain ⟨_, _, h⟩ := s.raise_eq f c n p; rw [h]
@[simp] theorem State.raise_latch (s : State) (f : Fld) (c n : Nat) (p : List Nat) : (s.raise f c n p).latch = s.latch := by
  obtain ⟨_, _, h⟩ := s.raise_eq f c n p; rw [h]
@[simp] theorem State.raise_rings (s : State) (f : Fld) (c n : Nat) (p : List Nat) : (s.raise f c n p).rings = s.rings := by
  obtain ⟨_, _, h⟩ := s.raise_eq f c n p; rw [h]
@[simp] theorem State.raise_pcie (s : State) (f : Fld) (c n : Nat) (p : List Nat) : (s.raise f c n p).pcie = s.pcie := by
  obtain ⟨_, _, h⟩ := s.raise_eq f c n p; rw [h]
@[simp] theorem State.raise_mem (s : State) (f : Fld) (c n : Nat) (p : List Nat) : (s.raise f c n p).mem = s.mem := by
  obtain ⟨_, _, h⟩ := s.raise_eq f c n p; rw [h]
@[simp] theorem State.raise_cache (s : State) (f : Fld) (c n : Nat) (p : List Nat) : (s.raise f c n p).cache = s.cache := by
  obtain ⟨_, _, h⟩ := s.raise_eq f c n p; rw [h]
@[simp] theorem State.raise_cipher (s : State) (f : Fld) (c n : Nat) (p : List Nat) : (s.raise f c n p).cipher = s.cipher := by
  obtain ⟨_, _, h⟩ := s.raise_eq f c n p; rw [h]
@[simp] theorem State.raise_decoder (s : State) (f : Fld) (c n : Nat) (p : List Nat) : (s.raise f c n p).decoder = s.decoder := by
  obtain ⟨_, _, h⟩ := s.raise_eq f c n p; rw [h]
@[simp] theorem State.raise_stations (s : State) (f : Fld) (c n : Nat) (p : List Nat) : (s.raise f c n p).stations = s.stations := by
  obtain ⟨_, _, h⟩ := s.raise_eq f c n p; rw [h]
@[simp] theorem State.raise_recording (s : State) (f : Fld) (c n : Nat) (p : List Nat) : (s.raise f c n p).recording = s.recording := by
  obtain ⟨_, _, h⟩ := s.raise_eq f c n p; rw [h]
@[simp] theorem State.raise_lanes (s : State) (f : Fld) (c n : Nat) (p : List Nat) : (s.raise f c n p).lanes = s.lanes := by
  obtain ⟨_, _, h⟩ := s.raise_eq f c n p; rw [h]
@[simp] theorem State.raise_pickups (s : State) (f : Fld) (c n : Nat) (p : List Nat) : (s.raise f c n p).pickups = s.pickups := by
  obtain ⟨_, _, h⟩ := s.raise_eq f c n p; rw [h]
@[simp] theorem State.raise_lps (s : State) (f : Fld) (c n : Nat) (p : List Nat) : (s.raise f c n p).lps = s.lps := by
  obtain ⟨_, _, h⟩ := s.raise_eq f c n p; rw [h]
@[simp] theorem State.raise_spindles (s : State) (f : Fld) (c n : Nat) (p : List Nat) : (s.raise f c n p).spindles = s.spindles := by
  obtain ⟨_, _, h⟩ := s.raise_eq f c n p; rw [h]
@[simp] theorem State.raise_motors (s : State) (f : Fld) (c n : Nat) (p : List Nat) : (s.raise f c n p).motors = s.motors := by
  obtain ⟨_, _, h⟩ := s.raise_eq f c n p; rw [h]
@[simp] theorem State.raise_groups (s : State) (f : Fld) (c n : Nat) (p : List Nat) : (s.raise f c n p).groups = s.groups := by
  obtain ⟨_, _, h⟩ := s.raise_eq f c n p; rw [h]
@[simp] theorem State.raise_timebase (s : State) (f : Fld) (c n : Nat) (p : List Nat) : (s.raise f c n p).timebase = s.timebase := by
  obtain ⟨_, _, h⟩ := s.raise_eq f c n p; rw [h]
@[simp] theorem State.raise_fw (s : State) (f : Fld) (c n : Nat) (p : List Nat) : (s.raise f c n p).fw = s.fw := by
  obtain ⟨_, _, h⟩ := s.raise_eq f c n p; rw [h]
@[simp] theorem State.raise_power (s : State) (f : Fld) (c n : Nat) (p : List Nat) : (s.raise f c n p).power = s.power := by
  obtain ⟨_, _, h⟩ := s.raise_eq f c n p; rw [h]
@[simp] theorem State.raise_calib (s : State) (f : Fld) (c n : Nat) (p : List Nat) : (s.raise f c n p).calib = s.calib := by
  obtain ⟨_, _, h⟩ := s.raise_eq f c n p; rw [h]
@[simp] theorem State.raise_mbl (s : State) (f : Fld) (c n : Nat) (p : List Nat) : (s.raise f c n p).mbl = s.mbl := by
  obtain ⟨_, _, h⟩ := s.raise_eq f c n p; rw [h]
@[simp] theorem State.raise_sent (s : State) (f : Fld) (c n : Nat) (p : List Nat) : (s.raise f c n p).sent = s.sent := by
  obtain ⟨_, _, h⟩ := s.raise_eq f c n p; rw [h]
@[simp] theorem State.raise_pending (s : State) (f : Fld) (c n : Nat) (p : List Nat) : (s.raise f c n p).pending = s.pending := by
  obtain ⟨_, _, h⟩ := s.raise_eq f c n p; rw [h]

@[simp] theorem State.count_now (s : State) (lo hi : Fld) (n : Nat) : (s.count lo hi n).now = s.now := by
  obtain ⟨_, _, h⟩ := s.count_eq lo hi n; rw [h]
@[simp] theorem State.count_free (s : State) (lo hi : Fld) (n : Nat) : (s.count lo hi n).free = s.free := by
  obtain ⟨_, _, h⟩ := s.count_eq lo hi n; rw [h]
@[simp] theorem State.count_root (s : State) (lo hi : Fld) (n : Nat) : (s.count lo hi n).root = s.root := by
  obtain ⟨_, _, h⟩ := s.count_eq lo hi n; rw [h]
@[simp] theorem State.count_ct (s : State) (lo hi : Fld) (n : Nat) : (s.count lo hi n).ct = s.ct := by
  obtain ⟨_, _, h⟩ := s.count_eq lo hi n; rw [h]
@[simp] theorem State.count_latch (s : State) (lo hi : Fld) (n : Nat) : (s.count lo hi n).latch = s.latch := by
  obtain ⟨_, _, h⟩ := s.count_eq lo hi n; rw [h]
@[simp] theorem State.count_rings (s : State) (lo hi : Fld) (n : Nat) : (s.count lo hi n).rings = s.rings := by
  obtain ⟨_, _, h⟩ := s.count_eq lo hi n; rw [h]
@[simp] theorem State.count_pcie (s : State) (lo hi : Fld) (n : Nat) : (s.count lo hi n).pcie = s.pcie := by
  obtain ⟨_, _, h⟩ := s.count_eq lo hi n; rw [h]
@[simp] theorem State.count_mem (s : State) (lo hi : Fld) (n : Nat) : (s.count lo hi n).mem = s.mem := by
  obtain ⟨_, _, h⟩ := s.count_eq lo hi n; rw [h]
@[simp] theorem State.count_cache (s : State) (lo hi : Fld) (n : Nat) : (s.count lo hi n).cache = s.cache := by
  obtain ⟨_, _, h⟩ := s.count_eq lo hi n; rw [h]
@[simp] theorem State.count_cipher (s : State) (lo hi : Fld) (n : Nat) : (s.count lo hi n).cipher = s.cipher := by
  obtain ⟨_, _, h⟩ := s.count_eq lo hi n; rw [h]
@[simp] theorem State.count_decoder (s : State) (lo hi : Fld) (n : Nat) : (s.count lo hi n).decoder = s.decoder := by
  obtain ⟨_, _, h⟩ := s.count_eq lo hi n; rw [h]
@[simp] theorem State.count_stations (s : State) (lo hi : Fld) (n : Nat) : (s.count lo hi n).stations = s.stations := by
  obtain ⟨_, _, h⟩ := s.count_eq lo hi n; rw [h]
@[simp] theorem State.count_recording (s : State) (lo hi : Fld) (n : Nat) : (s.count lo hi n).recording = s.recording := by
  obtain ⟨_, _, h⟩ := s.count_eq lo hi n; rw [h]
@[simp] theorem State.count_lanes (s : State) (lo hi : Fld) (n : Nat) : (s.count lo hi n).lanes = s.lanes := by
  obtain ⟨_, _, h⟩ := s.count_eq lo hi n; rw [h]
@[simp] theorem State.count_pickups (s : State) (lo hi : Fld) (n : Nat) : (s.count lo hi n).pickups = s.pickups := by
  obtain ⟨_, _, h⟩ := s.count_eq lo hi n; rw [h]
@[simp] theorem State.count_lps (s : State) (lo hi : Fld) (n : Nat) : (s.count lo hi n).lps = s.lps := by
  obtain ⟨_, _, h⟩ := s.count_eq lo hi n; rw [h]
@[simp] theorem State.count_spindles (s : State) (lo hi : Fld) (n : Nat) : (s.count lo hi n).spindles = s.spindles := by
  obtain ⟨_, _, h⟩ := s.count_eq lo hi n; rw [h]
@[simp] theorem State.count_motors (s : State) (lo hi : Fld) (n : Nat) : (s.count lo hi n).motors = s.motors := by
  obtain ⟨_, _, h⟩ := s.count_eq lo hi n; rw [h]
@[simp] theorem State.count_groups (s : State) (lo hi : Fld) (n : Nat) : (s.count lo hi n).groups = s.groups := by
  obtain ⟨_, _, h⟩ := s.count_eq lo hi n; rw [h]
@[simp] theorem State.count_timebase (s : State) (lo hi : Fld) (n : Nat) : (s.count lo hi n).timebase = s.timebase := by
  obtain ⟨_, _, h⟩ := s.count_eq lo hi n; rw [h]
@[simp] theorem State.count_fw (s : State) (lo hi : Fld) (n : Nat) : (s.count lo hi n).fw = s.fw := by
  obtain ⟨_, _, h⟩ := s.count_eq lo hi n; rw [h]
@[simp] theorem State.count_power (s : State) (lo hi : Fld) (n : Nat) : (s.count lo hi n).power = s.power := by
  obtain ⟨_, _, h⟩ := s.count_eq lo hi n; rw [h]
@[simp] theorem State.count_calib (s : State) (lo hi : Fld) (n : Nat) : (s.count lo hi n).calib = s.calib := by
  obtain ⟨_, _, h⟩ := s.count_eq lo hi n; rw [h]
@[simp] theorem State.count_mbl (s : State) (lo hi : Fld) (n : Nat) : (s.count lo hi n).mbl = s.mbl := by
  obtain ⟨_, _, h⟩ := s.count_eq lo hi n; rw [h]
@[simp] theorem State.count_sent (s : State) (lo hi : Fld) (n : Nat) : (s.count lo hi n).sent = s.sent := by
  obtain ⟨_, _, h⟩ := s.count_eq lo hi n; rw [h]
@[simp] theorem State.count_pending (s : State) (lo hi : Fld) (n : Nat) : (s.count lo hi n).pending = s.pending := by
  obtain ⟨_, _, h⟩ := s.count_eq lo hi n; rw [h]

@[simp] theorem State.fld_post (s : State) (c n : Nat) (p : List Nat) (f : Fld) : (s.post c n p).fld f = s.fld f :=
  State.fld_of_regs (s.post_regs c n p) f

@[simp] theorem State.flag_post (s : State) (c n : Nat) (p : List Nat) (f : Fld) : (s.post c n p).flag f = s.flag f :=
  State.flag_of_regs (s.post_regs c n p) f

theorem State.fld_raise_ne (s : State) {f g : Fld} (c n : Nat) (p : List Nat) (h : g.key ≠ f.key) : (s.raise f c n p).fld g = s.fld g := by
  unfold State.raise
  split
  · rfl
  · rw [State.fld_post, State.fld_put_ne _ _ h]

/-- A flag raised by hardware stands afterwards. -/
theorem State.flag_raise (s : State) (f : Fld) (c n : Nat) (p : List Nat) (h : 0 < f.width) : (s.raise f c n p).flag f = true := by
  unfold State.raise
  split
  · assumption
  · rw [State.flag_post]
    unfold State.flag
    rw [State.fld_put_same]
    have : 1 % 2 ^ f.width = 1 := Nat.mod_eq_of_lt (Nat.one_lt_two_pow (Nat.pos_iff_ne_zero.mp h))
    rw [this]
    rfl

/-! ## Free values, and what is sent -/

@[simp] theorem State.takeFree_now (s : State) : s.takeFree.2.now = s.now := rfl
@[simp] theorem State.takeFree_root (s : State) : s.takeFree.2.root = s.root := rfl
@[simp] theorem State.takeFree_regs (s : State) : s.takeFree.2.regs = s.regs := rfl
@[simp] theorem State.takeFree_ct (s : State) : s.takeFree.2.ct = s.ct := rfl
@[simp] theorem State.takeFree_latch (s : State) : s.takeFree.2.latch = s.latch := rfl
@[simp] theorem State.takeFree_rings (s : State) : s.takeFree.2.rings = s.rings := rfl
@[simp] theorem State.takeFree_events (s : State) : s.takeFree.2.events = s.events := rfl
@[simp] theorem State.takeFree_pcie (s : State) : s.takeFree.2.pcie = s.pcie := rfl
@[simp] theorem State.takeFree_mem (s : State) : s.takeFree.2.mem = s.mem := rfl
@[simp] theorem State.takeFree_cache (s : State) : s.takeFree.2.cache = s.cache := rfl
@[simp] theorem State.takeFree_cipher (s : State) : s.takeFree.2.cipher = s.cipher := rfl
@[simp] theorem State.takeFree_decoder (s : State) : s.takeFree.2.decoder = s.decoder := rfl
@[simp] theorem State.takeFree_stations (s : State) : s.takeFree.2.stations = s.stations := rfl
@[simp] theorem State.takeFree_recording (s : State) : s.takeFree.2.recording = s.recording := rfl
@[simp] theorem State.takeFree_lanes (s : State) : s.takeFree.2.lanes = s.lanes := rfl
@[simp] theorem State.takeFree_pickups (s : State) : s.takeFree.2.pickups = s.pickups := rfl
@[simp] theorem State.takeFree_lps (s : State) : s.takeFree.2.lps = s.lps := rfl
@[simp] theorem State.takeFree_spindles (s : State) : s.takeFree.2.spindles = s.spindles := rfl
@[simp] theorem State.takeFree_motors (s : State) : s.takeFree.2.motors = s.motors := rfl
@[simp] theorem State.takeFree_groups (s : State) : s.takeFree.2.groups = s.groups := rfl
@[simp] theorem State.takeFree_timebase (s : State) : s.takeFree.2.timebase = s.timebase := rfl
@[simp] theorem State.takeFree_fw (s : State) : s.takeFree.2.fw = s.fw := rfl
@[simp] theorem State.takeFree_power (s : State) : s.takeFree.2.power = s.power := rfl
@[simp] theorem State.takeFree_calib (s : State) : s.takeFree.2.calib = s.calib := rfl
@[simp] theorem State.takeFree_mbl (s : State) : s.takeFree.2.mbl = s.mbl := rfl
@[simp] theorem State.takeFree_sent (s : State) : s.takeFree.2.sent = s.sent := rfl
@[simp] theorem State.takeFree_pending (s : State) : s.takeFree.2.pending = s.pending := rfl

@[simp] theorem State.wakeLink_now (s : State) : s.wakeLink.now = s.now := by
  unfold State.wakeLink; dsimp only; repeat' (first | rfl | split)
@[simp] theorem State.wakeLink_free (s : State) : s.wakeLink.free = s.free := by
  unfold State.wakeLink; dsimp only; repeat' (first | rfl | split)
@[simp] theorem State.wakeLink_root (s : State) : s.wakeLink.root = s.root := by
  unfold State.wakeLink; dsimp only; repeat' (first | rfl | split)
@[simp] theorem State.wakeLink_ct (s : State) : s.wakeLink.ct = s.ct := by
  unfold State.wakeLink; dsimp only; repeat' (first | rfl | split)
@[simp] theorem State.wakeLink_latch (s : State) : s.wakeLink.latch = s.latch := by
  unfold State.wakeLink; dsimp only; repeat' (first | rfl | split)
@[simp] theorem State.wakeLink_rings (s : State) : s.wakeLink.rings = s.rings := by
  unfold State.wakeLink; dsimp only; repeat' (first | rfl | split)
@[simp] theorem State.wakeLink_events (s : State) : s.wakeLink.events = s.events := by
  unfold State.wakeLink; dsimp only; repeat' (first | rfl | split)
@[simp] theorem State.wakeLink_mem (s : State) : s.wakeLink.mem = s.mem := by
  unfold State.wakeLink; dsimp only; repeat' (first | rfl | split)
@[simp] theorem State.wakeLink_cache (s : State) : s.wakeLink.cache = s.cache := by
  unfold State.wakeLink; dsimp only; repeat' (first | rfl | split)
@[simp] theorem State.wakeLink_cipher (s : State) : s.wakeLink.cipher = s.cipher := by
  unfold State.wakeLink; dsimp only; repeat' (first | rfl | split)
@[simp] theorem State.wakeLink_decoder (s : State) : s.wakeLink.decoder = s.decoder := by
  unfold State.wakeLink; dsimp only; repeat' (first | rfl | split)
@[simp] theorem State.wakeLink_stations (s : State) : s.wakeLink.stations = s.stations := by
  unfold State.wakeLink; dsimp only; repeat' (first | rfl | split)
@[simp] theorem State.wakeLink_recording (s : State) : s.wakeLink.recording = s.recording := by
  unfold State.wakeLink; dsimp only; repeat' (first | rfl | split)
@[simp] theorem State.wakeLink_lanes (s : State) : s.wakeLink.lanes = s.lanes := by
  unfold State.wakeLink; dsimp only; repeat' (first | rfl | split)
@[simp] theorem State.wakeLink_pickups (s : State) : s.wakeLink.pickups = s.pickups := by
  unfold State.wakeLink; dsimp only; repeat' (first | rfl | split)
@[simp] theorem State.wakeLink_lps (s : State) : s.wakeLink.lps = s.lps := by
  unfold State.wakeLink; dsimp only; repeat' (first | rfl | split)
@[simp] theorem State.wakeLink_spindles (s : State) : s.wakeLink.spindles = s.spindles := by
  unfold State.wakeLink; dsimp only; repeat' (first | rfl | split)
@[simp] theorem State.wakeLink_motors (s : State) : s.wakeLink.motors = s.motors := by
  unfold State.wakeLink; dsimp only; repeat' (first | rfl | split)
@[simp] theorem State.wakeLink_groups (s : State) : s.wakeLink.groups = s.groups := by
  unfold State.wakeLink; dsimp only; repeat' (first | rfl | split)
@[simp] theorem State.wakeLink_timebase (s : State) : s.wakeLink.timebase = s.timebase := by
  unfold State.wakeLink; dsimp only; repeat' (first | rfl | split)
@[simp] theorem State.wakeLink_fw (s : State) : s.wakeLink.fw = s.fw := by
  unfold State.wakeLink; dsimp only; repeat' (first | rfl | split)
@[simp] theorem State.wakeLink_power (s : State) : s.wakeLink.power = s.power := by
  unfold State.wakeLink; dsimp only; repeat' (first | rfl | split)
@[simp] theorem State.wakeLink_calib (s : State) : s.wakeLink.calib = s.calib := by
  unfold State.wakeLink; dsimp only; repeat' (first | rfl | split)
@[simp] theorem State.wakeLink_mbl (s : State) : s.wakeLink.mbl = s.mbl := by
  unfold State.wakeLink; dsimp only; repeat' (first | rfl | split)
@[simp] theorem State.wakeLink_pending (s : State) : s.wakeLink.pending = s.pending := by
  unfold State.wakeLink; dsimp only; repeat' (first | rfl | split)

@[simp] theorem State.emitAll_now (s : State) (os : List Out) : (s.emitAll os).now = s.now := by
  unfold State.emitAll; dsimp only; split <;> simp
@[simp] theorem State.emitAll_free (s : State) (os : List Out) : (s.emitAll os).free = s.free := by
  unfold State.emitAll; dsimp only; split <;> simp
@[simp] theorem State.emitAll_root (s : State) (os : List Out) : (s.emitAll os).root = s.root := by
  unfold State.emitAll; dsimp only; split <;> simp
@[simp] theorem State.emitAll_ct (s : State) (os : List Out) : (s.emitAll os).ct = s.ct := by
  unfold State.emitAll; dsimp only; split <;> simp
@[simp] theorem State.emitAll_latch (s : State) (os : List Out) : (s.emitAll os).latch = s.latch := by
  unfold State.emitAll; dsimp only; split <;> simp
@[simp] theorem State.emitAll_rings (s : State) (os : List Out) : (s.emitAll os).rings = s.rings := by
  unfold State.emitAll; dsimp only; split <;> simp
@[simp] theorem State.emitAll_events (s : State) (os : List Out) : (s.emitAll os).events = s.events := by
  unfold State.emitAll; dsimp only; split <;> simp
@[simp] theorem State.emitAll_mem (s : State) (os : List Out) : (s.emitAll os).mem = s.mem := by
  unfold State.emitAll; dsimp only; split <;> simp
@[simp] theorem State.emitAll_cache (s : State) (os : List Out) : (s.emitAll os).cache = s.cache := by
  unfold State.emitAll; dsimp only; split <;> simp
@[simp] theorem State.emitAll_cipher (s : State) (os : List Out) : (s.emitAll os).cipher = s.cipher := by
  unfold State.emitAll; dsimp only; split <;> simp
@[simp] theorem State.emitAll_decoder (s : State) (os : List Out) : (s.emitAll os).decoder = s.decoder := by
  unfold State.emitAll; dsimp only; split <;> simp
@[simp] theorem State.emitAll_stations (s : State) (os : List Out) : (s.emitAll os).stations = s.stations := by
  unfold State.emitAll; dsimp only; split <;> simp
@[simp] theorem State.emitAll_recording (s : State) (os : List Out) : (s.emitAll os).recording = s.recording := by
  unfold State.emitAll; dsimp only; split <;> simp
@[simp] theorem State.emitAll_lanes (s : State) (os : List Out) : (s.emitAll os).lanes = s.lanes := by
  unfold State.emitAll; dsimp only; split <;> simp
@[simp] theorem State.emitAll_pickups (s : State) (os : List Out) : (s.emitAll os).pickups = s.pickups := by
  unfold State.emitAll; dsimp only; split <;> simp
@[simp] theorem State.emitAll_lps (s : State) (os : List Out) : (s.emitAll os).lps = s.lps := by
  unfold State.emitAll; dsimp only; split <;> simp
@[simp] theorem State.emitAll_spindles (s : State) (os : List Out) : (s.emitAll os).spindles = s.spindles := by
  unfold State.emitAll; dsimp only; split <;> simp
@[simp] theorem State.emitAll_motors (s : State) (os : List Out) : (s.emitAll os).motors = s.motors := by
  unfold State.emitAll; dsimp only; split <;> simp
@[simp] theorem State.emitAll_groups (s : State) (os : List Out) : (s.emitAll os).groups = s.groups := by
  unfold State.emitAll; dsimp only; split <;> simp
@[simp] theorem State.emitAll_timebase (s : State) (os : List Out) : (s.emitAll os).timebase = s.timebase := by
  unfold State.emitAll; dsimp only; split <;> simp
@[simp] theorem State.emitAll_fw (s : State) (os : List Out) : (s.emitAll os).fw = s.fw := by
  unfold State.emitAll; dsimp only; split <;> simp
@[simp] theorem State.emitAll_power (s : State) (os : List Out) : (s.emitAll os).power = s.power := by
  unfold State.emitAll; dsimp only; split <;> simp
@[simp] theorem State.emitAll_calib (s : State) (os : List Out) : (s.emitAll os).calib = s.calib := by
  unfold State.emitAll; dsimp only; split <;> simp
@[simp] theorem State.emitAll_mbl (s : State) (os : List Out) : (s.emitAll os).mbl = s.mbl := by
  unfold State.emitAll; dsimp only; split <;> simp
@[simp] theorem State.emitAll_pending (s : State) (os : List Out) : (s.emitAll os).pending = s.pending := by
  unfold State.emitAll; dsimp only; split <;> simp

@[simp] theorem State.emit_now (s : State) (o : Out) : (s.emit o).now = s.now := State.emitAll_now s [o]
@[simp] theorem State.emit_free (s : State) (o : Out) : (s.emit o).free = s.free := State.emitAll_free s [o]
@[simp] theorem State.emit_root (s : State) (o : Out) : (s.emit o).root = s.root := State.emitAll_root s [o]
@[simp] theorem State.emit_ct (s : State) (o : Out) : (s.emit o).ct = s.ct := State.emitAll_ct s [o]
@[simp] theorem State.emit_latch (s : State) (o : Out) : (s.emit o).latch = s.latch := State.emitAll_latch s [o]
@[simp] theorem State.emit_rings (s : State) (o : Out) : (s.emit o).rings = s.rings := State.emitAll_rings s [o]
@[simp] theorem State.emit_events (s : State) (o : Out) : (s.emit o).events = s.events := State.emitAll_events s [o]
@[simp] theorem State.emit_mem (s : State) (o : Out) : (s.emit o).mem = s.mem := State.emitAll_mem s [o]
@[simp] theorem State.emit_cache (s : State) (o : Out) : (s.emit o).cache = s.cache := State.emitAll_cache s [o]
@[simp] theorem State.emit_cipher (s : State) (o : Out) : (s.emit o).cipher = s.cipher := State.emitAll_cipher s [o]
@[simp] theorem State.emit_decoder (s : State) (o : Out) : (s.emit o).decoder = s.decoder := State.emitAll_decoder s [o]
@[simp] theorem State.emit_stations (s : State) (o : Out) : (s.emit o).stations = s.stations := State.emitAll_stations s [o]
@[simp] theorem State.emit_recording (s : State) (o : Out) : (s.emit o).recording = s.recording := State.emitAll_recording s [o]
@[simp] theorem State.emit_lanes (s : State) (o : Out) : (s.emit o).lanes = s.lanes := State.emitAll_lanes s [o]
@[simp] theorem State.emit_pickups (s : State) (o : Out) : (s.emit o).pickups = s.pickups := State.emitAll_pickups s [o]
@[simp] theorem State.emit_lps (s : State) (o : Out) : (s.emit o).lps = s.lps := State.emitAll_lps s [o]
@[simp] theorem State.emit_spindles (s : State) (o : Out) : (s.emit o).spindles = s.spindles := State.emitAll_spindles s [o]
@[simp] theorem State.emit_motors (s : State) (o : Out) : (s.emit o).motors = s.motors := State.emitAll_motors s [o]
@[simp] theorem State.emit_groups (s : State) (o : Out) : (s.emit o).groups = s.groups := State.emitAll_groups s [o]
@[simp] theorem State.emit_timebase (s : State) (o : Out) : (s.emit o).timebase = s.timebase := State.emitAll_timebase s [o]
@[simp] theorem State.emit_fw (s : State) (o : Out) : (s.emit o).fw = s.fw := State.emitAll_fw s [o]
@[simp] theorem State.emit_power (s : State) (o : Out) : (s.emit o).power = s.power := State.emitAll_power s [o]
@[simp] theorem State.emit_calib (s : State) (o : Out) : (s.emit o).calib = s.calib := State.emitAll_calib s [o]
@[simp] theorem State.emit_mbl (s : State) (o : Out) : (s.emit o).mbl = s.mbl := State.emitAll_mbl s [o]
@[simp] theorem State.emit_pending (s : State) (o : Out) : (s.emit o).pending = s.pending := State.emitAll_pending s [o]

/-- What is no TLP leaves the registers and the endpoint alone. -/
theorem State.emitAll_plain (s : State) (os : List Out) (h : os.any Out.isTlp = false) :
    s.emitAll os = { s with sent := s.sent ++ os } := by
  unfold State.emitAll
  simp [h]

theorem State.fld_wakeLink_ne (s : State) {g : Fld} (h : g.key ≠ F.HIF_LINK_STATUS_PM.key) : s.wakeLink.fld g = s.fld g := by
  unfold State.wakeLink
  dsimp only
  split
  · rfl
  · split
    · exact (State.fld_of_regs rfl g).trans (State.fld_put_ne s 0 h)
    · exact State.fld_put_ne s 0 h

end Sys2Proof.Machine
end

