-- ==== Sys2Proof/Laws/Frame.lean ====
section
/-!
SUPPORT. What an operation leaves as it was: the parts of the machine outside a mask. One lemma for each way in which a state is written;
SteadyOps and the files behind it use them.
-/
set_option Elab.async false
set_option linter.all false
namespace Sys2Proof.Machine

/-- The place of a part in a mask. -/
def Part.idx : Part → Nat
  | .fnRegs => 0
  | .linkRegs => 1
  | .hifRegs => 2
  | .winRegs => 3
  | .evtRegs => 4
  | .ringRegs => 5
  | .memRegs => 6
  | .cchRegs => 7
  | .cipRegs => 8
  | .srvRegs => 9
  | .spnRegs => 10
  | .motRegs => 11
  | .rchRegs => 12
  | .recRegs => 13
  | .calRegs => 14
  | .mblRegs => 15
  | .hpcRegs => 16
  | .fwuRegs => 17
  | .sysRegs => 18
  | .trcRegs => 19
  | .now => 20
  | .free => 21
  | .root => 22
  | .ct => 23
  | .latch => 24
  | .rings => 25
  | .events => 26
  | .pcie => 27
  | .mem => 28
  | .cache => 29
  | .cipher => 30
  | .decoder => 31
  | .stations => 32
  | .recording => 33
  | .lanes => 34
  | .pickups => 35
  | .lps => 36
  | .spindles => 37
  | .motors => 38
  | .groups => 39
  | .timebase => 40
  | .fw => 41
  | .power => 42
  | .calib => 43
  | .mbl => 44
  | .sent => 45
  | .pending => 46

/-- The parts outside a mask are as they were. -/
def Frame (W : Nat) (s t : State) : Prop := ∀ p : Part, W.testBit p.idx = false → Part.same s t p

/-- One mask within another. -/
structure within (a b : Nat) : Prop where
  eq : a &&& b = a

theorem within_of {a b : Nat} (h : a &&& b = a) : within a b := ⟨h⟩

theorem within_trans {a b c : Nat} (h : within b c) (k : within a b) : within a c := by
  constructor
  rw [← k.eq, Nat.and_assoc, h.eq]

theorem within_bit {a b : Nat} (h : within a b) (i : Nat) (k : a.testBit i = true) : b.testBit i = true := by
  rw [← h.eq, Nat.testBit_and, Bool.and_eq_true] at k
  exact k.2

theorem within_group {a b : Nat} {f : Fld} (h : within a b) (p : Part) (k : a.testBit p.idx = true) (e : f.group = p) :
    b.testBit f.group.idx = true := within_bit h _ (e ▸ k)

/-- A field belongs to a group in the mask. -/
abbrev Fld.within (W : Nat) (f : Fld) : Prop := W.testBit f.group.idx = true

theorem Part.same_refl (s : State) (p : Part) : Part.same s s p := by
  cases p <;> first | rfl | exact fun _ _ => rfl

theorem Part.same_trans {s t u : State} {p : Part} (h : Part.same s t p) (k : Part.same t u p) : Part.same s u p := by
  cases p <;> first | exact Eq.trans k h | exact fun f e => (k f e).trans (h f e)

theorem Frame.refl (W : Nat) (s : State) : Frame W s s := fun p _ => Part.same_refl s p

theorem Frame.trans {W : Nat} {s t u : State} (h : Frame W s t) (k : Frame W t u) : Frame W s u :=
  fun p hp => Part.same_trans (h p hp) (k p hp)

theorem Frame.mono {V W : Nat} {s t : State} (h : Frame V s t) (k : within V W) : Frame W s t := by
  intro p hp
  apply h p
  cases e : V.testBit p.idx with
  | false => rfl
  | true => rw [within_bit k _ e] at hp; cases hp

/-- A frame by the components: each unchanged or in the mask. -/
theorem Frame.of {W : Nat} {s t : State} (hr : t.regs = s.regs)
    (hnow : t.now = s.now ∨ W.testBit 20 = true)
    (hfree : t.free = s.free ∨ W.testBit 21 = true)
    (hroot : t.root = s.root ∨ W.testBit 22 = true)
    (hct : t.ct = s.ct ∨ W.testBit 23 = true)
    (hlatch : t.latch = s.latch ∨ W.testBit 24 = true)
    (hrings : t.rings = s.rings ∨ W.testBit 25 = true)
    (hevents : t.events = s.events ∨ W.testBit 26 = true)
    (hpcie : t.pcie = s.pcie ∨ W.testBit 27 = true)
    (hmem : t.mem = s.mem ∨ W.testBit 28 = true)
    (hcache : t.cache = s.cache ∨ W.testBit 29 = true)
    (hcipher : t.cipher = s.cipher ∨ W.testBit 30 = true)
    (hdecoder : t.decoder = s.decoder ∨ W.testBit 31 = true)
    (hstations : t.stations = s.stations ∨ W.testBit 32 = true)
    (hrecording : t.recording = s.recording ∨ W.testBit 33 = true)
    (hlanes : t.lanes = s.lanes ∨ W.testBit 34 = true)
    (hpickups : t.pickups = s.pickups ∨ W.testBit 35 = true)
    (hlps : t.lps = s.lps ∨ W.testBit 36 = true)
    (hspindles : t.spindles = s.spindles ∨ W.testBit 37 = true)
    (hmotors : t.motors = s.motors ∨ W.testBit 38 = true)
    (hgroups : t.groups = s.groups ∨ W.testBit 39 = true)
    (htimebase : t.timebase = s.timebase ∨ W.testBit 40 = true)
    (hfw : t.fw = s.fw ∨ W.testBit 41 = true)
    (hpower : t.power = s.power ∨ W.testBit 42 = true)
    (hcalib : t.calib = s.calib ∨ W.testBit 43 = true)
    (hmbl : t.mbl = s.mbl ∨ W.testBit 44 = true)
    (hsent : t.sent = s.sent ∨ W.testBit 45 = true)
    (hpending : t.pending = s.pending ∨ W.testBit 46 = true)
    : Frame W s t := by
  intro p hp
  cases p <;> first
    | exact fun f _ => State.fld_of_regs hr f
    | exact Or.resolve_right (by assumption) (fun h => by cases h.symm.trans hp)

theorem Frame.set_now {W : Nat} {s₀ s : State} (h : Frame W s₀ s) (v : Nat) (hw : within 1048576 W) :
    Frame W s₀ (State.mk v s.free s.root s.regs s.ct s.latch s.rings s.events s.pcie s.mem s.cache s.cipher s.decoder s.stations s.recording s.lanes s.pickups s.lps s.spindles s.motors s.groups s.timebase s.fw s.power s.calib s.mbl s.sent s.pending) :=
  h.trans (Frame.of rfl (.inr (within_bit hw 20 (by decide))) (.inl rfl) (.inl rfl) (.inl rfl) (.inl rfl) (.inl rfl) (.inl rfl) (.inl rfl) (.inl rfl) (.inl rfl) (.inl rfl) (.inl rfl) (.inl rfl) (.inl rfl) (.inl rfl) (.inl rfl) (.inl rfl) (.inl rfl) (.inl rfl) (.inl rfl) (.inl rfl) (.inl rfl) (.inl rfl) (.inl rfl) (.inl rfl) (.inl rfl) (.inl rfl))

theorem Frame.set_free {W : Nat} {s₀ s : State} (h : Frame W s₀ s) (v : Nat) (hw : within 2097152 W) :
    Frame W s₀ (State.mk s.now v s.root s.regs s.ct s.latch s.rings s.events s.pcie s.mem s.cache s.cipher s.decoder s.stations s.recording s.lanes s.pickups s.lps s.spindles s.motors s.groups s.timebase s.fw s.power s.calib s.mbl s.sent s.pending) :=
  h.trans (Frame.of rfl (.inl rfl) (.inr (within_bit hw 21 (by decide))) (.inl rfl) (.inl rfl) (.inl rfl) (.inl rfl) (.inl rfl) (.inl rfl) (.inl rfl) (.inl rfl) (.inl rfl) (.inl rfl) (.inl rfl) (.inl rfl) (.inl rfl) (.inl rfl) (.inl rfl) (.inl rfl) (.inl rfl) (.inl rfl) (.inl rfl) (.inl rfl) (.inl rfl) (.inl rfl) (.inl rfl) (.inl rfl) (.inl rfl))

theorem Frame.set_ct {W : Nat} {s₀ s : State} (h : Frame W s₀ s) (v : Nat) (hw : within 8388608 W) :
    Frame W s₀ (State.mk s.now s.free s.root s.regs v s.latch s.rings s.events s.pcie s.mem s.cache s.cipher s.decoder s.stations s.recording s.lanes s.pickups s.lps s.spindles s.motors s.groups s.timebase s.fw s.power s.calib s.mbl s.sent s.pending) :=
  h.trans (Frame.of rfl (.inl rfl) (.inl rfl) (.inl rfl) (.inr (within_bit hw 23 (by decide))) (.inl rfl) (.inl rfl) (.inl rfl) (.inl rfl) (.inl rfl) (.inl rfl) (.inl rfl) (.inl rfl) (.inl rfl) (.inl rfl) (.inl rfl) (.inl rfl) (.inl rfl) (.inl rfl) (.inl rfl) (.inl rfl) (.inl rfl) (.inl rfl) (.inl rfl) (.inl rfl) (.inl rfl) (.inl rfl) (.inl rfl))

theorem Frame.set_latch {W : Nat} {s₀ s : State} (h : Frame W s₀ s) (v : Table Nat) (hw : within 16777216 W) :
    Frame W s₀ (State.mk s.now s.free s.root s.regs s.ct v s.rings s.events s.pcie s.mem s.cache s.cipher s.decoder s.stations s.recording s.lanes s.pickups s.lps s.spindles s.motors s.groups s.timebase s.fw s.power s.calib s.mbl s.sent s.pending) :=
  h.trans (Frame.of rfl (.inl rfl) (.inl rfl) (.inl rfl) (.inl rfl) (.inr (within_bit hw 24 (by decide))) (.inl rfl) (.inl rfl) (.inl rfl) (.inl rfl) (.inl rfl) (.inl rfl) (.inl rfl) (.inl rfl) (.inl rfl) (.inl rfl) (.inl rfl) (.inl rfl) (.inl rfl) (.inl rfl) (.inl rfl) (.inl rfl) (.inl rfl) (.inl rfl) (.inl rfl) (.inl rfl) (.inl rfl) (.inl rfl))

theorem Frame.set_rings {W : Nat} {s₀ s : State} (h : Frame W s₀ s) (v : Rings) (hw : within 33554432 W) :
    Frame W s₀ (State.mk s.now s.free s.root s.regs s.ct s.latch v s.events s.pcie s.mem s.cache s.cipher s.decoder s.stations s.recording s.lanes s.pickups s.lps s.spindles s.motors s.groups s.timebase s.fw s.power s.calib s.mbl s.sent s.pending) :=
  h.trans (Frame.of rfl (.inl rfl) (.inl rfl) (.inl rfl) (.inl rfl) (.inl rfl) (.inr (within_bit hw 25 (by decide))) (.inl rfl) (.inl rfl) (.inl rfl) (.inl rfl) (.inl rfl) (.inl rfl) (.inl rfl) (.inl rfl) (.inl rfl) (.inl rfl) (.inl rfl) (.inl rfl) (.inl rfl) (.inl rfl) (.inl rfl) (.inl rfl) (.inl rfl) (.inl rfl) (.inl rfl) (.inl rfl) (.inl rfl))

theorem Frame.set_events {W : Nat} {s₀ s : State} (h : Frame W s₀ s) (v : Events) (hw : within 67108864 W) :
    Frame W s₀ (State.mk s.now s.free s.root s.regs s.ct s.latch s.rings v s.pcie s.mem s.cache s.cipher s.decoder s.stations s.recording s.lanes s.pickups s.lps s.spindles s.motors s.groups s.timebase s.fw s.power s.calib s.mbl s.sent s.pending) :=
  h.trans (Frame.of rfl (.inl rfl) (.inl rfl) (.inl rfl) (.inl rfl) (.inl rfl) (.inl rfl) (.inr (within_bit hw 26 (by decide))) (.inl rfl) (.inl rfl) (.inl rfl) (.inl rfl) (.inl rfl) (.inl rfl) (.inl rfl) (.inl rfl) (.inl rfl) (.inl rfl) (.inl rfl) (.inl rfl) (.inl rfl) (.inl rfl) (.inl rfl) (.inl rfl) (.inl rfl) (.inl rfl) (.inl rfl) (.inl rfl))

theorem Frame.set_pcie {W : Nat} {s₀ s : State} (h : Frame W s₀ s) (v : Pcie) (hw : within 134217728 W) :
    Frame W s₀ (State.mk s.now s.free s.root s.regs s.ct s.latch s.rings s.events v s.mem s.cache s.cipher s.decoder s.stations s.recording s.lanes s.pickups s.lps s.spindles s.motors s.groups s.timebase s.fw s.power s.calib s.mbl s.sent s.pending) :=
  h.trans (Frame.of rfl (.inl rfl) (.inl rfl) (.inl rfl) (.inl rfl) (.inl rfl) (.inl rfl) (.inl rfl) (.inr (within_bit hw 27 (by decide))) (.inl rfl) (.inl rfl) (.inl rfl) (.inl rfl) (.inl rfl) (.inl rfl) (.inl rfl) (.inl rfl) (.inl rfl) (.inl rfl) (.inl rfl) (.inl rfl) (.inl rfl) (.inl rfl) (.inl rfl) (.inl rfl) (.inl rfl) (.inl rfl) (.inl rfl))

theorem Frame.set_mem {W : Nat} {s₀ s : State} (h : Frame W s₀ s) (v : OnChip) (hw : within 268435456 W) :
    Frame W s₀ (State.mk s.now s.free s.root s.regs s.ct s.latch s.rings s.events s.pcie v s.cache s.cipher s.decoder s.stations s.recording s.lanes s.pickups s.lps s.spindles s.motors s.groups s.timebase s.fw s.power s.calib s.mbl s.sent s.pending) :=
  h.trans (Frame.of rfl (.inl rfl) (.inl rfl) (.inl rfl) (.inl rfl) (.inl rfl) (.inl rfl) (.inl rfl) (.inl rfl) (.inr (within_bit hw 28 (by decide))) (.inl rfl) (.inl rfl) (.inl rfl) (.inl rfl) (.inl rfl) (.inl rfl) (.inl rfl) (.inl rfl) (.inl rfl) (.inl rfl) (.inl rfl) (.inl rfl) (.inl rfl) (.inl rfl) (.inl rfl) (.inl rfl) (.inl rfl) (.inl rfl))

theorem Frame.set_cache {W : Nat} {s₀ s : State} (h : Frame W s₀ s) (v : Cache) (hw : within 536870912 W) :
    Frame W s₀ (State.mk s.now s.free s.root s.regs s.ct s.latch s.rings s.events s.pcie s.mem v s.cipher s.decoder s.stations s.recording s.lanes s.pickups s.lps s.spindles s.motors s.groups s.timebase s.fw s.power s.calib s.mbl s.sent s.pending) :=
  h.trans (Frame.of rfl (.inl rfl) (.inl rfl) (.inl rfl) (.inl rfl) (.inl rfl) (.inl rfl) (.inl rfl) (.inl rfl) (.inl rfl) (.inr (within_bit hw 29 (by decide))) (.inl rfl) (.inl rfl) (.inl rfl) (.inl rfl) (.inl rfl) (.inl rfl) (.inl rfl) (.inl rfl) (.inl rfl) (.inl rfl) (.inl rfl) (.inl rfl) (.inl rfl) (.inl rfl) (.inl rfl) (.inl rfl) (.inl rfl))

theorem Frame.set_cipher {W : Nat} {s₀ s : State} (h : Frame W s₀ s) (v : Cipher) (hw : within 1073741824 W) :
    Frame W s₀ (State.mk s.now s.free s.root s.regs s.ct s.latch s.rings s.events s.pcie s.mem s.cache v s.decoder s.stations s.recording s.lanes s.pickups s.lps s.spindles s.motors s.groups s.timebase s.fw s.power s.calib s.mbl s.sent s.pending) :=
  h.trans (Frame.of rfl (.inl rfl) (.inl rfl) (.inl rfl) (.inl rfl) (.inl rfl) (.inl rfl) (.inl rfl) (.inl rfl) (.inl rfl) (.inl rfl) (.inr (within_bit hw 30 (by decide))) (.inl rfl) (.inl rfl) (.inl rfl) (.inl rfl) (.inl rfl) (.inl rfl) (.inl rfl) (.inl rfl) (.inl rfl) (.inl rfl) (.inl rfl) (.inl rfl) (.inl rfl) (.inl rfl) (.inl rfl) (.inl rfl))

theorem Frame.set_decoder {W : Nat} {s₀ s : State} (h : Frame W s₀ s) (v : Decoder) (hw : within 2147483648 W) :
    Frame W s₀ (State.mk s.now s.free s.root s.regs s.ct s.latch s.rings s.events s.pcie s.mem s.cache s.cipher v s.stations s.recording s.lanes s.pickups s.lps s.spindles s.motors s.groups s.timebase s.fw s.power s.calib s.mbl s.sent s.pending) :=
  h.trans (Frame.of rfl (.inl rfl) (.inl rfl) (.inl rfl) (.inl rfl) (.inl rfl) (.inl rfl) (.inl rfl) (.inl rfl) (.inl rfl) (.inl rfl) (.inl rfl) (.inr (within_bit hw 31 (by decide))) (.inl rfl) (.inl rfl) (.inl rfl) (.inl rfl) (.inl rfl) (.inl rfl) (.inl rfl) (.inl rfl) (.inl rfl) (.inl rfl) (.inl rfl) (.inl rfl) (.inl rfl) (.inl rfl) (.inl rfl))

theorem Frame.set_stations {W : Nat} {s₀ s : State} (h : Frame W s₀ s) (v : Table Station) (hw : within 4294967296 W) :
    Frame W s₀ (State.mk s.now s.free s.root s.regs s.ct s.latch s.rings s.events s.pcie s.mem s.cache s.cipher s.decoder v s.recording s.lanes s.pickups s.lps s.spindles s.motors s.groups s.timebase s.fw s.power s.calib s.mbl s.sent s.pending) :=
  h.trans (Frame.of rfl (.inl rfl) (.inl rfl) (.inl rfl) (.inl rfl) (.inl rfl) (.inl rfl) (.inl rfl) (.inl rfl) (.inl rfl) (.inl rfl) (.inl rfl) (.inl rfl) (.inr (within_bit hw 32 (by decide))) (.inl rfl) (.inl rfl) (.inl rfl) (.inl rfl) (.inl rfl) (.inl rfl) (.inl rfl) (.inl rfl) (.inl rfl) (.inl rfl) (.inl rfl) (.inl rfl) (.inl rfl) (.inl rfl))

theorem Frame.set_recording {W : Nat} {s₀ s : State} (h : Frame W s₀ s) (v : Recording) (hw : within 8589934592 W) :
    Frame W s₀ (State.mk s.now s.free s.root s.regs s.ct s.latch s.rings s.events s.pcie s.mem s.cache s.cipher s.decoder s.stations v s.lanes s.pickups s.lps s.spindles s.motors s.groups s.timebase s.fw s.power s.calib s.mbl s.sent s.pending) :=
  h.trans (Frame.of rfl (.inl rfl) (.inl rfl) (.inl rfl) (.inl rfl) (.inl rfl) (.inl rfl) (.inl rfl) (.inl rfl) (.inl rfl) (.inl rfl) (.inl rfl) (.inl rfl) (.inl rfl) (.inr (within_bit hw 33 (by decide))) (.inl rfl) (.inl rfl) (.inl rfl) (.inl rfl) (.inl rfl) (.inl rfl) (.inl rfl) (.inl rfl) (.inl rfl) (.inl rfl) (.inl rfl) (.inl rfl) (.inl rfl))

theorem Frame.set_lanes {W : Nat} {s₀ s : State} (h : Frame W s₀ s) (v : Table Lane) (hw : within 17179869184 W) :
    Frame W s₀ (State.mk s.now s.free s.root s.regs s.ct s.latch s.rings s.events s.pcie s.mem s.cache s.cipher s.decoder s.stations s.recording v s.pickups s.lps s.spindles s.motors s.groups s.timebase s.fw s.power s.calib s.mbl s.sent s.pending) :=
  h.trans (Frame.of rfl (.inl rfl) (.inl rfl) (.inl rfl) (.inl rfl) (.inl rfl) (.inl rfl) (.inl rfl) (.inl rfl) (.inl rfl) (.inl rfl) (.inl rfl) (.inl rfl) (.inl rfl) (.inl rfl) (.inr (within_bit hw 34 (by decide))) (.inl rfl) (.inl rfl) (.inl rfl) (.inl rfl) (.inl rfl) (.inl rfl) (.inl rfl) (.inl rfl) (.inl rfl) (.inl rfl) (.inl rfl) (.inl rfl))

theorem Frame.set_pickups {W : Nat} {s₀ s : State} (h : Frame W s₀ s) (v : Table Pickup) (hw : within 34359738368 W) :
    Frame W s₀ (State.mk s.now s.free s.root s.regs s.ct s.latch s.rings s.events s.pcie s.mem s.cache s.cipher s.decoder s.stations s.recording s.lanes v s.lps s.spindles s.motors s.groups s.timebase s.fw s.power s.calib s.mbl s.sent s.pending) :=
  h.trans (Frame.of rfl (.inl rfl) (.inl rfl) (.inl rfl) (.inl rfl) (.inl rfl) (.inl rfl) (.inl rfl) (.inl rfl) (.inl rfl) (.inl rfl) (.inl rfl) (.inl rfl) (.inl rfl) (.inl rfl) (.inl rfl) (.inr (within_bit hw 35 (by decide))) (.inl rfl) (.inl rfl) (.inl rfl) (.inl rfl) (.inl rfl) (.inl rfl) (.inl rfl) (.inl rfl) (.inl rfl) (.inl rfl) (.inl rfl))

theorem Frame.set_lps {W : Nat} {s₀ s : State} (h : Frame W s₀ s) (v : Table LoopProc) (hw : within 68719476736 W) :
    Frame W s₀ (State.mk s.now s.free s.root s.regs s.ct s.latch s.rings s.events s.pcie s.mem s.cache s.cipher s.decoder s.stations s.recording s.lanes s.pickups v s.spindles s.motors s.groups s.timebase s.fw s.power s.calib s.mbl s.sent s.pending) :=
  h.trans (Frame.of rfl (.inl rfl) (.inl rfl) (.inl rfl) (.inl rfl) (.inl rfl) (.inl rfl) (.inl rfl) (.inl rfl) (.inl rfl) (.inl rfl) (.inl rfl) (.inl rfl) (.inl rfl) (.inl rfl) (.inl rfl) (.inl rfl) (.inr (within_bit hw 36 (by decide))) (.inl rfl) (.inl rfl) (.inl rfl) (.inl rfl) (.inl rfl) (.inl rfl) (.inl rfl) (.inl rfl) (.inl rfl) (.inl rfl))

theorem Frame.set_spindles {W : Nat} {s₀ s : State} (h : Frame W s₀ s) (v : Table Spindle) (hw : within 137438953472 W) :
    Frame W s₀ (State.mk s.now s.free s.root s.regs s.ct s.latch s.rings s.events s.pcie s.mem s.cache s.cipher s.decoder s.stations s.recording s.lanes s.pickups s.lps v s.motors s.groups s.timebase s.fw s.power s.calib s.mbl s.sent s.pending) :=
  h.trans (Frame.of rfl (.inl rfl) (.inl rfl) (.inl rfl) (.inl rfl) (.inl rfl) (.inl rfl) (.inl rfl) (.inl rfl) (.inl rfl) (.inl rfl) (.inl rfl) (.inl rfl) (.inl rfl) (.inl rfl) (.inl rfl) (.inl rfl) (.inl rfl) (.inr (within_bit hw 37 (by decide))) (.inl rfl) (.inl rfl) (.inl rfl) (.inl rfl) (.inl rfl) (.inl rfl) (.inl rfl) (.inl rfl) (.inl rfl))

theorem Frame.set_motors {W : Nat} {s₀ s : State} (h : Frame W s₀ s) (v : Table Motor) (hw : within 274877906944 W) :
    Frame W s₀ (State.mk s.now s.free s.root s.regs s.ct s.latch s.rings s.events s.pcie s.mem s.cache s.cipher s.decoder s.stations s.recording s.lanes s.pickups s.lps s.spindles v s.groups s.timebase s.fw s.power s.calib s.mbl s.sent s.pending) :=
  h.trans (Frame.of rfl (.inl rfl) (.inl rfl) (.inl rfl) (.inl rfl) (.inl rfl) (.inl rfl) (.inl rfl) (.inl rfl) (.inl rfl) (.inl rfl) (.inl rfl) (.inl rfl) (.inl rfl) (.inl rfl) (.inl rfl) (.inl rfl) (.inl rfl) (.inl rfl) (.inr (within_bit hw 38 (by decide))) (.inl rfl) (.inl rfl) (.inl rfl) (.inl rfl) (.inl rfl) (.inl rfl) (.inl rfl) (.inl rfl))

theorem Frame.set_groups {W : Nat} {s₀ s : State} (h : Frame W s₀ s) (v : Table Group) (hw : within 549755813888 W) :
    Frame W s₀ (State.mk s.now s.free s.root s.regs s.ct s.latch s.rings s.events s.pcie s.mem s.cache s.cipher s.decoder s.stations s.recording s.lanes s.pickups s.lps s.spindles s.motors v s.timebase s.fw s.power s.calib s.mbl s.sent s.pending) :=
  h.trans (Frame.of rfl (.inl rfl) (.inl rfl) (.inl rfl) (.inl rfl) (.inl rfl) (.inl rfl) (.inl rfl) (.inl rfl) (.inl rfl) (.inl rfl) (.inl rfl) (.inl rfl) (.inl rfl) (.inl rfl) (.inl rfl) (.inl rfl) (.inl rfl) (.inl rfl) (.inl rfl) (.inr (within_bit hw 39 (by decide))) (.inl rfl) (.inl rfl) (.inl rfl) (.inl rfl) (.inl rfl) (.inl rfl) (.inl rfl))

theorem Frame.set_timebase {W : Nat} {s₀ s : State} (h : Frame W s₀ s) (v : Nat) (hw : within 1099511627776 W) :
    Frame W s₀ (State.mk s.now s.free s.root s.regs s.ct s.latch s.rings s.events s.pcie s.mem s.cache s.cipher s.decoder s.stations s.recording s.lanes s.pickups s.lps s.spindles s.motors s.groups v s.fw s.power s.calib s.mbl s.sent s.pending) :=
  h.trans (Frame.of rfl (.inl rfl) (.inl rfl) (.inl rfl) (.inl rfl) (.inl rfl) (.inl rfl) (.inl rfl) (.inl rfl) (.inl rfl) (.inl rfl) (.inl rfl) (.inl rfl) (.inl rfl) (.inl rfl) (.inl rfl) (.inl rfl) (.inl rfl) (.inl rfl) (.inl rfl) (.inl rfl) (.inr (within_bit hw 40 (by decide))) (.inl rfl) (.inl rfl) (.inl rfl) (.inl rfl) (.inl rfl) (.inl rfl))

theorem Frame.set_fw {W : Nat} {s₀ s : State} (h : Frame W s₀ s) (v : Firmware) (hw : within 2199023255552 W) :
    Frame W s₀ (State.mk s.now s.free s.root s.regs s.ct s.latch s.rings s.events s.pcie s.mem s.cache s.cipher s.decoder s.stations s.recording s.lanes s.pickups s.lps s.spindles s.motors s.groups s.timebase v s.power s.calib s.mbl s.sent s.pending) :=
  h.trans (Frame.of rfl (.inl rfl) (.inl rfl) (.inl rfl) (.inl rfl) (.inl rfl) (.inl rfl) (.inl rfl) (.inl rfl) (.inl rfl) (.inl rfl) (.inl rfl) (.inl rfl) (.inl rfl) (.inl rfl) (.inl rfl) (.inl rfl) (.inl rfl) (.inl rfl) (.inl rfl) (.inl rfl) (.inl rfl) (.inr (within_bit hw 41 (by decide))) (.inl rfl) (.inl rfl) (.inl rfl) (.inl rfl) (.inl rfl))

theorem Frame.set_power {W : Nat} {s₀ s : State} (h : Frame W s₀ s) (v : Power) (hw : within 4398046511104 W) :
    Frame W s₀ (State.mk s.now s.free s.root s.regs s.ct s.latch s.rings s.events s.pcie s.mem s.cache s.cipher s.decoder s.stations s.recording s.lanes s.pickups s.lps s.spindles s.motors s.groups s.timebase s.fw v s.calib s.mbl s.sent s.pending) :=
  h.trans (Frame.of rfl (.inl rfl) (.inl rfl) (.inl rfl) (.inl rfl) (.inl rfl) (.inl rfl) (.inl rfl) (.inl rfl) (.inl rfl) (.inl rfl) (.inl rfl) (.inl rfl) (.inl rfl) (.inl rfl) (.inl rfl) (.inl rfl) (.inl rfl) (.inl rfl) (.inl rfl) (.inl rfl) (.inl rfl) (.inl rfl) (.inr (within_bit hw 42 (by decide))) (.inl rfl) (.inl rfl) (.inl rfl) (.inl rfl))

theorem Frame.set_calib {W : Nat} {s₀ s : State} (h : Frame W s₀ s) (v : Calib) (hw : within 8796093022208 W) :
    Frame W s₀ (State.mk s.now s.free s.root s.regs s.ct s.latch s.rings s.events s.pcie s.mem s.cache s.cipher s.decoder s.stations s.recording s.lanes s.pickups s.lps s.spindles s.motors s.groups s.timebase s.fw s.power v s.mbl s.sent s.pending) :=
  h.trans (Frame.of rfl (.inl rfl) (.inl rfl) (.inl rfl) (.inl rfl) (.inl rfl) (.inl rfl) (.inl rfl) (.inl rfl) (.inl rfl) (.inl rfl) (.inl rfl) (.inl rfl) (.inl rfl) (.inl rfl) (.inl rfl) (.inl rfl) (.inl rfl) (.inl rfl) (.inl rfl) (.inl rfl) (.inl rfl) (.inl rfl) (.inl rfl) (.inr (within_bit hw 43 (by decide))) (.inl rfl) (.inl rfl) (.inl rfl))

theorem Frame.set_mbl {W : Nat} {s₀ s : State} (h : Frame W s₀ s) (v : Mbl) (hw : within 17592186044416 W) :
    Frame W s₀ (State.mk s.now s.free s.root s.regs s.ct s.latch s.rings s.events s.pcie s.mem s.cache s.cipher s.decoder s.stations s.recording s.lanes s.pickups s.lps s.spindles s.motors s.groups s.timebase s.fw s.power s.calib v s.sent s.pending) :=
  h.trans (Frame.of rfl (.inl rfl) (.inl rfl) (.inl rfl) (.inl rfl) (.inl rfl) (.inl rfl) (.inl rfl) (.inl rfl) (.inl rfl) (.inl rfl) (.inl rfl) (.inl rfl) (.inl rfl) (.inl rfl) (.inl rfl) (.inl rfl) (.inl rfl) (.inl rfl) (.inl rfl) (.inl rfl) (.inl rfl) (.inl rfl) (.inl rfl) (.inl rfl) (.inr (within_bit hw 44 (by decide))) (.inl rfl) (.inl rfl))

theorem Frame.set_sent {W : Nat} {s₀ s : State} (h : Frame W s₀ s) (v : List Out) (hw : within 35184372088832 W) :
    Frame W s₀ (State.mk s.now s.free s.root s.regs s.ct s.latch s.rings s.events s.pcie s.mem s.cache s.cipher s.decoder s.stations s.recording s.lanes s.pickups s.lps s.spindles s.motors s.groups s.timebase s.fw s.power s.calib s.mbl v s.pending) :=
  h.trans (Frame.of rfl (.inl rfl) (.inl rfl) (.inl rfl) (.inl rfl) (.inl rfl) (.inl rfl) (.inl rfl) (.inl rfl) (.inl rfl) (.inl rfl) (.inl rfl) (.inl rfl) (.inl rfl) (.inl rfl) (.inl rfl) (.inl rfl) (.inl rfl) (.inl rfl) (.inl rfl) (.inl rfl) (.inl rfl) (.inl rfl) (.inl rfl) (.inl rfl) (.inl rfl) (.inr (within_bit hw 45 (by decide))) (.inl rfl))

theorem Frame.set_pcie_sent {W : Nat} {s₀ s : State} (h : Frame W s₀ s) (vpcie : Pcie) (vsent : List Out) (hw : within 35184506306560 W) :
    Frame W s₀ (State.mk s.now s.free s.root s.regs s.ct s.latch s.rings s.events vpcie s.mem s.cache s.cipher s.decoder s.stations s.recording s.lanes s.pickups s.lps s.spindles s.motors s.groups s.timebase s.fw s.power s.calib s.mbl vsent s.pending) :=
  h.trans (Frame.of rfl (.inl rfl) (.inl rfl) (.inl rfl) (.inl rfl) (.inl rfl) (.inl rfl) (.inl rfl) (.inr (within_bit hw 27 (by decide))) (.inl rfl) (.inl rfl) (.inl rfl) (.inl rfl) (.inl rfl) (.inl rfl) (.inl rfl) (.inl rfl) (.inl rfl) (.inl rfl) (.inl rfl) (.inl rfl) (.inl rfl) (.inl rfl) (.inl rfl) (.inl rfl) (.inl rfl) (.inr (within_bit hw 45 (by decide))) (.inl rfl))

theorem Frame.set_rings_cipher {W : Nat} {s₀ s : State} (h : Frame W s₀ s) (vrings : Rings) (vcipher : Cipher) (hw : within 1107296256 W) :
    Frame W s₀ (State.mk s.now s.free s.root s.regs s.ct s.latch vrings s.events s.pcie s.mem s.cache vcipher s.decoder s.stations s.recording s.lanes s.pickups s.lps s.spindles s.motors s.groups s.timebase s.fw s.power s.calib s.mbl s.sent s.pending) :=
  h.trans (Frame.of rfl (.inl rfl) (.inl rfl) (.inl rfl) (.inl rfl) (.inl rfl) (.inr (within_bit hw 25 (by decide))) (.inl rfl) (.inl rfl) (.inl rfl) (.inl rfl) (.inr (within_bit hw 30 (by decide))) (.inl rfl) (.inl rfl) (.inl rfl) (.inl rfl) (.inl rfl) (.inl rfl) (.inl rfl) (.inl rfl) (.inl rfl) (.inl rfl) (.inl rfl) (.inl rfl) (.inl rfl) (.inl rfl) (.inl rfl) (.inl rfl))

theorem Frame.set_cipher_recording {W : Nat} {s₀ s : State} (h : Frame W s₀ s) (vcipher : Cipher) (vrecording : Recording) (hw : within 9663676416 W) :
    Frame W s₀ (State.mk s.now s.free s.root s.regs s.ct s.latch s.rings s.events s.pcie s.mem s.cache vcipher s.decoder s.stations vrecording s.lanes s.pickups s.lps s.spindles s.motors s.groups s.timebase s.fw s.power s.calib s.mbl s.sent s.pending) :=
  h.trans (Frame.of rfl (.inl rfl) (.inl rfl) (.inl rfl) (.inl rfl) (.inl rfl) (.inl rfl) (.inl rfl) (.inl rfl) (.inl rfl) (.inl rfl) (.inr (within_bit hw 30 (by decide))) (.inl rfl) (.inl rfl) (.inr (within_bit hw 33 (by decide))) (.inl rfl) (.inl rfl) (.inl rfl) (.inl rfl) (.inl rfl) (.inl rfl) (.inl rfl) (.inl rfl) (.inl rfl) (.inl rfl) (.inl rfl) (.inl rfl) (.inl rfl))

theorem Frame.set_free_decoder {W : Nat} {s₀ s : State} (h : Frame W s₀ s) (vfree : Nat) (vdecoder : Decoder) (hw : within 2149580800 W) :
    Frame W s₀ (State.mk s.now vfree s.root s.regs s.ct s.latch s.rings s.events s.pcie s.mem s.cache s.cipher vdecoder s.stations s.recording s.lanes s.pickups s.lps s.spindles s.motors s.groups s.timebase s.fw s.power s.calib s.mbl s.sent s.pending) :=
  h.trans (Frame.of rfl (.inl rfl) (.inr (within_bit hw 21 (by decide))) (.inl rfl) (.inl rfl) (.inl rfl) (.inl rfl) (.inl rfl) (.inl rfl) (.inl rfl) (.inl rfl) (.inl rfl) (.inr (within_bit hw 31 (by decide))) (.inl rfl) (.inl rfl) (.inl rfl) (.inl rfl) (.inl rfl) (.inl rfl) (.inl rfl) (.inl rfl) (.inl rfl) (.inl rfl) (.inl rfl) (.inl rfl) (.inl rfl) (.inl rfl) (.inl rfl))

theorem Frame.set_ct_mbl {W : Nat} {s₀ s : State} (h : Frame W s₀ s) (vct : Nat) (vmbl : Mbl) (hw : within 17592194433024 W) :
    Frame W s₀ (State.mk s.now s.free s.root s.regs vct s.latch s.rings s.events s.pcie s.mem s.cache s.cipher s.decoder s.stations s.recording s.lanes s.pickups s.lps s.spindles s.motors s.groups s.timebase s.fw s.power s.calib vmbl s.sent s.pending) :=
  h.trans (Frame.of rfl (.inl rfl) (.inl rfl) (.inl rfl) (.inr (within_bit hw 23 (by decide))) (.inl rfl) (.inl rfl) (.inl rfl) (.inl rfl) (.inl rfl) (.inl rfl) (.inl rfl) (.inl rfl) (.inl rfl) (.inl rfl) (.inl rfl) (.inl rfl) (.inl rfl) (.inl rfl) (.inl rfl) (.inl rfl) (.inl rfl) (.inl rfl) (.inl rfl) (.inl rfl) (.inr (within_bit hw 44 (by decide))) (.inl rfl) (.inl rfl))

theorem Frame.set_rings_cipher_recording_fw_calib {W : Nat} {s₀ s : State} (h : Frame W s₀ s) (vrings : Rings) (vcipher : Cipher) (vrecording : Recording) (vfw : Firmware) (vcalib : Calib) (hw : within 11004813508608 W) :
    Frame W s₀ (State.mk s.now s.free s.root s.regs s.ct s.latch vrings s.events s.pcie s.mem s.cache vcipher s.decoder s.stations vrecording s.lanes s.pickups s.lps s.spindles s.motors s.groups s.timebase vfw s.power vcalib s.mbl s.sent s.pending) :=
  h.trans (Frame.of rfl (.inl rfl) (.inl rfl) (.inl rfl) (.inl rfl) (.inl rfl) (.inr (within_bit hw 25 (by decide))) (.inl rfl) (.inl rfl) (.inl rfl) (.inl rfl) (.inr (within_bit hw 30 (by decide))) (.inl rfl) (.inl rfl) (.inr (within_bit hw 33 (by decide))) (.inl rfl) (.inl rfl) (.inl rfl) (.inl rfl) (.inl rfl) (.inl rfl) (.inl rfl) (.inr (within_bit hw 41 (by decide))) (.inl rfl) (.inr (within_bit hw 43 (by decide))) (.inl rfl) (.inl rfl) (.inl rfl))

theorem Frame.set_now_mem_fw {W : Nat} {s₀ s : State} (h : Frame W s₀ s) (vnow : Nat) (vmem : OnChip) (vfw : Firmware) (hw : within 2199292739584 W) :
    Frame W s₀ (State.mk vnow s.free s.root s.regs s.ct s.latch s.rings s.events s.pcie vmem s.cache s.cipher s.decoder s.stations s.recording s.lanes s.pickups s.lps s.spindles s.motors s.groups s.timebase vfw s.power s.calib s.mbl s.sent s.pending) :=
  h.trans (Frame.of rfl (.inr (within_bit hw 20 (by decide))) (.inl rfl) (.inl rfl) (.inl rfl) (.inl rfl) (.inl rfl) (.inl rfl) (.inl rfl) (.inr (within_bit hw 28 (by decide))) (.inl rfl) (.inl rfl) (.inl rfl) (.inl rfl) (.inl rfl) (.inl rfl) (.inl rfl) (.inl rfl) (.inl rfl) (.inl rfl) (.inl rfl) (.inl rfl) (.inr (within_bit hw 41 (by decide))) (.inl rfl) (.inl rfl) (.inl rfl) (.inl rfl) (.inl rfl))

theorem State.put_frame {W : Nat} {s₀ s : State} (h : Frame W s₀ s) (f : Fld) (v : Nat) (hf : f.within W := by first | assumption | exact within_group (by assumption) .fnRegs (by decide) rfl | exact within_group (by assumption) .linkRegs (by decide) rfl | exact within_group (by assumption) .hifRegs (by decide) rfl | exact within_group (by assumption) .winRegs (by decide) rfl | exact within_group (by assumption) .evtRegs (by decide) rfl | exact within_group (by assumption) .ringRegs (by decide) rfl | exact within_group (by assumption) .memRegs (by decide) rfl | exact within_group (by assumption) .cchRegs (by decide) rfl | exact within_group (by assumption) .cipRegs (by decide) rfl | exact within_group (by assumption) .srvRegs (by decide) rfl | exact within_group (by assumption) .spnRegs (by decide) rfl | exact within_group (by assumption) .motRegs (by decide) rfl | exact within_group (by assumption) .rchRegs (by decide) rfl | exact within_group (by assumption) .recRegs (by decide) rfl | exact within_group (by assumption) .calRegs (by decide) rfl | exact within_group (by assumption) .mblRegs (by decide) rfl | exact within_group (by assumption) .hpcRegs (by decide) rfl | exact within_group (by assumption) .fwuRegs (by decide) rfl | exact within_group (by assumption) .sysRegs (by decide) rfl | exact within_group (by assumption) .trcRegs (by decide) rfl) :
    Frame W s₀ (s.put f v) := by
  refine h.trans ?_
  intro p hp
  have key : ∀ g : Fld, W.testBit g.group.idx = false → (s.put f v).fld g = s.fld g := by
    intro g hg
    apply State.fld_put_ne
    intro e
    have : g.group = f.group := by
      unfold Fld.key at e
      unfold Fld.group
      have : g.id % 1024 = f.id % 1024 := by omega
      rw [this]
    rw [this] at hg
    rw [show W.testBit f.group.idx = true from hf] at hg
    cases hg
  cases p <;> first | rfl | (intro g e; apply key; rw [e]; exact hp)

theorem Table.get_filter {α : Type} (d : Nat → α) (m : Table α) (p : Nat × α → Bool) (a : Nat) (h : ∀ v, p (a, v) = true) :
    Table.get d (m.filter p) a = Table.get d m a := by
  induction m with
  | nil => rfl
  | cons e m ih =>
    obtain ⟨k, v⟩ := e
    by_cases c : p (k, v) = true
    · rw [List.filter_cons_of_pos c]
      by_cases q : k = a
      · simp [Table.get, q]
      · simp [Table.get, q, ih]
    · rw [List.filter_cons_of_neg c, ih]
      have q : k ≠ a := by
        rintro rfl
        exact c (h v)
      simp [Table.get, q]

theorem Fld.group_mod (i : Nat) : Fld.group ⟨i % 1024, 0, 0, 0⟩ = Fld.group ⟨i, 0, 0, 0⟩ := by
  unfold Fld.group
  rw [Nat.mod_mod]

/-- Fields of some groups brought back to their reset values. -/
theorem Frame.purge {W : Nat} {s₀ s : State} (h : Frame W s₀ s) (p : Nat × Nat → Bool)
    (hp : ∀ f : Fld, W.testBit f.group.idx = false → ∀ v, p (f.key, v) = true) : Frame W s₀ { s with regs := s.regs.filter p } := by
  refine h.trans ?_
  intro q hq
  have key : ∀ g : Fld, W.testBit g.group.idx = false → ({ s with regs := s.regs.filter p } : State).fld g = s.fld g :=
    fun g hg => Table.get_filter _ _ _ _ (hp g hg)
  cases q <;> first | rfl | (intro g e; apply key; rw [e]; exact hq)

def FrameRes (W : Nat) (s : State) (r : Res) : Prop := ∃ t, r = .next t ∧ Frame W s t

def FrameOpt (W : Nat) (s : State) : Option State → Prop
  | some t => Frame W s t
  | none => True

theorem frameRes_next {W : Nat} {s₀ t : State} (h : Frame W s₀ t) : FrameRes W s₀ (.next t) := ⟨t, rfl, h⟩

theorem frameOpt_none {W : Nat} {s₀ : State} : FrameOpt W s₀ none := trivial

theorem frameOpt_some {W : Nat} {s₀ t : State} (h : Frame W s₀ t) : FrameOpt W s₀ (some t) := h

theorem frameOpt_get {W : Nat} {s₀ t : State} {o : Option State} (e : o = some t) (h : FrameOpt W s₀ o) : Frame W s₀ t := by
  subst e; exact h

theorem foldl_frame {W : Nat} {α : Type} {s₀ s : State} (h : Frame W s₀ s) (xs : List α) (f : State → α → State)
    (hf : ∀ t a, Frame W s₀ t → Frame W s₀ (f t a)) : Frame W s₀ (xs.foldl f s) := by
  induction xs generalizing s with
  | nil => exact h
  | cons x xs ih => exact ih (hf s x h)

theorem foldl_fst_frame {W : Nat} {α β : Type} {s₀ : State} {init : State × β} (h : Frame W s₀ init.1) (xs : List α) (f : State × β → α → State × β)
    (hf : ∀ t a, Frame W s₀ t.1 → Frame W s₀ (f t a).1) : Frame W s₀ (xs.foldl f init).1 := by
  induction xs generalizing init with
  | nil => exact h
  | cons x xs ih => exact ih (hf init x h)

theorem foldl_snd_frame {W : Nat} {α β : Type} {s₀ : State} {init : β × State} (h : Frame W s₀ init.2) (xs : List α) (f : β × State → α → β × State)
    (hf : ∀ t a, Frame W s₀ t.2 → Frame W s₀ (f t a).2) : Frame W s₀ (xs.foldl f init).2 := by
  induction xs generalizing init with
  | nil => exact h
  | cons x xs ih => exact ih (hf init x h)

theorem State.forEach_frame {W : Nat} {α : Type} {s₀ s : State} (h : Frame W s₀ s) (xs : List α) (f : State → α → State)
    (hf : ∀ t a, Frame W s₀ t → Frame W s₀ (f t a)) : Frame W s₀ (s.forEach xs f) := foldl_frame h xs f hf

theorem State.when_frame {W : Nat} {s₀ s : State} (h : Frame W s₀ s) (c : Bool) (f : State → State)
    (hf : ∀ t, Frame W s₀ t → Frame W s₀ (f t)) : Frame W s₀ (s.when c f) := by
  unfold State.when
  split
  · exact hf s h
  · exact h

end Sys2Proof.Machine
end

