-- ==== Sys2Proof/Laws/FrameOps.lean ====
section
/-!
SUPPORT. What the operations and commands of Machine/Ops.lean leave as it was: all parts outside a mask.
-/
set_option Elab.async false
set_option linter.all false
namespace Sys2Proof.Machine
set_option maxRecDepth 2000

theorem State.sput_frame {W : Nat} {s₀ s : State} (hs : Frame W s₀ s) (f : Fld) (v : Int) (hf : f.within W := by first | assumption | exact within_group (by assumption) .fnRegs (by decide) rfl | exact within_group (by assumption) .linkRegs (by decide) rfl | exact within_group (by assumption) .hifRegs (by decide) rfl | exact within_group (by assumption) .winRegs (by decide) rfl | exact within_group (by assumption) .evtRegs (by decide) rfl | exact within_group (by assumption) .ringRegs (by decide) rfl | exact within_group (by assumption) .memRegs (by decide) rfl | exact within_group (by assumption) .cchRegs (by decide) rfl | exact within_group (by assumption) .cipRegs (by decide) rfl | exact within_group (by assumption) .srvRegs (by decide) rfl | exact within_group (by assumption) .spnRegs (by decide) rfl | exact within_group (by assumption) .motRegs (by decide) rfl | exact within_group (by assumption) .rchRegs (by decide) rfl | exact within_group (by assumption) .recRegs (by decide) rfl | exact within_group (by assumption) .calRegs (by decide) rfl | exact within_group (by assumption) .mblRegs (by decide) rfl | exact within_group (by assumption) .hpcRegs (by decide) rfl | exact within_group (by assumption) .fwuRegs (by decide) rfl | exact within_group (by assumption) .sysRegs (by decide) rfl | exact within_group (by assumption) .trcRegs (by decide) rfl) :
    Frame W s₀ (State.sput s f v) := by
  unfold State.sput
  try dsimp only
  repeat' with_reducible (first | assumption | apply frameRes_next | apply frameOpt_none | apply frameOpt_some | apply State.forEach_frame | apply State.when_frame | apply foldl_frame | apply foldl_fst_frame | apply foldl_snd_frame | intro _ | split | apply State.put_frame | apply frameOpt_get (by assumption) | dsimp only)
  all_goals first | assumption

theorem State.setFlag_frame {W : Nat} {s₀ s : State} (hs : Frame W s₀ s) (f : Fld) (b : Bool) (hf : f.within W) :
    Frame W s₀ (State.setFlag s f b) := by
  unfold State.setFlag
  try dsimp only
  repeat' with_reducible (first | assumption | apply frameRes_next | apply frameOpt_none | apply frameOpt_some | apply State.forEach_frame | apply State.when_frame | apply foldl_frame | apply foldl_fst_frame | apply foldl_snd_frame | intro _ | split | apply State.put_frame | apply frameOpt_get (by assumption) | dsimp only)
  all_goals first | assumption

theorem State.incSat_frame {W : Nat} {s₀ s : State} (hs : Frame W s₀ s) (f : Fld) (n : Nat) (hf : f.within W) :
    Frame W s₀ (State.incSat s f n) := by
  unfold State.incSat
  try dsimp only
  repeat' with_reducible (first | assumption | apply frameRes_next | apply frameOpt_none | apply frameOpt_some | apply State.forEach_frame | apply State.when_frame | apply foldl_frame | apply foldl_fst_frame | apply foldl_snd_frame | intro _ | split | apply State.put_frame | apply frameOpt_get (by assumption) | dsimp only)
  all_goals first | assumption

theorem State.incWrap_frame {W : Nat} {s₀ s : State} (hs : Frame W s₀ s) (f : Fld) (n : Nat) (hf : f.within W) :
    Frame W s₀ (State.incWrap s f n) := by
  unfold State.incWrap
  try dsimp only
  repeat' with_reducible (first | assumption | apply frameRes_next | apply frameOpt_none | apply frameOpt_some | apply State.forEach_frame | apply State.when_frame | apply foldl_frame | apply foldl_fst_frame | apply foldl_snd_frame | intro _ | split | apply State.put_frame | apply frameOpt_get (by assumption) | dsimp only)
  all_goals first | assumption

theorem State.putPair_frame {W : Nat} {s₀ s : State} (hs : Frame W s₀ s) (lo hi : Fld) (v : Nat) (hlo : lo.within W) (hhi : hi.within W) :
    Frame W s₀ (State.putPair s lo hi v) := by
  unfold State.putPair
  try dsimp only
  repeat' with_reducible (first | assumption | apply frameRes_next | apply frameOpt_none | apply frameOpt_some | apply State.forEach_frame | apply State.when_frame | apply foldl_frame | apply foldl_fst_frame | apply foldl_snd_frame | intro _ | split | apply State.put_frame | apply frameOpt_get (by assumption) | dsimp only)
  all_goals first | assumption

theorem State.wakeLink_frame {W : Nat} {s₀ s : State} (hs : Frame W s₀ s) (hW : within 35184506306562 W) :
    Frame W s₀ (State.wakeLink s) := by
  unfold State.wakeLink
  try dsimp only
  repeat' with_reducible (first | assumption | apply frameRes_next | apply frameOpt_none | apply frameOpt_some | apply State.forEach_frame | apply State.when_frame | apply foldl_frame | apply foldl_fst_frame | apply foldl_snd_frame | intro _ | split | apply State.put_frame | apply frameOpt_get (by assumption) | apply Frame.set_pcie_sent | dsimp only)
  all_goals first | assumption | exact within_trans hW (within_of (by decide)) | exact within_group hW .linkRegs (by decide) rfl

theorem State.emitAll_frame {W : Nat} {s₀ s : State} (hs : Frame W s₀ s) (os : List Out) (hW : within 35184506306562 W) :
    Frame W s₀ (State.emitAll s os) := by
  unfold State.emitAll
  try dsimp only
  repeat' with_reducible (first | assumption | apply frameRes_next | apply frameOpt_none | apply frameOpt_some | apply State.forEach_frame | apply State.when_frame | apply foldl_frame | apply foldl_fst_frame | apply foldl_snd_frame | intro _ | split | apply State.wakeLink_frame | apply frameOpt_get (by assumption) | apply Frame.set_sent | dsimp only)
  all_goals first | assumption | exact within_trans hW (within_of (by decide)) | exact within_group hW .linkRegs (by decide) rfl

theorem State.emit_frame {W : Nat} {s₀ s : State} (hs : Frame W s₀ s) (o : Out) (hW : within 35184506306562 W) :
    Frame W s₀ (State.emit s o) := by
  unfold State.emit
  try dsimp only
  repeat' with_reducible (first | assumption | apply frameRes_next | apply frameOpt_none | apply frameOpt_some | apply State.forEach_frame | apply State.when_frame | apply foldl_frame | apply foldl_fst_frame | apply foldl_snd_frame | intro _ | split | apply State.emitAll_frame | apply frameOpt_get (by assumption) | dsimp only)
  all_goals first | assumption | exact within_trans hW (within_of (by decide)) | exact within_group hW .linkRegs (by decide) rfl

theorem State.takeFree_frame {W : Nat} {s₀ s : State} (hs : Frame W s₀ s) (hW : within 2097152 W := by first | assumption | exact within_trans (by assumption) (within_of (by decide))) :
    Frame W s₀ (State.takeFree s).2 := by
  unfold State.takeFree
  try dsimp only
  repeat' with_reducible (first | assumption | apply frameRes_next | apply frameOpt_none | apply frameOpt_some | apply State.forEach_frame | apply State.when_frame | apply foldl_frame | apply foldl_fst_frame | apply foldl_snd_frame | intro _ | split | apply frameOpt_get (by assumption) | apply Frame.set_free | dsimp only)
  all_goals first | assumption | exact within_trans hW (within_of (by decide))

theorem State.post_frame {W : Nat} {s₀ s : State} (hs : Frame W s₀ s) (code source : Nat) (payload : List Nat) (hW : within 67108864 W := by first | assumption | exact within_trans (by assumption) (within_of (by decide))) :
    Frame W s₀ (State.post s code source payload) := by
  unfold State.post
  try dsimp only
  repeat' with_reducible (first | assumption | apply frameRes_next | apply frameOpt_none | apply frameOpt_some | apply State.forEach_frame | apply State.when_frame | apply foldl_frame | apply foldl_fst_frame | apply foldl_snd_frame | intro _ | split | apply State.put_frame | apply frameOpt_get (by assumption) | apply Frame.set_events | dsimp only)
  all_goals first | assumption | exact within_trans hW (within_of (by decide))

theorem State.raise_frame {W : Nat} {s₀ s : State} (hs : Frame W s₀ s) (f : Fld) (code source : Nat) (payload : List Nat) (hf : f.within W := by first | assumption | exact within_group (by assumption) .fnRegs (by decide) rfl | exact within_group (by assumption) .linkRegs (by decide) rfl | exact within_group (by assumption) .hifRegs (by decide) rfl | exact within_group (by assumption) .winRegs (by decide) rfl | exact within_group (by assumption) .evtRegs (by decide) rfl | exact within_group (by assumption) .ringRegs (by decide) rfl | exact within_group (by assumption) .memRegs (by decide) rfl | exact within_group (by assumption) .cchRegs (by decide) rfl | exact within_group (by assumption) .cipRegs (by decide) rfl | exact within_group (by assumption) .srvRegs (by decide) rfl | exact within_group (by assumption) .spnRegs (by decide) rfl | exact within_group (by assumption) .motRegs (by decide) rfl | exact within_group (by assumption) .rchRegs (by decide) rfl | exact within_group (by assumption) .recRegs (by decide) rfl | exact within_group (by assumption) .calRegs (by decide) rfl | exact within_group (by assumption) .mblRegs (by decide) rfl | exact within_group (by assumption) .hpcRegs (by decide) rfl | exact within_group (by assumption) .fwuRegs (by decide) rfl | exact within_group (by assumption) .sysRegs (by decide) rfl | exact within_group (by assumption) .trcRegs (by decide) rfl) (hW : within 67108864 W := by first | assumption | exact within_trans (by assumption) (within_of (by decide))) :
    Frame W s₀ (State.raise s f code source payload) := by
  unfold State.raise
  try dsimp only
  repeat' with_reducible (first | assumption | apply frameRes_next | apply frameOpt_none | apply frameOpt_some | apply State.forEach_frame | apply State.when_frame | apply foldl_frame | apply foldl_fst_frame | apply foldl_snd_frame | intro _ | split | apply State.put_frame | apply State.post_frame | apply frameOpt_get (by assumption) | dsimp only)
  all_goals first | assumption | exact within_trans hW (within_of (by decide))

theorem State.count_frame {W : Nat} {s₀ s : State} (hs : Frame W s₀ s) (lo hi : Fld) (n : Nat) (hlo : lo.within W := by first | assumption | exact within_group (by assumption) .fnRegs (by decide) rfl | exact within_group (by assumption) .linkRegs (by decide) rfl | exact within_group (by assumption) .hifRegs (by decide) rfl | exact within_group (by assumption) .winRegs (by decide) rfl | exact within_group (by assumption) .evtRegs (by decide) rfl | exact within_group (by assumption) .ringRegs (by decide) rfl | exact within_group (by assumption) .memRegs (by decide) rfl | exact within_group (by assumption) .cchRegs (by decide) rfl | exact within_group (by assumption) .cipRegs (by decide) rfl | exact within_group (by assumption) .srvRegs (by decide) rfl | exact within_group (by assumption) .spnRegs (by decide) rfl | exact within_group (by assumption) .motRegs (by decide) rfl | exact within_group (by assumption) .rchRegs (by decide) rfl | exact within_group (by assumption) .recRegs (by decide) rfl | exact within_group (by assumption) .calRegs (by decide) rfl | exact within_group (by assumption) .mblRegs (by decide) rfl | exact within_group (by assumption) .hpcRegs (by decide) rfl | exact within_group (by assumption) .fwuRegs (by decide) rfl | exact within_group (by assumption) .sysRegs (by decide) rfl | exact within_group (by assumption) .trcRegs (by decide) rfl) (hhi : hi.within W := by first | assumption | exact within_group (by assumption) .fnRegs (by decide) rfl | exact within_group (by assumption) .linkRegs (by decide) rfl | exact within_group (by assumption) .hifRegs (by decide) rfl | exact within_group (by assumption) .winRegs (by decide) rfl | exact within_group (by assumption) .evtRegs (by decide) rfl | exact within_group (by assumption) .ringRegs (by decide) rfl | exact within_group (by assumption) .memRegs (by decide) rfl | exact within_group (by assumption) .cchRegs (by decide) rfl | exact within_group (by assumption) .cipRegs (by decide) rfl | exact within_group (by assumption) .srvRegs (by decide) rfl | exact within_group (by assumption) .spnRegs (by decide) rfl | exact within_group (by assumption) .motRegs (by decide) rfl | exact within_group (by assumption) .rchRegs (by decide) rfl | exact within_group (by assumption) .recRegs (by decide) rfl | exact within_group (by assumption) .calRegs (by decide) rfl | exact within_group (by assumption) .mblRegs (by decide) rfl | exact within_group (by assumption) .hpcRegs (by decide) rfl | exact within_group (by assumption) .fwuRegs (by decide) rfl | exact within_group (by assumption) .sysRegs (by decide) rfl | exact within_group (by assumption) .trcRegs (by decide) rfl) (hW : within 67108864 W := by first | assumption | exact within_trans (by assumption) (within_of (by decide))) :
    Frame W s₀ (State.count s lo hi n) := by
  unfold State.count
  try dsimp only
  repeat' with_reducible (first | assumption | apply frameRes_next | apply frameOpt_none | apply frameOpt_some | apply State.forEach_frame | apply State.when_frame | apply foldl_frame | apply foldl_fst_frame | apply foldl_snd_frame | intro _ | split | apply State.putPair_frame | apply State.post_frame | apply frameOpt_get (by assumption) | apply Frame.set_events | dsimp only)
  all_goals first | assumption | exact within_trans hW (within_of (by decide))

end Sys2Proof.Machine
end

