-- ==== Sys2Proof/Laws/FrameHost.lean ====
section
/-!
SUPPORT. What the operations and commands of Machine/Host.lean leave as it was: all parts outside a mask.
-/
set_option Elab.async false
set_option linter.all false
namespace Sys2Proof.Machine
set_option maxRecDepth 2000

theorem State.setCfg_frame {W : Nat} {s₀ s : State} (hs : Frame W s₀ s) (f : Nat) (c : CfgField) (v : Nat) (hW : within 134217728 W) :
    Frame W s₀ (State.setCfg s f c v) := by
  unfold State.setCfg
  try dsimp only
  repeat' with_reducible (first | assumption | apply frameRes_next | apply frameOpt_none | apply frameOpt_some | apply State.forEach_frame | apply State.when_frame | apply foldl_frame | apply foldl_fst_frame | apply foldl_snd_frame | intro _ | split | apply frameOpt_get (by assumption) | apply Frame.set_pcie | dsimp only)
  all_goals first | assumption | exact within_trans hW (within_of (by decide))

theorem State.issueRead_frame {W : Nat} {s₀ s : State} (hs : Frame W s₀ s) (f : Nat) (p : ReadFor) (h off addr len : Nat) (hW : within 35184843948098 W := by first | assumption | exact within_trans (by assumption) (within_of (by decide))) :
    Frame W s₀ (State.issueRead s f p h off addr len) := by
  unfold State.issueRead
  try dsimp only
  repeat' with_reducible (first | assumption | apply frameRes_next | apply frameOpt_none | apply frameOpt_some | apply State.forEach_frame | apply State.when_frame | apply foldl_frame | apply foldl_fst_frame | apply foldl_snd_frame | intro _ | split | apply State.takeFree_frame | apply State.emit_frame | apply State.memRead_frame | apply frameOpt_get (by assumption) | apply Frame.set_pcie | dsimp only)
  all_goals first | assumption | exact within_trans hW (within_of (by decide)) | exact within_group hW .linkRegs (by decide) rfl | exact within_group hW .memRegs (by decide) rfl

theorem State.dropReq_frame {W : Nat} {s₀ s : State} (hs : Frame W s₀ s) (f tag : Nat) (hW : within 134217728 W) :
    Frame W s₀ (State.dropReq s f tag) := by
  unfold State.dropReq
  try dsimp only
  repeat' with_reducible (first | assumption | apply frameRes_next | apply frameOpt_none | apply frameOpt_some | apply State.forEach_frame | apply State.when_frame | apply foldl_frame | apply foldl_fst_frame | apply foldl_snd_frame | intro _ | split | apply frameOpt_get (by assumption) | apply Frame.set_pcie | dsimp only)
  all_goals first | assumption | exact within_trans hW (within_of (by decide))

theorem State.logAer_frame {W : Nat} {s₀ s : State} (hs : Frame W s₀ s) (f bit : Nat) (hW : within 134217728 W) :
    Frame W s₀ (State.logAer s f bit) := by
  unfold State.logAer
  try dsimp only
  repeat' with_reducible (first | assumption | apply frameRes_next | apply frameOpt_none | apply frameOpt_some | apply State.forEach_frame | apply State.when_frame | apply foldl_frame | apply foldl_fst_frame | apply foldl_snd_frame | intro _ | split | apply State.setCfg_frame | apply frameOpt_get (by assumption) | dsimp only)
  all_goals first | assumption | exact within_trans hW (within_of (by decide))

theorem State.poisonedWrite_frame {W : Nat} {s₀ s : State} (hs : Frame W s₀ s) (f off : Nat) (hW : within 201326596 W) :
    Frame W s₀ (State.poisonedWrite s f off) := by
  unfold State.poisonedWrite
  try dsimp only
  repeat' with_reducible (first | assumption | apply frameRes_next | apply frameOpt_none | apply frameOpt_some | apply State.forEach_frame | apply State.when_frame | apply foldl_frame | apply foldl_fst_frame | apply foldl_snd_frame | intro _ | split | apply State.count_frame | apply State.logAer_frame | apply State.raise_frame | apply frameOpt_get (by assumption) | dsimp only)
  all_goals first | assumption | exact within_trans hW (within_of (by decide)) | exact within_group hW .hifRegs (by decide) rfl

theorem State.setPendingBit_frame {W : Nat} {s₀ s : State} (hs : Frame W s₀ s) (f m : Nat) (b : Bool) (hW : within 134217728 W) :
    Frame W s₀ (State.setPendingBit s f m b) := by
  unfold State.setPendingBit
  try dsimp only
  repeat' with_reducible (first | assumption | apply frameRes_next | apply frameOpt_none | apply frameOpt_some | apply State.forEach_frame | apply State.when_frame | apply foldl_frame | apply foldl_fst_frame | apply foldl_snd_frame | intro _ | split | apply State.put_frame | apply frameOpt_get (by assumption) | apply Frame.set_pcie | dsimp only)
  all_goals first | assumption | exact within_trans hW (within_of (by decide))

theorem State.setVec_frame {W : Nat} {s₀ s : State} (hs : Frame W s₀ s) (f m : Nat) (v : VecState) (hW : within 67108864 W) :
    Frame W s₀ (State.setVec s f m v) := by
  unfold State.setVec
  try dsimp only
  repeat' with_reducible (first | assumption | apply frameRes_next | apply frameOpt_none | apply frameOpt_some | apply State.forEach_frame | apply State.when_frame | apply foldl_frame | apply foldl_fst_frame | apply foldl_snd_frame | intro _ | split | apply State.put_frame | apply frameOpt_get (by assumption) | apply Frame.set_events | dsimp only)
  all_goals first | assumption | exact within_trans hW (within_of (by decide))

theorem State.sendMessage_frame {W : Nat} {s₀ s : State} (hs : Frame W s₀ s) (f m : Nat) (hW : within 35184573415426 W) :
    Frame W s₀ (State.sendMessage s f m) := by
  unfold State.sendMessage
  try dsimp only
  repeat' with_reducible (first | assumption | apply frameRes_next | apply frameOpt_none | apply frameOpt_some | apply State.forEach_frame | apply State.when_frame | apply foldl_frame | apply foldl_fst_frame | apply foldl_snd_frame | intro _ | split | apply State.setVec_frame | apply State.setPendingBit_frame | apply State.emit_frame | apply frameOpt_get (by assumption) | dsimp only)
  all_goals first | assumption | exact within_trans hW (within_of (by decide)) | exact within_group hW .linkRegs (by decide) rfl

theorem State.signal_frame {W : Nat} {s₀ s : State} (hs : Frame W s₀ s) (f m : Nat) (urgent : Bool) (hW : within 35184573415426 W) :
    Frame W s₀ (State.signal s f m urgent) := by
  unfold State.signal
  try dsimp only
  repeat' with_reducible (first | assumption | apply frameRes_next | apply frameOpt_none | apply frameOpt_some | apply State.forEach_frame | apply State.when_frame | apply foldl_frame | apply foldl_fst_frame | apply foldl_snd_frame | intro _ | split | apply State.count_frame | apply State.sendMessage_frame | apply State.setVec_frame | apply frameOpt_get (by assumption) | dsimp only)
  all_goals first | assumption | exact within_trans hW (within_of (by decide)) | exact within_group hW .linkRegs (by decide) rfl

end Sys2Proof.Machine
end

