-- ==== Sys2Proof/Laws/FrameCmds.lean ====
section
/-!
SUPPORT. What the operations and commands of Machine/Cmds.lean leave as it was: all parts outside a mask.
-/
set_option Elab.async false
set_option linter.all false
namespace Sys2Proof.Machine
set_option maxRecDepth 2000

theorem State.setCmd_frame {W : Nat} {s₀ s : State} (hs : Frame W s₀ s) (h : Nat) (c : Cmd) (hW : within 33554432 W := by first | assumption | exact within_trans (by assumption) (within_of (by decide))) :
    Frame W s₀ (State.setCmd s h c) := by
  unfold State.setCmd
  try dsimp only
  repeat' with_reducible (first | assumption | apply frameRes_next | apply frameOpt_none | apply frameOpt_some | apply State.forEach_frame | apply State.when_frame | apply foldl_frame | apply foldl_fst_frame | apply foldl_snd_frame | intro _ | split | apply State.put_frame | apply frameOpt_get (by assumption) | apply Frame.set_rings | dsimp only)
  all_goals first | assumption | exact within_trans hW (within_of (by decide))

theorem State.modCmd_frame {W : Nat} {s₀ s : State} (hs : Frame W s₀ s) (h : Nat) (f : Cmd → Cmd) (hW : within 33554432 W := by first | assumption | exact within_trans (by assumption) (within_of (by decide))) :
    Frame W s₀ (State.modCmd s h f) := by
  unfold State.modCmd
  try dsimp only
  repeat' with_reducible (first | assumption | apply frameRes_next | apply frameOpt_none | apply frameOpt_some | apply State.forEach_frame | apply State.when_frame | apply foldl_frame | apply foldl_fst_frame | apply foldl_snd_frame | intro _ | split | apply State.setCmd_frame | apply frameOpt_get (by assumption) | dsimp only)
  all_goals first | assumption | exact within_trans hW (within_of (by decide))

theorem State.dropCmd_frame {W : Nat} {s₀ s : State} (hs : Frame W s₀ s) (h : Nat) (hW : within 1107296256 W) :
    Frame W s₀ (State.dropCmd s h) := by
  unfold State.dropCmd
  try dsimp only
  repeat' with_reducible (first | assumption | apply frameRes_next | apply frameOpt_none | apply frameOpt_some | apply State.forEach_frame | apply State.when_frame | apply foldl_frame | apply foldl_fst_frame | apply foldl_snd_frame | intro _ | split | apply State.put_frame | apply frameOpt_get (by assumption) | apply Frame.set_rings_cipher | dsimp only)
  all_goals first | assumption | exact within_trans hW (within_of (by decide))

theorem State.setStation_frame {W : Nat} {s₀ s : State} (hs : Frame W s₀ s) (st : Nat) (x : Station) (hW : within 4294967296 W) :
    Frame W s₀ (State.setStation s st x) := by
  unfold State.setStation
  try dsimp only
  repeat' with_reducible (first | assumption | apply frameRes_next | apply frameOpt_none | apply frameOpt_some | apply State.forEach_frame | apply State.when_frame | apply foldl_frame | apply foldl_fst_frame | apply foldl_snd_frame | intro _ | split | apply State.put_frame | apply frameOpt_get (by assumption) | apply Frame.set_stations | dsimp only)
  all_goals first | assumption | exact within_trans hW (within_of (by decide))

theorem State.modStation_frame {W : Nat} {s₀ s : State} (hs : Frame W s₀ s) (st : Nat) (f : Station → Station) (hW : within 4294967296 W) :
    Frame W s₀ (State.modStation s st f) := by
  unfold State.modStation
  try dsimp only
  repeat' with_reducible (first | assumption | apply frameRes_next | apply frameOpt_none | apply frameOpt_some | apply State.forEach_frame | apply State.when_frame | apply foldl_frame | apply foldl_fst_frame | apply foldl_snd_frame | intro _ | split | apply State.setStation_frame | apply frameOpt_get (by assumption) | dsimp only)
  all_goals first | assumption | exact within_trans hW (within_of (by decide))

theorem State.bind_frame {W : Nat} {s₀ s : State} (hs : Frame W s₀ s) (mslot st : Nat) (hW : within 33554432 W) :
    Frame W s₀ (State.bind s mslot st) := by
  unfold State.bind
  try dsimp only
  repeat' with_reducible (first | assumption | apply frameRes_next | apply frameOpt_none | apply frameOpt_some | apply State.forEach_frame | apply State.when_frame | apply foldl_frame | apply foldl_fst_frame | apply foldl_snd_frame | intro _ | split | apply State.put_frame | apply frameOpt_get (by assumption) | apply Frame.set_rings | dsimp only)
  all_goals first | assumption | exact within_trans hW (within_of (by decide))

theorem State.unbind_frame {W : Nat} {s₀ s : State} (hs : Frame W s₀ s) (mslot : Nat) (hW : within 33554432 W) :
    Frame W s₀ (State.unbind s mslot) := by
  unfold State.unbind
  try dsimp only
  repeat' with_reducible (first | assumption | apply frameRes_next | apply frameOpt_none | apply frameOpt_some | apply State.forEach_frame | apply State.when_frame | apply foldl_frame | apply foldl_fst_frame | apply foldl_snd_frame | intro _ | split | apply State.put_frame | apply frameOpt_get (by assumption) | apply Frame.set_rings | dsimp only)
  all_goals first | assumption | exact within_trans hW (within_of (by decide))

theorem State.setPickup_frame {W : Nat} {s₀ s : State} (hs : Frame W s₀ s) (n : Nat) (p : Pickup) (hW : within 34359738368 W) :
    Frame W s₀ (State.setPickup s n p) := by
  unfold State.setPickup
  try dsimp only
  repeat' with_reducible (first | assumption | apply frameRes_next | apply frameOpt_none | apply frameOpt_some | apply State.forEach_frame | apply State.when_frame | apply foldl_frame | apply foldl_fst_frame | apply foldl_snd_frame | intro _ | split | apply State.put_frame | apply frameOpt_get (by assumption) | apply Frame.set_pickups | dsimp only)
  all_goals first | assumption | exact within_trans hW (within_of (by decide))

theorem State.modPickup_frame {W : Nat} {s₀ s : State} (hs : Frame W s₀ s) (n : Nat) (f : Pickup → Pickup) (hW : within 34359738368 W) :
    Frame W s₀ (State.modPickup s n f) := by
  unfold State.modPickup
  try dsimp only
  repeat' with_reducible (first | assumption | apply frameRes_next | apply frameOpt_none | apply frameOpt_some | apply State.forEach_frame | apply State.when_frame | apply foldl_frame | apply foldl_fst_frame | apply foldl_snd_frame | intro _ | split | apply State.setPickup_frame | apply frameOpt_get (by assumption) | dsimp only)
  all_goals first | assumption | exact within_trans hW (within_of (by decide))

theorem State.takeLock_frame {W : Nat} {s₀ s : State} (hs : Frame W s₀ s) (l : Option Lock) (hW : within 33554432 W) :
    Frame W s₀ (State.takeLock s l) := by
  unfold State.takeLock
  try dsimp only
  repeat' with_reducible (first | assumption | apply frameRes_next | apply frameOpt_none | apply frameOpt_some | apply State.forEach_frame | apply State.when_frame | apply foldl_frame | apply foldl_fst_frame | apply foldl_snd_frame | intro _ | split | apply frameOpt_get (by assumption) | apply Frame.set_rings | dsimp only)
  all_goals first | assumption | exact within_trans hW (within_of (by decide))

theorem State.finish_frame {W : Nat} {s₀ s : State} (hs : Frame W s₀ s) (h : Nat) (r : CmdResult) (hW : within 1107296256 W := by first | assumption | exact within_trans (by assumption) (within_of (by decide))) :
    Frame W s₀ (State.finish s h r) := by
  unfold State.finish
  try dsimp only
  repeat' with_reducible (first | assumption | apply frameRes_next | apply frameOpt_none | apply frameOpt_some | apply State.forEach_frame | apply State.when_frame | apply foldl_frame | apply foldl_fst_frame | apply foldl_snd_frame | intro _ | split | apply State.dropCmd_frame | apply State.setCmd_frame | apply frameOpt_get (by assumption) | apply Frame.set_rings_cipher | dsimp only)
  all_goals first | assumption | exact within_trans hW (within_of (by decide))

theorem State.refuse_frame {W : Nat} {s₀ s : State} (hs : Frame W s₀ s) (h status : Nat) (hW : within 1107296256 W := by first | assumption | exact within_trans (by assumption) (within_of (by decide))) :
    Frame W s₀ (State.refuse s h status) := by
  unfold State.refuse
  try dsimp only
  repeat' with_reducible (first | assumption | apply frameRes_next | apply frameOpt_none | apply frameOpt_some | apply State.forEach_frame | apply State.when_frame | apply foldl_frame | apply foldl_fst_frame | apply foldl_snd_frame | intro _ | split | apply State.finish_frame | apply frameOpt_get (by assumption) | dsimp only)
  all_goals first | assumption | exact within_trans hW (within_of (by decide))

end Sys2Proof.Machine
end

