-- ==== Sys2Proof/Laws/FrameOnChip.lean ====
section
/-!
SUPPORT. What the operations and commands of Machine/OnChip.lean leave as it was: all parts outside a mask.
-/
set_option Elab.async false
set_option linter.all false
namespace Sys2Proof.Machine
set_option maxRecDepth 2000

theorem State.memError_frame {W : Nat} {s₀ s : State} (hs : Frame W s₀ s) (w requester : Nat) (uncorrectable : Bool) (hW : within 69206080 W) :
    Frame W s₀ (State.memError s w requester uncorrectable) := by
  unfold State.memError
  try dsimp only
  repeat' with_reducible (first | assumption | apply frameRes_next | apply frameOpt_none | apply frameOpt_some | apply State.forEach_frame | apply State.when_frame | apply foldl_frame | apply foldl_fst_frame | apply foldl_snd_frame | intro _ | split | apply State.incSat_frame | apply State.put_frame | apply State.raise_frame | apply State.takeFree_frame | apply State.setFlag_frame | apply State.incWrap_frame | apply frameOpt_get (by assumption) | dsimp only)
  all_goals first | assumption | exact within_trans hW (within_of (by decide)) | exact within_group hW .memRegs (by decide) rfl

theorem State.memUe_frame {W : Nat} {s₀ s : State} (hs : Frame W s₀ s) (w requester : Nat) (hW : within 335544384 W) :
    Frame W s₀ (State.memUe s w requester) := by
  unfold State.memUe
  try dsimp only
  repeat' with_reducible (first | assumption | apply frameRes_next | apply frameOpt_none | apply frameOpt_some | apply State.forEach_frame | apply State.when_frame | apply foldl_frame | apply foldl_fst_frame | apply foldl_snd_frame | intro _ | split | apply State.put_frame | apply State.post_frame | apply frameOpt_get (by assumption) | apply Frame.set_mem | dsimp only)
  all_goals first | assumption | exact within_trans hW (within_of (by decide)) | exact within_group hW .memRegs (by decide) rfl

theorem State.injectIn_frame {W : Nat} {s₀ s : State} (hs : Frame W s₀ s) (lo hi : Nat) (hW : within 268435520 W) :
    Frame W s₀ (State.injectIn s lo hi) := by
  unfold State.injectIn
  try dsimp only
  repeat' with_reducible (first | assumption | apply frameRes_next | apply frameOpt_none | apply frameOpt_some | apply State.forEach_frame | apply State.when_frame | apply foldl_frame | apply foldl_fst_frame | apply foldl_snd_frame | intro _ | split | apply State.put_frame | apply frameOpt_get (by assumption) | apply Frame.set_mem | dsimp only)
  all_goals first | assumption | exact within_trans hW (within_of (by decide)) | exact within_group hW .memRegs (by decide) rfl

theorem State.storeWords_frame {W : Nat} {s₀ s : State} (hs : Frame W s₀ s) (lo hi : Nat) (poisoned : Bool) (hW : within 268435520 W) :
    Frame W s₀ (State.storeWords s lo hi poisoned) := by
  unfold State.storeWords
  try dsimp only
  repeat' with_reducible (first | assumption | apply frameRes_next | apply frameOpt_none | apply frameOpt_some | apply State.forEach_frame | apply State.when_frame | apply foldl_frame | apply foldl_fst_frame | apply foldl_snd_frame | intro _ | split | apply State.injectIn_frame | apply frameOpt_get (by assumption) | apply Frame.set_mem | dsimp only)
  all_goals first | assumption | exact within_trans hW (within_of (by decide)) | exact within_group hW .memRegs (by decide) rfl

theorem State.memStore_frame {W : Nat} {s₀ s : State} (hs : Frame W s₀ s) (addr len : Nat) (poisoned : Bool) (hW : within 268435520 W) :
    Frame W s₀ (State.memStore s addr len poisoned) := by
  unfold State.memStore
  try dsimp only
  repeat' with_reducible (first | assumption | apply frameRes_next | apply frameOpt_none | apply frameOpt_some | apply State.forEach_frame | apply State.when_frame | apply foldl_frame | apply foldl_fst_frame | apply foldl_snd_frame | intro _ | split | apply State.storeWords_frame | apply frameOpt_get (by assumption) | dsimp only)
  all_goals first | assumption | exact within_trans hW (within_of (by decide)) | exact within_group hW .memRegs (by decide) rfl

theorem State.writeBack_frame {W : Nat} {s₀ s : State} (hs : Frame W s₀ s) (w : Nat) (hW : within 268435520 W) :
    Frame W s₀ (State.writeBack s w) := by
  unfold State.writeBack
  try dsimp only
  repeat' with_reducible (first | assumption | apply frameRes_next | apply frameOpt_none | apply frameOpt_some | apply State.forEach_frame | apply State.when_frame | apply foldl_frame | apply foldl_fst_frame | apply foldl_snd_frame | intro _ | split | apply State.put_frame | apply State.injectIn_frame | apply frameOpt_get (by assumption) | apply Frame.set_mem | dsimp only)
  all_goals first | assumption | exact within_trans hW (within_of (by decide)) | exact within_group hW .memRegs (by decide) rfl

theorem State.checkWord_frame {W : Nat} {s₀ s : State} (hs : Frame W s₀ s) (w requester : Nat) (hW : within 337641536 W) :
    Frame W s₀ (State.checkWord s w requester) := by
  unfold State.checkWord
  try dsimp only
  repeat' with_reducible (first | assumption | apply frameRes_next | apply frameOpt_none | apply frameOpt_some | apply State.forEach_frame | apply State.when_frame | apply foldl_frame | apply foldl_fst_frame | apply foldl_snd_frame | intro _ | split | apply State.memError_frame | apply State.writeBack_frame | apply State.memUe_frame | apply frameOpt_get (by assumption) | dsimp only)
  all_goals first | assumption | exact within_trans hW (within_of (by decide)) | exact within_group hW .memRegs (by decide) rfl

theorem State.memRead_frame {W : Nat} {s₀ s : State} (hs : Frame W s₀ s) (addr len requester : Nat) (hW : within 337641536 W) :
    Frame W s₀ (State.memRead s addr len requester).1 := by
  unfold State.memRead
  try dsimp only
  repeat' with_reducible (first | assumption | apply frameRes_next | apply frameOpt_none | apply frameOpt_some | apply State.forEach_frame | apply State.when_frame | apply foldl_frame | apply foldl_fst_frame | apply foldl_snd_frame | intro _ | split | apply State.checkWord_frame | apply frameOpt_get (by assumption) | dsimp only)
  all_goals first | assumption | exact within_trans hW (within_of (by decide)) | exact within_group hW .memRegs (by decide) rfl

theorem State.mergeWord_frame {W : Nat} {s₀ s : State} (hs : Frame W s₀ s) (w requester : Nat) (hW : within 337641536 W) :
    Frame W s₀ (State.mergeWord s w requester) := by
  unfold State.mergeWord
  try dsimp only
  repeat' with_reducible (first | assumption | apply frameRes_next | apply frameOpt_none | apply frameOpt_some | apply State.forEach_frame | apply State.when_frame | apply foldl_frame | apply foldl_fst_frame | apply foldl_snd_frame | intro _ | split | apply State.storeWords_frame | apply State.injectIn_frame | apply State.memError_frame | apply State.writeBack_frame | apply State.memUe_frame | apply frameOpt_get (by assumption) | dsimp only)
  all_goals first | assumption | exact within_trans hW (within_of (by decide)) | exact within_group hW .memRegs (by decide) rfl

theorem State.clearMemory_frame {W : Nat} {s₀ s : State} (hs : Frame W s₀ s) (hW : within 268435456 W) :
    Frame W s₀ (State.clearMemory s) := by
  unfold State.clearMemory
  try dsimp only
  repeat' with_reducible (first | assumption | apply frameRes_next | apply frameOpt_none | apply frameOpt_some | apply State.forEach_frame | apply State.when_frame | apply foldl_frame | apply foldl_fst_frame | apply foldl_snd_frame | intro _ | split | apply frameOpt_get (by assumption) | apply Frame.set_mem | dsimp only)
  all_goals first | assumption | exact within_trans hW (within_of (by decide))

theorem State.scrubOn_frame {W : Nat} {s₀ s : State} (hs : Frame W s₀ s) (bank row : Nat) (hW : within 268435520 W) :
    Frame W s₀ (State.scrubOn s bank row) := by
  unfold State.scrubOn
  try dsimp only
  repeat' with_reducible (first | assumption | apply frameRes_next | apply frameOpt_none | apply frameOpt_some | apply State.forEach_frame | apply State.when_frame | apply foldl_frame | apply foldl_fst_frame | apply foldl_snd_frame | intro _ | split | apply State.put_frame | apply State.incWrap_frame | apply frameOpt_get (by assumption) | apply Frame.set_mem | dsimp only)
  all_goals first | assumption | exact within_trans hW (within_of (by decide)) | exact within_group hW .memRegs (by decide) rfl

theorem execScrubVisit_frame {W : Nat} {s₀ s : State} (hs : Frame W s₀ s) (bank : Fin 128) (upset : List (Fin 137)) (hW : within 337641536 W) :
    FrameRes W s₀ (execScrubVisit bank upset s) := by
  unfold execScrubVisit
  try dsimp only
  repeat' with_reducible (first | assumption | apply frameRes_next | apply frameOpt_none | apply frameOpt_some | apply State.forEach_frame | apply State.when_frame | apply foldl_frame | apply foldl_fst_frame | apply foldl_snd_frame | intro _ | split | apply State.put_frame | apply State.checkWord_frame | apply State.scrubOn_frame | apply frameOpt_get (by assumption) | apply Frame.set_mem | dsimp only)
  all_goals first | assumption | exact within_trans hW (within_of (by decide)) | exact within_group hW .memRegs (by decide) rfl

theorem execScrubLapSlow_frame {W : Nat} {s₀ s : State} (hs : Frame W s₀ s) (hW : within 67108928 W) :
    FrameRes W s₀ (execScrubLapSlow s) := by
  unfold execScrubLapSlow
  try dsimp only
  repeat' with_reducible (first | assumption | apply frameRes_next | apply frameOpt_none | apply frameOpt_some | apply State.forEach_frame | apply State.when_frame | apply foldl_frame | apply foldl_fst_frame | apply foldl_snd_frame | intro _ | split | apply State.raise_frame | apply frameOpt_get (by assumption) | dsimp only)
  all_goals first | assumption | exact within_trans hW (within_of (by decide)) | exact within_group hW .memRegs (by decide) rfl

theorem execMemCntClr_frame {W : Nat} {s₀ s : State} (hs : Frame W s₀ s) (hW : within 64 W) :
    FrameRes W s₀ (execMemCntClr s) := by
  unfold execMemCntClr
  try dsimp only
  repeat' with_reducible (first | assumption | apply frameRes_next | apply frameOpt_none | apply frameOpt_some | apply State.forEach_frame | apply State.when_frame | apply foldl_frame | apply foldl_fst_frame | apply foldl_snd_frame | intro _ | split | apply State.put_frame | apply frameOpt_get (by assumption) | dsimp only)
  all_goals first | assumption | exact within_trans hW (within_of (by decide)) | exact within_group hW .memRegs (by decide) rfl

theorem State.writeInject_frame {W : Nat} {s₀ s : State} (hs : Frame W s₀ s) (v : Nat) (hW : within 268435520 W) :
    Frame W s₀ (State.writeInject s v) := by
  unfold State.writeInject
  try dsimp only
  repeat' with_reducible (first | assumption | apply frameRes_next | apply frameOpt_none | apply frameOpt_some | apply State.forEach_frame | apply State.when_frame | apply foldl_frame | apply foldl_fst_frame | apply foldl_snd_frame | intro _ | split | apply State.put_frame | apply frameOpt_get (by assumption) | apply Frame.set_mem | dsimp only)
  all_goals first | assumption | exact within_trans hW (within_of (by decide)) | exact within_group hW .memRegs (by decide) rfl

theorem execMemInjectArm_frame {W : Nat} {s₀ s : State} (hs : Frame W s₀ s) (value : Word) (hW : within 268435520 W) :
    FrameRes W s₀ (execMemInjectArm value s) := by
  unfold execMemInjectArm
  try dsimp only
  repeat' with_reducible (first | assumption | apply frameRes_next | apply frameOpt_none | apply frameOpt_some | apply State.forEach_frame | apply State.when_frame | apply foldl_frame | apply foldl_fst_frame | apply foldl_snd_frame | intro _ | split | apply State.writeInject_frame | apply frameOpt_get (by assumption) | dsimp only)
  all_goals first | assumption | exact within_trans hW (within_of (by decide)) | exact within_group hW .memRegs (by decide) rfl

end Sys2Proof.Machine
end

