-- ==== Sys2Proof/Laws/FrameCacheOps.lean ====
section
/-!
SUPPORT. What the operations and commands of Machine/CacheOps.lean leave as it was: all parts outside a mask.
-/
set_option Elab.async false
set_option linter.all false
namespace Sys2Proof.Machine
set_option maxRecDepth 2000

theorem State.setEntry_frame {W : Nat} {s₀ s : State} (hs : Frame W s₀ s) (e : Nat) (x : Entry) (hW : within 536870912 W) :
    Frame W s₀ (State.setEntry s e x) := by
  unfold State.setEntry
  try dsimp only
  repeat' with_reducible (first | assumption | apply frameRes_next | apply frameOpt_none | apply frameOpt_some | apply State.forEach_frame | apply State.when_frame | apply foldl_frame | apply foldl_fst_frame | apply foldl_snd_frame | intro _ | split | apply State.put_frame | apply frameOpt_get (by assumption) | apply Frame.set_cache | dsimp only)
  all_goals first | assumption | exact within_trans hW (within_of (by decide))

theorem State.modEntry_frame {W : Nat} {s₀ s : State} (hs : Frame W s₀ s) (e : Nat) (f : Entry → Entry) (hW : within 536870912 W := by first | assumption | exact within_trans (by assumption) (within_of (by decide))) :
    Frame W s₀ (State.modEntry s e f) := by
  unfold State.modEntry
  try dsimp only
  repeat' with_reducible (first | assumption | apply frameRes_next | apply frameOpt_none | apply frameOpt_some | apply State.forEach_frame | apply State.when_frame | apply foldl_frame | apply foldl_fst_frame | apply foldl_snd_frame | intro _ | split | apply State.setEntry_frame | apply frameOpt_get (by assumption) | dsimp only)
  all_goals first | assumption | exact within_trans hW (within_of (by decide))

theorem State.storeSector_frame {W : Nat} {s₀ s : State} (hs : Frame W s₀ s) (e j : Nat) (c : CacheSector) (hW : within 805306432 W) :
    Frame W s₀ (State.storeSector s e j c) := by
  unfold State.storeSector
  try dsimp only
  repeat' with_reducible (first | assumption | apply frameRes_next | apply frameOpt_none | apply frameOpt_some | apply State.forEach_frame | apply State.when_frame | apply foldl_frame | apply foldl_fst_frame | apply foldl_snd_frame | intro _ | split | apply State.modEntry_frame | apply State.memStore_frame | apply frameOpt_get (by assumption) | dsimp only)
  all_goals first | assumption | exact within_trans hW (within_of (by decide)) | exact within_group hW .memRegs (by decide) rfl

theorem State.readSector_frame {W : Nat} {s₀ s : State} (hs : Frame W s₀ s) (e j requester : Nat) (hW : within 874512448 W) :
    Frame W s₀ (State.readSector s e j requester) := by
  unfold State.readSector
  try dsimp only
  repeat' with_reducible (first | assumption | apply frameRes_next | apply frameOpt_none | apply frameOpt_some | apply State.forEach_frame | apply State.when_frame | apply foldl_frame | apply foldl_fst_frame | apply foldl_snd_frame | intro _ | split | apply State.memRead_frame | apply State.modEntry_frame | apply frameOpt_get (by assumption) | dsimp only)
  all_goals first | assumption | exact within_trans hW (within_of (by decide)) | exact within_group hW .memRegs (by decide) rfl

theorem State.touch_frame {W : Nat} {s₀ s : State} (hs : Frame W s₀ s) (e : Nat) (hW : within 536870912 W) :
    Frame W s₀ (State.touch s e) := by
  unfold State.touch
  try dsimp only
  repeat' with_reducible (first | assumption | apply frameRes_next | apply frameOpt_none | apply frameOpt_some | apply State.forEach_frame | apply State.when_frame | apply foldl_frame | apply foldl_fst_frame | apply foldl_snd_frame | intro _ | split | apply State.modEntry_frame | apply frameOpt_get (by assumption) | apply Frame.set_cache | dsimp only)
  all_goals first | assumption | exact within_trans hW (within_of (by decide))

theorem State.setWork_frame {W : Nat} {s₀ s : State} (hs : Frame W s₀ s) (e : Nat) (w : BlockWork) (hW : within 2147483648 W) :
    Frame W s₀ (State.setWork s e w) := by
  unfold State.setWork
  try dsimp only
  repeat' with_reducible (first | assumption | apply frameRes_next | apply frameOpt_none | apply frameOpt_some | apply State.forEach_frame | apply State.when_frame | apply foldl_frame | apply foldl_fst_frame | apply foldl_snd_frame | intro _ | split | apply State.put_frame | apply frameOpt_get (by assumption) | apply Frame.set_decoder | dsimp only)
  all_goals first | assumption | exact within_trans hW (within_of (by decide))

theorem State.modWork_frame {W : Nat} {s₀ s : State} (hs : Frame W s₀ s) (e : Nat) (f : BlockWork → BlockWork) (hW : within 2147483648 W) :
    Frame W s₀ (State.modWork s e f) := by
  unfold State.modWork
  try dsimp only
  repeat' with_reducible (first | assumption | apply frameRes_next | apply frameOpt_none | apply frameOpt_some | apply State.forEach_frame | apply State.when_frame | apply foldl_frame | apply foldl_fst_frame | apply foldl_snd_frame | intro _ | split | apply State.setWork_frame | apply frameOpt_get (by assumption) | dsimp only)
  all_goals first | assumption | exact within_trans hW (within_of (by decide))

theorem State.discardWork_frame {W : Nat} {s₀ s : State} (hs : Frame W s₀ s) (e : Nat) (hW : within 2147487744 W) :
    Frame W s₀ (State.discardWork s e) := by
  unfold State.discardWork
  try dsimp only
  repeat' with_reducible (first | assumption | apply frameRes_next | apply frameOpt_none | apply frameOpt_some | apply State.forEach_frame | apply State.when_frame | apply foldl_frame | apply foldl_fst_frame | apply foldl_snd_frame | intro _ | split | apply State.put_frame | apply frameOpt_get (by assumption) | apply Frame.set_decoder | dsimp only)
  all_goals first | assumption | exact within_trans hW (within_of (by decide)) | exact within_group hW .rchRegs (by decide) rfl

theorem State.startWork_frame {W : Nat} {s₀ s : State} (hs : Frame W s₀ s) (e st mslot block : Nat) (verify noRetry early : Bool) (hW : within 2147483648 W) :
    Frame W s₀ (State.startWork s e st mslot block verify noRetry early) := by
  unfold State.startWork
  try dsimp only
  repeat' with_reducible (first | assumption | apply frameRes_next | apply frameOpt_none | apply frameOpt_some | apply State.forEach_frame | apply State.when_frame | apply foldl_frame | apply foldl_fst_frame | apply foldl_snd_frame | intro _ | split | apply State.setWork_frame | apply frameOpt_get (by assumption) | dsimp only)
  all_goals first | assumption | exact within_trans hW (within_of (by decide))

theorem State.freeEntry_frame {W : Nat} {s₀ s : State} (hs : Frame W s₀ s) (e : Nat) (hW : within 2751467648 W := by first | assumption | exact within_trans (by assumption) (within_of (by decide))) :
    Frame W s₀ (State.freeEntry s e) := by
  unfold State.freeEntry
  try dsimp only
  repeat' with_reducible (first | assumption | apply frameRes_next | apply frameOpt_none | apply frameOpt_some | apply State.forEach_frame | apply State.when_frame | apply foldl_frame | apply foldl_fst_frame | apply foldl_snd_frame | intro _ | split | apply State.discardWork_frame | apply State.count_frame | apply State.setEntry_frame | apply frameOpt_get (by assumption) | dsimp only)
  all_goals first | assumption | exact within_trans hW (within_of (by decide)) | exact within_group hW .cchRegs (by decide) rfl | exact within_group hW .rchRegs (by decide) rfl

theorem State.setLane_frame {W : Nat} {s₀ s : State} (hs : Frame W s₀ s) (bc : Nat) (l : Lane) (hW : within 17179869184 W) :
    Frame W s₀ (State.setLane s bc l) := by
  unfold State.setLane
  try dsimp only
  repeat' with_reducible (first | assumption | apply frameRes_next | apply frameOpt_none | apply frameOpt_some | apply State.forEach_frame | apply State.when_frame | apply foldl_frame | apply foldl_fst_frame | apply foldl_snd_frame | intro _ | split | apply State.put_frame | apply frameOpt_get (by assumption) | apply Frame.set_lanes | dsimp only)
  all_goals first | assumption | exact within_trans hW (within_of (by decide))

theorem State.applyQuality_frame {W : Nat} {s₀ s : State} (hs : Frame W s₀ s) (bc : Nat) (q : Quality) (hW : within 17246982144 W := by first | assumption | exact within_trans (by assumption) (within_of (by decide))) :
    Frame W s₀ (State.applyQuality s bc q) := by
  unfold State.applyQuality
  try dsimp only
  repeat' with_reducible (first | assumption | apply frameRes_next | apply frameOpt_none | apply frameOpt_some | apply State.forEach_frame | apply State.when_frame | apply foldl_frame | apply foldl_fst_frame | apply foldl_snd_frame | intro _ | split | apply State.put_frame | apply State.count_frame | apply State.raise_frame | apply State.setLane_frame | apply frameOpt_get (by assumption) | dsimp only)
  all_goals first | assumption | exact within_trans hW (within_of (by decide)) | exact within_group hW .rchRegs (by decide) rfl

theorem State.reportOutcome_frame {W : Nat} {s₀ s : State} (hs : Frame W s₀ s) (r : SectorReport) (hW : within 17246982144 W) :
    Frame W s₀ (State.reportOutcome s r) := by
  have h1 : (outcomeCounter r.lane r.outcome).1.group = .rchRegs := by unfold outcomeCounter; split <;> rfl
  have h2 : (outcomeCounter r.lane r.outcome).2.group = .rchRegs := by unfold outcomeCounter; split <;> rfl
  unfold State.reportOutcome
  dsimp only
  repeat' with_reducible (first | assumption | apply State.forEach_frame | apply State.when_frame | intro _ | apply State.applyQuality_frame | apply State.raise_frame | apply State.count_frame | apply State.put_frame)
  all_goals first | assumption | exact within_trans hW (within_of (by decide)) | exact within_group hW .rchRegs (by decide) rfl | exact within_group hW .rchRegs (by decide) h1 | exact within_group hW .rchRegs (by decide) h2

theorem State.raiseOuterBad_frame {W : Nat} {s₀ s : State} (hs : Frame W s₀ s) (bc psa : Nat) (hW : within 67112960 W) :
    Frame W s₀ (State.raiseOuterBad s bc psa) := by
  unfold State.raiseOuterBad
  try dsimp only
  repeat' with_reducible (first | assumption | apply frameRes_next | apply frameOpt_none | apply frameOpt_some | apply State.forEach_frame | apply State.when_frame | apply foldl_frame | apply foldl_fst_frame | apply foldl_snd_frame | intro _ | split | apply State.raise_frame | apply frameOpt_get (by assumption) | dsimp only)
  all_goals first | assumption | exact within_trans hW (within_of (by decide)) | exact within_group hW .rchRegs (by decide) rfl

theorem State.applyReport_frame {W : Nat} {s₀ s : State} (hs : Frame W s₀ s) (r : SectorReport) (hW : within 17246982144 W) :
    Frame W s₀ (State.applyReport s r) := by
  unfold State.applyReport
  try dsimp only
  repeat' with_reducible (first | assumption | apply frameRes_next | apply frameOpt_none | apply frameOpt_some | apply State.forEach_frame | apply State.when_frame | apply foldl_frame | apply foldl_fst_frame | apply foldl_snd_frame | intro _ | split | apply State.raiseOuterBad_frame | apply State.reportOutcome_frame | apply frameOpt_get (by assumption) | dsimp only)
  all_goals first | assumption | exact within_trans hW (within_of (by decide)) | exact within_group hW .rchRegs (by decide) rfl

theorem State.report_frame {W : Nat} {s₀ s : State} (hs : Frame W s₀ s) (e : Nat) (r : SectorReport) (hW : within 17783853056 W) :
    Frame W s₀ (State.report s e r) := by
  unfold State.report
  try dsimp only
  repeat' with_reducible (first | assumption | apply frameRes_next | apply frameOpt_none | apply frameOpt_some | apply State.forEach_frame | apply State.when_frame | apply foldl_frame | apply foldl_fst_frame | apply foldl_snd_frame | intro _ | split | apply State.modEntry_frame | apply State.applyReport_frame | apply frameOpt_get (by assumption) | dsimp only)
  all_goals first | assumption | exact within_trans hW (within_of (by decide)) | exact within_group hW .rchRegs (by decide) rfl

theorem State.claim_frame {W : Nat} {s₀ s : State} (hs : Frame W s₀ s) (h e cls : Nat) (hW : within 17783853056 W) :
    Frame W s₀ (State.claim s h e cls) := by
  unfold State.claim
  try dsimp only
  repeat' with_reducible (first | assumption | apply frameRes_next | apply frameOpt_none | apply frameOpt_some | apply State.forEach_frame | apply State.when_frame | apply foldl_frame | apply foldl_fst_frame | apply foldl_snd_frame | intro _ | split | apply State.setEntry_frame | apply State.applyReport_frame | apply State.touch_frame | apply frameOpt_get (by assumption) | dsimp only)
  all_goals first | assumption | exact within_trans hW (within_of (by decide)) | exact within_group hW .rchRegs (by decide) rfl

theorem State.releaseUses_frame {W : Nat} {s₀ s : State} (hs : Frame W s₀ s) (h : Nat) (giveUp : Bool) (hW : within 2785022080 W) :
    Frame W s₀ (State.releaseUses s h giveUp) := by
  unfold State.releaseUses
  try dsimp only
  repeat' with_reducible (first | assumption | apply frameRes_next | apply frameOpt_none | apply frameOpt_some | apply State.forEach_frame | apply State.when_frame | apply foldl_frame | apply foldl_fst_frame | apply foldl_snd_frame | intro _ | split | apply State.setEntry_frame | apply State.freeEntry_frame | apply State.modCmd_frame | apply frameOpt_get (by assumption) | dsimp only)
  all_goals first | assumption | exact within_trans hW (within_of (by decide)) | exact within_group hW .cchRegs (by decide) rfl | exact within_group hW .rchRegs (by decide) rfl

end Sys2Proof.Machine
end

