-- ==== Sys2Proof/Laws/FrameData.lean ====
section
/-!
SUPPORT. What the operations and commands of Machine/Data.lean leave as it was: all parts outside a mask.
-/
set_option Elab.async false
set_option linter.all false
namespace Sys2Proof.Machine
set_option maxRecDepth 2000

theorem State.endCmd_frame {W : Nat} {s₀ s : State} (hs : Frame W s₀ s) (h : Nat) (giveUp : Bool) (r : CmdResult) (hW : within 3858763904 W) :
    Frame W s₀ (State.endCmd s h giveUp r) := by
  unfold State.endCmd
  try dsimp only
  repeat' with_reducible (first | assumption | apply frameRes_next | apply frameOpt_none | apply frameOpt_some | apply State.forEach_frame | apply State.when_frame | apply foldl_frame | apply foldl_fst_frame | apply foldl_snd_frame | intro _ | split | apply State.releaseUses_frame | apply State.finish_frame | apply frameOpt_get (by assumption) | dsimp only)
  all_goals first | assumption | exact within_trans hW (within_of (by decide)) | exact within_group hW .cchRegs (by decide) rfl | exact within_group hW .rchRegs (by decide) rfl

theorem State.setKeySlot_frame {W : Nat} {s₀ s : State} (hs : Frame W s₀ s) (k : Nat) (x : KeySlot) (hW : within 1073741824 W) :
    Frame W s₀ (State.setKeySlot s k x) := by
  unfold State.setKeySlot
  try dsimp only
  repeat' with_reducible (first | assumption | apply frameRes_next | apply frameOpt_none | apply frameOpt_some | apply State.forEach_frame | apply State.when_frame | apply foldl_frame | apply foldl_fst_frame | apply foldl_snd_frame | intro _ | split | apply State.put_frame | apply frameOpt_get (by assumption) | apply Frame.set_cipher | dsimp only)
  all_goals first | assumption | exact within_trans hW (within_of (by decide))

theorem State.setEngine_frame {W : Nat} {s₀ s : State} (hs : Frame W s₀ s) (e : Nat) (x : Option Engine) (hW : within 1073741824 W) :
    Frame W s₀ (State.setEngine s e x) := by
  unfold State.setEngine
  try dsimp only
  repeat' with_reducible (first | assumption | apply frameRes_next | apply frameOpt_none | apply frameOpt_some | apply State.forEach_frame | apply State.when_frame | apply foldl_frame | apply foldl_fst_frame | apply foldl_snd_frame | intro _ | split | apply State.put_frame | apply frameOpt_get (by assumption) | apply Frame.set_cipher | dsimp only)
  all_goals first | assumption | exact within_trans hW (within_of (by decide))

theorem State.addWork_frame {W : Nat} {s₀ s : State} (hs : Frame W s₀ s) (w : EngineWork) (hW : within 1073741824 W) :
    Frame W s₀ (State.addWork s w) := by
  unfold State.addWork
  try dsimp only
  repeat' with_reducible (first | assumption | apply frameRes_next | apply frameOpt_none | apply frameOpt_some | apply State.forEach_frame | apply State.when_frame | apply foldl_frame | apply foldl_fst_frame | apply foldl_snd_frame | intro _ | split | apply frameOpt_get (by assumption) | apply Frame.set_cipher | dsimp only)
  all_goals first | assumption | exact within_trans hW (within_of (by decide))

theorem State.setWorkItem_frame {W : Nat} {s₀ s : State} (hs : Frame W s₀ s) (w : EngineWork) (hW : within 1073741824 W) :
    Frame W s₀ (State.setWorkItem s w) := by
  unfold State.setWorkItem
  try dsimp only
  repeat' with_reducible (first | assumption | apply frameRes_next | apply frameOpt_none | apply frameOpt_some | apply State.forEach_frame | apply State.when_frame | apply foldl_frame | apply foldl_fst_frame | apply foldl_snd_frame | intro _ | split | apply frameOpt_get (by assumption) | apply Frame.set_cipher | dsimp only)
  all_goals first | assumption | exact within_trans hW (within_of (by decide))

theorem State.zeroRest_frame {W : Nat} {s₀ s : State} (hs : Frame W s₀ s) (c : Cmd) (hW : within 35184506306562 W) :
    Frame W s₀ (State.zeroRest s c) := by
  unfold State.zeroRest
  try dsimp only
  repeat' with_reducible (first | assumption | apply frameRes_next | apply frameOpt_none | apply frameOpt_some | apply State.forEach_frame | apply State.when_frame | apply foldl_frame | apply foldl_fst_frame | apply foldl_snd_frame | intro _ | split | apply State.emitAll_frame | apply frameOpt_get (by assumption) | dsimp only)
  all_goals first | assumption | exact within_trans hW (within_of (by decide)) | exact within_group hW .linkRegs (by decide) rfl

theorem State.setFrontier_frame {W : Nat} {s₀ s : State} (hs : Frame W s₀ s) (st side layer : Nat) (w : Option Nat) (hW : within 8589934592 W) :
    Frame W s₀ (State.setFrontier s st side layer w) := by
  unfold State.setFrontier
  try dsimp only
  repeat' with_reducible (first | assumption | apply frameRes_next | apply frameOpt_none | apply frameOpt_some | apply State.forEach_frame | apply State.when_frame | apply foldl_frame | apply foldl_fst_frame | apply foldl_snd_frame | intro _ | split | apply State.put_frame | apply frameOpt_get (by assumption) | apply Frame.set_recording | dsimp only)
  all_goals first | assumption | exact within_trans hW (within_of (by decide))

theorem State.setPuRec_frame {W : Nat} {s₀ s : State} (hs : Frame W s₀ s) (n : Nat) (p : PickupRec) (hW : within 8589934592 W) :
    Frame W s₀ (State.setPuRec s n p) := by
  unfold State.setPuRec
  try dsimp only
  repeat' with_reducible (first | assumption | apply frameRes_next | apply frameOpt_none | apply frameOpt_some | apply State.forEach_frame | apply State.when_frame | apply foldl_frame | apply foldl_fst_frame | apply foldl_snd_frame | intro _ | split | apply State.put_frame | apply frameOpt_get (by assumption) | apply Frame.set_recording | dsimp only)
  all_goals first | assumption | exact within_trans hW (within_of (by decide))

theorem State.modPuRec_frame {W : Nat} {s₀ s : State} (hs : Frame W s₀ s) (n : Nat) (f : PickupRec → PickupRec) (hW : within 8589934592 W) :
    Frame W s₀ (State.modPuRec s n f) := by
  unfold State.modPuRec
  try dsimp only
  repeat' with_reducible (first | assumption | apply frameRes_next | apply frameOpt_none | apply frameOpt_some | apply State.forEach_frame | apply State.when_frame | apply foldl_frame | apply foldl_fst_frame | apply foldl_snd_frame | intro _ | split | apply State.setPuRec_frame | apply frameOpt_get (by assumption) | dsimp only)
  all_goals first | assumption | exact within_trans hW (within_of (by decide))

theorem State.setRecBlock_frame {W : Nat} {s₀ s : State} (hs : Frame W s₀ s) (r : RecBlock) (hW : within 8589934592 W) :
    Frame W s₀ (State.setRecBlock s r) := by
  unfold State.setRecBlock
  try dsimp only
  repeat' with_reducible (first | assumption | apply frameRes_next | apply frameOpt_none | apply frameOpt_some | apply State.forEach_frame | apply State.when_frame | apply foldl_frame | apply foldl_fst_frame | apply foldl_snd_frame | intro _ | split | apply frameOpt_get (by assumption) | apply Frame.set_recording | dsimp only)
  all_goals first | assumption | exact within_trans hW (within_of (by decide))

theorem State.dropRecBlock_frame {W : Nat} {s₀ s : State} (hs : Frame W s₀ s) (mslot block : Nat) (hW : within 8589934592 W) :
    Frame W s₀ (State.dropRecBlock s mslot block) := by
  unfold State.dropRecBlock
  try dsimp only
  repeat' with_reducible (first | assumption | apply frameRes_next | apply frameOpt_none | apply frameOpt_some | apply State.forEach_frame | apply State.when_frame | apply foldl_frame | apply foldl_fst_frame | apply foldl_snd_frame | intro _ | split | apply frameOpt_get (by assumption) | apply Frame.set_recording | dsimp only)
  all_goals first | assumption | exact within_trans hW (within_of (by decide))

theorem State.prepareBlock_frame {W : Nat} {s₀ s : State} (hs : Frame W s₀ s) (r : RecBlock) (hW : within 8589934592 W) :
    Frame W s₀ (State.prepareBlock s r) := by
  unfold State.prepareBlock
  try dsimp only
  repeat' with_reducible (first | assumption | apply frameRes_next | apply frameOpt_none | apply frameOpt_some | apply State.forEach_frame | apply State.when_frame | apply foldl_frame | apply foldl_fst_frame | apply foldl_snd_frame | intro _ | split | apply State.setRecBlock_frame | apply frameOpt_get (by assumption) | dsimp only)
  all_goals first | assumption | exact within_trans hW (within_of (by decide))

theorem State.commitBlock_frame {W : Nat} {s₀ s : State} (hs : Frame W s₀ s) (e : Nat) (hW : within 10538188864 W) :
    Frame W s₀ (State.commitBlock s e) := by
  unfold State.commitBlock
  try dsimp only
  repeat' with_reducible (first | assumption | apply frameRes_next | apply frameOpt_none | apply frameOpt_some | apply State.forEach_frame | apply State.when_frame | apply foldl_frame | apply foldl_fst_frame | apply foldl_snd_frame | intro _ | split | apply State.readSector_frame | apply State.modEntry_frame | apply State.prepareBlock_frame | apply State.addWork_frame | apply frameOpt_get (by assumption) | apply Frame.set_recording | dsimp only)
  all_goals first | assumption | exact within_trans hW (within_of (by decide)) | exact within_group hW .memRegs (by decide) rfl

theorem State.tryCommit_frame {W : Nat} {s₀ s : State} (hs : Frame W s₀ s) (e : Nat) (hW : within 10538188864 W) :
    Frame W s₀ (State.tryCommit s e) := by
  unfold State.tryCommit
  try dsimp only
  repeat' with_reducible (first | assumption | apply frameRes_next | apply frameOpt_none | apply frameOpt_some | apply State.forEach_frame | apply State.when_frame | apply foldl_frame | apply foldl_fst_frame | apply foldl_snd_frame | intro _ | split | apply State.commitBlock_frame | apply frameOpt_get (by assumption) | dsimp only)
  all_goals first | assumption | exact within_trans hW (within_of (by decide)) | exact within_group hW .memRegs (by decide) rfl

theorem State.padSectors_frame {W : Nat} {s₀ s : State} (hs : Frame W s₀ s) (e : Nat) (js : List Nat) (hW : within 10538188864 W) :
    Frame W s₀ (State.padSectors s e js) := by
  unfold State.padSectors
  try dsimp only
  repeat' with_reducible (first | assumption | apply frameRes_next | apply frameOpt_none | apply frameOpt_some | apply State.forEach_frame | apply State.when_frame | apply foldl_frame | apply foldl_fst_frame | apply foldl_snd_frame | intro _ | split | apply State.storeSector_frame | apply State.tryCommit_frame | apply frameOpt_get (by assumption) | dsimp only)
  all_goals first | assumption | exact within_trans hW (within_of (by decide)) | exact within_group hW .memRegs (by decide) rfl

theorem State.padLbas_frame {W : Nat} {s₀ s : State} (hs : Frame W s₀ s) (st mslot cls : Nat) (lbas : List Nat) (hW : within 12685676608 W) :
    Frame W s₀ (State.padLbas s st mslot cls lbas) := by
  unfold State.padLbas
  try dsimp only
  repeat' with_reducible (first | assumption | apply frameRes_next | apply frameOpt_none | apply frameOpt_some | apply State.forEach_frame | apply State.when_frame | apply foldl_frame | apply foldl_fst_frame | apply foldl_snd_frame | intro _ | split | apply State.discardWork_frame | apply State.modEntry_frame | apply State.padSectors_frame | apply frameOpt_get (by assumption) | apply Frame.set_recording | dsimp only)
  all_goals first | assumption | exact within_trans hW (within_of (by decide)) | exact within_group hW .memRegs (by decide) rfl | exact within_group hW .rchRegs (by decide) rfl

theorem State.closeBlock_frame {W : Nat} {s₀ s : State} (hs : Frame W s₀ s) (st mslot block : Nat) (hW : within 10538188864 W) :
    Frame W s₀ (State.closeBlock s st mslot block).1 := by
  unfold State.closeBlock
  try dsimp only
  repeat' with_reducible (first | assumption | apply frameRes_next | apply frameOpt_none | apply frameOpt_some | apply State.forEach_frame | apply State.when_frame | apply foldl_frame | apply foldl_fst_frame | apply foldl_snd_frame | intro _ | split | apply State.setFrontier_frame | apply State.padSectors_frame | apply frameOpt_get (by assumption) | apply Frame.set_recording | dsimp only)
  all_goals first | assumption | exact within_trans hW (within_of (by decide)) | exact within_group hW .memRegs (by decide) rfl

theorem State.tryEndWrite_frame {W : Nat} {s₀ s : State} (hs : Frame W s₀ s) (h : Nat) (hW : within 3858763904 W) :
    Frame W s₀ (State.tryEndWrite s h) := by
  unfold State.tryEndWrite
  try dsimp only
  repeat' with_reducible (first | assumption | apply frameRes_next | apply frameOpt_none | apply frameOpt_some | apply State.forEach_frame | apply State.when_frame | apply foldl_frame | apply foldl_fst_frame | apply foldl_snd_frame | intro _ | split | apply State.endCmd_frame | apply frameOpt_get (by assumption) | dsimp only)
  all_goals first | assumption | exact within_trans hW (within_of (by decide)) | exact within_group hW .cchRegs (by decide) rfl | exact within_group hW .rchRegs (by decide) rfl

theorem State.tryEndFlush_frame {W : Nat} {s₀ s : State} (hs : Frame W s₀ s) (h : Nat) (hW : within 12719231168 W) :
    Frame W s₀ (State.tryEndFlush s h) := by
  unfold State.tryEndFlush
  try dsimp only
  repeat' with_reducible (first | assumption | apply frameRes_next | apply frameOpt_none | apply frameOpt_some | apply State.forEach_frame | apply State.when_frame | apply foldl_frame | apply foldl_fst_frame | apply foldl_snd_frame | intro _ | split | apply State.flush_frame | apply State.endCmd_frame | apply frameOpt_get (by assumption) | dsimp only)
  all_goals first | assumption | exact within_trans hW (within_of (by decide)) | exact within_group hW .memRegs (by decide) rfl | exact within_group hW .cchRegs (by decide) rfl | exact within_group hW .rchRegs (by decide) rfl

theorem State.blockSettled_frame {W : Nat} {s₀ s : State} (hs : Frame W s₀ s) (mslot block : Nat) (failed : Bool) (hW : within 12719231168 W) :
    Frame W s₀ (State.blockSettled s mslot block failed) := by
  unfold State.blockSettled
  try dsimp only
  repeat' with_reducible (first | assumption | apply frameRes_next | apply frameOpt_none | apply frameOpt_some | apply State.forEach_frame | apply State.when_frame | apply foldl_frame | apply foldl_fst_frame | apply foldl_snd_frame | intro _ | split | apply State.flush_frame | apply State.modCmd_frame | apply State.tryEndWrite_frame | apply State.tryEndFlush_frame | apply frameOpt_get (by assumption) | dsimp only)
  all_goals first | assumption | exact within_trans hW (within_of (by decide)) | exact within_group hW .memRegs (by decide) rfl | exact within_group hW .cchRegs (by decide) rfl | exact within_group hW .rchRegs (by decide) rfl

theorem State.stopWrite_frame {W : Nat} {s₀ s : State} (hs : Frame W s₀ s) (h status : Nat) (hW : within 12719231168 W) :
    Frame W s₀ (State.stopWrite s h status) := by
  unfold State.stopWrite
  try dsimp only
  repeat' with_reducible (first | assumption | apply frameRes_next | apply frameOpt_none | apply frameOpt_some | apply State.forEach_frame | apply State.when_frame | apply foldl_frame | apply foldl_fst_frame | apply foldl_snd_frame | intro _ | split | apply State.endCmd_frame | apply State.padLbas_frame | apply frameOpt_get (by assumption) | dsimp only)
  all_goals first | assumption | exact within_trans hW (within_of (by decide)) | exact within_group hW .memRegs (by decide) rfl | exact within_group hW .cchRegs (by decide) rfl | exact within_group hW .rchRegs (by decide) rfl

theorem State.flushJob_frame {W : Nat} {s₀ s : State} (hs : Frame W s₀ s) (h : Nat) (hW : within 35184539860994 W) :
    Frame W s₀ (State.flushJob s h) := by
  unfold State.flushJob
  try dsimp only
  repeat' with_reducible (first | assumption | apply frameRes_next | apply frameOpt_none | apply frameOpt_some | apply State.forEach_frame | apply State.when_frame | apply foldl_frame | apply foldl_fst_frame | apply foldl_snd_frame | intro _ | split | apply State.emitAll_frame | apply State.modCmd_frame | apply frameOpt_get (by assumption) | dsimp only)
  all_goals first | assumption | exact within_trans hW (within_of (by decide)) | exact within_group hW .linkRegs (by decide) rfl

theorem State.stopCmd_frame {W : Nat} {s₀ s : State} (hs : Frame W s₀ s) (h status : Nat) (hW : within 35197225537730 W) :
    Frame W s₀ (State.stopCmd s h status) := by
  unfold State.stopCmd
  try dsimp only
  repeat' with_reducible (first | assumption | apply frameRes_next | apply frameOpt_none | apply frameOpt_some | apply State.forEach_frame | apply State.when_frame | apply foldl_frame | apply foldl_fst_frame | apply foldl_snd_frame | intro _ | split | apply State.stopWrite_frame | apply State.flushJob_frame | apply State.endCmd_frame | apply State.flush_frame | apply State.finish_frame | apply frameOpt_get (by assumption) | dsimp only)
  all_goals first | assumption | exact within_trans hW (within_of (by decide)) | exact within_group hW .linkRegs (by decide) rfl | exact within_group hW .memRegs (by decide) rfl | exact within_group hW .cchRegs (by decide) rfl | exact within_group hW .rchRegs (by decide) rfl

theorem State.settleSeals_frame {W : Nat} {s₀ s : State} (hs : Frame W s₀ s) (hW : within 9663676416 W) :
    Frame W s₀ (State.settleSeals s) := by
  unfold State.settleSeals
  try dsimp only
  repeat' with_reducible (first | assumption | apply frameRes_next | apply frameOpt_none | apply frameOpt_some | apply State.forEach_frame | apply State.when_frame | apply foldl_frame | apply foldl_fst_frame | apply foldl_snd_frame | intro _ | split | apply State.setRecBlock_frame | apply State.prepareBlock_frame | apply frameOpt_get (by assumption) | apply Frame.set_cipher | dsimp only)
  all_goals first | assumption | exact within_trans hW (within_of (by decide))

theorem State.sealLost_frame {W : Nat} {s₀ s : State} (hs : Frame W s₀ s) (w : EngineWork) (hW : within 10536091712 W) :
    Frame W s₀ (State.sealLost s w) := by
  unfold State.sealLost
  try dsimp only
  repeat' with_reducible (first | assumption | apply frameRes_next | apply frameOpt_none | apply frameOpt_some | apply State.forEach_frame | apply State.when_frame | apply foldl_frame | apply foldl_fst_frame | apply foldl_snd_frame | intro _ | split | apply State.post_frame | apply State.storeSector_frame | apply State.settleSeals_frame | apply frameOpt_get (by assumption) | dsimp only)
  all_goals first | assumption | exact within_trans hW (within_of (by decide)) | exact within_group hW .memRegs (by decide) rfl

theorem State.keyChanged_frame {W : Nat} {s₀ s : State} (hs : Frame W s₀ s) (h : Nat) (hW : within 35197225537730 W) :
    Frame W s₀ (State.keyChanged s h) := by
  unfold State.keyChanged
  try dsimp only
  repeat' with_reducible (first | assumption | apply frameRes_next | apply frameOpt_none | apply frameOpt_some | apply State.forEach_frame | apply State.when_frame | apply foldl_frame | apply foldl_fst_frame | apply foldl_snd_frame | intro _ | split | apply State.post_frame | apply State.storeSector_frame | apply State.endCmd_frame | apply State.padLbas_frame | apply State.tryCommit_frame | apply State.settleSeals_frame | apply State.zeroRest_frame | apply State.flushJob_frame | apply frameOpt_get (by assumption) | dsimp only)
  all_goals first | assumption | exact within_trans hW (within_of (by decide)) | exact within_group hW .linkRegs (by decide) rfl | exact within_group hW .memRegs (by decide) rfl | exact within_group hW .cchRegs (by decide) rfl | exact within_group hW .rchRegs (by decide) rfl

theorem State.passKeyChanged_frame {W : Nat} {s₀ s : State} (hs : Frame W s₀ s) (w : EngineWork) (hW : within 35197225537730 W) :
    Frame W s₀ (State.passKeyChanged s w) := by
  unfold State.passKeyChanged
  try dsimp only
  repeat' with_reducible (first | assumption | apply frameRes_next | apply frameOpt_none | apply frameOpt_some | apply State.forEach_frame | apply State.when_frame | apply foldl_frame | apply foldl_fst_frame | apply foldl_snd_frame | intro _ | split | apply State.post_frame | apply State.endCmd_frame | apply State.keyChanged_frame | apply frameOpt_get (by assumption) | apply Frame.set_cipher_recording | dsimp only)
  all_goals first | assumption | exact within_trans hW (within_of (by decide)) | exact within_group hW .linkRegs (by decide) rfl | exact within_group hW .memRegs (by decide) rfl | exact within_group hW .cchRegs (by decide) rfl | exact within_group hW .rchRegs (by decide) rfl

theorem State.startBlock_frame {W : Nat} {s₀ s : State} (hs : Frame W s₀ s) (e : Nat) (w : EngineWork) (hW : within 35197225537730 W) :
    Frame W s₀ (State.startBlock s e w) := by
  unfold State.startBlock
  try dsimp only
  repeat' with_reducible (first | assumption | apply frameRes_next | apply frameOpt_none | apply frameOpt_some | apply State.forEach_frame | apply State.when_frame | apply foldl_frame | apply foldl_fst_frame | apply foldl_snd_frame | intro _ | split | apply State.passKeyChanged_frame | apply State.keyChanged_frame | apply State.sealLost_frame | apply State.setWorkItem_frame | apply State.setEngine_frame | apply frameOpt_get (by assumption) | dsimp only)
  all_goals first | assumption | exact within_trans hW (within_of (by decide)) | exact within_group hW .linkRegs (by decide) rfl | exact within_group hW .memRegs (by decide) rfl | exact within_group hW .cchRegs (by decide) rfl | exact within_group hW .rchRegs (by decide) rfl

theorem State.refillEngines_frame {W : Nat} {s₀ s : State} (hs : Frame W s₀ s) (hW : within 35197225537730 W) :
    Frame W s₀ (State.refillEngines s) := by
  unfold State.refillEngines
  try dsimp only
  repeat' with_reducible (first | assumption | apply frameRes_next | apply frameOpt_none | apply frameOpt_some | apply State.forEach_frame | apply State.when_frame | apply foldl_frame | apply foldl_fst_frame | apply foldl_snd_frame | intro _ | split | apply State.startBlock_frame | apply frameOpt_get (by assumption) | dsimp only)
  all_goals first | assumption | exact within_trans hW (within_of (by decide)) | exact within_group hW .linkRegs (by decide) rfl | exact within_group hW .memRegs (by decide) rfl | exact within_group hW .cchRegs (by decide) rfl | exact within_group hW .rchRegs (by decide) rfl

theorem State.offerUnseal_frame {W : Nat} {s₀ s : State} (hs : Frame W s₀ s) (h k : Nat) (hW : within 1073741824 W) :
    Frame W s₀ (State.offerUnseal s h k) := by
  unfold State.offerUnseal
  try dsimp only
  repeat' with_reducible (first | assumption | apply frameRes_next | apply frameOpt_none | apply frameOpt_some | apply State.forEach_frame | apply State.when_frame | apply foldl_frame | apply foldl_fst_frame | apply foldl_snd_frame | intro _ | split | apply State.addWork_frame | apply frameOpt_get (by assumption) | dsimp only)
  all_goals first | assumption | exact within_trans hW (within_of (by decide))

theorem State.endRead_frame {W : Nat} {s₀ s : State} (hs : Frame W s₀ s) (h done : Nat) (outcomes failed : List Nat) (hW : within 3858763904 W) :
    Frame W s₀ (State.endRead s h done outcomes failed) := by
  unfold State.endRead
  try dsimp only
  repeat' with_reducible (first | assumption | apply frameRes_next | apply frameOpt_none | apply frameOpt_some | apply State.forEach_frame | apply State.when_frame | apply foldl_frame | apply foldl_fst_frame | apply foldl_snd_frame | intro _ | split | apply State.setCmd_frame | apply State.endCmd_frame | apply frameOpt_get (by assumption) | dsimp only)
  all_goals first | assumption | exact within_trans hW (within_of (by decide)) | exact within_group hW .cchRegs (by decide) rfl | exact within_group hW .rchRegs (by decide) rfl

theorem State.tryEndRead_frame {W : Nat} {s₀ s : State} (hs : Frame W s₀ s) (h : Nat) (hW : within 8153731200 W) :
    Frame W s₀ (State.tryEndRead s h) := by
  unfold State.tryEndRead
  try dsimp only
  repeat' with_reducible (first | assumption | apply frameRes_next | apply frameOpt_none | apply frameOpt_some | apply State.forEach_frame | apply State.when_frame | apply foldl_frame | apply foldl_fst_frame | apply foldl_snd_frame | intro _ | split | apply State.modStation_frame | apply State.endRead_frame | apply frameOpt_get (by assumption) | dsimp only)
  all_goals first | assumption | exact within_trans hW (within_of (by decide)) | exact within_group hW .cchRegs (by decide) rfl | exact within_group hW .rchRegs (by decide) rfl

theorem State.tryEndFill_frame {W : Nat} {s₀ s : State} (hs : Frame W s₀ s) (h : Nat) (hW : within 35197225537730 W) :
    Frame W s₀ (State.tryEndFill s h) := by
  unfold State.tryEndFill
  try dsimp only
  repeat' with_reducible (first | assumption | apply frameRes_next | apply frameOpt_none | apply frameOpt_some | apply State.forEach_frame | apply State.when_frame | apply foldl_frame | apply foldl_fst_frame | apply foldl_snd_frame | intro _ | split | apply State.keyChanged_frame | apply State.endRead_frame | apply frameOpt_get (by assumption) | dsimp only)
  all_goals first | assumption | exact within_trans hW (within_of (by decide)) | exact within_group hW .linkRegs (by decide) rfl | exact within_group hW .memRegs (by decide) rfl | exact within_group hW .cchRegs (by decide) rfl | exact within_group hW .rchRegs (by decide) rfl

theorem State.sectorReady_frame {W : Nat} {s₀ s : State} (hs : Frame W s₀ s) (e : Nat) (hW : within 35197225537730 W) :
    Frame W s₀ (State.sectorReady s e) := by
  unfold State.sectorReady
  try dsimp only
  repeat' with_reducible (first | assumption | apply frameRes_next | apply frameOpt_none | apply frameOpt_some | apply State.forEach_frame | apply State.when_frame | apply foldl_frame | apply foldl_fst_frame | apply foldl_snd_frame | intro _ | split | apply State.modEntry_frame | apply State.offerUnseal_frame | apply State.tryEndFill_frame | apply State.refillEngines_frame | apply frameOpt_get (by assumption) | dsimp only)
  all_goals first | assumption | exact within_trans hW (within_of (by decide)) | exact within_group hW .linkRegs (by decide) rfl | exact within_group hW .memRegs (by decide) rfl | exact within_group hW .cchRegs (by decide) rfl | exact within_group hW .rchRegs (by decide) rfl

theorem State.workDone_frame {W : Nat} {s₀ s : State} (hs : Frame W s₀ s) (w : EngineWork) (hW : within 35197225537730 W) :
    Frame W s₀ (State.workDone s w) := by
  unfold State.workDone
  try dsimp only
  repeat' with_reducible (first | assumption | apply frameRes_next | apply frameOpt_none | apply frameOpt_some | apply State.forEach_frame | apply State.when_frame | apply foldl_frame | apply foldl_fst_frame | apply foldl_snd_frame | intro _ | split | apply State.modCmd_frame | apply State.put_frame | apply State.tryEndFill_frame | apply State.setRecBlock_frame | apply State.prepareBlock_frame | apply frameOpt_get (by assumption) | apply Frame.set_cipher | dsimp only)
  all_goals first | assumption | exact within_trans hW (within_of (by decide)) | exact within_group hW .linkRegs (by decide) rfl | exact within_group hW .memRegs (by decide) rfl | exact within_group hW .cchRegs (by decide) rfl | exact within_group hW .rchRegs (by decide) rfl

end Sys2Proof.Machine
end

