-- ==== Sys2Proof/Laws/FrameChain.lean ====
section
/-!
SUPPORT. What the operations and commands of Machine/Chain.lean leave as it was: all parts outside a mask.
-/
set_option Elab.async false
set_option linter.all false
namespace Sys2Proof.Machine
set_option maxRecDepth 2000

theorem State.setPort_frame {W : Nat} {s₀ s : State} (hs : Frame W s₀ s) (q : Nat) (p : Port) (hW : within 17592186044416 W) :
    Frame W s₀ (State.setPort s q p) := by
  unfold State.setPort
  try dsimp only
  repeat' with_reducible (first | assumption | apply frameRes_next | apply frameOpt_none | apply frameOpt_some | apply State.forEach_frame | apply State.when_frame | apply foldl_frame | apply foldl_fst_frame | apply foldl_snd_frame | intro _ | split | apply State.put_frame | apply frameOpt_get (by assumption) | apply Frame.set_mbl | dsimp only)
  all_goals first | assumption | exact within_trans hW (within_of (by decide))

theorem State.modPort_frame {W : Nat} {s₀ s : State} (hs : Frame W s₀ s) (q : Nat) (f : Port → Port) (hW : within 17592186044416 W := by first | assumption | exact within_trans (by assumption) (within_of (by decide))) :
    Frame W s₀ (State.modPort s q f) := by
  unfold State.modPort
  try dsimp only
  repeat' with_reducible (first | assumption | apply frameRes_next | apply frameOpt_none | apply frameOpt_some | apply State.forEach_frame | apply State.when_frame | apply foldl_frame | apply foldl_fst_frame | apply foldl_snd_frame | intro _ | split | apply State.setPort_frame | apply frameOpt_get (by assumption) | dsimp only)
  all_goals first | assumption | exact within_trans hW (within_of (by decide))

theorem State.sendOn_frame {W : Nat} {s₀ s : State} (hs : Frame W s₀ s) (q : Nat) (p : Packet) (hW : within 52776759492610 W := by first | assumption | exact within_trans (by assumption) (within_of (by decide))) :
    Frame W s₀ (State.sendOn s q p) := by
  unfold State.sendOn
  try dsimp only
  repeat' with_reducible (first | assumption | apply frameRes_next | apply frameOpt_none | apply frameOpt_some | apply State.forEach_frame | apply State.when_frame | apply foldl_frame | apply foldl_fst_frame | apply foldl_snd_frame | intro _ | split | apply State.setPort_frame | apply State.count_frame | apply State.emit_frame | apply frameOpt_get (by assumption) | dsimp only)
  all_goals first | assumption | exact within_trans hW (within_of (by decide)) | exact within_group hW .linkRegs (by decide) rfl | exact within_group hW .mblRegs (by decide) rfl

theorem State.takeIn_frame {W : Nat} {s₀ s : State} (hs : Frame W s₀ s) (q : Nat) (p : Packet) (copies : List Nat) (hW : within 17592186044416 W) :
    Frame W s₀ (State.takeIn s q p copies) := by
  unfold State.takeIn
  try dsimp only
  repeat' with_reducible (first | assumption | apply frameRes_next | apply frameOpt_none | apply frameOpt_some | apply State.forEach_frame | apply State.when_frame | apply foldl_frame | apply foldl_fst_frame | apply foldl_snd_frame | intro _ | split | apply frameOpt_get (by assumption) | apply Frame.set_mbl | dsimp only)
  all_goals first | assumption | exact within_trans hW (within_of (by decide))

theorem State.route_frame {W : Nat} {s₀ s : State} (hs : Frame W s₀ s) (p : Packet) (hW : within 52776759492610 W) :
    Frame W s₀ (State.route s p) := by
  unfold State.route
  try dsimp only
  repeat' with_reducible (first | assumption | apply frameRes_next | apply frameOpt_none | apply frameOpt_some | apply State.forEach_frame | apply State.when_frame | apply foldl_frame | apply foldl_fst_frame | apply foldl_snd_frame | intro _ | split | apply State.takeIn_frame | apply State.sendOn_frame | apply frameOpt_get (by assumption) | dsimp only)
  all_goals first | assumption | exact within_trans hW (within_of (by decide)) | exact within_group hW .linkRegs (by decide) rfl | exact within_group hW .mblRegs (by decide) rfl

theorem State.broadcast_frame {W : Nat} {s₀ s : State} (hs : Frame W s₀ s) (p : Packet) (hW : within 52776759492610 W) :
    Frame W s₀ (State.broadcast s p) := by
  unfold State.broadcast
  try dsimp only
  repeat' with_reducible (first | assumption | apply frameRes_next | apply frameOpt_none | apply frameOpt_some | apply State.forEach_frame | apply State.when_frame | apply foldl_frame | apply foldl_fst_frame | apply foldl_snd_frame | intro _ | split | apply State.sendOn_frame | apply frameOpt_get (by assumption) | dsimp only)
  all_goals first | assumption | exact within_trans hW (within_of (by decide)) | exact within_group hW .linkRegs (by decide) rfl | exact within_group hW .mblRegs (by decide) rfl

theorem State.sendEventUp_frame {W : Nat} {s₀ s : State} (hs : Frame W s₀ s) (e : EventRec) (hW : within 52776759492610 W) :
    Frame W s₀ (State.sendEventUp s e) := by
  unfold State.sendEventUp
  try dsimp only
  repeat' with_reducible (first | assumption | apply frameRes_next | apply frameOpt_none | apply frameOpt_some | apply State.forEach_frame | apply State.when_frame | apply foldl_frame | apply foldl_fst_frame | apply foldl_snd_frame | intro _ | split | apply State.route_frame | apply frameOpt_get (by assumption) | dsimp only)
  all_goals first | assumption | exact within_trans hW (within_of (by decide)) | exact within_group hW .linkRegs (by decide) rfl | exact within_group hW .mblRegs (by decide) rfl

theorem State.sendResponse_frame {W : Nat} {s₀ s : State} (hs : Frame W s₀ s) (c : Cmd) (hW : within 52776759492610 W) :
    Frame W s₀ (State.sendResponse s c) := by
  unfold State.sendResponse
  try dsimp only
  repeat' with_reducible (first | assumption | apply frameRes_next | apply frameOpt_none | apply frameOpt_some | apply State.forEach_frame | apply State.when_frame | apply foldl_frame | apply foldl_fst_frame | apply foldl_snd_frame | intro _ | split | apply State.route_frame | apply frameOpt_get (by assumption) | dsimp only)
  all_goals first | assumption | exact within_trans hW (within_of (by decide)) | exact within_group hW .linkRegs (by decide) rfl | exact within_group hW .mblRegs (by decide) rfl

end Sys2Proof.Machine
end

