-- ==== Sys2Proof/Laws/FrameEvents.lean ====
section
/-!
SUPPORT. What the operations and commands of Machine/Events.lean leave as it was: all parts outside a mask.
-/
set_option Elab.async false
set_option linter.all false
namespace Sys2Proof.Machine
set_option maxRecDepth 2000

theorem State.setSqTail_frame {W : Nat} {s₀ s : State} (hs : Frame W s₀ s) (f i v : Nat) (hW : within 33554432 W) :
    Frame W s₀ (State.setSqTail s f i v) := by
  unfold State.setSqTail
  try dsimp only
  repeat' with_reducible (first | assumption | apply frameRes_next | apply frameOpt_none | apply frameOpt_some | apply State.forEach_frame | apply State.when_frame | apply foldl_frame | apply foldl_fst_frame | apply foldl_snd_frame | intro _ | split | apply State.put_frame | apply frameOpt_get (by assumption) | apply Frame.set_rings | dsimp only)
  all_goals first | assumption | exact within_trans hW (within_of (by decide))

theorem State.setCqHead_frame {W : Nat} {s₀ s : State} (hs : Frame W s₀ s) (f i v : Nat) (hW : within 33554432 W) :
    Frame W s₀ (State.setCqHead s f i v) := by
  unfold State.setCqHead
  try dsimp only
  repeat' with_reducible (first | assumption | apply frameRes_next | apply frameOpt_none | apply frameOpt_some | apply State.forEach_frame | apply State.when_frame | apply foldl_frame | apply foldl_fst_frame | apply foldl_snd_frame | intro _ | split | apply State.put_frame | apply frameOpt_get (by assumption) | apply Frame.set_rings | dsimp only)
  all_goals first | assumption | exact within_trans hW (within_of (by decide))

theorem State.setCqPass_frame {W : Nat} {s₀ s : State} (hs : Frame W s₀ s) (f i v : Nat) (hW : within 33554432 W) :
    Frame W s₀ (State.setCqPass s f i v) := by
  unfold State.setCqPass
  try dsimp only
  repeat' with_reducible (first | assumption | apply frameRes_next | apply frameOpt_none | apply frameOpt_some | apply State.forEach_frame | apply State.when_frame | apply foldl_frame | apply foldl_fst_frame | apply foldl_snd_frame | intro _ | split | apply State.put_frame | apply frameOpt_get (by assumption) | apply Frame.set_rings | dsimp only)
  all_goals first | assumption | exact within_trans hW (within_of (by decide))

theorem State.writeEvent_frame {W : Nat} {s₀ s : State} (hs : Frame W s₀ s) (e : EventRec) (hW : within 35184573415442 W := by first | assumption | exact within_trans (by assumption) (within_of (by decide))) :
    Frame W s₀ (State.writeEvent s e) := by
  unfold State.writeEvent
  try dsimp only
  repeat' with_reducible (first | assumption | apply frameRes_next | apply frameOpt_none | apply frameOpt_some | apply State.forEach_frame | apply State.when_frame | apply foldl_frame | apply foldl_fst_frame | apply foldl_snd_frame | intro _ | split | apply State.emit_frame | apply State.put_frame | apply State.signal_frame | apply frameOpt_get (by assumption) | apply Frame.set_events | dsimp only)
  all_goals first | assumption | exact within_trans hW (within_of (by decide)) | exact within_group hW .linkRegs (by decide) rfl | exact within_group hW .evtRegs (by decide) rfl

theorem State.drainStaging_frame {W : Nat} {s₀ s : State} (hs : Frame W s₀ s) (fuel : Nat) (hW : within 35184573415442 W := by first | assumption | exact within_trans (by assumption) (within_of (by decide))) : Frame W s₀ (State.drainStaging fuel s) := by
  induction fuel generalizing s with
  | zero => exact hs
  | succ fuel ih =>
    unfold State.drainStaging
    repeat' with_reducible (first | assumption | split | apply ih | apply State.writeEvent_frame | apply Frame.set_events)
    all_goals first | assumption | exact within_trans hW (within_of (by decide)) | exact within_group hW .linkRegs (by decide) rfl | exact within_group hW .evtRegs (by decide) rfl

theorem State.stageEvent_frame {W : Nat} {s₀ s : State} (hs : Frame W s₀ s) (e : EventRec) (hW : within 67108880 W) :
    Frame W s₀ (State.stageEvent s e) := by
  unfold State.stageEvent
  try dsimp only
  repeat' with_reducible (first | assumption | apply frameRes_next | apply frameOpt_none | apply frameOpt_some | apply State.forEach_frame | apply State.when_frame | apply foldl_frame | apply foldl_fst_frame | apply foldl_snd_frame | intro _ | split | apply State.incSat_frame | apply frameOpt_get (by assumption) | apply Frame.set_events | dsimp only)
  all_goals first | assumption | exact within_trans hW (within_of (by decide)) | exact within_group hW .evtRegs (by decide) rfl

theorem execEventRecord_frame {W : Nat} {s₀ s : State} (hs : Frame W s₀ s) (hW : within 52776759492626 W) :
    FrameRes W s₀ (execEventRecord s) := by
  unfold execEventRecord
  try dsimp only
  repeat' with_reducible (first | assumption | apply frameRes_next | apply frameOpt_none | apply frameOpt_some | apply State.forEach_frame | apply State.when_frame | apply foldl_frame | apply foldl_fst_frame | apply foldl_snd_frame | intro _ | split | apply State.sendEventUp_frame | apply State.writeEvent_frame | apply State.stageEvent_frame | apply frameOpt_get (by assumption) | apply Frame.set_events | dsimp only)
  all_goals first | assumption | exact within_trans hW (within_of (by decide)) | exact within_group hW .linkRegs (by decide) rfl | exact within_group hW .evtRegs (by decide) rfl | exact within_group hW .mblRegs (by decide) rfl

theorem execEventsLost_frame {W : Nat} {s₀ s : State} (hs : Frame W s₀ s) (hW : within 35184573415442 W) :
    FrameRes W s₀ (execEventsLost s) := by
  unfold execEventsLost
  try dsimp only
  repeat' with_reducible (first | assumption | apply frameRes_next | apply frameOpt_none | apply frameOpt_some | apply State.forEach_frame | apply State.when_frame | apply foldl_frame | apply foldl_fst_frame | apply foldl_snd_frame | intro _ | split | apply State.post_frame | apply State.writeEvent_frame | apply State.drainStaging_frame | apply frameOpt_get (by assumption) | apply Frame.set_events | dsimp only)
  all_goals first | assumption | exact within_trans hW (within_of (by decide)) | exact within_group hW .linkRegs (by decide) rfl | exact within_group hW .evtRegs (by decide) rfl

theorem execEvtQHeadDoorbell_frame {W : Nat} {s₀ s : State} (hs : Frame W s₀ s) (shape : WriteShape) (value : Word) (hW : within 35184573415478 W) :
    FrameRes W s₀ (execEvtQHeadDoorbell shape value s) := by
  unfold execEvtQHeadDoorbell
  try dsimp only
  repeat' with_reducible (first | assumption | apply frameRes_next | apply frameOpt_none | apply frameOpt_some | apply State.forEach_frame | apply State.when_frame | apply foldl_frame | apply foldl_fst_frame | apply foldl_snd_frame | intro _ | split | apply State.wakeLink_frame | apply State.poisonedWrite_frame | apply State.incSat_frame | apply State.logAer_frame | apply State.put_frame | apply State.drainStaging_frame | apply frameOpt_get (by assumption) | apply Frame.set_events | dsimp only)
  all_goals first | assumption | exact within_trans hW (within_of (by decide)) | exact within_group hW .linkRegs (by decide) rfl | exact within_group hW .hifRegs (by decide) rfl | exact within_group hW .evtRegs (by decide) rfl | exact within_group hW .ringRegs (by decide) rfl

theorem execEvtQCfgWrite_frame {W : Nat} {s₀ s : State} (hs : Frame W s₀ s) (value : Word) (hW : within 35184573415442 W) :
    FrameRes W s₀ (execEvtQCfgWrite value s) := by
  unfold execEvtQCfgWrite
  try dsimp only
  repeat' with_reducible (first | assumption | apply frameRes_next | apply frameOpt_none | apply frameOpt_some | apply State.forEach_frame | apply State.when_frame | apply foldl_frame | apply foldl_fst_frame | apply foldl_snd_frame | intro _ | split | apply State.setFlag_frame | apply State.put_frame | apply State.drainStaging_frame | apply frameOpt_get (by assumption) | apply Frame.set_events | dsimp only)
  all_goals first | assumption | exact within_trans hW (within_of (by decide)) | exact within_group hW .linkRegs (by decide) rfl | exact within_group hW .evtRegs (by decide) rfl

theorem execMsixUnmask_frame {W : Nat} {s₀ s : State} (hs : Frame W s₀ s) (f : Fin 4) (vector : Fin 64) (hW : within 35184573415426 W) :
    FrameRes W s₀ (execMsixUnmask f vector s) := by
  unfold execMsixUnmask
  try dsimp only
  repeat' with_reducible (first | assumption | apply frameRes_next | apply frameOpt_none | apply frameOpt_some | apply State.forEach_frame | apply State.when_frame | apply foldl_frame | apply foldl_fst_frame | apply foldl_snd_frame | intro _ | split | apply State.setPendingBit_frame | apply State.sendMessage_frame | apply frameOpt_get (by assumption) | apply Frame.set_pcie | dsimp only)
  all_goals first | assumption | exact within_trans hW (within_of (by decide)) | exact within_group hW .linkRegs (by decide) rfl

theorem execVectorModTimeout_frame {W : Nat} {s₀ s : State} (hs : Frame W s₀ s) (f : Fin 4) (vector : Fin 64) (hW : within 35184573415426 W) :
    FrameRes W s₀ (execVectorModTimeout f vector s) := by
  unfold execVectorModTimeout
  try dsimp only
  repeat' with_reducible (first | assumption | apply frameRes_next | apply frameOpt_none | apply frameOpt_some | apply State.forEach_frame | apply State.when_frame | apply foldl_frame | apply foldl_fst_frame | apply foldl_snd_frame | intro _ | split | apply State.sendMessage_frame | apply frameOpt_get (by assumption) | dsimp only)
  all_goals first | assumption | exact within_trans hW (within_of (by decide)) | exact within_group hW .linkRegs (by decide) rfl

theorem execClearAll_frame {W : Nat} {s₀ s : State} (hs : Frame W s₀ s) (hW : within 67171204 W := by first | assumption | exact within_trans (by assumption) (within_of (by decide))) :
    FrameRes W s₀ (execClearAll s) := by
  apply frameRes_next
  have hp : Frame W s₀ { s with regs := s.regs.filter (fun e => !counterFields.contains (e.1 % 1024)) } := by
    apply Frame.purge hs
    intro f hf v
    by_cases c : counterFields.contains (f.key % 1024) = true
    · exfalso
      have e : f.key % 1024 = f.id % 1024 := by unfold Fld.key; omega
      have hall : ∀ i ∈ counterFields, (67171204 : Nat).testBit (Fld.group ⟨i, 0, 0, 0⟩).idx = true := by decide
      have k := hall _ (List.contains_iff_mem.mp c)
      rw [e, Fld.group_mod] at k
      have := within_bit hW _ k
      rw [show (Fld.group ⟨f.id, 0, 0, 0⟩) = f.group from rfl] at this
      rw [this] at hf
      cases hf
    · simpa using c
  exact Frame.set_events hp _ (within_trans hW (within_of (by decide)))

theorem State.completionCounts_frame {W : Nat} {s₀ s : State} (hs : Frame W s₀ s) (c : Cmd) (hW : within 67109248 W) :
    Frame W s₀ (State.completionCounts s c) := by
  unfold State.completionCounts
  try dsimp only
  repeat' with_reducible (first | assumption | apply frameRes_next | apply frameOpt_none | apply frameOpt_some | apply State.forEach_frame | apply State.when_frame | apply foldl_frame | apply foldl_fst_frame | apply foldl_snd_frame | intro _ | split | apply State.count_frame | apply State.post_frame | apply frameOpt_get (by assumption) | dsimp only)
  all_goals first | assumption | exact within_trans hW (within_of (by decide)) | exact within_group hW .cchRegs (by decide) rfl | exact within_group hW .cipRegs (by decide) rfl

theorem State.releaseAborts_frame {W : Nat} {s₀ s : State} (hs : Frame W s₀ s) (h : Nat) (hW : within 1107296256 W) :
    Frame W s₀ (State.releaseAborts s h) := by
  unfold State.releaseAborts
  try dsimp only
  repeat' with_reducible (first | assumption | apply frameRes_next | apply frameOpt_none | apply frameOpt_some | apply State.forEach_frame | apply State.when_frame | apply foldl_frame | apply foldl_fst_frame | apply foldl_snd_frame | intro _ | split | apply State.finish_frame | apply frameOpt_get (by assumption) | dsimp only)
  all_goals first | assumption | exact within_trans hW (within_of (by decide))

theorem execCompletionRecord_frame {W : Nat} {s₀ s : State} (hs : Frame W s₀ s) (f : Fin 4) (ring : Fin 32) (hW : within 52777866789282 W) :
    FrameRes W s₀ (execCompletionRecord f ring s) := by
  unfold execCompletionRecord
  try dsimp only
  repeat' with_reducible (first | assumption | apply frameRes_next | apply frameOpt_none | apply frameOpt_some | apply State.forEach_frame | apply State.when_frame | apply foldl_frame | apply foldl_fst_frame | apply foldl_snd_frame | intro _ | split | apply State.completionCounts_frame | apply State.sendResponse_frame | apply State.dropCmd_frame | apply State.releaseAborts_frame | apply State.emit_frame | apply State.put_frame | apply State.setCqPass_frame | apply State.signal_frame | apply frameOpt_get (by assumption) | dsimp only)
  all_goals first | assumption | exact within_trans hW (within_of (by decide)) | exact within_group hW .linkRegs (by decide) rfl | exact within_group hW .ringRegs (by decide) rfl | exact within_group hW .cchRegs (by decide) rfl | exact within_group hW .cipRegs (by decide) rfl | exact within_group hW .mblRegs (by decide) rfl

end Sys2Proof.Machine
end

