-- ==== Sys2Proof/Laws/FrameRings.lean ====
section
/-!
SUPPORT. What the operations and commands of Machine/Rings.lean leave as it was: all parts outside a mask.
-/
set_option Elab.async false
set_option linter.all false
namespace Sys2Proof.Machine
set_option maxRecDepth 2000

theorem State.sqError_frame {W : Nat} {s₀ s : State} (hs : Frame W s₀ s) (f i code : Nat) (hW : within 67108896 W) :
    Frame W s₀ (State.sqError s f i code) := by
  unfold State.sqError
  try dsimp only
  repeat' with_reducible (first | assumption | apply frameRes_next | apply frameOpt_none | apply frameOpt_some | apply State.forEach_frame | apply State.when_frame | apply foldl_frame | apply foldl_fst_frame | apply foldl_snd_frame | intro _ | split | apply State.put_frame | apply State.raise_frame | apply frameOpt_get (by assumption) | dsimp only)
  all_goals first | assumption | exact within_trans hW (within_of (by decide)) | exact within_group hW .ringRegs (by decide) rfl

theorem State.cqError_frame {W : Nat} {s₀ s : State} (hs : Frame W s₀ s) (f i code : Nat) (hW : within 67108896 W) :
    Frame W s₀ (State.cqError s f i code) := by
  unfold State.cqError
  try dsimp only
  repeat' with_reducible (first | assumption | apply frameRes_next | apply frameOpt_none | apply frameOpt_some | apply State.forEach_frame | apply State.when_frame | apply foldl_frame | apply foldl_fst_frame | apply foldl_snd_frame | intro _ | split | apply State.put_frame | apply State.raise_frame | apply frameOpt_get (by assumption) | dsimp only)
  all_goals first | assumption | exact within_trans hW (within_of (by decide)) | exact within_group hW .ringRegs (by decide) rfl

theorem State.doorbellBlocked_frame {W : Nat} {s₀ s : State} (hs : Frame W s₀ s) (f i off : Nat) (shape : WriteShape) (hW : within 201326628 W) :
    FrameOpt W s₀ (State.doorbellBlocked s f i off shape) := by
  unfold State.doorbellBlocked
  try dsimp only
  repeat' with_reducible (first | assumption | apply frameRes_next | apply frameOpt_none | apply frameOpt_some | apply State.forEach_frame | apply State.when_frame | apply foldl_frame | apply foldl_fst_frame | apply foldl_snd_frame | intro _ | split | apply State.poisonedWrite_frame | apply State.incSat_frame | apply State.logAer_frame | apply frameOpt_get (by assumption) | dsimp only)
  all_goals first | assumption | exact within_trans hW (within_of (by decide)) | exact within_group hW .hifRegs (by decide) rfl | exact within_group hW .ringRegs (by decide) rfl

theorem execSqTailDoorbell_frame {W : Nat} {s₀ s : State} (hs : Frame W s₀ s) (f : Fin 4) (ring : Fin 32) (shape : WriteShape) (value : Word) (hW : within 35184606969894 W) :
    FrameRes W s₀ (execSqTailDoorbell f ring shape value s) := by
  unfold execSqTailDoorbell
  try dsimp only
  repeat' with_reducible (first | assumption | apply frameRes_next | apply frameOpt_none | apply frameOpt_some | apply State.forEach_frame | apply State.when_frame | apply foldl_frame | apply foldl_fst_frame | apply foldl_snd_frame | intro _ | split | apply State.wakeLink_frame | apply State.doorbellBlocked_frame | apply State.sqError_frame | apply State.put_frame | apply State.setSqTail_frame | apply frameOpt_get (by assumption) | dsimp only)
  all_goals first | assumption | exact within_trans hW (within_of (by decide)) | exact within_group hW .linkRegs (by decide) rfl | exact within_group hW .hifRegs (by decide) rfl | exact within_group hW .ringRegs (by decide) rfl

theorem execCqHeadDoorbell_frame {W : Nat} {s₀ s : State} (hs : Frame W s₀ s) (f : Fin 4) (ring : Fin 32) (shape : WriteShape) (value : Word) (hW : within 35184606969894 W) :
    FrameRes W s₀ (execCqHeadDoorbell f ring shape value s) := by
  unfold execCqHeadDoorbell
  try dsimp only
  repeat' with_reducible (first | assumption | apply frameRes_next | apply frameOpt_none | apply frameOpt_some | apply State.forEach_frame | apply State.when_frame | apply foldl_frame | apply foldl_fst_frame | apply foldl_snd_frame | intro _ | split | apply State.wakeLink_frame | apply State.doorbellBlocked_frame | apply State.cqError_frame | apply State.setCqHead_frame | apply frameOpt_get (by assumption) | dsimp only)
  all_goals first | assumption | exact within_trans hW (within_of (by decide)) | exact within_group hW .linkRegs (by decide) rfl | exact within_group hW .hifRegs (by decide) rfl | exact within_group hW .ringRegs (by decide) rfl

theorem execSqCfgWrite_frame {W : Nat} {s₀ s : State} (hs : Frame W s₀ s) (f : Fin 4) (ring : Fin 32) (value : Word) (hW : within 33554464 W) :
    FrameRes W s₀ (execSqCfgWrite f ring value s) := by
  unfold execSqCfgWrite
  try dsimp only
  repeat' with_reducible (first | assumption | apply frameRes_next | apply frameOpt_none | apply frameOpt_some | apply State.forEach_frame | apply State.when_frame | apply foldl_frame | apply foldl_fst_frame | apply foldl_snd_frame | intro _ | split | apply State.setFlag_frame | apply State.put_frame | apply State.setSqTail_frame | apply frameOpt_get (by assumption) | dsimp only)
  all_goals first | assumption | exact within_trans hW (within_of (by decide)) | exact within_group hW .ringRegs (by decide) rfl

theorem execCqCfgWrite_frame {W : Nat} {s₀ s : State} (hs : Frame W s₀ s) (f : Fin 4) (ring : Fin 32) (value : Word) (hW : within 100663328 W) :
    FrameRes W s₀ (execCqCfgWrite f ring value s) := by
  unfold execCqCfgWrite
  try dsimp only
  repeat' with_reducible (first | assumption | apply frameRes_next | apply frameOpt_none | apply frameOpt_some | apply State.forEach_frame | apply State.when_frame | apply foldl_frame | apply foldl_fst_frame | apply foldl_snd_frame | intro _ | split | apply State.cqError_frame | apply State.put_frame | apply State.setCqHead_frame | apply State.setCqPass_frame | apply frameOpt_get (by assumption) | dsimp only)
  all_goals first | assumption | exact within_trans hW (within_of (by decide)) | exact within_group hW .ringRegs (by decide) rfl

theorem State.refillCredits_frame {W : Nat} {s₀ s : State} (hs : Frame W s₀ s) (hW : within 33554432 W) :
    Frame W s₀ (State.refillCredits s) := by
  unfold State.refillCredits
  try dsimp only
  repeat' with_reducible (first | assumption | apply frameRes_next | apply frameOpt_none | apply frameOpt_some | apply State.forEach_frame | apply State.when_frame | apply foldl_frame | apply foldl_fst_frame | apply foldl_snd_frame | intro _ | split | apply State.put_frame | apply frameOpt_get (by assumption) | apply Frame.set_rings | dsimp only)
  all_goals first | assumption | exact within_trans hW (within_of (by decide))

theorem execDescriptorFetch_frame {W : Nat} {s₀ s : State} (hs : Frame W s₀ s) (f : Fin 4) (ring : Fin 32) (hW : within 35184877502562 W) :
    FrameRes W s₀ (execDescriptorFetch f ring s) := by
  unfold execDescriptorFetch
  try dsimp only
  repeat' with_reducible (first | assumption | apply frameRes_next | apply frameOpt_none | apply frameOpt_some | apply State.forEach_frame | apply State.when_frame | apply foldl_frame | apply foldl_fst_frame | apply foldl_snd_frame | intro _ | split | apply State.refillCredits_frame | apply State.put_frame | apply State.setCmd_frame | apply State.issueRead_frame | apply frameOpt_get (by assumption) | apply Frame.set_rings | dsimp only)
  all_goals first | assumption | exact within_trans hW (within_of (by decide)) | exact within_group hW .linkRegs (by decide) rfl | exact within_group hW .ringRegs (by decide) rfl | exact within_group hW .memRegs (by decide) rfl

theorem State.fetchFailed_frame {W : Nat} {s₀ s : State} (hs : Frame W s₀ s) (h : Nat) (hW : within 1174405152 W) :
    Frame W s₀ (State.fetchFailed s h) := by
  unfold State.fetchFailed
  try dsimp only
  repeat' with_reducible (first | assumption | apply frameRes_next | apply frameOpt_none | apply frameOpt_some | apply State.forEach_frame | apply State.when_frame | apply foldl_frame | apply foldl_fst_frame | apply foldl_snd_frame | intro _ | split | apply State.dropCmd_frame | apply State.put_frame | apply State.sqError_frame | apply frameOpt_get (by assumption) | dsimp only)
  all_goals first | assumption | exact within_trans hW (within_of (by decide)) | exact within_group hW .ringRegs (by decide) rfl

theorem State.readSegment_frame {W : Nat} {s₀ s : State} (hs : Frame W s₀ s) (h : Nat) (e : Elem) (dst : Bool) (hW : within 35184877502530 W) :
    Frame W s₀ (State.readSegment s h e dst) := by
  unfold State.readSegment
  try dsimp only
  repeat' with_reducible (first | assumption | apply frameRes_next | apply frameOpt_none | apply frameOpt_some | apply State.forEach_frame | apply State.when_frame | apply foldl_frame | apply foldl_fst_frame | apply foldl_snd_frame | intro _ | split | apply State.setCmd_frame | apply State.issueRead_frame | apply frameOpt_get (by assumption) | dsimp only)
  all_goals first | assumption | exact within_trans hW (within_of (by decide)) | exact within_group hW .linkRegs (by decide) rfl | exact within_group hW .memRegs (by decide) rfl

theorem State.acceptLists_frame {W : Nat} {s₀ s : State} (hs : Frame W s₀ s) (h : Nat) (hW : within 45011225837250 W) :
    Frame W s₀ (State.acceptLists s h) := by
  unfold State.acceptLists
  try dsimp only
  repeat' with_reducible (first | assumption | apply frameRes_next | apply frameOpt_none | apply frameOpt_some | apply State.forEach_frame | apply State.when_frame | apply foldl_frame | apply foldl_fst_frame | apply foldl_snd_frame | intro _ | split | apply State.calibrate_frame | apply State.refuse_frame | apply State.setCmd_frame | apply frameOpt_get (by assumption) | dsimp only)
  all_goals first | assumption | exact within_trans hW (within_of (by decide)) | exact within_group hW .linkRegs (by decide) rfl | exact within_group hW .memRegs (by decide) rfl | exact within_group hW .cchRegs (by decide) rfl | exact within_group hW .srvRegs (by decide) rfl | exact within_group hW .spnRegs (by decide) rfl | exact within_group hW .motRegs (by decide) rfl | exact within_group hW .rchRegs (by decide) rfl | exact within_group hW .recRegs (by decide) rfl | exact within_group hW .calRegs (by decide) rfl

theorem execAcceptance_frame {W : Nat} {s₀ s : State} (hs : Frame W s₀ s) (h : Nat) (hW : within 45011225837250 W) :
    FrameRes W s₀ (execAcceptance h s) := by
  unfold execAcceptance
  try dsimp only
  repeat' with_reducible (first | assumption | apply frameRes_next | apply frameOpt_none | apply frameOpt_some | apply State.forEach_frame | apply State.when_frame | apply foldl_frame | apply foldl_fst_frame | apply foldl_snd_frame | intro _ | split | apply State.refuse_frame | apply State.readSegment_frame | apply State.setCmd_frame | apply State.modCmd_frame | apply State.acceptLists_frame | apply frameOpt_get (by assumption) | dsimp only)
  all_goals first | assumption | exact within_trans hW (within_of (by decide)) | exact within_group hW .linkRegs (by decide) rfl | exact within_group hW .memRegs (by decide) rfl | exact within_group hW .cchRegs (by decide) rfl | exact within_group hW .srvRegs (by decide) rfl | exact within_group hW .spnRegs (by decide) rfl | exact within_group hW .motRegs (by decide) rfl | exact within_group hW .rchRegs (by decide) rfl | exact within_group hW .recRegs (by decide) rfl | exact within_group hW .calRegs (by decide) rfl

theorem execListReadDone_frame {W : Nat} {s₀ s : State} (hs : Frame W s₀ s) (h : Nat) (hW : within 45011225837250 W) :
    FrameRes W s₀ (execListReadDone h s) := by
  unfold execListReadDone
  try dsimp only
  repeat' with_reducible (first | assumption | apply frameRes_next | apply frameOpt_none | apply frameOpt_some | apply State.forEach_frame | apply State.when_frame | apply foldl_frame | apply foldl_fst_frame | apply foldl_snd_frame | intro _ | split | apply State.setCmd_frame | apply State.refuse_frame | apply State.readSegment_frame | apply State.acceptLists_frame | apply frameOpt_get (by assumption) | dsimp only)
  all_goals first | assumption | exact within_trans hW (within_of (by decide)) | exact within_group hW .linkRegs (by decide) rfl | exact within_group hW .memRegs (by decide) rfl | exact within_group hW .cchRegs (by decide) rfl | exact within_group hW .srvRegs (by decide) rfl | exact within_group hW .spnRegs (by decide) rfl | exact within_group hW .motRegs (by decide) rfl | exact within_group hW .rchRegs (by decide) rfl | exact within_group hW .recRegs (by decide) rfl | exact within_group hW .calRegs (by decide) rfl

theorem State.enqueue_frame {W : Nat} {s₀ s : State} (hs : Frame W s₀ s) (h q : Nat) (hW : within 33554432 W) :
    Frame W s₀ (State.enqueue s h q) := by
  unfold State.enqueue
  try dsimp only
  repeat' with_reducible (first | assumption | apply frameRes_next | apply frameOpt_none | apply frameOpt_some | apply State.forEach_frame | apply State.when_frame | apply foldl_frame | apply foldl_fst_frame | apply foldl_snd_frame | intro _ | split | apply State.setCmd_frame | apply frameOpt_get (by assumption) | apply Frame.set_rings | dsimp only)
  all_goals first | assumption | exact within_trans hW (within_of (by decide))

theorem State.bindAtDispatch_frame {W : Nat} {s₀ s : State} (hs : Frame W s₀ s) (h : Nat) (hW : within 45011225837250 W) :
    Frame W s₀ (State.bindAtDispatch s h) := by
  unfold State.bindAtDispatch
  try dsimp only
  repeat' with_reducible (first | assumption | apply frameRes_next | apply frameOpt_none | apply frameOpt_some | apply State.forEach_frame | apply State.when_frame | apply foldl_frame | apply foldl_fst_frame | apply foldl_snd_frame | intro _ | split | apply State.load_frame | apply State.bind_frame | apply State.unload_frame | apply State.unbind_frame | apply frameOpt_get (by assumption) | dsimp only)
  all_goals first | assumption | exact within_trans hW (within_of (by decide)) | exact within_group hW .linkRegs (by decide) rfl | exact within_group hW .memRegs (by decide) rfl | exact within_group hW .cchRegs (by decide) rfl | exact within_group hW .srvRegs (by decide) rfl | exact within_group hW .spnRegs (by decide) rfl | exact within_group hW .motRegs (by decide) rfl | exact within_group hW .rchRegs (by decide) rfl | exact within_group hW .recRegs (by decide) rfl | exact within_group hW .calRegs (by decide) rfl

theorem State.grantUp_frame {W : Nat} {s₀ s : State} (hs : Frame W s₀ s) (tag : Nat) (hW : within 52776759492610 W) :
    Frame W s₀ (State.grantUp s tag) := by
  unfold State.grantUp
  try dsimp only
  repeat' with_reducible (first | assumption | apply frameRes_next | apply frameOpt_none | apply frameOpt_some | apply State.forEach_frame | apply State.when_frame | apply foldl_frame | apply foldl_fst_frame | apply foldl_snd_frame | intro _ | split | apply State.route_frame | apply frameOpt_get (by assumption) | apply Frame.set_mbl | dsimp only)
  all_goals first | assumption | exact within_trans hW (within_of (by decide)) | exact within_group hW .linkRegs (by decide) rfl | exact within_group hW .mblRegs (by decide) rfl

theorem State.forward_frame {W : Nat} {s₀ s : State} (hs : Frame W s₀ s) (h : Nat) (hW : within 52777866788866 W) :
    Frame W s₀ (State.forward s h) := by
  unfold State.forward
  try dsimp only
  repeat' with_reducible (first | assumption | apply frameRes_next | apply frameOpt_none | apply frameOpt_some | apply State.forEach_frame | apply State.when_frame | apply foldl_frame | apply foldl_fst_frame | apply foldl_snd_frame | intro _ | split | apply State.refuse_frame | apply State.setCmd_frame | apply State.route_frame | apply State.grantUp_frame | apply frameOpt_get (by assumption) | apply Frame.set_mbl | dsimp only)
  all_goals first | assumption | exact within_trans hW (within_of (by decide)) | exact within_group hW .linkRegs (by decide) rfl | exact within_group hW .mblRegs (by decide) rfl

theorem execDispatch_frame {W : Nat} {s₀ s : State} (hs : Frame W s₀ s) (h : Nat) (hW : within 62603411914434 W) :
    FrameRes W s₀ (execDispatch h s) := by
  unfold execDispatch
  try dsimp only
  repeat' with_reducible (first | assumption | apply frameRes_next | apply frameOpt_none | apply frameOpt_some | apply State.forEach_frame | apply State.when_frame | apply foldl_frame | apply foldl_fst_frame | apply foldl_snd_frame | intro _ | split | apply State.forward_frame | apply State.refuse_frame | apply State.setCmd_frame | apply State.load_frame | apply State.enqueue_frame | apply State.bindAtDispatch_frame | apply frameOpt_get (by assumption) | dsimp only)
  all_goals first | assumption | exact within_trans hW (within_of (by decide)) | exact within_group hW .linkRegs (by decide) rfl | exact within_group hW .memRegs (by decide) rfl | exact within_group hW .cchRegs (by decide) rfl | exact within_group hW .srvRegs (by decide) rfl | exact within_group hW .spnRegs (by decide) rfl | exact within_group hW .motRegs (by decide) rfl | exact within_group hW .rchRegs (by decide) rfl | exact within_group hW .recRegs (by decide) rfl | exact within_group hW .calRegs (by decide) rfl | exact within_group hW .mblRegs (by decide) rfl

theorem State.reserve_frame {W : Nat} {s₀ s : State} (hs : Frame W s₀ s) (c : Cmd) (hW : within 8589934592 W) :
    Frame W s₀ (State.reserve s c) := by
  unfold State.reserve
  try dsimp only
  repeat' with_reducible (first | assumption | apply frameRes_next | apply frameOpt_none | apply frameOpt_some | apply State.forEach_frame | apply State.when_frame | apply foldl_frame | apply foldl_fst_frame | apply foldl_snd_frame | intro _ | split | apply State.setFrontier_frame | apply frameOpt_get (by assumption) | dsimp only)
  all_goals first | assumption | exact within_trans hW (within_of (by decide))

theorem State.admitCmd_frame {W : Nat} {s₀ s : State} (hs : Frame W s₀ s) (h : Nat) (l : Option Lock) (hW : within 33554432 W) :
    Frame W s₀ (State.admitCmd s h l) := by
  unfold State.admitCmd
  try dsimp only
  repeat' with_reducible (first | assumption | apply frameRes_next | apply frameOpt_none | apply frameOpt_some | apply State.forEach_frame | apply State.when_frame | apply foldl_frame | apply foldl_fst_frame | apply foldl_snd_frame | intro _ | split | apply State.takeLock_frame | apply State.modCmd_frame | apply frameOpt_get (by assumption) | dsimp only)
  all_goals first | assumption | exact within_trans hW (within_of (by decide))

theorem execAdmission_frame {W : Nat} {s₀ s : State} (hs : Frame W s₀ s) (q : Fin 9) (hW : within 9697230848 W) :
    FrameRes W s₀ (execAdmission q s) := by
  unfold execAdmission
  try dsimp only
  repeat' with_reducible (first | assumption | apply frameRes_next | apply frameOpt_none | apply frameOpt_some | apply State.forEach_frame | apply State.when_frame | apply foldl_frame | apply foldl_fst_frame | apply foldl_snd_frame | intro _ | split | apply State.refuse_frame | apply State.reserve_frame | apply State.admitCmd_frame | apply frameOpt_get (by assumption) | dsimp only)
  all_goals first | assumption | exact within_trans hW (within_of (by decide))

end Sys2Proof.Machine
end

