-- ==== Sys2Proof/Laws/FrameOutcome.lean ====
section
/-!
SUPPORT. What the operations and commands of Machine/Outcome.lean leave as it was: all parts outside a mask.
-/
set_option Elab.async false
set_option linter.all false
namespace Sys2Proof.Machine
set_option maxRecDepth 2000

theorem State.modSec_frame {W : Nat} {s₀ s : State} (hs : Frame W s₀ s) (e j : Nat) (f : SecWork → SecWork) (hW : within 2147483648 W := by first | assumption | exact within_trans (by assumption) (within_of (by decide))) :
    Frame W s₀ (State.modSec s e j f) := by
  unfold State.modSec
  try dsimp only
  repeat' with_reducible (first | assumption | apply frameRes_next | apply frameOpt_none | apply frameOpt_some | apply State.forEach_frame | apply State.when_frame | apply foldl_frame | apply foldl_fst_frame | apply foldl_snd_frame | intro _ | split | apply State.modWork_frame | apply frameOpt_get (by assumption) | dsimp only)
  all_goals first | assumption | exact within_trans hW (within_of (by decide))

theorem State.armCapture_frame {W : Nat} {s₀ s : State} (hs : Frame W s₀ s) (e j : Nat) (sync inTime : Bool) (hW : within 2147487744 W) :
    Frame W s₀ (State.armCapture s e j sync inTime) := by
  unfold State.armCapture
  try dsimp only
  repeat' with_reducible (first | assumption | apply frameRes_next | apply frameOpt_none | apply frameOpt_some | apply State.forEach_frame | apply State.when_frame | apply foldl_frame | apply foldl_fst_frame | apply foldl_snd_frame | intro _ | split | apply State.modSec_frame | apply State.put_frame | apply frameOpt_get (by assumption) | dsimp only)
  all_goals first | assumption | exact within_trans hW (within_of (by decide)) | exact within_group hW .rchRegs (by decide) rfl

theorem State.releaseImage_frame {W : Nat} {s₀ s : State} (hs : Frame W s₀ s) (e j : Nat) (hW : within 2147487744 W) :
    Frame W s₀ (State.releaseImage s e j) := by
  unfold State.releaseImage
  try dsimp only
  repeat' with_reducible (first | assumption | apply frameRes_next | apply frameOpt_none | apply frameOpt_some | apply State.forEach_frame | apply State.when_frame | apply foldl_frame | apply foldl_fst_frame | apply foldl_snd_frame | intro _ | split | apply State.put_frame | apply State.modSec_frame | apply frameOpt_get (by assumption) | dsimp only)
  all_goals first | assumption | exact within_trans hW (within_of (by decide)) | exact within_group hW .rchRegs (by decide) rfl

theorem State.cancelSector_frame {W : Nat} {s₀ s : State} (hs : Frame W s₀ s) (e j : Nat) (hW : within 2147487744 W) :
    Frame W s₀ (State.cancelSector s e j) := by
  unfold State.cancelSector
  try dsimp only
  repeat' with_reducible (first | assumption | apply frameRes_next | apply frameOpt_none | apply frameOpt_some | apply State.forEach_frame | apply State.when_frame | apply foldl_frame | apply foldl_fst_frame | apply foldl_snd_frame | intro _ | split | apply State.releaseImage_frame | apply State.modSec_frame | apply frameOpt_get (by assumption) | apply Frame.set_decoder | dsimp only)
  all_goals first | assumption | exact within_trans hW (within_of (by decide)) | exact within_group hW .rchRegs (by decide) rfl

theorem State.finalSector_frame {W : Nat} {s₀ s : State} (hs : Frame W s₀ s) (e j : Nat) (st : SecState) (outcome : Nat) (payload : List Nat) (hW : within 20199772224 W) :
    Frame W s₀ (State.finalSector s e j st outcome payload) := by
  unfold State.finalSector
  try dsimp only
  repeat' with_reducible (first | assumption | apply frameRes_next | apply frameOpt_none | apply frameOpt_some | apply State.forEach_frame | apply State.when_frame | apply foldl_frame | apply foldl_fst_frame | apply foldl_snd_frame | intro _ | split | apply State.cancelSector_frame | apply State.modSec_frame | apply State.storeSector_frame | apply State.modEntry_frame | apply State.report_frame | apply frameOpt_get (by assumption) | dsimp only)
  all_goals first | assumption | exact within_trans hW (within_of (by decide)) | exact within_group hW .memRegs (by decide) rfl | exact within_group hW .rchRegs (by decide) rfl

theorem State.confirmSector_frame {W : Nat} {s₀ s : State} (hs : Frame W s₀ s) (e j outcome : Nat) (payload : List Nat) (hW : within 20199772224 W) :
    Frame W s₀ (State.confirmSector s e j outcome payload) := by
  unfold State.confirmSector
  try dsimp only
  repeat' with_reducible (first | assumption | apply frameRes_next | apply frameOpt_none | apply frameOpt_some | apply State.forEach_frame | apply State.when_frame | apply foldl_frame | apply foldl_fst_frame | apply foldl_snd_frame | intro _ | split | apply State.finalSector_frame | apply frameOpt_get (by assumption) | dsimp only)
  all_goals first | assumption | exact within_trans hW (within_of (by decide)) | exact within_group hW .memRegs (by decide) rfl | exact within_group hW .rchRegs (by decide) rfl

theorem State.noteVerified_frame {W : Nat} {s₀ s : State} (hs : Frame W s₀ s) (e : Nat) (hW : within 8589934592 W) :
    Frame W s₀ (State.noteVerified s e) := by
  unfold State.noteVerified
  try dsimp only
  repeat' with_reducible (first | assumption | apply frameRes_next | apply frameOpt_none | apply frameOpt_some | apply State.forEach_frame | apply State.when_frame | apply foldl_frame | apply foldl_fst_frame | apply foldl_snd_frame | intro _ | split | apply State.setRecBlock_frame | apply frameOpt_get (by assumption) | dsimp only)
  all_goals first | assumption | exact within_trans hW (within_of (by decide))

theorem State.settleBlock_frame {W : Nat} {s₀ s : State} (hs : Frame W s₀ s) (e : Nat) (hW : within 35214405406914 W := by first | assumption | exact within_trans (by assumption) (within_of (by decide))) :
    Frame W s₀ (State.settleBlock s e) := by
  unfold State.settleBlock
  try dsimp only
  repeat' with_reducible (first | assumption | apply frameRes_next | apply frameOpt_none | apply frameOpt_some | apply State.forEach_frame | apply State.when_frame | apply foldl_frame | apply foldl_fst_frame | apply foldl_snd_frame | intro _ | split | apply State.finalSector_frame | apply State.noteVerified_frame | apply State.discardWork_frame | apply State.sectorReady_frame | apply frameOpt_get (by assumption) | dsimp only)
  all_goals first | assumption | exact within_trans hW (within_of (by decide)) | exact within_group hW .linkRegs (by decide) rfl | exact within_group hW .memRegs (by decide) rfl | exact within_group hW .cchRegs (by decide) rfl | exact within_group hW .rchRegs (by decide) rfl

theorem State.blockNotBlank_frame {W : Nat} {s₀ s : State} (hs : Frame W s₀ s) (e : Nat) (hW : within 2147483648 W) :
    Frame W s₀ (State.blockNotBlank s e) := by
  unfold State.blockNotBlank
  try dsimp only
  repeat' with_reducible (first | assumption | apply frameRes_next | apply frameOpt_none | apply frameOpt_some | apply State.forEach_frame | apply State.when_frame | apply foldl_frame | apply foldl_fst_frame | apply foldl_snd_frame | intro _ | split | apply State.modWork_frame | apply frameOpt_get (by assumption) | dsimp only)
  all_goals first | assumption | exact within_trans hW (within_of (by decide))

end Sys2Proof.Machine
end

