-- ==== Sys2Proof/Laws/FrameCache.lean ====
section
/-!
SUPPORT. What the operations and commands of Machine/Cache.lean leave as it was: all parts outside a mask.
-/
set_option Elab.async false
set_option linter.all false
namespace Sys2Proof.Machine
set_option maxRecDepth 2000

theorem State.useEntry_frame {W : Nat} {s₀ s : State} (hs : Frame W s₀ s) (h : Nat) (u : BlockUse) (hW : within 570425344 W) :
    Frame W s₀ (State.useEntry s h u) := by
  unfold State.useEntry
  try dsimp only
  repeat' with_reducible (first | assumption | apply frameRes_next | apply frameOpt_none | apply frameOpt_some | apply State.forEach_frame | apply State.when_frame | apply foldl_frame | apply foldl_fst_frame | apply foldl_snd_frame | intro _ | split | apply State.setCmd_frame | apply State.modEntry_frame | apply frameOpt_get (by assumption) | dsimp only)
  all_goals first | assumption | exact within_trans hW (within_of (by decide))

theorem State.serveBlock_frame {W : Nat} {s₀ s : State} (hs : Frame W s₀ s) (h block : Nat) (hW : within 35197225537730 W) :
    Frame W s₀ (State.serveBlock s h block) := by
  unfold State.serveBlock
  try dsimp only
  repeat' with_reducible (first | assumption | apply frameRes_next | apply frameOpt_none | apply frameOpt_some | apply State.forEach_frame | apply State.when_frame | apply foldl_frame | apply foldl_fst_frame | apply foldl_snd_frame | intro _ | split | apply State.offerUnseal_frame | apply State.refillEngines_frame | apply State.tryEndFill_frame | apply frameOpt_get (by assumption) | dsimp only)
  all_goals first | assumption | exact within_trans hW (within_of (by decide)) | exact within_group hW .linkRegs (by decide) rfl | exact within_group hW .memRegs (by decide) rfl | exact within_group hW .cchRegs (by decide) rfl | exact within_group hW .rchRegs (by decide) rfl

theorem State.hitEntry_frame {W : Nat} {s₀ s : State} (hs : Frame W s₀ s) (h block e : Nat) (rescued : Bool) (hW : within 35218700374210 W) :
    Frame W s₀ (State.hitEntry s h block e rescued) := by
  unfold State.hitEntry
  try dsimp only
  repeat' with_reducible (first | assumption | apply frameRes_next | apply frameOpt_none | apply frameOpt_some | apply State.forEach_frame | apply State.when_frame | apply foldl_frame | apply foldl_fst_frame | apply foldl_snd_frame | intro _ | split | apply State.claim_frame | apply State.modWork_frame | apply State.modStation_frame | apply State.useEntry_frame | apply State.serveBlock_frame | apply State.settleBlock_frame | apply frameOpt_get (by assumption) | dsimp only)
  all_goals first | assumption | exact within_trans hW (within_of (by decide)) | exact within_group hW .linkRegs (by decide) rfl | exact within_group hW .memRegs (by decide) rfl | exact within_group hW .cchRegs (by decide) rfl | exact within_group hW .rchRegs (by decide) rfl

theorem State.fillEntry_frame {W : Nat} {s₀ s : State} (hs : Frame W s₀ s) (h block e : Nat) (hW : within 35197225537730 W) :
    Frame W s₀ (State.fillEntry s h block e) := by
  unfold State.fillEntry
  try dsimp only
  repeat' with_reducible (first | assumption | apply frameRes_next | apply frameOpt_none | apply frameOpt_some | apply State.forEach_frame | apply State.when_frame | apply foldl_frame | apply foldl_fst_frame | apply foldl_snd_frame | intro _ | split | apply State.setEntry_frame | apply State.startWork_frame | apply State.touch_frame | apply State.useEntry_frame | apply State.serveBlock_frame | apply frameOpt_get (by assumption) | dsimp only)
  all_goals first | assumption | exact within_trans hW (within_of (by decide)) | exact within_group hW .linkRegs (by decide) rfl | exact within_group hW .memRegs (by decide) rfl | exact within_group hW .cchRegs (by decide) rfl | exact within_group hW .rchRegs (by decide) rfl

theorem State.gatherEntry_frame {W : Nat} {s₀ s : State} (hs : Frame W s₀ s) (h block e : Nat) (hW : within 570425344 W) :
    Frame W s₀ (State.gatherEntry s h block e) := by
  unfold State.gatherEntry
  try dsimp only
  repeat' with_reducible (first | assumption | apply frameRes_next | apply frameOpt_none | apply frameOpt_some | apply State.forEach_frame | apply State.when_frame | apply foldl_frame | apply foldl_fst_frame | apply foldl_snd_frame | intro _ | split | apply State.setEntry_frame | apply State.touch_frame | apply State.useEntry_frame | apply frameOpt_get (by assumption) | dsimp only)
  all_goals first | assumption | exact within_trans hW (within_of (by decide))

theorem State.settleEvictions_frame {W : Nat} {s₀ s : State} (hs : Frame W s₀ s) (hW : within 2751467648 W := by first | assumption | exact within_trans (by assumption) (within_of (by decide))) :
    Frame W s₀ (State.settleEvictions s) := by
  unfold State.settleEvictions
  try dsimp only
  repeat' with_reducible (first | assumption | apply frameRes_next | apply frameOpt_none | apply frameOpt_some | apply State.forEach_frame | apply State.when_frame | apply foldl_frame | apply foldl_fst_frame | apply foldl_snd_frame | intro _ | split | apply State.freeEntry_frame | apply frameOpt_get (by assumption) | dsimp only)
  all_goals first | assumption | exact within_trans hW (within_of (by decide)) | exact within_group hW .cchRegs (by decide) rfl | exact within_group hW .rchRegs (by decide) rfl

theorem State.allocate_frame {W : Nat} {s₀ s : State} (hs : Frame W s₀ s) (who c : Nat) (use : State → Nat → State)
    (hu : ∀ t e, Frame W s₀ t → Frame W s₀ (use t e)) (hW : within 2751467648 W := by first | assumption | exact within_trans (by assumption) (within_of (by decide))) : Frame W s₀ (s.allocate who c use) := by
  have h := State.settleEvictions_frame hs
  unfold State.allocate
  generalize s.settleEvictions = t at h ⊢
  dsimp only
  generalize List.find? _ entryNumbers = o
  cases o with
  | some e =>
    by_cases k : (t.entry e).evictable = true
    · simpa [k] using hu _ _ (State.freeEntry_frame h _)
    · simpa [k] using h
  | none =>
    generalize t.chooseEntry c = o
    cases o with
    | none => exact h
    | some e =>
      by_cases k : (t.entry e).st = .free
      · simpa [k] using hu _ _ h
      · simpa [k] using State.modEntry_frame h _ _

theorem State.waitOn_frame {W : Nat} {s₀ s : State} (hs : Frame W s₀ s) (h e : Nat) (hW : within 536870912 W) :
    Frame W s₀ (State.waitOn s h e) := by
  unfold State.waitOn
  try dsimp only
  repeat' with_reducible (first | assumption | apply frameRes_next | apply frameOpt_none | apply frameOpt_some | apply State.forEach_frame | apply State.when_frame | apply foldl_frame | apply foldl_fst_frame | apply foldl_snd_frame | intro _ | split | apply State.modEntry_frame | apply frameOpt_get (by assumption) | dsimp only)
  all_goals first | assumption | exact within_trans hW (within_of (by decide))

theorem State.rescue_frame {W : Nat} {s₀ s : State} (hs : Frame W s₀ s) (e : Nat) (hW : within 536870912 W) :
    Frame W s₀ (State.rescue s e) := by
  unfold State.rescue
  try dsimp only
  repeat' with_reducible (first | assumption | apply frameRes_next | apply frameOpt_none | apply frameOpt_some | apply State.forEach_frame | apply State.when_frame | apply foldl_frame | apply foldl_fst_frame | apply foldl_snd_frame | intro _ | split | apply State.modEntry_frame | apply frameOpt_get (by assumption) | dsimp only)
  all_goals first | assumption | exact within_trans hW (within_of (by decide))

theorem State.askRead_frame {W : Nat} {s₀ s : State} (hs : Frame W s₀ s) (h block : Nat) (alloc : Bool) (hW : within 35218700374210 W) :
    Frame W s₀ (State.askRead s h block alloc) := by
  unfold State.askRead
  try dsimp only
  repeat' with_reducible (first | assumption | apply frameRes_next | apply frameOpt_none | apply frameOpt_some | apply State.forEach_frame | apply State.when_frame | apply foldl_frame | apply foldl_fst_frame | apply foldl_snd_frame | intro _ | split | apply State.allocate_frame | apply State.fillEntry_frame | apply State.hitEntry_frame | apply State.writeBack_frame | apply State.waitOn_frame | apply State.rescue_frame | apply State.freeEntry_frame | apply frameOpt_get (by assumption) | dsimp only)
  all_goals first | assumption | exact within_trans hW (within_of (by decide)) | exact within_group hW .linkRegs (by decide) rfl | exact within_group hW .memRegs (by decide) rfl | exact within_group hW .cchRegs (by decide) rfl | exact within_group hW .rchRegs (by decide) rfl

theorem State.takeOver_frame {W : Nat} {s₀ s : State} (hs : Frame W s₀ s) (h block e : Nat) (hW : within 2785022080 W) :
    Frame W s₀ (State.takeOver s h block e) := by
  unfold State.takeOver
  try dsimp only
  repeat' with_reducible (first | assumption | apply frameRes_next | apply frameOpt_none | apply frameOpt_some | apply State.forEach_frame | apply State.when_frame | apply foldl_frame | apply foldl_fst_frame | apply foldl_snd_frame | intro _ | split | apply State.count_frame | apply State.discardWork_frame | apply State.setEntry_frame | apply State.touch_frame | apply State.useEntry_frame | apply frameOpt_get (by assumption) | dsimp only)
  all_goals first | assumption | exact within_trans hW (within_of (by decide)) | exact within_group hW .cchRegs (by decide) rfl | exact within_group hW .rchRegs (by decide) rfl

theorem State.askWrite_frame {W : Nat} {s₀ s : State} (hs : Frame W s₀ s) (h block : Nat) (alloc : Bool) (hW : within 3053457600 W) :
    Frame W s₀ (State.askWrite s h block alloc) := by
  unfold State.askWrite
  try dsimp only
  repeat' with_reducible (first | assumption | apply frameRes_next | apply frameOpt_none | apply frameOpt_some | apply State.forEach_frame | apply State.when_frame | apply foldl_frame | apply foldl_fst_frame | apply foldl_snd_frame | intro _ | split | apply State.allocate_frame | apply State.gatherEntry_frame | apply State.writeBack_frame | apply State.waitOn_frame | apply State.rescue_frame | apply State.takeOver_frame | apply State.freeEntry_frame | apply frameOpt_get (by assumption) | dsimp only)
  all_goals first | assumption | exact within_trans hW (within_of (by decide)) | exact within_group hW .memRegs (by decide) rfl | exact within_group hW .cchRegs (by decide) rfl | exact within_group hW .rchRegs (by decide) rfl

theorem State.ask_frame {W : Nat} {s₀ s : State} (hs : Frame W s₀ s) (h block : Nat) (alloc : Bool) (hW : within 35218700374210 W) :
    Frame W s₀ (State.ask s h block alloc) := by
  unfold State.ask
  try dsimp only
  repeat' with_reducible (first | assumption | apply frameRes_next | apply frameOpt_none | apply frameOpt_some | apply State.forEach_frame | apply State.when_frame | apply foldl_frame | apply foldl_fst_frame | apply foldl_snd_frame | intro _ | split | apply State.askWrite_frame | apply State.askRead_frame | apply frameOpt_get (by assumption) | dsimp only)
  all_goals first | assumption | exact within_trans hW (within_of (by decide)) | exact within_group hW .linkRegs (by decide) rfl | exact within_group hW .memRegs (by decide) rfl | exact within_group hW .cchRegs (by decide) rfl | exact within_group hW .rchRegs (by decide) rfl

theorem State.wakeWaiters_frame {W : Nat} {s₀ s : State} (hs : Frame W s₀ s) (e : Nat) (hW : within 35218700374210 W) :
    Frame W s₀ (State.wakeWaiters s e) := by
  unfold State.wakeWaiters
  try dsimp only
  repeat' with_reducible (first | assumption | apply frameRes_next | apply frameOpt_none | apply frameOpt_some | apply State.forEach_frame | apply State.when_frame | apply foldl_frame | apply foldl_fst_frame | apply foldl_snd_frame | intro _ | split | apply State.rescue_frame | apply State.ask_frame | apply State.hitEntry_frame | apply frameOpt_get (by assumption) | dsimp only)
  all_goals first | assumption | exact within_trans hW (within_of (by decide)) | exact within_group hW .linkRegs (by decide) rfl | exact within_group hW .memRegs (by decide) rfl | exact within_group hW .cchRegs (by decide) rfl | exact within_group hW .rchRegs (by decide) rfl

theorem State.afterGather_frame {W : Nat} {s₀ s : State} (hs : Frame W s₀ s) (h : Nat) (hW : within 12719231168 W) :
    Frame W s₀ (State.afterGather s h) := by
  unfold State.afterGather
  try dsimp only
  repeat' with_reducible (first | assumption | apply frameRes_next | apply frameOpt_none | apply frameOpt_some | apply State.forEach_frame | apply State.when_frame | apply foldl_frame | apply foldl_fst_frame | apply foldl_snd_frame | intro _ | split | apply State.closeBlock_frame | apply State.modCmd_frame | apply State.tryEndWrite_frame | apply frameOpt_get (by assumption) | dsimp only)
  all_goals first | assumption | exact within_trans hW (within_of (by decide)) | exact within_group hW .memRegs (by decide) rfl | exact within_group hW .cchRegs (by decide) rfl | exact within_group hW .rchRegs (by decide) rfl

theorem State.issueSource_frame {W : Nat} {s₀ s : State} (hs : Frame W s₀ s) (h : Nat) (p : ReadFor) (limit fuel : Nat) (hW : within 35184877502530 W := by first | assumption | exact within_trans (by assumption) (within_of (by decide))) :
    Frame W s₀ (State.issueSource h p limit fuel s) := by
  induction fuel generalizing s with
  | zero => exact hs
  | succ fuel ih =>
    unfold State.issueSource
    dsimp only
    repeat' with_reducible (first | assumption | split | apply ih | apply State.modCmd_frame | apply State.issueRead_frame)
    all_goals first | assumption | exact within_trans hW (within_of (by decide)) | exact within_group hW .linkRegs (by decide) rfl | exact within_group hW .memRegs (by decide) rfl

theorem State.grantBlock_frame {W : Nat} {s₀ s : State} (hs : Frame W s₀ s) (h tag : Nat) (hW : within 52776759492610 W) :
    Frame W s₀ (State.grantBlock s h tag) := by
  unfold State.grantBlock
  try dsimp only
  repeat' with_reducible (first | assumption | apply frameRes_next | apply frameOpt_none | apply frameOpt_some | apply State.forEach_frame | apply State.when_frame | apply foldl_frame | apply foldl_fst_frame | apply foldl_snd_frame | intro _ | split | apply State.route_frame | apply frameOpt_get (by assumption) | apply Frame.set_mbl | dsimp only)
  all_goals first | assumption | exact within_trans hW (within_of (by decide)) | exact within_group hW .linkRegs (by decide) rfl | exact within_group hW .mblRegs (by decide) rfl

theorem State.pump_frame {W : Nat} {s₀ s : State} (hs : Frame W s₀ s) (h : Nat) (hW : within 52777063579714 W) :
    Frame W s₀ (State.pump s h) := by
  unfold State.pump
  try dsimp only
  repeat' with_reducible (first | assumption | apply frameRes_next | apply frameOpt_none | apply frameOpt_some | apply State.forEach_frame | apply State.when_frame | apply foldl_frame | apply foldl_fst_frame | apply foldl_snd_frame | intro _ | split | apply State.issueSource_frame | apply State.grantBlock_frame | apply frameOpt_get (by assumption) | dsimp only)
  all_goals first | assumption | exact within_trans hW (within_of (by decide)) | exact within_group hW .linkRegs (by decide) rfl | exact within_group hW .memRegs (by decide) rfl | exact within_group hW .mblRegs (by decide) rfl

theorem State.deliverSector_frame {W : Nat} {s₀ s : State} (hs : Frame W s₀ s) (h : Nat) (user : List Nat) (poison : Bool) (hW : within 52789411614914 W) :
    Frame W s₀ (State.deliverSector s h user poison) := by
  unfold State.deliverSector
  try dsimp only
  repeat' with_reducible (first | assumption | apply frameRes_next | apply frameOpt_none | apply frameOpt_some | apply State.forEach_frame | apply State.when_frame | apply foldl_frame | apply foldl_fst_frame | apply foldl_snd_frame | intro _ | split | apply State.storeSector_frame | apply State.setCmd_frame | apply State.touch_frame | apply State.tryCommit_frame | apply State.refillEngines_frame | apply State.afterGather_frame | apply State.pump_frame | apply frameOpt_get (by assumption) | dsimp only)
  all_goals first | assumption | exact within_trans hW (within_of (by decide)) | exact within_group hW .linkRegs (by decide) rfl | exact within_group hW .memRegs (by decide) rfl | exact within_group hW .cchRegs (by decide) rfl | exact within_group hW .rchRegs (by decide) rfl | exact within_group hW .mblRegs (by decide) rfl

theorem State.gatherBytes_frame {W : Nat} {s₀ s : State} (hs : Frame W s₀ s) (h off : Nat) (bytes : List Nat) (poison : Bool) (hW : within 52789411614914 W) :
    Frame W s₀ (State.gatherBytes s h off bytes poison) := by
  unfold State.gatherBytes
  try dsimp only
  repeat' with_reducible (first | assumption | apply frameRes_next | apply frameOpt_none | apply frameOpt_some | apply State.forEach_frame | apply State.when_frame | apply foldl_frame | apply foldl_fst_frame | apply foldl_snd_frame | intro _ | split | apply State.put_frame | apply State.setCmd_frame | apply State.deliverSector_frame | apply frameOpt_get (by assumption) | dsimp only)
  all_goals first | assumption | exact within_trans hW (within_of (by decide)) | exact within_group hW .linkRegs (by decide) rfl | exact within_group hW .memRegs (by decide) rfl | exact within_group hW .cchRegs (by decide) rfl | exact within_group hW .rchRegs (by decide) rfl | exact within_group hW .mblRegs (by decide) rfl

theorem State.pumpJob_frame {W : Nat} {s₀ s : State} (hs : Frame W s₀ s) (h : Nat) (hW : within 35184877502530 W) :
    Frame W s₀ (State.pumpJob s h) := by
  unfold State.pumpJob
  try dsimp only
  repeat' with_reducible (first | assumption | apply frameRes_next | apply frameOpt_none | apply frameOpt_some | apply State.forEach_frame | apply State.when_frame | apply foldl_frame | apply foldl_fst_frame | apply foldl_snd_frame | intro _ | split | apply State.issueSource_frame | apply frameOpt_get (by assumption) | dsimp only)
  all_goals first | assumption | exact within_trans hW (within_of (by decide)) | exact within_group hW .linkRegs (by decide) rfl | exact within_group hW .memRegs (by decide) rfl

theorem State.jobBytes_frame {W : Nat} {s₀ s : State} (hs : Frame W s₀ s) (h off : Nat) (bytes : List Nat) (hW : within 35197225537730 W) :
    Frame W s₀ (State.jobBytes s h off bytes) := by
  unfold State.jobBytes
  try dsimp only
  repeat' with_reducible (first | assumption | apply frameRes_next | apply frameOpt_none | apply frameOpt_some | apply State.forEach_frame | apply State.when_frame | apply foldl_frame | apply foldl_fst_frame | apply foldl_snd_frame | intro _ | split | apply State.put_frame | apply State.setCmd_frame | apply State.addWork_frame | apply State.refillEngines_frame | apply State.pumpJob_frame | apply frameOpt_get (by assumption) | apply Frame.set_cipher | dsimp only)
  all_goals first | assumption | exact within_trans hW (within_of (by decide)) | exact within_group hW .linkRegs (by decide) rfl | exact within_group hW .memRegs (by decide) rfl | exact within_group hW .cchRegs (by decide) rfl | exact within_group hW .rchRegs (by decide) rfl

theorem State.tryEndJob_frame {W : Nat} {s₀ s : State} (hs : Frame W s₀ s) (h : Nat) (hW : within 3858763904 W) :
    Frame W s₀ (State.tryEndJob s h) := by
  unfold State.tryEndJob
  try dsimp only
  repeat' with_reducible (first | assumption | apply frameRes_next | apply frameOpt_none | apply frameOpt_some | apply State.forEach_frame | apply State.when_frame | apply foldl_frame | apply foldl_fst_frame | apply foldl_snd_frame | intro _ | split | apply State.endCmd_frame | apply frameOpt_get (by assumption) | dsimp only)
  all_goals first | assumption | exact within_trans hW (within_of (by decide)) | exact within_group hW .cchRegs (by decide) rfl | exact within_group hW .rchRegs (by decide) rfl

theorem State.noteDelivered_frame {W : Nat} {s₀ s : State} (hs : Frame W s₀ s) (h k : Nat) (failed : Bool) (outcome : Nat) (poison : Bool) (hW : within 33554432 W) :
    Frame W s₀ (State.noteDelivered s h k failed outcome poison) := by
  unfold State.noteDelivered
  try dsimp only
  repeat' with_reducible (first | assumption | apply frameRes_next | apply frameOpt_none | apply frameOpt_some | apply State.forEach_frame | apply State.when_frame | apply foldl_frame | apply foldl_fst_frame | apply foldl_snd_frame | intro _ | split | apply State.modCmd_frame | apply State.put_frame | apply frameOpt_get (by assumption) | dsimp only)
  all_goals first | assumption | exact within_trans hW (within_of (by decide))

theorem State.moveGrant_frame {W : Nat} {s₀ s : State} (hs : Frame W s₀ s) (g : Grant) (n : Nat) (hW : within 17592186044416 W) :
    Frame W s₀ (State.moveGrant s g n) := by
  unfold State.moveGrant
  try dsimp only
  repeat' with_reducible (first | assumption | apply frameRes_next | apply frameOpt_none | apply frameOpt_some | apply State.forEach_frame | apply State.when_frame | apply foldl_frame | apply foldl_fst_frame | apply foldl_snd_frame | intro _ | split | apply frameOpt_get (by assumption) | apply Frame.set_mbl | dsimp only)
  all_goals first | assumption | exact within_trans hW (within_of (by decide))

theorem State.sendData_frame {W : Nat} {s₀ s : State} (hs : Frame W s₀ s) (dest : Nat) (g : Grant) (bytes : List Nat) (poison : Bool) (hW : within 52776759492610 W := by first | assumption | exact within_trans (by assumption) (within_of (by decide))) :
    Frame W s₀ (State.sendData s dest g bytes poison) := by
  unfold State.sendData
  try dsimp only
  repeat' with_reducible (first | assumption | apply frameRes_next | apply frameOpt_none | apply frameOpt_some | apply State.forEach_frame | apply State.when_frame | apply foldl_frame | apply foldl_fst_frame | apply foldl_snd_frame | intro _ | split | apply State.moveGrant_frame | apply State.route_frame | apply frameOpt_get (by assumption) | dsimp only)
  all_goals first | assumption | exact within_trans hW (within_of (by decide)) | exact within_group hW .linkRegs (by decide) rfl | exact within_group hW .mblRegs (by decide) rfl

theorem State.fetchSector_frame {W : Nat} {s₀ s : State} (hs : Frame W s₀ s) (c : Cmd) (k : Nat) (hW : within 874512448 W) :
    Frame W s₀ (State.fetchSector s c k) := by
  unfold State.fetchSector
  try dsimp only
  repeat' with_reducible (first | assumption | apply frameRes_next | apply frameOpt_none | apply frameOpt_some | apply State.forEach_frame | apply State.when_frame | apply foldl_frame | apply foldl_fst_frame | apply foldl_snd_frame | intro _ | split | apply State.readSector_frame | apply frameOpt_get (by assumption) | dsimp only)
  all_goals first | assumption | exact within_trans hW (within_of (by decide)) | exact within_group hW .memRegs (by decide) rfl

theorem State.sendSectorUp_frame {W : Nat} {s₀ s : State} (hs : Frame W s₀ s) (h k tag : Nat) (hW : within 52793706582210 W) :
    Frame W s₀ (State.sendSectorUp s h k tag) := by
  unfold State.sendSectorUp
  try dsimp only
  repeat' with_reducible (first | assumption | apply frameRes_next | apply frameOpt_none | apply frameOpt_some | apply State.forEach_frame | apply State.when_frame | apply foldl_frame | apply foldl_fst_frame | apply foldl_snd_frame | intro _ | split | apply State.fetchSector_frame | apply State.keyChanged_frame | apply State.sendData_frame | apply State.noteDelivered_frame | apply State.tryEndRead_frame | apply frameOpt_get (by assumption) | dsimp only)
  all_goals first | assumption | exact within_trans hW (within_of (by decide)) | exact within_group hW .linkRegs (by decide) rfl | exact within_group hW .memRegs (by decide) rfl | exact within_group hW .cchRegs (by decide) rfl | exact within_group hW .rchRegs (by decide) rfl | exact within_group hW .mblRegs (by decide) rfl

theorem State.writeSector_frame {W : Nat} {s₀ s : State} (hs : Frame W s₀ s) (h k : Nat) (hW : within 35201520505026 W) :
    Frame W s₀ (State.writeSector s h k) := by
  unfold State.writeSector
  try dsimp only
  repeat' with_reducible (first | assumption | apply frameRes_next | apply frameOpt_none | apply frameOpt_some | apply State.forEach_frame | apply State.when_frame | apply foldl_frame | apply foldl_fst_frame | apply foldl_snd_frame | intro _ | split | apply State.fetchSector_frame | apply State.keyChanged_frame | apply State.emitAll_frame | apply State.setCmd_frame | apply State.put_frame | apply State.noteDelivered_frame | apply State.tryEndRead_frame | apply frameOpt_get (by assumption) | dsimp only)
  all_goals first | assumption | exact within_trans hW (within_of (by decide)) | exact within_group hW .linkRegs (by decide) rfl | exact within_group hW .memRegs (by decide) rfl | exact within_group hW .cchRegs (by decide) rfl | exact within_group hW .rchRegs (by decide) rfl

theorem execDmaWriteIssued_frame {W : Nat} {s₀ s : State} (hs : Frame W s₀ s) (h unit : Nat) (hW : within 52793706582210 W) :
    FrameRes W s₀ (execDmaWriteIssued h unit s) := by
  unfold execDmaWriteIssued
  try dsimp only
  repeat' with_reducible (first | assumption | apply frameRes_next | apply frameOpt_none | apply frameOpt_some | apply State.forEach_frame | apply State.when_frame | apply foldl_frame | apply foldl_fst_frame | apply foldl_snd_frame | intro _ | split | apply State.sendSectorUp_frame | apply State.writeSector_frame | apply State.emitAll_frame | apply State.modCmd_frame | apply State.tryEndJob_frame | apply frameOpt_get (by assumption) | dsimp only)
  all_goals first | assumption | exact within_trans hW (within_of (by decide)) | exact within_group hW .linkRegs (by decide) rfl | exact within_group hW .memRegs (by decide) rfl | exact within_group hW .cchRegs (by decide) rfl | exact within_group hW .rchRegs (by decide) rfl | exact within_group hW .mblRegs (by decide) rfl

theorem State.begin_frame {W : Nat} {s₀ s : State} (hs : Frame W s₀ s) (h : Nat) (hW : within 35218700374210 W) :
    Frame W s₀ (State.begin s h) := by
  unfold State.begin
  try dsimp only
  repeat' with_reducible (first | assumption | apply frameRes_next | apply frameOpt_none | apply frameOpt_some | apply State.forEach_frame | apply State.when_frame | apply foldl_frame | apply foldl_fst_frame | apply foldl_snd_frame | intro _ | split | apply State.setCmd_frame | apply State.ask_frame | apply frameOpt_get (by assumption) | dsimp only)
  all_goals first | assumption | exact within_trans hW (within_of (by decide)) | exact within_group hW .linkRegs (by decide) rfl | exact within_group hW .memRegs (by decide) rfl | exact within_group hW .cchRegs (by decide) rfl | exact within_group hW .rchRegs (by decide) rfl

theorem execRead_frame {W : Nat} {s₀ s : State} (hs : Frame W s₀ s) (h : Nat) (hW : within 35218700374210 W) :
    FrameRes W s₀ (execRead h s) := by
  unfold execRead
  try dsimp only
  repeat' with_reducible (first | assumption | apply frameRes_next | apply frameOpt_none | apply frameOpt_some | apply State.forEach_frame | apply State.when_frame | apply foldl_frame | apply foldl_fst_frame | apply foldl_snd_frame | intro _ | split | apply State.begin_frame | apply frameOpt_get (by assumption) | dsimp only)
  all_goals first | assumption | exact within_trans hW (within_of (by decide)) | exact within_group hW .linkRegs (by decide) rfl | exact within_group hW .memRegs (by decide) rfl | exact within_group hW .cchRegs (by decide) rfl | exact within_group hW .rchRegs (by decide) rfl

theorem execLRead_frame {W : Nat} {s₀ s : State} (hs : Frame W s₀ s) (h : Nat) (hW : within 35218700374210 W) :
    FrameRes W s₀ (execLRead h s) := by
  unfold execLRead
  try dsimp only
  repeat' with_reducible (first | assumption | apply frameRes_next | apply frameOpt_none | apply frameOpt_some | apply State.forEach_frame | apply State.when_frame | apply foldl_frame | apply foldl_fst_frame | apply foldl_snd_frame | intro _ | split | apply State.begin_frame | apply frameOpt_get (by assumption) | dsimp only)
  all_goals first | assumption | exact within_trans hW (within_of (by decide)) | exact within_group hW .linkRegs (by decide) rfl | exact within_group hW .memRegs (by decide) rfl | exact within_group hW .cchRegs (by decide) rfl | exact within_group hW .rchRegs (by decide) rfl

theorem execVerify_frame {W : Nat} {s₀ s : State} (hs : Frame W s₀ s) (h : Nat) (hW : within 35218700374210 W) :
    FrameRes W s₀ (execVerify h s) := by
  unfold execVerify
  try dsimp only
  repeat' with_reducible (first | assumption | apply frameRes_next | apply frameOpt_none | apply frameOpt_some | apply State.forEach_frame | apply State.when_frame | apply foldl_frame | apply foldl_fst_frame | apply foldl_snd_frame | intro _ | split | apply State.begin_frame | apply frameOpt_get (by assumption) | dsimp only)
  all_goals first | assumption | exact within_trans hW (within_of (by decide)) | exact within_group hW .linkRegs (by decide) rfl | exact within_group hW .memRegs (by decide) rfl | exact within_group hW .cchRegs (by decide) rfl | exact within_group hW .rchRegs (by decide) rfl

theorem execWrite_frame {W : Nat} {s₀ s : State} (hs : Frame W s₀ s) (h : Nat) (hW : within 52810886451394 W) :
    FrameRes W s₀ (execWrite h s) := by
  unfold execWrite
  try dsimp only
  repeat' with_reducible (first | assumption | apply frameRes_next | apply frameOpt_none | apply frameOpt_some | apply State.forEach_frame | apply State.when_frame | apply foldl_frame | apply foldl_fst_frame | apply foldl_snd_frame | intro _ | split | apply State.begin_frame | apply State.pump_frame | apply frameOpt_get (by assumption) | dsimp only)
  all_goals first | assumption | exact within_trans hW (within_of (by decide)) | exact within_group hW .linkRegs (by decide) rfl | exact within_group hW .memRegs (by decide) rfl | exact within_group hW .cchRegs (by decide) rfl | exact within_group hW .rchRegs (by decide) rfl | exact within_group hW .mblRegs (by decide) rfl

theorem execLWrite_frame {W : Nat} {s₀ s : State} (hs : Frame W s₀ s) (h : Nat) (hW : within 52810886451394 W) :
    FrameRes W s₀ (execLWrite h s) := by
  unfold execLWrite
  try dsimp only
  repeat' with_reducible (first | assumption | apply frameRes_next | apply frameOpt_none | apply frameOpt_some | apply State.forEach_frame | apply State.when_frame | apply foldl_frame | apply foldl_fst_frame | apply foldl_snd_frame | intro _ | split | apply State.begin_frame | apply State.pump_frame | apply frameOpt_get (by assumption) | dsimp only)
  all_goals first | assumption | exact within_trans hW (within_of (by decide)) | exact within_group hW .linkRegs (by decide) rfl | exact within_group hW .memRegs (by decide) rfl | exact within_group hW .cchRegs (by decide) rfl | exact within_group hW .rchRegs (by decide) rfl | exact within_group hW .mblRegs (by decide) rfl

theorem execPreload_frame {W : Nat} {s₀ s : State} (hs : Frame W s₀ s) (h : Nat) (hW : within 35218700374210 W) :
    FrameRes W s₀ (execPreload h s) := by
  unfold execPreload
  try dsimp only
  repeat' with_reducible (first | assumption | apply frameRes_next | apply frameOpt_none | apply frameOpt_some | apply State.forEach_frame | apply State.when_frame | apply foldl_frame | apply foldl_fst_frame | apply foldl_snd_frame | intro _ | split | apply State.refuse_frame | apply State.put_frame | apply State.begin_frame | apply frameOpt_get (by assumption) | dsimp only)
  all_goals first | assumption | exact within_trans hW (within_of (by decide)) | exact within_group hW .linkRegs (by decide) rfl | exact within_group hW .memRegs (by decide) rfl | exact within_group hW .cchRegs (by decide) rfl | exact within_group hW .rchRegs (by decide) rfl

theorem execCipherJob_frame {W : Nat} {s₀ s : State} (hs : Frame W s₀ s) (h : Nat) (hW : within 35184877502530 W) :
    FrameRes W s₀ (execCipherJob h s) := by
  unfold execCipherJob
  try dsimp only
  repeat' with_reducible (first | assumption | apply frameRes_next | apply frameOpt_none | apply frameOpt_some | apply State.forEach_frame | apply State.when_frame | apply foldl_frame | apply foldl_fst_frame | apply foldl_snd_frame | intro _ | split | apply State.setCmd_frame | apply State.pumpJob_frame | apply frameOpt_get (by assumption) | dsimp only)
  all_goals first | assumption | exact within_trans hW (within_of (by decide)) | exact within_group hW .linkRegs (by decide) rfl | exact within_group hW .memRegs (by decide) rfl

theorem State.flush_frame {W : Nat} {s₀ s : State} (hs : Frame W s₀ s) (h : Nat) (hW : within 12719231168 W) :
    Frame W s₀ (State.flush s h) := by
  unfold State.flush
  try dsimp only
  repeat' with_reducible (first | assumption | apply frameRes_next | apply frameOpt_none | apply frameOpt_some | apply State.forEach_frame | apply State.when_frame | apply foldl_frame | apply foldl_fst_frame | apply foldl_snd_frame | intro _ | split | apply State.closeBlock_frame | apply State.setCmd_frame | apply State.tryEndFlush_frame | apply frameOpt_get (by assumption) | dsimp only)
  all_goals first | assumption | exact within_trans hW (within_of (by decide)) | exact within_group hW .memRegs (by decide) rfl | exact within_group hW .cchRegs (by decide) rfl | exact within_group hW .rchRegs (by decide) rfl

theorem execFlush_frame {W : Nat} {s₀ s : State} (hs : Frame W s₀ s) (h : Nat) (hW : within 12719231168 W) :
    FrameRes W s₀ (execFlush h s) := by
  unfold execFlush
  try dsimp only
  repeat' with_reducible (first | assumption | apply frameRes_next | apply frameOpt_none | apply frameOpt_some | apply State.forEach_frame | apply State.when_frame | apply foldl_frame | apply foldl_fst_frame | apply foldl_snd_frame | intro _ | split | apply State.flush_frame | apply frameOpt_get (by assumption) | dsimp only)
  all_goals first | assumption | exact within_trans hW (within_of (by decide)) | exact within_group hW .memRegs (by decide) rfl | exact within_group hW .cchRegs (by decide) rfl | exact within_group hW .rchRegs (by decide) rfl

theorem execLFlush_frame {W : Nat} {s₀ s : State} (hs : Frame W s₀ s) (h : Nat) (hW : within 12719231168 W) :
    FrameRes W s₀ (execLFlush h s) := by
  unfold execLFlush
  try dsimp only
  repeat' with_reducible (first | assumption | apply frameRes_next | apply frameOpt_none | apply frameOpt_some | apply State.forEach_frame | apply State.when_frame | apply foldl_frame | apply foldl_fst_frame | apply foldl_snd_frame | intro _ | split | apply State.flush_frame | apply frameOpt_get (by assumption) | dsimp only)
  all_goals first | assumption | exact within_trans hW (within_of (by decide)) | exact within_group hW .memRegs (by decide) rfl | exact within_group hW .cchRegs (by decide) rfl | exact within_group hW .rchRegs (by decide) rfl

theorem State.allocatePads_frame {W : Nat} {s₀ s : State} (hs : Frame W s₀ s) (hW : within 12685676736 W) :
    Frame W s₀ (State.allocatePads s) := by
  unfold State.allocatePads
  try dsimp only
  repeat' with_reducible (first | assumption | apply frameRes_next | apply frameOpt_none | apply frameOpt_some | apply State.forEach_frame | apply State.when_frame | apply foldl_frame | apply foldl_fst_frame | apply foldl_snd_frame | intro _ | split | apply State.padSectors_frame | apply State.freeEntry_frame | apply State.allocate_frame | apply State.setEntry_frame | apply frameOpt_get (by assumption) | apply Frame.set_recording | dsimp only)
  all_goals first | assumption | exact within_trans hW (within_of (by decide)) | exact within_group hW .memRegs (by decide) rfl | exact within_group hW .cchRegs (by decide) rfl | exact within_group hW .rchRegs (by decide) rfl

theorem execEntryAllocate_frame {W : Nat} {s₀ s : State} (hs : Frame W s₀ s) (h block : Nat) (hW : within 52810886451394 W) :
    FrameRes W s₀ (execEntryAllocate h block s) := by
  unfold execEntryAllocate
  try dsimp only
  repeat' with_reducible (first | assumption | apply frameRes_next | apply frameOpt_none | apply frameOpt_some | apply State.forEach_frame | apply State.when_frame | apply foldl_frame | apply foldl_fst_frame | apply foldl_snd_frame | intro _ | split | apply State.allocatePads_frame | apply State.ask_frame | apply State.pump_frame | apply frameOpt_get (by assumption) | dsimp only)
  all_goals first | assumption | exact within_trans hW (within_of (by decide)) | exact within_group hW .linkRegs (by decide) rfl | exact within_group hW .memRegs (by decide) rfl | exact within_group hW .cchRegs (by decide) rfl | exact within_group hW .rchRegs (by decide) rfl | exact within_group hW .mblRegs (by decide) rfl

theorem execReadAhead_frame {W : Nat} {s₀ s : State} (hs : Frame W s₀ s) (st : Fin 8) (hW : within 2751467648 W) :
    FrameRes W s₀ (execReadAhead st s) := by
  unfold execReadAhead
  try dsimp only
  repeat' with_reducible (first | assumption | apply frameRes_next | apply frameOpt_none | apply frameOpt_some | apply State.forEach_frame | apply State.when_frame | apply foldl_frame | apply foldl_fst_frame | apply foldl_snd_frame | intro _ | split | apply State.allocate_frame | apply State.setEntry_frame | apply State.startWork_frame | apply State.touch_frame | apply frameOpt_get (by assumption) | dsimp only)
  all_goals first | assumption | exact within_trans hW (within_of (by decide)) | exact within_group hW .cchRegs (by decide) rfl | exact within_group hW .rchRegs (by decide) rfl

theorem execCacheDisable_frame {W : Nat} {s₀ s : State} (hs : Frame W s₀ s) (hW : within 12685676736 W) :
    FrameRes W s₀ (execCacheDisable s) := by
  unfold execCacheDisable
  try dsimp only
  repeat' with_reducible (first | assumption | apply frameRes_next | apply frameOpt_none | apply frameOpt_some | apply State.forEach_frame | apply State.when_frame | apply foldl_frame | apply foldl_fst_frame | apply foldl_snd_frame | intro _ | split | apply State.put_frame | apply State.freeEntry_frame | apply State.setEntry_frame | apply State.closeBlock_frame | apply frameOpt_get (by assumption) | apply Frame.set_cache | dsimp only)
  all_goals first | assumption | exact within_trans hW (within_of (by decide)) | exact within_group hW .memRegs (by decide) rfl | exact within_group hW .cchRegs (by decide) rfl | exact within_group hW .rchRegs (by decide) rfl

theorem execCacheEnable_frame {W : Nat} {s₀ s : State} (hs : Frame W s₀ s) (hW : within 67108992 W) :
    FrameRes W s₀ (execCacheEnable s) := by
  unfold execCacheEnable
  try dsimp only
  repeat' with_reducible (first | assumption | apply frameRes_next | apply frameOpt_none | apply frameOpt_some | apply State.forEach_frame | apply State.when_frame | apply foldl_frame | apply foldl_fst_frame | apply foldl_snd_frame | intro _ | split | apply State.put_frame | apply State.post_frame | apply frameOpt_get (by assumption) | dsimp only)
  all_goals first | assumption | exact within_trans hW (within_of (by decide)) | exact within_group hW .cchRegs (by decide) rfl

theorem execCacheDrainDone_frame {W : Nat} {s₀ s : State} (hs : Frame W s₀ s) (hW : within 67108992 W) :
    FrameRes W s₀ (execCacheDrainDone s) := by
  unfold execCacheDrainDone
  try dsimp only
  repeat' with_reducible (first | assumption | apply frameRes_next | apply frameOpt_none | apply frameOpt_some | apply State.forEach_frame | apply State.when_frame | apply foldl_frame | apply foldl_fst_frame | apply foldl_snd_frame | intro _ | split | apply State.put_frame | apply State.post_frame | apply frameOpt_get (by assumption) | dsimp only)
  all_goals first | assumption | exact within_trans hW (within_of (by decide)) | exact within_group hW .cchRegs (by decide) rfl

end Sys2Proof.Machine
end

