-- ==== Sys2Proof/Laws/FrameCipher.lean ====
section
/-!
SUPPORT. What the operations and commands of Machine/Cipher.lean leave as it was: all parts outside a mask.
-/
set_option Elab.async false
set_option linter.all false
namespace Sys2Proof.Machine
set_option maxRecDepth 2000

theorem State.clearStaging_frame {W : Nat} {s₀ s : State} (hs : Frame W s₀ s) (hW : within 1073741824 W) :
    Frame W s₀ (State.clearStaging s) := by
  unfold State.clearStaging
  try dsimp only
  repeat' with_reducible (first | assumption | apply frameRes_next | apply frameOpt_none | apply frameOpt_some | apply State.forEach_frame | apply State.when_frame | apply foldl_frame | apply foldl_fst_frame | apply foldl_snd_frame | intro _ | split | apply frameOpt_get (by assumption) | apply Frame.set_cipher | dsimp only)
  all_goals first | assumption | exact within_trans hW (within_of (by decide))

theorem State.bumpGen_frame {W : Nat} {s₀ s : State} (hs : Frame W s₀ s) (slot : Nat) (hW : within 256 W) :
    Frame W s₀ (State.bumpGen s slot) := by
  unfold State.bumpGen
  try dsimp only
  repeat' with_reducible (first | assumption | apply frameRes_next | apply frameOpt_none | apply frameOpt_some | apply State.forEach_frame | apply State.when_frame | apply foldl_frame | apply foldl_fst_frame | apply foldl_snd_frame | intro _ | split | apply State.putPair_frame | apply frameOpt_get (by assumption) | dsimp only)
  all_goals first | assumption | exact within_trans hW (within_of (by decide)) | exact within_group hW .cipRegs (by decide) rfl

theorem State.keyRejected_frame {W : Nat} {s₀ s : State} (hs : Frame W s₀ s) (hW : within 1073742080 W) :
    Frame W s₀ (State.keyRejected s) := by
  unfold State.keyRejected
  try dsimp only
  repeat' with_reducible (first | assumption | apply frameRes_next | apply frameOpt_none | apply frameOpt_some | apply State.forEach_frame | apply State.when_frame | apply foldl_frame | apply foldl_fst_frame | apply foldl_snd_frame | intro _ | split | apply State.clearStaging_frame | apply State.put_frame | apply frameOpt_get (by assumption) | dsimp only)
  all_goals first | assumption | exact within_trans hW (within_of (by decide)) | exact within_group hW .cipRegs (by decide) rfl

theorem execKeyLoad_frame {W : Nat} {s₀ s : State} (hs : Frame W s₀ s) (slot : Fin 64) (hW : within 1073742080 W) :
    FrameRes W s₀ (execKeyLoad slot s) := by
  unfold execKeyLoad
  try dsimp only
  repeat' with_reducible (first | assumption | apply frameRes_next | apply frameOpt_none | apply frameOpt_some | apply State.forEach_frame | apply State.when_frame | apply foldl_frame | apply foldl_fst_frame | apply foldl_snd_frame | intro _ | split | apply State.keyRejected_frame | apply State.setKeySlot_frame | apply State.bumpGen_frame | apply State.put_frame | apply State.clearStaging_frame | apply frameOpt_get (by assumption) | apply Frame.set_cipher | dsimp only)
  all_goals first | assumption | exact within_trans hW (within_of (by decide)) | exact within_group hW .cipRegs (by decide) rfl

theorem execKeyLoadDone_frame {W : Nat} {s₀ s : State} (hs : Frame W s₀ s) (hW : within 35197225537986 W) :
    FrameRes W s₀ (execKeyLoadDone s) := by
  unfold execKeyLoadDone
  try dsimp only
  repeat' with_reducible (first | assumption | apply frameRes_next | apply frameOpt_none | apply frameOpt_some | apply State.forEach_frame | apply State.when_frame | apply foldl_frame | apply foldl_fst_frame | apply foldl_snd_frame | intro _ | split | apply State.put_frame | apply State.post_frame | apply State.refillEngines_frame | apply frameOpt_get (by assumption) | apply Frame.set_cipher | dsimp only)
  all_goals first | assumption | exact within_trans hW (within_of (by decide)) | exact within_group hW .linkRegs (by decide) rfl | exact within_group hW .memRegs (by decide) rfl | exact within_group hW .cchRegs (by decide) rfl | exact within_group hW .cipRegs (by decide) rfl | exact within_group hW .rchRegs (by decide) rfl

theorem execKeyErase_frame {W : Nat} {s₀ s : State} (hs : Frame W s₀ s) (slot : Fin 64) (hW : within 1073742080 W) :
    FrameRes W s₀ (execKeyErase slot s) := by
  unfold execKeyErase
  try dsimp only
  repeat' with_reducible (first | assumption | apply frameRes_next | apply frameOpt_none | apply frameOpt_some | apply State.forEach_frame | apply State.when_frame | apply foldl_frame | apply foldl_fst_frame | apply foldl_snd_frame | intro _ | split | apply State.keyRejected_frame | apply State.bumpGen_frame | apply State.put_frame | apply State.setKeySlot_frame | apply State.clearStaging_frame | apply frameOpt_get (by assumption) | dsimp only)
  all_goals first | assumption | exact within_trans hW (within_of (by decide)) | exact within_group hW .cipRegs (by decide) rfl

theorem execKeyZeroizeDone_frame {W : Nat} {s₀ s : State} (hs : Frame W s₀ s) (slot : Fin 64) (hW : within 1140850688 W) :
    FrameRes W s₀ (execKeyZeroizeDone slot s) := by
  unfold execKeyZeroizeDone
  try dsimp only
  repeat' with_reducible (first | assumption | apply frameRes_next | apply frameOpt_none | apply frameOpt_some | apply State.forEach_frame | apply State.when_frame | apply foldl_frame | apply foldl_fst_frame | apply foldl_snd_frame | intro _ | split | apply State.setKeySlot_frame | apply State.post_frame | apply frameOpt_get (by assumption) | dsimp only)
  all_goals first | assumption | exact within_trans hW (within_of (by decide))

theorem State.jobOutput_frame {W : Nat} {s₀ s : State} (hs : Frame W s₀ s) (x : Engine) (hW : within 33554432 W) :
    Frame W s₀ (State.jobOutput s x) := by
  unfold State.jobOutput
  try dsimp only
  repeat' with_reducible (first | assumption | apply frameRes_next | apply frameOpt_none | apply frameOpt_some | apply State.forEach_frame | apply State.when_frame | apply foldl_frame | apply foldl_fst_frame | apply foldl_snd_frame | intro _ | split | apply State.modCmd_frame | apply State.put_frame | apply frameOpt_get (by assumption) | dsimp only)
  all_goals first | assumption | exact within_trans hW (within_of (by decide))

theorem execEngineBlockDone_frame {W : Nat} {s₀ s : State} (hs : Frame W s₀ s) (e : Fin 16) (hW : within 35197225537730 W) :
    FrameRes W s₀ (execEngineBlockDone e s) := by
  unfold execEngineBlockDone
  try dsimp only
  repeat' with_reducible (first | assumption | apply frameRes_next | apply frameOpt_none | apply frameOpt_some | apply State.forEach_frame | apply State.when_frame | apply foldl_frame | apply foldl_fst_frame | apply foldl_snd_frame | intro _ | split | apply State.refillEngines_frame | apply State.setEngine_frame | apply State.setWorkItem_frame | apply State.jobOutput_frame | apply State.workDone_frame | apply frameOpt_get (by assumption) | dsimp only)
  all_goals first | assumption | exact within_trans hW (within_of (by decide)) | exact within_group hW .linkRegs (by decide) rfl | exact within_group hW .memRegs (by decide) rfl | exact within_group hW .cchRegs (by decide) rfl | exact within_group hW .rchRegs (by decide) rfl

theorem State.extend_frame {W : Nat} {s₀ s : State} (hs : Frame W s₀ s) (m : Nat) (digest : List Nat) (hW : within 1073741824 W) :
    Frame W s₀ (State.extend s m digest) := by
  unfold State.extend
  try dsimp only
  repeat' with_reducible (first | assumption | apply frameRes_next | apply frameOpt_none | apply frameOpt_some | apply State.forEach_frame | apply State.when_frame | apply foldl_frame | apply foldl_fst_frame | apply foldl_snd_frame | intro _ | split | apply State.put_frame | apply frameOpt_get (by assumption) | apply Frame.set_cipher | dsimp only)
  all_goals first | assumption | exact within_trans hW (within_of (by decide))

theorem execJtagStateChange_frame {W : Nat} {s₀ s : State} (hs : Frame W s₀ s) (enabled : Bool) (record : List Byte) (hW : within 1073741824 W) :
    FrameRes W s₀ (execJtagStateChange enabled record s) := by
  unfold execJtagStateChange
  try dsimp only
  repeat' with_reducible (first | assumption | apply frameRes_next | apply frameOpt_none | apply frameOpt_some | apply State.forEach_frame | apply State.when_frame | apply foldl_frame | apply foldl_fst_frame | apply foldl_snd_frame | intro _ | split | apply State.extend_frame | apply frameOpt_get (by assumption) | apply Frame.set_cipher | dsimp only)
  all_goals first | assumption | exact within_trans hW (within_of (by decide))

theorem State.answerMarked_frame {W : Nat} {s₀ s : State} (hs : Frame W s₀ s) (h : Nat) (data : List Nat) (poison : Bool) (hW : within 35185613602818 W) :
    Frame W s₀ (State.answerMarked s h data poison) := by
  unfold State.answerMarked
  try dsimp only
  repeat' with_reducible (first | assumption | apply frameRes_next | apply frameOpt_none | apply frameOpt_some | apply State.forEach_frame | apply State.when_frame | apply foldl_frame | apply foldl_fst_frame | apply foldl_snd_frame | intro _ | split | apply State.emitAll_frame | apply State.finish_frame | apply State.put_frame | apply State.setCmd_frame | apply frameOpt_get (by assumption) | dsimp only)
  all_goals first | assumption | exact within_trans hW (within_of (by decide)) | exact within_group hW .linkRegs (by decide) rfl

theorem State.answer_frame {W : Nat} {s₀ s : State} (hs : Frame W s₀ s) (h : Nat) (data : List Nat) (hW : within 35185613602818 W) :
    Frame W s₀ (State.answer s h data) := by
  unfold State.answer
  try dsimp only
  repeat' with_reducible (first | assumption | apply frameRes_next | apply frameOpt_none | apply frameOpt_some | apply State.forEach_frame | apply State.when_frame | apply foldl_frame | apply foldl_fst_frame | apply foldl_snd_frame | intro _ | split | apply State.answerMarked_frame | apply frameOpt_get (by assumption) | dsimp only)
  all_goals first | assumption | exact within_trans hW (within_of (by decide)) | exact within_group hW .linkRegs (by decide) rfl

theorem execAttest_frame {W : Nat} {s₀ s : State} (hs : Frame W s₀ s) (h : Nat) (hW : within 35185613602818 W) :
    FrameRes W s₀ (execAttest h s) := by
  unfold execAttest
  try dsimp only
  repeat' with_reducible (first | assumption | apply frameRes_next | apply frameOpt_none | apply frameOpt_some | apply State.forEach_frame | apply State.when_frame | apply foldl_frame | apply foldl_fst_frame | apply foldl_snd_frame | intro _ | split | apply State.answer_frame | apply frameOpt_get (by assumption) | dsimp only)
  all_goals first | assumption | exact within_trans hW (within_of (by decide)) | exact within_group hW .linkRegs (by decide) rfl

end Sys2Proof.Machine
end

