-- ==== Sys2Proof/Laws/FrameFlash.lean ====
section
/-!
SUPPORT. What the operations and commands of Machine/Flash.lean leave as it was: all parts outside a mask.
-/
set_option Elab.async false
set_option linter.all false
namespace Sys2Proof.Machine
set_option maxRecDepth 2000

theorem State.programFlash_frame {W : Nat} {s₀ s : State} (hs : Frame W s₀ s) (slot offset : Nat) (data : List Nat) (hW : within 2199023255552 W) :
    Frame W s₀ (State.programFlash s slot offset data) := by
  unfold State.programFlash
  try dsimp only
  repeat' with_reducible (first | assumption | apply frameRes_next | apply frameOpt_none | apply frameOpt_some | apply State.forEach_frame | apply State.when_frame | apply foldl_frame | apply foldl_fst_frame | apply foldl_snd_frame | intro _ | split | apply State.put_frame | apply frameOpt_get (by assumption) | apply Frame.set_fw | dsimp only)
  all_goals first | assumption | exact within_trans hW (within_of (by decide))

theorem State.spoilFlash_frame {W : Nat} {s₀ s : State} (hs : Frame W s₀ s) (slot offset len : Nat) (hW : within 2199025352704 W) :
    Frame W s₀ (State.spoilFlash s slot offset len) := by
  unfold State.spoilFlash
  try dsimp only
  repeat' with_reducible (first | assumption | apply frameRes_next | apply frameOpt_none | apply frameOpt_some | apply State.forEach_frame | apply State.when_frame | apply foldl_frame | apply foldl_fst_frame | apply foldl_snd_frame | intro _ | split | apply State.programFlash_frame | apply frameOpt_get (by assumption) | apply Frame.set_free | dsimp only)
  all_goals first | assumption | exact within_trans hW (within_of (by decide))

theorem State.pumpDownload_frame {W : Nat} {s₀ s : State} (hs : Frame W s₀ s) (h : Nat) (hW : within 52777063579714 W) :
    Frame W s₀ (State.pumpDownload s h) := by
  unfold State.pumpDownload
  try dsimp only
  repeat' with_reducible (first | assumption | apply frameRes_next | apply frameOpt_none | apply frameOpt_some | apply State.forEach_frame | apply State.when_frame | apply foldl_frame | apply foldl_fst_frame | apply foldl_snd_frame | intro _ | split | apply State.issueSource_frame | apply State.setCmd_frame | apply State.route_frame | apply frameOpt_get (by assumption) | apply Frame.set_mbl | dsimp only)
  all_goals first | assumption | exact within_trans hW (within_of (by decide)) | exact within_group hW .linkRegs (by decide) rfl | exact within_group hW .memRegs (by decide) rfl | exact within_group hW .mblRegs (by decide) rfl

theorem State.downloadBytes_frame {W : Nat} {s₀ s : State} (hs : Frame W s₀ s) (h off : Nat) (bytes : List Nat) (hW : within 54977160577090 W) :
    Frame W s₀ (State.downloadBytes s h off bytes) := by
  unfold State.downloadBytes
  try dsimp only
  repeat' with_reducible (first | assumption | apply frameRes_next | apply frameOpt_none | apply frameOpt_some | apply State.forEach_frame | apply State.when_frame | apply foldl_frame | apply foldl_fst_frame | apply foldl_snd_frame | intro _ | split | apply State.put_frame | apply State.setCmd_frame | apply State.pumpDownload_frame | apply State.refuse_frame | apply frameOpt_get (by assumption) | apply Frame.set_fw | dsimp only)
  all_goals first | assumption | exact within_trans hW (within_of (by decide)) | exact within_group hW .linkRegs (by decide) rfl | exact within_group hW .memRegs (by decide) rfl | exact within_group hW .mblRegs (by decide) rfl

theorem execFwDownload_frame {W : Nat} {s₀ s : State} (hs : Frame W s₀ s) (h : Nat) (hW : within 52778137321538 W) :
    FrameRes W s₀ (execFwDownload h s) := by
  unfold execFwDownload
  try dsimp only
  repeat' with_reducible (first | assumption | apply frameRes_next | apply frameOpt_none | apply frameOpt_some | apply State.forEach_frame | apply State.when_frame | apply foldl_frame | apply foldl_fst_frame | apply foldl_snd_frame | intro _ | split | apply State.refuse_frame | apply State.setCmd_frame | apply State.pumpDownload_frame | apply frameOpt_get (by assumption) | dsimp only)
  all_goals first | assumption | exact within_trans hW (within_of (by decide)) | exact within_group hW .linkRegs (by decide) rfl | exact within_group hW .memRegs (by decide) rfl | exact within_group hW .mblRegs (by decide) rfl

theorem execFlashProgramDone_frame {W : Nat} {s₀ s : State} (hs : Frame W s₀ s) (ok : Bool) (hW : within 2200199888896 W) :
    FrameRes W s₀ (execFlashProgramDone ok s) := by
  unfold execFlashProgramDone
  try dsimp only
  repeat' with_reducible (first | assumption | apply frameRes_next | apply frameOpt_none | apply frameOpt_some | apply State.forEach_frame | apply State.when_frame | apply foldl_frame | apply foldl_fst_frame | apply foldl_snd_frame | intro _ | split | apply State.programFlash_frame | apply State.finish_frame | apply State.spoilFlash_frame | apply State.raise_frame | apply frameOpt_get (by assumption) | apply Frame.set_fw | dsimp only)
  all_goals first | assumption | exact within_trans hW (within_of (by decide)) | exact within_group hW .fwuRegs (by decide) rfl

end Sys2Proof.Machine
end

