-- ==== Sys2Proof/Laws/FrameRecovery.lean ====
section
/-!
SUPPORT. What the operations and commands of Machine/Recovery.lean leave as it was: all parts outside a mask.
-/
set_option Elab.async false
set_option linter.all false
namespace Sys2Proof.Machine
set_option maxRecDepth 2000

theorem execSyncSearch_frame {W : Nat} {s₀ s : State} (hs : Frame W s₀ s) (bc : Fin 64) (p q : List Int) (hW : within 35214405406914 W) :
    FrameRes W s₀ (execSyncSearch bc p q s) := by
  unfold execSyncSearch
  try dsimp only
  repeat' with_reducible (first | assumption | apply frameRes_next | apply frameOpt_none | apply frameOpt_some | apply State.forEach_frame | apply State.when_frame | apply foldl_frame | apply foldl_fst_frame | apply foldl_snd_frame | intro _ | split | apply State.releaseImage_frame | apply State.modSec_frame | apply State.settleBlock_frame | apply State.armCapture_frame | apply frameOpt_get (by assumption) | dsimp only)
  all_goals first | assumption | exact within_trans hW (within_of (by decide)) | exact within_group hW .linkRegs (by decide) rfl | exact within_group hW .memRegs (by decide) rfl | exact within_group hW .cchRegs (by decide) rfl | exact within_group hW .rchRegs (by decide) rfl

theorem State.nextRound_frame {W : Nat} {s₀ s : State} (hs : Frame W s₀ s) (e j : Nat) (hW : within 2147487744 W) :
    Frame W s₀ (State.nextRound s e j) := by
  unfold State.nextRound
  try dsimp only
  repeat' with_reducible (first | assumption | apply frameRes_next | apply frameOpt_none | apply frameOpt_some | apply State.forEach_frame | apply State.when_frame | apply foldl_frame | apply foldl_fst_frame | apply foldl_snd_frame | intro _ | split | apply State.releaseImage_frame | apply State.modSec_frame | apply frameOpt_get (by assumption) | apply Frame.set_decoder | dsimp only)
  all_goals first | assumption | exact within_trans hW (within_of (by decide)) | exact within_group hW .rchRegs (by decide) rfl

theorem State.rungFailed_frame {W : Nat} {s₀ s : State} (hs : Frame W s₀ s) (e j : Nat) (inTime : Bool) (hW : within 2147487744 W := by first | assumption | exact within_trans (by assumption) (within_of (by decide))) :
    Frame W s₀ (State.rungFailed s e j inTime) := by
  unfold State.rungFailed
  try dsimp only
  repeat' with_reducible (first | assumption | apply frameRes_next | apply frameOpt_none | apply frameOpt_some | apply State.forEach_frame | apply State.when_frame | apply foldl_frame | apply foldl_fst_frame | apply foldl_snd_frame | intro _ | split | apply State.armCapture_frame | apply State.modSec_frame | apply State.nextRound_frame | apply frameOpt_get (by assumption) | dsimp only)
  all_goals first | assumption | exact within_trans hW (within_of (by decide)) | exact within_group hW .rchRegs (by decide) rfl

theorem State.hypFailed_frame {W : Nat} {s₀ s : State} (hs : Frame W s₀ s) (e j idx : Nat) (inTime : Bool) (hW : within 35214405406914 W) :
    Frame W s₀ (State.hypFailed s e j idx inTime) := by
  unfold State.hypFailed
  try dsimp only
  repeat' with_reducible (first | assumption | apply frameRes_next | apply frameOpt_none | apply frameOpt_some | apply State.forEach_frame | apply State.when_frame | apply foldl_frame | apply foldl_fst_frame | apply foldl_snd_frame | intro _ | split | apply State.modSec_frame | apply State.rungFailed_frame | apply State.settleBlock_frame | apply frameOpt_get (by assumption) | dsimp only)
  all_goals first | assumption | exact within_trans hW (within_of (by decide)) | exact within_group hW .linkRegs (by decide) rfl | exact within_group hW .memRegs (by decide) rfl | exact within_group hW .cchRegs (by decide) rfl | exact within_group hW .rchRegs (by decide) rfl

theorem execDecodeConverged_frame {W : Nat} {s₀ s : State} (hs : Frame W s₀ s) (e : Fin 48) (j : Fin 72) (idx : Fin 4) (codeword : Nat) (inTime : Bool) (hW : within 35214405406914 W) :
    FrameRes W s₀ (execDecodeConverged e j idx codeword inTime s) := by
  unfold execDecodeConverged
  try dsimp only
  repeat' with_reducible (first | assumption | apply frameRes_next | apply frameOpt_none | apply frameOpt_some | apply State.forEach_frame | apply State.when_frame | apply foldl_frame | apply foldl_fst_frame | apply foldl_snd_frame | intro _ | split | apply State.setLane_frame | apply State.confirmSector_frame | apply State.settleBlock_frame | apply State.hypFailed_frame | apply frameOpt_get (by assumption) | dsimp only)
  all_goals first | assumption | exact within_trans hW (within_of (by decide)) | exact within_group hW .linkRegs (by decide) rfl | exact within_group hW .memRegs (by decide) rfl | exact within_group hW .cchRegs (by decide) rfl | exact within_group hW .rchRegs (by decide) rfl

theorem execDecodeMaxIter_frame {W : Nat} {s₀ s : State} (hs : Frame W s₀ s) (e : Fin 48) (j : Fin 72) (idx : Fin 4) (inTime : Bool) (hW : within 35214405406914 W) :
    FrameRes W s₀ (execDecodeMaxIter e j idx inTime s) := by
  unfold execDecodeMaxIter
  try dsimp only
  repeat' with_reducible (first | assumption | apply frameRes_next | apply frameOpt_none | apply frameOpt_some | apply State.forEach_frame | apply State.when_frame | apply foldl_frame | apply foldl_fst_frame | apply foldl_snd_frame | intro _ | split | apply State.hypFailed_frame | apply frameOpt_get (by assumption) | dsimp only)
  all_goals first | assumption | exact within_trans hW (within_of (by decide)) | exact within_group hW .linkRegs (by decide) rfl | exact within_group hW .memRegs (by decide) rfl | exact within_group hW .cchRegs (by decide) rfl | exact within_group hW .rchRegs (by decide) rfl

theorem execRedecodeRoundStart_frame {W : Nat} {s₀ s : State} (hs : Frame W s₀ s) (hW : within 2147483648 W) :
    FrameRes W s₀ (execRedecodeRoundStart s) := by
  unfold execRedecodeRoundStart
  try dsimp only
  repeat' with_reducible (first | assumption | apply frameRes_next | apply frameOpt_none | apply frameOpt_some | apply State.forEach_frame | apply State.when_frame | apply foldl_frame | apply foldl_fst_frame | apply foldl_snd_frame | intro _ | split | apply State.modSec_frame | apply frameOpt_get (by assumption) | apply Frame.set_decoder | dsimp only)
  all_goals first | assumption | exact within_trans hW (within_of (by decide))

theorem execReequalizerPassDone_frame {W : Nat} {s₀ s : State} (hs : Frame W s₀ s) (e : Fin 48) (j : Fin 72) (hW : within 35214405406914 W := by first | assumption | exact within_trans (by assumption) (within_of (by decide))) :
    FrameRes W s₀ (execReequalizerPassDone e j s) := by
  unfold execReequalizerPassDone
  extract_lets w x d bc used len rows c₁ c₂ r₁ c sigma2 tol m1 r de t
  have ht : Frame W s₀ t := Frame.set_free_decoder hs _ _ (within_trans hW (within_of (by decide)))
  clear_value t r
  split
  · apply frameRes_next; exact hs
  · split
    · apply frameRes_next; exact State.modSec_frame hs _ _ _
    · split
      · apply frameRes_next; exact State.settleBlock_frame (State.rungFailed_frame ht _ _ _) _
      · apply frameRes_next; exact State.modSec_frame ht _ _ _

theorem execOuterDecode_frame {W : Nat} {s₀ s : State} (hs : Frame W s₀ s) (e : Fin 48) (hW : within 2147487744 W) :
    FrameRes W s₀ (execOuterDecode e s) := by
  unfold execOuterDecode
  try dsimp only
  repeat' with_reducible (first | assumption | apply frameRes_next | apply frameOpt_none | apply frameOpt_some | apply State.forEach_frame | apply State.when_frame | apply foldl_frame | apply foldl_fst_frame | apply foldl_snd_frame | intro _ | split | apply State.cancelSector_frame | apply State.modSec_frame | apply State.modWork_frame | apply frameOpt_get (by assumption) | dsimp only)
  all_goals first | assumption | exact within_trans hW (within_of (by decide)) | exact within_group hW .rchRegs (by decide) rfl

theorem execOuterDecodeDone_frame {W : Nat} {s₀ s : State} (hs : Frame W s₀ s) (e : Fin 48) (hW : within 35214405406914 W) :
    FrameRes W s₀ (execOuterDecodeDone e s) := by
  unfold execOuterDecodeDone
  try dsimp only
  repeat' with_reducible (first | assumption | apply frameRes_next | apply frameOpt_none | apply frameOpt_some | apply State.forEach_frame | apply State.when_frame | apply foldl_frame | apply foldl_fst_frame | apply foldl_snd_frame | intro _ | split | apply State.modWork_frame | apply State.confirmSector_frame | apply State.settleBlock_frame | apply State.report_frame | apply frameOpt_get (by assumption) | dsimp only)
  all_goals first | assumption | exact within_trans hW (within_of (by decide)) | exact within_group hW .linkRegs (by decide) rfl | exact within_group hW .memRegs (by decide) rfl | exact within_group hW .cchRegs (by decide) rfl | exact within_group hW .rchRegs (by decide) rfl

theorem execBlockBlank_frame {W : Nat} {s₀ s : State} (hs : Frame W s₀ s) (e : Fin 48) (hW : within 35214405406914 W) :
    FrameRes W s₀ (execBlockBlank e s) := by
  unfold execBlockBlank
  try dsimp only
  repeat' with_reducible (first | assumption | apply frameRes_next | apply frameOpt_none | apply frameOpt_some | apply State.forEach_frame | apply State.when_frame | apply foldl_frame | apply foldl_fst_frame | apply foldl_snd_frame | intro _ | split | apply State.modWork_frame | apply State.finalSector_frame | apply State.settleBlock_frame | apply frameOpt_get (by assumption) | dsimp only)
  all_goals first | assumption | exact within_trans hW (within_of (by decide)) | exact within_group hW .linkRegs (by decide) rfl | exact within_group hW .memRegs (by decide) rfl | exact within_group hW .cchRegs (by decide) rfl | exact within_group hW .rchRegs (by decide) rfl

theorem execReread_frame {W : Nat} {s₀ s : State} (hs : Frame W s₀ s) (e : Fin 48) (hW : within 2147483648 W) :
    FrameRes W s₀ (execReread e s) := by
  unfold execReread
  try dsimp only
  repeat' with_reducible (first | assumption | apply frameRes_next | apply frameOpt_none | apply frameOpt_some | apply State.forEach_frame | apply State.when_frame | apply foldl_frame | apply foldl_fst_frame | apply foldl_snd_frame | intro _ | split | apply State.modWork_frame | apply frameOpt_get (by assumption) | dsimp only)
  all_goals first | assumption | exact within_trans hW (within_of (by decide))

end Sys2Proof.Machine
end

