-- ==== Sys2Proof/Laws/FrameLane.lean ====
section
/-!
SUPPORT. What the operations and commands of Machine/Lane.lean leave as it was: all parts outside a mask.
-/
set_option Elab.async false
set_option linter.all false
namespace Sys2Proof.Machine
set_option maxRecDepth 2000

theorem State.modLane_frame {W : Nat} {s₀ s : State} (hs : Frame W s₀ s) (bc : Nat) (f : Lane → Lane) (hW : within 17179869184 W := by first | assumption | exact within_trans (by assumption) (within_of (by decide))) :
    Frame W s₀ (State.modLane s bc f) := by
  unfold State.modLane
  try dsimp only
  repeat' with_reducible (first | assumption | apply frameRes_next | apply frameOpt_none | apply frameOpt_some | apply State.forEach_frame | apply State.when_frame | apply foldl_frame | apply foldl_fst_frame | apply foldl_snd_frame | intro _ | split | apply State.setLane_frame | apply frameOpt_get (by assumption) | dsimp only)
  all_goals first | assumption | exact within_trans hW (within_of (by decide))

theorem State.holdLanes_frame {W : Nat} {s₀ s : State} (hs : Frame W s₀ s) (n : Nat) (hW : within 19327356928 W) :
    Frame W s₀ (State.holdLanes s n) := by
  unfold State.holdLanes
  try dsimp only
  repeat' with_reducible (first | assumption | apply frameRes_next | apply frameOpt_none | apply frameOpt_some | apply State.forEach_frame | apply State.when_frame | apply foldl_frame | apply foldl_fst_frame | apply foldl_snd_frame | intro _ | split | apply State.setLane_frame | apply State.put_frame | apply State.cancelSector_frame | apply State.modSec_frame | apply frameOpt_get (by assumption) | dsimp only)
  all_goals first | assumption | exact within_trans hW (within_of (by decide)) | exact within_group hW .rchRegs (by decide) rfl

theorem State.showLane_frame {W : Nat} {s₀ s : State} (hs : Frame W s₀ s) (bc : Nat) (hW : within 4096 W) :
    Frame W s₀ (State.showLane s bc) := by
  unfold State.showLane
  try dsimp only
  repeat' with_reducible (first | assumption | apply frameRes_next | apply frameOpt_none | apply frameOpt_some | apply State.forEach_frame | apply State.when_frame | apply foldl_frame | apply foldl_fst_frame | apply foldl_snd_frame | intro _ | split | apply State.sput_frame | apply State.put_frame | apply frameOpt_get (by assumption) | dsimp only)
  all_goals first | assumption | exact within_trans hW (within_of (by decide)) | exact within_group hW .rchRegs (by decide) rfl

theorem State.setLaneReg_frame {W : Nat} {s₀ s : State} (hs : Frame W s₀ s) (bc : Nat) (r : LaneReg) (v : Nat) (hW : within 17179873280 W) :
    Frame W s₀ (State.setLaneReg s bc r v) := by
  have hall : ∀ f ∈ laneRegFields bc r, f.1.group = .rchRegs := by
    cases r <;> simp only [laneRegFields, List.mem_cons, List.not_mem_nil, or_false, forall_eq_or_imp, forall_eq] <;>
      repeat' first | rfl | apply And.intro
  have fold : ∀ (fs : List (Fld × Nat)) (t : State), (∀ f ∈ fs, f.1.group = .rchRegs) → Frame W s₀ t →
      Frame W s₀ (fs.foldl (fun s f => s.put f.1 (v >>> f.2)) t) := by
    intro fs
    induction fs with
    | nil => intro t _ ht; exact ht
    | cons f fs ih =>
      intro t hf ht
      refine ih _ (fun g hg => hf g (List.mem_cons_of_mem _ hg)) (State.put_frame ht _ _ ?_)
      exact within_group hW .rchRegs (by decide) (hf f List.mem_cons_self)
  unfold State.setLaneReg
  extract_lets s₁
  have h₁ : Frame W s₀ s₁ := fold _ _ hall hs
  clear_value s₁
  repeat' with_reducible (first | assumption | split | apply State.modLane_frame | apply State.put_frame)
  all_goals first | assumption | exact within_trans hW (within_of (by decide)) | exact within_group hW .rchRegs (by decide) rfl

theorem State.applyStaged_frame {W : Nat} {s₀ s : State} (hs : Frame W s₀ s) (bc : Nat) (hW : within 17179873280 W) :
    Frame W s₀ (State.applyStaged s bc) := by
  unfold State.applyStaged
  try dsimp only
  repeat' with_reducible (first | assumption | apply frameRes_next | apply frameOpt_none | apply frameOpt_some | apply State.forEach_frame | apply State.when_frame | apply foldl_frame | apply foldl_fst_frame | apply foldl_snd_frame | intro _ | split | apply State.modLane_frame | apply State.put_frame | apply State.setLaneReg_frame | apply frameOpt_get (by assumption) | dsimp only)
  all_goals first | assumption | exact within_trans hW (within_of (by decide)) | exact within_group hW .rchRegs (by decide) rfl

theorem State.laneWrite_frame {W : Nat} {s₀ s : State} (hs : Frame W s₀ s) (bc : Nat) (r : LaneReg) (v : Nat) (hW : within 17179873280 W := by first | assumption | exact within_trans (by assumption) (within_of (by decide))) :
    Frame W s₀ (State.laneWrite s bc r v) := by
  unfold State.laneWrite
  try dsimp only
  repeat' with_reducible (first | assumption | apply frameRes_next | apply frameOpt_none | apply frameOpt_some | apply State.forEach_frame | apply State.when_frame | apply foldl_frame | apply foldl_fst_frame | apply foldl_snd_frame | intro _ | split | apply State.setLaneReg_frame | apply State.modLane_frame | apply State.put_frame | apply frameOpt_get (by assumption) | dsimp only)
  all_goals first | assumption | exact within_trans hW (within_of (by decide)) | exact within_group hW .rchRegs (by decide) rfl

theorem execRchStagedWrite_frame {W : Nat} {s₀ s : State} (hs : Frame W s₀ s) (bc : Fin 64) (reg : LaneReg) (value : Word) (hW : within 17179873280 W) :
    FrameRes W s₀ (execRchStagedWrite bc reg value s) := by
  unfold execRchStagedWrite
  try dsimp only
  repeat' with_reducible (first | assumption | apply frameRes_next | apply frameOpt_none | apply frameOpt_some | apply State.forEach_frame | apply State.when_frame | apply foldl_frame | apply foldl_fst_frame | apply foldl_snd_frame | intro _ | split | apply State.laneWrite_frame | apply frameOpt_get (by assumption) | dsimp only)
  all_goals first | assumption | exact within_trans hW (within_of (by decide)) | exact within_group hW .rchRegs (by decide) rfl

theorem State.moveVga_frame {W : Nat} {s₀ s : State} (hs : Frame W s₀ s) (bc : Nat) (hW : within 17179873280 W) :
    Frame W s₀ (State.moveVga s bc) := by
  unfold State.moveVga
  try dsimp only
  repeat' with_reducible (first | assumption | apply frameRes_next | apply frameOpt_none | apply frameOpt_some | apply State.forEach_frame | apply State.when_frame | apply foldl_frame | apply foldl_fst_frame | apply foldl_snd_frame | intro _ | split | apply State.put_frame | apply State.setLane_frame | apply frameOpt_get (by assumption) | dsimp only)
  all_goals first | assumption | exact within_trans hW (within_of (by decide)) | exact within_group hW .rchRegs (by decide) rfl

theorem State.setCorner_frame {W : Nat} {s₀ s : State} (hs : Frame W s₀ s) (bc zone : Nat) (hW : within 17179869184 W) :
    Frame W s₀ (State.setCorner s bc zone) := by
  unfold State.setCorner
  try dsimp only
  repeat' with_reducible (first | assumption | apply frameRes_next | apply frameOpt_none | apply frameOpt_some | apply State.forEach_frame | apply State.when_frame | apply foldl_frame | apply foldl_fst_frame | apply foldl_snd_frame | intro _ | split | apply State.modLane_frame | apply frameOpt_get (by assumption) | dsimp only)
  all_goals first | assumption | exact within_trans hW (within_of (by decide))

theorem State.takeFrame_frame {W : Nat} {s₀ s : State} (hs : Frame W s₀ s) (e j : Nat) (blank : Bool) (c : LaneSetting) (hW : within 35214405406914 W) :
    Frame W s₀ (State.takeFrame s e j blank c) := by
  unfold State.takeFrame
  try dsimp only
  repeat' with_reducible (first | assumption | apply frameRes_next | apply frameOpt_none | apply frameOpt_some | apply State.forEach_frame | apply State.when_frame | apply foldl_frame | apply foldl_fst_frame | apply foldl_snd_frame | intro _ | split | apply State.modSec_frame | apply State.modWork_frame | apply State.finalSector_frame | apply State.blockNotBlank_frame | apply State.settleBlock_frame | apply frameOpt_get (by assumption) | dsimp only)
  all_goals first | assumption | exact within_trans hW (within_of (by decide)) | exact within_group hW .linkRegs (by decide) rfl | exact within_group hW .memRegs (by decide) rfl | exact within_group hW .cchRegs (by decide) rfl | exact within_group hW .rchRegs (by decide) rfl

theorem execFrameStart_frame {W : Nat} {s₀ s : State} (hs : Frame W s₀ s) (bc : Fin 64) (target : Option (Fin 48 × Fin 72)) (zone : Fin 4250) (tone rate : Rat) (hW : within 35214405406914 W) :
    FrameRes W s₀ (execFrameStart bc target zone tone rate s) := by
  unfold execFrameStart
  try dsimp only
  repeat' with_reducible (first | assumption | apply frameRes_next | apply frameOpt_none | apply frameOpt_some | apply State.forEach_frame | apply State.when_frame | apply foldl_frame | apply foldl_fst_frame | apply foldl_snd_frame | intro _ | split | apply State.setLane_frame | apply State.moveVga_frame | apply State.applyStaged_frame | apply State.showLane_frame | apply State.setCorner_frame | apply State.modLane_frame | apply State.setFlag_frame | apply State.takeFrame_frame | apply frameOpt_get (by assumption) | dsimp only)
  all_goals first | assumption | exact within_trans hW (within_of (by decide)) | exact within_group hW .linkRegs (by decide) rfl | exact within_group hW .memRegs (by decide) rfl | exact within_group hW .cchRegs (by decide) rfl | exact within_group hW .rchRegs (by decide) rfl

theorem State.writeProvisional_frame {W : Nat} {s₀ s : State} (hs : Frame W s₀ s) (e j : Nat) (llrs : Array Int) (hW : within 807403584 W) :
    Frame W s₀ (State.writeProvisional s e j llrs) := by
  unfold State.writeProvisional
  try dsimp only
  repeat' with_reducible (first | assumption | apply frameRes_next | apply frameOpt_none | apply frameOpt_some | apply State.forEach_frame | apply State.when_frame | apply foldl_frame | apply foldl_fst_frame | apply foldl_snd_frame | intro _ | split | apply State.storeSector_frame | apply frameOpt_get (by assumption) | apply Frame.set_free | dsimp only)
  all_goals first | assumption | exact within_trans hW (within_of (by decide)) | exact within_group hW .memRegs (by decide) rfl

theorem State.recordQuality_frame {W : Nat} {s₀ s : State} (hs : Frame W s₀ s) (bc : Nat) (e j : Nat) (q : Quality) (hW : within 19931336704 W) :
    Frame W s₀ (State.recordQuality s bc e j q) := by
  unfold State.recordQuality
  try dsimp only
  repeat' with_reducible (first | assumption | apply frameRes_next | apply frameOpt_none | apply frameOpt_some | apply State.forEach_frame | apply State.when_frame | apply foldl_frame | apply foldl_fst_frame | apply foldl_snd_frame | intro _ | split | apply State.modSec_frame | apply State.modEntry_frame | apply State.applyQuality_frame | apply frameOpt_get (by assumption) | dsimp only)
  all_goals first | assumption | exact within_trans hW (within_of (by decide)) | exact within_group hW .rchRegs (by decide) rfl

theorem State.vgaAdjust_frame {W : Nat} {s₀ s : State} (hs : Frame W s₀ s) (bc : Nat) (hW : within 17246982144 W) :
    Frame W s₀ (State.vgaAdjust s bc) := by
  unfold State.vgaAdjust
  try dsimp only
  repeat' with_reducible (first | assumption | apply frameRes_next | apply frameOpt_none | apply frameOpt_some | apply State.forEach_frame | apply State.when_frame | apply foldl_frame | apply foldl_fst_frame | apply foldl_snd_frame | intro _ | split | apply State.setLane_frame | apply State.raise_frame | apply frameOpt_get (by assumption) | dsimp only)
  all_goals first | assumption | exact within_trans hW (within_of (by decide)) | exact within_group hW .rchRegs (by decide) rfl

theorem execFrameEnd_frame {W : Nat} {s₀ s : State} (hs : Frame W s₀ s) (bc : Fin 64) (first : Int) (bits : List LaneBit) (clips : Nat) (hW : within 20201869376 W) :
    FrameRes W s₀ (execFrameEnd bc first bits clips s) := by
  unfold execFrameEnd
  try dsimp only
  repeat' with_reducible (first | assumption | apply frameRes_next | apply frameOpt_none | apply frameOpt_some | apply State.forEach_frame | apply State.when_frame | apply foldl_frame | apply foldl_fst_frame | apply foldl_snd_frame | intro _ | split | apply State.takeFree_frame | apply State.setLane_frame | apply State.vgaAdjust_frame | apply State.showLane_frame | apply State.recordQuality_frame | apply State.writeProvisional_frame | apply frameOpt_get (by assumption) | apply Frame.set_free | dsimp only)
  all_goals first | assumption | exact within_trans hW (within_of (by decide)) | exact within_group hW .memRegs (by decide) rfl | exact within_group hW .rchRegs (by decide) rfl

theorem execDefectActive_frame {W : Nat} {s₀ s : State} (hs : Frame W s₀ s) (bc : Fin 64) (e1 e2 r : Rat) (hW : within 17179873280 W) :
    FrameRes W s₀ (execDefectActive bc e1 e2 r s) := by
  unfold execDefectActive
  try dsimp only
  repeat' with_reducible (first | assumption | apply frameRes_next | apply frameOpt_none | apply frameOpt_some | apply State.forEach_frame | apply State.when_frame | apply foldl_frame | apply foldl_fst_frame | apply foldl_snd_frame | intro _ | split | apply State.put_frame | apply State.modLane_frame | apply frameOpt_get (by assumption) | dsimp only)
  all_goals first | assumption | exact within_trans hW (within_of (by decide)) | exact within_group hW .rchRegs (by decide) rfl

theorem execDefectInactive_frame {W : Nat} {s₀ s : State} (hs : Frame W s₀ s) (bc : Fin 64) (windows : List Rat) (r : Rat) (hW : within 4096 W) :
    FrameRes W s₀ (execDefectInactive bc windows r s) := by
  unfold execDefectInactive
  try dsimp only
  repeat' with_reducible (first | assumption | apply frameRes_next | apply frameOpt_none | apply frameOpt_some | apply State.forEach_frame | apply State.when_frame | apply foldl_frame | apply foldl_fst_frame | apply foldl_snd_frame | intro _ | split | apply State.put_frame | apply frameOpt_get (by assumption) | dsimp only)
  all_goals first | assumption | exact within_trans hW (within_of (by decide)) | exact within_group hW .rchRegs (by decide) rfl

theorem execTimingLost_frame {W : Nat} {s₀ s : State} (hs : Frame W s₀ s) (bc : Fin 64) (bit : Fin 50176) (mean : Rat) (hW : within 17179873280 W) :
    FrameRes W s₀ (execTimingLost bc bit mean s) := by
  unfold execTimingLost
  try dsimp only
  repeat' with_reducible (first | assumption | apply frameRes_next | apply frameOpt_none | apply frameOpt_some | apply State.forEach_frame | apply State.when_frame | apply foldl_frame | apply foldl_fst_frame | apply foldl_snd_frame | intro _ | split | apply State.setLane_frame | apply State.put_frame | apply frameOpt_get (by assumption) | dsimp only)
  all_goals first | assumption | exact within_trans hW (within_of (by decide)) | exact within_group hW .rchRegs (by decide) rfl

theorem execCaptureAgeTrigger_frame {W : Nat} {s₀ s : State} (hs : Frame W s₀ s) (bc : Fin 64) (meanErr : Rat) (hW : within 2147487744 W) :
    FrameRes W s₀ (execCaptureAgeTrigger bc meanErr s) := by
  unfold execCaptureAgeTrigger
  try dsimp only
  repeat' with_reducible (first | assumption | apply frameRes_next | apply frameOpt_none | apply frameOpt_some | apply State.forEach_frame | apply State.when_frame | apply foldl_frame | apply foldl_fst_frame | apply foldl_snd_frame | intro _ | split | apply State.armCapture_frame | apply frameOpt_get (by assumption) | dsimp only)
  all_goals first | assumption | exact within_trans hW (within_of (by decide)) | exact within_group hW .rchRegs (by decide) rfl

theorem execFrameImageDone_frame {W : Nat} {s₀ s : State} (hs : Frame W s₀ s) (e : Fin 48) (j : Fin 72) (rows : List (List Int)) (hW : within 2147483648 W) :
    FrameRes W s₀ (execFrameImageDone e j rows s) := by
  unfold execFrameImageDone
  try dsimp only
  repeat' with_reducible (first | assumption | apply frameRes_next | apply frameOpt_none | apply frameOpt_some | apply State.forEach_frame | apply State.when_frame | apply foldl_frame | apply foldl_fst_frame | apply foldl_snd_frame | intro _ | split | apply State.modSec_frame | apply frameOpt_get (by assumption) | dsimp only)
  all_goals first | assumption | exact within_trans hW (within_of (by decide))

theorem execLaneQualityLow_frame {W : Nat} {s₀ s : State} (hs : Frame W s₀ s) (bc : Fin 64) (hW : within 67112960 W) :
    FrameRes W s₀ (execLaneQualityLow bc s) := by
  unfold execLaneQualityLow
  try dsimp only
  repeat' with_reducible (first | assumption | apply frameRes_next | apply frameOpt_none | apply frameOpt_some | apply State.forEach_frame | apply State.when_frame | apply foldl_frame | apply foldl_fst_frame | apply foldl_snd_frame | intro _ | split | apply State.raise_frame | apply frameOpt_get (by assumption) | dsimp only)
  all_goals first | assumption | exact within_trans hW (within_of (by decide)) | exact within_group hW .rchRegs (by decide) rfl

end Sys2Proof.Machine
end

