-- ==== Sys2Proof/Laws/FrameRecording.lean ====
section
/-!
SUPPORT. What the operations and commands of Machine/Recording.lean leave as it was: all parts outside a mask.
-/
set_option Elab.async false
set_option linter.all false
namespace Sys2Proof.Machine
set_option maxRecDepth 2000

theorem State.ldd_frame {W : Nat} {s₀ s : State} (hs : Frame W s₀ s) (n type : Nat) (payload : List Nat) (hW : within 35184506306562 W) :
    Frame W s₀ (State.ldd s n type payload) := by
  unfold State.ldd
  try dsimp only
  repeat' with_reducible (first | assumption | apply frameRes_next | apply frameOpt_none | apply frameOpt_some | apply State.forEach_frame | apply State.when_frame | apply foldl_frame | apply foldl_fst_frame | apply foldl_snd_frame | intro _ | split | apply State.emit_frame | apply frameOpt_get (by assumption) | dsimp only)
  all_goals first | assumption | exact within_trans hW (within_of (by decide)) | exact within_group hW .linkRegs (by decide) rfl

theorem State.lddWrite_frame {W : Nat} {s₀ s : State} (hs : Frame W s₀ s) (n addr value : Nat) (hW : within 35184506306562 W) :
    Frame W s₀ (State.lddWrite s n addr value) := by
  unfold State.lddWrite
  try dsimp only
  repeat' with_reducible (first | assumption | apply frameRes_next | apply frameOpt_none | apply frameOpt_some | apply State.forEach_frame | apply State.when_frame | apply foldl_frame | apply foldl_fst_frame | apply foldl_snd_frame | intro _ | split | apply State.ldd_frame | apply frameOpt_get (by assumption) | dsimp only)
  all_goals first | assumption | exact within_trans hW (within_of (by decide)) | exact within_group hW .linkRegs (by decide) rfl

theorem State.modRun_frame {W : Nat} {s₀ s : State} (hs : Frame W s₀ s) (n : Nat) (f : Run → Run) (hW : within 8589934592 W) :
    Frame W s₀ (State.modRun s n f) := by
  unfold State.modRun
  try dsimp only
  repeat' with_reducible (first | assumption | apply frameRes_next | apply frameOpt_none | apply frameOpt_some | apply State.forEach_frame | apply State.when_frame | apply foldl_frame | apply foldl_fst_frame | apply foldl_snd_frame | intro _ | split | apply State.modPuRec_frame | apply frameOpt_get (by assumption) | dsimp only)
  all_goals first | assumption | exact within_trans hW (within_of (by decide))

theorem State.showGates_frame {W : Nat} {s₀ s : State} (hs : Frame W s₀ s) (n : Nat) (hW : within 34359738368 W) :
    Frame W s₀ (State.showGates s n) := by
  unfold State.showGates
  try dsimp only
  repeat' with_reducible (first | assumption | apply frameRes_next | apply frameOpt_none | apply frameOpt_some | apply State.forEach_frame | apply State.when_frame | apply foldl_frame | apply foldl_fst_frame | apply foldl_snd_frame | intro _ | split | apply State.modPickup_frame | apply frameOpt_get (by assumption) | dsimp only)
  all_goals first | assumption | exact within_trans hW (within_of (by decide))

theorem State.sendCb_frame {W : Nat} {s₀ s : State} (hs : Frame W s₀ s) (n t : Nat) (applyRate : Bool) (hW : within 35184506306562 W) :
    Frame W s₀ (State.sendCb s n t applyRate) := by
  unfold State.sendCb
  try dsimp only
  repeat' with_reducible (first | assumption | apply frameRes_next | apply frameOpt_none | apply frameOpt_some | apply State.forEach_frame | apply State.when_frame | apply foldl_frame | apply foldl_fst_frame | apply foldl_snd_frame | intro _ | split | apply State.ldd_frame | apply frameOpt_get (by assumption) | dsimp only)
  all_goals first | assumption | exact within_trans hW (within_of (by decide)) | exact within_group hW .linkRegs (by decide) rfl

theorem State.framePlayed_frame {W : Nat} {s₀ s : State} (hs : Frame W s₀ s) (n : Nat) (r : RecBlock) (j : Nat) (hW : within 8657051648 W) :
    Frame W s₀ (State.framePlayed s n r j) := by
  unfold State.framePlayed
  try dsimp only
  repeat' with_reducible (first | assumption | apply frameRes_next | apply frameOpt_none | apply frameOpt_some | apply State.forEach_frame | apply State.when_frame | apply foldl_frame | apply foldl_fst_frame | apply foldl_snd_frame | intro _ | split | apply State.setRecBlock_frame | apply State.count_frame | apply frameOpt_get (by assumption) | dsimp only)
  all_goals first | assumption | exact within_trans hW (within_of (by decide)) | exact within_group hW .recRegs (by decide) rfl

theorem State.advanceStream_frame {W : Nat} {s₀ s : State} (hs : Frame W s₀ s) (n t' : Nat) (hW : within 43016790016 W) :
    Frame W s₀ (State.advanceStream s n t') := by
  unfold State.advanceStream
  try dsimp only
  repeat' with_reducible (first | assumption | apply frameRes_next | apply frameOpt_none | apply frameOpt_some | apply State.forEach_frame | apply State.when_frame | apply foldl_frame | apply foldl_fst_frame | apply foldl_snd_frame | intro _ | split | apply State.framePlayed_frame | apply State.modRun_frame | apply State.showGates_frame | apply frameOpt_get (by assumption) | dsimp only)
  all_goals first | assumption | exact within_trans hW (within_of (by decide)) | exact within_group hW .recRegs (by decide) rfl

theorem State.cutFrames_frame {W : Nat} {s₀ s : State} (hs : Frame W s₀ s) (n : Nat) (hW : within 8657051648 W) :
    Frame W s₀ (State.cutFrames s n) := by
  unfold State.cutFrames
  try dsimp only
  repeat' with_reducible (first | assumption | apply frameRes_next | apply frameOpt_none | apply frameOpt_some | apply State.forEach_frame | apply State.when_frame | apply foldl_frame | apply foldl_fst_frame | apply foldl_snd_frame | intro _ | split | apply State.setRecBlock_frame | apply State.count_frame | apply frameOpt_get (by assumption) | dsimp only)
  all_goals first | assumption | exact within_trans hW (within_of (by decide)) | exact within_group hW .recRegs (by decide) rfl

theorem State.writeQuality_frame {W : Nat} {s₀ s : State} (hs : Frame W s₀ s) (r : RecBlock) (outs : Option (List Nat)) (bad : Bool) (hW : within 8589934592 W) :
    Frame W s₀ (State.writeQuality s r outs bad) := by
  unfold State.writeQuality
  try dsimp only
  repeat' with_reducible (first | assumption | apply frameRes_next | apply frameOpt_none | apply frameOpt_some | apply State.forEach_frame | apply State.when_frame | apply foldl_frame | apply foldl_fst_frame | apply foldl_snd_frame | intro _ | split | apply State.put_frame | apply frameOpt_get (by assumption) | apply Frame.set_recording | dsimp only)
  all_goals first | assumption | exact within_trans hW (within_of (by decide))

theorem State.faultWrite_frame {W : Nat} {s₀ s : State} (hs : Frame W s₀ s) (h : Nat) (hW : within 12719231168 W) :
    Frame W s₀ (State.faultWrite s h) := by
  unfold State.faultWrite
  try dsimp only
  repeat' with_reducible (first | assumption | apply frameRes_next | apply frameOpt_none | apply frameOpt_some | apply State.forEach_frame | apply State.when_frame | apply foldl_frame | apply foldl_fst_frame | apply foldl_snd_frame | intro _ | split | apply State.endCmd_frame | apply State.padLbas_frame | apply frameOpt_get (by assumption) | dsimp only)
  all_goals first | assumption | exact within_trans hW (within_of (by decide)) | exact within_group hW .memRegs (by decide) rfl | exact within_group hW .cchRegs (by decide) rfl | exact within_group hW .rchRegs (by decide) rfl

theorem State.freeRecEntry_frame {W : Nat} {s₀ s : State} (hs : Frame W s₀ s) (e block : Nat) (hW : within 35218700374210 W) :
    Frame W s₀ (State.freeRecEntry s e block) := by
  unfold State.freeRecEntry
  try dsimp only
  repeat' with_reducible (first | assumption | apply frameRes_next | apply frameOpt_none | apply frameOpt_some | apply State.forEach_frame | apply State.when_frame | apply foldl_frame | apply foldl_fst_frame | apply foldl_snd_frame | intro _ | split | apply State.modCmd_frame | apply State.freeEntry_frame | apply State.ask_frame | apply frameOpt_get (by assumption) | dsimp only)
  all_goals first | assumption | exact within_trans hW (within_of (by decide)) | exact within_group hW .linkRegs (by decide) rfl | exact within_group hW .memRegs (by decide) rfl | exact within_group hW .cchRegs (by decide) rfl | exact within_group hW .rchRegs (by decide) rfl

theorem State.endRecBlock_frame {W : Nat} {s₀ s : State} (hs : Frame W s₀ s) (r : RecBlock) (failed : Bool) (hW : within 12719231168 W) :
    Frame W s₀ (State.endRecBlock s r failed) := by
  unfold State.endRecBlock
  try dsimp only
  repeat' with_reducible (first | assumption | apply frameRes_next | apply frameOpt_none | apply frameOpt_some | apply State.forEach_frame | apply State.when_frame | apply foldl_frame | apply foldl_fst_frame | apply foldl_snd_frame | intro _ | split | apply State.dropRecBlock_frame | apply State.modRun_frame | apply State.blockSettled_frame | apply State.faultWrite_frame | apply frameOpt_get (by assumption) | dsimp only)
  all_goals first | assumption | exact within_trans hW (within_of (by decide)) | exact within_group hW .memRegs (by decide) rfl | exact within_group hW .cchRegs (by decide) rfl | exact within_group hW .rchRegs (by decide) rfl

theorem State.breakBlock_frame {W : Nat} {s₀ s : State} (hs : Frame W s₀ s) (r : RecBlock) (hW : within 35218700382402 W) :
    Frame W s₀ (State.breakBlock s r) := by
  unfold State.breakBlock
  try dsimp only
  repeat' with_reducible (first | assumption | apply frameRes_next | apply frameOpt_none | apply frameOpt_some | apply State.forEach_frame | apply State.when_frame | apply foldl_frame | apply foldl_fst_frame | apply foldl_snd_frame | intro _ | split | apply State.raise_frame | apply State.writeQuality_frame | apply State.freeRecEntry_frame | apply State.endRecBlock_frame | apply frameOpt_get (by assumption) | apply Frame.set_cipher | dsimp only)
  all_goals first | assumption | exact within_trans hW (within_of (by decide)) | exact within_group hW .linkRegs (by decide) rfl | exact within_group hW .memRegs (by decide) rfl | exact within_group hW .cchRegs (by decide) rfl | exact within_group hW .rchRegs (by decide) rfl | exact within_group hW .recRegs (by decide) rfl

theorem State.breakRun_frame {W : Nat} {s₀ s : State} (hs : Frame W s₀ s) (n : Nat) (hW : within 35218700382402 W) :
    Frame W s₀ (State.breakRun s n) := by
  unfold State.breakRun
  try dsimp only
  repeat' with_reducible (first | assumption | apply frameRes_next | apply frameOpt_none | apply frameOpt_some | apply State.forEach_frame | apply State.when_frame | apply foldl_frame | apply foldl_fst_frame | apply foldl_snd_frame | intro _ | split | apply State.breakBlock_frame | apply State.modRun_frame | apply State.put_frame | apply frameOpt_get (by assumption) | dsimp only)
  all_goals first | assumption | exact within_trans hW (within_of (by decide)) | exact within_group hW .linkRegs (by decide) rfl | exact within_group hW .memRegs (by decide) rfl | exact within_group hW .cchRegs (by decide) rfl | exact within_group hW .rchRegs (by decide) rfl | exact within_group hW .recRegs (by decide) rfl

theorem State.breakUnrecordable_frame {W : Nat} {s₀ s : State} (hs : Frame W s₀ s) (hW : within 35218700382402 W) :
    Frame W s₀ (State.breakUnrecordable s) := by
  unfold State.breakUnrecordable
  try dsimp only
  repeat' with_reducible (first | assumption | apply frameRes_next | apply frameOpt_none | apply frameOpt_some | apply State.forEach_frame | apply State.when_frame | apply foldl_frame | apply foldl_fst_frame | apply foldl_snd_frame | intro _ | split | apply State.breakBlock_frame | apply frameOpt_get (by assumption) | dsimp only)
  all_goals first | assumption | exact within_trans hW (within_of (by decide)) | exact within_group hW .linkRegs (by decide) rfl | exact within_group hW .memRegs (by decide) rfl | exact within_group hW .cchRegs (by decide) rfl | exact within_group hW .rchRegs (by decide) rfl | exact within_group hW .recRegs (by decide) rfl

theorem State.closeGates_frame {W : Nat} {s₀ s : State} (hs : Frame W s₀ s) (n : Nat) (cause : Option Nat) (hW : within 35253060120770 W) :
    Frame W s₀ (State.closeGates s n cause) := by
  unfold State.closeGates
  try dsimp only
  repeat' with_reducible (first | assumption | apply frameRes_next | apply frameOpt_none | apply frameOpt_some | apply State.forEach_frame | apply State.when_frame | apply foldl_frame | apply foldl_fst_frame | apply foldl_snd_frame | intro _ | split | apply State.modPickup_frame | apply State.cutFrames_frame | apply State.modRun_frame | apply State.put_frame | apply State.modPuRec_frame | apply State.raise_frame | apply State.breakBlock_frame | apply State.setRecBlock_frame | apply frameOpt_get (by assumption) | dsimp only)
  all_goals first | assumption | exact within_trans hW (within_of (by decide)) | exact within_group hW .linkRegs (by decide) rfl | exact within_group hW .memRegs (by decide) rfl | exact within_group hW .cchRegs (by decide) rfl | exact within_group hW .rchRegs (by decide) rfl | exact within_group hW .recRegs (by decide) rfl

theorem State.stopAtBoundary_frame {W : Nat} {s₀ s : State} (hs : Frame W s₀ s) (n : Nat) (hW : within 35253060120770 W) :
    Frame W s₀ (State.stopAtBoundary s n) := by
  unfold State.stopAtBoundary
  try dsimp only
  repeat' with_reducible (first | assumption | apply frameRes_next | apply frameOpt_none | apply frameOpt_some | apply State.forEach_frame | apply State.when_frame | apply foldl_frame | apply foldl_fst_frame | apply foldl_snd_frame | intro _ | split | apply State.framePlayed_frame | apply State.modPickup_frame | apply State.breakBlock_frame | apply State.setRecBlock_frame | apply State.modEntry_frame | apply State.modRun_frame | apply State.put_frame | apply frameOpt_get (by assumption) | dsimp only)
  all_goals first | assumption | exact within_trans hW (within_of (by decide)) | exact within_group hW .linkRegs (by decide) rfl | exact within_group hW .memRegs (by decide) rfl | exact within_group hW .cchRegs (by decide) rfl | exact within_group hW .rchRegs (by decide) rfl | exact within_group hW .recRegs (by decide) rfl

theorem State.takeBlock_frame {W : Nat} {s₀ s : State} (hs : Frame W s₀ s) (r : RecBlock) (hW : within 9126805504 W) :
    Frame W s₀ (State.takeBlock s r) := by
  unfold State.takeBlock
  try dsimp only
  repeat' with_reducible (first | assumption | apply frameRes_next | apply frameOpt_none | apply frameOpt_some | apply State.forEach_frame | apply State.when_frame | apply foldl_frame | apply foldl_fst_frame | apply foldl_snd_frame | intro _ | split | apply State.setRecBlock_frame | apply State.modEntry_frame | apply State.modRun_frame | apply frameOpt_get (by assumption) | dsimp only)
  all_goals first | assumption | exact within_trans hW (within_of (by decide))

theorem State.segmentStart_frame {W : Nat} {s₀ s : State} (hs : Frame W s₀ s) (n : Nat) (hW : within 9126805504 W) :
    Frame W s₀ (State.segmentStart s n) := by
  unfold State.segmentStart
  try dsimp only
  repeat' with_reducible (first | assumption | apply frameRes_next | apply frameOpt_none | apply frameOpt_some | apply State.forEach_frame | apply State.when_frame | apply foldl_frame | apply foldl_fst_frame | apply foldl_snd_frame | intro _ | split | apply State.takeBlock_frame | apply State.modRun_frame | apply frameOpt_get (by assumption) | dsimp only)
  all_goals first | assumption | exact within_trans hW (within_of (by decide))

theorem State.blockRecorded_frame {W : Nat} {s₀ s : State} (hs : Frame W s₀ s) (r0 : RecBlock) (hW : within 35218700374210 W) :
    Frame W s₀ (State.blockRecorded s r0) := by
  unfold State.blockRecorded
  try dsimp only
  repeat' with_reducible (first | assumption | apply frameRes_next | apply frameOpt_none | apply frameOpt_some | apply State.forEach_frame | apply State.when_frame | apply foldl_frame | apply foldl_fst_frame | apply foldl_snd_frame | intro _ | split | apply State.setRecBlock_frame | apply State.modRun_frame | apply State.writeQuality_frame | apply State.modEntry_frame | apply State.wakeWaiters_frame | apply State.settleEvictions_frame | apply State.modPuRec_frame | apply State.endRecBlock_frame | apply frameOpt_get (by assumption) | apply Frame.set_cache | dsimp only)
  all_goals first | assumption | exact within_trans hW (within_of (by decide)) | exact within_group hW .linkRegs (by decide) rfl | exact within_group hW .memRegs (by decide) rfl | exact within_group hW .cchRegs (by decide) rfl | exact within_group hW .rchRegs (by decide) rfl

end Sys2Proof.Machine
end

