-- ==== Sys2Proof/Laws/FrameLoopEng.lean ====
section
/-!
SUPPORT. What the operations and commands of Machine/LoopEng.lean leave as it was: all parts outside a mask.
-/
set_option Elab.async false
set_option linter.all false
namespace Sys2Proof.Machine
set_option maxRecDepth 2000

theorem State.setLp_frame {W : Nat} {s₀ s : State} (hs : Frame W s₀ s) (n : Nat) (p : LoopProc) (hW : within 68719476736 W := by first | assumption | exact within_trans (by assumption) (within_of (by decide))) :
    Frame W s₀ (State.setLp s n p) := by
  unfold State.setLp
  try dsimp only
  repeat' with_reducible (first | assumption | apply frameRes_next | apply frameOpt_none | apply frameOpt_some | apply State.forEach_frame | apply State.when_frame | apply foldl_frame | apply foldl_fst_frame | apply foldl_snd_frame | intro _ | split | apply State.put_frame | apply frameOpt_get (by assumption) | apply Frame.set_lps | dsimp only)
  all_goals first | assumption | exact within_trans hW (within_of (by decide))

theorem State.modLp_frame {W : Nat} {s₀ s : State} (hs : Frame W s₀ s) (n : Nat) (f : LoopProc → LoopProc) (hW : within 68719476736 W) :
    Frame W s₀ (State.modLp s n f) := by
  unfold State.modLp
  try dsimp only
  repeat' with_reducible (first | assumption | apply frameRes_next | apply frameOpt_none | apply frameOpt_some | apply State.forEach_frame | apply State.when_frame | apply foldl_frame | apply foldl_fst_frame | apply foldl_snd_frame | intro _ | split | apply State.setLp_frame | apply frameOpt_get (by assumption) | dsimp only)
  all_goals first | assumption | exact within_trans hW (within_of (by decide))

theorem State.formSignals_frame {W : Nat} {s₀ s : State} (hs : Frame W s₀ s) (n : Nat) (means : List Nat) (hW : within 68719477248 W) :
    Frame W s₀ (State.formSignals s n means) := by
  unfold State.formSignals
  try dsimp only
  repeat' with_reducible (first | assumption | apply frameRes_next | apply frameOpt_none | apply frameOpt_some | apply State.forEach_frame | apply State.when_frame | apply foldl_frame | apply foldl_fst_frame | apply foldl_snd_frame | intro _ | split | apply State.put_frame | apply State.setLp_frame | apply frameOpt_get (by assumption) | dsimp only)
  all_goals first | assumption | exact within_trans hW (within_of (by decide)) | exact within_group hW .srvRegs (by decide) rfl

theorem State.updateCost_frame {W : Nat} {s₀ s : State} (hs : Frame W s₀ s) (n : Nat) (hW : within 67109376 W := by first | assumption | exact within_trans (by assumption) (within_of (by decide))) :
    Frame W s₀ (State.updateCost s n) := by
  unfold State.updateCost
  try dsimp only
  repeat' with_reducible (first | assumption | apply frameRes_next | apply frameOpt_none | apply frameOpt_some | apply State.forEach_frame | apply State.when_frame | apply foldl_frame | apply foldl_fst_frame | apply foldl_snd_frame | intro _ | split | apply State.put_frame | apply State.setFlag_frame | apply State.post_frame | apply frameOpt_get (by assumption) | dsimp only)
  all_goals first | assumption | exact within_trans hW (within_of (by decide)) | exact within_group hW .srvRegs (by decide) rfl

theorem State.setMode_frame {W : Nat} {s₀ s : State} (hs : Frame W s₀ s) (n l mode : Nat) (hW : within 67109376 W) :
    Frame W s₀ (State.setMode s n l mode) := by
  have h1 : (loopModeFld n l).group = .srvRegs := by unfold loopModeFld; split <;> rfl
  unfold State.setMode
  repeat' with_reducible (first | assumption | apply State.updateCost_frame | apply State.put_frame)
  all_goals first | assumption | exact within_trans hW (within_of (by decide)) | exact within_group hW .srvRegs (by decide) h1

theorem execSrvPeriodWrite_frame {W : Nat} {s₀ s : State} (hs : Frame W s₀ s) (value : Word) (hW : within 67109376 W) :
    FrameRes W s₀ (execSrvPeriodWrite value s) := by
  unfold execSrvPeriodWrite
  try dsimp only
  repeat' with_reducible (first | assumption | apply frameRes_next | apply frameOpt_none | apply frameOpt_some | apply State.forEach_frame | apply State.when_frame | apply foldl_frame | apply foldl_fst_frame | apply foldl_snd_frame | intro _ | split | apply State.put_frame | apply State.updateCost_frame | apply frameOpt_get (by assumption) | dsimp only)
  all_goals first | assumption | exact within_trans hW (within_of (by decide)) | exact within_group hW .srvRegs (by decide) rfl

theorem execSectEnWrite_frame {W : Nat} {s₀ s : State} (hs : Frame W s₀ s) (n : Fin 16) (l : Fin 4) (value : Word) (hW : within 68786586112 W) :
    FrameRes W s₀ (execSectEnWrite n l value s) := by
  unfold execSectEnWrite
  try dsimp only
  repeat' with_reducible (first | assumption | apply frameRes_next | apply frameOpt_none | apply frameOpt_some | apply State.forEach_frame | apply State.when_frame | apply foldl_frame | apply foldl_fst_frame | apply foldl_snd_frame | intro _ | split | apply State.put_frame | apply State.setLp_frame | apply State.updateCost_frame | apply frameOpt_get (by assumption) | dsimp only)
  all_goals first | assumption | exact within_trans hW (within_of (by decide)) | exact within_group hW .srvRegs (by decide) rfl

theorem execInjEnable_frame {W : Nat} {s₀ s : State} (hs : Frame W s₀ s) (n : Fin 16) (amp : BitVec 16) (hW : within 68719477248 W) :
    FrameRes W s₀ (execInjEnable n amp s) := by
  unfold execInjEnable
  try dsimp only
  repeat' with_reducible (first | assumption | apply frameRes_next | apply frameOpt_none | apply frameOpt_some | apply State.forEach_frame | apply State.when_frame | apply foldl_frame | apply foldl_fst_frame | apply foldl_snd_frame | intro _ | split | apply State.put_frame | apply State.modLp_frame | apply frameOpt_get (by assumption) | dsimp only)
  all_goals first | assumption | exact within_trans hW (within_of (by decide)) | exact within_group hW .srvRegs (by decide) rfl

theorem execHoldExtendEnd_frame {W : Nat} {s₀ s : State} (hs : Frame W s₀ s) (n : Fin 16) (l : Fin 4) (hW : within 68719477248 W) :
    FrameRes W s₀ (execHoldExtendEnd n l s) := by
  unfold execHoldExtendEnd
  try dsimp only
  repeat' with_reducible (first | assumption | apply frameRes_next | apply frameOpt_none | apply frameOpt_some | apply State.forEach_frame | apply State.when_frame | apply foldl_frame | apply foldl_fst_frame | apply foldl_snd_frame | intro _ | split | apply State.setLp_frame | apply State.put_frame | apply frameOpt_get (by assumption) | dsimp only)
  all_goals first | assumption | exact within_trans hW (within_of (by decide)) | exact within_group hW .srvRegs (by decide) rfl

end Sys2Proof.Machine
end

