-- ==== Sys2Proof/Laws/FrameMotion.lean ====
section
/-!
SUPPORT. What the operations and commands of Machine/Motion.lean leave as it was: all parts outside a mask.
-/
set_option Elab.async false
set_option linter.all false
namespace Sys2Proof.Machine
set_option maxRecDepth 2000

theorem State.setMotor_frame {W : Nat} {s₀ s : State} (hs : Frame W s₀ s) (x : Nat) (m : Motor) (hW : within 274877906944 W) :
    Frame W s₀ (State.setMotor s x m) := by
  unfold State.setMotor
  try dsimp only
  repeat' with_reducible (first | assumption | apply frameRes_next | apply frameOpt_none | apply frameOpt_some | apply State.forEach_frame | apply State.when_frame | apply foldl_frame | apply foldl_fst_frame | apply foldl_snd_frame | intro _ | split | apply State.put_frame | apply frameOpt_get (by assumption) | apply Frame.set_motors | dsimp only)
  all_goals first | assumption | exact within_trans hW (within_of (by decide))

theorem State.modMotor_frame {W : Nat} {s₀ s : State} (hs : Frame W s₀ s) (x : Nat) (f : Motor → Motor) (hW : within 274877906944 W) :
    Frame W s₀ (State.modMotor s x f) := by
  unfold State.modMotor
  try dsimp only
  repeat' with_reducible (first | assumption | apply frameRes_next | apply frameOpt_none | apply frameOpt_some | apply State.forEach_frame | apply State.when_frame | apply foldl_frame | apply foldl_fst_frame | apply foldl_snd_frame | intro _ | split | apply State.setMotor_frame | apply frameOpt_get (by assumption) | dsimp only)
  all_goals first | assumption | exact within_trans hW (within_of (by decide))

theorem State.setGroup_frame {W : Nat} {s₀ s : State} (hs : Frame W s₀ s) (g : Nat) (y : Group) (hW : within 549755813888 W) :
    Frame W s₀ (State.setGroup s g y) := by
  unfold State.setGroup
  try dsimp only
  repeat' with_reducible (first | assumption | apply frameRes_next | apply frameOpt_none | apply frameOpt_some | apply State.forEach_frame | apply State.when_frame | apply foldl_frame | apply foldl_fst_frame | apply foldl_snd_frame | intro _ | split | apply State.put_frame | apply frameOpt_get (by assumption) | apply Frame.set_groups | dsimp only)
  all_goals first | assumption | exact within_trans hW (within_of (by decide))

theorem State.modGroup_frame {W : Nat} {s₀ s : State} (hs : Frame W s₀ s) (g : Nat) (f : Group → Group) (hW : within 549755813888 W) :
    Frame W s₀ (State.modGroup s g f) := by
  unfold State.modGroup
  try dsimp only
  repeat' with_reducible (first | assumption | apply frameRes_next | apply frameOpt_none | apply frameOpt_some | apply State.forEach_frame | apply State.when_frame | apply foldl_frame | apply foldl_fst_frame | apply foldl_snd_frame | intro _ | split | apply State.setGroup_frame | apply frameOpt_get (by assumption) | dsimp only)
  all_goals first | assumption | exact within_trans hW (within_of (by decide))

theorem State.setSpindle_frame {W : Nat} {s₀ s : State} (hs : Frame W s₀ s) (st : Nat) (x : Spindle) (hW : within 137438953472 W := by first | assumption | exact within_trans (by assumption) (within_of (by decide))) :
    Frame W s₀ (State.setSpindle s st x) := by
  unfold State.setSpindle
  try dsimp only
  repeat' with_reducible (first | assumption | apply frameRes_next | apply frameOpt_none | apply frameOpt_some | apply State.forEach_frame | apply State.when_frame | apply foldl_frame | apply foldl_fst_frame | apply foldl_snd_frame | intro _ | split | apply State.put_frame | apply frameOpt_get (by assumption) | apply Frame.set_spindles | dsimp only)
  all_goals first | assumption | exact within_trans hW (within_of (by decide))

theorem State.modSpindle_frame {W : Nat} {s₀ s : State} (hs : Frame W s₀ s) (st : Nat) (f : Spindle → Spindle) (hW : within 137438953472 W := by first | assumption | exact within_trans (by assumption) (within_of (by decide))) :
    Frame W s₀ (State.modSpindle s st f) := by
  unfold State.modSpindle
  try dsimp only
  repeat' with_reducible (first | assumption | apply frameRes_next | apply frameOpt_none | apply frameOpt_some | apply State.forEach_frame | apply State.when_frame | apply foldl_frame | apply foldl_fst_frame | apply foldl_snd_frame | intro _ | split | apply State.setSpindle_frame | apply frameOpt_get (by assumption) | dsimp only)
  all_goals first | assumption | exact within_trans hW (within_of (by decide))

theorem State.showMotor_frame {W : Nat} {s₀ s : State} (hs : Frame W s₀ s) (x : Nat) (hW : within 2048 W) :
    Frame W s₀ (State.showMotor s x) := by
  unfold State.showMotor
  try dsimp only
  repeat' with_reducible (first | assumption | apply frameRes_next | apply frameOpt_none | apply frameOpt_some | apply State.forEach_frame | apply State.when_frame | apply foldl_frame | apply foldl_fst_frame | apply foldl_snd_frame | intro _ | split | apply State.put_frame | apply frameOpt_get (by assumption) | dsimp only)
  all_goals first | assumption | exact within_trans hW (within_of (by decide)) | exact within_group hW .motRegs (by decide) rfl

theorem State.motorEvent_frame {W : Nat} {s₀ s : State} (hs : Frame W s₀ s) (code x : Nat) (hW : within 67108864 W) :
    Frame W s₀ (State.motorEvent s code x) := by
  unfold State.motorEvent
  try dsimp only
  repeat' with_reducible (first | assumption | apply frameRes_next | apply frameOpt_none | apply frameOpt_some | apply State.forEach_frame | apply State.when_frame | apply foldl_frame | apply foldl_fst_frame | apply foldl_snd_frame | intro _ | split | apply State.post_frame | apply frameOpt_get (by assumption) | dsimp only)
  all_goals first | assumption | exact within_trans hW (within_of (by decide))

theorem State.raiseMotor_frame {W : Nat} {s₀ s : State} (hs : Frame W s₀ s) (f : Fld) (code x : Nat) (hf : f.within W) (hW : within 67108864 W) :
    Frame W s₀ (State.raiseMotor s f code x) := by
  unfold State.raiseMotor
  try dsimp only
  repeat' with_reducible (first | assumption | apply frameRes_next | apply frameOpt_none | apply frameOpt_some | apply State.forEach_frame | apply State.when_frame | apply foldl_frame | apply foldl_fst_frame | apply foldl_snd_frame | intro _ | split | apply State.raise_frame | apply frameOpt_get (by assumption) | dsimp only)
  all_goals first | assumption | exact within_trans hW (within_of (by decide))

theorem State.endMove_frame {W : Nat} {s₀ s : State} (hs : Frame W s₀ s) (h : Option Nat) (fault : Bool) (hW : within 1107296256 W) :
    Frame W s₀ (State.endMove s h fault) := by
  unfold State.endMove
  try dsimp only
  repeat' with_reducible (first | assumption | apply frameRes_next | apply frameOpt_none | apply frameOpt_some | apply State.forEach_frame | apply State.when_frame | apply foldl_frame | apply foldl_fst_frame | apply foldl_snd_frame | intro _ | split | apply State.finish_frame | apply frameOpt_get (by assumption) | dsimp only)
  all_goals first | assumption | exact within_trans hW (within_of (by decide))

theorem State.motorRest_frame {W : Nat} {s₀ s : State} (hs : Frame W s₀ s) (x : Nat) (hW : within 275985205248 W) :
    Frame W s₀ (State.motorRest s x) := by
  unfold State.motorRest
  try dsimp only
  repeat' with_reducible (first | assumption | apply frameRes_next | apply frameOpt_none | apply frameOpt_some | apply State.forEach_frame | apply State.when_frame | apply foldl_frame | apply foldl_fst_frame | apply foldl_snd_frame | intro _ | split | apply State.setMotor_frame | apply State.put_frame | apply State.endMove_frame | apply frameOpt_get (by assumption) | dsimp only)
  all_goals first | assumption | exact within_trans hW (within_of (by decide)) | exact within_group hW .motRegs (by decide) rfl

theorem State.stopMotor_frame {W : Nat} {s₀ s : State} (hs : Frame W s₀ s) (x dec : Nat) (fault : Bool) (hW : within 275985205248 W) :
    Frame W s₀ (State.stopMotor s x dec fault) := by
  unfold State.stopMotor
  try dsimp only
  repeat' with_reducible (first | assumption | apply frameRes_next | apply frameOpt_none | apply frameOpt_some | apply State.forEach_frame | apply State.when_frame | apply foldl_frame | apply foldl_fst_frame | apply foldl_snd_frame | intro _ | split | apply State.put_frame | apply State.motorRest_frame | apply State.setMotor_frame | apply State.showMotor_frame | apply frameOpt_get (by assumption) | dsimp only)
  all_goals first | assumption | exact within_trans hW (within_of (by decide)) | exact within_group hW .motRegs (by decide) rfl

theorem State.brakeGroup_frame {W : Nat} {s₀ s : State} (hs : Frame W s₀ s) (g : Nat) (dec : Rat) (fault : Bool) (hW : within 549755813888 W) :
    Frame W s₀ (State.brakeGroup s g dec fault) := by
  unfold State.brakeGroup
  try dsimp only
  repeat' with_reducible (first | assumption | apply frameRes_next | apply frameOpt_none | apply frameOpt_some | apply State.forEach_frame | apply State.when_frame | apply foldl_frame | apply foldl_fst_frame | apply foldl_snd_frame | intro _ | split | apply State.setGroup_frame | apply frameOpt_get (by assumption) | dsimp only)
  all_goals first | assumption | exact within_trans hW (within_of (by decide))

theorem State.groupFault_frame {W : Nat} {s₀ s : State} (hs : Frame W s₀ s) (g : Nat) (hW : within 550930221056 W) :
    Frame W s₀ (State.groupFault s g) := by
  unfold State.groupFault
  try dsimp only
  repeat' with_reducible (first | assumption | apply frameRes_next | apply frameOpt_none | apply frameOpt_some | apply State.forEach_frame | apply State.when_frame | apply foldl_frame | apply foldl_fst_frame | apply foldl_snd_frame | intro _ | split | apply State.brakeGroup_frame | apply State.raise_frame | apply State.modGroup_frame | apply State.put_frame | apply State.finish_frame | apply frameOpt_get (by assumption) | dsimp only)
  all_goals first | assumption | exact within_trans hW (within_of (by decide)) | exact within_group hW .motRegs (by decide) rfl

theorem State.groupRest_frame {W : Nat} {s₀ s : State} (hs : Frame W s₀ s) (g : Nat) (hW : within 550863112192 W) :
    Frame W s₀ (State.groupRest s g) := by
  unfold State.groupRest
  try dsimp only
  repeat' with_reducible (first | assumption | apply frameRes_next | apply frameOpt_none | apply frameOpt_some | apply State.forEach_frame | apply State.when_frame | apply foldl_frame | apply foldl_fst_frame | apply foldl_snd_frame | intro _ | split | apply State.setGroup_frame | apply State.put_frame | apply State.endMove_frame | apply frameOpt_get (by assumption) | dsimp only)
  all_goals first | assumption | exact within_trans hW (within_of (by decide)) | exact within_group hW .motRegs (by decide) rfl

theorem State.beginLine_frame {W : Nat} {s₀ s : State} (hs : Frame W s₀ s) (g : Nat) (members : List Nat) (targets : List Int) (feed : Option Nat) (v : Rat) (h : Option Nat) (hW : within 550863112192 W) :
    Frame W s₀ (State.beginLine s g members targets feed v h) := by
  unfold State.beginLine
  try dsimp only
  repeat' with_reducible (first | assumption | apply frameRes_next | apply frameOpt_none | apply frameOpt_some | apply State.forEach_frame | apply State.when_frame | apply foldl_frame | apply foldl_fst_frame | apply foldl_snd_frame | intro _ | split | apply State.setGroup_frame | apply State.groupRest_frame | apply frameOpt_get (by assumption) | dsimp only)
  all_goals first | assumption | exact within_trans hW (within_of (by decide)) | exact within_group hW .motRegs (by decide) rfl

theorem State.nextSegment_frame {W : Nat} {s₀ s : State} (hs : Frame W s₀ s) (g : Nat) (v : Rat) (hW : within 550863112192 W) :
    Frame W s₀ (State.nextSegment s g v) := by
  unfold State.nextSegment
  try dsimp only
  repeat' with_reducible (first | assumption | apply frameRes_next | apply frameOpt_none | apply frameOpt_some | apply State.forEach_frame | apply State.when_frame | apply foldl_frame | apply foldl_fst_frame | apply foldl_snd_frame | intro _ | split | apply State.setGroup_frame | apply State.put_frame | apply State.beginLine_frame | apply frameOpt_get (by assumption) | dsimp only)
  all_goals first | assumption | exact within_trans hW (within_of (by decide)) | exact within_group hW .motRegs (by decide) rfl

theorem State.admitSegments_frame {W : Nat} {s₀ s : State} (hs : Frame W s₀ s) (g : Nat) (hW : within 550863112192 W) :
    Frame W s₀ (State.admitSegments s g) := by
  unfold State.admitSegments
  try dsimp only
  repeat' with_reducible (first | assumption | apply frameRes_next | apply frameOpt_none | apply frameOpt_some | apply State.forEach_frame | apply State.when_frame | apply foldl_frame | apply foldl_fst_frame | apply foldl_snd_frame | intro _ | split | apply State.setGroup_frame | apply State.put_frame | apply State.finish_frame | apply frameOpt_get (by assumption) | dsimp only)
  all_goals first | assumption | exact within_trans hW (within_of (by decide)) | exact within_group hW .motRegs (by decide) rfl

theorem State.groupTick_frame {W : Nat} {s₀ s : State} (hs : Frame W s₀ s) (g : Nat) (hW : within 825808128000 W) :
    Frame W s₀ (State.groupTick s g) := by
  unfold State.groupTick
  try dsimp only
  repeat' with_reducible (first | assumption | apply frameRes_next | apply frameOpt_none | apply frameOpt_some | apply State.forEach_frame | apply State.when_frame | apply foldl_frame | apply foldl_fst_frame | apply foldl_snd_frame | intro _ | split | apply State.nextSegment_frame | apply State.admitSegments_frame | apply State.setGroup_frame | apply State.modMotor_frame | apply State.showMotor_frame | apply State.groupRest_frame | apply State.raise_frame | apply frameOpt_get (by assumption) | dsimp only)
  all_goals first | assumption | exact within_trans hW (within_of (by decide)) | exact within_group hW .motRegs (by decide) rfl

theorem State.faultAxis_frame {W : Nat} {s₀ s : State} (hs : Frame W s₀ s) (m : Nat) (hW : within 825808128000 W) :
    Frame W s₀ (State.faultAxis s m) := by
  unfold State.faultAxis
  try dsimp only
  repeat' with_reducible (first | assumption | apply frameRes_next | apply frameOpt_none | apply frameOpt_some | apply State.forEach_frame | apply State.when_frame | apply foldl_frame | apply foldl_fst_frame | apply foldl_snd_frame | intro _ | split | apply State.groupFault_frame | apply State.stopMotor_frame | apply frameOpt_get (by assumption) | dsimp only)
  all_goals first | assumption | exact within_trans hW (within_of (by decide)) | exact within_group hW .motRegs (by decide) rfl

theorem State.setHome_frame {W : Nat} {s₀ s : State} (hs : Frame W s₀ s) (m v : Nat) (hW : within 2048 W) :
    Frame W s₀ (State.setHome s m v) := by
  unfold State.setHome
  try dsimp only
  repeat' with_reducible (first | assumption | apply frameRes_next | apply frameOpt_none | apply frameOpt_some | apply State.forEach_frame | apply State.when_frame | apply foldl_frame | apply foldl_fst_frame | apply foldl_snd_frame | intro _ | split | apply State.put_frame | apply frameOpt_get (by assumption) | dsimp only)
  all_goals first | assumption | exact within_trans hW (within_of (by decide)) | exact within_group hW .motRegs (by decide) rfl

theorem State.homingFault_frame {W : Nat} {s₀ s : State} (hs : Frame W s₀ s) (m : Nat) (dec : Option Nat) (hW : within 276052314112 W) :
    Frame W s₀ (State.homingFault s m dec) := by
  unfold State.homingFault
  try dsimp only
  repeat' with_reducible (first | assumption | apply frameRes_next | apply frameOpt_none | apply frameOpt_some | apply State.forEach_frame | apply State.when_frame | apply foldl_frame | apply foldl_fst_frame | apply foldl_snd_frame | intro _ | split | apply State.setHome_frame | apply State.raiseMotor_frame | apply State.stopMotor_frame | apply State.modMotor_frame | apply State.motorRest_frame | apply frameOpt_get (by assumption) | dsimp only)
  all_goals first | assumption | exact within_trans hW (within_of (by decide)) | exact within_group hW .motRegs (by decide) rfl

theorem State.runMotor_frame {W : Nat} {s₀ s : State} (hs : Frame W s₀ s) (x : Nat) (target : Option Int) (dir : Int) (vmax : Option Nat) (hW : within 274877908992 W) :
    Frame W s₀ (State.runMotor s x target dir vmax) := by
  unfold State.runMotor
  try dsimp only
  repeat' with_reducible (first | assumption | apply frameRes_next | apply frameOpt_none | apply frameOpt_some | apply State.forEach_frame | apply State.when_frame | apply foldl_frame | apply foldl_fst_frame | apply foldl_snd_frame | intro _ | split | apply State.setMotor_frame | apply State.showMotor_frame | apply frameOpt_get (by assumption) | dsimp only)
  all_goals first | assumption | exact within_trans hW (within_of (by decide)) | exact within_group hW .motRegs (by decide) rfl

theorem State.homeTick_frame {W : Nat} {s₀ s : State} (hs : Frame W s₀ s) (m : Nat) (hW : within 276052314112 W) :
    Frame W s₀ (State.homeTick s m) := by
  unfold State.homeTick
  try dsimp only
  repeat' with_reducible (first | assumption | apply frameRes_next | apply frameOpt_none | apply frameOpt_some | apply State.forEach_frame | apply State.when_frame | apply foldl_frame | apply foldl_fst_frame | apply foldl_snd_frame | intro _ | split | apply State.homingFault_frame | apply State.setHome_frame | apply State.runMotor_frame | apply State.modMotor_frame | apply State.raiseMotor_frame | apply State.endMove_frame | apply frameOpt_get (by assumption) | dsimp only)
  all_goals first | assumption | exact within_trans hW (within_of (by decide)) | exact within_group hW .motRegs (by decide) rfl

theorem State.restHoming_frame {W : Nat} {s₀ s : State} (hs : Frame W s₀ s) (x : Nat) (hW : within 274877908992 W) :
    Frame W s₀ (State.restHoming s x) := by
  unfold State.restHoming
  try dsimp only
  repeat' with_reducible (first | assumption | apply frameRes_next | apply frameOpt_none | apply frameOpt_some | apply State.forEach_frame | apply State.when_frame | apply foldl_frame | apply foldl_fst_frame | apply foldl_snd_frame | intro _ | split | apply State.setMotor_frame | apply State.put_frame | apply frameOpt_get (by assumption) | dsimp only)
  all_goals first | assumption | exact within_trans hW (within_of (by decide)) | exact within_group hW .motRegs (by decide) rfl

theorem State.nudge_frame {W : Nat} {s₀ s : State} (hs : Frame W s₀ s) (x : Nat) (d : Int) (hW : within 274945017856 W) :
    Frame W s₀ (State.nudge s x d) := by
  unfold State.nudge
  try dsimp only
  repeat' with_reducible (first | assumption | apply frameRes_next | apply frameOpt_none | apply frameOpt_some | apply State.forEach_frame | apply State.when_frame | apply foldl_frame | apply foldl_fst_frame | apply foldl_snd_frame | intro _ | split | apply State.setMotor_frame | apply State.showMotor_frame | apply State.raiseMotor_frame | apply frameOpt_get (by assumption) | dsimp only)
  all_goals first | assumption | exact within_trans hW (within_of (by decide)) | exact within_group hW .motRegs (by decide) rfl

theorem State.gearCounts_frame {W : Nat} {s₀ s : State} (hs : Frame W s₀ s) (x : Nat) (before n : Int) (hW : within 274945017856 W) :
    Frame W s₀ (State.gearCounts s x before n) := by
  unfold State.gearCounts
  try dsimp only
  repeat' with_reducible (first | assumption | apply frameRes_next | apply frameOpt_none | apply frameOpt_some | apply State.forEach_frame | apply State.when_frame | apply foldl_frame | apply foldl_fst_frame | apply foldl_snd_frame | intro _ | split | apply State.nudge_frame | apply State.setMotor_frame | apply frameOpt_get (by assumption) | dsimp only)
  all_goals first | assumption | exact within_trans hW (within_of (by decide)) | exact within_group hW .motRegs (by decide) rfl

theorem State.followAngle_frame {W : Nat} {s₀ s : State} (hs : Frame W s₀ s) (st angle : Nat) (hW : within 412383972352 W := by first | assumption | exact within_trans (by assumption) (within_of (by decide))) :
    Frame W s₀ (State.followAngle s st angle) := by
  unfold State.followAngle
  try dsimp only
  repeat' with_reducible (first | assumption | apply frameRes_next | apply frameOpt_none | apply frameOpt_some | apply State.forEach_frame | apply State.when_frame | apply foldl_frame | apply foldl_fst_frame | apply foldl_snd_frame | intro _ | split | apply State.put_frame | apply State.setSpindle_frame | apply State.gearCounts_frame | apply frameOpt_get (by assumption) | dsimp only)
  all_goals first | assumption | exact within_trans hW (within_of (by decide)) | exact within_group hW .spnRegs (by decide) rfl | exact within_group hW .motRegs (by decide) rfl

theorem State.advanceAngle_frame {W : Nat} {s₀ s : State} (hs : Frame W s₀ s) (st : Nat) (hW : within 412383972352 W) :
    Frame W s₀ (State.advanceAngle s st) := by
  unfold State.advanceAngle
  try dsimp only
  repeat' with_reducible (first | assumption | apply frameRes_next | apply frameOpt_none | apply frameOpt_some | apply State.forEach_frame | apply State.when_frame | apply foldl_frame | apply foldl_fst_frame | apply foldl_snd_frame | intro _ | split | apply State.followAngle_frame | apply frameOpt_get (by assumption) | dsimp only)
  all_goals first | assumption | exact within_trans hW (within_of (by decide)) | exact within_group hW .spnRegs (by decide) rfl | exact within_group hW .motRegs (by decide) rfl

theorem State.deliverRequest_frame {W : Nat} {s₀ s : State} (hs : Frame W s₀ s) (x : Nat) (hW : within 274945017856 W) :
    Frame W s₀ (State.deliverRequest s x) := by
  unfold State.deliverRequest
  try dsimp only
  repeat' with_reducible (first | assumption | apply frameRes_next | apply frameOpt_none | apply frameOpt_some | apply State.forEach_frame | apply State.when_frame | apply foldl_frame | apply foldl_fst_frame | apply foldl_snd_frame | intro _ | split | apply State.setMotor_frame | apply State.nudge_frame | apply frameOpt_get (by assumption) | dsimp only)
  all_goals first | assumption | exact within_trans hW (within_of (by decide)) | exact within_group hW .motRegs (by decide) rfl

theorem State.motorStep_frame {W : Nat} {s₀ s : State} (hs : Frame W s₀ s) (x : Nat) (hW : within 275985205248 W) :
    Frame W s₀ (State.motorStep s x) := by
  unfold State.motorStep
  try dsimp only
  repeat' with_reducible (first | assumption | apply frameRes_next | apply frameOpt_none | apply frameOpt_some | apply State.forEach_frame | apply State.when_frame | apply foldl_frame | apply foldl_fst_frame | apply foldl_snd_frame | intro _ | split | apply State.setMotor_frame | apply State.showMotor_frame | apply State.restHoming_frame | apply State.motorRest_frame | apply frameOpt_get (by assumption) | dsimp only)
  all_goals first | assumption | exact within_trans hW (within_of (by decide)) | exact within_group hW .motRegs (by decide) rfl

theorem State.emitSteps_frame {W : Nat} {s₀ s : State} (hs : Frame W s₀ s) (x : Nat) (hW : within 274877908992 W) :
    Frame W s₀ (State.emitSteps s x) := by
  unfold State.emitSteps
  try dsimp only
  repeat' with_reducible (first | assumption | apply frameRes_next | apply frameOpt_none | apply frameOpt_some | apply State.forEach_frame | apply State.when_frame | apply foldl_frame | apply foldl_fst_frame | apply foldl_snd_frame | intro _ | split | apply State.setMotor_frame | apply State.put_frame | apply frameOpt_get (by assumption) | dsimp only)
  all_goals first | assumption | exact within_trans hW (within_of (by decide)) | exact within_group hW .motRegs (by decide) rfl

theorem State.followCheck_frame {W : Nat} {s₀ s : State} (hs : Frame W s₀ s) (m : Nat) (hW : within 825808128000 W) :
    Frame W s₀ (State.followCheck s m) := by
  unfold State.followCheck
  try dsimp only
  repeat' with_reducible (first | assumption | apply frameRes_next | apply frameOpt_none | apply frameOpt_some | apply State.forEach_frame | apply State.when_frame | apply foldl_frame | apply foldl_fst_frame | apply foldl_snd_frame | intro _ | split | apply State.raiseMotor_frame | apply State.faultAxis_frame | apply frameOpt_get (by assumption) | dsimp only)
  all_goals first | assumption | exact within_trans hW (within_of (by decide)) | exact within_group hW .motRegs (by decide) rfl

theorem execProfileTick_frame {W : Nat} {s₀ s : State} (hs : Frame W s₀ s) (hW : within 963247082496 W) :
    FrameRes W s₀ (execProfileTick s) := by
  unfold execProfileTick
  try dsimp only
  repeat' with_reducible (first | assumption | apply frameRes_next | apply frameOpt_none | apply frameOpt_some | apply State.forEach_frame | apply State.when_frame | apply foldl_frame | apply foldl_fst_frame | apply foldl_snd_frame | intro _ | split | apply State.advanceAngle_frame | apply State.followCheck_frame | apply State.deliverRequest_frame | apply State.motorStep_frame | apply State.homeTick_frame | apply State.groupTick_frame | apply State.emitSteps_frame | apply frameOpt_get (by assumption) | dsimp only)
  all_goals first | assumption | exact within_trans hW (within_of (by decide)) | exact within_group hW .spnRegs (by decide) rfl | exact within_group hW .motRegs (by decide) rfl

theorem State.rejectMotor_frame {W : Nat} {s₀ s : State} (hs : Frame W s₀ s) (x : Nat) (hW : within 2048 W) :
    Frame W s₀ (State.rejectMotor s x) := by
  unfold State.rejectMotor
  try dsimp only
  repeat' with_reducible (first | assumption | apply frameRes_next | apply frameOpt_none | apply frameOpt_some | apply State.forEach_frame | apply State.when_frame | apply foldl_frame | apply foldl_fst_frame | apply foldl_snd_frame | intro _ | split | apply State.put_frame | apply frameOpt_get (by assumption) | dsimp only)
  all_goals first | assumption | exact within_trans hW (within_of (by decide)) | exact within_group hW .motRegs (by decide) rfl

theorem State.startMotor_frame {W : Nat} {s₀ s : State} (hs : Frame W s₀ s) (x : Nat) (h : Option Nat) (hW : within 275985205248 W) :
    Frame W s₀ (State.startMotor s x h) := by
  unfold State.startMotor
  try dsimp only
  repeat' with_reducible (first | assumption | apply frameRes_next | apply frameOpt_none | apply frameOpt_some | apply State.forEach_frame | apply State.when_frame | apply foldl_frame | apply foldl_fst_frame | apply foldl_snd_frame | intro _ | split | apply State.modMotor_frame | apply State.runMotor_frame | apply State.motorRest_frame | apply State.showMotor_frame | apply State.rejectMotor_frame | apply State.endMove_frame | apply frameOpt_get (by assumption) | dsimp only)
  all_goals first | assumption | exact within_trans hW (within_of (by decide)) | exact within_group hW .motRegs (by decide) rfl

theorem execMotorStart_frame {W : Nat} {s₀ s : State} (hs : Frame W s₀ s) (x : Fin 28) (hW : within 275985205248 W) :
    FrameRes W s₀ (execMotorStart x s) := by
  unfold execMotorStart
  try dsimp only
  repeat' with_reducible (first | assumption | apply frameRes_next | apply frameOpt_none | apply frameOpt_some | apply State.forEach_frame | apply State.when_frame | apply foldl_frame | apply foldl_fst_frame | apply foldl_snd_frame | intro _ | split | apply State.startMotor_frame | apply frameOpt_get (by assumption) | dsimp only)
  all_goals first | assumption | exact within_trans hW (within_of (by decide)) | exact within_group hW .motRegs (by decide) rfl

theorem State.rappel_frame {W : Nat} {s₀ s : State} (hs : Frame W s₀ s) (x dec : Nat) (hW : within 825741019136 W) :
    Frame W s₀ (State.rappel s x dec) := by
  unfold State.rappel
  try dsimp only
  repeat' with_reducible (first | assumption | apply frameRes_next | apply frameOpt_none | apply frameOpt_some | apply State.forEach_frame | apply State.when_frame | apply foldl_frame | apply foldl_fst_frame | apply foldl_snd_frame | intro _ | split | apply State.brakeGroup_frame | apply State.stopMotor_frame | apply frameOpt_get (by assumption) | dsimp only)
  all_goals first | assumption | exact within_trans hW (within_of (by decide)) | exact within_group hW .motRegs (by decide) rfl

theorem execMotorRappel_frame {W : Nat} {s₀ s : State} (hs : Frame W s₀ s) (x : Fin 28) (hW : within 825741019136 W) :
    FrameRes W s₀ (execMotorRappel x s) := by
  unfold execMotorRappel
  try dsimp only
  repeat' with_reducible (first | assumption | apply frameRes_next | apply frameOpt_none | apply frameOpt_some | apply State.forEach_frame | apply State.when_frame | apply foldl_frame | apply foldl_fst_frame | apply foldl_snd_frame | intro _ | split | apply State.rappel_frame | apply frameOpt_get (by assumption) | dsimp only)
  all_goals first | assumption | exact within_trans hW (within_of (by decide)) | exact within_group hW .motRegs (by decide) rfl

theorem execMotorEmergency_frame {W : Nat} {s₀ s : State} (hs : Frame W s₀ s) (x : Fin 28) (hW : within 825741019136 W) :
    FrameRes W s₀ (execMotorEmergency x s) := by
  unfold execMotorEmergency
  try dsimp only
  repeat' with_reducible (first | assumption | apply frameRes_next | apply frameOpt_none | apply frameOpt_some | apply State.forEach_frame | apply State.when_frame | apply foldl_frame | apply foldl_fst_frame | apply foldl_snd_frame | intro _ | split | apply State.rappel_frame | apply frameOpt_get (by assumption) | dsimp only)
  all_goals first | assumption | exact within_trans hW (within_of (by decide)) | exact within_group hW .motRegs (by decide) rfl

theorem State.startHoming_frame {W : Nat} {s₀ s : State} (hs : Frame W s₀ s) (m : Nat) (h : Option Nat) (hW : within 275985205248 W) :
    Frame W s₀ (State.startHoming s m h) := by
  unfold State.startHoming
  try dsimp only
  repeat' with_reducible (first | assumption | apply frameRes_next | apply frameOpt_none | apply frameOpt_some | apply State.forEach_frame | apply State.when_frame | apply foldl_frame | apply foldl_fst_frame | apply foldl_snd_frame | intro _ | split | apply State.setHome_frame | apply State.modMotor_frame | apply State.runMotor_frame | apply State.rejectMotor_frame | apply State.endMove_frame | apply frameOpt_get (by assumption) | dsimp only)
  all_goals first | assumption | exact within_trans hW (within_of (by decide)) | exact within_group hW .motRegs (by decide) rfl

theorem execMotorHome_frame {W : Nat} {s₀ s : State} (hs : Frame W s₀ s) (m : Fin 12) (hW : within 275985205248 W) :
    FrameRes W s₀ (execMotorHome m s) := by
  unfold execMotorHome
  try dsimp only
  repeat' with_reducible (first | assumption | apply frameRes_next | apply frameOpt_none | apply frameOpt_some | apply State.forEach_frame | apply State.when_frame | apply foldl_frame | apply foldl_fst_frame | apply foldl_snd_frame | intro _ | split | apply State.startHoming_frame | apply frameOpt_get (by assumption) | dsimp only)
  all_goals first | assumption | exact within_trans hW (within_of (by decide)) | exact within_group hW .motRegs (by decide) rfl

theorem execMotorTargetWrite_frame {W : Nat} {s₀ s : State} (hs : Frame W s₀ s) (x : Fin 28) (value : Word) (hW : within 274877908992 W) :
    FrameRes W s₀ (execMotorTargetWrite x value s) := by
  unfold execMotorTargetWrite
  try dsimp only
  repeat' with_reducible (first | assumption | apply frameRes_next | apply frameOpt_none | apply frameOpt_some | apply State.forEach_frame | apply State.when_frame | apply foldl_frame | apply foldl_fst_frame | apply foldl_snd_frame | intro _ | split | apply State.put_frame | apply State.setMotor_frame | apply State.rejectMotor_frame | apply frameOpt_get (by assumption) | dsimp only)
  all_goals first | assumption | exact within_trans hW (within_of (by decide)) | exact within_group hW .motRegs (by decide) rfl

theorem execMotorSpeedWrite_frame {W : Nat} {s₀ s : State} (hs : Frame W s₀ s) (x : Fin 28) (acc : Bool) (value : Word) (hW : within 274877908992 W) :
    FrameRes W s₀ (execMotorSpeedWrite x acc value s) := by
  unfold execMotorSpeedWrite
  try dsimp only
  repeat' with_reducible (first | assumption | apply frameRes_next | apply frameOpt_none | apply frameOpt_some | apply State.forEach_frame | apply State.when_frame | apply foldl_frame | apply foldl_fst_frame | apply foldl_snd_frame | intro _ | split | apply State.put_frame | apply State.setMotor_frame | apply State.showMotor_frame | apply frameOpt_get (by assumption) | dsimp only)
  all_goals first | assumption | exact within_trans hW (within_of (by decide)) | exact within_group hW .motRegs (by decide) rfl

theorem execMotorDecWrite_frame {W : Nat} {s₀ s : State} (hs : Frame W s₀ s) (x : Fin 28) (value : Word) (hW : within 274945017856 W) :
    FrameRes W s₀ (execMotorDecWrite x value s) := by
  unfold execMotorDecWrite
  try dsimp only
  repeat' with_reducible (first | assumption | apply frameRes_next | apply frameOpt_none | apply frameOpt_some | apply State.forEach_frame | apply State.when_frame | apply foldl_frame | apply foldl_fst_frame | apply foldl_snd_frame | intro _ | split | apply State.put_frame | apply State.setMotor_frame | apply State.raiseMotor_frame | apply frameOpt_get (by assumption) | dsimp only)
  all_goals first | assumption | exact within_trans hW (within_of (by decide)) | exact within_group hW .motRegs (by decide) rfl

theorem execMotorPosSet_frame {W : Nat} {s₀ s : State} (hs : Frame W s₀ s) (x : Fin 28) (value : Word) (hW : within 274877908992 W) :
    FrameRes W s₀ (execMotorPosSet x value s) := by
  unfold execMotorPosSet
  try dsimp only
  repeat' with_reducible (first | assumption | apply frameRes_next | apply frameOpt_none | apply frameOpt_some | apply State.forEach_frame | apply State.when_frame | apply foldl_frame | apply foldl_fst_frame | apply foldl_snd_frame | intro _ | split | apply State.rejectMotor_frame | apply State.setMotor_frame | apply State.showMotor_frame | apply frameOpt_get (by assumption) | dsimp only)
  all_goals first | assumption | exact within_trans hW (within_of (by decide)) | exact within_group hW .motRegs (by decide) rfl

theorem State.setGear_frame {W : Nat} {s₀ s : State} (hs : Frame W s₀ s) (x : Nat) (on : Bool) (hW : within 274877908992 W) :
    Frame W s₀ (State.setGear s x on) := by
  unfold State.setGear
  try dsimp only
  repeat' with_reducible (first | assumption | apply frameRes_next | apply frameOpt_none | apply frameOpt_some | apply State.forEach_frame | apply State.when_frame | apply foldl_frame | apply foldl_fst_frame | apply foldl_snd_frame | intro _ | split | apply State.rejectMotor_frame | apply State.setFlag_frame | apply State.modMotor_frame | apply frameOpt_get (by assumption) | dsimp only)
  all_goals first | assumption | exact within_trans hW (within_of (by decide)) | exact within_group hW .motRegs (by decide) rfl

theorem execGearEngage_frame {W : Nat} {s₀ s : State} (hs : Frame W s₀ s) (x : Fin 16) (on : Bool) (hW : within 274877908992 W) :
    FrameRes W s₀ (execGearEngage x on s) := by
  unfold execGearEngage
  try dsimp only
  repeat' with_reducible (first | assumption | apply frameRes_next | apply frameOpt_none | apply frameOpt_some | apply State.forEach_frame | apply State.when_frame | apply foldl_frame | apply foldl_fst_frame | apply foldl_snd_frame | intro _ | split | apply State.setGear_frame | apply frameOpt_get (by assumption) | dsimp only)
  all_goals first | assumption | exact within_trans hW (within_of (by decide)) | exact within_group hW .motRegs (by decide) rfl

theorem State.changeGear_frame {W : Nat} {s₀ s : State} (hs : Frame W s₀ s) (x : Nat) (hW : within 274945017856 W) :
    Frame W s₀ (State.changeGear s x) := by
  unfold State.changeGear
  try dsimp only
  repeat' with_reducible (first | assumption | apply frameRes_next | apply frameOpt_none | apply frameOpt_some | apply State.forEach_frame | apply State.when_frame | apply foldl_frame | apply foldl_fst_frame | apply foldl_snd_frame | intro _ | split | apply State.put_frame | apply State.setMotor_frame | apply State.nudge_frame | apply frameOpt_get (by assumption) | dsimp only)
  all_goals first | assumption | exact within_trans hW (within_of (by decide)) | exact within_group hW .motRegs (by decide) rfl

theorem State.armGear_frame {W : Nat} {s₀ s : State} (hs : Frame W s₀ s) (x : Nat) (hW : within 274945017856 W) :
    Frame W s₀ (State.armGear s x) := by
  unfold State.armGear
  try dsimp only
  repeat' with_reducible (first | assumption | apply frameRes_next | apply frameOpt_none | apply frameOpt_some | apply State.forEach_frame | apply State.when_frame | apply foldl_frame | apply foldl_fst_frame | apply foldl_snd_frame | intro _ | split | apply State.put_frame | apply State.modMotor_frame | apply State.changeGear_frame | apply State.raiseMotor_frame | apply frameOpt_get (by assumption) | dsimp only)
  all_goals first | assumption | exact within_trans hW (within_of (by decide)) | exact within_group hW .motRegs (by decide) rfl

theorem execGearArm_frame {W : Nat} {s₀ s : State} (hs : Frame W s₀ s) (x : Fin 16) (hW : within 274945017856 W) :
    FrameRes W s₀ (execGearArm x s) := by
  unfold execGearArm
  try dsimp only
  repeat' with_reducible (first | assumption | apply frameRes_next | apply frameOpt_none | apply frameOpt_some | apply State.forEach_frame | apply State.when_frame | apply foldl_frame | apply foldl_fst_frame | apply foldl_snd_frame | intro _ | split | apply State.armGear_frame | apply frameOpt_get (by assumption) | dsimp only)
  all_goals first | assumption | exact within_trans hW (within_of (by decide)) | exact within_group hW .motRegs (by decide) rfl

theorem execGearChange_frame {W : Nat} {s₀ s : State} (hs : Frame W s₀ s) (x : Fin 16) (hW : within 274945017856 W) :
    FrameRes W s₀ (execGearChange x s) := by
  unfold execGearChange
  try dsimp only
  repeat' with_reducible (first | assumption | apply frameRes_next | apply frameOpt_none | apply frameOpt_some | apply State.forEach_frame | apply State.when_frame | apply foldl_frame | apply foldl_fst_frame | apply foldl_snd_frame | intro _ | split | apply State.changeGear_frame | apply frameOpt_get (by assumption) | dsimp only)
  all_goals first | assumption | exact within_trans hW (within_of (by decide)) | exact within_group hW .motRegs (by decide) rfl

theorem execGroupMembersWrite_frame {W : Nat} {s₀ s : State} (hs : Frame W s₀ s) (g : Fin 3) (members : BitVec 32) (hW : within 2048 W := by first | assumption | exact within_trans (by assumption) (within_of (by decide))) :
    FrameRes W s₀ (execGroupMembersWrite g members s) := by
  unfold execGroupMembersWrite
  try dsimp only
  repeat' with_reducible (first | assumption | apply frameRes_next | apply frameOpt_none | apply frameOpt_some | apply State.forEach_frame | apply State.when_frame | apply foldl_frame | apply foldl_fst_frame | apply foldl_snd_frame | intro _ | split | apply State.put_frame | apply frameOpt_get (by assumption) | dsimp only)
  all_goals first | assumption | exact within_trans hW (within_of (by decide)) | exact within_group hW .motRegs (by decide) rfl

theorem State.startGroup_frame {W : Nat} {s₀ s : State} (hs : Frame W s₀ s) (g : Nat) (h : Option Nat) (hW : within 825741019136 W) :
    Frame W s₀ (State.startGroup s g h) := by
  unfold State.startGroup
  try dsimp only
  repeat' with_reducible (first | assumption | apply frameRes_next | apply frameOpt_none | apply frameOpt_some | apply State.forEach_frame | apply State.when_frame | apply foldl_frame | apply foldl_fst_frame | apply foldl_snd_frame | intro _ | split | apply State.put_frame | apply State.endMove_frame | apply State.modMotor_frame | apply State.beginLine_frame | apply frameOpt_get (by assumption) | dsimp only)
  all_goals first | assumption | exact within_trans hW (within_of (by decide)) | exact within_group hW .motRegs (by decide) rfl

theorem execGroupStart_frame {W : Nat} {s₀ s : State} (hs : Frame W s₀ s) (g : Fin 3) (hW : within 825741019136 W := by first | assumption | exact within_trans (by assumption) (within_of (by decide))) :
    FrameRes W s₀ (execGroupStart g s) := by
  unfold execGroupStart
  try dsimp only
  repeat' with_reducible (first | assumption | apply frameRes_next | apply frameOpt_none | apply frameOpt_some | apply State.forEach_frame | apply State.when_frame | apply foldl_frame | apply foldl_fst_frame | apply foldl_snd_frame | intro _ | split | apply State.startGroup_frame | apply frameOpt_get (by assumption) | dsimp only)
  all_goals first | assumption | exact within_trans hW (within_of (by decide)) | exact within_group hW .motRegs (by decide) rfl

theorem execGroupRappel_frame {W : Nat} {s₀ s : State} (hs : Frame W s₀ s) (g : Fin 3) (hW : within 549755815936 W := by first | assumption | exact within_trans (by assumption) (within_of (by decide))) :
    FrameRes W s₀ (execGroupRappel g s) := by
  unfold execGroupRappel
  try dsimp only
  repeat' with_reducible (first | assumption | apply frameRes_next | apply frameOpt_none | apply frameOpt_some | apply State.forEach_frame | apply State.when_frame | apply foldl_frame | apply foldl_fst_frame | apply foldl_snd_frame | intro _ | split | apply State.modGroup_frame | apply State.put_frame | apply State.brakeGroup_frame | apply frameOpt_get (by assumption) | dsimp only)
  all_goals first | assumption | exact within_trans hW (within_of (by decide)) | exact within_group hW .motRegs (by decide) rfl

theorem execEstopAll_frame {W : Nat} {s₀ s : State} (hs : Frame W s₀ s) (hW : within 825808128000 W) :
    FrameRes W s₀ (execEstopAll s) := by
  unfold execEstopAll
  try dsimp only
  repeat' with_reducible (first | assumption | apply frameRes_next | apply frameOpt_none | apply frameOpt_some | apply State.forEach_frame | apply State.when_frame | apply foldl_frame | apply foldl_fst_frame | apply foldl_snd_frame | intro _ | split | apply State.raise_frame | apply State.modGroup_frame | apply State.put_frame | apply State.brakeGroup_frame | apply State.setHome_frame | apply State.stopMotor_frame | apply frameOpt_get (by assumption) | dsimp only)
  all_goals first | assumption | exact within_trans hW (within_of (by decide)) | exact within_group hW .motRegs (by decide) rfl

theorem execEstopClear_frame {W : Nat} {s₀ s : State} (hs : Frame W s₀ s) (hW : within 2048 W) :
    FrameRes W s₀ (execEstopClear s) := by
  unfold execEstopClear
  try dsimp only
  repeat' with_reducible (first | assumption | apply frameRes_next | apply frameOpt_none | apply frameOpt_some | apply State.forEach_frame | apply State.when_frame | apply foldl_frame | apply foldl_fst_frame | apply foldl_snd_frame | intro _ | split | apply State.put_frame | apply frameOpt_get (by assumption) | dsimp only)
  all_goals first | assumption | exact within_trans hW (within_of (by decide)) | exact within_group hW .motRegs (by decide) rfl

theorem execHomeFaultClear_frame {W : Nat} {s₀ s : State} (hs : Frame W s₀ s) (m : Fin 12) (hW : within 2048 W) :
    FrameRes W s₀ (execHomeFaultClear m s) := by
  unfold execHomeFaultClear
  try dsimp only
  repeat' with_reducible (first | assumption | apply frameRes_next | apply frameOpt_none | apply frameOpt_some | apply State.forEach_frame | apply State.when_frame | apply foldl_frame | apply foldl_fst_frame | apply foldl_snd_frame | intro _ | split | apply State.put_frame | apply State.setHome_frame | apply frameOpt_get (by assumption) | dsimp only)
  all_goals first | assumption | exact within_trans hW (within_of (by decide)) | exact within_group hW .motRegs (by decide) rfl

theorem State.captureAt_frame {W : Nat} {s₀ s : State} (hs : Frame W s₀ s) (m : Nat) (edge : Int) (hW : within 274877908992 W) :
    Frame W s₀ (State.captureAt s m edge) := by
  unfold State.captureAt
  try dsimp only
  repeat' with_reducible (first | assumption | apply frameRes_next | apply frameOpt_none | apply frameOpt_some | apply State.forEach_frame | apply State.when_frame | apply foldl_frame | apply foldl_fst_frame | apply foldl_snd_frame | intro _ | split | apply State.put_frame | apply State.modMotor_frame | apply frameOpt_get (by assumption) | dsimp only)
  all_goals first | assumption | exact within_trans hW (within_of (by decide)) | exact within_group hW .motRegs (by decide) rfl

theorem State.homeReference_frame {W : Nat} {s₀ s : State} (hs : Frame W s₀ s) (m : Nat) (edge : Int) (hW : within 275985205248 W) :
    Frame W s₀ (State.homeReference s m edge) := by
  unfold State.homeReference
  try dsimp only
  repeat' with_reducible (first | assumption | apply frameRes_next | apply frameOpt_none | apply frameOpt_some | apply State.forEach_frame | apply State.when_frame | apply foldl_frame | apply foldl_fst_frame | apply foldl_snd_frame | intro _ | split | apply State.captureAt_frame | apply State.setHome_frame | apply State.stopMotor_frame | apply State.setMotor_frame | apply State.showMotor_frame | apply frameOpt_get (by assumption) | dsimp only)
  all_goals first | assumption | exact within_trans hW (within_of (by decide)) | exact within_group hW .motRegs (by decide) rfl

theorem execLimitQualified_frame {W : Nat} {s₀ s : State} (hs : Frame W s₀ s) (m : Fin 12) (positive active : Bool) (edge : Int) (hW : within 825808128000 W) :
    FrameRes W s₀ (execLimitQualified m positive active edge s) := by
  unfold execLimitQualified
  try dsimp only
  repeat' with_reducible (first | assumption | apply frameRes_next | apply frameOpt_none | apply frameOpt_some | apply State.forEach_frame | apply State.when_frame | apply foldl_frame | apply foldl_fst_frame | apply foldl_snd_frame | intro _ | split | apply State.setFlag_frame | apply State.homeReference_frame | apply State.raiseMotor_frame | apply State.homingFault_frame | apply State.faultAxis_frame | apply frameOpt_get (by assumption) | dsimp only)
  all_goals first | assumption | exact within_trans hW (within_of (by decide)) | exact within_group hW .motRegs (by decide) rfl

theorem execHomeQualified_frame {W : Nat} {s₀ s : State} (hs : Frame W s₀ s) (m : Fin 12) (active : Bool) (edge : Int) (hW : within 275985205248 W) :
    FrameRes W s₀ (execHomeQualified m active edge s) := by
  unfold execHomeQualified
  try dsimp only
  repeat' with_reducible (first | assumption | apply frameRes_next | apply frameOpt_none | apply frameOpt_some | apply State.forEach_frame | apply State.when_frame | apply foldl_frame | apply foldl_fst_frame | apply foldl_snd_frame | intro _ | split | apply State.setFlag_frame | apply State.homeReference_frame | apply frameOpt_get (by assumption) | dsimp only)
  all_goals first | assumption | exact within_trans hW (within_of (by decide)) | exact within_group hW .motRegs (by decide) rfl

theorem execEncoderEdge_frame {W : Nat} {s₀ s : State} (hs : Frame W s₀ s) (m : Fin 12) (edge : EncoderEdge) (hW : within 67110912 W) :
    FrameRes W s₀ (execEncoderEdge m edge s) := by
  unfold execEncoderEdge
  try dsimp only
  repeat' with_reducible (first | assumption | apply frameRes_next | apply frameOpt_none | apply frameOpt_some | apply State.forEach_frame | apply State.when_frame | apply foldl_frame | apply foldl_fst_frame | apply foldl_snd_frame | intro _ | split | apply State.sput_frame | apply State.raiseMotor_frame | apply frameOpt_get (by assumption) | dsimp only)
  all_goals first | assumption | exact within_trans hW (within_of (by decide)) | exact within_group hW .motRegs (by decide) rfl

theorem execSledStandstill_frame {W : Nat} {s₀ s : State} (hs : Frame W s₀ s) (x : Fin 16) (hW : within 274877906944 W) :
    FrameRes W s₀ (execSledStandstill x s) := by
  unfold execSledStandstill
  try dsimp only
  repeat' with_reducible (first | assumption | apply frameRes_next | apply frameOpt_none | apply frameOpt_some | apply State.forEach_frame | apply State.when_frame | apply foldl_frame | apply foldl_fst_frame | apply foldl_snd_frame | intro _ | split | apply State.setMotor_frame | apply frameOpt_get (by assumption) | dsimp only)
  all_goals first | assumption | exact within_trans hW (within_of (by decide))

theorem execAxisHoldReduce_frame {W : Nat} {s₀ s : State} (hs : Frame W s₀ s) (m : Fin 12) (hW : within 274877906944 W) :
    FrameRes W s₀ (execAxisHoldReduce m s) := by
  unfold execAxisHoldReduce
  try dsimp only
  repeat' with_reducible (first | assumption | apply frameRes_next | apply frameOpt_none | apply frameOpt_some | apply State.forEach_frame | apply State.when_frame | apply foldl_frame | apply foldl_fst_frame | apply foldl_snd_frame | intro _ | split | apply State.setMotor_frame | apply frameOpt_get (by assumption) | dsimp only)
  all_goals first | assumption | exact within_trans hW (within_of (by decide))

theorem State.markStarted_frame {W : Nat} {s₀ s : State} (hs : Frame W s₀ s) (h : Nat) (hW : within 33554432 W) :
    Frame W s₀ (State.markStarted s h) := by
  unfold State.markStarted
  try dsimp only
  repeat' with_reducible (first | assumption | apply frameRes_next | apply frameOpt_none | apply frameOpt_some | apply State.forEach_frame | apply State.when_frame | apply foldl_frame | apply foldl_fst_frame | apply foldl_snd_frame | intro _ | split | apply State.modCmd_frame | apply frameOpt_get (by assumption) | dsimp only)
  all_goals first | assumption | exact within_trans hW (within_of (by decide))

theorem execMoveAxis_frame {W : Nat} {s₀ s : State} (hs : Frame W s₀ s) (h : Nat) (hW : within 275985205248 W) :
    FrameRes W s₀ (execMoveAxis h s) := by
  unfold execMoveAxis
  try dsimp only
  repeat' with_reducible (first | assumption | apply frameRes_next | apply frameOpt_none | apply frameOpt_some | apply State.forEach_frame | apply State.when_frame | apply foldl_frame | apply foldl_fst_frame | apply foldl_snd_frame | intro _ | split | apply State.markStarted_frame | apply State.put_frame | apply State.startMotor_frame | apply frameOpt_get (by assumption) | dsimp only)
  all_goals first | assumption | exact within_trans hW (within_of (by decide)) | exact within_group hW .motRegs (by decide) rfl

theorem execMoveGroup_frame {W : Nat} {s₀ s : State} (hs : Frame W s₀ s) (h : Nat) (hW : within 825741019136 W) :
    FrameRes W s₀ (execMoveGroup h s) := by
  unfold execMoveGroup
  try dsimp only
  repeat' with_reducible (first | assumption | apply frameRes_next | apply frameOpt_none | apply frameOpt_some | apply State.forEach_frame | apply State.when_frame | apply foldl_frame | apply foldl_fst_frame | apply foldl_snd_frame | intro _ | split | apply State.markStarted_frame | apply State.put_frame | apply State.startGroup_frame | apply frameOpt_get (by assumption) | dsimp only)
  all_goals first | assumption | exact within_trans hW (within_of (by decide)) | exact within_group hW .motRegs (by decide) rfl

theorem execMoveHoming_frame {W : Nat} {s₀ s : State} (hs : Frame W s₀ s) (h : Nat) (hW : within 275985205248 W) :
    FrameRes W s₀ (execMoveHoming h s) := by
  unfold execMoveHoming
  try dsimp only
  repeat' with_reducible (first | assumption | apply frameRes_next | apply frameOpt_none | apply frameOpt_some | apply State.forEach_frame | apply State.when_frame | apply foldl_frame | apply foldl_fst_frame | apply foldl_snd_frame | intro _ | split | apply State.markStarted_frame | apply State.startHoming_frame | apply frameOpt_get (by assumption) | dsimp only)
  all_goals first | assumption | exact within_trans hW (within_of (by decide)) | exact within_group hW .motRegs (by decide) rfl

theorem execMoveRappel_frame {W : Nat} {s₀ s : State} (hs : Frame W s₀ s) (h : Nat) (hW : within 825741019136 W) :
    FrameRes W s₀ (execMoveRappel h s) := by
  unfold execMoveRappel
  try dsimp only
  repeat' with_reducible (first | assumption | apply frameRes_next | apply frameOpt_none | apply frameOpt_some | apply State.forEach_frame | apply State.when_frame | apply foldl_frame | apply foldl_fst_frame | apply foldl_snd_frame | intro _ | split | apply State.markStarted_frame | apply State.modGroup_frame | apply State.brakeGroup_frame | apply State.modMotor_frame | apply State.setHome_frame | apply State.stopMotor_frame | apply frameOpt_get (by assumption) | dsimp only)
  all_goals first | assumption | exact within_trans hW (within_of (by decide)) | exact within_group hW .motRegs (by decide) rfl

theorem execLSegment_frame {W : Nat} {s₀ s : State} (hs : Frame W s₀ s) (h : Nat) (hW : within 550863112192 W) :
    FrameRes W s₀ (execLSegment h s) := by
  unfold execLSegment
  try dsimp only
  repeat' with_reducible (first | assumption | apply frameRes_next | apply frameOpt_none | apply frameOpt_some | apply State.forEach_frame | apply State.when_frame | apply foldl_frame | apply foldl_fst_frame | apply foldl_snd_frame | intro _ | split | apply State.finish_frame | apply State.markStarted_frame | apply State.admitSegments_frame | apply frameOpt_get (by assumption) | dsimp only)
  all_goals first | assumption | exact within_trans hW (within_of (by decide)) | exact within_group hW .motRegs (by decide) rfl

theorem State.abortMove_frame {W : Nat} {s₀ s : State} (hs : Frame W s₀ s) (h status : Nat) (hW : within 825741019136 W) :
    Frame W s₀ (State.abortMove s h status) := by
  unfold State.abortMove
  try dsimp only
  repeat' with_reducible (first | assumption | apply frameRes_next | apply frameOpt_none | apply frameOpt_some | apply State.forEach_frame | apply State.when_frame | apply foldl_frame | apply foldl_fst_frame | apply foldl_snd_frame | intro _ | split | apply State.modCmd_frame | apply State.setHome_frame | apply State.stopMotor_frame | apply State.brakeGroup_frame | apply State.finish_frame | apply frameOpt_get (by assumption) | dsimp only)
  all_goals first | assumption | exact within_trans hW (within_of (by decide)) | exact within_group hW .motRegs (by decide) rfl

end Sys2Proof.Machine
end

