-- ==== Sys2Proof/Laws/FrameServo.lean ====
section
/-!
SUPPORT. What the operations and commands of Machine/Servo.lean leave as it was: all parts outside a mask.
-/
set_option Elab.async false
set_option linter.all false
namespace Sys2Proof.Machine
set_option maxRecDepth 2000

theorem State.failLoad_frame {W : Nat} {s₀ s : State} (hs : Frame W s₀ s) (h status : Nat) (hW : within 39762001920 W) :
    Frame W s₀ (State.failLoad s h status) := by
  unfold State.failLoad
  try dsimp only
  repeat' with_reducible (first | assumption | apply frameRes_next | apply frameOpt_none | apply frameOpt_some | apply State.forEach_frame | apply State.when_frame | apply foldl_frame | apply foldl_fst_frame | apply foldl_snd_frame | intro _ | split | apply State.unbind_frame | apply State.modStation_frame | apply State.modPickup_frame | apply State.finish_frame | apply frameOpt_get (by assumption) | dsimp only)
  all_goals first | assumption | exact within_trans hW (within_of (by decide))

theorem State.failUnload_frame {W : Nat} {s₀ s : State} (hs : Frame W s₀ s) (h status : Nat) (hW : within 5402263552 W) :
    Frame W s₀ (State.failUnload s h status) := by
  unfold State.failUnload
  try dsimp only
  repeat' with_reducible (first | assumption | apply frameRes_next | apply frameOpt_none | apply frameOpt_some | apply State.forEach_frame | apply State.when_frame | apply foldl_frame | apply foldl_fst_frame | apply foldl_snd_frame | intro _ | split | apply State.modStation_frame | apply State.finish_frame | apply frameOpt_get (by assumption) | dsimp only)
  all_goals first | assumption | exact within_trans hW (within_of (by decide))

theorem State.setCalRun_frame {W : Nat} {s₀ s : State} (hs : Frame W s₀ s) (n : Nat) (r : CalRun) (hW : within 8796093022208 W) :
    Frame W s₀ (State.setCalRun s n r) := by
  unfold State.setCalRun
  try dsimp only
  repeat' with_reducible (first | assumption | apply frameRes_next | apply frameOpt_none | apply frameOpt_some | apply State.forEach_frame | apply State.when_frame | apply foldl_frame | apply foldl_fst_frame | apply foldl_snd_frame | intro _ | split | apply State.put_frame | apply frameOpt_get (by assumption) | apply Frame.set_calib | dsimp only)
  all_goals first | assumption | exact within_trans hW (within_of (by decide))

theorem State.showCal_frame {W : Nat} {s₀ s : State} (hs : Frame W s₀ s) (st : Nat) (hW : within 16384 W) :
    Frame W s₀ (State.showCal s st) := by
  unfold State.showCal
  try dsimp only
  repeat' with_reducible (first | assumption | apply frameRes_next | apply frameOpt_none | apply frameOpt_some | apply State.forEach_frame | apply State.when_frame | apply foldl_frame | apply foldl_fst_frame | apply foldl_snd_frame | intro _ | split | apply State.put_frame | apply State.setFlag_frame | apply frameOpt_get (by assumption) | dsimp only)
  all_goals first | assumption | exact within_trans hW (within_of (by decide)) | exact within_group hW .calRegs (by decide) rfl

theorem State.endCalCmd_frame {W : Nat} {s₀ s : State} (hs : Frame W s₀ s) (h : Option Nat) (status : Nat) (hW : within 45011225837250 W) :
    Frame W s₀ (State.endCalCmd s h status) := by
  unfold State.endCalCmd
  try dsimp only
  repeat' with_reducible (first | assumption | apply frameRes_next | apply frameOpt_none | apply frameOpt_some | apply State.forEach_frame | apply State.when_frame | apply foldl_frame | apply foldl_fst_frame | apply foldl_snd_frame | intro _ | split | apply State.load_frame | apply State.failLoad_frame | apply State.endCmd_frame | apply frameOpt_get (by assumption) | dsimp only)
  all_goals first | assumption | exact within_trans hW (within_of (by decide)) | exact within_group hW .linkRegs (by decide) rfl | exact within_group hW .memRegs (by decide) rfl | exact within_group hW .cchRegs (by decide) rfl | exact within_group hW .srvRegs (by decide) rfl | exact within_group hW .spnRegs (by decide) rfl | exact within_group hW .motRegs (by decide) rfl | exact within_group hW .rchRegs (by decide) rfl | exact within_group hW .recRegs (by decide) rfl | exact within_group hW .calRegs (by decide) rfl

theorem State.abortCal_frame {W : Nat} {s₀ s : State} (hs : Frame W s₀ s) (n cause status : Nat) (hW : within 45011225837250 W) :
    Frame W s₀ (State.abortCal s n cause status) := by
  unfold State.abortCal
  try dsimp only
  repeat' with_reducible (first | assumption | apply frameRes_next | apply frameOpt_none | apply frameOpt_some | apply State.forEach_frame | apply State.when_frame | apply foldl_frame | apply foldl_fst_frame | apply foldl_snd_frame | intro _ | split | apply State.setCalRun_frame | apply State.showCal_frame | apply State.raise_frame | apply State.endCalCmd_frame | apply frameOpt_get (by assumption) | dsimp only)
  all_goals first | assumption | exact within_trans hW (within_of (by decide)) | exact within_group hW .linkRegs (by decide) rfl | exact within_group hW .memRegs (by decide) rfl | exact within_group hW .cchRegs (by decide) rfl | exact within_group hW .srvRegs (by decide) rfl | exact within_group hW .spnRegs (by decide) rfl | exact within_group hW .motRegs (by decide) rfl | exact within_group hW .rchRegs (by decide) rfl | exact within_group hW .recRegs (by decide) rfl | exact within_group hW .calRegs (by decide) rfl

theorem State.driveLden_frame {W : Nat} {s₀ s : State} (hs : Frame W s₀ s) (n : Nat) (hW : within 512 W) :
    Frame W s₀ (State.driveLden s n) := by
  unfold State.driveLden
  try dsimp only
  repeat' with_reducible (first | assumption | apply frameRes_next | apply frameOpt_none | apply frameOpt_some | apply State.forEach_frame | apply State.when_frame | apply foldl_frame | apply foldl_fst_frame | apply foldl_snd_frame | intro _ | split | apply State.setFlag_frame | apply frameOpt_get (by assumption) | dsimp only)
  all_goals first | assumption | exact within_trans hW (within_of (by decide)) | exact within_group hW .srvRegs (by decide) rfl

theorem State.holdDefaults_frame {W : Nat} {s₀ s : State} (hs : Frame W s₀ s) (n l : Nat) (hW : within 512 W) :
    Frame W s₀ (State.holdDefaults s n l) := by
  unfold State.holdDefaults
  try dsimp only
  repeat' with_reducible (first | assumption | apply frameRes_next | apply frameOpt_none | apply frameOpt_some | apply State.forEach_frame | apply State.when_frame | apply foldl_frame | apply foldl_fst_frame | apply foldl_snd_frame | intro _ | split | apply State.put_frame | apply frameOpt_get (by assumption) | dsimp only)
  all_goals first | assumption | exact within_trans hW (within_of (by decide)) | exact within_group hW .srvRegs (by decide) rfl

theorem State.driveLoop_frame {W : Nat} {s₀ s : State} (hs : Frame W s₀ s) (n l mode : Nat) (hW : within 67109376 W) :
    Frame W s₀ (State.driveLoop s n l mode) := by
  unfold State.driveLoop
  try dsimp only
  repeat' with_reducible (first | assumption | apply frameRes_next | apply frameOpt_none | apply frameOpt_some | apply State.forEach_frame | apply State.when_frame | apply foldl_frame | apply foldl_fst_frame | apply foldl_snd_frame | intro _ | split | apply State.holdDefaults_frame | apply State.put_frame | apply State.setMode_frame | apply frameOpt_get (by assumption) | dsimp only)
  all_goals first | assumption | exact within_trans hW (within_of (by decide)) | exact within_group hW .srvRegs (by decide) rfl

theorem State.enter_frame {W : Nat} {s₀ s : State} (hs : Frame W s₀ s) (n p : Nat) (hW : within 328632113664 W) :
    Frame W s₀ (State.enter s n p) := by
  unfold State.enter
  try dsimp only
  repeat' with_reducible (first | assumption | apply frameRes_next | apply frameOpt_none | apply frameOpt_some | apply State.forEach_frame | apply State.when_frame | apply foldl_frame | apply foldl_fst_frame | apply foldl_snd_frame | intro _ | split | apply State.holdLanes_frame | apply State.put_frame | apply State.driveLoop_frame | apply State.setGear_frame | apply State.setFlag_frame | apply State.driveLden_frame | apply State.modPickup_frame | apply frameOpt_get (by assumption) | dsimp only)
  all_goals first | assumption | exact within_trans hW (within_of (by decide)) | exact within_group hW .srvRegs (by decide) rfl | exact within_group hW .motRegs (by decide) rfl | exact within_group hW .rchRegs (by decide) rfl

theorem State.startSearch_frame {W : Nat} {s₀ s : State} (hs : Frame W s₀ s) (n layer : Nat) (hW : within 328632113664 W) :
    Frame W s₀ (State.startSearch s n layer) := by
  unfold State.startSearch
  try dsimp only
  repeat' with_reducible (first | assumption | apply frameRes_next | apply frameOpt_none | apply frameOpt_some | apply State.forEach_frame | apply State.when_frame | apply foldl_frame | apply foldl_fst_frame | apply foldl_snd_frame | intro _ | split | apply State.enter_frame | apply State.put_frame | apply State.modPickup_frame | apply frameOpt_get (by assumption) | dsimp only)
  all_goals first | assumption | exact within_trans hW (within_of (by decide)) | exact within_group hW .srvRegs (by decide) rfl | exact within_group hW .motRegs (by decide) rfl | exact within_group hW .rchRegs (by decide) rfl

theorem State.parkLens_frame {W : Nat} {s₀ s : State} (hs : Frame W s₀ s) (n : Nat) (fault : Bool) (hW : within 328632113664 W) :
    Frame W s₀ (State.parkLens s n fault) := by
  unfold State.parkLens
  try dsimp only
  repeat' with_reducible (first | assumption | apply frameRes_next | apply frameOpt_none | apply frameOpt_some | apply State.forEach_frame | apply State.when_frame | apply foldl_frame | apply foldl_fst_frame | apply foldl_snd_frame | intro _ | split | apply State.enter_frame | apply State.sput_frame | apply State.modPickup_frame | apply frameOpt_get (by assumption) | dsimp only)
  all_goals first | assumption | exact within_trans hW (within_of (by decide)) | exact within_group hW .srvRegs (by decide) rfl | exact within_group hW .motRegs (by decide) rfl | exact within_group hW .rchRegs (by decide) rfl

theorem State.shutGates_frame {W : Nat} {s₀ s : State} (hs : Frame W s₀ s) (n : Nat) (cause : Option Nat) (hW : within 35253060121282 W) :
    Frame W s₀ (State.shutGates s n cause) := by
  unfold State.shutGates
  try dsimp only
  repeat' with_reducible (first | assumption | apply frameRes_next | apply frameOpt_none | apply frameOpt_some | apply State.forEach_frame | apply State.when_frame | apply foldl_frame | apply foldl_fst_frame | apply foldl_snd_frame | intro _ | split | apply State.closeGates_frame | apply State.put_frame | apply frameOpt_get (by assumption) | dsimp only)
  all_goals first | assumption | exact within_trans hW (within_of (by decide)) | exact within_group hW .linkRegs (by decide) rfl | exact within_group hW .memRegs (by decide) rfl | exact within_group hW .cchRegs (by decide) rfl | exact within_group hW .srvRegs (by decide) rfl | exact within_group hW .rchRegs (by decide) rfl | exact within_group hW .recRegs (by decide) rfl

theorem State.failSide_frame {W : Nat} {s₀ s : State} (hs : Frame W s₀ s) (n status : Nat) (hW : within 45011225837250 W) :
    Frame W s₀ (State.failSide s n status) := by
  unfold State.failSide
  try dsimp only
  repeat' with_reducible (first | assumption | apply frameRes_next | apply frameOpt_none | apply frameOpt_some | apply State.forEach_frame | apply State.when_frame | apply foldl_frame | apply foldl_fst_frame | apply foldl_snd_frame | intro _ | split | apply State.stopCmd_frame | apply State.load_frame | apply State.failLoad_frame | apply frameOpt_get (by assumption) | dsimp only)
  all_goals first | assumption | exact within_trans hW (within_of (by decide)) | exact within_group hW .linkRegs (by decide) rfl | exact within_group hW .memRegs (by decide) rfl | exact within_group hW .cchRegs (by decide) rfl | exact within_group hW .srvRegs (by decide) rfl | exact within_group hW .spnRegs (by decide) rfl | exact within_group hW .motRegs (by decide) rfl | exact within_group hW .rchRegs (by decide) rfl | exact within_group hW .recRegs (by decide) rfl | exact within_group hW .calRegs (by decide) rfl

theorem State.giveUp_frame {W : Nat} {s₀ s : State} (hs : Frame W s₀ s) (n : Nat) (hW : within 45011225837250 W := by first | assumption | exact within_trans (by assumption) (within_of (by decide))) :
    Frame W s₀ (State.giveUp s n) := by
  unfold State.giveUp
  try dsimp only
  repeat' with_reducible (first | assumption | apply frameRes_next | apply frameOpt_none | apply frameOpt_some | apply State.forEach_frame | apply State.when_frame | apply foldl_frame | apply foldl_fst_frame | apply foldl_snd_frame | intro _ | split | apply State.post_frame | apply State.parkLens_frame | apply State.abortCal_frame | apply State.breakRun_frame | apply State.failSide_frame | apply frameOpt_get (by assumption) | dsimp only)
  all_goals first | assumption | exact within_trans hW (within_of (by decide)) | exact within_group hW .linkRegs (by decide) rfl | exact within_group hW .memRegs (by decide) rfl | exact within_group hW .cchRegs (by decide) rfl | exact within_group hW .srvRegs (by decide) rfl | exact within_group hW .spnRegs (by decide) rfl | exact within_group hW .motRegs (by decide) rfl | exact within_group hW .rchRegs (by decide) rfl | exact within_group hW .recRegs (by decide) rfl | exact within_group hW .calRegs (by decide) rfl

theorem State.attempt_frame {W : Nat} {s₀ s : State} (hs : Frame W s₀ s) (n : Nat) (act : State → State)
    (ha : ∀ t, Frame W s₀ t → Frame W s₀ (act t)) (hW : within 45011225837250 W := by first | assumption | exact within_trans (by assumption) (within_of (by decide))) : Frame W s₀ (s.attempt n act) := by
  unfold State.attempt
  dsimp only
  split
  · exact State.giveUp_frame hs n
  · exact ha _ (State.put_frame hs _ _)

theorem State.calLoss_frame {W : Nat} {s₀ s : State} (hs : Frame W s₀ s) (n : Nat) (hW : within 45011225837250 W) :
    Frame W s₀ (State.calLoss s n) := by
  unfold State.calLoss
  try dsimp only
  repeat' with_reducible (first | assumption | apply frameRes_next | apply frameOpt_none | apply frameOpt_some | apply State.forEach_frame | apply State.when_frame | apply foldl_frame | apply foldl_fst_frame | apply foldl_snd_frame | intro _ | split | apply State.setCalRun_frame | apply State.abortCal_frame | apply frameOpt_get (by assumption) | dsimp only)
  all_goals first | assumption | exact within_trans hW (within_of (by decide)) | exact within_group hW .linkRegs (by decide) rfl | exact within_group hW .memRegs (by decide) rfl | exact within_group hW .cchRegs (by decide) rfl | exact within_group hW .srvRegs (by decide) rfl | exact within_group hW .spnRegs (by decide) rfl | exact within_group hW .motRegs (by decide) rfl | exact within_group hW .rchRegs (by decide) rfl | exact within_group hW .recRegs (by decide) rfl | exact within_group hW .calRegs (by decide) rfl

theorem State.backToConfirmed_frame {W : Nat} {s₀ s : State} (hs : Frame W s₀ s) (n : Nat) (hW : within 34359738368 W) :
    Frame W s₀ (State.backToConfirmed s n) := by
  unfold State.backToConfirmed
  try dsimp only
  repeat' with_reducible (first | assumption | apply frameRes_next | apply frameOpt_none | apply frameOpt_some | apply State.forEach_frame | apply State.when_frame | apply foldl_frame | apply foldl_fst_frame | apply foldl_snd_frame | intro _ | split | apply State.modPickup_frame | apply frameOpt_get (by assumption) | dsimp only)
  all_goals first | assumption | exact within_trans hW (within_of (by decide))

theorem State.lossOfFocus_frame {W : Nat} {s₀ s : State} (hs : Frame W s₀ s) (n : Nat) (hW : within 45011225837250 W) :
    Frame W s₀ (State.lossOfFocus s n) := by
  unfold State.lossOfFocus
  try dsimp only
  repeat' with_reducible (first | assumption | apply frameRes_next | apply frameOpt_none | apply frameOpt_some | apply State.forEach_frame | apply State.when_frame | apply foldl_frame | apply foldl_fst_frame | apply foldl_snd_frame | intro _ | split | apply State.raise_frame | apply State.shutGates_frame | apply State.calLoss_frame | apply State.backToConfirmed_frame | apply State.giveUp_frame | apply State.attempt_frame | apply State.startSearch_frame | apply frameOpt_get (by assumption) | dsimp only)
  all_goals first | assumption | exact within_trans hW (within_of (by decide)) | exact within_group hW .linkRegs (by decide) rfl | exact within_group hW .memRegs (by decide) rfl | exact within_group hW .cchRegs (by decide) rfl | exact within_group hW .srvRegs (by decide) rfl | exact within_group hW .spnRegs (by decide) rfl | exact within_group hW .motRegs (by decide) rfl | exact within_group hW .rchRegs (by decide) rfl | exact within_group hW .recRegs (by decide) rfl | exact within_group hW .calRegs (by decide) rfl

theorem State.toPullin_frame {W : Nat} {s₀ s : State} (hs : Frame W s₀ s) (n : Nat) (hW : within 328632113664 W) :
    Frame W s₀ (State.toPullin s n) := by
  unfold State.toPullin
  try dsimp only
  repeat' with_reducible (first | assumption | apply frameRes_next | apply frameOpt_none | apply frameOpt_some | apply State.forEach_frame | apply State.when_frame | apply foldl_frame | apply foldl_fst_frame | apply foldl_snd_frame | intro _ | split | apply State.enter_frame | apply frameOpt_get (by assumption) | dsimp only)
  all_goals first | assumption | exact within_trans hW (within_of (by decide)) | exact within_group hW .srvRegs (by decide) rfl | exact within_group hW .motRegs (by decide) rfl | exact within_group hW .rchRegs (by decide) rfl

theorem State.lossOfTrack_frame {W : Nat} {s₀ s : State} (hs : Frame W s₀ s) (n : Nat) (hW : within 45011225837250 W) :
    Frame W s₀ (State.lossOfTrack s n) := by
  unfold State.lossOfTrack
  try dsimp only
  repeat' with_reducible (first | assumption | apply frameRes_next | apply frameOpt_none | apply frameOpt_some | apply State.forEach_frame | apply State.when_frame | apply foldl_frame | apply foldl_fst_frame | apply foldl_snd_frame | intro _ | split | apply State.raise_frame | apply State.shutGates_frame | apply State.driveLoop_frame | apply State.modPickup_frame | apply State.calLoss_frame | apply State.backToConfirmed_frame | apply State.attempt_frame | apply State.toPullin_frame | apply frameOpt_get (by assumption) | dsimp only)
  all_goals first | assumption | exact within_trans hW (within_of (by decide)) | exact within_group hW .linkRegs (by decide) rfl | exact within_group hW .memRegs (by decide) rfl | exact within_group hW .cchRegs (by decide) rfl | exact within_group hW .srvRegs (by decide) rfl | exact within_group hW .spnRegs (by decide) rfl | exact within_group hW .motRegs (by decide) rfl | exact within_group hW .rchRegs (by decide) rfl | exact within_group hW .recRegs (by decide) rfl | exact within_group hW .calRegs (by decide) rfl

theorem State.enterBelay_frame {W : Nat} {s₀ s : State} (hs : Frame W s₀ s) (n : Nat) (hW : within 35527938030274 W) :
    Frame W s₀ (State.enterBelay s n) := by
  unfold State.enterBelay
  try dsimp only
  repeat' with_reducible (first | assumption | apply frameRes_next | apply frameOpt_none | apply frameOpt_some | apply State.forEach_frame | apply State.when_frame | apply foldl_frame | apply foldl_fst_frame | apply foldl_snd_frame | intro _ | split | apply State.shutGates_frame | apply State.enter_frame | apply State.post_frame | apply frameOpt_get (by assumption) | dsimp only)
  all_goals first | assumption | exact within_trans hW (within_of (by decide)) | exact within_group hW .linkRegs (by decide) rfl | exact within_group hW .memRegs (by decide) rfl | exact within_group hW .cchRegs (by decide) rfl | exact within_group hW .srvRegs (by decide) rfl | exact within_group hW .motRegs (by decide) rfl | exact within_group hW .rchRegs (by decide) rfl | exact within_group hW .recRegs (by decide) rfl

theorem State.loadLanes_frame {W : Nat} {s₀ s : State} (hs : Frame W s₀ s) (n : Nat) (hW : within 51539611648 W) :
    Frame W s₀ (State.loadLanes s n) := by
  unfold State.loadLanes
  try dsimp only
  repeat' with_reducible (first | assumption | apply frameRes_next | apply frameOpt_none | apply frameOpt_some | apply State.forEach_frame | apply State.when_frame | apply foldl_frame | apply foldl_fst_frame | apply foldl_snd_frame | intro _ | split | apply State.modPickup_frame | apply State.laneWrite_frame | apply frameOpt_get (by assumption) | dsimp only)
  all_goals first | assumption | exact within_trans hW (within_of (by decide)) | exact within_group hW .rchRegs (by decide) rfl

theorem State.toFollow_frame {W : Nat} {s₀ s : State} (hs : Frame W s₀ s) (n : Nat) (hW : within 35527938030274 W) :
    Frame W s₀ (State.toFollow s n) := by
  unfold State.toFollow
  try dsimp only
  repeat' with_reducible (first | assumption | apply frameRes_next | apply frameOpt_none | apply frameOpt_some | apply State.forEach_frame | apply State.when_frame | apply foldl_frame | apply foldl_fst_frame | apply foldl_snd_frame | intro _ | split | apply State.enter_frame | apply State.loadLanes_frame | apply State.modPickup_frame | apply State.enterBelay_frame | apply frameOpt_get (by assumption) | dsimp only)
  all_goals first | assumption | exact within_trans hW (within_of (by decide)) | exact within_group hW .linkRegs (by decide) rfl | exact within_group hW .memRegs (by decide) rfl | exact within_group hW .cchRegs (by decide) rfl | exact within_group hW .srvRegs (by decide) rfl | exact within_group hW .motRegs (by decide) rfl | exact within_group hW .rchRegs (by decide) rfl | exact within_group hW .recRegs (by decide) rfl

theorem State.checkBelay_frame {W : Nat} {s₀ s : State} (hs : Frame W s₀ s) (n : Nat) (hW : within 35527938030274 W) :
    Frame W s₀ (State.checkBelay s n) := by
  unfold State.checkBelay
  try dsimp only
  repeat' with_reducible (first | assumption | apply frameRes_next | apply frameOpt_none | apply frameOpt_some | apply State.forEach_frame | apply State.when_frame | apply foldl_frame | apply foldl_fst_frame | apply foldl_snd_frame | intro _ | split | apply State.enterBelay_frame | apply State.post_frame | apply State.backToConfirmed_frame | apply State.toPullin_frame | apply State.toFollow_frame | apply frameOpt_get (by assumption) | dsimp only)
  all_goals first | assumption | exact within_trans hW (within_of (by decide)) | exact within_group hW .linkRegs (by decide) rfl | exact within_group hW .memRegs (by decide) rfl | exact within_group hW .cchRegs (by decide) rfl | exact within_group hW .srvRegs (by decide) rfl | exact within_group hW .motRegs (by decide) rfl | exact within_group hW .rchRegs (by decide) rfl | exact within_group hW .recRegs (by decide) rfl

theorem State.setBelay_frame {W : Nat} {s₀ s : State} (hs : Frame W s₀ s) (n bit : Nat) (on : Bool) (hW : within 35527938030274 W) :
    Frame W s₀ (State.setBelay s n bit on) := by
  unfold State.setBelay
  try dsimp only
  repeat' with_reducible (first | assumption | apply frameRes_next | apply frameOpt_none | apply frameOpt_some | apply State.forEach_frame | apply State.when_frame | apply foldl_frame | apply foldl_fst_frame | apply foldl_snd_frame | intro _ | split | apply State.put_frame | apply State.checkBelay_frame | apply frameOpt_get (by assumption) | dsimp only)
  all_goals first | assumption | exact within_trans hW (within_of (by decide)) | exact within_group hW .linkRegs (by decide) rfl | exact within_group hW .memRegs (by decide) rfl | exact within_group hW .cchRegs (by decide) rfl | exact within_group hW .srvRegs (by decide) rfl | exact within_group hW .motRegs (by decide) rfl | exact within_group hW .rchRegs (by decide) rfl | exact within_group hW .recRegs (by decide) rfl

theorem State.rotorLost_frame {W : Nat} {s₀ s : State} (hs : Frame W s₀ s) (st : Nat) (hW : within 45011225837250 W) :
    Frame W s₀ (State.rotorLost s st) := by
  unfold State.rotorLost
  try dsimp only
  repeat' with_reducible (first | assumption | apply frameRes_next | apply frameOpt_none | apply frameOpt_some | apply State.forEach_frame | apply State.when_frame | apply foldl_frame | apply foldl_fst_frame | apply foldl_snd_frame | intro _ | split | apply State.abortCal_frame | apply State.put_frame | apply State.enterBelay_frame | apply State.driveLoop_frame | apply State.modPickup_frame | apply frameOpt_get (by assumption) | dsimp only)
  all_goals first | assumption | exact within_trans hW (within_of (by decide)) | exact within_group hW .linkRegs (by decide) rfl | exact within_group hW .memRegs (by decide) rfl | exact within_group hW .cchRegs (by decide) rfl | exact within_group hW .srvRegs (by decide) rfl | exact within_group hW .spnRegs (by decide) rfl | exact within_group hW .motRegs (by decide) rfl | exact within_group hW .rchRegs (by decide) rfl | exact within_group hW .recRegs (by decide) rfl | exact within_group hW .calRegs (by decide) rfl

theorem State.trackJump_frame {W : Nat} {s₀ s : State} (hs : Frame W s₀ s) (n t : Nat) (outward keep : Bool) (hW : within 328632113664 W) :
    Frame W s₀ (State.trackJump s n t outward keep) := by
  unfold State.trackJump
  try dsimp only
  repeat' with_reducible (first | assumption | apply frameRes_next | apply frameOpt_none | apply frameOpt_some | apply State.forEach_frame | apply State.when_frame | apply foldl_frame | apply foldl_fst_frame | apply foldl_snd_frame | intro _ | split | apply State.driveLoop_frame | apply State.enter_frame | apply State.sput_frame | apply State.modPickup_frame | apply frameOpt_get (by assumption) | dsimp only)
  all_goals first | assumption | exact within_trans hW (within_of (by decide)) | exact within_group hW .srvRegs (by decide) rfl | exact within_group hW .motRegs (by decide) rfl | exact within_group hW .rchRegs (by decide) rfl

theorem State.layerJump_frame {W : Nat} {s₀ s : State} (hs : Frame W s₀ s) (n layer : Nat) (hW : within 328632113664 W) :
    Frame W s₀ (State.layerJump s n layer) := by
  unfold State.layerJump
  try dsimp only
  repeat' with_reducible (first | assumption | apply frameRes_next | apply frameOpt_none | apply frameOpt_some | apply State.forEach_frame | apply State.when_frame | apply foldl_frame | apply foldl_fst_frame | apply foldl_snd_frame | intro _ | split | apply State.enter_frame | apply State.sput_frame | apply State.modPickup_frame | apply frameOpt_get (by assumption) | dsimp only)
  all_goals first | assumption | exact within_trans hW (within_of (by decide)) | exact within_group hW .srvRegs (by decide) rfl | exact within_group hW .motRegs (by decide) rfl | exact within_group hW .rchRegs (by decide) rfl

theorem State.layerJumpFail_frame {W : Nat} {s₀ s : State} (hs : Frame W s₀ s) (n : Nat) (hW : within 328632113664 W) :
    Frame W s₀ (State.layerJumpFail s n) := by
  unfold State.layerJumpFail
  try dsimp only
  repeat' with_reducible (first | assumption | apply frameRes_next | apply frameOpt_none | apply frameOpt_some | apply State.forEach_frame | apply State.when_frame | apply foldl_frame | apply foldl_fst_frame | apply foldl_snd_frame | intro _ | split | apply State.post_frame | apply State.startSearch_frame | apply frameOpt_get (by assumption) | dsimp only)
  all_goals first | assumption | exact within_trans hW (within_of (by decide)) | exact within_group hW .srvRegs (by decide) rfl | exact within_group hW .motRegs (by decide) rfl | exact within_group hW .rchRegs (by decide) rfl

theorem State.coarseMove_frame {W : Nat} {s₀ s : State} (hs : Frame W s₀ s) (n : Nat) (q : Int) (hW : within 329739409920 W) :
    Frame W s₀ (State.coarseMove s n q) := by
  unfold State.coarseMove
  try dsimp only
  repeat' with_reducible (first | assumption | apply frameRes_next | apply frameOpt_none | apply frameOpt_some | apply State.forEach_frame | apply State.when_frame | apply foldl_frame | apply foldl_fst_frame | apply foldl_snd_frame | intro _ | split | apply State.enter_frame | apply State.modPickup_frame | apply State.put_frame | apply State.sput_frame | apply State.startMotor_frame | apply frameOpt_get (by assumption) | dsimp only)
  all_goals first | assumption | exact within_trans hW (within_of (by decide)) | exact within_group hW .srvRegs (by decide) rfl | exact within_group hW .motRegs (by decide) rfl | exact within_group hW .rchRegs (by decide) rfl

theorem State.alignAddress_frame {W : Nat} {s₀ s : State} (hs : Frame W s₀ s) (n a : Nat) (hW : within 45011225837250 W) :
    Frame W s₀ (State.alignAddress s n a) := by
  unfold State.alignAddress
  try dsimp only
  repeat' with_reducible (first | assumption | apply frameRes_next | apply frameOpt_none | apply frameOpt_some | apply State.forEach_frame | apply State.when_frame | apply foldl_frame | apply foldl_fst_frame | apply foldl_snd_frame | intro _ | split | apply State.put_frame | apply State.post_frame | apply State.enter_frame | apply State.abortCal_frame | apply State.failSide_frame | apply State.modPickup_frame | apply State.layerJumpFail_frame | apply State.layerJump_frame | apply State.trackJump_frame | apply State.toFollow_frame | apply State.attempt_frame | apply State.toPullin_frame | apply State.coarseMove_frame | apply frameOpt_get (by assumption) | dsimp only)
  all_goals first | assumption | exact within_trans hW (within_of (by decide)) | exact within_group hW .linkRegs (by decide) rfl | exact within_group hW .memRegs (by decide) rfl | exact within_group hW .cchRegs (by decide) rfl | exact within_group hW .srvRegs (by decide) rfl | exact within_group hW .spnRegs (by decide) rfl | exact within_group hW .motRegs (by decide) rfl | exact within_group hW .rchRegs (by decide) rfl | exact within_group hW .recRegs (by decide) rfl | exact within_group hW .calRegs (by decide) rfl

theorem State.followAddress_frame {W : Nat} {s₀ s : State} (hs : Frame W s₀ s) (n a passed : Nat) (hW : within 328632113664 W) :
    Frame W s₀ (State.followAddress s n a passed) := by
  unfold State.followAddress
  try dsimp only
  repeat' with_reducible (first | assumption | apply frameRes_next | apply frameOpt_none | apply frameOpt_some | apply State.forEach_frame | apply State.when_frame | apply foldl_frame | apply foldl_fst_frame | apply foldl_snd_frame | intro _ | split | apply State.put_frame | apply State.modPickup_frame | apply State.layerJump_frame | apply State.enter_frame | apply frameOpt_get (by assumption) | dsimp only)
  all_goals first | assumption | exact within_trans hW (within_of (by decide)) | exact within_group hW .srvRegs (by decide) rfl | exact within_group hW .motRegs (by decide) rfl | exact within_group hW .rchRegs (by decide) rfl

theorem execAddressDecoded_frame {W : Nat} {s₀ s : State} (hs : Frame W s₀ s) (n : Fin 16) (address : BitVec 32) (passed : Nat) (hW : within 45011225837250 W) :
    FrameRes W s₀ (execAddressDecoded n address passed s) := by
  unfold execAddressDecoded
  try dsimp only
  repeat' with_reducible (first | assumption | apply frameRes_next | apply frameOpt_none | apply frameOpt_some | apply State.forEach_frame | apply State.when_frame | apply foldl_frame | apply foldl_fst_frame | apply foldl_snd_frame | intro _ | split | apply State.alignAddress_frame | apply State.followAddress_frame | apply frameOpt_get (by assumption) | dsimp only)
  all_goals first | assumption | exact within_trans hW (within_of (by decide)) | exact within_group hW .linkRegs (by decide) rfl | exact within_group hW .memRegs (by decide) rfl | exact within_group hW .cchRegs (by decide) rfl | exact within_group hW .srvRegs (by decide) rfl | exact within_group hW .spnRegs (by decide) rfl | exact within_group hW .motRegs (by decide) rfl | exact within_group hW .rchRegs (by decide) rfl | exact within_group hW .recRegs (by decide) rfl | exact within_group hW .calRegs (by decide) rfl

theorem execFocusSweepEnd_frame {W : Nat} {s₀ s : State} (hs : Frame W s₀ s) (n : Fin 16) (hW : within 328632113664 W) :
    FrameRes W s₀ (execFocusSweepEnd n s) := by
  unfold execFocusSweepEnd
  try dsimp only
  repeat' with_reducible (first | assumption | apply frameRes_next | apply frameOpt_none | apply frameOpt_some | apply State.forEach_frame | apply State.when_frame | apply foldl_frame | apply foldl_fst_frame | apply foldl_snd_frame | intro _ | split | apply State.post_frame | apply State.parkLens_frame | apply State.modPickup_frame | apply frameOpt_get (by assumption) | dsimp only)
  all_goals first | assumption | exact within_trans hW (within_of (by decide)) | exact within_group hW .srvRegs (by decide) rfl | exact within_group hW .motRegs (by decide) rfl | exact within_group hW .rchRegs (by decide) rfl

theorem execFocusLock_frame {W : Nat} {s₀ s : State} (hs : Frame W s₀ s) (n : Fin 16) (hW : within 328632113664 W) :
    FrameRes W s₀ (execFocusLock n s) := by
  unfold execFocusLock
  try dsimp only
  repeat' with_reducible (first | assumption | apply frameRes_next | apply frameOpt_none | apply frameOpt_some | apply State.forEach_frame | apply State.when_frame | apply foldl_frame | apply foldl_fst_frame | apply foldl_snd_frame | intro _ | split | apply State.toPullin_frame | apply frameOpt_get (by assumption) | dsimp only)
  all_goals first | assumption | exact within_trans hW (within_of (by decide)) | exact within_group hW .srvRegs (by decide) rfl | exact within_group hW .motRegs (by decide) rfl | exact within_group hW .rchRegs (by decide) rfl

theorem execFocusedTimeout_frame {W : Nat} {s₀ s : State} (hs : Frame W s₀ s) (n : Fin 16) (hW : within 45011225837250 W) :
    FrameRes W s₀ (execFocusedTimeout n s) := by
  unfold execFocusedTimeout
  try dsimp only
  repeat' with_reducible (first | assumption | apply frameRes_next | apply frameOpt_none | apply frameOpt_some | apply State.forEach_frame | apply State.when_frame | apply foldl_frame | apply foldl_fst_frame | apply foldl_snd_frame | intro _ | split | apply State.attempt_frame | apply State.startSearch_frame | apply frameOpt_get (by assumption) | dsimp only)
  all_goals first | assumption | exact within_trans hW (within_of (by decide)) | exact within_group hW .linkRegs (by decide) rfl | exact within_group hW .memRegs (by decide) rfl | exact within_group hW .cchRegs (by decide) rfl | exact within_group hW .srvRegs (by decide) rfl | exact within_group hW .spnRegs (by decide) rfl | exact within_group hW .motRegs (by decide) rfl | exact within_group hW .rchRegs (by decide) rfl | exact within_group hW .recRegs (by decide) rfl | exact within_group hW .calRegs (by decide) rfl

theorem execTrackLock_frame {W : Nat} {s₀ s : State} (hs : Frame W s₀ s) (n : Fin 16) (hW : within 328632113664 W) :
    FrameRes W s₀ (execTrackLock n s) := by
  unfold execTrackLock
  try dsimp only
  repeat' with_reducible (first | assumption | apply frameRes_next | apply frameOpt_none | apply frameOpt_some | apply State.forEach_frame | apply State.when_frame | apply foldl_frame | apply foldl_fst_frame | apply foldl_snd_frame | intro _ | split | apply State.enter_frame | apply frameOpt_get (by assumption) | dsimp only)
  all_goals first | assumption | exact within_trans hW (within_of (by decide)) | exact within_group hW .srvRegs (by decide) rfl | exact within_group hW .motRegs (by decide) rfl | exact within_group hW .rchRegs (by decide) rfl

theorem execPullinTimeout_frame {W : Nat} {s₀ s : State} (hs : Frame W s₀ s) (n : Fin 16) (hW : within 45011225837250 W) :
    FrameRes W s₀ (execPullinTimeout n s) := by
  unfold execPullinTimeout
  try dsimp only
  repeat' with_reducible (first | assumption | apply frameRes_next | apply frameOpt_none | apply frameOpt_some | apply State.forEach_frame | apply State.when_frame | apply foldl_frame | apply foldl_fst_frame | apply foldl_snd_frame | intro _ | split | apply State.attempt_frame | apply State.startSearch_frame | apply frameOpt_get (by assumption) | dsimp only)
  all_goals first | assumption | exact within_trans hW (within_of (by decide)) | exact within_group hW .linkRegs (by decide) rfl | exact within_group hW .memRegs (by decide) rfl | exact within_group hW .cchRegs (by decide) rfl | exact within_group hW .srvRegs (by decide) rfl | exact within_group hW .spnRegs (by decide) rfl | exact within_group hW .motRegs (by decide) rfl | exact within_group hW .rchRegs (by decide) rfl | exact within_group hW .recRegs (by decide) rfl | exact within_group hW .calRegs (by decide) rfl

theorem execAlignAddressTimeout_frame {W : Nat} {s₀ s : State} (hs : Frame W s₀ s) (n : Fin 16) (hW : within 45011225837250 W) :
    FrameRes W s₀ (execAlignAddressTimeout n s) := by
  unfold execAlignAddressTimeout
  try dsimp only
  repeat' with_reducible (first | assumption | apply frameRes_next | apply frameOpt_none | apply frameOpt_some | apply State.forEach_frame | apply State.when_frame | apply foldl_frame | apply foldl_fst_frame | apply foldl_snd_frame | intro _ | split | apply State.attempt_frame | apply State.toPullin_frame | apply frameOpt_get (by assumption) | dsimp only)
  all_goals first | assumption | exact within_trans hW (within_of (by decide)) | exact within_group hW .linkRegs (by decide) rfl | exact within_group hW .memRegs (by decide) rfl | exact within_group hW .cchRegs (by decide) rfl | exact within_group hW .srvRegs (by decide) rfl | exact within_group hW .spnRegs (by decide) rfl | exact within_group hW .motRegs (by decide) rfl | exact within_group hW .rchRegs (by decide) rfl | exact within_group hW .recRegs (by decide) rfl | exact within_group hW .calRegs (by decide) rfl

theorem execTrackJumpDone_frame {W : Nat} {s₀ s : State} (hs : Frame W s₀ s) (n : Fin 16) (hW : within 328632113664 W) :
    FrameRes W s₀ (execTrackJumpDone n s) := by
  unfold execTrackJumpDone
  try dsimp only
  repeat' with_reducible (first | assumption | apply frameRes_next | apply frameOpt_none | apply frameOpt_some | apply State.forEach_frame | apply State.when_frame | apply foldl_frame | apply foldl_fst_frame | apply foldl_snd_frame | intro _ | split | apply State.enter_frame | apply State.modPickup_frame | apply frameOpt_get (by assumption) | dsimp only)
  all_goals first | assumption | exact within_trans hW (within_of (by decide)) | exact within_group hW .srvRegs (by decide) rfl | exact within_group hW .motRegs (by decide) rfl | exact within_group hW .rchRegs (by decide) rfl

theorem execTrackJumpTimeout_frame {W : Nat} {s₀ s : State} (hs : Frame W s₀ s) (n : Fin 16) (hW : within 45011225837250 W) :
    FrameRes W s₀ (execTrackJumpTimeout n s) := by
  unfold execTrackJumpTimeout
  try dsimp only
  repeat' with_reducible (first | assumption | apply frameRes_next | apply frameOpt_none | apply frameOpt_some | apply State.forEach_frame | apply State.when_frame | apply foldl_frame | apply foldl_fst_frame | apply foldl_snd_frame | intro _ | split | apply State.lossOfTrack_frame | apply frameOpt_get (by assumption) | dsimp only)
  all_goals first | assumption | exact within_trans hW (within_of (by decide)) | exact within_group hW .linkRegs (by decide) rfl | exact within_group hW .memRegs (by decide) rfl | exact within_group hW .cchRegs (by decide) rfl | exact within_group hW .srvRegs (by decide) rfl | exact within_group hW .spnRegs (by decide) rfl | exact within_group hW .motRegs (by decide) rfl | exact within_group hW .rchRegs (by decide) rfl | exact within_group hW .recRegs (by decide) rfl | exact within_group hW .calRegs (by decide) rfl

theorem execLayerJumpTimeout_frame {W : Nat} {s₀ s : State} (hs : Frame W s₀ s) (n : Fin 16) (hW : within 328632113664 W) :
    FrameRes W s₀ (execLayerJumpTimeout n s) := by
  unfold execLayerJumpTimeout
  try dsimp only
  repeat' with_reducible (first | assumption | apply frameRes_next | apply frameOpt_none | apply frameOpt_some | apply State.forEach_frame | apply State.when_frame | apply foldl_frame | apply foldl_fst_frame | apply foldl_snd_frame | intro _ | split | apply State.sput_frame | apply State.layerJumpFail_frame | apply frameOpt_get (by assumption) | dsimp only)
  all_goals first | assumption | exact within_trans hW (within_of (by decide)) | exact within_group hW .srvRegs (by decide) rfl | exact within_group hW .motRegs (by decide) rfl | exact within_group hW .rchRegs (by decide) rfl

theorem execCoarseSettleEnd_frame {W : Nat} {s₀ s : State} (hs : Frame W s₀ s) (n : Fin 16) (hW : within 328632113664 W) :
    FrameRes W s₀ (execCoarseSettleEnd n s) := by
  unfold execCoarseSettleEnd
  try dsimp only
  repeat' with_reducible (first | assumption | apply frameRes_next | apply frameOpt_none | apply frameOpt_some | apply State.forEach_frame | apply State.when_frame | apply foldl_frame | apply foldl_fst_frame | apply foldl_snd_frame | intro _ | split | apply State.toPullin_frame | apply frameOpt_get (by assumption) | dsimp only)
  all_goals first | assumption | exact within_trans hW (within_of (by decide)) | exact within_group hW .srvRegs (by decide) rfl | exact within_group hW .motRegs (by decide) rfl | exact within_group hW .rchRegs (by decide) rfl

theorem execFocusLost_frame {W : Nat} {s₀ s : State} (hs : Frame W s₀ s) (n : Fin 16) (hW : within 45011225837250 W) :
    FrameRes W s₀ (execFocusLost n s) := by
  unfold execFocusLost
  try dsimp only
  repeat' with_reducible (first | assumption | apply frameRes_next | apply frameOpt_none | apply frameOpt_some | apply State.forEach_frame | apply State.when_frame | apply foldl_frame | apply foldl_fst_frame | apply foldl_snd_frame | intro _ | split | apply State.lossOfFocus_frame | apply frameOpt_get (by assumption) | dsimp only)
  all_goals first | assumption | exact within_trans hW (within_of (by decide)) | exact within_group hW .linkRegs (by decide) rfl | exact within_group hW .memRegs (by decide) rfl | exact within_group hW .cchRegs (by decide) rfl | exact within_group hW .srvRegs (by decide) rfl | exact within_group hW .spnRegs (by decide) rfl | exact within_group hW .motRegs (by decide) rfl | exact within_group hW .rchRegs (by decide) rfl | exact within_group hW .recRegs (by decide) rfl | exact within_group hW .calRegs (by decide) rfl

theorem execTrackLost_frame {W : Nat} {s₀ s : State} (hs : Frame W s₀ s) (n : Fin 16) (hW : within 45011225837250 W) :
    FrameRes W s₀ (execTrackLost n s) := by
  unfold execTrackLost
  try dsimp only
  repeat' with_reducible (first | assumption | apply frameRes_next | apply frameOpt_none | apply frameOpt_some | apply State.forEach_frame | apply State.when_frame | apply foldl_frame | apply foldl_fst_frame | apply foldl_snd_frame | intro _ | split | apply State.lossOfTrack_frame | apply frameOpt_get (by assumption) | dsimp only)
  all_goals first | assumption | exact within_trans hW (within_of (by decide)) | exact within_group hW .linkRegs (by decide) rfl | exact within_group hW .memRegs (by decide) rfl | exact within_group hW .cchRegs (by decide) rfl | exact within_group hW .srvRegs (by decide) rfl | exact within_group hW .spnRegs (by decide) rfl | exact within_group hW .motRegs (by decide) rfl | exact within_group hW .rchRegs (by decide) rfl | exact within_group hW .recRegs (by decide) rfl | exact within_group hW .calRegs (by decide) rfl

theorem execParkRampEnd_frame {W : Nat} {s₀ s : State} (hs : Frame W s₀ s) (n : Fin 16) (hW : within 328632113664 W) :
    FrameRes W s₀ (execParkRampEnd n s) := by
  unfold execParkRampEnd
  try dsimp only
  repeat' with_reducible (first | assumption | apply frameRes_next | apply frameOpt_none | apply frameOpt_some | apply State.forEach_frame | apply State.when_frame | apply foldl_frame | apply foldl_fst_frame | apply foldl_snd_frame | intro _ | split | apply State.enter_frame | apply State.modPickup_frame | apply frameOpt_get (by assumption) | dsimp only)
  all_goals first | assumption | exact within_trans hW (within_of (by decide)) | exact within_group hW .srvRegs (by decide) rfl | exact within_group hW .motRegs (by decide) rfl | exact within_group hW .rchRegs (by decide) rfl

theorem execRecoverCountClear_frame {W : Nat} {s₀ s : State} (hs : Frame W s₀ s) (n : Fin 16) (hW : within 512 W) :
    FrameRes W s₀ (execRecoverCountClear n s) := by
  unfold execRecoverCountClear
  try dsimp only
  repeat' with_reducible (first | assumption | apply frameRes_next | apply frameOpt_none | apply frameOpt_some | apply State.forEach_frame | apply State.when_frame | apply foldl_frame | apply foldl_fst_frame | apply foldl_snd_frame | intro _ | split | apply State.put_frame | apply frameOpt_get (by assumption) | dsimp only)
  all_goals first | assumption | exact within_trans hW (within_of (by decide)) | exact within_group hW .srvRegs (by decide) rfl

theorem execDefectLong_frame {W : Nat} {s₀ s : State} (hs : Frame W s₀ s) (n : Fin 16) (hW : within 34426847744 W) :
    FrameRes W s₀ (execDefectLong n s) := by
  unfold execDefectLong
  try dsimp only
  repeat' with_reducible (first | assumption | apply frameRes_next | apply frameOpt_none | apply frameOpt_some | apply State.forEach_frame | apply State.when_frame | apply foldl_frame | apply foldl_fst_frame | apply foldl_snd_frame | intro _ | split | apply State.put_frame | apply State.modPickup_frame | apply State.raise_frame | apply frameOpt_get (by assumption) | dsimp only)
  all_goals first | assumption | exact within_trans hW (within_of (by decide)) | exact within_group hW .srvRegs (by decide) rfl

theorem execDefectTriggersRestore_frame {W : Nat} {s₀ s : State} (hs : Frame W s₀ s) (n : Fin 16) (hW : within 34359738880 W) :
    FrameRes W s₀ (execDefectTriggersRestore n s) := by
  unfold execDefectTriggersRestore
  try dsimp only
  repeat' with_reducible (first | assumption | apply frameRes_next | apply frameOpt_none | apply frameOpt_some | apply State.forEach_frame | apply State.when_frame | apply foldl_frame | apply foldl_fst_frame | apply foldl_snd_frame | intro _ | split | apply State.modPickup_frame | apply State.put_frame | apply frameOpt_get (by assumption) | dsimp only)
  all_goals first | assumption | exact within_trans hW (within_of (by decide)) | exact within_group hW .srvRegs (by decide) rfl

theorem State.baeCheck_frame {W : Nat} {s₀ s : State} (hs : Frame W s₀ s) (n : Nat) (hW : within 35253060121282 W) :
    Frame W s₀ (State.baeCheck s n) := by
  unfold State.baeCheck
  try dsimp only
  repeat' with_reducible (first | assumption | apply frameRes_next | apply frameOpt_none | apply frameOpt_some | apply State.forEach_frame | apply State.when_frame | apply foldl_frame | apply foldl_fst_frame | apply foldl_snd_frame | intro _ | split | apply State.sput_frame | apply State.modPickup_frame | apply State.raise_frame | apply State.shutGates_frame | apply frameOpt_get (by assumption) | dsimp only)
  all_goals first | assumption | exact within_trans hW (within_of (by decide)) | exact within_group hW .linkRegs (by decide) rfl | exact within_group hW .memRegs (by decide) rfl | exact within_group hW .cchRegs (by decide) rfl | exact within_group hW .srvRegs (by decide) rfl | exact within_group hW .rchRegs (by decide) rfl | exact within_group hW .recRegs (by decide) rfl

theorem execRevolutionReference_frame {W : Nat} {s₀ s : State} (hs : Frame W s₀ s) (n : Fin 16) (hW : within 35527938030274 W) :
    FrameRes W s₀ (execRevolutionReference n s) := by
  unfold execRevolutionReference
  try dsimp only
  repeat' with_reducible (first | assumption | apply frameRes_next | apply frameOpt_none | apply frameOpt_some | apply State.forEach_frame | apply State.when_frame | apply foldl_frame | apply foldl_fst_frame | apply foldl_snd_frame | intro _ | split | apply State.baeCheck_frame | apply State.trackJump_frame | apply frameOpt_get (by assumption) | dsimp only)
  all_goals first | assumption | exact within_trans hW (within_of (by decide)) | exact within_group hW .linkRegs (by decide) rfl | exact within_group hW .memRegs (by decide) rfl | exact within_group hW .cchRegs (by decide) rfl | exact within_group hW .srvRegs (by decide) rfl | exact within_group hW .motRegs (by decide) rfl | exact within_group hW .rchRegs (by decide) rfl | exact within_group hW .recRegs (by decide) rfl

theorem execBaeGatesReopen_frame {W : Nat} {s₀ s : State} (hs : Frame W s₀ s) (n : Fin 16) (hW : within 34359738368 W) :
    FrameRes W s₀ (execBaeGatesReopen n s) := by
  unfold execBaeGatesReopen
  try dsimp only
  repeat' with_reducible (first | assumption | apply frameRes_next | apply frameOpt_none | apply frameOpt_some | apply State.forEach_frame | apply State.when_frame | apply foldl_frame | apply foldl_fst_frame | apply foldl_snd_frame | intro _ | split | apply State.modPickup_frame | apply frameOpt_get (by assumption) | dsimp only)
  all_goals first | assumption | exact within_trans hW (within_of (by decide))

theorem execBelayReqSet_frame {W : Nat} {s₀ s : State} (hs : Frame W s₀ s) (n : Fin 16) (hW : within 35527938030274 W) :
    FrameRes W s₀ (execBelayReqSet n s) := by
  unfold execBelayReqSet
  try dsimp only
  repeat' with_reducible (first | assumption | apply frameRes_next | apply frameOpt_none | apply frameOpt_some | apply State.forEach_frame | apply State.when_frame | apply foldl_frame | apply foldl_fst_frame | apply foldl_snd_frame | intro _ | split | apply State.put_frame | apply State.setBelay_frame | apply frameOpt_get (by assumption) | dsimp only)
  all_goals first | assumption | exact within_trans hW (within_of (by decide)) | exact within_group hW .linkRegs (by decide) rfl | exact within_group hW .memRegs (by decide) rfl | exact within_group hW .cchRegs (by decide) rfl | exact within_group hW .srvRegs (by decide) rfl | exact within_group hW .motRegs (by decide) rfl | exact within_group hW .rchRegs (by decide) rfl | exact within_group hW .recRegs (by decide) rfl

theorem execBelayReqClear_frame {W : Nat} {s₀ s : State} (hs : Frame W s₀ s) (n : Fin 16) (hW : within 35527938030274 W) :
    FrameRes W s₀ (execBelayReqClear n s) := by
  unfold execBelayReqClear
  try dsimp only
  repeat' with_reducible (first | assumption | apply frameRes_next | apply frameOpt_none | apply frameOpt_some | apply State.forEach_frame | apply State.when_frame | apply foldl_frame | apply foldl_fst_frame | apply foldl_snd_frame | intro _ | split | apply State.put_frame | apply State.setBelay_frame | apply frameOpt_get (by assumption) | dsimp only)
  all_goals first | assumption | exact within_trans hW (within_of (by decide)) | exact within_group hW .linkRegs (by decide) rfl | exact within_group hW .memRegs (by decide) rfl | exact within_group hW .cchRegs (by decide) rfl | exact within_group hW .srvRegs (by decide) rfl | exact within_group hW .motRegs (by decide) rfl | exact within_group hW .rchRegs (by decide) rfl | exact within_group hW .recRegs (by decide) rfl

theorem State.rampSample_frame {W : Nat} {s₀ s : State} (hs : Frame W s₀ s) (n : Nat) (hW : within 34359738880 W) :
    Frame W s₀ (State.rampSample s n) := by
  unfold State.rampSample
  try dsimp only
  repeat' with_reducible (first | assumption | apply frameRes_next | apply frameOpt_none | apply frameOpt_some | apply State.forEach_frame | apply State.when_frame | apply foldl_frame | apply foldl_fst_frame | apply foldl_snd_frame | intro _ | split | apply State.sput_frame | apply State.modPickup_frame | apply frameOpt_get (by assumption) | dsimp only)
  all_goals first | assumption | exact within_trans hW (within_of (by decide)) | exact within_group hW .srvRegs (by decide) rfl

theorem State.layerSample_frame {W : Nat} {s₀ s : State} (hs : Frame W s₀ s) (n : Nat) (fe sum : Int) (hW : within 328632113664 W) :
    Frame W s₀ (State.layerSample s n fe sum) := by
  unfold State.layerSample
  try dsimp only
  repeat' with_reducible (first | assumption | apply frameRes_next | apply frameOpt_none | apply frameOpt_some | apply State.forEach_frame | apply State.when_frame | apply foldl_frame | apply foldl_fst_frame | apply foldl_snd_frame | intro _ | split | apply State.enter_frame | apply State.modPickup_frame | apply State.sput_frame | apply frameOpt_get (by assumption) | dsimp only)
  all_goals first | assumption | exact within_trans hW (within_of (by decide)) | exact within_group hW .srvRegs (by decide) rfl | exact within_group hW .motRegs (by decide) rfl | exact within_group hW .rchRegs (by decide) rfl

theorem State.trackSample_frame {W : Nat} {s₀ s : State} (hs : Frame W s₀ s) (n : Nat) (te : Int) (hW : within 34426847744 W) :
    Frame W s₀ (State.trackSample s n te) := by
  unfold State.trackSample
  try dsimp only
  repeat' with_reducible (first | assumption | apply frameRes_next | apply frameOpt_none | apply frameOpt_some | apply State.forEach_frame | apply State.when_frame | apply foldl_frame | apply foldl_fst_frame | apply foldl_snd_frame | intro _ | split | apply State.driveLoop_frame | apply State.modPickup_frame | apply State.sput_frame | apply frameOpt_get (by assumption) | dsimp only)
  all_goals first | assumption | exact within_trans hW (within_of (by decide)) | exact within_group hW .srvRegs (by decide) rfl

theorem State.servoSample_frame {W : Nat} {s₀ s : State} (hs : Frame W s₀ s) (n : Nat) (hW : within 35527938030274 W) :
    Frame W s₀ (State.servoSample s n) := by
  unfold State.servoSample
  try dsimp only
  repeat' with_reducible (first | assumption | apply frameRes_next | apply frameOpt_none | apply frameOpt_some | apply State.forEach_frame | apply State.when_frame | apply foldl_frame | apply foldl_fst_frame | apply foldl_snd_frame | intro _ | split | apply State.modPickup_frame | apply State.shutGates_frame | apply State.rampSample_frame | apply State.layerSample_frame | apply State.trackSample_frame | apply State.checkBelay_frame | apply State.startSearch_frame | apply frameOpt_get (by assumption) | dsimp only)
  all_goals first | assumption | exact within_trans hW (within_of (by decide)) | exact within_group hW .linkRegs (by decide) rfl | exact within_group hW .memRegs (by decide) rfl | exact within_group hW .cchRegs (by decide) rfl | exact within_group hW .srvRegs (by decide) rfl | exact within_group hW .motRegs (by decide) rfl | exact within_group hW .rchRegs (by decide) rfl | exact within_group hW .recRegs (by decide) rfl

end Sys2Proof.Machine
end

