-- ==== Sys2Proof/Laws/FrameLoop.lean ====
section
/-!
SUPPORT. What the operations and commands of Machine/Loop.lean leave as it was: all parts outside a mask.
-/
set_option Elab.async false
set_option linter.all false
namespace Sys2Proof.Machine
set_option maxRecDepth 2000

theorem State.paceBoost_frame {W : Nat} {s₀ s : State} (hs : Frame W s₀ s) (hW : within 262144 W) :
    Frame W s₀ (State.paceBoost s) := by
  unfold State.paceBoost
  try dsimp only
  repeat' with_reducible (first | assumption | apply frameRes_next | apply frameOpt_none | apply frameOpt_some | apply State.forEach_frame | apply State.when_frame | apply foldl_frame | apply foldl_fst_frame | apply foldl_snd_frame | intro _ | split | apply State.put_frame | apply frameOpt_get (by assumption) | dsimp only)
  all_goals first | assumption | exact within_trans hW (within_of (by decide)) | exact within_group hW .sysRegs (by decide) rfl

theorem State.lateSample_frame {W : Nat} {s₀ s : State} (hs : Frame W s₀ s) (n mask : Nat) (hW : within 68786848256 W) :
    Frame W s₀ (State.lateSample s n mask) := by
  unfold State.lateSample
  try dsimp only
  repeat' with_reducible (first | assumption | apply frameRes_next | apply frameOpt_none | apply frameOpt_some | apply State.forEach_frame | apply State.when_frame | apply foldl_frame | apply foldl_fst_frame | apply foldl_snd_frame | intro _ | split | apply State.setLp_frame | apply State.raise_frame | apply State.incSat_frame | apply State.put_frame | apply State.count_frame | apply State.paceBoost_frame | apply frameOpt_get (by assumption) | dsimp only)
  all_goals first | assumption | exact within_trans hW (within_of (by decide)) | exact within_group hW .srvRegs (by decide) rfl | exact within_group hW .sysRegs (by decide) rfl

theorem State.traceEntry_frame {W : Nat} {s₀ s : State} (hs : Frame W s₀ s) (n : Nat) (skipped : Bool) (hW : within 69057118784 W) :
    Frame W s₀ (State.traceEntry s n skipped) := by
  unfold State.traceEntry
  try dsimp only
  repeat' with_reducible (first | assumption | apply frameRes_next | apply frameOpt_none | apply frameOpt_some | apply State.forEach_frame | apply State.when_frame | apply foldl_frame | apply foldl_fst_frame | apply foldl_snd_frame | intro _ | split | apply State.put_frame | apply State.modLp_frame | apply State.mergeWord_frame | apply frameOpt_get (by assumption) | dsimp only)
  all_goals first | assumption | exact within_trans hW (within_of (by decide)) | exact within_group hW .memRegs (by decide) rfl | exact within_group hW .srvRegs (by decide) rfl

theorem State.traceSample_frame {W : Nat} {s₀ s : State} (hs : Frame W s₀ s) (n : Nat) (skipped : Bool) (hW : within 69057118784 W) :
    Frame W s₀ (State.traceSample s n skipped) := by
  unfold State.traceSample
  try dsimp only
  repeat' with_reducible (first | assumption | apply frameRes_next | apply frameOpt_none | apply frameOpt_some | apply State.forEach_frame | apply State.when_frame | apply foldl_frame | apply foldl_fst_frame | apply foldl_snd_frame | intro _ | split | apply State.modLp_frame | apply State.count_frame | apply State.traceEntry_frame | apply State.put_frame | apply frameOpt_get (by assumption) | dsimp only)
  all_goals first | assumption | exact within_trans hW (within_of (by decide)) | exact within_group hW .memRegs (by decide) rfl | exact within_group hW .srvRegs (by decide) rfl

theorem State.traceArm_frame {W : Nat} {s₀ s : State} (hs : Frame W s₀ s) (n : Nat) (hW : within 68719477248 W) :
    Frame W s₀ (State.traceArm s n) := by
  unfold State.traceArm
  try dsimp only
  repeat' with_reducible (first | assumption | apply frameRes_next | apply frameOpt_none | apply frameOpt_some | apply State.forEach_frame | apply State.when_frame | apply foldl_frame | apply foldl_fst_frame | apply foldl_snd_frame | intro _ | split | apply State.put_frame | apply State.modLp_frame | apply frameOpt_get (by assumption) | dsimp only)
  all_goals first | assumption | exact within_trans hW (within_of (by decide)) | exact within_group hW .srvRegs (by decide) rfl

theorem State.traceFire_frame {W : Nat} {s₀ s : State} (hs : Frame W s₀ s) (n : Nat) (hW : within 68719476736 W) :
    Frame W s₀ (State.traceFire s n) := by
  unfold State.traceFire
  try dsimp only
  repeat' with_reducible (first | assumption | apply frameRes_next | apply frameOpt_none | apply frameOpt_some | apply State.forEach_frame | apply State.when_frame | apply foldl_frame | apply foldl_fst_frame | apply foldl_snd_frame | intro _ | split | apply State.modLp_frame | apply frameOpt_get (by assumption) | dsimp only)
  all_goals first | assumption | exact within_trans hW (within_of (by decide))

theorem State.settleSample_frame {W : Nat} {s₀ s : State} (hs : Frame W s₀ s) (n : Nat) (hW : within 69057380928 W) :
    Frame W s₀ (State.settleSample s n) := by
  unfold State.settleSample
  try dsimp only
  repeat' with_reducible (first | assumption | apply frameRes_next | apply frameOpt_none | apply frameOpt_some | apply State.forEach_frame | apply State.when_frame | apply foldl_frame | apply foldl_fst_frame | apply foldl_snd_frame | intro _ | split | apply State.lateSample_frame | apply State.put_frame | apply State.modLp_frame | apply State.incSat_frame | apply State.traceSample_frame | apply frameOpt_get (by assumption) | dsimp only)
  all_goals first | assumption | exact within_trans hW (within_of (by decide)) | exact within_group hW .memRegs (by decide) rfl | exact within_group hW .srvRegs (by decide) rfl | exact within_group hW .sysRegs (by decide) rfl

theorem State.fmdSample_frame {W : Nat} {s₀ s : State} (hs : Frame W s₀ s) (n : Nat) (hW : within 35253060121282 W) :
    Frame W s₀ (State.fmdSample s n) := by
  unfold State.fmdSample
  try dsimp only
  repeat' with_reducible (first | assumption | apply frameRes_next | apply frameOpt_none | apply frameOpt_some | apply State.forEach_frame | apply State.when_frame | apply foldl_frame | apply foldl_fst_frame | apply foldl_snd_frame | intro _ | split | apply State.modPuRec_frame | apply State.shutGates_frame | apply frameOpt_get (by assumption) | dsimp only)
  all_goals first | assumption | exact within_trans hW (within_of (by decide)) | exact within_group hW .linkRegs (by decide) rfl | exact within_group hW .memRegs (by decide) rfl | exact within_group hW .cchRegs (by decide) rfl | exact within_group hW .srvRegs (by decide) rfl | exact within_group hW .rchRegs (by decide) rfl | exact within_group hW .recRegs (by decide) rfl

theorem State.compute_frame {W : Nat} {s₀ s : State} (hs : Frame W s₀ s) (n : Nat) (smp : SampleIn) (hW : within 35596657507010 W) :
    Frame W s₀ (State.compute s n smp) := by
  unfold State.compute
  try dsimp only
  repeat' with_reducible (first | assumption | apply frameRes_next | apply frameOpt_none | apply frameOpt_some | apply State.forEach_frame | apply State.when_frame | apply foldl_frame | apply foldl_fst_frame | apply foldl_snd_frame | intro _ | split | apply State.setLp_frame | apply State.put_frame | apply State.post_frame | apply State.fmdSample_frame | apply State.servoSample_frame | apply frameOpt_get (by assumption) | dsimp only)
  all_goals first | assumption | exact within_trans hW (within_of (by decide)) | exact within_group hW .linkRegs (by decide) rfl | exact within_group hW .memRegs (by decide) rfl | exact within_group hW .cchRegs (by decide) rfl | exact within_group hW .srvRegs (by decide) rfl | exact within_group hW .motRegs (by decide) rfl | exact within_group hW .rchRegs (by decide) rfl | exact within_group hW .recRegs (by decide) rfl

theorem State.sendReadPower_frame {W : Nat} {s₀ s : State} (hs : Frame W s₀ s) (n : Nat) (hW : within 35184506306562 W := by first | assumption | exact within_trans (by assumption) (within_of (by decide))) :
    Frame W s₀ (State.sendReadPower s n) := by
  unfold State.sendReadPower
  try dsimp only
  repeat' with_reducible (first | assumption | apply frameRes_next | apply frameOpt_none | apply frameOpt_some | apply State.forEach_frame | apply State.when_frame | apply foldl_frame | apply foldl_fst_frame | apply foldl_snd_frame | intro _ | split | apply State.lddWrite_frame | apply frameOpt_get (by assumption) | dsimp only)
  all_goals first | assumption | exact within_trans hW (within_of (by decide)) | exact within_group hW .linkRegs (by decide) rfl

theorem State.holdReadPower_frame {W : Nat} {s₀ s : State} (hs : Frame W s₀ s) (n : Nat) (hW : within 35218866044930 W) :
    Frame W s₀ (State.holdReadPower s n) := by
  unfold State.holdReadPower
  try dsimp only
  repeat' with_reducible (first | assumption | apply frameRes_next | apply frameOpt_none | apply frameOpt_some | apply State.forEach_frame | apply State.when_frame | apply foldl_frame | apply foldl_fst_frame | apply foldl_snd_frame | intro _ | split | apply State.modPickup_frame | apply State.sendReadPower_frame | apply frameOpt_get (by assumption) | dsimp only)
  all_goals first | assumption | exact within_trans hW (within_of (by decide)) | exact within_group hW .linkRegs (by decide) rfl

theorem State.ownSignals_frame {W : Nat} {s₀ s : State} (hs : Frame W s₀ s) (n : Nat) (hW : within 68721573888 W := by first | assumption | exact within_trans (by assumption) (within_of (by decide))) : Frame W s₀ (s.ownSignals n) := by
  unfold State.ownSignals
  extract_lets p on inj set t₁ t₂ t₃ phase
  clear_value p on inj set t₁ t₂ t₃ phase
  cases on
  · exact Frame.set_free (State.setLp_frame hs _ _) _ (within_trans hW (within_of (by decide)))
  · exact Frame.set_free (State.setLp_frame hs _ _) _ (within_trans hW (within_of (by decide)))

theorem State.captureSample_frame {W : Nat} {s₀ s : State} (hs : Frame W s₀ s) (n : Nat) (conv : List (List Nat)) (sled : Bool) (hW : within 35596657507010 W) :
    Frame W s₀ (State.captureSample s n conv sled) := by
  unfold State.captureSample
  try dsimp only
  repeat' with_reducible (first | assumption | apply frameRes_next | apply frameOpt_none | apply frameOpt_some | apply State.forEach_frame | apply State.when_frame | apply foldl_frame | apply foldl_fst_frame | apply foldl_snd_frame | intro _ | split | apply State.setFlag_frame | apply State.put_frame | apply State.modLp_frame | apply State.formSignals_frame | apply State.ownSignals_frame | apply State.compute_frame | apply frameOpt_get (by assumption) | apply Frame.set_lanes | dsimp only)
  all_goals first | assumption | exact within_trans hW (within_of (by decide)) | exact within_group hW .linkRegs (by decide) rfl | exact within_group hW .memRegs (by decide) rfl | exact within_group hW .cchRegs (by decide) rfl | exact within_group hW .srvRegs (by decide) rfl | exact within_group hW .motRegs (by decide) rfl | exact within_group hW .rchRegs (by decide) rfl | exact within_group hW .recRegs (by decide) rfl

theorem execSampleInstant_frame {W : Nat} {s₀ s : State} (hs : Frame W s₀ s) (inputs : List (List (List Nat))) (hW : within 36696169396930 W) :
    FrameRes W s₀ (execSampleInstant inputs s) := by
  unfold execSampleInstant
  try dsimp only
  repeat' with_reducible (first | assumption | apply frameRes_next | apply frameOpt_none | apply frameOpt_some | apply State.forEach_frame | apply State.when_frame | apply foldl_frame | apply foldl_fst_frame | apply foldl_snd_frame | intro _ | split | apply State.settleSample_frame | apply State.incWrap_frame | apply State.modMotor_frame | apply State.modLp_frame | apply State.holdReadPower_frame | apply State.captureSample_frame | apply frameOpt_get (by assumption) | apply Frame.set_timebase | dsimp only)
  all_goals first | assumption | exact within_trans hW (within_of (by decide)) | exact within_group hW .linkRegs (by decide) rfl | exact within_group hW .memRegs (by decide) rfl | exact within_group hW .cchRegs (by decide) rfl | exact within_group hW .srvRegs (by decide) rfl | exact within_group hW .motRegs (by decide) rfl | exact within_group hW .rchRegs (by decide) rfl | exact within_group hW .recRegs (by decide) rfl | exact within_group hW .sysRegs (by decide) rfl

theorem execOutputInstant_frame {W : Nat} {s₀ s : State} (hs : Frame W s₀ s) (n : Fin 16) (ready : Fin 4) (hW : within 68786848256 W) :
    FrameRes W s₀ (execOutputInstant n ready s) := by
  unfold execOutputInstant
  try dsimp only
  repeat' with_reducible (first | assumption | apply frameRes_next | apply frameOpt_none | apply frameOpt_some | apply State.forEach_frame | apply State.when_frame | apply foldl_frame | apply foldl_fst_frame | apply foldl_snd_frame | intro _ | split | apply State.modLp_frame | apply State.lateSample_frame | apply State.sput_frame | apply frameOpt_get (by assumption) | dsimp only)
  all_goals first | assumption | exact within_trans hW (within_of (by decide)) | exact within_group hW .srvRegs (by decide) rfl | exact within_group hW .sysRegs (by decide) rfl

theorem execLoopComputationEnd_frame {W : Nat} {s₀ s : State} (hs : Frame W s₀ s) (n : Fin 16) (hW : within 35596657507010 W) :
    FrameRes W s₀ (execLoopComputationEnd n s) := by
  unfold execLoopComputationEnd
  try dsimp only
  repeat' with_reducible (first | assumption | apply frameRes_next | apply frameOpt_none | apply frameOpt_some | apply State.forEach_frame | apply State.when_frame | apply foldl_frame | apply foldl_fst_frame | apply foldl_snd_frame | intro _ | split | apply State.modLp_frame | apply State.compute_frame | apply frameOpt_get (by assumption) | dsimp only)
  all_goals first | assumption | exact within_trans hW (within_of (by decide)) | exact within_group hW .linkRegs (by decide) rfl | exact within_group hW .memRegs (by decide) rfl | exact within_group hW .cchRegs (by decide) rfl | exact within_group hW .srvRegs (by decide) rfl | exact within_group hW .motRegs (by decide) rfl | exact within_group hW .rchRegs (by decide) rfl | exact within_group hW .recRegs (by decide) rfl

theorem execLoopBelayLate_frame {W : Nat} {s₀ s : State} (hs : Frame W s₀ s) (n : Fin 16) (hW : within 35527938030274 W) :
    FrameRes W s₀ (execLoopBelayLate n s) := by
  unfold execLoopBelayLate
  try dsimp only
  repeat' with_reducible (first | assumption | apply frameRes_next | apply frameOpt_none | apply frameOpt_some | apply State.forEach_frame | apply State.when_frame | apply foldl_frame | apply foldl_fst_frame | apply foldl_snd_frame | intro _ | split | apply State.put_frame | apply State.post_frame | apply State.setBelay_frame | apply frameOpt_get (by assumption) | dsimp only)
  all_goals first | assumption | exact within_trans hW (within_of (by decide)) | exact within_group hW .linkRegs (by decide) rfl | exact within_group hW .memRegs (by decide) rfl | exact within_group hW .cchRegs (by decide) rfl | exact within_group hW .srvRegs (by decide) rfl | exact within_group hW .motRegs (by decide) rfl | exact within_group hW .rchRegs (by decide) rfl | exact within_group hW .recRegs (by decide) rfl

theorem execLoopOnTime_frame {W : Nat} {s₀ s : State} (hs : Frame W s₀ s) (n : Fin 16) (hW : within 35527938030274 W) :
    FrameRes W s₀ (execLoopOnTime n s) := by
  unfold execLoopOnTime
  try dsimp only
  repeat' with_reducible (first | assumption | apply frameRes_next | apply frameOpt_none | apply frameOpt_some | apply State.forEach_frame | apply State.when_frame | apply foldl_frame | apply foldl_fst_frame | apply foldl_snd_frame | intro _ | split | apply State.put_frame | apply State.post_frame | apply State.setBelay_frame | apply frameOpt_get (by assumption) | dsimp only)
  all_goals first | assumption | exact within_trans hW (within_of (by decide)) | exact within_group hW .linkRegs (by decide) rfl | exact within_group hW .memRegs (by decide) rfl | exact within_group hW .cchRegs (by decide) rfl | exact within_group hW .srvRegs (by decide) rfl | exact within_group hW .motRegs (by decide) rfl | exact within_group hW .rchRegs (by decide) rfl | exact within_group hW .recRegs (by decide) rfl

theorem execTraceArm_frame {W : Nat} {s₀ s : State} (hs : Frame W s₀ s) (n : Fin 16) (hW : within 68719477248 W) :
    FrameRes W s₀ (execTraceArm n s) := by
  unfold execTraceArm
  try dsimp only
  repeat' with_reducible (first | assumption | apply frameRes_next | apply frameOpt_none | apply frameOpt_some | apply State.forEach_frame | apply State.when_frame | apply foldl_frame | apply foldl_fst_frame | apply foldl_snd_frame | intro _ | split | apply State.traceArm_frame | apply frameOpt_get (by assumption) | dsimp only)
  all_goals first | assumption | exact within_trans hW (within_of (by decide)) | exact within_group hW .srvRegs (by decide) rfl

theorem execTraceStop_frame {W : Nat} {s₀ s : State} (hs : Frame W s₀ s) (n : Fin 16) (hW : within 512 W) :
    FrameRes W s₀ (execTraceStop n s) := by
  unfold execTraceStop
  try dsimp only
  repeat' with_reducible (first | assumption | apply frameRes_next | apply frameOpt_none | apply frameOpt_some | apply State.forEach_frame | apply State.when_frame | apply foldl_frame | apply foldl_fst_frame | apply foldl_snd_frame | intro _ | split | apply State.put_frame | apply frameOpt_get (by assumption) | dsimp only)
  all_goals first | assumption | exact within_trans hW (within_of (by decide)) | exact within_group hW .srvRegs (by decide) rfl

theorem execTraceFire_frame {W : Nat} {s₀ s : State} (hs : Frame W s₀ s) (n : Fin 16) (hW : within 68719476736 W) :
    FrameRes W s₀ (execTraceFire n s) := by
  unfold execTraceFire
  try dsimp only
  repeat' with_reducible (first | assumption | apply frameRes_next | apply frameOpt_none | apply frameOpt_some | apply State.forEach_frame | apply State.when_frame | apply foldl_frame | apply foldl_fst_frame | apply foldl_snd_frame | intro _ | split | apply State.traceFire_frame | apply frameOpt_get (by assumption) | dsimp only)
  all_goals first | assumption | exact within_trans hW (within_of (by decide))

theorem execTraceDone_frame {W : Nat} {s₀ s : State} (hs : Frame W s₀ s) (n : Fin 16) (hW : within 67109376 W) :
    FrameRes W s₀ (execTraceDone n s) := by
  unfold execTraceDone
  try dsimp only
  repeat' with_reducible (first | assumption | apply frameRes_next | apply frameOpt_none | apply frameOpt_some | apply State.forEach_frame | apply State.when_frame | apply foldl_frame | apply foldl_fst_frame | apply foldl_snd_frame | intro _ | split | apply State.put_frame | apply State.putPair_frame | apply State.raise_frame | apply frameOpt_get (by assumption) | dsimp only)
  all_goals first | assumption | exact within_trans hW (within_of (by decide)) | exact within_group hW .srvRegs (by decide) rfl

theorem execTrcArm_frame {W : Nat} {s₀ s : State} (hs : Frame W s₀ s) (mask : BitVec 16) (hW : within 68719477248 W) :
    FrameRes W s₀ (execTrcArm mask s) := by
  unfold execTrcArm
  try dsimp only
  repeat' with_reducible (first | assumption | apply frameRes_next | apply frameOpt_none | apply frameOpt_some | apply State.forEach_frame | apply State.when_frame | apply foldl_frame | apply foldl_fst_frame | apply foldl_snd_frame | intro _ | split | apply State.traceArm_frame | apply frameOpt_get (by assumption) | dsimp only)
  all_goals first | assumption | exact within_trans hW (within_of (by decide)) | exact within_group hW .srvRegs (by decide) rfl

theorem execTrcFire_frame {W : Nat} {s₀ s : State} (hs : Frame W s₀ s) (mask : BitVec 16) (hW : within 68719476736 W) :
    FrameRes W s₀ (execTrcFire mask s) := by
  unfold execTrcFire
  try dsimp only
  repeat' with_reducible (first | assumption | apply frameRes_next | apply frameOpt_none | apply frameOpt_some | apply State.forEach_frame | apply State.when_frame | apply foldl_frame | apply foldl_fst_frame | apply foldl_snd_frame | intro _ | split | apply State.traceFire_frame | apply frameOpt_get (by assumption) | dsimp only)
  all_goals first | assumption | exact within_trans hW (within_of (by decide))

theorem execLaserOverpower_frame {W : Nat} {s₀ s : State} (hs : Frame W s₀ s) (n : Fin 16) (hW : within 45011225837250 W) :
    FrameRes W s₀ (execLaserOverpower n s) := by
  unfold execLaserOverpower
  try dsimp only
  repeat' with_reducible (first | assumption | apply frameRes_next | apply frameOpt_none | apply frameOpt_some | apply State.forEach_frame | apply State.when_frame | apply foldl_frame | apply foldl_fst_frame | apply foldl_snd_frame | intro _ | split | apply State.raise_frame | apply State.put_frame | apply State.driveLden_frame | apply State.abortCal_frame | apply frameOpt_get (by assumption) | dsimp only)
  all_goals first | assumption | exact within_trans hW (within_of (by decide)) | exact within_group hW .linkRegs (by decide) rfl | exact within_group hW .memRegs (by decide) rfl | exact within_group hW .cchRegs (by decide) rfl | exact within_group hW .srvRegs (by decide) rfl | exact within_group hW .spnRegs (by decide) rfl | exact within_group hW .motRegs (by decide) rfl | exact within_group hW .rchRegs (by decide) rfl | exact within_group hW .recRegs (by decide) rfl | exact within_group hW .calRegs (by decide) rfl

end Sys2Proof.Machine
end

