-- ==== Sys2Proof/Laws/FrameLdd.lean ====
section
/-!
SUPPORT. What the operations and commands of Machine/Ldd.lean leave as it was: all parts outside a mask.
-/
set_option Elab.async false
set_option linter.all false
namespace Sys2Proof.Machine
set_option maxRecDepth 2000

theorem State.trainLdd_frame {W : Nat} {s₀ s : State} (hs : Frame W s₀ s) (n : Nat) (hW : within 35218866044930 W) :
    Frame W s₀ (State.trainLdd s n) := by
  unfold State.trainLdd
  try dsimp only
  repeat' with_reducible (first | assumption | apply frameRes_next | apply frameOpt_none | apply frameOpt_some | apply State.forEach_frame | apply State.when_frame | apply foldl_frame | apply foldl_fst_frame | apply foldl_snd_frame | intro _ | split | apply State.modPickup_frame | apply State.ldd_frame | apply frameOpt_get (by assumption) | dsimp only)
  all_goals first | assumption | exact within_trans hW (within_of (by decide)) | exact within_group hW .linkRegs (by decide) rfl

theorem execLddLinkEnable_frame {W : Nat} {s₀ s : State} (hs : Frame W s₀ s) (n : Fin 16) (hW : within 35218866045442 W) :
    FrameRes W s₀ (execLddLinkEnable n s) := by
  unfold execLddLinkEnable
  try dsimp only
  repeat' with_reducible (first | assumption | apply frameRes_next | apply frameOpt_none | apply frameOpt_some | apply State.forEach_frame | apply State.when_frame | apply foldl_frame | apply foldl_fst_frame | apply foldl_snd_frame | intro _ | split | apply State.put_frame | apply State.trainLdd_frame | apply frameOpt_get (by assumption) | dsimp only)
  all_goals first | assumption | exact within_trans hW (within_of (by decide)) | exact within_group hW .linkRegs (by decide) rfl | exact within_group hW .srvRegs (by decide) rfl

theorem State.lddOff_frame {W : Nat} {s₀ s : State} (hs : Frame W s₀ s) (n : Nat) (hW : within 35253060121282 W) :
    Frame W s₀ (State.lddOff s n) := by
  unfold State.lddOff
  try dsimp only
  repeat' with_reducible (first | assumption | apply frameRes_next | apply frameOpt_none | apply frameOpt_some | apply State.forEach_frame | apply State.when_frame | apply foldl_frame | apply foldl_fst_frame | apply foldl_snd_frame | intro _ | split | apply State.put_frame | apply State.driveLden_frame | apply State.shutGates_frame | apply State.modPickup_frame | apply frameOpt_get (by assumption) | dsimp only)
  all_goals first | assumption | exact within_trans hW (within_of (by decide)) | exact within_group hW .linkRegs (by decide) rfl | exact within_group hW .memRegs (by decide) rfl | exact within_group hW .cchRegs (by decide) rfl | exact within_group hW .srvRegs (by decide) rfl | exact within_group hW .rchRegs (by decide) rfl | exact within_group hW .recRegs (by decide) rfl

theorem State.lddLost_frame {W : Nat} {s₀ s : State} (hs : Frame W s₀ s) (n how : Nat) (hW : within 35253060121282 W) :
    Frame W s₀ (State.lddLost s n how) := by
  unfold State.lddLost
  try dsimp only
  repeat' with_reducible (first | assumption | apply frameRes_next | apply frameOpt_none | apply frameOpt_some | apply State.forEach_frame | apply State.when_frame | apply foldl_frame | apply foldl_fst_frame | apply foldl_snd_frame | intro _ | split | apply State.put_frame | apply State.raise_frame | apply State.driveLden_frame | apply State.shutGates_frame | apply State.trainLdd_frame | apply frameOpt_get (by assumption) | dsimp only)
  all_goals first | assumption | exact within_trans hW (within_of (by decide)) | exact within_group hW .linkRegs (by decide) rfl | exact within_group hW .memRegs (by decide) rfl | exact within_group hW .cchRegs (by decide) rfl | exact within_group hW .srvRegs (by decide) rfl | exact within_group hW .rchRegs (by decide) rfl | exact within_group hW .recRegs (by decide) rfl

theorem State.applySelect_frame {W : Nat} {s₀ s : State} (hs : Frame W s₀ s) (n : Nat) (hW : within 35193096249346 W) :
    Frame W s₀ (State.applySelect s n) := by
  unfold State.applySelect
  try dsimp only
  repeat' with_reducible (first | assumption | apply frameRes_next | apply frameOpt_none | apply frameOpt_some | apply State.forEach_frame | apply State.when_frame | apply foldl_frame | apply foldl_fst_frame | apply foldl_snd_frame | intro _ | split | apply State.lddWrite_frame | apply State.modPuRec_frame | apply State.put_frame | apply frameOpt_get (by assumption) | dsimp only)
  all_goals first | assumption | exact within_trans hW (within_of (by decide)) | exact within_group hW .linkRegs (by decide) rfl | exact within_group hW .recRegs (by decide) rfl

theorem State.takeStatus_frame {W : Nat} {s₀ s : State} (hs : Frame W s₀ s) (n : Nat) (b : List Nat) (hW : within 35253060121282 W) :
    Frame W s₀ (State.takeStatus s n b) := by
  unfold State.takeStatus
  try dsimp only
  repeat' with_reducible (first | assumption | apply frameRes_next | apply frameOpt_none | apply frameOpt_some | apply State.forEach_frame | apply State.when_frame | apply foldl_frame | apply foldl_fst_frame | apply foldl_snd_frame | intro _ | split | apply State.setFlag_frame | apply State.put_frame | apply State.modPickup_frame | apply State.post_frame | apply State.shutGates_frame | apply State.applySelect_frame | apply frameOpt_get (by assumption) | dsimp only)
  all_goals first | assumption | exact within_trans hW (within_of (by decide)) | exact within_group hW .linkRegs (by decide) rfl | exact within_group hW .memRegs (by decide) rfl | exact within_group hW .cchRegs (by decide) rfl | exact within_group hW .srvRegs (by decide) rfl | exact within_group hW .rchRegs (by decide) rfl | exact within_group hW .recRegs (by decide) rfl

theorem execLddStatusFrame_frame {W : Nat} {s₀ s : State} (hs : Frame W s₀ s) (n : Fin 16) (frame : List Byte) (hW : within 35253060121282 W) :
    FrameRes W s₀ (execLddStatusFrame n frame s) := by
  unfold execLddStatusFrame
  try dsimp only
  repeat' with_reducible (first | assumption | apply frameRes_next | apply frameOpt_none | apply frameOpt_some | apply State.forEach_frame | apply State.when_frame | apply foldl_frame | apply foldl_fst_frame | apply foldl_snd_frame | intro _ | split | apply State.modPickup_frame | apply State.takeStatus_frame | apply frameOpt_get (by assumption) | dsimp only)
  all_goals first | assumption | exact within_trans hW (within_of (by decide)) | exact within_group hW .linkRegs (by decide) rfl | exact within_group hW .memRegs (by decide) rfl | exact within_group hW .cchRegs (by decide) rfl | exact within_group hW .srvRegs (by decide) rfl | exact within_group hW .rchRegs (by decide) rfl | exact within_group hW .recRegs (by decide) rfl

theorem execLddLinkUp_frame {W : Nat} {s₀ s : State} (hs : Frame W s₀ s) (n : Fin 16) (hW : within 35218866045442 W) :
    FrameRes W s₀ (execLddLinkUp n s) := by
  unfold execLddLinkUp
  try dsimp only
  repeat' with_reducible (first | assumption | apply frameRes_next | apply frameOpt_none | apply frameOpt_some | apply State.forEach_frame | apply State.when_frame | apply foldl_frame | apply foldl_fst_frame | apply foldl_snd_frame | intro _ | split | apply State.put_frame | apply State.modPickup_frame | apply State.lddWrite_frame | apply State.sendReadPower_frame | apply State.driveLden_frame | apply frameOpt_get (by assumption) | dsimp only)
  all_goals first | assumption | exact within_trans hW (within_of (by decide)) | exact within_group hW .linkRegs (by decide) rfl | exact within_group hW .srvRegs (by decide) rfl

theorem execLddBadFrames_frame {W : Nat} {s₀ s : State} (hs : Frame W s₀ s) (n : Fin 16) (hW : within 35253060121282 W) :
    FrameRes W s₀ (execLddBadFrames n s) := by
  unfold execLddBadFrames
  try dsimp only
  repeat' with_reducible (first | assumption | apply frameRes_next | apply frameOpt_none | apply frameOpt_some | apply State.forEach_frame | apply State.when_frame | apply foldl_frame | apply foldl_fst_frame | apply foldl_snd_frame | intro _ | split | apply State.lddLost_frame | apply frameOpt_get (by assumption) | dsimp only)
  all_goals first | assumption | exact within_trans hW (within_of (by decide)) | exact within_group hW .linkRegs (by decide) rfl | exact within_group hW .memRegs (by decide) rfl | exact within_group hW .cchRegs (by decide) rfl | exact within_group hW .srvRegs (by decide) rfl | exact within_group hW .rchRegs (by decide) rfl | exact within_group hW .recRegs (by decide) rfl

theorem execLddStatusTimeout_frame {W : Nat} {s₀ s : State} (hs : Frame W s₀ s) (n : Fin 16) (hW : within 35253060121282 W) :
    FrameRes W s₀ (execLddStatusTimeout n s) := by
  unfold execLddStatusTimeout
  try dsimp only
  repeat' with_reducible (first | assumption | apply frameRes_next | apply frameOpt_none | apply frameOpt_some | apply State.forEach_frame | apply State.when_frame | apply foldl_frame | apply foldl_fst_frame | apply foldl_snd_frame | intro _ | split | apply State.lddLost_frame | apply frameOpt_get (by assumption) | dsimp only)
  all_goals first | assumption | exact within_trans hW (within_of (by decide)) | exact within_group hW .linkRegs (by decide) rfl | exact within_group hW .memRegs (by decide) rfl | exact within_group hW .cchRegs (by decide) rfl | exact within_group hW .srvRegs (by decide) rfl | exact within_group hW .rchRegs (by decide) rfl | exact within_group hW .recRegs (by decide) rfl

theorem State.sendBank_frame {W : Nat} {s₀ s : State} (hs : Frame W s₀ s) (n bank : Nat) (bytes : List Nat) (hW : within 35184506306562 W) :
    Frame W s₀ (State.sendBank s n bank bytes) := by
  unfold State.sendBank
  try dsimp only
  repeat' with_reducible (first | assumption | apply frameRes_next | apply frameOpt_none | apply frameOpt_some | apply State.forEach_frame | apply State.when_frame | apply foldl_frame | apply foldl_fst_frame | apply foldl_snd_frame | intro _ | split | apply State.emitAll_frame | apply State.ldd_frame | apply frameOpt_get (by assumption) | dsimp only)
  all_goals first | assumption | exact within_trans hW (within_of (by decide)) | exact within_group hW .linkRegs (by decide) rfl

theorem execLddTableLoad_frame {W : Nat} {s₀ s : State} (hs : Frame W s₀ s) (n : Fin 16) (layer : Fin 8) (crc1 crc2 : BitVec 32) (hW : within 35193163358722 W) :
    FrameRes W s₀ (execLddTableLoad n layer crc1 crc2 s) := by
  have h1 : ∀ k b, (tableOk k b).group = .srvRegs := by
    intro k b
    unfold tableOk
    split <;> rfl
  unfold execLddTableLoad
  try dsimp only
  repeat' with_reducible (first | assumption | apply frameRes_next | apply frameOpt_none | apply frameOpt_some | apply State.forEach_frame | apply State.when_frame | apply foldl_frame | apply foldl_fst_frame | apply foldl_snd_frame | intro _ | split | apply State.put_frame | apply State.sendBank_frame | apply State.modPuRec_frame | apply State.applySelect_frame | apply State.post_frame | apply frameOpt_get (by assumption) | dsimp only)
  all_goals first | assumption | exact within_trans hW (within_of (by decide)) | exact within_group hW .linkRegs (by decide) rfl | exact within_group hW .srvRegs (by decide) rfl | exact within_group hW .recRegs (by decide) rfl | exact within_group hW .srvRegs (by decide) (h1 _ _)

end Sys2Proof.Machine
end

