-- ==== Sys2Proof/Laws/FrameSpindle.lean ====
section
/-!
SUPPORT. What the operations and commands of Machine/Spindle.lean leave as it was: all parts outside a mask.
-/
set_option Elab.async false
set_option linter.all false
namespace Sys2Proof.Machine
set_option maxRecDepth 2000

theorem State.spnEnter_frame {W : Nat} {s₀ s : State} (hs : Frame W s₀ s) (st p : Nat) (b : Bridge) (hW : within 137438954496 W := by first | assumption | exact within_trans (by assumption) (within_of (by decide))) :
    Frame W s₀ (State.spnEnter s st p b) := by
  unfold State.spnEnter
  try dsimp only
  repeat' with_reducible (first | assumption | apply frameRes_next | apply frameOpt_none | apply frameOpt_some | apply State.forEach_frame | apply State.when_frame | apply foldl_frame | apply foldl_fst_frame | apply foldl_snd_frame | intro _ | split | apply State.put_frame | apply State.modSpindle_frame | apply frameOpt_get (by assumption) | dsimp only)
  all_goals first | assumption | exact within_trans hW (within_of (by decide)) | exact within_group hW .spnRegs (by decide) rfl

theorem State.failStation_frame {W : Nat} {s₀ s : State} (hs : Frame W s₀ s) (st status : Nat) (hW : within 45011225837250 W) :
    Frame W s₀ (State.failStation s st status) := by
  unfold State.failStation
  try dsimp only
  repeat' with_reducible (first | assumption | apply frameRes_next | apply frameOpt_none | apply frameOpt_some | apply State.forEach_frame | apply State.when_frame | apply foldl_frame | apply foldl_fst_frame | apply foldl_snd_frame | intro _ | split | apply State.load_frame | apply State.failLoad_frame | apply State.unload_frame | apply State.failUnload_frame | apply State.stopCmd_frame | apply frameOpt_get (by assumption) | dsimp only)
  all_goals first | assumption | exact within_trans hW (within_of (by decide)) | exact within_group hW .linkRegs (by decide) rfl | exact within_group hW .memRegs (by decide) rfl | exact within_group hW .cchRegs (by decide) rfl | exact within_group hW .srvRegs (by decide) rfl | exact within_group hW .spnRegs (by decide) rfl | exact within_group hW .motRegs (by decide) rfl | exact within_group hW .rchRegs (by decide) rfl | exact within_group hW .recRegs (by decide) rfl | exact within_group hW .calRegs (by decide) rfl

theorem State.spindleLost_frame {W : Nat} {s₀ s : State} (hs : Frame W s₀ s) (st : Nat) (hW : within 45011225837250 W) :
    Frame W s₀ (State.spindleLost s st) := by
  unfold State.spindleLost
  try dsimp only
  repeat' with_reducible (first | assumption | apply frameRes_next | apply frameOpt_none | apply frameOpt_some | apply State.forEach_frame | apply State.when_frame | apply foldl_frame | apply foldl_fst_frame | apply foldl_snd_frame | intro _ | split | apply State.abortCal_frame | apply State.parkLens_frame | apply State.breakRun_frame | apply State.put_frame | apply State.failStation_frame | apply frameOpt_get (by assumption) | dsimp only)
  all_goals first | assumption | exact within_trans hW (within_of (by decide)) | exact within_group hW .linkRegs (by decide) rfl | exact within_group hW .memRegs (by decide) rfl | exact within_group hW .cchRegs (by decide) rfl | exact within_group hW .srvRegs (by decide) rfl | exact within_group hW .spnRegs (by decide) rfl | exact within_group hW .motRegs (by decide) rfl | exact within_group hW .rchRegs (by decide) rfl | exact within_group hW .recRegs (by decide) rfl | exact within_group hW .calRegs (by decide) rfl

theorem State.startFailed_frame {W : Nat} {s₀ s : State} (hs : Frame W s₀ s) (st : Nat) (hW : within 45011225837250 W) :
    Frame W s₀ (State.startFailed s st) := by
  unfold State.startFailed
  try dsimp only
  repeat' with_reducible (first | assumption | apply frameRes_next | apply frameOpt_none | apply frameOpt_some | apply State.forEach_frame | apply State.when_frame | apply foldl_frame | apply foldl_fst_frame | apply foldl_snd_frame | intro _ | split | apply State.failStation_frame | apply State.abortCal_frame | apply frameOpt_get (by assumption) | dsimp only)
  all_goals first | assumption | exact within_trans hW (within_of (by decide)) | exact within_group hW .linkRegs (by decide) rfl | exact within_group hW .memRegs (by decide) rfl | exact within_group hW .cchRegs (by decide) rfl | exact within_group hW .srvRegs (by decide) rfl | exact within_group hW .spnRegs (by decide) rfl | exact within_group hW .motRegs (by decide) rfl | exact within_group hW .rchRegs (by decide) rfl | exact within_group hW .recRegs (by decide) rfl | exact within_group hW .calRegs (by decide) rfl

theorem State.spnStartFail_frame {W : Nat} {s₀ s : State} (hs : Frame W s₀ s) (st reason : Nat) (hW : within 45011225837250 W) :
    Frame W s₀ (State.spnStartFail s st reason) := by
  unfold State.spnStartFail
  try dsimp only
  repeat' with_reducible (first | assumption | apply frameRes_next | apply frameOpt_none | apply frameOpt_some | apply State.forEach_frame | apply State.when_frame | apply foldl_frame | apply foldl_fst_frame | apply foldl_snd_frame | intro _ | split | apply State.spnEnter_frame | apply State.raise_frame | apply State.startFailed_frame | apply frameOpt_get (by assumption) | dsimp only)
  all_goals first | assumption | exact within_trans hW (within_of (by decide)) | exact within_group hW .linkRegs (by decide) rfl | exact within_group hW .memRegs (by decide) rfl | exact within_group hW .cchRegs (by decide) rfl | exact within_group hW .srvRegs (by decide) rfl | exact within_group hW .spnRegs (by decide) rfl | exact within_group hW .motRegs (by decide) rfl | exact within_group hW .rchRegs (by decide) rfl | exact within_group hW .recRegs (by decide) rfl | exact within_group hW .calRegs (by decide) rfl

theorem State.spnStart_frame {W : Nat} {s₀ s : State} (hs : Frame W s₀ s) (st : Nat) (hW : within 45011225837250 W) :
    Frame W s₀ (State.spnStart s st) := by
  unfold State.spnStart
  try dsimp only
  repeat' with_reducible (first | assumption | apply frameRes_next | apply frameOpt_none | apply frameOpt_some | apply State.forEach_frame | apply State.when_frame | apply foldl_frame | apply foldl_fst_frame | apply foldl_snd_frame | intro _ | split | apply State.put_frame | apply State.spnStartFail_frame | apply State.spnEnter_frame | apply frameOpt_get (by assumption) | dsimp only)
  all_goals first | assumption | exact within_trans hW (within_of (by decide)) | exact within_group hW .linkRegs (by decide) rfl | exact within_group hW .memRegs (by decide) rfl | exact within_group hW .cchRegs (by decide) rfl | exact within_group hW .srvRegs (by decide) rfl | exact within_group hW .spnRegs (by decide) rfl | exact within_group hW .motRegs (by decide) rfl | exact within_group hW .rchRegs (by decide) rfl | exact within_group hW .recRegs (by decide) rfl | exact within_group hW .calRegs (by decide) rfl

theorem State.spnStop_frame {W : Nat} {s₀ s : State} (hs : Frame W s₀ s) (st : Nat) (hW : within 45011225837250 W := by first | assumption | exact within_trans (by assumption) (within_of (by decide))) :
    Frame W s₀ (State.spnStop s st) := by
  unfold State.spnStop
  try dsimp only
  repeat' with_reducible (first | assumption | apply frameRes_next | apply frameOpt_none | apply frameOpt_some | apply State.forEach_frame | apply State.when_frame | apply foldl_frame | apply foldl_fst_frame | apply foldl_snd_frame | intro _ | split | apply State.spnEnter_frame | apply State.put_frame | apply State.post_frame | apply State.spnStart_frame | apply frameOpt_get (by assumption) | dsimp only)
  all_goals first | assumption | exact within_trans hW (within_of (by decide)) | exact within_group hW .linkRegs (by decide) rfl | exact within_group hW .memRegs (by decide) rfl | exact within_group hW .cchRegs (by decide) rfl | exact within_group hW .srvRegs (by decide) rfl | exact within_group hW .spnRegs (by decide) rfl | exact within_group hW .motRegs (by decide) rfl | exact within_group hW .rchRegs (by decide) rfl | exact within_group hW .recRegs (by decide) rfl | exact within_group hW .calRegs (by decide) rfl

theorem State.spnRappel_frame {W : Nat} {s₀ s : State} (hs : Frame W s₀ s) (st : Nat) (regen : Bool) (hW : within 963179973632 W) :
    Frame W s₀ (State.spnRappel s st regen) := by
  unfold State.spnRappel
  try dsimp only
  repeat' with_reducible (first | assumption | apply frameRes_next | apply frameOpt_none | apply frameOpt_some | apply State.forEach_frame | apply State.when_frame | apply foldl_frame | apply foldl_fst_frame | apply foldl_snd_frame | intro _ | split | apply State.spnEnter_frame | apply State.rappel_frame | apply State.modSpindle_frame | apply frameOpt_get (by assumption) | dsimp only)
  all_goals first | assumption | exact within_trans hW (within_of (by decide)) | exact within_group hW .spnRegs (by decide) rfl | exact within_group hW .motRegs (by decide) rfl

theorem State.spnLocate_frame {W : Nat} {s₀ s : State} (hs : Frame W s₀ s) (st : Nat) (hW : within 137438954496 W := by first | assumption | exact within_trans (by assumption) (within_of (by decide))) :
    Frame W s₀ (State.spnLocate s st) := by
  unfold State.spnLocate
  try dsimp only
  repeat' with_reducible (first | assumption | apply frameRes_next | apply frameOpt_none | apply frameOpt_some | apply State.forEach_frame | apply State.when_frame | apply foldl_frame | apply foldl_fst_frame | apply foldl_snd_frame | intro _ | split | apply State.spnEnter_frame | apply State.modSpindle_frame | apply frameOpt_get (by assumption) | dsimp only)
  all_goals first | assumption | exact within_trans hW (within_of (by decide)) | exact within_group hW .spnRegs (by decide) rfl

theorem State.spnAttemptFails_frame {W : Nat} {s₀ s : State} (hs : Frame W s₀ s) (st reason : Nat) (hW : within 45011225837250 W) :
    Frame W s₀ (State.spnAttemptFails s st reason) := by
  unfold State.spnAttemptFails
  try dsimp only
  repeat' with_reducible (first | assumption | apply frameRes_next | apply frameOpt_none | apply frameOpt_some | apply State.forEach_frame | apply State.when_frame | apply foldl_frame | apply foldl_fst_frame | apply foldl_snd_frame | intro _ | split | apply State.incSat_frame | apply State.spnStartFail_frame | apply State.spnEnter_frame | apply frameOpt_get (by assumption) | dsimp only)
  all_goals first | assumption | exact within_trans hW (within_of (by decide)) | exact within_group hW .linkRegs (by decide) rfl | exact within_group hW .memRegs (by decide) rfl | exact within_group hW .cchRegs (by decide) rfl | exact within_group hW .srvRegs (by decide) rfl | exact within_group hW .spnRegs (by decide) rfl | exact within_group hW .motRegs (by decide) rfl | exact within_group hW .rchRegs (by decide) rfl | exact within_group hW .recRegs (by decide) rfl | exact within_group hW .calRegs (by decide) rfl

theorem State.spnRamp_frame {W : Nat} {s₀ s : State} (hs : Frame W s₀ s) (st : Nat) (rate : Rat) (step : Nat) (hW : within 137438954496 W) :
    Frame W s₀ (State.spnRamp s st rate step) := by
  unfold State.spnRamp
  try dsimp only
  repeat' with_reducible (first | assumption | apply frameRes_next | apply frameOpt_none | apply frameOpt_some | apply State.forEach_frame | apply State.when_frame | apply foldl_frame | apply foldl_fst_frame | apply foldl_snd_frame | intro _ | split | apply State.spnEnter_frame | apply State.modSpindle_frame | apply frameOpt_get (by assumption) | dsimp only)
  all_goals first | assumption | exact within_trans hW (within_of (by decide)) | exact within_group hW .spnRegs (by decide) rfl

theorem State.writeRun_frame {W : Nat} {s₀ s : State} (hs : Frame W s₀ s) (st : Nat) (on : Bool) (hW : within 45011225837250 W := by first | assumption | exact within_trans (by assumption) (within_of (by decide))) :
    Frame W s₀ (State.writeRun s st on) := by
  unfold State.writeRun
  try dsimp only
  repeat' with_reducible (first | assumption | apply frameRes_next | apply frameOpt_none | apply frameOpt_some | apply State.forEach_frame | apply State.when_frame | apply foldl_frame | apply foldl_fst_frame | apply foldl_snd_frame | intro _ | split | apply State.setFlag_frame | apply State.spnStart_frame | apply State.spnEnter_frame | apply State.spnRappel_frame | apply frameOpt_get (by assumption) | dsimp only)
  all_goals first | assumption | exact within_trans hW (within_of (by decide)) | exact within_group hW .linkRegs (by decide) rfl | exact within_group hW .memRegs (by decide) rfl | exact within_group hW .cchRegs (by decide) rfl | exact within_group hW .srvRegs (by decide) rfl | exact within_group hW .spnRegs (by decide) rfl | exact within_group hW .motRegs (by decide) rfl | exact within_group hW .rchRegs (by decide) rfl | exact within_group hW .recRegs (by decide) rfl | exact within_group hW .calRegs (by decide) rfl

theorem execSpindleRunSet_frame {W : Nat} {s₀ s : State} (hs : Frame W s₀ s) (st : Fin 8) (hW : within 45011225837250 W) :
    FrameRes W s₀ (execSpindleRunSet st s) := by
  unfold execSpindleRunSet
  try dsimp only
  repeat' with_reducible (first | assumption | apply frameRes_next | apply frameOpt_none | apply frameOpt_some | apply State.forEach_frame | apply State.when_frame | apply foldl_frame | apply foldl_fst_frame | apply foldl_snd_frame | intro _ | split | apply State.writeRun_frame | apply frameOpt_get (by assumption) | dsimp only)
  all_goals first | assumption | exact within_trans hW (within_of (by decide)) | exact within_group hW .linkRegs (by decide) rfl | exact within_group hW .memRegs (by decide) rfl | exact within_group hW .cchRegs (by decide) rfl | exact within_group hW .srvRegs (by decide) rfl | exact within_group hW .spnRegs (by decide) rfl | exact within_group hW .motRegs (by decide) rfl | exact within_group hW .rchRegs (by decide) rfl | exact within_group hW .recRegs (by decide) rfl | exact within_group hW .calRegs (by decide) rfl

theorem execSpindleRunClear_frame {W : Nat} {s₀ s : State} (hs : Frame W s₀ s) (st : Fin 8) (hW : within 45011225837250 W) :
    FrameRes W s₀ (execSpindleRunClear st s) := by
  unfold execSpindleRunClear
  try dsimp only
  repeat' with_reducible (first | assumption | apply frameRes_next | apply frameOpt_none | apply frameOpt_some | apply State.forEach_frame | apply State.when_frame | apply foldl_frame | apply foldl_fst_frame | apply foldl_snd_frame | intro _ | split | apply State.writeRun_frame | apply frameOpt_get (by assumption) | dsimp only)
  all_goals first | assumption | exact within_trans hW (within_of (by decide)) | exact within_group hW .linkRegs (by decide) rfl | exact within_group hW .memRegs (by decide) rfl | exact within_group hW .cchRegs (by decide) rfl | exact within_group hW .srvRegs (by decide) rfl | exact within_group hW .spnRegs (by decide) rfl | exact within_group hW .motRegs (by decide) rfl | exact within_group hW .rchRegs (by decide) rfl | exact within_group hW .recRegs (by decide) rfl | exact within_group hW .calRegs (by decide) rfl

theorem State.checkAtSpeed_frame {W : Nat} {s₀ s : State} (hs : Frame W s₀ s) (st : Nat) (hW : within 137438954496 W := by first | assumption | exact within_trans (by assumption) (within_of (by decide))) :
    Frame W s₀ (State.checkAtSpeed s st) := by
  unfold State.checkAtSpeed
  try dsimp only
  repeat' with_reducible (first | assumption | apply frameRes_next | apply frameOpt_none | apply frameOpt_some | apply State.forEach_frame | apply State.when_frame | apply foldl_frame | apply foldl_fst_frame | apply foldl_snd_frame | intro _ | split | apply State.put_frame | apply State.modSpindle_frame | apply frameOpt_get (by assumption) | dsimp only)
  all_goals first | assumption | exact within_trans hW (within_of (by decide)) | exact within_group hW .spnRegs (by decide) rfl

theorem execSpindleTargetWrite_frame {W : Nat} {s₀ s : State} (hs : Frame W s₀ s) (st : Fin 8) (value : Word) (hW : within 137438954496 W) :
    FrameRes W s₀ (execSpindleTargetWrite st value s) := by
  unfold execSpindleTargetWrite
  try dsimp only
  repeat' with_reducible (first | assumption | apply frameRes_next | apply frameOpt_none | apply frameOpt_some | apply State.forEach_frame | apply State.when_frame | apply foldl_frame | apply foldl_fst_frame | apply foldl_snd_frame | intro _ | split | apply State.put_frame | apply State.checkAtSpeed_frame | apply frameOpt_get (by assumption) | dsimp only)
  all_goals first | assumption | exact within_trans hW (within_of (by decide)) | exact within_group hW .spnRegs (by decide) rfl

theorem execProbeTimeout_frame {W : Nat} {s₀ s : State} (hs : Frame W s₀ s) (st : Fin 8) (hW : within 137438954496 W) :
    FrameRes W s₀ (execProbeTimeout st s) := by
  unfold execProbeTimeout
  try dsimp only
  repeat' with_reducible (first | assumption | apply frameRes_next | apply frameOpt_none | apply frameOpt_some | apply State.forEach_frame | apply State.when_frame | apply foldl_frame | apply foldl_fst_frame | apply foldl_snd_frame | intro _ | split | apply State.spnEnter_frame | apply State.spnLocate_frame | apply frameOpt_get (by assumption) | dsimp only)
  all_goals first | assumption | exact within_trans hW (within_of (by decide)) | exact within_group hW .spnRegs (by decide) rfl

theorem execHfiDone_frame {W : Nat} {s₀ s : State} (hs : Frame W s₀ s) (st : Fin 8) (q : Byte) (step : Fin 6) (hW : within 45011225837250 W) :
    FrameRes W s₀ (execHfiDone st q step s) := by
  unfold execHfiDone
  try dsimp only
  repeat' with_reducible (first | assumption | apply frameRes_next | apply frameOpt_none | apply frameOpt_some | apply State.forEach_frame | apply State.when_frame | apply foldl_frame | apply foldl_fst_frame | apply foldl_snd_frame | intro _ | split | apply State.put_frame | apply State.spnRamp_frame | apply State.spnAttemptFails_frame | apply State.spnEnter_frame | apply State.modSpindle_frame | apply frameOpt_get (by assumption) | dsimp only)
  all_goals first | assumption | exact within_trans hW (within_of (by decide)) | exact within_group hW .linkRegs (by decide) rfl | exact within_group hW .memRegs (by decide) rfl | exact within_group hW .cchRegs (by decide) rfl | exact within_group hW .srvRegs (by decide) rfl | exact within_group hW .spnRegs (by decide) rfl | exact within_group hW .motRegs (by decide) rfl | exact within_group hW .rchRegs (by decide) rfl | exact within_group hW .recRegs (by decide) rfl | exact within_group hW .calRegs (by decide) rfl

theorem execAlignElapsed_frame {W : Nat} {s₀ s : State} (hs : Frame W s₀ s) (st : Fin 8) (hW : within 137438954496 W) :
    FrameRes W s₀ (execAlignElapsed st s) := by
  unfold execAlignElapsed
  try dsimp only
  repeat' with_reducible (first | assumption | apply frameRes_next | apply frameOpt_none | apply frameOpt_some | apply State.forEach_frame | apply State.when_frame | apply foldl_frame | apply foldl_fst_frame | apply foldl_snd_frame | intro _ | split | apply State.spnRamp_frame | apply frameOpt_get (by assumption) | dsimp only)
  all_goals first | assumption | exact within_trans hW (within_of (by decide)) | exact within_group hW .spnRegs (by decide) rfl

theorem State.spnClose_frame {W : Nat} {s₀ s : State} (hs : Frame W s₀ s) (st : Nat) (duty : Rat) (hW : within 137438954496 W := by first | assumption | exact within_trans (by assumption) (within_of (by decide))) :
    Frame W s₀ (State.spnClose s st duty) := by
  unfold State.spnClose
  try dsimp only
  repeat' with_reducible (first | assumption | apply frameRes_next | apply frameOpt_none | apply frameOpt_some | apply State.forEach_frame | apply State.when_frame | apply foldl_frame | apply foldl_fst_frame | apply foldl_snd_frame | intro _ | split | apply State.spnEnter_frame | apply State.modSpindle_frame | apply frameOpt_get (by assumption) | dsimp only)
  all_goals first | assumption | exact within_trans hW (within_of (by decide)) | exact within_group hW .spnRegs (by decide) rfl

theorem State.spnRotorLoss_frame {W : Nat} {s₀ s : State} (hs : Frame W s₀ s) (st how : Nat) (hW : within 45011225837250 W := by first | assumption | exact within_trans (by assumption) (within_of (by decide))) :
    Frame W s₀ (State.spnRotorLoss s st how) := by
  unfold State.spnRotorLoss
  try dsimp only
  repeat' with_reducible (first | assumption | apply frameRes_next | apply frameOpt_none | apply frameOpt_some | apply State.forEach_frame | apply State.when_frame | apply foldl_frame | apply foldl_fst_frame | apply foldl_snd_frame | intro _ | split | apply State.spnEnter_frame | apply State.raise_frame | apply State.rotorLost_frame | apply State.rappel_frame | apply State.modSpindle_frame | apply frameOpt_get (by assumption) | dsimp only)
  all_goals first | assumption | exact within_trans hW (within_of (by decide)) | exact within_group hW .linkRegs (by decide) rfl | exact within_group hW .memRegs (by decide) rfl | exact within_group hW .cchRegs (by decide) rfl | exact within_group hW .srvRegs (by decide) rfl | exact within_group hW .spnRegs (by decide) rfl | exact within_group hW .motRegs (by decide) rfl | exact within_group hW .rchRegs (by decide) rfl | exact within_group hW .recRegs (by decide) rfl | exact within_group hW .calRegs (by decide) rfl

theorem State.endPowerStop_frame {W : Nat} {s₀ s : State} (hs : Frame W s₀ s) (st : Nat) (hW : within 4294967296 W := by first | assumption | exact within_trans (by assumption) (within_of (by decide))) :
    Frame W s₀ (State.endPowerStop s st) := by
  unfold State.endPowerStop
  try dsimp only
  repeat' with_reducible (first | assumption | apply frameRes_next | apply frameOpt_none | apply frameOpt_some | apply State.forEach_frame | apply State.when_frame | apply foldl_frame | apply foldl_fst_frame | apply foldl_snd_frame | intro _ | split | apply State.modStation_frame | apply frameOpt_get (by assumption) | dsimp only)
  all_goals first | assumption | exact within_trans hW (within_of (by decide))

theorem execSpindleZeroCrossing_frame {W : Nat} {s₀ s : State} (hs : Frame W s₀ s) (st : Fin 8) (interval after : Nat) (emf : Rat) (hW : within 45011225837250 W := by first | assumption | exact within_trans (by assumption) (within_of (by decide))) :
    FrameRes W s₀ (execSpindleZeroCrossing st interval after emf s) := by
  unfold execSpindleZeroCrossing

  extract_lets x t before s₁ s₂ v s₃ p total jump s₄ step good s₅ six s₆
  have h₃ : Frame W s₀ s₃ := State.endPowerStop_frame (State.put_frame (State.setSpindle_frame hs _ _) _ _) _
  have h₄ : Frame W s₀ s₄ := State.checkAtSpeed_frame (State.followAngle_frame h₃ _ _) _
  have h₅ : Frame W s₀ s₅ := State.modSpindle_frame h₃ _ _
  have h₆ : Frame W s₀ s₆ := State.spnClose_frame h₃ _ _
  clear_value s₄ s₅ s₆ s₃ jump p six good v
  repeat' with_reducible (first | assumption | apply frameRes_next | split | apply State.spnRotorLoss_frame | apply State.spnStop_frame | apply State.spnClose_frame | apply State.raise_frame | apply State.spnLocate_frame | apply State.spnEnter_frame)
  all_goals first | assumption | exact within_trans hW (within_of (by decide)) | exact within_group hW .linkRegs (by decide) rfl | exact within_group hW .memRegs (by decide) rfl | exact within_group hW .cchRegs (by decide) rfl | exact within_group hW .srvRegs (by decide) rfl | exact within_group hW .spnRegs (by decide) rfl | exact within_group hW .motRegs (by decide) rfl | exact within_group hW .rchRegs (by decide) rfl | exact within_group hW .recRegs (by decide) rfl | exact within_group hW .calRegs (by decide) rfl

theorem execSpindleCommutation_frame {W : Nat} {s₀ s : State} (hs : Frame W s₀ s) (st : Fin 8) (elapsed : Nat) (duty : Rat) (hW : within 45011225837250 W) :
    FrameRes W s₀ (execSpindleCommutation st elapsed duty s) := by
  unfold execSpindleCommutation
  try dsimp only
  repeat' with_reducible (first | assumption | apply frameRes_next | apply frameOpt_none | apply frameOpt_some | apply State.forEach_frame | apply State.when_frame | apply foldl_frame | apply foldl_fst_frame | apply foldl_snd_frame | intro _ | split | apply State.setSpindle_frame | apply State.modSpindle_frame | apply State.spnAttemptFails_frame | apply frameOpt_get (by assumption) | dsimp only)
  all_goals first | assumption | exact within_trans hW (within_of (by decide)) | exact within_group hW .linkRegs (by decide) rfl | exact within_group hW .memRegs (by decide) rfl | exact within_group hW .cchRegs (by decide) rfl | exact within_group hW .srvRegs (by decide) rfl | exact within_group hW .spnRegs (by decide) rfl | exact within_group hW .motRegs (by decide) rfl | exact within_group hW .rchRegs (by decide) rfl | exact within_group hW .recRegs (by decide) rfl | exact within_group hW .calRegs (by decide) rfl

theorem execZeroCrossingMissed_frame {W : Nat} {s₀ s : State} (hs : Frame W s₀ s) (st : Fin 8) (hW : within 45011225837250 W) :
    FrameRes W s₀ (execZeroCrossingMissed st s) := by
  unfold execZeroCrossingMissed
  try dsimp only
  repeat' with_reducible (first | assumption | apply frameRes_next | apply frameOpt_none | apply frameOpt_some | apply State.forEach_frame | apply State.when_frame | apply foldl_frame | apply foldl_fst_frame | apply foldl_snd_frame | intro _ | split | apply State.rappel_frame | apply State.setSpindle_frame | apply State.spnRotorLoss_frame | apply frameOpt_get (by assumption) | dsimp only)
  all_goals first | assumption | exact within_trans hW (within_of (by decide)) | exact within_group hW .linkRegs (by decide) rfl | exact within_group hW .memRegs (by decide) rfl | exact within_group hW .cchRegs (by decide) rfl | exact within_group hW .srvRegs (by decide) rfl | exact within_group hW .spnRegs (by decide) rfl | exact within_group hW .motRegs (by decide) rfl | exact within_group hW .rchRegs (by decide) rfl | exact within_group hW .recRegs (by decide) rfl | exact within_group hW .calRegs (by decide) rfl

theorem execCatchTimeout_frame {W : Nat} {s₀ s : State} (hs : Frame W s₀ s) (st : Fin 8) (hW : within 45011225837250 W) :
    FrameRes W s₀ (execCatchTimeout st s) := by
  unfold execCatchTimeout
  try dsimp only
  repeat' with_reducible (first | assumption | apply frameRes_next | apply frameOpt_none | apply frameOpt_some | apply State.forEach_frame | apply State.when_frame | apply foldl_frame | apply foldl_fst_frame | apply foldl_snd_frame | intro _ | split | apply State.spnRappel_frame | apply State.raise_frame | apply State.spindleLost_frame | apply frameOpt_get (by assumption) | dsimp only)
  all_goals first | assumption | exact within_trans hW (within_of (by decide)) | exact within_group hW .linkRegs (by decide) rfl | exact within_group hW .memRegs (by decide) rfl | exact within_group hW .cchRegs (by decide) rfl | exact within_group hW .srvRegs (by decide) rfl | exact within_group hW .spnRegs (by decide) rfl | exact within_group hW .motRegs (by decide) rfl | exact within_group hW .rchRegs (by decide) rfl | exact within_group hW .recRegs (by decide) rfl | exact within_group hW .calRegs (by decide) rfl

theorem State.wakePickup_frame {W : Nat} {s₀ s : State} (hs : Frame W s₀ s) (n : Nat) (hW : within 35218866045442 W := by first | assumption | exact within_trans (by assumption) (within_of (by decide))) :
    Frame W s₀ (State.wakePickup s n) := by
  unfold State.wakePickup
  try dsimp only
  repeat' with_reducible (first | assumption | apply frameRes_next | apply frameOpt_none | apply frameOpt_some | apply State.forEach_frame | apply State.when_frame | apply foldl_frame | apply foldl_fst_frame | apply foldl_snd_frame | intro _ | split | apply State.modPickup_frame | apply State.put_frame | apply State.trainLdd_frame | apply frameOpt_get (by assumption) | dsimp only)
  all_goals first | assumption | exact within_trans hW (within_of (by decide)) | exact within_group hW .linkRegs (by decide) rfl | exact within_group hW .srvRegs (by decide) rfl

theorem execSpeedLoopInstant_frame {W : Nat} {s₀ s : State} (hs : Frame W s₀ s) (st : Fin 8) (hW : within 45011225837250 W := by first | assumption | exact within_trans (by assumption) (within_of (by decide))) : FrameRes W s₀ (execSpeedLoopInstant st s) := by
  unfold execSpeedLoopInstant
  extract_lets s₁ x p v target up down regen goal ref e kp ki want clamped duty ts group near s₂
  have h₁ : Frame W s₀ s₁ := by
    show Frame W s₀ (if _ then _ else _)
    split
    · exact State.writeRun_frame hs _ _
    · exact hs
  have h₂ : Frame W s₀ s₂ := State.setSpindle_frame h₁ _ _
  clear_value s₂ regen p s₁
  repeat' with_reducible (first | assumption | apply frameRes_next | apply State.forEach_frame | intro _ | split | apply State.wakePickup_frame)
  all_goals first | assumption | exact within_trans hW (within_of (by decide)) | exact within_group hW .linkRegs (by decide) rfl | exact within_group hW .memRegs (by decide) rfl | exact within_group hW .cchRegs (by decide) rfl | exact within_group hW .srvRegs (by decide) rfl | exact within_group hW .spnRegs (by decide) rfl | exact within_group hW .motRegs (by decide) rfl | exact within_group hW .rchRegs (by decide) rfl | exact within_group hW .recRegs (by decide) rfl | exact within_group hW .calRegs (by decide) rfl

theorem execAtSpeed_frame {W : Nat} {s₀ s : State} (hs : Frame W s₀ s) (st : Fin 8) (hW : within 35527938031298 W) :
    FrameRes W s₀ (execAtSpeed st s) := by
  unfold execAtSpeed
  try dsimp only
  repeat' with_reducible (first | assumption | apply frameRes_next | apply frameOpt_none | apply frameOpt_some | apply State.forEach_frame | apply State.when_frame | apply foldl_frame | apply foldl_fst_frame | apply foldl_snd_frame | intro _ | split | apply State.put_frame | apply State.setBelay_frame | apply State.wakePickup_frame | apply frameOpt_get (by assumption) | dsimp only)
  all_goals first | assumption | exact within_trans hW (within_of (by decide)) | exact within_group hW .linkRegs (by decide) rfl | exact within_group hW .memRegs (by decide) rfl | exact within_group hW .cchRegs (by decide) rfl | exact within_group hW .srvRegs (by decide) rfl | exact within_group hW .spnRegs (by decide) rfl | exact within_group hW .motRegs (by decide) rfl | exact within_group hW .rchRegs (by decide) rfl | exact within_group hW .recRegs (by decide) rfl

theorem State.powerStopped_frame {W : Nat} {s₀ s : State} (hs : Frame W s₀ s) (st : Nat) (hW : within 45011225837250 W) :
    Frame W s₀ (State.powerStopped s st) := by
  unfold State.powerStopped
  try dsimp only
  repeat' with_reducible (first | assumption | apply frameRes_next | apply frameOpt_none | apply frameOpt_some | apply State.forEach_frame | apply State.when_frame | apply foldl_frame | apply foldl_fst_frame | apply foldl_snd_frame | intro _ | split | apply State.modStation_frame | apply State.spindleLost_frame | apply State.endPowerStop_frame | apply frameOpt_get (by assumption) | dsimp only)
  all_goals first | assumption | exact within_trans hW (within_of (by decide)) | exact within_group hW .linkRegs (by decide) rfl | exact within_group hW .memRegs (by decide) rfl | exact within_group hW .cchRegs (by decide) rfl | exact within_group hW .srvRegs (by decide) rfl | exact within_group hW .spnRegs (by decide) rfl | exact within_group hW .motRegs (by decide) rfl | exact within_group hW .rchRegs (by decide) rfl | exact within_group hW .recRegs (by decide) rfl | exact within_group hW .calRegs (by decide) rfl

theorem State.chopperFault_frame {W : Nat} {s₀ s : State} (hs : Frame W s₀ s) (st how : Nat) (hW : within 45011225837250 W) :
    Frame W s₀ (State.chopperFault s st how) := by
  unfold State.chopperFault
  try dsimp only
  repeat' with_reducible (first | assumption | apply frameRes_next | apply frameOpt_none | apply frameOpt_some | apply State.forEach_frame | apply State.when_frame | apply foldl_frame | apply foldl_fst_frame | apply foldl_snd_frame | intro _ | split | apply State.modSpindle_frame | apply State.spnEnter_frame | apply State.raise_frame | apply State.powerStopped_frame | apply frameOpt_get (by assumption) | dsimp only)
  all_goals first | assumption | exact within_trans hW (within_of (by decide)) | exact within_group hW .linkRegs (by decide) rfl | exact within_group hW .memRegs (by decide) rfl | exact within_group hW .cchRegs (by decide) rfl | exact within_group hW .srvRegs (by decide) rfl | exact within_group hW .spnRegs (by decide) rfl | exact within_group hW .motRegs (by decide) rfl | exact within_group hW .rchRegs (by decide) rfl | exact within_group hW .recRegs (by decide) rfl | exact within_group hW .calRegs (by decide) rfl

theorem State.driveChopper_frame {W : Nat} {s₀ s : State} (hs : Frame W s₀ s) (st : Nat) (hW : within 137438953472 W) :
    Frame W s₀ (State.driveChopper s st) := by
  unfold State.driveChopper
  try dsimp only
  repeat' with_reducible (first | assumption | apply frameRes_next | apply frameOpt_none | apply frameOpt_some | apply State.forEach_frame | apply State.when_frame | apply foldl_frame | apply foldl_fst_frame | apply foldl_snd_frame | intro _ | split | apply State.setSpindle_frame | apply frameOpt_get (by assumption) | dsimp only)
  all_goals first | assumption | exact within_trans hW (within_of (by decide))

theorem State.busTrip_frame {W : Nat} {s₀ s : State} (hs : Frame W s₀ s) (st : Nat) (hW : within 45011225837250 W) :
    Frame W s₀ (State.busTrip s st) := by
  unfold State.busTrip
  try dsimp only
  repeat' with_reducible (first | assumption | apply frameRes_next | apply frameOpt_none | apply frameOpt_some | apply State.forEach_frame | apply State.when_frame | apply foldl_frame | apply foldl_fst_frame | apply foldl_snd_frame | intro _ | split | apply State.modSpindle_frame | apply State.spnEnter_frame | apply State.put_frame | apply State.raise_frame | apply State.powerStopped_frame | apply frameOpt_get (by assumption) | dsimp only)
  all_goals first | assumption | exact within_trans hW (within_of (by decide)) | exact within_group hW .linkRegs (by decide) rfl | exact within_group hW .memRegs (by decide) rfl | exact within_group hW .cchRegs (by decide) rfl | exact within_group hW .srvRegs (by decide) rfl | exact within_group hW .spnRegs (by decide) rfl | exact within_group hW .motRegs (by decide) rfl | exact within_group hW .rchRegs (by decide) rfl | exact within_group hW .recRegs (by decide) rfl | exact within_group hW .calRegs (by decide) rfl

theorem execBusConversion_frame {W : Nat} {s₀ s : State} (hs : Frame W s₀ s) (st : Fin 8) (code : BitVec 12) (hW : within 45011225837250 W) :
    FrameRes W s₀ (execBusConversion st code s) := by
  unfold execBusConversion
  try dsimp only
  repeat' with_reducible (first | assumption | apply frameRes_next | apply frameOpt_none | apply frameOpt_some | apply State.forEach_frame | apply State.when_frame | apply foldl_frame | apply foldl_fst_frame | apply foldl_snd_frame | intro _ | split | apply State.modSpindle_frame | apply State.put_frame | apply State.busTrip_frame | apply State.chopperFault_frame | apply State.driveChopper_frame | apply State.raise_frame | apply frameOpt_get (by assumption) | dsimp only)
  all_goals first | assumption | exact within_trans hW (within_of (by decide)) | exact within_group hW .linkRegs (by decide) rfl | exact within_group hW .memRegs (by decide) rfl | exact within_group hW .cchRegs (by decide) rfl | exact within_group hW .srvRegs (by decide) rfl | exact within_group hW .spnRegs (by decide) rfl | exact within_group hW .motRegs (by decide) rfl | exact within_group hW .rchRegs (by decide) rfl | exact within_group hW .recRegs (by decide) rfl | exact within_group hW .calRegs (by decide) rfl

theorem execChopperNoCurrent_frame {W : Nat} {s₀ s : State} (hs : Frame W s₀ s) (st : Fin 8) (hW : within 45011225837250 W) :
    FrameRes W s₀ (execChopperNoCurrent st s) := by
  unfold execChopperNoCurrent
  try dsimp only
  repeat' with_reducible (first | assumption | apply frameRes_next | apply frameOpt_none | apply frameOpt_some | apply State.forEach_frame | apply State.when_frame | apply foldl_frame | apply foldl_fst_frame | apply foldl_snd_frame | intro _ | split | apply State.chopperFault_frame | apply frameOpt_get (by assumption) | dsimp only)
  all_goals first | assumption | exact within_trans hW (within_of (by decide)) | exact within_group hW .linkRegs (by decide) rfl | exact within_group hW .memRegs (by decide) rfl | exact within_group hW .cchRegs (by decide) rfl | exact within_group hW .srvRegs (by decide) rfl | exact within_group hW .spnRegs (by decide) rfl | exact within_group hW .motRegs (by decide) rfl | exact within_group hW .rchRegs (by decide) rfl | exact within_group hW .recRegs (by decide) rfl | exact within_group hW .calRegs (by decide) rfl

theorem execChopFaultClear_frame {W : Nat} {s₀ s : State} (hs : Frame W s₀ s) (st : Fin 8) (hW : within 137438954496 W) :
    FrameRes W s₀ (execChopFaultClear st s) := by
  unfold execChopFaultClear
  try dsimp only
  repeat' with_reducible (first | assumption | apply frameRes_next | apply frameOpt_none | apply frameOpt_some | apply State.forEach_frame | apply State.when_frame | apply foldl_frame | apply foldl_fst_frame | apply foldl_snd_frame | intro _ | split | apply State.put_frame | apply State.driveChopper_frame | apply frameOpt_get (by assumption) | dsimp only)
  all_goals first | assumption | exact within_trans hW (within_of (by decide)) | exact within_group hW .spnRegs (by decide) rfl

theorem execBusOvRelease_frame {W : Nat} {s₀ s : State} (hs : Frame W s₀ s) (hW : within 1024 W) :
    FrameRes W s₀ (execBusOvRelease s) := by
  unfold execBusOvRelease
  try dsimp only
  repeat' with_reducible (first | assumption | apply frameRes_next | apply frameOpt_none | apply frameOpt_some | apply State.forEach_frame | apply State.when_frame | apply foldl_frame | apply foldl_fst_frame | apply foldl_snd_frame | intro _ | split | apply State.put_frame | apply frameOpt_get (by assumption) | dsimp only)
  all_goals first | assumption | exact within_trans hW (within_of (by decide)) | exact within_group hW .spnRegs (by decide) rfl

end Sys2Proof.Machine
end

