-- ==== Sys2Proof/Laws/FrameRecRows.lean ====
section
/-!
SUPPORT. What the operations and commands of Machine/RecRows.lean leave as it was: all parts outside a mask.
-/
set_option Elab.async false
set_option linter.all false
namespace Sys2Proof.Machine
set_option maxRecDepth 2000

theorem execFrontierSearch_frame {W : Nat} {s₀ s : State} (hs : Frame W s₀ s) (n : Fin 16) (layer : Fin 8) (begun : List Bool) (hW : within 42949681152 W) :
    FrameRes W s₀ (execFrontierSearch n layer begun s) := by
  unfold execFrontierSearch
  try dsimp only
  repeat' with_reducible (first | assumption | apply frameRes_next | apply frameOpt_none | apply frameOpt_some | apply State.forEach_frame | apply State.when_frame | apply foldl_frame | apply foldl_fst_frame | apply foldl_snd_frame | intro _ | split | apply State.put_frame | apply State.setFrontier_frame | apply State.modPickup_frame | apply frameOpt_get (by assumption) | dsimp only)
  all_goals first | assumption | exact within_trans hW (within_of (by decide)) | exact within_group hW .recRegs (by decide) rfl

theorem State.dropGathered_frame {W : Nat} {s₀ s : State} (hs : Frame W s₀ s) (st side layer : Nat) (hW : within 35218700374210 W) :
    Frame W s₀ (State.dropGathered s st side layer) := by
  unfold State.dropGathered
  try dsimp only
  repeat' with_reducible (first | assumption | apply frameRes_next | apply frameOpt_none | apply frameOpt_some | apply State.forEach_frame | apply State.when_frame | apply foldl_frame | apply foldl_fst_frame | apply foldl_snd_frame | intro _ | split | apply State.freeRecEntry_frame | apply State.dropRecBlock_frame | apply State.blockSettled_frame | apply frameOpt_get (by assumption) | apply Frame.set_recording | dsimp only)
  all_goals first | assumption | exact within_trans hW (within_of (by decide)) | exact within_group hW .linkRegs (by decide) rfl | exact within_group hW .memRegs (by decide) rfl | exact within_group hW .cchRegs (by decide) rfl | exact within_group hW .rchRegs (by decide) rfl

theorem State.mapConflict_frame {W : Nat} {s₀ s : State} (hs : Frame W s₀ s) (n : Nat) (r : RecBlock) (k : Nat) (hW : within 35218700382402 W) :
    Frame W s₀ (State.mapConflict s n r k) := by
  unfold State.mapConflict
  try dsimp only
  repeat' with_reducible (first | assumption | apply frameRes_next | apply frameOpt_none | apply frameOpt_some | apply State.forEach_frame | apply State.when_frame | apply foldl_frame | apply foldl_fst_frame | apply foldl_snd_frame | intro _ | split | apply State.raise_frame | apply State.setFrontier_frame | apply State.endCmd_frame | apply State.dropGathered_frame | apply State.modRun_frame | apply State.put_frame | apply frameOpt_get (by assumption) | dsimp only)
  all_goals first | assumption | exact within_trans hW (within_of (by decide)) | exact within_group hW .linkRegs (by decide) rfl | exact within_group hW .memRegs (by decide) rfl | exact within_group hW .cchRegs (by decide) rfl | exact within_group hW .rchRegs (by decide) rfl | exact within_group hW .recRegs (by decide) rfl

theorem execPrePass_frame {W : Nat} {s₀ s : State} (hs : Frame W s₀ s) (n : Fin 16) (conflict : Option (Fin 18)) (hW : within 35218700382402 W) :
    FrameRes W s₀ (execPrePass n conflict s) := by
  unfold execPrePass
  try dsimp only
  repeat' with_reducible (first | assumption | apply frameRes_next | apply frameOpt_none | apply frameOpt_some | apply State.forEach_frame | apply State.when_frame | apply foldl_frame | apply foldl_fst_frame | apply foldl_snd_frame | intro _ | split | apply State.breakUnrecordable_frame | apply State.put_frame | apply State.lddWrite_frame | apply State.mapConflict_frame | apply State.modRun_frame | apply frameOpt_get (by assumption) | dsimp only)
  all_goals first | assumption | exact within_trans hW (within_of (by decide)) | exact within_group hW .linkRegs (by decide) rfl | exact within_group hW .memRegs (by decide) rfl | exact within_group hW .cchRegs (by decide) rfl | exact within_group hW .rchRegs (by decide) rfl | exact within_group hW .recRegs (by decide) rfl

theorem State.launch_frame {W : Nat} {s₀ s : State} (hs : Frame W s₀ s) (n : Nat) (hW : within 35218868150274 W) :
    Frame W s₀ (State.launch s n) := by
  unfold State.launch
  try dsimp only
  repeat' with_reducible (first | assumption | apply frameRes_next | apply frameOpt_none | apply frameOpt_some | apply State.forEach_frame | apply State.when_frame | apply foldl_frame | apply foldl_fst_frame | apply foldl_snd_frame | intro _ | split | apply State.takeFree_frame | apply State.lddWrite_frame | apply State.put_frame | apply State.showGates_frame | apply frameOpt_get (by assumption) | dsimp only)
  all_goals first | assumption | exact within_trans hW (within_of (by decide)) | exact within_group hW .linkRegs (by decide) rfl | exact within_group hW .recRegs (by decide) rfl

theorem execRunStart_frame {W : Nat} {s₀ s : State} (hs : Frame W s₀ s) (n : Fin 16) (hW : within 35227994955778 W) :
    FrameRes W s₀ (execRunStart n s) := by
  unfold execRunStart
  try dsimp only
  repeat' with_reducible (first | assumption | apply frameRes_next | apply frameOpt_none | apply frameOpt_some | apply State.forEach_frame | apply State.when_frame | apply foldl_frame | apply foldl_fst_frame | apply foldl_snd_frame | intro _ | split | apply State.modRun_frame | apply State.takeBlock_frame | apply State.launch_frame | apply frameOpt_get (by assumption) | dsimp only)
  all_goals first | assumption | exact within_trans hW (within_of (by decide)) | exact within_group hW .linkRegs (by decide) rfl | exact within_group hW .recRegs (by decide) rfl

theorem execWobblePeriod_frame {W : Nat} {s₀ s : State} (hs : Frame W s₀ s) (n : Fin 16) (err : Int) (freq : Rat) (hW : within 35253060121282 W) :
    FrameRes W s₀ (execWobblePeriod n err freq s) := by
  unfold execWobblePeriod
  try dsimp only
  repeat' with_reducible (first | assumption | apply frameRes_next | apply frameOpt_none | apply frameOpt_some | apply State.forEach_frame | apply State.when_frame | apply foldl_frame | apply foldl_fst_frame | apply foldl_snd_frame | intro _ | split | apply State.sput_frame | apply State.modPuRec_frame | apply State.lddWrite_frame | apply State.put_frame | apply State.shutGates_frame | apply State.modRun_frame | apply State.sendCb_frame | apply State.advanceStream_frame | apply State.segmentStart_frame | apply State.showGates_frame | apply State.ldd_frame | apply frameOpt_get (by assumption) | dsimp only)
  all_goals first | assumption | exact within_trans hW (within_of (by decide)) | exact within_group hW .linkRegs (by decide) rfl | exact within_group hW .memRegs (by decide) rfl | exact within_group hW .cchRegs (by decide) rfl | exact within_group hW .srvRegs (by decide) rfl | exact within_group hW .rchRegs (by decide) rfl | exact within_group hW .recRegs (by decide) rfl

theorem execWclkLocked_frame {W : Nat} {s₀ s : State} (hs : Frame W s₀ s) (n : Fin 16) (hW : within 8192 W) :
    FrameRes W s₀ (execWclkLocked n s) := by
  unfold execWclkLocked
  try dsimp only
  repeat' with_reducible (first | assumption | apply frameRes_next | apply frameOpt_none | apply frameOpt_some | apply State.forEach_frame | apply State.when_frame | apply foldl_frame | apply foldl_fst_frame | apply foldl_snd_frame | intro _ | split | apply State.put_frame | apply frameOpt_get (by assumption) | dsimp only)
  all_goals first | assumption | exact within_trans hW (within_of (by decide)) | exact within_group hW .recRegs (by decide) rfl

theorem execRecordingResume_frame {W : Nat} {s₀ s : State} (hs : Frame W s₀ s) (n : Fin 16) (hW : within 35227458084866 W) :
    FrameRes W s₀ (execRecordingResume n s) := by
  unfold execRecordingResume
  try dsimp only
  repeat' with_reducible (first | assumption | apply frameRes_next | apply frameOpt_none | apply frameOpt_some | apply State.forEach_frame | apply State.when_frame | apply foldl_frame | apply foldl_fst_frame | apply foldl_snd_frame | intro _ | split | apply State.modRun_frame | apply State.lddWrite_frame | apply State.launch_frame | apply frameOpt_get (by assumption) | dsimp only)
  all_goals first | assumption | exact within_trans hW (within_of (by decide)) | exact within_group hW .linkRegs (by decide) rfl | exact within_group hW .recRegs (by decide) rfl

theorem execBlockRecorded_frame {W : Nat} {s₀ s : State} (hs : Frame W s₀ s) (n : Fin 16) (hW : within 35218700374210 W) :
    FrameRes W s₀ (execBlockRecorded n s) := by
  unfold execBlockRecorded
  try dsimp only
  repeat' with_reducible (first | assumption | apply frameRes_next | apply frameOpt_none | apply frameOpt_some | apply State.forEach_frame | apply State.when_frame | apply foldl_frame | apply foldl_fst_frame | apply foldl_snd_frame | intro _ | split | apply State.blockRecorded_frame | apply frameOpt_get (by assumption) | dsimp only)
  all_goals first | assumption | exact within_trans hW (within_of (by decide)) | exact within_group hW .linkRegs (by decide) rfl | exact within_group hW .memRegs (by decide) rfl | exact within_group hW .cchRegs (by decide) rfl | exact within_group hW .rchRegs (by decide) rfl

theorem State.restRecording_frame {W : Nat} {s₀ s : State} (hs : Frame W s₀ s) (n : Nat) (hW : within 8192 W) :
    Frame W s₀ (State.restRecording s n) := by
  unfold State.restRecording
  try dsimp only
  repeat' with_reducible (first | assumption | apply frameRes_next | apply frameOpt_none | apply frameOpt_some | apply State.forEach_frame | apply State.when_frame | apply foldl_frame | apply foldl_fst_frame | apply foldl_snd_frame | intro _ | split | apply State.put_frame | apply frameOpt_get (by assumption) | dsimp only)
  all_goals first | assumption | exact within_trans hW (within_of (by decide)) | exact within_group hW .recRegs (by decide) rfl

theorem execRunEnd_frame {W : Nat} {s₀ s : State} (hs : Frame W s₀ s) (n : Fin 16) (hW : within 35227455987714 W) :
    FrameRes W s₀ (execRunEnd n s) := by
  unfold execRunEnd
  try dsimp only
  repeat' with_reducible (first | assumption | apply frameRes_next | apply frameOpt_none | apply frameOpt_some | apply State.forEach_frame | apply State.when_frame | apply foldl_frame | apply foldl_fst_frame | apply foldl_snd_frame | intro _ | split | apply State.restRecording_frame | apply State.modRun_frame | apply State.modPickup_frame | apply State.lddWrite_frame | apply State.put_frame | apply State.applySelect_frame | apply frameOpt_get (by assumption) | dsimp only)
  all_goals first | assumption | exact within_trans hW (within_of (by decide)) | exact within_group hW .linkRegs (by decide) rfl | exact within_group hW .recRegs (by decide) rfl

theorem State.startTagChecks_frame {W : Nat} {s₀ s : State} (hs : Frame W s₀ s) (r : RecBlock) (e : Nat) (hW : within 9663676416 W) :
    Frame W s₀ (State.startTagChecks s r e) := by
  unfold State.startTagChecks
  try dsimp only
  repeat' with_reducible (first | assumption | apply frameRes_next | apply frameOpt_none | apply frameOpt_some | apply State.forEach_frame | apply State.when_frame | apply foldl_frame | apply foldl_fst_frame | apply foldl_snd_frame | intro _ | split | apply State.setRecBlock_frame | apply State.addWork_frame | apply frameOpt_get (by assumption) | dsimp only)
  all_goals first | assumption | exact within_trans hW (within_of (by decide))

theorem State.judgeBlock_frame {W : Nat} {s₀ s : State} (hs : Frame W s₀ s) (r : RecBlock) (e : Nat) (hW : within 12719239360 W) :
    Frame W s₀ (State.judgeBlock s r e) := by
  unfold State.judgeBlock
  try dsimp only
  repeat' with_reducible (first | assumption | apply frameRes_next | apply frameOpt_none | apply frameOpt_some | apply State.forEach_frame | apply State.when_frame | apply foldl_frame | apply foldl_fst_frame | apply foldl_snd_frame | intro _ | split | apply State.raise_frame | apply State.writeQuality_frame | apply State.freeEntry_frame | apply State.endRecBlock_frame | apply frameOpt_get (by assumption) | dsimp only)
  all_goals first | assumption | exact within_trans hW (within_of (by decide)) | exact within_group hW .memRegs (by decide) rfl | exact within_group hW .cchRegs (by decide) rfl | exact within_group hW .rchRegs (by decide) rfl | exact within_group hW .recRegs (by decide) rfl

theorem State.verifyBlock_frame {W : Nat} {s₀ s : State} (hs : Frame W s₀ s) (n : Nat) (r : RecBlock) (hW : within 35197225545922 W) :
    Frame W s₀ (State.verifyBlock s n r) := by
  unfold State.verifyBlock
  try dsimp only
  repeat' with_reducible (first | assumption | apply frameRes_next | apply frameOpt_none | apply frameOpt_some | apply State.forEach_frame | apply State.when_frame | apply foldl_frame | apply foldl_fst_frame | apply foldl_snd_frame | intro _ | split | apply State.allocate_frame | apply State.setEntry_frame | apply State.startWork_frame | apply State.setRecBlock_frame | apply State.startTagChecks_frame | apply State.refillEngines_frame | apply State.judgeBlock_frame | apply frameOpt_get (by assumption) | dsimp only)
  all_goals first | assumption | exact within_trans hW (within_of (by decide)) | exact within_group hW .linkRegs (by decide) rfl | exact within_group hW .memRegs (by decide) rfl | exact within_group hW .cchRegs (by decide) rfl | exact within_group hW .rchRegs (by decide) rfl | exact within_group hW .recRegs (by decide) rfl

theorem execVerifyPass_frame {W : Nat} {s₀ s : State} (hs : Frame W s₀ s) (n : Fin 16) (hW : within 35197225545922 W) :
    FrameRes W s₀ (execVerifyPass n s) := by
  unfold execVerifyPass
  try dsimp only
  repeat' with_reducible (first | assumption | apply frameRes_next | apply frameOpt_none | apply frameOpt_some | apply State.forEach_frame | apply State.when_frame | apply foldl_frame | apply foldl_fst_frame | apply foldl_snd_frame | intro _ | split | apply State.restRecording_frame | apply State.modPuRec_frame | apply State.put_frame | apply State.verifyBlock_frame | apply frameOpt_get (by assumption) | dsimp only)
  all_goals first | assumption | exact within_trans hW (within_of (by decide)) | exact within_group hW .linkRegs (by decide) rfl | exact within_group hW .memRegs (by decide) rfl | exact within_group hW .cchRegs (by decide) rfl | exact within_group hW .rchRegs (by decide) rfl | exact within_group hW .recRegs (by decide) rfl

end Sys2Proof.Machine
end

