-- ==== Sys2Proof/Laws/FrameCalib.lean ====
section
/-!
SUPPORT. What the operations and commands of Machine/Calib.lean leave as it was: all parts outside a mask.
-/
set_option Elab.async false
set_option linter.all false
namespace Sys2Proof.Machine
set_option maxRecDepth 2000

theorem State.setCalSet_frame {W : Nat} {s₀ s : State} (hs : Frame W s₀ s) (st k : Nat) (x : CalSet) (hW : within 8796093038592 W) :
    Frame W s₀ (State.setCalSet s st k x) := by
  unfold State.setCalSet
  try dsimp only
  repeat' with_reducible (first | assumption | apply frameRes_next | apply frameOpt_none | apply frameOpt_some | apply State.forEach_frame | apply State.when_frame | apply foldl_frame | apply foldl_fst_frame | apply foldl_snd_frame | intro _ | split | apply State.put_frame | apply frameOpt_get (by assumption) | apply Frame.set_calib | dsimp only)
  all_goals first | assumption | exact within_trans hW (within_of (by decide)) | exact within_group hW .calRegs (by decide) rfl

theorem State.setLayerRecord_frame {W : Nat} {s₀ s : State} (hs : Frame W s₀ s) (st side layer : Nat) (r : List Nat) (hW : within 8796093038592 W) :
    Frame W s₀ (State.setLayerRecord s st side layer r) := by
  unfold State.setLayerRecord
  try dsimp only
  repeat' with_reducible (first | assumption | apply frameRes_next | apply frameOpt_none | apply frameOpt_some | apply State.forEach_frame | apply State.when_frame | apply foldl_frame | apply foldl_fst_frame | apply foldl_snd_frame | intro _ | split | apply State.setCalSet_frame | apply State.put_frame | apply frameOpt_get (by assumption) | dsimp only)
  all_goals first | assumption | exact within_trans hW (within_of (by decide)) | exact within_group hW .calRegs (by decide) rfl

theorem State.bindSet_frame {W : Nat} {s₀ s : State} (hs : Frame W s₀ s) (st : Nat) (d : DiscInfo) (hW : within 8796093038592 W) :
    Frame W s₀ (State.bindSet s st d) := by
  unfold State.bindSet
  try dsimp only
  repeat' with_reducible (first | assumption | apply frameRes_next | apply frameOpt_none | apply frameOpt_some | apply State.forEach_frame | apply State.when_frame | apply foldl_frame | apply foldl_fst_frame | apply foldl_snd_frame | intro _ | split | apply State.setCalSet_frame | apply State.put_frame | apply frameOpt_get (by assumption) | apply Frame.set_calib | dsimp only)
  all_goals first | assumption | exact within_trans hW (within_of (by decide)) | exact within_group hW .calRegs (by decide) rfl

theorem State.writeLayerRecord_frame {W : Nat} {s₀ s : State} (hs : Frame W s₀ s) (n layer : Nat) (kept : Bool) (eye mse : List Nat) (hW : within 8796093038592 W) :
    Frame W s₀ (State.writeLayerRecord s n layer kept eye mse) := by
  unfold State.writeLayerRecord
  try dsimp only
  repeat' with_reducible (first | assumption | apply frameRes_next | apply frameOpt_none | apply frameOpt_some | apply State.forEach_frame | apply State.when_frame | apply foldl_frame | apply foldl_fst_frame | apply foldl_snd_frame | intro _ | split | apply State.setLayerRecord_frame | apply frameOpt_get (by assumption) | dsimp only)
  all_goals first | assumption | exact within_trans hW (within_of (by decide)) | exact within_group hW .calRegs (by decide) rfl

theorem State.startProc_frame {W : Nat} {s₀ s : State} (hs : Frame W s₀ s) (n proc layer : Nat) (cmd : Option Nat) (hW : within 8815420395520 W := by first | assumption | exact within_trans (by assumption) (within_of (by decide))) :
    Frame W s₀ (State.startProc s n proc layer cmd) := by
  unfold State.startProc
  try dsimp only
  repeat' with_reducible (first | assumption | apply frameRes_next | apply frameOpt_none | apply frameOpt_some | apply State.forEach_frame | apply State.when_frame | apply foldl_frame | apply foldl_fst_frame | apply foldl_snd_frame | intro _ | split | apply State.setCalRun_frame | apply State.showCal_frame | apply State.holdLanes_frame | apply frameOpt_get (by assumption) | dsimp only)
  all_goals first | assumption | exact within_trans hW (within_of (by decide)) | exact within_group hW .rchRegs (by decide) rfl | exact within_group hW .calRegs (by decide) rfl

theorem State.endProc_frame {W : Nat} {s₀ s : State} (hs : Frame W s₀ s) (n rejected eye mse : Nat) (hW : within 44324031068866 W := by first | assumption | exact within_trans (by assumption) (within_of (by decide))) :
    Frame W s₀ (State.endProc s n rejected eye mse) := by
  unfold State.endProc
  try dsimp only
  repeat' with_reducible (first | assumption | apply frameRes_next | apply frameOpt_none | apply frameOpt_some | apply State.forEach_frame | apply State.when_frame | apply foldl_frame | apply foldl_fst_frame | apply foldl_snd_frame | intro _ | split | apply State.put_frame | apply State.raise_frame | apply State.count_frame | apply State.setCalRun_frame | apply State.showCal_frame | apply State.modPickup_frame | apply State.checkBelay_frame | apply frameOpt_get (by assumption) | dsimp only)
  all_goals first | assumption | exact within_trans hW (within_of (by decide)) | exact within_group hW .linkRegs (by decide) rfl | exact within_group hW .memRegs (by decide) rfl | exact within_group hW .cchRegs (by decide) rfl | exact within_group hW .srvRegs (by decide) rfl | exact within_group hW .motRegs (by decide) rfl | exact within_group hW .rchRegs (by decide) rfl | exact within_group hW .recRegs (by decide) rfl | exact within_group hW .calRegs (by decide) rfl

theorem State.setPickupRecord_frame {W : Nat} {s₀ s : State} (hs : Frame W s₀ s) (n : Nat) (r : List Nat) (hW : within 8796093022208 W := by first | assumption | exact within_trans (by assumption) (within_of (by decide))) :
    Frame W s₀ (State.setPickupRecord s n r) := by
  unfold State.setPickupRecord
  try dsimp only
  repeat' with_reducible (first | assumption | apply frameRes_next | apply frameOpt_none | apply frameOpt_some | apply State.forEach_frame | apply State.when_frame | apply foldl_frame | apply foldl_fst_frame | apply foldl_snd_frame | intro _ | split | apply State.put_frame | apply frameOpt_get (by assumption) | apply Frame.set_calib | dsimp only)
  all_goals first | assumption | exact within_trans hW (within_of (by decide))

theorem State.applyTrim_frame {W : Nat} {s₀ s : State} (hs : Frame W s₀ s) (n : Nat) (beams : List BeamTrim) (m : CalMask) (hW : within 8796093022208 W := by first | assumption | exact within_trans (by assumption) (within_of (by decide))) :
    Frame W s₀ (State.applyTrim s n beams m).1 := by
  unfold State.applyTrim
  try dsimp only
  repeat' with_reducible (first | assumption | apply frameRes_next | apply frameOpt_none | apply frameOpt_some | apply State.forEach_frame | apply State.when_frame | apply foldl_frame | apply foldl_fst_frame | apply foldl_snd_frame | intro _ | split | apply State.setPickupRecord_frame | apply frameOpt_get (by assumption) | dsimp only)
  all_goals first | assumption | exact within_trans hW (within_of (by decide))

theorem State.moveOffset_frame {W : Nat} {s₀ s : State} (hs : Frame W s₀ s) (n l step : Nat) (v : Option Rat) (hW : within 512 W) :
    Frame W s₀ (State.moveOffset s n l step v) := by
  unfold State.moveOffset
  try dsimp only
  repeat' with_reducible (first | assumption | apply frameRes_next | apply frameOpt_none | apply frameOpt_some | apply State.forEach_frame | apply State.when_frame | apply foldl_frame | apply foldl_fst_frame | apply foldl_snd_frame | intro _ | split | apply State.sput_frame | apply frameOpt_get (by assumption) | dsimp only)
  all_goals first | assumption | exact within_trans hW (within_of (by decide)) | exact within_group hW .srvRegs (by decide) rfl

theorem State.applyEspresso_frame {W : Nat} {s₀ s : State} (hs : Frame W s₀ s) (n layer : Nat) (r : EspressoRun) (m : CalMask) (hW : within 8847632650752 W := by first | assumption | exact within_trans (by assumption) (within_of (by decide))) :
    Frame W s₀ (State.applyEspresso s n layer r m).1 := by
  unfold State.applyEspresso
  try dsimp only
  repeat' with_reducible (first | assumption | apply frameRes_next | apply frameOpt_none | apply frameOpt_some | apply State.forEach_frame | apply State.when_frame | apply foldl_frame | apply foldl_fst_frame | apply foldl_snd_frame | intro _ | split | apply State.moveOffset_frame | apply State.modPickup_frame | apply State.loadLanes_frame | apply State.writeLayerRecord_frame | apply frameOpt_get (by assumption) | dsimp only)
  all_goals first | assumption | exact within_trans hW (within_of (by decide)) | exact within_group hW .srvRegs (by decide) rfl | exact within_group hW .rchRegs (by decide) rfl | exact within_group hW .calRegs (by decide) rfl

theorem State.powerAttempt_frame {W : Nat} {s₀ s : State} (hs : Frame W s₀ s) (n layer : Nat) (r : PowerRun) (hW : within 44014793420994 W := by first | assumption | exact within_trans (by assumption) (within_of (by decide))) :
    Frame W s₀ (State.powerAttempt s n layer r).1 := by
  unfold State.powerAttempt
  try dsimp only
  repeat' with_reducible (first | assumption | apply frameRes_next | apply frameOpt_none | apply frameOpt_some | apply State.forEach_frame | apply State.when_frame | apply foldl_frame | apply foldl_fst_frame | apply foldl_snd_frame | intro _ | split | apply State.modPuRec_frame | apply State.breakUnrecordable_frame | apply State.put_frame | apply State.raise_frame | apply State.setLayerRecord_frame | apply frameOpt_get (by assumption) | dsimp only)
  all_goals first | assumption | exact within_trans hW (within_of (by decide)) | exact within_group hW .linkRegs (by decide) rfl | exact within_group hW .memRegs (by decide) rfl | exact within_group hW .cchRegs (by decide) rfl | exact within_group hW .rchRegs (by decide) rfl | exact within_group hW .recRegs (by decide) rfl | exact within_group hW .calRegs (by decide) rfl

theorem execPowerCalibration_frame {W : Nat} {s₀ s : State} (hs : Frame W s₀ s) (n : Fin 16) (layer : Fin 8) (run : PowerRun) (hW : within 44324031068866 W := by first | assumption | exact within_trans (by assumption) (within_of (by decide))) :
    FrameRes W s₀ (execPowerCalibration n layer run s) := by
  unfold execPowerCalibration
  extract_lets st due r s₁ s₂
  have h₁ : Frame W s₀ s₁ := by
    show Frame W s₀ (if _ then _ else _)
    split
    · exact State.startProc_frame hs _ _ _ _
    · exact hs
  have h₂ : Frame W s₀ s₂ := State.put_frame h₁ _ _
  clear_value s₂ due
  split
  · apply frameRes_next; exact hs
  · have h₃ := State.powerAttempt_frame h₂ n layer run
    generalize s₂.powerAttempt n layer run = q at h₃ ⊢
    obtain ⟨t, e⟩ := q
    cases e with
    | unfinished => exact ⟨_, rfl, h₃⟩
    | done ok => exact ⟨_, rfl, State.put_frame (State.endProc_frame h₃ _ _ _ _) _ _⟩

theorem State.trimGain_frame {W : Nat} {s₀ s : State} (hs : Frame W s₀ s) (n l : Nat) (m : LoopMeasure) (mask : CalMask) (hW : within 512 W := by first | assumption | exact within_trans (by assumption) (within_of (by decide))) :
    Frame W s₀ (State.trimGain s n l m mask).1 := by
  unfold State.trimGain
  try dsimp only
  repeat' with_reducible (first | assumption | apply frameRes_next | apply frameOpt_none | apply frameOpt_some | apply State.forEach_frame | apply State.when_frame | apply foldl_frame | apply foldl_fst_frame | apply foldl_snd_frame | intro _ | split | apply State.sput_frame | apply frameOpt_get (by assumption) | dsimp only)
  all_goals first | assumption | exact within_trans hW (within_of (by decide)) | exact within_group hW .srvRegs (by decide) rfl

theorem State.fullOffsets_frame {W : Nat} {s₀ s : State} (hs : Frame W s₀ s) (n : Nat) (r : FullRun) (m : CalMask) (hW : within 512 W := by first | assumption | exact within_trans (by assumption) (within_of (by decide))) :
    Frame W s₀ (State.fullOffsets s n r m).1 := by
  unfold State.fullOffsets
  try dsimp only
  repeat' with_reducible (first | assumption | apply frameRes_next | apply frameOpt_none | apply frameOpt_some | apply State.forEach_frame | apply State.when_frame | apply foldl_frame | apply foldl_fst_frame | apply foldl_snd_frame | intro _ | split | apply State.put_frame | apply frameOpt_get (by assumption) | dsimp only)
  all_goals first | assumption | exact within_trans hW (within_of (by decide)) | exact within_group hW .srvRegs (by decide) rfl

theorem State.fullFactors_frame {W : Nat} {s₀ s : State} (hs : Frame W s₀ s) (n : Nat) (r : FullRun) (m : CalMask) (hW : within 512 W := by first | assumption | exact within_trans (by assumption) (within_of (by decide))) :
    Frame W s₀ (State.fullFactors s n r m).1 := by
  unfold State.fullFactors
  try dsimp only
  repeat' with_reducible (first | assumption | apply frameRes_next | apply frameOpt_none | apply frameOpt_some | apply State.forEach_frame | apply State.when_frame | apply foldl_frame | apply foldl_fst_frame | apply foldl_snd_frame | intro _ | split | apply State.put_frame | apply State.sput_frame | apply frameOpt_get (by assumption) | dsimp only)
  all_goals first | assumption | exact within_trans hW (within_of (by decide)) | exact within_group hW .srvRegs (by decide) rfl

theorem State.fullGains_frame {W : Nat} {s₀ s : State} (hs : Frame W s₀ s) (n : Nat) (r : FullRun) (m : CalMask) (hW : within 512 W := by first | assumption | exact within_trans (by assumption) (within_of (by decide))) :
    Frame W s₀ (s.fullGains n r m).1 := by
  unfold State.fullGains
  apply foldl_fst_frame hs
  intro t l ht
  split
  · exact State.trimGain_frame ht _ _ _ _
  · exact ht

theorem State.fullBae_frame {W : Nat} {s₀ s : State} (hs : Frame W s₀ s) (n : Nat) (r : FullRun) (m : CalMask) (hW : within 34359738880 W := by first | assumption | exact within_trans (by assumption) (within_of (by decide))) :
    Frame W s₀ (State.fullBae s n r m).1 := by
  unfold State.fullBae
  try dsimp only
  repeat' with_reducible (first | assumption | apply frameRes_next | apply frameOpt_none | apply frameOpt_some | apply State.forEach_frame | apply State.when_frame | apply foldl_frame | apply foldl_fst_frame | apply foldl_snd_frame | intro _ | split | apply State.sput_frame | apply State.modPickup_frame | apply frameOpt_get (by assumption) | dsimp only)
  all_goals first | assumption | exact within_trans hW (within_of (by decide)) | exact within_group hW .srvRegs (by decide) rfl

theorem State.applyFull_frame {W : Nat} {s₀ s : State} (hs : Frame W s₀ s) (n : Nat) (r : FullRun) (hW : within 44032138957314 W := by first | assumption | exact within_trans (by assumption) (within_of (by decide))) : Frame W s₀ (s.applyFull n r).1 := by
  have w (a : Nat) (h : a &&& 44032138957314 = a) : within a W := within_trans hW (within_of h)
  unfold State.applyFull
  extract_lets a b rec1 words c d e t
  have ha : Frame W s₀ a.1 := State.applyTrim_frame hs _ _ _ (w _ (by decide))
  clear_value a
  have hb : Frame W s₀ b.1 := State.fullOffsets_frame ha _ _ _ (w _ (by decide))
  clear_value b words rec1
  have hc : Frame W s₀ c.1 := State.fullFactors_frame hb _ _ _ (w _ (by decide))
  clear_value c
  have hd : Frame W s₀ d.1 := State.fullGains_frame hc _ _ _ (w _ (by decide))
  clear_value d
  have he : Frame W s₀ e.1 := State.fullBae_frame hd _ _ _ (w _ (by decide))
  clear_value e
  have ht : Frame W s₀ t := State.sendReadPower_frame (State.setPickupRecord_frame he _ _ (w _ (by decide))) _ (w _ (by decide))
  clear_value t
  exact foldl_fst_frame ht _ _ (fun x y hx => State.applyEspresso_frame hx _ _ _ _ (w _ (by decide)))

theorem State.startFull_frame {W : Nat} {s₀ s : State} (hs : Frame W s₀ s) (st : Nat) (ns : List Nat) (cmd : Option Nat) (hW : within 45011225837250 W) :
    Frame W s₀ (State.startFull s st ns cmd) := by
  unfold State.startFull
  try dsimp only
  repeat' with_reducible (first | assumption | apply frameRes_next | apply frameOpt_none | apply frameOpt_some | apply State.forEach_frame | apply State.when_frame | apply foldl_frame | apply foldl_fst_frame | apply foldl_snd_frame | intro _ | split | apply State.enter_frame | apply State.modPickup_frame | apply State.startProc_frame | apply State.writeRun_frame | apply State.wakePickup_frame | apply frameOpt_get (by assumption) | dsimp only)
  all_goals first | assumption | exact within_trans hW (within_of (by decide)) | exact within_group hW .linkRegs (by decide) rfl | exact within_group hW .memRegs (by decide) rfl | exact within_group hW .cchRegs (by decide) rfl | exact within_group hW .srvRegs (by decide) rfl | exact within_group hW .spnRegs (by decide) rfl | exact within_group hW .motRegs (by decide) rfl | exact within_group hW .rchRegs (by decide) rfl | exact within_group hW .recRegs (by decide) rfl | exact within_group hW .calRegs (by decide) rfl

theorem State.calBegin_frame {W : Nat} {s₀ s : State} (hs : Frame W s₀ s) (h : Nat) (hW : within 45011225837250 W := by first | assumption | exact within_trans (by assumption) (within_of (by decide))) :
    Frame W s₀ (State.calBegin s h) := by
  unfold State.calBegin
  try dsimp only
  repeat' with_reducible (first | assumption | apply frameRes_next | apply frameOpt_none | apply frameOpt_some | apply State.forEach_frame | apply State.when_frame | apply foldl_frame | apply foldl_fst_frame | apply foldl_snd_frame | intro _ | split | apply State.modCmd_frame | apply State.startFull_frame | apply State.enter_frame | apply State.startProc_frame | apply State.writeRun_frame | apply State.modPickup_frame | apply State.wakePickup_frame | apply frameOpt_get (by assumption) | dsimp only)
  all_goals first | assumption | exact within_trans hW (within_of (by decide)) | exact within_group hW .linkRegs (by decide) rfl | exact within_group hW .memRegs (by decide) rfl | exact within_group hW .cchRegs (by decide) rfl | exact within_group hW .srvRegs (by decide) rfl | exact within_group hW .spnRegs (by decide) rfl | exact within_group hW .motRegs (by decide) rfl | exact within_group hW .rchRegs (by decide) rfl | exact within_group hW .recRegs (by decide) rfl | exact within_group hW .calRegs (by decide) rfl

theorem State.calFinish_frame {W : Nat} {s₀ s : State} (hs : Frame W s₀ s) (h : Nat) (ms : List (Nat × CalMask)) (hW : within 44324031068866 W := by first | assumption | exact within_trans (by assumption) (within_of (by decide))) :
    Frame W s₀ (State.calFinish s h ms) := by
  unfold State.calFinish
  try dsimp only
  repeat' with_reducible (first | assumption | apply frameRes_next | apply frameOpt_none | apply frameOpt_some | apply State.forEach_frame | apply State.when_frame | apply foldl_frame | apply foldl_fst_frame | apply foldl_snd_frame | intro _ | split | apply State.endProc_frame | apply State.finish_frame | apply State.emitAll_frame | apply State.modCmd_frame | apply State.put_frame | apply frameOpt_get (by assumption) | dsimp only)
  all_goals first | assumption | exact within_trans hW (within_of (by decide)) | exact within_group hW .linkRegs (by decide) rfl | exact within_group hW .memRegs (by decide) rfl | exact within_group hW .cchRegs (by decide) rfl | exact within_group hW .srvRegs (by decide) rfl | exact within_group hW .motRegs (by decide) rfl | exact within_group hW .rchRegs (by decide) rfl | exact within_group hW .recRegs (by decide) rfl | exact within_group hW .calRegs (by decide) rfl

theorem State.calibrate_frame {α : Type} {W : Nat} {s₀ s : State} (hs : Frame W s₀ s) (h proc : Nat) (found : List α)
    (f : State → Nat → α → State × CalMask) (hf : ∀ t n a, Frame W s₀ t → Frame W s₀ (f t n a).1) (hW : within 45011225837250 W := by first | assumption | exact within_trans (by assumption) (within_of (by decide))) :
    Frame W s₀ (s.calibrate h proc found f) := by
  unfold State.calibrate
  extract_lets c go
  have hg : Frame W s₀ go.1 := foldl_fst_frame (init := (s, [])) hs _ _ (fun t e ht => hf _ _ _ ht)
  clear_value go
  split
  · exact hs
  · split
    · split
      · exact State.refuse_frame hs _ _
      · exact State.calBegin_frame hs _
    · split
      · exact hs
      · exact State.calFinish_frame hg _ _

theorem execCalibrateAdcTrim_frame {W : Nat} {s₀ s : State} (hs : Frame W s₀ s) (h : Nat) (trims : List (List BeamTrim)) (hW : within 45011225837250 W := by first | assumption | exact within_trans (by assumption) (within_of (by decide))) :
    FrameRes W s₀ (execCalibrateAdcTrim h trims s) :=
  frameRes_next (State.calibrate_frame hs _ _ _ _ (fun _ _ _ ht => State.applyTrim_frame ht _ _ _))

theorem execCalibrateEspresso_frame {W : Nat} {s₀ s : State} (hs : Frame W s₀ s) (h : Nat) (runs : List EspressoRun) (hW : within 45011225837250 W := by first | assumption | exact within_trans (by assumption) (within_of (by decide))) :
    FrameRes W s₀ (execCalibrateEspresso h runs s) :=
  frameRes_next (State.calibrate_frame hs _ _ _ _ (fun _ _ _ ht => State.applyEspresso_frame ht _ _ _ _))

theorem execCalibratePower_frame {W : Nat} {s₀ s : State} (hs : Frame W s₀ s) (h : Nat) (runs : List PowerRun) (hW : within 45011225837250 W := by first | assumption | exact within_trans (by assumption) (within_of (by decide))) :
    FrameRes W s₀ (execCalibratePower h runs s) := by
  unfold execCalibratePower
  extract_lets c layer ended t
  have ht : Frame W s₀ t := by
    refine foldl_frame hs _ _ (fun x e hx => ?_)
    dsimp only
    split
    · exact hx
    · have h₃ := State.powerAttempt_frame hx e.1 layer e.2
      generalize x.powerAttempt e.1 layer e.2 = q at h₃ ⊢
      obtain ⟨u, w⟩ := q
      cases w with
      | unfinished => exact h₃
      | done ok => exact State.modCmd_frame h₃ _ _
  clear_value t
  split
  · apply frameRes_next; exact State.calibrate_frame hs _ _ _ _ (fun _ _ _ ht => ht)
  · split
    · apply frameRes_next; exact hs
    · split
      · apply frameRes_next; exact State.calFinish_frame ht _ _
      · apply frameRes_next; exact ht

theorem execCalibrateFull_frame {W : Nat} {s₀ s : State} (hs : Frame W s₀ s) (h : Nat) (runs : List FullRun) (hW : within 45011225837250 W := by first | assumption | exact within_trans (by assumption) (within_of (by decide))) :
    FrameRes W s₀ (execCalibrateFull h runs s) :=
  frameRes_next (State.calibrate_frame hs _ _ _ _ (fun _ _ _ ht => State.applyFull_frame ht _ _))

theorem execEspressoAuto_frame {W : Nat} {s₀ s : State} (hs : Frame W s₀ s) (n : Fin 16) (run : Option EspressoRun) (hW : within 44324031068866 W) :
    FrameRes W s₀ (execEspressoAuto n run s) := by
  unfold execEspressoAuto
  try dsimp only
  repeat' with_reducible (first | assumption | apply frameRes_next | apply frameOpt_none | apply frameOpt_some | apply State.forEach_frame | apply State.when_frame | apply foldl_frame | apply foldl_fst_frame | apply foldl_snd_frame | intro _ | split | apply State.applyEspresso_frame | apply State.endProc_frame | apply State.startProc_frame | apply State.put_frame | apply frameOpt_get (by assumption) | apply Frame.set_calib | dsimp only)
  all_goals first | assumption | exact within_trans hW (within_of (by decide)) | exact within_group hW .linkRegs (by decide) rfl | exact within_group hW .memRegs (by decide) rfl | exact within_group hW .cchRegs (by decide) rfl | exact within_group hW .srvRegs (by decide) rfl | exact within_group hW .motRegs (by decide) rfl | exact within_group hW .rchRegs (by decide) rfl | exact within_group hW .recRegs (by decide) rfl | exact within_group hW .calRegs (by decide) rfl

end Sys2Proof.Machine
end

