-- ==== Sys2Proof/Laws/FrameClock.lean ====
section
/-!
SUPPORT. What the operations and commands of Machine/Clock.lean leave as it was: all parts outside a mask.
-/
set_option Elab.async false
set_option linter.all false
namespace Sys2Proof.Machine
set_option maxRecDepth 2000

theorem State.advanceChain_frame {W : Nat} {s₀ s : State} (hs : Frame W s₀ s) (hW : within 17592194433024 W := by first | assumption | exact within_trans (by assumption) (within_of (by decide))) : Frame W s₀ s.advanceChain := by
  unfold State.advanceChain
  split
  · exact Frame.set_ct_mbl hs _ _ (within_trans hW (within_of (by decide)))
  · exact Frame.set_ct_mbl hs _ _ (within_trans hW (within_of (by decide)))

theorem State.tick_frame {W : Nat} {s₀ s : State} (hs : Frame W s₀ s) (hW : within 17592195481600 W) :
    Frame W s₀ (State.tick s) := by
  unfold State.tick
  try dsimp only
  repeat' with_reducible (first | assumption | apply frameRes_next | apply frameOpt_none | apply frameOpt_some | apply State.forEach_frame | apply State.when_frame | apply foldl_frame | apply foldl_fst_frame | apply foldl_snd_frame | intro _ | split | apply State.advanceChain_frame | apply frameOpt_get (by assumption) | apply Frame.set_now | dsimp only)
  all_goals first | assumption | exact within_trans hW (within_of (by decide))

end Sys2Proof.Machine
end

