-- ==== Sys2Proof/Laws/FramePcie.lean ====
section
/-!
SUPPORT. What the operations and commands of Machine/Pcie.lean leave as it was: all parts outside a mask.
-/
set_option Elab.async false
set_option linter.all false
namespace Sys2Proof.Machine
set_option maxRecDepth 2000

theorem execBadTlpReceived_frame {W : Nat} {s₀ s : State} (hs : Frame W s₀ s) (f : Option (Fin 4)) (err : TlpError) (hW : within 134217728 W) :
    FrameRes W s₀ (execBadTlpReceived f err s) := by
  unfold execBadTlpReceived
  try dsimp only
  repeat' with_reducible (first | assumption | apply frameRes_next | apply frameOpt_none | apply frameOpt_some | apply State.forEach_frame | apply State.when_frame | apply foldl_frame | apply foldl_fst_frame | apply foldl_snd_frame | intro _ | split | apply State.logAer_frame | apply frameOpt_get (by assumption) | dsimp only)
  all_goals first | assumption | exact within_trans hW (within_of (by decide))

theorem execPcieLinkUp_frame {W : Nat} {s₀ s : State} (hs : Frame W s₀ s) (rate : Fin 8) (width : Fin 32) (hW : within 134217730 W) :
    FrameRes W s₀ (execPcieLinkUp rate width s) := by
  unfold execPcieLinkUp
  try dsimp only
  repeat' with_reducible (first | assumption | apply frameRes_next | apply frameOpt_none | apply frameOpt_some | apply State.forEach_frame | apply State.when_frame | apply foldl_frame | apply foldl_fst_frame | apply foldl_snd_frame | intro _ | split | apply State.put_frame | apply frameOpt_get (by assumption) | apply Frame.set_pcie | dsimp only)
  all_goals first | assumption | exact within_trans hW (within_of (by decide)) | exact within_group hW .linkRegs (by decide) rfl

theorem execPcieLinkChange_frame {W : Nat} {s₀ s : State} (hs : Frame W s₀ s) (rate : Fin 8) (width : Fin 32) (hW : within 201326594 W) :
    FrameRes W s₀ (execPcieLinkChange rate width s) := by
  unfold execPcieLinkChange
  try dsimp only
  repeat' with_reducible (first | assumption | apply frameRes_next | apply frameOpt_none | apply frameOpt_some | apply State.forEach_frame | apply State.when_frame | apply foldl_frame | apply foldl_fst_frame | apply foldl_snd_frame | intro _ | split | apply State.put_frame | apply State.post_frame | apply frameOpt_get (by assumption) | apply Frame.set_pcie | dsimp only)
  all_goals first | assumption | exact within_trans hW (within_of (by decide)) | exact within_group hW .linkRegs (by decide) rfl

theorem execAspmL0sEntry_frame {W : Nat} {s₀ s : State} (hs : Frame W s₀ s) (hW : within 2 W) :
    FrameRes W s₀ (execAspmL0sEntry s) := by
  unfold execAspmL0sEntry
  try dsimp only
  repeat' with_reducible (first | assumption | apply frameRes_next | apply frameOpt_none | apply frameOpt_some | apply State.forEach_frame | apply State.when_frame | apply foldl_frame | apply foldl_fst_frame | apply foldl_snd_frame | intro _ | split | apply State.put_frame | apply frameOpt_get (by assumption) | dsimp only)
  all_goals first | assumption | exact within_trans hW (within_of (by decide)) | exact within_group hW .linkRegs (by decide) rfl

theorem execAspmL1Entry_frame {W : Nat} {s₀ s : State} (hs : Frame W s₀ s) (hW : within 35184506306562 W) :
    FrameRes W s₀ (execAspmL1Entry s) := by
  unfold execAspmL1Entry
  try dsimp only
  repeat' with_reducible (first | assumption | apply frameRes_next | apply frameOpt_none | apply frameOpt_some | apply State.forEach_frame | apply State.when_frame | apply foldl_frame | apply foldl_fst_frame | apply foldl_snd_frame | intro _ | split | apply State.put_frame | apply frameOpt_get (by assumption) | apply Frame.set_pcie_sent | dsimp only)
  all_goals first | assumption | exact within_trans hW (within_of (by decide)) | exact within_group hW .linkRegs (by decide) rfl

theorem execL1PmSubstateEntry_frame {W : Nat} {s₀ s : State} (hs : Frame W s₀ s) (clkreqReleased : Bool) (hW : within 2 W) :
    FrameRes W s₀ (execL1PmSubstateEntry clkreqReleased s) := by
  unfold execL1PmSubstateEntry
  try dsimp only
  repeat' with_reducible (first | assumption | apply frameRes_next | apply frameOpt_none | apply frameOpt_some | apply State.forEach_frame | apply State.when_frame | apply foldl_frame | apply foldl_fst_frame | apply foldl_snd_frame | intro _ | split | apply State.put_frame | apply frameOpt_get (by assumption) | dsimp only)
  all_goals first | assumption | exact within_trans hW (within_of (by decide)) | exact within_group hW .linkRegs (by decide) rfl

theorem State.resumeFn_frame {W : Nat} {s₀ s : State} (hs : Frame W s₀ s) (f : Nat) (hW : within 52777063579730 W) :
    Frame W s₀ (State.resumeFn s f) := by
  unfold State.resumeFn
  try dsimp only
  repeat' with_reducible (first | assumption | apply frameRes_next | apply frameOpt_none | apply frameOpt_some | apply State.forEach_frame | apply State.when_frame | apply foldl_frame | apply foldl_fst_frame | apply foldl_snd_frame | intro _ | split | apply State.pump_frame | apply State.pumpJob_frame | apply State.pumpDownload_frame | apply State.drainStaging_frame | apply frameOpt_get (by assumption) | dsimp only)
  all_goals first | assumption | exact within_trans hW (within_of (by decide)) | exact within_group hW .linkRegs (by decide) rfl | exact within_group hW .evtRegs (by decide) rfl | exact within_group hW .memRegs (by decide) rfl | exact within_group hW .mblRegs (by decide) rfl

theorem execPmD3hotEntry_frame {W : Nat} {s₀ s : State} (hs : Frame W s₀ s) (f : Fin 4) (hW : within 3 W) :
    FrameRes W s₀ (execPmD3hotEntry f s) := by
  unfold execPmD3hotEntry
  try dsimp only
  repeat' with_reducible (first | assumption | apply frameRes_next | apply frameOpt_none | apply frameOpt_some | apply State.forEach_frame | apply State.when_frame | apply foldl_frame | apply foldl_fst_frame | apply foldl_snd_frame | intro _ | split | apply State.put_frame | apply frameOpt_get (by assumption) | dsimp only)
  all_goals first | assumption | exact within_trans hW (within_of (by decide)) | exact within_group hW .fnRegs (by decide) rfl | exact within_group hW .linkRegs (by decide) rfl

theorem execPmD0Return_frame {W : Nat} {s₀ s : State} (hs : Frame W s₀ s) (f : Fin 4) (hW : within 52777063579731 W) :
    FrameRes W s₀ (execPmD0Return f s) := by
  unfold execPmD0Return
  try dsimp only
  repeat' with_reducible (first | assumption | apply frameRes_next | apply frameOpt_none | apply frameOpt_some | apply State.forEach_frame | apply State.when_frame | apply foldl_frame | apply foldl_fst_frame | apply foldl_snd_frame | intro _ | split | apply State.put_frame | apply State.wakeLink_frame | apply State.resumeFn_frame | apply frameOpt_get (by assumption) | dsimp only)
  all_goals first | assumption | exact within_trans hW (within_of (by decide)) | exact within_group hW .fnRegs (by decide) rfl | exact within_group hW .linkRegs (by decide) rfl | exact within_group hW .evtRegs (by decide) rfl | exact within_group hW .memRegs (by decide) rfl | exact within_group hW .mblRegs (by decide) rfl

theorem State.discardCmd_frame {W : Nat} {s₀ s : State} (hs : Frame W s₀ s) (h : Nat) (hW : within 2211742486720 W) :
    Frame W s₀ (State.discardCmd s h) := by
  unfold State.discardCmd
  try dsimp only
  repeat' with_reducible (first | assumption | apply frameRes_next | apply frameOpt_none | apply frameOpt_some | apply State.forEach_frame | apply State.when_frame | apply foldl_frame | apply foldl_fst_frame | apply foldl_snd_frame | intro _ | split | apply State.releaseUses_frame | apply State.dropCmd_frame | apply State.padLbas_frame | apply frameOpt_get (by assumption) | apply Frame.set_fw | dsimp only)
  all_goals first | assumption | exact within_trans hW (within_of (by decide)) | exact within_group hW .memRegs (by decide) rfl | exact within_group hW .cchRegs (by decide) rfl | exact within_group hW .rchRegs (by decide) rfl

theorem State.discardForwarded_frame {W : Nat} {s₀ s : State} (hs : Frame W s₀ s) (f : Nat) (hW : within 52776759492610 W) :
    Frame W s₀ (State.discardForwarded s f) := by
  unfold State.discardForwarded
  try dsimp only
  repeat' with_reducible (first | assumption | apply frameRes_next | apply frameOpt_none | apply frameOpt_some | apply State.forEach_frame | apply State.when_frame | apply foldl_frame | apply foldl_fst_frame | apply foldl_snd_frame | intro _ | split | apply State.route_frame | apply frameOpt_get (by assumption) | apply Frame.set_mbl | dsimp only)
  all_goals first | assumption | exact within_trans hW (within_of (by decide)) | exact within_group hW .linkRegs (by decide) rfl | exact within_group hW .mblRegs (by decide) rfl

theorem State.silence_frame {W : Nat} {s₀ s : State} (hs : Frame W s₀ s) (f : Nat) (hW : within 54988434870466 W) :
    Frame W s₀ (State.silence s f) := by
  unfold State.silence
  try dsimp only
  repeat' with_reducible (first | assumption | apply frameRes_next | apply frameOpt_none | apply frameOpt_some | apply State.forEach_frame | apply State.when_frame | apply foldl_frame | apply foldl_fst_frame | apply foldl_snd_frame | intro _ | split | apply State.emitAll_frame | apply State.discardForwarded_frame | apply State.modCmd_frame | apply State.discardCmd_frame | apply State.setEntry_frame | apply State.freeEntry_frame | apply State.closeBlock_frame | apply frameOpt_get (by assumption) | apply Frame.set_pcie | dsimp only)
  all_goals first | assumption | exact within_trans hW (within_of (by decide)) | exact within_group hW .linkRegs (by decide) rfl | exact within_group hW .memRegs (by decide) rfl | exact within_group hW .cchRegs (by decide) rfl | exact within_group hW .rchRegs (by decide) rfl | exact within_group hW .mblRegs (by decide) rfl

theorem State.dropWindows_frame {W : Nat} {s₀ s : State} (hs : Frame W s₀ s) (f : Nat) (hW : within 134217736 W) :
    Frame W s₀ (State.dropWindows s f) := by
  unfold State.dropWindows
  try dsimp only
  repeat' with_reducible (first | assumption | apply frameRes_next | apply frameOpt_none | apply frameOpt_some | apply State.forEach_frame | apply State.when_frame | apply foldl_frame | apply foldl_fst_frame | apply foldl_snd_frame | intro _ | split | apply State.put_frame | apply frameOpt_get (by assumption) | apply Frame.set_pcie | dsimp only)
  all_goals first | assumption | exact within_trans hW (within_of (by decide)) | exact within_group hW .winRegs (by decide) rfl

theorem State.initiateFlr_frame {W : Nat} {s₀ s : State} (hs : Frame W s₀ s) (f : Nat) (hW : within 54988434870475 W) :
    Frame W s₀ (State.initiateFlr s f) := by
  unfold State.initiateFlr
  try dsimp only
  repeat' with_reducible (first | assumption | apply frameRes_next | apply frameOpt_none | apply frameOpt_some | apply State.forEach_frame | apply State.when_frame | apply foldl_frame | apply foldl_fst_frame | apply foldl_snd_frame | intro _ | split | apply State.put_frame | apply State.silence_frame | apply State.dropWindows_frame | apply frameOpt_get (by assumption) | dsimp only)
  all_goals first | assumption | exact within_trans hW (within_of (by decide)) | exact within_group hW .fnRegs (by decide) rfl | exact within_group hW .linkRegs (by decide) rfl | exact within_group hW .winRegs (by decide) rfl | exact within_group hW .memRegs (by decide) rfl | exact within_group hW .cchRegs (by decide) rfl | exact within_group hW .rchRegs (by decide) rfl | exact within_group hW .mblRegs (by decide) rfl

theorem execInitiateFlr_frame {W : Nat} {s₀ s : State} (hs : Frame W s₀ s) (f : Fin 4) (hW : within 54988434870475 W) :
    FrameRes W s₀ (execInitiateFlr f s) := by
  unfold execInitiateFlr
  try dsimp only
  repeat' with_reducible (first | assumption | apply frameRes_next | apply frameOpt_none | apply frameOpt_some | apply State.forEach_frame | apply State.when_frame | apply foldl_frame | apply foldl_fst_frame | apply foldl_snd_frame | intro _ | split | apply State.initiateFlr_frame | apply frameOpt_get (by assumption) | dsimp only)
  all_goals first | assumption | exact within_trans hW (within_of (by decide)) | exact within_group hW .fnRegs (by decide) rfl | exact within_group hW .linkRegs (by decide) rfl | exact within_group hW .winRegs (by decide) rfl | exact within_group hW .memRegs (by decide) rfl | exact within_group hW .cchRegs (by decide) rfl | exact within_group hW .rchRegs (by decide) rfl | exact within_group hW .mblRegs (by decide) rfl

theorem State.resetFunctionBlocks_frame {W : Nat} {s₀ s : State} (hs : Frame W s₀ s) (f : Nat) (hW : within 234881084 W) :
    Frame W s₀ (State.resetFunctionBlocks s f) := by
  have hp : Frame W s₀ { s with regs := s.regs.filter (fun e => keptByFlr (e.1 % 1024) || fieldFunction e.1 != f) } := by
    apply Frame.purge hs
    intro g hg v
    by_cases c : keptByFlr (g.key % 1024) = true
    · simp [c]
    · exfalso
      have e : g.key % 1024 = g.id % 1024 := by unfold Fld.key; omega
      have lt : 7 ≤ g.id % 1024 ∧ g.id % 1024 < 73 := by
        rw [e] at c
        simp [keptByFlr, deviceFieldBase] at c
        omega
      have hall : ∀ i ∈ List.range 73, 7 ≤ i → (234881084 : Nat).testBit (Fld.group ⟨i, 0, 0, 0⟩).idx = true := by decide
      have k := hall _ (List.mem_range.mpr lt.2) lt.1
      rw [Fld.group_mod] at k
      have := within_bit hW _ k
      rw [show (Fld.group ⟨g.id, 0, 0, 0⟩) = g.group from rfl] at this
      rw [this] at hg
      cases hg
  have w (a : Nat) (h : a &&& 234881084 = a) : within a W := within_trans hW (within_of h)
  unfold State.resetFunctionBlocks
  have ht := fun (x : Rings) (y : Pcie) (z : Events) =>
    Frame.set_events (Frame.set_pcie (Frame.set_rings hp x (w _ (by decide))) y (w _ (by decide))) z (w _ (by decide))
  dsimp only
  split
  · exact ht _ _ _
  · exact ht _ _ _

theorem State.resetConfig_frame {W : Nat} {s₀ s : State} (hs : Frame W s₀ s) (f : Nat) (hW : within 134217728 W) :
    Frame W s₀ (State.resetConfig s f) := by
  unfold State.resetConfig
  try dsimp only
  repeat' with_reducible (first | assumption | apply frameRes_next | apply frameOpt_none | apply frameOpt_some | apply State.forEach_frame | apply State.when_frame | apply foldl_frame | apply foldl_fst_frame | apply foldl_snd_frame | intro _ | split | apply frameOpt_get (by assumption) | apply Frame.set_pcie | dsimp only)
  all_goals first | assumption | exact within_trans hW (within_of (by decide))

theorem execFlrDone_frame {W : Nat} {s₀ s : State} (hs : Frame W s₀ s) (f : Fin 4) (hW : within 234881085 W) :
    FrameRes W s₀ (execFlrDone f s) := by
  unfold execFlrDone
  try dsimp only
  repeat' with_reducible (first | assumption | apply frameRes_next | apply frameOpt_none | apply frameOpt_some | apply State.forEach_frame | apply State.when_frame | apply foldl_frame | apply foldl_fst_frame | apply foldl_snd_frame | intro _ | split | apply State.resetConfig_frame | apply State.put_frame | apply State.resetFunctionBlocks_frame | apply State.post_frame | apply frameOpt_get (by assumption) | dsimp only)
  all_goals first | assumption | exact within_trans hW (within_of (by decide)) | exact within_group hW .fnRegs (by decide) rfl | exact within_group hW .hifRegs (by decide) rfl | exact within_group hW .winRegs (by decide) rfl | exact within_group hW .evtRegs (by decide) rfl | exact within_group hW .ringRegs (by decide) rfl

theorem execHotReset_frame {W : Nat} {s₀ s : State} (hs : Frame W s₀ s) (hW : within 54988434870475 W) :
    FrameRes W s₀ (execHotReset s) := by
  unfold execHotReset
  try dsimp only
  repeat' with_reducible (first | assumption | apply frameRes_next | apply frameOpt_none | apply frameOpt_some | apply State.forEach_frame | apply State.when_frame | apply foldl_frame | apply foldl_fst_frame | apply foldl_snd_frame | intro _ | split | apply State.initiateFlr_frame | apply frameOpt_get (by assumption) | apply Frame.set_pcie | dsimp only)
  all_goals first | assumption | exact within_trans hW (within_of (by decide)) | exact within_group hW .fnRegs (by decide) rfl | exact within_group hW .linkRegs (by decide) rfl | exact within_group hW .winRegs (by decide) rfl | exact within_group hW .memRegs (by decide) rfl | exact within_group hW .cchRegs (by decide) rfl | exact within_group hW .rchRegs (by decide) rfl | exact within_group hW .mblRegs (by decide) rfl

theorem execDlDown_frame {W : Nat} {s₀ s : State} (hs : Frame W s₀ s) (hW : within 54988434870475 W) :
    FrameRes W s₀ (execDlDown s) := by
  unfold execDlDown
  try dsimp only
  repeat' with_reducible (first | assumption | apply frameRes_next | apply frameOpt_none | apply frameOpt_some | apply State.forEach_frame | apply State.when_frame | apply foldl_frame | apply foldl_fst_frame | apply foldl_snd_frame | intro _ | split | apply State.initiateFlr_frame | apply frameOpt_get (by assumption) | apply Frame.set_pcie | dsimp only)
  all_goals first | assumption | exact within_trans hW (within_of (by decide)) | exact within_group hW .fnRegs (by decide) rfl | exact within_group hW .linkRegs (by decide) rfl | exact within_group hW .winRegs (by decide) rfl | exact within_group hW .memRegs (by decide) rfl | exact within_group hW .cchRegs (by decide) rfl | exact within_group hW .rchRegs (by decide) rfl | exact within_group hW .mblRegs (by decide) rfl

theorem State.wedge_frame {W : Nat} {s₀ s : State} (hs : Frame W s₀ s) (f : Nat) (hW : within 54988434870475 W) :
    Frame W s₀ (State.wedge s f) := by
  unfold State.wedge
  try dsimp only
  repeat' with_reducible (first | assumption | apply frameRes_next | apply frameOpt_none | apply frameOpt_some | apply State.forEach_frame | apply State.when_frame | apply foldl_frame | apply foldl_fst_frame | apply foldl_snd_frame | intro _ | split | apply State.put_frame | apply State.silence_frame | apply State.dropWindows_frame | apply State.logAer_frame | apply State.emit_frame | apply State.post_frame | apply frameOpt_get (by assumption) | dsimp only)
  all_goals first | assumption | exact within_trans hW (within_of (by decide)) | exact within_group hW .fnRegs (by decide) rfl | exact within_group hW .linkRegs (by decide) rfl | exact within_group hW .winRegs (by decide) rfl | exact within_group hW .memRegs (by decide) rfl | exact within_group hW .cchRegs (by decide) rfl | exact within_group hW .rchRegs (by decide) rfl | exact within_group hW .mblRegs (by decide) rfl

theorem execFunctionWedged_frame {W : Nat} {s₀ s : State} (hs : Frame W s₀ s) (f : Fin 4) (hW : within 54988434870475 W) :
    FrameRes W s₀ (execFunctionWedged f s) := by
  unfold execFunctionWedged
  try dsimp only
  repeat' with_reducible (first | assumption | apply frameRes_next | apply frameOpt_none | apply frameOpt_some | apply State.forEach_frame | apply State.when_frame | apply foldl_frame | apply foldl_fst_frame | apply foldl_snd_frame | intro _ | split | apply State.wedge_frame | apply frameOpt_get (by assumption) | dsimp only)
  all_goals first | assumption | exact within_trans hW (within_of (by decide)) | exact within_group hW .fnRegs (by decide) rfl | exact within_group hW .linkRegs (by decide) rfl | exact within_group hW .winRegs (by decide) rfl | exact within_group hW .memRegs (by decide) rfl | exact within_group hW .cchRegs (by decide) rfl | exact within_group hW .rchRegs (by decide) rfl | exact within_group hW .mblRegs (by decide) rfl

theorem State.pumpDown_frame {W : Nat} {s₀ s : State} (hs : Frame W s₀ s) (h tag : Nat) (hW : within 35184877502530 W) :
    Frame W s₀ (State.pumpDown s h tag) := by
  unfold State.pumpDown
  try dsimp only
  repeat' with_reducible (first | assumption | apply frameRes_next | apply frameOpt_none | apply frameOpt_some | apply State.forEach_frame | apply State.when_frame | apply foldl_frame | apply foldl_fst_frame | apply foldl_snd_frame | intro _ | split | apply State.modCmd_frame | apply State.issueSource_frame | apply frameOpt_get (by assumption) | dsimp only)
  all_goals first | assumption | exact within_trans hW (within_of (by decide)) | exact within_group hW .linkRegs (by decide) rfl | exact within_group hW .memRegs (by decide) rfl

theorem State.downBytes_frame {W : Nat} {s₀ s : State} (hs : Frame W s₀ s) (h off : Nat) (bytes : List Nat) (poison : Bool) (hW : within 52777063579714 W) :
    Frame W s₀ (State.downBytes s h off bytes poison) := by
  unfold State.downBytes
  try dsimp only
  repeat' with_reducible (first | assumption | apply frameRes_next | apply frameOpt_none | apply frameOpt_some | apply State.forEach_frame | apply State.when_frame | apply foldl_frame | apply foldl_fst_frame | apply foldl_snd_frame | intro _ | split | apply State.put_frame | apply State.setCmd_frame | apply State.pumpDown_frame | apply State.sendData_frame | apply frameOpt_get (by assumption) | dsimp only)
  all_goals first | assumption | exact within_trans hW (within_of (by decide)) | exact within_group hW .linkRegs (by decide) rfl | exact within_group hW .memRegs (by decide) rfl | exact within_group hW .mblRegs (by decide) rfl

theorem State.readFailed_frame {W : Nat} {s₀ s : State} (hs : Frame W s₀ s) (r : ReadReq) (status : Nat) (hW : within 52789411582178 W) :
    Frame W s₀ (State.readFailed s r status) := by
  unfold State.readFailed
  try dsimp only
  repeat' with_reducible (first | assumption | apply frameRes_next | apply frameOpt_none | apply frameOpt_some | apply State.forEach_frame | apply State.when_frame | apply foldl_frame | apply foldl_fst_frame | apply foldl_snd_frame | intro _ | split | apply State.fetchFailed_frame | apply State.refuse_frame | apply State.setCmd_frame | apply State.stopCmd_frame | apply frameOpt_get (by assumption) | apply Frame.set_mbl | dsimp only)
  all_goals first | assumption | exact within_trans hW (within_of (by decide)) | exact within_group hW .linkRegs (by decide) rfl | exact within_group hW .ringRegs (by decide) rfl | exact within_group hW .memRegs (by decide) rfl | exact within_group hW .cchRegs (by decide) rfl | exact within_group hW .rchRegs (by decide) rfl

theorem State.readDone_frame {W : Nat} {s₀ s : State} (hs : Frame W s₀ s) (r : ReadReq) (hW : within 54988434870466 W) :
    Frame W s₀ (State.readDone s r) := by
  unfold State.readDone
  try dsimp only
  repeat' with_reducible (first | assumption | apply frameRes_next | apply frameOpt_none | apply frameOpt_some | apply State.forEach_frame | apply State.when_frame | apply foldl_frame | apply foldl_fst_frame | apply foldl_snd_frame | intro _ | split | apply State.setCmd_frame | apply State.modCmd_frame | apply State.put_frame | apply State.downBytes_frame | apply State.gatherBytes_frame | apply State.jobBytes_frame | apply State.downloadBytes_frame | apply frameOpt_get (by assumption) | dsimp only)
  all_goals first | assumption | exact within_trans hW (within_of (by decide)) | exact within_group hW .linkRegs (by decide) rfl | exact within_group hW .memRegs (by decide) rfl | exact within_group hW .cchRegs (by decide) rfl | exact within_group hW .rchRegs (by decide) rfl | exact within_group hW .mblRegs (by decide) rfl

theorem State.unexpectedCpl_frame {W : Nat} {s₀ s : State} (hs : Frame W s₀ s) (f tag : Nat) (hW : within 201326596 W) :
    Frame W s₀ (State.unexpectedCpl s f tag) := by
  unfold State.unexpectedCpl
  try dsimp only
  repeat' with_reducible (first | assumption | apply frameRes_next | apply frameOpt_none | apply frameOpt_some | apply State.forEach_frame | apply State.when_frame | apply foldl_frame | apply foldl_fst_frame | apply foldl_snd_frame | intro _ | split | apply State.logAer_frame | apply State.count_frame | apply State.raise_frame | apply frameOpt_get (by assumption) | dsimp only)
  all_goals first | assumption | exact within_trans hW (within_of (by decide)) | exact within_group hW .hifRegs (by decide) rfl

theorem execCompletionTlp_frame {W : Nat} {s₀ s : State} (hs : Frame W s₀ s) (f : Fin 4) (tag : Nat) (status : CplStatus) (data : List Byte) (hW : within 54988434870518 W) :
    FrameRes W s₀ (execCompletionTlp f tag status data s) := by
  unfold execCompletionTlp
  try dsimp only
  repeat' with_reducible (first | assumption | apply frameRes_next | apply frameOpt_none | apply frameOpt_some | apply State.forEach_frame | apply State.when_frame | apply foldl_frame | apply foldl_fst_frame | apply foldl_snd_frame | intro _ | split | apply State.unexpectedCpl_frame | apply State.wakeLink_frame | apply State.dropReq_frame | apply State.readDone_frame | apply State.resumeFn_frame | apply State.logAer_frame | apply State.readFailed_frame | apply frameOpt_get (by assumption) | apply Frame.set_pcie | dsimp only)
  all_goals first | assumption | exact within_trans hW (within_of (by decide)) | exact within_group hW .linkRegs (by decide) rfl | exact within_group hW .hifRegs (by decide) rfl | exact within_group hW .evtRegs (by decide) rfl | exact within_group hW .ringRegs (by decide) rfl | exact within_group hW .memRegs (by decide) rfl | exact within_group hW .cchRegs (by decide) rfl | exact within_group hW .rchRegs (by decide) rfl | exact within_group hW .mblRegs (by decide) rfl

theorem execCplTimeout_frame {W : Nat} {s₀ s : State} (hs : Frame W s₀ s) (f : Fin 4) (tag : Nat) (hW : within 52789411582182 W) :
    FrameRes W s₀ (execCplTimeout f tag s) := by
  unfold execCplTimeout
  try dsimp only
  repeat' with_reducible (first | assumption | apply frameRes_next | apply frameOpt_none | apply frameOpt_some | apply State.forEach_frame | apply State.when_frame | apply foldl_frame | apply foldl_fst_frame | apply foldl_snd_frame | intro _ | split | apply State.dropReq_frame | apply State.logAer_frame | apply State.count_frame | apply State.raise_frame | apply State.readFailed_frame | apply frameOpt_get (by assumption) | apply Frame.set_pcie | dsimp only)
  all_goals first | assumption | exact within_trans hW (within_of (by decide)) | exact within_group hW .linkRegs (by decide) rfl | exact within_group hW .hifRegs (by decide) rfl | exact within_group hW .ringRegs (by decide) rfl | exact within_group hW .memRegs (by decide) rfl | exact within_group hW .cchRegs (by decide) rfl | exact within_group hW .rchRegs (by decide) rfl

theorem execTagQuarantineEnd_frame {W : Nat} {s₀ s : State} (hs : Frame W s₀ s) (f : Fin 4) (tag : Nat) (hW : within 52777063579730 W) :
    FrameRes W s₀ (execTagQuarantineEnd f tag s) := by
  unfold execTagQuarantineEnd
  try dsimp only
  repeat' with_reducible (first | assumption | apply frameRes_next | apply frameOpt_none | apply frameOpt_some | apply State.forEach_frame | apply State.when_frame | apply foldl_frame | apply foldl_fst_frame | apply foldl_snd_frame | intro _ | split | apply State.resumeFn_frame | apply frameOpt_get (by assumption) | apply Frame.set_pcie | dsimp only)
  all_goals first | assumption | exact within_trans hW (within_of (by decide)) | exact within_group hW .linkRegs (by decide) rfl | exact within_group hW .evtRegs (by decide) rfl | exact within_group hW .memRegs (by decide) rfl | exact within_group hW .mblRegs (by decide) rfl

theorem State.peerAbort_frame {W : Nat} {s₀ s : State} (hs : Frame W s₀ s) (f id mslot block j reason : Nat) (hW : within 35184575512706 W) :
    Frame W s₀ (State.peerAbort s f id mslot block j reason) := by
  unfold State.peerAbort
  try dsimp only
  repeat' with_reducible (first | assumption | apply frameRes_next | apply frameOpt_none | apply frameOpt_some | apply State.forEach_frame | apply State.when_frame | apply foldl_frame | apply foldl_fst_frame | apply foldl_snd_frame | intro _ | split | apply State.takeFree_frame | apply State.logAer_frame | apply State.emit_frame | apply State.raise_frame | apply frameOpt_get (by assumption) | dsimp only)
  all_goals first | assumption | exact within_trans hW (within_of (by decide)) | exact within_group hW .linkRegs (by decide) rfl | exact within_group hW .cchRegs (by decide) rfl

theorem State.peerAnswer_frame {W : Nat} {s₀ s : State} (hs : Frame W s₀ s) (p : PeerRead) (hW : within 35185380819138 W) :
    FrameOpt W s₀ (State.peerAnswer s p) := by
  unfold State.peerAnswer
  try dsimp only
  repeat' with_reducible (first | assumption | apply frameRes_next | apply frameOpt_none | apply frameOpt_some | apply State.forEach_frame | apply State.when_frame | apply foldl_frame | apply foldl_fst_frame | apply foldl_snd_frame | intro _ | split | apply State.readSector_frame | apply State.peerAbort_frame | apply State.emit_frame | apply frameOpt_get (by assumption) | dsimp only)
  all_goals first | assumption | exact within_trans hW (within_of (by decide)) | exact within_group hW .linkRegs (by decide) rfl | exact within_group hW .memRegs (by decide) rfl | exact within_group hW .cchRegs (by decide) rfl

theorem State.peerUnsupported_frame {W : Nat} {s₀ s : State} (hs : Frame W s₀ s) (f offset : Nat) (hW : within 201326596 W) :
    Frame W s₀ (State.peerUnsupported s f offset) := by
  unfold State.peerUnsupported
  try dsimp only
  repeat' with_reducible (first | assumption | apply frameRes_next | apply frameOpt_none | apply frameOpt_some | apply State.forEach_frame | apply State.when_frame | apply foldl_frame | apply foldl_fst_frame | apply foldl_snd_frame | intro _ | split | apply State.logAer_frame | apply State.raise_frame | apply frameOpt_get (by assumption) | dsimp only)
  all_goals first | assumption | exact within_trans hW (within_of (by decide)) | exact within_group hW .hifRegs (by decide) rfl

theorem execPeerRead_frame {W : Nat} {s₀ s : State} (hs : Frame W s₀ s) (f : Fin 4) (offset len : Nat) (hW : within 35185380819142 W) :
    FrameRes W s₀ (execPeerRead f offset len s) := by
  unfold execPeerRead
  try dsimp only
  repeat' with_reducible (first | assumption | apply frameRes_next | apply frameOpt_none | apply frameOpt_some | apply State.forEach_frame | apply State.when_frame | apply foldl_frame | apply foldl_fst_frame | apply foldl_snd_frame | intro _ | split | apply State.wakeLink_frame | apply State.logAer_frame | apply State.emit_frame | apply State.peerUnsupported_frame | apply State.peerAnswer_frame | apply frameOpt_get (by assumption) | apply Frame.set_pcie | dsimp only)
  all_goals first | assumption | exact within_trans hW (within_of (by decide)) | exact within_group hW .linkRegs (by decide) rfl | exact within_group hW .hifRegs (by decide) rfl | exact within_group hW .memRegs (by decide) rfl | exact within_group hW .cchRegs (by decide) rfl

theorem execPeerReadResume_frame {W : Nat} {s₀ s : State} (hs : Frame W s₀ s) (id : Nat) (hW : within 35185380819138 W) :
    FrameRes W s₀ (execPeerReadResume id s) := by
  unfold execPeerReadResume
  try dsimp only
  repeat' with_reducible (first | assumption | apply frameRes_next | apply frameOpt_none | apply frameOpt_some | apply State.forEach_frame | apply State.when_frame | apply foldl_frame | apply foldl_fst_frame | apply foldl_snd_frame | intro _ | split | apply State.peerAnswer_frame | apply frameOpt_get (by assumption) | apply Frame.set_pcie | dsimp only)
  all_goals first | assumption | exact within_trans hW (within_of (by decide)) | exact within_group hW .linkRegs (by decide) rfl | exact within_group hW .memRegs (by decide) rfl | exact within_group hW .cchRegs (by decide) rfl

theorem execPeerReadTimeout_frame {W : Nat} {s₀ s : State} (hs : Frame W s₀ s) (id : Nat) (hW : within 35184575512706 W) :
    FrameRes W s₀ (execPeerReadTimeout id s) := by
  unfold execPeerReadTimeout
  try dsimp only
  repeat' with_reducible (first | assumption | apply frameRes_next | apply frameOpt_none | apply frameOpt_some | apply State.forEach_frame | apply State.when_frame | apply foldl_frame | apply foldl_fst_frame | apply foldl_snd_frame | intro _ | split | apply State.peerAbort_frame | apply frameOpt_get (by assumption) | apply Frame.set_pcie | dsimp only)
  all_goals first | assumption | exact within_trans hW (within_of (by decide)) | exact within_group hW .linkRegs (by decide) rfl | exact within_group hW .cchRegs (by decide) rfl

theorem execBar2Write_frame {W : Nat} {s₀ s : State} (hs : Frame W s₀ s) (f : Fin 4) (offset : Nat) (hW : within 35184573415430 W) :
    FrameRes W s₀ (execBar2Write f offset s) := by
  unfold execBar2Write
  try dsimp only
  repeat' with_reducible (first | assumption | apply frameRes_next | apply frameOpt_none | apply frameOpt_some | apply State.forEach_frame | apply State.when_frame | apply foldl_frame | apply foldl_fst_frame | apply foldl_snd_frame | intro _ | split | apply State.wakeLink_frame | apply State.peerUnsupported_frame | apply State.logAer_frame | apply frameOpt_get (by assumption) | dsimp only)
  all_goals first | assumption | exact within_trans hW (within_of (by decide)) | exact within_group hW .linkRegs (by decide) rfl | exact within_group hW .hifRegs (by decide) rfl

theorem execWindowCommit_frame {W : Nat} {s₀ s : State} (hs : Frame W s₀ s) (f : Fin 4) (hW : within 134217736 W) :
    FrameRes W s₀ (execWindowCommit f s) := by
  unfold execWindowCommit
  try dsimp only
  repeat' with_reducible (first | assumption | apply frameRes_next | apply frameOpt_none | apply frameOpt_some | apply State.forEach_frame | apply State.when_frame | apply foldl_frame | apply foldl_fst_frame | apply foldl_snd_frame | intro _ | split | apply State.put_frame | apply frameOpt_get (by assumption) | apply Frame.set_pcie | dsimp only)
  all_goals first | assumption | exact within_trans hW (within_of (by decide)) | exact within_group hW .winRegs (by decide) rfl

theorem execWindowCommitApply_frame {W : Nat} {s₀ s : State} (hs : Frame W s₀ s) (f : Fin 4) (hW : within 134217736 W) :
    FrameRes W s₀ (execWindowCommitApply f s) := by
  unfold execWindowCommitApply
  try dsimp only
  repeat' with_reducible (first | assumption | apply frameRes_next | apply frameOpt_none | apply frameOpt_some | apply State.forEach_frame | apply State.when_frame | apply foldl_frame | apply foldl_fst_frame | apply foldl_snd_frame | intro _ | split | apply State.put_frame | apply frameOpt_get (by assumption) | apply Frame.set_pcie | dsimp only)
  all_goals first | assumption | exact within_trans hW (within_of (by decide)) | exact within_group hW .winRegs (by decide) rfl

theorem State.unmaskAll_frame {W : Nat} {s₀ s : State} (hs : Frame W s₀ s) (f : Nat) (hW : within 35184573415426 W) :
    Frame W s₀ (State.unmaskAll s f) := by
  unfold State.unmaskAll
  try dsimp only
  repeat' with_reducible (first | assumption | apply frameRes_next | apply frameOpt_none | apply frameOpt_some | apply State.forEach_frame | apply State.when_frame | apply foldl_frame | apply foldl_fst_frame | apply foldl_snd_frame | intro _ | split | apply State.setPendingBit_frame | apply State.sendMessage_frame | apply frameOpt_get (by assumption) | dsimp only)
  all_goals first | assumption | exact within_trans hW (within_of (by decide)) | exact within_group hW .linkRegs (by decide) rfl

theorem execConfigurationRequest_frame {W : Nat} {s₀ s : State} (hs : Frame W s₀ s) (f : Fin 4) (field : CfgField) (write : Option Nat) (hW : within 35184573415426 W) :
    FrameRes W s₀ (execConfigurationRequest f field write s) := by
  unfold execConfigurationRequest
  try dsimp only
  repeat' with_reducible (first | assumption | apply frameRes_next | apply frameOpt_none | apply frameOpt_some | apply State.forEach_frame | apply State.when_frame | apply foldl_frame | apply foldl_fst_frame | apply foldl_snd_frame | intro _ | split | apply State.wakeLink_frame | apply State.emit_frame | apply State.setCfg_frame | apply State.unmaskAll_frame | apply frameOpt_get (by assumption) | dsimp only)
  all_goals first | assumption | exact within_trans hW (within_of (by decide)) | exact within_group hW .linkRegs (by decide) rfl

end Sys2Proof.Machine
end

