-- ==== Sys2Proof/Laws/FrameMbalar.lean ====
section
/-!
SUPPORT. What the operations and commands of Machine/Mbalar.lean leave as it was: all parts outside a mask.
-/
set_option Elab.async false
set_option linter.all false
namespace Sys2Proof.Machine
set_option maxRecDepth 2000

theorem execPortTrainingStart_frame {W : Nat} {s₀ s : State} (hs : Frame W s₀ s) (q : Fin 5) (hW : within 17592186044416 W) :
    FrameRes W s₀ (execPortTrainingStart q s) := by
  unfold execPortTrainingStart
  try dsimp only
  repeat' with_reducible (first | assumption | apply frameRes_next | apply frameOpt_none | apply frameOpt_some | apply State.forEach_frame | apply State.when_frame | apply foldl_frame | apply foldl_fst_frame | apply foldl_snd_frame | intro _ | split | apply State.modPort_frame | apply frameOpt_get (by assumption) | dsimp only)
  all_goals first | assumption | exact within_trans hW (within_of (by decide))

theorem State.endForwarded_frame {W : Nat} {s₀ s : State} (hs : Frame W s₀ s) (p : Fwd → Bool) (status : Nat) (hW : within 17593293340672 W) :
    Frame W s₀ (State.endForwarded s p status) := by
  unfold State.endForwarded
  try dsimp only
  repeat' with_reducible (first | assumption | apply frameRes_next | apply frameOpt_none | apply frameOpt_some | apply State.forEach_frame | apply State.when_frame | apply foldl_frame | apply foldl_fst_frame | apply foldl_snd_frame | intro _ | split | apply State.finish_frame | apply frameOpt_get (by assumption) | apply Frame.set_mbl | dsimp only)
  all_goals first | assumption | exact within_trans hW (within_of (by decide))

theorem State.loseSubtree_frame {W : Nat} {s₀ s : State} (hs : Frame W s₀ s) (q : Nat) (hW : within 17593293340672 W) :
    Frame W s₀ (State.loseSubtree s q) := by
  unfold State.loseSubtree
  try dsimp only
  repeat' with_reducible (first | assumption | apply frameRes_next | apply frameOpt_none | apply frameOpt_some | apply State.forEach_frame | apply State.when_frame | apply foldl_frame | apply foldl_fst_frame | apply foldl_snd_frame | intro _ | split | apply State.endForwarded_frame | apply frameOpt_get (by assumption) | apply Frame.set_mbl | dsimp only)
  all_goals first | assumption | exact within_trans hW (within_of (by decide))

theorem State.portDown_frame {W : Nat} {s₀ s : State} (hs : Frame W s₀ s) (q reason : Nat) (hW : within 17593360482304 W) :
    Frame W s₀ (State.portDown s q reason) := by
  unfold State.portDown
  try dsimp only
  repeat' with_reducible (first | assumption | apply frameRes_next | apply frameOpt_none | apply frameOpt_some | apply State.forEach_frame | apply State.when_frame | apply foldl_frame | apply foldl_fst_frame | apply foldl_snd_frame | intro _ | split | apply State.modPort_frame | apply State.put_frame | apply State.raise_frame | apply State.loseSubtree_frame | apply frameOpt_get (by assumption) | apply Frame.set_mbl | dsimp only)
  all_goals first | assumption | exact within_trans hW (within_of (by decide)) | exact within_group hW .mblRegs (by decide) rfl

theorem execPortDown_frame {W : Nat} {s₀ s : State} (hs : Frame W s₀ s) (q : Fin 5) (hW : within 17593360482304 W) :
    FrameRes W s₀ (execPortDown q s) := by
  unfold execPortDown
  try dsimp only
  repeat' with_reducible (first | assumption | apply frameRes_next | apply frameOpt_none | apply frameOpt_some | apply State.forEach_frame | apply State.when_frame | apply foldl_frame | apply foldl_fst_frame | apply foldl_snd_frame | intro _ | split | apply State.portDown_frame | apply frameOpt_get (by assumption) | dsimp only)
  all_goals first | assumption | exact within_trans hW (within_of (by decide)) | exact within_group hW .mblRegs (by decide) rfl

theorem State.fence_frame {W : Nat} {s₀ s : State} (hs : Frame W s₀ s) (q : Nat) (hW : within 17593293373440 W) :
    Frame W s₀ (State.fence s q) := by
  unfold State.fence
  try dsimp only
  repeat' with_reducible (first | assumption | apply frameRes_next | apply frameOpt_none | apply frameOpt_some | apply State.forEach_frame | apply State.when_frame | apply foldl_frame | apply foldl_fst_frame | apply foldl_snd_frame | intro _ | split | apply State.put_frame | apply State.loseSubtree_frame | apply frameOpt_get (by assumption) | dsimp only)
  all_goals first | assumption | exact within_trans hW (within_of (by decide)) | exact within_group hW .mblRegs (by decide) rfl

theorem State.checkLevel_frame {W : Nat} {s₀ s : State} (hs : Frame W s₀ s) (q : Nat) (hW : within 17593360482304 W) :
    Frame W s₀ (State.checkLevel s q) := by
  unfold State.checkLevel
  try dsimp only
  repeat' with_reducible (first | assumption | apply frameRes_next | apply frameOpt_none | apply frameOpt_some | apply State.forEach_frame | apply State.when_frame | apply foldl_frame | apply foldl_fst_frame | apply foldl_snd_frame | intro _ | split | apply State.fence_frame | apply State.post_frame | apply frameOpt_get (by assumption) | dsimp only)
  all_goals first | assumption | exact within_trans hW (within_of (by decide)) | exact within_group hW .mblRegs (by decide) rfl

theorem execPortUp_frame {W : Nat} {s₀ s : State} (hs : Frame W s₀ s) (q : Fin 5) (gen width : Nat) (partner4080 : Bool) (level : Fin 16) (clash : Bool) (hW : within 52777866788866 W) :
    FrameRes W s₀ (execPortUp q gen width partner4080 level clash s) := by
  unfold execPortUp
  try dsimp only
  repeat' with_reducible (first | assumption | apply frameRes_next | apply frameOpt_none | apply frameOpt_some | apply State.forEach_frame | apply State.when_frame | apply foldl_frame | apply foldl_fst_frame | apply foldl_snd_frame | intro _ | split | apply State.modPort_frame | apply State.put_frame | apply State.setFlag_frame | apply State.setPort_frame | apply State.emitAll_frame | apply State.raise_frame | apply State.checkLevel_frame | apply frameOpt_get (by assumption) | dsimp only)
  all_goals first | assumption | exact within_trans hW (within_of (by decide)) | exact within_group hW .linkRegs (by decide) rfl | exact within_group hW .mblRegs (by decide) rfl

theorem State.retrain_frame {W : Nat} {s₀ s : State} (hs : Frame W s₀ s) (q : Nat) (hW : within 17592186044416 W) :
    Frame W s₀ (State.retrain s q) := by
  unfold State.retrain
  try dsimp only
  repeat' with_reducible (first | assumption | apply frameRes_next | apply frameOpt_none | apply frameOpt_some | apply State.forEach_frame | apply State.when_frame | apply foldl_frame | apply foldl_fst_frame | apply foldl_snd_frame | intro _ | split | apply State.modPort_frame | apply frameOpt_get (by assumption) | dsimp only)
  all_goals first | assumption | exact within_trans hW (within_of (by decide))

theorem execPortRetrain_frame {W : Nat} {s₀ s : State} (hs : Frame W s₀ s) (q : Fin 5) (hW : within 17592186044416 W) :
    FrameRes W s₀ (execPortRetrain q s) := by
  unfold execPortRetrain
  try dsimp only
  repeat' with_reducible (first | assumption | apply frameRes_next | apply frameOpt_none | apply frameOpt_some | apply State.forEach_frame | apply State.when_frame | apply foldl_frame | apply foldl_fst_frame | apply foldl_snd_frame | intro _ | split | apply State.retrain_frame | apply frameOpt_get (by assumption) | dsimp only)
  all_goals first | assumption | exact within_trans hW (within_of (by decide))

theorem State.replayFrames_frame {W : Nat} {s₀ s : State} (hs : Frame W s₀ s) (q : Nat) (hW : within 52776759492610 W) :
    Frame W s₀ (State.replayFrames s q) := by
  unfold State.replayFrames
  try dsimp only
  repeat' with_reducible (first | assumption | apply frameRes_next | apply frameOpt_none | apply frameOpt_some | apply State.forEach_frame | apply State.when_frame | apply foldl_frame | apply foldl_fst_frame | apply foldl_snd_frame | intro _ | split | apply State.retrain_frame | apply State.raise_frame | apply State.setPort_frame | apply State.incSat_frame | apply State.emitAll_frame | apply frameOpt_get (by assumption) | dsimp only)
  all_goals first | assumption | exact within_trans hW (within_of (by decide)) | exact within_group hW .linkRegs (by decide) rfl | exact within_group hW .mblRegs (by decide) rfl

theorem execLinkReplayTimeout_frame {W : Nat} {s₀ s : State} (hs : Frame W s₀ s) (q : Fin 5) (hW : within 52776759492610 W) :
    FrameRes W s₀ (execLinkReplayTimeout q s) := by
  unfold execLinkReplayTimeout
  try dsimp only
  repeat' with_reducible (first | assumption | apply frameRes_next | apply frameOpt_none | apply frameOpt_some | apply State.forEach_frame | apply State.when_frame | apply foldl_frame | apply foldl_fst_frame | apply foldl_snd_frame | intro _ | split | apply State.replayFrames_frame | apply frameOpt_get (by assumption) | dsimp only)
  all_goals first | assumption | exact within_trans hW (within_of (by decide)) | exact within_group hW .linkRegs (by decide) rfl | exact within_group hW .mblRegs (by decide) rfl

theorem State.ackFrames_frame {W : Nat} {s₀ s : State} (hs : Frame W s₀ s) (q seq : Nat) (hW : within 17592186044416 W) :
    Frame W s₀ (State.ackFrames s q seq) := by
  unfold State.ackFrames
  try dsimp only
  repeat' with_reducible (first | assumption | apply frameRes_next | apply frameOpt_none | apply frameOpt_some | apply State.forEach_frame | apply State.when_frame | apply foldl_frame | apply foldl_fst_frame | apply foldl_snd_frame | intro _ | split | apply State.setPort_frame | apply frameOpt_get (by assumption) | dsimp only)
  all_goals first | assumption | exact within_trans hW (within_of (by decide))

theorem State.arrive_frame {W : Nat} {s₀ s : State} (hs : Frame W s₀ s) (q : Nat) (p : Packet) (hW : within 52776759492610 W) :
    Frame W s₀ (State.arrive s q p) := by
  unfold State.arrive
  try dsimp only
  repeat' with_reducible (first | assumption | apply frameRes_next | apply frameOpt_none | apply frameOpt_some | apply State.forEach_frame | apply State.when_frame | apply foldl_frame | apply foldl_fst_frame | apply foldl_snd_frame | intro _ | split | apply State.takeIn_frame | apply State.sendOn_frame | apply State.route_frame | apply frameOpt_get (by assumption) | dsimp only)
  all_goals first | assumption | exact within_trans hW (within_of (by decide)) | exact within_group hW .linkRegs (by decide) rfl | exact within_group hW .mblRegs (by decide) rfl

theorem execLinkFrame_frame {W : Nat} {s₀ s : State} (hs : Frame W s₀ s) (q : Fin 5) (ev : LinkEvent) (hW : within 52776759492610 W) :
    FrameRes W s₀ (execLinkFrame q ev s) := by
  unfold execLinkFrame
  try dsimp only
  repeat' with_reducible (first | assumption | apply frameRes_next | apply frameOpt_none | apply frameOpt_some | apply State.forEach_frame | apply State.when_frame | apply foldl_frame | apply foldl_fst_frame | apply foldl_snd_frame | intro _ | split | apply State.ackFrames_frame | apply State.setPort_frame | apply State.replayFrames_frame | apply State.emit_frame | apply State.count_frame | apply State.arrive_frame | apply State.modPort_frame | apply frameOpt_get (by assumption) | dsimp only)
  all_goals first | assumption | exact within_trans hW (within_of (by decide)) | exact within_group hW .linkRegs (by decide) rfl | exact within_group hW .mblRegs (by decide) rfl

theorem State.takeFirst_frame {W : Nat} {s₀ s t : State} {sel : Packet → Bool} {e : InPacket} (h : s.takeFirst sel = some (e, t))
    (hs : Frame W s₀ s) (hW : within 17592186044416 W := by first | assumption | exact within_trans (by assumption) (within_of (by decide))) : Frame W s₀ t := by
  unfold State.takeFirst at h
  split at h
  · cases h
  · dsimp only at h
    split at h
    · cases h
    · cases h
      exact Frame.set_mbl hs _ (within_trans hW (within_of (by decide)))

theorem execCmdPacket_frame {W : Nat} {s₀ s : State} (hs : Frame W s₀ s) (hW : within 62603411881666 W) :
    FrameRes W s₀ (execCmdPacket s) := by
  unfold execCmdPacket
  try dsimp only
  repeat' with_reducible (first | assumption | apply frameRes_next | apply frameOpt_none | apply frameOpt_some | apply State.forEach_frame | apply State.when_frame | apply foldl_frame | apply foldl_fst_frame | apply foldl_snd_frame | intro _ | split | apply State.takeFirst_frame (by assumption) | apply State.calibrate_frame | apply State.setCmd_frame | apply State.refuse_frame | apply State.modCmd_frame | apply frameOpt_get (by assumption) | apply Frame.set_rings | dsimp only)
  all_goals first | assumption | exact within_trans hW (within_of (by decide)) | exact within_group hW .linkRegs (by decide) rfl | exact within_group hW .memRegs (by decide) rfl | exact within_group hW .cchRegs (by decide) rfl | exact within_group hW .srvRegs (by decide) rfl | exact within_group hW .spnRegs (by decide) rfl | exact within_group hW .motRegs (by decide) rfl | exact within_group hW .rchRegs (by decide) rfl | exact within_group hW .recRegs (by decide) rfl | exact within_group hW .calRegs (by decide) rfl

theorem State.sendAnswerUp_frame {W : Nat} {s₀ s : State} (hs : Frame W s₀ s) (h tag fuel : Nat) (hW : within 52777866788866 W := by first | assumption | exact within_trans (by assumption) (within_of (by decide))) : Frame W s₀ (State.sendAnswerUp h tag fuel s) := by
  induction fuel generalizing s with
  | zero => exact hs
  | succ fuel ih =>
    unfold State.sendAnswerUp
    dsimp only
    repeat' with_reducible (first | assumption | split | apply ih | apply State.finish_frame | apply State.setCmd_frame | apply State.sendData_frame)
    all_goals first | assumption | exact within_trans hW (within_of (by decide)) | exact within_group hW .linkRegs (by decide) rfl | exact within_group hW .mblRegs (by decide) rfl

theorem execXferRdyPacket_frame {W : Nat} {s₀ s : State} (hs : Frame W s₀ s) (hW : within 52778137321538 W) :
    FrameRes W s₀ (execXferRdyPacket s) := by
  unfold execXferRdyPacket
  try dsimp only
  repeat' with_reducible (first | assumption | apply frameRes_next | apply frameOpt_none | apply frameOpt_some | apply State.forEach_frame | apply State.when_frame | apply foldl_frame | apply foldl_fst_frame | apply foldl_snd_frame | intro _ | split | apply State.takeFirst_frame (by assumption) | apply State.pumpDown_frame | apply State.sendAnswerUp_frame | apply frameOpt_get (by assumption) | apply Frame.set_mbl | dsimp only)
  all_goals first | assumption | exact within_trans hW (within_of (by decide)) | exact within_group hW .linkRegs (by decide) rfl | exact within_group hW .memRegs (by decide) rfl | exact within_group hW .mblRegs (by decide) rfl

theorem execDataPacket_frame {W : Nat} {s₀ s : State} (hs : Frame W s₀ s) (hW : within 54988434870466 W) :
    FrameRes W s₀ (execDataPacket s) := by
  unfold execDataPacket
  try dsimp only
  repeat' with_reducible (first | assumption | apply frameRes_next | apply frameOpt_none | apply frameOpt_some | apply State.forEach_frame | apply State.when_frame | apply foldl_frame | apply foldl_fst_frame | apply foldl_snd_frame | intro _ | split | apply State.takeFirst_frame (by assumption) | apply State.moveGrant_frame | apply State.emitAll_frame | apply State.grantUp_frame | apply State.gatherBytes_frame | apply State.downloadBytes_frame | apply frameOpt_get (by assumption) | apply Frame.set_mbl | dsimp only)
  all_goals first | assumption | exact within_trans hW (within_of (by decide)) | exact within_group hW .linkRegs (by decide) rfl | exact within_group hW .memRegs (by decide) rfl | exact within_group hW .cchRegs (by decide) rfl | exact within_group hW .rchRegs (by decide) rfl | exact within_group hW .mblRegs (by decide) rfl

theorem execRspPacket_frame {W : Nat} {s₀ s : State} (hs : Frame W s₀ s) (hW : within 62603411881666 W) :
    FrameRes W s₀ (execRspPacket s) := by
  unfold execRspPacket
  try dsimp only
  repeat' with_reducible (first | assumption | apply frameRes_next | apply frameOpt_none | apply frameOpt_some | apply State.forEach_frame | apply State.when_frame | apply foldl_frame | apply foldl_fst_frame | apply foldl_snd_frame | intro _ | split | apply State.takeFirst_frame (by assumption) | apply State.load_frame | apply State.setCmd_frame | apply State.finish_frame | apply frameOpt_get (by assumption) | apply Frame.set_mbl | dsimp only)
  all_goals first | assumption | exact within_trans hW (within_of (by decide)) | exact within_group hW .linkRegs (by decide) rfl | exact within_group hW .memRegs (by decide) rfl | exact within_group hW .cchRegs (by decide) rfl | exact within_group hW .srvRegs (by decide) rfl | exact within_group hW .spnRegs (by decide) rfl | exact within_group hW .motRegs (by decide) rfl | exact within_group hW .rchRegs (by decide) rfl | exact within_group hW .recRegs (by decide) rfl | exact within_group hW .calRegs (by decide) rfl

theorem execEvtPacket_frame {W : Nat} {s₀ s : State} (hs : Frame W s₀ s) (hW : within 54975782715410 W) :
    FrameRes W s₀ (execEvtPacket s) := by
  unfold execEvtPacket
  try dsimp only
  repeat' with_reducible (first | assumption | apply frameRes_next | apply frameOpt_none | apply frameOpt_some | apply State.forEach_frame | apply State.when_frame | apply foldl_frame | apply foldl_fst_frame | apply foldl_snd_frame | intro _ | split | apply State.takeFirst_frame (by assumption) | apply State.writeEvent_frame | apply State.stageEvent_frame | apply frameOpt_get (by assumption) | apply Frame.set_fw | dsimp only)
  all_goals first | assumption | exact within_trans hW (within_of (by decide)) | exact within_group hW .linkRegs (by decide) rfl | exact within_group hW .evtRegs (by decide) rfl

theorem execDiscard_frame {W : Nat} {s₀ s : State} (hs : Frame W s₀ s) (hW : within 19803928531136 W) :
    FrameRes W s₀ (execDiscard s) := by
  unfold execDiscard
  try dsimp only
  repeat' with_reducible (first | assumption | apply frameRes_next | apply frameOpt_none | apply frameOpt_some | apply State.forEach_frame | apply State.when_frame | apply foldl_frame | apply foldl_fst_frame | apply foldl_snd_frame | intro _ | split | apply State.takeFirst_frame (by assumption) | apply State.modCmd_frame | apply State.discardCmd_frame | apply frameOpt_get (by assumption) | apply Frame.set_mbl | dsimp only)
  all_goals first | assumption | exact within_trans hW (within_of (by decide)) | exact within_group hW .memRegs (by decide) rfl | exact within_group hW .cchRegs (by decide) rfl | exact within_group hW .rchRegs (by decide) rfl

theorem execOrphanTimeout_frame {W : Nat} {s₀ s : State} (hs : Frame W s₀ s) (hW : within 19803928531136 W) :
    FrameRes W s₀ (execOrphanTimeout s) := by
  unfold execOrphanTimeout
  try dsimp only
  repeat' with_reducible (first | assumption | apply frameRes_next | apply frameOpt_none | apply frameOpt_some | apply State.forEach_frame | apply State.when_frame | apply foldl_frame | apply foldl_fst_frame | apply foldl_snd_frame | intro _ | split | apply State.discardCmd_frame | apply frameOpt_get (by assumption) | apply Frame.set_mbl | dsimp only)
  all_goals first | assumption | exact within_trans hW (within_of (by decide)) | exact within_group hW .memRegs (by decide) rfl | exact within_group hW .cchRegs (by decide) rfl | exact within_group hW .rchRegs (by decide) rfl

theorem execGrantHold_frame {W : Nat} {s₀ s : State} (hs : Frame W s₀ s) (hW : within 17592186044416 W) :
    FrameRes W s₀ (execGrantHold s) := by
  unfold execGrantHold
  try dsimp only
  repeat' with_reducible (first | assumption | apply frameRes_next | apply frameOpt_none | apply frameOpt_some | apply State.forEach_frame | apply State.when_frame | apply foldl_frame | apply foldl_fst_frame | apply foldl_snd_frame | intro _ | split | apply State.takeFirst_frame (by assumption) | apply frameOpt_get (by assumption) | dsimp only)
  all_goals first | assumption | exact within_trans hW (within_of (by decide))

theorem execGrantHoldTimer_frame {W : Nat} {s₀ s : State} (hs : Frame W s₀ s) (tag : Nat) (hW : within 52776759492610 W) :
    FrameRes W s₀ (execGrantHoldTimer tag s) := by
  unfold execGrantHoldTimer
  try dsimp only
  repeat' with_reducible (first | assumption | apply frameRes_next | apply frameOpt_none | apply frameOpt_some | apply State.forEach_frame | apply State.when_frame | apply foldl_frame | apply foldl_fst_frame | apply foldl_snd_frame | intro _ | split | apply State.route_frame | apply frameOpt_get (by assumption) | dsimp only)
  all_goals first | assumption | exact within_trans hW (within_of (by decide)) | exact within_group hW .linkRegs (by decide) rfl | exact within_group hW .mblRegs (by decide) rfl

theorem execXferWindowExpiry_frame {W : Nat} {s₀ s : State} (hs : Frame W s₀ s) (tag : Nat) (hW : within 52789411614914 W) :
    FrameRes W s₀ (execXferWindowExpiry tag s) := by
  unfold execXferWindowExpiry
  try dsimp only
  repeat' with_reducible (first | assumption | apply frameRes_next | apply frameOpt_none | apply frameOpt_some | apply State.forEach_frame | apply State.when_frame | apply foldl_frame | apply foldl_fst_frame | apply foldl_snd_frame | intro _ | split | apply State.stopCmd_frame | apply State.raise_frame | apply frameOpt_get (by assumption) | apply Frame.set_mbl | dsimp only)
  all_goals first | assumption | exact within_trans hW (within_of (by decide)) | exact within_group hW .linkRegs (by decide) rfl | exact within_group hW .memRegs (by decide) rfl | exact within_group hW .cchRegs (by decide) rfl | exact within_group hW .rchRegs (by decide) rfl | exact within_group hW .mblRegs (by decide) rfl

theorem execTimeExchange_frame {W : Nat} {s₀ s : State} (hs : Frame W s₀ s) (q : Fin 5) (hW : within 52776759492610 W) :
    FrameRes W s₀ (execTimeExchange q s) := by
  unfold execTimeExchange
  try dsimp only
  repeat' with_reducible (first | assumption | apply frameRes_next | apply frameOpt_none | apply frameOpt_some | apply State.forEach_frame | apply State.when_frame | apply foldl_frame | apply foldl_fst_frame | apply foldl_snd_frame | intro _ | split | apply State.sendOn_frame | apply frameOpt_get (by assumption) | dsimp only)
  all_goals first | assumption | exact within_trans hW (within_of (by decide)) | exact within_group hW .linkRegs (by decide) rfl | exact within_group hW .mblRegs (by decide) rfl

theorem State.steer_frame {W : Nat} {s₀ s : State} (hs : Frame W s₀ s) (t1 t2 t3 t4 : Nat) (hW : within 17592196562944 W := by first | assumption | exact within_trans (by assumption) (within_of (by decide))) : Frame W s₀ (s.steer t1 t2 t3 t4) := by
  unfold State.steer
  extract_lets first sum half s₁ delay offset s₂ rate s₃ limit m s₄
  have h₂ : Frame W s₀ s₂ := State.sput_frame (State.sput_frame (State.takeFree_frame hs) _ _) _ _
  have h₃ : Frame W s₀ s₃ := State.sput_frame (State.takeFree_frame h₂) _ _
  have h₄ : Frame W s₀ s₄ := Frame.set_mbl h₃ _ (within_trans hW (within_of (by decide)))
  clear_value s₄ first offset
  split
  · exact Frame.set_ct h₄ _ (within_trans hW (within_of (by decide)))
  · split
    · exact Frame.set_mbl h₄ _ (within_trans hW (within_of (by decide)))
    · exact h₄

theorem execTimePacket_frame {W : Nat} {s₀ s : State} (hs : Frame W s₀ s) (hW : within 52776769978370 W) :
    FrameRes W s₀ (execTimePacket s) := by
  unfold execTimePacket
  try dsimp only
  repeat' with_reducible (first | assumption | apply frameRes_next | apply frameOpt_none | apply frameOpt_some | apply State.forEach_frame | apply State.when_frame | apply foldl_frame | apply foldl_fst_frame | apply foldl_snd_frame | intro _ | split | apply State.takeFirst_frame (by assumption) | apply State.modPort_frame | apply State.sendOn_frame | apply State.setPort_frame | apply State.steer_frame | apply frameOpt_get (by assumption) | dsimp only)
  all_goals first | assumption | exact within_trans hW (within_of (by decide)) | exact within_group hW .linkRegs (by decide) rfl | exact within_group hW .mblRegs (by decide) rfl

theorem execMblCtLocked_frame {W : Nat} {s₀ s : State} (hs : Frame W s₀ s) (hW : within 67141632 W) :
    FrameRes W s₀ (execMblCtLocked s) := by
  unfold execMblCtLocked
  try dsimp only
  repeat' with_reducible (first | assumption | apply frameRes_next | apply frameOpt_none | apply frameOpt_some | apply State.forEach_frame | apply State.when_frame | apply foldl_frame | apply foldl_fst_frame | apply foldl_snd_frame | intro _ | split | apply State.put_frame | apply State.raise_frame | apply frameOpt_get (by assumption) | dsimp only)
  all_goals first | assumption | exact within_trans hW (within_of (by decide)) | exact within_group hW .mblRegs (by decide) rfl

theorem execCtLoad_frame {W : Nat} {s₀ s : State} (hs : Frame W s₀ s) (value : Word) (hW : within 17592194465792 W := by first | assumption | exact within_trans (by assumption) (within_of (by decide))) : FrameRes W s₀ (execCtLoad value s) := by
  unfold execCtLoad
  dsimp only
  split
  · apply frameRes_next; exact hs
  · split
    · apply frameRes_next; exact State.put_frame hs _ _
    · rename_i h
      apply frameRes_next; exact Frame.set_ct_mbl hs _ _ (within_trans hW (within_of (by decide)))

theorem State.closeRange_frame {W : Nat} {s₀ s : State} (hs : Frame W s₀ s) (q lo next : Nat) (hW : within 32768 W := by first | assumption | exact within_trans (by assumption) (within_of (by decide))) :
    Frame W s₀ (State.closeRange s q lo next) := by
  unfold State.closeRange
  try dsimp only
  repeat' with_reducible (first | assumption | apply frameRes_next | apply frameOpt_none | apply frameOpt_some | apply State.forEach_frame | apply State.when_frame | apply foldl_frame | apply foldl_fst_frame | apply foldl_snd_frame | intro _ | split | apply State.put_frame | apply frameOpt_get (by assumption) | dsimp only)
  all_goals first | assumption | exact within_trans hW (within_of (by decide)) | exact within_group hW .mblRegs (by decide) rfl

theorem State.idShort_frame {W : Nat} {s₀ s : State} (hs : Frame W s₀ s) (q n : Nat) (hW : within 67141632 W := by first | assumption | exact within_trans (by assumption) (within_of (by decide))) :
    Frame W s₀ (State.idShort s q n) := by
  unfold State.idShort
  try dsimp only
  repeat' with_reducible (first | assumption | apply frameRes_next | apply frameOpt_none | apply frameOpt_some | apply State.forEach_frame | apply State.when_frame | apply foldl_frame | apply foldl_fst_frame | apply foldl_snd_frame | intro _ | split | apply State.raise_frame | apply frameOpt_get (by assumption) | dsimp only)
  all_goals first | assumption | exact within_trans hW (within_of (by decide)) | exact within_group hW .mblRegs (by decide) rfl

theorem State.assign_frame {W : Nat} {s₀ s : State} (hs : Frame W s₀ s) (r : EnumRun) (hW : within 52785349427202 W := by first | assumption | exact within_trans (by assumption) (within_of (by decide))) :
    Frame W s₀ (State.assign s r) := by
  unfold State.assign
  try dsimp only
  repeat' with_reducible (first | assumption | apply frameRes_next | apply frameOpt_none | apply frameOpt_some | apply State.forEach_frame | apply State.when_frame | apply foldl_frame | apply foldl_fst_frame | apply foldl_snd_frame | intro _ | split | apply State.reserve_frame | apply State.sendOn_frame | apply frameOpt_get (by assumption) | dsimp only)
  all_goals first | assumption | exact within_trans hW (within_of (by decide)) | exact within_group hW .linkRegs (by decide) rfl | exact within_group hW .mblRegs (by decide) rfl

theorem State.enumEnd_frame {W : Nat} {s₀ s : State} (hs : Frame W s₀ s) (r : EnumRun) (hW : within 52776759492610 W := by first | assumption | exact within_trans (by assumption) (within_of (by decide))) :
    Frame W s₀ (State.enumEnd s r) := by
  unfold State.enumEnd
  try dsimp only
  repeat' with_reducible (first | assumption | apply frameRes_next | apply frameOpt_none | apply frameOpt_some | apply State.forEach_frame | apply State.when_frame | apply foldl_frame | apply foldl_fst_frame | apply foldl_snd_frame | intro _ | split | apply State.put_frame | apply State.count_frame | apply State.post_frame | apply State.sendOn_frame | apply frameOpt_get (by assumption) | apply Frame.set_mbl | dsimp only)
  all_goals first | assumption | exact within_trans hW (within_of (by decide)) | exact within_group hW .linkRegs (by decide) rfl | exact within_group hW .mblRegs (by decide) rfl

theorem State.enumerate_frame {W : Nat} {s₀ s : State} (hs : Frame W s₀ s) (fuel : Nat) (r : EnumRun) (hW : within 52785349427202 W := by first | assumption | exact within_trans (by assumption) (within_of (by decide))) : Frame W s₀ (State.enumerate fuel s r) := by
  induction fuel generalizing s r with
  | zero => exact State.enumEnd_frame hs _
  | succ fuel ih =>
    unfold State.enumerate
    split
    · exact State.enumEnd_frame hs _
    · extract_lets q lo skip
      have hk : ∀ t x, Frame W s₀ t → Frame W s₀ (skip t x) := by
        intro t x ht
        dsimp only [skip]
        split
        · exact State.enumEnd_frame ht _
        · exact ih (State.closeRange_frame ht _ _ _) _
      clear_value skip
      split
      · exact hk _ _ hs
      · split
        · exact hk _ _ (State.idShort_frame hs _ _)
        · split
          · exact hk _ _ (State.modPort_frame (State.assign_frame hs _) _ _)
          · exact Frame.set_mbl (State.assign_frame hs _) _ (within_trans hW (within_of (by decide)))

theorem State.enumPort_frame {W : Nat} {s₀ s : State} (hs : Frame W s₀ s) (q n : Nat) (hW : within 52785349427202 W) :
    Frame W s₀ (State.enumPort s q n) := by
  unfold State.enumPort
  try dsimp only
  repeat' with_reducible (first | assumption | apply frameRes_next | apply frameOpt_none | apply frameOpt_some | apply State.forEach_frame | apply State.when_frame | apply foldl_frame | apply foldl_fst_frame | apply foldl_snd_frame | intro _ | split | apply State.modPort_frame | apply State.enumerate_frame | apply frameOpt_get (by assumption) | dsimp only)
  all_goals first | assumption | exact within_trans hW (within_of (by decide)) | exact within_group hW .linkRegs (by decide) rfl | exact within_group hW .mblRegs (by decide) rfl

theorem execEnumeration_frame {W : Nat} {s₀ s : State} (hs : Frame W s₀ s) (port : Option (Fin 5)) (n : Nat) (hW : within 52785349427202 W) :
    FrameRes W s₀ (execEnumeration port n s) := by
  unfold execEnumeration
  try dsimp only
  repeat' with_reducible (first | assumption | apply frameRes_next | apply frameOpt_none | apply frameOpt_some | apply State.forEach_frame | apply State.when_frame | apply foldl_frame | apply foldl_fst_frame | apply foldl_snd_frame | intro _ | split | apply State.put_frame | apply State.enumerate_frame | apply State.enumPort_frame | apply frameOpt_get (by assumption) | dsimp only)
  all_goals first | assumption | exact within_trans hW (within_of (by decide)) | exact within_group hW .linkRegs (by decide) rfl | exact within_group hW .mblRegs (by decide) rfl

theorem execEnumAssign_frame {W : Nat} {s₀ s : State} (hs : Frame W s₀ s) (hW : within 52785349427202 W) :
    FrameRes W s₀ (execEnumAssign s) := by
  unfold execEnumAssign
  try dsimp only
  repeat' with_reducible (first | assumption | apply frameRes_next | apply frameOpt_none | apply frameOpt_some | apply State.forEach_frame | apply State.when_frame | apply foldl_frame | apply foldl_fst_frame | apply foldl_snd_frame | intro _ | split | apply State.takeFirst_frame (by assumption) | apply State.put_frame | apply State.enumerate_frame | apply frameOpt_get (by assumption) | apply Frame.set_mbl | dsimp only)
  all_goals first | assumption | exact within_trans hW (within_of (by decide)) | exact within_group hW .linkRegs (by decide) rfl | exact within_group hW .mblRegs (by decide) rfl

theorem execEnumReport_frame {W : Nat} {s₀ s : State} (hs : Frame W s₀ s) (hW : within 52785349427202 W) :
    FrameRes W s₀ (execEnumReport s) := by
  unfold execEnumReport
  try dsimp only
  repeat' with_reducible (first | assumption | apply frameRes_next | apply frameOpt_none | apply frameOpt_some | apply State.forEach_frame | apply State.when_frame | apply foldl_frame | apply foldl_fst_frame | apply foldl_snd_frame | intro _ | split | apply State.takeFirst_frame (by assumption) | apply State.enumerate_frame | apply State.modPort_frame | apply State.count_frame | apply State.enumEnd_frame | apply State.closeRange_frame | apply State.reserve_frame | apply frameOpt_get (by assumption) | apply Frame.set_mbl | dsimp only)
  all_goals first | assumption | exact within_trans hW (within_of (by decide)) | exact within_group hW .linkRegs (by decide) rfl | exact within_group hW .mblRegs (by decide) rfl

theorem execHeartbeatSend_frame {W : Nat} {s₀ s : State} (hs : Frame W s₀ s) (hW : within 52776759492610 W) :
    FrameRes W s₀ (execHeartbeatSend s) := by
  unfold execHeartbeatSend
  try dsimp only
  repeat' with_reducible (first | assumption | apply frameRes_next | apply frameOpt_none | apply frameOpt_some | apply State.forEach_frame | apply State.when_frame | apply foldl_frame | apply foldl_fst_frame | apply foldl_snd_frame | intro _ | split | apply State.sendOn_frame | apply State.modPort_frame | apply frameOpt_get (by assumption) | dsimp only)
  all_goals first | assumption | exact within_trans hW (within_of (by decide)) | exact within_group hW .linkRegs (by decide) rfl | exact within_group hW .mblRegs (by decide) rfl

theorem execHeartbeat_frame {W : Nat} {s₀ s : State} (hs : Frame W s₀ s) (hW : within 17593360482304 W) :
    FrameRes W s₀ (execHeartbeat s) := by
  unfold execHeartbeat
  try dsimp only
  repeat' with_reducible (first | assumption | apply frameRes_next | apply frameOpt_none | apply frameOpt_some | apply State.forEach_frame | apply State.when_frame | apply foldl_frame | apply foldl_fst_frame | apply foldl_snd_frame | intro _ | split | apply State.takeFirst_frame (by assumption) | apply State.modPort_frame | apply State.checkLevel_frame | apply frameOpt_get (by assumption) | dsimp only)
  all_goals first | assumption | exact within_trans hW (within_of (by decide)) | exact within_group hW .mblRegs (by decide) rfl

theorem execHeartbeatLoss_frame {W : Nat} {s₀ s : State} (hs : Frame W s₀ s) (q : Fin 5) (hW : within 17593360482304 W) :
    FrameRes W s₀ (execHeartbeatLoss q s) := by
  unfold execHeartbeatLoss
  try dsimp only
  repeat' with_reducible (first | assumption | apply frameRes_next | apply frameOpt_none | apply frameOpt_some | apply State.forEach_frame | apply State.when_frame | apply foldl_frame | apply foldl_fst_frame | apply foldl_snd_frame | intro _ | split | apply State.fence_frame | apply State.post_frame | apply frameOpt_get (by assumption) | dsimp only)
  all_goals first | assumption | exact within_trans hW (within_of (by decide)) | exact within_group hW .mblRegs (by decide) rfl

theorem execFenceClr_frame {W : Nat} {s₀ s : State} (hs : Frame W s₀ s) (q : Fin 5) (hW : within 52785349427202 W) :
    FrameRes W s₀ (execFenceClr q s) := by
  unfold execFenceClr
  try dsimp only
  repeat' with_reducible (first | assumption | apply frameRes_next | apply frameOpt_none | apply frameOpt_some | apply State.forEach_frame | apply State.when_frame | apply foldl_frame | apply foldl_fst_frame | apply foldl_snd_frame | intro _ | split | apply State.put_frame | apply State.modPort_frame | apply State.enumPort_frame | apply State.count_frame | apply frameOpt_get (by assumption) | dsimp only)
  all_goals first | assumption | exact within_trans hW (within_of (by decide)) | exact within_group hW .linkRegs (by decide) rfl | exact within_group hW .mblRegs (by decide) rfl

end Sys2Proof.Machine
end

