-- ==== Sys2Proof/Laws/FrameProcs.lean ====
section
/-!
SUPPORT. What the operations and commands of Machine/Procs.lean leave as it was: all parts outside a mask.
-/
set_option Elab.async false
set_option linter.all false
namespace Sys2Proof.Machine
set_option maxRecDepth 2000

theorem State.setCode_frame {W : Nat} {s₀ s : State} (hs : Frame W s₀ s) (p slot : Nat) (hW : within 131072 W := by first | assumption | exact within_trans (by assumption) (within_of (by decide))) :
    Frame W s₀ (State.setCode s p slot) := by
  unfold State.setCode
  try dsimp only
  repeat' with_reducible (first | assumption | apply frameRes_next | apply frameOpt_none | apply frameOpt_some | apply State.forEach_frame | apply State.when_frame | apply foldl_frame | apply foldl_fst_frame | apply foldl_snd_frame | intro _ | split | apply State.put_frame | apply frameOpt_get (by assumption) | dsimp only)
  all_goals first | assumption | exact within_trans hW (within_of (by decide)) | exact within_group hW .fwuRegs (by decide) rfl

theorem State.setLeft_frame {W : Nat} {s₀ s : State} (hs : Frame W s₀ s) (p : Nat) (on : Bool) (hW : within 131072 W) :
    Frame W s₀ (State.setLeft s p on) := by
  unfold State.setLeft
  try dsimp only
  repeat' with_reducible (first | assumption | apply frameRes_next | apply frameOpt_none | apply frameOpt_some | apply State.forEach_frame | apply State.when_frame | apply foldl_frame | apply foldl_fst_frame | apply foldl_snd_frame | intro _ | split | apply State.put_frame | apply frameOpt_get (by assumption) | dsimp only)
  all_goals first | assumption | exact within_trans hW (within_of (by decide)) | exact within_group hW .fwuRegs (by decide) rfl

theorem State.showVersions_frame {W : Nat} {s₀ s : State} (hs : Frame W s₀ s) (hW : within 131072 W) :
    Frame W s₀ (State.showVersions s) := by
  unfold State.showVersions
  try dsimp only
  repeat' with_reducible (first | assumption | apply frameRes_next | apply frameOpt_none | apply frameOpt_some | apply State.forEach_frame | apply State.when_frame | apply foldl_frame | apply foldl_fst_frame | apply foldl_snd_frame | intro _ | split | apply State.put_frame | apply frameOpt_get (by assumption) | dsimp only)
  all_goals first | assumption | exact within_trans hW (within_of (by decide)) | exact within_group hW .fwuRegs (by decide) rfl

theorem State.startProcs_frame {W : Nat} {s₀ s : State} (hs : Frame W s₀ s) (st : Nat) (hW : within 131072 W) :
    Frame W s₀ (State.startProcs s st) := by
  unfold State.startProcs
  try dsimp only
  repeat' with_reducible (first | assumption | apply frameRes_next | apply frameOpt_none | apply frameOpt_some | apply State.forEach_frame | apply State.when_frame | apply foldl_frame | apply foldl_fst_frame | apply foldl_snd_frame | intro _ | split | apply State.setCode_frame | apply State.setLeft_frame | apply State.showVersions_frame | apply frameOpt_get (by assumption) | dsimp only)
  all_goals first | assumption | exact within_trans hW (within_of (by decide)) | exact within_group hW .fwuRegs (by decide) rfl

theorem State.stopAny_frame {W : Nat} {s₀ s : State} (hs : Frame W s₀ s) (h status : Nat) (hW : within 45011225837250 W) :
    Frame W s₀ (State.stopAny s h status) := by
  unfold State.stopAny
  try dsimp only
  repeat' with_reducible (first | assumption | apply frameRes_next | apply frameOpt_none | apply frameOpt_some | apply State.forEach_frame | apply State.when_frame | apply foldl_frame | apply foldl_fst_frame | apply foldl_snd_frame | intro _ | split | apply State.stopCmd_frame | apply State.abortMove_frame | apply State.load_frame | apply State.failLoad_frame | apply State.unload_frame | apply State.failUnload_frame | apply State.calibrate_frame | apply State.abortCal_frame | apply State.endCmd_frame | apply frameOpt_get (by assumption) | dsimp only)
  all_goals first | assumption | exact within_trans hW (within_of (by decide)) | exact within_group hW .linkRegs (by decide) rfl | exact within_group hW .memRegs (by decide) rfl | exact within_group hW .cchRegs (by decide) rfl | exact within_group hW .srvRegs (by decide) rfl | exact within_group hW .spnRegs (by decide) rfl | exact within_group hW .motRegs (by decide) rfl | exact within_group hW .rchRegs (by decide) rfl | exact within_group hW .recRegs (by decide) rfl | exact within_group hW .calRegs (by decide) rfl

theorem State.dropFilling_frame {W : Nat} {s₀ s : State} (hs : Frame W s₀ s) (st : Nat) (hW : within 2751467648 W) :
    Frame W s₀ (State.dropFilling s st) := by
  unfold State.dropFilling
  try dsimp only
  repeat' with_reducible (first | assumption | apply frameRes_next | apply frameOpt_none | apply frameOpt_some | apply State.forEach_frame | apply State.when_frame | apply foldl_frame | apply foldl_fst_frame | apply foldl_snd_frame | intro _ | split | apply State.freeEntry_frame | apply State.discardWork_frame | apply frameOpt_get (by assumption) | dsimp only)
  all_goals first | assumption | exact within_trans hW (within_of (by decide)) | exact within_group hW .cchRegs (by decide) rfl | exact within_group hW .rchRegs (by decide) rfl

theorem State.stationReset_frame {W : Nat} {s₀ s : State} (hs : Frame W s₀ s) (st : Nat) (hW : within 47210249354946 W := by first | assumption | exact within_trans (by assumption) (within_of (by decide))) :
    Frame W s₀ (State.stationReset s st) := by
  unfold State.stationReset
  try dsimp only
  repeat' with_reducible (first | assumption | apply frameRes_next | apply frameOpt_none | apply frameOpt_some | apply State.forEach_frame | apply State.when_frame | apply foldl_frame | apply foldl_fst_frame | apply foldl_snd_frame | intro _ | split | apply State.unload_frame | apply State.stopAny_frame | apply State.stopAtBoundary_frame | apply State.abortCal_frame | apply State.dropFilling_frame | apply State.put_frame | apply frameOpt_get (by assumption) | apply Frame.set_fw | dsimp only)
  all_goals first | assumption | exact within_trans hW (within_of (by decide)) | exact within_group hW .linkRegs (by decide) rfl | exact within_group hW .memRegs (by decide) rfl | exact within_group hW .cchRegs (by decide) rfl | exact within_group hW .srvRegs (by decide) rfl | exact within_group hW .spnRegs (by decide) rfl | exact within_group hW .motRegs (by decide) rfl | exact within_group hW .rchRegs (by decide) rfl | exact within_group hW .recRegs (by decide) rfl | exact within_group hW .calRegs (by decide) rfl | exact within_group hW .sysRegs (by decide) rfl

theorem execStationReset_frame {W : Nat} {s₀ s : State} (hs : Frame W s₀ s) (st : Fin 8) (hW : within 47210249354946 W) :
    FrameRes W s₀ (execStationReset st s) := by
  unfold execStationReset
  try dsimp only
  repeat' with_reducible (first | assumption | apply frameRes_next | apply frameOpt_none | apply frameOpt_some | apply State.forEach_frame | apply State.when_frame | apply foldl_frame | apply foldl_fst_frame | apply foldl_snd_frame | intro _ | split | apply State.stationReset_frame | apply frameOpt_get (by assumption) | dsimp only)
  all_goals first | assumption | exact within_trans hW (within_of (by decide)) | exact within_group hW .linkRegs (by decide) rfl | exact within_group hW .memRegs (by decide) rfl | exact within_group hW .cchRegs (by decide) rfl | exact within_group hW .srvRegs (by decide) rfl | exact within_group hW .spnRegs (by decide) rfl | exact within_group hW .motRegs (by decide) rfl | exact within_group hW .rchRegs (by decide) rfl | exact within_group hW .recRegs (by decide) rfl | exact within_group hW .calRegs (by decide) rfl | exact within_group hW .sysRegs (by decide) rfl

theorem State.bringBack_frame {W : Nat} {s₀ s : State} (hs : Frame W s₀ s) (n : Nat) (hW : within 328632113664 W) :
    Frame W s₀ (State.bringBack s n) := by
  unfold State.bringBack
  try dsimp only
  repeat' with_reducible (first | assumption | apply frameRes_next | apply frameOpt_none | apply frameOpt_some | apply State.forEach_frame | apply State.when_frame | apply foldl_frame | apply foldl_fst_frame | apply foldl_snd_frame | intro _ | split | apply State.enter_frame | apply State.backToConfirmed_frame | apply frameOpt_get (by assumption) | dsimp only)
  all_goals first | assumption | exact within_trans hW (within_of (by decide)) | exact within_group hW .srvRegs (by decide) rfl | exact within_group hW .motRegs (by decide) rfl | exact within_group hW .rchRegs (by decide) rfl

theorem execResetDone_frame {W : Nat} {s₀ s : State} (hs : Frame W s₀ s) (st : Fin 8) (hW : within 47210249354946 W) :
    FrameRes W s₀ (execResetDone st s) := by
  unfold execResetDone
  try dsimp only
  repeat' with_reducible (first | assumption | apply frameRes_next | apply frameOpt_none | apply frameOpt_some | apply State.forEach_frame | apply State.when_frame | apply foldl_frame | apply foldl_fst_frame | apply foldl_snd_frame | intro _ | split | apply State.unload_frame | apply State.bringBack_frame | apply State.put_frame | apply State.post_frame | apply frameOpt_get (by assumption) | apply Frame.set_fw | dsimp only)
  all_goals first | assumption | exact within_trans hW (within_of (by decide)) | exact within_group hW .linkRegs (by decide) rfl | exact within_group hW .memRegs (by decide) rfl | exact within_group hW .cchRegs (by decide) rfl | exact within_group hW .srvRegs (by decide) rfl | exact within_group hW .spnRegs (by decide) rfl | exact within_group hW .motRegs (by decide) rfl | exact within_group hW .rchRegs (by decide) rfl | exact within_group hW .recRegs (by decide) rfl | exact within_group hW .calRegs (by decide) rfl | exact within_group hW .sysRegs (by decide) rfl

end Sys2Proof.Machine
end

