-- ==== Sys2Proof/Laws/FrameSlots.lean ====
section
/-!
SUPPORT. What the operations and commands of Machine/Slots.lean leave as it was: all parts outside a mask.
-/
set_option Elab.async false
set_option linter.all false
namespace Sys2Proof.Machine
set_option maxRecDepth 2000

theorem State.toSlot_frame {W : Nat} {s₀ s : State} (hs : Frame W s₀ s) (k v : Nat) (hW : within 65536 W) :
    Frame W s₀ (State.toSlot s k v) := by
  unfold State.toSlot
  try dsimp only
  repeat' with_reducible (first | assumption | apply frameRes_next | apply frameOpt_none | apply frameOpt_some | apply State.forEach_frame | apply State.when_frame | apply foldl_frame | apply foldl_fst_frame | apply foldl_snd_frame | intro _ | split | apply State.put_frame | apply State.setFlag_frame | apply frameOpt_get (by assumption) | dsimp only)
  all_goals first | assumption | exact within_trans hW (within_of (by decide)) | exact within_group hW .hpcRegs (by decide) rfl

theorem State.setPresent_frame {W : Nat} {s₀ s : State} (hs : Frame W s₀ s) (k : Nat) (on : Bool) (hW : within 65536 W) :
    Frame W s₀ (State.setPresent s k on) := by
  unfold State.setPresent
  try dsimp only
  repeat' with_reducible (first | assumption | apply frameRes_next | apply frameOpt_none | apply frameOpt_some | apply State.forEach_frame | apply State.when_frame | apply foldl_frame | apply foldl_fst_frame | apply foldl_snd_frame | intro _ | split | apply State.setFlag_frame | apply State.put_frame | apply frameOpt_get (by assumption) | dsimp only)
  all_goals first | assumption | exact within_trans hW (within_of (by decide)) | exact within_group hW .hpcRegs (by decide) rfl

theorem State.powerUp_frame {W : Nat} {s₀ s : State} (hs : Frame W s₀ s) (k : Nat) (hW : within 65536 W) :
    Frame W s₀ (State.powerUp s k) := by
  unfold State.powerUp
  try dsimp only
  repeat' with_reducible (first | assumption | apply frameRes_next | apply frameOpt_none | apply frameOpt_some | apply State.forEach_frame | apply State.when_frame | apply foldl_frame | apply foldl_fst_frame | apply foldl_snd_frame | intro _ | split | apply State.toSlot_frame | apply State.put_frame | apply frameOpt_get (by assumption) | dsimp only)
  all_goals first | assumption | exact within_trans hW (within_of (by decide)) | exact within_group hW .hpcRegs (by decide) rfl

theorem State.darken_frame {W : Nat} {s₀ s : State} (hs : Frame W s₀ s) (st : Nat) (hW : within 534790544896 W) :
    Frame W s₀ (State.darken s st) := by
  unfold State.darken
  try dsimp only
  repeat' with_reducible (first | assumption | apply frameRes_next | apply frameOpt_none | apply frameOpt_some | apply State.forEach_frame | apply State.when_frame | apply foldl_frame | apply foldl_fst_frame | apply foldl_snd_frame | intro _ | split | apply State.holdLanes_frame | apply State.setMode_frame | apply State.put_frame | apply State.setPickup_frame | apply State.setLp_frame | apply State.setMotor_frame | apply State.showMotor_frame | apply State.spnEnter_frame | apply State.setSpindle_frame | apply frameOpt_get (by assumption) | dsimp only)
  all_goals first | assumption | exact within_trans hW (within_of (by decide)) | exact within_group hW .srvRegs (by decide) rfl | exact within_group hW .spnRegs (by decide) rfl | exact within_group hW .motRegs (by decide) rfl | exact within_group hW .rchRegs (by decide) rfl

theorem State.emptyQueue_frame {W : Nat} {s₀ s : State} (hs : Frame W s₀ s) (st : Nat) (hW : within 45011225837250 W) :
    Frame W s₀ (State.emptyQueue s st) := by
  unfold State.emptyQueue
  try dsimp only
  repeat' with_reducible (first | assumption | apply frameRes_next | apply frameOpt_none | apply frameOpt_some | apply State.forEach_frame | apply State.when_frame | apply foldl_frame | apply foldl_fst_frame | apply foldl_snd_frame | intro _ | split | apply State.abortCal_frame | apply State.stopAny_frame | apply frameOpt_get (by assumption) | dsimp only)
  all_goals first | assumption | exact within_trans hW (within_of (by decide)) | exact within_group hW .linkRegs (by decide) rfl | exact within_group hW .memRegs (by decide) rfl | exact within_group hW .cchRegs (by decide) rfl | exact within_group hW .srvRegs (by decide) rfl | exact within_group hW .spnRegs (by decide) rfl | exact within_group hW .motRegs (by decide) rfl | exact within_group hW .rchRegs (by decide) rfl | exact within_group hW .recRegs (by decide) rfl | exact within_group hW .calRegs (by decide) rfl

theorem State.forgetStation_frame {W : Nat} {s₀ s : State} (hs : Frame W s₀ s) (st : Nat) (hW : within 11046219968640 W) :
    Frame W s₀ (State.forgetStation s st) := by
  unfold State.forgetStation
  try dsimp only
  repeat' with_reducible (first | assumption | apply frameRes_next | apply frameOpt_none | apply frameOpt_some | apply State.forEach_frame | apply State.when_frame | apply foldl_frame | apply foldl_fst_frame | apply foldl_snd_frame | intro _ | split | apply State.freeEntry_frame | apply State.put_frame | apply State.forgetDisc_frame | apply State.showCal_frame | apply State.setStation_frame | apply frameOpt_get (by assumption) | apply Frame.set_rings_cipher_recording_fw_calib | dsimp only)
  all_goals first | assumption | exact within_trans hW (within_of (by decide)) | exact within_group hW .cchRegs (by decide) rfl | exact within_group hW .rchRegs (by decide) rfl | exact within_group hW .recRegs (by decide) rfl | exact within_group hW .calRegs (by decide) rfl | exact within_group hW .sysRegs (by decide) rfl

theorem State.stationGone_frame {W : Nat} {s₀ s : State} (hs : Frame W s₀ s) (st cause : Nat) (hW : within 47278968831682 W) :
    Frame W s₀ (State.stationGone s st cause) := by
  unfold State.stationGone
  try dsimp only
  repeat' with_reducible (first | assumption | apply frameRes_next | apply frameOpt_none | apply frameOpt_some | apply State.forEach_frame | apply State.when_frame | apply foldl_frame | apply foldl_fst_frame | apply foldl_snd_frame | intro _ | split | apply State.emptyQueue_frame | apply State.breakRun_frame | apply State.darken_frame | apply State.forgetStation_frame | apply State.post_frame | apply frameOpt_get (by assumption) | dsimp only)
  all_goals first | assumption | exact within_trans hW (within_of (by decide)) | exact within_group hW .linkRegs (by decide) rfl | exact within_group hW .memRegs (by decide) rfl | exact within_group hW .cchRegs (by decide) rfl | exact within_group hW .srvRegs (by decide) rfl | exact within_group hW .spnRegs (by decide) rfl | exact within_group hW .motRegs (by decide) rfl | exact within_group hW .rchRegs (by decide) rfl | exact within_group hW .recRegs (by decide) rfl | exact within_group hW .calRegs (by decide) rfl | exact within_group hW .sysRegs (by decide) rfl

theorem State.slotLoss_frame {W : Nat} {s₀ s : State} (hs : Frame W s₀ s) (k old cause : Nat) (hW : within 64871154908866 W) :
    Frame W s₀ (State.slotLoss s k old cause) := by
  unfold State.slotLoss
  try dsimp only
  repeat' with_reducible (first | assumption | apply frameRes_next | apply frameOpt_none | apply frameOpt_some | apply State.forEach_frame | apply State.when_frame | apply foldl_frame | apply foldl_fst_frame | apply foldl_snd_frame | intro _ | split | apply State.portDown_frame | apply State.darken_frame | apply State.setStation_frame | apply State.stationGone_frame | apply frameOpt_get (by assumption) | dsimp only)
  all_goals first | assumption | exact within_trans hW (within_of (by decide)) | exact within_group hW .linkRegs (by decide) rfl | exact within_group hW .memRegs (by decide) rfl | exact within_group hW .cchRegs (by decide) rfl | exact within_group hW .srvRegs (by decide) rfl | exact within_group hW .spnRegs (by decide) rfl | exact within_group hW .motRegs (by decide) rfl | exact within_group hW .rchRegs (by decide) rfl | exact within_group hW .recRegs (by decide) rfl | exact within_group hW .calRegs (by decide) rfl | exact within_group hW .mblRegs (by decide) rfl | exact within_group hW .sysRegs (by decide) rfl

theorem State.drainStep_frame {W : Nat} {s₀ s : State} (hs : Frame W s₀ s) (k : Nat) (hW : within 64871154974402 W) :
    Frame W s₀ (State.drainStep s k) := by
  unfold State.drainStep
  try dsimp only
  repeat' with_reducible (first | assumption | apply frameRes_next | apply frameOpt_none | apply frameOpt_some | apply State.forEach_frame | apply State.when_frame | apply foldl_frame | apply foldl_fst_frame | apply foldl_snd_frame | intro _ | split | apply State.toSlot_frame | apply State.portDown_frame | apply State.post_frame | apply State.closePartials_frame | apply State.discAway_frame | apply State.restStation_frame | apply State.stationGone_frame | apply frameOpt_get (by assumption) | dsimp only)
  all_goals first | assumption | exact within_trans hW (within_of (by decide)) | exact within_group hW .linkRegs (by decide) rfl | exact within_group hW .memRegs (by decide) rfl | exact within_group hW .cchRegs (by decide) rfl | exact within_group hW .srvRegs (by decide) rfl | exact within_group hW .spnRegs (by decide) rfl | exact within_group hW .motRegs (by decide) rfl | exact within_group hW .rchRegs (by decide) rfl | exact within_group hW .recRegs (by decide) rfl | exact within_group hW .calRegs (by decide) rfl | exact within_group hW .mblRegs (by decide) rfl | exact within_group hW .hpcRegs (by decide) rfl | exact within_group hW .sysRegs (by decide) rfl

theorem State.startDrain_frame {W : Nat} {s₀ s : State} (hs : Frame W s₀ s) (k : Nat) (hW : within 64871154974402 W) :
    Frame W s₀ (State.startDrain s k) := by
  unfold State.startDrain
  try dsimp only
  repeat' with_reducible (first | assumption | apply frameRes_next | apply frameOpt_none | apply frameOpt_some | apply State.forEach_frame | apply State.when_frame | apply foldl_frame | apply foldl_fst_frame | apply foldl_snd_frame | intro _ | split | apply State.toSlot_frame | apply State.modStation_frame | apply State.drainStep_frame | apply frameOpt_get (by assumption) | dsimp only)
  all_goals first | assumption | exact within_trans hW (within_of (by decide)) | exact within_group hW .linkRegs (by decide) rfl | exact within_group hW .memRegs (by decide) rfl | exact within_group hW .cchRegs (by decide) rfl | exact within_group hW .srvRegs (by decide) rfl | exact within_group hW .spnRegs (by decide) rfl | exact within_group hW .motRegs (by decide) rfl | exact within_group hW .rchRegs (by decide) rfl | exact within_group hW .recRegs (by decide) rfl | exact within_group hW .calRegs (by decide) rfl | exact within_group hW .mblRegs (by decide) rfl | exact within_group hW .hpcRegs (by decide) rfl | exact within_group hW .sysRegs (by decide) rfl

theorem execSlotDrainDone_frame {W : Nat} {s₀ s : State} (hs : Frame W s₀ s) (k : Fin 12) (hW : within 64871154974402 W) :
    FrameRes W s₀ (execSlotDrainDone k s) := by
  unfold execSlotDrainDone
  try dsimp only
  repeat' with_reducible (first | assumption | apply frameRes_next | apply frameOpt_none | apply frameOpt_some | apply State.forEach_frame | apply State.when_frame | apply foldl_frame | apply foldl_fst_frame | apply foldl_snd_frame | intro _ | split | apply State.drainStep_frame | apply frameOpt_get (by assumption) | dsimp only)
  all_goals first | assumption | exact within_trans hW (within_of (by decide)) | exact within_group hW .linkRegs (by decide) rfl | exact within_group hW .memRegs (by decide) rfl | exact within_group hW .cchRegs (by decide) rfl | exact within_group hW .srvRegs (by decide) rfl | exact within_group hW .spnRegs (by decide) rfl | exact within_group hW .motRegs (by decide) rfl | exact within_group hW .rchRegs (by decide) rfl | exact within_group hW .recRegs (by decide) rfl | exact within_group hW .calRegs (by decide) rfl | exact within_group hW .mblRegs (by decide) rfl | exact within_group hW .hpcRegs (by decide) rfl | exact within_group hW .sysRegs (by decide) rfl

theorem execSlotDrainTimeout_frame {W : Nat} {s₀ s : State} (hs : Frame W s₀ s) (k : Fin 12) (hW : within 64871154974402 W) :
    FrameRes W s₀ (execSlotDrainTimeout k s) := by
  unfold execSlotDrainTimeout
  try dsimp only
  repeat' with_reducible (first | assumption | apply frameRes_next | apply frameOpt_none | apply frameOpt_some | apply State.forEach_frame | apply State.when_frame | apply foldl_frame | apply foldl_fst_frame | apply foldl_snd_frame | intro _ | split | apply State.slotLoss_frame | apply State.toSlot_frame | apply State.post_frame | apply frameOpt_get (by assumption) | dsimp only)
  all_goals first | assumption | exact within_trans hW (within_of (by decide)) | exact within_group hW .linkRegs (by decide) rfl | exact within_group hW .memRegs (by decide) rfl | exact within_group hW .cchRegs (by decide) rfl | exact within_group hW .srvRegs (by decide) rfl | exact within_group hW .spnRegs (by decide) rfl | exact within_group hW .motRegs (by decide) rfl | exact within_group hW .rchRegs (by decide) rfl | exact within_group hW .recRegs (by decide) rfl | exact within_group hW .calRegs (by decide) rfl | exact within_group hW .mblRegs (by decide) rfl | exact within_group hW .hpcRegs (by decide) rfl | exact within_group hW .sysRegs (by decide) rfl

theorem execSlotInsertion_frame {W : Nat} {s₀ s : State} (hs : Frame W s₀ s) (k : Fin 12) (hW : within 67174400 W) :
    FrameRes W s₀ (execSlotInsertion k s) := by
  unfold execSlotInsertion
  try dsimp only
  repeat' with_reducible (first | assumption | apply frameRes_next | apply frameOpt_none | apply frameOpt_some | apply State.forEach_frame | apply State.when_frame | apply foldl_frame | apply foldl_fst_frame | apply foldl_snd_frame | intro _ | split | apply State.setPresent_frame | apply State.raise_frame | apply State.powerUp_frame | apply State.toSlot_frame | apply frameOpt_get (by assumption) | dsimp only)
  all_goals first | assumption | exact within_trans hW (within_of (by decide)) | exact within_group hW .hpcRegs (by decide) rfl

theorem execSlotRemoval_frame {W : Nat} {s₀ s : State} (hs : Frame W s₀ s) (k : Fin 12) (hW : within 64871154974402 W) :
    FrameRes W s₀ (execSlotRemoval k s) := by
  unfold execSlotRemoval
  try dsimp only
  repeat' with_reducible (first | assumption | apply frameRes_next | apply frameOpt_none | apply frameOpt_some | apply State.forEach_frame | apply State.when_frame | apply foldl_frame | apply foldl_fst_frame | apply foldl_snd_frame | intro _ | split | apply State.setPresent_frame | apply State.raise_frame | apply State.toSlot_frame | apply State.slotLoss_frame | apply State.waitOn_frame | apply frameOpt_get (by assumption) | dsimp only)
  all_goals first | assumption | exact within_trans hW (within_of (by decide)) | exact within_group hW .linkRegs (by decide) rfl | exact within_group hW .memRegs (by decide) rfl | exact within_group hW .cchRegs (by decide) rfl | exact within_group hW .srvRegs (by decide) rfl | exact within_group hW .spnRegs (by decide) rfl | exact within_group hW .motRegs (by decide) rfl | exact within_group hW .rchRegs (by decide) rfl | exact within_group hW .recRegs (by decide) rfl | exact within_group hW .calRegs (by decide) rfl | exact within_group hW .mblRegs (by decide) rfl | exact within_group hW .hpcRegs (by decide) rfl | exact within_group hW .sysRegs (by decide) rfl

theorem execSlotButton_frame {W : Nat} {s₀ s : State} (hs : Frame W s₀ s) (k : Fin 12) (hW : within 604045312 W) :
    FrameRes W s₀ (execSlotButton k s) := by
  unfold execSlotButton
  try dsimp only
  repeat' with_reducible (first | assumption | apply frameRes_next | apply frameOpt_none | apply frameOpt_some | apply State.forEach_frame | apply State.when_frame | apply foldl_frame | apply foldl_fst_frame | apply foldl_snd_frame | intro _ | split | apply State.toSlot_frame | apply State.waitOn_frame | apply State.post_frame | apply frameOpt_get (by assumption) | dsimp only)
  all_goals first | assumption | exact within_trans hW (within_of (by decide)) | exact within_group hW .hpcRegs (by decide) rfl

theorem execSlotAbortReq_frame {W : Nat} {s₀ s : State} (hs : Frame W s₀ s) (k : Fin 12) (hW : within 604045312 W) :
    FrameRes W s₀ (execSlotAbortReq k s) := by
  unfold execSlotAbortReq
  try dsimp only
  repeat' with_reducible (first | assumption | apply frameRes_next | apply frameOpt_none | apply frameOpt_some | apply State.forEach_frame | apply State.when_frame | apply foldl_frame | apply foldl_fst_frame | apply foldl_snd_frame | intro _ | split | apply State.waitOn_frame | apply State.toSlot_frame | apply State.post_frame | apply frameOpt_get (by assumption) | dsimp only)
  all_goals first | assumption | exact within_trans hW (within_of (by decide)) | exact within_group hW .hpcRegs (by decide) rfl

theorem execSlotPowerFault_frame {W : Nat} {s₀ s : State} (hs : Frame W s₀ s) (k : Fin 12) (hW : within 64871154974402 W) :
    FrameRes W s₀ (execSlotPowerFault k s) := by
  unfold execSlotPowerFault
  try dsimp only
  repeat' with_reducible (first | assumption | apply frameRes_next | apply frameOpt_none | apply frameOpt_some | apply State.forEach_frame | apply State.when_frame | apply foldl_frame | apply foldl_fst_frame | apply foldl_snd_frame | intro _ | split | apply State.toSlot_frame | apply State.raise_frame | apply State.slotLoss_frame | apply frameOpt_get (by assumption) | dsimp only)
  all_goals first | assumption | exact within_trans hW (within_of (by decide)) | exact within_group hW .linkRegs (by decide) rfl | exact within_group hW .memRegs (by decide) rfl | exact within_group hW .cchRegs (by decide) rfl | exact within_group hW .srvRegs (by decide) rfl | exact within_group hW .spnRegs (by decide) rfl | exact within_group hW .motRegs (by decide) rfl | exact within_group hW .rchRegs (by decide) rfl | exact within_group hW .recRegs (by decide) rfl | exact within_group hW .calRegs (by decide) rfl | exact within_group hW .mblRegs (by decide) rfl | exact within_group hW .hpcRegs (by decide) rfl | exact within_group hW .sysRegs (by decide) rfl

theorem execSlotBlinkExpiry_frame {W : Nat} {s₀ s : State} (hs : Frame W s₀ s) (k : Fin 12) (hW : within 64871154974402 W) :
    FrameRes W s₀ (execSlotBlinkExpiry k s) := by
  unfold execSlotBlinkExpiry
  try dsimp only
  repeat' with_reducible (first | assumption | apply frameRes_next | apply frameOpt_none | apply frameOpt_some | apply State.forEach_frame | apply State.when_frame | apply foldl_frame | apply foldl_fst_frame | apply foldl_snd_frame | intro _ | split | apply State.waitOn_frame | apply State.powerUp_frame | apply State.startDrain_frame | apply frameOpt_get (by assumption) | dsimp only)
  all_goals first | assumption | exact within_trans hW (within_of (by decide)) | exact within_group hW .linkRegs (by decide) rfl | exact within_group hW .memRegs (by decide) rfl | exact within_group hW .cchRegs (by decide) rfl | exact within_group hW .srvRegs (by decide) rfl | exact within_group hW .spnRegs (by decide) rfl | exact within_group hW .motRegs (by decide) rfl | exact within_group hW .rchRegs (by decide) rfl | exact within_group hW .recRegs (by decide) rfl | exact within_group hW .calRegs (by decide) rfl | exact within_group hW .mblRegs (by decide) rfl | exact within_group hW .hpcRegs (by decide) rfl | exact within_group hW .sysRegs (by decide) rfl

theorem execPwrReqSet_frame {W : Nat} {s₀ s : State} (hs : Frame W s₀ s) (k : Fin 12) (hW : within 65536 W) :
    FrameRes W s₀ (execPwrReqSet k s) := by
  unfold execPwrReqSet
  try dsimp only
  repeat' with_reducible (first | assumption | apply frameRes_next | apply frameOpt_none | apply frameOpt_some | apply State.forEach_frame | apply State.when_frame | apply foldl_frame | apply foldl_fst_frame | apply foldl_snd_frame | intro _ | split | apply State.powerUp_frame | apply State.put_frame | apply frameOpt_get (by assumption) | dsimp only)
  all_goals first | assumption | exact within_trans hW (within_of (by decide)) | exact within_group hW .hpcRegs (by decide) rfl

theorem execPwrReqClear_frame {W : Nat} {s₀ s : State} (hs : Frame W s₀ s) (k : Fin 12) (hW : within 64871154974402 W) :
    FrameRes W s₀ (execPwrReqClear k s) := by
  unfold execPwrReqClear
  try dsimp only
  repeat' with_reducible (first | assumption | apply frameRes_next | apply frameOpt_none | apply frameOpt_some | apply State.forEach_frame | apply State.when_frame | apply foldl_frame | apply foldl_fst_frame | apply foldl_snd_frame | intro _ | split | apply State.startDrain_frame | apply State.put_frame | apply frameOpt_get (by assumption) | dsimp only)
  all_goals first | assumption | exact within_trans hW (within_of (by decide)) | exact within_group hW .linkRegs (by decide) rfl | exact within_group hW .memRegs (by decide) rfl | exact within_group hW .cchRegs (by decide) rfl | exact within_group hW .srvRegs (by decide) rfl | exact within_group hW .spnRegs (by decide) rfl | exact within_group hW .motRegs (by decide) rfl | exact within_group hW .rchRegs (by decide) rfl | exact within_group hW .recRegs (by decide) rfl | exact within_group hW .calRegs (by decide) rfl | exact within_group hW .mblRegs (by decide) rfl | exact within_group hW .hpcRegs (by decide) rfl | exact within_group hW .sysRegs (by decide) rfl

theorem execSlotFaultClear_frame {W : Nat} {s₀ s : State} (hs : Frame W s₀ s) (k : Fin 12) (hW : within 65536 W) :
    FrameRes W s₀ (execSlotFaultClear k s) := by
  unfold execSlotFaultClear
  try dsimp only
  repeat' with_reducible (first | assumption | apply frameRes_next | apply frameOpt_none | apply frameOpt_some | apply State.forEach_frame | apply State.when_frame | apply foldl_frame | apply foldl_fst_frame | apply foldl_snd_frame | intro _ | split | apply State.put_frame | apply State.toSlot_frame | apply frameOpt_get (by assumption) | dsimp only)
  all_goals first | assumption | exact within_trans hW (within_of (by decide)) | exact within_group hW .hpcRegs (by decide) rfl

theorem State.loadLoopSet_frame {W : Nat} {s₀ s : State} (hs : Frame W s₀ s) (n l : Nat) (hW : within 68786586112 W) :
    Frame W s₀ (State.loadLoopSet s n l) := by
  unfold State.loadLoopSet
  try dsimp only
  repeat' with_reducible (first | assumption | apply frameRes_next | apply frameOpt_none | apply frameOpt_some | apply State.forEach_frame | apply State.when_frame | apply foldl_frame | apply foldl_fst_frame | apply foldl_snd_frame | intro _ | split | apply State.put_frame | apply State.sput_frame | apply State.modLp_frame | apply State.updateCost_frame | apply frameOpt_get (by assumption) | dsimp only)
  all_goals first | assumption | exact within_trans hW (within_of (by decide)) | exact within_group hW .srvRegs (by decide) rfl

theorem execSlotSettled_frame {W : Nat} {s₀ s : State} (hs : Frame W s₀ s) (k : Fin 12) (hW : within 52879838806530 W) :
    FrameRes W s₀ (execSlotSettled k s) := by
  unfold execSlotSettled
  try dsimp only
  repeat' with_reducible (first | assumption | apply frameRes_next | apply frameOpt_none | apply frameOpt_some | apply State.forEach_frame | apply State.when_frame | apply foldl_frame | apply foldl_fst_frame | apply foldl_snd_frame | intro _ | split | apply State.modPort_frame | apply State.startProcs_frame | apply State.loadLoopSet_frame | apply State.put_frame | apply State.trainLdd_frame | apply frameOpt_get (by assumption) | dsimp only)
  all_goals first | assumption | exact within_trans hW (within_of (by decide)) | exact within_group hW .linkRegs (by decide) rfl | exact within_group hW .srvRegs (by decide) rfl | exact within_group hW .fwuRegs (by decide) rfl

theorem execSlotBringupDone_frame {W : Nat} {s₀ s : State} (hs : Frame W s₀ s) (k : Fin 12) (hW : within 2203385528320 W) :
    FrameRes W s₀ (execSlotBringupDone k s) := by
  unfold execSlotBringupDone
  try dsimp only
  repeat' with_reducible (first | assumption | apply frameRes_next | apply frameOpt_none | apply frameOpt_some | apply State.forEach_frame | apply State.when_frame | apply foldl_frame | apply foldl_fst_frame | apply foldl_snd_frame | intro _ | split | apply State.toSlot_frame | apply State.setStation_frame | apply State.showVersions_frame | apply State.post_frame | apply frameOpt_get (by assumption) | apply Frame.set_fw | apply Frame.set_stations | dsimp only)
  all_goals first | assumption | exact within_trans hW (within_of (by decide)) | exact within_group hW .hpcRegs (by decide) rfl | exact within_group hW .fwuRegs (by decide) rfl

theorem execSlotBringupTimeout_frame {W : Nat} {s₀ s : State} (hs : Frame W s₀ s) (k : Fin 12) (hW : within 64871154974402 W) :
    FrameRes W s₀ (execSlotBringupTimeout k s) := by
  unfold execSlotBringupTimeout
  try dsimp only
  repeat' with_reducible (first | assumption | apply frameRes_next | apply frameOpt_none | apply frameOpt_some | apply State.forEach_frame | apply State.when_frame | apply foldl_frame | apply foldl_fst_frame | apply foldl_snd_frame | intro _ | split | apply State.slotLoss_frame | apply State.toSlot_frame | apply State.raise_frame | apply frameOpt_get (by assumption) | dsimp only)
  all_goals first | assumption | exact within_trans hW (within_of (by decide)) | exact within_group hW .linkRegs (by decide) rfl | exact within_group hW .memRegs (by decide) rfl | exact within_group hW .cchRegs (by decide) rfl | exact within_group hW .srvRegs (by decide) rfl | exact within_group hW .spnRegs (by decide) rfl | exact within_group hW .motRegs (by decide) rfl | exact within_group hW .rchRegs (by decide) rfl | exact within_group hW .recRegs (by decide) rfl | exact within_group hW .calRegs (by decide) rfl | exact within_group hW .mblRegs (by decide) rfl | exact within_group hW .hpcRegs (by decide) rfl | exact within_group hW .sysRegs (by decide) rfl

end Sys2Proof.Machine
end

