-- ==== Sys2Proof/Laws/FramePower.lean ====
section
/-!
SUPPORT. What the operations and commands of Machine/Power.lean leave as it was: all parts outside a mask.
-/
set_option Elab.async false
set_option linter.all false
namespace Sys2Proof.Machine
set_option maxRecDepth 2000

theorem State.writeBoot_frame {W : Nat} {s₀ s : State} (hs : Frame W s₀ s) (f : BootCopy → BootCopy) (hW : within 2199023255552 W) :
    Frame W s₀ (State.writeBoot s f) := by
  unfold State.writeBoot
  try dsimp only
  repeat' with_reducible (first | assumption | apply frameRes_next | apply frameOpt_none | apply frameOpt_some | apply State.forEach_frame | apply State.when_frame | apply foldl_frame | apply foldl_fst_frame | apply foldl_snd_frame | intro _ | split | apply frameOpt_get (by assumption) | apply Frame.set_fw | dsimp only)
  all_goals first | assumption | exact within_trans hW (within_of (by decide))

theorem State.writeBootSlot_frame {W : Nat} {s₀ s : State} (hs : Frame W s₀ s) (slot : Nat) (hW : within 2199023386624 W := by first | assumption | exact within_trans (by assumption) (within_of (by decide))) :
    Frame W s₀ (State.writeBootSlot s slot) := by
  unfold State.writeBootSlot
  try dsimp only
  repeat' with_reducible (first | assumption | apply frameRes_next | apply frameOpt_none | apply frameOpt_some | apply State.forEach_frame | apply State.when_frame | apply foldl_frame | apply foldl_fst_frame | apply foldl_snd_frame | intro _ | split | apply State.writeBoot_frame | apply State.put_frame | apply frameOpt_get (by assumption) | dsimp only)
  all_goals first | assumption | exact within_trans hW (within_of (by decide)) | exact within_group hW .fwuRegs (by decide) rfl

theorem execThermalWarn_frame {W : Nat} {s₀ s : State} (hs : Frame W s₀ s) (tj : BitVec 12) (hW : within 67371008 W) :
    FrameRes W s₀ (execThermalWarn tj s) := by
  unfold execThermalWarn
  try dsimp only
  repeat' with_reducible (first | assumption | apply frameRes_next | apply frameOpt_none | apply frameOpt_some | apply State.forEach_frame | apply State.when_frame | apply foldl_frame | apply foldl_fst_frame | apply foldl_snd_frame | intro _ | split | apply State.put_frame | apply State.raise_frame | apply frameOpt_get (by assumption) | dsimp only)
  all_goals first | assumption | exact within_trans hW (within_of (by decide)) | exact within_group hW .sysRegs (by decide) rfl

theorem State.pmbSend_frame {W : Nat} {s₀ s : State} (hs : Frame W s₀ s) (op : PmbOp) (hW : within 39582552817666 W) :
    Frame W s₀ (State.pmbSend s op) := by
  unfold State.pmbSend
  try dsimp only
  repeat' with_reducible (first | assumption | apply frameRes_next | apply frameOpt_none | apply frameOpt_some | apply State.forEach_frame | apply State.when_frame | apply foldl_frame | apply foldl_fst_frame | apply foldl_snd_frame | intro _ | split | apply State.emit_frame | apply frameOpt_get (by assumption) | apply Frame.set_power | dsimp only)
  all_goals first | assumption | exact within_trans hW (within_of (by decide)) | exact within_group hW .linkRegs (by decide) rfl

theorem State.pmbFault_frame {W : Nat} {s₀ s : State} (hs : Frame W s₀ s) (code : Nat) (hW : within 67371008 W) :
    Frame W s₀ (State.pmbFault s code) := by
  unfold State.pmbFault
  try dsimp only
  repeat' with_reducible (first | assumption | apply frameRes_next | apply frameOpt_none | apply frameOpt_some | apply State.forEach_frame | apply State.when_frame | apply foldl_frame | apply foldl_fst_frame | apply foldl_snd_frame | intro _ | split | apply State.raise_frame | apply frameOpt_get (by assumption) | dsimp only)
  all_goals first | assumption | exact within_trans hW (within_of (by decide)) | exact within_group hW .sysRegs (by decide) rfl

theorem State.pmbFailed_frame {W : Nat} {s₀ s : State} (hs : Frame W s₀ s) (op : PmbOp) (hW : within 39582620188674 W) :
    Frame W s₀ (State.pmbFailed s op) := by
  unfold State.pmbFailed
  try dsimp only
  repeat' with_reducible (first | assumption | apply frameRes_next | apply frameOpt_none | apply frameOpt_some | apply State.forEach_frame | apply State.when_frame | apply foldl_frame | apply foldl_fst_frame | apply foldl_snd_frame | intro _ | split | apply State.pmbFault_frame | apply State.pmbSend_frame | apply frameOpt_get (by assumption) | dsimp only)
  all_goals first | assumption | exact within_trans hW (within_of (by decide)) | exact within_group hW .linkRegs (by decide) rfl | exact within_group hW .sysRegs (by decide) rfl

theorem State.pmbDone_frame {W : Nat} {s₀ s : State} (hs : Frame W s₀ s) (op : PmbOp) (data : Nat) (hW : within 39582620188674 W) :
    Frame W s₀ (State.pmbDone s op data) := by
  unfold State.pmbDone
  try dsimp only
  repeat' with_reducible (first | assumption | apply frameRes_next | apply frameOpt_none | apply frameOpt_some | apply State.forEach_frame | apply State.when_frame | apply foldl_frame | apply foldl_fst_frame | apply foldl_snd_frame | intro _ | split | apply State.pmbFault_frame | apply State.raise_frame | apply State.pmbSend_frame | apply State.put_frame | apply frameOpt_get (by assumption) | apply Frame.set_power | dsimp only)
  all_goals first | assumption | exact within_trans hW (within_of (by decide)) | exact within_group hW .linkRegs (by decide) rfl | exact within_group hW .sysRegs (by decide) rfl

theorem execPmbusTransactionDone_frame {W : Nat} {s₀ s : State} (hs : Frame W s₀ s) (code : Byte) (ok : Bool) (data : BitVec 16) (hW : within 39582620188674 W) :
    FrameRes W s₀ (execPmbusTransactionDone code ok data s) := by
  unfold execPmbusTransactionDone
  try dsimp only
  repeat' with_reducible (first | assumption | apply frameRes_next | apply frameOpt_none | apply frameOpt_some | apply State.forEach_frame | apply State.when_frame | apply foldl_frame | apply foldl_fst_frame | apply foldl_snd_frame | intro _ | split | apply State.pmbDone_frame | apply State.pmbFailed_frame | apply frameOpt_get (by assumption) | apply Frame.set_power | dsimp only)
  all_goals first | assumption | exact within_trans hW (within_of (by decide)) | exact within_group hW .linkRegs (by decide) rfl | exact within_group hW .sysRegs (by decide) rfl

theorem State.pmbRead_frame {W : Nat} {s₀ s : State} (hs : Frame W s₀ s) (code : Nat) (value : Option (BitVec 16)) (hW : within 39582620188674 W) :
    Frame W s₀ (State.pmbRead s code value) := by
  unfold State.pmbRead
  try dsimp only
  repeat' with_reducible (first | assumption | apply frameRes_next | apply frameOpt_none | apply frameOpt_some | apply State.forEach_frame | apply State.when_frame | apply foldl_frame | apply foldl_fst_frame | apply foldl_snd_frame | intro _ | split | apply State.emit_frame | apply State.pmbDone_frame | apply State.pmbFailed_frame | apply frameOpt_get (by assumption) | dsimp only)
  all_goals first | assumption | exact within_trans hW (within_of (by decide)) | exact within_group hW .linkRegs (by decide) rfl | exact within_group hW .sysRegs (by decide) rfl

theorem execPmbusAlert_frame {W : Nat} {s₀ s : State} (hs : Frame W s₀ s) (status : Option (BitVec 16)) (hW : within 39582620188674 W) :
    FrameRes W s₀ (execPmbusAlert status s) := by
  unfold execPmbusAlert
  try dsimp only
  repeat' with_reducible (first | assumption | apply frameRes_next | apply frameOpt_none | apply frameOpt_some | apply State.forEach_frame | apply State.when_frame | apply foldl_frame | apply foldl_fst_frame | apply foldl_snd_frame | intro _ | split | apply State.pmbRead_frame | apply frameOpt_get (by assumption) | dsimp only)
  all_goals first | assumption | exact within_trans hW (within_of (by decide)) | exact within_group hW .linkRegs (by decide) rfl | exact within_group hW .sysRegs (by decide) rfl

theorem execReadVoutPoll_frame {W : Nat} {s₀ s : State} (hs : Frame W s₀ s) (code : Option (BitVec 16)) (hW : within 39582620188674 W) :
    FrameRes W s₀ (execReadVoutPoll code s) := by
  unfold execReadVoutPoll
  try dsimp only
  repeat' with_reducible (first | assumption | apply frameRes_next | apply frameOpt_none | apply frameOpt_some | apply State.forEach_frame | apply State.when_frame | apply foldl_frame | apply foldl_fst_frame | apply foldl_snd_frame | intro _ | split | apply State.pmbRead_frame | apply frameOpt_get (by assumption) | dsimp only)
  all_goals first | assumption | exact within_trans hW (within_of (by decide)) | exact within_group hW .linkRegs (by decide) rfl | exact within_group hW .sysRegs (by decide) rfl

theorem State.requestVolt_frame {W : Nat} {s₀ s : State} (hs : Frame W s₀ s) (v : Nat) (hW : within 39582553079810 W) :
    Frame W s₀ (State.requestVolt s v) := by
  unfold State.requestVolt
  try dsimp only
  repeat' with_reducible (first | assumption | apply frameRes_next | apply frameOpt_none | apply frameOpt_some | apply State.forEach_frame | apply State.when_frame | apply foldl_frame | apply foldl_fst_frame | apply foldl_snd_frame | intro _ | split | apply State.put_frame | apply State.pmbSend_frame | apply frameOpt_get (by assumption) | apply Frame.set_power | dsimp only)
  all_goals first | assumption | exact within_trans hW (within_of (by decide)) | exact within_group hW .linkRegs (by decide) rfl | exact within_group hW .sysRegs (by decide) rfl

theorem State.paceStep_frame {W : Nat} {s₀ s : State} (hs : Frame W s₀ s) (measured : Nat) (hW : within 39582553079810 W) :
    Frame W s₀ (State.paceStep s measured) := by
  unfold State.paceStep
  try dsimp only
  repeat' with_reducible (first | assumption | apply frameRes_next | apply frameOpt_none | apply frameOpt_some | apply State.forEach_frame | apply State.when_frame | apply foldl_frame | apply foldl_fst_frame | apply foldl_snd_frame | intro _ | split | apply State.requestVolt_frame | apply frameOpt_get (by assumption) | apply Frame.set_power | dsimp only)
  all_goals first | assumption | exact within_trans hW (within_of (by decide)) | exact within_group hW .linkRegs (by decide) rfl | exact within_group hW .sysRegs (by decide) rfl

theorem execPaceWindowEnd_frame {W : Nat} {s₀ s : State} (hs : Frame W s₀ s) (measured : BitVec 16) (hW : within 39582620188674 W) :
    FrameRes W s₀ (execPaceWindowEnd measured s) := by
  unfold execPaceWindowEnd
  try dsimp only
  repeat' with_reducible (first | assumption | apply frameRes_next | apply frameOpt_none | apply frameOpt_some | apply State.forEach_frame | apply State.when_frame | apply foldl_frame | apply foldl_fst_frame | apply foldl_snd_frame | intro _ | split | apply State.put_frame | apply State.paceStep_frame | apply State.raise_frame | apply frameOpt_get (by assumption) | dsimp only)
  all_goals first | assumption | exact within_trans hW (within_of (by decide)) | exact within_group hW .linkRegs (by decide) rfl | exact within_group hW .sysRegs (by decide) rfl

theorem execPaceLow_frame {W : Nat} {s₀ s : State} (hs : Frame W s₀ s) (hW : within 67371008 W) :
    FrameRes W s₀ (execPaceLow s) := by
  unfold execPaceLow
  try dsimp only
  repeat' with_reducible (first | assumption | apply frameRes_next | apply frameOpt_none | apply frameOpt_some | apply State.forEach_frame | apply State.when_frame | apply foldl_frame | apply foldl_fst_frame | apply foldl_snd_frame | intro _ | split | apply State.raise_frame | apply frameOpt_get (by assumption) | dsimp only)
  all_goals first | assumption | exact within_trans hW (within_of (by decide)) | exact within_group hW .sysRegs (by decide) rfl

theorem execBoostEnd_frame {W : Nat} {s₀ s : State} (hs : Frame W s₀ s) (hW : within 262144 W) :
    FrameRes W s₀ (execBoostEnd s) := by
  unfold execBoostEnd
  try dsimp only
  repeat' with_reducible (first | assumption | apply frameRes_next | apply frameOpt_none | apply frameOpt_some | apply State.forEach_frame | apply State.when_frame | apply foldl_frame | apply foldl_fst_frame | apply foldl_snd_frame | intro _ | split | apply State.put_frame | apply frameOpt_get (by assumption) | dsimp only)
  all_goals first | assumption | exact within_trans hW (within_of (by decide)) | exact within_group hW .sysRegs (by decide) rfl

theorem execAgeRecord_frame {W : Nat} {s₀ s : State} (hs : Frame W s₀ s) (v : BitVec 10) (hW : within 6597070028800 W) :
    FrameRes W s₀ (execAgeRecord v s) := by
  unfold execAgeRecord
  try dsimp only
  repeat' with_reducible (first | assumption | apply frameRes_next | apply frameOpt_none | apply frameOpt_some | apply State.forEach_frame | apply State.when_frame | apply foldl_frame | apply foldl_fst_frame | apply foldl_snd_frame | intro _ | split | apply State.put_frame | apply State.writeBoot_frame | apply frameOpt_get (by assumption) | apply Frame.set_power | dsimp only)
  all_goals first | assumption | exact within_trans hW (within_of (by decide)) | exact within_group hW .sysRegs (by decide) rfl

theorem State.loadImage_frame {W : Nat} {s₀ s : State} (hs : Frame W s₀ s) (im : FwImage) (hW : within 41782650241026 W) :
    Frame W s₀ (State.loadImage s im) := by
  unfold State.loadImage
  try dsimp only
  repeat' with_reducible (first | assumption | apply frameRes_next | apply frameOpt_none | apply frameOpt_some | apply State.forEach_frame | apply State.when_frame | apply foldl_frame | apply foldl_fst_frame | apply foldl_snd_frame | intro _ | split | apply State.put_frame | apply State.extend_frame | apply State.showVersions_frame | apply State.pmbSend_frame | apply State.setCfg_frame | apply frameOpt_get (by assumption) | apply Frame.set_fw | dsimp only)
  all_goals first | assumption | exact within_trans hW (within_of (by decide)) | exact within_group hW .linkRegs (by decide) rfl | exact within_group hW .mblRegs (by decide) rfl | exact within_group hW .fwuRegs (by decide) rfl | exact within_group hW .sysRegs (by decide) rfl

theorem State.bootComplete_frame {W : Nat} {s₀ s : State} (hs : Frame W s₀ s) (im : FwImage) (fallback : Bool) (hW : within 41782717349891 W) :
    Frame W s₀ (State.bootComplete s im fallback) := by
  unfold State.bootComplete
  try dsimp only
  repeat' with_reducible (first | assumption | apply frameRes_next | apply frameOpt_none | apply frameOpt_some | apply State.forEach_frame | apply State.when_frame | apply foldl_frame | apply foldl_fst_frame | apply foldl_snd_frame | intro _ | split | apply State.loadImage_frame | apply State.put_frame | apply State.setFlag_frame | apply State.post_frame | apply frameOpt_get (by assumption) | dsimp only)
  all_goals first | assumption | exact within_trans hW (within_of (by decide)) | exact within_group hW .fnRegs (by decide) rfl | exact within_group hW .linkRegs (by decide) rfl | exact within_group hW .mblRegs (by decide) rfl | exact within_group hW .fwuRegs (by decide) rfl | exact within_group hW .sysRegs (by decide) rfl

theorem State.enterRecovery_frame {W : Nat} {s₀ s : State} (hs : Frame W s₀ s) (errA errB : Nat) (hW : within 2199090626561 W) :
    Frame W s₀ (State.enterRecovery s errA errB) := by
  unfold State.enterRecovery
  try dsimp only
  repeat' with_reducible (first | assumption | apply frameRes_next | apply frameOpt_none | apply frameOpt_some | apply State.forEach_frame | apply State.when_frame | apply foldl_frame | apply foldl_fst_frame | apply foldl_snd_frame | intro _ | split | apply State.put_frame | apply State.post_frame | apply frameOpt_get (by assumption) | apply Frame.set_fw | dsimp only)
  all_goals first | assumption | exact within_trans hW (within_of (by decide)) | exact within_group hW .fnRegs (by decide) rfl | exact within_group hW .sysRegs (by decide) rfl

theorem execResetRelease_frame {W : Nat} {s₀ s : State} (hs : Frame W s₀ s) (hW : within 41782988931075 W) :
    FrameRes W s₀ (execResetRelease s) := by
  unfold execResetRelease
  try dsimp only
  repeat' with_reducible (first | assumption | apply frameRes_next | apply frameOpt_none | apply frameOpt_some | apply State.forEach_frame | apply State.when_frame | apply foldl_frame | apply foldl_fst_frame | apply foldl_snd_frame | intro _ | split | apply State.put_frame | apply State.extend_frame | apply State.takeFree_frame | apply State.bootComplete_frame | apply State.enterRecovery_frame | apply frameOpt_get (by assumption) | apply Frame.set_now_mem_fw | dsimp only)
  all_goals first | assumption | exact within_trans hW (within_of (by decide)) | exact within_group hW .fnRegs (by decide) rfl | exact within_group hW .linkRegs (by decide) rfl | exact within_group hW .mblRegs (by decide) rfl | exact within_group hW .fwuRegs (by decide) rfl | exact within_group hW .sysRegs (by decide) rfl

end Sys2Proof.Machine
end

