-- ==== Sys2Proof/Laws/FrameSnapshot.lean ====
section
/-!
SUPPORT. What the operations and commands of Machine/Snapshot.lean leave as it was: all parts outside a mask.
-/
set_option Elab.async false
set_option linter.all false
namespace Sys2Proof.Machine
set_option maxRecDepth 2000

theorem State.tellTree_frame {W : Nat} {s₀ s : State} (hs : Frame W s₀ s) (op : Nat) (body : List Nat) (hW : within 52776759492610 W) :
    Frame W s₀ (State.tellTree s op body) := by
  unfold State.tellTree
  try dsimp only
  repeat' with_reducible (first | assumption | apply frameRes_next | apply frameOpt_none | apply frameOpt_some | apply State.forEach_frame | apply State.when_frame | apply foldl_frame | apply foldl_fst_frame | apply foldl_snd_frame | intro _ | split | apply State.sendOn_frame | apply frameOpt_get (by assumption) | dsimp only)
  all_goals first | assumption | exact within_trans hW (within_of (by decide)) | exact within_group hW .linkRegs (by decide) rfl | exact within_group hW .mblRegs (by decide) rfl

theorem State.snapFinish_frame {W : Nat} {s₀ s : State} (hs : Frame W s₀ s) (hW : within 52777799647234 W) :
    Frame W s₀ (State.snapFinish s) := by
  unfold State.snapFinish
  try dsimp only
  repeat' with_reducible (first | assumption | apply frameRes_next | apply frameOpt_none | apply frameOpt_some | apply State.forEach_frame | apply State.when_frame | apply foldl_frame | apply foldl_fst_frame | apply foldl_snd_frame | intro _ | split | apply State.answer_frame | apply frameOpt_get (by assumption) | apply Frame.set_mbl | dsimp only)
  all_goals first | assumption | exact within_trans hW (within_of (by decide)) | exact within_group hW .linkRegs (by decide) rfl

end Sys2Proof.Machine
end

