-- ==== Sys2Proof/Laws/FrameFirmware.lean ====
section
/-!
SUPPORT. What the operations and commands of Machine/Firmware.lean leave as it was: all parts outside a mask.
-/
set_option Elab.async false
set_option linter.all false
namespace Sys2Proof.Machine
set_option maxRecDepth 2000

theorem State.showFw_frame {W : Nat} {s₀ s : State} (hs : Frame W s₀ s) (hW : within 131072 W := by first | assumption | exact within_trans (by assumption) (within_of (by decide))) :
    Frame W s₀ (State.showFw s) := by
  unfold State.showFw
  try dsimp only
  repeat' with_reducible (first | assumption | apply frameRes_next | apply frameOpt_none | apply frameOpt_some | apply State.forEach_frame | apply State.when_frame | apply foldl_frame | apply foldl_fst_frame | apply foldl_snd_frame | intro _ | split | apply State.put_frame | apply State.putPair_frame | apply frameOpt_get (by assumption) | dsimp only)
  all_goals first | assumption | exact within_trans hW (within_of (by decide)) | exact within_group hW .fwuRegs (by decide) rfl

theorem execFwVerify_frame {W : Nat} {s₀ s : State} (hs : Frame W s₀ s) (slot : Fin 2) (hW : within 2199023386624 W) :
    FrameRes W s₀ (execFwVerify slot s) := by
  unfold execFwVerify
  try dsimp only
  repeat' with_reducible (first | assumption | apply frameRes_next | apply frameOpt_none | apply frameOpt_some | apply State.forEach_frame | apply State.when_frame | apply foldl_frame | apply foldl_fst_frame | apply foldl_snd_frame | intro _ | split | apply State.put_frame | apply State.showFw_frame | apply frameOpt_get (by assumption) | apply Frame.set_fw | dsimp only)
  all_goals first | assumption | exact within_trans hW (within_of (by decide)) | exact within_group hW .fwuRegs (by decide) rfl

theorem execFwVerifyDone_frame {W : Nat} {s₀ s : State} (hs : Frame W s₀ s) (hW : within 2199090495488 W := by first | assumption | exact within_trans (by assumption) (within_of (by decide))) : FrameRes W s₀ (execFwVerifyDone s) := by
  unfold execFwVerifyDone
  split
  · apply frameRes_next; exact hs
  · rename_i slot _
    extract_lets fw s₁
    have h₁ : Frame W s₀ s₁ := Frame.set_fw hs _ (within_trans hW (within_of (by decide)))
    clear_value s₁
    split
    · rename_i im _
      apply frameRes_next
      apply State.post_frame
      apply State.showFw_frame
      · split
        · exact State.writeBootSlot_frame (Frame.set_fw h₁ _ (within_trans hW (within_of (by decide)))) _
        · exact Frame.set_fw h₁ _ (within_trans hW (within_of (by decide)))
      · exact within_trans hW (within_of (by decide))
      · exact within_trans hW (within_of (by decide))
    · apply frameRes_next; exact State.raise_frame (State.showFw_frame (State.put_frame h₁ _ _)) _ _ _ _

theorem execFwBootSlotWrite_frame {W : Nat} {s₀ s : State} (hs : Frame W s₀ s) (slot : Fin 2) (hW : within 2199023386624 W) :
    FrameRes W s₀ (execFwBootSlotWrite slot s) := by
  unfold execFwBootSlotWrite
  try dsimp only
  repeat' with_reducible (first | assumption | apply frameRes_next | apply frameOpt_none | apply frameOpt_some | apply State.forEach_frame | apply State.when_frame | apply foldl_frame | apply foldl_fst_frame | apply foldl_snd_frame | intro _ | split | apply State.writeBootSlot_frame | apply frameOpt_get (by assumption) | dsimp only)
  all_goals first | assumption | exact within_trans hW (within_of (by decide)) | exact within_group hW .fwuRegs (by decide) rfl

theorem State.takeSection5_frame {W : Nat} {s₀ s : State} (hs : Frame W s₀ s) (hW : within 2200096997376 W) :
    Frame W s₀ (State.takeSection5 s) := by
  unfold State.takeSection5
  try dsimp only
  repeat' with_reducible (first | assumption | apply frameRes_next | apply frameOpt_none | apply frameOpt_some | apply State.forEach_frame | apply State.when_frame | apply foldl_frame | apply foldl_fst_frame | apply foldl_snd_frame | intro _ | split | apply State.extend_frame | apply frameOpt_get (by assumption) | apply Frame.set_fw | dsimp only)
  all_goals first | assumption | exact within_trans hW (within_of (by decide))

theorem State.activated_frame {W : Nat} {s₀ s : State} (hs : Frame W s₀ s) (p : Nat) (hW : within 2200097128448 W) :
    Frame W s₀ (State.activated s p) := by
  unfold State.activated
  try dsimp only
  repeat' with_reducible (first | assumption | apply frameRes_next | apply frameOpt_none | apply frameOpt_some | apply State.forEach_frame | apply State.when_frame | apply foldl_frame | apply foldl_fst_frame | apply foldl_snd_frame | intro _ | split | apply State.extend_frame | apply State.takeSection5_frame | apply State.setLeft_frame | apply frameOpt_get (by assumption) | dsimp only)
  all_goals first | assumption | exact within_trans hW (within_of (by decide)) | exact within_group hW .fwuRegs (by decide) rfl

theorem State.intoForce_frame {W : Nat} {s₀ s : State} (hs : Frame W s₀ s) (mask : Nat) (hW : within 2199023386624 W := by first | assumption | exact within_trans (by assumption) (within_of (by decide))) :
    Frame W s₀ (State.intoForce s mask) := by
  unfold State.intoForce
  try dsimp only
  repeat' with_reducible (first | assumption | apply frameRes_next | apply frameOpt_none | apply frameOpt_some | apply State.forEach_frame | apply State.when_frame | apply foldl_frame | apply foldl_fst_frame | apply foldl_snd_frame | intro _ | split | apply State.put_frame | apply State.showVersions_frame | apply State.writeBootSlot_frame | apply frameOpt_get (by assumption) | apply Frame.set_fw | dsimp only)
  all_goals first | assumption | exact within_trans hW (within_of (by decide)) | exact within_group hW .fwuRegs (by decide) rfl

theorem State.setRoll_frame {W : Nat} {s₀ s : State} (hs : Frame W s₀ s) (r : Option FwRoll) (hW : within 2199023386624 W := by first | assumption | exact within_trans (by assumption) (within_of (by decide))) :
    Frame W s₀ (State.setRoll s r) := by
  unfold State.setRoll
  try dsimp only
  repeat' with_reducible (first | assumption | apply frameRes_next | apply frameOpt_none | apply frameOpt_some | apply State.forEach_frame | apply State.when_frame | apply foldl_frame | apply foldl_fst_frame | apply foldl_snd_frame | intro _ | split | apply State.showFw_frame | apply frameOpt_get (by assumption) | apply Frame.set_fw | dsimp only)
  all_goals first | assumption | exact within_trans hW (within_of (by decide)) | exact within_group hW .fwuRegs (by decide) rfl

theorem State.holdStation_frame {W : Nat} {s₀ s : State} (hs : Frame W s₀ s) (st : Nat) (hW : within 37726961285826 W := by first | assumption | exact within_trans (by assumption) (within_of (by decide))) :
    Frame W s₀ (State.holdStation s st) := by
  unfold State.holdStation
  try dsimp only
  repeat' with_reducible (first | assumption | apply frameRes_next | apply frameOpt_none | apply frameOpt_some | apply State.forEach_frame | apply State.when_frame | apply foldl_frame | apply foldl_fst_frame | apply foldl_snd_frame | intro _ | split | apply State.setBelay_frame | apply frameOpt_get (by assumption) | apply Frame.set_fw | dsimp only)
  all_goals first | assumption | exact within_trans hW (within_of (by decide)) | exact within_group hW .linkRegs (by decide) rfl | exact within_group hW .memRegs (by decide) rfl | exact within_group hW .cchRegs (by decide) rfl | exact within_group hW .srvRegs (by decide) rfl | exact within_group hW .motRegs (by decide) rfl | exact within_group hW .rchRegs (by decide) rfl | exact within_group hW .recRegs (by decide) rfl

theorem State.releaseStation_frame {W : Nat} {s₀ s : State} (hs : Frame W s₀ s) (st : Nat) (hW : within 37726961285826 W := by first | assumption | exact within_trans (by assumption) (within_of (by decide))) :
    Frame W s₀ (State.releaseStation s st) := by
  unfold State.releaseStation
  try dsimp only
  repeat' with_reducible (first | assumption | apply frameRes_next | apply frameOpt_none | apply frameOpt_some | apply State.forEach_frame | apply State.when_frame | apply foldl_frame | apply foldl_fst_frame | apply foldl_snd_frame | intro _ | split | apply State.setBelay_frame | apply frameOpt_get (by assumption) | apply Frame.set_fw | dsimp only)
  all_goals first | assumption | exact within_trans hW (within_of (by decide)) | exact within_group hW .linkRegs (by decide) rfl | exact within_group hW .memRegs (by decide) rfl | exact within_group hW .cchRegs (by decide) rfl | exact within_group hW .srvRegs (by decide) rfl | exact within_group hW .motRegs (by decide) rfl | exact within_group hW .rchRegs (by decide) rfl | exact within_group hW .recRegs (by decide) rfl

theorem State.serveReset_frame {W : Nat} {s₀ s : State} (hs : Frame W s₀ s) (st : Nat) (hW : within 47210249354946 W) :
    Frame W s₀ (State.serveReset s st) := by
  unfold State.serveReset
  try dsimp only
  repeat' with_reducible (first | assumption | apply frameRes_next | apply frameOpt_none | apply frameOpt_some | apply State.forEach_frame | apply State.when_frame | apply foldl_frame | apply foldl_fst_frame | apply foldl_snd_frame | intro _ | split | apply State.stationReset_frame | apply frameOpt_get (by assumption) | apply Frame.set_fw | dsimp only)
  all_goals first | assumption | exact within_trans hW (within_of (by decide)) | exact within_group hW .linkRegs (by decide) rfl | exact within_group hW .memRegs (by decide) rfl | exact within_group hW .cchRegs (by decide) rfl | exact within_group hW .srvRegs (by decide) rfl | exact within_group hW .spnRegs (by decide) rfl | exact within_group hW .motRegs (by decide) rfl | exact within_group hW .rchRegs (by decide) rfl | exact within_group hW .recRegs (by decide) rfl | exact within_group hW .calRegs (by decide) rfl | exact within_group hW .sysRegs (by decide) rfl

theorem State.endRoll_frame {W : Nat} {s₀ s : State} (hs : Frame W s₀ s) (r : FwRoll) (status : Nat) (hW : within 2200130682880 W := by first | assumption | exact within_trans (by assumption) (within_of (by decide))) :
    Frame W s₀ (State.endRoll s r status) := by
  unfold State.endRoll
  try dsimp only
  repeat' with_reducible (first | assumption | apply frameRes_next | apply frameOpt_none | apply frameOpt_some | apply State.forEach_frame | apply State.when_frame | apply foldl_frame | apply foldl_fst_frame | apply foldl_snd_frame | intro _ | split | apply State.setRoll_frame | apply State.finish_frame | apply frameOpt_get (by assumption) | dsimp only)
  all_goals first | assumption | exact within_trans hW (within_of (by decide)) | exact within_group hW .fwuRegs (by decide) rfl

theorem State.advanceRoll_frame {W : Nat} {s₀ s : State} (hs : Frame W s₀ s) (fuel : Nat) (hW : within 37726961416898 W := by first | assumption | exact within_trans (by assumption) (within_of (by decide))) : Frame W s₀ (State.advanceRoll fuel s) := by
  induction fuel generalizing s with
  | zero => exact hs
  | succ fuel ih =>
    unfold State.advanceRoll
    dsimp only
    repeat' with_reducible (first | assumption | split | apply ih | apply State.releaseStation_frame | apply State.endRoll_frame | apply State.setCode_frame | apply State.post_frame | apply State.intoForce_frame | apply State.setRoll_frame | apply State.holdStation_frame)
    all_goals first | assumption | exact within_trans hW (within_of (by decide)) | exact within_group hW .linkRegs (by decide) rfl | exact within_group hW .memRegs (by decide) rfl | exact within_group hW .cchRegs (by decide) rfl | exact within_group hW .srvRegs (by decide) rfl | exact within_group hW .motRegs (by decide) rfl | exact within_group hW .rchRegs (by decide) rfl | exact within_group hW .recRegs (by decide) rfl | exact within_group hW .fwuRegs (by decide) rfl

theorem State.goRoll_frame {W : Nat} {s₀ s : State} (hs : Frame W s₀ s) (hW : within 37726961416898 W := by first | assumption | exact within_trans (by assumption) (within_of (by decide))) : Frame W s₀ s.goRoll := State.advanceRoll_frame hs _

theorem State.startRoll_frame {W : Nat} {s₀ s : State} (hs : Frame W s₀ s) (cmd : Option Nat) (classes : Nat) (hW : within 37726961416898 W) :
    Frame W s₀ (State.startRoll s cmd classes) := by
  unfold State.startRoll
  try dsimp only
  repeat' with_reducible (first | assumption | apply frameRes_next | apply frameOpt_none | apply frameOpt_some | apply State.forEach_frame | apply State.when_frame | apply foldl_frame | apply foldl_fst_frame | apply foldl_snd_frame | intro _ | split | apply State.setLeft_frame | apply State.put_frame | apply State.setRoll_frame | apply State.goRoll_frame | apply frameOpt_get (by assumption) | dsimp only)
  all_goals first | assumption | exact within_trans hW (within_of (by decide)) | exact within_group hW .linkRegs (by decide) rfl | exact within_group hW .memRegs (by decide) rfl | exact within_group hW .cchRegs (by decide) rfl | exact within_group hW .srvRegs (by decide) rfl | exact within_group hW .motRegs (by decide) rfl | exact within_group hW .rchRegs (by decide) rfl | exact within_group hW .recRegs (by decide) rfl | exact within_group hW .fwuRegs (by decide) rfl

theorem State.cancelRoll_frame {W : Nat} {s₀ s : State} (hs : Frame W s₀ s) (hW : within 37726961416898 W) :
    Frame W s₀ (State.cancelRoll s) := by
  unfold State.cancelRoll
  try dsimp only
  repeat' with_reducible (first | assumption | apply frameRes_next | apply frameOpt_none | apply frameOpt_some | apply State.forEach_frame | apply State.when_frame | apply foldl_frame | apply foldl_fst_frame | apply foldl_snd_frame | intro _ | split | apply State.setRoll_frame | apply State.goRoll_frame | apply frameOpt_get (by assumption) | dsimp only)
  all_goals first | assumption | exact within_trans hW (within_of (by decide)) | exact within_group hW .linkRegs (by decide) rfl | exact within_group hW .memRegs (by decide) rfl | exact within_group hW .cchRegs (by decide) rfl | exact within_group hW .srvRegs (by decide) rfl | exact within_group hW .motRegs (by decide) rfl | exact within_group hW .rchRegs (by decide) rfl | exact within_group hW .recRegs (by decide) rfl | exact within_group hW .fwuRegs (by decide) rfl

theorem execFwActivateRolling_frame {W : Nat} {s₀ s : State} (hs : Frame W s₀ s) (h : Nat) (hW : within 37726961416898 W) :
    FrameRes W s₀ (execFwActivateRolling h s) := by
  unfold execFwActivateRolling
  try dsimp only
  repeat' with_reducible (first | assumption | apply frameRes_next | apply frameOpt_none | apply frameOpt_some | apply State.forEach_frame | apply State.when_frame | apply foldl_frame | apply foldl_fst_frame | apply foldl_snd_frame | intro _ | split | apply State.goRoll_frame | apply State.refuse_frame | apply State.cancelRoll_frame | apply State.finish_frame | apply State.setCmd_frame | apply State.startRoll_frame | apply frameOpt_get (by assumption) | dsimp only)
  all_goals first | assumption | exact within_trans hW (within_of (by decide)) | exact within_group hW .linkRegs (by decide) rfl | exact within_group hW .memRegs (by decide) rfl | exact within_group hW .cchRegs (by decide) rfl | exact within_group hW .srvRegs (by decide) rfl | exact within_group hW .motRegs (by decide) rfl | exact within_group hW .rchRegs (by decide) rfl | exact within_group hW .recRegs (by decide) rfl | exact within_group hW .fwuRegs (by decide) rfl

theorem execFwRoll_frame {W : Nat} {s₀ s : State} (hs : Frame W s₀ s) (classes : Fin 16) (hW : within 37726961416898 W) :
    FrameRes W s₀ (execFwRoll classes s) := by
  unfold execFwRoll
  try dsimp only
  repeat' with_reducible (first | assumption | apply frameRes_next | apply frameOpt_none | apply frameOpt_some | apply State.forEach_frame | apply State.when_frame | apply foldl_frame | apply foldl_fst_frame | apply foldl_snd_frame | intro _ | split | apply State.put_frame | apply State.goRoll_frame | apply State.startRoll_frame | apply frameOpt_get (by assumption) | dsimp only)
  all_goals first | assumption | exact within_trans hW (within_of (by decide)) | exact within_group hW .linkRegs (by decide) rfl | exact within_group hW .memRegs (by decide) rfl | exact within_group hW .cchRegs (by decide) rfl | exact within_group hW .srvRegs (by decide) rfl | exact within_group hW .motRegs (by decide) rfl | exact within_group hW .rchRegs (by decide) rfl | exact within_group hW .recRegs (by decide) rfl | exact within_group hW .fwuRegs (by decide) rfl

theorem execFwCancel_frame {W : Nat} {s₀ s : State} (hs : Frame W s₀ s) (hW : within 37726961416898 W) :
    FrameRes W s₀ (execFwCancel s) := by
  unfold execFwCancel
  try dsimp only
  repeat' with_reducible (first | assumption | apply frameRes_next | apply frameOpt_none | apply frameOpt_some | apply State.forEach_frame | apply State.when_frame | apply foldl_frame | apply foldl_fst_frame | apply foldl_snd_frame | intro _ | split | apply State.cancelRoll_frame | apply frameOpt_get (by assumption) | dsimp only)
  all_goals first | assumption | exact within_trans hW (within_of (by decide)) | exact within_group hW .linkRegs (by decide) rfl | exact within_group hW .memRegs (by decide) rfl | exact within_group hW .cchRegs (by decide) rfl | exact within_group hW .srvRegs (by decide) rfl | exact within_group hW .motRegs (by decide) rfl | exact within_group hW .rchRegs (by decide) rfl | exact within_group hW .recRegs (by decide) rfl | exact within_group hW .fwuRegs (by decide) rfl

theorem State.setSummit_frame {W : Nat} {s₀ s : State} (hs : Frame W s₀ s) (m : Option FwSummit) (hW : within 2199023386624 W) :
    Frame W s₀ (State.setSummit s m) := by
  unfold State.setSummit
  try dsimp only
  repeat' with_reducible (first | assumption | apply frameRes_next | apply frameOpt_none | apply frameOpt_some | apply State.forEach_frame | apply State.when_frame | apply foldl_frame | apply foldl_fst_frame | apply foldl_snd_frame | intro _ | split | apply State.showFw_frame | apply frameOpt_get (by assumption) | apply Frame.set_fw | dsimp only)
  all_goals first | assumption | exact within_trans hW (within_of (by decide)) | exact within_group hW .fwuRegs (by decide) rfl

theorem State.adoptSummit_frame {W : Nat} {s₀ s : State} (hs : Frame W s₀ s) (m : FwSummit) (hW : within 2199090528256 W) :
    Frame W s₀ (State.adoptSummit s m) := by
  unfold State.adoptSummit
  try dsimp only
  repeat' with_reducible (first | assumption | apply frameRes_next | apply frameOpt_none | apply frameOpt_some | apply State.forEach_frame | apply State.when_frame | apply foldl_frame | apply foldl_fst_frame | apply foldl_snd_frame | intro _ | split | apply State.setSummit_frame | apply State.put_frame | apply State.post_frame | apply frameOpt_get (by assumption) | dsimp only)
  all_goals first | assumption | exact within_trans hW (within_of (by decide)) | exact within_group hW .mblRegs (by decide) rfl | exact within_group hW .fwuRegs (by decide) rfl

theorem State.dropSummit_frame {W : Nat} {s₀ s : State} (hs : Frame W s₀ s) (hW : within 2199023419392 W) :
    Frame W s₀ (State.dropSummit s) := by
  unfold State.dropSummit
  try dsimp only
  repeat' with_reducible (first | assumption | apply frameRes_next | apply frameOpt_none | apply frameOpt_some | apply State.forEach_frame | apply State.when_frame | apply foldl_frame | apply foldl_fst_frame | apply foldl_snd_frame | intro _ | split | apply State.setSummit_frame | apply State.put_frame | apply frameOpt_get (by assumption) | apply Frame.set_fw | dsimp only)
  all_goals first | assumption | exact within_trans hW (within_of (by decide)) | exact within_group hW .mblRegs (by decide) rfl | exact within_group hW .fwuRegs (by decide) rfl

theorem State.barrierEnded_frame {W : Nat} {s₀ s : State} (hs : Frame W s₀ s) (purpose : Nat) (hW : within 54976890175490 W) :
    Frame W s₀ (State.barrierEnded s purpose) := by
  unfold State.barrierEnded
  try dsimp only
  repeat' with_reducible (first | assumption | apply frameRes_next | apply frameOpt_none | apply frameOpt_some | apply State.forEach_frame | apply State.when_frame | apply foldl_frame | apply foldl_fst_frame | apply foldl_snd_frame | intro _ | split | apply State.tellTree_frame | apply State.dropSummit_frame | apply State.post_frame | apply State.finish_frame | apply State.setSummit_frame | apply State.snapFinish_frame | apply frameOpt_get (by assumption) | dsimp only)
  all_goals first | assumption | exact within_trans hW (within_of (by decide)) | exact within_group hW .linkRegs (by decide) rfl | exact within_group hW .mblRegs (by decide) rfl | exact within_group hW .fwuRegs (by decide) rfl

theorem State.startBarrier_frame {W : Nat} {s₀ s : State} (hs : Frame W s₀ s) (purpose : Nat) (hW : within 54976890175490 W) :
    Frame W s₀ (State.startBarrier s purpose) := by
  unfold State.startBarrier
  try dsimp only
  repeat' with_reducible (first | assumption | apply frameRes_next | apply frameOpt_none | apply frameOpt_some | apply State.forEach_frame | apply State.when_frame | apply foldl_frame | apply foldl_fst_frame | apply foldl_snd_frame | intro _ | split | apply State.barrierEnded_frame | apply State.tellTree_frame | apply frameOpt_get (by assumption) | apply Frame.set_mbl | dsimp only)
  all_goals first | assumption | exact within_trans hW (within_of (by decide)) | exact within_group hW .linkRegs (by decide) rfl | exact within_group hW .mblRegs (by decide) rfl | exact within_group hW .fwuRegs (by decide) rfl

theorem execFwActivateSummit_frame {W : Nat} {s₀ s : State} (hs : Frame W s₀ s) (h : Nat) (hW : within 54976890175490 W) :
    FrameRes W s₀ (execFwActivateSummit h s) := by
  unfold execFwActivateSummit
  try dsimp only
  repeat' with_reducible (first | assumption | apply frameRes_next | apply frameOpt_none | apply frameOpt_some | apply State.forEach_frame | apply State.when_frame | apply foldl_frame | apply foldl_fst_frame | apply foldl_snd_frame | intro _ | split | apply State.refuse_frame | apply State.setCmd_frame | apply State.tellTree_frame | apply State.adoptSummit_frame | apply State.startBarrier_frame | apply frameOpt_get (by assumption) | dsimp only)
  all_goals first | assumption | exact within_trans hW (within_of (by decide)) | exact within_group hW .linkRegs (by decide) rfl | exact within_group hW .mblRegs (by decide) rfl | exact within_group hW .fwuRegs (by decide) rfl

theorem execFwSummitCancel_frame {W : Nat} {s₀ s : State} (hs : Frame W s₀ s) (h : Nat) (hW : within 54976892272642 W) :
    FrameRes W s₀ (execFwSummitCancel h s) := by
  unfold execFwSummitCancel
  try dsimp only
  repeat' with_reducible (first | assumption | apply frameRes_next | apply frameOpt_none | apply frameOpt_some | apply State.forEach_frame | apply State.when_frame | apply foldl_frame | apply foldl_fst_frame | apply foldl_snd_frame | intro _ | split | apply State.refuse_frame | apply State.tellTree_frame | apply State.dropSummit_frame | apply State.takeFree_frame | apply State.finish_frame | apply frameOpt_get (by assumption) | dsimp only)
  all_goals first | assumption | exact within_trans hW (within_of (by decide)) | exact within_group hW .linkRegs (by decide) rfl | exact within_group hW .mblRegs (by decide) rfl | exact within_group hW .fwuRegs (by decide) rfl

theorem execSummitSet_frame {W : Nat} {s₀ s : State} (hs : Frame W s₀ s) (hW : within 54975782879234 W) :
    FrameRes W s₀ (execSummitSet s) := by
  unfold execSummitSet
  try dsimp only
  repeat' with_reducible (first | assumption | apply frameRes_next | apply frameOpt_none | apply frameOpt_some | apply State.forEach_frame | apply State.when_frame | apply foldl_frame | apply foldl_fst_frame | apply foldl_snd_frame | intro _ | split | apply State.takeFirst_frame (by assumption) | apply State.adoptSummit_frame | apply State.route_frame | apply State.dropSummit_frame | apply frameOpt_get (by assumption) | apply Frame.set_fw | dsimp only)
  all_goals first | assumption | exact within_trans hW (within_of (by decide)) | exact within_group hW .linkRegs (by decide) rfl | exact within_group hW .mblRegs (by decide) rfl | exact within_group hW .fwuRegs (by decide) rfl

theorem execSummitDrainStart_frame {W : Nat} {s₀ s : State} (hs : Frame W s₀ s) (hW : within 2199023255552 W) :
    FrameRes W s₀ (execSummitDrainStart s) := by
  unfold execSummitDrainStart
  try dsimp only
  repeat' with_reducible (first | assumption | apply frameRes_next | apply frameOpt_none | apply frameOpt_some | apply State.forEach_frame | apply State.when_frame | apply foldl_frame | apply foldl_fst_frame | apply foldl_snd_frame | intro _ | split | apply frameOpt_get (by assumption) | apply Frame.set_fw | dsimp only)
  all_goals first | assumption | exact within_trans hW (within_of (by decide))

theorem State.summitDone_frame {W : Nat} {s₀ s : State} (hs : Frame W s₀ s) (m : FwSummit) (hW : within 54976890175490 W) :
    Frame W s₀ (State.summitDone s m) := by
  unfold State.summitDone
  try dsimp only
  repeat' with_reducible (first | assumption | apply frameRes_next | apply frameOpt_none | apply frameOpt_some | apply State.forEach_frame | apply State.when_frame | apply foldl_frame | apply foldl_fst_frame | apply foldl_snd_frame | intro _ | split | apply State.activated_frame | apply State.intoForce_frame | apply State.post_frame | apply State.put_frame | apply State.setSummit_frame | apply State.startBarrier_frame | apply frameOpt_get (by assumption) | apply Frame.set_fw | dsimp only)
  all_goals first | assumption | exact within_trans hW (within_of (by decide)) | exact within_group hW .linkRegs (by decide) rfl | exact within_group hW .mblRegs (by decide) rfl | exact within_group hW .fwuRegs (by decide) rfl

theorem State.goSummit_frame {W : Nat} {s₀ s : State} (hs : Frame W s₀ s) (hW : within 54976890175490 W) :
    Frame W s₀ (State.goSummit s) := by
  unfold State.goSummit
  try dsimp only
  repeat' with_reducible (first | assumption | apply frameRes_next | apply frameOpt_none | apply frameOpt_some | apply State.forEach_frame | apply State.when_frame | apply foldl_frame | apply foldl_fst_frame | apply foldl_snd_frame | intro _ | split | apply State.summitDone_frame | apply State.setSummit_frame | apply frameOpt_get (by assumption) | dsimp only)
  all_goals first | assumption | exact within_trans hW (within_of (by decide)) | exact within_group hW .linkRegs (by decide) rfl | exact within_group hW .mblRegs (by decide) rfl | exact within_group hW .fwuRegs (by decide) rfl

theorem execSummit_frame {W : Nat} {s₀ s : State} (hs : Frame W s₀ s) (hW : within 64802435301058 W) :
    FrameRes W s₀ (execSummit s) := by
  unfold execSummit
  try dsimp only
  repeat' with_reducible (first | assumption | apply frameRes_next | apply frameOpt_none | apply frameOpt_some | apply State.forEach_frame | apply State.when_frame | apply foldl_frame | apply foldl_fst_frame | apply foldl_snd_frame | intro _ | split | apply State.stopAny_frame | apply State.stopAtBoundary_frame | apply State.setCode_frame | apply State.put_frame | apply State.setSummit_frame | apply State.goSummit_frame | apply frameOpt_get (by assumption) | apply Frame.set_fw | dsimp only)
  all_goals first | assumption | exact within_trans hW (within_of (by decide)) | exact within_group hW .linkRegs (by decide) rfl | exact within_group hW .memRegs (by decide) rfl | exact within_group hW .cchRegs (by decide) rfl | exact within_group hW .srvRegs (by decide) rfl | exact within_group hW .spnRegs (by decide) rfl | exact within_group hW .motRegs (by decide) rfl | exact within_group hW .rchRegs (by decide) rfl | exact within_group hW .recRegs (by decide) rfl | exact within_group hW .calRegs (by decide) rfl | exact within_group hW .mblRegs (by decide) rfl | exact within_group hW .fwuRegs (by decide) rfl

theorem execProcessorReady_frame {W : Nat} {s₀ s : State} (hs : Frame W s₀ s) (p : Fin 36) (hW : within 64802435563202 W) :
    FrameRes W s₀ (execProcessorReady p s) := by
  unfold execProcessorReady
  try dsimp only
  repeat' with_reducible (first | assumption | apply frameRes_next | apply frameOpt_none | apply frameOpt_some | apply State.forEach_frame | apply State.when_frame | apply foldl_frame | apply foldl_fst_frame | apply foldl_snd_frame | intro _ | split | apply State.setSummit_frame | apply State.goSummit_frame | apply State.activated_frame | apply State.incSat_frame | apply State.post_frame | apply State.setRoll_frame | apply State.showVersions_frame | apply State.serveReset_frame | apply State.goRoll_frame | apply frameOpt_get (by assumption) | dsimp only)
  all_goals first | assumption | exact within_trans hW (within_of (by decide)) | exact within_group hW .linkRegs (by decide) rfl | exact within_group hW .memRegs (by decide) rfl | exact within_group hW .cchRegs (by decide) rfl | exact within_group hW .srvRegs (by decide) rfl | exact within_group hW .spnRegs (by decide) rfl | exact within_group hW .motRegs (by decide) rfl | exact within_group hW .rchRegs (by decide) rfl | exact within_group hW .recRegs (by decide) rfl | exact within_group hW .calRegs (by decide) rfl | exact within_group hW .mblRegs (by decide) rfl | exact within_group hW .fwuRegs (by decide) rfl | exact within_group hW .sysRegs (by decide) rfl

theorem execActivationTimeout_frame {W : Nat} {s₀ s : State} (hs : Frame W s₀ s) (p : Fin 36) (hW : within 64802435563202 W) :
    FrameRes W s₀ (execActivationTimeout p s) := by
  unfold execActivationTimeout
  try dsimp only
  repeat' with_reducible (first | assumption | apply frameRes_next | apply frameOpt_none | apply frameOpt_some | apply State.forEach_frame | apply State.when_frame | apply foldl_frame | apply foldl_fst_frame | apply foldl_snd_frame | intro _ | split | apply State.setCode_frame | apply State.showVersions_frame | apply State.put_frame | apply State.raise_frame | apply State.setSummit_frame | apply State.startBarrier_frame | apply State.endRoll_frame | apply State.releaseStation_frame | apply State.serveReset_frame | apply frameOpt_get (by assumption) | apply Frame.set_fw | dsimp only)
  all_goals first | assumption | exact within_trans hW (within_of (by decide)) | exact within_group hW .linkRegs (by decide) rfl | exact within_group hW .memRegs (by decide) rfl | exact within_group hW .cchRegs (by decide) rfl | exact within_group hW .srvRegs (by decide) rfl | exact within_group hW .spnRegs (by decide) rfl | exact within_group hW .motRegs (by decide) rfl | exact within_group hW .rchRegs (by decide) rfl | exact within_group hW .recRegs (by decide) rfl | exact within_group hW .calRegs (by decide) rfl | exact within_group hW .mblRegs (by decide) rfl | exact within_group hW .fwuRegs (by decide) rfl | exact within_group hW .sysRegs (by decide) rfl

theorem execProcessorFault_frame {W : Nat} {s₀ s : State} (hs : Frame W s₀ s) (p : Fin 36) (watchdog : Bool) (hW : within 64802435432139 W) :
    FrameRes W s₀ (execProcessorFault p watchdog s) := by
  unfold execProcessorFault
  try dsimp only
  repeat' with_reducible (first | assumption | apply frameRes_next | apply frameOpt_none | apply frameOpt_some | apply State.forEach_frame | apply State.when_frame | apply foldl_frame | apply foldl_fst_frame | apply foldl_snd_frame | intro _ | split | apply State.post_frame | apply State.stationReset_frame | apply State.wedge_frame | apply frameOpt_get (by assumption) | dsimp only)
  all_goals first | assumption | exact within_trans hW (within_of (by decide)) | exact within_group hW .fnRegs (by decide) rfl | exact within_group hW .linkRegs (by decide) rfl | exact within_group hW .winRegs (by decide) rfl | exact within_group hW .memRegs (by decide) rfl | exact within_group hW .cchRegs (by decide) rfl | exact within_group hW .srvRegs (by decide) rfl | exact within_group hW .spnRegs (by decide) rfl | exact within_group hW .motRegs (by decide) rfl | exact within_group hW .rchRegs (by decide) rfl | exact within_group hW .recRegs (by decide) rfl | exact within_group hW .calRegs (by decide) rfl | exact within_group hW .mblRegs (by decide) rfl | exact within_group hW .sysRegs (by decide) rfl

end Sys2Proof.Machine
end

