-- ==== Sys2Proof/Laws/FrameTree.lean ====
section
/-!
SUPPORT. What the operations and commands of Machine/Tree.lean leave as it was: all parts outside a mask.
-/
set_option Elab.async false
set_option linter.all false
namespace Sys2Proof.Machine
set_option maxRecDepth 2000

theorem State.flushEventsUp_frame {W : Nat} {s₀ s : State} (hs : Frame W s₀ s) (hW : within 52776759492610 W) :
    Frame W s₀ (State.flushEventsUp s) := by
  unfold State.flushEventsUp
  try dsimp only
  repeat' with_reducible (first | assumption | apply frameRes_next | apply frameOpt_none | apply frameOpt_some | apply State.forEach_frame | apply State.when_frame | apply foldl_frame | apply foldl_fst_frame | apply foldl_snd_frame | intro _ | split | apply State.sendEventUp_frame | apply frameOpt_get (by assumption) | apply Frame.set_events | dsimp only)
  all_goals first | assumption | exact within_trans hW (within_of (by decide)) | exact within_group hW .linkRegs (by decide) rfl | exact within_group hW .mblRegs (by decide) rfl

theorem State.endBarriers_frame {W : Nat} {s₀ s : State} (hs : Frame W s₀ s) (hW : within 54976890175490 W) :
    Frame W s₀ (State.endBarriers s) := by
  unfold State.endBarriers
  try dsimp only
  repeat' with_reducible (first | assumption | apply frameRes_next | apply frameOpt_none | apply frameOpt_some | apply State.forEach_frame | apply State.when_frame | apply foldl_frame | apply foldl_fst_frame | apply foldl_snd_frame | intro _ | split | apply State.barrierEnded_frame | apply State.flushEventsUp_frame | apply State.sendOn_frame | apply frameOpt_get (by assumption) | apply Frame.set_mbl | dsimp only)
  all_goals first | assumption | exact within_trans hW (within_of (by decide)) | exact within_group hW .linkRegs (by decide) rfl | exact within_group hW .mblRegs (by decide) rfl | exact within_group hW .fwuRegs (by decide) rfl

theorem execBarrier_frame {W : Nat} {s₀ s : State} (hs : Frame W s₀ s) (hW : within 54976890175490 W) :
    FrameRes W s₀ (execBarrier s) := by
  unfold execBarrier
  try dsimp only
  repeat' with_reducible (first | assumption | apply frameRes_next | apply frameOpt_none | apply frameOpt_some | apply State.forEach_frame | apply State.when_frame | apply foldl_frame | apply foldl_fst_frame | apply foldl_snd_frame | intro _ | split | apply State.endBarriers_frame | apply frameOpt_get (by assumption) | apply Frame.set_mbl | dsimp only)
  all_goals first | assumption | exact within_trans hW (within_of (by decide)) | exact within_group hW .linkRegs (by decide) rfl | exact within_group hW .mblRegs (by decide) rfl | exact within_group hW .fwuRegs (by decide) rfl

theorem execBarrierAck_frame {W : Nat} {s₀ s : State} (hs : Frame W s₀ s) (hW : within 54976890175490 W) :
    FrameRes W s₀ (execBarrierAck s) := by
  unfold execBarrierAck
  try dsimp only
  repeat' with_reducible (first | assumption | apply frameRes_next | apply frameOpt_none | apply frameOpt_some | apply State.forEach_frame | apply State.when_frame | apply foldl_frame | apply foldl_fst_frame | apply foldl_snd_frame | intro _ | split | apply State.takeFirst_frame (by assumption) | apply State.endBarriers_frame | apply frameOpt_get (by assumption) | apply Frame.set_mbl | dsimp only)
  all_goals first | assumption | exact within_trans hW (within_of (by decide)) | exact within_group hW .linkRegs (by decide) rfl | exact within_group hW .mblRegs (by decide) rfl | exact within_group hW .fwuRegs (by decide) rfl

theorem execSnapshot_frame {W : Nat} {s₀ s : State} (hs : Frame W s₀ s) (h : Nat) (hW : within 52777866788866 W) :
    FrameRes W s₀ (execSnapshot h s) := by
  unfold execSnapshot
  try dsimp only
  repeat' with_reducible (first | assumption | apply frameRes_next | apply frameOpt_none | apply frameOpt_some | apply State.forEach_frame | apply State.when_frame | apply foldl_frame | apply foldl_fst_frame | apply foldl_snd_frame | intro _ | split | apply State.refuse_frame | apply State.setCmd_frame | apply State.tellTree_frame | apply frameOpt_get (by assumption) | apply Frame.set_mbl | dsimp only)
  all_goals first | assumption | exact within_trans hW (within_of (by decide)) | exact within_group hW .linkRegs (by decide) rfl | exact within_group hW .mblRegs (by decide) rfl

theorem State.latchSnap_frame {W : Nat} {s₀ s : State} (hs : Frame W s₀ s) (late : Bool) (hW : within 54976890175490 W) :
    Frame W s₀ (State.latchSnap s late) := by
  unfold State.latchSnap
  try dsimp only
  repeat' with_reducible (first | assumption | apply frameRes_next | apply frameOpt_none | apply frameOpt_some | apply State.forEach_frame | apply State.when_frame | apply foldl_frame | apply foldl_fst_frame | apply foldl_snd_frame | intro _ | split | apply State.put_frame | apply State.startBarrier_frame | apply State.route_frame | apply frameOpt_get (by assumption) | apply Frame.set_mbl | dsimp only)
  all_goals first | assumption | exact within_trans hW (within_of (by decide)) | exact within_group hW .linkRegs (by decide) rfl | exact within_group hW .mblRegs (by decide) rfl | exact within_group hW .fwuRegs (by decide) rfl

theorem execSnapArm_frame {W : Nat} {s₀ s : State} (hs : Frame W s₀ s) (hW : within 54976890175490 W) :
    FrameRes W s₀ (execSnapArm s) := by
  unfold execSnapArm
  try dsimp only
  repeat' with_reducible (first | assumption | apply frameRes_next | apply frameOpt_none | apply frameOpt_some | apply State.forEach_frame | apply State.when_frame | apply foldl_frame | apply foldl_fst_frame | apply foldl_snd_frame | intro _ | split | apply State.takeFirst_frame (by assumption) | apply State.put_frame | apply State.latchSnap_frame | apply frameOpt_get (by assumption) | apply Frame.set_mbl | dsimp only)
  all_goals first | assumption | exact within_trans hW (within_of (by decide)) | exact within_group hW .linkRegs (by decide) rfl | exact within_group hW .mblRegs (by decide) rfl | exact within_group hW .fwuRegs (by decide) rfl

theorem execSnapshotLatch_frame {W : Nat} {s₀ s : State} (hs : Frame W s₀ s) (hW : within 54976890175490 W) :
    FrameRes W s₀ (execSnapshotLatch s) := by
  unfold execSnapshotLatch
  try dsimp only
  repeat' with_reducible (first | assumption | apply frameRes_next | apply frameOpt_none | apply frameOpt_some | apply State.forEach_frame | apply State.when_frame | apply foldl_frame | apply foldl_fst_frame | apply foldl_snd_frame | intro _ | split | apply State.latchSnap_frame | apply frameOpt_get (by assumption) | dsimp only)
  all_goals first | assumption | exact within_trans hW (within_of (by decide)) | exact within_group hW .linkRegs (by decide) rfl | exact within_group hW .mblRegs (by decide) rfl | exact within_group hW .fwuRegs (by decide) rfl

theorem State.resetErr_frame {W : Nat} {s₀ s : State} (hs : Frame W s₀ s) (hW : within 32768 W) :
    Frame W s₀ (State.resetErr s) := by
  unfold State.resetErr
  try dsimp only
  repeat' with_reducible (first | assumption | apply frameRes_next | apply frameOpt_none | apply frameOpt_some | apply State.forEach_frame | apply State.when_frame | apply foldl_frame | apply foldl_fst_frame | apply foldl_snd_frame | intro _ | split | apply State.put_frame | apply frameOpt_get (by assumption) | dsimp only)
  all_goals first | assumption | exact within_trans hW (within_of (by decide)) | exact within_group hW .mblRegs (by decide) rfl

theorem State.resetFields_frame {W : Nat} {s₀ s : State} (hs : Frame W s₀ s) (kind target : Nat) (hW : within 32768 W) :
    Frame W s₀ (State.resetFields s kind target) := by
  unfold State.resetFields
  try dsimp only
  repeat' with_reducible (first | assumption | apply frameRes_next | apply frameOpt_none | apply frameOpt_some | apply State.forEach_frame | apply State.when_frame | apply foldl_frame | apply foldl_fst_frame | apply foldl_snd_frame | intro _ | split | apply State.put_frame | apply frameOpt_get (by assumption) | dsimp only)
  all_goals first | assumption | exact within_trans hW (within_of (by decide)) | exact within_group hW .mblRegs (by decide) rfl

theorem State.sendReset_frame {W : Nat} {s₀ s : State} (hs : Frame W s₀ s) (q target kind : Nat) (hW : within 52776759492610 W) :
    Frame W s₀ (State.sendReset s q target kind) := by
  unfold State.sendReset
  try dsimp only
  repeat' with_reducible (first | assumption | apply frameRes_next | apply frameOpt_none | apply frameOpt_some | apply State.forEach_frame | apply State.when_frame | apply foldl_frame | apply foldl_fst_frame | apply foldl_snd_frame | intro _ | split | apply State.put_frame | apply State.sendOn_frame | apply frameOpt_get (by assumption) | dsimp only)
  all_goals first | assumption | exact within_trans hW (within_of (by decide)) | exact within_group hW .linkRegs (by decide) rfl | exact within_group hW .mblRegs (by decide) rfl

theorem State.resetBegun_frame {W : Nat} {s₀ s : State} (hs : Frame W s₀ s) (kind : Nat) (waiting : List Nat) (hW : within 17592186077184 W) :
    Frame W s₀ (State.resetBegun s kind waiting) := by
  unfold State.resetBegun
  try dsimp only
  repeat' with_reducible (first | assumption | apply frameRes_next | apply frameOpt_none | apply frameOpt_some | apply State.forEach_frame | apply State.when_frame | apply foldl_frame | apply foldl_fst_frame | apply foldl_snd_frame | intro _ | split | apply State.put_frame | apply frameOpt_get (by assumption) | apply Frame.set_mbl | dsimp only)
  all_goals first | assumption | exact within_trans hW (within_of (by decide)) | exact within_group hW .mblRegs (by decide) rfl

theorem execTreeResetStation_frame {W : Nat} {s₀ s : State} (hs : Frame W s₀ s) (target : BitVec 24) (hW : within 64802435432130 W) :
    FrameRes W s₀ (execTreeResetStation target s) := by
  unfold execTreeResetStation
  try dsimp only
  repeat' with_reducible (first | assumption | apply frameRes_next | apply frameOpt_none | apply frameOpt_some | apply State.forEach_frame | apply State.when_frame | apply foldl_frame | apply foldl_fst_frame | apply foldl_snd_frame | intro _ | split | apply State.resetFields_frame | apply State.resetErr_frame | apply State.sendReset_frame | apply State.stationReset_frame | apply State.resetBegun_frame | apply frameOpt_get (by assumption) | dsimp only)
  all_goals first | assumption | exact within_trans hW (within_of (by decide)) | exact within_group hW .linkRegs (by decide) rfl | exact within_group hW .memRegs (by decide) rfl | exact within_group hW .cchRegs (by decide) rfl | exact within_group hW .srvRegs (by decide) rfl | exact within_group hW .spnRegs (by decide) rfl | exact within_group hW .motRegs (by decide) rfl | exact within_group hW .rchRegs (by decide) rfl | exact within_group hW .recRegs (by decide) rfl | exact within_group hW .calRegs (by decide) rfl | exact within_group hW .mblRegs (by decide) rfl | exact within_group hW .sysRegs (by decide) rfl

theorem execTreeResetDevice_frame {W : Nat} {s₀ s : State} (hs : Frame W s₀ s) (target last : BitVec 24) (hW : within 52777866788866 W) :
    FrameRes W s₀ (execTreeResetDevice target last s) := by
  unfold execTreeResetDevice
  try dsimp only
  repeat' with_reducible (first | assumption | apply frameRes_next | apply frameOpt_none | apply frameOpt_some | apply State.forEach_frame | apply State.when_frame | apply foldl_frame | apply foldl_fst_frame | apply foldl_snd_frame | intro _ | split | apply State.resetFields_frame | apply State.resetErr_frame | apply State.sendReset_frame | apply State.endForwarded_frame | apply State.resetBegun_frame | apply frameOpt_get (by assumption) | dsimp only)
  all_goals first | assumption | exact within_trans hW (within_of (by decide)) | exact within_group hW .linkRegs (by decide) rfl | exact within_group hW .mblRegs (by decide) rfl

theorem State.ackReset_frame {W : Nat} {s₀ s : State} (hs : Frame W s₀ s) (hW : within 52776759492610 W := by first | assumption | exact within_trans (by assumption) (within_of (by decide))) :
    Frame W s₀ (State.ackReset s) := by
  unfold State.ackReset
  try dsimp only
  repeat' with_reducible (first | assumption | apply frameRes_next | apply frameOpt_none | apply frameOpt_some | apply State.forEach_frame | apply State.when_frame | apply foldl_frame | apply foldl_fst_frame | apply foldl_snd_frame | intro _ | split | apply State.sendOn_frame | apply frameOpt_get (by assumption) | apply Frame.set_mbl | dsimp only)
  all_goals first | assumption | exact within_trans hW (within_of (by decide)) | exact within_group hW .linkRegs (by decide) rfl | exact within_group hW .mblRegs (by decide) rfl

theorem State.resetAcked_frame {W : Nat} {s₀ s : State} (hs : Frame W s₀ s) (q : Nat) (hW : within 17592186044416 W := by first | assumption | exact within_trans (by assumption) (within_of (by decide))) :
    Frame W s₀ (State.resetAcked s q) := by
  unfold State.resetAcked
  try dsimp only
  repeat' with_reducible (first | assumption | apply frameRes_next | apply frameOpt_none | apply frameOpt_some | apply State.forEach_frame | apply State.when_frame | apply foldl_frame | apply foldl_fst_frame | apply foldl_snd_frame | intro _ | split | apply frameOpt_get (by assumption) | apply Frame.set_mbl | dsimp only)
  all_goals first | assumption | exact within_trans hW (within_of (by decide))

theorem State.resetOver_frame {W : Nat} {s₀ s : State} (hs : Frame W s₀ s) (hW : within 17592186077184 W) :
    Frame W s₀ (State.resetOver s) := by
  unfold State.resetOver
  try dsimp only
  repeat' with_reducible (first | assumption | apply frameRes_next | apply frameOpt_none | apply frameOpt_some | apply State.forEach_frame | apply State.when_frame | apply foldl_frame | apply foldl_fst_frame | apply foldl_snd_frame | intro _ | split | apply State.put_frame | apply frameOpt_get (by assumption) | apply Frame.set_mbl | dsimp only)
  all_goals first | assumption | exact within_trans hW (within_of (by decide)) | exact within_group hW .mblRegs (by decide) rfl

theorem execTreeResetAck_frame {W : Nat} {s₀ s : State} (hs : Frame W s₀ s) (hW : within 17592186077184 W) :
    FrameRes W s₀ (execTreeResetAck s) := by
  unfold execTreeResetAck
  try dsimp only
  repeat' with_reducible (first | assumption | apply frameRes_next | apply frameOpt_none | apply frameOpt_some | apply State.forEach_frame | apply State.when_frame | apply foldl_frame | apply foldl_fst_frame | apply foldl_snd_frame | intro _ | split | apply State.takeFirst_frame (by assumption) | apply State.resetAcked_frame | apply State.resetOver_frame | apply frameOpt_get (by assumption) | dsimp only)
  all_goals first | assumption | exact within_trans hW (within_of (by decide)) | exact within_group hW .mblRegs (by decide) rfl

end Sys2Proof.Machine
end

