-- ==== Sys2Proof/Laws/FrameRegAccess.lean ====
section
/-!
SUPPORT. What the operations and commands of Machine/RegAccess.lean leave as it was: all parts outside a mask.
-/
set_option Elab.async false
set_option linter.all false
namespace Sys2Proof.Machine
set_option maxRecDepth 2000

theorem Res.state_frame {W : Nat} {s₀ s : State} {r : Res} (h : FrameRes W s₀ r) (_hs : Frame W s₀ s) : Frame W s₀ (Res.state s r) := by
  obtain ⟨t, rfl, k⟩ := h
  exact k

theorem State.readWord_frame {W : Nat} {s₀ s : State} (hs : Frame W s₀ s) (who : Requester) (fn off : Nat) (hW : within 16777216 W) :
    Frame W s₀ (State.readWord s who fn off).2 := by
  unfold State.readWord
  try dsimp only
  repeat' with_reducible (first | assumption | apply frameRes_next | apply frameOpt_none | apply frameOpt_some | apply State.forEach_frame | apply State.when_frame | apply foldl_frame | apply foldl_fst_frame | apply foldl_snd_frame | intro _ | split | apply State.put_frame | apply frameOpt_get (by assumption) | apply Frame.set_latch | dsimp only)
  all_goals first | assumption | exact within_trans hW (within_of (by decide))

theorem State.readWords_frame {W : Nat} {s₀ s : State} (hs : Frame W s₀ s) (who : Requester) (fn : Nat) (offs : List Nat) (hW : within 16777216 W) :
    Frame W s₀ (State.readWords s who fn offs).2 := by
  unfold State.readWords
  try dsimp only
  repeat' with_reducible (first | assumption | apply frameRes_next | apply frameOpt_none | apply frameOpt_some | apply State.forEach_frame | apply State.when_frame | apply foldl_frame | apply foldl_fst_frame | apply foldl_snd_frame | intro _ | split | apply State.readWord_frame | apply frameOpt_get (by assumption) | dsimp only)
  all_goals first | assumption | exact within_trans hW (within_of (by decide))

theorem State.writeFields_frame {W : Nat} {s₀ s : State} (hs : Frame W s₀ s) (r : RegRow) (ix v : Nat) (hW : within 1048575 W := by first | assumption | exact within_trans (by assumption) (within_of (by decide))) :
    Frame W s₀ (State.writeFields s r ix v) := by
  have hall : ∀ g : Fld, g.within W := by
    intro g
    have k : ∀ p : Part, p ∈ [Part.fnRegs, .linkRegs, .hifRegs, .winRegs, .evtRegs, .ringRegs, .memRegs, .cchRegs, .cipRegs, .srvRegs, .spnRegs, .motRegs, .rchRegs, .recRegs,
        .calRegs, .mblRegs, .hpcRegs, .fwuRegs, .sysRegs, .trcRegs] → W.testBit p.idx = true := by
      intro p hp
      apply within_bit hW
      revert p
      decide
    apply k
    unfold Fld.group
    dsimp only
    have ite : ∀ (c : Prop) [Decidable c] (a b : Part) (l : List Part), a ∈ l → b ∈ l → (if c then a else b) ∈ l := by
      intro c _ a b l ha hb
      by_cases h : c <;> simp [h, ha, hb]
    repeat' apply ite
    all_goals decide
  unfold State.writeFields
  apply foldl_frame hs
  intro t f ht
  split
  · exact State.put_frame ht _ _ (hall _)
  · exact State.put_frame ht _ _ (hall _)
  · exact State.put_frame ht _ _ (hall _)
  · exact ht
  · exact ht

theorem State.onBit_frame {W : Nat} {s₀ s : State} (hs : Frame W s₀ s) (v i : Nat) (f : State → State) (hf : ∀ t, Frame W s₀ t → Frame W s₀ (f t)) (_hW : within 0 W := by first | assumption | exact within_trans (by assumption) (within_of (by decide))) :
    Frame W s₀ (s.onBit v i f) := by
  unfold State.onBit
  split
  · exact hf s hs
  · exact hs

theorem State.writeHost_frame {W : Nat} {s₀ s : State} (hs : Frame W s₀ s) (fn b ix v : Nat) (hW : within 35184607032254 W := by first | assumption | exact within_trans (by assumption) (within_of (by decide))) :
    FrameOpt W s₀ (State.writeHost s fn b ix v) := by
  unfold State.writeHost
  try dsimp only
  repeat' with_reducible (first | assumption | apply frameRes_next | apply frameOpt_none | apply frameOpt_some | apply State.forEach_frame | apply State.when_frame | apply foldl_frame | apply foldl_fst_frame | apply foldl_snd_frame | intro _ | split | apply State.onBit_frame | apply Res.state_frame | apply execWindowCommit_frame | apply execEvtQCfgWrite_frame | apply execClearAll_frame | apply execSqCfgWrite_frame | apply execCqCfgWrite_frame | apply frameOpt_get (by assumption) | dsimp only)
  all_goals first | assumption | exact within_trans hW (within_of (by decide)) | exact within_group hW .linkRegs (by decide) rfl | exact within_group hW .hifRegs (by decide) rfl | exact within_group hW .winRegs (by decide) rfl | exact within_group hW .evtRegs (by decide) rfl | exact within_group hW .ringRegs (by decide) rfl | exact within_group hW .cchRegs (by decide) rfl | exact within_group hW .cipRegs (by decide) rfl | exact within_group hW .srvRegs (by decide) rfl | exact within_group hW .rchRegs (by decide) rfl | exact within_group hW .recRegs (by decide) rfl | exact within_group hW .calRegs (by decide) rfl | exact within_group hW .mblRegs (by decide) rfl

theorem State.writeStore_frame {W : Nat} {s₀ s : State} (hs : Frame W s₀ s) (r : RegRow) (ix v : Nat) (hW : within 12686721023 W := by first | assumption | exact within_trans (by assumption) (within_of (by decide))) :
    FrameOpt W s₀ (State.writeStore s r ix v) := by
  unfold State.writeStore
  try dsimp only
  repeat' with_reducible (first | assumption | apply frameRes_next | apply frameOpt_none | apply frameOpt_some | apply State.forEach_frame | apply State.when_frame | apply foldl_frame | apply foldl_fst_frame | apply foldl_snd_frame | intro _ | split | apply State.put_frame | apply State.writeFields_frame | apply State.onBit_frame | apply Res.state_frame | apply execMemCntClr_frame | apply State.writeInject_frame | apply execCacheEnable_frame | apply execCacheDisable_frame | apply execKeyLoad_frame | apply execKeyErase_frame | apply frameOpt_get (by assumption) | apply Frame.set_cipher | dsimp only)
  all_goals first | assumption | exact within_trans hW (within_of (by decide)) | exact within_group hW .fnRegs (by decide) rfl | exact within_group hW .linkRegs (by decide) rfl | exact within_group hW .hifRegs (by decide) rfl | exact within_group hW .winRegs (by decide) rfl | exact within_group hW .evtRegs (by decide) rfl | exact within_group hW .ringRegs (by decide) rfl | exact within_group hW .memRegs (by decide) rfl | exact within_group hW .cchRegs (by decide) rfl | exact within_group hW .cipRegs (by decide) rfl | exact within_group hW .srvRegs (by decide) rfl | exact within_group hW .spnRegs (by decide) rfl | exact within_group hW .motRegs (by decide) rfl | exact within_group hW .rchRegs (by decide) rfl | exact within_group hW .recRegs (by decide) rfl | exact within_group hW .calRegs (by decide) rfl | exact within_group hW .mblRegs (by decide) rfl | exact within_group hW .hpcRegs (by decide) rfl | exact within_group hW .fwuRegs (by decide) rfl | exact within_group hW .sysRegs (by decide) rfl | exact within_group hW .trcRegs (by decide) rfl

theorem State.writeServo_frame {W : Nat} {s₀ s : State} (hs : Frame W s₀ s) (r : RegRow) (ix v : Nat) (hW : within 35596658540543 W := by first | assumption | exact within_trans (by assumption) (within_of (by decide))) :
    FrameOpt W s₀ (State.writeServo s r ix v) := by
  unfold State.writeServo
  try dsimp only
  repeat' with_reducible (first | assumption | apply frameRes_next | apply frameOpt_none | apply frameOpt_some | apply State.forEach_frame | apply State.when_frame | apply foldl_frame | apply foldl_fst_frame | apply foldl_snd_frame | intro _ | split | apply State.writeFields_frame | apply State.updateCost_frame | apply Res.state_frame | apply execInjEnable_frame | apply State.onBit_frame | apply State.traceArm_frame | apply execTraceStop_frame | apply State.traceFire_frame | apply execBelayReqSet_frame | apply execBelayReqClear_frame | apply State.setFlag_frame | apply execLddLinkEnable_frame | apply State.lddOff_frame | apply State.driveLden_frame | apply execSectEnWrite_frame | apply execSrvPeriodWrite_frame | apply execTrcArm_frame | apply execTrcFire_frame | apply frameOpt_get (by assumption) | dsimp only)
  all_goals first | assumption | exact within_trans hW (within_of (by decide)) | exact within_group hW .fnRegs (by decide) rfl | exact within_group hW .linkRegs (by decide) rfl | exact within_group hW .hifRegs (by decide) rfl | exact within_group hW .winRegs (by decide) rfl | exact within_group hW .evtRegs (by decide) rfl | exact within_group hW .ringRegs (by decide) rfl | exact within_group hW .memRegs (by decide) rfl | exact within_group hW .cchRegs (by decide) rfl | exact within_group hW .cipRegs (by decide) rfl | exact within_group hW .srvRegs (by decide) rfl | exact within_group hW .spnRegs (by decide) rfl | exact within_group hW .motRegs (by decide) rfl | exact within_group hW .rchRegs (by decide) rfl | exact within_group hW .recRegs (by decide) rfl | exact within_group hW .calRegs (by decide) rfl | exact within_group hW .mblRegs (by decide) rfl | exact within_group hW .hpcRegs (by decide) rfl | exact within_group hW .fwuRegs (by decide) rfl | exact within_group hW .sysRegs (by decide) rfl | exact within_group hW .trcRegs (by decide) rfl

theorem State.writeSpindle_frame {W : Nat} {s₀ s : State} (hs : Frame W s₀ s) (r : RegRow) (ix v : Nat) (hW : within 45011226853375 W := by first | assumption | exact within_trans (by assumption) (within_of (by decide))) :
    FrameOpt W s₀ (State.writeSpindle s r ix v) := by
  unfold State.writeSpindle
  try dsimp only
  repeat' with_reducible (first | assumption | apply frameRes_next | apply frameOpt_none | apply frameOpt_some | apply State.forEach_frame | apply State.when_frame | apply foldl_frame | apply foldl_fst_frame | apply foldl_snd_frame | intro _ | split | apply State.put_frame | apply State.writeRun_frame | apply Res.state_frame | apply execSpindleTargetWrite_frame | apply State.writeFields_frame | apply State.onBit_frame | apply execChopFaultClear_frame | apply frameOpt_get (by assumption) | dsimp only)
  all_goals first | assumption | exact within_trans hW (within_of (by decide)) | exact within_group hW .fnRegs (by decide) rfl | exact within_group hW .linkRegs (by decide) rfl | exact within_group hW .hifRegs (by decide) rfl | exact within_group hW .winRegs (by decide) rfl | exact within_group hW .evtRegs (by decide) rfl | exact within_group hW .ringRegs (by decide) rfl | exact within_group hW .memRegs (by decide) rfl | exact within_group hW .cchRegs (by decide) rfl | exact within_group hW .cipRegs (by decide) rfl | exact within_group hW .srvRegs (by decide) rfl | exact within_group hW .spnRegs (by decide) rfl | exact within_group hW .motRegs (by decide) rfl | exact within_group hW .rchRegs (by decide) rfl | exact within_group hW .recRegs (by decide) rfl | exact within_group hW .calRegs (by decide) rfl | exact within_group hW .mblRegs (by decide) rfl | exact within_group hW .hpcRegs (by decide) rfl | exact within_group hW .fwuRegs (by decide) rfl | exact within_group hW .sysRegs (by decide) rfl | exact within_group hW .trcRegs (by decide) rfl

theorem State.writeMotCtrl_frame {W : Nat} {s₀ s : State} (hs : Frame W s₀ s) (x v : Nat) (hW : within 825741019136 W) :
    Frame W s₀ (State.writeMotCtrl s x v) := by
  unfold State.writeMotCtrl
  try dsimp only
  repeat' with_reducible (first | assumption | apply frameRes_next | apply frameOpt_none | apply frameOpt_some | apply State.forEach_frame | apply State.when_frame | apply foldl_frame | apply foldl_fst_frame | apply foldl_snd_frame | intro _ | split | apply Res.state_frame | apply execMotorEmergency_frame | apply execMotorRappel_frame | apply execMotorHome_frame | apply execMotorStart_frame | apply frameOpt_get (by assumption) | dsimp only)
  all_goals first | assumption | exact within_trans hW (within_of (by decide)) | exact within_group hW .motRegs (by decide) rfl

theorem State.writeGrpCtrl_frame {W : Nat} {s₀ s : State} (hs : Frame W s₀ s) (x v : Nat) (hW : within 825741019136 W := by first | assumption | exact within_trans (by assumption) (within_of (by decide))) : Frame W s₀ (s.writeGrpCtrl x v) := by
  unfold State.writeGrpCtrl
  extract_lets g s₁
  have h₁ : Frame W s₀ s₁ := by
    show Frame W s₀ (if _ then _ else _)
    split
    · exact hs
    · exact Res.state_frame (execGroupMembersWrite_frame hs _ _) hs
  clear_value s₁
  repeat' with_reducible (first | assumption | split | apply Res.state_frame | apply execGroupRappel_frame | apply execGroupStart_frame)
  all_goals first | assumption | exact within_trans hW (within_of (by decide)) | exact within_group hW .motRegs (by decide) rfl

theorem State.writeGearCtrl_frame {W : Nat} {s₀ s : State} (hs : Frame W s₀ s) (x v : Nat) (hW : within 274945017856 W) :
    Frame W s₀ (State.writeGearCtrl s x v) := by
  unfold State.writeGearCtrl
  try dsimp only
  repeat' with_reducible (first | assumption | apply frameRes_next | apply frameOpt_none | apply frameOpt_some | apply State.forEach_frame | apply State.when_frame | apply foldl_frame | apply foldl_fst_frame | apply foldl_snd_frame | intro _ | split | apply State.setGear_frame | apply State.onBit_frame | apply State.armGear_frame | apply frameOpt_get (by assumption) | dsimp only)
  all_goals first | assumption | exact within_trans hW (within_of (by decide)) | exact within_group hW .motRegs (by decide) rfl

theorem State.writeMotion_frame {W : Nat} {s₀ s : State} (hs : Frame W s₀ s) (r : RegRow) (ix v : Nat) (hW : within 825809174527 W := by first | assumption | exact within_trans (by assumption) (within_of (by decide))) :
    FrameOpt W s₀ (State.writeMotion s r ix v) := by
  unfold State.writeMotion
  try dsimp only
  repeat' with_reducible (first | assumption | apply frameRes_next | apply frameOpt_none | apply frameOpt_some | apply State.forEach_frame | apply State.when_frame | apply foldl_frame | apply foldl_fst_frame | apply foldl_snd_frame | intro _ | split | apply State.writeMotCtrl_frame | apply Res.state_frame | apply execMotorTargetWrite_frame | apply execMotorSpeedWrite_frame | apply execMotorDecWrite_frame | apply execMotorPosSet_frame | apply State.writeFields_frame | apply execHomeFaultClear_frame | apply State.writeGearCtrl_frame | apply State.writeGrpCtrl_frame | apply State.onBit_frame | apply execEstopClear_frame | apply execEstopAll_frame | apply frameOpt_get (by assumption) | dsimp only)
  all_goals first | assumption | exact within_trans hW (within_of (by decide)) | exact within_group hW .fnRegs (by decide) rfl | exact within_group hW .linkRegs (by decide) rfl | exact within_group hW .hifRegs (by decide) rfl | exact within_group hW .winRegs (by decide) rfl | exact within_group hW .evtRegs (by decide) rfl | exact within_group hW .ringRegs (by decide) rfl | exact within_group hW .memRegs (by decide) rfl | exact within_group hW .cchRegs (by decide) rfl | exact within_group hW .cipRegs (by decide) rfl | exact within_group hW .srvRegs (by decide) rfl | exact within_group hW .spnRegs (by decide) rfl | exact within_group hW .motRegs (by decide) rfl | exact within_group hW .rchRegs (by decide) rfl | exact within_group hW .recRegs (by decide) rfl | exact within_group hW .calRegs (by decide) rfl | exact within_group hW .mblRegs (by decide) rfl | exact within_group hW .hpcRegs (by decide) rfl | exact within_group hW .fwuRegs (by decide) rfl | exact within_group hW .sysRegs (by decide) rfl | exact within_group hW .trcRegs (by decide) rfl

theorem State.writeLane_frame {W : Nat} {s₀ s : State} (hs : Frame W s₀ s) (r : RegRow) (ix v : Nat) (hW : within 17179873280 W := by first | assumption | exact within_trans (by assumption) (within_of (by decide))) : FrameOpt W s₀ (s.writeLane r ix v) := by
  unfold State.writeLane
  cases laneRegAt r.base ix with
  | none => trivial
  | some reg => exact State.laneWrite_frame hs _ _ _

theorem State.remoteAccess_frame {W : Nat} {s₀ s : State} (hs : Frame W s₀ s) (write : Bool) (hW : within 52776759492610 W) :
    Frame W s₀ (State.remoteAccess s write) := by
  unfold State.remoteAccess
  try dsimp only
  repeat' with_reducible (first | assumption | apply frameRes_next | apply frameOpt_none | apply frameOpt_some | apply State.forEach_frame | apply State.when_frame | apply foldl_frame | apply foldl_fst_frame | apply foldl_snd_frame | intro _ | split | apply State.put_frame | apply State.route_frame | apply frameOpt_get (by assumption) | apply Frame.set_mbl | dsimp only)
  all_goals first | assumption | exact within_trans hW (within_of (by decide)) | exact within_group hW .linkRegs (by decide) rfl | exact within_group hW .mblRegs (by decide) rfl

theorem execRemoteWrite_frame {W : Nat} {s₀ s : State} (hs : Frame W s₀ s) (hW : within 52776759492610 W) :
    FrameRes W s₀ (execRemoteWrite s) := by
  unfold execRemoteWrite
  try dsimp only
  repeat' with_reducible (first | assumption | apply frameRes_next | apply frameOpt_none | apply frameOpt_some | apply State.forEach_frame | apply State.when_frame | apply foldl_frame | apply foldl_fst_frame | apply foldl_snd_frame | intro _ | split | apply State.remoteAccess_frame | apply frameOpt_get (by assumption) | dsimp only)
  all_goals first | assumption | exact within_trans hW (within_of (by decide)) | exact within_group hW .linkRegs (by decide) rfl | exact within_group hW .mblRegs (by decide) rfl

theorem execRemoteRead_frame {W : Nat} {s₀ s : State} (hs : Frame W s₀ s) (hW : within 52776759492610 W) :
    FrameRes W s₀ (execRemoteRead s) := by
  unfold execRemoteRead
  try dsimp only
  repeat' with_reducible (first | assumption | apply frameRes_next | apply frameOpt_none | apply frameOpt_some | apply State.forEach_frame | apply State.when_frame | apply foldl_frame | apply foldl_fst_frame | apply foldl_snd_frame | intro _ | split | apply State.remoteAccess_frame | apply frameOpt_get (by assumption) | dsimp only)
  all_goals first | assumption | exact within_trans hW (within_of (by decide)) | exact within_group hW .linkRegs (by decide) rfl | exact within_group hW .mblRegs (by decide) rfl

theorem State.writeTreeReset_frame {W : Nat} {s₀ s : State} (hs : Frame W s₀ s) (r : RegRow) (v : Nat) (hW : within 64802436153343 W) :
    Frame W s₀ (State.writeTreeReset s r v) := by
  unfold State.writeTreeReset
  try dsimp only
  repeat' with_reducible (first | assumption | apply frameRes_next | apply frameOpt_none | apply frameOpt_some | apply State.forEach_frame | apply State.when_frame | apply foldl_frame | apply foldl_fst_frame | apply foldl_snd_frame | intro _ | split | apply State.writeFields_frame | apply Res.state_frame | apply execTreeResetStation_frame | apply execTreeResetDevice_frame | apply State.takeFree_frame | apply State.resetErr_frame | apply frameOpt_get (by assumption) | dsimp only)
  all_goals first | assumption | exact within_trans hW (within_of (by decide)) | exact within_group hW .fnRegs (by decide) rfl | exact within_group hW .linkRegs (by decide) rfl | exact within_group hW .hifRegs (by decide) rfl | exact within_group hW .winRegs (by decide) rfl | exact within_group hW .evtRegs (by decide) rfl | exact within_group hW .ringRegs (by decide) rfl | exact within_group hW .memRegs (by decide) rfl | exact within_group hW .cchRegs (by decide) rfl | exact within_group hW .cipRegs (by decide) rfl | exact within_group hW .srvRegs (by decide) rfl | exact within_group hW .spnRegs (by decide) rfl | exact within_group hW .motRegs (by decide) rfl | exact within_group hW .rchRegs (by decide) rfl | exact within_group hW .recRegs (by decide) rfl | exact within_group hW .calRegs (by decide) rfl | exact within_group hW .mblRegs (by decide) rfl | exact within_group hW .hpcRegs (by decide) rfl | exact within_group hW .fwuRegs (by decide) rfl | exact within_group hW .sysRegs (by decide) rfl | exact within_group hW .trcRegs (by decide) rfl

theorem State.writeTree_frame {W : Nat} {s₀ s : State} (hs : Frame W s₀ s) (r : RegRow) (ix v : Nat) (hW : within 64802444541951 W := by first | assumption | exact within_trans (by assumption) (within_of (by decide))) :
    FrameOpt W s₀ (State.writeTree s r ix v) := by
  unfold State.writeTree
  try dsimp only
  repeat' with_reducible (first | assumption | apply frameRes_next | apply frameOpt_none | apply frameOpt_some | apply State.forEach_frame | apply State.when_frame | apply foldl_frame | apply foldl_fst_frame | apply foldl_snd_frame | intro _ | split | apply State.writeFields_frame | apply Res.state_frame | apply execPortDown_frame | apply State.onBit_frame | apply execPortRetrain_frame | apply execFenceClr_frame | apply State.put_frame | apply execCtLoad_frame | apply State.writeTreeReset_frame | apply State.remoteAccess_frame | apply frameOpt_get (by assumption) | dsimp only)
  all_goals first | assumption | exact within_trans hW (within_of (by decide)) | exact within_group hW .fnRegs (by decide) rfl | exact within_group hW .linkRegs (by decide) rfl | exact within_group hW .hifRegs (by decide) rfl | exact within_group hW .winRegs (by decide) rfl | exact within_group hW .evtRegs (by decide) rfl | exact within_group hW .ringRegs (by decide) rfl | exact within_group hW .memRegs (by decide) rfl | exact within_group hW .cchRegs (by decide) rfl | exact within_group hW .cipRegs (by decide) rfl | exact within_group hW .srvRegs (by decide) rfl | exact within_group hW .spnRegs (by decide) rfl | exact within_group hW .motRegs (by decide) rfl | exact within_group hW .rchRegs (by decide) rfl | exact within_group hW .recRegs (by decide) rfl | exact within_group hW .calRegs (by decide) rfl | exact within_group hW .mblRegs (by decide) rfl | exact within_group hW .hpcRegs (by decide) rfl | exact within_group hW .fwuRegs (by decide) rfl | exact within_group hW .sysRegs (by decide) rfl | exact within_group hW .trcRegs (by decide) rfl

theorem State.writeSystem_frame {W : Nat} {s₀ s : State} (hs : Frame W s₀ s) (r : RegRow) (ix v : Nat) (hW : within 64871155630079 W := by first | assumption | exact within_trans (by assumption) (within_of (by decide))) :
    FrameOpt W s₀ (State.writeSystem s r ix v) := by
  unfold State.writeSystem
  try dsimp only
  repeat' with_reducible (first | assumption | apply frameRes_next | apply frameOpt_none | apply frameOpt_some | apply State.forEach_frame | apply State.when_frame | apply foldl_frame | apply foldl_fst_frame | apply foldl_snd_frame | intro _ | split | apply State.put_frame | apply State.onBit_frame | apply Res.state_frame | apply execSlotAbortReq_frame | apply execPwrReqSet_frame | apply execPwrReqClear_frame | apply State.writeFields_frame | apply execSlotFaultClear_frame | apply execFwCancel_frame | apply execFwVerify_frame | apply execFwRoll_frame | apply execFwBootSlotWrite_frame | apply State.paceBoost_frame | apply State.stationReset_frame | apply frameOpt_get (by assumption) | dsimp only)
  all_goals first | assumption | exact within_trans hW (within_of (by decide)) | exact within_group hW .fnRegs (by decide) rfl | exact within_group hW .linkRegs (by decide) rfl | exact within_group hW .hifRegs (by decide) rfl | exact within_group hW .winRegs (by decide) rfl | exact within_group hW .evtRegs (by decide) rfl | exact within_group hW .ringRegs (by decide) rfl | exact within_group hW .memRegs (by decide) rfl | exact within_group hW .cchRegs (by decide) rfl | exact within_group hW .cipRegs (by decide) rfl | exact within_group hW .srvRegs (by decide) rfl | exact within_group hW .spnRegs (by decide) rfl | exact within_group hW .motRegs (by decide) rfl | exact within_group hW .rchRegs (by decide) rfl | exact within_group hW .recRegs (by decide) rfl | exact within_group hW .calRegs (by decide) rfl | exact within_group hW .mblRegs (by decide) rfl | exact within_group hW .hpcRegs (by decide) rfl | exact within_group hW .fwuRegs (by decide) rfl | exact within_group hW .sysRegs (by decide) rfl | exact within_group hW .trcRegs (by decide) rfl

theorem frameOpt_orElse {W : Nat} {s₀ : State} {o : Option State} {f : Unit → Option State} (ho : FrameOpt W s₀ o) (hf : FrameOpt W s₀ (f ())) :
    FrameOpt W s₀ (o.orElse f) := by
  cases o with
  | none => exact hf
  | some t => exact ho

theorem frameOpt_getD {W : Nat} {s₀ s : State} {o : Option State} (ho : FrameOpt W s₀ o) (hs : Frame W s₀ s) : Frame W s₀ (o.getD s) := by
  cases o with
  | none => exact hs
  | some t => exact ho

theorem State.writeReg_frame {W : Nat} {s₀ s : State} (hs : Frame W s₀ s) (fn : Nat) (r : RegRow) (ix v : Nat) (hW : within 64871164018687 W := by first | assumption | exact within_trans (by assumption) (within_of (by decide))) : Frame W s₀ (s.writeReg fn r ix v) := by
  unfold State.writeReg
  refine frameOpt_getD ?_ (State.writeFields_frame hs _ _ _)
  refine frameOpt_orElse (State.writeHost_frame hs _ _ _ _) (frameOpt_orElse (State.writeStore_frame hs _ _ _)
    (frameOpt_orElse (State.writeServo_frame hs _ _ _) (frameOpt_orElse (State.writeSpindle_frame hs _ _ _)
    (frameOpt_orElse (State.writeMotion_frame hs _ _ _) (frameOpt_orElse (State.writeLane_frame hs _ _ _)
    (frameOpt_orElse (State.writeTree_frame hs _ _ _) (State.writeSystem_frame hs _ _ _)))))))

theorem State.writeWord_frame {W : Nat} {s₀ s : State} (hs : Frame W s₀ s) (fn off v : Nat) (hW : within 64871164018687 W) :
    Frame W s₀ (State.writeWord s fn off v) := by
  unfold State.writeWord
  try dsimp only
  repeat' with_reducible (first | assumption | apply frameRes_next | apply frameOpt_none | apply frameOpt_some | apply State.forEach_frame | apply State.when_frame | apply foldl_frame | apply foldl_fst_frame | apply foldl_snd_frame | intro _ | split | apply Res.state_frame | apply execMsixUnmask_frame | apply State.writeReg_frame | apply frameOpt_get (by assumption) | apply Frame.set_pcie | dsimp only)
  all_goals first | assumption | exact within_trans hW (within_of (by decide)) | exact within_group hW .fnRegs (by decide) rfl | exact within_group hW .linkRegs (by decide) rfl | exact within_group hW .hifRegs (by decide) rfl | exact within_group hW .winRegs (by decide) rfl | exact within_group hW .evtRegs (by decide) rfl | exact within_group hW .ringRegs (by decide) rfl | exact within_group hW .memRegs (by decide) rfl | exact within_group hW .cchRegs (by decide) rfl | exact within_group hW .cipRegs (by decide) rfl | exact within_group hW .srvRegs (by decide) rfl | exact within_group hW .spnRegs (by decide) rfl | exact within_group hW .motRegs (by decide) rfl | exact within_group hW .rchRegs (by decide) rfl | exact within_group hW .recRegs (by decide) rfl | exact within_group hW .calRegs (by decide) rfl | exact within_group hW .mblRegs (by decide) rfl | exact within_group hW .hpcRegs (by decide) rfl | exact within_group hW .fwuRegs (by decide) rfl | exact within_group hW .sysRegs (by decide) rfl | exact within_group hW .trcRegs (by decide) rfl

theorem State.writeDoorbell_frame {W : Nat} {s₀ s : State} (hs : Frame W s₀ s) (fn : Nat) (d : Doorbell) (shape : WriteShape) (v : Word) (hW : within 35184606969910 W) :
    Frame W s₀ (State.writeDoorbell s fn d shape v) := by
  unfold State.writeDoorbell
  try dsimp only
  repeat' with_reducible (first | assumption | apply frameRes_next | apply frameOpt_none | apply frameOpt_some | apply State.forEach_frame | apply State.when_frame | apply foldl_frame | apply foldl_fst_frame | apply foldl_snd_frame | intro _ | split | apply Res.state_frame | apply execSqTailDoorbell_frame | apply execCqHeadDoorbell_frame | apply execEvtQHeadDoorbell_frame | apply frameOpt_get (by assumption) | dsimp only)
  all_goals first | assumption | exact within_trans hW (within_of (by decide)) | exact within_group hW .linkRegs (by decide) rfl | exact within_group hW .hifRegs (by decide) rfl | exact within_group hW .evtRegs (by decide) rfl | exact within_group hW .ringRegs (by decide) rfl

theorem State.acceptWrite_frame {W : Nat} {s₀ s : State} (hs : Frame W s₀ s) (fn off : Nat) (shape : WriteShape) (values : List Word) (hW : within 64871164018687 W) :
    Frame W s₀ (State.acceptWrite s fn off shape values) := by
  unfold State.acceptWrite
  try dsimp only
  repeat' with_reducible (first | assumption | apply frameRes_next | apply frameOpt_none | apply frameOpt_some | apply State.forEach_frame | apply State.when_frame | apply foldl_frame | apply foldl_fst_frame | apply foldl_snd_frame | intro _ | split | apply State.writeDoorbell_frame | apply State.writeWord_frame | apply frameOpt_get (by assumption) | dsimp only)
  all_goals first | assumption | exact within_trans hW (within_of (by decide)) | exact within_group hW .fnRegs (by decide) rfl | exact within_group hW .linkRegs (by decide) rfl | exact within_group hW .hifRegs (by decide) rfl | exact within_group hW .winRegs (by decide) rfl | exact within_group hW .evtRegs (by decide) rfl | exact within_group hW .ringRegs (by decide) rfl | exact within_group hW .memRegs (by decide) rfl | exact within_group hW .cchRegs (by decide) rfl | exact within_group hW .cipRegs (by decide) rfl | exact within_group hW .srvRegs (by decide) rfl | exact within_group hW .spnRegs (by decide) rfl | exact within_group hW .motRegs (by decide) rfl | exact within_group hW .rchRegs (by decide) rfl | exact within_group hW .recRegs (by decide) rfl | exact within_group hW .calRegs (by decide) rfl | exact within_group hW .mblRegs (by decide) rfl | exact within_group hW .hpcRegs (by decide) rfl | exact within_group hW .fwuRegs (by decide) rfl | exact within_group hW .sysRegs (by decide) rfl | exact within_group hW .trcRegs (by decide) rfl

theorem execRegisterWrite_frame {W : Nat} {s₀ s : State} (hs : Frame W s₀ s) (who : Requester) (off : BitVec 20) (shape : WriteShape) (values : List Word) (hW : within 64871164018687 W) :
    FrameRes W s₀ (execRegisterWrite who off shape values s) := by
  unfold execRegisterWrite
  try dsimp only
  repeat' with_reducible (first | assumption | apply frameRes_next | apply frameOpt_none | apply frameOpt_some | apply State.forEach_frame | apply State.when_frame | apply foldl_frame | apply foldl_fst_frame | apply foldl_snd_frame | intro _ | split | apply State.wakeLink_frame | apply State.logAer_frame | apply State.poisonedWrite_frame | apply State.acceptWrite_frame | apply frameOpt_get (by assumption) | dsimp only)
  all_goals first | assumption | exact within_trans hW (within_of (by decide)) | exact within_group hW .fnRegs (by decide) rfl | exact within_group hW .linkRegs (by decide) rfl | exact within_group hW .hifRegs (by decide) rfl | exact within_group hW .winRegs (by decide) rfl | exact within_group hW .evtRegs (by decide) rfl | exact within_group hW .ringRegs (by decide) rfl | exact within_group hW .memRegs (by decide) rfl | exact within_group hW .cchRegs (by decide) rfl | exact within_group hW .cipRegs (by decide) rfl | exact within_group hW .srvRegs (by decide) rfl | exact within_group hW .spnRegs (by decide) rfl | exact within_group hW .motRegs (by decide) rfl | exact within_group hW .rchRegs (by decide) rfl | exact within_group hW .recRegs (by decide) rfl | exact within_group hW .calRegs (by decide) rfl | exact within_group hW .mblRegs (by decide) rfl | exact within_group hW .hpcRegs (by decide) rfl | exact within_group hW .fwuRegs (by decide) rfl | exact within_group hW .sysRegs (by decide) rfl | exact within_group hW .trcRegs (by decide) rfl

theorem execRegisterRead_frame {W : Nat} {s₀ s : State} (hs : Frame W s₀ s) (who : Requester) (off : BitVec 20) (len id : Nat) (hW : within 35184523083778 W) :
    FrameRes W s₀ (execRegisterRead who off len id s) := by
  unfold execRegisterRead
  try dsimp only
  repeat' with_reducible (first | assumption | apply frameRes_next | apply frameOpt_none | apply frameOpt_some | apply State.forEach_frame | apply State.when_frame | apply foldl_frame | apply foldl_fst_frame | apply foldl_snd_frame | intro _ | split | apply State.wakeLink_frame | apply State.logAer_frame | apply State.emit_frame | apply State.readWord_frame | apply State.readWords_frame | apply frameOpt_get (by assumption) | dsimp only)
  all_goals first | assumption | exact within_trans hW (within_of (by decide)) | exact within_group hW .linkRegs (by decide) rfl

theorem execRegRead_frame {W : Nat} {s₀ s : State} (hs : Frame W s₀ s) (hW : within 52776776269826 W) :
    FrameRes W s₀ (execRegRead s) := by
  unfold execRegRead
  try dsimp only
  repeat' with_reducible (first | assumption | apply frameRes_next | apply frameOpt_none | apply frameOpt_some | apply State.forEach_frame | apply State.when_frame | apply foldl_frame | apply foldl_fst_frame | apply foldl_snd_frame | intro _ | split | apply State.takeFirst_frame (by assumption) | apply State.readWords_frame | apply State.route_frame | apply frameOpt_get (by assumption) | dsimp only)
  all_goals first | assumption | exact within_trans hW (within_of (by decide)) | exact within_group hW .linkRegs (by decide) rfl | exact within_group hW .mblRegs (by decide) rfl

theorem execRegWrite_frame {W : Nat} {s₀ s : State} (hs : Frame W s₀ s) (hW : within 64871164018687 W) :
    FrameRes W s₀ (execRegWrite s) := by
  unfold execRegWrite
  try dsimp only
  repeat' with_reducible (first | assumption | apply frameRes_next | apply frameOpt_none | apply frameOpt_some | apply State.forEach_frame | apply State.when_frame | apply foldl_frame | apply foldl_fst_frame | apply foldl_snd_frame | intro _ | split | apply State.takeFirst_frame (by assumption) | apply State.acceptWrite_frame | apply State.route_frame | apply frameOpt_get (by assumption) | dsimp only)
  all_goals first | assumption | exact within_trans hW (within_of (by decide)) | exact within_group hW .fnRegs (by decide) rfl | exact within_group hW .linkRegs (by decide) rfl | exact within_group hW .hifRegs (by decide) rfl | exact within_group hW .winRegs (by decide) rfl | exact within_group hW .evtRegs (by decide) rfl | exact within_group hW .ringRegs (by decide) rfl | exact within_group hW .memRegs (by decide) rfl | exact within_group hW .cchRegs (by decide) rfl | exact within_group hW .cipRegs (by decide) rfl | exact within_group hW .srvRegs (by decide) rfl | exact within_group hW .spnRegs (by decide) rfl | exact within_group hW .motRegs (by decide) rfl | exact within_group hW .rchRegs (by decide) rfl | exact within_group hW .recRegs (by decide) rfl | exact within_group hW .calRegs (by decide) rfl | exact within_group hW .mblRegs (by decide) rfl | exact within_group hW .hpcRegs (by decide) rfl | exact within_group hW .fwuRegs (by decide) rfl | exact within_group hW .sysRegs (by decide) rfl | exact within_group hW .trcRegs (by decide) rfl

theorem execRegData_frame {W : Nat} {s₀ s : State} (hs : Frame W s₀ s) (hW : within 17592186077184 W) :
    FrameRes W s₀ (execRegData s) := by
  unfold execRegData
  try dsimp only
  repeat' with_reducible (first | assumption | apply frameRes_next | apply frameOpt_none | apply frameOpt_some | apply State.forEach_frame | apply State.when_frame | apply foldl_frame | apply foldl_fst_frame | apply foldl_snd_frame | intro _ | split | apply State.takeFirst_frame (by assumption) | apply State.put_frame | apply frameOpt_get (by assumption) | apply Frame.set_mbl | dsimp only)
  all_goals first | assumption | exact within_trans hW (within_of (by decide)) | exact within_group hW .mblRegs (by decide) rfl

theorem execRemoteAccessTimeout_frame {W : Nat} {s₀ s : State} (hs : Frame W s₀ s) (hW : within 17592186077184 W) :
    FrameRes W s₀ (execRemoteAccessTimeout s) := by
  unfold execRemoteAccessTimeout
  try dsimp only
  repeat' with_reducible (first | assumption | apply frameRes_next | apply frameOpt_none | apply frameOpt_some | apply State.forEach_frame | apply State.when_frame | apply foldl_frame | apply foldl_fst_frame | apply foldl_snd_frame | intro _ | split | apply State.put_frame | apply frameOpt_get (by assumption) | apply Frame.set_mbl | dsimp only)
  all_goals first | assumption | exact within_trans hW (within_of (by decide)) | exact within_group hW .mblRegs (by decide) rfl

end Sys2Proof.Machine
end

