-- ==== Sys2Proof/Laws/Ldpc.lean ====
section
/-!
SUPPORT. The LDPC code: the codeword that the encoder makes of any information bits converges, and carries them (R250, R251).
-/
set_option Elab.async false
set_option linter.all false
namespace Sys2Proof.Machine

theorem circTerm_lt (z s v : Nat) : circTerm z s v < 2 ^ z := Nat.mod_lt _ (Nat.two_pow_pos z)

theorem modify_xor_lt {acc : Array Nat} {z i x : Nat} (h : ∀ y ∈ acc, y < 2 ^ z) (hx : x < 2 ^ z) :
    ∀ y ∈ acc.modify i (fun a => a ^^^ x), y < 2 ^ z := by
  intro y hy
  obtain ⟨k, hk, rfl⟩ := Array.mem_iff_getElem.mp hy
  rw [Array.getElem_modify]
  split
  · exact Nat.xor_lt_two_pow (h _ (Array.getElem_mem _)) hx
  · exact h _ (Array.getElem_mem _)

/-- Row-block sums are numbers of Z bits, one for each row block. -/
theorem infoSums_spec (p : LdpcParams) (w : Nat) : (infoSums p w).size = p.rb ∧ ∀ y ∈ infoSums p w, y < 2 ^ p.z := by
  have step : ∀ (l : List Nat) (c : Nat) (acc : Array Nat), acc.size = p.rb → (∀ y ∈ acc, y < 2 ^ p.z) →
      (l.foldl (fun acc i => acc.modify (ldpcEntry p c i).1 (fun x => x ^^^ circTerm p.z (ldpcEntry p c i).2 (colBlock p w c))) acc).size = p.rb ∧
      ∀ y ∈ l.foldl (fun acc i => acc.modify (ldpcEntry p c i).1 (fun x => x ^^^ circTerm p.z (ldpcEntry p c i).2 (colBlock p w c))) acc,
        y < 2 ^ p.z := by
    intro l c
    induction l with
    | nil => exact fun acc h1 h2 => ⟨h1, h2⟩
    | cons i l ih => exact fun acc h1 h2 => ih _ (by simpa using h1) (modify_xor_lt h2 (circTerm_lt ..))
  have all : ∀ (l : List Nat) (acc : Array Nat), acc.size = p.rb → (∀ y ∈ acc, y < 2 ^ p.z) →
      (l.foldl (fun acc c => [0, 1, 2].foldl (fun acc i => acc.modify (ldpcEntry p c i).1
        (fun x => x ^^^ circTerm p.z (ldpcEntry p c i).2 (colBlock p w c))) acc) acc).size = p.rb ∧
      ∀ y ∈ l.foldl (fun acc c => [0, 1, 2].foldl (fun acc i => acc.modify (ldpcEntry p c i).1
        (fun x => x ^^^ circTerm p.z (ldpcEntry p c i).2 (colBlock p w c))) acc) acc, y < 2 ^ p.z := by
    intro l
    induction l with
    | nil => exact fun acc h1 h2 => ⟨h1, h2⟩
    | cons c l ih => exact fun acc h1 h2 => ih _ (step _ c acc h1 h2).1 (step _ c acc h1 h2).2
  exact all _ _ (by simp) fun y hy => by rw [(Array.mem_replicate.mp hy).2]; exact Nat.two_pow_pos _

theorem stairParity_lt (z : Nat) (l : List Nat) (prev : Nat) (hp : prev < 2 ^ z) (h : ∀ y ∈ l, y < 2 ^ z) :
    (stairParity l prev).length = l.length ∧ ∀ y ∈ stairParity l prev, y < 2 ^ z := by
  induction l generalizing prev with
  | nil => exact ⟨rfl, by simp [stairParity]⟩
  | cons t l ih =>
    have hx : t ^^^ prev < 2 ^ z := Nat.xor_lt_two_pow (h t (by simp)) hp
    have hi := ih _ hx fun y hy => h y (by simp [hy])
    refine ⟨by simp [stairParity, hi.1], fun y hy => ?_⟩
    rcases List.mem_cons.mp hy with rfl | hy
    · exact hx
    · exact hi.2 y hy

theorem packed_lt (z : Nat) (l : List Nat) (h : ∀ y ∈ l, y < 2 ^ z) : l.foldr (fun blk acc => blk + acc * 2 ^ z) 0 < 2 ^ (z * l.length) := by
  induction l with
  | nil => simp
  | cons a l ih =>
    have ha := h a (by simp)
    have hi := ih fun y hy => h y (by simp [hy])
    simp only [List.foldr_cons, List.length_cons]
    rw [Nat.mul_succ, Nat.pow_add]
    have := Nat.mul_le_mul_right (2 ^ z) (Nat.succ_le_of_lt hi)
    rw [Nat.succ_mul] at this
    omega

theorem ldpcParity_lt (p : LdpcParams) (info : Nat) : ldpcParity p info < 2 ^ (p.z * p.rb) := by
  have h := infoSums_spec p info
  have hs := stairParity_lt p.z (infoSums p info).toList 0 (Nat.two_pow_pos _) fun y hy => h.2 y (Array.mem_def.mpr hy)
  have := packed_lt p.z _ hs.2
  rwa [hs.1, Array.length_toList, h.1] at this

theorem ldpcEncode_info (p : LdpcParams) (info : Nat) : ldpcEncode p info % 2 ^ (p.z * p.kb) = info % 2 ^ (p.z * p.kb) := by
  unfold ldpcEncode
  rw [Nat.add_mul_mod_self_right, Nat.mod_mod]

/-- The codeword of any information bits has a zero syndrome. -/
theorem ldpcConverged_ldpcEncode (p : LdpcParams) (info : Nat) : ldpcConverged p (ldpcEncode p info) = true := by
  unfold ldpcConverged
  rw [ldpcEncode_info, beq_iff_eq]
  unfold bitsOf ldpcEncode
  rw [Nat.shiftRight_eq_div_pow, Nat.add_mul_div_right _ _ (Nat.two_pow_pos _), Nat.div_eq_of_lt (Nat.mod_lt _ (Nat.two_pow_pos _)),
    Nat.zero_add, Nat.mod_eq_of_lt (ldpcParity_lt p _)]

/-- The payload of the codeword of as many bytes as the code takes is those bytes. -/
theorem leBytes_ldpcEncode (p : LdpcParams) (n : Nat) (bs : List Nat) (hn : p.z * p.kb = 8 * n) (hl : bs.length = n)
    (hb : ∀ x ∈ bs, x < 256) : leBytes n (ldpcEncode p (ofLeBytes bs)) = bs := by
  have e : 2 ^ (p.z * p.kb) = 256 ^ n := by rw [hn, Nat.pow_mul]
  rw [← leBytes_mod n _ n (Nat.le_refl _), ← e, ldpcEncode_info, e, ← hl, Nat.mod_eq_of_lt (ofLeBytes_lt bs)]
  exact leBytes_ofLeBytes bs hb

/-- The payload of the codeword of 4,160 bytes on a Format Q8 disc is those bytes. -/
theorem codewordPayload_ldpcEncode (bs : List Nat) (hl : bs.length = 4160) (hb : ∀ x ∈ bs, x < 256) :
    codewordPayload (ldpcEncode ldpcQ8 (ofLeBytes bs)) = bs :=
  leBytes_ldpcEncode ldpcQ8 4160 bs rfl hl hb

end Sys2Proof.Machine
end

