-- ==== Sys2Proof/Laws/Steady.lean ====
section
/-!
SUPPORT. What every command keeps (Safety.lean), proved of each operation of the machine once: a state that is steady from `s₀` on stays so.
-/
set_option Elab.async false
set_option linter.all false
namespace Sys2Proof.Machine

theorem Keeps.refl (s : State) : Keeps s s := ⟨rfl, rfl, List.prefix_refl _, Nat.le_refl _, fun h => h⟩

theorem Steady.refl (s : State) : Steady s s := ⟨Keeps.refl s, Nat.le_refl _⟩

theorem Keeps.trans {s t u : State} (a : Keeps s t) (b : Keeps t u) : Keeps s u :=
  ⟨b.pending.trans a.pending, b.root.trans a.root, a.sent.trans b.sent, Nat.le_trans a.free b.free, fun h => b.regs (a.regs h)⟩

theorem Steady.trans {s t u : State} (a : Steady s t) (b : Steady t u) : Steady s u :=
  ⟨a.toKeeps.trans b.toKeeps, Nat.le_trans a.ct b.ct⟩

/-- A state that differs in no field that `Keeps` speaks of. -/
theorem Steady.same {s₀ s t : State} (h : Steady s₀ s) (hp : t.pending = s.pending) (hr : t.root = s.root) (hs : t.sent = s.sent)
    (hf : t.free = s.free) (hg : t.regs = s.regs) (hc : t.ct = s.ct) : Steady s₀ t :=
  h.trans ⟨⟨hp, hr, hs ▸ List.prefix_refl _, Nat.le_of_eq hf.symm, fun k => hg ▸ k⟩, Nat.le_of_eq hc.symm⟩

/-- The fields that `Keeps` does not speak of may change. -/
theorem Steady.set {s₀ s : State} (h : Steady s₀ s) (now : Nat) (latch : Table Nat) (rings : Rings) (events : Events) (pcie : Pcie)
    (mem : OnChip) (cache : Cache) (cipher : Cipher) (decoder : Decoder) (stations : Table Station) (recording : Recording) (lanes : Table
    Lane) (pickups : Table Pickup) (lps : Table LoopProc) (spindles : Table Spindle) (motors : Table Motor) (groups : Table Group)
    (timebase : Nat) (fw : Firmware) (power : Power) (calib : Calib) (mbl : Mbl) :
    Steady s₀ (State.mk now s.free s.root s.regs s.ct latch rings events pcie mem cache cipher decoder stations recording lanes pickups
    lps spindles motors groups timebase fw power calib mbl s.sent s.pending) :=
  h.same rfl rfl rfl rfl rfl rfl

/-- Free values taken, and other fields changed. -/
theorem Steady.draw {s₀ s : State} (h : Steady s₀ s) (n : Nat) (now : Nat) (latch : Table Nat) (rings : Rings) (events : Events) (pcie : Pcie)
    (mem : OnChip) (cache : Cache) (cipher : Cipher) (decoder : Decoder) (stations : Table Station) (recording : Recording) (lanes : Table
    Lane) (pickups : Table Pickup) (lps : Table LoopProc) (spindles : Table Spindle) (motors : Table Motor) (groups : Table Group)
    (timebase : Nat) (fw : Firmware) (power : Power) (calib : Calib) (mbl : Mbl) :
    Steady s₀ (State.mk now (s.free + n) s.root s.regs s.ct latch rings events pcie mem cache cipher decoder stations recording lanes pickups
    lps spindles motors groups timebase fw power calib mbl s.sent s.pending) :=
  h.trans ⟨⟨rfl, rfl, List.prefix_refl _, Nat.le_add_right _ _, fun k => k⟩, Nat.le_refl _⟩

/-- Something sent, and other fields changed. -/
theorem Steady.tell {s₀ s : State} (h : Steady s₀ s) (os : List Out) (now : Nat) (latch : Table Nat) (rings : Rings) (events : Events) (pcie : Pcie)
    (mem : OnChip) (cache : Cache) (cipher : Cipher) (decoder : Decoder) (stations : Table Station) (recording : Recording) (lanes : Table
    Lane) (pickups : Table Pickup) (lps : Table LoopProc) (spindles : Table Spindle) (motors : Table Motor) (groups : Table Group)
    (timebase : Nat) (fw : Firmware) (power : Power) (calib : Calib) (mbl : Mbl) :
    Steady s₀ (State.mk now s.free s.root s.regs s.ct latch rings events pcie mem cache cipher decoder stations recording lanes pickups
    lps spindles motors groups timebase fw power calib mbl (s.sent ++ os) s.pending) :=
  h.trans ⟨⟨rfl, rfl, List.prefix_append _ _, Nat.le_refl _, fun k => k⟩, Nat.le_refl _⟩

/-- Fields of the register file brought back to their reset values, and other fields changed. -/
theorem Steady.purge {s₀ s : State} (h : Steady s₀ s) (p : Nat × Nat → Bool) (now : Nat) (latch : Table Nat) (rings : Rings) (events : Events) (pcie : Pcie)
    (mem : OnChip) (cache : Cache) (cipher : Cipher) (decoder : Decoder) (stations : Table Station) (recording : Recording) (lanes : Table
    Lane) (pickups : Table Pickup) (lps : Table LoopProc) (spindles : Table Spindle) (motors : Table Motor) (groups : Table Group)
    (timebase : Nat) (fw : Firmware) (power : Power) (calib : Calib) (mbl : Mbl) :
    Steady s₀ (State.mk now s.free s.root (s.regs.filter p) s.ct latch rings events pcie mem cache cipher decoder stations recording lanes pickups
    lps spindles motors groups timebase fw power calib mbl s.sent s.pending) :=
  h.trans ⟨⟨rfl, rfl, List.prefix_refl _, Nat.le_refl _, Table.rising_filter p⟩, Nat.le_refl _⟩

theorem steadyRes_next {s₀ t : State} (h : Steady s₀ t) : SteadyRes s₀ (.next t) := ⟨t, rfl, h⟩

theorem keepsRes_next {s₀ t : State} (h : Keeps s₀ t) : KeepsRes s₀ (.next t) := ⟨t, rfl, h⟩

theorem SteadyRes.keeps {s : State} {r : Res} (h : SteadyRes s r) : KeepsRes s r := by
  obtain ⟨t, e, k⟩ := h
  exact ⟨t, e, k.toKeeps⟩

theorem steadyOpt_none {s₀ : State} : SteadyOpt s₀ none := trivial

theorem steadyOpt_some {s₀ t : State} (h : Steady s₀ t) : SteadyOpt s₀ (some t) := h

theorem steadyOpt_get {s₀ t : State} {o : Option State} (e : o = some t) (h : SteadyOpt s₀ o) : Steady s₀ t := by
  subst e; exact h

theorem foldl_steady {α : Type} {s₀ s : State} (h : Steady s₀ s) (xs : List α) (f : State → α → State)
    (hf : ∀ t a, Steady s₀ t → Steady s₀ (f t a)) : Steady s₀ (xs.foldl f s) := by
  induction xs generalizing s with
  | nil => exact h
  | cons x xs ih => exact ih (hf s x h)

theorem foldl_fst_steady {α β : Type} {s₀ : State} {init : State × β} (h : Steady s₀ init.1) (xs : List α) (f : State × β → α → State × β)
    (hf : ∀ t a, Steady s₀ t.1 → Steady s₀ (f t a).1) : Steady s₀ (xs.foldl f init).1 := by
  induction xs generalizing init with
  | nil => exact h
  | cons x xs ih => exact ih (hf init x h)

theorem foldl_snd_steady {α β : Type} {s₀ : State} {init : β × State} (h : Steady s₀ init.2) (xs : List α) (f : β × State → α → β × State)
    (hf : ∀ t a, Steady s₀ t.2 → Steady s₀ (f t a).2) : Steady s₀ (xs.foldl f init).2 := by
  induction xs generalizing init with
  | nil => exact h
  | cons x xs ih => exact ih (hf init x h)

theorem State.forEach_steady {α : Type} {s₀ s : State} (h : Steady s₀ s) (xs : List α) (f : State → α → State)
    (hf : ∀ t a, Steady s₀ t → Steady s₀ (f t a)) : Steady s₀ (s.forEach xs f) := foldl_steady h xs f hf

theorem State.when_steady {s₀ s : State} (h : Steady s₀ s) (c : Bool) (f : State → State)
    (hf : ∀ t, Steady s₀ t → Steady s₀ (f t)) : Steady s₀ (s.when c f) := by
  unfold State.when
  split
  · exact hf s h
  · exact h

theorem State.put_steady {s₀ s : State} (h : Steady s₀ s) (f : Fld) (v : Nat) : Steady s₀ (s.put f v) :=
  h.trans ⟨⟨rfl, rfl, List.prefix_refl _, Nat.le_refl _, fun k => Table.rising_set (fun _ => f.reset) f.key (v % 2 ^ f.width) k⟩, Nat.le_refl _⟩

theorem State.takeFree_steady {s₀ s : State} (h : Steady s₀ s) : Steady s₀ s.takeFree.2 :=
  h.trans ⟨⟨rfl, rfl, List.prefix_refl _, Nat.le_succ _, fun k => k⟩, Nat.le_refl _⟩

/-- Something added to what has been sent. -/
theorem Steady.send {s₀ s : State} (h : Steady s₀ s) (os : List Out) : Steady s₀ { s with sent := s.sent ++ os } :=
  h.trans ⟨⟨rfl, rfl, List.prefix_append _ _, Nat.le_refl _, fun k => k⟩, Nat.le_refl _⟩

theorem State.wakeLink_steady {s₀ s : State} (h : Steady s₀ s) : Steady s₀ s.wakeLink := by
  unfold State.wakeLink
  dsimp only
  split
  · exact h
  · split
    · exact ((h.same rfl rfl rfl rfl rfl rfl : Steady s₀ s).trans
        ((State.put_steady (Steady.refl s) F.HIF_LINK_STATUS_PM 0).trans
          (((Steady.refl _).send [.ltr _]).same rfl rfl rfl rfl rfl rfl)))
    · exact State.put_steady h _ _

theorem State.emitAll_steady {s₀ s : State} (h : Steady s₀ s) (os : List Out) : Steady s₀ (s.emitAll os) := by
  unfold State.emitAll
  dsimp only
  split
  · exact (State.wakeLink_steady h).send os
  · exact h.send os

end Sys2Proof.Machine
end

