-- ==== Sys2Proof/Laws/SteadyOps.lean ====
section
/-!
SUPPORT. What every command keeps (Safety.lean), of the operations and commands of Machine/Ops.lean.
-/
set_option Elab.async false
set_option linter.all false
namespace Sys2Proof.Machine
set_option maxRecDepth 2000

theorem State.sput_steady {s₀ s : State} (hs : Steady s₀ s) (f : Fld) (v : Int) :
    Steady s₀ (State.sput s f v) := by
  unfold State.sput
  try dsimp only
  repeat' with_reducible (first | assumption | apply steadyRes_next | apply steadyOpt_none | apply steadyOpt_some | apply State.forEach_steady | apply State.when_steady | apply foldl_steady | apply foldl_fst_steady | apply foldl_snd_steady | intro _ | split | apply State.put_steady | apply steadyOpt_get (by assumption) | apply Steady.set | apply Steady.draw | apply Steady.tell | apply Steady.purge | dsimp only)

theorem State.setFlag_steady {s₀ s : State} (hs : Steady s₀ s) (f : Fld) (b : Bool) :
    Steady s₀ (State.setFlag s f b) := by
  unfold State.setFlag
  try dsimp only
  repeat' with_reducible (first | assumption | apply steadyRes_next | apply steadyOpt_none | apply steadyOpt_some | apply State.forEach_steady | apply State.when_steady | apply foldl_steady | apply foldl_fst_steady | apply foldl_snd_steady | intro _ | split | apply State.put_steady | apply steadyOpt_get (by assumption) | apply Steady.set | apply Steady.draw | apply Steady.tell | apply Steady.purge | dsimp only)

theorem State.incSat_steady {s₀ s : State} (hs : Steady s₀ s) (f : Fld) (n : Nat) :
    Steady s₀ (State.incSat s f n) := by
  unfold State.incSat
  try dsimp only
  repeat' with_reducible (first | assumption | apply steadyRes_next | apply steadyOpt_none | apply steadyOpt_some | apply State.forEach_steady | apply State.when_steady | apply foldl_steady | apply foldl_fst_steady | apply foldl_snd_steady | intro _ | split | apply State.put_steady | apply steadyOpt_get (by assumption) | apply Steady.set | apply Steady.draw | apply Steady.tell | apply Steady.purge | dsimp only)

theorem State.incWrap_steady {s₀ s : State} (hs : Steady s₀ s) (f : Fld) (n : Nat) :
    Steady s₀ (State.incWrap s f n) := by
  unfold State.incWrap
  try dsimp only
  repeat' with_reducible (first | assumption | apply steadyRes_next | apply steadyOpt_none | apply steadyOpt_some | apply State.forEach_steady | apply State.when_steady | apply foldl_steady | apply foldl_fst_steady | apply foldl_snd_steady | intro _ | split | apply State.put_steady | apply steadyOpt_get (by assumption) | apply Steady.set | apply Steady.draw | apply Steady.tell | apply Steady.purge | dsimp only)

theorem State.putPair_steady {s₀ s : State} (hs : Steady s₀ s) (lo hi : Fld) (v : Nat) :
    Steady s₀ (State.putPair s lo hi v) := by
  unfold State.putPair
  try dsimp only
  repeat' with_reducible (first | assumption | apply steadyRes_next | apply steadyOpt_none | apply steadyOpt_some | apply State.forEach_steady | apply State.when_steady | apply foldl_steady | apply foldl_fst_steady | apply foldl_snd_steady | intro _ | split | apply State.put_steady | apply steadyOpt_get (by assumption) | apply Steady.set | apply Steady.draw | apply Steady.tell | apply Steady.purge | dsimp only)

theorem State.emit_steady {s₀ s : State} (hs : Steady s₀ s) (o : Out) :
    Steady s₀ (State.emit s o) := by
  unfold State.emit
  try dsimp only
  repeat' with_reducible (first | assumption | apply steadyRes_next | apply steadyOpt_none | apply steadyOpt_some | apply State.forEach_steady | apply State.when_steady | apply foldl_steady | apply foldl_fst_steady | apply foldl_snd_steady | intro _ | split | apply State.emitAll_steady | apply steadyOpt_get (by assumption) | apply Steady.set | apply Steady.draw | apply Steady.tell | apply Steady.purge | dsimp only)

theorem State.post_steady {s₀ s : State} (hs : Steady s₀ s) (code source : Nat) (payload : List Nat) :
    Steady s₀ (State.post s code source payload) := by
  unfold State.post
  try dsimp only
  repeat' with_reducible (first | assumption | apply steadyRes_next | apply steadyOpt_none | apply steadyOpt_some | apply State.forEach_steady | apply State.when_steady | apply foldl_steady | apply foldl_fst_steady | apply foldl_snd_steady | intro _ | split | apply State.put_steady | apply steadyOpt_get (by assumption) | apply Steady.set | apply Steady.draw | apply Steady.tell | apply Steady.purge | dsimp only)

theorem State.raise_steady {s₀ s : State} (hs : Steady s₀ s) (f : Fld) (code source : Nat) (payload : List Nat) :
    Steady s₀ (State.raise s f code source payload) := by
  unfold State.raise
  try dsimp only
  repeat' with_reducible (first | assumption | apply steadyRes_next | apply steadyOpt_none | apply steadyOpt_some | apply State.forEach_steady | apply State.when_steady | apply foldl_steady | apply foldl_fst_steady | apply foldl_snd_steady | intro _ | split | apply State.put_steady | apply State.post_steady | apply steadyOpt_get (by assumption) | apply Steady.set | apply Steady.draw | apply Steady.tell | apply Steady.purge | dsimp only)

theorem State.count_steady {s₀ s : State} (hs : Steady s₀ s) (lo hi : Fld) (n : Nat) :
    Steady s₀ (State.count s lo hi n) := by
  unfold State.count
  try dsimp only
  repeat' with_reducible (first | assumption | apply steadyRes_next | apply steadyOpt_none | apply steadyOpt_some | apply State.forEach_steady | apply State.when_steady | apply foldl_steady | apply foldl_fst_steady | apply foldl_snd_steady | intro _ | split | apply State.putPair_steady | apply State.post_steady | apply steadyOpt_get (by assumption) | apply Steady.set | apply Steady.draw | apply Steady.tell | apply Steady.purge | dsimp only)

end Sys2Proof.Machine
end

