-- ==== Sys2Proof/Laws/SteadyHost.lean ====
section
/-!
SUPPORT. What every command keeps (Safety.lean), of the operations and commands of Machine/Host.lean.
-/
set_option Elab.async false
set_option linter.all false
namespace Sys2Proof.Machine
set_option maxRecDepth 2000

theorem State.setCfg_steady {s₀ s : State} (hs : Steady s₀ s) (f : Nat) (c : CfgField) (v : Nat) :
    Steady s₀ (State.setCfg s f c v) := by
  unfold State.setCfg
  try dsimp only
  repeat' with_reducible (first | assumption | apply steadyRes_next | apply steadyOpt_none | apply steadyOpt_some | apply State.forEach_steady | apply State.when_steady | apply foldl_steady | apply foldl_fst_steady | apply foldl_snd_steady | intro _ | split | apply steadyOpt_get (by assumption) | apply Steady.set | apply Steady.draw | apply Steady.tell | apply Steady.purge | dsimp only)

theorem State.issueRead_steady {s₀ s : State} (hs : Steady s₀ s) (f : Nat) (p : ReadFor) (h off addr len : Nat) :
    Steady s₀ (State.issueRead s f p h off addr len) := by
  unfold State.issueRead
  try dsimp only
  repeat' with_reducible (first | assumption | apply steadyRes_next | apply steadyOpt_none | apply steadyOpt_some | apply State.forEach_steady | apply State.when_steady | apply foldl_steady | apply foldl_fst_steady | apply foldl_snd_steady | intro _ | split | apply State.takeFree_steady | apply State.emit_steady | apply State.memRead_steady | apply steadyOpt_get (by assumption) | apply Steady.set | apply Steady.draw | apply Steady.tell | apply Steady.purge | dsimp only)

theorem State.dropReq_steady {s₀ s : State} (hs : Steady s₀ s) (f tag : Nat) :
    Steady s₀ (State.dropReq s f tag) := by
  unfold State.dropReq
  try dsimp only
  repeat' with_reducible (first | assumption | apply steadyRes_next | apply steadyOpt_none | apply steadyOpt_some | apply State.forEach_steady | apply State.when_steady | apply foldl_steady | apply foldl_fst_steady | apply foldl_snd_steady | intro _ | split | apply steadyOpt_get (by assumption) | apply Steady.set | apply Steady.draw | apply Steady.tell | apply Steady.purge | dsimp only)

theorem State.logAer_steady {s₀ s : State} (hs : Steady s₀ s) (f bit : Nat) :
    Steady s₀ (State.logAer s f bit) := by
  unfold State.logAer
  try dsimp only
  repeat' with_reducible (first | assumption | apply steadyRes_next | apply steadyOpt_none | apply steadyOpt_some | apply State.forEach_steady | apply State.when_steady | apply foldl_steady | apply foldl_fst_steady | apply foldl_snd_steady | intro _ | split | apply State.setCfg_steady | apply steadyOpt_get (by assumption) | apply Steady.set | apply Steady.draw | apply Steady.tell | apply Steady.purge | dsimp only)

theorem State.poisonedWrite_steady {s₀ s : State} (hs : Steady s₀ s) (f off : Nat) :
    Steady s₀ (State.poisonedWrite s f off) := by
  unfold State.poisonedWrite
  try dsimp only
  repeat' with_reducible (first | assumption | apply steadyRes_next | apply steadyOpt_none | apply steadyOpt_some | apply State.forEach_steady | apply State.when_steady | apply foldl_steady | apply foldl_fst_steady | apply foldl_snd_steady | intro _ | split | apply State.count_steady | apply State.logAer_steady | apply State.raise_steady | apply steadyOpt_get (by assumption) | apply Steady.set | apply Steady.draw | apply Steady.tell | apply Steady.purge | dsimp only)

theorem State.setPendingBit_steady {s₀ s : State} (hs : Steady s₀ s) (f m : Nat) (b : Bool) :
    Steady s₀ (State.setPendingBit s f m b) := by
  unfold State.setPendingBit
  try dsimp only
  repeat' with_reducible (first | assumption | apply steadyRes_next | apply steadyOpt_none | apply steadyOpt_some | apply State.forEach_steady | apply State.when_steady | apply foldl_steady | apply foldl_fst_steady | apply foldl_snd_steady | intro _ | split | apply State.put_steady | apply steadyOpt_get (by assumption) | apply Steady.set | apply Steady.draw | apply Steady.tell | apply Steady.purge | dsimp only)

theorem State.setVec_steady {s₀ s : State} (hs : Steady s₀ s) (f m : Nat) (v : VecState) :
    Steady s₀ (State.setVec s f m v) := by
  unfold State.setVec
  try dsimp only
  repeat' with_reducible (first | assumption | apply steadyRes_next | apply steadyOpt_none | apply steadyOpt_some | apply State.forEach_steady | apply State.when_steady | apply foldl_steady | apply foldl_fst_steady | apply foldl_snd_steady | intro _ | split | apply State.put_steady | apply steadyOpt_get (by assumption) | apply Steady.set | apply Steady.draw | apply Steady.tell | apply Steady.purge | dsimp only)

theorem State.sendMessage_steady {s₀ s : State} (hs : Steady s₀ s) (f m : Nat) :
    Steady s₀ (State.sendMessage s f m) := by
  unfold State.sendMessage
  try dsimp only
  repeat' with_reducible (first | assumption | apply steadyRes_next | apply steadyOpt_none | apply steadyOpt_some | apply State.forEach_steady | apply State.when_steady | apply foldl_steady | apply foldl_fst_steady | apply foldl_snd_steady | intro _ | split | apply State.setVec_steady | apply State.setPendingBit_steady | apply State.emit_steady | apply steadyOpt_get (by assumption) | apply Steady.set | apply Steady.draw | apply Steady.tell | apply Steady.purge | dsimp only)

theorem State.signal_steady {s₀ s : State} (hs : Steady s₀ s) (f m : Nat) (urgent : Bool) :
    Steady s₀ (State.signal s f m urgent) := by
  unfold State.signal
  try dsimp only
  repeat' with_reducible (first | assumption | apply steadyRes_next | apply steadyOpt_none | apply steadyOpt_some | apply State.forEach_steady | apply State.when_steady | apply foldl_steady | apply foldl_fst_steady | apply foldl_snd_steady | intro _ | split | apply State.count_steady | apply State.sendMessage_steady | apply State.setVec_steady | apply steadyOpt_get (by assumption) | apply Steady.set | apply Steady.draw | apply Steady.tell | apply Steady.purge | dsimp only)

end Sys2Proof.Machine
end

