-- ==== Sys2Proof/Laws/SteadyCmds.lean ====
section
/-!
SUPPORT. What every command keeps (Safety.lean), of the operations and commands of Machine/Cmds.lean.
-/
set_option Elab.async false
set_option linter.all false
namespace Sys2Proof.Machine
set_option maxRecDepth 2000

theorem State.setCmd_steady {s₀ s : State} (hs : Steady s₀ s) (h : Nat) (c : Cmd) :
    Steady s₀ (State.setCmd s h c) := by
  unfold State.setCmd
  try dsimp only
  repeat' with_reducible (first | assumption | apply steadyRes_next | apply steadyOpt_none | apply steadyOpt_some | apply State.forEach_steady | apply State.when_steady | apply foldl_steady | apply foldl_fst_steady | apply foldl_snd_steady | intro _ | split | apply State.put_steady | apply steadyOpt_get (by assumption) | apply Steady.set | apply Steady.draw | apply Steady.tell | apply Steady.purge | dsimp only)

theorem State.modCmd_steady {s₀ s : State} (hs : Steady s₀ s) (h : Nat) (f : Cmd → Cmd) :
    Steady s₀ (State.modCmd s h f) := by
  unfold State.modCmd
  try dsimp only
  repeat' with_reducible (first | assumption | apply steadyRes_next | apply steadyOpt_none | apply steadyOpt_some | apply State.forEach_steady | apply State.when_steady | apply foldl_steady | apply foldl_fst_steady | apply foldl_snd_steady | intro _ | split | apply State.setCmd_steady | apply steadyOpt_get (by assumption) | apply Steady.set | apply Steady.draw | apply Steady.tell | apply Steady.purge | dsimp only)

theorem State.dropCmd_steady {s₀ s : State} (hs : Steady s₀ s) (h : Nat) :
    Steady s₀ (State.dropCmd s h) := by
  unfold State.dropCmd
  try dsimp only
  repeat' with_reducible (first | assumption | apply steadyRes_next | apply steadyOpt_none | apply steadyOpt_some | apply State.forEach_steady | apply State.when_steady | apply foldl_steady | apply foldl_fst_steady | apply foldl_snd_steady | intro _ | split | apply State.put_steady | apply steadyOpt_get (by assumption) | apply Steady.set | apply Steady.draw | apply Steady.tell | apply Steady.purge | dsimp only)

theorem State.setStation_steady {s₀ s : State} (hs : Steady s₀ s) (st : Nat) (x : Station) :
    Steady s₀ (State.setStation s st x) := by
  unfold State.setStation
  try dsimp only
  repeat' with_reducible (first | assumption | apply steadyRes_next | apply steadyOpt_none | apply steadyOpt_some | apply State.forEach_steady | apply State.when_steady | apply foldl_steady | apply foldl_fst_steady | apply foldl_snd_steady | intro _ | split | apply State.put_steady | apply steadyOpt_get (by assumption) | apply Steady.set | apply Steady.draw | apply Steady.tell | apply Steady.purge | dsimp only)

theorem State.modStation_steady {s₀ s : State} (hs : Steady s₀ s) (st : Nat) (f : Station → Station) :
    Steady s₀ (State.modStation s st f) := by
  unfold State.modStation
  try dsimp only
  repeat' with_reducible (first | assumption | apply steadyRes_next | apply steadyOpt_none | apply steadyOpt_some | apply State.forEach_steady | apply State.when_steady | apply foldl_steady | apply foldl_fst_steady | apply foldl_snd_steady | intro _ | split | apply State.setStation_steady | apply steadyOpt_get (by assumption) | apply Steady.set | apply Steady.draw | apply Steady.tell | apply Steady.purge | dsimp only)

theorem State.bind_steady {s₀ s : State} (hs : Steady s₀ s) (mslot st : Nat) :
    Steady s₀ (State.bind s mslot st) := by
  unfold State.bind
  try dsimp only
  repeat' with_reducible (first | assumption | apply steadyRes_next | apply steadyOpt_none | apply steadyOpt_some | apply State.forEach_steady | apply State.when_steady | apply foldl_steady | apply foldl_fst_steady | apply foldl_snd_steady | intro _ | split | apply State.put_steady | apply steadyOpt_get (by assumption) | apply Steady.set | apply Steady.draw | apply Steady.tell | apply Steady.purge | dsimp only)

theorem State.unbind_steady {s₀ s : State} (hs : Steady s₀ s) (mslot : Nat) :
    Steady s₀ (State.unbind s mslot) := by
  unfold State.unbind
  try dsimp only
  repeat' with_reducible (first | assumption | apply steadyRes_next | apply steadyOpt_none | apply steadyOpt_some | apply State.forEach_steady | apply State.when_steady | apply foldl_steady | apply foldl_fst_steady | apply foldl_snd_steady | intro _ | split | apply State.put_steady | apply steadyOpt_get (by assumption) | apply Steady.set | apply Steady.draw | apply Steady.tell | apply Steady.purge | dsimp only)

theorem State.setPickup_steady {s₀ s : State} (hs : Steady s₀ s) (n : Nat) (p : Pickup) :
    Steady s₀ (State.setPickup s n p) := by
  unfold State.setPickup
  try dsimp only
  repeat' with_reducible (first | assumption | apply steadyRes_next | apply steadyOpt_none | apply steadyOpt_some | apply State.forEach_steady | apply State.when_steady | apply foldl_steady | apply foldl_fst_steady | apply foldl_snd_steady | intro _ | split | apply State.put_steady | apply steadyOpt_get (by assumption) | apply Steady.set | apply Steady.draw | apply Steady.tell | apply Steady.purge | dsimp only)

theorem State.modPickup_steady {s₀ s : State} (hs : Steady s₀ s) (n : Nat) (f : Pickup → Pickup) :
    Steady s₀ (State.modPickup s n f) := by
  unfold State.modPickup
  try dsimp only
  repeat' with_reducible (first | assumption | apply steadyRes_next | apply steadyOpt_none | apply steadyOpt_some | apply State.forEach_steady | apply State.when_steady | apply foldl_steady | apply foldl_fst_steady | apply foldl_snd_steady | intro _ | split | apply State.setPickup_steady | apply steadyOpt_get (by assumption) | apply Steady.set | apply Steady.draw | apply Steady.tell | apply Steady.purge | dsimp only)

theorem State.takeLock_steady {s₀ s : State} (hs : Steady s₀ s) (l : Option Lock) :
    Steady s₀ (State.takeLock s l) := by
  unfold State.takeLock
  try dsimp only
  repeat' with_reducible (first | assumption | apply steadyRes_next | apply steadyOpt_none | apply steadyOpt_some | apply State.forEach_steady | apply State.when_steady | apply foldl_steady | apply foldl_fst_steady | apply foldl_snd_steady | intro _ | split | apply steadyOpt_get (by assumption) | apply Steady.set | apply Steady.draw | apply Steady.tell | apply Steady.purge | dsimp only)

theorem State.finish_steady {s₀ s : State} (hs : Steady s₀ s) (h : Nat) (r : CmdResult) :
    Steady s₀ (State.finish s h r) := by
  unfold State.finish
  try dsimp only
  repeat' with_reducible (first | assumption | apply steadyRes_next | apply steadyOpt_none | apply steadyOpt_some | apply State.forEach_steady | apply State.when_steady | apply foldl_steady | apply foldl_fst_steady | apply foldl_snd_steady | intro _ | split | apply State.dropCmd_steady | apply State.setCmd_steady | apply steadyOpt_get (by assumption) | apply Steady.set | apply Steady.draw | apply Steady.tell | apply Steady.purge | dsimp only)

theorem State.refuse_steady {s₀ s : State} (hs : Steady s₀ s) (h status : Nat) :
    Steady s₀ (State.refuse s h status) := by
  unfold State.refuse
  try dsimp only
  repeat' with_reducible (first | assumption | apply steadyRes_next | apply steadyOpt_none | apply steadyOpt_some | apply State.forEach_steady | apply State.when_steady | apply foldl_steady | apply foldl_fst_steady | apply foldl_snd_steady | intro _ | split | apply State.finish_steady | apply steadyOpt_get (by assumption) | apply Steady.set | apply Steady.draw | apply Steady.tell | apply Steady.purge | dsimp only)

end Sys2Proof.Machine
end

