-- ==== Sys2Proof/Laws/SteadyOnChip.lean ====
section
/-!
SUPPORT. What every command keeps (Safety.lean), of the operations and commands of Machine/OnChip.lean.
-/
set_option Elab.async false
set_option linter.all false
namespace Sys2Proof.Machine
set_option maxRecDepth 2000

theorem State.memError_steady {s₀ s : State} (hs : Steady s₀ s) (w requester : Nat) (uncorrectable : Bool) :
    Steady s₀ (State.memError s w requester uncorrectable) := by
  unfold State.memError
  try dsimp only
  repeat' with_reducible (first | assumption | apply steadyRes_next | apply steadyOpt_none | apply steadyOpt_some | apply State.forEach_steady | apply State.when_steady | apply foldl_steady | apply foldl_fst_steady | apply foldl_snd_steady | intro _ | split | apply State.incSat_steady | apply State.put_steady | apply State.raise_steady | apply State.takeFree_steady | apply State.setFlag_steady | apply State.incWrap_steady | apply steadyOpt_get (by assumption) | apply Steady.set | apply Steady.draw | apply Steady.tell | apply Steady.purge | dsimp only)

theorem State.memUe_steady {s₀ s : State} (hs : Steady s₀ s) (w requester : Nat) :
    Steady s₀ (State.memUe s w requester) := by
  unfold State.memUe
  try dsimp only
  repeat' with_reducible (first | assumption | apply steadyRes_next | apply steadyOpt_none | apply steadyOpt_some | apply State.forEach_steady | apply State.when_steady | apply foldl_steady | apply foldl_fst_steady | apply foldl_snd_steady | intro _ | split | apply State.put_steady | apply State.post_steady | apply steadyOpt_get (by assumption) | apply Steady.set | apply Steady.draw | apply Steady.tell | apply Steady.purge | dsimp only)

theorem State.injectIn_steady {s₀ s : State} (hs : Steady s₀ s) (lo hi : Nat) :
    Steady s₀ (State.injectIn s lo hi) := by
  unfold State.injectIn
  try dsimp only
  repeat' with_reducible (first | assumption | apply steadyRes_next | apply steadyOpt_none | apply steadyOpt_some | apply State.forEach_steady | apply State.when_steady | apply foldl_steady | apply foldl_fst_steady | apply foldl_snd_steady | intro _ | split | apply State.put_steady | apply steadyOpt_get (by assumption) | apply Steady.set | apply Steady.draw | apply Steady.tell | apply Steady.purge | dsimp only)

theorem State.storeWords_steady {s₀ s : State} (hs : Steady s₀ s) (lo hi : Nat) (poisoned : Bool) :
    Steady s₀ (State.storeWords s lo hi poisoned) := by
  unfold State.storeWords
  try dsimp only
  repeat' with_reducible (first | assumption | apply steadyRes_next | apply steadyOpt_none | apply steadyOpt_some | apply State.forEach_steady | apply State.when_steady | apply foldl_steady | apply foldl_fst_steady | apply foldl_snd_steady | intro _ | split | apply State.injectIn_steady | apply steadyOpt_get (by assumption) | apply Steady.set | apply Steady.draw | apply Steady.tell | apply Steady.purge | dsimp only)

theorem State.memStore_steady {s₀ s : State} (hs : Steady s₀ s) (addr len : Nat) (poisoned : Bool) :
    Steady s₀ (State.memStore s addr len poisoned) := by
  unfold State.memStore
  try dsimp only
  repeat' with_reducible (first | assumption | apply steadyRes_next | apply steadyOpt_none | apply steadyOpt_some | apply State.forEach_steady | apply State.when_steady | apply foldl_steady | apply foldl_fst_steady | apply foldl_snd_steady | intro _ | split | apply State.storeWords_steady | apply steadyOpt_get (by assumption) | apply Steady.set | apply Steady.draw | apply Steady.tell | apply Steady.purge | dsimp only)

theorem State.writeBack_steady {s₀ s : State} (hs : Steady s₀ s) (w : Nat) :
    Steady s₀ (State.writeBack s w) := by
  unfold State.writeBack
  try dsimp only
  repeat' with_reducible (first | assumption | apply steadyRes_next | apply steadyOpt_none | apply steadyOpt_some | apply State.forEach_steady | apply State.when_steady | apply foldl_steady | apply foldl_fst_steady | apply foldl_snd_steady | intro _ | split | apply State.put_steady | apply State.injectIn_steady | apply steadyOpt_get (by assumption) | apply Steady.set | apply Steady.draw | apply Steady.tell | apply Steady.purge | dsimp only)

theorem State.checkWord_steady {s₀ s : State} (hs : Steady s₀ s) (w requester : Nat) :
    Steady s₀ (State.checkWord s w requester) := by
  unfold State.checkWord
  try dsimp only
  repeat' with_reducible (first | assumption | apply steadyRes_next | apply steadyOpt_none | apply steadyOpt_some | apply State.forEach_steady | apply State.when_steady | apply foldl_steady | apply foldl_fst_steady | apply foldl_snd_steady | intro _ | split | apply State.memError_steady | apply State.writeBack_steady | apply State.memUe_steady | apply steadyOpt_get (by assumption) | apply Steady.set | apply Steady.draw | apply Steady.tell | apply Steady.purge | dsimp only)

theorem State.memRead_steady {s₀ s : State} (hs : Steady s₀ s) (addr len requester : Nat) :
    Steady s₀ (State.memRead s addr len requester).1 := by
  unfold State.memRead
  try dsimp only
  repeat' with_reducible (first | assumption | apply steadyRes_next | apply steadyOpt_none | apply steadyOpt_some | apply State.forEach_steady | apply State.when_steady | apply foldl_steady | apply foldl_fst_steady | apply foldl_snd_steady | intro _ | split | apply State.checkWord_steady | apply steadyOpt_get (by assumption) | apply Steady.set | apply Steady.draw | apply Steady.tell | apply Steady.purge | dsimp only)

theorem State.mergeWord_steady {s₀ s : State} (hs : Steady s₀ s) (w requester : Nat) :
    Steady s₀ (State.mergeWord s w requester) := by
  unfold State.mergeWord
  try dsimp only
  repeat' with_reducible (first | assumption | apply steadyRes_next | apply steadyOpt_none | apply steadyOpt_some | apply State.forEach_steady | apply State.when_steady | apply foldl_steady | apply foldl_fst_steady | apply foldl_snd_steady | intro _ | split | apply State.storeWords_steady | apply State.injectIn_steady | apply State.memError_steady | apply State.writeBack_steady | apply State.memUe_steady | apply steadyOpt_get (by assumption) | apply Steady.set | apply Steady.draw | apply Steady.tell | apply Steady.purge | dsimp only)

theorem State.clearMemory_steady {s₀ s : State} (hs : Steady s₀ s) :
    Steady s₀ (State.clearMemory s) := by
  unfold State.clearMemory
  try dsimp only
  repeat' with_reducible (first | assumption | apply steadyRes_next | apply steadyOpt_none | apply steadyOpt_some | apply State.forEach_steady | apply State.when_steady | apply foldl_steady | apply foldl_fst_steady | apply foldl_snd_steady | intro _ | split | apply steadyOpt_get (by assumption) | apply Steady.set | apply Steady.draw | apply Steady.tell | apply Steady.purge | dsimp only)

theorem State.scrubOn_steady {s₀ s : State} (hs : Steady s₀ s) (bank row : Nat) :
    Steady s₀ (State.scrubOn s bank row) := by
  unfold State.scrubOn
  try dsimp only
  repeat' with_reducible (first | assumption | apply steadyRes_next | apply steadyOpt_none | apply steadyOpt_some | apply State.forEach_steady | apply State.when_steady | apply foldl_steady | apply foldl_fst_steady | apply foldl_snd_steady | intro _ | split | apply State.put_steady | apply State.incWrap_steady | apply steadyOpt_get (by assumption) | apply Steady.set | apply Steady.draw | apply Steady.tell | apply Steady.purge | dsimp only)

theorem execScrubVisit_steady {s₀ s : State} (hs : Steady s₀ s) (bank : Fin 128) (upset : List (Fin 137)) :
    SteadyRes s₀ (execScrubVisit bank upset s) := by
  unfold execScrubVisit
  try dsimp only
  repeat' with_reducible (first | assumption | apply steadyRes_next | apply steadyOpt_none | apply steadyOpt_some | apply State.forEach_steady | apply State.when_steady | apply foldl_steady | apply foldl_fst_steady | apply foldl_snd_steady | intro _ | split | apply State.put_steady | apply State.checkWord_steady | apply State.scrubOn_steady | apply steadyOpt_get (by assumption) | apply Steady.set | apply Steady.draw | apply Steady.tell | apply Steady.purge | dsimp only)

theorem execScrubLapSlow_steady {s₀ s : State} (hs : Steady s₀ s) :
    SteadyRes s₀ (execScrubLapSlow s) := by
  unfold execScrubLapSlow
  try dsimp only
  repeat' with_reducible (first | assumption | apply steadyRes_next | apply steadyOpt_none | apply steadyOpt_some | apply State.forEach_steady | apply State.when_steady | apply foldl_steady | apply foldl_fst_steady | apply foldl_snd_steady | intro _ | split | apply State.raise_steady | apply steadyOpt_get (by assumption) | apply Steady.set | apply Steady.draw | apply Steady.tell | apply Steady.purge | dsimp only)

theorem execMemCntClr_steady {s₀ s : State} (hs : Steady s₀ s) :
    SteadyRes s₀ (execMemCntClr s) := by
  unfold execMemCntClr
  try dsimp only
  repeat' with_reducible (first | assumption | apply steadyRes_next | apply steadyOpt_none | apply steadyOpt_some | apply State.forEach_steady | apply State.when_steady | apply foldl_steady | apply foldl_fst_steady | apply foldl_snd_steady | intro _ | split | apply State.put_steady | apply steadyOpt_get (by assumption) | apply Steady.set | apply Steady.draw | apply Steady.tell | apply Steady.purge | dsimp only)

theorem State.writeInject_steady {s₀ s : State} (hs : Steady s₀ s) (v : Nat) :
    Steady s₀ (State.writeInject s v) := by
  unfold State.writeInject
  try dsimp only
  repeat' with_reducible (first | assumption | apply steadyRes_next | apply steadyOpt_none | apply steadyOpt_some | apply State.forEach_steady | apply State.when_steady | apply foldl_steady | apply foldl_fst_steady | apply foldl_snd_steady | intro _ | split | apply State.put_steady | apply steadyOpt_get (by assumption) | apply Steady.set | apply Steady.draw | apply Steady.tell | apply Steady.purge | dsimp only)

theorem execMemInjectArm_steady {s₀ s : State} (hs : Steady s₀ s) (value : Word) :
    SteadyRes s₀ (execMemInjectArm value s) := by
  unfold execMemInjectArm
  try dsimp only
  repeat' with_reducible (first | assumption | apply steadyRes_next | apply steadyOpt_none | apply steadyOpt_some | apply State.forEach_steady | apply State.when_steady | apply foldl_steady | apply foldl_fst_steady | apply foldl_snd_steady | intro _ | split | apply State.writeInject_steady | apply steadyOpt_get (by assumption) | apply Steady.set | apply Steady.draw | apply Steady.tell | apply Steady.purge | dsimp only)

end Sys2Proof.Machine
end

