-- ==== Sys2Proof/Laws/SteadyCacheOps.lean ====
section
/-!
SUPPORT. What every command keeps (Safety.lean), of the operations and commands of Machine/CacheOps.lean.
-/
set_option Elab.async false
set_option linter.all false
namespace Sys2Proof.Machine
set_option maxRecDepth 2000

theorem State.setEntry_steady {s₀ s : State} (hs : Steady s₀ s) (e : Nat) (x : Entry) :
    Steady s₀ (State.setEntry s e x) := by
  unfold State.setEntry
  try dsimp only
  repeat' with_reducible (first | assumption | apply steadyRes_next | apply steadyOpt_none | apply steadyOpt_some | apply State.forEach_steady | apply State.when_steady | apply foldl_steady | apply foldl_fst_steady | apply foldl_snd_steady | intro _ | split | apply State.put_steady | apply steadyOpt_get (by assumption) | apply Steady.set | apply Steady.draw | apply Steady.tell | apply Steady.purge | dsimp only)

theorem State.modEntry_steady {s₀ s : State} (hs : Steady s₀ s) (e : Nat) (f : Entry → Entry) :
    Steady s₀ (State.modEntry s e f) := by
  unfold State.modEntry
  try dsimp only
  repeat' with_reducible (first | assumption | apply steadyRes_next | apply steadyOpt_none | apply steadyOpt_some | apply State.forEach_steady | apply State.when_steady | apply foldl_steady | apply foldl_fst_steady | apply foldl_snd_steady | intro _ | split | apply State.setEntry_steady | apply steadyOpt_get (by assumption) | apply Steady.set | apply Steady.draw | apply Steady.tell | apply Steady.purge | dsimp only)

theorem State.storeSector_steady {s₀ s : State} (hs : Steady s₀ s) (e j : Nat) (c : CacheSector) :
    Steady s₀ (State.storeSector s e j c) := by
  unfold State.storeSector
  try dsimp only
  repeat' with_reducible (first | assumption | apply steadyRes_next | apply steadyOpt_none | apply steadyOpt_some | apply State.forEach_steady | apply State.when_steady | apply foldl_steady | apply foldl_fst_steady | apply foldl_snd_steady | intro _ | split | apply State.modEntry_steady | apply State.memStore_steady | apply steadyOpt_get (by assumption) | apply Steady.set | apply Steady.draw | apply Steady.tell | apply Steady.purge | dsimp only)

theorem State.readSector_steady {s₀ s : State} (hs : Steady s₀ s) (e j requester : Nat) :
    Steady s₀ (State.readSector s e j requester) := by
  unfold State.readSector
  try dsimp only
  repeat' with_reducible (first | assumption | apply steadyRes_next | apply steadyOpt_none | apply steadyOpt_some | apply State.forEach_steady | apply State.when_steady | apply foldl_steady | apply foldl_fst_steady | apply foldl_snd_steady | intro _ | split | apply State.memRead_steady | apply State.modEntry_steady | apply steadyOpt_get (by assumption) | apply Steady.set | apply Steady.draw | apply Steady.tell | apply Steady.purge | dsimp only)

theorem State.touch_steady {s₀ s : State} (hs : Steady s₀ s) (e : Nat) :
    Steady s₀ (State.touch s e) := by
  unfold State.touch
  try dsimp only
  repeat' with_reducible (first | assumption | apply steadyRes_next | apply steadyOpt_none | apply steadyOpt_some | apply State.forEach_steady | apply State.when_steady | apply foldl_steady | apply foldl_fst_steady | apply foldl_snd_steady | intro _ | split | apply State.modEntry_steady | apply steadyOpt_get (by assumption) | apply Steady.set | apply Steady.draw | apply Steady.tell | apply Steady.purge | dsimp only)

theorem State.setWork_steady {s₀ s : State} (hs : Steady s₀ s) (e : Nat) (w : BlockWork) :
    Steady s₀ (State.setWork s e w) := by
  unfold State.setWork
  try dsimp only
  repeat' with_reducible (first | assumption | apply steadyRes_next | apply steadyOpt_none | apply steadyOpt_some | apply State.forEach_steady | apply State.when_steady | apply foldl_steady | apply foldl_fst_steady | apply foldl_snd_steady | intro _ | split | apply State.put_steady | apply steadyOpt_get (by assumption) | apply Steady.set | apply Steady.draw | apply Steady.tell | apply Steady.purge | dsimp only)

theorem State.modWork_steady {s₀ s : State} (hs : Steady s₀ s) (e : Nat) (f : BlockWork → BlockWork) :
    Steady s₀ (State.modWork s e f) := by
  unfold State.modWork
  try dsimp only
  repeat' with_reducible (first | assumption | apply steadyRes_next | apply steadyOpt_none | apply steadyOpt_some | apply State.forEach_steady | apply State.when_steady | apply foldl_steady | apply foldl_fst_steady | apply foldl_snd_steady | intro _ | split | apply State.setWork_steady | apply steadyOpt_get (by assumption) | apply Steady.set | apply Steady.draw | apply Steady.tell | apply Steady.purge | dsimp only)

theorem State.discardWork_steady {s₀ s : State} (hs : Steady s₀ s) (e : Nat) :
    Steady s₀ (State.discardWork s e) := by
  unfold State.discardWork
  try dsimp only
  repeat' with_reducible (first | assumption | apply steadyRes_next | apply steadyOpt_none | apply steadyOpt_some | apply State.forEach_steady | apply State.when_steady | apply foldl_steady | apply foldl_fst_steady | apply foldl_snd_steady | intro _ | split | apply State.put_steady | apply steadyOpt_get (by assumption) | apply Steady.set | apply Steady.draw | apply Steady.tell | apply Steady.purge | dsimp only)

theorem State.startWork_steady {s₀ s : State} (hs : Steady s₀ s) (e st mslot block : Nat) (verify noRetry early : Bool) :
    Steady s₀ (State.startWork s e st mslot block verify noRetry early) := by
  unfold State.startWork
  try dsimp only
  repeat' with_reducible (first | assumption | apply steadyRes_next | apply steadyOpt_none | apply steadyOpt_some | apply State.forEach_steady | apply State.when_steady | apply foldl_steady | apply foldl_fst_steady | apply foldl_snd_steady | intro _ | split | apply State.setWork_steady | apply steadyOpt_get (by assumption) | apply Steady.set | apply Steady.draw | apply Steady.tell | apply Steady.purge | dsimp only)

theorem State.freeEntry_steady {s₀ s : State} (hs : Steady s₀ s) (e : Nat) :
    Steady s₀ (State.freeEntry s e) := by
  unfold State.freeEntry
  try dsimp only
  repeat' with_reducible (first | assumption | apply steadyRes_next | apply steadyOpt_none | apply steadyOpt_some | apply State.forEach_steady | apply State.when_steady | apply foldl_steady | apply foldl_fst_steady | apply foldl_snd_steady | intro _ | split | apply State.discardWork_steady | apply State.count_steady | apply State.setEntry_steady | apply steadyOpt_get (by assumption) | apply Steady.set | apply Steady.draw | apply Steady.tell | apply Steady.purge | dsimp only)

theorem State.setLane_steady {s₀ s : State} (hs : Steady s₀ s) (bc : Nat) (l : Lane) :
    Steady s₀ (State.setLane s bc l) := by
  unfold State.setLane
  try dsimp only
  repeat' with_reducible (first | assumption | apply steadyRes_next | apply steadyOpt_none | apply steadyOpt_some | apply State.forEach_steady | apply State.when_steady | apply foldl_steady | apply foldl_fst_steady | apply foldl_snd_steady | intro _ | split | apply State.put_steady | apply steadyOpt_get (by assumption) | apply Steady.set | apply Steady.draw | apply Steady.tell | apply Steady.purge | dsimp only)

theorem State.applyQuality_steady {s₀ s : State} (hs : Steady s₀ s) (bc : Nat) (q : Quality) :
    Steady s₀ (State.applyQuality s bc q) := by
  unfold State.applyQuality
  try dsimp only
  repeat' with_reducible (first | assumption | apply steadyRes_next | apply steadyOpt_none | apply steadyOpt_some | apply State.forEach_steady | apply State.when_steady | apply foldl_steady | apply foldl_fst_steady | apply foldl_snd_steady | intro _ | split | apply State.put_steady | apply State.count_steady | apply State.raise_steady | apply State.setLane_steady | apply steadyOpt_get (by assumption) | apply Steady.set | apply Steady.draw | apply Steady.tell | apply Steady.purge | dsimp only)

theorem State.reportOutcome_steady {s₀ s : State} (hs : Steady s₀ s) (r : SectorReport) :
    Steady s₀ (State.reportOutcome s r) := by
  unfold State.reportOutcome
  try dsimp only
  repeat' with_reducible (first | assumption | apply steadyRes_next | apply steadyOpt_none | apply steadyOpt_some | apply State.forEach_steady | apply State.when_steady | apply foldl_steady | apply foldl_fst_steady | apply foldl_snd_steady | intro _ | split | apply State.count_steady | apply State.put_steady | apply State.raise_steady | apply State.applyQuality_steady | apply steadyOpt_get (by assumption) | apply Steady.set | apply Steady.draw | apply Steady.tell | apply Steady.purge | dsimp only)

theorem State.raiseOuterBad_steady {s₀ s : State} (hs : Steady s₀ s) (bc psa : Nat) :
    Steady s₀ (State.raiseOuterBad s bc psa) := by
  unfold State.raiseOuterBad
  try dsimp only
  repeat' with_reducible (first | assumption | apply steadyRes_next | apply steadyOpt_none | apply steadyOpt_some | apply State.forEach_steady | apply State.when_steady | apply foldl_steady | apply foldl_fst_steady | apply foldl_snd_steady | intro _ | split | apply State.raise_steady | apply steadyOpt_get (by assumption) | apply Steady.set | apply Steady.draw | apply Steady.tell | apply Steady.purge | dsimp only)

theorem State.applyReport_steady {s₀ s : State} (hs : Steady s₀ s) (r : SectorReport) :
    Steady s₀ (State.applyReport s r) := by
  unfold State.applyReport
  try dsimp only
  repeat' with_reducible (first | assumption | apply steadyRes_next | apply steadyOpt_none | apply steadyOpt_some | apply State.forEach_steady | apply State.when_steady | apply foldl_steady | apply foldl_fst_steady | apply foldl_snd_steady | intro _ | split | apply State.raiseOuterBad_steady | apply State.reportOutcome_steady | apply steadyOpt_get (by assumption) | apply Steady.set | apply Steady.draw | apply Steady.tell | apply Steady.purge | dsimp only)

theorem State.report_steady {s₀ s : State} (hs : Steady s₀ s) (e : Nat) (r : SectorReport) :
    Steady s₀ (State.report s e r) := by
  unfold State.report
  try dsimp only
  repeat' with_reducible (first | assumption | apply steadyRes_next | apply steadyOpt_none | apply steadyOpt_some | apply State.forEach_steady | apply State.when_steady | apply foldl_steady | apply foldl_fst_steady | apply foldl_snd_steady | intro _ | split | apply State.modEntry_steady | apply State.applyReport_steady | apply steadyOpt_get (by assumption) | apply Steady.set | apply Steady.draw | apply Steady.tell | apply Steady.purge | dsimp only)

theorem State.claim_steady {s₀ s : State} (hs : Steady s₀ s) (h e cls : Nat) :
    Steady s₀ (State.claim s h e cls) := by
  unfold State.claim
  try dsimp only
  repeat' with_reducible (first | assumption | apply steadyRes_next | apply steadyOpt_none | apply steadyOpt_some | apply State.forEach_steady | apply State.when_steady | apply foldl_steady | apply foldl_fst_steady | apply foldl_snd_steady | intro _ | split | apply State.setEntry_steady | apply State.applyReport_steady | apply State.touch_steady | apply steadyOpt_get (by assumption) | apply Steady.set | apply Steady.draw | apply Steady.tell | apply Steady.purge | dsimp only)

theorem State.releaseUses_steady {s₀ s : State} (hs : Steady s₀ s) (h : Nat) (giveUp : Bool) :
    Steady s₀ (State.releaseUses s h giveUp) := by
  unfold State.releaseUses
  try dsimp only
  repeat' with_reducible (first | assumption | apply steadyRes_next | apply steadyOpt_none | apply steadyOpt_some | apply State.forEach_steady | apply State.when_steady | apply foldl_steady | apply foldl_fst_steady | apply foldl_snd_steady | intro _ | split | apply State.setEntry_steady | apply State.freeEntry_steady | apply State.modCmd_steady | apply steadyOpt_get (by assumption) | apply Steady.set | apply Steady.draw | apply Steady.tell | apply Steady.purge | dsimp only)

end Sys2Proof.Machine
end

