-- ==== Sys2Proof/Laws/SteadyData.lean ====
section
/-!
SUPPORT. What every command keeps (Safety.lean), of the operations and commands of Machine/Data.lean.
-/
set_option Elab.async false
set_option linter.all false
namespace Sys2Proof.Machine
set_option maxRecDepth 2000

theorem State.endCmd_steady {s₀ s : State} (hs : Steady s₀ s) (h : Nat) (giveUp : Bool) (r : CmdResult) :
    Steady s₀ (State.endCmd s h giveUp r) := by
  unfold State.endCmd
  try dsimp only
  repeat' with_reducible (first | assumption | apply steadyRes_next | apply steadyOpt_none | apply steadyOpt_some | apply State.forEach_steady | apply State.when_steady | apply foldl_steady | apply foldl_fst_steady | apply foldl_snd_steady | intro _ | split | apply State.releaseUses_steady | apply State.finish_steady | apply steadyOpt_get (by assumption) | apply Steady.set | apply Steady.draw | apply Steady.tell | apply Steady.purge | dsimp only)

theorem State.setKeySlot_steady {s₀ s : State} (hs : Steady s₀ s) (k : Nat) (x : KeySlot) :
    Steady s₀ (State.setKeySlot s k x) := by
  unfold State.setKeySlot
  try dsimp only
  repeat' with_reducible (first | assumption | apply steadyRes_next | apply steadyOpt_none | apply steadyOpt_some | apply State.forEach_steady | apply State.when_steady | apply foldl_steady | apply foldl_fst_steady | apply foldl_snd_steady | intro _ | split | apply State.put_steady | apply steadyOpt_get (by assumption) | apply Steady.set | apply Steady.draw | apply Steady.tell | apply Steady.purge | dsimp only)

theorem State.setEngine_steady {s₀ s : State} (hs : Steady s₀ s) (e : Nat) (x : Option Engine) :
    Steady s₀ (State.setEngine s e x) := by
  unfold State.setEngine
  try dsimp only
  repeat' with_reducible (first | assumption | apply steadyRes_next | apply steadyOpt_none | apply steadyOpt_some | apply State.forEach_steady | apply State.when_steady | apply foldl_steady | apply foldl_fst_steady | apply foldl_snd_steady | intro _ | split | apply State.put_steady | apply steadyOpt_get (by assumption) | apply Steady.set | apply Steady.draw | apply Steady.tell | apply Steady.purge | dsimp only)

theorem State.addWork_steady {s₀ s : State} (hs : Steady s₀ s) (w : EngineWork) :
    Steady s₀ (State.addWork s w) := by
  unfold State.addWork
  try dsimp only
  repeat' with_reducible (first | assumption | apply steadyRes_next | apply steadyOpt_none | apply steadyOpt_some | apply State.forEach_steady | apply State.when_steady | apply foldl_steady | apply foldl_fst_steady | apply foldl_snd_steady | intro _ | split | apply steadyOpt_get (by assumption) | apply Steady.set | apply Steady.draw | apply Steady.tell | apply Steady.purge | dsimp only)

theorem State.setWorkItem_steady {s₀ s : State} (hs : Steady s₀ s) (w : EngineWork) :
    Steady s₀ (State.setWorkItem s w) := by
  unfold State.setWorkItem
  try dsimp only
  repeat' with_reducible (first | assumption | apply steadyRes_next | apply steadyOpt_none | apply steadyOpt_some | apply State.forEach_steady | apply State.when_steady | apply foldl_steady | apply foldl_fst_steady | apply foldl_snd_steady | intro _ | split | apply steadyOpt_get (by assumption) | apply Steady.set | apply Steady.draw | apply Steady.tell | apply Steady.purge | dsimp only)

theorem State.zeroRest_steady {s₀ s : State} (hs : Steady s₀ s) (c : Cmd) :
    Steady s₀ (State.zeroRest s c) := by
  unfold State.zeroRest
  try dsimp only
  repeat' with_reducible (first | assumption | apply steadyRes_next | apply steadyOpt_none | apply steadyOpt_some | apply State.forEach_steady | apply State.when_steady | apply foldl_steady | apply foldl_fst_steady | apply foldl_snd_steady | intro _ | split | apply State.emitAll_steady | apply steadyOpt_get (by assumption) | apply Steady.set | apply Steady.draw | apply Steady.tell | apply Steady.purge | dsimp only)

theorem State.setFrontier_steady {s₀ s : State} (hs : Steady s₀ s) (st side layer : Nat) (w : Option Nat) :
    Steady s₀ (State.setFrontier s st side layer w) := by
  unfold State.setFrontier
  try dsimp only
  repeat' with_reducible (first | assumption | apply steadyRes_next | apply steadyOpt_none | apply steadyOpt_some | apply State.forEach_steady | apply State.when_steady | apply foldl_steady | apply foldl_fst_steady | apply foldl_snd_steady | intro _ | split | apply State.put_steady | apply steadyOpt_get (by assumption) | apply Steady.set | apply Steady.draw | apply Steady.tell | apply Steady.purge | dsimp only)

theorem State.setPuRec_steady {s₀ s : State} (hs : Steady s₀ s) (n : Nat) (p : PickupRec) :
    Steady s₀ (State.setPuRec s n p) := by
  unfold State.setPuRec
  try dsimp only
  repeat' with_reducible (first | assumption | apply steadyRes_next | apply steadyOpt_none | apply steadyOpt_some | apply State.forEach_steady | apply State.when_steady | apply foldl_steady | apply foldl_fst_steady | apply foldl_snd_steady | intro _ | split | apply State.put_steady | apply steadyOpt_get (by assumption) | apply Steady.set | apply Steady.draw | apply Steady.tell | apply Steady.purge | dsimp only)

theorem State.modPuRec_steady {s₀ s : State} (hs : Steady s₀ s) (n : Nat) (f : PickupRec → PickupRec) :
    Steady s₀ (State.modPuRec s n f) := by
  unfold State.modPuRec
  try dsimp only
  repeat' with_reducible (first | assumption | apply steadyRes_next | apply steadyOpt_none | apply steadyOpt_some | apply State.forEach_steady | apply State.when_steady | apply foldl_steady | apply foldl_fst_steady | apply foldl_snd_steady | intro _ | split | apply State.setPuRec_steady | apply steadyOpt_get (by assumption) | apply Steady.set | apply Steady.draw | apply Steady.tell | apply Steady.purge | dsimp only)

theorem State.setRecBlock_steady {s₀ s : State} (hs : Steady s₀ s) (r : RecBlock) :
    Steady s₀ (State.setRecBlock s r) := by
  unfold State.setRecBlock
  try dsimp only
  repeat' with_reducible (first | assumption | apply steadyRes_next | apply steadyOpt_none | apply steadyOpt_some | apply State.forEach_steady | apply State.when_steady | apply foldl_steady | apply foldl_fst_steady | apply foldl_snd_steady | intro _ | split | apply steadyOpt_get (by assumption) | apply Steady.set | apply Steady.draw | apply Steady.tell | apply Steady.purge | dsimp only)

theorem State.dropRecBlock_steady {s₀ s : State} (hs : Steady s₀ s) (mslot block : Nat) :
    Steady s₀ (State.dropRecBlock s mslot block) := by
  unfold State.dropRecBlock
  try dsimp only
  repeat' with_reducible (first | assumption | apply steadyRes_next | apply steadyOpt_none | apply steadyOpt_some | apply State.forEach_steady | apply State.when_steady | apply foldl_steady | apply foldl_fst_steady | apply foldl_snd_steady | intro _ | split | apply steadyOpt_get (by assumption) | apply Steady.set | apply Steady.draw | apply Steady.tell | apply Steady.purge | dsimp only)

theorem State.prepareBlock_steady {s₀ s : State} (hs : Steady s₀ s) (r : RecBlock) :
    Steady s₀ (State.prepareBlock s r) := by
  unfold State.prepareBlock
  try dsimp only
  repeat' with_reducible (first | assumption | apply steadyRes_next | apply steadyOpt_none | apply steadyOpt_some | apply State.forEach_steady | apply State.when_steady | apply foldl_steady | apply foldl_fst_steady | apply foldl_snd_steady | intro _ | split | apply State.setRecBlock_steady | apply steadyOpt_get (by assumption) | apply Steady.set | apply Steady.draw | apply Steady.tell | apply Steady.purge | dsimp only)

theorem State.commitBlock_steady {s₀ s : State} (hs : Steady s₀ s) (e : Nat) :
    Steady s₀ (State.commitBlock s e) := by
  unfold State.commitBlock
  try dsimp only
  repeat' with_reducible (first | assumption | apply steadyRes_next | apply steadyOpt_none | apply steadyOpt_some | apply State.forEach_steady | apply State.when_steady | apply foldl_steady | apply foldl_fst_steady | apply foldl_snd_steady | intro _ | split | apply State.readSector_steady | apply State.modEntry_steady | apply State.prepareBlock_steady | apply State.addWork_steady | apply steadyOpt_get (by assumption) | apply Steady.set | apply Steady.draw | apply Steady.tell | apply Steady.purge | dsimp only)

theorem State.tryCommit_steady {s₀ s : State} (hs : Steady s₀ s) (e : Nat) :
    Steady s₀ (State.tryCommit s e) := by
  unfold State.tryCommit
  try dsimp only
  repeat' with_reducible (first | assumption | apply steadyRes_next | apply steadyOpt_none | apply steadyOpt_some | apply State.forEach_steady | apply State.when_steady | apply foldl_steady | apply foldl_fst_steady | apply foldl_snd_steady | intro _ | split | apply State.commitBlock_steady | apply steadyOpt_get (by assumption) | apply Steady.set | apply Steady.draw | apply Steady.tell | apply Steady.purge | dsimp only)

theorem State.padSectors_steady {s₀ s : State} (hs : Steady s₀ s) (e : Nat) (js : List Nat) :
    Steady s₀ (State.padSectors s e js) := by
  unfold State.padSectors
  try dsimp only
  repeat' with_reducible (first | assumption | apply steadyRes_next | apply steadyOpt_none | apply steadyOpt_some | apply State.forEach_steady | apply State.when_steady | apply foldl_steady | apply foldl_fst_steady | apply foldl_snd_steady | intro _ | split | apply State.storeSector_steady | apply State.tryCommit_steady | apply steadyOpt_get (by assumption) | apply Steady.set | apply Steady.draw | apply Steady.tell | apply Steady.purge | dsimp only)

theorem State.padLbas_steady {s₀ s : State} (hs : Steady s₀ s) (st mslot cls : Nat) (lbas : List Nat) :
    Steady s₀ (State.padLbas s st mslot cls lbas) := by
  unfold State.padLbas
  try dsimp only
  repeat' with_reducible (first | assumption | apply steadyRes_next | apply steadyOpt_none | apply steadyOpt_some | apply State.forEach_steady | apply State.when_steady | apply foldl_steady | apply foldl_fst_steady | apply foldl_snd_steady | intro _ | split | apply State.discardWork_steady | apply State.modEntry_steady | apply State.padSectors_steady | apply steadyOpt_get (by assumption) | apply Steady.set | apply Steady.draw | apply Steady.tell | apply Steady.purge | dsimp only)

theorem State.closeBlock_steady {s₀ s : State} (hs : Steady s₀ s) (st mslot block : Nat) :
    Steady s₀ (State.closeBlock s st mslot block).1 := by
  unfold State.closeBlock
  try dsimp only
  repeat' with_reducible (first | assumption | apply steadyRes_next | apply steadyOpt_none | apply steadyOpt_some | apply State.forEach_steady | apply State.when_steady | apply foldl_steady | apply foldl_fst_steady | apply foldl_snd_steady | intro _ | split | apply State.setFrontier_steady | apply State.padSectors_steady | apply steadyOpt_get (by assumption) | apply Steady.set | apply Steady.draw | apply Steady.tell | apply Steady.purge | dsimp only)

theorem State.tryEndWrite_steady {s₀ s : State} (hs : Steady s₀ s) (h : Nat) :
    Steady s₀ (State.tryEndWrite s h) := by
  unfold State.tryEndWrite
  try dsimp only
  repeat' with_reducible (first | assumption | apply steadyRes_next | apply steadyOpt_none | apply steadyOpt_some | apply State.forEach_steady | apply State.when_steady | apply foldl_steady | apply foldl_fst_steady | apply foldl_snd_steady | intro _ | split | apply State.endCmd_steady | apply steadyOpt_get (by assumption) | apply Steady.set | apply Steady.draw | apply Steady.tell | apply Steady.purge | dsimp only)

theorem State.tryEndFlush_steady {s₀ s : State} (hs : Steady s₀ s) (h : Nat) :
    Steady s₀ (State.tryEndFlush s h) := by
  unfold State.tryEndFlush
  try dsimp only
  repeat' with_reducible (first | assumption | apply steadyRes_next | apply steadyOpt_none | apply steadyOpt_some | apply State.forEach_steady | apply State.when_steady | apply foldl_steady | apply foldl_fst_steady | apply foldl_snd_steady | intro _ | split | apply State.flush_steady | apply State.endCmd_steady | apply steadyOpt_get (by assumption) | apply Steady.set | apply Steady.draw | apply Steady.tell | apply Steady.purge | dsimp only)

theorem State.blockSettled_steady {s₀ s : State} (hs : Steady s₀ s) (mslot block : Nat) (failed : Bool) :
    Steady s₀ (State.blockSettled s mslot block failed) := by
  unfold State.blockSettled
  try dsimp only
  repeat' with_reducible (first | assumption | apply steadyRes_next | apply steadyOpt_none | apply steadyOpt_some | apply State.forEach_steady | apply State.when_steady | apply foldl_steady | apply foldl_fst_steady | apply foldl_snd_steady | intro _ | split | apply State.flush_steady | apply State.modCmd_steady | apply State.tryEndWrite_steady | apply State.tryEndFlush_steady | apply steadyOpt_get (by assumption) | apply Steady.set | apply Steady.draw | apply Steady.tell | apply Steady.purge | dsimp only)

theorem State.stopWrite_steady {s₀ s : State} (hs : Steady s₀ s) (h status : Nat) :
    Steady s₀ (State.stopWrite s h status) := by
  unfold State.stopWrite
  try dsimp only
  repeat' with_reducible (first | assumption | apply steadyRes_next | apply steadyOpt_none | apply steadyOpt_some | apply State.forEach_steady | apply State.when_steady | apply foldl_steady | apply foldl_fst_steady | apply foldl_snd_steady | intro _ | split | apply State.endCmd_steady | apply State.padLbas_steady | apply steadyOpt_get (by assumption) | apply Steady.set | apply Steady.draw | apply Steady.tell | apply Steady.purge | dsimp only)

theorem State.flushJob_steady {s₀ s : State} (hs : Steady s₀ s) (h : Nat) :
    Steady s₀ (State.flushJob s h) := by
  unfold State.flushJob
  try dsimp only
  repeat' with_reducible (first | assumption | apply steadyRes_next | apply steadyOpt_none | apply steadyOpt_some | apply State.forEach_steady | apply State.when_steady | apply foldl_steady | apply foldl_fst_steady | apply foldl_snd_steady | intro _ | split | apply State.emitAll_steady | apply State.modCmd_steady | apply steadyOpt_get (by assumption) | apply Steady.set | apply Steady.draw | apply Steady.tell | apply Steady.purge | dsimp only)

theorem State.stopCmd_steady {s₀ s : State} (hs : Steady s₀ s) (h status : Nat) :
    Steady s₀ (State.stopCmd s h status) := by
  unfold State.stopCmd
  try dsimp only
  repeat' with_reducible (first | assumption | apply steadyRes_next | apply steadyOpt_none | apply steadyOpt_some | apply State.forEach_steady | apply State.when_steady | apply foldl_steady | apply foldl_fst_steady | apply foldl_snd_steady | intro _ | split | apply State.stopWrite_steady | apply State.flushJob_steady | apply State.endCmd_steady | apply State.flush_steady | apply State.finish_steady | apply steadyOpt_get (by assumption) | apply Steady.set | apply Steady.draw | apply Steady.tell | apply Steady.purge | dsimp only)

theorem State.settleSeals_steady {s₀ s : State} (hs : Steady s₀ s) :
    Steady s₀ (State.settleSeals s) := by
  unfold State.settleSeals
  try dsimp only
  repeat' with_reducible (first | assumption | apply steadyRes_next | apply steadyOpt_none | apply steadyOpt_some | apply State.forEach_steady | apply State.when_steady | apply foldl_steady | apply foldl_fst_steady | apply foldl_snd_steady | intro _ | split | apply State.setRecBlock_steady | apply State.prepareBlock_steady | apply steadyOpt_get (by assumption) | apply Steady.set | apply Steady.draw | apply Steady.tell | apply Steady.purge | dsimp only)

theorem State.sealLost_steady {s₀ s : State} (hs : Steady s₀ s) (w : EngineWork) :
    Steady s₀ (State.sealLost s w) := by
  unfold State.sealLost
  try dsimp only
  repeat' with_reducible (first | assumption | apply steadyRes_next | apply steadyOpt_none | apply steadyOpt_some | apply State.forEach_steady | apply State.when_steady | apply foldl_steady | apply foldl_fst_steady | apply foldl_snd_steady | intro _ | split | apply State.post_steady | apply State.storeSector_steady | apply State.settleSeals_steady | apply steadyOpt_get (by assumption) | apply Steady.set | apply Steady.draw | apply Steady.tell | apply Steady.purge | dsimp only)

theorem State.keyChanged_steady {s₀ s : State} (hs : Steady s₀ s) (h : Nat) :
    Steady s₀ (State.keyChanged s h) := by
  unfold State.keyChanged
  try dsimp only
  repeat' with_reducible (first | assumption | apply steadyRes_next | apply steadyOpt_none | apply steadyOpt_some | apply State.forEach_steady | apply State.when_steady | apply foldl_steady | apply foldl_fst_steady | apply foldl_snd_steady | intro _ | split | apply State.post_steady | apply State.storeSector_steady | apply State.endCmd_steady | apply State.padLbas_steady | apply State.tryCommit_steady | apply State.settleSeals_steady | apply State.zeroRest_steady | apply State.flushJob_steady | apply steadyOpt_get (by assumption) | apply Steady.set | apply Steady.draw | apply Steady.tell | apply Steady.purge | dsimp only)

theorem State.passKeyChanged_steady {s₀ s : State} (hs : Steady s₀ s) (w : EngineWork) :
    Steady s₀ (State.passKeyChanged s w) := by
  unfold State.passKeyChanged
  try dsimp only
  repeat' with_reducible (first | assumption | apply steadyRes_next | apply steadyOpt_none | apply steadyOpt_some | apply State.forEach_steady | apply State.when_steady | apply foldl_steady | apply foldl_fst_steady | apply foldl_snd_steady | intro _ | split | apply State.post_steady | apply State.endCmd_steady | apply State.keyChanged_steady | apply steadyOpt_get (by assumption) | apply Steady.set | apply Steady.draw | apply Steady.tell | apply Steady.purge | dsimp only)

theorem State.startBlock_steady {s₀ s : State} (hs : Steady s₀ s) (e : Nat) (w : EngineWork) :
    Steady s₀ (State.startBlock s e w) := by
  unfold State.startBlock
  try dsimp only
  repeat' with_reducible (first | assumption | apply steadyRes_next | apply steadyOpt_none | apply steadyOpt_some | apply State.forEach_steady | apply State.when_steady | apply foldl_steady | apply foldl_fst_steady | apply foldl_snd_steady | intro _ | split | apply State.passKeyChanged_steady | apply State.keyChanged_steady | apply State.sealLost_steady | apply State.setWorkItem_steady | apply State.setEngine_steady | apply steadyOpt_get (by assumption) | apply Steady.set | apply Steady.draw | apply Steady.tell | apply Steady.purge | dsimp only)

theorem State.refillEngines_steady {s₀ s : State} (hs : Steady s₀ s) :
    Steady s₀ (State.refillEngines s) := by
  unfold State.refillEngines
  try dsimp only
  repeat' with_reducible (first | assumption | apply steadyRes_next | apply steadyOpt_none | apply steadyOpt_some | apply State.forEach_steady | apply State.when_steady | apply foldl_steady | apply foldl_fst_steady | apply foldl_snd_steady | intro _ | split | apply State.startBlock_steady | apply steadyOpt_get (by assumption) | apply Steady.set | apply Steady.draw | apply Steady.tell | apply Steady.purge | dsimp only)

theorem State.offerUnseal_steady {s₀ s : State} (hs : Steady s₀ s) (h k : Nat) :
    Steady s₀ (State.offerUnseal s h k) := by
  unfold State.offerUnseal
  try dsimp only
  repeat' with_reducible (first | assumption | apply steadyRes_next | apply steadyOpt_none | apply steadyOpt_some | apply State.forEach_steady | apply State.when_steady | apply foldl_steady | apply foldl_fst_steady | apply foldl_snd_steady | intro _ | split | apply State.addWork_steady | apply steadyOpt_get (by assumption) | apply Steady.set | apply Steady.draw | apply Steady.tell | apply Steady.purge | dsimp only)

theorem State.endRead_steady {s₀ s : State} (hs : Steady s₀ s) (h done : Nat) (outcomes failed : List Nat) :
    Steady s₀ (State.endRead s h done outcomes failed) := by
  unfold State.endRead
  try dsimp only
  repeat' with_reducible (first | assumption | apply steadyRes_next | apply steadyOpt_none | apply steadyOpt_some | apply State.forEach_steady | apply State.when_steady | apply foldl_steady | apply foldl_fst_steady | apply foldl_snd_steady | intro _ | split | apply State.setCmd_steady | apply State.endCmd_steady | apply steadyOpt_get (by assumption) | apply Steady.set | apply Steady.draw | apply Steady.tell | apply Steady.purge | dsimp only)

theorem State.tryEndRead_steady {s₀ s : State} (hs : Steady s₀ s) (h : Nat) :
    Steady s₀ (State.tryEndRead s h) := by
  unfold State.tryEndRead
  try dsimp only
  repeat' with_reducible (first | assumption | apply steadyRes_next | apply steadyOpt_none | apply steadyOpt_some | apply State.forEach_steady | apply State.when_steady | apply foldl_steady | apply foldl_fst_steady | apply foldl_snd_steady | intro _ | split | apply State.modStation_steady | apply State.endRead_steady | apply steadyOpt_get (by assumption) | apply Steady.set | apply Steady.draw | apply Steady.tell | apply Steady.purge | dsimp only)

theorem State.tryEndFill_steady {s₀ s : State} (hs : Steady s₀ s) (h : Nat) :
    Steady s₀ (State.tryEndFill s h) := by
  unfold State.tryEndFill
  try dsimp only
  repeat' with_reducible (first | assumption | apply steadyRes_next | apply steadyOpt_none | apply steadyOpt_some | apply State.forEach_steady | apply State.when_steady | apply foldl_steady | apply foldl_fst_steady | apply foldl_snd_steady | intro _ | split | apply State.keyChanged_steady | apply State.endRead_steady | apply steadyOpt_get (by assumption) | apply Steady.set | apply Steady.draw | apply Steady.tell | apply Steady.purge | dsimp only)

theorem State.sectorReady_steady {s₀ s : State} (hs : Steady s₀ s) (e : Nat) :
    Steady s₀ (State.sectorReady s e) := by
  unfold State.sectorReady
  try dsimp only
  repeat' with_reducible (first | assumption | apply steadyRes_next | apply steadyOpt_none | apply steadyOpt_some | apply State.forEach_steady | apply State.when_steady | apply foldl_steady | apply foldl_fst_steady | apply foldl_snd_steady | intro _ | split | apply State.modEntry_steady | apply State.offerUnseal_steady | apply State.tryEndFill_steady | apply State.refillEngines_steady | apply steadyOpt_get (by assumption) | apply Steady.set | apply Steady.draw | apply Steady.tell | apply Steady.purge | dsimp only)

theorem State.workDone_steady {s₀ s : State} (hs : Steady s₀ s) (w : EngineWork) :
    Steady s₀ (State.workDone s w) := by
  unfold State.workDone
  try dsimp only
  repeat' with_reducible (first | assumption | apply steadyRes_next | apply steadyOpt_none | apply steadyOpt_some | apply State.forEach_steady | apply State.when_steady | apply foldl_steady | apply foldl_fst_steady | apply foldl_snd_steady | intro _ | split | apply State.modCmd_steady | apply State.put_steady | apply State.tryEndFill_steady | apply State.setRecBlock_steady | apply State.prepareBlock_steady | apply steadyOpt_get (by assumption) | apply Steady.set | apply Steady.draw | apply Steady.tell | apply Steady.purge | dsimp only)

end Sys2Proof.Machine
end

