-- ==== Sys2Proof/Laws/SteadyEvents.lean ====
section
/-!
SUPPORT. What every command keeps (Safety.lean), of the operations and commands of Machine/Events.lean.
-/
set_option Elab.async false
set_option linter.all false
namespace Sys2Proof.Machine
set_option maxRecDepth 2000

theorem State.setSqTail_steady {s₀ s : State} (hs : Steady s₀ s) (f i v : Nat) :
    Steady s₀ (State.setSqTail s f i v) := by
  unfold State.setSqTail
  try dsimp only
  repeat' with_reducible (first | assumption | apply steadyRes_next | apply steadyOpt_none | apply steadyOpt_some | apply State.forEach_steady | apply State.when_steady | apply foldl_steady | apply foldl_fst_steady | apply foldl_snd_steady | intro _ | split | apply State.put_steady | apply steadyOpt_get (by assumption) | apply Steady.set | apply Steady.draw | apply Steady.tell | apply Steady.purge | dsimp only)

theorem State.setCqHead_steady {s₀ s : State} (hs : Steady s₀ s) (f i v : Nat) :
    Steady s₀ (State.setCqHead s f i v) := by
  unfold State.setCqHead
  try dsimp only
  repeat' with_reducible (first | assumption | apply steadyRes_next | apply steadyOpt_none | apply steadyOpt_some | apply State.forEach_steady | apply State.when_steady | apply foldl_steady | apply foldl_fst_steady | apply foldl_snd_steady | intro _ | split | apply State.put_steady | apply steadyOpt_get (by assumption) | apply Steady.set | apply Steady.draw | apply Steady.tell | apply Steady.purge | dsimp only)

theorem State.setCqPass_steady {s₀ s : State} (hs : Steady s₀ s) (f i v : Nat) :
    Steady s₀ (State.setCqPass s f i v) := by
  unfold State.setCqPass
  try dsimp only
  repeat' with_reducible (first | assumption | apply steadyRes_next | apply steadyOpt_none | apply steadyOpt_some | apply State.forEach_steady | apply State.when_steady | apply foldl_steady | apply foldl_fst_steady | apply foldl_snd_steady | intro _ | split | apply State.put_steady | apply steadyOpt_get (by assumption) | apply Steady.set | apply Steady.draw | apply Steady.tell | apply Steady.purge | dsimp only)

theorem State.writeEvent_steady {s₀ s : State} (hs : Steady s₀ s) (e : EventRec) :
    Steady s₀ (State.writeEvent s e) := by
  unfold State.writeEvent
  try dsimp only
  repeat' with_reducible (first | assumption | apply steadyRes_next | apply steadyOpt_none | apply steadyOpt_some | apply State.forEach_steady | apply State.when_steady | apply foldl_steady | apply foldl_fst_steady | apply foldl_snd_steady | intro _ | split | apply State.emit_steady | apply State.put_steady | apply State.signal_steady | apply steadyOpt_get (by assumption) | apply Steady.set | apply Steady.draw | apply Steady.tell | apply Steady.purge | dsimp only)

theorem State.drainStaging_steady {s₀ s : State} (hs : Steady s₀ s) (fuel : Nat) : Steady s₀ (State.drainStaging fuel s) := by
  induction fuel generalizing s with
  | zero => exact hs
  | succ fuel ih =>
    unfold State.drainStaging
    repeat' with_reducible (first | assumption | split | apply ih | apply State.writeEvent_steady | apply Steady.set)

theorem State.stageEvent_steady {s₀ s : State} (hs : Steady s₀ s) (e : EventRec) :
    Steady s₀ (State.stageEvent s e) := by
  unfold State.stageEvent
  try dsimp only
  repeat' with_reducible (first | assumption | apply steadyRes_next | apply steadyOpt_none | apply steadyOpt_some | apply State.forEach_steady | apply State.when_steady | apply foldl_steady | apply foldl_fst_steady | apply foldl_snd_steady | intro _ | split | apply State.incSat_steady | apply steadyOpt_get (by assumption) | apply Steady.set | apply Steady.draw | apply Steady.tell | apply Steady.purge | dsimp only)

theorem execEventRecord_steady {s₀ s : State} (hs : Steady s₀ s) :
    SteadyRes s₀ (execEventRecord s) := by
  unfold execEventRecord
  try dsimp only
  repeat' with_reducible (first | assumption | apply steadyRes_next | apply steadyOpt_none | apply steadyOpt_some | apply State.forEach_steady | apply State.when_steady | apply foldl_steady | apply foldl_fst_steady | apply foldl_snd_steady | intro _ | split | apply State.sendEventUp_steady | apply State.writeEvent_steady | apply State.stageEvent_steady | apply steadyOpt_get (by assumption) | apply Steady.set | apply Steady.draw | apply Steady.tell | apply Steady.purge | dsimp only)

theorem execEventsLost_steady {s₀ s : State} (hs : Steady s₀ s) :
    SteadyRes s₀ (execEventsLost s) := by
  unfold execEventsLost
  try dsimp only
  repeat' with_reducible (first | assumption | apply steadyRes_next | apply steadyOpt_none | apply steadyOpt_some | apply State.forEach_steady | apply State.when_steady | apply foldl_steady | apply foldl_fst_steady | apply foldl_snd_steady | intro _ | split | apply State.post_steady | apply State.writeEvent_steady | apply State.drainStaging_steady | apply steadyOpt_get (by assumption) | apply Steady.set | apply Steady.draw | apply Steady.tell | apply Steady.purge | dsimp only)

theorem execEvtQHeadDoorbell_steady {s₀ s : State} (hs : Steady s₀ s) (shape : WriteShape) (value : Word) :
    SteadyRes s₀ (execEvtQHeadDoorbell shape value s) := by
  unfold execEvtQHeadDoorbell
  try dsimp only
  repeat' with_reducible (first | assumption | apply steadyRes_next | apply steadyOpt_none | apply steadyOpt_some | apply State.forEach_steady | apply State.when_steady | apply foldl_steady | apply foldl_fst_steady | apply foldl_snd_steady | intro _ | split | apply State.wakeLink_steady | apply State.poisonedWrite_steady | apply State.incSat_steady | apply State.logAer_steady | apply State.put_steady | apply State.drainStaging_steady | apply steadyOpt_get (by assumption) | apply Steady.set | apply Steady.draw | apply Steady.tell | apply Steady.purge | dsimp only)

theorem execEvtQCfgWrite_steady {s₀ s : State} (hs : Steady s₀ s) (value : Word) :
    SteadyRes s₀ (execEvtQCfgWrite value s) := by
  unfold execEvtQCfgWrite
  try dsimp only
  repeat' with_reducible (first | assumption | apply steadyRes_next | apply steadyOpt_none | apply steadyOpt_some | apply State.forEach_steady | apply State.when_steady | apply foldl_steady | apply foldl_fst_steady | apply foldl_snd_steady | intro _ | split | apply State.setFlag_steady | apply State.put_steady | apply State.drainStaging_steady | apply steadyOpt_get (by assumption) | apply Steady.set | apply Steady.draw | apply Steady.tell | apply Steady.purge | dsimp only)

theorem execMsixUnmask_steady {s₀ s : State} (hs : Steady s₀ s) (f : Fin 4) (vector : Fin 64) :
    SteadyRes s₀ (execMsixUnmask f vector s) := by
  unfold execMsixUnmask
  try dsimp only
  repeat' with_reducible (first | assumption | apply steadyRes_next | apply steadyOpt_none | apply steadyOpt_some | apply State.forEach_steady | apply State.when_steady | apply foldl_steady | apply foldl_fst_steady | apply foldl_snd_steady | intro _ | split | apply State.setPendingBit_steady | apply State.sendMessage_steady | apply steadyOpt_get (by assumption) | apply Steady.set | apply Steady.draw | apply Steady.tell | apply Steady.purge | dsimp only)

theorem execVectorModTimeout_steady {s₀ s : State} (hs : Steady s₀ s) (f : Fin 4) (vector : Fin 64) :
    SteadyRes s₀ (execVectorModTimeout f vector s) := by
  unfold execVectorModTimeout
  try dsimp only
  repeat' with_reducible (first | assumption | apply steadyRes_next | apply steadyOpt_none | apply steadyOpt_some | apply State.forEach_steady | apply State.when_steady | apply foldl_steady | apply foldl_fst_steady | apply foldl_snd_steady | intro _ | split | apply State.sendMessage_steady | apply steadyOpt_get (by assumption) | apply Steady.set | apply Steady.draw | apply Steady.tell | apply Steady.purge | dsimp only)

theorem execClearAll_steady {s₀ s : State} (hs : Steady s₀ s) :
    SteadyRes s₀ (execClearAll s) := by
  unfold execClearAll
  try dsimp only
  repeat' with_reducible (first | assumption | apply steadyRes_next | apply steadyOpt_none | apply steadyOpt_some | apply State.forEach_steady | apply State.when_steady | apply foldl_steady | apply foldl_fst_steady | apply foldl_snd_steady | intro _ | split | apply steadyOpt_get (by assumption) | apply Steady.set | apply Steady.draw | apply Steady.tell | apply Steady.purge | dsimp only)

theorem State.completionCounts_steady {s₀ s : State} (hs : Steady s₀ s) (c : Cmd) :
    Steady s₀ (State.completionCounts s c) := by
  unfold State.completionCounts
  try dsimp only
  repeat' with_reducible (first | assumption | apply steadyRes_next | apply steadyOpt_none | apply steadyOpt_some | apply State.forEach_steady | apply State.when_steady | apply foldl_steady | apply foldl_fst_steady | apply foldl_snd_steady | intro _ | split | apply State.count_steady | apply State.post_steady | apply steadyOpt_get (by assumption) | apply Steady.set | apply Steady.draw | apply Steady.tell | apply Steady.purge | dsimp only)

theorem State.releaseAborts_steady {s₀ s : State} (hs : Steady s₀ s) (h : Nat) :
    Steady s₀ (State.releaseAborts s h) := by
  unfold State.releaseAborts
  try dsimp only
  repeat' with_reducible (first | assumption | apply steadyRes_next | apply steadyOpt_none | apply steadyOpt_some | apply State.forEach_steady | apply State.when_steady | apply foldl_steady | apply foldl_fst_steady | apply foldl_snd_steady | intro _ | split | apply State.finish_steady | apply steadyOpt_get (by assumption) | apply Steady.set | apply Steady.draw | apply Steady.tell | apply Steady.purge | dsimp only)

theorem execCompletionRecord_steady {s₀ s : State} (hs : Steady s₀ s) (f : Fin 4) (ring : Fin 32) :
    SteadyRes s₀ (execCompletionRecord f ring s) := by
  unfold execCompletionRecord
  try dsimp only
  repeat' with_reducible (first | assumption | apply steadyRes_next | apply steadyOpt_none | apply steadyOpt_some | apply State.forEach_steady | apply State.when_steady | apply foldl_steady | apply foldl_fst_steady | apply foldl_snd_steady | intro _ | split | apply State.completionCounts_steady | apply State.sendResponse_steady | apply State.dropCmd_steady | apply State.releaseAborts_steady | apply State.emit_steady | apply State.put_steady | apply State.setCqPass_steady | apply State.signal_steady | apply steadyOpt_get (by assumption) | apply Steady.set | apply Steady.draw | apply Steady.tell | apply Steady.purge | dsimp only)

end Sys2Proof.Machine
end

