-- ==== Sys2Proof/Laws/SteadyRings.lean ====
section
/-!
SUPPORT. What every command keeps (Safety.lean), of the operations and commands of Machine/Rings.lean.
-/
set_option Elab.async false
set_option linter.all false
namespace Sys2Proof.Machine
set_option maxRecDepth 2000

theorem State.sqError_steady {s₀ s : State} (hs : Steady s₀ s) (f i code : Nat) :
    Steady s₀ (State.sqError s f i code) := by
  unfold State.sqError
  try dsimp only
  repeat' with_reducible (first | assumption | apply steadyRes_next | apply steadyOpt_none | apply steadyOpt_some | apply State.forEach_steady | apply State.when_steady | apply foldl_steady | apply foldl_fst_steady | apply foldl_snd_steady | intro _ | split | apply State.put_steady | apply State.raise_steady | apply steadyOpt_get (by assumption) | apply Steady.set | apply Steady.draw | apply Steady.tell | apply Steady.purge | dsimp only)

theorem State.cqError_steady {s₀ s : State} (hs : Steady s₀ s) (f i code : Nat) :
    Steady s₀ (State.cqError s f i code) := by
  unfold State.cqError
  try dsimp only
  repeat' with_reducible (first | assumption | apply steadyRes_next | apply steadyOpt_none | apply steadyOpt_some | apply State.forEach_steady | apply State.when_steady | apply foldl_steady | apply foldl_fst_steady | apply foldl_snd_steady | intro _ | split | apply State.put_steady | apply State.raise_steady | apply steadyOpt_get (by assumption) | apply Steady.set | apply Steady.draw | apply Steady.tell | apply Steady.purge | dsimp only)

theorem State.doorbellBlocked_steady {s₀ s : State} (hs : Steady s₀ s) (f i off : Nat) (shape : WriteShape) :
    SteadyOpt s₀ (State.doorbellBlocked s f i off shape) := by
  unfold State.doorbellBlocked
  try dsimp only
  repeat' with_reducible (first | assumption | apply steadyRes_next | apply steadyOpt_none | apply steadyOpt_some | apply State.forEach_steady | apply State.when_steady | apply foldl_steady | apply foldl_fst_steady | apply foldl_snd_steady | intro _ | split | apply State.poisonedWrite_steady | apply State.incSat_steady | apply State.logAer_steady | apply steadyOpt_get (by assumption) | apply Steady.set | apply Steady.draw | apply Steady.tell | apply Steady.purge | dsimp only)

theorem execSqTailDoorbell_steady {s₀ s : State} (hs : Steady s₀ s) (f : Fin 4) (ring : Fin 32) (shape : WriteShape) (value : Word) :
    SteadyRes s₀ (execSqTailDoorbell f ring shape value s) := by
  unfold execSqTailDoorbell
  try dsimp only
  repeat' with_reducible (first | assumption | apply steadyRes_next | apply steadyOpt_none | apply steadyOpt_some | apply State.forEach_steady | apply State.when_steady | apply foldl_steady | apply foldl_fst_steady | apply foldl_snd_steady | intro _ | split | apply State.wakeLink_steady | apply State.doorbellBlocked_steady | apply State.sqError_steady | apply State.put_steady | apply State.setSqTail_steady | apply steadyOpt_get (by assumption) | apply Steady.set | apply Steady.draw | apply Steady.tell | apply Steady.purge | dsimp only)

theorem execCqHeadDoorbell_steady {s₀ s : State} (hs : Steady s₀ s) (f : Fin 4) (ring : Fin 32) (shape : WriteShape) (value : Word) :
    SteadyRes s₀ (execCqHeadDoorbell f ring shape value s) := by
  unfold execCqHeadDoorbell
  try dsimp only
  repeat' with_reducible (first | assumption | apply steadyRes_next | apply steadyOpt_none | apply steadyOpt_some | apply State.forEach_steady | apply State.when_steady | apply foldl_steady | apply foldl_fst_steady | apply foldl_snd_steady | intro _ | split | apply State.wakeLink_steady | apply State.doorbellBlocked_steady | apply State.cqError_steady | apply State.setCqHead_steady | apply steadyOpt_get (by assumption) | apply Steady.set | apply Steady.draw | apply Steady.tell | apply Steady.purge | dsimp only)

theorem execSqCfgWrite_steady {s₀ s : State} (hs : Steady s₀ s) (f : Fin 4) (ring : Fin 32) (value : Word) :
    SteadyRes s₀ (execSqCfgWrite f ring value s) := by
  unfold execSqCfgWrite
  try dsimp only
  repeat' with_reducible (first | assumption | apply steadyRes_next | apply steadyOpt_none | apply steadyOpt_some | apply State.forEach_steady | apply State.when_steady | apply foldl_steady | apply foldl_fst_steady | apply foldl_snd_steady | intro _ | split | apply State.setFlag_steady | apply State.put_steady | apply State.setSqTail_steady | apply steadyOpt_get (by assumption) | apply Steady.set | apply Steady.draw | apply Steady.tell | apply Steady.purge | dsimp only)

theorem execCqCfgWrite_steady {s₀ s : State} (hs : Steady s₀ s) (f : Fin 4) (ring : Fin 32) (value : Word) :
    SteadyRes s₀ (execCqCfgWrite f ring value s) := by
  unfold execCqCfgWrite
  try dsimp only
  repeat' with_reducible (first | assumption | apply steadyRes_next | apply steadyOpt_none | apply steadyOpt_some | apply State.forEach_steady | apply State.when_steady | apply foldl_steady | apply foldl_fst_steady | apply foldl_snd_steady | intro _ | split | apply State.cqError_steady | apply State.put_steady | apply State.setCqHead_steady | apply State.setCqPass_steady | apply steadyOpt_get (by assumption) | apply Steady.set | apply Steady.draw | apply Steady.tell | apply Steady.purge | dsimp only)

theorem State.refillCredits_steady {s₀ s : State} (hs : Steady s₀ s) :
    Steady s₀ (State.refillCredits s) := by
  unfold State.refillCredits
  try dsimp only
  repeat' with_reducible (first | assumption | apply steadyRes_next | apply steadyOpt_none | apply steadyOpt_some | apply State.forEach_steady | apply State.when_steady | apply foldl_steady | apply foldl_fst_steady | apply foldl_snd_steady | intro _ | split | apply State.put_steady | apply steadyOpt_get (by assumption) | apply Steady.set | apply Steady.draw | apply Steady.tell | apply Steady.purge | dsimp only)

theorem execDescriptorFetch_steady {s₀ s : State} (hs : Steady s₀ s) (f : Fin 4) (ring : Fin 32) :
    SteadyRes s₀ (execDescriptorFetch f ring s) := by
  unfold execDescriptorFetch
  try dsimp only
  repeat' with_reducible (first | assumption | apply steadyRes_next | apply steadyOpt_none | apply steadyOpt_some | apply State.forEach_steady | apply State.when_steady | apply foldl_steady | apply foldl_fst_steady | apply foldl_snd_steady | intro _ | split | apply State.refillCredits_steady | apply State.put_steady | apply State.setCmd_steady | apply State.issueRead_steady | apply steadyOpt_get (by assumption) | apply Steady.set | apply Steady.draw | apply Steady.tell | apply Steady.purge | dsimp only)

theorem State.fetchFailed_steady {s₀ s : State} (hs : Steady s₀ s) (h : Nat) :
    Steady s₀ (State.fetchFailed s h) := by
  unfold State.fetchFailed
  try dsimp only
  repeat' with_reducible (first | assumption | apply steadyRes_next | apply steadyOpt_none | apply steadyOpt_some | apply State.forEach_steady | apply State.when_steady | apply foldl_steady | apply foldl_fst_steady | apply foldl_snd_steady | intro _ | split | apply State.dropCmd_steady | apply State.put_steady | apply State.sqError_steady | apply steadyOpt_get (by assumption) | apply Steady.set | apply Steady.draw | apply Steady.tell | apply Steady.purge | dsimp only)

theorem State.readSegment_steady {s₀ s : State} (hs : Steady s₀ s) (h : Nat) (e : Elem) (dst : Bool) :
    Steady s₀ (State.readSegment s h e dst) := by
  unfold State.readSegment
  try dsimp only
  repeat' with_reducible (first | assumption | apply steadyRes_next | apply steadyOpt_none | apply steadyOpt_some | apply State.forEach_steady | apply State.when_steady | apply foldl_steady | apply foldl_fst_steady | apply foldl_snd_steady | intro _ | split | apply State.setCmd_steady | apply State.issueRead_steady | apply steadyOpt_get (by assumption) | apply Steady.set | apply Steady.draw | apply Steady.tell | apply Steady.purge | dsimp only)

theorem State.acceptLists_steady {s₀ s : State} (hs : Steady s₀ s) (h : Nat) :
    Steady s₀ (State.acceptLists s h) := by
  unfold State.acceptLists
  try dsimp only
  repeat' with_reducible (first | assumption | apply steadyRes_next | apply steadyOpt_none | apply steadyOpt_some | apply State.forEach_steady | apply State.when_steady | apply foldl_steady | apply foldl_fst_steady | apply foldl_snd_steady | intro _ | split | apply State.calibrate_steady | apply State.refuse_steady | apply State.setCmd_steady | apply steadyOpt_get (by assumption) | apply Steady.set | apply Steady.draw | apply Steady.tell | apply Steady.purge | dsimp only)

theorem execAcceptance_steady {s₀ s : State} (hs : Steady s₀ s) (h : Nat) :
    SteadyRes s₀ (execAcceptance h s) := by
  unfold execAcceptance
  try dsimp only
  repeat' with_reducible (first | assumption | apply steadyRes_next | apply steadyOpt_none | apply steadyOpt_some | apply State.forEach_steady | apply State.when_steady | apply foldl_steady | apply foldl_fst_steady | apply foldl_snd_steady | intro _ | split | apply State.refuse_steady | apply State.readSegment_steady | apply State.setCmd_steady | apply State.modCmd_steady | apply State.acceptLists_steady | apply steadyOpt_get (by assumption) | apply Steady.set | apply Steady.draw | apply Steady.tell | apply Steady.purge | dsimp only)

theorem execListReadDone_steady {s₀ s : State} (hs : Steady s₀ s) (h : Nat) :
    SteadyRes s₀ (execListReadDone h s) := by
  unfold execListReadDone
  try dsimp only
  repeat' with_reducible (first | assumption | apply steadyRes_next | apply steadyOpt_none | apply steadyOpt_some | apply State.forEach_steady | apply State.when_steady | apply foldl_steady | apply foldl_fst_steady | apply foldl_snd_steady | intro _ | split | apply State.setCmd_steady | apply State.refuse_steady | apply State.readSegment_steady | apply State.acceptLists_steady | apply steadyOpt_get (by assumption) | apply Steady.set | apply Steady.draw | apply Steady.tell | apply Steady.purge | dsimp only)

theorem State.enqueue_steady {s₀ s : State} (hs : Steady s₀ s) (h q : Nat) :
    Steady s₀ (State.enqueue s h q) := by
  unfold State.enqueue
  try dsimp only
  repeat' with_reducible (first | assumption | apply steadyRes_next | apply steadyOpt_none | apply steadyOpt_some | apply State.forEach_steady | apply State.when_steady | apply foldl_steady | apply foldl_fst_steady | apply foldl_snd_steady | intro _ | split | apply State.setCmd_steady | apply steadyOpt_get (by assumption) | apply Steady.set | apply Steady.draw | apply Steady.tell | apply Steady.purge | dsimp only)

theorem State.bindAtDispatch_steady {s₀ s : State} (hs : Steady s₀ s) (h : Nat) :
    Steady s₀ (State.bindAtDispatch s h) := by
  unfold State.bindAtDispatch
  try dsimp only
  repeat' with_reducible (first | assumption | apply steadyRes_next | apply steadyOpt_none | apply steadyOpt_some | apply State.forEach_steady | apply State.when_steady | apply foldl_steady | apply foldl_fst_steady | apply foldl_snd_steady | intro _ | split | apply State.load_steady | apply State.bind_steady | apply State.unload_steady | apply State.unbind_steady | apply steadyOpt_get (by assumption) | apply Steady.set | apply Steady.draw | apply Steady.tell | apply Steady.purge | dsimp only)

theorem State.grantUp_steady {s₀ s : State} (hs : Steady s₀ s) (tag : Nat) :
    Steady s₀ (State.grantUp s tag) := by
  unfold State.grantUp
  try dsimp only
  repeat' with_reducible (first | assumption | apply steadyRes_next | apply steadyOpt_none | apply steadyOpt_some | apply State.forEach_steady | apply State.when_steady | apply foldl_steady | apply foldl_fst_steady | apply foldl_snd_steady | intro _ | split | apply State.route_steady | apply steadyOpt_get (by assumption) | apply Steady.set | apply Steady.draw | apply Steady.tell | apply Steady.purge | dsimp only)

theorem State.forward_steady {s₀ s : State} (hs : Steady s₀ s) (h : Nat) :
    Steady s₀ (State.forward s h) := by
  unfold State.forward
  try dsimp only
  repeat' with_reducible (first | assumption | apply steadyRes_next | apply steadyOpt_none | apply steadyOpt_some | apply State.forEach_steady | apply State.when_steady | apply foldl_steady | apply foldl_fst_steady | apply foldl_snd_steady | intro _ | split | apply State.refuse_steady | apply State.setCmd_steady | apply State.route_steady | apply State.grantUp_steady | apply steadyOpt_get (by assumption) | apply Steady.set | apply Steady.draw | apply Steady.tell | apply Steady.purge | dsimp only)

theorem execDispatch_steady {s₀ s : State} (hs : Steady s₀ s) (h : Nat) :
    SteadyRes s₀ (execDispatch h s) := by
  unfold execDispatch
  try dsimp only
  repeat' with_reducible (first | assumption | apply steadyRes_next | apply steadyOpt_none | apply steadyOpt_some | apply State.forEach_steady | apply State.when_steady | apply foldl_steady | apply foldl_fst_steady | apply foldl_snd_steady | intro _ | split | apply State.forward_steady | apply State.refuse_steady | apply State.setCmd_steady | apply State.load_steady | apply State.enqueue_steady | apply State.bindAtDispatch_steady | apply steadyOpt_get (by assumption) | apply Steady.set | apply Steady.draw | apply Steady.tell | apply Steady.purge | dsimp only)

theorem State.reserve_steady {s₀ s : State} (hs : Steady s₀ s) (c : Cmd) :
    Steady s₀ (State.reserve s c) := by
  unfold State.reserve
  try dsimp only
  repeat' with_reducible (first | assumption | apply steadyRes_next | apply steadyOpt_none | apply steadyOpt_some | apply State.forEach_steady | apply State.when_steady | apply foldl_steady | apply foldl_fst_steady | apply foldl_snd_steady | intro _ | split | apply State.setFrontier_steady | apply steadyOpt_get (by assumption) | apply Steady.set | apply Steady.draw | apply Steady.tell | apply Steady.purge | dsimp only)

theorem State.admitCmd_steady {s₀ s : State} (hs : Steady s₀ s) (h : Nat) (l : Option Lock) :
    Steady s₀ (State.admitCmd s h l) := by
  unfold State.admitCmd
  try dsimp only
  repeat' with_reducible (first | assumption | apply steadyRes_next | apply steadyOpt_none | apply steadyOpt_some | apply State.forEach_steady | apply State.when_steady | apply foldl_steady | apply foldl_fst_steady | apply foldl_snd_steady | intro _ | split | apply State.takeLock_steady | apply State.modCmd_steady | apply steadyOpt_get (by assumption) | apply Steady.set | apply Steady.draw | apply Steady.tell | apply Steady.purge | dsimp only)

theorem execAdmission_steady {s₀ s : State} (hs : Steady s₀ s) (q : Fin 9) :
    SteadyRes s₀ (execAdmission q s) := by
  unfold execAdmission
  try dsimp only
  repeat' with_reducible (first | assumption | apply steadyRes_next | apply steadyOpt_none | apply steadyOpt_some | apply State.forEach_steady | apply State.when_steady | apply foldl_steady | apply foldl_fst_steady | apply foldl_snd_steady | intro _ | split | apply State.refuse_steady | apply State.reserve_steady | apply State.admitCmd_steady | apply steadyOpt_get (by assumption) | apply Steady.set | apply Steady.draw | apply Steady.tell | apply Steady.purge | dsimp only)

end Sys2Proof.Machine
end

