-- ==== Sys2Proof/Laws/SteadyOutcome.lean ====
section
/-!
SUPPORT. What every command keeps (Safety.lean), of the operations and commands of Machine/Outcome.lean.
-/
set_option Elab.async false
set_option linter.all false
namespace Sys2Proof.Machine
set_option maxRecDepth 2000

theorem State.modSec_steady {s₀ s : State} (hs : Steady s₀ s) (e j : Nat) (f : SecWork → SecWork) :
    Steady s₀ (State.modSec s e j f) := by
  unfold State.modSec
  try dsimp only
  repeat' with_reducible (first | assumption | apply steadyRes_next | apply steadyOpt_none | apply steadyOpt_some | apply State.forEach_steady | apply State.when_steady | apply foldl_steady | apply foldl_fst_steady | apply foldl_snd_steady | intro _ | split | apply State.modWork_steady | apply steadyOpt_get (by assumption) | apply Steady.set | apply Steady.draw | apply Steady.tell | apply Steady.purge | dsimp only)

theorem State.armCapture_steady {s₀ s : State} (hs : Steady s₀ s) (e j : Nat) (sync inTime : Bool) :
    Steady s₀ (State.armCapture s e j sync inTime) := by
  unfold State.armCapture
  try dsimp only
  repeat' with_reducible (first | assumption | apply steadyRes_next | apply steadyOpt_none | apply steadyOpt_some | apply State.forEach_steady | apply State.when_steady | apply foldl_steady | apply foldl_fst_steady | apply foldl_snd_steady | intro _ | split | apply State.modSec_steady | apply State.put_steady | apply steadyOpt_get (by assumption) | apply Steady.set | apply Steady.draw | apply Steady.tell | apply Steady.purge | dsimp only)

theorem State.releaseImage_steady {s₀ s : State} (hs : Steady s₀ s) (e j : Nat) :
    Steady s₀ (State.releaseImage s e j) := by
  unfold State.releaseImage
  try dsimp only
  repeat' with_reducible (first | assumption | apply steadyRes_next | apply steadyOpt_none | apply steadyOpt_some | apply State.forEach_steady | apply State.when_steady | apply foldl_steady | apply foldl_fst_steady | apply foldl_snd_steady | intro _ | split | apply State.put_steady | apply State.modSec_steady | apply steadyOpt_get (by assumption) | apply Steady.set | apply Steady.draw | apply Steady.tell | apply Steady.purge | dsimp only)

theorem State.cancelSector_steady {s₀ s : State} (hs : Steady s₀ s) (e j : Nat) :
    Steady s₀ (State.cancelSector s e j) := by
  unfold State.cancelSector
  try dsimp only
  repeat' with_reducible (first | assumption | apply steadyRes_next | apply steadyOpt_none | apply steadyOpt_some | apply State.forEach_steady | apply State.when_steady | apply foldl_steady | apply foldl_fst_steady | apply foldl_snd_steady | intro _ | split | apply State.releaseImage_steady | apply State.modSec_steady | apply steadyOpt_get (by assumption) | apply Steady.set | apply Steady.draw | apply Steady.tell | apply Steady.purge | dsimp only)

theorem State.finalSector_steady {s₀ s : State} (hs : Steady s₀ s) (e j : Nat) (st : SecState) (outcome : Nat) (payload : List Nat) :
    Steady s₀ (State.finalSector s e j st outcome payload) := by
  unfold State.finalSector
  try dsimp only
  repeat' with_reducible (first | assumption | apply steadyRes_next | apply steadyOpt_none | apply steadyOpt_some | apply State.forEach_steady | apply State.when_steady | apply foldl_steady | apply foldl_fst_steady | apply foldl_snd_steady | intro _ | split | apply State.cancelSector_steady | apply State.modSec_steady | apply State.storeSector_steady | apply State.modEntry_steady | apply State.report_steady | apply steadyOpt_get (by assumption) | apply Steady.set | apply Steady.draw | apply Steady.tell | apply Steady.purge | dsimp only)

theorem State.confirmSector_steady {s₀ s : State} (hs : Steady s₀ s) (e j outcome : Nat) (payload : List Nat) :
    Steady s₀ (State.confirmSector s e j outcome payload) := by
  unfold State.confirmSector
  try dsimp only
  repeat' with_reducible (first | assumption | apply steadyRes_next | apply steadyOpt_none | apply steadyOpt_some | apply State.forEach_steady | apply State.when_steady | apply foldl_steady | apply foldl_fst_steady | apply foldl_snd_steady | intro _ | split | apply State.finalSector_steady | apply steadyOpt_get (by assumption) | apply Steady.set | apply Steady.draw | apply Steady.tell | apply Steady.purge | dsimp only)

theorem State.noteVerified_steady {s₀ s : State} (hs : Steady s₀ s) (e : Nat) :
    Steady s₀ (State.noteVerified s e) := by
  unfold State.noteVerified
  try dsimp only
  repeat' with_reducible (first | assumption | apply steadyRes_next | apply steadyOpt_none | apply steadyOpt_some | apply State.forEach_steady | apply State.when_steady | apply foldl_steady | apply foldl_fst_steady | apply foldl_snd_steady | intro _ | split | apply State.setRecBlock_steady | apply steadyOpt_get (by assumption) | apply Steady.set | apply Steady.draw | apply Steady.tell | apply Steady.purge | dsimp only)

theorem State.settleBlock_steady {s₀ s : State} (hs : Steady s₀ s) (e : Nat) :
    Steady s₀ (State.settleBlock s e) := by
  unfold State.settleBlock
  try dsimp only
  repeat' with_reducible (first | assumption | apply steadyRes_next | apply steadyOpt_none | apply steadyOpt_some | apply State.forEach_steady | apply State.when_steady | apply foldl_steady | apply foldl_fst_steady | apply foldl_snd_steady | intro _ | split | apply State.finalSector_steady | apply State.noteVerified_steady | apply State.discardWork_steady | apply State.sectorReady_steady | apply steadyOpt_get (by assumption) | apply Steady.set | apply Steady.draw | apply Steady.tell | apply Steady.purge | dsimp only)

theorem State.blockNotBlank_steady {s₀ s : State} (hs : Steady s₀ s) (e : Nat) :
    Steady s₀ (State.blockNotBlank s e) := by
  unfold State.blockNotBlank
  try dsimp only
  repeat' with_reducible (first | assumption | apply steadyRes_next | apply steadyOpt_none | apply steadyOpt_some | apply State.forEach_steady | apply State.when_steady | apply foldl_steady | apply foldl_fst_steady | apply foldl_snd_steady | intro _ | split | apply State.modWork_steady | apply steadyOpt_get (by assumption) | apply Steady.set | apply Steady.draw | apply Steady.tell | apply Steady.purge | dsimp only)

end Sys2Proof.Machine
end

