-- ==== Sys2Proof/Laws/SteadyCache.lean ====
section
/-!
SUPPORT. What every command keeps (Safety.lean), of the operations and commands of Machine/Cache.lean.
-/
set_option Elab.async false
set_option linter.all false
namespace Sys2Proof.Machine
set_option maxRecDepth 2000

theorem State.useEntry_steady {s₀ s : State} (hs : Steady s₀ s) (h : Nat) (u : BlockUse) :
    Steady s₀ (State.useEntry s h u) := by
  unfold State.useEntry
  try dsimp only
  repeat' with_reducible (first | assumption | apply steadyRes_next | apply steadyOpt_none | apply steadyOpt_some | apply State.forEach_steady | apply State.when_steady | apply foldl_steady | apply foldl_fst_steady | apply foldl_snd_steady | intro _ | split | apply State.setCmd_steady | apply State.modEntry_steady | apply steadyOpt_get (by assumption) | apply Steady.set | apply Steady.draw | apply Steady.tell | apply Steady.purge | dsimp only)

theorem State.serveBlock_steady {s₀ s : State} (hs : Steady s₀ s) (h block : Nat) :
    Steady s₀ (State.serveBlock s h block) := by
  unfold State.serveBlock
  try dsimp only
  repeat' with_reducible (first | assumption | apply steadyRes_next | apply steadyOpt_none | apply steadyOpt_some | apply State.forEach_steady | apply State.when_steady | apply foldl_steady | apply foldl_fst_steady | apply foldl_snd_steady | intro _ | split | apply State.offerUnseal_steady | apply State.refillEngines_steady | apply State.tryEndFill_steady | apply steadyOpt_get (by assumption) | apply Steady.set | apply Steady.draw | apply Steady.tell | apply Steady.purge | dsimp only)

theorem State.hitEntry_steady {s₀ s : State} (hs : Steady s₀ s) (h block e : Nat) (rescued : Bool) :
    Steady s₀ (State.hitEntry s h block e rescued) := by
  unfold State.hitEntry
  try dsimp only
  repeat' with_reducible (first | assumption | apply steadyRes_next | apply steadyOpt_none | apply steadyOpt_some | apply State.forEach_steady | apply State.when_steady | apply foldl_steady | apply foldl_fst_steady | apply foldl_snd_steady | intro _ | split | apply State.claim_steady | apply State.modWork_steady | apply State.modStation_steady | apply State.useEntry_steady | apply State.serveBlock_steady | apply State.settleBlock_steady | apply steadyOpt_get (by assumption) | apply Steady.set | apply Steady.draw | apply Steady.tell | apply Steady.purge | dsimp only)

theorem State.fillEntry_steady {s₀ s : State} (hs : Steady s₀ s) (h block e : Nat) :
    Steady s₀ (State.fillEntry s h block e) := by
  unfold State.fillEntry
  try dsimp only
  repeat' with_reducible (first | assumption | apply steadyRes_next | apply steadyOpt_none | apply steadyOpt_some | apply State.forEach_steady | apply State.when_steady | apply foldl_steady | apply foldl_fst_steady | apply foldl_snd_steady | intro _ | split | apply State.setEntry_steady | apply State.startWork_steady | apply State.touch_steady | apply State.useEntry_steady | apply State.serveBlock_steady | apply steadyOpt_get (by assumption) | apply Steady.set | apply Steady.draw | apply Steady.tell | apply Steady.purge | dsimp only)

theorem State.gatherEntry_steady {s₀ s : State} (hs : Steady s₀ s) (h block e : Nat) :
    Steady s₀ (State.gatherEntry s h block e) := by
  unfold State.gatherEntry
  try dsimp only
  repeat' with_reducible (first | assumption | apply steadyRes_next | apply steadyOpt_none | apply steadyOpt_some | apply State.forEach_steady | apply State.when_steady | apply foldl_steady | apply foldl_fst_steady | apply foldl_snd_steady | intro _ | split | apply State.setEntry_steady | apply State.touch_steady | apply State.useEntry_steady | apply steadyOpt_get (by assumption) | apply Steady.set | apply Steady.draw | apply Steady.tell | apply Steady.purge | dsimp only)

theorem State.settleEvictions_steady {s₀ s : State} (hs : Steady s₀ s) :
    Steady s₀ (State.settleEvictions s) := by
  unfold State.settleEvictions
  try dsimp only
  repeat' with_reducible (first | assumption | apply steadyRes_next | apply steadyOpt_none | apply steadyOpt_some | apply State.forEach_steady | apply State.when_steady | apply foldl_steady | apply foldl_fst_steady | apply foldl_snd_steady | intro _ | split | apply State.freeEntry_steady | apply steadyOpt_get (by assumption) | apply Steady.set | apply Steady.draw | apply Steady.tell | apply Steady.purge | dsimp only)

theorem State.allocate_steady {s₀ s : State} (hs : Steady s₀ s) (who c : Nat) (use : State → Nat → State)
    (hu : ∀ t e, Steady s₀ t → Steady s₀ (use t e)) : Steady s₀ (s.allocate who c use) := by
  have h := State.settleEvictions_steady hs
  unfold State.allocate
  generalize s.settleEvictions = t at h ⊢
  dsimp only
  generalize List.find? _ entryNumbers = o
  cases o with
  | some e =>
    by_cases k : (t.entry e).evictable = true
    · simpa [k] using hu _ _ (State.freeEntry_steady h _)
    · simpa [k] using h
  | none =>
    generalize t.chooseEntry c = o
    cases o with
    | none => exact h
    | some e =>
      by_cases k : (t.entry e).st = .free
      · simpa [k] using hu _ _ h
      · simpa [k] using State.modEntry_steady h _ _

theorem State.waitOn_steady {s₀ s : State} (hs : Steady s₀ s) (h e : Nat) :
    Steady s₀ (State.waitOn s h e) := by
  unfold State.waitOn
  try dsimp only
  repeat' with_reducible (first | assumption | apply steadyRes_next | apply steadyOpt_none | apply steadyOpt_some | apply State.forEach_steady | apply State.when_steady | apply foldl_steady | apply foldl_fst_steady | apply foldl_snd_steady | intro _ | split | apply State.modEntry_steady | apply steadyOpt_get (by assumption) | apply Steady.set | apply Steady.draw | apply Steady.tell | apply Steady.purge | dsimp only)

theorem State.rescue_steady {s₀ s : State} (hs : Steady s₀ s) (e : Nat) :
    Steady s₀ (State.rescue s e) := by
  unfold State.rescue
  try dsimp only
  repeat' with_reducible (first | assumption | apply steadyRes_next | apply steadyOpt_none | apply steadyOpt_some | apply State.forEach_steady | apply State.when_steady | apply foldl_steady | apply foldl_fst_steady | apply foldl_snd_steady | intro _ | split | apply State.modEntry_steady | apply steadyOpt_get (by assumption) | apply Steady.set | apply Steady.draw | apply Steady.tell | apply Steady.purge | dsimp only)

theorem State.askRead_steady {s₀ s : State} (hs : Steady s₀ s) (h block : Nat) (alloc : Bool) :
    Steady s₀ (State.askRead s h block alloc) := by
  unfold State.askRead
  try dsimp only
  repeat' with_reducible (first | assumption | apply steadyRes_next | apply steadyOpt_none | apply steadyOpt_some | apply State.forEach_steady | apply State.when_steady | apply foldl_steady | apply foldl_fst_steady | apply foldl_snd_steady | intro _ | split | apply State.allocate_steady | apply State.fillEntry_steady | apply State.hitEntry_steady | apply State.writeBack_steady | apply State.waitOn_steady | apply State.rescue_steady | apply State.freeEntry_steady | apply steadyOpt_get (by assumption) | apply Steady.set | apply Steady.draw | apply Steady.tell | apply Steady.purge | dsimp only)

theorem State.takeOver_steady {s₀ s : State} (hs : Steady s₀ s) (h block e : Nat) :
    Steady s₀ (State.takeOver s h block e) := by
  unfold State.takeOver
  try dsimp only
  repeat' with_reducible (first | assumption | apply steadyRes_next | apply steadyOpt_none | apply steadyOpt_some | apply State.forEach_steady | apply State.when_steady | apply foldl_steady | apply foldl_fst_steady | apply foldl_snd_steady | intro _ | split | apply State.count_steady | apply State.discardWork_steady | apply State.setEntry_steady | apply State.touch_steady | apply State.useEntry_steady | apply steadyOpt_get (by assumption) | apply Steady.set | apply Steady.draw | apply Steady.tell | apply Steady.purge | dsimp only)

theorem State.askWrite_steady {s₀ s : State} (hs : Steady s₀ s) (h block : Nat) (alloc : Bool) :
    Steady s₀ (State.askWrite s h block alloc) := by
  unfold State.askWrite
  try dsimp only
  repeat' with_reducible (first | assumption | apply steadyRes_next | apply steadyOpt_none | apply steadyOpt_some | apply State.forEach_steady | apply State.when_steady | apply foldl_steady | apply foldl_fst_steady | apply foldl_snd_steady | intro _ | split | apply State.allocate_steady | apply State.gatherEntry_steady | apply State.writeBack_steady | apply State.waitOn_steady | apply State.rescue_steady | apply State.takeOver_steady | apply State.freeEntry_steady | apply steadyOpt_get (by assumption) | apply Steady.set | apply Steady.draw | apply Steady.tell | apply Steady.purge | dsimp only)

theorem State.ask_steady {s₀ s : State} (hs : Steady s₀ s) (h block : Nat) (alloc : Bool) :
    Steady s₀ (State.ask s h block alloc) := by
  unfold State.ask
  try dsimp only
  repeat' with_reducible (first | assumption | apply steadyRes_next | apply steadyOpt_none | apply steadyOpt_some | apply State.forEach_steady | apply State.when_steady | apply foldl_steady | apply foldl_fst_steady | apply foldl_snd_steady | intro _ | split | apply State.askWrite_steady | apply State.askRead_steady | apply steadyOpt_get (by assumption) | apply Steady.set | apply Steady.draw | apply Steady.tell | apply Steady.purge | dsimp only)

theorem State.wakeWaiters_steady {s₀ s : State} (hs : Steady s₀ s) (e : Nat) :
    Steady s₀ (State.wakeWaiters s e) := by
  unfold State.wakeWaiters
  try dsimp only
  repeat' with_reducible (first | assumption | apply steadyRes_next | apply steadyOpt_none | apply steadyOpt_some | apply State.forEach_steady | apply State.when_steady | apply foldl_steady | apply foldl_fst_steady | apply foldl_snd_steady | intro _ | split | apply State.rescue_steady | apply State.ask_steady | apply State.hitEntry_steady | apply steadyOpt_get (by assumption) | apply Steady.set | apply Steady.draw | apply Steady.tell | apply Steady.purge | dsimp only)

theorem State.afterGather_steady {s₀ s : State} (hs : Steady s₀ s) (h : Nat) :
    Steady s₀ (State.afterGather s h) := by
  unfold State.afterGather
  try dsimp only
  repeat' with_reducible (first | assumption | apply steadyRes_next | apply steadyOpt_none | apply steadyOpt_some | apply State.forEach_steady | apply State.when_steady | apply foldl_steady | apply foldl_fst_steady | apply foldl_snd_steady | intro _ | split | apply State.closeBlock_steady | apply State.modCmd_steady | apply State.tryEndWrite_steady | apply steadyOpt_get (by assumption) | apply Steady.set | apply Steady.draw | apply Steady.tell | apply Steady.purge | dsimp only)

theorem State.issueSource_steady {s₀ s : State} (hs : Steady s₀ s) (h : Nat) (p : ReadFor) (limit fuel : Nat) :
    Steady s₀ (State.issueSource h p limit fuel s) := by
  induction fuel generalizing s with
  | zero => exact hs
  | succ fuel ih =>
    unfold State.issueSource
    dsimp only
    repeat' with_reducible (first | assumption | split | apply ih | apply State.modCmd_steady | apply State.issueRead_steady)

theorem State.grantBlock_steady {s₀ s : State} (hs : Steady s₀ s) (h tag : Nat) :
    Steady s₀ (State.grantBlock s h tag) := by
  unfold State.grantBlock
  try dsimp only
  repeat' with_reducible (first | assumption | apply steadyRes_next | apply steadyOpt_none | apply steadyOpt_some | apply State.forEach_steady | apply State.when_steady | apply foldl_steady | apply foldl_fst_steady | apply foldl_snd_steady | intro _ | split | apply State.route_steady | apply steadyOpt_get (by assumption) | apply Steady.set | apply Steady.draw | apply Steady.tell | apply Steady.purge | dsimp only)

theorem State.pump_steady {s₀ s : State} (hs : Steady s₀ s) (h : Nat) :
    Steady s₀ (State.pump s h) := by
  unfold State.pump
  try dsimp only
  repeat' with_reducible (first | assumption | apply steadyRes_next | apply steadyOpt_none | apply steadyOpt_some | apply State.forEach_steady | apply State.when_steady | apply foldl_steady | apply foldl_fst_steady | apply foldl_snd_steady | intro _ | split | apply State.issueSource_steady | apply State.grantBlock_steady | apply steadyOpt_get (by assumption) | apply Steady.set | apply Steady.draw | apply Steady.tell | apply Steady.purge | dsimp only)

theorem State.deliverSector_steady {s₀ s : State} (hs : Steady s₀ s) (h : Nat) (user : List Nat) (poison : Bool) :
    Steady s₀ (State.deliverSector s h user poison) := by
  unfold State.deliverSector
  try dsimp only
  repeat' with_reducible (first | assumption | apply steadyRes_next | apply steadyOpt_none | apply steadyOpt_some | apply State.forEach_steady | apply State.when_steady | apply foldl_steady | apply foldl_fst_steady | apply foldl_snd_steady | intro _ | split | apply State.storeSector_steady | apply State.setCmd_steady | apply State.touch_steady | apply State.tryCommit_steady | apply State.refillEngines_steady | apply State.afterGather_steady | apply State.pump_steady | apply steadyOpt_get (by assumption) | apply Steady.set | apply Steady.draw | apply Steady.tell | apply Steady.purge | dsimp only)

theorem State.gatherBytes_steady {s₀ s : State} (hs : Steady s₀ s) (h off : Nat) (bytes : List Nat) (poison : Bool) :
    Steady s₀ (State.gatherBytes s h off bytes poison) := by
  unfold State.gatherBytes
  try dsimp only
  repeat' with_reducible (first | assumption | apply steadyRes_next | apply steadyOpt_none | apply steadyOpt_some | apply State.forEach_steady | apply State.when_steady | apply foldl_steady | apply foldl_fst_steady | apply foldl_snd_steady | intro _ | split | apply State.put_steady | apply State.setCmd_steady | apply State.deliverSector_steady | apply steadyOpt_get (by assumption) | apply Steady.set | apply Steady.draw | apply Steady.tell | apply Steady.purge | dsimp only)

theorem State.pumpJob_steady {s₀ s : State} (hs : Steady s₀ s) (h : Nat) :
    Steady s₀ (State.pumpJob s h) := by
  unfold State.pumpJob
  try dsimp only
  repeat' with_reducible (first | assumption | apply steadyRes_next | apply steadyOpt_none | apply steadyOpt_some | apply State.forEach_steady | apply State.when_steady | apply foldl_steady | apply foldl_fst_steady | apply foldl_snd_steady | intro _ | split | apply State.issueSource_steady | apply steadyOpt_get (by assumption) | apply Steady.set | apply Steady.draw | apply Steady.tell | apply Steady.purge | dsimp only)

theorem State.jobBytes_steady {s₀ s : State} (hs : Steady s₀ s) (h off : Nat) (bytes : List Nat) :
    Steady s₀ (State.jobBytes s h off bytes) := by
  unfold State.jobBytes
  try dsimp only
  repeat' with_reducible (first | assumption | apply steadyRes_next | apply steadyOpt_none | apply steadyOpt_some | apply State.forEach_steady | apply State.when_steady | apply foldl_steady | apply foldl_fst_steady | apply foldl_snd_steady | intro _ | split | apply State.put_steady | apply State.setCmd_steady | apply State.addWork_steady | apply State.refillEngines_steady | apply State.pumpJob_steady | apply steadyOpt_get (by assumption) | apply Steady.set | apply Steady.draw | apply Steady.tell | apply Steady.purge | dsimp only)

theorem State.tryEndJob_steady {s₀ s : State} (hs : Steady s₀ s) (h : Nat) :
    Steady s₀ (State.tryEndJob s h) := by
  unfold State.tryEndJob
  try dsimp only
  repeat' with_reducible (first | assumption | apply steadyRes_next | apply steadyOpt_none | apply steadyOpt_some | apply State.forEach_steady | apply State.when_steady | apply foldl_steady | apply foldl_fst_steady | apply foldl_snd_steady | intro _ | split | apply State.endCmd_steady | apply steadyOpt_get (by assumption) | apply Steady.set | apply Steady.draw | apply Steady.tell | apply Steady.purge | dsimp only)

theorem State.noteDelivered_steady {s₀ s : State} (hs : Steady s₀ s) (h k : Nat) (failed : Bool) (outcome : Nat) (poison : Bool) :
    Steady s₀ (State.noteDelivered s h k failed outcome poison) := by
  unfold State.noteDelivered
  try dsimp only
  repeat' with_reducible (first | assumption | apply steadyRes_next | apply steadyOpt_none | apply steadyOpt_some | apply State.forEach_steady | apply State.when_steady | apply foldl_steady | apply foldl_fst_steady | apply foldl_snd_steady | intro _ | split | apply State.modCmd_steady | apply State.put_steady | apply steadyOpt_get (by assumption) | apply Steady.set | apply Steady.draw | apply Steady.tell | apply Steady.purge | dsimp only)

theorem State.moveGrant_steady {s₀ s : State} (hs : Steady s₀ s) (g : Grant) (n : Nat) :
    Steady s₀ (State.moveGrant s g n) := by
  unfold State.moveGrant
  try dsimp only
  repeat' with_reducible (first | assumption | apply steadyRes_next | apply steadyOpt_none | apply steadyOpt_some | apply State.forEach_steady | apply State.when_steady | apply foldl_steady | apply foldl_fst_steady | apply foldl_snd_steady | intro _ | split | apply steadyOpt_get (by assumption) | apply Steady.set | apply Steady.draw | apply Steady.tell | apply Steady.purge | dsimp only)

theorem State.sendData_steady {s₀ s : State} (hs : Steady s₀ s) (dest : Nat) (g : Grant) (bytes : List Nat) (poison : Bool) :
    Steady s₀ (State.sendData s dest g bytes poison) := by
  unfold State.sendData
  try dsimp only
  repeat' with_reducible (first | assumption | apply steadyRes_next | apply steadyOpt_none | apply steadyOpt_some | apply State.forEach_steady | apply State.when_steady | apply foldl_steady | apply foldl_fst_steady | apply foldl_snd_steady | intro _ | split | apply State.moveGrant_steady | apply State.route_steady | apply steadyOpt_get (by assumption) | apply Steady.set | apply Steady.draw | apply Steady.tell | apply Steady.purge | dsimp only)

theorem State.fetchSector_steady {s₀ s : State} (hs : Steady s₀ s) (c : Cmd) (k : Nat) :
    Steady s₀ (State.fetchSector s c k) := by
  unfold State.fetchSector
  try dsimp only
  repeat' with_reducible (first | assumption | apply steadyRes_next | apply steadyOpt_none | apply steadyOpt_some | apply State.forEach_steady | apply State.when_steady | apply foldl_steady | apply foldl_fst_steady | apply foldl_snd_steady | intro _ | split | apply State.readSector_steady | apply steadyOpt_get (by assumption) | apply Steady.set | apply Steady.draw | apply Steady.tell | apply Steady.purge | dsimp only)

theorem State.sendSectorUp_steady {s₀ s : State} (hs : Steady s₀ s) (h k tag : Nat) :
    Steady s₀ (State.sendSectorUp s h k tag) := by
  unfold State.sendSectorUp
  try dsimp only
  repeat' with_reducible (first | assumption | apply steadyRes_next | apply steadyOpt_none | apply steadyOpt_some | apply State.forEach_steady | apply State.when_steady | apply foldl_steady | apply foldl_fst_steady | apply foldl_snd_steady | intro _ | split | apply State.fetchSector_steady | apply State.keyChanged_steady | apply State.sendData_steady | apply State.noteDelivered_steady | apply State.tryEndRead_steady | apply steadyOpt_get (by assumption) | apply Steady.set | apply Steady.draw | apply Steady.tell | apply Steady.purge | dsimp only)

theorem State.writeSector_steady {s₀ s : State} (hs : Steady s₀ s) (h k : Nat) :
    Steady s₀ (State.writeSector s h k) := by
  unfold State.writeSector
  try dsimp only
  repeat' with_reducible (first | assumption | apply steadyRes_next | apply steadyOpt_none | apply steadyOpt_some | apply State.forEach_steady | apply State.when_steady | apply foldl_steady | apply foldl_fst_steady | apply foldl_snd_steady | intro _ | split | apply State.fetchSector_steady | apply State.keyChanged_steady | apply State.emitAll_steady | apply State.setCmd_steady | apply State.put_steady | apply State.noteDelivered_steady | apply State.tryEndRead_steady | apply steadyOpt_get (by assumption) | apply Steady.set | apply Steady.draw | apply Steady.tell | apply Steady.purge | dsimp only)

theorem execDmaWriteIssued_steady {s₀ s : State} (hs : Steady s₀ s) (h unit : Nat) :
    SteadyRes s₀ (execDmaWriteIssued h unit s) := by
  unfold execDmaWriteIssued
  try dsimp only
  repeat' with_reducible (first | assumption | apply steadyRes_next | apply steadyOpt_none | apply steadyOpt_some | apply State.forEach_steady | apply State.when_steady | apply foldl_steady | apply foldl_fst_steady | apply foldl_snd_steady | intro _ | split | apply State.sendSectorUp_steady | apply State.writeSector_steady | apply State.emitAll_steady | apply State.modCmd_steady | apply State.tryEndJob_steady | apply steadyOpt_get (by assumption) | apply Steady.set | apply Steady.draw | apply Steady.tell | apply Steady.purge | dsimp only)

theorem State.begin_steady {s₀ s : State} (hs : Steady s₀ s) (h : Nat) :
    Steady s₀ (State.begin s h) := by
  unfold State.begin
  try dsimp only
  repeat' with_reducible (first | assumption | apply steadyRes_next | apply steadyOpt_none | apply steadyOpt_some | apply State.forEach_steady | apply State.when_steady | apply foldl_steady | apply foldl_fst_steady | apply foldl_snd_steady | intro _ | split | apply State.setCmd_steady | apply State.ask_steady | apply steadyOpt_get (by assumption) | apply Steady.set | apply Steady.draw | apply Steady.tell | apply Steady.purge | dsimp only)

theorem execRead_steady {s₀ s : State} (hs : Steady s₀ s) (h : Nat) :
    SteadyRes s₀ (execRead h s) := by
  unfold execRead
  try dsimp only
  repeat' with_reducible (first | assumption | apply steadyRes_next | apply steadyOpt_none | apply steadyOpt_some | apply State.forEach_steady | apply State.when_steady | apply foldl_steady | apply foldl_fst_steady | apply foldl_snd_steady | intro _ | split | apply State.begin_steady | apply steadyOpt_get (by assumption) | apply Steady.set | apply Steady.draw | apply Steady.tell | apply Steady.purge | dsimp only)

theorem execLRead_steady {s₀ s : State} (hs : Steady s₀ s) (h : Nat) :
    SteadyRes s₀ (execLRead h s) := by
  unfold execLRead
  try dsimp only
  repeat' with_reducible (first | assumption | apply steadyRes_next | apply steadyOpt_none | apply steadyOpt_some | apply State.forEach_steady | apply State.when_steady | apply foldl_steady | apply foldl_fst_steady | apply foldl_snd_steady | intro _ | split | apply State.begin_steady | apply steadyOpt_get (by assumption) | apply Steady.set | apply Steady.draw | apply Steady.tell | apply Steady.purge | dsimp only)

theorem execVerify_steady {s₀ s : State} (hs : Steady s₀ s) (h : Nat) :
    SteadyRes s₀ (execVerify h s) := by
  unfold execVerify
  try dsimp only
  repeat' with_reducible (first | assumption | apply steadyRes_next | apply steadyOpt_none | apply steadyOpt_some | apply State.forEach_steady | apply State.when_steady | apply foldl_steady | apply foldl_fst_steady | apply foldl_snd_steady | intro _ | split | apply State.begin_steady | apply steadyOpt_get (by assumption) | apply Steady.set | apply Steady.draw | apply Steady.tell | apply Steady.purge | dsimp only)

theorem execWrite_steady {s₀ s : State} (hs : Steady s₀ s) (h : Nat) :
    SteadyRes s₀ (execWrite h s) := by
  unfold execWrite
  try dsimp only
  repeat' with_reducible (first | assumption | apply steadyRes_next | apply steadyOpt_none | apply steadyOpt_some | apply State.forEach_steady | apply State.when_steady | apply foldl_steady | apply foldl_fst_steady | apply foldl_snd_steady | intro _ | split | apply State.begin_steady | apply State.pump_steady | apply steadyOpt_get (by assumption) | apply Steady.set | apply Steady.draw | apply Steady.tell | apply Steady.purge | dsimp only)

theorem execLWrite_steady {s₀ s : State} (hs : Steady s₀ s) (h : Nat) :
    SteadyRes s₀ (execLWrite h s) := by
  unfold execLWrite
  try dsimp only
  repeat' with_reducible (first | assumption | apply steadyRes_next | apply steadyOpt_none | apply steadyOpt_some | apply State.forEach_steady | apply State.when_steady | apply foldl_steady | apply foldl_fst_steady | apply foldl_snd_steady | intro _ | split | apply State.begin_steady | apply State.pump_steady | apply steadyOpt_get (by assumption) | apply Steady.set | apply Steady.draw | apply Steady.tell | apply Steady.purge | dsimp only)

theorem execPreload_steady {s₀ s : State} (hs : Steady s₀ s) (h : Nat) :
    SteadyRes s₀ (execPreload h s) := by
  unfold execPreload
  try dsimp only
  repeat' with_reducible (first | assumption | apply steadyRes_next | apply steadyOpt_none | apply steadyOpt_some | apply State.forEach_steady | apply State.when_steady | apply foldl_steady | apply foldl_fst_steady | apply foldl_snd_steady | intro _ | split | apply State.refuse_steady | apply State.put_steady | apply State.begin_steady | apply steadyOpt_get (by assumption) | apply Steady.set | apply Steady.draw | apply Steady.tell | apply Steady.purge | dsimp only)

theorem execCipherJob_steady {s₀ s : State} (hs : Steady s₀ s) (h : Nat) :
    SteadyRes s₀ (execCipherJob h s) := by
  unfold execCipherJob
  try dsimp only
  repeat' with_reducible (first | assumption | apply steadyRes_next | apply steadyOpt_none | apply steadyOpt_some | apply State.forEach_steady | apply State.when_steady | apply foldl_steady | apply foldl_fst_steady | apply foldl_snd_steady | intro _ | split | apply State.setCmd_steady | apply State.pumpJob_steady | apply steadyOpt_get (by assumption) | apply Steady.set | apply Steady.draw | apply Steady.tell | apply Steady.purge | dsimp only)

theorem State.flush_steady {s₀ s : State} (hs : Steady s₀ s) (h : Nat) :
    Steady s₀ (State.flush s h) := by
  unfold State.flush
  try dsimp only
  repeat' with_reducible (first | assumption | apply steadyRes_next | apply steadyOpt_none | apply steadyOpt_some | apply State.forEach_steady | apply State.when_steady | apply foldl_steady | apply foldl_fst_steady | apply foldl_snd_steady | intro _ | split | apply State.closeBlock_steady | apply State.setCmd_steady | apply State.tryEndFlush_steady | apply steadyOpt_get (by assumption) | apply Steady.set | apply Steady.draw | apply Steady.tell | apply Steady.purge | dsimp only)

theorem execFlush_steady {s₀ s : State} (hs : Steady s₀ s) (h : Nat) :
    SteadyRes s₀ (execFlush h s) := by
  unfold execFlush
  try dsimp only
  repeat' with_reducible (first | assumption | apply steadyRes_next | apply steadyOpt_none | apply steadyOpt_some | apply State.forEach_steady | apply State.when_steady | apply foldl_steady | apply foldl_fst_steady | apply foldl_snd_steady | intro _ | split | apply State.flush_steady | apply steadyOpt_get (by assumption) | apply Steady.set | apply Steady.draw | apply Steady.tell | apply Steady.purge | dsimp only)

theorem execLFlush_steady {s₀ s : State} (hs : Steady s₀ s) (h : Nat) :
    SteadyRes s₀ (execLFlush h s) := by
  unfold execLFlush
  try dsimp only
  repeat' with_reducible (first | assumption | apply steadyRes_next | apply steadyOpt_none | apply steadyOpt_some | apply State.forEach_steady | apply State.when_steady | apply foldl_steady | apply foldl_fst_steady | apply foldl_snd_steady | intro _ | split | apply State.flush_steady | apply steadyOpt_get (by assumption) | apply Steady.set | apply Steady.draw | apply Steady.tell | apply Steady.purge | dsimp only)

theorem State.allocatePads_steady {s₀ s : State} (hs : Steady s₀ s) :
    Steady s₀ (State.allocatePads s) := by
  unfold State.allocatePads
  try dsimp only
  repeat' with_reducible (first | assumption | apply steadyRes_next | apply steadyOpt_none | apply steadyOpt_some | apply State.forEach_steady | apply State.when_steady | apply foldl_steady | apply foldl_fst_steady | apply foldl_snd_steady | intro _ | split | apply State.padSectors_steady | apply State.freeEntry_steady | apply State.allocate_steady | apply State.setEntry_steady | apply steadyOpt_get (by assumption) | apply Steady.set | apply Steady.draw | apply Steady.tell | apply Steady.purge | dsimp only)

theorem execEntryAllocate_steady {s₀ s : State} (hs : Steady s₀ s) (h block : Nat) :
    SteadyRes s₀ (execEntryAllocate h block s) := by
  unfold execEntryAllocate
  try dsimp only
  repeat' with_reducible (first | assumption | apply steadyRes_next | apply steadyOpt_none | apply steadyOpt_some | apply State.forEach_steady | apply State.when_steady | apply foldl_steady | apply foldl_fst_steady | apply foldl_snd_steady | intro _ | split | apply State.allocatePads_steady | apply State.ask_steady | apply State.pump_steady | apply steadyOpt_get (by assumption) | apply Steady.set | apply Steady.draw | apply Steady.tell | apply Steady.purge | dsimp only)

theorem execReadAhead_steady {s₀ s : State} (hs : Steady s₀ s) (st : Fin 8) :
    SteadyRes s₀ (execReadAhead st s) := by
  unfold execReadAhead
  try dsimp only
  repeat' with_reducible (first | assumption | apply steadyRes_next | apply steadyOpt_none | apply steadyOpt_some | apply State.forEach_steady | apply State.when_steady | apply foldl_steady | apply foldl_fst_steady | apply foldl_snd_steady | intro _ | split | apply State.allocate_steady | apply State.setEntry_steady | apply State.startWork_steady | apply State.touch_steady | apply steadyOpt_get (by assumption) | apply Steady.set | apply Steady.draw | apply Steady.tell | apply Steady.purge | dsimp only)

theorem execCacheDisable_steady {s₀ s : State} (hs : Steady s₀ s) :
    SteadyRes s₀ (execCacheDisable s) := by
  unfold execCacheDisable
  try dsimp only
  repeat' with_reducible (first | assumption | apply steadyRes_next | apply steadyOpt_none | apply steadyOpt_some | apply State.forEach_steady | apply State.when_steady | apply foldl_steady | apply foldl_fst_steady | apply foldl_snd_steady | intro _ | split | apply State.put_steady | apply State.freeEntry_steady | apply State.setEntry_steady | apply State.closeBlock_steady | apply steadyOpt_get (by assumption) | apply Steady.set | apply Steady.draw | apply Steady.tell | apply Steady.purge | dsimp only)

theorem execCacheEnable_steady {s₀ s : State} (hs : Steady s₀ s) :
    SteadyRes s₀ (execCacheEnable s) := by
  unfold execCacheEnable
  try dsimp only
  repeat' with_reducible (first | assumption | apply steadyRes_next | apply steadyOpt_none | apply steadyOpt_some | apply State.forEach_steady | apply State.when_steady | apply foldl_steady | apply foldl_fst_steady | apply foldl_snd_steady | intro _ | split | apply State.put_steady | apply State.post_steady | apply steadyOpt_get (by assumption) | apply Steady.set | apply Steady.draw | apply Steady.tell | apply Steady.purge | dsimp only)

theorem execCacheDrainDone_steady {s₀ s : State} (hs : Steady s₀ s) :
    SteadyRes s₀ (execCacheDrainDone s) := by
  unfold execCacheDrainDone
  try dsimp only
  repeat' with_reducible (first | assumption | apply steadyRes_next | apply steadyOpt_none | apply steadyOpt_some | apply State.forEach_steady | apply State.when_steady | apply foldl_steady | apply foldl_fst_steady | apply foldl_snd_steady | intro _ | split | apply State.put_steady | apply State.post_steady | apply steadyOpt_get (by assumption) | apply Steady.set | apply Steady.draw | apply Steady.tell | apply Steady.purge | dsimp only)

end Sys2Proof.Machine
end

