-- ==== Sys2Proof/Laws/SteadyCipher.lean ====
section
/-!
SUPPORT. What every command keeps (Safety.lean), of the operations and commands of Machine/Cipher.lean.
-/
set_option Elab.async false
set_option linter.all false
namespace Sys2Proof.Machine
set_option maxRecDepth 2000

theorem State.clearStaging_steady {s₀ s : State} (hs : Steady s₀ s) :
    Steady s₀ (State.clearStaging s) := by
  unfold State.clearStaging
  try dsimp only
  repeat' with_reducible (first | assumption | apply steadyRes_next | apply steadyOpt_none | apply steadyOpt_some | apply State.forEach_steady | apply State.when_steady | apply foldl_steady | apply foldl_fst_steady | apply foldl_snd_steady | intro _ | split | apply steadyOpt_get (by assumption) | apply Steady.set | apply Steady.draw | apply Steady.tell | apply Steady.purge | dsimp only)

theorem State.bumpGen_steady {s₀ s : State} (hs : Steady s₀ s) (slot : Nat) :
    Steady s₀ (State.bumpGen s slot) := by
  unfold State.bumpGen
  try dsimp only
  repeat' with_reducible (first | assumption | apply steadyRes_next | apply steadyOpt_none | apply steadyOpt_some | apply State.forEach_steady | apply State.when_steady | apply foldl_steady | apply foldl_fst_steady | apply foldl_snd_steady | intro _ | split | apply State.putPair_steady | apply steadyOpt_get (by assumption) | apply Steady.set | apply Steady.draw | apply Steady.tell | apply Steady.purge | dsimp only)

theorem State.keyRejected_steady {s₀ s : State} (hs : Steady s₀ s) :
    Steady s₀ (State.keyRejected s) := by
  unfold State.keyRejected
  try dsimp only
  repeat' with_reducible (first | assumption | apply steadyRes_next | apply steadyOpt_none | apply steadyOpt_some | apply State.forEach_steady | apply State.when_steady | apply foldl_steady | apply foldl_fst_steady | apply foldl_snd_steady | intro _ | split | apply State.clearStaging_steady | apply State.put_steady | apply steadyOpt_get (by assumption) | apply Steady.set | apply Steady.draw | apply Steady.tell | apply Steady.purge | dsimp only)

theorem execKeyLoad_steady {s₀ s : State} (hs : Steady s₀ s) (slot : Fin 64) :
    SteadyRes s₀ (execKeyLoad slot s) := by
  unfold execKeyLoad
  try dsimp only
  repeat' with_reducible (first | assumption | apply steadyRes_next | apply steadyOpt_none | apply steadyOpt_some | apply State.forEach_steady | apply State.when_steady | apply foldl_steady | apply foldl_fst_steady | apply foldl_snd_steady | intro _ | split | apply State.keyRejected_steady | apply State.setKeySlot_steady | apply State.bumpGen_steady | apply State.put_steady | apply State.clearStaging_steady | apply steadyOpt_get (by assumption) | apply Steady.set | apply Steady.draw | apply Steady.tell | apply Steady.purge | dsimp only)

theorem execKeyLoadDone_steady {s₀ s : State} (hs : Steady s₀ s) :
    SteadyRes s₀ (execKeyLoadDone s) := by
  unfold execKeyLoadDone
  try dsimp only
  repeat' with_reducible (first | assumption | apply steadyRes_next | apply steadyOpt_none | apply steadyOpt_some | apply State.forEach_steady | apply State.when_steady | apply foldl_steady | apply foldl_fst_steady | apply foldl_snd_steady | intro _ | split | apply State.put_steady | apply State.post_steady | apply State.refillEngines_steady | apply steadyOpt_get (by assumption) | apply Steady.set | apply Steady.draw | apply Steady.tell | apply Steady.purge | dsimp only)

theorem execKeyErase_steady {s₀ s : State} (hs : Steady s₀ s) (slot : Fin 64) :
    SteadyRes s₀ (execKeyErase slot s) := by
  unfold execKeyErase
  try dsimp only
  repeat' with_reducible (first | assumption | apply steadyRes_next | apply steadyOpt_none | apply steadyOpt_some | apply State.forEach_steady | apply State.when_steady | apply foldl_steady | apply foldl_fst_steady | apply foldl_snd_steady | intro _ | split | apply State.keyRejected_steady | apply State.bumpGen_steady | apply State.put_steady | apply State.setKeySlot_steady | apply State.clearStaging_steady | apply steadyOpt_get (by assumption) | apply Steady.set | apply Steady.draw | apply Steady.tell | apply Steady.purge | dsimp only)

theorem execKeyZeroizeDone_steady {s₀ s : State} (hs : Steady s₀ s) (slot : Fin 64) :
    SteadyRes s₀ (execKeyZeroizeDone slot s) := by
  unfold execKeyZeroizeDone
  try dsimp only
  repeat' with_reducible (first | assumption | apply steadyRes_next | apply steadyOpt_none | apply steadyOpt_some | apply State.forEach_steady | apply State.when_steady | apply foldl_steady | apply foldl_fst_steady | apply foldl_snd_steady | intro _ | split | apply State.setKeySlot_steady | apply State.post_steady | apply steadyOpt_get (by assumption) | apply Steady.set | apply Steady.draw | apply Steady.tell | apply Steady.purge | dsimp only)

theorem State.jobOutput_steady {s₀ s : State} (hs : Steady s₀ s) (x : Engine) :
    Steady s₀ (State.jobOutput s x) := by
  unfold State.jobOutput
  try dsimp only
  repeat' with_reducible (first | assumption | apply steadyRes_next | apply steadyOpt_none | apply steadyOpt_some | apply State.forEach_steady | apply State.when_steady | apply foldl_steady | apply foldl_fst_steady | apply foldl_snd_steady | intro _ | split | apply State.modCmd_steady | apply State.put_steady | apply steadyOpt_get (by assumption) | apply Steady.set | apply Steady.draw | apply Steady.tell | apply Steady.purge | dsimp only)

theorem execEngineBlockDone_steady {s₀ s : State} (hs : Steady s₀ s) (e : Fin 16) :
    SteadyRes s₀ (execEngineBlockDone e s) := by
  unfold execEngineBlockDone
  try dsimp only
  repeat' with_reducible (first | assumption | apply steadyRes_next | apply steadyOpt_none | apply steadyOpt_some | apply State.forEach_steady | apply State.when_steady | apply foldl_steady | apply foldl_fst_steady | apply foldl_snd_steady | intro _ | split | apply State.refillEngines_steady | apply State.setEngine_steady | apply State.setWorkItem_steady | apply State.jobOutput_steady | apply State.workDone_steady | apply steadyOpt_get (by assumption) | apply Steady.set | apply Steady.draw | apply Steady.tell | apply Steady.purge | dsimp only)

theorem State.extend_steady {s₀ s : State} (hs : Steady s₀ s) (m : Nat) (digest : List Nat) :
    Steady s₀ (State.extend s m digest) := by
  unfold State.extend
  try dsimp only
  repeat' with_reducible (first | assumption | apply steadyRes_next | apply steadyOpt_none | apply steadyOpt_some | apply State.forEach_steady | apply State.when_steady | apply foldl_steady | apply foldl_fst_steady | apply foldl_snd_steady | intro _ | split | apply State.put_steady | apply steadyOpt_get (by assumption) | apply Steady.set | apply Steady.draw | apply Steady.tell | apply Steady.purge | dsimp only)

theorem execJtagStateChange_steady {s₀ s : State} (hs : Steady s₀ s) (enabled : Bool) (record : List Byte) :
    SteadyRes s₀ (execJtagStateChange enabled record s) := by
  unfold execJtagStateChange
  try dsimp only
  repeat' with_reducible (first | assumption | apply steadyRes_next | apply steadyOpt_none | apply steadyOpt_some | apply State.forEach_steady | apply State.when_steady | apply foldl_steady | apply foldl_fst_steady | apply foldl_snd_steady | intro _ | split | apply State.extend_steady | apply steadyOpt_get (by assumption) | apply Steady.set | apply Steady.draw | apply Steady.tell | apply Steady.purge | dsimp only)

theorem State.answerMarked_steady {s₀ s : State} (hs : Steady s₀ s) (h : Nat) (data : List Nat) (poison : Bool) :
    Steady s₀ (State.answerMarked s h data poison) := by
  unfold State.answerMarked
  try dsimp only
  repeat' with_reducible (first | assumption | apply steadyRes_next | apply steadyOpt_none | apply steadyOpt_some | apply State.forEach_steady | apply State.when_steady | apply foldl_steady | apply foldl_fst_steady | apply foldl_snd_steady | intro _ | split | apply State.emitAll_steady | apply State.finish_steady | apply State.put_steady | apply State.setCmd_steady | apply steadyOpt_get (by assumption) | apply Steady.set | apply Steady.draw | apply Steady.tell | apply Steady.purge | dsimp only)

theorem State.answer_steady {s₀ s : State} (hs : Steady s₀ s) (h : Nat) (data : List Nat) :
    Steady s₀ (State.answer s h data) := by
  unfold State.answer
  try dsimp only
  repeat' with_reducible (first | assumption | apply steadyRes_next | apply steadyOpt_none | apply steadyOpt_some | apply State.forEach_steady | apply State.when_steady | apply foldl_steady | apply foldl_fst_steady | apply foldl_snd_steady | intro _ | split | apply State.answerMarked_steady | apply steadyOpt_get (by assumption) | apply Steady.set | apply Steady.draw | apply Steady.tell | apply Steady.purge | dsimp only)

theorem execAttest_steady {s₀ s : State} (hs : Steady s₀ s) (h : Nat) :
    SteadyRes s₀ (execAttest h s) := by
  unfold execAttest
  try dsimp only
  repeat' with_reducible (first | assumption | apply steadyRes_next | apply steadyOpt_none | apply steadyOpt_some | apply State.forEach_steady | apply State.when_steady | apply foldl_steady | apply foldl_fst_steady | apply foldl_snd_steady | intro _ | split | apply State.answer_steady | apply steadyOpt_get (by assumption) | apply Steady.set | apply Steady.draw | apply Steady.tell | apply Steady.purge | dsimp only)

end Sys2Proof.Machine
end

