-- ==== Sys2Proof/Laws/SteadyFlash.lean ====
section
/-!
SUPPORT. What every command keeps (Safety.lean), of the operations and commands of Machine/Flash.lean.
-/
set_option Elab.async false
set_option linter.all false
namespace Sys2Proof.Machine
set_option maxRecDepth 2000

theorem State.programFlash_steady {s₀ s : State} (hs : Steady s₀ s) (slot offset : Nat) (data : List Nat) :
    Steady s₀ (State.programFlash s slot offset data) := by
  unfold State.programFlash
  try dsimp only
  repeat' with_reducible (first | assumption | apply steadyRes_next | apply steadyOpt_none | apply steadyOpt_some | apply State.forEach_steady | apply State.when_steady | apply foldl_steady | apply foldl_fst_steady | apply foldl_snd_steady | intro _ | split | apply State.put_steady | apply steadyOpt_get (by assumption) | apply Steady.set | apply Steady.draw | apply Steady.tell | apply Steady.purge | dsimp only)

theorem State.spoilFlash_steady {s₀ s : State} (hs : Steady s₀ s) (slot offset len : Nat) :
    Steady s₀ (State.spoilFlash s slot offset len) := by
  unfold State.spoilFlash
  try dsimp only
  repeat' with_reducible (first | assumption | apply steadyRes_next | apply steadyOpt_none | apply steadyOpt_some | apply State.forEach_steady | apply State.when_steady | apply foldl_steady | apply foldl_fst_steady | apply foldl_snd_steady | intro _ | split | apply State.programFlash_steady | apply steadyOpt_get (by assumption) | apply Steady.set | apply Steady.draw | apply Steady.tell | apply Steady.purge | dsimp only)

theorem State.pumpDownload_steady {s₀ s : State} (hs : Steady s₀ s) (h : Nat) :
    Steady s₀ (State.pumpDownload s h) := by
  unfold State.pumpDownload
  try dsimp only
  repeat' with_reducible (first | assumption | apply steadyRes_next | apply steadyOpt_none | apply steadyOpt_some | apply State.forEach_steady | apply State.when_steady | apply foldl_steady | apply foldl_fst_steady | apply foldl_snd_steady | intro _ | split | apply State.issueSource_steady | apply State.setCmd_steady | apply State.route_steady | apply steadyOpt_get (by assumption) | apply Steady.set | apply Steady.draw | apply Steady.tell | apply Steady.purge | dsimp only)

theorem State.downloadBytes_steady {s₀ s : State} (hs : Steady s₀ s) (h off : Nat) (bytes : List Nat) :
    Steady s₀ (State.downloadBytes s h off bytes) := by
  unfold State.downloadBytes
  try dsimp only
  repeat' with_reducible (first | assumption | apply steadyRes_next | apply steadyOpt_none | apply steadyOpt_some | apply State.forEach_steady | apply State.when_steady | apply foldl_steady | apply foldl_fst_steady | apply foldl_snd_steady | intro _ | split | apply State.put_steady | apply State.setCmd_steady | apply State.pumpDownload_steady | apply State.refuse_steady | apply steadyOpt_get (by assumption) | apply Steady.set | apply Steady.draw | apply Steady.tell | apply Steady.purge | dsimp only)

theorem execFwDownload_steady {s₀ s : State} (hs : Steady s₀ s) (h : Nat) :
    SteadyRes s₀ (execFwDownload h s) := by
  unfold execFwDownload
  try dsimp only
  repeat' with_reducible (first | assumption | apply steadyRes_next | apply steadyOpt_none | apply steadyOpt_some | apply State.forEach_steady | apply State.when_steady | apply foldl_steady | apply foldl_fst_steady | apply foldl_snd_steady | intro _ | split | apply State.refuse_steady | apply State.setCmd_steady | apply State.pumpDownload_steady | apply steadyOpt_get (by assumption) | apply Steady.set | apply Steady.draw | apply Steady.tell | apply Steady.purge | dsimp only)

theorem execFlashProgramDone_steady {s₀ s : State} (hs : Steady s₀ s) (ok : Bool) :
    SteadyRes s₀ (execFlashProgramDone ok s) := by
  unfold execFlashProgramDone
  try dsimp only
  repeat' with_reducible (first | assumption | apply steadyRes_next | apply steadyOpt_none | apply steadyOpt_some | apply State.forEach_steady | apply State.when_steady | apply foldl_steady | apply foldl_fst_steady | apply foldl_snd_steady | intro _ | split | apply State.programFlash_steady | apply State.finish_steady | apply State.spoilFlash_steady | apply State.raise_steady | apply steadyOpt_get (by assumption) | apply Steady.set | apply Steady.draw | apply Steady.tell | apply Steady.purge | dsimp only)

end Sys2Proof.Machine
end

