-- ==== Sys2Proof/Laws/SteadyRecovery.lean ====
section
/-!
SUPPORT. What every command keeps (Safety.lean), of the operations and commands of Machine/Recovery.lean.
-/
set_option Elab.async false
set_option linter.all false
namespace Sys2Proof.Machine
set_option maxRecDepth 2000

theorem execSyncSearch_steady {s₀ s : State} (hs : Steady s₀ s) (bc : Fin 64) (p q : List Int) :
    SteadyRes s₀ (execSyncSearch bc p q s) := by
  unfold execSyncSearch
  try dsimp only
  repeat' with_reducible (first | assumption | apply steadyRes_next | apply steadyOpt_none | apply steadyOpt_some | apply State.forEach_steady | apply State.when_steady | apply foldl_steady | apply foldl_fst_steady | apply foldl_snd_steady | intro _ | split | apply State.releaseImage_steady | apply State.modSec_steady | apply State.settleBlock_steady | apply State.armCapture_steady | apply steadyOpt_get (by assumption) | apply Steady.set | apply Steady.draw | apply Steady.tell | apply Steady.purge | dsimp only)

theorem State.nextRound_steady {s₀ s : State} (hs : Steady s₀ s) (e j : Nat) :
    Steady s₀ (State.nextRound s e j) := by
  unfold State.nextRound
  try dsimp only
  repeat' with_reducible (first | assumption | apply steadyRes_next | apply steadyOpt_none | apply steadyOpt_some | apply State.forEach_steady | apply State.when_steady | apply foldl_steady | apply foldl_fst_steady | apply foldl_snd_steady | intro _ | split | apply State.releaseImage_steady | apply State.modSec_steady | apply steadyOpt_get (by assumption) | apply Steady.set | apply Steady.draw | apply Steady.tell | apply Steady.purge | dsimp only)

theorem State.rungFailed_steady {s₀ s : State} (hs : Steady s₀ s) (e j : Nat) (inTime : Bool) :
    Steady s₀ (State.rungFailed s e j inTime) := by
  unfold State.rungFailed
  try dsimp only
  repeat' with_reducible (first | assumption | apply steadyRes_next | apply steadyOpt_none | apply steadyOpt_some | apply State.forEach_steady | apply State.when_steady | apply foldl_steady | apply foldl_fst_steady | apply foldl_snd_steady | intro _ | split | apply State.armCapture_steady | apply State.modSec_steady | apply State.nextRound_steady | apply steadyOpt_get (by assumption) | apply Steady.set | apply Steady.draw | apply Steady.tell | apply Steady.purge | dsimp only)

theorem State.hypFailed_steady {s₀ s : State} (hs : Steady s₀ s) (e j idx : Nat) (inTime : Bool) :
    Steady s₀ (State.hypFailed s e j idx inTime) := by
  unfold State.hypFailed
  try dsimp only
  repeat' with_reducible (first | assumption | apply steadyRes_next | apply steadyOpt_none | apply steadyOpt_some | apply State.forEach_steady | apply State.when_steady | apply foldl_steady | apply foldl_fst_steady | apply foldl_snd_steady | intro _ | split | apply State.modSec_steady | apply State.rungFailed_steady | apply State.settleBlock_steady | apply steadyOpt_get (by assumption) | apply Steady.set | apply Steady.draw | apply Steady.tell | apply Steady.purge | dsimp only)

theorem execDecodeConverged_steady {s₀ s : State} (hs : Steady s₀ s) (e : Fin 48) (j : Fin 72) (idx : Fin 4) (codeword : Nat) (inTime : Bool) :
    SteadyRes s₀ (execDecodeConverged e j idx codeword inTime s) := by
  unfold execDecodeConverged
  try dsimp only
  repeat' with_reducible (first | assumption | apply steadyRes_next | apply steadyOpt_none | apply steadyOpt_some | apply State.forEach_steady | apply State.when_steady | apply foldl_steady | apply foldl_fst_steady | apply foldl_snd_steady | intro _ | split | apply State.setLane_steady | apply State.confirmSector_steady | apply State.settleBlock_steady | apply State.hypFailed_steady | apply steadyOpt_get (by assumption) | apply Steady.set | apply Steady.draw | apply Steady.tell | apply Steady.purge | dsimp only)

theorem execDecodeMaxIter_steady {s₀ s : State} (hs : Steady s₀ s) (e : Fin 48) (j : Fin 72) (idx : Fin 4) (inTime : Bool) :
    SteadyRes s₀ (execDecodeMaxIter e j idx inTime s) := by
  unfold execDecodeMaxIter
  try dsimp only
  repeat' with_reducible (first | assumption | apply steadyRes_next | apply steadyOpt_none | apply steadyOpt_some | apply State.forEach_steady | apply State.when_steady | apply foldl_steady | apply foldl_fst_steady | apply foldl_snd_steady | intro _ | split | apply State.hypFailed_steady | apply steadyOpt_get (by assumption) | apply Steady.set | apply Steady.draw | apply Steady.tell | apply Steady.purge | dsimp only)

theorem execRedecodeRoundStart_steady {s₀ s : State} (hs : Steady s₀ s) :
    SteadyRes s₀ (execRedecodeRoundStart s) := by
  unfold execRedecodeRoundStart
  try dsimp only
  repeat' with_reducible (first | assumption | apply steadyRes_next | apply steadyOpt_none | apply steadyOpt_some | apply State.forEach_steady | apply State.when_steady | apply foldl_steady | apply foldl_fst_steady | apply foldl_snd_steady | intro _ | split | apply State.modSec_steady | apply steadyOpt_get (by assumption) | apply Steady.set | apply Steady.draw | apply Steady.tell | apply Steady.purge | dsimp only)

theorem execReequalizerPassDone_steady {s₀ s : State} (hs : Steady s₀ s) (e : Fin 48) (j : Fin 72) :
    SteadyRes s₀ (execReequalizerPassDone e j s) := by
  unfold execReequalizerPassDone
  extract_lets w x d bc used len rows c₁ c₂ r₁ c sigma2 tol m1 r de t
  have ht : Steady s₀ t := Steady.draw hs ..
  clear_value t r
  split
  · apply steadyRes_next; exact hs
  · split
    · apply steadyRes_next; exact State.modSec_steady hs _ _ _
    · split
      · apply steadyRes_next; exact State.settleBlock_steady (State.rungFailed_steady ht _ _ _) _
      · apply steadyRes_next; exact State.modSec_steady ht _ _ _

theorem execOuterDecode_steady {s₀ s : State} (hs : Steady s₀ s) (e : Fin 48) :
    SteadyRes s₀ (execOuterDecode e s) := by
  unfold execOuterDecode
  try dsimp only
  repeat' with_reducible (first | assumption | apply steadyRes_next | apply steadyOpt_none | apply steadyOpt_some | apply State.forEach_steady | apply State.when_steady | apply foldl_steady | apply foldl_fst_steady | apply foldl_snd_steady | intro _ | split | apply State.cancelSector_steady | apply State.modSec_steady | apply State.modWork_steady | apply steadyOpt_get (by assumption) | apply Steady.set | apply Steady.draw | apply Steady.tell | apply Steady.purge | dsimp only)

theorem execOuterDecodeDone_steady {s₀ s : State} (hs : Steady s₀ s) (e : Fin 48) :
    SteadyRes s₀ (execOuterDecodeDone e s) := by
  unfold execOuterDecodeDone
  try dsimp only
  repeat' with_reducible (first | assumption | apply steadyRes_next | apply steadyOpt_none | apply steadyOpt_some | apply State.forEach_steady | apply State.when_steady | apply foldl_steady | apply foldl_fst_steady | apply foldl_snd_steady | intro _ | split | apply State.modWork_steady | apply State.confirmSector_steady | apply State.settleBlock_steady | apply State.report_steady | apply steadyOpt_get (by assumption) | apply Steady.set | apply Steady.draw | apply Steady.tell | apply Steady.purge | dsimp only)

theorem execBlockBlank_steady {s₀ s : State} (hs : Steady s₀ s) (e : Fin 48) :
    SteadyRes s₀ (execBlockBlank e s) := by
  unfold execBlockBlank
  try dsimp only
  repeat' with_reducible (first | assumption | apply steadyRes_next | apply steadyOpt_none | apply steadyOpt_some | apply State.forEach_steady | apply State.when_steady | apply foldl_steady | apply foldl_fst_steady | apply foldl_snd_steady | intro _ | split | apply State.modWork_steady | apply State.finalSector_steady | apply State.settleBlock_steady | apply steadyOpt_get (by assumption) | apply Steady.set | apply Steady.draw | apply Steady.tell | apply Steady.purge | dsimp only)

theorem execReread_steady {s₀ s : State} (hs : Steady s₀ s) (e : Fin 48) :
    SteadyRes s₀ (execReread e s) := by
  unfold execReread
  try dsimp only
  repeat' with_reducible (first | assumption | apply steadyRes_next | apply steadyOpt_none | apply steadyOpt_some | apply State.forEach_steady | apply State.when_steady | apply foldl_steady | apply foldl_fst_steady | apply foldl_snd_steady | intro _ | split | apply State.modWork_steady | apply steadyOpt_get (by assumption) | apply Steady.set | apply Steady.draw | apply Steady.tell | apply Steady.purge | dsimp only)

end Sys2Proof.Machine
end

