-- ==== Sys2Proof/Laws/SteadyLane.lean ====
section
/-!
SUPPORT. What every command keeps (Safety.lean), of the operations and commands of Machine/Lane.lean.
-/
set_option Elab.async false
set_option linter.all false
namespace Sys2Proof.Machine
set_option maxRecDepth 2000

theorem State.modLane_steady {s₀ s : State} (hs : Steady s₀ s) (bc : Nat) (f : Lane → Lane) :
    Steady s₀ (State.modLane s bc f) := by
  unfold State.modLane
  try dsimp only
  repeat' with_reducible (first | assumption | apply steadyRes_next | apply steadyOpt_none | apply steadyOpt_some | apply State.forEach_steady | apply State.when_steady | apply foldl_steady | apply foldl_fst_steady | apply foldl_snd_steady | intro _ | split | apply State.setLane_steady | apply steadyOpt_get (by assumption) | apply Steady.set | apply Steady.draw | apply Steady.tell | apply Steady.purge | dsimp only)

theorem State.holdLanes_steady {s₀ s : State} (hs : Steady s₀ s) (n : Nat) :
    Steady s₀ (State.holdLanes s n) := by
  unfold State.holdLanes
  try dsimp only
  repeat' with_reducible (first | assumption | apply steadyRes_next | apply steadyOpt_none | apply steadyOpt_some | apply State.forEach_steady | apply State.when_steady | apply foldl_steady | apply foldl_fst_steady | apply foldl_snd_steady | intro _ | split | apply State.setLane_steady | apply State.put_steady | apply State.cancelSector_steady | apply State.modSec_steady | apply steadyOpt_get (by assumption) | apply Steady.set | apply Steady.draw | apply Steady.tell | apply Steady.purge | dsimp only)

theorem State.showLane_steady {s₀ s : State} (hs : Steady s₀ s) (bc : Nat) :
    Steady s₀ (State.showLane s bc) := by
  unfold State.showLane
  try dsimp only
  repeat' with_reducible (first | assumption | apply steadyRes_next | apply steadyOpt_none | apply steadyOpt_some | apply State.forEach_steady | apply State.when_steady | apply foldl_steady | apply foldl_fst_steady | apply foldl_snd_steady | intro _ | split | apply State.sput_steady | apply State.put_steady | apply steadyOpt_get (by assumption) | apply Steady.set | apply Steady.draw | apply Steady.tell | apply Steady.purge | dsimp only)

theorem State.setLaneReg_steady {s₀ s : State} (hs : Steady s₀ s) (bc : Nat) (r : LaneReg) (v : Nat) :
    Steady s₀ (State.setLaneReg s bc r v) := by
  unfold State.setLaneReg
  try dsimp only
  repeat' with_reducible (first | assumption | apply steadyRes_next | apply steadyOpt_none | apply steadyOpt_some | apply State.forEach_steady | apply State.when_steady | apply foldl_steady | apply foldl_fst_steady | apply foldl_snd_steady | intro _ | split | apply State.put_steady | apply State.modLane_steady | apply steadyOpt_get (by assumption) | apply Steady.set | apply Steady.draw | apply Steady.tell | apply Steady.purge | dsimp only)

theorem State.applyStaged_steady {s₀ s : State} (hs : Steady s₀ s) (bc : Nat) :
    Steady s₀ (State.applyStaged s bc) := by
  unfold State.applyStaged
  try dsimp only
  repeat' with_reducible (first | assumption | apply steadyRes_next | apply steadyOpt_none | apply steadyOpt_some | apply State.forEach_steady | apply State.when_steady | apply foldl_steady | apply foldl_fst_steady | apply foldl_snd_steady | intro _ | split | apply State.modLane_steady | apply State.put_steady | apply State.setLaneReg_steady | apply steadyOpt_get (by assumption) | apply Steady.set | apply Steady.draw | apply Steady.tell | apply Steady.purge | dsimp only)

theorem State.laneWrite_steady {s₀ s : State} (hs : Steady s₀ s) (bc : Nat) (r : LaneReg) (v : Nat) :
    Steady s₀ (State.laneWrite s bc r v) := by
  unfold State.laneWrite
  try dsimp only
  repeat' with_reducible (first | assumption | apply steadyRes_next | apply steadyOpt_none | apply steadyOpt_some | apply State.forEach_steady | apply State.when_steady | apply foldl_steady | apply foldl_fst_steady | apply foldl_snd_steady | intro _ | split | apply State.setLaneReg_steady | apply State.modLane_steady | apply State.put_steady | apply steadyOpt_get (by assumption) | apply Steady.set | apply Steady.draw | apply Steady.tell | apply Steady.purge | dsimp only)

theorem execRchStagedWrite_steady {s₀ s : State} (hs : Steady s₀ s) (bc : Fin 64) (reg : LaneReg) (value : Word) :
    SteadyRes s₀ (execRchStagedWrite bc reg value s) := by
  unfold execRchStagedWrite
  try dsimp only
  repeat' with_reducible (first | assumption | apply steadyRes_next | apply steadyOpt_none | apply steadyOpt_some | apply State.forEach_steady | apply State.when_steady | apply foldl_steady | apply foldl_fst_steady | apply foldl_snd_steady | intro _ | split | apply State.laneWrite_steady | apply steadyOpt_get (by assumption) | apply Steady.set | apply Steady.draw | apply Steady.tell | apply Steady.purge | dsimp only)

theorem State.moveVga_steady {s₀ s : State} (hs : Steady s₀ s) (bc : Nat) :
    Steady s₀ (State.moveVga s bc) := by
  unfold State.moveVga
  try dsimp only
  repeat' with_reducible (first | assumption | apply steadyRes_next | apply steadyOpt_none | apply steadyOpt_some | apply State.forEach_steady | apply State.when_steady | apply foldl_steady | apply foldl_fst_steady | apply foldl_snd_steady | intro _ | split | apply State.put_steady | apply State.setLane_steady | apply steadyOpt_get (by assumption) | apply Steady.set | apply Steady.draw | apply Steady.tell | apply Steady.purge | dsimp only)

theorem State.setCorner_steady {s₀ s : State} (hs : Steady s₀ s) (bc zone : Nat) :
    Steady s₀ (State.setCorner s bc zone) := by
  unfold State.setCorner
  try dsimp only
  repeat' with_reducible (first | assumption | apply steadyRes_next | apply steadyOpt_none | apply steadyOpt_some | apply State.forEach_steady | apply State.when_steady | apply foldl_steady | apply foldl_fst_steady | apply foldl_snd_steady | intro _ | split | apply State.modLane_steady | apply steadyOpt_get (by assumption) | apply Steady.set | apply Steady.draw | apply Steady.tell | apply Steady.purge | dsimp only)

theorem State.takeFrame_steady {s₀ s : State} (hs : Steady s₀ s) (e j : Nat) (blank : Bool) (c : LaneSetting) :
    Steady s₀ (State.takeFrame s e j blank c) := by
  unfold State.takeFrame
  try dsimp only
  repeat' with_reducible (first | assumption | apply steadyRes_next | apply steadyOpt_none | apply steadyOpt_some | apply State.forEach_steady | apply State.when_steady | apply foldl_steady | apply foldl_fst_steady | apply foldl_snd_steady | intro _ | split | apply State.modSec_steady | apply State.modWork_steady | apply State.finalSector_steady | apply State.blockNotBlank_steady | apply State.settleBlock_steady | apply steadyOpt_get (by assumption) | apply Steady.set | apply Steady.draw | apply Steady.tell | apply Steady.purge | dsimp only)

theorem execFrameStart_steady {s₀ s : State} (hs : Steady s₀ s) (bc : Fin 64) (target : Option (Fin 48 × Fin 72)) (zone : Fin 4250) (tone rate : Rat) :
    SteadyRes s₀ (execFrameStart bc target zone tone rate s) := by
  unfold execFrameStart
  try dsimp only
  repeat' with_reducible (first | assumption | apply steadyRes_next | apply steadyOpt_none | apply steadyOpt_some | apply State.forEach_steady | apply State.when_steady | apply foldl_steady | apply foldl_fst_steady | apply foldl_snd_steady | intro _ | split | apply State.setLane_steady | apply State.moveVga_steady | apply State.applyStaged_steady | apply State.showLane_steady | apply State.setCorner_steady | apply State.modLane_steady | apply State.setFlag_steady | apply State.takeFrame_steady | apply steadyOpt_get (by assumption) | apply Steady.set | apply Steady.draw | apply Steady.tell | apply Steady.purge | dsimp only)

theorem State.writeProvisional_steady {s₀ s : State} (hs : Steady s₀ s) (e j : Nat) (llrs : Array Int) :
    Steady s₀ (State.writeProvisional s e j llrs) := by
  unfold State.writeProvisional
  try dsimp only
  repeat' with_reducible (first | assumption | apply steadyRes_next | apply steadyOpt_none | apply steadyOpt_some | apply State.forEach_steady | apply State.when_steady | apply foldl_steady | apply foldl_fst_steady | apply foldl_snd_steady | intro _ | split | apply State.storeSector_steady | apply steadyOpt_get (by assumption) | apply Steady.set | apply Steady.draw | apply Steady.tell | apply Steady.purge | dsimp only)

theorem State.recordQuality_steady {s₀ s : State} (hs : Steady s₀ s) (bc : Nat) (e j : Nat) (q : Quality) :
    Steady s₀ (State.recordQuality s bc e j q) := by
  unfold State.recordQuality
  try dsimp only
  repeat' with_reducible (first | assumption | apply steadyRes_next | apply steadyOpt_none | apply steadyOpt_some | apply State.forEach_steady | apply State.when_steady | apply foldl_steady | apply foldl_fst_steady | apply foldl_snd_steady | intro _ | split | apply State.modSec_steady | apply State.modEntry_steady | apply State.applyQuality_steady | apply steadyOpt_get (by assumption) | apply Steady.set | apply Steady.draw | apply Steady.tell | apply Steady.purge | dsimp only)

theorem State.vgaAdjust_steady {s₀ s : State} (hs : Steady s₀ s) (bc : Nat) :
    Steady s₀ (State.vgaAdjust s bc) := by
  unfold State.vgaAdjust
  try dsimp only
  repeat' with_reducible (first | assumption | apply steadyRes_next | apply steadyOpt_none | apply steadyOpt_some | apply State.forEach_steady | apply State.when_steady | apply foldl_steady | apply foldl_fst_steady | apply foldl_snd_steady | intro _ | split | apply State.setLane_steady | apply State.raise_steady | apply steadyOpt_get (by assumption) | apply Steady.set | apply Steady.draw | apply Steady.tell | apply Steady.purge | dsimp only)

theorem execFrameEnd_steady {s₀ s : State} (hs : Steady s₀ s) (bc : Fin 64) (first : Int) (bits : List LaneBit) (clips : Nat) :
    SteadyRes s₀ (execFrameEnd bc first bits clips s) := by
  unfold execFrameEnd
  try dsimp only
  repeat' with_reducible (first | assumption | apply steadyRes_next | apply steadyOpt_none | apply steadyOpt_some | apply State.forEach_steady | apply State.when_steady | apply foldl_steady | apply foldl_fst_steady | apply foldl_snd_steady | intro _ | split | apply State.takeFree_steady | apply State.setLane_steady | apply State.vgaAdjust_steady | apply State.showLane_steady | apply State.recordQuality_steady | apply State.writeProvisional_steady | apply steadyOpt_get (by assumption) | apply Steady.set | apply Steady.draw | apply Steady.tell | apply Steady.purge | dsimp only)

theorem execDefectActive_steady {s₀ s : State} (hs : Steady s₀ s) (bc : Fin 64) (e1 e2 r : Rat) :
    SteadyRes s₀ (execDefectActive bc e1 e2 r s) := by
  unfold execDefectActive
  try dsimp only
  repeat' with_reducible (first | assumption | apply steadyRes_next | apply steadyOpt_none | apply steadyOpt_some | apply State.forEach_steady | apply State.when_steady | apply foldl_steady | apply foldl_fst_steady | apply foldl_snd_steady | intro _ | split | apply State.put_steady | apply State.modLane_steady | apply steadyOpt_get (by assumption) | apply Steady.set | apply Steady.draw | apply Steady.tell | apply Steady.purge | dsimp only)

theorem execDefectInactive_steady {s₀ s : State} (hs : Steady s₀ s) (bc : Fin 64) (windows : List Rat) (r : Rat) :
    SteadyRes s₀ (execDefectInactive bc windows r s) := by
  unfold execDefectInactive
  try dsimp only
  repeat' with_reducible (first | assumption | apply steadyRes_next | apply steadyOpt_none | apply steadyOpt_some | apply State.forEach_steady | apply State.when_steady | apply foldl_steady | apply foldl_fst_steady | apply foldl_snd_steady | intro _ | split | apply State.put_steady | apply steadyOpt_get (by assumption) | apply Steady.set | apply Steady.draw | apply Steady.tell | apply Steady.purge | dsimp only)

theorem execTimingLost_steady {s₀ s : State} (hs : Steady s₀ s) (bc : Fin 64) (bit : Fin 50176) (mean : Rat) :
    SteadyRes s₀ (execTimingLost bc bit mean s) := by
  unfold execTimingLost
  try dsimp only
  repeat' with_reducible (first | assumption | apply steadyRes_next | apply steadyOpt_none | apply steadyOpt_some | apply State.forEach_steady | apply State.when_steady | apply foldl_steady | apply foldl_fst_steady | apply foldl_snd_steady | intro _ | split | apply State.setLane_steady | apply State.put_steady | apply steadyOpt_get (by assumption) | apply Steady.set | apply Steady.draw | apply Steady.tell | apply Steady.purge | dsimp only)

theorem execCaptureAgeTrigger_steady {s₀ s : State} (hs : Steady s₀ s) (bc : Fin 64) (meanErr : Rat) :
    SteadyRes s₀ (execCaptureAgeTrigger bc meanErr s) := by
  unfold execCaptureAgeTrigger
  try dsimp only
  repeat' with_reducible (first | assumption | apply steadyRes_next | apply steadyOpt_none | apply steadyOpt_some | apply State.forEach_steady | apply State.when_steady | apply foldl_steady | apply foldl_fst_steady | apply foldl_snd_steady | intro _ | split | apply State.armCapture_steady | apply steadyOpt_get (by assumption) | apply Steady.set | apply Steady.draw | apply Steady.tell | apply Steady.purge | dsimp only)

theorem execFrameImageDone_steady {s₀ s : State} (hs : Steady s₀ s) (e : Fin 48) (j : Fin 72) (rows : List (List Int)) :
    SteadyRes s₀ (execFrameImageDone e j rows s) := by
  unfold execFrameImageDone
  try dsimp only
  repeat' with_reducible (first | assumption | apply steadyRes_next | apply steadyOpt_none | apply steadyOpt_some | apply State.forEach_steady | apply State.when_steady | apply foldl_steady | apply foldl_fst_steady | apply foldl_snd_steady | intro _ | split | apply State.modSec_steady | apply steadyOpt_get (by assumption) | apply Steady.set | apply Steady.draw | apply Steady.tell | apply Steady.purge | dsimp only)

theorem execLaneQualityLow_steady {s₀ s : State} (hs : Steady s₀ s) (bc : Fin 64) :
    SteadyRes s₀ (execLaneQualityLow bc s) := by
  unfold execLaneQualityLow
  try dsimp only
  repeat' with_reducible (first | assumption | apply steadyRes_next | apply steadyOpt_none | apply steadyOpt_some | apply State.forEach_steady | apply State.when_steady | apply foldl_steady | apply foldl_fst_steady | apply foldl_snd_steady | intro _ | split | apply State.raise_steady | apply steadyOpt_get (by assumption) | apply Steady.set | apply Steady.draw | apply Steady.tell | apply Steady.purge | dsimp only)

end Sys2Proof.Machine
end

