-- ==== Sys2Proof/Laws/SteadyRecording.lean ====
section
/-!
SUPPORT. What every command keeps (Safety.lean), of the operations and commands of Machine/Recording.lean.
-/
set_option Elab.async false
set_option linter.all false
namespace Sys2Proof.Machine
set_option maxRecDepth 2000

theorem State.ldd_steady {s₀ s : State} (hs : Steady s₀ s) (n type : Nat) (payload : List Nat) :
    Steady s₀ (State.ldd s n type payload) := by
  unfold State.ldd
  try dsimp only
  repeat' with_reducible (first | assumption | apply steadyRes_next | apply steadyOpt_none | apply steadyOpt_some | apply State.forEach_steady | apply State.when_steady | apply foldl_steady | apply foldl_fst_steady | apply foldl_snd_steady | intro _ | split | apply State.emit_steady | apply steadyOpt_get (by assumption) | apply Steady.set | apply Steady.draw | apply Steady.tell | apply Steady.purge | dsimp only)

theorem State.lddWrite_steady {s₀ s : State} (hs : Steady s₀ s) (n addr value : Nat) :
    Steady s₀ (State.lddWrite s n addr value) := by
  unfold State.lddWrite
  try dsimp only
  repeat' with_reducible (first | assumption | apply steadyRes_next | apply steadyOpt_none | apply steadyOpt_some | apply State.forEach_steady | apply State.when_steady | apply foldl_steady | apply foldl_fst_steady | apply foldl_snd_steady | intro _ | split | apply State.ldd_steady | apply steadyOpt_get (by assumption) | apply Steady.set | apply Steady.draw | apply Steady.tell | apply Steady.purge | dsimp only)

theorem State.modRun_steady {s₀ s : State} (hs : Steady s₀ s) (n : Nat) (f : Run → Run) :
    Steady s₀ (State.modRun s n f) := by
  unfold State.modRun
  try dsimp only
  repeat' with_reducible (first | assumption | apply steadyRes_next | apply steadyOpt_none | apply steadyOpt_some | apply State.forEach_steady | apply State.when_steady | apply foldl_steady | apply foldl_fst_steady | apply foldl_snd_steady | intro _ | split | apply State.modPuRec_steady | apply steadyOpt_get (by assumption) | apply Steady.set | apply Steady.draw | apply Steady.tell | apply Steady.purge | dsimp only)

theorem State.showGates_steady {s₀ s : State} (hs : Steady s₀ s) (n : Nat) :
    Steady s₀ (State.showGates s n) := by
  unfold State.showGates
  try dsimp only
  repeat' with_reducible (first | assumption | apply steadyRes_next | apply steadyOpt_none | apply steadyOpt_some | apply State.forEach_steady | apply State.when_steady | apply foldl_steady | apply foldl_fst_steady | apply foldl_snd_steady | intro _ | split | apply State.modPickup_steady | apply steadyOpt_get (by assumption) | apply Steady.set | apply Steady.draw | apply Steady.tell | apply Steady.purge | dsimp only)

theorem State.sendCb_steady {s₀ s : State} (hs : Steady s₀ s) (n t : Nat) (applyRate : Bool) :
    Steady s₀ (State.sendCb s n t applyRate) := by
  unfold State.sendCb
  try dsimp only
  repeat' with_reducible (first | assumption | apply steadyRes_next | apply steadyOpt_none | apply steadyOpt_some | apply State.forEach_steady | apply State.when_steady | apply foldl_steady | apply foldl_fst_steady | apply foldl_snd_steady | intro _ | split | apply State.ldd_steady | apply steadyOpt_get (by assumption) | apply Steady.set | apply Steady.draw | apply Steady.tell | apply Steady.purge | dsimp only)

theorem State.framePlayed_steady {s₀ s : State} (hs : Steady s₀ s) (n : Nat) (r : RecBlock) (j : Nat) :
    Steady s₀ (State.framePlayed s n r j) := by
  unfold State.framePlayed
  try dsimp only
  repeat' with_reducible (first | assumption | apply steadyRes_next | apply steadyOpt_none | apply steadyOpt_some | apply State.forEach_steady | apply State.when_steady | apply foldl_steady | apply foldl_fst_steady | apply foldl_snd_steady | intro _ | split | apply State.setRecBlock_steady | apply State.count_steady | apply steadyOpt_get (by assumption) | apply Steady.set | apply Steady.draw | apply Steady.tell | apply Steady.purge | dsimp only)

theorem State.advanceStream_steady {s₀ s : State} (hs : Steady s₀ s) (n t' : Nat) :
    Steady s₀ (State.advanceStream s n t') := by
  unfold State.advanceStream
  try dsimp only
  repeat' with_reducible (first | assumption | apply steadyRes_next | apply steadyOpt_none | apply steadyOpt_some | apply State.forEach_steady | apply State.when_steady | apply foldl_steady | apply foldl_fst_steady | apply foldl_snd_steady | intro _ | split | apply State.framePlayed_steady | apply State.modRun_steady | apply State.showGates_steady | apply steadyOpt_get (by assumption) | apply Steady.set | apply Steady.draw | apply Steady.tell | apply Steady.purge | dsimp only)

theorem State.cutFrames_steady {s₀ s : State} (hs : Steady s₀ s) (n : Nat) :
    Steady s₀ (State.cutFrames s n) := by
  unfold State.cutFrames
  try dsimp only
  repeat' with_reducible (first | assumption | apply steadyRes_next | apply steadyOpt_none | apply steadyOpt_some | apply State.forEach_steady | apply State.when_steady | apply foldl_steady | apply foldl_fst_steady | apply foldl_snd_steady | intro _ | split | apply State.setRecBlock_steady | apply State.count_steady | apply steadyOpt_get (by assumption) | apply Steady.set | apply Steady.draw | apply Steady.tell | apply Steady.purge | dsimp only)

theorem State.writeQuality_steady {s₀ s : State} (hs : Steady s₀ s) (r : RecBlock) (outs : Option (List Nat)) (bad : Bool) :
    Steady s₀ (State.writeQuality s r outs bad) := by
  unfold State.writeQuality
  try dsimp only
  repeat' with_reducible (first | assumption | apply steadyRes_next | apply steadyOpt_none | apply steadyOpt_some | apply State.forEach_steady | apply State.when_steady | apply foldl_steady | apply foldl_fst_steady | apply foldl_snd_steady | intro _ | split | apply State.put_steady | apply steadyOpt_get (by assumption) | apply Steady.set | apply Steady.draw | apply Steady.tell | apply Steady.purge | dsimp only)

theorem State.faultWrite_steady {s₀ s : State} (hs : Steady s₀ s) (h : Nat) :
    Steady s₀ (State.faultWrite s h) := by
  unfold State.faultWrite
  try dsimp only
  repeat' with_reducible (first | assumption | apply steadyRes_next | apply steadyOpt_none | apply steadyOpt_some | apply State.forEach_steady | apply State.when_steady | apply foldl_steady | apply foldl_fst_steady | apply foldl_snd_steady | intro _ | split | apply State.endCmd_steady | apply State.padLbas_steady | apply steadyOpt_get (by assumption) | apply Steady.set | apply Steady.draw | apply Steady.tell | apply Steady.purge | dsimp only)

theorem State.freeRecEntry_steady {s₀ s : State} (hs : Steady s₀ s) (e block : Nat) :
    Steady s₀ (State.freeRecEntry s e block) := by
  unfold State.freeRecEntry
  try dsimp only
  repeat' with_reducible (first | assumption | apply steadyRes_next | apply steadyOpt_none | apply steadyOpt_some | apply State.forEach_steady | apply State.when_steady | apply foldl_steady | apply foldl_fst_steady | apply foldl_snd_steady | intro _ | split | apply State.modCmd_steady | apply State.freeEntry_steady | apply State.ask_steady | apply steadyOpt_get (by assumption) | apply Steady.set | apply Steady.draw | apply Steady.tell | apply Steady.purge | dsimp only)

theorem State.endRecBlock_steady {s₀ s : State} (hs : Steady s₀ s) (r : RecBlock) (failed : Bool) :
    Steady s₀ (State.endRecBlock s r failed) := by
  unfold State.endRecBlock
  try dsimp only
  repeat' with_reducible (first | assumption | apply steadyRes_next | apply steadyOpt_none | apply steadyOpt_some | apply State.forEach_steady | apply State.when_steady | apply foldl_steady | apply foldl_fst_steady | apply foldl_snd_steady | intro _ | split | apply State.dropRecBlock_steady | apply State.modRun_steady | apply State.blockSettled_steady | apply State.faultWrite_steady | apply steadyOpt_get (by assumption) | apply Steady.set | apply Steady.draw | apply Steady.tell | apply Steady.purge | dsimp only)

theorem State.breakBlock_steady {s₀ s : State} (hs : Steady s₀ s) (r : RecBlock) :
    Steady s₀ (State.breakBlock s r) := by
  unfold State.breakBlock
  try dsimp only
  repeat' with_reducible (first | assumption | apply steadyRes_next | apply steadyOpt_none | apply steadyOpt_some | apply State.forEach_steady | apply State.when_steady | apply foldl_steady | apply foldl_fst_steady | apply foldl_snd_steady | intro _ | split | apply State.raise_steady | apply State.writeQuality_steady | apply State.freeRecEntry_steady | apply State.endRecBlock_steady | apply steadyOpt_get (by assumption) | apply Steady.set | apply Steady.draw | apply Steady.tell | apply Steady.purge | dsimp only)

theorem State.breakRun_steady {s₀ s : State} (hs : Steady s₀ s) (n : Nat) :
    Steady s₀ (State.breakRun s n) := by
  unfold State.breakRun
  try dsimp only
  repeat' with_reducible (first | assumption | apply steadyRes_next | apply steadyOpt_none | apply steadyOpt_some | apply State.forEach_steady | apply State.when_steady | apply foldl_steady | apply foldl_fst_steady | apply foldl_snd_steady | intro _ | split | apply State.breakBlock_steady | apply State.modRun_steady | apply State.put_steady | apply steadyOpt_get (by assumption) | apply Steady.set | apply Steady.draw | apply Steady.tell | apply Steady.purge | dsimp only)

theorem State.breakUnrecordable_steady {s₀ s : State} (hs : Steady s₀ s) :
    Steady s₀ (State.breakUnrecordable s) := by
  unfold State.breakUnrecordable
  try dsimp only
  repeat' with_reducible (first | assumption | apply steadyRes_next | apply steadyOpt_none | apply steadyOpt_some | apply State.forEach_steady | apply State.when_steady | apply foldl_steady | apply foldl_fst_steady | apply foldl_snd_steady | intro _ | split | apply State.breakBlock_steady | apply steadyOpt_get (by assumption) | apply Steady.set | apply Steady.draw | apply Steady.tell | apply Steady.purge | dsimp only)

theorem State.closeGates_steady {s₀ s : State} (hs : Steady s₀ s) (n : Nat) (cause : Option Nat) :
    Steady s₀ (State.closeGates s n cause) := by
  unfold State.closeGates
  try dsimp only
  repeat' with_reducible (first | assumption | apply steadyRes_next | apply steadyOpt_none | apply steadyOpt_some | apply State.forEach_steady | apply State.when_steady | apply foldl_steady | apply foldl_fst_steady | apply foldl_snd_steady | intro _ | split | apply State.modPickup_steady | apply State.cutFrames_steady | apply State.modRun_steady | apply State.put_steady | apply State.modPuRec_steady | apply State.raise_steady | apply State.breakBlock_steady | apply State.setRecBlock_steady | apply steadyOpt_get (by assumption) | apply Steady.set | apply Steady.draw | apply Steady.tell | apply Steady.purge | dsimp only)

theorem State.stopAtBoundary_steady {s₀ s : State} (hs : Steady s₀ s) (n : Nat) :
    Steady s₀ (State.stopAtBoundary s n) := by
  unfold State.stopAtBoundary
  try dsimp only
  repeat' with_reducible (first | assumption | apply steadyRes_next | apply steadyOpt_none | apply steadyOpt_some | apply State.forEach_steady | apply State.when_steady | apply foldl_steady | apply foldl_fst_steady | apply foldl_snd_steady | intro _ | split | apply State.framePlayed_steady | apply State.modPickup_steady | apply State.breakBlock_steady | apply State.setRecBlock_steady | apply State.modEntry_steady | apply State.modRun_steady | apply State.put_steady | apply steadyOpt_get (by assumption) | apply Steady.set | apply Steady.draw | apply Steady.tell | apply Steady.purge | dsimp only)

theorem State.takeBlock_steady {s₀ s : State} (hs : Steady s₀ s) (r : RecBlock) :
    Steady s₀ (State.takeBlock s r) := by
  unfold State.takeBlock
  try dsimp only
  repeat' with_reducible (first | assumption | apply steadyRes_next | apply steadyOpt_none | apply steadyOpt_some | apply State.forEach_steady | apply State.when_steady | apply foldl_steady | apply foldl_fst_steady | apply foldl_snd_steady | intro _ | split | apply State.setRecBlock_steady | apply State.modEntry_steady | apply State.modRun_steady | apply steadyOpt_get (by assumption) | apply Steady.set | apply Steady.draw | apply Steady.tell | apply Steady.purge | dsimp only)

theorem State.segmentStart_steady {s₀ s : State} (hs : Steady s₀ s) (n : Nat) :
    Steady s₀ (State.segmentStart s n) := by
  unfold State.segmentStart
  try dsimp only
  repeat' with_reducible (first | assumption | apply steadyRes_next | apply steadyOpt_none | apply steadyOpt_some | apply State.forEach_steady | apply State.when_steady | apply foldl_steady | apply foldl_fst_steady | apply foldl_snd_steady | intro _ | split | apply State.takeBlock_steady | apply State.modRun_steady | apply steadyOpt_get (by assumption) | apply Steady.set | apply Steady.draw | apply Steady.tell | apply Steady.purge | dsimp only)

theorem State.blockRecorded_steady {s₀ s : State} (hs : Steady s₀ s) (r0 : RecBlock) :
    Steady s₀ (State.blockRecorded s r0) := by
  unfold State.blockRecorded
  try dsimp only
  repeat' with_reducible (first | assumption | apply steadyRes_next | apply steadyOpt_none | apply steadyOpt_some | apply State.forEach_steady | apply State.when_steady | apply foldl_steady | apply foldl_fst_steady | apply foldl_snd_steady | intro _ | split | apply State.setRecBlock_steady | apply State.modRun_steady | apply State.writeQuality_steady | apply State.modEntry_steady | apply State.wakeWaiters_steady | apply State.settleEvictions_steady | apply State.modPuRec_steady | apply State.endRecBlock_steady | apply steadyOpt_get (by assumption) | apply Steady.set | apply Steady.draw | apply Steady.tell | apply Steady.purge | dsimp only)

end Sys2Proof.Machine
end

