-- ==== Sys2Proof/Laws/SteadyMotion.lean ====
section
/-!
SUPPORT. What every command keeps (Safety.lean), of the operations and commands of Machine/Motion.lean.
-/
set_option Elab.async false
set_option linter.all false
namespace Sys2Proof.Machine
set_option maxRecDepth 2000

theorem State.setMotor_steady {s₀ s : State} (hs : Steady s₀ s) (x : Nat) (m : Motor) :
    Steady s₀ (State.setMotor s x m) := by
  unfold State.setMotor
  try dsimp only
  repeat' with_reducible (first | assumption | apply steadyRes_next | apply steadyOpt_none | apply steadyOpt_some | apply State.forEach_steady | apply State.when_steady | apply foldl_steady | apply foldl_fst_steady | apply foldl_snd_steady | intro _ | split | apply State.put_steady | apply steadyOpt_get (by assumption) | apply Steady.set | apply Steady.draw | apply Steady.tell | apply Steady.purge | dsimp only)

theorem State.modMotor_steady {s₀ s : State} (hs : Steady s₀ s) (x : Nat) (f : Motor → Motor) :
    Steady s₀ (State.modMotor s x f) := by
  unfold State.modMotor
  try dsimp only
  repeat' with_reducible (first | assumption | apply steadyRes_next | apply steadyOpt_none | apply steadyOpt_some | apply State.forEach_steady | apply State.when_steady | apply foldl_steady | apply foldl_fst_steady | apply foldl_snd_steady | intro _ | split | apply State.setMotor_steady | apply steadyOpt_get (by assumption) | apply Steady.set | apply Steady.draw | apply Steady.tell | apply Steady.purge | dsimp only)

theorem State.setGroup_steady {s₀ s : State} (hs : Steady s₀ s) (g : Nat) (y : Group) :
    Steady s₀ (State.setGroup s g y) := by
  unfold State.setGroup
  try dsimp only
  repeat' with_reducible (first | assumption | apply steadyRes_next | apply steadyOpt_none | apply steadyOpt_some | apply State.forEach_steady | apply State.when_steady | apply foldl_steady | apply foldl_fst_steady | apply foldl_snd_steady | intro _ | split | apply State.put_steady | apply steadyOpt_get (by assumption) | apply Steady.set | apply Steady.draw | apply Steady.tell | apply Steady.purge | dsimp only)

theorem State.modGroup_steady {s₀ s : State} (hs : Steady s₀ s) (g : Nat) (f : Group → Group) :
    Steady s₀ (State.modGroup s g f) := by
  unfold State.modGroup
  try dsimp only
  repeat' with_reducible (first | assumption | apply steadyRes_next | apply steadyOpt_none | apply steadyOpt_some | apply State.forEach_steady | apply State.when_steady | apply foldl_steady | apply foldl_fst_steady | apply foldl_snd_steady | intro _ | split | apply State.setGroup_steady | apply steadyOpt_get (by assumption) | apply Steady.set | apply Steady.draw | apply Steady.tell | apply Steady.purge | dsimp only)

theorem State.setSpindle_steady {s₀ s : State} (hs : Steady s₀ s) (st : Nat) (x : Spindle) :
    Steady s₀ (State.setSpindle s st x) := by
  unfold State.setSpindle
  try dsimp only
  repeat' with_reducible (first | assumption | apply steadyRes_next | apply steadyOpt_none | apply steadyOpt_some | apply State.forEach_steady | apply State.when_steady | apply foldl_steady | apply foldl_fst_steady | apply foldl_snd_steady | intro _ | split | apply State.put_steady | apply steadyOpt_get (by assumption) | apply Steady.set | apply Steady.draw | apply Steady.tell | apply Steady.purge | dsimp only)

theorem State.modSpindle_steady {s₀ s : State} (hs : Steady s₀ s) (st : Nat) (f : Spindle → Spindle) :
    Steady s₀ (State.modSpindle s st f) := by
  unfold State.modSpindle
  try dsimp only
  repeat' with_reducible (first | assumption | apply steadyRes_next | apply steadyOpt_none | apply steadyOpt_some | apply State.forEach_steady | apply State.when_steady | apply foldl_steady | apply foldl_fst_steady | apply foldl_snd_steady | intro _ | split | apply State.setSpindle_steady | apply steadyOpt_get (by assumption) | apply Steady.set | apply Steady.draw | apply Steady.tell | apply Steady.purge | dsimp only)

theorem State.showMotor_steady {s₀ s : State} (hs : Steady s₀ s) (x : Nat) :
    Steady s₀ (State.showMotor s x) := by
  unfold State.showMotor
  try dsimp only
  repeat' with_reducible (first | assumption | apply steadyRes_next | apply steadyOpt_none | apply steadyOpt_some | apply State.forEach_steady | apply State.when_steady | apply foldl_steady | apply foldl_fst_steady | apply foldl_snd_steady | intro _ | split | apply State.put_steady | apply steadyOpt_get (by assumption) | apply Steady.set | apply Steady.draw | apply Steady.tell | apply Steady.purge | dsimp only)

theorem State.motorEvent_steady {s₀ s : State} (hs : Steady s₀ s) (code x : Nat) :
    Steady s₀ (State.motorEvent s code x) := by
  unfold State.motorEvent
  try dsimp only
  repeat' with_reducible (first | assumption | apply steadyRes_next | apply steadyOpt_none | apply steadyOpt_some | apply State.forEach_steady | apply State.when_steady | apply foldl_steady | apply foldl_fst_steady | apply foldl_snd_steady | intro _ | split | apply State.post_steady | apply steadyOpt_get (by assumption) | apply Steady.set | apply Steady.draw | apply Steady.tell | apply Steady.purge | dsimp only)

theorem State.raiseMotor_steady {s₀ s : State} (hs : Steady s₀ s) (f : Fld) (code x : Nat) :
    Steady s₀ (State.raiseMotor s f code x) := by
  unfold State.raiseMotor
  try dsimp only
  repeat' with_reducible (first | assumption | apply steadyRes_next | apply steadyOpt_none | apply steadyOpt_some | apply State.forEach_steady | apply State.when_steady | apply foldl_steady | apply foldl_fst_steady | apply foldl_snd_steady | intro _ | split | apply State.raise_steady | apply steadyOpt_get (by assumption) | apply Steady.set | apply Steady.draw | apply Steady.tell | apply Steady.purge | dsimp only)

theorem State.endMove_steady {s₀ s : State} (hs : Steady s₀ s) (h : Option Nat) (fault : Bool) :
    Steady s₀ (State.endMove s h fault) := by
  unfold State.endMove
  try dsimp only
  repeat' with_reducible (first | assumption | apply steadyRes_next | apply steadyOpt_none | apply steadyOpt_some | apply State.forEach_steady | apply State.when_steady | apply foldl_steady | apply foldl_fst_steady | apply foldl_snd_steady | intro _ | split | apply State.finish_steady | apply steadyOpt_get (by assumption) | apply Steady.set | apply Steady.draw | apply Steady.tell | apply Steady.purge | dsimp only)

theorem State.motorRest_steady {s₀ s : State} (hs : Steady s₀ s) (x : Nat) :
    Steady s₀ (State.motorRest s x) := by
  unfold State.motorRest
  try dsimp only
  repeat' with_reducible (first | assumption | apply steadyRes_next | apply steadyOpt_none | apply steadyOpt_some | apply State.forEach_steady | apply State.when_steady | apply foldl_steady | apply foldl_fst_steady | apply foldl_snd_steady | intro _ | split | apply State.setMotor_steady | apply State.put_steady | apply State.endMove_steady | apply steadyOpt_get (by assumption) | apply Steady.set | apply Steady.draw | apply Steady.tell | apply Steady.purge | dsimp only)

theorem State.stopMotor_steady {s₀ s : State} (hs : Steady s₀ s) (x dec : Nat) (fault : Bool) :
    Steady s₀ (State.stopMotor s x dec fault) := by
  unfold State.stopMotor
  try dsimp only
  repeat' with_reducible (first | assumption | apply steadyRes_next | apply steadyOpt_none | apply steadyOpt_some | apply State.forEach_steady | apply State.when_steady | apply foldl_steady | apply foldl_fst_steady | apply foldl_snd_steady | intro _ | split | apply State.put_steady | apply State.motorRest_steady | apply State.setMotor_steady | apply State.showMotor_steady | apply steadyOpt_get (by assumption) | apply Steady.set | apply Steady.draw | apply Steady.tell | apply Steady.purge | dsimp only)

theorem State.brakeGroup_steady {s₀ s : State} (hs : Steady s₀ s) (g : Nat) (dec : Rat) (fault : Bool) :
    Steady s₀ (State.brakeGroup s g dec fault) := by
  unfold State.brakeGroup
  try dsimp only
  repeat' with_reducible (first | assumption | apply steadyRes_next | apply steadyOpt_none | apply steadyOpt_some | apply State.forEach_steady | apply State.when_steady | apply foldl_steady | apply foldl_fst_steady | apply foldl_snd_steady | intro _ | split | apply State.setGroup_steady | apply steadyOpt_get (by assumption) | apply Steady.set | apply Steady.draw | apply Steady.tell | apply Steady.purge | dsimp only)

theorem State.groupFault_steady {s₀ s : State} (hs : Steady s₀ s) (g : Nat) :
    Steady s₀ (State.groupFault s g) := by
  unfold State.groupFault
  try dsimp only
  repeat' with_reducible (first | assumption | apply steadyRes_next | apply steadyOpt_none | apply steadyOpt_some | apply State.forEach_steady | apply State.when_steady | apply foldl_steady | apply foldl_fst_steady | apply foldl_snd_steady | intro _ | split | apply State.brakeGroup_steady | apply State.raise_steady | apply State.modGroup_steady | apply State.put_steady | apply State.finish_steady | apply steadyOpt_get (by assumption) | apply Steady.set | apply Steady.draw | apply Steady.tell | apply Steady.purge | dsimp only)

theorem State.groupRest_steady {s₀ s : State} (hs : Steady s₀ s) (g : Nat) :
    Steady s₀ (State.groupRest s g) := by
  unfold State.groupRest
  try dsimp only
  repeat' with_reducible (first | assumption | apply steadyRes_next | apply steadyOpt_none | apply steadyOpt_some | apply State.forEach_steady | apply State.when_steady | apply foldl_steady | apply foldl_fst_steady | apply foldl_snd_steady | intro _ | split | apply State.setGroup_steady | apply State.put_steady | apply State.endMove_steady | apply steadyOpt_get (by assumption) | apply Steady.set | apply Steady.draw | apply Steady.tell | apply Steady.purge | dsimp only)

theorem State.beginLine_steady {s₀ s : State} (hs : Steady s₀ s) (g : Nat) (members : List Nat) (targets : List Int) (feed : Option Nat) (v : Rat) (h : Option Nat) :
    Steady s₀ (State.beginLine s g members targets feed v h) := by
  unfold State.beginLine
  try dsimp only
  repeat' with_reducible (first | assumption | apply steadyRes_next | apply steadyOpt_none | apply steadyOpt_some | apply State.forEach_steady | apply State.when_steady | apply foldl_steady | apply foldl_fst_steady | apply foldl_snd_steady | intro _ | split | apply State.setGroup_steady | apply State.groupRest_steady | apply steadyOpt_get (by assumption) | apply Steady.set | apply Steady.draw | apply Steady.tell | apply Steady.purge | dsimp only)

theorem State.nextSegment_steady {s₀ s : State} (hs : Steady s₀ s) (g : Nat) (v : Rat) :
    Steady s₀ (State.nextSegment s g v) := by
  unfold State.nextSegment
  try dsimp only
  repeat' with_reducible (first | assumption | apply steadyRes_next | apply steadyOpt_none | apply steadyOpt_some | apply State.forEach_steady | apply State.when_steady | apply foldl_steady | apply foldl_fst_steady | apply foldl_snd_steady | intro _ | split | apply State.setGroup_steady | apply State.put_steady | apply State.beginLine_steady | apply steadyOpt_get (by assumption) | apply Steady.set | apply Steady.draw | apply Steady.tell | apply Steady.purge | dsimp only)

theorem State.admitSegments_steady {s₀ s : State} (hs : Steady s₀ s) (g : Nat) :
    Steady s₀ (State.admitSegments s g) := by
  unfold State.admitSegments
  try dsimp only
  repeat' with_reducible (first | assumption | apply steadyRes_next | apply steadyOpt_none | apply steadyOpt_some | apply State.forEach_steady | apply State.when_steady | apply foldl_steady | apply foldl_fst_steady | apply foldl_snd_steady | intro _ | split | apply State.setGroup_steady | apply State.put_steady | apply State.finish_steady | apply steadyOpt_get (by assumption) | apply Steady.set | apply Steady.draw | apply Steady.tell | apply Steady.purge | dsimp only)

theorem State.groupTick_steady {s₀ s : State} (hs : Steady s₀ s) (g : Nat) :
    Steady s₀ (State.groupTick s g) := by
  unfold State.groupTick
  try dsimp only
  repeat' with_reducible (first | assumption | apply steadyRes_next | apply steadyOpt_none | apply steadyOpt_some | apply State.forEach_steady | apply State.when_steady | apply foldl_steady | apply foldl_fst_steady | apply foldl_snd_steady | intro _ | split | apply State.nextSegment_steady | apply State.admitSegments_steady | apply State.setGroup_steady | apply State.modMotor_steady | apply State.showMotor_steady | apply State.groupRest_steady | apply State.raise_steady | apply steadyOpt_get (by assumption) | apply Steady.set | apply Steady.draw | apply Steady.tell | apply Steady.purge | dsimp only)

theorem State.faultAxis_steady {s₀ s : State} (hs : Steady s₀ s) (m : Nat) :
    Steady s₀ (State.faultAxis s m) := by
  unfold State.faultAxis
  try dsimp only
  repeat' with_reducible (first | assumption | apply steadyRes_next | apply steadyOpt_none | apply steadyOpt_some | apply State.forEach_steady | apply State.when_steady | apply foldl_steady | apply foldl_fst_steady | apply foldl_snd_steady | intro _ | split | apply State.groupFault_steady | apply State.stopMotor_steady | apply steadyOpt_get (by assumption) | apply Steady.set | apply Steady.draw | apply Steady.tell | apply Steady.purge | dsimp only)

theorem State.setHome_steady {s₀ s : State} (hs : Steady s₀ s) (m v : Nat) :
    Steady s₀ (State.setHome s m v) := by
  unfold State.setHome
  try dsimp only
  repeat' with_reducible (first | assumption | apply steadyRes_next | apply steadyOpt_none | apply steadyOpt_some | apply State.forEach_steady | apply State.when_steady | apply foldl_steady | apply foldl_fst_steady | apply foldl_snd_steady | intro _ | split | apply State.put_steady | apply steadyOpt_get (by assumption) | apply Steady.set | apply Steady.draw | apply Steady.tell | apply Steady.purge | dsimp only)

theorem State.homingFault_steady {s₀ s : State} (hs : Steady s₀ s) (m : Nat) (dec : Option Nat) :
    Steady s₀ (State.homingFault s m dec) := by
  unfold State.homingFault
  try dsimp only
  repeat' with_reducible (first | assumption | apply steadyRes_next | apply steadyOpt_none | apply steadyOpt_some | apply State.forEach_steady | apply State.when_steady | apply foldl_steady | apply foldl_fst_steady | apply foldl_snd_steady | intro _ | split | apply State.setHome_steady | apply State.raiseMotor_steady | apply State.stopMotor_steady | apply State.modMotor_steady | apply State.motorRest_steady | apply steadyOpt_get (by assumption) | apply Steady.set | apply Steady.draw | apply Steady.tell | apply Steady.purge | dsimp only)

theorem State.runMotor_steady {s₀ s : State} (hs : Steady s₀ s) (x : Nat) (target : Option Int) (dir : Int) (vmax : Option Nat) :
    Steady s₀ (State.runMotor s x target dir vmax) := by
  unfold State.runMotor
  try dsimp only
  repeat' with_reducible (first | assumption | apply steadyRes_next | apply steadyOpt_none | apply steadyOpt_some | apply State.forEach_steady | apply State.when_steady | apply foldl_steady | apply foldl_fst_steady | apply foldl_snd_steady | intro _ | split | apply State.setMotor_steady | apply State.showMotor_steady | apply steadyOpt_get (by assumption) | apply Steady.set | apply Steady.draw | apply Steady.tell | apply Steady.purge | dsimp only)

theorem State.homeTick_steady {s₀ s : State} (hs : Steady s₀ s) (m : Nat) :
    Steady s₀ (State.homeTick s m) := by
  unfold State.homeTick
  try dsimp only
  repeat' with_reducible (first | assumption | apply steadyRes_next | apply steadyOpt_none | apply steadyOpt_some | apply State.forEach_steady | apply State.when_steady | apply foldl_steady | apply foldl_fst_steady | apply foldl_snd_steady | intro _ | split | apply State.homingFault_steady | apply State.setHome_steady | apply State.runMotor_steady | apply State.modMotor_steady | apply State.raiseMotor_steady | apply State.endMove_steady | apply steadyOpt_get (by assumption) | apply Steady.set | apply Steady.draw | apply Steady.tell | apply Steady.purge | dsimp only)

theorem State.restHoming_steady {s₀ s : State} (hs : Steady s₀ s) (x : Nat) :
    Steady s₀ (State.restHoming s x) := by
  unfold State.restHoming
  try dsimp only
  repeat' with_reducible (first | assumption | apply steadyRes_next | apply steadyOpt_none | apply steadyOpt_some | apply State.forEach_steady | apply State.when_steady | apply foldl_steady | apply foldl_fst_steady | apply foldl_snd_steady | intro _ | split | apply State.setMotor_steady | apply State.put_steady | apply steadyOpt_get (by assumption) | apply Steady.set | apply Steady.draw | apply Steady.tell | apply Steady.purge | dsimp only)

theorem State.nudge_steady {s₀ s : State} (hs : Steady s₀ s) (x : Nat) (d : Int) :
    Steady s₀ (State.nudge s x d) := by
  unfold State.nudge
  try dsimp only
  repeat' with_reducible (first | assumption | apply steadyRes_next | apply steadyOpt_none | apply steadyOpt_some | apply State.forEach_steady | apply State.when_steady | apply foldl_steady | apply foldl_fst_steady | apply foldl_snd_steady | intro _ | split | apply State.setMotor_steady | apply State.showMotor_steady | apply State.raiseMotor_steady | apply steadyOpt_get (by assumption) | apply Steady.set | apply Steady.draw | apply Steady.tell | apply Steady.purge | dsimp only)

theorem State.gearCounts_steady {s₀ s : State} (hs : Steady s₀ s) (x : Nat) (before n : Int) :
    Steady s₀ (State.gearCounts s x before n) := by
  unfold State.gearCounts
  try dsimp only
  repeat' with_reducible (first | assumption | apply steadyRes_next | apply steadyOpt_none | apply steadyOpt_some | apply State.forEach_steady | apply State.when_steady | apply foldl_steady | apply foldl_fst_steady | apply foldl_snd_steady | intro _ | split | apply State.nudge_steady | apply State.setMotor_steady | apply steadyOpt_get (by assumption) | apply Steady.set | apply Steady.draw | apply Steady.tell | apply Steady.purge | dsimp only)

theorem State.followAngle_steady {s₀ s : State} (hs : Steady s₀ s) (st angle : Nat) :
    Steady s₀ (State.followAngle s st angle) := by
  unfold State.followAngle
  try dsimp only
  repeat' with_reducible (first | assumption | apply steadyRes_next | apply steadyOpt_none | apply steadyOpt_some | apply State.forEach_steady | apply State.when_steady | apply foldl_steady | apply foldl_fst_steady | apply foldl_snd_steady | intro _ | split | apply State.put_steady | apply State.setSpindle_steady | apply State.gearCounts_steady | apply steadyOpt_get (by assumption) | apply Steady.set | apply Steady.draw | apply Steady.tell | apply Steady.purge | dsimp only)

theorem State.advanceAngle_steady {s₀ s : State} (hs : Steady s₀ s) (st : Nat) :
    Steady s₀ (State.advanceAngle s st) := by
  unfold State.advanceAngle
  try dsimp only
  repeat' with_reducible (first | assumption | apply steadyRes_next | apply steadyOpt_none | apply steadyOpt_some | apply State.forEach_steady | apply State.when_steady | apply foldl_steady | apply foldl_fst_steady | apply foldl_snd_steady | intro _ | split | apply State.followAngle_steady | apply steadyOpt_get (by assumption) | apply Steady.set | apply Steady.draw | apply Steady.tell | apply Steady.purge | dsimp only)

theorem State.deliverRequest_steady {s₀ s : State} (hs : Steady s₀ s) (x : Nat) :
    Steady s₀ (State.deliverRequest s x) := by
  unfold State.deliverRequest
  try dsimp only
  repeat' with_reducible (first | assumption | apply steadyRes_next | apply steadyOpt_none | apply steadyOpt_some | apply State.forEach_steady | apply State.when_steady | apply foldl_steady | apply foldl_fst_steady | apply foldl_snd_steady | intro _ | split | apply State.setMotor_steady | apply State.nudge_steady | apply steadyOpt_get (by assumption) | apply Steady.set | apply Steady.draw | apply Steady.tell | apply Steady.purge | dsimp only)

theorem State.motorStep_steady {s₀ s : State} (hs : Steady s₀ s) (x : Nat) :
    Steady s₀ (State.motorStep s x) := by
  unfold State.motorStep
  try dsimp only
  repeat' with_reducible (first | assumption | apply steadyRes_next | apply steadyOpt_none | apply steadyOpt_some | apply State.forEach_steady | apply State.when_steady | apply foldl_steady | apply foldl_fst_steady | apply foldl_snd_steady | intro _ | split | apply State.setMotor_steady | apply State.showMotor_steady | apply State.restHoming_steady | apply State.motorRest_steady | apply steadyOpt_get (by assumption) | apply Steady.set | apply Steady.draw | apply Steady.tell | apply Steady.purge | dsimp only)

theorem State.emitSteps_steady {s₀ s : State} (hs : Steady s₀ s) (x : Nat) :
    Steady s₀ (State.emitSteps s x) := by
  unfold State.emitSteps
  try dsimp only
  repeat' with_reducible (first | assumption | apply steadyRes_next | apply steadyOpt_none | apply steadyOpt_some | apply State.forEach_steady | apply State.when_steady | apply foldl_steady | apply foldl_fst_steady | apply foldl_snd_steady | intro _ | split | apply State.setMotor_steady | apply State.put_steady | apply steadyOpt_get (by assumption) | apply Steady.set | apply Steady.draw | apply Steady.tell | apply Steady.purge | dsimp only)

theorem State.followCheck_steady {s₀ s : State} (hs : Steady s₀ s) (m : Nat) :
    Steady s₀ (State.followCheck s m) := by
  unfold State.followCheck
  try dsimp only
  repeat' with_reducible (first | assumption | apply steadyRes_next | apply steadyOpt_none | apply steadyOpt_some | apply State.forEach_steady | apply State.when_steady | apply foldl_steady | apply foldl_fst_steady | apply foldl_snd_steady | intro _ | split | apply State.raiseMotor_steady | apply State.faultAxis_steady | apply steadyOpt_get (by assumption) | apply Steady.set | apply Steady.draw | apply Steady.tell | apply Steady.purge | dsimp only)

theorem execProfileTick_steady {s₀ s : State} (hs : Steady s₀ s) :
    SteadyRes s₀ (execProfileTick s) := by
  unfold execProfileTick
  try dsimp only
  repeat' with_reducible (first | assumption | apply steadyRes_next | apply steadyOpt_none | apply steadyOpt_some | apply State.forEach_steady | apply State.when_steady | apply foldl_steady | apply foldl_fst_steady | apply foldl_snd_steady | intro _ | split | apply State.advanceAngle_steady | apply State.followCheck_steady | apply State.deliverRequest_steady | apply State.motorStep_steady | apply State.homeTick_steady | apply State.groupTick_steady | apply State.emitSteps_steady | apply steadyOpt_get (by assumption) | apply Steady.set | apply Steady.draw | apply Steady.tell | apply Steady.purge | dsimp only)

theorem State.rejectMotor_steady {s₀ s : State} (hs : Steady s₀ s) (x : Nat) :
    Steady s₀ (State.rejectMotor s x) := by
  unfold State.rejectMotor
  try dsimp only
  repeat' with_reducible (first | assumption | apply steadyRes_next | apply steadyOpt_none | apply steadyOpt_some | apply State.forEach_steady | apply State.when_steady | apply foldl_steady | apply foldl_fst_steady | apply foldl_snd_steady | intro _ | split | apply State.put_steady | apply steadyOpt_get (by assumption) | apply Steady.set | apply Steady.draw | apply Steady.tell | apply Steady.purge | dsimp only)

theorem State.startMotor_steady {s₀ s : State} (hs : Steady s₀ s) (x : Nat) (h : Option Nat) :
    Steady s₀ (State.startMotor s x h) := by
  unfold State.startMotor
  try dsimp only
  repeat' with_reducible (first | assumption | apply steadyRes_next | apply steadyOpt_none | apply steadyOpt_some | apply State.forEach_steady | apply State.when_steady | apply foldl_steady | apply foldl_fst_steady | apply foldl_snd_steady | intro _ | split | apply State.modMotor_steady | apply State.runMotor_steady | apply State.motorRest_steady | apply State.showMotor_steady | apply State.rejectMotor_steady | apply State.endMove_steady | apply steadyOpt_get (by assumption) | apply Steady.set | apply Steady.draw | apply Steady.tell | apply Steady.purge | dsimp only)

theorem execMotorStart_steady {s₀ s : State} (hs : Steady s₀ s) (x : Fin 28) :
    SteadyRes s₀ (execMotorStart x s) := by
  unfold execMotorStart
  try dsimp only
  repeat' with_reducible (first | assumption | apply steadyRes_next | apply steadyOpt_none | apply steadyOpt_some | apply State.forEach_steady | apply State.when_steady | apply foldl_steady | apply foldl_fst_steady | apply foldl_snd_steady | intro _ | split | apply State.startMotor_steady | apply steadyOpt_get (by assumption) | apply Steady.set | apply Steady.draw | apply Steady.tell | apply Steady.purge | dsimp only)

theorem State.rappel_steady {s₀ s : State} (hs : Steady s₀ s) (x dec : Nat) :
    Steady s₀ (State.rappel s x dec) := by
  unfold State.rappel
  try dsimp only
  repeat' with_reducible (first | assumption | apply steadyRes_next | apply steadyOpt_none | apply steadyOpt_some | apply State.forEach_steady | apply State.when_steady | apply foldl_steady | apply foldl_fst_steady | apply foldl_snd_steady | intro _ | split | apply State.brakeGroup_steady | apply State.stopMotor_steady | apply steadyOpt_get (by assumption) | apply Steady.set | apply Steady.draw | apply Steady.tell | apply Steady.purge | dsimp only)

theorem execMotorRappel_steady {s₀ s : State} (hs : Steady s₀ s) (x : Fin 28) :
    SteadyRes s₀ (execMotorRappel x s) := by
  unfold execMotorRappel
  try dsimp only
  repeat' with_reducible (first | assumption | apply steadyRes_next | apply steadyOpt_none | apply steadyOpt_some | apply State.forEach_steady | apply State.when_steady | apply foldl_steady | apply foldl_fst_steady | apply foldl_snd_steady | intro _ | split | apply State.rappel_steady | apply steadyOpt_get (by assumption) | apply Steady.set | apply Steady.draw | apply Steady.tell | apply Steady.purge | dsimp only)

theorem execMotorEmergency_steady {s₀ s : State} (hs : Steady s₀ s) (x : Fin 28) :
    SteadyRes s₀ (execMotorEmergency x s) := by
  unfold execMotorEmergency
  try dsimp only
  repeat' with_reducible (first | assumption | apply steadyRes_next | apply steadyOpt_none | apply steadyOpt_some | apply State.forEach_steady | apply State.when_steady | apply foldl_steady | apply foldl_fst_steady | apply foldl_snd_steady | intro _ | split | apply State.rappel_steady | apply steadyOpt_get (by assumption) | apply Steady.set | apply Steady.draw | apply Steady.tell | apply Steady.purge | dsimp only)

theorem State.startHoming_steady {s₀ s : State} (hs : Steady s₀ s) (m : Nat) (h : Option Nat) :
    Steady s₀ (State.startHoming s m h) := by
  unfold State.startHoming
  try dsimp only
  repeat' with_reducible (first | assumption | apply steadyRes_next | apply steadyOpt_none | apply steadyOpt_some | apply State.forEach_steady | apply State.when_steady | apply foldl_steady | apply foldl_fst_steady | apply foldl_snd_steady | intro _ | split | apply State.setHome_steady | apply State.modMotor_steady | apply State.runMotor_steady | apply State.rejectMotor_steady | apply State.endMove_steady | apply steadyOpt_get (by assumption) | apply Steady.set | apply Steady.draw | apply Steady.tell | apply Steady.purge | dsimp only)

theorem execMotorHome_steady {s₀ s : State} (hs : Steady s₀ s) (m : Fin 12) :
    SteadyRes s₀ (execMotorHome m s) := by
  unfold execMotorHome
  try dsimp only
  repeat' with_reducible (first | assumption | apply steadyRes_next | apply steadyOpt_none | apply steadyOpt_some | apply State.forEach_steady | apply State.when_steady | apply foldl_steady | apply foldl_fst_steady | apply foldl_snd_steady | intro _ | split | apply State.startHoming_steady | apply steadyOpt_get (by assumption) | apply Steady.set | apply Steady.draw | apply Steady.tell | apply Steady.purge | dsimp only)

theorem execMotorTargetWrite_steady {s₀ s : State} (hs : Steady s₀ s) (x : Fin 28) (value : Word) :
    SteadyRes s₀ (execMotorTargetWrite x value s) := by
  unfold execMotorTargetWrite
  try dsimp only
  repeat' with_reducible (first | assumption | apply steadyRes_next | apply steadyOpt_none | apply steadyOpt_some | apply State.forEach_steady | apply State.when_steady | apply foldl_steady | apply foldl_fst_steady | apply foldl_snd_steady | intro _ | split | apply State.put_steady | apply State.setMotor_steady | apply State.rejectMotor_steady | apply steadyOpt_get (by assumption) | apply Steady.set | apply Steady.draw | apply Steady.tell | apply Steady.purge | dsimp only)

theorem execMotorSpeedWrite_steady {s₀ s : State} (hs : Steady s₀ s) (x : Fin 28) (acc : Bool) (value : Word) :
    SteadyRes s₀ (execMotorSpeedWrite x acc value s) := by
  unfold execMotorSpeedWrite
  try dsimp only
  repeat' with_reducible (first | assumption | apply steadyRes_next | apply steadyOpt_none | apply steadyOpt_some | apply State.forEach_steady | apply State.when_steady | apply foldl_steady | apply foldl_fst_steady | apply foldl_snd_steady | intro _ | split | apply State.put_steady | apply State.setMotor_steady | apply State.showMotor_steady | apply steadyOpt_get (by assumption) | apply Steady.set | apply Steady.draw | apply Steady.tell | apply Steady.purge | dsimp only)

theorem execMotorDecWrite_steady {s₀ s : State} (hs : Steady s₀ s) (x : Fin 28) (value : Word) :
    SteadyRes s₀ (execMotorDecWrite x value s) := by
  unfold execMotorDecWrite
  try dsimp only
  repeat' with_reducible (first | assumption | apply steadyRes_next | apply steadyOpt_none | apply steadyOpt_some | apply State.forEach_steady | apply State.when_steady | apply foldl_steady | apply foldl_fst_steady | apply foldl_snd_steady | intro _ | split | apply State.put_steady | apply State.setMotor_steady | apply State.raiseMotor_steady | apply steadyOpt_get (by assumption) | apply Steady.set | apply Steady.draw | apply Steady.tell | apply Steady.purge | dsimp only)

theorem execMotorPosSet_steady {s₀ s : State} (hs : Steady s₀ s) (x : Fin 28) (value : Word) :
    SteadyRes s₀ (execMotorPosSet x value s) := by
  unfold execMotorPosSet
  try dsimp only
  repeat' with_reducible (first | assumption | apply steadyRes_next | apply steadyOpt_none | apply steadyOpt_some | apply State.forEach_steady | apply State.when_steady | apply foldl_steady | apply foldl_fst_steady | apply foldl_snd_steady | intro _ | split | apply State.rejectMotor_steady | apply State.setMotor_steady | apply State.showMotor_steady | apply steadyOpt_get (by assumption) | apply Steady.set | apply Steady.draw | apply Steady.tell | apply Steady.purge | dsimp only)

theorem State.setGear_steady {s₀ s : State} (hs : Steady s₀ s) (x : Nat) (on : Bool) :
    Steady s₀ (State.setGear s x on) := by
  unfold State.setGear
  try dsimp only
  repeat' with_reducible (first | assumption | apply steadyRes_next | apply steadyOpt_none | apply steadyOpt_some | apply State.forEach_steady | apply State.when_steady | apply foldl_steady | apply foldl_fst_steady | apply foldl_snd_steady | intro _ | split | apply State.rejectMotor_steady | apply State.setFlag_steady | apply State.modMotor_steady | apply steadyOpt_get (by assumption) | apply Steady.set | apply Steady.draw | apply Steady.tell | apply Steady.purge | dsimp only)

theorem execGearEngage_steady {s₀ s : State} (hs : Steady s₀ s) (x : Fin 16) (on : Bool) :
    SteadyRes s₀ (execGearEngage x on s) := by
  unfold execGearEngage
  try dsimp only
  repeat' with_reducible (first | assumption | apply steadyRes_next | apply steadyOpt_none | apply steadyOpt_some | apply State.forEach_steady | apply State.when_steady | apply foldl_steady | apply foldl_fst_steady | apply foldl_snd_steady | intro _ | split | apply State.setGear_steady | apply steadyOpt_get (by assumption) | apply Steady.set | apply Steady.draw | apply Steady.tell | apply Steady.purge | dsimp only)

theorem State.changeGear_steady {s₀ s : State} (hs : Steady s₀ s) (x : Nat) :
    Steady s₀ (State.changeGear s x) := by
  unfold State.changeGear
  try dsimp only
  repeat' with_reducible (first | assumption | apply steadyRes_next | apply steadyOpt_none | apply steadyOpt_some | apply State.forEach_steady | apply State.when_steady | apply foldl_steady | apply foldl_fst_steady | apply foldl_snd_steady | intro _ | split | apply State.put_steady | apply State.setMotor_steady | apply State.nudge_steady | apply steadyOpt_get (by assumption) | apply Steady.set | apply Steady.draw | apply Steady.tell | apply Steady.purge | dsimp only)

theorem State.armGear_steady {s₀ s : State} (hs : Steady s₀ s) (x : Nat) :
    Steady s₀ (State.armGear s x) := by
  unfold State.armGear
  try dsimp only
  repeat' with_reducible (first | assumption | apply steadyRes_next | apply steadyOpt_none | apply steadyOpt_some | apply State.forEach_steady | apply State.when_steady | apply foldl_steady | apply foldl_fst_steady | apply foldl_snd_steady | intro _ | split | apply State.put_steady | apply State.modMotor_steady | apply State.changeGear_steady | apply State.raiseMotor_steady | apply steadyOpt_get (by assumption) | apply Steady.set | apply Steady.draw | apply Steady.tell | apply Steady.purge | dsimp only)

theorem execGearArm_steady {s₀ s : State} (hs : Steady s₀ s) (x : Fin 16) :
    SteadyRes s₀ (execGearArm x s) := by
  unfold execGearArm
  try dsimp only
  repeat' with_reducible (first | assumption | apply steadyRes_next | apply steadyOpt_none | apply steadyOpt_some | apply State.forEach_steady | apply State.when_steady | apply foldl_steady | apply foldl_fst_steady | apply foldl_snd_steady | intro _ | split | apply State.armGear_steady | apply steadyOpt_get (by assumption) | apply Steady.set | apply Steady.draw | apply Steady.tell | apply Steady.purge | dsimp only)

theorem execGearChange_steady {s₀ s : State} (hs : Steady s₀ s) (x : Fin 16) :
    SteadyRes s₀ (execGearChange x s) := by
  unfold execGearChange
  try dsimp only
  repeat' with_reducible (first | assumption | apply steadyRes_next | apply steadyOpt_none | apply steadyOpt_some | apply State.forEach_steady | apply State.when_steady | apply foldl_steady | apply foldl_fst_steady | apply foldl_snd_steady | intro _ | split | apply State.changeGear_steady | apply steadyOpt_get (by assumption) | apply Steady.set | apply Steady.draw | apply Steady.tell | apply Steady.purge | dsimp only)

theorem execGroupMembersWrite_steady {s₀ s : State} (hs : Steady s₀ s) (g : Fin 3) (members : BitVec 32) :
    SteadyRes s₀ (execGroupMembersWrite g members s) := by
  unfold execGroupMembersWrite
  try dsimp only
  repeat' with_reducible (first | assumption | apply steadyRes_next | apply steadyOpt_none | apply steadyOpt_some | apply State.forEach_steady | apply State.when_steady | apply foldl_steady | apply foldl_fst_steady | apply foldl_snd_steady | intro _ | split | apply State.put_steady | apply steadyOpt_get (by assumption) | apply Steady.set | apply Steady.draw | apply Steady.tell | apply Steady.purge | dsimp only)

theorem State.startGroup_steady {s₀ s : State} (hs : Steady s₀ s) (g : Nat) (h : Option Nat) :
    Steady s₀ (State.startGroup s g h) := by
  unfold State.startGroup
  try dsimp only
  repeat' with_reducible (first | assumption | apply steadyRes_next | apply steadyOpt_none | apply steadyOpt_some | apply State.forEach_steady | apply State.when_steady | apply foldl_steady | apply foldl_fst_steady | apply foldl_snd_steady | intro _ | split | apply State.put_steady | apply State.endMove_steady | apply State.modMotor_steady | apply State.beginLine_steady | apply steadyOpt_get (by assumption) | apply Steady.set | apply Steady.draw | apply Steady.tell | apply Steady.purge | dsimp only)

theorem execGroupStart_steady {s₀ s : State} (hs : Steady s₀ s) (g : Fin 3) :
    SteadyRes s₀ (execGroupStart g s) := by
  unfold execGroupStart
  try dsimp only
  repeat' with_reducible (first | assumption | apply steadyRes_next | apply steadyOpt_none | apply steadyOpt_some | apply State.forEach_steady | apply State.when_steady | apply foldl_steady | apply foldl_fst_steady | apply foldl_snd_steady | intro _ | split | apply State.startGroup_steady | apply steadyOpt_get (by assumption) | apply Steady.set | apply Steady.draw | apply Steady.tell | apply Steady.purge | dsimp only)

theorem execGroupRappel_steady {s₀ s : State} (hs : Steady s₀ s) (g : Fin 3) :
    SteadyRes s₀ (execGroupRappel g s) := by
  unfold execGroupRappel
  try dsimp only
  repeat' with_reducible (first | assumption | apply steadyRes_next | apply steadyOpt_none | apply steadyOpt_some | apply State.forEach_steady | apply State.when_steady | apply foldl_steady | apply foldl_fst_steady | apply foldl_snd_steady | intro _ | split | apply State.modGroup_steady | apply State.put_steady | apply State.brakeGroup_steady | apply steadyOpt_get (by assumption) | apply Steady.set | apply Steady.draw | apply Steady.tell | apply Steady.purge | dsimp only)

theorem execEstopAll_steady {s₀ s : State} (hs : Steady s₀ s) :
    SteadyRes s₀ (execEstopAll s) := by
  unfold execEstopAll
  try dsimp only
  repeat' with_reducible (first | assumption | apply steadyRes_next | apply steadyOpt_none | apply steadyOpt_some | apply State.forEach_steady | apply State.when_steady | apply foldl_steady | apply foldl_fst_steady | apply foldl_snd_steady | intro _ | split | apply State.raise_steady | apply State.modGroup_steady | apply State.put_steady | apply State.brakeGroup_steady | apply State.setHome_steady | apply State.stopMotor_steady | apply steadyOpt_get (by assumption) | apply Steady.set | apply Steady.draw | apply Steady.tell | apply Steady.purge | dsimp only)

theorem execEstopClear_steady {s₀ s : State} (hs : Steady s₀ s) :
    SteadyRes s₀ (execEstopClear s) := by
  unfold execEstopClear
  try dsimp only
  repeat' with_reducible (first | assumption | apply steadyRes_next | apply steadyOpt_none | apply steadyOpt_some | apply State.forEach_steady | apply State.when_steady | apply foldl_steady | apply foldl_fst_steady | apply foldl_snd_steady | intro _ | split | apply State.put_steady | apply steadyOpt_get (by assumption) | apply Steady.set | apply Steady.draw | apply Steady.tell | apply Steady.purge | dsimp only)

theorem execHomeFaultClear_steady {s₀ s : State} (hs : Steady s₀ s) (m : Fin 12) :
    SteadyRes s₀ (execHomeFaultClear m s) := by
  unfold execHomeFaultClear
  try dsimp only
  repeat' with_reducible (first | assumption | apply steadyRes_next | apply steadyOpt_none | apply steadyOpt_some | apply State.forEach_steady | apply State.when_steady | apply foldl_steady | apply foldl_fst_steady | apply foldl_snd_steady | intro _ | split | apply State.put_steady | apply State.setHome_steady | apply steadyOpt_get (by assumption) | apply Steady.set | apply Steady.draw | apply Steady.tell | apply Steady.purge | dsimp only)

theorem State.captureAt_steady {s₀ s : State} (hs : Steady s₀ s) (m : Nat) (edge : Int) :
    Steady s₀ (State.captureAt s m edge) := by
  unfold State.captureAt
  try dsimp only
  repeat' with_reducible (first | assumption | apply steadyRes_next | apply steadyOpt_none | apply steadyOpt_some | apply State.forEach_steady | apply State.when_steady | apply foldl_steady | apply foldl_fst_steady | apply foldl_snd_steady | intro _ | split | apply State.put_steady | apply State.modMotor_steady | apply steadyOpt_get (by assumption) | apply Steady.set | apply Steady.draw | apply Steady.tell | apply Steady.purge | dsimp only)

theorem State.homeReference_steady {s₀ s : State} (hs : Steady s₀ s) (m : Nat) (edge : Int) :
    Steady s₀ (State.homeReference s m edge) := by
  unfold State.homeReference
  try dsimp only
  repeat' with_reducible (first | assumption | apply steadyRes_next | apply steadyOpt_none | apply steadyOpt_some | apply State.forEach_steady | apply State.when_steady | apply foldl_steady | apply foldl_fst_steady | apply foldl_snd_steady | intro _ | split | apply State.captureAt_steady | apply State.setHome_steady | apply State.stopMotor_steady | apply State.setMotor_steady | apply State.showMotor_steady | apply steadyOpt_get (by assumption) | apply Steady.set | apply Steady.draw | apply Steady.tell | apply Steady.purge | dsimp only)

theorem execLimitQualified_steady {s₀ s : State} (hs : Steady s₀ s) (m : Fin 12) (positive active : Bool) (edge : Int) :
    SteadyRes s₀ (execLimitQualified m positive active edge s) := by
  unfold execLimitQualified
  try dsimp only
  repeat' with_reducible (first | assumption | apply steadyRes_next | apply steadyOpt_none | apply steadyOpt_some | apply State.forEach_steady | apply State.when_steady | apply foldl_steady | apply foldl_fst_steady | apply foldl_snd_steady | intro _ | split | apply State.setFlag_steady | apply State.homeReference_steady | apply State.raiseMotor_steady | apply State.homingFault_steady | apply State.faultAxis_steady | apply steadyOpt_get (by assumption) | apply Steady.set | apply Steady.draw | apply Steady.tell | apply Steady.purge | dsimp only)

theorem execHomeQualified_steady {s₀ s : State} (hs : Steady s₀ s) (m : Fin 12) (active : Bool) (edge : Int) :
    SteadyRes s₀ (execHomeQualified m active edge s) := by
  unfold execHomeQualified
  try dsimp only
  repeat' with_reducible (first | assumption | apply steadyRes_next | apply steadyOpt_none | apply steadyOpt_some | apply State.forEach_steady | apply State.when_steady | apply foldl_steady | apply foldl_fst_steady | apply foldl_snd_steady | intro _ | split | apply State.setFlag_steady | apply State.homeReference_steady | apply steadyOpt_get (by assumption) | apply Steady.set | apply Steady.draw | apply Steady.tell | apply Steady.purge | dsimp only)

theorem execEncoderEdge_steady {s₀ s : State} (hs : Steady s₀ s) (m : Fin 12) (edge : EncoderEdge) :
    SteadyRes s₀ (execEncoderEdge m edge s) := by
  unfold execEncoderEdge
  try dsimp only
  repeat' with_reducible (first | assumption | apply steadyRes_next | apply steadyOpt_none | apply steadyOpt_some | apply State.forEach_steady | apply State.when_steady | apply foldl_steady | apply foldl_fst_steady | apply foldl_snd_steady | intro _ | split | apply State.sput_steady | apply State.raiseMotor_steady | apply steadyOpt_get (by assumption) | apply Steady.set | apply Steady.draw | apply Steady.tell | apply Steady.purge | dsimp only)

theorem execSledStandstill_steady {s₀ s : State} (hs : Steady s₀ s) (x : Fin 16) :
    SteadyRes s₀ (execSledStandstill x s) := by
  unfold execSledStandstill
  try dsimp only
  repeat' with_reducible (first | assumption | apply steadyRes_next | apply steadyOpt_none | apply steadyOpt_some | apply State.forEach_steady | apply State.when_steady | apply foldl_steady | apply foldl_fst_steady | apply foldl_snd_steady | intro _ | split | apply State.setMotor_steady | apply steadyOpt_get (by assumption) | apply Steady.set | apply Steady.draw | apply Steady.tell | apply Steady.purge | dsimp only)

theorem execAxisHoldReduce_steady {s₀ s : State} (hs : Steady s₀ s) (m : Fin 12) :
    SteadyRes s₀ (execAxisHoldReduce m s) := by
  unfold execAxisHoldReduce
  try dsimp only
  repeat' with_reducible (first | assumption | apply steadyRes_next | apply steadyOpt_none | apply steadyOpt_some | apply State.forEach_steady | apply State.when_steady | apply foldl_steady | apply foldl_fst_steady | apply foldl_snd_steady | intro _ | split | apply State.setMotor_steady | apply steadyOpt_get (by assumption) | apply Steady.set | apply Steady.draw | apply Steady.tell | apply Steady.purge | dsimp only)

theorem State.markStarted_steady {s₀ s : State} (hs : Steady s₀ s) (h : Nat) :
    Steady s₀ (State.markStarted s h) := by
  unfold State.markStarted
  try dsimp only
  repeat' with_reducible (first | assumption | apply steadyRes_next | apply steadyOpt_none | apply steadyOpt_some | apply State.forEach_steady | apply State.when_steady | apply foldl_steady | apply foldl_fst_steady | apply foldl_snd_steady | intro _ | split | apply State.modCmd_steady | apply steadyOpt_get (by assumption) | apply Steady.set | apply Steady.draw | apply Steady.tell | apply Steady.purge | dsimp only)

theorem execMoveAxis_steady {s₀ s : State} (hs : Steady s₀ s) (h : Nat) :
    SteadyRes s₀ (execMoveAxis h s) := by
  unfold execMoveAxis
  try dsimp only
  repeat' with_reducible (first | assumption | apply steadyRes_next | apply steadyOpt_none | apply steadyOpt_some | apply State.forEach_steady | apply State.when_steady | apply foldl_steady | apply foldl_fst_steady | apply foldl_snd_steady | intro _ | split | apply State.markStarted_steady | apply State.put_steady | apply State.startMotor_steady | apply steadyOpt_get (by assumption) | apply Steady.set | apply Steady.draw | apply Steady.tell | apply Steady.purge | dsimp only)

theorem execMoveGroup_steady {s₀ s : State} (hs : Steady s₀ s) (h : Nat) :
    SteadyRes s₀ (execMoveGroup h s) := by
  unfold execMoveGroup
  try dsimp only
  repeat' with_reducible (first | assumption | apply steadyRes_next | apply steadyOpt_none | apply steadyOpt_some | apply State.forEach_steady | apply State.when_steady | apply foldl_steady | apply foldl_fst_steady | apply foldl_snd_steady | intro _ | split | apply State.markStarted_steady | apply State.put_steady | apply State.startGroup_steady | apply steadyOpt_get (by assumption) | apply Steady.set | apply Steady.draw | apply Steady.tell | apply Steady.purge | dsimp only)

theorem execMoveHoming_steady {s₀ s : State} (hs : Steady s₀ s) (h : Nat) :
    SteadyRes s₀ (execMoveHoming h s) := by
  unfold execMoveHoming
  try dsimp only
  repeat' with_reducible (first | assumption | apply steadyRes_next | apply steadyOpt_none | apply steadyOpt_some | apply State.forEach_steady | apply State.when_steady | apply foldl_steady | apply foldl_fst_steady | apply foldl_snd_steady | intro _ | split | apply State.markStarted_steady | apply State.startHoming_steady | apply steadyOpt_get (by assumption) | apply Steady.set | apply Steady.draw | apply Steady.tell | apply Steady.purge | dsimp only)

theorem execMoveRappel_steady {s₀ s : State} (hs : Steady s₀ s) (h : Nat) :
    SteadyRes s₀ (execMoveRappel h s) := by
  unfold execMoveRappel
  try dsimp only
  repeat' with_reducible (first | assumption | apply steadyRes_next | apply steadyOpt_none | apply steadyOpt_some | apply State.forEach_steady | apply State.when_steady | apply foldl_steady | apply foldl_fst_steady | apply foldl_snd_steady | intro _ | split | apply State.markStarted_steady | apply State.modGroup_steady | apply State.brakeGroup_steady | apply State.modMotor_steady | apply State.setHome_steady | apply State.stopMotor_steady | apply steadyOpt_get (by assumption) | apply Steady.set | apply Steady.draw | apply Steady.tell | apply Steady.purge | dsimp only)

theorem execLSegment_steady {s₀ s : State} (hs : Steady s₀ s) (h : Nat) :
    SteadyRes s₀ (execLSegment h s) := by
  unfold execLSegment
  try dsimp only
  repeat' with_reducible (first | assumption | apply steadyRes_next | apply steadyOpt_none | apply steadyOpt_some | apply State.forEach_steady | apply State.when_steady | apply foldl_steady | apply foldl_fst_steady | apply foldl_snd_steady | intro _ | split | apply State.finish_steady | apply State.markStarted_steady | apply State.admitSegments_steady | apply steadyOpt_get (by assumption) | apply Steady.set | apply Steady.draw | apply Steady.tell | apply Steady.purge | dsimp only)

theorem State.abortMove_steady {s₀ s : State} (hs : Steady s₀ s) (h status : Nat) :
    Steady s₀ (State.abortMove s h status) := by
  unfold State.abortMove
  try dsimp only
  repeat' with_reducible (first | assumption | apply steadyRes_next | apply steadyOpt_none | apply steadyOpt_some | apply State.forEach_steady | apply State.when_steady | apply foldl_steady | apply foldl_fst_steady | apply foldl_snd_steady | intro _ | split | apply State.modCmd_steady | apply State.setHome_steady | apply State.stopMotor_steady | apply State.brakeGroup_steady | apply State.finish_steady | apply steadyOpt_get (by assumption) | apply Steady.set | apply Steady.draw | apply Steady.tell | apply Steady.purge | dsimp only)

end Sys2Proof.Machine
end

