-- ==== Sys2Proof/Laws/SteadyServo.lean ====
section
/-!
SUPPORT. What every command keeps (Safety.lean), of the operations and commands of Machine/Servo.lean.
-/
set_option Elab.async false
set_option linter.all false
namespace Sys2Proof.Machine
set_option maxRecDepth 2000

theorem State.failLoad_steady {s₀ s : State} (hs : Steady s₀ s) (h status : Nat) :
    Steady s₀ (State.failLoad s h status) := by
  unfold State.failLoad
  try dsimp only
  repeat' with_reducible (first | assumption | apply steadyRes_next | apply steadyOpt_none | apply steadyOpt_some | apply State.forEach_steady | apply State.when_steady | apply foldl_steady | apply foldl_fst_steady | apply foldl_snd_steady | intro _ | split | apply State.unbind_steady | apply State.modStation_steady | apply State.modPickup_steady | apply State.finish_steady | apply steadyOpt_get (by assumption) | apply Steady.set | apply Steady.draw | apply Steady.tell | apply Steady.purge | dsimp only)

theorem State.failUnload_steady {s₀ s : State} (hs : Steady s₀ s) (h status : Nat) :
    Steady s₀ (State.failUnload s h status) := by
  unfold State.failUnload
  try dsimp only
  repeat' with_reducible (first | assumption | apply steadyRes_next | apply steadyOpt_none | apply steadyOpt_some | apply State.forEach_steady | apply State.when_steady | apply foldl_steady | apply foldl_fst_steady | apply foldl_snd_steady | intro _ | split | apply State.modStation_steady | apply State.finish_steady | apply steadyOpt_get (by assumption) | apply Steady.set | apply Steady.draw | apply Steady.tell | apply Steady.purge | dsimp only)

theorem State.setCalRun_steady {s₀ s : State} (hs : Steady s₀ s) (n : Nat) (r : CalRun) :
    Steady s₀ (State.setCalRun s n r) := by
  unfold State.setCalRun
  try dsimp only
  repeat' with_reducible (first | assumption | apply steadyRes_next | apply steadyOpt_none | apply steadyOpt_some | apply State.forEach_steady | apply State.when_steady | apply foldl_steady | apply foldl_fst_steady | apply foldl_snd_steady | intro _ | split | apply State.put_steady | apply steadyOpt_get (by assumption) | apply Steady.set | apply Steady.draw | apply Steady.tell | apply Steady.purge | dsimp only)

theorem State.showCal_steady {s₀ s : State} (hs : Steady s₀ s) (st : Nat) :
    Steady s₀ (State.showCal s st) := by
  unfold State.showCal
  try dsimp only
  repeat' with_reducible (first | assumption | apply steadyRes_next | apply steadyOpt_none | apply steadyOpt_some | apply State.forEach_steady | apply State.when_steady | apply foldl_steady | apply foldl_fst_steady | apply foldl_snd_steady | intro _ | split | apply State.put_steady | apply State.setFlag_steady | apply steadyOpt_get (by assumption) | apply Steady.set | apply Steady.draw | apply Steady.tell | apply Steady.purge | dsimp only)

theorem State.endCalCmd_steady {s₀ s : State} (hs : Steady s₀ s) (h : Option Nat) (status : Nat) :
    Steady s₀ (State.endCalCmd s h status) := by
  unfold State.endCalCmd
  try dsimp only
  repeat' with_reducible (first | assumption | apply steadyRes_next | apply steadyOpt_none | apply steadyOpt_some | apply State.forEach_steady | apply State.when_steady | apply foldl_steady | apply foldl_fst_steady | apply foldl_snd_steady | intro _ | split | apply State.load_steady | apply State.failLoad_steady | apply State.endCmd_steady | apply steadyOpt_get (by assumption) | apply Steady.set | apply Steady.draw | apply Steady.tell | apply Steady.purge | dsimp only)

theorem State.abortCal_steady {s₀ s : State} (hs : Steady s₀ s) (n cause status : Nat) :
    Steady s₀ (State.abortCal s n cause status) := by
  unfold State.abortCal
  try dsimp only
  repeat' with_reducible (first | assumption | apply steadyRes_next | apply steadyOpt_none | apply steadyOpt_some | apply State.forEach_steady | apply State.when_steady | apply foldl_steady | apply foldl_fst_steady | apply foldl_snd_steady | intro _ | split | apply State.setCalRun_steady | apply State.showCal_steady | apply State.raise_steady | apply State.endCalCmd_steady | apply steadyOpt_get (by assumption) | apply Steady.set | apply Steady.draw | apply Steady.tell | apply Steady.purge | dsimp only)

theorem State.driveLden_steady {s₀ s : State} (hs : Steady s₀ s) (n : Nat) :
    Steady s₀ (State.driveLden s n) := by
  unfold State.driveLden
  try dsimp only
  repeat' with_reducible (first | assumption | apply steadyRes_next | apply steadyOpt_none | apply steadyOpt_some | apply State.forEach_steady | apply State.when_steady | apply foldl_steady | apply foldl_fst_steady | apply foldl_snd_steady | intro _ | split | apply State.setFlag_steady | apply steadyOpt_get (by assumption) | apply Steady.set | apply Steady.draw | apply Steady.tell | apply Steady.purge | dsimp only)

theorem State.holdDefaults_steady {s₀ s : State} (hs : Steady s₀ s) (n l : Nat) :
    Steady s₀ (State.holdDefaults s n l) := by
  unfold State.holdDefaults
  try dsimp only
  repeat' with_reducible (first | assumption | apply steadyRes_next | apply steadyOpt_none | apply steadyOpt_some | apply State.forEach_steady | apply State.when_steady | apply foldl_steady | apply foldl_fst_steady | apply foldl_snd_steady | intro _ | split | apply State.put_steady | apply steadyOpt_get (by assumption) | apply Steady.set | apply Steady.draw | apply Steady.tell | apply Steady.purge | dsimp only)

theorem State.driveLoop_steady {s₀ s : State} (hs : Steady s₀ s) (n l mode : Nat) :
    Steady s₀ (State.driveLoop s n l mode) := by
  unfold State.driveLoop
  try dsimp only
  repeat' with_reducible (first | assumption | apply steadyRes_next | apply steadyOpt_none | apply steadyOpt_some | apply State.forEach_steady | apply State.when_steady | apply foldl_steady | apply foldl_fst_steady | apply foldl_snd_steady | intro _ | split | apply State.holdDefaults_steady | apply State.put_steady | apply State.setMode_steady | apply steadyOpt_get (by assumption) | apply Steady.set | apply Steady.draw | apply Steady.tell | apply Steady.purge | dsimp only)

theorem State.enter_steady {s₀ s : State} (hs : Steady s₀ s) (n p : Nat) :
    Steady s₀ (State.enter s n p) := by
  unfold State.enter
  try dsimp only
  repeat' with_reducible (first | assumption | apply steadyRes_next | apply steadyOpt_none | apply steadyOpt_some | apply State.forEach_steady | apply State.when_steady | apply foldl_steady | apply foldl_fst_steady | apply foldl_snd_steady | intro _ | split | apply State.holdLanes_steady | apply State.put_steady | apply State.driveLoop_steady | apply State.setGear_steady | apply State.setFlag_steady | apply State.driveLden_steady | apply State.modPickup_steady | apply steadyOpt_get (by assumption) | apply Steady.set | apply Steady.draw | apply Steady.tell | apply Steady.purge | dsimp only)

theorem State.startSearch_steady {s₀ s : State} (hs : Steady s₀ s) (n layer : Nat) :
    Steady s₀ (State.startSearch s n layer) := by
  unfold State.startSearch
  try dsimp only
  repeat' with_reducible (first | assumption | apply steadyRes_next | apply steadyOpt_none | apply steadyOpt_some | apply State.forEach_steady | apply State.when_steady | apply foldl_steady | apply foldl_fst_steady | apply foldl_snd_steady | intro _ | split | apply State.enter_steady | apply State.put_steady | apply State.modPickup_steady | apply steadyOpt_get (by assumption) | apply Steady.set | apply Steady.draw | apply Steady.tell | apply Steady.purge | dsimp only)

theorem State.parkLens_steady {s₀ s : State} (hs : Steady s₀ s) (n : Nat) (fault : Bool) :
    Steady s₀ (State.parkLens s n fault) := by
  unfold State.parkLens
  try dsimp only
  repeat' with_reducible (first | assumption | apply steadyRes_next | apply steadyOpt_none | apply steadyOpt_some | apply State.forEach_steady | apply State.when_steady | apply foldl_steady | apply foldl_fst_steady | apply foldl_snd_steady | intro _ | split | apply State.enter_steady | apply State.sput_steady | apply State.modPickup_steady | apply steadyOpt_get (by assumption) | apply Steady.set | apply Steady.draw | apply Steady.tell | apply Steady.purge | dsimp only)

theorem State.shutGates_steady {s₀ s : State} (hs : Steady s₀ s) (n : Nat) (cause : Option Nat) :
    Steady s₀ (State.shutGates s n cause) := by
  unfold State.shutGates
  try dsimp only
  repeat' with_reducible (first | assumption | apply steadyRes_next | apply steadyOpt_none | apply steadyOpt_some | apply State.forEach_steady | apply State.when_steady | apply foldl_steady | apply foldl_fst_steady | apply foldl_snd_steady | intro _ | split | apply State.closeGates_steady | apply State.put_steady | apply steadyOpt_get (by assumption) | apply Steady.set | apply Steady.draw | apply Steady.tell | apply Steady.purge | dsimp only)

theorem State.failSide_steady {s₀ s : State} (hs : Steady s₀ s) (n status : Nat) :
    Steady s₀ (State.failSide s n status) := by
  unfold State.failSide
  try dsimp only
  repeat' with_reducible (first | assumption | apply steadyRes_next | apply steadyOpt_none | apply steadyOpt_some | apply State.forEach_steady | apply State.when_steady | apply foldl_steady | apply foldl_fst_steady | apply foldl_snd_steady | intro _ | split | apply State.stopCmd_steady | apply State.load_steady | apply State.failLoad_steady | apply steadyOpt_get (by assumption) | apply Steady.set | apply Steady.draw | apply Steady.tell | apply Steady.purge | dsimp only)

theorem State.giveUp_steady {s₀ s : State} (hs : Steady s₀ s) (n : Nat) :
    Steady s₀ (State.giveUp s n) := by
  unfold State.giveUp
  try dsimp only
  repeat' with_reducible (first | assumption | apply steadyRes_next | apply steadyOpt_none | apply steadyOpt_some | apply State.forEach_steady | apply State.when_steady | apply foldl_steady | apply foldl_fst_steady | apply foldl_snd_steady | intro _ | split | apply State.post_steady | apply State.parkLens_steady | apply State.abortCal_steady | apply State.breakRun_steady | apply State.failSide_steady | apply steadyOpt_get (by assumption) | apply Steady.set | apply Steady.draw | apply Steady.tell | apply Steady.purge | dsimp only)

theorem State.attempt_steady {s₀ s : State} (hs : Steady s₀ s) (n : Nat) (act : State → State)
    (ha : ∀ t, Steady s₀ t → Steady s₀ (act t)) : Steady s₀ (s.attempt n act) := by
  unfold State.attempt
  dsimp only
  split
  · exact State.giveUp_steady hs n
  · exact ha _ (State.put_steady hs _ _)

theorem State.calLoss_steady {s₀ s : State} (hs : Steady s₀ s) (n : Nat) :
    Steady s₀ (State.calLoss s n) := by
  unfold State.calLoss
  try dsimp only
  repeat' with_reducible (first | assumption | apply steadyRes_next | apply steadyOpt_none | apply steadyOpt_some | apply State.forEach_steady | apply State.when_steady | apply foldl_steady | apply foldl_fst_steady | apply foldl_snd_steady | intro _ | split | apply State.setCalRun_steady | apply State.abortCal_steady | apply steadyOpt_get (by assumption) | apply Steady.set | apply Steady.draw | apply Steady.tell | apply Steady.purge | dsimp only)

theorem State.backToConfirmed_steady {s₀ s : State} (hs : Steady s₀ s) (n : Nat) :
    Steady s₀ (State.backToConfirmed s n) := by
  unfold State.backToConfirmed
  try dsimp only
  repeat' with_reducible (first | assumption | apply steadyRes_next | apply steadyOpt_none | apply steadyOpt_some | apply State.forEach_steady | apply State.when_steady | apply foldl_steady | apply foldl_fst_steady | apply foldl_snd_steady | intro _ | split | apply State.modPickup_steady | apply steadyOpt_get (by assumption) | apply Steady.set | apply Steady.draw | apply Steady.tell | apply Steady.purge | dsimp only)

theorem State.lossOfFocus_steady {s₀ s : State} (hs : Steady s₀ s) (n : Nat) :
    Steady s₀ (State.lossOfFocus s n) := by
  unfold State.lossOfFocus
  try dsimp only
  repeat' with_reducible (first | assumption | apply steadyRes_next | apply steadyOpt_none | apply steadyOpt_some | apply State.forEach_steady | apply State.when_steady | apply foldl_steady | apply foldl_fst_steady | apply foldl_snd_steady | intro _ | split | apply State.raise_steady | apply State.shutGates_steady | apply State.calLoss_steady | apply State.backToConfirmed_steady | apply State.giveUp_steady | apply State.attempt_steady | apply State.startSearch_steady | apply steadyOpt_get (by assumption) | apply Steady.set | apply Steady.draw | apply Steady.tell | apply Steady.purge | dsimp only)

theorem State.toPullin_steady {s₀ s : State} (hs : Steady s₀ s) (n : Nat) :
    Steady s₀ (State.toPullin s n) := by
  unfold State.toPullin
  try dsimp only
  repeat' with_reducible (first | assumption | apply steadyRes_next | apply steadyOpt_none | apply steadyOpt_some | apply State.forEach_steady | apply State.when_steady | apply foldl_steady | apply foldl_fst_steady | apply foldl_snd_steady | intro _ | split | apply State.enter_steady | apply steadyOpt_get (by assumption) | apply Steady.set | apply Steady.draw | apply Steady.tell | apply Steady.purge | dsimp only)

theorem State.lossOfTrack_steady {s₀ s : State} (hs : Steady s₀ s) (n : Nat) :
    Steady s₀ (State.lossOfTrack s n) := by
  unfold State.lossOfTrack
  try dsimp only
  repeat' with_reducible (first | assumption | apply steadyRes_next | apply steadyOpt_none | apply steadyOpt_some | apply State.forEach_steady | apply State.when_steady | apply foldl_steady | apply foldl_fst_steady | apply foldl_snd_steady | intro _ | split | apply State.raise_steady | apply State.shutGates_steady | apply State.driveLoop_steady | apply State.modPickup_steady | apply State.calLoss_steady | apply State.backToConfirmed_steady | apply State.attempt_steady | apply State.toPullin_steady | apply steadyOpt_get (by assumption) | apply Steady.set | apply Steady.draw | apply Steady.tell | apply Steady.purge | dsimp only)

theorem State.enterBelay_steady {s₀ s : State} (hs : Steady s₀ s) (n : Nat) :
    Steady s₀ (State.enterBelay s n) := by
  unfold State.enterBelay
  try dsimp only
  repeat' with_reducible (first | assumption | apply steadyRes_next | apply steadyOpt_none | apply steadyOpt_some | apply State.forEach_steady | apply State.when_steady | apply foldl_steady | apply foldl_fst_steady | apply foldl_snd_steady | intro _ | split | apply State.shutGates_steady | apply State.enter_steady | apply State.post_steady | apply steadyOpt_get (by assumption) | apply Steady.set | apply Steady.draw | apply Steady.tell | apply Steady.purge | dsimp only)

theorem State.loadLanes_steady {s₀ s : State} (hs : Steady s₀ s) (n : Nat) :
    Steady s₀ (State.loadLanes s n) := by
  unfold State.loadLanes
  try dsimp only
  repeat' with_reducible (first | assumption | apply steadyRes_next | apply steadyOpt_none | apply steadyOpt_some | apply State.forEach_steady | apply State.when_steady | apply foldl_steady | apply foldl_fst_steady | apply foldl_snd_steady | intro _ | split | apply State.modPickup_steady | apply State.laneWrite_steady | apply steadyOpt_get (by assumption) | apply Steady.set | apply Steady.draw | apply Steady.tell | apply Steady.purge | dsimp only)

theorem State.toFollow_steady {s₀ s : State} (hs : Steady s₀ s) (n : Nat) :
    Steady s₀ (State.toFollow s n) := by
  unfold State.toFollow
  try dsimp only
  repeat' with_reducible (first | assumption | apply steadyRes_next | apply steadyOpt_none | apply steadyOpt_some | apply State.forEach_steady | apply State.when_steady | apply foldl_steady | apply foldl_fst_steady | apply foldl_snd_steady | intro _ | split | apply State.enter_steady | apply State.loadLanes_steady | apply State.modPickup_steady | apply State.enterBelay_steady | apply steadyOpt_get (by assumption) | apply Steady.set | apply Steady.draw | apply Steady.tell | apply Steady.purge | dsimp only)

theorem State.checkBelay_steady {s₀ s : State} (hs : Steady s₀ s) (n : Nat) :
    Steady s₀ (State.checkBelay s n) := by
  unfold State.checkBelay
  try dsimp only
  repeat' with_reducible (first | assumption | apply steadyRes_next | apply steadyOpt_none | apply steadyOpt_some | apply State.forEach_steady | apply State.when_steady | apply foldl_steady | apply foldl_fst_steady | apply foldl_snd_steady | intro _ | split | apply State.enterBelay_steady | apply State.post_steady | apply State.backToConfirmed_steady | apply State.toPullin_steady | apply State.toFollow_steady | apply steadyOpt_get (by assumption) | apply Steady.set | apply Steady.draw | apply Steady.tell | apply Steady.purge | dsimp only)

theorem State.setBelay_steady {s₀ s : State} (hs : Steady s₀ s) (n bit : Nat) (on : Bool) :
    Steady s₀ (State.setBelay s n bit on) := by
  unfold State.setBelay
  try dsimp only
  repeat' with_reducible (first | assumption | apply steadyRes_next | apply steadyOpt_none | apply steadyOpt_some | apply State.forEach_steady | apply State.when_steady | apply foldl_steady | apply foldl_fst_steady | apply foldl_snd_steady | intro _ | split | apply State.put_steady | apply State.checkBelay_steady | apply steadyOpt_get (by assumption) | apply Steady.set | apply Steady.draw | apply Steady.tell | apply Steady.purge | dsimp only)

theorem State.rotorLost_steady {s₀ s : State} (hs : Steady s₀ s) (st : Nat) :
    Steady s₀ (State.rotorLost s st) := by
  unfold State.rotorLost
  try dsimp only
  repeat' with_reducible (first | assumption | apply steadyRes_next | apply steadyOpt_none | apply steadyOpt_some | apply State.forEach_steady | apply State.when_steady | apply foldl_steady | apply foldl_fst_steady | apply foldl_snd_steady | intro _ | split | apply State.abortCal_steady | apply State.put_steady | apply State.enterBelay_steady | apply State.driveLoop_steady | apply State.modPickup_steady | apply steadyOpt_get (by assumption) | apply Steady.set | apply Steady.draw | apply Steady.tell | apply Steady.purge | dsimp only)

theorem State.trackJump_steady {s₀ s : State} (hs : Steady s₀ s) (n t : Nat) (outward keep : Bool) :
    Steady s₀ (State.trackJump s n t outward keep) := by
  unfold State.trackJump
  try dsimp only
  repeat' with_reducible (first | assumption | apply steadyRes_next | apply steadyOpt_none | apply steadyOpt_some | apply State.forEach_steady | apply State.when_steady | apply foldl_steady | apply foldl_fst_steady | apply foldl_snd_steady | intro _ | split | apply State.driveLoop_steady | apply State.enter_steady | apply State.sput_steady | apply State.modPickup_steady | apply steadyOpt_get (by assumption) | apply Steady.set | apply Steady.draw | apply Steady.tell | apply Steady.purge | dsimp only)

theorem State.layerJump_steady {s₀ s : State} (hs : Steady s₀ s) (n layer : Nat) :
    Steady s₀ (State.layerJump s n layer) := by
  unfold State.layerJump
  try dsimp only
  repeat' with_reducible (first | assumption | apply steadyRes_next | apply steadyOpt_none | apply steadyOpt_some | apply State.forEach_steady | apply State.when_steady | apply foldl_steady | apply foldl_fst_steady | apply foldl_snd_steady | intro _ | split | apply State.enter_steady | apply State.sput_steady | apply State.modPickup_steady | apply steadyOpt_get (by assumption) | apply Steady.set | apply Steady.draw | apply Steady.tell | apply Steady.purge | dsimp only)

theorem State.layerJumpFail_steady {s₀ s : State} (hs : Steady s₀ s) (n : Nat) :
    Steady s₀ (State.layerJumpFail s n) := by
  unfold State.layerJumpFail
  try dsimp only
  repeat' with_reducible (first | assumption | apply steadyRes_next | apply steadyOpt_none | apply steadyOpt_some | apply State.forEach_steady | apply State.when_steady | apply foldl_steady | apply foldl_fst_steady | apply foldl_snd_steady | intro _ | split | apply State.post_steady | apply State.startSearch_steady | apply steadyOpt_get (by assumption) | apply Steady.set | apply Steady.draw | apply Steady.tell | apply Steady.purge | dsimp only)

theorem State.coarseMove_steady {s₀ s : State} (hs : Steady s₀ s) (n : Nat) (q : Int) :
    Steady s₀ (State.coarseMove s n q) := by
  unfold State.coarseMove
  try dsimp only
  repeat' with_reducible (first | assumption | apply steadyRes_next | apply steadyOpt_none | apply steadyOpt_some | apply State.forEach_steady | apply State.when_steady | apply foldl_steady | apply foldl_fst_steady | apply foldl_snd_steady | intro _ | split | apply State.enter_steady | apply State.modPickup_steady | apply State.put_steady | apply State.sput_steady | apply State.startMotor_steady | apply steadyOpt_get (by assumption) | apply Steady.set | apply Steady.draw | apply Steady.tell | apply Steady.purge | dsimp only)

theorem State.alignAddress_steady {s₀ s : State} (hs : Steady s₀ s) (n a : Nat) :
    Steady s₀ (State.alignAddress s n a) := by
  unfold State.alignAddress
  try dsimp only
  repeat' with_reducible (first | assumption | apply steadyRes_next | apply steadyOpt_none | apply steadyOpt_some | apply State.forEach_steady | apply State.when_steady | apply foldl_steady | apply foldl_fst_steady | apply foldl_snd_steady | intro _ | split | apply State.put_steady | apply State.post_steady | apply State.enter_steady | apply State.abortCal_steady | apply State.failSide_steady | apply State.modPickup_steady | apply State.layerJumpFail_steady | apply State.layerJump_steady | apply State.trackJump_steady | apply State.toFollow_steady | apply State.attempt_steady | apply State.toPullin_steady | apply State.coarseMove_steady | apply steadyOpt_get (by assumption) | apply Steady.set | apply Steady.draw | apply Steady.tell | apply Steady.purge | dsimp only)

theorem State.followAddress_steady {s₀ s : State} (hs : Steady s₀ s) (n a passed : Nat) :
    Steady s₀ (State.followAddress s n a passed) := by
  unfold State.followAddress
  try dsimp only
  repeat' with_reducible (first | assumption | apply steadyRes_next | apply steadyOpt_none | apply steadyOpt_some | apply State.forEach_steady | apply State.when_steady | apply foldl_steady | apply foldl_fst_steady | apply foldl_snd_steady | intro _ | split | apply State.put_steady | apply State.modPickup_steady | apply State.layerJump_steady | apply State.enter_steady | apply steadyOpt_get (by assumption) | apply Steady.set | apply Steady.draw | apply Steady.tell | apply Steady.purge | dsimp only)

theorem execAddressDecoded_steady {s₀ s : State} (hs : Steady s₀ s) (n : Fin 16) (address : BitVec 32) (passed : Nat) :
    SteadyRes s₀ (execAddressDecoded n address passed s) := by
  unfold execAddressDecoded
  try dsimp only
  repeat' with_reducible (first | assumption | apply steadyRes_next | apply steadyOpt_none | apply steadyOpt_some | apply State.forEach_steady | apply State.when_steady | apply foldl_steady | apply foldl_fst_steady | apply foldl_snd_steady | intro _ | split | apply State.alignAddress_steady | apply State.followAddress_steady | apply steadyOpt_get (by assumption) | apply Steady.set | apply Steady.draw | apply Steady.tell | apply Steady.purge | dsimp only)

theorem execFocusSweepEnd_steady {s₀ s : State} (hs : Steady s₀ s) (n : Fin 16) :
    SteadyRes s₀ (execFocusSweepEnd n s) := by
  unfold execFocusSweepEnd
  try dsimp only
  repeat' with_reducible (first | assumption | apply steadyRes_next | apply steadyOpt_none | apply steadyOpt_some | apply State.forEach_steady | apply State.when_steady | apply foldl_steady | apply foldl_fst_steady | apply foldl_snd_steady | intro _ | split | apply State.post_steady | apply State.parkLens_steady | apply State.modPickup_steady | apply steadyOpt_get (by assumption) | apply Steady.set | apply Steady.draw | apply Steady.tell | apply Steady.purge | dsimp only)

theorem execFocusLock_steady {s₀ s : State} (hs : Steady s₀ s) (n : Fin 16) :
    SteadyRes s₀ (execFocusLock n s) := by
  unfold execFocusLock
  try dsimp only
  repeat' with_reducible (first | assumption | apply steadyRes_next | apply steadyOpt_none | apply steadyOpt_some | apply State.forEach_steady | apply State.when_steady | apply foldl_steady | apply foldl_fst_steady | apply foldl_snd_steady | intro _ | split | apply State.toPullin_steady | apply steadyOpt_get (by assumption) | apply Steady.set | apply Steady.draw | apply Steady.tell | apply Steady.purge | dsimp only)

theorem execFocusedTimeout_steady {s₀ s : State} (hs : Steady s₀ s) (n : Fin 16) :
    SteadyRes s₀ (execFocusedTimeout n s) := by
  unfold execFocusedTimeout
  try dsimp only
  repeat' with_reducible (first | assumption | apply steadyRes_next | apply steadyOpt_none | apply steadyOpt_some | apply State.forEach_steady | apply State.when_steady | apply foldl_steady | apply foldl_fst_steady | apply foldl_snd_steady | intro _ | split | apply State.attempt_steady | apply State.startSearch_steady | apply steadyOpt_get (by assumption) | apply Steady.set | apply Steady.draw | apply Steady.tell | apply Steady.purge | dsimp only)

theorem execTrackLock_steady {s₀ s : State} (hs : Steady s₀ s) (n : Fin 16) :
    SteadyRes s₀ (execTrackLock n s) := by
  unfold execTrackLock
  try dsimp only
  repeat' with_reducible (first | assumption | apply steadyRes_next | apply steadyOpt_none | apply steadyOpt_some | apply State.forEach_steady | apply State.when_steady | apply foldl_steady | apply foldl_fst_steady | apply foldl_snd_steady | intro _ | split | apply State.enter_steady | apply steadyOpt_get (by assumption) | apply Steady.set | apply Steady.draw | apply Steady.tell | apply Steady.purge | dsimp only)

theorem execPullinTimeout_steady {s₀ s : State} (hs : Steady s₀ s) (n : Fin 16) :
    SteadyRes s₀ (execPullinTimeout n s) := by
  unfold execPullinTimeout
  try dsimp only
  repeat' with_reducible (first | assumption | apply steadyRes_next | apply steadyOpt_none | apply steadyOpt_some | apply State.forEach_steady | apply State.when_steady | apply foldl_steady | apply foldl_fst_steady | apply foldl_snd_steady | intro _ | split | apply State.attempt_steady | apply State.startSearch_steady | apply steadyOpt_get (by assumption) | apply Steady.set | apply Steady.draw | apply Steady.tell | apply Steady.purge | dsimp only)

theorem execAlignAddressTimeout_steady {s₀ s : State} (hs : Steady s₀ s) (n : Fin 16) :
    SteadyRes s₀ (execAlignAddressTimeout n s) := by
  unfold execAlignAddressTimeout
  try dsimp only
  repeat' with_reducible (first | assumption | apply steadyRes_next | apply steadyOpt_none | apply steadyOpt_some | apply State.forEach_steady | apply State.when_steady | apply foldl_steady | apply foldl_fst_steady | apply foldl_snd_steady | intro _ | split | apply State.attempt_steady | apply State.toPullin_steady | apply steadyOpt_get (by assumption) | apply Steady.set | apply Steady.draw | apply Steady.tell | apply Steady.purge | dsimp only)

theorem execTrackJumpDone_steady {s₀ s : State} (hs : Steady s₀ s) (n : Fin 16) :
    SteadyRes s₀ (execTrackJumpDone n s) := by
  unfold execTrackJumpDone
  try dsimp only
  repeat' with_reducible (first | assumption | apply steadyRes_next | apply steadyOpt_none | apply steadyOpt_some | apply State.forEach_steady | apply State.when_steady | apply foldl_steady | apply foldl_fst_steady | apply foldl_snd_steady | intro _ | split | apply State.enter_steady | apply State.modPickup_steady | apply steadyOpt_get (by assumption) | apply Steady.set | apply Steady.draw | apply Steady.tell | apply Steady.purge | dsimp only)

theorem execTrackJumpTimeout_steady {s₀ s : State} (hs : Steady s₀ s) (n : Fin 16) :
    SteadyRes s₀ (execTrackJumpTimeout n s) := by
  unfold execTrackJumpTimeout
  try dsimp only
  repeat' with_reducible (first | assumption | apply steadyRes_next | apply steadyOpt_none | apply steadyOpt_some | apply State.forEach_steady | apply State.when_steady | apply foldl_steady | apply foldl_fst_steady | apply foldl_snd_steady | intro _ | split | apply State.lossOfTrack_steady | apply steadyOpt_get (by assumption) | apply Steady.set | apply Steady.draw | apply Steady.tell | apply Steady.purge | dsimp only)

theorem execLayerJumpTimeout_steady {s₀ s : State} (hs : Steady s₀ s) (n : Fin 16) :
    SteadyRes s₀ (execLayerJumpTimeout n s) := by
  unfold execLayerJumpTimeout
  try dsimp only
  repeat' with_reducible (first | assumption | apply steadyRes_next | apply steadyOpt_none | apply steadyOpt_some | apply State.forEach_steady | apply State.when_steady | apply foldl_steady | apply foldl_fst_steady | apply foldl_snd_steady | intro _ | split | apply State.sput_steady | apply State.layerJumpFail_steady | apply steadyOpt_get (by assumption) | apply Steady.set | apply Steady.draw | apply Steady.tell | apply Steady.purge | dsimp only)

theorem execCoarseSettleEnd_steady {s₀ s : State} (hs : Steady s₀ s) (n : Fin 16) :
    SteadyRes s₀ (execCoarseSettleEnd n s) := by
  unfold execCoarseSettleEnd
  try dsimp only
  repeat' with_reducible (first | assumption | apply steadyRes_next | apply steadyOpt_none | apply steadyOpt_some | apply State.forEach_steady | apply State.when_steady | apply foldl_steady | apply foldl_fst_steady | apply foldl_snd_steady | intro _ | split | apply State.toPullin_steady | apply steadyOpt_get (by assumption) | apply Steady.set | apply Steady.draw | apply Steady.tell | apply Steady.purge | dsimp only)

theorem execFocusLost_steady {s₀ s : State} (hs : Steady s₀ s) (n : Fin 16) :
    SteadyRes s₀ (execFocusLost n s) := by
  unfold execFocusLost
  try dsimp only
  repeat' with_reducible (first | assumption | apply steadyRes_next | apply steadyOpt_none | apply steadyOpt_some | apply State.forEach_steady | apply State.when_steady | apply foldl_steady | apply foldl_fst_steady | apply foldl_snd_steady | intro _ | split | apply State.lossOfFocus_steady | apply steadyOpt_get (by assumption) | apply Steady.set | apply Steady.draw | apply Steady.tell | apply Steady.purge | dsimp only)

theorem execTrackLost_steady {s₀ s : State} (hs : Steady s₀ s) (n : Fin 16) :
    SteadyRes s₀ (execTrackLost n s) := by
  unfold execTrackLost
  try dsimp only
  repeat' with_reducible (first | assumption | apply steadyRes_next | apply steadyOpt_none | apply steadyOpt_some | apply State.forEach_steady | apply State.when_steady | apply foldl_steady | apply foldl_fst_steady | apply foldl_snd_steady | intro _ | split | apply State.lossOfTrack_steady | apply steadyOpt_get (by assumption) | apply Steady.set | apply Steady.draw | apply Steady.tell | apply Steady.purge | dsimp only)

theorem execParkRampEnd_steady {s₀ s : State} (hs : Steady s₀ s) (n : Fin 16) :
    SteadyRes s₀ (execParkRampEnd n s) := by
  unfold execParkRampEnd
  try dsimp only
  repeat' with_reducible (first | assumption | apply steadyRes_next | apply steadyOpt_none | apply steadyOpt_some | apply State.forEach_steady | apply State.when_steady | apply foldl_steady | apply foldl_fst_steady | apply foldl_snd_steady | intro _ | split | apply State.enter_steady | apply State.modPickup_steady | apply steadyOpt_get (by assumption) | apply Steady.set | apply Steady.draw | apply Steady.tell | apply Steady.purge | dsimp only)

theorem execRecoverCountClear_steady {s₀ s : State} (hs : Steady s₀ s) (n : Fin 16) :
    SteadyRes s₀ (execRecoverCountClear n s) := by
  unfold execRecoverCountClear
  try dsimp only
  repeat' with_reducible (first | assumption | apply steadyRes_next | apply steadyOpt_none | apply steadyOpt_some | apply State.forEach_steady | apply State.when_steady | apply foldl_steady | apply foldl_fst_steady | apply foldl_snd_steady | intro _ | split | apply State.put_steady | apply steadyOpt_get (by assumption) | apply Steady.set | apply Steady.draw | apply Steady.tell | apply Steady.purge | dsimp only)

theorem execDefectLong_steady {s₀ s : State} (hs : Steady s₀ s) (n : Fin 16) :
    SteadyRes s₀ (execDefectLong n s) := by
  unfold execDefectLong
  try dsimp only
  repeat' with_reducible (first | assumption | apply steadyRes_next | apply steadyOpt_none | apply steadyOpt_some | apply State.forEach_steady | apply State.when_steady | apply foldl_steady | apply foldl_fst_steady | apply foldl_snd_steady | intro _ | split | apply State.put_steady | apply State.modPickup_steady | apply State.raise_steady | apply steadyOpt_get (by assumption) | apply Steady.set | apply Steady.draw | apply Steady.tell | apply Steady.purge | dsimp only)

theorem execDefectTriggersRestore_steady {s₀ s : State} (hs : Steady s₀ s) (n : Fin 16) :
    SteadyRes s₀ (execDefectTriggersRestore n s) := by
  unfold execDefectTriggersRestore
  try dsimp only
  repeat' with_reducible (first | assumption | apply steadyRes_next | apply steadyOpt_none | apply steadyOpt_some | apply State.forEach_steady | apply State.when_steady | apply foldl_steady | apply foldl_fst_steady | apply foldl_snd_steady | intro _ | split | apply State.modPickup_steady | apply State.put_steady | apply steadyOpt_get (by assumption) | apply Steady.set | apply Steady.draw | apply Steady.tell | apply Steady.purge | dsimp only)

theorem State.baeCheck_steady {s₀ s : State} (hs : Steady s₀ s) (n : Nat) :
    Steady s₀ (State.baeCheck s n) := by
  unfold State.baeCheck
  try dsimp only
  repeat' with_reducible (first | assumption | apply steadyRes_next | apply steadyOpt_none | apply steadyOpt_some | apply State.forEach_steady | apply State.when_steady | apply foldl_steady | apply foldl_fst_steady | apply foldl_snd_steady | intro _ | split | apply State.sput_steady | apply State.modPickup_steady | apply State.raise_steady | apply State.shutGates_steady | apply steadyOpt_get (by assumption) | apply Steady.set | apply Steady.draw | apply Steady.tell | apply Steady.purge | dsimp only)

theorem execRevolutionReference_steady {s₀ s : State} (hs : Steady s₀ s) (n : Fin 16) :
    SteadyRes s₀ (execRevolutionReference n s) := by
  unfold execRevolutionReference
  try dsimp only
  repeat' with_reducible (first | assumption | apply steadyRes_next | apply steadyOpt_none | apply steadyOpt_some | apply State.forEach_steady | apply State.when_steady | apply foldl_steady | apply foldl_fst_steady | apply foldl_snd_steady | intro _ | split | apply State.baeCheck_steady | apply State.trackJump_steady | apply steadyOpt_get (by assumption) | apply Steady.set | apply Steady.draw | apply Steady.tell | apply Steady.purge | dsimp only)

theorem execBaeGatesReopen_steady {s₀ s : State} (hs : Steady s₀ s) (n : Fin 16) :
    SteadyRes s₀ (execBaeGatesReopen n s) := by
  unfold execBaeGatesReopen
  try dsimp only
  repeat' with_reducible (first | assumption | apply steadyRes_next | apply steadyOpt_none | apply steadyOpt_some | apply State.forEach_steady | apply State.when_steady | apply foldl_steady | apply foldl_fst_steady | apply foldl_snd_steady | intro _ | split | apply State.modPickup_steady | apply steadyOpt_get (by assumption) | apply Steady.set | apply Steady.draw | apply Steady.tell | apply Steady.purge | dsimp only)

theorem execBelayReqSet_steady {s₀ s : State} (hs : Steady s₀ s) (n : Fin 16) :
    SteadyRes s₀ (execBelayReqSet n s) := by
  unfold execBelayReqSet
  try dsimp only
  repeat' with_reducible (first | assumption | apply steadyRes_next | apply steadyOpt_none | apply steadyOpt_some | apply State.forEach_steady | apply State.when_steady | apply foldl_steady | apply foldl_fst_steady | apply foldl_snd_steady | intro _ | split | apply State.put_steady | apply State.setBelay_steady | apply steadyOpt_get (by assumption) | apply Steady.set | apply Steady.draw | apply Steady.tell | apply Steady.purge | dsimp only)

theorem execBelayReqClear_steady {s₀ s : State} (hs : Steady s₀ s) (n : Fin 16) :
    SteadyRes s₀ (execBelayReqClear n s) := by
  unfold execBelayReqClear
  try dsimp only
  repeat' with_reducible (first | assumption | apply steadyRes_next | apply steadyOpt_none | apply steadyOpt_some | apply State.forEach_steady | apply State.when_steady | apply foldl_steady | apply foldl_fst_steady | apply foldl_snd_steady | intro _ | split | apply State.put_steady | apply State.setBelay_steady | apply steadyOpt_get (by assumption) | apply Steady.set | apply Steady.draw | apply Steady.tell | apply Steady.purge | dsimp only)

theorem State.rampSample_steady {s₀ s : State} (hs : Steady s₀ s) (n : Nat) :
    Steady s₀ (State.rampSample s n) := by
  unfold State.rampSample
  try dsimp only
  repeat' with_reducible (first | assumption | apply steadyRes_next | apply steadyOpt_none | apply steadyOpt_some | apply State.forEach_steady | apply State.when_steady | apply foldl_steady | apply foldl_fst_steady | apply foldl_snd_steady | intro _ | split | apply State.sput_steady | apply State.modPickup_steady | apply steadyOpt_get (by assumption) | apply Steady.set | apply Steady.draw | apply Steady.tell | apply Steady.purge | dsimp only)

theorem State.layerSample_steady {s₀ s : State} (hs : Steady s₀ s) (n : Nat) (fe sum : Int) :
    Steady s₀ (State.layerSample s n fe sum) := by
  unfold State.layerSample
  try dsimp only
  repeat' with_reducible (first | assumption | apply steadyRes_next | apply steadyOpt_none | apply steadyOpt_some | apply State.forEach_steady | apply State.when_steady | apply foldl_steady | apply foldl_fst_steady | apply foldl_snd_steady | intro _ | split | apply State.enter_steady | apply State.modPickup_steady | apply State.sput_steady | apply steadyOpt_get (by assumption) | apply Steady.set | apply Steady.draw | apply Steady.tell | apply Steady.purge | dsimp only)

theorem State.trackSample_steady {s₀ s : State} (hs : Steady s₀ s) (n : Nat) (te : Int) :
    Steady s₀ (State.trackSample s n te) := by
  unfold State.trackSample
  try dsimp only
  repeat' with_reducible (first | assumption | apply steadyRes_next | apply steadyOpt_none | apply steadyOpt_some | apply State.forEach_steady | apply State.when_steady | apply foldl_steady | apply foldl_fst_steady | apply foldl_snd_steady | intro _ | split | apply State.driveLoop_steady | apply State.modPickup_steady | apply State.sput_steady | apply steadyOpt_get (by assumption) | apply Steady.set | apply Steady.draw | apply Steady.tell | apply Steady.purge | dsimp only)

theorem State.servoSample_steady {s₀ s : State} (hs : Steady s₀ s) (n : Nat) :
    Steady s₀ (State.servoSample s n) := by
  unfold State.servoSample
  try dsimp only
  repeat' with_reducible (first | assumption | apply steadyRes_next | apply steadyOpt_none | apply steadyOpt_some | apply State.forEach_steady | apply State.when_steady | apply foldl_steady | apply foldl_fst_steady | apply foldl_snd_steady | intro _ | split | apply State.modPickup_steady | apply State.shutGates_steady | apply State.rampSample_steady | apply State.layerSample_steady | apply State.trackSample_steady | apply State.checkBelay_steady | apply State.startSearch_steady | apply steadyOpt_get (by assumption) | apply Steady.set | apply Steady.draw | apply Steady.tell | apply Steady.purge | dsimp only)

end Sys2Proof.Machine
end

