-- ==== Sys2Proof/Laws/SteadyLoop.lean ====
section
/-!
SUPPORT. What every command keeps (Safety.lean), of the operations and commands of Machine/Loop.lean.
-/
set_option Elab.async false
set_option linter.all false
namespace Sys2Proof.Machine
set_option maxRecDepth 2000

theorem State.paceBoost_steady {s₀ s : State} (hs : Steady s₀ s) :
    Steady s₀ (State.paceBoost s) := by
  unfold State.paceBoost
  try dsimp only
  repeat' with_reducible (first | assumption | apply steadyRes_next | apply steadyOpt_none | apply steadyOpt_some | apply State.forEach_steady | apply State.when_steady | apply foldl_steady | apply foldl_fst_steady | apply foldl_snd_steady | intro _ | split | apply State.put_steady | apply steadyOpt_get (by assumption) | apply Steady.set | apply Steady.draw | apply Steady.tell | apply Steady.purge | dsimp only)

theorem State.lateSample_steady {s₀ s : State} (hs : Steady s₀ s) (n mask : Nat) :
    Steady s₀ (State.lateSample s n mask) := by
  unfold State.lateSample
  try dsimp only
  repeat' with_reducible (first | assumption | apply steadyRes_next | apply steadyOpt_none | apply steadyOpt_some | apply State.forEach_steady | apply State.when_steady | apply foldl_steady | apply foldl_fst_steady | apply foldl_snd_steady | intro _ | split | apply State.setLp_steady | apply State.raise_steady | apply State.incSat_steady | apply State.put_steady | apply State.count_steady | apply State.paceBoost_steady | apply steadyOpt_get (by assumption) | apply Steady.set | apply Steady.draw | apply Steady.tell | apply Steady.purge | dsimp only)

theorem State.traceEntry_steady {s₀ s : State} (hs : Steady s₀ s) (n : Nat) (skipped : Bool) :
    Steady s₀ (State.traceEntry s n skipped) := by
  unfold State.traceEntry
  try dsimp only
  repeat' with_reducible (first | assumption | apply steadyRes_next | apply steadyOpt_none | apply steadyOpt_some | apply State.forEach_steady | apply State.when_steady | apply foldl_steady | apply foldl_fst_steady | apply foldl_snd_steady | intro _ | split | apply State.put_steady | apply State.modLp_steady | apply State.mergeWord_steady | apply steadyOpt_get (by assumption) | apply Steady.set | apply Steady.draw | apply Steady.tell | apply Steady.purge | dsimp only)

theorem State.traceSample_steady {s₀ s : State} (hs : Steady s₀ s) (n : Nat) (skipped : Bool) :
    Steady s₀ (State.traceSample s n skipped) := by
  unfold State.traceSample
  try dsimp only
  repeat' with_reducible (first | assumption | apply steadyRes_next | apply steadyOpt_none | apply steadyOpt_some | apply State.forEach_steady | apply State.when_steady | apply foldl_steady | apply foldl_fst_steady | apply foldl_snd_steady | intro _ | split | apply State.modLp_steady | apply State.count_steady | apply State.traceEntry_steady | apply State.put_steady | apply steadyOpt_get (by assumption) | apply Steady.set | apply Steady.draw | apply Steady.tell | apply Steady.purge | dsimp only)

theorem State.traceArm_steady {s₀ s : State} (hs : Steady s₀ s) (n : Nat) :
    Steady s₀ (State.traceArm s n) := by
  unfold State.traceArm
  try dsimp only
  repeat' with_reducible (first | assumption | apply steadyRes_next | apply steadyOpt_none | apply steadyOpt_some | apply State.forEach_steady | apply State.when_steady | apply foldl_steady | apply foldl_fst_steady | apply foldl_snd_steady | intro _ | split | apply State.put_steady | apply State.modLp_steady | apply steadyOpt_get (by assumption) | apply Steady.set | apply Steady.draw | apply Steady.tell | apply Steady.purge | dsimp only)

theorem State.traceFire_steady {s₀ s : State} (hs : Steady s₀ s) (n : Nat) :
    Steady s₀ (State.traceFire s n) := by
  unfold State.traceFire
  try dsimp only
  repeat' with_reducible (first | assumption | apply steadyRes_next | apply steadyOpt_none | apply steadyOpt_some | apply State.forEach_steady | apply State.when_steady | apply foldl_steady | apply foldl_fst_steady | apply foldl_snd_steady | intro _ | split | apply State.modLp_steady | apply steadyOpt_get (by assumption) | apply Steady.set | apply Steady.draw | apply Steady.tell | apply Steady.purge | dsimp only)

theorem State.settleSample_steady {s₀ s : State} (hs : Steady s₀ s) (n : Nat) :
    Steady s₀ (State.settleSample s n) := by
  unfold State.settleSample
  try dsimp only
  repeat' with_reducible (first | assumption | apply steadyRes_next | apply steadyOpt_none | apply steadyOpt_some | apply State.forEach_steady | apply State.when_steady | apply foldl_steady | apply foldl_fst_steady | apply foldl_snd_steady | intro _ | split | apply State.lateSample_steady | apply State.put_steady | apply State.modLp_steady | apply State.incSat_steady | apply State.traceSample_steady | apply steadyOpt_get (by assumption) | apply Steady.set | apply Steady.draw | apply Steady.tell | apply Steady.purge | dsimp only)

theorem State.fmdSample_steady {s₀ s : State} (hs : Steady s₀ s) (n : Nat) :
    Steady s₀ (State.fmdSample s n) := by
  unfold State.fmdSample
  try dsimp only
  repeat' with_reducible (first | assumption | apply steadyRes_next | apply steadyOpt_none | apply steadyOpt_some | apply State.forEach_steady | apply State.when_steady | apply foldl_steady | apply foldl_fst_steady | apply foldl_snd_steady | intro _ | split | apply State.modPuRec_steady | apply State.shutGates_steady | apply steadyOpt_get (by assumption) | apply Steady.set | apply Steady.draw | apply Steady.tell | apply Steady.purge | dsimp only)

theorem State.compute_steady {s₀ s : State} (hs : Steady s₀ s) (n : Nat) (smp : SampleIn) :
    Steady s₀ (State.compute s n smp) := by
  unfold State.compute
  try dsimp only
  repeat' with_reducible (first | assumption | apply steadyRes_next | apply steadyOpt_none | apply steadyOpt_some | apply State.forEach_steady | apply State.when_steady | apply foldl_steady | apply foldl_fst_steady | apply foldl_snd_steady | intro _ | split | apply State.setLp_steady | apply State.put_steady | apply State.post_steady | apply State.fmdSample_steady | apply State.servoSample_steady | apply steadyOpt_get (by assumption) | apply Steady.set | apply Steady.draw | apply Steady.tell | apply Steady.purge | dsimp only)

theorem State.sendReadPower_steady {s₀ s : State} (hs : Steady s₀ s) (n : Nat) :
    Steady s₀ (State.sendReadPower s n) := by
  unfold State.sendReadPower
  try dsimp only
  repeat' with_reducible (first | assumption | apply steadyRes_next | apply steadyOpt_none | apply steadyOpt_some | apply State.forEach_steady | apply State.when_steady | apply foldl_steady | apply foldl_fst_steady | apply foldl_snd_steady | intro _ | split | apply State.lddWrite_steady | apply steadyOpt_get (by assumption) | apply Steady.set | apply Steady.draw | apply Steady.tell | apply Steady.purge | dsimp only)

theorem State.holdReadPower_steady {s₀ s : State} (hs : Steady s₀ s) (n : Nat) :
    Steady s₀ (State.holdReadPower s n) := by
  unfold State.holdReadPower
  try dsimp only
  repeat' with_reducible (first | assumption | apply steadyRes_next | apply steadyOpt_none | apply steadyOpt_some | apply State.forEach_steady | apply State.when_steady | apply foldl_steady | apply foldl_fst_steady | apply foldl_snd_steady | intro _ | split | apply State.modPickup_steady | apply State.sendReadPower_steady | apply steadyOpt_get (by assumption) | apply Steady.set | apply Steady.draw | apply Steady.tell | apply Steady.purge | dsimp only)

theorem State.ownSignals_steady {s₀ s : State} (hs : Steady s₀ s) (n : Nat) : Steady s₀ (s.ownSignals n) := by
  unfold State.ownSignals
  extract_lets p on inj set t₁ t₂ t₃ phase
  clear_value p on inj set t₁ t₂ t₃ phase
  cases on
  · exact Steady.draw (State.setLp_steady hs _ _) 0 ..
  · exact Steady.draw (State.setLp_steady hs _ _) 1 ..

theorem State.captureSample_steady {s₀ s : State} (hs : Steady s₀ s) (n : Nat) (conv : List (List Nat)) (sled : Bool) :
    Steady s₀ (State.captureSample s n conv sled) := by
  unfold State.captureSample
  try dsimp only
  repeat' with_reducible (first | assumption | apply steadyRes_next | apply steadyOpt_none | apply steadyOpt_some | apply State.forEach_steady | apply State.when_steady | apply foldl_steady | apply foldl_fst_steady | apply foldl_snd_steady | intro _ | split | apply State.setFlag_steady | apply State.put_steady | apply State.modLp_steady | apply State.formSignals_steady | apply State.ownSignals_steady | apply State.compute_steady | apply steadyOpt_get (by assumption) | apply Steady.set | apply Steady.draw | apply Steady.tell | apply Steady.purge | dsimp only)

theorem execSampleInstant_steady {s₀ s : State} (hs : Steady s₀ s) (inputs : List (List (List Nat))) :
    SteadyRes s₀ (execSampleInstant inputs s) := by
  unfold execSampleInstant
  try dsimp only
  repeat' with_reducible (first | assumption | apply steadyRes_next | apply steadyOpt_none | apply steadyOpt_some | apply State.forEach_steady | apply State.when_steady | apply foldl_steady | apply foldl_fst_steady | apply foldl_snd_steady | intro _ | split | apply State.settleSample_steady | apply State.incWrap_steady | apply State.modMotor_steady | apply State.modLp_steady | apply State.holdReadPower_steady | apply State.captureSample_steady | apply steadyOpt_get (by assumption) | apply Steady.set | apply Steady.draw | apply Steady.tell | apply Steady.purge | dsimp only)

theorem execOutputInstant_steady {s₀ s : State} (hs : Steady s₀ s) (n : Fin 16) (ready : Fin 4) :
    SteadyRes s₀ (execOutputInstant n ready s) := by
  unfold execOutputInstant
  try dsimp only
  repeat' with_reducible (first | assumption | apply steadyRes_next | apply steadyOpt_none | apply steadyOpt_some | apply State.forEach_steady | apply State.when_steady | apply foldl_steady | apply foldl_fst_steady | apply foldl_snd_steady | intro _ | split | apply State.modLp_steady | apply State.lateSample_steady | apply State.sput_steady | apply steadyOpt_get (by assumption) | apply Steady.set | apply Steady.draw | apply Steady.tell | apply Steady.purge | dsimp only)

theorem execLoopComputationEnd_steady {s₀ s : State} (hs : Steady s₀ s) (n : Fin 16) :
    SteadyRes s₀ (execLoopComputationEnd n s) := by
  unfold execLoopComputationEnd
  try dsimp only
  repeat' with_reducible (first | assumption | apply steadyRes_next | apply steadyOpt_none | apply steadyOpt_some | apply State.forEach_steady | apply State.when_steady | apply foldl_steady | apply foldl_fst_steady | apply foldl_snd_steady | intro _ | split | apply State.modLp_steady | apply State.compute_steady | apply steadyOpt_get (by assumption) | apply Steady.set | apply Steady.draw | apply Steady.tell | apply Steady.purge | dsimp only)

theorem execLoopBelayLate_steady {s₀ s : State} (hs : Steady s₀ s) (n : Fin 16) :
    SteadyRes s₀ (execLoopBelayLate n s) := by
  unfold execLoopBelayLate
  try dsimp only
  repeat' with_reducible (first | assumption | apply steadyRes_next | apply steadyOpt_none | apply steadyOpt_some | apply State.forEach_steady | apply State.when_steady | apply foldl_steady | apply foldl_fst_steady | apply foldl_snd_steady | intro _ | split | apply State.put_steady | apply State.post_steady | apply State.setBelay_steady | apply steadyOpt_get (by assumption) | apply Steady.set | apply Steady.draw | apply Steady.tell | apply Steady.purge | dsimp only)

theorem execLoopOnTime_steady {s₀ s : State} (hs : Steady s₀ s) (n : Fin 16) :
    SteadyRes s₀ (execLoopOnTime n s) := by
  unfold execLoopOnTime
  try dsimp only
  repeat' with_reducible (first | assumption | apply steadyRes_next | apply steadyOpt_none | apply steadyOpt_some | apply State.forEach_steady | apply State.when_steady | apply foldl_steady | apply foldl_fst_steady | apply foldl_snd_steady | intro _ | split | apply State.put_steady | apply State.post_steady | apply State.setBelay_steady | apply steadyOpt_get (by assumption) | apply Steady.set | apply Steady.draw | apply Steady.tell | apply Steady.purge | dsimp only)

theorem execTraceArm_steady {s₀ s : State} (hs : Steady s₀ s) (n : Fin 16) :
    SteadyRes s₀ (execTraceArm n s) := by
  unfold execTraceArm
  try dsimp only
  repeat' with_reducible (first | assumption | apply steadyRes_next | apply steadyOpt_none | apply steadyOpt_some | apply State.forEach_steady | apply State.when_steady | apply foldl_steady | apply foldl_fst_steady | apply foldl_snd_steady | intro _ | split | apply State.traceArm_steady | apply steadyOpt_get (by assumption) | apply Steady.set | apply Steady.draw | apply Steady.tell | apply Steady.purge | dsimp only)

theorem execTraceStop_steady {s₀ s : State} (hs : Steady s₀ s) (n : Fin 16) :
    SteadyRes s₀ (execTraceStop n s) := by
  unfold execTraceStop
  try dsimp only
  repeat' with_reducible (first | assumption | apply steadyRes_next | apply steadyOpt_none | apply steadyOpt_some | apply State.forEach_steady | apply State.when_steady | apply foldl_steady | apply foldl_fst_steady | apply foldl_snd_steady | intro _ | split | apply State.put_steady | apply steadyOpt_get (by assumption) | apply Steady.set | apply Steady.draw | apply Steady.tell | apply Steady.purge | dsimp only)

theorem execTraceFire_steady {s₀ s : State} (hs : Steady s₀ s) (n : Fin 16) :
    SteadyRes s₀ (execTraceFire n s) := by
  unfold execTraceFire
  try dsimp only
  repeat' with_reducible (first | assumption | apply steadyRes_next | apply steadyOpt_none | apply steadyOpt_some | apply State.forEach_steady | apply State.when_steady | apply foldl_steady | apply foldl_fst_steady | apply foldl_snd_steady | intro _ | split | apply State.traceFire_steady | apply steadyOpt_get (by assumption) | apply Steady.set | apply Steady.draw | apply Steady.tell | apply Steady.purge | dsimp only)

theorem execTraceDone_steady {s₀ s : State} (hs : Steady s₀ s) (n : Fin 16) :
    SteadyRes s₀ (execTraceDone n s) := by
  unfold execTraceDone
  try dsimp only
  repeat' with_reducible (first | assumption | apply steadyRes_next | apply steadyOpt_none | apply steadyOpt_some | apply State.forEach_steady | apply State.when_steady | apply foldl_steady | apply foldl_fst_steady | apply foldl_snd_steady | intro _ | split | apply State.put_steady | apply State.putPair_steady | apply State.raise_steady | apply steadyOpt_get (by assumption) | apply Steady.set | apply Steady.draw | apply Steady.tell | apply Steady.purge | dsimp only)

theorem execTrcArm_steady {s₀ s : State} (hs : Steady s₀ s) (mask : BitVec 16) :
    SteadyRes s₀ (execTrcArm mask s) := by
  unfold execTrcArm
  try dsimp only
  repeat' with_reducible (first | assumption | apply steadyRes_next | apply steadyOpt_none | apply steadyOpt_some | apply State.forEach_steady | apply State.when_steady | apply foldl_steady | apply foldl_fst_steady | apply foldl_snd_steady | intro _ | split | apply State.traceArm_steady | apply steadyOpt_get (by assumption) | apply Steady.set | apply Steady.draw | apply Steady.tell | apply Steady.purge | dsimp only)

theorem execTrcFire_steady {s₀ s : State} (hs : Steady s₀ s) (mask : BitVec 16) :
    SteadyRes s₀ (execTrcFire mask s) := by
  unfold execTrcFire
  try dsimp only
  repeat' with_reducible (first | assumption | apply steadyRes_next | apply steadyOpt_none | apply steadyOpt_some | apply State.forEach_steady | apply State.when_steady | apply foldl_steady | apply foldl_fst_steady | apply foldl_snd_steady | intro _ | split | apply State.traceFire_steady | apply steadyOpt_get (by assumption) | apply Steady.set | apply Steady.draw | apply Steady.tell | apply Steady.purge | dsimp only)

theorem execLaserOverpower_steady {s₀ s : State} (hs : Steady s₀ s) (n : Fin 16) :
    SteadyRes s₀ (execLaserOverpower n s) := by
  unfold execLaserOverpower
  try dsimp only
  repeat' with_reducible (first | assumption | apply steadyRes_next | apply steadyOpt_none | apply steadyOpt_some | apply State.forEach_steady | apply State.when_steady | apply foldl_steady | apply foldl_fst_steady | apply foldl_snd_steady | intro _ | split | apply State.raise_steady | apply State.put_steady | apply State.driveLden_steady | apply State.abortCal_steady | apply steadyOpt_get (by assumption) | apply Steady.set | apply Steady.draw | apply Steady.tell | apply Steady.purge | dsimp only)

end Sys2Proof.Machine
end

