-- ==== Sys2Proof/Laws/SteadyLdd.lean ====
section
/-!
SUPPORT. What every command keeps (Safety.lean), of the operations and commands of Machine/Ldd.lean.
-/
set_option Elab.async false
set_option linter.all false
namespace Sys2Proof.Machine
set_option maxRecDepth 2000

theorem State.trainLdd_steady {s₀ s : State} (hs : Steady s₀ s) (n : Nat) :
    Steady s₀ (State.trainLdd s n) := by
  unfold State.trainLdd
  try dsimp only
  repeat' with_reducible (first | assumption | apply steadyRes_next | apply steadyOpt_none | apply steadyOpt_some | apply State.forEach_steady | apply State.when_steady | apply foldl_steady | apply foldl_fst_steady | apply foldl_snd_steady | intro _ | split | apply State.modPickup_steady | apply State.ldd_steady | apply steadyOpt_get (by assumption) | apply Steady.set | apply Steady.draw | apply Steady.tell | apply Steady.purge | dsimp only)

theorem execLddLinkEnable_steady {s₀ s : State} (hs : Steady s₀ s) (n : Fin 16) :
    SteadyRes s₀ (execLddLinkEnable n s) := by
  unfold execLddLinkEnable
  try dsimp only
  repeat' with_reducible (first | assumption | apply steadyRes_next | apply steadyOpt_none | apply steadyOpt_some | apply State.forEach_steady | apply State.when_steady | apply foldl_steady | apply foldl_fst_steady | apply foldl_snd_steady | intro _ | split | apply State.put_steady | apply State.trainLdd_steady | apply steadyOpt_get (by assumption) | apply Steady.set | apply Steady.draw | apply Steady.tell | apply Steady.purge | dsimp only)

theorem State.lddOff_steady {s₀ s : State} (hs : Steady s₀ s) (n : Nat) :
    Steady s₀ (State.lddOff s n) := by
  unfold State.lddOff
  try dsimp only
  repeat' with_reducible (first | assumption | apply steadyRes_next | apply steadyOpt_none | apply steadyOpt_some | apply State.forEach_steady | apply State.when_steady | apply foldl_steady | apply foldl_fst_steady | apply foldl_snd_steady | intro _ | split | apply State.put_steady | apply State.driveLden_steady | apply State.shutGates_steady | apply State.modPickup_steady | apply steadyOpt_get (by assumption) | apply Steady.set | apply Steady.draw | apply Steady.tell | apply Steady.purge | dsimp only)

theorem State.lddLost_steady {s₀ s : State} (hs : Steady s₀ s) (n how : Nat) :
    Steady s₀ (State.lddLost s n how) := by
  unfold State.lddLost
  try dsimp only
  repeat' with_reducible (first | assumption | apply steadyRes_next | apply steadyOpt_none | apply steadyOpt_some | apply State.forEach_steady | apply State.when_steady | apply foldl_steady | apply foldl_fst_steady | apply foldl_snd_steady | intro _ | split | apply State.put_steady | apply State.raise_steady | apply State.driveLden_steady | apply State.shutGates_steady | apply State.trainLdd_steady | apply steadyOpt_get (by assumption) | apply Steady.set | apply Steady.draw | apply Steady.tell | apply Steady.purge | dsimp only)

theorem State.applySelect_steady {s₀ s : State} (hs : Steady s₀ s) (n : Nat) :
    Steady s₀ (State.applySelect s n) := by
  unfold State.applySelect
  try dsimp only
  repeat' with_reducible (first | assumption | apply steadyRes_next | apply steadyOpt_none | apply steadyOpt_some | apply State.forEach_steady | apply State.when_steady | apply foldl_steady | apply foldl_fst_steady | apply foldl_snd_steady | intro _ | split | apply State.lddWrite_steady | apply State.modPuRec_steady | apply State.put_steady | apply steadyOpt_get (by assumption) | apply Steady.set | apply Steady.draw | apply Steady.tell | apply Steady.purge | dsimp only)

theorem State.takeStatus_steady {s₀ s : State} (hs : Steady s₀ s) (n : Nat) (b : List Nat) :
    Steady s₀ (State.takeStatus s n b) := by
  unfold State.takeStatus
  try dsimp only
  repeat' with_reducible (first | assumption | apply steadyRes_next | apply steadyOpt_none | apply steadyOpt_some | apply State.forEach_steady | apply State.when_steady | apply foldl_steady | apply foldl_fst_steady | apply foldl_snd_steady | intro _ | split | apply State.setFlag_steady | apply State.put_steady | apply State.modPickup_steady | apply State.post_steady | apply State.shutGates_steady | apply State.applySelect_steady | apply steadyOpt_get (by assumption) | apply Steady.set | apply Steady.draw | apply Steady.tell | apply Steady.purge | dsimp only)

theorem execLddStatusFrame_steady {s₀ s : State} (hs : Steady s₀ s) (n : Fin 16) (frame : List Byte) :
    SteadyRes s₀ (execLddStatusFrame n frame s) := by
  unfold execLddStatusFrame
  try dsimp only
  repeat' with_reducible (first | assumption | apply steadyRes_next | apply steadyOpt_none | apply steadyOpt_some | apply State.forEach_steady | apply State.when_steady | apply foldl_steady | apply foldl_fst_steady | apply foldl_snd_steady | intro _ | split | apply State.modPickup_steady | apply State.takeStatus_steady | apply steadyOpt_get (by assumption) | apply Steady.set | apply Steady.draw | apply Steady.tell | apply Steady.purge | dsimp only)

theorem execLddLinkUp_steady {s₀ s : State} (hs : Steady s₀ s) (n : Fin 16) :
    SteadyRes s₀ (execLddLinkUp n s) := by
  unfold execLddLinkUp
  try dsimp only
  repeat' with_reducible (first | assumption | apply steadyRes_next | apply steadyOpt_none | apply steadyOpt_some | apply State.forEach_steady | apply State.when_steady | apply foldl_steady | apply foldl_fst_steady | apply foldl_snd_steady | intro _ | split | apply State.put_steady | apply State.modPickup_steady | apply State.lddWrite_steady | apply State.sendReadPower_steady | apply State.driveLden_steady | apply steadyOpt_get (by assumption) | apply Steady.set | apply Steady.draw | apply Steady.tell | apply Steady.purge | dsimp only)

theorem execLddBadFrames_steady {s₀ s : State} (hs : Steady s₀ s) (n : Fin 16) :
    SteadyRes s₀ (execLddBadFrames n s) := by
  unfold execLddBadFrames
  try dsimp only
  repeat' with_reducible (first | assumption | apply steadyRes_next | apply steadyOpt_none | apply steadyOpt_some | apply State.forEach_steady | apply State.when_steady | apply foldl_steady | apply foldl_fst_steady | apply foldl_snd_steady | intro _ | split | apply State.lddLost_steady | apply steadyOpt_get (by assumption) | apply Steady.set | apply Steady.draw | apply Steady.tell | apply Steady.purge | dsimp only)

theorem execLddStatusTimeout_steady {s₀ s : State} (hs : Steady s₀ s) (n : Fin 16) :
    SteadyRes s₀ (execLddStatusTimeout n s) := by
  unfold execLddStatusTimeout
  try dsimp only
  repeat' with_reducible (first | assumption | apply steadyRes_next | apply steadyOpt_none | apply steadyOpt_some | apply State.forEach_steady | apply State.when_steady | apply foldl_steady | apply foldl_fst_steady | apply foldl_snd_steady | intro _ | split | apply State.lddLost_steady | apply steadyOpt_get (by assumption) | apply Steady.set | apply Steady.draw | apply Steady.tell | apply Steady.purge | dsimp only)

theorem State.sendBank_steady {s₀ s : State} (hs : Steady s₀ s) (n bank : Nat) (bytes : List Nat) :
    Steady s₀ (State.sendBank s n bank bytes) := by
  unfold State.sendBank
  try dsimp only
  repeat' with_reducible (first | assumption | apply steadyRes_next | apply steadyOpt_none | apply steadyOpt_some | apply State.forEach_steady | apply State.when_steady | apply foldl_steady | apply foldl_fst_steady | apply foldl_snd_steady | intro _ | split | apply State.emitAll_steady | apply State.ldd_steady | apply steadyOpt_get (by assumption) | apply Steady.set | apply Steady.draw | apply Steady.tell | apply Steady.purge | dsimp only)

theorem execLddTableLoad_steady {s₀ s : State} (hs : Steady s₀ s) (n : Fin 16) (layer : Fin 8) (crc1 crc2 : BitVec 32) :
    SteadyRes s₀ (execLddTableLoad n layer crc1 crc2 s) := by
  unfold execLddTableLoad
  try dsimp only
  repeat' with_reducible (first | assumption | apply steadyRes_next | apply steadyOpt_none | apply steadyOpt_some | apply State.forEach_steady | apply State.when_steady | apply foldl_steady | apply foldl_fst_steady | apply foldl_snd_steady | intro _ | split | apply State.put_steady | apply State.sendBank_steady | apply State.modPuRec_steady | apply State.applySelect_steady | apply State.post_steady | apply steadyOpt_get (by assumption) | apply Steady.set | apply Steady.draw | apply Steady.tell | apply Steady.purge | dsimp only)

end Sys2Proof.Machine
end

