-- ==== Sys2Proof/Laws/SteadySpindle.lean ====
section
/-!
SUPPORT. What every command keeps (Safety.lean), of the operations and commands of Machine/Spindle.lean.
-/
set_option Elab.async false
set_option linter.all false
namespace Sys2Proof.Machine
set_option maxRecDepth 2000

theorem State.spnEnter_steady {s₀ s : State} (hs : Steady s₀ s) (st p : Nat) (b : Bridge) :
    Steady s₀ (State.spnEnter s st p b) := by
  unfold State.spnEnter
  try dsimp only
  repeat' with_reducible (first | assumption | apply steadyRes_next | apply steadyOpt_none | apply steadyOpt_some | apply State.forEach_steady | apply State.when_steady | apply foldl_steady | apply foldl_fst_steady | apply foldl_snd_steady | intro _ | split | apply State.put_steady | apply State.modSpindle_steady | apply steadyOpt_get (by assumption) | apply Steady.set | apply Steady.draw | apply Steady.tell | apply Steady.purge | dsimp only)

theorem State.failStation_steady {s₀ s : State} (hs : Steady s₀ s) (st status : Nat) :
    Steady s₀ (State.failStation s st status) := by
  unfold State.failStation
  try dsimp only
  repeat' with_reducible (first | assumption | apply steadyRes_next | apply steadyOpt_none | apply steadyOpt_some | apply State.forEach_steady | apply State.when_steady | apply foldl_steady | apply foldl_fst_steady | apply foldl_snd_steady | intro _ | split | apply State.load_steady | apply State.failLoad_steady | apply State.unload_steady | apply State.failUnload_steady | apply State.stopCmd_steady | apply steadyOpt_get (by assumption) | apply Steady.set | apply Steady.draw | apply Steady.tell | apply Steady.purge | dsimp only)

theorem State.spindleLost_steady {s₀ s : State} (hs : Steady s₀ s) (st : Nat) :
    Steady s₀ (State.spindleLost s st) := by
  unfold State.spindleLost
  try dsimp only
  repeat' with_reducible (first | assumption | apply steadyRes_next | apply steadyOpt_none | apply steadyOpt_some | apply State.forEach_steady | apply State.when_steady | apply foldl_steady | apply foldl_fst_steady | apply foldl_snd_steady | intro _ | split | apply State.abortCal_steady | apply State.parkLens_steady | apply State.breakRun_steady | apply State.put_steady | apply State.failStation_steady | apply steadyOpt_get (by assumption) | apply Steady.set | apply Steady.draw | apply Steady.tell | apply Steady.purge | dsimp only)

theorem State.startFailed_steady {s₀ s : State} (hs : Steady s₀ s) (st : Nat) :
    Steady s₀ (State.startFailed s st) := by
  unfold State.startFailed
  try dsimp only
  repeat' with_reducible (first | assumption | apply steadyRes_next | apply steadyOpt_none | apply steadyOpt_some | apply State.forEach_steady | apply State.when_steady | apply foldl_steady | apply foldl_fst_steady | apply foldl_snd_steady | intro _ | split | apply State.failStation_steady | apply State.abortCal_steady | apply steadyOpt_get (by assumption) | apply Steady.set | apply Steady.draw | apply Steady.tell | apply Steady.purge | dsimp only)

theorem State.spnStartFail_steady {s₀ s : State} (hs : Steady s₀ s) (st reason : Nat) :
    Steady s₀ (State.spnStartFail s st reason) := by
  unfold State.spnStartFail
  try dsimp only
  repeat' with_reducible (first | assumption | apply steadyRes_next | apply steadyOpt_none | apply steadyOpt_some | apply State.forEach_steady | apply State.when_steady | apply foldl_steady | apply foldl_fst_steady | apply foldl_snd_steady | intro _ | split | apply State.spnEnter_steady | apply State.raise_steady | apply State.startFailed_steady | apply steadyOpt_get (by assumption) | apply Steady.set | apply Steady.draw | apply Steady.tell | apply Steady.purge | dsimp only)

theorem State.spnStart_steady {s₀ s : State} (hs : Steady s₀ s) (st : Nat) :
    Steady s₀ (State.spnStart s st) := by
  unfold State.spnStart
  try dsimp only
  repeat' with_reducible (first | assumption | apply steadyRes_next | apply steadyOpt_none | apply steadyOpt_some | apply State.forEach_steady | apply State.when_steady | apply foldl_steady | apply foldl_fst_steady | apply foldl_snd_steady | intro _ | split | apply State.put_steady | apply State.spnStartFail_steady | apply State.spnEnter_steady | apply steadyOpt_get (by assumption) | apply Steady.set | apply Steady.draw | apply Steady.tell | apply Steady.purge | dsimp only)

theorem State.spnStop_steady {s₀ s : State} (hs : Steady s₀ s) (st : Nat) :
    Steady s₀ (State.spnStop s st) := by
  unfold State.spnStop
  try dsimp only
  repeat' with_reducible (first | assumption | apply steadyRes_next | apply steadyOpt_none | apply steadyOpt_some | apply State.forEach_steady | apply State.when_steady | apply foldl_steady | apply foldl_fst_steady | apply foldl_snd_steady | intro _ | split | apply State.spnEnter_steady | apply State.put_steady | apply State.post_steady | apply State.spnStart_steady | apply steadyOpt_get (by assumption) | apply Steady.set | apply Steady.draw | apply Steady.tell | apply Steady.purge | dsimp only)

theorem State.spnRappel_steady {s₀ s : State} (hs : Steady s₀ s) (st : Nat) (regen : Bool) :
    Steady s₀ (State.spnRappel s st regen) := by
  unfold State.spnRappel
  try dsimp only
  repeat' with_reducible (first | assumption | apply steadyRes_next | apply steadyOpt_none | apply steadyOpt_some | apply State.forEach_steady | apply State.when_steady | apply foldl_steady | apply foldl_fst_steady | apply foldl_snd_steady | intro _ | split | apply State.spnEnter_steady | apply State.rappel_steady | apply State.modSpindle_steady | apply steadyOpt_get (by assumption) | apply Steady.set | apply Steady.draw | apply Steady.tell | apply Steady.purge | dsimp only)

theorem State.spnLocate_steady {s₀ s : State} (hs : Steady s₀ s) (st : Nat) :
    Steady s₀ (State.spnLocate s st) := by
  unfold State.spnLocate
  try dsimp only
  repeat' with_reducible (first | assumption | apply steadyRes_next | apply steadyOpt_none | apply steadyOpt_some | apply State.forEach_steady | apply State.when_steady | apply foldl_steady | apply foldl_fst_steady | apply foldl_snd_steady | intro _ | split | apply State.spnEnter_steady | apply State.modSpindle_steady | apply steadyOpt_get (by assumption) | apply Steady.set | apply Steady.draw | apply Steady.tell | apply Steady.purge | dsimp only)

theorem State.spnAttemptFails_steady {s₀ s : State} (hs : Steady s₀ s) (st reason : Nat) :
    Steady s₀ (State.spnAttemptFails s st reason) := by
  unfold State.spnAttemptFails
  try dsimp only
  repeat' with_reducible (first | assumption | apply steadyRes_next | apply steadyOpt_none | apply steadyOpt_some | apply State.forEach_steady | apply State.when_steady | apply foldl_steady | apply foldl_fst_steady | apply foldl_snd_steady | intro _ | split | apply State.incSat_steady | apply State.spnStartFail_steady | apply State.spnEnter_steady | apply steadyOpt_get (by assumption) | apply Steady.set | apply Steady.draw | apply Steady.tell | apply Steady.purge | dsimp only)

theorem State.spnRamp_steady {s₀ s : State} (hs : Steady s₀ s) (st : Nat) (rate : Rat) (step : Nat) :
    Steady s₀ (State.spnRamp s st rate step) := by
  unfold State.spnRamp
  try dsimp only
  repeat' with_reducible (first | assumption | apply steadyRes_next | apply steadyOpt_none | apply steadyOpt_some | apply State.forEach_steady | apply State.when_steady | apply foldl_steady | apply foldl_fst_steady | apply foldl_snd_steady | intro _ | split | apply State.spnEnter_steady | apply State.modSpindle_steady | apply steadyOpt_get (by assumption) | apply Steady.set | apply Steady.draw | apply Steady.tell | apply Steady.purge | dsimp only)

theorem State.writeRun_steady {s₀ s : State} (hs : Steady s₀ s) (st : Nat) (on : Bool) :
    Steady s₀ (State.writeRun s st on) := by
  unfold State.writeRun
  try dsimp only
  repeat' with_reducible (first | assumption | apply steadyRes_next | apply steadyOpt_none | apply steadyOpt_some | apply State.forEach_steady | apply State.when_steady | apply foldl_steady | apply foldl_fst_steady | apply foldl_snd_steady | intro _ | split | apply State.setFlag_steady | apply State.spnStart_steady | apply State.spnEnter_steady | apply State.spnRappel_steady | apply steadyOpt_get (by assumption) | apply Steady.set | apply Steady.draw | apply Steady.tell | apply Steady.purge | dsimp only)

theorem execSpindleRunSet_steady {s₀ s : State} (hs : Steady s₀ s) (st : Fin 8) :
    SteadyRes s₀ (execSpindleRunSet st s) := by
  unfold execSpindleRunSet
  try dsimp only
  repeat' with_reducible (first | assumption | apply steadyRes_next | apply steadyOpt_none | apply steadyOpt_some | apply State.forEach_steady | apply State.when_steady | apply foldl_steady | apply foldl_fst_steady | apply foldl_snd_steady | intro _ | split | apply State.writeRun_steady | apply steadyOpt_get (by assumption) | apply Steady.set | apply Steady.draw | apply Steady.tell | apply Steady.purge | dsimp only)

theorem execSpindleRunClear_steady {s₀ s : State} (hs : Steady s₀ s) (st : Fin 8) :
    SteadyRes s₀ (execSpindleRunClear st s) := by
  unfold execSpindleRunClear
  try dsimp only
  repeat' with_reducible (first | assumption | apply steadyRes_next | apply steadyOpt_none | apply steadyOpt_some | apply State.forEach_steady | apply State.when_steady | apply foldl_steady | apply foldl_fst_steady | apply foldl_snd_steady | intro _ | split | apply State.writeRun_steady | apply steadyOpt_get (by assumption) | apply Steady.set | apply Steady.draw | apply Steady.tell | apply Steady.purge | dsimp only)

theorem State.checkAtSpeed_steady {s₀ s : State} (hs : Steady s₀ s) (st : Nat) :
    Steady s₀ (State.checkAtSpeed s st) := by
  unfold State.checkAtSpeed
  try dsimp only
  repeat' with_reducible (first | assumption | apply steadyRes_next | apply steadyOpt_none | apply steadyOpt_some | apply State.forEach_steady | apply State.when_steady | apply foldl_steady | apply foldl_fst_steady | apply foldl_snd_steady | intro _ | split | apply State.put_steady | apply State.modSpindle_steady | apply steadyOpt_get (by assumption) | apply Steady.set | apply Steady.draw | apply Steady.tell | apply Steady.purge | dsimp only)

theorem execSpindleTargetWrite_steady {s₀ s : State} (hs : Steady s₀ s) (st : Fin 8) (value : Word) :
    SteadyRes s₀ (execSpindleTargetWrite st value s) := by
  unfold execSpindleTargetWrite
  try dsimp only
  repeat' with_reducible (first | assumption | apply steadyRes_next | apply steadyOpt_none | apply steadyOpt_some | apply State.forEach_steady | apply State.when_steady | apply foldl_steady | apply foldl_fst_steady | apply foldl_snd_steady | intro _ | split | apply State.put_steady | apply State.checkAtSpeed_steady | apply steadyOpt_get (by assumption) | apply Steady.set | apply Steady.draw | apply Steady.tell | apply Steady.purge | dsimp only)

theorem execProbeTimeout_steady {s₀ s : State} (hs : Steady s₀ s) (st : Fin 8) :
    SteadyRes s₀ (execProbeTimeout st s) := by
  unfold execProbeTimeout
  try dsimp only
  repeat' with_reducible (first | assumption | apply steadyRes_next | apply steadyOpt_none | apply steadyOpt_some | apply State.forEach_steady | apply State.when_steady | apply foldl_steady | apply foldl_fst_steady | apply foldl_snd_steady | intro _ | split | apply State.spnEnter_steady | apply State.spnLocate_steady | apply steadyOpt_get (by assumption) | apply Steady.set | apply Steady.draw | apply Steady.tell | apply Steady.purge | dsimp only)

theorem execHfiDone_steady {s₀ s : State} (hs : Steady s₀ s) (st : Fin 8) (q : Byte) (step : Fin 6) :
    SteadyRes s₀ (execHfiDone st q step s) := by
  unfold execHfiDone
  try dsimp only
  repeat' with_reducible (first | assumption | apply steadyRes_next | apply steadyOpt_none | apply steadyOpt_some | apply State.forEach_steady | apply State.when_steady | apply foldl_steady | apply foldl_fst_steady | apply foldl_snd_steady | intro _ | split | apply State.put_steady | apply State.spnRamp_steady | apply State.spnAttemptFails_steady | apply State.spnEnter_steady | apply State.modSpindle_steady | apply steadyOpt_get (by assumption) | apply Steady.set | apply Steady.draw | apply Steady.tell | apply Steady.purge | dsimp only)

theorem execAlignElapsed_steady {s₀ s : State} (hs : Steady s₀ s) (st : Fin 8) :
    SteadyRes s₀ (execAlignElapsed st s) := by
  unfold execAlignElapsed
  try dsimp only
  repeat' with_reducible (first | assumption | apply steadyRes_next | apply steadyOpt_none | apply steadyOpt_some | apply State.forEach_steady | apply State.when_steady | apply foldl_steady | apply foldl_fst_steady | apply foldl_snd_steady | intro _ | split | apply State.spnRamp_steady | apply steadyOpt_get (by assumption) | apply Steady.set | apply Steady.draw | apply Steady.tell | apply Steady.purge | dsimp only)

theorem State.spnClose_steady {s₀ s : State} (hs : Steady s₀ s) (st : Nat) (duty : Rat) :
    Steady s₀ (State.spnClose s st duty) := by
  unfold State.spnClose
  try dsimp only
  repeat' with_reducible (first | assumption | apply steadyRes_next | apply steadyOpt_none | apply steadyOpt_some | apply State.forEach_steady | apply State.when_steady | apply foldl_steady | apply foldl_fst_steady | apply foldl_snd_steady | intro _ | split | apply State.spnEnter_steady | apply State.modSpindle_steady | apply steadyOpt_get (by assumption) | apply Steady.set | apply Steady.draw | apply Steady.tell | apply Steady.purge | dsimp only)

theorem State.spnRotorLoss_steady {s₀ s : State} (hs : Steady s₀ s) (st how : Nat) :
    Steady s₀ (State.spnRotorLoss s st how) := by
  unfold State.spnRotorLoss
  try dsimp only
  repeat' with_reducible (first | assumption | apply steadyRes_next | apply steadyOpt_none | apply steadyOpt_some | apply State.forEach_steady | apply State.when_steady | apply foldl_steady | apply foldl_fst_steady | apply foldl_snd_steady | intro _ | split | apply State.spnEnter_steady | apply State.raise_steady | apply State.rotorLost_steady | apply State.rappel_steady | apply State.modSpindle_steady | apply steadyOpt_get (by assumption) | apply Steady.set | apply Steady.draw | apply Steady.tell | apply Steady.purge | dsimp only)

theorem State.endPowerStop_steady {s₀ s : State} (hs : Steady s₀ s) (st : Nat) :
    Steady s₀ (State.endPowerStop s st) := by
  unfold State.endPowerStop
  try dsimp only
  repeat' with_reducible (first | assumption | apply steadyRes_next | apply steadyOpt_none | apply steadyOpt_some | apply State.forEach_steady | apply State.when_steady | apply foldl_steady | apply foldl_fst_steady | apply foldl_snd_steady | intro _ | split | apply State.modStation_steady | apply steadyOpt_get (by assumption) | apply Steady.set | apply Steady.draw | apply Steady.tell | apply Steady.purge | dsimp only)

theorem execSpindleZeroCrossing_steady {s₀ s : State} (hs : Steady s₀ s) (st : Fin 8) (interval after : Nat) (emf : Rat) :
    SteadyRes s₀ (execSpindleZeroCrossing st interval after emf s) := by
  unfold execSpindleZeroCrossing

  extract_lets x t before s₁ s₂ v s₃ p total jump s₄ step good s₅ six s₆
  have h₃ : Steady s₀ s₃ := State.endPowerStop_steady (State.put_steady (State.setSpindle_steady hs _ _) _ _) _
  have h₄ : Steady s₀ s₄ := State.checkAtSpeed_steady (State.followAngle_steady h₃ _ _) _
  have h₅ : Steady s₀ s₅ := State.modSpindle_steady h₃ _ _
  have h₆ : Steady s₀ s₆ := State.spnClose_steady h₃ _ _
  clear_value s₄ s₅ s₆ s₃ jump p six good v
  repeat' with_reducible (first | assumption | apply steadyRes_next | split | apply State.spnRotorLoss_steady | apply State.spnStop_steady | apply State.spnClose_steady | apply State.raise_steady | apply State.spnLocate_steady | apply State.spnEnter_steady)

theorem execSpindleCommutation_steady {s₀ s : State} (hs : Steady s₀ s) (st : Fin 8) (elapsed : Nat) (duty : Rat) :
    SteadyRes s₀ (execSpindleCommutation st elapsed duty s) := by
  unfold execSpindleCommutation
  try dsimp only
  repeat' with_reducible (first | assumption | apply steadyRes_next | apply steadyOpt_none | apply steadyOpt_some | apply State.forEach_steady | apply State.when_steady | apply foldl_steady | apply foldl_fst_steady | apply foldl_snd_steady | intro _ | split | apply State.setSpindle_steady | apply State.modSpindle_steady | apply State.spnAttemptFails_steady | apply steadyOpt_get (by assumption) | apply Steady.set | apply Steady.draw | apply Steady.tell | apply Steady.purge | dsimp only)

theorem execZeroCrossingMissed_steady {s₀ s : State} (hs : Steady s₀ s) (st : Fin 8) :
    SteadyRes s₀ (execZeroCrossingMissed st s) := by
  unfold execZeroCrossingMissed
  try dsimp only
  repeat' with_reducible (first | assumption | apply steadyRes_next | apply steadyOpt_none | apply steadyOpt_some | apply State.forEach_steady | apply State.when_steady | apply foldl_steady | apply foldl_fst_steady | apply foldl_snd_steady | intro _ | split | apply State.rappel_steady | apply State.setSpindle_steady | apply State.spnRotorLoss_steady | apply steadyOpt_get (by assumption) | apply Steady.set | apply Steady.draw | apply Steady.tell | apply Steady.purge | dsimp only)

theorem execCatchTimeout_steady {s₀ s : State} (hs : Steady s₀ s) (st : Fin 8) :
    SteadyRes s₀ (execCatchTimeout st s) := by
  unfold execCatchTimeout
  try dsimp only
  repeat' with_reducible (first | assumption | apply steadyRes_next | apply steadyOpt_none | apply steadyOpt_some | apply State.forEach_steady | apply State.when_steady | apply foldl_steady | apply foldl_fst_steady | apply foldl_snd_steady | intro _ | split | apply State.spnRappel_steady | apply State.raise_steady | apply State.spindleLost_steady | apply steadyOpt_get (by assumption) | apply Steady.set | apply Steady.draw | apply Steady.tell | apply Steady.purge | dsimp only)

theorem State.wakePickup_steady {s₀ s : State} (hs : Steady s₀ s) (n : Nat) :
    Steady s₀ (State.wakePickup s n) := by
  unfold State.wakePickup
  try dsimp only
  repeat' with_reducible (first | assumption | apply steadyRes_next | apply steadyOpt_none | apply steadyOpt_some | apply State.forEach_steady | apply State.when_steady | apply foldl_steady | apply foldl_fst_steady | apply foldl_snd_steady | intro _ | split | apply State.modPickup_steady | apply State.put_steady | apply State.trainLdd_steady | apply steadyOpt_get (by assumption) | apply Steady.set | apply Steady.draw | apply Steady.tell | apply Steady.purge | dsimp only)

theorem execSpeedLoopInstant_steady {s₀ s : State} (hs : Steady s₀ s) (st : Fin 8) : SteadyRes s₀ (execSpeedLoopInstant st s) := by
  unfold execSpeedLoopInstant
  extract_lets s₁ x p v target up down regen goal ref e kp ki want clamped duty ts group near s₂
  have h₁ : Steady s₀ s₁ := by
    show Steady s₀ (if _ then _ else _)
    split
    · exact State.writeRun_steady hs _ _
    · exact hs
  have h₂ : Steady s₀ s₂ := State.setSpindle_steady h₁ _ _
  clear_value s₂ regen p s₁
  repeat' with_reducible (first | assumption | apply steadyRes_next | apply State.forEach_steady | intro _ | split | apply State.wakePickup_steady)

theorem execAtSpeed_steady {s₀ s : State} (hs : Steady s₀ s) (st : Fin 8) :
    SteadyRes s₀ (execAtSpeed st s) := by
  unfold execAtSpeed
  try dsimp only
  repeat' with_reducible (first | assumption | apply steadyRes_next | apply steadyOpt_none | apply steadyOpt_some | apply State.forEach_steady | apply State.when_steady | apply foldl_steady | apply foldl_fst_steady | apply foldl_snd_steady | intro _ | split | apply State.put_steady | apply State.setBelay_steady | apply State.wakePickup_steady | apply steadyOpt_get (by assumption) | apply Steady.set | apply Steady.draw | apply Steady.tell | apply Steady.purge | dsimp only)

theorem State.powerStopped_steady {s₀ s : State} (hs : Steady s₀ s) (st : Nat) :
    Steady s₀ (State.powerStopped s st) := by
  unfold State.powerStopped
  try dsimp only
  repeat' with_reducible (first | assumption | apply steadyRes_next | apply steadyOpt_none | apply steadyOpt_some | apply State.forEach_steady | apply State.when_steady | apply foldl_steady | apply foldl_fst_steady | apply foldl_snd_steady | intro _ | split | apply State.modStation_steady | apply State.spindleLost_steady | apply State.endPowerStop_steady | apply steadyOpt_get (by assumption) | apply Steady.set | apply Steady.draw | apply Steady.tell | apply Steady.purge | dsimp only)

theorem State.chopperFault_steady {s₀ s : State} (hs : Steady s₀ s) (st how : Nat) :
    Steady s₀ (State.chopperFault s st how) := by
  unfold State.chopperFault
  try dsimp only
  repeat' with_reducible (first | assumption | apply steadyRes_next | apply steadyOpt_none | apply steadyOpt_some | apply State.forEach_steady | apply State.when_steady | apply foldl_steady | apply foldl_fst_steady | apply foldl_snd_steady | intro _ | split | apply State.modSpindle_steady | apply State.spnEnter_steady | apply State.raise_steady | apply State.powerStopped_steady | apply steadyOpt_get (by assumption) | apply Steady.set | apply Steady.draw | apply Steady.tell | apply Steady.purge | dsimp only)

theorem State.driveChopper_steady {s₀ s : State} (hs : Steady s₀ s) (st : Nat) :
    Steady s₀ (State.driveChopper s st) := by
  unfold State.driveChopper
  try dsimp only
  repeat' with_reducible (first | assumption | apply steadyRes_next | apply steadyOpt_none | apply steadyOpt_some | apply State.forEach_steady | apply State.when_steady | apply foldl_steady | apply foldl_fst_steady | apply foldl_snd_steady | intro _ | split | apply State.setSpindle_steady | apply steadyOpt_get (by assumption) | apply Steady.set | apply Steady.draw | apply Steady.tell | apply Steady.purge | dsimp only)

theorem State.busTrip_steady {s₀ s : State} (hs : Steady s₀ s) (st : Nat) :
    Steady s₀ (State.busTrip s st) := by
  unfold State.busTrip
  try dsimp only
  repeat' with_reducible (first | assumption | apply steadyRes_next | apply steadyOpt_none | apply steadyOpt_some | apply State.forEach_steady | apply State.when_steady | apply foldl_steady | apply foldl_fst_steady | apply foldl_snd_steady | intro _ | split | apply State.modSpindle_steady | apply State.spnEnter_steady | apply State.put_steady | apply State.raise_steady | apply State.powerStopped_steady | apply steadyOpt_get (by assumption) | apply Steady.set | apply Steady.draw | apply Steady.tell | apply Steady.purge | dsimp only)

theorem execBusConversion_steady {s₀ s : State} (hs : Steady s₀ s) (st : Fin 8) (code : BitVec 12) :
    SteadyRes s₀ (execBusConversion st code s) := by
  unfold execBusConversion
  try dsimp only
  repeat' with_reducible (first | assumption | apply steadyRes_next | apply steadyOpt_none | apply steadyOpt_some | apply State.forEach_steady | apply State.when_steady | apply foldl_steady | apply foldl_fst_steady | apply foldl_snd_steady | intro _ | split | apply State.modSpindle_steady | apply State.put_steady | apply State.busTrip_steady | apply State.chopperFault_steady | apply State.driveChopper_steady | apply State.raise_steady | apply steadyOpt_get (by assumption) | apply Steady.set | apply Steady.draw | apply Steady.tell | apply Steady.purge | dsimp only)

theorem execChopperNoCurrent_steady {s₀ s : State} (hs : Steady s₀ s) (st : Fin 8) :
    SteadyRes s₀ (execChopperNoCurrent st s) := by
  unfold execChopperNoCurrent
  try dsimp only
  repeat' with_reducible (first | assumption | apply steadyRes_next | apply steadyOpt_none | apply steadyOpt_some | apply State.forEach_steady | apply State.when_steady | apply foldl_steady | apply foldl_fst_steady | apply foldl_snd_steady | intro _ | split | apply State.chopperFault_steady | apply steadyOpt_get (by assumption) | apply Steady.set | apply Steady.draw | apply Steady.tell | apply Steady.purge | dsimp only)

theorem execChopFaultClear_steady {s₀ s : State} (hs : Steady s₀ s) (st : Fin 8) :
    SteadyRes s₀ (execChopFaultClear st s) := by
  unfold execChopFaultClear
  try dsimp only
  repeat' with_reducible (first | assumption | apply steadyRes_next | apply steadyOpt_none | apply steadyOpt_some | apply State.forEach_steady | apply State.when_steady | apply foldl_steady | apply foldl_fst_steady | apply foldl_snd_steady | intro _ | split | apply State.put_steady | apply State.driveChopper_steady | apply steadyOpt_get (by assumption) | apply Steady.set | apply Steady.draw | apply Steady.tell | apply Steady.purge | dsimp only)

theorem execBusOvRelease_steady {s₀ s : State} (hs : Steady s₀ s) :
    SteadyRes s₀ (execBusOvRelease s) := by
  unfold execBusOvRelease
  try dsimp only
  repeat' with_reducible (first | assumption | apply steadyRes_next | apply steadyOpt_none | apply steadyOpt_some | apply State.forEach_steady | apply State.when_steady | apply foldl_steady | apply foldl_fst_steady | apply foldl_snd_steady | intro _ | split | apply State.put_steady | apply steadyOpt_get (by assumption) | apply Steady.set | apply Steady.draw | apply Steady.tell | apply Steady.purge | dsimp only)

end Sys2Proof.Machine
end

