-- ==== Sys2Proof/Laws/SteadyRecRows.lean ====
section
/-!
SUPPORT. What every command keeps (Safety.lean), of the operations and commands of Machine/RecRows.lean.
-/
set_option Elab.async false
set_option linter.all false
namespace Sys2Proof.Machine
set_option maxRecDepth 2000

theorem execFrontierSearch_steady {s₀ s : State} (hs : Steady s₀ s) (n : Fin 16) (layer : Fin 8) (begun : List Bool) :
    SteadyRes s₀ (execFrontierSearch n layer begun s) := by
  unfold execFrontierSearch
  try dsimp only
  repeat' with_reducible (first | assumption | apply steadyRes_next | apply steadyOpt_none | apply steadyOpt_some | apply State.forEach_steady | apply State.when_steady | apply foldl_steady | apply foldl_fst_steady | apply foldl_snd_steady | intro _ | split | apply State.put_steady | apply State.setFrontier_steady | apply State.modPickup_steady | apply steadyOpt_get (by assumption) | apply Steady.set | apply Steady.draw | apply Steady.tell | apply Steady.purge | dsimp only)

theorem State.dropGathered_steady {s₀ s : State} (hs : Steady s₀ s) (st side layer : Nat) :
    Steady s₀ (State.dropGathered s st side layer) := by
  unfold State.dropGathered
  try dsimp only
  repeat' with_reducible (first | assumption | apply steadyRes_next | apply steadyOpt_none | apply steadyOpt_some | apply State.forEach_steady | apply State.when_steady | apply foldl_steady | apply foldl_fst_steady | apply foldl_snd_steady | intro _ | split | apply State.freeRecEntry_steady | apply State.dropRecBlock_steady | apply State.blockSettled_steady | apply steadyOpt_get (by assumption) | apply Steady.set | apply Steady.draw | apply Steady.tell | apply Steady.purge | dsimp only)

theorem State.mapConflict_steady {s₀ s : State} (hs : Steady s₀ s) (n : Nat) (r : RecBlock) (k : Nat) :
    Steady s₀ (State.mapConflict s n r k) := by
  unfold State.mapConflict
  try dsimp only
  repeat' with_reducible (first | assumption | apply steadyRes_next | apply steadyOpt_none | apply steadyOpt_some | apply State.forEach_steady | apply State.when_steady | apply foldl_steady | apply foldl_fst_steady | apply foldl_snd_steady | intro _ | split | apply State.raise_steady | apply State.setFrontier_steady | apply State.endCmd_steady | apply State.dropGathered_steady | apply State.modRun_steady | apply State.put_steady | apply steadyOpt_get (by assumption) | apply Steady.set | apply Steady.draw | apply Steady.tell | apply Steady.purge | dsimp only)

theorem execPrePass_steady {s₀ s : State} (hs : Steady s₀ s) (n : Fin 16) (conflict : Option (Fin 18)) :
    SteadyRes s₀ (execPrePass n conflict s) := by
  unfold execPrePass
  try dsimp only
  repeat' with_reducible (first | assumption | apply steadyRes_next | apply steadyOpt_none | apply steadyOpt_some | apply State.forEach_steady | apply State.when_steady | apply foldl_steady | apply foldl_fst_steady | apply foldl_snd_steady | intro _ | split | apply State.breakUnrecordable_steady | apply State.put_steady | apply State.lddWrite_steady | apply State.mapConflict_steady | apply State.modRun_steady | apply steadyOpt_get (by assumption) | apply Steady.set | apply Steady.draw | apply Steady.tell | apply Steady.purge | dsimp only)

theorem State.launch_steady {s₀ s : State} (hs : Steady s₀ s) (n : Nat) :
    Steady s₀ (State.launch s n) := by
  unfold State.launch
  try dsimp only
  repeat' with_reducible (first | assumption | apply steadyRes_next | apply steadyOpt_none | apply steadyOpt_some | apply State.forEach_steady | apply State.when_steady | apply foldl_steady | apply foldl_fst_steady | apply foldl_snd_steady | intro _ | split | apply State.takeFree_steady | apply State.lddWrite_steady | apply State.put_steady | apply State.showGates_steady | apply steadyOpt_get (by assumption) | apply Steady.set | apply Steady.draw | apply Steady.tell | apply Steady.purge | dsimp only)

theorem execRunStart_steady {s₀ s : State} (hs : Steady s₀ s) (n : Fin 16) :
    SteadyRes s₀ (execRunStart n s) := by
  unfold execRunStart
  try dsimp only
  repeat' with_reducible (first | assumption | apply steadyRes_next | apply steadyOpt_none | apply steadyOpt_some | apply State.forEach_steady | apply State.when_steady | apply foldl_steady | apply foldl_fst_steady | apply foldl_snd_steady | intro _ | split | apply State.modRun_steady | apply State.takeBlock_steady | apply State.launch_steady | apply steadyOpt_get (by assumption) | apply Steady.set | apply Steady.draw | apply Steady.tell | apply Steady.purge | dsimp only)

theorem execWobblePeriod_steady {s₀ s : State} (hs : Steady s₀ s) (n : Fin 16) (err : Int) (freq : Rat) :
    SteadyRes s₀ (execWobblePeriod n err freq s) := by
  unfold execWobblePeriod
  try dsimp only
  repeat' with_reducible (first | assumption | apply steadyRes_next | apply steadyOpt_none | apply steadyOpt_some | apply State.forEach_steady | apply State.when_steady | apply foldl_steady | apply foldl_fst_steady | apply foldl_snd_steady | intro _ | split | apply State.sput_steady | apply State.modPuRec_steady | apply State.lddWrite_steady | apply State.put_steady | apply State.shutGates_steady | apply State.modRun_steady | apply State.sendCb_steady | apply State.advanceStream_steady | apply State.segmentStart_steady | apply State.showGates_steady | apply State.ldd_steady | apply steadyOpt_get (by assumption) | apply Steady.set | apply Steady.draw | apply Steady.tell | apply Steady.purge | dsimp only)

theorem execWclkLocked_steady {s₀ s : State} (hs : Steady s₀ s) (n : Fin 16) :
    SteadyRes s₀ (execWclkLocked n s) := by
  unfold execWclkLocked
  try dsimp only
  repeat' with_reducible (first | assumption | apply steadyRes_next | apply steadyOpt_none | apply steadyOpt_some | apply State.forEach_steady | apply State.when_steady | apply foldl_steady | apply foldl_fst_steady | apply foldl_snd_steady | intro _ | split | apply State.put_steady | apply steadyOpt_get (by assumption) | apply Steady.set | apply Steady.draw | apply Steady.tell | apply Steady.purge | dsimp only)

theorem execRecordingResume_steady {s₀ s : State} (hs : Steady s₀ s) (n : Fin 16) :
    SteadyRes s₀ (execRecordingResume n s) := by
  unfold execRecordingResume
  try dsimp only
  repeat' with_reducible (first | assumption | apply steadyRes_next | apply steadyOpt_none | apply steadyOpt_some | apply State.forEach_steady | apply State.when_steady | apply foldl_steady | apply foldl_fst_steady | apply foldl_snd_steady | intro _ | split | apply State.modRun_steady | apply State.lddWrite_steady | apply State.launch_steady | apply steadyOpt_get (by assumption) | apply Steady.set | apply Steady.draw | apply Steady.tell | apply Steady.purge | dsimp only)

theorem execBlockRecorded_steady {s₀ s : State} (hs : Steady s₀ s) (n : Fin 16) :
    SteadyRes s₀ (execBlockRecorded n s) := by
  unfold execBlockRecorded
  try dsimp only
  repeat' with_reducible (first | assumption | apply steadyRes_next | apply steadyOpt_none | apply steadyOpt_some | apply State.forEach_steady | apply State.when_steady | apply foldl_steady | apply foldl_fst_steady | apply foldl_snd_steady | intro _ | split | apply State.blockRecorded_steady | apply steadyOpt_get (by assumption) | apply Steady.set | apply Steady.draw | apply Steady.tell | apply Steady.purge | dsimp only)

theorem State.restRecording_steady {s₀ s : State} (hs : Steady s₀ s) (n : Nat) :
    Steady s₀ (State.restRecording s n) := by
  unfold State.restRecording
  try dsimp only
  repeat' with_reducible (first | assumption | apply steadyRes_next | apply steadyOpt_none | apply steadyOpt_some | apply State.forEach_steady | apply State.when_steady | apply foldl_steady | apply foldl_fst_steady | apply foldl_snd_steady | intro _ | split | apply State.put_steady | apply steadyOpt_get (by assumption) | apply Steady.set | apply Steady.draw | apply Steady.tell | apply Steady.purge | dsimp only)

theorem execRunEnd_steady {s₀ s : State} (hs : Steady s₀ s) (n : Fin 16) :
    SteadyRes s₀ (execRunEnd n s) := by
  unfold execRunEnd
  try dsimp only
  repeat' with_reducible (first | assumption | apply steadyRes_next | apply steadyOpt_none | apply steadyOpt_some | apply State.forEach_steady | apply State.when_steady | apply foldl_steady | apply foldl_fst_steady | apply foldl_snd_steady | intro _ | split | apply State.restRecording_steady | apply State.modRun_steady | apply State.modPickup_steady | apply State.lddWrite_steady | apply State.put_steady | apply State.applySelect_steady | apply steadyOpt_get (by assumption) | apply Steady.set | apply Steady.draw | apply Steady.tell | apply Steady.purge | dsimp only)

theorem State.startTagChecks_steady {s₀ s : State} (hs : Steady s₀ s) (r : RecBlock) (e : Nat) :
    Steady s₀ (State.startTagChecks s r e) := by
  unfold State.startTagChecks
  try dsimp only
  repeat' with_reducible (first | assumption | apply steadyRes_next | apply steadyOpt_none | apply steadyOpt_some | apply State.forEach_steady | apply State.when_steady | apply foldl_steady | apply foldl_fst_steady | apply foldl_snd_steady | intro _ | split | apply State.setRecBlock_steady | apply State.addWork_steady | apply steadyOpt_get (by assumption) | apply Steady.set | apply Steady.draw | apply Steady.tell | apply Steady.purge | dsimp only)

theorem State.judgeBlock_steady {s₀ s : State} (hs : Steady s₀ s) (r : RecBlock) (e : Nat) :
    Steady s₀ (State.judgeBlock s r e) := by
  unfold State.judgeBlock
  try dsimp only
  repeat' with_reducible (first | assumption | apply steadyRes_next | apply steadyOpt_none | apply steadyOpt_some | apply State.forEach_steady | apply State.when_steady | apply foldl_steady | apply foldl_fst_steady | apply foldl_snd_steady | intro _ | split | apply State.raise_steady | apply State.writeQuality_steady | apply State.freeEntry_steady | apply State.endRecBlock_steady | apply steadyOpt_get (by assumption) | apply Steady.set | apply Steady.draw | apply Steady.tell | apply Steady.purge | dsimp only)

theorem State.verifyBlock_steady {s₀ s : State} (hs : Steady s₀ s) (n : Nat) (r : RecBlock) :
    Steady s₀ (State.verifyBlock s n r) := by
  unfold State.verifyBlock
  try dsimp only
  repeat' with_reducible (first | assumption | apply steadyRes_next | apply steadyOpt_none | apply steadyOpt_some | apply State.forEach_steady | apply State.when_steady | apply foldl_steady | apply foldl_fst_steady | apply foldl_snd_steady | intro _ | split | apply State.allocate_steady | apply State.setEntry_steady | apply State.startWork_steady | apply State.setRecBlock_steady | apply State.startTagChecks_steady | apply State.refillEngines_steady | apply State.judgeBlock_steady | apply steadyOpt_get (by assumption) | apply Steady.set | apply Steady.draw | apply Steady.tell | apply Steady.purge | dsimp only)

theorem execVerifyPass_steady {s₀ s : State} (hs : Steady s₀ s) (n : Fin 16) :
    SteadyRes s₀ (execVerifyPass n s) := by
  unfold execVerifyPass
  try dsimp only
  repeat' with_reducible (first | assumption | apply steadyRes_next | apply steadyOpt_none | apply steadyOpt_some | apply State.forEach_steady | apply State.when_steady | apply foldl_steady | apply foldl_fst_steady | apply foldl_snd_steady | intro _ | split | apply State.restRecording_steady | apply State.modPuRec_steady | apply State.put_steady | apply State.verifyBlock_steady | apply steadyOpt_get (by assumption) | apply Steady.set | apply Steady.draw | apply Steady.tell | apply Steady.purge | dsimp only)

end Sys2Proof.Machine
end

