-- ==== Sys2Proof/Laws/SteadyCalib.lean ====
section
/-!
SUPPORT. What every command keeps (Safety.lean), of the operations and commands of Machine/Calib.lean.
-/
set_option Elab.async false
set_option linter.all false
namespace Sys2Proof.Machine
set_option maxRecDepth 2000

theorem State.setCalSet_steady {s₀ s : State} (hs : Steady s₀ s) (st k : Nat) (x : CalSet) :
    Steady s₀ (State.setCalSet s st k x) := by
  unfold State.setCalSet
  try dsimp only
  repeat' with_reducible (first | assumption | apply steadyRes_next | apply steadyOpt_none | apply steadyOpt_some | apply State.forEach_steady | apply State.when_steady | apply foldl_steady | apply foldl_fst_steady | apply foldl_snd_steady | intro _ | split | apply State.put_steady | apply steadyOpt_get (by assumption) | apply Steady.set | apply Steady.draw | apply Steady.tell | apply Steady.purge | dsimp only)

theorem State.setLayerRecord_steady {s₀ s : State} (hs : Steady s₀ s) (st side layer : Nat) (r : List Nat) :
    Steady s₀ (State.setLayerRecord s st side layer r) := by
  unfold State.setLayerRecord
  try dsimp only
  repeat' with_reducible (first | assumption | apply steadyRes_next | apply steadyOpt_none | apply steadyOpt_some | apply State.forEach_steady | apply State.when_steady | apply foldl_steady | apply foldl_fst_steady | apply foldl_snd_steady | intro _ | split | apply State.setCalSet_steady | apply State.put_steady | apply steadyOpt_get (by assumption) | apply Steady.set | apply Steady.draw | apply Steady.tell | apply Steady.purge | dsimp only)

theorem State.bindSet_steady {s₀ s : State} (hs : Steady s₀ s) (st : Nat) (d : DiscInfo) :
    Steady s₀ (State.bindSet s st d) := by
  unfold State.bindSet
  try dsimp only
  repeat' with_reducible (first | assumption | apply steadyRes_next | apply steadyOpt_none | apply steadyOpt_some | apply State.forEach_steady | apply State.when_steady | apply foldl_steady | apply foldl_fst_steady | apply foldl_snd_steady | intro _ | split | apply State.setCalSet_steady | apply State.put_steady | apply steadyOpt_get (by assumption) | apply Steady.set | apply Steady.draw | apply Steady.tell | apply Steady.purge | dsimp only)

theorem State.writeLayerRecord_steady {s₀ s : State} (hs : Steady s₀ s) (n layer : Nat) (kept : Bool) (eye mse : List Nat) :
    Steady s₀ (State.writeLayerRecord s n layer kept eye mse) := by
  unfold State.writeLayerRecord
  try dsimp only
  repeat' with_reducible (first | assumption | apply steadyRes_next | apply steadyOpt_none | apply steadyOpt_some | apply State.forEach_steady | apply State.when_steady | apply foldl_steady | apply foldl_fst_steady | apply foldl_snd_steady | intro _ | split | apply State.setLayerRecord_steady | apply steadyOpt_get (by assumption) | apply Steady.set | apply Steady.draw | apply Steady.tell | apply Steady.purge | dsimp only)

theorem State.startProc_steady {s₀ s : State} (hs : Steady s₀ s) (n proc layer : Nat) (cmd : Option Nat) :
    Steady s₀ (State.startProc s n proc layer cmd) := by
  unfold State.startProc
  try dsimp only
  repeat' with_reducible (first | assumption | apply steadyRes_next | apply steadyOpt_none | apply steadyOpt_some | apply State.forEach_steady | apply State.when_steady | apply foldl_steady | apply foldl_fst_steady | apply foldl_snd_steady | intro _ | split | apply State.setCalRun_steady | apply State.showCal_steady | apply State.holdLanes_steady | apply steadyOpt_get (by assumption) | apply Steady.set | apply Steady.draw | apply Steady.tell | apply Steady.purge | dsimp only)

theorem State.endProc_steady {s₀ s : State} (hs : Steady s₀ s) (n rejected eye mse : Nat) :
    Steady s₀ (State.endProc s n rejected eye mse) := by
  unfold State.endProc
  try dsimp only
  repeat' with_reducible (first | assumption | apply steadyRes_next | apply steadyOpt_none | apply steadyOpt_some | apply State.forEach_steady | apply State.when_steady | apply foldl_steady | apply foldl_fst_steady | apply foldl_snd_steady | intro _ | split | apply State.put_steady | apply State.raise_steady | apply State.count_steady | apply State.setCalRun_steady | apply State.showCal_steady | apply State.modPickup_steady | apply State.checkBelay_steady | apply steadyOpt_get (by assumption) | apply Steady.set | apply Steady.draw | apply Steady.tell | apply Steady.purge | dsimp only)

theorem State.setPickupRecord_steady {s₀ s : State} (hs : Steady s₀ s) (n : Nat) (r : List Nat) :
    Steady s₀ (State.setPickupRecord s n r) := by
  unfold State.setPickupRecord
  try dsimp only
  repeat' with_reducible (first | assumption | apply steadyRes_next | apply steadyOpt_none | apply steadyOpt_some | apply State.forEach_steady | apply State.when_steady | apply foldl_steady | apply foldl_fst_steady | apply foldl_snd_steady | intro _ | split | apply State.put_steady | apply steadyOpt_get (by assumption) | apply Steady.set | apply Steady.draw | apply Steady.tell | apply Steady.purge | dsimp only)

theorem State.applyTrim_steady {s₀ s : State} (hs : Steady s₀ s) (n : Nat) (beams : List BeamTrim) (m : CalMask) :
    Steady s₀ (State.applyTrim s n beams m).1 := by
  unfold State.applyTrim
  try dsimp only
  repeat' with_reducible (first | assumption | apply steadyRes_next | apply steadyOpt_none | apply steadyOpt_some | apply State.forEach_steady | apply State.when_steady | apply foldl_steady | apply foldl_fst_steady | apply foldl_snd_steady | intro _ | split | apply State.setPickupRecord_steady | apply steadyOpt_get (by assumption) | apply Steady.set | apply Steady.draw | apply Steady.tell | apply Steady.purge | dsimp only)

theorem State.moveOffset_steady {s₀ s : State} (hs : Steady s₀ s) (n l step : Nat) (v : Option Rat) :
    Steady s₀ (State.moveOffset s n l step v) := by
  unfold State.moveOffset
  try dsimp only
  repeat' with_reducible (first | assumption | apply steadyRes_next | apply steadyOpt_none | apply steadyOpt_some | apply State.forEach_steady | apply State.when_steady | apply foldl_steady | apply foldl_fst_steady | apply foldl_snd_steady | intro _ | split | apply State.sput_steady | apply steadyOpt_get (by assumption) | apply Steady.set | apply Steady.draw | apply Steady.tell | apply Steady.purge | dsimp only)

theorem State.applyEspresso_steady {s₀ s : State} (hs : Steady s₀ s) (n layer : Nat) (r : EspressoRun) (m : CalMask) :
    Steady s₀ (State.applyEspresso s n layer r m).1 := by
  unfold State.applyEspresso
  try dsimp only
  repeat' with_reducible (first | assumption | apply steadyRes_next | apply steadyOpt_none | apply steadyOpt_some | apply State.forEach_steady | apply State.when_steady | apply foldl_steady | apply foldl_fst_steady | apply foldl_snd_steady | intro _ | split | apply State.moveOffset_steady | apply State.modPickup_steady | apply State.loadLanes_steady | apply State.writeLayerRecord_steady | apply steadyOpt_get (by assumption) | apply Steady.set | apply Steady.draw | apply Steady.tell | apply Steady.purge | dsimp only)

theorem State.powerAttempt_steady {s₀ s : State} (hs : Steady s₀ s) (n layer : Nat) (r : PowerRun) :
    Steady s₀ (State.powerAttempt s n layer r).1 := by
  unfold State.powerAttempt
  try dsimp only
  repeat' with_reducible (first | assumption | apply steadyRes_next | apply steadyOpt_none | apply steadyOpt_some | apply State.forEach_steady | apply State.when_steady | apply foldl_steady | apply foldl_fst_steady | apply foldl_snd_steady | intro _ | split | apply State.modPuRec_steady | apply State.breakUnrecordable_steady | apply State.put_steady | apply State.raise_steady | apply State.setLayerRecord_steady | apply steadyOpt_get (by assumption) | apply Steady.set | apply Steady.draw | apply Steady.tell | apply Steady.purge | dsimp only)

theorem execPowerCalibration_steady {s₀ s : State} (hs : Steady s₀ s) (n : Fin 16) (layer : Fin 8) (run : PowerRun) :
    SteadyRes s₀ (execPowerCalibration n layer run s) := by
  unfold execPowerCalibration
  extract_lets st due r s₁ s₂
  have h₁ : Steady s₀ s₁ := by
    show Steady s₀ (if _ then _ else _)
    split
    · exact State.startProc_steady hs _ _ _ _
    · exact hs
  have h₂ : Steady s₀ s₂ := State.put_steady h₁ _ _
  clear_value s₂ due
  split
  · apply steadyRes_next; exact hs
  · have h₃ := State.powerAttempt_steady h₂ n layer run
    generalize s₂.powerAttempt n layer run = q at h₃ ⊢
    obtain ⟨t, e⟩ := q
    cases e with
    | unfinished => exact ⟨_, rfl, h₃⟩
    | done ok => exact ⟨_, rfl, State.put_steady (State.endProc_steady h₃ _ _ _ _) _ _⟩

theorem State.trimGain_steady {s₀ s : State} (hs : Steady s₀ s) (n l : Nat) (m : LoopMeasure) (mask : CalMask) :
    Steady s₀ (State.trimGain s n l m mask).1 := by
  unfold State.trimGain
  try dsimp only
  repeat' with_reducible (first | assumption | apply steadyRes_next | apply steadyOpt_none | apply steadyOpt_some | apply State.forEach_steady | apply State.when_steady | apply foldl_steady | apply foldl_fst_steady | apply foldl_snd_steady | intro _ | split | apply State.sput_steady | apply steadyOpt_get (by assumption) | apply Steady.set | apply Steady.draw | apply Steady.tell | apply Steady.purge | dsimp only)

theorem State.fullOffsets_steady {s₀ s : State} (hs : Steady s₀ s) (n : Nat) (r : FullRun) (m : CalMask) :
    Steady s₀ (State.fullOffsets s n r m).1 := by
  unfold State.fullOffsets
  try dsimp only
  repeat' with_reducible (first | assumption | apply steadyRes_next | apply steadyOpt_none | apply steadyOpt_some | apply State.forEach_steady | apply State.when_steady | apply foldl_steady | apply foldl_fst_steady | apply foldl_snd_steady | intro _ | split | apply State.put_steady | apply steadyOpt_get (by assumption) | apply Steady.set | apply Steady.draw | apply Steady.tell | apply Steady.purge | dsimp only)

theorem State.fullFactors_steady {s₀ s : State} (hs : Steady s₀ s) (n : Nat) (r : FullRun) (m : CalMask) :
    Steady s₀ (State.fullFactors s n r m).1 := by
  unfold State.fullFactors
  try dsimp only
  repeat' with_reducible (first | assumption | apply steadyRes_next | apply steadyOpt_none | apply steadyOpt_some | apply State.forEach_steady | apply State.when_steady | apply foldl_steady | apply foldl_fst_steady | apply foldl_snd_steady | intro _ | split | apply State.put_steady | apply State.sput_steady | apply steadyOpt_get (by assumption) | apply Steady.set | apply Steady.draw | apply Steady.tell | apply Steady.purge | dsimp only)

theorem State.fullGains_steady {s₀ s : State} (hs : Steady s₀ s) (n : Nat) (r : FullRun) (m : CalMask) :
    Steady s₀ (s.fullGains n r m).1 := by
  unfold State.fullGains
  apply foldl_fst_steady hs
  intro t l ht
  split
  · exact State.trimGain_steady ht _ _ _ _
  · exact ht

theorem State.fullBae_steady {s₀ s : State} (hs : Steady s₀ s) (n : Nat) (r : FullRun) (m : CalMask) :
    Steady s₀ (State.fullBae s n r m).1 := by
  unfold State.fullBae
  try dsimp only
  repeat' with_reducible (first | assumption | apply steadyRes_next | apply steadyOpt_none | apply steadyOpt_some | apply State.forEach_steady | apply State.when_steady | apply foldl_steady | apply foldl_fst_steady | apply foldl_snd_steady | intro _ | split | apply State.sput_steady | apply State.modPickup_steady | apply steadyOpt_get (by assumption) | apply Steady.set | apply Steady.draw | apply Steady.tell | apply Steady.purge | dsimp only)

theorem State.applyFull_steady {s₀ s : State} (hs : Steady s₀ s) (n : Nat) (r : FullRun) : Steady s₀ (s.applyFull n r).1 := by
  unfold State.applyFull
  extract_lets a b rec1 words c d e t
  have ha : Steady s₀ a.1 := State.applyTrim_steady hs _ _ _
  have hb : Steady s₀ b.1 := State.fullOffsets_steady ha _ _ _
  have hc : Steady s₀ c.1 := State.fullFactors_steady hb _ _ _
  have hd : Steady s₀ d.1 := State.fullGains_steady hc _ _ _
  have he : Steady s₀ e.1 := State.fullBae_steady hd _ _ _
  have ht : Steady s₀ t := State.sendReadPower_steady (State.setPickupRecord_steady he _ _) _
  exact foldl_fst_steady ht _ _ (fun x y hx => State.applyEspresso_steady hx _ _ _ _)

theorem State.startFull_steady {s₀ s : State} (hs : Steady s₀ s) (st : Nat) (ns : List Nat) (cmd : Option Nat) :
    Steady s₀ (State.startFull s st ns cmd) := by
  unfold State.startFull
  try dsimp only
  repeat' with_reducible (first | assumption | apply steadyRes_next | apply steadyOpt_none | apply steadyOpt_some | apply State.forEach_steady | apply State.when_steady | apply foldl_steady | apply foldl_fst_steady | apply foldl_snd_steady | intro _ | split | apply State.enter_steady | apply State.modPickup_steady | apply State.startProc_steady | apply State.writeRun_steady | apply State.wakePickup_steady | apply steadyOpt_get (by assumption) | apply Steady.set | apply Steady.draw | apply Steady.tell | apply Steady.purge | dsimp only)

theorem State.calBegin_steady {s₀ s : State} (hs : Steady s₀ s) (h : Nat) :
    Steady s₀ (State.calBegin s h) := by
  unfold State.calBegin
  try dsimp only
  repeat' with_reducible (first | assumption | apply steadyRes_next | apply steadyOpt_none | apply steadyOpt_some | apply State.forEach_steady | apply State.when_steady | apply foldl_steady | apply foldl_fst_steady | apply foldl_snd_steady | intro _ | split | apply State.modCmd_steady | apply State.startFull_steady | apply State.enter_steady | apply State.startProc_steady | apply State.writeRun_steady | apply State.modPickup_steady | apply State.wakePickup_steady | apply steadyOpt_get (by assumption) | apply Steady.set | apply Steady.draw | apply Steady.tell | apply Steady.purge | dsimp only)

theorem State.calFinish_steady {s₀ s : State} (hs : Steady s₀ s) (h : Nat) (ms : List (Nat × CalMask)) :
    Steady s₀ (State.calFinish s h ms) := by
  unfold State.calFinish
  try dsimp only
  repeat' with_reducible (first | assumption | apply steadyRes_next | apply steadyOpt_none | apply steadyOpt_some | apply State.forEach_steady | apply State.when_steady | apply foldl_steady | apply foldl_fst_steady | apply foldl_snd_steady | intro _ | split | apply State.endProc_steady | apply State.finish_steady | apply State.emitAll_steady | apply State.modCmd_steady | apply State.put_steady | apply steadyOpt_get (by assumption) | apply Steady.set | apply Steady.draw | apply Steady.tell | apply Steady.purge | dsimp only)

theorem State.calibrate_steady {α : Type} {s₀ s : State} (hs : Steady s₀ s) (h proc : Nat) (found : List α)
    (f : State → Nat → α → State × CalMask) (hf : ∀ t n a, Steady s₀ t → Steady s₀ (f t n a).1) :
    Steady s₀ (s.calibrate h proc found f) := by
  unfold State.calibrate
  extract_lets c go
  have hg : Steady s₀ go.1 := foldl_fst_steady (init := (s, [])) hs _ _ (fun t e ht => hf _ _ _ ht)
  clear_value go
  split
  · exact hs
  · split
    · split
      · exact State.refuse_steady hs _ _
      · exact State.calBegin_steady hs _
    · split
      · exact hs
      · exact State.calFinish_steady hg _ _

theorem execCalibrateAdcTrim_steady {s₀ s : State} (hs : Steady s₀ s) (h : Nat) (trims : List (List BeamTrim)) :
    SteadyRes s₀ (execCalibrateAdcTrim h trims s) :=
  steadyRes_next (State.calibrate_steady hs _ _ _ _ (fun _ _ _ ht => State.applyTrim_steady ht _ _ _))

theorem execCalibrateEspresso_steady {s₀ s : State} (hs : Steady s₀ s) (h : Nat) (runs : List EspressoRun) :
    SteadyRes s₀ (execCalibrateEspresso h runs s) :=
  steadyRes_next (State.calibrate_steady hs _ _ _ _ (fun _ _ _ ht => State.applyEspresso_steady ht _ _ _ _))

theorem execCalibratePower_steady {s₀ s : State} (hs : Steady s₀ s) (h : Nat) (runs : List PowerRun) :
    SteadyRes s₀ (execCalibratePower h runs s) := by
  unfold execCalibratePower
  extract_lets c layer ended t
  have ht : Steady s₀ t := by
    refine foldl_steady hs _ _ (fun x e hx => ?_)
    dsimp only
    split
    · exact hx
    · have h₃ := State.powerAttempt_steady hx e.1 layer e.2
      generalize x.powerAttempt e.1 layer e.2 = q at h₃ ⊢
      obtain ⟨u, w⟩ := q
      cases w with
      | unfinished => exact h₃
      | done ok => exact State.modCmd_steady h₃ _ _
  clear_value t
  split
  · apply steadyRes_next; exact State.calibrate_steady hs _ _ _ _ (fun _ _ _ ht => ht)
  · split
    · apply steadyRes_next; exact hs
    · split
      · apply steadyRes_next; exact State.calFinish_steady ht _ _
      · apply steadyRes_next; exact ht

theorem execCalibrateFull_steady {s₀ s : State} (hs : Steady s₀ s) (h : Nat) (runs : List FullRun) :
    SteadyRes s₀ (execCalibrateFull h runs s) :=
  steadyRes_next (State.calibrate_steady hs _ _ _ _ (fun _ _ _ ht => State.applyFull_steady ht _ _))

theorem execEspressoAuto_steady {s₀ s : State} (hs : Steady s₀ s) (n : Fin 16) (run : Option EspressoRun) :
    SteadyRes s₀ (execEspressoAuto n run s) := by
  unfold execEspressoAuto
  try dsimp only
  repeat' with_reducible (first | assumption | apply steadyRes_next | apply steadyOpt_none | apply steadyOpt_some | apply State.forEach_steady | apply State.when_steady | apply foldl_steady | apply foldl_fst_steady | apply foldl_snd_steady | intro _ | split | apply State.applyEspresso_steady | apply State.endProc_steady | apply State.startProc_steady | apply State.put_steady | apply steadyOpt_get (by assumption) | apply Steady.set | apply Steady.draw | apply Steady.tell | apply Steady.purge | dsimp only)

end Sys2Proof.Machine
end

