-- ==== Sys2Proof/Laws/SteadyClock.lean ====
section
/-!
SUPPORT. What every command keeps (Safety.lean), of the operations and commands of Machine/Clock.lean.
-/
set_option Elab.async false
set_option linter.all false
namespace Sys2Proof.Machine
set_option maxRecDepth 2000

theorem State.advanceChain_steady {s₀ s : State} (hs : Steady s₀ s) : Steady s₀ s.advanceChain := by
  unfold State.advanceChain
  split
  · exact hs.trans ⟨⟨rfl, rfl, List.prefix_refl _, Nat.le_refl _, fun k => k⟩, Nat.le_add_right _ _⟩
  · exact hs.trans ⟨⟨rfl, rfl, List.prefix_refl _, Nat.le_refl _, fun k => k⟩, Nat.le_add_right _ _⟩

theorem State.tick_steady {s₀ s : State} (hs : Steady s₀ s) :
    Steady s₀ (State.tick s) := by
  unfold State.tick
  try dsimp only
  repeat' with_reducible (first | assumption | apply steadyRes_next | apply steadyOpt_none | apply steadyOpt_some | apply State.forEach_steady | apply State.when_steady | apply foldl_steady | apply foldl_fst_steady | apply foldl_snd_steady | intro _ | split | apply State.advanceChain_steady | apply steadyOpt_get (by assumption) | apply Steady.set | apply Steady.draw | apply Steady.tell | apply Steady.purge | dsimp only)

end Sys2Proof.Machine
end

