-- ==== Sys2Proof/Laws/SteadyPcie.lean ====
section
/-!
SUPPORT. What every command keeps (Safety.lean), of the operations and commands of Machine/Pcie.lean.
-/
set_option Elab.async false
set_option linter.all false
namespace Sys2Proof.Machine
set_option maxRecDepth 2000

theorem execBadTlpReceived_steady {s₀ s : State} (hs : Steady s₀ s) (f : Option (Fin 4)) (err : TlpError) :
    SteadyRes s₀ (execBadTlpReceived f err s) := by
  unfold execBadTlpReceived
  try dsimp only
  repeat' with_reducible (first | assumption | apply steadyRes_next | apply steadyOpt_none | apply steadyOpt_some | apply State.forEach_steady | apply State.when_steady | apply foldl_steady | apply foldl_fst_steady | apply foldl_snd_steady | intro _ | split | apply State.logAer_steady | apply steadyOpt_get (by assumption) | apply Steady.set | apply Steady.draw | apply Steady.tell | apply Steady.purge | dsimp only)

theorem execPcieLinkUp_steady {s₀ s : State} (hs : Steady s₀ s) (rate : Fin 8) (width : Fin 32) :
    SteadyRes s₀ (execPcieLinkUp rate width s) := by
  unfold execPcieLinkUp
  try dsimp only
  repeat' with_reducible (first | assumption | apply steadyRes_next | apply steadyOpt_none | apply steadyOpt_some | apply State.forEach_steady | apply State.when_steady | apply foldl_steady | apply foldl_fst_steady | apply foldl_snd_steady | intro _ | split | apply State.put_steady | apply steadyOpt_get (by assumption) | apply Steady.set | apply Steady.draw | apply Steady.tell | apply Steady.purge | dsimp only)

theorem execPcieLinkChange_steady {s₀ s : State} (hs : Steady s₀ s) (rate : Fin 8) (width : Fin 32) :
    SteadyRes s₀ (execPcieLinkChange rate width s) := by
  unfold execPcieLinkChange
  try dsimp only
  repeat' with_reducible (first | assumption | apply steadyRes_next | apply steadyOpt_none | apply steadyOpt_some | apply State.forEach_steady | apply State.when_steady | apply foldl_steady | apply foldl_fst_steady | apply foldl_snd_steady | intro _ | split | apply State.put_steady | apply State.post_steady | apply steadyOpt_get (by assumption) | apply Steady.set | apply Steady.draw | apply Steady.tell | apply Steady.purge | dsimp only)

theorem execAspmL0sEntry_steady {s₀ s : State} (hs : Steady s₀ s) :
    SteadyRes s₀ (execAspmL0sEntry s) := by
  unfold execAspmL0sEntry
  try dsimp only
  repeat' with_reducible (first | assumption | apply steadyRes_next | apply steadyOpt_none | apply steadyOpt_some | apply State.forEach_steady | apply State.when_steady | apply foldl_steady | apply foldl_fst_steady | apply foldl_snd_steady | intro _ | split | apply State.put_steady | apply steadyOpt_get (by assumption) | apply Steady.set | apply Steady.draw | apply Steady.tell | apply Steady.purge | dsimp only)

theorem execAspmL1Entry_steady {s₀ s : State} (hs : Steady s₀ s) :
    SteadyRes s₀ (execAspmL1Entry s) := by
  unfold execAspmL1Entry
  try dsimp only
  repeat' with_reducible (first | assumption | apply steadyRes_next | apply steadyOpt_none | apply steadyOpt_some | apply State.forEach_steady | apply State.when_steady | apply foldl_steady | apply foldl_fst_steady | apply foldl_snd_steady | intro _ | split | apply State.put_steady | apply steadyOpt_get (by assumption) | apply Steady.set | apply Steady.draw | apply Steady.tell | apply Steady.purge | dsimp only)

theorem execL1PmSubstateEntry_steady {s₀ s : State} (hs : Steady s₀ s) (clkreqReleased : Bool) :
    SteadyRes s₀ (execL1PmSubstateEntry clkreqReleased s) := by
  unfold execL1PmSubstateEntry
  try dsimp only
  repeat' with_reducible (first | assumption | apply steadyRes_next | apply steadyOpt_none | apply steadyOpt_some | apply State.forEach_steady | apply State.when_steady | apply foldl_steady | apply foldl_fst_steady | apply foldl_snd_steady | intro _ | split | apply State.put_steady | apply steadyOpt_get (by assumption) | apply Steady.set | apply Steady.draw | apply Steady.tell | apply Steady.purge | dsimp only)

theorem State.resumeFn_steady {s₀ s : State} (hs : Steady s₀ s) (f : Nat) :
    Steady s₀ (State.resumeFn s f) := by
  unfold State.resumeFn
  try dsimp only
  repeat' with_reducible (first | assumption | apply steadyRes_next | apply steadyOpt_none | apply steadyOpt_some | apply State.forEach_steady | apply State.when_steady | apply foldl_steady | apply foldl_fst_steady | apply foldl_snd_steady | intro _ | split | apply State.pump_steady | apply State.pumpJob_steady | apply State.pumpDownload_steady | apply State.drainStaging_steady | apply steadyOpt_get (by assumption) | apply Steady.set | apply Steady.draw | apply Steady.tell | apply Steady.purge | dsimp only)

theorem execPmD3hotEntry_steady {s₀ s : State} (hs : Steady s₀ s) (f : Fin 4) :
    SteadyRes s₀ (execPmD3hotEntry f s) := by
  unfold execPmD3hotEntry
  try dsimp only
  repeat' with_reducible (first | assumption | apply steadyRes_next | apply steadyOpt_none | apply steadyOpt_some | apply State.forEach_steady | apply State.when_steady | apply foldl_steady | apply foldl_fst_steady | apply foldl_snd_steady | intro _ | split | apply State.put_steady | apply steadyOpt_get (by assumption) | apply Steady.set | apply Steady.draw | apply Steady.tell | apply Steady.purge | dsimp only)

theorem execPmD0Return_steady {s₀ s : State} (hs : Steady s₀ s) (f : Fin 4) :
    SteadyRes s₀ (execPmD0Return f s) := by
  unfold execPmD0Return
  try dsimp only
  repeat' with_reducible (first | assumption | apply steadyRes_next | apply steadyOpt_none | apply steadyOpt_some | apply State.forEach_steady | apply State.when_steady | apply foldl_steady | apply foldl_fst_steady | apply foldl_snd_steady | intro _ | split | apply State.put_steady | apply State.wakeLink_steady | apply State.resumeFn_steady | apply steadyOpt_get (by assumption) | apply Steady.set | apply Steady.draw | apply Steady.tell | apply Steady.purge | dsimp only)

theorem State.discardCmd_steady {s₀ s : State} (hs : Steady s₀ s) (h : Nat) :
    Steady s₀ (State.discardCmd s h) := by
  unfold State.discardCmd
  try dsimp only
  repeat' with_reducible (first | assumption | apply steadyRes_next | apply steadyOpt_none | apply steadyOpt_some | apply State.forEach_steady | apply State.when_steady | apply foldl_steady | apply foldl_fst_steady | apply foldl_snd_steady | intro _ | split | apply State.releaseUses_steady | apply State.dropCmd_steady | apply State.padLbas_steady | apply steadyOpt_get (by assumption) | apply Steady.set | apply Steady.draw | apply Steady.tell | apply Steady.purge | dsimp only)

theorem State.discardForwarded_steady {s₀ s : State} (hs : Steady s₀ s) (f : Nat) :
    Steady s₀ (State.discardForwarded s f) := by
  unfold State.discardForwarded
  try dsimp only
  repeat' with_reducible (first | assumption | apply steadyRes_next | apply steadyOpt_none | apply steadyOpt_some | apply State.forEach_steady | apply State.when_steady | apply foldl_steady | apply foldl_fst_steady | apply foldl_snd_steady | intro _ | split | apply State.route_steady | apply steadyOpt_get (by assumption) | apply Steady.set | apply Steady.draw | apply Steady.tell | apply Steady.purge | dsimp only)

theorem State.silence_steady {s₀ s : State} (hs : Steady s₀ s) (f : Nat) :
    Steady s₀ (State.silence s f) := by
  unfold State.silence
  try dsimp only
  repeat' with_reducible (first | assumption | apply steadyRes_next | apply steadyOpt_none | apply steadyOpt_some | apply State.forEach_steady | apply State.when_steady | apply foldl_steady | apply foldl_fst_steady | apply foldl_snd_steady | intro _ | split | apply State.emitAll_steady | apply State.discardForwarded_steady | apply State.modCmd_steady | apply State.discardCmd_steady | apply State.setEntry_steady | apply State.freeEntry_steady | apply State.closeBlock_steady | apply steadyOpt_get (by assumption) | apply Steady.set | apply Steady.draw | apply Steady.tell | apply Steady.purge | dsimp only)

theorem State.dropWindows_steady {s₀ s : State} (hs : Steady s₀ s) (f : Nat) :
    Steady s₀ (State.dropWindows s f) := by
  unfold State.dropWindows
  try dsimp only
  repeat' with_reducible (first | assumption | apply steadyRes_next | apply steadyOpt_none | apply steadyOpt_some | apply State.forEach_steady | apply State.when_steady | apply foldl_steady | apply foldl_fst_steady | apply foldl_snd_steady | intro _ | split | apply State.put_steady | apply steadyOpt_get (by assumption) | apply Steady.set | apply Steady.draw | apply Steady.tell | apply Steady.purge | dsimp only)

theorem State.initiateFlr_steady {s₀ s : State} (hs : Steady s₀ s) (f : Nat) :
    Steady s₀ (State.initiateFlr s f) := by
  unfold State.initiateFlr
  try dsimp only
  repeat' with_reducible (first | assumption | apply steadyRes_next | apply steadyOpt_none | apply steadyOpt_some | apply State.forEach_steady | apply State.when_steady | apply foldl_steady | apply foldl_fst_steady | apply foldl_snd_steady | intro _ | split | apply State.put_steady | apply State.silence_steady | apply State.dropWindows_steady | apply steadyOpt_get (by assumption) | apply Steady.set | apply Steady.draw | apply Steady.tell | apply Steady.purge | dsimp only)

theorem execInitiateFlr_steady {s₀ s : State} (hs : Steady s₀ s) (f : Fin 4) :
    SteadyRes s₀ (execInitiateFlr f s) := by
  unfold execInitiateFlr
  try dsimp only
  repeat' with_reducible (first | assumption | apply steadyRes_next | apply steadyOpt_none | apply steadyOpt_some | apply State.forEach_steady | apply State.when_steady | apply foldl_steady | apply foldl_fst_steady | apply foldl_snd_steady | intro _ | split | apply State.initiateFlr_steady | apply steadyOpt_get (by assumption) | apply Steady.set | apply Steady.draw | apply Steady.tell | apply Steady.purge | dsimp only)

theorem State.resetFunctionBlocks_steady {s₀ s : State} (hs : Steady s₀ s) (f : Nat) :
    Steady s₀ (State.resetFunctionBlocks s f) := by
  unfold State.resetFunctionBlocks
  try dsimp only
  repeat' with_reducible (first | assumption | apply steadyRes_next | apply steadyOpt_none | apply steadyOpt_some | apply State.forEach_steady | apply State.when_steady | apply foldl_steady | apply foldl_fst_steady | apply foldl_snd_steady | intro _ | split | apply steadyOpt_get (by assumption) | apply Steady.set | apply Steady.draw | apply Steady.tell | apply Steady.purge | dsimp only)

theorem State.resetConfig_steady {s₀ s : State} (hs : Steady s₀ s) (f : Nat) :
    Steady s₀ (State.resetConfig s f) := by
  unfold State.resetConfig
  try dsimp only
  repeat' with_reducible (first | assumption | apply steadyRes_next | apply steadyOpt_none | apply steadyOpt_some | apply State.forEach_steady | apply State.when_steady | apply foldl_steady | apply foldl_fst_steady | apply foldl_snd_steady | intro _ | split | apply steadyOpt_get (by assumption) | apply Steady.set | apply Steady.draw | apply Steady.tell | apply Steady.purge | dsimp only)

theorem execFlrDone_steady {s₀ s : State} (hs : Steady s₀ s) (f : Fin 4) :
    SteadyRes s₀ (execFlrDone f s) := by
  unfold execFlrDone
  try dsimp only
  repeat' with_reducible (first | assumption | apply steadyRes_next | apply steadyOpt_none | apply steadyOpt_some | apply State.forEach_steady | apply State.when_steady | apply foldl_steady | apply foldl_fst_steady | apply foldl_snd_steady | intro _ | split | apply State.resetConfig_steady | apply State.put_steady | apply State.resetFunctionBlocks_steady | apply State.post_steady | apply steadyOpt_get (by assumption) | apply Steady.set | apply Steady.draw | apply Steady.tell | apply Steady.purge | dsimp only)

theorem execHotReset_steady {s₀ s : State} (hs : Steady s₀ s) :
    SteadyRes s₀ (execHotReset s) := by
  unfold execHotReset
  try dsimp only
  repeat' with_reducible (first | assumption | apply steadyRes_next | apply steadyOpt_none | apply steadyOpt_some | apply State.forEach_steady | apply State.when_steady | apply foldl_steady | apply foldl_fst_steady | apply foldl_snd_steady | intro _ | split | apply State.initiateFlr_steady | apply steadyOpt_get (by assumption) | apply Steady.set | apply Steady.draw | apply Steady.tell | apply Steady.purge | dsimp only)

theorem execDlDown_steady {s₀ s : State} (hs : Steady s₀ s) :
    SteadyRes s₀ (execDlDown s) := by
  unfold execDlDown
  try dsimp only
  repeat' with_reducible (first | assumption | apply steadyRes_next | apply steadyOpt_none | apply steadyOpt_some | apply State.forEach_steady | apply State.when_steady | apply foldl_steady | apply foldl_fst_steady | apply foldl_snd_steady | intro _ | split | apply State.initiateFlr_steady | apply steadyOpt_get (by assumption) | apply Steady.set | apply Steady.draw | apply Steady.tell | apply Steady.purge | dsimp only)

theorem State.wedge_steady {s₀ s : State} (hs : Steady s₀ s) (f : Nat) :
    Steady s₀ (State.wedge s f) := by
  unfold State.wedge
  try dsimp only
  repeat' with_reducible (first | assumption | apply steadyRes_next | apply steadyOpt_none | apply steadyOpt_some | apply State.forEach_steady | apply State.when_steady | apply foldl_steady | apply foldl_fst_steady | apply foldl_snd_steady | intro _ | split | apply State.put_steady | apply State.silence_steady | apply State.dropWindows_steady | apply State.logAer_steady | apply State.emit_steady | apply State.post_steady | apply steadyOpt_get (by assumption) | apply Steady.set | apply Steady.draw | apply Steady.tell | apply Steady.purge | dsimp only)

theorem execFunctionWedged_steady {s₀ s : State} (hs : Steady s₀ s) (f : Fin 4) :
    SteadyRes s₀ (execFunctionWedged f s) := by
  unfold execFunctionWedged
  try dsimp only
  repeat' with_reducible (first | assumption | apply steadyRes_next | apply steadyOpt_none | apply steadyOpt_some | apply State.forEach_steady | apply State.when_steady | apply foldl_steady | apply foldl_fst_steady | apply foldl_snd_steady | intro _ | split | apply State.wedge_steady | apply steadyOpt_get (by assumption) | apply Steady.set | apply Steady.draw | apply Steady.tell | apply Steady.purge | dsimp only)

theorem State.pumpDown_steady {s₀ s : State} (hs : Steady s₀ s) (h tag : Nat) :
    Steady s₀ (State.pumpDown s h tag) := by
  unfold State.pumpDown
  try dsimp only
  repeat' with_reducible (first | assumption | apply steadyRes_next | apply steadyOpt_none | apply steadyOpt_some | apply State.forEach_steady | apply State.when_steady | apply foldl_steady | apply foldl_fst_steady | apply foldl_snd_steady | intro _ | split | apply State.modCmd_steady | apply State.issueSource_steady | apply steadyOpt_get (by assumption) | apply Steady.set | apply Steady.draw | apply Steady.tell | apply Steady.purge | dsimp only)

theorem State.downBytes_steady {s₀ s : State} (hs : Steady s₀ s) (h off : Nat) (bytes : List Nat) (poison : Bool) :
    Steady s₀ (State.downBytes s h off bytes poison) := by
  unfold State.downBytes
  try dsimp only
  repeat' with_reducible (first | assumption | apply steadyRes_next | apply steadyOpt_none | apply steadyOpt_some | apply State.forEach_steady | apply State.when_steady | apply foldl_steady | apply foldl_fst_steady | apply foldl_snd_steady | intro _ | split | apply State.put_steady | apply State.setCmd_steady | apply State.pumpDown_steady | apply State.sendData_steady | apply steadyOpt_get (by assumption) | apply Steady.set | apply Steady.draw | apply Steady.tell | apply Steady.purge | dsimp only)

theorem State.readFailed_steady {s₀ s : State} (hs : Steady s₀ s) (r : ReadReq) (status : Nat) :
    Steady s₀ (State.readFailed s r status) := by
  unfold State.readFailed
  try dsimp only
  repeat' with_reducible (first | assumption | apply steadyRes_next | apply steadyOpt_none | apply steadyOpt_some | apply State.forEach_steady | apply State.when_steady | apply foldl_steady | apply foldl_fst_steady | apply foldl_snd_steady | intro _ | split | apply State.fetchFailed_steady | apply State.refuse_steady | apply State.setCmd_steady | apply State.stopCmd_steady | apply steadyOpt_get (by assumption) | apply Steady.set | apply Steady.draw | apply Steady.tell | apply Steady.purge | dsimp only)

theorem State.readDone_steady {s₀ s : State} (hs : Steady s₀ s) (r : ReadReq) :
    Steady s₀ (State.readDone s r) := by
  unfold State.readDone
  try dsimp only
  repeat' with_reducible (first | assumption | apply steadyRes_next | apply steadyOpt_none | apply steadyOpt_some | apply State.forEach_steady | apply State.when_steady | apply foldl_steady | apply foldl_fst_steady | apply foldl_snd_steady | intro _ | split | apply State.setCmd_steady | apply State.modCmd_steady | apply State.put_steady | apply State.downBytes_steady | apply State.gatherBytes_steady | apply State.jobBytes_steady | apply State.downloadBytes_steady | apply steadyOpt_get (by assumption) | apply Steady.set | apply Steady.draw | apply Steady.tell | apply Steady.purge | dsimp only)

theorem State.unexpectedCpl_steady {s₀ s : State} (hs : Steady s₀ s) (f tag : Nat) :
    Steady s₀ (State.unexpectedCpl s f tag) := by
  unfold State.unexpectedCpl
  try dsimp only
  repeat' with_reducible (first | assumption | apply steadyRes_next | apply steadyOpt_none | apply steadyOpt_some | apply State.forEach_steady | apply State.when_steady | apply foldl_steady | apply foldl_fst_steady | apply foldl_snd_steady | intro _ | split | apply State.logAer_steady | apply State.count_steady | apply State.raise_steady | apply steadyOpt_get (by assumption) | apply Steady.set | apply Steady.draw | apply Steady.tell | apply Steady.purge | dsimp only)

theorem execCompletionTlp_steady {s₀ s : State} (hs : Steady s₀ s) (f : Fin 4) (tag : Nat) (status : CplStatus) (data : List Byte) :
    SteadyRes s₀ (execCompletionTlp f tag status data s) := by
  unfold execCompletionTlp
  try dsimp only
  repeat' with_reducible (first | assumption | apply steadyRes_next | apply steadyOpt_none | apply steadyOpt_some | apply State.forEach_steady | apply State.when_steady | apply foldl_steady | apply foldl_fst_steady | apply foldl_snd_steady | intro _ | split | apply State.unexpectedCpl_steady | apply State.wakeLink_steady | apply State.dropReq_steady | apply State.readDone_steady | apply State.resumeFn_steady | apply State.logAer_steady | apply State.readFailed_steady | apply steadyOpt_get (by assumption) | apply Steady.set | apply Steady.draw | apply Steady.tell | apply Steady.purge | dsimp only)

theorem execCplTimeout_steady {s₀ s : State} (hs : Steady s₀ s) (f : Fin 4) (tag : Nat) :
    SteadyRes s₀ (execCplTimeout f tag s) := by
  unfold execCplTimeout
  try dsimp only
  repeat' with_reducible (first | assumption | apply steadyRes_next | apply steadyOpt_none | apply steadyOpt_some | apply State.forEach_steady | apply State.when_steady | apply foldl_steady | apply foldl_fst_steady | apply foldl_snd_steady | intro _ | split | apply State.dropReq_steady | apply State.logAer_steady | apply State.count_steady | apply State.raise_steady | apply State.readFailed_steady | apply steadyOpt_get (by assumption) | apply Steady.set | apply Steady.draw | apply Steady.tell | apply Steady.purge | dsimp only)

theorem execTagQuarantineEnd_steady {s₀ s : State} (hs : Steady s₀ s) (f : Fin 4) (tag : Nat) :
    SteadyRes s₀ (execTagQuarantineEnd f tag s) := by
  unfold execTagQuarantineEnd
  try dsimp only
  repeat' with_reducible (first | assumption | apply steadyRes_next | apply steadyOpt_none | apply steadyOpt_some | apply State.forEach_steady | apply State.when_steady | apply foldl_steady | apply foldl_fst_steady | apply foldl_snd_steady | intro _ | split | apply State.resumeFn_steady | apply steadyOpt_get (by assumption) | apply Steady.set | apply Steady.draw | apply Steady.tell | apply Steady.purge | dsimp only)

theorem State.peerAbort_steady {s₀ s : State} (hs : Steady s₀ s) (f id mslot block j reason : Nat) :
    Steady s₀ (State.peerAbort s f id mslot block j reason) := by
  unfold State.peerAbort
  try dsimp only
  repeat' with_reducible (first | assumption | apply steadyRes_next | apply steadyOpt_none | apply steadyOpt_some | apply State.forEach_steady | apply State.when_steady | apply foldl_steady | apply foldl_fst_steady | apply foldl_snd_steady | intro _ | split | apply State.takeFree_steady | apply State.logAer_steady | apply State.emit_steady | apply State.raise_steady | apply steadyOpt_get (by assumption) | apply Steady.set | apply Steady.draw | apply Steady.tell | apply Steady.purge | dsimp only)

theorem State.peerAnswer_steady {s₀ s : State} (hs : Steady s₀ s) (p : PeerRead) :
    SteadyOpt s₀ (State.peerAnswer s p) := by
  unfold State.peerAnswer
  try dsimp only
  repeat' with_reducible (first | assumption | apply steadyRes_next | apply steadyOpt_none | apply steadyOpt_some | apply State.forEach_steady | apply State.when_steady | apply foldl_steady | apply foldl_fst_steady | apply foldl_snd_steady | intro _ | split | apply State.readSector_steady | apply State.peerAbort_steady | apply State.emit_steady | apply steadyOpt_get (by assumption) | apply Steady.set | apply Steady.draw | apply Steady.tell | apply Steady.purge | dsimp only)

theorem State.peerUnsupported_steady {s₀ s : State} (hs : Steady s₀ s) (f offset : Nat) :
    Steady s₀ (State.peerUnsupported s f offset) := by
  unfold State.peerUnsupported
  try dsimp only
  repeat' with_reducible (first | assumption | apply steadyRes_next | apply steadyOpt_none | apply steadyOpt_some | apply State.forEach_steady | apply State.when_steady | apply foldl_steady | apply foldl_fst_steady | apply foldl_snd_steady | intro _ | split | apply State.logAer_steady | apply State.raise_steady | apply steadyOpt_get (by assumption) | apply Steady.set | apply Steady.draw | apply Steady.tell | apply Steady.purge | dsimp only)

theorem execPeerRead_steady {s₀ s : State} (hs : Steady s₀ s) (f : Fin 4) (offset len : Nat) :
    SteadyRes s₀ (execPeerRead f offset len s) := by
  unfold execPeerRead
  try dsimp only
  repeat' with_reducible (first | assumption | apply steadyRes_next | apply steadyOpt_none | apply steadyOpt_some | apply State.forEach_steady | apply State.when_steady | apply foldl_steady | apply foldl_fst_steady | apply foldl_snd_steady | intro _ | split | apply State.wakeLink_steady | apply State.logAer_steady | apply State.emit_steady | apply State.peerUnsupported_steady | apply State.peerAnswer_steady | apply steadyOpt_get (by assumption) | apply Steady.set | apply Steady.draw | apply Steady.tell | apply Steady.purge | dsimp only)

theorem execPeerReadResume_steady {s₀ s : State} (hs : Steady s₀ s) (id : Nat) :
    SteadyRes s₀ (execPeerReadResume id s) := by
  unfold execPeerReadResume
  try dsimp only
  repeat' with_reducible (first | assumption | apply steadyRes_next | apply steadyOpt_none | apply steadyOpt_some | apply State.forEach_steady | apply State.when_steady | apply foldl_steady | apply foldl_fst_steady | apply foldl_snd_steady | intro _ | split | apply State.peerAnswer_steady | apply steadyOpt_get (by assumption) | apply Steady.set | apply Steady.draw | apply Steady.tell | apply Steady.purge | dsimp only)

theorem execPeerReadTimeout_steady {s₀ s : State} (hs : Steady s₀ s) (id : Nat) :
    SteadyRes s₀ (execPeerReadTimeout id s) := by
  unfold execPeerReadTimeout
  try dsimp only
  repeat' with_reducible (first | assumption | apply steadyRes_next | apply steadyOpt_none | apply steadyOpt_some | apply State.forEach_steady | apply State.when_steady | apply foldl_steady | apply foldl_fst_steady | apply foldl_snd_steady | intro _ | split | apply State.peerAbort_steady | apply steadyOpt_get (by assumption) | apply Steady.set | apply Steady.draw | apply Steady.tell | apply Steady.purge | dsimp only)

theorem execBar2Write_steady {s₀ s : State} (hs : Steady s₀ s) (f : Fin 4) (offset : Nat) :
    SteadyRes s₀ (execBar2Write f offset s) := by
  unfold execBar2Write
  try dsimp only
  repeat' with_reducible (first | assumption | apply steadyRes_next | apply steadyOpt_none | apply steadyOpt_some | apply State.forEach_steady | apply State.when_steady | apply foldl_steady | apply foldl_fst_steady | apply foldl_snd_steady | intro _ | split | apply State.wakeLink_steady | apply State.peerUnsupported_steady | apply State.logAer_steady | apply steadyOpt_get (by assumption) | apply Steady.set | apply Steady.draw | apply Steady.tell | apply Steady.purge | dsimp only)

theorem execWindowCommit_steady {s₀ s : State} (hs : Steady s₀ s) (f : Fin 4) :
    SteadyRes s₀ (execWindowCommit f s) := by
  unfold execWindowCommit
  try dsimp only
  repeat' with_reducible (first | assumption | apply steadyRes_next | apply steadyOpt_none | apply steadyOpt_some | apply State.forEach_steady | apply State.when_steady | apply foldl_steady | apply foldl_fst_steady | apply foldl_snd_steady | intro _ | split | apply State.put_steady | apply steadyOpt_get (by assumption) | apply Steady.set | apply Steady.draw | apply Steady.tell | apply Steady.purge | dsimp only)

theorem execWindowCommitApply_steady {s₀ s : State} (hs : Steady s₀ s) (f : Fin 4) :
    SteadyRes s₀ (execWindowCommitApply f s) := by
  unfold execWindowCommitApply
  try dsimp only
  repeat' with_reducible (first | assumption | apply steadyRes_next | apply steadyOpt_none | apply steadyOpt_some | apply State.forEach_steady | apply State.when_steady | apply foldl_steady | apply foldl_fst_steady | apply foldl_snd_steady | intro _ | split | apply State.put_steady | apply steadyOpt_get (by assumption) | apply Steady.set | apply Steady.draw | apply Steady.tell | apply Steady.purge | dsimp only)

theorem State.unmaskAll_steady {s₀ s : State} (hs : Steady s₀ s) (f : Nat) :
    Steady s₀ (State.unmaskAll s f) := by
  unfold State.unmaskAll
  try dsimp only
  repeat' with_reducible (first | assumption | apply steadyRes_next | apply steadyOpt_none | apply steadyOpt_some | apply State.forEach_steady | apply State.when_steady | apply foldl_steady | apply foldl_fst_steady | apply foldl_snd_steady | intro _ | split | apply State.setPendingBit_steady | apply State.sendMessage_steady | apply steadyOpt_get (by assumption) | apply Steady.set | apply Steady.draw | apply Steady.tell | apply Steady.purge | dsimp only)

theorem execConfigurationRequest_steady {s₀ s : State} (hs : Steady s₀ s) (f : Fin 4) (field : CfgField) (write : Option Nat) :
    SteadyRes s₀ (execConfigurationRequest f field write s) := by
  unfold execConfigurationRequest
  try dsimp only
  repeat' with_reducible (first | assumption | apply steadyRes_next | apply steadyOpt_none | apply steadyOpt_some | apply State.forEach_steady | apply State.when_steady | apply foldl_steady | apply foldl_fst_steady | apply foldl_snd_steady | intro _ | split | apply State.wakeLink_steady | apply State.emit_steady | apply State.setCfg_steady | apply State.unmaskAll_steady | apply steadyOpt_get (by assumption) | apply Steady.set | apply Steady.draw | apply Steady.tell | apply Steady.purge | dsimp only)

end Sys2Proof.Machine
end

