-- ==== Sys2Proof/Laws/SteadyMbalar.lean ====
section
/-!
SUPPORT. What every command keeps (Safety.lean), of the operations and commands of Machine/Mbalar.lean.
-/
set_option Elab.async false
set_option linter.all false
namespace Sys2Proof.Machine
set_option maxRecDepth 2000

theorem execPortTrainingStart_steady {s₀ s : State} (hs : Steady s₀ s) (q : Fin 5) :
    SteadyRes s₀ (execPortTrainingStart q s) := by
  unfold execPortTrainingStart
  try dsimp only
  repeat' with_reducible (first | assumption | apply steadyRes_next | apply steadyOpt_none | apply steadyOpt_some | apply State.forEach_steady | apply State.when_steady | apply foldl_steady | apply foldl_fst_steady | apply foldl_snd_steady | intro _ | split | apply State.modPort_steady | apply steadyOpt_get (by assumption) | apply Steady.set | apply Steady.draw | apply Steady.tell | apply Steady.purge | dsimp only)

theorem State.endForwarded_steady {s₀ s : State} (hs : Steady s₀ s) (p : Fwd → Bool) (status : Nat) :
    Steady s₀ (State.endForwarded s p status) := by
  unfold State.endForwarded
  try dsimp only
  repeat' with_reducible (first | assumption | apply steadyRes_next | apply steadyOpt_none | apply steadyOpt_some | apply State.forEach_steady | apply State.when_steady | apply foldl_steady | apply foldl_fst_steady | apply foldl_snd_steady | intro _ | split | apply State.finish_steady | apply steadyOpt_get (by assumption) | apply Steady.set | apply Steady.draw | apply Steady.tell | apply Steady.purge | dsimp only)

theorem State.loseSubtree_steady {s₀ s : State} (hs : Steady s₀ s) (q : Nat) :
    Steady s₀ (State.loseSubtree s q) := by
  unfold State.loseSubtree
  try dsimp only
  repeat' with_reducible (first | assumption | apply steadyRes_next | apply steadyOpt_none | apply steadyOpt_some | apply State.forEach_steady | apply State.when_steady | apply foldl_steady | apply foldl_fst_steady | apply foldl_snd_steady | intro _ | split | apply State.endForwarded_steady | apply steadyOpt_get (by assumption) | apply Steady.set | apply Steady.draw | apply Steady.tell | apply Steady.purge | dsimp only)

theorem State.portDown_steady {s₀ s : State} (hs : Steady s₀ s) (q reason : Nat) :
    Steady s₀ (State.portDown s q reason) := by
  unfold State.portDown
  try dsimp only
  repeat' with_reducible (first | assumption | apply steadyRes_next | apply steadyOpt_none | apply steadyOpt_some | apply State.forEach_steady | apply State.when_steady | apply foldl_steady | apply foldl_fst_steady | apply foldl_snd_steady | intro _ | split | apply State.modPort_steady | apply State.put_steady | apply State.raise_steady | apply State.loseSubtree_steady | apply steadyOpt_get (by assumption) | apply Steady.set | apply Steady.draw | apply Steady.tell | apply Steady.purge | dsimp only)

theorem execPortDown_steady {s₀ s : State} (hs : Steady s₀ s) (q : Fin 5) :
    SteadyRes s₀ (execPortDown q s) := by
  unfold execPortDown
  try dsimp only
  repeat' with_reducible (first | assumption | apply steadyRes_next | apply steadyOpt_none | apply steadyOpt_some | apply State.forEach_steady | apply State.when_steady | apply foldl_steady | apply foldl_fst_steady | apply foldl_snd_steady | intro _ | split | apply State.portDown_steady | apply steadyOpt_get (by assumption) | apply Steady.set | apply Steady.draw | apply Steady.tell | apply Steady.purge | dsimp only)

theorem State.fence_steady {s₀ s : State} (hs : Steady s₀ s) (q : Nat) :
    Steady s₀ (State.fence s q) := by
  unfold State.fence
  try dsimp only
  repeat' with_reducible (first | assumption | apply steadyRes_next | apply steadyOpt_none | apply steadyOpt_some | apply State.forEach_steady | apply State.when_steady | apply foldl_steady | apply foldl_fst_steady | apply foldl_snd_steady | intro _ | split | apply State.put_steady | apply State.loseSubtree_steady | apply steadyOpt_get (by assumption) | apply Steady.set | apply Steady.draw | apply Steady.tell | apply Steady.purge | dsimp only)

theorem State.checkLevel_steady {s₀ s : State} (hs : Steady s₀ s) (q : Nat) :
    Steady s₀ (State.checkLevel s q) := by
  unfold State.checkLevel
  try dsimp only
  repeat' with_reducible (first | assumption | apply steadyRes_next | apply steadyOpt_none | apply steadyOpt_some | apply State.forEach_steady | apply State.when_steady | apply foldl_steady | apply foldl_fst_steady | apply foldl_snd_steady | intro _ | split | apply State.fence_steady | apply State.post_steady | apply steadyOpt_get (by assumption) | apply Steady.set | apply Steady.draw | apply Steady.tell | apply Steady.purge | dsimp only)

theorem execPortUp_steady {s₀ s : State} (hs : Steady s₀ s) (q : Fin 5) (gen width : Nat) (partner4080 : Bool) (level : Fin 16) (clash : Bool) :
    SteadyRes s₀ (execPortUp q gen width partner4080 level clash s) := by
  unfold execPortUp
  try dsimp only
  repeat' with_reducible (first | assumption | apply steadyRes_next | apply steadyOpt_none | apply steadyOpt_some | apply State.forEach_steady | apply State.when_steady | apply foldl_steady | apply foldl_fst_steady | apply foldl_snd_steady | intro _ | split | apply State.modPort_steady | apply State.put_steady | apply State.setFlag_steady | apply State.setPort_steady | apply State.emitAll_steady | apply State.raise_steady | apply State.checkLevel_steady | apply steadyOpt_get (by assumption) | apply Steady.set | apply Steady.draw | apply Steady.tell | apply Steady.purge | dsimp only)

theorem State.retrain_steady {s₀ s : State} (hs : Steady s₀ s) (q : Nat) :
    Steady s₀ (State.retrain s q) := by
  unfold State.retrain
  try dsimp only
  repeat' with_reducible (first | assumption | apply steadyRes_next | apply steadyOpt_none | apply steadyOpt_some | apply State.forEach_steady | apply State.when_steady | apply foldl_steady | apply foldl_fst_steady | apply foldl_snd_steady | intro _ | split | apply State.modPort_steady | apply steadyOpt_get (by assumption) | apply Steady.set | apply Steady.draw | apply Steady.tell | apply Steady.purge | dsimp only)

theorem execPortRetrain_steady {s₀ s : State} (hs : Steady s₀ s) (q : Fin 5) :
    SteadyRes s₀ (execPortRetrain q s) := by
  unfold execPortRetrain
  try dsimp only
  repeat' with_reducible (first | assumption | apply steadyRes_next | apply steadyOpt_none | apply steadyOpt_some | apply State.forEach_steady | apply State.when_steady | apply foldl_steady | apply foldl_fst_steady | apply foldl_snd_steady | intro _ | split | apply State.retrain_steady | apply steadyOpt_get (by assumption) | apply Steady.set | apply Steady.draw | apply Steady.tell | apply Steady.purge | dsimp only)

theorem State.replayFrames_steady {s₀ s : State} (hs : Steady s₀ s) (q : Nat) :
    Steady s₀ (State.replayFrames s q) := by
  unfold State.replayFrames
  try dsimp only
  repeat' with_reducible (first | assumption | apply steadyRes_next | apply steadyOpt_none | apply steadyOpt_some | apply State.forEach_steady | apply State.when_steady | apply foldl_steady | apply foldl_fst_steady | apply foldl_snd_steady | intro _ | split | apply State.retrain_steady | apply State.raise_steady | apply State.setPort_steady | apply State.incSat_steady | apply State.emitAll_steady | apply steadyOpt_get (by assumption) | apply Steady.set | apply Steady.draw | apply Steady.tell | apply Steady.purge | dsimp only)

theorem execLinkReplayTimeout_steady {s₀ s : State} (hs : Steady s₀ s) (q : Fin 5) :
    SteadyRes s₀ (execLinkReplayTimeout q s) := by
  unfold execLinkReplayTimeout
  try dsimp only
  repeat' with_reducible (first | assumption | apply steadyRes_next | apply steadyOpt_none | apply steadyOpt_some | apply State.forEach_steady | apply State.when_steady | apply foldl_steady | apply foldl_fst_steady | apply foldl_snd_steady | intro _ | split | apply State.replayFrames_steady | apply steadyOpt_get (by assumption) | apply Steady.set | apply Steady.draw | apply Steady.tell | apply Steady.purge | dsimp only)

theorem State.ackFrames_steady {s₀ s : State} (hs : Steady s₀ s) (q seq : Nat) :
    Steady s₀ (State.ackFrames s q seq) := by
  unfold State.ackFrames
  try dsimp only
  repeat' with_reducible (first | assumption | apply steadyRes_next | apply steadyOpt_none | apply steadyOpt_some | apply State.forEach_steady | apply State.when_steady | apply foldl_steady | apply foldl_fst_steady | apply foldl_snd_steady | intro _ | split | apply State.setPort_steady | apply steadyOpt_get (by assumption) | apply Steady.set | apply Steady.draw | apply Steady.tell | apply Steady.purge | dsimp only)

theorem State.arrive_steady {s₀ s : State} (hs : Steady s₀ s) (q : Nat) (p : Packet) :
    Steady s₀ (State.arrive s q p) := by
  unfold State.arrive
  try dsimp only
  repeat' with_reducible (first | assumption | apply steadyRes_next | apply steadyOpt_none | apply steadyOpt_some | apply State.forEach_steady | apply State.when_steady | apply foldl_steady | apply foldl_fst_steady | apply foldl_snd_steady | intro _ | split | apply State.takeIn_steady | apply State.sendOn_steady | apply State.route_steady | apply steadyOpt_get (by assumption) | apply Steady.set | apply Steady.draw | apply Steady.tell | apply Steady.purge | dsimp only)

theorem execLinkFrame_steady {s₀ s : State} (hs : Steady s₀ s) (q : Fin 5) (ev : LinkEvent) :
    SteadyRes s₀ (execLinkFrame q ev s) := by
  unfold execLinkFrame
  try dsimp only
  repeat' with_reducible (first | assumption | apply steadyRes_next | apply steadyOpt_none | apply steadyOpt_some | apply State.forEach_steady | apply State.when_steady | apply foldl_steady | apply foldl_fst_steady | apply foldl_snd_steady | intro _ | split | apply State.ackFrames_steady | apply State.setPort_steady | apply State.replayFrames_steady | apply State.emit_steady | apply State.count_steady | apply State.arrive_steady | apply State.modPort_steady | apply steadyOpt_get (by assumption) | apply Steady.set | apply Steady.draw | apply Steady.tell | apply Steady.purge | dsimp only)

theorem State.takeFirst_steady {s₀ s t : State} {sel : Packet → Bool} {e : InPacket} (h : s.takeFirst sel = some (e, t))
    (hs : Steady s₀ s) : Steady s₀ t := by
  unfold State.takeFirst at h
  split at h
  · cases h
  · dsimp only at h
    split at h
    · cases h
    · cases h
      exact Steady.set hs ..

theorem execCmdPacket_steady {s₀ s : State} (hs : Steady s₀ s) :
    SteadyRes s₀ (execCmdPacket s) := by
  unfold execCmdPacket
  try dsimp only
  repeat' with_reducible (first | assumption | apply steadyRes_next | apply steadyOpt_none | apply steadyOpt_some | apply State.forEach_steady | apply State.when_steady | apply foldl_steady | apply foldl_fst_steady | apply foldl_snd_steady | intro _ | split | apply State.takeFirst_steady (by assumption) | apply State.calibrate_steady | apply State.setCmd_steady | apply State.refuse_steady | apply State.modCmd_steady | apply steadyOpt_get (by assumption) | apply Steady.set | apply Steady.draw | apply Steady.tell | apply Steady.purge | dsimp only)

theorem State.sendAnswerUp_steady {s₀ s : State} (hs : Steady s₀ s) (h tag fuel : Nat) : Steady s₀ (State.sendAnswerUp h tag fuel s) := by
  induction fuel generalizing s with
  | zero => exact hs
  | succ fuel ih =>
    unfold State.sendAnswerUp
    dsimp only
    repeat' with_reducible (first | assumption | split | apply ih | apply State.finish_steady | apply State.setCmd_steady | apply State.sendData_steady)

theorem execXferRdyPacket_steady {s₀ s : State} (hs : Steady s₀ s) :
    SteadyRes s₀ (execXferRdyPacket s) := by
  unfold execXferRdyPacket
  try dsimp only
  repeat' with_reducible (first | assumption | apply steadyRes_next | apply steadyOpt_none | apply steadyOpt_some | apply State.forEach_steady | apply State.when_steady | apply foldl_steady | apply foldl_fst_steady | apply foldl_snd_steady | intro _ | split | apply State.takeFirst_steady (by assumption) | apply State.pumpDown_steady | apply State.sendAnswerUp_steady | apply steadyOpt_get (by assumption) | apply Steady.set | apply Steady.draw | apply Steady.tell | apply Steady.purge | dsimp only)

theorem execDataPacket_steady {s₀ s : State} (hs : Steady s₀ s) :
    SteadyRes s₀ (execDataPacket s) := by
  unfold execDataPacket
  try dsimp only
  repeat' with_reducible (first | assumption | apply steadyRes_next | apply steadyOpt_none | apply steadyOpt_some | apply State.forEach_steady | apply State.when_steady | apply foldl_steady | apply foldl_fst_steady | apply foldl_snd_steady | intro _ | split | apply State.takeFirst_steady (by assumption) | apply State.moveGrant_steady | apply State.emitAll_steady | apply State.grantUp_steady | apply State.gatherBytes_steady | apply State.downloadBytes_steady | apply steadyOpt_get (by assumption) | apply Steady.set | apply Steady.draw | apply Steady.tell | apply Steady.purge | dsimp only)

theorem execRspPacket_steady {s₀ s : State} (hs : Steady s₀ s) :
    SteadyRes s₀ (execRspPacket s) := by
  unfold execRspPacket
  try dsimp only
  repeat' with_reducible (first | assumption | apply steadyRes_next | apply steadyOpt_none | apply steadyOpt_some | apply State.forEach_steady | apply State.when_steady | apply foldl_steady | apply foldl_fst_steady | apply foldl_snd_steady | intro _ | split | apply State.takeFirst_steady (by assumption) | apply State.load_steady | apply State.setCmd_steady | apply State.finish_steady | apply steadyOpt_get (by assumption) | apply Steady.set | apply Steady.draw | apply Steady.tell | apply Steady.purge | dsimp only)

theorem execEvtPacket_steady {s₀ s : State} (hs : Steady s₀ s) :
    SteadyRes s₀ (execEvtPacket s) := by
  unfold execEvtPacket
  try dsimp only
  repeat' with_reducible (first | assumption | apply steadyRes_next | apply steadyOpt_none | apply steadyOpt_some | apply State.forEach_steady | apply State.when_steady | apply foldl_steady | apply foldl_fst_steady | apply foldl_snd_steady | intro _ | split | apply State.takeFirst_steady (by assumption) | apply State.writeEvent_steady | apply State.stageEvent_steady | apply steadyOpt_get (by assumption) | apply Steady.set | apply Steady.draw | apply Steady.tell | apply Steady.purge | dsimp only)

theorem execDiscard_steady {s₀ s : State} (hs : Steady s₀ s) :
    SteadyRes s₀ (execDiscard s) := by
  unfold execDiscard
  try dsimp only
  repeat' with_reducible (first | assumption | apply steadyRes_next | apply steadyOpt_none | apply steadyOpt_some | apply State.forEach_steady | apply State.when_steady | apply foldl_steady | apply foldl_fst_steady | apply foldl_snd_steady | intro _ | split | apply State.takeFirst_steady (by assumption) | apply State.modCmd_steady | apply State.discardCmd_steady | apply steadyOpt_get (by assumption) | apply Steady.set | apply Steady.draw | apply Steady.tell | apply Steady.purge | dsimp only)

theorem execOrphanTimeout_steady {s₀ s : State} (hs : Steady s₀ s) :
    SteadyRes s₀ (execOrphanTimeout s) := by
  unfold execOrphanTimeout
  try dsimp only
  repeat' with_reducible (first | assumption | apply steadyRes_next | apply steadyOpt_none | apply steadyOpt_some | apply State.forEach_steady | apply State.when_steady | apply foldl_steady | apply foldl_fst_steady | apply foldl_snd_steady | intro _ | split | apply State.discardCmd_steady | apply steadyOpt_get (by assumption) | apply Steady.set | apply Steady.draw | apply Steady.tell | apply Steady.purge | dsimp only)

theorem execGrantHold_steady {s₀ s : State} (hs : Steady s₀ s) :
    SteadyRes s₀ (execGrantHold s) := by
  unfold execGrantHold
  try dsimp only
  repeat' with_reducible (first | assumption | apply steadyRes_next | apply steadyOpt_none | apply steadyOpt_some | apply State.forEach_steady | apply State.when_steady | apply foldl_steady | apply foldl_fst_steady | apply foldl_snd_steady | intro _ | split | apply State.takeFirst_steady (by assumption) | apply steadyOpt_get (by assumption) | apply Steady.set | apply Steady.draw | apply Steady.tell | apply Steady.purge | dsimp only)

theorem execGrantHoldTimer_steady {s₀ s : State} (hs : Steady s₀ s) (tag : Nat) :
    SteadyRes s₀ (execGrantHoldTimer tag s) := by
  unfold execGrantHoldTimer
  try dsimp only
  repeat' with_reducible (first | assumption | apply steadyRes_next | apply steadyOpt_none | apply steadyOpt_some | apply State.forEach_steady | apply State.when_steady | apply foldl_steady | apply foldl_fst_steady | apply foldl_snd_steady | intro _ | split | apply State.route_steady | apply steadyOpt_get (by assumption) | apply Steady.set | apply Steady.draw | apply Steady.tell | apply Steady.purge | dsimp only)

theorem execXferWindowExpiry_steady {s₀ s : State} (hs : Steady s₀ s) (tag : Nat) :
    SteadyRes s₀ (execXferWindowExpiry tag s) := by
  unfold execXferWindowExpiry
  try dsimp only
  repeat' with_reducible (first | assumption | apply steadyRes_next | apply steadyOpt_none | apply steadyOpt_some | apply State.forEach_steady | apply State.when_steady | apply foldl_steady | apply foldl_fst_steady | apply foldl_snd_steady | intro _ | split | apply State.stopCmd_steady | apply State.raise_steady | apply steadyOpt_get (by assumption) | apply Steady.set | apply Steady.draw | apply Steady.tell | apply Steady.purge | dsimp only)

theorem execTimeExchange_steady {s₀ s : State} (hs : Steady s₀ s) (q : Fin 5) :
    SteadyRes s₀ (execTimeExchange q s) := by
  unfold execTimeExchange
  try dsimp only
  repeat' with_reducible (first | assumption | apply steadyRes_next | apply steadyOpt_none | apply steadyOpt_some | apply State.forEach_steady | apply State.when_steady | apply foldl_steady | apply foldl_fst_steady | apply foldl_snd_steady | intro _ | split | apply State.sendOn_steady | apply steadyOpt_get (by assumption) | apply Steady.set | apply Steady.draw | apply Steady.tell | apply Steady.purge | dsimp only)

theorem State.steer_steady {s₀ s : State} (hs : Steady s₀ s) (t1 t2 t3 t4 : Nat) : Steady s₀ (s.steer t1 t2 t3 t4) := by
  unfold State.steer
  extract_lets first sum half s₁ delay offset s₂ rate s₃ limit m s₄
  have h₂ : Steady s₀ s₂ := State.sput_steady (State.sput_steady (State.takeFree_steady hs) _ _) _ _
  have h₃ : Steady s₀ s₃ := State.sput_steady (State.takeFree_steady h₂) _ _
  have h₄ : Steady s₀ s₄ := Steady.set h₃ ..
  clear_value s₄ first offset
  split
  · exact h₄.trans ⟨⟨rfl, rfl, List.prefix_refl _, Nat.le_refl _, fun k => k⟩, Nat.le_add_right _ _⟩
  · split
    · exact Steady.set h₄ ..
    · exact h₄

theorem execTimePacket_steady {s₀ s : State} (hs : Steady s₀ s) :
    SteadyRes s₀ (execTimePacket s) := by
  unfold execTimePacket
  try dsimp only
  repeat' with_reducible (first | assumption | apply steadyRes_next | apply steadyOpt_none | apply steadyOpt_some | apply State.forEach_steady | apply State.when_steady | apply foldl_steady | apply foldl_fst_steady | apply foldl_snd_steady | intro _ | split | apply State.takeFirst_steady (by assumption) | apply State.modPort_steady | apply State.sendOn_steady | apply State.setPort_steady | apply State.steer_steady | apply steadyOpt_get (by assumption) | apply Steady.set | apply Steady.draw | apply Steady.tell | apply Steady.purge | dsimp only)

theorem execMblCtLocked_steady {s₀ s : State} (hs : Steady s₀ s) :
    SteadyRes s₀ (execMblCtLocked s) := by
  unfold execMblCtLocked
  try dsimp only
  repeat' with_reducible (first | assumption | apply steadyRes_next | apply steadyOpt_none | apply steadyOpt_some | apply State.forEach_steady | apply State.when_steady | apply foldl_steady | apply foldl_fst_steady | apply foldl_snd_steady | intro _ | split | apply State.put_steady | apply State.raise_steady | apply steadyOpt_get (by assumption) | apply Steady.set | apply Steady.draw | apply Steady.tell | apply Steady.purge | dsimp only)

theorem execCtLoad_steady {s₀ s : State} (hs : Steady s₀ s) (value : Word) : SteadyRes s₀ (execCtLoad value s) := by
  unfold execCtLoad
  dsimp only
  split
  · apply steadyRes_next; exact hs
  · split
    · apply steadyRes_next; exact State.put_steady hs _ _
    · rename_i h
      apply steadyRes_next; exact hs.trans ⟨⟨rfl, rfl, List.prefix_refl _, Nat.le_refl _, fun k => k⟩, Nat.not_lt.mp (fun c => h (.inr c))⟩

theorem State.closeRange_steady {s₀ s : State} (hs : Steady s₀ s) (q lo next : Nat) :
    Steady s₀ (State.closeRange s q lo next) := by
  unfold State.closeRange
  try dsimp only
  repeat' with_reducible (first | assumption | apply steadyRes_next | apply steadyOpt_none | apply steadyOpt_some | apply State.forEach_steady | apply State.when_steady | apply foldl_steady | apply foldl_fst_steady | apply foldl_snd_steady | intro _ | split | apply State.put_steady | apply steadyOpt_get (by assumption) | apply Steady.set | apply Steady.draw | apply Steady.tell | apply Steady.purge | dsimp only)

theorem State.idShort_steady {s₀ s : State} (hs : Steady s₀ s) (q n : Nat) :
    Steady s₀ (State.idShort s q n) := by
  unfold State.idShort
  try dsimp only
  repeat' with_reducible (first | assumption | apply steadyRes_next | apply steadyOpt_none | apply steadyOpt_some | apply State.forEach_steady | apply State.when_steady | apply foldl_steady | apply foldl_fst_steady | apply foldl_snd_steady | intro _ | split | apply State.raise_steady | apply steadyOpt_get (by assumption) | apply Steady.set | apply Steady.draw | apply Steady.tell | apply Steady.purge | dsimp only)

theorem State.assign_steady {s₀ s : State} (hs : Steady s₀ s) (r : EnumRun) :
    Steady s₀ (State.assign s r) := by
  unfold State.assign
  try dsimp only
  repeat' with_reducible (first | assumption | apply steadyRes_next | apply steadyOpt_none | apply steadyOpt_some | apply State.forEach_steady | apply State.when_steady | apply foldl_steady | apply foldl_fst_steady | apply foldl_snd_steady | intro _ | split | apply State.reserve_steady | apply State.sendOn_steady | apply steadyOpt_get (by assumption) | apply Steady.set | apply Steady.draw | apply Steady.tell | apply Steady.purge | dsimp only)

theorem State.enumEnd_steady {s₀ s : State} (hs : Steady s₀ s) (r : EnumRun) :
    Steady s₀ (State.enumEnd s r) := by
  unfold State.enumEnd
  try dsimp only
  repeat' with_reducible (first | assumption | apply steadyRes_next | apply steadyOpt_none | apply steadyOpt_some | apply State.forEach_steady | apply State.when_steady | apply foldl_steady | apply foldl_fst_steady | apply foldl_snd_steady | intro _ | split | apply State.put_steady | apply State.count_steady | apply State.post_steady | apply State.sendOn_steady | apply steadyOpt_get (by assumption) | apply Steady.set | apply Steady.draw | apply Steady.tell | apply Steady.purge | dsimp only)

theorem State.enumerate_steady {s₀ s : State} (hs : Steady s₀ s) (fuel : Nat) (r : EnumRun) : Steady s₀ (State.enumerate fuel s r) := by
  induction fuel generalizing s r with
  | zero => exact State.enumEnd_steady hs _
  | succ fuel ih =>
    unfold State.enumerate
    split
    · exact State.enumEnd_steady hs _
    · extract_lets q lo skip
      have hk : ∀ t x, Steady s₀ t → Steady s₀ (skip t x) := by
        intro t x ht
        dsimp only [skip]
        split
        · exact State.enumEnd_steady ht _
        · exact ih (State.closeRange_steady ht _ _ _) _
      clear_value skip
      split
      · exact hk _ _ hs
      · split
        · exact hk _ _ (State.idShort_steady hs _ _)
        · split
          · exact hk _ _ (State.modPort_steady (State.assign_steady hs _) _ _)
          · exact Steady.set (State.assign_steady hs _) ..

theorem State.enumPort_steady {s₀ s : State} (hs : Steady s₀ s) (q n : Nat) :
    Steady s₀ (State.enumPort s q n) := by
  unfold State.enumPort
  try dsimp only
  repeat' with_reducible (first | assumption | apply steadyRes_next | apply steadyOpt_none | apply steadyOpt_some | apply State.forEach_steady | apply State.when_steady | apply foldl_steady | apply foldl_fst_steady | apply foldl_snd_steady | intro _ | split | apply State.modPort_steady | apply State.enumerate_steady | apply steadyOpt_get (by assumption) | apply Steady.set | apply Steady.draw | apply Steady.tell | apply Steady.purge | dsimp only)

theorem execEnumeration_steady {s₀ s : State} (hs : Steady s₀ s) (port : Option (Fin 5)) (n : Nat) :
    SteadyRes s₀ (execEnumeration port n s) := by
  unfold execEnumeration
  try dsimp only
  repeat' with_reducible (first | assumption | apply steadyRes_next | apply steadyOpt_none | apply steadyOpt_some | apply State.forEach_steady | apply State.when_steady | apply foldl_steady | apply foldl_fst_steady | apply foldl_snd_steady | intro _ | split | apply State.put_steady | apply State.enumerate_steady | apply State.enumPort_steady | apply steadyOpt_get (by assumption) | apply Steady.set | apply Steady.draw | apply Steady.tell | apply Steady.purge | dsimp only)

theorem execEnumAssign_steady {s₀ s : State} (hs : Steady s₀ s) :
    SteadyRes s₀ (execEnumAssign s) := by
  unfold execEnumAssign
  try dsimp only
  repeat' with_reducible (first | assumption | apply steadyRes_next | apply steadyOpt_none | apply steadyOpt_some | apply State.forEach_steady | apply State.when_steady | apply foldl_steady | apply foldl_fst_steady | apply foldl_snd_steady | intro _ | split | apply State.takeFirst_steady (by assumption) | apply State.put_steady | apply State.enumerate_steady | apply steadyOpt_get (by assumption) | apply Steady.set | apply Steady.draw | apply Steady.tell | apply Steady.purge | dsimp only)

theorem execEnumReport_steady {s₀ s : State} (hs : Steady s₀ s) :
    SteadyRes s₀ (execEnumReport s) := by
  unfold execEnumReport
  try dsimp only
  repeat' with_reducible (first | assumption | apply steadyRes_next | apply steadyOpt_none | apply steadyOpt_some | apply State.forEach_steady | apply State.when_steady | apply foldl_steady | apply foldl_fst_steady | apply foldl_snd_steady | intro _ | split | apply State.takeFirst_steady (by assumption) | apply State.enumerate_steady | apply State.modPort_steady | apply State.count_steady | apply State.enumEnd_steady | apply State.closeRange_steady | apply State.reserve_steady | apply steadyOpt_get (by assumption) | apply Steady.set | apply Steady.draw | apply Steady.tell | apply Steady.purge | dsimp only)

theorem execHeartbeatSend_steady {s₀ s : State} (hs : Steady s₀ s) :
    SteadyRes s₀ (execHeartbeatSend s) := by
  unfold execHeartbeatSend
  try dsimp only
  repeat' with_reducible (first | assumption | apply steadyRes_next | apply steadyOpt_none | apply steadyOpt_some | apply State.forEach_steady | apply State.when_steady | apply foldl_steady | apply foldl_fst_steady | apply foldl_snd_steady | intro _ | split | apply State.sendOn_steady | apply State.modPort_steady | apply steadyOpt_get (by assumption) | apply Steady.set | apply Steady.draw | apply Steady.tell | apply Steady.purge | dsimp only)

theorem execHeartbeat_steady {s₀ s : State} (hs : Steady s₀ s) :
    SteadyRes s₀ (execHeartbeat s) := by
  unfold execHeartbeat
  try dsimp only
  repeat' with_reducible (first | assumption | apply steadyRes_next | apply steadyOpt_none | apply steadyOpt_some | apply State.forEach_steady | apply State.when_steady | apply foldl_steady | apply foldl_fst_steady | apply foldl_snd_steady | intro _ | split | apply State.takeFirst_steady (by assumption) | apply State.modPort_steady | apply State.checkLevel_steady | apply steadyOpt_get (by assumption) | apply Steady.set | apply Steady.draw | apply Steady.tell | apply Steady.purge | dsimp only)

theorem execHeartbeatLoss_steady {s₀ s : State} (hs : Steady s₀ s) (q : Fin 5) :
    SteadyRes s₀ (execHeartbeatLoss q s) := by
  unfold execHeartbeatLoss
  try dsimp only
  repeat' with_reducible (first | assumption | apply steadyRes_next | apply steadyOpt_none | apply steadyOpt_some | apply State.forEach_steady | apply State.when_steady | apply foldl_steady | apply foldl_fst_steady | apply foldl_snd_steady | intro _ | split | apply State.fence_steady | apply State.post_steady | apply steadyOpt_get (by assumption) | apply Steady.set | apply Steady.draw | apply Steady.tell | apply Steady.purge | dsimp only)

theorem execFenceClr_steady {s₀ s : State} (hs : Steady s₀ s) (q : Fin 5) :
    SteadyRes s₀ (execFenceClr q s) := by
  unfold execFenceClr
  try dsimp only
  repeat' with_reducible (first | assumption | apply steadyRes_next | apply steadyOpt_none | apply steadyOpt_some | apply State.forEach_steady | apply State.when_steady | apply foldl_steady | apply foldl_fst_steady | apply foldl_snd_steady | intro _ | split | apply State.put_steady | apply State.modPort_steady | apply State.enumPort_steady | apply State.count_steady | apply steadyOpt_get (by assumption) | apply Steady.set | apply Steady.draw | apply Steady.tell | apply Steady.purge | dsimp only)

end Sys2Proof.Machine
end

