-- ==== Sys2Proof/Laws/SteadySlots.lean ====
section
/-!
SUPPORT. What every command keeps (Safety.lean), of the operations and commands of Machine/Slots.lean.
-/
set_option Elab.async false
set_option linter.all false
namespace Sys2Proof.Machine
set_option maxRecDepth 2000

theorem State.toSlot_steady {s₀ s : State} (hs : Steady s₀ s) (k v : Nat) :
    Steady s₀ (State.toSlot s k v) := by
  unfold State.toSlot
  try dsimp only
  repeat' with_reducible (first | assumption | apply steadyRes_next | apply steadyOpt_none | apply steadyOpt_some | apply State.forEach_steady | apply State.when_steady | apply foldl_steady | apply foldl_fst_steady | apply foldl_snd_steady | intro _ | split | apply State.put_steady | apply State.setFlag_steady | apply steadyOpt_get (by assumption) | apply Steady.set | apply Steady.draw | apply Steady.tell | apply Steady.purge | dsimp only)

theorem State.setPresent_steady {s₀ s : State} (hs : Steady s₀ s) (k : Nat) (on : Bool) :
    Steady s₀ (State.setPresent s k on) := by
  unfold State.setPresent
  try dsimp only
  repeat' with_reducible (first | assumption | apply steadyRes_next | apply steadyOpt_none | apply steadyOpt_some | apply State.forEach_steady | apply State.when_steady | apply foldl_steady | apply foldl_fst_steady | apply foldl_snd_steady | intro _ | split | apply State.setFlag_steady | apply State.put_steady | apply steadyOpt_get (by assumption) | apply Steady.set | apply Steady.draw | apply Steady.tell | apply Steady.purge | dsimp only)

theorem State.powerUp_steady {s₀ s : State} (hs : Steady s₀ s) (k : Nat) :
    Steady s₀ (State.powerUp s k) := by
  unfold State.powerUp
  try dsimp only
  repeat' with_reducible (first | assumption | apply steadyRes_next | apply steadyOpt_none | apply steadyOpt_some | apply State.forEach_steady | apply State.when_steady | apply foldl_steady | apply foldl_fst_steady | apply foldl_snd_steady | intro _ | split | apply State.toSlot_steady | apply State.put_steady | apply steadyOpt_get (by assumption) | apply Steady.set | apply Steady.draw | apply Steady.tell | apply Steady.purge | dsimp only)

theorem State.darken_steady {s₀ s : State} (hs : Steady s₀ s) (st : Nat) :
    Steady s₀ (State.darken s st) := by
  unfold State.darken
  try dsimp only
  repeat' with_reducible (first | assumption | apply steadyRes_next | apply steadyOpt_none | apply steadyOpt_some | apply State.forEach_steady | apply State.when_steady | apply foldl_steady | apply foldl_fst_steady | apply foldl_snd_steady | intro _ | split | apply State.holdLanes_steady | apply State.setMode_steady | apply State.put_steady | apply State.setPickup_steady | apply State.setLp_steady | apply State.setMotor_steady | apply State.showMotor_steady | apply State.spnEnter_steady | apply State.setSpindle_steady | apply steadyOpt_get (by assumption) | apply Steady.set | apply Steady.draw | apply Steady.tell | apply Steady.purge | dsimp only)

theorem State.emptyQueue_steady {s₀ s : State} (hs : Steady s₀ s) (st : Nat) :
    Steady s₀ (State.emptyQueue s st) := by
  unfold State.emptyQueue
  try dsimp only
  repeat' with_reducible (first | assumption | apply steadyRes_next | apply steadyOpt_none | apply steadyOpt_some | apply State.forEach_steady | apply State.when_steady | apply foldl_steady | apply foldl_fst_steady | apply foldl_snd_steady | intro _ | split | apply State.abortCal_steady | apply State.stopAny_steady | apply steadyOpt_get (by assumption) | apply Steady.set | apply Steady.draw | apply Steady.tell | apply Steady.purge | dsimp only)

theorem State.forgetStation_steady {s₀ s : State} (hs : Steady s₀ s) (st : Nat) :
    Steady s₀ (State.forgetStation s st) := by
  unfold State.forgetStation
  try dsimp only
  repeat' with_reducible (first | assumption | apply steadyRes_next | apply steadyOpt_none | apply steadyOpt_some | apply State.forEach_steady | apply State.when_steady | apply foldl_steady | apply foldl_fst_steady | apply foldl_snd_steady | intro _ | split | apply State.freeEntry_steady | apply State.put_steady | apply State.forgetDisc_steady | apply State.showCal_steady | apply State.setStation_steady | apply steadyOpt_get (by assumption) | apply Steady.set | apply Steady.draw | apply Steady.tell | apply Steady.purge | dsimp only)

theorem State.stationGone_steady {s₀ s : State} (hs : Steady s₀ s) (st cause : Nat) :
    Steady s₀ (State.stationGone s st cause) := by
  unfold State.stationGone
  try dsimp only
  repeat' with_reducible (first | assumption | apply steadyRes_next | apply steadyOpt_none | apply steadyOpt_some | apply State.forEach_steady | apply State.when_steady | apply foldl_steady | apply foldl_fst_steady | apply foldl_snd_steady | intro _ | split | apply State.emptyQueue_steady | apply State.breakRun_steady | apply State.darken_steady | apply State.forgetStation_steady | apply State.post_steady | apply steadyOpt_get (by assumption) | apply Steady.set | apply Steady.draw | apply Steady.tell | apply Steady.purge | dsimp only)

theorem State.slotLoss_steady {s₀ s : State} (hs : Steady s₀ s) (k old cause : Nat) :
    Steady s₀ (State.slotLoss s k old cause) := by
  unfold State.slotLoss
  try dsimp only
  repeat' with_reducible (first | assumption | apply steadyRes_next | apply steadyOpt_none | apply steadyOpt_some | apply State.forEach_steady | apply State.when_steady | apply foldl_steady | apply foldl_fst_steady | apply foldl_snd_steady | intro _ | split | apply State.portDown_steady | apply State.darken_steady | apply State.setStation_steady | apply State.stationGone_steady | apply steadyOpt_get (by assumption) | apply Steady.set | apply Steady.draw | apply Steady.tell | apply Steady.purge | dsimp only)

theorem State.drainStep_steady {s₀ s : State} (hs : Steady s₀ s) (k : Nat) :
    Steady s₀ (State.drainStep s k) := by
  unfold State.drainStep
  try dsimp only
  repeat' with_reducible (first | assumption | apply steadyRes_next | apply steadyOpt_none | apply steadyOpt_some | apply State.forEach_steady | apply State.when_steady | apply foldl_steady | apply foldl_fst_steady | apply foldl_snd_steady | intro _ | split | apply State.toSlot_steady | apply State.portDown_steady | apply State.post_steady | apply State.closePartials_steady | apply State.discAway_steady | apply State.restStation_steady | apply State.stationGone_steady | apply steadyOpt_get (by assumption) | apply Steady.set | apply Steady.draw | apply Steady.tell | apply Steady.purge | dsimp only)

theorem State.startDrain_steady {s₀ s : State} (hs : Steady s₀ s) (k : Nat) :
    Steady s₀ (State.startDrain s k) := by
  unfold State.startDrain
  try dsimp only
  repeat' with_reducible (first | assumption | apply steadyRes_next | apply steadyOpt_none | apply steadyOpt_some | apply State.forEach_steady | apply State.when_steady | apply foldl_steady | apply foldl_fst_steady | apply foldl_snd_steady | intro _ | split | apply State.toSlot_steady | apply State.modStation_steady | apply State.drainStep_steady | apply steadyOpt_get (by assumption) | apply Steady.set | apply Steady.draw | apply Steady.tell | apply Steady.purge | dsimp only)

theorem execSlotDrainDone_steady {s₀ s : State} (hs : Steady s₀ s) (k : Fin 12) :
    SteadyRes s₀ (execSlotDrainDone k s) := by
  unfold execSlotDrainDone
  try dsimp only
  repeat' with_reducible (first | assumption | apply steadyRes_next | apply steadyOpt_none | apply steadyOpt_some | apply State.forEach_steady | apply State.when_steady | apply foldl_steady | apply foldl_fst_steady | apply foldl_snd_steady | intro _ | split | apply State.drainStep_steady | apply steadyOpt_get (by assumption) | apply Steady.set | apply Steady.draw | apply Steady.tell | apply Steady.purge | dsimp only)

theorem execSlotDrainTimeout_steady {s₀ s : State} (hs : Steady s₀ s) (k : Fin 12) :
    SteadyRes s₀ (execSlotDrainTimeout k s) := by
  unfold execSlotDrainTimeout
  try dsimp only
  repeat' with_reducible (first | assumption | apply steadyRes_next | apply steadyOpt_none | apply steadyOpt_some | apply State.forEach_steady | apply State.when_steady | apply foldl_steady | apply foldl_fst_steady | apply foldl_snd_steady | intro _ | split | apply State.slotLoss_steady | apply State.toSlot_steady | apply State.post_steady | apply steadyOpt_get (by assumption) | apply Steady.set | apply Steady.draw | apply Steady.tell | apply Steady.purge | dsimp only)

theorem execSlotInsertion_steady {s₀ s : State} (hs : Steady s₀ s) (k : Fin 12) :
    SteadyRes s₀ (execSlotInsertion k s) := by
  unfold execSlotInsertion
  try dsimp only
  repeat' with_reducible (first | assumption | apply steadyRes_next | apply steadyOpt_none | apply steadyOpt_some | apply State.forEach_steady | apply State.when_steady | apply foldl_steady | apply foldl_fst_steady | apply foldl_snd_steady | intro _ | split | apply State.setPresent_steady | apply State.raise_steady | apply State.powerUp_steady | apply State.toSlot_steady | apply steadyOpt_get (by assumption) | apply Steady.set | apply Steady.draw | apply Steady.tell | apply Steady.purge | dsimp only)

theorem execSlotRemoval_steady {s₀ s : State} (hs : Steady s₀ s) (k : Fin 12) :
    SteadyRes s₀ (execSlotRemoval k s) := by
  unfold execSlotRemoval
  try dsimp only
  repeat' with_reducible (first | assumption | apply steadyRes_next | apply steadyOpt_none | apply steadyOpt_some | apply State.forEach_steady | apply State.when_steady | apply foldl_steady | apply foldl_fst_steady | apply foldl_snd_steady | intro _ | split | apply State.setPresent_steady | apply State.raise_steady | apply State.toSlot_steady | apply State.slotLoss_steady | apply State.waitOn_steady | apply steadyOpt_get (by assumption) | apply Steady.set | apply Steady.draw | apply Steady.tell | apply Steady.purge | dsimp only)

theorem execSlotButton_steady {s₀ s : State} (hs : Steady s₀ s) (k : Fin 12) :
    SteadyRes s₀ (execSlotButton k s) := by
  unfold execSlotButton
  try dsimp only
  repeat' with_reducible (first | assumption | apply steadyRes_next | apply steadyOpt_none | apply steadyOpt_some | apply State.forEach_steady | apply State.when_steady | apply foldl_steady | apply foldl_fst_steady | apply foldl_snd_steady | intro _ | split | apply State.toSlot_steady | apply State.waitOn_steady | apply State.post_steady | apply steadyOpt_get (by assumption) | apply Steady.set | apply Steady.draw | apply Steady.tell | apply Steady.purge | dsimp only)

theorem execSlotAbortReq_steady {s₀ s : State} (hs : Steady s₀ s) (k : Fin 12) :
    SteadyRes s₀ (execSlotAbortReq k s) := by
  unfold execSlotAbortReq
  try dsimp only
  repeat' with_reducible (first | assumption | apply steadyRes_next | apply steadyOpt_none | apply steadyOpt_some | apply State.forEach_steady | apply State.when_steady | apply foldl_steady | apply foldl_fst_steady | apply foldl_snd_steady | intro _ | split | apply State.waitOn_steady | apply State.toSlot_steady | apply State.post_steady | apply steadyOpt_get (by assumption) | apply Steady.set | apply Steady.draw | apply Steady.tell | apply Steady.purge | dsimp only)

theorem execSlotPowerFault_steady {s₀ s : State} (hs : Steady s₀ s) (k : Fin 12) :
    SteadyRes s₀ (execSlotPowerFault k s) := by
  unfold execSlotPowerFault
  try dsimp only
  repeat' with_reducible (first | assumption | apply steadyRes_next | apply steadyOpt_none | apply steadyOpt_some | apply State.forEach_steady | apply State.when_steady | apply foldl_steady | apply foldl_fst_steady | apply foldl_snd_steady | intro _ | split | apply State.toSlot_steady | apply State.raise_steady | apply State.slotLoss_steady | apply steadyOpt_get (by assumption) | apply Steady.set | apply Steady.draw | apply Steady.tell | apply Steady.purge | dsimp only)

theorem execSlotBlinkExpiry_steady {s₀ s : State} (hs : Steady s₀ s) (k : Fin 12) :
    SteadyRes s₀ (execSlotBlinkExpiry k s) := by
  unfold execSlotBlinkExpiry
  try dsimp only
  repeat' with_reducible (first | assumption | apply steadyRes_next | apply steadyOpt_none | apply steadyOpt_some | apply State.forEach_steady | apply State.when_steady | apply foldl_steady | apply foldl_fst_steady | apply foldl_snd_steady | intro _ | split | apply State.waitOn_steady | apply State.powerUp_steady | apply State.startDrain_steady | apply steadyOpt_get (by assumption) | apply Steady.set | apply Steady.draw | apply Steady.tell | apply Steady.purge | dsimp only)

theorem execPwrReqSet_steady {s₀ s : State} (hs : Steady s₀ s) (k : Fin 12) :
    SteadyRes s₀ (execPwrReqSet k s) := by
  unfold execPwrReqSet
  try dsimp only
  repeat' with_reducible (first | assumption | apply steadyRes_next | apply steadyOpt_none | apply steadyOpt_some | apply State.forEach_steady | apply State.when_steady | apply foldl_steady | apply foldl_fst_steady | apply foldl_snd_steady | intro _ | split | apply State.powerUp_steady | apply State.put_steady | apply steadyOpt_get (by assumption) | apply Steady.set | apply Steady.draw | apply Steady.tell | apply Steady.purge | dsimp only)

theorem execPwrReqClear_steady {s₀ s : State} (hs : Steady s₀ s) (k : Fin 12) :
    SteadyRes s₀ (execPwrReqClear k s) := by
  unfold execPwrReqClear
  try dsimp only
  repeat' with_reducible (first | assumption | apply steadyRes_next | apply steadyOpt_none | apply steadyOpt_some | apply State.forEach_steady | apply State.when_steady | apply foldl_steady | apply foldl_fst_steady | apply foldl_snd_steady | intro _ | split | apply State.startDrain_steady | apply State.put_steady | apply steadyOpt_get (by assumption) | apply Steady.set | apply Steady.draw | apply Steady.tell | apply Steady.purge | dsimp only)

theorem execSlotFaultClear_steady {s₀ s : State} (hs : Steady s₀ s) (k : Fin 12) :
    SteadyRes s₀ (execSlotFaultClear k s) := by
  unfold execSlotFaultClear
  try dsimp only
  repeat' with_reducible (first | assumption | apply steadyRes_next | apply steadyOpt_none | apply steadyOpt_some | apply State.forEach_steady | apply State.when_steady | apply foldl_steady | apply foldl_fst_steady | apply foldl_snd_steady | intro _ | split | apply State.put_steady | apply State.toSlot_steady | apply steadyOpt_get (by assumption) | apply Steady.set | apply Steady.draw | apply Steady.tell | apply Steady.purge | dsimp only)

theorem State.loadLoopSet_steady {s₀ s : State} (hs : Steady s₀ s) (n l : Nat) :
    Steady s₀ (State.loadLoopSet s n l) := by
  unfold State.loadLoopSet
  try dsimp only
  repeat' with_reducible (first | assumption | apply steadyRes_next | apply steadyOpt_none | apply steadyOpt_some | apply State.forEach_steady | apply State.when_steady | apply foldl_steady | apply foldl_fst_steady | apply foldl_snd_steady | intro _ | split | apply State.put_steady | apply State.sput_steady | apply State.modLp_steady | apply State.updateCost_steady | apply steadyOpt_get (by assumption) | apply Steady.set | apply Steady.draw | apply Steady.tell | apply Steady.purge | dsimp only)

theorem execSlotSettled_steady {s₀ s : State} (hs : Steady s₀ s) (k : Fin 12) :
    SteadyRes s₀ (execSlotSettled k s) := by
  unfold execSlotSettled
  try dsimp only
  repeat' with_reducible (first | assumption | apply steadyRes_next | apply steadyOpt_none | apply steadyOpt_some | apply State.forEach_steady | apply State.when_steady | apply foldl_steady | apply foldl_fst_steady | apply foldl_snd_steady | intro _ | split | apply State.modPort_steady | apply State.startProcs_steady | apply State.loadLoopSet_steady | apply State.put_steady | apply State.trainLdd_steady | apply steadyOpt_get (by assumption) | apply Steady.set | apply Steady.draw | apply Steady.tell | apply Steady.purge | dsimp only)

theorem execSlotBringupDone_steady {s₀ s : State} (hs : Steady s₀ s) (k : Fin 12) :
    SteadyRes s₀ (execSlotBringupDone k s) := by
  unfold execSlotBringupDone
  try dsimp only
  repeat' with_reducible (first | assumption | apply steadyRes_next | apply steadyOpt_none | apply steadyOpt_some | apply State.forEach_steady | apply State.when_steady | apply foldl_steady | apply foldl_fst_steady | apply foldl_snd_steady | intro _ | split | apply State.toSlot_steady | apply State.setStation_steady | apply State.showVersions_steady | apply State.post_steady | apply steadyOpt_get (by assumption) | apply Steady.set | apply Steady.draw | apply Steady.tell | apply Steady.purge | dsimp only)

theorem execSlotBringupTimeout_steady {s₀ s : State} (hs : Steady s₀ s) (k : Fin 12) :
    SteadyRes s₀ (execSlotBringupTimeout k s) := by
  unfold execSlotBringupTimeout
  try dsimp only
  repeat' with_reducible (first | assumption | apply steadyRes_next | apply steadyOpt_none | apply steadyOpt_some | apply State.forEach_steady | apply State.when_steady | apply foldl_steady | apply foldl_fst_steady | apply foldl_snd_steady | intro _ | split | apply State.slotLoss_steady | apply State.toSlot_steady | apply State.raise_steady | apply steadyOpt_get (by assumption) | apply Steady.set | apply Steady.draw | apply Steady.tell | apply Steady.purge | dsimp only)

end Sys2Proof.Machine
end

