-- ==== Sys2Proof/Laws/SteadyPower.lean ====
section
/-!
SUPPORT. What every command keeps (Safety.lean), of the operations and commands of Machine/Power.lean.
-/
set_option Elab.async false
set_option linter.all false
namespace Sys2Proof.Machine
set_option maxRecDepth 2000

theorem State.writeBoot_steady {s₀ s : State} (hs : Steady s₀ s) (f : BootCopy → BootCopy) :
    Steady s₀ (State.writeBoot s f) := by
  unfold State.writeBoot
  try dsimp only
  repeat' with_reducible (first | assumption | apply steadyRes_next | apply steadyOpt_none | apply steadyOpt_some | apply State.forEach_steady | apply State.when_steady | apply foldl_steady | apply foldl_fst_steady | apply foldl_snd_steady | intro _ | split | apply steadyOpt_get (by assumption) | apply Steady.set | apply Steady.draw | apply Steady.tell | apply Steady.purge | dsimp only)

theorem State.writeBootSlot_steady {s₀ s : State} (hs : Steady s₀ s) (slot : Nat) :
    Steady s₀ (State.writeBootSlot s slot) := by
  unfold State.writeBootSlot
  try dsimp only
  repeat' with_reducible (first | assumption | apply steadyRes_next | apply steadyOpt_none | apply steadyOpt_some | apply State.forEach_steady | apply State.when_steady | apply foldl_steady | apply foldl_fst_steady | apply foldl_snd_steady | intro _ | split | apply State.writeBoot_steady | apply State.put_steady | apply steadyOpt_get (by assumption) | apply Steady.set | apply Steady.draw | apply Steady.tell | apply Steady.purge | dsimp only)

theorem State.fullReset_keeps (s : State) (cause : Nat) : Keeps s (s.fullReset cause) := by
  unfold State.fullReset
  extract_lets rails fw t
  have ht : Keeps s t := ⟨rfl, rfl, List.prefix_refl _, Nat.le_refl _, fun _ => rfl⟩
  exact ht.trans (State.put_steady (State.put_steady (Steady.refl _) _ _) _ _).toKeeps

theorem execPowerOn_keeps (s : State) : KeepsRes s (execPowerOn s) :=
  keepsRes_next ((State.fullReset_keeps s _).trans (State.put_steady (Steady.refl _) _ _).toKeeps)

theorem execBrownOut_keeps (rail : Fin 8) (s : State) : KeepsRes s (execBrownOut rail s) :=
  keepsRes_next ((State.fullReset_keeps s _).trans (State.put_steady (Steady.refl _) _ _).toKeeps)

theorem execCrystalLoss_keeps (s : State) : KeepsRes s (execCrystalLoss s) :=
  keepsRes_next (State.fullReset_keeps s _)

theorem execPciePerstAssert_keeps (s : State) : KeepsRes s (execPciePerstAssert s) :=
  keepsRes_next (State.fullReset_keeps s _)

theorem execThermalTrip_keeps (tj : BitVec 12) (s : State) : KeepsRes s (execThermalTrip tj s) := by
  have h := (State.put_steady (Steady.refl s) F.SYS_TEMP_TJ tj.toNat).toKeeps
  unfold execThermalTrip
  dsimp only
  split
  · apply keepsRes_next; exact h.trans (State.fullReset_keeps _ _)
  · apply keepsRes_next; exact h

theorem execThermalWarn_steady {s₀ s : State} (hs : Steady s₀ s) (tj : BitVec 12) :
    SteadyRes s₀ (execThermalWarn tj s) := by
  unfold execThermalWarn
  try dsimp only
  repeat' with_reducible (first | assumption | apply steadyRes_next | apply steadyOpt_none | apply steadyOpt_some | apply State.forEach_steady | apply State.when_steady | apply foldl_steady | apply foldl_fst_steady | apply foldl_snd_steady | intro _ | split | apply State.put_steady | apply State.raise_steady | apply steadyOpt_get (by assumption) | apply Steady.set | apply Steady.draw | apply Steady.tell | apply Steady.purge | dsimp only)

theorem State.pmbSend_steady {s₀ s : State} (hs : Steady s₀ s) (op : PmbOp) :
    Steady s₀ (State.pmbSend s op) := by
  unfold State.pmbSend
  try dsimp only
  repeat' with_reducible (first | assumption | apply steadyRes_next | apply steadyOpt_none | apply steadyOpt_some | apply State.forEach_steady | apply State.when_steady | apply foldl_steady | apply foldl_fst_steady | apply foldl_snd_steady | intro _ | split | apply State.emit_steady | apply steadyOpt_get (by assumption) | apply Steady.set | apply Steady.draw | apply Steady.tell | apply Steady.purge | dsimp only)

theorem State.pmbFault_steady {s₀ s : State} (hs : Steady s₀ s) (code : Nat) :
    Steady s₀ (State.pmbFault s code) := by
  unfold State.pmbFault
  try dsimp only
  repeat' with_reducible (first | assumption | apply steadyRes_next | apply steadyOpt_none | apply steadyOpt_some | apply State.forEach_steady | apply State.when_steady | apply foldl_steady | apply foldl_fst_steady | apply foldl_snd_steady | intro _ | split | apply State.raise_steady | apply steadyOpt_get (by assumption) | apply Steady.set | apply Steady.draw | apply Steady.tell | apply Steady.purge | dsimp only)

theorem State.pmbFailed_steady {s₀ s : State} (hs : Steady s₀ s) (op : PmbOp) :
    Steady s₀ (State.pmbFailed s op) := by
  unfold State.pmbFailed
  try dsimp only
  repeat' with_reducible (first | assumption | apply steadyRes_next | apply steadyOpt_none | apply steadyOpt_some | apply State.forEach_steady | apply State.when_steady | apply foldl_steady | apply foldl_fst_steady | apply foldl_snd_steady | intro _ | split | apply State.pmbFault_steady | apply State.pmbSend_steady | apply steadyOpt_get (by assumption) | apply Steady.set | apply Steady.draw | apply Steady.tell | apply Steady.purge | dsimp only)

theorem State.pmbDone_steady {s₀ s : State} (hs : Steady s₀ s) (op : PmbOp) (data : Nat) :
    Steady s₀ (State.pmbDone s op data) := by
  unfold State.pmbDone
  try dsimp only
  repeat' with_reducible (first | assumption | apply steadyRes_next | apply steadyOpt_none | apply steadyOpt_some | apply State.forEach_steady | apply State.when_steady | apply foldl_steady | apply foldl_fst_steady | apply foldl_snd_steady | intro _ | split | apply State.pmbFault_steady | apply State.raise_steady | apply State.pmbSend_steady | apply State.put_steady | apply steadyOpt_get (by assumption) | apply Steady.set | apply Steady.draw | apply Steady.tell | apply Steady.purge | dsimp only)

theorem execPmbusTransactionDone_steady {s₀ s : State} (hs : Steady s₀ s) (code : Byte) (ok : Bool) (data : BitVec 16) :
    SteadyRes s₀ (execPmbusTransactionDone code ok data s) := by
  unfold execPmbusTransactionDone
  try dsimp only
  repeat' with_reducible (first | assumption | apply steadyRes_next | apply steadyOpt_none | apply steadyOpt_some | apply State.forEach_steady | apply State.when_steady | apply foldl_steady | apply foldl_fst_steady | apply foldl_snd_steady | intro _ | split | apply State.pmbDone_steady | apply State.pmbFailed_steady | apply steadyOpt_get (by assumption) | apply Steady.set | apply Steady.draw | apply Steady.tell | apply Steady.purge | dsimp only)

theorem State.pmbRead_steady {s₀ s : State} (hs : Steady s₀ s) (code : Nat) (value : Option (BitVec 16)) :
    Steady s₀ (State.pmbRead s code value) := by
  unfold State.pmbRead
  try dsimp only
  repeat' with_reducible (first | assumption | apply steadyRes_next | apply steadyOpt_none | apply steadyOpt_some | apply State.forEach_steady | apply State.when_steady | apply foldl_steady | apply foldl_fst_steady | apply foldl_snd_steady | intro _ | split | apply State.emit_steady | apply State.pmbDone_steady | apply State.pmbFailed_steady | apply steadyOpt_get (by assumption) | apply Steady.set | apply Steady.draw | apply Steady.tell | apply Steady.purge | dsimp only)

theorem execPmbusAlert_steady {s₀ s : State} (hs : Steady s₀ s) (status : Option (BitVec 16)) :
    SteadyRes s₀ (execPmbusAlert status s) := by
  unfold execPmbusAlert
  try dsimp only
  repeat' with_reducible (first | assumption | apply steadyRes_next | apply steadyOpt_none | apply steadyOpt_some | apply State.forEach_steady | apply State.when_steady | apply foldl_steady | apply foldl_fst_steady | apply foldl_snd_steady | intro _ | split | apply State.pmbRead_steady | apply steadyOpt_get (by assumption) | apply Steady.set | apply Steady.draw | apply Steady.tell | apply Steady.purge | dsimp only)

theorem execReadVoutPoll_steady {s₀ s : State} (hs : Steady s₀ s) (code : Option (BitVec 16)) :
    SteadyRes s₀ (execReadVoutPoll code s) := by
  unfold execReadVoutPoll
  try dsimp only
  repeat' with_reducible (first | assumption | apply steadyRes_next | apply steadyOpt_none | apply steadyOpt_some | apply State.forEach_steady | apply State.when_steady | apply foldl_steady | apply foldl_fst_steady | apply foldl_snd_steady | intro _ | split | apply State.pmbRead_steady | apply steadyOpt_get (by assumption) | apply Steady.set | apply Steady.draw | apply Steady.tell | apply Steady.purge | dsimp only)

theorem State.requestVolt_steady {s₀ s : State} (hs : Steady s₀ s) (v : Nat) :
    Steady s₀ (State.requestVolt s v) := by
  unfold State.requestVolt
  try dsimp only
  repeat' with_reducible (first | assumption | apply steadyRes_next | apply steadyOpt_none | apply steadyOpt_some | apply State.forEach_steady | apply State.when_steady | apply foldl_steady | apply foldl_fst_steady | apply foldl_snd_steady | intro _ | split | apply State.put_steady | apply State.pmbSend_steady | apply steadyOpt_get (by assumption) | apply Steady.set | apply Steady.draw | apply Steady.tell | apply Steady.purge | dsimp only)

theorem State.paceStep_steady {s₀ s : State} (hs : Steady s₀ s) (measured : Nat) :
    Steady s₀ (State.paceStep s measured) := by
  unfold State.paceStep
  try dsimp only
  repeat' with_reducible (first | assumption | apply steadyRes_next | apply steadyOpt_none | apply steadyOpt_some | apply State.forEach_steady | apply State.when_steady | apply foldl_steady | apply foldl_fst_steady | apply foldl_snd_steady | intro _ | split | apply State.requestVolt_steady | apply steadyOpt_get (by assumption) | apply Steady.set | apply Steady.draw | apply Steady.tell | apply Steady.purge | dsimp only)

theorem execPaceWindowEnd_steady {s₀ s : State} (hs : Steady s₀ s) (measured : BitVec 16) :
    SteadyRes s₀ (execPaceWindowEnd measured s) := by
  unfold execPaceWindowEnd
  try dsimp only
  repeat' with_reducible (first | assumption | apply steadyRes_next | apply steadyOpt_none | apply steadyOpt_some | apply State.forEach_steady | apply State.when_steady | apply foldl_steady | apply foldl_fst_steady | apply foldl_snd_steady | intro _ | split | apply State.put_steady | apply State.paceStep_steady | apply State.raise_steady | apply steadyOpt_get (by assumption) | apply Steady.set | apply Steady.draw | apply Steady.tell | apply Steady.purge | dsimp only)

theorem execPaceLow_steady {s₀ s : State} (hs : Steady s₀ s) :
    SteadyRes s₀ (execPaceLow s) := by
  unfold execPaceLow
  try dsimp only
  repeat' with_reducible (first | assumption | apply steadyRes_next | apply steadyOpt_none | apply steadyOpt_some | apply State.forEach_steady | apply State.when_steady | apply foldl_steady | apply foldl_fst_steady | apply foldl_snd_steady | intro _ | split | apply State.raise_steady | apply steadyOpt_get (by assumption) | apply Steady.set | apply Steady.draw | apply Steady.tell | apply Steady.purge | dsimp only)

theorem execBoostEnd_steady {s₀ s : State} (hs : Steady s₀ s) :
    SteadyRes s₀ (execBoostEnd s) := by
  unfold execBoostEnd
  try dsimp only
  repeat' with_reducible (first | assumption | apply steadyRes_next | apply steadyOpt_none | apply steadyOpt_some | apply State.forEach_steady | apply State.when_steady | apply foldl_steady | apply foldl_fst_steady | apply foldl_snd_steady | intro _ | split | apply State.put_steady | apply steadyOpt_get (by assumption) | apply Steady.set | apply Steady.draw | apply Steady.tell | apply Steady.purge | dsimp only)

theorem execAgeRecord_steady {s₀ s : State} (hs : Steady s₀ s) (v : BitVec 10) :
    SteadyRes s₀ (execAgeRecord v s) := by
  unfold execAgeRecord
  try dsimp only
  repeat' with_reducible (first | assumption | apply steadyRes_next | apply steadyOpt_none | apply steadyOpt_some | apply State.forEach_steady | apply State.when_steady | apply foldl_steady | apply foldl_fst_steady | apply foldl_snd_steady | intro _ | split | apply State.put_steady | apply State.writeBoot_steady | apply steadyOpt_get (by assumption) | apply Steady.set | apply Steady.draw | apply Steady.tell | apply Steady.purge | dsimp only)

theorem State.loadImage_steady {s₀ s : State} (hs : Steady s₀ s) (im : FwImage) :
    Steady s₀ (State.loadImage s im) := by
  unfold State.loadImage
  try dsimp only
  repeat' with_reducible (first | assumption | apply steadyRes_next | apply steadyOpt_none | apply steadyOpt_some | apply State.forEach_steady | apply State.when_steady | apply foldl_steady | apply foldl_fst_steady | apply foldl_snd_steady | intro _ | split | apply State.put_steady | apply State.extend_steady | apply State.showVersions_steady | apply State.pmbSend_steady | apply State.setCfg_steady | apply steadyOpt_get (by assumption) | apply Steady.set | apply Steady.draw | apply Steady.tell | apply Steady.purge | dsimp only)

theorem State.bootComplete_steady {s₀ s : State} (hs : Steady s₀ s) (im : FwImage) (fallback : Bool) :
    Steady s₀ (State.bootComplete s im fallback) := by
  unfold State.bootComplete
  try dsimp only
  repeat' with_reducible (first | assumption | apply steadyRes_next | apply steadyOpt_none | apply steadyOpt_some | apply State.forEach_steady | apply State.when_steady | apply foldl_steady | apply foldl_fst_steady | apply foldl_snd_steady | intro _ | split | apply State.loadImage_steady | apply State.put_steady | apply State.setFlag_steady | apply State.post_steady | apply steadyOpt_get (by assumption) | apply Steady.set | apply Steady.draw | apply Steady.tell | apply Steady.purge | dsimp only)

theorem State.enterRecovery_steady {s₀ s : State} (hs : Steady s₀ s) (errA errB : Nat) :
    Steady s₀ (State.enterRecovery s errA errB) := by
  unfold State.enterRecovery
  try dsimp only
  repeat' with_reducible (first | assumption | apply steadyRes_next | apply steadyOpt_none | apply steadyOpt_some | apply State.forEach_steady | apply State.when_steady | apply foldl_steady | apply foldl_fst_steady | apply foldl_snd_steady | intro _ | split | apply State.put_steady | apply State.post_steady | apply steadyOpt_get (by assumption) | apply Steady.set | apply Steady.draw | apply Steady.tell | apply Steady.purge | dsimp only)

theorem execResetRelease_steady {s₀ s : State} (hs : Steady s₀ s) :
    SteadyRes s₀ (execResetRelease s) := by
  unfold execResetRelease
  try dsimp only
  repeat' with_reducible (first | assumption | apply steadyRes_next | apply steadyOpt_none | apply steadyOpt_some | apply State.forEach_steady | apply State.when_steady | apply foldl_steady | apply foldl_fst_steady | apply foldl_snd_steady | intro _ | split | apply State.put_steady | apply State.extend_steady | apply State.takeFree_steady | apply State.bootComplete_steady | apply State.enterRecovery_steady | apply steadyOpt_get (by assumption) | apply Steady.set | apply Steady.draw | apply Steady.tell | apply Steady.purge | dsimp only)

end Sys2Proof.Machine
end

