-- ==== Sys2Proof/Laws/SteadyFirmware.lean ====
section
/-!
SUPPORT. What every command keeps (Safety.lean), of the operations and commands of Machine/Firmware.lean.
-/
set_option Elab.async false
set_option linter.all false
namespace Sys2Proof.Machine
set_option maxRecDepth 2000

theorem State.showFw_steady {s₀ s : State} (hs : Steady s₀ s) :
    Steady s₀ (State.showFw s) := by
  unfold State.showFw
  try dsimp only
  repeat' with_reducible (first | assumption | apply steadyRes_next | apply steadyOpt_none | apply steadyOpt_some | apply State.forEach_steady | apply State.when_steady | apply foldl_steady | apply foldl_fst_steady | apply foldl_snd_steady | intro _ | split | apply State.put_steady | apply State.putPair_steady | apply steadyOpt_get (by assumption) | apply Steady.set | apply Steady.draw | apply Steady.tell | apply Steady.purge | dsimp only)

theorem execFwVerify_steady {s₀ s : State} (hs : Steady s₀ s) (slot : Fin 2) :
    SteadyRes s₀ (execFwVerify slot s) := by
  unfold execFwVerify
  try dsimp only
  repeat' with_reducible (first | assumption | apply steadyRes_next | apply steadyOpt_none | apply steadyOpt_some | apply State.forEach_steady | apply State.when_steady | apply foldl_steady | apply foldl_fst_steady | apply foldl_snd_steady | intro _ | split | apply State.put_steady | apply State.showFw_steady | apply steadyOpt_get (by assumption) | apply Steady.set | apply Steady.draw | apply Steady.tell | apply Steady.purge | dsimp only)

theorem execFwVerifyDone_steady {s₀ s : State} (hs : Steady s₀ s) : SteadyRes s₀ (execFwVerifyDone s) := by
  unfold execFwVerifyDone
  split
  · apply steadyRes_next; exact hs
  · rename_i slot _
    extract_lets fw s₁
    have h₁ : Steady s₀ s₁ := Steady.set hs ..
    clear_value s₁
    split
    · rename_i im _
      apply steadyRes_next
      apply State.post_steady
      apply State.showFw_steady
      split
      · exact State.writeBootSlot_steady (Steady.set h₁ ..) _
      · exact Steady.set h₁ ..
    · apply steadyRes_next; exact State.raise_steady (State.showFw_steady (State.put_steady h₁ _ _)) _ _ _ _

theorem execFwBootSlotWrite_steady {s₀ s : State} (hs : Steady s₀ s) (slot : Fin 2) :
    SteadyRes s₀ (execFwBootSlotWrite slot s) := by
  unfold execFwBootSlotWrite
  try dsimp only
  repeat' with_reducible (first | assumption | apply steadyRes_next | apply steadyOpt_none | apply steadyOpt_some | apply State.forEach_steady | apply State.when_steady | apply foldl_steady | apply foldl_fst_steady | apply foldl_snd_steady | intro _ | split | apply State.writeBootSlot_steady | apply steadyOpt_get (by assumption) | apply Steady.set | apply Steady.draw | apply Steady.tell | apply Steady.purge | dsimp only)

theorem State.takeSection5_steady {s₀ s : State} (hs : Steady s₀ s) :
    Steady s₀ (State.takeSection5 s) := by
  unfold State.takeSection5
  try dsimp only
  repeat' with_reducible (first | assumption | apply steadyRes_next | apply steadyOpt_none | apply steadyOpt_some | apply State.forEach_steady | apply State.when_steady | apply foldl_steady | apply foldl_fst_steady | apply foldl_snd_steady | intro _ | split | apply State.extend_steady | apply steadyOpt_get (by assumption) | apply Steady.set | apply Steady.draw | apply Steady.tell | apply Steady.purge | dsimp only)

theorem State.activated_steady {s₀ s : State} (hs : Steady s₀ s) (p : Nat) :
    Steady s₀ (State.activated s p) := by
  unfold State.activated
  try dsimp only
  repeat' with_reducible (first | assumption | apply steadyRes_next | apply steadyOpt_none | apply steadyOpt_some | apply State.forEach_steady | apply State.when_steady | apply foldl_steady | apply foldl_fst_steady | apply foldl_snd_steady | intro _ | split | apply State.extend_steady | apply State.takeSection5_steady | apply State.setLeft_steady | apply steadyOpt_get (by assumption) | apply Steady.set | apply Steady.draw | apply Steady.tell | apply Steady.purge | dsimp only)

theorem State.intoForce_steady {s₀ s : State} (hs : Steady s₀ s) (mask : Nat) :
    Steady s₀ (State.intoForce s mask) := by
  unfold State.intoForce
  try dsimp only
  repeat' with_reducible (first | assumption | apply steadyRes_next | apply steadyOpt_none | apply steadyOpt_some | apply State.forEach_steady | apply State.when_steady | apply foldl_steady | apply foldl_fst_steady | apply foldl_snd_steady | intro _ | split | apply State.put_steady | apply State.showVersions_steady | apply State.writeBootSlot_steady | apply steadyOpt_get (by assumption) | apply Steady.set | apply Steady.draw | apply Steady.tell | apply Steady.purge | dsimp only)

theorem State.setRoll_steady {s₀ s : State} (hs : Steady s₀ s) (r : Option FwRoll) :
    Steady s₀ (State.setRoll s r) := by
  unfold State.setRoll
  try dsimp only
  repeat' with_reducible (first | assumption | apply steadyRes_next | apply steadyOpt_none | apply steadyOpt_some | apply State.forEach_steady | apply State.when_steady | apply foldl_steady | apply foldl_fst_steady | apply foldl_snd_steady | intro _ | split | apply State.showFw_steady | apply steadyOpt_get (by assumption) | apply Steady.set | apply Steady.draw | apply Steady.tell | apply Steady.purge | dsimp only)

theorem State.holdStation_steady {s₀ s : State} (hs : Steady s₀ s) (st : Nat) :
    Steady s₀ (State.holdStation s st) := by
  unfold State.holdStation
  try dsimp only
  repeat' with_reducible (first | assumption | apply steadyRes_next | apply steadyOpt_none | apply steadyOpt_some | apply State.forEach_steady | apply State.when_steady | apply foldl_steady | apply foldl_fst_steady | apply foldl_snd_steady | intro _ | split | apply State.setBelay_steady | apply steadyOpt_get (by assumption) | apply Steady.set | apply Steady.draw | apply Steady.tell | apply Steady.purge | dsimp only)

theorem State.releaseStation_steady {s₀ s : State} (hs : Steady s₀ s) (st : Nat) :
    Steady s₀ (State.releaseStation s st) := by
  unfold State.releaseStation
  try dsimp only
  repeat' with_reducible (first | assumption | apply steadyRes_next | apply steadyOpt_none | apply steadyOpt_some | apply State.forEach_steady | apply State.when_steady | apply foldl_steady | apply foldl_fst_steady | apply foldl_snd_steady | intro _ | split | apply State.setBelay_steady | apply steadyOpt_get (by assumption) | apply Steady.set | apply Steady.draw | apply Steady.tell | apply Steady.purge | dsimp only)

theorem State.serveReset_steady {s₀ s : State} (hs : Steady s₀ s) (st : Nat) :
    Steady s₀ (State.serveReset s st) := by
  unfold State.serveReset
  try dsimp only
  repeat' with_reducible (first | assumption | apply steadyRes_next | apply steadyOpt_none | apply steadyOpt_some | apply State.forEach_steady | apply State.when_steady | apply foldl_steady | apply foldl_fst_steady | apply foldl_snd_steady | intro _ | split | apply State.stationReset_steady | apply steadyOpt_get (by assumption) | apply Steady.set | apply Steady.draw | apply Steady.tell | apply Steady.purge | dsimp only)

theorem State.endRoll_steady {s₀ s : State} (hs : Steady s₀ s) (r : FwRoll) (status : Nat) :
    Steady s₀ (State.endRoll s r status) := by
  unfold State.endRoll
  try dsimp only
  repeat' with_reducible (first | assumption | apply steadyRes_next | apply steadyOpt_none | apply steadyOpt_some | apply State.forEach_steady | apply State.when_steady | apply foldl_steady | apply foldl_fst_steady | apply foldl_snd_steady | intro _ | split | apply State.setRoll_steady | apply State.finish_steady | apply steadyOpt_get (by assumption) | apply Steady.set | apply Steady.draw | apply Steady.tell | apply Steady.purge | dsimp only)

theorem State.advanceRoll_steady {s₀ s : State} (hs : Steady s₀ s) (fuel : Nat) : Steady s₀ (State.advanceRoll fuel s) := by
  induction fuel generalizing s with
  | zero => exact hs
  | succ fuel ih =>
    unfold State.advanceRoll
    dsimp only
    repeat' with_reducible (first | assumption | split | apply ih | apply State.releaseStation_steady | apply State.endRoll_steady | apply State.setCode_steady | apply State.post_steady | apply State.intoForce_steady | apply State.setRoll_steady | apply State.holdStation_steady)

theorem State.goRoll_steady {s₀ s : State} (hs : Steady s₀ s) : Steady s₀ s.goRoll := State.advanceRoll_steady hs _

theorem State.startRoll_steady {s₀ s : State} (hs : Steady s₀ s) (cmd : Option Nat) (classes : Nat) :
    Steady s₀ (State.startRoll s cmd classes) := by
  unfold State.startRoll
  try dsimp only
  repeat' with_reducible (first | assumption | apply steadyRes_next | apply steadyOpt_none | apply steadyOpt_some | apply State.forEach_steady | apply State.when_steady | apply foldl_steady | apply foldl_fst_steady | apply foldl_snd_steady | intro _ | split | apply State.setLeft_steady | apply State.put_steady | apply State.setRoll_steady | apply State.goRoll_steady | apply steadyOpt_get (by assumption) | apply Steady.set | apply Steady.draw | apply Steady.tell | apply Steady.purge | dsimp only)

theorem State.cancelRoll_steady {s₀ s : State} (hs : Steady s₀ s) :
    Steady s₀ (State.cancelRoll s) := by
  unfold State.cancelRoll
  try dsimp only
  repeat' with_reducible (first | assumption | apply steadyRes_next | apply steadyOpt_none | apply steadyOpt_some | apply State.forEach_steady | apply State.when_steady | apply foldl_steady | apply foldl_fst_steady | apply foldl_snd_steady | intro _ | split | apply State.setRoll_steady | apply State.goRoll_steady | apply steadyOpt_get (by assumption) | apply Steady.set | apply Steady.draw | apply Steady.tell | apply Steady.purge | dsimp only)

theorem execFwActivateRolling_steady {s₀ s : State} (hs : Steady s₀ s) (h : Nat) :
    SteadyRes s₀ (execFwActivateRolling h s) := by
  unfold execFwActivateRolling
  try dsimp only
  repeat' with_reducible (first | assumption | apply steadyRes_next | apply steadyOpt_none | apply steadyOpt_some | apply State.forEach_steady | apply State.when_steady | apply foldl_steady | apply foldl_fst_steady | apply foldl_snd_steady | intro _ | split | apply State.goRoll_steady | apply State.refuse_steady | apply State.cancelRoll_steady | apply State.finish_steady | apply State.setCmd_steady | apply State.startRoll_steady | apply steadyOpt_get (by assumption) | apply Steady.set | apply Steady.draw | apply Steady.tell | apply Steady.purge | dsimp only)

theorem execFwRoll_steady {s₀ s : State} (hs : Steady s₀ s) (classes : Fin 16) :
    SteadyRes s₀ (execFwRoll classes s) := by
  unfold execFwRoll
  try dsimp only
  repeat' with_reducible (first | assumption | apply steadyRes_next | apply steadyOpt_none | apply steadyOpt_some | apply State.forEach_steady | apply State.when_steady | apply foldl_steady | apply foldl_fst_steady | apply foldl_snd_steady | intro _ | split | apply State.put_steady | apply State.goRoll_steady | apply State.startRoll_steady | apply steadyOpt_get (by assumption) | apply Steady.set | apply Steady.draw | apply Steady.tell | apply Steady.purge | dsimp only)

theorem execFwCancel_steady {s₀ s : State} (hs : Steady s₀ s) :
    SteadyRes s₀ (execFwCancel s) := by
  unfold execFwCancel
  try dsimp only
  repeat' with_reducible (first | assumption | apply steadyRes_next | apply steadyOpt_none | apply steadyOpt_some | apply State.forEach_steady | apply State.when_steady | apply foldl_steady | apply foldl_fst_steady | apply foldl_snd_steady | intro _ | split | apply State.cancelRoll_steady | apply steadyOpt_get (by assumption) | apply Steady.set | apply Steady.draw | apply Steady.tell | apply Steady.purge | dsimp only)

theorem State.setSummit_steady {s₀ s : State} (hs : Steady s₀ s) (m : Option FwSummit) :
    Steady s₀ (State.setSummit s m) := by
  unfold State.setSummit
  try dsimp only
  repeat' with_reducible (first | assumption | apply steadyRes_next | apply steadyOpt_none | apply steadyOpt_some | apply State.forEach_steady | apply State.when_steady | apply foldl_steady | apply foldl_fst_steady | apply foldl_snd_steady | intro _ | split | apply State.showFw_steady | apply steadyOpt_get (by assumption) | apply Steady.set | apply Steady.draw | apply Steady.tell | apply Steady.purge | dsimp only)

theorem State.adoptSummit_steady {s₀ s : State} (hs : Steady s₀ s) (m : FwSummit) :
    Steady s₀ (State.adoptSummit s m) := by
  unfold State.adoptSummit
  try dsimp only
  repeat' with_reducible (first | assumption | apply steadyRes_next | apply steadyOpt_none | apply steadyOpt_some | apply State.forEach_steady | apply State.when_steady | apply foldl_steady | apply foldl_fst_steady | apply foldl_snd_steady | intro _ | split | apply State.setSummit_steady | apply State.put_steady | apply State.post_steady | apply steadyOpt_get (by assumption) | apply Steady.set | apply Steady.draw | apply Steady.tell | apply Steady.purge | dsimp only)

theorem State.dropSummit_steady {s₀ s : State} (hs : Steady s₀ s) :
    Steady s₀ (State.dropSummit s) := by
  unfold State.dropSummit
  try dsimp only
  repeat' with_reducible (first | assumption | apply steadyRes_next | apply steadyOpt_none | apply steadyOpt_some | apply State.forEach_steady | apply State.when_steady | apply foldl_steady | apply foldl_fst_steady | apply foldl_snd_steady | intro _ | split | apply State.setSummit_steady | apply State.put_steady | apply steadyOpt_get (by assumption) | apply Steady.set | apply Steady.draw | apply Steady.tell | apply Steady.purge | dsimp only)

theorem State.barrierEnded_steady {s₀ s : State} (hs : Steady s₀ s) (purpose : Nat) :
    Steady s₀ (State.barrierEnded s purpose) := by
  unfold State.barrierEnded
  try dsimp only
  repeat' with_reducible (first | assumption | apply steadyRes_next | apply steadyOpt_none | apply steadyOpt_some | apply State.forEach_steady | apply State.when_steady | apply foldl_steady | apply foldl_fst_steady | apply foldl_snd_steady | intro _ | split | apply State.tellTree_steady | apply State.dropSummit_steady | apply State.post_steady | apply State.finish_steady | apply State.setSummit_steady | apply State.snapFinish_steady | apply steadyOpt_get (by assumption) | apply Steady.set | apply Steady.draw | apply Steady.tell | apply Steady.purge | dsimp only)

theorem State.startBarrier_steady {s₀ s : State} (hs : Steady s₀ s) (purpose : Nat) :
    Steady s₀ (State.startBarrier s purpose) := by
  unfold State.startBarrier
  try dsimp only
  repeat' with_reducible (first | assumption | apply steadyRes_next | apply steadyOpt_none | apply steadyOpt_some | apply State.forEach_steady | apply State.when_steady | apply foldl_steady | apply foldl_fst_steady | apply foldl_snd_steady | intro _ | split | apply State.barrierEnded_steady | apply State.tellTree_steady | apply steadyOpt_get (by assumption) | apply Steady.set | apply Steady.draw | apply Steady.tell | apply Steady.purge | dsimp only)

theorem execFwActivateSummit_steady {s₀ s : State} (hs : Steady s₀ s) (h : Nat) :
    SteadyRes s₀ (execFwActivateSummit h s) := by
  unfold execFwActivateSummit
  try dsimp only
  repeat' with_reducible (first | assumption | apply steadyRes_next | apply steadyOpt_none | apply steadyOpt_some | apply State.forEach_steady | apply State.when_steady | apply foldl_steady | apply foldl_fst_steady | apply foldl_snd_steady | intro _ | split | apply State.refuse_steady | apply State.setCmd_steady | apply State.tellTree_steady | apply State.adoptSummit_steady | apply State.startBarrier_steady | apply steadyOpt_get (by assumption) | apply Steady.set | apply Steady.draw | apply Steady.tell | apply Steady.purge | dsimp only)

theorem execFwSummitCancel_steady {s₀ s : State} (hs : Steady s₀ s) (h : Nat) :
    SteadyRes s₀ (execFwSummitCancel h s) := by
  unfold execFwSummitCancel
  try dsimp only
  repeat' with_reducible (first | assumption | apply steadyRes_next | apply steadyOpt_none | apply steadyOpt_some | apply State.forEach_steady | apply State.when_steady | apply foldl_steady | apply foldl_fst_steady | apply foldl_snd_steady | intro _ | split | apply State.refuse_steady | apply State.tellTree_steady | apply State.dropSummit_steady | apply State.takeFree_steady | apply State.finish_steady | apply steadyOpt_get (by assumption) | apply Steady.set | apply Steady.draw | apply Steady.tell | apply Steady.purge | dsimp only)

theorem execSummitSet_steady {s₀ s : State} (hs : Steady s₀ s) :
    SteadyRes s₀ (execSummitSet s) := by
  unfold execSummitSet
  try dsimp only
  repeat' with_reducible (first | assumption | apply steadyRes_next | apply steadyOpt_none | apply steadyOpt_some | apply State.forEach_steady | apply State.when_steady | apply foldl_steady | apply foldl_fst_steady | apply foldl_snd_steady | intro _ | split | apply State.takeFirst_steady (by assumption) | apply State.adoptSummit_steady | apply State.route_steady | apply State.dropSummit_steady | apply steadyOpt_get (by assumption) | apply Steady.set | apply Steady.draw | apply Steady.tell | apply Steady.purge | dsimp only)

theorem execSummitDrainStart_steady {s₀ s : State} (hs : Steady s₀ s) :
    SteadyRes s₀ (execSummitDrainStart s) := by
  unfold execSummitDrainStart
  try dsimp only
  repeat' with_reducible (first | assumption | apply steadyRes_next | apply steadyOpt_none | apply steadyOpt_some | apply State.forEach_steady | apply State.when_steady | apply foldl_steady | apply foldl_fst_steady | apply foldl_snd_steady | intro _ | split | apply steadyOpt_get (by assumption) | apply Steady.set | apply Steady.draw | apply Steady.tell | apply Steady.purge | dsimp only)

theorem State.summitDone_steady {s₀ s : State} (hs : Steady s₀ s) (m : FwSummit) :
    Steady s₀ (State.summitDone s m) := by
  unfold State.summitDone
  try dsimp only
  repeat' with_reducible (first | assumption | apply steadyRes_next | apply steadyOpt_none | apply steadyOpt_some | apply State.forEach_steady | apply State.when_steady | apply foldl_steady | apply foldl_fst_steady | apply foldl_snd_steady | intro _ | split | apply State.activated_steady | apply State.intoForce_steady | apply State.post_steady | apply State.put_steady | apply State.setSummit_steady | apply State.startBarrier_steady | apply steadyOpt_get (by assumption) | apply Steady.set | apply Steady.draw | apply Steady.tell | apply Steady.purge | dsimp only)

theorem State.goSummit_steady {s₀ s : State} (hs : Steady s₀ s) :
    Steady s₀ (State.goSummit s) := by
  unfold State.goSummit
  try dsimp only
  repeat' with_reducible (first | assumption | apply steadyRes_next | apply steadyOpt_none | apply steadyOpt_some | apply State.forEach_steady | apply State.when_steady | apply foldl_steady | apply foldl_fst_steady | apply foldl_snd_steady | intro _ | split | apply State.summitDone_steady | apply State.setSummit_steady | apply steadyOpt_get (by assumption) | apply Steady.set | apply Steady.draw | apply Steady.tell | apply Steady.purge | dsimp only)

theorem execSummit_steady {s₀ s : State} (hs : Steady s₀ s) :
    SteadyRes s₀ (execSummit s) := by
  unfold execSummit
  try dsimp only
  repeat' with_reducible (first | assumption | apply steadyRes_next | apply steadyOpt_none | apply steadyOpt_some | apply State.forEach_steady | apply State.when_steady | apply foldl_steady | apply foldl_fst_steady | apply foldl_snd_steady | intro _ | split | apply State.stopAny_steady | apply State.stopAtBoundary_steady | apply State.setCode_steady | apply State.put_steady | apply State.setSummit_steady | apply State.goSummit_steady | apply steadyOpt_get (by assumption) | apply Steady.set | apply Steady.draw | apply Steady.tell | apply Steady.purge | dsimp only)

theorem execProcessorReady_steady {s₀ s : State} (hs : Steady s₀ s) (p : Fin 36) :
    SteadyRes s₀ (execProcessorReady p s) := by
  unfold execProcessorReady
  try dsimp only
  repeat' with_reducible (first | assumption | apply steadyRes_next | apply steadyOpt_none | apply steadyOpt_some | apply State.forEach_steady | apply State.when_steady | apply foldl_steady | apply foldl_fst_steady | apply foldl_snd_steady | intro _ | split | apply State.setSummit_steady | apply State.goSummit_steady | apply State.activated_steady | apply State.incSat_steady | apply State.post_steady | apply State.setRoll_steady | apply State.showVersions_steady | apply State.serveReset_steady | apply State.goRoll_steady | apply steadyOpt_get (by assumption) | apply Steady.set | apply Steady.draw | apply Steady.tell | apply Steady.purge | dsimp only)

theorem execActivationTimeout_steady {s₀ s : State} (hs : Steady s₀ s) (p : Fin 36) :
    SteadyRes s₀ (execActivationTimeout p s) := by
  unfold execActivationTimeout
  try dsimp only
  repeat' with_reducible (first | assumption | apply steadyRes_next | apply steadyOpt_none | apply steadyOpt_some | apply State.forEach_steady | apply State.when_steady | apply foldl_steady | apply foldl_fst_steady | apply foldl_snd_steady | intro _ | split | apply State.setCode_steady | apply State.showVersions_steady | apply State.put_steady | apply State.raise_steady | apply State.setSummit_steady | apply State.startBarrier_steady | apply State.endRoll_steady | apply State.releaseStation_steady | apply State.serveReset_steady | apply steadyOpt_get (by assumption) | apply Steady.set | apply Steady.draw | apply Steady.tell | apply Steady.purge | dsimp only)

theorem execProcessorFault_steady {s₀ s : State} (hs : Steady s₀ s) (p : Fin 36) (watchdog : Bool) :
    SteadyRes s₀ (execProcessorFault p watchdog s) := by
  unfold execProcessorFault
  try dsimp only
  repeat' with_reducible (first | assumption | apply steadyRes_next | apply steadyOpt_none | apply steadyOpt_some | apply State.forEach_steady | apply State.when_steady | apply foldl_steady | apply foldl_fst_steady | apply foldl_snd_steady | intro _ | split | apply State.post_steady | apply State.stationReset_steady | apply State.wedge_steady | apply steadyOpt_get (by assumption) | apply Steady.set | apply Steady.draw | apply Steady.tell | apply Steady.purge | dsimp only)

end Sys2Proof.Machine
end

