-- ==== Sys2Proof/Laws/SteadyTree.lean ====
section
/-!
SUPPORT. What every command keeps (Safety.lean), of the operations and commands of Machine/Tree.lean.
-/
set_option Elab.async false
set_option linter.all false
namespace Sys2Proof.Machine
set_option maxRecDepth 2000

theorem State.flushEventsUp_steady {s₀ s : State} (hs : Steady s₀ s) :
    Steady s₀ (State.flushEventsUp s) := by
  unfold State.flushEventsUp
  try dsimp only
  repeat' with_reducible (first | assumption | apply steadyRes_next | apply steadyOpt_none | apply steadyOpt_some | apply State.forEach_steady | apply State.when_steady | apply foldl_steady | apply foldl_fst_steady | apply foldl_snd_steady | intro _ | split | apply State.sendEventUp_steady | apply steadyOpt_get (by assumption) | apply Steady.set | apply Steady.draw | apply Steady.tell | apply Steady.purge | dsimp only)

theorem State.endBarriers_steady {s₀ s : State} (hs : Steady s₀ s) :
    Steady s₀ (State.endBarriers s) := by
  unfold State.endBarriers
  try dsimp only
  repeat' with_reducible (first | assumption | apply steadyRes_next | apply steadyOpt_none | apply steadyOpt_some | apply State.forEach_steady | apply State.when_steady | apply foldl_steady | apply foldl_fst_steady | apply foldl_snd_steady | intro _ | split | apply State.barrierEnded_steady | apply State.flushEventsUp_steady | apply State.sendOn_steady | apply steadyOpt_get (by assumption) | apply Steady.set | apply Steady.draw | apply Steady.tell | apply Steady.purge | dsimp only)

theorem execBarrier_steady {s₀ s : State} (hs : Steady s₀ s) :
    SteadyRes s₀ (execBarrier s) := by
  unfold execBarrier
  try dsimp only
  repeat' with_reducible (first | assumption | apply steadyRes_next | apply steadyOpt_none | apply steadyOpt_some | apply State.forEach_steady | apply State.when_steady | apply foldl_steady | apply foldl_fst_steady | apply foldl_snd_steady | intro _ | split | apply State.endBarriers_steady | apply steadyOpt_get (by assumption) | apply Steady.set | apply Steady.draw | apply Steady.tell | apply Steady.purge | dsimp only)

theorem execBarrierAck_steady {s₀ s : State} (hs : Steady s₀ s) :
    SteadyRes s₀ (execBarrierAck s) := by
  unfold execBarrierAck
  try dsimp only
  repeat' with_reducible (first | assumption | apply steadyRes_next | apply steadyOpt_none | apply steadyOpt_some | apply State.forEach_steady | apply State.when_steady | apply foldl_steady | apply foldl_fst_steady | apply foldl_snd_steady | intro _ | split | apply State.takeFirst_steady (by assumption) | apply State.endBarriers_steady | apply steadyOpt_get (by assumption) | apply Steady.set | apply Steady.draw | apply Steady.tell | apply Steady.purge | dsimp only)

theorem execSnapshot_steady {s₀ s : State} (hs : Steady s₀ s) (h : Nat) :
    SteadyRes s₀ (execSnapshot h s) := by
  unfold execSnapshot
  try dsimp only
  repeat' with_reducible (first | assumption | apply steadyRes_next | apply steadyOpt_none | apply steadyOpt_some | apply State.forEach_steady | apply State.when_steady | apply foldl_steady | apply foldl_fst_steady | apply foldl_snd_steady | intro _ | split | apply State.refuse_steady | apply State.setCmd_steady | apply State.tellTree_steady | apply steadyOpt_get (by assumption) | apply Steady.set | apply Steady.draw | apply Steady.tell | apply Steady.purge | dsimp only)

theorem State.latchSnap_steady {s₀ s : State} (hs : Steady s₀ s) (late : Bool) :
    Steady s₀ (State.latchSnap s late) := by
  unfold State.latchSnap
  try dsimp only
  repeat' with_reducible (first | assumption | apply steadyRes_next | apply steadyOpt_none | apply steadyOpt_some | apply State.forEach_steady | apply State.when_steady | apply foldl_steady | apply foldl_fst_steady | apply foldl_snd_steady | intro _ | split | apply State.put_steady | apply State.startBarrier_steady | apply State.route_steady | apply steadyOpt_get (by assumption) | apply Steady.set | apply Steady.draw | apply Steady.tell | apply Steady.purge | dsimp only)

theorem execSnapArm_steady {s₀ s : State} (hs : Steady s₀ s) :
    SteadyRes s₀ (execSnapArm s) := by
  unfold execSnapArm
  try dsimp only
  repeat' with_reducible (first | assumption | apply steadyRes_next | apply steadyOpt_none | apply steadyOpt_some | apply State.forEach_steady | apply State.when_steady | apply foldl_steady | apply foldl_fst_steady | apply foldl_snd_steady | intro _ | split | apply State.takeFirst_steady (by assumption) | apply State.put_steady | apply State.latchSnap_steady | apply steadyOpt_get (by assumption) | apply Steady.set | apply Steady.draw | apply Steady.tell | apply Steady.purge | dsimp only)

theorem execSnapshotLatch_steady {s₀ s : State} (hs : Steady s₀ s) :
    SteadyRes s₀ (execSnapshotLatch s) := by
  unfold execSnapshotLatch
  try dsimp only
  repeat' with_reducible (first | assumption | apply steadyRes_next | apply steadyOpt_none | apply steadyOpt_some | apply State.forEach_steady | apply State.when_steady | apply foldl_steady | apply foldl_fst_steady | apply foldl_snd_steady | intro _ | split | apply State.latchSnap_steady | apply steadyOpt_get (by assumption) | apply Steady.set | apply Steady.draw | apply Steady.tell | apply Steady.purge | dsimp only)

theorem State.resetErr_steady {s₀ s : State} (hs : Steady s₀ s) :
    Steady s₀ (State.resetErr s) := by
  unfold State.resetErr
  try dsimp only
  repeat' with_reducible (first | assumption | apply steadyRes_next | apply steadyOpt_none | apply steadyOpt_some | apply State.forEach_steady | apply State.when_steady | apply foldl_steady | apply foldl_fst_steady | apply foldl_snd_steady | intro _ | split | apply State.put_steady | apply steadyOpt_get (by assumption) | apply Steady.set | apply Steady.draw | apply Steady.tell | apply Steady.purge | dsimp only)

theorem State.resetFields_steady {s₀ s : State} (hs : Steady s₀ s) (kind target : Nat) :
    Steady s₀ (State.resetFields s kind target) := by
  unfold State.resetFields
  try dsimp only
  repeat' with_reducible (first | assumption | apply steadyRes_next | apply steadyOpt_none | apply steadyOpt_some | apply State.forEach_steady | apply State.when_steady | apply foldl_steady | apply foldl_fst_steady | apply foldl_snd_steady | intro _ | split | apply State.put_steady | apply steadyOpt_get (by assumption) | apply Steady.set | apply Steady.draw | apply Steady.tell | apply Steady.purge | dsimp only)

theorem State.sendReset_steady {s₀ s : State} (hs : Steady s₀ s) (q target kind : Nat) :
    Steady s₀ (State.sendReset s q target kind) := by
  unfold State.sendReset
  try dsimp only
  repeat' with_reducible (first | assumption | apply steadyRes_next | apply steadyOpt_none | apply steadyOpt_some | apply State.forEach_steady | apply State.when_steady | apply foldl_steady | apply foldl_fst_steady | apply foldl_snd_steady | intro _ | split | apply State.put_steady | apply State.sendOn_steady | apply steadyOpt_get (by assumption) | apply Steady.set | apply Steady.draw | apply Steady.tell | apply Steady.purge | dsimp only)

theorem State.resetBegun_steady {s₀ s : State} (hs : Steady s₀ s) (kind : Nat) (waiting : List Nat) :
    Steady s₀ (State.resetBegun s kind waiting) := by
  unfold State.resetBegun
  try dsimp only
  repeat' with_reducible (first | assumption | apply steadyRes_next | apply steadyOpt_none | apply steadyOpt_some | apply State.forEach_steady | apply State.when_steady | apply foldl_steady | apply foldl_fst_steady | apply foldl_snd_steady | intro _ | split | apply State.put_steady | apply steadyOpt_get (by assumption) | apply Steady.set | apply Steady.draw | apply Steady.tell | apply Steady.purge | dsimp only)

theorem execTreeResetStation_steady {s₀ s : State} (hs : Steady s₀ s) (target : BitVec 24) :
    SteadyRes s₀ (execTreeResetStation target s) := by
  unfold execTreeResetStation
  try dsimp only
  repeat' with_reducible (first | assumption | apply steadyRes_next | apply steadyOpt_none | apply steadyOpt_some | apply State.forEach_steady | apply State.when_steady | apply foldl_steady | apply foldl_fst_steady | apply foldl_snd_steady | intro _ | split | apply State.resetFields_steady | apply State.resetErr_steady | apply State.sendReset_steady | apply State.stationReset_steady | apply State.resetBegun_steady | apply steadyOpt_get (by assumption) | apply Steady.set | apply Steady.draw | apply Steady.tell | apply Steady.purge | dsimp only)

theorem execTreeResetDevice_steady {s₀ s : State} (hs : Steady s₀ s) (target last : BitVec 24) :
    SteadyRes s₀ (execTreeResetDevice target last s) := by
  unfold execTreeResetDevice
  try dsimp only
  repeat' with_reducible (first | assumption | apply steadyRes_next | apply steadyOpt_none | apply steadyOpt_some | apply State.forEach_steady | apply State.when_steady | apply foldl_steady | apply foldl_fst_steady | apply foldl_snd_steady | intro _ | split | apply State.resetFields_steady | apply State.resetErr_steady | apply State.sendReset_steady | apply State.endForwarded_steady | apply State.resetBegun_steady | apply steadyOpt_get (by assumption) | apply Steady.set | apply Steady.draw | apply Steady.tell | apply Steady.purge | dsimp only)

theorem State.ackReset_steady {s₀ s : State} (hs : Steady s₀ s) :
    Steady s₀ (State.ackReset s) := by
  unfold State.ackReset
  try dsimp only
  repeat' with_reducible (first | assumption | apply steadyRes_next | apply steadyOpt_none | apply steadyOpt_some | apply State.forEach_steady | apply State.when_steady | apply foldl_steady | apply foldl_fst_steady | apply foldl_snd_steady | intro _ | split | apply State.sendOn_steady | apply steadyOpt_get (by assumption) | apply Steady.set | apply Steady.draw | apply Steady.tell | apply Steady.purge | dsimp only)

theorem State.resetAcked_steady {s₀ s : State} (hs : Steady s₀ s) (q : Nat) :
    Steady s₀ (State.resetAcked s q) := by
  unfold State.resetAcked
  try dsimp only
  repeat' with_reducible (first | assumption | apply steadyRes_next | apply steadyOpt_none | apply steadyOpt_some | apply State.forEach_steady | apply State.when_steady | apply foldl_steady | apply foldl_fst_steady | apply foldl_snd_steady | intro _ | split | apply steadyOpt_get (by assumption) | apply Steady.set | apply Steady.draw | apply Steady.tell | apply Steady.purge | dsimp only)

theorem execResetPacket_keeps (s : State) : KeepsRes s (execResetPacket s) := by
  have hs := Steady.refl s
  unfold execResetPacket
  split
  · apply keepsRes_next; exact hs.toKeeps
  · split
    · apply keepsRes_next; exact (State.ackReset_steady hs).toKeeps
    · rename_i e t h
      have ht := State.takeFirst_steady h hs
      clear h
      extract_lets kind
      split
      · split
        · apply keepsRes_next; exact (State.ackReset_steady (State.resetAcked_steady ht _)).toKeeps
        · apply keepsRes_next; exact (State.sendOn_steady ht _ _).toKeeps
      · split
        · apply keepsRes_next; exact ht.toKeeps.trans (State.fullReset_keeps _ _)
        · split
          · apply keepsRes_next; exact (State.ackReset_steady (Steady.set (State.forEach_steady ht _ _ (fun t a h => State.stationReset_steady h a)) ..)).toKeeps
          · apply keepsRes_next; exact ht.toKeeps

theorem State.resetOver_steady {s₀ s : State} (hs : Steady s₀ s) :
    Steady s₀ (State.resetOver s) := by
  unfold State.resetOver
  try dsimp only
  repeat' with_reducible (first | assumption | apply steadyRes_next | apply steadyOpt_none | apply steadyOpt_some | apply State.forEach_steady | apply State.when_steady | apply foldl_steady | apply foldl_fst_steady | apply foldl_snd_steady | intro _ | split | apply State.put_steady | apply steadyOpt_get (by assumption) | apply Steady.set | apply Steady.draw | apply Steady.tell | apply Steady.purge | dsimp only)

theorem execTreeResetAck_steady {s₀ s : State} (hs : Steady s₀ s) :
    SteadyRes s₀ (execTreeResetAck s) := by
  unfold execTreeResetAck
  try dsimp only
  repeat' with_reducible (first | assumption | apply steadyRes_next | apply steadyOpt_none | apply steadyOpt_some | apply State.forEach_steady | apply State.when_steady | apply foldl_steady | apply foldl_fst_steady | apply foldl_snd_steady | intro _ | split | apply State.takeFirst_steady (by assumption) | apply State.resetAcked_steady | apply State.resetOver_steady | apply steadyOpt_get (by assumption) | apply Steady.set | apply Steady.draw | apply Steady.tell | apply Steady.purge | dsimp only)

end Sys2Proof.Machine
end

