-- ==== Sys2Proof/Laws/SteadyRegAccess.lean ====
section
/-!
SUPPORT. What every command keeps (Safety.lean), of the operations and commands of Machine/RegAccess.lean.
-/
set_option Elab.async false
set_option linter.all false
namespace Sys2Proof.Machine
set_option maxRecDepth 2000

theorem Res.state_steady {s₀ s : State} {r : Res} (h : SteadyRes s₀ r) (_hs : Steady s₀ s) : Steady s₀ (Res.state s r) := by
  obtain ⟨t, rfl, k⟩ := h
  exact k

theorem State.readWord_steady {s₀ s : State} (hs : Steady s₀ s) (who : Requester) (fn off : Nat) :
    Steady s₀ (State.readWord s who fn off).2 := by
  unfold State.readWord
  try dsimp only
  repeat' with_reducible (first | assumption | apply steadyRes_next | apply steadyOpt_none | apply steadyOpt_some | apply State.forEach_steady | apply State.when_steady | apply foldl_steady | apply foldl_fst_steady | apply foldl_snd_steady | intro _ | split | apply State.put_steady | apply steadyOpt_get (by assumption) | apply Steady.set | apply Steady.draw | apply Steady.tell | apply Steady.purge | dsimp only)

theorem State.readWords_steady {s₀ s : State} (hs : Steady s₀ s) (who : Requester) (fn : Nat) (offs : List Nat) :
    Steady s₀ (State.readWords s who fn offs).2 := by
  unfold State.readWords
  try dsimp only
  repeat' with_reducible (first | assumption | apply steadyRes_next | apply steadyOpt_none | apply steadyOpt_some | apply State.forEach_steady | apply State.when_steady | apply foldl_steady | apply foldl_fst_steady | apply foldl_snd_steady | intro _ | split | apply State.readWord_steady | apply steadyOpt_get (by assumption) | apply Steady.set | apply Steady.draw | apply Steady.tell | apply Steady.purge | dsimp only)

theorem State.writeFields_steady {s₀ s : State} (hs : Steady s₀ s) (r : RegRow) (ix v : Nat) :
    Steady s₀ (State.writeFields s r ix v) := by
  unfold State.writeFields
  try dsimp only
  repeat' with_reducible (first | assumption | apply steadyRes_next | apply steadyOpt_none | apply steadyOpt_some | apply State.forEach_steady | apply State.when_steady | apply foldl_steady | apply foldl_fst_steady | apply foldl_snd_steady | intro _ | split | apply State.put_steady | apply steadyOpt_get (by assumption) | apply Steady.set | apply Steady.draw | apply Steady.tell | apply Steady.purge | dsimp only)

theorem State.onBit_steady {s₀ s : State} (hs : Steady s₀ s) (v i : Nat) (f : State → State) (hf : ∀ t, Steady s₀ t → Steady s₀ (f t)) :
    Steady s₀ (s.onBit v i f) := by
  unfold State.onBit
  split
  · exact hf s hs
  · exact hs

theorem State.writeHost_steady {s₀ s : State} (hs : Steady s₀ s) (fn b ix v : Nat) :
    SteadyOpt s₀ (State.writeHost s fn b ix v) := by
  unfold State.writeHost
  try dsimp only
  repeat' with_reducible (first | assumption | apply steadyRes_next | apply steadyOpt_none | apply steadyOpt_some | apply State.forEach_steady | apply State.when_steady | apply foldl_steady | apply foldl_fst_steady | apply foldl_snd_steady | intro _ | split | apply State.onBit_steady | apply Res.state_steady | apply execWindowCommit_steady | apply execEvtQCfgWrite_steady | apply execClearAll_steady | apply execSqCfgWrite_steady | apply execCqCfgWrite_steady | apply steadyOpt_get (by assumption) | apply Steady.set | apply Steady.draw | apply Steady.tell | apply Steady.purge | dsimp only)

theorem State.writeStore_steady {s₀ s : State} (hs : Steady s₀ s) (r : RegRow) (ix v : Nat) :
    SteadyOpt s₀ (State.writeStore s r ix v) := by
  unfold State.writeStore
  try dsimp only
  repeat' with_reducible (first | assumption | apply steadyRes_next | apply steadyOpt_none | apply steadyOpt_some | apply State.forEach_steady | apply State.when_steady | apply foldl_steady | apply foldl_fst_steady | apply foldl_snd_steady | intro _ | split | apply State.put_steady | apply State.writeFields_steady | apply State.onBit_steady | apply Res.state_steady | apply execMemCntClr_steady | apply State.writeInject_steady | apply execCacheEnable_steady | apply execCacheDisable_steady | apply execKeyLoad_steady | apply execKeyErase_steady | apply steadyOpt_get (by assumption) | apply Steady.set | apply Steady.draw | apply Steady.tell | apply Steady.purge | dsimp only)

theorem State.writeServo_steady {s₀ s : State} (hs : Steady s₀ s) (r : RegRow) (ix v : Nat) :
    SteadyOpt s₀ (State.writeServo s r ix v) := by
  unfold State.writeServo
  try dsimp only
  repeat' with_reducible (first | assumption | apply steadyRes_next | apply steadyOpt_none | apply steadyOpt_some | apply State.forEach_steady | apply State.when_steady | apply foldl_steady | apply foldl_fst_steady | apply foldl_snd_steady | intro _ | split | apply State.writeFields_steady | apply State.updateCost_steady | apply Res.state_steady | apply execInjEnable_steady | apply State.onBit_steady | apply State.traceArm_steady | apply execTraceStop_steady | apply State.traceFire_steady | apply execBelayReqSet_steady | apply execBelayReqClear_steady | apply State.setFlag_steady | apply execLddLinkEnable_steady | apply State.lddOff_steady | apply State.driveLden_steady | apply execSectEnWrite_steady | apply execSrvPeriodWrite_steady | apply execTrcArm_steady | apply execTrcFire_steady | apply steadyOpt_get (by assumption) | apply Steady.set | apply Steady.draw | apply Steady.tell | apply Steady.purge | dsimp only)

theorem State.writeSpindle_steady {s₀ s : State} (hs : Steady s₀ s) (r : RegRow) (ix v : Nat) :
    SteadyOpt s₀ (State.writeSpindle s r ix v) := by
  unfold State.writeSpindle
  try dsimp only
  repeat' with_reducible (first | assumption | apply steadyRes_next | apply steadyOpt_none | apply steadyOpt_some | apply State.forEach_steady | apply State.when_steady | apply foldl_steady | apply foldl_fst_steady | apply foldl_snd_steady | intro _ | split | apply State.put_steady | apply State.writeRun_steady | apply Res.state_steady | apply execSpindleTargetWrite_steady | apply State.writeFields_steady | apply State.onBit_steady | apply execChopFaultClear_steady | apply steadyOpt_get (by assumption) | apply Steady.set | apply Steady.draw | apply Steady.tell | apply Steady.purge | dsimp only)

theorem State.writeMotCtrl_steady {s₀ s : State} (hs : Steady s₀ s) (x v : Nat) :
    Steady s₀ (State.writeMotCtrl s x v) := by
  unfold State.writeMotCtrl
  try dsimp only
  repeat' with_reducible (first | assumption | apply steadyRes_next | apply steadyOpt_none | apply steadyOpt_some | apply State.forEach_steady | apply State.when_steady | apply foldl_steady | apply foldl_fst_steady | apply foldl_snd_steady | intro _ | split | apply Res.state_steady | apply execMotorEmergency_steady | apply execMotorRappel_steady | apply execMotorHome_steady | apply execMotorStart_steady | apply steadyOpt_get (by assumption) | apply Steady.set | apply Steady.draw | apply Steady.tell | apply Steady.purge | dsimp only)

theorem State.writeGrpCtrl_steady {s₀ s : State} (hs : Steady s₀ s) (x v : Nat) : Steady s₀ (s.writeGrpCtrl x v) := by
  unfold State.writeGrpCtrl
  extract_lets g s₁
  have h₁ : Steady s₀ s₁ := by
    show Steady s₀ (if _ then _ else _)
    split
    · exact hs
    · exact Res.state_steady (execGroupMembersWrite_steady hs _ _) hs
  clear_value s₁
  repeat' with_reducible (first | assumption | split | apply Res.state_steady | apply execGroupRappel_steady | apply execGroupStart_steady)

theorem State.writeGearCtrl_steady {s₀ s : State} (hs : Steady s₀ s) (x v : Nat) :
    Steady s₀ (State.writeGearCtrl s x v) := by
  unfold State.writeGearCtrl
  try dsimp only
  repeat' with_reducible (first | assumption | apply steadyRes_next | apply steadyOpt_none | apply steadyOpt_some | apply State.forEach_steady | apply State.when_steady | apply foldl_steady | apply foldl_fst_steady | apply foldl_snd_steady | intro _ | split | apply State.setGear_steady | apply State.onBit_steady | apply State.armGear_steady | apply steadyOpt_get (by assumption) | apply Steady.set | apply Steady.draw | apply Steady.tell | apply Steady.purge | dsimp only)

theorem State.writeMotion_steady {s₀ s : State} (hs : Steady s₀ s) (r : RegRow) (ix v : Nat) :
    SteadyOpt s₀ (State.writeMotion s r ix v) := by
  unfold State.writeMotion
  try dsimp only
  repeat' with_reducible (first | assumption | apply steadyRes_next | apply steadyOpt_none | apply steadyOpt_some | apply State.forEach_steady | apply State.when_steady | apply foldl_steady | apply foldl_fst_steady | apply foldl_snd_steady | intro _ | split | apply State.writeMotCtrl_steady | apply Res.state_steady | apply execMotorTargetWrite_steady | apply execMotorSpeedWrite_steady | apply execMotorDecWrite_steady | apply execMotorPosSet_steady | apply State.writeFields_steady | apply execHomeFaultClear_steady | apply State.writeGearCtrl_steady | apply State.writeGrpCtrl_steady | apply State.onBit_steady | apply execEstopClear_steady | apply execEstopAll_steady | apply steadyOpt_get (by assumption) | apply Steady.set | apply Steady.draw | apply Steady.tell | apply Steady.purge | dsimp only)

theorem State.writeLane_steady {s₀ s : State} (hs : Steady s₀ s) (r : RegRow) (ix v : Nat) : SteadyOpt s₀ (s.writeLane r ix v) := by
  unfold State.writeLane
  cases laneRegAt r.base ix with
  | none => trivial
  | some reg => exact State.laneWrite_steady hs _ _ _

theorem State.remoteAccess_steady {s₀ s : State} (hs : Steady s₀ s) (write : Bool) :
    Steady s₀ (State.remoteAccess s write) := by
  unfold State.remoteAccess
  try dsimp only
  repeat' with_reducible (first | assumption | apply steadyRes_next | apply steadyOpt_none | apply steadyOpt_some | apply State.forEach_steady | apply State.when_steady | apply foldl_steady | apply foldl_fst_steady | apply foldl_snd_steady | intro _ | split | apply State.put_steady | apply State.route_steady | apply steadyOpt_get (by assumption) | apply Steady.set | apply Steady.draw | apply Steady.tell | apply Steady.purge | dsimp only)

theorem execRemoteWrite_steady {s₀ s : State} (hs : Steady s₀ s) :
    SteadyRes s₀ (execRemoteWrite s) := by
  unfold execRemoteWrite
  try dsimp only
  repeat' with_reducible (first | assumption | apply steadyRes_next | apply steadyOpt_none | apply steadyOpt_some | apply State.forEach_steady | apply State.when_steady | apply foldl_steady | apply foldl_fst_steady | apply foldl_snd_steady | intro _ | split | apply State.remoteAccess_steady | apply steadyOpt_get (by assumption) | apply Steady.set | apply Steady.draw | apply Steady.tell | apply Steady.purge | dsimp only)

theorem execRemoteRead_steady {s₀ s : State} (hs : Steady s₀ s) :
    SteadyRes s₀ (execRemoteRead s) := by
  unfold execRemoteRead
  try dsimp only
  repeat' with_reducible (first | assumption | apply steadyRes_next | apply steadyOpt_none | apply steadyOpt_some | apply State.forEach_steady | apply State.when_steady | apply foldl_steady | apply foldl_fst_steady | apply foldl_snd_steady | intro _ | split | apply State.remoteAccess_steady | apply steadyOpt_get (by assumption) | apply Steady.set | apply Steady.draw | apply Steady.tell | apply Steady.purge | dsimp only)

theorem State.writeTreeReset_steady {s₀ s : State} (hs : Steady s₀ s) (r : RegRow) (v : Nat) :
    Steady s₀ (State.writeTreeReset s r v) := by
  unfold State.writeTreeReset
  try dsimp only
  repeat' with_reducible (first | assumption | apply steadyRes_next | apply steadyOpt_none | apply steadyOpt_some | apply State.forEach_steady | apply State.when_steady | apply foldl_steady | apply foldl_fst_steady | apply foldl_snd_steady | intro _ | split | apply State.writeFields_steady | apply Res.state_steady | apply execTreeResetStation_steady | apply execTreeResetDevice_steady | apply State.takeFree_steady | apply State.resetErr_steady | apply steadyOpt_get (by assumption) | apply Steady.set | apply Steady.draw | apply Steady.tell | apply Steady.purge | dsimp only)

theorem State.writeTree_steady {s₀ s : State} (hs : Steady s₀ s) (r : RegRow) (ix v : Nat) :
    SteadyOpt s₀ (State.writeTree s r ix v) := by
  unfold State.writeTree
  try dsimp only
  repeat' with_reducible (first | assumption | apply steadyRes_next | apply steadyOpt_none | apply steadyOpt_some | apply State.forEach_steady | apply State.when_steady | apply foldl_steady | apply foldl_fst_steady | apply foldl_snd_steady | intro _ | split | apply State.writeFields_steady | apply Res.state_steady | apply execPortDown_steady | apply State.onBit_steady | apply execPortRetrain_steady | apply execFenceClr_steady | apply State.put_steady | apply execCtLoad_steady | apply State.writeTreeReset_steady | apply State.remoteAccess_steady | apply steadyOpt_get (by assumption) | apply Steady.set | apply Steady.draw | apply Steady.tell | apply Steady.purge | dsimp only)

theorem State.writeSystem_steady {s₀ s : State} (hs : Steady s₀ s) (r : RegRow) (ix v : Nat) :
    SteadyOpt s₀ (State.writeSystem s r ix v) := by
  unfold State.writeSystem
  try dsimp only
  repeat' with_reducible (first | assumption | apply steadyRes_next | apply steadyOpt_none | apply steadyOpt_some | apply State.forEach_steady | apply State.when_steady | apply foldl_steady | apply foldl_fst_steady | apply foldl_snd_steady | intro _ | split | apply State.put_steady | apply State.onBit_steady | apply Res.state_steady | apply execSlotAbortReq_steady | apply execPwrReqSet_steady | apply execPwrReqClear_steady | apply State.writeFields_steady | apply execSlotFaultClear_steady | apply execFwCancel_steady | apply execFwVerify_steady | apply execFwRoll_steady | apply execFwBootSlotWrite_steady | apply State.paceBoost_steady | apply State.stationReset_steady | apply steadyOpt_get (by assumption) | apply Steady.set | apply Steady.draw | apply Steady.tell | apply Steady.purge | dsimp only)

theorem steadyOpt_orElse {s₀ : State} {o : Option State} {f : Unit → Option State} (ho : SteadyOpt s₀ o) (hf : SteadyOpt s₀ (f ())) :
    SteadyOpt s₀ (o.orElse f) := by
  cases o with
  | none => exact hf
  | some t => exact ho

theorem steadyOpt_getD {s₀ s : State} {o : Option State} (ho : SteadyOpt s₀ o) (hs : Steady s₀ s) : Steady s₀ (o.getD s) := by
  cases o with
  | none => exact hs
  | some t => exact ho

theorem State.writeReg_steady {s₀ s : State} (hs : Steady s₀ s) (fn : Nat) (r : RegRow) (ix v : Nat) : Steady s₀ (s.writeReg fn r ix v) := by
  unfold State.writeReg
  refine steadyOpt_getD ?_ (State.writeFields_steady hs _ _ _)
  refine steadyOpt_orElse (State.writeHost_steady hs _ _ _ _) (steadyOpt_orElse (State.writeStore_steady hs _ _ _)
    (steadyOpt_orElse (State.writeServo_steady hs _ _ _) (steadyOpt_orElse (State.writeSpindle_steady hs _ _ _)
    (steadyOpt_orElse (State.writeMotion_steady hs _ _ _) (steadyOpt_orElse (State.writeLane_steady hs _ _ _)
    (steadyOpt_orElse (State.writeTree_steady hs _ _ _) (State.writeSystem_steady hs _ _ _)))))))

theorem State.writeWord_steady {s₀ s : State} (hs : Steady s₀ s) (fn off v : Nat) :
    Steady s₀ (State.writeWord s fn off v) := by
  unfold State.writeWord
  try dsimp only
  repeat' with_reducible (first | assumption | apply steadyRes_next | apply steadyOpt_none | apply steadyOpt_some | apply State.forEach_steady | apply State.when_steady | apply foldl_steady | apply foldl_fst_steady | apply foldl_snd_steady | intro _ | split | apply Res.state_steady | apply execMsixUnmask_steady | apply State.writeReg_steady | apply steadyOpt_get (by assumption) | apply Steady.set | apply Steady.draw | apply Steady.tell | apply Steady.purge | dsimp only)

theorem State.writeDoorbell_steady {s₀ s : State} (hs : Steady s₀ s) (fn : Nat) (d : Doorbell) (shape : WriteShape) (v : Word) :
    Steady s₀ (State.writeDoorbell s fn d shape v) := by
  unfold State.writeDoorbell
  try dsimp only
  repeat' with_reducible (first | assumption | apply steadyRes_next | apply steadyOpt_none | apply steadyOpt_some | apply State.forEach_steady | apply State.when_steady | apply foldl_steady | apply foldl_fst_steady | apply foldl_snd_steady | intro _ | split | apply Res.state_steady | apply execSqTailDoorbell_steady | apply execCqHeadDoorbell_steady | apply execEvtQHeadDoorbell_steady | apply steadyOpt_get (by assumption) | apply Steady.set | apply Steady.draw | apply Steady.tell | apply Steady.purge | dsimp only)

theorem State.acceptWrite_steady {s₀ s : State} (hs : Steady s₀ s) (fn off : Nat) (shape : WriteShape) (values : List Word) :
    Steady s₀ (State.acceptWrite s fn off shape values) := by
  unfold State.acceptWrite
  try dsimp only
  repeat' with_reducible (first | assumption | apply steadyRes_next | apply steadyOpt_none | apply steadyOpt_some | apply State.forEach_steady | apply State.when_steady | apply foldl_steady | apply foldl_fst_steady | apply foldl_snd_steady | intro _ | split | apply State.writeDoorbell_steady | apply State.writeWord_steady | apply steadyOpt_get (by assumption) | apply Steady.set | apply Steady.draw | apply Steady.tell | apply Steady.purge | dsimp only)

theorem execRegisterWrite_steady {s₀ s : State} (hs : Steady s₀ s) (who : Requester) (off : BitVec 20) (shape : WriteShape) (values : List Word) :
    SteadyRes s₀ (execRegisterWrite who off shape values s) := by
  unfold execRegisterWrite
  try dsimp only
  repeat' with_reducible (first | assumption | apply steadyRes_next | apply steadyOpt_none | apply steadyOpt_some | apply State.forEach_steady | apply State.when_steady | apply foldl_steady | apply foldl_fst_steady | apply foldl_snd_steady | intro _ | split | apply State.wakeLink_steady | apply State.logAer_steady | apply State.poisonedWrite_steady | apply State.acceptWrite_steady | apply steadyOpt_get (by assumption) | apply Steady.set | apply Steady.draw | apply Steady.tell | apply Steady.purge | dsimp only)

theorem execRegisterRead_steady {s₀ s : State} (hs : Steady s₀ s) (who : Requester) (off : BitVec 20) (len id : Nat) :
    SteadyRes s₀ (execRegisterRead who off len id s) := by
  unfold execRegisterRead
  try dsimp only
  repeat' with_reducible (first | assumption | apply steadyRes_next | apply steadyOpt_none | apply steadyOpt_some | apply State.forEach_steady | apply State.when_steady | apply foldl_steady | apply foldl_fst_steady | apply foldl_snd_steady | intro _ | split | apply State.wakeLink_steady | apply State.logAer_steady | apply State.emit_steady | apply State.readWord_steady | apply State.readWords_steady | apply steadyOpt_get (by assumption) | apply Steady.set | apply Steady.draw | apply Steady.tell | apply Steady.purge | dsimp only)

theorem execRegRead_steady {s₀ s : State} (hs : Steady s₀ s) :
    SteadyRes s₀ (execRegRead s) := by
  unfold execRegRead
  try dsimp only
  repeat' with_reducible (first | assumption | apply steadyRes_next | apply steadyOpt_none | apply steadyOpt_some | apply State.forEach_steady | apply State.when_steady | apply foldl_steady | apply foldl_fst_steady | apply foldl_snd_steady | intro _ | split | apply State.takeFirst_steady (by assumption) | apply State.readWords_steady | apply State.route_steady | apply steadyOpt_get (by assumption) | apply Steady.set | apply Steady.draw | apply Steady.tell | apply Steady.purge | dsimp only)

theorem execRegWrite_steady {s₀ s : State} (hs : Steady s₀ s) :
    SteadyRes s₀ (execRegWrite s) := by
  unfold execRegWrite
  try dsimp only
  repeat' with_reducible (first | assumption | apply steadyRes_next | apply steadyOpt_none | apply steadyOpt_some | apply State.forEach_steady | apply State.when_steady | apply foldl_steady | apply foldl_fst_steady | apply foldl_snd_steady | intro _ | split | apply State.takeFirst_steady (by assumption) | apply State.acceptWrite_steady | apply State.route_steady | apply steadyOpt_get (by assumption) | apply Steady.set | apply Steady.draw | apply Steady.tell | apply Steady.purge | dsimp only)

theorem execRegData_steady {s₀ s : State} (hs : Steady s₀ s) :
    SteadyRes s₀ (execRegData s) := by
  unfold execRegData
  try dsimp only
  repeat' with_reducible (first | assumption | apply steadyRes_next | apply steadyOpt_none | apply steadyOpt_some | apply State.forEach_steady | apply State.when_steady | apply foldl_steady | apply foldl_fst_steady | apply foldl_snd_steady | intro _ | split | apply State.takeFirst_steady (by assumption) | apply State.put_steady | apply steadyOpt_get (by assumption) | apply Steady.set | apply Steady.draw | apply Steady.tell | apply Steady.purge | dsimp only)

theorem execRemoteAccessTimeout_steady {s₀ s : State} (hs : Steady s₀ s) :
    SteadyRes s₀ (execRemoteAccessTimeout s) := by
  unfold execRemoteAccessTimeout
  try dsimp only
  repeat' with_reducible (first | assumption | apply steadyRes_next | apply steadyOpt_none | apply steadyOpt_some | apply State.forEach_steady | apply State.when_steady | apply foldl_steady | apply foldl_fst_steady | apply foldl_snd_steady | intro _ | split | apply State.put_steady | apply steadyOpt_get (by assumption) | apply Steady.set | apply Steady.draw | apply Steady.tell | apply Steady.purge | dsimp only)

end Sys2Proof.Machine
end

