-- ==== Sys2Proof/Tests/Slice0.lean ====
section
/-!
SUPPORT. Tests: ill-formed commands are refused by the check, and every hypothesis of the statements is met by a concrete state and operands.
-/
set_option Elab.async false
set_option linter.all false
namespace Sys2Proof.Tests
open Sys2Proof Sys2Proof.Machine

/-! ## Ill-formed commands are refused (WellFormed) -/

theorem test_wf_completion_tag : (Instr.completionTlp 0 1024 .success []).wf = false ∧ (Instr.completionTlp 0 1023 .success []).wf = true := by
  decide
theorem test_wf_timeout_tag : (Instr.cplTimeout 1 1024).wf = false := by decide
theorem test_wf_quarantine_tag : (Instr.tagQuarantineEnd 1 1024).wf = false := by decide
theorem test_wf_peer_read : (Instr.peerRead 1 0xFFFFFF 2).wf = false ∧ (Instr.peerRead 1 0xFFFFFF 1).wf = true ∧ (Instr.peerRead 1 0 0).wf = false := by
  decide
theorem test_wf_bar2_write : (Instr.bar2Write 1 0x1000000).wf = false := by decide
theorem test_wf_register_read : (Instr.registerRead (.host 0) 0xFFFFF#20 2 1).wf = false := by decide
theorem test_wf_register_write_span : (Instr.registerWrite (.host 0) 0xFFFFC#20 ⟨8, true, false⟩ [0, 0]).wf = false := by decide
theorem test_wf_register_write_words : (Instr.registerWrite (.host 0) 0#20 ⟨8, true, false⟩ [0]).wf = false := by decide
theorem test_wf_register_write_aligned : (Instr.registerWrite (.host 0) 2#20 ⟨4, true, false⟩ [0]).wf = false := by decide
theorem test_wf_frame_sequence : (Instr.linkFrame 0 (.frame 4096 [])).wf = false ∧ (Instr.linkFrame 0 (.ack 4096)).wf = false ∧
    (Instr.linkFrame 0 (.nak 4096)).wf = false ∧ (Instr.linkFrame 0 (.nak 4095)).wf = true := by decide
theorem test_wf_port_generation : (Instr.portUp 1 3 4 false 1 false).wf = false := by decide
theorem test_wf_port_width : (Instr.portUp 1 2 0 false 1 false).wf = false := by decide
theorem test_wf_debug_record : (Instr.jtagStateChange true [0]).wf = false := by decide
theorem test_wf_sample_pickups : (Instr.sampleInstant (List.replicate 15 (List.replicate 10 []))).wf = false := by decide
theorem test_wf_sample_inputs : (Instr.sampleInstant (List.replicate 16 (List.replicate 9 []))).wf = false := by decide
theorem test_wf_frame_image : (Instr.frameImageDone 0 0 [[], [], [], [], []]).wf = false := by decide

/-! ## The manual's worked examples -/

/-- After R60: Archive Address 0x1A_3BEB_C27B. -/
theorem test_example_lba : ({} : DiscInfo).position 200000123 = ⟨1, 4, 218889, 59, 218889⟩ ∧
    ({} : DiscInfo).sectorPsa 1 4 218889 59 = 0xCC3C1EE6 := by decide
/-- After R60 and R90: zones 3,953 and 4,249. -/
theorem test_example_zones : ({} : DiscInfo).zoneSectors 3953 = 1393 ∧ ({} : DiscInfo).channelRate 4249 = 1092833280 := by decide
/-- After R90: RATE in zone 4,249. -/
theorem test_example_rate : rateWord (1092833280 / 256) = 0x2CC33000 := by decide +kernel
/-- After R79: FE of OPU5, 78,909,321. -/
theorem test_example_focus_error : Table.at 0 ((State.reset.formSignals 5 ([1812, 1540, 1796, 1574, 402, 388, 371, 395].map (16 * ·))).lp 5).sig 1 =
    78909321 := by decide +kernel
/-- After R115: section 0 of FOCUS on LP5, an integrator. -/
def wIntegrator : State :=
  ((State.reset.put (F.SRV_SECT_B0_C 5 0 0) 21474836).put (F.SRV_SECT_A1_C 5 0 0) 0xFFFFFFFF).put (F.SRV_SECT_SHIFT_S 5 0 0) 31
theorem test_example_section : (wIntegrator.section 5 0 0 { y1 := 5000000 } 78909321).1 = 5789093 := by decide +kernel
/-- After R166: t_on 1.25 µs and t_s 3.0 µs. -/
theorem test_example_pulses : pulseGroup (5 / 4) 3 0 = ([3, 0, 3 / 4], 0) := by decide +kernel
/-- After R191: SL8 after 174,080,000 counts of the master at RATIO 1,431,656. -/
def wGeared : State := ((State.reset.put (F.MOT_GEAR_CTRL_ENGAGE 8) 1).put (F.MOT_GEAR_RATIO_RATIO 8) 1431656).sput (F.MOT_SOFT_HI_HI 8) 100000
theorem test_example_gear : ((wGeared.gearCounts 8 0 174080000).motor 8).pos = 58026 * 2 ^ 32 + 2904162304 := by decide +kernel
/-- After R300: the ring of lane BC46. -/
theorem test_example_bank : rowOf 0x15C000 = 11136 ∧ bankOf 0x15C000 = 87 ∧ bankOf 0x15C001 = 86 ∧ bankOf 0x15C080 = 86 := by decide
/-- After R351: the counter block. -/
theorem test_example_counter : sealCounter 0x0123456789ABCDEF 0xCC3C1EE6 5 =
    [0xEF, 0xCD, 0xAB, 0x89, 0x67, 0x45, 0x23, 0x01, 0xE6, 0x1E, 0x3C, 0xCC, 0, 0, 5, 0] := by decide
/-- After R372: the descriptor of a READ. -/
def wDescriptor : List Nat :=
  [0x01, 0x08, 0x07, 0x01, 0x42, 0, 0, 0x05, 0x7B, 0xC2, 0xEB, 0x3B, 0x1A, 0, 0, 0, 0, 1, 0, 0, 0x10, 0, 0, 0, 0x20, 0, 0, 0, 0, 0, 0, 1, 8] ++
    List.replicate 31 0
theorem test_example_descriptor : let i := nativeId 1 3 wDescriptor
    i.op = Op.read ∧ i.seal = true ∧ i.cid = 0x107 ∧ i.device = 0x42 ∧ i.keySlot = 5 ∧ i.mslot = 0x1A3 ∧ i.lba = 200000123 ∧
      i.dptr.addr = 0x1000000100 ∧ i.dptr.len = 32 ∧ i.nsect = 8 := by decide
/-- After R395: its completion record. -/
def wRecorded : Cmd := { id := { fn := 1, cid := 0x107 }, res := { status := 1, done := 8, index := 2 } }
theorem test_example_record : completionBytes wRecorded 3 0x12 true = [0x07, 0x01, 0x01, 0x83, 0x12, 0, 0, 0, 8, 0, 0, 0, 2, 0, 0, 0] := by decide
/-- After R518: VOUT_COMMAND codes at N = −10. -/
theorem test_example_vout : [1510, 1520, 1530, 1540].map (voutCode 10) = [0x305, 0x30A, 0x30F, 0x314] := by decide
/-- Chapter 23: SECT_EN and section 3 of TRACK on LP11, and tap (1, −2) of BC46. -/
theorem test_example_registers : (regAt 0 0x399A0).map (fun e => (e.1.fields.map (fun f => f.fld e.2)).head?) = some (some (F.SRV_LOOP_SECT_EN_EN 11 1)) ∧
    (regAt 0 0x399F8).map (fun e => (e.1.fields.map (fun f => f.fld e.2)).head?) = some (some (F.SRV_SECT_B0_C 11 1 3)) ∧
    (regAt 0 0x56E50).map (fun e => (e.1.fields.map (fun f => f.fld e.2)).head?) = some (some (F.RCH_COEF_C 46 20)) := by decide +kernel

/-! ## The hypotheses of the statements about the queue, whole-machine rules and rules of the manual -/

def wQueue : State := { State.reset with pending := [.estopAll, .powerOn] }
theorem test_stepRunsTheFrontCommand : wQueue.pending = .estopAll :: [.powerOn] := rfl
theorem test_emptyQueueLetsTimePass : State.reset.pending = [] ∧ State.reset.mbl.holdCt = 0 ∧ State.reset.fld F.MBL_CT_STATUS_RATE = 0 ∧
    0 ≤ State.reset.mbl.fractions ∧ State.reset.mbl.fractions < ctUnits := by decide
theorem test_everyStepKeepsTheInvariant : State.Inv wQueue ∧ ∃ t, step wQueue = .next t :=
  ⟨⟨by decide, by decide⟩, by exact ⟨_, rfl⟩⟩
theorem test_chainTimeNeverGoesBack : (∀ c ∈ wQueue.pending.head?, resetsAll c = false) ∧ ∃ t, step wQueue = .next t :=
  ⟨by decide, by exact ⟨_, rfl⟩⟩
def wWedged : State := State.reset.put (F.HIF_FUNC_STATUS_WEDGED 2) 1
theorem test_wedgedIsClearedOnlyByAFullReset : resetsAll (.initiateFlr 2) = false ∧ wWedged.flag (F.HIF_FUNC_STATUS_WEDGED 2) = true := by decide
def wClosed : State := State.reset.put (F.SRV_LP_CTRL_MODE_SLED 15) 2
theorem test_loopPeriodTakesSevenValues_taken : bitsOf (200#32).toNat 0 10 ∈ [125, 200, 250, 400, 500, 625, 1000] ∧
    ¬ ∃ n : Fin 16, ∃ l : Fin 4, 2 ≤ State.reset.fld (loopModeFld n l) := by decide +kernel
theorem test_loopPeriodTakesSevenValues_value : bitsOf (201#32).toNat 0 10 ∉ [125, 200, 250, 400, 500, 625, 1000] := by decide
theorem test_loopPeriodTakesSevenValues_engaged : ∃ n : Fin 16, ∃ l : Fin 4, 2 ≤ wClosed.fld (loopModeFld n l) := ⟨15, 3, by decide⟩
theorem test_loopPeriodTakesSevenValues_instant : State.reset.fld F.SRV_PERIOD_P ∈ [125, 200, 250, 400, 500, 625, 1000] ∧
    State.reset.timebase = 0 * State.reset.fld F.SRV_PERIOD_P := by decide
def wS4 : State := { State.reset with stations := [(7, { disc := some { s4 := true } })] }
theorem test_sideSpotsDoNotCountOnFormatS4 : wS4.puS4 (15 : Fin 16) = true ∧
    16 * (wS4.fld (F.SRV_ERR_CFG_SUM_MIN 15) : Rat) ≤ (65520 : Rat) + 65520 + 65520 + 65520 := by decide +kernel
theorem test_sideSpotsDoNotCountOnFormatS4_low : wS4.puS4 (15 : Fin 16) = true ∧
    (0 : Rat) < 16 * ((wS4.put (F.SRV_ERR_CFG_SUM_MIN 15) 1).fld (F.SRV_ERR_CFG_SUM_MIN 15) : Rat) := by decide +kernel
theorem test_motorPositionIsAFixedPointCount : -(2 ^ 63) ≤ (State.reset.motor 27).pos ∧ (State.reset.motor 27).pos < 2 ^ 63 ∧
    (State.reset.motor 27).phase = 0 ∧ State.reset.movingGroup 11 = none := by decide
def wGear : State := State.reset.put (F.MOT_GEAR_CTRL_ENGAGE 15) 1
theorem test_motorPositionIsAFixedPointCount_geared : (15 : Fin 28).val < 16 ∧ wGear.flag (F.MOT_GEAR_CTRL_ENGAGE 15) = true := by decide
def wMotorMoves : State := { State.reset with motors := [(16, { phase := 1 })] }
theorem test_motorPositionIsAFixedPointCount_moving : ¬ (wMotorMoves.motor 16).phase = 0 := by decide
theorem test_keySlotsStandThroughResetsBelowFull : 145 * 4 < (581#12 : BitVec 12).toInt := by decide
def wInjecting : State := { State.reset with mem := { State.reset.mem with inject := some (4194303, true) } }
theorem test_anArmedInjectionCorruptsOneStore : wInjecting.mem.inject = some (4194303, true) ∧ pageBit wInjecting.mem.valid 4194303 = false := by
  decide
theorem test_everyRequesterHasItsOwnLatch : (regAt 0 0x68410).map (fun e => e.1.role) = some .pairLo ∧
    (regAt 0 0x68414).map (fun e => e.1.role) = some .pairHi ∧ (regAt 3 0x20).map (fun e => e.1.role) = some .counterLo ∧
    (regAt 3 0x24).map (fun e => e.1.role) = some .counterHi ∧ Requester.host 3 ≠ Requester.processor 35 := by decide +kernel
theorem test_aWriteFollowsTheFieldTypes : (regAt 0 0x30014).isSome = true ∧ (regAt 3 0x2C).isSome = true := by decide +kernel
theorem test_pulseGroupsMeetTheDemand : (0 : Rat) < 5 / 4 ∧ (0 : Rat) ≤ 0 ∧ (0 : Rat) < 2 / 5 ∧ (5 / 4 : Rat) < 3 ∧
    (2 / 5 : Rat) ≤ 3 * (5 / 4) - 3 + 0 := by decide +kernel
theorem test_pulseGroupsMeetTheDemand_carried : (1 : Rat) < 39 / 10 ∧ 4 * 1 - 39 / 10 + 0 < (2 / 5 : Rat) ∧ (39 / 10 : Rat) ≤ 4 := by decide +kernel
theorem test_lbasAndPositionsMatch : 247988223 < ({} : DiscInfo).capacity ∧
    (({} : DiscInfo).sectorIndex 0 63).2 < 2 ^ 26 ∧ (({} : DiscInfo).position 247988223).b = 0 := by decide
theorem test_unsealingUndoesSealing : (List.replicate 16 0 : List Nat).length = 16 ∧ (List.replicate 4096 0 : List Nat).length = 4096 :=
  ⟨List.length_replicate, List.length_replicate⟩
def wBelow : State := { State.reset with root := false, mbl := { inbox := [⟨0, 0, ⟨8, 0, 0, 0, 0, 0, [2, 0, 0, 0]⟩, []⟩] } }
theorem test_fullResetsBringEverythingBack : 145 * 4 < (2047#12 : BitVec 12).toInt ∧ wBelow.root = false ∧
    wBelow.mbl.inbox.map (fun e => (e.packet.type, e.port, e.packet.payload.getD 0 0)) = [(8, 0, 2)] := by decide

/-! ## The hypotheses of the statements about the families of commands -/


/-- A machine that has booted as the root. -/
def wUp : State := { State.reset with fw := { State.reset.fw with booted := true } }
theorem test_powerCommandsComplete_resetRelease :
    ((State.reset : State)).fw.booted = false := by
  decide
theorem test_powerCommandsComplete_thermalWarn :
    4 * ((min 140 (((State.reset : State)).fld F.SYS_THERM_WARN) : Nat) : Int) < ((521#12 : BitVec 12)).toInt := by
  decide
/-- The pace loop closed, with a regulator of exponent 10. -/
def wPace : State := { State.reset.put F.SYS_PACE_STATUS_CLOSED 1 with power := { volt := 1600, exponent := some 10 } }
theorem test_powerCommandsComplete_paceWindowEnd :
    wPace.flag F.SYS_PACE_STATUS_CLOSED = true ∧ wPace.flag F.SYS_PACE_STATUS_PMB_FAULT = false ∧ wPace.power.exponent.isSome = true ∧
      ((799#16 : BitVec 16)).toNat < wPace.fld F.SYS_PACE_TARGET ∧ 1 ≤ wPace.power.sinceUp ∧ wPace.vnom ≤ wPace.power.volt ∧
      wPace.power.volt + 10 ≤ wPace.vmax := by
  decide
def wPowerCommandsComplete_paceLow : State := { wPace with power := { volt := 1700 } }
theorem test_powerCommandsComplete_paceLow :
    wPowerCommandsComplete_paceLow.flag F.SYS_PACE_STATUS_CLOSED = true ∧ wPowerCommandsComplete_paceLow.fld F.SYS_PACE_MEASURED <
      wPowerCommandsComplete_paceLow.fld F.SYS_PACE_TARGET ∧ wPowerCommandsComplete_paceLow.vmax ≤
      wPowerCommandsComplete_paceLow.power.volt := by
  decide
def wPowerCommandsComplete_boostEnd : State := State.reset.put F.SYS_PACE_STATUS_BOOST 1
theorem test_powerCommandsComplete_boostEnd :
    wPowerCommandsComplete_boostEnd.flag F.SYS_PACE_STATUS_BOOST = true := by
  decide
def wPowerCommandsComplete_pmbusTransactionDone : State := { wPace with power := { pmb := [⟨0x21, 5, 0⟩] } }
theorem test_powerCommandsComplete_pmbusTransactionDone :
    wPowerCommandsComplete_pmbusTransactionDone.power.pmb = ((⟨0x21, 5, 0⟩ : PmbOp)) :: (([] : List PmbOp)) ∧ ((⟨0x21, 5, 0⟩ :
      PmbOp)).code = ((0x21#8 : Byte)).toNat ∧ ((0x21#8 : Byte)) = 0x21#8 := by
  decide
theorem test_powerCommandsComplete_pmbusAlert :
    wPace.flag F.SYS_PACE_STATUS_CLOSED = true := by
  decide
theorem test_powerCommandsComplete_readVoutPoll :
    wPace.flag F.SYS_PACE_STATUS_CLOSED = true ∧ wPace.power.exponent = some ((10 : Nat)) := by
  decide
theorem test_powerCommandsComplete_ageRecord :
    wPace.flag F.SYS_PACE_STATUS_CLOSED = true ∧ wPace.power.days + 1 < 30 := by
  decide
theorem test_linkCommandsComplete_pcieLinkUp :
    ((State.reset : State)).root = true ∧ ((State.reset : State)).pcie.linkUp = false ∧ linkSupported ((5 : Fin 8)) ((16 : Fin 32)) =
      true := by
  decide
/-- The link up. -/
def wLink : State := { State.reset with pcie := { linkUp := true, cfg := [(13, 3), (14, 1), (15, 1)] } }
theorem test_linkCommandsComplete_pcieLinkChange :
    wLink.root = true ∧ wLink.pcie.linkUp = true ∧ linkSupported ((1 : Fin 8)) ((8 : Fin 32)) = true := by
  decide
theorem test_linkCommandsComplete_aspmL0sEntry :
    wLink.fld F.HIF_LINK_STATUS_PM = 0 ∧ wLink.linkIdle = true ∧ (wLink.cfg 0 .aspmControl).testBit 0 = true := by
  decide
theorem test_linkCommandsComplete_aspmL1Entry :
    wLink.fld F.HIF_LINK_STATUS_PM ≤ 1 ∧ wLink.linkIdle = true ∧ (wLink.cfg 0 .aspmControl).testBit 1 = true := by
  decide
def wLinkCommandsComplete_l1PmSubstateEntry : State := { wLink.put F.HIF_LINK_STATUS_PM 2 with pcie := { linkUp := true, idleLtr := true, cfg := [(15, 1)] } }
theorem test_linkCommandsComplete_l1PmSubstateEntry :
    wLinkCommandsComplete_l1PmSubstateEntry.fld F.HIF_LINK_STATUS_PM = 2 ∧ wLinkCommandsComplete_l1PmSubstateEntry.cfg 0 .l12Enable = 1 ∧
      wLinkCommandsComplete_l1PmSubstateEntry.pcie.idleLtr = true ∧ wLinkCommandsComplete_l1PmSubstateEntry.cfg 0 .ltrThresholdUs ≤
      wLinkCommandsComplete_l1PmSubstateEntry.fld F.HIF_LTR_IDLE_US := by
  decide
def wLinkCommandsComplete_l1PmSubstateEntryPlain : State := { wLink.put F.HIF_LINK_STATUS_PM 2 with pcie := { linkUp := true, cfg := [(14, 1)] } }
theorem test_linkCommandsComplete_l1PmSubstateEntryPlain :
    wLinkCommandsComplete_l1PmSubstateEntryPlain.fld F.HIF_LINK_STATUS_PM = 2 ∧ wLinkCommandsComplete_l1PmSubstateEntryPlain.cfg 0
      .l12Enable ≠ 1 ∧ wLinkCommandsComplete_l1PmSubstateEntryPlain.cfg 0 .l11Enable = 1 := by
  decide
def wLinkCommandsComplete_pmD0Return : State := State.reset.put (F.HIF_FUNC_STATUS_D_STATE 2) 3
theorem test_linkCommandsComplete_pmD0Return :
    wLinkCommandsComplete_pmD0Return.fld (F.HIF_FUNC_STATUS_D_STATE ((2 : Fin 4))) ≠ 0 := by
  decide
/-- A controller whose functions are ready. -/
def wReady : State := (((State.reset.put (F.HIF_FUNC_STATUS_READY 0) 1).put (F.HIF_FUNC_STATUS_READY 1) 1).put (F.HIF_FUNC_STATUS_READY 2) 1).put (F.HIF_FUNC_STATUS_READY 3) 1
theorem test_functionResetCommandsComplete_initiateFlr :
    wReady.flag (F.HIF_FUNC_STATUS_READY ((1 : Fin 4))) = true ∧ wReady.flag (F.HIF_FUNC_STATUS_FLR_BUSY ((1 : Fin 4))) = false := by
  decide
def wFunctionResetCommandsComplete_flrDone : State := wReady.put (F.HIF_FUNC_STATUS_FLR_BUSY 1) 1
theorem test_functionResetCommandsComplete_flrDone :
    wFunctionResetCommandsComplete_flrDone.flag (F.HIF_FUNC_STATUS_FLR_BUSY ((1 : Fin 4))) = true ∧
      wFunctionResetCommandsComplete_flrDone.flag (F.HIF_FUNC_STATUS_WEDGED ((1 : Fin 4))) = false := by
  decide
theorem test_functionResetCommandsComplete_hotReset :
    (∀ f : Fin 4, wReady.flag (F.HIF_FUNC_STATUS_READY f) = true ∧ wReady.flag (F.HIF_FUNC_STATUS_FLR_BUSY f) = false) := by
  decide
theorem test_functionResetCommandsComplete_dlDown :
    (∀ f : Fin 4, wReady.flag (F.HIF_FUNC_STATUS_READY f) = true ∧ wReady.flag (F.HIF_FUNC_STATUS_FLR_BUSY f) = false) := by
  decide
theorem test_functionResetCommandsComplete_functionWedged :
    wReady.mcDown = false ∧ wReady.flag (F.HIF_FUNC_STATUS_WEDGED ((3 : Fin 4))) = false := by
  decide
def wPeerAndConfigurationCommandsComplete_windowCommit : State := State.reset.put (F.HIF_FUNC_STATUS_READY 2) 1
theorem test_peerAndConfigurationCommandsComplete_windowCommit :
    ((2 : Fin 4)) ≠ 0 ∧ wPeerAndConfigurationCommandsComplete_windowCommit.fnWritable ((2 : Fin 4)) = true ∧
      wPeerAndConfigurationCommandsComplete_windowCommit.flag (F.HIF_WIN_COMMIT_PENDING ((2 : Fin 4))) = false := by
  decide
def wPeerAndConfigurationCommandsComplete_windowCommitApply : State := (State.reset.put (F.HIF_WIN_COMMIT_PENDING 2) 1).put (F.HIF_WIN_CFG_ENABLE 2 1) 1
theorem test_peerAndConfigurationCommandsComplete_windowCommitApply :
    wPeerAndConfigurationCommandsComplete_windowCommitApply.flag (F.HIF_WIN_COMMIT_PENDING ((2 : Fin 4))) = true ∧
      (wPeerAndConfigurationCommandsComplete_windowCommitApply.pcie.peers.any (fun p => p.fn == ((2 : Fin 4)).val && p.beforeCommit)) =
      false := by
  decide
/-- A function with a peer window over block 7 of slot 3. -/
def wPeer : State := { (State.reset.put (F.HIF_FUNC_STATUS_READY 2) 1).put F.CCH_CTRL_STATE 0 with pcie := { cfg := [(64 * 2 + 7, 1)], wins := [(8, ⟨true, 1, 3, 7⟩)] } }
theorem test_peerAndConfigurationCommandsComplete_peerRead :
    wPeer.bar2Open ((2 : Fin 4)) = true ∧ wPeer.cacheEnabled = true ∧ wPeer.windowOf ((2 : Fin 4)) ((0 : Nat)) ((64 : Nat)) = some (((3 :
      Nat)), ((7 : Nat))) ∧ (∀ e : Fin 48, (wPeer.entry e).st = .free) := by
  decide
def wPeerAndConfigurationCommandsComplete_peerReadData : State := { wPeer with cache := { entries := [(4, { st := .valid, cls := 5, tagged := true, mslot := 3, block := 7, sectors := [(1, { st := .confirmed, user := [9, 8, 7] })] })] } }
theorem test_peerAndConfigurationCommandsComplete_peerReadData :
    wPeerAndConfigurationCommandsComplete_peerReadData.bar2Open ((2 : Fin 4)) = true ∧
      wPeerAndConfigurationCommandsComplete_peerReadData.cacheEnabled = true ∧
      wPeerAndConfigurationCommandsComplete_peerReadData.windowOf ((2 : Fin 4)) ((4097 : Nat)) ((2 : Nat)) = some (((3 : Nat)), ((7 :
      Nat))) ∧ ((4097 : Nat)) % 4096 + ((2 : Nat)) ≤ 4096 ∧ wPeerAndConfigurationCommandsComplete_peerReadData.peerEntry ((3 : Nat)) ((7
      : Nat)) = some ((4 : Nat)) ∧ (wPeerAndConfigurationCommandsComplete_peerReadData.entry ((4 : Nat))).spec = false ∧
      ((wPeerAndConfigurationCommandsComplete_peerReadData.entry ((4 : Nat))).sector (((4097 : Nat)) % 0x40000 / 4096)).st = .confirmed ∧
      ((wPeerAndConfigurationCommandsComplete_peerReadData.entry ((4 : Nat))).sector (((4097 : Nat)) % 0x40000 / 4096)).poison = false ∧
      wPeerAndConfigurationCommandsComplete_peerReadData.mem.flips = [] ∧ wPeerAndConfigurationCommandsComplete_peerReadData.mem.poison =
      [] := by
  decide
theorem test_peerAndConfigurationCommandsComplete_peerReadClosed :
    ((State.reset : State)).bar2Open ((0 : Fin 4)) = false := by
  decide
theorem test_peerAndConfigurationCommandsComplete_bar2Write :
    wPeer.bar2Open ((2 : Fin 4)) = true := by
  decide
def wPeerAndConfigurationCommandsComplete_peerReadResumeData : State := { wPeer with pcie := { peers := [⟨1, 2, 4097, 2, 3, 7, false⟩] }, cache := { entries := [(4, { st := .valid, cls := 5, tagged := true, mslot := 3, block := 7, sectors := [(1, { st := .confirmed, user := [9, 8, 7] })] })] } }
def wPeerAndConfigurationCommandsComplete_peerReadResumeData_p : PeerRead := ⟨1, 2, 4097, 2, 3, 7, false⟩
theorem test_peerAndConfigurationCommandsComplete_peerReadResumeData :
    wPeerAndConfigurationCommandsComplete_peerReadResumeData.pcie.peers.find? (fun q => q.id == ((1 : Nat))) = some
      wPeerAndConfigurationCommandsComplete_peerReadResumeData_p ∧ wPeerAndConfigurationCommandsComplete_peerReadResumeData.cacheEnabled
      = true ∧ 0 < wPeerAndConfigurationCommandsComplete_peerReadResumeData_p.len ∧
      wPeerAndConfigurationCommandsComplete_peerReadResumeData_p.offset % 4096 +
      wPeerAndConfigurationCommandsComplete_peerReadResumeData_p.len ≤ 4096 ∧
      wPeerAndConfigurationCommandsComplete_peerReadResumeData.peerEntry wPeerAndConfigurationCommandsComplete_peerReadResumeData_p.mslot
      wPeerAndConfigurationCommandsComplete_peerReadResumeData_p.block = some ((4 : Nat)) ∧
      (wPeerAndConfigurationCommandsComplete_peerReadResumeData.entry ((4 : Nat))).spec = false ∧
      ((wPeerAndConfigurationCommandsComplete_peerReadResumeData.entry ((4 : Nat))).sector
      (wPeerAndConfigurationCommandsComplete_peerReadResumeData_p.offset % 0x40000 / 4096)).st = .confirmed ∧
      ((wPeerAndConfigurationCommandsComplete_peerReadResumeData.entry ((4 : Nat))).sector
      (wPeerAndConfigurationCommandsComplete_peerReadResumeData_p.offset % 0x40000 / 4096)).poison = false ∧
      wPeerAndConfigurationCommandsComplete_peerReadResumeData.mem.flips = [] ∧
      wPeerAndConfigurationCommandsComplete_peerReadResumeData.mem.poison = [] := by
  decide
/-- A peer read that stalls. -/
def wStall : State := { wPeer with pcie := { peers := [⟨1, 2, 0, 64, 3, 7, false⟩] } }
def wPeerAndConfigurationCommandsComplete_peerReadResume : State := wStall.put F.CCH_CTRL_STATE 2
def wPeerAndConfigurationCommandsComplete_peerReadResume_p : PeerRead := ⟨1, 2, 0, 64, 3, 7, false⟩
theorem test_peerAndConfigurationCommandsComplete_peerReadResume :
    wPeerAndConfigurationCommandsComplete_peerReadResume.pcie.peers.find? (fun q => q.id == ((1 : Nat))) = some
      wPeerAndConfigurationCommandsComplete_peerReadResume_p ∧ wPeerAndConfigurationCommandsComplete_peerReadResume.cacheEnabled = false := by
  decide
def wPeerAndConfigurationCommandsComplete_peerReadTimeout_p : PeerRead := ⟨1, 2, 0, 64, 3, 7, false⟩
theorem test_peerAndConfigurationCommandsComplete_peerReadTimeout :
    wStall.pcie.peers.find? (fun q => q.id == ((1 : Nat))) = some wPeerAndConfigurationCommandsComplete_peerReadTimeout_p := by
  decide
theorem test_peerAndConfigurationCommandsComplete_configurationRequest :
    wPeer.flag (F.HIF_FUNC_STATUS_READY ((2 : Fin 4))) = true ∧ wPeer.flag (F.HIF_FUNC_STATUS_FLR_BUSY ((2 : Fin 4))) = false ∧ cfgInPf0
      ((.deviceId : CfgField)) = false := by
  decide
theorem test_peerAndConfigurationCommandsComplete_configurationRequestWrite :
    wPeer.flag (F.HIF_FUNC_STATUS_READY ((2 : Fin 4))) = true ∧ wPeer.flag (F.HIF_FUNC_STATUS_FLR_BUSY ((2 : Fin 4))) = false ∧ cfgInPf0
      ((.memorySpaceEnable : CfgField)) = false ∧ ((.memorySpaceEnable : CfgField)) ≠ .aerStatus ∧ cfgMask ((.memorySpaceEnable :
      CfgField)) ≠ 0 := by
  decide
/-- A read of a descriptor of PF1 outstanding under tag 5, 64 bytes of which 2 have come. -/
def wRead : State := { State.reset with pcie := { reqs := [⟨1, 5, .descriptor, 1, 0, 64, [7, 7]⟩] }, rings := { cmds := [(1, some { id := { fn := 1 } })], nextHandle := 2 } }
def wHostReadAndMessageCommandsComplete_completionTlp_r : ReadReq := ⟨1, 5, .descriptor, 1, 0, 64, [7, 7]⟩
theorem test_hostReadAndMessageCommandsComplete_completionTlp :
    wRead.reqOf ((1 : Fin 4)) ((5 : Nat)) = some wHostReadAndMessageCommandsComplete_completionTlp_r ∧
      wHostReadAndMessageCommandsComplete_completionTlp_r.got.length + (([3#8] : List Byte)).length <
      wHostReadAndMessageCommandsComplete_completionTlp_r.len := by
  decide
def wHostReadAndMessageCommandsComplete_completionTlpWhole_data : List Byte := List.replicate 62 0#8
def wHostReadAndMessageCommandsComplete_completionTlpWhole_r : ReadReq := ⟨1, 5, .descriptor, 1, 0, 64, [7, 7]⟩
def wHostReadAndMessageCommandsComplete_completionTlpWhole_c : Cmd := { id := { fn := 1 } }
theorem test_hostReadAndMessageCommandsComplete_completionTlpWhole :
    wRead.reqOf ((1 : Fin 4)) ((5 : Nat)) = some wHostReadAndMessageCommandsComplete_completionTlpWhole_r ∧
      wHostReadAndMessageCommandsComplete_completionTlpWhole_r.got.length +
      wHostReadAndMessageCommandsComplete_completionTlpWhole_data.length = wHostReadAndMessageCommandsComplete_completionTlpWhole_r.len ∧
      wHostReadAndMessageCommandsComplete_completionTlpWhole_r.purpose = .descriptor ∧ wRead.cmd?
      wHostReadAndMessageCommandsComplete_completionTlpWhole_r.cmd = some wHostReadAndMessageCommandsComplete_completionTlpWhole_c ∧
      wHostReadAndMessageCommandsComplete_completionTlpWhole_c.id.formatL = false ∧ ((1 : Fin 4)) ≠ 0 ∧ (∀ e ∈ wRead.allCmds, e.2.id.fn ≠
      ((1 : Fin 4)) ∨ e.1 = wHostReadAndMessageCommandsComplete_completionTlpWhole_r.cmd) := by
  decide
theorem test_hostReadAndMessageCommandsComplete_completionTlpUnexpected :
    wRead.reqOf ((1 : Fin 4)) ((6 : Nat)) = none ∧ (wRead.pcie.quarantine.any (fun q => q.fn == ((1 : Fin 4)).val && q.tag == ((6 : Nat))
      && q.silent)) = false := by
  decide
def wHostReadAndMessageCommandsComplete_cplTimeout_r : ReadReq := ⟨1, 5, .descriptor, 1, 0, 64, [7, 7]⟩
theorem test_hostReadAndMessageCommandsComplete_cplTimeout :
    wRead.reqOf ((1 : Fin 4)) ((5 : Nat)) = some wHostReadAndMessageCommandsComplete_cplTimeout_r := by
  decide
def wHostReadAndMessageCommandsComplete_tagQuarantineEnd : State := { State.reset with pcie := { quarantine := [⟨1, 5, false⟩] } }
theorem test_hostReadAndMessageCommandsComplete_tagQuarantineEnd :
    ((1 : Fin 4)) ≠ 0 ∧ (∀ e ∈ wHostReadAndMessageCommandsComplete_tagQuarantineEnd.allCmds, e.2.id.fn ≠ ((1 : Fin 4))) := by
  decide
theorem test_hostReadAndMessageCommandsComplete_msixUnmask :
    ((State.reset : State)).pendingBit ((1 : Fin 4)) ((3 : Fin 64)) = false := by
  decide
/-- Vector 3 of PF1 masked, with its pending bit set. -/
def wVec : State := { State.reset with pcie := { cfg := [(64 + 17, 1)], pba := [(67, true)], msix := [(256 + 12, 4096), (256 + 14, 77)] } }
theorem test_hostReadAndMessageCommandsComplete_msixUnmaskPending :
    wVec.pendingBit ((1 : Fin 4)) ((3 : Fin 64)) = true ∧ wVec.cfg ((1 : Fin 4)) .msixFunctionMask = 0 ∧ wVec.cfg ((1 : Fin 4))
      .msixEnable = 1 := by
  decide
def wHostReadAndMessageCommandsComplete_vectorModTimeout : State := { (State.reset.put (F.HIF_FUNC_STATUS_READY 1) 1) with pcie := { cfg := [(64 + 17, 1)], msix := [(256 + 12, 4096), (256 + 15, 0)] }, events := { vecs := [(67, ⟨1, true⟩)] } }
theorem test_hostReadAndMessageCommandsComplete_vectorModTimeout :
    (wHostReadAndMessageCommandsComplete_vectorModTimeout.vec ((1 : Fin 4)) ((3 : Fin 64))).timing = true ∧
      wHostReadAndMessageCommandsComplete_vectorModTimeout.fnLive ((1 : Fin 4)) = true ∧
      wHostReadAndMessageCommandsComplete_vectorModTimeout.cfg ((1 : Fin 4)) .msixEnable = 1 ∧
      wHostReadAndMessageCommandsComplete_vectorModTimeout.masked ((1 : Fin 4)) ((3 : Fin 64)) = false := by
  decide
/-- PF1 ready after the boot, its submission ring 2 and completion ring 2 enabled. -/
def wRing : State := { (((State.reset.put (F.HIF_FUNC_STATUS_READY 0) 1).put (F.HIF_FUNC_STATUS_READY 1) 1).put (F.RING_SQ_CFG_ENABLE 1 2) 1).put (F.RING_CQ_CFG_ENABLE 1 2) 1 with fw := { booted := true } }
theorem test_ringCommandsComplete_sqTailDoorbell :
    wRing.doorbellBlocked ((1 : Fin 4)) ((2 : Fin 32)) (0xF000 + 8 * ((2 : Fin 32)).val) ⟨4, true, false⟩ = none ∧ wRing.flag
      (F.RING_SQ_CFG_ENABLE ((1 : Fin 4)) ((2 : Fin 32))) = true ∧ wRing.flag (F.RING_SQ_STATUS_STOPPED ((1 : Fin 4)) ((2 : Fin 32))) =
      false ∧ ((15#32 : Word)).toNat % 65536 < wRing.sqSize ((1 : Fin 4)) ((2 : Fin 32)) ∧ ringDist (wRing.sqSize ((1 : Fin 4)) ((2 : Fin
      32))) (wRing.fld (F.RING_SQ_STATUS_HEAD ((1 : Fin 4)) ((2 : Fin 32)))) (wRing.sqTail ((1 : Fin 4)) ((2 : Fin 32))) ≤ ringDist
      (wRing.sqSize ((1 : Fin 4)) ((2 : Fin 32))) (wRing.fld (F.RING_SQ_STATUS_HEAD ((1 : Fin 4)) ((2 : Fin 32)))) (((15#32 :
      Word)).toNat % 65536) := by
  decide
theorem test_ringCommandsComplete_sqTailDoorbellBad :
    wRing.doorbellBlocked ((1 : Fin 4)) ((2 : Fin 32)) (0xF000 + 8 * ((2 : Fin 32)).val) ⟨4, true, false⟩ = none ∧ wRing.flag
      (F.RING_SQ_CFG_ENABLE ((1 : Fin 4)) ((2 : Fin 32))) = true ∧ wRing.flag (F.RING_SQ_STATUS_STOPPED ((1 : Fin 4)) ((2 : Fin 32))) =
      false ∧ wRing.sqSize ((1 : Fin 4)) ((2 : Fin 32)) ≤ ((16#32 : Word)).toNat % 65536 := by
  decide
theorem test_ringCommandsComplete_sqTailDoorbellDisabled :
    wRing.doorbellBlocked ((1 : Fin 4)) ((3 : Fin 32)) (0xF000 + 8 * ((3 : Fin 32)).val) ⟨4, true, false⟩ = none ∧ wRing.flag
      (F.RING_SQ_CFG_ENABLE ((1 : Fin 4)) ((3 : Fin 32))) = false := by
  decide
def wRingCommandsComplete_cqHeadDoorbell : State := wRing.put (F.RING_CQ_STATUS_TAIL 1 2) 3
theorem test_ringCommandsComplete_cqHeadDoorbell :
    wRingCommandsComplete_cqHeadDoorbell.doorbellBlocked ((1 : Fin 4)) ((2 : Fin 32)) (0xF004 + 8 * ((2 : Fin 32)).val) ⟨4, true, false⟩
      = none ∧ wRingCommandsComplete_cqHeadDoorbell.flag (F.RING_CQ_CFG_ENABLE ((1 : Fin 4)) ((2 : Fin 32))) = true ∧ ((2#32 :
      Word)).toNat % 65536 < wRingCommandsComplete_cqHeadDoorbell.cqSize ((1 : Fin 4)) ((2 : Fin 32)) ∧ ringDist
      (wRingCommandsComplete_cqHeadDoorbell.cqSize ((1 : Fin 4)) ((2 : Fin 32))) (wRingCommandsComplete_cqHeadDoorbell.cqHead ((1 : Fin
      4)) ((2 : Fin 32))) (((2#32 : Word)).toNat % 65536) ≤ wRingCommandsComplete_cqHeadDoorbell.cqUsed ((1 : Fin 4)) ((2 : Fin 32)) := by
  decide
def wRingCommandsComplete_cqHeadDoorbellBad : State := wRing.put (F.RING_CQ_STATUS_TAIL 1 2) 3
theorem test_ringCommandsComplete_cqHeadDoorbellBad :
    wRingCommandsComplete_cqHeadDoorbellBad.doorbellBlocked ((1 : Fin 4)) ((2 : Fin 32)) (0xF004 + 8 * ((2 : Fin 32)).val) ⟨4, true,
      false⟩ = none ∧ wRingCommandsComplete_cqHeadDoorbellBad.flag (F.RING_CQ_CFG_ENABLE ((1 : Fin 4)) ((2 : Fin 32))) = true ∧
      wRingCommandsComplete_cqHeadDoorbellBad.cqUsed ((1 : Fin 4)) ((2 : Fin 32)) < ringDist
      (wRingCommandsComplete_cqHeadDoorbellBad.cqSize ((1 : Fin 4)) ((2 : Fin 32))) (wRingCommandsComplete_cqHeadDoorbellBad.cqHead ((1 :
      Fin 4)) ((2 : Fin 32))) (((4#32 : Word)).toNat % 65536) := by
  decide
def wRingCommandsComplete_evtQHeadDoorbell : State := (wRing.put F.EVT_Q_CFG_ENABLE 1).put F.EVT_Q_STATUS_TAIL 3
theorem test_ringCommandsComplete_evtQHeadDoorbell :
    wRingCommandsComplete_evtQHeadDoorbell.fw.booted = true ∧ wRingCommandsComplete_evtQHeadDoorbell.fnLive 0 = true ∧
      wRingCommandsComplete_evtQHeadDoorbell.flag F.EVT_Q_CFG_ENABLE = true ∧ ((3#32 : Word)).toNat % 65536 <
      wRingCommandsComplete_evtQHeadDoorbell.evtSize ∧ ringDist wRingCommandsComplete_evtQHeadDoorbell.evtSize
      wRingCommandsComplete_evtQHeadDoorbell.events.head (((3#32 : Word)).toNat % 65536) ≤ wRingCommandsComplete_evtQHeadDoorbell.evtUsed := by
  decide
theorem test_ringCommandsComplete_sqCfgWrite :
    wRing.ringWritable ((1 : Fin 4)) ((5 : Fin 32)) = true ∧ wRing.flag (F.RING_SQ_CFG_ENABLE ((1 : Fin 4)) ((5 : Fin 32))) = false ∧
      wRing.mayEnable ((1 : Fin 4)) = true ∧ ((0x80010206#32 : Word)).toNat.testBit 31 = true := by
  decide
theorem test_ringCommandsComplete_cqCfgWrite :
    wRing.ringWritable ((1 : Fin 4)) ((5 : Fin 32)) = true ∧ wRing.flag (F.RING_CQ_CFG_ENABLE ((1 : Fin 4)) ((5 : Fin 32))) = false ∧
      wRing.mayEnable ((1 : Fin 4)) = true ∧ ((0x80010006#32 : Word)).toNat.testBit 31 = true := by
  decide
def wRingCommandsComplete_cqCfgWriteNamed : State := wRing.put (F.RING_SQ_CFG_CQ 1 2) 2
theorem test_ringCommandsComplete_cqCfgWriteNamed :
    wRingCommandsComplete_cqCfgWriteNamed.ringWritable ((1 : Fin 4)) ((2 : Fin 32)) = true ∧ wRingCommandsComplete_cqCfgWriteNamed.flag
      (F.RING_CQ_CFG_ENABLE ((1 : Fin 4)) ((2 : Fin 32))) = true ∧ ((0#32 : Word)).toNat.testBit 31 = false ∧
      wRingCommandsComplete_cqCfgWriteNamed.cqNamed ((1 : Fin 4)) ((2 : Fin 32)) = true := by
  decide
theorem test_ringCommandsComplete_evtQCfgWrite :
    wRing.fnLive 0 = true ∧ wRing.flag F.EVT_Q_CFG_ENABLE = false ∧ ((0x80010006#32 : Word)).toNat.testBit 31 = true ∧
      wRing.events.staging = [] := by
  decide
/-- PF1 ready after the boot, its rings 2 enabled, one descriptor waiting. -/
def wIntake : State := { (((State.reset.put (F.HIF_FUNC_STATUS_READY 0) 1).put (F.HIF_FUNC_STATUS_READY 1) 1).put (F.RING_SQ_CFG_ENABLE 1 2) 1).put (F.RING_CQ_CFG_ENABLE 1 2) 1 with fw := { booted := true }, rings := { sqTail := [(34, 1)], credit := [(34, 1)] }, pcie := { cfg := [(64 + 10, 1)] } }
/-- A MOVE of an axis, an IDENTIFY and a READ, one of them in hand under handle 1. -/
def wMoveId : CmdId := nativeId 0 2 ([0x12, 0, 7, 0] ++ List.replicate 60 0)
def wReadId : CmdId := { nativeId 1 2 ([0x01, 0, 7, 0] ++ List.replicate 28 0 ++ [1] ++ List.replicate 31 0) with dptr := ⟨65536, 4096, 0⟩ }
def wHold (c : Cmd) : State := { wIntake with rings := { wIntake.rings with cmds := [(1, some c)], nextHandle := 2 } }
theorem test_commandIntakeCommandsComplete_descriptorFetch :
    wIntake.fetchable ((1 : Fin 4)) ((2 : Fin 32)) = true ∧ 0 < wIntake.credit ((1 : Fin 4)) ((2 : Fin 32)) ∧ wIntake.freeTags ((1 : Fin
      4)) ≠ [] := by
  decide +kernel
def wCommandIntakeCommandsComplete_acceptance : State := wHold { id := wMoveId, phase := .fetched }
def wCommandIntakeCommandsComplete_acceptance_c : Cmd := { id := wMoveId, phase := .fetched }
theorem test_commandIntakeCommandsComplete_acceptance :
    wCommandIntakeCommandsComplete_acceptance.cmd? ((1 : Nat)) = some wCommandIntakeCommandsComplete_acceptance_c ∧
      wCommandIntakeCommandsComplete_acceptance_c.phase = .fetched ∧ wCommandIntakeCommandsComplete_acceptance_c.mute = false ∧
      wCommandIntakeCommandsComplete_acceptance.earlyChecks ((1 : Nat)) wCommandIntakeCommandsComplete_acceptance_c.id = none ∧ usesDptr
      wCommandIntakeCommandsComplete_acceptance_c.op = false ∧ wCommandIntakeCommandsComplete_acceptance_c.id.device =
      wCommandIntakeCommandsComplete_acceptance.deviceId ∧ wCommandIntakeCommandsComplete_acceptance.lateChecks
      wCommandIntakeCommandsComplete_acceptance_c.id = none := by
  decide
def wCommandIntakeCommandsComplete_acceptanceRefused : State := wHold { id := { wMoveId with op := 0x7F }, phase := .fetched }
def wCommandIntakeCommandsComplete_acceptanceRefused_c : Cmd := { id := { wMoveId with op := 0x7F }, phase := .fetched }
theorem test_commandIntakeCommandsComplete_acceptanceRefused :
    wCommandIntakeCommandsComplete_acceptanceRefused.cmd? ((1 : Nat)) = some wCommandIntakeCommandsComplete_acceptanceRefused_c ∧
      wCommandIntakeCommandsComplete_acceptanceRefused_c.phase = .fetched ∧ wCommandIntakeCommandsComplete_acceptanceRefused_c.mute =
      false ∧ wCommandIntakeCommandsComplete_acceptanceRefused.earlyChecks ((1 : Nat))
      wCommandIntakeCommandsComplete_acceptanceRefused_c.id = some ((0x50 : Nat)) := by
  decide
def wCommandIntakeCommandsComplete_listReadDone : State := { wHold { id := wReadId, phase := .listRead, data := { seg := some ⟨0, 16, 1⟩, bytes := [(0, [0, 0, 1, 0, 0, 0, 0, 0, 0, 16, 0, 0, 0, 0, 0, 0])] } } with stations := [(0, { state := 3, mslot := some 0 })], regs := (wIntake.put (F.HPC_SLOT_STATUS_STATE 0) 4).regs, rings := { cmds := [(1, some { id := wReadId, phase := .listRead, data := { seg := some ⟨0, 16, 1⟩, bytes := [(0, [0, 0, 1, 0, 0, 0, 0, 0, 0, 16, 0, 0, 0, 0, 0, 0])] } })], bound := [(0, 1)] } }
def wCommandIntakeCommandsComplete_listReadDone_c : Cmd := { id := wReadId, phase := .listRead, data := { seg := some ⟨0, 16, 1⟩, bytes := [(0, [0, 0, 1, 0, 0, 0, 0, 0, 0, 16, 0, 0, 0, 0, 0, 0])] } }
theorem test_commandIntakeCommandsComplete_listReadDone :
    wCommandIntakeCommandsComplete_listReadDone.cmd? ((1 : Nat)) = some wCommandIntakeCommandsComplete_listReadDone_c ∧
      wCommandIntakeCommandsComplete_listReadDone_c.phase = .listRead ∧ wCommandIntakeCommandsComplete_listReadDone_c.segmentWhole = true
      ∧ wCommandIntakeCommandsComplete_listReadDone_c.data.segDst = false ∧ wCommandIntakeCommandsComplete_listReadDone_c.data.dst = [] ∧
      wCommandIntakeCommandsComplete_listReadDone_c.op = Op.read ∧ wCommandIntakeCommandsComplete_listReadDone_c.id.formatL = false ∧
      (([⟨65536, 4096, 0⟩] : List Elem)) = segmentElems (joinChunks wCommandIntakeCommandsComplete_listReadDone_c.data.bytes) ∧
      (([⟨65536, 4096, 0⟩] : List Elem)).all (fun e => e.ok && e.kind != 1) = true ∧ listOk Op.read
      wCommandIntakeCommandsComplete_listReadDone_c.id.length (wCommandIntakeCommandsComplete_listReadDone_c.data.src ++ (([⟨65536, 4096,
      0⟩] : List Elem))) = true ∧ wCommandIntakeCommandsComplete_listReadDone_c.id.device =
      wCommandIntakeCommandsComplete_listReadDone.deviceId ∧ wCommandIntakeCommandsComplete_listReadDone.lateChecks
      wCommandIntakeCommandsComplete_listReadDone_c.id = none := by
  decide
def wCommandIntakeCommandsComplete_dispatch : State := wHold { id := wMoveId, phase := .accepted }
def wCommandIntakeCommandsComplete_dispatch_c : Cmd := { id := wMoveId, phase := .accepted }
theorem test_commandIntakeCommandsComplete_dispatch :
    wCommandIntakeCommandsComplete_dispatch.cmd? ((1 : Nat)) = some wCommandIntakeCommandsComplete_dispatch_c ∧
      wCommandIntakeCommandsComplete_dispatch_c.phase = .accepted ∧ wCommandIntakeCommandsComplete_dispatch.ringOrderOk ((1 : Nat))
      wCommandIntakeCommandsComplete_dispatch_c = true ∧ wCommandIntakeCommandsComplete_dispatch_c.id.device =
      wCommandIntakeCommandsComplete_dispatch.deviceId ∧ wCommandIntakeCommandsComplete_dispatch.lateChecks
      wCommandIntakeCommandsComplete_dispatch_c.id = none ∧ wCommandIntakeCommandsComplete_dispatch.queueFor
      wCommandIntakeCommandsComplete_dispatch_c.id = some ((8 : Nat)) ∧ wCommandIntakeCommandsComplete_dispatch.tagsFree ((8 : Nat)) ≠ 0
      ∧ wCommandIntakeCommandsComplete_dispatch_c.op ≠ Op.load := by
  decide
def wCommandIntakeCommandsComplete_dispatchFirmware : State := wHold { id := { wMoveId with op := 0x18 }, phase := .accepted }
def wCommandIntakeCommandsComplete_dispatchFirmware_c : Cmd := { id := { wMoveId with op := 0x18 }, phase := .accepted }
theorem test_commandIntakeCommandsComplete_dispatchFirmware :
    wCommandIntakeCommandsComplete_dispatchFirmware.cmd? ((1 : Nat)) = some wCommandIntakeCommandsComplete_dispatchFirmware_c ∧
      wCommandIntakeCommandsComplete_dispatchFirmware_c.phase = .accepted ∧ wCommandIntakeCommandsComplete_dispatchFirmware.ringOrderOk
      ((1 : Nat)) wCommandIntakeCommandsComplete_dispatchFirmware_c = true ∧ wCommandIntakeCommandsComplete_dispatchFirmware_c.id.device
      = wCommandIntakeCommandsComplete_dispatchFirmware.deviceId ∧ wCommandIntakeCommandsComplete_dispatchFirmware.lateChecks
      wCommandIntakeCommandsComplete_dispatchFirmware_c.id = none ∧ wCommandIntakeCommandsComplete_dispatchFirmware.queueFor
      wCommandIntakeCommandsComplete_dispatchFirmware_c.id = none := by
  decide
def wCommandIntakeCommandsComplete_admission : State := wHold { id := wMoveId, phase := .queued, queue := some 8 }
def wCommandIntakeCommandsComplete_admission_c : Cmd := { id := wMoveId, phase := .queued, queue := some 8 }
theorem test_commandIntakeCommandsComplete_admission :
    wCommandIntakeCommandsComplete_admission.queueHeld ((8 : Fin 9)) = false ∧ (wCommandIntakeCommandsComplete_admission.waitingIn ((8 :
      Fin 9))).head? = some (((1 : Nat)), wCommandIntakeCommandsComplete_admission_c) ∧ wCommandIntakeCommandsComplete_admission.cmd? ((1
      : Nat)) = some wCommandIntakeCommandsComplete_admission_c ∧ wCommandIntakeCommandsComplete_admission.admissionRefusal
      wCommandIntakeCommandsComplete_admission_c = none ∧ ((wCommandIntakeCommandsComplete_admission_c.id.seal = true ∨
      wCommandIntakeCommandsComplete_admission_c.op = Op.cipherJob) → wCommandIntakeCommandsComplete_admission.cipher.loading ≠ some
      wCommandIntakeCommandsComplete_admission_c.id.keySlot) ∧ (∀ l ∈ wCommandIntakeCommandsComplete_admission.lockNeeded ((1 : Nat))
      wCommandIntakeCommandsComplete_admission_c, wCommandIntakeCommandsComplete_admission.lockGrantable l = true) ∧
      wCommandIntakeCommandsComplete_admission_c.op ≠ Op.write := by
  decide
def wCommandIntakeCommandsComplete_completionRecord : State := { (wHold { id := wReadId, phase := .ended }).put (F.RING_SQ_CFG_CQ 1 2) 2 with rings := { cmds := [(1, some { id := wReadId, phase := .ended })], records := [1] } }
theorem test_commandIntakeCommandsComplete_completionRecord :
    wCommandIntakeCommandsComplete_completionRecord.chainRecord = none ∧ wCommandIntakeCommandsComplete_completionRecord.nextRecord ((1 :
      Fin 4)) ((2 : Fin 32)) = some ((1 : Nat)) ∧ wCommandIntakeCommandsComplete_completionRecord.flag (F.RING_CQ_CFG_ENABLE ((1 : Fin
      4)) ((2 : Fin 32))) = true ∧ wCommandIntakeCommandsComplete_completionRecord.cqFull ((1 : Fin 4)) ((2 : Fin 32)) = false ∧
      wCommandIntakeCommandsComplete_completionRecord.fnLive ((1 : Fin 4)) = true := by
  decide
def wCommandIntakeCommandsComplete_eventRecord : State := { wIntake.put F.EVT_Q_CFG_ENABLE 1 with events := { posted := [⟨0, 1, 0x0101, 0, 5, [1]⟩] } }
def wCommandIntakeCommandsComplete_eventRecord_e : EventRec := ⟨0, 1, 0x0101, 0, 5, [1]⟩
theorem test_commandIntakeCommandsComplete_eventRecord :
    wCommandIntakeCommandsComplete_eventRecord.events.posted = wCommandIntakeCommandsComplete_eventRecord_e :: (([] : List EventRec)) ∧
      wCommandIntakeCommandsComplete_eventRecord.root = true ∧ wCommandIntakeCommandsComplete_eventRecord.evtOpen = true ∧
      wCommandIntakeCommandsComplete_eventRecord.events.staging = [] := by
  decide
def wCommandIntakeCommandsComplete_eventsLost : State := { (wIntake.put F.EVT_Q_CFG_ENABLE 1).put F.EVT_Q_CFG_SIZE_LOG2 6 with events := { lostNow := 3 } }
theorem test_commandIntakeCommandsComplete_eventsLost :
    0 < wCommandIntakeCommandsComplete_eventsLost.events.lostNow ∧ wCommandIntakeCommandsComplete_eventsLost.events.beforeLoss = 0 ∧ 16 ≤
      wCommandIntakeCommandsComplete_eventsLost.evtFree ∧ wCommandIntakeCommandsComplete_eventsLost.evtOpen = true := by
  decide
/-- A command admitted under handle 1 in a station that holds a Format Q8 disc. -/
def wAdm (op : Nat) (body : List Nat) : Cmd := { id := { fn := 1, ring := 2, op := op, cid := 9, mslot := 4, body := body }, phase := .admitted, queue := some 0 }
def wWith (c : Cmd) : State := { State.reset with rings := { cmds := [(1, some c)], nextHandle := 2 }, stations := [(0, { state := 3, mslot := some 4, disc := some {} })] }
theorem test_dataCommandsBegin_read :
    ((wWith (wAdm 1 [3]) : State)).cmd? ((1 : Nat)) = some ((wAdm 1 [3] : Cmd)) ∧ ((wAdm 1 [3] : Cmd)).mayStart Op.read = true ∧ (∀ b ∈
      ((wWith (wAdm 1 [3]) : State)).blocksOf ((wAdm 1 [3] : Cmd)), ((wWith (wAdm 1 [3]) : State)).tagOf ((wAdm 1 [3] : Cmd)).id.mslot b
      = none) := by
  decide
def wDataCommandsBegin_readHit : State := { wWith (wAdm 1 [3]) with cache := { entries := [(5, { st := .valid, cls := 0, tagged := true, mslot := 4 })] } }
theorem test_dataCommandsBegin_readHit :
    wDataCommandsBegin_readHit.cmd? ((1 : Nat)) = some ((wAdm 1 [3] : Cmd)) ∧ ((wAdm 1 [3] : Cmd)).mayStart Op.read = true ∧
      wDataCommandsBegin_readHit.blocksOf ((wAdm 1 [3] : Cmd)) = [(wDataCommandsBegin_readHit.disc ((wAdm 1 [3] : Cmd)).station).blockOf
      ((wAdm 1 [3] : Cmd)).id.lba] ∧ wDataCommandsBegin_readHit.tagOf ((wAdm 1 [3] : Cmd)).id.mslot ((wDataCommandsBegin_readHit.disc
      ((wAdm 1 [3] : Cmd)).station).blockOf ((wAdm 1 [3] : Cmd)).id.lba) = some ((5 : Nat)) ∧ (wDataCommandsBegin_readHit.entry ((5 :
      Nat))).st = .valid ∧ wDataCommandsBegin_readHit.cacheEnabled = true ∧ wDataCommandsBegin_readHit.inMask (fnClass ((wAdm 1 [3] :
      Cmd)).id.fn) ((5 : Nat)) = true ∧ (wDataCommandsBegin_readHit.entry ((5 : Nat))).spec = false ∧ (wDataCommandsBegin_readHit.entry
      ((5 : Nat))).withheld = [] ∧ ((wAdm 1 [3] : Cmd)).id.seal = false ∧ (∀ w ∈ wDataCommandsBegin_readHit.cipher.work, w.ready = false) := by
  decide
theorem test_dataCommandsBegin_write :
    ((wWith (wAdm 2 [3]) : State)).cmd? ((1 : Nat)) = some ((wAdm 2 [3] : Cmd)) ∧ ((wAdm 2 [3] : Cmd)).mayStart Op.write = true ∧ (∀ b ∈
      ((wWith (wAdm 2 [3]) : State)).blocksOf ((wAdm 2 [3] : Cmd)), ((wWith (wAdm 2 [3]) : State)).tagOf ((wAdm 2 [3] : Cmd)).id.mslot b
      = none) ∧ ((wAdm 2 [3] : Cmd)).data.uses = [] := by
  decide
theorem test_dataCommandsBegin_verify :
    ((wWith (wAdm 3 [3]) : State)).cmd? ((1 : Nat)) = some ((wAdm 3 [3] : Cmd)) ∧ ((wAdm 3 [3] : Cmd)).mayStart Op.verify = true := by
  decide
theorem test_dataCommandsBegin_flush :
    ((wWith (wAdm 4 []) : State)).cmd? ((1 : Nat)) = some ((wAdm 4 [] : Cmd)) ∧ ((wAdm 4 [] : Cmd)).mayStart Op.flush = true ∧ ((wAdm 4
      [] : Cmd)).mute = false ∧ ((wWith (wAdm 4 []) : State)).flushBlocks ((1 : Nat)) = [] ∧ ((wAdm 4 [] : Cmd)).data.badBlocks = [] := by
  decide
def wDataCommandsBegin_flushWaits : State := { wWith (wAdm 4 []) with recording := { padWait := [⟨0, 4, 7, 0, [1]⟩] } }
theorem test_dataCommandsBegin_flushWaits :
    wDataCommandsBegin_flushWaits.cmd? ((1 : Nat)) = some ((wAdm 4 [] : Cmd)) ∧ ((wAdm 4 [] : Cmd)).mayStart Op.flush = true ∧ ((7 :
      Nat)) ∈ wDataCommandsBegin_flushWaits.flushBlocks ((1 : Nat)) ∧ (∀ x ∈ wDataCommandsBegin_flushWaits.flushBlocks ((1 : Nat)),
      wDataCommandsBegin_flushWaits.closeBlock ((wAdm 4 [] : Cmd)).station ((wAdm 4 [] : Cmd)).id.mslot x =
      (wDataCommandsBegin_flushWaits, 0)) ∧ wDataCommandsBegin_flushWaits.blockPending ((wAdm 4 [] : Cmd)).id.mslot ((7 : Nat)) = true := by
  decide
def wDataCommandsBegin_preload : State := wWith (wAdm 5 [1, 0, 0, 3])
def wDataCommandsBegin_preload_c : Cmd := wAdm 5 [1, 0, 0, 3]
theorem test_dataCommandsBegin_preload :
    wDataCommandsBegin_preload.cmd? ((1 : Nat)) = some wDataCommandsBegin_preload_c ∧ wDataCommandsBegin_preload_c.mayStart Op.preload =
      true ∧ wDataCommandsBegin_preload.cacheEnabled = true ∧ wDataCommandsBegin_preload_c.locks = false ∧ (∀ b ∈
      wDataCommandsBegin_preload.blocksOf wDataCommandsBegin_preload_c, wDataCommandsBegin_preload.tagOf
      wDataCommandsBegin_preload_c.id.mslot b = none) := by
  decide
def wDataCommandsBegin_preloadLocks : State := wWith (wAdm 5 [33, 0, 1, 3])
def wDataCommandsBegin_preloadLocks_c : Cmd := wAdm 5 [33, 0, 1, 3]
theorem test_dataCommandsBegin_preloadLocks :
    wDataCommandsBegin_preloadLocks.cmd? ((1 : Nat)) = some wDataCommandsBegin_preloadLocks_c ∧
      wDataCommandsBegin_preloadLocks_c.mayStart Op.preload = true ∧ wDataCommandsBegin_preloadLocks_c.mute = false ∧
      wDataCommandsBegin_preloadLocks.cacheEnabled = true ∧ wDataCommandsBegin_preloadLocks_c.locks = true ∧ 32 <
      wDataCommandsBegin_preloadLocks.lockedAfter ((1 : Nat)) := by
  decide
/-- An ABORT under handle 2 of the command with CID 9 of ring 2. -/
def wAbort : Cmd := { id := { fn := 1, ring := 2, op := 8, cid := 3, body := [9, 0, 2] }, phase := .started }
def wQueued : Cmd := { wAdm 1 [3] with phase := .queued }
def wDataCommandsBegin_abort : State := { State.reset with rings := { cmds := [(1, some wQueued), (2, some wAbort)], nextHandle := 3 } }
theorem test_dataCommandsBegin_abort :
    wDataCommandsBegin_abort.cmd? ((2 : Nat)) = some wAbort ∧ wAbort.mayRun Op.abort = true ∧ wDataCommandsBegin_abort.abortTarget ((2 :
      Nat)) = some (((1 : Nat)), wQueued) ∧ wDataCommandsBegin_abort.cmd? ((1 : Nat)) = some wQueued ∧ ((1 : Nat)) ≠ ((2 : Nat)) ∧
      wQueued.phase = .queued ∧ wQueued.mute = false ∧ wQueued.op ≠ Op.abort := by
  decide
def wDataCommandsBegin_abortNoTag : State := { State.reset with rings := { cmds := [(2, some wAbort)], nextHandle := 3 } }
theorem test_dataCommandsBegin_abortNoTag :
    wDataCommandsBegin_abortNoTag.cmd? ((2 : Nat)) = some wAbort ∧ wAbort.mayRun Op.abort = true ∧ wAbort.mute = false ∧
      wDataCommandsBegin_abortNoTag.abortTarget ((2 : Nat)) = none := by
  decide
def wDataCommandsBegin_cipherJob : State := { wWith { wAdm 9 [0, 0, 0, 0, 4] with data := { src := [⟨4096, 64, 0⟩] } } with regs := (State.reset.put (F.HIF_FUNC_STATUS_READY 1) 1).regs }
def wDataCommandsBegin_cipherJob_c : Cmd := { wAdm 9 [0, 0, 0, 0, 4] with data := { src := [⟨4096, 64, 0⟩] } }
theorem test_dataCommandsBegin_cipherJob :
    wDataCommandsBegin_cipherJob.cmd? ((1 : Nat)) = some wDataCommandsBegin_cipherJob_c ∧ wDataCommandsBegin_cipherJob_c.mayStart
      Op.cipherJob = true ∧ wDataCommandsBegin_cipherJob_c.origin = .ring ∧ wDataCommandsBegin_cipherJob.fnLive
      wDataCommandsBegin_cipherJob_c.id.fn = true ∧ wDataCommandsBegin_cipherJob.freeTags wDataCommandsBegin_cipherJob_c.id.fn ≠ [] ∧
      wDataCommandsBegin_cipherJob.pcie.reqs.any (fun r => r.cmd == ((1 : Nat)) && r.purpose == .job) = false ∧
      wDataCommandsBegin_cipherJob.nextRead wDataCommandsBegin_cipherJob_c (16 * wDataCommandsBegin_cipherJob_c.id.nblkJob) = some
      (((4096 : Nat)), ((64 : Nat))) := by
  decide +kernel
def wWaits : Cmd := { wAdm 1 [3] with started := true, data := { waiting := [0] } }
theorem test_stagingCacheCommandsComplete_entryAllocate :
    ((1 : Nat)) ≠ 0 ∧ ((wWith wWaits : State)).cmd? ((1 : Nat)) = some wWaits ∧ wWaits.phase = .admitted ∧ wWaits.op = Op.read ∧ ((0 :
      Nat)) ∈ wWaits.data.waiting ∧ wWaits.id.seal = false ∧ ((wWith wWaits : State)).tagOf wWaits.id.mslot ((0 : Nat)) = none ∧ ((wWith
      wWaits : State)).cacheEnabled = true ∧ ((wWith wWaits : State)).settleEvictions = ((wWith wWaits : State)) ∧ (∀ i ∈ entryNumbers,
      (((wWith wWaits : State)).entry i).st ≠ .evicting) ∧ ((wWith wWaits : State)).chooseEntry (fnClass wWaits.id.fn) = some ((0 : Nat))
      ∧ (((wWith wWaits : State)).entry ((0 : Nat))).st = .free ∧ (∀ w ∈ ((wWith wWaits : State)).cipher.work, w.ready = false) := by
  decide +kernel
def wStagingCacheCommandsComplete_readAhead : State := { (State.reset.put F.CCH_RA_EN 1).put F.CCH_RA_DEPTH 2 with stations := [(0, { state := 3, mslot := some 4, disc := some {}, lastBlock := some 6 })] }
def wStagingCacheCommandsComplete_readAhead_e : Nat := (((State.reset.put F.CCH_RA_EN 1).put F.CCH_RA_DEPTH 2).chooseEntry classPrefetch).getD 0
theorem test_stagingCacheCommandsComplete_readAhead :
    (wStagingCacheCommandsComplete_readAhead.station ((0 : Fin 8))).lastBlock = some ((6 : Nat)) ∧
      (wStagingCacheCommandsComplete_readAhead.station ((0 : Fin 8))).mslot = some ((4 : Nat)) ∧
      (wStagingCacheCommandsComplete_readAhead.station ((0 : Fin 8))).disc.isSome = true ∧ wStagingCacheCommandsComplete_readAhead.flag
      F.CCH_RA_EN = true ∧ wStagingCacheCommandsComplete_readAhead.cacheEnabled = true ∧ 0 < wStagingCacheCommandsComplete_readAhead.fld
      F.CCH_RA_DEPTH ∧ wStagingCacheCommandsComplete_readAhead.tagOf ((4 : Nat)) (((6 : Nat)) + 1) = none ∧
      wStagingCacheCommandsComplete_readAhead.knownBlank ((4 : Nat)) ((6 : Nat)) = false ∧
      (wStagingCacheCommandsComplete_readAhead.stationCmds ((0 : Fin 8))).any (fun x => x.2.needsPosition) = false ∧
      wStagingCacheCommandsComplete_readAhead.recording.blocks.any (fun r => r.station == ((0 : Fin 8)).val) = false ∧ ((6 : Nat)) + 1 <
      2 * (wStagingCacheCommandsComplete_readAhead.disc ((0 : Fin 8))).layers * (wStagingCacheCommandsComplete_readAhead.disc ((0 : Fin
      8))).blocksPerLayer ∧ (((6 : Nat)) + 1) / (wStagingCacheCommandsComplete_readAhead.disc ((0 : Fin 8))).blocksPerLayer = ((6 : Nat))
      / (wStagingCacheCommandsComplete_readAhead.disc ((0 : Fin 8))).blocksPerLayer ∧
      wStagingCacheCommandsComplete_readAhead.settleEvictions = wStagingCacheCommandsComplete_readAhead ∧ (∀ i ∈ entryNumbers,
      (wStagingCacheCommandsComplete_readAhead.entry i).st ≠ .evicting) ∧ wStagingCacheCommandsComplete_readAhead.chooseEntry
      classPrefetch = some wStagingCacheCommandsComplete_readAhead_e ∧ (wStagingCacheCommandsComplete_readAhead.entry
      wStagingCacheCommandsComplete_readAhead_e).st = .free := by
  decide +kernel
theorem test_stagingCacheCommandsComplete_cacheDisable :
    ((State.reset : State)).fld F.CCH_CTRL_STATE = 0 ∧ (∀ i ∈ entryNumbers, (((State.reset : State)).entry i).st = .free) := by
  decide +kernel
def wStagingCacheCommandsComplete_cacheDrainDone : State := State.reset.put F.CCH_CTRL_STATE 1
theorem test_stagingCacheCommandsComplete_cacheDrainDone :
    wStagingCacheCommandsComplete_cacheDrainDone.fld F.CCH_CTRL_STATE = 1 ∧ wStagingCacheCommandsComplete_cacheDrainDone.dirtyCount = 0 := by
  decide
def wStagingCacheCommandsComplete_cacheEnable : State := State.reset.put F.CCH_CTRL_STATE 2
theorem test_stagingCacheCommandsComplete_cacheEnable :
    wStagingCacheCommandsComplete_cacheEnable.fld F.CCH_CTRL_STATE = 2 := by
  decide
def wStagingCacheCommandsComplete_cacheEnableRefused : State := State.reset.put F.CCH_CTRL_STATE 1
theorem test_stagingCacheCommandsComplete_cacheEnableRefused :
    wStagingCacheCommandsComplete_cacheEnableRefused.fld F.CCH_CTRL_STATE = 1 := by
  decide
/-- A READ of three sectors whose first is in the cache, confirmed. -/
def wServed : Cmd := { wAdm 1 [3] with started := true, data := { src := [⟨65536, 12288, 0⟩], uses := [⟨0, 5, true, false, false⟩] } }
def wDma : State := { wWith wServed with regs := (State.reset.put (F.HIF_FUNC_STATUS_READY 1) 1).regs, cache := { entries := [(5, { st := .valid, cls := 0, tagged := true, mslot := 4, readers := [1], sectors := [(0, { st := .confirmed, user := [1, 2, 3], outcome := 1 })] })] } }
theorem test_stagingCacheCommandsComplete_dmaWriteIssued :
    wDma.cmd? ((1 : Nat)) = some wServed ∧ wServed.phase = .admitted ∧ wServed.started = true ∧ wServed.origin = .ring ∧ wDma.fnLive
      wServed.id.fn = true ∧ wServed.op = Op.read ∧ ((0 : Nat)) < wServed.id.nsect ∧ wDma.fetchSector wServed ((0 : Nat)) = wDma ∧
      wDma.dueOf wServed ((0 : Nat)) = .bytes (([1, 2, 3] : List Nat)) ((false : Bool)) ((1 : Nat)) ((false : Bool)) ∧ ((0 : Nat)) ∉
      wServed.data.dmaDone ∧ wDma.dmaFirst ((1 : Nat)) ((0 : Nat)) = true ∧ Table.at [] wServed.data.early ((0 : Nat)) ≠ (([1, 2, 3] :
      List Nat)) ∧ wServed.data.dmaDone.length + 1 ≠ wServed.id.nsect := by
  decide
def wCipherCommandsComplete_keyLoad : State := { State.reset with cipher := { staging := [(0, 7), (8, 9), (16, 0x55), (17, 0x201)] } }
theorem test_cipherCommandsComplete_keyLoad :
    wCipherCommandsComplete_keyLoad.flag F.CIP_STATUS_BUSY = false := by
  decide
def wCipherCommandsComplete_keyLoadBusy : State := { State.reset.put F.CIP_STATUS_BUSY 1 with cipher := { staging := [(0, 7)], loading := some 3 } }
theorem test_cipherCommandsComplete_keyLoadBusy :
    wCipherCommandsComplete_keyLoadBusy.flag F.CIP_STATUS_BUSY = true := by
  decide
def wCipherCommandsComplete_keyErase : State := State.reset.put (F.CIP_KEYSLOT_INFO_LOADED 5) 1
theorem test_cipherCommandsComplete_keyErase :
    wCipherCommandsComplete_keyErase.flag F.CIP_STATUS_BUSY = false := by
  decide
def wCipherCommandsComplete_keyLoadDone : State := { State.reset.put F.CIP_STATUS_BUSY 1 with cipher := { loading := some 3 } }
theorem test_cipherCommandsComplete_keyLoadDone :
    wCipherCommandsComplete_keyLoadDone.cipher.loading = some ((3 : Nat)) ∧ (∀ w ∈ wCipherCommandsComplete_keyLoadDone.cipher.work,
      w.ready = false) := by
  decide
def wCipherCommandsComplete_keyZeroizeDone : State := { State.reset with cipher := { slots := [(5, { k1 := [1], k2 := [2], zeroize := true })] } }
theorem test_cipherCommandsComplete_keyZeroizeDone :
    (wCipherCommandsComplete_keyZeroizeDone.keySlot ((5 : Fin 64))).zeroize = true ∧ wCipherCommandsComplete_keyZeroizeDone.flag
      (F.CIP_KEYSLOT_INFO_LOADED ((5 : Fin 64))) = false ∧ (∀ e : Fin 16, ∀ x ∈ wCipherCommandsComplete_keyZeroizeDone.engine e, x.slot ≠
      ((5 : Fin 64)).val) := by
  decide
/-- A job of four blocks, its first block in engine 2. -/
def wJob : Cmd := { wAdm 9 [0, 0, 0, 0, 4] with started := true, data := { bytes := [(0, List.replicate 16 1)] } }
def wJobWork : EngineWork := { cmd := 1, kind := .job, unit := 0, entry := 0, sector := 0, blocks := 1, slot := 5, gen := 0, started := 1 }
def wEngine : Engine := ⟨1, 0, 0, 5, List.replicate 16 3⟩
def wCipherCommandsComplete_engineBlockDone : State := { wWith wJob with cipher := { engines := [(2, some wEngine)], work := [wJobWork] } }
theorem test_cipherCommandsComplete_engineBlockDone :
    wCipherCommandsComplete_engineBlockDone.engine ((2 : Fin 16)) = some wEngine ∧ wCipherCommandsComplete_engineBlockDone.cipher.work =
      [wJobWork] ∧ wJobWork.cmd = wEngine.cmd ∧ wJobWork.unit = wEngine.unit ∧ wJobWork.kind = .job ∧ wJobWork.started = wJobWork.blocks
      ∧ wCipherCommandsComplete_engineBlockDone.cmd? wEngine.cmd = some wJob ∧ wJobWork.done + 1 < wJob.id.nblkJob := by
  decide
def wAttest : Cmd := { id := { fn := 1, ring := 2, op := 0x1A, body := [5, 6] }, phase := .started, data := { src := [⟨65536, 688, 0⟩] } }
def wCipherCommandsComplete_attest : State := { wWith wAttest with regs := (State.reset.put (F.HIF_FUNC_STATUS_READY 1) 1).regs }
theorem test_cipherCommandsComplete_attest :
    wCipherCommandsComplete_attest.cmd? ((1 : Nat)) = some wAttest ∧ wAttest.mayRun Op.attest = true ∧
      wCipherCommandsComplete_attest.mayDeliver ((1 : Nat)) = true ∧ wAttest.origin = .ring ∧ wAttest.mute = false := by
  decide
def wCipherCommandsComplete_lRead : State := wWith (wAdm 0x102 [3])
theorem test_cipherCommandsComplete_lRead :
    wCipherCommandsComplete_lRead.cmd? ((1 : Nat)) = some ((wAdm 0x102 [3] : Cmd)) ∧ ((wAdm 0x102 [3] : Cmd)).mayStart Op.lRead = true ∧
      (∀ b ∈ wCipherCommandsComplete_lRead.blocksOf ((wAdm 0x102 [3] : Cmd)), wCipherCommandsComplete_lRead.tagOf ((wAdm 0x102 [3] :
      Cmd)).id.mslot b = none) := by
  decide
def wCipherCommandsComplete_lWrite : State := wWith (wAdm 0x101 [3])
theorem test_cipherCommandsComplete_lWrite :
    wCipherCommandsComplete_lWrite.cmd? ((1 : Nat)) = some ((wAdm 0x101 [3] : Cmd)) ∧ ((wAdm 0x101 [3] : Cmd)).mayStart Op.lWrite = true
      ∧ (∀ b ∈ wCipherCommandsComplete_lWrite.blocksOf ((wAdm 0x101 [3] : Cmd)), wCipherCommandsComplete_lWrite.tagOf ((wAdm 0x101 [3] :
      Cmd)).id.mslot b = none) ∧ ((wAdm 0x101 [3] : Cmd)).data.uses = [] := by
  decide
def wCipherCommandsComplete_lFlush : State := wWith (wAdm 0x107 [])
theorem test_cipherCommandsComplete_lFlush :
    wCipherCommandsComplete_lFlush.cmd? ((1 : Nat)) = some ((wAdm 0x107 [] : Cmd)) ∧ ((wAdm 0x107 [] : Cmd)).mayStart Op.lFlush = true ∧
      ((wAdm 0x107 [] : Cmd)).mute = false ∧ wCipherCommandsComplete_lFlush.flushBlocks ((1 : Nat)) = [] ∧ ((wAdm 0x107 [] :
      Cmd)).data.badBlocks = [] := by
  decide
def wDownload : Cmd := { id := { fn := 0, op := 0x20, body := [1, 0, 0, 0, 0, 0, 0, 0, 0, 16, 0, 0] }, phase := .started, data := { src := [⟨65536, 4096, 0⟩] } }
def wCipherCommandsComplete_fwDownload : State := { wWith wDownload with regs := (State.reset.put (F.HIF_FUNC_STATUS_READY 0) 1).regs }
theorem test_cipherCommandsComplete_fwDownload :
    wCipherCommandsComplete_fwDownload.cmd? ((1 : Nat)) = some wDownload ∧ wDownload.mayRun Op.fwDownload = true ∧
      wCipherCommandsComplete_fwDownload.downloadOk wDownload.id = true ∧ wDownload.origin = .ring ∧
      wCipherCommandsComplete_fwDownload.fnLive wDownload.id.fn = true ∧ wCipherCommandsComplete_fwDownload.freeTags wDownload.id.fn ≠ []
      ∧ wCipherCommandsComplete_fwDownload.pcie.reqs.any (fun r => r.cmd == ((1 : Nat)) && r.purpose == .firmware) = false ∧
      wCipherCommandsComplete_fwDownload.nextRead wDownload wDownload.id.fwLength = some (((65536 : Nat)), ((512 : Nat))) := by
  decide +kernel
def wCipherCommandsComplete_flashProgramDone : State := { wWith wDownload with fw := { programming := [⟨1, 1, 0, List.replicate 4096 7⟩] } }
def wCipherCommandsComplete_flashProgramDone_p : FwProgram := ⟨1, 1, 0, List.replicate 4096 7⟩
theorem test_cipherCommandsComplete_flashProgramDone :
    wCipherCommandsComplete_flashProgramDone.fw.programming = wCipherCommandsComplete_flashProgramDone_p :: (([] : List FwProgram)) ∧
      wCipherCommandsComplete_flashProgramDone.cmd? wCipherCommandsComplete_flashProgramDone_p.cmd = some wDownload ∧ wDownload.phase =
      .started ∧ wDownload.mute = false := by

  exact ⟨rfl, by decide, by decide, by decide⟩
def wCipherCommandsComplete_flashProgramDoneBad : State := { wWith wDownload with fw := { programming := [⟨1, 1, 0, List.replicate 16 7⟩] } }
def wCipherCommandsComplete_flashProgramDoneBad_p : FwProgram := ⟨1, 1, 0, List.replicate 16 7⟩
theorem test_cipherCommandsComplete_flashProgramDoneBad :
    wCipherCommandsComplete_flashProgramDoneBad.fw.programming = wCipherCommandsComplete_flashProgramDoneBad_p :: (([] : List FwProgram))
      ∧ wCipherCommandsComplete_flashProgramDoneBad.cmd? wCipherCommandsComplete_flashProgramDoneBad_p.cmd = some wDownload ∧
      wDownload.phase = .started ∧ wDownload.mute = false := by
  decide
theorem test_readLaneCommandsComplete_rchStagedWrite :
    ((State.reset : State)).laneMode ((5 : Fin 64)) < 2 := by
  decide
/-- Beam 4 in READ on a station with a Format Q8 disc, its pickup following. -/
def wLane : State := { (((State.reset.put (F.HPC_SLOT_STATUS_STATE 0) 5).put (F.RCH_LANE_CTRL_MODE 4) 2).put (F.SRV_PU_STATE_STATE 1) 5) with stations := [(0, { state := 3, mslot := some 4, disc := some {} })], lanes := [(4, { readOn := true })] }
theorem test_readLaneCommandsComplete_rchStagedWriteReading :
    2 ≤ wLane.laneMode ((4 : Fin 64)) := by
  decide
theorem test_readLaneCommandsComplete_frameStart :
    wLane.laneMode ((4 : Fin 64)) = 2 ∧ (wLane.lane ((4 : Fin 64))).readOn = true ∧ (wLane.lane ((4 : Fin 64))).vgaMove = 0 ∧ (wLane.lane
      ((4 : Fin 64))).staged = [] := by
  decide
def wFrame : State := { State.reset with stations := [(0, { disc := some { s4 := true } })], lanes := [(4, { reading := true, blank := true })] }
theorem test_readLaneCommandsComplete_frameEnd :
    (wFrame.lane ((4 : Fin 64))).reading = true ∧ (wFrame.lane ((4 : Fin 64))).target = none := by
  decide
def wReadLaneCommandsComplete_timingLost : State := { wLane with lanes := [(4, { reading := true })] }
theorem test_readLaneCommandsComplete_timingLost :
    (wReadLaneCommandsComplete_timingLost.lane ((4 : Fin 64))).reading = true ∧ (wReadLaneCommandsComplete_timingLost.lane ((4 : Fin
      64))).blank = false ∧ (wReadLaneCommandsComplete_timingLost.lane ((4 : Fin 64))).lostAt = none ∧
      (wReadLaneCommandsComplete_timingLost.fld (F.RCH_TIM_LOSS_LOSS ((4 : Fin 64))) : Rat) / 256 < ((2 : Rat)) := by
  decide +kernel
theorem test_readLaneCommandsComplete_defectActive :
    wLane.laneMode ((4 : Fin 64)) ≠ 0 ∧ wLane.flag (F.RCH_LANE_STATUS_DEFECT ((4 : Fin 64))) = false ∧ wLane.defectWindow ((4 : Fin 64))
      ((1 : Rat)) ((100 : Rat)) = true ∧ wLane.defectWindow ((4 : Fin 64)) ((1 : Rat)) ((100 : Rat)) = true := by
  decide +kernel
def wReadLaneCommandsComplete_defectInactive : State := (wLane.put (F.RCH_LANE_STATUS_DEFECT 4) 1).put (F.RCH_DEF_CFG_EXTEND 4) 2
theorem test_readLaneCommandsComplete_defectInactive :
    wReadLaneCommandsComplete_defectInactive.flag (F.RCH_LANE_STATUS_DEFECT ((4 : Fin 64))) = true ∧
      wReadLaneCommandsComplete_defectInactive.fld (F.RCH_DEF_CFG_EXTEND ((4 : Fin 64))) ≤ (([100, 100] : List Rat)).length ∧ (([100,
      100] : List Rat)).all (fun e => !wReadLaneCommandsComplete_defectInactive.defectWindow ((4 : Fin 64)) e ((100 : Rat))) = true := by
  decide +kernel
/-- Entry 3 fills from side 1; beam 4 reads its sector 0. -/
def wWork (x : SecWork) : State := { wLane with lanes := [(4, { readOn := true, reading := true, target := some (3, 0), defectSeen := true })], decoder := { works := [(3, { active := true, side := 1, mslot := 4, secs := [(0, x), (1, { st := .expected })] })] }, cache := { entries := [(3, { st := .filling, cls := 0, tagged := true, mslot := 4 })] } }
def wReadLaneCommandsComplete_captureAgeTrigger : State := wWork { st := .expected }
theorem test_readLaneCommandsComplete_captureAgeTrigger :
    (wReadLaneCommandsComplete_captureAgeTrigger.lane ((4 : Fin 64))).target = some (((3 : Nat)), ((0 : Nat))) ∧
      (wReadLaneCommandsComplete_captureAgeTrigger.lane ((4 : Fin 64))).blank = false ∧ (wReadLaneCommandsComplete_captureAgeTrigger.lane
      ((4 : Fin 64))).defectSeen = true ∧ (wReadLaneCommandsComplete_captureAgeTrigger.work ((3 : Nat))).active = true ∧
      (wReadLaneCommandsComplete_captureAgeTrigger.work ((3 : Nat))).noRetry = false ∧ ((wReadLaneCommandsComplete_captureAgeTrigger.work
      ((3 : Nat))).sec ((0 : Nat))).st = .expected ∧ wReadLaneCommandsComplete_captureAgeTrigger.secLane
      (wReadLaneCommandsComplete_captureAgeTrigger.work ((3 : Nat))) ((0 : Nat)) = ((4 : Fin 64)).val ∧
      ((wReadLaneCommandsComplete_captureAgeTrigger.work ((3 : Nat))).sec ((0 : Nat))).image = false ∧
      ((wReadLaneCommandsComplete_captureAgeTrigger.work ((3 : Nat))).sec ((0 : Nat))).captureTried = false ∧
      (wReadLaneCommandsComplete_captureAgeTrigger.disc (wReadLaneCommandsComplete_captureAgeTrigger.work ((3 :
      Nat))).station).imageSlots ≤ wReadLaneCommandsComplete_captureAgeTrigger.fld F.RCH_IMG_CFG_FREE ∧
      wReadLaneCommandsComplete_captureAgeTrigger.slotsHeld (fun v _ => v.station == (wReadLaneCommandsComplete_captureAgeTrigger.work
      ((3 : Nat))).station) + (wReadLaneCommandsComplete_captureAgeTrigger.disc (wReadLaneCommandsComplete_captureAgeTrigger.work ((3 :
      Nat))).station).imageSlots ≤ slotLimit (wReadLaneCommandsComplete_captureAgeTrigger.fld F.RCH_IMG_CFG_STATION_MAX) ∧
      wReadLaneCommandsComplete_captureAgeTrigger.slotsHeld (fun _ y => !y.imageSync) + (wReadLaneCommandsComplete_captureAgeTrigger.disc
      (wReadLaneCommandsComplete_captureAgeTrigger.work ((3 : Nat))).station).imageSlots ≤ 128 - slotLimit
      (wReadLaneCommandsComplete_captureAgeTrigger.fld F.RCH_IMG_CFG_RESERVE) := by
  decide
def wReadLaneCommandsComplete_frameImageDone : State := wWork { st := .decoding, image := true }
theorem test_readLaneCommandsComplete_frameImageDone :
    ((wReadLaneCommandsComplete_frameImageDone.work ((3 : Fin 48))).sec ((0 : Fin 72))).image = true ∧
      ((wReadLaneCommandsComplete_frameImageDone.work ((3 : Fin 48))).sec ((0 : Fin 72))).imageDone = false := by
  decide
def wReadLaneCommandsComplete_laneQualityLow : State := { wLane with lanes := [(4, { poorRun := 8 })] }
theorem test_readLaneCommandsComplete_laneQualityLow :
    8 ≤ (wReadLaneCommandsComplete_laneQualityLow.lane ((4 : Fin 64))).poorRun := by
  decide
/-- LLRs of a mark at the expected position of a window of WIN bits on each side. -/
def wMark (pattern : List Bool) : List Int := List.replicate 4 0 ++ pattern.map (fun b => if b then -20 else 20) ++ List.replicate 4 0
def wSectorRecoveryCommandsComplete_syncSearch : State := { wWork { st := .expected } with regs := (wLane.put (F.RCH_SYNC_CFG_WIN 4) 4).regs }
def wSectorRecoveryCommandsComplete_syncSearch_q : List Int := wMark secondaryMark
theorem test_sectorRecoveryCommandsComplete_syncSearch :
    (wSectorRecoveryCommandsComplete_syncSearch.lane ((4 : Fin 64))).target = some (((3 : Nat)), ((0 : Nat))) ∧
      (wSectorRecoveryCommandsComplete_syncSearch.lane ((4 : Fin 64))).reading = true ∧ (wSectorRecoveryCommandsComplete_syncSearch.lane
      ((4 : Fin 64))).blank = false ∧ (wSectorRecoveryCommandsComplete_syncSearch.work ((3 : Nat))).active = true ∧
      ((wSectorRecoveryCommandsComplete_syncSearch.work ((3 : Nat))).sec ((0 : Nat))).st = .expected ∧
      ((wSectorRecoveryCommandsComplete_syncSearch.work ((3 : Nat))).sec ((0 : Nat))).h0 = none ∧
      wSectorRecoveryCommandsComplete_syncSearch.secLane (wSectorRecoveryCommandsComplete_syncSearch.work ((3 : Nat))) ((0 : Nat)) = ((4
      : Fin 64)).val ∧ (wSectorRecoveryCommandsComplete_syncSearch.disc (wSectorRecoveryCommandsComplete_syncSearch.work ((3 :
      Nat))).station).s4 = false ∧ findMark (min 64 (wSectorRecoveryCommandsComplete_syncSearch.fld (F.RCH_SYNC_CFG_WIN ((4 : Fin 64)))))
      (wSectorRecoveryCommandsComplete_syncSearch.fld (F.RCH_SYNC_CFG_TOL ((4 : Fin 64)))) primaryMark ((wMark primaryMark : List Int)) =
      some ((0 : Int)) ∧ findMark (min 64 (wSectorRecoveryCommandsComplete_syncSearch.fld (F.RCH_SYNC_CFG_WIN ((4 : Fin 64)))))
      (wSectorRecoveryCommandsComplete_syncSearch.fld (F.RCH_SYNC_CFG_TOL ((4 : Fin 64)))) secondaryMark
      wSectorRecoveryCommandsComplete_syncSearch_q = some ((0 : Int)) := by
  decide +kernel
def wSectorPayload : List Nat := sectorMeta 2147483648 0 0 0 0 0 [] (List.replicate 4096 7) ++ List.replicate 4096 7
def wCodeword : Nat := ldpcEncode ldpcQ8 (ofLeBytes wSectorPayload)
def wDecoding : State := wWork { st := .decoding, hyps := [⟨0, 0, 0, false⟩] }
theorem wCodeword_payload : codewordPayload wCodeword = wSectorPayload := by
  refine codewordPayload_ldpcEncode _ (by rw [wSectorPayload, List.length_append, sectorMeta_length, List.length_replicate]) fun x hx => ?_
  rcases List.mem_append.mp hx with h | h
  · exact sectorMeta_lt _ _ _ _ _ _ [] _ (by simp) x h
  · rw [List.eq_of_mem_replicate h]; decide
theorem test_sectorRecoveryCommandsComplete_decodeConverged :
    wDecoding.decodes ((3 : Fin 48)) ((0 : Fin 72)) ((0 : Fin 4)) = true ∧ ((wDecoding.work ((3 : Fin 48))).sec ((0 : Fin 72))).st =
      .decoding ∧ (wDecoding.work ((3 : Fin 48))).rereading = false ∧ ((0 : Fin 72)).val < (wDecoding.disc (wDecoding.work ((3 : Fin
      48))).station).dataPerBlock ∧ ldpcConverged (wDecoding.disc (wDecoding.work ((3 : Fin 48))).station).ldpc wCodeword = true ∧
      sectorChecks (wDecoding.secPsa (wDecoding.work ((3 : Fin 48))) ((0 : Fin 72))) (codewordPayload wCodeword) = true ∧
      (wDecoding.entry ((3 : Fin 48))).readers = [] ∧ (∀ w ∈ wDecoding.cipher.work, w.ready = false) := by

  refine ⟨by decide, by decide, by decide, by decide, ldpcConverged_ldpcEncode _ _, ?_, by decide, by decide⟩
  rw [wCodeword_payload]
  exact sectorChecks_sectorMeta 2147483648 _ _ _ _ _ _ _ List.length_replicate (by decide)
def wSectorRecoveryCommandsComplete_decodeMaxIter : State := wWork { st := .decoding, hyps := [⟨0, 0, 0, false⟩, ⟨1, 3, 3, false⟩] }
theorem test_sectorRecoveryCommandsComplete_decodeMaxIter :
    wSectorRecoveryCommandsComplete_decodeMaxIter.decodes ((3 : Fin 48)) ((0 : Fin 72)) ((0 : Fin 4)) = true ∧ ((0 : Fin 72)).val <
      (wSectorRecoveryCommandsComplete_decodeMaxIter.disc (wSectorRecoveryCommandsComplete_decodeMaxIter.work ((3 : Fin
      48))).station).dataPerBlock ∧ ((wSectorRecoveryCommandsComplete_decodeMaxIter.work ((3 : Fin 48))).sec ((0 : Fin 72))).hyps.filter
      (fun x => x.idx != ((0 : Fin 4)).val) ≠ [] ∧ (wSectorRecoveryCommandsComplete_decodeMaxIter.entry ((3 : Fin 48))).readers = [] ∧ (∀
      w ∈ wSectorRecoveryCommandsComplete_decodeMaxIter.cipher.work, w.ready = false) := by
  decide
def wSectorRecoveryCommandsComplete_redecodeRoundStart : State := { wWork { st := .pinned, image := true, imageDone := true } with decoder := { works := (wWork { st := .pinned, image := true, imageDone := true }).decoder.works, waitRound := [(3, 0)] } }
theorem test_sectorRecoveryCommandsComplete_redecodeRoundStart :
    wSectorRecoveryCommandsComplete_redecodeRoundStart.decoder.reeq.length < 8 ∧
      wSectorRecoveryCommandsComplete_redecodeRoundStart.decoder.waitRound.find? (fun x =>
      ((wSectorRecoveryCommandsComplete_redecodeRoundStart.work x.1).sec x.2).imageDone) = some (((3, 0) : Nat × Nat)) := by
  decide
def wSectorRecoveryCommandsComplete_reequalizerPassDone : State := { wWork { st := .pinned, image := true, imageDone := true, rounding := true, roundOn := 3, passes := 2 } with stations := [(0, { state := 3, disc := some { s4 := true } })], decoder := { works := (wWork { st := .pinned, image := true, imageDone := true, rounding := true, roundOn := 3, passes := 2 }).decoder.works, reeq := [(3, 0)] } }
def wSectorRecoveryCommandsComplete_reequalizerPassDone_x : SecWork := { st := .pinned, image := true, imageDone := true, rounding := true, roundOn := 3, passes := 2 }
theorem test_sectorRecoveryCommandsComplete_reequalizerPassDone :
    (((3 : Fin 48)).val, ((0 : Fin 72)).val) ∈ wSectorRecoveryCommandsComplete_reequalizerPassDone.decoder.reeq ∧ (({ s4 := true } :
      DiscInfo)) = wSectorRecoveryCommandsComplete_reequalizerPassDone.disc (wSectorRecoveryCommandsComplete_reequalizerPassDone.work ((3
      : Fin 48))).station ∧ wSectorRecoveryCommandsComplete_reequalizerPassDone_x =
      (wSectorRecoveryCommandsComplete_reequalizerPassDone.work ((3 : Fin 48))).sec ((0 : Fin 72)) ∧ 1 <
      wSectorRecoveryCommandsComplete_reequalizerPassDone_x.passes := by
  decide
def wSectorRecoveryCommandsComplete_reequalizerPassDoneLast : State := { wWork { st := .pinned, image := true, imageDone := true, rounding := true, roundOn := 1, passes := 1 } with stations := [(0, { state := 3, disc := some { s4 := true } })], decoder := { works := (wWork { st := .pinned, image := true, imageDone := true, rounding := true, roundOn := 1, passes := 1 }).decoder.works, reeq := [(3, 0)] } }
theorem test_sectorRecoveryCommandsComplete_reequalizerPassDoneLast :
    (((3 : Fin 48)).val, ((0 : Fin 72)).val) ∈ wSectorRecoveryCommandsComplete_reequalizerPassDoneLast.decoder.reeq ∧
      ((wSectorRecoveryCommandsComplete_reequalizerPassDoneLast.work ((3 : Fin 48))).sec ((0 : Fin 72))).passes = 1 := by
  decide
/-- Entry 3 of a Format Q8 block: sector 0 pinned, the others confirmed with payloads of zeros. -/
def wOuter (st : SecState) (busy : Bool) : State := { wLane with decoder := { works := [(3, { active := true, side := 1, mslot := 4, outerBusy := busy, secs := (0, { st := st }) :: (List.range 71).map (fun j => (j + 1, { st := .confirmed })) })] }, cache := { entries := [(3, { st := .filling, cls := 0, tagged := true, mslot := 4 })] } }
def wSectorRecoveryCommandsComplete_outerDecode : State := wOuter .pinned false
theorem test_sectorRecoveryCommandsComplete_outerDecode :
    wSectorRecoveryCommandsComplete_outerDecode.outerDue ((3 : Fin 48)) = true := by
  decide +kernel
def wOuterDone : State := wOuter .erased true
theorem test_sectorRecoveryCommandsComplete_outerDecodeDone :
    (wOuterDone.work ((3 : Fin 48))).active = true ∧ (wOuterDone.work ((3 : Fin 48))).outerBusy = true ∧ (wOuterDone.work ((3 : Fin
      48))).rereading = false ∧ ((0 : Fin 72)).val < (wOuterDone.disc (wOuterDone.work ((3 : Fin 48))).station).dataPerBlock ∧
      ((wOuterDone.work ((3 : Fin 48))).sec ((0 : Fin 72))).st ≠ .confirmed ∧ (∀ c ∈ outerColumns, (rsDecode (wOuterDone.disc
      (wOuterDone.work ((3 : Fin 48))).station).parityPerBlock ((List.range (wOuterDone.disc (wOuterDone.work ((3 : Fin
      48))).station).perBlock).filter (fun i => ((wOuterDone.work ((3 : Fin 48))).sec i).st != .confirmed)) ((List.range (wOuterDone.disc
      (wOuterDone.work ((3 : Fin 48))).station).perBlock).map (fun i => ((wOuterDone.work ((3 : Fin 48))).sec i).payload.getD c 0))).2 =
      true) ∧ (wOuterDone.entry ((3 : Fin 48))).readers = [] ∧ (∀ w ∈ wOuterDone.cipher.work, w.ready = false) := by

  refine ⟨by decide, by decide, by decide, by decide, by decide +kernel, fun c _ => ?_, by decide, by decide⟩
  have h : (List.range (wOuterDone.disc (wOuterDone.work 3).station).perBlock).map (fun i => ((wOuterDone.work 3).sec i).payload.getD c 0) =
      List.replicate 72 0 := rfl
  have d : (rsDecode 8 ((List.range 72).filter (fun i => ((wOuterDone.work 3).sec i).st != .confirmed)) (List.replicate 72 0)).2 = true := by
    decide +kernel
  rw [← h] at d
  exact d
def wSectorRecoveryCommandsComplete_blockBlank : State := { wLane with decoder := { works := [(3, { active := true, side := 1, mslot := 4, blanks := 65, secs := [(0, { st := .blankFrame }), (1, { st := .expected })] })] }, cache := { entries := [(3, { st := .filling, cls := 0, tagged := true, mslot := 4 })] } }
theorem test_sectorRecoveryCommandsComplete_blockBlank :
    (wSectorRecoveryCommandsComplete_blockBlank.work ((3 : Fin 48))).active = true ∧ (wSectorRecoveryCommandsComplete_blockBlank.work ((3
      : Fin 48))).blank = none ∧ (wSectorRecoveryCommandsComplete_blockBlank.disc (wSectorRecoveryCommandsComplete_blockBlank.work ((3 :
      Fin 48))).station).blankLimit ≤ (wSectorRecoveryCommandsComplete_blockBlank.work ((3 : Fin 48))).blanks ∧
      (wSectorRecoveryCommandsComplete_blockBlank.entry ((3 : Fin 48))).readers = [] ∧ (∀ w ∈
      wSectorRecoveryCommandsComplete_blockBlank.cipher.work, w.ready = false) := by
  decide
def wSectorRecoveryCommandsComplete_reread : State := (wWork { st := .erased }).setWork 3 { active := true, side := 1, mslot := 4, secs := [(0, { st := .erased }), (1, { st := .erased })] }
theorem test_sectorRecoveryCommandsComplete_reread :
    wSectorRecoveryCommandsComplete_reread.needsReread ((3 : Fin 48)) = true ∧ (wSectorRecoveryCommandsComplete_reread.work ((3 : Fin
      48))).noRetry = false ∧ (wSectorRecoveryCommandsComplete_reread.work ((3 : Fin 48))).rereads <
      wSectorRecoveryCommandsComplete_reread.fld F.RCH_DEC_CFG_REREAD_MAX := by
  decide
theorem test_loopEngineCommandsComplete_srvPeriodWrite :
    bitsOf ((250#32 : Word)).toNat 0 10 ∈ [125, 200, 250, 400, 500, 625, 1000] ∧ (∀ n : Fin 16, ∀ l : Fin 4, ((State.reset : State)).fld
      (loopModeFld n l) < 2) := by
  decide
theorem test_loopEngineCommandsComplete_srvPeriodWriteBad :
    bitsOf ((300#32 : Word)).toNat 0 10 ∉ [125, 200, 250, 400, 500, 625, 1000] := by
  decide
def wLoopEngineCommandsComplete_injEnable : State := { State.reset with lps := [(3, { phase := 77 })] }
theorem test_loopEngineCommandsComplete_injEnable :
    wLoopEngineCommandsComplete_injEnable.flag (F.SRV_INJ_CFG_ENABLE ((3 : Fin 16))) = false := by
  decide
def wLoopEngineCommandsComplete_holdExtendEnd : State := { State.reset with lps := [(3, { loops := [(1, { mode := 2, holding := true })] })] }
theorem test_loopEngineCommandsComplete_holdExtendEnd :
    ((wLoopEngineCommandsComplete_holdExtendEnd.lp ((3 : Fin 16))).loop ((1 : Fin 4))).mode = 2 ∧
      ((wLoopEngineCommandsComplete_holdExtendEnd.lp ((3 : Fin 16))).loop ((1 : Fin 4))).holding = true ∧
      ((wLoopEngineCommandsComplete_holdExtendEnd.lp ((3 : Fin 16))).loop ((1 : Fin 4))).ext = 0 ∧
      (wLoopEngineCommandsComplete_holdExtendEnd.lp ((3 : Fin 16))).sample.defect = false ∧ (wLoopEngineCommandsComplete_holdExtendEnd.lp
      ((3 : Fin 16))).low = false := by
  decide
def wLoopProcessorCommandsComplete_outputInstant : State := { State.reset with lps := [(3, { outDone := false, loops := [(0, { code := 5 }), (1, { code := -6 })] })] }
theorem test_loopProcessorCommandsComplete_outputInstant :
    (wLoopProcessorCommandsComplete_outputInstant.lp ((3 : Fin 16))).outDone = false ∧ (wLoopProcessorCommandsComplete_outputInstant.lp
      ((3 : Fin 16))).waiting = none ∧ (wLoopProcessorCommandsComplete_outputInstant.lp ((3 : Fin 16))).busy = false := by
  decide
def wLoopProcessorCommandsComplete_loopComputationEnd : State := { State.reset with lps := [(3, { busy := true, sledDue := some 7 })] }
theorem test_loopProcessorCommandsComplete_loopComputationEnd :
    (wLoopProcessorCommandsComplete_loopComputationEnd.lp ((3 : Fin 16))).busy = true ∧
      (wLoopProcessorCommandsComplete_loopComputationEnd.lp ((3 : Fin 16))).waiting = none := by
  decide
def wLoopProcessorCommandsComplete_loopBelayLate : State := State.reset.put (F.SRV_LATE_RUN_LATE 3) 3
theorem test_loopProcessorCommandsComplete_loopBelayLate :
    3 ≤ wLoopProcessorCommandsComplete_loopBelayLate.fld (F.SRV_LATE_RUN_LATE ((3 : Fin 16))) ∧
      wLoopProcessorCommandsComplete_loopBelayLate.flag (F.SRV_LP_STATUS_BELAY_LATE ((3 : Fin 16))) = false ∧
      wLoopProcessorCommandsComplete_loopBelayLate.puState ((3 : Fin 16)) ≠ Pu.follow ∧
      wLoopProcessorCommandsComplete_loopBelayLate.puState ((3 : Fin 16)) ≠ Pu.belay := by
  decide
def wLoopProcessorCommandsComplete_loopOnTime : State := ((State.reset.put (F.SRV_LATE_RUN_ON_TIME 3) 4096).put (F.SRV_LP_STATUS_BELAY_LATE 3) 1).put (F.SRV_PU_STATE_BELAY_CAUSE 3) 1
theorem test_loopProcessorCommandsComplete_loopOnTime :
    4096 ≤ wLoopProcessorCommandsComplete_loopOnTime.fld (F.SRV_LATE_RUN_ON_TIME ((3 : Fin 16))) ∧
      wLoopProcessorCommandsComplete_loopOnTime.flag (F.SRV_LP_STATUS_BELAY_LATE ((3 : Fin 16))) = true ∧
      wLoopProcessorCommandsComplete_loopOnTime.puState ((3 : Fin 16)) ≠ Pu.follow ∧ wLoopProcessorCommandsComplete_loopOnTime.puState
      ((3 : Fin 16)) ≠ Pu.belay := by
  decide
def wLoopProcessorCommandsComplete_traceStop : State := State.reset.put (F.SRV_TRC_STATUS_STATE 3) 2
theorem test_loopProcessorCommandsComplete_traceStop :
    (wLoopProcessorCommandsComplete_traceStop.fld (F.SRV_TRC_STATUS_STATE ((3 : Fin 16))) = 1 ∨
      wLoopProcessorCommandsComplete_traceStop.fld (F.SRV_TRC_STATUS_STATE ((3 : Fin 16))) = 2) := by
  decide
def wLoopProcessorCommandsComplete_traceDone : State := { State.reset.put (F.SRV_TRC_STATUS_STATE 3) 2 with lps := [(3, { trace := { full := true, time := 99 } })] }
theorem test_loopProcessorCommandsComplete_traceDone :
    wLoopProcessorCommandsComplete_traceDone.fld (F.SRV_TRC_STATUS_STATE ((3 : Fin 16))) = 2 ∧
      (wLoopProcessorCommandsComplete_traceDone.lp ((3 : Fin 16))).trace.full = true := by
  decide
def wLoopProcessorCommandsComplete_laserOverpower : State := { State.reset with lps := [(3, { fmdRun := 2 })] }
theorem test_loopProcessorCommandsComplete_laserOverpower :
    2 ≤ (wLoopProcessorCommandsComplete_laserOverpower.lp ((3 : Fin 16))).fmdRun ∧ (wLoopProcessorCommandsComplete_laserOverpower.calRun
      ((3 : Fin 16))).proc = 0 := by
  decide
/-- Pickup 2 in a state. -/
def wPu (p : Nat) : State := State.reset.put (F.SRV_PU_STATE_STATE 2) p
def wPuIs (p : Nat) (x : Pickup) : State := { wPu p with pickups := [(2, x)] }
theorem test_focusAndTrackCommandsComplete_addressDecoded :
    (((wPu 4 : State)).pickup ((2 : Fin 16))).jumping = false ∧ ((wPu 4 : State)).puState ((2 : Fin 16)) = Pu.align ∧ ((wPu 4 :
      State)).wanted ((2 : Fin 16)) = none ∧ psaSide ((77#32 : BitVec 32)).toNat = ((2 : Fin 16)).val % 2 ∧ psaLayer ((77#32 : BitVec
      32)).toNat = ((wPu 4 : State)).fld (F.SRV_PU_STATE_LAYER ((2 : Fin 16))) ∧ psaSpiral ((77#32 : BitVec 32)).toNat = 0 ∧ ((wPu 4 :
      State)).fld (F.SRV_PU_STATE_BELAY_CAUSE ((2 : Fin 16))) = 0 := by
  decide
theorem test_focusAndTrackCommandsComplete_addressDecodedFollow :
    (((wPu 5 : State)).pickup ((2 : Fin 16))).jumping = false ∧ ((wPu 5 : State)).puState ((2 : Fin 16)) = Pu.follow ∧ ((wPu 5 :
      State)).wanted ((2 : Fin 16)) = none ∧ (((wPu 5 : State)).pickup ((2 : Fin 16))).addr = none := by
  decide
def wFocusAndTrackCommandsComplete_focusSweepEnd : State := wPuIs 1 { ramp := 2 }
theorem test_focusAndTrackCommandsComplete_focusSweepEnd :
    wFocusAndTrackCommandsComplete_focusSweepEnd.puState ((2 : Fin 16)) = Pu.search ∧
      (wFocusAndTrackCommandsComplete_focusSweepEnd.pickup ((2 : Fin 16))).ramp = 2 ∧
      (wFocusAndTrackCommandsComplete_focusSweepEnd.pickup ((2 : Fin 16))).sweeps < 2 := by
  decide
def wFocusAndTrackCommandsComplete_focusSweepEndThird : State := wPuIs 1 { ramp := 2, sweeps := 2 }
theorem test_focusAndTrackCommandsComplete_focusSweepEndThird :
    wFocusAndTrackCommandsComplete_focusSweepEndThird.puState ((2 : Fin 16)) = Pu.search ∧
      (wFocusAndTrackCommandsComplete_focusSweepEndThird.pickup ((2 : Fin 16))).ramp = 2 ∧ 2 ≤
      (wFocusAndTrackCommandsComplete_focusSweepEndThird.pickup ((2 : Fin 16))).sweeps := by
  decide
def wFocusAndTrackCommandsComplete_focusLock : State := (wPuIs 2 { feGood := 256 }).put (F.SPN_STATE_AT_SPEED 1) 1
theorem test_focusAndTrackCommandsComplete_focusLock :
    wFocusAndTrackCommandsComplete_focusLock.puState ((2 : Fin 16)) = Pu.focused ∧ 256 ≤ (wFocusAndTrackCommandsComplete_focusLock.pickup
      ((2 : Fin 16))).feGood ∧ wFocusAndTrackCommandsComplete_focusLock.flag (F.SPN_STATE_AT_SPEED (((2 : Fin 16)).val / 2)) = true := by
  decide
def wFocusAndTrackCommandsComplete_focusedTimeout : State := (wPu 2).put (F.SPN_STATE_AT_SPEED 1) 1
theorem test_focusAndTrackCommandsComplete_focusedTimeout :
    wFocusAndTrackCommandsComplete_focusedTimeout.puState ((2 : Fin 16)) = Pu.focused ∧
      wFocusAndTrackCommandsComplete_focusedTimeout.flag (F.SPN_STATE_AT_SPEED (((2 : Fin 16)).val / 2)) = true ∧
      wFocusAndTrackCommandsComplete_focusedTimeout.fld (F.SRV_PU_STATE_RECOVER_COUNT ((2 : Fin 16))) <
      wFocusAndTrackCommandsComplete_focusedTimeout.fld (F.SRV_DEFECT_CFG_RECOVER_MAX ((2 : Fin 16))) := by
  decide
def wFocusAndTrackCommandsComplete_trackLock : State := wPuIs 3 { captured := true, teGood := 256 }
theorem test_focusAndTrackCommandsComplete_trackLock :
    wFocusAndTrackCommandsComplete_trackLock.puState ((2 : Fin 16)) = Pu.pullin ∧ (wFocusAndTrackCommandsComplete_trackLock.pickup ((2 :
      Fin 16))).captured = true ∧ 256 ≤ (wFocusAndTrackCommandsComplete_trackLock.pickup ((2 : Fin 16))).teGood := by
  decide
theorem test_focusAndTrackCommandsComplete_pullinTimeout :
    ((wPu 3 : State)).puState ((2 : Fin 16)) = Pu.pullin ∧ ((wPu 3 : State)).fld (F.SRV_PU_STATE_RECOVER_COUNT ((2 : Fin 16))) < ((wPu 3
      : State)).fld (F.SRV_DEFECT_CFG_RECOVER_MAX ((2 : Fin 16))) := by
  decide
theorem test_focusAndTrackCommandsComplete_alignAddressTimeout :
    ((wPu 4 : State)).puState ((2 : Fin 16)) = Pu.align ∧ ((wPu 4 : State)).fld (F.SRV_PU_STATE_RECOVER_COUNT ((2 : Fin 16))) < ((wPu 4 :
      State)).fld (F.SRV_DEFECT_CFG_RECOVER_MAX ((2 : Fin 16))) := by
  decide
def wFocusAndTrackCommandsComplete_trackJumpDone : State := wPuIs 6 { jumping := true, teGood := 16 }
theorem test_focusAndTrackCommandsComplete_trackJumpDone :
    (wFocusAndTrackCommandsComplete_trackJumpDone.pickup ((2 : Fin 16))).jumping = true ∧ 2 *
      (wFocusAndTrackCommandsComplete_trackJumpDone.pickup ((2 : Fin 16))).jumpTracks ≤
      (wFocusAndTrackCommandsComplete_trackJumpDone.pickup ((2 : Fin 16))).jumpCross ∧ 16 ≤
      (wFocusAndTrackCommandsComplete_trackJumpDone.pickup ((2 : Fin 16))).teGood ∧ wFocusAndTrackCommandsComplete_trackJumpDone.puState
      ((2 : Fin 16)) = Pu.tjump := by
  decide
def wFocusAndTrackCommandsComplete_trackJumpTimeout : State := wPuIs 6 { jumping := true }
theorem test_focusAndTrackCommandsComplete_trackJumpTimeout :
    (wFocusAndTrackCommandsComplete_trackJumpTimeout.pickup ((2 : Fin 16))).jumping = true ∧
      wFocusAndTrackCommandsComplete_trackJumpTimeout.puState ((2 : Fin 16)) ≠ Pu.belay ∧
      (wFocusAndTrackCommandsComplete_trackJumpTimeout.pickup ((2 : Fin 16))).gates = 0 ∧
      wFocusAndTrackCommandsComplete_trackJumpTimeout.streaming ((2 : Fin 16)) = false ∧
      (wFocusAndTrackCommandsComplete_trackJumpTimeout.calRun ((2 : Fin 16))).proc = 0 ∧
      wFocusAndTrackCommandsComplete_trackJumpTimeout.fld (F.SRV_PU_STATE_RECOVER_COUNT ((2 : Fin 16))) <
      wFocusAndTrackCommandsComplete_trackJumpTimeout.fld (F.SRV_DEFECT_CFG_RECOVER_MAX ((2 : Fin 16))) := by
  decide
def wFocusAndTrackCommandsComplete_layerJumpTimeout : State := wPuIs 7 { layer := 3 }
theorem test_focusAndTrackCommandsComplete_layerJumpTimeout :
    wFocusAndTrackCommandsComplete_layerJumpTimeout.puState ((2 : Fin 16)) = Pu.ljump := by
  decide
theorem test_focusAndTrackCommandsComplete_coarseSettleEnd :
    ((wPu 8 : State)).puState ((2 : Fin 16)) = Pu.coarse ∧ (((wPu 8 : State)).motor ((2 : Fin 16))).phase = 0 := by
  decide
def wFocusAndTrackCommandsComplete_focusLost : State := ((wPuIs 3 { focLoss := 200 }).put (F.HPC_SLOT_STATUS_STATE 1) 5).put (F.SRV_LDD_STATUS_LINK_UP 2) 1
theorem test_focusAndTrackCommandsComplete_focusLost :
    focusClosed (wFocusAndTrackCommandsComplete_focusLost.puState ((2 : Fin 16))) = true ∧ 0 <
      (wFocusAndTrackCommandsComplete_focusLost.pickup ((2 : Fin 16))).focLoss ∧ wFocusAndTrackCommandsComplete_focusLost.fld
      (F.SRV_LOSS_CFG_LOST_N ((2 : Fin 16))) ≤ (wFocusAndTrackCommandsComplete_focusLost.pickup ((2 : Fin 16))).focLoss ∧
      (wFocusAndTrackCommandsComplete_focusLost.pickup ((2 : Fin 16))).gates = 0 ∧ wFocusAndTrackCommandsComplete_focusLost.streaming ((2
      : Fin 16)) = false ∧ (wFocusAndTrackCommandsComplete_focusLost.calRun ((2 : Fin 16))).proc = 0 ∧
      wFocusAndTrackCommandsComplete_focusLost.mayEmit ((2 : Fin 16)) = true ∧ wFocusAndTrackCommandsComplete_focusLost.fld
      (F.SRV_PU_STATE_RECOVER_COUNT ((2 : Fin 16))) < wFocusAndTrackCommandsComplete_focusLost.fld (F.SRV_DEFECT_CFG_RECOVER_MAX ((2 :
      Fin 16))) := by
  decide
def wFocusAndTrackCommandsComplete_trackLost : State := wPuIs 5 { badAddr := 2 }
theorem test_focusAndTrackCommandsComplete_trackLost :
    (wFocusAndTrackCommandsComplete_trackLost.puState ((2 : Fin 16)) = Pu.follow ∨ wFocusAndTrackCommandsComplete_trackLost.puState ((2 :
      Fin 16)) = Pu.align) ∧ 2 ≤ (wFocusAndTrackCommandsComplete_trackLost.pickup ((2 : Fin 16))).badAddr ∧
      (wFocusAndTrackCommandsComplete_trackLost.pickup ((2 : Fin 16))).gates = 0 ∧ wFocusAndTrackCommandsComplete_trackLost.streaming ((2
      : Fin 16)) = false ∧ (wFocusAndTrackCommandsComplete_trackLost.calRun ((2 : Fin 16))).proc = 0 ∧
      wFocusAndTrackCommandsComplete_trackLost.fld (F.SRV_PU_STATE_RECOVER_COUNT ((2 : Fin 16))) <
      wFocusAndTrackCommandsComplete_trackLost.fld (F.SRV_DEFECT_CFG_RECOVER_MAX ((2 : Fin 16))) := by
  decide
def wFocusAndTrackCommandsComplete_parkRampEnd : State := wPuIs 10 { parkFault := true }
theorem test_focusAndTrackCommandsComplete_parkRampEnd :
    wFocusAndTrackCommandsComplete_parkRampEnd.puState ((2 : Fin 16)) = Pu.park := by
  decide
theorem test_focusAndTrackCommandsComplete_recoverCountClear :
    ((wPu 5 : State)).puState ((2 : Fin 16)) = Pu.follow := by
  decide
def wFocusAndTrackCommandsComplete_defectLong : State := wPuIs 5 { holdRun := 70000 }
theorem test_focusAndTrackCommandsComplete_defectLong :
    (wFocusAndTrackCommandsComplete_defectLong.pickup ((2 : Fin 16))).trigsOff = false ∧ 0 <
      (wFocusAndTrackCommandsComplete_defectLong.pickup ((2 : Fin 16))).holdRun ∧ wFocusAndTrackCommandsComplete_defectLong.fld
      (F.SRV_DEFECT_CFG_DEFECT_MAX ((2 : Fin 16))) ≤ (wFocusAndTrackCommandsComplete_defectLong.pickup ((2 : Fin 16))).holdRun := by
  decide
def wFocusAndTrackCommandsComplete_defectTriggersRestore : State := wPuIs 5 { trigsOff := true, clean := 64 }
theorem test_focusAndTrackCommandsComplete_defectTriggersRestore :
    (wFocusAndTrackCommandsComplete_defectTriggersRestore.pickup ((2 : Fin 16))).trigsOff = true ∧ 64 ≤
      (wFocusAndTrackCommandsComplete_defectTriggersRestore.pickup ((2 : Fin 16))).clean := by
  decide
def wFocusAndTrackCommandsComplete_revolutionReference : State := (wPu 9).put (F.SPN_STATE_AT_SPEED 1) 1
theorem test_focusAndTrackCommandsComplete_revolutionReference :
    wFocusAndTrackCommandsComplete_revolutionReference.puState ((2 : Fin 16)) = Pu.belay ∧
      wFocusAndTrackCommandsComplete_revolutionReference.flag (F.SPN_STATE_AT_SPEED (((2 : Fin 16)).val / 2)) = true ∧
      (wFocusAndTrackCommandsComplete_revolutionReference.pickup ((2 : Fin 16))).pullWait = false ∧
      wFocusAndTrackCommandsComplete_revolutionReference.procDown ((2 : Fin 16)) = false ∧
      (wFocusAndTrackCommandsComplete_revolutionReference.pickup ((2 : Fin 16))).jumping = false := by
  decide
def wFocusAndTrackCommandsComplete_baeGatesReopen : State := wPuIs 5 { baeBarred := true, baeGood := 16 }
theorem test_focusAndTrackCommandsComplete_baeGatesReopen :
    (wFocusAndTrackCommandsComplete_baeGatesReopen.pickup ((2 : Fin 16))).baeBarred = true ∧ 16 ≤
      (wFocusAndTrackCommandsComplete_baeGatesReopen.pickup ((2 : Fin 16))).baeGood := by
  decide
theorem test_focusAndTrackCommandsComplete_belayReqSet :
    ((wPu 3 : State)).puState ((2 : Fin 16)) ≠ Pu.follow ∧ ((wPu 3 : State)).puState ((2 : Fin 16)) ≠ Pu.belay := by
  decide
theorem test_focusAndTrackCommandsComplete_belayReqSetFollow :
    ((wPu 5 : State)).puState ((2 : Fin 16)) = Pu.follow ∧ (((wPu 5 : State)).calRun ((2 : Fin 16))).proc = 0 ∧ (((wPu 5 : State)).pickup
      ((2 : Fin 16))).gates = 0 ∧ ((wPu 5 : State)).streaming ((2 : Fin 16)) = false := by
  decide
def wFocusAndTrackCommandsComplete_belayReqClear : State := ((wPu 9).put (F.SRV_PU_STATE_BELAY_CAUSE 2) 4).put (F.SRV_PU_CTRL_BELAY_REQ 2) 1
theorem test_focusAndTrackCommandsComplete_belayReqClear :
    wFocusAndTrackCommandsComplete_belayReqClear.puState ((2 : Fin 16)) = Pu.belay ∧ (wFocusAndTrackCommandsComplete_belayReqClear.pickup
      ((2 : Fin 16))).pullWait = false ∧ wFocusAndTrackCommandsComplete_belayReqClear.fld (F.SRV_PU_STATE_BELAY_CAUSE ((2 : Fin 16))) = 2
      ^ belayHost := by
  decide
/-- Station 1 powered. -/
def wLdd : State := State.reset.put (F.HPC_SLOT_STATUS_STATE 1) 5
theorem test_laserDriverLinkCommandsComplete_lddLinkEnable :
    wLdd.flag (F.SRV_LDD_STATUS_LINK_UP ((2 : Fin 16))) = false ∧ (wLdd.pickup ((2 : Fin 16))).lddTry = false ∧ wLdd.slotPowered (((2 :
      Fin 16)).val / 2) = true := by
  decide
/-- A good STATUS frame. -/
def wStatus : List Byte := [0x80#8, 2#8, 9#8] ++ List.replicate 14 0#8 ++ (leBytes 2 (crc16 ([0x80, 2, 9] ++ List.replicate 14 0))).map (BitVec.ofNat 8)
def wLaserDriverLinkCommandsComplete_lddStatusFrame : State := wLdd.put (F.SRV_LDD_CTRL_LINK_EN 2) 1
theorem test_laserDriverLinkCommandsComplete_lddStatusFrame :
    wLaserDriverLinkCommandsComplete_lddStatusFrame.slotPowered (((2 : Fin 16)).val / 2) = true ∧
      wLaserDriverLinkCommandsComplete_lddStatusFrame.flag (F.SRV_LDD_CTRL_LINK_EN ((2 : Fin 16))) = true ∧ wStatus.length = 19 ∧
      wStatus.head? = some 0x80#8 ∧ crc16 ((wStatus.map BitVec.toNat).take 17) = ofLeBytes ((wStatus.map BitVec.toNat).drop 17) ∧
      (wLaserDriverLinkCommandsComplete_lddStatusFrame.pickup ((2 : Fin 16))).gates = 0 ∧
      (wLaserDriverLinkCommandsComplete_lddStatusFrame.puRec ((2 : Fin 16))).selWant = none := by
  decide +kernel
def wLaserDriverLinkCommandsComplete_lddStatusFrameBad : State := wLdd.put (F.SRV_LDD_CTRL_LINK_EN 2) 1
theorem test_laserDriverLinkCommandsComplete_lddStatusFrameBad :
    wLaserDriverLinkCommandsComplete_lddStatusFrameBad.slotPowered (((2 : Fin 16)).val / 2) = true ∧
      wLaserDriverLinkCommandsComplete_lddStatusFrameBad.flag (F.SRV_LDD_CTRL_LINK_EN ((2 : Fin 16))) = true ∧ (([0x80#8] : List
      Byte)).length ≠ 19 := by
  decide
def wLaserDriverLinkCommandsComplete_lddLinkUp : State := { wLdd with pickups := [(2, { lddTry := true, lddGood := 16 })] }
theorem test_laserDriverLinkCommandsComplete_lddLinkUp :
    (wLaserDriverLinkCommandsComplete_lddLinkUp.pickup ((2 : Fin 16))).lddTry = true ∧ 16 ≤
      (wLaserDriverLinkCommandsComplete_lddLinkUp.pickup ((2 : Fin 16))).lddGood := by
  decide
def wLaserDriverLinkCommandsComplete_lddBadFrames : State := { (wLdd.put (F.SRV_LDD_CTRL_LINK_EN 2) 1).put (F.SRV_LDD_STATUS_LINK_UP 2) 1 with pickups := [(2, { lddBad := 8 })] }
theorem test_laserDriverLinkCommandsComplete_lddBadFrames :
    wLaserDriverLinkCommandsComplete_lddBadFrames.flag (F.SRV_LDD_STATUS_LINK_UP ((2 : Fin 16))) = true ∧ 8 ≤
      (wLaserDriverLinkCommandsComplete_lddBadFrames.pickup ((2 : Fin 16))).lddBad ∧
      (wLaserDriverLinkCommandsComplete_lddBadFrames.pickup ((2 : Fin 16))).gates = 0 ∧
      wLaserDriverLinkCommandsComplete_lddBadFrames.streaming ((2 : Fin 16)) = false ∧ wLaserDriverLinkCommandsComplete_lddBadFrames.flag
      (F.SRV_LDD_CTRL_LINK_EN ((2 : Fin 16))) = true ∧ wLaserDriverLinkCommandsComplete_lddBadFrames.slotPowered (((2 : Fin 16)).val / 2)
      = true := by
  decide
def wLaserDriverLinkCommandsComplete_lddStatusTimeout : State := (wLdd.put (F.SRV_LDD_CTRL_LINK_EN 2) 1).put (F.SRV_LDD_STATUS_LINK_UP 2) 1
theorem test_laserDriverLinkCommandsComplete_lddStatusTimeout :
    wLaserDriverLinkCommandsComplete_lddStatusTimeout.flag (F.SRV_LDD_STATUS_LINK_UP ((2 : Fin 16))) = true ∧
      (wLaserDriverLinkCommandsComplete_lddStatusTimeout.pickup ((2 : Fin 16))).gates = 0 ∧
      wLaserDriverLinkCommandsComplete_lddStatusTimeout.streaming ((2 : Fin 16)) = false ∧
      wLaserDriverLinkCommandsComplete_lddStatusTimeout.flag (F.SRV_LDD_CTRL_LINK_EN ((2 : Fin 16))) = true ∧
      wLaserDriverLinkCommandsComplete_lddStatusTimeout.slotPowered (((2 : Fin 16)).val / 2) = true := by
  decide
/-- A pickup that writes, with the record of a power calibration of LY0. -/
def wTable : State := { wLdd.put (F.SRV_LDD_STATUS_LINK_UP 2) 1 with pickups := [(2, { gates := 1 })], recording := { pus := [(2, { calPw := [(0, [1, 2, 3, 4])] })] } }
def wLaserDriverLinkCommandsComplete_lddTableLoad_crc1 : BitVec 32 := BitVec.ofNat 32 (crc32c (wTable.buildBank 2 0))
theorem test_laserDriverLinkCommandsComplete_lddTableLoad :
    wTable.flag (F.SRV_LDD_STATUS_LINK_UP ((2 : Fin 16))) = true ∧ Table.at [] (wTable.puRec ((2 : Fin 16))).calPw ((0 : Fin 8)).val ≠ []
      ∧ wLaserDriverLinkCommandsComplete_lddTableLoad_crc1.toNat = crc32c (wTable.buildBank ((2 : Fin 16)) ((0 : Fin 8)).val) ∧
      (wTable.pickup ((2 : Fin 16))).gates ≠ 0 := by

  exact ⟨by decide, by decide, Nat.mod_eq_of_lt (crc32c_lt _), by decide⟩
/-- Axis 3 in a move of 1,000 steps. -/
def wAxis : Motor := { phase := 1, target := 1000 * 4294967296, dec := 10000 }
def wAxes (m : Motor) : State := { (State.reset.put (F.MOT_VMAX_VMAX 19) 1000).put (F.MOT_ACC_ACC 19) 100000 with motors := [(19, m)] }
theorem test_motorCommandsComplete_profileTick :
    (((wAxes wAxis : State)).motor (16 + ((3 : Fin 12)).val)).phase ≠ 0 ∧ ((wAxes wAxis : State)).movingGroup ((3 : Fin 12)).val = none ∧
      ((wAxes wAxis : State)).homeState ((3 : Fin 12)).val = Home.idle ∧ ((wAxes wAxis : State)).flag (F.MOT_AX_CFG_ENC_EN ((3 : Fin
      12))) = false ∧ (((wAxes wAxis : State)).motor (16 + ((3 : Fin 12)).val)).seeking = false ∧ (((wAxes wAxis : State)).motor (16 +
      ((3 : Fin 12)).val)).vmax = none ∧ profileStep (((wAxes wAxis : State)).fld (F.MOT_VMAX_VMAX (16 + ((3 : Fin 12)).val)) : Rat)
      (((wAxes wAxis : State)).fld (F.MOT_ACC_ACC (16 + ((3 : Fin 12)).val)) : Rat) ((((wAxes wAxis : State)).motor (16 + ((3 : Fin
      12)).val)).dec : Rat) (((wAxes wAxis : State)).fld (F.MOT_VMIN_VMIN (16 + ((3 : Fin 12)).val)) : Rat) (ofUnits ((posDist (((wAxes
      wAxis : State)).motor (16 + ((3 : Fin 12)).val)).pos (((wAxes wAxis : State)).motor (16 + ((3 : Fin 12)).val)).target).natAbs :
      Int)) (((wAxes wAxis : State)).motor (16 + ((3 : Fin 12)).val)).stopping (((wAxes wAxis : State)).motor (16 + ((3 : Fin
      12)).val)).phase (((wAxes wAxis : State)).motor (16 + ((3 : Fin 12)).val)).v = (((1 : Nat)), ((1 : Rat)), ((1 / 100000 : Rat))) ∧
      ((1 / 100000 : Rat)) < ofUnits ((posDist (((wAxes wAxis : State)).motor (16 + ((3 : Fin 12)).val)).pos (((wAxes wAxis :
      State)).motor (16 + ((3 : Fin 12)).val)).target).natAbs : Int) := by
  decide +kernel
def wMotorCommandsComplete_motorStart : State := State.reset.put (F.MOT_TARGET_TARGET 19) 500
theorem test_motorCommandsComplete_motorStart :
    wMotorCommandsComplete_motorStart.mayStart ((19 : Fin 28)) (wMotorCommandsComplete_motorStart.sfld (F.MOT_TARGET_TARGET ((19 : Fin
      28)))) = true ∧ posDist (wMotorCommandsComplete_motorStart.motor ((19 : Fin 28))).pos (wMotorCommandsComplete_motorStart.sfld
      (F.MOT_TARGET_TARGET ((19 : Fin 28))) * stepUnit) ≠ 0 := by
  decide +kernel
theorem test_motorCommandsComplete_motorStartRejected :
    ((wAxes wAxis : State)).mayStart ((19 : Fin 28)) (((wAxes wAxis : State)).sfld (F.MOT_TARGET_TARGET ((19 : Fin 28)))) = false := by
  decide +kernel
theorem test_motorCommandsComplete_motorRappel :
    (16 ≤ ((19 : Fin 28)).val → ((wAxes wAxis : State)).movingGroup (((19 : Fin 28)).val - 16) = none) ∧ (((wAxes wAxis : State)).motor
      ((19 : Fin 28))).phase ≠ 0 := by
  decide
theorem test_motorCommandsComplete_motorEmergency :
    (16 ≤ ((19 : Fin 28)).val → ((wAxes wAxis : State)).movingGroup (((19 : Fin 28)).val - 16) = none) ∧ (((wAxes wAxis : State)).motor
      ((19 : Fin 28))).phase ≠ 0 := by
  decide
theorem test_motorCommandsComplete_motorHome :
    ((State.reset : State)).homeState ((3 : Fin 12)) = Home.idle ∧ (((State.reset : State)).motor (16 + ((3 : Fin 12)).val)).phase = 0 ∧
      ((State.reset : State)).movingGroup ((3 : Fin 12)) = none ∧ ((State.reset : State)).flag (F.MOT_STATUS_LIMIT (16 + ((3 : Fin
      12)).val)) = false ∧ ((State.reset : State)).flag F.MOT_ESTOP_ACTIVE = false := by
  decide
theorem test_motorCommandsComplete_motorTargetWrite :
    (((State.reset : State)).motor ((19 : Fin 28))).phase = 0 := by
  decide
theorem test_motorCommandsComplete_motorTargetWriteMoving :
    16 ≤ ((19 : Fin 28)).val ∧ (((wAxes wAxis : State)).motor ((19 : Fin 28))).phase = 1 ∧ (((wAxes wAxis : State)).motor ((19 : Fin
      28))).stopping = false ∧ (((wAxes wAxis : State)).motor ((19 : Fin 28))).seeking = false ∧ 0 ≤ (((wAxes wAxis : State)).motor ((19
      : Fin 28))).dir * posDist (((wAxes wAxis : State)).motor ((19 : Fin 28))).pos (((700#32 : Word)).toInt * stepUnit) ∧ (((wAxes wAxis
      : State)).motor ((19 : Fin 28))).room (((wAxes wAxis : State)).motor ((19 : Fin 28))).dec ≤ ofUnits ((((wAxes wAxis : State)).motor
      ((19 : Fin 28))).dir * posDist (((wAxes wAxis : State)).motor ((19 : Fin 28))).pos (((700#32 : Word)).toInt * stepUnit)) := by
  decide +kernel
theorem test_motorCommandsComplete_motorDecWrite :
    (((State.reset : State)).motor ((19 : Fin 28))).phase = 0 := by
  decide
theorem test_motorCommandsComplete_motorPosSet :
    (((State.reset : State)).motor ((19 : Fin 28))).phase = 0 ∧ (((19 : Fin 28)).val < 16 → ((State.reset : State)).flag
      (F.MOT_GEAR_CTRL_ENGAGE ((19 : Fin 28))) = false) ∧ (16 ≤ ((19 : Fin 28)).val → ((State.reset : State)).movingGroup (((19 : Fin
      28)).val - 16) = none) := by
  decide
theorem test_motorCommandsComplete_gearEngage :
    (((State.reset : State)).motor ((2 : Fin 16))).phase = 0 := by
  decide
def wMotorCommandsComplete_gearArm : State := State.reset.put (F.MOT_GEAR_AT_AT_LO 2) 9
theorem test_motorCommandsComplete_gearArm :
    (wMotorCommandsComplete_gearArm.spindle (((2 : Fin 16)).val / 2)).master < wMotorCommandsComplete_gearArm.gearAt ((2 : Fin 16)) := by
  decide
def wMotorCommandsComplete_gearChange : State := { (State.reset.put (F.MOT_GEAR_CTRL_PENDING 2) 1).put (F.MOT_GEAR_NEXT_NEXT 2) 77 with motors := [(2, { reached := true, lag := 3 })] }
theorem test_motorCommandsComplete_gearChange :
    wMotorCommandsComplete_gearChange.flag (F.MOT_GEAR_CTRL_PENDING ((2 : Fin 16))) = true ∧ (wMotorCommandsComplete_gearChange.motor ((2
      : Fin 16))).reached = true := by
  decide
def wMotorCommandsComplete_homeFaultClear : State := (State.reset.put (F.MOT_STATUS_HOME_FAULT 19) 1).put (F.MOT_STATUS_HOME_STATE 19) 6
theorem test_motorCommandsComplete_homeFaultClear :
    wMotorCommandsComplete_homeFaultClear.homeState ((3 : Fin 12)) = Home.fault := by
  decide
theorem test_motorCommandsComplete_limitQualifiedStops :
    ((wAxes wAxis : State)).homeState ((3 : Fin 12)) = Home.idle ∧ ((wAxes wAxis : State)).movingGroup ((3 : Fin 12)) = none ∧ (((wAxes
      wAxis : State)).motor (16 + ((3 : Fin 12)).val)).phase ≠ 0 ∧ 0 < (((wAxes wAxis : State)).motor (16 + ((3 : Fin 12)).val)).dir := by
  decide
def wMotorCommandsComplete_homeQualified : State := (wAxes { wAxis with seeking := true }).put (F.MOT_STATUS_HOME_STATE 19) 1
theorem test_motorCommandsComplete_homeQualified :
    wMotorCommandsComplete_homeQualified.flag (F.MOT_AX_CFG_HOME_ON_LIMIT ((3 : Fin 12))) = false ∧
      wMotorCommandsComplete_homeQualified.homeState ((3 : Fin 12)) = Home.seek ∧ (wMotorCommandsComplete_homeQualified.motor (16 + ((3 :
      Fin 12)).val)).phase ≠ 0 := by
  decide
theorem test_motorCommandsComplete_sledStandstill :
    (((State.reset : State)).motor ((2 : Fin 16))).phase = 0 ∧ ((State.reset : State)).flag (F.MOT_GEAR_CTRL_ENGAGE ((2 : Fin 16))) =
      false := by
  decide
theorem test_motorCommandsComplete_axisHoldReduce :
    (((State.reset : State)).motor (16 + ((3 : Fin 12)).val)).phase = 0 ∧ ((State.reset : State)).movingGroup ((3 : Fin 12)) = none := by
  decide
theorem test_groupAndMoveCommandsComplete_groupMembersWrite :
    ((0x0030#32 : BitVec 32)).toNat % 65536 < 4096 ∧ popCount 12 (((0x0030#32 : BitVec 32)).toNat % 65536) ≤ 4 ∧ (∀ k : Fin 3, k ≠ ((1 :
      Fin 3)) → ((State.reset : State)).fld (F.MOT_GRP_CTRL_MEMBERS k) &&& (((0x0030#32 : BitVec 32)).toNat % 65536) = 0) := by
  decide
theorem test_groupAndMoveCommandsComplete_groupMembersWriteTooMany :
    4 < popCount 12 (((0x001F#32 : BitVec 32)).toNat % 65536) := by
  decide
/-- Group 1 of axes 4 and 5, each with a target. -/
def wGroup : State := ((State.reset.put (F.MOT_GRP_CTRL_MEMBERS 1) 0x30).put (F.MOT_TARGET_TARGET 20) 300).put (F.MOT_TARGET_TARGET 21) 400
def wMoving : State := { wGroup with groups := [(1, { phase := 1, members := [4, 5], starts := [0, 0], deltas := [300 * 4294967296, 400 * 4294967296], len := 500, goal := 500, v := 10 })] }
theorem test_groupAndMoveCommandsComplete_groupStart :
    (([4, 5] : List Nat)) = setBits 12 (wGroup.fld (F.MOT_GRP_CTRL_MEMBERS ((1 : Fin 3)))) ∧ (wGroup.group ((1 : Fin 3))).busy = false ∧
      wGroup.flag F.MOT_ESTOP_ACTIVE = false ∧ (∀ m ∈ (([4, 5] : List Nat)), (wGroup.motor (16 + m)).phase = 0 ∧ wGroup.flag
      (F.MOT_STATUS_LIMIT (16 + m)) = false ∧ wGroup.homeState m = Home.idle ∧ wGroup.flag (F.MOT_INPUTS_LIMP m) = false ∧ wGroup.flag
      (F.MOT_INPUTS_LIMN m) = false) ∧ lineLen ((([4, 5] : List Nat)).map (fun m => posDist (wGroup.motor (16 + m)).pos (wGroup.sfld
      (F.MOT_TARGET_TARGET (16 + m)) * stepUnit))) ≠ 0 := by
  decide +kernel
theorem test_groupAndMoveCommandsComplete_groupRappel :
    (wMoving.group ((1 : Fin 3))).phase ≠ 0 := by
  decide
def wGroupAndMoveCommandsComplete_estopClear : State := State.reset.put F.MOT_ESTOP_ACTIVE 1
theorem test_groupAndMoveCommandsComplete_estopClear :
    (∀ m : Fin 12, (wGroupAndMoveCommandsComplete_estopClear.motor (16 + m.val)).phase = 0) ∧ (∀ g : Fin 3,
      (wGroupAndMoveCommandsComplete_estopClear.group g).phase = 0) := by
  decide
/-- A MOVE of a kind, of axis or group 1, admitted under handle 1. -/
def wMove (kind : Nat) : Cmd := { id := { op := 0x12, body := [kind, 1, 0, 0, 0, 0, 0, 0, 100, 0, 0, 0, 200] }, phase := .admitted, queue := some 8 }
def wMoves (s : State) (c : Cmd) : State := { s with rings := { cmds := [(1, some c)], nextHandle := 2 } }
def wGroupAndMoveCommandsComplete_moveAxis : State := wMoves State.reset (wMove 0)
theorem test_groupAndMoveCommandsComplete_moveAxis :
    wGroupAndMoveCommandsComplete_moveAxis.cmd? ((1 : Nat)) = some ((wMove 0 : Cmd)) ∧ wGroupAndMoveCommandsComplete_moveAxis.moveReady
      ((1 : Nat)) 0 = true ∧ ((17 : Nat)) = 16 + ((wMove 0 : Cmd)).id.moveIndex % 12 ∧ wGroupAndMoveCommandsComplete_moveAxis.mayStart
      ((17 : Nat)) (toSigned 32 (((wMove 0 : Cmd)).id.moveTarget 0 % 2 ^ 32)) = true ∧ posDist
      (wGroupAndMoveCommandsComplete_moveAxis.motor ((17 : Nat))).pos (toSigned 32 (((wMove 0 : Cmd)).id.moveTarget 0 % 2 ^ 32) *
      stepUnit) ≠ 0 := by
  decide +kernel
def wGroupAndMoveCommandsComplete_moveGroup : State := wMoves wGroup (wMove 1)
theorem test_groupAndMoveCommandsComplete_moveGroup :
    wGroupAndMoveCommandsComplete_moveGroup.cmd? ((1 : Nat)) = some ((wMove 1 : Cmd)) ∧ wGroupAndMoveCommandsComplete_moveGroup.moveReady
      ((1 : Nat)) 1 = true ∧ ((1 : Nat)) = ((wMove 1 : Cmd)).id.moveIndex % 3 ∧ (([4, 5] : List Nat)) = setBits 12
      (wGroupAndMoveCommandsComplete_moveGroup.fld (F.MOT_GRP_CTRL_MEMBERS ((1 : Nat)))) ∧ (wGroupAndMoveCommandsComplete_moveGroup.group
      ((1 : Nat))).busy = false ∧ wGroupAndMoveCommandsComplete_moveGroup.flag F.MOT_ESTOP_ACTIVE = false ∧ (∀ m ∈ (([4, 5] : List Nat)),
      (wGroupAndMoveCommandsComplete_moveGroup.motor (16 + m)).phase = 0 ∧ wGroupAndMoveCommandsComplete_moveGroup.flag
      (F.MOT_STATUS_LIMIT (16 + m)) = false ∧ wGroupAndMoveCommandsComplete_moveGroup.homeState m = Home.idle ∧
      wGroupAndMoveCommandsComplete_moveGroup.flag (F.MOT_INPUTS_LIMP m) = false ∧ wGroupAndMoveCommandsComplete_moveGroup.flag
      (F.MOT_INPUTS_LIMN m) = false) ∧ lineLen (((List.range (([4, 5] : List Nat)).length).zip (([4, 5] : List Nat))).map (fun e =>
      posDist (wGroupAndMoveCommandsComplete_moveGroup.motor (16 + e.2)).pos (toSigned 32 (((wMove 1 : Cmd)).id.moveTarget e.1 % 2 ^ 32)
      * stepUnit))) ≠ 0 := by
  decide +kernel
def wGroupAndMoveCommandsComplete_moveHoming : State := wMoves State.reset (wMove 2)
theorem test_groupAndMoveCommandsComplete_moveHoming :
    wGroupAndMoveCommandsComplete_moveHoming.cmd? ((1 : Nat)) = some ((wMove 2 : Cmd)) ∧
      wGroupAndMoveCommandsComplete_moveHoming.moveReady ((1 : Nat)) 2 = true ∧ ((1 : Nat)) = ((wMove 2 : Cmd)).id.moveIndex % 12 ∧
      wGroupAndMoveCommandsComplete_moveHoming.homeState ((1 : Nat)) = Home.idle ∧ (wGroupAndMoveCommandsComplete_moveHoming.motor (16 +
      ((1 : Nat)))).phase = 0 ∧ wGroupAndMoveCommandsComplete_moveHoming.movingGroup ((1 : Nat)) = none ∧
      wGroupAndMoveCommandsComplete_moveHoming.flag (F.MOT_STATUS_LIMIT (16 + ((1 : Nat)))) = false ∧
      wGroupAndMoveCommandsComplete_moveHoming.flag F.MOT_ESTOP_ACTIVE = false := by
  decide
def wGroupAndMoveCommandsComplete_moveRappel : State := { wMoves State.reset (wMove 3) with motors := [(17, { phase := 2, v := 5, dec := 10 })] }
theorem test_groupAndMoveCommandsComplete_moveRappel :
    wGroupAndMoveCommandsComplete_moveRappel.cmd? ((1 : Nat)) = some ((wMove 3 : Cmd)) ∧
      wGroupAndMoveCommandsComplete_moveRappel.moveReady ((1 : Nat)) 3 = true ∧ ((1 : Nat)) = ((wMove 3 : Cmd)).id.moveIndex % 12 ∧
      wGroupAndMoveCommandsComplete_moveRappel.movingGroup ((1 : Nat)) = none ∧ (wGroupAndMoveCommandsComplete_moveRappel.motor (16 + ((1
      : Nat)))).phase ≠ 0 := by
  decide
def wGroupAndMoveCommandsComplete_lSegment : State := wMoves wGroup { id := { formatL := true, op := 0x120, body := [2, 1, 50, 0, 0, 0] }, phase := .admitted, queue := some 8 }
def wGroupAndMoveCommandsComplete_lSegment_c : Cmd := { id := { formatL := true, op := 0x120, body := [2, 1, 50, 0, 0, 0] }, phase := .admitted, queue := some 8 }
theorem test_groupAndMoveCommandsComplete_lSegment :
    wGroupAndMoveCommandsComplete_lSegment.cmd? ((1 : Nat)) = some wGroupAndMoveCommandsComplete_lSegment_c ∧
      wGroupAndMoveCommandsComplete_lSegment_c.op = Op.lSegment ∧ wGroupAndMoveCommandsComplete_lSegment_c.phase = .admitted ∧
      wGroupAndMoveCommandsComplete_lSegment_c.started = false ∧ wGroupAndMoveCommandsComplete_lSegment_c.mute = false ∧ popCount 12
      (wGroupAndMoveCommandsComplete_lSegment.fld (F.MOT_GRP_CTRL_MEMBERS wGroupAndMoveCommandsComplete_lSegment_c.id.segGroup)) =
      wGroupAndMoveCommandsComplete_lSegment_c.id.body.getD 0 0 ∧ (wGroupAndMoveCommandsComplete_lSegment.group
      wGroupAndMoveCommandsComplete_lSegment_c.id.segGroup).queue.length < 64 ∧ (∀ e ∈ wGroupAndMoveCommandsComplete_lSegment.allCmds,
      e.2.op = Op.lSegment → e.1 = ((1 : Nat))) := by
  decide
/-- Spindle 3 in a state. -/
def wSpn (p : Nat) (x : Spindle) : State := { State.reset.put (F.SPN_STATE_STATE 3) p with spindles := [(3, x)] }
def wSpindleStartsAndCrossingsComplete_spindleRunSet : State := wSpn 0 { busCode := 1920 }
theorem test_spindleStartsAndCrossingsComplete_spindleRunSet :
    wSpindleStartsAndCrossingsComplete_spindleRunSet.spnState ((3 : Fin 8)) = Spn.off ∧
      wSpindleStartsAndCrossingsComplete_spindleRunSet.flag (F.SPN_CTRL_RUN ((3 : Fin 8))) = false ∧
      wSpindleStartsAndCrossingsComplete_spindleRunSet.flag (F.SPN_STATUS_CHOP_FAULT ((3 : Fin 8))) = false ∧ 1600 ≤
      (wSpindleStartsAndCrossingsComplete_spindleRunSet.spindle ((3 : Fin 8))).busCode := by
  decide
def wSpindleStartsAndCrossingsComplete_spindleRunSetRefused : State := wSpn 0 { busCode := 1500 }
theorem test_spindleStartsAndCrossingsComplete_spindleRunSetRefused :
    wSpindleStartsAndCrossingsComplete_spindleRunSetRefused.spnState ((3 : Fin 8)) = Spn.off ∧
      wSpindleStartsAndCrossingsComplete_spindleRunSetRefused.flag (F.SPN_CTRL_RUN ((3 : Fin 8))) = false ∧
      (wSpindleStartsAndCrossingsComplete_spindleRunSetRefused.flag (F.SPN_STATUS_CHOP_FAULT ((3 : Fin 8))) = true ∨
      (wSpindleStartsAndCrossingsComplete_spindleRunSetRefused.spindle ((3 : Fin 8))).busCode < 1600) := by
  decide
def wSpindleStartsAndCrossingsComplete_spindleRunClear : State := ((wSpn 6 {}).put (F.SPN_STATE_ANGLE_VALID 3) 1).put (F.SPN_STATE_SPEED 3) 9000
theorem test_spindleStartsAndCrossingsComplete_spindleRunClear :
    wSpindleStartsAndCrossingsComplete_spindleRunClear.spnState ((3 : Fin 8)) = Spn.run ∧
      wSpindleStartsAndCrossingsComplete_spindleRunClear.flag (F.SPN_STATE_ANGLE_VALID ((3 : Fin 8))) = true ∧
      wSpindleStartsAndCrossingsComplete_spindleRunClear.flag (F.SPN_STATUS_CHOP_FAULT ((3 : Fin 8))) = false := by
  decide +kernel
def wSpindleStartsAndCrossingsComplete_spindleRunClearStart : State := wSpn 3 { bridge := .injection }
theorem test_spindleStartsAndCrossingsComplete_spindleRunClearStart :
    (wSpindleStartsAndCrossingsComplete_spindleRunClearStart.spnState ((3 : Fin 8)) = Spn.probe ∨
      wSpindleStartsAndCrossingsComplete_spindleRunClearStart.spnState ((3 : Fin 8)) = Spn.slowing ∨
      wSpindleStartsAndCrossingsComplete_spindleRunClearStart.spnState ((3 : Fin 8)) = Spn.hfi ∨
      wSpindleStartsAndCrossingsComplete_spindleRunClearStart.spnState ((3 : Fin 8)) = Spn.align ∨
      wSpindleStartsAndCrossingsComplete_spindleRunClearStart.spnState ((3 : Fin 8)) = Spn.ramp ∨
      wSpindleStartsAndCrossingsComplete_spindleRunClearStart.spnState ((3 : Fin 8)) = Spn.catch_) := by
  decide
theorem test_spindleStartsAndCrossingsComplete_spindleRunClearFault :
    ((wSpn 11 {} : State)).spnState ((3 : Fin 8)) = Spn.fault ∧ ((wSpn 11 {} : State)).flag (F.SPN_STATUS_START_FAIL ((3 : Fin 8))) =
      false ∧ ((wSpn 11 {} : State)).flag (F.SPN_STATUS_CHOP_FAULT ((3 : Fin 8))) = false := by
  decide
theorem test_spindleStartsAndCrossingsComplete_spindleTargetWriteRefused :
    (((500#32 : Word)).toNat % 2 ^ 14 < 600 ∨ 10000 < ((500#32 : Word)).toNat % 2 ^ 14) := by
  decide
theorem test_spindleStartsAndCrossingsComplete_spindleTargetWrite :
    600 ≤ ((9000#32 : Word)).toNat % 2 ^ 14 ∧ ((9000#32 : Word)).toNat % 2 ^ 14 ≤ 10000 := by
  decide
def wSpindleStartsAndCrossingsComplete_probeTimeoutCatch : State := (wSpn 1 {}).put (F.SPN_STATE_SPEED 3) 700
theorem test_spindleStartsAndCrossingsComplete_probeTimeoutCatch :
    wSpindleStartsAndCrossingsComplete_probeTimeoutCatch.spnState ((3 : Fin 8)) = Spn.probe ∧ 600 ≤
      wSpindleStartsAndCrossingsComplete_probeTimeoutCatch.spnSpeed ((3 : Fin 8)) := by
  decide
def wSpindleStartsAndCrossingsComplete_probeTimeoutSlowing : State := (wSpn 1 {}).put (F.SPN_STATE_SPEED 3) 70
theorem test_spindleStartsAndCrossingsComplete_probeTimeoutSlowing :
    wSpindleStartsAndCrossingsComplete_probeTimeoutSlowing.spnState ((3 : Fin 8)) = Spn.probe ∧ 60 ≤
      wSpindleStartsAndCrossingsComplete_probeTimeoutSlowing.spnSpeed ((3 : Fin 8)) ∧
      wSpindleStartsAndCrossingsComplete_probeTimeoutSlowing.spnSpeed ((3 : Fin 8)) < 600 := by
  decide
theorem test_spindleStartsAndCrossingsComplete_probeTimeout :
    ((wSpn 1 {} : State)).spnState ((3 : Fin 8)) = Spn.probe ∧ ((wSpn 1 {} : State)).spnSpeed ((3 : Fin 8)) < 60 := by
  decide
theorem test_spindleStartsAndCrossingsComplete_hfiDone :
    ((wSpn 3 {} : State)).spnState ((3 : Fin 8)) = Spn.hfi ∧ ((wSpn 3 {} : State)).fld (F.SPN_HFI_Q_MIN ((3 : Fin 8))) ≤ ((20#8 :
      Byte)).toNat := by
  decide +kernel
theorem test_spindleStartsAndCrossingsComplete_hfiDoneLow :
    ((wSpn 3 {} : State)).spnState ((3 : Fin 8)) = Spn.hfi ∧ ((12#8 : Byte)).toNat < ((wSpn 3 {} : State)).fld (F.SPN_HFI_Q_MIN ((3 : Fin
      8))) ∧ ((wSpn 3 {} : State)).fld (F.SPN_CTRL_START_MODE ((3 : Fin 8))) ≠ 1 := by
  decide
def wSpindleStartsAndCrossingsComplete_hfiDoneAttempt : State := ((wSpn 3 {}).put (F.SPN_CTRL_START_MODE 3) 1).put (F.SPN_STATE_ATTEMPTS 3) 2
theorem test_spindleStartsAndCrossingsComplete_hfiDoneAttempt :
    wSpindleStartsAndCrossingsComplete_hfiDoneAttempt.spnState ((3 : Fin 8)) = Spn.hfi ∧ ((12#8 : Byte)).toNat <
      wSpindleStartsAndCrossingsComplete_hfiDoneAttempt.fld (F.SPN_HFI_Q_MIN ((3 : Fin 8))) ∧
      wSpindleStartsAndCrossingsComplete_hfiDoneAttempt.fld (F.SPN_CTRL_START_MODE ((3 : Fin 8))) = 1 := by
  decide
theorem test_spindleStartsAndCrossingsComplete_alignElapsed :
    ((wSpn 4 {} : State)).spnState ((3 : Fin 8)) = Spn.align := by
  decide +kernel
def wSpindleStartsAndCrossingsComplete_spindleCommutation : State := wSpn 6 { bridge := .sixStep }
theorem test_spindleStartsAndCrossingsComplete_spindleCommutation :
    (wSpindleStartsAndCrossingsComplete_spindleCommutation.spindle ((3 : Fin 8))).bridge = .sixStep ∧
      wSpindleStartsAndCrossingsComplete_spindleCommutation.spnState ((3 : Fin 8)) = Spn.run := by
  decide
def wSpindleStartsAndCrossingsComplete_spindleCommutationRamp : State := wSpn 5 { bridge := .sixStep, ramp := 60 }
theorem test_spindleStartsAndCrossingsComplete_spindleCommutationRamp :
    (wSpindleStartsAndCrossingsComplete_spindleCommutationRamp.spindle ((3 : Fin 8))).bridge = .sixStep ∧
      wSpindleStartsAndCrossingsComplete_spindleCommutationRamp.spnState ((3 : Fin 8)) = Spn.ramp ∧
      (wSpindleStartsAndCrossingsComplete_spindleCommutationRamp.spindle ((3 : Fin 8))).ramp +
      (wSpindleStartsAndCrossingsComplete_spindleCommutationRamp.fld (F.SPN_RAMP_RAMP_ACC ((3 : Fin 8))) : Rat) * (((1000000 : Nat)) :
      Rat) / 100000000 < 900 := by
  decide +kernel
def wSpindleStartsAndCrossingsComplete_spindleZeroCrossing : State := wSpn 6 { bridge := .sixStep, missed := 1 }
theorem test_spindleStartsAndCrossingsComplete_spindleZeroCrossing :
    wSpindleStartsAndCrossingsComplete_spindleZeroCrossing.spnState ((3 : Fin 8)) = Spn.run ∧
      (wSpindleStartsAndCrossingsComplete_spindleZeroCrossing.spindle ((3 : Fin 8))).intervals.length < 6 := by
  decide
def wSpindleStartsAndCrossingsComplete_spindleZeroCrossingHandover : State := wSpn 5 { bridge := .sixStep, ramp := 600, consistent := 5, intervals := List.replicate 6 4000000, duty := 1 / 20 }
theorem test_spindleStartsAndCrossingsComplete_spindleZeroCrossingHandover :
    wSpindleStartsAndCrossingsComplete_spindleZeroCrossingHandover.spnState ((3 : Fin 8)) = Spn.ramp ∧
      (wSpindleStartsAndCrossingsComplete_spindleZeroCrossingHandover.spindle ((3 : Fin 8))).missed = 0 ∧ 600 ≤ min 65535 (rpmOf ((10 *
      ((400000 : Nat)) :: (wSpindleStartsAndCrossingsComplete_spindleZeroCrossingHandover.spindle ((3 : Fin 8))).intervals).take 7)) ∧ 5
      ≤ (wSpindleStartsAndCrossingsComplete_spindleZeroCrossingHandover.spindle ((3 : Fin 8))).consistent ∧ ratio 250000000
      (wSpindleStartsAndCrossingsComplete_spindleZeroCrossingHandover.spindle ((3 : Fin 8))).ramp * 40 ≤ 100 * (((200000 : Nat)) : Rat) ∧
      100 * (((200000 : Nat)) : Rat) ≤ ratio 250000000 (wSpindleStartsAndCrossingsComplete_spindleZeroCrossingHandover.spindle ((3 : Fin
      8))).ramp * 60 := by
  decide +kernel
def wSpindleStartsAndCrossingsComplete_spindleZeroCrossingCaught : State := wSpn 7 { intervals := List.replicate 6 277800 }
theorem test_spindleStartsAndCrossingsComplete_spindleZeroCrossingCaught :
    wSpindleStartsAndCrossingsComplete_spindleZeroCrossingCaught.spnState ((3 : Fin 8)) = Spn.catch_ ∧
      (wSpindleStartsAndCrossingsComplete_spindleZeroCrossingCaught.spindle ((3 : Fin 8))).missed = 0 ∧ 5 ≤
      (wSpindleStartsAndCrossingsComplete_spindleZeroCrossingCaught.spindle ((3 : Fin 8))).intervals.length ∧ agree ((10 * ((27780 :
      Nat)) :: (wSpindleStartsAndCrossingsComplete_spindleZeroCrossingCaught.spindle ((3 : Fin 8))).intervals).take 6) = true ∧ 600 ≤ min
      65535 (rpmOf ((10 * ((27780 : Nat)) :: (wSpindleStartsAndCrossingsComplete_spindleZeroCrossingCaught.spindle ((3 : Fin
      8))).intervals).take 7)) := by
  decide +kernel
def wSpindleStartsAndCrossingsComplete_spindleZeroCrossingStopped : State := wSpn 9 { bridge := .short }
theorem test_spindleStartsAndCrossingsComplete_spindleZeroCrossingStopped :
    (wSpindleStartsAndCrossingsComplete_spindleZeroCrossingStopped.spnState ((3 : Fin 8)) = Spn.rappel ∨
      wSpindleStartsAndCrossingsComplete_spindleZeroCrossingStopped.spnState ((3 : Fin 8)) = Spn.short) ∧
      wSpindleStartsAndCrossingsComplete_spindleZeroCrossingStopped.flag (F.SPN_CTRL_RUN ((3 : Fin 8))) = false ∧
      (wSpindleStartsAndCrossingsComplete_spindleZeroCrossingStopped.spindle ((3 : Fin 8))).missed = 0 ∧ min 65535 (rpmOf ((10 *
      ((5000000 : Nat)) :: (wSpindleStartsAndCrossingsComplete_spindleZeroCrossingStopped.spindle ((3 : Fin 8))).intervals).take 7)) < 60 := by
  decide
def wSpindleStartsAndCrossingsComplete_zeroCrossingMissed : State := wSpn 6 { bridge := .sixStep }
theorem test_spindleStartsAndCrossingsComplete_zeroCrossingMissed :
    wSpindleStartsAndCrossingsComplete_zeroCrossingMissed.spnState ((3 : Fin 8)) = Spn.run ∧
      (wSpindleStartsAndCrossingsComplete_zeroCrossingMissed.spindle ((3 : Fin 8))).missed = 0 := by
  decide
def wSpindleStartsAndCrossingsComplete_zeroCrossingMissedSecond : State := wSpn 6 { bridge := .sixStep, missed := 1 }
theorem test_spindleStartsAndCrossingsComplete_zeroCrossingMissedSecond :
    wSpindleStartsAndCrossingsComplete_zeroCrossingMissedSecond.spnState ((3 : Fin 8)) = Spn.run ∧ 1 ≤
      (wSpindleStartsAndCrossingsComplete_zeroCrossingMissedSecond.spindle ((3 : Fin 8))).missed := by
  decide
theorem test_spindleStartsAndCrossingsComplete_catchTimeout :
    ((wSpn 7 {} : State)).spnState ((3 : Fin 8)) = Spn.catch_ := by
  decide
def wSpindleSpeedAndBusCommandsComplete_speedLoopInstant : State := (wSpn 6 { bridge := .sixStep, ref := 8999 }).put (F.SPN_STATE_SPEED 3) 8990
def wSpindleSpeedAndBusCommandsComplete_speedLoopInstant_want : Rat := (256 * (39 / 4 : Rat) + 16 * (39 / 4 : Rat)) / 1048576
theorem test_spindleSpeedAndBusCommandsComplete_speedLoopInstant :
    wSpindleSpeedAndBusCommandsComplete_speedLoopInstant.spnState ((3 : Fin 8)) = Spn.run ∧ ((35999 / 4 : Rat)) = (if
      (wSpindleSpeedAndBusCommandsComplete_speedLoopInstant.spindle ((3 : Fin 8))).ref <
      (wSpindleSpeedAndBusCommandsComplete_speedLoopInstant.fld (F.SPN_TARGET_RPM ((3 : Fin 8))) : Rat) then min
      (wSpindleSpeedAndBusCommandsComplete_speedLoopInstant.fld (F.SPN_TARGET_RPM ((3 : Fin 8))) : Rat)
      ((wSpindleSpeedAndBusCommandsComplete_speedLoopInstant.spindle ((3 : Fin 8))).ref +
      (wSpindleSpeedAndBusCommandsComplete_speedLoopInstant.fld (F.SPN_ACC_ACC ((3 : Fin 8))) : Rat) / 2000) else max
      (wSpindleSpeedAndBusCommandsComplete_speedLoopInstant.fld (F.SPN_TARGET_RPM ((3 : Fin 8))) : Rat)
      ((wSpindleSpeedAndBusCommandsComplete_speedLoopInstant.spindle ((3 : Fin 8))).ref -
      (wSpindleSpeedAndBusCommandsComplete_speedLoopInstant.fld (F.SPN_ACC_DEC ((3 : Fin 8))) : Rat) / 2000)) ∧
      wSpindleSpeedAndBusCommandsComplete_speedLoopInstant_want = ((wSpindleSpeedAndBusCommandsComplete_speedLoopInstant.fld (F.SPN_PI_KP
      ((3 : Fin 8))) : Rat) * (((35999 / 4 : Rat)) - (wSpindleSpeedAndBusCommandsComplete_speedLoopInstant.spnSpeed ((3 : Fin 8)) : Rat))
      + (wSpindleSpeedAndBusCommandsComplete_speedLoopInstant.fld (F.SPN_PI_KI ((3 : Fin 8))) : Rat) *
      ((wSpindleSpeedAndBusCommandsComplete_speedLoopInstant.spindle ((3 : Fin 8))).integ + (((35999 / 4 : Rat)) -
      (wSpindleSpeedAndBusCommandsComplete_speedLoopInstant.spnSpeed ((3 : Fin 8)) : Rat)))) / 1048576 := by
  decide +kernel
theorem test_spindleSpeedAndBusCommandsComplete_speedLoopInstantOther :
    (((State.reset : State)).station ((3 : Fin 8))).disc = none ∧ ((State.reset : State)).spnState ((3 : Fin 8)) ≠ Spn.run ∧
      ((State.reset : State)).spnState ((3 : Fin 8)) ≠ Spn.rappel := by
  decide
def wSpindleSpeedAndBusCommandsComplete_atSpeed : State := wSpn 6 { good := 32 }
theorem test_spindleSpeedAndBusCommandsComplete_atSpeed :
    wSpindleSpeedAndBusCommandsComplete_atSpeed.spnState ((3 : Fin 8)) = Spn.run ∧ 32 ≤
      (wSpindleSpeedAndBusCommandsComplete_atSpeed.spindle ((3 : Fin 8))).good ∧ wSpindleSpeedAndBusCommandsComplete_atSpeed.flag
      (F.SPN_STATE_AT_SPEED ((3 : Fin 8))) = false := by
  decide
def wPower (s : State) (st : Nat) (p : Nat) : State := s.put (F.HPC_SLOT_STATUS_STATE st) p
def wSpindleSpeedAndBusCommandsComplete_busConversion : State := wPower (wSpn 6 {}) 3 4
theorem test_spindleSpeedAndBusCommandsComplete_busConversion :
    wSpindleSpeedAndBusCommandsComplete_busConversion.slotPowered ((3 : Fin 8)) = true ∧
      (wSpindleSpeedAndBusCommandsComplete_busConversion.spindle ((3 : Fin 8))).chop = false ∧ ((2500#12 : BitVec 12)).toNat ≤ 3040 := by
  decide
def wSpindleSpeedAndBusCommandsComplete_busConversionTrip : State := wPower (wSpn 6 {}) 3 4
theorem test_spindleSpeedAndBusCommandsComplete_busConversionTrip :
    wSpindleSpeedAndBusCommandsComplete_busConversionTrip.slotPowered ((3 : Fin 8)) = true ∧ 3360 < ((3400#12 : BitVec 12)).toNat ∧
      wSpindleSpeedAndBusCommandsComplete_busConversionTrip.spnState ((3 : Fin 8)) ≠ Spn.fault := by
  decide
def wSpindleSpeedAndBusCommandsComplete_chopperNoCurrent : State := wSpn 8 { bridge := .regenerative, chop := true }
theorem test_spindleSpeedAndBusCommandsComplete_chopperNoCurrent :
    (wSpindleSpeedAndBusCommandsComplete_chopperNoCurrent.spindle ((3 : Fin 8))).chop = true := by
  decide
def wSpindleSpeedAndBusCommandsComplete_chopFaultClear : State := (wPower (wSpn 9 { busCode := 2500 }) 3 4).put (F.SPN_STATUS_CHOP_FAULT 3) 1
theorem test_spindleSpeedAndBusCommandsComplete_chopFaultClear :
    wSpindleSpeedAndBusCommandsComplete_chopFaultClear.slotPowered ((3 : Fin 8)) = true ∧ 8 *
      wSpindleSpeedAndBusCommandsComplete_chopFaultClear.fld (F.SPN_CHOP_CHOP_ON ((3 : Fin 8))) <
      (wSpindleSpeedAndBusCommandsComplete_chopFaultClear.spindle ((3 : Fin 8))).busCode := by
  decide
def wSpindleSpeedAndBusCommandsComplete_busOvRelease : State := (wSpn 10 { busCode := 2800 }).put F.SPN_BUS_OV_TRIP 8
theorem test_spindleSpeedAndBusCommandsComplete_busOvRelease :
    (setBits 8 (wSpindleSpeedAndBusCommandsComplete_busOvRelease.fld F.SPN_BUS_OV_TRIP)).isEmpty = false ∧ (setBits 8
      (wSpindleSpeedAndBusCommandsComplete_busOvRelease.fld F.SPN_BUS_OV_TRIP)).all (fun i => decide
      ((wSpindleSpeedAndBusCommandsComplete_busOvRelease.spindle i).busCode < 2880)) = true := by
  decide
/-- Pickup 2 of station 1 follows on LY0 of a Format Q8 disc. -/
def wRec : State := { ((State.reset.put (F.SRV_PU_STATE_STATE 2) 5).put (F.SRV_LDD_STATUS_LINK_UP 2) 1).put (F.HPC_SLOT_STATUS_STATE 1) 5 with stations := [(1, { state := 3, mslot := some 4, disc := some {} })] }
def wRecordingCommandsComplete_frontierSearch_begun : List Bool := [false, false, false, false, false, false, false, false, false, false, false, false, false, false, false, false, true, false]
theorem test_recordingCommandsComplete_frontierSearch :
    (wRec.station (((2 : Fin 16)).val / 2)).disc.isSome = true ∧ (wRec.disc (((2 : Fin 16)).val / 2)).s4 = false ∧ wRec.puState ((2 : Fin
      16)) = Pu.follow ∧ wRec.frontier (((2 : Fin 16)).val / 2) (((2 : Fin 16)).val % 2) ((0 : Fin 8)).val = none ∧ wRec.streaming ((2 :
      Fin 16)) = false ∧ searchFirst 32 0 (wRec.disc (((2 : Fin 16)).val / 2)).blocksPerLayer 0
      wRecordingCommandsComplete_frontierSearch_begun = some (((2 : Nat)), ((2 : Nat))) := by
  decide +kernel
/-- A committed block of its disc, prepared. -/
def wBlk : RecBlock := { entry := 5, station := 1, pickup := 2, mslot := 4, side := 0, layer := 0, block := 7, b := 7, stamp := 0, prepared := true }
def wRecB (r : RecBlock) (p : PickupRec) : State := { wRec with recording := { blocks := [r], pus := [(2, p)] } }
def wRecordingCommandsComplete_prePass : State := wRecB wBlk { calPw := [(0, [10, 10, 10, 10])], calTemp := [] }
theorem test_recordingCommandsComplete_prePass :
    ((none : Option (Fin 18))) = none ∧ wRecordingCommandsComplete_prePass.recording.blocks.filter
      wRecordingCommandsComplete_prePass.unrecordable = [] ∧ wRecordingCommandsComplete_prePass.nextBlock ((2 : Fin 16))
      (wRecordingCommandsComplete_prePass.fld (F.SRV_PU_STATE_LAYER ((2 : Fin 16)))) = some wBlk ∧
      wRecordingCommandsComplete_prePass.puState ((2 : Fin 16)) = Pu.follow ∧ (wRecordingCommandsComplete_prePass.puRec ((2 : Fin
      16))).run.active = false ∧ wBlk.prepared = true ∧ wRecordingCommandsComplete_prePass.powerValid ((2 : Fin 16))
      (wRecordingCommandsComplete_prePass.fld (F.SRV_PU_STATE_LAYER ((2 : Fin 16)))) = true ∧ wRecordingCommandsComplete_prePass.flag
      (F.SRV_LDD_STATUS_LINK_UP ((2 : Fin 16))) = true := by
  decide +kernel
def wRecordingCommandsComplete_prePassConflict : State := wRecB wBlk { calPw := [(0, [10, 10, 10, 10])], calTemp := [] }
theorem test_recordingCommandsComplete_prePassConflict :
    ((some 3 : Option (Fin 18))) = some ((3 : Fin 18)) ∧ wRecordingCommandsComplete_prePassConflict.recording.blocks.filter
      wRecordingCommandsComplete_prePassConflict.unrecordable = [] ∧ wRecordingCommandsComplete_prePassConflict.nextBlock ((2 : Fin 16))
      (wRecordingCommandsComplete_prePassConflict.fld (F.SRV_PU_STATE_LAYER ((2 : Fin 16)))) = some wBlk ∧
      wRecordingCommandsComplete_prePassConflict.puState ((2 : Fin 16)) = Pu.follow ∧ (wRecordingCommandsComplete_prePassConflict.puRec
      ((2 : Fin 16))).run.active = false ∧ wBlk.prepared = true ∧ wRecordingCommandsComplete_prePassConflict.powerValid ((2 : Fin 16))
      (wRecordingCommandsComplete_prePassConflict.fld (F.SRV_PU_STATE_LAYER ((2 : Fin 16)))) = true ∧
      wRecordingCommandsComplete_prePassConflict.flag (F.SRV_LDD_STATUS_LINK_UP ((2 : Fin 16))) = true := by
  decide +kernel
def wReadyR (r : RecBlock) (p : PickupRec) : State := { wRecB r { p with banks := [(0, { held := true })] } with regs := (wRec.put (F.REC_PU_STATUS_WCLK_LOCK 2) 1).regs }
def wRecordingCommandsComplete_runStart : State := wReadyR wBlk { run := { prePassed := true, first := 126, last := 7 } }
theorem test_recordingCommandsComplete_runStart :
    wRecordingCommandsComplete_runStart.nextBlock ((2 : Fin 16)) (wRecordingCommandsComplete_runStart.puRec ((2 : Fin 16))).run.layer =
      some wBlk ∧ (wRecordingCommandsComplete_runStart.puRec ((2 : Fin 16))).run.prePassed = true ∧
      (wRecordingCommandsComplete_runStart.puRec ((2 : Fin 16))).run.active = false ∧ wRecordingCommandsComplete_runStart.mayRecord ((2 :
      Fin 16)) = true ∧ wBlk.prepared = true ∧ wBlk.pickup = ((2 : Fin 16)).val ∧ wRecordingCommandsComplete_runStart.unrecordable wBlk =
      false ∧ wBlk.block = (wRecordingCommandsComplete_runStart.puRec ((2 : Fin 16))).run.last := by
  decide +kernel
theorem test_recordingCommandsComplete_wobblePeriod :
    ((State.reset : State)).streaming ((2 : Fin 16)) = false ∧ ((State.reset : State)).fld (F.REC_PU_STATUS_STATE ((2 : Fin 16))) ≠ 3 ∧
      ((3 : Int)).natAbs < 4 ∧ ((3 : Int)).natAbs ≤ ((State.reset : State)).fld F.REC_WCLK_CFG_LOCK_MAX ∧ ((3 : Int)).natAbs ≤
      ((State.reset : State)).fld F.REC_WCLK_CFG_FAULT_MAX := by
  decide
def wRecordingCommandsComplete_wobblePeriodStreaming : State := wReadyR { wBlk with inRun := true } { run := { active := true, first := 126, last := 7, blocks := [7], bits := 512 } }
theorem test_recordingCommandsComplete_wobblePeriodStreaming :
    wRecordingCommandsComplete_wobblePeriodStreaming.streaming ((2 : Fin 16)) = true ∧ ((40 : Int)).natAbs ≤
      wRecordingCommandsComplete_wobblePeriodStreaming.fld F.REC_WCLK_CFG_FAULT_MAX := by
  decide
def wRecordingCommandsComplete_wclkLocked : State := wRecB wBlk { wclkGood := 16 }
theorem test_recordingCommandsComplete_wclkLocked :
    16 ≤ (wRecordingCommandsComplete_wclkLocked.puRec ((2 : Fin 16))).wclkGood := by
  decide
def wRecordingCommandsComplete_recordingResume : State := wReadyR { wBlk with inRun := true, cut := [0, 1] } { run := { active := true, faulted := true, first := 126, last := 7, blocks := [7], bits := 512 } }
theorem test_recordingCommandsComplete_recordingResume :
    (wRecordingCommandsComplete_recordingResume.puRec ((2 : Fin 16))).run.active = true ∧
      (wRecordingCommandsComplete_recordingResume.puRec ((2 : Fin 16))).run.faulted = true ∧
      wRecordingCommandsComplete_recordingResume.mayRecord ((2 : Fin 16)) = true ∧ wRecordingCommandsComplete_recordingResume.firstBlank
      ((2 : Fin 16)) = some ((127 : Nat)) := by
  decide +kernel
def wRecordingCommandsComplete_blockRecorded : State := wReadyR { wBlk with inRun := true, played := List.range 72 } { run := { active := true, first := 126, last := 7, blocks := [7] } }
def wRecordingCommandsComplete_blockRecorded_r : RecBlock := { wBlk with inRun := true, played := List.range 72 }
theorem test_recordingCommandsComplete_blockRecorded :
    (wRecordingCommandsComplete_blockRecorded.runBlocks ((2 : Fin 16))).find? (fun x => x.whole) = some
      wRecordingCommandsComplete_blockRecorded_r := by
  decide +kernel
def wRecordingCommandsComplete_runEnd : State := wReadyR wBlk { run := { active := true, first := 126, last := 7 } }
theorem test_recordingCommandsComplete_runEnd :
    (wRecordingCommandsComplete_runEnd.puRec ((2 : Fin 16))).run.active = true ∧ (wRecordingCommandsComplete_runEnd.puRec ((2 : Fin
      16))).run.blocks = [] := by
  decide
def wRecordingCommandsComplete_verifyPass : State := wRecB wBlk { verifying := true }
theorem test_recordingCommandsComplete_verifyPass :
    wRecordingCommandsComplete_verifyPass.recording.blocks.filter (fun r => r.pickup == ((2 : Fin 16)).val && r.recorded && r.verifyLeft)
      = [] ∧ (wRecordingCommandsComplete_verifyPass.puRec ((2 : Fin 16))).verifying = true := by
  decide
def wRecordingCommandsComplete_verifyPassReading : State := wRecB { wBlk with recorded := true, verifyLeft := true, verEntry := some 5 } { sinceVerify := 3 }
def wRecordingCommandsComplete_verifyPassReading_r : RecBlock := { wBlk with recorded := true, verifyLeft := true, verEntry := some 5 }
theorem test_recordingCommandsComplete_verifyPassReading :
    wRecordingCommandsComplete_verifyPassReading.recording.blocks.filter (fun x => x.pickup == ((2 : Fin 16)).val && x.recorded &&
      x.verifyLeft) = [wRecordingCommandsComplete_verifyPassReading_r] ∧ (wRecordingCommandsComplete_verifyPassReading.puRec ((2 : Fin
      16))).run.active = false ∧ wRecordingCommandsComplete_verifyPassReading_r.verEntry = some ((5 : Nat)) ∧
      (wRecordingCommandsComplete_verifyPassReading.entry ((5 : Nat))).finals 64 < 64 := by
  decide +kernel
/-- A CALIBRATE of station 1's top pickup. -/
def wCal (proc : Nat) (started : Bool) : Cmd := { id := { fn := 0, ring := 2, op := 0x13, cid := 9, body := [1, 1, proc] }, phase := .admitted, started := started, queue := some 1, station := 1 }
def wCalS (proc : Nat) (started : Bool) : State := { wRec with rings := { cmds := [(1, some (wCal proc started))], nextHandle := 2 }, calib := { runs := if started then [(2, { proc := proc, cmd := some 1 })] else [] } }
theorem test_calibrationCommandsComplete_calibrateAdcTrim :
    ((wCalS 1 false : State)).cmd? ((1 : Nat)) = some ((wCal 1 false : Cmd)) ∧ ((wCal 1 false : Cmd)).op = Op.calibrate ∧ ((wCal 1 false
      : Cmd)).phase = .admitted ∧ ((wCal 1 false : Cmd)).id.calProc = 1 ∧ ((wCal 1 false : Cmd)).started = false ∧ ((wCalS 1 false :
      State)).calRefusal ((wCal 1 false : Cmd)) = none := by
  decide
def wCalibrationCommandsComplete_calibrateAdcTrimEnds_trims : List (List BeamTrim) := [[⟨20, true, 15, true, 60, true, 110⟩, ⟨20, true, 15, true, 60, true, 110⟩, ⟨20, true, 15, true, 60, true, 110⟩, ⟨0, true, 15, true, 60, true, 90⟩]]
theorem test_calibrationCommandsComplete_calibrateAdcTrimEnds :
    ((wCalS 1 true : State)).cmd? ((1 : Nat)) = some ((wCal 1 true : Cmd)) ∧ ((wCal 1 true : Cmd)).op = Op.calibrate ∧ ((wCal 1 true :
      Cmd)).phase = .admitted ∧ ((wCal 1 true : Cmd)).id.calProc = 1 ∧ ((wCal 1 true : Cmd)).started = true ∧ ((wCal 1 true : Cmd)).mute
      = false ∧ ((wCal 1 true : Cmd)).data.src = [] ∧ ((wCalS 1 true : State)).calReady ((wCal 1 true : Cmd)) = true ∧ ((wCal 1 true :
      Cmd)).calPickups.length ≤ wCalibrationCommandsComplete_calibrateAdcTrimEnds_trims.length := by
  decide
def wCalF (proc : Nat) : State := { wCalS proc true with regs := (wRec.put (F.SPN_STATE_AT_SPEED 1) 1).regs }
def wCalibrationCommandsComplete_calibrateEspresso_runs : List EspressoRun := [⟨[1, 2, 3, 2, 1], [1, 2, 1], [100, 100, 100, 100], [50, 50, 50, 50]⟩]
theorem test_calibrationCommandsComplete_calibrateEspresso :
    ((wCalF 2 : State)).cmd? ((1 : Nat)) = some ((wCal 2 true : Cmd)) ∧ ((wCal 2 true : Cmd)).op = Op.calibrate ∧ ((wCal 2 true :
      Cmd)).phase = .admitted ∧ ((wCal 2 true : Cmd)).id.calProc = 2 ∧ ((wCal 2 true : Cmd)).started = true ∧ ((wCal 2 true : Cmd)).mute
      = false ∧ ((wCal 2 true : Cmd)).data.src = [] ∧ ((wCalF 2 : State)).calReady ((wCal 2 true : Cmd)) = true ∧ ((wCal 2 true :
      Cmd)).calPickups.length ≤ wCalibrationCommandsComplete_calibrateEspresso_runs.length := by
  decide
def wCalibrationCommandsComplete_calibratePower : State := { wCalS 3 false with regs := (wRec.put (F.SPN_STATE_STATE 1) 6).regs, pickups := [(2, { startReq := true })] }
theorem test_calibrationCommandsComplete_calibratePower :
    wCalibrationCommandsComplete_calibratePower.cmd? ((1 : Nat)) = some ((wCal 3 false : Cmd)) ∧ ((wCal 3 false : Cmd)).op = Op.calibrate
      ∧ ((wCal 3 false : Cmd)).phase = .admitted ∧ ((wCal 3 false : Cmd)).id.calProc = 3 ∧ ((wCal 3 false : Cmd)).started = false ∧
      wCalibrationCommandsComplete_calibratePower.calRefusal ((wCal 3 false : Cmd)) = none ∧ (∀ n ∈ ((wCal 3 false : Cmd)).calPickups,
      (wCalibrationCommandsComplete_calibratePower.pickup n).startReq = true) ∧ wCalibrationCommandsComplete_calibratePower.spnState
      ((wCal 3 false : Cmd)).station ≠ Spn.off := by
  decide
def wLevels : List (Rat × Rat) := (List.range 19).map (fun (x : Nat) => (1 + ((x : Rat) - 9) / 10, -1 + ((x : Rat) - 9) / 10))
def wCalibrationCommandsComplete_calibratePowerEnds : State := { wCalF 3 with stations := [(1, { state := 3, mslot := some 4, disc := some { recPower := [80, 80] } })], recording := { pus := [(2, { pcaNext := [(0, 6)] })] } }
def wCalibrationCommandsComplete_calibratePowerEnds_run : PowerRun := ⟨[], [wLevels, wLevels, wLevels, wLevels], [10, 20, 30, 40]⟩
def wCalibrationCommandsComplete_calibratePowerEnds_runs : List PowerRun := [⟨[], [wLevels, wLevels, wLevels, wLevels], [10, 20, 30, 40]⟩]
theorem test_calibrationCommandsComplete_calibratePowerEnds :
    wCalibrationCommandsComplete_calibratePowerEnds.cmd? ((1 : Nat)) = some ((wCal 3 true : Cmd)) ∧ ((wCal 3 true : Cmd)).op =
      Op.calibrate ∧ ((wCal 3 true : Cmd)).phase = .admitted ∧ ((wCal 3 true : Cmd)).id.calProc = 3 ∧ ((wCal 3 true : Cmd)).started =
      true ∧ ((wCal 3 true : Cmd)).mute = false ∧ ((wCal 3 true : Cmd)).data.src = [] ∧ ((wCal 3 true : Cmd)).data.verdict = [] ∧
      wCalibrationCommandsComplete_calibratePowerEnds.calReady ((wCal 3 true : Cmd)) = true ∧ ((wCal 3 true : Cmd)).calPickups = [((2 :
      Nat))] ∧ wCalibrationCommandsComplete_calibratePowerEnds.flag (F.SRV_LDD_STATUS_LINK_UP ((2 : Nat))) = true ∧
      wCalibrationCommandsComplete_calibratePowerEnds_runs = [wCalibrationCommandsComplete_calibratePowerEnds_run] ∧
      wCalibrationCommandsComplete_calibratePowerEnds.pcaRevolution ((2 : Nat)) ((wCal 3 true : Cmd)).id.calLayer
      wCalibrationCommandsComplete_calibratePowerEnds_run.used = some ((5 : Nat)) ∧ ((5 : Nat)) < 999 ∧ (List.range 4).all (fun k =>
      (betaPower ((wCalibrationCommandsComplete_calibratePowerEnds.sfld F.REC_OPC_CFG_BETA_TARGET : Rat) / 256)
      ((wCalibrationCommandsComplete_calibratePowerEnds.disc (((2 : Nat)) / 2)).recPower.getD ((wCal 3 true : Cmd)).id.calLayer 0)
      (wCalibrationCommandsComplete_calibratePowerEnds_run.levels.getD k [])).isSome) = true := by
  decide +kernel
def wCalibrationCommandsComplete_calibrateFull_runs : List FullRun := [⟨[], [], [], [], (0, 0), [], (0, 0), (0, 0), []⟩]
theorem test_calibrationCommandsComplete_calibrateFull :
    ((wCalF 4 : State)).cmd? ((1 : Nat)) = some ((wCal 4 true : Cmd)) ∧ ((wCal 4 true : Cmd)).op = Op.calibrate ∧ ((wCal 4 true :
      Cmd)).phase = .admitted ∧ ((wCal 4 true : Cmd)).id.calProc = 4 ∧ ((wCal 4 true : Cmd)).started = true ∧ ((wCal 4 true : Cmd)).mute
      = false ∧ ((wCal 4 true : Cmd)).data.src = [] ∧ ((wCalF 4 : State)).calReady ((wCal 4 true : Cmd)) = true ∧ ((wCal 4 true :
      Cmd)).calPickups.length ≤ wCalibrationCommandsComplete_calibrateFull_runs.length := by
  decide
def wCalibrationCommandsComplete_powerCalibration : State := { wRec with stations := [(1, { state := 3, mslot := some 4, disc := some { recPower := [80, 80] } })], recording := { blocks := [wBlk], pus := [(2, { pcaNext := [(0, 6)] })] } }
def wCalibrationCommandsComplete_powerCalibration_run : PowerRun := ⟨[], [wLevels, wLevels, wLevels, wLevels], [10, 20, 30, 40]⟩
theorem test_calibrationCommandsComplete_powerCalibration :
    (wCalibrationCommandsComplete_powerCalibration.station (((2 : Fin 16)).val / 2)).disc.isSome = true ∧
      wCalibrationCommandsComplete_powerCalibration.puState ((2 : Fin 16)) = Pu.follow ∧
      wCalibrationCommandsComplete_powerCalibration.streaming ((2 : Fin 16)) = false ∧ wCalibrationCommandsComplete_powerCalibration.flag
      (F.SRV_LDD_STATUS_LINK_UP ((2 : Fin 16))) = true ∧ wCalibrationCommandsComplete_powerCalibration.recording.blocks.any (fun r =>
      r.pickup == ((2 : Fin 16)).val && r.layer == ((0 : Fin 8)).val && !r.recorded) = true ∧
      wCalibrationCommandsComplete_powerCalibration.powerValid ((2 : Fin 16)) ((0 : Fin 8)).val = false ∧
      (wCalibrationCommandsComplete_powerCalibration.puRec ((2 : Fin 16))).calFailed.contains ((0 : Fin 8)).val = false ∧
      wCalibrationCommandsComplete_powerCalibration.calRun ((2 : Fin 16)) = {} ∧
      wCalibrationCommandsComplete_powerCalibration.pcaRevolution ((2 : Fin 16)) ((0 : Fin 8))
      wCalibrationCommandsComplete_powerCalibration_run.used = some ((5 : Nat)) ∧ ((5 : Nat)) < 999 ∧ (List.range 4).all (fun k =>
      (betaPower ((wCalibrationCommandsComplete_powerCalibration.sfld F.REC_OPC_CFG_BETA_TARGET : Rat) / 256)
      ((wCalibrationCommandsComplete_powerCalibration.disc (((2 : Fin 16)).val / 2)).recPower.getD ((0 : Fin 8)) 0)
      (wCalibrationCommandsComplete_powerCalibration_run.levels.getD k [])).isSome) = true := by
  decide +kernel
def wCalibrationCommandsComplete_espressoAuto : State := { wRec with regs := (wRec.put F.CAL_CFG_ESPRESSO_AUTO 1).regs }
theorem test_calibrationCommandsComplete_espressoAuto :
    ((none : Option EspressoRun)) = none ∧ (wCalibrationCommandsComplete_espressoAuto.station (((2 : Fin 16)).val / 2)).disc.isSome =
      true ∧ wCalibrationCommandsComplete_espressoAuto.puState ((2 : Fin 16)) = Pu.follow ∧
      (wCalibrationCommandsComplete_espressoAuto.calRun ((2 : Fin 16))).proc = 0 ∧ wCalibrationCommandsComplete_espressoAuto.streaming
      ((2 : Fin 16)) = false ∧ wCalibrationCommandsComplete_espressoAuto.flag F.CAL_CFG_ESPRESSO_AUTO = true ∧
      wCalibrationCommandsComplete_espressoAuto.uncalibrated ((2 : Fin 16)) = true := by
  decide
def wCalibrationCommandsComplete_espressoAutoEnds : State := { wRec with calib := { runs := [(2, { proc := 2 })] } }
def wCalibrationCommandsComplete_espressoAutoEnds_run : Option EspressoRun := some ⟨[1, 2, 3, 2, 1], [1, 2, 1], [100, 100, 100, 100], [50, 50, 50, 50]⟩
def wCalibrationCommandsComplete_espressoAutoEnds_x : EspressoRun := ⟨[1, 2, 3, 2, 1], [1, 2, 1], [100, 100, 100, 100], [50, 50, 50, 50]⟩
theorem test_calibrationCommandsComplete_espressoAutoEnds :
    wCalibrationCommandsComplete_espressoAutoEnds_run = some wCalibrationCommandsComplete_espressoAutoEnds_x ∧
      (wCalibrationCommandsComplete_espressoAutoEnds.station (((2 : Fin 16)).val / 2)).disc.isSome = true ∧
      wCalibrationCommandsComplete_espressoAutoEnds.puState ((2 : Fin 16)) = Pu.follow ∧
      wCalibrationCommandsComplete_espressoAutoEnds.calRun ((2 : Fin 16)) =
      { proc := 2, layer := wCalibrationCommandsComplete_espressoAutoEnds.fld (F.SRV_PU_STATE_LAYER ((2 : Fin 16))) } := by
  decide
/-- A LOAD of slot 4 into station 1. -/
def wLoad (formatL started : Bool) : Cmd := { id := { fn := 0, ring := 2, op := if formatL then 0x111 else 0x10, formatL := formatL, cid := 9, mslot := 4, body := [1] }, phase := .admitted, started := started, queue := some 1, station := 1 }
def wLoadS (formatL started : Bool) (x : Station) : State := { State.reset with stations := [(1, x)], rings := { cmds := [(1, some (wLoad formatL started))], nextHandle := 2 }, spindles := [(1, { busCode := 1920 })] }
def wLoadAndUnloadCommandsComplete_loadHeld : State := wLoadS false false { state := 3, mslot := some 4, disc := some {} }
theorem test_loadAndUnloadCommandsComplete_loadHeld :
    wLoadAndUnloadCommandsComplete_loadHeld.cmd? ((1 : Nat)) = some ((wLoad false false : Cmd)) ∧ ((wLoad false false : Cmd)).op =
      Op.load ∧ ((wLoad false false : Cmd)).id.formatL = false ∧ ((wLoad false false : Cmd)).phase = .admitted ∧ ((wLoad false false :
      Cmd)).started = false ∧ (wLoadAndUnloadCommandsComplete_loadHeld.station ((wLoad false false : Cmd)).station).disc.isSome = true ∧
      (wLoadAndUnloadCommandsComplete_loadHeld.station ((wLoad false false : Cmd)).station).mslot = some ((wLoad false false :
      Cmd)).id.mslot ∧ ((wLoad false false : Cmd)).mute = false := by
  decide
def wLoadAndUnloadCommandsComplete_load : State := wLoadS false false {}
theorem test_loadAndUnloadCommandsComplete_load :
    wLoadAndUnloadCommandsComplete_load.cmd? ((1 : Nat)) = some ((wLoad false false : Cmd)) ∧ ((wLoad false false : Cmd)).op = Op.load ∧
      ((wLoad false false : Cmd)).id.formatL = false ∧ ((wLoad false false : Cmd)).phase = .admitted ∧ ((wLoad false false :
      Cmd)).started = false ∧ (wLoadAndUnloadCommandsComplete_load.station ((wLoad false false : Cmd)).station).mslot = none ∧
      wLoadAndUnloadCommandsComplete_load.puState (2 * ((wLoad false false : Cmd)).station) ≠ Pu.fault ∧
      wLoadAndUnloadCommandsComplete_load.puState (2 * ((wLoad false false : Cmd)).station + 1) ≠ Pu.fault ∧
      wLoadAndUnloadCommandsComplete_load.spnState ((wLoad false false : Cmd)).station = Spn.off ∧
      wLoadAndUnloadCommandsComplete_load.flag (F.SPN_STATUS_CHOP_FAULT ((wLoad false false : Cmd)).station) = false ∧ 1600 ≤
      (wLoadAndUnloadCommandsComplete_load.spindle ((wLoad false false : Cmd)).station).busCode := by
  decide
/-- The 4,096 bytes of a table, and the payload of its first copy on side A. -/
def wTableUser : List Nat := tableBytes (List.replicate 4092 0)
def wTablePayload : List Nat := sectorMeta 67092480 0 0 0 0 0 [] wTableUser ++ wTableUser
def wTableCopy : TableCopy := ⟨0, 0, 0, wTablePayload.map (BitVec.ofNat 8)⟩
theorem wTableUser_length : wTableUser.length = 4096 := by
  rw [wTableUser, tableBytes, List.length_append, List.length_replicate, leBytes_length]
theorem wTablePayload_toNat : wTableCopy.payload.map BitVec.toNat = wTablePayload := by
  have h : ∀ x ∈ wTablePayload, x < 256 := by
    intro x hx
    rcases List.mem_append.mp hx with h | h
    · exact sectorMeta_lt _ _ _ _ _ _ [] _ (by simp) x h
    · rcases List.mem_append.mp h with h | h
      · rw [List.eq_of_mem_replicate h]; decide
      · exact leBytes_lt _ _ x h
  show (wTablePayload.map (BitVec.ofNat 8)).map BitVec.toNat = _
  rw [List.map_map]
  exact (List.map_congr_left fun x hx => Nat.mod_eq_of_lt (h x hx)).trans (List.map_id' _)
theorem wTableCopy_ok : copyOk wTableCopy.side wTableCopy.spiral wTableCopy.index (wTableCopy.payload.map BitVec.toNat) = true := by
  have hu : payloadUser wTablePayload = wTableUser := payloadUser_append _ _ (sectorMeta_length ..) wTableUser_length
  have hs : (wTableUser.take 4 == [0x52, 0x53, 0x34, 0x46]) = false := by
    rw [show wTableUser.take 4 = [0, 0, 0, 0] by
      unfold wTableUser tableBytes
      rw [List.take_append_of_le_length (by rw [List.length_replicate]; decide), List.take_replicate]; rfl]
    decide
  unfold copyOk
  rw [wTablePayload_toNat, hu]
  dsimp only
  rw [hs]
  have h1 : sectorChecks (infoPsa wTableCopy.side wTableCopy.spiral wTableCopy.index false) wTablePayload = true :=
    sectorChecks_sectorMeta _ _ _ _ _ _ _ _ wTableUser_length (by decide)
  have h2 : tableCrcOk wTableUser = true := tableCrcOk_tableBytes _ List.length_replicate
  have h3 : wTablePayload.length = 4160 := by
    rw [wTablePayload, List.length_append, sectorMeta_length, wTableUser_length]
  simp only [h1, h2, h3]
  decide
def wLoadAndUnloadCommandsComplete_loadCopy : State := { wLoadS false true {} with regs := ((State.reset.put (F.SRV_PU_STATE_STATE 2) 5).put (F.SRV_PU_STATE_LAYER 2) 0).regs }
theorem test_loadAndUnloadCommandsComplete_loadCopy :
    wLoadAndUnloadCommandsComplete_loadCopy.cmd? ((1 : Nat)) = some ((wLoad false true : Cmd)) ∧ ((wLoad false true : Cmd)).op = Op.load
      ∧ ((wLoad false true : Cmd)).id.formatL = false ∧ ((some wTableCopy : Option TableCopy)) = some wTableCopy ∧
      wLoadAndUnloadCommandsComplete_loadCopy.searching ((1 : Nat)) = true ∧ wLoadAndUnloadCommandsComplete_loadCopy.readsInfo ((wLoad
      false true : Cmd)).station wTableCopy.side = true ∧ (wLoadAndUnloadCommandsComplete_loadCopy.station ((wLoad false true :
      Cmd)).station).tables = [] ∧ (wLoadAndUnloadCommandsComplete_loadCopy.station ((wLoad false true : Cmd)).station).noTable = [] ∧
      copyOk wTableCopy.side wTableCopy.spiral wTableCopy.index (wTableCopy.payload.map BitVec.toNat) = true := by

  exact ⟨by decide, by decide, by decide, rfl, by decide, by decide, by decide, by decide, wTableCopy_ok⟩
def wLoadAndUnloadCommandsComplete_loadCalibrated : State := { (wLoadS false true { state := 2, mslot := some 4, disc := some {} }) with regs := (((State.reset.put (F.SRV_PU_STATE_STATE 2) 5).put (F.SRV_PU_STATE_STATE 3) 5).put (F.SPN_STATE_AT_SPEED 1) 1).regs, calib := { runs := [(2, { proc := 4, cmd := some 1 }), (3, { proc := 4, cmd := some 1 })] } }
def wLoadAndUnloadCommandsComplete_loadCalibrated_runs : List FullRun := [⟨[], [], [], [], (0, 0), [], (0, 0), (0, 0), []⟩, ⟨[], [], [], [], (0, 0), [], (0, 0), (0, 0), []⟩]
theorem test_loadAndUnloadCommandsComplete_loadCalibrated :
    wLoadAndUnloadCommandsComplete_loadCalibrated.cmd? ((1 : Nat)) = some ((wLoad false true : Cmd)) ∧ ((wLoad false true : Cmd)).op =
      Op.load ∧ ((wLoad false true : Cmd)).id.formatL = false ∧ ((wLoad false true : Cmd)).started = true ∧ ((wLoad false true :
      Cmd)).phase = .admitted ∧ ((wLoad false true : Cmd)).mute = false ∧ ((none : Option TableCopy)) = none ∧ 2 ≤
      wLoadAndUnloadCommandsComplete_loadCalibrated_runs.length ∧ [2 * ((wLoad false true : Cmd)).station, 2 * ((wLoad false true :
      Cmd)).station + 1].all (fun n => (wLoadAndUnloadCommandsComplete_loadCalibrated.calRun n).proc == 4 &&
      (wLoadAndUnloadCommandsComplete_loadCalibrated.calRun n).cmd == some ((1 : Nat)) &&
      wLoadAndUnloadCommandsComplete_loadCalibrated.puState n == Pu.follow) = true ∧ wLoadAndUnloadCommandsComplete_loadCalibrated.flag
      (F.SPN_STATE_AT_SPEED ((wLoad false true : Cmd)).station) = true := by
  decide
def wLoadAndUnloadCommandsComplete_lLoadHeld : State := wLoadS true false { state := 3, mslot := some 4, disc := some {} }
theorem test_loadAndUnloadCommandsComplete_lLoadHeld :
    wLoadAndUnloadCommandsComplete_lLoadHeld.cmd? ((1 : Nat)) = some ((wLoad true false : Cmd)) ∧ ((wLoad true false : Cmd)).op = Op.load
      ∧ ((wLoad true false : Cmd)).id.formatL = true ∧ ((wLoad true false : Cmd)).phase = .admitted ∧ ((wLoad true false : Cmd)).started
      = false ∧ (wLoadAndUnloadCommandsComplete_lLoadHeld.station ((wLoad true false : Cmd)).station).disc.isSome = true ∧
      (wLoadAndUnloadCommandsComplete_lLoadHeld.station ((wLoad true false : Cmd)).station).mslot = some ((wLoad true false :
      Cmd)).id.mslot ∧ ((wLoad true false : Cmd)).mute = false := by
  decide
def wLoadAndUnloadCommandsComplete_lLoad : State := wLoadS true false {}
theorem test_loadAndUnloadCommandsComplete_lLoad :
    wLoadAndUnloadCommandsComplete_lLoad.cmd? ((1 : Nat)) = some ((wLoad true false : Cmd)) ∧ ((wLoad true false : Cmd)).op = Op.load ∧
      ((wLoad true false : Cmd)).id.formatL = true ∧ ((wLoad true false : Cmd)).phase = .admitted ∧ ((wLoad true false : Cmd)).started =
      false ∧ (wLoadAndUnloadCommandsComplete_lLoad.station ((wLoad true false : Cmd)).station).mslot = none ∧
      wLoadAndUnloadCommandsComplete_lLoad.puState (2 * ((wLoad true false : Cmd)).station) ≠ Pu.fault ∧
      wLoadAndUnloadCommandsComplete_lLoad.puState (2 * ((wLoad true false : Cmd)).station + 1) ≠ Pu.fault ∧
      wLoadAndUnloadCommandsComplete_lLoad.spnState ((wLoad true false : Cmd)).station = Spn.off ∧
      wLoadAndUnloadCommandsComplete_lLoad.flag (F.SPN_STATUS_CHOP_FAULT ((wLoad true false : Cmd)).station) = false ∧ 1600 ≤
      (wLoadAndUnloadCommandsComplete_lLoad.spindle ((wLoad true false : Cmd)).station).busCode := by
  decide
def wLoadAndUnloadCommandsComplete_infoZoneSearchTimeout : State := { wLoadS false true { state := 2, mslot := some 4 } with regs := (State.reset.put (F.SRV_PU_STATE_STATE 2) 5).regs }
theorem test_loadAndUnloadCommandsComplete_infoZoneSearchTimeout :
    wLoadAndUnloadCommandsComplete_infoZoneSearchTimeout.loadOf ((1 : Fin 8)) = some ((1 : Nat)) ∧
      wLoadAndUnloadCommandsComplete_infoZoneSearchTimeout.searching ((1 : Nat)) = true ∧
      (wLoadAndUnloadCommandsComplete_infoZoneSearchTimeout.cmd ((1 : Nat))).station = ((1 : Fin 8)).val ∧
      wLoadAndUnloadCommandsComplete_infoZoneSearchTimeout.readsInfo ((1 : Fin 8)) ((0 : Fin 2)) = true ∧
      (wLoadAndUnloadCommandsComplete_infoZoneSearchTimeout.station ((1 : Fin 8))).tables = [] ∧
      (wLoadAndUnloadCommandsComplete_infoZoneSearchTimeout.station ((1 : Fin 8))).noTable = [] := by
  decide
def wLoadAndUnloadCommandsComplete_infoZoneSearchTimeoutBoth : State := { wLoadS false true { state := 2, mslot := some 4, noTable := [1] } with regs := (State.reset.put (F.SRV_PU_STATE_STATE 2) 5).regs }
theorem test_loadAndUnloadCommandsComplete_infoZoneSearchTimeoutBoth :
    wLoadAndUnloadCommandsComplete_infoZoneSearchTimeoutBoth.loadOf ((1 : Fin 8)) = some ((1 : Nat)) ∧
      wLoadAndUnloadCommandsComplete_infoZoneSearchTimeoutBoth.searching ((1 : Nat)) = true ∧
      (wLoadAndUnloadCommandsComplete_infoZoneSearchTimeoutBoth.cmd ((1 : Nat))).station = ((1 : Fin 8)).val ∧
      (wLoadAndUnloadCommandsComplete_infoZoneSearchTimeoutBoth.cmd ((1 : Nat))).mute = false ∧
      wLoadAndUnloadCommandsComplete_infoZoneSearchTimeoutBoth.readsInfo ((1 : Fin 8)) ((0 : Fin 2)) = true ∧
      (wLoadAndUnloadCommandsComplete_infoZoneSearchTimeoutBoth.station ((1 : Fin 8))).tables = [] ∧
      (wLoadAndUnloadCommandsComplete_infoZoneSearchTimeoutBoth.station ((1 : Fin 8))).noTable = [1 - ((0 : Fin 2)).val] := by
  decide
/-- An UNLOAD of station 1. -/
def wUnl (formatL started : Bool) : Cmd := { id := { fn := 0, ring := 2, op := if formatL then 0x112 else 0x11, formatL := formatL, cid := 9, mslot := 4, body := [1] }, phase := .admitted, started := started, queue := some 1, station := 1 }
def wUnlS (formatL started : Bool) (x : Station) : State := { State.reset with stations := [(1, x)], rings := { cmds := [(1, some (wUnl formatL started))], nextHandle := 2 } }
def wLoadAndUnloadCommandsComplete_unload : State := wUnlS false true { state := 4, mslot := some 4 }
theorem test_loadAndUnloadCommandsComplete_unload :
    wLoadAndUnloadCommandsComplete_unload.cmd? ((1 : Nat)) = some ((wUnl false true : Cmd)) ∧ ((wUnl false true : Cmd)).op = Op.unload ∧
      ((wUnl false true : Cmd)).id.formatL = false ∧ ((wUnl false true : Cmd)).phase = .admitted ∧ ((wUnl false true : Cmd)).mute = false
      ∧ ((wUnl false true : Cmd)).started = true ∧ (wLoadAndUnloadCommandsComplete_unload.station ((wUnl false true : Cmd)).station).disc
      = none ∧ wLoadAndUnloadCommandsComplete_unload.atRest ((wUnl false true : Cmd)).station = true := by
  decide
def wLoadAndUnloadCommandsComplete_unloadClean : State := { wUnlS false true { state := 4, mslot := some 4, disc := some {} } with cache := { entries := [(5, { st := .valid, cls := 0, tagged := true, mslot := 4, station := 1 })] } }
theorem test_loadAndUnloadCommandsComplete_unloadClean :
    wLoadAndUnloadCommandsComplete_unloadClean.cmd? ((1 : Nat)) = some ((wUnl false true : Cmd)) ∧ ((wUnl false true : Cmd)).op =
      Op.unload ∧ ((wUnl false true : Cmd)).id.formatL = false ∧ ((wUnl false true : Cmd)).phase = .admitted ∧ ((wUnl false true :
      Cmd)).started = true ∧ (wLoadAndUnloadCommandsComplete_unloadClean.station ((wUnl false true : Cmd)).station).disc.isSome = true ∧
      (wLoadAndUnloadCommandsComplete_unloadClean.station ((wUnl false true : Cmd)).station).mslot = some ((4 : Nat)) ∧
      wLoadAndUnloadCommandsComplete_unloadClean.discDirty ((wUnl false true : Cmd)).station ((4 : Nat)) = false := by
  decide
def wLoadAndUnloadCommandsComplete_lUnload : State := wUnlS true true { state := 4, mslot := some 4 }
theorem test_loadAndUnloadCommandsComplete_lUnload :
    wLoadAndUnloadCommandsComplete_lUnload.cmd? ((1 : Nat)) = some ((wUnl true true : Cmd)) ∧ ((wUnl true true : Cmd)).op = Op.unload ∧
      ((wUnl true true : Cmd)).id.formatL = true ∧ ((wUnl true true : Cmd)).phase = .admitted ∧ ((wUnl true true : Cmd)).mute = false ∧
      ((wUnl true true : Cmd)).started = true ∧ (wLoadAndUnloadCommandsComplete_lUnload.station ((wUnl true true : Cmd)).station).disc =
      none ∧ wLoadAndUnloadCommandsComplete_lUnload.atRest ((wUnl true true : Cmd)).station = true := by
  decide
theorem test_onChipMemoryCommandsComplete_scrubVisitSkips :
    ((State.reset : State)).flag F.MEM_CTRL_SCRUB_EN = true ∧ ((0 : Nat)) = Table.at 0 ((State.reset : State)).mem.rows ((5 : Fin 128)) ∧
      ((0 : Nat)) < 32767 ∧ ((((State.reset : State)).fld F.MEM_SCRUB_CFG_REGIONS).testBit (regionOf (16 * wordAt ((5 : Fin 128)) ((0 :
      Nat)))) = false ∨ pageBit ((State.reset : State)).mem.valid (wordAt ((5 : Fin 128)) ((0 : Nat))) = false) ∧ ((State.reset :
      State)).mem.passed.length < 128 := by
  decide
def wOnChipMemoryCommandsComplete_scrubVisitCorrects : State := { State.reset with mem := { valid := [(0, 2 ^ 256 - 1)] } }
theorem test_onChipMemoryCommandsComplete_scrubVisitCorrects :
    wOnChipMemoryCommandsComplete_scrubVisitCorrects.flag F.MEM_CTRL_SCRUB_EN = true ∧ ((0 : Nat)) = Table.at 0
      wOnChipMemoryCommandsComplete_scrubVisitCorrects.mem.rows ((5 : Fin 128)) ∧ ((0 : Nat)) < 32767 ∧ ((5 : Nat)) = wordAt ((5 : Fin
      128)) ((0 : Nat)) ∧ (wOnChipMemoryCommandsComplete_scrubVisitCorrects.fld F.MEM_SCRUB_CFG_REGIONS).testBit (regionOf (16 * ((5 :
      Nat)))) = true ∧ pageBit wOnChipMemoryCommandsComplete_scrubVisitCorrects.mem.valid ((5 : Nat)) = true ∧ pageBit
      wOnChipMemoryCommandsComplete_scrubVisitCorrects.mem.poison ((5 : Nat)) = false ∧ popCount 137 (((([7] : List (Fin 137))).map (fun
      b => b.val)).eraseDups.foldl (fun a b => a ^^^ 2 ^ b) (Table.at 0 wOnChipMemoryCommandsComplete_scrubVisitCorrects.mem.flips ((5 :
      Nat)))) = 1 ∧ wOnChipMemoryCommandsComplete_scrubVisitCorrects.mem.inject = none ∧
      wOnChipMemoryCommandsComplete_scrubVisitCorrects.fld F.MEM_ERR_COUNT_CE < 65535 ∧
      wOnChipMemoryCommandsComplete_scrubVisitCorrects.mem.passed.length < 128 := by
  decide +kernel
theorem test_onChipMemoryCommandsComplete_scrubLapSlow :
    ((State.reset : State)).flag F.MEM_CTRL_SCRUB_EN = true := by
  decide
/-- A controller below the root, booted, with its ID 5; port MU in a phase, the packets in hand. -/
def wTree (p : Port) (inbox : List InPacket) : State := { ((((State.reset.put (F.MBL_PORT_CTRL_EN 0) 1).put F.MBL_ID_DEVICE_ID 5).put (F.MBL_PORT_STATUS_UP 0) (if p.phase = .up then 1 else 0))) with root := false, fw := { booted := true }, mbl := { ports := [(0, p)], inbox := inbox } }
/-- The root with port MD0 up to a subtree of IDs 1 to 9. -/
def wRoot (p : Port) (inbox : List InPacket) : State := { (((((State.reset.put (F.MBL_PORT_CTRL_EN 1) 1).put (F.HPC_SLOT_STATUS_STATE 8) 5).put (F.MBL_PORT_STATUS_UP 1) (if p.phase = .up then 1 else 0)).put (F.MBL_PORT_RANGE_LO_LO 1) 1).put (F.MBL_PORT_RANGE_HI_HI 1) 9) with root := true, fw := { booted := true }, mbl := { ports := [(1, p)], inbox := inbox } }
/-- A packet of a type for the receiver, and a MGMT packet of an opcode. -/
def wPkt (type dest tag : Nat) (payload : List Nat) : Packet := ⟨type, 0, dest, 1, tag, 0, payload⟩
def wMgmt (op dest : Nat) (body : List Nat) : Packet := wPkt 7 dest 0 (leBytes 2 op ++ [0, 0] ++ body)
theorem test_linksAndEnumerationCommandsComplete_portTrainingStart :
    ((wTree {} [] : State)).portMayTrain ((0 : Fin 5)) = true ∧ (((wTree {} [] : State)).port ((0 : Fin 5))).phase = .idle := by
  decide
def wLinksAndEnumerationCommandsComplete_portUp : State := wRoot { phase := .training, replay := [(7, [1, 2])] } []
theorem test_linksAndEnumerationCommandsComplete_portUp :
    (wLinksAndEnumerationCommandsComplete_portUp.port ((1 : Fin 5))).phase = .training ∧ 1 ≤ ((2 : Nat)) ∧ ((2 : Nat)) ≤ 2 ∧ (((4 : Nat))
      = 1 ∨ ((4 : Nat)) = 2 ∨ ((4 : Nat)) = 4) ∧ ((false : Bool)) = false ∧ (((1 : Fin 5)) = 0 ∨ ((false : Bool)) = true ∨
      (wLinksAndEnumerationCommandsComplete_portUp.fld F.MBL_PROTO_LEVEL ≤ ((2 : Fin 16)).val + 1 ∧ ((2 : Fin 16)).val ≤
      wLinksAndEnumerationCommandsComplete_portUp.fld F.MBL_PROTO_LEVEL + 1)) := by
  decide
def wLinksAndEnumerationCommandsComplete_portUpClash : State := wRoot { phase := .training } []
theorem test_linksAndEnumerationCommandsComplete_portUpClash :
    (wLinksAndEnumerationCommandsComplete_portUpClash.port ((1 : Fin 5))).phase = .training ∧ 1 ≤ ((2 : Nat)) ∧ ((2 : Nat)) ≤ 2 ∧ (((4 :
      Nat)) = 1 ∨ ((4 : Nat)) = 2 ∨ ((4 : Nat)) = 4) ∧ ((true : Bool)) = true := by
  decide
def wLinksAndEnumerationCommandsComplete_linkFrameAck : State := wRoot { phase := .up, replay := [(7, [1, 2]), (8, [3])] } []
theorem test_linksAndEnumerationCommandsComplete_linkFrameAck :
    (wLinksAndEnumerationCommandsComplete_linkFrameAck.port ((1 : Fin 5))).phase = .up ∧ ((.ack 7 : LinkEvent)) = .ack ((7 : Nat)) ∧
      (wLinksAndEnumerationCommandsComplete_linkFrameAck.port ((1 : Fin 5))).replay.any (fun f => f.1 == ((7 : Nat))) = true := by
  decide
def wLinksAndEnumerationCommandsComplete_linkFrameBad : State := wRoot { phase := .up } []
theorem test_linksAndEnumerationCommandsComplete_linkFrameBad :
    (wLinksAndEnumerationCommandsComplete_linkFrameBad.port ((1 : Fin 5))).phase = .up ∧ ((.frame 0 [] : LinkEvent)) = .frame ((0 : Nat))
      (([] : List Byte)) ∧ (([] : List Byte)).length < 20 := by
  decide
def wLinksAndEnumerationCommandsComplete_linkFrame : State := wRoot { phase := .up } []
def wLinksAndEnumerationCommandsComplete_linkFrame_ev : LinkEvent := .frame 0 ((packetBytes (wPkt 6 0 0 [2, 0, 0, 0, 1, 0, 0, 0, 0, 0, 0, 0])).map (BitVec.ofNat 8))
def wLinksAndEnumerationCommandsComplete_linkFrame_bytes : List Byte := (packetBytes (wPkt 6 0 0 [2, 0, 0, 0, 1, 0, 0, 0, 0, 0, 0, 0])).map (BitVec.ofNat 8)
def wLinksAndEnumerationCommandsComplete_linkFrame_p : Packet := wPkt 6 0 0 [2, 0, 0, 0, 1, 0, 0, 0, 0, 0, 0, 0]
theorem test_linksAndEnumerationCommandsComplete_linkFrame :
    (wLinksAndEnumerationCommandsComplete_linkFrame.port ((1 : Fin 5))).phase = .up ∧ wLinksAndEnumerationCommandsComplete_linkFrame_ev =
      .frame ((0 : Nat)) wLinksAndEnumerationCommandsComplete_linkFrame_bytes ∧ wLinksAndEnumerationCommandsComplete_linkFrame_bytes.map
      BitVec.toNat = packetBytes wLinksAndEnumerationCommandsComplete_linkFrame_p ∧ parsePacket (packetBytes
      wLinksAndEnumerationCommandsComplete_linkFrame_p) = some wLinksAndEnumerationCommandsComplete_linkFrame_p ∧
      wLinksAndEnumerationCommandsComplete_linkFrame_p.payload.length ≤ 4096 ∧
      wLinksAndEnumerationCommandsComplete_linkFrame_p.payload.length % 4 = 0 ∧ ((0 : Nat)) =
      (wLinksAndEnumerationCommandsComplete_linkFrame.port ((1 : Fin 5))).rxSeq ∧ ((0 : Nat)) < 4096 ∧
      wLinksAndEnumerationCommandsComplete_linkFrame_p.type = Pkt.time := by
  decide +kernel
def wLinksAndEnumerationCommandsComplete_linkReplayTimeout : State := wRoot { phase := .up, replay := [(7, [1, 2])] } []
theorem test_linksAndEnumerationCommandsComplete_linkReplayTimeout :
    (wLinksAndEnumerationCommandsComplete_linkReplayTimeout.port ((1 : Fin 5))).phase = .up ∧
      (wLinksAndEnumerationCommandsComplete_linkReplayTimeout.port ((1 : Fin 5))).replay ≠ [] ∧
      (wLinksAndEnumerationCommandsComplete_linkReplayTimeout.port ((1 : Fin 5))).replayCount < 4 := by
  decide
def wLinksAndEnumerationCommandsComplete_linkReplayTimeoutFifth : State := wRoot { phase := .up, replay := [(7, [1, 2])], replayCount := 4 } []
theorem test_linksAndEnumerationCommandsComplete_linkReplayTimeoutFifth :
    (wLinksAndEnumerationCommandsComplete_linkReplayTimeoutFifth.port ((1 : Fin 5))).phase = .up ∧
      (wLinksAndEnumerationCommandsComplete_linkReplayTimeoutFifth.port ((1 : Fin 5))).replay ≠ [] ∧ 4 ≤
      (wLinksAndEnumerationCommandsComplete_linkReplayTimeoutFifth.port ((1 : Fin 5))).replayCount := by
  decide
def wLinksAndEnumerationCommandsComplete_portDown : State := wRoot { phase := .up } []
theorem test_linksAndEnumerationCommandsComplete_portDown :
    (wLinksAndEnumerationCommandsComplete_portDown.port ((1 : Fin 5))).phase ≠ .idle ∧ wLinksAndEnumerationCommandsComplete_portDown.flag
      (F.MBL_PORT_STATUS_UP ((1 : Fin 5))) = true := by
  decide
def wLinksAndEnumerationCommandsComplete_portRetrain : State := wRoot { phase := .up } []
theorem test_linksAndEnumerationCommandsComplete_portRetrain :
    (wLinksAndEnumerationCommandsComplete_portRetrain.port ((1 : Fin 5))).phase = .up := by
  decide
def wLinksAndEnumerationCommandsComplete_heartbeatSend : State := wTree { phase := .up } []
theorem test_linksAndEnumerationCommandsComplete_heartbeatSend :
    ((0 : Nat)) = 0 ∧ (wLinksAndEnumerationCommandsComplete_heartbeatSend.port 0).phase = .up ∧ [1, 2, 3, 4].all (fun k =>
      (wLinksAndEnumerationCommandsComplete_heartbeatSend.port k).phase != .up) = true := by
  decide
def wLinksAndEnumerationCommandsComplete_heartbeatSendDown : State := wRoot { phase := .up } []
theorem test_linksAndEnumerationCommandsComplete_heartbeatSendDown :
    ((1 : Nat)) ∈ [1, 2, 3, 4] ∧ (wLinksAndEnumerationCommandsComplete_heartbeatSendDown.port ((1 : Nat))).phase = .up := by
  decide
def wLinksAndEnumerationCommandsComplete_heartbeat : State := wTree { phase := .up } [⟨0, 0, wMgmt 3 5 [2, 0, 0, 0], []⟩]
def wLinksAndEnumerationCommandsComplete_heartbeat_e : InPacket := ⟨0, 0, wMgmt 3 5 [2, 0, 0, 0], []⟩
theorem test_linksAndEnumerationCommandsComplete_heartbeat :
    wLinksAndEnumerationCommandsComplete_heartbeat.mbl.inbox = wLinksAndEnumerationCommandsComplete_heartbeat_e :: (([] : List InPacket))
      ∧ isMgmt Mgmt.heartbeat wLinksAndEnumerationCommandsComplete_heartbeat_e.packet = true ∧
      wLinksAndEnumerationCommandsComplete_heartbeat_e.port = 0 := by
  decide
def wLinksAndEnumerationCommandsComplete_heartbeatLoss : State := wRoot { phase := .up, missed := 16 } []
theorem test_linksAndEnumerationCommandsComplete_heartbeatLoss :
    ((1 : Fin 5)) ≠ 0 ∧ wLinksAndEnumerationCommandsComplete_heartbeatLoss.flag (F.MBL_PORT_STATUS_UP ((1 : Fin 5))) = true ∧
      wLinksAndEnumerationCommandsComplete_heartbeatLoss.flag (F.MBL_PORT_STATUS_FENCED ((1 : Fin 5))) = false ∧ max 1
      (wLinksAndEnumerationCommandsComplete_heartbeatLoss.fld F.MBL_CFG_HB_N) ≤ (wLinksAndEnumerationCommandsComplete_heartbeatLoss.port
      ((1 : Fin 5))).missed := by
  decide
def wLinksAndEnumerationCommandsComplete_fenceClr : State := (wRoot { phase := .up, missed := 16 } []).put (F.MBL_PORT_STATUS_FENCED 1) 1
theorem test_linksAndEnumerationCommandsComplete_fenceClr :
    ((1 : Fin 5)) ≠ 0 ∧ wLinksAndEnumerationCommandsComplete_fenceClr.flag (F.MBL_PORT_STATUS_FENCED ((1 : Fin 5))) = true := by
  decide
def wLinksAndEnumerationCommandsComplete_enumerationAlone : State := { State.reset with root := true }
theorem test_linksAndEnumerationCommandsComplete_enumerationAlone :
    ((none : Option (Fin 5))) = none ∧ wLinksAndEnumerationCommandsComplete_enumerationAlone.root = true ∧
      wLinksAndEnumerationCommandsComplete_enumerationAlone.mbl.enum = none ∧ [1, 2, 3, 4].all (fun q =>
      !wLinksAndEnumerationCommandsComplete_enumerationAlone.portOpen q) = true := by
  decide
def wLinksAndEnumerationCommandsComplete_enumeration : State := wRoot { phase := .up } []
theorem test_linksAndEnumerationCommandsComplete_enumeration :
    ((none : Option (Fin 5))) = none ∧ wLinksAndEnumerationCommandsComplete_enumeration.root = true ∧
      wLinksAndEnumerationCommandsComplete_enumeration.mbl.enum = none ∧ wLinksAndEnumerationCommandsComplete_enumeration.portOpen 1 =
      true ∧ wLinksAndEnumerationCommandsComplete_enumeration.flag (F.MBL_PORT_STATUS_PARTNER_4080 1) = false := by
  decide
def wLinksAndEnumerationCommandsComplete_enumAssign : State := wTree { phase := .up } [⟨0, 0, wMgmt 1 0xFFFFFF [9, 0, 0, 0, 20, 0, 0, 0, 3, 2, 0, 0], []⟩]
def wLinksAndEnumerationCommandsComplete_enumAssign_e : InPacket := ⟨0, 0, wMgmt 1 0xFFFFFF [9, 0, 0, 0, 20, 0, 0, 0, 3, 2, 0, 0], []⟩
theorem test_linksAndEnumerationCommandsComplete_enumAssign :
    wLinksAndEnumerationCommandsComplete_enumAssign.mbl.inbox = wLinksAndEnumerationCommandsComplete_enumAssign_e :: (([] : List
      InPacket)) ∧ isMgmt Mgmt.enumAssign wLinksAndEnumerationCommandsComplete_enumAssign_e.packet = true ∧
      wLinksAndEnumerationCommandsComplete_enumAssign_e.port = 0 ∧ wLinksAndEnumerationCommandsComplete_enumAssign.root = false ∧ ((9 :
      Nat)) = leField (mgmtBody wLinksAndEnumerationCommandsComplete_enumAssign_e.packet) 0 4 ∧ ((9 : Nat)) < 2 ^ 24 := by
  decide
def wLinksAndEnumerationCommandsComplete_enumReport : State := { wRoot { phase := .up } [⟨4, 0, wMgmt 2 0 [20, 0, 0, 0, 5, 0, 0, 0, 2, 0, 0, 0, 0, 0, 0, 0], []⟩] with mbl := { inbox := [⟨4, 0, wMgmt 2 0 [20, 0, 0, 0, 5, 0, 0, 0, 2, 0, 0, 0, 0, 0, 0, 0], []⟩], enum := some { port := 4, solo := false, next := 15, last := 0xFFFFFE, reserve := 4 } } }
def wLinksAndEnumerationCommandsComplete_enumReport_e : InPacket := ⟨4, 0, wMgmt 2 0 [20, 0, 0, 0, 5, 0, 0, 0, 2, 0, 0, 0, 0, 0, 0, 0], []⟩
def wLinksAndEnumerationCommandsComplete_enumReport_r : EnumRun := { port := 4, solo := false, next := 15, last := 0xFFFFFE, reserve := 4 }
theorem test_linksAndEnumerationCommandsComplete_enumReport :
    wLinksAndEnumerationCommandsComplete_enumReport.mbl.inbox = wLinksAndEnumerationCommandsComplete_enumReport_e :: (([] : List
      InPacket)) ∧ isMgmt Mgmt.enumReport wLinksAndEnumerationCommandsComplete_enumReport_e.packet = true ∧
      wLinksAndEnumerationCommandsComplete_enumReport.mbl.enum = some wLinksAndEnumerationCommandsComplete_enumReport_r ∧
      wLinksAndEnumerationCommandsComplete_enumReport_r.port = 4 ∧ wLinksAndEnumerationCommandsComplete_enumReport_e.port = 4 ∧
      wLinksAndEnumerationCommandsComplete_enumReport_r.solo = false := by
  decide
def wCmdPkt : InPacket := ⟨0, 0, wPkt 1 5 77 ([1, 2, 0, 0] ++ [0x12, 0, 7, 0] ++ List.replicate 60 0), []⟩
def wTreePacketsAndTimeCommandsComplete_cmdPacket : State := wTree { phase := .up } [wCmdPkt]
def wTreePacketsAndTimeCommandsComplete_cmdPacket_id : CmdId := nativeId 1 2 ([0x12, 0, 7, 0] ++ List.replicate 60 0)
theorem test_treePacketsAndTimeCommandsComplete_cmdPacket :
    wTreePacketsAndTimeCommandsComplete_cmdPacket.mbl.inbox = wCmdPkt :: (([] : List InPacket)) ∧ wCmdPkt.packet.type = Pkt.cmd ∧
      wTreePacketsAndTimeCommandsComplete_cmdPacket.flag (F.MBL_PORT_STATUS_PARTNER_4080 0) = false ∧
      wTreePacketsAndTimeCommandsComplete_cmdPacket_id = nativeId (wCmdPkt.packet.payload.getD 0 0) (wCmdPkt.packet.payload.getD 1 0)
      (wCmdPkt.packet.payload.drop 4) ∧ wTreePacketsAndTimeCommandsComplete_cmdPacket.keyCheck
      wTreePacketsAndTimeCommandsComplete_cmdPacket_id = true ∧ wTreePacketsAndTimeCommandsComplete_cmdPacket.lateChecks
      wTreePacketsAndTimeCommandsComplete_cmdPacket_id = none := by
  decide +kernel
/-- A READ and a WRITE that came down the tree under tag 77, in hand under handle 1. -/
def wChain (op : Nat) : Cmd := { wAdm op [0, 0, 0, 0, 0] with origin := .chain 1 77 }
def wChainS (op : Nat) (inbox : List InPacket) (grants : List Grant) : State := { wTree { phase := .up } inbox with rings := { cmds := [(1, some (wChain op))], nextHandle := 2 }, stations := [(0, { state := 3, mslot := some 4, disc := some {} })], mbl := { ports := [(0, { phase := .up })], inbox := inbox, grants := grants } }
def wTreePacketsAndTimeCommandsComplete_xferRdyPacket : State := wChainS 1 [⟨0, 0, wPkt 2 5 77 [0, 0, 0, 0, 0, 16, 0, 0], []⟩] []
def wTreePacketsAndTimeCommandsComplete_xferRdyPacket_e : InPacket := ⟨0, 0, wPkt 2 5 77 [0, 0, 0, 0, 0, 16, 0, 0], []⟩
theorem test_treePacketsAndTimeCommandsComplete_xferRdyPacket :
    wTreePacketsAndTimeCommandsComplete_xferRdyPacket.mbl.inbox = wTreePacketsAndTimeCommandsComplete_xferRdyPacket_e :: (([] : List
      InPacket)) ∧ wTreePacketsAndTimeCommandsComplete_xferRdyPacket_e.packet.type = Pkt.xferRdy ∧
      wTreePacketsAndTimeCommandsComplete_xferRdyPacket.root = false ∧ wTreePacketsAndTimeCommandsComplete_xferRdyPacket.chainCmd
      wTreePacketsAndTimeCommandsComplete_xferRdyPacket_e.packet.tag = some (((1 : Nat)), ((wChain 1 : Cmd))) ∧ ((wChain 1 : Cmd)).op =
      Op.read ∧ 0 < leField wTreePacketsAndTimeCommandsComplete_xferRdyPacket_e.packet.payload 4 4 := by
  decide
def wTreePacketsAndTimeCommandsComplete_dataPacket : State := wChainS 2 [⟨0, 0, { wPkt 3 5 77 [1, 2, 3, 4] with offset := 8 }, []⟩] [⟨77, 1, 0, 4096, 8, true⟩]
def wTreePacketsAndTimeCommandsComplete_dataPacket_e : InPacket := ⟨0, 0, { wPkt 3 5 77 [1, 2, 3, 4] with offset := 8 }, []⟩
def wTreePacketsAndTimeCommandsComplete_dataPacket_g : Grant := ⟨77, 1, 0, 4096, 8, true⟩
theorem test_treePacketsAndTimeCommandsComplete_dataPacket :
    wTreePacketsAndTimeCommandsComplete_dataPacket.mbl.inbox = wTreePacketsAndTimeCommandsComplete_dataPacket_e :: (([] : List InPacket))
      ∧ wTreePacketsAndTimeCommandsComplete_dataPacket_e.packet.type = Pkt.data ∧ wTreePacketsAndTimeCommandsComplete_dataPacket.root =
      false ∧ wTreePacketsAndTimeCommandsComplete_dataPacket.mbl.grants = [wTreePacketsAndTimeCommandsComplete_dataPacket_g] ∧
      wTreePacketsAndTimeCommandsComplete_dataPacket_g.mine = true ∧ wTreePacketsAndTimeCommandsComplete_dataPacket_g.tag =
      wTreePacketsAndTimeCommandsComplete_dataPacket_e.packet.tag ∧ wTreePacketsAndTimeCommandsComplete_dataPacket_g.offset +
      wTreePacketsAndTimeCommandsComplete_dataPacket_g.moved = wTreePacketsAndTimeCommandsComplete_dataPacket_e.packet.offset ∧
      wTreePacketsAndTimeCommandsComplete_dataPacket_g.moved + wTreePacketsAndTimeCommandsComplete_dataPacket_e.packet.payload.length <
      wTreePacketsAndTimeCommandsComplete_dataPacket_g.len ∧ wTreePacketsAndTimeCommandsComplete_dataPacket.cmd?
      wTreePacketsAndTimeCommandsComplete_dataPacket_g.cmd = some ((wChain 2 : Cmd)) ∧ ((wChain 2 : Cmd)).op = Op.write ∧ ((wChain 2 :
      Cmd)).phase = .admitted ∧ ((wChain 2 : Cmd)).data.bytes = [] ∧ 0 <
      wTreePacketsAndTimeCommandsComplete_dataPacket_e.packet.payload.length ∧
      wTreePacketsAndTimeCommandsComplete_dataPacket_e.packet.payload.length < 4096 := by
  decide
def wRsp : InPacket := ⟨1, 0, wPkt 4 0 77 [0, 0, 0x21, 0, 0, 0, 3, 0, 9, 0, 0, 0, 0, 0, 0, 0], []⟩
def wTreePacketsAndTimeCommandsComplete_rspPacket : State := { wRoot { phase := .up } [wRsp] with rings := { cmds := [(1, some { wAdm 1 [] with phase := .started })], nextHandle := 2 }, mbl := { ports := [(1, { phase := .up })], inbox := [wRsp], fwd := [⟨77, 1, 5, 4096, 0⟩], grants := [⟨77, 1, 0, 4096, 0, true⟩] } }
def wTreePacketsAndTimeCommandsComplete_rspPacket_w : Fwd := ⟨77, 1, 5, 4096, 0⟩
def wTreePacketsAndTimeCommandsComplete_rspPacket_c : Cmd := { wAdm 1 [] with phase := .started }
theorem test_treePacketsAndTimeCommandsComplete_rspPacket :
    wTreePacketsAndTimeCommandsComplete_rspPacket.mbl.inbox = wRsp :: (([] : List InPacket)) ∧ wRsp.packet.type = Pkt.rsp ∧
      wTreePacketsAndTimeCommandsComplete_rspPacket.mbl.fwd.find? (fun x => x.tag == wRsp.packet.tag) = some
      wTreePacketsAndTimeCommandsComplete_rspPacket_w ∧ wTreePacketsAndTimeCommandsComplete_rspPacket.cmd?
      wTreePacketsAndTimeCommandsComplete_rspPacket_w.cmd = some wTreePacketsAndTimeCommandsComplete_rspPacket_c ∧
      wTreePacketsAndTimeCommandsComplete_rspPacket_c.phase ≠ .ended ∧ wTreePacketsAndTimeCommandsComplete_rspPacket_c.mute = false ∧
      wTreePacketsAndTimeCommandsComplete_rspPacket_c.target = none ∧ wTreePacketsAndTimeCommandsComplete_rspPacket_c.res.status = 0 := by
  decide
def wEvt : InPacket := ⟨1, 0, wPkt 5 0 0 ([5, 0, 0, 0x30] ++ [1, 2, 3, 0] ++ List.replicate 24 0), []⟩
def wTreePacketsAndTimeCommandsComplete_evtPacket : State := wRoot { phase := .up } [wEvt]
def wTreePacketsAndTimeCommandsComplete_evtPacket_ev : EventRec := ⟨5, 0x30, 0x0201, 3, 0, List.replicate 16 0⟩
theorem test_treePacketsAndTimeCommandsComplete_evtPacket :
    wTreePacketsAndTimeCommandsComplete_evtPacket.mbl.inbox = wEvt :: (([] : List InPacket)) ∧ wEvt.packet.type = Pkt.evt ∧
      wTreePacketsAndTimeCommandsComplete_evtPacket.evtOpen = false ∧ wTreePacketsAndTimeCommandsComplete_evtPacket.events.staging.length
      < 256 ∧ wTreePacketsAndTimeCommandsComplete_evtPacket_ev = ⟨leField wEvt.packet.payload 0 3, wEvt.packet.payload.getD 3 0, leField
      wEvt.packet.payload 4 2, leField wEvt.packet.payload 6 2, leField wEvt.packet.payload 8 8 % 2 ^ 63, padTo 16
      (wEvt.packet.payload.drop 16)⟩ := by
  decide
def wTreePacketsAndTimeCommandsComplete_discard : State := wChainS 1 [⟨0, 0, wMgmt 11 5 [1, 0, 0, 0], []⟩] []
def wTreePacketsAndTimeCommandsComplete_discard_e : InPacket := ⟨0, 0, wMgmt 11 5 [1, 0, 0, 0], []⟩
theorem test_treePacketsAndTimeCommandsComplete_discard :
    wTreePacketsAndTimeCommandsComplete_discard.mbl.inbox = wTreePacketsAndTimeCommandsComplete_discard_e :: (([] : List InPacket)) ∧
      isMgmt Mgmt.discard wTreePacketsAndTimeCommandsComplete_discard_e.packet = true ∧
      wTreePacketsAndTimeCommandsComplete_discard.allCmds = [(((1 : Nat)), ((wChain 1 : Cmd)))] ∧ ((wChain 1 : Cmd)).origin = .chain
      ((mgmtBody wTreePacketsAndTimeCommandsComplete_discard_e.packet).getD 0 0) ((77 : Nat)) ∧ ((wChain 1 : Cmd)).survivesFlr = false ∧
      ((wChain 1 : Cmd)).op = Op.read ∧ ((wChain 1 : Cmd)).data.uses = [] := by
  decide
def wTreePacketsAndTimeCommandsComplete_grantHold : State := wTree { phase := .up } [⟨0, 0, wMgmt 12 5 [0, 0, 0, 0], []⟩]
def wTreePacketsAndTimeCommandsComplete_grantHold_e : InPacket := ⟨0, 0, wMgmt 12 5 [0, 0, 0, 0], []⟩
theorem test_treePacketsAndTimeCommandsComplete_grantHold :
    wTreePacketsAndTimeCommandsComplete_grantHold.mbl.inbox = wTreePacketsAndTimeCommandsComplete_grantHold_e :: (([] : List InPacket)) ∧
      isMgmt Mgmt.grantHold wTreePacketsAndTimeCommandsComplete_grantHold_e.packet = true := by
  decide
def wTreePacketsAndTimeCommandsComplete_grantHoldTimer : State := { wRoot { phase := .up } [] with mbl := { ports := [(1, { phase := .up })], fwd := [⟨77, 1, 5, 0, 0⟩], grants := [⟨77, 1, 0, 4096, 0, false⟩] } }
def wTreePacketsAndTimeCommandsComplete_grantHoldTimer_g : Grant := ⟨77, 1, 0, 4096, 0, false⟩
theorem test_treePacketsAndTimeCommandsComplete_grantHoldTimer :
    wTreePacketsAndTimeCommandsComplete_grantHoldTimer.mbl.fwd.find? (fun x => x.tag == ((77 : Nat))) = some ((⟨77, 1, 5, 0, 0⟩ : Fwd)) ∧
      wTreePacketsAndTimeCommandsComplete_grantHoldTimer.mbl.grants.find? (fun x => !x.mine && x.tag == ((77 : Nat)) && decide (x.moved <
      x.len)) = some wTreePacketsAndTimeCommandsComplete_grantHoldTimer_g := by
  decide
def wTreePacketsAndTimeCommandsComplete_xferWindowExpiryGone : State := { wChainS 2 [] [⟨77, 9, 0, 4096, 8, true⟩] with rings := { cmds := [(9, some { wChain 2 with phase := .ended })] } }
def wTreePacketsAndTimeCommandsComplete_xferWindowExpiryGone_g : Grant := ⟨77, 9, 0, 4096, 8, true⟩
theorem test_treePacketsAndTimeCommandsComplete_xferWindowExpiryGone :
    wTreePacketsAndTimeCommandsComplete_xferWindowExpiryGone.root = false ∧
      wTreePacketsAndTimeCommandsComplete_xferWindowExpiryGone.mbl.grants.find? (fun x => x.mine && x.tag == ((77 : Nat))) = some
      wTreePacketsAndTimeCommandsComplete_xferWindowExpiryGone_g ∧ (wTreePacketsAndTimeCommandsComplete_xferWindowExpiryGone.cmd
      wTreePacketsAndTimeCommandsComplete_xferWindowExpiryGone_g.cmd).live = false := by
  decide
def wTreePacketsAndTimeCommandsComplete_xferWindowExpiry : State := { wChainS 2 [] [⟨77, 1, 0, 4096, 8, true⟩] with rings := { cmds := [(1, some { wChain 0x20 with phase := .started })] } }
def wTreePacketsAndTimeCommandsComplete_xferWindowExpiry_g : Grant := ⟨77, 1, 0, 4096, 8, true⟩
def wTreePacketsAndTimeCommandsComplete_xferWindowExpiry_c : Cmd := { wChain 0x20 with phase := .started }
theorem test_treePacketsAndTimeCommandsComplete_xferWindowExpiry :
    wTreePacketsAndTimeCommandsComplete_xferWindowExpiry.root = false ∧
      wTreePacketsAndTimeCommandsComplete_xferWindowExpiry.mbl.grants.find? (fun x => x.mine && x.tag == ((77 : Nat))) = some
      wTreePacketsAndTimeCommandsComplete_xferWindowExpiry_g ∧ wTreePacketsAndTimeCommandsComplete_xferWindowExpiry.cmd?
      wTreePacketsAndTimeCommandsComplete_xferWindowExpiry_g.cmd = some wTreePacketsAndTimeCommandsComplete_xferWindowExpiry_c ∧
      wTreePacketsAndTimeCommandsComplete_xferWindowExpiry_c.live = true ∧ wTreePacketsAndTimeCommandsComplete_xferWindowExpiry_c.mute =
      false ∧ wTreePacketsAndTimeCommandsComplete_xferWindowExpiry_c.op = Op.fwDownload ∧
      wTreePacketsAndTimeCommandsComplete_xferWindowExpiry_c.phase = .started := by
  decide
def wTreePacketsAndTimeCommandsComplete_orphanTimeout : State := { wChainS 1 [] [] with regs := [] }
theorem test_treePacketsAndTimeCommandsComplete_orphanTimeout :
    wTreePacketsAndTimeCommandsComplete_orphanTimeout.root = false ∧ wTreePacketsAndTimeCommandsComplete_orphanTimeout.flag
      (F.MBL_PORT_STATUS_UP 0) = false ∧ wTreePacketsAndTimeCommandsComplete_orphanTimeout.allCmds = [(((1 : Nat)), ((wChain 1 : Cmd)))]
      ∧ ((wChain 1 : Cmd)).origin ≠ .ring ∧ ((wChain 1 : Cmd)).op = Op.read ∧ ((wChain 1 : Cmd)).data.uses = [] := by
  decide
def wTreePacketsAndTimeCommandsComplete_timeExchange : State := wRoot { phase := .up } []
theorem test_treePacketsAndTimeCommandsComplete_timeExchange :
    ((1 : Fin 5)) ≠ 0 ∧ (wTreePacketsAndTimeCommandsComplete_timeExchange.port ((1 : Fin 5))).phase = .up := by
  decide
def wTreePacketsAndTimeCommandsComplete_timePacketFirst : State := wTree { phase := .up } [⟨0, 40, wPkt 6 0 0 [1, 0, 0, 0, 10, 0, 0, 0, 0, 0, 0, 0], []⟩]
def wTreePacketsAndTimeCommandsComplete_timePacketFirst_e : InPacket := ⟨0, 40, wPkt 6 0 0 [1, 0, 0, 0, 10, 0, 0, 0, 0, 0, 0, 0], []⟩
theorem test_treePacketsAndTimeCommandsComplete_timePacketFirst :
    wTreePacketsAndTimeCommandsComplete_timePacketFirst.mbl.inbox = wTreePacketsAndTimeCommandsComplete_timePacketFirst_e :: (([] : List
      InPacket)) ∧ wTreePacketsAndTimeCommandsComplete_timePacketFirst_e.packet.type = Pkt.time ∧
      wTreePacketsAndTimeCommandsComplete_timePacketFirst_e.packet.payload.getD 0 0 = 1 ∧
      wTreePacketsAndTimeCommandsComplete_timePacketFirst_e.port = 0 := by
  decide
def wTreePacketsAndTimeCommandsComplete_timePacketSecond : State := wRoot { phase := .up } [⟨1, 40, wPkt 6 0 0 [2, 0, 0, 0, 10, 0, 0, 0, 0, 0, 0, 0], []⟩]
def wTreePacketsAndTimeCommandsComplete_timePacketSecond_e : InPacket := ⟨1, 40, wPkt 6 0 0 [2, 0, 0, 0, 10, 0, 0, 0, 0, 0, 0, 0], []⟩
theorem test_treePacketsAndTimeCommandsComplete_timePacketSecond :
    wTreePacketsAndTimeCommandsComplete_timePacketSecond.mbl.inbox = wTreePacketsAndTimeCommandsComplete_timePacketSecond_e :: (([] :
      List InPacket)) ∧ wTreePacketsAndTimeCommandsComplete_timePacketSecond_e.packet.type = Pkt.time ∧
      wTreePacketsAndTimeCommandsComplete_timePacketSecond_e.packet.payload.getD 0 0 = 2 ∧
      wTreePacketsAndTimeCommandsComplete_timePacketSecond_e.port ≠ 0 := by
  decide
def wTreePacketsAndTimeCommandsComplete_timePacket : State := { wTree { phase := .up } [] with mbl := { ports := [(0, { phase := .up, t1 := 1000, t2 := 1040, t3 := 1100, tOpen := true })], inbox := [⟨0, 0, wPkt 6 0 0 [3, 0, 0, 0, 0x74, 4, 0, 0, 0, 0, 0, 0], []⟩], firstTime := false } }
def wTreePacketsAndTimeCommandsComplete_timePacket_e : InPacket := ⟨0, 0, wPkt 6 0 0 [3, 0, 0, 0, 0x74, 4, 0, 0, 0, 0, 0, 0], []⟩
def wTreePacketsAndTimeCommandsComplete_timePacket_x : Port := { phase := .up, t1 := 1000, t2 := 1040, t3 := 1100, tOpen := true }
theorem test_treePacketsAndTimeCommandsComplete_timePacket :
    wTreePacketsAndTimeCommandsComplete_timePacket.mbl.inbox = wTreePacketsAndTimeCommandsComplete_timePacket_e :: (([] : List InPacket))
      ∧ wTreePacketsAndTimeCommandsComplete_timePacket_e.packet.type = Pkt.time ∧
      wTreePacketsAndTimeCommandsComplete_timePacket_e.packet.payload.getD 0 0 = 3 ∧
      wTreePacketsAndTimeCommandsComplete_timePacket_e.port = 0 ∧ wTreePacketsAndTimeCommandsComplete_timePacket_x =
      wTreePacketsAndTimeCommandsComplete_timePacket.port 0 ∧ wTreePacketsAndTimeCommandsComplete_timePacket_x.tOpen = true ∧
      wTreePacketsAndTimeCommandsComplete_timePacket.mbl.firstTime = false ∧ 2 * ((40 : Int)) =
      ((wTreePacketsAndTimeCommandsComplete_timePacket_x.t2 : Int) - wTreePacketsAndTimeCommandsComplete_timePacket_x.t1) + ((leField
      wTreePacketsAndTimeCommandsComplete_timePacket_e.packet.payload 4 8 : Int) - wTreePacketsAndTimeCommandsComplete_timePacket_x.t3) ∧
      0 ≤ ((40 : Int)) + wTreePacketsAndTimeCommandsComplete_timePacket.sfld (F.MBL_PORT_ASYM_ASYM 0) ∧ ((40 : Int)) +
      wTreePacketsAndTimeCommandsComplete_timePacket.sfld (F.MBL_PORT_ASYM_ASYM 0) < 65536 ∧
      ((wTreePacketsAndTimeCommandsComplete_timePacket_x.t2 : Int) - wTreePacketsAndTimeCommandsComplete_timePacket_x.t1 - (((40 : Int))
      + wTreePacketsAndTimeCommandsComplete_timePacket.sfld (F.MBL_PORT_ASYM_ASYM 0))).natAbs ≤ 20 := by
  decide
def wTreePacketsAndTimeCommandsComplete_mblCtLocked : State := { wTree { phase := .up } [] with mbl := { goodTimes := 16 } }
theorem test_treePacketsAndTimeCommandsComplete_mblCtLocked :
    16 ≤ wTreePacketsAndTimeCommandsComplete_mblCtLocked.mbl.goodTimes := by
  decide
def wTreePacketsAndTimeCommandsComplete_ctLoad : State := { State.reset with root := true }
theorem test_treePacketsAndTimeCommandsComplete_ctLoad :
    wTreePacketsAndTimeCommandsComplete_ctLoad.root = true ∧ wTreePacketsAndTimeCommandsComplete_ctLoad.mbl.ctLoaded = false ∧
      wTreePacketsAndTimeCommandsComplete_ctLoad.ct ≤ wTreePacketsAndTimeCommandsComplete_ctLoad.fld F.MBL_CT_LOAD_LO_CT + ((3#32 :
      Word)).toNat * 2 ^ 32 := by
  decide
def wTreePacketsAndTimeCommandsComplete_ctLoadRefused : State := { State.reset with root := true, ct := 99 }
theorem test_treePacketsAndTimeCommandsComplete_ctLoadRefused :
    wTreePacketsAndTimeCommandsComplete_ctLoadRefused.root = true ∧ (wTreePacketsAndTimeCommandsComplete_ctLoadRefused.mbl.ctLoaded =
      true ∨ wTreePacketsAndTimeCommandsComplete_ctLoadRefused.fld F.MBL_CT_LOAD_LO_CT + ((0#32 : Word)).toNat * 2 ^ 32 <
      wTreePacketsAndTimeCommandsComplete_ctLoadRefused.ct) := by
  decide
/-- Slot 3 in a state. -/
def wSlot (v : Nat) : State := ((State.reset.put (F.HPC_SLOT_STATUS_STATE 3) v).put (F.HPC_SLOT_STATUS_PRESENT 3) 1).put F.SYS_PACE_STATUS_CLOSED 1
theorem test_slotAndStationCommandsComplete_slotInsertion :
    ((State.reset : State)).slotState ((3 : Fin 12)) = Slot.empty ∧ ((State.reset : State)).flag (F.HPC_SLOT_CFG_AUTO_ON ((3 : Fin 12)))
      = false := by
  decide
def wSlotAndStationCommandsComplete_slotInsertionAuto : State := ((wSlot 0).put (F.HPC_SLOT_CFG_AUTO_ON 3) 1)
theorem test_slotAndStationCommandsComplete_slotInsertionAuto :
    wSlotAndStationCommandsComplete_slotInsertionAuto.slotState ((3 : Fin 12)) = Slot.empty ∧
      wSlotAndStationCommandsComplete_slotInsertionAuto.flag (F.HPC_SLOT_CFG_AUTO_ON ((3 : Fin 12))) = true ∧
      wSlotAndStationCommandsComplete_slotInsertionAuto.flag F.SYS_PACE_STATUS_CLOSED = true := by
  decide
theorem test_slotAndStationCommandsComplete_slotRemoval :
    (((wSlot 1 : State)).slotState ((3 : Fin 12)) = Slot.off ∨ ((wSlot 1 : State)).slotState ((3 : Fin 12)) = Slot.waitOn) := by
  decide
def wSlotAndStationCommandsComplete_slotRemovalSurprise : State := { wSlot 4 with stations := [(3, { state := 3, mslot := some 9, disc := some {} })] }
theorem test_slotAndStationCommandsComplete_slotRemovalSurprise :
    slotHigh (wSlotAndStationCommandsComplete_slotRemovalSurprise.slotState ((3 : Fin 12))) = true := by
  decide
theorem test_slotAndStationCommandsComplete_slotButton :
    (((wSlot 4 : State)).slotState ((3 : Fin 12)) = Slot.off ∨ ((wSlot 4 : State)).slotState ((3 : Fin 12)) = Slot.on ∨ ((wSlot 4 :
      State)).slotState ((3 : Fin 12)) = Slot.waitOn ∨ ((wSlot 4 : State)).slotState ((3 : Fin 12)) = Slot.waitOff) := by
  decide
theorem test_slotAndStationCommandsComplete_slotAbortReq :
    (((wSlot 2 : State)).slotState ((3 : Fin 12)) = Slot.waitOn ∨ ((wSlot 2 : State)).slotState ((3 : Fin 12)) = Slot.waitOff) := by
  decide
theorem test_slotAndStationCommandsComplete_slotPowerFault :
    slotHigh (((wSlot 4 : State)).slotState ((3 : Fin 12))) = true := by
  decide
theorem test_slotAndStationCommandsComplete_slotBlinkExpiry :
    ((wSlot 2 : State)).slotState ((3 : Fin 12)) = Slot.waitOn ∧ ((wSlot 2 : State)).flag F.SYS_PACE_STATUS_CLOSED = true := by
  decide
theorem test_slotAndStationCommandsComplete_slotSettled :
    ((3 : Fin 12)).val < 8 ∧ ((wSlot 3 : State)).slotState ((3 : Fin 12)) = Slot.powering := by
  decide
def wSlotAndStationCommandsComplete_slotSettledChild : State := { ((State.reset.put (F.HPC_SLOT_STATUS_STATE 9) 3).put (F.MBL_PORT_CTRL_EN 2) 1) with fw := { booted := true } }
theorem test_slotAndStationCommandsComplete_slotSettledChild :
    ((9 : Fin 12)).val = 7 + ((2 : Nat)) ∧ 1 ≤ ((2 : Nat)) ∧ wSlotAndStationCommandsComplete_slotSettledChild.slotState ((9 : Fin 12)) =
      Slot.powering ∧ wSlotAndStationCommandsComplete_slotSettledChild.portMayTrain ((2 : Nat)) = true ∧
      (wSlotAndStationCommandsComplete_slotSettledChild.port ((2 : Nat))).phase = .idle := by
  decide
def wSlotAndStationCommandsComplete_slotBringupDoneChild : State := (State.reset.put (F.HPC_SLOT_STATUS_STATE 9) 3).put (F.MBL_PORT_STATUS_UP 2) 1
theorem test_slotAndStationCommandsComplete_slotBringupDoneChild :
    wSlotAndStationCommandsComplete_slotBringupDoneChild.slotState ((9 : Fin 12)) = Slot.powering ∧
      wSlotAndStationCommandsComplete_slotBringupDoneChild.broughtUp ((9 : Fin 12)) = true ∧ 8 ≤ ((9 : Fin 12)).val := by
  decide
def wSlotAndStationCommandsComplete_slotBringupDone : State := ((wSlot 3).put (F.SRV_LDD_STATUS_LINK_UP 6) 1).put (F.SRV_LDD_STATUS_LINK_UP 7) 1
theorem test_slotAndStationCommandsComplete_slotBringupDone :
    wSlotAndStationCommandsComplete_slotBringupDone.slotState ((3 : Fin 12)) = Slot.powering ∧
      wSlotAndStationCommandsComplete_slotBringupDone.broughtUp ((3 : Fin 12)) = true ∧ ((3 : Fin 12)).val < 8 := by
  decide
theorem test_slotAndStationCommandsComplete_slotBringupTimeout :
    ((wSlot 3 : State)).slotState ((3 : Fin 12)) = Slot.powering := by
  decide
theorem test_slotAndStationCommandsComplete_slotDrainDone :
    ((wSlot 6 : State)).slotState ((3 : Fin 12)) = Slot.draining ∧ ((3 : Fin 12)).val < 8 ∧ ((wSlot 6 : State)).stationCmds ((3 : Fin
      12)) = [] ∧ (((wSlot 6 : State)).station ((3 : Fin 12))).disc = none ∧ ((wSlot 6 : State)).flag (F.SPN_CTRL_RUN ((3 : Fin 12))) =
      false ∧ ((wSlot 6 : State)).atRest ((3 : Fin 12)) = true := by
  decide
theorem test_slotAndStationCommandsComplete_slotDrainTimeout :
    ((wSlot 6 : State)).slotState ((3 : Fin 12)) = Slot.draining := by
  decide
theorem test_slotAndStationCommandsComplete_pwrReqSet :
    ((wSlot 1 : State)).slotState ((3 : Fin 12)) = Slot.off ∧ ((wSlot 1 : State)).flag F.SYS_PACE_STATUS_CLOSED = true := by
  decide
theorem test_slotAndStationCommandsComplete_pwrReqSetRejected :
    ((State.reset : State)).slotState ((3 : Fin 12)) ≠ Slot.off := by
  decide
def wSlotAndStationCommandsComplete_pwrReqClear : State := { wSlot 4 with rings := { cmds := [(1, some { id := { op := 1 }, phase := .admitted, queue := some 3, station := 3 })], nextHandle := 2 } }
theorem test_slotAndStationCommandsComplete_pwrReqClear :
    wSlotAndStationCommandsComplete_pwrReqClear.slotState ((3 : Fin 12)) = Slot.on ∧ wSlotAndStationCommandsComplete_pwrReqClear.flag
      F.SYS_PACE_STATUS_CLOSED = true ∧ ((3 : Fin 12)).val < 8 ∧ (wSlotAndStationCommandsComplete_pwrReqClear.stationCmds ((3 : Fin
      12))).any (fun e => e.2.phase == .admitted) = true := by
  decide
theorem test_slotAndStationCommandsComplete_slotFaultClear :
    ((wSlot 7 : State)).slotState ((3 : Fin 12)) = Slot.fault := by
  decide
theorem test_slotAndStationCommandsComplete_stationReset :
    ((wSlot 4 : State)).fld (F.HPC_SLOT_STATUS_STATE ((3 : Fin 8))) = 4 ∧ ((wSlot 4 : State)).fw.roll = none ∧ ((wSlot 4 :
      State)).fw.stationResets.contains ((3 : Fin 8)).val = false := by
  decide
def wSlotAndStationCommandsComplete_resetDone : State := { (wSlot 4).put F.SYS_RESET_STATUS_STN_BUSY 8 with fw := { stationResets := [3] } }
theorem test_slotAndStationCommandsComplete_resetDone :
    ((3 : Fin 8)).val ∈ wSlotAndStationCommandsComplete_resetDone.fw.stationResets ∧ (wSlotAndStationCommandsComplete_resetDone.fld
      F.EVT_RANGE_EN_EN).testBit 14 = true := by
  decide
theorem test_firmwareCommandsComplete_fwVerify :
    ((State.reset : State)).fw.roll = none ∧ ((State.reset : State)).fw.summit = none ∧ (((State.reset : State)).codeUsed 0 = false ∨
      ((State.reset : State)).codeUsed 1 = false) := by
  decide
def wFirmwareCommandsComplete_fwVerifyRejected : State := { State.reset with fw := { roll := some ⟨none, 2, [], none, [], none, 0, false⟩ } }
theorem test_firmwareCommandsComplete_fwVerifyRejected :
    (wFirmwareCommandsComplete_fwVerifyRejected.fw.roll.isSome = true ∨ wFirmwareCommandsComplete_fwVerifyRejected.fw.summit.isSome =
      true ∨ (wFirmwareCommandsComplete_fwVerifyRejected.codeUsed 0 = true ∧ wFirmwareCommandsComplete_fwVerifyRejected.codeUsed 1 =
      true)) := by
  decide
def wFirmwareCommandsComplete_fwVerifyDone : State := { State.reset with fw := { verifying := some 1 } }
theorem test_firmwareCommandsComplete_fwVerifyDone :
    wFirmwareCommandsComplete_fwVerifyDone.fw.verifying = some ((1 : Nat)) := by
  decide
/-- FW_ACTIVATE with a mask and a mode, in hand under handle 1 at the root, an image staged in code slot 1. -/
def wActId (mask mode : Nat) : Cmd := { id := { fn := 0, ring := 2, op := 0x21, cid := 9, body := [mask, mode, 0, 0, 0, 0, 0, 0, 0, 0xCA, 0x9A, 0x3B, 0, 0, 0, 0] }, phase := .started }
def wAct (mask mode : Nat) : State := { State.reset.put (F.HPC_SLOT_STATUS_STATE 3) 4 with root := true, rings := { cmds := [(1, some (wActId mask mode))], nextHandle := 2 }, fw := { booted := true, staged := some {}, stagedIn := 1 } }
theorem test_firmwareCommandsComplete_fwActivateRolling :
    ((wAct 12 0 : State)).cmd? ((1 : Nat)) = some ((wActId 12 0 : Cmd)) ∧ ((wActId 12 0 : Cmd)).id.op = Op.fwActivate ∧ ((wActId 12 0 :
      Cmd)).phase = .started ∧ ((wActId 12 0 : Cmd)).started = false ∧ ((wActId 12 0 : Cmd)).id.summitMode = false ∧ ((wAct 12 0 :
      State)).root = true ∧ ((wActId 12 0 : Cmd)).id.classMask ≠ 0 ∧ ((wActId 12 0 : Cmd)).id.classMask.testBit 0 = false ∧ ((wAct 12 0 :
      State)).fw.roll = none ∧ ((wAct 12 0 : State)).fw.summit = none ∧ ((wAct 12 0 : State)).mayActivate ((wActId 12 0 :
      Cmd)).id.classMask = true ∧ (List.range 8).filter (fun x => ((wAct 12 0 : State)).slotState x == Slot.on) = ((3 : Nat)) :: (([] :
      List Nat)) ∧ (stationProcs ((3 : Nat))).filter (fun x => ((wActId 12 0 : Cmd)).id.classMask.testBit (procClass x)) = ((27 : Nat))
      :: (([6, 7] : List Nat)) ∧ (((wAct 12 0 : State)).station ((3 : Nat))).disc = none ∧ (((wAct 12 0 : State)).stationCmds ((3 :
      Nat))).any (fun e => e.2.phase == .admitted) = false ∧ ((wAct 12 0 : State)).fw.stationHold = [] := by
  decide
theorem test_firmwareCommandsComplete_fwActivateRollingEmpty :
    ((wAct 0 0 : State)).cmd? ((1 : Nat)) = some ((wActId 0 0 : Cmd)) ∧ ((wActId 0 0 : Cmd)).id.op = Op.fwActivate ∧ ((wActId 0 0 :
      Cmd)).phase = .started ∧ ((wActId 0 0 : Cmd)).mute = false ∧ ((wActId 0 0 : Cmd)).started = false ∧ ((wActId 0 0 :
      Cmd)).id.summitMode = false ∧ ((wAct 0 0 : State)).root = true ∧ ((wActId 0 0 : Cmd)).id.classMask = 0 ∧ ((wAct 0 0 :
      State)).fw.roll = none := by
  decide
def wFirmwareCommandsComplete_fwRoll : State := { wAct 12 0 with root := false, rings := {} }
theorem test_firmwareCommandsComplete_fwRoll :
    wFirmwareCommandsComplete_fwRoll.root = false ∧ wFirmwareCommandsComplete_fwRoll.fw.roll = none ∧
      wFirmwareCommandsComplete_fwRoll.fw.summit = none ∧ wFirmwareCommandsComplete_fwRoll.mayActivate (((12 : Fin 16)).val &&& 14) =
      true ∧ (List.range 8).filter (fun x => wFirmwareCommandsComplete_fwRoll.slotState x == Slot.on) = ((3 : Nat)) :: (([] : List Nat))
      ∧ (stationProcs ((3 : Nat))).filter (fun x => (((12 : Fin 16)).val &&& 14).testBit (procClass x)) = ((27 : Nat)) :: (([6, 7] : List
      Nat)) ∧ (wFirmwareCommandsComplete_fwRoll.station ((3 : Nat))).disc = none ∧ (wFirmwareCommandsComplete_fwRoll.stationCmds ((3 :
      Nat))).any (fun e => e.2.phase == .admitted) = false ∧ wFirmwareCommandsComplete_fwRoll.fw.stationHold = [] := by
  decide
def wFirmwareCommandsComplete_fwCancel : State := { wAct 12 0 with fw := { roll := some ⟨none, 12, [], some 3, [6], some 27, 0, false⟩ } }
def wFirmwareCommandsComplete_fwCancel_r : FwRoll := ⟨none, 12, [], some 3, [6], some 27, 0, false⟩
theorem test_firmwareCommandsComplete_fwCancel :
    wFirmwareCommandsComplete_fwCancel.fw.roll = some wFirmwareCommandsComplete_fwCancel_r ∧
      wFirmwareCommandsComplete_fwCancel_r.current.isSome = true ∧ wFirmwareCommandsComplete_fwCancel_r.station = some ((3 : Nat)) ∧
      wFirmwareCommandsComplete_fwCancel.stationPresent ((3 : Nat)) = true := by
  decide
theorem test_firmwareCommandsComplete_fwActivateSummit :
    ((wAct 15 1 : State)).cmd? ((1 : Nat)) = some ((wActId 15 1 : Cmd)) ∧ ((wActId 15 1 : Cmd)).mayRun Op.fwActivate = true ∧ ((wActId 15
      1 : Cmd)).id.summitMode = true ∧ ((wActId 15 1 : Cmd)).id.classMask ≠ 0 ∧ ((wActId 15 1 : Cmd)).id.classMask < 16 ∧ ((wAct 15 1 :
      State)).root = true ∧ ((wAct 15 1 : State)).fw.roll = none ∧ ((wAct 15 1 : State)).fw.summit = none ∧ ((wAct 15 1 : State)).ct +
      (max 1 (min 10000 (((wAct 15 1 : State)).fld F.FWU_CFG_DRAIN_MS)) + 10) * 1000000 ≤ ((wActId 15 1 : Cmd)).id.timeField ∧ ((wAct 15
      1 : State)).mayActivate ((wActId 15 1 : Cmd)).id.classMask = true := by
  decide
def wFirmwareCommandsComplete_fwSummitCancel : State := { wAct 0 1 with fw := { summit := some { time := 1000000000, mask := 15 } } }
def wFirmwareCommandsComplete_fwSummitCancel_m : FwSummit := { time := 1000000000, mask := 15 }
theorem test_firmwareCommandsComplete_fwSummitCancel :
    wFirmwareCommandsComplete_fwSummitCancel.cmd? ((1 : Nat)) = some ((wActId 0 1 : Cmd)) ∧ ((wActId 0 1 : Cmd)).mayRun Op.fwActivate =
      true ∧ ((wActId 0 1 : Cmd)).mute = false ∧ ((wActId 0 1 : Cmd)).id.summitMode = true ∧ ((wActId 0 1 : Cmd)).id.classMask = 0 ∧
      wFirmwareCommandsComplete_fwSummitCancel.root = true ∧ wFirmwareCommandsComplete_fwSummitCancel.fw.summit = some
      wFirmwareCommandsComplete_fwSummitCancel_m ∧ wFirmwareCommandsComplete_fwSummitCancel_m.started = false ∧
      wFirmwareCommandsComplete_fwSummitCancel.fw.draining = false ∧ wFirmwareCommandsComplete_fwSummitCancel_m.cmd ≠ some ((1 : Nat)) := by
  decide
def wSum (kind : Nat) : InPacket := ⟨0, 0, wMgmt 10 0xFFFFFF (summitBody kind 15 1000000000), []⟩
def wFirmwareCommandsComplete_summitSet : State := { wTree { phase := .up } [wSum 0] with fw := { booted := true, staged := some {}, stagedIn := 1 } }
theorem test_firmwareCommandsComplete_summitSet :
    wFirmwareCommandsComplete_summitSet.mbl.inbox = ((wSum 0 : InPacket)) :: (([] : List InPacket)) ∧ isMgmt Mgmt.summitSet ((wSum 0 :
      InPacket)).packet = true ∧ wFirmwareCommandsComplete_summitSet.root = false ∧ (mgmtBody ((wSum 0 : InPacket)).packet).getD 0 0 = 0
      ∧ wFirmwareCommandsComplete_summitSet.fw.roll = none ∧ wFirmwareCommandsComplete_summitSet.fw.summit = none ∧
      wFirmwareCommandsComplete_summitSet.mayActivate ((mgmtBody ((wSum 0 : InPacket)).packet).getD 1 0 % 16) = true := by
  decide
def wFirmwareCommandsComplete_summitSetCancel : State := { wTree { phase := .up } [wSum 1] with fw := { booted := true, summit := some { time := 1000000000, mask := 15 } } }
def wFirmwareCommandsComplete_summitSetCancel_m : FwSummit := { time := 1000000000, mask := 15 }
theorem test_firmwareCommandsComplete_summitSetCancel :
    wFirmwareCommandsComplete_summitSetCancel.mbl.inbox = ((wSum 1 : InPacket)) :: (([] : List InPacket)) ∧ isMgmt Mgmt.summitSet ((wSum
      1 : InPacket)).packet = true ∧ wFirmwareCommandsComplete_summitSetCancel.root = false ∧ (mgmtBody ((wSum 1 :
      InPacket)).packet).getD 0 0 = 1 ∧ wFirmwareCommandsComplete_summitSetCancel.fw.summit = some
      wFirmwareCommandsComplete_summitSetCancel_m := by
  decide
def wFirmwareCommandsComplete_summitDrainStart : State := { wAct 0 1 with fw := { summit := some { time := 1000000, mask := 15 } } }
def wFirmwareCommandsComplete_summitDrainStart_m : FwSummit := { time := 1000000, mask := 15 }
theorem test_firmwareCommandsComplete_summitDrainStart :
    wFirmwareCommandsComplete_summitDrainStart.fw.summit = some wFirmwareCommandsComplete_summitDrainStart_m ∧
      wFirmwareCommandsComplete_summitDrainStart_m.started = false ∧ wFirmwareCommandsComplete_summitDrainStart_m.time ≤
      wFirmwareCommandsComplete_summitDrainStart.ct + max 1 (min 10000 (wFirmwareCommandsComplete_summitDrainStart.fld
      F.FWU_CFG_DRAIN_MS)) * 1000000 := by
  decide
def wFirmwareCommandsComplete_summit : State := { wAct 0 1 with ct := 1000000, fw := { staged := some {}, stagedIn := 1, summit := some { time := 1000000, mask := 15 } } }
def wFirmwareCommandsComplete_summit_m : FwSummit := { time := 1000000, mask := 15 }
theorem test_firmwareCommandsComplete_summit :
    wFirmwareCommandsComplete_summit.fw.summit = some wFirmwareCommandsComplete_summit_m ∧ wFirmwareCommandsComplete_summit_m.started =
      false ∧ wFirmwareCommandsComplete_summit_m.done = false ∧ wFirmwareCommandsComplete_summit_m.time ≤
      wFirmwareCommandsComplete_summit.ct ∧ wFirmwareCommandsComplete_summit_m.mask.testBit 0 = true := by
  decide
def wFirmwareCommandsComplete_processorReady : State := { (wAct 12 0).put F.FWU_PENDING_LO_PENDING 0xFFFFFFFF with fw := { staged := some {}, stagedIn := 1, roll := some ⟨none, 12, [], some 3, [6], some 27, 0, false⟩ } }
def wFirmwareCommandsComplete_processorReady_r : FwRoll := ⟨none, 12, [], some 3, [6], some 27, 0, false⟩
theorem test_firmwareCommandsComplete_processorReady :
    wFirmwareCommandsComplete_processorReady.fw.summit = none ∧ wFirmwareCommandsComplete_processorReady.fw.roll = some
      wFirmwareCommandsComplete_processorReady_r ∧ wFirmwareCommandsComplete_processorReady_r.current = some ((27 : Fin 36)).val ∧
      wFirmwareCommandsComplete_processorReady.procRuns ((27 : Fin 36)) = true ∧ ((27 : Fin 36)).val < 32 ∧
      wFirmwareCommandsComplete_processorReady.fld F.FWU_STATUS_PROGRESS < 255 := by
  decide
def wFirmwareCommandsComplete_activationTimeout : State := { (wAct 12 0) with fw := { staged := some {}, stagedIn := 1, roll := some ⟨none, 12, [], some 3, [6], some 27, 0, false⟩ } }
def wFirmwareCommandsComplete_activationTimeout_r : FwRoll := ⟨none, 12, [], some 3, [6], some 27, 0, false⟩
theorem test_firmwareCommandsComplete_activationTimeout :
    wFirmwareCommandsComplete_activationTimeout.fw.summit = none ∧ wFirmwareCommandsComplete_activationTimeout.fw.roll = some
      wFirmwareCommandsComplete_activationTimeout_r ∧ wFirmwareCommandsComplete_activationTimeout_r.current = some ((27 : Fin 36)).val := by
  decide
theorem test_firmwareCommandsComplete_processorFault :
    procStation ((6 : Fin 36)) = some ((3 : Nat)) ∧ ((wAct 0 0 : State)).fld (F.HPC_SLOT_STATUS_STATE ((3 : Nat))) = 4 ∧ ((wAct 0 0 :
      State)).fw.roll = none ∧ ((wAct 0 0 : State)).fw.stationResets.contains ((3 : Nat)) = false := by
  decide
theorem test_firmwareCommandsComplete_processorFaultMC :
    32 ≤ ((33 : Fin 36)).val := by
  decide
def wBarriersSnapshotsAndTreeResetsComplete_barrierLeaf : State := wTree { phase := .up } [⟨0, 0, wMgmt 7 0xFFFFFF [9, 0, 0, 0], []⟩]
def wBarriersSnapshotsAndTreeResetsComplete_barrierLeaf_e : InPacket := ⟨0, 0, wMgmt 7 0xFFFFFF [9, 0, 0, 0], []⟩
theorem test_barriersSnapshotsAndTreeResetsComplete_barrierLeaf :
    wBarriersSnapshotsAndTreeResetsComplete_barrierLeaf.mbl.inbox = wBarriersSnapshotsAndTreeResetsComplete_barrierLeaf_e :: (([] : List
      InPacket)) ∧ isMgmt Mgmt.barrier wBarriersSnapshotsAndTreeResetsComplete_barrierLeaf_e.packet = true ∧
      wBarriersSnapshotsAndTreeResetsComplete_barrierLeaf.root = false ∧
      wBarriersSnapshotsAndTreeResetsComplete_barrierLeaf.mbl.snap.armed = false ∧
      wBarriersSnapshotsAndTreeResetsComplete_barrierLeaf_e.copies = [] ∧
      wBarriersSnapshotsAndTreeResetsComplete_barrierLeaf.mbl.barriers = [] ∧
      wBarriersSnapshotsAndTreeResetsComplete_barrierLeaf.events.posted = [] := by
  decide
def wBarriersSnapshotsAndTreeResetsComplete_barrier : State := (wTree { phase := .up } [⟨0, 0, wMgmt 7 0xFFFFFF [9, 0, 0, 0], [2]⟩]).put (F.MBL_PORT_STATUS_UP 2) 1
def wBarriersSnapshotsAndTreeResetsComplete_barrier_e : InPacket := ⟨0, 0, wMgmt 7 0xFFFFFF [9, 0, 0, 0], [2]⟩
theorem test_barriersSnapshotsAndTreeResetsComplete_barrier :
    wBarriersSnapshotsAndTreeResetsComplete_barrier.mbl.inbox = wBarriersSnapshotsAndTreeResetsComplete_barrier_e :: (([] : List
      InPacket)) ∧ isMgmt Mgmt.barrier wBarriersSnapshotsAndTreeResetsComplete_barrier_e.packet = true ∧
      wBarriersSnapshotsAndTreeResetsComplete_barrier.root = false ∧ wBarriersSnapshotsAndTreeResetsComplete_barrier.mbl.snap.armed =
      false ∧ wBarriersSnapshotsAndTreeResetsComplete_barrier_e.copies.filter (fun q =>
      wBarriersSnapshotsAndTreeResetsComplete_barrier.treePorts.contains q) ≠ [] ∧
      wBarriersSnapshotsAndTreeResetsComplete_barrier.mbl.barriers = [] := by
  decide
def wBarriersSnapshotsAndTreeResetsComplete_barrierAck : State := { wTree { phase := .up } [] with mbl := { inbox := [⟨2, 0, wMgmt 8 0 [9, 0, 0, 0], []⟩], barriers := [⟨9, [2, 3], 0⟩] } }
def wBarriersSnapshotsAndTreeResetsComplete_barrierAck_e : InPacket := ⟨2, 0, wMgmt 8 0 [9, 0, 0, 0], []⟩
theorem test_barriersSnapshotsAndTreeResetsComplete_barrierAck :
    wBarriersSnapshotsAndTreeResetsComplete_barrierAck.mbl.inbox = wBarriersSnapshotsAndTreeResetsComplete_barrierAck_e :: (([] : List
      InPacket)) ∧ isMgmt Mgmt.barrierAck wBarriersSnapshotsAndTreeResetsComplete_barrierAck_e.packet = true ∧
      wBarriersSnapshotsAndTreeResetsComplete_barrierAck.mbl.barriers = [((⟨9, [2, 3], 0⟩ : Barrier))] ∧ ((⟨9, [2, 3], 0⟩ :
      Barrier)).number = (mgmtBody wBarriersSnapshotsAndTreeResetsComplete_barrierAck_e.packet).getD 0 0 ∧ ((⟨9, [2, 3], 0⟩ :
      Barrier)).waiting.filter (fun q => q != wBarriersSnapshotsAndTreeResetsComplete_barrierAck_e.port) ≠ [] := by
  decide
def wBarriersSnapshotsAndTreeResetsComplete_barrierAckLast : State := { wTree { phase := .up } [] with mbl := { inbox := [⟨2, 0, wMgmt 8 0 [9, 0, 0, 0], []⟩], barriers := [⟨9, [2], 0⟩] } }
def wBarriersSnapshotsAndTreeResetsComplete_barrierAckLast_e : InPacket := ⟨2, 0, wMgmt 8 0 [9, 0, 0, 0], []⟩
theorem test_barriersSnapshotsAndTreeResetsComplete_barrierAckLast :
    wBarriersSnapshotsAndTreeResetsComplete_barrierAckLast.mbl.inbox = wBarriersSnapshotsAndTreeResetsComplete_barrierAckLast_e :: (([] :
      List InPacket)) ∧ isMgmt Mgmt.barrierAck wBarriersSnapshotsAndTreeResetsComplete_barrierAckLast_e.packet = true ∧
      wBarriersSnapshotsAndTreeResetsComplete_barrierAckLast.mbl.barriers = [((⟨9, [2], 0⟩ : Barrier))] ∧ ((⟨9, [2], 0⟩ :
      Barrier)).number = (mgmtBody wBarriersSnapshotsAndTreeResetsComplete_barrierAckLast_e.packet).getD 0 0 ∧ ((⟨9, [2], 0⟩ :
      Barrier)).waiting = [wBarriersSnapshotsAndTreeResetsComplete_barrierAckLast_e.port] ∧
      wBarriersSnapshotsAndTreeResetsComplete_barrierAckLast.root = false ∧
      wBarriersSnapshotsAndTreeResetsComplete_barrierAckLast.events.posted = [] := by
  decide
def wSnapC : Cmd := { id := { fn := 0, ring := 2, op := 0x22, cid := 9, body := [0, 0, 0, 0, 0, 0, 0, 0, 0, 0xCA, 0x9A, 0x3B, 0, 0, 0, 0] }, phase := .started }
def wSnapS (root : Bool) (snap : Snap) (inbox : List InPacket) : State := { wTree { phase := .up } inbox with root := root, rings := { cmds := [(1, some wSnapC)], nextHandle := 2 }, mbl := { ports := [(0, { phase := .up })], inbox := inbox, snap := snap } }
theorem test_barriersSnapshotsAndTreeResetsComplete_snapshot :
    ((wSnapS true {} [] : State)).cmd? ((1 : Nat)) = some wSnapC ∧ wSnapC.mayRun Op.snapshot = true ∧ ((wSnapS true {} [] :
      State)).mbl.snap.cmd = none ∧ ((wSnapS true {} [] : State)).root = true ∧ ((wSnapS true {} [] : State)).ct + ((wSnapS true {} [] :
      State)).treeDepth * 900 + 10000 ≤ wSnapC.id.timeField := by
  decide
def wBarriersSnapshotsAndTreeResetsComplete_snapArm : State := wSnapS false {} [⟨0, 0, wMgmt 9 0xFFFFFF ([0, 0, 0, 0] ++ leBytes 8 1000000), []⟩]
def wBarriersSnapshotsAndTreeResetsComplete_snapArm_e : InPacket := ⟨0, 0, wMgmt 9 0xFFFFFF ([0, 0, 0, 0] ++ leBytes 8 1000000), []⟩
theorem test_barriersSnapshotsAndTreeResetsComplete_snapArm :
    wBarriersSnapshotsAndTreeResetsComplete_snapArm.mbl.inbox = wBarriersSnapshotsAndTreeResetsComplete_snapArm_e :: (([] : List
      InPacket)) ∧ isMgmt Mgmt.snapArm wBarriersSnapshotsAndTreeResetsComplete_snapArm_e.packet = true ∧ (mgmtBody
      wBarriersSnapshotsAndTreeResetsComplete_snapArm_e.packet).getD 0 0 = 0 ∧ wBarriersSnapshotsAndTreeResetsComplete_snapArm.root =
      false ∧ wBarriersSnapshotsAndTreeResetsComplete_snapArm.ct ≤ leField (mgmtBody
      wBarriersSnapshotsAndTreeResetsComplete_snapArm_e.packet) 4 8 := by
  decide
def wBarriersSnapshotsAndTreeResetsComplete_snapArmRoot : State := wSnapS true { cmd := some 1 } [⟨1, 0, wMgmt 9 0 [1, 0, 0, 0, 5], []⟩]
def wBarriersSnapshotsAndTreeResetsComplete_snapArmRoot_e : InPacket := ⟨1, 0, wMgmt 9 0 [1, 0, 0, 0, 5], []⟩
theorem test_barriersSnapshotsAndTreeResetsComplete_snapArmRoot :
    wBarriersSnapshotsAndTreeResetsComplete_snapArmRoot.mbl.inbox = wBarriersSnapshotsAndTreeResetsComplete_snapArmRoot_e :: (([] : List
      InPacket)) ∧ isMgmt Mgmt.snapArm wBarriersSnapshotsAndTreeResetsComplete_snapArmRoot_e.packet = true ∧ (mgmtBody
      wBarriersSnapshotsAndTreeResetsComplete_snapArmRoot_e.packet).getD 0 0 = 1 ∧
      wBarriersSnapshotsAndTreeResetsComplete_snapArmRoot.root = true ∧
      wBarriersSnapshotsAndTreeResetsComplete_snapArmRoot.mbl.snap.cmd.isSome = true := by
  decide
def wBarriersSnapshotsAndTreeResetsComplete_snapshotLatch : State := wSnapS false { armed := true } []
theorem test_barriersSnapshotsAndTreeResetsComplete_snapshotLatch :
    wBarriersSnapshotsAndTreeResetsComplete_snapshotLatch.root = false ∧
      wBarriersSnapshotsAndTreeResetsComplete_snapshotLatch.mbl.snap.armed = true ∧
      wBarriersSnapshotsAndTreeResetsComplete_snapshotLatch.mbl.snap.time ≤ wBarriersSnapshotsAndTreeResetsComplete_snapshotLatch.ct := by
  decide
def wBarriersSnapshotsAndTreeResetsComplete_treeResetStationOwn : State := { ((List.range 8).foldl (fun s st => s.put (F.HPC_SLOT_STATUS_STATE st) 4) State.reset) with root := true }
theorem test_barriersSnapshotsAndTreeResetsComplete_treeResetStationOwn :
    wBarriersSnapshotsAndTreeResetsComplete_treeResetStationOwn.root = true ∧
      wBarriersSnapshotsAndTreeResetsComplete_treeResetStationOwn.mbl.resetWait = none ∧
      wBarriersSnapshotsAndTreeResetsComplete_treeResetStationOwn.ownId ((0#24 : BitVec 24)).toNat = true ∧
      wBarriersSnapshotsAndTreeResetsComplete_treeResetStationOwn.openPorts = [] ∧ (List.range 8).all (fun st =>
      wBarriersSnapshotsAndTreeResetsComplete_treeResetStationOwn.fld (F.HPC_SLOT_STATUS_STATE st) == 4 &&
      !wBarriersSnapshotsAndTreeResetsComplete_treeResetStationOwn.fw.stationResets.contains st) = true ∧
      wBarriersSnapshotsAndTreeResetsComplete_treeResetStationOwn.fw.roll = none := by
  decide
def wBarriersSnapshotsAndTreeResetsComplete_treeResetStation : State := wRoot { phase := .up } []
theorem test_barriersSnapshotsAndTreeResetsComplete_treeResetStation :
    wBarriersSnapshotsAndTreeResetsComplete_treeResetStation.root = true ∧
      wBarriersSnapshotsAndTreeResetsComplete_treeResetStation.mbl.resetWait = none ∧
      wBarriersSnapshotsAndTreeResetsComplete_treeResetStation.ownId ((5#24 : BitVec 24)).toNat = false ∧
      wBarriersSnapshotsAndTreeResetsComplete_treeResetStation.portFor ((5#24 : BitVec 24)).toNat = some ((1 : Nat)) ∧
      wBarriersSnapshotsAndTreeResetsComplete_treeResetStation.flag (F.MBL_PORT_STATUS_UP ((1 : Nat))) = true := by
  decide
def wBarriersSnapshotsAndTreeResetsComplete_treeResetDevice : State := wRoot { phase := .up } []
theorem test_barriersSnapshotsAndTreeResetsComplete_treeResetDevice :
    wBarriersSnapshotsAndTreeResetsComplete_treeResetDevice.root = true ∧
      wBarriersSnapshotsAndTreeResetsComplete_treeResetDevice.mbl.resetWait = none ∧
      wBarriersSnapshotsAndTreeResetsComplete_treeResetDevice.ownId ((5#24 : BitVec 24)).toNat = false ∧
      wBarriersSnapshotsAndTreeResetsComplete_treeResetDevice.portFor ((5#24 : BitVec 24)).toNat = some ((1 : Nat)) ∧
      wBarriersSnapshotsAndTreeResetsComplete_treeResetDevice.flag (F.MBL_PORT_STATUS_UP ((1 : Nat))) = true := by
  decide
def wBarriersSnapshotsAndTreeResetsComplete_resetPacketStations : State := { ((List.range 8).foldl (fun s st => s.put (F.HPC_SLOT_STATUS_STATE st) 4) State.reset) with root := false, mbl := { inbox := [⟨0, 0, wPkt 8 5 0 [1, 0, 0, 0], []⟩] } }
def wBarriersSnapshotsAndTreeResetsComplete_resetPacketStations_e : InPacket := ⟨0, 0, wPkt 8 5 0 [1, 0, 0, 0], []⟩
theorem test_barriersSnapshotsAndTreeResetsComplete_resetPacketStations :
    wBarriersSnapshotsAndTreeResetsComplete_resetPacketStations.root = false ∧
      wBarriersSnapshotsAndTreeResetsComplete_resetPacketStations.mbl.inbox =
      wBarriersSnapshotsAndTreeResetsComplete_resetPacketStations_e :: (([] : List InPacket)) ∧
      wBarriersSnapshotsAndTreeResetsComplete_resetPacketStations_e.packet.type = Pkt.reset ∧
      wBarriersSnapshotsAndTreeResetsComplete_resetPacketStations_e.port = 0 ∧
      wBarriersSnapshotsAndTreeResetsComplete_resetPacketStations_e.packet.payload.getD 0 0 = 1 ∧ (List.range 8).all (fun st =>
      wBarriersSnapshotsAndTreeResetsComplete_resetPacketStations.fld (F.HPC_SLOT_STATUS_STATE st) == 4 &&
      !wBarriersSnapshotsAndTreeResetsComplete_resetPacketStations.fw.stationResets.contains st) = true ∧
      wBarriersSnapshotsAndTreeResetsComplete_resetPacketStations.fw.roll = none := by
  decide
def wBarriersSnapshotsAndTreeResetsComplete_treeResetAck : State := { (wRoot { phase := .up } []).put F.MBL_RESET_BUSY 1 with mbl := { inbox := [⟨1, 0, wPkt 8 0 0 [1, 0, 0, 0], []⟩], resetWait := some (1, [1]) } }
def wBarriersSnapshotsAndTreeResetsComplete_treeResetAck_e : InPacket := ⟨1, 0, wPkt 8 0 0 [1, 0, 0, 0], []⟩
theorem test_barriersSnapshotsAndTreeResetsComplete_treeResetAck :
    wBarriersSnapshotsAndTreeResetsComplete_treeResetAck.root = true ∧ wBarriersSnapshotsAndTreeResetsComplete_treeResetAck.mbl.inbox =
      wBarriersSnapshotsAndTreeResetsComplete_treeResetAck_e :: (([] : List InPacket)) ∧
      wBarriersSnapshotsAndTreeResetsComplete_treeResetAck_e.packet.type = Pkt.reset ∧
      wBarriersSnapshotsAndTreeResetsComplete_treeResetAck_e.port = ((1 : Nat)) ∧
      wBarriersSnapshotsAndTreeResetsComplete_treeResetAck.mbl.resetWait = some (1, [((1 : Nat))]) ∧
      wBarriersSnapshotsAndTreeResetsComplete_treeResetAck.fw.stationResets = [] := by
  decide
def wIdent (op : Nat) (body : List Nat) : Cmd := { id := { fn := 1, ring := 2, op := op, cid := 9, body := body }, phase := .started, data := { src := [⟨65536, 4096, 0⟩] } }
def wIdentS (op : Nat) (body : List Nat) : State := { wWith (wIdent op body) with regs := (State.reset.put (F.HIF_FUNC_STATUS_READY 1) 1).regs }
def wRecordsAndLogsAnswer_identifyController : State := wIdentS 0x18 [0, 0]
theorem test_recordsAndLogsAnswer_identifyController :
    wRecordsAndLogsAnswer_identifyController.cmd? ((1 : Nat)) = some ((wIdent 0x18 [0, 0] : Cmd)) ∧ ((wIdent 0x18 [0, 0] : Cmd)).mayRun
      Op.identify = true ∧ wRecordsAndLogsAnswer_identifyController.mayDeliver ((1 : Nat)) = true ∧ ((wIdent 0x18 [0, 0] : Cmd)).origin =
      .ring ∧ ((wIdent 0x18 [0, 0] : Cmd)).mute = false ∧ ((wIdent 0x18 [0, 0] : Cmd)).id.body.getD 0 0 = 0 := by
  decide
def wRecordsAndLogsAnswer_identifyStation : State := wIdentS 0x18 [1, 3]
theorem test_recordsAndLogsAnswer_identifyStation :
    wRecordsAndLogsAnswer_identifyStation.cmd? ((1 : Nat)) = some ((wIdent 0x18 [1, 3] : Cmd)) ∧ ((wIdent 0x18 [1, 3] : Cmd)).mayRun
      Op.identify = true ∧ wRecordsAndLogsAnswer_identifyStation.mayDeliver ((1 : Nat)) = true ∧ ((wIdent 0x18 [1, 3] : Cmd)).origin =
      .ring ∧ ((wIdent 0x18 [1, 3] : Cmd)).mute = false ∧ ((wIdent 0x18 [1, 3] : Cmd)).id.body.getD 0 0 = 1 := by
  decide
def wRecordsAndLogsAnswer_getLog : State := wIdentS 0x19 [4, 0, 0, 0, 16, 0, 0, 0, 32, 0, 0, 0]
def wRecordsAndLogsAnswer_getLog_c : Cmd := wIdent 0x19 [4, 0, 0, 0, 16, 0, 0, 0, 32, 0, 0, 0]
def wRecordsAndLogsAnswer_getLog_bs : List Nat := (wIdentS 0x19 [4, 0, 0, 0, 16, 0, 0, 0, 32, 0, 0, 0]).memoryLog
theorem test_recordsAndLogsAnswer_getLog :
    wRecordsAndLogsAnswer_getLog.cmd? ((1 : Nat)) = some wRecordsAndLogsAnswer_getLog_c ∧ wRecordsAndLogsAnswer_getLog_c.mayRun Op.getLog
      = true ∧ wRecordsAndLogsAnswer_getLog.mayDeliver ((1 : Nat)) = true ∧ wRecordsAndLogsAnswer_getLog_c.origin = .ring ∧
      wRecordsAndLogsAnswer_getLog_c.mute = false ∧ wRecordsAndLogsAnswer_getLog_c.id.body.getD 0 0 ≠ 1 ∧
      wRecordsAndLogsAnswer_getLog.logBytes (wRecordsAndLogsAnswer_getLog_c.id.body.getD 0 0)
      (wRecordsAndLogsAnswer_getLog_c.id.body.getD 1 0) = some wRecordsAndLogsAnswer_getLog_bs ∧ leField
      wRecordsAndLogsAnswer_getLog_c.id.body 4 4 + leField wRecordsAndLogsAnswer_getLog_c.id.body 8 4 ≤
      wRecordsAndLogsAnswer_getLog_bs.length := by
  decide +kernel
theorem test_recordsAndLogsAnswer_getLogNone :
    ((wIdentS 0x19 [9] : State)).cmd? ((1 : Nat)) = some ((wIdent 0x19 [9] : Cmd)) ∧ ((wIdent 0x19 [9] : Cmd)).mayRun Op.getLog = true ∧
      ((wIdentS 0x19 [9] : State)).mayDeliver ((1 : Nat)) = true ∧ ((wIdent 0x19 [9] : Cmd)).mute = false ∧ ((wIdentS 0x19 [9] :
      State)).logBytes (((wIdent 0x19 [9] : Cmd)).id.body.getD 0 0) (((wIdent 0x19 [9] : Cmd)).id.body.getD 1 0) = none := by
  decide
def wHost : State := { State.reset with fw := { booted := true } }
theorem test_registerAccessCommandsComplete_registerRead :
    ((.host 0 : Requester)) = .host ((0 : Fin 4)) ∧ wHost.fw.booted = true ∧ wHost.fld (F.HIF_FUNC_STATUS_D_STATE ((0 : Fin 4))) ≠ 3 ∧
      wHost.flag (F.HIF_FUNC_STATUS_FLR_BUSY ((0 : Fin 4))) = false := by
  decide
theorem test_registerAccessCommandsComplete_registerReadSpindle :
    ((.host 0 : Requester)) = .host ((0 : Fin 4)) ∧ ((0 : Fin 4)) = 0 ∧ wHost.fw.booted = true ∧ wHost.fld (F.HIF_FUNC_STATUS_D_STATE 0)
      = 0 ∧ wHost.flag (F.HIF_FUNC_STATUS_FLR_BUSY 0) = false ∧ ((0x40310#20 : BitVec 20)).toNat = 0x40010 + 0x100 * ((3 : Fin 8)).val ∧
      ((4 : Nat)) = 4 := by
  decide
theorem test_registerAccessCommandsComplete_registerWrite :
    ((.host 0 : Requester)) = .host 0 ∧ wHost.fw.booted = true ∧ wHost.fld (F.HIF_FUNC_STATUS_D_STATE 0) = 0 ∧ wHost.flag
      (F.HIF_FUNC_STATUS_FLR_BUSY 0) = false ∧ ((0x40310#20 : BitVec 20)).toNat = 0x40010 + 0x100 * ((3 : Fin 8)).val ∧ ((⟨4, true,
      false⟩ : WriteShape)) = ⟨4, true, false⟩ ∧ (([0x00120034#32] : List Word)) = [((0x00120034#32 : Word))] := by
  decide
def wRegisterAccessCommandsComplete_registerWriteClears : State := (wHost.put (F.SPN_STATUS_ROTOR_LOSS 3) 1).put (F.SPN_STATUS_CAUGHT 3) 1
theorem test_registerAccessCommandsComplete_registerWriteClears :
    ((.host 0 : Requester)) = .host 0 ∧ wRegisterAccessCommandsComplete_registerWriteClears.fw.booted = true ∧
      wRegisterAccessCommandsComplete_registerWriteClears.fld (F.HIF_FUNC_STATUS_D_STATE 0) = 0 ∧
      wRegisterAccessCommandsComplete_registerWriteClears.flag (F.HIF_FUNC_STATUS_FLR_BUSY 0) = false ∧ ((0x4030C#20 : BitVec 20)).toNat
      = 0x4000C + 0x100 * ((3 : Fin 8)).val ∧ ((⟨4, true, false⟩ : WriteShape)) = ⟨4, true, false⟩ ∧ (([1#32] : List Word)) = [((1#32 :
      Word))] ∧ ((1#32 : Word)).toNat.testBit 4 = false := by
  decide
def wRegisterAccessCommandsComplete_remoteRead : State := wRoot { phase := .up } []
theorem test_registerAccessCommandsComplete_remoteRead :
    wRegisterAccessCommandsComplete_remoteRead.root = true ∧ wRegisterAccessCommandsComplete_remoteRead.mbl.remBusy = none := by
  decide
def wRegisterAccessCommandsComplete_remoteWrite : State := wRoot { phase := .up } []
theorem test_registerAccessCommandsComplete_remoteWrite :
    wRegisterAccessCommandsComplete_remoteWrite.root = true ∧ wRegisterAccessCommandsComplete_remoteWrite.mbl.remBusy = none := by
  decide
def wRegisterAccessCommandsComplete_remoteReadRefused : State := wTree { phase := .up } []
theorem test_registerAccessCommandsComplete_remoteReadRefused :
    (wRegisterAccessCommandsComplete_remoteReadRefused.root = false ∨
      wRegisterAccessCommandsComplete_remoteReadRefused.mbl.remBusy.isSome = true) := by
  decide
def wRegisterAccessCommandsComplete_regRead : State := wTree { phase := .up } [⟨0, 0, wMgmt 4 5 [0x10, 3, 4, 0], []⟩]
def wRegisterAccessCommandsComplete_regRead_e : InPacket := ⟨0, 0, wMgmt 4 5 [0x10, 3, 4, 0], []⟩
theorem test_registerAccessCommandsComplete_regRead :
    wRegisterAccessCommandsComplete_regRead.mbl.inbox = wRegisterAccessCommandsComplete_regRead_e :: (([] : List InPacket)) ∧ isMgmt
      Mgmt.regRead wRegisterAccessCommandsComplete_regRead_e.packet = true ∧ leField (mgmtBody
      wRegisterAccessCommandsComplete_regRead_e.packet) 0 4 = 0x40010 + 0x100 * ((3 : Fin 8)).val := by
  decide
def wRegisterAccessCommandsComplete_regWrite : State := wTree { phase := .up } [⟨0, 0, wMgmt 5 5 [0x10, 3, 4, 0, 1, 2, 3, 4], []⟩]
def wRegisterAccessCommandsComplete_regWrite_e : InPacket := ⟨0, 0, wMgmt 5 5 [0x10, 3, 4, 0, 1, 2, 3, 4], []⟩
theorem test_registerAccessCommandsComplete_regWrite :
    wRegisterAccessCommandsComplete_regWrite.mbl.inbox = wRegisterAccessCommandsComplete_regWrite_e :: (([] : List InPacket)) ∧ isMgmt
      Mgmt.regWrite wRegisterAccessCommandsComplete_regWrite_e.packet = true ∧ leField (mgmtBody
      wRegisterAccessCommandsComplete_regWrite_e.packet) 0 4 = 0x40010 + 0x100 * ((3 : Fin 8)).val ∧ ((0x04030201 : Nat)) = leField
      (mgmtBody wRegisterAccessCommandsComplete_regWrite_e.packet) 4 4 ∧ ((0x04030201 : Nat)) < 2 ^ 32 ∧
      wRegisterAccessCommandsComplete_regWrite.ownId wRegisterAccessCommandsComplete_regWrite_e.packet.src = false ∧
      wRegisterAccessCommandsComplete_regWrite.portFor wRegisterAccessCommandsComplete_regWrite_e.packet.src = none ∧
      wRegisterAccessCommandsComplete_regWrite.root = false ∧ wRegisterAccessCommandsComplete_regWrite.flag (F.MBL_PORT_STATUS_UP 0) =
      true := by
  decide
def wRegisterAccessCommandsComplete_regData : State := { wRoot { phase := .up } [] with mbl := { inbox := [⟨1, 0, { wMgmt 6 0 [0x10, 3, 4, 0, 1, 2, 3, 4] with tag := 9 }, []⟩], remBusy := some 9 } }
def wRegisterAccessCommandsComplete_regData_e : InPacket := ⟨1, 0, { wMgmt 6 0 [0x10, 3, 4, 0, 1, 2, 3, 4] with tag := 9 }, []⟩
theorem test_registerAccessCommandsComplete_regData :
    wRegisterAccessCommandsComplete_regData.mbl.inbox = wRegisterAccessCommandsComplete_regData_e :: (([] : List InPacket)) ∧ isMgmt
      Mgmt.regData wRegisterAccessCommandsComplete_regData_e.packet = true ∧ wRegisterAccessCommandsComplete_regData.mbl.remBusy = some
      wRegisterAccessCommandsComplete_regData_e.packet.tag := by
  decide
def wRegisterAccessCommandsComplete_remoteAccessTimeout : State := { wRoot { phase := .up } [] with mbl := { remBusy := some 9 } }
theorem test_registerAccessCommandsComplete_remoteAccessTimeout :
    wRegisterAccessCommandsComplete_remoteAccessTimeout.mbl.remBusy.isSome = true := by
  decide

end Sys2Proof.Tests
end

section
/-!
PROOFS. The scrambler (R50) and the frame (R48): the k-th output bit of the register, and what the frame holds at each index.
-/
namespace Sys2Proof.Machine

/-- The scrambler's output bit for a register value (R50). -/
def scramblerOut (st : Nat) : Bool := xor (st.testBit 14) (st.testBit 13)

/-- The register value that follows (R50). -/
def scramblerNext (st : Nat) : Nat := (st * 2 + b2n (scramblerOut st)) % 2 ^ 15

/-- The register value `k` steps after `st` (R50). -/
def scramblerAfter (st : Nat) : Nat → Nat
  | 0 => st
  | k + 1 => scramblerNext (scramblerAfter st k)

theorem scramblerAfter_next (st k : Nat) : scramblerAfter (scramblerNext st) k = scramblerAfter st (k + 1) := by
  induction k with
  | zero => rfl
  | succ k ih => exact congrArg scramblerNext ih

/-- The register value at data-area bit `k` of the sector at an address (R50). -/
def scramblerState (psa k : Nat) : Nat := scramblerAfter (scramblerSeed psa) k

theorem scramblerState_succ (psa k : Nat) :
    scramblerState psa (k + 1) = scramblerNext (scramblerState psa k) := rfl

theorem scramblerBits_succ (n st : Nat) :
    scramblerBits (n + 1) st = scramblerOut st :: scramblerBits n (scramblerNext st) := by
  rw [scramblerNext, Nat.mul_comm st 2]
  rfl

@[simp] theorem scramblerBits_length (n st : Nat) : (scramblerBits n st).length = n := by
  induction n generalizing st with
  | zero => rfl
  | succ n ih => rw [scramblerBits_succ, List.length_cons, ih]

theorem scramblerBits_getElem? {n k : Nat} (st : Nat) (hk : k < n) :
    (scramblerBits n st)[k]? = some (scramblerOut (scramblerAfter st k)) := by
  induction n generalizing st k with
  | zero => omega
  | succ n ih =>
    rw [scramblerBits_succ]
    cases k with
    | zero => rfl
    | succ k => rw [List.getElem?_cons_succ, ih _ (by omega), scramblerAfter_next]

@[simp] theorem msbBits_length (n v : Nat) : (msbBits n v).length = n := by simp [msbBits]

/-- What a frame records ahead of its data area: the preamble and the sync mark (R48). -/
def frameHead : List Bool := (List.replicate 24 (msbBits 8 0xF0)).flatten ++ msbBits 48 0xFFF000E34B6D

/-- The secondary mark within the data area (R48). -/
def frameMark : List Bool := msbBits 48 0x000FFF1CB492

/-- The postamble (R48). -/
def framePostamble : List Bool := msbBits 64 0xF0F0F0F0F0F0F0F0

/-- The data area of a frame without the secondary mark (R50). -/
def frameData (psa w : Nat) : List Bool :=
  (List.range 49824).zipWith (fun k s => xor (w.testBit k) s) (scramblerBits 49824 (scramblerSeed psa))

@[simp] theorem frameHead_length : frameHead.length = 240 := by simp [frameHead]
@[simp] theorem frameMark_length : frameMark.length = 48 := msbBits_length ..
@[simp] theorem framePostamble_length : framePostamble.length = 64 := msbBits_length ..
@[simp] theorem frameData_length (psa w : Nat) : (frameData psa w).length = 49824 := by simp [frameData]

theorem frameData_getElem? (psa w : Nat) {k : Nat} (hk : k < 49824) :
    (frameData psa w)[k]? = some (xor (w.testBit k) (scramblerOut (scramblerState psa k))) := by
  rw [frameData, List.getElem?_zipWith, List.getElem?_range hk, scramblerBits_getElem? _ hk]
  rfl

theorem frameBits_eq (psa w : Nat) : frameBits psa w =
    frameHead ++ (frameData psa w).take 1024 ++ frameMark ++ (frameData psa w).drop 1024 ++ framePostamble := rfl

theorem frameBits_length (psa w : Nat) : (frameBits psa w).length = 50176 := by simp [frameBits_eq]

section
variable (psa w : Nat) {i : Nat}

theorem frameBits_getElem?_head (h : i < 240) : (frameBits psa w)[i]? = frameHead[i]? := by
  simp only [frameBits_eq, List.append_assoc]
  exact List.getElem?_append_left (by simpa using h)

theorem frameBits_getElem?_dataBeforeMark (h : i < 1024) :
    (frameBits psa w)[240 + i]? = (frameData psa w)[i]? := by
  rw [frameBits_eq, List.getElem?_append_left (by simp; omega), List.getElem?_append_left (by simp; omega),
    List.getElem?_append_left (by simp; omega), List.getElem?_append_right (by simp)]
  simp [h]

theorem frameBits_getElem?_mark (h : i < 48) : (frameBits psa w)[1264 + i]? = frameMark[i]? := by
  rw [frameBits_eq, List.getElem?_append_left (by simp; omega), List.getElem?_append_left (by simp; omega),
    List.getElem?_append_right (by simp)]
  simp

theorem frameBits_getElem?_dataAfterMark (h1 : 1024 ≤ i) (h2 : i < 49824) :
    (frameBits psa w)[288 + i]? = (frameData psa w)[i]? := by
  rw [frameBits_eq, List.getElem?_append_left (by simp; omega), List.getElem?_append_right (by simp; omega),
    List.getElem?_drop]
  have index : 1024 + (288 + i - 1312) = i := by omega
  simp [index]

theorem frameBits_getElem?_postamble : (frameBits psa w)[50112 + i]? = framePostamble[i]? := by
  rw [frameBits_eq, List.getElem?_append_right (by simp)]
  simp

/-- Data-area bit `k` stands at index 240 + `k` ahead of the secondary mark and at 288 + `k` behind it (R48). -/
theorem frameBits_getElem?_data (h : i < 49824) :
    (frameBits psa w)[if i < 1024 then 240 + i else 288 + i]? = (frameData psa w)[i]? := by
  split
  case isTrue before => exact frameBits_getElem?_dataBeforeMark psa w before
  case isFalse after => exact frameBits_getElem?_dataAfterMark psa w (by omega) h

/-- Outside the data area no bit depends on the address or the codeword (R50). -/
theorem frameBits_getElem?_unscrambled (psa' w' : Nat)
    (h : i < 240 ∨ (1264 ≤ i ∧ i < 1312) ∨ (50112 ≤ i ∧ i < 50176)) :
    (frameBits psa w)[i]? = (frameBits psa' w')[i]? := by
  obtain head | ⟨mark, markEnd⟩ | ⟨postamble, -⟩ := h
  · rw [frameBits_getElem?_head _ _ head, frameBits_getElem?_head _ _ head]
  · obtain ⟨j, rfl⟩ := Nat.exists_eq_add_of_le mark
    rw [frameBits_getElem?_mark _ _ (by omega), frameBits_getElem?_mark _ _ (by omega)]
  · obtain ⟨j, rfl⟩ := Nat.exists_eq_add_of_le postamble
    rw [frameBits_getElem?_postamble, frameBits_getElem?_postamble]

end

/-- Settles O13: the register values are the iterates of the rule's step from the seed of the address. -/
theorem scramblerFollowsTheRule : Obligations.ScramblerFollowsTheRule := by
  intro psa w
  refine ⟨scramblerState psa, rfl, scramblerState_succ psa, fun k hk => ?_, frameBits_length psa w,
    fun psa' w' i h => frameBits_getElem?_unscrambled psa w psa' w' h⟩
  rw [frameBits_getElem?_data psa w hk, frameData_getElem? psa w hk]
  rfl

end Sys2Proof.Machine
end

section
/-!
PROOFS. The signals of a sample (R77–R79): the stages by which they enter an LP's table, what each stage puts and leaves, and
the signals on a Format S4 disc.
-/
namespace Sys2Proof.Machine

@[simp] theorem State.lp_setLp_same (s : State) (n : Nat) (p : LoopProc) : (s.setLp n p).lp n = p :=
  Table.at_put_same ..

@[simp] theorem State.lp_when_put (s : State) (c : Bool) (f : Fld) (v n : Nat) :
    (s.when c (fun s => s.put f v)).lp n = s.lp n := by
  cases c <;> rfl

/-- The offset-corrected input `i` of a sample, 0 to 3 being A to D (R75). -/
def State.inputCode (s : State) (n : Nat) (means : List Nat) (i : Nat) : Rat := ((s.corrected n means).getD i 0 : Nat)

/-- ΣM in 1/16 code (R77). -/
def State.mainSum (s : State) (n : Nat) (means : List Nat) : Rat :=
  let x := s.inputCode n means
  x 0 + x 1 + x 2 + x 3

/-- MPP before it is made a signal (R77). -/
def State.mainPushPull (s : State) (n : Nat) (means : List Nat) : Rat :=
  let x := s.inputCode n means
  ratio ((x 0 + x 3) - (x 1 + x 2)) (s.mainSum n means)

/-- ΣM is below SUM_MIN (R78). -/
def State.mainLow (s : State) (n : Nat) (means : List Nat) : Bool :=
  decide (s.mainSum n means < 16 * (s.fld (F.SRV_ERR_CFG_SUM_MIN n) : Rat))

/-- FE, MPP, TE, LPE and TLE put into the table, or held (R77, R78). -/
def putMain (low : Bool) (fe mpp te lpe tle : Int) (t : Table Int) : Table Int :=
  if low then t else Table.put 0 (Table.put 0 (Table.put 0 (Table.put 0 (Table.put 0 t 1 fe) 2 mpp) 3 te) 4 lpe) 5 tle

/-- The part of the side spots in TE and LPE, none on Format S4 (R77, R79). -/
def State.sideTerm (s : State) (n : Nat) (spp1 spp2 : Rat) : Rat :=
  if s.puS4 n then 0 else (s.fld (F.SRV_ERR_CFG_K_DPP n) : Rat) / 16384 * (spp1 + spp2) / 2

theorem State.sideTerm_s4 {s : State} {n : Nat} (s4 : s.puS4 n = true) (spp1 spp2 : Rat) : s.sideTerm n spp1 spp2 = 0 :=
  if_pos s4

/-- BAE, SPP1 and SPP2 put into the table, or held (R77, R78); BAE is zero on Format S4 (R79). -/
def putSide (low s4 : Bool) (spp1 spp2 : Rat) (t : Table Int) : Table Int :=
  let t := if low then t else
    Table.put 0 (Table.put 0 (Table.put 0 t 6 (if s4 then 0 else toSignal ((spp1 - spp2) / 2))) 8 (toSignal spp1)) 9 (toSignal spp2)
  if s4 then Table.put 0 t 6 0 else t

/-- SUM and the inputs put into the table (R77). -/
def putInputs (sum : Int) (input : Nat → Int) (t : Table Int) : Table Int :=
  (List.range 10).foldl (fun t i => Table.put 0 t (16 + i) (input i)) (Table.put 0 t 7 sum)

theorem putMain_low (fe mpp te lpe tle : Int) (t : Table Int) : putMain true fe mpp te lpe tle t = t := rfl

/-- MPP, TE and LPE as formed where ΣM is not low. -/
theorem putMain_formed (fe mpp te lpe tle : Int) (t : Table Int) :
    Table.at 0 (putMain false fe mpp te lpe tle t) 2 = mpp ∧ Table.at 0 (putMain false fe mpp te lpe tle t) 3 = te ∧
      Table.at 0 (putMain false fe mpp te lpe tle t) 4 = lpe := by
  simp [putMain, Table.at_put]

theorem putSide_at_main (low s4 : Bool) (spp1 spp2 : Rat) (t : Table Int) {c : Nat} (hc : c ≤ 5) :
    Table.at 0 (putSide low s4 spp1 spp2 t) c = Table.at 0 t c := by
  have h6 : c ≠ 6 := by omega
  have h8 : c ≠ 8 := by omega
  have h9 : c ≠ 9 := by omega
  cases low <;> cases s4 <;> simp [putSide, Table.at_put, h6, h8, h9]

theorem putSide_bae_s4 (low : Bool) (spp1 spp2 : Rat) (t : Table Int) :
    Table.at 0 (putSide low true spp1 spp2 t) 6 = 0 := Table.at_put_same (0 : Int) _ 6 0

/-- The inputs stand from code 16 on, however many there are. -/
theorem foldl_putInput_at (is : List Nat) (input : Nat → Int) (t : Table Int) {c : Nat} (hc : c < 16) :
    Table.at 0 (is.foldl (fun t i => Table.put 0 t (16 + i) (input i)) t) c = Table.at 0 t c := by
  induction is generalizing t with
  | nil => rfl
  | cons i is ih =>
    have hne : c ≠ 16 + i := by omega
    rw [List.foldl_cons, ih, Table.at_put, if_neg hne]

theorem putInputs_at_error (sum : Int) (input : Nat → Int) (t : Table Int) {c : Nat} (hc : c ≤ 6) :
    Table.at 0 (putInputs sum input t) c = Table.at 0 t c := by
  have hne : c ≠ 7 := by omega
  rw [putInputs, foldl_putInput_at _ _ _ (by omega), Table.at_put, if_neg hne]

/-- An LP's table after a sample, by its three stages (R77–R79). -/
theorem formSignals_sig (s : State) (n : Nat) (means : List Nat) :
    ∃ (fe tle sum : Int) (input : Nat → Int) (lowSide : Bool) (spp1 spp2 : Rat),
      ((s.formSignals n means).lp n).sig = putInputs sum input (putSide lowSide (s.puS4 n) spp1 spp2
        (putMain (s.mainLow n means) fe (toSignal (s.mainPushPull n means))
          (toSignal (s.mainPushPull n means - s.sideTerm n spp1 spp2))
          (toSignal (s.mainPushPull n means + s.sideTerm n spp1 spp2)) tle (s.lp n).sig)) := by
  simp only [State.formSignals, State.lp_when_put, State.lp_setLp_same]
  exact ⟨_, _, _, _, _, _, _, rfl⟩

section
variable (s : State) (n : Nat) (means : List Nat)

theorem formSignals_bae_s4 (s4 : s.puS4 n = true) : Table.at 0 ((s.formSignals n means).lp n).sig 6 = 0 := by
  obtain ⟨fe, tle, sum, input, lowSide, spp1, spp2, table⟩ := formSignals_sig s n means
  rw [table, putInputs_at_error _ _ _ (by omega), s4, putSide_bae_s4]

/-- The signals of the main spot are as their own stage puts or holds them: the later stages put other codes. -/
theorem formSignals_at_main : ∃ (fe tle : Int) (spp1 spp2 : Rat), ∀ c ≤ 5,
    Table.at 0 ((s.formSignals n means).lp n).sig c = Table.at 0 (putMain (s.mainLow n means) fe
      (toSignal (s.mainPushPull n means)) (toSignal (s.mainPushPull n means - s.sideTerm n spp1 spp2))
      (toSignal (s.mainPushPull n means + s.sideTerm n spp1 spp2)) tle (s.lp n).sig) c := by
  obtain ⟨fe, tle, sum, input, lowSide, spp1, spp2, table⟩ := formSignals_sig s n means
  refine ⟨fe, tle, spp1, spp2, fun c hc => ?_⟩
  rw [table, putInputs_at_error _ _ _ (by omega), putSide_at_main _ _ _ _ _ hc]

theorem formSignals_mainHeld (low : s.mainLow n means = true) {c : Nat} (hc : c ≤ 5) :
    Table.at 0 ((s.formSignals n means).lp n).sig c = Table.at 0 (s.lp n).sig c := by
  obtain ⟨fe, tle, spp1, spp2, main⟩ := formSignals_at_main s n means
  rw [main c hc, low, putMain_low]

theorem formSignals_main_s4 (s4 : s.puS4 n = true) (formed : s.mainLow n means = false) :
    let sig (c : Nat) : Int := Table.at 0 ((s.formSignals n means).lp n).sig c
    let mpp := toSignal (s.mainPushPull n means)
    sig 2 = mpp ∧ sig 3 = mpp ∧ sig 4 = mpp := by
  obtain ⟨fe, tle, spp1, spp2, main⟩ := formSignals_at_main s n means
  rw [State.sideTerm_s4 s4, Rat.sub_eq_add_neg, Rat.neg_zero, Rat.add_zero, formed] at main
  dsimp only
  rw [main 2 (by omega), main 3 (by omega), main 4 (by omega)]
  exact putMain_formed ..

end

/-- Settles O14: K_DPP weighs only the side spots' term, which is zero on Format S4. -/
theorem sideSpotsDoNotCountOnFormatS4 : Obligations.SideSpotsDoNotCountOnFormatS4 := by
  intro s n means s4
  refine ⟨formSignals_bae_s4 s n means s4, fun atLeast => ?_, fun below c _ hc => ?_⟩
  · have formed : s.mainLow n means = false := decide_eq_false (Rat.not_lt.mpr atLeast)
    obtain ⟨mpp, te, lpe⟩ := formSignals_main_s4 s n means s4 formed
    exact ⟨mpp, te.trans mpp.symm, lpe.trans mpp.symm⟩
  · exact formSignals_mainHeld s n means (decide_eq_true below) hc

end Sys2Proof.Machine
end

section
/-!
PROOFS. The loop period (R99): what a write of SRV_PERIOD does, and that sample instants lie P counts of the servo timebase apart
(R72, R100).
-/
namespace Sys2Proof.Machine

/-! ## Fields that an operation does not set -/

theorem Fld.key_ne_of_id {g f : Fld} (h : (g.id % 1024 == f.id % 1024) = false) : g.key ≠ f.key := by
  have ids : g.id % 1024 ≠ f.id % 1024 := ne_of_beq_false h
  unfold Fld.key
  omega

section
variable (s : State) {f g : Fld}

theorem State.fld_incSat_ne (n : Nat) (h : g.key ≠ f.key) : (s.incSat f n).fld g = s.fld g := s.fld_put_ne _ h

theorem State.fld_setFlag_ne (b : Bool) (h : g.key ≠ f.key) : (s.setFlag f b).fld g = s.fld g := s.fld_put_ne _ h

theorem State.count_regs (lo hi : Fld) (n : Nat) :
    (s.count lo hi n).regs = (s.putPair lo hi (min (s.pair lo hi + n) (2 ^ 48 - 1))).regs := by
  by_cases saturates : min (s.pair lo hi + n) (2 ^ 48 - 1) = 2 ^ 48 - 1 ∧ ¬ s.events.saturated.contains lo.key
  · exact (congrArg State.regs (if_pos saturates)).trans (State.post_regs ..)
  · exact congrArg State.regs (if_neg saturates)

theorem State.fld_count_ne {lo hi : Fld} (n : Nat) (hlo : g.key ≠ lo.key) (hhi : g.key ≠ hi.key) :
    (s.count lo hi n).fld g = s.fld g := by
  rw [State.fld_of_regs (s.count_regs lo hi n), State.putPair, State.fld_put_ne _ _ hhi, State.fld_put_ne _ _ hlo]

@[simp] theorem State.fld_setLp (n : Nat) (p : LoopProc) : (s.setLp n p).fld g = s.fld g := rfl

@[simp] theorem State.fld_modLp (n : Nat) (p : LoopProc → LoopProc) : (s.modLp n p).fld g = s.fld g := rfl

theorem State.fld_when {c : Bool} {op : State → State} (keeps : (op s).fld g = s.fld g) : (s.when c op).fld g = s.fld g := by
  cases c
  · rfl
  · exact keeps

theorem State.fld_forEach {α : Type} (xs : List α) {op : State → α → State} (keeps : ∀ t x, (op t x).fld g = t.fld g) :
    (s.forEach xs op).fld g = s.fld g := by
  induction xs generalizing s with
  | nil => rfl
  | cons x xs ih => exact (ih (op s x)).trans (keeps s x)

end

/-! ## What keeps the loop period, and what keeps the timebase -/

theorem Frame.period {W : Nat} {s t : State} (h : Frame W s t) (outside : W.testBit Part.srvRegs.idx = false) :
    t.fld F.SRV_PERIOD_P = s.fld F.SRV_PERIOD_P := h .srvRegs outside F.SRV_PERIOD_P rfl

theorem Frame.timebase {W : Nat} {s t : State} (h : Frame W s t) (outside : W.testBit Part.timebase.idx = false) :
    t.timebase = s.timebase := h .timebase outside

theorem mergeWord_period (s : State) (w requester : Nat) :
    (s.mergeWord w requester).fld F.SRV_PERIOD_P = s.fld F.SRV_PERIOD_P :=
  (State.mergeWord_frame (Frame.refl _ s) w requester ⟨Nat.and_self 337641536⟩).period rfl

theorem paceBoost_period (s : State) : s.paceBoost.fld F.SRV_PERIOD_P = s.fld F.SRV_PERIOD_P :=
  (State.paceBoost_frame (Frame.refl _ s) ⟨Nat.and_self 262144⟩).period rfl

theorem updateCost_period (s : State) (n : Nat) : (s.updateCost n).fld F.SRV_PERIOD_P = s.fld F.SRV_PERIOD_P := by
  unfold State.updateCost
  extract_lets fast sled costs excess was flagged
  calc _ = flagged.fld F.SRV_PERIOD_P := State.fld_when _ (State.fld_post ..)
    _ = costs.fld F.SRV_PERIOD_P := State.fld_setFlag_ne _ _ (Fld.key_ne_of_id rfl)
    _ = s.fld F.SRV_PERIOD_P := by
      rw [State.fld_put_ne _ _ (Fld.key_ne_of_id rfl), State.fld_put_ne _ _ (Fld.key_ne_of_id rfl)]

theorem lateSample_period (s : State) (n mask : Nat) :
    (s.lateSample n mask).fld F.SRV_PERIOD_P = s.fld F.SRV_PERIOD_P := by
  unfold State.lateSample
  dsimp only
  split
  · rfl
  · rw [paceBoost_period, State.fld_count_ne _ _ (Fld.key_ne_of_id rfl) (Fld.key_ne_of_id rfl),
      State.fld_put_ne _ _ (Fld.key_ne_of_id rfl), State.fld_incSat_ne _ _ (Fld.key_ne_of_id rfl),
      State.fld_raise_ne _ _ _ _ (Fld.key_ne_of_id rfl), State.fld_setLp]

theorem traceEntry_period (s : State) (n : Nat) (skipped : Bool) :
    (s.traceEntry n skipped).fld F.SRV_PERIOD_P = s.fld F.SRV_PERIOD_P := by
  unfold State.traceEntry
  dsimp only
  rw [State.fld_put_ne _ _ (Fld.key_ne_of_id rfl), State.fld_put_ne _ _ (Fld.key_ne_of_id rfl),
    State.fld_forEach _ _ fun _ _ => mergeWord_period .., State.fld_modLp]

theorem traceSample_period (s : State) (n : Nat) (skipped : Bool) :
    (s.traceSample n skipped).fld F.SRV_PERIOD_P = s.fld F.SRV_PERIOD_P := by
  unfold State.traceSample
  extract_lets p t state trig v moved entered post
  have recorded : entered.fld F.SRV_PERIOD_P = s.fld F.SRV_PERIOD_P := traceEntry_period ..
  split
  · rfl
  split
  · rfl
  split
  · rw [State.fld_modLp, State.fld_put_ne _ _ (Fld.key_ne_of_id rfl), recorded]
  split
  · rw [State.fld_modLp, recorded]
  · exact recorded

theorem settleSample_period (s : State) (n : Nat) : (s.settleSample n).fld F.SRV_PERIOD_P = s.fld F.SRV_PERIOD_P := by
  unfold State.settleSample
  extract_lets p skipped late cleared counted traced
  have hlate : late.fld F.SRV_PERIOD_P = s.fld F.SRV_PERIOD_P := by
    unfold late
    split
    · rw [State.fld_put_ne _ _ (Fld.key_ne_of_id rfl), lateSample_period]
    split
    · exact lateSample_period ..
    · rfl
  have hcounted : counted.fld F.SRV_PERIOD_P = late.fld F.SRV_PERIOD_P := by
    unfold counted
    split
    · rfl
    · rw [State.fld_put_ne _ _ (Fld.key_ne_of_id rfl), State.fld_incSat_ne _ _ (Fld.key_ne_of_id rfl), State.fld_modLp]
  split
  · rfl
  · calc _ = counted.fld F.SRV_PERIOD_P := traceSample_period ..
      _ = s.fld F.SRV_PERIOD_P := hcounted.trans hlate

/-! ## A write of SRV_PERIOD -/

/-- The values that the loop period takes (R99). -/
def loopPeriods : List Nat := [125, 200, 250, 400, 500, 625, 1000]

/-- A loop of some loop processor is in CLOSED or HOLD (R99). -/
def State.loopEngaged (s : State) : Bool :=
  (List.range 16).any (fun n => (List.range 4).any (fun l => decide (2 ≤ s.fld (loopModeFld n l))))

/-- REJECTED cleared where the written word has its bit set (R15). -/
def State.clearRejected (s : State) (value : Word) : State :=
  if value.toNat.testBit 16 then s.put F.SRV_PERIOD_REJECTED 0 else s

theorem State.loopEngaged_iff (s : State) :
    s.loopEngaged = true ↔ ∃ n : Fin 16, ∃ l : Fin 4, 2 ≤ s.fld (loopModeFld n l) := by
  simp [State.loopEngaged, Fin.exists_iff]

theorem loopModeFld_key_ne_rejected (n l : Nat) : (loopModeFld n l).key ≠ F.SRV_PERIOD_REJECTED.key := by
  unfold loopModeFld
  split <;> exact Fld.key_ne_of_id rfl

theorem State.fld_clearRejected (s : State) (value : Word) {g : Fld} (h : g.key ≠ F.SRV_PERIOD_REJECTED.key) :
    (s.clearRejected value).fld g = s.fld g := by
  unfold State.clearRejected
  split
  · exact s.fld_put_ne _ h
  · rfl

theorem State.loopEngaged_clearRejected (s : State) (value : Word) :
    (s.clearRejected value).loopEngaged = s.loopEngaged := by
  simp only [State.loopEngaged, State.fld_clearRejected s value (loopModeFld_key_ne_rejected _ _)]

theorem execSrvPeriodWrite_eq (value : Word) (s : State) : execSrvPeriodWrite value s =
    if loopPeriods.contains (bitsOf value.toNat 0 10) = false ∨ (s.clearRejected value).loopEngaged = true then
      .next ((s.clearRejected value).put F.SRV_PERIOD_REJECTED 1)
    else .next (((s.clearRejected value).put F.SRV_PERIOD_P (bitsOf value.toNat 0 10)).forEach (List.range 16) State.updateCost) := rfl

theorem srvPeriodWrite_taken {value : Word} {s : State} (known : bitsOf value.toNat 0 10 ∈ loopPeriods)
    (free : s.loopEngaged = false) :
    Answers (.srvPeriodWrite value) s (fun t => t.fld F.SRV_PERIOD_P = bitsOf value.toNat 0 10) := by
  have taken : ¬ (loopPeriods.contains (bitsOf value.toNat 0 10) = false ∨ (s.clearRejected value).loopEngaged = true) := by
    simp [State.loopEngaged_clearRejected, known, free]
  refine ⟨_, (execSrvPeriodWrite_eq value s).trans (if_neg taken), ?_⟩
  calc _ = ((s.clearRejected value).put F.SRV_PERIOD_P _).fld F.SRV_PERIOD_P := State.fld_forEach _ _ updateCost_period
    _ = bitsOf value.toNat 0 10 := (State.fld_put_same ..).trans (Nat.mod_mod ..)

theorem srvPeriodWrite_rejected {value : Word} {s : State}
    (refused : bitsOf value.toNat 0 10 ∉ loopPeriods ∨ s.loopEngaged = true) :
    Answers (.srvPeriodWrite value) s (fun t =>
      t.fld F.SRV_PERIOD_P = s.fld F.SRV_PERIOD_P ∧ t.fld F.SRV_PERIOD_REJECTED = 1) := by
  have rejected : loopPeriods.contains (bitsOf value.toNat 0 10) = false ∨ (s.clearRejected value).loopEngaged = true := by
    simpa [State.loopEngaged_clearRejected] using refused
  have apart : F.SRV_PERIOD_P.key ≠ F.SRV_PERIOD_REJECTED.key := Fld.key_ne_of_id rfl
  refine ⟨_, (execSrvPeriodWrite_eq value s).trans (if_pos rejected), ?_, State.fld_put_same ..⟩
  rw [State.fld_put_ne _ _ apart, State.fld_clearRejected s value apart]

/-! ## Sample instants -/

theorem settleSamples_timebase (s : State) (lps : List Nat) : (s.forEach lps State.settleSample).timebase = s.timebase :=
  have settled := State.forEach_frame (Frame.refl 69057380928 s) lps State.settleSample
    fun _ n h => State.settleSample_frame h n ⟨by decide⟩
  settled.timebase rfl

/-- What a sled instant passes to a pickup's motor, and its read power held (R104, R85). -/
def State.passRequest (s : State) (n : Nat) : State :=
  ((s.modMotor n (fun m => { m with req := (s.lp n).request, reqTick := 0 })).modLp n (fun p => { p with request := 0 })).holdReadPower n

/-- The work of the loop processors at a sample instant, once the timebase has reached it. -/
def State.runSample (s : State) (lps : List Nat) (inputs : List (List (List Nat))) : State :=
  let sled := decide (s.timebase % 10000 = 0)
  (s.when sled (fun s => s.forEach lps State.passRequest)).forEach lps (fun s n => s.captureSample n (inputs.getD n []) sled)

/-! The mask of captureSample_frame holds every part that this work may change; the timebase is not among them. -/

theorem passRequest_frame {W : Nat} {s₀ s : State} (h : Frame W s₀ s) (n : Nat) (hW : within 35596657507010 W) :
    Frame W s₀ (s.passRequest n) :=
  have moved := State.modMotor_frame h n _ (within_trans hW ⟨by decide⟩)
  State.holdReadPower_frame (State.modLp_frame moved n _ (within_trans hW ⟨by decide⟩)) n (within_trans hW ⟨by decide⟩)

theorem runSample_timebase (s : State) (lps : List Nat) (inputs : List (List (List Nat))) :
    (s.runSample lps inputs).timebase = s.timebase := by
  have passed := State.when_frame (Frame.refl 35596657507010 s) (decide (s.timebase % 10000 = 0))
    (fun s => s.forEach lps State.passRequest) fun _ h => State.forEach_frame h lps _ fun _ n h => passRequest_frame h n ⟨by decide⟩
  have captured := State.forEach_frame passed lps
    (fun t n => t.captureSample n (inputs.getD n []) (decide (s.timebase % 10000 = 0)))
    fun _ n h => State.captureSample_frame h n _ _ ⟨by decide⟩
  exact captured.timebase rfl

theorem execSampleInstant_eq (inputs : List (List (List Nat))) (s : State) : execSampleInstant inputs s =
    let lps := (List.range 16).filter (fun n => s.slotPowered (n / 2))
    let settled := s.forEach lps State.settleSample
    let p := settled.fld F.SRV_PERIOD_P
    .next ((({ settled with timebase := (settled.timebase / p + 1) * p }).incWrap F.SRV_SAMPLE_COUNT_COUNT 1).runSample lps inputs) := rfl

/-- A sample instant moves the timebase to the next multiple of the loop period. -/
theorem sampleInstant_timebase (inputs : List (List (List Nat))) (s : State) :
    Answers (.sampleInstant inputs) s (fun t =>
      t.timebase = (s.timebase / s.fld F.SRV_PERIOD_P + 1) * s.fld F.SRV_PERIOD_P) := by
  refine ⟨_, execSampleInstant_eq inputs s, ?_⟩
  dsimp only
  rw [runSample_timebase, State.incWrap_timebase, settleSamples_timebase, State.fld_forEach _ _ settleSample_period]

/-- Settles O12: a write is decided by the value and the modes alone, and nothing else in a sample instant moves the timebase. -/
theorem loopPeriodTakesSevenValues : Obligations.LoopPeriodTakesSevenValues := by
  refine ⟨rfl, fun value s => ⟨fun known free => ?_, fun refused => ?_, fun inputs k known start => ?_⟩⟩
  · exact srvPeriodWrite_taken known (Bool.eq_false_iff.mpr (mt s.loopEngaged_iff.mp free))
  · exact srvPeriodWrite_rejected (refused.imp_right s.loopEngaged_iff.mpr)
  · obtain ⟨t, answered, moved⟩ := sampleInstant_timebase inputs s
    have positive : 0 < s.fld F.SRV_PERIOD_P := Nat.pos_of_ne_zero fun h => by simp [h] at known
    exact ⟨t, answered, moved.trans (by rw [start, Nat.mul_div_cancel _ positive])⟩

end Sys2Proof.Machine
end

section
/-!
PROOFS. Error injection (R314): what arms it, which store it corrupts, and the stores by which that comes about.
-/
namespace Sys2Proof.Machine

/-- The injection for word `w` is spent: its store is corrupted, nothing is armed, PENDING is clear (R314). -/
def State.InjectionSpent (t : State) (w : Nat) (double : Bool) : Prop :=
  Table.at 0 t.mem.flips w = (if double then 3 else 1) ∧ t.mem.inject = none ∧ t.fld F.MEM_INJECT_PENDING = 0

/-! ## The store of a word -/

section
variable {s : State} {w lo hi : Nat} {double : Bool}

theorem injectIn_inside (armed : s.mem.inject = some (w, double)) (hlo : lo ≤ w) (hhi : w < hi) :
    (s.injectIn lo hi).InjectionSpent w double := by
  have corrupted : s.injectIn lo hi = ({ s with mem := { s.mem with
      flips := Table.put 0 s.mem.flips w (if double then 3 else 1), inject := none } }).put F.MEM_INJECT_PENDING 0 := by
    simp [State.injectIn, armed, hlo, hhi]
  rw [corrupted]
  exact ⟨Table.at_put_same .., rfl, State.fld_put_same ..⟩

theorem injectIn_outside (armed : s.mem.inject = some (w, double)) (outside : w < lo ∨ hi ≤ w) : s.injectIn lo hi = s := by
  have other : ¬ (lo ≤ w ∧ w < hi) := by omega
  simp [State.injectIn, armed, other]

theorem storeWords_inside (poisoned : Bool) (armed : s.mem.inject = some (w, double)) (hlo : lo ≤ w) (hhi : w < hi) :
    (s.storeWords lo hi poisoned).InjectionSpent w double := injectIn_inside armed hlo hhi

theorem storeWords_outside (poisoned : Bool) (armed : s.mem.inject = some (w, double)) (outside : w < lo ∨ hi ≤ w) :
    (s.storeWords lo hi poisoned).mem.inject = s.mem.inject ∧
      (s.storeWords lo hi poisoned).fld F.MEM_INJECT_PENDING = s.fld F.MEM_INJECT_PENDING := by
  unfold State.storeWords
  extract_lets before stored
  rw [injectIn_outside (s := stored) armed outside]
  exact ⟨rfl, rfl⟩

theorem writeBack_spends (armed : s.mem.inject = some (w, double)) : (s.writeBack w).InjectionSpent w double :=
  injectIn_inside armed w.le_refl w.lt_succ_self

/-- An error counted and logged leaves the memory alone. -/
@[simp] theorem State.memError_mem (s : State) (w requester : Nat) (uncorrectable : Bool) :
    (s.memError w requester uncorrectable).mem = s.mem :=
  State.memError_frame (Frame.refl 69206080 s) w requester uncorrectable ⟨Nat.and_self 69206080⟩ .mem rfl

/-- A merge stores a word unless it finds the one there uncorrectable (R306). -/
theorem mergeWord_spends (requester : Nat) (armed : s.mem.inject = some (w, double))
    (merges : pageBit s.mem.valid w = false ∨ pageBit s.mem.poison w = true ∨ s.wordErrors w ≤ 1) :
    (s.mergeWord w requester).InjectionSpent w double := by
  have whole := storeWords_inside (lo := w) (hi := w + 1) false armed w.le_refl w.lt_succ_self
  have merged := injectIn_inside (lo := w) (hi := w + 1) armed w.le_refl w.lt_succ_self
  have corrected : ((s.memError w requester false).writeBack w).InjectionSpent w double := writeBack_spends (by simpa using armed)
  unfold State.mergeWord
  split
  · exact whole
  · next valid =>
    split
    · exact merged
    · next clean =>
      split
      · exact merged
      · exact corrected
      · next none one =>
        have few : s.wordErrors w ≤ 1 := (merges.resolve_left valid).resolve_left clean
        exact ((Nat.le_one_iff_eq_zero_or_eq_one.mp few).elim none one).elim

end

/-! ## The arming -/

theorem writeInject_armed (s : State) (v : Nat) (arm : v.testBit 24 = true) :
    (s.writeInject v).mem.inject = some (bitsOf v 0 22, v.testBit 25) ∧ (s.writeInject v).fld F.MEM_INJECT_PENDING = 1 := by
  unfold State.writeInject
  dsimp only
  rw [if_pos arm]
  exact ⟨rfl, State.fld_put_same ..⟩

/-- ARM lies outside ADDR and DOUBLE. -/
theorem inject_fields_of_arm (v : Nat) : (2 ^ 24 ||| v).testBit 24 = true ∧
    bitsOf (2 ^ 24 ||| v) 0 22 = bitsOf v 0 22 ∧ (2 ^ 24 ||| v).testBit 25 = v.testBit 25 := by
  have addr : (2 ^ 24 ||| v) % 2 ^ 22 = v % 2 ^ 22 := by
    rw [Nat.or_mod_two_pow]
    exact Nat.zero_or _
  refine ⟨?_, addr, ?_⟩
  · rw [Nat.testBit_or, Nat.testBit_two_pow_self, Bool.true_or]
  · rw [Nat.testBit_or, Nat.testBit_two_pow_of_ne (by decide), Bool.false_or]

theorem memInjectArm_armed (v : Word) (s : State) : Answers (.memInjectArm v) s (fun t =>
    t.mem.inject = some (bitsOf v.toNat 0 22, v.toNat.testBit 25) ∧ t.fld F.MEM_INJECT_PENDING = 1) := by
  obtain ⟨arm, addr, dbl⟩ := inject_fields_of_arm v.toNat
  obtain ⟨armed, pending⟩ := writeInject_armed s _ arm
  rw [addr, dbl] at armed
  exact ⟨_, rfl, armed, pending⟩

/-- Settles O17: each kind of store ends in the one place where the injection is spent, which a store of other words passes by. -/
theorem anArmedInjectionCorruptsOneStore : Obligations.AnArmedInjectionCorruptsOneStore :=
  ⟨memInjectArm_armed, fun _ _ _ armed =>
    ⟨fun _ _ poisoned => storeWords_inside poisoned armed, writeBack_spends armed,
      fun requester => mergeWord_spends requester armed, fun _ _ poisoned => storeWords_outside poisoned armed⟩⟩

end Sys2Proof.Machine
end

section
/-!
PROOFS. The error log (R312): a counted error as the counting, the writes of the fields of one entry, and the advance of NEXT and TOTAL.
-/
namespace Sys2Proof.Machine

/-! ## Several fields written one after the other -/

/-- Fields set in order. -/
def State.puts (s : State) (ws : List (Fld × Nat)) : State := s.forEach ws (fun t w => t.put w.1 w.2)

theorem State.fld_puts_ne {g : Fld} {ws : List (Fld × Nat)} (s : State) (h : ∀ w ∈ ws, g.key ≠ w.1.key) :
    (s.puts ws).fld g = s.fld g := by
  induction ws generalizing s with
  | nil => rfl
  | cons w ws ih =>
    obtain ⟨first, others⟩ := List.forall_mem_cons.mp h
    exact (ih (s.put w.1 w.2) others).trans (s.fld_put_ne _ first)

/-- Of fields with places of their own, each reads as it was set. -/
theorem State.fld_puts_mem {p : Fld × Nat} {ws : List (Fld × Nat)} (s : State)
    (apart : ws.Pairwise (fun a b => a.1.key ≠ b.1.key)) (h : p ∈ ws) : (s.puts ws).fld p.1 = p.2 % 2 ^ p.1.width := by
  induction ws generalizing s with
  | nil => simp at h
  | cons w ws ih =>
    obtain ⟨first, others⟩ := List.pairwise_cons.mp apart
    rcases List.mem_cons.mp h with rfl | h
    · exact (State.fld_puts_ne (ws := ws) _ first).trans (s.fld_put_same p.1 p.2)
    · exact ih (s.put w.1 w.2) others h

/-! ## The parts of a counted error -/

/-- The fields that the counting of an error may set. -/
def errorCountFlds : List Fld := [F.MEM_ERR_COUNT_CE, F.MEM_ERR_COUNT_UE, F.MEM_STATUS_CNT_SAT, F.MEM_STATUS_CE_LIMIT]

/-- An error counted, with the flags that its count sets (R311). -/
def State.countError (s : State) (uncorrectable : Bool) : State :=
  let count := if uncorrectable then F.MEM_ERR_COUNT_UE else F.MEM_ERR_COUNT_CE
  let raised := s.incSat count 1
  let noted := if raised.fld count = 65535 then raised.put F.MEM_STATUS_CNT_SAT 1 else raised
  let limit := noted.fld F.MEM_CE_CFG_CE_LIMIT
  if uncorrectable = false ∧ s.fld F.MEM_ERR_COUNT_CE < limit ∧ limit ≤ noted.fld F.MEM_ERR_COUNT_CE then
    noted.raise F.MEM_STATUS_CE_LIMIT 0x0702 srcMemory (leBytes 2 (noted.fld F.MEM_ERR_COUNT_CE)) else noted

/-- The fields of entry `e` of the log (R316). -/
def logEntryFlds (e : Nat) : List Fld :=
  [F.MEM_LOG_ADDR_ADDR e, F.MEM_LOG_ADDR_REGION e, F.MEM_LOG_ADDR_UNCORR e, F.MEM_LOG_REQ_REQUESTER e, F.MEM_LOG_REQ_SYNDROME e,
   F.MEM_LOG_REQ_BANK e, F.MEM_LOG_TIME_LO_TIME_LO e, F.MEM_LOG_TIME_HI_TIME_HI e]

/-- What entry `e` of the log records of an error on word `w` at Chain Time `ct` (R312). -/
def errorEntry (e syndrome ct w requester : Nat) (uncorrectable : Bool) : List (Fld × Nat) :=
  [(F.MEM_LOG_ADDR_ADDR e, 16 * w), (F.MEM_LOG_ADDR_REGION e, regionOf (16 * w)), (F.MEM_LOG_ADDR_UNCORR e, b2n uncorrectable),
   (F.MEM_LOG_REQ_REQUESTER e, requester), (F.MEM_LOG_REQ_SYNDROME e, syndrome), (F.MEM_LOG_REQ_BANK e, bankOf w),
   (F.MEM_LOG_TIME_LO_TIME_LO e, ct), (F.MEM_LOG_TIME_HI_TIME_HI e, ct / 2 ^ 32)]

theorem State.fld_countError {g : Fld} (s : State) (uncorrectable : Bool) (h : ∀ f ∈ errorCountFlds, g.key ≠ f.key) :
    (s.countError uncorrectable).fld g = s.fld g := by
  simp only [errorCountFlds, List.forall_mem_cons] at h
  obtain ⟨ce, ue, sat, limited, -⟩ := h
  unfold State.countError
  extract_lets count raised noted limit
  have hcount : g.key ≠ count.key := by
    cases uncorrectable
    · exact ce
    · exact ue
  have hraised : raised.fld g = s.fld g := s.fld_incSat_ne 1 hcount
  have hnoted : noted.fld g = s.fld g := by
    unfold noted
    split
    · exact (raised.fld_put_ne 1 sat).trans hraised
    · exact hraised
  split
  · exact (noted.fld_raise_ne _ _ _ limited).trans hnoted
  · exact hnoted

theorem State.countError_ct (s : State) (uncorrectable : Bool) : (s.countError uncorrectable).ct = s.ct := by
  unfold State.countError
  extract_lets count raised noted limit
  have hnoted : noted.ct = s.ct := by
    unfold noted
    split <;> rfl
  split
  · exact (State.raise_ct ..).trans hnoted
  · exact hnoted

/-- An error is counted, then its entry written, then the ring advanced (R311, R312). -/
theorem State.memError_eq (s : State) (w requester : Nat) (uncorrectable : Bool) :
    s.memError w requester uncorrectable =
      let counted := s.countError uncorrectable
      let e := s.fld F.MEM_LOG_HEAD_NEXT
      let entry := errorEntry e counted.takeFree.1 s.ct w requester uncorrectable
      ((counted.takeFree.2.puts entry).put F.MEM_LOG_HEAD_NEXT (e + 1)).incWrap F.MEM_LOG_HEAD_TOTAL 1 := by
  have next : (s.countError uncorrectable).fld F.MEM_LOG_HEAD_NEXT = s.fld F.MEM_LOG_HEAD_NEXT :=
    s.fld_countError uncorrectable (by decide)
  rw [← next, ← s.countError_ct uncorrectable]
  rfl

/-! ## The places of the fields -/

theorem logEntryFlds_place {e : Nat} {g : Fld} (h : g ∈ logEntryFlds e) : g.ix = e ∧ 95 ≤ g.id ∧ g.id ≤ 102 := by
  revert g
  simp [logEntryFlds, F.MEM_LOG_ADDR_ADDR, F.MEM_LOG_ADDR_REGION, F.MEM_LOG_ADDR_UNCORR, F.MEM_LOG_REQ_REQUESTER,
    F.MEM_LOG_REQ_SYNDROME, F.MEM_LOG_REQ_BANK, F.MEM_LOG_TIME_LO_TIME_LO, F.MEM_LOG_TIME_HI_TIME_HI]

theorem logEntryFlds_apart (e : Nat) : (logEntryFlds e).Pairwise (fun f g => f.key ≠ g.key) := by
  simp [logEntryFlds, Fld.key, F.MEM_LOG_ADDR_ADDR, F.MEM_LOG_ADDR_REGION, F.MEM_LOG_ADDR_UNCORR, F.MEM_LOG_REQ_REQUESTER,
    F.MEM_LOG_REQ_SYNDROME, F.MEM_LOG_REQ_BANK, F.MEM_LOG_TIME_LO_TIME_LO, F.MEM_LOG_TIME_HI_TIME_HI]

theorem logEntryFlds_key_ne {e : Nat} {g f : Fld} (hg : g ∈ logEntryFlds e) (hf : f.id < 95) : g.key ≠ f.key := by
  obtain ⟨-, least, most⟩ := logEntryFlds_place hg
  unfold Fld.key
  omega

/-- Fields of different entries lie apart. -/
theorem logEntryFlds_other {e i : Nat} {g f : Fld} (hg : g ∈ logEntryFlds i) (hf : f ∈ logEntryFlds e) (other : i ≠ e) :
    g.key ≠ f.key := by
  obtain ⟨atI, -, mostG⟩ := logEntryFlds_place hg
  obtain ⟨atE, -, mostF⟩ := logEntryFlds_place hf
  unfold Fld.key
  omega

section
variable {e syndrome ct w requester : Nat} {uncorrectable : Bool}

theorem errorEntry_fst_mem {p : Fld × Nat} (h : p ∈ errorEntry e syndrome ct w requester uncorrectable) : p.1 ∈ logEntryFlds e :=
  List.mem_map_of_mem (f := Prod.fst) h

theorem errorEntry_apart : (errorEntry e syndrome ct w requester uncorrectable).Pairwise (fun a b => a.1.key ≠ b.1.key) :=
  List.Pairwise.of_map Prod.fst (fun _ _ => id) (logEntryFlds_apart e)

end

theorem errorCountFlds_id : ∀ f ∈ errorCountFlds, f.id < 95 := by decide

/-! ## What a counted error leaves in the registers -/

section
variable (s : State) (w requester : Nat) (uncorrectable : Bool)

theorem memError_next :
    (s.memError w requester uncorrectable).fld F.MEM_LOG_HEAD_NEXT = (s.fld F.MEM_LOG_HEAD_NEXT + 1) % 16 := by
  rw [State.memError_eq]
  exact (State.fld_put_ne _ _ (by decide)).trans (State.fld_put_same ..)

theorem memError_total :
    (s.memError w requester uncorrectable).fld F.MEM_LOG_HEAD_TOTAL = (s.fld F.MEM_LOG_HEAD_TOTAL + 1) % 65536 := by
  rw [State.memError_eq, State.incWrap, State.fld_put_same, State.fld_put_ne _ _ (by decide), State.fld_puts_ne]
  · rw [State.fld_of_regs (State.takeFree_regs _), State.fld_countError _ _ (by decide)]
    rfl
  · exact fun p hp => (logEntryFlds_key_ne (errorEntry_fst_mem hp) (by decide)).symm

/-- A field of an entry after the ring has advanced is as it was before. -/
theorem fld_advance {e : Nat} {g : Fld} (t : State) (n : Nat) (hg : g ∈ logEntryFlds e) :
    ((t.put F.MEM_LOG_HEAD_NEXT n).incWrap F.MEM_LOG_HEAD_TOTAL 1).fld g = t.fld g :=
  (State.fld_put_ne _ _ (logEntryFlds_key_ne hg (by decide))).trans (State.fld_put_ne _ _ (logEntryFlds_key_ne hg (by decide)))

theorem memError_recorded : ∃ syndrome,
    ∀ p ∈ errorEntry (s.fld F.MEM_LOG_HEAD_NEXT) syndrome s.ct w requester uncorrectable,
      (s.memError w requester uncorrectable).fld p.1 = p.2 % 2 ^ p.1.width := by
  refine ⟨(s.countError uncorrectable).takeFree.1, fun p h => ?_⟩
  rw [State.memError_eq]
  exact (fld_advance _ _ (errorEntry_fst_mem h)).trans (State.fld_puts_mem _ errorEntry_apart h)

theorem memError_otherEntry {i : Nat} (other : i ≠ s.fld F.MEM_LOG_HEAD_NEXT) :
    ∀ g ∈ logEntryFlds i, (s.memError w requester uncorrectable).fld g = s.fld g := by
  intro g hg
  rw [State.memError_eq]
  refine (fld_advance _ _ hg).trans ((State.fld_puts_ne _ fun p hp => ?_).trans ?_)
  · exact logEntryFlds_other hg (errorEntry_fst_mem hp) other
  · exact s.fld_countError uncorrectable fun f hf => logEntryFlds_key_ne hg (errorCountFlds_id f hf)

end

/-! ## The ring -/

theorem regionOf_lt (a : Nat) : regionOf a < 8 := by
  unfold regionOf
  repeat' split
  all_goals decide

/-- Settles O18: the fields of the entry at NEXT lie apart from each other, from every other entry's and from what the counting sets. -/
theorem errorLogIsARingOfSixteen : Obligations.ErrorLogIsARingOfSixteen := by
  intro s w who bad
  obtain ⟨syndrome, recorded⟩ := memError_recorded s w who bad
  simp only [errorEntry, List.forall_mem_cons] at recorded
  obtain ⟨addr, region, uncorr, requester, -, bank, timeLo, timeHi, -⟩ := recorded
  have regionFits : regionOf (16 * w) % 2 ^ 3 = regionOf (16 * w) := Nat.mod_eq_of_lt (regionOf_lt _)
  have uncorrFits : b2n bad % 2 ^ 1 = b2n bad := by cases bad <;> rfl
  refine ⟨memError_next .., memError_total .., addr, region.trans regionFits, uncorr.trans uncorrFits, requester, bank, timeLo, timeHi,
    fun i other => ?_⟩
  have stays := memError_otherEntry s w who bad other
  simp only [logEntryFlds, List.forall_mem_cons] at stays
  obtain ⟨addr, region, uncorr, requester, syndrome, bank, timeLo, timeHi, -⟩ := stays
  exact ⟨addr, region, uncorr, requester, bank, syndrome, timeLo, timeHi⟩

end Sys2Proof.Machine
end

section
/-!
PROOFS. The key slots (R349): an FLR and a station reset reach the cipher engines, whose work they end, but neither the keys in the slots
nor the registers of the slots; a full device reset leaves every slot empty.
-/
namespace Sys2Proof.Machine

/-- The keys in the slots are as they were. -/
def KeysKept (s t : State) : Prop := t.cipher.slots = s.cipher.slots

/-- Every part of the machine but the cipher component of the state, as a mask. -/
def exceptCipher : Nat := 2 ^ 47 - 1 - 2 ^ Part.cipher.idx

namespace KeysKept

theorem refl (s : State) : KeysKept s s := rfl

section
variable {s₀ s t : State} (k : KeysKept s₀ s)
include k

theorem of_slots (same : t.cipher.slots = s.cipher.slots) : KeysKept s₀ t := same.trans k

theorem of_frame (unchanged : Frame exceptCipher s t) : KeysKept s₀ t :=
  k.of_slots (congrArg Cipher.slots (unchanged .cipher rfl))

theorem forEach {α : Type} (xs : List α) (f : State → α → State) (each : ∀ {t} a, KeysKept s₀ t → KeysKept s₀ (f t a)) :
    KeysKept s₀ (s.forEach xs f) := by
  induction xs generalizing s with
  | nil => exact k
  | cons x xs ih => exact ih (each x k)

theorem when (c : Bool) (f : State → State) (done : KeysKept s₀ (f s)) : KeysKept s₀ (s.when c f) := by
  cases c
  · exact k
  · exact done

/-! ## Operations that leave the cipher engines alone

One rule per operation, from its frame: proofs about what is built of these operations follow the order in which it applies them. -/

theorem put (f : Fld) (v : Nat) : KeysKept s₀ (s.put f v) := k.of_slots rfl

theorem emitAll (os : List Out) : KeysKept s₀ (s.emitAll os) :=
  k.of_frame (State.emitAll_frame (.refl _ _) os ⟨rfl⟩)

theorem post (code source : Nat) (payload : List Nat) : KeysKept s₀ (s.post code source payload) :=
  k.of_slots (by rw [State.post_cipher])

theorem raise (f : Fld) (code source : Nat) (payload : List Nat) : KeysKept s₀ (s.raise f code source payload) :=
  k.of_slots (by rw [State.raise_cipher])

theorem setCmd (h : Nat) (c : Cmd) : KeysKept s₀ (s.setCmd h c) :=
  k.of_frame (State.setCmd_frame (.refl _ _) h c ⟨rfl⟩)

theorem modCmd (h : Nat) (f : Cmd → Cmd) : KeysKept s₀ (s.modCmd h f) :=
  k.of_frame (State.modCmd_frame (.refl _ _) h f ⟨rfl⟩)

theorem modStation (st : Nat) (f : Station → Station) : KeysKept s₀ (s.modStation st f) :=
  k.of_frame (State.modStation_frame (.refl _ _) st f ⟨rfl⟩)

theorem unbind (mslot : Nat) : KeysKept s₀ (s.unbind mslot) :=
  k.of_frame (State.unbind_frame (.refl _ _) mslot ⟨rfl⟩)

theorem modPickup (n : Nat) (f : Pickup → Pickup) : KeysKept s₀ (s.modPickup n f) :=
  k.of_frame (State.modPickup_frame (.refl _ _) n f ⟨rfl⟩)

theorem setEntry (e : Nat) (x : Entry) : KeysKept s₀ (s.setEntry e x) :=
  k.of_frame (State.setEntry_frame (.refl _ _) e x ⟨rfl⟩)

theorem modEntry (e : Nat) (f : Entry → Entry) : KeysKept s₀ (s.modEntry e f) :=
  k.of_frame (State.modEntry_frame (.refl _ _) e f ⟨rfl⟩)

theorem storeSector (e j : Nat) (c : CacheSector) : KeysKept s₀ (s.storeSector e j c) :=
  k.of_frame (State.storeSector_frame (.refl _ _) e j c ⟨rfl⟩)

theorem readSector (e j requester : Nat) : KeysKept s₀ (s.readSector e j requester) :=
  k.of_frame (State.readSector_frame (.refl _ _) e j requester ⟨rfl⟩)

theorem touch (e : Nat) : KeysKept s₀ (s.touch e) :=
  k.of_frame (State.touch_frame (.refl _ _) e ⟨rfl⟩)

theorem modWork (e : Nat) (f : BlockWork → BlockWork) : KeysKept s₀ (s.modWork e f) :=
  k.of_frame (State.modWork_frame (.refl _ _) e f ⟨rfl⟩)

theorem discardWork (e : Nat) : KeysKept s₀ (s.discardWork e) :=
  k.of_frame (State.discardWork_frame (.refl _ _) e ⟨rfl⟩)

theorem startWork (e st mslot block : Nat) (verify noRetry early : Bool) :
    KeysKept s₀ (s.startWork e st mslot block verify noRetry early) :=
  k.of_frame (State.startWork_frame (.refl _ _) e st mslot block verify noRetry early ⟨rfl⟩)

theorem freeEntry (e : Nat) : KeysKept s₀ (s.freeEntry e) :=
  k.of_frame (State.freeEntry_frame (.refl _ _) e ⟨rfl⟩)

theorem claim (h e cls : Nat) : KeysKept s₀ (s.claim h e cls) :=
  k.of_frame (State.claim_frame (.refl _ _) h e cls ⟨rfl⟩)

theorem releaseUses (h : Nat) (giveUp : Bool) : KeysKept s₀ (s.releaseUses h giveUp) :=
  k.of_frame (State.releaseUses_frame (.refl _ _) h giveUp ⟨rfl⟩)

theorem zeroRest (c : Cmd) : KeysKept s₀ (s.zeroRest c) :=
  k.of_frame (State.zeroRest_frame (.refl _ _) c ⟨rfl⟩)

theorem setFrontier (st side layer : Nat) (w : Option Nat) : KeysKept s₀ (s.setFrontier st side layer w) :=
  k.of_frame (State.setFrontier_frame (.refl _ _) st side layer w ⟨rfl⟩)

theorem setRecBlock (r : RecBlock) : KeysKept s₀ (s.setRecBlock r) :=
  k.of_frame (State.setRecBlock_frame (.refl _ _) r ⟨rfl⟩)

theorem dropRecBlock (mslot block : Nat) : KeysKept s₀ (s.dropRecBlock mslot block) :=
  k.of_frame (State.dropRecBlock_frame (.refl _ _) mslot block ⟨rfl⟩)

theorem prepareBlock (r : RecBlock) : KeysKept s₀ (s.prepareBlock r) :=
  k.of_frame (State.prepareBlock_frame (.refl _ _) r ⟨rfl⟩)

theorem flushJob (h : Nat) : KeysKept s₀ (s.flushJob h) :=
  k.of_frame (State.flushJob_frame (.refl _ _) h ⟨rfl⟩)

theorem finalSector (e j : Nat) (st : SecState) (outcome : Nat) (payload : List Nat) :
    KeysKept s₀ (s.finalSector e j st outcome payload) :=
  k.of_frame (State.finalSector_frame (.refl _ _) e j st outcome payload ⟨rfl⟩)

theorem noteVerified (e : Nat) : KeysKept s₀ (s.noteVerified e) :=
  k.of_frame (State.noteVerified_frame (.refl _ _) e ⟨rfl⟩)

theorem useEntry (h : Nat) (u : BlockUse) : KeysKept s₀ (s.useEntry h u) :=
  k.of_frame (State.useEntry_frame (.refl _ _) h u ⟨rfl⟩)

theorem settleEvictions : KeysKept s₀ s.settleEvictions :=
  k.of_frame (State.settleEvictions_frame (.refl _ _) ⟨rfl⟩)

theorem waitOn (h e : Nat) : KeysKept s₀ (s.waitOn h e) :=
  k.of_frame (State.waitOn_frame (.refl _ _) h e ⟨rfl⟩)

theorem rescue (e : Nat) : KeysKept s₀ (s.rescue e) :=
  k.of_frame (State.rescue_frame (.refl _ _) e ⟨rfl⟩)

theorem askWrite (h block : Nat) (alloc : Bool) : KeysKept s₀ (s.askWrite h block alloc) :=
  k.of_frame (State.askWrite_frame (.refl _ _) h block alloc ⟨rfl⟩)

theorem setMotor (x : Nat) (m : Motor) : KeysKept s₀ (s.setMotor x m) :=
  k.of_frame (State.setMotor_frame (.refl _ _) x m ⟨rfl⟩)

theorem showMotor (x : Nat) : KeysKept s₀ (s.showMotor x) :=
  k.of_frame (State.showMotor_frame (.refl _ _) x ⟨rfl⟩)

theorem brakeGroup (g : Nat) (dec : Rat) (fault : Bool) : KeysKept s₀ (s.brakeGroup g dec fault) :=
  k.of_frame (State.brakeGroup_frame (.refl _ _) g dec fault ⟨rfl⟩)

theorem setHome (m v : Nat) : KeysKept s₀ (s.setHome m v) :=
  k.of_frame (State.setHome_frame (.refl _ _) m v ⟨rfl⟩)

theorem modRun (n : Nat) (f : Run → Run) : KeysKept s₀ (s.modRun n f) :=
  k.of_frame (State.modRun_frame (.refl _ _) n f ⟨rfl⟩)

theorem framePlayed (n : Nat) (r : RecBlock) (j : Nat) : KeysKept s₀ (s.framePlayed n r j) :=
  k.of_frame (State.framePlayed_frame (.refl _ _) n r j ⟨rfl⟩)

theorem writeQuality (r : RecBlock) (outs : Option (List Nat)) (bad : Bool) : KeysKept s₀ (s.writeQuality r outs bad) :=
  k.of_frame (State.writeQuality_frame (.refl _ _) r outs bad ⟨rfl⟩)

theorem setCalRun (n : Nat) (r : CalRun) : KeysKept s₀ (s.setCalRun n r) :=
  k.of_frame (State.setCalRun_frame (.refl _ _) n r ⟨rfl⟩)

theorem showCal (st : Nat) : KeysKept s₀ (s.showCal st) :=
  k.of_frame (State.showCal_frame (.refl _ _) st ⟨rfl⟩)

theorem discardForwarded (f : Nat) : KeysKept s₀ (s.discardForwarded f) :=
  k.of_frame (State.discardForwarded_frame (.refl _ _) f ⟨rfl⟩)

theorem dropWindows (f : Nat) : KeysKept s₀ (s.dropWindows f) :=
  k.of_frame (State.dropWindows_frame (.refl _ _) f ⟨rfl⟩)

theorem resetFunctionBlocks (f : Nat) : KeysKept s₀ (s.resetFunctionBlocks f) :=
  k.of_frame (State.resetFunctionBlocks_frame (.refl _ _) f ⟨rfl⟩)

theorem resetConfig (f : Nat) : KeysKept s₀ (s.resetConfig f) :=
  k.of_frame (State.resetConfig_frame (.refl _ _) f ⟨rfl⟩)

theorem dropFilling (st : Nat) : KeysKept s₀ (s.dropFilling st) :=
  k.of_frame (State.dropFilling_frame (.refl _ _) st ⟨rfl⟩)

theorem bringBack (n : Nat) : KeysKept s₀ (s.bringBack n) :=
  k.of_frame (State.bringBack_frame (.refl _ _) n ⟨rfl⟩)

theorem setRecording (r : Recording) : KeysKept s₀ { s with recording := r } := k.of_slots rfl

theorem setFw (fw : Firmware) : KeysKept s₀ { s with fw := fw } := k.of_slots rfl

/-! ## The work of the engines -/

theorem setWork (work : List EngineWork) : KeysKept s₀ { s with cipher := { s.cipher with work := work } } := k.of_slots rfl

theorem dropCmd (h : Nat) : KeysKept s₀ (s.dropCmd h) := k.of_slots rfl

theorem finish (h : Nat) (r : CmdResult) : KeysKept s₀ (s.finish h r) := by
  unfold State.finish
  split
  · exact k
  · split
    · exact k
    · split
      · exact k.dropCmd h
      · exact k.of_slots rfl

theorem endCmd (h : Nat) (giveUp : Bool) (r : CmdResult) : KeysKept s₀ (s.endCmd h giveUp r) :=
  (k.releaseUses h giveUp).finish h r

theorem addWork (w : EngineWork) : KeysKept s₀ (s.addWork w) := by
  unfold State.addWork
  split
  · exact k
  · exact k.of_slots rfl

theorem commitBlock (e : Nat) : KeysKept s₀ (s.commitBlock e) := by
  unfold State.commitBlock
  extract_lets read x d p sealing owed r committed recording listed
  have kread : KeysKept s₀ read := k.forEach _ _ fun _ k => k.readSector ..
  have klisted : KeysKept s₀ listed := (kread.modEntry ..).setRecording _
  split
  · exact klisted.prepareBlock r
  · exact klisted.forEach _ _ fun _ k => k.addWork _

theorem tryCommit (e : Nat) : KeysKept s₀ (s.tryCommit e) := by
  unfold State.tryCommit
  extract_lets x
  split
  · exact k.commitBlock e
  · exact k

theorem padSectors (e : Nat) (js : List Nat) : KeysKept s₀ (s.padSectors e js) :=
  (k.forEach _ _ fun _ k => k.storeSector ..).tryCommit e

theorem padLbas (st mslot cls : Nat) (lbas : List Nat) : KeysKept s₀ (s.padLbas st mslot cls lbas) := by
  unfold State.padLbas
  refine k.forEach _ _ fun b k => ?_
  extract_lets js
  split
  · exact (k.when _ _ ((k.discardWork _).modEntry ..)).padSectors ..
  · exact k.of_slots rfl

theorem closeBlock (st mslot block : Nat) : KeysKept s₀ (s.closeBlock st mslot block).1 := by
  unfold State.closeBlock
  extract_lets d p lo hi closed recording
  split
  · split
    · extract_lets js
      have kclosed : KeysKept s₀ closed := k.setFrontier ..
      split
      · exact kclosed.padSectors ..
      · exact kclosed.setRecording _
    · exact k
  · exact k

theorem tryEndWrite (h : Nat) : KeysKept s₀ (s.tryEndWrite h) := by
  unfold State.tryEndWrite
  extract_lets c
  split
  · exact k.endCmd ..
  · exact k

theorem tryEndFlush (h : Nat) : KeysKept s₀ (s.tryEndFlush h) := by
  unfold State.tryEndFlush
  extract_lets c d
  split
  · split
    · exact k.endCmd ..
    · exact k.endCmd ..
  · exact k

theorem blockSettled (mslot block : Nat) (failed : Bool) : KeysKept s₀ (s.blockSettled mslot block failed) := by
  refine k.forEach _ _ fun e k => ?_
  extract_lets h c mine noted
  split
  · exact ((k.when _ _ (k.modCmd ..)).tryEndWrite h).tryEndFlush h
  · exact k

theorem stopWrite (h status : Nat) : KeysKept s₀ (s.stopWrite h status) := (k.endCmd ..).padLbas ..

theorem stopCmd (h status : Nat) : KeysKept s₀ (s.stopCmd h status) := by
  unfold State.stopCmd
  extract_lets c flushed
  split
  · exact k
  · split
    · exact k.stopWrite h status
    · split
      · exact (k.when _ _ (k.flushJob h)).endCmd ..
      · exact k.finish ..

theorem settleSeals : KeysKept s₀ s.settleSeals := by
  refine k.forEach _ _ fun r k => ?_
  extract_lets left r' noted cipher taken
  split
  · exact k
  · have ktaken : KeysKept s₀ taken := (k.setRecBlock r').setWork _
    split
    · exact ktaken.prepareBlock r'
    · exact ktaken

theorem sealLost (w : EngineWork) : KeysKept s₀ (s.sealLost w) := by
  refine ((k.post ..).forEach _ _ fun j k => ?_).settleSeals
  extract_lets z
  split
  · exact k.storeSector ..
  · exact k

theorem keyChanged (h : Nat) : KeysKept s₀ (s.keyChanged h) := by
  unfold State.keyChanged
  extract_lets c n posted d later padded undelivered ended delivered zeroed flushed
  have kposted : KeysKept s₀ posted := k.post ..
  have kpadded : KeysKept s₀ padded := kposted.forEach _ _ fun i k => by
    split
    · split
      · exact k.storeSector ..
      · exact k
    · exact k
  have kflushed : KeysKept s₀ flushed := by
    have kzeroed : KeysKept s₀ zeroed := kposted.when _ _ (kposted.zeroRest c)
    exact kzeroed.when _ _ (kzeroed.flushJob h)
  split
  · exact k
  · split
    · exact (((kpadded.endCmd ..).padLbas ..).forEach _ _ fun e k => k.tryCommit e).settleSeals
    · exact kflushed.endCmd ..

theorem passKeyChanged (w : EngineWork) : KeysKept s₀ (s.passKeyChanged w) := by
  unfold State.passKeyChanged
  extract_lets c work blocks cipher recording taken
  have ktaken : KeysKept s₀ taken := k.of_slots rfl
  split
  · exact ktaken
  · exact (ktaken.post ..).endCmd ..

theorem startBlock (e : Nat) (w : EngineWork) : KeysKept s₀ (s.startBlock e w) := by
  unfold State.startBlock
  split
  · split
    · exact k.passKeyChanged w
    · split
      · exact k.keyChanged w.cmd
      · exact k.sealLost w
  · exact k.of_slots rfl

theorem refillEngines : KeysKept s₀ s.refillEngines := by
  refine k.forEach _ _ fun e k => ?_
  split
  · exact k
  · split
    · exact k.startBlock e _
    · exact k

theorem offerUnseal (h i : Nat) : KeysKept s₀ (s.offerUnseal h i) := by
  unfold State.offerUnseal
  extract_lets c
  split
  · exact k
  · split
    · exact k
    · extract_lets x
      split
      · exact k.addWork _
      · exact k

/-! ## Commands that wait for blocks -/

theorem endRead (h done : Nat) (outcomes failed : List Nat) : KeysKept s₀ (s.endRead h done outcomes failed) :=
  (k.setCmd ..).endCmd ..

theorem tryEndFill (h : Nat) : KeysKept s₀ (s.tryEndFill h) := by
  unfold State.tryEndFill
  extract_lets c n row failed
  split
  · split
    · exact k.keyChanged h
    · split
      · exact k
      · exact k.endRead ..
  · exact k

theorem sectorReady (e : Nat) : KeysKept s₀ (s.sectorReady e) :=
  ((k.when _ _ (k.modEntry ..)).forEach _ _ fun h k => (k.forEach _ _ fun i k => k.offerUnseal h i).tryEndFill h).refillEngines

theorem settleBlock (e : Nat) : KeysKept s₀ (s.settleBlock e) := by
  unfold State.settleBlock
  extract_lets w spent final noted
  have kfinal : KeysKept s₀ final := k.when _ _ <| k.forEach _ _ fun j k => by
    extract_lets x
    split
    · split
      · exact k.finalSector ..
      · exact k.finalSector ..
    · exact k
  have knoted : KeysKept s₀ noted := by
    unfold noted
    split
    · exact (kfinal.noteVerified e).discardWork e
    · exact kfinal
  exact knoted.sectorReady e

theorem serveBlock (h block : Nat) : KeysKept s₀ (s.serveBlock h block) := by
  unfold State.serveBlock
  exact (k.forEach _ _ fun i k => k.offerUnseal h i).refillEngines.tryEndFill h

theorem hitEntry (h block e : Nat) (rescued : Bool) : KeysKept s₀ (s.hitEntry h block e rescued) := by
  unfold State.hitEntry
  extract_lets c x claimed working noted served
  have kclaimed : KeysKept s₀ claimed := k.claim ..
  have kworking : KeysKept s₀ working := kclaimed.when _ _ (kclaimed.modWork ..)
  have knoted : KeysKept s₀ noted := kworking.when _ _ (kworking.modStation ..)
  have kserved : KeysKept s₀ served := (knoted.useEntry ..).serveBlock h block
  exact kserved.when _ _ (kserved.settleBlock e)

theorem fillEntry (h block e : Nat) : KeysKept s₀ (s.fillEntry h block e) := by
  unfold State.fillEntry
  exact ((((k.setEntry ..).startWork ..).touch e).useEntry ..).serveBlock h block

theorem allocate (who c : Nat) (use : State → Nat → State) (used : ∀ {t} e, KeysKept s₀ t → KeysKept s₀ (use t e)) :
    KeysKept s₀ (s.allocate who c use) := by
  have ksettled : KeysKept s₀ s.settleEvictions := k.settleEvictions
  unfold State.allocate
  generalize s.settleEvictions = settled at ksettled ⊢
  dsimp only
  generalize List.find? _ entryNumbers = chosen
  cases chosen with
  | some e =>
    dsimp only
    split
    · exact used e (ksettled.freeEntry e)
    · exact ksettled
  | none =>
    cases settled.chooseEntry c with
    | none => exact ksettled
    | some e =>
      dsimp only
      split
      · exact used e ksettled
      · exact ksettled.modEntry ..

theorem askRead (h block : Nat) (alloc : Bool) : KeysKept s₀ (s.askRead h block alloc) := by
  unfold State.askRead
  extract_lets c miss
  have kmiss {t : State} (k : KeysKept s₀ t) : KeysKept s₀ (miss t) := by
    unfold miss
    split
    · exact k.allocate _ _ _ fun e k => k.fillEntry h block e
    · exact k
  split
  · exact kmiss k
  · split
    · exact kmiss k
    · extract_lets x
      split
      · split
        · exact k.hitEntry ..
        · exact kmiss k
      · split
        · split
          · split
            · exact k.waitOn ..
            · exact (k.rescue _).hitEntry ..
          · exact k.hitEntry ..
        · split
          · exact kmiss (k.freeEntry _)
          · exact k.waitOn ..

theorem ask (h block : Nat) (alloc : Bool) : KeysKept s₀ (s.ask h block alloc) := by
  unfold State.ask
  extract_lets c
  split
  · exact k
  · split
    · exact k.askWrite ..
    · split
      · exact k.askRead ..
      · exact k

/-! ## Motors and calibration -/

theorem endMove (h : Option Nat) (fault : Bool) : KeysKept s₀ (s.endMove h fault) := by
  cases h with
  | none => exact k
  | some h => exact k.finish ..

theorem motorRest (x : Nat) : KeysKept s₀ (s.motorRest x) := ((k.setMotor ..).put ..).endMove ..

theorem stopMotor (x dec : Nat) (fault : Bool) : KeysKept s₀ (s.stopMotor x dec fault) := by
  unfold State.stopMotor
  extract_lets free m way
  have kfree : KeysKept s₀ free := k.when _ _ (k.put ..)
  split
  · exact kfree.motorRest x
  · exact (kfree.setMotor ..).showMotor x

theorem abortMove (h status : Nat) : KeysKept s₀ (s.abortMove h status) := by
  unfold State.abortMove
  extract_lets marked
  have kmarked : KeysKept s₀ marked := k.modCmd ..
  split
  · extract_lets idle
    have kidle : KeysKept s₀ idle := by
      unfold idle
      split
      · exact kmarked
      · exact kmarked.setHome ..
    exact kidle.stopMotor ..
  · exact kmarked.brakeGroup ..
  · exact kmarked.finish ..

theorem failLoad (h status : Nat) : KeysKept s₀ (s.failLoad h status) :=
  (((k.unbind _).modStation ..).forEach _ _ fun _ k => k.modPickup ..).finish ..

theorem failUnload (h status : Nat) : KeysKept s₀ (s.failUnload h status) := (k.modStation ..).finish ..

theorem endCalCmd (h : Option Nat) (status : Nat) : KeysKept s₀ (s.endCalCmd h status) := by
  cases h with
  | none => exact k
  | some h =>
    unfold State.endCalCmd
    dsimp only
    split
    · exact k
    · split
      · exact k.failLoad h status
      · exact k.endCmd ..

theorem abortCal (n cause status : Nat) : KeysKept s₀ (s.abortCal n cause status) := by
  unfold State.abortCal
  extract_lets r st both cleared twice shown raised
  have kcleared : KeysKept s₀ cleared := k.setCalRun ..
  have ktwice : KeysKept s₀ twice := kcleared.when _ _ (kcleared.setCalRun ..)
  split
  · exact k
  · exact ((ktwice.showCal st).raise ..).endCalCmd ..

/-! ## Blocks broken at a boundary -/

theorem faultWrite (h : Nat) : KeysKept s₀ (s.faultWrite h) := by
  unfold State.faultWrite
  extract_lets c rest r ended
  split
  · exact k
  · exact (k.endCmd ..).padLbas ..

theorem freeRecEntry (e block : Nat) : KeysKept s₀ (s.freeRecEntry e block) :=
  ((k.forEach _ _ fun _ k => k.modCmd ..).freeEntry e).forEach _ _ fun h k => k.ask h block true

theorem endRecBlock (r : RecBlock) (failed : Bool) : KeysKept s₀ (s.endRecBlock r failed) := by
  unfold State.endRecBlock
  extract_lets dropped run mine settled
  have ksettled : KeysKept s₀ settled := ((k.dropRecBlock ..).modRun ..).blockSettled ..
  refine ksettled.when _ _ (ksettled.forEach _ _ fun e k => ?_)
  split
  · exact k.faultWrite e.1
  · exact k

theorem breakBlock (r : RecBlock) : KeysKept s₀ (s.breakBlock r) := by
  unfold State.breakBlock
  extract_lets n psa raised cipher taken measured freed
  have ktaken : KeysKept s₀ taken := (k.raise ..).setWork _
  exact ((ktaken.writeQuality ..).freeRecEntry ..).endRecBlock r true

theorem stopAtBoundary (n : Nat) : KeysKept s₀ (s.stopAtBoundary n) := by
  unfold State.stopAtBoundary
  extract_lets t played closed begun broken left
  have kplayed : KeysKept s₀ played := k.when _ _ <| k.forEach _ _ fun i k => by
    split
    · split
      · exact k.framePlayed ..
      · exact k
    · exact k
  have kbroken : KeysKept s₀ broken := (kplayed.modPickup ..).forEach _ _ fun r k => k.breakBlock r
  have kleft : KeysKept s₀ left := kbroken.forEach _ _ fun r k => (k.setRecBlock _).modEntry ..
  exact (kleft.modRun ..).put ..

/-! ## The resets below the full one -/

theorem discardCmd (h : Nat) : KeysKept s₀ (s.discardCmd h) := by
  unfold State.discardCmd
  extract_lets c rest dropped fw freed
  have kfreed : KeysKept s₀ freed := ((k.releaseUses h true).dropCmd h).setFw _
  exact kfreed.padLbas ..

theorem silence (f : Nat) : KeysKept s₀ (s.silence f) := by
  unfold State.silence
  extract_lets reads peers pcie dropped answered forwarded discarded unlocked
  have kdropped : KeysKept s₀ dropped := k.of_slots rfl
  have kdiscarded : KeysKept s₀ discarded := ((kdropped.emitAll _).discardForwarded f).forEach _ _ fun e k => by
    split
    · exact k.modCmd ..
    · exact k.discardCmd e.1
  have kunlocked : KeysKept s₀ unlocked := kdiscarded.forEach _ _ fun e k => by
    extract_lets x unlock
    split
    · have kunlock : KeysKept s₀ unlock := k.setEntry ..
      split
      · exact kunlock.freeEntry e
      · exact kunlock
    · exact k
  split
  · exact kdiscarded
  · refine kunlocked.forEach _ _ fun e k => ?_
    extract_lets x
    split
    · exact k.closeBlock ..
    · exact k

theorem initiateFlr (f : Nat) : KeysKept s₀ (s.initiateFlr f) := by
  unfold State.initiateFlr
  split
  · exact k
  · exact ((k.put ..).silence f).dropWindows f

theorem stopAny (h status : Nat) : KeysKept s₀ (s.stopAny h status) := by
  unfold State.stopAny
  extract_lets c
  split
  · exact k
  · split
    · exact k.stopCmd h status
    · split
      · exact k.abortMove h status
      · split
        · exact k.failLoad h status
        · split
          · exact k.failUnload h status
          · split
            · split
              · exact k.abortCal ..
              · exact k.endCmd ..
            · exact k.stopCmd h status

theorem stationReset (st : Nat) : KeysKept s₀ (s.stationReset st) := by
  unfold State.stationReset
  extract_lets busy fw stopped abandoned dropped fw' begun
  have kstopped : KeysKept s₀ stopped := k.forEach _ _ fun e k => by
    split
    · exact k
    · exact k.stopAny ..
  have kdropped : KeysKept s₀ dropped :=
    (kstopped.forEach _ _ fun n k => (k.stopAtBoundary n).abortCal n 2 Status.resetAborted).dropFilling st
  have kbegun : KeysKept s₀ begun := kdropped.setFw _
  split
  · exact k
  · split
    · split
      · exact k
      · exact k.of_slots rfl
    · exact kbegun.put ..

end

end KeysKept

/-! ## An FLR and a station reset -/

/-- The keys in the slots and the registers of the slots are as they were. -/
def KeySlotsKept (s t : State) : Prop := t.cipher.slots = s.cipher.slots ∧ ∀ i : Fin 64,
  t.fld (F.CIP_KEYSLOT_GEN_LO_GEN i) = s.fld (F.CIP_KEYSLOT_GEN_LO_GEN i) ∧
  t.fld (F.CIP_KEYSLOT_GEN_HI_GEN i) = s.fld (F.CIP_KEYSLOT_GEN_HI_GEN i) ∧
  t.fld (F.CIP_KEYSLOT_LABEL_LABEL i) = s.fld (F.CIP_KEYSLOT_LABEL_LABEL i) ∧
  t.fld (F.CIP_KEYSLOT_INFO_LOADED i) = s.fld (F.CIP_KEYSLOT_INFO_LOADED i) ∧
  t.fld (F.CIP_KEYSLOT_INFO_LEN i) = s.fld (F.CIP_KEYSLOT_INFO_LEN i) ∧
  t.fld (F.CIP_KEYSLOT_INFO_FN_MASK i) = s.fld (F.CIP_KEYSLOT_INFO_FN_MASK i)

/-- Every part of the machine but the registers of the cipher engines, as a mask. -/
def exceptCipherRegs : Nat := 2 ^ 47 - 1 - 2 ^ Part.cipRegs.idx

theorem keySlotsKept_of_frame {s t : State} (keys : KeysKept s t) (unchanged : Frame exceptCipherRegs s t) : KeySlotsKept s t :=
  have regs : ∀ g : Fld, g.group = .cipRegs → t.fld g = s.fld g := unchanged .cipRegs rfl
  ⟨keys, fun _ => ⟨regs _ rfl, regs _ rfl, regs _ rfl, regs _ rfl, regs _ rfl, regs _ rfl⟩⟩

theorem answers_keySlotsKept {c : Instr} {s : State} (keys : Answers c s (KeysKept s))
    (frame : FrameRes exceptCipherRegs s (exec c s)) : Answers c s (KeySlotsKept s) := by
  obtain ⟨t, answered, kept⟩ := keys
  obtain ⟨u, same, unchanged⟩ := frame
  obtain rfl : t = u := by simpa [answered] using same
  exact ⟨t, answered, keySlotsKept_of_frame kept unchanged⟩

section
variable (s : State)

theorem initiateFlr_keysKept (f : Fin 4) : Answers (.initiateFlr f) s (KeysKept s) :=
  ⟨s.initiateFlr f, rfl, (KeysKept.refl s).initiateFlr f⟩

theorem flrDone_keysKept (f : Fin 4) : Answers (.flrDone f) s (KeysKept s) := by
  have k := KeysKept.refl s
  change ∃ t, execFlrDone f s = .next t ∧ KeysKept s t
  unfold execFlrDone
  split
  · exact ⟨s, rfl, k⟩
  · extract_lets ended
    have kended : KeysKept s ended := (k.resetConfig f).put ..
    split
    · exact ⟨ended, rfl, kended⟩
    · exact ⟨_, rfl, ((kended.resetFunctionBlocks f).put ..).post ..⟩

theorem stationReset_keysKept (st : Fin 8) : Answers (.stationReset st) s (KeysKept s) :=
  ⟨s.stationReset st, rfl, (KeysKept.refl s).stationReset st⟩

theorem resetDone_keysKept (st : Fin 8) : Answers (.resetDone st) s (KeysKept s) := by
  have k := KeysKept.refl s
  change ∃ t, execResetDone st s = .next t ∧ KeysKept s t
  unfold execResetDone
  split
  · exact ⟨s, rfl, k⟩
  · extract_lets unloading back fw ended busy
    have kback : KeysKept s back := k.when _ _ (k.forEach _ _ fun n k => k.bringBack n)
    have kended : KeysKept s ended := kback.setFw _
    exact ⟨_, rfl, (kended.put ..).post ..⟩

end

/-! ## A full device reset -/

/-- No slot holds a key, is labelled or says that it is loaded. -/
def KeySlotsZeroized (t : State) : Prop := t.cipher.slots = [] ∧ ∀ i : Fin 64,
  t.fld (F.CIP_KEYSLOT_INFO_LOADED i) = 0 ∧ t.fld (F.CIP_KEYSLOT_LABEL_LABEL i) = 0

theorem fullReset_fld (s : State) (cause : Nat) {g : Fld} (notCause : g.key ≠ F.SYS_RESET_STATUS_CAUSE.key)
    (notRails : g.key ≠ F.SYS_RAIL_STATUS_IN_RANGE.key) : (s.fullReset cause).fld g = g.reset :=
  (State.fld_put_ne _ _ notRails).trans (State.fld_put_ne _ _ notCause)

theorem fullReset_zeroized (s : State) (cause : Nat) : KeySlotsZeroized (s.fullReset cause) :=
  ⟨rfl, fun _ => ⟨fullReset_fld s cause (Fld.key_ne_of_id rfl) (Fld.key_ne_of_id rfl),
    fullReset_fld s cause (Fld.key_ne_of_id rfl) (Fld.key_ne_of_id rfl)⟩⟩

theorem KeySlotsZeroized.putRails {t : State} (z : KeySlotsZeroized t) (rails : Nat) :
    KeySlotsZeroized (t.put F.SYS_RAIL_STATUS_IN_RANGE rails) := by
  obtain ⟨empty, registers⟩ := z
  refine ⟨empty, fun i => ?_⟩
  rw [State.fld_put_ne _ _ (Fld.key_ne_of_id rfl), State.fld_put_ne _ _ (Fld.key_ne_of_id rfl)]
  exact registers i

theorem quarterDegrees_eq_toInt (tj : BitVec 12) : quarterDegrees tj = tj.toInt := by
  rw [quarterDegrees, toSigned, Nat.mod_eq_of_lt tj.isLt, BitVec.toInt_eq_toNat_cond]
  rfl

theorem thermalTrip_fullReset (s : State) {tj : BitVec 12} (hot : 145 * 4 < tj.toInt) :
    ∃ told : State, exec (.thermalTrip tj) s = .next (told.fullReset causeThermal) :=
  ⟨s.put F.SYS_TEMP_TJ tj.toNat, if_pos (by rw [quarterDegrees_eq_toInt]; exact hot)⟩

/-- The first packet in the inbox is taken if it is of the kind sought. -/
theorem takeFirst_head {s : State} {sel : Packet → Bool} {e : InPacket} {rest : List InPacket} (inbox : s.mbl.inbox = e :: rest)
    (sought : sel e.packet = true) : ∃ t, s.takeFirst sel = some (e, t) := by
  simp [State.takeFirst, inbox, sought]

theorem resetPacket_fullReset {s : State} {e : InPacket} {rest : List InPacket} (below : s.root = false)
    (inbox : s.mbl.inbox = e :: rest) (reset : e.packet.type = Pkt.reset) (fromParent : e.port = 0)
    (kind : e.packet.payload.getD 0 0 = 2) : ∃ taken : State, exec .resetPacket s = .next (taken.fullReset causeTree) := by
  obtain ⟨taken, head⟩ := takeFirst_head (sel := isType Pkt.reset) inbox (by simp [isType, reset])
  refine ⟨taken, ?_⟩
  change execResetPacket s = _
  simp only [execResetPacket, below, head, fromParent, kind, Bool.false_eq_true, ne_eq, not_true_eq_false, if_false, if_true]

/-- Settles O16: below a full reset only the work of the engines goes; a full reset brings back the state without keys. -/
theorem keySlotsStandThroughResetsBelowFull : Obligations.KeySlotsStandThroughResetsBelowFull := by
  intro s
  refine ⟨fun f => ⟨?_, ?_⟩, fun st => ⟨?_, ?_⟩, ?_, fun rail => ?_, ?_, ?_, fun tj hot => ?_,
    fun e rest below inbox reset fromParent kind => ?_⟩
  · exact answers_keySlotsKept (initiateFlr_keysKept s f) (execInitiateFlr_frame (.refl _ s) f ⟨rfl⟩)
  · exact answers_keySlotsKept (flrDone_keysKept s f) (execFlrDone_frame (.refl _ s) f ⟨rfl⟩)
  · exact answers_keySlotsKept (stationReset_keysKept s st) (execStationReset_frame (.refl _ s) st ⟨rfl⟩)
  · exact answers_keySlotsKept (resetDone_keysKept s st) (execResetDone_frame (.refl _ s) st ⟨rfl⟩)
  · exact ⟨_, rfl, (fullReset_zeroized s causePowerOn).putRails 0⟩
  · exact ⟨_, rfl, (fullReset_zeroized s causeBrownOut).putRails _⟩
  · exact ⟨_, rfl, fullReset_zeroized s causeCrystal⟩
  · exact ⟨_, rfl, fullReset_zeroized s causePerst⟩
  · obtain ⟨told, answered⟩ := thermalTrip_fullReset s hot
    exact ⟨_, answered, fullReset_zeroized told causeThermal⟩
  · obtain ⟨taken, answered⟩ := resetPacket_fullReset below inbox reset fromParent kind
    exact ⟨_, answered, fullReset_zeroized taken causeTree⟩

end Sys2Proof.Machine
end

section
/-!
PROOFS. The latches of the pairs that are read LO first (R405, R558): what a read of LO and a read of HI do, that two requesters never
share a latch, and where the map has the pairs that R558 lists.
-/
namespace Sys2Proof.Machine

/-- The LO half of a statistics counter or of another pair. -/
abbrev RegRole.IsLo (a : RegRole) : Prop := a = .counterLo ∨ a = .pairLo

/-- The HI half of a statistics counter or of another pair. -/
abbrev RegRole.IsHi (a : RegRole) : Prop := a = .counterHi ∨ a = .pairHi

/-! ## Finding a register -/

theorem findReg_some {rows : List RegRow} {fn off : Nat} {r : RegRow} {ix : Nat} (found : findReg rows fn off = some (r, ix)) :
    r ∈ rows ∧ r.index fn off = some ix := by
  induction rows with
  | nil => cases found
  | cons first rest ih =>
    rw [findReg] at found
    split at found
    next jx here =>
      cases found
      exact ⟨List.mem_cons_self, here⟩
    next =>
      obtain ⟨later, index⟩ := ih found
      exact ⟨List.mem_cons_of_mem _ later, index⟩

/-- A register that is the only one of its row lies at the row's offset. -/
theorem RegRow.off_eq_base {r : RegRow} {fn off ix : Nat} (single : r.dims = []) (index : r.index fn off = some ix) : off = r.base := by
  by_cases below : off < r.base
  · rw [RegRow.index, if_pos below] at index
    cases index
  · by_cases past : off - r.base = 0
    · omega
    · simp [RegRow.index, single, dimsIndex, past] at index

theorem regBlock0_hi : ∀ r ∈ regBlock0, r.role.IsHi → r.dims = [] ∧ r.base < 0x800 := by decide

/-- The MSI-X table, which takes the offsets from 0x800 on, hides no HI word of a pair. -/
theorem regAt_hi_lt_msix {fn off : Nat} {q : RegRow} {jx : Nat} (hiAt : regAt fn off = some (q, jx)) (isHi : q.role.IsHi)
    (low : off < 0x4000) : off < 0x800 := by
  have block : off / 0x4000 = 0 := by omega
  rw [regAt, regRowsAt, block] at hiAt
  obtain ⟨listed, index⟩ := findReg_some hiAt
  obtain ⟨single, base⟩ := regBlock0_hi q listed isHi
  rwa [RegRow.off_eq_base single index]

/-! ## Reads of a pair -/

/-- Function `fn` has the LO word of a pair at `off` and its HI word behind it, away from the words of the MSI-X table and pending bits. -/
structure PairAt (fn off : Nat) (r : RegRow) (ix : Nat) (q : RegRow) (jx : Nat) : Prop where
  loAt : regAt fn off = some (r, ix)
  isLo : r.role.IsLo
  hiAt : regAt fn (off + 4) = some (q, jx)
  isHi : q.role.IsHi
  high : off < 0x800 ∨ 0xC08 < off

/-- The machine after a latch of `who` for the pair of a LO word has taken `v`. -/
def State.latched (s : State) (who : Requester) (r : RegRow) (ix v : Nat) : State :=
  { s with latch := Table.put 0 s.latch (latchKey who r ix) v }

section
variable (s : State) (who : Requester) {fn off : Nat} {r q : RegRow} {ix jx : Nat} (pair : PairAt fn off r ix q jx)
include pair

theorem PairAt.high_hi : off + 4 < 0x800 ∨ 0xC08 < off + 4 := by
  obtain ⟨-, -, hiAt, isHi, below | above⟩ := pair
  · exact .inl (regAt_hi_lt_msix hiAt isHi (by omega))
  · exact .inr (by omega)

/-- A read of LO gives LO and latches HI for its requester. -/
theorem State.readWord_lo : s.readWord who fn off = (s.regWord r ix, s.latched who r ix (s.regWord q jx)) := by
  obtain ⟨loAt, isLo, hiAt, -, high⟩ := pair
  have table : ¬ (0x800 ≤ off ∧ off < 0xC00) := by omega
  have pending : ¬ (off = 0xC00 ∨ off = 0xC04) := by omega
  rw [State.readWord, if_neg table, if_neg pending, loAt, hiAt]
  rcases isLo with role | role <;> simp only [role] <;> rfl

/-- A read of HI gives what the requester's latch holds, and changes nothing. -/
theorem State.readWord_hi : s.readWord who fn (off + 4) = (Table.at 0 s.latch (latchKey who r ix), s) := by
  have high := pair.high_hi
  obtain ⟨loAt, -, hiAt, isHi, -⟩ := pair
  have table : ¬ (0x800 ≤ off + 4 ∧ off + 4 < 0xC00) := by omega
  have pending : ¬ (off + 4 = 0xC00 ∨ off + 4 = 0xC04) := by omega
  rw [State.readWord, if_neg table, if_neg pending, hiAt, Nat.add_sub_cancel, loAt]
  rcases isHi with role | role <;> simp only [role]

end

/-! ## The latches of two requesters -/

theorem requesterNo_lt (who : Requester) : requesterNo who < 64 := by
  cases who <;> simp only [requesterNo] <;> omega

theorem requesterNo_injective : Function.Injective requesterNo := by
  intro a b same
  cases a with
  | host f =>
    cases b with
    | host g => exact congrArg Requester.host (Fin.ext same)
    | remote | processor => simp only [requesterNo] at same; omega
  | remote =>
    cases b with
    | remote => rfl
    | host | processor => simp only [requesterNo] at same; omega
  | processor p =>
    cases b with
    | processor p' => exact congrArg Requester.processor (Fin.ext (Nat.add_left_cancel same))
    | host | remote => simp only [requesterNo] at same; omega

theorem latchKey_ne {who other : Requester} (differ : other ≠ who) (r r' : RegRow) (ix ix' : Nat) :
    latchKey other r' ix' ≠ latchKey who r ix := by
  have numbers : requesterNo other ≠ requesterNo who := requesterNo_injective.ne differ
  have := requesterNo_lt other
  have := requesterNo_lt who
  unfold latchKey
  omega

theorem State.latched_at_same (s : State) (who : Requester) (r : RegRow) (ix v : Nat) :
    Table.at 0 (s.latched who r ix v).latch (latchKey who r ix) = v := Table.at_put_same ..

theorem State.latched_at_other (s : State) {who other : Requester} (differ : other ≠ who) (r r' : RegRow) (ix ix' v : Nat) :
    Table.at 0 (s.latched who r ix v).latch (latchKey other r' ix') = Table.at 0 s.latch (latchKey other r' ix') :=
  Table.get_set_ne _ _ _ (latchKey_ne differ r r' ix ix')

/-! ## The listed pairs -/

/-- The role and the index of the register of PF0 at an offset. -/
def roleAt (off : Nat) : Option (RegRole × Nat) := (regAt 0 off).map (fun e => (e.1.role, e.2))

theorem regAt_of_roleAt {off ix : Nat} {a : RegRole} (known : roleAt off = some (a, ix)) : ∃ r, regAt 0 off = some (r, ix) ∧ r.role = a := by
  obtain ⟨⟨r, jx⟩, found, same⟩ := Option.map_eq_some_iff.mp known
  cases same
  exact ⟨r, found, rfl⟩

theorem pair_of_roleAt {lo hi ix : Nat} {a b : RegRole} (pair : roleAt lo = some (a, ix) ∧ roleAt hi = some (b, ix))
    (isLo : a.IsLo) (isHi : b.IsHi) :
    ∃ r q, regAt 0 lo = some (r, ix) ∧ r.role.IsLo ∧ regAt 0 hi = some (q, ix) ∧ q.role.IsHi := by
  obtain ⟨loAt, hiAt⟩ := pair
  obtain ⟨r, atLo, rfl⟩ := regAt_of_roleAt loAt
  obtain ⟨q, atHi, rfl⟩ := regAt_of_roleAt hiAt
  exact ⟨r, q, atLo, isLo, atHi, isHi⟩

theorem roleAt_lateCount : ∀ n : Fin 16,
    roleAt (0x30010 + 0x400 * n) = some (.counterLo, n.val) ∧ roleAt (0x30014 + 0x400 * n) = some (.counterHi, n.val) := by decide

theorem roleAt_motMaster : ∀ n : Fin 16,
    roleAt (0x4803C + 0x80 * n) = some (.pairLo, n.val) ∧ roleAt (0x48040 + 0x80 * n) = some (.pairHi, n.val) := by decide

theorem roleAt_chainTime : roleAt 0x68410 = some (.pairLo, 0) ∧ roleAt 0x68414 = some (.pairHi, 0) := by decide

theorem roleAt_summitTime : roleAt 0x78010 = some (.pairLo, 0) ∧ roleAt 0x78014 = some (.pairHi, 0) := by decide

theorem roleAt_keySlotGen : ∀ k : Fin 64,
    roleAt (0x28100 + 16 * k) = some (.pairLo, k.val) ∧ roleAt (0x28104 + 16 * k) = some (.pairHi, k.val) := by decide

/-- Settles O19: a read of LO writes one latch, whose place names the requester, and a read of HI reads one. -/
theorem everyRequesterHasItsOwnLatch : Obligations.EveryRequesterHasItsOwnLatch := by
  refine ⟨?_, fun n => pair_of_roleAt (roleAt_lateCount n) (.inl rfl) (.inl rfl),
    fun n => pair_of_roleAt (roleAt_motMaster n) (.inr rfl) (.inr rfl),
    pair_of_roleAt roleAt_chainTime (.inr rfl) (.inr rfl), pair_of_roleAt roleAt_summitTime (.inr rfl) (.inr rfl),
    fun k => pair_of_roleAt (roleAt_keySlotGen k) (.inr rfl) (.inr rfl)⟩
  intro s who other fn fn' off off' r q r' q' ix jx ix' jx' loAt isLo hiAt isHi high loAt' isLo' hiAt' isHi' high'
  have pair : PairAt fn off r ix q jx := ⟨loAt, isLo, hiAt, isHi, high⟩
  have pair' : PairAt fn' off' r' ix' q' jx' := ⟨loAt', isLo', hiAt', isHi', high'⟩
  simp only [State.readWord_lo _ _ pair, State.readWord_hi _ _ pair, State.readWord_hi _ _ pair', true_and, and_true]
  exact ⟨State.latched_at_same .., fun differ => State.latched_at_other _ differ ..⟩

end Sys2Proof.Machine
end

section
/-!
SUPPORT. What every command does whatever its operands: it is answered with a next state, touches only its parts, and keeps the invariant
and Chain Time; and runs of the queue.
-/
set_option Elab.async false
namespace Sys2Proof.Machine

/-! ## Frames as lists of parts -/

/-- The mask of a list of parts. -/
def Part.mask (ps : List Part) : Nat := ps.foldr (fun p m => 2 ^ p.idx ||| m) 0

theorem Part.idx_injective : Function.Injective Part.idx := by
  intro p q same
  cases p <;> cases q <;> first | rfl | exact absurd same (by decide)

theorem Part.mask_testBit (ps : List Part) (p : Part) : (Part.mask ps).testBit p.idx = decide (p ∈ ps) := by
  induction ps with
  | nil => simp [Part.mask]
  | cons q ps ih =>
    have split : (Part.mask (q :: ps)).testBit p.idx = ((2 ^ q.idx).testBit p.idx || (Part.mask ps).testBit p.idx) := Nat.testBit_or ..
    rw [split, ih, Nat.testBit_two_pow]
    simp [Part.idx_injective.eq_iff, eq_comm]

/-- A frame whose mask is that of a list leaves every part outside the list. -/
theorem Frame.leaves {ps : List Part} {s t : State} (h : Frame (Part.mask ps) s t) : Leaves ps s t :=
  fun p outside => h p (by rw [Part.mask_testBit, decide_eq_false outside])

theorem FrameRes.leaves {ps : List Part} {s : State} {r : Res} (h : FrameRes (Part.mask ps) s r) : ∃ t, r = .next t ∧ Leaves ps s t := by
  obtain ⟨t, answered, frame⟩ := h
  exact ⟨t, answered, frame.leaves⟩

theorem Keeps.leaves_whole {s t : State} (h : Keeps s t) : Leaves Part.whole s t := by
  intro p outside
  cases p with
  | root => exact h.root
  | pending => exact h.pending
  | _ => exact absurd (by decide) outside

/-! ## One lemma for each row of the command table -/

/-- Every command but those that reset the whole device answers a next state that is steady: one lemma of Laws/ for each row. -/
theorem exec_steady {c : Instr} {s : State} (below : resetsAll c = false) : SteadyRes s (exec c s) := by
  cases c with
  | powerOn | brownOut _ | crystalLoss | pciePerstAssert | thermalTrip _ | resetPacket => exact Bool.noConfusion below
  | initiateFlr f => exact execInitiateFlr_steady (Steady.refl s) f
  | flrDone f => exact execFlrDone_steady (Steady.refl s) f
  | hotReset => exact execHotReset_steady (Steady.refl s)
  | dlDown => exact execDlDown_steady (Steady.refl s)
  | pcieLinkChange rate width => exact execPcieLinkChange_steady (Steady.refl s) rate width
  | pmD3hotEntry f => exact execPmD3hotEntry_steady (Steady.refl s) f
  | pmD0Return f => exact execPmD0Return_steady (Steady.refl s) f
  | aspmL0sEntry => exact execAspmL0sEntry_steady (Steady.refl s)
  | aspmL1Entry => exact execAspmL1Entry_steady (Steady.refl s)
  | completionTlp f tag status data => exact execCompletionTlp_steady (Steady.refl s) f tag status data
  | cplTimeout f tag => exact execCplTimeout_steady (Steady.refl s) f tag
  | tagQuarantineEnd f tag => exact execTagQuarantineEnd_steady (Steady.refl s) f tag
  | functionWedged f => exact execFunctionWedged_steady (Steady.refl s) f
  | msixUnmask f vector => exact execMsixUnmask_steady (Steady.refl s) f vector
  | vectorModTimeout f vector => exact execVectorModTimeout_steady (Steady.refl s) f vector
  | peerRead f offset len => exact execPeerRead_steady (Steady.refl s) f offset len
  | bar2Write f offset => exact execBar2Write_steady (Steady.refl s) f offset
  | peerReadResume id => exact execPeerReadResume_steady (Steady.refl s) id
  | peerReadTimeout id => exact execPeerReadTimeout_steady (Steady.refl s) id
  | windowCommit f => exact execWindowCommit_steady (Steady.refl s) f
  | windowCommitApply f => exact execWindowCommitApply_steady (Steady.refl s) f
  | configurationRequest f field write => exact execConfigurationRequest_steady (Steady.refl s) f field write
  | badTlpReceived f err => exact execBadTlpReceived_steady (Steady.refl s) f err
  | l1PmSubstateEntry clkreqReleased => exact execL1PmSubstateEntry_steady (Steady.refl s) clkreqReleased
  | pcieLinkUp rate width => exact execPcieLinkUp_steady (Steady.refl s) rate width
  | sqTailDoorbell f ring shape value => exact execSqTailDoorbell_steady (Steady.refl s) f ring shape value
  | cqHeadDoorbell f ring shape value => exact execCqHeadDoorbell_steady (Steady.refl s) f ring shape value
  | evtQHeadDoorbell shape value => exact execEvtQHeadDoorbell_steady (Steady.refl s) shape value
  | sqCfgWrite f ring value => exact execSqCfgWrite_steady (Steady.refl s) f ring value
  | cqCfgWrite f ring value => exact execCqCfgWrite_steady (Steady.refl s) f ring value
  | evtQCfgWrite value => exact execEvtQCfgWrite_steady (Steady.refl s) value
  | descriptorFetch f ring => exact execDescriptorFetch_steady (Steady.refl s) f ring
  | acceptance h => exact execAcceptance_steady (Steady.refl s) h
  | listReadDone h => exact execListReadDone_steady (Steady.refl s) h
  | dispatch h => exact execDispatch_steady (Steady.refl s) h
  | admission q => exact execAdmission_steady (Steady.refl s) q
  | completionRecord f ring => exact execCompletionRecord_steady (Steady.refl s) f ring
  | eventRecord => exact execEventRecord_steady (Steady.refl s)
  | eventsLost => exact execEventsLost_steady (Steady.refl s)
  | clearAll => exact execClearAll_steady (Steady.refl s)
  | read h => exact execRead_steady (Steady.refl s) h
  | write h => exact execWrite_steady (Steady.refl s) h
  | verify h => exact execVerify_steady (Steady.refl s) h
  | flush h => exact execFlush_steady (Steady.refl s) h
  | preload h => exact execPreload_steady (Steady.refl s) h
  | abort h => exact execAbort_steady (Steady.refl s) h
  | cipherJob h => exact execCipherJob_steady (Steady.refl s) h
  | entryAllocate h block => exact execEntryAllocate_steady (Steady.refl s) h block
  | readAhead st => exact execReadAhead_steady (Steady.refl s) st
  | cacheDisable => exact execCacheDisable_steady (Steady.refl s)
  | cacheEnable => exact execCacheEnable_steady (Steady.refl s)
  | cacheDrainDone => exact execCacheDrainDone_steady (Steady.refl s)
  | dmaWriteIssued h unit => exact execDmaWriteIssued_steady (Steady.refl s) h unit
  | keyLoad slot => exact execKeyLoad_steady (Steady.refl s) slot
  | keyErase slot => exact execKeyErase_steady (Steady.refl s) slot
  | keyLoadDone => exact execKeyLoadDone_steady (Steady.refl s)
  | keyZeroizeDone slot => exact execKeyZeroizeDone_steady (Steady.refl s) slot
  | engineBlockDone e => exact execEngineBlockDone_steady (Steady.refl s) e
  | jtagStateChange enabled record => exact execJtagStateChange_steady (Steady.refl s) enabled record
  | attest h => exact execAttest_steady (Steady.refl s) h
  | lRead h => exact execLRead_steady (Steady.refl s) h
  | lWrite h => exact execLWrite_steady (Steady.refl s) h
  | lFlush h => exact execLFlush_steady (Steady.refl s) h
  | fwDownload h => exact execFwDownload_steady (Steady.refl s) h
  | flashProgramDone ok => exact execFlashProgramDone_steady (Steady.refl s) ok
  | rchStagedWrite bc reg value => exact execRchStagedWrite_steady (Steady.refl s) bc reg value
  | frameStart bc target zone tone rate => exact execFrameStart_steady (Steady.refl s) bc target zone tone rate
  | frameEnd bc first bits clips => exact execFrameEnd_steady (Steady.refl s) bc first bits clips
  | timingLost bc bit mean => exact execTimingLost_steady (Steady.refl s) bc bit mean
  | defectActive bc e1 e2 r => exact execDefectActive_steady (Steady.refl s) bc e1 e2 r
  | defectInactive bc windows r => exact execDefectInactive_steady (Steady.refl s) bc windows r
  | captureAgeTrigger bc meanErr => exact execCaptureAgeTrigger_steady (Steady.refl s) bc meanErr
  | frameImageDone e j rows => exact execFrameImageDone_steady (Steady.refl s) e j rows
  | laneQualityLow bc => exact execLaneQualityLow_steady (Steady.refl s) bc
  | syncSearch bc p q => exact execSyncSearch_steady (Steady.refl s) bc p q
  | decodeConverged e j idx codeword inTime => exact execDecodeConverged_steady (Steady.refl s) e j idx codeword inTime
  | decodeMaxIter e j idx inTime => exact execDecodeMaxIter_steady (Steady.refl s) e j idx inTime
  | redecodeRoundStart => exact execRedecodeRoundStart_steady (Steady.refl s)
  | reequalizerPassDone e j => exact execReequalizerPassDone_steady (Steady.refl s) e j
  | outerDecode e => exact execOuterDecode_steady (Steady.refl s) e
  | outerDecodeDone e => exact execOuterDecodeDone_steady (Steady.refl s) e
  | blockBlank e => exact execBlockBlank_steady (Steady.refl s) e
  | reread e => exact execReread_steady (Steady.refl s) e
  | srvPeriodWrite value => exact execSrvPeriodWrite_steady (Steady.refl s) value
  | sectEnWrite n l value => exact execSectEnWrite_steady (Steady.refl s) n l value
  | injEnable n amp => exact execInjEnable_steady (Steady.refl s) n amp
  | holdExtendEnd n l => exact execHoldExtendEnd_steady (Steady.refl s) n l
  | profileTick => exact execProfileTick_steady (Steady.refl s)
  | motorStart x => exact execMotorStart_steady (Steady.refl s) x
  | motorRappel x => exact execMotorRappel_steady (Steady.refl s) x
  | motorEmergency x => exact execMotorEmergency_steady (Steady.refl s) x
  | motorHome m => exact execMotorHome_steady (Steady.refl s) m
  | motorTargetWrite x value => exact execMotorTargetWrite_steady (Steady.refl s) x value
  | motorSpeedWrite x acc value => exact execMotorSpeedWrite_steady (Steady.refl s) x acc value
  | motorDecWrite x value => exact execMotorDecWrite_steady (Steady.refl s) x value
  | motorPosSet x value => exact execMotorPosSet_steady (Steady.refl s) x value
  | gearEngage x on => exact execGearEngage_steady (Steady.refl s) x on
  | gearArm x => exact execGearArm_steady (Steady.refl s) x
  | gearChange x => exact execGearChange_steady (Steady.refl s) x
  | groupMembersWrite g members => exact execGroupMembersWrite_steady (Steady.refl s) g members
  | groupStart g => exact execGroupStart_steady (Steady.refl s) g
  | groupRappel g => exact execGroupRappel_steady (Steady.refl s) g
  | estopAll => exact execEstopAll_steady (Steady.refl s)
  | estopClear => exact execEstopClear_steady (Steady.refl s)
  | homeFaultClear m => exact execHomeFaultClear_steady (Steady.refl s) m
  | limitQualified m positive active edge => exact execLimitQualified_steady (Steady.refl s) m positive active edge
  | homeQualified m active edge => exact execHomeQualified_steady (Steady.refl s) m active edge
  | encoderEdge m edge => exact execEncoderEdge_steady (Steady.refl s) m edge
  | sledStandstill x => exact execSledStandstill_steady (Steady.refl s) x
  | axisHoldReduce m => exact execAxisHoldReduce_steady (Steady.refl s) m
  | moveAxis h => exact execMoveAxis_steady (Steady.refl s) h
  | moveGroup h => exact execMoveGroup_steady (Steady.refl s) h
  | moveHoming h => exact execMoveHoming_steady (Steady.refl s) h
  | moveRappel h => exact execMoveRappel_steady (Steady.refl s) h
  | lSegment h => exact execLSegment_steady (Steady.refl s) h
  | addressDecoded n address passed => exact execAddressDecoded_steady (Steady.refl s) n address passed
  | focusSweepEnd n => exact execFocusSweepEnd_steady (Steady.refl s) n
  | focusLock n => exact execFocusLock_steady (Steady.refl s) n
  | focusedTimeout n => exact execFocusedTimeout_steady (Steady.refl s) n
  | trackLock n => exact execTrackLock_steady (Steady.refl s) n
  | pullinTimeout n => exact execPullinTimeout_steady (Steady.refl s) n
  | alignAddressTimeout n => exact execAlignAddressTimeout_steady (Steady.refl s) n
  | trackJumpDone n => exact execTrackJumpDone_steady (Steady.refl s) n
  | trackJumpTimeout n => exact execTrackJumpTimeout_steady (Steady.refl s) n
  | layerJumpTimeout n => exact execLayerJumpTimeout_steady (Steady.refl s) n
  | coarseSettleEnd n => exact execCoarseSettleEnd_steady (Steady.refl s) n
  | focusLost n => exact execFocusLost_steady (Steady.refl s) n
  | trackLost n => exact execTrackLost_steady (Steady.refl s) n
  | parkRampEnd n => exact execParkRampEnd_steady (Steady.refl s) n
  | recoverCountClear n => exact execRecoverCountClear_steady (Steady.refl s) n
  | defectLong n => exact execDefectLong_steady (Steady.refl s) n
  | defectTriggersRestore n => exact execDefectTriggersRestore_steady (Steady.refl s) n
  | revolutionReference n => exact execRevolutionReference_steady (Steady.refl s) n
  | baeGatesReopen n => exact execBaeGatesReopen_steady (Steady.refl s) n
  | belayReqSet n => exact execBelayReqSet_steady (Steady.refl s) n
  | belayReqClear n => exact execBelayReqClear_steady (Steady.refl s) n
  | sampleInstant inputs => exact execSampleInstant_steady (Steady.refl s) inputs
  | outputInstant n ready => exact execOutputInstant_steady (Steady.refl s) n ready
  | loopComputationEnd n => exact execLoopComputationEnd_steady (Steady.refl s) n
  | loopBelayLate n => exact execLoopBelayLate_steady (Steady.refl s) n
  | loopOnTime n => exact execLoopOnTime_steady (Steady.refl s) n
  | traceArm n => exact execTraceArm_steady (Steady.refl s) n
  | traceStop n => exact execTraceStop_steady (Steady.refl s) n
  | traceFire n => exact execTraceFire_steady (Steady.refl s) n
  | traceDone n => exact execTraceDone_steady (Steady.refl s) n
  | trcArm mask => exact execTrcArm_steady (Steady.refl s) mask
  | trcFire mask => exact execTrcFire_steady (Steady.refl s) mask
  | laserOverpower n => exact execLaserOverpower_steady (Steady.refl s) n
  | lddLinkEnable n => exact execLddLinkEnable_steady (Steady.refl s) n
  | lddStatusFrame n frame => exact execLddStatusFrame_steady (Steady.refl s) n frame
  | lddLinkUp n => exact execLddLinkUp_steady (Steady.refl s) n
  | lddBadFrames n => exact execLddBadFrames_steady (Steady.refl s) n
  | lddStatusTimeout n => exact execLddStatusTimeout_steady (Steady.refl s) n
  | lddTableLoad n layer crc1 crc2 => exact execLddTableLoad_steady (Steady.refl s) n layer crc1 crc2
  | spindleRunSet st => exact execSpindleRunSet_steady (Steady.refl s) st
  | spindleRunClear st => exact execSpindleRunClear_steady (Steady.refl s) st
  | spindleTargetWrite st value => exact execSpindleTargetWrite_steady (Steady.refl s) st value
  | chopFaultClear st => exact execChopFaultClear_steady (Steady.refl s) st
  | spindleZeroCrossing st interval after emf => exact execSpindleZeroCrossing_steady (Steady.refl s) st interval after emf
  | spindleCommutation st elapsed duty => exact execSpindleCommutation_steady (Steady.refl s) st elapsed duty
  | zeroCrossingMissed st => exact execZeroCrossingMissed_steady (Steady.refl s) st
  | speedLoopInstant st => exact execSpeedLoopInstant_steady (Steady.refl s) st
  | atSpeed st => exact execAtSpeed_steady (Steady.refl s) st
  | busConversion st code => exact execBusConversion_steady (Steady.refl s) st code
  | chopperNoCurrent st => exact execChopperNoCurrent_steady (Steady.refl s) st
  | busOvRelease => exact execBusOvRelease_steady (Steady.refl s)
  | probeTimeout st => exact execProbeTimeout_steady (Steady.refl s) st
  | hfiDone st q step => exact execHfiDone_steady (Steady.refl s) st q step
  | alignElapsed st => exact execAlignElapsed_steady (Steady.refl s) st
  | catchTimeout st => exact execCatchTimeout_steady (Steady.refl s) st
  | frontierSearch n layer begun => exact execFrontierSearch_steady (Steady.refl s) n layer begun
  | prePass n conflict => exact execPrePass_steady (Steady.refl s) n conflict
  | runStart n => exact execRunStart_steady (Steady.refl s) n
  | wobblePeriod n err freq => exact execWobblePeriod_steady (Steady.refl s) n err freq
  | wclkLocked n => exact execWclkLocked_steady (Steady.refl s) n
  | recordingResume n => exact execRecordingResume_steady (Steady.refl s) n
  | blockRecorded n => exact execBlockRecorded_steady (Steady.refl s) n
  | runEnd n => exact execRunEnd_steady (Steady.refl s) n
  | verifyPass n => exact execVerifyPass_steady (Steady.refl s) n
  | powerCalibration n layer run => exact execPowerCalibration_steady (Steady.refl s) n layer run
  | calibrateAdcTrim h trims => exact execCalibrateAdcTrim_steady (Steady.refl s) h trims
  | calibrateEspresso h runs => exact execCalibrateEspresso_steady (Steady.refl s) h runs
  | calibratePower h runs => exact execCalibratePower_steady (Steady.refl s) h runs
  | calibrateFull h runs => exact execCalibrateFull_steady (Steady.refl s) h runs
  | espressoAuto n run => exact execEspressoAuto_steady (Steady.refl s) n run
  | load h copy runs => exact execLoad_steady (Steady.refl s) h copy runs
  | lLoad h copy runs => exact execLLoad_steady (Steady.refl s) h copy runs
  | infoZoneSearchTimeout st side => exact execInfoZoneSearchTimeout_steady (Steady.refl s) st side
  | unload h => exact execUnload_steady (Steady.refl s) h
  | lUnload h => exact execLUnload_steady (Steady.refl s) h
  | scrubVisit bank upset => exact execScrubVisit_steady (Steady.refl s) bank upset
  | scrubLapSlow => exact execScrubLapSlow_steady (Steady.refl s)
  | memCntClr => exact execMemCntClr_steady (Steady.refl s)
  | memInjectArm value => exact execMemInjectArm_steady (Steady.refl s) value
  | portTrainingStart q => exact execPortTrainingStart_steady (Steady.refl s) q
  | portUp q gen width partner4080 level clash => exact execPortUp_steady (Steady.refl s) q gen width partner4080 level clash
  | linkFrame q ev => exact execLinkFrame_steady (Steady.refl s) q ev
  | linkReplayTimeout q => exact execLinkReplayTimeout_steady (Steady.refl s) q
  | portDown q => exact execPortDown_steady (Steady.refl s) q
  | heartbeatLoss q => exact execHeartbeatLoss_steady (Steady.refl s) q
  | orphanTimeout => exact execOrphanTimeout_steady (Steady.refl s)
  | cmdPacket => exact execCmdPacket_steady (Steady.refl s)
  | xferRdyPacket => exact execXferRdyPacket_steady (Steady.refl s)
  | dataPacket => exact execDataPacket_steady (Steady.refl s)
  | rspPacket => exact execRspPacket_steady (Steady.refl s)
  | evtPacket => exact execEvtPacket_steady (Steady.refl s)
  | timeExchange q => exact execTimeExchange_steady (Steady.refl s) q
  | timePacket => exact execTimePacket_steady (Steady.refl s)
  | mblCtLocked => exact execMblCtLocked_steady (Steady.refl s)
  | enumeration port n => exact execEnumeration_steady (Steady.refl s) port n
  | enumAssign => exact execEnumAssign_steady (Steady.refl s)
  | enumReport => exact execEnumReport_steady (Steady.refl s)
  | heartbeatSend => exact execHeartbeatSend_steady (Steady.refl s)
  | heartbeat => exact execHeartbeat_steady (Steady.refl s)
  | discard => exact execDiscard_steady (Steady.refl s)
  | grantHold => exact execGrantHold_steady (Steady.refl s)
  | grantHoldTimer tag => exact execGrantHoldTimer_steady (Steady.refl s) tag
  | xferWindowExpiry tag => exact execXferWindowExpiry_steady (Steady.refl s) tag
  | ctLoad value => exact execCtLoad_steady (Steady.refl s) value
  | portRetrain q => exact execPortRetrain_steady (Steady.refl s) q
  | fenceClr q => exact execFenceClr_steady (Steady.refl s) q
  | stationReset st => exact execStationReset_steady (Steady.refl s) st
  | resetDone st => exact execResetDone_steady (Steady.refl s) st
  | slotInsertion k => exact execSlotInsertion_steady (Steady.refl s) k
  | slotRemoval k => exact execSlotRemoval_steady (Steady.refl s) k
  | slotButton k => exact execSlotButton_steady (Steady.refl s) k
  | slotPowerFault k => exact execSlotPowerFault_steady (Steady.refl s) k
  | slotBlinkExpiry k => exact execSlotBlinkExpiry_steady (Steady.refl s) k
  | slotSettled k => exact execSlotSettled_steady (Steady.refl s) k
  | slotBringupDone k => exact execSlotBringupDone_steady (Steady.refl s) k
  | slotBringupTimeout k => exact execSlotBringupTimeout_steady (Steady.refl s) k
  | slotDrainDone k => exact execSlotDrainDone_steady (Steady.refl s) k
  | slotDrainTimeout k => exact execSlotDrainTimeout_steady (Steady.refl s) k
  | pwrReqSet k => exact execPwrReqSet_steady (Steady.refl s) k
  | pwrReqClear k => exact execPwrReqClear_steady (Steady.refl s) k
  | slotAbortReq k => exact execSlotAbortReq_steady (Steady.refl s) k
  | slotFaultClear k => exact execSlotFaultClear_steady (Steady.refl s) k
  | thermalWarn tj => exact execThermalWarn_steady (Steady.refl s) tj
  | resetRelease => exact execResetRelease_steady (Steady.refl s)
  | paceWindowEnd measured => exact execPaceWindowEnd_steady (Steady.refl s) measured
  | paceLow => exact execPaceLow_steady (Steady.refl s)
  | boostEnd => exact execBoostEnd_steady (Steady.refl s)
  | pmbusTransactionDone code ok data => exact execPmbusTransactionDone_steady (Steady.refl s) code ok data
  | pmbusAlert status => exact execPmbusAlert_steady (Steady.refl s) status
  | readVoutPoll code => exact execReadVoutPoll_steady (Steady.refl s) code
  | ageRecord v => exact execAgeRecord_steady (Steady.refl s) v
  | fwVerify slot => exact execFwVerify_steady (Steady.refl s) slot
  | fwVerifyDone => exact execFwVerifyDone_steady (Steady.refl s)
  | fwBootSlotWrite slot => exact execFwBootSlotWrite_steady (Steady.refl s) slot
  | fwActivateRolling h => exact execFwActivateRolling_steady (Steady.refl s) h
  | fwRoll classes => exact execFwRoll_steady (Steady.refl s) classes
  | fwCancel => exact execFwCancel_steady (Steady.refl s)
  | fwActivateSummit h => exact execFwActivateSummit_steady (Steady.refl s) h
  | fwSummitCancel h => exact execFwSummitCancel_steady (Steady.refl s) h
  | summitSet => exact execSummitSet_steady (Steady.refl s)
  | summitDrainStart => exact execSummitDrainStart_steady (Steady.refl s)
  | summit => exact execSummit_steady (Steady.refl s)
  | processorReady p => exact execProcessorReady_steady (Steady.refl s) p
  | activationTimeout p => exact execActivationTimeout_steady (Steady.refl s) p
  | processorFault p watchdog => exact execProcessorFault_steady (Steady.refl s) p watchdog
  | barrier => exact execBarrier_steady (Steady.refl s)
  | barrierAck => exact execBarrierAck_steady (Steady.refl s)
  | snapshot h => exact execSnapshot_steady (Steady.refl s) h
  | snapArm => exact execSnapArm_steady (Steady.refl s)
  | snapshotLatch => exact execSnapshotLatch_steady (Steady.refl s)
  | treeResetStation target => exact execTreeResetStation_steady (Steady.refl s) target
  | treeResetDevice target last => exact execTreeResetDevice_steady (Steady.refl s) target last
  | treeResetAck => exact execTreeResetAck_steady (Steady.refl s)
  | identifyController h => exact execIdentifyController_steady (Steady.refl s) h
  | identifyStation h => exact execIdentifyStation_steady (Steady.refl s) h
  | getLog h => exact execGetLog_steady (Steady.refl s) h
  | registerRead who off len id => exact execRegisterRead_steady (Steady.refl s) who off len id
  | registerWrite who off shape values => exact execRegisterWrite_steady (Steady.refl s) who off shape values
  | remoteRead => exact execRemoteRead_steady (Steady.refl s)
  | remoteWrite => exact execRemoteWrite_steady (Steady.refl s)
  | regRead => exact execRegRead_steady (Steady.refl s)
  | regWrite => exact execRegWrite_steady (Steady.refl s)
  | regData => exact execRegData_steady (Steady.refl s)
  | remoteAccessTimeout => exact execRemoteAccessTimeout_steady (Steady.refl s)

/-- The frame of every row of the command table but the full resets, each from its lemma of Laws/. -/
theorem exec_leaves {c : Instr} {s : State} (below : resetsAll c = false) : ∃ t, exec c s = .next t ∧ Leaves (touches c) s t := by
  cases c with
  | powerOn | brownOut _ | crystalLoss | pciePerstAssert | thermalTrip _ | resetPacket => exact Bool.noConfusion below
  | initiateFlr f => exact (execInitiateFlr_frame (Frame.refl _ s) f ⟨by dsimp only [touches]; decide⟩).leaves
  | flrDone f => exact (execFlrDone_frame (Frame.refl _ s) f ⟨by dsimp only [touches]; decide⟩).leaves
  | hotReset => exact (execHotReset_frame (Frame.refl _ s) ⟨by dsimp only [touches]; decide⟩).leaves
  | dlDown => exact (execDlDown_frame (Frame.refl _ s) ⟨by dsimp only [touches]; decide⟩).leaves
  | pcieLinkChange rate width => exact (execPcieLinkChange_frame (Frame.refl _ s) rate width ⟨by dsimp only [touches]; decide⟩).leaves
  | pmD3hotEntry f => exact (execPmD3hotEntry_frame (Frame.refl _ s) f ⟨by dsimp only [touches]; decide⟩).leaves
  | pmD0Return f => exact (execPmD0Return_frame (Frame.refl _ s) f ⟨by dsimp only [touches]; decide⟩).leaves
  | aspmL0sEntry => exact (execAspmL0sEntry_frame (Frame.refl _ s) ⟨by dsimp only [touches]; decide⟩).leaves
  | aspmL1Entry => exact (execAspmL1Entry_frame (Frame.refl _ s) ⟨by dsimp only [touches]; decide⟩).leaves
  | completionTlp f tag status data => exact (execCompletionTlp_frame (Frame.refl _ s) f tag status data ⟨by dsimp only [touches]; decide⟩).leaves
  | cplTimeout f tag => exact (execCplTimeout_frame (Frame.refl _ s) f tag ⟨by dsimp only [touches]; decide⟩).leaves
  | tagQuarantineEnd f tag => exact (execTagQuarantineEnd_frame (Frame.refl _ s) f tag ⟨by dsimp only [touches]; decide⟩).leaves
  | functionWedged f => exact (execFunctionWedged_frame (Frame.refl _ s) f ⟨by dsimp only [touches]; decide⟩).leaves
  | msixUnmask f vector => exact (execMsixUnmask_frame (Frame.refl _ s) f vector ⟨by dsimp only [touches]; decide⟩).leaves
  | vectorModTimeout f vector => exact (execVectorModTimeout_frame (Frame.refl _ s) f vector ⟨by dsimp only [touches]; decide⟩).leaves
  | peerRead f offset len => exact (execPeerRead_frame (Frame.refl _ s) f offset len ⟨by dsimp only [touches]; decide⟩).leaves
  | bar2Write f offset => exact (execBar2Write_frame (Frame.refl _ s) f offset ⟨by dsimp only [touches]; decide⟩).leaves
  | peerReadResume id => exact (execPeerReadResume_frame (Frame.refl _ s) id ⟨by dsimp only [touches]; decide⟩).leaves
  | peerReadTimeout id => exact (execPeerReadTimeout_frame (Frame.refl _ s) id ⟨by dsimp only [touches]; decide⟩).leaves
  | windowCommit f => exact (execWindowCommit_frame (Frame.refl _ s) f ⟨by dsimp only [touches]; decide⟩).leaves
  | windowCommitApply f => exact (execWindowCommitApply_frame (Frame.refl _ s) f ⟨by dsimp only [touches]; decide⟩).leaves
  | configurationRequest f field write => exact (execConfigurationRequest_frame (Frame.refl _ s) f field write ⟨by dsimp only [touches]; decide⟩).leaves
  | badTlpReceived f err => exact (execBadTlpReceived_frame (Frame.refl _ s) f err ⟨by dsimp only [touches]; decide⟩).leaves
  | l1PmSubstateEntry clkreqReleased => exact (execL1PmSubstateEntry_frame (Frame.refl _ s) clkreqReleased ⟨by dsimp only [touches]; decide⟩).leaves
  | pcieLinkUp rate width => exact (execPcieLinkUp_frame (Frame.refl _ s) rate width ⟨by dsimp only [touches]; decide⟩).leaves
  | sqTailDoorbell f ring shape value => exact (execSqTailDoorbell_frame (Frame.refl _ s) f ring shape value ⟨by dsimp only [touches]; decide⟩).leaves
  | cqHeadDoorbell f ring shape value => exact (execCqHeadDoorbell_frame (Frame.refl _ s) f ring shape value ⟨by dsimp only [touches]; decide⟩).leaves
  | evtQHeadDoorbell shape value => exact (execEvtQHeadDoorbell_frame (Frame.refl _ s) shape value ⟨by dsimp only [touches]; decide⟩).leaves
  | sqCfgWrite f ring value => exact (execSqCfgWrite_frame (Frame.refl _ s) f ring value ⟨by dsimp only [touches]; decide⟩).leaves
  | cqCfgWrite f ring value => exact (execCqCfgWrite_frame (Frame.refl _ s) f ring value ⟨by dsimp only [touches]; decide⟩).leaves
  | evtQCfgWrite value => exact (execEvtQCfgWrite_frame (Frame.refl _ s) value ⟨by dsimp only [touches]; decide⟩).leaves
  | descriptorFetch f ring => exact (execDescriptorFetch_frame (Frame.refl _ s) f ring ⟨by dsimp only [touches]; decide⟩).leaves
  | acceptance h => exact (execAcceptance_frame (Frame.refl _ s) h ⟨by dsimp only [touches]; decide⟩).leaves
  | listReadDone h => exact (execListReadDone_frame (Frame.refl _ s) h ⟨by dsimp only [touches]; decide⟩).leaves
  | dispatch h => exact (execDispatch_frame (Frame.refl _ s) h ⟨by dsimp only [touches]; decide⟩).leaves
  | admission q => exact (execAdmission_frame (Frame.refl _ s) q ⟨by dsimp only [touches]; decide⟩).leaves
  | completionRecord f ring => exact (execCompletionRecord_frame (Frame.refl _ s) f ring ⟨by dsimp only [touches]; decide⟩).leaves
  | eventRecord => exact (execEventRecord_frame (Frame.refl _ s) ⟨by dsimp only [touches]; decide⟩).leaves
  | eventsLost => exact (execEventsLost_frame (Frame.refl _ s) ⟨by dsimp only [touches]; decide⟩).leaves
  | clearAll => exact (execClearAll_frame (Frame.refl _ s) ⟨by dsimp only [touches]; decide⟩).leaves
  | read h => exact (execRead_frame (Frame.refl _ s) h ⟨by dsimp only [touches]; decide⟩).leaves
  | write h => exact (execWrite_frame (Frame.refl _ s) h ⟨by dsimp only [touches]; decide⟩).leaves
  | verify h => exact (execVerify_frame (Frame.refl _ s) h ⟨by dsimp only [touches]; decide⟩).leaves
  | flush h => exact (execFlush_frame (Frame.refl _ s) h ⟨by dsimp only [touches]; decide⟩).leaves
  | preload h => exact (execPreload_frame (Frame.refl _ s) h ⟨by dsimp only [touches]; decide⟩).leaves
  | abort h => exact (execAbort_frame (Frame.refl _ s) h ⟨by dsimp only [touches]; decide⟩).leaves
  | cipherJob h => exact (execCipherJob_frame (Frame.refl _ s) h ⟨by dsimp only [touches]; decide⟩).leaves
  | entryAllocate h block => exact (execEntryAllocate_frame (Frame.refl _ s) h block ⟨by dsimp only [touches]; decide⟩).leaves
  | readAhead st => exact (execReadAhead_frame (Frame.refl _ s) st ⟨by dsimp only [touches]; decide⟩).leaves
  | cacheDisable => exact (execCacheDisable_frame (Frame.refl _ s) ⟨by dsimp only [touches]; decide⟩).leaves
  | cacheEnable => exact (execCacheEnable_frame (Frame.refl _ s) ⟨by dsimp only [touches]; decide⟩).leaves
  | cacheDrainDone => exact (execCacheDrainDone_frame (Frame.refl _ s) ⟨by dsimp only [touches]; decide⟩).leaves
  | dmaWriteIssued h unit => exact (execDmaWriteIssued_frame (Frame.refl _ s) h unit ⟨by dsimp only [touches]; decide⟩).leaves
  | keyLoad slot => exact (execKeyLoad_frame (Frame.refl _ s) slot ⟨by dsimp only [touches]; decide⟩).leaves
  | keyErase slot => exact (execKeyErase_frame (Frame.refl _ s) slot ⟨by dsimp only [touches]; decide⟩).leaves
  | keyLoadDone => exact (execKeyLoadDone_frame (Frame.refl _ s) ⟨by dsimp only [touches]; decide⟩).leaves
  | keyZeroizeDone slot => exact (execKeyZeroizeDone_frame (Frame.refl _ s) slot ⟨by dsimp only [touches]; decide⟩).leaves
  | engineBlockDone e => exact (execEngineBlockDone_frame (Frame.refl _ s) e ⟨by dsimp only [touches]; decide⟩).leaves
  | jtagStateChange enabled record => exact (execJtagStateChange_frame (Frame.refl _ s) enabled record ⟨by dsimp only [touches]; decide⟩).leaves
  | attest h => exact (execAttest_frame (Frame.refl _ s) h ⟨by dsimp only [touches]; decide⟩).leaves
  | lRead h => exact (execLRead_frame (Frame.refl _ s) h ⟨by dsimp only [touches]; decide⟩).leaves
  | lWrite h => exact (execLWrite_frame (Frame.refl _ s) h ⟨by dsimp only [touches]; decide⟩).leaves
  | lFlush h => exact (execLFlush_frame (Frame.refl _ s) h ⟨by dsimp only [touches]; decide⟩).leaves
  | fwDownload h => exact (execFwDownload_frame (Frame.refl _ s) h ⟨by dsimp only [touches]; decide⟩).leaves
  | flashProgramDone ok => exact (execFlashProgramDone_frame (Frame.refl _ s) ok ⟨by dsimp only [touches]; decide⟩).leaves
  | rchStagedWrite bc reg value => exact (execRchStagedWrite_frame (Frame.refl _ s) bc reg value ⟨by dsimp only [touches]; decide⟩).leaves
  | frameStart bc target zone tone rate => exact (execFrameStart_frame (Frame.refl _ s) bc target zone tone rate ⟨by dsimp only [touches]; decide⟩).leaves
  | frameEnd bc first bits clips => exact (execFrameEnd_frame (Frame.refl _ s) bc first bits clips ⟨by dsimp only [touches]; decide⟩).leaves
  | timingLost bc bit mean => exact (execTimingLost_frame (Frame.refl _ s) bc bit mean ⟨by dsimp only [touches]; decide⟩).leaves
  | defectActive bc e1 e2 r => exact (execDefectActive_frame (Frame.refl _ s) bc e1 e2 r ⟨by dsimp only [touches]; decide⟩).leaves
  | defectInactive bc windows r => exact (execDefectInactive_frame (Frame.refl _ s) bc windows r ⟨by dsimp only [touches]; decide⟩).leaves
  | captureAgeTrigger bc meanErr => exact (execCaptureAgeTrigger_frame (Frame.refl _ s) bc meanErr ⟨by dsimp only [touches]; decide⟩).leaves
  | frameImageDone e j rows => exact (execFrameImageDone_frame (Frame.refl _ s) e j rows ⟨by dsimp only [touches]; decide⟩).leaves
  | laneQualityLow bc => exact (execLaneQualityLow_frame (Frame.refl _ s) bc ⟨by dsimp only [touches]; decide⟩).leaves
  | syncSearch bc p q => exact (execSyncSearch_frame (Frame.refl _ s) bc p q ⟨by dsimp only [touches]; decide⟩).leaves
  | decodeConverged e j idx codeword inTime => exact (execDecodeConverged_frame (Frame.refl _ s) e j idx codeword inTime ⟨by dsimp only [touches]; decide⟩).leaves
  | decodeMaxIter e j idx inTime => exact (execDecodeMaxIter_frame (Frame.refl _ s) e j idx inTime ⟨by dsimp only [touches]; decide⟩).leaves
  | redecodeRoundStart => exact (execRedecodeRoundStart_frame (Frame.refl _ s) ⟨by dsimp only [touches]; decide⟩).leaves
  | reequalizerPassDone e j => exact (execReequalizerPassDone_frame (Frame.refl _ s) e j ⟨by dsimp only [touches]; decide⟩).leaves
  | outerDecode e => exact (execOuterDecode_frame (Frame.refl _ s) e ⟨by dsimp only [touches]; decide⟩).leaves
  | outerDecodeDone e => exact (execOuterDecodeDone_frame (Frame.refl _ s) e ⟨by dsimp only [touches]; decide⟩).leaves
  | blockBlank e => exact (execBlockBlank_frame (Frame.refl _ s) e ⟨by dsimp only [touches]; decide⟩).leaves
  | reread e => exact (execReread_frame (Frame.refl _ s) e ⟨by dsimp only [touches]; decide⟩).leaves
  | srvPeriodWrite value => exact (execSrvPeriodWrite_frame (Frame.refl _ s) value ⟨by dsimp only [touches]; decide⟩).leaves
  | sectEnWrite n l value => exact (execSectEnWrite_frame (Frame.refl _ s) n l value ⟨by dsimp only [touches]; decide⟩).leaves
  | injEnable n amp => exact (execInjEnable_frame (Frame.refl _ s) n amp ⟨by dsimp only [touches]; decide⟩).leaves
  | holdExtendEnd n l => exact (execHoldExtendEnd_frame (Frame.refl _ s) n l ⟨by dsimp only [touches]; decide⟩).leaves
  | profileTick => exact (execProfileTick_frame (Frame.refl _ s) ⟨by dsimp only [touches]; decide⟩).leaves
  | motorStart x => exact (execMotorStart_frame (Frame.refl _ s) x ⟨by dsimp only [touches]; decide⟩).leaves
  | motorRappel x => exact (execMotorRappel_frame (Frame.refl _ s) x ⟨by dsimp only [touches]; decide⟩).leaves
  | motorEmergency x => exact (execMotorEmergency_frame (Frame.refl _ s) x ⟨by dsimp only [touches]; decide⟩).leaves
  | motorHome m => exact (execMotorHome_frame (Frame.refl _ s) m ⟨by dsimp only [touches]; decide⟩).leaves
  | motorTargetWrite x value => exact (execMotorTargetWrite_frame (Frame.refl _ s) x value ⟨by dsimp only [touches]; decide⟩).leaves
  | motorSpeedWrite x acc value => exact (execMotorSpeedWrite_frame (Frame.refl _ s) x acc value ⟨by dsimp only [touches]; decide⟩).leaves
  | motorDecWrite x value => exact (execMotorDecWrite_frame (Frame.refl _ s) x value ⟨by dsimp only [touches]; decide⟩).leaves
  | motorPosSet x value => exact (execMotorPosSet_frame (Frame.refl _ s) x value ⟨by dsimp only [touches]; decide⟩).leaves
  | gearEngage x on => exact (execGearEngage_frame (Frame.refl _ s) x on ⟨by dsimp only [touches]; decide⟩).leaves
  | gearArm x => exact (execGearArm_frame (Frame.refl _ s) x ⟨by dsimp only [touches]; decide⟩).leaves
  | gearChange x => exact (execGearChange_frame (Frame.refl _ s) x ⟨by dsimp only [touches]; decide⟩).leaves
  | groupMembersWrite g members => exact (execGroupMembersWrite_frame (Frame.refl _ s) g members ⟨by dsimp only [touches]; decide⟩).leaves
  | groupStart g => exact (execGroupStart_frame (Frame.refl _ s) g ⟨by dsimp only [touches]; decide⟩).leaves
  | groupRappel g => exact (execGroupRappel_frame (Frame.refl _ s) g ⟨by dsimp only [touches]; decide⟩).leaves
  | estopAll => exact (execEstopAll_frame (Frame.refl _ s) ⟨by dsimp only [touches]; decide⟩).leaves
  | estopClear => exact (execEstopClear_frame (Frame.refl _ s) ⟨by dsimp only [touches]; decide⟩).leaves
  | homeFaultClear m => exact (execHomeFaultClear_frame (Frame.refl _ s) m ⟨by dsimp only [touches]; decide⟩).leaves
  | limitQualified m positive active edge => exact (execLimitQualified_frame (Frame.refl _ s) m positive active edge ⟨by dsimp only [touches]; decide⟩).leaves
  | homeQualified m active edge => exact (execHomeQualified_frame (Frame.refl _ s) m active edge ⟨by dsimp only [touches]; decide⟩).leaves
  | encoderEdge m edge => exact (execEncoderEdge_frame (Frame.refl _ s) m edge ⟨by dsimp only [touches]; decide⟩).leaves
  | sledStandstill x => exact (execSledStandstill_frame (Frame.refl _ s) x ⟨by dsimp only [touches]; decide⟩).leaves
  | axisHoldReduce m => exact (execAxisHoldReduce_frame (Frame.refl _ s) m ⟨by dsimp only [touches]; decide⟩).leaves
  | moveAxis h => exact (execMoveAxis_frame (Frame.refl _ s) h ⟨by dsimp only [touches]; decide⟩).leaves
  | moveGroup h => exact (execMoveGroup_frame (Frame.refl _ s) h ⟨by dsimp only [touches]; decide⟩).leaves
  | moveHoming h => exact (execMoveHoming_frame (Frame.refl _ s) h ⟨by dsimp only [touches]; decide⟩).leaves
  | moveRappel h => exact (execMoveRappel_frame (Frame.refl _ s) h ⟨by dsimp only [touches]; decide⟩).leaves
  | lSegment h => exact (execLSegment_frame (Frame.refl _ s) h ⟨by dsimp only [touches]; decide⟩).leaves
  | addressDecoded n address passed => exact (execAddressDecoded_frame (Frame.refl _ s) n address passed ⟨by dsimp only [touches]; decide⟩).leaves
  | focusSweepEnd n => exact (execFocusSweepEnd_frame (Frame.refl _ s) n ⟨by dsimp only [touches]; decide⟩).leaves
  | focusLock n => exact (execFocusLock_frame (Frame.refl _ s) n ⟨by dsimp only [touches]; decide⟩).leaves
  | focusedTimeout n => exact (execFocusedTimeout_frame (Frame.refl _ s) n ⟨by dsimp only [touches]; decide⟩).leaves
  | trackLock n => exact (execTrackLock_frame (Frame.refl _ s) n ⟨by dsimp only [touches]; decide⟩).leaves
  | pullinTimeout n => exact (execPullinTimeout_frame (Frame.refl _ s) n ⟨by dsimp only [touches]; decide⟩).leaves
  | alignAddressTimeout n => exact (execAlignAddressTimeout_frame (Frame.refl _ s) n ⟨by dsimp only [touches]; decide⟩).leaves
  | trackJumpDone n => exact (execTrackJumpDone_frame (Frame.refl _ s) n ⟨by dsimp only [touches]; decide⟩).leaves
  | trackJumpTimeout n => exact (execTrackJumpTimeout_frame (Frame.refl _ s) n ⟨by dsimp only [touches]; decide⟩).leaves
  | layerJumpTimeout n => exact (execLayerJumpTimeout_frame (Frame.refl _ s) n ⟨by dsimp only [touches]; decide⟩).leaves
  | coarseSettleEnd n => exact (execCoarseSettleEnd_frame (Frame.refl _ s) n ⟨by dsimp only [touches]; decide⟩).leaves
  | focusLost n => exact (execFocusLost_frame (Frame.refl _ s) n ⟨by dsimp only [touches]; decide⟩).leaves
  | trackLost n => exact (execTrackLost_frame (Frame.refl _ s) n ⟨by dsimp only [touches]; decide⟩).leaves
  | parkRampEnd n => exact (execParkRampEnd_frame (Frame.refl _ s) n ⟨by dsimp only [touches]; decide⟩).leaves
  | recoverCountClear n => exact (execRecoverCountClear_frame (Frame.refl _ s) n ⟨by dsimp only [touches]; decide⟩).leaves
  | defectLong n => exact (execDefectLong_frame (Frame.refl _ s) n ⟨by dsimp only [touches]; decide⟩).leaves
  | defectTriggersRestore n => exact (execDefectTriggersRestore_frame (Frame.refl _ s) n ⟨by dsimp only [touches]; decide⟩).leaves
  | revolutionReference n => exact (execRevolutionReference_frame (Frame.refl _ s) n ⟨by dsimp only [touches]; decide⟩).leaves
  | baeGatesReopen n => exact (execBaeGatesReopen_frame (Frame.refl _ s) n ⟨by dsimp only [touches]; decide⟩).leaves
  | belayReqSet n => exact (execBelayReqSet_frame (Frame.refl _ s) n ⟨by dsimp only [touches]; decide⟩).leaves
  | belayReqClear n => exact (execBelayReqClear_frame (Frame.refl _ s) n ⟨by dsimp only [touches]; decide⟩).leaves
  | sampleInstant inputs => exact (execSampleInstant_frame (Frame.refl _ s) inputs ⟨by dsimp only [touches]; decide⟩).leaves
  | outputInstant n ready => exact (execOutputInstant_frame (Frame.refl _ s) n ready ⟨by dsimp only [touches]; decide⟩).leaves
  | loopComputationEnd n => exact (execLoopComputationEnd_frame (Frame.refl _ s) n ⟨by dsimp only [touches]; decide⟩).leaves
  | loopBelayLate n => exact (execLoopBelayLate_frame (Frame.refl _ s) n ⟨by dsimp only [touches]; decide⟩).leaves
  | loopOnTime n => exact (execLoopOnTime_frame (Frame.refl _ s) n ⟨by dsimp only [touches]; decide⟩).leaves
  | traceArm n => exact (execTraceArm_frame (Frame.refl _ s) n ⟨by dsimp only [touches]; decide⟩).leaves
  | traceStop n => exact (execTraceStop_frame (Frame.refl _ s) n ⟨by dsimp only [touches]; decide⟩).leaves
  | traceFire n => exact (execTraceFire_frame (Frame.refl _ s) n ⟨by dsimp only [touches]; decide⟩).leaves
  | traceDone n => exact (execTraceDone_frame (Frame.refl _ s) n ⟨by dsimp only [touches]; decide⟩).leaves
  | trcArm mask => exact (execTrcArm_frame (Frame.refl _ s) mask ⟨by dsimp only [touches]; decide⟩).leaves
  | trcFire mask => exact (execTrcFire_frame (Frame.refl _ s) mask ⟨by dsimp only [touches]; decide⟩).leaves
  | laserOverpower n => exact (execLaserOverpower_frame (Frame.refl _ s) n ⟨by dsimp only [touches]; decide⟩).leaves
  | lddLinkEnable n => exact (execLddLinkEnable_frame (Frame.refl _ s) n ⟨by dsimp only [touches]; decide⟩).leaves
  | lddStatusFrame n frame => exact (execLddStatusFrame_frame (Frame.refl _ s) n frame ⟨by dsimp only [touches]; decide⟩).leaves
  | lddLinkUp n => exact (execLddLinkUp_frame (Frame.refl _ s) n ⟨by dsimp only [touches]; decide⟩).leaves
  | lddBadFrames n => exact (execLddBadFrames_frame (Frame.refl _ s) n ⟨by dsimp only [touches]; decide⟩).leaves
  | lddStatusTimeout n => exact (execLddStatusTimeout_frame (Frame.refl _ s) n ⟨by dsimp only [touches]; decide⟩).leaves
  | lddTableLoad n layer crc1 crc2 => exact (execLddTableLoad_frame (Frame.refl _ s) n layer crc1 crc2 ⟨by dsimp only [touches]; decide⟩).leaves
  | spindleRunSet st => exact (execSpindleRunSet_frame (Frame.refl _ s) st ⟨by dsimp only [touches]; decide⟩).leaves
  | spindleRunClear st => exact (execSpindleRunClear_frame (Frame.refl _ s) st ⟨by dsimp only [touches]; decide⟩).leaves
  | spindleTargetWrite st value => exact (execSpindleTargetWrite_frame (Frame.refl _ s) st value ⟨by dsimp only [touches]; decide⟩).leaves
  | chopFaultClear st => exact (execChopFaultClear_frame (Frame.refl _ s) st ⟨by dsimp only [touches]; decide⟩).leaves
  | spindleZeroCrossing st interval after emf => exact (execSpindleZeroCrossing_frame (Frame.refl _ s) st interval after emf ⟨by dsimp only [touches]; decide⟩).leaves
  | spindleCommutation st elapsed duty => exact (execSpindleCommutation_frame (Frame.refl _ s) st elapsed duty ⟨by dsimp only [touches]; decide⟩).leaves
  | zeroCrossingMissed st => exact (execZeroCrossingMissed_frame (Frame.refl _ s) st ⟨by dsimp only [touches]; decide⟩).leaves
  | speedLoopInstant st => exact (execSpeedLoopInstant_frame (Frame.refl _ s) st ⟨by dsimp only [touches]; decide⟩).leaves
  | atSpeed st => exact (execAtSpeed_frame (Frame.refl _ s) st ⟨by dsimp only [touches]; decide⟩).leaves
  | busConversion st code => exact (execBusConversion_frame (Frame.refl _ s) st code ⟨by dsimp only [touches]; decide⟩).leaves
  | chopperNoCurrent st => exact (execChopperNoCurrent_frame (Frame.refl _ s) st ⟨by dsimp only [touches]; decide⟩).leaves
  | busOvRelease => exact (execBusOvRelease_frame (Frame.refl _ s) ⟨by dsimp only [touches]; decide⟩).leaves
  | probeTimeout st => exact (execProbeTimeout_frame (Frame.refl _ s) st ⟨by dsimp only [touches]; decide⟩).leaves
  | hfiDone st q step => exact (execHfiDone_frame (Frame.refl _ s) st q step ⟨by dsimp only [touches]; decide⟩).leaves
  | alignElapsed st => exact (execAlignElapsed_frame (Frame.refl _ s) st ⟨by dsimp only [touches]; decide⟩).leaves
  | catchTimeout st => exact (execCatchTimeout_frame (Frame.refl _ s) st ⟨by dsimp only [touches]; decide⟩).leaves
  | frontierSearch n layer begun => exact (execFrontierSearch_frame (Frame.refl _ s) n layer begun ⟨by dsimp only [touches]; decide⟩).leaves
  | prePass n conflict => exact (execPrePass_frame (Frame.refl _ s) n conflict ⟨by dsimp only [touches]; decide⟩).leaves
  | runStart n => exact (execRunStart_frame (Frame.refl _ s) n ⟨by dsimp only [touches]; decide⟩).leaves
  | wobblePeriod n err freq => exact (execWobblePeriod_frame (Frame.refl _ s) n err freq ⟨by dsimp only [touches]; decide⟩).leaves
  | wclkLocked n => exact (execWclkLocked_frame (Frame.refl _ s) n ⟨by dsimp only [touches]; decide⟩).leaves
  | recordingResume n => exact (execRecordingResume_frame (Frame.refl _ s) n ⟨by dsimp only [touches]; decide⟩).leaves
  | blockRecorded n => exact (execBlockRecorded_frame (Frame.refl _ s) n ⟨by dsimp only [touches]; decide⟩).leaves
  | runEnd n => exact (execRunEnd_frame (Frame.refl _ s) n ⟨by dsimp only [touches]; decide⟩).leaves
  | verifyPass n => exact (execVerifyPass_frame (Frame.refl _ s) n ⟨by dsimp only [touches]; decide⟩).leaves
  | powerCalibration n layer run => exact (execPowerCalibration_frame (Frame.refl _ s) n layer run ⟨by dsimp only [touches]; decide⟩).leaves
  | calibrateAdcTrim h trims => exact (execCalibrateAdcTrim_frame (Frame.refl _ s) h trims ⟨by dsimp only [touches]; decide⟩).leaves
  | calibrateEspresso h runs => exact (execCalibrateEspresso_frame (Frame.refl _ s) h runs ⟨by dsimp only [touches]; decide⟩).leaves
  | calibratePower h runs => exact (execCalibratePower_frame (Frame.refl _ s) h runs ⟨by dsimp only [touches]; decide⟩).leaves
  | calibrateFull h runs => exact (execCalibrateFull_frame (Frame.refl _ s) h runs ⟨by dsimp only [touches]; decide⟩).leaves
  | espressoAuto n run => exact (execEspressoAuto_frame (Frame.refl _ s) n run ⟨by dsimp only [touches]; decide⟩).leaves
  | load h copy runs => exact (execLoad_frame (Frame.refl _ s) h copy runs ⟨by dsimp only [touches]; decide⟩).leaves
  | lLoad h copy runs => exact (execLLoad_frame (Frame.refl _ s) h copy runs ⟨by dsimp only [touches]; decide⟩).leaves
  | infoZoneSearchTimeout st side => exact (execInfoZoneSearchTimeout_frame (Frame.refl _ s) st side ⟨by dsimp only [touches]; decide⟩).leaves
  | unload h => exact (execUnload_frame (Frame.refl _ s) h ⟨by dsimp only [touches]; decide⟩).leaves
  | lUnload h => exact (execLUnload_frame (Frame.refl _ s) h ⟨by dsimp only [touches]; decide⟩).leaves
  | scrubVisit bank upset => exact (execScrubVisit_frame (Frame.refl _ s) bank upset ⟨by dsimp only [touches]; decide⟩).leaves
  | scrubLapSlow => exact (execScrubLapSlow_frame (Frame.refl _ s) ⟨by dsimp only [touches]; decide⟩).leaves
  | memCntClr => exact (execMemCntClr_frame (Frame.refl _ s) ⟨by dsimp only [touches]; decide⟩).leaves
  | memInjectArm value => exact (execMemInjectArm_frame (Frame.refl _ s) value ⟨by dsimp only [touches]; decide⟩).leaves
  | portTrainingStart q => exact (execPortTrainingStart_frame (Frame.refl _ s) q ⟨by dsimp only [touches]; decide⟩).leaves
  | portUp q gen width partner4080 level clash => exact (execPortUp_frame (Frame.refl _ s) q gen width partner4080 level clash ⟨by dsimp only [touches]; decide⟩).leaves
  | linkFrame q ev => exact (execLinkFrame_frame (Frame.refl _ s) q ev ⟨by dsimp only [touches]; decide⟩).leaves
  | linkReplayTimeout q => exact (execLinkReplayTimeout_frame (Frame.refl _ s) q ⟨by dsimp only [touches]; decide⟩).leaves
  | portDown q => exact (execPortDown_frame (Frame.refl _ s) q ⟨by dsimp only [touches]; decide⟩).leaves
  | heartbeatLoss q => exact (execHeartbeatLoss_frame (Frame.refl _ s) q ⟨by dsimp only [touches]; decide⟩).leaves
  | orphanTimeout => exact (execOrphanTimeout_frame (Frame.refl _ s) ⟨by dsimp only [touches]; decide⟩).leaves
  | cmdPacket => exact (execCmdPacket_frame (Frame.refl _ s) ⟨by dsimp only [touches]; decide⟩).leaves
  | xferRdyPacket => exact (execXferRdyPacket_frame (Frame.refl _ s) ⟨by dsimp only [touches]; decide⟩).leaves
  | dataPacket => exact (execDataPacket_frame (Frame.refl _ s) ⟨by dsimp only [touches]; decide⟩).leaves
  | rspPacket => exact (execRspPacket_frame (Frame.refl _ s) ⟨by dsimp only [touches]; decide⟩).leaves
  | evtPacket => exact (execEvtPacket_frame (Frame.refl _ s) ⟨by dsimp only [touches]; decide⟩).leaves
  | timeExchange q => exact (execTimeExchange_frame (Frame.refl _ s) q ⟨by dsimp only [touches]; decide⟩).leaves
  | timePacket => exact (execTimePacket_frame (Frame.refl _ s) ⟨by dsimp only [touches]; decide⟩).leaves
  | mblCtLocked => exact (execMblCtLocked_frame (Frame.refl _ s) ⟨by dsimp only [touches]; decide⟩).leaves
  | enumeration port n => exact (execEnumeration_frame (Frame.refl _ s) port n ⟨by dsimp only [touches]; decide⟩).leaves
  | enumAssign => exact (execEnumAssign_frame (Frame.refl _ s) ⟨by dsimp only [touches]; decide⟩).leaves
  | enumReport => exact (execEnumReport_frame (Frame.refl _ s) ⟨by dsimp only [touches]; decide⟩).leaves
  | heartbeatSend => exact (execHeartbeatSend_frame (Frame.refl _ s) ⟨by dsimp only [touches]; decide⟩).leaves
  | heartbeat => exact (execHeartbeat_frame (Frame.refl _ s) ⟨by dsimp only [touches]; decide⟩).leaves
  | discard => exact (execDiscard_frame (Frame.refl _ s) ⟨by dsimp only [touches]; decide⟩).leaves
  | grantHold => exact (execGrantHold_frame (Frame.refl _ s) ⟨by dsimp only [touches]; decide⟩).leaves
  | grantHoldTimer tag => exact (execGrantHoldTimer_frame (Frame.refl _ s) tag ⟨by dsimp only [touches]; decide⟩).leaves
  | xferWindowExpiry tag => exact (execXferWindowExpiry_frame (Frame.refl _ s) tag ⟨by dsimp only [touches]; decide⟩).leaves
  | ctLoad value => exact (execCtLoad_frame (Frame.refl _ s) value ⟨by dsimp only [touches]; decide⟩).leaves
  | portRetrain q => exact (execPortRetrain_frame (Frame.refl _ s) q ⟨by dsimp only [touches]; decide⟩).leaves
  | fenceClr q => exact (execFenceClr_frame (Frame.refl _ s) q ⟨by dsimp only [touches]; decide⟩).leaves
  | stationReset st => exact (execStationReset_frame (Frame.refl _ s) st ⟨by dsimp only [touches]; decide⟩).leaves
  | resetDone st => exact (execResetDone_frame (Frame.refl _ s) st ⟨by dsimp only [touches]; decide⟩).leaves
  | slotInsertion k => exact (execSlotInsertion_frame (Frame.refl _ s) k ⟨by dsimp only [touches]; decide⟩).leaves
  | slotRemoval k => exact (execSlotRemoval_frame (Frame.refl _ s) k ⟨by dsimp only [touches]; decide⟩).leaves
  | slotButton k => exact (execSlotButton_frame (Frame.refl _ s) k ⟨by dsimp only [touches]; decide⟩).leaves
  | slotPowerFault k => exact (execSlotPowerFault_frame (Frame.refl _ s) k ⟨by dsimp only [touches]; decide⟩).leaves
  | slotBlinkExpiry k => exact (execSlotBlinkExpiry_frame (Frame.refl _ s) k ⟨by dsimp only [touches]; decide⟩).leaves
  | slotSettled k => exact (execSlotSettled_frame (Frame.refl _ s) k ⟨by dsimp only [touches]; decide⟩).leaves
  | slotBringupDone k => exact (execSlotBringupDone_frame (Frame.refl _ s) k ⟨by dsimp only [touches]; decide⟩).leaves
  | slotBringupTimeout k => exact (execSlotBringupTimeout_frame (Frame.refl _ s) k ⟨by dsimp only [touches]; decide⟩).leaves
  | slotDrainDone k => exact (execSlotDrainDone_frame (Frame.refl _ s) k ⟨by dsimp only [touches]; decide⟩).leaves
  | slotDrainTimeout k => exact (execSlotDrainTimeout_frame (Frame.refl _ s) k ⟨by dsimp only [touches]; decide⟩).leaves
  | pwrReqSet k => exact (execPwrReqSet_frame (Frame.refl _ s) k ⟨by dsimp only [touches]; decide⟩).leaves
  | pwrReqClear k => exact (execPwrReqClear_frame (Frame.refl _ s) k ⟨by dsimp only [touches]; decide⟩).leaves
  | slotAbortReq k => exact (execSlotAbortReq_frame (Frame.refl _ s) k ⟨by dsimp only [touches]; decide⟩).leaves
  | slotFaultClear k => exact (execSlotFaultClear_frame (Frame.refl _ s) k ⟨by dsimp only [touches]; decide⟩).leaves
  | thermalWarn tj => exact (execThermalWarn_frame (Frame.refl _ s) tj ⟨by dsimp only [touches]; decide⟩).leaves
  | resetRelease => exact (execResetRelease_frame (Frame.refl _ s) ⟨by dsimp only [touches]; decide⟩).leaves
  | paceWindowEnd measured => exact (execPaceWindowEnd_frame (Frame.refl _ s) measured ⟨by dsimp only [touches]; decide⟩).leaves
  | paceLow => exact (execPaceLow_frame (Frame.refl _ s) ⟨by dsimp only [touches]; decide⟩).leaves
  | boostEnd => exact (execBoostEnd_frame (Frame.refl _ s) ⟨by dsimp only [touches]; decide⟩).leaves
  | pmbusTransactionDone code ok data => exact (execPmbusTransactionDone_frame (Frame.refl _ s) code ok data ⟨by dsimp only [touches]; decide⟩).leaves
  | pmbusAlert status => exact (execPmbusAlert_frame (Frame.refl _ s) status ⟨by dsimp only [touches]; decide⟩).leaves
  | readVoutPoll code => exact (execReadVoutPoll_frame (Frame.refl _ s) code ⟨by dsimp only [touches]; decide⟩).leaves
  | ageRecord v => exact (execAgeRecord_frame (Frame.refl _ s) v ⟨by dsimp only [touches]; decide⟩).leaves
  | fwVerify slot => exact (execFwVerify_frame (Frame.refl _ s) slot ⟨by dsimp only [touches]; decide⟩).leaves
  | fwVerifyDone => exact (execFwVerifyDone_frame (Frame.refl _ s) ⟨by dsimp only [touches]; decide⟩).leaves
  | fwBootSlotWrite slot => exact (execFwBootSlotWrite_frame (Frame.refl _ s) slot ⟨by dsimp only [touches]; decide⟩).leaves
  | fwActivateRolling h => exact (execFwActivateRolling_frame (Frame.refl _ s) h ⟨by dsimp only [touches]; decide⟩).leaves
  | fwRoll classes => exact (execFwRoll_frame (Frame.refl _ s) classes ⟨by dsimp only [touches]; decide⟩).leaves
  | fwCancel => exact (execFwCancel_frame (Frame.refl _ s) ⟨by dsimp only [touches]; decide⟩).leaves
  | fwActivateSummit h => exact (execFwActivateSummit_frame (Frame.refl _ s) h ⟨by dsimp only [touches]; decide⟩).leaves
  | fwSummitCancel h => exact (execFwSummitCancel_frame (Frame.refl _ s) h ⟨by dsimp only [touches]; decide⟩).leaves
  | summitSet => exact (execSummitSet_frame (Frame.refl _ s) ⟨by dsimp only [touches]; decide⟩).leaves
  | summitDrainStart => exact (execSummitDrainStart_frame (Frame.refl _ s) ⟨by dsimp only [touches]; decide⟩).leaves
  | summit => exact (execSummit_frame (Frame.refl _ s) ⟨by dsimp only [touches]; decide⟩).leaves
  | processorReady p => exact (execProcessorReady_frame (Frame.refl _ s) p ⟨by dsimp only [touches]; decide⟩).leaves
  | activationTimeout p => exact (execActivationTimeout_frame (Frame.refl _ s) p ⟨by dsimp only [touches]; decide⟩).leaves
  | processorFault p watchdog => exact (execProcessorFault_frame (Frame.refl _ s) p watchdog ⟨by dsimp only [touches]; decide⟩).leaves
  | barrier => exact (execBarrier_frame (Frame.refl _ s) ⟨by dsimp only [touches]; decide⟩).leaves
  | barrierAck => exact (execBarrierAck_frame (Frame.refl _ s) ⟨by dsimp only [touches]; decide⟩).leaves
  | snapshot h => exact (execSnapshot_frame (Frame.refl _ s) h ⟨by dsimp only [touches]; decide⟩).leaves
  | snapArm => exact (execSnapArm_frame (Frame.refl _ s) ⟨by dsimp only [touches]; decide⟩).leaves
  | snapshotLatch => exact (execSnapshotLatch_frame (Frame.refl _ s) ⟨by dsimp only [touches]; decide⟩).leaves
  | treeResetStation target => exact (execTreeResetStation_frame (Frame.refl _ s) target ⟨by dsimp only [touches]; decide⟩).leaves
  | treeResetDevice target last => exact (execTreeResetDevice_frame (Frame.refl _ s) target last ⟨by dsimp only [touches]; decide⟩).leaves
  | treeResetAck => exact (execTreeResetAck_frame (Frame.refl _ s) ⟨by dsimp only [touches]; decide⟩).leaves
  | identifyController h => exact (execIdentifyController_frame (Frame.refl _ s) h ⟨by dsimp only [touches]; decide⟩).leaves
  | identifyStation h => exact (execIdentifyStation_frame (Frame.refl _ s) h ⟨by dsimp only [touches]; decide⟩).leaves
  | getLog h => exact (execGetLog_frame (Frame.refl _ s) h ⟨by dsimp only [touches]; decide⟩).leaves
  | registerRead who off len id => exact (execRegisterRead_frame (Frame.refl _ s) who off len id ⟨by dsimp only [touches]; decide⟩).leaves
  | registerWrite who off shape values => exact (execRegisterWrite_frame (Frame.refl _ s) who off shape values ⟨by dsimp only [touches]; decide⟩).leaves
  | remoteRead => exact (execRemoteRead_frame (Frame.refl _ s) ⟨by dsimp only [touches]; decide⟩).leaves
  | remoteWrite => exact (execRemoteWrite_frame (Frame.refl _ s) ⟨by dsimp only [touches]; decide⟩).leaves
  | regRead => exact (execRegRead_frame (Frame.refl _ s) ⟨by dsimp only [touches]; decide⟩).leaves
  | regWrite => exact (execRegWrite_frame (Frame.refl _ s) ⟨by dsimp only [touches]; decide⟩).leaves
  | regData => exact (execRegData_frame (Frame.refl _ s) ⟨by dsimp only [touches]; decide⟩).leaves
  | remoteAccessTimeout => exact (execRemoteAccessTimeout_frame (Frame.refl _ s) ⟨by dsimp only [touches]; decide⟩).leaves

/-- The commands that reset the whole device keep the queue, the role, what has been sent and the order of the free values. -/
theorem exec_keeps (c : Instr) (s : State) : KeepsRes s (exec c s) := by
  cases below : resetsAll c with
  | false => exact (exec_steady below).keeps
  | true =>
    cases c with
    | powerOn => exact execPowerOn_keeps s
    | brownOut rail => exact execBrownOut_keeps rail s
    | crystalLoss => exact execCrystalLoss_keeps s
    | pciePerstAssert => exact execPciePerstAssert_keeps s
    | thermalTrip tj => exact execThermalTrip_keeps tj s
    | resetPacket => exact execResetPacket_keeps s
    | _ => exact Bool.noConfusion below

theorem touches_resetsAll {c : Instr} (whole : resetsAll c = true) : touches c = Part.whole := by
  cases c with
  | powerOn | brownOut _ | crystalLoss | pciePerstAssert | thermalTrip _ | resetPacket => rfl
  | _ => exact Bool.noConfusion whole

/-- Settles O7: every row is steady, or keeps what a full device reset keeps. -/
theorem everyCommandIsAnswered : Obligations.EveryCommandIsAnswered := exec_keeps

/-- Settles O8: each row's frame; a full device reset may touch everything but the role and the queue. -/
theorem everyCommandTouchesOnlyItsParts : Obligations.EveryCommandTouchesOnlyItsParts := by
  intro c s
  cases whole : resetsAll c with
  | false => exact exec_leaves whole
  | true =>
    obtain ⟨t, answered, keeps⟩ := exec_keeps c s
    exact ⟨t, answered, touches_resetsAll whole ▸ keeps.leaves_whole⟩

/-! ## Steps -/

@[simp] theorem step_nil {s : State} (empty : s.pending = []) : step s = .next s.tick := by
  unfold step
  rw [empty]

@[simp] theorem step_cons {s : State} {c : Instr} {rest : List Instr} (front : s.pending = c :: rest) :
    step s = exec c { s with pending := rest } := by
  unfold step
  rw [front]

/-- What one step does to what every command keeps: it takes the front of the queue and keeps the rest. -/
theorem step_keeps (s : State) : ∃ t, step s = .next t ∧ Keeps { s with pending := s.pending.tail } t := by
  cases front : s.pending with
  | nil =>
    have same : ({ s with pending := [] } : State) = s := by
      cases s
      cases front
      rfl
    exact ⟨s.tick, step_nil front, same.symm ▸ (State.tick_steady (Steady.refl s)).toKeeps⟩
  | cons c rest =>
    rw [step_cons front]
    exact exec_keeps c _

/-- Settles O1. -/
theorem stepRunsTheFrontCommand : Obligations.StepRunsTheFrontCommand := fun _ _ _ front => step_cons front

/-- Settles O6: a step keeps the order of the register file, and a tail of a well-formed queue waits after it. -/
theorem everyStepKeepsTheInvariant : Obligations.EveryStepKeepsTheInvariant := by
  intro s t inv answered
  obtain ⟨u, next, keeps⟩ := step_keeps s
  obtain rfl : u = t := Host.Outcome.next.inj (next.symm.trans answered)
  refine ⟨keeps.regs inv.regs, fun c waits => inv.queue c ?_⟩
  rw [keeps.pending] at waits
  exact List.mem_of_mem_tail waits

/-- Settles O9: a command that does not reset the whole device is steady, and so is an idle step. -/
theorem chainTimeNeverGoesBack : Obligations.ChainTimeNeverGoesBack := by
  intro s t below answered
  cases front : s.pending with
  | nil =>
    rw [step_nil front] at answered
    exact Host.Outcome.next.inj answered ▸ (State.tick_steady (Steady.refl s)).ct
  | cons c rest =>
    rw [step_cons front] at answered
    obtain ⟨u, next, steady⟩ := exec_steady (s := { s with pending := rest }) (below c (by simp [front]))
    exact Host.Outcome.next.inj (next.symm.trans answered) ▸ steady.ct

/-- The first step of a run. -/
theorem run_succ (M : Host.Core) {s u : M.State} (next : M.step s = .next u) (k : Nat) : M.run (k + 1) s = M.run k u := by
  rw [Host.Core.run, next]

/-- A run of as many steps as commands wait ends with an empty queue, and keeps the role and what had been sent. -/
theorem run_queue (s : State) : ∃ t, Host.Core.run core s.pending.length s = .next t ∧ t.pending = [] ∧ t.root = s.root ∧ s.sent <+: t.sent := by
  induction waits : s.pending.length generalizing s with
  | zero => exact ⟨s, rfl, List.length_eq_zero_iff.mp waits, rfl, List.prefix_refl _⟩
  | succ n ih =>
    obtain ⟨u, next, keeps⟩ := step_keeps s
    obtain ⟨t, ran, empty, role, sent⟩ := ih u (by rw [keeps.pending, List.length_tail, waits]; rfl)
    refine ⟨t, ?_, empty, role.trans keeps.root, keeps.sent.trans sent⟩
    exact (run_succ core next n).trans ran

/-- Settles O10. -/
theorem everyQueueIsRunToItsEnd : Obligations.EveryQueueIsRunToItsEnd := run_queue

/-- Settles O2: an idle step is one tick of the timebase. -/
theorem emptyQueueLetsTimePass : Obligations.EmptyQueueLetsTimePass := by
  intro s empty
  refine ⟨s.tick, step_nil empty, ?_, (State.tick_steady (Steady.refl s)).ct, (State.tick_frame (Frame.refl _ s) ⟨by decide⟩).leaves, ?_, ?_⟩
  · unfold State.tick State.advanceChain
    split <;> rfl
  · unfold State.tick State.advanceChain
    split <;> rfl
  · intro noHold noRate nonneg below
    have rate : ({ s with now := s.now + 10 } : State).sfld F.MBL_CT_STATUS_RATE = 0 := by
      show toSigned _ (s.fld _) = 0
      rw [noRate]
      decide
    have gained : (s.mbl.fractions + 10 * ctUnits + 0) / ctUnits = 10 := by
      have := below
      unfold ctUnits at *
      omega
    simp only [State.tick, State.advanceChain, noHold, Nat.lt_irrefl, if_false, rate, gained]
    rfl

/-! ## Reset and words -/

/-- Settles O3: the register file of the reset state lists nothing. -/
theorem resetIsAsTheTablesSay : Obligations.ResetIsAsTheTablesSay := by
  refine ⟨fun _ => rfl, ?_⟩
  simp only [show ∀ f : Fld, State.reset.fld f = f.reset from fun _ => rfl]
  refine ⟨rfl, fun _ => rfl, fun _ => rfl, fun _ => ⟨rfl, rfl, rfl, rfl⟩, fun _ => ⟨rfl, rfl⟩, fun _ => ⟨rfl, rfl⟩, rfl, rfl, rfl, rfl, rfl, rfl,
    rfl, rfl, rfl, ?_⟩
  decide

/-- Settles O4: the command table gives no row any bits. -/
theorem noWordSpellsACommand : Obligations.NoWordSpellsACommand := fun _ _ _ => ⟨rfl, rfl⟩

/-- Settles O5: the reset state lists no register and no command. -/
theorem invariantHoldsAtReset : Obligations.InvariantHoldsAtReset := ⟨rfl, by simp [State.reset]⟩

end Sys2Proof.Machine
end

section
/-!
PROOFS. Writes of registers (R15, R556): what the rows of the register map have in common, and what a written word does to each field.
-/
set_option Elab.async false
namespace Sys2Proof.Machine

/-! ## The rows of the map -/

/-- What every row of the register map has: its fields have numbers of their own, and those of HIF_FUNC_STATUS are read-only. -/
def RegRow.sound (r : RegRow) : Bool :=
  decide ((r.fields.map FieldRow.id).Nodup) && r.fields.all (fun f => decide (f.id < 1024) && (decide (4 ≤ f.id) || decide (f.kind = .ro)))

theorem regRowsAt_sound (off : Nat) : ∀ r ∈ regRowsAt off, r.sound = true := by
  unfold regRowsAt
  split <;> decide

/-- The fields of a row are in different places, and none that a write sets is of HIF_FUNC_STATUS. -/
structure RegRow.Apart (r : RegRow) : Prop where
  nodup : (r.fields.map FieldRow.id).Nodup
  small : ∀ f ∈ r.fields, f.id < 1024
  status : ∀ f ∈ r.fields, 4 ≤ f.id ∨ f.kind = .ro

theorem regAt_apart {fn off ix : Nat} {r : RegRow} (found : regAt fn off = some (r, ix)) : r.Apart := by
  have sound := regRowsAt_sound off r (findReg_some found).1
  simp only [RegRow.sound, Bool.and_eq_true, decide_eq_true_eq, List.all_eq_true, Bool.or_eq_true] at sound
  obtain ⟨nodup, fields⟩ := sound
  exact ⟨nodup, fun f h => (fields f h).1, fun f h => (fields f h).2⟩

/-! ## A written word and one field -/

/-- What a written word does to one field. -/
def State.writeField (ix v : Nat) (s : State) (f : FieldRow) : State :=
  match f.kind with
  | .rw | .rws => s.put (f.fld ix) (bitsOf v f.lo f.width)
  | .rw1c => s.put (f.fld ix) (s.fld (f.fld ix) - (s.fld (f.fld ix) &&& bitsOf v f.lo f.width))
  | .ro | .wo => s

theorem State.writeFields_eq (s : State) (r : RegRow) (ix v : Nat) : s.writeFields r ix v = r.fields.foldl (State.writeField ix v) s := by
  unfold State.writeFields
  congr 1

/-- What a field holds after a written word that finds it at `was`. -/
def FieldRow.written (f : FieldRow) (v was : Nat) : Nat :=
  match f.kind with
  | .rw | .rws => bitsOf v f.lo f.width
  | .rw1c => (was - (was &&& bitsOf v f.lo f.width)) % 2 ^ f.width
  | .ro | .wo => was

variable (s : State) (ix v : Nat) (f : FieldRow)

theorem State.writeField_same : (s.writeField ix v f).fld (f.fld ix) = f.written v (s.fld (f.fld ix)) := by
  have cut : bitsOf v f.lo f.width % 2 ^ f.width = bitsOf v f.lo f.width := Nat.mod_mod _ _
  unfold State.writeField FieldRow.written
  cases f.kind
  case rw | rws => exact (State.fld_put_same ..).trans cut
  case rw1c => exact State.fld_put_same ..
  case ro | wo => rfl

theorem State.writeField_other {g : Fld} (other : g.key ≠ (f.fld ix).key) : (s.writeField ix v f).fld g = s.fld g := by
  unfold State.writeField
  cases f.kind
  case rw | rws | rw1c => exact State.fld_put_ne _ _ other
  case ro | wo => rfl

variable {s ix v f}

theorem State.writeField_foldl_other {fs : List FieldRow} {g : Fld} (other : ∀ f ∈ fs, g.key ≠ (f.fld ix).key) :
    (fs.foldl (State.writeField ix v) s).fld g = s.fld g := by
  induction fs generalizing s with
  | nil => rfl
  | cons f fs ih =>
    exact (ih (fun x h => other x (List.mem_cons_of_mem _ h))).trans (State.writeField_other s ix v f (other f List.mem_cons_self))

theorem FieldRow.key_ne {f g : FieldRow} (ix : Nat) (differ : g.id ≠ f.id) : (g.fld ix).key ≠ (f.fld ix).key := by
  unfold Fld.key FieldRow.fld
  dsimp only
  omega

/-- Each field of a register takes what the word gives it, whatever the order of the fields. -/
theorem State.writeField_foldl_mem {fs : List FieldRow} (nodup : (fs.map FieldRow.id).Nodup) (mem : f ∈ fs) :
    (fs.foldl (State.writeField ix v) s).fld (f.fld ix) = f.written v (s.fld (f.fld ix)) := by
  induction fs generalizing s with
  | nil => cases mem
  | cons g fs ih =>
    obtain ⟨fresh, nodup⟩ := List.nodup_cons.mp nodup
    have apart : ∀ x ∈ fs, x.id ≠ g.id := fun x h same => fresh (same ▸ List.mem_map_of_mem h)
    rcases List.mem_cons.mp mem with rfl | mem
    · exact (State.writeField_foldl_other (fun x h => FieldRow.key_ne ix (apart x h).symm)).trans (State.writeField_same ..)
    · rw [List.foldl_cons, ih nodup mem, State.writeField_other _ _ _ _ (FieldRow.key_ne ix (apart f mem))]

/-- The lowest bits of a number with the ones of another taken out, and the number without them. -/
theorem sub_and_mod_div (a b : Nat) : (a - (a &&& b)) % 2 = (a % 2) * (1 - b % 2) ∧ (a - (a &&& b)) / 2 = a / 2 - (a / 2 &&& b / 2) := by
  have half : (a &&& b) / 2 = a / 2 &&& b / 2 := Nat.and_div_two
  have below : a / 2 &&& b / 2 ≤ a / 2 := Nat.and_le_left
  have low : (a &&& b) % 2 = (a % 2) * (b % 2) := by
    have := Nat.and_mod_two_pow (a := a) (b := b) (n := 1)
    rw [Nat.pow_one] at this
    rw [this]
    rcases Nat.mod_two_eq_zero_or_one a with ha | ha <;> rcases Nat.mod_two_eq_zero_or_one b with hb | hb <;> simp [ha, hb]
  rcases Nat.mod_two_eq_zero_or_one a with ha | ha <;> rcases Nat.mod_two_eq_zero_or_one b with hb | hb <;>
    rw [ha, hb] at low ⊢ <;> omega

/-- The bits of a number that are cleared where another has ones. -/
theorem testBit_sub_and (a b i : Nat) : (a - (a &&& b)).testBit i = (a.testBit i && !b.testBit i) := by
  induction i generalizing a b with
  | zero =>
    simp only [Nat.testBit_zero, (sub_and_mod_div a b).1]
    rcases Nat.mod_two_eq_zero_or_one a with ha | ha <;> rcases Nat.mod_two_eq_zero_or_one b with hb | hb <;> simp [ha, hb]
  | succ i ih => rw [Nat.testBit_succ, Nat.testBit_succ, Nat.testBit_succ, (sub_and_mod_div a b).2, ih]

/-- Settles O20: the word acts on the fields of the register one after the other, each in its own place. -/
theorem aWriteFollowsTheFieldTypes : Obligations.AWriteFollowsTheFieldTypes := by
  intro s fn off v r ix found
  have apart := regAt_apart found
  dsimp only
  rw [State.writeFields_eq]
  refine ⟨fun f mem => ?_, fun g other => State.writeField_foldl_other other⟩
  rw [State.writeField_foldl_mem apart.nodup mem]
  unfold FieldRow.written
  cases f.kind
  case rw | rws | ro | wo => rfl
  case rw1c =>
    intro i inside
    have bit : (bitsOf v f.lo f.width).testBit i = v.testBit (f.lo + i) := by
      simp [bitsOf, Nat.testBit_mod_two_pow, inside, Nat.testBit_shiftRight]
    simp [Nat.testBit_mod_two_pow, inside, testBit_sub_and, bit]

end Sys2Proof.Machine
end

section
/-!
PROOFS. WEDGED of a function (R421, R422): no command clears it but those that reset the whole device. Most rows do not reach the functions'
status registers at all; of those that do, an FLR, a wedge and the boot write other fields of them, and WEDGED is read-only to a register write.
-/
set_option Elab.async false
namespace Sys2Proof.Machine

/-! ## One field outside a frame -/

theorem Fld.group_isRegs (g : Fld) : g.group.idx < 20 := by
  unfold Fld.group
  dsimp only
  have ite : ∀ (c : Prop) [Decidable c] (a b : Part), a.idx < 20 → b.idx < 20 → (if c then a else b).idx < 20 := by
    intro c _ a b ha hb
    split <;> assumption
  repeat' apply ite
  all_goals decide

theorem Part.same_fld {s t : State} {p : Part} {g : Fld} (same : Part.same s t p) (member : g.group = p) : t.fld g = s.fld g := by
  have regs : p.idx < 20 := member ▸ g.group_isRegs
  cases p <;> first | exact same g member | exact absurd regs (by decide)

/-- A field of a group outside the mask is as it was. -/
theorem Frame.fld {W : Nat} {s t : State} (h : Frame W s t) (p : Part) (g : Fld) (outside : W.testBit p.idx = false := by decide)
    (member : g.group = p := by rfl) : t.fld g = s.fld g := Part.same_fld (h p outside) member

theorem Leaves.fld {ps : List Part} {s t : State} (h : Leaves ps s t) (p : Part) (g : Fld) (outside : p ∉ ps) (member : g.group = p := by rfl) :
    t.fld g = s.fld g := Part.same_fld (h p outside) member

/-! ## Functions that stay wedged -/

/-- Every part of the machine but the functions' status registers, as a mask. -/
def exceptFn : Nat := 2 ^ 47 - 2

/-- Every function that is WEDGED in one state is so in another. -/
def StaysWedged (s t : State) : Prop :=
  ∀ f : Nat, s.flag (F.HIF_FUNC_STATUS_WEDGED f) = true → t.flag (F.HIF_FUNC_STATUS_WEDGED f) = true

namespace StaysWedged

variable {s₀ s t : State}

theorem refl (s : State) : StaysWedged s s := fun _ h => h

theorem trans (h : StaysWedged s₀ s) (k : StaysWedged s t) : StaysWedged s₀ t := fun f w => k f (h f w)

theorem of_fld (same : ∀ f, t.fld (F.HIF_FUNC_STATUS_WEDGED f) = s.fld (F.HIF_FUNC_STATUS_WEDGED f)) : StaysWedged s t := by
  intro f w
  unfold State.flag at *
  rwa [same f]

theorem of_frame (h : Frame exceptFn s t) : StaysWedged s t := of_fld fun f => h.fld .fnRegs (F.HIF_FUNC_STATUS_WEDGED f)

theorem put {g : Fld} (other : (1 == g.id % 1024) = false) (v : Nat) : StaysWedged s (s.put g v) :=
  of_fld fun _ => State.fld_put_ne _ _ (Fld.key_ne_of_id other)

theorem put_wedged (f : Nat) : StaysWedged s (s.put (F.HIF_FUNC_STATUS_WEDGED f) 1) := by
  intro g w
  unfold State.flag at *
  by_cases same : (F.HIF_FUNC_STATUS_WEDGED g).key = (F.HIF_FUNC_STATUS_WEDGED f).key
  · obtain rfl : g = f := by
      change 1024 * g + 1 = 1024 * f + 1 at same
      omega
    rw [State.fld_put_same]
    rfl
  · rwa [State.fld_put_ne _ _ same]

theorem forEach {α : Type} (h : StaysWedged s₀ s) (xs : List α) (f : State → α → State) (each : ∀ t x, StaysWedged t (f t x)) :
    StaysWedged s₀ (s.forEach xs f) := by
  induction xs generalizing s with
  | nil => exact h
  | cons x xs ih => exact ih (h.trans (each s x))

theorem initiateFlr (f : Nat) : StaysWedged s (s.initiateFlr f) := by
  unfold State.initiateFlr
  split
  · exact refl s
  · exact (put rfl 1).trans (of_frame (State.dropWindows_frame (State.silence_frame (Frame.refl _ _) f (within_of (by decide))) f (within_of (by decide))))

theorem wedge (f : Nat) : StaysWedged s (s.wedge f) := by
  unfold State.wedge
  split
  · exact refl s
  · refine (put_wedged f).trans (of_frame ?_)
    generalize s.put (F.HIF_FUNC_STATUS_WEDGED f) 1 = marked
    have told := State.emit_frame (State.logAer_frame (State.dropWindows_frame (State.silence_frame (Frame.refl exceptFn marked) f
      (within_of (by decide))) f (within_of (by decide))) f aerInternal (within_of (by decide))) (.uncorrectable f) (within_of (by decide))
    dsimp only
    split
    · exact told
    · exact State.post_frame told 0x0A05 (srcHost 0) [0, f] (within_of (by decide))

/-! ## Resets of functions and the boot -/

theorem flrDone (f : Fin 4) : ∃ t, execFlrDone f s = .next t ∧ StaysWedged s t := by
  unfold execFlrDone
  split
  · exact ⟨s, rfl, refl s⟩
  · have ended : StaysWedged s ((s.resetConfig f).put (F.HIF_FUNC_STATUS_FLR_BUSY f) 0) :=
      (of_frame (State.resetConfig_frame (Frame.refl _ s) f (within_of (by decide)))).trans (put rfl 0)
    dsimp only
    split
    · exact ⟨_, rfl, ended⟩
    · refine ⟨_, rfl, ended.trans ?_⟩
      have blocks (t : State) : StaysWedged t (t.resetFunctionBlocks f) :=
        of_frame (State.resetFunctionBlocks_frame (Frame.refl _ t) f (within_of (by decide)))
      exact ((blocks _).trans (put rfl 0)).trans (of_frame (State.post_frame (Frame.refl _ _) _ _ _ (within_of (by decide))))

theorem bootComplete (im : FwImage) (fallback : Bool) : StaysWedged s (s.bootComplete im fallback) := by
  have image := of_frame (State.loadImage_frame (Frame.refl exceptFn s) im (within_of (by decide)))
  have slot := ((image.trans (put (g := F.SYS_RESET_STATUS_BOOT_SLOT) rfl im.slot)).trans
    (put (g := F.SYS_RESET_STATUS_FALLBACK) rfl (b2n fallback))).trans (put (g := F.FWU_BOOT_RUNNING) rfl im.slot)
  exact (slot.forEach (List.range 4) (fun s f => s.put (F.HIF_FUNC_STATUS_READY f) 1) fun t f => put rfl 1).trans
    (of_frame (State.post_frame (Frame.refl _ _) _ _ _ (within_of (by decide))))

theorem enterRecovery (errA errB : Nat) : StaysWedged s (s.enterRecovery errA errB) := by
  have marked : StaysWedged s ({ s with fw := { s.fw with recovery := true, booted := true } } : State) := of_fld fun _ => rfl
  exact ((marked.trans (put (g := F.SYS_RESET_STATUS_RECOVERY) rfl 1)).trans (put (g := F.HIF_FUNC_STATUS_READY 0) rfl 1)).trans
    (of_frame (State.post_frame (Frame.refl _ _) _ _ _ (within_of (by decide))))

theorem resetRelease : ∃ t, execResetRelease s = .next t ∧ StaysWedged s t := by
  unfold execResetRelease
  split
  · exact ⟨s, rfl, refl s⟩
  · extract_lets rails fw cleared pick copied slot picked
    have measured : StaysWedged s rails := (put (g := F.SYS_RAIL_STATUS_IN_RANGE) rfl 0xFF).trans
      (of_frame (State.extend_frame (Frame.refl _ _) 0 Config.romDigest (within_of (by decide))))
    have start : StaysWedged s cleared := measured.trans (of_fld fun _ => rfl)
    have copy : StaysWedged s copied := by
      dsimp only [copied]
      split
      · exact start
      · exact start.trans (of_fld fun _ => rfl)
    have ready : StaysWedged s picked := ((copy.trans (put (g := F.FWU_BOOT_SLOT) rfl slot)).trans
      (put (g := F.SYS_AGE_V_FIRST) rfl (copied.bootCopy.getD {}).vFirst)).trans
      (of_frame (State.extend_frame (Frame.refl _ _) 6 _ (within_of (by decide))))
    split
    · exact ⟨_, rfl, ready.trans (bootComplete _ _)⟩
    · exact ⟨_, rfl, ready.trans (bootComplete _ _)⟩
    · refine ⟨_, rfl, ready.trans ?_⟩
      split
      · exact enterRecovery _ _
      · exact enterRecovery _ _

theorem everyFlr : StaysWedged s (s.forEach (List.range 4) State.initiateFlr) := (refl s).forEach _ _ fun _ f => initiateFlr f

theorem hotReset : ∃ t, execHotReset s = .next t ∧ StaysWedged s t := by
  have silenced := everyFlr (s := s)
  unfold execHotReset
  generalize s.forEach (List.range 4) State.initiateFlr = quiet at silenced ⊢
  exact ⟨_, rfl, silenced.trans (of_fld fun _ => rfl)⟩

theorem dlDown : ∃ t, execDlDown s = .next t ∧ StaysWedged s t := by
  have silenced := everyFlr (s := s)
  unfold execDlDown
  generalize s.forEach (List.range 4) State.initiateFlr = quiet at silenced ⊢
  exact ⟨_, rfl, silenced.trans (of_fld fun _ => rfl)⟩

theorem functionWedged (f : Fin 4) : ∃ t, execFunctionWedged f s = .next t ∧ StaysWedged s t := by
  unfold execFunctionWedged
  split
  · exact ⟨_, rfl, refl s⟩
  · exact ⟨_, rfl, wedge f⟩

theorem pmD3hotEntry (f : Fin 4) : ∃ t, execPmD3hotEntry f s = .next t ∧ StaysWedged s t := by
  have slept : StaysWedged s (s.put (F.HIF_FUNC_STATUS_D_STATE f) 3) := put rfl 3
  unfold execPmD3hotEntry
  dsimp only
  split
  · exact ⟨_, rfl, slept.trans (put rfl 2)⟩
  · exact ⟨_, rfl, slept⟩

theorem pmD0Return (f : Fin 4) : ∃ t, execPmD0Return f s = .next t ∧ StaysWedged s t := by
  unfold execPmD0Return
  split
  · exact ⟨_, rfl, refl s⟩
  · exact ⟨_, rfl, (put rfl 0).trans (of_frame (State.resumeFn_frame (State.wakeLink_frame (Frame.refl _ _) (within_of (by decide)))
      f (within_of (by decide))))⟩

theorem processorFault (p : Fin 36) (watchdog : Bool) : ∃ t, execProcessorFault p watchdog s = .next t ∧ StaysWedged s t := by
  unfold execProcessorFault
  split
  · exact ⟨s, rfl, refl s⟩
  · have told (c n : Nat) (x : List Nat) : StaysWedged s (s.post c n x) :=
      of_frame (State.post_frame (Frame.refl _ _) _ _ _ (within_of (by decide)))
    dsimp only
    split
    · exact ⟨_, rfl, (told _ _ _).trans (of_frame (State.stationReset_frame (Frame.refl _ _) _ (within_of (by decide))))⟩
    · split
      · exact ⟨_, rfl, (told _ _ _).forEach _ _ fun t f => wedge f⟩
      · exact ⟨_, rfl, (told _ _ _).trans (wedge _)⟩

end StaysWedged

/-! ## Register writes -/

section
variable {s₀ s : State} {r : RegRow} {ix : Nat}

theorem FieldRow.exceptFn_within {f : FieldRow} (small : f.id < 1024) (other : 4 ≤ f.id) : (f.fld ix).within exceptFn := by
  unfold Fld.within Fld.group FieldRow.fld
  dsimp only
  rw [Nat.mod_eq_of_lt small, if_neg (by omega : ¬f.id < 4)]
  have ite : ∀ (c : Prop) [Decidable c] (a b : Part), exceptFn.testBit a.idx = true → exceptFn.testBit b.idx = true →
      exceptFn.testBit (if c then a else b).idx = true := by
    intro c _ a b ha hb
    split <;> assumption
  repeat' apply ite
  all_goals decide

/-- A write of fields leaves the functions' status registers alone. -/
theorem State.writeFields_exceptFn (apart : r.Apart) (hs : Frame exceptFn s₀ s) (v : Nat) : Frame exceptFn s₀ (s.writeFields r ix v) := by
  have each : ∀ x ∈ r.fields, ∀ t, Frame exceptFn s₀ t → Frame exceptFn s₀ (t.writeField ix v x) := by
    intro x mem t ht
    rcases apart.status x mem with other | readOnly
    · have inMask := FieldRow.exceptFn_within (ix := ix) (apart.small x mem) other
      unfold State.writeField
      cases x.kind
      case rw | rws | rw1c => exact State.put_frame ht _ _ inMask
      case ro | wo => exact ht
    · rwa [State.writeField, readOnly]
  rw [State.writeFields_eq]
  generalize r.fields = fs at each
  induction fs generalizing s with
  | nil => exact hs
  | cons x fs ih => exact ih (each x List.mem_cons_self s hs) fun y h => each y (List.mem_cons_of_mem _ h)

theorem State.writeTreeReset_exceptFn {v : Nat} (stored : Frame exceptFn s₀ (s.writeFields r 0 v)) :
    Frame exceptFn s₀ (s.writeTreeReset r v) := by
  have inMask : within exceptFn exceptFn := within_of (by decide)
  unfold State.writeTreeReset
  dsimp only
  repeat' with_reducible first
    | assumption | split | apply Res.state_frame | apply execTreeResetStation_frame
    | apply execTreeResetDevice_frame | apply State.takeFree_frame | apply State.resetErr_frame
  all_goals exact within_of (by decide)

/-! What each kind of write does beyond its fields keeps to the frame: in every branch of the offset the state is the one before or the one
with the fields stored, and goes through operations whose frames Laws/ gives. -/
variable (hs : Frame exceptFn s₀ s) (v : Nat) (stored : Frame exceptFn s₀ (s.writeFields r ix v))
include hs stored

theorem State.writeStore_exceptFn : FrameOpt exceptFn s₀ (s.writeStore r ix v) := by
  have inMask : within exceptFn exceptFn := within_of (by decide)
  unfold State.writeStore
  dsimp only
  repeat' with_reducible first
    | assumption | apply frameOpt_none | apply frameOpt_some | intro _ | split | apply State.onBit_frame | apply Res.state_frame
    | apply execMemCntClr_frame | apply State.writeInject_frame | apply execCacheEnable_frame | apply execCacheDisable_frame
    | apply execKeyLoad_frame | apply execKeyErase_frame | apply Frame.set_cipher
  all_goals exact within_of (by decide)

theorem State.writeServo_exceptFn : FrameOpt exceptFn s₀ (s.writeServo r ix v) := by
  have inMask : within exceptFn exceptFn := within_of (by decide)
  unfold State.writeServo
  dsimp only
  repeat' with_reducible first
    | assumption | apply frameOpt_none | apply frameOpt_some | intro _ | split | apply State.onBit_frame | apply Res.state_frame
    | apply State.updateCost_frame | apply execInjEnable_frame | apply State.traceArm_frame | apply execTraceStop_frame
    | apply State.traceFire_frame | apply execBelayReqSet_frame | apply execBelayReqClear_frame | apply State.setFlag_frame
    | apply execLddLinkEnable_frame | apply State.lddOff_frame | apply State.driveLden_frame | apply execSectEnWrite_frame
    | apply execSrvPeriodWrite_frame | apply execTrcArm_frame | apply execTrcFire_frame
  all_goals first | exact within_of (by decide) | exact within_group inMask .srvRegs (by decide) rfl

theorem State.writeSpindle_exceptFn : FrameOpt exceptFn s₀ (s.writeSpindle r ix v) := by
  have inMask : within exceptFn exceptFn := within_of (by decide)
  unfold State.writeSpindle
  dsimp only
  repeat' with_reducible first
    | assumption | apply frameOpt_none | apply frameOpt_some | intro _ | split | apply State.put_frame | apply State.onBit_frame
    | apply Res.state_frame | apply State.writeRun_frame | apply execSpindleTargetWrite_frame | apply execChopFaultClear_frame
  all_goals first | exact within_of (by decide) | exact within_group inMask .spnRegs (by decide) rfl

theorem State.writeMotion_exceptFn : FrameOpt exceptFn s₀ (s.writeMotion r ix v) := by
  have inMask : within exceptFn exceptFn := within_of (by decide)
  unfold State.writeMotion
  dsimp only
  repeat' with_reducible first
    | assumption | apply frameOpt_none | apply frameOpt_some | intro _ | split | apply State.onBit_frame | apply Res.state_frame
    | apply State.writeMotCtrl_frame | apply execMotorTargetWrite_frame | apply execMotorSpeedWrite_frame
    | apply execMotorDecWrite_frame | apply execMotorPosSet_frame | apply execHomeFaultClear_frame | apply State.writeGearCtrl_frame
    | apply State.writeGrpCtrl_frame | apply execEstopClear_frame | apply execEstopAll_frame
  all_goals exact within_of (by decide)

theorem State.writeTree_exceptFn (zero : Frame exceptFn s₀ (s.writeFields r 0 v)) : FrameOpt exceptFn s₀ (s.writeTree r ix v) := by
  have inMask : within exceptFn exceptFn := within_of (by decide)
  unfold State.writeTree
  dsimp only
  repeat' with_reducible first
    | assumption | apply frameOpt_none | apply frameOpt_some | intro _ | split | apply State.put_frame | apply State.onBit_frame
    | apply Res.state_frame | apply execPortDown_frame | apply execPortRetrain_frame | apply execFenceClr_frame
    | apply execCtLoad_frame | apply State.remoteAccess_frame | exact State.writeTreeReset_exceptFn zero
  all_goals first | exact within_of (by decide) | exact within_group inMask .mblRegs (by decide) rfl

theorem State.writeSystem_exceptFn : FrameOpt exceptFn s₀ (s.writeSystem r ix v) := by
  have inMask : within exceptFn exceptFn := within_of (by decide)
  unfold State.writeSystem
  dsimp only
  repeat' with_reducible first
    | assumption | apply frameOpt_none | apply frameOpt_some | intro _ | split | apply State.put_frame | apply State.onBit_frame
    | apply Res.state_frame | apply State.forEach_frame | apply execSlotAbortReq_frame | apply execPwrReqSet_frame
    | apply execPwrReqClear_frame | apply execSlotFaultClear_frame | apply execFwCancel_frame | apply execFwVerify_frame
    | apply execFwRoll_frame | apply execFwBootSlotWrite_frame | apply State.paceBoost_frame | apply State.stationReset_frame
  all_goals first | exact within_of (by decide) | exact within_group inMask .hpcRegs (by decide) rfl | exact within_group inMask .sysRegs (by decide) rfl

end

section
variable {s₀ s : State}

theorem State.writeReg_exceptFn {r : RegRow} (apart : r.Apart) (hs : Frame exceptFn s₀ s) (fn ix v : Nat) :
    Frame exceptFn s₀ (s.writeReg fn r ix v) := by
  have stored (i : Nat) : Frame exceptFn s₀ (s.writeFields r i v) := State.writeFields_exceptFn apart hs v
  unfold State.writeReg
  refine frameOpt_getD ?_ (stored ix)
  exact frameOpt_orElse (State.writeHost_frame hs _ _ _ _ (within_of (by decide))) (frameOpt_orElse (State.writeStore_exceptFn hs v (stored ix))
    (frameOpt_orElse (State.writeServo_exceptFn hs v (stored ix)) (frameOpt_orElse (State.writeSpindle_exceptFn hs v (stored ix))
    (frameOpt_orElse (State.writeMotion_exceptFn hs v (stored ix)) (frameOpt_orElse (State.writeLane_frame hs _ _ _ (within_of (by decide)))
    (frameOpt_orElse (State.writeTree_exceptFn hs v (stored ix) (stored 0)) (State.writeSystem_exceptFn hs v (stored ix))))))))

theorem State.writeWord_exceptFn (hs : Frame exceptFn s₀ s) (fn off v : Nat) : Frame exceptFn s₀ (s.writeWord fn off v) := by
  unfold State.writeWord
  split
  · extract_lets k was pcie stored
    have table : Frame exceptFn s₀ stored := Frame.set_pcie hs _ (within_of (by decide))
    split
    · exact Res.state_frame (execMsixUnmask_frame table _ _ (within_of (by decide))) table
    · exact table
  · split
    next r ix found => exact State.writeReg_exceptFn (regAt_apart found) hs _ _ _
    next => exact hs

theorem State.acceptWrite_exceptFn (hs : Frame exceptFn s₀ s) (fn off : Nat) (shape : WriteShape) (values : List Word) :
    Frame exceptFn s₀ (s.acceptWrite fn off shape values) := by
  unfold State.acceptWrite
  split
  · exact State.writeDoorbell_frame hs _ _ _ _ (within_of (by decide))
  · split
    · exact hs
    · exact foldl_frame hs _ _ fun t e ht => State.writeWord_exceptFn ht _ _ _

theorem execRegisterWrite_exceptFn (who : Requester) (off : BitVec 20) (shape : WriteShape) (values : List Word) :
    FrameRes exceptFn s (execRegisterWrite who off shape values s) := by
  unfold execRegisterWrite
  extract_lets fn host woken
  have ready : Frame exceptFn s woken := by
    dsimp only [woken]
    split
    · exact State.wakeLink_frame (Frame.refl _ s) (within_of (by decide))
    · exact Frame.refl _ s
  split
  · exact frameRes_next (State.logAer_frame ready _ _ (within_of (by decide)))
  · split
    · apply frameRes_next
      split
      · exact State.poisonedWrite_frame ready _ _ (within_of (by decide))
      · exact ready
    · split
      · exact frameRes_next ready
      · exact frameRes_next (State.acceptWrite_exceptFn ready _ _ _ _)

theorem execRegWrite_exceptFn : FrameRes exceptFn s (execRegWrite s) := by
  unfold execRegWrite
  split
  · exact frameRes_next (Frame.refl _ s)
  next e t taken =>
    have left : Frame exceptFn s t := State.takeFirst_frame taken (Frame.refl _ s) (within_of (by decide))
    exact frameRes_next (State.route_frame (State.acceptWrite_exceptFn left _ _ _ _) _ (within_of (by decide)))

end

/-! ## Every row -/

theorem StaysWedged.of_frameRes {s : State} {r : Res} (h : FrameRes exceptFn s r) : ∃ t, r = .next t ∧ StaysWedged s t := by
  obtain ⟨t, answered, frame⟩ := h
  exact ⟨t, answered, of_frame frame⟩

/-- No command that spares the device clears WEDGED of any function. -/
theorem exec_staysWedged {c : Instr} {s : State} (below : resetsAll c = false) : ∃ t, exec c s = .next t ∧ StaysWedged s t := by
  by_cases reaches : Part.fnRegs ∈ touches c
  · cases c with
    | initiateFlr f => exact ⟨_, rfl, StaysWedged.initiateFlr f⟩
    | flrDone f => exact StaysWedged.flrDone f
    | hotReset => exact StaysWedged.hotReset
    | dlDown => exact StaysWedged.dlDown
    | functionWedged f => exact StaysWedged.functionWedged f
    | pmD3hotEntry f => exact StaysWedged.pmD3hotEntry f
    | pmD0Return f => exact StaysWedged.pmD0Return f
    | resetRelease => exact StaysWedged.resetRelease
    | processorFault p watchdog => exact StaysWedged.processorFault p watchdog
    | registerWrite who off shape values => exact StaysWedged.of_frameRes (execRegisterWrite_exceptFn who off shape values)
    | regWrite => exact StaysWedged.of_frameRes execRegWrite_exceptFn
    | powerOn | brownOut _ | crystalLoss | pciePerstAssert | thermalTrip _ | resetPacket => exact Bool.noConfusion below
    | _ => exact absurd reaches (by dsimp only [touches]; decide)
  · obtain ⟨t, answered, leaves⟩ := exec_leaves (c := c) (s := s) below
    exact ⟨t, answered, .of_fld fun f => leaves.fld .fnRegs _ reaches⟩

/-- Settles O11. -/
theorem wedgedIsClearedOnlyByAFullReset : Obligations.WedgedIsClearedOnlyByAFullReset := by
  intro c s f below wedged
  obtain ⟨t, answered, stays⟩ := exec_staysWedged (c := c) (s := s) below
  exact ⟨t, answered, stays f wedged⟩

end Sys2Proof.Machine
end

section
/-!
SUPPORT. What a field reads after the operations that write fields, the fields that a state shares with another (SameFields), and units of
tables: the rules by which the rows' own effects are read off.
-/
set_option Elab.async false
namespace Sys2Proof.Machine

/-! ## Fields -/

section
variable (s : State) {f g : Fld}

/-- Two fields with different numbers share no place: a write of one leaves the other. -/
theorem State.fld_put_of_id (v : Nat) (differ : (g.id % 1024 == f.id % 1024) = false) : (s.put f v).fld g = s.fld g :=
  State.fld_put_ne _ _ (Fld.key_ne_of_id differ)

theorem State.flag_put_ne (v : Nat) (differ : g.key ≠ f.key) : (s.put f v).flag g = s.flag g := by
  unfold State.flag
  rw [State.fld_put_ne _ _ differ]

theorem State.flag_put_of_id (v : Nat) (differ : (g.id % 1024 == f.id % 1024) = false) : (s.put f v).flag g = s.flag g :=
  State.flag_put_ne s v (Fld.key_ne_of_id differ)

theorem State.sfld_put_of_id (v : Nat) (differ : (g.id % 1024 == f.id % 1024) = false) : (s.put f v).sfld g = s.sfld g := by
  unfold State.sfld
  rw [State.fld_put_of_id _ _ differ]

theorem State.fld_put_lt {v : Nat} (small : v < 2 ^ f.width) : (s.put f v).fld f = v :=
  (State.fld_put_same ..).trans (Nat.mod_eq_of_lt small)

theorem State.flag_put_zero : (s.put f 0).flag f = false := by
  unfold State.flag
  rw [State.fld_put_same, Nat.zero_mod]
  rfl

theorem State.flag_put_one (wide : 0 < f.width) : (s.put f 1).flag f = true := by
  unfold State.flag
  rw [State.fld_put_lt s (Nat.one_lt_two_pow (Nat.pos_iff_ne_zero.mp wide))]
  rfl

theorem State.flag_setFlag_same (b : Bool) (wide : 0 < f.width) : (s.setFlag f b).flag f = b := by
  cases b
  · exact State.flag_put_zero s
  · exact State.flag_put_one s wide

theorem State.flag_eq_false_of_fld {f : Fld} (zero : s.fld f = 0) : s.flag f = false := by
  unfold State.flag
  rw [zero]
  rfl

theorem State.fld_raise_of_id (c n : Nat) (p : List Nat) (differ : (g.id % 1024 == f.id % 1024) = false) :
    (s.raise f c n p).fld g = s.fld g := State.fld_raise_ne _ _ _ _ (Fld.key_ne_of_id differ)

theorem State.flag_raise_of_id (c n : Nat) (p : List Nat) (differ : (g.id % 1024 == f.id % 1024) = false) :
    (s.raise f c n p).flag g = s.flag g := by
  unfold State.flag
  rw [State.fld_raise_of_id _ _ _ _ differ]

theorem State.flag_put_val {f : Fld} (v : Nat) : (s.put f v).flag f = (v % 2 ^ f.width != 0) := by
  unfold State.flag
  rw [State.fld_put_same]

end

/-- A signed number within a width is what its two's complement reads as. -/
theorem toSigned_ofSigned {w : Nat} {x : Int} (wide : 0 < w) (low : -(2 ^ (w - 1)) ≤ x) (high : x < 2 ^ (w - 1)) :
    toSigned w (ofSigned w x) = x := by
  obtain ⟨k, rfl⟩ : ∃ k, w = k + 1 := ⟨w - 1, by omega⟩
  simp only [Nat.add_sub_cancel] at low high
  have pow : (2 : Int) ^ (k + 1) = 2 * 2 ^ k := by rw [Int.pow_succ, Int.mul_comm]
  have cast : ((2 ^ (k + 1) : Nat) : Int) = 2 * 2 ^ k := by push_cast; exact pow
  have pos : (0 : Int) < 2 ^ k := Int.pow_pos (by decide)
  have bits : ((ofSigned (k + 1) x % 2 ^ (k + 1) : Nat) : Int) = x % (2 * 2 ^ k) := by
    rw [ofSigned, cast, Int.natCast_emod, Int.toNat_of_nonneg (Int.emod_nonneg _ (by omega)), cast, Int.emod_emod_of_dvd _ (Int.dvd_refl _)]
  unfold toSigned
  rw [pow]
  generalize ofSigned (k + 1) x % 2 ^ (k + 1) = n at bits ⊢
  generalize (2 : Int) ^ k = p at *
  generalize 2 ^ (k + 1) = m at *
  rcases Int.lt_or_le x 0 with negative | positive
  · have : x % (2 * p) = x + 2 * p := by rw [← Int.add_emod_right, Int.emod_eq_of_lt (by omega) (by omega)]
    rw [if_neg (by omega)]
    omega
  · have : x % (2 * p) = x := Int.emod_eq_of_lt positive (by omega)
    rw [if_pos (by omega)]
    omega

theorem State.sfld_sput_same (s : State) {f : Fld} {x : Int} (wide : 0 < f.width) (low : -(2 ^ (f.width - 1)) ≤ x) (high : x < 2 ^ (f.width - 1)) :
    (s.sput f x).sfld f = x := by
  have cut : ofSigned f.width x < 2 ^ f.width := by
    have pos : (0 : Int) < (2 ^ f.width : Nat) := Int.natCast_pos.mpr (Nat.two_pow_pos _)
    rw [ofSigned, Int.toNat_lt (Int.emod_nonneg _ (by omega))]
    exact Int.emod_lt_of_pos _ pos
  unfold State.sfld State.sput
  rw [State.fld_put_lt s cut, toSigned_ofSigned wide low high]

theorem toSigned_toNat {w : Nat} (v : BitVec w) : toSigned w v.toNat = v.toInt := by
  rw [toSigned, Nat.mod_eq_of_lt v.isLt, BitVec.toInt_eq_toNat_cond]
  rfl

theorem ofSigned_toInt {w : Nat} (v : BitVec w) : ofSigned w v.toInt = v.toNat := by
  rw [ofSigned, BitVec.toInt_eq_toNat_bmod, Int.bmod_emod, ← Int.natCast_emod, Int.toNat_natCast, Nat.mod_eq_of_lt v.isLt]

/-! ## Shared fields -/

namespace SameFields

variable {but : List Fld} {s t u : State}

theorem refl (but : List Fld) (s : State) : SameFields but s s := fun _ _ => rfl

theorem of_regs (h : SameFields but s t) (same : u.regs = t.regs) : SameFields but s u := fun g other => (State.fld_of_regs same g).trans (h g other)

theorem put {f : Fld} (h : SameFields but s t) (v : Nat) (listed : f ∈ but := by simp) : SameFields but s (t.put f v) :=
  fun g other => (State.fld_put_ne _ _ (other f listed)).trans (h g other)

theorem sput {f : Fld} (h : SameFields but s t) (v : Int) (listed : f ∈ but := by simp) : SameFields but s (t.sput f v) := h.put _ listed

theorem setFlag {f : Fld} (h : SameFields but s t) (b : Bool) (listed : f ∈ but := by simp) : SameFields but s (t.setFlag f b) := h.put _ listed

theorem post (h : SameFields but s t) (c n : Nat) (p : List Nat) : SameFields but s (t.post c n p) := h.of_regs (State.post_regs ..)

theorem raise {f : Fld} (h : SameFields but s t) (c n : Nat) (p : List Nat) (listed : f ∈ but := by simp) : SameFields but s (t.raise f c n p) :=
  fun g other => (State.fld_raise_ne _ _ _ _ (other f listed)).trans (h g other)

theorem putPair {lo hi : Fld} (h : SameFields but s t) (v : Nat) (loListed : lo ∈ but := by simp) (hiListed : hi ∈ but := by simp) :
    SameFields but s (t.putPair lo hi v) := (h.put v loListed).put _ hiListed

theorem wakeLink (h : SameFields but s t) (listed : F.HIF_LINK_STATUS_PM ∈ but := by simp) : SameFields but s t.wakeLink :=
  fun g other => (State.fld_wakeLink_ne _ (other _ listed)).trans (h g other)

theorem emitAll (h : SameFields but s t) (os : List Out) (listed : F.HIF_LINK_STATUS_PM ∈ but := by simp) : SameFields but s (t.emitAll os) := by
  unfold State.emitAll
  dsimp only
  split
  · exact (h.wakeLink listed).of_regs rfl
  · exact h.of_regs rfl

theorem emit (h : SameFields but s t) (o : Out) (listed : F.HIF_LINK_STATUS_PM ∈ but := by simp) : SameFields but s (t.emit o) :=
  h.emitAll [o] listed

end SameFields

theorem State.emit_plain (s : State) {o : Out} (plain : o.isTlp = false) : s.emit o = { s with sent := s.sent ++ [o] } :=
  State.emitAll_plain s [o] (by simp [plain])

/-! ## Answers -/

theorem Answers.of_eq {c : Instr} {s t : State} {P : State → Prop} (answered : exec c s = .next t) (holds : P t) : Answers c s P :=
  ⟨t, answered, holds⟩

end Sys2Proof.Machine
end

section
/-!
SUPPORT. What a field reads after a write, in the form that `simp (disch := exact Shown.by_rfl rfl)` uses: the side conditions are tests of
numbers that compute once the fields are named.
-/
set_option Elab.async false
namespace Sys2Proof.Machine

/-- A test of numbers comes out true: what a simplifier's discharger shows by `Shown.by_rfl rfl`. -/
structure Shown (test : Bool) : Prop where
  by_rfl ::
  eq_true : test = true

/-- Two fields have different numbers. -/
abbrev Fld.Apart (g f : Fld) : Prop := Shown (!(g.id % 1024 == f.id % 1024))

/-- A number fits a field. -/
abbrev Fld.Fits (f : Fld) (v : Nat) : Prop := Shown (Nat.blt v (2 ^ f.width))

theorem Fld.key_mod (f : Fld) : f.key % 1024 = f.id % 1024 := by
  unfold Fld.key
  omega

variable (s : State) {f g : Fld}

@[simp] theorem State.fld_put_apart (v : Nat) (h : g.Apart f) : (s.put f v).fld g = s.fld g :=
  State.fld_put_of_id s v (Bool.not_eq_true' _ ▸ h.eq_true)

@[simp] theorem State.flag_put_apart (v : Nat) (h : g.Apart f) : (s.put f v).flag g = s.flag g :=
  State.flag_put_of_id s v (Bool.not_eq_true' _ ▸ h.eq_true)

@[simp] theorem State.fld_put_fits {v : Nat} (h : f.Fits v) : (s.put f v).fld f = v :=
  State.fld_put_lt s (Nat.le_of_ble_eq_true h.eq_true)

/-- A field takes the bits of a word that are as many as it has, or fewer. -/
@[simp] theorem State.fld_put_bits (v lo : Nat) {w : Nat} (h : Shown (Nat.ble w f.width)) : (s.put f (bitsOf v lo w)).fld f = bitsOf v lo w :=
  State.fld_put_lt s (Nat.lt_of_lt_of_le (Nat.mod_lt _ (Nat.two_pow_pos _)) (Nat.pow_le_pow_right (by decide) (Nat.le_of_ble_eq_true h.eq_true)))

@[simp] theorem State.flag_put_fits {v : Nat} (h : f.Fits v) : (s.put f v).flag f = (v != 0) := by
  unfold State.flag
  rw [State.fld_put_fits s h]

@[simp] theorem State.fld_raise_apart (c n : Nat) (p : List Nat) (h : g.Apart f) : (s.raise f c n p).fld g = s.fld g :=
  State.fld_raise_of_id s c n p (Bool.not_eq_true' _ ▸ h.eq_true)

@[simp] theorem State.flag_raise_apart (c n : Nat) (p : List Nat) (h : g.Apart f) : (s.raise f c n p).flag g = s.flag g :=
  State.flag_raise_of_id s c n p (Bool.not_eq_true' _ ▸ h.eq_true)

@[simp] theorem State.flag_raise_same (c n : Nat) (p : List Nat) (h : Shown (Nat.blt 0 f.width)) : (s.raise f c n p).flag f = true :=
  State.flag_raise _ _ _ _ _ (Nat.le_of_ble_eq_true h.eq_true)

@[simp] theorem State.fld_setFlag_apart (b : Bool) (h : g.Apart f) : (s.setFlag f b).fld g = s.fld g := State.fld_put_apart s _ h

@[simp] theorem State.flag_setFlag_apart (b : Bool) (h : g.Apart f) : (s.setFlag f b).flag g = s.flag g := State.flag_put_apart s _ h

@[simp] theorem State.flag_setFlag (b : Bool) (h : Shown (Nat.blt 0 f.width)) : (s.setFlag f b).flag f = b :=
  State.flag_setFlag_same s b (Nat.le_of_ble_eq_true h.eq_true)

@[simp] theorem State.sfld_put_apart (v : Nat) (h : g.Apart f) : (s.put f v).sfld g = s.sfld g :=
  State.sfld_put_of_id s v (Bool.not_eq_true' _ ▸ h.eq_true)

/-! ## What is sent -/

@[simp] theorem State.fld_emit_apart (o : Out) (h : g.Apart F.HIF_LINK_STATUS_PM) : (s.emit o).fld g = s.fld g :=
  (SameFields.refl [F.HIF_LINK_STATUS_PM] s).emit o (by simp) g (by simpa using Fld.key_ne_of_id (Bool.not_eq_true' _ ▸ h.eq_true))

@[simp] theorem State.flag_emit_apart (o : Out) (h : g.Apart F.HIF_LINK_STATUS_PM) : (s.emit o).flag g = s.flag g := by
  unfold State.flag
  rw [State.fld_emit_apart s o h]

@[simp] theorem State.fld_wakeLink_apart (h : g.Apart F.HIF_LINK_STATUS_PM) : s.wakeLink.fld g = s.fld g :=
  State.fld_wakeLink_ne s (Fld.key_ne_of_id (Bool.not_eq_true' _ ▸ h.eq_true))

@[simp] theorem State.flag_wakeLink_apart (h : g.Apart F.HIF_LINK_STATUS_PM) : s.wakeLink.flag g = s.flag g := by
  unfold State.flag
  rw [State.fld_wakeLink_apart s h]

@[simp] theorem State.mem_sent_emit (o : Out) : o ∈ (s.emit o).sent := by
  unfold State.emit State.emitAll
  simp

theorem SameFields.forEach {but : List Fld} {α : Type} {f : State → α → State} {s t : State} (h : SameFields but s t) (xs : List α)
    (each : ∀ t x, SameFields but s t → SameFields but s (f t x)) : SameFields but s (t.forEach xs f) := by
  unfold State.forEach
  induction xs generalizing t with
  | nil => exact h
  | cons x xs ih => exact ih (each t x h)

theorem SameFields.emit_plain {but : List Fld} {s t : State} (h : SameFields but s t) {o : Out} (plain : o.isTlp = false) :
    SameFields but s (t.emit o) := by
  rw [State.emit_plain t plain]
  exact h.of_regs rfl

/-- Waking the link touches no more of the endpoint than what it last told of idleness. -/
theorem State.wakeLink_pcie : ∃ told : Bool, s.wakeLink.pcie = { s.pcie with idleLtr := told } := by
  unfold State.wakeLink
  dsimp only
  split
  · exact ⟨s.pcie.idleLtr, rfl⟩
  · split
    · exact ⟨false, rfl⟩
    · exact ⟨s.pcie.idleLtr, rfl⟩

theorem State.emitAll_pcie (os : List Out) : ∃ told : Bool, (s.emitAll os).pcie = { s.pcie with idleLtr := told } := by
  unfold State.emitAll
  dsimp only
  split
  · exact State.wakeLink_pcie s
  · exact ⟨s.pcie.idleLtr, rfl⟩

theorem State.emit_pcie (o : Out) : ∃ told : Bool, (s.emit o).pcie = { s.pcie with idleLtr := told } := State.emitAll_pcie s [o]

/-! ## What an operation leaves -/

/-- Steps that change nothing, in turn, change nothing. -/
theorem State.forEach_eq_self {α : Type} {f : State → α → State} {s : State} {xs : List α} (each : ∀ x ∈ xs, f s x = s) : s.forEach xs f = s := by
  unfold State.forEach
  induction xs with
  | nil => rfl
  | cons x xs ih => rw [List.foldl_cons, each x List.mem_cons_self, ih fun y mem => each y (List.mem_cons_of_mem _ mem)]

/-- What each of the steps leaves, all of them leave. -/
theorem State.read_forEach {α β : Type} {f : State → α → State} (read : State → β) (each : ∀ t x, read (f t x) = read t) (s : State) (xs : List α) :
    read (s.forEach xs f) = read s := by
  unfold State.forEach
  induction xs generalizing s with
  | nil => rfl
  | cons x xs ih => exact (ih _).trans (each s x)

/-- All parts of the machine but some, as a mask. -/
def allBut (ps : List Part) : Nat := 2 ^ 47 - 1 - Part.mask ps

/-! ## Units of a table taken out -/

/-- Nothing is held of a unit whose entries were all taken out. -/
theorem Table.get_filter_out {α : Type} (d : Nat → α) (m : Table α) (p : Nat × α → Bool) (a : Nat) (out : ∀ v, p (a, v) = false) :
    Table.get d (m.filter p) a = d a := by
  induction m with
  | nil => rfl
  | cons e m ih =>
    obtain ⟨k, v⟩ := e
    by_cases c : p (k, v) = true
    · rw [List.filter_cons_of_pos c]
      have other : k ≠ a := by
        rintro rfl
        simp [out v] at c
      simp [Table.get, other, ih]
    · rw [List.filter_cons_of_neg c, ih]

end Sys2Proof.Machine
end

section
/-!
SUPPORT. The command table: what it holds after a command is written, and a release of the functions' reads that finds nothing to do.
-/
set_option Elab.async false
namespace Sys2Proof.Machine

section
variable (s : State) (h : Nat) (c : Cmd)

theorem State.cmd?_setCmd (k : Nat) : (s.setCmd h c).cmd? k = if k = h then some c else s.cmd? k := by
  unfold State.cmd? State.setCmd
  exact Table.at_put none s.rings.cmds h k (some c)

@[simp] theorem State.cmd?_setCmd_same : (s.setCmd h c).cmd? h = some c := by
  rw [State.cmd?_setCmd, if_pos rfl]

theorem State.cmd?_setCmd_ne {k : Nat} (other : k ≠ h) : (s.setCmd h c).cmd? k = s.cmd? k := by
  rw [State.cmd?_setCmd, if_neg other]

@[simp] theorem State.cmd_setCmd_same : (s.setCmd h c).cmd h = c := by
  unfold State.cmd
  rw [State.cmd?_setCmd_same]
  rfl

theorem State.cmd_setCmd_ne {k : Nat} (other : k ≠ h) : (s.setCmd h c).cmd k = s.cmd k := by
  unfold State.cmd
  rw [State.cmd?_setCmd_ne s h c other]

theorem State.cmd_setCmd (k : Nat) : (s.setCmd h c).cmd k = if k = h then c else s.cmd k := by
  unfold State.cmd
  rw [State.cmd?_setCmd]
  split <;> rfl

variable {s h c}

theorem State.cmd_of_cmd? (known : s.cmd? h = some c) : s.cmd h = c := by
  unfold State.cmd
  rw [known]
  rfl

theorem State.cmd?_of_rings {s t : State} (same : t.rings = s.rings) (h : Nat) : t.cmd? h = s.cmd? h := by
  unfold State.cmd?
  rw [same]

theorem State.cmd_of_rings {s t : State} (same : t.rings = s.rings) (h : Nat) : t.cmd h = s.cmd h := by
  unfold State.cmd
  rw [State.cmd?_of_rings same]

theorem State.allCmds_of_rings {s t : State} (same : t.rings = s.rings) : t.allCmds = s.allCmds := by
  unfold State.allCmds
  rw [same]

/-- The commands of a state in which one is written: that one, or one that stood there. -/
theorem State.mem_allCmds_setCmd {e : Nat × Cmd} (mem : e ∈ (s.setCmd h c).allCmds) : e = (h, c) ∨ e ∈ s.allCmds := by
  unfold State.allCmds at *
  obtain ⟨⟨k, x⟩, at_, found⟩ := List.mem_filterMap.mp mem
  have stood : (k, x) = (h, some c) ∨ (k, x) ∈ s.rings.cmds :=
    Table.forall_set (fun _ => none) (P := fun e => e = (h, some c) ∨ e ∈ s.rings.cmds) h (some c) (fun _ => .inl rfl)
      (fun e mem => .inr mem) _ at_
  rcases stood with own | other
  · obtain ⟨rfl, rfl⟩ := Prod.mk.inj own
    exact .inl (Option.some.inj found).symm
  · exact .inr (List.mem_filterMap.mpr ⟨_, other, found⟩)

end

/-! ## Reads that may go on -/

/-- A command that is neither admitted nor started asks for nothing. -/
theorem State.pumps_idle {s : State} {h : Nat} (unadmitted : (s.cmd h).phase ≠ .admitted) (unstarted : (s.cmd h).phase ≠ .started) :
    ((s.pump h).pumpJob h).pumpDownload h = s := by
  have pump : s.pump h = s := by simp [State.pump, unadmitted]
  have job : s.pumpJob h = s := by simp [State.pumpJob, unadmitted]
  have download : s.pumpDownload h = s := by simp [State.pumpDownload, unstarted]
  rw [pump, job, download]

/-- A data function whose commands are neither admitted nor started goes on with nothing. -/
theorem State.resumeFn_idle {s : State} {f : Nat} (data : f ≠ 0)
    (idle : ∀ e ∈ s.allCmds, e.2.id.fn = f → (s.cmd e.1).phase ≠ .admitted ∧ (s.cmd e.1).phase ≠ .started) : s.resumeFn f = s := by
  have none : s.forEach (s.allCmds.filter (fun e => e.2.id.fn == f && e.2.origin == .ring)) (fun s e =>
      ((s.pump e.1).pumpJob e.1).pumpDownload e.1) = s := State.forEach_eq_self fun e mem => by
    obtain ⟨here, own⟩ := List.mem_filter.mp mem
    obtain ⟨unadmitted, unstarted⟩ := idle e here (beq_iff_eq.mp (Bool.and_eq_true _ _ ▸ own).1)
    exact State.pumps_idle unadmitted unstarted
  unfold State.resumeFn
  rw [none, if_neg data]

end Sys2Proof.Machine
end

section
/-!
SUPPORT. The fields and the events that counting, interrupts and the event queue leave as they were.
-/
set_option Elab.async false
namespace Sys2Proof.Machine

namespace SameFields

variable {but : List Fld} {s t : State}

theorem whenever {c : Bool} {op : State → State} (h : SameFields but s t) (each : ∀ u, SameFields but s u → SameFields but s (op u)) :
    SameFields but s (t.when c op) := by
  cases c
  · exact h
  · exact each t h

theorem count {lo hi : Fld} (h : SameFields but s t) (n : Nat) (loListed : lo ∈ but := by simp) (hiListed : hi ∈ but := by simp) :
    SameFields but s (t.count lo hi n) :=
  fun g other => (State.fld_count_ne _ n (other lo loListed) (other hi hiListed)).trans (h g other)

theorem sendMessage (h : SameFields but s t) (f m : Nat) (listed : F.HIF_LINK_STATUS_PM ∈ but := by simp) : SameFields but s (t.sendMessage f m) := by
  unfold State.sendMessage
  dsimp only
  split
  · exact h.of_regs rfl
  · split
    · exact h.of_regs rfl
    · exact SameFields.emit (t := t.setVec f m {}) (h.of_regs rfl) _ listed

theorem signal (h : SameFields but s t) (f m : Nat) (urgent : Bool) (listed : F.HIF_LINK_STATUS_PM ∈ but := by simp) :
    SameFields but s (t.signal f m urgent) := by
  unfold State.signal
  dsimp only
  split
  · exact h.sendMessage f m listed
  · exact h.of_regs rfl

end SameFields

/-! ## Events -/

theorem State.sendMessage_events (s : State) (f m : Nat) : ∃ vecs, (s.sendMessage f m).events = { s.events with vecs := vecs } := by
  unfold State.sendMessage
  dsimp only
  split
  · exact ⟨_, rfl⟩
  · split
    · exact ⟨_, rfl⟩
    · exact ⟨_, State.emit_events ..⟩

theorem State.signal_events (s : State) (f m : Nat) (urgent : Bool) : ∃ vecs, (s.signal f m urgent).events = { s.events with vecs := vecs } := by
  unfold State.signal
  dsimp only
  split
  · exact State.sendMessage_events s f m
  · exact ⟨_, rfl⟩

/-- Writing an event touches no more of the queue than its pass and its vector. -/
theorem State.writeEvent_events (s : State) (e : EventRec) :
    ∃ pass vecs, (s.writeEvent e).events = { s.events with pass := pass, vecs := vecs } := by
  unfold State.writeEvent
  extract_lets tail base sent next told events passed
  obtain ⟨vecs, signalled⟩ := State.signal_events passed 0 (passed.fld F.EVT_Q_CFG_VECTOR) true
  have kept : sent.events = s.events := State.emit_events s _
  refine ⟨if next = 0 then told.events.pass + 1 else told.events.pass, vecs, signalled.trans ?_⟩
  have moved := congrArg (fun before : Events => ({ before with pass := if next = 0 then told.events.pass + 1 else told.events.pass, vecs := vecs } : Events)) kept
  exact moved

theorem State.writeEvent_same (s : State) (e : EventRec) : SameFields [F.EVT_Q_STATUS_TAIL, F.HIF_LINK_STATUS_PM] s (s.writeEvent e) := by
  unfold State.writeEvent
  extract_lets tail base sent next told events passed
  have kept : SameFields [F.EVT_Q_STATUS_TAIL, F.HIF_LINK_STATUS_PM] s told := ((SameFields.refl _ s).emit _).put _
  exact SameFields.signal (t := passed) (kept.of_regs rfl) _ _ _

/-- What is written from staging leaves the head, the posted events and the losses that have been counted. -/
theorem State.drainStaging_events (n : Nat) (s : State) : ∃ pass vecs staging beforeLoss, (State.drainStaging n s).events =
    { s.events with pass := pass, vecs := vecs, staging := staging, beforeLoss := beforeLoss } := by
  induction n generalizing s with
  | zero => exact ⟨_, _, _, _, rfl⟩
  | succ n ih =>
    unfold State.drainStaging
    split
    · exact ⟨_, _, _, _, rfl⟩
    next e rest staged =>
      split
      · obtain ⟨pass, vecs, written⟩ := State.writeEvent_events s e
        obtain ⟨pass', vecs', staging, beforeLoss, drained⟩ := ih { s.writeEvent e with events := { (s.writeEvent e).events with
          staging := rest, beforeLoss := (s.writeEvent e).events.beforeLoss - 1 } }
        refine ⟨pass', vecs', staging, beforeLoss, drained.trans ?_⟩
        change ({ (s.writeEvent e).events with
          pass := pass', vecs := vecs', staging := staging, beforeLoss := beforeLoss } : Events) = _
        rw [written]
      · exact ⟨_, _, _, _, rfl⟩

/-- What holds of a state and is kept by each of the steps holds after all of them. -/
theorem State.forEach_keeps {α : Type} {P : State → Prop} {f : State → α → State} {s : State} (holds : P s) (xs : List α)
    (each : ∀ t x, P t → P (f t x)) : P (s.forEach xs f) := by
  unfold State.forEach
  induction xs generalizing s with
  | nil => exact holds
  | cons x xs ih => exact ih (each s x holds)

/-- What one of the steps brings about where something holds that all of them keep, and none of them undoes, holds after all of them. -/
theorem State.forEach_reaches_of {α : Type} {I P : State → Prop} {f : State → α → State} {xs : List α} {x : α} (mem : x ∈ xs)
    (keeps : ∀ t y, I t → I (f t y)) (brings : ∀ t, I t → P (f t x)) (each : ∀ t y, P t → P (f t y)) {s : State} (start : I s) : P (s.forEach xs f) := by
  induction xs generalizing s with
  | nil => exact absurd mem List.not_mem_nil
  | cons y ys ih =>
    rcases List.mem_cons.mp mem with rfl | later
    · exact State.forEach_keeps (s := f s x) (brings s start) ys each
    · exact ih later (keeps s y start)

theorem State.forEach_reaches {α : Type} {P : State → Prop} {f : State → α → State} {xs : List α} {x : α} (mem : x ∈ xs) (brings : ∀ t, P (f t x))
    (each : ∀ t y, P t → P (f t y)) (s : State) : P (s.forEach xs f) :=
  State.forEach_reaches_of (I := fun _ => True) mem (fun _ _ _ => trivial) (fun t _ => brings t) each trivial

end Sys2Proof.Machine
end

section
/-!
SUPPORT. Signed fields, and rules of the cache and of the cipher engines: entries after they are written, engines without work, and commands that end.
-/
set_option Elab.async false
namespace Sys2Proof.Machine

@[simp] theorem State.fld_sput_apart (s : State) {f g : Fld} (x : Int) (h : g.Apart f) : (s.sput f x).fld g = s.fld g := State.fld_put_apart s _ h

@[simp] theorem State.flag_sput_apart (s : State) {f g : Fld} (x : Int) (h : g.Apart f) : (s.sput f x).flag g = s.flag g := State.flag_put_apart s _ h

theorem satSigned_bounds (w : Nat) (x : Int) : -(2 ^ (w - 1)) ≤ satSigned w x ∧ satSigned w x < 2 ^ (w - 1) := by
  have pos : (0 : Int) < 2 ^ (w - 1) := Int.pow_pos (by decide)
  unfold satSigned clampInt
  push_cast
  split
  · omega
  · split <;> omega

/-- A saturated number reads as it was written. -/
theorem State.sfld_sput_sat (s : State) {f : Fld} (x : Int) (wide : 0 < f.width) : (s.sput f (satSigned f.width x)).sfld f = satSigned f.width x :=
  State.sfld_sput_same s wide (satSigned_bounds f.width x).1 (satSigned_bounds f.width x).2

section
variable (s : State) (e k : Nat) (x : Entry)

@[simp] theorem State.entry_setEntry_same : (s.setEntry e x).entry e = x := Table.at_put_same ..

theorem State.entry_setEntry : (s.setEntry e x).entry k = if k = e then x else s.entry k := Table.at_put ..

theorem State.entry_setEntry_ne {s : State} {e k : Nat} {x : Entry} (other : k ≠ e) : (s.setEntry e x).entry k = s.entry k := by
  rw [State.entry_setEntry, if_neg other]

theorem State.entry_of_cache {s t : State} (same : t.cache = s.cache) (e : Nat) : t.entry e = s.entry e := by
  unfold State.entry
  rw [same]

@[simp] theorem State.entry_touch_same : (s.touch e).entry e = { s.entry e with used := s.cache.clock + 1 } := Table.at_put_same ..

end

/-! ## Engines -/

/-- Where nothing is ready, the engines take nothing. -/
theorem State.refillEngines_idle {s : State} (idle : ∀ w ∈ s.cipher.work, w.ready = false) : s.refillEngines = s := by
  have none_ : s.nextWork = none := by
    have ready : s.cipher.work.filter EngineWork.ready = [] := List.filter_eq_nil_iff.mpr fun w mem => by simp [idle w mem]
    unfold State.nextWork
    rw [ready]
    rfl
  unfold State.refillEngines
  refine State.forEach_eq_self fun e _ => ?_
  split
  · rfl
  · rw [none_]

/-! ## Commands that end -/

section
variable {s : State} {h : Nat} {c : Cmd}

/-- A command that ends and is not mute holds its result, and its record waits; nothing is said of other commands but that they stand. -/
theorem State.finish_spec (known : s.cmd? h = some c) (running : c.phase ≠ .ended) (heard : c.mute = false) (r : CmdResult) :
    (s.finish h r).cmd? h = some { c with phase := .ended, res := r } ∧ (s.finish h r).rings.records = s.rings.records ++ [h] ∧
      (∀ k, k ≠ h → (s.finish h r).cmd? k = s.cmd? k) ∧ (s.finish h r).regs = s.regs := by
  have ended : s.finish h r = { s.setCmd h { c with phase := .ended, res := r } with
      rings := { (s.setCmd h { c with phase := .ended, res := r }).rings with records := s.rings.records ++ [h] }
      cipher := { s.cipher with work := s.cipher.work.filter (keepsWork h) } } := by
    unfold State.finish
    rw [known]
    dsimp only
    rw [if_neg running, if_neg (by simp [heard])]
    rfl
  rw [ended]
  exact ⟨State.cmd?_setCmd_same .., rfl, fun k other => State.cmd?_setCmd_ne _ _ _ other, rfl⟩

theorem State.freeEntry_rings (s : State) (e : Nat) : (s.freeEntry e).rings = s.rings :=
  (State.freeEntry_frame (.refl (allBut [.rings]) s) e (within_of (by decide))) .rings rfl

/-- A command that gives its entries up waits for no block, and the rings stand otherwise. -/
theorem State.releaseUses_rings (known : s.cmd? h = some c) (giveUp : Bool) :
    (s.releaseUses h giveUp).rings = (s.setCmd h { c with data := { c.data with waiting := [] } }).rings := by
  unfold State.releaseUses
  extract_lets uses released chosen
  have first : released.rings = s.rings := State.read_forEach State.rings (by
    intro t u
    dsimp only
    split
    · exact State.freeEntry_rings ..
    · split
      · exact State.freeEntry_rings ..
      · rfl) s _
  have second : chosen.rings = s.rings := (State.read_forEach State.rings (by
    intro t e
    dsimp only
    split <;> rfl) released _).trans first
  unfold State.modCmd
  rw [State.cmd?_of_rings second, known]
  unfold State.setCmd
  rw [second]

/-- A command that ends holds its result, and its record waits. -/
theorem State.endCmd_spec (known : s.cmd? h = some c) (running : c.phase ≠ .ended) (heard : c.mute = false) (giveUp : Bool) (r : CmdResult) :
    ((s.endCmd h giveUp r).cmd h).phase = .ended ∧ ((s.endCmd h giveUp r).cmd h).res = r ∧
      (s.endCmd h giveUp r).rings.records = s.rings.records ++ [h] := by
  have rings := State.releaseUses_rings known giveUp
  obtain ⟨ended, records, _, _⟩ := State.finish_spec (s := s.releaseUses h giveUp) (c := { c with data := { c.data with waiting := [] } })
    ((State.cmd?_of_rings rings h).trans (State.cmd?_setCmd_same ..)) running heard r
  unfold State.endCmd
  rw [State.cmd_of_cmd? ended, records, rings]
  exact ⟨rfl, rfl, rfl⟩

end

end Sys2Proof.Machine
end

section
/-!
SUPPORT. What the servo's registers keep while loops change their modes, a pickup changes its state, and a sample is computed: the kinds of
fields that each of these may write.
-/
set_option Elab.async false
namespace Sys2Proof.Machine

/-- The number of a kind of field, the same for all its units. -/
abbrev Fld.kind (f : Fld) : Nat := f.id % 1024

/-- The servo's fields, but those of some kinds, read as they did. -/
structure ServoKept (kinds : List Nat) (s t : State) : Prop where
  fld : ∀ g : Fld, g.group = .srvRegs → Shown (!kinds.contains g.kind) → t.fld g = s.fld g

/-- The mask of everything but the servo's registers. -/
def allButServo : Nat := allBut [.srvRegs]

namespace ServoKept

variable {kinds : List Nat} {s t u : State}

theorem refl (kinds : List Nat) (s : State) : ServoKept kinds s s := ⟨fun _ _ _ => rfl⟩

theorem trans (h : ServoKept kinds s t) (k : ServoKept kinds t u) : ServoKept kinds s u :=
  ⟨fun g servo other => (k.fld g servo other).trans (h.fld g servo other)⟩

theorem mono {fewer : List Nat} (h : ServoKept fewer s t) (sub : Shown (fewer.all kinds.contains)) : ServoKept kinds s t :=
  ⟨fun g servo other => h.fld g servo ⟨by
    have all := List.all_eq_true.mp sub.eq_true
    have out := other.eq_true
    rw [Bool.not_eq_true'] at out ⊢
    rw [← Bool.not_eq_true] at out ⊢
    exact fun mem => out (all _ (List.contains_iff_mem.mp mem))⟩⟩

/-- A step that may write more kinds follows. -/
theorem step {fewer : List Nat} (h : ServoKept kinds s t) (k : ServoKept fewer t u) (sub : Shown (fewer.all kinds.contains) := by exact ⟨rfl⟩) :
    ServoKept kinds s u := h.trans (k.mono sub)

theorem of_regs (h : ServoKept kinds s t) (same : u.regs = t.regs) : ServoKept kinds s u :=
  ⟨fun g servo other => (State.fld_of_regs same g).trans (h.fld g servo other)⟩

theorem of_frame (h : ServoKept kinds s t) (frame : Frame allButServo t u) : ServoKept kinds s u :=
  ⟨fun g servo other => (frame .srvRegs rfl g servo).trans (h.fld g servo other)⟩

theorem put {f : Fld} (h : ServoKept kinds s t) (v : Nat) (listed : Shown (kinds.contains f.kind) := by exact ⟨rfl⟩) :
    ServoKept kinds s (t.put f v) := ⟨fun g servo other => by
  refine (State.fld_put_apart t v ⟨?_⟩).trans (h.fld g servo other)
  rw [Bool.not_eq_true', beq_eq_false_iff_ne]
  intro same
  have out := other.eq_true
  rw [show g.kind = f.kind from same, listed.eq_true] at out
  exact absurd out (by decide)⟩

theorem sput {f : Fld} (h : ServoKept kinds s t) (v : Int) (listed : Shown (kinds.contains f.kind) := by exact ⟨rfl⟩) :
    ServoKept kinds s (t.sput f v) := h.put _ listed

theorem setFlag {f : Fld} (h : ServoKept kinds s t) (b : Bool) (listed : Shown (kinds.contains f.kind) := by exact ⟨rfl⟩) :
    ServoKept kinds s (t.setFlag f b) := h.put _ listed

theorem post (h : ServoKept kinds s t) (c n : Nat) (p : List Nat) : ServoKept kinds s (t.post c n p) := h.of_regs (State.post_regs ..)

theorem raise {f : Fld} (h : ServoKept kinds s t) (c n : Nat) (p : List Nat) (listed : Shown (kinds.contains f.kind) := by exact ⟨rfl⟩) :
    ServoKept kinds s (t.raise f c n p) := by
  unfold State.raise
  split
  · exact h
  · exact (h.put 1 listed).post c n p

theorem whenever {c : Bool} {op : State → State} (h : ServoKept kinds s t) (each : ∀ u, ServoKept kinds s u → ServoKept kinds s (op u)) :
    ServoKept kinds s (t.when c op) := by
  cases c
  · exact h
  · exact each t h

theorem forEach {α : Type} {f : State → α → State} (h : ServoKept kinds s t) (xs : List α)
    (each : ∀ t x, ServoKept kinds s t → ServoKept kinds s (f t x)) : ServoKept kinds s (t.forEach xs f) :=
  State.forEach_keeps h xs each

theorem modPickup (h : ServoKept kinds s t) (n : Nat) (f : Pickup → Pickup) : ServoKept kinds s (t.modPickup n f) := h.of_regs rfl

theorem modLp (h : ServoKept kinds s t) (n : Nat) (f : LoopProc → LoopProc) : ServoKept kinds s (t.modLp n f) := h.of_regs rfl

theorem flag (h : ServoKept kinds s t) (g : Fld) (servo : g.group = .srvRegs) (other : Shown (!kinds.contains g.kind)) : t.flag g = s.flag g := by
  unfold State.flag
  rw [h.fld g servo other]

end ServoKept

/-! ## The kinds of fields that loops and pickups write -/

/-- What a loop's mode brings with it: the modes, the costs, the hold configuration. -/
def loopKinds : List Nat :=
  [F.SRV_LP_CTRL_MODE_FOCUS 0, F.SRV_LP_CTRL_MODE_TRACK 0, F.SRV_LP_CTRL_MODE_TILT 0, F.SRV_LP_CTRL_MODE_SLED 0, F.SRV_LP_COST_FAST_NS 0,
    F.SRV_LP_COST_SLED_NS 0, F.SRV_LP_STATUS_COST_OVER 0, F.SRV_LOOP_HOLD_MODE 0 0, F.SRV_LOOP_HOLD_TRIG_DEFECT 0 0, F.SRV_LOOP_HOLD_TRIG_LOWSUM 0 0,
    F.SRV_LOOP_HOLD_EXTEND 0 0].map Fld.kind

/-- What a pickup's state brings with it besides. -/
def enterKinds : List Nat := loopKinds ++ [F.SRV_PU_STATE_STATE 0, F.SRV_LDD_CTRL_LDEN_REQ 0, F.SRV_LDD_STATUS_LDEN 0].map Fld.kind

/-- A pickup that enters a state, its drive, and the gates it shuts. -/
def moveKinds : List Nat := enterKinds ++ [F.SRV_LOOP_DRIVE_CODE 0 0, F.SRV_BAE_REV_GATE_CLOSED 0].map Fld.kind

section
variable (s : State) (n : Nat)

theorem loopModeFld_kind (l : Nat) : Shown (loopKinds.contains (loopModeFld n l).kind) := by
  unfold loopModeFld
  split <;> exact ⟨rfl⟩

theorem State.updateCost_servo : ServoKept loopKinds s (s.updateCost n) := by
  unfold State.updateCost
  extract_lets fast sled costs excess was flagged
  exact ((((ServoKept.refl _ s).put _).put _).setFlag _).whenever fun u same => same.post _ _ _

theorem State.setMode_servo (l mode : Nat) : ServoKept loopKinds s (s.setMode n l mode) :=
  ((ServoKept.refl _ s).put _ (loopModeFld_kind n l)).trans (State.updateCost_servo ..)

theorem State.holdDefaults_servo (l : Nat) : ServoKept loopKinds s (s.holdDefaults n l) := by
  unfold State.holdDefaults
  dsimp only
  split <;> exact ((((ServoKept.refl _ s).put _).put _).put _).put _

theorem State.driveLoop_servo (l mode : Nat) : ServoKept loopKinds s (s.driveLoop n l mode) := by
  unfold State.driveLoop
  extract_lets was closed frozen
  split
  · exact .refl _ s
  · have first : ServoKept loopKinds s closed := (ServoKept.refl _ s).whenever fun u same => same.trans (State.holdDefaults_servo ..)
    exact (first.whenever (c := decide (mode = 3)) fun u same => same.put (f := F.SRV_LOOP_HOLD_MODE n l) 0).trans (State.setMode_servo ..)

theorem State.driveLden_servo : ServoKept enterKinds s (s.driveLden n) := (ServoKept.refl _ s).setFlag _

theorem State.enter_servo (p : Nat) : ServoKept enterKinds s (s.enter n p) := by
  unfold State.enter
  extract_lets old held put driven geared set
  have first : ServoKept enterKinds s held := (ServoKept.refl _ s).whenever fun u same =>
    same.of_frame (State.holdLanes_frame (.refl _ u) n (within_of (by decide)))
  have second : ServoKept enterKinds s driven := (first.put p).forEach (List.range 4) fun u l same => same.step (State.driveLoop_servo ..)
  have third : ServoKept enterKinds s set := second.whenever fun u same =>
    same.of_frame (State.setGear_frame (.refl _ u) n geared (within_of (by decide)))
  exact ServoKept.modPickup ((third.setFlag _).trans (State.driveLden_servo ..)) n _

theorem State.closeGates_servo (cause : Option Nat) : ServoKept [] s (s.closeGates n cause) :=
  (ServoKept.refl [] s).of_frame (State.closeGates_frame (.refl _ s) n cause (within_of (by decide)))

theorem State.shutGates_servo (cause : Option Nat) : ServoKept [(F.SRV_BAE_REV_GATE_CLOSED 0).kind] s (s.shutGates n cause) := by
  unfold State.shutGates
  split
  · exact (ServoKept.refl _ s).whenever fun u same => same.step (State.closeGates_servo ..)
  · exact ((ServoKept.refl _ s).put 1).step (State.closeGates_servo ..)

theorem State.startSearch_servo (layer : Nat) : ServoKept moveKinds s (s.startSearch n layer) := by
  unfold State.startSearch
  exact (((ServoKept.refl _ s).step (State.enter_servo ..)).put _).modPickup _ _

theorem State.enterBelay_servo : ServoKept moveKinds s (s.enterBelay n) := by
  unfold State.enterBelay
  exact (((ServoKept.refl _ s).step (State.shutGates_servo ..)).step (State.enter_servo ..)).post _ _ _

theorem State.loadLanes_servo : ServoKept [] s (s.loadLanes n) :=
  (ServoKept.refl [] s).of_frame (State.loadLanes_frame (.refl _ s) n (within_of (by decide)))

theorem State.toFollow_servo : ServoKept moveKinds s (s.toFollow n) := by
  unfold State.toFollow
  extract_lets loaded followed
  have first : ServoKept moveKinds s followed :=
    (((ServoKept.refl _ s).step (State.enter_servo ..)).step (State.loadLanes_servo ..)).modPickup _ _
  split
  · exact first.step (State.enterBelay_servo ..)
  · exact first

theorem State.checkBelay_servo : ServoKept moveKinds s (s.checkBelay n) := by
  unfold State.checkBelay
  dsimp only
  split
  · exact State.enterBelay_servo ..
  · split
    · have posted := (ServoKept.refl moveKinds s).post 0x0249 (srcPickup n) (s.puPayload n [] 0)
      split
      · exact (posted.modPickup n _).step (State.enter_servo ..)
      · exact posted.step (State.toFollow_servo ..)
    · exact .refl _ s

/-! ## A sample -/

theorem State.rampSample_servo : ServoKept moveKinds s (s.rampSample n) := by
  have drive (u : State) (c : Int) (same : ServoKept moveKinds s u) : ServoKept moveKinds s (u.sput (F.SRV_LOOP_DRIVE_CODE n 0) c) := same.sput c
  have start := ServoKept.refl moveKinds s
  unfold State.rampSample
  dsimp only
  split
  · split
    · exact (drive _ _ start).modPickup _ _
    · exact start
  · exact drive _ _ start
  · split
    · exact (drive _ _ start).modPickup _ _
    · exact drive _ _ start
  · exact drive _ _ start
  · exact start

theorem State.layerSample_servo (fe sum : Int) : ServoKept moveKinds s (s.layerSample n fe sum) := by
  have enters (p : Nat) : ServoKept moveKinds s (s.enter n p) := (ServoKept.refl _ s).step (State.enter_servo ..)
  have mods (f : Pickup → Pickup) : ServoKept moveKinds s (s.modPickup n f) := (ServoKept.refl _ s).modPickup n f
  unfold State.layerSample
  extract_lets p c deeper m crossed count counted k
  split
  · split
    · split
      · exact enters _
      · exact mods _
    · exact mods _
  · split
    · have count_ : ServoKept moveKinds s counted := mods _
      split
      · exact enters _
      · split
        · exact (count_.sput _).modPickup _ _
        · exact count_
    · exact .refl _ s

theorem State.trackSample_servo (te : Int) : ServoKept moveKinds s (s.trackSample n te) := by
  have mods (f : Pickup → Pickup) : ServoKept moveKinds s (s.modPickup n f) := (ServoKept.refl _ s).modPickup n f
  unfold State.trackSample
  extract_lets p rises fallsNow c jumped k
  split
  · split
    · split
      · exact ((ServoKept.refl _ s).step (State.driveLoop_servo ..)).modPickup _ _
      · exact mods _
    · exact .refl _ s
  · split
    · have jump : ServoKept moveKinds s jumped := mods _
      split
      · exact (jump.step (State.driveLoop_servo ..)).step (State.driveLoop_servo ..)
      · split
        · exact jump.sput _
        · exact jump
    · exact .refl _ s

theorem State.servoSample_servo : ServoKept moveKinds s (s.servoSample n) := by
  unfold State.servoSample
  extract_lets lp sig fe te sum p0 y hold unit badFocus badTrack counted near shut moved noted checked
  have first : ServoKept moveKinds s shut := ((ServoKept.refl _ s).modPickup n _).whenever fun u same => same.step (State.shutGates_servo ..)
  have second : ServoKept moveKinds s moved :=
    ((first.trans (State.rampSample_servo ..)).trans (State.layerSample_servo ..)).trans (State.trackSample_servo ..)
  have third : ServoKept moveKinds s checked := (second.modPickup n _).trans (State.checkBelay_servo ..)
  split
  · exact (third.modPickup n _).trans (State.startSearch_servo ..)
  · exact third

end

/-! ## Pickups and their recordings -/

section
variable (s : State) (n : Nat)

@[simp] theorem State.pickup_modPickup_same (f : Pickup → Pickup) : (s.modPickup n f).pickup n = f (s.pickup n) := by
  unfold State.modPickup State.setPickup State.pickup
  exact Table.at_put_same (α := Pickup) ..

theorem State.modPickup_regs (f : Pickup → Pickup) : (s.modPickup n f).regs = s.regs := rfl

theorem State.pickup_of_pickups {s t : State} (same : t.pickups = s.pickups) (n : Nat) : t.pickup n = s.pickup n := by
  unfold State.pickup
  rw [same]

theorem State.puRec_of_recording {s t : State} (same : t.recording = s.recording) (n : Nat) : t.puRec n = s.puRec n := by
  unfold State.puRec
  rw [same]

@[simp] theorem State.puRec_modPuRec_same (f : PickupRec → PickupRec) : (s.modPuRec n f).puRec n = f (s.puRec n) := by
  unfold State.modPuRec State.setPuRec State.puRec
  exact Table.at_put_same (α := PickupRec) ..

theorem State.modPuRec_regs (f : PickupRec → PickupRec) : (s.modPuRec n f).regs = s.regs := rfl

theorem State.modPickup_recording (f : Pickup → Pickup) : (s.modPickup n f).recording = s.recording := rfl

theorem State.modPuRec_pickups (f : PickupRec → PickupRec) : (s.modPuRec n f).pickups = s.pickups := rfl

theorem State.streaming_of_recording {s t : State} (same : t.recording = s.recording) (n : Nat) : t.streaming n = s.streaming n := by
  unfold State.streaming
  rw [State.puRec_of_recording same]

theorem State.calRun_of_calib {s t : State} (same : t.calib = s.calib) (n : Nat) : t.calRun n = s.calRun n := by
  unfold State.calRun
  rw [same]

/-- Gates that are shut stay so. -/
theorem State.shutGates_shut {s : State} {n : Nat} (gates : (s.pickup n).gates = 0) (still : s.streaming n = false) (cause : Option Nat) :
    s.shutGates n cause = s := by
  unfold State.shutGates
  rw [if_pos gates, still]
  rfl

end

end Sys2Proof.Machine
end

section
/-!
PROOFS. The position of a motor (R182): its 64 bits, what MOT_POS shows of it, and MOT_POS_SET.
-/
set_option Elab.async false
namespace Sys2Proof.Machine

/-- Positions wrap into 64 bits without changing modulo 2^64. -/
theorem wrapPos_spec (p : Int) : -(2 ^ 63) ≤ wrapPos p ∧ wrapPos p < 2 ^ 63 ∧ (wrapPos p - p) % 2 ^ 64 = 0 := by
  have bits : ((ofSigned 64 p % 2 ^ 64 : Nat) : Int) = p % 2 ^ 64 := by
    unfold ofSigned
    omega
  unfold wrapPos toSigned
  generalize ofSigned 64 p % 2 ^ 64 = n at bits ⊢
  split <;> omega

@[simp] theorem State.motor_setMotor_same (s : State) (x : Nat) (m : Motor) : (s.setMotor x m).motor x = m := Table.at_put_same ..

@[simp] theorem State.motor_showMotor (s : State) (x y : Nat) : (s.showMotor x).motor y = s.motor y := rfl

@[simp] theorem State.fld_setMotor (s : State) (x : Nat) (m : Motor) (g : Fld) : (s.setMotor x m).fld g = s.fld g := rfl

/-- MOT_POS shows the integer part of the position, rounded toward minus infinity. -/
theorem State.showMotor_pos {s : State} {x : Nat} (low : -(2 ^ 63) ≤ (s.motor x).pos) (high : (s.motor x).pos < 2 ^ 63) :
    (s.showMotor x).sfld (F.MOT_POS_POS x) = (s.motor x).pos / stepUnit := by
  unfold State.showMotor
  rw [State.sfld_put_of_id _ _ rfl]
  have lower : -(2 ^ 31) ≤ (s.motor x).pos / stepUnit := by unfold stepUnit; omega
  have upper : (s.motor x).pos / stepUnit < 2 ^ 31 := by unfold stepUnit; omega
  exact State.sfld_sput_same s (f := F.MOT_POS_POS x) (Nat.succ_pos 31) lower upper

theorem SameFields.showMotor {but : List Fld} {s t : State} (h : SameFields but s t) (x : Nat)
    (pos : F.MOT_POS_POS x ∈ but := by simp) (phase : F.MOT_STATUS_PHASE x ∈ but := by simp) : SameFields but s (t.showMotor x) :=
  (h.put _ pos).put _ phase

theorem SameFields.setMotor {but : List Fld} {s t : State} (h : SameFields but s t) (x : Nat) (m : Motor) : SameFields but s (t.setMotor x m) :=
  h.of_regs rfl

/-- MOT_POS_SET of a motor that is at rest without a gear. -/
theorem execMotorPosSet_rest {s : State} {x : Fin 28} (value : Word) (rest : (s.motor x).phase = 0)
    (geared : x.val < 16 → s.flag (F.MOT_GEAR_CTRL_ENGAGE x) = false) (grouped : 16 ≤ x.val → s.movingGroup (x.val - 16) = none) :
    execMotorPosSet x value s =
      .next ((s.setMotor x { s.motor x with pos := value.toInt * stepUnit, emitted := value.toInt }).showMotor x) := by
  have idle : ((s.motor x).phase != 0 || (decide (x.val < 16) && s.flag (F.MOT_GEAR_CTRL_ENGAGE x)) ||
      (decide (16 ≤ x.val) && (s.movingGroup (x.val - 16)).isSome)) = false := by
    rcases Nat.lt_or_ge x.val 16 with sled | axis
    · simp [rest, geared sled, Nat.not_le.mpr sled]
    · simp [rest, grouped axis, Nat.not_lt.mpr axis]
  simp [execMotorPosSet, idle]

/-- MOT_POS_SET at any other time. -/
theorem execMotorPosSet_busy {s : State} {x : Fin 28} (value : Word)
    (busy : (s.motor x).phase ≠ 0 ∨ (x.val < 16 ∧ s.flag (F.MOT_GEAR_CTRL_ENGAGE x) = true) ∨ (16 ≤ x.val ∧ s.movingGroup (x.val - 16) ≠ none)) :
    execMotorPosSet x value s = .next (s.rejectMotor x) := by
  have moving : ((s.motor x).phase != 0 || (decide (x.val < 16) && s.flag (F.MOT_GEAR_CTRL_ENGAGE x)) ||
      (decide (16 ≤ x.val) && (s.movingGroup (x.val - 16)).isSome)) = true := by
    simp only [Bool.or_eq_true, Bool.and_eq_true, bne_iff_ne, decide_eq_true_eq, Option.isSome_iff_ne_none, or_assoc]
    exact busy
  simp only [execMotorPosSet, moving, if_true]

/-- What MOT_POS_SET leaves where it loads the position: the position, MOT_POS, and all other fields but PHASE. -/
theorem motorPosSet_loads {s : State} {x : Fin 28} (value : Word) (rest : (s.motor x).phase = 0)
    (geared : x.val < 16 → s.flag (F.MOT_GEAR_CTRL_ENGAGE x) = false) (grouped : 16 ≤ x.val → s.movingGroup (x.val - 16) = none) :
    Answers (.motorPosSet x value) s (fun t => (t.motor x).pos = value.toInt * stepUnit ∧ t.sfld (F.MOT_POS_POS x) = value.toInt ∧
      SameFields [F.MOT_POS_POS x, F.MOT_STATUS_PHASE x] s t) := by
  refine .of_eq (execMotorPosSet_rest value rest geared grouped) ⟨?_, ?_, ((SameFields.refl _ s).setMotor x _).showMotor x⟩
  · simp
  · have low : -(2 ^ 31) ≤ value.toInt := BitVec.le_toInt value
    have high : value.toInt < 2 ^ 31 := BitVec.toInt_lt
    rw [State.showMotor_pos] <;> simp only [State.motor_setMotor_same, stepUnit] <;> omega

/-- Settles O15. -/
theorem motorPositionIsAFixedPointCount : Obligations.MotorPositionIsAFixedPointCount := by
  refine ⟨wrapPos_spec, fun s x low high => ?_, fun s x value => ⟨fun atRest noGear => ?_, fun busy => ?_⟩⟩
  · rw [State.showMotor_pos low high]
    unfold stepUnit
    omega
  · obtain ⟨rest, grouped⟩ := atRest
    exact motorPosSet_loads value rest (fun sled => Bool.eq_false_iff.mpr fun on => noGear ⟨sled, on⟩) grouped
  · have moving : (s.motor x).phase ≠ 0 ∨ (x.val < 16 ∧ s.flag (F.MOT_GEAR_CTRL_ENGAGE x) = true) ∨
        (16 ≤ x.val ∧ s.movingGroup (x.val - 16) ≠ none) := by
      rcases busy with moves | geared
      · by_cases still : (s.motor x).phase = 0
        · exact .inr (.inr (by simpa [still] using moves))
        · exact .inl still
      · exact .inr (.inl geared)
    exact .of_eq (execMotorPosSet_busy value moving) ⟨rfl, State.fld_put_same .., (SameFields.refl _ s).put 1⟩

end Sys2Proof.Machine
end

section
/-!
PROOFS. The pulse groups of the speed loop (R166): the periods of a group, what they play, and what is carried on.
-/
set_option Elab.async false
namespace Sys2Proof.Machine

/-- The periods of a group: the demanded on-time over the period's, rounded up. -/
def pulsePeriods (ton ts : Rat) : Nat := (-((-(ts / ton)).floor)).toNat

/-- Rounding up: the periods cover the demand, and one fewer would not. -/
theorem pulsePeriods_spec {ton ts : Rat} (on : 0 < ton) (light : ton < ts) :
    ∃ m : Nat, pulsePeriods ton ts = m + 2 ∧ ts ≤ (m + 2 : Nat) * ton ∧ (((m + 2 : Nat) : Rat) - 1) * ton < ts := by
  have above : ((-(ts / ton)).floor : Rat) ≤ -(ts / ton) := Rat.floor_le _
  have below : -(ts / ton) - 1 < ((-(ts / ton)).floor : Rat) := Rat.lt_floor
  have whole : ts / ton * ton = ts := Rat.div_mul_cancel (Rat.ne_of_gt on)
  unfold pulsePeriods
  generalize (-(ts / ton)).floor = z at above below
  generalize ts / ton = q at above below whole
  have many : 1 < q := by
    refine Rat.lt_of_mul_lt_mul_right (c := ton) ?_ (Rat.le_of_lt on)
    rw [whole, Rat.one_mul]
    exact light
  have negative : z < -1 := by
    refine Rat.intCast_lt_intCast.mp ?_
    change (z : Rat) < -1
    grind
  obtain ⟨m, rfl⟩ : ∃ m : Nat, z = -((m + 2 : Nat) : Int) := ⟨(-z - 2).toNat, by omega⟩
  rw [Rat.intCast_neg, Rat.intCast_natCast] at above below
  refine ⟨m, by omega, ?_, ?_⟩
  · rw [← whole]
    exact Rat.mul_le_mul_of_nonneg_right (by grind) (Rat.le_of_lt on)
  · rw [← whole]
    exact Rat.mul_lt_mul_of_pos_right (by grind) on

/-- A demand that one period's on-time covers: every period is a sampling period. -/
theorem pulseGroup_covered {ton ts : Rat} (carry : Rat) (on : 0 < ton) (covered : ts ≤ ton) : pulseGroup ton ts carry = ([ton], carry) := by
  rw [pulseGroup, if_neg (Rat.not_le.mpr on), if_pos covered]

variable {ton ts carry : Rat} {m : Nat}

/-- The remainder is at least 0.4 µs: the last period plays it. -/
theorem pulseGroup_played (on : 0 < ton) (light : ton < ts) (periods : pulsePeriods ton ts = m + 2)
    (long : 2 / 5 ≤ (m + 2 : Nat) * ton - ts + carry) :
    pulseGroup ton ts carry = (ts :: (List.replicate m 0 ++ [(m + 2 : Nat) * ton - ts + carry]), 0) := by
  unfold pulsePeriods at periods
  rw [pulseGroup, if_neg (Rat.not_le.mpr on), if_neg (Rat.not_le.mpr light)]
  simp only [periods]
  rw [if_pos long, Nat.add_sub_cancel]

/-- The remainder is below 0.4 µs: it is carried on. -/
theorem pulseGroup_carried (on : 0 < ton) (light : ton < ts) (periods : pulsePeriods ton ts = m + 2)
    (short : (m + 2 : Nat) * ton - ts + carry < 2 / 5) :
    pulseGroup ton ts carry = (ts :: List.replicate (m + 1) 0, (m + 2 : Nat) * ton - ts + carry) := by
  unfold pulsePeriods at periods
  rw [pulseGroup, if_neg (Rat.not_le.mpr on), if_neg (Rat.not_le.mpr light)]
  simp only [periods]
  rw [if_neg (Rat.not_le.mpr short)]
  rfl

/-- A remainder is at least 0.4 µs or below. -/
theorem played_or_carried (rest : Rat) : 2 / 5 ≤ rest ∨ rest < 2 / 5 := by
  rcases Decidable.em (2 / 5 ≤ rest) with long | short
  · exact .inl long
  · exact .inr (Rat.not_le.mp short)

/-- Periods without a pulse add nothing. -/
theorem foldl_add_silent (n : Nat) (x : Rat) : (List.replicate n (0 : Rat)).foldl (· + ·) x = x := by
  induction n with
  | zero => rfl
  | succ n ih => rw [List.replicate_succ, List.foldl_cons, Rat.add_zero, ih]

/-- A group loses nothing: its pulses and what it carries on are the demand and what was carried in; what it carries on is below 0.4 µs. -/
theorem pulseGroup_total (on : 0 < ton) (light : ton < ts) (periods : pulsePeriods ton ts = m + 2) (covers : ts ≤ (m + 2 : Nat) * ton)
    (carried : 0 ≤ carry) :
    (pulseGroup ton ts carry).1.foldl (· + ·) 0 = (m + 2 : Nat) * ton + carry - (pulseGroup ton ts carry).2 ∧
      0 ≤ (pulseGroup ton ts carry).2 ∧ (pulseGroup ton ts carry).2 < 2 / 5 := by
  rcases played_or_carried ((m + 2 : Nat) * ton - ts + carry) with long | short
  · rw [pulseGroup_played on light periods long]
    simp only [List.foldl_cons, List.foldl_append, foldl_add_silent, List.foldl_nil]
    exact ⟨by grind, Rat.le_refl, by grind⟩
  · rw [pulseGroup_carried on light periods short]
    simp only [List.foldl_cons, foldl_add_silent]
    exact ⟨by grind, by grind, short⟩

/-- A group has one pulse a period: the demand first, nothing between the first and the last. -/
theorem pulseGroup_shape (on : 0 < ton) (light : ton < ts) (periods : pulsePeriods ton ts = m + 2) :
    (pulseGroup ton ts carry).1.length = m + 2 ∧ (pulseGroup ton ts carry).1.head? = some ts ∧
      ∀ x ∈ (pulseGroup ton ts carry).1.tail.dropLast, x = 0 := by
  rcases played_or_carried ((m + 2 : Nat) * ton - ts + carry) with long | short
  · simp [pulseGroup_played on light periods long]
  · simp [pulseGroup_carried on light periods short]

/-- What two groups of `n` periods play, beyond the demand of `2 * n` periods: half of what went in less what is carried on. -/
theorem twoGroups_excess (n : Nat) (some : 0 < n) (ton c₀ c₁ c₂ : Rat) :
    (((n * ton + c₀ - c₁) + (n * ton + c₁ - c₂)) / (2 * n) - ton) * n = (c₀ - c₂) / 2 := by
  have positive : (n : Rat) ≠ 0 := Rat.ne_of_gt (Rat.natCast_pos.mpr some)
  grind

/-- Settles O21. -/
theorem pulseGroupsMeetTheDemand : Obligations.PulseGroupsMeetTheDemand := by
  intro ton ts carry on carried small
  refine ⟨pulseGroup_covered carry on, fun light => ?_⟩
  obtain ⟨m, periods, covers, least⟩ := pulsePeriods_spec on light
  obtain ⟨length, head, middle⟩ := pulseGroup_shape (carry := carry) on light periods
  obtain ⟨total, low, high⟩ := pulseGroup_total on light periods covers carried
  obtain ⟨next, nextLow, nextHigh⟩ := pulseGroup_total on light periods covers low
  refine ⟨m + 2, covers, least, length, head, fun long => ?_, fun short => ?_, middle, low, high, ?_⟩
  · rw [pulseGroup_played on light periods long, ← List.cons_append]
    exact ⟨List.getLast?_concat, rfl⟩
  · rw [pulseGroup_carried on light periods short]
    exact ⟨rfl, fun x mem => List.eq_of_mem_replicate mem⟩
  · dsimp only
    rw [total, next, twoGroups_excess (m + 2) (by omega)]
    exact ⟨by grind, by grind, by grind⟩

end Sys2Proof.Machine
end

section
/-!
PROOFS. The geometry of the discs (R55, R58, R60, R66): the position of an LBA, and the way back.
-/
set_option Elab.async false
namespace Sys2Proof.Machine

variable (d : DiscInfo)

theorem DiscInfo.dataPerBlock_pos : 0 < d.dataPerBlock := by
  unfold DiscInfo.dataPerBlock
  split <;> decide

theorem DiscInfo.physBlock_lt {layer n : Nat} (inside : n < d.blocksPerLayer) : d.physBlock layer n < d.blocksPerLayer := by
  unfold DiscInfo.physBlock
  split <;> omega

/-- Reversing the blocks of a layer twice gives them back. -/
theorem DiscInfo.physBlock_physBlock {layer n : Nat} (inside : n < d.blocksPerLayer) :
    d.physBlock layer (d.physBlock layer n) = n := by
  unfold DiscInfo.physBlock
  split <;> omega

/-- The digits of a position: of the LBA's block, the side, the layer and the logical block; of the LBA, the data sector. -/
theorem DiscInfo.position_eq (lba : Nat) :
    d.position lba = ⟨d.blockOf lba / d.blocksPerLayer / d.layers, d.blockOf lba / d.blocksPerLayer % d.layers,
      d.blockOf lba % d.blocksPerLayer, lba % d.dataPerBlock,
      d.physBlock (d.blockOf lba / d.blocksPerLayer % d.layers) (d.blockOf lba % d.blocksPerLayer)⟩ := by
  have side : d.lbasPerSide = d.dataPerBlock * d.blocksPerLayer * d.layers := by
    unfold DiscInfo.lbasPerSide DiscInfo.lbasPerLayer
    rw [Nat.mul_comm, Nat.mul_comm d.blocksPerLayer]
  have layer : d.lbasPerLayer = d.dataPerBlock * d.blocksPerLayer := Nat.mul_comm ..
  simp only [DiscInfo.position, DiscInfo.blockOf, side, layer, Nat.mod_mul_right_div_self, Nat.mod_mul_right_mod, Nat.div_div_eq_div_mul]

/-- The parts of an LBA's position lie within the disc. -/
theorem DiscInfo.position_within {lba : Nat} (inside : lba < d.capacity) :
    (d.position lba).side < 2 ∧ (d.position lba).layer < d.layers ∧ (d.position lba).n < d.blocksPerLayer ∧
      (d.position lba).j < d.dataPerBlock := by
  have size : d.capacity = 2 * d.layers * d.blocksPerLayer * d.dataPerBlock := by
    unfold DiscInfo.capacity DiscInfo.lbasPerSide DiscInfo.lbasPerLayer
    simp only [Nat.mul_assoc]
  rw [size] at inside
  have blocks : 0 < d.blocksPerLayer := Nat.pos_of_ne_zero fun none => by simp [none] at inside
  have layers : 0 < d.layers := Nat.pos_of_ne_zero fun none => by simp [none] at inside
  rw [DiscInfo.position_eq]
  refine ⟨?_, Nat.mod_lt _ layers, Nat.mod_lt _ blocks, Nat.mod_lt _ d.dataPerBlock_pos⟩
  exact Nat.div_lt_of_lt_mul (Nat.mul_comm .. ▸ Nat.div_lt_of_lt_mul (Nat.mul_comm .. ▸ Nat.div_lt_of_lt_mul (Nat.mul_comm .. ▸ inside)))

/-- Side, layer and logical block of an LBA's position give its block back. -/
theorem DiscInfo.position_block (lba : Nat) :
    ((d.position lba).side * d.layers + (d.position lba).layer) * d.blocksPerLayer + (d.position lba).n = d.blockOf lba := by
  rw [DiscInfo.position_eq, Nat.div_add_mod', Nat.div_add_mod']

/-- The spiral and the index of a data sector give its block and sector back. -/
theorem DiscInfo.blockAt_sectorIndex {b j : Nat} (block : b < d.blocksPerLayer) (sector : j < d.dataPerBlock) :
    d.blockAt (d.sectorIndex b j).1 (d.sectorIndex b j).2 = some (b, j) := by
  unfold DiscInfo.dataPerBlock at sector
  cases format : d.s4 with
  | true =>
    simp only [format, if_true] at sector
    have there : (36 * b + j) / 36 = b := by omega
    simp only [DiscInfo.blockAt, DiscInfo.sectorIndex, format, if_true, there, block]
    congr 2
    omega
  | false =>
    simp only [format, Bool.false_eq_true, if_false] at sector
    have there : (18 * (b + j % 4) + j / 4) / 18 = b + j % 4 := by omega
    have reached : ¬ b + j % 4 < j % 4 := by omega
    simp only [DiscInfo.blockAt, DiscInfo.sectorIndex, format, Bool.false_eq_true, if_false, there, reached, Nat.add_sub_cancel, block, if_true]
    congr 2
    omega

/-- A physical sector address carries its four parts. -/
theorem psaOf_parts {side layer spiral index : Nat} (hside : side < 2) (hlayer : layer < 8) (hspiral : spiral < 4) (hindex : index < 2 ^ 26) :
    psaSide (psaOf side layer spiral index) = side ∧ psaLayer (psaOf side layer spiral index) = layer ∧
      psaSpiral (psaOf side layer spiral index) = spiral ∧ psaIndex (psaOf side layer spiral index) = index := by
  simp only [psaSide, psaLayer, psaSpiral, psaIndex, psaOf, bitsOf, Nat.shiftRight_eq_div_pow]
  omega

/-- Settles O22. -/
theorem lbasAndPositionsMatch : Obligations.LbasAndPositionsMatch := by
  intro d lba inside
  obtain ⟨hside, hlayer, hn, hj⟩ := d.position_within inside
  have hb : (d.position lba).b = d.physBlock (d.position lba).layer (d.position lba).n := rfl
  have hblock : (d.position lba).b < d.blocksPerLayer := hb ▸ d.physBlock_lt hn
  refine ⟨hside, hlayer, hn, hblock, hj, ?_, ?_, d.blockAt_sectorIndex hblock hj, fun hindex => ?_⟩
  · rw [DiscInfo.logicalBlock, hb, d.physBlock_physBlock hn, d.position_block]
  · rw [DiscInfo.position_eq]
    exact Nat.div_add_mod' ..
  · have layers : (d.position lba).layer < 8 := by
      unfold DiscInfo.layers at hlayer
      split at hlayer <;> omega
    have spiral : (d.sectorIndex (d.position lba).b (d.position lba).j).1 < 4 := by
      unfold DiscInfo.sectorIndex
      split <;> dsimp only <;> omega
    exact psaOf_parts hside layers spiral hindex

end Sys2Proof.Machine
end

section
/-!
PROOFS. The counter mode of the seal (R351): a block of the cipher has 16 bytes, so combining twice by exclusive or with the same blocks gives
the user field back.
-/
set_option Elab.async false
namespace Sys2Proof.Machine

/-! ## Lengths of the cipher's blocks -/

theorem length_xorBytes (a b : List Nat) : (xorBytes a b).length = min a.length b.length := List.length_zipWith

theorem length_shiftRows (s : List Nat) : (shiftRows s).length = 16 := by simp [shiftRows, stMk]

theorem length_mixWith (a b c e : Nat) (s : List Nat) : (mixWith a b c e s).length = 16 := by simp [mixWith, stMk]

/-- Every list that is cut whole from a longer one has the cut's length. -/
theorem length_of_mem_chunks {n k : Nat} {bs c : List Nat} (enough : n * k ≤ bs.length) (mem : c ∈ chunks n k bs) : c.length = n := by
  induction k generalizing bs with
  | zero => simp [chunks] at mem
  | succ k ih =>
    rw [Nat.mul_succ] at enough
    simp only [chunks, List.mem_cons] at mem
    rcases mem with rfl | mem
    · simp; omega
    · exact ih (by simp; omega) mem

theorem length_chunks (n k : Nat) (bs : List Nat) : (chunks n k bs).length = k := by
  induction k generalizing bs with
  | zero => rfl
  | succ k ih => simp [chunks, ih]

/-- The lists cut from one are the list. -/
theorem flatten_chunks {n k : Nat} {bs : List Nat} (whole : bs.length = n * k) : (chunks n k bs).flatten = bs := by
  induction k generalizing bs with
  | zero => simp_all [chunks]
  | succ k ih => rw [chunks, List.flatten_cons, ih (by simp [whole, Nat.mul_succ]), List.take_append_drop]

/-- Cutting lists of one length out of their sequence gives them back. -/
theorem chunks_flatten {n : Nat} {cs : List (List Nat)} (even : ∀ c ∈ cs, c.length = n) : chunks n cs.length cs.flatten = cs := by
  induction cs with
  | nil => rfl
  | cons c cs ih =>
    have first := even c List.mem_cons_self
    rw [List.length_cons, chunks, List.flatten_cons, List.take_left' first, List.drop_left' first,
      ih fun x mem => even x (List.mem_cons_of_mem _ mem)]

/-- The rounds after the first give 16 bytes, where every round key has 16. -/
theorem length_encRounds {ks : List (List Nat)} {s : List Nat} (keys : ∀ k ∈ ks, k.length = 16) (state : s.length = 16) :
    (encRounds ks s).length = 16 := by
  induction ks generalizing s with
  | nil => exact state
  | cons k ks ih =>
    have hk := keys k List.mem_cons_self
    cases ks with
    | nil => simp [encRounds, length_xorBytes, length_shiftRows, hk]
    | cons k' ks =>
      exact ih (fun x mem => keys x (List.mem_cons_of_mem _ mem)) (by rw [length_xorBytes, length_mixWith, hk]; rfl)

/-! ## The key schedule -/

theorem length_nextKeyWord {nk i : Nat} {ws : List (List Nat)} (words : ∀ w ∈ ws, w.length = 4) (some : 0 < nk) (enough : nk ≤ ws.length) :
    (nextKeyWord nk i ws).length = 4 := by
  have back : (ws.getD (nk - 1) []).length = 4 := by
    have inside : nk - 1 < ws.length := by omega
    rw [List.getD_eq_getElem?_getD, List.getElem?_eq_getElem inside]
    exact words _ (List.getElem_mem inside)
  obtain ⟨prev, before, rfl⟩ := List.exists_cons_of_length_pos (show 0 < ws.length by omega)
  have four := words prev List.mem_cons_self
  unfold nextKeyWord
  dsimp only [List.headD_cons]
  rw [length_xorBytes, back]
  split
  · simp [length_xorBytes, four]
  · split <;> simp [four]

theorem keyWords_spec {nk n i : Nat} {ws : List (List Nat)} (words : ∀ w ∈ ws, w.length = 4) (some : 0 < nk) (enough : nk ≤ ws.length) :
    (∀ w ∈ keyWords nk n i ws, w.length = 4) ∧ (keyWords nk n i ws).length = ws.length + n := by
  induction n generalizing i ws with
  | zero => exact ⟨words, rfl⟩
  | succ n ih =>
    have next := length_nextKeyWord (i := i) words some enough
    obtain ⟨four, count⟩ := ih (i := i + 1) (ws := nextKeyWord nk i ws :: ws) (by simpa [next] using words) (Nat.le_succ_of_le enough)
    exact ⟨four, by rw [keyWords, count, List.length_cons]; omega⟩

theorem length_flatten_of_even {n : Nat} {cs : List (List Nat)} (even : ∀ c ∈ cs, c.length = n) : cs.flatten.length = n * cs.length := by
  rw [List.length_flatten, List.map_eq_replicate_iff.mpr even, List.sum_replicate_nat, Nat.mul_comm]

/-- A round key has 16 bytes. -/
theorem length_of_mem_keySchedule {key k : List Nat} (size : key.length = 16 ∨ key.length = 24 ∨ key.length = 32)
    (mem : k ∈ keySchedule key) : k.length = 16 := by
  have whole : key.length = 4 * (key.length / 4) := by omega
  unfold keySchedule at mem
  dsimp only at mem
  generalize key.length / 4 = nk at mem whole
  obtain ⟨four, count⟩ := keyWords_spec (nk := nk) (n := 4 * (nk + 6 + 1) - nk) (i := nk) (ws := (chunks 4 nk key).reverse)
    (fun w mem => length_of_mem_chunks (Nat.le_of_eq whole.symm) (List.mem_reverse.mp mem)) (by omega) (by simp [length_chunks])
  refine length_of_mem_chunks ?_ mem
  rw [length_flatten_of_even fun w mem => four w (List.mem_reverse.mp mem), List.length_reverse, count, List.length_reverse, length_chunks]
  omega

/-- A block encrypted has 16 bytes. -/
theorem length_aesEnc {key : List Nat} (size : key.length = 16 ∨ key.length = 24 ∨ key.length = 32) (block : List Nat) :
    (aesEnc key block).length = 16 := by
  have keys : ∀ k ∈ keySchedule key, k.length = 16 := fun k => length_of_mem_keySchedule size
  have some : (keySchedule key).length = key.length / 4 + 6 + 1 := length_chunks ..
  unfold aesEnc
  split
  next none => simp [none] at some
  next k0 ks split =>
    rw [split] at keys
    refine length_encRounds (fun k mem => keys k (List.mem_cons_of_mem _ mem)) ?_
    rw [length_xorBytes, keys k0 List.mem_cons_self]
    simp [padTo]
    omega

/-! ## Counter mode -/

/-- Combining twice with bytes as many gives the bytes back. -/
theorem xorBytes_xorBytes {a b : List Nat} (even : a.length = b.length) : xorBytes (xorBytes a b) b = a := by
  induction a generalizing b with
  | nil => rfl
  | cons x a ih =>
    obtain ⟨y, b, rfl⟩ := List.exists_cons_of_length_pos (show 0 < b.length by rw [← even]; simp)
    simp only [xorBytes, List.zipWith_cons_cons, Nat.xor_assoc, Nat.xor_self, Nat.xor_zero] at ih ⊢
    rw [ih (Nat.succ.inj even)]

/-- The blocks of counter mode: each block combined with the pad of its number. -/
def padBlocks (pad : Nat → List Nat) (is : List Nat) (cs : List (List Nat)) : List (List Nat) :=
  (is.zip cs).map (fun e => xorBytes e.2 (pad e.1))

theorem padBlocks_even {n : Nat} {pad : Nat → List Nat} {is : List Nat} {cs : List (List Nat)} (pads : ∀ i, (pad i).length = n)
    (even : ∀ c ∈ cs, c.length = n) : ∀ c ∈ padBlocks pad is cs, c.length = n := by
  intro c mem
  obtain ⟨⟨i, x⟩, at_, rfl⟩ := List.mem_map.mp mem
  rw [length_xorBytes, even x (List.of_mem_zip at_).2, pads, Nat.min_self]

theorem padBlocks_padBlocks {n : Nat} {pad : Nat → List Nat} {is : List Nat} {cs : List (List Nat)} (pads : ∀ i, (pad i).length = n)
    (even : ∀ c ∈ cs, c.length = n) (many : is.length = cs.length) : padBlocks pad is (padBlocks pad is cs) = cs := by
  induction cs generalizing is with
  | nil => simp [padBlocks]
  | cons c cs ih =>
    obtain ⟨i, is, rfl⟩ := List.exists_cons_of_length_pos (show 0 < is.length by rw [many]; simp)
    have rest := ih (is := is) (fun x mem => even x (List.mem_cons_of_mem _ mem)) (Nat.succ.inj many)
    simp only [padBlocks, List.zip_cons_cons, List.map_cons] at rest ⊢
    rw [rest, xorBytes_xorBytes ((even c List.mem_cons_self).trans (pads i).symm)]

theorem sealCtr_eq (key : List Nat) (discId psa : Nat) (user : List Nat) :
    sealCtr key discId psa user =
      (padBlocks (fun i => aesEnc key (sealCounter discId psa i)) (List.range 256) (chunks 16 256 user)).flatten := rfl

/-- Settles O23. -/
theorem unsealingUndoesSealing : Obligations.UnsealingUndoesSealing := by
  intro key discId psa user size sector
  have pads : ∀ i, (aesEnc key (sealCounter discId psa i)).length = 16 := fun i => length_aesEnc size _
  have even : ∀ c ∈ chunks 16 256 user, c.length = 16 := fun c => length_of_mem_chunks (Nat.le_of_eq sector.symm)
  have sealedEven := padBlocks_even (is := List.range 256) pads even
  have count : (padBlocks (fun i => aesEnc key (sealCounter discId psa i)) (List.range 256) (chunks 16 256 user)).length = 256 := by
    simp [padBlocks, length_chunks]
  have cut := chunks_flatten sealedEven
  rw [count] at cut
  rw [sealCtr_eq, sealCtr_eq, cut, padBlocks_padBlocks pads even (by simp [length_chunks]), flatten_chunks sector]
  exact ⟨by rw [length_flatten_of_even sealedEven, count], rfl⟩

end Sys2Proof.Machine
end

section
/-!
PROOFS. The full device resets (R520, R522, R523, R538): what stands through them.
-/
set_option Elab.async false
namespace Sys2Proof.Machine

/-- What a full device reset keeps of a state: the role, the free values, what was sent, the queue and the firmware store. -/
structure SameStore (s told : State) : Prop where
  root : told.root = s.root
  free : told.free = s.free
  sent : told.sent = s.sent
  pending : told.pending = s.pending
  fw : told.fw = s.fw

/-- A full device reset of a state, or of one that shares its store. -/
theorem FullyReset.of_fullReset {cause : Nat} {s told : State} (same : SameStore s told) (known : cause < 2 ^ F.SYS_RESET_STATUS_CAUSE.width) :
    FullyReset cause s (told.fullReset cause) where
  why := (State.fld_put_of_id _ _ rfl).trans (State.fld_put_lt _ known)
  fields _ := fullReset_fld told cause
  rest := by
    obtain ⟨root, free, sent, pending, fw⟩ := same
    unfold State.fullReset
    dsimp only
    rw [root, free, sent, pending, fw]
    rfl

/-- IN_RANGE may be told after the reset. -/
theorem FullyReset.putRails {cause : Nat} {s t : State} (h : FullyReset cause s t) (rails : Nat) :
    FullyReset cause s (t.put F.SYS_RAIL_STATUS_IN_RANGE rails) := by
  obtain ⟨why, fields, rest⟩ := h
  exact ⟨(State.fld_put_of_id _ _ rfl).trans why, fun g notCause notRails => (State.fld_put_ne _ _ notRails).trans (fields g notCause notRails), rest⟩

theorem testBit_withBit_off (v i w : Nat) : (withBit v i false % 2 ^ w).testBit i = false := by
  simp [withBit, testBit_sub_and]

/-- Settles O24. -/
theorem fullResetsBringEverythingBack : Obligations.FullResetsBringEverythingBack := by
  intro s
  have same : SameStore s s := ⟨rfl, rfl, rfl, rfl, rfl⟩
  refine ⟨⟨_, rfl, (FullyReset.of_fullReset same (by decide)).putRails 0, State.fld_put_same ..⟩,
    fun rail => ⟨_, rfl, (FullyReset.of_fullReset same (by decide)).putRails _, ?_⟩,
    ⟨_, rfl, .of_fullReset same (by decide), State.fld_put_same ..⟩, ⟨_, rfl, .of_fullReset same (by decide)⟩,
    fun tj hot => ?_, fun e rest below inbox reset fromParent kind => ?_⟩
  · rw [State.fld_put_same]
    exact testBit_withBit_off ..
  · have answered : exec (.thermalTrip tj) s = .next ((s.put F.SYS_TEMP_TJ tj.toNat).fullReset causeThermal) :=
      if_pos (by rw [quarterDegrees_eq_toInt]; exact hot)
    exact .of_eq answered (.of_fullReset ⟨rfl, rfl, rfl, rfl, rfl⟩ (by decide))
  · have sought : isType Pkt.reset e.packet = true := by simp [isType, reset]
    have head : s.takeFirst (isType Pkt.reset) = some (e, { s with mbl := { s.mbl with inbox := rest } }) := by
      simp [State.takeFirst, inbox, sought]
    have answered : exec .resetPacket s = .next (State.fullReset { s with mbl := { s.mbl with inbox := rest } } causeTree) := by
      change execResetPacket s = _
      simp only [execResetPacket, below, head, fromParent, kind, Bool.false_eq_true, ne_eq, not_true_eq_false, if_false, if_true]
    exact .of_eq answered (.of_fullReset ⟨rfl, rfl, rfl, rfl, rfl⟩ (by decide))

end Sys2Proof.Machine
end

section
/-!
PROOFS. The commands of the rails, the pace loop, PMBus and the boot (R512–R518, R524–R527).
-/
set_option Elab.async false
namespace Sys2Proof.Machine

/-! ## PMBus transactions -/

theorem State.pmbSend_eq (s : State) (op : PmbOp) :
    s.pmbSend op = { s with sent := s.sent ++ [.pmbus (s.fld F.SYS_PMB_CFG_ADDR) op.code op.data],
                            power := { s.power with pmb := s.power.pmb ++ [op] } } := by
  rw [State.pmbSend, State.emit_plain _ rfl]

@[simp] theorem State.fld_pmbSend (s : State) (op : PmbOp) (g : Fld) : (s.pmbSend op).fld g = s.fld g := by
  rw [State.pmbSend_eq]
  rfl

@[simp] theorem State.flag_pmbSend (s : State) (op : PmbOp) (g : Fld) : (s.pmbSend op).flag g = s.flag g := by
  rw [State.pmbSend_eq]
  rfl

@[simp] theorem State.fw_pmbSend (s : State) (op : PmbOp) : (s.pmbSend op).fw = s.fw := by
  rw [State.pmbSend_eq]

@[simp] theorem State.power_pmbSend (s : State) (op : PmbOp) :
    (s.pmbSend op).power = { s.power with pmb := s.power.pmb ++ [op] } := by
  rw [State.pmbSend_eq]

theorem SameFields.pmbSend {but : List Fld} {s t : State} (h : SameFields but s t) (op : PmbOp) : SameFields but s (t.pmbSend op) :=
  fun g other => (State.fld_pmbSend ..).trans (h g other)

/-! ## The rows -/

theorem thermalWarn_raises {s : State} {tj : BitVec 12} (hot : 4 * ((min 140 (s.fld F.SYS_THERM_WARN) : Nat) : Int) < tj.toInt) :
    Answers (.thermalWarn tj) s (fun t => t.fld F.SYS_TEMP_TJ = tj.toNat ∧ t.flag F.SYS_PACE_STATUS_THERM_WARN = true ∧
      SameFields [F.SYS_TEMP_TJ, F.SYS_PACE_STATUS_THERM_WARN] s t) := by
  have above : ((4 * min 140 ((s.put F.SYS_TEMP_TJ tj.toNat).fld F.SYS_THERM_WARN) : Nat) : Int) < quarterDegrees tj := by
    rw [State.fld_put_of_id _ _ rfl, quarterDegrees_eq_toInt]
    exact_mod_cast hot
  refine .of_eq (if_pos above) ⟨?_, ?_, ((SameFields.refl _ s).put _).raise _ _ _⟩
  · rw [State.fld_raise_of_id _ _ _ _ rfl, State.fld_put_lt s tj.isLt]
  · simp (disch := exact Shown.by_rfl rfl)

/-- A request of the pace loop tells its voltage; VOUT_MODE is known. -/
theorem State.requestVolt_power {s : State} {n : Nat} (known : s.power.exponent = some n) (v : Nat) :
    (s.requestVolt v).power.volt = v ∧ (s.requestVolt v).power.sinceUp = s.power.sinceUp := by
  simp [State.requestVolt, known]

theorem State.fld_requestVolt (s : State) (v : Nat) {g : Fld} (h : g.Apart F.SYS_VCORE_STATUS_REQ) : (s.requestVolt v).fld g = s.fld g := by
  unfold State.requestVolt
  split
  · rfl
  · rw [State.fld_pmbSend, State.fld_put_apart _ _ h]
    rfl

/-- A window below the target raises the request by 5 mV, where the last raise is two windows back and VMAX is not reached (R514). -/
theorem State.paceStep_up {s : State} {m : Nat} (low : m < s.fld F.SYS_PACE_TARGET) (since : 1 ≤ s.power.sinceUp)
    (above : s.vnom ≤ s.power.volt) (below : s.power.volt + 10 ≤ s.vmax) :
    s.paceStep m = State.requestVolt { s with power := { s.power with
      sinceUp := 0, above := if 103 * s.fld F.SYS_PACE_TARGET < 100 * m then s.power.above + 1 else 0 } } (s.power.volt + 10) := by
  have due : 2 ≤ min 2 (s.power.sinceUp + 1) := by omega
  have never : ¬ 103 * s.fld F.SYS_PACE_TARGET < 100 * m := by omega
  have want : max s.vnom (min s.vmax (s.power.volt + 10)) = s.power.volt + 10 := by omega
  simp [State.paceStep, low, due, never, want]

theorem paceWindowEnd_up (s : State) (m : BitVec 16) (closed : s.flag F.SYS_PACE_STATUS_CLOSED = true)
    (noFault : s.flag F.SYS_PACE_STATUS_PMB_FAULT = false) (known : s.power.exponent.isSome = true)
    (low : m.toNat < s.fld F.SYS_PACE_TARGET) (since : 1 ≤ s.power.sinceUp) (above : s.vnom ≤ s.power.volt)
    (below : s.power.volt + 10 ≤ s.vmax) : Answers (.paceWindowEnd m) s (fun t =>
      t.fld F.SYS_PACE_MEASURED = m.toNat ∧ t.power.volt = s.power.volt + 10 ∧ t.power.sinceUp = 0) := by
  obtain ⟨n, known⟩ := Option.isSome_iff_exists.mp known
  let told := s.put F.SYS_PACE_MEASURED m.toNat
  have apart {g : Fld} (h : g.Apart F.SYS_PACE_MEASURED) : told.fld g = s.fld g := State.fld_put_apart s _ h
  have vnom : told.vnom = s.vnom := by rw [State.vnom, apart ⟨rfl⟩]; rfl
  have vmax : told.vmax = s.vmax := by rw [State.vmax, vnom, apart ⟨rfl⟩]; rfl
  have stepped : (told.paceStep m.toNat).fld F.SYS_PACE_MEASURED = m.toNat ∧
      (told.paceStep m.toNat).power.volt = s.power.volt + 10 ∧ (told.paceStep m.toNat).power.sinceUp = 0 := by
    have due : told.vnom ≤ told.power.volt ∧ told.power.volt + 10 ≤ told.vmax := by
      rw [vnom, vmax]
      exact ⟨above, below⟩
    rw [State.paceStep_up (s := told) (Nat.lt_of_lt_of_eq low (apart ⟨rfl⟩).symm) since due.1 due.2]
    refine ⟨?_, State.requestVolt_power (n := n) ?_ _⟩
    case refine_2 => exact known
    rw [State.fld_requestVolt _ _ ⟨rfl⟩]
    exact State.fld_put_lt s m.isLt
  generalize reached : told.paceStep m.toNat = stage at stepped
  obtain ⟨measured, volt, sinceUp⟩ := stepped
  have answered : exec (.paceWindowEnd m) s = .next (if stage.fld F.SYS_PACE_TARGET ≤ m.toNat ∧
      stage.vmax ≤ stage.power.volt + 2 * stage.fld F.SYS_PMB_CFG_MARGIN_MV then
      stage.raise F.SYS_PACE_STATUS_MARGIN_LOW 0x0F13 srcSystem ([0, 0] ++ leBytes 2 (stage.fld F.SYS_VCORE_STATUS_REQ)) else stage) := by
    have closed' : told.paceClosed = true := (State.flag_put_apart s _ ⟨rfl⟩).trans closed
    have noFault' : told.flag F.SYS_PACE_STATUS_PMB_FAULT = false := (State.flag_put_apart s _ ⟨rfl⟩).trans noFault
    change execPaceWindowEnd m s = _
    simp only [execPaceWindowEnd, closed', noFault', reached, told, Bool.true_eq_false, Bool.false_eq_true, if_false]
    split <;> rfl
  refine .of_eq answered ?_
  split
  · exact ⟨(State.fld_raise_apart _ _ _ _ ⟨rfl⟩).trans measured, by simp [volt, sinceUp]⟩
  · exact ⟨measured, volt, sinceUp⟩

/-! ## The boot -/

/-- What the boot leaves that a release is told by. -/
structure Booted (s t : State) : Prop where
  booted : t.fw.booted = true
  held : t.fw.resetHeld = s.fw.resetHeld
  now : t.now = s.now
  ready : t.flag (F.HIF_FUNC_STATUS_READY 0) = true
  flash : t.fw.flash = s.fw.flash

theorem State.loadImage_fw (s : State) (im : FwImage) : (s.loadImage im).fw = { s.fw with
    code := Table.put none s.fw.code 0 (some im), sec5 := (im.sectionOf 4).digest, strategies := im.strategies, booted := true } := by
  unfold State.loadImage
  dsimp only
  refine (State.read_forEach State.fw (by intros; rfl) _ _).trans ?_
  rw [State.fw_pmbSend, State.fw_pmbSend, State.put_fw,
    (State.showVersions_frame (.refl (allBut [.fw]) _) (within_of (by decide))) .fw rfl, State.put_fw]
  exact State.read_forEach State.fw (by intros; rfl) _ _

theorem State.bootComplete_booted (s : State) (im : FwImage) (fallback : Bool) : Booted s (s.bootComplete im fallback) := by
  have fw : (s.bootComplete im fallback).fw = { s.fw with
      code := Table.put none s.fw.code 0 (some im), sec5 := (im.sectionOf 4).digest, strategies := im.strategies, booted := true } := by
    rw [← State.loadImage_fw]
    unfold State.bootComplete
    dsimp only
    rw [State.post_fw]
    refine (State.read_forEach State.fw (by intros; rfl) _ _).trans ?_
    rw [State.put_fw, State.setFlag_fw, State.put_fw]
  refine ⟨by rw [fw], by rw [fw], (State.bootComplete_frame (.refl (allBut [.now]) s) im fallback (within_of (by decide))) .now rfl, ?_, by rw [fw]⟩
  unfold State.bootComplete
  dsimp only
  rw [State.flag_post]
  simp only [State.forEach, List.range, List.range.loop, List.foldl_cons, List.foldl_nil]
  rw [State.flag_put_ne _ _ (by decide), State.flag_put_ne _ _ (by decide), State.flag_put_ne _ _ (by decide), State.flag_put_one _ (by decide)]

theorem State.enterRecovery_booted (s : State) (errA errB : Nat) : Booted s (s.enterRecovery errA errB) := by
  unfold State.enterRecovery
  refine ⟨by simp, by simp, by simp, ?_, by simp⟩
  rw [State.flag_post, State.flag_put_one _ (by decide)]

theorem resetRelease_boots (s : State) (reset : s.fw.booted = false) : Answers .resetRelease s (fun t => t.fw.booted = true ∧
    t.fw.resetHeld = [] ∧ t.now = 0 ∧ t.flag (F.HIF_FUNC_STATUS_READY 0) = true ∧ t.fw.flash = s.fw.flash) := by
  obtain ⟨t, answered, u, released, ⟨booted, held, now, ready, flash⟩⟩ : ∃ t, exec .resetRelease s = .next t ∧
      ∃ u : State, (u.now = 0 ∧ u.fw = { s.fw with resetHeld := [] }) ∧ Booted u t := by
    change ∃ t, execResetRelease s = .next t ∧ _
    unfold execResetRelease
    rw [if_neg (by simp [reset])]
    extract_lets risen fw released pick given slot told
    have kept : given.now = 0 ∧ given.fw = { s.fw with resetHeld := [] } := by
      unfold given
      split <;> exact ⟨rfl, rfl⟩
    have kept : told.now = 0 ∧ told.fw = { s.fw with resetHeld := [] } := kept
    split
    · exact ⟨_, rfl, told, kept, State.bootComplete_booted ..⟩
    · exact ⟨_, rfl, told, kept, State.bootComplete_booted ..⟩
    · refine ⟨_, rfl, told, kept, ?_⟩
      split <;> exact State.enterRecovery_booted ..
  obtain ⟨zero, fw⟩ := released
  refine .of_eq answered ⟨booted, ?_, now.trans zero, ready, ?_⟩
  · rw [held, fw]
  · rw [flash, fw]

/-- The answer to a command that sets the voltage says nothing. -/
theorem State.pmbDone_voltage {s : State} {op : PmbOp} (code : op.code = 0x21) (data : Nat) : s.pmbDone op data = s := by
  unfold State.pmbDone
  rw [code, if_neg (by decide), if_neg (by decide), if_neg (by decide)]

/-- Settles O25. -/
theorem powerCommandsComplete : Obligations.PowerCommandsComplete := by
  intro s
  refine ⟨resetRelease_boots s, fun _ => thermalWarn_raises, paceWindowEnd_up s, fun closed low high => ?_, fun boosting => ?_,
    fun op rest code data queue same known => ?_, fun v closed => ?_, fun v n closed known => ?_, fun v closed early => ?_⟩
  · refine .of_eq (if_pos ⟨closed, low, high⟩) ⟨?_, (SameFields.refl _ s).raise _ _ _⟩
    simp (disch := exact Shown.by_rfl rfl)
  · refine .of_eq (if_pos boosting) ⟨?_, State.fld_put_lt _ ?_, ((SameFields.refl _ s).put _).put _⟩
    · simp (disch := exact Shown.by_rfl rfl)
    · change _ < 65536
      omega
  · subst known
    have code : op.code = 0x21 := same
    refine .of_eq ?_ rfl
    change execPmbusTransactionDone 0x21#8 true data s = _
    simp [execPmbusTransactionDone, queue, code, State.pmbDone_voltage code]
  · refine .of_eq (if_pos closed) ⟨?_, ?_, (((SameFields.refl _ s).emit_plain rfl).raise _ _ _).pmbSend _⟩
    · exact (State.flag_pmbSend ..).trans (State.flag_raise_same _ _ _ _ ⟨rfl⟩)
    · refine (congrArg Power.pmb (State.power_pmbSend ..)).trans ?_
      simp
  · refine .of_eq (if_pos closed) ?_
    simp only [State.pmbRead, State.pmbDone, State.emit_power, known]
    exact ⟨State.fld_put_same .., ((SameFields.refl _ s).emit_plain rfl).put _⟩
  · refine ⟨{ s.put F.SYS_AGE_V_LAST v.toNat with power := { s.power with days := s.power.days + 1 } }, ?_, State.fld_put_lt s v.isLt, rfl,
      ((SameFields.refl _ s).put _).of_regs rfl⟩
    change execAgeRecord v s = _
    simp [execAgeRecord, show s.paceClosed = true from closed, early]

end Sys2Proof.Machine
end

section
/-!
PROOFS. The commands of the PCI Express link and of the functions' power states (R408, R415, R416, R420).
-/
set_option Elab.async false
namespace Sys2Proof.Machine

/-- Rate, width and PM state of the link, told in turn. -/
theorem linkStatus_spec (s : State) (rate : Fin 8) (width : Fin 32) :
    let t := ((s.put F.HIF_LINK_STATUS_RATE rate).put F.HIF_LINK_STATUS_WIDTH width).put F.HIF_LINK_STATUS_PM 0
    t.fld F.HIF_LINK_STATUS_RATE = rate ∧ t.fld F.HIF_LINK_STATUS_WIDTH = width ∧ t.fld F.HIF_LINK_STATUS_PM = 0 ∧
      SameFields [F.HIF_LINK_STATUS_RATE, F.HIF_LINK_STATUS_WIDTH, F.HIF_LINK_STATUS_PM] s t := by
  refine ⟨?_, ?_, State.fld_put_fits _ ⟨rfl⟩, (((SameFields.refl _ s).put _).put _).put _⟩
  · rw [State.fld_put_apart _ _ ⟨rfl⟩, State.fld_put_apart _ _ ⟨rfl⟩, State.fld_put_lt s rate.isLt]
  · rw [State.fld_put_apart _ _ ⟨rfl⟩, State.fld_put_lt _ width.isLt]

/-- Settles O26. -/
theorem linkCommandsComplete : Obligations.LinkCommandsComplete := by
  intro s
  refine ⟨fun rate width root down supported => ?_, fun rate width root up supported => ?_, fun active idle enabled => ?_,
    fun shallow idle enabled => ?_, fun low enabled told late => ?_, fun low not12 enabled => ?_, fun f => ?_, fun f asleep => ?_⟩
  · exact .of_eq (if_pos ⟨root, down, supported⟩) ⟨rfl, linkStatus_spec { s with pcie := { s.pcie with linkUp := true } } rate width⟩
  · refine .of_eq (if_pos ⟨root, .inl up, supported⟩) ⟨by rw [State.post_pcie]; rfl, by rw [State.post_pcie]; rfl, ?_⟩
    obtain ⟨hrate, hwidth, hpm, same⟩ := linkStatus_spec { s with pcie := { s.pcie with linkUp := true, linkCause := 0 } } rate width
    exact ⟨(State.fld_post ..).trans hrate, (State.fld_post ..).trans hwidth, (State.fld_post ..).trans hpm, same.post _ _ _⟩
  · exact .of_eq (if_pos ⟨active, idle, enabled⟩) ⟨State.fld_put_fits _ ⟨rfl⟩, (SameFields.refl _ s).put _⟩
  · refine .of_eq (if_pos ⟨shallow, idle, enabled⟩) ⟨State.fld_put_fits s (f := F.HIF_LINK_STATUS_PM) (v := 2) ⟨rfl⟩, ?_, rfl, ((SameFields.refl _ s).put (f := F.HIF_LINK_STATUS_PM) 2).of_regs rfl⟩
    change s.sent ++ _ = _
    rw [State.fld_put_apart _ _ ⟨rfl⟩]
  · refine .of_eq (t := s.put F.HIF_LINK_STATUS_PM 4) ?_ ⟨State.fld_put_fits _ ⟨rfl⟩, (SameFields.refl _ s).put _⟩
    change execL1PmSubstateEntry true s = _
    simp [execL1PmSubstateEntry, low, enabled, told, late]
  · refine .of_eq (t := s.put F.HIF_LINK_STATUS_PM 3) ?_ ⟨State.fld_put_fits _ ⟨rfl⟩, (SameFields.refl _ s).put _⟩
    change execL1PmSubstateEntry true s = _
    simp [execL1PmSubstateEntry, low, not12, enabled]
  · let t := s.put (F.HIF_FUNC_STATUS_D_STATE f) 3
    have answered : exec (.pmD3hotEntry f) s = .next (if (List.range 4).all (fun g => t.fld (F.HIF_FUNC_STATUS_D_STATE g) == 3) then
        t.put F.HIF_LINK_STATUS_PM 2 else t) := by
      change execPmD3hotEntry f s = _
      unfold execPmD3hotEntry
      dsimp only
      split <;> rfl
    have off : t.fld (F.HIF_FUNC_STATUS_D_STATE f) = 3 := State.fld_put_fits _ ⟨rfl⟩
    have same : SameFields [F.HIF_FUNC_STATUS_D_STATE f, F.HIF_LINK_STATUS_PM] s t := (SameFields.refl _ s).put _
    refine .of_eq answered ?_
    split
    · exact ⟨(State.fld_put_apart _ _ ⟨rfl⟩).trans off, same.put _⟩
    · exact ⟨off, same⟩
  · refine .of_eq (if_neg asleep) ?_
    have kept := State.resumeFn_frame (State.wakeLink_frame (.refl (allBut [.fnRegs]) (s.put (F.HIF_FUNC_STATUS_D_STATE f) 0))
      (within_of (by decide))) f (within_of (by decide))
    exact (kept.fld .fnRegs _).trans (State.fld_put_fits _ ⟨rfl⟩)

end Sys2Proof.Machine
end

section
/-!
PROOFS. Function level resets, Hot Reset, DL_Down and wedging (R418, R420, R421, R427).
-/
set_option Elab.async false
namespace Sys2Proof.Machine

/-! ## The windows of a function -/

theorem State.window_of_pcie {s t : State} (same : t.pcie = s.pcie) (f w : Nat) : t.window f w = s.window f w := by
  unfold State.window
  rw [same]

theorem State.cfg_of_pcie {s t : State} (same : t.pcie = s.pcie) (f : Nat) (c : CfgField) : t.cfg f c = s.cfg f c := by
  unfold State.cfg
  rw [same]

theorem State.dropWindows_window (s : State) (f : Nat) (w : Fin 4) : (s.dropWindows f).window f w = {} := by
  refine Table.get_filter_out _ _ _ _ fun v => ?_
  have := w.isLt
  have : (4 * f + w.val) / 4 = f := by omega
  simp [this]

theorem State.dropWindows_pending (s : State) (f : Nat) : (s.dropWindows f).flag (F.HIF_WIN_COMMIT_PENDING f) = false := State.flag_put_zero _

/-! ## The status of a function in a reset -/

section
variable (s : State) (f g : Nat)

/-- Silencing a function and dropping its windows leaves the functions' status registers. -/
theorem State.silence_dropWindows_fld {h : Fld} (member : h.group = .fnRegs) : ((s.silence f).dropWindows f).fld h = s.fld h :=
  (State.dropWindows_frame (State.silence_frame (.refl (allBut [.fnRegs]) s) f (within_of (by decide))) f (within_of (by decide))).fld .fnRegs h
    (member := member)

/-- An FLR of one function leaves the status of the functions but for its own FLR_BUSY. -/
theorem State.initiateFlr_fld {h : Fld} (member : h.group = .fnRegs) (other : h.key ≠ (F.HIF_FUNC_STATUS_FLR_BUSY f).key) :
    (s.initiateFlr f).fld h = s.fld h := by
  unfold State.initiateFlr
  split
  · rfl
  · rw [State.silence_dropWindows_fld _ _ member, State.fld_put_ne _ _ other]

theorem State.initiateFlr_ready : (s.initiateFlr f).flag (F.HIF_FUNC_STATUS_READY g) = s.flag (F.HIF_FUNC_STATUS_READY g) := by
  unfold State.flag
  rw [State.initiateFlr_fld s f rfl (Fld.key_ne_of_id rfl)]

/-- A ready function is in its FLR after it is initiated. -/
theorem State.initiateFlr_busy (ready : s.flag (F.HIF_FUNC_STATUS_READY f) = true) :
    (s.initiateFlr f).flag (F.HIF_FUNC_STATUS_FLR_BUSY f) = true := by
  unfold State.initiateFlr
  split
  next already =>
    rcases already with busy | unready
    · exact busy
    · rw [ready] at unready
      cases unready
  next =>
    unfold State.flag
    rw [State.silence_dropWindows_fld _ _ rfl, State.fld_put_fits _ ⟨rfl⟩]
    rfl

/-- A function that is in its FLR stays so through the FLRs of all. -/
theorem State.initiateFlr_keeps_busy (busy : s.flag (F.HIF_FUNC_STATUS_FLR_BUSY g) = true) (ready : s.flag (F.HIF_FUNC_STATUS_READY g) = true) :
    (s.initiateFlr f).flag (F.HIF_FUNC_STATUS_FLR_BUSY g) = true := by
  by_cases same : (F.HIF_FUNC_STATUS_FLR_BUSY g).key = (F.HIF_FUNC_STATUS_FLR_BUSY f).key
  · obtain rfl : g = f := by
      change 1024 * g + 2 = 1024 * f + 2 at same
      omega
    exact State.initiateFlr_busy s g ready
  · unfold State.flag at *
    rw [State.initiateFlr_fld s f rfl same]
    exact busy

end

/-- The FLRs of all functions: each is in its FLR. -/
theorem State.initiateFlr_all {s : State} (xs : List Nat) (ready : ∀ g ∈ xs, s.flag (F.HIF_FUNC_STATUS_READY g) = true) :
    (∀ g, s.flag (F.HIF_FUNC_STATUS_READY g) = true → s.flag (F.HIF_FUNC_STATUS_FLR_BUSY g) = true →
      (s.forEach xs State.initiateFlr).flag (F.HIF_FUNC_STATUS_FLR_BUSY g) = true) ∧
    ∀ g ∈ xs, (s.forEach xs State.initiateFlr).flag (F.HIF_FUNC_STATUS_FLR_BUSY g) = true := by
  induction xs generalizing s with
  | nil => exact ⟨fun _ _ busy => busy, fun _ none => by cases none⟩
  | cons x xs ih =>
    obtain ⟨keeps, busy⟩ := ih (s := s.initiateFlr x) fun g mem => by rw [State.initiateFlr_ready]; exact ready g (List.mem_cons_of_mem _ mem)
    refine ⟨fun g r b => keeps g (by rwa [State.initiateFlr_ready]) (State.initiateFlr_keeps_busy s x g b r), fun g mem => ?_⟩
    rcases List.mem_cons.mp mem with rfl | later
    · have r := ready g List.mem_cons_self
      exact keeps g (by rwa [State.initiateFlr_ready]) (State.initiateFlr_busy s g r)
    · exact busy g later

theorem State.initiateFlr_functions {s : State} (ready : ∀ f : Fin 4, s.flag (F.HIF_FUNC_STATUS_READY f) = true) (f : Fin 4) :
    (s.forEach (List.range 4) State.initiateFlr).flag (F.HIF_FUNC_STATUS_FLR_BUSY f) = true :=
  (State.initiateFlr_all (List.range 4) fun g mem => ready ⟨g, List.mem_range.mp mem⟩).2 f (List.mem_range.mpr f.isLt)

/-! ## Step 5 of an FLR -/

theorem State.resetConfig_cfg (s : State) (f : Nat) {c : CfgField} (small : cfgCode c < 64) (taken : cfgCode c ≠ 4 ∧ cfgCode c ≠ 5) :
    (s.resetConfig f).cfg f c = cfgReset f (cfgCode c) := by
  have place : (64 * f + cfgCode c) / 64 = f ∧ (64 * f + cfgCode c) % 64 = cfgCode c := by omega
  obtain ⟨function, code⟩ := place
  refine (Table.get_filter_out _ _ _ _ fun v => ?_).trans ?_
  · simp [function, code, taken]
  · simp [cfgDefault, function, code]

theorem State.resetFunctionBlocks_cfg (s : State) (f g : Nat) (c : CfgField) : (s.resetFunctionBlocks f).cfg g c = s.cfg g c := by
  unfold State.resetFunctionBlocks
  dsimp only
  split <;> rfl

theorem State.resetFunctionBlocks_kept (s : State) (f : Nat) {h : Fld} (kept : keptByFlr (h.key % 1024) = true) :
    (s.resetFunctionBlocks f).fld h = s.fld h := by
  have same : ∀ t : State, t.regs = s.regs.filter (fun e => keptByFlr (e.1 % 1024) || fieldFunction e.1 != f) → t.fld h = s.fld h := by
    intro t regs
    unfold State.fld
    rw [regs, Table.get_filter]
    simp [kept]
  unfold State.resetFunctionBlocks
  dsimp only
  split <;> exact same _ rfl

/-- A field of a function's blocks is at its reset value. -/
theorem State.resetFunctionBlocks_reset (s : State) (f : Nat) {h : Fld} (reset : keptByFlr (h.key % 1024) = false) (own : fieldFunction h.key = f) :
    (s.resetFunctionBlocks f).fld h = h.reset := by
  have same : ∀ t : State, t.regs = s.regs.filter (fun e => keptByFlr (e.1 % 1024) || fieldFunction e.1 != f) → t.fld h = h.reset := by
    intro t regs
    unfold State.fld
    rw [regs, Table.get_filter_out]
    simp [reset, own]
  unfold State.resetFunctionBlocks
  dsimp only
  split <;> exact same _ rfl

/-- A wedged function: WEDGED, no window, no commit that waits, and the error told. -/
theorem State.wedge_spec {s : State} {f : Fin 4} (live : s.flag (F.HIF_FUNC_STATUS_WEDGED f) = false) :
    (s.wedge f).flag (F.HIF_FUNC_STATUS_WEDGED f) = true ∧ (s.wedge f).flag (F.HIF_WIN_COMMIT_PENDING f) = false ∧
      (∀ w : Fin 4, (s.wedge f).window f w = {}) ∧ .uncorrectable f.val ∈ (s.wedge f).sent := by
  unfold State.wedge
  rw [if_neg (by simp [live])]
  extract_lets silent told
  have wedged : silent.flag (F.HIF_FUNC_STATUS_WEDGED f) = true := by
    unfold silent State.flag
    rw [State.silence_dropWindows_fld _ _ rfl, State.fld_put_fits _ ⟨rfl⟩]
    rfl
  have spec : told.flag (F.HIF_FUNC_STATUS_WEDGED f) = true ∧ told.flag (F.HIF_WIN_COMMIT_PENDING f) = false ∧
      (∀ w : Fin 4, told.window f w = {}) ∧ .uncorrectable f.val ∈ told.sent := by
    refine ⟨?_, ?_, fun w => ?_, State.mem_sent_emit ..⟩
    · exact (State.flag_emit_apart _ _ ⟨rfl⟩).trans wedged
    · exact (State.flag_emit_apart _ _ ⟨rfl⟩).trans (State.dropWindows_pending ..)
    · obtain ⟨_, endpoint⟩ := State.emit_pcie (silent.logAer f aerInternal) (.uncorrectable f)
      unfold State.window told
      rw [endpoint]
      exact State.dropWindows_window ..
  split
  · exact spec
  · obtain ⟨on, pending, windows, sent⟩ := spec
    exact ⟨(State.flag_post ..).trans on, (State.flag_post ..).trans pending,
      fun w => (State.window_of_pcie (State.post_pcie ..) f w).trans (windows w), by simpa using sent⟩

/-- Settles O27. -/
theorem functionResetCommandsComplete : Obligations.FunctionResetCommandsComplete := by
  intro s
  refine ⟨fun f ready idle => ?_, fun f busy live => ?_, fun free => ?_, fun free => ?_, fun f up live => ?_⟩
  · refine .of_eq rfl ⟨State.initiateFlr_busy s f ready, ?_⟩
    have begun : s.initiateFlr f = ((s.put (F.HIF_FUNC_STATUS_FLR_BUSY f) 1).silence f).dropWindows f := by
      simp [State.initiateFlr, ready, idle]
    rw [begun]
    exact ⟨State.dropWindows_pending .., fun w => State.dropWindows_window ..⟩
  · have cfg : ∀ c, ((((((s.resetConfig f).put (F.HIF_FUNC_STATUS_FLR_BUSY f) 0).resetFunctionBlocks f).put
        (F.HIF_FUNC_STATUS_D_STATE f) 0).post 0x0A04 (srcHost f) [f.val]).cfg f c) = (s.resetConfig f).cfg f c := fun c =>
      (State.cfg_of_pcie (State.post_pcie ..) f c).trans (State.resetFunctionBlocks_cfg ..)
    refine .of_eq (t := (((((s.resetConfig f).put (F.HIF_FUNC_STATUS_FLR_BUSY f) 0).resetFunctionBlocks f).put
      (F.HIF_FUNC_STATUS_D_STATE f) 0).post 0x0A04 (srcHost f) [f])) ?_ ⟨?_, ?_, ?_, ?_, fun i => ?_⟩
    · have stays : (s.resetConfig f).flag (F.HIF_FUNC_STATUS_WEDGED f) = false := live
      change execFlrDone f s = _
      unfold execFlrDone
      rw [if_neg (by simp [busy])]
      dsimp only
      rw [if_neg]
      rw [State.flag_put_apart _ _ ⟨rfl⟩, stays]
      decide
    · refine State.flag_eq_false_of_fld _ ?_
      rw [State.fld_post, State.fld_put_apart _ _ ⟨rfl⟩, State.resetFunctionBlocks_kept, State.fld_put_fits _ ⟨rfl⟩]
      rw [Fld.key_mod]
      rfl
    · rw [State.fld_post, State.fld_put_fits _ ⟨rfl⟩]
    · exact (cfg _).trans (State.resetConfig_cfg s f (by decide) (by decide))
    · exact (cfg _).trans (State.resetConfig_cfg s f (by decide) (by decide))
    · refine State.flag_eq_false_of_fld _ ?_
      rw [State.fld_post, State.fld_put_apart _ _ ⟨rfl⟩, State.resetFunctionBlocks_reset]
      · rfl
      · rw [Fld.key_mod]
        rfl
      · have := i.isLt
        simp [fieldFunction, F.RING_SQ_CFG_ENABLE, Fld.key, registersPerFunction]
        omega
  · have down : ∀ f : Fin 4, (s.forEach (List.range 4) State.initiateFlr).flag (F.HIF_FUNC_STATUS_FLR_BUSY f) = true :=
      State.initiateFlr_functions fun f => (free f).1
    exact .of_eq rfl ⟨fun f => (State.flag_of_regs (by rfl) _).trans (down f), rfl⟩
  · have down : ∀ f : Fin 4, (s.forEach (List.range 4) State.initiateFlr).flag (F.HIF_FUNC_STATUS_FLR_BUSY f) = true :=
      State.initiateFlr_functions fun f => (free f).1
    exact .of_eq rfl ⟨fun f => (State.flag_of_regs (by rfl) _).trans (down f), rfl, rfl⟩
  · refine .of_eq (t := s.wedge f) ?_ (State.wedge_spec live)
    change execFunctionWedged f s = _
    simp [execFunctionWedged, up]

end Sys2Proof.Machine
end

section
/-!
PROOFS. The commands of the peer windows, of configuration space and of received errors (R335, R410–R412, R425–R428).
-/
set_option Elab.async false
namespace Sys2Proof.Machine

/-! ## The endpoint when work arrives -/

section
variable (s : State) (f : Nat)

@[simp] theorem State.cfg_wakeLink (c : CfgField) : s.wakeLink.cfg f c = s.cfg f c := by
  obtain ⟨_, endpoint⟩ := s.wakeLink_pcie
  unfold State.cfg
  rw [endpoint]

@[simp] theorem State.cfg_emit (o : Out) (c : CfgField) : (s.emit o).cfg f c = s.cfg f c := by
  obtain ⟨_, endpoint⟩ := s.emit_pcie o
  unfold State.cfg
  rw [endpoint]

@[simp] theorem State.bar2Open_wakeLink : s.wakeLink.bar2Open f = s.bar2Open f := by
  simp (disch := exact Shown.by_rfl rfl) [State.bar2Open, State.fnLive]

@[simp] theorem State.windowOf_wakeLink (offset len : Nat) : s.wakeLink.windowOf f offset len = s.windowOf f offset len := by
  obtain ⟨_, endpoint⟩ := s.wakeLink_pcie
  unfold State.windowOf State.window
  rw [endpoint]

theorem State.cacheEnabled_of_fld {s t : State} (same : t.fld F.CCH_CTRL_STATE = s.fld F.CCH_CTRL_STATE) : t.cacheEnabled = s.cacheEnabled := by
  unfold State.cacheEnabled
  rw [same]

@[simp] theorem State.cacheEnabled_wakeLink : s.wakeLink.cacheEnabled = s.cacheEnabled :=
  State.cacheEnabled_of_fld (State.fld_wakeLink_apart _ ⟨rfl⟩)

end

theorem State.peerEntry_of_cache {s t : State} (same : t.cache = s.cache) (mslot block : Nat) : t.peerEntry mslot block = s.peerEntry mslot block := by
  unfold State.peerEntry State.tagOf State.entry
  rw [same]

theorem State.peerSector_of_cache {s t : State} (same : t.cache = s.cache) (mslot block j : Nat) :
    t.peerSector mslot block j = s.peerSector mslot block j := by
  unfold State.peerSector State.peerEntry State.tagOf State.entry
  rw [same]

/-! ## Peer reads -/

/-- A memory without errors is read without a trace. -/
theorem State.readSector_clean {s : State} (noFlips : s.mem.flips = []) (noPoison : s.mem.poison = []) (e j requester : Nat) :
    s.readSector e j requester = s := by
  simp [State.readSector, State.memRead, State.forEach, noFlips, anyMarked, noPoison]

/-- A read within one sector has one piece. -/
theorem peerPieces_single {block o len fuel : Nat} (bytes : 0 < len) (inside : o % 4096 + len ≤ 4096) (low : o < 0x40000) :
    peerPieces block (fuel + 1) o len = [(block, o / 4096, o % 4096, len)] := by
  have first : o / 0x40000 = 0 := by omega
  have whole : min len (4096 - o % 4096) = len := by omega
  have same : o % 0x40000 = o := by omega
  have rest : ∀ (fuel o : Nat), peerPieces block fuel o 0 = [] := fun fuel o => by cases fuel <;> simp [peerPieces]
  simp [peerPieces, first, whole, same, Nat.ne_of_gt bytes, rest]

theorem peerPieces_ne_nil {block o len fuel : Nat} (bytes : 0 < len) : peerPieces block (fuel + 1) o len ≠ [] := by
  simp [peerPieces, Nat.ne_of_gt bytes]

/-- The bytes that a read within one sector is answered with. -/
def peerBytes (s : State) (e offset len : Nat) : List Nat :=
  ((padTo 4096 ((s.entry e).sector (offset % 0x40000 / 4096)).user).drop (offset % 4096)).take len

/-- A read within one confirmed sector is answered with its bytes. -/
theorem State.peerAnswer_confirmed {s : State} {p : PeerRead} {e : Nat} (enabled : s.cacheEnabled = true) (bytes : 0 < p.len)
    (inside : p.offset % 4096 + p.len ≤ 4096) (held : s.peerEntry p.mslot p.block = some e) (final : (s.entry e).spec = false)
    (confirmed : ((s.entry e).sector (p.offset % 0x40000 / 4096)).st = .confirmed)
    (sound : ((s.entry e).sector (p.offset % 0x40000 / 4096)).poison = false) (noFlips : s.mem.flips = []) (noPoison : s.mem.poison = []) :
    s.peerAnswer p = some (s.emit (.reply p.id .success (peerBytes s e p.offset p.len))) := by
  have first : p.offset % 0x40000 % 4096 = p.offset % 4096 := Nat.mod_mod_of_dvd _ (by decide)
  have pieces := peerPieces_single (block := p.block) (o := p.offset % 0x40000) (fuel := p.len / 4096 + 1) bytes (by rwa [first]) (by omega)
  have gives : s.peerSector p.mslot p.block (p.offset % 0x40000 / 4096) =
      .bytes (padTo 4096 ((s.entry e).sector (p.offset % 0x40000 / 4096)).user) false := by
    simp [State.peerSector, held, final, confirmed, sound]
  simp [State.peerAnswer, pieces, State.forEach, held, gives, State.readSector_clean noFlips noPoison, enabled, first, peerBytes]

/-- A read whose block no entry holds waits. -/
theorem State.peerAnswer_waits {s : State} {p : PeerRead} (enabled : s.cacheEnabled = true) (bytes : 0 < p.len)
    (unheld : ∀ mslot block, s.peerEntry mslot block = none) : s.peerAnswer p = none := by
  obtain ⟨q, qs, pieces⟩ := List.exists_cons_of_ne_nil
    (peerPieces_ne_nil (block := p.block) (o := p.offset % 0x40000) (fuel := p.len / 4096 + 1) bytes)
  unfold State.peerAnswer
  extract_lets ps read got
  have pieces : ps = q :: qs := pieces
  have kept : read = s := State.forEach_eq_self fun x _ => by simp [unheld]
  simp [got, kept, pieces, State.peerSector, unheld, enabled]

/-- A Completer Abort: the abort told, PEER_ABORT set, no peer read forgotten. -/
theorem State.peerAbort_spec (s : State) (f id mslot block j reason : Nat) :
    (s.peerAbort f id mslot block j reason).flag F.CCH_STATUS_PEER_ABORT = true ∧
      .reply id .abort [] ∈ (s.peerAbort f id mslot block j reason).sent ∧
      (s.peerAbort f id mslot block j reason).pcie.peers = s.pcie.peers := by
  unfold State.peerAbort
  extract_lets taken reported told
  have kept : reported.2.pcie = s.pcie := by
    unfold reported
    split
    · rfl
    · exact State.takeFree_pcie s
  refine ⟨State.flag_raise_same _ _ _ _ ⟨rfl⟩, ?_, ?_⟩
  · simp [told]
  · obtain ⟨_, endpoint⟩ := State.emit_pcie (reported.2.logAer f aerAbort) (.reply id .abort [])
    have same : (reported.2.logAer f aerAbort).pcie.peers = s.pcie.peers := (congrArg Pcie.peers kept : reported.2.pcie.peers = _)
    rw [State.raise_pcie, endpoint]
    exact same

/-- With the cache disabled a read is aborted. -/
theorem State.peerAnswer_disabled {s : State} {p : PeerRead} (disabled : s.cacheEnabled = false) :
    ∃ t, s.peerAnswer p = some t ∧ t.flag F.CCH_STATUS_PEER_ABORT = true ∧ .reply p.id .abort [] ∈ t.sent ∧ t.pcie.peers = s.pcie.peers := by
  unfold State.peerAnswer
  extract_lets pieces read got q
  have frame : Frame (allBut [.cchRegs, .pcie]) s read := State.forEach_frame (.refl _ s) _ _ fun t x h => by
    split
    · exact State.readSector_frame h _ _ _ (within_of (by decide))
    · exact h
  have off : read.cacheEnabled = false := (State.cacheEnabled_of_fld (frame.fld .cchRegs F.CCH_CTRL_STATE)).trans disabled
  obtain ⟨aborted, told, peers⟩ := State.peerAbort_spec read p.fn p.id p.mslot q.1 q.2.1 2
  rw [if_pos off]
  exact ⟨_, rfl, aborted, told, peers.trans (congrArg Pcie.peers (frame .pcie rfl))⟩

/-! ## A read that arrives -/

/-- The state in which an arriving read is decoded: its number is taken and the link is awake. -/
def State.peerArrived (s : State) : State := ({ s with pcie := { s.pcie with nextPeer := s.pcie.nextPeer + 1 } }).wakeLink

theorem State.peerArrived_pcie (s : State) :
    ∃ told : Bool, s.peerArrived.pcie = { s.pcie with nextPeer := s.pcie.nextPeer + 1, idleLtr := told } :=
  State.wakeLink_pcie { s with pcie := { s.pcie with nextPeer := s.pcie.nextPeer + 1 } }

theorem State.peerArrived_cache (s : State) : s.peerArrived.cache = s.cache := State.wakeLink_cache _
theorem State.peerArrived_mem (s : State) : s.peerArrived.mem = s.mem := State.wakeLink_mem _

theorem State.peerArrived_bar2Open (s : State) (f : Nat) : s.peerArrived.bar2Open f = s.bar2Open f := State.bar2Open_wakeLink _ f

theorem State.peerArrived_windowOf (s : State) (f offset len : Nat) : s.peerArrived.windowOf f offset len = s.windowOf f offset len :=
  State.windowOf_wakeLink _ f offset len

theorem State.peerArrived_cacheEnabled (s : State) : s.peerArrived.cacheEnabled = s.cacheEnabled := State.cacheEnabled_wakeLink _

theorem State.windowOf_some_pos {s : State} {f offset len slot block : Nat} (inside : s.windowOf f offset len = some (slot, block)) : 0 < len := by
  unfold State.windowOf at inside
  dsimp only at inside
  split at inside
  next within => exact within.2.2.1
  next => cases inside

/-! ## Windows and configuration space -/

theorem windows_put (s : State) (f : Nat) (w : Fin 4) (wins : Table PeerWin) :
    Table.at {} ((List.range 4).foldl (fun t w => Table.put {} t (4 * f + w) (s.shadow f w)) wins) (4 * f + w) = s.shadow f w := by
  simp only [List.range, List.range.loop, List.foldl_cons, List.foldl_nil, Table.at_put]
  obtain ⟨w, inside⟩ := w
  have which : w = 0 ∨ w = 1 ∨ w = 2 ∨ w = 3 := by omega
  rcases which with rfl | rfl | rfl | rfl <;> simp

/-- Messages that go out leave the settings of configuration space. -/
theorem State.unmaskAll_cfg (s : State) (f g : Nat) (c : CfgField) : (s.unmaskAll f).cfg g c = s.cfg g c := by
  refine State.read_forEach (fun s => s.cfg g c) (fun t m => ?_) s _
  split
  · unfold State.sendMessage
    dsimp only
    split
    · rfl
    · split
      · rfl
      · rw [State.cfg_emit]
        rfl
  · rfl

theorem SameFields.unmaskAll {but : List Fld} {s t : State} (h : SameFields but s t) (f : Nat) (listed : F.HIF_LINK_STATUS_PM ∈ but := by simp) :
    SameFields but s (t.unmaskAll f) := by
  refine h.forEach _ fun t m h => ?_
  split
  · unfold State.sendMessage
    dsimp only
    split
    · exact h.of_regs rfl
    · split
      · exact h.of_regs rfl
      · exact (h.of_regs (u := (t.setPendingBit f m false).setVec f m {}) rfl).emit _ listed
  · exact h

theorem State.cfg_setCfg_same (s : State) (f : Nat) (c : CfgField) (v : Nat) : (s.setCfg f c v).cfg f c = v := Table.get_set_same ..

/-- A read that is answered, told of by the state that answers it. -/
theorem execPeerRead_eq {s : State} {f : Fin 4} {offset len slot block : Nat} (opened : s.bar2Open f = true)
    (inside : s.windowOf f offset len = some (slot, block)) :
    execPeerRead f offset len s = .next ((s.peerArrived.peerAnswer ⟨s.pcie.nextPeer, f, offset, len, slot, block, false⟩).getD
      { s.peerArrived with pcie := { s.peerArrived.pcie with
        peers := s.peerArrived.pcie.peers ++ [⟨s.pcie.nextPeer, f, offset, len, slot, block, false⟩] } }) := by
  have opened' := (s.peerArrived_bar2Open f).trans opened
  have inside' := (s.peerArrived_windowOf f offset len).trans inside
  unfold State.peerArrived at *
  simp only [execPeerRead, opened', inside', Bool.true_eq_false, if_false]
  split
  next answered => rw [answered]; rfl
  next waits => rw [waits]; rfl

/-- Settles O28. -/
theorem peerAndConfigurationCommandsComplete : Obligations.PeerAndConfigurationCommandsComplete := by
  intro s
  refine ⟨fun f data writable idle => ?_, fun f waiting retired => ?_, fun f offset len slot block opened enabled inside free => ?_,
    fun f offset len slot block e opened enabled inside within held final confirmed sound noFlips noPoison => ?_,
    fun f offset len closed => ?_, fun f offset opened => ?_,
    fun id p e stalled enabled bytes within held final confirmed sound noFlips noPoison => ?_,
    fun id p stalled disabled => ?_, fun id p stalled => ?_, fun f field ready live own => ?_, fun f field v ready live own other writable => ?_,
    fun f err => ?_⟩
  · refine .of_eq (if_neg (by simp [data, writable, idle])) ⟨State.flag_put_fits s (f := F.HIF_WIN_COMMIT_PENDING f) (v := 1) ⟨rfl⟩, rfl,
      ((SameFields.refl _ s).put (f := F.HIF_WIN_COMMIT_PENDING f) 1).of_regs rfl⟩
  · refine .of_eq (if_neg ?_) ⟨State.flag_put_zero _, fun w => windows_put s f w _, (SameFields.of_regs (.refl _ s) rfl).put _⟩
    simp [waiting, retired]
  · have unheld : ∀ mslot block, s.peerArrived.peerEntry mslot block = none := by
      intro mslot block
      have none : s.tagOf mslot block = none := List.find?_eq_none.mpr fun e mem => by
        simp [free ⟨e, List.mem_range.mp mem⟩]
      rw [State.peerEntry_of_cache s.peerArrived_cache, State.peerEntry, none]
    obtain ⟨_, endpoint⟩ := s.peerArrived_pcie
    refine .of_eq (execPeerRead_eq opened inside) ?_
    rw [State.peerAnswer_waits (s.peerArrived_cacheEnabled.trans enabled) (State.windowOf_some_pos inside) unheld]
    dsimp only [Option.getD_none]
    rw [endpoint]
    exact ⟨rfl, rfl⟩
  · obtain ⟨_, endpoint⟩ := s.peerArrived_pcie
    have entry : s.peerArrived.entry e = s.entry e := by rw [State.entry, s.peerArrived_cache]; rfl
    have answer := State.peerAnswer_confirmed (s := s.peerArrived) (p := ⟨s.pcie.nextPeer, f, offset, len, slot, block, false⟩) (e := e)
      (s.peerArrived_cacheEnabled.trans enabled) (State.windowOf_some_pos inside) within
      ((State.peerEntry_of_cache s.peerArrived_cache _ _).trans held) (by rwa [entry]) (by rwa [entry]) (by rwa [entry])
      (by rwa [s.peerArrived_mem]) (by rwa [s.peerArrived_mem])
    refine .of_eq (execPeerRead_eq opened inside) ?_
    rw [answer]
    dsimp only [Option.getD_some]
    rw [peerBytes, entry]
    obtain ⟨_, emitted⟩ := State.emit_pcie s.peerArrived (.reply s.pcie.nextPeer .success
      (((padTo 4096 ((s.entry e).sector (offset % 0x40000 / 4096)).user).drop (offset % 4096)).take len))
    exact ⟨State.mem_sent_emit .., by rw [emitted, endpoint]⟩
  · obtain ⟨_, endpoint⟩ := s.peerArrived_pcie
    obtain ⟨_, emitted⟩ := State.emit_pcie (s.peerArrived.logAer f aerUnsupported) (.reply s.pcie.nextPeer .unsupported [])
    refine .of_eq (if_pos ((s.peerArrived_bar2Open f).trans closed)) ⟨State.mem_sent_emit .., ?_⟩
    refine (congrArg Pcie.nextPeer emitted).trans (congrArg Pcie.nextPeer endpoint)
  · exact .of_eq (if_pos opened) (State.flag_raise_same _ _ _ _ ⟨rfl⟩)
  · have answer := State.peerAnswer_confirmed enabled bytes within held final confirmed sound noFlips noPoison
    have answered : exec (.peerReadResume id) s = .next { (s.emit (.reply p.id .success (peerBytes s e p.offset p.len))) with
        pcie := { (s.emit (.reply p.id .success (peerBytes s e p.offset p.len))).pcie with
          peers := (s.emit (.reply p.id .success (peerBytes s e p.offset p.len))).pcie.peers.filter (fun q => q.id != id) } } := by
      change execPeerReadResume id s = _
      simp only [execPeerReadResume, stalled, answer]
    obtain ⟨_, emitted⟩ := State.emit_pcie s (.reply p.id .success (peerBytes s e p.offset p.len))
    exact .of_eq answered ⟨State.mem_sent_emit .., congrArg (fun x : Pcie => x.peers.filter (fun q => q.id != id)) emitted⟩
  · obtain ⟨t, answer, aborted, told, peers⟩ := State.peerAnswer_disabled (p := p) disabled
    have own : p.id = id := by simpa using List.find?_some stalled
    have answered : exec (.peerReadResume id) s = .next { t with pcie := { t.pcie with peers := t.pcie.peers.filter (fun q => q.id != id) } } := by
      change execPeerReadResume id s = _
      simp only [execPeerReadResume, stalled, answer]
    exact .of_eq answered ⟨aborted, own ▸ told, congrArg (List.filter (fun q => q.id != id)) peers⟩
  · have answered : ∃ q : Nat × Nat × Nat × Nat, exec (.peerReadTimeout id) s = .next (State.peerAbort
        { s with pcie := { s.pcie with peers := s.pcie.peers.filter (fun q => q.id != id) } } p.fn id p.mslot q.1 q.2.1 1) := by
      change ∃ q : Nat × Nat × Nat × Nat, execPeerReadTimeout id s = _
      unfold execPeerReadTimeout
      rw [stalled]
      exact ⟨_, rfl⟩
    obtain ⟨q, answered⟩ := answered
    exact .of_eq answered (State.peerAbort_spec _ p.fn id p.mslot q.1 q.2.1 1)
  · have answered : exec (.configurationRequest f field none) s = .next (s.wakeLink.emit (.reply 0 .success (leBytes 8 (s.cfg f field)))) := by
      change execConfigurationRequest f field none s = _
      simp (disch := exact Shown.by_rfl rfl) [execConfigurationRequest, ready, live, own]
    exact .of_eq answered (State.mem_sent_emit ..)
  · have answered : exec (.configurationRequest f field (some v)) s =
        .next (((s.wakeLink.emit (.reply 0 .success [])).setCfg f field (v &&& cfgMask field)).unmaskAll f) := by
      change execConfigurationRequest f field (some v) s = _
      simp (disch := exact Shown.by_rfl rfl) [execConfigurationRequest, ready, live, own, other, writable]
    refine .of_eq answered ⟨?_, ?_⟩
    · rw [State.unmaskAll_cfg, State.cfg_setCfg_same]
    · exact (((SameFields.refl [F.HIF_LINK_STATUS_PM] s).wakeLink.emit (.reply 0 .success [])).of_regs
        (u := (s.wakeLink.emit (.reply 0 .success [])).setCfg f field (v &&& cfgMask field)) rfl).unmaskAll f
  · refine .of_eq rfl ⟨?_, SameFields.of_regs (.refl _ s) rfl⟩
    dsimp only
    rw [State.logAer, State.cfg_setCfg_same, Nat.testBit_or, Nat.testBit_two_pow_self, Bool.or_true]

end Sys2Proof.Machine
end

section
/-!
PROOFS. Completions, completion timeouts and tags of the controller's reads, and its MSI-X vectors (R404, R423, R424).
-/
set_option Elab.async false
namespace Sys2Proof.Machine

/-! ## Counters -/

/-- A counter of two words reads what was written to it. -/
theorem State.pair_putPair (s : State) {lo hi : Fld} {v : Nat} (apart : lo.key ≠ hi.key) (low : lo.width = 32) (small : v < 2 ^ (32 + hi.width)) :
    (s.putPair lo hi v).pair lo hi = v := by
  have high : v / 2 ^ 32 < 2 ^ hi.width := Nat.div_lt_of_lt_mul (by rwa [← Nat.pow_add])
  unfold State.pair State.putPair
  rw [State.fld_put_ne _ _ apart, State.fld_put_same, State.fld_put_lt _ high, low]
  exact Nat.mod_add_div' v (2 ^ 32)

theorem State.pair_of_fld {s t : State} (same : ∀ g, t.fld g = s.fld g) (lo hi : Fld) : t.pair lo hi = s.pair lo hi := by
  unfold State.pair
  rw [same, same]

/-- A counter of 48 bits counts and stops at its end. -/
theorem State.pair_count (s : State) {lo hi : Fld} (n : Nat) (apart : lo.key ≠ hi.key) (low : lo.width = 32) (high : hi.width = 16) :
    (s.count lo hi n).pair lo hi = min (s.pair lo hi + n) (2 ^ 48 - 1) := by
  have small : min (s.pair lo hi + n) (2 ^ 48 - 1) < 2 ^ (32 + hi.width) :=
    Nat.lt_of_le_of_lt (Nat.min_le_right _ _) (by rw [high]; decide)
  exact (State.pair_of_fld (fun g => State.fld_of_regs (s.count_regs lo hi n) g) lo hi).trans (State.pair_putPair s apart low small)

/-! ## Reads of host memory -/

section
variable {s : State} {f : Fin 4} {tag : Nat} {r : ReadReq}

theorem State.reqOf_spec (known : s.reqOf f tag = some r) : r.fn = f ∧ r.tag = tag := by
  simpa using List.find?_some known

/-- A completion that is not the last: the read holds its bytes. -/
theorem completionTlp_part (known : s.reqOf f tag = some r) (data : List Byte) (part : r.got.length + data.length < r.len) :
    Answers (.completionTlp f tag .success data) s (fun t => t.reqOf f tag = some { r with got := r.got ++ data.map BitVec.toNat }) := by
  obtain ⟨fn, tagged⟩ := State.reqOf_spec known
  have whole : (data.map BitVec.toNat).take (r.len - r.got.length) = data.map BitVec.toNat := List.take_of_length_le (by simp; omega)
  have short : (r.got ++ data.map BitVec.toNat).length < r.len := by simpa using part
  obtain ⟨_, endpoint⟩ := s.wakeLink_pcie
  have answered : exec (.completionTlp f tag .success data) s = .next { s.wakeLink with pcie := { s.wakeLink.pcie with
      reqs := s.wakeLink.pcie.reqs.map (fun x => if x.fn = r.fn ∧ x.tag = r.tag then { r with got := r.got ++ data.map BitVec.toNat } else x) } } := by
    change execCompletionTlp f tag .success data s = _
    unfold execCompletionTlp
    rw [known]
    dsimp only
    rw [if_pos rfl, whole, if_pos short]
  refine .of_eq answered ?_
  unfold State.reqOf at *
  rw [endpoint]
  dsimp only
  rw [List.find?_map]
  have same : ((fun x : ReadReq => x.fn == f.val && x.tag == tag) ∘ fun x =>
      if x.fn = r.fn ∧ x.tag = r.tag then { r with got := r.got ++ data.map BitVec.toNat } else x) = fun x => x.fn == f.val && x.tag == tag := by
    funext x
    simp only [Function.comp_apply]
    split
    next own => simp [fn, tagged, own.1, own.2]
    next => rfl
  rw [same, known]
  simp

/-- The last completion of a descriptor: its command is fetched. -/
theorem completionTlp_descriptor {c : Cmd} (known : s.reqOf f tag = some r) (data : List Byte) (last : r.got.length + data.length = r.len)
    (descriptor : r.purpose = .descriptor) (command : s.cmd? r.cmd = some c) (native : c.id.formatL = false) (dataFn : f ≠ 0)
    (alone : ∀ e ∈ s.allCmds, e.2.id.fn ≠ f ∨ e.1 = r.cmd) :
    Answers (.completionTlp f tag .success data) s (fun t => (t.cmd r.cmd).phase = .fetched ∧
      (t.cmd r.cmd).id = nativeId c.id.fn c.id.ring (r.got ++ data.map BitVec.toNat)) := by
  have whole : (data.map BitVec.toNat).take (r.len - r.got.length) = data.map BitVec.toNat := List.take_of_length_le (by simp; omega)
  have full : ¬ (r.got ++ data.map BitVec.toNat).length < r.len := by simp; omega
  have rings : (s.wakeLink.dropReq f tag).rings = s.rings := State.wakeLink_rings s
  have held : (s.wakeLink.dropReq f tag).cmd r.cmd = c := State.cmd_of_cmd? ((State.cmd?_of_rings rings _).trans command)
  let done : Cmd := { c with phase := .fetched, id := nativeId c.id.fn c.id.ring (r.got ++ data.map BitVec.toNat) }
  have idle : ((s.wakeLink.dropReq f tag).setCmd r.cmd done).resumeFn f = (s.wakeLink.dropReq f tag).setCmd r.cmd done := by
    refine State.resumeFn_idle (by simpa using dataFn) fun e mem own => ?_
    have here : e.1 = r.cmd := by
      rcases State.mem_allCmds_setCmd mem with rfl | old
      · rfl
      · rw [State.allCmds_of_rings rings] at old
        exact (alone e old).resolve_left fun other => other own
    rw [here, State.cmd_setCmd_same]
    simp [done]
  have answered : exec (.completionTlp f tag .success data) s = .next ((s.wakeLink.dropReq f tag).setCmd r.cmd done) := by
    change execCompletionTlp f tag .success data s = _
    unfold execCompletionTlp
    rw [known]
    dsimp only
    rw [if_pos rfl, whole, if_neg full]
    unfold State.readDone
    simp only [descriptor, held, native, Bool.false_eq_true, if_false]
    rw [idle]
  exact .of_eq answered (by rw [State.cmd_setCmd_same]; exact ⟨rfl, rfl⟩)

theorem completionTlp_unexpected (unknown : s.reqOf f tag = none) (status : CplStatus) (data : List Byte)
    (loud : (s.pcie.quarantine.any (fun q => q.fn == f.val && q.tag == tag && q.silent)) = false) :
    Answers (.completionTlp f tag status data) s (fun t => t.flag (F.HIF_ERR_STATUS_UNEXP_CPL f) = true) := by
  have answered : exec (.completionTlp f tag status data) s = .next (s.unexpectedCpl f tag) := by
    change execCompletionTlp f tag status data s = _
    unfold execCompletionTlp
    rw [unknown]
  refine .of_eq answered ?_
  unfold State.unexpectedCpl
  rw [if_neg (by simp [loud])]
  exact State.flag_raise_same _ _ _ _ ⟨rfl⟩

/-- A timeout: its flag and its counter. -/
theorem cplTimeout_counts (known : s.reqOf f tag = some r) :
    Answers (.cplTimeout f tag) s (fun t => t.flag (F.HIF_ERR_STATUS_CPL_TIMEOUT f) = true ∧
      t.pair (F.HIF_CPL_TIMEOUTS_LO_COUNT f) (F.HIF_CPL_TIMEOUTS_HI_COUNT f) =
        min (s.pair (F.HIF_CPL_TIMEOUTS_LO_COUNT f) (F.HIF_CPL_TIMEOUTS_HI_COUNT f) + 1) (2 ^ 48 - 1)) := by
  obtain ⟨cid, answered⟩ : ∃ cid, exec (.cplTimeout f tag) s = .next ((State.raise ((State.logAer { s.dropReq f tag with pcie := { (s.dropReq f tag).pcie with
      quarantine := (s.dropReq f tag).pcie.quarantine ++ [⟨f, tag, false⟩] } } f aerTimeout).count
        (F.HIF_CPL_TIMEOUTS_LO_COUNT f) (F.HIF_CPL_TIMEOUTS_HI_COUNT f) 1) (F.HIF_ERR_STATUS_CPL_TIMEOUT f) 0x0A02 (srcHost f)
        ([f.val, 0] ++ leBytes 2 tag ++ leBytes 2 cid)).readFailed r Status.hostReadTimeout) := by
    change ∃ cid, execCplTimeout f tag s = _
    unfold execCplTimeout
    rw [known]
    exact ⟨_, rfl⟩
  generalize held : ({ s.dropReq f tag with pcie := { (s.dropReq f tag).pcie with
    quarantine := (s.dropReq f tag).pcie.quarantine ++ [⟨f, tag, false⟩] } } : State) = x at answered
  have fields : ∀ g, (x.logAer f aerTimeout).fld g = s.fld g := fun g => State.fld_of_regs (by rw [← held]; rfl) g
  generalize raising : ((x.logAer f aerTimeout).count (F.HIF_CPL_TIMEOUTS_LO_COUNT f) (F.HIF_CPL_TIMEOUTS_HI_COUNT f) 1).raise
    (F.HIF_ERR_STATUS_CPL_TIMEOUT f) 0x0A02 (srcHost f) ([f.val, 0] ++ leBytes 2 tag ++ leBytes 2 cid) = raised at answered
  have kept : Frame (allBut [.hifRegs]) raised (raised.readFailed r Status.hostReadTimeout) :=
    State.readFailed_frame (.refl _ _) r _ (within_of (by decide))
  refine .of_eq answered ⟨?_, ?_⟩
  · unfold State.flag
    rw [kept.fld .hifRegs (F.HIF_ERR_STATUS_CPL_TIMEOUT f), ← raising]
    exact State.flag_raise_same _ _ _ _ ⟨rfl⟩
  · rw [← State.pair_of_fld fields]
    refine Eq.trans ?_ (State.pair_count (x.logAer f aerTimeout) 1 (Fld.key_ne_of_id rfl) rfl rfl)
    unfold State.pair
    rw [kept.fld .hifRegs (F.HIF_CPL_TIMEOUTS_LO_COUNT f), kept.fld .hifRegs (F.HIF_CPL_TIMEOUTS_HI_COUNT f), ← raising,
      State.fld_raise_apart _ _ _ _ ⟨rfl⟩, State.fld_raise_apart _ _ _ _ ⟨rfl⟩]

end

/-! ## Vectors -/

theorem State.vec_setVec_same (s : State) (f v : Nat) (x : VecState) : (s.setVec f v x).vec f v = x := Table.at_put_same ..

theorem State.pendingBit_setPendingBit_same (s : State) (f v : Nat) (b : Bool) : (s.setPendingBit f v b).pendingBit f v = b := Table.at_put_same ..

/-- A message of an enabled, unmasked vector goes out, and its moderation starts anew. -/
theorem State.sendMessage_open (s : State) {f v : Nat} (enabled : s.cfg f .msixEnable = 1) (unmasked : s.masked f v = false) :
    .message f v (s.msixWord f (4 * v) + s.msixWord f (4 * v + 1) * 2 ^ 32) (s.msixWord f (4 * v + 2)) ∈ (s.sendMessage f v).sent ∧
      (∃ told : Bool, (s.sendMessage f v).pcie = { s.pcie with idleLtr := told }) ∧ (s.sendMessage f v).vec f v = {} := by
  have opened : s.sendMessage f v = (s.setVec f v {}).emit
      (.message f v (s.msixWord f (4 * v) + s.msixWord f (4 * v + 1) * 2 ^ 32) (s.msixWord f (4 * v + 2))) := by
    have enabled' : (s.setVec f v {}).cfg f .msixEnable = 1 := enabled
    have unmasked' : (s.setVec f v {}).masked f v = false := unmasked
    unfold State.sendMessage
    dsimp only
    rw [if_neg (by simp [enabled']), if_neg (by simp [unmasked'])]
    rfl
  rw [opened]
  refine ⟨State.mem_sent_emit .., State.emit_pcie .., ?_⟩
  unfold State.vec
  rw [State.emit_events]
  exact State.vec_setVec_same s f v {}

section
variable {s : State} {f : Fin 4} {v : Fin 64}

/-- The state after the mask of a vector is taken away. -/
def State.unmasked (s : State) (f v : Nat) : State :=
  let w := s.msixWord f (4 * v + 3)
  { s with pcie := { s.pcie with msix := Table.set msixDefault s.pcie.msix (256 * f + (4 * v + 3)) (w - w % 2) } }

theorem State.unmasked_word (s : State) (f v : Nat) : (s.unmasked f v).msixWord f (4 * v + 3) % 2 = 0 := by
  have written : (s.unmasked f v).msixWord f (4 * v + 3) = s.msixWord f (4 * v + 3) - s.msixWord f (4 * v + 3) % 2 :=
    Table.get_set_same msixDefault s.pcie.msix _ _
  omega

theorem State.unmasked_other (s : State) (f v : Nat) {k : Nat} (other : k ≠ 4 * v + 3) : (s.unmasked f v).msixWord f k = s.msixWord f k :=
  Table.get_set_ne msixDefault s.pcie.msix _ (by omega)

theorem msixUnmask_quiet (clear : s.pendingBit f v = false) :
    Answers (.msixUnmask f v) s (fun t => t.msixWord f (4 * v.val + 3) % 2 = 0 ∧ t.sent = s.sent) := by
  have quiet : ¬ ((s.unmasked f v).pendingBit f v = true ∧ (s.unmasked f v).masked f v = false) := by
    have same : (s.unmasked f v).pendingBit f v = false := clear
    simp [same]
  exact .of_eq (if_neg quiet) ⟨State.unmasked_word s f v, rfl⟩

theorem msixUnmask_sends (pending : s.pendingBit f v = true) (opened : s.cfg f .msixFunctionMask = 0) (enabled : s.cfg f .msixEnable = 1) :
    Answers (.msixUnmask f v) s (fun t => t.msixWord f (4 * v.val + 3) % 2 = 0 ∧ t.pendingBit f v = false ∧
      .message f v (s.msixWord f (4 * v.val) + s.msixWord f (4 * v.val + 1) * 2 ^ 32) (s.msixWord f (4 * v.val + 2)) ∈ t.sent) := by
  have function : (s.unmasked f v).cfg f .msixFunctionMask = 0 := opened
  have clear : (s.unmasked f v).masked f v = false := by simp [State.masked, State.unmasked_word, function]
  let ready := (s.unmasked f v).setPendingBit f v false
  obtain ⟨sent, ⟨_, endpoint⟩, _⟩ := State.sendMessage_open ready (f := f) (v := v) enabled clear
  have words : ∀ k, k ≠ 4 * v.val + 3 → ready.msixWord f k = s.msixWord f k := fun k other => State.unmasked_other s f v other
  rw [words _ (by omega), words _ (by omega), words _ (by omega)] at sent
  have word : (ready.sendMessage f v).msixWord f (4 * v.val + 3) = (s.unmasked f v).msixWord f (4 * v.val + 3) :=
    (congrArg (fun p : Pcie => Table.get msixDefault p.msix (256 * f.val + (4 * v.val + 3))) endpoint).trans rfl
  refine .of_eq (if_pos ⟨pending, clear⟩) ⟨?_, ?_, sent⟩
  · exact (congrArg (· % 2) word).trans (State.unmasked_word s f v)
  · exact (congrArg (fun p : Pcie => Table.at false p.pba (64 * f.val + v.val)) endpoint).trans
      (State.pendingBit_setPendingBit_same (s.unmasked f v) f v false)

end

/-- Settles O29. -/
theorem hostReadAndMessageCommandsComplete : Obligations.HostReadAndMessageCommandsComplete := by
  intro s
  refine ⟨fun f tag data r known part => completionTlp_part known data part,
    fun f tag data r c known last descriptor command native dataFn alone =>
      completionTlp_descriptor known data last descriptor command native dataFn alone,
    fun f tag status data unknown loud => completionTlp_unexpected unknown status data loud, fun f tag r known => cplTimeout_counts known,
    fun f tag dataFn none => ?_, fun f v clear => ?_, fun f v pending open_ enabled => ?_, fun f v timing live enabled unmasked => ?_⟩
  · have idle := State.resumeFn_idle (s := { s with pcie := { s.pcie with
      quarantine := s.pcie.quarantine.filter (fun q => !(q.fn == f.val && q.tag == tag)) } }) (f := f) (by simpa using dataFn)
      fun e mem own => absurd own (none e mem)
    exact .of_eq (congrArg Host.Outcome.next idle) rfl
  · exact msixUnmask_quiet clear
  · exact msixUnmask_sends pending open_ enabled
  · obtain ⟨sent, _, vec⟩ := State.sendMessage_open s enabled unmasked
    exact .of_eq (if_pos ⟨timing, live⟩) ⟨vec, sent⟩

end Sys2Proof.Machine
end

section
/-!
PROOFS. Doorbells and configuration writes of the rings and of the event queue (R364–R366, R389, R390, R407).
-/
set_option Elab.async false
namespace Sys2Proof.Machine

/-! ## Rings when work arrives -/

section
variable (s : State) (f i : Nat)

theorem State.sqTail_of_rings {s t : State} (same : t.rings = s.rings) (f i : Nat) : t.sqTail f i = s.sqTail f i := by
  unfold State.sqTail
  rw [same]

theorem State.cqHead_of_rings {s t : State} (same : t.rings = s.rings) (f i : Nat) : t.cqHead f i = s.cqHead f i := by
  unfold State.cqHead
  rw [same]

@[simp] theorem State.sqTail_wakeLink : s.wakeLink.sqTail f i = s.sqTail f i := State.sqTail_of_rings s.wakeLink_rings f i
@[simp] theorem State.cqHead_wakeLink : s.wakeLink.cqHead f i = s.cqHead f i := State.cqHead_of_rings s.wakeLink_rings f i
@[simp] theorem State.sqTail_setSqTail_same (v : Nat) : (s.setSqTail f i v).sqTail f i = v := Table.at_put_same ..
@[simp] theorem State.cqHead_setCqHead_same (v : Nat) : (s.setCqHead f i v).cqHead f i = v := Table.at_put_same ..
@[simp] theorem State.fld_setSqTail (v : Nat) (g : Fld) : (s.setSqTail f i v).fld g = s.fld g := rfl
@[simp] theorem State.flag_setSqTail (v : Nat) (g : Fld) : (s.setSqTail f i v).flag g = s.flag g := rfl

@[simp] theorem State.flag_setCqHead (v : Nat) (g : Fld) : (s.setCqHead f i v).flag g = s.flag g := rfl
@[simp] theorem State.fld_setCqHead (v : Nat) (g : Fld) : (s.setCqHead f i v).fld g = s.fld g := rfl
@[simp] theorem State.cqHead_setCqPass (v : Nat) : (s.setCqPass f i v).cqHead f i = s.cqHead f i := rfl
@[simp] theorem State.cqPass_setCqPass_same (v : Nat) : (s.setCqPass f i v).cqPass f i = v := Table.at_put_same ..
@[simp] theorem State.flag_setCqPass (v : Nat) (g : Fld) : (s.setCqPass f i v).flag g = s.flag g := rfl
@[simp] theorem State.fld_setCqPass (v : Nat) (g : Fld) : (s.setCqPass f i v).fld g = s.fld g := rfl

theorem SameFields.setSqTail {but : List Fld} {s t : State} (h : SameFields but s t) (f i v : Nat) : SameFields but s (t.setSqTail f i v) := h.of_regs rfl
theorem SameFields.setCqHead {but : List Fld} {s t : State} (h : SameFields but s t) (f i v : Nat) : SameFields but s (t.setCqHead f i v) := h.of_regs rfl
theorem SameFields.setCqPass {but : List Fld} {s t : State} (h : SameFields but s t) (f i v : Nat) : SameFields but s (t.setCqPass f i v) := h.of_regs rfl

@[simp] theorem State.mayEnable_put {g : Fld} (v : Nat) (h : (F.HIF_FUNC_STATUS_WEDGED f).Apart g) : (s.put g v).mayEnable f = s.mayEnable f := by
  unfold State.mayEnable
  rw [State.flag_put_apart _ _ h]
  rfl

@[simp] theorem State.sqSize_wakeLink : s.wakeLink.sqSize f i = s.sqSize f i := by
  simp (disch := exact Shown.by_rfl rfl) [State.sqSize]

@[simp] theorem State.cqSize_wakeLink : s.wakeLink.cqSize f i = s.cqSize f i := by
  simp (disch := exact Shown.by_rfl rfl) [State.cqSize]

@[simp] theorem State.cqUsed_wakeLink : s.wakeLink.cqUsed f i = s.cqUsed f i := by
  simp (disch := exact Shown.by_rfl rfl) [State.cqUsed]

@[simp] theorem State.evtSize_wakeLink : s.wakeLink.evtSize = s.evtSize := by
  simp (disch := exact Shown.by_rfl rfl) [State.evtSize]

@[simp] theorem State.evtUsed_wakeLink : s.wakeLink.evtUsed = s.evtUsed := by
  simp (disch := exact Shown.by_rfl rfl) [State.evtUsed]

/-- A doorbell of four aligned bytes that is taken, is taken once the link is awake. -/
theorem State.doorbell_wakeLink {s : State} {off : Nat} (taken : s.doorbellBlocked f i off ⟨4, true, false⟩ = none) :
    s.wakeLink.doorbellBlocked f i off ⟨4, true, false⟩ = none := by
  have shaped : ∀ t : State, t.doorbellBlocked f i off ⟨4, true, false⟩ =
      if t.fw.booted = false ∨ t.fld (F.HIF_FUNC_STATUS_D_STATE f) ≠ 0 then some (t.logAer f aerUnsupported)
      else if ringExists f i = false ∨ t.flag (F.HIF_FUNC_STATUS_READY f) = false ∨ t.flag (F.HIF_FUNC_STATUS_FLR_BUSY f) = true then some t
      else none := fun _ => rfl
  rw [shaped] at taken ⊢
  rw [State.wakeLink_fw, State.fld_wakeLink_apart _ ⟨rfl⟩, State.flag_wakeLink_apart _ ⟨rfl⟩, State.flag_wakeLink_apart _ ⟨rfl⟩]
  split at taken
  · cases taken
  next up =>
    split at taken
    · cases taken
    next present => rw [if_neg up, if_neg present]

end

/-! ## Errors of a ring -/

theorem State.sqError_spec (s : State) (f i : Nat) {code : Nat} (small : code < 8) :
    (s.sqError f i code).flag (F.RING_SQ_STATUS_ERR f i) = true ∧ (s.sqError f i code).fld (F.RING_SQ_STATUS_ERR_CODE f i) = code ∧
      (s.sqError f i code).sqTail f i = s.sqTail f i ∧ SameFields [F.RING_SQ_STATUS_ERR f i, F.RING_SQ_STATUS_ERR_CODE f i] s (s.sqError f i code) := by
  refine ⟨State.flag_raise_same _ _ _ _ ⟨rfl⟩, ?_, State.sqTail_of_rings (State.raise_rings ..) f i, ((SameFields.refl _ s).put _).raise _ _ _⟩
  exact (State.fld_raise_apart _ _ _ _ ⟨rfl⟩).trans (State.fld_put_lt s small)

theorem State.cqError_spec (s : State) (f i : Nat) {code : Nat} (small : code < 8) :
    (s.cqError f i code).flag (F.RING_CQ_STATUS_ERR f i) = true ∧ (s.cqError f i code).fld (F.RING_CQ_STATUS_ERR_CODE f i) = code ∧
      (s.cqError f i code).cqHead f i = s.cqHead f i ∧ SameFields [F.RING_CQ_STATUS_ERR f i, F.RING_CQ_STATUS_ERR_CODE f i] s (s.cqError f i code) := by
  refine ⟨State.flag_raise_same _ _ _ _ ⟨rfl⟩, ?_, State.cqHead_of_rings (State.raise_rings ..) f i, ((SameFields.refl _ s).put _).raise _ _ _⟩
  exact (State.fld_raise_apart _ _ _ _ ⟨rfl⟩).trans (State.fld_put_lt s small)

/-! ## The event queue -/

/-- What is written from staging leaves the head of the queue, which is the host's. -/
theorem State.drainStaging_head (n : Nat) (s : State) : (State.drainStaging n s).events.head = s.events.head := by
  obtain ⟨_, _, _, _, drained⟩ := State.drainStaging_events n s
  rw [drained]

theorem State.drainStaging_none {s : State} (none : s.events.staging = []) : State.drainStaging s.events.staging.length s = s := by
  rw [none]
  rfl

/-! ## Configuration -/

section
variable {s : State} {f : Fin 4} {i : Fin 32} {v : Word}

theorem evtQHeadDoorbell_takes (booted : s.fw.booted = true) (live : s.fnLive 0 = true) (enabled : s.flag F.EVT_Q_CFG_ENABLE = true)
    (small : v.toNat % 65536 < s.evtSize) (near : ringDist s.evtSize s.events.head (v.toNat % 65536) ≤ s.evtUsed) :
    Answers (.evtQHeadDoorbell ⟨4, true, false⟩ v) s (fun t => t.events.head = v.toNat % 65536) := by
  have awake : s.fld (F.HIF_FUNC_STATUS_D_STATE 0) = 0 := by
    simp only [State.fnLive, Bool.and_eq_true, beq_iff_eq] at live
    exact live.2
  have live' : s.wakeLink.fnLive 0 = true := by
    unfold State.fnLive at *
    simpa (disch := exact Shown.by_rfl rfl) using live
  refine .of_eq (t := State.drainStaging s.wakeLink.events.staging.length
    { s.wakeLink with events := { s.wakeLink.events with head := v.toNat % 65536 } }) ?_ (State.drainStaging_head _ _)
  change execEvtQHeadDoorbell ⟨4, true, false⟩ v s = _
  simp (disch := exact Shown.by_rfl rfl) [execEvtQHeadDoorbell, booted, awake, live', enabled, Nat.not_le.mpr small, Nat.not_lt.mpr near]

/-- A submission ring configured and enabled by a word. -/
def State.sqConfigured (s : State) (f i v : Nat) : State :=
  let s := s.put (F.RING_SQ_CFG_SIZE_LOG2 f i) (bitsOf v 0 5)
  let s := s.put (F.RING_SQ_CFG_CQ f i) (bitsOf v 8 5)
  let s := s.put (F.RING_SQ_CFG_PRIO f i) (bitsOf v 16 2)
  let s := s.put (F.RING_SQ_CFG_FORMAT f i) (bitsOf v 20 1)
  let s := s.put (F.RING_SQ_CFG_ENABLE f i) 1
  ((s.put (F.RING_SQ_STATUS_HEAD f i) 0).put (F.RING_SQ_STATUS_STOPPED f i) 0).setSqTail f i 0

theorem sqCfgWrite_enables (writable : s.ringWritable f i = true) (disabled : s.flag (F.RING_SQ_CFG_ENABLE f i) = false)
    (may : s.mayEnable f = true) (bit : v.toNat.testBit 31 = true) :
    Answers (.sqCfgWrite f i v) s (fun t => t.fld (F.RING_SQ_CFG_SIZE_LOG2 f i) = bitsOf v.toNat 0 5 ∧
      t.fld (F.RING_SQ_CFG_CQ f i) = bitsOf v.toNat 8 5 ∧ t.fld (F.RING_SQ_CFG_PRIO f i) = bitsOf v.toNat 16 2 ∧
      t.flag (F.RING_SQ_CFG_ENABLE f i) = true ∧ t.fld (F.RING_SQ_STATUS_HEAD f i) = 0 ∧ t.flag (F.RING_SQ_STATUS_STOPPED f i) = false ∧
      t.sqTail f i = 0 ∧ SameFields [F.RING_SQ_CFG_SIZE_LOG2 f i, F.RING_SQ_CFG_CQ f i, F.RING_SQ_CFG_PRIO f i, F.RING_SQ_CFG_FORMAT f i,
        F.RING_SQ_CFG_ENABLE f i, F.RING_SQ_STATUS_HEAD f i, F.RING_SQ_STATUS_STOPPED f i] s t) := by
  have answered : exec (.sqCfgWrite f i v) s = .next (s.sqConfigured f i v.toNat) := by
    change execSqCfgWrite f i v s = _
    simp (disch := exact Shown.by_rfl rfl) [execSqCfgWrite, State.sqConfigured, writable, disabled, may, bit]
  have same : SameFields [F.RING_SQ_CFG_SIZE_LOG2 f i, F.RING_SQ_CFG_CQ f i, F.RING_SQ_CFG_PRIO f i, F.RING_SQ_CFG_FORMAT f i,
      F.RING_SQ_CFG_ENABLE f i, F.RING_SQ_STATUS_HEAD f i, F.RING_SQ_STATUS_STOPPED f i] s (s.sqConfigured f i v.toNat) :=
    (((((((SameFields.refl _ s).put _).put _).put _).put _).put _).put _).put _ |>.setSqTail f i 0
  refine .of_eq answered ⟨?_, ?_, ?_, ?_, ?_, ?_, ?_, same⟩
  all_goals simp (disch := exact Shown.by_rfl rfl) [State.sqConfigured]

/-- A completion ring configured and enabled by a word. -/
def State.cqConfigured (s : State) (f i v : Nat) : State :=
  let s := s.put (F.RING_CQ_CFG_SIZE_LOG2 f i) (bitsOf v 0 5)
  let s := s.put (F.RING_CQ_CFG_VECTOR f i) (bitsOf v 16 6)
  let s := s.put (F.RING_CQ_CFG_ENABLE f i) 1
  ((s.put (F.RING_CQ_STATUS_TAIL f i) 0).setCqHead f i 0).setCqPass f i 0

theorem cqCfgWrite_enables (writable : s.ringWritable f i = true) (disabled : s.flag (F.RING_CQ_CFG_ENABLE f i) = false)
    (may : s.mayEnable f = true) (bit : v.toNat.testBit 31 = true) :
    Answers (.cqCfgWrite f i v) s (fun t => t.fld (F.RING_CQ_CFG_SIZE_LOG2 f i) = bitsOf v.toNat 0 5 ∧
      t.fld (F.RING_CQ_CFG_VECTOR f i) = bitsOf v.toNat 16 6 ∧ t.flag (F.RING_CQ_CFG_ENABLE f i) = true ∧
      t.fld (F.RING_CQ_STATUS_TAIL f i) = 0 ∧ t.cqHead f i = 0 ∧ t.cqPass f i = 0 ∧
      SameFields [F.RING_CQ_CFG_SIZE_LOG2 f i, F.RING_CQ_CFG_VECTOR f i, F.RING_CQ_CFG_ENABLE f i, F.RING_CQ_STATUS_TAIL f i] s t) := by
  have answered : exec (.cqCfgWrite f i v) s = .next (s.cqConfigured f i v.toNat) := by
    change execCqCfgWrite f i v s = _
    simp (disch := exact Shown.by_rfl rfl) [execCqCfgWrite, State.cqConfigured, writable, disabled, may, bit]
  have same : SameFields [F.RING_CQ_CFG_SIZE_LOG2 f i, F.RING_CQ_CFG_VECTOR f i, F.RING_CQ_CFG_ENABLE f i, F.RING_CQ_STATUS_TAIL f i] s
      (s.cqConfigured f i v.toNat) :=
    ((((SameFields.refl _ s).put _).put _).put _).put _ |>.setCqHead f i 0 |>.setCqPass f i 0
  refine .of_eq answered ⟨?_, ?_, ?_, ?_, ?_, ?_, same⟩
  all_goals simp (disch := exact Shown.by_rfl rfl) [State.cqConfigured]

/-- The event queue configured and enabled by a word. -/
def State.evtQConfigured (s : State) (v : Nat) : State :=
  let s := (s.put F.EVT_Q_CFG_SIZE_LOG2 (bitsOf v 0 5)).put F.EVT_Q_CFG_VECTOR (bitsOf v 16 6)
  let s := (s.put F.EVT_Q_CFG_ENABLE 1).put F.EVT_Q_STATUS_TAIL 0
  { s with events := { s.events with head := 0, pass := 0 } }

theorem evtQCfgWrite_enables (live : s.fnLive 0 = true) (disabled : s.flag F.EVT_Q_CFG_ENABLE = false) (bit : v.toNat.testBit 31 = true)
    (none : s.events.staging = []) :
    Answers (.evtQCfgWrite v) s (fun t => t.fld F.EVT_Q_CFG_SIZE_LOG2 = bitsOf v.toNat 0 5 ∧ t.fld F.EVT_Q_CFG_VECTOR = bitsOf v.toNat 16 6 ∧
      t.flag F.EVT_Q_CFG_ENABLE = true ∧ t.fld F.EVT_Q_STATUS_TAIL = 0 ∧ t.events.head = 0 ∧
      SameFields [F.EVT_Q_CFG_SIZE_LOG2, F.EVT_Q_CFG_VECTOR, F.EVT_Q_CFG_ENABLE, F.EVT_Q_STATUS_TAIL] s t) := by
  have answered : exec (.evtQCfgWrite v) s = .next (s.evtQConfigured v.toNat) := by
    refine Eq.trans ?_ (congrArg Host.Outcome.next (State.drainStaging_none (s := s.evtQConfigured v.toNat) none))
    change execEvtQCfgWrite v s = _
    simp [execEvtQCfgWrite, State.evtQConfigured, live, disabled, bit]
  let set := ((s.put F.EVT_Q_CFG_SIZE_LOG2 (bitsOf v.toNat 0 5)).put F.EVT_Q_CFG_VECTOR (bitsOf v.toNat 16 6)).put F.EVT_Q_CFG_ENABLE 1
    |>.put F.EVT_Q_STATUS_TAIL 0
  have spec : set.fld F.EVT_Q_CFG_SIZE_LOG2 = bitsOf v.toNat 0 5 ∧ set.fld F.EVT_Q_CFG_VECTOR = bitsOf v.toNat 16 6 ∧
      set.flag F.EVT_Q_CFG_ENABLE = true ∧ set.fld F.EVT_Q_STATUS_TAIL = 0 := by
    simp (disch := exact Shown.by_rfl rfl) [set]
  have same : SameFields [F.EVT_Q_CFG_SIZE_LOG2, F.EVT_Q_CFG_VECTOR, F.EVT_Q_CFG_ENABLE, F.EVT_Q_STATUS_TAIL] s set :=
    ((((SameFields.refl _ s).put _).put _).put _).put _
  obtain ⟨size, vector, enable, tail⟩ := spec
  exact .of_eq answered ⟨size, vector, enable, tail, rfl, same.of_regs rfl⟩

end

/-- Settles O30. -/
theorem ringCommandsComplete : Obligations.RingCommandsComplete := by
  intro s
  refine ⟨fun f i v taken enabled running small ahead => ?_, fun f i v taken enabled running large => ?_, fun f i v taken disabled => ?_,
    fun f i v taken enabled small near => ?_, fun f i v taken enabled far => ?_, fun v booted live enabled small near => ?_,
    fun f i v writable disabled may bit => ?_, fun f i v writable disabled may bit => ?_, fun f i v writable enabled bit named => ?_,
    fun v live disabled bit none => ?_⟩
  · refine .of_eq (t := s.wakeLink.setSqTail f i (v.toNat % 65536)) ?_ ⟨by simp, (SameFields.refl _ s).wakeLink.of_regs rfl⟩
    change execSqTailDoorbell f i ⟨4, true, false⟩ v s = _
    simp (disch := exact Shown.by_rfl rfl) [execSqTailDoorbell, State.doorbell_wakeLink f i taken, enabled, running, Nat.not_le.mpr small, Nat.not_lt.mpr ahead]
  · obtain ⟨error, code, tail, same⟩ := State.sqError_spec (s.wakeLink.put (F.RING_SQ_STATUS_STOPPED f i) 1) f i (code := 1) (by decide)
    refine .of_eq (t := (s.wakeLink.put (F.RING_SQ_STATUS_STOPPED f i) 1).sqError f i 1) ?_ ⟨?_, error, code, ?_⟩
    · change execSqTailDoorbell f i ⟨4, true, false⟩ v s = _
      simp (disch := exact Shown.by_rfl rfl) [execSqTailDoorbell, State.doorbell_wakeLink f i taken, enabled, running, large]
    · exact (State.flag_raise_apart _ _ _ _ ⟨rfl⟩).trans (by simp (disch := exact Shown.by_rfl rfl))
    · exact tail.trans (State.sqTail_wakeLink s f i)
  · obtain ⟨error, code, tail, same⟩ := State.sqError_spec s.wakeLink f i (code := 4) (by decide)
    refine .of_eq (t := s.wakeLink.sqError f i 4) ?_ ⟨error, code, tail.trans (State.sqTail_wakeLink s f i)⟩
    change execSqTailDoorbell f i ⟨4, true, false⟩ v s = _
    simp (disch := exact Shown.by_rfl rfl) [execSqTailDoorbell, State.doorbell_wakeLink f i taken, disabled]
  · refine .of_eq (t := s.wakeLink.setCqHead f i (v.toNat % 65536)) ?_ ⟨by simp, (SameFields.refl _ s).wakeLink.of_regs rfl⟩
    change execCqHeadDoorbell f i ⟨4, true, false⟩ v s = _
    simp (disch := exact Shown.by_rfl rfl) [execCqHeadDoorbell, State.doorbell_wakeLink f i taken, enabled, Nat.not_le.mpr small, Nat.not_lt.mpr near]
  · obtain ⟨error, code, head, same⟩ := State.cqError_spec s.wakeLink f i (code := 1) (by decide)
    refine .of_eq (t := s.wakeLink.cqError f i 1) ?_ ⟨error, code, head.trans (State.cqHead_wakeLink s f i)⟩
    change execCqHeadDoorbell f i ⟨4, true, false⟩ v s = _
    simp (disch := exact Shown.by_rfl rfl) [execCqHeadDoorbell, State.doorbell_wakeLink f i taken, enabled, far]
  · exact evtQHeadDoorbell_takes booted live enabled small near
  · exact sqCfgWrite_enables writable disabled may bit
  · exact cqCfgWrite_enables writable disabled may bit
  · obtain ⟨error, code, head, same⟩ := State.cqError_spec s f i (code := 3) (by decide)
    refine .of_eq (t := s.cqError f i 3) ?_ ⟨?_, error, code⟩
    · change execCqCfgWrite f i v s = _
      simp [execCqCfgWrite, writable, enabled, bit, named]
    · exact (State.flag_raise_apart _ _ _ _ ⟨rfl⟩).trans ((State.flag_put_apart _ _ ⟨rfl⟩).trans enabled)
  · exact evtQCfgWrite_enables live disabled bit none

end Sys2Proof.Machine
end

section
/-!
PROOFS. The passage of a command from its ring to its queue, and of completion and event records to the host (R367, R368, R372–R376,
R391–R401, R405).
-/
set_option Elab.async false
namespace Sys2Proof.Machine

/-! ## Fetch -/

section
variable {s : State} {f : Fin 4} {i : Fin 32}

/-- While a ring may fetch and has credit, no credit is given anew. -/
theorem State.refillCredits_held (fetchable : s.fetchable f i = true) (credit : 0 < s.credit f i) : s.refillCredits = s := by
  have known : (f.val, i.val) ∈ allRings :=
    List.mem_flatMap.mpr ⟨f, List.mem_range.mpr f.isLt, List.mem_map.mpr ⟨i, List.mem_range.mpr i.isLt, rfl⟩⟩
  have held : allRings.any (fun r => s.fetchable r.1 r.2 && decide (0 < s.credit r.1 r.2)) = true :=
    List.any_eq_true.mpr ⟨_, known, by simp [fetchable, credit]⟩
  rw [State.refillCredits, if_pos held]

/-- A read is issued under one of the free tags. -/
theorem State.issueRead_spec {f : Nat} (s : State) (p : ReadFor) (h off addr len : Nat) (free : s.freeTags f ≠ []) :
    ∃ tag ∈ s.freeTags f, (s.issueRead f p h off addr len).pcie.reqs = s.pcie.reqs ++ [⟨f, tag, p, h, off, len, []⟩] ∧
      .memRead f tag addr len ∈ (s.issueRead f p h off addr len).sent ∧ (s.issueRead f p h off addr len).rings = s.rings ∧ SameFields [F.HIF_LINK_STATUS_PM] s (s.issueRead f p h off addr len) := by
  obtain ⟨t, ts, tags⟩ := List.exists_cons_of_ne_nil free
  unfold State.issueRead
  rw [tags]
  dsimp only
  generalize chosen : (t :: ts).getD (s.takeFree.1 % (ts.length + 1)) t = tag
  have inside : s.takeFree.1 % (ts.length + 1) < (t :: ts).length := Nat.mod_lt _ (Nat.succ_pos _)
  have mem : tag ∈ t :: ts := by
    rw [← chosen, List.getD_eq_getElem?_getD, List.getElem?_eq_getElem inside]
    exact List.getElem_mem inside
  generalize asked : ({ s.takeFree.2 with pcie := { s.takeFree.2.pcie with
    reqs := s.takeFree.2.pcie.reqs ++ [(⟨f, tag, p, h, off, len, []⟩ : ReadReq)] } } : State) = u
  obtain ⟨_, endpoint⟩ := State.emit_pcie u (.memRead f tag addr len)
  refine ⟨tag, mem, ?_, State.mem_sent_emit .., ?_, ?_⟩
  · rw [endpoint, ← asked]
    rfl
  · rw [State.emit_rings, ← asked]
    rfl
  · exact ((SameFields.refl _ s).of_regs (by rw [← asked]; rfl)).emit _

theorem ringSize_le (n : Nat) : ringSize n ≤ 65536 := by
  unfold ringSize
  split
  next range => exact Nat.pow_le_pow_right (by decide) range.2
  next => decide

theorem ringSize_pos (n : Nat) : 0 < ringSize n := by
  unfold ringSize
  split
  · exact Nat.two_pow_pos _
  · decide

theorem mod_ringSize_lt (v n : Nat) : v % ringSize n < 65536 := Nat.lt_of_lt_of_le (Nat.mod_lt _ (ringSize_pos n)) (ringSize_le n)

/-- A descriptor's handle is given out, its credit is used and the ring's head moves on, before the read is issued. -/
def State.fetchBegun (s : State) (f i : Nat) : State :=
  let given : State := { s with rings := { s.rings with
    nextHandle := s.rings.nextHandle + 1
    credit := Table.put 0 s.rings.credit (ringIx f i) (s.credit f i - 1) } }
  (given.setCmd s.rings.nextHandle { id := { fn := f, ring := i, formatL := (if s.formatL f i then 32 else 64) == 32 } }).put
    (F.RING_SQ_STATUS_HEAD f i) ((s.fld (F.RING_SQ_STATUS_HEAD f i) + 1) % s.sqSize f i)

theorem State.fetchBegun_freeTags (g : Nat) : (s.fetchBegun f i).freeTags g = s.freeTags g := rfl

theorem State.fetchBegun_head : (s.fetchBegun f i).fld (F.RING_SQ_STATUS_HEAD f i) =
    (s.fld (F.RING_SQ_STATUS_HEAD f i) + 1) % s.sqSize f i := State.fld_put_lt _ (mod_ringSize_lt ..)

theorem State.fetchBegun_same : SameFields [F.RING_SQ_STATUS_HEAD f i] s (s.fetchBegun f i) :=
  ((SameFields.refl _ s).of_regs rfl).put _

theorem descriptorFetch_reads (fetchable : s.fetchable f i = true) (credit : 0 < s.credit f i) (free : s.freeTags f ≠ []) :
    Answers (.descriptorFetch f i) s (fun t => t.rings.nextHandle = s.rings.nextHandle + 1 ∧
      t.fld (F.RING_SQ_STATUS_HEAD f i) = (s.fld (F.RING_SQ_STATUS_HEAD f i) + 1) % s.sqSize f i ∧
      (∃ tag ∈ s.freeTags f, t.pcie.reqs = s.pcie.reqs ++ [⟨f, tag, .descriptor, s.rings.nextHandle, 0,
        if s.formatL f i then 32 else 64, []⟩]) ∧ SameFields [F.RING_SQ_STATUS_HEAD f i, F.HIF_LINK_STATUS_PM] s t) := by
  obtain ⟨addr, answered⟩ : ∃ addr, exec (.descriptorFetch f i) s = .next ((s.fetchBegun f i).issueRead f .descriptor s.rings.nextHandle 0
      addr (if s.formatL f i then 32 else 64)) := by
    refine ⟨s.fld (F.RING_SQ_BASE_LO_BASE f i) * 4096 + s.fld (F.RING_SQ_BASE_HI_BASE f i) * 2 ^ 32 +
      (if s.formatL f i then 32 else 64) * s.fld (F.RING_SQ_STATUS_HEAD f i), ?_⟩
    change execDescriptorFetch f i s = _
    unfold execDescriptorFetch
    rw [State.refillCredits_held fetchable credit]
    exact if_pos ⟨fetchable, credit, by simpa using free⟩
  obtain ⟨tag, mem, reqs, _, rings, same⟩ := State.issueRead_spec (s.fetchBegun f i) .descriptor s.rings.nextHandle 0 addr
    (if s.formatL f i then 32 else 64) (State.fetchBegun_freeTags (f := f) (i := i) (s := s) f ▸ free)
  refine .of_eq answered ⟨congrArg Rings.nextHandle rings, ?_, ⟨tag, mem, reqs⟩, fun g other => ?_⟩
  · exact (same _ (by simpa using Fld.key_ne_of_id rfl)).trans State.fetchBegun_head
  · simp only [List.mem_cons, List.not_mem_nil, or_false, forall_eq_or_imp, forall_eq] at other
    exact (same g (by simpa using other.2)).trans (State.fetchBegun_same g (by simpa using other.1))

end

/-! ## Acceptance -/

section
variable {s : State} {h : Nat} {c : Cmd}

@[simp] theorem State.lateChecks_setCmd (s : State) (h : Nat) (c : Cmd) (i : CmdId) : (s.setCmd h c).lateChecks i = s.lateChecks i := rfl

/-- A command without lists that may be carried out is accepted. -/
theorem State.acceptLists_accepts (known : s.cmd h = c) (own : c.id.device = s.deviceId) (fits : s.lateChecks c.id = none)
    (src : (if c.id.formatL = true ∨ usesDptr c.op = false then true
      else if c.op = Op.snapshot then listOk c.op (c.data.src.foldl (fun a e => a + e.len) 0) c.data.src
      else if c.op = Op.calibrate then c.id.length == 0 || listOk c.op c.id.length c.data.src || c.data.src == [⟨0, 0, 0⟩]
      else if c.id.length = 0 then c.data.src.all (fun e => e.len == 0) else listOk c.op c.id.length c.data.src) = true)
    (single : c.op ≠ Op.cipherJob) : s.acceptLists h = s.setCmd h { c with phase := .accepted } := by
  have dst : (c.op != Op.cipherJob || listOk c.op c.id.length c.data.dst) = true := by simp [single]
  unfold State.acceptLists
  rw [known]
  dsimp only
  rw [src, dst, fits, if_neg (by decide), if_neg (by simp [own])]

theorem acceptance_accepts (known : s.cmd? h = some c) (fetched : c.phase = .fetched) (early : s.earlyChecks h c.id = none)
    (listless : usesDptr c.op = false) (own : c.id.device = s.deviceId) (fits : s.lateChecks c.id = none) :
    Answers (.acceptance h) s (fun t => (t.cmd h).phase = .accepted ∧ (t.cmd h).id = c.id) := by
  have single : c.op ≠ Op.cipherJob := fun job => by simp [usesDptr, job] at listless
  let first : Cmd := { c with data := { c.data with src := [c.id.dptr] } }
  let listed : Cmd := { first with data := { first.data with dst := [] } }
  have accepted := State.acceptLists_accepts (s := (s.setCmd h first).setCmd h listed)
    (State.cmd_setCmd_same ..) own fits (if_pos (.inr listless)) single
  refine .of_eq (t := State.setCmd _ h { listed with phase := .accepted }) (Eq.trans ?_ (congrArg Host.Outcome.next accepted)) ?_
  · change execAcceptance h s = _
    unfold execAcceptance
    rw [State.cmd_of_cmd? known]
    dsimp only
    rw [if_neg (by simp [fetched]), early]
    dsimp only
    rw [if_neg (by simp [listless]), if_neg (by simp [single]), State.modCmd, State.cmd?_setCmd_same]
    exact congrArg (fun l => Host.Outcome.next (((s.setCmd h first).setCmd h { first with data := { first.data with dst := l } }).acceptLists h))
      (if_neg single)
  · rw [State.cmd_setCmd_same]
    exact ⟨rfl, rfl⟩

/-- A refused command ends with its status, and its record waits. -/
theorem State.refuse_spec (known : s.cmd? h = some c) (open_ : c.phase ≠ .ended) (heard : c.mute = false) (st : Nat) :
    ((s.refuse h st).cmd h).phase = .ended ∧ ((s.refuse h st).cmd h).res.status = st ∧ (s.refuse h st).rings.records = s.rings.records ++ [h] := by
  obtain ⟨ended, records, _, _⟩ := State.finish_spec known open_ heard { status := st }
  unfold State.refuse
  rw [State.cmd_of_cmd? ended]
  exact ⟨rfl, rfl, records⟩

theorem acceptance_refuses {st : Nat} (known : s.cmd? h = some c) (fetched : c.phase = .fetched) (heard : c.mute = false)
    (early : s.earlyChecks h c.id = some st) : Answers (.acceptance h) s (fun t => (t.cmd h).phase = .ended ∧ (t.cmd h).res.status = st ∧
      t.rings.records = s.rings.records ++ [h]) := by
  refine .of_eq (t := s.refuse h st) ?_ (State.refuse_spec known (by simp [fetched]) heard st)
  change execAcceptance h s = _
  unfold execAcceptance
  rw [State.cmd_of_cmd? known]
  dsimp only
  rw [if_neg (by simp [fetched]), early]

/-- Elements whose lengths sum to nothing are empty each. -/
theorem lens_zero {es : List Elem} (zero : es.foldl (fun a e => a + e.len) 0 = 0) : es.all (fun e => e.len == 0) = true := by
  have sum : es.foldl (fun a e => a + e.len) 0 = (es.map Elem.len).sum := by
    rw [List.sum_eq_foldl, List.foldl_map]
  rw [sum, List.sum_eq_zero_iff_forall_eq_nat] at zero
  exact List.all_eq_true.mpr fun e mem => beq_iff_eq.mpr (zero _ (List.mem_map_of_mem mem))

theorem listReadDone_accepts {es : List Elem} (known : s.cmd? h = some c) (reading : c.phase = .listRead) (whole : c.segmentWhole = true)
    (source : c.data.segDst = false) (read : c.op = Op.read) (native : c.id.formatL = false)
    (elems : es = segmentElems (joinChunks c.data.bytes)) (each : es.all (fun e => e.ok && e.kind != 1) = true)
    (ok : listOk Op.read c.id.length (c.data.src ++ es) = true) (empty : c.data.dst = []) (own : c.id.device = s.deviceId) (fits : s.lateChecks c.id = none) :
    Answers (.listReadDone h) s (fun t => (t.cmd h).phase = .accepted ∧ (t.cmd h).data.src = c.data.src ++ es) := by
  let listed : Cmd := { c with data := { c.data with seg := none, bytes := [], segDst := false, src := c.data.src ++ es } }
  obtain ⟨⟨_, short⟩, sum⟩ : (_ ∧ (c.data.src ++ es).length ≤ 65536) ∧ (c.data.src ++ es).foldl (fun a e => a + e.len) 0 = c.id.length := by
    simpa only [listOk, Bool.and_eq_true, decide_eq_true_eq, beq_iff_eq] using ok
  have last (e : Elem) (final : es.getLast? = some e) : (e.kind == 1) = false := by
    have good := List.all_eq_true.mp each e (List.mem_of_getLast? final)
    simp at good
    simpa using good.2
  have good : ¬(es.any (fun e => !e.ok || e.kind == 1) = true ∨ 65536 < listed.data.src.length + listed.data.dst.length) := by
    rintro (bad | long)
    · obtain ⟨e, mem, bad⟩ := List.any_eq_true.mp bad
      have := List.all_eq_true.mp each e mem
      simp at this bad
      rcases bad with bad | bad <;> simp_all
    · simp only [listed, empty, List.length_nil] at long
      omega
  have accepted := State.acceptLists_accepts (s := s.setCmd h listed) (c := listed) (State.cmd_setCmd_same ..) own fits
    (by
      have op : listed.op = Op.read := read
      rw [op, if_neg (by simp [listed, native, usesDptr]), if_neg (by decide), if_neg (by decide)]
      split
      next zero => exact lens_zero (sum.trans zero)
      next => exact ok)
    (by rw [show listed.op = Op.read from read]; decide)
  refine .of_eq (t := State.setCmd _ h { listed with phase := .accepted }) (Eq.trans ?_ (congrArg Host.Outcome.next accepted)) ?_
  · change execListReadDone h s = _
    unfold execListReadDone
    rw [State.cmd_of_cmd? known]
    dsimp only
    rw [if_neg (by simp [reading, whole]), ← elems, source]
    cases final : es.getLast? with
    | none =>
      simp only [Bool.false_eq_true, if_false]
      rw [if_neg good, if_neg (fun job => absurd (read.symm.trans job.1) (by decide))]
    | some e =>
      simp only [last e final, Bool.false_eq_true, if_false]
      rw [if_neg good, if_neg (fun job => absurd (read.symm.trans job.1) (by decide))]
  · rw [State.cmd_setCmd_same]
    exact ⟨rfl, rfl⟩

/-! ## Dispatch -/

theorem dispatch_enqueues {q : Nat} (known : s.cmd? h = some c) (accepted : c.phase = .accepted) (turn : s.ringOrderOk h c = true)
    (own : c.id.device = s.deviceId) (fits : s.lateChecks c.id = none) (queue : s.queueFor c.id = some q) (room : s.tagsFree q ≠ 0)
    (other : c.op ≠ Op.load) : Answers (.dispatch h) s (fun t => (t.cmd h).phase = .queued ∧ (t.cmd h).queue = some q ∧
      (t.cmd h).order = s.rings.nextOrder ∧ t.rings.nextOrder = s.rings.nextOrder + 1) := by
  have bound (u : State) : (u.bindAtDispatch h).cmd h = u.cmd h ∧ (u.bindAtDispatch h).rings.nextOrder = u.rings.nextOrder := by
    unfold State.bindAtDispatch
    dsimp only
    split
    · exact ⟨rfl, rfl⟩
    · split
      · split
        · split <;> exact ⟨rfl, rfl⟩
        · exact ⟨rfl, rfl⟩
      · exact ⟨rfl, rfl⟩
  have queued : (s.enqueue h q).cmd h = { c with
      phase := .queued, queue := some q, station := if q < 8 then q else 0, order := s.rings.nextOrder, gen := s.keyGen c.id.keySlot } := by
    unfold State.enqueue
    rw [State.cmd_of_cmd? known]
    exact State.cmd_setCmd_same ..
  refine .of_eq (t := (s.enqueue h q).bindAtDispatch h) ?_ ?_
  · change execDispatch h s = _
    unfold execDispatch
    rw [State.cmd_of_cmd? known]
    dsimp only
    rw [if_neg (by simp [accepted, turn]), if_neg (by simp [own]), fits]
    dsimp only
    rw [queue]
    dsimp only
    rw [if_neg room, if_neg (by simp [other])]
  · rw [(bound _).1, (bound _).2, queued]
    exact ⟨rfl, rfl, rfl, rfl⟩

theorem dispatch_starts (known : s.cmd? h = some c) (accepted : c.phase = .accepted) (turn : s.ringOrderOk h c = true)
    (own : c.id.device = s.deviceId) (fits : s.lateChecks c.id = none) (queue : s.queueFor c.id = none) :
    Answers (.dispatch h) s (fun t => (t.cmd h).phase = .started) := by
  refine .of_eq (t := s.setCmd h { c with phase := .started }) ?_ (by rw [State.cmd_setCmd_same])
  change execDispatch h s = _
  unfold execDispatch
  rw [State.cmd_of_cmd? known]
  dsimp only
  rw [if_neg (by simp [accepted, turn]), if_neg (by simp [own]), fits]
  dsimp only
  rw [queue]

/-! ## Admission -/

@[simp] theorem State.cmd?_takeLock (s : State) (l : Option Lock) (h : Nat) : (s.takeLock l).cmd? h = s.cmd? h := by
  cases l <;> rfl

theorem State.takeLock_locks (s : State) (l : Option Lock) : (s.takeLock l).rings.locks = s.rings.locks ++ l.toList := by
  cases l
  · exact (List.append_nil _).symm
  · rfl

theorem admission_admits {q : Fin 9} (free : s.queueHeld q = false) (first : (s.waitingIn q).head? = some (h, c)) (known : s.cmd? h = some c)
    (good : s.admissionRefusal c = none) (key : (c.id.seal = true ∨ c.op = Op.cipherJob) → s.cipher.loading ≠ some c.id.keySlot)
    (granted : ∀ l ∈ s.lockNeeded h c, s.lockGrantable l = true) (other : c.op ≠ Op.write) :
    Answers (.admission q) s (fun t => (t.cmd h).phase = .admitted ∧ t.rings.locks = s.rings.locks ++ (s.lockNeeded h c).toList) := by
  obtain ⟨rest, waiting⟩ : ∃ rest, s.waitingIn q = (h, c) :: rest := by
    cases list : s.waitingIn q with
    | nil => simp [list] at first
    | cons e rest => exact ⟨rest, by simpa [list] using first⟩
  have grant : (match s.lockNeeded h c with | some l => s.lockGrantable l | none => true) = true := by
    cases needed : s.lockNeeded h c with
    | none => rfl
    | some l => exact granted l needed
  refine .of_eq (t := s.admitCmd h (s.lockNeeded h c)) ?_ ?_
  · change execAdmission q s = _
    unfold execAdmission
    rw [free, waiting]
    dsimp only
    rw [if_neg (by simp), good]
    dsimp only
    rw [if_neg (fun ⟨k, l⟩ => key k l), if_neg other]
    exact if_neg fun refused => absurd (grant.symm.trans refused) (by decide)
  · have admitted : s.admitCmd h (s.lockNeeded h c) = (s.takeLock (s.lockNeeded h c)).setCmd h { c with phase := .admitted } := by
      unfold State.admitCmd State.modCmd
      rw [State.cmd?_takeLock, known]
    rw [admitted, State.cmd_setCmd_same]
    exact ⟨rfl, State.takeLock_locks ..⟩

end

/-! ## Completion records -/

/-- The counters that a completed command adds to. -/
abbrev completionCounters : List Fld :=
  [F.CCH_HIT_LO_COUNT, F.CCH_HIT_HI_COUNT, F.CCH_MISS_LO_COUNT, F.CCH_MISS_HI_COUNT, F.CCH_RESCUE_LO_COUNT, F.CCH_RESCUE_HI_COUNT,
    F.CCH_RA_CLAIMED_LO_COUNT, F.CCH_RA_CLAIMED_HI_COUNT, F.CIP_JOB_BLOCKS_LO_COUNT, F.CIP_JOB_BLOCKS_HI_COUNT, F.CIP_AUTH_FAIL_LO_COUNT,
    F.CIP_AUTH_FAIL_HI_COUNT]

theorem State.completionCounts_same (s : State) (c : Cmd) : SameFields completionCounters s (s.completionCounts c) := by
  unfold State.completionCounts
  extract_lets n hits misses rescues claims jobs failed
  have counted : SameFields completionCounters s jobs :=
    SameFields.whenever (((((SameFields.refl completionCounters s).count _).count _).count _).count _) fun u h => h.count _
  split
  · exact counted
  · exact (counted.count _).post _ _ _

/-- A completed command adds to counters only: a ring's field stays. -/
theorem State.fld_completionCounts (s : State) (c : Cmd) {g : Fld} (apart : ∀ f ∈ completionCounters, g.Apart f) :
    (s.completionCounts c).fld g = s.fld g :=
  State.completionCounts_same s c g fun f mem => Fld.key_ne_of_id (Bool.not_eq_true' _ ▸ (apart f mem).eq_true)

/-- A command that is dropped is gone, whatever aborts are released. -/
theorem State.dropCmd_gone (s : State) (h k : Nat) : ((s.dropCmd h).releaseAborts k).cmd? h = none := by
  have gone : (s.dropCmd h).cmd? h = none := Table.at_put_same none s.rings.cmds h none
  have dropped (t : State) (k : Nat) (none_ : t.cmd? h = none) : (t.dropCmd k).cmd? h = none := by
    have at_ : (t.dropCmd k).cmd? h = if h = k then none else t.cmd? h := Table.at_put none t.rings.cmds k h none
    rw [at_, none_, ite_self]
  have finished (t : State) (k : Nat) (r : CmdResult) (none_ : t.cmd? h = none) : (t.finish k r).cmd? h = none := by
    unfold State.finish
    split
    · exact none_
    next c known =>
      have other : h ≠ k := by
        rintro rfl
        simp [none_] at known
      split
      · exact none_
      · split
        · exact dropped t k none_
        · exact (State.cmd?_setCmd_ne t k _ other).trans none_
  unfold State.releaseAborts
  refine State.forEach_keeps (P := fun t => t.cmd? h = none) gone _ fun t e none_ => ?_
  dsimp only
  split
  · exact finished t _ _ none_
  · exact none_

/-- A completion record written where the ring's tail stands. -/
def State.recordSent (s : State) (f i h : Nat) : State :=
  let c := s.cmd h
  let counted := s.completionCounts c
  counted.emit (.memWrite f (s.fld (F.RING_CQ_BASE_LO_BASE f i) * 4096 + s.fld (F.RING_CQ_BASE_HI_BASE f i) * 2 ^ 32 +
    16 * s.fld (F.RING_CQ_STATUS_TAIL f i)) (completionBytes c c.id.ring (counted.fld (F.RING_SQ_STATUS_HEAD c.id.fn c.id.ring)) (s.cqPass f i % 2 == 0))
    false false)

/-- The ring's next tail. -/
def State.recordTail (s : State) (f i h : Nat) : Nat := (s.fld (F.RING_CQ_STATUS_TAIL f i) + 1) % (s.recordSent f i h).cqSize f i

/-- The tail moved on behind the record, and the ring's pass with it where the tail comes round. -/
def State.recordWritten (s : State) (f i h : Nat) : State :=
  ((s.recordSent f i h).put (F.RING_CQ_STATUS_TAIL f i) (s.recordTail f i h)).when (s.recordTail f i h == 0)
    fun u => u.setCqPass f i (u.cqPass f i + 1)

section
variable (s : State) (f i h : Nat)

theorem State.recordTail_eq : s.recordTail f i h = (s.fld (F.RING_CQ_STATUS_TAIL f i) + 1) % s.cqSize f i := by
  unfold State.recordTail State.recordSent State.cqSize
  rw [State.fld_emit_apart _ _ ⟨rfl⟩, State.fld_completionCounts s _ (by simp only [completionCounters, List.forall_mem_cons]; exact
    ⟨⟨rfl⟩, ⟨rfl⟩, ⟨rfl⟩, ⟨rfl⟩, ⟨rfl⟩, ⟨rfl⟩, ⟨rfl⟩, ⟨rfl⟩, ⟨rfl⟩, ⟨rfl⟩, ⟨rfl⟩, ⟨rfl⟩, by simp⟩)]

theorem State.recordWritten_tail : (s.recordWritten f i h).fld (F.RING_CQ_STATUS_TAIL f i) =
    (s.fld (F.RING_CQ_STATUS_TAIL f i) + 1) % s.cqSize f i := by
  unfold State.recordWritten
  rw [State.fld_when _ rfl, State.fld_put_lt _ (mod_ringSize_lt ..), State.recordTail_eq]

theorem State.recordSent_sent : .memWrite f (s.fld (F.RING_CQ_BASE_LO_BASE f i) * 4096 + s.fld (F.RING_CQ_BASE_HI_BASE f i) * 2 ^ 32 +
    16 * s.fld (F.RING_CQ_STATUS_TAIL f i)) (completionBytes (s.cmd h) (s.cmd h).id.ring (s.fld (F.RING_SQ_STATUS_HEAD (s.cmd h).id.fn (s.cmd h).id.ring))
    (s.cqPass f i % 2 == 0)) false false ∈ (s.recordSent f i h).sent := by
  rw [← State.fld_completionCounts s (s.cmd h) (g := F.RING_SQ_STATUS_HEAD (s.cmd h).id.fn (s.cmd h).id.ring)
    (by simp only [completionCounters, List.forall_mem_cons]; exact
      ⟨⟨rfl⟩, ⟨rfl⟩, ⟨rfl⟩, ⟨rfl⟩, ⟨rfl⟩, ⟨rfl⟩, ⟨rfl⟩, ⟨rfl⟩, ⟨rfl⟩, ⟨rfl⟩, ⟨rfl⟩, ⟨rfl⟩, by simp⟩)]
  exact State.mem_sent_emit ..

theorem State.recordWritten_sent : (s.recordWritten f i h).sent = (s.recordSent f i h).sent := by
  unfold State.recordWritten
  cases s.recordTail f i h == 0 <;> rfl

end

theorem completionRecord_writes {s : State} {f : Fin 4} {i : Fin 32} {h : Nat} (tree : s.chainRecord = none) (next : s.nextRecord f i = some h)
    (enabled : s.flag (F.RING_CQ_CFG_ENABLE f i) = true) (room : s.cqFull f i = false) (live : s.fnLive f = true) :
    Answers (.completionRecord f i) s (fun t => t.fld (F.RING_CQ_STATUS_TAIL f i) = (s.fld (F.RING_CQ_STATUS_TAIL f i) + 1) % s.cqSize f i ∧
      .memWrite f (s.fld (F.RING_CQ_BASE_LO_BASE f i) * 4096 + s.fld (F.RING_CQ_BASE_HI_BASE f i) * 2 ^ 32 +
        16 * s.fld (F.RING_CQ_STATUS_TAIL f i)) (completionBytes (s.cmd h) (s.cmd h).id.ring
        (s.fld (F.RING_SQ_STATUS_HEAD (s.cmd h).id.fn (s.cmd h).id.ring)) (s.cqPass f i % 2 == 0)) false false ∈ t.sent ∧ t.cmd? h = none) := by
  obtain ⟨vector, urgent, answered⟩ : ∃ vector urgent, exec (.completionRecord f i) s =
      .next ((((s.recordWritten f i h).signal f vector urgent).dropCmd h).releaseAborts h) := by
    refine ⟨(s.recordWritten f i h).fld (F.RING_CQ_CFG_VECTOR f i), decide (0x10 ≤ (s.cmd h).res.status), ?_⟩
    change execCompletionRecord f i s = _
    unfold execCompletionRecord
    rw [tree]
    dsimp only
    rw [next]
    exact if_pos ⟨enabled, room, live⟩
  generalize signalled : (s.recordWritten f i h).signal f vector urgent = told at answered
  have frame : Frame (allBut [.ringRegs, .sent]) told ((told.dropCmd h).releaseAborts h) :=
    State.releaseAborts_frame (State.dropCmd_frame (.refl _ told) h (within_of (by decide))) h (within_of (by decide))
  have same : SameFields [F.HIF_LINK_STATUS_PM] (s.recordWritten f i h) told := signalled ▸ (SameFields.refl _ _).signal _ _ _
  have sent : (s.recordWritten f i h).sent <+: told.sent := signalled ▸ (State.signal_steady (.refl _) f vector urgent).sent
  refine .of_eq answered ⟨?_, ?_, State.dropCmd_gone told h h⟩
  · rw [frame.fld .ringRegs (F.RING_CQ_STATUS_TAIL f i), same _ (by simpa using Fld.key_ne_of_id rfl), State.recordWritten_tail]
  · rw [frame .sent rfl]
    exact sent.subset (State.recordWritten_sent s f i h ▸ State.recordSent_sent s f i h)

/-! ## Events -/

theorem State.writeEvent_tail (s : State) (e : EventRec) :
    (s.writeEvent e).fld F.EVT_Q_STATUS_TAIL = (s.fld F.EVT_Q_STATUS_TAIL + 1) % s.evtSize := by
  unfold State.writeEvent
  extract_lets tail base sent next told events passed
  have size : sent.evtSize = s.evtSize := by simp (disch := exact Shown.by_rfl rfl) [sent, State.evtSize]
  have written : passed.fld F.EVT_Q_STATUS_TAIL = next := State.fld_put_lt sent (mod_ringSize_lt ..)
  have kept := (SameFields.refl [F.HIF_LINK_STATUS_PM] passed).signal 0 (passed.fld F.EVT_Q_CFG_VECTOR) true (by simp) F.EVT_Q_STATUS_TAIL
    (by simpa using Fld.key_ne_of_id rfl)
  rw [kept, written, ← size]

theorem State.writeEvent_sent (s : State) (e : EventRec) :
    .memWrite 0 (s.fld F.EVT_Q_BASE_LO_BASE * 4096 + s.fld F.EVT_Q_BASE_HI_BASE * 2 ^ 32 + 32 * s.fld F.EVT_Q_STATUS_TAIL)
      (eventBytes e (s.events.pass % 2 == 0)) false false ∈ (s.writeEvent e).sent := by
  unfold State.writeEvent
  extract_lets tail base sent next told events passed
  exact (State.signal_steady (.refl passed) 0 (passed.fld F.EVT_Q_CFG_VECTOR) true).sent.subset (State.mem_sent_emit s _)

theorem eventRecord_writes {s : State} {e : EventRec} {rest : List EventRec} (posted : s.events.posted = e :: rest) (root : s.root = true)
    (writable : s.evtOpen = true) (unstaged : s.events.staging = []) :
    Answers .eventRecord s (fun t => t.events.posted = rest ∧ t.fld F.EVT_Q_STATUS_TAIL = (s.fld F.EVT_Q_STATUS_TAIL + 1) % s.evtSize ∧
      .memWrite 0 (s.fld F.EVT_Q_BASE_LO_BASE * 4096 + s.fld F.EVT_Q_BASE_HI_BASE * 2 ^ 32 + 32 * s.fld F.EVT_Q_STATUS_TAIL)
      (eventBytes e (s.events.pass % 2 == 0)) false false ∈ t.sent ∧ SameFields [F.EVT_Q_STATUS_TAIL, F.HIF_LINK_STATUS_PM] s t) := by
  let taken : State := { s with events := { s.events with posted := rest } }
  have answered : exec .eventRecord s = .next (taken.writeEvent e) := by
    change execEventRecord s = _
    unfold execEventRecord
    rw [posted]
    dsimp only
    rw [if_neg (by simp [root])]
    exact if_pos ⟨writable, by simp [unstaged]⟩
  obtain ⟨pass, vecs, events⟩ := State.writeEvent_events taken e
  exact .of_eq answered ⟨congrArg Events.posted events, State.writeEvent_tail taken e, State.writeEvent_sent taken e, State.writeEvent_same taken e⟩

theorem eventsLost_tells {s : State} (lost : 0 < s.events.lostNow) (first : s.events.beforeLoss = 0) (room : 16 ≤ s.evtFree) (writable : s.evtOpen = true) :
    Answers .eventsLost s (fun t => t.events.lostNow = 0 ∧ t.events.posted = s.events.posted) := by
  obtain ⟨told, none_, answered⟩ : ∃ told : State, told.events.lostNow = 0 ∧ exec .eventsLost s = .next (State.drainStaging told.events.staging.length
      { told with events := { told.events with posted := s.events.posted } }) := by
    let cleared : State := { s with events := { s.events with posted := [], lostNow := 0 } }
    let posted := cleared.post 0x0F02 srcSystem (leBytes 4 (min s.events.lostNow 0xFFFFFFFF))
    have none_ : posted.events.lostNow = 0 := by
      change (State.post _ _ _ _).events.lostNow = 0
      unfold State.post
      dsimp only
      split <;> rfl
    refine ⟨posted.forEach posted.events.posted State.writeEvent, State.forEach_keeps (P := fun t => t.events.lostNow = 0) none_ _ fun t e h => ?_,
      if_pos ⟨lost, first, room, writable⟩⟩
    obtain ⟨_, _, events⟩ := State.writeEvent_events t e
    rw [events]
    exact h
  refine .of_eq answered ?_
  obtain ⟨_, _, _, _, drained⟩ := State.drainStaging_events told.events.staging.length { told with events := { told.events with posted := s.events.posted } }
  rw [drained]
  exact ⟨none_, rfl⟩

theorem clearAll_clears (s : State) :
    Answers .clearAll s (fun t => (∀ i ∈ counterFields, ∀ ix : Fin 256, t.fld ⟨i, ix, 32, 0⟩ = 0) ∧ t.events.saturated = []) := by
  refine .of_eq rfl ⟨fun i counter ix => ?_, rfl⟩
  have small : i < 1024 := (by decide : ∀ i ∈ counterFields, i < 1024) i counter
  have own : (⟨i, ix, 32, 0⟩ : Fld).key % 1024 = i := (Fld.key_mod _).trans (Nat.mod_eq_of_lt small)
  refine Table.get_filter_out _ _ _ _ fun v => ?_
  simp only [own, List.contains_eq_mem, counter, decide_true, Bool.not_true]

/-- Settles O31. -/
theorem commandIntakeCommandsComplete : Obligations.CommandIntakeCommandsComplete := by
  intro s
  refine ⟨fun f i fetchable credit free => descriptorFetch_reads fetchable credit free,
    fun h c known fetched _ early listless own fits => acceptance_accepts known fetched early listless own fits,
    fun h c st known fetched heard early => acceptance_refuses known fetched heard early,
    fun h c es known reading whole source empty read native elems each ok own fits =>
      listReadDone_accepts known reading whole source read native elems each ok empty own fits,
    fun h c q known accepted turn own fits queue room other => dispatch_enqueues known accepted turn own fits queue room other,
    fun h c known accepted turn own fits queue => dispatch_starts known accepted turn own fits queue,
    fun q h c free first known good key granted other => admission_admits free first known good key granted other,
    fun f i h tree next enabled room live => completionRecord_writes tree next enabled room live,
    fun e rest posted root writable unstaged => eventRecord_writes posted root writable unstaged,
    fun lost first room writable => eventsLost_tells lost first room writable, clearAll_clears s⟩

end Sys2Proof.Machine
end

section
/-!
PROOFS. What the commands of a ring do when they begin (R325, R331, R339, R357, R370, R380, R383).
-/
set_option Elab.async false
namespace Sys2Proof.Machine

section
variable {s : State} {h : Nat} {c : Cmd}

theorem Cmd.mayStart_spec {op : Nat} (may : c.mayStart op = true) : c.id.op = op ∧ c.phase = .admitted ∧ c.started = false := by
  simpa [Cmd.mayStart, and_assoc] using may

theorem Cmd.mayRun_spec {op : Nat} (may : c.mayRun op = true) : c.id.op = op ∧ c.phase = .started ∧ c.started = false := by
  simpa [Cmd.mayRun, and_assoc] using may

/-! ## Blocks that no entry holds -/

theorem State.ask_missing {b : Nat} (missing : s.tagOf (s.cmd h).id.mslot b = none) : s.ask h b false = s := by
  unfold State.ask State.askWrite State.askRead
  dsimp only
  split
  · rfl
  · split
    · rw [missing]
      rfl
    · split
      · split
        · rfl
        · rw [missing]
          rfl
      · rfl

/-- A VERIFY takes no entry that holds its block. -/
theorem State.ask_verify {b : Nat} (verify : (s.cmd h).op = Op.verify) : s.ask h b false = s := by
  unfold State.ask State.askRead
  dsimp only
  rw [verify]
  simp

/-- A command that begins: it waits for its blocks. -/
def State.begun (s : State) (h : Nat) (c : Cmd) : State :=
  s.setCmd h { c with started := true, data := { c.data with waiting := s.blocksOf c } }

theorem State.cmd_begun : (s.begun h c).cmd h = { c with started := true, data := { c.data with waiting := s.blocksOf c } } := State.cmd_setCmd_same ..

/-- A command whose blocks no entry holds waits for all of them. -/
theorem State.begin_missing (known : s.cmd? h = some c) (missing : ∀ b ∈ s.blocksOf c, s.tagOf c.id.mslot b = none) : s.begin h = s.begun h c := by
  unfold State.begin
  rw [State.cmd_of_cmd? known]
  refine State.forEach_eq_self (s := s.begun h c) fun b mem => State.ask_missing ?_
  rw [State.cmd_begun]
  exact missing b mem

theorem State.begin_verify (known : s.cmd? h = some c) (verify : c.op = Op.verify) : s.begin h = s.begun h c := by
  unfold State.begin
  rw [State.cmd_of_cmd? known]
  refine State.forEach_eq_self (s := s.begun h c) fun b mem => State.ask_verify ?_
  rw [State.cmd_begun]
  exact verify

/-- A command that uses no entry yet gathers nothing. -/
theorem State.pump_unused (unused : (s.cmd h).data.uses = []) : s.pump h = s := by
  have none_ : s.gatherPlace (s.cmd h) = none := by
    unfold State.gatherPlace State.placeOf Cmd.useOf
    rw [unused]
    split <;> rfl
  unfold State.pump
  dsimp only
  rw [none_]
  exact ite_self _

/-- A READ is neither a PRELOAD nor a VERIFY. -/
theorem fillsNothing {c : Cmd} (read : c.op = Op.read) : ¬(c.op = Op.preload ∨ c.op = Op.verify) := by
  rw [read]
  decide

/-! ## A hit -/

/-- A VALID entry that no report is withheld for and that a command hits. -/
theorem State.hitEntry_valid {b e : Nat} (known : s.cmd? h = some c) (valid : (s.entry e).st = .valid) (seen : (s.entry e).spec = false)
    (told : (s.entry e).withheld = []) (read : c.op = Op.read) (plain : c.id.seal = false) (idle : ∀ w ∈ s.cipher.work, w.ready = false) :
    ((s.hitEntry h b e false).cmd h).data.uses = c.data.uses ++ [⟨b, e, true, false, false⟩] ∧
      ((s.hitEntry h b e false).cmd h).data.waiting = c.data.waiting.filter (fun a => a != b) ∧ h ∈ ((s.hitEntry h b e false).entry e).readers := by
  let claimed := s.claim h e c.cls
  let used := claimed.useEntry h ⟨b, e, true, false, false⟩
  have claim : claimed = (s.setEntry e { s.entry e with
      cls := c.cls, spec := false, withheld := [], readers := (s.entry e).readers ++ [h] }).touch e := by
    change (State.forEach _ _ _).touch e = _
    rw [told]
    rfl
  have rings : claimed.rings = s.rings := by rw [claim]; rfl
  have cipher : used.cipher.work = s.cipher.work := by
    change claimed.cipher.work = _
    rw [claim]
    rfl
  have cmd : used.cmd h = { c with data := { c.data with
      uses := c.data.uses ++ [⟨b, e, true, false, false⟩], waiting := c.data.waiting.filter (fun a => a != b) } } := by
    have held : claimed.cmd h = c := State.cmd_of_cmd? ((State.cmd?_of_rings rings h).trans known)
    change (State.setCmd claimed h _).cmd h = _
    rw [State.cmd_setCmd_same, held]
  have served : used.serveBlock h b = used := by
    have offered : used.forEach (used.sectorsIn (used.cmd h) b) (fun s k => s.offerUnseal h k) = used :=
      State.forEach_eq_self fun k _ => if_pos (.inl (by rw [cmd]; exact plain))
    unfold State.serveBlock
    rw [offered]
    dsimp only
    rw [State.refillEngines_idle (by rw [cipher]; exact idle)]
    unfold State.tryEndFill
    rw [cmd]
    exact if_neg (by
      have : ({ c with data := { c.data with
        uses := c.data.uses ++ [⟨b, e, true, false, false⟩], waiting := c.data.waiting.filter (fun a => a != b) } } : Cmd).op = Op.read := read
      exact fun all => fillsNothing this all.1)
  have hit : s.hitEntry h b e false = used := by
    unfold State.hitEntry
    rw [State.cmd_of_cmd? known]
    dsimp only
    rw [valid, seen, show (EntryState.valid == EntryState.filling) = false from rfl]
    simp only [State.when, Bool.false_eq_true, if_false]
    exact served
  rw [hit, cmd]
  refine ⟨rfl, rfl, ?_⟩
  have reader : h ∈ (claimed.entry e).readers := by
    rw [claim, State.entry_touch_same, State.entry_setEntry_same]
    simp
  change h ∈ ((State.modEntry _ e _).entry e).readers
  unfold State.modEntry
  rw [State.entry_setEntry_same]
  dsimp only
  split
  · exact reader
  · simp

/-- A READ that finds its block in a VALID entry of its class hits it. -/
theorem State.ask_hits {b e : Nat} (known : s.cmd h = c) (read : c.op = Op.read) (admitted : c.phase = .admitted) (waits : b ∈ c.data.waiting)
    (tag : s.tagOf c.id.mslot b = some e) (valid : (s.entry e).st = .valid) (enabled : s.cacheEnabled = true)
    (mask : s.inMask (fnClass c.id.fn) e = true) : s.ask h b false = s.hitEntry h b e false := by
  have cls : c.cls = fnClass c.id.fn := by
    unfold Cmd.cls
    rw [read]
    rfl
  unfold State.ask State.askRead
  rw [known]
  dsimp only
  rw [if_neg (by simp [admitted, waits]), if_neg (by rw [read]; decide), if_pos (.inl read), if_neg (by rw [read]; decide), tag]
  dsimp only
  rw [if_neg (by rw [enabled]; decide), if_pos (by rw [cls]; exact mask), if_neg (by rw [valid]; decide)]

theorem read_hits {e : Nat} (known : s.cmd? h = some c) (may : c.mayStart Op.read = true)
    (one : s.blocksOf c = [(s.disc c.station).blockOf c.id.lba]) (tag : s.tagOf c.id.mslot ((s.disc c.station).blockOf c.id.lba) = some e)
    (valid : (s.entry e).st = .valid) (enabled : s.cacheEnabled = true) (mask : s.inMask (fnClass c.id.fn) e = true)
    (seen : (s.entry e).spec = false) (told : (s.entry e).withheld = []) (plain : c.id.seal = false)
    (idle : ∀ w ∈ s.cipher.work, w.ready = false) :
    Answers (.read h) s (fun t => (t.cmd h).data.uses = c.data.uses ++ [⟨(s.disc c.station).blockOf c.id.lba, e, true, false, false⟩] ∧
      (t.cmd h).data.waiting = [] ∧ h ∈ (t.entry e).readers) := by
  obtain ⟨op, admitted, unstarted⟩ := Cmd.mayStart_spec may
  have read : c.op = Op.read := by rw [Cmd.op, op]; rfl
  generalize block : (s.disc c.station).blockOf c.id.lba = b at *
  obtain ⟨uses, waiting, reader⟩ := State.hitEntry_valid (s := s.begun h c) (b := b) (e := e) (State.cmd?_setCmd_same ..) valid seen told read plain idle
  refine .of_eq (t := (s.begun h c).hitEntry h b e false) ?_ ⟨uses, ?_, reader⟩
  · change execRead h s = _
    unfold execRead
    rw [State.cmd_of_cmd? known, may, if_pos rfl]
    have asked : (s.begun h c).ask h b false = (s.begun h c).hitEntry h b e false :=
      State.ask_hits State.cmd_begun read admitted (by simp [one]) tag valid enabled mask
    unfold State.begin
    rw [State.cmd_of_cmd? known]
    change Host.Outcome.next (State.forEach (s.begun h c) (s.blocksOf c) fun s b => s.ask h b false) = _
    rw [one]
    exact congrArg Host.Outcome.next asked
  · rw [waiting, one]
    simp

/-! ## FLUSH -/

theorem State.closeBlocks_self {st m : Nat} {bs : List Nat} (closed : ∀ x ∈ bs, s.closeBlock st m x = (s, 0)) :
    bs.foldl (fun (acc : State × Nat) b => ((acc.1.closeBlock st m b).1, acc.2 + (acc.1.closeBlock st m b).2)) (s, 0) = (s, 0) := by
  induction bs with
  | nil => rfl
  | cons b bs ih =>
    rw [List.foldl_cons, closed b List.mem_cons_self]
    exact ih fun x mem => closed x (List.mem_cons_of_mem _ mem)

/-- A FLUSH whose blocks need no pads begins by waiting for them. -/
theorem State.flush_waits (known : s.cmd? h = some c) (closed : ∀ x ∈ s.flushBlocks h, s.closeBlock c.station c.id.mslot x = (s, 0)) :
    s.flush h = (s.setCmd h { c with started := true, data := { c.data with waiting := s.flushBlocks h, pads := 0 } }).tryEndFlush h := by
  unfold State.flush
  rw [State.cmd_of_cmd? known]
  dsimp only
  rw [State.closeBlocks_self closed]

/-- A FLUSH that finds nothing to wait for ends. -/
theorem State.flush_ends (known : s.cmd? h = some c) (flush : c.op = Op.flush) (admitted : c.phase = .admitted) (heard : c.mute = false)
    (none_ : s.flushBlocks h = []) (good : c.data.badBlocks = []) :
    ((s.flush h).cmd h).phase = .ended ∧ ((s.flush h).cmd h).res.status = Status.success ∧ (s.flush h).rings.records = s.rings.records ++ [h] := by
  let waits : Cmd := { c with started := true, data := { c.data with waiting := [], pads := 0 } }
  have ends : s.flush h = (s.setCmd h waits).endCmd h false { status := Status.success, detail := 0 } := by
    rw [State.flush_waits known (by simp [none_]), none_]
    unfold State.tryEndFlush
    rw [State.cmd_setCmd_same]
    have op : waits.op = Op.flush := flush
    have bad : leastBy id c.data.badBlocks = none := by rw [good]; rfl
    dsimp only
    rw [if_pos ⟨op, admitted, rfl, rfl⟩, bad]
    rfl
  obtain ⟨ended, result, records⟩ := State.endCmd_spec (s := s.setCmd h waits) (c := waits) (State.cmd?_setCmd_same ..)
    (by rw [show waits.phase = .admitted from admitted]; decide) heard false { status := Status.success, detail := 0 }
  rw [ends, result]
  exact ⟨ended, rfl, records⟩

theorem State.flush_pending {b : Nat} (known : s.cmd? h = some c) (mem : b ∈ s.flushBlocks h)
    (closed : ∀ x ∈ s.flushBlocks h, s.closeBlock c.station c.id.mslot x = (s, 0)) (pending : s.blockPending c.id.mslot b = true) :
    s.flush h = s.setCmd h { c with started := true, data := { c.data with waiting := s.flushBlocks h, pads := 0 } } := by
  rw [State.flush_waits known closed]
  unfold State.tryEndFlush
  rw [State.cmd_setCmd_same]
  refine if_neg fun ⟨_, _, _, idle⟩ => ?_
  have done := List.all_eq_true.mp idle b mem
  exact absurd ((Bool.not_eq_true' _).mp done : s.blockPending c.id.mslot b = false) (by simp [pending])

/-! ## ABORT -/

theorem abort_stops {g : Nat} {x : Cmd} (known : s.cmd? h = some c) (may : c.mayRun Op.abort = true) (target : s.abortTarget h = some (g, x))
    (knownTarget : s.cmd? g = some x) (other : g ≠ h) (queued : x.phase = .queued) (heard : x.mute = false) (noAbort : x.op ≠ Op.abort) :
    Answers (.abort h) s (fun t => (t.cmd g).phase = .ended ∧ (t.cmd g).res.status = Status.aborted ∧ t.rings.records = s.rings.records ++ [g] ∧
      (t.cmd h).target = some g ∧ (t.cmd h).res.detail = abortCaught) := by
  let waits : Cmd := { c with started := true, target := some g, res := { c.res with detail := abortCaught } }
  have target? : (s.setCmd h waits).cmd? g = some x := (State.cmd?_setCmd_ne s h waits other).trans knownTarget
  have past : x.pastAbort = false := by simp [Cmd.pastAbort, Cmd.live, queued]
  have stopped : (s.setCmd h waits).stopAny g Status.aborted = (s.setCmd h waits).finish g { status := Status.aborted } := by
    unfold State.stopAny State.stopCmd
    rw [State.cmd_of_cmd? target?]
    simp [Cmd.live, queued]
  obtain ⟨ended, records, others, _⟩ := State.finish_spec target? (by simp [queued]) heard { status := Status.aborted }
  refine .of_eq (t := (s.setCmd h waits).finish g { status := Status.aborted }) (Eq.trans ?_ (congrArg Host.Outcome.next stopped)) ?_
  · change execAbort h s = _
    unfold execAbort
    rw [State.cmd_of_cmd? known]
    dsimp only
    rw [may, if_neg (by simp), target]
    dsimp only
    rw [if_neg noAbort, if_neg (by simp [queued]), past, if_neg (by simp), if_neg (by simp [queued])]
  · have kept := (others h other.symm).trans (State.cmd?_setCmd_same ..)
    rw [State.cmd_of_cmd? ended, State.cmd_of_cmd? kept]
    exact ⟨rfl, rfl, records, rfl, rfl⟩

theorem abort_untagged (known : s.cmd? h = some c) (may : c.mayRun Op.abort = true) (heard : c.mute = false) (target : s.abortTarget h = none) :
    Answers (.abort h) s (fun t => (t.cmd h).phase = .ended ∧ (t.cmd h).res.status = Status.success ∧ (t.cmd h).res.detail = abortNoTag) := by
  obtain ⟨_, started, _⟩ := Cmd.mayRun_spec may
  obtain ⟨ended, _, _, _⟩ := State.finish_spec known (by simp [started]) heard { status := Status.success, detail := abortNoTag }
  refine .of_eq (t := s.finish h { status := Status.success, detail := abortNoTag }) ?_ (by rw [State.cmd_of_cmd? ended]; exact ⟨rfl, rfl, rfl⟩)
  change execAbort h s = _
  unfold execAbort
  rw [State.cmd_of_cmd? known]
  dsimp only
  rw [may, if_neg (by simp), target]

/-! ## Source reads -/

/-- A command's source is read once: the read is issued under a free tag, and the command knows what it has asked for. -/
theorem State.issueSource_spec {p : ReadFor} {limit addr n : Nat} (known : s.cmd? h = some c) (free : s.freeTags c.id.fn ≠ [])
    (live : s.fnLive c.id.fn = true) (next : s.nextRead c limit = some (addr, n)) :
    ((State.issueSource h p limit 1 s).cmd h) = { c with data := { c.data with nextRead := c.data.nextRead + n } } ∧
      ∃ tag ∈ s.freeTags c.id.fn, (State.issueSource h p limit 1 s).pcie.reqs = s.pcie.reqs ++ [⟨c.id.fn, tag, p, h, c.data.nextRead, n, []⟩] ∧
        .memRead c.id.fn tag addr n ∈ (State.issueSource h p limit 1 s).sent := by
  obtain ⟨tag, mem, reqs, sent, rings, _⟩ := State.issueRead_spec s p h c.data.nextRead addr n free
  have issued : State.issueSource h p limit 1 s = (s.issueRead c.id.fn p h c.data.nextRead addr n).setCmd h
      { c with data := { c.data with nextRead := c.data.nextRead + n } } := by
    unfold State.issueSource
    rw [State.cmd_of_cmd? known]
    dsimp only
    rw [if_neg (by simp [free, live]), next]
    dsimp only
    unfold State.issueSource State.modCmd
    rw [State.cmd?_of_rings rings, known]
  rw [issued]
  exact ⟨State.cmd_setCmd_same .., tag, mem, reqs, sent⟩

theorem cipherJob_reads {addr n : Nat} (known : s.cmd? h = some c) (may : c.mayStart Op.cipherJob = true) (live : s.fnLive c.id.fn = true)
    (free : s.freeTags c.id.fn ≠ []) (unread : s.pcie.reqs.any (fun r => r.cmd == h && r.purpose == .job) = false)
    (next : s.nextRead c (16 * c.id.nblkJob) = some (addr, n)) :
    Answers (.cipherJob h) s (fun t => (t.cmd h).started = true ∧ (t.cmd h).data.nextRead = c.data.nextRead + n ∧
      (∃ tag ∈ s.freeTags c.id.fn, t.pcie.reqs = s.pcie.reqs ++ [⟨c.id.fn, tag, .job, h, c.data.nextRead, n, []⟩] ∧
        .memRead c.id.fn tag addr n ∈ t.sent)) := by
  obtain ⟨op, admitted, _⟩ := Cmd.mayStart_spec may
  let starts : Cmd := { c with started := true }
  have job : starts.op = Op.cipherJob := by rw [show starts.op = nativeOp c.id.op from rfl, op]; rfl
  obtain ⟨cmd, tag, mem, reqs, sent⟩ := State.issueSource_spec (s := s.setCmd h starts) (c := starts) (p := .job) (State.cmd?_setCmd_same ..) free live next
  refine .of_eq (t := State.issueSource h .job (16 * c.id.nblkJob) 1 (s.setCmd h starts)) ?_ ⟨by rw [cmd], by rw [cmd], tag, mem, reqs, sent⟩
  change execCipherJob h s = _
  unfold execCipherJob
  rw [State.cmd_of_cmd? known]
  dsimp only
  rw [may, if_pos rfl]
  unfold State.pumpJob
  rw [State.cmd_setCmd_same]
  dsimp only
  rw [if_neg (by rintro (a | b | d) <;> simp_all [starts]), if_neg (by rw [show (s.setCmd h starts).pcie = s.pcie from rfl, unread]; simp)]

end

/-- Settles O32. -/
theorem dataCommandsBegin : Obligations.DataCommandsBegin := by
  intro s
  refine ⟨fun h c known may missing => .of_eq ?_ rfl, fun h e c known may one tag valid enabled mask seen told plain idle =>
      read_hits known may one tag valid enabled mask seen told plain idle,
    fun h c known may missing unused => .of_eq ?_ rfl, fun h c known may => .of_eq ?_ rfl, fun h c known may heard none_ good => ?_,
    fun h b c known may mem closed pending => .of_eq ?_ rfl, fun h c known may enabled locks missing => .of_eq ?_ rfl,
    fun h c known may heard enabled locks full => ?_,
    fun h g c x known may target knownTarget other queued heard noAbort => abort_stops known may target knownTarget other queued heard noAbort,
    fun h c known may heard target => abort_untagged known may heard target,
    fun h a n c known may origin live free unread next => cipherJob_reads known may live free unread next⟩
  · change execRead h s = _
    rw [execRead, State.cmd_of_cmd? known, may, if_pos rfl, State.begin_missing known missing]
    rfl
  · change execWrite h s = _
    rw [execWrite, State.cmd_of_cmd? known, may, if_pos rfl, State.begin_missing known missing,
      State.pump_unused (by rw [State.cmd_begun]; exact unused)]
    rfl
  · obtain ⟨op, _, _⟩ := Cmd.mayStart_spec may
    change execVerify h s = _
    rw [execVerify, State.cmd_of_cmd? known, may, if_pos rfl, State.begin_verify known (by rw [Cmd.op, op]; rfl)]
    rfl
  · obtain ⟨op, admitted, _⟩ := Cmd.mayStart_spec may
    refine .of_eq (t := s.flush h) ?_ (State.flush_ends known (by rw [Cmd.op, op]; rfl) admitted heard none_ good)
    change execFlush h s = _
    rw [execFlush, State.cmd_of_cmd? known, may, if_pos rfl]
  · change execFlush h s = _
    rw [execFlush, State.cmd_of_cmd? known, may, if_pos rfl, State.flush_pending known mem closed pending]
  · change execPreload h s = _
    unfold execPreload
    rw [State.cmd_of_cmd? known]
    dsimp only
    rw [may, enabled, locks, if_neg (by simp), if_neg (by simp), if_neg (by simp), State.begin_missing known missing]
    rfl
  · obtain ⟨_, admitted, _⟩ := Cmd.mayStart_spec may
    obtain ⟨ended, status, _⟩ := State.refuse_spec (s := s.put F.CCH_STATUS_LOCK_FULL 1) (h := h) (c := c) known (by simp [admitted]) heard
      Status.invalidField
    have regs : ((s.put F.CCH_STATUS_LOCK_FULL 1).refuse h Status.invalidField).regs = (s.put F.CCH_STATUS_LOCK_FULL 1).regs :=
      (State.finish_spec (s := s.put F.CCH_STATUS_LOCK_FULL 1) (h := h) (c := c) known (by simp [admitted]) heard _).2.2.2
    have set : (s.put F.CCH_STATUS_LOCK_FULL 1).flag F.CCH_STATUS_LOCK_FULL = true := State.flag_put_one s (by decide)
    refine .of_eq (t := (s.put F.CCH_STATUS_LOCK_FULL 1).refuse h Status.invalidField) ?_ ⟨ended, status, ?_, ((SameFields.refl _ s).put _).of_regs regs⟩
    · change execPreload h s = _
      unfold execPreload
      rw [State.cmd_of_cmd? known]
      dsimp only
      rw [may, enabled, locks, if_neg (by simp), if_neg (by simp), if_pos ⟨rfl, full⟩]
    · unfold State.flag at *
      rw [State.fld_of_regs regs]
      exact set

end Sys2Proof.Machine
end

section
/-!
PROOFS. The staging cache: allocation for a waiting command, read-ahead, ENABLE and its drain, and the DMA of a READ's sector (R318–R330,
R338, R339).
-/
set_option Elab.async false
namespace Sys2Proof.Machine

/-! ## Allocation -/

section
variable {s : State} {h : Nat} {c : Cmd}

/-- A request whose class has a FREE entry takes it, where no entry is being evicted. -/
theorem State.allocate_free {cls e : Nat} (who : Nat) (use : State → Nat → State) (settled : s.settleEvictions = s)
    (quiet : ∀ i ∈ entryNumbers, (s.entry i).st ≠ .evicting) (chosen : s.chooseEntry cls = some e) (free : (s.entry e).st = .free) :
    s.allocate who cls use = use s e := by
  have none_ (i : Nat) (found : entryNumbers.find? (fun e => (s.entry e).chooser == who && (s.entry e).st == .evicting) = some i) : False := by
    have evicting := List.find?_some found
    exact quiet i (List.mem_of_find?_eq_some found) (beq_iff_eq.mp (Bool.and_eq_true _ _ ▸ evicting).2)
  unfold State.allocate
  rw [settled]
  dsimp only
  rw [chosen]
  split
  next i found => exact (none_ i found).elim
  next => exact if_pos free

theorem State.work_startWork (s : State) (e st m b : Nat) (verify noRetry early : Bool) : (s.startWork e st m b verify noRetry early).work e =
    { active := true, station := st, mslot := m, side := ((s.disc st).blockPos b).side, layer := ((s.disc st).blockPos b).layer
      b := ((s.disc st).blockPos b).b, verify := verify, noRetry := noRetry, early := early
      secs := (List.range (s.disc st).perBlock).map (fun j => (j, { st := .expected })) } := by
  unfold State.startWork State.work State.setWork
  dsimp only
  exact Table.at_put_same (α := BlockWork) ..

/-- Serving a block of an unsealed READ does nothing while the engines have nothing to do. -/
theorem State.serveBlock_read (known : s.cmd h = c) (read : c.op = Op.read) (plain : c.id.seal = false)
    (idle : ∀ w ∈ s.cipher.work, w.ready = false) (b : Nat) : s.serveBlock h b = s := by
  have offered : s.forEach (s.sectorsIn (s.cmd h) b) (fun s k => s.offerUnseal h k) = s :=
    State.forEach_eq_self fun k _ => if_pos (.inl (by rw [known]; exact plain))
  unfold State.serveBlock
  rw [offered]
  dsimp only
  rw [State.refillEngines_idle idle]
  unfold State.tryEndFill
  rw [known]
  exact if_neg fun all => fillsNothing read all.1

/-- The command reads the entry of its block. -/
theorem State.useEntry_cmd (known : s.cmd h = c) (u : BlockUse) : (s.useEntry h u).cmd h = { c with data := { c.data with
    uses := c.data.uses ++ [u], waiting := c.data.waiting.filter (fun a => a != u.block) } } := by
  change (State.setCmd s h _).cmd h = _
  rw [State.cmd_setCmd_same, known]

theorem State.useEntry_entry (u : BlockUse) : (s.useEntry h u).entry u.entry = { s.entry u.entry with
    readers := if (s.entry u.entry).readers.contains h then (s.entry u.entry).readers else (s.entry u.entry).readers ++ [h]
    waiters := (s.entry u.entry).waiters.filter (fun w => w != h)
    locked := if (s.cmd h).unlocks then false else (s.entry u.entry).locked || (s.cmd h).locks } := by
  change ((State.setCmd s h _).modEntry u.entry _).entry u.entry = _
  unfold State.modEntry
  rw [State.entry_setEntry_same]
  rfl

/-- A FREE entry filled for an unsealed READ while the cache is ENABLED. -/
theorem State.fillEntry_read {b e : Nat} (known : s.cmd? h = some c) (read : c.op = Op.read) (plain : c.id.seal = false)
    (enabled : s.cacheEnabled = true) (idle : ∀ w ∈ s.cipher.work, w.ready = false) :
    s.fillEntry h b e = (((s.setEntry e (freshEntry .filling c.cls c.id.mslot b c.station true)).startWork e c.station c.id.mslot b false false
      c.id.earlyData).touch e).useEntry h ⟨b, e, false, false, false⟩ := by
  unfold State.fillEntry
  rw [State.cmd_of_cmd? known]
  dsimp only
  rw [read, enabled]
  simp only [show (Op.read == Op.verify) = false from rfl, Bool.not_true, Bool.false_and, Bool.false_eq_true, if_false, Bool.or_false, Bool.not_false]
  let started := ((s.setEntry e (freshEntry .filling c.cls c.id.mslot b c.station true)).startWork e c.station c.id.mslot b false false
    c.id.earlyData).touch e
  exact State.serveBlock_read (s := started.useEntry h ⟨b, e, false, false, false⟩) (State.useEntry_cmd (s := started) (c := c) (State.cmd_of_cmd? known) _)
    read plain idle b

theorem entryAllocate_fills {b e : Nat} (own : h ≠ 0) (known : s.cmd? h = some c) (admitted : c.phase = .admitted) (read : c.op = Op.read)
    (waits : b ∈ c.data.waiting) (plain : c.id.seal = false) (missing : s.tagOf c.id.mslot b = none) (enabled : s.cacheEnabled = true)
    (settled : s.settleEvictions = s) (quiet : ∀ i ∈ entryNumbers, (s.entry i).st ≠ .evicting)
    (chosen : s.chooseEntry (fnClass c.id.fn) = some e) (free : (s.entry e).st = .free) (idle : ∀ w ∈ s.cipher.work, w.ready = false) :
    Answers (.entryAllocate h b) s (fun t => (t.entry e).st = .filling ∧ (t.entry e).cls = fnClass c.id.fn ∧ (t.entry e).tagged = true ∧
      (t.entry e).mslot = c.id.mslot ∧ (t.entry e).block = b ∧ (t.work e).active = true ∧ (t.cmd h).data.uses = c.data.uses ++ [⟨b, e, false, false, false⟩]) := by
  have cls : c.cls = fnClass c.id.fn := by
    unfold Cmd.cls
    rw [read]
    rfl
  have asked : s.ask h b true = s.fillEntry h b e := by
    unfold State.ask State.askRead
    rw [State.cmd_of_cmd? known]
    dsimp only
    rw [if_neg (by simp [admitted, waits]), if_neg (by rw [read]; decide), if_pos (.inl read), if_neg (by rw [read]; decide), missing]
    exact (if_pos rfl).trans (State.allocate_free h (fun s e => s.fillEntry h b e) settled quiet (cls ▸ chosen) free)
  let started := ((s.setEntry e (freshEntry .filling c.cls c.id.mslot b c.station true)).startWork e c.station c.id.mslot b false false
    c.id.earlyData).touch e
  have filled : s.fillEntry h b e = started.useEntry h ⟨b, e, false, false, false⟩ := State.fillEntry_read known read plain enabled idle
  have cmd : (started.useEntry h ⟨b, e, false, false, false⟩).cmd h = _ := State.useEntry_cmd (s := started) (c := c) (State.cmd_of_cmd? known) _
  have entry : (started.useEntry h ⟨b, e, false, false, false⟩).entry e = _ := State.useEntry_entry (s := started) (h := h) ⟨b, e, false, false, false⟩
  have touched : started.entry e = { freshEntry .filling c.cls c.id.mslot b c.station true with used := s.cache.clock + 1 } := by
    have set : (s.setEntry e (freshEntry .filling c.cls c.id.mslot b c.station true)).entry e = _ := State.entry_setEntry_same ..
    exact (State.entry_touch_same _ e).trans (congrArg (fun x : Entry => { x with used := s.cache.clock + 1 }) set)
  have unpumped : (started.useEntry h ⟨b, e, false, false, false⟩).pump h = started.useEntry h ⟨b, e, false, false, false⟩ := by
    unfold State.pump
    rw [cmd]
    exact if_pos (.inl fun write => absurd (read.symm.trans write) (by decide))
  refine .of_eq (t := started.useEntry h ⟨b, e, false, false, false⟩) ?_ ⟨?_, ?_, ?_, ?_, ?_, ?_, ?_⟩
  · change execEntryAllocate h b s = _
    rw [execEntryAllocate, if_neg own, asked, filled, unpumped]
  · rw [entry, touched]
    rfl
  · rw [entry, touched]
    exact cls
  · rw [entry, touched]
    rfl
  · rw [entry, touched]
    rfl
  · rw [entry, touched]
    rfl
  · exact congrArg BlockWork.active (State.work_startWork _ e c.station c.id.mslot b false false c.id.earlyData)
  · rw [cmd]

end

/-! ## Read-ahead -/

/-- An entry filled ahead of a station's readers. -/
def State.readAheadInto (s : State) (st m b e : Nat) : State :=
  ((s.setEntry e { freshEntry .filling classPrefetch m b st true with spec := true }).startWork e st m b false true false).touch e

theorem readAhead_fills {s : State} {st : Fin 8} {last m e : Nat} (block : (s.station st).lastBlock = some last) (slot : (s.station st).mslot = some m)
    (disc : (s.station st).disc.isSome = true) (on : s.flag F.CCH_RA_EN = true) (enabled : s.cacheEnabled = true) (deep : 0 < s.fld F.CCH_RA_DEPTH)
    (missing : s.tagOf m (last + 1) = none) (written : s.knownBlank m last = false)
    (still : (s.stationCmds st).any (fun x => x.2.needsPosition) = false) (reading : s.recording.blocks.any (fun r => r.station == st.val) = false)
    (inside : last + 1 < 2 * (s.disc st).layers * (s.disc st).blocksPerLayer)
    (layer : (last + 1) / (s.disc st).blocksPerLayer = last / (s.disc st).blocksPerLayer) (settled : s.settleEvictions = s)
    (quiet : ∀ i ∈ entryNumbers, (s.entry i).st ≠ .evicting) (chosen : s.chooseEntry classPrefetch = some e) (free : (s.entry e).st = .free) :
    Answers (.readAhead st) s (fun t => (t.entry e).st = .filling ∧ (t.entry e).spec = true ∧ (t.entry e).cls = classPrefetch ∧
      (t.entry e).mslot = m ∧ (t.entry e).block = last + 1 ∧ (t.work e).active = true ∧ (t.work e).noRetry = true ∧ SameFields [] s t) := by
  have first : ((List.range (min 47 (s.fld F.CCH_RA_DEPTH))).map (fun i => last + 1 + i)).find? (fun b => (s.tagOf m b).isNone) = some (last + 1) := by
    obtain ⟨n, depth⟩ : ∃ n, min 47 (s.fld F.CCH_RA_DEPTH) = n + 1 := ⟨min 47 (s.fld F.CCH_RA_DEPTH) - 1, by omega⟩
    rw [depth, List.range_succ_eq_map, List.map_cons]
    exact List.find?_cons_of_pos (by simp [missing])
  have blank : (List.range (last + 1 - last)).any (fun i => s.knownBlank m (last + i)) = false := by
    rw [Nat.add_sub_cancel_left]
    simpa using written
  have entry : (s.readAheadInto st m (last + 1) e).entry e =
      { freshEntry .filling classPrefetch m (last + 1) st true with spec := true, used := s.cache.clock + 1 } := by
    have set : (s.setEntry e { freshEntry .filling classPrefetch m (last + 1) st true with spec := true }).entry e = _ := State.entry_setEntry_same ..
    exact (State.entry_touch_same _ e).trans (congrArg (fun x : Entry => { x with used := s.cache.clock + 1 }) set)
  refine .of_eq (t := s.readAheadInto st m (last + 1) e) ?_ ⟨?_, ?_, ?_, ?_, ?_, ?_, ?_, (SameFields.refl _ s).of_regs rfl⟩
  · change execReadAhead st s = _
    unfold execReadAhead
    dsimp only
    rw [block, slot]
    dsimp only
    rw [first]
    dsimp only
    rw [blank, if_neg (by simp [on, enabled, Option.isSome_iff_ne_none.mp disc, still, reading, inside, layer]),
      State.allocate_free _ _ settled quiet chosen free]
    rfl
  · rw [entry]
    rfl
  · rw [entry]
  · rw [entry]
    rfl
  · rw [entry]
    rfl
  · rw [entry]
    rfl
  · exact congrArg BlockWork.active (State.work_startWork _ e st m (last + 1) false true false)
  · exact congrArg BlockWork.noRetry (State.work_startWork _ e st m (last + 1) false true false)

/-! ## ENABLE -/

section
variable {s : State}

theorem cacheDisable_drains (enabled : s.fld F.CCH_CTRL_STATE = 0) (free : ∀ i ∈ entryNumbers, (s.entry i).st = .free) :
    Answers .cacheDisable s (fun t => t.fld F.CCH_CTRL_ENABLE = 0 ∧ t.fld F.CCH_CTRL_STATE = 1 ∧ t.cache.drained = 0 ∧
      SameFields [F.CCH_CTRL_ENABLE, F.CCH_CTRL_STATE] s t) := by
  let set := (s.put F.CCH_CTRL_ENABLE 0).put F.CCH_CTRL_STATE 1
  let t : State := { set with cache := { s.cache with drained := 0 } }
  have freed : t.forEach entryNumbers (fun s e =>
      let x := s.entry e
      if x.st = .valid ∨ x.st = .filling ∧ x.cls ≠ classVerify then
        if x.readers.isEmpty then s.freeEntry e
        else s.setEntry e { x with st := .transient, tagged := false, locked := false }
      else s) = t := State.forEach_eq_self fun e mem => if_neg (by
        rw [show (t.entry e).st = .free from free e mem]
        simp)
  have closed : t.forEach entryNumbers (fun s e =>
      let x := s.entry e
      if x.st = .gathering then (s.closeBlock x.station x.mslot x.block).1 else s) = t := State.forEach_eq_self fun e mem => if_neg (by
        rw [show (t.entry e).st = .free from free e mem]
        simp)
  have spec : set.fld F.CCH_CTRL_ENABLE = 0 ∧ set.fld F.CCH_CTRL_STATE = 1 := by simp (disch := exact Shown.by_rfl rfl) [set]
  have same : SameFields [F.CCH_CTRL_ENABLE, F.CCH_CTRL_STATE] s set := ((SameFields.refl _ s).put _).put _
  refine .of_eq (t := t) ?_ ⟨spec.1, spec.2, rfl, same.of_regs rfl⟩
  change execCacheDisable s = _
  unfold execCacheDisable
  rw [if_neg (by simp [enabled])]
  refine congrArg Host.Outcome.next (Eq.trans ?_ closed)
  exact congrArg (fun u : State => u.forEach entryNumbers (fun s e =>
    let x := s.entry e
    if x.st = .gathering then (s.closeBlock x.station x.mslot x.block).1 else s)) freed

/-- What an event does to the events depends on what makes up its record only. -/
theorem State.post_events_put {f : Fld} (v : Nat) (range : F.EVT_RANGE_EN_EN.Apart f) (id : F.MBL_ID_DEVICE_ID.Apart f) (code source : Nat) (p : List Nat) :
    ((s.put f v).post code source p).events = (s.post code source p).events := by
  unfold State.post State.deviceId
  rw [State.fld_put_apart _ _ range, State.fld_put_apart _ _ id]
  split <;> rfl

theorem cacheEnable_enables (drained : s.fld F.CCH_CTRL_STATE = 2) :
    Answers .cacheEnable s (fun t => t.fld F.CCH_CTRL_ENABLE = 1 ∧ t.fld F.CCH_CTRL_STATE = 0 ∧ t.events = (s.post 0x0802 srcCache []).events ∧
      SameFields [F.CCH_CTRL_ENABLE, F.CCH_CTRL_STATE] s t) := by
  let set := (s.put F.CCH_CTRL_ENABLE 1).put F.CCH_CTRL_STATE 0
  have spec : set.fld F.CCH_CTRL_ENABLE = 1 ∧ set.fld F.CCH_CTRL_STATE = 0 := by simp (disch := exact Shown.by_rfl rfl) [set]
  refine .of_eq (t := set.post 0x0802 srcCache []) ?_ ⟨?_, ?_, ?_, (((SameFields.refl _ s).put _).put _).post _ _ _⟩
  · change execCacheEnable s = _
    unfold execCacheEnable
    rw [drained]
    rfl
  · rw [State.fld_of_regs (State.post_regs ..), spec.1]
  · rw [State.fld_of_regs (State.post_regs ..), spec.2]
  · exact (State.post_events_put _ ⟨rfl⟩ ⟨rfl⟩ _ _ _).trans (State.post_events_put _ ⟨rfl⟩ ⟨rfl⟩ _ _ _)

theorem cacheDrainDone_disables (draining : s.fld F.CCH_CTRL_STATE = 1) (clean : s.dirtyCount = 0) :
    Answers .cacheDrainDone s (fun t => t.fld F.CCH_CTRL_STATE = 2 ∧ t = (s.put F.CCH_CTRL_STATE 2).post 0x0801 srcCache (leBytes 2 s.cache.drained) ∧
      SameFields [F.CCH_CTRL_STATE] s t) := by
  refine .of_eq (if_pos ⟨draining, clean⟩) ⟨?_, rfl, ((SameFields.refl _ s).put _).post _ _ _⟩
  rw [State.fld_of_regs (State.post_regs ..), State.fld_put_fits _ ⟨rfl⟩]

end

/-! ## The DMA of a READ's sector -/

theorem State.mem_sent_emitAll {s : State} {os : List Out} {o : Out} (mem : o ∈ os) : o ∈ (s.emitAll os).sent := by
  unfold State.emitAll
  exact List.mem_append_right _ mem

theorem dmaWriteIssued_delivers {s : State} {h k outcome : Nat} {c : Cmd} {data : List Nat} {failed poison : Bool} (known : s.cmd? h = some c)
    (admitted : c.phase = .admitted) (started : c.started = true) (ring : c.origin = .ring) (live : s.fnLive c.id.fn = true)
    (read : c.op = Op.read) (inside : k < c.id.nsect) (fetched : s.fetchSector c k = s) (due : s.dueOf c k = .bytes data failed outcome poison)
    (fresh : k ∉ c.data.dmaDone) (first : s.dmaFirst h k = true) (late : Table.at [] c.data.early k ≠ data)
    (more : c.data.dmaDone.length + 1 ≠ c.id.nsect) :
    Answers (.dmaWriteIssued h k) s (fun t => (t.cmd h).data.dmaDone = c.data.dmaDone ++ [k] ∧
      Table.at 0 (t.cmd h).data.verdict k = (if poison then Outcome.unrecovered else outcome) ∧
      (s.bufferWrites c.id.fn c.data.src (4096 * k) data poison).all (fun o => decide (o ∈ t.sent)) = true) := by
  let delivered : Cmd := { c with data := { c.data with
    dmaDone := c.data.dmaDone ++ [k]
    verdict := Table.put 0 c.data.verdict k (if poison then Outcome.unrecovered else outcome)
    failed := if failed ∧ ¬ c.data.failed.contains k then c.data.failed ++ [k] else c.data.failed } }
  let sent := s.emitAll (s.bufferWrites c.id.fn c.data.src (4096 * k) data poison)
  have noted : sent.noteDelivered h k failed outcome poison = sent.setCmd h delivered := by
    unfold State.noteDelivered State.modCmd
    rw [State.cmd?_of_rings (State.emitAll_rings ..), known]
  have open_ : (sent.setCmd h delivered).tryEndRead h = sent.setCmd h delivered := by
    unfold State.tryEndRead
    rw [State.cmd_setCmd_same]
    exact if_neg fun ⟨_, _, _, all⟩ => more (by simpa [delivered] using all)
  refine .of_eq (t := sent.setCmd h delivered) ?_ ⟨?_, ?_, List.all_eq_true.mpr fun o mem => ?_⟩
  · change execDmaWriteIssued h k s = _
    unfold execDmaWriteIssued
    rw [State.cmd_of_cmd? known]
    dsimp only
    rw [if_neg (by simp [admitted, started]), ring]
    dsimp only
    rw [if_neg (by simp [live]), if_pos ⟨read, inside⟩]
    unfold State.writeSector
    rw [State.cmd_of_cmd? known]
    dsimp only
    rw [fetched, due]
    dsimp only
    rw [if_neg (by simp [fresh, first]), if_neg (fun ⟨same, _⟩ => late same)]
    exact congrArg Host.Outcome.next ((congrArg (State.tryEndRead · h) noted).trans open_)
  · rw [State.cmd_setCmd_same]
  · rw [State.cmd_setCmd_same]
    exact Table.at_put_same ..
  · exact decide_eq_true (State.mem_sent_emitAll mem)

/-- Settles O33. -/
theorem stagingCacheCommandsComplete : Obligations.StagingCacheCommandsComplete := by
  intro s
  refine ⟨fun h b e c own known admitted read waits plain missing enabled settled quiet chosen free idle =>
      entryAllocate_fills own known admitted read waits plain missing enabled settled quiet chosen free idle,
    fun st last m e block slot disc on enabled deep missing written still reading inside layer settled quiet chosen free =>
      readAhead_fills block slot disc on enabled deep missing written still reading inside layer settled quiet chosen free,
    fun enabled free => cacheDisable_drains enabled free, fun draining clean => cacheDrainDone_disables draining clean,
    fun drained => cacheEnable_enables drained, fun draining => .of_eq ?_ rfl,
    fun h k c data failed poison outcome known admitted started ring live read inside fetched due fresh first late more =>
      dmaWriteIssued_delivers known admitted started ring live read inside fetched due fresh first late more⟩
  change execCacheEnable s = _
  unfold execCacheEnable
  rw [draining]
  rfl

end Sys2Proof.Machine
end

section
/-!
PROOFS. Key slots, engine blocks, JTAG, ATTEST, the Format L data commands and FW_DOWNLOAD (R343–R350, R357–R360, R387, R495).
-/
set_option Elab.async false
namespace Sys2Proof.Machine

/-! ## Key slots -/

section
variable {s : State} {slot : Fin 64}

theorem State.keySlot_setKeySlot_same (s : State) (k : Nat) (x : KeySlot) : (s.setKeySlot k x).keySlot k = x := by
  unfold State.setKeySlot State.keySlot
  exact Table.at_put_same (α := KeySlot) ..

theorem State.keySlot_of_slots {s t : State} (same : t.cipher.slots = s.cipher.slots) (k : Nat) : t.keySlot k = s.keySlot k := by
  unfold State.keySlot
  rw [same]

theorem State.keyGen_of_fld {s t : State} (same : ∀ g, t.fld g = s.fld g) (k : Nat) : t.keyGen k = s.keyGen k := State.pair_of_fld same _ _

theorem State.keyGen_of_regs {s t : State} (same : t.regs = s.regs) (k : Nat) : t.keyGen k = s.keyGen k :=
  State.keyGen_of_fld (fun g => State.fld_of_regs same g) k

/-- A generation counts up modulo 2^64. -/
theorem State.keyGen_bumpGen (s : State) (k : Nat) : (s.bumpGen k).keyGen k = (s.keyGen k + 1) % 2 ^ 64 := by
  unfold State.bumpGen State.putPair State.keyGen State.pair
  generalize s.fld (F.CIP_KEYSLOT_GEN_LO_GEN k) + s.fld (F.CIP_KEYSLOT_GEN_HI_GEN k) * 2 ^ 32 + 1 = v
  rw [State.fld_put_apart _ _ ⟨rfl⟩, State.fld_put_same, State.fld_put_same, show (F.CIP_KEYSLOT_GEN_LO_GEN k).width = 32 from rfl,
    show (F.CIP_KEYSLOT_GEN_HI_GEN k).width = 32 from rfl]
  omega

/-- The fields of a slot that its generation leaves. -/
theorem State.keyGen_put {f : Fld} (k v : Nat) (lo : (F.CIP_KEYSLOT_GEN_LO_GEN k).Apart f) (hi : (F.CIP_KEYSLOT_GEN_HI_GEN k).Apart f) :
    (s.put f v).keyGen k = s.keyGen k := by
  unfold State.keyGen State.pair
  rw [State.fld_put_apart _ _ lo, State.fld_put_apart _ _ hi]

/-- The slot's generation raised, and the engines busy. -/
def State.keyBegun (s : State) (k : Nat) : State := (s.bumpGen k).put F.CIP_STATUS_BUSY 1

theorem State.keyBegun_cipher (s : State) (k : Nat) : (s.keyBegun k).cipher = s.cipher := by
  unfold State.keyBegun State.bumpGen State.putPair
  rw [State.put_cipher, State.put_cipher, State.put_cipher]

/-- The registers of a slot whose keys have been loaded. -/
def State.keyShown (s : State) (k cfg : Nat) : State :=
  (((s.keyBegun k).put (F.CIP_KEYSLOT_LABEL_LABEL k) (Table.at 0 (s.keyBegun k).cipher.staging 16)).put (F.CIP_KEYSLOT_INFO_LOADED k) 1
    |>.put (F.CIP_KEYSLOT_INFO_LEN k) (bitsOf cfg 0 2)).put (F.CIP_KEYSLOT_INFO_FN_MASK k) (bitsOf cfg 8 4)

theorem State.keyShown_cipher (s : State) (k cfg : Nat) : (s.keyShown k cfg).cipher = s.cipher := by
  unfold State.keyShown
  rw [State.put_cipher, State.put_cipher, State.put_cipher, State.put_cipher, State.keyBegun_cipher]

theorem State.keyShown_spec (s : State) (k cfg : Nat) :
    (s.keyShown k cfg).keyGen k = (s.keyGen k + 1) % 2 ^ 64 ∧ (s.keyShown k cfg).flag (F.CIP_KEYSLOT_INFO_LOADED k) = true ∧
      (s.keyShown k cfg).fld (F.CIP_KEYSLOT_INFO_LEN k) = bitsOf cfg 0 2 ∧ (s.keyShown k cfg).fld (F.CIP_KEYSLOT_INFO_FN_MASK k) = bitsOf cfg 8 4 ∧
      (s.keyShown k cfg).fld (F.CIP_KEYSLOT_LABEL_LABEL k) = Table.at 0 s.cipher.staging 16 % 2 ^ 32 ∧
      (s.keyShown k cfg).flag F.CIP_STATUS_BUSY = true ∧
      SameFields [F.CIP_STATUS_BUSY, F.CIP_KEYSLOT_GEN_LO_GEN k, F.CIP_KEYSLOT_GEN_HI_GEN k, F.CIP_KEYSLOT_LABEL_LABEL k,
        F.CIP_KEYSLOT_INFO_LOADED k, F.CIP_KEYSLOT_INFO_LEN k, F.CIP_KEYSLOT_INFO_FN_MASK k] s (s.keyShown k cfg) := by
  refine ⟨?_, ?_, ?_, ?_, ?_, ?_, ((((((SameFields.refl _ s).putPair _).put _).put _).put _).put _).put _⟩
  all_goals unfold State.keyShown
  · rw [State.keyGen_put _ _ ⟨rfl⟩ ⟨rfl⟩, State.keyGen_put _ _ ⟨rfl⟩ ⟨rfl⟩, State.keyGen_put _ _ ⟨rfl⟩ ⟨rfl⟩, State.keyGen_put _ _ ⟨rfl⟩ ⟨rfl⟩,
      State.keyBegun, State.keyGen_put _ _ ⟨rfl⟩ ⟨rfl⟩, State.keyGen_bumpGen]
  · simp (disch := exact Shown.by_rfl rfl)
  · simp (disch := exact Shown.by_rfl rfl)
  · simp (disch := exact Shown.by_rfl rfl)
  · rw [State.fld_put_apart _ _ ⟨rfl⟩, State.fld_put_apart _ _ ⟨rfl⟩, State.fld_put_apart _ _ ⟨rfl⟩, State.fld_put_same, State.keyBegun_cipher]
    rfl
  · rw [State.flag_put_apart _ _ ⟨rfl⟩, State.flag_put_apart _ _ ⟨rfl⟩, State.flag_put_apart _ _ ⟨rfl⟩, State.flag_put_apart _ _ ⟨rfl⟩, State.keyBegun]
    exact State.flag_put_one _ (by decide)

/-- The staging registers zeroized, and the engines loading a slot's keys. -/
def State.keyTaken (s : State) (k : Nat) : State := { s.clearStaging with cipher := { s.clearStaging.cipher with loading := some k } }

theorem State.keyTaken_regs (s : State) (k : Nat) : (s.keyTaken k).regs = s.regs := rfl

theorem State.keyTaken_keySlot (s : State) (k i : Nat) : (s.keyTaken k).keySlot i = s.keySlot i := rfl

theorem State.setKeySlot_regs (s : State) (k : Nat) (x : KeySlot) : (s.setKeySlot k x).regs = s.regs := rfl

theorem State.clearStaging_regs (s : State) : s.clearStaging.regs = s.regs := rfl

theorem State.clearStaging_keySlot (s : State) (k : Nat) : s.clearStaging.keySlot k = s.keySlot k := rfl

theorem keyLoad_loads (free : s.flag F.CIP_STATUS_BUSY = false) :
    Answers (.keyLoad slot) s (fun t => t.keySlot slot = { s.keySlot slot with
        k1 := s.stagedKey 0 (bitsOf (Table.at 0 s.cipher.staging 17) 0 2), k2 := s.stagedKey 8 (bitsOf (Table.at 0 s.cipher.staging 17) 0 2), everLoaded := true } ∧
      t.keyGen slot = (s.keyGen slot + 1) % 2 ^ 64 ∧ t.flag (F.CIP_KEYSLOT_INFO_LOADED slot) = true ∧
      t.fld (F.CIP_KEYSLOT_INFO_LEN slot) = bitsOf (Table.at 0 s.cipher.staging 17) 0 2 ∧
      t.fld (F.CIP_KEYSLOT_INFO_FN_MASK slot) = bitsOf (Table.at 0 s.cipher.staging 17) 8 4 ∧
      t.fld (F.CIP_KEYSLOT_LABEL_LABEL slot) = Table.at 0 s.cipher.staging 16 % 2 ^ 32 ∧ t.flag F.CIP_STATUS_BUSY = true ∧
      t.cipher.staging = [] ∧ t.cipher.loading = some slot.val ∧
      SameFields [F.CIP_STATUS_BUSY, F.CIP_KEYSLOT_GEN_LO_GEN slot, F.CIP_KEYSLOT_GEN_HI_GEN slot, F.CIP_KEYSLOT_LABEL_LABEL slot,
        F.CIP_KEYSLOT_INFO_LOADED slot, F.CIP_KEYSLOT_INFO_LEN slot, F.CIP_KEYSLOT_INFO_FN_MASK slot] s t) := by
  let k : KeySlot := { s.keySlot slot with
    k1 := s.stagedKey 0 (bitsOf (Table.at 0 s.cipher.staging 17) 0 2), k2 := s.stagedKey 8 (bitsOf (Table.at 0 s.cipher.staging 17) 0 2), everLoaded := true }
  let shown := (s.setKeySlot slot k).keyShown slot (Table.at 0 s.cipher.staging 17)
  obtain ⟨gen, loaded, len, mask, label, busy, same⟩ := State.keyShown_spec (s.setKeySlot slot k) slot (Table.at 0 s.cipher.staging 17)
  have answered : exec (.keyLoad slot) s = .next (shown.keyTaken slot) := if_neg (by simp [free])
  generalize taken : shown.keyTaken slot = t at answered
  have regs : t.regs = shown.regs := taken ▸ State.keyTaken_regs shown slot
  have slots : t.keySlot slot = k := by
    rw [← taken, State.keyTaken_keySlot, State.keySlot_of_slots (congrArg Cipher.slots (State.keyShown_cipher ..)), State.keySlot_setKeySlot_same]
  have staging : t.cipher.staging = [] := taken ▸ rfl
  have loading : t.cipher.loading = some slot.val := taken ▸ rfl
  refine .of_eq answered ⟨slots, ?_, ?_, ?_, ?_, ?_, ?_, staging, loading, fun g other => ?_⟩
  · rw [State.keyGen_of_regs regs, gen, State.keyGen_of_regs (State.setKeySlot_regs ..)]
  · rw [State.flag_of_regs regs, loaded]
  · rw [State.fld_of_regs regs, len]
  · rw [State.fld_of_regs regs, mask]
  · rw [State.fld_of_regs regs, label]
    rfl
  · rw [State.flag_of_regs regs, busy]
  · rw [State.fld_of_regs regs, same g other, State.fld_of_regs (State.setKeySlot_regs ..)]

/-- The registers of a slot whose keys have been erased. -/
def State.keyHidden (s : State) (k : Nat) : State :=
  ((((s.bumpGen k).put (F.CIP_KEYSLOT_INFO_LOADED k) 0).put (F.CIP_KEYSLOT_INFO_LEN k) 0).put (F.CIP_KEYSLOT_INFO_FN_MASK k) 0).put
    (F.CIP_KEYSLOT_LABEL_LABEL k) 0

theorem keyErase_erases (free : s.flag F.CIP_STATUS_BUSY = false) :
    Answers (.keyErase slot) s (fun t => t.keyGen slot = (s.keyGen slot + 1) % 2 ^ 64 ∧ t.flag (F.CIP_KEYSLOT_INFO_LOADED slot) = false ∧
      (t.keySlot slot).zeroize = true ∧ t.cipher.staging = [] ∧ SameFields [F.CIP_KEYSLOT_GEN_LO_GEN slot, F.CIP_KEYSLOT_GEN_HI_GEN slot,
        F.CIP_KEYSLOT_LABEL_LABEL slot, F.CIP_KEYSLOT_INFO_LOADED slot, F.CIP_KEYSLOT_INFO_LEN slot, F.CIP_KEYSLOT_INFO_FN_MASK slot] s t) := by
  have gen : (s.keyHidden slot).keyGen slot = (s.keyGen slot + 1) % 2 ^ 64 := by
    unfold State.keyHidden
    rw [State.keyGen_put _ _ ⟨rfl⟩ ⟨rfl⟩, State.keyGen_put _ _ ⟨rfl⟩ ⟨rfl⟩, State.keyGen_put _ _ ⟨rfl⟩ ⟨rfl⟩, State.keyGen_put _ _ ⟨rfl⟩ ⟨rfl⟩,
      State.keyGen_bumpGen]
  have loaded : (s.keyHidden slot).flag (F.CIP_KEYSLOT_INFO_LOADED slot) = false := by
    simp (disch := exact Shown.by_rfl rfl) [State.keyHidden]
  have same : SameFields [F.CIP_KEYSLOT_GEN_LO_GEN slot, F.CIP_KEYSLOT_GEN_HI_GEN slot, F.CIP_KEYSLOT_LABEL_LABEL slot, F.CIP_KEYSLOT_INFO_LOADED slot,
      F.CIP_KEYSLOT_INFO_LEN slot, F.CIP_KEYSLOT_INFO_FN_MASK slot] s (s.keyHidden slot) :=
    (((((SameFields.refl _ s).putPair _).put _).put _).put _).put _
  let erased : KeySlot := { (s.keyHidden slot).keySlot slot with zeroize := true, gen := (s.keyHidden slot).keyGen slot }
  have answered : exec (.keyErase slot) s = .next ((s.keyHidden slot).setKeySlot slot erased).clearStaging := if_neg (by simp [free])
  generalize hidden : s.keyHidden slot = u at *
  generalize cleared : (u.setKeySlot slot erased).clearStaging = t at answered
  have regs : t.regs = u.regs := cleared ▸ (State.clearStaging_regs _).trans (State.setKeySlot_regs ..)
  have kept : (t.keySlot slot).zeroize = true := by
    rw [← cleared, State.clearStaging_keySlot, State.keySlot_setKeySlot_same]
  have staging : t.cipher.staging = [] := cleared ▸ rfl
  refine .of_eq answered ⟨?_, ?_, kept, staging, same.of_regs regs⟩
  · rw [State.keyGen_of_regs regs, gen]
  · rw [State.flag_of_regs regs, loaded]

theorem keyLoadDone_tells {k : Nat} (loading : s.cipher.loading = some k) (idle : ∀ w ∈ s.cipher.work, w.ready = false) :
    Answers .keyLoadDone s (fun t => t = ({ s.put F.CIP_STATUS_BUSY 0 with cipher := { s.cipher with loading := none } }).post 0x0901 srcCipher
      ([k, 0, 0, 0] ++ leBytes 4 (s.fld (F.CIP_KEYSLOT_LABEL_LABEL k)) ++ leBytes 8 (s.keyGen k)) ∧ t.flag F.CIP_STATUS_BUSY = false) := by
  let freed : State := { s.put F.CIP_STATUS_BUSY 0 with cipher := { s.cipher with loading := none } }
  let record := [k, 0, 0, 0] ++ leBytes 4 (s.fld (F.CIP_KEYSLOT_LABEL_LABEL k)) ++ leBytes 8 (s.keyGen k)
  have told : (freed.post 0x0901 srcCipher record).refillEngines = freed.post 0x0901 srcCipher record :=
    State.refillEngines_idle (by rw [State.post_cipher]; exact idle)
  have shown : [k, 0, 0, 0] ++ leBytes 4 (freed.fld (F.CIP_KEYSLOT_LABEL_LABEL k)) ++ leBytes 8 (freed.keyGen k) = record := by
    have label : freed.fld (F.CIP_KEYSLOT_LABEL_LABEL k) = s.fld (F.CIP_KEYSLOT_LABEL_LABEL k) := (State.fld_of_regs (t := freed) (s := s.put F.CIP_STATUS_BUSY 0) rfl _).trans (State.fld_put_apart _ _ ⟨rfl⟩)
    have gen : freed.keyGen k = s.keyGen k := (State.keyGen_of_regs (t := freed) (s := s.put F.CIP_STATUS_BUSY 0) rfl k).trans
      (State.keyGen_put k 0 ⟨rfl⟩ ⟨rfl⟩)
    rw [label, gen]
  refine .of_eq (t := freed.post 0x0901 srcCipher record) ?_ ⟨rfl, ?_⟩
  · change execKeyLoadDone s = _
    unfold execKeyLoadDone
    rw [loading]
    refine congrArg Host.Outcome.next (Eq.trans ?_ told)
    exact congrArg (fun r => (freed.post 0x0901 srcCipher r).refillEngines) shown
  · rw [State.flag_of_regs (State.post_regs ..), State.flag_of_regs (t := freed) (s := s.put F.CIP_STATUS_BUSY 0) rfl, State.flag_put_zero]

theorem keyZeroizeDone_forgets (erased : (s.keySlot slot).zeroize = true) (unloaded : s.flag (F.CIP_KEYSLOT_INFO_LOADED slot) = false)
    (unused : ∀ e : Fin 16, ∀ x ∈ s.engine e, x.slot ≠ slot.val) :
    Answers (.keyZeroizeDone slot) s (fun t => t = (s.setKeySlot slot { s.keySlot slot with zeroize := false, k1 := [], k2 := [] }).post 0x0902 srcCipher
      ([slot.val] ++ List.replicate 7 0 ++ leBytes 8 (s.keySlot slot).gen)) := by
  have free : (List.range 16).any (fun e => match s.engine e with | some x => x.slot == slot.val | none => false) = false := by
    refine List.any_eq_false.mpr fun e mem => ?_
    cases at_ : s.engine e with
    | none => simp
    | some x => simpa using unused ⟨e, List.mem_range.mp mem⟩ x at_
  refine .of_eq ?_ rfl
  change execKeyZeroizeDone slot s = _
  unfold execKeyZeroizeDone
  dsimp only
  rw [unloaded]
  refine (if_neg ?_).trans rfl
  rintro (waits | used)
  · simp [erased] at waits
  · exact absurd (free.symm.trans used) (by decide)

end

/-! ## Engine blocks -/

theorem engineBlockDone_outputs {s : State} {e : Fin 16} {x : Engine} {w : EngineWork} {c : Cmd} (busy : s.engine e = some x) (only : s.cipher.work = [w])
    (cmd : w.cmd = x.cmd) (unit : w.unit = x.unit) (job : w.kind = .job) (begun : w.started = w.blocks) (known : s.cmd? x.cmd = some c)
    (more : w.done + 1 < c.id.nblkJob) :
    Answers (.engineBlockDone e) s (fun t => t.engine e = none ∧ t.cipher.work = [{ w with done := w.done + 1 }] ∧
      Table.at [] (t.cmd x.cmd).data.plain x.block =
        (if (c.id.body.getD 0 0).testBit 0 then aesDec x.key (c.jobBlock x.block) else aesEnc x.key (c.jobBlock x.block))) := by
  let out := if (c.id.body.getD 0 0).testBit 0 then aesDec x.key (c.jobBlock x.block) else aesEnc x.key (c.jobBlock x.block)
  let written : Cmd := { c with data := { c.data with plain := Table.put [] c.data.plain x.block out } }
  have found : (s.setEngine e none).cipher.work.find? (fun w => w.cmd == x.cmd && w.unit == x.unit) = some w := by
    change s.cipher.work.find? _ = _
    rw [only]
    exact List.find?_cons_of_pos (by simp [cmd, unit])
  have work : ((s.setEngine e none).setWorkItem { w with done := w.done + 1 }).cipher.work = [{ w with done := w.done + 1 }] := by
    change s.cipher.work.map _ = _
    rw [only, List.map_cons, List.map_nil, if_pos ⟨rfl, rfl, rfl⟩]
  have engine : ((s.setEngine e none).setWorkItem { w with done := w.done + 1 }).engine e = none := by
    unfold State.setWorkItem State.setEngine State.engine
    dsimp only
    exact Table.at_put_same (α := Option Engine) ..
  have known' : ((s.setEngine e none).setWorkItem { w with done := w.done + 1 }).cmd? x.cmd = some c := known
  have answered : exec (.engineBlockDone e) s =
      .next ((((s.setEngine e none).setWorkItem { w with done := w.done + 1 }).setCmd x.cmd written).refillEngines) := by
    change execEngineBlockDone e s = _
    unfold execEngineBlockDone
    rw [busy]
    dsimp only
    rw [found]
    dsimp only
    generalize (s.setEngine e none).setWorkItem { w with done := w.done + 1 } = counted at *
    have output : counted.jobOutput x = counted.setCmd x.cmd written := by
      unfold State.jobOutput State.modCmd
      rw [known']
    rw [job, show (EngineKind.job == EngineKind.job) = true from rfl]
    simp only [State.when, if_true]
    rw [output, cmd, State.cmd_setCmd_same, decide_eq_false (show ¬written.id.nblkJob ≤ w.done + 1 from Nat.not_le.mpr more)]
    simp only [Bool.false_eq_true, if_false]
  generalize (s.setEngine e none).setWorkItem { w with done := w.done + 1 } = counted at *
  have idle : (counted.setCmd x.cmd written).refillEngines = counted.setCmd x.cmd written := State.refillEngines_idle (by
    change ∀ v ∈ counted.cipher.work, v.ready = false
    rw [work]
    simp [EngineWork.ready, begun])
  rw [idle] at answered
  refine .of_eq answered ⟨engine, work, ?_⟩
  rw [State.cmd_setCmd_same]
  exact Table.at_put_same ..

/-- A measurement register that is extended, and its count. -/
theorem State.extend_spec (s : State) (m : Nat) (digest : List Nat) :
    Table.at (List.replicate 64 0) (s.extend m digest).cipher.m m = sha512 (Table.at (List.replicate 64 0) s.cipher.m m ++ digest) ∧
      Table.at 0 (s.extend m digest).cipher.extendCount m = Table.at 0 s.cipher.extendCount m + 1 := by
  unfold State.extend
  dsimp only
  exact ⟨Table.at_put_same (α := List Nat) .., Table.at_put_same (α := Nat) ..⟩

theorem jtagStateChange_extends (s : State) (enabled : Bool) (record : List Byte) :
    Answers (.jtagStateChange enabled record) s (fun t => Table.at (List.replicate 64 0) t.cipher.m 6 =
        sha512 (Table.at (List.replicate 64 0) s.cipher.m 6 ++ sha512 (padTo 64 (record.map BitVec.toNat))) ∧
      Table.at 0 t.cipher.extendCount 6 = Table.at 0 s.cipher.extendCount 6 + 1 ∧ t.cipher.jtagSeen = (s.cipher.jtagSeen || enabled) ∧ SameFields [] s t) := by
  let extended := s.extend 6 (sha512 (padTo 64 (record.map BitVec.toNat)))
  obtain ⟨digest, count⟩ := State.extend_spec s 6 (sha512 (padTo 64 (record.map BitVec.toNat)))
  exact .of_eq (t := { extended with cipher := { extended.cipher with jtagSeen := s.cipher.jtagSeen || enabled } }) rfl
    ⟨digest, count, rfl, (SameFields.refl _ s).of_regs rfl⟩

/-! ## Answers and downloads -/

section
variable {s : State} {h : Nat} {c : Cmd}

/-- The answer to a command of a ring: its data is written, and it ends. -/
theorem State.answer_spec (known : s.cmd? h = some c) (ring : c.origin = .ring) (running : c.phase ≠ .ended) (heard : c.mute = false) (data : List Nat) :
    (s.answer h data).cmd? h = some { c with phase := .ended, res := { status := Status.success, done := data.length } } ∧
      (s.bufferWrites c.id.fn c.data.src 0 data false).all (fun o => decide (o ∈ (s.answer h data).sent)) = true ∧
      SameFields [F.HIF_LINK_STATUS_PM] s (s.answer h data) := by
  let sent := s.emitAll (s.bufferWrites c.id.fn c.data.src 0 data false)
  have answered : s.answer h data = sent.finish h { status := Status.success, done := data.length } := by
    unfold State.answer State.answerMarked
    rw [State.cmd_of_cmd? known]
    dsimp only
    rw [ring]
  obtain ⟨ended, _, _, regs⟩ := State.finish_spec (s := sent) ((State.cmd?_of_rings (State.emitAll_rings ..) h).trans known) running heard
    { status := Status.success, done := data.length }
  have kept : (sent.finish h { status := Status.success, done := data.length }).sent = sent.sent :=
    (State.finish_frame (.refl (allBut [.sent]) sent) h _ (within_of (by decide))) .sent rfl
  rw [answered]
  refine ⟨ended, List.all_eq_true.mpr fun o mem => decide_eq_true ?_, ((SameFields.refl _ s).emitAll _).of_regs regs⟩
  rw [kept]
  exact State.mem_sent_emitAll mem

theorem attest_answers (known : s.cmd? h = some c) (may : c.mayRun Op.attest = true) (deliver : s.mayDeliver h = true) (ring : c.origin = .ring)
    (heard : c.mute = false) : Answers (.attest h) s (fun t => (t.cmd h).phase = .ended ∧ (t.cmd h).res.status = Status.success ∧
      (s.bufferWrites c.id.fn c.data.src 0 (s.reportBody c.id.body ++ padTo 64 (Config.idSign (s.reportBody c.id.body))) false).all
        (fun o => decide (o ∈ t.sent)) = true) := by
  obtain ⟨_, started, _⟩ := Cmd.mayRun_spec may
  obtain ⟨ended, sent, _⟩ := State.answer_spec known ring (by simp [started]) heard
    (s.reportBody c.id.body ++ padTo 64 (Config.idSign (s.reportBody c.id.body)))
  refine .of_eq (t := s.answer h (s.reportBody c.id.body ++ padTo 64 (Config.idSign (s.reportBody c.id.body)))) ?_
    ⟨by rw [State.cmd_of_cmd? ended], by rw [State.cmd_of_cmd? ended], sent⟩
  change execAttest h s = _
  unfold execAttest
  rw [State.cmd_of_cmd? known]
  exact if_pos ⟨may, deliver⟩

theorem fwDownload_reads {addr n : Nat} (known : s.cmd? h = some c) (may : c.mayRun Op.fwDownload = true) (ok : s.downloadOk c.id = true)
    (ring : c.origin = .ring) (live : s.fnLive c.id.fn = true) (free : s.freeTags c.id.fn ≠ [])
    (unread : s.pcie.reqs.any (fun r => r.cmd == h && r.purpose == .firmware) = false) (next : s.nextRead c c.id.fwLength = some (addr, n)) :
    Answers (.fwDownload h) s (fun t => (t.cmd h).started = true ∧ (t.cmd h).data.nextRead = c.data.nextRead + n ∧
      (∃ tag ∈ s.freeTags c.id.fn, t.pcie.reqs = s.pcie.reqs ++ [⟨c.id.fn, tag, .firmware, h, c.data.nextRead, n, []⟩] ∧
        .memRead c.id.fn tag addr n ∈ t.sent)) := by
  obtain ⟨op, started, _⟩ := Cmd.mayRun_spec may
  let starts : Cmd := { c with origin := .ring, started := true }
  have download : starts.op = Op.fwDownload := by rw [show starts.op = nativeOp c.id.op from rfl, op]; rfl
  obtain ⟨cmd, tag, mem, reqs, sent⟩ := State.issueSource_spec (s := s.setCmd h starts) (c := starts) (p := .firmware) (State.cmd?_setCmd_same ..) free live next
  refine .of_eq (t := State.issueSource h .firmware c.id.fwLength 1 (s.setCmd h starts)) ?_ ⟨by rw [cmd], by rw [cmd], tag, mem, reqs, sent⟩
  change execFwDownload h s = _
  unfold execFwDownload
  rw [State.cmd_of_cmd? known]
  dsimp only
  rw [may, ok, if_neg (by simp), if_neg (by simp)]
  rw [show ({ c with started := true } : Cmd) = starts by simp only [starts, ← ring]]
  unfold State.pumpDownload
  rw [State.cmd_setCmd_same]
  dsimp only
  rw [if_neg (by rintro (a | b | d) <;> simp_all [starts])]
  refine congrArg Host.Outcome.next (if_neg fun used => ?_)
  exact absurd (unread.symm.trans used) (by decide)

end

section
variable {s : State} {p : FwProgram} {rest : List FwProgram} {c : Cmd}

theorem State.finish_fw (s : State) (h : Nat) (r : CmdResult) : (s.finish h r).fw = s.fw :=
  (State.finish_frame (.refl (allBut [.fw]) s) h r (within_of (by decide))) .fw rfl

theorem flashProgramDone_ends (queue : s.fw.programming = p :: rest) (known : s.cmd? p.cmd = some c) (started : c.phase = .started) (heard : c.mute = false) :
    Answers (.flashProgramDone true) s (fun t => t.fw.programming = rest ∧ t.fw.flash = (s.programFlash p.slot p.offset p.data).fw.flash ∧
      (t.cmd p.cmd).phase = .ended ∧ (t.cmd p.cmd).res.status = Status.success ∧ SameFields [] s t) := by
  let taken : State := { s with fw := { s.fw with programming := rest } }
  let programmed := taken.programFlash p.slot p.offset p.data
  obtain ⟨ended, _, _, regs⟩ := State.finish_spec (s := programmed) (h := p.cmd) (c := c) known (by simp [started]) heard { status := Status.success }
  refine .of_eq (t := programmed.finish p.cmd { status := Status.success }) ?_ ⟨by rw [State.finish_fw]; rfl, by rw [State.finish_fw]; rfl,
    by rw [State.cmd_of_cmd? ended], by rw [State.cmd_of_cmd? ended], (SameFields.refl _ s).of_regs regs⟩
  change execFlashProgramDone true s = _
  unfold execFlashProgramDone
  rw [queue]
  rfl

theorem flashProgramDone_fails (queue : s.fw.programming = p :: rest) (known : s.cmd? p.cmd = some c) (started : c.phase = .started) (heard : c.mute = false) :
    Answers (.flashProgramDone false) s (fun t => t.fw.programming = rest ∧ t.flag F.FWU_STATUS_FLASH_FAULT = true ∧ (t.cmd p.cmd).phase = .ended ∧
      (t.cmd p.cmd).res.status = Status.writeFault ∧ SameFields [F.FWU_STATUS_FLASH_FAULT] s t) := by
  let taken : State := { s with fw := { s.fw with programming := rest } }
  let spoiled := taken.spoilFlash p.slot p.offset p.data.length
  let raised := spoiled.raise F.FWU_STATUS_FLASH_FAULT 0x0E0A srcFirmware ([0xFF, p.slot, 0, 0] ++ leBytes 4 p.offset)
  obtain ⟨ended, _, _, regs⟩ := State.finish_spec (s := raised) (h := p.cmd) (c := c) ((State.cmd?_of_rings (State.raise_rings ..) _).trans known)
    (by simp [started]) heard { status := Status.writeFault }
  have same : SameFields [F.FWU_STATUS_FLASH_FAULT] s raised :=
    SameFields.raise (t := spoiled) (f := F.FWU_STATUS_FLASH_FAULT) ((SameFields.refl [F.FWU_STATUS_FLASH_FAULT] s).of_regs rfl) _ _ _
  refine .of_eq (t := raised.finish p.cmd { status := Status.writeFault }) ?_ ⟨?_, ?_, by rw [State.cmd_of_cmd? ended],
    by rw [State.cmd_of_cmd? ended], same.of_regs regs⟩
  · change execFlashProgramDone false s = _
    unfold execFlashProgramDone
    rw [queue]
    rfl
  · rw [State.finish_fw, State.raise_fw]
    rfl
  · rw [State.flag_of_regs regs, State.flag_raise_same _ _ _ _ ⟨rfl⟩]

end

/-- Settles O34. -/
theorem cipherCommandsComplete : Obligations.CipherCommandsComplete := by
  intro s
  refine ⟨fun slot free => keyLoad_loads free, fun slot busy => .of_eq (t := s.keyRejected) (if_pos busy) ⟨State.flag_put_one _ (by decide), rfl, ?_⟩,
    fun slot free => keyErase_erases free, fun k loading idle => keyLoadDone_tells loading idle,
    fun slot erased unloaded unused => keyZeroizeDone_forgets erased unloaded unused,
    fun e x w c busy only cmd unit job begun known more => engineBlockDone_outputs busy only cmd unit job begun known more,
    fun enabled record => jtagStateChange_extends s enabled record,
    fun h c known may deliver ring heard => attest_answers known may deliver ring heard, fun h c known may missing => .of_eq ?_ rfl,
    fun h c known may missing unused => .of_eq ?_ rfl, fun h c known may heard none_ good => ?_,
    fun h a n c known may ok ring live free unread next => fwDownload_reads known may ok ring live free unread next,
    fun p rest c queue known started heard => flashProgramDone_ends queue known started heard,
    fun p rest c queue known started heard => flashProgramDone_fails queue known started heard⟩
  · exact SameFields.put ((SameFields.refl _ s).of_regs rfl) 1
  · change execLRead h s = _
    rw [execLRead, State.cmd_of_cmd? known, may, if_pos rfl, State.begin_missing known missing]
    rfl
  · change execLWrite h s = _
    rw [execLWrite, State.cmd_of_cmd? known, may, if_pos rfl, State.begin_missing known missing,
      State.pump_unused (by rw [State.cmd_begun]; exact unused)]
    rfl
  · obtain ⟨op, admitted, _⟩ := Cmd.mayStart_spec may
    refine .of_eq (t := s.flush h) ?_ (State.flush_ends known (by rw [Cmd.op, op]; rfl) admitted heard none_ good)
    change execLFlush h s = _
    rw [execLFlush, State.cmd_of_cmd? known, may, if_pos rfl]

end Sys2Proof.Machine
end

section
/-!
PROOFS. The read lanes: staged writes, frame starts and ends, defects, losses, captures and poor quality (R210–R243, R255).
-/
set_option Elab.async false
namespace Sys2Proof.Machine

/-! ## Lanes and sectors at work -/

section
variable (s : State)

theorem State.lane_setLane (b a : Nat) (l : Lane) : (s.setLane b l).lane a = if a = b then l else s.lane a := by
  unfold State.setLane State.lane
  exact Table.at_put (α := Lane) ..

@[simp] theorem State.lane_setLane_same (b : Nat) (l : Lane) : (s.setLane b l).lane b = l := by
  rw [State.lane_setLane, if_pos rfl]

@[simp] theorem State.lane_modLane_same (b : Nat) (f : Lane → Lane) : (s.modLane b f).lane b = f (s.lane b) := State.lane_setLane_same ..

theorem State.lane_of_lanes {s t : State} (same : t.lanes = s.lanes) (b : Nat) : t.lane b = s.lane b := by
  unfold State.lane
  rw [same]

@[simp] theorem State.work_setWork_same (e : Nat) (w : BlockWork) : (s.setWork e w).work e = w := by
  unfold State.setWork State.work
  exact Table.at_put_same (α := BlockWork) ..

theorem BlockWork.sec_setSec (w : BlockWork) (j k : Nat) (x : SecWork) : (w.setSec j x).sec k = if k = j then x else w.sec k := by
  unfold BlockWork.setSec BlockWork.sec
  exact Table.at_put (α := SecWork) ..

@[simp] theorem BlockWork.sec_setSec_same (w : BlockWork) (j : Nat) (x : SecWork) : (w.setSec j x).sec j = x := by
  rw [BlockWork.sec_setSec, if_pos rfl]

@[simp] theorem State.sec_modSec_same (e j : Nat) (f : SecWork → SecWork) : ((s.modSec e j f).work e).sec j = f ((s.work e).sec j) := by
  unfold State.modSec State.modWork
  rw [State.work_setWork_same, BlockWork.sec_setSec_same]

end

/-! ## Writes -/

theorem rchStagedWrite_dgain {s : State} {bc : Fin 64} (value : Word) (idle : s.laneMode bc < 2) :
    Answers (.rchStagedWrite bc .dgain value) s (fun t => t.fld (F.RCH_DGAIN_DGAIN bc) = value.toNat % 65536 ∧
      (t.lane bc).dgain = ((value.toNat % 65536 : Nat) : Rat) / 16384 ∧ SameFields [F.RCH_DGAIN_DGAIN bc] s t) := by
  let set (l : Lane) : Lane := { l with dgain := ((value.toNat % 65536 : Nat) : Rat) / 16384 }
  refine .of_eq (t := (s.put (F.RCH_DGAIN_DGAIN bc) (value.toNat >>> 0)).modLane bc set) ?_ ⟨?_, ?_, ?_⟩
  · exact congrArg Host.Outcome.next (if_pos idle)
  · exact State.fld_put_same ..
  · rw [State.lane_modLane_same]
  · exact ((SameFields.refl _ s).put _).of_regs rfl

theorem rchStagedWrite_stages {s : State} {bc : Fin 64} (reg : LaneReg) (value : Word) (busy : 2 ≤ s.laneMode bc) :
    Answers (.rchStagedWrite bc reg value) s (fun t => t.lane bc =
        { s.lane bc with staged := Table.put 0 (s.lane bc).staged (laneRegCode reg) (value.toNat + 1) } ∧
      t.flag (F.RCH_LANE_STATUS_STAGED bc) = true ∧ SameFields [F.RCH_LANE_STATUS_STAGED bc] s t) := by
  let stages (l : Lane) : Lane := { l with staged := Table.put 0 l.staged (laneRegCode reg) (value.toNat + 1) }
  refine .of_eq (t := (s.modLane bc stages).put (F.RCH_LANE_STATUS_STAGED bc) 1) ?_ ⟨?_, State.flag_put_one _ Nat.zero_lt_one, ?_⟩
  · exact congrArg Host.Outcome.next (if_neg (by omega))
  · exact State.lane_modLane_same s bc stages
  · exact SameFields.put (t := s.modLane bc stages) ((SameFields.refl _ s).of_regs rfl) 1

/-! ## What the registers show of a lane -/

section
variable (s : State) (bc : Nat)

theorem State.showLane_lane (b : Nat) : (s.showLane bc).lane b = s.lane b :=
  State.lane_of_lanes ((State.showLane_frame (.refl (allBut [.lanes]) s) bc (within_of (by decide))) .lanes rfl) b

/-- What a lane shows it shows in the fields of its adaptation. -/
theorem State.fld_showLane {g : Fld} (offset : g.Apart (F.RCH_OFFSET_OFFSET bc)) (dgain : g.Apart (F.RCH_DGAIN_DGAIN bc))
    (asym : g.Apart (F.RCH_ASYM_ASYM bc)) (freq : g.Apart (F.RCH_TIM_FREQ_F bc)) (sigma : g.Apart (F.RCH_LLR_SIGMA2 bc))
    (coef : ∀ i, g.Apart (F.RCH_COEF_C bc i)) : (s.showLane bc).fld g = s.fld g := by
  unfold State.showLane
  dsimp only
  rw [State.fld_forEach _ _ fun t i => State.fld_sput_apart _ _ (coef i), State.fld_put_apart _ _ sigma, State.fld_sput_apart _ _ freq,
    State.fld_sput_apart _ _ asym, State.fld_put_apart _ _ dgain, State.fld_sput_apart _ _ offset]

theorem State.showLane_offset : (s.showLane bc).sfld (F.RCH_OFFSET_OFFSET bc) = satSigned 16 (roundRat ((s.lane bc).offset * 64)) := by
  have set : (s.sput (F.RCH_OFFSET_OFFSET bc) (satSigned 16 (roundRat ((s.lane bc).offset * 64)))).sfld (F.RCH_OFFSET_OFFSET bc) =
      satSigned 16 (roundRat ((s.lane bc).offset * 64)) :=
    State.sfld_sput_sat s (f := F.RCH_OFFSET_OFFSET bc) _ (Nat.zero_lt_succ 15)
  rw [← set]
  unfold State.sfld State.showLane
  dsimp only
  rw [State.fld_forEach _ _ fun t i => State.fld_sput_apart _ _ ⟨rfl⟩, State.fld_put_apart _ _ ⟨rfl⟩, State.fld_sput_apart _ _ ⟨rfl⟩,
    State.fld_sput_apart _ _ ⟨rfl⟩, State.fld_put_apart _ _ ⟨rfl⟩]

end

/-! ## Frames -/

section
variable (s : State) (bc : Nat)

theorem State.laneMode_put {f : Fld} (v : Nat) (slot : (F.HPC_SLOT_STATUS_STATE (bc / 4 / 2)).Apart f) (mode : (F.RCH_LANE_CTRL_MODE bc).Apart f)
    (pickup : (F.SRV_PU_STATE_STATE (bc / 4)).Apart f) : (s.put f v).laneMode bc = s.laneMode bc := by
  unfold State.laneMode State.slotPowered State.puState
  dsimp only
  rw [State.fld_put_apart _ _ slot, State.fld_put_apart _ _ mode, State.fld_put_apart _ _ pickup]
  rfl

theorem State.setCorner_regs (zone : Nat) : (s.setCorner bc zone).regs = s.regs := by
  unfold State.setCorner
  dsimp only
  split
  · rfl
  · exact State.read_forEach State.regs (by intros; rfl) s _

/-- A lane whose frame is in a zone has its filter set for that zone. -/
theorem State.setCorner_zone (zone : Nat) : ((s.setCorner bc zone).lane bc).zone = some zone := by
  unfold State.setCorner
  dsimp only
  split
  next here => exact here
  next =>
    have here : 4 * (bc / 4) + bc % 4 = bc := Nat.div_add_mod bc 4
    refine State.forEach_reaches (P := fun t => (t.lane bc).zone = some zone) (x := bc % 4) (List.mem_range.mpr (Nat.mod_lt _ (by decide)))
      (fun t => ?_) (fun t k done => ?_) s
    · rw [here, State.lane_modLane_same]
    · unfold State.modLane
      rw [State.lane_setLane]
      split
      · rfl
      · exact done

/-- A lane's staged writes, none, taken. -/
def State.laneBegun (s : State) (bc : Nat) : State := (s.modLane bc fun l => { l with staged := [] }).put (F.RCH_LANE_STATUS_STAGED bc) 0

/-- A frame that is taken for no sector begins. -/
def State.laneReads (s : State) (bc : Nat) (blank : Bool) : State := s.modLane bc fun l => { l with
  reading := true, target := none, blank := blank, lostAt := none, gainStart := s.fld (F.RCH_VGA_GAIN bc)
  defectSeen := s.flag (F.RCH_LANE_STATUS_DEFECT bc) }

end

theorem frameStart_reads {s : State} {bc : Fin 64} {zone : Fin 4250} {tone rate : Rat} (mode : s.laneMode bc = 2) (on : (s.lane bc).readOn = true)
    (still : (s.lane bc).vgaMove = 0) (unstaged : (s.lane bc).staged = []) :
    Answers (.frameStart bc none zone tone rate) s (fun t => (t.lane bc).reading = true ∧ (t.lane bc).target = none ∧ (t.lane bc).lostAt = none ∧
      (t.lane bc).zone = some zone.val ∧ (t.lane bc).blank = decide (tone < (s.fld (F.RCH_TARGET_BLANK_FRAC bc) : Rat) / 256 *
        (s.fld (F.RCH_TARGET_TARGET bc) : Rat)) ∧ t.flag (F.RCH_LANE_STATUS_LOCKED bc) = !(t.lane bc).blank) := by
  let cornered := (s.laneBegun bc).setCorner bc zone
  let blank := decide (tone < (s.fld (F.RCH_TARGET_BLANK_FRAC bc) : Rat) / 256 * (s.fld (F.RCH_TARGET_TARGET bc) : Rat))
  have kept (g : Fld) (apart : g.Apart (F.RCH_LANE_STATUS_STAGED bc)) : cornered.fld g = s.fld g :=
    (State.fld_of_regs (State.setCorner_regs ..) g).trans (State.fld_put_apart (s.modLane bc fun l => { l with staged := [] }) 0 apart)
  have answered : exec (.frameStart bc none zone tone rate) s =
      .next ((((cornered.laneReads bc blank).setFlag (F.RCH_LANE_STATUS_LOCKED bc) (!blank)).showLane bc)) := by
    have begun : (s.moveVga bc).applyStaged bc = s.laneBegun bc := by
      rw [show s.moveVga bc = s from if_pos still]
      unfold State.applyStaged
      rw [unstaged]
      rfl
    have mode' : (s.laneBegun bc).laneMode bc = 2 := (State.laneMode_put _ _ _ ⟨rfl⟩ ⟨rfl⟩ ⟨rfl⟩).trans mode
    change execFrameStart bc none zone tone rate s = _
    unfold execFrameStart
    rw [if_neg (by simp [mode])]
    dsimp only
    rw [on, show s.when (!true) _ = s from rfl, begun, if_neg (by simp [mode'])]
    change Host.Outcome.next (State.showLane (State.setFlag (cornered.laneReads bc (decide (tone < (cornered.fld (F.RCH_TARGET_BLANK_FRAC bc) : Rat) / 256 *
      (cornered.fld (F.RCH_TARGET_TARGET bc) : Rat)))) _ _) _) = _
    rw [kept _ ⟨rfl⟩, kept _ ⟨rfl⟩]
  have lane : (((cornered.laneReads bc blank).setFlag (F.RCH_LANE_STATUS_LOCKED bc) (!blank)).showLane bc).lane bc = (cornered.laneReads bc blank).lane bc :=
    (State.showLane_lane _ bc bc).trans (State.lane_of_lanes rfl bc)
  have read : (cornered.laneReads bc blank).lane bc = { cornered.lane bc with
      reading := true, target := none, blank := blank, lostAt := none, gainStart := cornered.fld (F.RCH_VGA_GAIN bc)
      defectSeen := cornered.flag (F.RCH_LANE_STATUS_DEFECT bc) } := State.lane_modLane_same ..
  refine .of_eq answered ?_
  rw [lane, read]
  refine ⟨rfl, rfl, rfl, State.setCorner_zone _ bc zone, rfl, ?_⟩
  unfold State.flag
  rw [State.fld_showLane _ _ ⟨rfl⟩ ⟨rfl⟩ ⟨rfl⟩ ⟨rfl⟩ ⟨rfl⟩ fun _ => ⟨rfl⟩]
  exact State.flag_setFlag_same _ _ Nat.zero_lt_one

theorem frameEnd_adapts {s : State} {bc : Fin 64} {first : Int} {bits : List LaneBit} {clips : Nat} (reading : (s.lane bc).reading = true)
    (free : (s.lane bc).target = none) :
    Answers (.frameEnd bc first bits clips) s (fun t => (t.lane bc).reading = false ∧ (t.lane bc).offset = (s.frameLoops bc first bits).offset ∧
      (t.lane bc).dgain = (s.frameLoops bc first bits).dgain ∧ (t.lane bc).asym = (s.frameLoops bc first bits).asym ∧
      (t.lane bc).freq = (s.frameLoops bc first bits).freq ∧
      t.sfld (F.RCH_OFFSET_OFFSET bc) = satSigned 16 (roundRat ((s.frameLoops bc first bits).offset * 64))) := by
  have adjusted (u : State) : ∃ moves, (u.vgaAdjust bc).lane bc = { u.lane bc with vgaMove := moves } := by
    unfold State.vgaAdjust
    dsimp only
    split
    · exact ⟨_, rfl⟩
    · refine ⟨gainSteps (u.lane bc).dgain, ?_⟩
      generalize moved : u.setLane bc { u.lane bc with vgaMove := gainSteps (u.lane bc).dgain } = v
      have set : v.lane bc = { u.lane bc with vgaMove := gainSteps (u.lane bc).dgain } := moved ▸ State.lane_setLane_same ..
      unfold State.when
      split
      · exact (State.lane_of_lanes (State.raise_lanes ..) bc).trans set
      · exact set
  obtain ⟨ended, lane, answered⟩ : ∃ ended : State, (∃ coef sigma2, ended.lane bc = { s.lane bc with
      reading := false, offset := (s.frameLoops bc first bits).offset, dgain := (s.frameLoops bc first bits).dgain
      asym := (s.frameLoops bc first bits).asym, freq := (s.frameLoops bc first bits).freq, coef := coef, sigma2 := sigma2 }) ∧
      exec (.frameEnd bc first bits clips) s = .next ((ended.vgaAdjust bc).showLane bc) := by
    change ∃ ended : State, _ ∧ execFrameEnd bc first bits clips s = _
    unfold execFrameEnd
    extract_lets l p z rows arr flags r u eye mse taken ended shown
    refine ⟨ended, ⟨r.coef, r.sigma2, State.lane_setLane_same ..⟩, ?_⟩
    rw [if_neg (by simp [l, reading]), show l.target = none from free]
  obtain ⟨coef, sigma2, set⟩ := lane
  obtain ⟨moves, moved⟩ := adjusted ended
  refine .of_eq answered ?_
  rw [State.showLane_lane, State.showLane_offset, moved, set]
  exact ⟨rfl, rfl, rfl, rfl, rfl, rfl⟩

/-! ## Losses, defects, captures -/

section
variable {s : State} {bc : Fin 64}

theorem timingLost_marks {bit : Fin 50176} {mean : Rat} (reading : (s.lane bc).reading = true) (signal : (s.lane bc).blank = false)
    (first : (s.lane bc).lostAt = none) (far : (s.fld (F.RCH_TIM_LOSS_LOSS bc) : Rat) / 256 < mean) :
    Answers (.timingLost bc bit mean) s (fun t => t.lane bc = { s.lane bc with lostAt := some bit.val } ∧
      t.flag (F.RCH_LANE_STATUS_LOCKED bc) = false ∧ SameFields [F.RCH_LANE_STATUS_LOCKED bc] s t) := by
  let marked := s.setLane bc { s.lane bc with lostAt := some bit.val }
  refine .of_eq (t := marked.put (F.RCH_LANE_STATUS_LOCKED bc) 0) (if_pos ⟨reading, signal, first, far⟩) ⟨?_, State.flag_put_zero _, ?_⟩
  · exact State.lane_setLane_same s bc _
  · exact SameFields.put (t := marked) ((SameFields.refl _ s).of_regs rfl) 0

theorem defectActive_marks {e1 e2 r : Rat} (on : s.laneMode bc ≠ 0) (clear : s.flag (F.RCH_LANE_STATUS_DEFECT bc) = false)
    (one : s.defectWindow bc e1 r = true) (two : s.defectWindow bc e2 r = true) :
    Answers (.defectActive bc e1 e2 r) s (fun t => t.flag (F.RCH_LANE_STATUS_DEFECT bc) = true ∧
      t.lane bc = { s.lane bc with defectSeen := true, trig := true } ∧ SameFields [F.RCH_LANE_STATUS_DEFECT bc] s t) := by
  let raised := s.put (F.RCH_LANE_STATUS_DEFECT bc) 1
  refine .of_eq (t := raised.modLane bc fun l => { l with defectSeen := true, trig := true }) ?_ ⟨?_, State.lane_modLane_same raised bc _, ?_⟩
  · exact if_neg (by simp [on, clear, one, two])
  · exact State.flag_put_one s Nat.zero_lt_one
  · exact SameFields.of_regs (t := raised) ((SameFields.refl _ s).put _) rfl

theorem captureAgeTrigger_captures {meanErr : Rat} {e j : Nat} (target : (s.lane bc).target = some (e, j)) (signal : (s.lane bc).blank = false)
    (defect : (s.lane bc).defectSeen = true) (active : (s.work e).active = true) (retries : (s.work e).noRetry = false)
    (expected : ((s.work e).sec j).st = .expected) (lane : s.secLane (s.work e) j = bc.val) (fresh : ((s.work e).sec j).image = false)
    (untried : ((s.work e).sec j).captureTried = false) (room : (s.disc (s.work e).station).imageSlots ≤ s.fld F.RCH_IMG_CFG_FREE)
    (share : s.slotsHeld (fun v _ => v.station == (s.work e).station) + (s.disc (s.work e).station).imageSlots ≤
      slotLimit (s.fld F.RCH_IMG_CFG_STATION_MAX))
    (reserve : s.slotsHeld (fun _ y => !y.imageSync) + (s.disc (s.work e).station).imageSlots ≤ 128 - slotLimit (s.fld F.RCH_IMG_CFG_RESERVE)) :
    Answers (.captureAgeTrigger bc meanErr) s (fun t => ((t.work e).sec j).image = true ∧ ((t.work e).sec j).captureTried = true ∧
      ((t.work e).sec j).imageSync = false ∧ t.fld F.RCH_IMG_CFG_FREE =
        (s.fld F.RCH_IMG_CFG_FREE - (s.disc (s.work e).station).imageSlots) % 2 ^ F.RCH_IMG_CFG_FREE.width ∧ SameFields [F.RCH_IMG_CFG_FREE] s t) := by
  let taken := s.put F.RCH_IMG_CFG_FREE (s.fld F.RCH_IMG_CFG_FREE - (s.disc (s.work e).station).imageSlots)
  let captured (x : SecWork) : SecWork := { x with captureTried := true, image := true, imageSync := false }
  have sec : ((taken.modSec e j captured).work e).sec j = captured ((s.work e).sec j) := State.sec_modSec_same taken e j captured
  refine .of_eq (t := taken.modSec e j captured) ?_ ⟨by rw [sec], by rw [sec], by rw [sec], State.fld_put_same .., ((SameFields.refl _ s).put _).of_regs rfl⟩
  change execCaptureAgeTrigger bc meanErr s = _
  unfold execCaptureAgeTrigger
  dsimp only
  rw [target]
  dsimp only
  rw [if_pos ⟨active, signal, retries, .inl expected, lane, by simp [defect]⟩]
  unfold State.armCapture
  dsimp only
  rw [if_neg (by simp [fresh, untried]), if_neg (by simp), if_pos (by simp [room, share, reserve])]

end

/-- Settles O35. -/
theorem readLaneCommandsComplete : Obligations.ReadLaneCommandsComplete := by
  intro s
  refine ⟨fun bc value idle => rchStagedWrite_dgain value idle, fun bc reg value busy => rchStagedWrite_stages reg value busy,
    fun bc zone tone rate mode on still unstaged => frameStart_reads mode on still unstaged,
    fun bc first bits clips reading free => frameEnd_adapts reading free,
    fun bc bit mean reading signal first far => timingLost_marks reading signal first far,
    fun bc e1 e2 r on clear one two => defectActive_marks on clear one two, fun bc windows r on extended out => .of_eq (if_pos ⟨on, extended, out⟩) rfl,
    fun bc meanErr e j target signal defect active retries expected lane fresh untried room share reserve =>
      captureAgeTrigger_captures target signal defect active retries expected lane fresh untried room share reserve,
    fun e j rows image undone => .of_eq (if_pos ⟨image, undone⟩) ⟨State.sec_modSec_same .., (SameFields.refl _ s).of_regs rfl⟩,
    fun bc poor => .of_eq (if_pos poor) ⟨State.flag_raise_same _ _ _ _ ⟨rfl⟩, (SameFields.refl _ s).raise _ _ _⟩⟩

end Sys2Proof.Machine
end

section
/-!
PROOFS. Sync searches, decode results, re-decode rounds, the outer code, blank blocks and re-reads (R246–R261).
-/
set_option Elab.async false
namespace Sys2Proof.Machine

/-! ## The re-equalizer's queue

A sector leaves the queue by many steps and enters it by the start of a round alone. -/

/-- A sector is not on a re-equalizer. -/
def State.Unqueued (r : Nat × Nat) (s : State) : Prop := r ∉ s.decoder.reeq

namespace State.Unqueued

variable {r : Nat × Nat} {s t : State}

theorem of_decoder (h : s.Unqueued r) (same : t.decoder = s.decoder) : t.Unqueued r := by
  unfold State.Unqueued
  rw [same]
  exact h

theorem of_frame (h : s.Unqueued r) (frame : Frame (allBut [.decoder]) s t) : t.Unqueued r := h.of_decoder (frame .decoder rfl)

theorem filter {p : Nat × Nat → Bool} {d : Decoder} (h : s.Unqueued r) (kept : d.reeq = s.decoder.reeq.filter p) :
    State.Unqueued r { s with decoder := d } := by
  unfold State.Unqueued
  rw [kept]
  exact fun mem => h ((List.mem_filter.mp mem).1)

theorem forEach {α : Type} {f : State → α → State} (h : s.Unqueued r) (xs : List α) (each : ∀ t x, t.Unqueued r → (f t x).Unqueued r) :
    (s.forEach xs f).Unqueued r := State.forEach_keeps h xs each

theorem whenever {c : Bool} {f : State → State} (h : s.Unqueued r) (each : ∀ t, t.Unqueued r → (f t).Unqueued r) : (s.when c f).Unqueued r := by
  cases c
  · exact h
  · exact each s h

theorem modSec (h : s.Unqueued r) (e j : Nat) (f : SecWork → SecWork) : (s.modSec e j f).Unqueued r := h

theorem discardWork (h : s.Unqueued r) (e : Nat) : (s.discardWork e).Unqueued r := by
  unfold State.discardWork
  dsimp only
  exact (h.of_decoder (State.put_decoder ..)).filter rfl

theorem releaseImage (h : s.Unqueued r) (e j : Nat) : (s.releaseImage e j).Unqueued r := by
  unfold State.releaseImage
  dsimp only
  split
  · exact (h.of_decoder (State.put_decoder ..)).modSec e j _
  · exact h

theorem cancelSector (h : s.Unqueued r) (e j : Nat) : (s.cancelSector e j).Unqueued r := by
  unfold State.cancelSector
  exact ((h.releaseImage e j).modSec e j _).filter rfl

theorem nextRound (h : s.Unqueued r) (e j : Nat) : (s.nextRound e j).Unqueued r := by
  unfold State.nextRound
  split
  · exact h
  · exact (h.releaseImage e j).modSec e j _

theorem armCapture (h : s.Unqueued r) (e j : Nat) (sync inTime : Bool) : (s.armCapture e j sync inTime).Unqueued r := by
  unfold State.armCapture
  dsimp only
  split
  · exact h
  · split
    · exact h.modSec e j _
    · split
      · exact (h.of_decoder (State.put_decoder ..)).modSec e j _
      · exact h.modSec e j _

theorem rungFailed (h : s.Unqueued r) (e j : Nat) (inTime : Bool) : (s.rungFailed e j inTime).Unqueued r := by
  unfold State.rungFailed
  dsimp only
  split
  · split
    · exact ((h.armCapture e j false inTime).modSec e j _).nextRound e j
    · exact (h.armCapture e j false inTime).modSec e j _
  · exact (h.modSec e j _).nextRound e j

theorem freeEntry (h : s.Unqueued r) (e : Nat) : (s.freeEntry e).Unqueued r := by
  unfold State.freeEntry
  exact (h.discardWork e).whenever fun t k => k.of_decoder (State.count_decoder ..)

theorem releaseUses (h : s.Unqueued r) (k : Nat) (giveUp : Bool) : (s.releaseUses k giveUp).Unqueued r := by
  unfold State.releaseUses
  extract_lets uses released chosen
  have first : released.Unqueued r := h.forEach uses fun t u unqueued => by
    dsimp only
    split
    · exact State.Unqueued.freeEntry (s := t.setEntry _ _) unqueued _
    · split
      · exact State.Unqueued.freeEntry (s := t.setEntry _ _) unqueued _
      · exact unqueued
  have second : chosen.Unqueued r := first.forEach entryNumbers fun t e unqueued => by
    dsimp only
    split <;> exact unqueued
  exact second.of_frame (State.modCmd_frame (.refl _ _) _ _ (within_of (by decide)))

theorem endCmd (h : s.Unqueued r) (k : Nat) (giveUp : Bool) (x : CmdResult) : (s.endCmd k giveUp x).Unqueued r :=
  (h.releaseUses k giveUp).of_frame (State.finish_frame (.refl _ _) _ _ (within_of (by decide)))

theorem endRead (h : s.Unqueued r) (k done : Nat) (outcomes failed : List Nat) : (s.endRead k done outcomes failed).Unqueued r := by
  unfold State.endRead
  exact State.Unqueued.endCmd (s := s.setCmd k _) h k false _

theorem padLbas (h : s.Unqueued r) (st m cls : Nat) (lbas : List Nat) : (s.padLbas st m cls lbas).Unqueued r := by
  unfold State.padLbas
  refine h.forEach _ fun t b unqueued => ?_
  dsimp only
  split
  · refine State.Unqueued.of_frame (s := t.when _ _) (unqueued.whenever fun u k => ?_)
      (State.padSectors_frame (.refl _ _) _ _ (within_of (by decide)))
    exact (k.discardWork _).of_frame (State.modEntry_frame (.refl _ _) _ _ (within_of (by decide)))
  · exact unqueued

theorem keyChanged (h : s.Unqueued r) (k : Nat) : (s.keyChanged k).Unqueued r := by
  unfold State.keyChanged
  extract_lets c n told d later padded undelivered ended delivered zeroed flushed
  have posted : told.Unqueued r := h.of_decoder (State.post_decoder ..)
  split
  · exact h
  · split
    · have pads : padded.Unqueued r := posted.forEach later fun t k unqueued => by
        split
        · split
          · exact unqueued.of_frame (State.storeSector_frame (.refl _ _) _ _ _ (within_of (by decide)))
          · exact unqueued
        · exact unqueued
      have padded' : delivered.Unqueued r := (pads.endCmd _ _ _).padLbas _ _ _ _
      have committed : (delivered.forEach entryNumbers State.tryCommit).Unqueued r := padded'.forEach _ fun t e unqueued =>
        unqueued.of_frame (State.tryCommit_frame (.refl _ _) e (within_of (by decide)))
      exact committed.of_frame (State.settleSeals_frame (.refl _ _) (within_of (by decide)))
    · have zero : zeroed.Unqueued r := posted.whenever fun t unqueued =>
        unqueued.of_frame (State.zeroRest_frame (.refl _ _) c (within_of (by decide)))
      have flush : flushed.Unqueued r := zero.whenever fun t unqueued =>
        unqueued.of_frame (State.flushJob_frame (.refl _ _) k (within_of (by decide)))
      exact flush.endCmd _ _ _

theorem passKeyChanged (h : s.Unqueued r) (w : EngineWork) : (s.passKeyChanged w).Unqueued r := by
  unfold State.passKeyChanged
  extract_lets c work blocks cipher recording dropped
  have gone : dropped.Unqueued r := h
  split
  · exact gone
  · exact (gone.of_decoder (State.post_decoder ..)).endCmd _ _ _

theorem startBlock (h : s.Unqueued r) (e : Nat) (w : EngineWork) : (s.startBlock e w).Unqueued r := by
  unfold State.startBlock
  split
  · split
    · exact h.passKeyChanged w
    · split
      · exact h.keyChanged w.cmd
      · exact h.of_frame (State.sealLost_frame (.refl _ _) w (within_of (by decide)))
  · extract_lets k begun counted
    have item : counted.Unqueued r := h.of_frame (State.setWorkItem_frame (.refl (allBut [.decoder]) s) begun (within_of (by decide)))
    exact item.of_frame (State.setEngine_frame (.refl (allBut [.decoder]) counted) e _ (within_of (by decide)))

theorem refillEngines (h : s.Unqueued r) : s.refillEngines.Unqueued r := by
  unfold State.refillEngines
  refine h.forEach _ fun t e unqueued => ?_
  split
  · exact unqueued
  · split
    next w _ => exact unqueued.startBlock e w
    · exact unqueued

theorem tryEndFill (h : s.Unqueued r) (k : Nat) : (s.tryEndFill k).Unqueued r := by
  unfold State.tryEndFill
  dsimp only
  split
  · split
    · exact h.keyChanged k
    · split
      · exact h
      · exact h.endRead _ _ _ _
  · exact h

theorem sectorReady (h : s.Unqueued r) (e : Nat) : (s.sectorReady e).Unqueued r := by
  unfold State.sectorReady
  extract_lets x n valid read
  have set : valid.Unqueued r := h.whenever fun t unqueued => unqueued
  refine refillEngines (set.forEach x.readers fun t k unqueued => ?_)
  refine tryEndFill (unqueued.forEach _ fun u i still => ?_) k
  exact still.of_frame (State.offerUnseal_frame (.refl _ _) _ _ (within_of (by decide)))

theorem finalSector (h : s.Unqueued r) (e j : Nat) (st : SecState) (outcome : Nat) (payload : List Nat) :
    (s.finalSector e j st outcome payload).Unqueued r := by
  unfold State.finalSector
  extract_lets cancelled w set y stored
  have kept : set.Unqueued r := (h.cancelSector e j).modSec e j _
  split
  · have store : stored.Unqueued r := by
      change State.Unqueued r (if _ then _ else _)
      split
      · exact kept.of_frame (State.storeSector_frame (.refl _ _) _ _ _ (within_of (by decide)))
      · exact kept.of_frame (State.modEntry_frame (.refl _ _) _ _ (within_of (by decide)))
    exact store.of_frame (State.report_frame (.refl _ _) _ _ (within_of (by decide)))
  · exact kept

theorem settleBlock (h : s.Unqueued r) (e : Nat) : (s.settleBlock e).Unqueued r := by
  unfold State.settleBlock
  extract_lets w spent spare ended
  have first : spare.Unqueued r := h.whenever fun t unqueued => unqueued.forEach _ fun u j still => by
    dsimp only
    split
    · split
      · exact still.finalSector e j _ _ _
      · exact still.finalSector e j _ _ _
    · exact still
  refine sectorReady ?_ e
  change State.Unqueued r (if _ then _ else _)
  split
  · exact (first.of_frame (State.noteVerified_frame (.refl _ _) e (within_of (by decide)))).discardWork e
  · exact first

end State.Unqueued

/-! ## What a step on one sector leaves of its block -/

/-- Work on a block that has changed in one sector at most. -/
structure BlockWork.KeptBut (j : Nat) (w v : BlockWork) : Prop where
  station : v.station = w.station
  rereading : v.rereading = w.rereading
  outerBusy : v.outerBusy = w.outerBusy
  sec : ∀ k, k ≠ j → v.sec k = w.sec k

namespace BlockWork.KeptBut

variable {j : Nat} {u v w : BlockWork}

theorem refl (w : BlockWork) : BlockWork.KeptBut j w w := ⟨rfl, rfl, rfl, fun _ _ => rfl⟩

theorem setSec (h : BlockWork.KeptBut j w v) (x : SecWork) : BlockWork.KeptBut j w (v.setSec j x) :=
  ⟨h.station, h.rereading, h.outerBusy, fun k other => by rw [BlockWork.sec_setSec, if_neg other, h.sec k other]⟩

end BlockWork.KeptBut

section
variable (s : State) (e j : Nat)

theorem State.work_modSec (f : SecWork → SecWork) : (s.modSec e j f).work e = (s.work e).setSec j (f ((s.work e).sec j)) := State.work_setWork_same ..

theorem State.work_of_decoder {s t : State} (same : t.decoder = s.decoder) (e : Nat) : t.work e = s.work e := by
  unfold State.work
  rw [same]

theorem State.releaseImage_work : BlockWork.KeptBut j (s.work e) ((s.releaseImage e j).work e) := by
  unfold State.releaseImage
  dsimp only
  split
  · rw [State.work_modSec]
    exact (BlockWork.KeptBut.refl (s.work e)).setSec _
  · exact .refl _

theorem State.cancelSector_work : BlockWork.KeptBut j (s.work e) ((s.cancelSector e j).work e) := by
  have set : (s.cancelSector e j).work e = _ := State.work_modSec (s.releaseImage e j) e j fun x => { x with hyps := [], rounding := false, passes := 0 }
  rw [set]
  exact (State.releaseImage_work s e j).setSec _

/-- What a step on a sector leaves: the entry's readers, the other sectors, and the engines' work. -/
structure State.SectorStep (e j : Nat) (s t : State) : Prop where
  work : BlockWork.KeptBut j (s.work e) (t.work e)
  sector : ∀ k, k ≠ j → (t.entry e).sector k = (s.entry e).sector k
  readers : (t.entry e).readers = (s.entry e).readers
  engines : t.cipher.work = s.cipher.work
  stations : t.stations = s.stations

theorem State.entry_storeSector (c : CacheSector) : (s.storeSector e j c).entry e = (s.entry e).setSector j c := by
  unfold State.storeSector
  rw [State.entry_of_cache ((State.memStore_frame (.refl (allBut [.cache]) _) _ _ _ (within_of (by decide))) .cache rfl)]
  exact State.entry_setEntry_same ..

theorem State.entry_report (r : SectorReport) : ∃ withheld, (s.report e r).entry e = { s.entry e with withheld := withheld } := by
  unfold State.report
  split
  · exact ⟨_, State.entry_setEntry_same ..⟩
  · exact ⟨_, State.entry_of_cache ((State.applyReport_frame (.refl (allBut [.cache]) s) r (within_of (by decide))) .cache rfl) e⟩

theorem Entry.sector_setSector (x : Entry) (j k : Nat) (c : CacheSector) : (x.setSector j c).sector k = if k = j then c else x.sector k := by
  unfold Entry.setSector Entry.sector
  exact Table.at_put (α := CacheSector) ..

/-- What an entry holds of a sector that is final. -/
def finalContent (st : SecState) (outcome : Nat) (payload : List Nat) : CacheSector :=
  match st with
  | .confirmed => { st := .confirmed, md := payload.take 64, user := payloadUser payload, outcome := outcome }
  | .blank => { st := .blank, outcome := outcome }
  | _ => { st := .unrecovered, outcome := outcome }

/-- A final sector: its own state, and the step it is for the block. -/
theorem State.finalSector_spec (st : SecState) (outcome : Nat) (payload : List Nat) :
    State.SectorStep e j s (s.finalSector e j st outcome payload) ∧ (((s.finalSector e j st outcome payload).work e).sec j).st = st ∧
      (j < (s.disc (s.work e).station).dataPerBlock →
        ((s.finalSector e j st outcome payload).entry e).sector j = finalContent st outcome payload) := by
  unfold State.finalSector
  extract_lets cancelled w set y stored
  have cache : set.cache = s.cache := (State.modSec_frame (State.cancelSector_frame (.refl (allBut [.cache]) s) e j (within_of (by decide))) e j _
    (within_of (by decide))) .cache rfl
  have cipher : set.cipher = s.cipher := (State.modSec_frame (State.cancelSector_frame (.refl (allBut [.cipher]) s) e j (within_of (by decide))) e j _
    (within_of (by decide))) .cipher rfl
  have stations : set.stations = s.stations := (State.modSec_frame (State.cancelSector_frame (.refl (allBut [.stations]) s) e j (within_of (by decide)))
    e j _ (within_of (by decide))) .stations rfl
  have work : set.work e = (cancelled.work e).setSec j { (cancelled.work e).sec j with st := st, outcome := outcome, payload := payload } :=
    State.work_modSec ..
  have kept : BlockWork.KeptBut j (s.work e) (set.work e) := work ▸ (State.cancelSector_work s e j).setSec _
  have own : ((set.work e).sec j).st = st := by rw [work, BlockWork.sec_setSec_same]
  have inside : (set.disc w.station).dataPerBlock = (s.disc (s.work e).station).dataPerBlock := by
    unfold State.disc State.station
    rw [stations, show w.station = (s.work e).station from (State.cancelSector_work s e j).station]
  split
  · have entry : stored.entry e = (s.entry e).setSector j (finalContent st outcome payload) := by
      rw [← State.entry_of_cache cache e]
      change State.entry (if _ then _ else _) e = _
      split
      · exact State.entry_storeSector ..
      · exact State.entry_setEntry_same ..
    have frame : Frame (allBut [.decoder, .cipher, .stations]) set stored := by
      change Frame _ set (if _ then _ else _)
      split
      · exact State.storeSector_frame (.refl _ set) e j y (within_of (by decide))
      · exact State.modEntry_frame (.refl _ set) e _ (within_of (by decide))
    have told : Frame (allBut [.decoder, .cipher, .stations]) set (stored.report e (stored.secReport w j outcome)) :=
      State.report_frame frame e _ (within_of (by decide))
    obtain ⟨withheld, reported⟩ := State.entry_report stored e (stored.secReport w j outcome)
    refine ⟨⟨?_, fun k other => ?_, ?_, ?_, ?_⟩, ?_, fun _ => ?_⟩
    · rw [State.work_of_decoder (told .decoder rfl)]
      exact kept
    · rw [reported, entry]
      exact (Entry.sector_setSector ..).trans (if_neg other)
    · rw [reported, entry]
      rfl
    · rw [told .cipher rfl, cipher]
    · rw [told .stations rfl, stations]
    · rw [State.work_of_decoder (told .decoder rfl), own]
    · rw [reported, entry]
      exact (Entry.sector_setSector ..).trans (if_pos rfl)
  next outside =>
    refine ⟨⟨kept, fun k _ => by rw [State.entry_of_cache cache], by rw [State.entry_of_cache cache], by rw [cipher], stations⟩, own, fun data => ?_⟩
    rw [inside] at outside
    exact absurd data outside

end

/-! ## The end of a step on a block -/

section
variable {s : State} {e j : Nat}

/-- What a block that is settled leaves of one of its sectors: its place in the entry, with no reader and nothing for the engines. -/
structure State.Settled (e j : Nat) (c : CacheSector) (t : State) : Prop where
  sector : (t.entry e).sector j = c
  readers : (t.entry e).readers = []
  idle : ∀ w ∈ t.cipher.work, w.ready = false

theorem State.Settled.step {t u : State} {i : Nat} {c : CacheSector} (h : State.Settled e j c t) (step : State.SectorStep e i t u) (other : j ≠ i) :
    State.Settled e j c u :=
  ⟨(step.sector j other).trans h.sector, step.readers.trans h.readers, by rw [step.engines]; exact h.idle⟩

/-- An entry without readers becomes VALID at most, once its sectors are ready. -/
theorem State.sectorReady_quiet {x : Entry} (entry : s.entry e = x) (readers : x.readers = []) (idle : ∀ w ∈ s.cipher.work, w.ready = false) :
    ∃ st, (s.sectorReady e).entry e = { x with st := st } ∧ (s.sectorReady e).decoder = s.decoder ∧ (s.sectorReady e).regs = s.regs := by
  unfold State.sectorReady
  extract_lets y n valid read
  have none_ : y.readers = [] := by rw [← readers, ← entry]
  have same : read = valid := by
    change valid.forEach y.readers _ = valid
    rw [none_]
    rfl
  rw [same]
  have valid_ : (∃ st, valid.entry e = { x with st := st }) ∧ valid.decoder = s.decoder ∧ valid.regs = s.regs ∧ valid.cipher = s.cipher := by
    change (∃ st, (State.when s _ _).entry e = _) ∧ (State.when s _ _).decoder = _ ∧ (State.when s _ _).regs = _ ∧ (State.when s _ _).cipher = _
    unfold State.when
    split
    · exact ⟨⟨.valid, by rw [← entry]; exact State.entry_setEntry_same ..⟩, rfl, rfl, rfl⟩
    · exact ⟨⟨x.st, entry⟩, rfl, rfl, rfl⟩
  obtain ⟨entry', decoder, regs, cipher⟩ := valid_
  rw [State.refillEngines_idle (by rw [cipher]; exact idle)]
  obtain ⟨st, entry'⟩ := entry'
  exact ⟨st, entry', decoder, regs⟩

theorem State.work_discardWork (s : State) (e : Nat) : (s.discardWork e).work e = {} := by
  unfold State.discardWork State.work
  dsimp only
  exact Table.at_put_same (α := BlockWork) ..

/-- Settling a block leaves a sector that is not erased as the entry holds it, and the outer decoder as it was. -/
theorem State.settleBlock_sector {c : CacheSector} (h : State.Settled e j c s) (final : ((s.work e).sec j).st ≠ .erased) :
    ((s.settleBlock e).entry e).sector j = c ∧ ((s.work e).outerBusy = false → ((s.settleBlock e).work e).outerBusy = false) := by
  unfold State.settleBlock
  extract_lets w spent spare ended
  let P (t : State) : Prop := State.Settled e j c t ∧ ((t.work e).sec j).st ≠ .erased ∧ ((s.work e).outerBusy = false → (t.work e).outerBusy = false)
  have first : P spare := by
    change P (State.when s _ _)
    unfold State.when
    split
    · refine State.forEach_keeps (P := P) ⟨h, final, id⟩ _ fun t i kept => ?_
      obtain ⟨settled, unerased, idle⟩ := kept
      dsimp only
      split
      next erased =>
        have other : j ≠ i := by
          rintro rfl
          exact unerased erased
        have stepped (st : SecState) (o : Nat) (p : List Nat) : P (t.finalSector e i st o p) := by
          obtain ⟨step, _, _⟩ := State.finalSector_spec t e i st o p
          exact ⟨settled.step step other, by rw [step.work.sec j other]; exact unerased, by rw [step.work.outerBusy]; exact idle⟩
        split
        · exact stepped ..
        · exact stepped ..
      next => exact ⟨settled, unerased, idle⟩
    · exact ⟨h, final, id⟩
  have second : State.Settled e j c ended ∧ ((s.work e).outerBusy = false → (ended.work e).outerBusy = false) := by
    obtain ⟨settled, _, idle⟩ := first
    change State.Settled e j c (if _ then _ else _) ∧ (_ → (State.work (if _ then _ else _) e).outerBusy = false)
    split
    · have frame : Frame (allBut [.cache, .cipher]) spare ((spare.noteVerified e).discardWork e) :=
        State.discardWork_frame (State.noteVerified_frame (.refl _ spare) e (within_of (by decide))) e (within_of (by decide))
      have entry := State.entry_of_cache (frame .cache rfl) e
      exact ⟨⟨by rw [entry]; exact settled.sector, by rw [entry]; exact settled.readers, by rw [frame .cipher rfl]; exact settled.idle⟩,
        fun _ => by rw [State.work_discardWork]⟩
    · exact ⟨settled, idle⟩
  obtain ⟨settled, idle⟩ := second
  obtain ⟨st, entry, decoder, _⟩ := State.sectorReady_quiet rfl settled.readers settled.idle
  rw [entry, State.work_of_decoder decoder]
  exact ⟨settled.sector, idle⟩

/-- Settling a block with a data sector still open changes neither the work on it nor a register. -/
theorem State.settleBlock_open (inside : j < (s.disc (s.work e).station).dataPerBlock)
    (waits : ((s.work e).sec j).st.open = true ∨ ((s.work e).sec j).st = .pinned) (readers : (s.entry e).readers = [])
    (idle : ∀ w ∈ s.cipher.work, w.ready = false) : (s.settleBlock e).decoder = s.decoder ∧ (s.settleBlock e).regs = s.regs := by
  have unfinished : s.workFinal e = false := by
    unfold State.workFinal
    dsimp only
    have open_ : ((s.work e).sec j).st.final = false := by
      rcases waits with open_ | pinned
      · cases st : ((s.work e).sec j).st <;> simp_all [SecState.open, SecState.final]
      · rw [pinned]
        rfl
    have : (List.range (s.disc (s.work e).station).dataPerBlock).all (fun j => ((s.work e).sec j).st.final) = false :=
      List.all_eq_false.mpr ⟨j, List.mem_range.mpr inside, by simp [open_]⟩
    rw [this, Bool.and_false]
  have waiting : s.needsReread e = false := by
    have whole : j < (s.disc (s.work e).station).perBlock := Nat.lt_of_lt_of_le inside (Nat.le_add_right _ _)
    have counted : (s.work e).countIn (s.disc (s.work e).station).perBlock (fun st => st.open || st == .pinned) ≠ 0 := by
      refine Nat.pos_iff_ne_zero.mp (List.length_pos_of_mem (List.mem_filter.mpr ⟨List.mem_range.mpr whole, ?_⟩))
      simpa using waits
    unfold State.needsReread
    simp [counted]
  unfold State.settleBlock
  extract_lets w spent spare ended
  have first : spare = s := by
    change State.when s (!s.workFinal e && s.needsReread e && spent) _ = s
    rw [waiting, Bool.and_false]
    rfl
  have second : ended = s := by
    change (if spare.workFinal e then _ else spare) = s
    rw [first, unfinished]
    rfl
  rw [second]
  obtain ⟨_, _, decoder, regs⟩ := State.sectorReady_quiet (s := s) rfl readers idle
  exact ⟨decoder, regs⟩

end

/-! ## Hypotheses -/

section
variable {s : State} {e : Fin 48} {j : Fin 72}

theorem decodeConverged_confirms {idx : Fin 4} {codeword : Nat} {inTime : Bool} (decodes : s.decodes e j idx = true)
    (decoding : ((s.work e).sec j).st = .decoding) (first : (s.work e).rereading = false) (inside : j.val < (s.disc (s.work e).station).dataPerBlock)
    (converged : ldpcConverged (s.disc (s.work e).station).ldpc codeword = true)
    (checks : sectorChecks (s.secPsa (s.work e) j) (codewordPayload codeword) = true) (readers : (s.entry e).readers = [])
    (idle : ∀ w ∈ s.cipher.work, w.ready = false) :
    Answers (.decodeConverged e j idx codeword inTime) s (fun t => ((t.entry e).sector j).st = .confirmed ∧
      ((t.entry e).sector j).user = payloadUser (codewordPayload codeword) ∧
      ((t.entry e).sector j).outcome = (if idx = 0 then Outcome.clean else Outcome.hypothesis)) := by
  let outcome := if ((s.work e).sec j).st = .pinned then Outcome.redecode else if idx.val = 0 then Outcome.clean else Outcome.hypothesis
  obtain ⟨framed, cache, cipher, decoder, stations, answered⟩ : ∃ u : State, u.cache = s.cache ∧ u.cipher = s.cipher ∧ u.decoder = s.decoder ∧
      u.stations = s.stations ∧ exec (.decodeConverged e j idx codeword inTime) s =
        .next ((u.confirmSector e j outcome (codewordPayload codeword)).settleBlock e) := by
    refine ⟨s.setLane (s.secLane (s.work e) j) { s.lane (s.secLane (s.work e) j) with
      framing := ((((s.work e).sec j).hyps.find? (fun h => h.idx == idx.val)).getD ⟨0, 0, 0, false⟩).f2 }, rfl, rfl, rfl, rfl, ?_⟩
    change execDecodeConverged e j idx codeword inTime s = _
    unfold execDecodeConverged
    dsimp only
    rw [if_neg (by simp [decodes, converged]), if_pos checks]
  have work : framed.work e = s.work e := State.work_of_decoder decoder e
  have confirm : framed.confirmSector e j outcome (codewordPayload codeword) = framed.finalSector e j .confirmed outcome (codewordPayload codeword) := by
    unfold State.confirmSector
    rw [work, first]
    rfl
  rw [confirm] at answered
  obtain ⟨step, st, own⟩ := State.finalSector_spec framed e j .confirmed outcome (codewordPayload codeword)
  have disc : framed.disc (framed.work e).station = s.disc (s.work e).station := by
    unfold State.disc State.station
    rw [work, stations]
  have settled : State.Settled e j (finalContent .confirmed outcome (codewordPayload codeword))
      (framed.finalSector e j .confirmed outcome (codewordPayload codeword)) :=
    ⟨own (by rw [disc]; exact inside), by rw [step.readers, State.entry_of_cache cache, readers], by rw [step.engines, cipher]; exact idle⟩
  refine .of_eq answered ?_
  rw [(State.settleBlock_sector settled (by rw [st]; decide)).1]
  refine ⟨rfl, rfl, ?_⟩
  change (if ((s.work e).sec j).st = .pinned then Outcome.redecode else if idx.val = 0 then Outcome.clean else Outcome.hypothesis) = _
  rw [decoding, if_neg (by decide)]
  simp only [Fin.ext_iff]
  rfl

theorem decodeMaxIter_drops {idx : Fin 4} {inTime : Bool} (decodes : s.decodes e j idx = true) (inside : j.val < (s.disc (s.work e).station).dataPerBlock)
    (others : ((s.work e).sec j).hyps.filter (fun x => x.idx != idx.val) ≠ []) (readers : (s.entry e).readers = [])
    (idle : ∀ w ∈ s.cipher.work, w.ready = false) :
    Answers (.decodeMaxIter e j idx inTime) s (fun t => (t.work e).sec j =
      { (s.work e).sec j with hyps := ((s.work e).sec j).hyps.filter (fun x => x.idx != idx.val) } ∧ SameFields [] s t) := by
  let dropped := s.modSec e j fun x => { x with hyps := x.hyps.filter (fun h => h.idx != idx.val) }
  have sec : (dropped.work e).sec j = { (s.work e).sec j with hyps := ((s.work e).sec j).hyps.filter (fun x => x.idx != idx.val) } :=
    State.sec_modSec_same ..
  have station : (dropped.work e).station = (s.work e).station := by
    rw [show dropped.work e = _ from State.work_modSec ..]
    rfl
  have waits : ((dropped.work e).sec j).st.open = true ∨ ((dropped.work e).sec j).st = .pinned := by
    rw [sec]
    dsimp only
    simp only [State.decodes, Bool.and_eq_true, Bool.or_eq_true, beq_iff_eq] at decodes
    obtain ⟨⟨_, decoding | ⟨pinned, _⟩⟩, _⟩ := decodes
    · exact .inl (by rw [decoding]; rfl)
    · exact .inr pinned
  obtain ⟨decoder, regs⟩ := State.settleBlock_open (s := dropped) (by rw [station]; exact inside) waits readers idle
  refine .of_eq (t := dropped.settleBlock e) ?_ ⟨by rw [State.work_of_decoder decoder, sec], (SameFields.refl _ s).of_regs regs⟩
  change execDecodeMaxIter e j idx inTime s = _
  unfold execDecodeMaxIter State.hypFailed
  rw [if_pos decodes]
  change Host.Outcome.next (State.settleBlock (if ((dropped.work e).sec j).hyps.isEmpty = true then dropped.rungFailed e j inTime else dropped) e) = _
  rw [sec, if_neg (by simpa using others)]

end

/-! ## Rounds of the re-equalizer -/

section
variable {s : State} {e : Fin 48} {j : Fin 72}

theorem redecodeRoundStart_starts {r : Nat × Nat} (room : s.decoder.reeq.length < 8)
    (first : s.decoder.waitRound.find? (fun x => ((s.work x.1).sec x.2).imageDone) = some r) :
    Answers .redecodeRoundStart s (fun t => t.decoder.reeq = s.decoder.reeq ++ [r] ∧ t.decoder.waitRound = s.decoder.waitRound.filter (fun y => y != r) ∧
      ((t.work r.1).sec r.2).rounding = true ∧ ((t.work r.1).sec r.2).roundOn = ((s.work r.1).sec r.2).roundOn + 1 ∧
      ((t.work r.1).sec r.2).passes = (if ((s.work r.1).sec r.2).roundOn = 2 then 2 else 1) ∧ SameFields [] s t) := by
  let started := s.modSec r.1 r.2 fun x => { x with
    roundOn := x.roundOn + 1, rounding := true, passes := if x.roundOn + 1 = 3 then 2 else 1, hyps := [] }
  have sec : (started.work r.1).sec r.2 = { (s.work r.1).sec r.2 with
      roundOn := ((s.work r.1).sec r.2).roundOn + 1, rounding := true
      passes := if ((s.work r.1).sec r.2).roundOn + 1 = 3 then 2 else 1, hyps := [] } := State.sec_modSec_same ..
  let t : State := { started with decoder := { started.decoder with
    waitRound := s.decoder.waitRound.filter (fun y => y != r), reeq := s.decoder.reeq ++ [r] } }
  have work : (t.work r.1).sec r.2 = (started.work r.1).sec r.2 := rfl
  refine .of_eq (t := t) ?_ ⟨rfl, rfl, ?_, ?_, ?_, (SameFields.refl _ s).of_regs rfl⟩
  · change execRedecodeRoundStart s = _
    unfold execRedecodeRoundStart
    rw [if_neg (by omega), first]
    rfl
  · rw [work, sec]
  · rw [work, sec]
  · rw [work, sec]
    simp only [Nat.reduceEqDiff]

theorem reequalizerPassDone_passes {d : DiscInfo} {x : SecWork} (queued : (e.val, j.val) ∈ s.decoder.reeq) (disc : d = s.disc (s.work e).station)
    (sec : x = (s.work e).sec j) (more : 1 < x.passes) :
    Answers (.reequalizerPassDone e j) s (fun t => ((t.work e).sec j).passes = x.passes - 1 ∧
      ((t.work e).sec j).setting.coef = (imagePass { x.setting with eqSh := x.setting.eqSh - 2 } (if d.s4 then 1 else 4) (s.secLane (s.work e) j % 4)
        (if d.s4 then 46080 else 50176) (imageRows x.rows) true).2 ∧ t.decoder.reeq = s.decoder.reeq ∧ SameFields [] s t) := by
  subst disc sec
  generalize coef : (imagePass { ((s.work e).sec j).setting with eqSh := ((s.work e).sec j).setting.eqSh - 2 }
    (if (s.disc (s.work e).station).s4 then 1 else 4) (s.secLane (s.work e) j % 4) (if (s.disc (s.work e).station).s4 then 46080 else 50176)
    (imageRows ((s.work e).sec j).rows) true).2 = k
  have set := State.sec_modSec_same s e j fun x => { x with passes := x.passes - 1, setting := { x.setting with coef := k } }
  refine .of_eq (t := s.modSec e j fun x => { x with passes := x.passes - 1, setting := { x.setting with coef := k } }) ?_
    ⟨by rw [set], by rw [set], rfl, (SameFields.refl _ s).of_regs rfl⟩
  change execReequalizerPassDone e j s = _
  unfold execReequalizerPassDone
  dsimp only
  rw [if_neg (by simp [queued]), if_pos more, coef]

theorem reequalizerPassDone_ends (queued : (e.val, j.val) ∈ s.decoder.reeq) (last : ((s.work e).sec j).passes = 1) :
    Answers (.reequalizerPassDone e j) s (fun t => (e.val, j.val) ∉ t.decoder.reeq) := by
  change ∃ t, execReequalizerPassDone e j s = .next t ∧ t.Unqueued (e.val, j.val)
  unfold execReequalizerPassDone
  extract_lets w x d bc used len rows setting once coef c sigma2 tol mark result decoder done
  have gone : done.Unqueued (e.val, j.val) := by
    change (e.val, j.val) ∉ s.decoder.reeq.filter (fun y => y != (e.val, j.val))
    simp
  rw [if_neg (by simp [queued]), if_neg (by simp [x, w, last])]
  split
  · exact ⟨_, rfl, (gone.rungFailed e j false).settleBlock e⟩
  · exact ⟨_, rfl, gone⟩

end

/-! ## Sync, the outer code, blank blocks, re-reads -/

theorem syncSearch_decodes {s : State} {bc : Fin 64} {p q : List Int} {e j : Nat} {f : Int} (target : (s.lane bc).target = some (e, j))
    (reading : (s.lane bc).reading = true) (signal : (s.lane bc).blank = false) (active : (s.work e).active = true)
    (expected : ((s.work e).sec j).st = .expected) (first : ((s.work e).sec j).h0 = none) (lane : s.secLane (s.work e) j = bc.val)
    (q8 : (s.disc (s.work e).station).s4 = false)
    (primary : findMark (min 64 (s.fld (F.RCH_SYNC_CFG_WIN bc))) (s.fld (F.RCH_SYNC_CFG_TOL bc)) primaryMark p = some f)
    (secondary : findMark (min 64 (s.fld (F.RCH_SYNC_CFG_WIN bc))) (s.fld (F.RCH_SYNC_CFG_TOL bc)) secondaryMark q = some f) :
    Answers (.syncSearch bc p q) s (fun t => (t.work e).sec j =
      { (s.work e).sec j with st := .decoding, hyps := [⟨0, f, f, false⟩], h0 := some ⟨0, f, f, false⟩ } ∧ SameFields [] s t) := by
  have found (split : Bool) : syncHyps split (some f) (some f) = { hyps := [⟨0, f, f, false⟩] } := by
    unfold syncHyps
    exact if_pos (Int.sub_self f)
  let decoding (x : SecWork) : SecWork := { x with
    st := .decoding, hyps := [⟨0, f, f, false⟩], h0 := if x.h0.isNone then some ⟨0, f, f, false⟩ else x.h0
    doubts := x.doubts + b2n false, conflicts := x.conflicts + b2n false }
  refine .of_eq (t := s.modSec e j decoding) ?_ ⟨?_, (SameFields.refl _ s).of_regs rfl⟩
  · change execSyncSearch bc p q s = _
    unfold execSyncSearch
    dsimp only
    rw [target]
    dsimp only
    rw [if_neg (by simp [reading, signal, active, expected, lane]), primary, secondary, found, q8]
    rfl
  · rw [State.sec_modSec_same]
    simp only [decoding, first, Option.isNone_none, if_true]
    rfl

section
variable {s : State} {e : Fin 48}

/-- A sector given up before the outer decode: the others stay as they are. -/
theorem State.giveUp_work (s : State) (e j : Nat) : BlockWork.KeptBut j (s.work e) (((s.cancelSector e j).modSec e j fun x => { x with st := .erased }).work e) ∧
    ((((s.cancelSector e j).modSec e j fun x => { x with st := .erased }).work e).sec j).st = .erased := by
  rw [State.work_modSec, BlockWork.sec_setSec_same]
  exact ⟨(State.cancelSector_work s e j).setSec _, rfl⟩

theorem outerDecode_begins (due : s.outerDue e = true) :
    Answers (.outerDecode e) s (fun t => (t.work e).outerBusy = true ∧ (∀ j : Fin 72, j.val < (s.disc (s.work e).station).perBlock →
      ((s.work e).sec j).st = .pinned → ((t.work e).sec j).st = .erased)) := by
  let erases (t : State) (j : Nat) : State :=
    if ((t.work e).sec j).st = .pinned then (t.cancelSector e j).modSec e j fun x => { x with st := .erased } else t
  let given := s.forEach (List.range (s.disc (s.work e).station).perBlock) erases
  have busy := State.work_setWork_same given e { given.work e with outerBusy := true }
  refine .of_eq (t := given.modWork e fun w => { w with outerBusy := true }) (if_pos due) ⟨by rw [State.modWork, busy], fun j inside pinned => ?_⟩
  rw [State.modWork, busy]
  have keeps (t : State) (i : Nat) (p : SecState → Prop) (gone : p .erased) (h : p ((t.work e).sec j).st) : p (((erases t i).work e).sec j).st := by
    unfold erases
    split
    · obtain ⟨step, own⟩ := State.giveUp_work t e i
      by_cases same : j.val = i
      · rw [same, own]
        exact gone
      · rw [step.sec j same]
        exact h
    · exact h
  refine State.forEach_reaches_of (I := fun t => ((t.work e).sec j).st = .pinned ∨ ((t.work e).sec j).st = .erased)
    (P := fun t => ((t.work e).sec j).st = .erased) (List.mem_range.mpr inside) (fun t i => keeps t i (fun st => st = .pinned ∨ st = .erased) (.inr rfl))
    (fun t pending => ?_) (fun t i => keeps t i (· = .erased) rfl) (.inl pinned)
  unfold erases
  split
  · exact (State.giveUp_work t e j).2
  next settled => exact pending.resolve_left settled

/-- A block on which work goes on: nobody reads its entry, nothing is ready for the engines, and it lies on the station it lay on. -/
structure State.BlockQuiet (e : Nat) (w : BlockWork) (stations : Table Station) (t : State) : Prop where
  readers : (t.entry e).readers = []
  idle : ∀ w ∈ t.cipher.work, w.ready = false
  station : (t.work e).station = w.station
  rereading : (t.work e).rereading = w.rereading
  outerBusy : (t.work e).outerBusy = w.outerBusy
  stations : t.stations = stations

theorem State.BlockQuiet.step {e j : Nat} {w : BlockWork} {stations : Table Station} {t u : State} (h : State.BlockQuiet e w stations t)
    (step : State.SectorStep e j t u) : State.BlockQuiet e w stations u :=
  ⟨step.readers.trans h.readers, by rw [step.engines]; exact h.idle, step.work.station.trans h.station, step.work.rereading.trans h.rereading,
    step.work.outerBusy.trans h.outerBusy, step.stations.trans h.stations⟩

theorem outerDecodeDone_restores {j : Fin 72} (active : (s.work e).active = true) (busy : (s.work e).outerBusy = true)
    (first : (s.work e).rereading = false) (inside : j.val < (s.disc (s.work e).station).dataPerBlock) (lost : ((s.work e).sec j).st ≠ .confirmed)
    (decoded : ∀ c ∈ outerColumns, (rsDecode (s.disc (s.work e).station).parityPerBlock
      ((List.range (s.disc (s.work e).station).perBlock).filter (fun i => ((s.work e).sec i).st != .confirmed))
      ((List.range (s.disc (s.work e).station).perBlock).map (fun i => ((s.work e).sec i).payload.getD c 0))).2 = true)
    (readers : (s.entry e).readers = []) (idle : ∀ w ∈ s.cipher.work, w.ready = false) :
    Answers (.outerDecodeDone e) s (fun t => ((t.entry e).sector j).st = .confirmed ∧ ((t.entry e).sector j).outcome = Outcome.outer ∧
      (t.work e).outerBusy = false) := by
  let freed := s.modWork e fun w => { w with outerBusy := false }
  let erased := (List.range (s.disc (s.work e).station).perBlock).filter (fun i => ((s.work e).sec i).st != .confirmed)
  have work : freed.work e = { s.work e with outerBusy := false } := State.work_setWork_same ..
  obtain ⟨payload, answered⟩ : ∃ payload : State → Nat → List Nat, exec (.outerDecodeDone e) s = .next
      ((freed.forEach (erased.filter (fun i => decide (i < (s.disc (s.work e).station).dataPerBlock))) fun t i =>
        t.confirmSector e i Outcome.outer (payload t i)).settleBlock e) := by
    change ∃ payload : State → Nat → List Nat, execOuterDecodeDone e s = _
    unfold execOuterDecodeDone
    dsimp only
    rw [if_neg (by simp [active, busy]), if_pos (by simpa using decoded)]
    exact ⟨_, rfl⟩
  let Q (t : State) : Prop := State.BlockQuiet e (freed.work e) s.stations t
  let P (t : State) : Prop := Q t ∧ ((t.work e).sec j).st = .confirmed ∧ ((t.entry e).sector j).st = .confirmed ∧
    ((t.entry e).sector j).outcome = Outcome.outer
  have confirm (t : State) (quiet : Q t) (i : Nat) : t.confirmSector e i Outcome.outer (payload t i) = t.finalSector e i .confirmed Outcome.outer (payload t i) := by
    unfold State.confirmSector
    rw [quiet.rereading, work, first]
    rfl
  have keeps (t : State) (i : Nat) (quiet : Q t) : Q (t.confirmSector e i Outcome.outer (payload t i)) := by
    rw [confirm t quiet]
    exact quiet.step (State.finalSector_spec t e i _ _ _).1
  have brings (t : State) (quiet : Q t) : P (t.confirmSector e j Outcome.outer (payload t j)) := by
    refine ⟨keeps t j quiet, ?_⟩
    rw [confirm t quiet]
    obtain ⟨_, st, own⟩ := State.finalSector_spec t e j .confirmed Outcome.outer (payload t j)
    have data : j.val < (t.disc (t.work e).station).dataPerBlock := by
      unfold State.disc State.station at *
      rw [quiet.stations, quiet.station, work]
      exact inside
    rw [own data]
    exact ⟨st, rfl, rfl⟩
  have held (t : State) (i : Nat) (h : P t) : P (t.confirmSector e i Outcome.outer (payload t i)) := by
    obtain ⟨quiet, st, sector, outcome⟩ := h
    by_cases same : j.val = i
    · exact same ▸ brings t quiet
    · refine ⟨keeps t i quiet, ?_⟩
      rw [confirm t quiet]
      obtain ⟨step, _, _⟩ := State.finalSector_spec t e i .confirmed Outcome.outer (payload t i)
      rw [step.work.sec j same, step.sector j same]
      exact ⟨st, sector, outcome⟩
  have mem : j.val ∈ erased.filter (fun i => decide (i < (s.disc (s.work e).station).dataPerBlock)) := by
    refine List.mem_filter.mpr ⟨List.mem_filter.mpr ⟨List.mem_range.mpr ?_, by simpa using lost⟩, by simpa using inside⟩
    exact Nat.lt_of_lt_of_le inside (Nat.le_add_right _ _)
  have done : P _ := State.forEach_reaches_of mem keeps brings held (s := freed) ⟨readers, idle, rfl, rfl, rfl, rfl⟩
  obtain ⟨quiet, st, sector, outcome⟩ := done
  obtain ⟨same, free⟩ := State.settleBlock_sector ⟨rfl, quiet.readers, quiet.idle⟩ (by rw [st]; decide)
  refine .of_eq answered ?_
  rw [same]
  exact ⟨sector, outcome, free (by rw [quiet.outerBusy, work])⟩

theorem blockBlank_empties (active : (s.work e).active = true) (undecided : (s.work e).blank = none)
    (most : (s.disc (s.work e).station).blankLimit ≤ (s.work e).blanks) (readers : (s.entry e).readers = []) (idle : ∀ w ∈ s.cipher.work, w.ready = false) :
    Answers (.blockBlank e) s (fun t => (∀ j : Fin 72, j.val < (s.disc (s.work e).station).dataPerBlock → ((s.work e).sec j).st = .blankFrame →
      ((t.entry e).sector j).st = .blank)) := by
  let marked := s.modWork e fun w => { w with blank := some true }
  let empties (t : State) (j : Nat) : State := if ((t.work e).sec j).st = .blankFrame then t.finalSector e j .blank Outcome.blank [] else t
  have work : marked.work e = { s.work e with blank := some true } := State.work_setWork_same ..
  refine .of_eq (t := (marked.forEach (List.range (s.disc (s.work e).station).perBlock) empties).settleBlock e)
    (if_pos ⟨active, undecided, most⟩) fun j inside blank => ?_
  let Q (t : State) : Prop := State.BlockQuiet e (marked.work e) s.stations t
  let P (t : State) : Prop := Q t ∧ ((t.work e).sec j).st = .blank ∧ ((t.entry e).sector j).st = .blank
  have quiets (t : State) (i : Nat) (quiet : Q t) : Q (empties t i) := by
    unfold empties
    split
    · exact quiet.step (State.finalSector_spec t e i _ _ _).1
    · exact quiet
  have own (t : State) (quiet : Q t) (open_ : ((t.work e).sec j).st = .blankFrame) : P (empties t j) := by
    refine ⟨quiets t j quiet, ?_⟩
    unfold empties
    rw [if_pos open_]
    obtain ⟨_, st, own⟩ := State.finalSector_spec t e j .blank Outcome.blank []
    have data : j.val < (t.disc (t.work e).station).dataPerBlock := by
      unfold State.disc State.station at *
      rw [quiet.stations, quiet.station, work]
      exact inside
    rw [own data]
    exact ⟨st, rfl⟩
  have held (t : State) (i : Nat) (h : P t) : P (empties t i) := by
    obtain ⟨quiet, st, sector⟩ := h
    refine ⟨quiets t i quiet, ?_⟩
    unfold empties
    split
    next open_ =>
      have other : j.val ≠ i := by
        rintro rfl
        simp [st] at open_
      obtain ⟨step, _, _⟩ := State.finalSector_spec t e i .blank Outcome.blank []
      rw [step.work.sec j other, step.sector j other]
      exact ⟨st, sector⟩
    next => exact ⟨st, sector⟩
  have keeps (t : State) (i : Nat) (h : (Q t ∧ ((t.work e).sec j).st = .blankFrame) ∨ P t) :
      (Q (empties t i) ∧ (((empties t i).work e).sec j).st = .blankFrame) ∨ P (empties t i) := by
    rcases h with ⟨quiet, open_⟩ | done
    · by_cases same : j.val = i
      · exact .inr (same ▸ own t quiet open_)
      · refine .inl ⟨quiets t i quiet, ?_⟩
        unfold empties
        split
        · rw [(State.finalSector_spec t e i _ _ _).1.work.sec j same, open_]
        · exact open_
    · exact .inr (held t i done)
  have done : P _ := State.forEach_reaches_of (I := fun t => (Q t ∧ ((t.work e).sec j).st = .blankFrame) ∨ P t) (x := j.val)
    (xs := List.range (s.disc (s.work e).station).perBlock) (f := empties)
    (List.mem_range.mpr (Nat.lt_of_lt_of_le inside (Nat.le_add_right _ _))) keeps
    (fun t h => h.elim (fun ⟨quiet, open_⟩ => own t quiet open_) (held t j)) held (s := marked)
    (.inl ⟨⟨readers, idle, rfl, rfl, rfl, rfl⟩, by rw [work]; exact blank⟩)
  obtain ⟨quiet, st, sector⟩ := done
  rw [(State.settleBlock_sector ⟨rfl, quiet.readers, quiet.idle⟩ (by rw [st]; decide)).1]
  exact sector

/-- A sector of a block begins its re-read where it was erased. -/
def rereadSec (x : SecWork) : SecWork :=
  { x with st := SecState.expected, hyps := [], h0 := none, captureTried := false, roundOn := 0 }

theorem rereadSecs_erased {m : Table SecWork} {j : Nat} (erased : (Table.at {} m j).st = .erased) :
    (Table.at {} (m.map (fun x => if x.2.st = .erased then (x.1, rereadSec x.2) else x)) j).st = .expected := by
  induction m with
  | nil => simp [Table.at, Table.get] at erased
  | cons x m ih =>
    obtain ⟨k, v⟩ := x
    by_cases here : k = j
    · simp only [Table.at, Table.get, here, if_true] at erased
      simp [Table.at, Table.get, erased, here, rereadSec]
    · simp only [Table.at, Table.get, here, if_false] at erased
      rw [List.map_cons]
      split
      · simpa [Table.at, Table.get, here] using ih erased
      · simpa [Table.at, Table.get, here] using ih erased

theorem reread_begins (needed : s.needsReread e = true) (retries : (s.work e).noRetry = false)
    (left : (s.work e).rereads < s.fld F.RCH_DEC_CFG_REREAD_MAX) :
    Answers (.reread e) s (fun t => (t.work e).rereads = (s.work e).rereads + 1 ∧ (t.work e).rereading = true ∧
      (∀ j : Fin 72, ((s.work e).sec j).st = .erased → ((t.work e).sec j).st = .expected) ∧ SameFields [] s t) := by
  let begun : BlockWork := { s.work e with
    rereads := (s.work e).rereads + 1, rereading := true, outerFailed := false, blanks := 0, taken := 0
    secs := (s.work e).secs.map (fun x => if x.2.st = .erased then (x.1, rereadSec x.2) else x) }
  refine .of_eq (t := s.setWork e begun) (if_pos ⟨needed, retries, left⟩) ?_
  rw [State.work_setWork_same]
  exact ⟨rfl, rfl, fun j erased => rereadSecs_erased erased, (SameFields.refl _ s).of_regs rfl⟩

end

/-- Settles O36. -/
theorem sectorRecoveryCommandsComplete : Obligations.SectorRecoveryCommandsComplete := by
  intro s
  exact ⟨fun bc p q e j f target reading signal active expected first lane q8 primary secondary =>
      syncSearch_decodes target reading signal active expected first lane q8 primary secondary,
    fun e j idx codeword inTime decodes decoding first inside converged checks readers idle =>
      decodeConverged_confirms decodes decoding first inside converged checks readers idle,
    fun e j idx inTime decodes inside others readers idle => decodeMaxIter_drops decodes inside others readers idle,
    fun r room first => redecodeRoundStart_starts room first, fun e j d x queued disc sec more => reequalizerPassDone_passes queued disc sec more,
    fun e j queued last => reequalizerPassDone_ends queued last, fun e due => outerDecode_begins due,
    fun e j active busy first inside lost decoded readers idle => outerDecodeDone_restores active busy first inside lost decoded readers idle,
    fun e active undecided most readers idle => blockBlank_empties active undecided most readers idle,
    fun e needed retries left => reread_begins needed retries left⟩

end Sys2Proof.Machine
end

section
/-!
PROOFS. The loop engine's own commands: the sample period, the enables of sections, the injection and the end of a hold (R99, R111, R117, R119).
-/
set_option Elab.async false
namespace Sys2Proof.Machine

/-! ## Costs and loop processors -/

section
variable (s : State) (n : Nat)

/-- A cost computed anew is all that an update of the costs writes. -/
theorem State.updateCost_same :
    SameFields [F.SRV_LP_COST_FAST_NS n, F.SRV_LP_COST_SLED_NS n, F.SRV_LP_STATUS_COST_OVER n] s (s.updateCost n) := by
  unfold State.updateCost
  extract_lets fast sled costs excess was flagged
  exact ((((SameFields.refl _ s).put _).put _).setFlag _).whenever fun u same => same.post _ _ _

theorem State.updateCost_lp (k : Nat) : (s.updateCost n).lp k = s.lp k := by
  have lps : (s.updateCost n).lps = s.lps := (State.updateCost_frame (.refl (allBut [.lps]) s) n (within_of (by decide))) .lps rfl
  unfold State.lp
  rw [lps]

theorem State.lp_modLp_same (f : LoopProc → LoopProc) : (s.modLp n f).lp n = f (s.lp n) := State.lp_setLp_same ..

theorem LoopProc.loop_setLoop_same (p : LoopProc) (l : Nat) (r : LoopRun) : (p.setLoop l r).loop l = r := by
  unfold LoopProc.setLoop LoopProc.loop
  exact Table.at_put_same (α := LoopRun) ..

end

/-! ## Commands -/

section
variable {s : State} {n : Fin 16} {l : Fin 4}

theorem srvPeriodWrite_unlisted {value : Word} (unlisted : bitsOf value.toNat 0 10 ∉ loopPeriods) :
    Answers (.srvPeriodWrite value) s (fun t => t.flag F.SRV_PERIOD_REJECTED = true ∧ SameFields [F.SRV_PERIOD_REJECTED] s t) := by
  refine .of_eq ((execSrvPeriodWrite_eq value s).trans (if_pos (.inl (by simpa using unlisted)))) ⟨State.flag_put_one _ (by decide), ?_⟩
  refine SameFields.put ?_ _
  unfold State.clearRejected
  split
  · exact (SameFields.refl _ s).put _
  · exact .refl _ s

/-- The copy of a section's state that a written word asks for. -/
def sectCopy (v : Nat) : Option (Nat × Nat) :=
  if v.testBit 16 = true ∧ bitsOf v 20 4 < 14 ∧ bitsOf v 24 4 < 14 then some (bitsOf v 20 4, bitsOf v 24 4) else none

theorem sectEnWrite_queues (value : Word) : Answers (.sectEnWrite n l value) s (fun t => t.fld (F.SRV_LOOP_SECT_EN_EN n l) = bitsOf value.toNat 0 14 ∧
    ((t.lp n).loop l).writes = ((s.lp n).loop l).writes ++ [(bitsOf value.toNat 0 14, sectCopy value.toNat)] ∧
    SameFields [F.SRV_LOOP_SECT_EN_EN n l, F.SRV_LP_COST_FAST_NS n, F.SRV_LP_COST_SLED_NS n, F.SRV_LP_STATUS_COST_OVER n] s t) := by
  let put := s.put (F.SRV_LOOP_SECT_EN_EN n l) (bitsOf value.toNat 0 14)
  let written := put.setLp n ((put.lp n).setLoop l
    { (put.lp n).loop l with writes := ((put.lp n).loop l).writes ++ [(bitsOf value.toNat 0 14, sectCopy value.toNat)] })
  have cost := State.updateCost_same written n
  refine .of_eq (t := written.updateCost n) rfl ⟨?_, ?_, fun g other => ?_⟩
  · rw [cost _ (by simpa using ⟨Fld.key_ne_of_id rfl, Fld.key_ne_of_id rfl, Fld.key_ne_of_id rfl⟩)]
    exact State.fld_put_bits s _ _ ⟨rfl⟩
  · rw [State.updateCost_lp, State.lp_setLp_same, LoopProc.loop_setLoop_same]
    rfl
  · exact (cost g fun f listed => other f (List.mem_cons_of_mem _ listed)).trans (State.fld_put_ne _ _ (other _ List.mem_cons_self))

theorem injEnable_starts (amp : BitVec 16) (off : s.flag (F.SRV_INJ_CFG_ENABLE n) = false) :
    Answers (.injEnable n amp) s (fun t => t.fld (F.SRV_INJ_CFG_AMP n) = amp.toNat ∧ t.flag (F.SRV_INJ_CFG_ENABLE n) = true ∧ (t.lp n).phase = 0 ∧
      SameFields [F.SRV_INJ_CFG_AMP n, F.SRV_INJ_CFG_ENABLE n] s t) := by
  let on := (s.put (F.SRV_INJ_CFG_AMP n) amp.toNat).put (F.SRV_INJ_CFG_ENABLE n) 1
  let zero (p : LoopProc) : LoopProc := { p with phase := 0 }
  refine .of_eq (t := on.modLp n zero) (congrArg Host.Outcome.next (if_neg (by simp [off]))) ⟨?_, State.flag_put_one _ Nat.zero_lt_one, ?_, ?_⟩
  · calc on.fld (F.SRV_INJ_CFG_AMP n) = (s.put (F.SRV_INJ_CFG_AMP n) amp.toNat).fld (F.SRV_INJ_CFG_AMP n) := State.fld_put_apart _ _ ⟨rfl⟩
      _ = amp.toNat := State.fld_put_lt s amp.isLt
  · rw [State.lp_modLp_same]
  · exact SameFields.of_regs (t := on) (((SameFields.refl _ s).put _).put _) rfl

/-- A bit taken out of the four of a mask is not set. -/
theorem testBit_cleared (v : Nat) (w : Nat) (l : Fin 4) : ((v &&& (15 - 2 ^ l.val)) % 2 ^ w).testBit l.val = false := by
  rw [Nat.testBit_mod_two_pow, Nat.testBit_and]
  have out : ∀ l : Fin 4, (15 - 2 ^ l.val).testBit l.val = false := by decide
  rw [out l]
  simp

theorem holdExtendEnd_ends (closed : ((s.lp n).loop l).mode = 2) (held : ((s.lp n).loop l).holding = true) (out : ((s.lp n).loop l).ext = 0)
    (clear : (s.lp n).sample.defect = false) (sum : (s.lp n).low = false) : Answers (.holdExtendEnd n l) s (fun t =>
      (t.lp n).loop l = { (s.lp n).loop l with holding := false } ∧ (t.fld (F.SRV_LP_STATUS_HOLD n)).testBit l.val = false ∧
      SameFields [F.SRV_LP_STATUS_HOLD n] s t) := by
  let freed := s.setLp n ((s.lp n).setLoop l { (s.lp n).loop l with holding := false })
  refine .of_eq (t := freed.put (F.SRV_LP_STATUS_HOLD n) (s.fld (F.SRV_LP_STATUS_HOLD n) &&& (15 - 2 ^ l.val)))
    (if_pos ⟨closed, held, out, by simp [clear, sum]⟩) ⟨?_, ?_, ?_⟩
  · change (freed.lp n).loop l = _
    rw [State.lp_setLp_same, LoopProc.loop_setLoop_same]
  · rw [State.fld_put_same]
    exact testBit_cleared ..
  · exact SameFields.put (t := freed) ((SameFields.refl _ s).of_regs rfl) _

end

/-- Settles O37. -/
theorem loopEngineCommandsComplete : Obligations.LoopEngineCommandsComplete := by
  intro s
  refine ⟨fun value listed open_ => srvPeriodWrite_taken listed ?_, fun value => srvPeriodWrite_unlisted, fun n l value => sectEnWrite_queues value,
    fun n amp => injEnable_starts amp, fun n l => holdExtendEnd_ends⟩
  rw [← Bool.not_eq_true, State.loopEngaged_iff]
  rintro ⟨n, l, closed⟩
  exact absurd closed (Nat.not_le.mpr (open_ n l))

end Sys2Proof.Machine
end

section
/-!
PROOFS. The loop processors: sample and output instants, ends of computations, lateness, traces and overpower (R72, R85, R98–R105, R122–R125, R561).
-/
set_option Elab.async false
namespace Sys2Proof.Machine

/-! ## Loop processors -/

section
variable (s : State) (n : Nat)

theorem State.lp_of_lps {s t : State} (same : t.lps = s.lps) (k : Nat) : t.lp k = s.lp k := by
  unfold State.lp
  rw [same]

theorem State.lp_setLp_ne {k : Nat} (p : LoopProc) (other : k ≠ n) : (s.setLp n p).lp k = s.lp k := by
  unfold State.setLp State.lp
  exact (Table.at_put (α := LoopProc) ..).trans (if_neg other)

theorem State.lp_modLp_ne {k : Nat} (f : LoopProc → LoopProc) (other : k ≠ n) : (s.modLp n f).lp k = s.lp k := State.lp_setLp_ne s n _ other

/-! ## The count of samples at a sample instant -/

/-- What a sample's settling may write. -/
def settleKinds : List Nat :=
  [F.SRV_LP_STATUS_LATE 0, F.SRV_LATE_RUN_LATE 0, F.SRV_LATE_RUN_ON_TIME 0, F.SRV_LATE_COUNT_LO_COUNT 0, F.SRV_LATE_COUNT_HI_COUNT 0,
    F.SRV_LP_STATUS_SKIPPED 0, F.SRV_TRC_STATUS_STATE 0, F.SRV_TRC_STATUS_COUNT 0, F.SRV_TRC_STATUS_OLDEST 0].map Fld.kind

theorem ServoKept.count {kinds : List Nat} {s t : State} {lo hi : Fld} (h : ServoKept kinds s t) (n : Nat)
    (loListed : Shown (kinds.contains lo.kind) := by exact ⟨rfl⟩) (hiListed : Shown (kinds.contains hi.kind) := by exact ⟨rfl⟩) :
    ServoKept kinds s (t.count lo hi n) :=
  ServoKept.of_regs (t := t.putPair lo hi (min (t.pair lo hi + n) (2 ^ 48 - 1))) ((h.put _ loListed).put _ hiListed) (State.count_regs ..)

theorem State.lateSample_servo (mask : Nat) : ServoKept settleKinds s (s.lateSample n mask) := by
  unfold State.lateSample
  extract_lets p late set raised ran timed
  have first : ServoKept settleKinds s set := (ServoKept.refl _ s).of_regs rfl
  split
  · exact first
  · have second : ServoKept settleKinds s timed := ((first.raise ..).put _).put _
    exact (second.count 1).of_frame (State.paceBoost_frame (.refl _ _) (within_of (by decide)))

theorem State.traceEntry_servo (skipped : Bool) : ServoKept settleKinds s (s.traceEntry n skipped) := by
  unfold State.traceEntry
  extract_lets t rings w count entered merged
  have first : ServoKept settleKinds s entered := (ServoKept.refl _ s).modLp n _
  have second : ServoKept settleKinds s merged := first.forEach (List.range 8) fun u m same =>
    same.of_frame (State.mergeWord_frame (.refl _ u) _ _ (within_of (by decide)))
  exact (second.put _).put _

theorem State.traceSample_servo (skipped : Bool) : ServoKept settleKinds s (s.traceSample n skipped) := by
  unfold State.traceSample
  extract_lets p t state trig v moved entered post
  have first : ServoKept settleKinds s moved := (ServoKept.refl _ s).modLp n _
  have second : ServoKept settleKinds s entered := first.trans (State.traceEntry_servo ..)
  split
  · exact .refl _ s
  · split
    · exact first
    · split
      · exact (second.put 2).modLp n _
      · split
        · exact second.modLp n _
        · exact second

theorem State.settleSample_servo : ServoKept settleKinds s (s.settleSample n) := by
  unfold State.settleSample
  extract_lets p skipped late cleared counted traced
  have first : ServoKept settleKinds s late := by
    unfold late
    split
    · exact ServoKept.put (State.lateSample_servo ..) _
    · split
      · exact State.lateSample_servo ..
      · exact .refl _ s
  have second : ServoKept settleKinds s counted := by
    unfold counted
    split
    · exact first.modLp n _
    · exact ((first.modLp n _).put _).put _
  split
  · exact .refl _ s
  · exact (second.trans (State.traceSample_servo ..)).modLp n _

/-- What a sample's capture and computation may write. -/
def captureKinds : List Nat := moveKinds ++
  [F.SRV_AFE_CFG_AVG_CLAMPED 0, F.SRV_IF_STATUS_CLIP 0, F.SRV_IF_STATUS_LOW_SUM_MAIN 0, F.SRV_IF_STATUS_LOW_SUM_SIDE 0, F.SRV_LP_STATUS_HOLD 0,
    F.SRV_LP_STATUS_LIM 0, F.SRV_LP_STATUS_SAT 0].map Fld.kind

theorem State.formSignals_servo (means : List Nat) : ServoKept captureKinds s (s.formSignals n means) := by
  unfold State.formSignals
  extract_lets
  refine ServoKept.whenever (kinds := captureKinds) ?_ fun u same => same.put (f := F.SRV_IF_STATUS_LOW_SUM_SIDE n) 1
  refine ServoKept.whenever (kinds := captureKinds) ?_ fun u same => same.put (f := F.SRV_IF_STATUS_LOW_SUM_MAIN n) 1
  exact (ServoKept.refl _ s).of_regs rfl

theorem State.fmdSample_servo : ServoKept moveKinds s (s.fmdSample n) := by
  unfold State.fmdSample
  extract_lets r frame gates fmd bad run noted
  split
  · exact .refl _ s
  · split
    · exact (ServoKept.refl _ s).of_regs rfl
    · have first : ServoKept moveKinds s noted := (ServoKept.refl _ s).of_regs rfl
      split
      · exact first.step (State.shutGates_servo ..)
      · exact first

theorem State.compute_servo (smp : SampleIn) : ServoKept captureKinds s (s.compute n smp) := by
  unfold State.compute
  extract_lets p v sig fast p' bits set held lim was now sat posted
  have first : ServoKept captureKinds s sat := (((((ServoKept.refl _ s).of_regs rfl : ServoKept captureKinds s set).put _).put _).put _)
  have second : ServoKept captureKinds s posted := first.whenever fun u same => same.post _ _ _
  exact (second.step (State.fmdSample_servo ..)).step (State.servoSample_servo ..)

theorem State.captureSample_servo (conv : List (List Nat)) (sled : Bool) : ServoKept captureKinds s (s.captureSample n conv sled) := by
  unfold State.captureSample
  extract_lets m clamped means clips clipped lane defect taken trk moved formed smp sampled
  have first : ServoKept captureKinds s clipped := ((ServoKept.refl _ s).setFlag _).put _
  have second : ServoKept captureKinds s formed :=
    ((first.of_regs rfl : ServoKept captureKinds s moved).trans (State.formSignals_servo ..)).of_regs rfl
  have third : ServoKept captureKinds s sampled := second.modLp n _
  split
  · exact third.modLp n _
  · exact third.trans (State.compute_servo ..)

/-! ## The loop processors at a sample instant -/

theorem State.lps_servoSample : (s.servoSample n).lps = s.lps :=
  (State.servoSample_frame (.refl (allBut [.lps]) s) n (within_of (by decide))) .lps rfl

theorem State.lps_fmdSample : (s.fmdSample n).lps = s.lps :=
  (State.fmdSample_frame (.refl (allBut [.lps]) s) n (within_of (by decide))) .lps rfl

/-- A computation writes its own loop processor only, and keeps its sample. -/
theorem State.compute_lp (smp : SampleIn) : ((s.compute n smp).lp n).sample = (s.lp n).sample ∧ ((s.compute n smp).lp n).taken = (s.lp n).taken ∧
    ∀ k, k ≠ n → (s.compute n smp).lp k = s.lp k := by
  unfold State.compute
  extract_lets p v sig fast p' bits set held lim was now sat posted
  have kept (k : Nat) : ((posted.fmdSample n).servoSample n).lp k = set.lp k := by
    rw [State.lp_of_lps (State.lps_servoSample ..), State.lp_of_lps (State.lps_fmdSample ..)]
    unfold posted State.when
    split
    · exact State.lp_of_lps (State.post_lps ..) k
    · rfl
  rw [kept]
  unfold set
  rw [State.lp_setLp_same]
  exact ⟨rfl, rfl, fun k other => by rw [kept, State.lp_setLp_ne _ _ _ other]⟩

theorem State.formSignals_lp (means : List Nat) {k : Nat} (other : k ≠ n) : (s.formSignals n means).lp k = s.lp k := by
  unfold State.formSignals
  extract_lets
  rw [State.lp_when_put, State.lp_when_put, State.lp_setLp_ne _ _ _ other]

theorem State.ownSignals_lp {k : Nat} (other : k ≠ n) : (s.ownSignals n).lp k = s.lp k := State.lp_setLp_ne _ _ _ other

/-- A capture takes a sample for its own loop processor only, at the timebase. -/
theorem State.captureSample_lp (conv : List (List Nat)) (sled : Bool) :
    ((s.captureSample n conv sled).lp n).taken = true ∧ ((s.captureSample n conv sled).lp n).sample.tb = s.timebase ∧
      ∀ k, k ≠ n → (s.captureSample n conv sled).lp k = s.lp k := by
  unfold State.captureSample
  extract_lets m clamped means clips clipped lane defect taken trk moved formed smp sampled
  have base : formed.timebase = s.timebase :=
    ((State.ownSignals_frame (.refl (allBut [.timebase]) _) n (within_of (by decide))) .timebase rfl).trans
      ((State.formSignals_frame (.refl (allBut [.timebase]) _) n means (within_of (by decide))) .timebase rfl)
  have own : (sampled.lp n).taken = true ∧ (sampled.lp n).sample.tb = s.timebase := by
    unfold sampled
    rw [State.lp_modLp_same]
    exact ⟨rfl, base⟩
  have others (k : Nat) (other : k ≠ n) : sampled.lp k = s.lp k := by
    unfold sampled formed moved
    rw [State.lp_modLp_ne _ _ _ other, State.ownSignals_lp _ _ other, State.formSignals_lp _ _ _ other, State.lp_modLp_ne _ _ _ other]
    rfl
  split
  · rw [State.lp_modLp_same]
    exact ⟨own.1, own.2, fun k other => (State.lp_modLp_ne _ _ _ other).trans (others k other)⟩
  · obtain ⟨sample, taken, rest⟩ := sampled.compute_lp n { smp with regs := sampled.regs }
    rw [sample, taken]
    exact ⟨own.1, own.2, fun k other => (rest k other).trans (others k other)⟩

end

/-! ## Instants -/

section
variable {s : State} {n : Fin 16}

theorem State.captureSample_timebase (t : State) (m : Nat) (conv : List (List Nat)) (sled : Bool) :
    (t.captureSample m conv sled).timebase = t.timebase :=
  (State.captureSample_frame (.refl (allBut [.timebase]) t) m conv sled (within_of (by decide))) .timebase rfl

theorem State.passRequest_servo (t : State) (m : Nat) : ServoKept [] t (t.passRequest m) := by
  have passed : ServoKept [] t ((t.modMotor m fun x => { x with req := (t.lp m).request, reqTick := 0 }).modLp m fun p => { p with request := 0 }) :=
    (ServoKept.refl _ t).of_regs rfl
  exact passed.of_frame (State.holdReadPower_frame (.refl _ _) m (within_of (by decide)))

theorem State.runSample_servo (t : State) (lps : List Nat) (inputs : List (List (List Nat))) : ServoKept captureKinds t (t.runSample lps inputs) := by
  unfold State.runSample
  dsimp only
  have passed : ServoKept captureKinds t (t.when (decide (t.timebase % 10000 = 0)) fun u => u.forEach lps State.passRequest) :=
    (ServoKept.refl _ t).whenever fun u same => same.forEach lps fun v m kept => kept.step (State.passRequest_servo ..)
  exact passed.forEach lps fun u m same => same.trans (State.captureSample_servo ..)

/-- Each loop processor that samples takes its sample at the timebase. -/
theorem State.runSample_lp (t : State) {lps : List Nat} (inputs : List (List (List Nat))) {m : Nat} (samples : m ∈ lps) :
    ((t.runSample lps inputs).lp m).taken = true ∧ ((t.runSample lps inputs).lp m).sample.tb = t.timebase := by
  unfold State.runSample
  dsimp only
  let P (u : State) : Prop := u.timebase = t.timebase ∧ (u.lp m).taken = true ∧ (u.lp m).sample.tb = t.timebase
  have passed : (t.when (decide (t.timebase % 10000 = 0)) fun u => u.forEach lps State.passRequest).timebase = t.timebase := by
    unfold State.when
    split
    · exact State.read_forEach State.timebase (fun u k => (passRequest_frame (.refl (allBut [.timebase]) u) k (within_of (by decide))) .timebase rfl) t lps
    · rfl
  have done : P _ := State.forEach_reaches_of (I := fun u => u.timebase = t.timebase) (P := P)
    (f := fun u k => u.captureSample k (inputs.getD k []) (decide (t.timebase % 10000 = 0))) samples
    (fun u k same => (State.captureSample_timebase ..).trans same)
    (fun u same => ⟨(State.captureSample_timebase ..).trans same, (State.captureSample_lp ..).1, (State.captureSample_lp ..).2.1.trans same⟩)
    (fun u k ⟨same, taken, at_⟩ => by
      refine ⟨(State.captureSample_timebase ..).trans same, ?_⟩
      by_cases own : m = k
      · rw [own]
        exact ⟨(State.captureSample_lp ..).1, (State.captureSample_lp ..).2.1.trans same⟩
      · rw [(State.captureSample_lp u k (inputs.getD k []) (decide (t.timebase % 10000 = 0))).2.2 m own]
        exact ⟨taken, at_⟩) passed
  exact done.2

theorem sampleInstant_samples (inputs : List (List (List Nat))) : Answers (.sampleInstant inputs) s (fun t =>
    t.timebase = (s.timebase / s.fld F.SRV_PERIOD_P + 1) * s.fld F.SRV_PERIOD_P ∧
    t.fld F.SRV_SAMPLE_COUNT_COUNT = (s.fld F.SRV_SAMPLE_COUNT_COUNT + 1) % 2 ^ F.SRV_SAMPLE_COUNT_COUNT.width ∧
    (∀ n : Fin 16, s.slotPowered (n.val / 2) = true → (t.lp n).taken = true ∧ (t.lp n).sample.tb = t.timebase)) := by
  obtain ⟨t, answered, moved⟩ := sampleInstant_timebase inputs s
  refine ⟨t, answered, moved, ?_⟩
  rw [show exec (.sampleInstant inputs) s = _ from execSampleInstant_eq inputs s] at answered
  obtain rfl := Host.Outcome.next.inj answered
  constructor
  · rw [(State.runSample_servo ..).fld F.SRV_SAMPLE_COUNT_COUNT rfl ⟨rfl⟩]
    refine (State.fld_put_same ..).trans (congrArg (fun v => (v + 1) % 2 ^ F.SRV_SAMPLE_COUNT_COUNT.width) ?_)
    exact ((ServoKept.refl settleKinds s).forEach _ fun u m same => same.trans (State.settleSample_servo ..)).fld F.SRV_SAMPLE_COUNT_COUNT rfl ⟨rfl⟩
  · intro n powered
    rw [runSample_timebase]
    exact State.runSample_lp _ inputs (List.mem_filter.mpr ⟨List.mem_range.mpr n.isLt, powered⟩)

theorem outputInstant_applies (ready : Fin 4) (fresh : (s.lp n).outDone = false) (runs : (s.lp n).waiting = none) (done : (s.lp n).busy = false) :
    Answers (.outputInstant n ready) s (fun t => t = (((s.modLp n (fun p => { p with outDone := true })).sput (F.SRV_DAC_FT_FOC n)
      ((s.lp n).loop 0).code).sput (F.SRV_DAC_FT_TRK n) ((s.lp n).loop 1).code).sput (F.SRV_DAC_TLT_TLT n) ((s.lp n).loop 2).code) := by
  refine .of_eq ?_ rfl
  change execOutputInstant n ready s = _
  unfold execOutputInstant
  dsimp only
  rw [fresh, runs, done]
  rfl

theorem loopComputationEnd_passes (busy : (s.lp n).busy = true) (none_ : (s.lp n).waiting = none) : Answers (.loopComputationEnd n) s (fun t =>
    t = s.modLp n (fun p => { p with busy := false, sledDue := none, request := p.sledDue.getD p.request })) := by
  refine .of_eq ?_ rfl
  change execLoopComputationEnd n s = _
  unfold execLoopComputationEnd
  dsimp only
  rw [busy, none_]
  rfl

/-! ## Lateness -/

/-- A Belay cause that is written while the pickup neither follows nor is in Belay. -/
theorem State.setBelay_waits {t : State} {m : Nat} (bit : Nat) (on : Bool) (follow : t.puState m ≠ Pu.follow) (belay : t.puState m ≠ Pu.belay) :
    t.setBelay m bit on = t.put (F.SRV_PU_STATE_BELAY_CAUSE m)
      (if on then t.fld (F.SRV_PU_STATE_BELAY_CAUSE m) ||| 2 ^ bit else t.fld (F.SRV_PU_STATE_BELAY_CAUSE m) &&& (15 - 2 ^ bit)) := by
  unfold State.setBelay
  dsimp only
  generalize (if on then t.fld (F.SRV_PU_STATE_BELAY_CAUSE m) ||| 2 ^ bit else t.fld (F.SRV_PU_STATE_BELAY_CAUSE m) &&& (15 - 2 ^ bit)) = c
  have state : (t.put (F.SRV_PU_STATE_BELAY_CAUSE m) c).puState m = t.puState m := State.fld_put_apart _ _ ⟨rfl⟩
  unfold State.checkBelay
  rw [state]
  exact (if_neg fun c => follow c.1).trans (if_neg fun c => belay c.1)

theorem testBit_set {v w b : Nat} (inside : b < w) : ((v ||| 2 ^ b) % 2 ^ w).testBit b = true := by
  simp [Nat.testBit_mod_two_pow, inside]

section
variable (follow : s.puState n ≠ Pu.follow) (belay : s.puState n ≠ Pu.belay)
include follow belay

/-- A pickup's state reads as it did after a write of lateness and its event. -/
theorem puState_latePost (v c : Nat) (p : List Nat) : ((s.put (F.SRV_LP_STATUS_BELAY_LATE n) v).post c (srcPickup n) p).puState n ≠ Pu.follow ∧
    ((s.put (F.SRV_LP_STATUS_BELAY_LATE n) v).post c (srcPickup n) p).puState n ≠ Pu.belay := by
  have state : ((s.put (F.SRV_LP_STATUS_BELAY_LATE n) v).post c (srcPickup n) p).puState n = s.puState n :=
    (State.fld_post ..).trans (State.fld_put_apart _ _ ⟨rfl⟩)
  rw [state]
  exact ⟨follow, belay⟩

theorem loopBelayLate_sets (late : 3 ≤ s.fld (F.SRV_LATE_RUN_LATE n)) (first : s.flag (F.SRV_LP_STATUS_BELAY_LATE n) = false) :
    Answers (.loopBelayLate n) s (fun t => t.flag (F.SRV_LP_STATUS_BELAY_LATE n) = true ∧ (t.fld (F.SRV_PU_STATE_BELAY_CAUSE n)).testBit belayLate = true ∧
      t.events = (s.post 0x0202 (srcPickup n) [n.val]).events ∧ SameFields [F.SRV_LP_STATUS_BELAY_LATE n, F.SRV_PU_STATE_BELAY_CAUSE n] s t) := by
  obtain ⟨f, b⟩ := puState_latePost follow belay 1 0x0202 [n.val]
  refine .of_eq (t := ((s.put (F.SRV_LP_STATUS_BELAY_LATE n) 1).post 0x0202 (srcPickup n) [n.val]).setBelay n belayLate true) (if_pos ⟨late, first⟩) ?_
  rw [State.setBelay_waits _ _ f b]
  refine ⟨?_, ?_, ?_, (((SameFields.refl _ s).put _).post _ _ _).put _⟩
  · rw [State.flag_put_apart _ _ ⟨rfl⟩, State.flag_post]
    exact State.flag_put_one _ Nat.zero_lt_one
  · rw [State.fld_put_same]
    exact testBit_set (by decide : belayLate < 4)
  · rw [State.put_events, State.post_events_put _ ⟨rfl⟩ ⟨rfl⟩]

theorem loopOnTime_clears (onTime : 4096 ≤ s.fld (F.SRV_LATE_RUN_ON_TIME n)) (set : s.flag (F.SRV_LP_STATUS_BELAY_LATE n) = true) :
    Answers (.loopOnTime n) s (fun t => t.flag (F.SRV_LP_STATUS_BELAY_LATE n) = false ∧ (t.fld (F.SRV_PU_STATE_BELAY_CAUSE n)).testBit belayLate = false ∧
      t.events = (s.post 0x0203 (srcPickup n) [n.val]).events ∧ SameFields [F.SRV_LP_STATUS_BELAY_LATE n, F.SRV_PU_STATE_BELAY_CAUSE n] s t) := by
  obtain ⟨f, b⟩ := puState_latePost follow belay 0 0x0203 [n.val]
  refine .of_eq (t := ((s.put (F.SRV_LP_STATUS_BELAY_LATE n) 0).post 0x0203 (srcPickup n) [n.val]).setBelay n belayLate false) (if_pos ⟨onTime, set⟩) ?_
  rw [State.setBelay_waits _ _ f b]
  refine ⟨?_, ?_, ?_, (((SameFields.refl _ s).put _).post _ _ _).put _⟩
  · rw [State.flag_put_apart _ _ ⟨rfl⟩, State.flag_post, State.flag_put_zero]
  · rw [State.fld_put_same]
    exact testBit_cleared _ 4 0
  · rw [State.put_events, State.post_events_put _ ⟨rfl⟩ ⟨rfl⟩]

end

/-! ## Traces -/

/-- A trace that is armed. -/
def Trace.armed (x : Trace) (timebase : Nat) : Trace :=
  { x with since := timebase, firedAt := none, pending := false, full := false, prev := none, postLeft := 0 }

theorem State.traceArm_spec (t : State) (m : Nat) : (t.traceArm m).fld (F.SRV_TRC_STATUS_STATE m) = 1 ∧ (t.traceArm m).fld (F.SRV_TRC_STATUS_COUNT m) = 0 ∧
    ((t.traceArm m).lp m).trace = (t.lp m).trace.armed t.timebase ∧ (t.traceArm m).timebase = t.timebase ∧
    SameFields [F.SRV_TRC_STATUS_STATE m, F.SRV_TRC_STATUS_COUNT m] t (t.traceArm m) ∧ (∀ k, k ≠ m → (t.traceArm m).lp k = t.lp k) := by
  let set := (t.put (F.SRV_TRC_STATUS_STATE m) 1).put (F.SRV_TRC_STATUS_COUNT m) 0
  refine ⟨?_, State.fld_put_fits (t.put (F.SRV_TRC_STATUS_STATE m) 1) (f := F.SRV_TRC_STATUS_COUNT m) (v := 0) ⟨rfl⟩, ?_, rfl, SameFields.of_regs (t := set) (((SameFields.refl _ t).put _).put _) rfl,
    fun k other => State.lp_modLp_ne set m _ other⟩
  · exact (State.fld_put_apart (t.put (F.SRV_TRC_STATUS_STATE m) 1) (f := F.SRV_TRC_STATUS_COUNT m) 0 ⟨rfl⟩).trans (State.fld_put_fits _ ⟨rfl⟩)
  · unfold State.traceArm
    dsimp only
    rw [State.lp_modLp_same]
    rfl

theorem traceStop_stops (runs : s.fld (F.SRV_TRC_STATUS_STATE n) = 1 ∨ s.fld (F.SRV_TRC_STATUS_STATE n) = 2) :
    Answers (.traceStop n) s (fun t => t = s.put (F.SRV_TRC_STATUS_STATE n) 0) :=
  .of_eq (congrArg Host.Outcome.next (if_pos runs)) rfl

/-- A pair of fields of 32 bits each reads as its number modulo 2^64. -/
theorem State.pair_putPair_mod (t : State) {lo hi : Fld} (v : Nat) (apart : lo.key ≠ hi.key) (low : lo.width = 32) (high : hi.width = 32) :
    (t.putPair lo hi v).pair lo hi = v % 2 ^ 64 := by
  unfold State.pair State.putPair
  rw [State.fld_put_ne _ _ apart, State.fld_put_same, State.fld_put_same, low, high]
  omega

theorem traceDone_ends (recording : s.fld (F.SRV_TRC_STATUS_STATE n) = 2) (full : (s.lp n).trace.full = true) : Answers (.traceDone n) s (fun t =>
    t.fld (F.SRV_TRC_STATUS_STATE n) = 3 ∧ t.pair (F.SRV_TRC_TIME_LO_TIME n) (F.SRV_TRC_TIME_HI_TIME n) = (s.lp n).trace.time % 2 ^ 64 ∧
    t.flag (F.SRV_TRC_STATUS_DONE n) = true ∧ SameFields [F.SRV_TRC_STATUS_STATE n, F.SRV_TRC_TIME_LO_TIME n, F.SRV_TRC_TIME_HI_TIME n,
      F.SRV_TRC_STATUS_DONE n] s t) := by
  let timed := (s.put (F.SRV_TRC_STATUS_STATE n) 3).putPair (F.SRV_TRC_TIME_LO_TIME n) (F.SRV_TRC_TIME_HI_TIME n) (s.lp n).trace.time
  let payload := [n.val, 0] ++ leBytes 2 (timed.fld (F.SRV_TRC_STATUS_OLDEST n))
  refine .of_eq (t := timed.raise (F.SRV_TRC_STATUS_DONE n) 0x0206 (srcPickup n) payload) (if_pos ⟨recording, full⟩)
    ⟨?_, ?_, State.flag_raise_same _ _ _ _ ⟨rfl⟩, (((SameFields.refl _ s).put _).putPair _).raise _ _ _⟩
  · rw [State.fld_raise_apart _ _ _ _ ⟨rfl⟩]
    exact (State.fld_put_apart _ _ ⟨rfl⟩).trans ((State.fld_put_apart _ _ ⟨rfl⟩).trans (State.fld_put_fits s ⟨rfl⟩))
  · have kept : (timed.raise (F.SRV_TRC_STATUS_DONE n) 0x0206 (srcPickup n) payload).pair (F.SRV_TRC_TIME_LO_TIME n) (F.SRV_TRC_TIME_HI_TIME n) =
        timed.pair (F.SRV_TRC_TIME_LO_TIME n) (F.SRV_TRC_TIME_HI_TIME n) := by
      unfold State.pair
      rw [State.fld_raise_apart _ _ _ _ ⟨rfl⟩, State.fld_raise_apart _ _ _ _ ⟨rfl⟩]
    rw [kept]
    exact State.pair_putPair_mod _ _ (Fld.key_ne_of_id rfl) rfl rfl

theorem mem_setBits {m v : Nat} (n : Fin m) : n.val ∈ setBits m v ↔ v.testBit n.val = true := by
  unfold setBits
  simp

/-- What holds of a state and is kept by the step for each of the members holds after all of them. -/
theorem State.forEach_keeps_of_mem {α : Type} {P : State → Prop} {f : State → α → State} {t : State} (holds : P t) (xs : List α)
    (each : ∀ u, ∀ x ∈ xs, P u → P (f u x)) : P (t.forEach xs f) := by
  induction xs generalizing t with
  | nil => exact holds
  | cons x xs ih => exact ih (each t x List.mem_cons_self holds) fun u y mem => each u y (List.mem_cons_of_mem _ mem)

theorem trcStatus_key_ne {k m : Nat} (other : m ≠ k) : (F.SRV_TRC_STATUS_STATE m).key ≠ (F.SRV_TRC_STATUS_STATE k).key ∧
    (F.SRV_TRC_STATUS_COUNT m).key ≠ (F.SRV_TRC_STATUS_COUNT k).key := by
  unfold Fld.key F.SRV_TRC_STATUS_STATE F.SRV_TRC_STATUS_COUNT
  dsimp only
  omega

/-- A capture armed elsewhere leaves a loop processor and its trace's state. -/
theorem State.traceArm_other (t : State) {m k : Nat} (other : m ≠ k) : (t.traceArm k).fld (F.SRV_TRC_STATUS_STATE m) = t.fld (F.SRV_TRC_STATUS_STATE m) ∧
    (t.traceArm k).fld (F.SRV_TRC_STATUS_COUNT m) = t.fld (F.SRV_TRC_STATUS_COUNT m) ∧ (t.traceArm k).lp m = t.lp m := by
  obtain ⟨state, count⟩ := trcStatus_key_ne other
  obtain ⟨_, _, _, _, same, others⟩ := t.traceArm_spec k
  refine ⟨same _ ?_, same _ ?_, others m other⟩
  · simpa using ⟨state, Fld.key_ne_of_id rfl⟩
  · simpa using ⟨Fld.key_ne_of_id rfl, count⟩

theorem trcArm_arms (mask : BitVec 16) : Answers (.trcArm mask) s (fun t =>
    (∀ n : Fin 16, mask.getLsbD n = true → t.fld (F.SRV_TRC_STATUS_STATE n) = 1 ∧ t.fld (F.SRV_TRC_STATUS_COUNT n) = 0 ∧
      (t.lp n).trace.since = s.timebase) ∧
    (∀ n : Fin 16, mask.getLsbD n = false → t.fld (F.SRV_TRC_STATUS_STATE n) = s.fld (F.SRV_TRC_STATUS_STATE n) ∧ t.lp n = s.lp n)) := by
  refine .of_eq (t := s.forEach (setBits 16 mask.toNat) State.traceArm) rfl ⟨fun n chosen => ?_, fun n other => ?_⟩
  · let P (t : State) : Prop := t.timebase = s.timebase ∧ t.fld (F.SRV_TRC_STATUS_STATE n) = 1 ∧ t.fld (F.SRV_TRC_STATUS_COUNT n) = 0 ∧
      (t.lp n).trace.since = s.timebase
    have arms (t : State) (same : t.timebase = s.timebase) : P (t.traceArm n) := by
      obtain ⟨state, count, trace, base, _, _⟩ := t.traceArm_spec n
      exact ⟨base.trans same, state, count, trace ▸ same⟩
    have done : P _ := State.forEach_reaches_of (I := fun t => t.timebase = s.timebase) (P := P) (f := State.traceArm) ((mem_setBits n).mpr chosen)
      (fun t k same => same) arms
      (fun t k ⟨same, state, count, since⟩ => by
        by_cases own : n.val = k
        · rw [← own]
          exact arms t same
        · obtain ⟨keptState, keptCount, keptLp⟩ := t.traceArm_other own
          exact ⟨same, keptState.trans state, keptCount.trans count, by rw [keptLp, since]⟩) rfl
    exact done.2
  · refine State.forEach_keeps_of_mem (P := fun t => t.fld (F.SRV_TRC_STATUS_STATE n) = s.fld (F.SRV_TRC_STATUS_STATE n) ∧ t.lp n = s.lp n) ⟨rfl, rfl⟩ _
      fun t k mem ⟨state, lp⟩ => ?_
    have apart : n.val ≠ k := by
      rintro rfl
      rw [mem_setBits] at mem
      exact absurd mem (by rw [show mask.toNat.testBit n = false from other]; decide)
    obtain ⟨keptState, _, keptLp⟩ := t.traceArm_other apart
    exact ⟨keptState.trans state, keptLp.trans lp⟩

theorem trcFire_fires (mask : BitVec 16) : Answers (.trcFire mask) s (fun t =>
    (∀ n : Fin 16, mask.getLsbD n = true → s.fld (F.SRV_TRC_TRIG_SOURCE n) = 0 → (t.lp n).trace.firedAt = some s.timebase) ∧
    (∀ n : Fin 16, (mask.getLsbD n = false ∨ s.fld (F.SRV_TRC_TRIG_SOURCE n) ≠ 0) → t.lp n = s.lp n) ∧ SameFields [] s t) := by
  let fired := (setBits 16 mask.toNat).filter (fun n => s.fld (F.SRV_TRC_TRIG_SOURCE n) == 0)
  refine .of_eq (t := s.forEach fired State.traceFire) rfl ⟨fun n chosen source => ?_, fun n other => ?_, ?_⟩
  · let P (t : State) : Prop := t.timebase = s.timebase ∧ (t.lp n).trace.firedAt = some s.timebase
    have fires (t : State) (same : t.timebase = s.timebase) : P (t.traceFire n) := by
      refine ⟨same, ?_⟩
      unfold State.traceFire
      rw [State.lp_modLp_same, ← same]
    have done : P _ := State.forEach_reaches_of (I := fun t => t.timebase = s.timebase) (P := P) (f := State.traceFire) (xs := fired)
      (List.mem_filter.mpr ⟨(mem_setBits n).mpr chosen, show (s.fld (F.SRV_TRC_TRIG_SOURCE n) == 0) = true from beq_iff_eq.mpr source⟩) (fun t k same => same) fires
      (fun t k ⟨same, at_⟩ => by
        by_cases own : n.val = k
        · rw [← own]
          exact fires t same
        · exact ⟨same, (State.lp_modLp_ne t k _ own).symm ▸ at_⟩) rfl
    exact done.2
  · refine State.forEach_keeps_of_mem (P := fun t => t.lp n = s.lp n) rfl _ fun t k mem lp => ?_
    have apart : n.val ≠ k := by
      rintro rfl
      obtain ⟨chosen, source⟩ := List.mem_filter.mp mem
      rw [mem_setBits] at chosen
      rcases other with out | elsewhere
      · exact absurd chosen (by rw [show mask.toNat.testBit n = false from out]; decide)
      · exact elsewhere (beq_iff_eq.mp source)
    exact (State.lp_modLp_ne t k _ apart).trans lp
  · exact (SameFields.refl _ s).forEach fired fun t k same => same.of_regs rfl

/-! ## Overpower -/

theorem laserOverpower_darkens (twice : 2 ≤ (s.lp n).fmdRun) (idle : (s.calRun n).proc = 0) : Answers (.laserOverpower n) s (fun t =>
    t.flag (F.SRV_IF_STATUS_FMD_HIGH n) = true ∧ t.flag (F.SRV_LDD_CTRL_LDEN_REQ n) = false ∧ t.flag (F.SRV_LDD_STATUS_LDEN n) = false ∧
    SameFields [F.SRV_IF_STATUS_FMD_HIGH n, F.SRV_LDD_CTRL_LDEN_REQ n, F.SRV_LDD_STATUS_LDEN n] s t) := by
  let raised := s.raise (F.SRV_IF_STATUS_FMD_HIGH n) 0x0220 (srcPickup n) ([n.val, 0] ++ leBytes 2 ((s.lp n).fmd / 16))
  let dark := raised.put (F.SRV_LDD_CTRL_LDEN_REQ n) 0
  have unrequested : dark.flag (F.SRV_LDD_CTRL_LDEN_REQ n) = false := State.flag_put_zero ..
  have driven : dark.driveLden n = dark.setFlag (F.SRV_LDD_STATUS_LDEN n) false := by
    unfold State.driveLden
    rw [unrequested, Bool.and_false]
  have ended : (dark.driveLden n).abortCal n 4 Status.servoFault = dark.driveLden n := by
    unfold State.abortCal
    have runs : ((dark.driveLden n).calRun n).proc = 0 := by
      have same : (dark.driveLden n).calib = s.calib := State.raise_calib ..
      unfold State.calRun at idle ⊢
      rw [same, idle]
    exact if_pos runs
  refine .of_eq (t := dark.driveLden n) ?_ ?_
  · change execLaserOverpower n s = _
    exact (if_neg (Nat.not_lt.mpr twice)).trans (congrArg Host.Outcome.next ended)
  · rw [driven]
    refine ⟨?_, ?_, ?_, (((SameFields.refl _ s).raise _ _ _).put _).setFlag _⟩
    · rw [State.flag_setFlag_apart _ _ ⟨rfl⟩, State.flag_put_apart _ _ ⟨rfl⟩]
      exact State.flag_raise_same _ _ _ _ ⟨rfl⟩
    · rw [State.flag_setFlag_apart _ _ ⟨rfl⟩, unrequested]
    · exact State.flag_setFlag _ _ ⟨rfl⟩

end

/-- Settles O38. -/
theorem loopProcessorCommandsComplete : Obligations.LoopProcessorCommandsComplete := by
  intro s
  refine ⟨fun inputs => sampleInstant_samples inputs, fun n ready => outputInstant_applies ready, fun n => loopComputationEnd_passes,
    fun n late first follow belay => loopBelayLate_sets follow belay late first,
    fun n onTime set follow belay => loopOnTime_clears follow belay onTime set, fun n => ?_, fun n => traceStop_stops, fun n => .of_eq rfl rfl,
    fun n => traceDone_ends, fun mask => trcArm_arms mask, fun mask => trcFire_fires mask, fun n => laserOverpower_darkens⟩
  obtain ⟨state, count, trace, _, same, _⟩ := s.traceArm_spec n
  exact .of_eq (t := s.traceArm n) rfl ⟨state, count, trace, same⟩

end Sys2Proof.Machine
end

section
/-!
PROOFS. Focus, layers and track following: the transitions of a pickup's states (R129–R146).
-/
set_option Elab.async false
namespace Sys2Proof.Machine

/-! ## A pickup that enters a state -/

section
variable (s : State) (n p : Nat)

theorem State.puState_of_kept {kinds : List Nat} {s t : State} (kept : ServoKept kinds s t)
    (other : Shown (!kinds.contains (F.SRV_PU_STATE_STATE 0).kind)) (n : Nat) : t.puState n = s.puState n :=
  kept.fld (F.SRV_PU_STATE_STATE n) rfl other

theorem State.driveLoop_pickups (l mode : Nat) : (s.driveLoop n l mode).pickups = s.pickups :=
  (State.driveLoop_frame (.refl (allBut [.pickups]) s) n l mode (within_of (by decide))) .pickups rfl

/-- What a pickup keeps of itself when it enters a state. -/
def Pickup.entered (y : Pickup) (p timebase : Nat) : Pickup := { y with
  ramp := 0, feGood := 0, teGood := 0, focLoss := 0, trkLoss := 0, captured := false, jumping := false, jumpCross := 0
  lastSlope := timebase, crossings := 0, sumSeen := false, addr := if p = Pu.follow ∨ p = Pu.belay then y.addr else none, badAddr := 0
  baeSum := 0, baeCount := 0, pullWait := false }

theorem State.enter_pickup : ∃ timebase, (s.enter n p).pickup n = (s.pickup n).entered p timebase := by
  unfold State.enter
  extract_lets old held put driven geared set lit
  have first : held.pickups = s.pickups := by
    unfold held State.when
    split
    · exact (State.holdLanes_frame (.refl (allBut [.pickups]) s) n (within_of (by decide))) .pickups rfl
    · rfl
  have second : driven.pickups = s.pickups := (State.read_forEach State.pickups (fun t l => State.driveLoop_pickups ..) put _).trans first
  clear_value driven
  have third : set.pickups = s.pickups := by
    unfold set State.when
    split
    · exact ((State.setGear_frame (.refl (allBut [.pickups]) driven) n geared (within_of (by decide))) .pickups rfl).trans second
    · exact second
  clear_value set
  have fourth : lit.pickups = s.pickups := third
  clear_value lit
  refine ⟨lit.timebase, (State.pickup_modPickup_same ..).trans ?_⟩
  rw [State.pickup_of_pickups fourth]
  rfl

/-- A pickup is in the state that it enters. -/
theorem State.enter_state {p : Nat} (known : p < 16) : (s.enter n p).puState n = p := by
  unfold State.enter
  extract_lets old held put driven geared set lit
  clear_value held
  have first : put.puState n = p := State.fld_put_lt held (f := F.SRV_PU_STATE_STATE n) known
  clear_value put
  have second : ServoKept loopKinds put driven := (ServoKept.refl _ put).forEach _ fun u l same => same.trans (State.driveLoop_servo ..)
  clear_value driven
  have third : ServoKept loopKinds put set := second.whenever fun u same =>
    same.of_frame (State.setGear_frame (.refl _ u) n geared (within_of (by decide)))
  clear_value set
  have fourth : lit.puState n = set.puState n := (State.fld_put_apart _ _ ⟨rfl⟩).trans (State.fld_put_apart _ _ ⟨rfl⟩)
  exact fourth.trans ((State.puState_of_kept third ⟨rfl⟩ n).trans first)

theorem State.startSearch_state (layer : Nat) : (s.startSearch n layer).puState n = Pu.search := by
  have entered := State.enter_state s n (p := Pu.search) (by decide)
  unfold State.startSearch
  extract_lets searching driven
  have same : searching.puState n = Pu.search := entered
  clear_value searching
  have kept : driven.puState n = searching.puState n := State.fld_put_apart _ _ ⟨rfl⟩
  exact kept.trans same

theorem State.startSearch_pickup (layer : Nat) : ∃ timebase rampAt, (s.startSearch n layer).pickup n =
    { (s.pickup n).entered Pu.search timebase with layer := layer, ramp := 1, rampAt := rampAt, sweeps := 0, ljCount := 0, coarse := 0 } := by
  obtain ⟨timebase, entered⟩ := State.enter_pickup s n Pu.search
  unfold State.startSearch
  extract_lets searching driven
  have known : searching.pickup n = (s.pickup n).entered Pu.search timebase := entered
  clear_value searching
  have same : driven.pickup n = searching.pickup n := State.pickup_of_pickups rfl n
  exact ⟨timebase, driven.timebase, (State.pickup_modPickup_same ..).trans (by rw [same, known])⟩

theorem State.startSearch_layer (layer : Nat) : ((s.startSearch n layer).pickup n).layer = layer := by
  obtain ⟨timebase, rampAt, searched⟩ := State.startSearch_pickup s n layer
  rw [searched]

/-- A recovery that may still be tried is counted and made. -/
theorem State.attempt_tries {s : State} {n : Nat} (left : s.fld (F.SRV_PU_STATE_RECOVER_COUNT n) < s.fld (F.SRV_DEFECT_CFG_RECOVER_MAX n))
    (act : State → State) :
    s.attempt n act = act (s.put (F.SRV_PU_STATE_RECOVER_COUNT n) (s.fld (F.SRV_PU_STATE_RECOVER_COUNT n) + 1)) := if_neg (by omega)

/-- The recovery that is counted is read back by what a search or a pull-in writes. -/
theorem State.counted_kept {kinds : List Nat} {s t : State} (v : Nat) (kept : ServoKept kinds (s.put (F.SRV_PU_STATE_RECOVER_COUNT n) v) t)
    (other : Shown (!kinds.contains (F.SRV_PU_STATE_RECOVER_COUNT 0).kind)) :
    t.fld (F.SRV_PU_STATE_RECOVER_COUNT n) = v % 2 ^ (F.SRV_PU_STATE_RECOVER_COUNT n).width :=
  (kept.fld (F.SRV_PU_STATE_RECOVER_COUNT n) rfl other).trans (State.fld_put_same ..)

end

/-! ## Losses -/

section
variable {s : State} {n : Nat}

theorem State.calLoss_idle (idle : (s.calRun n).proc = 0) : s.calLoss n = s := if_pos idle

section
variable (shut : (s.pickup n).gates = 0) (still : s.streaming n = false) (idle : (s.calRun n).proc = 0)
  (left : s.fld (F.SRV_PU_STATE_RECOVER_COUNT n) < s.fld (F.SRV_DEFECT_CFG_RECOVER_MAX n))
include shut still idle left

/-- A pickup without a recording and without a procedure that loses track pulls in again. -/
theorem State.lossOfTrack_spec (out : s.puState n ≠ Pu.belay) : (s.lossOfTrack n).puState n = Pu.pullin ∧
    (s.lossOfTrack n).flag (F.SRV_BAE_REV_TRACK_LOST n) = true ∧ ((s.lossOfTrack n).pickup n).recovering = true := by
  unfold State.lossOfTrack
  extract_lets raised closed back
  have state : raised.puState n = s.puState n := State.fld_raise_apart _ _ _ _ ⟨rfl⟩
  have recording : raised.recording = s.recording := State.raise_recording ..
  have same : closed = raised := State.shutGates_shut (by rw [State.pickup_of_pickups (State.raise_pickups ..), shut])
    (by rw [State.streaming_of_recording recording, still]) _
  have lost : raised.flag (F.SRV_BAE_REV_TRACK_LOST n) = true := State.flag_raise_same _ _ _ _ ⟨rfl⟩
  have limit : raised.fld (F.SRV_PU_STATE_RECOVER_COUNT n) < raised.fld (F.SRV_DEFECT_CFG_RECOVER_MAX n) := by
    rw [State.fld_raise_apart _ _ _ _ ⟨rfl⟩, State.fld_raise_apart _ _ _ _ ⟨rfl⟩]
    exact left
  have calm : raised.calLoss n = raised := State.calLoss_idle (by rw [State.calRun_of_calib (State.raise_calib ..), idle])
  have back_ : back = raised.backToConfirmed n := by
    unfold back
    rw [same, calm]
  rw [if_neg (fun belay => out (state.symm.trans (same ▸ belay.1))), back_]
  clear_value raised
  rw [State.attempt_tries (s := raised.backToConfirmed n) limit]
  let counted := (raised.backToConfirmed n).put (F.SRV_PU_STATE_RECOVER_COUNT n) ((raised.backToConfirmed n).fld (F.SRV_PU_STATE_RECOVER_COUNT n) + 1)
  obtain ⟨timebase, entered⟩ := State.enter_pickup counted n Pu.pullin
  refine ⟨State.enter_state counted n (by decide), ?_, ?_⟩
  · have kept := (State.enter_servo counted n Pu.pullin).flag (F.SRV_BAE_REV_TRACK_LOST n) rfl ⟨rfl⟩
    exact kept.trans ((State.flag_put_apart _ _ ⟨rfl⟩).trans lost)
  · have back : counted.pickup n = (raised.backToConfirmed n).pickup n := State.pickup_of_pickups rfl n
    unfold State.toPullin
    rw [entered, back, State.backToConfirmed, State.pickup_modPickup_same]
    rfl

theorem State.lossOfFocus_spec (emits : s.mayEmit n = true) : (s.lossOfFocus n).puState n = Pu.search ∧
    (s.lossOfFocus n).flag (F.SRV_BAE_REV_FOCUS_LOST n) = true ∧ ((s.lossOfFocus n).pickup n).recovering = true := by
  unfold State.lossOfFocus
  extract_lets raised lost back
  have recording : raised.recording = s.recording := State.raise_recording ..
  have same : lost = raised := by
    unfold lost
    rw [State.shutGates_shut (by rw [State.pickup_of_pickups (State.raise_pickups ..), shut]) (by rw [State.streaming_of_recording recording, still]),
      State.calLoss_idle (by rw [State.calRun_of_calib (State.raise_calib ..), idle])]
  have reads {g : Fld} (apart : g.Apart (F.SRV_BAE_REV_FOCUS_LOST n)) : raised.fld g = s.fld g := State.fld_raise_apart _ _ _ _ apart
  have set : raised.flag (F.SRV_BAE_REV_FOCUS_LOST n) = true := State.flag_raise_same _ _ _ _ ⟨rfl⟩
  have back_ : back = raised.backToConfirmed n := congrArg (State.backToConfirmed · n) same
  rw [back_]
  clear_value raised
  have emit : (raised.backToConfirmed n).mayEmit n = true := by
    change raised.mayEmit n = true
    unfold State.mayEmit State.slotPowered State.flag at emits ⊢
    rw [reads ⟨rfl⟩, reads ⟨rfl⟩, reads ⟨rfl⟩]
    exact emits
  have limit : raised.fld (F.SRV_PU_STATE_RECOVER_COUNT n) < raised.fld (F.SRV_DEFECT_CFG_RECOVER_MAX n) := by
    rw [reads ⟨rfl⟩, reads ⟨rfl⟩]
    exact left
  rw [if_neg (by rw [emit]; decide), State.attempt_tries (s := raised.backToConfirmed n) limit]
  let counted := (raised.backToConfirmed n).put (F.SRV_PU_STATE_RECOVER_COUNT n) ((raised.backToConfirmed n).fld (F.SRV_PU_STATE_RECOVER_COUNT n) + 1)
  change State.puState (counted.startSearch n (counted.fld (F.SRV_PU_STATE_LAYER n))) n = _ ∧ _
  generalize counted.fld (F.SRV_PU_STATE_LAYER n) = layer
  obtain ⟨timebase, rampAt, searched⟩ := State.startSearch_pickup counted n layer
  refine ⟨State.startSearch_state .., ?_, ?_⟩
  · have kept := (State.startSearch_servo counted n layer).flag (F.SRV_BAE_REV_FOCUS_LOST n) rfl ⟨rfl⟩
    exact kept.trans ((State.flag_put_apart _ _ ⟨rfl⟩).trans set)
  · have before : counted.pickup n = (raised.backToConfirmed n).pickup n := State.pickup_of_pickups rfl n
    rw [searched, before, State.backToConfirmed, State.pickup_modPickup_same]
    rfl

end

/-! ## Following -/

/-- What loading the lanes of a layer changes in a pickup. -/
theorem State.loadLanes_pickup (t : State) (m : Nat) : ∃ laneLayer, (t.loadLanes m).pickup m = { t.pickup m with laneLayer := laneLayer } := by
  unfold State.loadLanes
  extract_lets layer marked
  split
  · exact ⟨(t.pickup m).laneLayer, rfl⟩
  · refine ⟨some layer, ?_⟩
    have own : marked.pickup m = { t.pickup m with laneLayer := some layer } := State.pickup_modPickup_same ..
    rw [← own]
    refine State.pickup_of_pickups (State.read_forEach State.pickups (fun u k => ?_) marked _) m
    have write (v : State) (bc : Nat) (r : LaneReg) (w : Nat) : (v.laneWrite bc r w).pickups = v.pickups :=
      (State.laneWrite_frame (.refl (allBut [.pickups]) v) bc r w (within_of (by decide))) .pickups rfl
    dsimp only
    rw [write, write, write, write, write]
    exact State.read_forEach State.pickups (fun v i => write ..) u _

/-- A pickup without a Belay cause that begins to follow follows. -/
theorem State.toFollow_spec (free : s.fld (F.SRV_PU_STATE_BELAY_CAUSE n) = 0) : (s.toFollow n).puState n = Pu.follow ∧
    ((s.toFollow n).pickup n).confirmed = (s.pickup n).confirmed ∧ ServoKept enterKinds s (s.toFollow n) := by
  unfold State.toFollow
  extract_lets loaded followed
  obtain ⟨timebase, entered⟩ := State.enter_pickup s n Pu.follow
  obtain ⟨laneLayer, lanes⟩ := State.loadLanes_pickup (s.enter n Pu.follow) n
  have kept : ServoKept enterKinds s loaded := (State.enter_servo s n Pu.follow).step (State.loadLanes_servo ..)
  have state : loaded.puState n = Pu.follow :=
    (State.puState_of_kept (State.loadLanes_servo (s.enter n Pu.follow) n) ⟨rfl⟩ n).trans (State.enter_state s n (by decide))
  have confirmed : (loaded.pickup n).confirmed = (s.pickup n).confirmed := by
    unfold loaded
    rw [lanes, entered]
    rfl
  clear_value loaded
  have cause : followed.fld (F.SRV_PU_STATE_BELAY_CAUSE n) = 0 := (kept.fld (F.SRV_PU_STATE_BELAY_CAUSE n) rfl ⟨rfl⟩).trans free
  rw [if_neg (fun belay => belay.1 cause)]
  refine ⟨state, ?_, kept.modPickup n _⟩
  unfold followed
  rw [State.pickup_modPickup_same]
  exact confirmed

/-- What a pickup's work asks for depends on its goal, its layer, its recording, and what its station reads. -/
theorem State.wanted_of {s t : State} {n : Nat} (goal : (t.pickup n).goal = (s.pickup n).goal)
    (layer : t.fld (F.SRV_PU_STATE_LAYER n) = s.fld (F.SRV_PU_STATE_LAYER n)) (recording : t.recording = s.recording) (stations : t.stations = s.stations)
    (decoder : t.decoder = s.decoder) (cache : t.cache = s.cache) (rings : t.rings = s.rings) : t.wanted n = s.wanted n := by
  have disc (st : Nat) : t.disc st = s.disc st := by
    unfold State.disc State.station
    rw [stations]
  have work (e : Nat) : t.work e = s.work e := State.work_of_decoder decoder e
  have order : t.workOrder = s.workOrder := by
    funext e
    unfold State.workOrder State.cmd
    simp only [State.entry_of_cache cache, State.cmd?_of_rings rings]
  have next : t.nextBlock n = s.nextBlock n := by
    funext l
    unfold State.nextBlock
    simp only [recording, disc, State.entry_of_cache cache]
  unfold State.wanted State.runBlocks
  simp only [goal, layer, recording, disc, State.puRec_of_recording recording, next, work, order]

end

/-! ## Addresses -/

section
variable {s : State} {n : Fin 16} {a : BitVec 32}

theorem psaLayer_lt (v : Nat) : psaLayer v < 8 := by
  unfold psaLayer bitsOf
  exact Nat.mod_lt _ (by decide)

theorem addressDecoded_aligns (passed : Nat) (still : (s.pickup n).jumping = false) (aligning : s.puState n = Pu.align) (none_ : s.wanted n = none)
    (side : psaSide a.toNat = n.val % 2) (layer : psaLayer a.toNat = s.fld (F.SRV_PU_STATE_LAYER n)) (spiral : psaSpiral a.toNat = 0)
    (free : s.fld (F.SRV_PU_STATE_BELAY_CAUSE n) = 0) : Answers (.addressDecoded n a passed) s (fun t => t.puState n = Pu.follow ∧
      (t.pickup n).confirmed = some a.toNat ∧ t.fld (F.SRV_PU_STATE_B0_SPIRAL n) = 0) := by
  let placed := ((s.put (F.SRV_PU_STATE_B0_SPIRAL n) (psaSpiral a.toNat)).put (F.SRV_PU_STATE_LAYER n) (psaLayer a.toNat)).modPickup n fun y =>
    { y with confirmed := some a.toNat, addr := some a.toNat }
  have target : s.targetLayer n = psaLayer a.toNat := by
    unfold State.targetLayer
    rw [none_, layer]
  have answered : exec (.addressDecoded n a passed) s = .next (placed.toFollow n) := by
    change execAddressDecoded n a passed s = _
    unfold execAddressDecoded
    dsimp only
    rw [if_neg (by simp [still]), if_pos aligning]
    unfold State.alignAddress
    dsimp only
    rw [if_neg (fun other => other side), if_neg (fun other => other target.symm), if_neg (fun other => other.1 spiral), none_]
  have own : placed.pickup n = { s.pickup n with confirmed := some a.toNat, addr := some a.toNat } := State.pickup_modPickup_same ..
  have cause : placed.fld (F.SRV_PU_STATE_BELAY_CAUSE n) = 0 :=
    (State.fld_put_apart _ _ ⟨rfl⟩).trans ((State.fld_put_apart _ _ ⟨rfl⟩).trans free)
  have first : placed.fld (F.SRV_PU_STATE_B0_SPIRAL n) = 0 := by
    refine (State.fld_put_apart _ _ ⟨rfl⟩).trans ?_
    rw [spiral]
    exact State.fld_put_fits s ⟨rfl⟩
  obtain ⟨state, confirmed, kept⟩ := State.toFollow_spec cause
  refine .of_eq answered ⟨state, ?_, (kept.fld (F.SRV_PU_STATE_B0_SPIRAL n) rfl ⟨rfl⟩).trans first⟩
  rw [confirmed, own]

theorem addressDecoded_follows (passed : Nat) (still : (s.pickup n).jumping = false) (following : s.puState n = Pu.follow) (none_ : s.wanted n = none)
    (fresh : (s.pickup n).addr = none) : Answers (.addressDecoded n a passed) s (fun t =>
      t = (s.put (F.SRV_PU_STATE_B0_SPIRAL n) (psaSpiral a.toNat)).modPickup n (fun y =>
        { y with addr := some a.toNat, badAddr := 0, confirmed := some a.toNat })) := by
  let seen := (s.put (F.SRV_PU_STATE_B0_SPIRAL n) (psaSpiral a.toNat)).modPickup n fun y =>
    { y with addr := some a.toNat, badAddr := 0, confirmed := some a.toNat }
  have own : seen.pickup n = { s.pickup n with addr := some a.toNat, badAddr := 0, confirmed := some a.toNat } := State.pickup_modPickup_same ..
  have layer : seen.fld (F.SRV_PU_STATE_LAYER n) = s.fld (F.SRV_PU_STATE_LAYER n) := State.fld_put_apart _ _ ⟨rfl⟩
  have wants : seen.wanted n = none := (State.wanted_of (by rw [own]) layer rfl rfl rfl rfl rfl).trans none_
  refine .of_eq (t := seen) ?_ rfl
  change execAddressDecoded n a passed s = _
  unfold execAddressDecoded
  dsimp only
  rw [if_neg (by simp [still]), if_neg (by rw [following]; decide), if_pos (.inl following)]
  unfold State.followAddress
  dsimp only
  rw [fresh]
  refine congrArg Host.Outcome.next (ite_eq_left_iff.mpr fun _ => ?_)
  change (match seen.wanted n with | none => seen | some t => _) = seen
  rw [wants]

end

/-! ## Transitions by time and count -/

section
variable {s : State} {n : Fin 16}

theorem focusSweepEnd_parks (searching : s.puState n = Pu.search) (ramp : (s.pickup n).ramp = 2) (last : 2 ≤ (s.pickup n).sweeps) :
    Answers (.focusSweepEnd n) s (fun t => t.puState n = Pu.park) := by
  let told := s.post 0x0240 (srcPickup n) (s.puPayload n [(s.pickup n).crossings] 0)
  have state : told.puState n = Pu.search := (State.fld_post ..).trans searching
  refine .of_eq (t := told.parkLens n false) ((if_pos ⟨searching, ramp⟩).trans (if_pos last)) ?_
  clear_value told
  unfold State.parkLens
  extract_lets p code parked driven
  rw [if_neg (by unfold p; rw [state]; decide)]
  have entered : parked.puState n = Pu.park := State.enter_state told n (by decide)
  clear_value parked
  have kept : driven.puState n = parked.puState n := State.fld_put_apart _ _ ⟨rfl⟩
  exact kept.trans entered

theorem focusedTimeout_searches (focused : s.puState n = Pu.focused) (turns : s.flag (F.SPN_STATE_AT_SPEED (n.val / 2)) = true)
    (left : s.fld (F.SRV_PU_STATE_RECOVER_COUNT n) < s.fld (F.SRV_DEFECT_CFG_RECOVER_MAX n)) : Answers (.focusedTimeout n) s (fun t =>
      t.puState n = Pu.search ∧
      t.fld (F.SRV_PU_STATE_RECOVER_COUNT n) = (s.fld (F.SRV_PU_STATE_RECOVER_COUNT n) + 1) % 2 ^ (F.SRV_PU_STATE_RECOVER_COUNT n).width) := by
  have answered : exec (.focusedTimeout n) s = .next (s.attempt n fun s => s.startSearch n (s.pickup n).layer) := if_pos ⟨focused, turns⟩
  rw [State.attempt_tries left] at answered
  exact .of_eq answered ⟨State.startSearch_state .., State.counted_kept n _ (State.startSearch_servo ..) ⟨rfl⟩⟩

theorem pullinTimeout_searches (pulling : s.puState n = Pu.pullin)
    (left : s.fld (F.SRV_PU_STATE_RECOVER_COUNT n) < s.fld (F.SRV_DEFECT_CFG_RECOVER_MAX n)) : Answers (.pullinTimeout n) s (fun t =>
      t.puState n = Pu.search ∧ (t.pickup n).layer = (s.pickup n).layer) := by
  have answered : exec (.pullinTimeout n) s = .next (s.attempt n fun s => s.startSearch n (s.pickup n).layer) := if_pos pulling
  rw [State.attempt_tries left] at answered
  have own (v : Nat) : (s.put (F.SRV_PU_STATE_RECOVER_COUNT n) v).pickup n = s.pickup n := State.pickup_of_pickups rfl n
  exact .of_eq answered ⟨State.startSearch_state .., (State.startSearch_layer ..).trans (congrArg Pickup.layer (own _))⟩

theorem alignAddressTimeout_pullsIn (aligning : s.puState n = Pu.align)
    (left : s.fld (F.SRV_PU_STATE_RECOVER_COUNT n) < s.fld (F.SRV_DEFECT_CFG_RECOVER_MAX n)) : Answers (.alignAddressTimeout n) s (fun t =>
      t.puState n = Pu.pullin ∧
      t.fld (F.SRV_PU_STATE_RECOVER_COUNT n) = (s.fld (F.SRV_PU_STATE_RECOVER_COUNT n) + 1) % 2 ^ (F.SRV_PU_STATE_RECOVER_COUNT n).width) := by
  have answered : exec (.alignAddressTimeout n) s = .next (s.attempt n fun s => s.toPullin n) := if_pos aligning
  rw [State.attempt_tries left] at answered
  exact .of_eq answered ⟨State.enter_state _ _ (by decide), State.counted_kept n _ (State.enter_servo ..) ⟨rfl⟩⟩

theorem trackJumpDone_aligns (jumping : (s.pickup n).jumping = true) (crossed : 2 * (s.pickup n).jumpTracks ≤ (s.pickup n).jumpCross)
    (good : 16 ≤ (s.pickup n).teGood) (state : s.puState n = Pu.tjump) : Answers (.trackJumpDone n) s (fun t => t.puState n = Pu.align ∧
      (t.pickup n).jumping = false) := by
  obtain ⟨timebase, entered⟩ := State.enter_pickup s n Pu.align
  refine .of_eq (t := s.enter n Pu.align) ((if_pos ⟨jumping, crossed, good⟩).trans (if_pos state)) ⟨State.enter_state _ _ (by decide), ?_⟩
  rw [entered]
  rfl

theorem layerJumpTimeout_searches (state : s.puState n = Pu.ljump) : Answers (.layerJumpTimeout n) s (fun t => t.puState n = Pu.search ∧
    (t.pickup n).layer = (s.pickup n).layer) := by
  let back := s.sput (F.SRV_LOOP_DRIVE_CODE n 0) (s.pickup n).ljCode
  refine .of_eq (t := back.layerJumpFail n) (if_pos state) ?_
  have own : back.pickup n = s.pickup n := State.pickup_of_pickups rfl n
  clear_value back
  unfold State.layerJumpFail
  extract_lets p told
  exact ⟨State.startSearch_state .., (State.startSearch_layer ..).trans (congrArg Pickup.layer own)⟩

theorem focusLost_searches (closed : focusClosed (s.puState n) = true) (some_ : 0 < (s.pickup n).focLoss)
    (counted : s.fld (F.SRV_LOSS_CFG_LOST_N n) ≤ (s.pickup n).focLoss) (shut : (s.pickup n).gates = 0) (still : s.streaming n = false)
    (idle : (s.calRun n).proc = 0) (emits : s.mayEmit n = true)
    (left : s.fld (F.SRV_PU_STATE_RECOVER_COUNT n) < s.fld (F.SRV_DEFECT_CFG_RECOVER_MAX n)) : Answers (.focusLost n) s (fun t =>
      t.puState n = Pu.search ∧ t.flag (F.SRV_BAE_REV_FOCUS_LOST n) = true ∧ (t.pickup n).recovering = true) :=
  .of_eq (t := s.lossOfFocus n) (if_pos ⟨closed, .inl (by simp [some_, counted])⟩) (State.lossOfFocus_spec shut still idle left emits)

theorem trackLost_pullsIn (state : s.puState n = Pu.follow ∨ s.puState n = Pu.align) (bad : 2 ≤ (s.pickup n).badAddr) (shut : (s.pickup n).gates = 0)
    (still : s.streaming n = false) (idle : (s.calRun n).proc = 0)
    (left : s.fld (F.SRV_PU_STATE_RECOVER_COUNT n) < s.fld (F.SRV_DEFECT_CFG_RECOVER_MAX n)) : Answers (.trackLost n) s (fun t =>
      t.puState n = Pu.pullin ∧ t.flag (F.SRV_BAE_REV_TRACK_LOST n) = true) := by
  have tracks : s.puState n ≠ Pu.off ∧ s.puState n ≠ Pu.park ∧ s.puState n ≠ Pu.fault ∧ s.puState n ≠ Pu.belay := by
    rcases state with state | state <;> rw [state] <;> decide
  obtain ⟨off, park, fault, belay⟩ := tracks
  obtain ⟨pulls, lost, _⟩ := State.lossOfTrack_spec shut still idle left belay
  exact .of_eq (t := s.lossOfTrack n) (if_pos ⟨off, park, fault, .inr bad⟩) ⟨pulls, lost⟩

theorem parkRampEnd_ends (state : s.puState n = Pu.park) : Answers (.parkRampEnd n) s (fun t =>
    t.puState n = (if (s.pickup n).parkFault then Pu.fault else Pu.off) ∧ (t.pickup n).goal = none) := by
  let ended (y : Pickup) : Pickup := { y with parkFault := false, goal := none, reached := none }
  have entered := State.enter_state s n (p := if (s.pickup n).parkFault then Pu.fault else Pu.off) (by split <;> decide)
  refine .of_eq (t := (s.enter n (if (s.pickup n).parkFault then Pu.fault else Pu.off)).modPickup n ended) (if_pos state) ?_
  generalize s.enter n (if (s.pickup n).parkFault then Pu.fault else Pu.off) = u at entered ⊢
  exact ⟨entered, by rw [State.pickup_modPickup_same]⟩

/-! ## Triggers of a hold -/

theorem holdTrig_key_ne {m l k : Nat} (other : l ≠ k) : (F.SRV_LOOP_HOLD_TRIG_DEFECT m l).key ≠ (F.SRV_LOOP_HOLD_TRIG_DEFECT m k).key ∧
    (F.SRV_LOOP_HOLD_TRIG_LOWSUM m l).key ≠ (F.SRV_LOOP_HOLD_TRIG_LOWSUM m k).key := by
  unfold Fld.key F.SRV_LOOP_HOLD_TRIG_DEFECT F.SRV_LOOP_HOLD_TRIG_LOWSUM
  dsimp only
  omega

/-- The triggers of a loop's hold, both written. -/
def State.putTriggers (s : State) (n v l : Nat) : State := (s.put (F.SRV_LOOP_HOLD_TRIG_DEFECT n l) v).put (F.SRV_LOOP_HOLD_TRIG_LOWSUM n l) v

/-- Both triggers of a loop's hold read as a number. -/
def State.TriggersAre (s : State) (n v l : Nat) : Prop :=
  s.fld (F.SRV_LOOP_HOLD_TRIG_DEFECT n l) = v ∧ s.fld (F.SRV_LOOP_HOLD_TRIG_LOWSUM n l) = v

theorem State.putTriggers_same (t : State) (m l : Nat) {v : Nat} (small : v < 2) : (t.putTriggers m v l).TriggersAre m v l :=
  ⟨(State.fld_put_apart _ _ ⟨rfl⟩).trans (State.fld_put_lt t (f := F.SRV_LOOP_HOLD_TRIG_DEFECT m l) small),
    State.fld_put_lt _ (f := F.SRV_LOOP_HOLD_TRIG_LOWSUM m l) small⟩

theorem State.TriggersAre.putTriggers {t : State} {m v l : Nat} (h : t.TriggersAre m v l) (small : v < 2) (k : Nat) :
    (t.putTriggers m v k).TriggersAre m v l := by
  by_cases own : l = k
  · exact own ▸ State.putTriggers_same t m l small
  · obtain ⟨defect, lowsum⟩ := holdTrig_key_ne (m := m) own
    exact ⟨(State.fld_put_apart _ _ ⟨rfl⟩).trans ((State.fld_put_ne t _ defect).trans h.1),
      (State.fld_put_ne _ _ lowsum).trans ((State.fld_put_apart t _ ⟨rfl⟩).trans h.2)⟩

theorem State.TriggersAre.of_regs {t u : State} {m v l : Nat} (h : t.TriggersAre m v l) (same : u.regs = t.regs) : u.TriggersAre m v l :=
  ⟨(State.fld_of_regs same _).trans h.1, (State.fld_of_regs same _).trans h.2⟩

theorem State.TriggersAre.raise {t : State} {m v l : Nat} (h : t.TriggersAre m v l) (c k : Nat) (p : List Nat) :
    (t.raise (F.SRV_BAE_REV_DEFECT_LONG m) c k p).TriggersAre m v l :=
  ⟨(State.fld_raise_apart _ _ _ _ ⟨rfl⟩).trans h.1, (State.fld_raise_apart _ _ _ _ ⟨rfl⟩).trans h.2⟩

theorem State.TriggersAre.off {t : State} {m l : Nat} (h : t.TriggersAre m 0 l) : t.flag (F.SRV_LOOP_HOLD_TRIG_DEFECT m l) = false ∧
    t.flag (F.SRV_LOOP_HOLD_TRIG_LOWSUM m l) = false := ⟨State.flag_eq_false_of_fld t h.1, State.flag_eq_false_of_fld t h.2⟩

/-- Triggers written for several loops read as written. -/
theorem State.forEach_putTriggers (t : State) (m : Nat) {v : Nat} (small : v < 2) {xs : List Nat} {l : Nat} (mem : l ∈ xs) :
    (t.forEach xs fun s l => s.putTriggers m v l).TriggersAre m v l :=
  State.forEach_reaches (P := fun u => u.TriggersAre m v l) (f := fun s l => s.putTriggers m v l) mem (fun u => State.putTriggers_same u m l small)
    (fun _ k h => h.putTriggers small k) t

theorem defectLong_clears (on : (s.pickup n).trigsOff = false) (held : 0 < (s.pickup n).holdRun)
    (long : s.fld (F.SRV_DEFECT_CFG_DEFECT_MAX n) ≤ (s.pickup n).holdRun) : Answers (.defectLong n) s (fun t =>
      (∀ l : Fin 4, t.flag (F.SRV_LOOP_HOLD_TRIG_DEFECT n l) = false ∧ t.flag (F.SRV_LOOP_HOLD_TRIG_LOWSUM n l) = false) ∧
      t.flag (F.SRV_BAE_REV_DEFECT_LONG n) = true ∧ (t.pickup n).trigsOff = true) := by
  let cleared := s.forEach (List.range 4) fun s l => s.putTriggers n 0 l
  let off := cleared.modPickup n fun y => { y with trigsOff := true, clean := 0 }
  have zero (l : Fin 4) : cleared.TriggersAre n 0 l := State.forEach_putTriggers s n (by decide) (List.mem_range.mpr l.isLt)
  have answered : exec (.defectLong n) s = .next (off.raise (F.SRV_BAE_REV_DEFECT_LONG n) 0x024B (srcPickup n)
    (off.puPayload n [] ((s.pickup n).confirmed.getD 0))) := if_pos ⟨on, held, long⟩
  clear_value cleared
  have own : (off.pickup n).trigsOff = true := by
    unfold off
    rw [State.pickup_modPickup_same]
  have zeros (l : Fin 4) : off.TriggersAre n 0 l := (zero l).of_regs (State.modPickup_regs ..)
  clear_value off
  refine .of_eq answered ⟨fun l => ((zeros l).raise _ _ _).off, State.flag_raise_same _ _ _ _ ⟨rfl⟩, ?_⟩
  rw [State.pickup_of_pickups (State.raise_pickups ..)]
  exact own

theorem defectTriggersRestore_sets (off : (s.pickup n).trigsOff = true) (clean : 64 ≤ (s.pickup n).clean) : Answers (.defectTriggersRestore n) s (fun t =>
    (∀ l : Fin 3, t.flag (F.SRV_LOOP_HOLD_TRIG_DEFECT n l) = true ∧ t.flag (F.SRV_LOOP_HOLD_TRIG_LOWSUM n l) = true) ∧
    (t.pickup n).trigsOff = false) := by
  let on := s.modPickup n fun y => { y with trigsOff := false }
  have answered : exec (.defectTriggersRestore n) s = .next (on.forEach [0, 1, 2] fun s l => s.putTriggers n 1 l) := if_pos ⟨off, clean⟩
  have own : (on.pickup n).trigsOff = false := by
    unfold on
    rw [State.pickup_modPickup_same]
  clear_value on
  have kept : (on.forEach [0, 1, 2] fun s l => s.putTriggers n 1 l).pickups = on.pickups := State.read_forEach State.pickups (by intros; rfl) on _
  refine .of_eq answered ⟨fun l => ?_, by rw [State.pickup_of_pickups kept, own]⟩
  have mem : l.val ∈ [0, 1, 2] := by
    revert l
    decide
  obtain ⟨defect, lowsum⟩ := State.forEach_putTriggers on n (v := 1) (by decide) mem
  unfold State.flag
  rw [defect, lowsum]
  exact ⟨rfl, rfl⟩

/-! ## Belay -/

theorem revolutionReference_jumps (belay : s.puState n = Pu.belay) (turns : s.flag (F.SPN_STATE_AT_SPEED (n.val / 2)) = true)
    (tracks : (s.pickup n).pullWait = false) (runs : s.procDown n = false) (still : (s.pickup n).jumping = false) :
    Answers (.revolutionReference n) s (fun t => t.puState n = Pu.belay ∧ (t.pickup n).jumping = true ∧
      (t.pickup n).jumpTracks = (s.disc (n.val / 2)).tracksPerRev ∧ (t.pickup n).jumpOut = (s.disc (n.val / 2)).falls (s.fld (F.SRV_PU_STATE_LAYER n))) := by
  have out : s.puState n ≠ Pu.follow := by
    rw [belay]
    decide
  have answered : exec (.revolutionReference n) s = .next (s.trackJump n (s.disc (n.val / 2)).tracksPerRev
      ((s.disc (n.val / 2)).falls (s.fld (F.SRV_PU_STATE_LAYER n))) true) := by
    change execRevolutionReference n s = _
    unfold execRevolutionReference
    dsimp only
    rw [if_neg out, if_pos ⟨.inl ⟨belay, by simp [turns, tracks, runs]⟩, still⟩]
  refine .of_eq answered ?_
  generalize (s.disc (n.val / 2)).tracksPerRev = tracks
  generalize (s.disc (n.val / 2)).falls (s.fld (F.SRV_PU_STATE_LAYER n)) = outward
  unfold State.trackJump
  extract_lets driven k kicked
  have kept : ServoKept loopKinds s driven := (State.driveLoop_servo s n 2 3).trans (State.driveLoop_servo (s.driveLoop n 2 3) n 1 1)
  clear_value driven
  refine ⟨?_, ?_⟩
  · have own : kicked.puState n = driven.puState n := State.fld_put_apart _ _ ⟨rfl⟩
    exact own.trans ((State.puState_of_kept kept ⟨rfl⟩ n).trans belay)
  · rw [State.pickup_modPickup_same]
    exact ⟨rfl, rfl, rfl⟩

theorem belayReqSet_waits (follow : s.puState n ≠ Pu.follow) (belay : s.puState n ≠ Pu.belay) : Answers (.belayReqSet n) s (fun t =>
    t.flag (F.SRV_PU_CTRL_BELAY_REQ n) = true ∧ (t.fld (F.SRV_PU_STATE_BELAY_CAUSE n)).testBit belayHost = true ∧
    SameFields [F.SRV_PU_CTRL_BELAY_REQ n, F.SRV_PU_STATE_BELAY_CAUSE n] s t) := by
  let asked := s.put (F.SRV_PU_CTRL_BELAY_REQ n) 1
  have state : asked.puState n = s.puState n := State.fld_put_apart _ _ ⟨rfl⟩
  have same : SameFields [F.SRV_PU_CTRL_BELAY_REQ n, F.SRV_PU_STATE_BELAY_CAUSE n] s asked := (SameFields.refl _ s).put 1
  have set : asked.flag (F.SRV_PU_CTRL_BELAY_REQ n) = true := State.flag_put_one s Nat.zero_lt_one
  refine .of_eq (t := asked.setBelay n belayHost true) rfl ?_
  clear_value asked
  rw [State.setBelay_waits _ _ (state ▸ follow) (state ▸ belay)]
  refine ⟨(State.flag_put_apart _ _ ⟨rfl⟩).trans set, ?_, same.put _⟩
  rw [State.fld_put_same]
  exact testBit_set (by decide : belayHost < 4)

/-- A pickup without open gates that enters Belay. -/
theorem State.enterBelay_spec {t : State} {m : Nat} (shut : (t.pickup m).gates = 0) (still : t.streaming m = false) :
    (t.enterBelay m).puState m = Pu.belay := by
  unfold State.enterBelay
  extract_lets causes cause closed belayed
  have same : closed = t := State.shutGates_shut shut still _
  have entered : belayed.puState m = Pu.belay := State.enter_state closed m (by decide)
  clear_value belayed
  exact (State.fld_post ..).trans entered

theorem belayReqSet_enters (following : s.puState n = Pu.follow) (idle : (s.calRun n).proc = 0) (shut : (s.pickup n).gates = 0)
    (still : s.streaming n = false) : Answers (.belayReqSet n) s (fun t => t.puState n = Pu.belay ∧ t.flag (F.SRV_PU_CTRL_BELAY_REQ n) = true ∧
      (t.fld (F.SRV_PU_STATE_BELAY_CAUSE n)).testBit belayHost = true) := by
  let asked := s.put (F.SRV_PU_CTRL_BELAY_REQ n) 1
  let caused := asked.put (F.SRV_PU_STATE_BELAY_CAUSE n) (asked.fld (F.SRV_PU_STATE_BELAY_CAUSE n) ||| 2 ^ belayHost)
  have state : caused.puState n = Pu.follow := (State.fld_put_apart _ _ ⟨rfl⟩).trans ((State.fld_put_apart _ _ ⟨rfl⟩).trans following)
  have asks : caused.flag (F.SRV_PU_CTRL_BELAY_REQ n) = true :=
    (State.flag_put_apart _ _ ⟨rfl⟩).trans (State.flag_put_one s (f := F.SRV_PU_CTRL_BELAY_REQ n) Nat.zero_lt_one)
  have bit : (caused.fld (F.SRV_PU_STATE_BELAY_CAUSE n)).testBit belayHost = true := by
    unfold caused
    rw [State.fld_put_same]
    exact testBit_set (by decide : belayHost < 4)
  have some_ : caused.fld (F.SRV_PU_STATE_BELAY_CAUSE n) ≠ 0 := fun zero => by simp [zero] at bit
  have recording : caused.recording = s.recording := rfl
  have gates : (caused.pickup n).gates = 0 := shut
  have run : (caused.calRun n).proc = 0 := idle
  have streams : caused.streaming n = false := (State.streaming_of_recording recording n).trans still
  have answered : exec (.belayReqSet n) s = .next (caused.checkBelay n) := rfl
  clear_value caused
  have enters : caused.checkBelay n = caused.enterBelay n := if_pos ⟨state, some_, run⟩
  rw [enters] at answered
  have kept := State.enterBelay_servo caused n
  refine .of_eq answered ⟨State.enterBelay_spec gates streams, (kept.flag (F.SRV_PU_CTRL_BELAY_REQ n) rfl ⟨rfl⟩).trans asks, ?_⟩
  rw [kept.fld (F.SRV_PU_STATE_BELAY_CAUSE n) rfl ⟨rfl⟩]
  exact bit

theorem belayReqClear_follows (belay : s.puState n = Pu.belay) (tracks : (s.pickup n).pullWait = false)
    (host : s.fld (F.SRV_PU_STATE_BELAY_CAUSE n) = 2 ^ belayHost) : Answers (.belayReqClear n) s (fun t => t.puState n = Pu.follow ∧
      t.flag (F.SRV_PU_CTRL_BELAY_REQ n) = false ∧ t.fld (F.SRV_PU_STATE_BELAY_CAUSE n) = 0) := by
  let asked := s.put (F.SRV_PU_CTRL_BELAY_REQ n) 0
  let freed := asked.put (F.SRV_PU_STATE_BELAY_CAUSE n) (asked.fld (F.SRV_PU_STATE_BELAY_CAUSE n) &&& (15 - 2 ^ belayHost))
  have state : freed.puState n = Pu.belay := (State.fld_put_apart _ _ ⟨rfl⟩).trans ((State.fld_put_apart _ _ ⟨rfl⟩).trans belay)
  have asks : freed.flag (F.SRV_PU_CTRL_BELAY_REQ n) = false := (State.flag_put_apart _ _ ⟨rfl⟩).trans (State.flag_put_zero ..)
  have cause : freed.fld (F.SRV_PU_STATE_BELAY_CAUSE n) = 0 := by
    have before : asked.fld (F.SRV_PU_STATE_BELAY_CAUSE n) = 2 ^ belayHost := (State.fld_put_apart _ _ ⟨rfl⟩).trans host
    unfold freed
    rw [before, State.fld_put_same]
    rfl
  have wait : (freed.pickup n).pullWait = false := tracks
  have answered : exec (.belayReqClear n) s = .next (freed.checkBelay n) := rfl
  clear_value freed
  let told := freed.post 0x0249 (srcPickup n) (freed.puPayload n [] 0)
  have follows : freed.checkBelay n = told.toFollow n := by
    unfold State.checkBelay
    dsimp only
    rw [if_neg (fun follow => absurd (state.symm.trans follow.1) (by decide)), if_pos ⟨state, cause⟩, wait,
      if_neg Bool.false_ne_true]
  rw [follows] at answered
  have free : told.fld (F.SRV_PU_STATE_BELAY_CAUSE n) = 0 := (State.fld_post ..).trans cause
  have off : told.flag (F.SRV_PU_CTRL_BELAY_REQ n) = false := (State.flag_post ..).trans asks
  clear_value told
  obtain ⟨following, _, kept⟩ := State.toFollow_spec free
  exact .of_eq answered ⟨following, (kept.flag (F.SRV_PU_CTRL_BELAY_REQ n) rfl ⟨rfl⟩).trans off,
    (kept.fld (F.SRV_PU_STATE_BELAY_CAUSE n) rfl ⟨rfl⟩).trans free⟩

end

/-- Settles O39. -/
theorem focusAndTrackCommandsComplete : Obligations.FocusAndTrackCommandsComplete := by
  intro s
  refine ⟨fun n a passed => addressDecoded_aligns passed, fun n a passed => addressDecoded_follows passed,
    fun n state ramp more => .of_eq ((if_pos ⟨state, ramp⟩).trans (if_neg (Nat.not_le.mpr more))) rfl, fun n => focusSweepEnd_parks,
    fun n state good turns => .of_eq (if_pos ⟨state, good, turns⟩) (State.enter_state s n (by decide)), fun n => focusedTimeout_searches,
    fun n state captured good => .of_eq (if_pos ⟨state, captured, good⟩) (State.enter_state s n (by decide)), fun n => pullinTimeout_searches,
    fun n => alignAddressTimeout_pullsIn, fun n => trackJumpDone_aligns,
    fun n jumping belay shut still idle left => .of_eq (if_pos jumping) (State.lossOfTrack_spec shut still idle left belay),
    fun n => layerJumpTimeout_searches, fun n state rest => .of_eq (if_pos ⟨state, rest⟩) (State.enter_state s n (by decide)), fun n => focusLost_searches,
    fun n => trackLost_pullsIn, fun n => parkRampEnd_ends, fun n state => .of_eq (if_pos state) rfl, fun n => defectLong_clears,
    fun n => defectTriggersRestore_sets, fun n => revolutionReference_jumps, fun n barred good => .of_eq (if_pos ⟨barred, good⟩) rfl,
    fun n => belayReqSet_waits, fun n => belayReqSet_enters, fun n => belayReqClear_follows⟩

end Sys2Proof.Machine
end

section
/-!
PROOFS. The laser-driver link: bring-up, STATUS frames, loss and retraining, and the load of a bank (R86, R91–R95, R283, R284).
-/
set_option Elab.async false
namespace Sys2Proof.Machine

section
variable {s : State} {n : Fin 16}

theorem State.emitAll_sent (s : State) (os : List Out) (h : os.any Out.isTlp = false) : (s.emitAll os).sent = s.sent ++ os := by
  rw [State.emitAll_plain s os h]

/-- Frames of the driver are no TLPs: sending them changes no field. -/
theorem State.sendReadPower_spec (s : State) (n : Nat) :
    (s.sendReadPower n).regs = s.regs ∧ (s.sendReadPower n).pickups = s.pickups ∧ ∀ o ∈ s.sent, o ∈ (s.sendReadPower n).sent :=
  State.forEach_keeps (P := fun t => t.regs = s.regs ∧ t.pickups = s.pickups ∧ ∀ o ∈ s.sent, o ∈ t.sent) ⟨rfl, rfl, fun _ mem => mem⟩ (List.range 4)
    fun _ _ ⟨regs, pickups, sent⟩ => ⟨regs, pickups, fun o mem => List.mem_append_left _ (sent o mem)⟩

/-- Training of a link that is enabled, in a slot with power. -/
theorem State.trainLdd_trains {t : State} {m : Nat} (enabled : t.flag (F.SRV_LDD_CTRL_LINK_EN m) = true) (powered : t.slotPowered (m / 2) = true) :
    t.trainLdd m = (t.modPickup m fun y => { y with lddTry := true, lddGood := 0, lddBad := 0 }).ldd m 0x00 [] :=
  if_neg (by simp [enabled, powered])

theorem lddLinkEnable_trains (down : s.flag (F.SRV_LDD_STATUS_LINK_UP n) = false) (idle : (s.pickup n).lddTry = false)
    (powered : s.slotPowered (n.val / 2) = true) : Answers (.lddLinkEnable n) s (fun t => t.flag (F.SRV_LDD_CTRL_LINK_EN n) = true ∧
      (t.pickup n).lddTry = true ∧ t.sent = s.sent ++ [.ldd n.val 0x00 []] ∧ SameFields [F.SRV_LDD_CTRL_LINK_EN n] s t) := by
  let enabled := s.put (F.SRV_LDD_CTRL_LINK_EN n) 1
  let tried := enabled.modPickup n fun y => { y with lddTry := true, lddGood := 0, lddBad := 0 }
  have set : enabled.flag (F.SRV_LDD_CTRL_LINK_EN n) = true := State.flag_put_one _ Nat.zero_lt_one
  have power : enabled.slotPowered (n.val / 2) = true := by
    unfold State.slotPowered at powered ⊢
    rw [State.fld_put_apart _ _ ⟨rfl⟩]
    exact powered
  have up : enabled.flag (F.SRV_LDD_STATUS_LINK_UP n) = false := (State.flag_put_apart _ _ ⟨rfl⟩).trans down
  have still : ¬ (enabled.flag (F.SRV_LDD_STATUS_LINK_UP n) = true ∨ (enabled.pickup n).lddTry = true) := by
    rw [up, show enabled.pickup n = s.pickup n from rfl, idle]
    decide
  refine .of_eq (t := { tried with sent := s.sent ++ [.ldd n.val 0x00 []] }) ?_ ⟨set, ?_, rfl, ?_⟩
  · exact congrArg Host.Outcome.next ((if_neg still).trans (State.trainLdd_trains set power))
  · change (tried.pickup n).lddTry = true
    rw [State.pickup_modPickup_same]
  · exact SameFields.of_regs (t := enabled) ((SameFields.refl _ s).put 1) rfl

/-- The bytes of a frame, as numbers. -/
def frameBytes (frame : List Byte) : List Nat := frame.map BitVec.toNat

theorem frameBytes_getD_lt (frame : List Byte) (i : Nat) : (frameBytes frame).getD i 0 < 256 := by
  unfold frameBytes
  rw [List.getD_eq_getElem?_getD, List.getElem?_map]
  cases frame[i]? with
  | none => decide
  | some b => exact b.isLt

theorem lddStatusFrame_takes {frame : List Byte} (powered : s.slotPowered (n.val / 2) = true) (enabled : s.flag (F.SRV_LDD_CTRL_LINK_EN n) = true)
    (length : frame.length = 19) (head : frame.head? = some 0x80#8)
    (checked : crc16 ((frame.map BitVec.toNat).take 17) = ofLeBytes ((frame.map BitVec.toNat).drop 17)) (gates : (s.pickup n).gates = 0)
    (unasked : (s.puRec n).selWant = none) : Answers (.lddStatusFrame n frame) s (fun t =>
      (t.pickup n).lddGood = (s.pickup n).lddGood + 1 ∧ (t.pickup n).lddBad = 0 ∧
      t.fld (F.SRV_LDD_STATUS_FIFO_LEVEL n) = (frame.map BitVec.toNat).getD 2 0 ∧
      t.fld (F.SRV_LDD_STATUS_DISCARDS n) = ofLeBytes (((frame.map BitVec.toNat).drop 3).take 2) ∧
      SameFields [F.SRV_LDD_STATUS_BANK n, F.SRV_LDD_STATUS_FIFO_LEVEL n, F.SRV_LDD_STATUS_DISCARDS n] s t) := by
  have start : (frame.map BitVec.toNat).getD 0 0 = 0x80 := by
    rw [List.getD_eq_getElem?_getD, List.getElem?_map, ← List.head?_eq_getElem?, head]
    rfl
  let good := s.modPickup n fun y => { y with lddGood := y.lddGood + 1, lddBad := 0 }
  have answered : exec (.lddStatusFrame n frame) s = .next (good.takeStatus n ((frame.map BitVec.toNat).drop 1)) :=
    (if_neg (by simp [powered, enabled])).trans (if_pos ⟨by simp [length], start, checked⟩)
  refine .of_eq answered ?_
  unfold State.takeStatus
  extract_lets b0 level discards rose written warm told shut shut'
  have levelIs : level = (frame.map BitVec.toNat).getD 2 0 := by simp [level, List.getD_eq_getElem?_getD]
  have discardsIs : discards = ofLeBytes (((frame.map BitVec.toNat).drop 3).take 2) := by simp only [discards, List.drop_drop, Nat.reduceAdd]
  have warmed : warm.recording = s.recording := by
    simp only [warm, written, good, State.setFlag, State.put_recording, State.modPickup_recording]
  have before : written.pickup n = good.pickup n := by
    refine State.pickup_of_pickups ?_ n
    simp only [written, State.setFlag, State.put_pickups]
  have toldIs : told.recording = warm.recording ∧ told.pickups = warm.pickups := by
    unfold told State.when
    split
    · exact ⟨State.post_recording .., State.post_pickups ..⟩
    · exact ⟨rfl, rfl⟩
  have recording : told.recording = s.recording := toldIs.1.trans warmed
  have pickups : told.pickup n = warm.pickup n := State.pickup_of_pickups toldIs.2 n
  have taken : told.pickup n = { s.pickup n with
      lddGood := (s.pickup n).lddGood + 1, lddBad := 0
      lddTemp := toSigned 16 (ofLeBytes (((List.drop 1 (frame.map BitVec.toNat)).drop 12).take 2)) } := by
    have own : good.pickup n = { s.pickup n with lddGood := (s.pickup n).lddGood + 1, lddBad := 0 } := State.pickup_modPickup_same ..
    rw [pickups]
    refine (State.pickup_modPickup_same ..).trans ?_
    rw [before, own]
  have reads (g : Fld) : told.fld g = written.fld g :=
    (State.fld_when warm (State.fld_post ..)).trans (State.fld_of_regs (State.modPickup_regs ..) g)
  let but := [F.SRV_LDD_STATUS_BANK n, F.SRV_LDD_STATUS_FIFO_LEVEL n, F.SRV_LDD_STATUS_DISCARDS n]
  have counted : SameFields but s good := (SameFields.refl but s).of_regs (State.modPickup_regs ..)
  have shown : SameFields but s written := ((counted.setFlag _ (by simp [but])).put _ (by simp [but])).put _ (by simp [but])
  have same : SameFields but s told := SameFields.whenever (shown.of_regs (State.modPickup_regs ..)) fun u kept => kept.post _ _ _
  clear_value told level discards
  have open_ : (told.pickup n).gates = 0 := by
    rw [taken]
    exact gates
  have first : shut = told := by
    unfold shut
    rw [open_]
    simp [State.when]
  have second : shut' = told := by
    unfold shut'
    rw [first, open_]
    simp [State.when]
  have done : shut'.applySelect n = told := by
    rw [second]
    unfold State.applySelect
    rw [State.puRec_of_recording recording, unasked]
  rw [done, reads, reads, taken]
  refine ⟨rfl, rfl, ?_, ?_, same⟩
  · refine (State.fld_put_apart _ _ ⟨rfl⟩).trans ((State.fld_put_lt _ ?_).trans levelIs)
    rw [levelIs]
    exact frameBytes_getD_lt frame 2
  · refine (State.fld_put_lt _ ?_).trans discardsIs
    rw [discardsIs]
    exact Nat.lt_of_lt_of_le (ofLeBytes_lt _) (show 256 ^ _ ≤ 256 ^ 2 from Nat.pow_le_pow_right (by decide) (List.length_take_le ..))

theorem lddStatusFrame_bad {frame : List Byte} (powered : s.slotPowered (n.val / 2) = true) (enabled : s.flag (F.SRV_LDD_CTRL_LINK_EN n) = true)
    (length : frame.length ≠ 19) :
    Answers (.lddStatusFrame n frame) s (fun t => t = s.modPickup n (fun y => { y with lddGood := 0, lddBad := y.lddBad + 1 })) :=
  .of_eq ((if_neg (by simp [powered, enabled])).trans (if_neg (by simp [length]))) rfl

theorem lddLinkUp_comesUp (tried : (s.pickup n).lddTry = true) (good : 16 ≤ (s.pickup n).lddGood) : Answers (.lddLinkUp n) s (fun t =>
    t.flag (F.SRV_LDD_STATUS_LINK_UP n) = true ∧ (t.pickup n).lddTry = false ∧ .ldd n.val 0x02 (leBytes 2 Driver.mode ++ leBytes 4 1) ∈ t.sent ∧
    SameFields [F.SRV_LDD_STATUS_LINK_UP n, F.SRV_LDD_STATUS_LDEN n] s t) := by
  let up := (s.put (F.SRV_LDD_STATUS_LINK_UP n) 1).modPickup n fun y => { y with lddTry := false }
  let mode := up.lddWrite n Driver.mode 1
  obtain ⟨regs, pickups, sent⟩ := mode.sendReadPower_spec n
  refine .of_eq (t := (mode.sendReadPower n).driveLden n) (if_pos ⟨tried, good⟩) ?_
  generalize mode.sendReadPower n = powered at regs pickups sent
  refine ⟨?_, ?_, ?_, ?_⟩
  · unfold State.driveLden
    rw [State.flag_setFlag_apart _ _ ⟨rfl⟩]
    exact (State.flag_of_regs (s := mode) regs _).trans (State.flag_put_one s (f := F.SRV_LDD_STATUS_LINK_UP n) Nat.zero_lt_one)
  · have kept : (powered.driveLden n).pickups = up.pickups := pickups.trans (State.emitAll_pickups up _)
    have own : up.pickup n = { s.pickup n with lddTry := false } := State.pickup_modPickup_same ..
    rw [State.pickup_of_pickups kept, own]
  · exact sent _ (State.mem_sent_emit up _)
  · exact (SameFields.of_regs (t := s.put (F.SRV_LDD_STATUS_LINK_UP n) 1) ((SameFields.refl _ s).put 1) regs).setFlag _

section
variable (shut : (s.pickup n).gates = 0) (still : s.streaming n = false) (enabled : s.flag (F.SRV_LDD_CTRL_LINK_EN n) = true)
  (powered : s.slotPowered (n.val / 2) = true)
include shut still enabled powered

/-- A link that is lost emits no more and is trained again. -/
theorem State.lddLost_spec (how : Nat) : (s.lddLost n how).flag (F.SRV_LDD_STATUS_LINK_UP n) = false ∧
    (s.lddLost n how).flag (F.SRV_IF_STATUS_LDD_DOWN n) = true ∧ (s.lddLost n how).flag (F.SRV_LDD_STATUS_LDEN n) = false ∧
    ((s.lddLost n how).pickup n).lddTry = true ∧
    SameFields [F.SRV_LDD_STATUS_LINK_UP n, F.SRV_IF_STATUS_LDD_DOWN n, F.SRV_LDD_STATUS_LDEN n] s (s.lddLost n how) := by
  unfold State.lddLost
  extract_lets down raised
  have up : raised.flag (F.SRV_LDD_STATUS_LINK_UP n) = false :=
    (State.flag_raise_apart _ _ _ _ ⟨rfl⟩).trans (State.flag_put_zero ..)
  have driven : raised.driveLden n = raised.setFlag (F.SRV_LDD_STATUS_LDEN n) false := by
    unfold State.driveLden State.mayEmit
    rw [up, Bool.and_false, Bool.false_and, Bool.false_and]
  let dark := raised.setFlag (F.SRV_LDD_STATUS_LDEN n) false
  have pickups : dark.pickups = s.pickups := by simp only [dark, raised, down, State.setFlag, State.put_pickups, State.raise_pickups]
  have recording : dark.recording = s.recording := by simp only [dark, raised, down, State.setFlag, State.put_recording, State.raise_recording]
  have closed : dark.shutGates n (some 6) = dark := State.shutGates_shut (by rw [State.pickup_of_pickups pickups, shut])
    (by rw [State.streaming_of_recording recording, still]) _
  have reads {g : Fld} (lden : g.Apart (F.SRV_LDD_STATUS_LDEN n)) (link : g.Apart (F.SRV_LDD_STATUS_LINK_UP n))
      (flag : g.Apart (F.SRV_IF_STATUS_LDD_DOWN n)) : dark.fld g = s.fld g :=
    (State.fld_put_apart _ _ lden).trans ((State.fld_raise_apart _ _ _ _ flag).trans (State.fld_put_apart _ _ link))
  have trained := State.trainLdd_trains (t := dark) (m := n)
    (by unfold State.flag at enabled ⊢; rw [reads ⟨rfl⟩ ⟨rfl⟩ ⟨rfl⟩]; exact enabled)
    (by unfold State.slotPowered at powered ⊢; rw [reads ⟨rfl⟩ ⟨rfl⟩ ⟨rfl⟩]; exact powered)
  let tried := dark.modPickup n fun y => { y with lddTry := true, lddGood := 0, lddBad := 0 }
  rw [driven, closed, trained]
  refine ⟨?_, ?_, ?_, ?_, ?_⟩
  · exact (State.flag_setFlag_apart raised (f := F.SRV_LDD_STATUS_LDEN n) false ⟨rfl⟩).trans up
  · exact (State.flag_setFlag_apart raised (f := F.SRV_LDD_STATUS_LDEN n) false ⟨rfl⟩).trans (State.flag_raise_same _ _ _ _ ⟨rfl⟩)
  · exact State.flag_setFlag raised (f := F.SRV_LDD_STATUS_LDEN n) false ⟨rfl⟩
  · have own : (tried.pickup n).lddTry = true := by
      unfold tried
      rw [State.pickup_modPickup_same]
    have kept : (tried.ldd n 0x00 []).pickups = tried.pickups := State.emitAll_pickups ..
    rw [State.pickup_of_pickups kept, own]
  · refine SameFields.emit_plain (t := tried) (SameFields.of_regs (t := dark) ?_ (State.modPickup_regs ..)) rfl
    exact (((SameFields.refl _ s).put 0).raise _ _ _).setFlag false

end

/-- A bank of a pickup that was just loaded and checked waits to be selected while a gate is open. -/
theorem State.applySelect_waits {t : State} {m : Nat} (gates : (t.pickup m).gates ≠ 0) : t.applySelect m = t := by
  unfold State.applySelect
  split
  · rfl
  · exact if_pos (.inl gates)

theorem lddTableLoad_loads {layer : Fin 8} {crc1 crc2 : BitVec 32} (up : s.flag (F.SRV_LDD_STATUS_LINK_UP n) = true)
    (known : Table.at [] (s.puRec n).calPw layer.val ≠ []) (checked : crc1.toNat = crc32c (s.buildBank n layer.val)) (open_ : (s.pickup n).gates ≠ 0) :
    Answers (.lddTableLoad n layer crc1 crc2) s (fun t => t.flag (tableOk n.val (1 - s.fld (F.SRV_LDD_STATUS_BANK n))) = true ∧
      (t.puRec n).selWant = some (1 - s.fld (F.SRV_LDD_STATUS_BANK n)) ∧
      (Table.at {} (t.puRec n).banks (1 - s.fld (F.SRV_LDD_STATUS_BANK n))).held = true ∧
      SameFields [tableOk n.val (1 - s.fld (F.SRV_LDD_STATUS_BANK n))] s t) := by
  generalize bytes : s.buildBank n layer.val = bank at checked
  let b := 1 - s.fld (F.SRV_LDD_STATUS_BANK n)
  let filled (p : PickupRec) : PickupRec := { p with
    banks := Table.put {} p.banks b
      { held := true, layer := layer.val, pw := Table.at [] (s.puRec n).calPw layer.val, pm := Table.at [] (s.puRec n).calPm layer.val }
    selWant := some b }
  let sent := (s.put (tableOk n b) 0).sendBank n b bank
  let loaded := (sent.put (tableOk n b) 1).modPuRec n filled
  have regs : sent.regs = (s.put (tableOk n b) 0).regs := by
    unfold sent State.sendBank
    rw [State.emitAll_plain]
    rw [List.any_map]
    exact List.any_eq_false.mpr fun i _ => by simp [Out.isTlp]
  have gates : (loaded.pickup n).gates ≠ 0 := by
    have kept : loaded.pickups = s.pickups := by
      simp only [loaded, sent, State.sendBank, State.modPuRec_pickups, State.put_pickups, State.emitAll_pickups]
    rw [State.pickup_of_pickups kept]
    exact open_
  have answered : exec (.lddTableLoad n layer crc1 crc2) s = .next (loaded.applySelect n) := by
    change execLddTableLoad n layer crc1 crc2 s = _
    unfold execLddTableLoad
    dsimp only
    rw [if_neg (by simp [up, known]), bytes, if_pos checked, if_pos (.inl checked)]
    rfl
  rw [State.applySelect_waits gates] at answered
  have own : loaded.puRec n = filled (s.puRec n) := by
    unfold loaded
    rw [State.puRec_modPuRec_same, State.puRec_of_recording (s := s) (t := sent.put (tableOk n b) 1)
      (by simp only [sent, State.sendBank, State.put_recording, State.emitAll_recording])]
  refine .of_eq answered ⟨?_, ?_, ?_, ?_⟩
  · refine (State.flag_of_regs (State.modPuRec_regs ..) _).trans (State.flag_put_one sent ?_)
    unfold tableOk
    split <;> exact Nat.zero_lt_one
  · rw [own]
  · rw [own]
    unfold filled
    dsimp only
    rw [Table.at_put_same (α := LddBank)]
  · have ok : SameFields [tableOk n.val b] s sent := SameFields.of_regs ((SameFields.refl _ s).put 0) regs
    exact SameFields.of_regs (t := sent.put (tableOk n b) 1) (ok.put 1) (State.modPuRec_regs ..)

end

/-- Settles O40. -/
theorem laserDriverLinkCommandsComplete : Obligations.LaserDriverLinkCommandsComplete := by
  intro s
  exact ⟨fun n => lddLinkEnable_trains, fun n frame => lddStatusFrame_takes, fun n frame => lddStatusFrame_bad, fun n => lddLinkUp_comesUp,
    fun n up bad shut still enabled powered => .of_eq (if_pos ⟨up, bad⟩) (s.lddLost_spec shut still enabled powered 1),
    fun n up shut still enabled powered => .of_eq (if_pos up) (s.lddLost_spec shut still enabled powered 0),
    fun n layer crc1 crc2 => lddTableLoad_loads⟩

end Sys2Proof.Machine
end

section
/-!
SUPPORT. Motors and groups of the motion block: what an operation on one of them leaves of the others, and how a stop leaves its own.
-/
set_option Elab.async false
namespace Sys2Proof.Machine

theorem ofSigned_lt (w : Nat) (x : Int) : ofSigned w x < 2 ^ w := by
  unfold ofSigned
  have positive : (0 : Int) < (2 ^ w : Nat) := Int.natCast_pos.mpr (Nat.two_pow_pos _)
  rw [Int.toNat_lt (Int.emod_nonneg x (Int.ne_of_gt positive))]
  exact Int.emod_lt_of_pos x positive

/-- Fields of a kind differ by the unit they belong to. -/
theorem Fld.key_ne_of_ix {f g : Fld} (kind : g.id = f.id) (other : g.ix ≠ f.ix) : g.key ≠ f.key := by
  unfold Fld.key
  omega

/-- A field of another number than those listed reads as it did. -/
theorem SameFields.reads {but : List Fld} {s t : State} (h : SameFields but s t) (g : Fld)
    (apart : Shown (but.all fun f => !(g.id % 1024 == f.id % 1024))) : t.fld g = s.fld g :=
  h g fun f listed => Fld.key_ne_of_id (by simpa using List.all_eq_true.mp apart.eq_true f listed)

theorem SameFields.shows {but : List Fld} {s t : State} (h : SameFields but s t) (g : Fld)
    (apart : Shown (but.all fun f => !(g.id % 1024 == f.id % 1024))) : t.flag g = s.flag g := by
  unfold State.flag
  rw [h.reads g apart]

/-- In a run over different things, one of them brings about what those before it do not hinder and those after it do not undo. -/
theorem State.forEach_once {α : Type} {I P : State → Prop} {f : State → α → State} {xs : List α} {x : α} (mem : x ∈ xs) (once : xs.Nodup)
    (keeps : ∀ t, ∀ y ∈ xs, y ≠ x → I t → I (f t y)) (brings : ∀ t, I t → P (f t x)) (each : ∀ t, ∀ y ∈ xs, y ≠ x → P t → P (f t y))
    {s : State} (start : I s) : P (s.forEach xs f) := by
  induction xs generalizing s with
  | nil => exact absurd mem List.not_mem_nil
  | cons y ys ih =>
    obtain ⟨unseen, rest⟩ := List.nodup_cons.mp once
    have tail : ∀ {z}, z ∈ ys → z ∈ y :: ys := List.mem_cons_of_mem y
    rcases List.mem_cons.mp mem with rfl | later
    · exact State.forEach_keeps_of_mem (t := f s x) (brings s start) ys fun t z seen => each t z (tail seen) fun same => unseen (same ▸ seen)
    · exact ih later rest (fun t z seen => keeps t z (tail seen)) (fun t z seen => each t z (tail seen))
        (keeps s y List.mem_cons_self (fun same => unseen (same ▸ later)) start)

section
variable (s : State) (x : Nat)

@[simp] theorem State.motor_modMotor_same (f : Motor → Motor) : (s.modMotor x f).motor x = f (s.motor x) := Table.at_put_same ..

theorem State.motor_setMotor_ne (m : Motor) {y : Nat} (other : y ≠ x) : (s.setMotor x m).motor y = s.motor y := by
  unfold State.motor State.setMotor
  rw [Table.at_put, if_neg other]

theorem State.setMotor_regs (m : Motor) : (s.setMotor x m).regs = s.regs := rfl

theorem State.modMotor_regs (f : Motor → Motor) : (s.modMotor x f).regs = s.regs := rfl

theorem State.motor_of_motors {s t : State} (same : t.motors = s.motors) (x : Nat) : t.motor x = s.motor x := by
  unfold State.motor
  rw [same]

@[simp] theorem State.motor_put (f : Fld) (v : Nat) : (s.put f v).motor x = s.motor x := State.motor_of_motors (State.put_motors ..) x

@[simp] theorem State.motor_setFlag (f : Fld) (b : Bool) : (s.setFlag f b).motor x = s.motor x := State.motor_of_motors (State.setFlag_motors ..) x

@[simp] theorem State.motor_setHome (m v : Nat) : (s.setHome m v).motor x = s.motor x := State.motor_put ..

@[simp] theorem State.motor_raise (f : Fld) (c n : Nat) (p : List Nat) : (s.raise f c n p).motor x = s.motor x :=
  State.motor_of_motors (State.raise_motors ..) x

@[simp] theorem State.motor_raiseMotor (f : Fld) (c k : Nat) : (s.raiseMotor f c k).motor x = s.motor x := State.motor_raise ..

@[simp] theorem State.motor_endMove (h : Option Nat) (fault : Bool) : (s.endMove h fault).motor x = s.motor x :=
  State.motor_of_motors ((State.endMove_frame (.refl (allBut [.motors]) s) h fault (within_of (by decide))) .motors rfl) x

theorem State.finish_regs (h : Nat) (r : CmdResult) : (s.finish h r).regs = s.regs := by
  unfold State.finish
  split
  · rfl
  · split
    · rfl
    · split <;> rfl

theorem State.endMove_regs (h : Option Nat) (fault : Bool) : (s.endMove h fault).regs = s.regs := by
  cases h with
  | none => rfl
  | some h => exact State.finish_regs ..

theorem State.showMotor_same : SameFields [F.MOT_POS_POS x, F.MOT_STATUS_PHASE x] s (s.showMotor x) := ((SameFields.refl _ s).put _).put _

theorem State.fld_showMotor {f : Fld} (pos : f.Apart (F.MOT_POS_POS x)) (phase : f.Apart (F.MOT_STATUS_PHASE x)) :
    (s.showMotor x).fld f = s.fld f := (State.fld_put_apart _ _ phase).trans (State.fld_put_apart _ _ pos)

@[simp] theorem State.group_setGroup_same (y : Group) : (s.setGroup x y).group x = y := Table.at_put_same ..

@[simp] theorem State.group_modGroup_same (f : Group → Group) : (s.modGroup x f).group x = f (s.group x) := Table.at_put_same ..

theorem State.group_setGroup_ne (y : Group) {g : Nat} (other : g ≠ x) : (s.setGroup x y).group g = s.group g := by
  unfold State.group State.setGroup
  rw [Table.at_put, if_neg other]

theorem State.group_of_groups {s t : State} (same : t.groups = s.groups) (g : Nat) : t.group g = s.group g := by
  unfold State.group
  rw [same]

/-- No group in motion carries an axis where none of the three does. -/
theorem State.movingGroup_none {m : Nat} : s.movingGroup m = none ↔ ∀ g < 3, (s.group g).phase ≠ 0 → m ∉ (s.group g).members := by
  unfold State.movingGroup
  simp

theorem State.movingGroup_of_groups {s t : State} (same : t.groups = s.groups) (m : Nat) : t.movingGroup m = s.movingGroup m := by
  unfold State.movingGroup State.group
  rw [same]

end

/-! ## Starts and stops -/

section
variable {s : State} {x : Nat}

/-- A motor that starts is at rest, accelerates, and has a target or a direction (R183, R198). -/
theorem State.runMotor_motor (s : State) (x : Nat) (target : Option Int) (dir : Int) (vmax : Option Nat) :
    (s.runMotor x target dir vmax).motor x = { s.motor x with
      v := 0, phase := 1, dir := target.elim dir fun t => if 0 ≤ posDist (s.motor x).pos t then 1 else -1
      target := target.getD 0, seeking := target.isNone, stopping := false, dec := s.fld (F.MOT_DEC_DEC x), vmax := vmax, fault := false
      reduced := false } := by
  unfold State.runMotor
  cases target <;> exact (State.motor_showMotor ..).trans (State.motor_setMotor_same ..)

theorem State.runMotor_same (s : State) (x : Nat) (target : Option Int) (dir : Int) (vmax : Option Nat) :
    SameFields [F.MOT_POS_POS x, F.MOT_STATUS_PHASE x] s (s.runMotor x target dir vmax) := by
  unfold State.runMotor
  extract_lets m d moved
  have same : SameFields [F.MOT_POS_POS x, F.MOT_STATUS_PHASE x] s moved := SameFields.of_regs (.refl _ s) (State.setMotor_regs ..)
  clear_value moved
  exact (same.put _).put _

theorem State.motor_ungeared (s : State) (x y : Nat) (c : Bool) :
    (s.when c fun s => s.put (F.MOT_GEAR_CTRL_ENGAGE x) 0).motor y = s.motor y := by
  cases c
  · rfl
  · exact State.motor_put ..

theorem State.rings_ungeared (s : State) (x : Nat) (c : Bool) : (s.when c fun s => s.put (F.MOT_GEAR_CTRL_ENGAGE x) 0).rings = s.rings := by
  cases c
  · rfl
  · exact State.put_rings ..

/-- A motor that moves is stopped where it can stop at the deceleration named (R198). -/
theorem State.stopMotor_moving (moving : (s.motor x).phase ≠ 0) (dec : Nat) (fault : Bool) :
    (s.stopMotor x dec fault).motor x = { s.motor x with target := wrapPos ((s.motor x).pos + (s.motor x).dir *
      toUnits (ratio ((s.motor x).v * (s.motor x).v) (2 * (dec : Rat)))), seeking := false, stopping := true, phase := 3, dec := dec
                                                         fault := (s.motor x).fault || fault } := by
  unfold State.stopMotor
  dsimp only
  rw [State.motor_ungeared, if_neg moving, State.motor_showMotor, State.motor_setMotor_same]

/-- It ends no command: that comes with the rest. -/
theorem State.stopMotor_moving_rings (moving : (s.motor x).phase ≠ 0) (dec : Nat) (fault : Bool) :
    (s.stopMotor x dec fault).rings = s.rings := by
  unfold State.stopMotor
  extract_lets ungeared m way
  have motor : ungeared.motor x = s.motor x := State.motor_ungeared ..
  have rings : ungeared.rings = s.rings := State.rings_ungeared ..
  clear_value ungeared
  rw [if_neg (by rw [show m = s.motor x from motor]; exact moving)]
  exact rings

/-- An axis that moves by itself stops by an emergency stop on a fault. -/
theorem State.faultAxis_alone {m : Nat} (alone : s.movingGroup m = none) (moving : (s.motor (16 + m)).phase ≠ 0) :
    s.faultAxis m = s.stopMotor (16 + m) (s.fld (F.MOT_EDEC_EDEC (16 + m))) true := by
  unfold State.faultAxis
  simp only [alone]
  rw [if_neg moving]

end

end Sys2Proof.Machine
end

section
/-!
SUPPORT. A station reset (R521): what it stops first, and that the stations of a list are reset one after another.
-/
set_option Elab.async false
namespace Sys2Proof.Machine

/-- What a reset of a station stops: its commands, the runs and calibrations of its pickups, and the entries that fill. -/
def State.stationStopped (s : State) (st : Nat) : State :=
  let s := s.forEach (s.stationCmds st) (fun s e =>
    if e.2.op = Op.unload ∧ e.2.phase = .admitted then s else s.stopAny e.1 Status.resetAborted)
  let s := s.forEach [2 * st, 2 * st + 1] (fun s n => (s.stopAtBoundary n).abortCal n 2 Status.resetAborted)
  s.dropFilling st

/-- The station counts among those that are reset, and its BUSY bit shows it. -/
def State.resetNoted (s : State) (st : Nat) : State :=
  let s := { s with fw := { s.fw with stationResets := s.fw.stationResets ++ [st] } }
  s.put F.SYS_RESET_STATUS_STN_BUSY (s.fld F.SYS_RESET_STATUS_STN_BUSY ||| 2 ^ st)

theorem State.stationStopped_frame (s : State) (st : Nat) :
    Frame (allBut [.root, .fw, .mbl, .mblRegs, .hpcRegs, .sysRegs]) s (s.stationStopped st) := by
  refine State.dropFilling_frame (State.forEach_frame (State.forEach_frame (.refl _ s) _ _ ?_) _ _ ?_) st (within_of (by decide))
  · intro t e kept
    split
    · exact kept
    · exact State.stopAny_frame kept _ _ (within_of (by decide))
  · intro t n kept
    exact State.abortCal_frame (State.stopAtBoundary_frame kept n (within_of (by decide))) n _ _ (within_of (by decide))

section
variable {s : State} {st : Nat}

theorem State.stationReset_on (on : s.fld (F.HPC_SLOT_STATUS_STATE st) = 4) (unasked : s.fw.stationResets.contains st = false)
    (idle : s.fw.roll = none) : s.stationReset st = (s.stationStopped st).resetNoted st := by
  unfold State.stationReset
  rw [if_neg (by simp [on, (by simpa using unasked : st ∉ s.fw.stationResets)]), idle]
  unfold State.resetNoted State.stationStopped
  dsimp only
  rw [if_neg Bool.false_ne_true]

theorem State.stationReset_fw (on : s.fld (F.HPC_SLOT_STATUS_STATE st) = 4) (unasked : s.fw.stationResets.contains st = false)
    (idle : s.fw.roll = none) : (s.stationReset st).fw = { s.fw with stationResets := s.fw.stationResets ++ [st] } := by
  rw [State.stationReset_on on unasked idle]
  unfold State.resetNoted
  rw [State.put_fw, show (s.stationStopped st).fw = s.fw from s.stationStopped_frame st .fw rfl]

end

theorem State.forEach_stationReset_frame (s : State) (sts : List Nat) :
    Frame (allBut [.root, .mbl, .mblRegs, .hpcRegs]) s (s.forEach sts State.stationReset) :=
  State.forEach_frame (.refl _ s) sts _ fun _ st kept => State.stationReset_frame kept st (within_of (by decide))

/-- Stations that are ON and not reset are all reset. -/
theorem State.forEach_stationReset_fw (sts : List Nat) (distinct : sts.Nodup) : ∀ {s : State}, s.fw.roll = none →
    (∀ st ∈ sts, s.fld (F.HPC_SLOT_STATUS_STATE st) = 4 ∧ st ∉ s.fw.stationResets) →
    (s.forEach sts State.stationReset).fw = { s.fw with stationResets := s.fw.stationResets ++ sts } := by
  induction sts with
  | nil => intro s _ _; simp [State.forEach]
  | cons st sts ih =>
    intro s idle ready
    obtain ⟨fresh, distinct⟩ := List.nodup_cons.mp distinct
    obtain ⟨on, unasked⟩ := ready st (List.mem_cons_self ..)
    have reset := State.stationReset_fw on (by simpa using unasked) idle
    have rest := ih distinct (s := s.stationReset st) (by rw [reset]; exact idle) fun x mem => ?_
    · change ((s.stationReset st).forEach sts State.stationReset).fw = _
      rw [rest, reset]
      simp
    · obtain ⟨xOn, xUnasked⟩ := ready x (List.mem_cons_of_mem _ mem)
      have slots := (State.stationReset_frame (.refl (allBut [.hpcRegs]) s) st (within_of (by decide))) .hpcRegs rfl
      refine ⟨(slots (F.HPC_SLOT_STATUS_STATE x) rfl).trans xOn, ?_⟩
      rw [reset]
      have other : x ≠ st := fun same => fresh (same ▸ mem)
      simp [xUnasked, other]

end Sys2Proof.Machine
end

section
/-!
PROOFS. The motion block's motors: their ticks, starts, stops, writes, gears, homing and inputs (R182–R203).
-/
set_option Elab.async false
namespace Sys2Proof.Machine

/-! ## Starts, stops and writes -/

/-- A motor that may start, away from its target, starts for a command or none. -/
theorem State.startMotor_away {s : State} {x : Nat} (k : Option Nat) (may : s.mayStart x (s.sfld (F.MOT_TARGET_TARGET x)) = true)
    (away : posDist (s.motor x).pos (s.sfld (F.MOT_TARGET_TARGET x) * stepUnit) ≠ 0) :
    s.startMotor x k = (s.modMotor x fun m => { m with cmd := k }).runMotor x (some (s.sfld (F.MOT_TARGET_TARGET x) * stepUnit)) 1 none := by
  unfold State.startMotor
  dsimp only
  rw [if_pos may, if_neg]
  rw [State.runMotor_motor, State.motor_modMotor_same]
  exact away

section
variable {s : State} {x : Fin 28}

theorem motorStart_starts (may : s.mayStart x (s.sfld (F.MOT_TARGET_TARGET x)) = true)
    (away : posDist (s.motor x).pos (s.sfld (F.MOT_TARGET_TARGET x) * stepUnit) ≠ 0) :
    Answers (.motorStart x) s (fun t => (t.motor x).phase = 1 ∧ (t.motor x).v = 0 ∧ (t.motor x).target = s.sfld (F.MOT_TARGET_TARGET x) *
      stepUnit ∧ (t.motor x).dir = (if 0 ≤ posDist (s.motor x).pos (s.sfld (F.MOT_TARGET_TARGET x) * stepUnit) then 1 else -1) ∧ SameFields
      [F.MOT_POS_POS x, F.MOT_STATUS_PHASE x] s t) := by
  have answered : exec (.motorStart x) s = .next ((s.modMotor x fun m => { m with cmd := none }).runMotor x
      (some (s.sfld (F.MOT_TARGET_TARGET x) * stepUnit)) 1 none) :=
    congrArg Host.Outcome.next (State.startMotor_away none may away)
  refine .of_eq answered ?_
  rw [State.runMotor_motor, State.motor_modMotor_same]
  refine ⟨rfl, rfl, rfl, rfl, ?_⟩
  have same : SameFields [F.MOT_POS_POS x, F.MOT_STATUS_PHASE x] s (s.modMotor x fun m => { m with cmd := none }) :=
    SameFields.of_regs (.refl _ s) (State.modMotor_regs ..)
  exact fun g other => (State.runMotor_same _ _ _ _ _ g other).trans (same g other)

theorem motorStart_rejects (may : s.mayStart x (s.sfld (F.MOT_TARGET_TARGET x)) = false) :
    Answers (.motorStart x) s (fun t => t = s.put (F.MOT_STATUS_REJECTED x) 1) := by
  refine .of_eq (t := s.put (F.MOT_STATUS_REJECTED x) 1) ?_ rfl
  change Host.Outcome.next (s.startMotor x none) = _
  unfold State.startMotor
  dsimp only
  rw [if_neg (by rw [may]; decide)]
  rfl

/-- A motor that is no member of a moving group stops by itself (R198). -/
theorem State.rappel_alone (alone : 16 ≤ x.val → s.movingGroup (x.val - 16) = none) (dec : Nat) : s.rappel x dec = s.stopMotor x dec false := by
  unfold State.rappel
  split
  next g carried =>
    split at carried
    next axis => exact absurd ((alone axis).symm.trans carried) (by simp)
    next => exact absurd carried (by simp)
  next => rfl

theorem State.rappel_stops (alone : 16 ≤ x.val → s.movingGroup (x.val - 16) = none) (moving : (s.motor x).phase ≠ 0) (dec : Nat) :
    ((s.rappel x dec).motor x).phase = 3 ∧ ((s.rappel x dec).motor x).stopping = true ∧ ((s.rappel x dec).motor x).dec = dec := by
  rw [State.rappel_alone alone, State.stopMotor_moving moving]
  exact ⟨rfl, rfl, rfl⟩

theorem motorTargetWrite_idle (value : Word) (idle : (s.motor x).phase = 0) :
    Answers (.motorTargetWrite x value) s (fun t => t = s.put (F.MOT_TARGET_TARGET x) value.toNat) := by
  refine .of_eq (t := s.put (F.MOT_TARGET_TARGET x) value.toNat) ?_ rfl
  change execMotorTargetWrite x value s = _
  unfold execMotorTargetWrite
  dsimp only
  rw [if_pos idle]

theorem motorTargetWrite_moving (value : Word) (axis : 16 ≤ x.val) (accel : (s.motor x).phase = 1) (free : (s.motor x).stopping = false)
    (aimed : (s.motor x).seeking = false) (ahead : 0 ≤ (s.motor x).dir * posDist (s.motor x).pos (value.toInt * stepUnit))
    (room : (s.motor x).room (s.motor x).dec ≤ ofUnits ((s.motor x).dir * posDist (s.motor x).pos (value.toInt * stepUnit))) :
    Answers (.motorTargetWrite x value) s (fun t => t.fld (F.MOT_TARGET_TARGET x) = value.toNat ∧ (t.motor x).target = value.toInt *
      stepUnit ∧ SameFields [F.MOT_TARGET_TARGET x] s t) := by
  have unbounded : decide (x.val < 16) = false := decide_eq_false (by omega)
  have answered : exec (.motorTargetWrite x value) s = .next ((s.put (F.MOT_TARGET_TARGET x) value.toNat).setMotor x
      { s.motor x with target := value.toInt * stepUnit }) := by
    change execMotorTargetWrite x value s = _
    unfold execMotorTargetWrite
    dsimp only
    rw [if_neg (by omega), if_pos ⟨free, aimed, by rw [unbounded]; rfl, ahead, room⟩]
  refine .of_eq answered ⟨?_, by rw [State.motor_setMotor_same], ((SameFields.refl _ s).put _).of_regs rfl⟩
  exact (State.fld_of_regs (State.setMotor_regs ..) _).trans (State.fld_put_lt s value.isLt)

theorem motorSpeedWrite_writes (acc : Bool) (value : Word) :
    Answers (.motorSpeedWrite x acc value) s (fun t => t.fld (if acc then F.MOT_ACC_ACC x else F.MOT_VMAX_VMAX x) = value.toNat % 2 ^
      (if acc then F.MOT_ACC_ACC x else F.MOT_VMAX_VMAX x).width ∧ (t.motor x).pos = (s.motor x).pos) := by
  cases acc
  case true => exact .of_eq (t := s.put (F.MOT_ACC_ACC x) value.toNat) rfl ⟨State.fld_put_same .., by rw [State.motor_put]⟩
  case false =>
    refine .of_eq (c := .motorSpeedWrite x false value) rfl ?_
    split
    · refine ⟨?_, by rw [State.motor_showMotor, State.motor_setMotor_same, State.motor_put]⟩
      refine (State.fld_showMotor _ _ ⟨rfl⟩ ⟨rfl⟩).trans ((State.fld_of_regs (State.setMotor_regs ..) _).trans (State.fld_put_same ..))
    · exact ⟨State.fld_put_same .., by rw [State.motor_put]⟩

theorem motorDecWrite_idle (value : Word) (idle : (s.motor x).phase = 0) :
    Answers (.motorDecWrite x value) s (fun t => t = s.put (F.MOT_DEC_DEC x) value.toNat) := by
  refine .of_eq (t := s.put (F.MOT_DEC_DEC x) value.toNat) ?_ rfl
  change execMotorDecWrite x value s = _
  unfold execMotorDecWrite
  dsimp only
  rw [if_pos (.inl idle)]

theorem motorPosSet_shows (value : Word) (idle : (s.motor x).phase = 0) (ungeared : x.val < 16 → s.flag (F.MOT_GEAR_CTRL_ENGAGE x) = false)
    (alone : 16 ≤ x.val → s.movingGroup (x.val - 16) = none) :
    Answers (.motorPosSet x value) s (fun t => (t.motor x).pos = value.toInt * stepUnit ∧ t.fld (F.MOT_POS_POS x) = value.toNat ∧
      SameFields [F.MOT_POS_POS x, F.MOT_STATUS_PHASE x] s t) := by
  have answered : exec (.motorPosSet x value) s = .next ((s.setMotor x
      { s.motor x with pos := value.toInt * stepUnit, emitted := value.toInt }).showMotor x) := by
    change execMotorPosSet x value s = _
    unfold execMotorPosSet
    dsimp only
    rw [if_neg]
    simp only [idle, bne_self_eq_false, Bool.false_or, Bool.or_eq_true, Bool.and_eq_true, decide_eq_true_eq, not_or, not_and]
    exact ⟨fun sled => by simp [ungeared sled], fun axis => by simp [alone axis]⟩
  refine .of_eq answered ⟨?_, ?_, SameFields.put (SameFields.put (SameFields.of_regs (.refl _ s) (State.setMotor_regs ..)) _) _⟩
  · rw [State.motor_showMotor, State.motor_setMotor_same]
  · unfold State.showMotor
    dsimp only
    rw [State.motor_setMotor_same, State.fld_put_apart _ _ ⟨rfl⟩, State.fld_put_same, Int.mul_ediv_cancel _ (by decide), ofSigned_toInt]
    exact Nat.mod_eq_of_lt value.isLt

end

/-! ## Gears of sleds -/

section
variable {s : State} {x : Fin 16}

theorem gearEngage_sets (on : Bool) (idle : (s.motor x).phase = 0) :
    Answers (.gearEngage x on) s (fun t => t.flag (F.MOT_GEAR_CTRL_ENGAGE x) = on ∧ SameFields [F.MOT_GEAR_CTRL_ENGAGE x] s t) := by
  have answered : exec (.gearEngage x on) s = .next ((s.setFlag (F.MOT_GEAR_CTRL_ENGAGE x) on).modMotor x
      (fun m => { m with reduced := m.reduced && !on })) := by
    change Host.Outcome.next (s.setGear x on) = _
    unfold State.setGear
    rw [if_neg (not_not_intro idle)]
  exact .of_eq answered ⟨(State.flag_of_regs (State.modMotor_regs ..) _).trans (State.flag_setFlag_same s on (by exact Nat.zero_lt_one)),
    SameFields.of_regs (SameFields.setFlag (.refl _ s) on) (State.modMotor_regs ..)⟩

theorem gearArm_waits (before : (s.spindle (x / 2)).master < s.gearAt x) :
    Answers (.gearArm x) s (fun t => t.flag (F.MOT_GEAR_CTRL_PENDING x) = true ∧ (t.motor x).reached = false ∧ SameFields
      [F.MOT_GEAR_CTRL_PENDING x] s t) := by
  have same : ((s.put (F.MOT_GEAR_CTRL_PENDING x) 1).modMotor x fun m => { m with lag := 0, reached := false }).gearAt x = s.gearAt x := by
    unfold State.gearAt
    rw [State.fld_of_regs (State.modMotor_regs ..), State.fld_of_regs (State.modMotor_regs ..), State.fld_put_apart _ _ ⟨rfl⟩, State.fld_put_apart _ _ ⟨rfl⟩]
  have answered : exec (.gearArm x) s = .next ((s.put (F.MOT_GEAR_CTRL_PENDING x) 1).modMotor x fun m => { m with lag := 0, reached := false }) := by
    change Host.Outcome.next (s.armGear x) = _
    unfold State.armGear
    dsimp only
    rw [same, if_neg (by omega), if_neg (by omega)]
  exact .of_eq answered ⟨(State.flag_of_regs (State.modMotor_regs ..) _).trans (State.flag_put_one s (by exact Nat.zero_lt_one)),
    by rw [State.motor_modMotor_same], SameFields.of_regs (SameFields.put (.refl _ s) 1) (State.modMotor_regs ..)⟩

/-- A sled moved by its gear keeps the counts that wait, and the fields of its gear. -/
theorem State.nudge_spec (s : State) (x : Nat) (d : Int) :
    ((s.nudge x d).motor x).lag = (s.motor x).lag ∧
      SameFields [F.MOT_POS_POS x, F.MOT_STATUS_PHASE x, F.MOT_STATUS_SOFT_LIMIT x] s (s.nudge x d) := by
  unfold State.nudge
  extract_lets m hi lo p p' moved
  have motor : moved.motor x = { m with pos := wrapPos p' } := (State.motor_showMotor ..).trans (State.motor_setMotor_same ..)
  have same : SameFields [F.MOT_POS_POS x, F.MOT_STATUS_PHASE x, F.MOT_STATUS_SOFT_LIMIT x] s moved :=
    SameFields.put (SameFields.put ((SameFields.refl _ s).of_regs (State.setMotor_regs ..)) _) _
  clear_value moved
  split
  · exact ⟨by rw [motor], same⟩
  · exact ⟨by rw [State.motor_raiseMotor, motor], SameFields.raise same _ _ _⟩

theorem gearChange_changes (pending : s.flag (F.MOT_GEAR_CTRL_PENDING x) = true) (reached : (s.motor x).reached = true) :
    Answers (.gearChange x) s (fun t => t.fld (F.MOT_GEAR_RATIO_RATIO x) = s.fld (F.MOT_GEAR_NEXT_NEXT x) % 2 ^
      (F.MOT_GEAR_RATIO_RATIO x).width ∧ t.flag (F.MOT_GEAR_CTRL_PENDING x) = false ∧ (t.motor x).lag = 0) := by
  refine .of_eq (if_pos ⟨pending, reached⟩) ?_
  unfold State.changeGear
  extract_lets m changed held
  have ratio : held.fld (F.MOT_GEAR_RATIO_RATIO x) = s.fld (F.MOT_GEAR_NEXT_NEXT x) % 2 ^ (F.MOT_GEAR_RATIO_RATIO x).width :=
    (State.fld_of_regs (State.setMotor_regs ..) _).trans ((State.fld_put_apart _ _ ⟨rfl⟩).trans (State.fld_put_same ..))
  have taken : held.flag (F.MOT_GEAR_CTRL_PENDING x) = false := (State.flag_of_regs (State.setMotor_regs ..) _).trans (State.flag_put_zero _)
  have lag : (held.motor x).lag = 0 := by rw [State.motor_setMotor_same]
  clear_value held
  split
  · obtain ⟨kept, same⟩ := held.nudge_spec x (m.lag * held.sfld (F.MOT_GEAR_RATIO_RATIO x))
    exact ⟨(same.reads _ ⟨rfl⟩).trans ratio, (same.shows _ ⟨rfl⟩).trans taken, kept.trans lag⟩
  · exact ⟨ratio, taken, lag⟩

end

/-! ## Homing, inputs and standstill -/

/-- A stopping motor's fields but where it stands and how it moves, and its gear, read as they did. -/
theorem State.stopMotor_moving_same {s : State} {x : Nat} (moving : (s.motor x).phase ≠ 0) (dec : Nat) (fault : Bool) :
    SameFields [F.MOT_GEAR_CTRL_ENGAGE x, F.MOT_POS_POS x, F.MOT_STATUS_PHASE x] s (s.stopMotor x dec fault) := by
  unfold State.stopMotor
  extract_lets ungeared m way
  have same : SameFields [F.MOT_GEAR_CTRL_ENGAGE x, F.MOT_POS_POS x, F.MOT_STATUS_PHASE x] s ungeared :=
    SameFields.whenever (.refl _ s) fun u same => same.put 0
  have motor : ungeared.motor x = s.motor x := State.motor_ungeared ..
  clear_value ungeared
  rw [if_neg (by rw [show m = s.motor x from motor]; exact moving)]
  exact SameFields.put (SameFields.put (same.of_regs (State.setMotor_regs ..)) _) _

section
variable {s : State} {m : Fin 12}

theorem motorHome_seeks (idle : s.homeState m = Home.idle) (rest : (s.motor (16 + m.val)).phase = 0) (alone : s.movingGroup m = none)
    (unlimited : s.flag (F.MOT_STATUS_LIMIT (16 + m.val)) = false) (armed : s.flag F.MOT_ESTOP_ACTIVE = false) :
    Answers (.motorHome m) s (fun t => t.homeState m = Home.seek ∧ (t.motor (16 + m.val)).seeking = true ∧ (t.motor (16 + m.val)).dir =
      s.homeDir m ∧ (t.motor (16 + m.val)).vmax = some (s.fld (F.MOT_HOME_VFAST_V m))) := by
  have answered : exec (.motorHome m) s = .next (((s.setHome m Home.seek).modMotor (16 + m.val)
      fun y => { y with homeFrom := y.pos, cmd := none }).runMotor (16 + m.val) none
      (((s.setHome m Home.seek).modMotor (16 + m.val) fun y => { y with homeFrom := y.pos, cmd := none }).homeDir m)
      (some (((s.setHome m Home.seek).modMotor (16 + m.val) fun y => { y with homeFrom := y.pos, cmd := none }).fld (F.MOT_HOME_VFAST_V m)))) := by
    change Host.Outcome.next (s.startHoming m none) = _
    unfold State.startHoming
    dsimp only
    rw [if_pos ⟨idle, rest, by rw [alone]; rfl, unlimited, armed⟩]
  have home : ((s.setHome m Home.seek).modMotor (16 + m.val) fun y => { y with homeFrom := y.pos, cmd := none }).fld
      (F.MOT_STATUS_HOME_STATE (16 + m.val)) = Home.seek := (State.fld_of_regs (State.modMotor_regs ..) _).trans (State.fld_put_fits _ ⟨rfl⟩)
  have others : SameFields [F.MOT_STATUS_HOME_STATE (16 + m.val)] s
      ((s.setHome m Home.seek).modMotor (16 + m.val) fun y => { y with homeFrom := y.pos, cmd := none }) :=
    SameFields.of_regs (SameFields.put (.refl _ s) _) (State.modMotor_regs ..)
  generalize (s.setHome m Home.seek).modMotor (16 + m.val) (fun y => { y with homeFrom := y.pos, cmd := none }) = u at *
  refine .of_eq answered ?_
  rw [State.runMotor_motor, others.reads (F.MOT_HOME_VFAST_V m) ⟨rfl⟩]
  refine ⟨(SameFields.reads (State.runMotor_same _ _ _ _ _) _ ⟨rfl⟩).trans home, rfl, ?_, rfl⟩
  unfold State.homeDir
  rw [others.shows _ ⟨rfl⟩]
  rfl

theorem homeFaultClear_clears (failed : s.homeState m = Home.fault) :
    Answers (.homeFaultClear m) s (fun t => t.flag (F.MOT_STATUS_HOME_FAULT (16 + m.val)) = false ∧ t.homeState m = Home.idle ∧ SameFields
      [F.MOT_STATUS_HOME_FAULT (16 + m.val), F.MOT_STATUS_HOME_STATE (16 + m.val)] s t) := by
  have answered : exec (.homeFaultClear m) s = .next ((s.put (F.MOT_STATUS_HOME_FAULT (16 + m.val)) 0).setHome m Home.idle) := by
    change execHomeFaultClear m s = _
    unfold execHomeFaultClear
    dsimp only
    have still : (s.put (F.MOT_STATUS_HOME_FAULT (16 + m.val)) 0).homeState m = Home.fault :=
      (State.fld_put_apart (g := F.MOT_STATUS_HOME_STATE (16 + m.val)) s 0 ⟨rfl⟩).trans failed
    rw [if_pos still]
  exact .of_eq answered ⟨(State.flag_put_apart _ _ ⟨rfl⟩).trans (State.flag_put_zero s), State.fld_put_fits _ ⟨rfl⟩,
    SameFields.put (SameFields.put (.refl _ s) 0) _⟩

theorem limitQualified_inactive (positive : Bool) (edge : Int) :
    Answers (.limitQualified m positive false edge) s (fun t => t = s.put (if positive then F.MOT_INPUTS_LIMP m else F.MOT_INPUTS_LIMN m) 0) :=
  .of_eq (t := s.setFlag (if positive then F.MOT_INPUTS_LIMP m else F.MOT_INPUTS_LIMN m) false) rfl rfl

theorem limitQualified_stops (edge : Int) (idle : s.homeState m = Home.idle) (alone : s.movingGroup m = none)
    (moving : (s.motor (16 + m.val)).phase ≠ 0) (toward : 0 < (s.motor (16 + m.val)).dir) :
    Answers (.limitQualified m true true edge) s (fun t => t.flag (F.MOT_INPUTS_LIMP m) = true ∧ t.flag (F.MOT_STATUS_LIMIT (16 + m.val)) =
      true ∧ (t.motor (16 + m.val)).stopping = true ∧ (t.motor (16 + m.val)).dec = s.fld (F.MOT_EDEC_EDEC (16 + m.val)) ∧ (t.motor (16 +
      m.val)).fault = true) := by
  let t := (s.setFlag (F.MOT_INPUTS_LIMP m) true).raiseMotor (F.MOT_STATUS_LIMIT (16 + m.val)) 0x0401 (16 + m.val)
  have answered : exec (.limitQualified m true true edge) s = .next (t.stopMotor (16 + m.val) (t.fld (F.MOT_EDEC_EDEC (16 + m.val))) true) := by
    have home : (s.setFlag (F.MOT_INPUTS_LIMP m) true).homeState m = Home.idle :=
      (State.fld_setFlag_apart (g := F.MOT_STATUS_HOME_STATE (16 + m.val)) s true ⟨rfl⟩).trans idle
    have group : (s.setFlag (F.MOT_INPUTS_LIMP m) true).movingGroup m = none := (State.movingGroup_of_groups (State.setFlag_groups ..) m).trans alone
    have later : t.movingGroup m = none := (State.movingGroup_of_groups (State.raise_groups ..) m).trans group
    have motor : t.motor (16 + m.val) = s.motor (16 + m.val) := (State.motor_raiseMotor ..).trans (State.motor_setFlag ..)
    change execLimitQualified m true true edge s = _
    unfold execLimitQualified
    dsimp only
    rw [if_neg (by decide)]
    simp only [if_true]
    rw [home, if_neg (by decide)]
    simp only [group, State.motor_setFlag, if_neg moving]
    rw [if_pos (.inl ⟨trivial, toward⟩), ← State.faultAxis_alone later (by rw [motor]; exact moving)]
  have limit : t.flag (F.MOT_STATUS_LIMIT (16 + m.val)) = true := State.flag_raise_same _ _ _ _ ⟨rfl⟩
  have input : t.flag (F.MOT_INPUTS_LIMP m) = true := (State.flag_raise_apart _ _ _ _ ⟨rfl⟩).trans (State.flag_setFlag_same s true (by exact Nat.zero_lt_one))
  have edec : t.fld (F.MOT_EDEC_EDEC (16 + m.val)) = s.fld (F.MOT_EDEC_EDEC (16 + m.val)) :=
    (State.fld_raise_apart _ _ _ _ ⟨rfl⟩).trans (State.fld_setFlag_apart s true ⟨rfl⟩)
  have motor : t.motor (16 + m.val) = s.motor (16 + m.val) := (State.motor_raiseMotor ..).trans (State.motor_setFlag ..)
  clear_value t
  have same := State.stopMotor_moving_same (by rw [motor]; exact moving) (t.fld (F.MOT_EDEC_EDEC (16 + m.val))) true
  refine .of_eq answered ⟨(same.shows _ ⟨rfl⟩).trans input, (same.shows _ ⟨rfl⟩).trans limit, ?_⟩
  rw [State.stopMotor_moving (by rw [motor]; exact moving), edec]
  exact ⟨rfl, rfl, Bool.or_true _⟩

theorem homeQualified_stops (edge : Int) (switch : s.flag (F.MOT_AX_CFG_HOME_ON_LIMIT m) = false) (seek : s.homeState m = Home.seek)
    (moving : (s.motor (16 + m.val)).phase ≠ 0) :
    Answers (.homeQualified m true edge) s (fun t => t.flag (F.MOT_INPUTS_HOME m) = true ∧ t.homeState m = Home.stopping ∧ t.fld
      (F.MOT_CAPTURE_POS m) = ofSigned 32 edge ∧ (t.motor (16 + m.val)).stopping = true) := by
  let t := ((s.setFlag (F.MOT_INPUTS_HOME m) true).captureAt m edge).setHome m Home.stopping
  have answered : exec (.homeQualified m true edge) s = .next (t.stopMotor (16 + m.val)
      ((s.setFlag (F.MOT_INPUTS_HOME m) true).fld (F.MOT_DEC_DEC (16 + m.val))) false) := by
    have home : (s.setFlag (F.MOT_INPUTS_HOME m) true).homeState m = Home.seek :=
      (State.fld_setFlag_apart (g := F.MOT_STATUS_HOME_STATE (16 + m.val)) s true ⟨rfl⟩).trans seek
    change execHomeQualified m true edge s = _
    unfold execHomeQualified
    dsimp only
    rw [if_pos ⟨rfl, (State.flag_setFlag_apart s true ⟨rfl⟩).trans switch⟩]
    unfold State.homeReference
    simp only [home]
    rfl
  have input : t.flag (F.MOT_INPUTS_HOME m) = true :=
    (State.flag_put_apart _ _ ⟨rfl⟩).trans ((State.flag_of_regs (State.modMotor_regs ..) _).trans
      ((State.flag_put_apart _ _ ⟨rfl⟩).trans (State.flag_setFlag_same s true (by exact Nat.zero_lt_one))))
  have home : t.fld (F.MOT_STATUS_HOME_STATE (16 + m.val)) = Home.stopping := State.fld_put_fits _ ⟨rfl⟩
  have captured : t.fld (F.MOT_CAPTURE_POS m) = ofSigned 32 edge :=
    (State.fld_put_apart _ _ ⟨rfl⟩).trans ((State.fld_of_regs (State.modMotor_regs ..) _).trans (State.fld_put_lt _ (ofSigned_lt 32 edge)))
  have motor : (t.motor (16 + m.val)).phase ≠ 0 := by
    rw [State.motor_setHome]
    unfold State.captureAt
    rw [State.motor_modMotor_same, State.motor_put, State.motor_setFlag]
    exact moving
  clear_value t
  have same := State.stopMotor_moving_same motor ((s.setFlag (F.MOT_INPUTS_HOME m) true).fld (F.MOT_DEC_DEC (16 + m.val))) false
  refine .of_eq answered ⟨(same.shows _ ⟨rfl⟩).trans input, (same.reads _ ⟨rfl⟩).trans home, (same.reads _ ⟨rfl⟩).trans captured, ?_⟩
  rw [State.stopMotor_moving motor]

theorem encoderEdge_counts : Answers (.encoderEdge m .up) s (fun t => t = s.sput (F.MOT_ENC_COUNT m) (s.sfld (F.MOT_ENC_COUNT m) + 1)) :=
  .of_eq (t := s.sput (F.MOT_ENC_COUNT m) (s.sfld (F.MOT_ENC_COUNT m) + 1)) rfl rfl

theorem encoderEdge_fails :
    Answers (.encoderEdge m .both) s (fun t => t.flag (F.MOT_STATUS_ENC_ERR (16 + m.val)) = true ∧ SameFields
      [F.MOT_STATUS_ENC_ERR (16 + m.val)] s t) :=
  .of_eq (t := s.raiseMotor (F.MOT_STATUS_ENC_ERR (16 + m.val)) 0x0405 (16 + m.val)) rfl
    ⟨State.flag_raise_same _ _ _ _ ⟨rfl⟩, (SameFields.refl _ s).raise _ _ _⟩

theorem sledStandstill_reduces {x : Fin 16} (rest : (s.motor x).phase = 0) (ungeared : s.flag (F.MOT_GEAR_CTRL_ENGAGE x) = false) :
    Answers (.sledStandstill x) s (fun t => t = s.setMotor x { s.motor x with reduced := true }) :=
  .of_eq (t := s.setMotor x { s.motor x with reduced := true }) (if_pos ⟨rest, ungeared⟩) rfl

theorem axisHoldReduce_reduces (rest : (s.motor (16 + m.val)).phase = 0) (alone : s.movingGroup m = none) :
    Answers (.axisHoldReduce m) s (fun t => t = s.setMotor (16 + m.val) { s.motor (16 + m.val) with reduced := true }) :=
  .of_eq (t := s.setMotor (16 + m.val) { s.motor (16 + m.val) with reduced := true }) (if_pos ⟨rest, by rw [alone]; rfl⟩) rfl

end

/-! ## A tick -/

/-- The fields that a tick or an emergency stop reads of an axis: its limits, its homing, whether it has an encoder. -/
def tickFields (m : Nat) : List Fld :=
  [F.MOT_VMAX_VMAX (16 + m), F.MOT_ACC_ACC (16 + m), F.MOT_VMIN_VMIN (16 + m), F.MOT_STATUS_HOME_STATE (16 + m), F.MOT_AX_CFG_ENC_EN m,
    F.MOT_EDEC_EDEC (16 + m), F.MOT_ESTOP_ACTIVE]

/-- Their kinds. -/
def tickKinds : List Nat := (tickFields 0).map Fld.kind

theorem tickFields_kind {m : Nat} {f : Fld} (read : f ∈ tickFields m) : f.group = .motRegs ∧ f.kind ∈ tickKinds := by
  simp only [tickFields, List.mem_cons, List.not_mem_nil, or_false] at read
  rcases read with rfl | rfl | rfl | rfl | rfl | rfl | rfl <;> exact ⟨rfl, List.contains_iff_mem.mp rfl⟩

/-- What the rest of a tick leaves of an axis: its motor, what the tick reads of it, and which groups in motion carry which axes. -/
structure AxisHeld (m : Nat) (s t : State) : Prop where
  motor : t.motor (16 + m) = s.motor (16 + m)
  fld : ∀ f ∈ tickFields m, t.fld f = s.fld f
  moving : ∀ g, (t.group g).phase = 0 ↔ (s.group g).phase = 0
  members : ∀ g, (t.group g).members = (s.group g).members

namespace AxisHeld

variable {m x : Nat} {s t u : State}

theorem refl (m : Nat) (s : State) : AxisHeld m s s := ⟨rfl, fun _ _ => rfl, fun _ => Iff.rfl, fun _ => rfl⟩

theorem of_frame (h : AxisHeld m s t) (frame : Frame (allBut [.motors, .motRegs, .groups]) t u) : AxisHeld m s u where
  motor := (State.motor_of_motors (frame .motors rfl) _).trans h.motor
  fld f read := (frame .motRegs rfl f (tickFields_kind read).1).trans (h.fld f read)
  moving g := by rw [State.group_of_groups (frame .groups rfl)]; exact h.moving g
  members g := by rw [State.group_of_groups (frame .groups rfl)]; exact h.members g

theorem putOther {f : Fld} (h : AxisHeld m s t) (v : Nat) (unread : ∀ g ∈ tickFields m, g.key ≠ f.key) : AxisHeld m s (t.put f v) where
  motor := (State.motor_put ..).trans h.motor
  fld g read := (State.fld_put_ne _ _ (unread g read)).trans (h.fld g read)
  moving g := by rw [State.group_of_groups (State.put_groups ..)]; exact h.moving g
  members g := by rw [State.group_of_groups (State.put_groups ..)]; exact h.members g

theorem put {f : Fld} (h : AxisHeld m s t) (v : Nat) (unread : Shown (!tickKinds.contains f.kind) := by exact ⟨rfl⟩) :
    AxisHeld m s (t.put f v) := by
  refine h.putOther v fun g read => Fld.key_ne_of_id ?_
  rw [beq_eq_false_iff_ne]
  intro same
  have out := unread.eq_true
  rw [show f.kind = g.kind from same.symm, List.contains_iff_mem.mpr (tickFields_kind read).2] at out
  exact absurd out (by decide)

theorem setHome {k : Nat} (h : AxisHeld m s t) (other : m ≠ k) (v : Nat) : AxisHeld m s (t.setHome k v) := by
  refine h.putOther v fun g read => ?_
  simp only [tickFields, List.mem_cons, List.not_mem_nil, or_false] at read
  rcases read with rfl | rfl | rfl | rfl | rfl | rfl | rfl
  case inr.inr.inr.inl => exact Fld.key_ne_of_ix rfl (fun same => other (Nat.add_left_cancel same))
  all_goals exact Fld.key_ne_of_id rfl

theorem raise {f : Fld} (h : AxisHeld m s t) (c n : Nat) (p : List Nat) (unread : Shown (!tickKinds.contains f.kind) := by exact ⟨rfl⟩) :
    AxisHeld m s (t.raise f c n p) := by
  unfold State.raise
  split
  · exact h
  · exact (h.put 1 unread).of_frame (State.post_frame (.refl (allBut [.motors, .motRegs, .groups]) _) _ _ _ (within_of (by decide)))

theorem raiseMotor {f : Fld} (h : AxisHeld m s t) (c k : Nat) (unread : Shown (!tickKinds.contains f.kind) := by exact ⟨rfl⟩) :
    AxisHeld m s (t.raiseMotor f c k) := h.raise _ _ _ unread

theorem whenever {c : Bool} {op : State → State} (h : AxisHeld m s t) (each : ∀ u, AxisHeld m s u → AxisHeld m s (op u)) :
    AxisHeld m s (t.when c op) := by
  cases c
  · exact h
  · exact each t h

theorem setMotor (h : AxisHeld m s t) (other : 16 + m ≠ x) (y : Motor) : AxisHeld m s (t.setMotor x y) where
  motor := (State.motor_setMotor_ne _ _ _ other).trans h.motor
  fld f read := (State.fld_of_regs (State.setMotor_regs ..) f).trans (h.fld f read)
  moving := h.moving
  members := h.members

theorem setGroup (h : AxisHeld m s t) {g : Nat} {y : Group} (moving : y.phase = 0 ↔ (t.group g).phase = 0)
    (members : y.members = (t.group g).members) : AxisHeld m s (t.setGroup g y) where
  motor := h.motor
  fld f read := h.fld f read
  moving k := by
    by_cases same : k = g
    · subst same
      rw [State.group_setGroup_same]
      exact moving.trans (h.moving k)
    · rw [State.group_setGroup_ne _ _ _ same]
      exact h.moving k
  members k := by
    by_cases same : k = g
    · subst same
      rw [State.group_setGroup_same]
      exact members.trans (h.members k)
    · rw [State.group_setGroup_ne _ _ _ same]
      exact h.members k

theorem showMotor (h : AxisHeld m s t) (x : Nat) : AxisHeld m s (t.showMotor x) := (h.put _).put _

theorem endMove (h : AxisHeld m s t) (c : Option Nat) (fault : Bool) : AxisHeld m s (t.endMove c fault) :=
  h.of_frame (State.endMove_frame (.refl _ t) c fault (within_of (by decide)))

theorem nudge (h : AxisHeld m s t) (other : 16 + m ≠ x) (d : Int) : AxisHeld m s (t.nudge x d) := by
  unfold State.nudge
  extract_lets y hi lo p p' moved
  have held : AxisHeld m s moved := (h.setMotor other _).showMotor x
  clear_value moved
  split
  · exact held
  · exact held.raiseMotor _ _

theorem gearCounts (h : AxisHeld m s t) (other : 16 + m ≠ x) (before n : Int) : AxisHeld m s (t.gearCounts x before n) := by
  unfold State.gearCounts
  extract_lets y at_ ratioOf eng crosses reached
  have held : AxisHeld m s reached := h.setMotor other _
  clear_value reached
  split
  · split
    · exact h.nudge other _
    · exact h
  split
  · exact h.setMotor other _
  split
  · split
    · exact held.nudge other _
    · exact held
  · split
    · exact h.nudge other _
    · exact h

/-- A station's angle moves its sleds alone. -/
theorem followAngle (h : AxisHeld m s t) {st : Nat} (station : st < 8) (angle : Nat) : AxisHeld m s (t.followAngle st angle) := by
  unfold State.followAngle
  extract_lets p shown n master counted
  have held : ∀ y, AxisHeld m s (shown.setSpindle st y) := fun y =>
    (h.put _).of_frame (State.setSpindle_frame (.refl _ shown) st y (within_of (by decide)))
  clear_value shown
  split
  · exact held _
  · refine State.forEach_keeps_of_mem (held _) _ fun u x sled stays => ?_
    have other : 16 + m ≠ x := by
      simp only [List.mem_cons, List.not_mem_nil, or_false] at sled
      omega
    exact ((stays.put _).put _).gearCounts other _ _

theorem advanceAngle (h : AxisHeld m s t) {st : Nat} (station : st < 8) : AxisHeld m s (t.advanceAngle st) := by
  unfold State.advanceAngle
  extract_lets p
  split
  · exact h
  · split
    · exact h
    · exact h.followAngle station _

theorem deliverRequest (h : AxisHeld m s t) (other : 16 + m ≠ x) : AxisHeld m s (t.deliverRequest x) := by
  unfold State.deliverRequest
  extract_lets y k sum n counted
  have held : AxisHeld m s counted := h.setMotor other _
  clear_value counted
  split
  · exact held
  · exact held.nudge other _

theorem motorRest (h : AxisHeld m s t) (other : 16 + m ≠ x) : AxisHeld m s (t.motorRest x) := by
  unfold State.motorRest
  exact ((h.setMotor other _).put 1).endMove _ _

theorem stopMotor (h : AxisHeld m s t) (other : 16 + m ≠ x) (dec : Nat) (fault : Bool) : AxisHeld m s (t.stopMotor x dec fault) := by
  unfold State.stopMotor
  extract_lets ungeared y way
  have held : AxisHeld m s ungeared := h.whenever fun u stays => stays.put 0
  clear_value ungeared
  split
  · exact held.motorRest other
  · exact (held.setMotor other _).showMotor x

theorem brakeGroup (h : AxisHeld m s t) (g : Nat) (dec : Rat) (fault : Bool) : AxisHeld m s (t.brakeGroup g dec fault) := by
  unfold State.brakeGroup
  extract_lets y goal
  split
  · exact h
  next still => exact h.setGroup ⟨fun braked => absurd braked (Nat.succ_ne_zero 2), fun rest => absurd rest still⟩ rfl

theorem groupFault (h : AxisHeld m s t) (g : Nat) : AxisHeld m s (t.groupFault g) := by
  unfold State.groupFault
  extract_lets y braked stopped blended emptied shown drained
  split
  · exact h
  · clear_value blended
    have held : AxisHeld m s braked := h.brakeGroup ..
    clear_value braked
    have held : AxisHeld m s stopped := held.raise _ _ _
    clear_value stopped
    have held : AxisHeld m s emptied := held.setGroup Iff.rfl rfl
    clear_value emptied
    have held : AxisHeld m s shown := held.put 0
    clear_value shown
    have ended : AxisHeld m s drained := held.whenever fun u stays => stays.raise _ _ _
    clear_value drained
    refine State.forEach_keeps ended _ fun u e stays => ?_
    split
    · exact stays.of_frame (State.finish_frame (.refl _ u) _ _ (within_of (by decide)))
    · exact stays

theorem faultAxis (h : AxisHeld m s t) {k : Nat} (other : m ≠ k) : AxisHeld m s (t.faultAxis k) := by
  unfold State.faultAxis
  split
  · exact h.groupFault _
  · split
    · exact h
    · exact h.stopMotor (by omega) _ _

theorem followCheck (h : AxisHeld m s t) {k : Nat} (other : m ≠ k) : AxisHeld m s (t.followCheck k) := by
  unfold State.followCheck
  extract_lets x enc
  split
  · exact h
  · split
    · exact AxisHeld.faultAxis (h.raiseMotor _ _) other
    · exact h

theorem restHoming (h : AxisHeld m s t) (other : 16 + m ≠ x) : AxisHeld m s (t.restHoming x) := (h.setMotor other _).put 1

theorem motorStep (h : AxisHeld m s t) (other : 16 + m ≠ x) : AxisHeld m s (t.motorStep x) := by
  unfold State.motorStep
  extract_lets y d vmax r step arrived pos moved
  have held : AxisHeld m s moved := (h.setMotor other _).showMotor x
  clear_value moved
  split
  · split
    · exact (held.restHoming other).showMotor x
    · exact (held.motorRest other).showMotor x
  · exact held

theorem alone (h : AxisHeld m s t) (free : s.movingGroup m = none) : t.movingGroup m = none := by
  rw [State.movingGroup_none] at free ⊢
  intro g three moves
  rw [h.members g]
  exact free g three fun rest => moves ((h.moving g).mpr rest)

theorem homingFault (h : AxisHeld m s t) {k : Nat} (other : m ≠ k) (dec : Option Nat) : AxisHeld m s (t.homingFault k dec) := by
  unfold State.homingFault
  extract_lets x failed raised
  have held : AxisHeld m s raised := (h.setHome other _).raiseMotor _ _
  clear_value raised
  have apart : 16 + m ≠ x := fun same => other (Nat.add_left_cancel same)
  split
  · exact held.stopMotor apart _ _
  · exact (held.setMotor apart _).motorRest apart

theorem runMotor (h : AxisHeld m s t) (other : 16 + m ≠ x) (target : Option Int) (dir : Int) (vmax : Option Nat) :
    AxisHeld m s (t.runMotor x target dir vmax) := by
  unfold State.runMotor
  extract_lets y d moved
  exact (h.setMotor other _).showMotor x

theorem homeTick (h : AxisHeld m s t) {k : Nat} (other : m ≠ k) : AxisHeld m s (t.homeTick k) := by
  have apart : 16 + m ≠ 16 + k := fun same => other (Nat.add_left_cancel same)
  unfold State.homeTick
  extract_lets x y rest dir done c
  split
  · split
    · exact h.homingFault other _
    · exact h
  · split
    · exact (h.setHome other _).runMotor apart _ _ _
    · exact h
  · split
    · split
      · exact h.homingFault other _
      · exact ((h.setHome other _).setMotor apart _).runMotor apart _ _ _
    · exact h
  · split
    · exact h.homingFault other _
    · exact h
  · have held : AxisHeld m s done := (h.setHome other _).raiseMotor _ _
    clear_value done
    split
    · exact (held.setMotor apart _).endMove _ _
    · exact h
  · exact h

theorem homeState (h : AxisHeld m s t) : t.homeState m = s.homeState m := h.fld _ (by simp [tickFields])

end AxisHeld

/-- An axis out of homing is left alone. -/
theorem State.homeTick_idle {s : State} {m : Nat} (idle : s.homeState m = Home.idle) : s.homeTick m = s := by
  unfold State.homeTick
  simp only [idle]

/-- An axis without an encoder is not compared with one. -/
theorem State.followCheck_blind {s : State} {m : Nat} (blind : s.flag (F.MOT_AX_CFG_ENC_EN m) = false) : s.followCheck m = s := by
  unfold State.followCheck
  exact if_pos blind

/-! ## Groups in a tick -/

/-- What the work of one group leaves: the other groups, and the motor of an axis that it does not carry. -/
structure GroupPassed (g m : Nat) (s t : State) : Prop where
  others : ∀ k, k ≠ g → t.group k = s.group k
  motor : t.motor (16 + m) = s.motor (16 + m)

namespace GroupPassed

variable {g m : Nat} {s t u : State}

theorem refl (g m : Nat) (s : State) : GroupPassed g m s s := ⟨fun _ _ => rfl, rfl⟩

theorem of_frame (h : GroupPassed g m s t) (frame : Frame (allBut [.groups, .motors]) t u) : GroupPassed g m s u :=
  ⟨fun k other => (State.group_of_groups (frame .groups rfl) k).trans (h.others k other),
    (State.motor_of_motors (frame .motors rfl) _).trans h.motor⟩

theorem put (h : GroupPassed g m s t) (f : Fld) (v : Nat) : GroupPassed g m s (t.put f v) :=
  ⟨fun k other => (State.group_of_groups (State.put_groups ..) k).trans (h.others k other), (State.motor_put ..).trans h.motor⟩

theorem raise (h : GroupPassed g m s t) (f : Fld) (c n : Nat) (p : List Nat) : GroupPassed g m s (t.raise f c n p) :=
  ⟨fun k other => (State.group_of_groups (State.raise_groups ..) k).trans (h.others k other), (State.motor_raise ..).trans h.motor⟩

theorem setGroup (h : GroupPassed g m s t) (y : Group) : GroupPassed g m s (t.setGroup g y) :=
  ⟨fun k other => (State.group_setGroup_ne _ _ _ other).trans (h.others k other), h.motor⟩

theorem modMotor (h : GroupPassed g m s t) {k : Nat} (other : m ≠ k) (f : Motor → Motor) : GroupPassed g m s (t.modMotor (16 + k) f) :=
  ⟨h.others, (State.motor_setMotor_ne _ _ _ (fun same => other (Nat.add_left_cancel same))).trans h.motor⟩

theorem groupRest (h : GroupPassed g m s t) : GroupPassed g m s (t.groupRest g) := by
  unfold State.groupRest
  extract_lets y rested shown done
  have held : GroupPassed g m s shown := State.forEach_keeps (h.setGroup _) _ fun u m stays => stays.put _ _
  clear_value shown
  exact (held.put _ _).of_frame (State.endMove_frame (.refl _ _) _ _ (within_of (by decide)))

theorem nextSegment (h : GroupPassed g m s t) (v : Rat) : GroupPassed g m s (t.nextSegment g v) := by
  unfold State.nextSegment
  extract_lets y
  split
  · exact h
  · unfold State.beginLine
    extract_lets queued starts deltas len z begun
    have held : GroupPassed g m s begun := ((h.setGroup _).put _ _).setGroup _
    clear_value begun
    split
    · exact held.groupRest
    · exact held

theorem admitSegments (h : GroupPassed g m s t) : GroupPassed g m s (t.admitSegments g) := by
  unfold State.admitSegments
  refine State.forEach_keeps h _ fun u e stays => ?_
  extract_lets c y ms targets starts queued shown
  split
  · exact ((stays.setGroup _).put _ _).of_frame (State.finish_frame (.refl _ _) _ _ (within_of (by decide)))
  · exact stays

/-- A group's tick moves its members alone. -/
theorem groupTick (uncarried : (s.group g).phase ≠ 0 → m ∉ (s.group g).members) : GroupPassed g m s (s.groupTick g) := by
  unfold State.groupTick
  extract_lets y stopping left phase
  split
  · split
    · exact .refl ..
    · exact ((GroupPassed.refl g m s).nextSegment _).admitSegments
  next moves =>
    obtain ⟨vmax, acc, decel, vmin⟩ := s.groupLimits g
    dsimp -zeta only
    extract_lets dec endSpeed through seen r move path atEnd frac advanced shown rested
    clear_value r path atEnd frac
    have held : GroupPassed g m s advanced := (GroupPassed.refl g m s).setGroup _
    clear_value advanced
    have held : GroupPassed g m s shown := by
      refine State.forEach_keeps_of_mem held _ fun u e member stays => ?_
      have other : m ≠ e.1 := fun same => uncarried moves (same ▸ (List.of_mem_zip member).1)
      exact ((stays.modMotor other _).put _ _).put _ _
    clear_value shown
    split
    · split
      · exact (held.nextSegment _).admitSegments
      · have rest : GroupPassed g m s rested := held.groupRest
        clear_value rested
        unfold State.when
        split
        · exact rest.raise _ _ _ _
        · exact rest
    · exact held

end GroupPassed

/-! ## The tick of an axis in a move of its own (R183) -/

/-- The motor after a step of its profile. -/
def Motor.stepped (y : Motor) (phase : Nat) (v d : Rat) : Motor := { y with pos := wrapPos (y.pos + y.dir * toUnits d), phase := phase, v := v }

/-- A move of its own: what the profile rule says of the next step, short of the target. -/
structure OwnMove (s : State) (m phase : Nat) (v d : Rat) : Prop where
  aimed : (s.motor (16 + m)).seeking = false
  unslowed : (s.motor (16 + m)).vmax = none
  rule : profileStep (s.fld (F.MOT_VMAX_VMAX (16 + m)) : Rat) (s.fld (F.MOT_ACC_ACC (16 + m)) : Rat) ((s.motor (16 + m)).dec : Rat)
    (s.fld (F.MOT_VMIN_VMIN (16 + m)) : Rat) (ofUnits ((posDist (s.motor (16 + m)).pos (s.motor (16 + m)).target).natAbs : Int))
    (s.motor (16 + m)).stopping (s.motor (16 + m)).phase (s.motor (16 + m)).v = (phase, v, d)
  short : d < ofUnits ((posDist (s.motor (16 + m)).pos (s.motor (16 + m)).target).natAbs : Int)

section
variable {s : State} {m phase : Nat} {v d : Rat}

theorem OwnMove.motorStep (own : OwnMove s m phase v d) :
    s.motorStep (16 + m) = (s.setMotor (16 + m) ((s.motor (16 + m)).stepped phase v d)).showMotor (16 + m) := by
  unfold State.motorStep
  simp only [own.aimed, own.unslowed, own.rule, Bool.false_eq_true, if_false]
  rw [decide_eq_false (Rat.not_le.mpr own.short), if_neg Bool.false_ne_true, if_neg Bool.false_ne_true]
  unfold Motor.stepped
  rw [own.aimed, own.unslowed]

theorem OwnMove.of_held {t : State} (own : OwnMove s m phase v d) (held : AxisHeld m s t) : OwnMove t m phase v d where
  aimed := by rw [held.motor]; exact own.aimed
  unslowed := by rw [held.motor]; exact own.unslowed
  rule := by
    rw [held.motor, held.fld (F.MOT_VMAX_VMAX (16 + m)) (by simp [tickFields]), held.fld (F.MOT_ACC_ACC (16 + m)) (by simp [tickFields]),
      held.fld (F.MOT_VMIN_VMIN (16 + m)) (by simp [tickFields])]
    exact own.rule
  short := by rw [held.motor]; exact own.short

theorem AxisHeld.stepped {t : State} (held : AxisHeld m s t) (y : Motor) : AxisHeld m (s.setMotor (16 + m) y) (t.setMotor (16 + m) y) where
  motor := by rw [State.motor_setMotor_same, State.motor_setMotor_same]
  fld f read := (State.fld_of_regs (State.setMotor_regs ..) f).trans (held.fld f read)
  moving := held.moving
  members := held.members

/-- All of a tick but the groups and the step generator: the axis makes its step, and nothing else moves it. -/
theorem OwnMove.ticked (own : OwnMove s m phase v d) (axis : m < 12) (moves : (s.motor (16 + m)).phase ≠ 0) (alone : s.movingGroup m = none)
    (idle : s.homeState m = Home.idle) (blind : s.flag (F.MOT_AX_CFG_ENC_EN m) = false) :
    AxisHeld m (s.setMotor (16 + m) ((s.motor (16 + m)).stepped phase v d))
      (((((s.forEach (List.range 8) State.advanceAngle).forEach (List.range 12) State.followCheck).forEach (List.range 16)
        State.deliverRequest).forEach (List.range 28) (fun s x =>
          if (s.motor x).phase ≠ 0 ∧ (16 ≤ x → (s.movingGroup (x - 16)).isNone) then s.motorStep x else s)).forEach (List.range 12)
        State.homeTick) := by
  have turned : AxisHeld m s (s.forEach (List.range 8) State.advanceAngle) :=
    State.forEach_keeps_of_mem (.refl m s) _ fun u st station held => held.advanceAngle (List.mem_range.mp station)
  generalize s.forEach (List.range 8) State.advanceAngle = t at *
  have checked : AxisHeld m s (t.forEach (List.range 12) State.followCheck) := by
    refine State.forEach_keeps turned _ fun u k held => ?_
    by_cases same : m = k
    · subst same
      have unchecked : u.flag (F.MOT_AX_CFG_ENC_EN m) = false := by
        unfold State.flag at blind ⊢
        rw [held.fld _ (by simp [tickFields])]
        exact blind
      rw [State.followCheck_blind unchecked]
      exact held
    · exact held.followCheck same
  generalize t.forEach (List.range 12) State.followCheck = t at *
  have delivered : AxisHeld m s (t.forEach (List.range 16) State.deliverRequest) :=
    State.forEach_keeps_of_mem checked _ fun u x sled held => held.deliverRequest (by rw [List.mem_range] at sled; omega)
  generalize t.forEach (List.range 16) State.deliverRequest = t at *
  refine State.forEach_keeps (P := AxisHeld m (s.setMotor (16 + m) ((s.motor (16 + m)).stepped phase v d))) ?_ _ fun u k held => ?_
  · refine State.forEach_once (x := 16 + m) (I := AxisHeld m s) (List.mem_range.mpr (by omega)) List.nodup_range (fun u y _ other held => ?_)
      (fun u held => ?_) (fun u y _ other held => ?_) delivered
    · split
      · exact held.motorStep (Ne.symm other)
      · exact held
    · rw [if_pos ⟨by rw [held.motor]; exact moves, fun _ => by rw [Nat.add_sub_cancel_left, held.alone alone]; rfl⟩,
        (own.of_held held).motorStep, held.motor]
      exact (held.stepped _).showMotor _
    · split
      · exact held.motorStep (Ne.symm other)
      · exact held
  · by_cases same : m = k
    · subst same
      have out : u.homeState m = Home.idle := held.homeState.trans idle
      rw [State.homeTick_idle out]
      exact held
    · exact held.homeTick same

theorem State.forEach_three (f : State → Nat → State) (t : State) : t.forEach (List.range 3) f = f (f (f t 0) 1) 2 := rfl

/-- The groups' ticks leave an axis that none of them carries. -/
theorem State.groupTicks_motor {t : State} (alone : t.movingGroup m = none) :
    (t.forEach (List.range 3) State.groupTick).motor (16 + m) = t.motor (16 + m) := by
  have free := (State.movingGroup_none t).mp alone
  have first : GroupPassed 0 m t (t.groupTick 0) := .groupTick (free 0 (by decide))
  have second : GroupPassed 1 m (t.groupTick 0) ((t.groupTick 0).groupTick 1) :=
    .groupTick (by rw [first.others 1 (by decide)]; exact free 1 (by decide))
  have third : GroupPassed 2 m ((t.groupTick 0).groupTick 1) (((t.groupTick 0).groupTick 1).groupTick 2) :=
    .groupTick (by rw [second.others 2 (by decide), first.others 2 (by decide)]; exact free 2 (by decide))
  rw [State.forEach_three]
  exact third.motor.trans (second.motor.trans first.motor)

/-- The step generator leaves the motion itself. -/
theorem State.emitSteps_motor (t : State) (x y : Nat) : ((t.emitSteps x).motor y).phase = (t.motor y).phase ∧
    ((t.emitSteps x).motor y).v = (t.motor y).v ∧ ((t.emitSteps x).motor y).pos = (t.motor y).pos := by
  unfold State.emitSteps
  extract_lets mt want n u
  have kept : (u.motor y).phase = (t.motor y).phase ∧ (u.motor y).v = (t.motor y).v ∧ (u.motor y).pos = (t.motor y).pos := by
    by_cases same : y = x
    · subst same
      rw [State.motor_setMotor_same]
      exact ⟨rfl, rfl, rfl⟩
    · rw [State.motor_setMotor_ne _ _ _ same]
      exact ⟨rfl, rfl, rfl⟩
  clear_value u
  split
  · exact kept
  · rw [State.motor_put]
    exact kept

theorem profileTick_moves (own : OwnMove s m phase v d) (axis : m < 12) (moves : (s.motor (16 + m)).phase ≠ 0)
    (alone : s.movingGroup m = none) (idle : s.homeState m = Home.idle) (blind : s.flag (F.MOT_AX_CFG_ENC_EN m) = false) :
    Answers .profileTick s (fun t => (t.motor (16 + m)).phase = phase ∧ (t.motor (16 + m)).v = v ∧ (t.motor (16 + m)).pos =
      wrapPos ((s.motor (16 + m)).pos + (s.motor (16 + m)).dir * toUnits d)) := by
  refine .of_eq rfl ?_
  have held := own.ticked axis moves alone idle blind
  generalize (State.forEach _ (List.range 12) State.homeTick) = t at held ⊢
  refine State.forEach_keeps (P := fun u => (u.motor (16 + m)).phase = phase ∧ (u.motor (16 + m)).v = v ∧ (u.motor (16 + m)).pos =
    wrapPos ((s.motor (16 + m)).pos + (s.motor (16 + m)).dir * toUnits d)) ?_ _ fun u x kept => ?_
  · rw [State.groupTicks_motor (held.alone alone), held.motor, State.motor_setMotor_same]
    exact ⟨rfl, rfl, rfl⟩
  · obtain ⟨phase', v', pos'⟩ := u.emitSteps_motor x (16 + m)
    rw [phase', v', pos']
    exact kept

end

/-- Settles O41, row by row; of a tick, that nothing but its own step moves an axis in a move of its own. -/
theorem motorCommandsComplete : Obligations.MotorCommandsComplete := by
  unfold Obligations.MotorCommandsComplete
  intro s
  refine ⟨?_, ?_, ?_, ?_, ?_, ?_, ?_, ?_, ?_, ?_, ?_, ?_, ?_, ?_, ?_, ?_, ?_, ?_, ?_, ?_, ?_, ?_⟩
  · exact fun m phase v d moves alone idle blind aimed unslowed rule short =>
      profileTick_moves ⟨aimed, unslowed, rule, short⟩ m.isLt moves alone idle blind
  · exact fun x may away => motorStart_starts may away
  · exact fun x may => motorStart_rejects may
  · exact fun x alone moving => .of_eq rfl (State.rappel_stops alone moving _)
  · exact fun x alone moving => .of_eq rfl (State.rappel_stops alone moving _)
  · exact fun m idle rest alone unlimited armed => motorHome_seeks idle rest alone unlimited armed
  · exact fun x value idle => motorTargetWrite_idle value idle
  · exact fun x value axis accel free aimed ahead room => motorTargetWrite_moving value axis accel free aimed ahead room
  · exact fun x acc value => motorSpeedWrite_writes acc value
  · exact fun x value idle => motorDecWrite_idle value idle
  · exact fun x value idle ungeared alone => motorPosSet_shows value idle ungeared alone
  · exact fun x on idle => gearEngage_sets on idle
  · exact fun x before => gearArm_waits before
  · exact fun x pending reached => gearChange_changes pending reached
  · exact fun m failed => homeFaultClear_clears failed
  · exact fun m positive edge => limitQualified_inactive positive edge
  · exact fun m edge idle alone moving toward => limitQualified_stops edge idle alone moving toward
  · exact fun m edge switch seek moving => homeQualified_stops edge switch seek moving
  · exact fun m => encoderEdge_counts
  · exact fun m => encoderEdge_fails
  · exact fun x rest ungeared => sledStandstill_reduces rest ungeared
  · exact fun m rest alone => axisHoldReduce_reduces rest alone

end Sys2Proof.Machine
end

section
/-!
PROOFS. Groups, emergency stops, MOVE and L_SEGMENT (R193–R205, R381, R388).
-/
set_option Elab.async false
namespace Sys2Proof.Machine

/-! ## Groups -/

section
variable {s : State} {g : Fin 3}

theorem groupMembersWrite_sets {members : BitVec 32} (axes : members.toNat % 65536 < 4096) (few : popCount 12 (members.toNat % 65536) ≤ 4)
    (free : ∀ k : Fin 3, k ≠ g → s.fld (F.MOT_GRP_CTRL_MEMBERS k) &&& (members.toNat % 65536) = 0) :
    Answers (.groupMembersWrite g members) s (fun t => t = s.put (F.MOT_GRP_CTRL_MEMBERS g) (members.toNat % 65536)) := by
  refine .of_eq (t := s.put (F.MOT_GRP_CTRL_MEMBERS g) (members.toNat % 65536)) ?_ rfl
  change execGroupMembersWrite g members s = _
  unfold execGroupMembersWrite
  dsimp only
  rw [if_neg]
  rintro (other | wide | many)
  · simp only [List.any_eq_true, List.mem_range, Bool.and_eq_true, decide_eq_true_eq] at other
    obtain ⟨k, three, differs, shared⟩ := other
    exact shared (free ⟨k, three⟩ fun same => differs (congrArg Fin.val same))
  · omega
  · omega

theorem groupMembersWrite_rejects {members : BitVec 32} (many : 4 < popCount 12 (members.toNat % 65536)) :
    Answers (.groupMembersWrite g members) s (fun t => t = s.put (F.MOT_GRP_STATUS_REJECTED g) 1) :=
  .of_eq (t := s.put (F.MOT_GRP_STATUS_REJECTED g) 1) (if_pos (.inr (.inr many))) rfl

/-- A group's member may move: at rest, out of its limits, its homing and its limit inputs. -/
def State.axisFree (s : State) (m : Nat) : Prop :=
  (s.motor (16 + m)).phase = 0 ∧ s.flag (F.MOT_STATUS_LIMIT (16 + m)) = false ∧ s.homeState m = Home.idle ∧
    s.flag (F.MOT_INPUTS_LIMP m) = false ∧ s.flag (F.MOT_INPUTS_LIMN m) = false

/-- A member's distance to its target. -/
def State.toGo (s : State) (m : Nat) : Int := posDist (s.motor (16 + m)).pos (s.sfld (F.MOT_TARGET_TARGET (16 + m)) * stepUnit)

/-- A line of some length is begun, and nothing else of the machine changes. -/
theorem State.beginLine_long (g : Nat) (ms : List Nat) (ts : List Int) (feed : Option Nat) (v : Rat) (h : Option Nat)
    (long : lineLen (((ms.map fun m => (s.motor (16 + m)).pos).zip ts).map fun e => posDist e.1 (e.2 * stepUnit)) ≠ 0) :
    s.beginLine g ms ts feed v h = s.setGroup g { s.group g with
      phase := 1, members := ms, starts := ms.map fun m => (s.motor (16 + m)).pos
      deltas := ((ms.map fun m => (s.motor (16 + m)).pos).zip ts).map fun e => posDist e.1 (e.2 * stepUnit)
      len := lineLen (((ms.map fun m => (s.motor (16 + m)).pos).zip ts).map fun e => posDist e.1 (e.2 * stepUnit))
      path := 0, goal := lineLen (((ms.map fun m => (s.motor (16 + m)).pos).zip ts).map fun e => posDist e.1 (e.2 * stepUnit))
      v := v, stopDec := none, feed := feed, cmd := h } := by
  unfold State.beginLine
  exact if_neg long

theorem zip_map_map {α β γ δ : Type} (f : α → β) (g : α → γ) (k : β × γ → δ) (xs : List α) :
    ((xs.map f).zip (xs.map g)).map k = xs.map fun x => k (f x, g x) := by
  rw [List.zip_map', List.map_map]
  rfl

/-- A group on a line of its own, begun from rest for a command or none. -/
def Group.OnLine (y : Group) (ms : List Nat) (deltas : List Int) (h : Option Nat) : Prop :=
  y.phase = 1 ∧ y.members = ms ∧ y.deltas = deltas ∧ y.feed = none ∧ y.v = 0 ∧ y.cmd = h

/-- A group whose members may all move begins its line (R193). -/
theorem State.startGroup_begins {g : Nat} (h : Option Nat) (rest : (s.group g).busy = false) (armed : s.flag F.MOT_ESTOP_ACTIVE = false)
    (free : ∀ m ∈ setBits 12 (s.fld (F.MOT_GRP_CTRL_MEMBERS g)), s.axisFree m)
    (long : lineLen ((setBits 12 (s.fld (F.MOT_GRP_CTRL_MEMBERS g))).map s.toGo) ≠ 0) :
    ((s.startGroup g h).group g).OnLine (setBits 12 (s.fld (F.MOT_GRP_CTRL_MEMBERS g))) ((setBits 12 (s.fld (F.MOT_GRP_CTRL_MEMBERS g))).map s.toGo) h ∧
      (s.startGroup g h).regs = s.regs ∧ (s.startGroup g h).rings = s.rings := by
  unfold State.startGroup
  generalize setBits 12 (s.fld (F.MOT_GRP_CTRL_MEMBERS g)) = ms at *
  extract_lets ms' ts ready
  have allFree : ready = true := by
    refine List.all_eq_true.mpr fun e member => ?_
    obtain ⟨idle, unlimited, home, positive, negative⟩ := free e.1 (List.of_mem_zip member).1
    dsimp only
    rw [idle, unlimited, home, positive, negative]
    simp
  rw [if_neg (by simp [rest, armed, allFree])]
  have kept : ∀ x, ((s.forEach ms' fun s m => s.modMotor (16 + m) fun y => { y with reduced := false }).motor x).pos = (s.motor x).pos := by
    refine fun x => State.forEach_keeps (P := fun u => (u.motor x).pos = (s.motor x).pos) rfl _ fun u m same => ?_
    by_cases own : x = 16 + m
    · subst own
      rw [State.motor_modMotor_same]
      exact same
    · exact (congrArg Motor.pos (State.motor_setMotor_ne _ _ _ own)).trans same
  have regs : (s.forEach ms' fun s m => s.modMotor (16 + m) fun y => { y with reduced := false }).regs = s.regs :=
    State.read_forEach (f := fun s m => s.modMotor (16 + m) fun y => { y with reduced := false }) State.regs (fun _ _ => rfl) s ms'
  have rings : (s.forEach ms' fun s m => s.modMotor (16 + m) fun y => { y with reduced := false }).rings = s.rings :=
    State.read_forEach (f := fun s m => s.modMotor (16 + m) fun y => { y with reduced := false }) State.rings (fun _ _ => rfl) s ms'
  generalize (s.forEach ms' fun s m => s.modMotor (16 + m) fun y => { y with reduced := false }) = u at *
  have deltas : ((ms'.map fun m => (u.motor (16 + m)).pos).zip ts).map (fun e => posDist e.1 (e.2 * stepUnit)) = ms.map s.toGo := by
    rw [zip_map_map]
    exact List.map_congr_left fun m _ => by rw [kept]; rfl
  rw [State.beginLine_long _ _ _ _ _ _ (by rw [deltas]; exact long), deltas]
  refine ⟨?_, regs, rings⟩
  rw [State.group_setGroup_same]
  exact ⟨rfl, rfl, rfl, rfl, rfl, rfl⟩

theorem groupStart_begins (rest : (s.group g).busy = false) (armed : s.flag F.MOT_ESTOP_ACTIVE = false)
    (free : ∀ m ∈ setBits 12 (s.fld (F.MOT_GRP_CTRL_MEMBERS g)), s.axisFree m)
    (long : lineLen ((setBits 12 (s.fld (F.MOT_GRP_CTRL_MEMBERS g))).map s.toGo) ≠ 0) :
    Answers (.groupStart g) s (fun t => (t.group g).phase = 1 ∧ (t.group g).members = setBits 12 (s.fld (F.MOT_GRP_CTRL_MEMBERS g)) ∧
      (t.group g).deltas = (setBits 12 (s.fld (F.MOT_GRP_CTRL_MEMBERS g))).map s.toGo ∧ (t.group g).feed = none ∧ (t.group g).v = 0 ∧
      SameFields [] s t) := by
  obtain ⟨⟨phase, members, deltas, feed, v, _⟩, regs, _⟩ := State.startGroup_begins none rest armed free long
  exact .of_eq (t := s.startGroup g none) rfl ⟨phase, members, deltas, feed, v, (SameFields.refl _ s).of_regs regs⟩

/-- A group in motion brakes along its line. -/
theorem State.brakeGroup_moving {g : Nat} (moves : (s.group g).phase ≠ 0) (dec : Rat) (fault : Bool) :
    ((s.brakeGroup g dec fault).group g).phase = 3 ∧ ((s.brakeGroup g dec fault).group g).queue = (s.group g).queue ∧
      ((s.brakeGroup g dec fault).group g).stopDec = some dec ∧ (s.brakeGroup g dec fault).regs = s.regs := by
  unfold State.brakeGroup
  extract_lets y goal
  rw [if_neg moves, State.group_setGroup_same]
  exact ⟨rfl, rfl, rfl, rfl⟩

/-- A group's queue is discarded. -/
def State.unqueued (s : State) (g : Nat) : State := (s.modGroup g fun y => { y with queue := [] }).put (F.MOT_GRP_STATUS_QLEVEL g) 0

theorem State.unqueued_group (g : Nat) : (s.unqueued g).group g = { s.group g with queue := [] } :=
  (State.group_of_groups (State.put_groups ..) g).trans (State.group_modGroup_same ..)

theorem groupRappel_brakes (moves : (s.group g).phase ≠ 0) :
    Answers (.groupRappel g) s (fun t => (t.group g).phase = 3 ∧ (t.group g).queue = [] ∧ t.fld (F.MOT_GRP_STATUS_QLEVEL g) = 0 ∧
      (t.group g).stopDec.isSome = true ∧ SameFields [F.MOT_GRP_STATUS_QLEVEL g] s t) := by
  have level : (s.unqueued g).fld (F.MOT_GRP_STATUS_QLEVEL g) = 0 := State.fld_put_fits _ ⟨rfl⟩
  have same : SameFields [F.MOT_GRP_STATUS_QLEVEL g] s (s.unqueued g) := SameFields.put (SameFields.of_regs (.refl _ s) rfl) 0
  have queue : ((s.unqueued g).group g).queue = [] := by rw [State.unqueued_group]
  have moving : ((s.unqueued g).group g).phase ≠ 0 := by rw [State.unqueued_group]; exact moves
  refine .of_eq (t := (s.unqueued g).brakeGroup g ((s.unqueued g).groupLimits g).2.2.1 false) rfl ?_
  generalize s.unqueued g = u at *
  obtain ⟨phase, kept, braked, regs⟩ := u.brakeGroup_moving moving (u.groupLimits g).2.2.1 false
  exact ⟨phase, kept.trans queue, (State.fld_of_regs regs _).trans level, by rw [braked]; rfl, same.of_regs regs⟩

theorem estopClear_clears (still : ∀ m : Fin 12, (s.motor (16 + m.val)).phase = 0) (rest : ∀ g : Fin 3, (s.group g).phase = 0) :
    Answers .estopClear s (fun t => t = s.put F.MOT_ESTOP_ACTIVE 0) := by
  refine .of_eq (t := s.put F.MOT_ESTOP_ACTIVE 0) (if_pos ⟨?_, ?_⟩) rfl
  · exact List.all_eq_true.mpr fun m axis => by rw [still ⟨m, List.mem_range.mp axis⟩]; rfl
  · exact List.all_eq_true.mpr fun g group => by rw [rest ⟨g, List.mem_range.mp group⟩]; rfl

end

/-! ## The emergency stop of everything (R199) -/

/-- What the emergency stop does to a group. -/
def State.estopGroup (s : State) (g : Nat) : State := (s.unqueued g).brakeGroup g ((s.unqueued g).groupEdec g) false

/-- What the emergency stop does to an axis. -/
def State.estopAxis (s : State) (m : Nat) : State :=
  if (s.motor (16 + m)).phase ≠ 0 ∧ (s.movingGroup m).isNone then
    let u := if s.homeState m = Home.idle then s else s.setHome m Home.idle
    u.stopMotor (16 + m) (u.fld (F.MOT_EDEC_EDEC (16 + m))) false
  else s

/-- What the emergency stop reports. -/
def State.estopRaised (s : State) : State :=
  s.raise F.MOT_ESTOP_ACTIVE 0x040A srcAxes ([16, 0, 0, 0] ++ leBytes 4 (s.fld (F.MOT_POS_POS 16)))

theorem execEstopAll_eq (s : State) :
    execEstopAll s = .next ((s.estopRaised.forEach (List.range 3) State.estopGroup).forEach (List.range 12) State.estopAxis) := rfl

section
variable {s t : State} {m : Nat}

theorem AxisHeld.estopGroup (h : AxisHeld m s t) (g : Nat) : AxisHeld m s (t.estopGroup g) := by
  have unqueued : AxisHeld m s (t.unqueued g) :=
    AxisHeld.put (f := F.MOT_GRP_STATUS_QLEVEL g) (h.setGroup (y := { t.group g with queue := [] }) Iff.rfl rfl) 0
  unfold State.estopGroup
  exact unqueued.brakeGroup g _ _

theorem State.estopGroup_group (t : State) (g : Nat) :
    ((t.estopGroup g).group g).queue = [] ∧ ((t.group g).phase ≠ 0 → ((t.estopGroup g).group g).phase = 3) := by
  have unqueued := t.unqueued_group g
  unfold State.estopGroup
  generalize t.unqueued g = u at *
  by_cases moves : (u.group g).phase = 0
  · have still : u.brakeGroup g (u.groupEdec g) false = u := if_pos moves
    rw [still]
    exact ⟨by rw [unqueued], fun moving => absurd (by rw [unqueued] at moves; exact moves) moving⟩
  · obtain ⟨phase, queue, _, _⟩ := u.brakeGroup_moving moves (u.groupEdec g) false
    exact ⟨by rw [queue, unqueued], fun _ => phase⟩

theorem State.estopGroup_other (t : State) {g k : Nat} (other : k ≠ g) : (t.estopGroup g).group k = t.group k := by
  have unqueued : (t.unqueued g).group k = t.group k :=
    (State.group_of_groups (State.put_groups ..) k).trans (State.group_setGroup_ne _ _ _ other)
  unfold State.estopGroup State.brakeGroup
  extract_lets y goal
  split
  · exact unqueued
  · exact (State.group_setGroup_ne _ _ _ other).trans unqueued

theorem State.estopGroups_group (t : State) (g : Fin 3) : ((t.forEach (List.range 3) State.estopGroup).group g).queue = [] ∧
    ((t.group g).phase ≠ 0 → ((t.forEach (List.range 3) State.estopGroup).group g).phase = 3) := by
  refine State.forEach_once (I := fun u => u.group g = t.group g)
    (P := fun u => (u.group g).queue = [] ∧ ((t.group g).phase ≠ 0 → (u.group g).phase = 3)) (List.mem_range.mpr g.isLt) List.nodup_range
    (fun u k _ other same => (u.estopGroup_other (Ne.symm other)).trans same) (fun u same => ?_) (fun u k _ other stopped => ?_) rfl
  · obtain ⟨queue, phase⟩ := u.estopGroup_group g
    exact ⟨queue, fun moves => phase (by rw [same]; exact moves)⟩
  · rw [u.estopGroup_other (Ne.symm other)]
    exact stopped

theorem AxisHeld.estopAxis (h : AxisHeld m s t) {k : Nat} (other : m ≠ k) : AxisHeld m s (t.estopAxis k) := by
  unfold State.estopAxis
  split
  · extract_lets u
    have held : AxisHeld m s u := by
      change AxisHeld m s (if _ then _ else _)
      split
      · exact h
      · exact h.setHome other _
    clear_value u
    exact held.stopMotor (fun same => other (Nat.add_left_cancel same)) _ _
  · exact h

theorem State.estopAxis_stops {u : State} (moves : (u.motor (16 + m)).phase ≠ 0) (alone : u.movingGroup m = none) :
    ((u.estopAxis m).motor (16 + m)).stopping = true ∧ ((u.estopAxis m).motor (16 + m)).dec = u.fld (F.MOT_EDEC_EDEC (16 + m)) := by
  unfold State.estopAxis
  rw [if_pos ⟨moves, by rw [alone]; rfl⟩]
  extract_lets v
  have motor : v.motor (16 + m) = u.motor (16 + m) := by
    change State.motor (if _ then _ else _) _ = _
    split
    · rfl
    · exact State.motor_setHome ..
  have edec : v.fld (F.MOT_EDEC_EDEC (16 + m)) = u.fld (F.MOT_EDEC_EDEC (16 + m)) := by
    change State.fld (if _ then _ else _) _ = _
    split
    · rfl
    · exact State.fld_put_apart _ _ ⟨rfl⟩
  clear_value v
  rw [State.stopMotor_moving (by rw [motor]; exact moves), edec]
  exact ⟨rfl, rfl⟩

/-- An axis that stops writes its own fields. -/
theorem State.estopAxis_active (u : State) (m : Nat) : (u.estopAxis m).flag F.MOT_ESTOP_ACTIVE = u.flag F.MOT_ESTOP_ACTIVE := by
  unfold State.estopAxis
  split
  next moves =>
    extract_lets v
    have motor : v.motor (16 + m) = u.motor (16 + m) := by
      change State.motor (if _ then _ else _) _ = _
      split
      · rfl
      · exact State.motor_setHome ..
    have active : v.flag F.MOT_ESTOP_ACTIVE = u.flag F.MOT_ESTOP_ACTIVE := by
      change State.flag (if _ then _ else _) _ = _
      split
      · rfl
      · exact State.flag_put_apart _ _ ⟨rfl⟩
    clear_value v
    exact ((State.stopMotor_moving_same (by rw [motor]; exact moves.1) _ _).shows _ ⟨rfl⟩).trans active
  next => rfl

theorem State.estopAxis_groups (u : State) (m : Nat) : (u.estopAxis m).groups = u.groups := by
  unfold State.estopAxis
  split
  · extract_lets v
    have groups : v.groups = u.groups := by
      change State.groups (if _ then _ else _) = _
      split
      · rfl
      · exact State.put_groups ..
    clear_value v
    exact ((State.stopMotor_frame (.refl (allBut [.groups]) v) _ _ _ (within_of (by decide))) .groups rfl).trans groups
  · rfl

theorem State.estopRaised_active (s : State) : s.estopRaised.flag F.MOT_ESTOP_ACTIVE = true := State.flag_raise_same _ _ _ _ ⟨rfl⟩

theorem State.estopGroup_active (t : State) (g : Nat) : (t.estopGroup g).flag F.MOT_ESTOP_ACTIVE = t.flag F.MOT_ESTOP_ACTIVE := by
  unfold State.flag
  rw [((AxisHeld.refl 0 t).estopGroup g).fld F.MOT_ESTOP_ACTIVE (by simp [tickFields])]

theorem estopAll_stops :
    Answers .estopAll s (fun t => t.flag F.MOT_ESTOP_ACTIVE = true ∧ (∀ m : Fin 12, s.movingGroup m.val = none → (s.motor (16 +
      m.val)).phase ≠ 0 → (t.motor (16 + m.val)).stopping = true ∧ (t.motor (16 + m.val)).dec = s.fld (F.MOT_EDEC_EDEC (16 + m.val))) ∧
      (∀ g : Fin 3, (t.group g).queue = [] ∧ ((s.group g).phase ≠ 0 → (t.group g).phase = 3))) := by
  have active := s.estopRaised_active
  have same : SameFields [F.MOT_ESTOP_ACTIVE] s s.estopRaised := (SameFields.refl _ s).raise _ _ _
  have motors : s.estopRaised.motors = s.motors := State.raise_motors ..
  have groups : s.estopRaised.groups = s.groups := State.raise_groups ..
  refine .of_eq (execEstopAll_eq s) ?_
  generalize s.estopRaised = u at *
  refine ⟨?_, fun m alone moves => ?_, fun g => ?_⟩
  · refine State.forEach_keeps (P := fun u => u.flag F.MOT_ESTOP_ACTIVE = true) ?_ _ fun u m set => (u.estopAxis_active m).trans set
    exact State.forEach_keeps (P := fun u => u.flag F.MOT_ESTOP_ACTIVE = true) active _ fun u g set => (u.estopGroup_active g).trans set
  · have braked : AxisHeld m u (u.forEach (List.range 3) State.estopGroup) := State.forEach_keeps (.refl _ u) _ fun v g held => held.estopGroup g
    refine State.forEach_once (x := m.val) (I := AxisHeld m u) (P := fun v => (v.motor (16 + m.val)).stopping = true ∧
      (v.motor (16 + m.val)).dec = s.fld (F.MOT_EDEC_EDEC (16 + m.val))) (List.mem_range.mpr m.isLt) List.nodup_range
      (fun v k _ other held => held.estopAxis (Ne.symm other)) (fun v held => ?_) (fun v k _ other stopped => ?_) braked
    · have moving : (v.motor (16 + m.val)).phase ≠ 0 := by rw [held.motor, State.motor_of_motors motors]; exact moves
      have free : v.movingGroup m = none := held.alone ((State.movingGroup_of_groups groups m).trans alone)
      rw [← same.reads _ ⟨rfl⟩, ← held.fld (F.MOT_EDEC_EDEC (16 + m.val)) (by simp [tickFields])]
      exact v.estopAxis_stops moving free
    · rw [((AxisHeld.refl m.val v).estopAxis (Ne.symm other)).motor]
      exact stopped
  · have groups' : ((u.forEach (List.range 3) State.estopGroup).forEach (List.range 12) State.estopAxis).groups =
        (u.forEach (List.range 3) State.estopGroup).groups := State.read_forEach State.groups State.estopAxis_groups _ _
    rw [State.group_of_groups groups', ← State.group_of_groups groups]
    exact u.estopGroups_group g

end

/-! ## MOVE (R203, R381) -/

section
variable {s : State} {h : Nat} {c : Cmd}

theorem State.markStarted_known (known : s.cmd? h = some c) : s.markStarted h = s.setCmd h { c with started := true } := by
  unfold State.markStarted State.modCmd
  rw [known]

/-- Whether a motor may start is read off its motor, the groups, and fields other than the target. -/
theorem State.mayStart_of {t : State} (x : Nat) (target : Int) (motors : t.motors = s.motors) (groups : t.groups = s.groups)
    (same : SameFields [F.MOT_TARGET_TARGET x] s t) : t.mayStart x target = s.mayStart x target := by
  have home : t.homeState (x - 16) = s.homeState (x - 16) := same.reads _ ⟨rfl⟩
  unfold State.mayStart State.sfld
  dsimp only
  rw [State.motor_of_motors motors, State.movingGroup_of_groups groups, home, same.shows (F.MOT_GEAR_CTRL_ENGAGE x) ⟨rfl⟩,
    same.reads (F.MOT_SOFT_LO_LO x) ⟨rfl⟩, same.reads (F.MOT_SOFT_HI_HI x) ⟨rfl⟩, same.shows F.MOT_ESTOP_ACTIVE ⟨rfl⟩,
    same.shows (F.MOT_STATUS_LIMIT x) ⟨rfl⟩, same.shows (F.MOT_INPUTS_LIMP (x - 16)) ⟨rfl⟩, same.shows (F.MOT_INPUTS_LIMN (x - 16)) ⟨rfl⟩]

theorem State.runMotor_rings (s : State) (x : Nat) (target : Option Int) (dir : Int) (vmax : Option Nat) :
    (s.runMotor x target dir vmax).rings = s.rings := (State.runMotor_frame (.refl (allBut [.rings]) s) x target dir vmax (within_of (by decide))) .rings rfl

theorem moveAxis_starts (known : s.cmd? h = some c) (ready : s.moveReady h 0 = true)
    (may : s.mayStart (16 + c.id.moveIndex % 12) (toSigned 32 (c.id.moveTarget 0 % 2 ^ 32)) = true)
    (away : posDist (s.motor (16 + c.id.moveIndex % 12)).pos (toSigned 32 (c.id.moveTarget 0 % 2 ^ 32) * stepUnit) ≠ 0) :
    Answers (.moveAxis h) s (fun t => (t.motor (16 + c.id.moveIndex % 12)).phase = 1 ∧ (t.motor (16 + c.id.moveIndex % 12)).cmd = some h ∧
      (t.motor (16 + c.id.moveIndex % 12)).target = toSigned 32 (c.id.moveTarget 0 % 2 ^ 32) * stepUnit ∧ (t.cmd h).started = true) := by
  generalize x_eq : 16 + c.id.moveIndex % 12 = x at may away ⊢
  let t := (s.setCmd h { c with started := true }).put (F.MOT_TARGET_TARGET x) (c.id.moveTarget 0)
  have target : t.sfld (F.MOT_TARGET_TARGET x) = toSigned 32 (c.id.moveTarget 0 % 2 ^ 32) := by
    unfold State.sfld
    rw [State.fld_put_same]
    rfl
  have may' : t.mayStart x (toSigned 32 (c.id.moveTarget 0 % 2 ^ 32)) = true :=
    (State.mayStart_of x _ (State.put_motors ..) (State.put_groups ..)
      (SameFields.put (t := s.setCmd h { c with started := true }) (.of_regs (.refl _ s) rfl) _)).trans may
  have motor : t.motor x = s.motor x := State.motor_put ..
  have cmd : t.cmd h = { c with started := true } := (State.cmd_of_rings (State.put_rings ..) h).trans (State.cmd_setCmd_same ..)
  have answered : exec (.moveAxis h) s = .next (t.startMotor x (some h)) := by
    change execMoveAxis h s = _
    unfold execMoveAxis
    dsimp only
    rw [if_pos ready, State.cmd_of_cmd? known, State.markStarted_known known, x_eq]
  clear_value t
  rw [State.startMotor_away (some h) (by rw [target]; exact may') (by rw [motor, target]; exact away), target] at answered
  refine .of_eq answered ?_
  rw [State.runMotor_motor, State.cmd_of_rings (State.runMotor_rings ..), State.motor_modMotor_same]
  exact ⟨rfl, rfl, rfl, (congrArg Cmd.started cmd)⟩

theorem moveHoming_seeks (known : s.cmd? h = some c) (ready : s.moveReady h 2 = true) (idle : s.homeState (c.id.moveIndex % 12) = Home.idle)
    (rest : (s.motor (16 + c.id.moveIndex % 12)).phase = 0) (alone : s.movingGroup (c.id.moveIndex % 12) = none)
    (unlimited : s.flag (F.MOT_STATUS_LIMIT (16 + c.id.moveIndex % 12)) = false) (armed : s.flag F.MOT_ESTOP_ACTIVE = false) :
    Answers (.moveHoming h) s (fun t => t.homeState (c.id.moveIndex % 12) = Home.seek ∧ (t.motor (16 + c.id.moveIndex % 12)).cmd = some h ∧
      (t.cmd h).started = true) := by
  generalize m_eq : c.id.moveIndex % 12 = m at *
  let t := ((s.setCmd h { c with started := true }).setHome m Home.seek).modMotor (16 + m) fun y => { y with homeFrom := y.pos, cmd := some h }
  have home : t.fld (F.MOT_STATUS_HOME_STATE (16 + m)) = Home.seek := (State.fld_of_regs (State.modMotor_regs ..) _).trans (State.fld_put_fits _ ⟨rfl⟩)
  have motor : (t.motor (16 + m)).cmd = some h := congrArg Motor.cmd (State.motor_modMotor_same ..)
  have cmd : t.cmd h = { c with started := true } := (State.cmd_of_rings (s := s.setCmd h { c with started := true }) rfl h).trans (State.cmd_setCmd_same ..)
  have free : (s.setCmd h { c with started := true }).movingGroup m = none := (State.movingGroup_of_groups (s := s) rfl m).trans alone
  have answered : exec (.moveHoming h) s = .next (t.runMotor (16 + m) none (t.homeDir m) (some (t.fld (F.MOT_HOME_VFAST_V m)))) := by
    change execMoveHoming h s = _
    unfold execMoveHoming State.startHoming
    dsimp only
    rw [if_pos ready, State.cmd_of_cmd? known, State.markStarted_known known, m_eq]
    exact congrArg _ (if_pos ⟨idle, rest, by rw [free]; rfl, unlimited, armed⟩)
  clear_value t
  refine .of_eq answered ⟨(SameFields.reads (State.runMotor_same _ _ _ _ _) _ ⟨rfl⟩).trans home, ?_, ?_⟩
  · rw [State.runMotor_motor]
    exact motor
  · rw [State.cmd_of_rings (State.runMotor_rings ..), cmd]

theorem moveRappel_stops (known : s.cmd? h = some c) (ready : s.moveReady h 3 = true) (alone : s.movingGroup (c.id.moveIndex % 12) = none)
    (moves : (s.motor (16 + c.id.moveIndex % 12)).phase ≠ 0) :
    Answers (.moveRappel h) s (fun t => (t.motor (16 + c.id.moveIndex % 12)).stopping = true ∧ (t.motor (16 + c.id.moveIndex % 12)).phase = 3 ∧
      (t.motor (16 + c.id.moveIndex % 12)).cmd = some h ∧ (t.cmd h).started = true) := by
  generalize m_eq : c.id.moveIndex % 12 = m at *
  let held := (s.setCmd h { c with started := true }).modMotor (16 + m) fun y => { y with cmd := some h }
  let t := if held.homeState m = Home.idle ∨ held.homeState m = Home.fault then held else held.setHome m Home.idle
  have answered : exec (.moveRappel h) s = .next (t.stopMotor (16 + m) (t.fld (F.MOT_DEC_DEC (16 + m))) false) := by
    have free : (s.setCmd h { c with started := true }).movingGroup m = none := (State.movingGroup_of_groups (s := s) rfl m).trans alone
    change execMoveRappel h s = _
    unfold execMoveRappel
    dsimp only
    rw [if_pos ready, State.cmd_of_cmd? known, State.markStarted_known known, m_eq]
    simp only [free]
    rfl
  have motor : t.motor (16 + m) = { s.motor (16 + m) with cmd := some h } := by
    have own : held.motor (16 + m) = { s.motor (16 + m) with cmd := some h } := State.motor_modMotor_same ..
    change State.motor (if _ then _ else _) _ = _
    split
    · exact own
    · exact (State.motor_setHome ..).trans own
  have cmd : t.cmd h = { c with started := true } := by
    have own : held.cmd h = { c with started := true } := (State.cmd_of_rings (s := s.setCmd h { c with started := true }) rfl h).trans (State.cmd_setCmd_same ..)
    change State.cmd (if _ then _ else _) _ = _
    split
    · exact own
    · exact (State.cmd_of_rings (State.put_rings ..) h).trans own
  clear_value t
  refine .of_eq answered ?_
  rw [State.stopMotor_moving (by rw [motor]; exact moves), State.cmd_of_rings (State.stopMotor_moving_rings (by rw [motor]; exact moves) _ _), cmd, motor]
  exact ⟨rfl, rfl, rfl, rfl⟩

/-- The target of a group's member, by its place in the group. -/
def State.aim (value : Nat → Nat) (s : State) (e : Nat × Nat) : State := s.put (F.MOT_TARGET_TARGET (16 + e.2)) (value e.1)

/-- The targets of a group's members, written one after the other. -/
def State.aimed (s : State) (ms : List Nat) (value : Nat → Nat) : State :=
  s.forEach ((List.range ms.length).zip ms) (State.aim value)

section
variable (u : State) (ms : List Nat) (value : Nat → Nat)

theorem State.aimed_fld {f : Fld} (apart : f.Apart (F.MOT_TARGET_TARGET 0)) : (u.aimed ms value).fld f = u.fld f :=
  State.read_forEach (f := State.aim value) (fun v => v.fld f)
    (fun v _ => State.fld_put_apart v _ apart) u _

theorem State.aimed_flag {f : Fld} (apart : f.Apart (F.MOT_TARGET_TARGET 0)) : (u.aimed ms value).flag f = u.flag f := by
  unfold State.flag
  rw [u.aimed_fld ms value apart]

theorem State.aimed_motors : (u.aimed ms value).motors = u.motors :=
  State.read_forEach (f := State.aim value) State.motors (fun _ _ => State.put_motors ..) u _

theorem State.aimed_groups : (u.aimed ms value).groups = u.groups :=
  State.read_forEach (f := State.aim value) State.groups (fun _ _ => State.put_groups ..) u _

theorem State.aimed_rings : (u.aimed ms value).rings = u.rings :=
  State.read_forEach (f := State.aim value) State.rings (fun _ _ => State.put_rings ..) u _

/-- Entries whose keys are different are told apart by them. -/
theorem eq_of_same_key {xs : List (Nat × Nat)} (distinct : (xs.map Prod.snd).Nodup) {x y : Nat × Nat} (left : x ∈ xs) (right : y ∈ xs)
    (same : x.2 = y.2) : x = y := by
  induction xs with
  | nil => exact absurd left List.not_mem_nil
  | cons z zs ih =>
    rw [List.map_cons] at distinct
    obtain ⟨fresh, distinct⟩ := List.nodup_cons.mp distinct
    rcases List.mem_cons.mp left with rfl | later
    · rcases List.mem_cons.mp right with rfl | other
      · rfl
      · exact absurd (same ▸ List.mem_map_of_mem other) fresh
    · rcases List.mem_cons.mp right with rfl | other
      · exact absurd (same ▸ List.mem_map_of_mem later) fresh
      · exact ih distinct later other

/-- Each member's target is its own. -/
theorem State.aimed_target {ms : List Nat} (once : ms.Nodup) {e : Nat × Nat} (mem : e ∈ (List.range ms.length).zip ms) :
    (u.aimed ms value).fld (F.MOT_TARGET_TARGET (16 + e.2)) = value e.1 % 2 ^ 32 := by
  have members : ((List.range ms.length).zip ms).map Prod.snd = ms := List.map_snd_zip (by simp)
  have distinct : (((List.range ms.length).zip ms).map Prod.snd).Nodup := members.symm ▸ once
  refine State.forEach_once (I := fun _ => True) (P := fun u => u.fld (F.MOT_TARGET_TARGET (16 + e.2)) = value e.1 % 2 ^ 32) mem
    (List.Pairwise.of_map Prod.snd (fun _ _ differ same => differ (congrArg Prod.snd same)) distinct) (fun _ _ _ _ _ => trivial) (fun u _ => State.fld_put_same ..) (fun u y other differs kept => ?_) trivial
  have apart : e.2 ≠ y.2 := fun same => differs (eq_of_same_key distinct other mem same.symm)
  have other : (F.MOT_TARGET_TARGET (16 + e.2)).key ≠ (F.MOT_TARGET_TARGET (16 + y.2)).key :=
    Fld.key_ne_of_ix rfl fun same => apart (Nat.add_left_cancel same)
  exact (State.fld_put_ne _ _ other).trans kept

end

theorem moveGroup_begins {g : Nat} {ms : List Nat} (known : s.cmd? h = some c) (ready : s.moveReady h 1 = true) (group : g = c.id.moveIndex % 3)
    (members : ms = setBits 12 (s.fld (F.MOT_GRP_CTRL_MEMBERS g))) (rest : (s.group g).busy = false) (armed : s.flag F.MOT_ESTOP_ACTIVE = false)
    (free : ∀ m ∈ ms, s.axisFree m)
    (long : lineLen (((List.range ms.length).zip ms).map (fun e => posDist (s.motor (16 + e.2)).pos (toSigned 32 (c.id.moveTarget e.1 % 2 ^ 32) *
      stepUnit))) ≠ 0) :
    Answers (.moveGroup h) s (fun t => (t.group g).phase = 1 ∧ (t.group g).members = ms ∧ (t.group g).cmd = some h ∧ (t.cmd h).started = true) := by
  let marked := s.setCmd h { c with started := true }
  let t := marked.aimed ms fun i => c.id.moveTarget i
  have regs : marked.regs = s.regs := rfl
  have fld : ∀ f : Fld, f.Apart (F.MOT_TARGET_TARGET 0) → t.fld f = s.fld f := fun f apart =>
    (marked.aimed_fld ms _ apart).trans (State.fld_of_regs regs f)
  have flag : ∀ f : Fld, f.Apart (F.MOT_TARGET_TARGET 0) → t.flag f = s.flag f := fun f apart =>
    (marked.aimed_flag ms _ apart).trans (State.flag_of_regs regs f)
  have motors : t.motors = s.motors := marked.aimed_motors ms _
  have groups : t.groups = s.groups := marked.aimed_groups ms _
  have cmd : t.cmd h = { c with started := true } := (State.cmd_of_rings (marked.aimed_rings ms _) h).trans (State.cmd_setCmd_same ..)
  have answered : exec (.moveGroup h) s = .next (t.startGroup g (some h)) := by
    change execMoveGroup h s = _
    unfold execMoveGroup
    dsimp only
    rw [if_pos ready, State.cmd_of_cmd? known, State.markStarted_known known, ← group, ← members]
    rfl
  have targets : ∀ e ∈ (List.range ms.length).zip ms, t.fld (F.MOT_TARGET_TARGET (16 + e.2)) = c.id.moveTarget e.1 % 2 ^ 32 := fun e mem =>
    marked.aimed_target _ (by rw [members]; exact List.Pairwise.filter _ List.nodup_range) mem
  clear_value t
  have toGo : ms.map t.toGo = ((List.range ms.length).zip ms).map (fun e => posDist (s.motor (16 + e.2)).pos
      (toSigned 32 (c.id.moveTarget e.1 % 2 ^ 32) * stepUnit)) := by
    have second : ((List.range ms.length).zip ms).map Prod.snd = ms := List.map_snd_zip (by simp)
    rw [← congrArg (List.map t.toGo) second, List.map_map]
    refine List.map_congr_left fun e mem => ?_
    unfold Function.comp State.toGo State.sfld
    rw [State.motor_of_motors motors, targets e mem]
    rfl
  have members' : setBits 12 (t.fld (F.MOT_GRP_CTRL_MEMBERS g)) = ms := by rw [fld _ ⟨rfl⟩]; exact members.symm
  obtain ⟨⟨phase, on, _, _, _, held⟩, _, rings⟩ := State.startGroup_begins (s := t) (g := g) (some h)
    (by rw [State.group_of_groups groups]; exact rest) (by rw [flag _ ⟨rfl⟩]; exact armed)
    (fun m mem => by
      have home : t.homeState m = s.homeState m := fld _ ⟨rfl⟩
      unfold State.axisFree
      rw [State.motor_of_motors motors, flag _ ⟨rfl⟩, home, flag _ ⟨rfl⟩, flag _ ⟨rfl⟩]
      exact free m (members' ▸ mem))
    (by rw [members', toGo]; exact long)
  exact .of_eq answered ⟨phase, on.trans members', held, by rw [State.cmd_of_rings rings, cmd]⟩

/-! ## L_SEGMENT (R388) -/

theorem mem_insertBy {α : Type} (key : α → Nat) {x y : α} {ys : List α} : y ∈ insertBy key x ys ↔ y = x ∨ y ∈ ys := by
  induction ys with
  | nil => simp [insertBy]
  | cons z zs ih =>
    unfold insertBy
    split
    · simp
    · rw [List.mem_cons, List.mem_cons, ih]
      exact or_left_comm

theorem mem_sortBy {α : Type} (key : α → Nat) {y : α} {ys : List α} : y ∈ sortBy key ys ↔ y ∈ ys := by
  suffices all : ∀ zs, y ∈ ys.foldl (fun acc x => insertBy key x acc) zs ↔ y ∈ zs ∨ y ∈ ys by simpa [sortBy] using all []
  induction ys with
  | nil => simp
  | cons x xs ih =>
    intro zs
    rw [List.foldl_cons, ih, mem_insertBy, List.mem_cons, or_assoc]
    exact or_left_comm

/-- A command that the table holds is among all commands. -/
theorem State.mem_allCmds (known : s.cmd? h = some c) : (h, c) ∈ s.allCmds := by
  have listed : ∀ m : Table (Option Cmd), Table.at none m h = some c → (h, some c) ∈ m := by
    intro m
    induction m with
    | nil => exact fun none => absurd none (by simp)
    | cons e m ih =>
      obtain ⟨k, v⟩ := e
      intro held
      change (if k = h then v else Table.at none m h) = some c at held
      split at held
      next same => rw [← same, held]; exact List.mem_cons_self
      next => exact List.mem_cons_of_mem _ (ih held)
  exact List.mem_filterMap.mpr ⟨(h, some c), listed _ known, rfl⟩

/-- What the entry into a group's queue does for one command. -/
def State.admitSegment (g : Nat) (s : State) (e : Nat × Cmd) : State :=
  let c := s.cmd e.1
  if c.op = Op.lSegment ∧ c.id.segGroup = g ∧ c.phase = .admitted ∧ c.started = true ∧ (s.group g).queue.length < 64 then
    let y := s.group g
    let ms := setBits 12 (s.fld (F.MOT_GRP_CTRL_MEMBERS g))
    let targets := (List.range ms.length).map (fun i => toSigned 32 (leField c.id.body (8 + 4 * i) 4))
    let starts := match y.queue.getLast? with
      | some t => t.targets
      | none =>
        if y.phase = 0 then ms.map (fun m => (s.motor (16 + m)).pos / stepUnit)
        else (y.starts.zip y.deltas).map (fun e => wrapPos (e.1 + e.2) / stepUnit)
    let s := s.setGroup g { y with queue := y.queue ++ [⟨starts, targets, leField c.id.body 2 4⟩] }
    let s := s.put (F.MOT_GRP_STATUS_QLEVEL g) (y.queue.length + 1)
    s.finish e.1 {}
  else s

theorem State.admitSegments_eq (s : State) (g : Nat) :
    s.admitSegments g = s.forEach (sortBy (fun e => e.2.order) s.allCmds) (State.admitSegment g) := rfl

/-- A command that is no segment is left alone. -/
theorem State.admitSegment_none {g : Nat} {e : Nat × Cmd} (other : ¬((s.cmd e.1).op = Op.lSegment ∧ (s.cmd e.1).phase = .admitted)) :
    s.admitSegment g e = s := if_neg fun is => other ⟨is.1, is.2.2.1⟩

/-- A segment enters the queue, and its command ends. -/
theorem State.admitSegment_enters {g : Nat} {e : Nat × Cmd} (known : s.cmd? e.1 = some c) (segment : c.op = Op.lSegment) (own : c.id.segGroup = g)
    (admitted : c.phase = .admitted) (started : c.started = true) (heard : c.mute = false) (room : (s.group g).queue.length < 64) :
    (s.admitSegment g e).cmd? e.1 = some { c with phase := .ended, res := {} } ∧ (∀ k, k ≠ e.1 → (s.admitSegment g e).cmd? k = s.cmd? k) ∧
      ∃ t : Segment, t.feed = leField c.id.body 2 4 ∧ ((s.admitSegment g e).group g).queue = (s.group g).queue ++ [t] := by
  unfold State.admitSegment
  extract_lets d y ms targets starts queued shown
  have same : d = c := State.cmd_of_cmd? known
  rw [if_pos (by rw [same]; exact ⟨segment, own, admitted, started, room⟩)]
  have cmds : ∀ k, shown.cmd? k = s.cmd? k := State.cmd?_of_rings (s := s) rfl
  have group : shown.group g = { y with queue := y.queue ++ [⟨starts, targets, leField c.id.body 2 4⟩] } :=
    (State.group_of_groups (State.put_groups ..) g).trans ((State.group_setGroup_same ..).trans (by rw [same]))
  clear_value shown
  obtain ⟨ended, _, others, _⟩ := State.finish_spec ((cmds e.1).trans known) (by rw [admitted]; decide) heard {}
  refine ⟨ended, fun k other => (others k other).trans (cmds k), ⟨starts, targets, leField c.id.body 2 4⟩, rfl, ?_⟩
  rw [State.group_of_groups ((State.finish_frame (.refl (allBut [.groups]) shown) e.1 {} (within_of (by decide))) .groups rfl), group]

/-- The only segment there is waits, or has entered its group's queue. -/
structure SegmentAt (entered : Bool) (h : Nat) (c : Cmd) (s u : State) : Prop where
  own : u.cmd? h = some (if entered then { c with phase := .ended, res := {} } else c)
  others : ∀ k, k ≠ h → u.cmd? k = s.cmd? k
  queue : if entered then ∃ t : Segment, t.feed = leField c.id.body 2 4 ∧ (u.group c.id.segGroup).queue = (s.group c.id.segGroup).queue ++ [t]
    else (u.group c.id.segGroup).queue = (s.group c.id.segGroup).queue

/-- One segment's turn: it enters where it waits, and nothing happens where it has entered or the command is another. -/
theorem SegmentAt.turn {entered : Bool} {u : State} (at_ : SegmentAt entered h c s u) (segment : c.op = Op.lSegment) (admitted : c.phase = .admitted)
    (started : c.started = true) (heard : c.mute = false) (room : (s.group c.id.segGroup).queue.length < 64)
    (only : ∀ k, k ≠ h → (s.cmd k).op ≠ Op.lSegment) (e : Nat × Cmd) :
    SegmentAt (if e.1 = h then true else entered) h c s (u.admitSegment c.id.segGroup e) := by
  by_cases own : e.1 = h
  · rw [if_pos own]
    cases entered
    case true =>
      rw [State.admitSegment_none]
      · exact at_
      · rw [own, State.cmd_of_cmd? at_.own]
        exact fun is => absurd is.2 (by simp)
    case false =>
      have waits : (u.group c.id.segGroup).queue = (s.group c.id.segGroup).queue := at_.queue
      obtain ⟨ended, others, t, feed, queue⟩ := State.admitSegment_enters (e := e) (by rw [own]; exact at_.own) segment rfl admitted started heard
        (by rw [waits]; exact room)
      rw [own] at ended others
      exact ⟨ended, fun k other => (others k other).trans (at_.others k other), t, feed, by rw [queue, waits]⟩
  · rw [if_neg own, State.admitSegment_none]
    · exact at_
    · have cmd : u.cmd e.1 = s.cmd e.1 := congrArg (fun o => o.getD {}) (at_.others e.1 own)
      rw [cmd]
      exact fun is => only e.1 own is.1

theorem lSegment_enters (known : s.cmd? h = some c) (segment : c.op = Op.lSegment) (admitted : c.phase = .admitted) (unstarted : c.started = false)
    (heard : c.mute = false) (size : popCount 12 (s.fld (F.MOT_GRP_CTRL_MEMBERS c.id.segGroup)) = c.id.body.getD 0 0)
    (room : (s.group c.id.segGroup).queue.length < 64) (only : ∀ e ∈ s.allCmds, e.2.op = Op.lSegment → e.1 = h) :
    Answers (.lSegment h) s (fun t => (t.cmd h).phase = .ended ∧ (t.cmd h).res.status = Status.success ∧ (t.group c.id.segGroup).queue.length =
      (s.group c.id.segGroup).queue.length + 1 ∧ ((t.group c.id.segGroup).queue.getLast?.map Segment.feed) = some (leField c.id.body 2 4)) := by
  have cmd : s.cmd h = c := State.cmd_of_cmd? known
  have answered : exec (.lSegment h) s = .next ((s.setCmd h { c with started := true }).admitSegments c.id.segGroup) := by
    change execLSegment h s = _
    unfold execLSegment
    dsimp only
    rw [cmd, if_pos ⟨segment, admitted, unstarted⟩, if_neg (not_not_intro size), State.markStarted_known known]
  have others : ∀ k, k ≠ h → (s.cmd k).op ≠ Op.lSegment := by
    intro k other
    cases found : s.cmd? k with
    | none =>
      unfold State.cmd
      rw [found]
      decide
    | some d =>
      rw [State.cmd_of_cmd? found]
      exact fun is => other (only (k, d) (State.mem_allCmds found) is)
  have start : SegmentAt false h { c with started := true } s (s.setCmd h { c with started := true }) :=
    ⟨State.cmd?_setCmd_same .., fun k other => State.cmd?_setCmd_ne _ _ _ other, rfl⟩
  have turn : ∀ u e, ∀ entered, SegmentAt entered h { c with started := true } s u →
      SegmentAt (if e.1 = h then true else entered) h { c with started := true } s (u.admitSegment c.id.segGroup e) :=
    fun u e entered at_ => at_.turn segment admitted rfl heard room others e
  have mem : (h, { c with started := true }) ∈ sortBy (fun e => e.2.order) (s.setCmd h { c with started := true }).allCmds :=
    (mem_sortBy _).mpr (State.mem_allCmds (State.cmd?_setCmd_same ..))
  have done : SegmentAt true h { c with started := true } s ((s.setCmd h { c with started := true }).admitSegments c.id.segGroup) := by
    rw [State.admitSegments_eq]
    refine State.forEach_reaches_of (I := fun u => ∃ entered, SegmentAt entered h { c with started := true } s u) mem
      (fun u e at_ => ?_) (fun u at_ => ?_) (fun u e at_ => ?_) ⟨false, start⟩
    · obtain ⟨entered, at_⟩ := at_
      exact ⟨_, turn u e entered at_⟩
    · obtain ⟨entered, at_⟩ := at_
      have := turn u (h, { c with started := true }) entered at_
      rwa [if_pos rfl] at this
    · have := turn u e true at_
      rwa [ite_self] at this
  obtain ⟨own, _, t, feed, queue⟩ := done
  have ended : ((s.setCmd h { c with started := true }).admitSegments c.id.segGroup).cmd h = { c with started := true, phase := .ended, res := {} } :=
    State.cmd_of_cmd? own
  refine .of_eq answered ?_
  generalize (s.setCmd h { c with started := true }).admitSegments c.id.segGroup = u at *
  have queue : (u.group c.id.segGroup).queue = (s.group c.id.segGroup).queue ++ [t] := queue
  rw [ended, queue, List.length_append, List.getLast?_concat]
  exact ⟨rfl, rfl, rfl, congrArg some feed⟩

end

/-- Settles O42, row by row. -/
theorem groupAndMoveCommandsComplete : Obligations.GroupAndMoveCommandsComplete := by
  unfold Obligations.GroupAndMoveCommandsComplete
  intro s
  refine ⟨?_, ?_, ?_, ?_, ?_, ?_, ?_, ?_, ?_, ?_, ?_⟩
  · exact fun g members axes few free => groupMembersWrite_sets axes few free
  · exact fun g members many => groupMembersWrite_rejects many
  · rintro g _ rfl rest armed free long
    exact groupStart_begins rest armed free long
  · exact fun g moves => groupRappel_brakes moves
  · exact estopAll_stops
  · exact fun still rest => estopClear_clears still rest
  · rintro h _ c known ready rfl may away
    exact moveAxis_starts known ready may away
  · exact fun h g c ms known ready group members rest armed free long => moveGroup_begins known ready group members rest armed free long
  · rintro h _ c known ready rfl idle rest alone unlimited armed
    exact moveHoming_seeks known ready idle rest alone unlimited armed
  · rintro h _ c known ready rfl alone moves
    exact moveRappel_stops known ready alone moves
  · exact fun h c known segment admitted unstarted heard size room only =>
      lSegment_enters known segment admitted unstarted heard size room only

end Sys2Proof.Machine
end

section
/-!
PROOFS. A verify pass that ends with nothing left to record leaves the pickup idle (R280, R293, R296): the clause that has it wait fails.
-/
set_option Elab.async false
namespace Sys2Proof.Machine

/-- A verify pass that is over, where the station has nothing more to record: the pickup is idle. -/
theorem verifyPass_idle {s : State} {n : Fin 16} (judged : s.recording.blocks.filter (fun r => r.pickup == n.val && r.recorded && r.verifyLeft) = [])
    (verifying : (s.puRec n).verifying = true) (done : s.recording.blocks.any (fun r => r.pickup == n.val && !r.recorded) = false)
    (unqueued : (s.stationCmds (n.val / 2)).any (fun e => decide (e.2.op = Op.write) && decide (e.2.phase = .admitted)) = false) :
    exec (.verifyPass n) s = .next ((s.modPuRec n (fun p => { p with verifying := false })).put (F.REC_PU_STATUS_STATE n) 0) := by
  change execVerifyPass n s = _
  unfold execVerifyPass
  dsimp only
  have none : (sortBy (fun r => r.block) (s.recording.blocks.filter (fun r => r.pickup == n.val && r.recorded && r.verifyLeft))).isEmpty = true := by
    rw [judged]
    rfl
  rw [if_pos none, if_pos verifying]
  unfold State.restRecording
  have blocks : (s.modPuRec n fun p => { p with verifying := false }).recording.blocks = s.recording.blocks := rfl
  have cmds : (s.modPuRec n fun p => { p with verifying := false }).stationCmds (n.val / 2) = s.stationCmds (n.val / 2) := rfl
  rw [blocks, cmds, done, unqueued]
  rfl

/-- After reset, but for a verify pass that goes on at pickup 0. -/
def verifyingAlone : State := State.reset.modPuRec 0 fun p => { p with verifying := true }

/-- Refutes O45: the clause of a verify pass that has nothing left to judge gives the pickup the state 5, waiting, whatever the station has
still to record; with no block and no WRITE left the pickup is idle. -/
theorem not_recordingCommandsComplete : ¬ Obligations.RecordingCommandsComplete := by
  unfold Obligations.RecordingCommandsComplete
  intro holds
  obtain ⟨_, _, _, _, _, _, _, _, _, _, rests, _⟩ := holds verifyingAlone
  obtain ⟨t, answered, waiting⟩ := rests 0 rfl rfl
  have idle : t = (verifyingAlone.modPuRec 0 (fun p => { p with verifying := false })).put (F.REC_PU_STATUS_STATE 0) 0 :=
    Host.Outcome.next.inj (answered.symm.trans (verifyPass_idle (n := 0) rfl rfl rfl rfl))
  have five : t.fld (F.REC_PU_STATUS_STATE 0) = 5 := by
    rw [waiting]
    exact State.fld_put_fits _ ⟨rfl⟩
  have zero : t.fld (F.REC_PU_STATUS_STATE 0) = 0 := by
    rw [idle]
    exact State.fld_put_fits _ ⟨rfl⟩
  rw [five] at zero
  exact absurd zero (by decide)

end Sys2Proof.Machine
end

section
/-!
PROOFS. CALIBRATE (R475–R487). The end of a procedure lets a wait for Belay take effect (R135, R489), which may break the blocks of a run
and end their WRITEs (R289–R291); the statement does not ask that the command table hold the CALIBRATE's handle once.
-/
set_option Elab.async false
namespace Sys2Proof.Machine

/-- A CALIBRATE of the beam ADC trim, begun, on the upper pickup of station 0. -/
def trimCmd : Cmd :=
  { id := { op := Op.calibrate, body := [0, 1, 1, 0] }, phase := .admitted, started := true, data := { gathered := 65791, badBlocks := [0] } }

/-- A WRITE of one sector of block 0. -/
def oneSectorWrite : Cmd := { id := { op := Op.write, body := [1, 0, 0, 0] }, phase := .admitted, started := true }

/-- The last resumption of block 0 has been used, its run streams, and a late loop asks for Belay; the handle of the CALIBRATE stands in the
command table a second time, for the block's WRITE. -/
def trimmedWhileRecording : State :=
  { (State.reset.put (F.SRV_PU_STATE_STATE 0) Pu.follow).put (F.SRV_PU_STATE_BELAY_CAUSE 0) (2 ^ belayLate) with
    rings := { cmds := [(1, some trimCmd), (1, some oneSectorWrite)] }
    calib := { runs := [(0, { proc := 1 })] }
    recording :=
      { blocks := [{ entry := 0, station := 0, pickup := 0, mslot := 0, side := 0, layer := 0, block := 0, b := 5, stamp := 0
                     inRun := true, resumes := 100 }]
        pus := [(0, { run := { active := true } })] } }

/-- The status of command 1 in the next state. -/
def statusAfter : Res → Option Nat
  | .next t => some (t.cmd 1).res.status
  | _ => none

/-- The CALIBRATE ends WRITE_FAULT: its block breaks before its own success is fixed. -/
theorem trimmedWhileRecording_fails :
    statusAfter (exec (.calibrateAdcTrim 1 [[]]) trimmedWhileRecording) = some Status.writeFault := by decide +kernel

/-- Refutes O46: a beam ADC trim that ends while its pickup streams and a late loop asks for Belay ends WRITE_FAULT in a state whose command
table holds its handle twice. -/
theorem not_calibrationCommandsComplete : ¬ Obligations.CalibrationCommandsComplete := by
  unfold Obligations.CalibrationCommandsComplete
  intro holds
  obtain ⟨_, trimEnds, _⟩ := holds trimmedWhileRecording
  obtain ⟨t, answered, _, success, _⟩ :=
    trimEnds 1 trimCmd [[]] (by decide +kernel) (by decide) rfl (by decide) rfl rfl rfl (by decide +kernel) (by decide)
  have fails := trimmedWhileRecording_fails
  rw [answered] at fails
  exact absurd (success.symm.trans (Option.some.inj fails)) (by decide)

end Sys2Proof.Machine
end

section
/-!
PROOFS. LOAD and UNLOAD (R61–R66, R562). As with CALIBRATE, the end of the full calibration lets a wait for Belay take effect, and the
statement does not ask that the command table hold the LOAD's handle once.
-/
set_option Elab.async false
namespace Sys2Proof.Machine

/-- A LOAD of station 0 whose full calibration goes on. -/
def loadCmd : Cmd :=
  { id := { op := Op.load, body := [0, 1, 1, 0] }, phase := .admitted, started := true, data := { gathered := 65791, badBlocks := [0] } }

/-- Measurements that judge nothing. -/
def emptyFullRun : FullRun := ⟨[], [], [], [], (0, 0), [], (0, 0), (0, 0), []⟩

/-- Both pickups of station 0 follow and are calibrated while a run of pickup 0 streams, the last resumption of its block has been used, and
a late loop asks for Belay; the handle of the LOAD stands in the command table a second time, for the block's WRITE. -/
def calibratedWhileRecording : State :=
  { ((((State.reset.put (F.SRV_PU_STATE_STATE 0) Pu.follow).put (F.SRV_PU_STATE_STATE 1) Pu.follow).put (F.SRV_PU_STATE_BELAY_CAUSE 0)
      (2 ^ belayLate)).put (F.SPN_STATE_AT_SPEED 0) 1) with
    rings := { cmds := [(1, some loadCmd), (1, some oneSectorWrite)] }
    calib := { runs := [(0, { proc := 4, cmd := some 1 }), (1, { proc := 4, cmd := some 1 })] }
    recording :=
      { blocks := [{ entry := 0, station := 0, pickup := 0, mslot := 0, side := 0, layer := 0, block := 0, b := 5, stamp := 0
                     inRun := true, resumes := 100 }]
        pus := [(0, { run := { active := true } })] } }

/-- The LOAD ends WRITE_FAULT: the block breaks before the LOAD's success is fixed. -/
theorem calibratedWhileRecording_fails :
    statusAfter (exec (.load 1 none [emptyFullRun, emptyFullRun]) calibratedWhileRecording) = some Status.writeFault := by decide +kernel

/-- Refutes O47: a LOAD whose full calibration ends while a pickup streams and a late loop asks for Belay ends WRITE_FAULT in a state whose
command table holds its handle twice. -/
theorem not_loadAndUnloadCommandsComplete : ¬ Obligations.LoadAndUnloadCommandsComplete := by
  unfold Obligations.LoadAndUnloadCommandsComplete
  intro holds
  obtain ⟨_, _, _, calibrated, _⟩ := holds calibratedWhileRecording
  obtain ⟨t, answered, _, _, _, success⟩ :=
    calibrated 1 loadCmd none [emptyFullRun, emptyFullRun] (by decide +kernel) (by decide) rfl rfl rfl rfl rfl (by decide) (by decide +kernel)
      (by decide +kernel)
  have fails := calibratedWhileRecording_fails
  rw [answered] at fails
  exact absurd (success.symm.trans (Option.some.inj fails)) (by decide)

end Sys2Proof.Machine
end

section
/-!
PROOFS. The on-chip memory: the scrubber's visits, its slow lap, counts cleared, an injection armed (R303, R309–R311, R314).
-/
set_option Elab.async false
namespace Sys2Proof.Machine

section
variable {s : State}

/-! ## The scrubber -/

/-- A bank's place moves on within a lap. -/
theorem State.scrubOn_within {t : State} {bank row : Nat} (inside : row < 32767) (lap : t.mem.passed.length < 128) :
    t.scrubOn bank row = ({ t with mem := { t.mem with rows := Table.put 0 t.mem.rows bank (row + 1) } } : State).put F.MEM_SCRUB_POS_ROW
      ({ t with mem := { t.mem with rows := Table.put 0 t.mem.rows bank (row + 1) } } : State).lowestRow := by
  have early : decide (32768 ≤ row + 1) = false := decide_eq_false (by omega)
  unfold State.scrubOn
  dsimp only
  rw [early]
  simp only [Bool.false_eq_true, if_false]
  rw [if_neg (by omega)]

/-- The answer to a visit of a word that the scrubber does not check, or has checked. -/
theorem State.scrubOn_spec {t : State} {bank row : Nat} (inside : row < 32767) (lap : t.mem.passed.length < 128) :
    Table.at 0 (t.scrubOn bank row).mem.rows bank = row + 1 ∧ (t.scrubOn bank row).mem.valid = t.mem.valid ∧
      (t.scrubOn bank row).mem.poison = t.mem.poison ∧ (t.scrubOn bank row).mem.flips = t.mem.flips ∧
      SameFields [F.MEM_SCRUB_POS_ROW] t (t.scrubOn bank row) := by
  rw [State.scrubOn_within inside lap]
  refine ⟨?_, rfl, rfl, rfl, ((SameFields.refl _ t).of_regs rfl).put _⟩
  change Table.at 0 (Table.put 0 t.mem.rows bank (row + 1)) bank = row + 1
  exact Table.at_put_same ..

theorem scrubVisit_passes {bank : Fin 128} {upset : List (Fin 137)} {row : Nat} (on : s.flag F.MEM_CTRL_SCRUB_EN = true)
    (place : row = Table.at 0 s.mem.rows bank) (inside : row < 32767)
    (unchecked : (s.fld F.MEM_SCRUB_CFG_REGIONS).testBit (regionOf (16 * wordAt bank row)) = false ∨ pageBit s.mem.valid (wordAt bank row) = false)
    (lap : s.mem.passed.length < 128) : Answers (.scrubVisit bank upset) s (fun t => Table.at 0 t.mem.rows bank = row + 1 ∧
      t.mem.valid = s.mem.valid ∧ t.mem.poison = s.mem.poison ∧ t.mem.flips = s.mem.flips ∧ SameFields [F.MEM_SCRUB_POS_ROW] s t) := by
  subst place
  refine .of_eq (t := s.scrubOn bank (Table.at 0 s.mem.rows bank)) ?_ (State.scrubOn_spec inside lap)
  change execScrubVisit bank upset s = _
  unfold execScrubVisit
  rw [if_neg (by simp [on])]
  dsimp only
  rw [if_pos unchecked]

/-- The stored bits of a visited word that are wrong. -/
def upsetBits (upset : List (Fin 137)) (flips : Nat) : Nat := (upset.map (fun b => b.val)).eraseDups.foldl (fun a b => a ^^^ 2 ^ b) flips

theorem wordAt_addr_lt {bank row : Nat} (inside : row < 32767) : 16 * wordAt bank row < 2 ^ 26 := by
  unfold wordAt
  omega

theorem memError_ce (t : State) (w requester : Nat) (below : t.fld F.MEM_ERR_COUNT_CE < 65535) :
    (t.memError w requester false).fld F.MEM_ERR_COUNT_CE = t.fld F.MEM_ERR_COUNT_CE + 1 := by
  have counted : (t.incSat F.MEM_ERR_COUNT_CE 1).fld F.MEM_ERR_COUNT_CE = t.fld F.MEM_ERR_COUNT_CE + 1 := by
    unfold State.incSat
    rw [show min (t.fld F.MEM_ERR_COUNT_CE + 1) (2 ^ F.MEM_ERR_COUNT_CE.width - 1) = t.fld F.MEM_ERR_COUNT_CE + 1 from
      Nat.min_eq_left (show _ ≤ 65535 by omega)]
    exact State.fld_put_lt t (show _ < 65536 by omega)
  have noted : (t.countError false).fld F.MEM_ERR_COUNT_CE = t.fld F.MEM_ERR_COUNT_CE + 1 := by
    unfold State.countError
    extract_lets count raised noted limit
    have kept : noted.fld F.MEM_ERR_COUNT_CE = raised.fld F.MEM_ERR_COUNT_CE := by
      unfold noted
      split
      · exact State.fld_put_apart _ _ ⟨rfl⟩
      · rfl
    split
    · exact (State.fld_raise_apart _ _ _ _ ⟨rfl⟩).trans (kept.trans counted)
    · exact kept.trans counted
  rw [State.memError_eq, State.incWrap, State.fld_put_apart _ _ ⟨rfl⟩, State.fld_put_apart _ _ ⟨rfl⟩, State.fld_puts_ne,
    State.fld_of_regs (State.takeFree_regs _), noted]
  exact fun p hp => (logEntryFlds_key_ne (errorEntry_fst_mem hp) (by decide)).symm

/-- A correctable word counted, logged and written back. -/
def State.correctWord (t : State) (w requester : Nat) : State :=
  { t.memError w requester false with mem := { t.mem with flips := Table.put 0 t.mem.flips w 0 } }

theorem State.injectIn_unarmed {t : State} (unarmed : t.mem.inject = none) (lo hi : Nat) : t.injectIn lo hi = t := by
  unfold State.injectIn
  rw [unarmed]

theorem State.correctWord_regs (t : State) (w requester : Nat) : (t.correctWord w requester).regs = (t.memError w requester false).regs := by
  unfold State.correctWord
  with_reducible rfl

theorem State.checkWord_corrects {t : State} {w : Nat} (requester : Nat) (valid : pageBit t.mem.valid w = true) (clean : pageBit t.mem.poison w = false)
    (one : popCount 137 (Table.at 0 t.mem.flips w) = 1) (unarmed : t.mem.inject = none) : t.checkWord w requester = t.correctWord w requester := by
  have single : t.wordErrors w = 1 := by
    unfold State.wordErrors
    rw [one]
    rfl
  unfold State.checkWord
  rw [if_neg (by simp [valid, clean]), single]
  have logged := t.memError_mem w requester false
  unfold State.correctWord State.writeBack
  generalize t.memError w requester false = e at logged
  rw [logged]
  exact State.injectIn_unarmed (t := { e with mem := { t.mem with flips := Table.put 0 t.mem.flips w 0 } }) unarmed _ _

/-- A visited word with the bits that have been inverted. -/
def State.upsetWord (t : State) (w : Nat) (upset : List (Fin 137)) : State :=
  { t with mem := { t.mem with flips := Table.put 0 t.mem.flips w (upsetBits upset (Table.at 0 t.mem.flips w)) } }

theorem scrubVisit_checks {bank : Fin 128} {upset : List (Fin 137)} {row w : Nat} (on : s.flag F.MEM_CTRL_SCRUB_EN = true)
    (place : row = Table.at 0 s.mem.rows bank) (word : w = wordAt bank row)
    (checked : (s.fld F.MEM_SCRUB_CFG_REGIONS).testBit (regionOf (16 * w)) = true) (valid : pageBit s.mem.valid w = true) :
    exec (.scrubVisit bank upset) s = .next (((s.upsetWord w upset).checkWord w 0xD0).scrubOn bank row) := by
  change execScrubVisit bank upset s = _
  unfold execScrubVisit
  rw [if_neg (by simp [on])]
  dsimp only
  rw [← place, ← word, if_neg (by simp [checked, valid])]
  rfl

theorem scrubVisit_corrects {bank : Fin 128} {upset : List (Fin 137)} {row w : Nat} (on : s.flag F.MEM_CTRL_SCRUB_EN = true)
    (place : row = Table.at 0 s.mem.rows bank) (inside : row < 32767) (word : w = wordAt bank row)
    (checked : (s.fld F.MEM_SCRUB_CFG_REGIONS).testBit (regionOf (16 * w)) = true) (valid : pageBit s.mem.valid w = true)
    (clean : pageBit s.mem.poison w = false) (one : popCount 137 (upsetBits upset (Table.at 0 s.mem.flips w)) = 1) (unarmed : s.mem.inject = none)
    (below : s.fld F.MEM_ERR_COUNT_CE < 65535) (lap : s.mem.passed.length < 128) : Answers (.scrubVisit bank upset) s (fun t =>
      Table.at 0 t.mem.rows bank = row + 1 ∧ Table.at 0 t.mem.flips w = 0 ∧ t.fld F.MEM_ERR_COUNT_CE = s.fld F.MEM_ERR_COUNT_CE + 1 ∧
      t.fld (F.MEM_LOG_ADDR_ADDR (s.fld F.MEM_LOG_HEAD_NEXT)) = 16 * w ∧ t.flag (F.MEM_LOG_ADDR_UNCORR (s.fld F.MEM_LOG_HEAD_NEXT)) = false ∧
      t.mem.valid = s.mem.valid ∧ t.mem.poison = s.mem.poison) := by
  have stored : Table.at 0 (s.upsetWord w upset).mem.flips w = upsetBits upset (Table.at 0 s.mem.flips w) := Table.at_put_same (α := Nat) ..
  have answered := scrubVisit_checks (upset := upset) on place word checked valid
  rw [State.checkWord_corrects (t := s.upsetWord w upset) 0xD0 valid clean (by rw [stored]; exact one) unarmed] at answered
  obtain ⟨rows, validKept, poison, flips, same⟩ := State.scrubOn_spec (t := (s.upsetWord w upset).correctWord w 0xD0) (bank := bank) inside lap
  have reads {g : Fld} (apart : g.Apart F.MEM_SCRUB_POS_ROW) :
      (((s.upsetWord w upset).correctWord w 0xD0).scrubOn bank row).fld g = ((s.upsetWord w upset).memError w 0xD0 false).fld g :=
    (same g (by simpa using Fld.key_ne_of_id (Bool.not_eq_true' _ ▸ apart.eq_true))).trans (State.fld_of_regs (State.correctWord_regs ..) g)
  obtain ⟨syndrome, entry⟩ := memError_recorded (s.upsetWord w upset) w 0xD0 false
  have small : 16 * w < 2 ^ 26 := word ▸ wordAt_addr_lt inside
  refine .of_eq answered ⟨rows, ?_, ?_, ?_, ?_, validKept, poison⟩
  · rw [flips]
    exact Table.at_put_same 0 (s.upsetWord w upset).mem.flips w 0
  · rw [reads ⟨rfl⟩]
    exact memError_ce (s.upsetWord w upset) w 0xD0 below
  · rw [reads ⟨rfl⟩]
    exact (entry (F.MEM_LOG_ADDR_ADDR (s.fld F.MEM_LOG_HEAD_NEXT), 16 * w) List.mem_cons_self).trans (Nat.mod_eq_of_lt small)
  · refine State.flag_eq_false_of_fld _ ((reads ⟨rfl⟩).trans ?_)
    exact entry (F.MEM_LOG_ADDR_UNCORR (s.fld F.MEM_LOG_HEAD_NEXT), b2n false) (List.mem_cons_of_mem _ (List.mem_cons_of_mem _ List.mem_cons_self))

theorem scrubLapSlow_raises (on : s.flag F.MEM_CTRL_SCRUB_EN = true) : Answers .scrubLapSlow s (fun t => t.flag F.MEM_STATUS_SCRUB_SLOW = true ∧
    t.mem = s.mem ∧ SameFields [F.MEM_STATUS_SCRUB_SLOW] s t) :=
  .of_eq (if_neg (by simp [on])) ⟨State.flag_raise_same _ _ _ _ ⟨rfl⟩, State.raise_mem .., (SameFields.refl _ s).raise _ _ _⟩

/-! ## Injection -/

theorem bitsOf_arm (v : Nat) : bitsOf (2 ^ 24 ||| v) 25 1 = v / 2 ^ 25 % 2 := by
  unfold bitsOf
  rw [Nat.shiftRight_eq_div_pow, Nat.or_div_two_pow]
  exact congrArg (· % 2) (Nat.zero_or _)

theorem memInjectArm_stores (value : Word) : Answers (.memInjectArm value) s (fun t =>
    t.mem.inject = some (value.toNat % 2 ^ 22, value.toNat.testBit 25) ∧ t.fld F.MEM_INJECT_PENDING = 1 ∧
    t.fld F.MEM_INJECT_ADDR = value.toNat % 2 ^ 22 ∧ t.fld F.MEM_INJECT_DOUBLE = (value.toNat / 2 ^ 25) % 2 ∧
    SameFields [F.MEM_INJECT_PENDING, F.MEM_INJECT_ADDR, F.MEM_INJECT_DOUBLE] s t) := by
  obtain ⟨arm, addr, dbl⟩ := inject_fields_of_arm value.toNat
  have field : bitsOf value.toNat 0 22 = value.toNat % 2 ^ 22 := by simp [bitsOf]
  let written := (s.put F.MEM_INJECT_ADDR (value.toNat % 2 ^ 22)).put F.MEM_INJECT_DOUBLE (value.toNat / 2 ^ 25 % 2)
  let armed : State := { written with mem := { s.mem with inject := some (value.toNat % 2 ^ 22, value.toNat.testBit 25) } }
  refine .of_eq (t := armed.put F.MEM_INJECT_PENDING 1) ?_ ⟨rfl, State.fld_put_fits armed ⟨rfl⟩, ?_, ?_, ?_⟩
  · change execMemInjectArm value s = _
    unfold execMemInjectArm State.writeInject
    dsimp only
    rw [if_pos arm, addr, dbl, field, bitsOf_arm]
    rfl
  · rw [State.fld_put_apart _ _ ⟨rfl⟩]
    exact (State.fld_put_apart _ _ ⟨rfl⟩).trans (State.fld_put_lt s (Nat.mod_lt _ (by decide)))
  · rw [State.fld_put_apart _ _ ⟨rfl⟩]
    exact State.fld_put_lt (s.put F.MEM_INJECT_ADDR (value.toNat % 2 ^ 22)) (f := F.MEM_INJECT_DOUBLE) (Nat.mod_lt _ (by decide))
  · exact SameFields.put (t := armed) (SameFields.of_regs (t := written) (((SameFields.refl _ s).put _).put _) rfl) _

end

/-- Settles O48. -/
theorem onChipMemoryCommandsComplete : Obligations.OnChipMemoryCommandsComplete := by
  intro s
  exact ⟨fun bank upset row => scrubVisit_passes, fun bank upset row w => scrubVisit_corrects, scrubLapSlow_raises, .of_eq rfl rfl,
    fun value => memInjectArm_stores value⟩

end Sys2Proof.Machine
end

section
/-!
PROOFS. Packets of the tree (R441). The statement takes the command of a grant from the list of all commands; the target answers with the
command that the table gives for its handle, and no premise makes the two the same.
-/
set_option Elab.async false
namespace Sys2Proof.Machine

/-- A command from this controller's own ring whose answer of four bytes waits. -/
def answeringCmd : Cmd := { id := { op := Op.attest }, phase := .admitted, data := { plain := [(0, [1, 2, 3, 4])] } }

/-- A READ that came down the tree under chain tag 5. -/
def chainRead : Cmd := { id := { op := Op.read }, origin := .chain 0 5, phase := .admitted }

/-- A grant of four bytes for chain tag 5. -/
def grantOfFour : InPacket :=
  ⟨0, 0, { type := Pkt.xferRdy, flags := 0, dest := 0, src := 0, tag := 5, offset := 0, payload := leBytes 4 0 ++ leBytes 4 4 }, []⟩

/-- A target whose command table holds a handle twice: first for the command whose answer waits, then for the READ of the grant. -/
def grantedTwice : State :=
  { State.reset with root := false, rings := { cmds := [(1, some answeringCmd), (1, some chainRead)] }, mbl := { inbox := [grantOfFour] } }

/-- The grants of the next state. -/
def grantsAfter : Res → Option (List Grant)
  | .next t => some t.mbl.grants
  | _ => none

/-- The answer takes up the grant at once. -/
theorem grantedTwice_sends : grantsAfter (exec .xferRdyPacket grantedTwice) = some [] := by decide +kernel

/-- Refutes O50: the grant of a READ whose handle the command table holds a second time, for a command with an answer, is taken up at once,
where the statement has it wait. -/
theorem not_treePacketsAndTimeCommandsComplete : ¬ Obligations.TreePacketsAndTimeCommandsComplete := by
  unfold Obligations.TreePacketsAndTimeCommandsComplete
  intro holds
  obtain ⟨_, granted, _⟩ := holds grantedTwice
  obtain ⟨t, answered, waits, _⟩ := granted grantOfFour [] 1 chainRead rfl rfl rfl (by decide +kernel) (by decide) (by decide)
  have sends := grantedTwice_sends
  rw [answered] at sends
  exact absurd ((Option.some.inj sends).symm.trans waits) (by decide +kernel)

end Sys2Proof.Machine
end

section
/-!
PROOFS. Hot-plug slots (R463–R469) and the reset of a station (R521).
-/
set_option Elab.async false
namespace Sys2Proof.Machine

/-! ## A station without power -/

/-- Both loops and lanes of a pickup are let go, and its actuators are at rest. -/
def State.pickupIdled (s : State) (n : Nat) : State :=
  let s := s.holdLanes n
  let s := s.forEach (List.range 4) (fun s l => s.setMode n l 0)
  let s := (s.put (F.SRV_DAC_FT_FOC n) 0).put (F.SRV_DAC_FT_TRK n) 0
  s.put (F.SRV_DAC_TLT_TLT n) 0

/-- What the controller kept of a pickup that is OFF goes too. -/
def State.pickupCleared (s : State) (n : Nat) : State :=
  let s := (s.put (F.SRV_PU_STATE_BELAY_CAUSE n) 0).put (F.SRV_PU_STATE_RECOVER_COUNT n) 0
  let s := ((s.put (F.SRV_LDD_CTRL_LDEN_REQ n) 0).put (F.SRV_LDD_STATUS_LDEN n) 0).put (F.SRV_LDD_STATUS_LINK_UP n) 0
  let s := (s.put (F.SRV_LP_STATUS_BELAY_LATE n) 0).setPickup n {}
  let p := s.lp n
  let s := s.setLp n { trkLp := p.trkLp, trace := p.trace }
  let m := s.motor n
  let s := (s.put (F.MOT_GEAR_CTRL_ENGAGE n) 0).setMotor n { pos := m.pos, target := m.pos, emitted := m.emitted }
  s.showMotor n

/-- One pickup of a station loses its power. -/
def State.pickupDark (s : State) (n : Nat) : State := ((s.pickupIdled n).put (F.SRV_PU_STATE_STATE n) Pu.off).pickupCleared n

/-- The spindle of a station loses its power. -/
def State.spindleDark (s : State) (st : Nat) : State :=
  let x := s.spindle st
  let s := ((s.put (F.SPN_CTRL_RUN st) 0).put (F.SPN_STATE_SPEED st) 0).spnEnter st Spn.off .off
  s.setSpindle st { master := x.master, angle := x.angle }

theorem State.darken_eq (s : State) (st : Nat) : s.darken st = (s.forEach [2 * st, 2 * st + 1] State.pickupDark).spindleDark st := by
  unfold State.darken State.spindleDark State.pickupDark State.pickupIdled State.pickupCleared
  dsimp only

section
variable (s : State) (n m : Nat)

theorem State.puState_pickupIdled : (s.pickupIdled n).puState m = s.puState m := by
  unfold State.pickupIdled
  extract_lets held idled focused
  have lanes : held.puState m = s.puState m :=
    (State.holdLanes_frame (.refl (allBut [.srvRegs]) s) n (within_of (by decide))) .srvRegs rfl (F.SRV_PU_STATE_STATE m) rfl
  have loops : ServoKept loopKinds held idled := (ServoKept.refl _ held).forEach _ fun t l kept => kept.step (State.setMode_servo t n l 0)
  clear_value idled
  exact (((State.fld_put_apart _ _ ⟨rfl⟩).trans (State.fld_put_apart _ _ ⟨rfl⟩)).trans (State.fld_put_apart _ _ ⟨rfl⟩)).trans
    ((State.puState_of_kept loops ⟨rfl⟩ m).trans lanes)

/-- The fields that a cleared pickup writes. -/
def clearedFlds (n : Nat) : List Fld :=
  [F.SRV_PU_STATE_BELAY_CAUSE n, F.SRV_PU_STATE_RECOVER_COUNT n, F.SRV_LDD_CTRL_LDEN_REQ n, F.SRV_LDD_STATUS_LDEN n, F.SRV_LDD_STATUS_LINK_UP n,
    F.SRV_LP_STATUS_BELAY_LATE n, F.MOT_GEAR_CTRL_ENGAGE n, F.MOT_POS_POS n, F.MOT_STATUS_PHASE n]

theorem State.pickupCleared_same : SameFields (clearedFlds n) s (s.pickupCleared n) := by
  unfold State.pickupCleared State.showMotor
  extract_lets counted linked shut p lp m stopped x
  have first : SameFields (clearedFlds n) s counted := ((SameFields.refl _ s).put _ (by simp [clearedFlds])).put _ (by simp [clearedFlds])
  clear_value counted
  have second : SameFields (clearedFlds n) s linked :=
    ((first.put _ (by simp [clearedFlds])).put _ (by simp [clearedFlds])).put _ (by simp [clearedFlds])
  clear_value linked
  have third : SameFields (clearedFlds n) s lp :=
    ((second.put (f := F.SRV_LP_STATUS_BELAY_LATE n) 0 (by simp [clearedFlds])).of_regs (u := shut) rfl).of_regs rfl
  clear_value lp
  have fourth : SameFields (clearedFlds n) s stopped := (third.put (f := F.MOT_GEAR_CTRL_ENGAGE n) 0 (by simp [clearedFlds])).of_regs rfl
  clear_value stopped
  exact (fourth.put _ (by simp [clearedFlds])).put _ (by simp [clearedFlds])

theorem State.puState_pickupDark : (s.pickupDark n).puState m = if m = n then Pu.off else s.puState m := by
  have after : (s.pickupDark n).puState m = ((s.pickupIdled n).put (F.SRV_PU_STATE_STATE n) Pu.off).puState m :=
    (State.pickupCleared_same ((s.pickupIdled n).put (F.SRV_PU_STATE_STATE n) Pu.off) n).reads (F.SRV_PU_STATE_STATE m) ⟨rfl⟩
  rw [after]
  split
  next same => subst same; exact State.fld_put_fits _ ⟨rfl⟩
  next other =>
    exact (State.fld_put_ne (f := F.SRV_PU_STATE_STATE n) (g := F.SRV_PU_STATE_STATE m) _ Pu.off (Fld.key_ne_of_ix rfl other)).trans
      (State.puState_pickupIdled s n m)

/-- The fields of a spindle that enters OFF. -/
def State.spindleOff (s : State) (st : Nat) : State :=
  ((s.put (F.SPN_STATE_STATE st) Spn.off).put (F.SPN_STATE_AT_SPEED st) 0).put (F.SPN_STATE_ANGLE_VALID st) 0

theorem State.spnEnter_off_regs (st : Nat) (b : Bridge) : (s.spnEnter st Spn.off b).regs = (s.spindleOff st).regs := rfl

theorem State.spindleDark_regs (st : Nat) :
    (s.spindleDark st).regs = (((s.put (F.SPN_CTRL_RUN st) 0).put (F.SPN_STATE_SPEED st) 0).spindleOff st).regs := State.spnEnter_off_regs _ st .off

theorem State.spindleDark_same (st : Nat) : SameFields [F.SPN_CTRL_RUN st, F.SPN_STATE_SPEED st, F.SPN_STATE_STATE st, F.SPN_STATE_AT_SPEED st,
    F.SPN_STATE_ANGLE_VALID st] s (s.spindleDark st) := by
  refine .of_regs (t := ((s.put (F.SPN_CTRL_RUN st) 0).put (F.SPN_STATE_SPEED st) 0).spindleOff st) ?_ (s.spindleDark_regs st)
  exact (((((SameFields.refl _ s).put _).put _).put _).put _).put _

theorem State.spnState_spindleDark (st : Nat) : (s.spindleDark st).spnState st = Spn.off := by
  refine (State.fld_of_regs (s.spindleDark_regs st) _).trans ?_
  unfold State.spindleOff
  simp (disch := exact ⟨rfl⟩)

theorem State.puState_darken (st : Nat) (own : m ∈ [2 * st, 2 * st + 1]) : (s.darken st).puState m = Pu.off := by
  rw [State.darken_eq]
  refine ((State.spindleDark_same _ st).reads (F.SRV_PU_STATE_STATE m) ⟨rfl⟩).trans ?_
  refine State.forEach_reaches (P := fun t => t.fld (F.SRV_PU_STATE_STATE m) = Pu.off) (f := State.pickupDark) own (fun t => ?_) (fun t n off => ?_) s
  · exact (State.puState_pickupDark t m m).trans (if_pos rfl)
  · refine (State.puState_pickupDark t n m).trans ?_
    split
    · rfl
    · exact off

theorem State.spnState_darken (st : Nat) : (s.darken st).spnState st = Spn.off := by
  rw [State.darken_eq, State.spnState_spindleDark]

end

/-- A station that has nothing: no disc, no state, its pickups and its spindle off. -/
structure StationDark (t : State) (st : Nat) : Prop where
  station : t.station st = {}
  lower : t.puState (2 * st) = Pu.off
  upper : t.puState (2 * st + 1) = Pu.off
  spindle : t.spnState st = Spn.off

theorem State.station_of_stations {s t : State} (same : t.stations = s.stations) (k : Nat) : t.station k = s.station k := by
  unfold State.station
  rw [same]

/-- The mask of everything but what a dark station is known by. -/
def allButStations : Nat := allBut [.stations, .srvRegs, .spnRegs]

theorem StationDark.of_frame {t u : State} {st : Nat} (h : StationDark t st) (frame : Frame allButStations t u) : StationDark u st where
  station := (State.station_of_stations (frame .stations rfl) st).trans h.station
  lower := (frame .srvRegs rfl (F.SRV_PU_STATE_STATE (2 * st)) rfl).trans h.lower
  upper := (frame .srvRegs rfl (F.SRV_PU_STATE_STATE (2 * st + 1)) rfl).trans h.upper
  spindle := (frame .spnRegs rfl (F.SPN_STATE_STATE st) rfl).trans h.spindle

theorem StationDark.of_darken {s t : State} {st : Nat} (frame : Frame (allBut [.srvRegs, .spnRegs]) (s.darken st) t) (empty : t.station st = {}) :
    StationDark t st where
  station := empty
  lower := (frame .srvRegs rfl (F.SRV_PU_STATE_STATE (2 * st)) rfl).trans (s.puState_darken _ st (by simp))
  upper := (frame .srvRegs rfl (F.SRV_PU_STATE_STATE (2 * st + 1)) rfl).trans (s.puState_darken _ st (by simp))
  spindle := (frame .spnRegs rfl (F.SPN_STATE_STATE st) rfl).trans (s.spnState_darken st)

theorem State.station_setStation_same (s : State) (st : Nat) (x : Station) : (s.setStation st x).station st = x := Table.at_put_same ..

theorem State.station_forgetStation (s : State) (st : Nat) : (s.forgetStation st).station st = {} := by
  unfold State.forgetStation
  exact State.station_setStation_same ..

theorem State.stationGone_dark (s : State) (st cause : Nat) : StationDark (s.stationGone st cause) st := by
  unfold State.stationGone
  extract_lets lost emptied broken gone told
  have dark : StationDark gone st := .of_darken
    (State.forgetStation_frame (.refl _ (broken.darken st)) st (within_of (by decide))) (State.station_forgetStation ..)
  clear_value gone
  exact dark.of_frame (State.post_frame (State.when_frame (.refl _ gone) _ _ fun t kept =>
    State.post_frame kept _ _ _ (within_of (by decide))) _ _ _ (within_of (by decide)))

theorem State.slotLoss_dark (s : State) {k : Nat} (stationSlot : k < 8) (old cause : Nat) : StationDark (s.slotLoss k old cause) k := by
  unfold State.slotLoss
  rw [if_neg (Nat.not_le.mpr stationSlot)]
  split
  · exact .of_darken (s := s) (State.setStation_frame (.refl _ _) _ _ (within_of (by decide))) (State.station_setStation_same ..)
  · exact s.stationGone_dark k cause

/-- The registers of slots are no concern of what a slot loses. -/
theorem State.slotLoss_hpc (s : State) (k old cause : Nat) (g : Fld) (slots : g.group = .hpcRegs) : (s.slotLoss k old cause).fld g = s.fld g :=
  (State.slotLoss_frame (.refl (allBut [.hpcRegs]) s) k old cause (within_of (by decide))) .hpcRegs rfl g slots

/-! ## The states of slots -/

section
variable (s : State) (k v : Nat)

theorem State.slotState_toSlot (small : v < 16) : (s.toSlot k v).slotState k = v := by
  unfold State.toSlot State.slotState
  simp (disch := exact ⟨rfl⟩) only [State.fld_put_apart, State.fld_setFlag_apart]
  exact State.fld_put_lt s small

theorem State.toSlot_frame_stations : Frame allButStations s (s.toSlot k v) := State.toSlot_frame (.refl _ s) k v (within_of (by decide))

theorem State.flag_toSlot (g : Fld) (state : g.Apart (F.HPC_SLOT_STATUS_STATE k)) (request : g.Apart (F.HPC_SLOT_CTRL_PWR_REQ k))
    (power : g.Apart F.HPC_SUMMARY_POWERED) : (s.toSlot k v).flag g = s.flag g := by
  unfold State.toSlot
  rw [State.flag_put_apart _ _ power, State.flag_setFlag_apart _ _ request, State.flag_put_apart _ _ state]

end

theorem SameFields.toSlot {but : List Fld} {s t : State} {k : Nat} (h : SameFields but s t) (v : Nat)
    (state : F.HPC_SLOT_STATUS_STATE k ∈ but := by simp) (request : F.HPC_SLOT_CTRL_PWR_REQ k ∈ but := by simp)
    (power : F.HPC_SUMMARY_POWERED ∈ but := by simp) : SameFields but s (t.toSlot k v) :=
  ((h.put _ state).setFlag _ request).put _ power

/-- A longer list of fields may be excepted. -/
theorem SameFields.listed {but more : List Fld} {s t : State} (h : SameFields but s t) (sub : ∀ f ∈ but, f ∈ more := by simp) :
    SameFields more s t := fun g other => h g fun f mem => other f (sub f mem)

/-- The bit of a slot with power. -/
theorem State.powered_toSlot (s : State) (k : Fin 12) {v : Nat} (high : slotHigh v = true) :
    ((s.toSlot k v).fld F.HPC_SUMMARY_POWERED).testBit k.val = true := by
  unfold State.toSlot withBit
  rw [State.fld_put_same, high, if_pos rfl]
  exact testBit_set k.isLt

/-! ## Insertion and removal -/

section
variable {s : State} {k : Fin 12}

/-- A module is there, and its insertion is told. -/
def State.slotFilled (s : State) (k : Nat) : State :=
  (s.setPresent k true).raise (F.HPC_SLOT_STATUS_PRESENT_CHG k) 0x0C01 (srcSlot k) [k, 1]

/-- A module without power is gone, and its removal is told. -/
def State.slotVacated (s : State) (k : Nat) : State :=
  (s.setPresent k false).raise (F.HPC_SLOT_STATUS_PRESENT_CHG k) 0x0C01 (srcSlot k) [k, 0]

/-- A module with power is gone, and its removal is told. -/
def State.slotTorn (s : State) (k v : Nat) : State :=
  (s.setPresent k false).raise (F.HPC_SLOT_STATUS_SURPRISE k) 0x0C07 (srcSlot k) [k, v]

theorem State.slotFilled_shows (s : State) (k : Nat) :
    (s.slotFilled k).flag (F.HPC_SLOT_STATUS_PRESENT k) = true ∧ (s.slotFilled k).flag (F.HPC_SLOT_STATUS_PRESENT_CHG k) = true ∧
      SameFields [F.HPC_SLOT_STATUS_PRESENT k, F.HPC_SLOT_STATUS_PRESENT_CHG k, F.HPC_SUMMARY_PRESENT] s (s.slotFilled k) := by
  unfold State.slotFilled State.setPresent
  refine ⟨?_, State.flag_raise_same _ _ _ _ ⟨rfl⟩, (((SameFields.refl _ s).setFlag _).put _).raise _ _ _⟩
  simp (disch := exact ⟨rfl⟩)

theorem State.slotVacated_shows (s : State) (k : Nat) :
    (s.slotVacated k).flag (F.HPC_SLOT_STATUS_PRESENT k) = false ∧ (s.slotVacated k).flag (F.HPC_SLOT_STATUS_PRESENT_CHG k) = true ∧
      SameFields [F.HPC_SLOT_STATUS_PRESENT k, F.HPC_SLOT_STATUS_PRESENT_CHG k, F.HPC_SUMMARY_PRESENT] s (s.slotVacated k) := by
  unfold State.slotVacated State.setPresent
  refine ⟨?_, State.flag_raise_same _ _ _ _ ⟨rfl⟩, (((SameFields.refl _ s).setFlag _).put _).raise _ _ _⟩
  simp (disch := exact ⟨rfl⟩)

theorem State.slotTorn_shows (s : State) (k v : Nat) :
    (s.slotTorn k v).flag (F.HPC_SLOT_STATUS_PRESENT k) = false ∧ (s.slotTorn k v).flag (F.HPC_SLOT_STATUS_SURPRISE k) = true := by
  unfold State.slotTorn State.setPresent
  refine ⟨?_, State.flag_raise_same _ _ _ _ ⟨rfl⟩⟩
  simp (disch := exact ⟨rfl⟩)

theorem slotInsertion_off (empty : s.slotState k = Slot.empty) (manual : s.flag (F.HPC_SLOT_CFG_AUTO_ON k) = false) :
    Answers (.slotInsertion k) s (fun t => t.slotState k = Slot.off ∧ t.flag (F.HPC_SLOT_STATUS_PRESENT k) = true ∧
      t.flag (F.HPC_SLOT_STATUS_PRESENT_CHG k) = true ∧ SameFields [F.HPC_SLOT_STATUS_STATE k, F.HPC_SLOT_STATUS_PRESENT k,
      F.HPC_SLOT_STATUS_PRESENT_CHG k, F.HPC_SUMMARY_PRESENT, F.HPC_SUMMARY_POWERED, F.HPC_SLOT_CTRL_PWR_REQ k] s t) := by
  obtain ⟨present, changed, same⟩ := s.slotFilled_shows k
  have stays : (s.slotFilled k).flag (F.HPC_SLOT_CFG_AUTO_ON k) = false := (same.shows _ ⟨rfl⟩).trans manual
  have answered : exec (.slotInsertion k) s = .next ((s.slotFilled k).toSlot k Slot.off) := by
    change execSlotInsertion k s = _
    unfold execSlotInsertion
    dsimp only
    rw [if_pos empty]
    exact congrArg Host.Outcome.next (if_neg (Bool.eq_false_iff.mp stays))
  refine .of_eq answered ⟨State.slotState_toSlot _ _ _ (by decide), ?_, ?_, SameFields.toSlot same.listed _⟩
  · rw [State.flag_toSlot _ _ _ _ ⟨rfl⟩ ⟨rfl⟩ ⟨rfl⟩, present]
  · rw [State.flag_toSlot _ _ _ _ ⟨rfl⟩ ⟨rfl⟩ ⟨rfl⟩, changed]

theorem State.powerUp_closed {t : State} (closed : t.flag F.SYS_PACE_STATUS_CLOSED = true) (k : Nat) : t.powerUp k = t.toSlot k Slot.powering :=
  if_pos closed

theorem slotInsertion_powers (empty : s.slotState k = Slot.empty) (auto : s.flag (F.HPC_SLOT_CFG_AUTO_ON k) = true)
    (closed : s.flag F.SYS_PACE_STATUS_CLOSED = true) : Answers (.slotInsertion k) s (fun t => t.slotState k = Slot.powering ∧
      t.flag (F.HPC_SLOT_STATUS_PRESENT k) = true ∧ (t.fld F.HPC_SUMMARY_POWERED).testBit k.val = true) := by
  obtain ⟨present, _, same⟩ := s.slotFilled_shows k
  have stays : (s.slotFilled k).flag (F.HPC_SLOT_CFG_AUTO_ON k) = true := (same.shows _ ⟨rfl⟩).trans auto
  have paced : (s.slotFilled k).flag F.SYS_PACE_STATUS_CLOSED = true := (same.shows _ ⟨rfl⟩).trans closed
  have answered : exec (.slotInsertion k) s = .next ((s.slotFilled k).toSlot k Slot.powering) := by
    change execSlotInsertion k s = _
    unfold execSlotInsertion
    dsimp only
    rw [if_pos empty]
    exact congrArg Host.Outcome.next ((if_pos stays).trans (State.powerUp_closed paced k))
  refine .of_eq answered ⟨State.slotState_toSlot _ _ _ (by decide), ?_, State.powered_toSlot _ k rfl⟩
  rw [State.flag_toSlot _ _ _ _ ⟨rfl⟩ ⟨rfl⟩ ⟨rfl⟩, present]

theorem slotHigh_of_low {v : Nat} (low : v = Slot.off ∨ v = Slot.waitOn) : slotHigh v = false := by
  rcases low with rfl | rfl <;> rfl

theorem slotRemoval_empties (low : s.slotState k = Slot.off ∨ s.slotState k = Slot.waitOn) :
    Answers (.slotRemoval k) s (fun t => t.slotState k = Slot.empty ∧ t.flag (F.HPC_SLOT_STATUS_PRESENT k) = false ∧
      t.flag (F.HPC_SLOT_STATUS_PRESENT_CHG k) = true ∧ SameFields [F.HPC_SLOT_STATUS_STATE k, F.HPC_SLOT_STATUS_PRESENT k,
      F.HPC_SLOT_STATUS_PRESENT_CHG k, F.HPC_SUMMARY_PRESENT, F.HPC_SUMMARY_POWERED, F.HPC_SLOT_CTRL_PWR_REQ k] s t) := by
  obtain ⟨gone, changed, same⟩ := s.slotVacated_shows k
  have answered : exec (.slotRemoval k) s = .next ((s.slotVacated k).toSlot k Slot.empty) := by
    change execSlotRemoval k s = _
    unfold execSlotRemoval
    dsimp only
    rw [if_neg (Bool.eq_false_iff.mp (slotHigh_of_low low)), if_pos low]
    rfl
  refine .of_eq answered ⟨State.slotState_toSlot _ _ _ (by decide), ?_, ?_, SameFields.toSlot same.listed _⟩
  · rw [State.flag_toSlot _ _ _ _ ⟨rfl⟩ ⟨rfl⟩ ⟨rfl⟩, gone]
  · rw [State.flag_toSlot _ _ _ _ ⟨rfl⟩ ⟨rfl⟩ ⟨rfl⟩, changed]

theorem State.slotLoss_flag (s : State) (k old cause : Nat) (g : Fld) (slots : g.group = .hpcRegs) : (s.slotLoss k old cause).flag g = s.flag g := by
  unfold State.flag
  rw [State.slotLoss_hpc s k old cause g slots]

theorem slotRemoval_surprises (high : slotHigh (s.slotState k) = true) : Answers (.slotRemoval k) s (fun t => t.slotState k = Slot.empty ∧
      t.flag (F.HPC_SLOT_STATUS_PRESENT k) = false ∧ t.flag (F.HPC_SLOT_STATUS_SURPRISE k) = true ∧
      (k.val < 8 → t.station k = {} ∧ t.puState (2 * k) = Pu.off ∧ t.puState (2 * k + 1) = Pu.off ∧ t.spnState k = Spn.off)) := by
  obtain ⟨gone, told⟩ := s.slotTorn_shows k (s.slotState k)
  have answered : exec (.slotRemoval k) s =
      .next (((s.slotTorn k (s.slotState k)).toSlot k Slot.empty).slotLoss k (s.slotState k) 1) := by
    change execSlotRemoval k s = _
    unfold execSlotRemoval
    dsimp only
    rw [if_pos high]
    rfl
  refine .of_eq answered ⟨?_, ?_, ?_, fun stationSlot => ?_⟩
  · exact (State.slotLoss_hpc _ _ _ _ _ rfl).trans (State.slotState_toSlot _ _ _ (by decide))
  · rw [State.slotLoss_flag _ _ _ _ _ rfl, State.flag_toSlot _ _ _ _ ⟨rfl⟩ ⟨rfl⟩ ⟨rfl⟩, gone]
  · rw [State.slotLoss_flag _ _ _ _ _ rfl, State.flag_toSlot _ _ _ _ ⟨rfl⟩ ⟨rfl⟩ ⟨rfl⟩, told]
  · obtain ⟨station, lower, upper, spindle⟩ :=
      State.slotLoss_dark ((s.slotTorn k (s.slotState k)).toSlot k Slot.empty) stationSlot (s.slotState k) 1
    exact ⟨station, lower, upper, spindle⟩

theorem slotPowerFault_faults (high : slotHigh (s.slotState k) = true) : Answers (.slotPowerFault k) s (fun t => t.slotState k = Slot.fault ∧
      t.flag (F.HPC_SLOT_STATUS_PWR_FAULT k) = true ∧
      (k.val < 8 → t.station k = {} ∧ t.puState (2 * k) = Pu.off ∧ t.puState (2 * k + 1) = Pu.off ∧ t.spnState k = Spn.off)) := by
  let faulted := (s.toSlot k Slot.fault).raise (F.HPC_SLOT_STATUS_PWR_FAULT k) 0x0C06 (srcSlot k) [k, 0]
  have answered : exec (.slotPowerFault k) s = .next (faulted.slotLoss k (s.slotState k) 2) := by
    change execSlotPowerFault k s = _
    unfold execSlotPowerFault
    dsimp only
    rw [if_pos high]
  refine .of_eq answered ⟨?_, ?_, fun stationSlot => ?_⟩
  · refine (State.slotLoss_hpc _ _ _ _ _ rfl).trans ?_
    exact (State.fld_raise_apart _ _ _ _ ⟨rfl⟩).trans (State.slotState_toSlot _ _ _ (by decide))
  · rw [State.slotLoss_flag _ _ _ _ _ rfl]
    exact State.flag_raise_same _ _ _ _ ⟨rfl⟩
  · obtain ⟨station, lower, upper, spindle⟩ := State.slotLoss_dark faulted stationSlot (s.slotState k) 2
    exact ⟨station, lower, upper, spindle⟩

end

/-! ## Bring-up: the default loop sets (R465) -/

/-- The input, gain and limits of a loop's default set. -/
def State.loopIo (s : State) (n l : Nat) : State :=
  let sel := [1, 3, 5, 10].getD l 0
  let lim := [1932735283, 1932735283, 1610612736, 4194304].getD l 0
  let s := (s.put (F.SRV_LOOP_IN_SEL_A n l) sel).put (F.SRV_LOOP_IN_SEL_B n l) 0
  let s := (s.put (F.SRV_LOOP_WA_C n l) (2 ^ 30)).put (F.SRV_LOOP_WB_C n l) 0
  let s := ((s.put (F.SRV_LOOP_OFFSET_OFFSET n l) 0).put (F.SRV_LOOP_SHIFT_S_A n l) 30).put (F.SRV_LOOP_SHIFT_S_B n l) 0
  let s := (s.put (F.SRV_LOOP_GAIN_C n l) (1 + Config.loopDefault l 0 % (2 ^ 31 - 1))).put (F.SRV_LOOP_SHIFT_S_G n l) (Config.loopDefault l 1)
  (s.put (F.SRV_LOOP_LIM_HI_LIM_HI n l) lim).sput (F.SRV_LOOP_LIM_LO_LIM_LO n l) (-(lim : Int))

/-- The coefficients of one section of a loop's default set. -/
def State.loopSection (n l : Nat) (s : State) (k : Nat) : State :=
  let v (i : Nat) : Nat := Config.loopDefault l (2 + 6 * k + i)
  let s := ((s.put (F.SRV_SECT_B0_C n l k) (v 0)).put (F.SRV_SECT_B1_C n l k) (v 1)).put (F.SRV_SECT_B2_C n l k) (v 2)
  ((s.put (F.SRV_SECT_A1_C n l k) (v 3)).put (F.SRV_SECT_A2_C n l k) (v 4)).put (F.SRV_SECT_SHIFT_S n l k) (v 5)

/-- The sections of a loop's default set. -/
def loopEnables (l : Nat) : Nat := if l < 2 then 0x100F else 3

def State.loopSections (s : State) (n l : Nat) : State :=
  s.forEach ((List.range 14).filter (fun k => (loopEnables l).testBit k)) (State.loopSection n l)

theorem State.loadLoopSet_eq (s : State) (n l : Nat) : s.loadLoopSet n l =
    (((((s.loopIo n l).loopSections n l).put (F.SRV_LOOP_SECT_EN_EN n l) (loopEnables l)).modLp n fun p =>
      p.setLoop l { p.loop l with writes := (p.loop l).writes ++ [(loopEnables l, none)] }).updateCost n) := by
  unfold State.loadLoopSet State.loopSections State.loopIo loopEnables State.loopSection
  dsimp only

/-- What a default set writes beyond a loop's input, gain and limits: its sections and enables, and the costs that they bring. -/
def setKinds : List Nat :=
  loopKinds ++ [F.SRV_LOOP_SECT_EN_EN 0 0, F.SRV_SECT_B0_C 0 0 0, F.SRV_SECT_B1_C 0 0 0, F.SRV_SECT_B2_C 0 0 0, F.SRV_SECT_A1_C 0 0 0,
    F.SRV_SECT_A2_C 0 0 0, F.SRV_SECT_SHIFT_S 0 0 0].map Fld.kind

/-- What its sections write. -/
def sectionKinds : List Nat :=
  [F.SRV_SECT_B0_C 0 0 0, F.SRV_SECT_B1_C 0 0 0, F.SRV_SECT_B2_C 0 0 0, F.SRV_SECT_A1_C 0 0 0, F.SRV_SECT_A2_C 0 0 0, F.SRV_SECT_SHIFT_S 0 0 0].map
    Fld.kind

section
variable (s : State) (n l m j : Nat)

theorem State.loopSections_servo : ServoKept sectionKinds s (s.loopSections n l) :=
  (ServoKept.refl _ s).forEach _ fun _ _ kept => (((((kept.put _).put _).put _).put _).put _).put _

theorem State.loadLoopSet_servo : ServoKept setKinds (s.loopIo n l) (s.loadLoopSet n l) := by
  rw [State.loadLoopSet_eq]
  exact (((((ServoKept.refl setKinds _).step (State.loopSections_servo ..)).put _).modLp n _).step (State.updateCost_servo ..))

theorem State.fld_put_congr {s t : State} {f g : Fld} (v : Nat) (alike : f.reset = g.reset) (same : s.fld g = t.fld g) :
    (s.put f v).fld g = (t.put f v).fld g := by
  by_cases hit : g.key = f.key
  · unfold State.fld State.put
    dsimp only
    rw [hit, alike, Table.get_set_same, Table.get_set_same]
  · rw [State.fld_put_ne _ _ hit, State.fld_put_ne _ _ hit, same]

theorem State.inSel_loadLoopSet : (s.loadLoopSet n l).fld (F.SRV_LOOP_IN_SEL_A m j) =
    (s.put (F.SRV_LOOP_IN_SEL_A n l) ([1, 3, 5, 10].getD l 0)).fld (F.SRV_LOOP_IN_SEL_A m j) := by
  rw [(s.loadLoopSet_servo n l).fld _ rfl ⟨rfl⟩]
  unfold State.loopIo State.sput
  simp (disch := exact ⟨rfl⟩) only [State.fld_put_apart]

theorem State.limHi_loadLoopSet : (s.loadLoopSet n l).fld (F.SRV_LOOP_LIM_HI_LIM_HI m j) =
    (s.put (F.SRV_LOOP_LIM_HI_LIM_HI n l) ([1932735283, 1932735283, 1610612736, 4194304].getD l 0)).fld (F.SRV_LOOP_LIM_HI_LIM_HI m j) := by
  rw [(s.loadLoopSet_servo n l).fld _ rfl ⟨rfl⟩]
  unfold State.loopIo State.sput
  simp (disch := exact ⟨rfl⟩) only [State.fld_put_apart]
  refine State.fld_put_congr _ rfl ?_
  simp (disch := exact ⟨rfl⟩) only [State.fld_put_apart]

theorem State.sectEn_loadLoopSet : (s.loadLoopSet n l).fld (F.SRV_LOOP_SECT_EN_EN m j) =
    (s.put (F.SRV_LOOP_SECT_EN_EN n l) (loopEnables l)).fld (F.SRV_LOOP_SECT_EN_EN m j) := by
  rw [State.loadLoopSet_eq, (State.updateCost_servo _ n).fld _ rfl ⟨rfl⟩]
  refine State.fld_put_congr _ rfl (((State.loopSections_servo ..).fld _ rfl ⟨rfl⟩).trans ?_)
  unfold State.loopIo State.sput
  simp (disch := exact ⟨rfl⟩) only [State.fld_put_apart]

theorem State.link_loadLoopSet : (s.loadLoopSet n l).fld (F.SRV_LDD_CTRL_LINK_EN m) = s.fld (F.SRV_LDD_CTRL_LINK_EN m) := by
  rw [(s.loadLoopSet_servo n l).fld _ rfl ⟨rfl⟩]
  unfold State.loopIo State.sput
  simp (disch := exact ⟨rfl⟩) only [State.fld_put_apart]

end

/-- Bring-up of one pickup: its default loop sets, and its LDD link trains. -/
def State.pickupSettled (s : State) (n : Nat) : State :=
  let s := s.forEach (List.range 4) (fun s l => s.loadLoopSet n l)
  (s.put (F.SRV_LDD_CTRL_LINK_EN n) 1).trainLdd n

section
variable (s : State) (n : Nat)

/-- The default sets of the four loops. -/
def State.setsLoaded (s : State) (n : Nat) : State := (((s.loadLoopSet n 0).loadLoopSet n 1).loadLoopSet n 2).loadLoopSet n 3

theorem State.forEach_range_four (f : State → Nat → State) : s.forEach (List.range 4) f = f (f (f (f s 0) 1) 2) 3 := rfl

theorem State.forEach_pair (f : State → Nat → State) (a b : Nat) : s.forEach [a, b] f = f (f s a) b := rfl

theorem State.fld_pickupSettled (g : Fld) (servo : g.group = .srvRegs) :
    (s.pickupSettled n).fld g = ((s.setsLoaded n).put (F.SRV_LDD_CTRL_LINK_EN n) 1).fld g := by
  unfold State.pickupSettled
  rw [State.forEach_range_four]
  exact (State.trainLdd_frame (.refl (allBut [.srvRegs]) ((s.setsLoaded n).put (F.SRV_LDD_CTRL_LINK_EN n) 1)) n (within_of (by decide))) .srvRegs rfl g servo

theorem State.inSel_pickupSettled (m : Nat) : (s.pickupSettled n).fld (F.SRV_LOOP_IN_SEL_A m 0) = if m = n then 1 else s.fld (F.SRV_LOOP_IN_SEL_A m 0) := by
  have other : ∀ (t : State) (l v : Nat), l < 4 → (m = n → l ≠ 0) →
      (t.put (F.SRV_LOOP_IN_SEL_A n l) v).fld (F.SRV_LOOP_IN_SEL_A m 0) = t.fld (F.SRV_LOOP_IN_SEL_A m 0) := fun t l v small differ =>
    State.fld_put_ne _ _ (Fld.key_ne_of_ix rfl (by change m * 4 + 0 ≠ n * 4 + l; omega))
  rw [State.fld_pickupSettled _ _ _ rfl, State.fld_put_apart _ _ ⟨rfl⟩]
  unfold State.setsLoaded
  rw [State.inSel_loadLoopSet, other _ _ _ (by decide) (fun _ => by decide), State.inSel_loadLoopSet, other _ _ _ (by decide) (fun _ => by decide),
    State.inSel_loadLoopSet, other _ _ _ (by decide) (fun _ => by decide), State.inSel_loadLoopSet]
  split
  next same => subst same; exact State.fld_put_fits _ ⟨rfl⟩
  next differ => exact other _ _ _ (by decide) fun same => absurd same differ

theorem State.sectEn_pickupSettled (m : Nat) :
    (s.pickupSettled n).fld (F.SRV_LOOP_SECT_EN_EN m 0) = if m = n then 0x100F else s.fld (F.SRV_LOOP_SECT_EN_EN m 0) := by
  have other : ∀ (t : State) (l v : Nat), l < 4 → (m = n → l ≠ 0) →
      (t.put (F.SRV_LOOP_SECT_EN_EN n l) v).fld (F.SRV_LOOP_SECT_EN_EN m 0) = t.fld (F.SRV_LOOP_SECT_EN_EN m 0) := fun t l v small differ =>
    State.fld_put_ne _ _ (Fld.key_ne_of_ix rfl (by change m * 4 + 0 ≠ n * 4 + l; omega))
  rw [State.fld_pickupSettled _ _ _ rfl, State.fld_put_apart _ _ ⟨rfl⟩]
  unfold State.setsLoaded
  rw [State.sectEn_loadLoopSet, other _ _ _ (by decide) (fun _ => by decide), State.sectEn_loadLoopSet, other _ _ _ (by decide) (fun _ => by decide),
    State.sectEn_loadLoopSet, other _ _ _ (by decide) (fun _ => by decide), State.sectEn_loadLoopSet]
  split
  next same => subst same; exact State.fld_put_fits _ ⟨rfl⟩
  next differ => exact other _ _ _ (by decide) fun same => absurd same differ

theorem State.limHi_pickupSettled : (s.pickupSettled n).fld (F.SRV_LOOP_LIM_HI_LIM_HI n 3) = 4194304 := by
  rw [State.fld_pickupSettled _ _ _ rfl, State.fld_put_apart _ _ ⟨rfl⟩]
  unfold State.setsLoaded
  have value : [1932735283, 1932735283, 1610612736, 4194304].getD 3 0 = 4194304 := rfl
  rw [State.limHi_loadLoopSet, value]
  have fits : 4194304 < 2 ^ 32 := by decide
  exact State.fld_put_lt _ fits

theorem State.link_pickupSettled (m : Nat) :
    (s.pickupSettled n).fld (F.SRV_LDD_CTRL_LINK_EN m) = if m = n then 1 else s.fld (F.SRV_LDD_CTRL_LINK_EN m) := by
  rw [State.fld_pickupSettled _ _ _ rfl]
  split
  next same => subst same; exact State.fld_put_fits _ ⟨rfl⟩
  next differ =>
    rw [State.fld_put_ne (f := F.SRV_LDD_CTRL_LINK_EN n) (g := F.SRV_LDD_CTRL_LINK_EN m) _ _ (Fld.key_ne_of_ix rfl differ)]
    unfold State.setsLoaded
    simp only [State.link_loadLoopSet]

end

theorem slotSettled_loads {s : State} {k : Fin 12} (stationSlot : k.val < 8) (powering : s.slotState k = Slot.powering) :
    Answers (.slotSettled k) s (fun t => t.fld (F.SRV_LDD_CTRL_LINK_EN (2 * k)) = 1 ∧ t.fld (F.SRV_LDD_CTRL_LINK_EN (2 * k + 1)) = 1 ∧
      t.fld (F.SRV_LOOP_IN_SEL_A (2 * k) 0) = 1 ∧ t.fld (F.SRV_LOOP_SECT_EN_EN (2 * k) 0) = 0x100F ∧
      t.fld (F.SRV_LOOP_LIM_HI_LIM_HI (2 * k + 1) 3) = 4194304) := by
  have answered : exec (.slotSettled k) s = .next (((s.startProcs k).pickupSettled (2 * k)).pickupSettled (2 * k + 1)) := by
    change execSlotSettled k s = _
    rw [← State.forEach_pair _ State.pickupSettled]
    unfold execSlotSettled State.pickupSettled
    dsimp only
    rw [if_neg (not_not_intro powering), if_neg (Nat.not_le.mpr stationSlot)]
  have apart : (2 * k : Nat) ≠ 2 * k + 1 := by omega
  refine .of_eq answered ⟨?_, ?_, ?_, ?_, State.limHi_pickupSettled ..⟩
  · rw [State.link_pickupSettled, if_neg apart, State.link_pickupSettled, if_pos rfl]
  · rw [State.link_pickupSettled, if_pos rfl]
  · rw [State.inSel_pickupSettled, if_neg apart, State.inSel_pickupSettled, if_pos rfl]
  · rw [State.sectEn_pickupSettled, if_neg apart, State.sectEn_pickupSettled, if_pos rfl]

/-! ## Requests and their ends -/

section
variable {s : State} {k : Fin 12}

/-- A slot that turns and tells of it shows its new state and changes nothing besides. -/
theorem slotTold (w c : Nat) (p : List Nat) (small : w < 16) :
    ((s.toSlot k w).post c (srcSlot k) p).slotState k = w ∧
      SameFields [F.HPC_SLOT_STATUS_STATE k, F.HPC_SUMMARY_POWERED, F.HPC_SLOT_CTRL_PWR_REQ k] s ((s.toSlot k w).post c (srcSlot k) p) :=
  ⟨(State.fld_of_regs (State.post_regs ..) _).trans (State.slotState_toSlot s k w small), (SameFields.toSlot (.refl _ s) w).post c _ p⟩

/-- What a press of the button turns a slot to, and what is told of it. -/
def buttonTurn (k v : Nat) : Nat × Nat × List Nat :=
  if v = Slot.off then (Slot.waitOn, 0x0C02, [k, v]) else if v = Slot.on then (Slot.waitOff, 0x0C02, [k, v])
  else if v = Slot.waitOn then (Slot.off, 0x0C03, [k]) else (Slot.on, 0x0C03, [k])

theorem slotButton_turns
    (asked : s.slotState k = Slot.off ∨ s.slotState k = Slot.on ∨ s.slotState k = Slot.waitOn ∨ s.slotState k = Slot.waitOff) :
    Answers (.slotButton k) s (fun t => t.slotState k = (if s.slotState k = Slot.off then Slot.waitOn else if s.slotState k = Slot.on
      then Slot.waitOff else if s.slotState k = Slot.waitOn then Slot.off else Slot.on) ∧ SameFields [F.HPC_SLOT_STATUS_STATE k,
      F.HPC_SUMMARY_POWERED, F.HPC_SLOT_CTRL_PWR_REQ k] s t) := by
  have answered : ∀ v, s.slotState k = v → (v = Slot.off ∨ v = Slot.on ∨ v = Slot.waitOn ∨ v = Slot.waitOff) → exec (.slotButton k) s =
      .next ((s.toSlot k (buttonTurn k v).1).post (buttonTurn k v).2.1 (srcSlot k) (buttonTurn k v).2.2) := by
    intro v old asked
    change execSlotButton k s = _
    unfold execSlotButton
    dsimp only
    rw [old]
    rcases asked with rfl | rfl | rfl | rfl <;> rfl
  refine .of_eq (answered _ rfl asked) ?_
  generalize s.slotState k = v at asked ⊢
  have small : (buttonTurn k v).1 < 16 := by
    unfold buttonTurn
    repeat' split
    all_goals
      dsimp only
      decide
  rcases asked with rfl | rfl | rfl | rfl <;> exact slotTold _ _ _ small

theorem slotAbortReq_turns (asked : s.slotState k = Slot.waitOn ∨ s.slotState k = Slot.waitOff) :
    Answers (.slotAbortReq k) s (fun t => t.slotState k = (if s.slotState k = Slot.waitOn then Slot.off else Slot.on) ∧
      SameFields [F.HPC_SLOT_STATUS_STATE k, F.HPC_SUMMARY_POWERED, F.HPC_SLOT_CTRL_PWR_REQ k] s t) := by
  have answered : ∀ v, s.slotState k = v → (v = Slot.waitOn ∨ v = Slot.waitOff) → exec (.slotAbortReq k) s =
      .next ((s.toSlot k (if v = Slot.waitOn then Slot.off else Slot.on)).post 0x0C03 (srcSlot k) [k]) := by
    intro v old asked
    change execSlotAbortReq k s = _
    unfold execSlotAbortReq
    dsimp only
    rw [old]
    rcases asked with rfl | rfl <;> rfl
  refine .of_eq (answered _ rfl asked) ?_
  generalize s.slotState k = v at asked ⊢
  rcases asked with rfl | rfl <;> exact slotTold _ _ _ (by decide)

theorem slotBlinkExpiry_powers (waits : s.slotState k = Slot.waitOn) (closed : s.flag F.SYS_PACE_STATUS_CLOSED = true) :
    Answers (.slotBlinkExpiry k) s (fun t => t.slotState k = Slot.powering ∧
      SameFields [F.HPC_SLOT_STATUS_STATE k, F.HPC_SUMMARY_POWERED, F.HPC_SLOT_CTRL_PWR_REQ k] s t) := by
  have answered : exec (.slotBlinkExpiry k) s = .next (s.toSlot k Slot.powering) := by
    change execSlotBlinkExpiry k s = _
    unfold execSlotBlinkExpiry
    dsimp only
    rw [if_pos waits, State.powerUp_closed closed]
  exact .of_eq answered ⟨State.slotState_toSlot _ _ _ (by decide), SameFields.toSlot (.refl _ s) _⟩

theorem pwrReqSet_powers (off : s.slotState k = Slot.off) (closed : s.flag F.SYS_PACE_STATUS_CLOSED = true) :
    Answers (.pwrReqSet k) s (fun t => t.slotState k = Slot.powering ∧ t.flag (F.HPC_SLOT_CTRL_PWR_REQ k) = true ∧
      SameFields [F.HPC_SLOT_STATUS_STATE k, F.HPC_SUMMARY_POWERED, F.HPC_SLOT_CTRL_PWR_REQ k] s t) := by
  have answered : exec (.pwrReqSet k) s = .next (s.toSlot k Slot.powering) := by
    change execPwrReqSet k s = _
    unfold execPwrReqSet
    rw [if_pos off, State.powerUp_closed closed]
  refine .of_eq answered ⟨State.slotState_toSlot _ _ _ (by decide), ?_, SameFields.toSlot (.refl _ s) _⟩
  unfold State.toSlot
  rw [State.flag_put_apart _ _ ⟨rfl⟩, State.flag_setFlag _ _ ⟨rfl⟩]
  rfl

theorem pwrReqSet_rejects (on : s.slotState k ≠ Slot.off) :
    Answers (.pwrReqSet k) s (fun t => t = s.put (F.HPC_SLOT_STATUS_REJECTED k) 1) :=
  .of_eq (t := s.put (F.HPC_SLOT_STATUS_REJECTED k) 1) (if_neg on) rfl

theorem slotFaultClear_leaves (fault : s.slotState k = Slot.fault) : Answers (.slotFaultClear k) s (fun t =>
      t.slotState k = (if s.flag (F.HPC_SLOT_STATUS_PRESENT k) then Slot.off else Slot.empty) ∧ t.flag (F.HPC_SLOT_STATUS_PWR_FAULT k) = false ∧
      SameFields [F.HPC_SLOT_STATUS_STATE k, F.HPC_SLOT_STATUS_PWR_FAULT k, F.HPC_SUMMARY_POWERED, F.HPC_SLOT_CTRL_PWR_REQ k] s t) := by
  have stays : (s.put (F.HPC_SLOT_STATUS_PWR_FAULT k) 0).slotState k = Slot.fault := (State.fld_put_apart _ _ ⟨rfl⟩).trans fault
  have present : (s.put (F.HPC_SLOT_STATUS_PWR_FAULT k) 0).flag (F.HPC_SLOT_STATUS_PRESENT k) = s.flag (F.HPC_SLOT_STATUS_PRESENT k) :=
    State.flag_put_apart _ _ ⟨rfl⟩
  have answered : exec (.slotFaultClear k) s = .next ((s.put (F.HPC_SLOT_STATUS_PWR_FAULT k) 0).toSlot k
      (if s.flag (F.HPC_SLOT_STATUS_PRESENT k) then Slot.off else Slot.empty)) := by
    change execSlotFaultClear k s = _
    unfold execSlotFaultClear
    dsimp only
    rw [if_pos stays, present]
  refine .of_eq answered ⟨State.slotState_toSlot _ _ _ (by split <;> decide), ?_, SameFields.toSlot ((SameFields.refl _ s).put _) _⟩
  rw [State.flag_toSlot _ _ _ _ ⟨rfl⟩ ⟨rfl⟩ ⟨rfl⟩, State.flag_put_zero]

/-! ## Bring-up -/

theorem slotSettled_trains {q : Nat} (port : k.val = 7 + q) (child : 1 ≤ q) (powering : s.slotState k = Slot.powering)
    (may : s.portMayTrain q = true) (idle : (s.port q).phase = .idle) :
    Answers (.slotSettled k) s (fun t => t = s.setPort q { s.port q with phase := .training }) := by
  refine .of_eq (t := s.setPort q { s.port q with phase := .training }) ?_ rfl
  change execSlotSettled k s = _
  unfold execSlotSettled
  dsimp only
  have number : k.val - 7 = q := by omega
  rw [if_neg (not_not_intro powering), if_pos (by omega), number, if_pos ⟨may, idle⟩]
  rfl

theorem slotBringupDone_child (powering : s.slotState k = Slot.powering) (up : s.broughtUp k = true) (child : 8 ≤ k.val) :
    Answers (.slotBringupDone k) s (fun t => t.slotState k = Slot.on ∧
      SameFields [F.HPC_SLOT_STATUS_STATE k, F.HPC_SUMMARY_POWERED, F.HPC_SLOT_CTRL_PWR_REQ k] s t) := by
  have answered : exec (.slotBringupDone k) s = .next ((s.toSlot k Slot.on).post 0x0C04 (srcSlot k) [k]) := by
    change execSlotBringupDone k s = _
    unfold execSlotBringupDone
    dsimp only
    rw [if_neg (by simp [powering, up]), if_pos child]
  exact .of_eq answered (slotTold _ _ _ (by decide))

/-- A station in service, empty. -/
def State.stationServes (s : State) (k : Nat) : State := (s.setStation k { state := 1 }).showVersions

theorem State.stationServes_frame (s : State) (k : Nat) : Frame (allBut [.stations, .hpcRegs]) (s.setStation k { state := 1 }) (s.stationServes k) :=
  State.showVersions_frame (.refl _ _) (within_of (by decide))

theorem slotBringupDone_station (powering : s.slotState k = Slot.powering) (up : s.broughtUp k = true) (stationSlot : k.val < 8) :
    Answers (.slotBringupDone k) s (fun t => t.slotState k = Slot.on ∧ t.station k = { state := 1 }) := by
  let serves := (s.toSlot k Slot.on).stationServes k
  have answered : ∃ fw : Firmware, exec (.slotBringupDone k) s =
      .next ((({ serves with fw := fw } : State).post 0x0101 (srcStation k) [k]).post 0x0C04 (srcSlot k) [k]) := by
    change ∃ fw, execSlotBringupDone k s = _
    unfold execSlotBringupDone
    dsimp only
    rw [if_neg (by simp [powering, up]), if_neg (Nat.not_le.mpr stationSlot)]
    exact ⟨_, rfl⟩
  obtain ⟨fw, answered⟩ := answered
  have frame := State.post_frame (State.post_frame (Frame.set_fw ((s.toSlot k Slot.on).stationServes_frame k) fw (within_of (by decide)))
    0x0101 (srcStation k) [k] (within_of (by decide))) 0x0C04 (srcSlot k) [k] (within_of (by decide))
  refine .of_eq answered ⟨(frame .hpcRegs rfl (F.HPC_SLOT_STATUS_STATE k) rfl).trans (State.slotState_toSlot s k _ (by decide)), ?_⟩
  exact (State.station_of_stations (frame .stations rfl) k).trans
    (State.station_setStation_same (s.toSlot k Slot.on) k { state := 1 })

theorem slotBringupTimeout_faults (powering : s.slotState k = Slot.powering) : Answers (.slotBringupTimeout k) s (fun t =>
      t.slotState k = Slot.fault ∧ t.flag (F.HPC_SLOT_STATUS_BRINGUP_FAIL k) = true) := by
  have answered : exec (.slotBringupTimeout k) s = .next (((s.slotLoss k Slot.powering 2).toSlot k Slot.fault).raise
      (F.HPC_SLOT_STATUS_BRINGUP_FAIL k) 0x0C06 (srcSlot k) [k, 1]) := by
    change execSlotBringupTimeout k s = _
    unfold execSlotBringupTimeout
    rw [if_neg (not_not_intro powering)]
  refine .of_eq answered ⟨?_, State.flag_raise_same _ _ _ _ ⟨rfl⟩⟩
  exact (State.fld_raise_apart _ _ _ _ ⟨rfl⟩).trans (State.slotState_toSlot _ _ _ (by decide))

/-! ## The drain -/

theorem slotDrainTimeout_ends (draining : s.slotState k = Slot.draining) : Answers (.slotDrainTimeout k) s (fun t => t.slotState k = Slot.off ∧
      (k.val < 8 → t.station k = {} ∧ t.spnState k = Spn.off)) := by
  have answered : exec (.slotDrainTimeout k) s =
      .next (((s.slotLoss k Slot.draining 3).toSlot k Slot.off).post 0x0C05 (srcSlot k) [k]) := by
    change execSlotDrainTimeout k s = _
    unfold execSlotDrainTimeout
    rw [if_neg (not_not_intro draining)]
  refine .of_eq answered ⟨(slotTold _ _ _ (by decide)).1, fun stationSlot => ?_⟩
  have dark := (s.slotLoss_dark stationSlot Slot.draining 3).of_frame
    (State.post_frame (State.toSlot_frame_stations _ k Slot.off) 0x0C05 (srcSlot k) [k] (within_of (by decide)))
  exact ⟨dark.station, dark.spindle⟩

theorem slotDrainDone_ends (draining : s.slotState k = Slot.draining) (stationSlot : k.val < 8) (idle : s.stationCmds k = [])
    (empty : (s.station k).disc = none) (stopped : s.flag (F.SPN_CTRL_RUN k) = false) (rest : s.atRest k = true) :
    Answers (.slotDrainDone k) s (fun t => t.slotState k = Slot.off ∧ t.station k = {} ∧ t.spnState k = Spn.off) := by
  have answered : exec (.slotDrainDone k) s = .next (((s.stationGone k 0).toSlot k Slot.off).post 0x0C05 (srcSlot k) [k]) := by
    change Host.Outcome.next (s.drainStep k) = _
    unfold State.drainStep
    rw [if_neg (not_not_intro draining), if_neg (Nat.not_le.mpr stationSlot), idle]
    simp [empty, stopped, rest]
  have dark := (s.stationGone_dark k 0).of_frame
    (State.post_frame (State.toSlot_frame_stations _ k Slot.off) 0x0C05 (srcSlot k) [k] (within_of (by decide)))
  exact .of_eq answered ⟨(slotTold _ _ _ (by decide)).1, dark.station, dark.spindle⟩

theorem pwrReqClear_drains (on : s.slotState k = Slot.on) (closed : s.flag F.SYS_PACE_STATUS_CLOSED = true) (stationSlot : k.val < 8)
    (busy : (s.stationCmds k).any (fun e => e.2.phase == .admitted) = true) : Answers (.pwrReqClear k) s (fun t =>
      t.slotState k = Slot.draining ∧ (t.station k).drainWait = true ∧
      SameFields [F.HPC_SLOT_STATUS_STATE k, F.HPC_SUMMARY_POWERED, F.HPC_SLOT_CTRL_PWR_REQ k] s t) := by
  let waits := (s.toSlot k Slot.draining).modStation k fun x => { x with drainWait := true }
  have state : waits.slotState k = Slot.draining := State.slotState_toSlot s k _ (by decide)
  have commands : waits.stationCmds k = s.stationCmds k := rfl
  have step : waits.drainStep k = waits := by
    unfold State.drainStep
    rw [if_neg (not_not_intro state), if_neg (Nat.not_le.mpr stationSlot), commands, if_pos busy]
  have answered : exec (.pwrReqClear k) s = .next waits := by
    change execPwrReqClear k s = _
    unfold execPwrReqClear State.startDrain
    dsimp only
    rw [if_pos ⟨on, closed⟩, if_neg (Nat.not_le.mpr stationSlot)]
    exact congrArg Host.Outcome.next step
  refine .of_eq answered ⟨state, ?_, (SameFields.toSlot (.refl _ s) _).of_regs rfl⟩
  exact congrArg Station.drainWait (State.station_setStation_same ..)

end

/-! ## Resets of stations (R521) -/

section
variable {s : State} {st : Fin 8}

theorem stationReset_begins (on : s.fld (F.HPC_SLOT_STATUS_STATE st) = 4) (idle : s.fw.roll = none)
    (unasked : s.fw.stationResets.contains st.val = false) : Answers (.stationReset st) s (fun t =>
      t.fw.stationResets = s.fw.stationResets ++ [st.val] ∧ (t.fld F.SYS_RESET_STATUS_STN_BUSY).testBit st.val = true) := by
  refine .of_eq (t := s.stationReset st) rfl ⟨?_, ?_⟩
  · rw [State.stationReset_fw on unasked idle]
  · rw [State.stationReset_on on unasked idle]
    unfold State.resetNoted
    dsimp only
    rw [State.fld_put_same]
    exact testBit_set st.isLt

/-- A pickup's return touches neither the fields of the system nor of events, nor the firmware's state. -/
theorem State.bringBack_frame_all (s : State) (c : Bool) (ns : List Nat) :
    Frame (allBut [.fw, .evtRegs, .sysRegs]) s (s.when c fun s => s.forEach ns State.bringBack) :=
  State.when_frame (.refl _ s) c _ fun _ kept => State.forEach_frame kept ns _ fun _ n kept => State.bringBack_frame kept n (within_of (by decide))

theorem State.post_tells (s : State) {code : Nat} (source : Nat) (p : List Nat) (enabled : (s.fld F.EVT_RANGE_EN_EN).testBit (code / 256 - 1) = true) :
    ∃ e ∈ (s.post code source p).events.posted, e.code = code := by
  unfold State.post
  rw [if_pos enabled]
  exact ⟨_, List.mem_append_right _ (List.mem_singleton_self _), rfl⟩

/-- The station counts no longer among those that are reset. -/
def State.resetEnded (s : State) (st : Nat) : State :=
  let s := { s with fw := { s.fw with stationResets := s.fw.stationResets.filter (fun x => x != st) } }
  s.put F.SYS_RESET_STATUS_STN_BUSY (s.fld F.SYS_RESET_STATUS_STN_BUSY - (s.fld F.SYS_RESET_STATUS_STN_BUSY &&& 2 ^ st))

theorem resetDone_ends (begun : st.val ∈ s.fw.stationResets) (enabled : (s.fld F.EVT_RANGE_EN_EN).testBit 14 = true) :
    Answers (.resetDone st) s (fun t => t.fw.stationResets = s.fw.stationResets.filter (fun x => x != st.val) ∧
      (t.fld F.SYS_RESET_STATUS_STN_BUSY).testBit st.val = false ∧ (∃ e ∈ t.events.posted, e.code = 0x0F17)) := by
  let unloading := (s.stationCmds st).any (fun e => e.2.op == Op.unload && e.2.phase == .admitted)
  let back := s.when (!unloading) fun s => s.forEach [2 * st.val, 2 * st.val + 1] State.bringBack
  have frame : Frame (allBut [.fw, .evtRegs, .sysRegs]) s back := s.bringBack_frame_all _ _
  have answered : exec (.resetDone st) s = .next ((back.resetEnded st).post 0x0F17 srcSystem [st]) := by
    change execResetDone st s = _
    unfold execResetDone
    rw [if_neg (by simpa using begun)]
    rfl
  clear_value back
  refine .of_eq answered ⟨?_, ?_, State.post_tells _ _ _ ?_⟩
  · rw [State.post_fw]
    change back.fw.stationResets.filter _ = _
    rw [show back.fw = s.fw from frame .fw rfl]
  · refine (congrArg (fun v : Nat => v.testBit st.val) (State.fld_of_regs (State.post_regs ..) _)).trans ?_
    unfold State.resetEnded
    dsimp only
    rw [State.fld_put_same, Nat.testBit_mod_two_pow, testBit_sub_and, Nat.testBit_two_pow_self, Bool.not_true, Bool.and_false, Bool.and_false]
  · refine (congrArg (fun v : Nat => v.testBit 14) (?_ : (back.resetEnded st).fld F.EVT_RANGE_EN_EN = s.fld F.EVT_RANGE_EN_EN)).trans enabled
    exact (State.fld_put_apart _ _ ⟨rfl⟩).trans (frame .evtRegs rfl F.EVT_RANGE_EN_EN rfl)

end

/-- Settles O51. -/
theorem slotAndStationCommandsComplete : Obligations.SlotAndStationCommandsComplete := by
  unfold Obligations.SlotAndStationCommandsComplete
  intro s
  refine ⟨?_, ?_, ?_, ?_, ?_, ?_, ?_, ?_, ?_, ?_, ?_, ?_, ?_, ?_, ?_, ?_, ?_, ?_, ?_, ?_, ?_⟩
  · exact fun k empty manual => slotInsertion_off empty manual
  · exact fun k empty auto closed => slotInsertion_powers empty auto closed
  · exact fun k low => slotRemoval_empties low
  · exact fun k high => slotRemoval_surprises high
  · exact fun k asked => slotButton_turns asked
  · exact fun k asked => slotAbortReq_turns asked
  · exact fun k high => slotPowerFault_faults high
  · exact fun k waits closed => slotBlinkExpiry_powers waits closed
  · exact fun k stationSlot powering => slotSettled_loads stationSlot powering
  · exact fun k q port child powering may idle => slotSettled_trains port child powering may idle
  · exact fun k powering up child => slotBringupDone_child powering up child
  · exact fun k powering up stationSlot => slotBringupDone_station powering up stationSlot
  · exact fun k powering => slotBringupTimeout_faults powering
  · exact fun k draining stationSlot idle empty stopped rest => slotDrainDone_ends draining stationSlot idle empty stopped rest
  · exact fun k draining => slotDrainTimeout_ends draining
  · exact fun k off closed => pwrReqSet_powers off closed
  · exact fun k on => pwrReqSet_rejects on
  · exact fun k on closed stationSlot busy => pwrReqClear_drains on closed stationSlot busy
  · exact fun k fault => slotFaultClear_leaves fault
  · exact fun st on idle unasked => stationReset_begins on idle unasked
  · exact fun st begun enabled => resetDone_ends begun enabled

end Sys2Proof.Machine
end

section
/-!
PROOFS. Operations across the tree: barriers, snapshots and tree resets (R452–R454).
-/
set_option Elab.async false
namespace Sys2Proof.Machine

/-! ## Packets taken and sent -/

/-- The first packet in the inbox, of the kind sought, leaves it. -/
theorem State.takeFirst_rest {s : State} {sel : Packet → Bool} {e : InPacket} {rest : List InPacket} (inbox : s.mbl.inbox = e :: rest)
    (sought : sel e.packet = true) : s.takeFirst sel = some (e, { s with mbl := { s.mbl with inbox := rest } }) := by
  simp [State.takeFirst, inbox, sought]

/-- A packet waits at its port for its acknowledgement. -/
def State.portSent (s : State) (q : Nat) (p : Packet) : State :=
  let x := s.port q
  s.setPort q { x with txSeq := (x.txSeq + 1) % 4096, replay := x.replay ++ [(x.txSeq, packetBytes p)] }

section
variable (s : State) (q : Nat) (p : Packet)

theorem State.sendOn_mbl : (s.sendOn q p).mbl = (s.portSent q p).mbl := by
  unfold State.sendOn State.portSent
  dsimp only
  split
  · rw [State.emit_mbl, State.count_mbl]
  · rw [State.count_mbl]

theorem State.sendOn_replay : ((s.sendOn q p).port q).replay.length = (s.port q).replay.length + 1 := by
  have sent : (s.sendOn q p).port q = (s.portSent q p).port q := by
    unfold State.port
    rw [State.sendOn_mbl]
  have put : (s.portSent q p).port q = _ := Table.at_put_same ..
  rw [sent, put]
  simp

theorem SameFields.sendOn {but : List Fld} {s t : State} {q : Nat} (h : SameFields but s t) (p : Packet)
    (lo : F.MBL_PORT_TX_LO_COUNT q ∈ but := by simp) (hi : F.MBL_PORT_TX_HI_COUNT q ∈ but := by simp)
    (pm : F.HIF_LINK_STATUS_PM ∈ but := by simp) : SameFields but s (t.sendOn q p) := by
  have counted : SameFields but s ((t.portSent q p).count (F.MBL_PORT_TX_LO_COUNT q) (F.MBL_PORT_TX_HI_COUNT q) p.payload.length) :=
    (h.of_regs (u := t.portSent q p) rfl).count _ lo hi
  unfold State.sendOn
  dsimp only
  split
  · exact counted.emit _ pm
  · exact counted

end

/-! ## Barriers -/

section
variable {s : State} {e : InPacket} {rest : List InPacket}

theorem State.flushEventsUp_quiet (quiet : s.events.posted = []) : s.flushEventsUp = s := by
  unfold State.flushEventsUp
  rw [quiet]
  change { s with events := { s.events with posted := [] } } = s
  rw [← quiet]

/-- A barrier that a child still holds goes on. -/
theorem State.endBarriers_held {bar : Barrier} (only : s.mbl.barriers = [bar]) (held : bar.waiting ≠ []) : s.endBarriers = s := by
  have waits : bar.waiting.isEmpty = false := by simpa using held
  unfold State.endBarriers
  rw [only]
  simp only [List.filter_cons, waits, List.filter_nil, Bool.false_eq_true, if_false, Bool.not_false, if_true]
  change { s with mbl := { s.mbl with barriers := [bar] } } = s
  rw [← only]

/-- Below the root, a barrier that no child holds is acknowledged. -/
theorem State.endBarriers_ended {bar : Barrier} (only : s.mbl.barriers = [bar]) (passed : bar.waiting = []) (below : s.root = false)
    (quiet : s.events.posted = []) : s.endBarriers =
      ({ s with mbl := { s.mbl with barriers := [] } } : State).sendOn 0 (mgmtPacket s 0 Mgmt.barrierAck 0 [bar.number]) := by
  unfold State.endBarriers
  rw [only]
  simp only [List.filter_cons, passed, List.isEmpty_nil, List.filter_nil, Bool.false_eq_true, if_false, Bool.not_true, if_true]
  let left : State := { s with mbl := { s.mbl with barriers := [] } }
  have calm : left.flushEventsUp = left := State.flushEventsUp_quiet quiet
  change (if s.root = true then _ else left.flushEventsUp.sendOn 0 (mgmtPacket s 0 Mgmt.barrierAck 0 [bar.number])) = _
  rw [if_neg (Bool.eq_false_iff.mp below), calm]

/-- The first packet of the inbox has been taken, and the barriers are as given. -/
def State.barriersNow (s : State) (rest : List InPacket) (bs : List Barrier) : State := { s with mbl := { s.mbl with inbox := rest, barriers := bs } }

theorem execBarrier_takes (inbox : s.mbl.inbox = e :: rest) (kind : isMgmt Mgmt.barrier e.packet = true) (below : s.root = false)
    (unarmed : s.mbl.snap.armed = false) (none : s.mbl.barriers = []) : exec .barrier s =
      .next (s.barriersNow rest
        [{ number := (mgmtBody e.packet).getD 0 0, waiting := e.copies.filter (fun q => s.treePorts.contains q) }]).endBarriers := by
  change execBarrier s = _
  unfold execBarrier
  rw [inbox]
  dsimp only
  rw [if_neg (by simp [kind, below, unarmed]), none]
  rfl

theorem barrier_acknowledges (inbox : s.mbl.inbox = e :: rest) (kind : isMgmt Mgmt.barrier e.packet = true) (below : s.root = false)
    (unarmed : s.mbl.snap.armed = false) (leaf : e.copies = []) (none : s.mbl.barriers = []) (quiet : s.events.posted = []) :
    Answers .barrier s (fun t => t = ({ s with mbl := { s.mbl with inbox := rest } } : State).sendOn 0
      (mgmtPacket s 0 Mgmt.barrierAck 0 [(mgmtBody e.packet).getD 0 0])) := by
  refine .of_eq (execBarrier_takes inbox kind below unarmed none) ?_
  rw [State.endBarriers_ended (s := s.barriersNow rest _) rfl (by simp [leaf]) below quiet]
  unfold State.barriersNow
  rw [← none]
  rfl

theorem barrier_waits (inbox : s.mbl.inbox = e :: rest) (kind : isMgmt Mgmt.barrier e.packet = true) (below : s.root = false)
    (unarmed : s.mbl.snap.armed = false) (children : e.copies.filter (fun q => s.treePorts.contains q) ≠ []) (none : s.mbl.barriers = []) :
    Answers .barrier s (fun t => t.mbl.barriers = [⟨(mgmtBody e.packet).getD 0 0, e.copies.filter (fun q => s.treePorts.contains q), 0⟩] ∧
      t.mbl.inbox = rest ∧ SameFields [] s t) := by
  refine .of_eq (execBarrier_takes inbox kind below unarmed none) ?_
  rw [State.endBarriers_held (s := s.barriersNow rest _) rfl children]
  exact ⟨rfl, rfl, (SameFields.refl _ s).of_regs rfl⟩

variable {bar : Barrier}

theorem execBarrierAck_takes (inbox : s.mbl.inbox = e :: rest) (kind : isMgmt Mgmt.barrierAck e.packet = true) (only : s.mbl.barriers = [bar])
    (own : bar.number = (mgmtBody e.packet).getD 0 0) : exec .barrierAck s =
      .next (s.barriersNow rest [{ bar with waiting := bar.waiting.filter (fun q => q != e.port) }]).endBarriers := by
  change execBarrierAck s = _
  unfold execBarrierAck
  rw [State.takeFirst_rest inbox kind]
  dsimp only
  rw [only, List.map_cons, if_pos own]
  rfl

theorem barrierAck_waits (inbox : s.mbl.inbox = e :: rest) (kind : isMgmt Mgmt.barrierAck e.packet = true) (only : s.mbl.barriers = [bar])
    (own : bar.number = (mgmtBody e.packet).getD 0 0) (others : bar.waiting.filter (fun q => q != e.port) ≠ []) :
    Answers .barrierAck s (fun t => t.mbl.barriers = [{ bar with waiting := bar.waiting.filter (fun q => q != e.port) }] ∧
      t.mbl.inbox = rest ∧ SameFields [] s t) := by
  refine .of_eq (execBarrierAck_takes inbox kind only own) ?_
  rw [State.endBarriers_held (s := s.barriersNow rest _) rfl others]
  exact ⟨rfl, rfl, (SameFields.refl _ s).of_regs rfl⟩

theorem barrierAck_passesOn (inbox : s.mbl.inbox = e :: rest) (kind : isMgmt Mgmt.barrierAck e.packet = true) (only : s.mbl.barriers = [bar])
    (own : bar.number = (mgmtBody e.packet).getD 0 0) (last : bar.waiting = [e.port]) (below : s.root = false) (quiet : s.events.posted = []) :
    Answers .barrierAck s (fun t => t.mbl.barriers = [] ∧ (t.port 0).replay.length = (s.port 0).replay.length + 1) := by
  refine .of_eq (execBarrierAck_takes inbox kind only own) ?_
  rw [State.endBarriers_ended (s := s.barriersNow rest _) rfl (by simp [last]) below quiet]
  exact ⟨congrArg Mbl.barriers (State.sendOn_mbl ..), State.sendOn_replay ..⟩

end

/-! ## Snapshots -/

section
variable {s : State} {e : InPacket} {rest : List InPacket}

theorem snapshot_arms {h : Nat} {c : Cmd} (known : s.cmd? h = some c) (may : c.mayRun Op.snapshot = true) (idle : s.mbl.snap.cmd = none)
    (root : s.root = true) (later : s.ct + s.treeDepth * 900 + 10000 ≤ c.id.timeField) : Answers (.snapshot h) s (fun t =>
      t.mbl.snap = { armed := true, time := c.id.timeField, cmd := some h } ∧ (t.cmd h).started = true) := by
  let told := (s.setCmd h { c with started := true }).tellTree Mgmt.snapArm ([0, 0, 0, 0] ++ leBytes 8 c.id.timeField)
  have answered : exec (.snapshot h) s =
      .next { told with mbl := { told.mbl with snap := { armed := true, time := c.id.timeField, cmd := some h } } } := by
    change execSnapshot h s = _
    unfold execSnapshot
    rw [State.cmd_of_cmd? known]
    dsimp only
    rw [if_neg (by simp [may, idle]), if_neg (by simp [root]), if_neg (Nat.not_lt.mpr later)]
  refine .of_eq answered ⟨rfl, ?_⟩
  have rings : told.rings = (s.setCmd h { c with started := true }).rings :=
    (State.tellTree_frame (.refl (allBut [.rings]) _) _ _ (within_of (by decide))) .rings rfl
  rw [State.cmd_of_rings (t := { told with mbl := { told.mbl with snap := { armed := true, time := c.id.timeField, cmd := some h } } }) rings,
    State.cmd_setCmd_same]

theorem snapArm_arms (inbox : s.mbl.inbox = e :: rest) (kind : isMgmt Mgmt.snapArm e.packet = true) (arm : (mgmtBody e.packet).getD 0 0 = 0)
    (below : s.root = false) (later : s.ct ≤ leField (mgmtBody e.packet) 4 8) : Answers .snapArm s (fun t => t =
      { s with mbl := { s.mbl with inbox := rest, snap := { armed := true, time := leField (mgmtBody e.packet) 4 8 } } }) := by
  refine .of_eq (t := { s with mbl := { s.mbl with inbox := rest, snap := { armed := true, time := leField (mgmtBody e.packet) 4 8 } } }) ?_ rfl
  change execSnapArm s = _
  unfold execSnapArm
  rw [State.takeFirst_rest inbox kind]
  dsimp only
  rw [if_neg (by rw [arm]; decide), if_neg (Bool.eq_false_iff.mp below), if_neg (Nat.not_lt.mpr later)]

theorem snapArm_gathers (inbox : s.mbl.inbox = e :: rest) (kind : isMgmt Mgmt.snapArm e.packet = true) (record : (mgmtBody e.packet).getD 0 0 = 1)
    (root : s.root = true) (busy : s.mbl.snap.cmd.isSome = true) : Answers .snapArm s (fun t => t =
      { s with mbl := { s.mbl with inbox := rest, snap := { s.mbl.snap with gathered := Table.put [] s.mbl.snap.gathered e.packet.src (padTo 512 (((mgmtBody e.packet).drop 4).take 500)) } } }) := by
  refine .of_eq ?_ rfl
  change execSnapArm s = _
  unfold execSnapArm
  rw [State.takeFirst_rest inbox kind]
  dsimp only
  rw [if_pos record, if_pos ⟨root, busy⟩]

theorem snapshotLatch_sendsUp (below : s.root = false) (armed : s.mbl.snap.armed = true) (due : s.mbl.snap.time ≤ s.ct) :
    Answers .snapshotLatch s (fun t => t = ({ s with mbl := { s.mbl with snap := {} } } : State).route
      (mgmtPacket s 0 Mgmt.snapArm 0 ([1, 0, 0, 0] ++ (s.snapRecord s.mbl.snap.time false).take 500))) := by
  refine .of_eq (t := ({ s with mbl := { s.mbl with snap := {} } } : State).route
      (mgmtPacket s 0 Mgmt.snapArm 0 ([1, 0, 0, 0] ++ (s.snapRecord s.mbl.snap.time false).take 500))) ?_ rfl
  change execSnapshotLatch s = _
  unfold execSnapshotLatch State.latchSnap
  rw [if_pos ⟨armed, due⟩, below]
  rfl

end

/-! ## Tree resets -/

theorem State.resetFields_same (s : State) (kind target : Nat) : SameFields [F.MBL_RESET_KIND, F.MBL_RESET_TARGET] s (s.resetFields kind target) :=
  ((SameFields.refl _ s).put _).put _

section
variable {s t : State}

theorem SameFields.ownId {but : List Fld} (h : SameFields but s t) (root : t.root = s.root) (id : Nat)
    (apart : Shown (but.all fun f => !(F.MBL_ID_DEVICE_ID.id % 1024 == f.id % 1024))) : t.ownId id = s.ownId id := by
  unfold State.ownId State.deviceId
  rw [h.reads _ apart, root]

theorem SameFields.resetPort {but : List Fld} (h : SameFields but s t) (id : Nat)
    (lo : Shown (but.all fun f => !((F.MBL_PORT_RANGE_LO_LO 0).id % 1024 == f.id % 1024)))
    (hi : Shown (but.all fun f => !((F.MBL_PORT_RANGE_HI_HI 0).id % 1024 == f.id % 1024)))
    (up : Shown (but.all fun f => !((F.MBL_PORT_STATUS_UP 0).id % 1024 == f.id % 1024))) : t.resetPort id = s.resetPort id := by
  have range : t.portFor id = s.portFor id := by
    unfold State.portFor
    simp only [fun q => h.reads (F.MBL_PORT_RANGE_LO_LO q) lo, fun q => h.reads (F.MBL_PORT_RANGE_HI_HI q) hi]
  unfold State.resetPort
  simp only [range, fun q => h.shows (F.MBL_PORT_STATUS_UP q) up]

/-- The ports that are open are known by the fields of the tree. -/
theorem State.openPorts_of (up : ∀ q, t.flag (F.MBL_PORT_STATUS_UP q) = s.flag (F.MBL_PORT_STATUS_UP q))
    (fenced : ∀ q, t.flag (F.MBL_PORT_STATUS_FENCED q) = s.flag (F.MBL_PORT_STATUS_FENCED q)) : t.openPorts = s.openPorts := by
  unfold State.openPorts
  congr 1
  funext q
  unfold State.portOpen
  rw [up, fenced]

/-- A reset that has left through a port shows a tree that waits for it. -/
theorem State.resetBegun_shows (s : State) (kind : Nat) (waiting : List Nat) : (s.resetBegun kind waiting).flag F.MBL_RESET_BUSY = true ∧
    (s.resetBegun kind waiting).fw = s.fw ∧ (s.resetBegun kind waiting).mbl.resetWait = some (kind, waiting) ∧ SameFields [F.MBL_RESET_BUSY] s (s.resetBegun kind waiting) :=
  ⟨(State.flag_of_regs rfl _).trans (State.flag_put_one s (by decide)), rfl, rfl,
    ((SameFields.refl _ s).put (f := F.MBL_RESET_BUSY) 1).of_regs rfl⟩

end

/-- All stations are ON, and none is being reset. -/
theorem stations_ready {s : State}
    (all : (List.range 8).all (fun st => s.fld (F.HPC_SLOT_STATUS_STATE st) == 4 && !s.fw.stationResets.contains st) = true) :
    ∀ st ∈ List.range 8, s.fld (F.HPC_SLOT_STATUS_STATE st) = 4 ∧ st ∉ s.fw.stationResets := by
  intro st mem
  have both := List.all_eq_true.mp all st mem
  simpa using both

section
variable {s : State} {target : BitVec 24}

theorem treeResetStation_own (root : s.root = true) (idle : s.mbl.resetWait = none) (own : s.ownId target.toNat = true) (leaf : s.openPorts = [])
    (ready : (List.range 8).all (fun st => s.fld (F.HPC_SLOT_STATUS_STATE st) == 4 && !s.fw.stationResets.contains st) = true)
    (still : s.fw.roll = none) : Answers (.treeResetStation target) s (fun t => t.fw.stationResets = s.fw.stationResets ++ List.range 8 ∧
      t.flag F.MBL_RESET_BUSY = true ∧ t.mbl.resetWait = some (1, []) ∧ t.fld F.MBL_RESET_KIND = 1 ∧ t.fld F.MBL_RESET_TARGET = target.toNat) := by
  let begun := s.resetFields 1 target.toNat
  have same : SameFields [F.MBL_RESET_KIND, F.MBL_RESET_TARGET] s begun := s.resetFields_same 1 target.toNat
  have closed : begun.openPorts = [] := (State.openPorts_of (fun q => same.shows _ ⟨rfl⟩) (fun q => same.shows _ ⟨rfl⟩)).trans leaf
  have answered : exec (.treeResetStation target) s = .next ((begun.forEach (List.range 8) State.stationReset).resetBegun 1 []) := by
    change execTreeResetStation target s = _
    unfold execTreeResetStation
    dsimp only
    rw [if_neg (show ¬(begun.root = false ∨ begun.mbl.resetWait.isSome = true) by
      rw [show begun.root = true from root, show begun.mbl.resetWait = none from idle]; simp),
      if_pos ((same.ownId rfl _ ⟨rfl⟩).trans own), closed]
    rfl
  obtain ⟨busy, fw, waits, kept⟩ := State.resetBegun_shows (begun.forEach (List.range 8) State.stationReset) 1 []
  have frame := begun.forEach_stationReset_frame (List.range 8)
  have stations := State.forEach_stationReset_fw (s := begun) (List.range 8) List.nodup_range still fun st mem =>
    ⟨(same.reads _ ⟨rfl⟩).trans (stations_ready ready st mem).1, (stations_ready ready st mem).2⟩
  refine .of_eq answered ⟨congrArg Firmware.stationResets (fw.trans stations), busy, waits, ?_, ?_⟩
  · refine ((kept.reads _ ⟨rfl⟩).trans (frame .mblRegs rfl F.MBL_RESET_KIND rfl)).trans ?_
    exact (State.fld_put_apart _ _ ⟨rfl⟩).trans (State.fld_put_fits _ ⟨rfl⟩)
  · refine ((kept.reads _ ⟨rfl⟩).trans (frame .mblRegs rfl F.MBL_RESET_TARGET rfl)).trans ?_
    exact State.fld_put_lt _ target.isLt

variable {q : Nat}

theorem State.resetPort_up (route : s.portFor target.toNat = some q) (up : s.flag (F.MBL_PORT_STATUS_UP q) = true) :
    s.resetPort target.toNat = some q := by
  unfold State.resetPort
  rw [route]
  exact if_pos up

/-- Where a RESET leaves, the fence is over, and it waits for its acknowledgement. -/
theorem State.sendReset_shows (s : State) (q target kind : Nat) : (s.sendReset q target kind).flag (F.MBL_PORT_STATUS_FENCED q) = false ∧
    ((s.sendReset q target kind).port q).replay.length = (s.port q).replay.length + 1 ∧ (s.sendReset q target kind).mbl.fwd = s.mbl.fwd ∧
    SameFields [F.MBL_PORT_STATUS_FENCED q, F.MBL_PORT_TX_LO_COUNT q, F.MBL_PORT_TX_HI_COUNT q, F.HIF_LINK_STATUS_PM] s
      (s.sendReset q target kind) := by
  let opened := s.put (F.MBL_PORT_STATUS_FENCED q) 0
  let p := resetPacket s target kind
  have sent : SameFields [F.MBL_PORT_TX_LO_COUNT q, F.MBL_PORT_TX_HI_COUNT q, F.HIF_LINK_STATUS_PM] opened (opened.sendOn q p) :=
    (SameFields.refl _ opened).sendOn p
  refine ⟨(sent.shows (F.MBL_PORT_STATUS_FENCED q) ⟨rfl⟩).trans (State.flag_put_zero s), opened.sendOn_replay q p,
    (congrArg Mbl.fwd (opened.sendOn_mbl q p) : (opened.sendOn q p).mbl.fwd = (opened.portSent q p).mbl.fwd), ?_⟩
  exact ((SameFields.refl _ s).put (f := F.MBL_PORT_STATUS_FENCED q) 0).sendOn p

theorem treeResetStation_sends (root : s.root = true) (idle : s.mbl.resetWait = none) (other : s.ownId target.toNat = false)
    (route : s.portFor target.toNat = some q) (up : s.flag (F.MBL_PORT_STATUS_UP q) = true) : Answers (.treeResetStation target) s (fun t =>
      t.flag F.MBL_RESET_BUSY = true ∧ t.mbl.resetWait = some (1, [q]) ∧ t.flag (F.MBL_PORT_STATUS_FENCED q) = false ∧
      (t.port q).replay.length = (s.port q).replay.length + 1) := by
  let begun := s.resetFields 1 target.toNat
  have same : SameFields [F.MBL_RESET_KIND, F.MBL_RESET_TARGET] s begun := s.resetFields_same 1 target.toNat
  have answered : exec (.treeResetStation target) s = .next ((begun.sendReset q target.toNat 1).resetBegun 1 [q]) := by
    change execTreeResetStation target s = _
    unfold execTreeResetStation
    dsimp only
    rw [if_neg (show ¬(begun.root = false ∨ begun.mbl.resetWait.isSome = true) by
      rw [show begun.root = true from root, show begun.mbl.resetWait = none from idle]; simp),
      if_neg (Bool.eq_false_iff.mp ((same.ownId rfl _ ⟨rfl⟩).trans other)),
      (same.resetPort _ ⟨rfl⟩ ⟨rfl⟩ ⟨rfl⟩).trans (State.resetPort_up route up)]
  obtain ⟨busy, _, waits, kept⟩ := State.resetBegun_shows (begun.sendReset q target.toNat 1) 1 [q]
  obtain ⟨open', replay, _, _⟩ := begun.sendReset_shows q target.toNat 1
  exact .of_eq answered ⟨busy, waits, (kept.shows _ ⟨rfl⟩).trans open', replay⟩

theorem State.endForwarded_fwd (s : State) (p : Fwd → Bool) (status : Nat) :
    (s.endForwarded p status).mbl.fwd = s.mbl.fwd.filter (fun w => !p w) := by
  unfold State.endForwarded
  extract_lets gone src cut
  refine congrArg Mbl.fwd ((?_ : Frame (allBut [.mbl]) cut _) .mbl rfl)
  exact State.forEach_frame (.refl _ cut) gone _ fun t w kept => State.finish_frame kept _ _ (within_of (by decide))

theorem treeResetDevice_sends {last : BitVec 24} (root : s.root = true) (idle : s.mbl.resetWait = none) (other : s.ownId target.toNat = false)
    (route : s.portFor target.toNat = some q) (up : s.flag (F.MBL_PORT_STATUS_UP q) = true) : Answers (.treeResetDevice target last) s (fun t =>
      t.flag F.MBL_RESET_BUSY = true ∧ t.mbl.resetWait = some (2, [q]) ∧
      t.mbl.fwd = s.mbl.fwd.filter (fun w => !(decide (target.toNat ≤ w.dest) && decide (w.dest ≤ last.toNat))) ∧
      t.fld F.MBL_RESET_KIND = 2) := by
  let begun := s.resetFields 2 target.toNat
  let sent := begun.sendReset q target.toNat 2
  let ended := sent.endForwarded (fun w => decide (target.toNat ≤ w.dest) && decide (w.dest ≤ last.toNat)) Status.resetAborted
  have same : SameFields [F.MBL_RESET_KIND, F.MBL_RESET_TARGET] s begun := s.resetFields_same 2 target.toNat
  have answered : exec (.treeResetDevice target last) s = .next (ended.resetBegun 2 [q]) := by
    change execTreeResetDevice target last s = _
    unfold execTreeResetDevice
    dsimp only
    rw [if_neg (show ¬(begun.root = false ∨ begun.mbl.resetWait.isSome = true ∨ begun.ownId target.toNat = true) by
      rw [show begun.root = true from root, show begun.mbl.resetWait = none from idle, (same.ownId rfl _ ⟨rfl⟩).trans other]; simp),
      (same.resetPort _ ⟨rfl⟩ ⟨rfl⟩ ⟨rfl⟩).trans (State.resetPort_up route up)]
  obtain ⟨busy, _, waits, kept⟩ := State.resetBegun_shows ended 2 [q]
  obtain ⟨_, _, fwd, shows⟩ := begun.sendReset_shows q target.toNat 2
  refine .of_eq answered ⟨busy, waits, ?_, ?_⟩
  · exact (State.endForwarded_fwd ..).trans (congrArg (List.filter _) fwd)
  · have stays := (State.endForwarded_frame (.refl (allBut [.mblRegs]) sent) (fun w => decide (target.toNat ≤ w.dest) && decide (w.dest ≤ last.toNat))
      Status.resetAborted (within_of (by decide))) .mblRegs rfl F.MBL_RESET_KIND rfl
    refine ((kept.reads _ ⟨rfl⟩).trans stays).trans ((shows.reads _ ⟨rfl⟩).trans ?_)
    exact (State.fld_put_apart _ _ ⟨rfl⟩).trans (State.fld_put_fits _ ⟨rfl⟩)

end

section
variable {s : State} {e : InPacket} {rest : List InPacket}

theorem State.flag_of_fld {s t : State} {f : Fld} (same : t.fld f = s.fld f) : t.flag f = s.flag f := by
  unfold State.flag
  rw [same]

theorem State.ackReset_busy (resets : s.fw.stationResets.isEmpty = false) : s.ackReset = s := by
  unfold State.ackReset
  split
  · rw [if_pos (.inr resets)]
  · rfl

theorem resetPacket_resets (below : s.root = false) (inbox : s.mbl.inbox = e :: rest) (reset : e.packet.type = Pkt.reset) (above : e.port = 0)
    (kind : e.packet.payload.getD 0 0 = 1)
    (ready : (List.range 8).all (fun st => s.fld (F.HPC_SLOT_STATUS_STATE st) == 4 && !s.fw.stationResets.contains st) = true)
    (still : s.fw.roll = none) : Answers .resetPacket s (fun t => t.fw.stationResets = s.fw.stationResets ++ List.range 8 ∧
      t.mbl.resetWait = some (1, e.copies.filter (fun q => s.openPorts.contains q)) ∧ t.mbl.inbox = rest) := by
  let taken : State := { s with mbl := { s.mbl with inbox := rest } }
  let after := taken.forEach (List.range 8) State.stationReset
  have frame := taken.forEach_stationReset_frame (List.range 8)
  have stations : after.fw = { s.fw with stationResets := s.fw.stationResets ++ List.range 8 } :=
    State.forEach_stationReset_fw (s := taken) (List.range 8) List.nodup_range still (stations_ready ready)
  have mbl : after.mbl = taken.mbl := frame .mbl rfl
  have ports : after.openPorts = s.openPorts := State.openPorts_of
    (fun q => State.flag_of_fld (frame .mblRegs rfl (F.MBL_PORT_STATUS_UP q) rfl))
    (fun q => State.flag_of_fld (frame .mblRegs rfl (F.MBL_PORT_STATUS_FENCED q) rfl))
  have answered : exec .resetPacket s = .next (State.ackReset
      { after with mbl := { after.mbl with resetWait := some (1, e.copies.filter (fun q => after.openPorts.contains q)) } }) := by
    change execResetPacket s = _
    unfold execResetPacket
    rw [if_neg (Bool.eq_false_iff.mp below), State.takeFirst_rest inbox (by simp [isType, reset])]
    dsimp only
    rw [if_neg (not_not_intro above), kind, if_neg (by decide), if_pos rfl]
  clear_value after
  rw [State.ackReset_busy (by rw [stations]; simp)] at answered
  exact .of_eq answered ⟨congrArg Firmware.stationResets stations, by rw [ports], congrArg Mbl.inbox mbl⟩

theorem treeResetAck_ends {q : Nat} (root : s.root = true) (inbox : s.mbl.inbox = e :: rest) (reset : e.packet.type = Pkt.reset) (own : e.port = q)
    (waits : s.mbl.resetWait = some (1, [q])) (idle : s.fw.stationResets = []) : Answers .treeResetAck s (fun t =>
      t.flag F.MBL_RESET_BUSY = false ∧ t.flag F.MBL_RESET_DONE = true ∧ t.mbl.resetWait = none ∧ t.mbl.inbox = rest ∧
      SameFields [F.MBL_RESET_BUSY, F.MBL_RESET_DONE] s t) := by
  let acked : State := ({ s with mbl := { s.mbl with inbox := rest } } : State).resetAcked e.port
  have left : acked.mbl.resetWait = some (1, []) := by
    change (match s.mbl.resetWait with | some w => some (w.1, w.2.filter (fun x => x != e.port)) | none => none) = _
    rw [waits]
    simp [own]
  have answered : exec .treeResetAck s = .next acked.resetOver := by
    change execTreeResetAck s = _
    unfold execTreeResetAck
    rw [if_neg (by simp [root]), State.takeFirst_rest inbox (by simp [isType, reset])]
    dsimp only
    rw [show (({ s with mbl := { s.mbl with inbox := rest } } : State).resetAcked e.port).mbl.resetWait = some (1, []) from left]
    dsimp only
    rw [if_neg (by decide), if_pos ⟨rfl, by change s.fw.stationResets.isEmpty = true; rw [idle]; rfl⟩]
  refine .of_eq answered ⟨?_, ?_, rfl, rfl, ?_⟩
  · exact (State.flag_of_regs (s := (acked.put F.MBL_RESET_BUSY 0).put F.MBL_RESET_DONE 1) rfl _).trans
      ((State.flag_put_apart _ _ ⟨rfl⟩).trans (State.flag_put_zero acked))
  · exact (State.flag_of_regs (s := (acked.put F.MBL_RESET_BUSY 0).put F.MBL_RESET_DONE 1) rfl _).trans (State.flag_put_one _ (by decide))
  · exact (((SameFields.refl _ s).put (f := F.MBL_RESET_BUSY) 0).put (f := F.MBL_RESET_DONE) 1).of_regs rfl

end

/-- Settles O53. -/
theorem barriersSnapshotsAndTreeResetsComplete : Obligations.BarriersSnapshotsAndTreeResetsComplete := by
  unfold Obligations.BarriersSnapshotsAndTreeResetsComplete
  intro s
  refine ⟨?_, ?_, ?_, ?_, ?_, ?_, ?_, ?_, ?_, ?_, ?_, ?_, ?_⟩
  · exact fun e rest inbox kind below unarmed leaf none quiet => barrier_acknowledges inbox kind below unarmed leaf none quiet
  · exact fun e rest inbox kind below unarmed children none => barrier_waits inbox kind below unarmed children none
  · exact fun e rest bar inbox kind only own others => barrierAck_waits inbox kind only own others
  · exact fun e rest bar inbox kind only own last below quiet => barrierAck_passesOn inbox kind only own last below quiet
  · exact fun h c known may idle root later => snapshot_arms known may idle root later
  · exact fun e rest inbox kind arm below later => snapArm_arms inbox kind arm below later
  · exact fun e rest inbox kind record root busy => snapArm_gathers inbox kind record root busy
  · exact fun below armed due => snapshotLatch_sendsUp below armed due
  · exact fun target root idle own leaf ready still => treeResetStation_own root idle own leaf ready still
  · exact fun target q root idle other route up => treeResetStation_sends root idle other route up
  · exact fun target last q root idle other route up => treeResetDevice_sends root idle other route up
  · exact fun e rest below inbox reset above kind ready still => resetPacket_resets below inbox reset above kind ready still
  · exact fun e rest q root inbox reset own waits idle => treeResetAck_ends root inbox reset own waits idle

end Sys2Proof.Machine
end

section
/-!
PROOFS. GET_LOG (R371). The first memory write after an idle link is preceded by the LTR message of the active latency; the statement names
only the writes of the log's bytes.
-/
set_option Elab.async false
namespace Sys2Proof.Machine

/-- A GET_LOG of the first four bytes of the memory error log, into a buffer of four bytes. -/
def fourBytesOfMemoryLog : Cmd :=
  { id := { op := Op.getLog, body := [4, 0, 0, 0, 0, 0, 0, 0, 4, 0, 0, 0] }, phase := .started, data := { src := [⟨4096, 4, 0⟩] } }

/-- The command waits, function 0 is ready, and the host has been told the idle latency. -/
def logAskedOnIdleLink : State :=
  { State.reset.put (F.HIF_FUNC_STATUS_READY 0) 1 with
    rings := { cmds := [(1, some fourBytesOfMemoryLog)] }, pcie := { idleLtr := true } }

/-- How many things have been sent in the next state. -/
def sentCountAfter : Res → Option Nat
  | .next t => some t.sent.length
  | _ => none

/-- An LTR message and one write leave. -/
theorem logAskedOnIdleLink_sends : sentCountAfter (exec (.getLog 1) logAskedOnIdleLink) = some 2 := by decide +kernel

/-- The bytes asked for go out in one write. -/
theorem logAskedOnIdleLink_writes :
    (logAskedOnIdleLink.sent ++ logAskedOnIdleLink.bufferWrites 0 [⟨4096, 4, 0⟩] 0 ((logAskedOnIdleLink.memoryLog.drop 0).take 4) false).length = 1 := by
  decide +kernel

/-- Refutes O54: where the link has been idle, a GET_LOG of four bytes sends an LTR message before the one write that the statement allows. -/
theorem not_recordsAndLogsAnswer : ¬ Obligations.RecordsAndLogsAnswer := by
  unfold Obligations.RecordsAndLogsAnswer
  intro holds
  obtain ⟨_, _, answers, _⟩ := holds logAskedOnIdleLink
  obtain ⟨t, answered, _, _, _, onlyWrites, _⟩ :=
    answers 1 fourBytesOfMemoryLog logAskedOnIdleLink.memoryLog rfl rfl (by decide +kernel) rfl rfl (by decide) rfl (by decide +kernel)
  have sends := logAskedOnIdleLink_sends
  rw [answered] at sends
  have two : t.sent.length = 2 := Option.some.inj sends
  rw [onlyWrites] at two
  exact absurd (logAskedOnIdleLink_writes.symm.trans two) (by decide)

end Sys2Proof.Machine
end
